-- ==== Sys2Proof/Word.lean ====
section
/-! DEFINITION. The words of the VPM-4: octets, 32-bit registers (R8), 64-bit core registers (R105), and the
plainest arithmetic on saturating counters. -/

namespace Sys2Proof

/-- An octet of memory or of a frame. -/
abbrev Byte := BitVec 8

/-- A register of a block (R8). -/
abbrev Reg32 := BitVec 32

/-- A core register (R105). -/
abbrev Reg64 := BitVec 64

/-- A counter that stops at `top`. -/
def satAdd (top a b : Nat) : Nat := min top (a + b)

/-- One more on a counter that saturates at 65,535. -/
def inc16 (a : Nat) : Nat := satAdd 0xFFFF a 1

/-- One more on a counter that saturates at 4,294,967,295. -/
def inc32 (a : Nat) : Nat := satAdd 0xFFFFFFFF a 1

/-- One more on a counter that saturates at 255. -/
def inc8 (a : Nat) : Nat := satAdd 0xFF a 1

/-- `v` with bit `n` set to `b`. -/
def putBit {w : Nat} (v : BitVec w) (n : Nat) (b : Bool) : BitVec w :=
  if b then v ||| (BitVec.ofNat w (2 ^ n)) else v &&& ~~~(BitVec.ofNat w (2 ^ n))

/-- A Bool as a number. -/
def b2n (b : Bool) : Nat := if b then 1 else 0

/-- The field of `width` bits of `v` from bit `lo` up. -/
def field (v lo width : Nat) : Nat := (v / 2 ^ lo) % 2 ^ width

end Sys2Proof
end

