-- ==== Sys2Proof/Syntax.lean ====
section
/-! DEFINITION. The commands of the module, one constructor for each row of spec/opcode_table.json, with the
operands each one carries, and the types of those operands. A command that the passage of time brings about carries
`dt`, the FRC counts (R211, 2 ns each) that have passed since the command before it (log 2). -/

namespace Sys2Proof

/-- A beat of 208 bits (R45). -/
structure Beat where
  data : BitVec 128 := 0
  be : BitVec 16 := 0
  addr : BitVec 40 := 0
  attr : BitVec 24 := 0
deriving DecidableEq, Repr

/-- What a lane port shows the voter in one aligned clock (R46, R47). -/
inductive LaneInput where
  /-- A beat; an idle clock is a beat of zeros. -/
  | beat (b : Beat)
  /-- The lane signals LOCKSTEP_MISMATCH, with LKS_MMINFO's CLASS and GROUPS. -/
  | mismatch (cls : BitVec 4) (groups : BitVec 13)
  /-- The lane signals LANE_MEM_UE at an address. -/
  | memUe (addr : BitVec 40)
deriving DecidableEq, Repr

/-- The outcome of a lane's self-tests (R59, R452 step 6). -/
inductive LaneTest where
  | pass | lbistP | lbistS | mbist | core
deriving DecidableEq, Repr

/-- A failed comparator injection check (VRC_INJSTAT): FAILKIND, FAILPAIR and FAILGRP. -/
structure InjFail where
  kind : Fin 5
  pair : Fin 6
  group : Fin 13
deriving DecidableEq, Repr

/-- How a bisque step ended (R80, R81). -/
inductive StepEnd where
  | pass
  | injection (f : InjFail)
  /-- LBIST: the failing core is S, not P. -/
  | lbist (shadow : Bool)
  | failed
  | march (addr : BitVec 40)
deriving DecidableEq, Repr

/-- A vote on the page CRCs of the ACTIVE lanes (R89). -/
inductive PageVote where
  | agree
  | minority (lane : Fin 4) (page : Nat)
  | none (page : Nat)
deriving DecidableEq, Repr

/-- Who reads or writes the dictionary (R384, R386): a GDP session, a CANopen FD channel, a Xenex node. -/
inductive Session where
  | gdp (n : Fin 4)
  | can (ch : Fin 2)
  | node (addr : BitVec 6)
deriving DecidableEq, Repr

/-- A processor section of step 7 of R452. -/
inductive LoadTarget where
  | bank (b : Fin 3)
  | xenex
  | switch
deriving DecidableEq, Repr

/-- How far a write of the recorder got before its power went (R419, R420). -/
inductive WriteCut where
  /-- The write is complete. -/
  | complete
  /-- Cut in phase 1 of a record, or in the slot write of a rewrite; the octets then in the slot. -/
  | slotTorn (left : List (BitVec 8))
  /-- Cut after phase 1: phase 2 is lost; for a rewrite, cut in the shadow write. -/
  | secondLost
deriving DecidableEq, Repr

/-- OPR operations (R114). -/
inductive AluOp where
  | add | sub | and | or | xor | andn | orn | xnor | sll | srl | sra | ror | slt | sltu | min | max | minu | maxu
  | czeq | czne
deriving DecidableEq, Repr

/-- OPRW operations (R114). -/
inductive AluwOp where
  | addw | subw | sllw | srlw | sraw | rorw
deriving DecidableEq, Repr

/-- Multiplications of MULDIV (R114). -/
inductive MulOp where
  | mul | mulh | mulhu | mulhsu | mulw
deriving DecidableEq, Repr

/-- Divisions of MULDIV (R114, R116). -/
inductive DivOp where
  | div | divu | rem | remu | divw | divuw | remw | remuw
deriving DecidableEq, Repr

/-- BITOP operations (R114). -/
inductive BitOp where
  | clz | ctz | popc | bswap | sextb | sexth | sextw | zextb | zexth | zextw | extu | exts
deriving DecidableEq, Repr

/-- Immediate operations of the I format (R115). -/
inductive ImmOp where
  | addi | addiw | andi | ori | xori | slti | sltiu
deriving DecidableEq, Repr

/-- Kinds of SHI (R115). -/
inductive ShiftOp where
  | slli | srli | srai | rori
deriving DecidableEq, Repr

/-- Loads of the M format (R115). -/
inductive LoadOp where
  | ldb | ldbu | ldh | ldhu | ldw | ldwu | ldd | ldp | flw | fld
deriving DecidableEq, Repr

/-- Stores of the M format (R115). -/
inductive StoreOp where
  | stb | sth | stw | std | stp | fsw | fsd
deriving DecidableEq, Repr

/-- FPOP operations (R114). -/
inductive FpOp where
  | fadd | fsub | fmul | fdiv | fsqrt | fmin | fmax | fneg | fabs | fcpys | feq | flt | fle | fclass
  | fcvtL | fcvtLu | fcvtW | fcvtWu | fcvtfL | fcvtfLu | fcvtfW | fcvtfWu | fcvtp | fmvxf | fmvfx
deriving DecidableEq, Repr

/-- Operations of FMA (R115). -/
inductive FmaOp where
  | fmadd | fmsub | fnmadd | fnmsub
deriving DecidableEq, Repr

/-- Conditions of the B format (R115). -/
inductive Cond where
  | eq | ne | lt | ge | ltu | geu
deriving DecidableEq, Repr

/-- Cache invalidations (R114, R122). -/
inductive CacheOp where
  | icinv | dcinv | icinva | dcinva
deriving DecidableEq, Repr

/-- What a bank receives at a sync pulse (R232). -/
inductive PulseRx where
  | good | badCrc | missing
deriving DecidableEq, Repr

/-- The payload of a CYCLE_START (R280). -/
structure CycleStart where
  mcycle : BitVec 64
  ns : BitVec 32
  sec : BitVec 48
  tflags : BitVec 8
  epoch : BitVec 8
  schedCrc : BitVec 32
deriving DecidableEq, Repr

/-- An acyclic message (R300). -/
structure AcycMsg where
  cmd : BitVec 8
  tag : BitVec 8
  route : BitVec 8
  seg : BitVec 8
  index : BitVec 16
  sub : BitVec 8
  value : BitVec 32
  data : List (BitVec 8)
deriving DecidableEq, Repr

/-- A twin link frame as far as every type shares it: did its CRC-32C hold, and its TICK (R314). -/
structure TwinHead where
  crcOk : Bool
  tick : BitVec 16
deriving DecidableEq, Repr

/-- The payload of a HEARTBEAT (R315). -/
structure TwinBeat where
  role : BitVec 8
  state : BitVec 8
  mode : BitVec 8
  pos : BitVec 8
  tick : BitVec 32
  craze : BitVec 16
  olc : BitVec 8
  sent : BitVec 32
deriving DecidableEq, Repr

/-- A heartbeat on one of the two paths: a link frame, or a pulse of 0.5-2 µs (R317). -/
inductive BeatRx where
  | link (head : TwinHead) (beat : TwinBeat)
  | pulse
deriving DecidableEq, Repr

/-- A fault on one of the two paths: a FAULT frame with the cause event code and the new module state, or a pulse of
5-20 µs (R314, R317). -/
inductive FaultRx where
  | link (head : TwinHead) (cause : BitVec 16) (state : BitVec 8)
  | pulse
deriving DecidableEq, Repr

/-- The paths from the peer (R312). -/
inductive TwinWay where
  | link | pulse
deriving DecidableEq, Repr

/-- The payload of a TIME frame (R314). -/
structure TimeFrame where
  sec : BitVec 48
  ns : BitVec 32
  flags : BitVec 32
  rate : BitVec 32
  steps : BitVec 96
  eb : BitVec 32
deriving DecidableEq, Repr

/-- An entry of the forward stream of an integration (R326). -/
structure TwinFwd where
  addr : BitVec 40
  be : BitVec 16
  kind : BitVec 8
  data : BitVec 128
deriving DecidableEq, Repr

/-- What the INTEG_START exchange compares (R325): image CRC, SCHEDCRC, SAFETY CRC, and whether the peer meets R323. -/
structure IntegInfo where
  image : BitVec 32
  sched : BitVec 32
  safety : BitVec 32
deriving DecidableEq, Repr

/-- The state record (R91): the core state of 2,048 octets laid out under R111; enables, pending bits and priorities
of the 384 sources with level and stack; control and expiry of the lane timers; counters, selections, enables and
dump configuration of LPC; cache control and lock words. -/
structure StateRec where
  core : List (BitVec 8)
  pend : BitVec 384
  en : BitVec 384
  prio : BitVec 1536
  level : Nat
  stack : List Nat
  timers : List (BitVec 32 × BitVec 32 × Nat)
  counts : List (BitVec 48 × BitVec 10)
  lpc : BitVec 1 × BitVec 16 × BitVec 16 × BitVec 16
  dump : BitVec 32 × BitVec 32 × Nat
deriving DecidableEq, Repr

/-- A GDP request as far as every OP shares it (R352): the port it came in on, whether it lies in the module's own
VID, SESSION and SEQ. -/
structure GdpHead where
  port : Fin 4
  ownVid : Bool
  session : BitVec 16
  seq : BitVec 32
deriving DecidableEq, Repr

/-- A block of a DOMAIN transfer (R455). -/
structure BlockIn where
  offset : BitVec 32
  last : Bool
  data : List (BitVec 8)
deriving DecidableEq, Repr

/-- A read or a write of an entry over a path other than GDP (R390). -/
inductive DictOp where
  | read (index : BitVec 16) (sub : BitVec 8)
  | write (index : BitVec 16) (sub : BitVec 8) (data : List (BitVec 8))
  | unknown
deriving DecidableEq, Repr

/-- An Ethernet frame as the backbone switch meets it (R338): octets from the destination MAC to the end of the
payload, tags included, FCS left out. -/
structure EthFrame where
  octets : List (BitVec 8)
  fcsOk : Bool
deriving DecidableEq, Repr

/-- A frame of the consist pair (R349): with a redundancy control trailer (sequence number, LAN identifier), or none. -/
structure PrpFrame where
  octets : List (BitVec 8)
  trailer : Option (BitVec 16 × BitVec 4)
deriving DecidableEq, Repr

/-- NMT commands of CiA 301 (R356). -/
inductive NmtCmd where
  | start | stop | preOperational | resetNode | resetComm
deriving DecidableEq, Repr

/-- A debugger access to the registers of 0x2011 and 0x2013 (R404, R405). -/
inductive DebugReg where
  | general (n : Fin 64)
  | word (n : Fin 128)
deriving DecidableEq, Repr

/-- Far-side status codes of R368. -/
inductive FarStatus where
  | timeout | refused | domainLost | interconnect
deriving DecidableEq, Repr

/-- The words of a bridge region (R366). -/
inductive RegionWord where
  | base | lim | attr
deriving DecidableEq, Repr

/-- Forwarded interrupt outputs (R378). -/
inductive FarBlock where
  | klm | cpn | cfd | dbg
deriving DecidableEq, Repr


/-- What an Announce carries (R223): the sender, its domain, and the data set the algorithm compares. -/
structure PtpAnnounce where
  src : BitVec 64
  domain : BitVec 8
  p1 : BitVec 8
  cls : BitVec 8
  acc : BitVec 8
  var : BitVec 16
  p2 : BitVec 8
  gm : BitVec 64
  steps : BitVec 16
  /-- ptpTimescale. -/
  tai : Bool
deriving DecidableEq, Repr

/-- PTP frames as the transparent clock tells them apart (R226). -/
inductive PtpKind where
  | sync | followUp | delay | pdelay | general
deriving DecidableEq, Repr

/-- The commands of the opcode table, one constructor a row (spec/opcode_table.json). -/
inductive Instr where
  /-- POWER_ON_RESET_RELEASE (R485): Power-on reset is released once the supply has been in range for 10 ms and MATE closed for 100 ms; the module leaves COLD and the boot ROM starts on the ember with the start window open. -/
  | powerOnResetRelease (twpos : Bool)
  /-- START_WINDOW_END (R199): After 10 ms the start window closes and the TCXO is judged; the root locks to it, or CLK_NOREF is recorded and the root coasts from the ember. -/
  | startWindowEnd (dt : Nat) (tcxo : Bool) (edges ember : BitVec 32)
  /-- BOOT_BANK_CHOICE (R449): The boot ROM tries NEXT, PREV and Golden, checks each under R448, updates trial states and boots the first that passes, or enters ROM service. -/
  | bootBankChoice (retained : Bool)
  /-- KILN_FIRMWARE_START (R452): Kiln firmware starts, reads parameters, compares the parameter format, switches on domains and sets clock enables. -/
  | kilnFirmwareStart (lost : List (Nat × Nat))
  /-- LANE_STARTUP_TESTS_DONE (R452): LBIST, core routine, MBIST and DRAM zero-fill end in every usable lane; failing lanes are retired or quarantined. -/
  | laneStartupTestsDone (r0 r1 r2 r3 : LaneTest)
  /-- PROCESSOR_SECTION_LOADED (R454): A bank controller, Xenex controller or switch microcode section is loaded and its CRC read back; a mismatch reloads once, a second mismatch disables the target. -/
  | processorSectionLoaded (target : LoadTarget) (crcOk : Bool)
  /-- STARTUP_INJECTION_SET (R62): The VRC runs the 450-check start-up injection set; a failure sends the module to SERVICE. -/
  | startupInjectionSet (fail : Option InjFail)
  /-- LANE_IMAGE_LOADED (R452): Lane executive and stored application are broadcast into the lanes, the page map marked and each lane's CRC compared; matching lanes become WEDGED. -/
  | laneImageLoaded (crcOk : BitVec 4)
  /-- SAFETY_SET_CHECK (R394): Released lanes check every SAFETY parameter against range and combination rules; a failure sends the module to SERVICE. -/
  | safetySetCheck
  /-- FIRING_END (R23): At the first cycle boundary after the start sequence the module enters RUN-2oo3, RUN-2oo2, WIDE or SERVICE, lanes are made ACTIVE and channels become SAFE. -/
  | firingEnd (dt : Nat)
  /-- TRIAL_TIMEOUT (R450): A TRIAL bank whose FIRING has not ended within 5 s is made BAD and a Kiln watchdog reset follows. -/
  | trialTimeout
  /-- FW_CONFIRMED (R453): 60 s of operating time after FIRING without a reset make a TRIAL bank GOOD. -/
  | fwConfirmed (dt : Nat)
  /-- STATE_CMD_ENTER_MAINTENANCE (R29): Command 1 of 0x2000 is accepted and takes effect at the next cycle boundary. -/
  | stateCmdEnterMaintenance (by_ : Session)
  /-- MAINTENANCE_AT_BOUNDARY (R23): At the next cycle boundary after command 1 the outputs go to safe states and the module enters MAINTENANCE. -/
  | maintenanceAtBoundary (dt : Nat)
  /-- STATE_CMD_LEAVE_MAINTENANCE (R29): Command 2 of 0x2000 makes a commanded module reset into FIRING. -/
  | stateCmdLeaveMaintenance (by_ : Session)
  /-- STATE_CMD_ENTER_BANKED (R467): Command 3 of 0x2000 takes the module to BANKED: safe states, sequencer stopped, ports fenced, domains switched off in order. -/
  | stateCmdEnterBanked (by_ : Session)
  /-- BANKED_POWER_STATE_REACHED (R467): Ports 0/1 finish renegotiating to 100BASE-TX and the Banked power state is reached; held wake events are acted on. -/
  | bankedPowerStateReached (dt : Nat)
  /-- STATE_CMD_MODULE_RESET (R29): Command 4 of 0x2000 makes a commanded module reset from SERVICE or SAFE-HOLD. -/
  | stateCmdModuleReset (by_ : Session)
  /-- WARM_RESTART (R474): Command 1 of 0x2B00 restarts the module from step 3 of the start, keeping GDP sessions when the retained area is good. -/
  | warmRestart (by_ : Session)
  /-- KILN_WATCHDOG_RESET (R472): The Kiln fails to serve its 100 ms watchdog and a module reset of the watchdog kind follows. -/
  | kilnWatchdogReset
  /-- POWER_FAIL_WARNING (R469): The input below 14.4 V for 20 µs warns the Kiln and recorder; OPTIME is saved and the FIFO flushed. -/
  | powerFailWarning (volt : BitVec 16)
  /-- POWER_FAIL (R469): 10 ms after the warning the module enters SAFE-HOLD with cause 0x0061 and switches domains off. -/
  | powerFail (dt : Nat) (volt : BitVec 16)
  /-- SUPPLY_RETURN (R469): The supply returns above 14.4 V for 1 ms: before the power-fail point a dip is recorded, after it a brown-out reset follows, in BANKED a wake. -/
  | supplyReturn (us : BitVec 32) (volt : BitVec 16)
  /-- HOLDUP_EXHAUSTED (R469): The hold-up store runs out; PD10 and PD6 are switched off and power-on reset is held: COLD. -/
  | holdupExhausted
  /-- BROWN_OUT_RESET (R471): A brown-out reset takes the module to COLD and is released into FIRING after 10 ms of good supply. -/
  | brownOutReset (railTrip : Bool)
  /-- DOMAIN_FAULT (R465): A domain rail outside ±8 % for 2 µs is switched off, with the consequence for that domain. -/
  | domainFault (domain : Fin 12) (mv : BitVec 32)
  /-- BANKED_WAKE (R468): A wake frame, a field-supply change or a bridged supply return ends BANKED in a Banked wake reset. -/
  | bankedWake (cause : Fin 4) (source : Nat)
  /-- MODULE_WITHDRAWN (R484): MATE open for 20 µs takes the module to SAFE-HOLD with cause 0x0067 and switches domains off 0.5 ms later. -/
  | moduleWithdrawn
  /-- TEMP_MEASUREMENT (R497): Every 100 ms the board temperature is measured; warning and trip thresholds are applied. -/
  | tempMeasurement (temp : BitVec 16)
  /-- LANE_BEAT (R48): The beats of one aligned clock reach the comparators and the voter forwards, excludes a minority, or finds no majority. -/
  | laneBeat (i0 i1 i2 i3 : LaneInput)
  /-- LOCKSTEP_MISMATCH (R38): The lockstep comparator finds the two copies differ; the lane falls silent and is treated as disagreeing. -/
  | lockstepMismatch (lane : Fin 4) (cls : BitVec 4) (groups : BitVec 13)
  /-- LANE_MEM_UE (R40): An uncorrectable lane memory error makes the lane fall silent, or halts the lane in WIDE. -/
  | laneMemUe (lane : Fin 4) (addr : BitVec 40)
  /-- FABRIC_RESPONSE (R44): Read data or an interrupt from a voted target is replicated to each ACTIVE lane at its stagger. -/
  | fabricResponse (irq : Option (BitVec 9))
  /-- QUARANTINE_TESTS_DONE (R59): Lane reset, LBIST and MBIST of a quarantined lane end; it becomes SPARE or RETIRED. -/
  | quarantineTestsDone (lane : Fin 4) (result : LaneTest)
  /-- LANE_1OO1_SELECT (R75): A write of lane n to 0x2100 subindex 5 in SERVICE releases that lane alone in 1oo1. -/
  | lane1oo1Select (by_ : Session) (lane : Fin 4)
  /-- LANE_1OO1_RELEASE (R56): A write of 0xFF to 0x2100 subindex 5 holds the 1oo1 lane in reset and voting returns to None. -/
  | lane1oo1Release (by_ : Session)
  /-- WIDE_MODE_WRITE (R65): A write of 0x2100 subindex 3 chooses wide mode for the next FIRING, once between resets. -/
  | wideModeWrite (by_ : Session) (on : Bool)
  /-- ROTATION_TIMER_EXPIRY (R77): The rotation timer reaches 0 and a swap becomes pending. -/
  | rotationTimerExpiry (dt : Nat)
  /-- BISQUE_OVERDUE (R79): A lane ACTIVE for more than 1,000 h without a passed bisque is recorded. -/
  | bisqueOverdue (lane : Fin 4)
  /-- QUIET_GAP_START (R153): At the start of a quiet gap the sequencer announces its length and reserves, and the VRC decides whether a rewedge fits. -/
  | quietGapStart (dt : Nat)
  /-- REWEDGE (R93): After the mirror drain the voted state record is loaded into the joining lane, CRC compared, caches invalidated and AREF updated. -/
  | rewedge (dt : Nat) (crcOk : Bool)
  /-- BISQUE_SWAP (R96): At the boundary ending a swap gap the joining lane takes the outgoing lane's gate set and the outgoing lane enters BISQUE. -/
  | bisqueSwap (dt : Nat)
  /-- SUBSTITUTED (R98): At the boundary ending a substitution gap the spare joins on the excluded lane's gate set and 2oo3 resumes. -/
  | substituted (dt : Nat)
  /-- BISQUE_STEP_COMPLETE (R80): A bisque step ends and its result decides the next step or the lane's next state. -/
  | bisqueStepComplete (dt : Nat) (result : StepEnd)
  /-- BISQUE_STEP_OVERRUN (R80): A bisque step overruns its limit and counts as failed. -/
  | bisqueStepOverrun (dt : Nat)
  /-- WEDGING_START (R82): The first waiting SPARE lane starts wedging; from QUARANTINE it is zero-filled first. -/
  | wedgingStart
  /-- ZERO_FILL_DONE (R82): The 270 ms zero-fill of a lane from QUARANTINE ends and the catch-up copy begins. -/
  | zeroFillDone (dt : Nat)
  /-- CATCH_UP_COPY_DONE (R88): The catch-up copy passes every marked page and the checksum round begins. -/
  | catchUpCopyDone (dt : Nat) (vote : PageVote)
  /-- CHECKSUM_ROUND_DONE (R89): The checksum round completes; differing pages are recopied or wedging aborts, or the lane becomes WEDGED. -/
  | checksumRoundDone (dt : Nat) (vote : PageVote) (differ : List Nat)
  /-- MIRROR_ENTRY (R83): A private memory write of the ACTIVE lanes is voted in the mirror voter and written to the spare through the mirror FIFO. -/
  | mirrorEntry
  /-- MIRROR_HOLD_RELEASE (R85): The mirror FIFO drains to 2,048 entries and the hold is released. -/
  | mirrorHoldRelease (dt : Nat)
  /-- OPR_ALU (R114): An OPR register-register integer operation writes its result to xd. -/
  | oprAlu (core : Fin 8) (op : AluOp) (d a b : Fin 32)
  /-- OPRW_WORD_OP (R114): An OPRW 32-bit operation writes its sign-extended result. -/
  | oprwWordOp (core : Fin 8) (op : AluwOp) (d a b : Fin 32)
  /-- MULTIPLY (R114): MUL, MULH, MULHU, MULHSU or MULW writes a product. -/
  | multiply (core : Fin 8) (op : MulOp) (d a b : Fin 32)
  /-- DIVIDE (R116): DIV, DIVU, REM, REMU or their W forms write a defined quotient or remainder, or trap on zero with DZT = 1. -/
  | divide (core : Fin 8) (op : DivOp) (d a b : Fin 32)
  /-- BITOP (R114): A BITOP count, byte swap, extension or field extraction writes xd. -/
  | bitop (core : Fin 8) (op : BitOp) (d a b : Fin 32)
  /-- ALU_IMMEDIATE (R115): ADDI, ADDIW, ANDI, ORI, XORI, SLTI or SLTIU writes xd. -/
  | aluImmediate (core : Fin 8) (op : ImmOp) (d a : Fin 32) (imm : BitVec 16)
  /-- SHIFT_IMMEDIATE (R115): SHI shifts or rotates xa by shamt. -/
  | shiftImmediate (core : Fin 8) (op : ShiftOp) (word : Bool) (d a : Fin 32) (shamt : BitVec 6)
  /-- LUI (R115): LUI loads a shifted immediate. -/
  | lui (core : Fin 8) (d : Fin 32) (imm : BitVec 16)
  /-- INSH (R115): INSH inserts a 16-bit immediate into halfword k of xd. -/
  | insh (core : Fin 8) (d : Fin 32) (k : Fin 4) (imm : BitVec 16)
  /-- LAPC (R115): LAPC writes a PC-relative address. -/
  | lapc (core : Fin 8) (d : Fin 32) (imm : BitVec 16)
  /-- LOAD (R118): An integer or floating-point load, including LDP, reads aligned memory, a voted register or the service window. -/
  | load (core : Fin 8) (op : LoadOp) (d a : Fin 32) (disp : BitVec 16)
  /-- STORE (R123): An integer or floating-point store, including STP, goes to the store buffer, the combining buffer or a single voted beat. -/
  | store (core : Fin 8) (op : StoreOp) (d a : Fin 32) (disp : BitVec 16)
  /-- LDX (R128): LDX loads and sets a reservation on the 16-byte granule. -/
  | ldx (core : Fin 8) (dbl : Bool) (d a : Fin 32)
  /-- STX (R128): STX stores only if the reservation holds, returns the result and clears the reservation. -/
  | stx (core : Fin 8) (dbl : Bool) (d a b : Fin 32)
  /-- FP_OPERATION (R117): An FPOP arithmetic, compare, class, conversion or move operation sets its result and sticky flags. -/
  | fpOperation (core : Fin 8) (op : FpOp) (dbl : Bool) (d a b : Fin 32)
  /-- FMA (R115): A fused multiply-add with one rounding. -/
  | fma (core : Fin 8) (op : FmaOp) (dbl : Bool) (d a b c : Fin 32)
  /-- BRANCH (R115): A B-format conditional branch compares xd and xa and may branch. -/
  | branch (core : Fin 8) (cond : Cond) (d a : Fin 32) (off : BitVec 16)
  /-- J_JL (R115): J or JL jumps PC-relative, JL writing x1. -/
  | jJl (core : Fin 8) (link : Bool) (off : BitVec 26)
  /-- JLR (R119): JLR jumps to a register target, faulting on a misaligned target. -/
  | jlr (core : Fin 8) (d a : Fin 32) (imm : BitVec 16)
  /-- CWR (R110): CWR reads a control word. -/
  | cwr (core : Fin 8) (d : Fin 32) (n : BitVec 16)
  /-- CWW (R110): CWW writes a control word. -/
  | cww (core : Fin 8) (a : Fin 32) (n : BitVec 16)
  /-- CWS (R115): CWS sets bits of a control word and returns its old value. -/
  | cws (core : Fin 8) (d a : Fin 32) (n : BitVec 16)
  /-- CWC (R115): CWC clears bits of a control word and returns its old value. -/
  | cwc (core : Fin 8) (d a : Fin 32) (n : BitVec 16)
  /-- FENCE (R127): FENCE drains the store buffer, sends the combining buffer, issues a barrier beat and waits for its response. -/
  | fence (core : Fin 8)
  /-- FENCE_I (R127): FENCE.I discards fetched instructions and refetches. -/
  | fenceI (core : Fin 8)
  /-- ERET (R132): ERET restores PC from CW_EPC and CW_STATUS from CW_ESTATUS. -/
  | eret (core : Fin 8)
  /-- WFI (R133): WFI waits until a source would qualify, then continues. -/
  | wfi (core : Fin 8)
  /-- BREAK (R130): BREAK raises cause 13. -/
  | breakInstr (core : Fin 8)
  /-- CACHE_INVALIDATE (R122): ICINV, DCINV, ICINVA or DCINVA invalidates unlocked cache lines or ways. -/
  | cacheInvalidate (core : Fin 8) (op : CacheOp) (a : Fin 32)
  /-- SYSCALL (R115): SYSCALL raises cause 12 with its immediate as ARG. -/
  | syscall (core : Fin 8) (imm : BitVec 16)
  /-- IMPRECISE_BUSERR (R131): A bus error response to a combined burst is taken at the next instruction boundary as cause 11. -/
  | impreciseBuserr (core : Fin 8) (addr : BitVec 40)
  /-- COMBINING_BUFFER_TIMEOUT (R124): 16 core clocks without a store into the block send the combining buffer as a burst. -/
  | combiningBufferTimeout (core : Fin 8)
  /-- INTERRUPT_SOURCE_ASSERT (R133): An interrupt source asserts and the LIC latches its pending bit. -/
  | interruptSourceAssert (core : Fin 8) (src : Fin 384)
  /-- INTERRUPT_ENTRY (R134): The core takes the winning source: entry, claim, level push and, for 32–319, an acknowledge beat. -/
  | interruptEntry (core : Fin 8)
  /-- LIC_EOI_WRITE (R135): A write to LIC_EOI pops the level of the last claim. -/
  | licEoiWrite (core : Fin 8) (value : BitVec 32)
  /-- LIC_SWSET_WRITE (R133): A write to LIC_SWSET sets a software source pending. -/
  | licSwsetWrite (core : Fin 8) (value : BitVec 32)
  /-- REGISTER_WRITE (R9): A write to a register with no behaviour of its own, applied under its access code, including W1C and RW fields. -/
  | registerWrite (core : Fin 8) (addr : BitVec 40) (value : BitVec 32)
  /-- TICK (R146): At a tick that releases tasks the gap ends and the released tasks are latched in ascending order. -/
  | tick (dt : Nat)
  /-- LATCH_END (R146): A task's latch ends, TASK_RELEASE is raised and held commits may start. -/
  | latchEnd (dt : Nat)
  /-- GAP_WARN (R145): 4 µs before a gap GAP_WARN is raised and the executive saves context, fences, writes CYS_QUIET and waits. -/
  | gapWarn (dt : Nat)
  /-- GAP_START (R152): A gap starts; it is quiet or GAP_NOACK is recorded and its reserved work moves to the next gap. -/
  | gapStart (dt : Nat)
  /-- CYS_QUIET_WRITE (R152): A CYS_QUIET write between GAP_WARN and the gap acknowledges quiescence. -/
  | cysQuietWrite (core : Fin 8) (value : BitVec 32)
  /-- CYS_DONE_WRITE (R149): A done write ends a cycle: commit starts, is held, queued, or the cycle closes without commit. -/
  | cysDoneWrite (core : Fin 8) (value : BitVec 32)
  /-- COMMIT_END (R149): A commit ends after K_n µs and posting of glaze entries begins or the cycle closes. -/
  | commitEnd (dt : Nat)
  /-- POSTING_END (R150): Posting of the glaze entries ends and the cycle closes. -/
  | postingEnd (dt : Nat)
  /-- CONE_OVERRUN (R156): A task in RUN reaches its deadline; the next release is skipped. -/
  | coneOverrun (dt : Nat) (task : Fin 8)
  /-- CONE_STALL (R156): The deadline of a skipped cycle passes; the stall reaction stops the task or drops its context. -/
  | coneStall (dt : Nat) (task : Fin 8)
  /-- TASK_RETURN (R172): A task returns its glaze count and the executive writes CYS_DONE, or records TASK_BADRETURN. -/
  | taskReturn
  /-- SYSCALL_EVENT (R173): SYSCALL EVENT submits an application event to the recorder. -/
  | syscallEvent
  /-- SYSCALL_NETTIME (R173): SYSCALL NETTIME returns network time and flags. -/
  | syscallNettime
  /-- SYSCALL_NOCOMMIT (R173): SYSCALL NOCOMMIT ends the cycle without commit or overrun. -/
  | syscallNocommit
  /-- SYSCALL_FAULTCLR (R173): SYSCALL FAULTCLR writes FBx_FLTCLR for permitted channels. -/
  | syscallFaultclr
  /-- LTM_TIMER_START (R160): A write with RUN = 1 starts a lane timer from its preset. -/
  | ltmTimerStart (core : Fin 8) (timer : Fin 16) (ctl : BitVec 32)
  /-- LTM_TIMER_EXPIRY (R160): A lane timer reaches its expiry time, sets EXP and may raise its source. -/
  | ltmTimerExpiry (dt : Nat) (core : Fin 8) (timer : Fin 16)
  /-- IMAGE_STAGE (R174): Command 1 of 0x3011 checks the image and stages it beside the running image, or stores it. -/
  | imageStage (by_ : Session) (peer : BitVec 8)
  /-- IMAGE_DISCARD (R174): Command 2 of 0x3011 discards the staged image. -/
  | imageDiscard (by_ : Session)
  /-- OLC_SWITCH_REQUEST (R175): A SAFETY write of 1 to 0x3011 subindex 2 requests the switch at the next quiet gap after acceptance. -/
  | olcSwitchRequest (by_ : Session)
  /-- OLC_SWITCH (R177): In the switch gap the migration entries are copied, caches invalidated and the new task table loaded. -/
  | olcSwitch (dt : Nat)
  /-- OLC_TIMEOUT (R175): No quiet gap within 10 s after acceptance gives code 25 and the image stays staged. -/
  | olcTimeout (dt : Nat)
  /-- REF_LOST (R189): The selected reference becomes invalid and a ramp to another source or to coast begins. -/
  | refLost (dt : Nat) (cause : Fin 4)
  /-- SOURCE_VALID (R186): A source continuously valid for 100 ms becomes valid again and may cause a revertive switch. -/
  | sourceValid (dt : Nat) (src : Fin 3)
  /-- RAMP_STEP (R194): A ramp step ends after 4,000 FRC counts and the dividers move to the next setting. -/
  | rampStep (dt : Nat)
  /-- MON_TRIP (R200): A clock monitor trip sets EMBERFAIL, loses the reference, or resets the module. -/
  | monTrip (dt : Nat) (item : Fin 3) (value : BitVec 32)
  /-- CLOCK_ENABLE_APPLY (R203): A change of a block's clock enable takes effect when the block has no transaction in progress. -/
  | clockEnableApply (dt : Nat) (block : Fin 11) (on : Bool)
  /-- FM_START (R204): START in CTU_FMCTL begins a frequency measurement, or sets DONE and VOID at once. -/
  | fmStart (ref meas : BitVec 4) (gate : BitVec 24)
  /-- FM_DONE (R205): The meter gate ends and COUNT and DONE are set, VOID where a ramp overlapped. -/
  | fmDone (dt : Nat) (count : BitVec 32)
  /-- CTU_TIMENS_READ (R216): A read of CTU_TIMENS latches the seconds and flags at the same FRC value. -/
  | ctuTimensRead (core : Fin 8) (d : Fin 32)
  /-- CTU_FRCL_READ (R216): A read of CTU_FRCL latches CTU_FRCH. -/
  | ctuFrclRead (core : Fin 8) (d : Fin 32)
  /-- CTU_BERRL_READ (R202): A read of CTU_BERRL latches CTU_BERRH. -/
  | ctuBerrlRead (core : Fin 8) (d : Fin 32)
  /-- CYS_TICKL_READ (R180): A read of CYS_TICKL latches CYS_TICKH. -/
  | cysTicklRead (core : Fin 8) (d : Fin 32)
  /-- LTM_ELAPL_READ (R159): A read of LTM_ELAPL latches LTM_ELAPH. -/
  | ltmElaplRead (core : Fin 8) (d : Fin 32)
  /-- CTU_ADJ_STEP (R221): GO with MODE step adds the adjustment to OFFSET and the step sum and signals sequencer and banks. -/
  | ctuAdjStep (ns : BitVec 32) (sec : BitVec 48)
  /-- CTU_ADJ_SLEW (R222): GO with MODE slew sets SL to ±SLEW, or is refused for a non-zero seconds part. -/
  | ctuAdjSlew (ns : BitVec 32) (sec : BitVec 48)
  /-- SLEW_DONE (R222): A slew is fully applied and SL returns to 0. -/
  | slewDone (dt : Nat)
  /-- CTU_RATE_WRITE (R213): A write of RATE rebases network time, clamping to ±200 ppm. -/
  | ctuRateWrite (rate : BitVec 32)
  /-- EB_THRESHOLD_CROSSED (R218): The growing error bound crosses the uncertainty threshold and UNCERT is set. -/
  | ebThresholdCrossed (dt : Nat)
  /-- ANNOUNCE_RECEIVED (R223): An Announce is taken by the ordinary clock's best master clock algorithm. -/
  | announceReceived (dt : Nat) (port : Fin 2) (ann : PtpAnnounce)
  /-- SYNC_RECEIVED (R224): A Sync from another port or the master arrives with its ingress timestamp. -/
  | syncReceived (dt : Nat) (port : Fin 2) (src : BitVec 64) (domain : BitVec 8) (seq : BitVec 16) (corr : BitVec 64) (log : BitVec 8)
  /-- FOLLOW_UP_RECEIVED (R224): A Follow_Up within one interval completes an accepted Sync and the servo commands a step or slew. -/
  | followUpReceived (dt : Nat) (src : BitVec 64) (seq : BitVec 16) (sec : BitVec 48) (ns : BitVec 32) (corr : BitVec 64)
  /-- SYNC_TIMEOUT (R224): No accepted Sync for the set intervals; the module holds over. -/
  | syncTimeout (dt : Nat)
  /-- SYNC_INTERVAL_EXPIRY (R223): A master-capable module selected as master sends Sync and Follow_Up. -/
  | syncIntervalExpiry (dt : Nat)
  /-- PDELAY_REQ_INTERVAL (R225): A port sends Pdelay_Req at its interval and counts a missing response. -/
  | pdelayReqInterval (dt : Nat) (port : Fin 2)
  /-- PDELAY_REQ_RECEIVED (R225): A port answers Pdelay_Req with Pdelay_Resp and Pdelay_Resp_Follow_Up. -/
  | pdelayReqReceived (dt : Nat) (port : Fin 2)
  /-- PDELAY_RESP_RECEIVED (R225): A completed exchange updates meanLinkDelay and neighbour rate ratio. -/
  | pdelayRespReceived (dt : Nat) (port : Fin 2) (delay ratio : BitVec 32)
  /-- TC_FORWARD (R226): A PTP frame crossing ports 0/1 is forwarded, Sync correctionField updated in flight. -/
  | tcForward (dt : Nat) (port : Fin 2) (kind : PtpKind) (tags : Fin 4) (seq : BitVec 16) (corr : BitVec 64) (counts : BitVec 32)
  /-- BANK_SYNC_FRAME_SEND (R231): Each whole ms, and 20 µs after a step or rebase, the CTU sends a sync frame and pulse to the banks. -/
  | bankSyncFrameSend (dt : Nat) (extra : Bool) (ahead : BitVec 32)
  /-- BANK_SYNC_PULSE (R232): A bank loads time from a good frame at the pulse, detects steps and jumps, or counts a bad pulse. -/
  | bankSyncPulse (dt : Nat) (bank : Fin 3) (rx : PulseRx)
  /-- FBX_OUT_WRITE (R243): A voted write to FBx_OUT sets immediate outputs in all three sections and refreshes the channels. -/
  | fbxOutWrite (core : Fin 8) (bank : Fin 3) (value : BitVec 32)
  /-- FBX_FLTCLR_WRITE (R259): A FBx_FLTCLR bit releases a FAULT or OVERLOAD channel to INPUT or SAFE. -/
  | fbxFltclrWrite (core : Fin 8) (bank : Fin 3) (value : BitVec 32)
  /-- FBX_EVT0_READ (R265): A read of FBx_EVT0 removes the head event and latches its other words. -/
  | fbxEvt0Read (core : Fin 8) (bank : Fin 3) (d : Fin 32)
  /-- FILTERED_STATE_CHANGE (R253): A debounce expiry or integrator limit changes an input's filtered state, reported to the sequencer and the event FIFO. -/
  | filteredStateChange (dt : Nat) (ch : Fin 48) (value : Bool)
  /-- DISCREPANCY_TIMEOUT (R252): A voltage between thresholds longer than the discrepancy time faults the input with cause 2. -/
  | discrepancyTimeout (dt : Nat) (ch : Fin 48)
  /-- COMPARATOR_INVERSION (R252): CH = 1 with CL = 0 for 3 samples faults the input with cause 1. -/
  | comparatorInversion (ch : Fin 48)
  /-- SWITCH_SENSE_FAULT (R245): A switch sense disagreeing with its latch for more than 5 µs faults the channel with cause 4. -/
  | switchSenseFault (ch : Fin 48) (gate : Fin 3)
  /-- GATE_SET_DISAGREE (R245): Gate latches disagreeing beyond 2 µs outside a dark pulse fault the channel with cause 6. -/
  | gateSetDisagree (ch : Fin 48) (gate : Fin 3)
  /-- READBACK_FAULT (R245): Readback differing from the commanded state beyond 1 ms faults the channel with cause 3. -/
  | readbackFault (ch : Fin 48)
  /-- DARK_TEST_START (R246): At a channel's phase a dark pulse starts on the next gate set, or is deferred. -/
  | darkTestStart (dt : Nat) (ch : Fin 48)
  /-- DARK_PULSE_END (R246): The dark pulse ends and the senses are judged; a failure records DARK_FAIL. -/
  | darkPulseEnd (dt : Nat) (ch : Fin 48) (fail : Option (BitVec 6))
  /-- OVERLOAD (R244): A channel overcurrent trips all six switches to OVERLOAD and flushes its queue. -/
  | overload (ch : Fin 48) (ma : BitVec 32)
  /-- BANK_OVERLOAD (R244): Bank current above 6.5 A for 100 ms opens every output of the bank. -/
  | bankOverload (bank : Fin 3) (ma : BitVec 32)
  /-- BANK_TIMEOUT (R256): No refresh for the bank timeout applies the channel's safe state. -/
  | bankTimeout (dt : Nat) (ch : Fin 48)
  /-- SYNC_LOST (R258): The field-side sync clock missing for 10 µs locks every channel of the bank. -/
  | syncLost (bank : Fin 3)
  /-- SUPPLY_STATE (R260): A field supply state held for 1 ms of measurements becomes the bank's supply state. -/
  | supplyState (dt : Nat) (bank : Fin 3) (state : Fin 4) (volt : BitVec 16)
  /-- GLAZE_POST (R262): A posted glaze entry is checked in order and queued, applied late, replaced, ignored or refused. -/
  | glazePost (ch : Fin 48) (state : Bool) (sec : BitVec 48) (ns : BitVec 32)
  /-- GLAZE_LAUNCH (R263): At the first sync edge at or after its launch time an entry switches the latches of all sections. -/
  | glazeLaunch (dt : Nat) (ch : Fin 48)
  /-- MACROCYCLE_START (R280): At T_m the master sends CYCLE_START with the transmit area as it stands. -/
  | macrocycleStart (dt : Nat) (coll : BitVec 2)
  /-- SLOT_START (R286): At a slot start the master sends POLL, a probe, ACYC_REQ or CLAIM_OPEN. -/
  | slotStart (dt : Nat) (slot : Nat) (coll : BitVec 2)
  /-- XENEX_FRAME_RECEIVED (R279): A frame copy is accepted or discarded on its channel and, for a reply, judged against its window. -/
  | xenexFrameReceived (dt : Nat) (a b : Option (List (BitVec 8))) (after : BitVec 32)
  /-- SLOT_COMPLETE (R289): A slot is complete once its late guard has passed and any reply ended; INPUTS_DONE when every input slot is complete. -/
  | slotComplete (dt : Nat) (slot : Nat)
  /-- CYCLE_START_RECEIVED (R294): An accepted CYCLE_START moves LISTEN to FOLLOWER, advances integration, or makes a master yield. -/
  | cycleStartReceived (dt : Nat) (src : BitVec 6) (frame : CycleStart)
  /-- XENEX_SILENCE_TIMEOUT (R294): T_sil of silence makes a cold-start-capable station contend with a delay of 10 µs times its address. -/
  | xenexSilenceTimeout (dt : Nat)
  /-- CONTEND_DELAY_END (R294): The contention delay ends without carrier and COLDSTART is sent on both channels. -/
  | contendDelayEnd (dt : Nat)
  /-- COLDSTART_END (R294): A COLDSTART ends without collision; the station becomes MASTER with a new EPOCH. -/
  | coldstartEnd (dt : Nat)
  /-- XN_COLLISION (R274): A collision on an own COLDSTART stops driving and the station backs off. -/
  | xnCollision (coll : BitVec 2)
  /-- XNB_TAKEOVER (R294): The twin logic commands a follower to take the bus with TKO = 1. -/
  | xnbTakeover
  /-- XNB_RELEASE (R294): The twin logic commands a master to release the bus and follow. -/
  | xnbRelease
  /-- CLAIM_RECEIVED (R297): A claim in the claim slot is answered in the next CLAIM_OPEN by granting a spare slot or refusing. -/
  | claimReceived (src : BitVec 6) (tx rx : BitVec 8)
  /-- ACYC_RESP_RECEIVED (R301): A node's acyclic answer completes, continues, aborts or busies a transfer, or carries the node's own request. -/
  | acycRespReceived (node : BitVec 6) (msg : AcycMsg)
  /-- ACYC_TIMEOUT (R302): 1 s after the first transmission the master gives up with abort 0x0504_0000. -/
  | acycTimeout (dt : Nat)
  /-- GATEWAY_READ (R311): A read of 0x2520 subindex 5 starts an acyclic read of a node's entry. -/
  | gatewayRead (by_ : Session)
  /-- GATEWAY_WRITE (R311): A write of 0x2520 subindex 5 starts an acyclic write to a node's entry. -/
  | gatewayWrite (by_ : Session) (data : List (BitVec 8))
  /-- HEARTBEAT_STROBE (R317): Every 50 µs a HEARTBEAT frame and a 1 µs pulse are sent. -/
  | heartbeatStrobe (dt : Nat)
  /-- HEARTBEAT_RECEIVED (R318): A heartbeat on a path clears its miss count and brings the path up after 8. -/
  | heartbeatReceived (dt : Nat) (rx : BeatRx)
  /-- HEARTBEAT_MISS (R318): A missing heartbeat counts a miss; three make the path down and both down make the peer silent. -/
  | heartbeatMiss (dt : Nat) (way : TwinWay)
  /-- TWIN_FAULT_RECEIVED (R319): A FAULT frame or fault pulse marks the peer faulted; a standby takes over. -/
  | twinFaultReceived (dt : Nat) (rx : FaultRx)
  /-- TAKEOVER_GATE_RELEASE (R320): After any commit and posting in progress the gate hold is released and TWR asserted for a silent peer. -/
  | takeoverGateRelease (dt : Nat)
  /-- TWIN_REQUESTED_RESET (R321): TWRI held for 10 µs resets the module within 5 µs. -/
  | twinRequestedReset (dt : Nat)
  /-- TWIN_INPUT_FRAME (R322): A standby takes an INPUT frame as the active's latched input image. -/
  | twinInputFrame (head : TwinHead) (task : Fin 8) (cycle : BitVec 64) (offset : BitVec 32) (octets : List (BitVec 8))
  /-- TWIN_RXFRAME (R322): A standby delivers an RXFRAME backbone frame to its lanes. -/
  | twinRxframe (head : TwinHead) (port : Fin 2) (sec : BitVec 48) (ns : BitVec 32) (frame : EthFrame)
  /-- TWIN_TIME_FRAME (R322): A standby treats a TIME frame as an accepted Sync. -/
  | twinTimeFrame (dt : Nat) (head : TwinHead) (frame : TimeFrame)
  /-- TWIN_CHECK_FRAME (R324): The standby compares CHECK frames of the same task and cycle. -/
  | twinCheckFrame (head : TwinHead) (task : Fin 8) (committed : Bool) (cycle : BitVec 64) (crc : BitVec 32)
  /-- TWIN_HEALTH_FRAME (R331): A HEALTH frame updates the peer's craze flags. -/
  | twinHealthFrame (head : TwinHead) (flags : BitVec 32) (counts : BitVec 96)
  /-- TWIN_CRAZE (R331): A craze flag sets and is recorded once. -/
  | twinCraze (flag : Fin 32)
  /-- TWIN_CMD_REVERT_REQ (R328): The preferred standby asks for control back after its hold time. -/
  | twinCmdRevertReq (dt : Nat) (head : TwinHead)
  /-- TWIN_CMD_HANDOVER (R328): The active names the handover tick N. -/
  | twinCmdHandover (dt : Nat) (head : TwinHead) (tick : BitVec 64)
  /-- TWIN_CMD_HANDOVER_ACK (R328): The preferred module acknowledges the handover. -/
  | twinCmdHandoverAck (head : TwinHead) (tick : BitVec 64)
  /-- HANDOVER_HOLD_CHANGE (R328): At N − G + δ + 1 µs the new active releases its hold and 2 µs later the old active sets its hold. -/
  | handoverHoldChange (dt : Nat)
  /-- TWIN_CMD_OLC_SWITCH (R330): The standby is told the tick of the active's switch gap. -/
  | twinCmdOlcSwitch (head : TwinHead) (tick : BitVec 64)
  /-- TWIN_CMD_INTEG_START (R325): The integration compare phase checks image, schedule and SAFETY CRCs. -/
  | twinCmdIntegStart (dt : Nat) (head : TwinHead) (info : IntegInfo)
  /-- TWIN_LATENCY_DONE (R325): 16 CMD round trips give the link latency and the copy phase begins. -/
  | twinLatencyDone (dt : Nat) (meanRoundTrip : BitVec 32)
  /-- TWIN_PAGE_FRAME (R325): A PAGE frame is loaded into the standby's lanes or shared buffers. -/
  | twinPageFrame (head : TwinHead) (addr : BitVec 64) (octets : List (BitVec 8))
  /-- TWIN_FWD_FRAME (R326): Forwarded writes or checksum markers are applied or compared in the standby. -/
  | twinFwdFrame (head : TwinHead) (entries : List TwinFwd)
  /-- TWIN_COPY_DONE (R325): All copied pages are sent and the checksum phase begins. -/
  | twinCopyDone (dt : Nat)
  /-- TWIN_CHECKSUM_DONE (R325): All copied pages agree and the join is awaited. -/
  | twinChecksumDone (dt : Nat)
  /-- TWIN_CMD_JOIN (R325): In a fitting quiet gap the active sends JOIN and STATEREC and stops forwarding. -/
  | twinCmdJoin (dt : Nat) (head : TwinHead) (tick : BitVec 64)
  /-- TWIN_STATEREC_FRAME (R325): The standby loads the state record and releases its first cycle at N + δ as STANDBY. -/
  | twinStaterecFrame (dt : Nat) (head : TwinHead) (rcd : StateRec)
  /-- TWIN_INTEG_RETRY (R325): 10 s after a failure integration starts again from phase 1. -/
  | twinIntegRetry (dt : Nat)
  /-- TWIN_PEER_INTEGRATING_TIMEOUT (R327): Both modules INTEGRATING for 100 ms: the preferred or A position becomes ACTIVE. -/
  | twinPeerIntegratingTimeout (dt : Nat)
  /-- TWIN_PEER_SILENT_TIMEOUT (R327): A peer silent for 200 ms from entry into INTEGRATING: TWR asserted once and the module becomes ACTIVE. -/
  | twinPeerSilentTimeout (dt : Nat)
  /-- REVERT_HOLD_EXPIRY (R328): The revert hold time ends and the preferred standby sends REVERT_REQ. -/
  | revertHoldExpiry (dt : Nat)
  /-- TWIN_FWD_HOLD_RELEASE (R326): The forward FIFO drains to 512 and MIRROR_HOLD from the TWL is released. -/
  | twinFwdHoldRelease (dt : Nat)
  /-- SWITCH_FRAME_RECEIVED (R338): A frame at port 0, 1 or I is classified by VLAN, learned, and cut through, stored or dropped. -/
  | switchFrameReceived (dt : Nat) (port : Fin 3) (frame : EthFrame)
  /-- INTERNAL_PORT_RECEIVE (R342): A frame at the internal port goes to PTP, the Kiln, a receive slot, or is dropped. -/
  | internalPortReceive (dt : Nat) (port : Fin 2) (frame : EthFrame)
  /-- RECEIVE_SLOT_WRITE (R344): 0.2 µs after a frame ends it is written to its slot as one unit, waiting for a latch in progress. -/
  | receiveSlotWrite (dt : Nat) (slot : Fin 16)
  /-- LNC_TX_SEQ_WRITE (R346): A voted SEQ change queues a transmit slot, sent when the commit or burst ends, or suppressed. -/
  | lncTxSeqWrite (core : Fin 8) (slot : Fin 8) (value : BitVec 32)
  /-- LINK_CHANGE (R359): A port's link speed changes. -/
  | linkChange (dt : Nat) (port : Fin 4) (spd : Fin 3)
  /-- PRP_FRAME_RECEIVED (R349): A consist frame is accepted as first copy or discarded as duplicate. -/
  | prpFrameReceived (dt : Nat) (lan : Fin 2) (frame : PrpFrame)
  /-- PRP_SUPERVISION_INTERVAL (R349): Every 2 s a PRP supervision frame is sent. -/
  | prpSupervisionInterval (dt : Nat)
  /-- PRP_LAN_FAIL (R349): A LAN that delivers nothing for 6 s while the other does is recorded. -/
  | prpLanFail (dt : Nat) (lan : Fin 2)
  /-- GDP_READ (R353): GDP READ returns an entry's value or a DOMAIN block. -/
  | gdpRead (head : GdpHead) (index : BitVec 16) (sub : BitVec 8) (offset : BitVec 32)
  /-- GDP_WRITE (R353): GDP WRITE writes an entry or a DOMAIN block. -/
  | gdpWrite (head : GdpHead) (index : BitVec 16) (sub : BitVec 8) (block : BlockIn)
  /-- GDP_OPEN (R354): GDP OPEN opens a session, up to 4. -/
  | gdpOpen (head : GdpHead) (client : BitVec 32)
  /-- GDP_CLOSE (R354): GDP CLOSE ends a session and its level. -/
  | gdpClose (head : GdpHead)
  /-- GDP_WAKE (R341): GDP WAKE on port 0 or 1 wakes a Banked module. -/
  | gdpWake (port : Fin 4) (client : BitVec 32)
  /-- GDP_SESSION_IDLE_TIMEOUT (R354): A session idle for the set time is closed. -/
  | gdpSessionIdleTimeout (dt : Nat) (session : Fin 6)
  /-- KEYX_CHALLENGE (R387): A challenge request returns a 12-octet challenge. -/
  | keyxChallenge (by_ : Session)
  /-- KEYX_RESPONSE (R388): A response is checked; a correct one gives MAINTENANCE level, a wrong one counts toward lock-out. -/
  | keyxResponse (by_ : Session) (response : List (BitVec 8))
  /-- KEYX_LOCKOUT_END (R388): The 60 s lock-out after three failures ends. -/
  | keyxLockoutEnd (dt : Nat)
  /-- MAINTENANCE_KEY_WRITE (R389): A write of 0x2003 subindex 3 changes the maintenance key. -/
  | maintenanceKeyWrite (by_ : Session) (key : List (BitVec 8))
  /-- USDO_TRANSFER (R390): A CANopen FD USDO request reads or writes an entry. -/
  | usdoTransfer (channel : Fin 2) (op : DictOp)
  /-- USDO_TIMEOUT (R390): A USDO transfer without a client segment for 1 s is aborted. -/
  | usdoTimeout (dt : Nat) (channel : Fin 2)
  /-- SAFETY_WRITE (R397): A SAFETY write is checked and staged in KLM_STAGE for the lanes' verdict. -/
  | safetyWrite (by_ : Session) (index : BitVec 16) (sub : BitVec 8) (value : List (BitVec 8))
  /-- KLM_VERDICT7_WRITE (R397): The last verdict word sets VERD. -/
  | klmVerdict7Write (value : BitVec 32)
  /-- SAFETY_RESERVE (R397): In the SAFETY reserve of a quiet gap the KLM applies a matching verdict and sets APPLIED. -/
  | safetyReserve (dt : Nat)
  /-- SAFETY_COMMIT (R397): The Kiln stores the applied value, answers and clears PEND. -/
  | safetyCommit (dt : Nat)
  /-- SAFETY_TIMEOUT (R398): A staged record not applied within 1,000 ms is discarded. -/
  | safetyTimeout (dt : Nat)
  /-- SAFETY_VALUE_FROM_ACTIVE (R399): A standby commits an applied SAFETY value from the active through its own lanes. -/
  | safetyValueFromActive (head : TwinHead) (index : BitVec 16) (sub : BitVec 8) (value : List (BitVec 8))
  /-- DEBUG_HALT (R404): Command 1 of 0x2010 halts the target; in RUN the module enters SERVICE. -/
  | debugHalt (by_ : Session)
  /-- DEBUG_RUN (R404): Command 2 of 0x2010 resumes a 1oo1 lane or WIDE core. -/
  | debugRun (by_ : Session)
  /-- DEBUG_STEP (R404): Command 3 of 0x2010 steps one instruction. -/
  | debugStep (by_ : Session)
  /-- DEBUG_REGISTER_ACCESS (R404): A read or write of 0x2011 or 0x2013 accesses a halted target's registers. -/
  | debugRegisterAccess (by_ : Session) (reg : DebugReg) (value : Option (List (BitVec 8)))
  /-- DEBUG_MEMORY_ACCESS (R404): A read or write of 0x2012 subindex 2 accesses a halted target's lane memory. -/
  | debugMemoryAccess (by_ : Session) (length : BitVec 16) (value : Option (List (BitVec 8)))
  /-- DEBUG_BREAKPOINT_HIT (R405): The target reaches the breakpoint and halts. -/
  | debugBreakpointHit (core : Fin 8)
  /-- FW_BLOCK (R455): A block of 0x2A10 opens, appends to, repeats or closes a firmware transfer into the target bank. -/
  | fwBlock (by_ : Session) (block : BlockIn)
  /-- APP_IMAGE_BLOCK (R455): A block of 0x3010 is written to the transfer buffer. -/
  | appImageBlock (by_ : Session) (block : BlockIn)
  /-- SCHEDULE_TABLE_BLOCK (R455): A block of 0x2510 is written and, on close, the table is checked and stored. -/
  | scheduleTableBlock (by_ : Session) (block : BlockIn)
  /-- TRANSFER_ABANDON_TIMEOUT (R455): A transfer without a block for 30 s is abandoned. -/
  | transferAbandonTimeout (dt : Nat) (index : BitVec 16)
  /-- FLASH_SECTOR_ERASED (R456): A sector erase ends and the waiting block is programmed and answered. -/
  | flashSectorErased (dt : Nat)
  /-- FW_ACTIVATE (R457): Command 1 of 0x2A11 names a WRITTEN bank for the next boot. -/
  | fwActivate (by_ : Session)
  /-- FW_REVERT (R457): Command 2 of 0x2A11 names PREV for the next boot. -/
  | fwRevert (by_ : Session)
  /-- FW_CANCEL_TRANSFER (R457): Command 3 of 0x2A11 abandons an open transfer. -/
  | fwCancelTransfer (by_ : Session)
  /-- FW_CANCEL_ACTIVATION (R457): Command 4 of 0x2A11 restores NEXT to the running bank. -/
  | fwCancelActivation (by_ : Session)
  /-- RECORDER_READ (R427): A read of 0x2801 subindex 3 returns records from the first SEQ. -/
  | recorderRead (by_ : Session)
  /-- EVENT_SUBMIT (R415): An event enters the staging FIFO, merged, privileged, refused or lost. -/
  | eventSubmit (src : Fin 16) (code : BitVec 16) (p0 p1 p2 : BitVec 32)
  /-- REC_EV3_WRITE (R426): A lane write of REC_EV3 submits the event formed by the four words. -/
  | recEv3Write (value : BitVec 32)
  /-- RECORD_WRITE (R419): The recorder writes the next FIFO entry in two phases. -/
  | recordWrite (dt : Nat) (cut : WriteCut)
  /-- HEAD_REWRITE (R420): A merge into the head is written through the shadow, then the slot. -/
  | headRewrite (dt : Nat) (cut : WriteCut)
  /-- OPTIME_SAVE (R413): Every 1,000 ms OPTIME is saved. -/
  | optimeSave (dt : Nat)
  /-- TOKEN_REFILL (R417): A privileged code's bucket gains a token every 1/RATE s. -/
  | tokenRefill (dt : Nat) (code : BitVec 16)
  /-- POSTED_WRITE_COMPLETE (R367): The far side confirms a posted write and its tag is released. -/
  | postedWriteComplete (dt : Nat)
  /-- BRG_PWERR (R367): A far-side error or 10 µs timeout of a posted write is logged and raises interrupt 272. -/
  | brgPwerr (dt : Nat) (status : FarStatus)
  /-- FAR_SIDE_READ_RESPONSE (R362): The far-side answer to a read or STX returns to the lanes. -/
  | farSideReadResponse (dt : Nat) (failed : Bool)
  /-- FAR_SIDE_READ_TIMEOUT (R363): A far-side read not answered within 10 µs receives a bus error. -/
  | farSideReadTimeout (dt : Nat)
  /-- BRG_TAG_FREE (R364): A freed tag admits the next waiting access. -/
  | brgTagFree (dt : Nat)
  /-- BRG_SEM_EXPIRED (R373): A semaphore held 8 µs after its LDX expires. -/
  | brgSemExpired (dt : Nat) (region : Fin 16)
  /-- PREFETCH_EXPIRY (R376): A line buffer 2 µs old is discarded, logged under R377 if it held an unread side-effect word. -/
  | prefetchExpiry (dt : Nat)
  /-- BRG_ERR0_READ (R369): A read of BRG_ERR0 removes the head log entry and latches the others. -/
  | brgErr0Read (core : Fin 8) (d : Fin 32)
  /-- BRG_SYNC_READ (R372): A read of BRG_SYNC answers when all earlier posted writes have completed. -/
  | brgSyncRead (core : Fin 8) (d : Fin 32)
  /-- BRG_REGION_WRITE (R366): A lane write of region 10–15 registers takes effect and discards prefetch buffers in the range. -/
  | brgRegionWrite (core : Fin 8) (region : Fin 16) (word : RegionWord) (value : BitVec 32)
  /-- BRG_INTSTAT_CLEAR (R378): A W1C of a forwarded interrupt bit clears it only if the block's output is low. -/
  | brgIntstatClear (core : Fin 8) (value : BitVec 32)
  /-- FORWARDED_INTERRUPT_EDGE (R378): A rising far-side interrupt output sets its bit in BRG_INTSTAT. -/
  | forwardedInterruptEdge (block : FarBlock)
  /-- CFD_TPDOTRIG_WRITE (R357): A write to CFD_TPDOTRIG sends the selected TPDOs. -/
  | cfdTpdotrigWrite (value : BitVec 32)
  /-- TPDO_EVENT_TIMER (R357): A TPDO's event timer expires and the TPDO is sent. -/
  | tpdoEventTimer (dt : Nat) (channel : Fin 2) (tpdo : Fin 8)
  /-- RPDO_RECEIVED (R357): An RPDO is written to its buffer with a receive timestamp. -/
  | rpdoReceived (dt : Nat) (channel : Fin 2) (cobId : BitVec 29) (data : List (BitVec 8))
  /-- CAN_BUSOFF (R355): A channel goes bus-off. -/
  | canBusoff (channel : Fin 2) (tec : BitVec 8)
  /-- CAN_BUSOFF_RECOVERY (R355): After 128 occurrences of 11 recessive bits the channel rejoins. -/
  | canBusoffRecovery (dt : Nat) (channel : Fin 2)
  /-- NMT_COMMAND (R356): An NMT command changes a CAN node's NMT state. -/
  | nmtCommand (channel : Fin 2) (node : BitVec 7) (cmd : NmtCmd)
  /-- CAN_PRODUCER_HEARTBEAT (R356): The producer heartbeat time expires and a heartbeat is sent. -/
  | canProducerHeartbeat (dt : Nat) (channel : Fin 2)
  /-- CAN_HB_LOST (R356): A consumed heartbeat is not received in time. -/
  | canHbLost (dt : Nat) (consumer : Fin 4)
  /-- COUNTER_OVERFLOW (R432): A counter carries out of bit 47, wraps, sets LPC_OVF and may raise its source. -/
  | counterOverflow (core : Fin 8) (counter : Fin 16) (events : BitVec 48)
  /-- LPC_CNTNL_READ (R441): A read of LPC_CNTnL latches LPC_CNTnH. -/
  | lpcCntnlRead (core : Fin 8) (counter : Fin 16) (d : Fin 32)
  /-- LPC_CNTNL_WRITE (R432): A write of LPC_CNTnL loads both halves with the held high half. -/
  | lpcCntnlWrite (core : Fin 8) (counter : Fin 16) (value : BitVec 32)
  /-- BANDWIDTH_WINDOW_END (R435): At each window end every monitor loads LAST and updates MAX. -/
  | bandwidthWindowEnd (dt : Nat)
  /-- GAP_DUMP (R436): At the last 1.0 µs of a gap the counters are dumped to lane SRAM. -/
  | gapDump (dt : Nat)
  /-- PERIODIC_DUMP (R436): At each multiple of DUMPPER µs the counters are dumped. -/
  | periodicDump (dt : Nat)
  /-- ILLEGAL_INSTRUCTION (R112): The core meets an illegal encoding or a reserved control-word number and raises cause 1 with no other effect. -/
  | illegalInstruction (core : Fin 8) (word : BitVec 32)
  /-- FETCH_FAULT (R119): An instruction fetch from outside lane memory, beyond bit 39, or not permitted to Application raises cause 4. -/
  | fetchFault (core : Fin 8)
  /-- SOURCE_INVALID (R186): The clock monitor finds a source that is not selected invalid through missing edges, a failed frequency check or a cross-check. -/
  | sourceInvalid (dt : Nat) (src : Fin 3)
  /-- EMBERFAIL_CLEAR (R200): After 100 ms back within limits EMBERFAIL is cleared. -/
  | emberfailClear (dt : Nat)
  /-- ANNOUNCE_RECEIPT_TIMEOUT (R502): The selected master's Announce messages cease and the ordinary clock deselects it and shows LISTENING. -/
  | announceReceiptTimeout (dt : Nat)
  /-- READBACK_AGREES (R247): A dark test deferred for a coming launch runs once readback agrees with the state after the launch. -/
  | readbackAgrees (ch : Fin 48)
  /-- CARRIER_DETECTED (R294): Carrier on channel A or B before the contention delay ends sends a contending or backing-off station to LISTEN. -/
  | carrierDetected
  /-- TIME_FRAME_INTERVAL (R314): Every 1 ms the ACTIVE module sends a TIME frame to its standby. -/
  | timeFrameInterval (dt : Nat)
  /-- HEALTH_FRAME_INTERVAL (R331): Every second each module sends its craze flags and counts in a HEALTH frame. -/
  | healthFrameInterval (dt : Nat)
  /-- CRAZE_FLAG_CLEAR (R331): A craze flag clears when its condition ends, for example when its 24 h window runs out. -/
  | crazeFlagClear (flag : Fin 32)
  /-- TWP_PULSE_ERROR (R317): A twin pulse of a width that is neither heartbeat nor fault is counted as a pulse error. -/
  | twpPulseError
  /-- STANDBY_IMAGE_STAGE (R330): The standby's Kiln receives an image staged by the active, checks it and stages it or refuses it back. -/
  | standbyImageStage (head : TwinHead) (image : List (BitVec 8))
  /-- MAC_ADDRESS_AGEING (R340): A learned source MAC entry not refreshed for 300 s ages out of the table. -/
  | macAddressAgeing (dt : Nat) (vid : BitVec 12) (mac : BitVec 48)
  /-- CAN_HEARTBEAT_RECEIVED (R356): A consumed CAN heartbeat arrives and restarts its consumer time. -/
  | canHeartbeatReceived (channel : Fin 2) (node : BitVec 7)
deriving DecidableEq, Repr

end Sys2Proof
end

