-- ==== Sys2Proof/Config.lean ====
section
/-! DEFINITION. What the spec leaves open: free values without a body (nothing in Lean can evaluate them), and
the contents the factory gives a module. -/

namespace Sys2Proof

/-- A free value of 64 bits: the spec calls the value undefined or states none. Applied to the state's own
counter of free values drawn (log 3). -/
opaque Config.freeWord : Nat → BitVec 64

/-- A free truth value, drawn as `Config.freeWord` is (log 3). -/
opaque Config.freeBool : Nat → Bool

/-- The factory maintenance key of 0x2003 subindex 3 (R389): the spec gives no value (log 4). -/
opaque Config.factoryKey : List (BitVec 8)

/-- The factory MAC address of port 0 (R360): the spec gives no value (log 4). -/
opaque Config.factoryMac : BitVec 48

/-- The serial number of 0x1018 subindex 4 (R383): the spec gives no value (log 4). -/
opaque Config.serial : BitVec 32

/-- The factory firmware image in bank Golden (R444): the spec gives no octet of it (log 4). -/
opaque Config.goldenImage : List (BitVec 8)

/-- IEEE 754-2019 lets tininess be detected before or after rounding; the spec chooses neither (R117, log 5). -/
opaque Config.tininessAfterRounding : Bool

/-- IEEE 754-2019 leaves open whether 0 × ∞ + qNaN signals invalid (R117, log 5). -/
opaque Config.fmaZeroInfNaNInvalid : Bool

/-- IEEE 754-2019 has conversions to an integer that signal inexact and ones that do not; the spec chooses neither
(R117, log 5). -/
opaque Config.convertSignalsInexact : Bool

end Sys2Proof
end

