-- ==== Sys2Proof/Machine/Flags.lean ====
section
/-! DEFINITION. The floating-point arithmetic of the cores and the sticky flags it sets (R106, R117): IEEE 754-2019
binary32 and binary64, computed exactly and rounded once. -/

namespace Sys2Proof.Machine

/-- The sticky flags an operation sets (CW_FPCSR). -/
structure FFlags where
  nv : Bool := false
  dz : Bool := false
  of : Bool := false
  uf : Bool := false
  nx : Bool := false
deriving DecidableEq, Repr

/-- The flags at their bits of CW_FPCSR. -/
def FFlags.word (g : FFlags) : BitVec 64 :=
  BitVec.ofNat 64 (b2n g.nv * 256 + b2n g.dz * 128 + b2n g.of * 64 + b2n g.uf * 32 + b2n g.nx * 16)

/-- Rounding modes of CW_FPCSR.RM. -/
inductive Rm where
  | nearest | zero | down | up
deriving DecidableEq, Repr

/-- The rounding mode of an RM field. -/
def rmOf (n : Nat) : Rm := if n = 1 then .zero else if n = 2 then .down else if n = 3 then .up else .nearest

/-- A format: fraction bits and exponent bits. -/
structure Fmt where
  frac : Nat
  expo : Nat
deriving DecidableEq, Repr

/-- binary32 (`false`) or binary64. -/
def fmtOf (dbl : Bool) : Fmt := if dbl then ⟨52, 11⟩ else ⟨23, 8⟩

/-- Exponent bias of a format. -/
def Fmt.bias (k : Fmt) : Nat := 2 ^ (k.expo - 1) - 1

/-- Exponent field with all bits set. -/
def Fmt.top (k : Fmt) : Nat := 2 ^ k.expo - 1

/-- What a floating-point number is: a finite one is ±m·2^e. -/
inductive Fp where
  | nan (signalling : Bool)
  | inf (neg : Bool)
  | fin (neg : Bool) (m : Nat) (e : Int)
deriving DecidableEq, Repr

/-- The number a bit pattern stands for. -/
def unpack (k : Fmt) (w : Nat) : Fp :=
  let f := w % 2 ^ k.frac
  let x := (w / 2 ^ k.frac) % 2 ^ k.expo
  let s := decide ((w / 2 ^ (k.frac + k.expo)) % 2 = 1)
  if x = k.top then (if f = 0 then .inf s else .nan (decide (f < 2 ^ (k.frac - 1))))
  else if x = 0 then .fin s f (1 - (k.bias : Int) - k.frac)
  else .fin s (f + 2 ^ k.frac) ((x : Int) - k.bias - k.frac)

/-- A bit pattern from its fields. -/
def pack (k : Fmt) (s : Bool) (x f : Nat) : Nat := b2n s * 2 ^ (k.frac + k.expo) + x * 2 ^ k.frac + f

/-- The canonical NaN (R117). -/
def canonNan (k : Fmt) : Nat := pack k false k.top (2 ^ (k.frac - 1))

/-- Infinity. -/
def packInf (k : Fmt) (s : Bool) : Nat := pack k s k.top 0

/-- Zero. -/
def packZero (k : Fmt) (s : Bool) : Nat := pack k s 0 0

/-- Does rounding go away from zero? `rem` of `2^sh` is what is cut off, `odd` the last bit kept. -/
def roundUp (rm : Rm) (neg : Bool) (rem sh : Nat) (sticky odd : Bool) : Bool :=
  let inexact := decide (rem ≠ 0) || sticky
  match rm with
  | .zero => false
  | .down => neg && inexact
  | .up => !neg && inexact
  | .nearest =>
    if sh = 0 then false
    else decide (2 ^ (sh - 1) < rem) || (decide (rem = 2 ^ (sh - 1)) && (sticky || odd))

/-- m·2^e cut to multiples of 2^q and rounded: the multiple, and whether it is inexact. -/
def cut (rm : Rm) (neg : Bool) (m : Nat) (e q : Int) (sticky : Bool) : Nat × Bool :=
  if q ≤ e then (m * 2 ^ (e - q).toNat, sticky)
  else
    let sh := (q - e).toNat
    let hi := m / 2 ^ sh
    let rem := m % 2 ^ sh
    (if roundUp rm neg rem sh sticky (decide (hi % 2 = 1)) then hi + 1 else hi, decide (rem ≠ 0) || sticky)

/-- ±m·2^e rounded into a format; `sticky` says that a little more than m·2^e is meant. -/
def roundFp (k : Fmt) (rm : Rm) (neg : Bool) (m : Nat) (e : Int) (sticky : Bool) : Nat × FFlags :=
  if m = 0 then (packZero k neg, {})
  else
    let top := e + Nat.log2 m
    let emin : Int := 1 - k.bias
    let q := max top emin - k.frac
    let (n, inexact) := cut rm neg m e q sticky
    let (n1, q1) := if n = 2 ^ (k.frac + 1) then (2 ^ k.frac, q + 1) else (n, q)
    -- tininess before rounding, or of the result rounded as if the exponent had no bound
    let wide := (cut rm neg m e (top - k.frac) sticky).1
    let tiny := decide (top < emin) &&
      (!Config.tininessAfterRounding || !(decide (top = emin - 1) && decide (wide = 2 ^ (k.frac + 1))))
    if (k.bias : Int) < q1 + k.frac ∧ 2 ^ k.frac ≤ n1 then
      let toInf := match rm with
        | .nearest => true
        | .zero => false
        | .down => neg
        | .up => !neg
      (if toInf then packInf k neg else pack k neg (k.top - 1) (2 ^ k.frac - 1), { of := true, nx := true })
    else
      let w := if n1 < 2 ^ k.frac then pack k neg 0 n1
        else pack k neg (q1 + k.frac + k.bias).toNat (n1 - 2 ^ k.frac)
      (w, { nx := inexact, uf := inexact && tiny })

/-- An invalid operation: the canonical NaN and NV. -/
def invalid (k : Fmt) : Nat × FFlags := (canonNan k, { nv := true })

/-- A NaN result of operands of which one may signal. -/
def quiet (k : Fmt) (signalling : Bool) : Nat × FFlags := (canonNan k, { nv := signalling })

/-- An operand is a signalling NaN. -/
def Fp.snan : Fp → Bool
  | .nan s => s
  | _ => false

/-- An operand is a NaN. -/
def Fp.isNan : Fp → Bool
  | .nan _ => true
  | _ => false

/-- The sign of a number. -/
def Fp.neg : Fp → Bool
  | .nan _ => false
  | .inf s => s
  | .fin s _ _ => s

/-- The opposite number. -/
def Fp.opp : Fp → Fp
  | .nan s => .nan s
  | .inf s => .inf (!s)
  | .fin s m e => .fin (!s) m e

/-- ±m as an integer. -/
def sgn (s : Bool) (m : Nat) : Int := if s then -(m : Int) else m

/-- The sum of two finite numbers, rounded once. -/
def addFin (k : Fmt) (rm : Rm) (s1 : Bool) (m1 : Nat) (e1 : Int) (s2 : Bool) (m2 : Nat) (e2 : Int) :
    Nat × FFlags :=
  let e := min e1 e2
  let v := sgn s1 (m1 * 2 ^ (e1 - e).toNat) + sgn s2 (m2 * 2 ^ (e2 - e).toNat)
  if v = 0 then (packZero k (if s1 = s2 then s1 else decide (rm = .down)), {})
  else roundFp k rm (decide (v < 0)) v.natAbs e false

/-- Addition. -/
def fpAdd (k : Fmt) (rm : Rm) (a b : Fp) : Nat × FFlags :=
  match a, b with
  | .nan s, x => quiet k (s || x.snan)
  | x, .nan s => quiet k (s || x.snan)
  | .inf s, .inf t => if s = t then (packInf k s, {}) else invalid k
  | .inf s, .fin _ _ _ => (packInf k s, {})
  | .fin _ _ _, .inf s => (packInf k s, {})
  | .fin s1 m1 e1, .fin s2 m2 e2 => addFin k rm s1 m1 e1 s2 m2 e2

/-- Multiplication. -/
def fpMul (k : Fmt) (rm : Rm) (a b : Fp) : Nat × FFlags :=
  match a, b with
  | .nan s, x => quiet k (s || x.snan)
  | x, .nan s => quiet k (s || x.snan)
  | .inf s, .inf t => (packInf k (s != t), {})
  | .inf s, .fin t m _ => if m = 0 then invalid k else (packInf k (s != t), {})
  | .fin t m _, .inf s => if m = 0 then invalid k else (packInf k (s != t), {})
  | .fin s1 m1 e1, .fin s2 m2 e2 => roundFp k rm (s1 != s2) (m1 * m2) (e1 + e2) false

/-- Division. -/
def fpDiv (k : Fmt) (rm : Rm) (a b : Fp) : Nat × FFlags :=
  match a, b with
  | .nan s, x => quiet k (s || x.snan)
  | x, .nan s => quiet k (s || x.snan)
  | .inf _, .inf _ => invalid k
  | .inf s, .fin t _ _ => (packInf k (s != t), {})
  | .fin s _ _, .inf t => (packZero k (s != t), {})
  | .fin s1 m1 e1, .fin s2 m2 e2 =>
    if m2 = 0 then (if m1 = 0 then invalid k else (packInf k (s1 != s2), { dz := true }))
    else
      -- enough bits that the cut-off rest only matters as a sticky bit
      let n := m1 * 2 ^ (2 * k.frac + 8)
      roundFp k rm (s1 != s2) (n / m2) (e1 - e2 - (2 * k.frac + 8 : Nat)) (decide (n % m2 ≠ 0))

/-- Integer square root, bit by bit from bit `n - 1` down. -/
def isqrt (v : Nat) : Nat → Nat → Nat
  | 0, r => r
  | n + 1, r => isqrt v n (if (r + 2 ^ n) * (r + 2 ^ n) ≤ v then r + 2 ^ n else r)

/-- Square root. -/
def fpSqrt (k : Fmt) (rm : Rm) (a : Fp) : Nat × FFlags :=
  match a with
  | .nan s => quiet k s
  | .inf s => if s then invalid k else (packInf k false, {})
  | .fin s m e =>
    if m = 0 then (packZero k s, {})
    else if s then invalid k
    else
      let sh := 2 * k.frac + 6
      let odd := (e - sh) % 2
      let v := m * 2 ^ (sh + odd.toNat)
      let r := isqrt v (2 * k.frac + 8) 0
      roundFp k rm false r ((e - sh - odd) / 2) (decide (r * r ≠ v))

/-- a·b + c with one rounding (R115). -/
def fpFma (k : Fmt) (rm : Rm) (a b c : Fp) : Nat × FFlags :=
  if a.isNan || b.isNan then quiet k (a.snan || b.snan || c.snan)
  else
    let s := a.neg != b.neg
    let prod : Option Fp := match a, b with
      | .fin _ m1 e1, .fin _ m2 e2 => some (.fin s (m1 * m2) (e1 + e2))
      | .fin _ m _, _ => if m = 0 then none else some (.inf s)
      | _, .fin _ m _ => if m = 0 then none else some (.inf s)
      | _, _ => some (.inf s)
    match prod, c with
    | none, .nan t => quiet k (t || Config.fmaZeroInfNaNInvalid)
    | none, _ => invalid k
    | some _, .nan t => quiet k t
    | some p, _ => fpAdd k rm p c

/-- Finite numbers and infinities in order: -1, 0 or 1. -/
def fpOrder (a b : Fp) : Int :=
  match a, b with
  | .inf s, .inf t => if s = t then 0 else if s then -1 else 1
  | .inf s, _ => if s then -1 else 1
  | _, .inf t => if t then 1 else -1
  | .fin s1 m1 e1, .fin s2 m2 e2 =>
    let e := min e1 e2
    let x := sgn s1 (m1 * 2 ^ (e1 - e).toNat)
    let y := sgn s2 (m2 * 2 ^ (e2 - e).toNat)
    if x < y then -1 else if y < x then 1 else 0
  | _, _ => 0

/-- Is `a` the smaller operand, with -0 below +0 (R114)? -/
def fpBelow (a b : Fp) : Bool :=
  decide (fpOrder a b < 0) || (decide (fpOrder a b = 0) && a.neg && !b.neg)

/-- FMIN and FMAX on bit patterns (R117). -/
def fpMinMax (k : Fmt) (wantMax : Bool) (x y : Nat) : Nat × FFlags :=
  let a := unpack k x
  let b := unpack k y
  let g : FFlags := { nv := a.snan || b.snan }
  if a.isNan && b.isNan then (canonNan k, g)
  else if a.isNan then (y, g)
  else if b.isNan then (x, g)
  else (if wantMax then (if fpBelow a b then y else x) else (if fpBelow b a then y else x), g)

/-- FEQ, FLT, FLE (R117): `need` is the set of orders that satisfy the relation. -/
def fpCompare (quietOp : Bool) (lt eq : Bool) (a b : Fp) : Bool × FFlags :=
  if a.isNan || b.isNan then (false, { nv := if quietOp then a.snan || b.snan else true })
  else ((lt && decide (fpOrder a b < 0)) || (eq && decide (fpOrder a b = 0)), {})

/-- FCLASS (R114). -/
def fpClass (k : Fmt) (w : Nat) : Nat :=
  match unpack k w with
  | .nan s => if s then 512 else 256
  | .inf s => if s then 128 else 64
  | .fin s m _ =>
    if m = 0 then (if s then 2 else 1)
    else if m < 2 ^ k.frac then (if s then 8 else 4)
    else (if s then 32 else 16)

/-- A conversion to an integer between `lo` and `hi`, rounded and saturated (R117). -/
def fpToInt (rm : Rm) (lo hi : Int) (a : Fp) : Int × FFlags :=
  match a with
  | .nan _ => (0, { nv := true })
  | .inf s => (if s then lo else hi, { nv := true })
  | .fin s m e =>
    let (n, inexact) := cut rm s m e 0 false
    let v := sgn s n
    if v < lo then (lo, { nv := true })
    else if hi < v then (hi, { nv := true })
    else (v, { nx := inexact && Config.convertSignalsInexact })

/-- A conversion from an integer. -/
def fpOfInt (k : Fmt) (rm : Rm) (v : Int) : Nat × FFlags := roundFp k rm (decide (v < 0)) v.natAbs 0 false

/-- A conversion between formats. -/
def fpConvert (k : Fmt) (rm : Rm) (a : Fp) : Nat × FFlags :=
  match a with
  | .nan s => quiet k s
  | .inf s => (packInf k s, {})
  | .fin s m e => roundFp k rm s m e false

end Sys2Proof.Machine
end

