-- ==== Sys2Proof/Machine/Operands.lean ====
section
/-! DEFINITION. Operand forms and integer arithmetic of the Y64 cores (R112-R116). -/

namespace Sys2Proof.Machine

/-- Immediate, displacement or offset extended to 64 bits. -/
def sext16 (v : BitVec 16) : Reg64 := v.signExtend 64

/-- A 32-bit result, sign-extended (R114). -/
def sextW (v : BitVec 32) : Reg64 := v.signExtend 64

/-- The low word of a register. -/
def lowW (v : Reg64) : BitVec 32 := v.extractLsb' 0 32

/-- A truth value as a register. -/
def flag64 (b : Bool) : Reg64 := if b then 1 else 0

/-- OPR operations (R114). -/
def aluOp (op : AluOp) (a b : Reg64) : Reg64 :=
  let n := b.toNat % 64
  match op with
  | .add => a + b
  | .sub => a - b
  | .and => a &&& b
  | .or => a ||| b
  | .xor => a ^^^ b
  | .andn => a &&& ~~~b
  | .orn => a ||| ~~~b
  | .xnor => ~~~(a ^^^ b)
  | .sll => a <<< n
  | .srl => a >>> n
  | .sra => a.sshiftRight n
  | .ror => a.rotateRight n
  | .slt => flag64 (a.slt b)
  | .sltu => flag64 (a.ult b)
  | .min => if a.slt b then a else b
  | .max => if a.slt b then b else a
  | .minu => if a.ult b then a else b
  | .maxu => if a.ult b then b else a
  | .czeq => if b = 0 then 0 else a
  | .czne => if b ≠ 0 then 0 else a

/-- OPRW operations (R114). -/
def aluwOp (op : AluwOp) (a b : Reg64) : Reg64 :=
  let x := lowW a
  let n := b.toNat % 32
  match op with
  | .addw => sextW (x + lowW b)
  | .subw => sextW (x - lowW b)
  | .sllw => sextW (x <<< n)
  | .srlw => sextW (x >>> n)
  | .sraw => sextW (x.sshiftRight n)
  | .rorw => sextW (x.rotateRight n)

/-- Products (R114). -/
def mulOp (op : MulOp) (a b : Reg64) : Reg64 :=
  match op with
  | .mul => a * b
  | .mulh => BitVec.ofInt 64 (a.toInt * b.toInt / 2 ^ 64)
  | .mulhu => BitVec.ofNat 64 (a.toNat * b.toNat / 2 ^ 64)
  | .mulhsu => BitVec.ofInt 64 (a.toInt * (b.toNat : Int) / 2 ^ 64)
  | .mulw => sextW (lowW a * lowW b)

/-- A signed quotient rounded toward zero, with the results R116 defines for a divisor of 0. -/
def sdivOf {w : Nat} (a b : BitVec w) : BitVec w :=
  if b = 0 then BitVec.allOnes w else BitVec.ofInt w (a.toInt.tdiv b.toInt)

/-- A signed remainder (R116). -/
def sremOf {w : Nat} (a b : BitVec w) : BitVec w :=
  if b = 0 then a else BitVec.ofInt w (a.toInt.tmod b.toInt)

/-- An unsigned quotient (R116). -/
def udivOf {w : Nat} (a b : BitVec w) : BitVec w := if b = 0 then BitVec.allOnes w else a / b

/-- An unsigned remainder (R116). -/
def uremOf {w : Nat} (a b : BitVec w) : BitVec w := if b = 0 then a else a % b

/-- Quotients and remainders (R114, R116). -/
def divOp (op : DivOp) (a b : Reg64) : Reg64 :=
  match op with
  | .div => sdivOf a b
  | .divu => udivOf a b
  | .rem => sremOf a b
  | .remu => uremOf a b
  | .divw => sextW (sdivOf (lowW a) (lowW b))
  | .divuw => sextW (udivOf (lowW a) (lowW b))
  | .remw => sextW (sremOf (lowW a) (lowW b))
  | .remuw => sextW (uremOf (lowW a) (lowW b))

/-- The divisor of a division is 0. -/
def divZero (op : DivOp) (b : Reg64) : Bool :=
  match op with
  | .div | .divu | .rem | .remu => decide (b = 0)
  | _ => decide (lowW b = 0)

/-- Set bits among the lowest `n`. -/
def popCount (a : Reg64) : Nat → Nat
  | 0 => 0
  | n + 1 => b2n (a.getLsbD n) + popCount a n

/-- Zeros above the highest set bit among the lowest `n`. -/
def leadZeros (a : Reg64) : Nat → Nat
  | 0 => 0
  | n + 1 => if a.getLsbD n then 0 else leadZeros a n + 1

/-- Zeros below the lowest set bit, from bit `64 - n` up. -/
def trailZeros (a : Reg64) : Nat → Nat
  | 0 => 0
  | n + 1 => if a.getLsbD (63 - n) then 0 else trailZeros a n + 1

/-- Byte order reversed. -/
def byteSwap (a : Reg64) : Reg64 :=
  (List.range 8).foldl (fun v k => v ||| (((a.extractLsb' (8 * k) 8).setWidth 64) <<< (56 - 8 * k))) 0

/-- The field of EXTU and EXTS (R116): position bits [5:0] of b, length bits [13:8]. -/
def extField (sign : Bool) (a b : Reg64) : Reg64 :=
  let p := b.toNat % 64
  let n := min ((b.toNat / 256) % 64) (64 - p)
  let v := (a >>> p).toNat % 2 ^ n
  if n = 0 then 0
  else if sign && a.getLsbD (p + n - 1) then BitVec.ofNat 64 v ||| (BitVec.allOnes 64 <<< n)
  else BitVec.ofNat 64 v

/-- BITOP operations (R114, R116). -/
def bitOp (op : BitOp) (a b : Reg64) : Reg64 :=
  match op with
  | .clz => BitVec.ofNat 64 (leadZeros a 64)
  | .ctz => BitVec.ofNat 64 (trailZeros a 64)
  | .popc => BitVec.ofNat 64 (popCount a 64)
  | .bswap => byteSwap a
  | .sextb => (a.extractLsb' 0 8).signExtend 64
  | .sexth => (a.extractLsb' 0 16).signExtend 64
  | .sextw => (a.extractLsb' 0 32).signExtend 64
  | .zextb => (a.extractLsb' 0 8).setWidth 64
  | .zexth => (a.extractLsb' 0 16).setWidth 64
  | .zextw => (a.extractLsb' 0 32).setWidth 64
  | .extu => extField false a b
  | .exts => extField true a b

/-- Immediate operations (R115). -/
def immOp (op : ImmOp) (a : Reg64) (imm : BitVec 16) : Reg64 :=
  match op with
  | .addi => a + sext16 imm
  | .addiw => sextW (lowW (a + sext16 imm))
  | .andi => a &&& imm.setWidth 64
  | .ori => a ||| imm.setWidth 64
  | .xori => a ^^^ imm.setWidth 64
  | .slti => flag64 (a.slt (sext16 imm))
  | .sltiu => flag64 (a.ult (sext16 imm))

/-- SHI (R115). -/
def shiftOp (op : ShiftOp) (word : Bool) (a : Reg64) (n : Nat) : Reg64 :=
  if word then
    match op with
    | .slli => sextW (lowW a <<< n)
    | .srli => sextW (lowW a >>> n)
    | .srai => sextW ((lowW a).sshiftRight n)
    | .rori => sextW ((lowW a).rotateRight n)
  else
    match op with
    | .slli => a <<< n
    | .srli => a >>> n
    | .srai => a.sshiftRight n
    | .rori => a.rotateRight n

/-- INSH (R115): halfword `k` replaced. -/
def insertHalf (a : Reg64) (k : Nat) (imm : BitVec 16) : Reg64 :=
  (a &&& ~~~((0xFFFF : Reg64) <<< (16 * k))) ||| (imm.setWidth 64 <<< (16 * k))

/-- B-format conditions on xd and xa (R115). -/
def condHolds (c : Cond) (d a : Reg64) : Bool :=
  match c with
  | .eq => decide (d = a)
  | .ne => decide (d ≠ a)
  | .lt => d.slt a
  | .ge => !(d.slt a)
  | .ltu => d.ult a
  | .geu => !(d.ult a)

/-- Octets of a load or store. -/
def loadSize : LoadOp → Nat
  | .ldb | .ldbu => 1
  | .ldh | .ldhu => 2
  | .ldw | .ldwu | .flw => 4
  | .ldd | .fld => 8
  | .ldp => 16

/-- Octets of a store. -/
def storeSize : StoreOp → Nat
  | .stb => 1
  | .sth => 2
  | .stw | .fsw => 4
  | .std | .fsd => 8
  | .stp => 16

/-- The value a load leaves in its register, from the octets read (R115); LDP's low half. -/
def loadValue (op : LoadOp) (v : Nat) : Reg64 :=
  match op with
  | .ldb => (BitVec.ofNat 8 v).signExtend 64
  | .ldh => (BitVec.ofNat 16 v).signExtend 64
  | .ldw => (BitVec.ofNat 32 v).signExtend 64
  | .ldbu => (BitVec.ofNat 8 v).setWidth 64
  | .ldhu => (BitVec.ofNat 16 v).setWidth 64
  | .ldwu | .flw => (BitVec.ofNat 32 v).setWidth 64
  | .ldd | .fld | .ldp => BitVec.ofNat 64 v

end Sys2Proof.Machine
end

