-- ==== Sys2Proof/Machine/Codes.lean ====
section
/-! DEFINITION. The check codes of the spec: CRC-32C and the Xenex HCRC (R277), the CRC-16 of the bank sync frame
(R231), SHA-256 (trailers of R166, key exchange of R387), and little-endian octet strings (R8). -/

namespace Sys2Proof.Machine

/-- The `n` octets of `v`, least significant first. -/
def leBytes : Nat → Nat → List Byte
  | 0, _ => []
  | n + 1, v => BitVec.ofNat 8 v :: leBytes n (v / 256)

/-- The number a little-endian octet string stands for. -/
def leNat : List Byte → Nat
  | [] => 0
  | b :: bs => b.toNat + 256 * leNat bs

/-- The number of `n` octets at offset `off` of a file; octets beyond its end read 0. -/
def leAt (bs : List Byte) (off n : Nat) : Nat := leNat ((bs.drop off).take n)

/-- `f` applied `n` times. -/
def iterN {α : Type} (f : α → α) : Nat → α → α
  | 0, a => a
  | n + 1, a => iterN f n (f a)

/-- One bit of the reflected CRC-32C (R277: polynomial 0x1EDC6F41, reflected). -/
def crc32cBit (c : BitVec 32) : BitVec 32 :=
  if c.getLsbD 0 then (c >>> 1) ^^^ 0x82F63B78#32 else c >>> 1

/-- One octet of the CRC-32C. -/
def crc32cStep (c : BitVec 32) (b : Byte) : BitVec 32 :=
  iterN crc32cBit 8 (c ^^^ b.setWidth 32)

/-- CRC-32C with the parameters of R277: initial value and final XOR 0xFFFF_FFFF. -/
def crc32c (bs : List Byte) : BitVec 32 := ~~~(bs.foldl crc32cStep 0xFFFFFFFF#32)

/-- One bit of HCRC (R277: polynomial 0x2F, most significant bit first). -/
def hcrcBit (c : Byte) : Byte := if c.getLsbD 7 then (c <<< 1) ^^^ 0x2F#8 else c <<< 1

/-- HCRC of R277: initial value 0xFF and final XOR 0xFF. -/
def hcrc (bs : List Byte) : Byte := (bs.foldl (fun c b => iterN hcrcBit 8 (c ^^^ b)) 0xFF#8) ^^^ 0xFF#8

/-- One bit of the CRC-16 of the bank sync frame (R231: polynomial 0x1021). -/
def crc16Bit (c : BitVec 16) : BitVec 16 := if c.getLsbD 15 then (c <<< 1) ^^^ 0x1021#16 else c <<< 1

/-- The CRC-16 of R231: polynomial 0x1021, initial value 0xFFFF. -/
def crc16 (bs : List Byte) : BitVec 16 :=
  bs.foldl (fun c b => iterN crc16Bit 8 (c ^^^ BitVec.shiftLeft (b.setWidth 16) 8)) 0xFFFF#16

/-- The round constants of SHA-256, first half. -/
def shaKLow : List (BitVec 32) :=
  [0x428a2f98, 0x71374491, 0xb5c0fbcf, 0xe9b5dba5, 0x3956c25b, 0x59f111f1, 0x923f82a4, 0xab1c5ed5,
   0xd807aa98, 0x12835b01, 0x243185be, 0x550c7dc3, 0x72be5d74, 0x80deb1fe, 0x9bdc06a7, 0xc19bf174,
   0xe49b69c1, 0xefbe4786, 0x0fc19dc6, 0x240ca1cc, 0x2de92c6f, 0x4a7484aa, 0x5cb0a9dc, 0x76f988da,
   0x983e5152, 0xa831c66d, 0xb00327c8, 0xbf597fc7, 0xc6e00bf3, 0xd5a79147, 0x06ca6351, 0x14292967]

/-- The round constants of SHA-256, second half. -/
def shaKHigh : List (BitVec 32) :=
  [0x27b70a85, 0x2e1b2138, 0x4d2c6dfc, 0x53380d13, 0x650a7354, 0x766a0abb, 0x81c2c92e, 0x92722c85,
   0xa2bfe8a1, 0xa81a664b, 0xc24b8b70, 0xc76c51a3, 0xd192e819, 0xd6990624, 0xf40e3585, 0x106aa070,
   0x19a4c116, 0x1e376c08, 0x2748774c, 0x34b0bcb5, 0x391c0cb3, 0x4ed8aa4a, 0x5b9cca4f, 0x682e6ff3,
   0x748f82ee, 0x78a5636f, 0x84c87814, 0x8cc70208, 0x90befffa, 0xa4506ceb, 0xbef9a3f7, 0xc67178f2]

/-- The eight working words of SHA-256. -/
structure ShaState where
  a : BitVec 32
  b : BitVec 32
  c : BitVec 32
  d : BitVec 32
  e : BitVec 32
  f : BitVec 32
  g : BitVec 32
  h : BitVec 32
deriving DecidableEq, Repr

/-- The initial words of SHA-256. -/
def shaInit : ShaState :=
  ⟨0x6a09e667, 0xbb67ae85, 0x3c6ef372, 0xa54ff53a, 0x510e527f, 0x9b05688c, 0x1f83d9ab, 0x5be0cd19⟩

/-- One round of SHA-256 with its constant and its message word. -/
def shaRound (s : ShaState) (k w : BitVec 32) : ShaState :=
  let s1 := s.e.rotateRight 6 ^^^ s.e.rotateRight 11 ^^^ s.e.rotateRight 25
  let ch := (s.e &&& s.f) ^^^ (~~~s.e &&& s.g)
  let t1 := s.h + s1 + ch + k + w
  let s0 := s.a.rotateRight 2 ^^^ s.a.rotateRight 13 ^^^ s.a.rotateRight 22
  let maj := (s.a &&& s.b) ^^^ (s.a &&& s.c) ^^^ (s.b &&& s.c)
  ⟨t1 + (s0 + maj), s.a, s.b, s.c, s.d + t1, s.e, s.f, s.g⟩

/-- The next message word from the last sixteen (oldest first), and the window moved on. -/
def shaNext (ws : List (BitVec 32)) : List (BitVec 32) :=
  let g (i : Nat) := ws.getD i 0
  let s0 := (g 1).rotateRight 7 ^^^ (g 1).rotateRight 18 ^^^ (g 1 >>> 3)
  let s1 := (g 14).rotateRight 17 ^^^ (g 14).rotateRight 19 ^^^ (g 14 >>> 10)
  ws.drop 1 ++ [g 0 + s0 + g 9 + s1]

/-- All rounds of one block. -/
def shaRounds : List (BitVec 32) → List (BitVec 32) → ShaState → ShaState
  | [], _, s => s
  | k :: ks, ws, s => shaRounds ks (shaNext ws) (shaRound s k (ws.getD 0 0))

/-- The sum of two SHA-256 states, word by word. -/
def shaSum (x y : ShaState) : ShaState :=
  ⟨x.a + y.a, x.b + y.b, x.c + y.c, x.d + y.d, x.e + y.e, x.f + y.f, x.g + y.g, x.h + y.h⟩

/-- The big-endian words of a block of octets. -/
def beWords : Nat → List Byte → List (BitVec 32)
  | 0, _ => []
  | n + 1, bs => BitVec.ofNat 32 (leNat ((bs.take 4).reverse)) :: beWords n (bs.drop 4)

/-- The blocks of a padded message, one after another. -/
def shaBlocks : Nat → List Byte → ShaState → ShaState
  | 0, _, s => s
  | n + 1, bs, s => shaBlocks n (bs.drop 64) (shaSum s (shaRounds (shaKLow ++ shaKHigh) (beWords 16 bs) s))

/-- SHA-256 of an octet string. -/
def sha256 (m : List Byte) : List Byte :=
  let n := (m.length + 72) / 64
  let pad := m ++ [0x80#8] ++ List.replicate (n * 64 - m.length - 9) 0#8 ++ (leBytes 8 (8 * m.length)).reverse
  let s := shaBlocks n pad shaInit
  [s.a, s.b, s.c, s.d, s.e, s.f, s.g, s.h].flatMap (fun w => (leBytes 4 w.toNat).reverse)

/-- Octets of an ASCII string. -/
def ascii (s : String) : List Byte := s.toList.map (fun c => BitVec.ofNat 8 c.toNat)

end Sys2Proof.Machine
end

