-- ==== Sys2Proof/Machine/State.lean ====
section
/-! DEFINITION. The state of the VPM-4: every register, FIFO, buffer, counter, mode and pin the spec gives the
module, unit by unit, as plain data; the value each field has at reset stands beside it. A field whose docstring
names a log entry has a reset value or a form that the model chose. -/

namespace Sys2Proof.Machine

/-- Why the machine stops. -/
inductive Fault where
  /-- Raised by no meaning at present: kept for a step to which the spec gives no effect at all. Safe: the model
  stops where the part goes on. -/
  | noEffectGiven (what : String)
deriving DecidableEq, Repr

/-- Why a command is turned away by the model itself. -/
inductive Refusal where
  /-- Raised by an arm of `exec` for a command the model does not give a meaning. Safe. -/
  | notModelled (mnemonic : String)
deriving DecidableEq, Repr

/-! ### The module (chapters 01, 17, 18) -/

/-- Module states of R22. -/
inductive ModState where
  | cold | firing | service | run2oo3 | run2oo2 | safeHold | maintenance | banked | wide
deriving DecidableEq, Repr

/-- The code of R22; COLD has none and reads 0 in CTU_RSTCAUSE.PREV. -/
def ModState.code : ModState → Nat
  | .cold => 0 | .firing => 1 | .service => 2 | .run2oo3 => 3 | .run2oo2 => 4 | .safeHold => 5
  | .maintenance => 6 | .banked => 7 | .wide => 8

/-- The steps of the start sequence (R452) that have been done in the present FIRING. -/
structure StartProgress where
  /-- Step 2: the start window has closed and the root is locked or coasts (R199). -/
  clocksUp : Bool := false
  /-- Step 3: a bank has been chosen (R449). -/
  booted : Bool := false
  /-- Steps 4 and 5: Kiln firmware runs, domains are on (R452). -/
  kilnUp : Bool := false
  /-- Step 6: the lane tests have ended (R452). -/
  lanesTested : Bool := false
  /-- Step 8: the start-up injection set has passed (R62). -/
  injected : Bool := false
  /-- Step 10: the lanes are loaded and compared (R452). -/
  loaded : Bool := false
  /-- Step 11: the SAFETY set has passed (R394). -/
  safetyOk : Bool := false
deriving DecidableEq, Repr

/-- Module state, state command and the dictionary entry 0x2000 (R22, R29). -/
structure ModCtl where
  /-- Module state (R22); COLD at reset: power-on reset is held (R485). -/
  state : ModState := .cold
  /-- 0x2000 subindex 2: the command pending (R29). -/
  command : Nat := 0
  /-- 0x2000 subindex 3: cause of the last entry into SAFE-HOLD or SERVICE (R29). -/
  cause : Nat := 0
  /-- 0x2000 subindex 4: state changes since the last reset (R29). -/
  changes : Nat := 0
  /-- Progress of the start sequence (R452). -/
  start : StartProgress := {}
  /-- Product code of the order code (R3; log 14), and the hardware issue letter (R5). -/
  product : Nat := 0x00404801
  issue : Nat := 0x43
deriving DecidableEq, Repr

/-- Power control: domains, supply, resets, temperature and slot contacts (chapters 17 and 18). -/
structure Power where
  /-- CTU_PDSTAT.ON (R476): PD0 on at reset. -/
  on : BitVec 12 := 1
  /-- CTU_PDSTAT.FAULT: switched off by a rail fault since last switched on (R465). -/
  railFault : BitVec 12 := 0
  /-- CTU_RSTCAUSE.KIND (R472). -/
  rstKind : Nat := 1
  /-- CTU_RSTCAUSE.DETAIL (R472). -/
  rstDetail : Nat := 0
  /-- CTU_RSTCAUSE.PREV: module state code when the reset was asserted. -/
  rstPrev : Nat := 0
  /-- CTU_SUPPLY.STATE: 0 in range, 1 power-fail warning, 2 past the power-fail point (R469). -/
  supply : Nat := 0
  /-- CTU_SUPPLY.VOLT, 100 mV units. -/
  volt : Nat := 0
  /-- Lowest voltage since the standing warning, for SUPPLY_DIP (R477). -/
  lowest : Nat := 0
  /-- 0x2B00 subindex 7: power-fail warnings since power-on (R478). -/
  warnings : Nat := 0
  /-- 0x2B00 subindex 8: module resets since power-on. -/
  resets : Nat := 0
  /-- 0x2B00 subindex 9: supply dips bridged since power-on. -/
  dips : Nat := 0
  /-- 0x2B01 subindices 1-7: resets of each kind since manufacture. -/
  resetsOfKind : Vector Nat 7 := Vector.replicate 7 0
  /-- The wake mask taken at the entry into BANKED (R479). -/
  wakeMask : Nat := 7
  /-- Wake events held during the entry into BANKED: cause and port or bank (R467). -/
  heldWake : List (Nat × Nat) := []
  /-- OPTIME at the acceptance of command 3 (R477: BANKED_ENTER and WAKE give times). -/
  bankedAt : Nat := 0
  /-- The Banked power state is reached: step 5 of R467 has ended. -/
  bankedReached : Bool := false
  /-- The start in progress follows a reset that left PD0 powered: the CRC-32C of the Kiln's retained area is still
  to be judged (R474). -/
  retained : Bool := false
  /-- CTU_TEMP.TEMP, 0.1 °C (R497). -/
  temp : BitVec 16 := 0
  /-- CTU_TEMP.WARN. -/
  tempWarn : Bool := false
  /-- CTU_TEMP.TRIP. -/
  tempTrip : Bool := false
  /-- Consecutive measurements at or above 120 °C (R497: 1 s is ten of them). -/
  hotRun : Nat := 0
  /-- 0x4010 subindex 2: highest temperature since manufacture (R498; log 6). -/
  hottest : BitVec 16 := 0
  /-- A temperature has been measured since manufacture (log 6). -/
  measured : Bool := false
  /-- Measurements at or above 105 °C since manufacture, 100 ms each (0x4010 subindex 3). -/
  hotTenths : Nat := 0
  /-- 0x4010 subindex 4: withdrawals since manufacture. -/
  withdrawals : Nat := 0
  /-- CTU_SLOT.WDRAWN. -/
  withdrawn : Bool := false
  /-- CTU_SLOT.MATE. -/
  mate : Bool := true
  /-- CTU_SLOT.POS and TWL_CFG.POS: TWPOS sampled at the release of power-on reset (R482; reset X, log 7). -/
  pos : Bool := false
deriving DecidableEq, Repr

/-! ### Lanes, voter and rotation (chapters 02 and 03) -/

/-- Lane states of R71. -/
inductive LaneState where
  | spare | wedging | wedged | active | bisque | quarantine | retired | split
deriving DecidableEq, Repr

def LaneState.code : LaneState → Nat
  | .spare => 0 | .wedging => 1 | .wedged => 2 | .active => 3 | .bisque => 4 | .quarantine => 5
  | .retired => 6 | .split => 7

/-- Voting modes of R55. -/
inductive VoteMode where
  | none | oo1 | oo2 | oo3 | split
deriving DecidableEq, Repr

def VoteMode.code : VoteMode → Nat
  | .none => 0 | .oo1 => 1 | .oo2 => 2 | .oo3 => 3 | .split => 4

/-- The retirement record of a lane (R61). -/
structure Retirement where
  test : Nat
  optime : Nat
  addr : Option Nat
deriving DecidableEq, Repr

/-- One lane as the VRC and the Kiln see it. -/
structure Lane where
  state : LaneState := .spare
  fenced : Bool := false
  /-- Gate set driven: none, or 0-2 for G0-G2. -/
  gate : Option (Fin 3) := none
  /-- Held in lane reset (R52, R56, R109). -/
  held : Bool := true
  /-- Fallen silent (R38). -/
  silent : Bool := false
  /-- Halted in WIDE until the next module reset (R503). -/
  stopped : Bool := false
  /-- LKS_MMINFO: CLASS and GROUPS. -/
  mmClass : Nat := 0
  mmGroups : BitVec 13 := 0
  /-- LKS_CECNT. -/
  ceSram : Nat := 0
  ceDram : Nat := 0
  /-- The two most recent QUARANTINE entry times, newest first (R60). -/
  transients : List Nat := []
  retired : Option Retirement := none
  /-- Cause event code of the present stay in QUARANTINE (R73). -/
  qCause : Nat := 0
  /-- Lane memory is stale: the lane came from QUARANTINE (R59, R82). -/
  stale : Bool := false
  /-- Order of the boundary at which the lane became ACTIVE (R78). -/
  since : Nat := 0
  /-- 0x2201: OPTIME of the last passed bisque; 0: never. -/
  bisqueAt : Nat := 0
  /-- BISQUE_OVERDUE has been recorded in the present period (R79). -/
  overdue : Bool := false
  /-- The two LBIST, core and MBIST results of the start-up tests passed (R452 step 6). -/
  usable : Bool := false
  /-- Lane executive or application load mismatched once (R454). -/
  loadOnce : Bool := false
deriving DecidableEq, Repr

/-- A response on its way back from a voted target (R44, R125): tag, data, and whether it is a bus error. -/
structure Response where
  tag : Nat
  /-- The core that asked, in WIDE (R67). -/
  core : Option (Fin 8)
  data : BitVec 128
  err : Bool
deriving DecidableEq, Repr

/-- The voter: VRC registers at 0x0000-0x00FF and what they stand on. -/
structure Vrc where
  mode : VoteMode := .none
  subst : Bool := false
  svc : Fin 4 := 0
  aref : Fin 4 := 0
  lanes : Vector Lane 4 := Vector.replicate 4 {}
  /-- VRC_EXCL. -/
  exGroups : BitVec 13 := 0
  exNoMaj : Bool := false
  exCause : Nat := 0
  exLanes : BitVec 4 := 0
  exLane : Nat := 0
  exFrc : BitVec 64 := 0
  exAddr : BitVec 40 := 0
  exAttr : BitVec 24 := 0
  /-- VRC_INJSTAT. -/
  injStartOk : Bool := false
  injBisqOk : Bool := false
  injBisqLane : Nat := 0
  injGroup : Nat := 0
  injKind : Nat := 0
  injPair : Nat := 0
  /-- VRC_INJSTAT as the last start-up set and the last bisque set left it: 0x2100 subindices 6 and 7. -/
  injAtStart : Nat := 0
  injAtBisq : Nat := 0
  xcount : Nat := 0
  wideRej : Nat := 0
  /-- 0x2100 subindex 3 has been written since the last reset (R65). -/
  wideWritten : Bool := false
  /-- Owners of the channels in force in WIDE, from 0x2110 (R68). -/
  owners : Vector Nat 48 := Vector.replicate 48 0xFF
  /-- Beats of the write bursts in progress (R51), with the core that sends them in WIDE. -/
  burst : List (Option (Fin 8) × Beat) := []
  /-- Read data on its way back (R44), oldest first. -/
  responses : List Response := []
  /-- Exclusive reservations the voted shared buffers keep: master (a core in WIDE, 8 the voted lanes), granule (R128). -/
  bufResv : List (Nat × Nat) := []
  /-- Interrupts held during a rewedge (R93 step 3). -/
  heldInts : List Nat := []
  /-- Boundaries at which a lane became ACTIVE, counted. -/
  actSeq : Nat := 0
deriving DecidableEq, Repr

/-- An entry of the mirror voter (R83). -/
structure MirrorEntry where
  addr : BitVec 40
  be : BitVec 16
  data : BitVec 128
deriving DecidableEq, Repr

/-- A rewedge in progress (R93). -/
structure Rewedge where
  joining : Fin 4
  gate : Fin 3
  /-- The outgoing lane of a bisque swap; none for a substitution. -/
  out : Option (Fin 4)
  /-- The lane whose place a substitution takes. -/
  excluded : Option (Fin 4)
  /-- Steps 3-7 have been done. -/
  done : Bool
deriving DecidableEq, Repr

/-- The rotation controller: VRC registers at 0x0100-0x01FF and what they stand on. -/
structure Rotation where
  en : Bool := false
  period : Nat := 60000
  due : Nat := 0
  pend : Bool := false
  defer : Nat := 0
  /-- ROT_STARVED has been recorded for the pending swap (R79). -/
  starved : Bool := false
  /-- VRC_BISQSTAT. -/
  bLane : Fin 4 := 0
  bStep : Nat := 0
  bResult : Nat := 0
  bFail : Nat := 0
  bSlices : Nat := 0
  /-- OPTIME at the start of the bisque, and FRC at the start of its step. -/
  bStart : Nat := 0
  bStepFrc : BitVec 64 := 0
  /-- Lanes that are SPARE and wait, the first first (R82). -/
  waiting : List (Fin 4) := []
  /-- VRC_WEDGESTAT. -/
  wLane : Fin 4 := 0
  wPhase : Nat := 0
  wRecopy : Nat := 0
  /-- VRC_WCOPY. -/
  wCopy : Nat := 0
  /-- Operating time at the start of the wedging, in counts of 2 ns (R89). -/
  wStart : Nat := 0
  /-- Pages that differed once in this wedging (R89). -/
  wDiffer : List Nat := []
  /-- The written-page map: the marked pages (R87). -/
  pages : List Nat := []
  /-- Mirror FIFO, oldest first (R85). -/
  fifo : List MirrorEntry := []
  hold : Bool := false
  /-- VRC_MIRRHOLD in FRC counts: 500 to the microsecond. -/
  holdCounts : Nat := 0
  need : Nat := 0
  avail : Nat := 0
  rewedge : Option Rewedge := none
  /-- Gate sets driven by the banks until the joining lane's first commit (R96). -/
  gateWait : List (Fin 3) := []
  /-- The lane whose place in the vote is vacant (R98). -/
  vacant : Option (Fin 4) := none
  swaps : Nat := 0
  substitutions : Nat := 0
  deferrals : Nat := 0
  lastWedge : Nat := 0
deriving DecidableEq, Repr

/-! ### Interrupt registers of the voted blocks -/

/-- The INTSTAT and INTEN registers of a block. -/
structure IntRegs where
  stat : Reg32 := 0
  en : Reg32 := 0
deriving DecidableEq, Repr

/-! ### Cores (chapter 04) and the lane-local blocks (chapters 04, 05, 15) -/

/-- An interrupt's or exception's place in the lane interrupt controller (R133-R135). -/
structure Lic where
  pend : BitVec 384 := 0
  en : BitVec 384 := 0
  /-- LIC_PRIO0-LIC_PRIO47: four bits a source. -/
  prio : BitVec 1536 := 0
  level : Nat := 0
  /-- Levels pushed at claims not yet ended, newest first. -/
  stack : List Nat := []
  claim : Option Nat := none
deriving DecidableEq, Repr

/-- A lane timer (R160). -/
structure LaneTimer where
  mode : BitVec 2 := 0
  run : Bool := false
  ie : Bool := false
  exp : Bool := false
  preset : Reg32 := 0
  /-- Elapsed time, µs, at which it next expires. -/
  due : Nat := 0
deriving DecidableEq, Repr

/-- The performance counters of a lane or core (R430-R441). -/
structure Lpc where
  gen : Bool := false
  derr : Bool := false
  ovf : BitVec 16 := 0
  ien : BitVec 16 := 0
  dumpAddr : Reg32 := 0
  dumpPer : Reg32 := 0
  dumpSeq : Nat := 0
  /-- Elapsed time, us, of the last dump (R436: one dump in a microsecond). -/
  dumpUs : Option Nat := none
  evsel : Vector (BitVec 10) 16 := Vector.replicate 16 0
  cnt : Vector (BitVec 48) 16 := Vector.replicate 16 0
  /-- LPC_CNTnH as latched by a read of LPC_CNTnL, and as a write holds it. -/
  readH : Vector (BitVec 16) 16 := Vector.replicate 16 0
  heldH : Vector (BitVec 16) 16 := Vector.replicate 16 0
  v2ovf : BitVec 16 := 0
deriving DecidableEq, Repr

/-- A line of a cache (R122): set, way, tag, content, and when it was last used. -/
structure CacheLine where
  set : Nat
  way : Nat
  tag : Nat
  data : List Byte
  used : Nat
deriving DecidableEq, Repr

/-- The combining buffer (R124): one aligned block of 64 octets, the octets written and their values. -/
structure Combine where
  base : Nat
  be : BitVec 64
  data : BitVec 512
deriving DecidableEq, Repr

/-- The control words at lane reset (R110). -/
def resetWords : Vector Reg64 64 :=
  ((Vector.replicate 64 0).set 0 1).set 5 0x0100001000

/-- An instruction that waits for the bridge (R362, R364). -/
inductive PendAcc where
  | load (op : LoadOp) (d : Fin 32)
  | store
  | ldx (dbl : Bool) (d : Fin 32)
  | stx (d : Fin 32)
  | sync (d : Fin 32)
deriving DecidableEq, Repr

/-- A Y64 core with its lane-local blocks (R105-R111, R122-R124, R128). In voted operation entry 2n is core P of
lane n and 2n + 1 its core S. -/
structure Core where
  /-- x0-x31; entry 0 stays 0. -/
  x : Vector Reg64 32 := Vector.replicate 32 0
  f : Vector Reg64 32 := Vector.replicate 32 0
  pc : Reg64 := 0x0100000000
  /-- Control words 0-63; 16-31 are reserved and stay 0. -/
  cw : Vector Reg64 64 := resetWords
  /-- Fabric transaction tag counter (R125). -/
  tag : BitVec 6 := 0
  /-- Waiting in WFI (R133). -/
  wfi : Bool := false
  /-- A pending imprecise bus error and its burst address (R131). -/
  imprecise : Option (BitVec 40) := none
  /-- Granule of the exclusive reservation the core holds or has on record (R128). -/
  resv : Option Nat := none
  /-- Store buffer, oldest first (R123). -/
  sbuf : List MirrorEntry := []
  cbuf : Option Combine := none
  icache : List CacheLine := []
  dcache : List CacheLine := []
  /-- Count of cache uses, which orders them for replacement. -/
  uses : Nat := 0
  lic : Lic := {}
  timers : Vector LaneTimer 16 := Vector.replicate 16 {}
  /-- LTM_ELAPH as latched by a read of LTM_ELAPL. -/
  elapH : Reg32 := 0
  lpc : Lpc := {}
  /-- The last read data that reached the lane port (R44). -/
  port : Option Response := none
  /-- Halted by the debugger, and its breakpoints (R402-R406). -/
  halted : Bool := false
  /-- Instructions the debugger lets a halted core execute (R405). -/
  steps : Nat := 0
  /-- The instruction at PC waits for the bridge's answer. -/
  pend : Option PendAcc := none
deriving DecidableEq, Repr

/-- What the executive saves of a core when another task runs on it (R152, R172). -/
structure CoreCtx where
  x : Vector Reg64 32
  f : Vector Reg64 32
  pc : Reg64
  status : Reg64
  fpcsr : Reg64
  tptr : Reg64
deriving DecidableEq, Repr
/-! ### Cycle sequencer, application and lane timers (chapter 05) -/

/-- A latch or commit list entry (R169). -/
structure ListEntry where
  kind : Nat
  length : Nat
  src : Nat
  dst : Nat
deriving DecidableEq, Repr

/-- A task as the image configures it (R167). -/
structure TaskCfg where
  entry : Nat
  stack : Nat
  period : Nat
  latch : Nat
  commit : Nat
  /-- D_n in tenths of a µs: the deadline field, or the default of R155. -/
  deadline : Nat
  stall : Nat
  latchList : List ListEntry
  commitList : List ListEntry
  inImg : Nat
  outImg : Nat
  glaze : Nat
  own : BitVec 48
  gp : Nat
deriving DecidableEq, Repr

/-- A section of an application image (R168). -/
structure Section where
  load : Nat
  fileOff : Nat
  fileSize : Nat
  memSize : Nat
  kind : Nat
deriving DecidableEq, Repr

/-- An entry of a migration map (R169). -/
structure Migration where
  src : Nat
  dst : Nat
  length : Nat
deriving DecidableEq, Repr

/-- An application image as the Kiln reads it (R166). -/
structure AppImage where
  appId : Nat
  build : Nat
  gapLen : Nat
  xnTask : Option (Fin 8)
  xnLead : Nat
  xnMacro : Nat
  bgEntry : Nat
  bgStack : Nat
  schedCrc : Nat
  crc : Nat
  tasks : Vector (Option TaskCfg) 8
  sections : List Section
  migrations : List Migration
  /-- CYS_IMG.HDR: the spec does not say where the header is loaded (log 10). -/
  hdr : Reg32
  /-- The file itself. -/
  file : List Byte
deriving DecidableEq, Repr

/-- Cycle states of R156. -/
inductive CycState where
  | notConfigured | idle | latch | run | held | commit | overrun | stopped
deriving DecidableEq, Repr

def CycState.code : CycState → Nat
  | .notConfigured => 0 | .idle => 1 | .latch => 2 | .run => 3 | .held => 4 | .commit => 5 | .overrun => 6
  | .stopped => 7

/-- A task as the sequencer runs it. -/
structure Task where
  state : CycState := .notConfigured
  /-- Cycle number of the present or last cycle (R144). -/
  cycle : Nat := 0
  /-- Network time of its release tick, ns. -/
  relNs : Int := 0
  /-- Elapsed time of the previous executed latch, ns; none before the first (R147 DT). -/
  lastLatch : Option Nat := none
  /-- EXEC of R147 and CYS_TnCNT. -/
  count : Nat := 0
  /-- SKIP of R147: releases skipped since the previous executed latch. -/
  skipNow : Nat := 0
  ovr : Nat := 0
  skip : Nat := 0
  /-- Edges since the previous executed latch (R148). -/
  rise : BitVec 48 := 0
  fall : BitVec 48 := 0
  /-- FIRST of R147 is due at the next latch; after FIRING the edges and DT are 0 as well. -/
  first : Bool := false
  firstFiring : Bool := false
  /-- STEP of R147 is due at the next latch. -/
  step : Bool := false
  /-- The next release is skipped (R156). -/
  skipNext : Bool := false
  /-- Execution time of the present cycle in FRC counts (R506). -/
  execCounts : Nat := 0
  execLast : Nat := 0
  execMax : Nat := 0
  /-- A cycle has closed under the present image (R178). -/
  closedOnce : Bool := false
  /-- Counts since the last reset, for 0x3020 + n (R183, R184): executed cycles, overruns, skipped releases, last and
  longest execution in µs. -/
  cycles : Nat := 0
  ovrs : Nat := 0
  skips : Nat := 0
  lastUs : Nat := 0
  maxUs : Nat := 0
deriving DecidableEq, Repr

/-- Online change states of CYS_STAT.OLC. -/
inductive Olc where
  | none | staged | accepted | switching
deriving DecidableEq, Repr

def Olc.code : Olc → Nat
  | .none => 0 | .staged => 1 | .accepted => 2 | .switching => 3

/-- The cycle sequencer and the application it runs. -/
structure Cys where
  /-- CYS_CTL.RUN and DUMP. -/
  run : Bool := false
  dump : Bool := false
  /-- The running image; none: no application (0x3000 subindex 3 reads 0). -/
  app : Option AppImage := none
  tasks : Vector Task 8 := Vector.replicate 8 {}
  /-- CYS_TICKL/H: number of the last tick. -/
  tick : BitVec 64 := 0
  tickH : Reg32 := 0
  /-- GAP_WARN has been raised for the coming gap (R152). -/
  warned : Bool := false
  /-- CYS_STAT.GAP, ACK and QUIET. -/
  gap : Bool := false
  ack : Bool := false
  quiet : Bool := false
  /-- The lanes wait in WFI from the executive's acknowledgement to GAP_END (R152). -/
  waiting : Bool := false
  /-- CYS_GAPINFO. -/
  avail : Nat := 0
  resv : Nat := 0
  /-- Reserves present in the present gap (R153). -/
  resvSafety : Bool := false
  resvDump : Bool := false
  /-- Work that GAP_NOACK moved to the next gap (R152). -/
  movedDump : Bool := false
  /-- Tasks released at the last tick whose latch has not ended; the first is being latched (R146). -/
  latchQ : List (Fin 8) := []
  /-- Done cycles in the order of their done writes: task, glaze entries (R149). -/
  commitQ : List (Fin 8 × Nat) := []
  /-- The commit in progress, and the posting in progress: task, glaze entries. -/
  commit : Option (Fin 8 × Nat) := none
  posting : Option (Fin 8 × Nat) := none
  /-- Elapsed time, ns, at which the last commit or posting taken on ends (R149). -/
  busyUntil : Int := 0
  /-- δ of the standby's grid, in ns (R325, R327). -/
  delta : Int := 0
  /-- A network time step not yet followed by a tick: forward, and the network time before which no tick comes (R162). -/
  stepPend : Option (Bool × Int) := none
  /-- Staged image (R174). -/
  staged : Option AppImage := none
  olc : Olc := .none
  /-- The gap in which the lanes accepted the request has not ended yet (R175). -/
  olcSameGap : Bool := false
  /-- The present gap is the switch gap. -/
  switchGap : Bool := false
  /-- The image replaced by the last switch, until R178 lets the new one be stored. -/
  switchedFrom : Option Nat := none
  /-- Bytes copied by the last switch. -/
  switchBytes : Nat := 0
  /-- CYS_OLC. -/
  result : Nat := 0
  need : Nat := 0
  /-- 0x3000 subindices 5 and 6, 0x3030 subindex 3. -/
  quietGaps : Nat := 0
  noacks : Nat := 0
  xnLateCount : Nat := 0
  /-- Xenex inputs: a macrocycle was started or accepted for the coming latch, its input slots are complete, the
  last complete values, and XN_LATE of the last latch at a multiple of M (R163, R164). -/
  xnStarted : Bool := false
  xnComplete : Bool := false
  xnLast : List Host.Cell := []
  xnLateLast : Bool := false
  /-- The background task has been entered (R154); otherwise it waits for the next GAP_END. -/
  bgRunning : Bool := false
  /-- Whose code the lane executive runs (R152, R172): a task, 8 for the background task, or none. -/
  current : Option (Fin 9) := none
  /-- The contexts of tasks and of the background task that the executive has saved. -/
  saved : Vector (Option CoreCtx) 9 := Vector.replicate 9 none
deriving DecidableEq, Repr

/-! ### Clock tree and network time (chapters 06 and 07) -/

/-- The clock selection state of R189. -/
inductive ClkState where
  | start | locked | switching | coast
deriving DecidableEq, Repr

/-- The clock side of the CTU (R185-R210). -/
structure Clk where
  state : ClkState := .start
  /-- CTU_STAT.REF: 0 port 0, 1 port 1, 2 TCXO, 3 coast, 4 none. -/
  ref : Nat := 4
  /-- Target of the ramp in progress: 0-2 a source, 3 coast. -/
  target : Nat := 4
  /-- CTU_STAT.VALID: port 0, port 1, TCXO, ember. -/
  valid : BitVec 4 := 0
  emberFail : Bool := false
  startWin : Bool := true
  lock : Bool := false
  coast : Bool := false
  /-- The interfaces of R198 are inactive: from COAST set to COAST_EXIT (R198, R234). -/
  quiet : Bool := false
  /-- Cause of a loss of the target found after the root had moved to it (R189). -/
  lostCause : Nat := 2
  /-- FRC at the start of the ramp, the reference it leaves, and FRC at which COAST was set. -/
  rampAt : BitVec 64 := 0
  fromRef : Nat := 4
  coastAt : BitVec 64 := 0
  /-- CTU_RAMP. -/
  rampStep : Nat := 0
  ramps : Nat := 0
  /-- CTU_REFCFG. -/
  revert : Bool := true
  role : BitVec 2 := 1
  mask : BitVec 3 := 4
  clken0 : BitVec 7 := 0
  clken1 : BitVec 4 := 0
  /-- Enables the Kiln has asked for, not yet applied (R203). -/
  want0 : BitVec 7 := 0
  want1 : BitVec 4 := 0
  /-- CTU_FMCTL, CTU_FMGATE, CTU_FMCNT. -/
  fmVoid : Bool := false
  fmDone : Bool := false
  fmBusy : Bool := false
  fmRef : Nat := 0
  fmMeas : Nat := 0
  fmGate : Nat := 0
  fmCount : Reg32 := 0
  /-- A ramp overlapped the measurement in progress (R205). -/
  fmRamped : Bool := false
  /-- CTU_BERRL/H and the latch of CTU_BERRH. -/
  berrAddr : BitVec 40 := 0
  berrValid : Bool := false
  berrMaster : Nat := 0
  berrWr : Bool := false
  berrKind : Nat := 0
  berrH : Reg32 := 0
  berrCount : Nat := 0
  /-- 0x2300 subindices 6-8 (R209). -/
  refSwitches : Nat := 0
  coastEntries : Nat := 0
  coastMs : Nat := 0
  /-- FRC counts into the present ms of coast. -/
  coastSub : Nat := 0
  /-- 0x2301: last measured frequencies, by source (R209). -/
  freqs : Vector Nat 13 := Vector.replicate 13 0
deriving DecidableEq, Repr

/-- The peer-delay measurement of one backbone port (R225). -/
structure PeerDelay where
  /-- Link delays of the last completed exchanges, newest first, at most 8, in 2^-16 ns. -/
  delays : List Int := []
  valid : Bool := false
  /-- Exchanges completed since the value became invalid. -/
  fresh : Nat := 0
  /-- Consecutive exchanges without a response. -/
  fails : Nat := 0
  /-- A Pdelay_Req is out and unanswered. -/
  waiting : Bool := false
  /-- Neighbour rate ratio, parts in 2^-32 (R225). -/
  ratio : Int := 0
  /-- Pdelay_Req answered. -/
  answers : Nat := 0
deriving DecidableEq, Repr

/-- A selected PTP master (R223). -/
structure Master where
  identity : BitVec 64
  port : Fin 2
  /-- ptpTimescale announced. -/
  tai : Bool
  /-- Grandmaster clockIdentity, and the announced data set in the order of the algorithm. -/
  gm : BitVec 64
  rank : Nat
deriving DecidableEq, Repr

/-- A Sync waiting for its Follow_Up (R224): sequenceId, ingress timestamp and correction, in 2^-16 ns. -/
structure SyncWait where
  seq : BitVec 16
  rx : Int
  corr : Int
  port : Fin 2
  /-- Elapsed time, ns, by which its Follow_Up arrives. -/
  due : Int
deriving DecidableEq, Repr

/-- Network time and the ordinary clock (R211-R239). -/
structure Tim where
  /-- The free-running counter (R211). -/
  frc : BitVec 64 := 0
  /-- Core clocks that fractions of FRC counts add up to, in coast (R190): fifths of a clock. -/
  coreFifths : Nat := 0
  /-- OFFSET of R212, in 2^-16 ns. -/
  offset : Int := 0
  /-- FRC_REF of R212. -/
  frcRef : BitVec 64 := 0
  /-- RATE of R212, 2^-32. -/
  rate : Int := 0
  /-- SL of R220, 2^-32. -/
  sl : Int := 0
  /-- Sum of all steps (R214), 2^-16 ns. -/
  stepSum : Int := 0
  /-- TIME_LOCAL (R217). -/
  timeLocal : Bool := true
  /-- The three conditions of UNCERT (R218). -/
  uncNoLock : Bool := true
  uncCoast : Bool := false
  uncBound : Bool := false
  /-- Elapsed time at which UNCERT was set, ns (R237). -/
  uncSince : Int := 0
  /-- ARB (R219). -/
  arb : Bool := false
  /-- TAI time was last taken from a master (R223). -/
  hadTai : Bool := false
  /-- CTU_LASTOFS: last measured offset, ns, and the elapsed time of the measurement, ns; none before the first. -/
  lastOfs : Int := 0
  lastAt : Option Int := none
  /-- Latches of CTU_FRCH and CTU_TIMESECL/H (R216): the lanes', and the Kiln's own. -/
  frcH : Reg32 := 0
  timeSecL : Reg32 := 0
  timeSecH : Reg32 := 0xC0000000
  /-- CTU_ADJNS, CTU_ADJSECL/H, CTU_ADJCTL. -/
  adjNs : Reg32 := 0
  adjSecL : Reg32 := 0
  adjSecH : BitVec 16 := 0
  slewPpm : Nat := 100
  adjErr : Bool := false
  busy : Bool := false
  /-- FRC at which the slew in progress has been applied. -/
  slewEnd : BitVec 64 := 0
  adjMode : Nat := 0
  /-- STEPCNT of R231, and whether a step followed the last frame sent. -/
  stepCnt : Nat := 0
  stepSince : Bool := false
  /-- A rebase waits for its extra frame (R231). -/
  rebased : Bool := false
  /-- Ordinary clock: selected master, self as grandmaster (R223). -/
  master : Option Master := none
  gmSelf : Bool := false
  hold : Bool := false
  /-- sequenceId of the last accepted Sync; none: any is accepted (R224). -/
  lastSeq : Option (BitVec 16) := none
  sync : Option SyncWait := none
  /-- Syncs accepted from the selected master since its selection (R502). -/
  accepted : Nat := 0
  /-- A Sync has been accepted since power-on (R220). -/
  everAccepted : Bool := false
  /-- Accepted Syncs in the present frequency estimate, at most 8 (R220). -/
  estimate : Nat := 0
  delay : Vector PeerDelay 2 := Vector.replicate 2 {}
  /-- Sync messages and Pdelay exchanges sent as master and as requester. -/
  txSeq : BitVec 16 := 0
  pdelaySeq : BitVec 16 := 0
  /-- 0x2311 subindices 9-11. -/
  steps : Nat := 0
  tcCorrected : Nat := 0
  syncTimeouts : Nat := 0
  /-- correctionField of the PTP frame last forwarded between ports 0 and 1, 2^-16 ns (R226). -/
  tcOut : Option (BitVec 64) := none
  /-- The last sync frame sent to the banks: 18 octets (R231). -/
  frame : List Byte := []
  /-- CTU_BSYNC. -/
  bankValid : Vector Bool 3 := Vector.replicate 3 false
  bankJump : Vector Bool 3 := Vector.replicate 3 false
  bankCorr : Vector Int 3 := Vector.replicate 3 0
deriving DecidableEq, Repr

/-! ### Field banks (chapter 08) -/

/-- Channel states of R259. -/
inductive ChanState where
  | unused | input | driven | safe | locked | fault | overload
deriving DecidableEq, Repr

def ChanState.code : ChanState → Nat
  | .unused => 0 | .input => 1 | .driven => 2 | .safe => 3 | .locked => 4 | .fault => 5 | .overload => 6

/-- An entry of a glaze queue: launch time, ns of network time, and state (R262). -/
structure GlazeEntry where
  launch : Int
  state : Bool
deriving DecidableEq, Repr

/-- A channel of a bank (R240-R264). -/
structure Channel where
  /-- Configuration as FIRING loads it from 0x2400 + c (FBx_CHnCFG, FBx_CHnFILT, FBx_CHnDISC). -/
  kind : Nat := 0
  fmode : Bool := false
  time : Nat := 0
  hyst : Nat := 0
  safeSt : Nat := 0
  safeRel : Bool := false
  dark : Bool := false
  disc : Nat := 5
  state : ChanState := .unused
  /-- Fault cause of R269, kept until FBx_FLTCLR releases the channel. -/
  cause : Nat := 0
  /-- Commanded state (R243). -/
  cmd : Bool := false
  /-- Gate latches of the three sections: bit k is Gk (R242). -/
  gates : BitVec 3 := 0
  /-- Raw combined state (R252), and filtered state; readback for an output. -/
  raw : Bool := false
  filt : Bool := false
  /-- The condition that a release needs (R259): input comparators agree, output senses agree. -/
  agree : Bool := true
  /-- The glaze queue in launch order, alike in the three sections (R262). -/
  queue : List GlazeEntry := []
  /-- Watched since the first refresh (R256); FRC of the last refresh. -/
  watched : Bool := false
  refreshAt : BitVec 64 := 0
  /-- SAFE by a bank timeout, so that the next refresh records BANK_RESUME (R258). -/
  timedOut : Bool := false
  /-- Next gate set to test, and the pulse in progress (R246). -/
  darkNext : Fin 3 := 0
  pulse : Option (Fin 3) := none
  /-- A test deferred because of a coming launch (R247). -/
  darkDue : Bool := false
  dtPass : Nat := 0
  dtAbort : Nat := 0
deriving DecidableEq, Repr

/-- An entry of a bank's event FIFO (R254): timestamp, ns of bank time, and the flags word FBx_EVT3. -/
structure FieldEvent where
  ns : Int
  flags : Reg32
deriving DecidableEq, Repr

/-- A bank controller (R240-R271). -/
structure Bank where
  tmo : Nat := 100
  recov : Bool := false
  un : Nat := 0
  horizon : Nat := 10
  stale : Nat := 10
  interval : Nat := 10
  width : Nat := 50
  /-- Configuration has been loaded since the last module reset; before, FBx_SAFE reads 0xFFFF in LOCKED. -/
  loaded : Bool := false
  supply : Nat := 0
  volt : Nat := 0
  /-- FBx_STAT.HOLD: gates held by the twin link. -/
  hold : Bool := false
  coRise : BitVec 16 := 0
  coFall : BitVec 16 := 0
  lastLaunch : Reg32 := 0
  glzRefused : Nat := 0
  glzLate : Nat := 0
  fifo : List FieldEvent := []
  evt : Vector Reg32 3 := Vector.replicate 3 0
  /-- Entries dropped since power-on (R254, 0x2430 subindices 18-20). -/
  evtLost : Nat := 0
  lossMark : Bool := false
  /-- OPTIME of the last EVT_FIFO_OVF record (R254); none before the first. -/
  ovfAt : Option Nat := none
  /-- Bank time (R231, R232): ns and FRC at the last pulse loaded; none since the start of the field side. -/
  base : Option Int := none
  baseFrc : BitVec 64 := 0
  inc : Nat := 1677721600
  /-- FRC counts to a sync clock edge: 50, in coast 125 (R190). -/
  edge : Nat := 50
  stepCnt : Nat := 0
  timeValid : Bool := false
  badRun : Nat := 0
  goodRun : Nat := 0
  /-- Flags of the last frame loaded. -/
  unc : Bool := true
  local_ : Bool := true
  coast : Bool := false
deriving DecidableEq, Repr

/-! ### The Xenex bus (chapter 09) -/

/-- What a dictionary request is answered with: data, or an SDO abort code (R384). -/
inductive Answer where
  | done (data : List Byte)
  | abort (code : Nat)
deriving DecidableEq, Repr

/-- Bus roles of R294. -/
inductive BusRole where
  | off | listen | contend | backoff | master | follower
deriving DecidableEq, Repr

def BusRole.code : BusRole → Nat
  | .off => 0 | .listen => 1 | .contend => 2 | .backoff => 3 | .master => 4 | .follower => 5

/-- A slot of the schedule table (R283); `node` is that of the table. -/
structure XSlot where
  start : Nat
  kind : Nat
  node : Nat
  tx : Nat
  rx : Nat
  txOff : Nat
  rxOff : Nat
  guard : Nat
  input : Bool
deriving DecidableEq, Repr

/-- Supervision of a node address (R291). -/
structure XNode where
  /-- 0 UNCONF, 1 INTEGRATING, 2 ACTIVE, 3 LOST, 4 SUSPENDED. -/
  state : Nat := 0
  driftRun : Nat := 0
  late : Nat := 0
  miss : Nat := 0
  /-- An accepted reply in the present macrocycle. -/
  heard : Bool := false
  /-- Macrocycles begun in the present epoch, in LOST or in SUSPENDED. -/
  count : Nat := 0
  /-- Consecutive probes answered (R292); 2 in ACTIVE: rejoined in the present macrocycle, polled from the next. -/
  probes : Nat := 0
  lastResult : Nat := 0
  /-- OPTIME of the last LATE_EDGE and DRIFT records (R309). -/
  lateAt : Option Nat := none
  driftAt : Option Nat := none
deriving DecidableEq, Repr

/-- A line channel (R288). -/
structure XChan where
  up : Bool := false
  noCopy : Nat := 0
  collided : Nat := 0
  good : Nat := 0
  errors : Nat := 0
deriving DecidableEq, Repr

/-- The request of the slot in progress (R286, R302). -/
inductive XReq where
  | none
  | poll (node : Nat)
  | probe (node : Nat)
  | acyc (node : Nat)
  | offer (node : Nat)
  | answer (node : Nat)
  | claimOpen
deriving DecidableEq, Repr

/-- The acyclic transfer of the gateway (R301, R302, R311). -/
structure Acyc where
  by_ : Session
  node : Nat
  route : Nat
  index : Nat
  sub : Nat
  write : Bool
  tag : Nat
  toggle : Bool
  /-- Octets still to be written, or read so far. -/
  data : List Byte
  total : Nat
  /-- Offset of the block a GDP READ asks for (R353). -/
  off : Nat
  /-- The first segment has been confirmed. -/
  begun : Bool
  /-- Transmissions of the present request after its first. -/
  tries : Nat
  sent : Bool
deriving DecidableEq, Repr

/-- A node's own request waiting for its answer (R303). -/
structure NodeReq where
  node : Nat
  tag : Nat
  index : Nat
  sub : Nat
  /-- The answer to send; none while the dictionary still owes it. -/
  answer : Option Answer
deriving DecidableEq, Repr

/-- The Xenex controller (R272-R311). -/
structure Xenex where
  /-- XNB_CFG and XNB_MAXMACRO, as loaded from 0x2500. -/
  addr : Nat := 0
  csCap : Bool := false
  claimEn : Bool := false
  maxMacro : Nat := 0
  /-- The schedule table in use. -/
  slots : List XSlot := []
  macro_ : Nat := 0
  claimSlot : Nat := 0xFFFF
  schedCrc : Nat := 0
  /-- 0x2510 as stored, and 0x2511 subindex 3. -/
  stored : List Byte := []
  tableResult : Nat := 0
  /-- 0x2500 subindex 14. -/
  startResult : Nat := 0
  role : BusRole := .off
  master : Nat := 0
  epoch : Nat := 0
  /-- The last epoch heard or used since reset. -/
  lastEpoch : Nat := 0
  schMis : Bool := false
  misNoted : Bool := false
  /-- CYCLE_STARTs still to carry TKO (R296). -/
  tko : Nat := 0
  /-- The last own CYCLE_START carried TKO. -/
  lastTko : Bool := false
  mcycle : BitVec 64 := 0
  mcycleH : Reg32 := 0
  macros : Nat := 0
  lateCount : Nat := 0
  driftCount : Nat := 0
  collCold : Nat := 0
  collOther : Nat := 0
  /-- A COLDSTART is on the line. -/
  coldSending : Bool := false
  /-- Collisions in the present contention. -/
  contendColl : Nat := 0
  chans : Vector XChan 2 := Vector.replicate 2 {}
  nodes : Vector XNode 64 := Vector.replicate 64 {}
  /-- Granted slots: index and node (R297). -/
  grants : List (Nat × Nat) := []
  /-- Claims since the last CLAIM_OPEN: address, TXLEN and RXLEN; the answer for the next one: GADDR, GCAUSE, GSLOT,
  TXLEN, RXLEN. -/
  claims : List (Nat × Nat × Nat) := []
  claimAnswer : Nat × Nat × Nat × Nat × Nat := (0, 0, 0xFFFF, 0, 0)
  /-- A grant answered, in force from the next macrocycle. -/
  newGrant : Option (Nat × Nat) := none
  /-- The slot in progress, its request, whether its request collided on both channels, whether a reply was accepted
  or only copies rejected. -/
  slot : Option Nat := none
  /-- The slot after the last one begun in the present macrocycle (R293). -/
  nextSlot : Nat := 0
  req : XReq := .none
  reqColl : Bool := false
  judged : Bool := false
  rejected : Bool := false
  /-- INPUT slots of the macrocycle not complete yet. -/
  inputsLeft : List Nat := []
  /-- The rest of the macrocycle is dropped (R293). -/
  dropped : Bool := false
  /-- The transmit area as it stood at T_m (R289). -/
  txArea : List Host.Cell := []
  /-- The frame last sent: header, payload and FCS. -/
  lastTx : List Byte := []
  /-- Elapsed time of the last frame sent, ns. -/
  lastFrame : Int := 0
  acyc : Option Acyc := none
  nodeReqs : List NodeReq := []
  offered : Nat := 0
  tag : Nat := 0
  /-- 0x2520 subindex 6. -/
  gwAbort : Nat := 0
deriving DecidableEq, Repr

/-! ### Twin operation (chapter 10) -/

/-- Twin roles of R313. -/
inductive TwinRole where
  | alone | integrating | standby | active
deriving DecidableEq, Repr

def TwinRole.code : TwinRole → Nat
  | .alone => 0 | .integrating => 1 | .standby => 2 | .active => 3

/-- A path from the peer (R318). -/
structure TwinPath where
  up : Bool := false
  /-- Consecutive misses, saturating at 255. -/
  miss : Nat := 0
  /-- Consecutive heartbeats while down. -/
  good : Nat := 0
  /-- Elapsed time of the last miss, ns. -/
  missAt : Int := 0
deriving DecidableEq, Repr

/-- The end of one task cycle as a CHECK frame shows it (R324). -/
structure Check where
  task : Nat
  cycle : Nat
  committed : Bool
  crc : Nat
deriving DecidableEq, Repr

/-- An input image received in INPUT frames (R322): task, cycle number, octets by offset, count received. -/
structure InputImage where
  task : Nat
  cycle : Nat
  cells : List Host.Cell
  got : Nat
deriving DecidableEq, Repr

/-- The twin link controller and the Kiln's part in the pair (R312-R336, R504). -/
structure Twin where
  /-- TWL_CFG as loaded from 0x2600 at FIRING: δ in µs, PREF, EN. -/
  delta : Nat := 0
  pref : Nat := 0
  en : Bool := false
  role : TwinRole := .alone
  /-- The peer as its last heartbeat shows it: role, module state, OLC. -/
  peerRole : Nat := 0
  peerState : Nat := 0
  peerOlc : Nat := 0
  /-- Cause code and module state of the last FAULT frame. -/
  peerCause : Nat := 0
  /-- The peer is silent or faulted, and has been recorded so (R318, R319). -/
  peerLost : Bool := false
  link : TwinPath := {}
  pulse : TwinPath := {}
  /-- TWL_MISS.PERR. -/
  pulseErrors : Nat := 0
  /-- Link frames whose CRC failed, since power-on. -/
  crcErrors : Nat := 0
  /-- Elapsed time of the last heartbeat on any path, ns. -/
  lastBeat : Int := 0
  /-- A gate release of a takeover is due, the peer being silent or (false) faulted (R320); TWIN_TAKEOVER has been
  recorded already. -/
  release : Option Bool := none
  tookNoted : Bool := false
  /-- The gate hold is released at the next commit (R327). -/
  releaseAtCommit : Bool := false
  /-- TWR is asserted until this elapsed time, ns. -/
  twrUntil : Int := 0
  /-- The sequencer grid moves to this δ, ns, at the next gap (R327). -/
  gridTo : Option Int := none
  /-- TWL_INTEG. -/
  fail : Nat := 0
  phase : Nat := 0
  pages : Nat := 0
  /-- Elapsed time, ns, of the start of the integration; pages copied; joins deferred; pages that differed once. -/
  started : Int := 0
  copied : Nat := 0
  deferred : Nat := 0
  differ : List Nat := []
  /-- Link latency, ns (R325). -/
  latency : Nat := 0
  /-- A retry of the integration is due (R325). -/
  retry : Bool := false
  /-- Tick of the join, from JOIN. -/
  joinTick : Option Nat := none
  /-- Copied pages whose transfer to the standby is pending, and the pages the checksum covers, by R504. -/
  toCopy : List Nat := []
  /-- Twin forward FIFO, 24-octet entries, oldest first (R326), and MIRROR_HOLD by the TWL. -/
  fwd : List TwinFwd := []
  fwdHold : Bool := false
  /-- FRC counts since the last entry left the forward FIFO. -/
  fwdSub : Nat := 0
  /-- The shared-buffer map: marked pages of 64 KiB (R504). -/
  shared : List Nat := []
  /-- CHECK frames that wait for their pair: own and the peer's. -/
  ownChecks : List Check := []
  peerChecks : List Check := []
  /-- Input images received and not yet latched. -/
  inputs : List InputImage := []
  /-- OPTIME of the last divergence. -/
  divergedAt : Option Nat := none
  diverges : Nat := 0
  /-- A second divergence asks for the module's own reset (R324). -/
  resetDue : Bool := false
  takeovers : Nat := 0
  /-- Elapsed time, ns, at which the revert hold time ends; none: not counting. -/
  revertAt : Option Int := none
  /-- Tick of a handover asked for (R328), and whether the standby has acknowledged it. -/
  handover : Option Nat := none
  handoverAcked : Bool := false
  /-- Tick of the active's switch gap (R330). -/
  olcTick : Option Nat := none
  /-- An image the active has sent for staging waits for the standby's answer (R330). -/
  staging : Bool := false
  craze : BitVec 32 := 0
  peerCraze : BitVec 32 := 0
  /-- OPTIME at which the events of flags 2-4 were last recorded: ROT_STARVED or BISQUE_OVERDUE, BISQUE_FAIL,
  LANE_QUARANTINE (R331). -/
  notedAt : Vector (Option Nat) 3 := Vector.replicate 3 none
  /-- Heartbeats and frames sent since reset. -/
  beats : Nat := 0
  seq : Nat := 0
  /-- The link frame last sent. -/
  lastTx : List Byte := []
  /-- Step sum at the last TIME frame sent, 2^-16 ns; EB of the last TIME frame received, ns. -/
  sentSteps : Int := 0
  activeEb : Nat := 0
deriving DecidableEq, Repr
/-! ### Backbone, consist and CAN FD ports (chapter 11) -/

/-- A frame in the backbone switch: destination MAC to the end of the payload, VID, PCP, tagged or not. -/
structure QFrame where
  octets : List Byte
  vid : Nat
  pcp : Nat
deriving DecidableEq, Repr

/-- A learned source address (R340): VID, MAC, port, elapsed time of its last frame, ns. -/
structure MacEntry where
  vid : Nat
  mac : Nat
  port : Fin 3
  seen : Int
deriving DecidableEq, Repr

/-- An egress port of the switch (R339). -/
structure Egress where
  queues : Vector (List QFrame) 8 := Vector.replicate 8 []
  /-- FRC count at which the frame in transmission and its gap end. -/
  busyUntil : Nat := 0
  /-- Frames dropped on a full queue, in all and since the last record; OPTIME of that record. -/
  dropped : Nat := 0
  recent : Nat := 0
  noted : Option Nat := none
  /-- The last frame sent. -/
  last : List Byte := []
deriving DecidableEq, Repr

/-- A frame for a receive slot (R344): slot, port, tag removed, VID, PCP, ingress time in ns, octets. -/
structure RxFrame where
  slot : Nat
  port : Nat
  tagged : Bool
  vid : Nat
  pcp : Nat
  ns : Int
  octets : List Byte
deriving DecidableEq, Repr

/-- The line-network controller. -/
structure Lnc where
  /-- LNC_CFG, and the VLAN table and filters as FIRING loads them. -/
  vid : Nat := 0
  pcp : Nat := 0
  vlans : List Nat := []
  mac : Nat := 0
  filters : List (List Byte) := []
  /-- LNC_STAT: SPD0 and SPD1; TXEN is computed from the twin role (R347). -/
  spd : Vector Nat 2 := Vector.replicate 2 0
  macs : List MacEntry := []
  egress : Vector Egress 3 := Vector.replicate 3 {}
  /-- Frames dropped by VLAN rules, and frames with a bad FCS. -/
  vlanDrops : Nat := 0
  fcsErrors : Nat := 0
  /-- LNC_DROP and LNC_TXCNT. -/
  miss : Nat := 0
  overran : Nat := 0
  suppr : Nat := 0
  refused : Nat := 0
  sent : Nat := 0
  /-- Frames on their way to a receive slot, oldest first. -/
  rxWait : List RxFrame := []
  /-- Slots whose frame has been latched since it was written. -/
  latched : BitVec 16 := 0
  /-- The frame the internal port sent last. -/
  lastTx : List Byte := []
deriving DecidableEq, Repr

/-- The consist ports (R349, R350). -/
structure Cpn where
  prp : Bool := false
  spd : Vector Nat 2 := Vector.replicate 2 0
  dupl : Nat := 0
  wrong : Nat := 0
  filters : List (List Byte) := []
  /-- Duplicate table: source MAC, sequence number, elapsed time, ns. -/
  seen : List (Nat × Nat × Int) := []
  /-- Node table: MAC addresses. -/
  nodes : List Nat := []
  /-- Elapsed time of the last frame of each LAN, ns, and its failure noted. -/
  lastAt : Vector Int 2 := Vector.replicate 2 0
  failed : Vector Bool 2 := Vector.replicate 2 false
  supervised : Nat := 0
  /-- The frame last sent. -/
  lastTx : List Byte := []
deriving DecidableEq, Repr

/-- A CAN FD channel (R355-R357). -/
structure CanChan where
  /-- Node-ID as FIRING loads it; 0: off bus. -/
  node : Nat := 0
  tec : Nat := 0
  recc : Nat := 0
  /-- 0 off, 1 pre-operational, 2 operational, 3 stopped. -/
  nmt : Nat := 0
  /-- 0 error active, 1 error passive, 2 bus-off, 3 off bus. -/
  bus : Nat := 3
  /-- TPDOs and heartbeats sent; the last PDO sent: TPDO number, octets. -/
  tpdos : Nat := 0
  lastTpdo : Option (Nat × List Byte) := none
  beats : Nat := 0
deriving DecidableEq, Repr

/-- The CAN FD controllers. -/
structure Cfd where
  chans : Vector CanChan 2 := Vector.replicate 2 {}
  /-- Consumer times of 0x1016 that run: a heartbeat has been received and none has been lost since. -/
  consuming : BitVec 4 := 0
deriving DecidableEq, Repr
/-! ### The service bridge (chapter 12) and bandwidth monitors (chapter 15) -/

/-- A region of the service window (R365): base and limit, attributes EN, PF, SE, RO. -/
structure BrgRegion where
  base : Reg32 := 0
  lim : Reg32 := 0
  attr : BitVec 4 := 0
deriving DecidableEq, Repr

/-- A posted write (R367): bridge tag, master (none: the voted lanes), address, byte enables, data. -/
structure Posted where
  tag : Fin 64
  master : Option (Fin 8)
  addr : BitVec 40
  be : BitVec 16
  data : BitVec 128
  /-- Executive level of the beat (R108). -/
  exec : Bool
deriving DecidableEq, Repr

/-- A far-side read or STX in flight. -/
structure FarRead where
  tag : Fin 64
  master : Option (Fin 8)
  addr : BitVec 40
  size : Nat
  /-- The write of an STX. -/
  write : Option (BitVec 16 × BitVec 128)
  excl : Bool
  exec : Bool
deriving DecidableEq, Repr

/-- An access that waits for a tag (R364). -/
structure TagWait where
  master : Option (Fin 8)
  beat : Beat
  /-- FRC count at which it began to wait. -/
  since : Nat
deriving DecidableEq, Repr

/-- A prefetched line (R375): base, octets, region, words already read. -/
structure BrgLine where
  base : Nat
  octets : List Byte
  region : Nat
  taken : BitVec 16
deriving DecidableEq, Repr

/-- An entry of the error log (R369). -/
structure BrgErr where
  w0 : Reg32
  w1 : Reg32
  w2 : Reg32
  w3 : Reg32
deriving DecidableEq, Repr

/-- The service bridge. -/
structure Brg where
  regions : Vector BrgRegion 16 := Vector.replicate 16 {}
  posted : List Posted := []
  reads : List FarRead := []
  waiting : List TagWait := []
  lines : List BrgLine := []
  /-- Semaphore of each region: its master (none in the inner option: the voted lanes). -/
  sems : Vector (Option (Option (Fin 8))) 16 := Vector.replicate 16 none
  log : List BrgErr := []
  err : Vector Reg32 3 := Vector.replicate 3 0
  ovf : Nat := 0
  errCount : Nat := 0
  ovfAt : Option Nat := none
  pfAddr : BitVec 40 := 0
  pfValid : Bool := false
  pfRegion : Nat := 0
  pfCount : Nat := 0
  pfAt : Vector (Option Nat) 16 := Vector.replicate 16 none
  tagWait : Nat := 0
  steal : Nat := 0
  expire : Nat := 0
deriving DecidableEq, Repr

/-- A bandwidth monitor (R434, R435). -/
structure BwMon where
  count : Nat := 0
  last : Nat := 0
  max_ : Nat := 0
deriving DecidableEq, Repr
/-! ### The Kiln: parameters, sessions, SAFETY commit, debugger (chapter 13) -/

/-- A challenge issued (R387): its octets and the elapsed time of issue, ns. -/
structure Challenge where
  octets : List Byte
  at_ : Int
deriving DecidableEq, Repr

/-- A session (R386): entries 0-3 are GDP sessions, 4 and 5 the CANopen FD channels. -/
structure SessionState where
  open_ : Bool := false
  /-- MAINTENANCE level (R385). -/
  maint : Bool := false
  /-- GDP: last answered SEQ and its answer (R354). -/
  seq : Nat := 0
  answer : Option Answer := none
  /-- Client IPv4 address (R359). -/
  client : BitVec 32 := 0
  challenge : Option Challenge := none
  /-- 0x2801 subindices 1 and 2 of this session (R428). -/
  recFirst : Nat := 1
  recCount : Nat := 32
deriving DecidableEq, Repr

/-- A SAFETY write in progress (R395-R399). -/
structure Staged where
  index : Nat
  sub : Nat
  value : List Byte
  /-- The session that asked; none for a value from the active (R399). -/
  by_ : Option Session
  seq : Nat
deriving DecidableEq, Repr

/-- A transfer in blocks (R455). -/
structure Transfer where
  /-- The session that opened it: the number of a GDP session, 100 + the channel for CANopen FD, 200 + the address for a node. -/
  session : Nat
  /-- The octets received so far. -/
  data : List Byte
  /-- Offset and length of the last accepted block. -/
  lastOff : Nat
  lastLen : Nat
deriving DecidableEq, Repr

/-- The Kiln's dictionary side. -/
structure Kiln where
  /-- The parameter set: index, subindex, value, for entries that differ from their default (R392). -/
  params : List ((Nat × Nat) × Nat) := []
  /-- The parameter set as the last FIRING loaded it. -/
  inForce : List ((Nat × Nat) × Nat) := []
  /-- PFV and DIRTY of the stored set (R458); the factory set has the format of the factory firmware (log 15). -/
  pfv : Nat := leAt Config.goldenImage 0x10 2
  dirty : Bool := false
  /-- Old-settings blob: PFV and entries (R460). -/
  blob : Option (Nat × List ((Nat × Nat) × Nat)) := none
  /-- The maintenance key K (R387). -/
  key : List Byte := Config.factoryKey
  sessions : Vector SessionState 6 := Vector.replicate 6 {}
  /-- Answers given to requests, by session: the last of each. -/
  answers : List (Session × Answer) := []
  /-- The answer to the last GDP OPEN: the session number given, or the abort code (R354). -/
  openAnswer : Option Answer := none
  /-- Blocks of a write of 0x2520 subindex 5 received so far (R353, R390). -/
  gwIn : Option Transfer := none
  /-- Elapsed times, ns, of the key exchange refusals within 60 s; end of the lock-out (R388). -/
  keyFails : List Int := []
  /-- FRC of the last challenge issued: no challenge is issued twice (R387). -/
  lastChal : Option (BitVec 64) := none
  lockUntil : Option Int := none
  /-- 0x2520 subindices 1-4 (R310). -/
  gwNode : Nat := 1
  gwRoute : Nat := 0
  gwIndex : Nat := 0x1000
  gwSub : Nat := 0
  /-- The staged SAFETY record; VERD, APPLIED and the verdict (R396, R397). -/
  staged : Option Staged := none
  stage : Vector Reg32 8 := Vector.replicate 8 0
  verdict : Vector Reg32 8 := Vector.replicate 8 0
  verd : Bool := false
  applied : Bool := false
  /-- SAFETY commits since power-on: their next SEQ and their count; the last refusal (R406). -/
  safetySeq : Nat := 0
  commits : Nat := 0
  lastRefusal : Nat := 0
  /-- 0x2010 (R405): target, last command, breakpoint; 0x2012 subindex 1. -/
  target : Nat := 0
  breakpoint : Nat := 0
  memAddr : Nat := 0
deriving DecidableEq, Repr
/-! ### The event recorder (chapter 14) -/

/-- An entry of the staging FIFO, and the recorder's copy of the head record (R410). -/
structure RecEntry where
  code : Nat
  p0 : Nat
  p1 : Nat
  p2 : Nat
  /-- Source code of R410. -/
  src : Nat
  /-- FLAGS[2]: a privileged code (R417). -/
  priv : Bool
  repeats : Nat
  optime : Nat
  pwrcyc : Nat
deriving DecidableEq, Repr

/-- A head copy of the control area (R409): head index and SEQ with a CRC-32C, of which the model holds whether it
is good. -/
structure HeadCopy where
  valid : Bool := false
  index : Nat := 0
  seq : Nat := 0
deriving DecidableEq, Repr

/-- The recorder (R409-R429). MRAM blank at reset: no record since manufacture (log 8). -/
structure Recorder where
  /-- The record slots, 65,536 x 32 octets, as octets of the record window; an unlisted octet reads 0 (log 8). -/
  mram : List Host.Cell := []
  headA : HeadCopy := {}
  headB : HeadCopy := {}
  /-- The head shadow: a record of 32 octets (R420). -/
  shadow : List Byte := []
  /-- OPTIME in the control area (R413). -/
  savedOptime : Nat := 0
  /-- Power-cycle count (R414). -/
  pwrcyc : Nat := 0
  /-- OPTIME, ms (R413). -/
  optime : Nat := 0
  /-- FRC counts into the present ms (R413). -/
  subMs : Nat := 0
  /-- REC_OPTIMEH latched by a read of REC_OPTIMEL. -/
  optimeH : Nat := 0
  /-- REC_HEAD.VALID. -/
  headValid : Bool := false
  /-- REC_HEAD.INDEX. -/
  headIndex : Nat := 0
  /-- REC_HEADSEQ. -/
  headSeq : Nat := 0
  /-- REC_HEAD.SHERDFULL (R412). -/
  sherdFull : Bool := false
  /-- The recorder's copy of the head record (R420); none before the first record. -/
  head : Option RecEntry := none
  /-- A merge into the head waits for its rewrite (R420). -/
  rewrite : Bool := false
  /-- SHERD_FULL is the next record (R412). -/
  sherdNext : Bool := false
  /-- The staging FIFO, oldest first (R415). -/
  fifo : List RecEntry := []
  /-- REC_FIFO.PEAK. -/
  peak : Nat := 0
  /-- REC_FIFO.LOSS (R418). -/
  loss : Nat := 0
  /-- Codes of the first and the last event of the loss count. -/
  lossFirst : Nat := 0
  lossLast : Nat := 0
  /-- Operating time lost at the last loss of power, ms, for REC_START (R413, R425). -/
  lostMs : Nat := 0
  /-- REC_LOST. -/
  lost : Nat := 0
  /-- REC_WRCNT. -/
  written : Nat := 0
  /-- 0x2800 subindex 8: merges since power-on. -/
  merges : Nat := 0
  /-- 0x2810 in force since the last FIRING (R429): (code, BURST, RATE) of each used subindex 1-32. -/
  privileged : List (Nat × Nat × Nat) := []
  /-- Tokens of each privileged code (R417). -/
  tokens : List (Nat × Nat) := []
  /-- Events of each privileged code suppressed since its last one written (R417). -/
  suppressed : List (Nat × Nat) := []
  /-- 0x2811: suppressed since power-on, by subindex. -/
  suppressedTotal : Vector Nat 32 := Vector.replicate 32 0
  /-- REC_EV0-REC_EV2 as lanes wrote them (R426). -/
  ev : Vector Reg32 3 := Vector.replicate 3 0
  /-- REC_EVRES. -/
  evRes : Nat := 0
deriving DecidableEq, Repr

/-! ### Boot, images and field update (chapter 16) -/

/-- Bank states of R446. -/
inductive BankState where
  | empty | writing | written | trial | good | bad
deriving DecidableEq, Repr

def BankState.code : BankState → Nat
  | .empty => 0 | .writing => 1 | .written => 2 | .trial => 3 | .good => 4 | .bad => 5

/-- The firmware area of a bank and its line of the boot record (R444, R446). -/
structure FwBank where
  state : BankState := .empty
  trials : Nat := 0
  release : Nat := 0
  image : List Byte := []
deriving DecidableEq, Repr

/-- The Record-class boot record and the volatile side of the update (R446, R455-R462). Banks: 0 A, 1 B, 2 Golden. -/
structure Boot where
  /-- Bank states at reset: A and B EMPTY, Golden GOOD (log 9). -/
  banks : Vector FwBank 3 :=
    #v[({} : FwBank), ({} : FwBank), ({ state := .good, image := Config.goldenImage } : FwBank)]
  /-- NEXT (log 9). -/
  nextBank : Nat := 2
  /-- PREV; none reads 0xFF. -/
  prev : Option Nat := none
  /-- PREV as it was before the last activation, for command 4 (R457). -/
  savedPrev : Option Nat := none
  /-- 0x2A00 subindex 6: last fallback cause. -/
  fallback : Nat := 0
  /-- Boots since manufacture. -/
  boots : Nat := 0
  /-- Running bank; none in ROM service and before the choice. -/
  running : Option Nat := none
  /-- The bank whose firmware ran at the last reset, for R474. -/
  ranBefore : Option Nat := none
  /-- Release and PFV of the running firmware. -/
  runRelease : Nat := 0
  runPfv : Nat := 0
  /-- The reset being started from was a Kiln watchdog reset during a TRIAL boot of this bank (R450). -/
  watchdogTrial : Option Nat := none
  /-- OPTIME of the end of FIRING (R453); none while in FIRING. -/
  firedAt : Option Nat := none
  /-- Open transfer to 0x2A10 (R455). -/
  fw : Option Transfer := none
  /-- A block waits for the erase of its sector: offset, LAST and octets (R456). -/
  fwWait : Option (Session × Nat × Bool × List Byte) := none
  /-- Sectors of the target area erased in this transfer (R456). -/
  fwErased : List Nat := []
  /-- 0x2A11 subindex 4 (R461). -/
  fwResult : Nat := 0
  /-- Stored application copies of A and B (R445). -/
  appA : List Byte := []
  appB : List Byte := []
  /-- Transfer buffer of 0x3010, with the transfer that fills it (R455). -/
  app : Option Transfer := none
  appBuf : List Byte := []
  /-- The image in the buffer was transferred completely (R455). -/
  appClosed : Bool := false
  /-- Buffer of 0x2510. -/
  sched : Option Transfer := none
  /-- Section loads of step 7 that mismatched once in this FIRING: by target (R454). -/
  loadOnce : List LoadTarget := []
  /-- Processor sections loaded and verified in this FIRING (R454). -/
  loadOk : List LoadTarget := []
  /-- Processor sections that failed twice in this FIRING (R454). -/
  loadFailed : List LoadTarget := []
deriving DecidableEq, Repr

/-! ### The whole module -/

/-- The state of the module and the commands that wait, first in, first out. -/
structure State where
  /-- Commands that wait. -/
  pending : List Instr := []
  /-- The model's own field: free values drawn so far (log 3). -/
  drawn : Nat := 0
  mod : ModCtl := {}
  pwr : Power := {}
  vrc : Vrc := {}
  rot : Rotation := {}
  cys : Cys := {}
  clk : Clk := {}
  tim : Tim := {}
  banks : Vector Bank 3 := Vector.replicate 3 {}
  chans : Vector Channel 48 := Vector.replicate 48 {}
  xn : Xenex := {}
  recd : Recorder := {}
  boot : Boot := {}
  kiln : Kiln := {}
  twl : Twin := {}
  lnc : Lnc := {}
  cpn : Cpn := {}
  cfd : Cfd := {}
  brg : Brg := {}
  bw : Vector BwMon 8 := Vector.replicate 8 {}
  ints : Vector IntRegs 11 := Vector.replicate 11 {}
  /-- Lane memory as each core sees it: in voted operation lane n is entry 2n; in WIDE core n is entry n (R66). -/
  mems : Vector (List Host.Cell) 8 := Vector.replicate 8 []
  cores : Vector Core 8 := Vector.replicate 8 {}
  /-- Octets of the voted shared buffers and of the buffers of XNB, LNC, CPN and CFD, by lane-view address (R19). -/
  vmem : List Host.Cell := []
deriving DecidableEq, Repr

/-- The module right after reset: power-on reset is held, COLD (R485), and every field is at the value the spec
gives for reset or at the value a log entry names. -/
def State.reset : State := {}

end Sys2Proof.Machine
end

