-- ==== Sys2Proof/Machine/Ops.lean ====
section
/-! DEFINITION. The named operations every unit uses: octet memories in canonical form, vectors, and the outcome of
a command. -/

namespace Sys2Proof.Machine

/-- What a command answers. -/
abbrev Out := Host.Outcome State Fault Refusal

/-- The octet at an address; an unlisted address reads 0: lane memories, voted buffers and module buffers start
zero-filled (R80, R87, R504). -/
def memGet : List Host.Cell → Nat → Byte
  | [], _ => 0
  | (k, v) :: r, a => if k = a then v else memGet r a

/-- The memory with one octet written; the form stays canonical: addresses rise, no entry is 0. -/
def memSet : List Host.Cell → Nat → Byte → List Host.Cell
  | [], a, b => if b = 0 then [] else [(a, b)]
  | (k, v) :: r, a, b =>
    if a < k then (if b = 0 then (k, v) :: r else (a, b) :: (k, v) :: r)
    else if a = k then (if b = 0 then r else (a, b) :: r)
    else (k, v) :: memSet r a b

/-- `n` octets from an address up. -/
def memRead (m : List Host.Cell) (a : Nat) : Nat → List Byte
  | 0 => []
  | n + 1 => memGet m a :: memRead m (a + 1) n

/-- Octets written from an address up. -/
def memWrite (m : List Host.Cell) (a : Nat) : List Byte → List Host.Cell
  | [] => m
  | b :: bs => memWrite (memSet m a b) (a + 1) bs

/-- Octets written under byte enables: bit i of `be` is octet i. -/
def memWriteBe (m : List Host.Cell) (a : Nat) (be : BitVec 16) (d : BitVec 128) : Nat → List Host.Cell
  | 0 => m
  | n + 1 =>
    let m' := memWriteBe m a be d n
    if be.getLsbD n then memSet m' (a + n) (d.extractLsb' (8 * n) 8) else m'

/-- Canonical form: addresses strictly rising from `lo` up, no octet 0. -/
def memWfFrom : Nat → List Host.Cell → Bool
  | _, [] => true
  | lo, (k, v) :: r => decide (lo ≤ k) && decide (v ≠ 0) && memWfFrom (k + 1) r

/-- The canonical form of an octet memory. -/
def Memory.wf (m : List Host.Cell) : Bool := memWfFrom 0 m

/-- The octets of a region, replaced by those of another memory: cells of `src` inside, of `dst` outside. -/
def memMerge : List Host.Cell → List Host.Cell → List Host.Cell
  | dst, [] => dst
  | dst, (k, v) :: r => memMerge (memSet dst k v) r

/-- `dst` with the cells that satisfy `p` taken from `src`. -/
def memCopyIf (p : Nat → Bool) (dst src : List Host.Cell) : List Host.Cell :=
  memMerge (dst.filter (fun c => !p c.1)) (src.filter (fun c => p c.1))

/-- An association list with one key set. -/
def assocSet {α β : Type} [DecidableEq α] : List (α × β) → α → β → List (α × β)
  | [], k, v => [(k, v)]
  | (a, b) :: r, k, v => if a = k then (k, v) :: r else (a, b) :: assocSet r k v

/-- The value of a key. -/
def assocGet {α β : Type} [DecidableEq α] : List (α × β) → α → Option β
  | [], _ => none
  | (a, b) :: r, k => if a = k then some b else assocGet r k

/-- A vector with the entry at `i` changed. -/
def vmod {α : Type} {n : Nat} (v : Vector α n) (i : Fin n) (f : α → α) : Vector α n :=
  v.set i.val (f (v[i.val]'i.isLt)) i.isLt

/-- Every index of a vector of length `n`. -/
def allFin (n : Nat) : List (Fin n) := List.finRange n

/-- An octet string as the number its entry holds, little-endian. -/
def bytesOf (n v : Nat) : List Byte := leBytes n v

/-- `v` as a signed number of `w` bits. -/
def signed (w v : Nat) : Int := (BitVec.ofNat w v).toInt

/-- A 32-bit image of a signed number. -/
def int32 (v : Int) : Nat := (BitVec.ofInt 32 v).toNat

/-- `v` saturated into the signed range of `w` bits. -/
def clampInt (lo hi v : Int) : Int := if v < lo then lo else if hi < v then hi else v

/-- The next free value of 64 bits (log 3): the counter of drawn values advances. -/
def drawWord (s : State) : Reg64 × State := (Config.freeWord s.drawn, { s with drawn := s.drawn + 1 })

/-- The next free truth value (log 3). -/
def drawBool (s : State) : Bool × State := (Config.freeBool s.drawn, { s with drawn := s.drawn + 1 })

/-- Octets of `n` free words (log 3). -/
def drawOctets (n : Nat) (s : State) : List Byte × State :=
  ((List.range n).flatMap (fun k => leBytes 8 (Config.freeWord (s.drawn + k)).toNat), { s with drawn := s.drawn + n })

/-- The number of an option, with a value for none. -/
def optNat (o : Option Nat) (d : Nat) : Nat := o.getD d

/-! ### Bandwidth monitors (R434) -/

/-- A count of bytes at a port (R434). -/
def bwCount (port : Fin 8) (n : Nat) (s : State) : State :=
  { s with bw := vmod s.bw port (fun w => { w with count := w.count + n }) }

/-- Bytes whose byte enables are set. -/
def enabledBytes (be : BitVec 16) : Nat := (List.range 16).foldl (fun k i => k + b2n (be.getLsbD i)) 0

/-- The port of an address (R434). -/
def bwPort (a : Nat) : Option (Fin 8) :=
  if 0x0300000000 ≤ a then some 6
  else if 0x0200100000 ≤ a then some 3
  else if 0x0200020000 ≤ a ∧ a < 0x0200050000 then some 4
  else if 0x0200050000 ≤ a ∧ a < 0x0200070000 then some 5
  else none

/-- A count at the port of an address. -/
def bwTarget (a n : Nat) (s : State) : State :=
  match bwPort a with
  | some p => bwCount p n s
  | none => s

/-- A copy of the sequencer: port 7, and the ports of its source and its target. -/
def bwCopy (src dst n : Nat) (s : State) : State := bwTarget dst n (bwTarget src n (bwCount 7 n s))

end Sys2Proof.Machine
end

