-- ==== Sys2Proof/Machine/CoreUnit.lean ====
section
/-! DEFINITION. One Y64 core: registers, control words, the interrupt controller, taking an exception and returning
from one (R130-R135), protection, caches, buffers, counters and beats. -/

namespace Sys2Proof.Machine

/-- Core P of a lane; the memory of the lane has the same index. -/
def coreP (l : Fin 4) : Fin 8 := ⟨2 * l.val, by omega⟩

/-- Core S of a lane. -/
def coreS (l : Fin 4) : Fin 8 := ⟨2 * l.val + 1, by omega⟩

/-- The lane of a core. -/
def laneOf (k : Fin 8) : Fin 4 := ⟨k.val / 2, by omega⟩

/-! ### Registers -/

/-- Read a general register; x0 reads 0 (R105). -/
def Core.getX (c : Core) (i : Fin 32) : Reg64 := if i = 0 then 0 else c.x[i]

/-- Write a general register; a write to x0 is discarded (R105). -/
def Core.setX (c : Core) (i : Fin 32) (v : Reg64) : Core :=
  if i = 0 then c else { c with x := c.x.set i.val v i.isLt }

/-- Read a floating-point register. -/
def Core.getF (c : Core) (i : Fin 32) : Reg64 := c.f[i]

/-- Write a floating-point register. -/
def Core.setF (c : Core) (i : Fin 32) (v : Reg64) : Core := { c with f := c.f.set i.val v i.isLt }

/-- Raw control word, 0 where the number is reserved. -/
def Core.word (c : Core) (n : Nat) : Reg64 := if h : n < 64 then c.cw[n] else 0

/-- Replace a control word. -/
def Core.setWord (c : Core) (n : Nat) (v : Reg64) : Core :=
  if h : n < 64 then { c with cw := c.cw.set n v h } else c

/-- Executive level (R108). -/
def Core.exec (c : Core) : Bool := (c.word 0).getLsbD 0

/-- Interrupts may be taken. -/
def Core.ie (c : Core) : Bool := (c.word 0).getLsbD 1

/-- A handler is running. -/
def Core.exl (c : Core) : Bool := (c.word 0).getLsbD 2

/-- Division by zero raises cause 14. -/
def Core.dzt (c : Core) : Bool := (c.word 0).getLsbD 3

/-! ### The lane interrupt controller (R133-R135) -/

/-- Priority of a source. -/
def Lic.prioOf (l : Lic) (n : Nat) : Nat := (l.prio.extractLsb' (4 * n) 4).toNat

/-- Does a source qualify, leaving CW_STATUS.IE aside (R133)? -/
def Lic.qualifies (l : Lic) (n : Nat) : Bool :=
  l.pend.getLsbD n && l.en.getLsbD n && decide (l.level < l.prioOf n)

/-- The source that wins: the highest priority, then the lowest number (R133). -/
def Lic.winner (l : Lic) : Option Nat :=
  (List.range 384).foldl (fun best n =>
    if l.qualifies n then
      match best with
      | none => some n
      | some b => if l.prioOf b < l.prioOf n then some n else best
    else best) none

/-- A core in WFI wakes where some source would qualify with IE taken as 1 (R133). -/
def Core.wake (c : Core) : Core :=
  if c.wfi && (c.lic.winner).isSome then { c with wfi := false } else c

/-- A source asserts: its pending bit is latched (R133). -/
def Core.assertSrc (c : Core) (n : Nat) : Core :=
  ({ c with lic := { c.lic with pend := putBit c.lic.pend n true } }).wake

/-- End of the current handler (R135). -/
def Lic.eoi (l : Lic) : Lic :=
  match l.stack with
  | [] => l
  | v :: r => { l with level := v, stack := r }

/-- Software request: sources 320-383 (LIC_SWSET). -/
def Core.swset (c : Core) (v : Nat) : Core :=
  let n := v % 512
  if 320 ≤ n ∧ n ≤ 383 then c.assertSrc n else c

/-- LIC_LEVEL. -/
def Lic.levelReg (l : Lic) : Nat := l.stack.length * 256 + l.level

/-- LIC_CLAIM. -/
def Lic.claimReg (l : Lic) : Nat := match l.claim with | some n => 2 ^ 31 + n | none => 0

/-! ### Performance counters (R430-R432) -/

/-- Does counter `i` count an event at the present level? -/
def Core.counts (c : Core) (i : Fin 16) (ev : Nat) : Bool :=
  let sel := c.lpc.evsel[i]
  c.lpc.gen && decide (ev ≠ 0) && decide ((sel.extractLsb' 0 8).toNat = ev) &&
    (if c.exec then sel.getLsbD 8 else sel.getLsbD 9)

/-- A counter counts `n` events: a carry out of bit 47 sets its overflow bit and may assert source 16 + i, one out
of bit 31 its bit of LPC_V2OVF (R432, R439). -/
def Core.bump (c : Core) (i : Fin 16) (n : Nat) : Core :=
  let old := (c.lpc.cnt[i]).toNat
  let carry := decide (2 ^ 48 ≤ old + n)
  let carry32 := decide (2 ^ 32 ≤ old % 2 ^ 32 + n)
  let p := { c.lpc with
    cnt := c.lpc.cnt.set i.val (BitVec.ofNat 48 (old + n)) i.isLt
    ovf := if carry then putBit c.lpc.ovf i.val true else c.lpc.ovf
    v2ovf := if carry32 then putBit c.lpc.v2ovf i.val true else c.lpc.v2ovf }
  let c1 := { c with lpc := p }
  if carry && p.ien.getLsbD i.val then c1.assertSrc (16 + i.val) else c1

/-- Every counter that has selected an event counts it `n` times. -/
def Core.event (c : Core) (ev n : Nat) : Core :=
  if n = 0 ∨ c.lpc.gen = false then c
  else (allFin 16).foldl (fun d i => if d.counts i ev then d.bump i n else d) c

/-! ### Control words (R110) -/

/-- A control word that exists. -/
def wordExists (n : Nat) : Bool := decide (n ≤ 15) || (decide (32 ≤ n) && decide (n < 64))

/-- Readable at a level: Application reads 8, 9, 10 and 11. -/
def wordReadable (exec : Bool) (n : Nat) : Bool := exec || decide (8 ≤ n ∧ n ≤ 11)

/-- Writable at a level without an exception: Application writes 8 and 9 (log 13). -/
def wordWritable (exec : Bool) (n : Nat) : Bool := exec || decide (n = 8 ∨ n = 9)

/-- The bits of a control word that a write sets. -/
def wordMask (n : Nat) : Reg64 :=
  if n = 0 then 0xF
  else if n = 3 then 0xCFFFF1FF
  else if n = 5 then ~~~(0xFFF : Reg64)
  else if n = 8 then 0x1F7
  else if n = 12 then 0
  else if n = 13 then 0xF
  else if n = 14 ∨ n = 15 then 7
  else if n < 16 then BitVec.allOnes 64
  else if n % 2 = 0 then 0x000000FFFFFFF000
  else 0x000000FFFFFFF00F

/-- A write of a control word: reserved bits read 0, and CW_FPCSR.RM keeps its value on 4-7. -/
def Core.writeWord (c : Core) (n : Nat) (v : Reg64) : Core :=
  if n = 12 then c
  else
    let w := v &&& wordMask n
    if n = 8 ∧ w.getLsbD 2 = true then
      c.setWord 8 ((w &&& ~~~(7 : Reg64)) ||| (c.word 8 &&& 7))
    else c.setWord n w

/-- A read of a control word; in WIDE CW_COREID is the core's number (R110, R141). -/
def Core.readWord (c : Core) (id n : Nat) : Reg64 := if n = 12 then BitVec.ofNat 64 id else c.word n

/-! ### Exceptions and interrupts (R130-R132, R134) -/

/-- Entry to an exception or an interrupt (R132): the cause word without NEST, the address saved, CW_BADADDR where
R130 writes it, and the offset from CW_VBASE. The exclusive reservation is cleared (R128). -/
def Core.enter (c : Core) (cause : Reg64) (epc : Reg64) (bad : Option Reg64) (off : Reg64) : Core :=
  let nest : Reg64 := if c.exl then 0x40000000 else 0
  let st := c.word 0
  let c1 := ((c.setWord 2 epc).setWord 3 (cause ||| nest)).setWord 1 st
  let c2 := match bad with
    | some a => c1.setWord 4 a
    | none => c1
  let c3 := c2.setWord 0 ((st &&& 8) ||| 5)
  { c3 with pc := c.word 5 + off, resv := none, wfi := false }

/-- An exception with its cause code (R130). -/
def Core.raiseExc (c : Core) (code arg : Nat) (bad : Option Reg64) : Core :=
  ((c.event 0x0D 1).enter (BitVec.ofNat 64 (arg * 4096 + code)) c.pc bad 0)

/-- ERET (R132): PC from CW_EPC, CW_STATUS from CW_ESTATUS; the reservation is cleared (R128). -/
def Core.eret (c : Core) : Core :=
  { (c.setWord 0 (c.word 1 &&& 0xF)) with pc := c.word 2, resv := none }

/-- Taking an interrupt source (R134): claim, level push and entry. -/
def Core.takeInt (c : Core) (n : Nat) : Core :=
  let l := c.lic
  let c1 := { c with lic := { l with
    pend := putBit l.pend n false, stack := l.level :: l.stack, level := l.prioOf n, claim := some n } }
  ((c1.event 0x0E 1).enter (BitVec.ofNat 64 (2 ^ 31 + n)) c.pc none 0x100)

/-! ### Protection and addresses (R107, R119, R121, R129) -/

/-- What an address leads to (R19, R66, R121). -/
inductive Region where
  | dram | sram | lic | ltm | lpc | lks | shared | voted | service | reserved
deriving DecidableEq, Repr

/-- The region of an address; in WIDE the upper halves of DRAM and SRAM are reserved (R66). -/
def regionOf (wide : Bool) (a : Nat) : Region :=
  if a < 0x100000000 then (if wide && decide (0x80000000 ≤ a) then .reserved else .dram)
  else if a < 0x100200000 then (if wide && decide (0x100100000 ≤ a) then .reserved else .sram)
  else if a < 0x101000000 then .reserved
  else if a < 0x101004000 then .lic
  else if a < 0x101008000 then .ltm
  else if a < 0x10100C000 then .lpc
  else if a < 0x101010000 then .lks
  else if a < 0x200000000 then .reserved
  else if a < 0x2000A0000 then .voted
  else if a < 0x200100000 then .reserved
  else if a < 0x200900000 then .shared
  else if a < 0x300000000 then .reserved
  else if a < 0x300060000 then .service
  else if a < 0x300200000 then .reserved
  else if a < 0x300500000 then .service
  else .reserved

/-- A region that is lane memory. -/
def Region.isMem : Region → Bool
  | .dram | .sram => true
  | _ => false

/-- The highest-numbered enabled protection region that contains an address decides (R129): its permissions. -/
def protRegion (c : Core) (a : Nat) : Nat → Option Reg64
  | 0 => none
  | n + 1 =>
    let base := (c.word (32 + 2 * n)).toNat
    let lim := c.word (33 + 2 * n)
    if lim.getLsbD 3 && decide (base ≤ a) && decide (a / 4096 ≤ lim.toNat / 4096) then some lim
    else protRegion c a n

/-- Permission bit of CW_PRLIMn: 2 fetch, 1 store, 0 load. -/
def permitted (c : Core) (a bit : Nat) : Bool :=
  c.exec || match protRegion c a 16 with
    | some l => l.getLsbD bit
    | none => false

/-- May the instruction at PC be fetched (R107, R119, R129)? -/
def fetchable (wide : Bool) (c : Core) : Bool :=
  let a := c.pc.toNat
  decide (a < 2 ^ 40) && (regionOf wide a).isMem && permitted c a 2

/-! ### Caches (R122) -/

/-- Where a fill may go: with the lock-fill mode only the locked ways, otherwise only the others. -/
def fillWays (lock : Nat) (lfill : Bool) : List Nat :=
  (List.range 4).filter (fun w => (decide (w < 3) && lock.testBit w) == lfill)

/-- The line that holds an address. -/
def findLine (ls : List CacheLine) (a : Nat) : Option CacheLine :=
  ls.find? (fun l => decide (l.set = a / 64 % 128) && decide (l.tag = a / 8192))

/-- The way a fill takes: a free one, else the least recently used of those that may be filled. -/
def victim (ls : List CacheLine) (set : Nat) (ways : List Nat) : Option Nat :=
  let here := ls.filter (fun l => decide (l.set = set) && decide (l.way ∈ ways))
  match ways.find? (fun w => here.all (fun l => decide (l.way ≠ w))) with
  | some w => some w
  | none =>
    match here with
    | [] => none
    | l :: r => some ((r.foldl (fun b x => if x.used < b.used then x else b) l).way)

/-- An access to a cache: a hit is marked used, a miss fills a line from memory. Hit or miss, and the lines. -/
def cacheTouch (ls : List CacheLine) (m : List Host.Cell) (a n lock : Nat) (lfill : Bool) : Bool × List CacheLine :=
  match findLine ls a with
  | some l => (true, ls.map (fun x => if x.set = l.set ∧ x.way = l.way then { x with used := n } else x))
  | none =>
    let set := a / 64 % 128
    match victim ls set (fillWays lock lfill) with
    | none => (false, ls)
    | some w =>
      (false, { set := set, way := w, tag := a / 8192, data := memRead m (a / 64 * 64) 64, used := n } ::
        ls.filter (fun x => !(decide (x.set = set) && decide (x.way = w))))

/-- The lines of locked ways. -/
def lockedLines (lock : Nat) (ls : List CacheLine) : List CacheLine :=
  ls.filter (fun l => decide (l.way < 3) && lock.testBit l.way)

/-- A store into lane memory updates the lines that hold it: an aligned block of 16 octets under byte enables. -/
def lineStore (e : MirrorEntry) (l : CacheLine) : CacheLine :=
  let a := e.addr.toNat
  if l.set = a / 64 % 128 ∧ l.tag = a / 8192 then
    { l with data := (List.range 64).map (fun k =>
        let o := a % 64 / 16 * 16
        if o ≤ k ∧ k < o + 16 ∧ e.be.getLsbD (k - o) = true then e.data.extractLsb' (8 * (k - o)) 8
        else l.data.getD k 0) }
  else l

/-- The fetch of the instruction at PC passes the I-cache (R122). -/
def Core.fetched (c : Core) (m : List Host.Cell) : Core :=
  if (c.word 13).getLsbD 0 then
    let (hit, ls) := cacheTouch c.icache m c.pc.toNat (c.uses + 1) (c.word 14).toNat ((c.word 13).getLsbD 2)
    let c1 := { c with icache := ls, uses := c.uses + 1 }
    if hit then c1 else c1.event 0x04 1
  else c

/-- `n` octets loaded from lane memory at `a`, through the D-cache for DRAM (R121, R122). -/
def Core.loadMem (c : Core) (m : List Host.Cell) (a n : Nat) : List Byte × Core :=
  if a < 0x100000000 then
    if (c.word 13).getLsbD 1 then
      match findLine c.dcache a with
      | some l =>
        let (_, ls) := cacheTouch c.dcache m a (c.uses + 1) (c.word 15).toNat ((c.word 13).getLsbD 3)
        ((l.data.drop (a % 64)).take n, ({ c with dcache := ls, uses := c.uses + 1 }).event 0x06 1)
      | none =>
        let (_, ls) := cacheTouch c.dcache m a (c.uses + 1) (c.word 15).toNat ((c.word 13).getLsbD 3)
        (memRead m a n, ({ c with dcache := ls, uses := c.uses + 1 }).event 0x05 1)
    else (memRead m a n, c.event 0x05 1)
  else (memRead m a n, c)

/-- Invalidation of a cache (R114, R122): unlocked ways only. -/
def Core.invalidate (c : Core) (op : CacheOp) (a : Nat) : Core :=
  let keep (lock : Nat) (l : CacheLine) : Bool := decide (l.way < 3) && lock.testBit l.way
  let here (l : CacheLine) : Bool := decide (l.set = a / 64 % 128) && decide (l.tag = a / 8192)
  let il := (c.word 14).toNat
  let dl := (c.word 15).toNat
  match op with
  | .icinv => { c with icache := c.icache.filter (fun l => keep il l || !here l) }
  | .dcinv => { c with dcache := c.dcache.filter (fun l => keep dl l || !here l) }
  | .icinva => { c with icache := c.icache.filter (keep il) }
  | .dcinva => { c with dcache := c.dcache.filter (keep dl) }

/-- Unlocked ways of both caches invalidated (R92). -/
def invalidateUnlocked (c : Core) : Core := (c.invalidate .icinva 0).invalidate .dcinva 0

/-! ### The store buffer and the combining buffer (R123, R124) -/

/-- Does a buffered block overlap an access? -/
def overlaps (e : MirrorEntry) (a n : Nat) : Bool :=
  decide (e.addr.toNat < a + n) && decide (a < e.addr.toNat + 16)

/-- How many entries must drain before a load may pass: through the last that overlaps it (R123). -/
def drainFor (b : List MirrorEntry) (a n : Nat) : Nat :=
  b.length - (b.reverse.takeWhile (fun e => !overlaps e a n)).length

/-- The octets of a store as a block of 16 with byte enables. -/
def blockOf (a n : Nat) (v : Nat) : MirrorEntry :=
  let o := a % 16
  { addr := BitVec.ofNat 40 (a / 16 * 16), be := BitVec.ofNat 16 ((2 ^ n - 1) * 2 ^ o)
    data := BitVec.ofNat 128 (v % 2 ^ (8 * n) * 2 ^ (8 * o)) }

/-- Two blocks at one address, the second the later store. -/
def mergeBlock (e n : MirrorEntry) : MirrorEntry :=
  let m := (List.range 16).foldl (fun (w : BitVec 128) k =>
    if n.be.getLsbD k then w ||| ((0xFF : BitVec 128) <<< (8 * k)) else w) 0
  { e with be := e.be ||| n.be, data := (e.data &&& ~~~m) ||| (n.data &&& m) }

/-- A store enters the store buffer, merging into a block already there (R123). -/
def pushStore (b : List MirrorEntry) (n : MirrorEntry) : List MirrorEntry :=
  if b.any (fun e => decide (e.addr = n.addr)) then b.map (fun e => if e.addr = n.addr then mergeBlock e n else e)
  else b ++ [n]

/-- A store enters the combining buffer (R124); the block is the right one or the buffer is empty. -/
def combineStore (b : Option Combine) (a n v : Nat) : Combine :=
  let o := a % 64
  let old := match b with
    | some x => x
    | none => { base := a / 64 * 64, be := 0, data := 0 }
  let mask := BitVec.ofNat 512 ((2 ^ (8 * n) - 1) * 2 ^ (8 * o))
  { base := a / 64 * 64, be := old.be ||| BitVec.ofNat 64 ((2 ^ n - 1) * 2 ^ o)
    data := (old.data &&& ~~~mask) ||| BitVec.ofNat 512 (v % 2 ^ (8 * n) * 2 ^ (8 * o)) }

/-! ### Beats (R45, R125) -/

/-- Size code of an access. -/
def sizeCode (n : Nat) : Nat := if n = 1 then 0 else if n = 2 then 1 else if n = 4 then 2 else if n = 8 then 3 else 4

/-- The attributes of a beat (R45). -/
def attrWord (size tag : Nat) (excl exec : Bool) (index len ty : Nat) : BitVec 24 :=
  BitVec.ofNat 24 (2 ^ 23 + size * 2 ^ 16 + tag * 2 ^ 10 + b2n excl * 2 ^ 9 + b2n exec * 2 ^ 8 + index * 64 +
    (len - 1) * 16 + ty)

/-- Beat types of R45. -/
inductive BeatType where
  | read | write | barrier | ack
deriving DecidableEq, Repr

def BeatType.code : BeatType → Nat
  | .read => 1 | .write => 2 | .barrier => 3 | .ack => 4

/-- An access a core sends to the fabric as a single beat (R125, R127, R134). -/
structure Access where
  ty : BeatType
  addr : Nat
  size : Nat := 1
  excl : Bool := false
  value : Nat := 0
deriving DecidableEq, Repr

/-- The beat of an access, with the core's tag and level. -/
def Access.beat (x : Access) (tag : Nat) (exec : Bool) : Beat :=
  let b := blockOf x.addr x.size x.value
  let w := decide (x.ty = .write)
  { data := if w then b.data else 0, be := if w then b.be else 0, addr := BitVec.ofNat 40 x.addr
    attr := attrWord (sizeCode x.size) tag x.excl exec 0 1 x.ty.code }

/-- The beats of the combining buffer's burst: from the first touched block of 16 octets to the last (R124). -/
def burstBeats (x : Combine) (tag : Nat) (exec : Bool) : List Beat :=
  let touched := (List.range 4).filter (fun k => decide (x.be.extractLsb' (16 * k) 16 ≠ 0))
  match touched with
  | [] => []
  | f :: r =>
    let last := r.getLast?.getD f
    (List.range (last - f + 1)).map (fun j =>
      { data := x.data.extractLsb' (128 * (f + j)) 128, be := x.be.extractLsb' (16 * (f + j)) 16
        addr := BitVec.ofNat 40 (x.base + 16 * (f + j))
        attr := attrWord 4 tag false exec j (last - f + 1) 2 })

end Sys2Proof.Machine
end

