-- ==== Sys2Proof/Machine/RecorderOps.lean ====
section
/-! DEFINITION. Entering an event in the recorder (R415-R418) and writing records (R410-R412, R419-R421): the one
way every unit records. -/

namespace Sys2Proof.Machine

/-- Codes of severity 3 whatever their parameters (R501). -/
def severe3 : List Nat := [0x0044, 0x0061, 0x0067, 0x0069, 0x1003, 0x1004, 0x1007, 0x3006, 0x3008, 0x7003]

/-- Codes of severity 2 whatever their parameters (R501). -/
def severe2 : List Nat :=
  [0x0032, 0x0034, 0x0063, 0x0066, 0x1001, 0x1002, 0x1005, 0x1006, 0x1009, 0x1013, 0x1015, 0x1017, 0x2001,
   0x2004, 0x2006, 0x2018, 0x3001, 0x3002, 0x3003, 0x3004, 0x3009, 0x4005, 0x4009, 0x400B, 0x5004, 0x5006,
   0x5007, 0x6002, 0x6003, 0x6004, 0x6005, 0x6006, 0x7002, 0x7009, 0x700A, 0xF001, 0xF002]

/-- Codes of severity 1 whatever their parameters (R501). -/
def severe1 : List Nat :=
  [0x0021, 0x0030, 0x0031, 0x0033, 0x0041, 0x0043, 0x0047, 0x0050, 0x0068, 0x100A, 0x1016, 0x1018, 0x1019,
   0x2002, 0x2011, 0x2014, 0x2015, 0x2016, 0x2017, 0x2019, 0x3010, 0x3011, 0x3012, 0x4004, 0x4007, 0x4008,
   0x400E, 0x400F, 0x5002, 0x5003, 0x6007, 0x6008, 0x6009, 0x600C, 0x600D, 0x7007, 0x8001, 0x8003, 0x8005,
   0x8006, 0x8007, 0x8008, 0x8009, 0x800C, 0x800D]

/-- Severity of an event (R501); application codes carry 1 (R415). -/
def severity (code p1 : Nat) : Nat :=
  if code ∈ severe3 then 3
  else if code ∈ severe2 then 2
  else if code ∈ severe1 then 1
  else if code = 0x0010 then (if p1 = 2 ∨ p1 = 5 then 3 else 0)
  else if code = 0x3014 then (if p1 = 1 then 3 else if p1 = 3 then 2 else if p1 = 2 then 1 else 0)
  else if code = 0x8002 then (if p1 = 0 then 3 else if p1 = 1 then 1 else 0)
  else if code = 0x3005 then (if p1 = 0 then 2 else if p1 = 1 ∨ p1 = 3 then 1 else 0)
  else if 0x8100 ≤ code ∧ code ≤ 0x8FFF then 1
  else 0

/-- A recorder-internal event: codes 0xF000-0xFFFF (R415, R425; log 11). -/
def RecEntry.internal (e : RecEntry) : Bool := decide (0xF000 ≤ e.code)

/-- The 32 octets of a record (R410). -/
def recordBytes (seq : Nat) (e : RecEntry) : List Byte :=
  let flags := severity e.code e.p1 + 4 * b2n e.priv + 16 * e.src
  let body := leBytes 4 seq ++ leBytes 2 e.code ++ [BitVec.ofNat 8 flags, BitVec.ofNat 8 e.repeats] ++
    leBytes 6 e.optime ++ leBytes 2 e.pwrcyc ++ leBytes 4 e.p0 ++ leBytes 4 e.p1 ++ leBytes 4 e.p2
  body ++ leBytes 4 (crc32c body).toNat

/-- The entry a record of 32 octets holds. -/
def recordEntry (b : List Byte) : RecEntry :=
  let flags := leAt b 6 1
  { code := leAt b 4 2, p0 := leAt b 16 4, p1 := leAt b 20 4, p2 := leAt b 24 4, src := field flags 4 4,
    priv := flags.testBit 2, repeats := leAt b 7 1, optime := leAt b 8 6, pwrcyc := leAt b 14 2 }

/-- The CRC of a record is good (R410). -/
def recordGood (b : List Byte) : Bool := decide ((crc32c (b.take 28)).toNat = leAt b 28 4)

/-- Address of a slot in the record window (R409). -/
def slotAddr (i : Nat) : Nat := 0x0300200000 + 32 * i

/-- The octets of a slot. -/
def slotBytes (r : Recorder) (i : Nat) : List Byte := memRead r.mram (slotAddr i) 32

/-- The slot after the head (R412). -/
def nextSlot (r : Recorder) : Nat :=
  if r.headValid then (if r.headIndex = 65535 then 8192 else r.headIndex + 1) else 0

/-- The next SEQ (R411). -/
def nextSeq (seq : Nat) : Nat := if seq = 0xFFFFFFFF then 1 else seq + 1

/-- Is SEQ `a` at or after SEQ `b` (R411)? -/
def seqReached (a b : Nat) : Bool := decide ((a + 0xFFFFFFFF - b) % 0xFFFFFFFF < 2 ^ 31)

/-- Phase 2: the head goes into the copy not written last (R419). -/
def writeHead (r : Recorder) (index seq : Nat) : Recorder :=
  let c : HeadCopy := { valid := true, index := index, seq := seq }
  let r := if r.headA.valid && (!r.headB.valid || seqReached r.headA.seq r.headB.seq)
    then { r with headB := c } else { r with headA := c }
  { r with headValid := true, headIndex := index, headSeq := seq }

/-- Phase 1 of an entry: its record goes into the next slot (R419). -/
def writeSlot (r : Recorder) (e : RecEntry) : Recorder :=
  { r with mram := memWrite r.mram (slotAddr (nextSlot r)) (recordBytes (nextSeq r.headSeq) e) }

/-- Both phases of an entry, and SHERD_FULL becoming due after slot 8,191 (R412, R419). -/
def writeRecord (r : Recorder) (e : RecEntry) : Recorder :=
  let i := nextSlot r
  let r1 := writeHead (writeSlot r e) i (nextSeq r.headSeq)
  { r1 with
    head := some e
    written := inc32 r.written
    sherdFull := r.sherdFull || decide (i = 8191)
    sherdNext := decide (i = 8191) }

/-- The head record written again with its REPEAT, through the shadow (R420). -/
def rewriteHead (r : Recorder) : Recorder :=
  match r.head with
  | none => { r with rewrite := false }
  | some e =>
    let b := recordBytes r.headSeq e
    { r with shadow := b, mram := memWrite r.mram (slotAddr r.headIndex) b, rewrite := false }

/-- An entry placed last in the staging FIFO. -/
def fifoPush (r : Recorder) (e : RecEntry) : Recorder :=
  let f := r.fifo ++ [e]
  { r with fifo := f, peak := max r.peak f.length }

/-- An event lost: counted, with the codes of the first and the last (R418). -/
def fifoLose (r : Recorder) (code : Nat) : Recorder :=
  { r with
    lossFirst := if r.loss = 0 then code else r.lossFirst
    lossLast := code
    loss := inc16 r.loss
    lost := inc32 r.lost }

/-- A LOST entry takes the place that became free (R418). -/
def fifoLost (r : Recorder) : Recorder :=
  if r.loss = 0 then r
  else
    { fifoPush r { code := 0xF001, p0 := r.loss, p1 := r.lossFirst, p2 := r.lossLast, src := 15, priv := false,
                   repeats := 0, optime := r.optime, pwrcyc := r.pwrcyc } with
      loss := 0, lossFirst := 0, lossLast := 0 }

/-- The FIFO without the newest entry that is neither privileged nor internal, and that entry's code (R418). -/
def fifoEvict (f : List RecEntry) : Option (Nat × List RecEntry) :=
  match f.reverse.findIdx? (fun e => !e.priv && !e.internal) with
  | none => none
  | some k =>
    let i := f.length - 1 - k
    some ((f.getD i { code := 0, p0 := 0, p1 := 0, p2 := 0, src := 0, priv := false, repeats := 0, optime := 0,
                      pwrcyc := 0 }).code, f.eraseIdx i)

/-- May the event merge into an entry (R416)? -/
def mergeable (e n : RecEntry) : Bool :=
  decide (n.code = e.code) && decide (n.p0 = e.p0) && decide (n.p1 = e.p1) && !n.priv && !e.priv &&
    !n.internal && !e.internal && decide (n.repeats < 255) && decide (e.optime ≤ n.optime + 1000)

/-- An event that is not privileged: merged, queued or lost (R416, R418), with the result code of REC_EVRES. -/
def acceptPlain (r : Recorder) (e : RecEntry) : Recorder × Nat :=
  match r.fifo.getLast?, r.head with
  | some n, _ =>
    if mergeable e n then
      ({ r with fifo := r.fifo.dropLast ++ [{ n with repeats := n.repeats + 1 }], merges := inc32 r.merges }, 2)
    else if r.fifo.length < 64 then (fifoPush r e, 1) else (fifoLose r e.code, 4)
  | none, some n =>
    if mergeable e n then
      ({ r with head := some { n with repeats := n.repeats + 1 }, rewrite := true, merges := inc32 r.merges }, 2)
    else (fifoPush r e, 1)
  | none, none => (fifoPush r e, 1)

/-- Position of a privileged code in 0x2810 as in force. -/
def privIndex (r : Recorder) (code : Nat) : Option (Fin 32) :=
  match r.privileged.findIdx? (fun p => p.1 == code) with
  | some i => if h : i < 32 then some ⟨i, h⟩ else none
  | none => none

/-- A privileged event (R417, R418). -/
def acceptPrivileged (r : Recorder) (i : Fin 32) (e : RecEntry) : Recorder × Nat :=
  match assocGet r.tokens e.code with
  | some (k + 1) =>
    let n := (assocGet r.suppressed e.code).getD 0
    let e' := { e with priv := true, repeats := min 255 n }
    let r1 := { r with tokens := assocSet r.tokens e.code k }
    let taken := { r1 with suppressed := assocSet r1.suppressed e.code 0 }
    if r.fifo.length < 64 then (fifoPush taken e', 1)
    else
      match fifoEvict r.fifo with
      | some (c, f) => (fifoPush { fifoLose taken c with fifo := f } e', 1)
      | none => (fifoLose r1 e.code, 4)
  | _ =>
    ({ r with
        suppressed := assocSet r.suppressed e.code ((assocGet r.suppressed e.code).getD 0 + 1)
        suppressedTotal := vmod r.suppressedTotal i inc32 }, 5)

/-- Is a code refused from a source (R415)? -/
def codeRefused (src code : Nat) : Bool :=
  decide (code = 0) || (decide (9 ≤ code / 4096) && decide (code / 4096 ≤ 14)) ||
    (decide (code / 4096 = 15) && decide (src ≠ 15))

/-- An entry as it enters, stamped now (R415). -/
def stampEntry (r : Recorder) (src code p0 p1 p2 : Nat) : RecEntry :=
  { code := code, p0 := p0 % 2 ^ 32, p1 := p1 % 2 ^ 32, p2 := p2 % 2 ^ 32, src := src, priv := false,
    repeats := 0, optime := r.optime, pwrcyc := r.pwrcyc % 65536 }

/-- An event whose code is allowed (R416-R418). -/
def acceptEvent (r : Recorder) (e : RecEntry) : Recorder × Nat :=
  match privIndex r e.code with
  | some i => acceptPrivileged r i e
  | none => acceptPlain r e

/-- An event from a source and a master (R415): accepted, or refused with EVENT_REFUSED. -/
def submitEvent (r : Recorder) (src master code p0 p1 p2 : Nat) : Recorder × Nat :=
  if codeRefused src code then
    ((acceptEvent r (stampEntry r 15 0x0050 code src master)).1, 3)
  else acceptEvent r (stampEntry r src code p0 p1 p2)

/-- The craze flag a recorded code bears on for 24 h (R331): ROT_STARVED or BISQUE_OVERDUE, BISQUE_FAIL,
LANE_QUARANTINE. -/
def crazeOf (code : Nat) : Option (Fin 3) :=
  if code = 0x1018 ∨ code = 0x1019 then some 0 else if code = 0x1013 then some 1
  else if code = 0x1005 then some 2 else none

/-- A unit records an event. -/
def record (src code p0 p1 p2 : Nat) (s : State) : State :=
  let s1 := { s with recd := (submitEvent s.recd src 10 code p0 p1 p2).1 }
  match crazeOf code with
  | some k => { s1 with twl := { s1.twl with notedAt := vmod s1.twl.notedAt k (fun _ => some s.recd.optime) } }
  | none => s1

/-- The recorder repairs its MRAM at a start of PD0 (R421 steps 1-4). -/
def recRepair (r : Recorder) : Recorder :=
  -- step 1
  let c := if r.headA.valid && (!r.headB.valid || seqReached r.headA.seq r.headB.seq) then r.headA else r.headB
  let r1 := { r with headValid := c.valid, headIndex := if c.valid then c.index else 0,
                     headSeq := if c.valid then c.seq else 0 }
  let b := slotBytes r1 (nextSlot r1)
  -- step 2
  let r2 := if recordGood b && decide (leAt b 0 4 = nextSeq r1.headSeq)
    then writeHead r1 (nextSlot r1) (nextSeq r1.headSeq) else r1
  -- step 4
  let h := slotBytes r2 r2.headIndex
  let r3 := if r2.headValid && !recordGood h && recordGood r2.shadow && decide (leAt r2.shadow 0 4 = r2.headSeq)
    then { r2 with mram := memWrite r2.mram (slotAddr r2.headIndex) r2.shadow } else r2
  let full := r3.headValid && decide (8191 ≤ r3.headIndex)
  { r3 with
    head := if r3.headValid then some (recordEntry (slotBytes r3 r3.headIndex)) else none
    rewrite := false, fifo := []
    sherdFull := full, sherdNext := r3.headValid && decide (r3.headIndex = 8191) }

/-- Phase 1 was torn in the slot after the head (R421 step 3; a slot with SEQ 0 was never written, R410). -/
def tornAfterHead (r : Recorder) : Bool :=
  let b := slotBytes r (nextSlot r)
  !recordGood b && decide (leAt b 0 4 ≠ 0)

end Sys2Proof.Machine
end

