-- ==== Sys2Proof/Machine/IntOps.lean ====
section
/-! DEFINITION. Interrupts: the INTSTAT and INTEN registers of the blocks, and delivery to the lanes (R136). -/

namespace Sys2Proof.Machine

/-- Interrupt numbers of the blocks: VRC, rotation, CTU, FBA, FBB, FBC, XNB, LNC, TWL, BRG, CYS. -/
def intBase : Vector Nat 11 := #v[32, 48, 64, 96, 128, 160, 192, 224, 256, 272, 288]

/-- The block an interrupt number belongs to: its index and the bit in its registers. -/
def intBlock (n : Nat) : Option (Fin 11 × Nat) :=
  if n < 32 ∨ 319 < n then none
  else if n < 48 then some (0, n - 32) else if n < 64 then some (1, n - 48) else if n < 96 then some (2, n - 64)
  else if n < 128 then some (3, n - 96) else if n < 160 then some (4, n - 128) else if n < 192 then some (5, n - 160)
  else if n < 224 then some (6, n - 192) else if n < 256 then some (7, n - 224) else if n < 272 then some (8, n - 256)
  else if n < 288 then some (9, n - 272) else some (10, n - 288)

/-- The cores an interrupt of a voted block reaches: those of the ACTIVE lanes, in 1oo1 of that lane, in WIDE every
core that is not stopped (R44, R67). -/
def intCores (s : State) : List (Fin 8) :=
  (allFin 8).filter (fun k =>
    let l := s.vrc.lanes[laneOf k]
    match s.vrc.mode with
    | .split => !l.stopped
    | .oo1 => decide (laneOf k = s.vrc.svc)
    | .oo2 | .oo3 => decide (l.state = .active)
    | .none => false)

/-- Delivery to the lanes' interrupt controllers (R44, R136); held while a rewedge waits for its boundary (R93). -/
def deliver (n : Nat) (s : State) : State :=
  if (s.rot.rewedge.map (fun r => r.done)) = some true then
    { s with vrc := { s.vrc with heldInts := s.vrc.heldInts ++ [n] } }
  else { s with cores := (intCores s).foldl (fun v k => vmod v k (fun c => c.assertSrc n)) s.cores }

/-- A block raises an interrupt: its bit in INTSTAT, and delivery where INTEN enables it. -/
def raise (n : Nat) (s : State) : State :=
  match intBlock n with
  | none => s
  | some (k, b) =>
    let s1 := { s with ints := vmod s.ints k (fun r => { r with stat := putBit r.stat b true }) }
    if (s.ints[k]).en.getLsbD b then deliver n s1 else s1

end Sys2Proof.Machine
end

