-- ==== Sys2Proof/Machine/TimeOps.lean ====
section
/-! DEFINITION. Network time and elapsed time as computed from the free-running counter (R211-R222). -/

namespace Sys2Proof.Machine

/-- Network time in units of 2^-16 ns at a counter value (R212). -/
def Tim.ntAt (t : Tim) (f : Nat) : Int :=
  t.offset + (131072 * ((f : Int) - t.frcRef.toNat) * (4294967296 + t.rate + t.sl)) / 4294967296

/-- Network time now, 2^-16 ns. -/
def Tim.nt (t : Tim) : Int := t.ntAt t.frc.toNat

/-- Network time in whole ns (R212). -/
def Tim.ns (t : Tim) : Int := t.nt / 65536

/-- Elapsed time in whole ns (R214). -/
def Tim.elapsed (t : Tim) : Int := (t.nt - t.stepSum) / 65536

/-- TAI seconds and nanoseconds of a network time in ns (R212). -/
def splitNs (ns : Int) : Nat × Nat := ((ns / 1000000000).toNat % 2 ^ 48, (ns % 1000000000).toNat)

/-- UNCERT (R218). -/
def Tim.uncert (t : Tim) : Bool := t.uncNoLock || t.uncCoast || t.uncBound

/-- Rebase at the present count (R213). -/
def Tim.rebase (t : Tim) : Tim := { t with offset := t.nt, frcRef := t.frc, rebased := true }

/-- RATE limited to ±858,993 (R213). -/
def clampRate (r : Int) : Int := clampInt (-858993) 858993 r

/-- A new RATE (R213). -/
def setRate (r : Int) (s : State) : State :=
  let c := clampRate r
  let s1 := { s with tim := { s.tim.rebase with rate := c } }
  if c = r then s1 else record 2 0x2016 (int32 r) (int32 c) 0 s1

/-- SL for a slew rate in ppm, in units of 2^-32 (R222; the fraction is dropped, log 12). -/
def slOf (ppm : Nat) : Int := (ppm * 4294967296 / 1000000 : Nat)

/-- UNCERT has gone from `was` to its present value: interrupts 81 and 82, events 0x2011 and 0x2012 (R236, R237).
`cause` is 1 for coast and 2 for the error bound; `eb` the error bound in ns. -/
def uncertEdge (was : Bool) (cause eb : Nat) (s : State) : State :=
  if !was && s.tim.uncert then
    record 2 0x2011 cause eb 0 (raise 81 { s with tim := { s.tim with uncSince := s.tim.elapsed } })
  else if was && !s.tim.uncert then
    record 2 0x2012 eb ((s.tim.elapsed - s.tim.uncSince) / 1000000).toNat 0 (raise 82 s)
  else s

/-- H of R218, in ppb: 100 while locked to a recovered clock, 1,500 while locked to the TCXO. -/
def ebRate (c : Clk) : Int := if c.ref ≤ 1 then 100 else 1500

/-- A module that follows the TIME frames: STANDBY, or INTEGRATING with the peer ACTIVE (R322, R502). -/
def passive (s : State) : Bool :=
  decide (s.twl.role = .standby) || (decide (s.twl.role = .integrating) && decide (s.twl.peerRole = 3))

/-- The error bound of R218 in ns, saturated to 32 bits, for a module that follows TIME frames that of R322; none
before a measurement since power-on. -/
def errBound (s : State) : Option Nat :=
  if s.tim.gmSelf then some 0
  else
    match s.tim.lastAt with
    | none => none
    | some at_ =>
      some (min 0xFFFFFFFF ((if passive s then s.twl.activeEb else 0) + s.tim.lastOfs.natAbs +
        ((ebRate s.clk * (s.tim.elapsed - at_)) / 1000000000).toNat))

/-- CTU_ERRB. -/
def errBoundReg (s : State) : Nat := (errBound s).getD 0xFFFFFFFF

/-- The step and slew of the signed adjustment registers, in 2^-16 ns (R221). -/
def adjValue (t : Tim) : Int :=
  (BitVec.ofNat 48 (t.adjSecL.toNat + t.adjSecH.toNat * 2 ^ 32)).toInt * 1000000000 * 65536 +
    t.adjNs.toInt * 65536

/-- Is the adjustment register in range (CTU_ADJNS)? -/
def adjInRange (t : Tim) : Bool := decide (-999999999 ≤ t.adjNs.toInt) && decide (t.adjNs.toInt ≤ 999999999)

end Sys2Proof.Machine
end

