-- ==== Sys2Proof/Machine/BankOps.lean ====
section
/-! DEFINITION. The field banks' operations: commanded states and gate latches (R241-R243), refreshes and safe states
(R255-R259), faults and overloads, glaze queues (R262-R264), the event FIFO (R254) and bank time (R231, R232). -/

namespace Sys2Proof.Machine

/-- Bank of a channel. -/
def bankOf (ch : Fin 48) : Fin 3 := ⟨ch.val / 16, by omega⟩

/-- Bank index of a channel. -/
def idxOf (ch : Fin 48) : Nat := ch.val % 16

/-- The channel of a bank index. -/
def chanOf (b : Fin 3) (i : Fin 16) : Fin 48 := ⟨16 * b.val + i.val, by omega⟩

/-- Source code of a channel's bank in records: FBA 3, FBB 4, FBC 5 (R410). -/
def bankSrc (ch : Fin 48) : Nat := 3 + ch.val / 16

/-- First interrupt number of a bank (R266). -/
def bankInt (b : Fin 3) : Nat := 96 + 32 * b.val

/-- One channel changed. -/
def setChan (ch : Fin 48) (f : Channel → Channel) (s : State) : State := { s with chans := vmod s.chans ch f }

/-- One bank changed. -/
def setBank (b : Fin 3) (f : Bank → Bank) (s : State) : State := { s with banks := vmod s.banks b f }

/-- An output channel: kinds 3 and 4 (R240). -/
def Channel.isOut (c : Channel) : Bool := decide (c.kind = 3) || decide (c.kind = 4)

/-- A channel state in which supervision and faults of outputs apply (R259). -/
def ChanState.live : ChanState → Bool
  | .driven | .safe | .locked => true
  | _ => false

/-- The gate latches for a commanded state; in 1oo1 no gate is driven (R57, R242). -/
def latches (s : State) (v : Bool) : BitVec 3 := if v && decide (s.vrc.mode ≠ .oo1) then 7 else 0

/-- A running dark pulse ends as aborted (R248). -/
def Channel.abortPulse (c : Channel) : Channel :=
  if c.pulse.isSome then { c with pulse := none, dtAbort := inc8 c.dtAbort } else c

/-- A new commanded state: a running dark pulse ends, all three latches take the state at once, and readback
follows, open in 1oo1 (R57, R242, R243, R248). -/
def setCmd (ch : Fin 48) (v : Bool) (s : State) : State :=
  let pin := v && decide (s.vrc.mode ≠ .oo1)
  setChan ch (fun c => { c.abortPulse with cmd := v, gates := latches s v, filt := pin, raw := pin }) s

/-- A glaze queue is discarded with a cause of GLAZE_FLUSHED (R255, R259, R264). -/
def flushQueue (ch : Fin 48) (cause : Nat) (s : State) : State :=
  let n := (s.chans[ch]).queue.length
  if n = 0 then s
  else
    raise (bankInt (bankOf ch) + 5) (record (bankSrc ch) 0x3014 ch.val cause n
      (setChan ch (fun c => { c with queue := [], darkDue := false }) s))

/-- The safe state of an output channel is applied: OFF, ON or HOLD, and its glaze queue flushed (R255). -/
def applySafe (ch : Fin 48) (reason : Nat) (next : ChanState) (s : State) : State :=
  let c := s.chans[ch]
  let v := if c.safeSt = 1 then true else if c.safeSt = 2 then c.cmd else false
  let s1 := if v = c.cmd ∧ c.gates = latches s v then s else setCmd ch v s
  setChan ch (fun x => { x with state := next, watched := false, timedOut := false, darkDue := false })
    (flushQueue ch reason s1)

/-- The channels a mask names that are outputs DRIVEN or SAFE lose their commands: LOCKED (R258). -/
def banksSafeOwned (own : BitVec 48) (reason : Nat) (s : State) : State :=
  (allFin 48).foldl (fun t ch =>
    let c := t.chans[ch]
    if own.getLsbD ch.val && c.isOut && (decide (c.state = .driven) || decide (c.state = .safe))
    then applySafe ch reason .locked t else t) s

/-- Every output channel of the module (R258). -/
def banksSafe (reason : Nat) (s : State) : State := banksSafeOwned (BitVec.allOnes 48) reason s

/-- A refresh of an output channel (R243, R256, R259), with the commanded state it carries. -/
def refresh (ch : Fin 48) (v : Bool) (s : State) : State :=
  let c := s.chans[ch]
  if c.isOut && (decide (c.state = .driven) || decide (c.state = .safe)) then
    let s1 := if c.timedOut then record (bankSrc ch) 0x3007 ch.val 0 0 s else s
    let s2 := setChan ch (fun x =>
      { x with state := .driven, watched := true, refreshAt := s.tim.frc, timedOut := false }) s1
    if c.kind = 3 ∧ c.cmd ≠ v then setCmd ch v s2 else s2
  else s

/-- A commit of a bank-outputs entry refreshes the channels the task owns (R149, R243, R256). -/
def bankCommit (own bits : BitVec 48) (s : State) : State :=
  (allFin 48).foldl (fun t ch => if own.getLsbD ch.val then refresh ch (bits.getLsbD ch.val) t else t) s

/-- The bits of immediate outputs a core does not own and whose value differs from the commanded state (R68). -/
def foreignBits (s : State) (b : Fin 3) (core : Fin 8) (bits : BitVec 16) : List (Fin 16) :=
  (allFin 16).filter (fun i =>
    let ch := chanOf b i
    let c := s.chans[ch]
    decide (c.kind = 3) && decide (s.vrc.owners[ch] ≠ core.val) && decide (bits.getLsbD i.val ≠ c.cmd))

/-- A voted write to FBx_OUT (R243, R256), in WIDE a core's write to the channels it owns (R68). -/
def outWrite (b : Fin 3) (core : Option (Fin 8)) (bits : BitVec 16) (s : State) : State :=
  match core with
  | none => (allFin 16).foldl (fun t i => refresh (chanOf b i) (bits.getLsbD i.val) t) s
  | some k =>
    let bad := foreignBits s b k bits
    let s1 := (allFin 16).foldl (fun t i =>
      if s.vrc.owners[chanOf b i] = k.val then refresh (chanOf b i) (bits.getLsbD i.val) t else t) s
    if bad = [] then s1
    else
      let mask := bad.foldl (fun m i => m + 2 ^ i.val) 0
      raise 38 (record 1 0x100A k.val mask b.val
        { s1 with vrc := { s1.vrc with wideRej := satAdd 0xFFFFFFFF s1.vrc.wideRej bad.length } })

/-- The filtered states of R147: faulted inputs read 0. -/
def bankFiltered (s : State) : BitVec 48 :=
  (allFin 48).foldl (fun m ch => putBit m ch.val (s.chans[ch]).filt) 0

/-- A channel enters FAULT (R259): an input reads 0; an output takes its safe state. -/
def chanFault (ch : Fin 48) (cause p2 : Nat) (s : State) : State :=
  let c := s.chans[ch]
  let s1 := if c.isOut then applySafe ch 1 .fault s
    else setChan ch (fun x => { x with state := .fault, filt := false }) s
  raise (bankInt (bankOf ch) + 2) (record (bankSrc ch) 0x3001 ch.val cause p2
    (setChan ch (fun x => { x with cause := cause }) s1))

/-- A channel trips: all six switches open, the queue flushed (R244, R259). -/
def chanTrip (ch : Fin 48) (cause : Nat) (s : State) : State :=
  setChan ch (fun x =>
    { x.abortPulse with state := .overload, cause := cause, gates := 0, filt := false, raw := false
                        watched := false, timedOut := false, darkDue := false }) (flushQueue ch 3 s)

/-- Release of a FAULT or OVERLOAD channel (R259); a FAULT only once its comparators or senses agree. -/
def faultClear (ch : Fin 48) (s : State) : State :=
  let c := s.chans[ch]
  match c.state with
  | .fault =>
    if c.agree then
      setChan ch (fun x => { x with state := if x.isOut then .safe else .input, cause := 0
                                    filt := if x.isOut then x.filt else x.raw }) s
    else s
  | .overload => setChan ch (fun x => { x with cause := 0 }) (applySafe ch 1 .safe s)
  | _ => s

/-- FBx_FLTCLR (R259). -/
def fltclrWrite (b : Fin 3) (bits : BitVec 16) (s : State) : State :=
  (allFin 16).foldl (fun t i => if bits.getLsbD i.val then faultClear (chanOf b i) t else t) s

/-! ### Bank time and glaze queues -/

/-- Bank time, ns: the value loaded at the last pulse and INC for each sync edge since (R231). -/
def bankNow (b : Bank) (s : State) : Option Int :=
  match b.base with
  | none => none
  | some t => some (t + ((s.tim.frc - b.baseFrc).toNat / b.edge * b.inc / 16777216 : Nat))

/-- The flags of FBx_LASTLCH [23:16] of a launch. -/
def launchFlags (b : Bank) (late step abort : Bool) : Nat :=
  b2n late * 128 + b2n step * 64 + b2n (!b.timeValid) * 32 + b2n b.coast * 16 + b2n b.unc * 8 + b2n b.local_ * 4 +
    b2n abort * 2 + 1

/-- Lateness in µs, saturating. -/
def lateUs (ns : Int) : Nat := min 0xFFFFFFFF (ns / 1000).toNat

/-- An entry launches: the latches take its state, FBx_LASTLCH is written; the flags of the launch (R263). -/
def launch (ch : Fin 48) (st late step : Bool) (s : State) : Nat × State :=
  let k := bankOf ch
  let fl := launchFlags s.banks[k] late step (s.chans[ch]).pulse.isSome
  let s1 := if (s.chans[ch]).cmd = st then setChan ch Channel.abortPulse s else setCmd ch st s
  let s2 := setChan ch (fun c => { c with gates := latches s st }) s1
  (fl, setBank k (fun b =>
    { b with lastLaunch := BitVec.ofNat 32 (fl * 65536 + b2n st * 16 + idxOf ch) }) s2)

/-- A late launch is counted and recorded (R262, R264). -/
def launchLate (ch : Fin 48) (st step : Bool) (lateNs : Int) (s : State) : State :=
  let (fl, s1) := launch ch st true step s
  raise (bankInt (bankOf ch) + 4) (record (bankSrc ch) 0x3010 ch.val (lateUs lateNs) fl
    (setBank (bankOf ch) (fun b => { b with glzLate := inc16 b.glzLate }) s1))

/-- An entry refused (R262). -/
def glazeRefuse (ch : Fin 48) (code p1 p2 : Nat) (s : State) : State :=
  raise (bankInt (bankOf ch) + 5) (record (bankSrc ch) code ch.val p1 p2
    (setBank (bankOf ch) (fun b => { b with glzRefused := inc16 b.glzRefused }) s))

/-- An entry placed in launch order. -/
def queueInsert (q : List GlazeEntry) (e : GlazeEntry) : List GlazeEntry :=
  match q with
  | [] => [e]
  | x :: r => if e.launch < x.launch then e :: x :: r else x :: queueInsert r e

/-- A posted glaze entry, checked in the order of R262: `ns` is its launch time. -/
def glazePost (ch : Fin 48) (st : Bool) (ns : Int) (s : State) : State :=
  let c := s.chans[ch]
  let b := s.banks[bankOf ch]
  let lns := (ns % 1000000000).toNat
  match bankNow b s with
  | none => if c.kind ≠ 4 then glazeRefuse ch 0x3012 1 lns s else glazeRefuse ch 0x3012 2 lns s
  | some now =>
    if c.kind ≠ 4 then glazeRefuse ch 0x3012 1 lns s
    else if c.state ≠ .driven then glazeRefuse ch 0x3012 2 lns s
    else if b.stale ≠ 0 ∧ (b.stale : Int) * 1000000 < now - ns then glazeRefuse ch 0x3011 (lateUs (now - ns)) 0 s
    else if (b.horizon : Int) * 1000000000 < ns - now then glazeRefuse ch 0x3012 3 lns s
    else if ns ≤ now then launchLate ch st false (now - ns) s
    else
      match c.queue.find? (fun e => decide (e.launch = ns)) with
      | some e =>
        if e.state = st then s
        else record (bankSrc ch) 0x3013 ch.val (b2n st) lns
          (setChan ch (fun x => { x with
            queue := x.queue.map (fun y => if y.launch = ns then { y with state := st } else y) }) s)
      | none =>
        if 8 ≤ c.queue.length then glazeRefuse ch 0x3012 4 lns s
        else setChan ch (fun x => { x with queue := queueInsert x.queue ⟨ns, st⟩ }) s

/-- A forward step of bank time (R264): what is due launches at this edge, the last entry giving the state. -/
def stepForward (ch : Fin 48) (now : Int) (s : State) : State :=
  let q := (s.chans[ch]).queue
  let due := q.takeWhile (fun e => decide (e.launch ≤ now))
  match due.getLast? with
  | none => s
  | some e =>
    launchLate ch e.state true (now - e.launch)
      (setChan ch (fun x => { x with queue := x.queue.drop due.length }) s)

/-- A backward step (R264): entries now beyond the horizon are discarded. -/
def stepBackward (ch : Fin 48) (now : Int) (s : State) : State :=
  let q := (s.chans[ch]).queue
  let h : Int := (s.banks[bankOf ch]).horizon * 1000000000
  let keep := q.filter (fun e => decide (e.launch - now ≤ h))
  if keep.length = q.length then s
  else
    raise (bankInt (bankOf ch) + 5) (record (bankSrc ch) 0x3014 ch.val 2 (q.length - keep.length)
      (setChan ch (fun x => { x with queue := keep }) s))

/-- A bank of `b`'s channels, in ascending order. -/
def bankChans (b : Fin 3) : List (Fin 48) := (allFin 16).map (chanOf b)

/-! ### The event FIFO -/

/-- An enabled edge enters the event FIFO (R254). -/
def pushEvent (ch : Fin 48) (ns : Int) (rising integ : Bool) (s : State) : State :=
  let k := bankOf ch
  let b := s.banks[k]
  let s1 := raise (bankInt k + 16 + idxOf ch) s
  if b.fifo.length < 256 then
    let fl := b2n b.lossMark * 2 ^ 30 + 2 ^ 31 + b2n b.local_ * 2 ^ 20 + b2n b.unc * 2 ^ 19 +
      b2n (!b.timeValid) * 2 ^ 18 + b2n integ * 2 ^ 17 + b2n rising * 2 ^ 16 + idxOf ch
    let s2 := setBank k (fun x =>
      { x with fifo := x.fifo ++ [⟨ns, BitVec.ofNat 32 fl⟩], lossMark := false }) s1
    if b.fifo = [] then raise (bankInt k) s2 else s2
  else
    let lost := inc32 b.evtLost
    let s2 := raise (bankInt k + 1) (setBank k (fun x => { x with evtLost := lost, lossMark := true }) s1)
    let again := match b.ovfAt with
      | some t => decide (t + 1000 ≤ s.recd.optime)
      | none => true
    if again then
      record (3 + k.val) 0x3009 k.val lost 0 (setBank k (fun x => { x with ovfAt := some s.recd.optime }) s2)
    else s2

/-- A read of FBx_EVT0 removes the head entry and latches its other words (R254, R265). -/
def readEvt0 (k : Fin 3) (s : State) : Nat × State :=
  match (s.banks[k]).fifo with
  | [] => (0, setBank k (fun b => { b with evt := Vector.replicate 3 0 }) s)
  | e :: rest =>
    let (sec, ns) := splitNs e.ns
    (ns, setBank k (fun b =>
      { b with fifo := rest, evt := #v[BitVec.ofNat 32 sec, BitVec.ofNat 32 (sec / 2 ^ 32), e.flags] }) s)

/-! ### Reset and the end of FIRING -/

/-- A module reset: safe states, then LOCKED until the end of the next FIRING; FAULT and OVERLOAD survive only as
records (R258, R259). -/
def banksReset (s : State) : State :=
  (allFin 48).foldl (fun t ch =>
    let c := t.chans[ch]
    if c.isOut then setChan ch (fun x => { x with cause := 0, agree := true }) (applySafe ch 1 .locked t)
    else setChan ch (fun x =>
      { x with state := if x.kind = 0 then .unused else .input, cause := 0, agree := true }) t) s

/-- FIRING ends into RUN-2oo3, RUN-2oo2 or WIDE: LOCKED outputs become SAFE (R256, R258, R259). -/
def banksFired (s : State) : State :=
  (allFin 48).foldl (fun t ch =>
    if (t.chans[ch]).isOut ∧ (t.chans[ch]).state = .locked then setChan ch (fun x => { x with state := .safe }) t
    else t) s

end Sys2Proof.Machine
end

