-- ==== Sys2Proof/Machine/Params.lean ====
section
/-! DEFINITION. The entry table of the object dictionary (R382, R383 and the entry tables of every chapter), and the
parameter set (R392, R400): what is stored, and what the last FIRING loaded. -/

namespace Sys2Proof.Machine

/-- Data types of R383. -/
inductive DType where
  | bool
  | uint (octets : Nat)
  | int (octets : Nat)
  | octets (n : Nat)
  | str
  | domain (lo hi : Nat)
deriving DecidableEq, Repr

/-- An entry: type, access, class, default and range (R391, R392). -/
structure DEntry where
  ty : DType
  rd : Bool := true
  wr : Bool := false
  /-- A Parameter entry (R392). -/
  param : Bool := false
  /-- Written through the two-step commit (R395). -/
  safety : Bool := false
  /-- Writable at OPEN level (R385). -/
  openWr : Bool := false
  lo : Int := 0
  hi : Int := 18446744073709551615
  /-- A count, size or length, of which 0 is too low (R13). -/
  count : Bool := false
  dflt : Nat := 0
deriving DecidableEq, Repr

/-- A read-only entry. -/
def ro (n : Nat) : DEntry := { ty := .uint n }

/-- A Parameter entry of `n` octets with its default and range. -/
def pv (n dflt lo hi : Nat) : DEntry :=
  { ty := .uint n, wr := true, param := true, lo := lo, hi := hi, dflt := dflt }

/-- A BOOLEAN Parameter entry. -/
def pb (dflt : Nat) : DEntry := { ty := .bool, wr := true, param := true, hi := 1, dflt := dflt }

/-- A Volatile entry that is written. -/
def vv (n lo hi : Nat) : DEntry := { ty := .uint n, wr := true, lo := lo, hi := hi }

/-- An entry of a list by subindex; subindex 0 is the highest subindex (R383). -/
def atSub (l : List DEntry) (sub : Nat) : Option DEntry :=
  if sub = 0 then some (ro 1) else l[sub - 1]?

/-- `n` equal subindices. -/
def rep (n : Nat) (e : DEntry) (sub : Nat) : Option DEntry := atSub (List.replicate n e) sub

/-- A single value held in subindex 0. -/
def single (e : DEntry) (sub : Nat) : Option DEntry := if sub = 0 then some e else none

/-- The default of a privileged code (R428). -/
def privDefault (sub : Nat) : Nat :=
  [0x04100010, 0x04101001, 0x04101002, 0x04101003, 0x04106002, 0x10303001, 0x10303006, 0x10303010].getD (sub - 1) 0

/-- 0x1000-0x1FFF (R402). -/
def entry1 (idx sub : Nat) : Option (Option DEntry) :=
  if idx = 0x1000 then some (single (ro 4) sub)
  else if idx = 0x1001 then some (single (ro 1) sub)
  else if idx = 0x1008 ∨ idx = 0x1009 ∨ idx = 0x100A then some (single { ty := .str } sub)
  else if idx = 0x1016 then some (rep 4 (pv 4 0 0 0x01FFFFFF) sub)
  else if idx = 0x1017 then some (single (pv 2 1000 0 65535) sub)
  else if idx = 0x1018 then some (rep 4 (ro 4) sub)
  else if 0x1400 ≤ idx ∧ idx < 0x1410 then some (atSub [pv 4 0x80000000 0 0xFFFFFFFF, pv 1 255 254 255] sub)
  else if 0x1800 ≤ idx ∧ idx < 0x1810 then
    some (if sub = 3 ∨ sub = 4 then none
      else atSub [pv 4 0x80000000 0 0xFFFFFFFF, pv 1 255 254 255, ro 1, ro 1, pv 2 0 0 65535] sub)
  else none

/-- 0x2000-0x22FF (R29, R74, R103, R405, R406). -/
def entry2a (idx sub : Nat) : Option (Option DEntry) :=
  if idx = 0x2000 then some (atSub [ro 1, vv 1 0 4, ro 2, ro 4] sub)
  else if idx = 0x2001 then some (atSub [pb 1] sub)
  else if idx = 0x2002 then some (atSub [ro 4, ro 4, ro 4, ro 4, ro 1, ro 1] sub)
  else if idx = 0x2003 then
    some (atSub [{ ty := .octets 12 }, { ty := .octets 16, rd := false, wr := true, openWr := true },
      { ty := .octets 16, rd := false, wr := true, param := true }] sub)
  else if idx = 0x2010 then some (atSub [vv 1 0 0x17, vv 1 0 3, ro 1, vv 8 0 0xFFFFFFFFFF, vv 8 0 0xFFFFFFFFFF] sub)
  else if idx = 0x2011 then some (rep 64 { ty := .uint 8, wr := true } sub)
  else if idx = 0x2012 then
    some (atSub [vv 8 0 0xFFFFFFFFFF, { ty := .domain 4 1024, wr := true }] sub)
  else if idx = 0x2013 then some (rep 128 { ty := .uint 8, wr := true } sub)
  else if idx = 0x2100 then
    some (atSub [ro 1, ro 4, pb 0, ro 4, vv 1 0 255, ro 4, ro 4] sub)
  else if idx = 0x2101 ∨ idx = 0x2102 then some (rep 4 (ro 1) sub)
  else if idx = 0x2103 then some (rep 4 (ro 2) sub)
  else if idx = 0x2104 ∨ idx = 0x2201 then some (rep 4 (ro 6) sub)
  else if idx = 0x2105 then some (rep 4 (ro 8) sub)
  else if idx = 0x2110 then some (rep 48 (pv 1 0xFF 0 255) sub)
  else if idx = 0x2200 then
    some (atSub [{ pb 1 with safety := true }, { pv 4 60000 1000 3600000 with safety := true },
      ro 1, ro 1, ro 4, ro 4, ro 4, ro 4, ro 4] sub)
  else none

/-- 0x2300-0x24FF (R209, R238, R268). -/
def entry2b (idx sub : Nat) : Option (Option DEntry) :=
  if idx = 0x2300 then
    some (atSub [pv 1 7 1 7, pv 1 1 0 3, pb 1, pv 4 0xF7F 0 0xF7F, ro 1, ro 4, ro 4, ro 4, ro 4] sub)
  else if idx = 0x2301 then some (rep 5 (ro 4) sub)
  else if idx = 0x2310 then
    some (atSub [pv 1 0 0 127, pb 0, pv 1 128 0 255, pv 1 128 0 255,
      { ty := .int 1, wr := true, param := true, lo := -4, hi := 1 },
      { ty := .int 1, wr := true, param := true, lo := -4, hi := 5 },
      pv 4 10000 1000 1000000000, pv 1 100 1 100, pv 4 1000 100 1000000,
      { pv 1 3 2 255 with count := true },
      { ty := .int 4, wr := true, param := true, lo := -1000000, hi := 1000000 },
      { ty := .int 4, wr := true, param := true, lo := -1000000, hi := 1000000 }, pb 1] sub)
  else if idx = 0x2311 then
    some (atSub [ro 6, ro 4, ro 1, ro 1, { ty := .int 4 }, ro 4, ro 4, ro 4, ro 4, ro 4, ro 4] sub)
  else if idx = 0x2312 then some (single { ty := .octets 8 } sub)
  else if 0x2400 ≤ idx ∧ idx < 0x2430 then
    some (atSub [pv 1 0 0 4, pv 1 0 0 1, pv 2 0 0 65535, pv 2 0 0 65535, pv 1 0 0 2, pb 1, pv 2 5 1 1000, pb 1,
      ro 1, ro 1] sub)
  else if idx = 0x2430 then
    some (atSub [pv 1 0 0 2, pv 1 0 0 2, pv 1 0 0 2, pv 2 100 1 1000, pv 2 100 1 1000, pv 2 100 1 1000, pb 0,
      pv 2 10 0 60000, pv 2 10 1 3600, pv 1 50 10 200, pv 2 10 1 600, ro 1, ro 1, ro 1, ro 2, ro 2, ro 2,
      ro 4, ro 4, ro 4] sub)
  else none

/-- 0x2500-0x27FF (R310, R335, R360). -/
def entry2c (idx sub : Nat) : Option (Option DEntry) :=
  if idx = 0x2500 then
    some (atSub [pv 1 1 1 62, pb 1, pv 4 0 0 1000000, pb 1, ro 1, ro 1, ro 1, ro 4, ro 4, ro 4, ro 4, ro 4, ro 4,
      ro 1] sub)
  else if idx = 0x2510 then some (single { ty := .domain 32 16416, wr := true, param := true } sub)
  else if idx = 0x2511 then some (atSub [ro 4, ro 2, ro 1] sub)
  else if idx = 0x2520 then
    some (atSub [vv 1 1 62, vv 1 0 255, vv 2 1 0xFFFF, vv 1 0 255, { ty := .domain 1 65536, wr := true }, ro 4] sub)
  else if idx = 0x2530 then some (rep 62 (ro 1) sub)
  else if idx = 0x2600 then
    some (atSub [pb 1, pv 1 0 0 2, pv 4 600 10 86400, pv 1 0 0 94, ro 1, ro 1, ro 1, ro 4, ro 4, ro 4, ro 4, ro 1] sub)
  else if idx = 0x2700 then
    some (atSub [pv 4 0xC0A80A01 0x01000000 0xDFFFFFFF, { pv 1 24 8 30 with count := true }, pv 4 0 0 0xDFFFFFFF,
      pv 1 0xF 0 0xF, pv 2 1 1 4094, pv 1 5 0 7, pb 1, pv 1 0 0 127, pv 1 0 0 127, pv 2 500 125 1000,
      pv 2 2000 1000 5000, pb 1, pv 2 60 5 3600] sub)
  else if idx = 0x2701 then some (single { ty := .octets 6 } sub)
  else if idx = 0x2702 then
    some (atSub (pv 4 0x70001 0 0x777FFF :: List.replicate 15 (pv 4 0 0 0x777FFF)) sub)
  else if idx = 0x2703 then some (rep 20 { ty := .octets 10, wr := true, param := true } sub)
  else none

/-- 0x2800-0x2FFF (R427, R428, R442, R461, R478, R407). -/
def entry2d (idx sub : Nat) : Option (Option DEntry) :=
  if idx = 0x2800 then some (atSub [ro 4, ro 2, { ty := .bool }, ro 6, ro 4, ro 4, ro 4, ro 4, ro 1] sub)
  else if idx = 0x2801 then
    some (atSub [{ vv 4 1 0xFFFFFFFF with openWr := true, dflt := 1 },
      { vv 2 1 2048 with openWr := true, count := true, dflt := 32 }, { ty := .domain 0 65536 }] sub)
  else if idx = 0x2810 then
    some (if sub = 0 then some (ro 1) else if sub ≤ 32 then some (pv 4 (privDefault sub) 0 0xFFFFFFFF) else none)
  else if idx = 0x2811 then some (rep 32 (ro 4) sub)
  else if idx = 0x2900 then some (atSub [pb 0, pv 4 1000 1 1000000] sub)
  else if idx = 0x2901 then some (rep 16 (ro 6) sub)
  else if idx = 0x2902 ∨ idx = 0x2903 then some (rep 8 (ro 4) sub)
  else if idx = 0x2A00 then some (atSub [ro 1, ro 4, ro 1, ro 1, ro 2, ro 1, ro 4] sub)
  else if idx = 0x2A01 ∨ idx = 0x2A03 then some (rep 3 (ro 1) sub)
  else if idx = 0x2A02 then some (rep 3 (ro 4) sub)
  else if idx = 0x2A10 then some (single { ty := .domain 256 8388608, rd := false, wr := true } sub)
  else if idx = 0x2A11 then some (atSub [ro 1, ro 4, vv 1 0 4, ro 1] sub)
  else if idx = 0x2A30 then some (single { ty := .domain 0 262144 } sub)
  else if idx = 0x2A31 then some (atSub [ro 2, ro 4, ro 4] sub)
  else if idx = 0x2B00 then some (atSub [vv 1 0 1, pv 1 7 0 7, ro 1, ro 2, ro 2, ro 2, ro 4, ro 4, ro 4] sub)
  else if idx = 0x2B01 then some (rep 7 (ro 4) sub)
  else if idx = 0x2F00 then some (atSub [ro 1, ro 4, ro 2, ro 4, ro 2, ro 4, ro 1, ro 1] sub)
  else none

/-- 0x3000-0x4FFF (R183, R406, R498). -/
def entry3 (idx sub : Nat) : Option (Option DEntry) :=
  if idx = 0x3000 then some (atSub [ro 4, ro 4, ro 1, ro 1, ro 4, ro 4, ro 4] sub)
  else if idx = 0x3010 then some (single { ty := .domain 1 8388608, rd := false, wr := true } sub)
  else if idx = 0x3011 then
    some (atSub [vv 1 0 2, { ty := .bool, wr := true, safety := true, hi := 1 }, ro 1, ro 2] sub)
  else if 0x3020 ≤ idx ∧ idx < 0x3028 then
    some (atSub [ro 2, ro 4, ro 4, ro 4, ro 4, ro 4, ro 4, ro 1, ro 1] sub)
  else if idx = 0x3030 then some (atSub [ro 1, ro 4, ro 4] sub)
  else if idx = 0x4001 ∨ idx = 0x4002 then some (rep 4 (ro 4) sub)
  else if idx = 0x4010 then some (atSub [{ ty := .int 2 }, { ty := .int 2 }, ro 4, ro 4] sub)
  else none

/-- The entry of an index and subindex: none where the index is unused, some none where only the subindex is. -/
def dictEntry (idx sub : Nat) : Option (Option DEntry) :=
  if idx < 0x2000 then entry1 idx sub
  else if idx < 0x2300 then entry2a idx sub
  else if idx < 0x2500 then entry2b idx sub
  else if idx < 0x2800 then entry2c idx sub
  else if idx < 0x3000 then entry2d idx sub
  else entry3 idx sub

/-- The default of a Parameter entry (R400). -/
def paramDefault (idx sub : Nat) : Nat :=
  match dictEntry idx sub with
  | some (some e) => e.dflt
  | _ => 0

/-- The stored value of a Parameter entry (R392). -/
def stored (s : State) (idx sub : Nat) : Nat := (assocGet s.kiln.params (idx, sub)).getD (paramDefault idx sub)

/-- The value the last FIRING loaded. -/
def par (s : State) (idx sub : Nat) : Nat := (assocGet s.kiln.inForce (idx, sub)).getD (paramDefault idx sub)

/-- A parameter in force that is a BOOLEAN. -/
def parOn (s : State) (idx sub : Nat) : Bool := decide (par s idx sub = 1)

/-- A parameter in force as a signed number of `w` bits. -/
def parInt (s : State) (idx sub w : Nat) : Int := signed w (par s idx sub)

/-- A value placed in the stored set (R393); DIRTY is set by every write (R458). -/
def putParam (idx sub v : Nat) (s : State) : State :=
  { s with kiln := { s.kiln with params := assocSet s.kiln.params (idx, sub) v, dirty := true } }

/-- The parameter set as an octet string in the form of R458, with the PFV and DIRTY given; octets of each entry by
its type. -/
def typeLen : DType → Nat
  | .bool => 1
  | .uint n => n
  | .int n => n
  | .octets n => n
  | _ => 0

/-- Octets of a value under its type. -/
def entryLen (idx sub : Nat) : Nat :=
  match dictEntry idx sub with
  | some (some e) => typeLen e.ty
  | _ => 0

/-- Octets of a stored value: the schedule table of 0x2510 is as long as its header says (R282). -/
def storedLen (idx sub v : Nat) : Nat := if idx = 0x2510 then 32 + 16 * field v 48 16 else entryLen idx sub

/-- An entry placed in ascending index and subindex order. -/
def setInsert (p : (Nat × Nat) × Nat) : List ((Nat × Nat) × Nat) → List ((Nat × Nat) × Nat)
  | [] => [p]
  | q :: r => if p.1.1 * 256 + p.1.2 ≤ q.1.1 * 256 + q.1.2 then p :: q :: r else q :: setInsert p r

/-- Entries of a set in ascending index and subindex order (R394, R458). -/
def sortedSet (ps : List ((Nat × Nat) × Nat)) : List ((Nat × Nat) × Nat) := ps.foldr setInsert []

/-- A set in the stored form of R458. -/
def setOctets (pfv : Nat) (dirty : Bool) (ps : List ((Nat × Nat) × Nat)) : List Byte :=
  let es := (sortedSet ps).flatMap (fun p =>
    let n := storedLen p.1.1 p.1.2 p.2
    leBytes 2 p.1.1 ++ leBytes 1 p.1.2 ++ [0] ++ leBytes 4 n ++ leBytes ((n + 3) / 4 * 4) p.2)
  ascii "YPS1" ++ leBytes 2 pfv ++ [BitVec.ofNat 8 (b2n dirty), 0] ++ leBytes 4 ps.length ++
    leBytes 4 (crc32c es).toNat ++ es

/-- The members of the SAFETY parameter set: entries marked SAFETY of the Parameter class, and 0x2600 subindices 2-4
(R394). -/
def safetyMembers : List (Nat × Nat) := [(0x2200, 1), (0x2200, 2), (0x2600, 2), (0x2600, 3), (0x2600, 4)]

/-- CRC-32C of the SAFETY parameter set (R394). -/
def safetyCrc (s : State) : Nat :=
  (crc32c (safetyMembers.flatMap (fun m =>
    leBytes 2 m.1 ++ leBytes 1 m.2 ++ leBytes (entryLen m.1 m.2) (stored s m.1 m.2)))).toNat

end Sys2Proof.Machine
end

