-- ==== Sys2Proof/Machine/NetOps.lean ====
section
/-! DEFINITION. The backbone switch (R337-R340), the line-network controller's send path (R345-R347), and the answer
to a dictionary request. -/

namespace Sys2Proof.Machine

/-- The line-network controller changed. -/
def setLnc (f : Lnc → Lnc) (s : State) : State := { s with lnc := f s.lnc }

/-- The entry that holds a session; a Xenex node has none (R386). -/
def sessIdx : Session → Option (Fin 6)
  | .gdp n => some ⟨n.val, by omega⟩
  | .can ch => some ⟨4 + ch.val, by omega⟩
  | .node _ => none

/-- A session changed. -/
def setSess (i : Fin 6) (f : SessionState → SessionState) (s : State) : State :=
  { s with kiln := { s.kiln with sessions := vmod s.kiln.sessions i f } }

/-- An answer leaves that the session does not keep. -/
def replyOnly (b : Session) (a : Answer) (s : State) : State :=
  { s with kiln := { s.kiln with answers := assocSet s.kiln.answers b a } }

/-- The answer to a session's request (R384), which a GDP session keeps for a repeat (R354). -/
def reply (b : Session) (a : Answer) (s : State) : State :=
  match sessIdx b with
  | some i => setSess i (fun x => if x.open_ then { x with answer := some a } else x) (replyOnly b a s)
  | none => replyOnly b a s

/-- Destination and source MAC of a frame, and the 16 bits at an offset, most significant octet first. -/
def macAt (f : List Byte) (o : Nat) : Nat := leNat ((f.drop o).take 6)

def be16 (f : List Byte) (o : Nat) : Nat := leNat (((f.drop o).take 2).reverse)

/-- A group address: multicast or broadcast. -/
def groupMac (f : List Byte) : Bool := ((f.getD 0 0).getLsbD 0)

/-- VID and PCP of a frame at a port, and whether it is tagged; an untagged frame, or one with VID 0, takes the
default VID and an untagged one PCP 0 (R338). -/
def classify (l : Lnc) (f : List Byte) : Nat × Nat × Bool :=
  if be16 f 12 = 0x8100 then
    let t := be16 f 14
    (if t % 4096 = 0 then l.vid else t % 4096, if t % 4096 = 0 then 0 else t / 8192, true)
  else (l.vid, 0, false)

/-- A frame without its outer tag. -/
def untag (f : List Byte) : List Byte := if be16 f 12 = 0x8100 then f.take 12 ++ f.drop 16 else f

/-- A frame without its tags: at most `n` of them (R343). -/
def untagAll : Nat → List Byte → List Byte
  | 0, f => f
  | n + 1, f => if be16 f 12 = 0x8100 then untagAll n (untag f) else f

/-- A frame of the line as the lanes and the Kiln see it: no tag. -/
def bare (f : List Byte) : List Byte := untagAll 4 f

/-- The VLAN table entry of a VID (R338). -/
def vlanOf (l : Lnc) (vid : Nat) : Option Nat := l.vlans.find? (fun w => decide (w ≠ 0) && decide (w % 4096 = vid))

/-- Is a port a member of a VLAN entry? -/
def member (w : Nat) (p : Fin 3) : Bool := w.testBit (16 + p.val)

/-- Does a port send a VLAN untagged? -/
def sendsUntagged (w : Nat) (p : Fin 3) : Bool := w.testBit (20 + p.val)

/-- The switch forwards: PD6 is powered and the root is not in coast (R337), nor is its microcode being loaded (R452). -/
def switchOn (s : State) : Bool :=
  s.pwr.on.getLsbD 6 && !s.clk.quiet && !(s.mod.start.kilnUp && decide (LoadTarget.switch ∉ s.boot.loadOk))

/-- Link speed code of a port; the internal port is always up. -/
def portSpd (l : Lnc) (p : Fin 3) : Nat := if p = 0 then l.spd[0] else if p = 1 then l.spd[1] else 2

/-- A source address is learned (R340): 1,024 entries; with the table full a new address is not learned. -/
def learn (vid mac : Nat) (p : Fin 3) (now : Int) (ms : List MacEntry) : List MacEntry :=
  let rest := ms.filter (fun m => !(decide (m.vid = vid) && decide (m.mac = mac)))
  if rest.length < 1024 then rest ++ [{ vid := vid, mac := mac, port := p, seen := now }] else ms

/-- FRC counts of a frame on a link, preamble and gap included: 4 counts an octet at 1000BASE-T, 40 at 100BASE-TX. -/
def frameCounts (spd len : Nat) : Nat := (max 64 (len + 4) + 20) * (if spd = 1 then 40 else 4)

/-- The highest non-empty queue (R339). -/
def topQueue (e : Egress) : Option (Fin 8) := (allFin 8).reverse.find? (fun q => decide (e.queues[q] ≠ []))

/-- Frames whose transmission begins by count `now`, at most `n` of them; the port was last looked at at `since`. -/
def serveEgress (spd since now : Nat) : Nat → Egress → Egress
  | 0, e => e
  | n + 1, e =>
    if spd = 0 ∨ now < max e.busyUntil since then e
    else
      match topQueue e with
      | none => e
      | some q =>
        match e.queues[q] with
        | [] => e
        | f :: r =>
          serveEgress spd since now n
            { e with queues := e.queues.set q.val r q.isLt, last := f.octets
                     busyUntil := max e.busyUntil since + frameCounts spd f.octets.length }

/-- Every egress port serves its queues up to the present count. -/
def serveSwitch (since : Nat) (s : State) : State :=
  if switchOn s then
    setLnc (fun l => { l with egress := Vector.ofFn (fun p =>
      serveEgress (portSpd l p) since s.tim.frc.toNat 128 l.egress[p]) }) s
  else s

/-- A frame that finds its queue full (R339): QUEUE_DROP at most once per second and port. -/
def queueDrop (p : Fin 3) (pcp : Nat) (s : State) : State :=
  let e := s.lnc.egress[p]
  let due := match e.noted with
    | some t => decide (t + 1000 ≤ s.recd.optime)
    | none => true
  let e1 := { e with dropped := inc32 e.dropped, recent := if due then 0 else inc32 e.recent
                     noted := if due then some s.recd.optime else e.noted }
  let s1 := setLnc (fun l => { l with egress := l.egress.set p.val e1 p.isLt }) s
  if due then record 7 0x5003 p.val pcp (inc32 e.recent) s1 else s1

/-- A frame for an egress port (R339): cut through, stored in its queue, or dropped. `cut` holds where the frame came
over a link that allows it; a stored frame with a bad FCS is dropped. -/
def egressFrame (p : Fin 3) (f : QFrame) (cut fcsOk : Bool) (s : State) : State :=
  let e := s.lnc.egress[p]
  let spd := portSpd s.lnc p
  let now := s.tim.frc.toNat
  if spd = 0 then s
  else
    let idle := decide (e.busyUntil ≤ now)
    let ahead := match topQueue e with
      | some q => decide (f.pcp ≤ q.val)
      | none => false
    if cut && idle && !ahead && decide (spd = 2) then
      setLnc (fun l => { l with
        fcsErrors := if fcsOk then l.fcsErrors else inc32 l.fcsErrors
        egress := l.egress.set p.val { e with last := f.octets
                                              busyUntil := now + frameCounts spd f.octets.length } p.isLt }) s
    else if !fcsOk then setLnc (fun l => { l with fcsErrors := inc32 l.fcsErrors }) s
    else
      let q : Fin 8 := ⟨f.pcp % 8, by omega⟩
      if 16 ≤ (e.queues[q]).length then queueDrop p f.pcp s
      else
        let e1 := { e with queues := vmod e.queues q (fun l => l ++ [f]) }
        setLnc (fun l => { l with egress := l.egress.set p.val (serveEgress spd now now 1 e1) p.isLt }) s

/-- A frame as it leaves a port: with a tag unless the port sends the VLAN untagged (R338). -/
def leaving (w : Nat) (p : Fin 3) (vid pcp : Nat) (f : List Byte) : List Byte :=
  if sendsUntagged w p then f
  else f.take 12 ++ [0x81, 0x00] ++ (leBytes 2 (pcp * 8192 + vid)).reverse ++ f.drop 12

/-- The ports an untagged frame goes to (R340): the learned one, or every member but the ingress. -/
def outPorts (l : Lnc) (w vid : Nat) (ingress : Fin 3) (f : List Byte) : List (Fin 3) :=
  let all := (allFin 3).filter (fun p => member w p && decide (p ≠ ingress))
  if groupMac f then all
  else
    match l.macs.find? (fun m => decide (m.vid = vid) && decide (m.mac = macAt f 0)) with
    | some m => all.filter (fun p => decide (p = m.port))
    | none => all

/-- A frame forwarded to a list of ports. -/
def forwardTo (ps : List (Fin 3)) (w vid pcp : Nat) (f : List Byte) (cut fcsOk : Bool) (s : State) : State :=
  ps.foldl (fun t p => egressFrame p { octets := leaving w p vid pcp f, vid := vid, pcp := pcp } cut fcsOk t) s

/-! ### Frames of the lanes (R345-R347) -/

/-- Base of the transmit area and of the receive area of the LNC. -/
def lncTx : Nat := 0x020006C000

def lncRx : Nat := 0x0200064000

/-- LNC_STAT.TXEN (R347): lane frames are sent in a RUN state with no twin operation or as ACTIVE, and in WIDE. -/
def txEnabled (s : State) : Bool :=
  match s.mod.state with
  | .run2oo3 | .run2oo2 => !s.twl.en || decide (s.twl.role = .active)
  | .wide => true
  | _ => false

/-- A transmit slot is queued (R346, R347): suppressed, refused or sent as it stands. -/
def lncQueue (slot : Fin 8) (s : State) : State :=
  let base := lncTx + 0x800 * slot.val
  let d := memRead s.vmem base 32
  let len := leAt d 4 2
  let ports := leAt d 6 1
  let pcp := if leAt d 7 1 = 0xFF then s.lnc.pcp else leAt d 7 1 % 8
  let vid := if leAt d 8 2 = 0 then s.lnc.vid else leAt d 8 2
  if txEnabled s = false then setLnc (fun l => { l with suppr := satAdd 1023 l.suppr 1 }) s
  else if len = 0 then s
  else
    match vlanOf s.lnc vid with
    | some w =>
      if 14 ≤ len ∧ len ≤ 1514 ∧ member w 2 = true then
        let raw := memRead s.vmem (base + 32) len
        let own := raw.take 6 ++ leBytes 6 s.lnc.mac ++ raw.drop 12
        let f := own ++ List.replicate (60 - own.length) 0
        let ps := if ports % 4 = 0 then outPorts s.lnc w vid 2 f
          else (allFin 3).filter (fun p => decide (p.val < 2) && ports.testBit p.val && member w p)
        if switchOn s then
          forwardTo ps w vid pcp f false true
            (setLnc (fun l => { l with sent := satAdd 4095 l.sent 1, lastTx := f }) s)
        else s
      else
        raise 241 (record 7 0x5002 slot.val len vid (setLnc (fun l => { l with refused := satAdd 1023 l.refused 1 }) s))
    | none =>
      raise 241 (record 7 0x5002 slot.val len vid (setLnc (fun l => { l with refused := satAdd 1023 l.refused 1 }) s))

/-- The slots whose SEQ differs from that of an earlier memory are queued (R346). -/
def lncCommitted (before : List Host.Cell) (s : State) : State :=
  (allFin 8).foldl (fun t m =>
    if memRead before (lncTx + 0x800 * m.val) 4 = memRead s.vmem (lncTx + 0x800 * m.val) 4 then t
    else lncQueue m t) s

end Sys2Proof.Machine
end

