-- ==== Sys2Proof/Machine/HookOps.lean ====
section
/-! DEFINITION. The twin link's part in the cycle (R313-R317, R324): roles, the gate hold, frames sent, and CHECK
frames. -/

namespace Sys2Proof.Machine

/-- The twin link changed. -/
def setTwl (f : Twin → Twin) (s : State) : State := { s with twl := f s.twl }

/-- A change of twin role (R327): TWIN_ROLE and interrupt 256. -/
def twinRole (r : TwinRole) (cause : Nat) (s : State) : State :=
  if s.twl.role = r then s
  else
    raise 256 (record 8 0x6001 s.twl.role.code r.code cause
      (setTwl (fun t => { t with role := r, revertAt := none, handover := none, handoverAcked := false }) s))

/-- Gate hold in all three banks (R245, R320). -/
def twinHold (on : Bool) (s : State) : State := { s with banks := s.banks.map (fun b => { b with hold := on }) }

/-- The link carries frames: PD5 and the twin link clocked, no coast (R198, R316). -/
def linkAlive (s : State) : Bool := s.pwr.on.getLsbD 5 && s.clk.clken0.getLsbD 0 && !s.clk.quiet

/-- A link frame is sent (R314). -/
def twinSend (ty : Nat) (payload : List Byte) (s : State) : State :=
  if linkAlive s then
    let tick := ((s.tim.ns - s.cys.delta) / 250000).toNat
    let h := leBytes 1 ty ++ [0] ++ leBytes 2 s.twl.seq ++ leBytes 2 payload.length ++ leBytes 2 tick
    let body := h ++ payload
    setTwl (fun t => { t with seq := (t.seq + 1) % 65536, lastTx := body ++ leBytes 4 (crc32c body).toNat }) s
  else s

/-- The fault frame of R27: a FAULT frame and a pulse of 10 µs (R317), where heartbeats were being sent (R316). -/
def twinFault (cause state : Nat) (s : State) : State :=
  if s.twl.role = .alone then s else twinSend 2 (leBytes 2 cause ++ leBytes 1 state ++ [0]) s

/-- The twin pair ends with the RUN state (R327): FAULT frame and fault pulse, role ALONE. -/
def twinEnd (cause state : Nat) (s : State) : State :=
  twinRole .alone cause (setTwl (fun t =>
    { t with phase := 0, retry := false, release := none, releaseAtCommit := false, gridTo := none
             joinTick := none, fwd := [], fwdHold := false, ownChecks := [], peerChecks := [], inputs := []
             olcTick := none, staging := false }) (twinFault cause state s))

/-- Integration fails with a code of R326: TWIN_INTEG_FAIL, interrupt 265, and a retry after 10 s (R325). -/
def integFail (code : Nat) (s : State) : State :=
  raise 265 (record 8 0x6009 code s.twl.pages 0
    (setTwl (fun t => { t with fail := code, phase := 0, pages := 0, retry := true, fwd := [], fwdHold := false
                               toCopy := [], joinTick := none }) s))

/-- A STANDBY becomes INTEGRATING (R319, R323, R324, R399). -/
def standbyDrop (cause : Nat) (s : State) : State :=
  if s.twl.role = .standby then
    twinHold true (twinRole .integrating cause (setTwl (fun t => { t with phase := 0, retry := false, inputs := []
                                                                          ownChecks := [], peerChecks := [] }) s))
  else s

/-- One hour of operating time, ms. -/
def hourMs : Nat := 3600000

/-- The standby's comparison of a pair of CHECK frames (R324). -/
def checkPair (own peer : Check) (s : State) : State :=
  if own.committed = true ∧ peer.committed = true then
    if own.crc = peer.crc then s
    else
      let second := match s.twl.divergedAt with
        | some t => decide (s.recd.optime - t ≤ hourMs)
        | none => false
      let s1 := raise 261 (record 8 0x6006 own.task (own.cycle % 2 ^ 32) (Nat.xor own.crc peer.crc)
        (setTwl (fun t => { t with diverges := inc32 t.diverges, divergedAt := some s.recd.optime
                                   resetDue := t.resetDue || second }) s))
      standbyDrop 0x6006 s1
  else if own.committed = peer.committed then s
  else record 8 0x6007 own.task (own.cycle % 2 ^ 32) (if own.committed then 1 else 2) s

/-- Pairs of CHECK frames of one task and cycle, compared by a STANDBY as they are complete. -/
def checkOwn (c : Check) (s : State) : State :=
  match s.twl.peerChecks.find? (fun p => decide (p.task = c.task) && decide (p.cycle = c.cycle)) with
  | some p => checkPair c p (setTwl (fun t => { t with peerChecks := t.peerChecks.filter (fun q => decide (q ≠ p)) }) s)
  | none => setTwl (fun t => { t with ownChecks := t.ownChecks ++ [c] }) s

def checkPeer (c : Check) (s : State) : State :=
  match s.twl.ownChecks.find? (fun p => decide (p.task = c.task) && decide (p.cycle = c.cycle)) with
  | some p => checkPair p c (setTwl (fun t => { t with ownChecks := t.ownChecks.filter (fun q => decide (q ≠ p)) }) s)
  | none => setTwl (fun t => { t with peerChecks := t.peerChecks ++ [c] }) s

/-- At the close of a cycle a CHECK frame is sent; a STANDBY compares (R324). -/
def twinCheck (task : Fin 8) (cycle : Nat) (committed : Bool) (crc : Nat) (s : State) : State :=
  match s.twl.role with
  | .active =>
    twinSend 6 (leBytes 1 task.val ++ leBytes 1 (b2n committed) ++ leBytes 2 0 ++ leBytes 8 cycle ++ leBytes 4 crc) s
  | .standby =>
    checkOwn { task := task.val, cycle := cycle, committed := committed, crc := crc }
      (twinSend 6 (leBytes 1 task.val ++ leBytes 1 (b2n committed) ++ leBytes 2 0 ++ leBytes 8 cycle ++
        leBytes 4 crc) s)
  | _ => s

/-- The next commit releases the gate hold of a module that became ACTIVE alone (R327). -/
def twinCommitted (s : State) : State :=
  if s.twl.releaseAtCommit then twinHold false (setTwl (fun t => { t with releaseAtCommit := false }) s) else s

/-- A bit of the shared-buffer map is set by every write of `n` octets to its page (R504). -/
def markShared (a n : Nat) (s : State) : State :=
  let first := (a - 0x0200100000) / 65536
  let last := (a + n - 1 - 0x0200100000) / 65536
  if n = 0 ∨ a < 0x0200100000 ∨ 0x0200900000 ≤ a then s
  else
    setTwl (fun t => { t with shared := (List.range (last - first + 1)).foldl (fun m k =>
      if first + k ∈ m then m else m ++ [first + k]) t.shared }) s

end Sys2Proof.Machine
end

