-- ==== Sys2Proof/Machine/CysOps.lean ====
section
/-! DEFINITION. The cycle sequencer's operations: the release grid (R144, R145), latches (R146-R148, R163, R164),
commits and postings (R149, R150), closing cycles (R151, R156), and stopping (R56). -/

namespace Sys2Proof.Machine

/-- Base of the voted shared buffers in the lane view (R19). -/
def sharedBase : Nat := 0x0200100000

/-- Size of the voted shared buffers. -/
def sharedSize : Nat := 0x800000

/-- Read octets of the voted region's memory. -/
def vread (s : State) (a n : Nat) : List Byte := memRead s.vmem a n

/-- The sequencer, or another unit, writes octets of the voted region's memory; exclusive reservations on what it
writes are lost (R128). -/
def vwrite (a : Nat) (bs : List Byte) (s : State) : State :=
  markShared a bs.length { s with
    vmem := memWrite s.vmem a bs
    vrc := { s.vrc with bufResv := s.vrc.bufResv.filter (fun r =>
      !(decide (a < 16 * r.2 + 16) && decide (16 * r.2 < a + bs.length))) } }

/-- The configuration of a task in the running image. -/
def taskCfg (s : State) (n : Fin 8) : Option TaskCfg :=
  match s.cys.app with
  | some a => a.tasks[n]
  | none => none

/-- One task changed. -/
def setTask (n : Fin 8) (f : Task → Task) (s : State) : State :=
  { s with cys := { s.cys with tasks := vmod s.cys.tasks n f } }

/-- Every task changed. -/
def mapTasks (f : Task → Task) (s : State) : State :=
  { s with cys := { s.cys with tasks := s.cys.tasks.map f } }

/-- Gap length G in µs (R145). -/
def gapLen (s : State) : Nat := match s.cys.app with | some a => a.gapLen | none => 0

/-- The tasks the running image configures, in ascending order. -/
def configured (s : State) : List (Fin 8) := (allFin 8).filter (fun n => (taskCfg s n).isSome)

/-- The shortest period, k of the lowest-numbered configured task (R143: periods are harmonic). -/
def kMin (s : State) : Nat :=
  match configured s with
  | [] => 1
  | n :: _ => match taskCfg s n with | some c => max 1 c.period | none => 1

/-- The tick the module's grid has reached: ⌊(t − δ) / 250,000 ns⌋ (R144, R325). -/
def tickNow (s : State) : Int := (s.tim.ns - s.cys.delta) / 250000

/-- The next tick that releases a task, after the present one. -/
def nextRelease (s : State) : Int := (tickNow s / kMin s + 1) * kMin s

/-- The next gap warning, as a network time in ns (R145). -/
def nextWarn (s : State) : Int := nextRelease s * 250000 + s.cys.delta - (gapLen s + 4) * 1000

/-- An open cycle (R151). -/
def CycState.isOpen : CycState → Bool
  | .latch | .run | .held | .commit | .overrun => true
  | _ => false

/-- CYS_STAT.OPEN. -/
def openMask (s : State) : BitVec 8 :=
  (allFin 8).foldl (fun m n => putBit m n.val (s.cys.tasks[n]).state.isOpen) 0

/-- Flags of the input image header (R147). -/
def headerFlags (s : State) (t : Task) (fresh late : Bool) : Nat :=
  b2n s.tim.timeLocal + 2 * b2n s.tim.uncert + 4 * b2n s.clk.coast + 8 * b2n t.step + 16 * b2n fresh +
    32 * b2n late + 64 * b2n t.first

/-- Elapsed µs since the previous executed latch (R147 DT). -/
def headerDt (s : State) (t : Task) : Nat :=
  if t.firstFiring then 0
  else match t.lastLatch with
    | some e => min 0xFFFFFFFF (s.tim.elapsed.toNat / 1000 - e / 1000)
    | none => 0

/-- The 64 octets of the input image header (R147). -/
def headerBytes (s : State) (t : Task) (fresh late : Bool) : List Byte :=
  let (sec, ns) := splitNs t.relNs
  let edges (m : BitVec 48) : Nat := if t.firstFiring then 0 else m.toNat
  leBytes 8 t.cycle ++ leBytes 4 ns ++ leBytes 6 sec ++ leBytes 2 (headerFlags s t fresh late) ++
    leBytes 4 t.count ++ leBytes 4 (headerDt s t) ++ leBytes 2 (min 0xFFFF t.skipNow) ++ leBytes 2 0 ++
    leBytes 8 (bankFiltered s).toNat ++ leBytes 8 (edges t.rise) ++ leBytes 8 (edges t.fall) ++ leBytes 8 0

/-- An address in the Xenex receive area (R290). -/
def inXnRx (a : Nat) : Bool := decide (0x0200059000 ≤ a) && decide (a < 0x020005C000)

/-- Base of the block a latch or commit list entry names (R169). -/
def listBase (kind : Nat) : Nat :=
  if kind = 1 then 0x0200050000 else if kind = 2 then 0x0200060000 else sharedBase

/-- One latch list entry copied into the input image (R146); the consuming task takes Xenex data from the last
complete values (R163). -/
def latchEntry (consumer : Bool) (inImg : Nat) (e : ListEntry) (s : State) : State :=
  let src := listBase e.kind + e.src
  let bs := if consumer && decide (e.kind = 1) then memRead s.cys.xnLast src e.length else vread s src e.length
  let dst := sharedBase + inImg + 0x40 + e.dst
  bwCopy src dst e.length (vwrite dst bs s)

/-- The Xenex side of a latch (R163, R164): the state after it, XN_FRESH and XN_LATE. -/
def latchXenex (n : Fin 8) (c : TaskCfg) (s : State) : State × Bool × Bool :=
  match s.cys.app with
  | none => (s, false, false)
  | some a =>
    if a.xnTask = some n then
      let rel := (s.cys.tasks[n]).cycle * c.period * 250
      if a.xnMacro ≠ 0 ∧ rel % a.xnMacro = 0 then
        let ok := s.cys.xnStarted && s.cys.xnComplete
        let s1 := if ok then { s with cys := { s.cys with
            xnLast := s.vmem.filter (fun x => inXnRx x.1), xnLateLast := false } }
          else raise 300 (record 9 0x8005 n.val ((s.cys.tasks[n]).cycle % 2 ^ 32) 0
            { s with cys := { s.cys with xnLateLast := true, xnLateCount := inc32 s.cys.xnLateCount } })
        ({ s1 with cys := { s1.cys with xnStarted := false, xnComplete := false } }, ok, !ok)
      else (s, false, s.cys.xnLateLast)
    else (s, false, false)

/-- Octets of a task's input image: the header and its latch list (R146, R323). -/
def inputSize (c : TaskCfg) : Nat := 64 + (c.latchList.map (fun e => e.length)).foldl (fun a b => a + b) 0

/-- The input image as the latch fills it: octets from the start of the header to the last destination. -/
def inputSpan (c : TaskCfg) : Nat := c.latchList.foldl (fun m e => max m (64 + e.dst + e.length)) 64

/-- A module that follows the active's cycles: STANDBY, or integrating from phase 3 on (R322, R504). -/
def follows (s : State) : Bool :=
  decide (s.twl.role = .standby) || (decide (s.twl.role = .integrating) && decide (3 ≤ s.twl.phase))

/-- The active streams a latched image as INPUT frames of at most 4,080 image octets (R323). -/
def sendInput (n : Fin 8) (cycle off : Nat) : Nat → List Byte → State → State
  | 0, _, s => s
  | k + 1, bs, s =>
    if bs = [] then s
    else
      sendInput n cycle (off + 4080) k (bs.drop 4080)
        (twinSend 3 (leBytes 1 n.val ++ leBytes 3 0 ++ leBytes 8 cycle ++ leBytes 4 off ++ bs.take 4080) s)

/-- The image of the active for a cycle, where every octet of it has arrived (R322). -/
def peerImage (n : Fin 8) (c : TaskCfg) (s : State) : Option InputImage :=
  s.twl.inputs.find? (fun i => decide (i.task = n.val) && decide (i.cycle = (s.cys.tasks[n]).cycle) &&
    decide (inputSpan c ≤ i.got))

/-- Octets of the active's image that have not arrived. -/
def missingInput (n : Fin 8) (c : TaskCfg) (s : State) : Nat :=
  match s.twl.inputs.find? (fun i => decide (i.task = n.val) && decide (i.cycle = (s.cys.tasks[n]).cycle)) with
  | some i => inputSpan c - i.got
  | none => inputSpan c

/-- The receive slots of the LNC that a task's latch list reads (R344). -/
def slotsLatched (c : TaskCfg) : BitVec 16 :=
  (List.range 16).foldl (fun m k =>
    putBit m k (c.latchList.any (fun e => decide (e.kind = 2) && decide (e.src < 0x4000 + 0x800 * (k + 1)) &&
      decide (0x4000 + 0x800 * k < e.src + e.length)))) 0

/-- The own latch: header and latch list (R146-R148). -/
def ownLatch (n : Fin 8) (c : TaskCfg) (s : State) : State :=
  let (s1, fresh, late) := latchXenex n c s
  let s2 := vwrite (sharedBase + c.inImg) (headerBytes s1 (s1.cys.tasks[n]) fresh late) s1
  let s3 := c.latchList.foldl
    (fun st e => latchEntry (decide ((s.cys.app.bind (fun a => a.xnTask)) = some n)) c.inImg e st) s2
  let s4 := setLnc (fun l => { l with latched := l.latched ||| slotsLatched c }) s3
  if s4.twl.role = .active then
    sendInput n (s4.cys.tasks[n]).cycle 0 2064 (vread s4 (sharedBase + c.inImg) (inputSpan c)) s4
  else s4

/-- The latch of a task begins (R146-R148): of its own inputs, or of the active's image; an incomplete image makes
the standby INTEGRATING (R323). -/
def beginLatch (n : Fin 8) (s : State) : State :=
  match taskCfg s n with
  | none => s
  | some c =>
    let s1 :=
      if follows s then
        match peerImage n c s with
        | some i =>
          setTwl (fun t => { t with inputs := t.inputs.filter (fun x => !decide (x = i)) })
            (vwrite (sharedBase + c.inImg) (memRead i.cells 0 (inputSpan c)) s)
        | none =>
          if s.twl.role = .standby then
            ownLatch n c (standbyDrop 0x6008 (record 8 0x6008 n.val (missingInput n c s) 0 s))
          else s
      else ownLatch n c s
    setTask n (fun x =>
      { x with state := .latch, rise := 0, fall := 0, first := false, firstFiring := false, step := false
               skipNow := 0, count := (x.count + 1) % 2 ^ 32, cycles := inc32 x.cycles, execCounts := 0
               lastLatch := some s1.tim.elapsed.toNat }) s1

/-- The execution time of the cycle ends with the done write (R506). -/
def noteExec (t : Task) : Task :=
  let us := t.execCounts / 500
  { t with execLast := us, execMax := max t.execMax us, lastUs := us, maxUs := max t.maxUs us }

/-- What CHECK covers: the committed octets of the output image in the order of the commit list, then the glaze
entries (R324). -/
def checkCrc (s : State) (n : Fin 8) (glaze : Nat) : Nat :=
  match taskCfg s n with
  | some c =>
    (crc32c (c.commitList.flatMap (fun e => vread s (sharedBase + c.outImg + e.src) e.length) ++
      vread s (sharedBase + c.glaze) (16 * glaze))).toNat
  | none => 0

/-- A cycle closes (R156); a commit with `glaze` entries was made, or none. The CHECK frame goes out (R324). -/
def closeCycle (n : Fin 8) (glaze : Option Nat) (s : State) : State :=
  let crc := match glaze with
    | some k => checkCrc s n k
    | none => 0
  twinCheck n (s.cys.tasks[n]).cycle glaze.isSome crc
    (setTask n (fun t => { t with state := .idle, closedOnce := true }) s)

/-- Time a commit and its posting take, ns (R149, R150). -/
def commitNs (s : State) (q : Fin 8 × Nat) : Int :=
  match taskCfg s q.1 with
  | some c => (c.commit * 1000 + q.2 * 100 : Nat)
  | none => 0

/-- The next commit of the queue that is not held starts, when none is in progress (R149). -/
def startCommit (s : State) : State :=
  match s.cys.commit, s.cys.posting, s.cys.commitQ with
  | none, none, q :: rest =>
    if (s.cys.tasks[q.1]).state = .held then s
    else { s with cys := { s.cys with commit := some q, commitQ := rest } }
  | _, _, _ => s

/-- A done cycle joins the queue: COMMIT where its start lies within the window and nothing before it is held,
otherwise HELD (R149, R156). -/
def queueCommit (n : Fin 8) (glaze : Nat) (s : State) : State :=
  let now := s.tim.elapsed
  let start := if s.cys.commit = none ∧ s.cys.posting = none ∧ s.cys.commitQ = [] then now
    else max now s.cys.busyUntil
  let len := commitNs s (n, glaze)
  let held := s.cys.commitQ.any (fun q => decide ((s.cys.tasks[q.1]).state = .held))
  let fits := decide (s.tim.ns + (start - now) + len ≤ nextWarn s)
  let s1 := { s with cys := { s.cys with commitQ := s.cys.commitQ ++ [(n, glaze)] } }
  if fits && !held then
    startCommit (setTask n (fun t => { t with state := .commit })
      { s1 with cys := { s1.cys with busyUntil := start + len } })
  else setTask n (fun t => { t with state := .held }) s1

/-- Held commits start when the latches of a tick end, in queue order (R149). -/
def releaseHeld (s : State) : State :=
  let q := s.cys.commitQ
  let now := s.tim.elapsed
  let s1 := q.foldl (fun t x =>
    if (t.cys.tasks[x.1]).state = .held then
      setTask x.1 (fun y => { y with state := .commit })
        { t with cys := { t.cys with busyUntil := max now t.cys.busyUntil + commitNs t x } }
    else t) s
  startCommit s1

/-- A done write of a task (R149, R156): `glaze` 0-64, or above 64 for a cycle that ends without commit. -/
def cycleDone (n : Fin 8) (glaze : Nat) (s : State) : State :=
  match (s.cys.tasks[n]).state with
  | .run =>
    let s1 := setTask n noteExec s
    if glaze ≤ 64 then queueCommit n glaze s1 else closeCycle n none s1
  | .overrun => closeCycle n none (setTask n noteExec s)
  | _ => s

/-- One commit list entry copied from the output image to its target (R149, R169). -/
def commitEntry (c : TaskCfg) (e : ListEntry) (s : State) : State :=
  let src := sharedBase + c.outImg + e.src
  if e.kind = 4 then
    bwCopy src 0x0200020020 e.length (bankCommit c.own (BitVec.ofNat 48 (leNat (vread s src 8))) s)
  else
    let dst := listBase e.kind + e.dst
    bwCopy src dst e.length (vwrite dst (vread s src e.length) s)

/-- The commit's copies take effect (R149, R346); the joining lanes' gate sets are taken over (R96). -/
def commitCopies (n : Fin 8) (s : State) : State :=
  match taskCfg s n with
  | none => s
  | some c =>
    let s1 := c.commitList.foldl (fun t e => commitEntry c e t) s
    let s2 := lncCommitted s.vmem s1
    let s3 := { s2 with rot := { s2.rot with gateWait := [] } }
    twinCommitted s3

/-- One posting entry of 16 octets (R150): posted, or rejected where the task does not own the channel. -/
def postEntry (n : Fin 8) (c : TaskCfg) (b : List Byte) (s : State) : State :=
  let ch := leAt b 10 1
  let st := leAt b 11 1
  if h : ch < 48 ∧ c.own.getLsbD ch = true ∧ st ≤ 1 then
    glazePost ⟨ch, h.1⟩ (decide (st = 1)) ((leAt b 4 6 * 1000000000 + leAt b 0 4 : Nat)) s
  else record 9 0x8006 n.val ch ((s.cys.tasks[n]).cycle % 2 ^ 32) s

/-- The first `k` entries of the task's glaze list are posted in order (R150). -/
def postEntries (n : Fin 8) (c : TaskCfg) (i : Nat) : Nat → State → State
  | 0, s => s
  | k + 1, s => postEntries n c (i + 1) k (postEntry n c (vread s (sharedBase + c.glaze + 16 * i) 16) s)

/-- The sequencer stops at once; every open cycle is abandoned, neither committed nor posted (R56, R467). Counters
since power-on and the image stay. -/
def cysStop (s : State) : State :=
  let s1 := mapTasks (fun t =>
    { t with state := if t.state = .notConfigured ∨ t.state = .stopped then t.state else .idle
             skipNext := false }) s
  { s1 with cys := { s1.cys with
      run := false, warned := false, gap := false, ack := false, waiting := false, latchQ := [], commitQ := [], commit := none
      posting := none, stepPend := none, switchGap := false, resvSafety := false, resvDump := false
      olc := if s1.cys.olc = .none then .none else .staged
      bgRunning := false, current := none, saved := Vector.replicate 9 none } }

end Sys2Proof.Machine
end

