-- ==== Sys2Proof/Machine/XenexOps.lean ====
section
/-! DEFINITION. The Xenex controller's operations: frames (R275-R281), the schedule table (R282-R285), channels and
buffers (R288-R290), node supervision (R291, R292) and bus roles (R294-R296). -/

namespace Sys2Proof.Machine

/-- The Xenex controller changed. -/
def setXn (f : Xenex → Xenex) (s : State) : State := { s with xn := f s.xn }

/-- Base of the receive area: status words, then receive data (R290). -/
def xnRx : Nat := 0x0200058000

/-- Base of the transmit area. -/
def xnTx : Nat := 0x020005C000

/-- Start of macrocycle `j`: j·M − λ, in ns of network time (R163, R280); λ is 0 with no consuming task. -/
def xnLead (s : State) : Nat := match s.cys.app with
  | some a => if a.xnTask.isSome then a.xnLead else 0
  | none => 0

/-- Number of the macrocycle that has started last (R163). -/
def xnNumber (s : State) : Int := (s.tim.ns / 1000 + xnLead s) / (max 1 s.xn.macro_ : Nat)

/-- M_max of R294. -/
def xnMax (x : Xenex) : Nat := if x.maxMacro = 0 then x.macro_ else x.maxMacro

/-! ### Frames -/

/-- A frame: header with HCRC, payload, FCS (R275-R277). -/
def xnFrame (ty flags dst src : Nat) (payload : List Byte) : List Byte :=
  let h := [BitVec.ofNat 8 (ty + 16 * flags), BitVec.ofNat 8 dst, BitVec.ofNat 8 src,
            BitVec.ofNat 8 payload.length]
  let body := h ++ [hcrc h] ++ payload
  body ++ leBytes 4 (crc32c body).toNat

/-- The LEN a frame type may have (R278). -/
def lenOk (ty len : Nat) : Bool :=
  if ty = 1 then decide (len = 24) else if ty = 2 ∨ ty = 3 then decide (len ≤ 240)
  else if ty = 4 ∨ ty = 5 then decide (12 ≤ len ∧ len ≤ 124) else if ty = 6 ∨ ty = 8 then decide (len = 8)
  else decide (ty = 7 ∧ len = 16)

/-- Is a frame copy accepted (R279)? A FOLLOWER also takes the replies of its own schedule, which go to the master
(R294). -/
def frameAccepted (x : Xenex) (f : List Byte) : Bool :=
  let ty := leAt f 0 1 % 16
  let dst := leAt f 1 1
  let len := leAt f 3 1
  decide (f.length = len + 9) && decide (hcrc (f.take 4) = f.getD 4 0) && lenOk ty len &&
    (decide (dst = 0) || decide (dst = x.addr) ||
      (decide (x.role = .follower) && decide (ty = 3) && decide (dst = x.master))) &&
    decide ((crc32c (f.take (len + 5))).toNat = leAt f (len + 5) 4)

/-- A frame leaves on both channels; `coll` says on which its echo failed (R274, R288). -/
def xnSend (ty flags dst : Nat) (payload : List Byte) (s : State) : State :=
  setXn (fun x => { x with lastTx := xnFrame ty flags dst x.addr payload, lastFrame := s.tim.elapsed }) s

/-! ### Channels (R288) -/

/-- A channel is marked down. -/
def chanDown (k : Fin 2) (why : Nat) (s : State) : State :=
  if (s.xn.chans[k]).up then
    raise 197 (record 6 0x400B k.val why 0
      (setXn (fun x => { x with chans := vmod x.chans k (fun c => { c with up := false, good := 0 }) }) s))
  else s

/-- An accepted copy on a channel: a channel that is not up is marked up after 16 in a row. -/
def chanGood (k : Fin 2) (s : State) : State :=
  let c := s.xn.chans[k]
  let n := c.good + 1
  let put (u : Bool) : State := setXn (fun x => { x with chans := vmod x.chans k (fun d =>
    { d with good := if u then 0 else n, noCopy := 0, up := d.up || u }) }) s
  if c.up then put false
  else if 16 ≤ n then raise 198 (record 6 0x400C k.val 0 0 (put true))
  else put false

/-- A frame of which this channel had no accepted copy, while the other had. -/
def chanMissed (k : Fin 2) (s : State) : State :=
  let n := (s.xn.chans[k]).noCopy + 1
  let s1 := setXn (fun x => { x with chans := vmod x.chans k (fun d => { d with noCopy := n, good := 0 }) }) s
  if 16 ≤ n then chanDown k 1 s1 else s1

/-- An own frame of which the echo on a channel collided or not (R274). -/
def chanEcho (k : Fin 2) (collided : Bool) (s : State) : State :=
  if collided then
    let n := (s.xn.chans[k]).collided + 1
    let s1 := setXn (fun x => { x with chans := vmod x.chans k (fun d => { d with collided := n })
                                       collOther := inc32 x.collOther }) s
    if 16 ≤ n then chanDown k 2 s1 else s1
  else setXn (fun x => { x with chans := vmod x.chans k (fun d => { d with collided := 0 }) }) s

/-- The echoes of an own frame on channels A and B. -/
def xnEcho (coll : BitVec 2) (s : State) : State :=
  chanEcho 1 (coll.getLsbD 1) (chanEcho 0 (coll.getLsbD 0) s)

/-- A copy in error on a channel (R279). -/
def chanError (k : Fin 2) (s : State) : State :=
  setXn (fun x => { x with chans := vmod x.chans k (fun d => { d with errors := inc32 d.errors, good := 0 }) }) s

/-! ### Slots and nodes -/

/-- The node of a slot, with any grant (R297). -/
def slotNode (x : Xenex) (i : Nat) : Nat :=
  match assocGet x.grants i with
  | some n => n
  | none => match x.slots[i]? with | some c => c.node | none => 0

/-- A slot that is polled: kind 1, or a granted spare. -/
def slotPolled (x : Xenex) (i : Nat) : Bool :=
  match x.slots[i]? with
  | some c => decide (c.kind = 1) || (decide (c.kind = 3) && (assocGet x.grants i).isSome)
  | none => false

/-- The indexes of the slots of a node. -/
def slotsOf (x : Xenex) (n : Nat) : List Nat :=
  (List.range x.slots.length).filter (fun i => slotPolled x i && decide (slotNode x i = n))

/-- A node number that the table of nodes has. -/
def nodeFin (n : Nat) : Option (Fin 64) := if h : n < 64 then some ⟨n, h⟩ else none

/-- Status word of a slot (R290). -/
def slotStat (s : State) (i : Nat) : Nat := leNat (vread s (xnRx + 4 * i) 4)

/-- A status word written. -/
def putStat (i w : Nat) (s : State) : State := vwrite (xnRx + 4 * i) (leBytes 4 w) s

/-- RESULT of a slot's status word. -/
def putResult (i r : Nat) (s : State) : State := putStat i (slotStat s i / 16 * 16 + r) s

/-- A node changed; NSTATE of its slots follows. -/
def setNode (n : Fin 64) (f : XNode → XNode) (s : State) : State :=
  let s1 := setXn (fun x => { x with nodes := vmod x.nodes n f }) s
  let st := (s1.xn.nodes[n]).state
  if st = (s.xn.nodes[n]).state then s1
  else (slotsOf s1.xn n.val).foldl (fun t i =>
    let w := slotStat t i
    putStat i (w / 128 * 128 + st * 16 + w % 16) t) s1

/-- The first slot of a node. -/
def firstSlot (x : Xenex) (n : Nat) : Nat := (slotsOf x n).headD 0xFFFF

/-- An accepted reply: an INTEGRATING node becomes ACTIVE, a LOST one comes back (R291). -/
def nodeReplied (n : Fin 64) (s : State) : State :=
  let d := s.xn.nodes[n]
  let s1 := setNode n (fun y => { y with heard := true, miss := 0, driftRun := 0 }) s
  if d.state = 1 then setNode n (fun y => { y with state := 2 }) s1
  else if d.state = 3 then
    raise 195 (record 6 0x4006 n.val d.count 0 (setNode n (fun y => { y with state := 2, count := 0 }) s1))
  else s1

/-- A DRIFT mark: the eighth in a run suspends the node (R287, R291). -/
def nodeDrift (n : Fin 64) (slot : Nat) (off : Int) (s : State) : State :=
  let d := s.xn.nodes[n]
  let s1 := setNode n (fun y => { y with driftRun := min 8 (d.driftRun + 1) })
    (setXn (fun x => { x with driftCount := inc32 x.driftCount }) s)
  let due := match d.driftAt with
    | some t => decide (t + 1000 ≤ s.recd.optime)
    | none => true
  let s2 := if due then record 6 0x4008 n.val slot (int32 off)
      (setNode n (fun y => { y with driftAt := some s.recd.optime }) s1) else s1
  if 8 ≤ d.driftRun + 1 ∧ (d.state = 2 ∨ d.state = 3) then
    raise 196 (record 6 0x4009 n.val slot 0 (setNode n (fun y => { y with state := 4, count := 0, probes := 0 }) s2))
  else s2

/-- A LATE_EDGE mark (R287, R309). -/
def nodeLate (n : Fin 64) (slot : Nat) (off : Int) (s : State) : State :=
  let d := s.xn.nodes[n]
  let s1 := raise 201 (setNode n (fun y => { y with late := satAdd 4095 y.late 1 })
    (setXn (fun x => { x with lateCount := inc32 x.lateCount }) s))
  let due := match d.lateAt with
    | some t => decide (t + 1000 ≤ s.recd.optime)
    | none => true
  if due then record 6 0x4007 n.val slot (int32 off)
    (setNode n (fun y => { y with lateAt := some s.recd.optime }) s1) else s1

/-- A macrocycle ends for a node: three in a row without a reply make an ACTIVE node LOST (R291). -/
def nodeMacroEnd (n : Fin 64) (s : State) : State :=
  let d := s.xn.nodes[n]
  if d.state = 2 ∧ slotsOf s.xn n.val ≠ [] then
    if d.heard then setNode n (fun y => { y with heard := false }) s
    else
      let m := satAdd 255 d.miss 1
      let s1 := setNode n (fun y => { y with miss := m }) s
      if 3 ≤ m then
        raise 194 (record 6 0x4005 n.val (firstSlot s.xn n.val) d.lastResult
          (setNode n (fun y => { y with state := 3, count := 0 }) s1))
      else s1
  else if d.state = 3 then
    setNode n (fun y => { y with count := inc32 y.count, heard := false, miss := satAdd 255 y.miss 1 }) s
  else setNode n (fun y => { y with heard := false }) s

/-- A macrocycle begins for a node: INTEGRATING ends with the third of the epoch; a SUSPENDED node's are counted;
one that rejoined is polled again (R291, R292). -/
def nodeMacroBegin (n : Fin 64) (s : State) : State :=
  let d := s.xn.nodes[n]
  if d.state = 1 then
    let c := d.count + 1
    if 3 ≤ c then setNode n (fun y => { y with state := 2, count := 0, miss := 0 }) s
    else setNode n (fun y => { y with count := c }) s
  else if d.state = 4 then setNode n (fun y => { y with count := inc32 y.count }) s
  else if d.state = 2 then setNode n (fun y => { y with probes := 0 }) s
  else s

/-- A new epoch: grants return, every node but UNCONF integrates (R291). -/
def newEpoch (e : Nat) (s : State) : State :=
  let granted := s.xn.grants.map (fun g => g.2)
  let s1 := setXn (fun x => { x with epoch := e, lastEpoch := e, misNoted := false }) s
  let s2 := (allFin 64).foldl (fun t n =>
    setNode n (fun y =>
      if n.val ∈ granted then {} else if y.state = 0 then y
      else { y with state := 1, count := 0, driftRun := 0, miss := 0, probes := 0, heard := false }) t) s1
  setXn (fun x => { x with grants := [], claims := [], claimAnswer := (0, 0, 0xFFFF, 0, 0) }) s2

/-! ### Roles (R294) -/

/-- A change of bus role: XN_ROLE and interrupt 199. -/
def xnRole (r : BusRole) (cause : Nat) (s : State) : State :=
  if s.xn.role = r then s
  else
    raise 199 (record 6 0x4001 s.xn.role.code r.code cause
      (setXn (fun x => { x with role := r, coldSending := false, slot := none, req := .none
                                contendColl := if r = .listen ∨ r = .master ∨ r = .off then 0 else x.contendColl }) s))

/-- The answer the dictionary owed to a node's request (R303). -/
def nodeOwed (n : Nat) (a : Answer) : List NodeReq → List NodeReq
  | [] => []
  | r :: rs => if r.node = n ∧ r.answer = none then { r with answer := some a } :: rs else r :: nodeOwed n a rs

/-- The gateway transfer ends (R308, R311): ACYC_DONE and the requester's answer. A GDP READ takes the block it asked
for. -/
def acycEnd (a : Acyc) (r : Answer) (s : State) : State :=
  let r1 := match r, a.by_ with
    | .done d, .gdp _ => .done ((d.drop a.off).take 1024)
    | x, _ => x
  reply a.by_ r1 (raise 202 (setXn (fun x =>
    { x with acyc := none
             nodeReqs := match a.by_ with | .node n => nodeOwed n.toNat r1 x.nodeReqs | _ => x.nodeReqs }) s))

/-- The master gives a transfer up (R302): XN_ACYC_ABORT and the code to the requester. -/
def acycAbort (code : Nat) (s : State) : State :=
  match s.xn.acyc with
  | none => s
  | some a =>
    acycEnd a (.abort code) (record 6 0x400F a.node code (a.index * 256 + a.sub)
      (setXn (fun x => { x with gwAbort := code }) s))

/-- The module leaves its operating state, or PD8 is switched off: OFF (R294). -/
def busLeave (s : State) : State :=
  let s1 := acycAbort 0x05040000 (xnRole .off 0 s)
  setXn (fun x => { x with slot := none, req := .none, inputsLeft := [], dropped := false, acyc := none
                           nodeReqs := [], tko := 0, lastTko := false }) s1

/-- A step of network time (R293): the slot in progress completes, the rest of the macrocycle is dropped. -/
def xnStep (s : State) : State :=
  if s.xn.role = .master ∨ s.xn.role = .follower then
    let rest := (List.range s.xn.slots.length).filter (fun i => decide (s.xn.nextSlot ≤ i))
    setXn (fun x => { x with dropped := true }) (rest.foldl (fun t i => putResult i 10 t) s)
  else s

/-! ### The schedule table (R282-R285) -/

/-- A slot entry of 16 octets. -/
def parseSlot (b : List Byte) : XSlot :=
  { start := leAt b 0 4, kind := leAt b 4 1, node := leAt b 5 1, tx := leAt b 6 1, rx := leAt b 7 1
    txOff := leAt b 8 2, rxOff := leAt b 10 2, guard := leAt b 12 1, input := decide (leAt b 13 1 % 2 = 1) }

/-- The slot entries of a table. -/
def parseSlots (t : List Byte) : List XSlot :=
  (List.range (leAt t 6 2)).map (fun i => parseSlot ((t.drop (32 + 16 * i)).take 16))

/-- Guard of a slot, ns. -/
def XSlot.guardNs (c : XSlot) : Nat := if c.guard = 0 then 1000 else c.guard * 40

/-- Duration of a frame with a payload, ns (R275). -/
def frameNs (len : Nat) : Nat := 3840 + 320 * len

/-- Request and reply time of a slot, ns (R284). -/
def XSlot.reqNs (c : XSlot) : Nat := if c.kind = 2 then 43520 else if c.kind = 4 then 6400 else frameNs c.tx

def XSlot.repNs (c : XSlot) : Nat := if c.kind = 2 then 43520 else if c.kind = 4 then 8960 else frameNs c.rx

/-- End of a slot after T_m, ns. -/
def XSlot.endNs (c : XSlot) : Nat := c.start * 20 + c.reqNs + 4100 + c.guardNs + c.repNs + 400

/-- The fields of an entry are valid by themselves (R283). -/
def slotValid (b : List Byte) : Bool :=
  let c := parseSlot b
  let data := decide (c.kind = 1) || decide (c.kind = 3)
  decide (600 ≤ c.start) && decide (1 ≤ c.kind ∧ c.kind ≤ 4) &&
    (if c.kind = 1 then decide (1 ≤ c.node ∧ c.node ≤ 62) else if c.kind = 2 then decide (c.node ≤ 62)
      else decide (c.node = 0)) &&
    (!data || (decide (c.tx ≤ 240) && decide (c.rx ≤ 240) && decide (c.txOff % 16 = 0) &&
      decide (c.txOff + c.tx ≤ 0x4000) && decide (c.rxOff % 16 = 0) && decide (0x1000 ≤ c.rxOff) &&
      decide (c.rxOff + c.rx ≤ 0x4000))) &&
    (decide (c.guard = 0) || decide (5 ≤ c.guard ∧ c.guard ≤ 45)) &&
    decide (leAt b 13 1 ≤ 1) && decide (leAt b 14 2 = 0)

/-- Slots in order, none beginning before the previous one ends, the last ending by M (R284). -/
def slotsOrdered (m : Nat) : Nat → List XSlot → Bool
  | last, [] => decide (last ≤ m)
  | last, c :: r => decide (last ≤ c.start * 20) && slotsOrdered m c.endNs r

/-- The receive ranges of polled slots do not overlap (R284). -/
def rangesApart : List XSlot → Bool
  | [] => true
  | c :: r =>
    (r.all (fun d => !((decide (c.kind = 1) || decide (c.kind = 3)) && (decide (d.kind = 1) || decide (d.kind = 3)) &&
      decide (c.rxOff < d.rxOff + d.rx) && decide (d.rxOff < c.rxOff + c.rx)))) && rangesApart r

/-- The result code of a table (0x2511 subindex 3). -/
def tableCheck (t : List Byte) : Nat :=
  let n := leAt t 6 2
  let slots := parseSlots t
  let claim := leAt t 12 2
  if t.length ≠ 32 + 16 * n ∨ (crc32c (t.take 28 ++ t.drop 32)).toNat ≠ leAt t 28 4 then 16
  else if t.take 4 ≠ ascii "XSC1" ∨ leAt t 4 2 ≠ 1 ∨ 1024 < n ∨ leAt t 8 4 < 250 ∨ 1000000 < leAt t 8 4 ∨
      ((t.drop 14).take 14).any (fun b => decide (b ≠ 0)) = true then 17
  else if (List.range n).all (fun i => slotValid ((t.drop (32 + 16 * i)).take 16)) = false then 18
  else if slotsOrdered (leAt t 8 4 * 1000) 0 slots && rangesApart slots &&
      (decide (claim = 0xFFFF) || decide ((slots[claim]?.map (fun c => c.kind)) = some 4)) &&
      decide ((slots.filter (fun c => decide (c.kind = 4))).length ≤ 1) then 1
  else 19

/-- The table in use and its window, as FIRING loads them (R285). -/
def loadTable (s : State) : State :=
  let t := s.xn.stored
  if t = [] then setXn (fun x => { x with slots := [], macro_ := 0, claimSlot := 0xFFFF, schedCrc := 0 }) s
  else setXn (fun x => { x with slots := parseSlots t, macro_ := leAt t 8 4, claimSlot := leAt t 12 2
                                schedCrc := leAt t 28 4 }) s

/-- The first failed condition of R285, or 1. -/
def startCheck (s : State) : Nat :=
  let x := s.xn
  let a := s.cys.app
  if x.stored = [] then 2
  else if (match a with | some i => i.xnTask.isSome && decide (i.xnMacro ≠ x.macro_) | none => false) then 3
  else if (match a with | some i => decide (i.schedCrc ≠ 0) && decide (i.schedCrc ≠ x.schedCrc) | none => false) then 4
  else if s.pwr.on.getLsbD 8 = false ∨ s.clk.clken0.getLsbD 5 = false then 5
  else if x.slots.any (fun c => (decide (c.kind = 1) || decide (c.kind = 2)) && decide (c.node = x.addr)) then 6
  else if LoadTarget.xenex ∉ s.boot.loadOk then 7
  else 1

/-- The bus starts at the end of FIRING (R285, R294): the nodes the table names integrate. -/
def busStart (s : State) : State :=
  let c := startCheck s
  let s1 := setXn (fun x => { x with startResult := c, master := 0, epoch := 0, lastEpoch := 0, grants := [] }) s
  if c = 1 then
    let named := (s1.xn.slots.filter (fun y => decide (y.kind = 1))).map (fun y => y.node)
    let s2 := (allFin 64).foldl (fun t n =>
      setNode n (fun y => if n.val ∈ named then { y with state := 1, count := 0 } else { y with state := 0 }) t) s1
    let s3 := (List.range s2.xn.slots.length).foldl (fun t i =>
      putStat i ((slotStat t i / 16 * 16) % 2 ^ 7 + (if slotPolled t.xn i then 0 else 9)) t) s2
    xnRole .listen 0 s3
  else s1

end Sys2Proof.Machine
end

