-- ==== Sys2Proof/Machine/SafeOps.lean ====
section
/-! DEFINITION. What the twin link, the Kiln mailbox and the line-network controller do when the module leaves a RUN
state or WIDE (R27, R327, R398). -/

namespace Sys2Proof.Machine

/-- The record staged in KLM goes: PEND, VERD and APPLIED clear (R396, R397). -/
def klmClear (s : State) : State :=
  { s with kiln := { s.kiln with staged := none, stage := Vector.replicate 8 0, verdict := Vector.replicate 8 0
                                 verd := false, applied := false } }

/-- A staged SAFETY write is refused with an abort code (R397, R398). -/
def klmRefuse (code : Nat) (s : State) : State :=
  match s.kiln.staged with
  | none => s
  | some g =>
    let s1 := record 0 0x0043 (g.index * 256 + g.sub) code g.seq
      (klmClear { s with kiln := { s.kiln with lastRefusal := code } })
    match g.by_ with
    | some b => reply b (.abort code) s1
    | none => s1

/-- A record that is pending when the module leaves its RUN state is discarded (R398). -/
def klmDiscard (s : State) : State := klmRefuse 0x08000022 s

/-- The twin pair ends (R27, R327); the state entered is told by the FAULT frame. -/
def twinLeave (cause : Nat) (new : Nat) (s : State) : State := twinHold false (twinEnd cause new s)

end Sys2Proof.Machine
end

