-- ==== Sys2Proof/Machine/LaneOps.lean ====
section
/-! DEFINITION. Lanes and the vote: comparison of beats (R45-R48), exclusion (R49), absence of a majority (R52),
quarantine and retirement (R58-R61), voting mode and module state (R23, R26, R55, R56), and leaving a RUN state. -/

namespace Sys2Proof.Machine

/-- The state of a lane. -/
def laneState (s : State) (l : Fin 4) : LaneState := (s.vrc.lanes[l]).state

/-- The lanes in a state, in ascending order. -/
def lanesIn (s : State) (p : LaneState → Bool) : List (Fin 4) := (allFin 4).filter (fun l => p (laneState s l))

/-- The ACTIVE lanes. -/
def activeLanes (s : State) : List (Fin 4) := lanesIn s (fun x => decide (x = .active))

/-- The WEDGED lane, if there is one (R82: at most one). -/
def wedgedLane (s : State) : Option (Fin 4) := (lanesIn s (fun x => decide (x = .wedged))).head?

/-- A lane is WEDGING or WEDGED: the spare of the mirror voter (R83). -/
def spareLane (s : State) : Option (Fin 4) :=
  (lanesIn s (fun x => decide (x = .wedging) || decide (x = .wedged))).head?

/-- One lane changed. -/
def setLane (l : Fin 4) (f : Lane → Lane) (s : State) : State :=
  { s with vrc := { s.vrc with lanes := vmod s.vrc.lanes l f } }

/-- Every lane changed. -/
def mapLanes (f : Lane → Lane) (s : State) : State :=
  { s with vrc := { s.vrc with lanes := s.vrc.lanes.map f } }

/-- The module is in a RUN state. -/
def isRun (s : State) : Bool := decide (s.mod.state = .run2oo3) || decide (s.mod.state = .run2oo2)

/-- The module is in a RUN state or in WIDE. -/
def isRunOrWide (s : State) : Bool := isRun s || decide (s.mod.state = .wide)

/-- A change of module state (R26): STATE_CHANGE, the count of 0x2000 subindex 4, and the cause of an entry into
SAFE-HOLD or SERVICE. Entering the present state again is no change. -/
def setModState (new : ModState) (cause : Nat) (s : State) : State :=
  if s.mod.state = new then s
  else
    record 0 0x0010 s.mod.state.code new.code cause
      { s with mod :=
        { s.mod with
          state := new
          changes := inc32 s.mod.changes
          cause := if new = .safeHold ∨ new = .service then cause else s.mod.cause } }

/-- A change of voting mode or SUBST (R56): VOTE_MODE and interrupt 34. -/
def setVote (mode : VoteMode) (subst : Bool) (cause : Nat) (s : State) : State :=
  if s.vrc.mode = mode ∧ s.vrc.subst = subst then s
  else
    raise 34 (record 1 0x1008 (s.vrc.mode.code + 8 * b2n s.vrc.subst) (mode.code + 8 * b2n subst) cause
      { s with vrc := { s.vrc with mode := mode, subst := subst } })

/-- Content of a comparator group of a beat (R45). -/
def beatGroup (b : Beat) (g : Nat) : BitVec 16 :=
  if g < 8 then b.data.extractLsb' (16 * g) 16
  else if g = 8 then b.be
  else if g = 9 then b.addr.extractLsb' 0 16
  else if g = 10 then b.addr.extractLsb' 16 16
  else if g = 11 then (b.attr.extractLsb' 0 8) ++ (b.addr.extractLsb' 32 8)
  else b.attr.extractLsb' 8 16

/-- The groups in which two beats differ (R46). -/
def beatDiff (a b : Beat) : BitVec 13 :=
  (List.range 13).foldl (fun m g => putBit m g (decide (beatGroup a g ≠ beatGroup b g))) 0

/-- All 13 groups: a silent lane (R47). -/
def allGroups : BitVec 13 := 0x1FFF

/-- The groups in which two lanes' inputs differ; a silent lane differs in all (R47). -/
def inputDiff : LaneInput → LaneInput → BitVec 13
  | .beat a, .beat b => beatDiff a b
  | _, _ => allGroups

/-- The cause code of VRC_EXCL for a lane that differs. -/
def inputCause : LaneInput → Nat
  | .beat _ => 1
  | .mismatch _ _ => 2
  | .memUe _ => 3

/-- The event code of a cause of VRC_EXCL. -/
def causeEvent (c : Nat) : Nat := if c = 2 then 0x1001 else if c = 3 then 0x1009 else 0x1002

/-- The beat of an input; a silent lane has none and counts as idle. -/
def inputBeat : LaneInput → Beat
  | .beat b => b
  | _ => {}

/-- What the voter decides in one aligned clock (R48). -/
inductive Verdict where
  | forward (b : Beat)
  | minority (lane : Fin 4) (cause : Nat) (groups : BitVec 13) (b : Beat)
  | noMajority (lanes : List (Fin 4)) (cause : Nat) (groups : BitVec 13) (b : Beat)
  | idle
deriving DecidableEq, Repr

/-- The majority decision of R48 over the inputs of the lanes named: three, two or one. -/
def decide3 (i : Fin 4 → LaneInput) : List (Fin 4) → Verdict
  | [a, b, c] =>
    let ab := inputDiff (i a) (i b)
    let ac := inputDiff (i a) (i c)
    let bc := inputDiff (i b) (i c)
    if ab = 0 ∧ ac = 0 then .forward (inputBeat (i a))
    else if bc = 0 then .minority a (inputCause (i a)) ab (inputBeat (i b))
    else if ac = 0 then .minority b (inputCause (i b)) ab (inputBeat (i a))
    else if ab = 0 then .minority c (inputCause (i c)) ac (inputBeat (i a))
    else .noMajority [a, b, c] (inputCause (i a)) (ab ||| ac ||| bc) (inputBeat (i a))
  | [a, b] =>
    let ab := inputDiff (i a) (i b)
    if ab = 0 then .forward (inputBeat (i a))
    else .noMajority [a, b] (inputCause (i a)) ab (inputBeat (i a))
  | _ => .idle

/-- The content of VRC_EXCL. -/
def exclReg (v : Vrc) : Nat :=
  v.exGroups.toNat * 2 ^ 16 + b2n v.exNoMaj * 2 ^ 15 + v.exCause * 2 ^ 8 + v.exLanes.toNat * 4 + v.exLane

/-- The content of VRC_INJSTAT. -/
def injReg (v : Vrc) : Nat :=
  v.injPair * 2 ^ 16 + v.injKind * 2 ^ 12 + v.injGroup * 2 ^ 8 + v.injBisqLane * 16 + b2n v.injBisqOk * 2 +
    b2n v.injStartOk

/-- LKS_MMINFO of a lane. -/
def mmReg (l : Lane) : Nat := l.mmClass * 2 ^ 16 + l.mmGroups.toNat

/-- Retirement (R61): the record is written, the domain switched off, interrupt 36. -/
def retire (l : Fin 4) (test : Nat) (addr : Option Nat) (cause : Nat) (s : State) : State :=
  let s1 := setLane l (fun x =>
    { x with state := .retired, fenced := true, gate := none, held := true,
             retired := some { test := test, optime := s.recd.optime, addr := addr } }) s
  let s2 := { s1 with pwr := { s1.pwr with on := putBit s1.pwr.on (1 + l.val) false }
                      rot := { s1.rot with waiting := s1.rot.waiting.filter (fun x => decide (x ≠ l)) } }
  raise 36 (record 1 0x1006 l.val test cause s2)

/-- The 24 h of operating time of R60, in ms. -/
def transientWindow : Nat := 86400000

/-- Entry into QUARANTINE (R58-R60): fenced, gate set dropped, transient counted, retired at the third. -/
def toQuarantine (l : Fin 4) (cause : Nat) (s : State) : State :=
  let x := s.vrc.lanes[l]
  let now := s.recd.optime
  let inWin := x.transients.filter (fun t => decide (now - t ≤ transientWindow))
  let third := match x.transients with
    | [_, old] => decide (now - old ≤ transientWindow)
    | _ => false
  let s1 := setLane l (fun y =>
    { y with state := .quarantine, fenced := true, gate := none, silent := true, qCause := cause,
             transients := (now :: y.transients).take 2 }) s
  let s2 := { s1 with rot := { s1.rot with waiting := s1.rot.waiting.filter (fun z => decide (z ≠ l)) } }
  let s3 := record 1 0x1005 l.val (min 3 (1 + inWin.length)) cause s2
  if third then retire l 5 none cause s3 else s3

/-- AREF: the lane with the largest stagger, which grows with the lane number (R42, R43). -/
def arefOf (ls : List (Fin 4)) : Fin 4 := ls.foldl (fun m l => if m < l then l else m) 0

/-- A rewedge given up (R95): the outgoing lane of a swap keeps its port, its gate set and its delay line, and the
interrupts held are delivered. -/
def rewedgeDrop (s : State) : State :=
  match s.rot.rewedge with
  | none => s
  | some r =>
    let s1 := match r.out with
      | some x => setLane x (fun y => { y with fenced := false }) s
      | none => s
    let s2 := { s1 with
      vrc := { s1.vrc with aref := arefOf (activeLanes s1), heldInts := [] }
      rot := { s1.rot with rewedge := none } }
    s1.vrc.heldInts.foldl (fun t k => deliver k t) s2

/-- Wedging or rewedging of a lane fails (R95, R99): WEDGE_ABORT and interrupt 53. -/
def wedgeAbort (l : Fin 4) (why page : Nat) (s : State) : State :=
  let s1 := rewedgeDrop s
  raise 53 (record 1 0x1015 l.val why page
    { s1 with rot := { s1.rot with wPhase := 0, wCopy := 0, fifo := [], hold := false } })

/-- A bisque ends in failure of a step (R81): BISQUE_FAIL and interrupt 51. -/
def bisqueFail (step addr : Nat) (s : State) : State :=
  raise 51 (record 1 0x1013 s.rot.bLane.val step addr
    { s with rot := { s.rot with bStep := 0, bResult := 3, bFail := step } })

/-- What leaving RUN does to the rotation controller (R81, R90): the bisque is abandoned, wedging stops, no swap is
pending. -/
def rotStop (s : State) : State :=
  let s1 := match (lanesIn s (fun x => decide (x = .wedging))).head? with
    | some l => wedgeAbort l 3 0 s
    | none => s
  { s1 with rot := { s1.rot with
      due := 0, pend := false, defer := 0, starved := false, bStep := 0
      bResult := if s1.rot.bResult = 1 then 0 else s1.rot.bResult
      waiting := [], wPhase := 0, wCopy := 0, wDiffer := [], fifo := [], hold := false, rewedge := none
      gateWait := [] } }

/-- The lanes when a RUN state or WIDE is left (R52, R56, R69, R99): ports fenced, no gate set, held in lane reset;
ACTIVE, WEDGING, WEDGED and BISQUE lanes show SPARE. SPLIT lanes stay SPLIT, fenced. -/
def lanesLeave (s : State) : State :=
  mapLanes (fun x =>
    match x.state with
    | .active | .wedging | .wedged | .bisque | .spare =>
      { x with state := .spare, fenced := true, gate := none, held := true }
    | .quarantine => { x with fenced := true, gate := none }
    | .split => { x with fenced := true, gate := none, held := true }
    | .retired => x) s

/-- Every unit's part in leaving a RUN state or WIDE (R27, R52, R56, R81, R90, R178, R398): `reason` is the reason
code of the safe-state application, `new` the code of the state entered. -/
def leaveRun (reason cause new : Nat) (s : State) : State :=
  let s1 := twinLeave cause new s
  let s2 := klmDiscard (busLeave (cysStop s1))
  let s3 := banksSafe reason s2
  let s4 := lanesLeave (rotStop s3)
  let s5 := { s4 with vrc := { s4.vrc with burst := [], responses := [], heldInts := [] } }
  setVote .none false cause s5

/-- Into SAFE-HOLD from any state (R23). -/
def enterSafeHold (cause : Nat) (s : State) : State :=
  let s1 := if isRunOrWide s then leaveRun 1 cause 5 s
    else setVote .none false cause (lanesLeave (banksSafe 1 s))
  setModState .safeHold cause s1

/-- Into SERVICE from a RUN state or from FIRING (R23). -/
def enterService (cause : Nat) (s : State) : State :=
  let s1 := if isRunOrWide s then leaveRun 1 cause 2 s else s
  setModState .service cause s1

/-- VRC_EXCL and its companions take the event of an aligned clock. -/
def noteExcl (groups : BitVec 13) (noMaj : Bool) (cause : Nat) (lanes : List (Fin 4)) (lane : Nat) (b : Beat)
    (s : State) : State :=
  { s with vrc := { s.vrc with
      exGroups := groups, exNoMaj := noMaj, exCause := cause
      exLanes := if noMaj then lanes.foldl (fun m l => putBit m l.val true) 0 else 0
      exLane := if noMaj then 0 else lane
      exFrc := s.tim.frc, exAddr := b.addr, exAttr := b.attr } }

/-- No majority (R52): nothing is forwarded, bursts are aborted, safe states, SAFE-HOLD. -/
def noMajority (lanes : List (Fin 4)) (cause : Nat) (groups : BitVec 13) (b : Beat) (s : State) : State :=
  let code := if s.vrc.mode = .oo3 then 0x1003 else 0x1004
  let s1 := noteExcl groups true cause lanes 0 b s
  let s2 := record 1 code (exclReg s1.vrc) (b.addr.toNat % 2 ^ 32) (s1.tim.frc.toNat % 2 ^ 32) s1
  enterSafeHold code s2

/-- A rewedge in progress when a lane leaves the vote (R95): a swap becomes a substitution. -/
def rewedgeAfterLoss (l : Fin 4) (s : State) : State :=
  match s.rot.rewedge with
  | none => s
  | some r =>
    match r.out with
    | none => s
    | some x =>
      if l = x then { s with rot := { s.rot with rewedge := some { r with out := none, excluded := some x } } }
      else
        let g := (s.vrc.lanes[l]).gate.getD r.gate
        setLane x (fun y => { y with fenced := false })
          { s with rot := { s.rot with rewedge := some { r with out := none, excluded := some l, gate := g } } }

/-- Exclusion of the minority lane in 2oo3 (R49, R53, R56): quarantine, gate set disconnected, 2oo2 with SUBST = 1
where a WEDGED spare is present. -/
def excludeLane (l : Fin 4) (cause : Nat) (groups : BitVec 13) (b : Beat) (s : State) : State :=
  let ev := causeEvent cause
  let s1 := rewedgeAfterLoss l (noteExcl groups false cause [] l.val b s)
  let s2 := { s1 with vrc := { s1.vrc with xcount := inc32 s1.vrc.xcount }
                      rot := { s1.rot with vacant := some l, defer := 0, starved := false } }
  let s3 := raise 32 (record 1 0x1002 (exclReg s2.vrc) (b.addr.toNat % 2 ^ 32) (s2.tim.frc.toNat % 2 ^ 32) s2)
  let s4 := toQuarantine l ev s3
  let subst := (wedgedLane s4).isSome
  let s5 := setVote .oo2 subst ev s4
  if subst then s5 else setModState .run2oo2 ev s5

/-- The marks a silent lane leaves (R38, R40, R72): LKS_MMINFO, the event and interrupt 33. -/
def noteSilence (l : Fin 4) (i : LaneInput) (s : State) : State :=
  match i with
  | .beat _ => s
  | .mismatch c g =>
    let s1 := setLane l (fun x => { x with silent := true, fenced := true, mmClass := c.toNat, mmGroups := g }) s
    raise 33 (record 1 0x1001 l.val (c.toNat * 2 ^ 16 + g.toNat) (s1.tim.frc.toNat % 2 ^ 32) s1)
  | .memUe a =>
    let cls := if a.toNat < 2 ^ 32 then 6 else 5
    let s1 := setLane l (fun x => { x with silent := true, fenced := true, mmClass := cls, mmGroups := 0 }) s
    raise 33 (record 1 0x1009 l.val (a.toNat % 2 ^ 32) (a.toNat / 2 ^ 32) s1)

/-- What a verdict does to the lanes; the beat to forward, if any. -/
def applyVerdict (v : Verdict) (s : State) : Option Beat × State :=
  match v with
  | .forward b => (some b, s)
  | .minority l c g b => (some b, excludeLane l c g b s)
  | .noMajority ls c g b => (none, noMajority ls c g b s)
  | .idle => (none, s)

/-- The vote of one aligned clock over the ACTIVE lanes (R48), the silent ones noted first. The lane of 1oo1 is SPARE:
when it falls silent its beats cease, and R54 and R59 name no other state for it (log 22). -/
def voteClock (i : Fin 4 → LaneInput) (s : State) : Option Beat × State :=
  let act := activeLanes s
  let s1 := act.foldl (fun t l => noteSilence l (i l) t) s
  match s1.vrc.mode with
  | .oo3 | .oo2 => applyVerdict (decide3 i act) s1
  | .oo1 =>
    match i s1.vrc.svc with
    | .beat b => (some b, s1)
    | x => (none, noteSilence s1.vrc.svc x s1)
  | .none | .split => (none, s1)

/-- A lane that is not in the vote falls silent (R54, R81, R90). -/
def spareSilent (l : Fin 4) (i : LaneInput) (s : State) : State :=
  let ev := causeEvent (inputCause i)
  let s1 := noteSilence l i s
  match laneState s l with
  | .bisque => toQuarantine l ev (bisqueFail s.rot.bStep 0 s1)
  | .wedging => toQuarantine l ev (wedgeAbort l 2 0 s1)
  | .wedged =>
    let s2 := toQuarantine l ev (wedgeAbort l 2 0 s1)
    if s2.vrc.subst then setModState .run2oo2 ev (setVote .oo2 false ev s2) else s2
  | _ => s1

/-- In WIDE a lane whose memory or rail fails stops until the next module reset (R503). -/
def wideStop (l : Fin 4) (s : State) : State :=
  setLane l (fun x => { x with stopped := true, fenced := true, held := true }) s

/-- A lane falls silent (R38, R40, R47): in the vote as a difference in all groups while the others present an
idle clock, in WIDE under R503, otherwise under R54. -/
def laneSilent (l : Fin 4) (i : LaneInput) (s : State) : State :=
  if s.vrc.mode = .split then
    match i with
    | .memUe a => wideStop l (record 1 0x1009 l.val (a.toNat % 2 ^ 32) (a.toNat / 2 ^ 32) s)
    | _ => s
  else if laneState s l = .retired then s
  else if laneState s l = .active then (voteClock (fun k => if k = l then i else .beat {}) s).2
  else spareSilent l i s

end Sys2Proof.Machine
end

