-- ==== Sys2Proof/Machine/CoreOps.lean ====
section
/-! DEFINITION. Lane reset (R109) and the state record a joining lane loads (R91, R111). -/

namespace Sys2Proof.Machine

/-- Lane reset (R109): both cores and the lane's counts of corrected errors. -/
def laneReset (l : Fin 4) (s : State) : State :=
  setLane l (fun x => { x with ceSram := 0, ceDram := 0 })
    { s with cores := (s.cores.set (coreP l).val {} (coreP l).isLt).set (coreS l).val {} (coreS l).isLt }

/-- The state record of `src` loaded into `dst` (R91, R111): everything but the caches, the buffers and what may
differ between lanes; the reservation is cleared. -/
def stateRecord (src dst : Core) : Core :=
  { src with
    icache := dst.icache, dcache := dst.dcache, uses := dst.uses, port := dst.port, halted := dst.halted
    resv := none, sbuf := [], cbuf := none }

end Sys2Proof.Machine
end

