-- ==== Sys2Proof/Machine/RotOps.lean ====
section
/-! DEFINITION. The rotation controller: the mirror voter and its FIFO (R83-R87), the rewedge decision (R93, R94),
loading the state record (R91-R93), and the gate-set handover (R96). -/

namespace Sys2Proof.Machine

/-- The page of the written-page map an address lies in: 64 KiB pages of DRAM, then of SRAM (R87). -/
def pageOf (a : Nat) : Nat := if a < 2 ^ 32 then a / 65536 else 65536 + (a - 2 ^ 32) / 65536

/-- Mark pages in the written-page map (R87). -/
def markPages (ps : List Nat) (s : State) : State :=
  { s with rot := { s.rot with pages := ps.foldl (fun m p => if p ∈ m then m else m ++ [p]) s.rot.pages } }

/-- The pages of `n` octets from an address. -/
def pagesOf (a n : Nat) : List Nat :=
  if n = 0 then [] else (List.range ((a + n - 1) / 65536 - a / 65536 + 1)).map (fun k => pageOf (a + 65536 * k))

/-- One entry applied to a lane's memory, and to the cache lines that hold it (R83, R122). -/
def applyEntry (l : Fin 4) (e : MirrorEntry) (s : State) : State :=
  let i := coreP l
  let f (c : Core) : Core := { c with dcache := c.dcache.map (lineStore e) }
  { s with mems := s.mems.set i.val (memWriteBe s.mems[i] e.addr.toNat e.be e.data 16) i.isLt
           cores := vmod (vmod s.cores i f) (coreS l) f }

/-- The first `n` entries of the mirror FIFO reach the spare (R85); the hold ends at 2,048 entries. -/
def drainMirror (n : Nat) (s : State) : State :=
  let s1 := match spareLane s with
    | some l => (s.rot.fifo.take n).foldl (fun t (e : MirrorEntry) => bwCount 1 (enabledBytes e.be) (applyEntry l e t)) s
    | none => s
  let rest := s.rot.fifo.drop n
  { s1 with rot := { s1.rot with fifo := rest, hold := s1.rot.hold && decide (2048 < rest.length) } }

/-- A write of the ACTIVE lanes enters the twin forward FIFO while an integration forwards (R326): at a fill of 768
the TWL asserts MIRROR_HOLD. -/
def fwdPush (kind : Nat) (e : MirrorEntry) (s : State) : State :=
  if s.twl.role = .active ∧ 3 ≤ s.twl.phase then
    let f := s.twl.fwd ++ [{ addr := e.addr, be := e.be, kind := BitVec.ofNat 8 kind, data := e.data }]
    setTwl (fun t => { t with fwd := f, fwdHold := t.fwdHold || decide (768 ≤ f.length) }) s
  else s

/-- The octets of a forward entry (R326). -/
def fwdOctets (e : TwinFwd) : List Byte :=
  leBytes 5 e.addr.toNat ++ leBytes 2 e.be.toNat ++ [e.kind] ++ leBytes 16 e.data.toNat

/-- The first `n` forward entries leave in an FWD frame; the hold ends at a fill of 512 (R326). -/
def fwdDrain (n : Nat) (s : State) : State :=
  let out := s.twl.fwd.take n
  let rest := s.twl.fwd.drop n
  let s1 := if out = [] then s else twinSend 10 (out.flatMap fwdOctets) s
  setTwl (fun t => { t with fwd := rest, fwdHold := t.fwdHold && decide (512 < rest.length) }) s1

/-- A voted mirror entry (R83, R85, R87): its page is marked; with a spare present it enters the FIFO, and a fill of
3,072 asserts MIRROR_HOLD. -/
def mirrorPush (e : MirrorEntry) (s : State) : State :=
  let s1 := fwdPush 0 e (markPages [pageOf e.addr.toNat] s)
  match spareLane s1 with
  | none => s1
  | some _ =>
    let f := s1.rot.fifo ++ [e]
    let s2 := { s1 with rot := { s1.rot with fifo := f } }
    if decide (3072 ≤ f.length) && !s1.rot.hold then
      raise 55 { s2 with rot := { s2.rot with hold := true } }
    else s2

/-- A disagreement in the mirror voter (R84): MIRROR_DISAGREE, and the lanes as for a fabric disagreement. -/
def mirrorDisagree (v : Verdict) (p1 p2 : Nat) (s : State) : State :=
  match v with
  | .minority l c g b => excludeLane l c g b (record 1 0x1017 l.val p1 p2 s)
  | .noMajority ls c g b => noMajority ls c g b (record 1 0x1017 0xFF p1 p2 s)
  | _ => s

/-- Time needed by a rewedge, in units of 10 ns rounded up: D + 1.6 µs with D = 2 ns an entry (R93). -/
def rewedgeNeed (s : State) : Nat := (2 * s.rot.fifo.length + 1600 + 9) / 10

/-- The lane that leaves at the next swap: ACTIVE longest, the lowest-numbered of a tie (R78). -/
def nextOut (s : State) : Fin 4 :=
  match activeLanes s with
  | [] => 0
  | l :: ls => ls.foldl (fun best k => if (s.vrc.lanes[k]).since < (s.vrc.lanes[best]).since then k else best) l

/-- The lowest gate set no ACTIVE lane drives (R76, R98). -/
def vacantGate (s : State) : Fin 3 :=
  ((allFin 3).find? (fun g => (activeLanes s).all (fun l => decide ((s.vrc.lanes[l]).gate ≠ some g)))).getD 0

/-- The rewedge wanted in a quiet gap: a swap under R77, or the joining of a WEDGED spare in 2oo2 (R98). -/
def rewedgeWanted (s : State) : Option Rewedge :=
  match wedgedLane s with
  | none => none
  | some j =>
    if s.vrc.mode = .oo3 ∧ s.vrc.subst = false ∧ s.rot.pend = true ∧ s.rot.en = true then
      let x := nextOut s
      some { joining := j, gate := (s.vrc.lanes[x]).gate.getD 0, out := some x, excluded := none, done := false }
    else if s.vrc.mode = .oo2 then
      some { joining := j, gate := vacantGate s, out := none, excluded := s.rot.vacant, done := false }
    else none

/-- A rewedge that does not fit is deferred (R94, R79). -/
def rewedgeDefer (r : Rewedge) (need avail : Nat) (s : State) : State :=
  let d := inc16 s.rot.defer
  let s1 := raise 54 (record 1 0x1016 r.joining.val need avail
    { s with rot := { s.rot with defer := d, deferrals := inc32 s.rot.deferrals, need := need, avail := avail } })
  if r.out.isSome then
    if decide (1000 ≤ d) && !s1.rot.starved then
      record 1 0x1018 (nextOut s1).val d 0 { s1 with rot := { s1.rot with starved := true } }
    else s1
  else if decide (8 ≤ d) && s1.vrc.subst then
    setModState .run2oo2 0x1016 (setVote .oo2 false 0x1016 s1)
  else s1

/-- The decision of R93 step 1 at the start of a quiet gap, with the time available in units of 10 ns; a rewedge that
fits starts, and the mirror FIFO drains (step 2). -/
def rewedgeDecide (avail : Nat) (s : State) : State :=
  match rewedgeWanted s with
  | none => s
  | some r =>
    let need := rewedgeNeed s
    if need ≤ avail then
      let s1 := drainMirror s.rot.fifo.length s
      { s1 with rot := { s1.rot with rewedge := some r, defer := 0, starved := false, need := need, avail := avail } }
    else rewedgeDefer r need (min avail 0xFFFF) s

/-- The lanes ACTIVE from the next boundary under a rewedge. -/
def activeAfter (r : Rewedge) (s : State) : List (Fin 4) :=
  (allFin 4).filter (fun l => decide (l = r.joining) ||
    (decide (laneState s l = .active) && decide (r.out ≠ some l)))

/-- The state record of the lowest ACTIVE lane, loaded into the joining lane's cores (R91, R93 step 4). -/
def loadRecord (j : Fin 4) (s : State) : State :=
  match activeLanes s with
  | [] => s
  | a :: _ =>
    let c := s.cores[coreP a]
    { s with cores := vmod (vmod s.cores (coreP j) (fun d => stateRecord c d)) (coreS j) (fun d => stateRecord c d) }

/-- Unlocked cache ways of the lanes named are invalidated (R92), and exclusive reservations are cleared (R111). -/
def invalidateLanes (ls : List (Fin 4)) (s : State) : State :=
  let f (c : Core) : Core := { invalidateUnlocked c with resv := none }
  ls.foldl (fun t l => { t with cores := vmod (vmod t.cores (coreP l) f) (coreS l) f })
    { s with vrc := { s.vrc with bufResv := [] } }

/-- The joining lane becomes ACTIVE on its gate set at the boundary (R93 step 8, R96); held interrupts are
delivered. -/
def joinLane (r : Rewedge) (s : State) : State :=
  let n := s.vrc.actSeq + 1
  let s1 := setLane r.joining (fun x =>
    { x with state := .active, fenced := false, held := false, silent := false, gate := some r.gate, since := n }) s
  let held := s1.vrc.heldInts
  let s2 := { s1 with
    vrc := { s1.vrc with actSeq := n, heldInts := [], aref := arefOf (activeAfter r s) }
    rot := { s1.rot with rewedge := none, wPhase := 0, gateWait := s1.rot.gateWait ++ [r.gate] } }
  held.foldl (fun t k => deliver k t) s2

/-- The timer reaches 0 (R77, R104): with rotation enabled a swap is pending. -/
def rotationExpire (s : State) : State :=
  { s with rot := { s.rot with due := 0, pend := s.rot.pend || (s.rot.en && isRun s) } }

/-- The rotation timer restarts from the bisque period (R77). -/
def rotationRestart (s : State) : State :=
  { s with rot := { s.rot with due := s.rot.period, pend := false, starved := false, defer := 0 } }

end Sys2Proof.Machine
end

