-- ==== Sys2Proof/Machine/Clockwork.lean ====
section
/-! DEFINITION. The passage of time: what `n` counts of the free-running counter do (R197, R413, R77, R85, R506,
R209, R326, R339). Commands that time brings about carry their `dt`; an idle step is one count (log 2). -/

namespace Sys2Proof.Machine

/-- OPTIME advances by 1 for 500,000 counts (R413); the ms that pass. -/
def tickOptime (n : Nat) (s : State) : Nat × State :=
  let t := s.recd.subMs + n
  let ms := t / 500000
  (ms, { s with recd := { s.recd with optime := s.recd.optime + ms, subMs := t % 500000 } })

/-- The rotation timer counts operating time down while the module is in a RUN state (R77). -/
def tickRotation (ms : Nat) (s : State) : State :=
  if isRun s ∧ 0 < s.rot.due then
    if s.rot.due ≤ ms then rotationExpire s else { s with rot := { s.rot with due := s.rot.due - ms } }
  else s

/-- The mirror FIFO drains one entry per 2 ns, and a hold is timed (R85). -/
def tickMirror (n : Nat) (s : State) : State :=
  if s.rot.fifo = [] then s
  else
    let h := if s.rot.hold then min n (s.rot.fifo.length - 2048) else 0
    drainMirror n { s with rot := { s.rot with holdCounts := s.rot.holdCounts + h } }

/-- The execution time of the lowest-numbered task in RUN or OVERRUN (R506): not while the lanes wait in WFI between
GAP_WARN and GAP_END. -/
def tickExec (n : Nat) (s : State) : State :=
  if s.cys.waiting then s
  else
    match (allFin 8).find? (fun k =>
      decide ((s.cys.tasks[k]).state = .run) || decide ((s.cys.tasks[k]).state = .overrun)) with
    | none => s
    | some k =>
      { s with cys := { s.cys with tasks := vmod s.cys.tasks k (fun t => { t with execCounts := t.execCounts + n }) } }

/-- Time in coast, ms (R209). -/
def tickCoast (n : Nat) (s : State) : State :=
  if s.clk.coast then
    let t := s.clk.coastSub + n
    { s with clk := { s.clk with coastMs := satAdd 0xFFFFFFFF s.clk.coastMs (t / 500000), coastSub := t % 500000 } }
  else s

/-- The forward FIFO drains one entry per 120 ns, 60 counts (R326). -/
def tickFwd (n : Nat) (s : State) : State :=
  if s.twl.fwd = [] then s
  else
    let t := s.twl.fwdSub + n
    fwdDrain (t / 60) (setTwl (fun w => { w with fwdSub := t % 60 }) s)

/-- Core clocks that pass for a core: CW_CYCLE and the clock events of LPC (R110, R192, R431). -/
def Core.clocks (c : Core) (n : Nat) : Core :=
  let c1 := (c.setWord 10 (c.word 10 + BitVec.ofNat 64 n)).event 0x01 n
  if c.wfi then c1.event 0x12 n else c1

/-- The cores of lanes that are not held in lane reset run: 3 core clocks to the count, 6/5 in coast (R190, R197). -/
def tickCores (n : Nat) (s : State) : State :=
  let f := s.tim.coreFifths + (if s.clk.coast then 6 * n else 15 * n)
  { s with
    tim := { s.tim with coreFifths := f % 5 }
    cores := (allFin 8).foldl (fun v k =>
      let l := s.vrc.lanes[laneOf k]
      if l.held || l.stopped then v else vmod v k (fun c => c.clocks (f / 5))) s.cores }

/-- The sweep of `n` counts over the module; in COLD nothing advances. -/
def advance (n : Nat) (s : State) : State :=
  if s.mod.state = .cold then s
  else
    let (ms, s1) := tickOptime n s
    let s2 := tickCores n (tickFwd n (tickCoast n (tickExec n (tickMirror n (tickRotation ms s1)))))
    serveSwitch s.tim.frc.toNat { s2 with tim := { s2.tim with frc := s2.tim.frc + BitVec.ofNat 64 n } }

end Sys2Proof.Machine
end

