-- ==== Sys2Proof/Machine/Banks.lean ====
section
/-! DEFINITION. The field banks' commands (chapter 08) and the sync frames of the CTU (R231, R232). -/

namespace Sys2Proof.Machine

/-- INC: network-time ns for a sync clock edge, in 2^-24 ns (R231), with RATE, SL and in coast the slower clock. -/
def syncInc (s : State) : Nat :=
  let nominal : Int := if s.clk.coast then 4194304000 else 1677721600
  ((nominal * (4294967296 + s.tim.rate + s.tim.sl)) / 4294967296).toNat % 2 ^ 32

/-- The 18 octets of a sync frame for a pulse instant (R231). -/
def syncFrame (s : State) (instant : Int) : List Byte :=
  let (sec, ns) := splitNs instant
  let body := leBytes 6 sec ++ leBytes 4 ns ++ leBytes 4 (syncInc s) ++
    leBytes 2 (b2n s.tim.stepSince + 2 * b2n s.tim.uncert + 4 * b2n s.tim.timeLocal + 8 * b2n s.clk.coast +
      16 * (s.tim.stepCnt % 16))
  body ++ leBytes 2 (crc16 body).toNat

/-- BANK_SYNC_FRAME_SEND (R231): for the next whole ms, or the extra frame of a step or rebase for a pulse `ahead`
ns away. -/
def execBankSyncFrameSend (dt : Nat) (extra : Bool) (ahead : BitVec 32) (s : State) : Out :=
  let s0 := advance dt s
  let instant := if extra then s0.tim.ns + ahead.toNat else (s0.tim.ns / 1000000 + 1) * 1000000
  .next { s0 with tim := { s0.tim with frame := syncFrame s0 instant, stepSince := false, rebased := false } }

/-- CTU_BSYNC of a bank. -/
def noteBsync (b : Fin 3) (valid jump : Bool) (corr : Int) (s : State) : State :=
  { s with tim := { s.tim with
    bankValid := s.tim.bankValid.set b.val valid b.isLt
    bankJump := s.tim.bankJump.set b.val jump b.isLt
    bankCorr := s.tim.bankCorr.set b.val corr b.isLt } }

/-- A pulse that a bank loads (R232): time, INC and flags; a step where STEPCNT differs, a jump where it does not and
the counter is more than 200 ns away. -/
def pulseGood (b : Fin 3) (f : List Byte) (s : State) : State :=
  let k := s.banks[b]
  let t : Int := (leAt f 0 6 * 1000000000 + leAt f 6 4 : Nat)
  let w := leAt f 14 2
  let cnt := field w 4 4
  let old := bankNow k s
  let good := k.goodRun + 1
  let valid := k.timeValid || decide (2 ≤ good)
  let s1 := setBank b (fun x =>
    { x with base := some t, baseFrc := s.tim.frc, inc := leAt f 10 4
             edge := if w.testBit 3 then 125 else 50, stepCnt := cnt, timeValid := valid
             badRun := 0, goodRun := good, unc := w.testBit 1, local_ := w.testBit 2, coast := w.testBit 3 }) s
  match old with
  | none => noteBsync b valid false 0 s1
  | some n =>
    let d := t - n
    let corr := clampInt (-8) 7 (d / 100)
    if cnt ≠ k.stepCnt then
      let s2 := noteBsync b valid false corr s1
      if 0 < d then (bankChans b).foldl (fun st ch => stepForward ch t st) s2
      else (bankChans b).foldl (fun st ch => stepBackward ch t st) s2
    else if 200 < d.natAbs then
      raise 87 (record 2 0x2017 b.val (int32 d) (s.tim.frc.toNat % 2 ^ 32) (noteBsync b valid true corr s1))
    else noteBsync b valid false corr s1

/-- A pulse whose frame failed its CRC, or a missing one (R232): the third in a row makes bank time invalid. -/
def pulseBad (b : Fin 3) (s : State) : State :=
  let k := s.banks[b]
  let bad := k.badRun + 1
  let s1 := setBank b (fun x =>
    { x with badRun := bad, goodRun := 0, timeValid := x.timeValid && decide (bad < 3) }) s
  if k.timeValid ∧ 3 ≤ bad then
    raise 87 (record 2 0x2018 b.val bad 0 (noteBsync b false (s.tim.bankJump[b]) (s.tim.bankCorr[b]) s1))
  else s1

/-- BANK_SYNC_PULSE (R232, R264). -/
def execBankSyncPulse (dt : Nat) (bank : Fin 3) (rx : PulseRx) (s : State) : Out :=
  let s0 := advance dt s
  if rx = .good ∧ s0.tim.frame.length = 18 then .next (pulseGood bank s0.tim.frame s0)
  else .next (pulseBad bank s0)

/-- FILTERED_STATE_CHANGE (R253, R254): the new filtered state of an input goes to the sequencer and, where the edge
is enabled, into the event FIFO. An input in FAULT reports nothing; its comparators agree again. -/
def execFilteredStateChange (dt : Nat) (ch : Fin 48) (value : Bool) (s : State) : Out :=
  let s0 := advance dt s
  let c := s0.chans[ch]
  if c.state = .fault ∧ c.isOut = false then .next (setChan ch (fun x => { x with raw := value, agree := true }) s0)
  else if c.state = .input ∧ c.filt ≠ value then
    let b := s0.banks[bankOf ch]
    let s1 := setChan ch (fun x => { x with raw := value, filt := value }) s0
    let s2 := { s1 with cys := { s1.cys with tasks := s1.cys.tasks.map (fun t =>
      if value then { t with rise := putBit t.rise ch.val true } else { t with fall := putBit t.fall ch.val true }) } }
    let on := if value then b.coRise.getLsbD (idxOf ch) else b.coFall.getLsbD (idxOf ch)
    let stamp := (bankNow b s0).getD 0 - (if c.fmode then 0 else (c.time * 1000 : Nat))
    .next (if on then pushEvent ch stamp value c.fmode s2 else s2)
  else .next s0

/-- DISCREPANCY_TIMEOUT (R252): cause 2. -/
def execDiscrepancyTimeout (dt : Nat) (ch : Fin 48) (s : State) : Out :=
  let s0 := advance dt s
  if (s0.chans[ch]).state = .input then .next (chanFault ch 2 0 (setChan ch (fun x => { x with agree := false }) s0))
  else .next s0

/-- COMPARATOR_INVERSION (R252): cause 1. -/
def execComparatorInversion (ch : Fin 48) (s : State) : Out :=
  if (s.chans[ch]).state = .input then .next (chanFault ch 1 0 (setChan ch (fun x => { x with agree := false }) s))
  else .next s

/-- Output supervision applies: the field supply is OK (R245, R261). -/
def supplyOk (ch : Fin 48) (s : State) : Bool := decide ((s.banks[bankOf ch]).supply = 2)

/-- SWITCH_SENSE_FAULT (R245): cause 4. -/
def execSwitchSenseFault (ch : Fin 48) (gate : Fin 3) (s : State) : Out :=
  let c := s.chans[ch]
  if c.isOut && c.state.live && supplyOk ch s then
    .next (chanFault ch 4 gate.val (setChan ch (fun x => { x with agree := false }) s))
  else .next s

/-- GATE_SET_DISAGREE (R245): cause 6; not during a dark pulse. -/
def execGateSetDisagree (ch : Fin 48) (gate : Fin 3) (s : State) : Out :=
  let c := s.chans[ch]
  if c.isOut && c.state.live && c.pulse.isNone then .next (chanFault ch 6 gate.val s) else .next s

/-- READBACK_FAULT (R245): cause 3; suspended without field supply, while the twin link holds the gates, in 1oo1. -/
def execReadbackFault (ch : Fin 48) (s : State) : Out :=
  let c := s.chans[ch]
  if c.isOut && c.state.live && supplyOk ch s && !(s.banks[bankOf ch]).hold && decide (s.vrc.mode ≠ .oo1) then
    .next (chanFault ch 3 0 s)
  else .next s

/-- The gate set a dark test exercises, closed or opened for the pulse (R246). -/
def startPulse (ch : Fin 48) (s : State) : State :=
  let c := s.chans[ch]
  let k := c.darkNext
  let on := c.cmd && !(s.banks[bankOf ch]).hold
  setChan ch (fun x =>
    { x with pulse := some k, darkDue := false, gates := putBit x.gates k.val (!on)
             darkNext := if k.val = 0 then 1 else if k.val = 1 then 2 else 0 }) s

/-- What R247, R249, R232 and R97 ask of a channel at a dark test, leaving a coming launch aside. -/
def darkReady (ch : Fin 48) (s : State) : Bool :=
  let c := s.chans[ch]
  let b := s.banks[bankOf ch]
  c.isOut && c.dark && c.state.live && c.pulse.isNone && c.agree && decide (c.filt = c.cmd || b.hold) &&
    decide (c.gates = latches s c.cmd) && supplyOk ch s && b.base.isSome && decide (s.vrc.mode ≠ .oo1) &&
    decide (c.darkNext ∉ s.rot.gateWait)

/-- A launch falls due within W + 10 µs (R247). -/
def launchNear (ch : Fin 48) (s : State) : Bool :=
  let b := s.banks[bankOf ch]
  match (s.chans[ch]).queue, bankNow b s with
  | e :: _, some now => decide (e.launch - now ≤ ((b.width + 10) * 1000 : Nat))
  | _, _ => false

/-- DARK_TEST_START (R246, R247): the pulse starts on the next gate set, or the test is deferred. -/
def execDarkTestStart (dt : Nat) (ch : Fin 48) (s : State) : Out :=
  let s0 := advance dt s
  if darkReady ch s0 then
    if launchNear ch s0 then .next (setChan ch (fun x => { x with darkDue := true }) s0)
    else .next (startPulse ch s0)
  else .next s0

/-- DARK_PULSE_END (R246): the gate set returns to its latch; the senses pass, or DARK_FAIL with cause 5. -/
def execDarkPulseEnd (dt : Nat) (ch : Fin 48) (fail : Option (BitVec 6)) (s : State) : Out :=
  let s0 := advance dt s
  match (s0.chans[ch]).pulse with
  | none => .next s0
  | some k =>
    let s1 := setChan ch (fun x => { x with pulse := none, gates := latches s0 x.cmd }) s0
    match fail with
    | none => .next (setChan ch (fun x => { x with dtPass := (x.dtPass + 1) % 256 }) s1)
    | some senses =>
      .next (chanFault ch 5 k.val (record (bankSrc ch) 0x3002 ch.val k.val senses.toNat
        (setChan ch (fun x => { x with agree := false }) s1)))

/-- READBACK_AGREES (R247): readback and senses agree with the state after a launch; a test deferred for it runs. -/
def execReadbackAgrees (ch : Fin 48) (s : State) : Out :=
  let c := s.chans[ch]
  if c.isOut then
    let s1 := setChan ch (fun x => { x with agree := true, filt := if x.state.live then x.cmd else x.filt }) s
    .next (if c.darkDue && darkReady ch s1 && !launchNear ch s1 then startPulse ch s1 else s1)
  else .next s

/-- OVERLOAD (R244, R259): all six switches open. -/
def execOverload (ch : Fin 48) (ma : BitVec 32) (s : State) : Out :=
  let c := s.chans[ch]
  if c.isOut && c.state.live then
    .next (raise (bankInt (bankOf ch) + 7) (record (bankSrc ch) 0x3003 ch.val ma.toNat 0 (chanTrip ch 7 s)))
  else .next s

/-- BANK_OVERLOAD (R244): every output of the bank is opened. -/
def execBankOverload (bank : Fin 3) (ma : BitVec 32) (s : State) : Out :=
  let s1 := (bankChans bank).foldl (fun t ch =>
    if (t.chans[ch]).isOut && (t.chans[ch]).state.live then chanTrip ch 8 t else t) s
  .next (raise (bankInt bank + 7) (record (3 + bank.val) 0x3004 bank.val ma.toNat 0 s1))

/-- BANK_TIMEOUT (R256, R258): no refresh of a watched channel for T. -/
def execBankTimeout (dt : Nat) (ch : Fin 48) (s : State) : Out :=
  let s0 := advance dt s
  let c := s0.chans[ch]
  if c.watched && decide (c.state = .driven) then
    let recov := (s0.banks[bankOf ch]).recov
    let ms := (s0.tim.frc - c.refreshAt).toNat / 500000
    let s1 := applySafe ch 1 (if recov then .locked else .safe) s0
    .next (raise (bankInt (bankOf ch) + 6) (record (bankSrc ch) 0x3006 ch.val ms 0
      (setChan ch (fun x => { x with timedOut := !recov }) s1)))
  else .next s0

/-- SYNC_LOST (R258): every output channel of the bank is LOCKED. -/
def execSyncLost (bank : Fin 3) (s : State) : Out :=
  .next (record (3 + bank.val) 0x3008 bank.val 0 0
    (banksSafeOwned ((0xFFFF : BitVec 48) <<< (16 * bank.val)) 1 s))

/-- SUPPLY_STATE (R260, R261): a state held for 1 ms of measurements; a return from MISSING starts the field side
anew, with bank time invalid (R232). -/
def execSupplyState (dt : Nat) (bank : Fin 3) (state : Fin 4) (volt : BitVec 16) (s : State) : Out :=
  let s0 := advance dt s
  let old := (s0.banks[bank]).supply
  let s1 := setBank bank (fun b =>
    let b1 := { b with supply := state.val, volt := volt.toNat }
    if old = 0 ∧ state.val ≠ 0 then { b1 with base := none, timeValid := false, goodRun := 0, badRun := 0 } else b1) s0
  if old = state.val then .next s1
  else
    let s2 := if old = 0 then noteBsync bank false false 0 s1 else s1
    .next (raise (bankInt bank + 3) (record (3 + bank.val) 0x3005 bank.val state.val volt.toNat s2))

/-- GLAZE_POST (R262). -/
def execGlazePost (ch : Fin 48) (state : Bool) (sec : BitVec 48) (ns : BitVec 32) (s : State) : Out :=
  .next (glazePost ch state (sec.toNat * 1000000000 + ns.toNat : Nat) s)

/-- GLAZE_LAUNCH (R263): the first entry of the queue launches. -/
def execGlazeLaunch (dt : Nat) (ch : Fin 48) (s : State) : Out :=
  let s0 := advance dt s
  match (s0.chans[ch]).queue with
  | [] => .next s0
  | e :: rest => .next (launch ch e.state false false (setChan ch (fun x => { x with queue := rest }) s0)).2

end Sys2Proof.Machine
end

