-- ==== Sys2Proof/Machine/Regs.lean ====
section
/-! DEFINITION. The registers of the voted blocks as a word read gives them (R8, R9, R20): one function per block over
the offset, 0 where the block has no register. -/

namespace Sys2Proof.Machine

/-- The ID word of a block: identifier, issue letter, version 1. -/
def idWord (s : State) (block : Nat) : Nat := block * 65536 + s.mod.issue * 256 + 1

/-- INTSTAT of a block. -/
def intStat (s : State) (k : Fin 11) : Nat := (s.ints[k]).stat.toNat

/-- INTEN of a block. -/
def intEn (s : State) (k : Fin 11) : Nat := (s.ints[k]).en.toNat

/-- Low and high word of a 64-bit value. -/
def lo32 (v : Nat) : Nat := v % 2 ^ 32

def hi32 (v : Nat) : Nat := v / 2 ^ 32 % 2 ^ 32

/-- Bits of a predicate over the channels of a bank. -/
def chanBits (s : State) (b : Fin 3) (f : Channel → Bool) : Nat :=
  ((allFin 16).foldl (fun (m : BitVec 16) i => putBit m i.val (f s.chans[chanOf b i])) 0).toNat

/-- VRC_LANESTAT. -/
def laneStat (s : State) : Nat :=
  (allFin 4).foldl (fun m l =>
    let x := s.vrc.lanes[l]
    m + (x.state.code + 16 * ((x.gate.map (fun g => g.val + 1)).getD 0) + 64 * b2n x.fenced) * 2 ^ (8 * l.val)) 0

/-- A mask of lanes. -/
def laneMask (s : State) (p : Lane → Bool) : Nat :=
  (allFin 4).foldl (fun m l => m + b2n (p s.vrc.lanes[l]) * 2 ^ l.val) 0

/-- The VRC and the rotation controller (R70-R72, R100). -/
def vrcRead (s : State) (o : Nat) : Nat :=
  let v := s.vrc
  let r := s.rot
  if o = 0x00 then idWord s 0x5652
  else if o = 0x04 then v.mode.code + 16 * b2n v.subst + 256 * v.aref.val + 4096 * v.svc.val
  else if o = 0x10 then laneStat s
  else if o = 0x14 then laneMask s (fun x => decide (x.state = .active)) + 16 * laneMask s (fun x => x.fenced)
  else if o = 0x20 then exclReg v
  else if o = 0x24 then lo32 v.exFrc.toNat
  else if o = 0x28 then hi32 v.exFrc.toNat
  else if o = 0x2C then lo32 v.exAddr.toNat
  else if o = 0x30 then v.exAttr.toNat * 256 + v.exAddr.toNat / 2 ^ 32
  else if o = 0x40 then intStat s 0
  else if o = 0x44 then intEn s 0
  else if o = 0x50 then injReg v
  else if o = 0x54 then v.xcount
  else if o = 0x58 then v.wideRej
  else if o = 0x100 then b2n r.en
  else if o = 0x104 then r.period
  else if o = 0x108 then (if s.mod.state = .run2oo3 then r.due else 0)
  else if o = 0x10C then
    let sp := spareLane s
    r.defer * 65536 + b2n r.pend * 1024 + (nextOut s).val * 256 + b2n sp.isSome * 16 + (sp.map (fun l => l.val)).getD 0
  else if o = 0x110 then r.bSlices * 65536 + r.bFail * 256 + r.bResult * 64 + r.bStep * 4 + r.bLane.val
  else if o = 0x114 then min 255 r.wRecopy * 256 + r.wPhase * 4 + r.wLane.val
  else if o = 0x118 then r.pages.length
  else if o = 0x11C then r.wCopy
  else if o = 0x120 then b2n r.hold * 65536 + r.fifo.length
  else if o = 0x124 then min 0xFFFFFFFF (r.holdCounts / 500)
  else if o = 0x128 then min 0xFFFF r.avail * 65536 + r.need
  else if o = 0x140 then intStat s 1
  else if o = 0x144 then intEn s 1
  else 0

/-- The IEEE 1588 portState shown (R502). -/
def ptpState (s : State) : Nat :=
  if s.pwr.on.getLsbD 6 = false then 0
  else if LoadTarget.switch ∉ s.boot.loadOk then 1
  else if s.twl.role = .standby ∨ (s.twl.role = .integrating ∧ s.twl.peerRole = 3) then 7
  else if s.tim.gmSelf then 6
  else if s.clk.quiet then 4
  else match s.tim.master with
    | none => 4
    | some _ => if s.tim.accepted = 0 then 8 else 9

/-- meanLinkDelay in 2^-16 ns: the mean of the last eight exchanges; 0 while not valid (R225). -/
def PeerDelay.mean (d : PeerDelay) : Int :=
  if d.valid then d.delays.foldl (fun a b => a + b) 0 / (max 1 d.delays.length : Nat) else 0

/-- The time flags of R216. -/
def timeFlags (s : State) : Nat :=
  b2n s.tim.timeLocal + 2 * b2n s.tim.uncert + 4 * b2n s.clk.coast + 8 * b2n s.tim.arb

/-- CTU_TIMESECH as a read of CTU_TIMENS latches it. -/
def timeSecHigh (s : State) : Nat :=
  b2n s.tim.timeLocal * 2 ^ 31 + b2n s.tim.uncert * 2 ^ 30 + b2n s.clk.coast * 2 ^ 29 + b2n s.tim.arb * 2 ^ 28 +
    (splitNs s.tim.ns).1 / 2 ^ 32

/-- CTU_BSYNC. -/
def bsyncReg (s : State) : Nat :=
  (allFin 3).foldl (fun m k =>
    m + ((BitVec.ofInt 4 (clampInt (-8) 7 s.tim.bankCorr[k])).toNat + 64 * b2n s.tim.bankJump[k] +
      128 * b2n s.tim.bankValid[k]) * 2 ^ (8 * k.val)) 0

/-- CTU_BERRH as it stands. -/
def berrHigh (c : Clk) : Nat :=
  b2n c.berrValid * 2 ^ 31 + c.berrMaster * 2 ^ 16 + b2n c.berrWr * 4096 + c.berrKind * 256 + c.berrAddr.toNat / 2 ^ 32

/-- CTU_STAT. -/
def ctuStat (s : State) : Nat :=
  let c := s.clk
  b2n s.tim.timeLocal * 2 ^ 23 + b2n s.tim.uncert * 2 ^ 22 + b2n c.emberFail * 2 ^ 19 + b2n c.startWin * 2 ^ 18 +
    b2n (decide (c.rampStep ≠ 0)) * 2 ^ 17 + b2n c.lock * 2 ^ 16 + c.valid.toNat * 256 + b2n c.coast * 8 + c.ref

/-- The CTU: clocks, time, power and slot (R206, R215, R476, R498). -/
def ctuRead (s : State) (o : Nat) : Nat :=
  let c := s.clk
  let t := s.tim
  if o = 0x00 then idWord s 0x4354
  else if o = 0x04 then ctuStat s
  else if o = 0x08 then b2n c.revert * 256 + c.role.toNat * 16 + c.mask.toNat
  else if o = 0x0C then c.ramps * 65536 + c.rampStep
  else if o = 0x10 then c.clken0.toNat
  else if o = 0x14 then c.clken1.toNat
  else if o = 0x20 then b2n c.fmVoid * 2 ^ 19 + b2n c.fmDone * 2 ^ 18 + b2n c.fmBusy * 2 ^ 17 + c.fmRef * 256 + c.fmMeas
  else if o = 0x24 then c.fmGate
  else if o = 0x28 then c.fmCount.toNat
  else if o = 0x30 then lo32 c.berrAddr.toNat
  else if o = 0x34 then c.berrH.toNat
  else if o = 0x38 then c.berrCount
  else if o = 0x40 then intStat s 2
  else if o = 0x44 then intEn s 2
  else if o = 0x100 then lo32 t.frc.toNat
  else if o = 0x104 then t.frcH.toNat
  else if o = 0x110 then (splitNs t.ns).2
  else if o = 0x114 then t.timeSecL.toNat
  else if o = 0x118 then t.timeSecH.toNat
  else if o = 0x120 then int32 t.rate
  else if o = 0x124 then t.adjNs.toNat
  else if o = 0x128 then t.adjSecL.toNat
  else if o = 0x12C then t.adjSecH.toNat
  else if o = 0x130 then t.slewPpm * 65536 + b2n t.adjErr * 1024 + b2n t.busy * 512 + t.adjMode
  else if o = 0x134 then errBoundReg s
  else if o = 0x138 then int32 (clampInt (-2147483647) 2147483647 t.lastOfs)
  else if o = 0x13C then
    b2n t.gmSelf * 2 ^ 17 + ((t.master.map (fun m => m.port.val)).getD 0) * 2 ^ 16 + b2n t.delay[1].valid * 2048 +
      b2n t.delay[0].valid * 1024 + b2n t.busy * 512 + b2n t.hold * 256 + ptpState s
  else if o = 0x140 then min 0xFFFFFFFF (t.delay[0].mean / 4096).toNat
  else if o = 0x144 then min 0xFFFFFFFF (t.delay[1].mean / 4096).toNat
  else if o = 0x150 then bsyncReg s
  else if o = 0x200 then s.pwr.rstDetail * 65536 + s.pwr.rstPrev * 256 + s.pwr.rstKind
  else if o = 0x204 then s.pwr.railFault.toNat * 65536 + s.pwr.on.toNat
  else if o = 0x208 then s.pwr.supply * 65536 + s.pwr.volt
  else if o = 0x20C then b2n s.pwr.tempTrip * 2 ^ 31 + b2n s.pwr.tempWarn * 2 ^ 30 + s.pwr.temp.toNat
  else if o = 0x210 then b2n s.pwr.withdrawn * 4 + b2n s.pwr.mate * 2 + b2n s.pwr.pos
  else 0

/-- The banks are fitted: every order code but VPM4-00-T (R3, R4). -/
def banksFitted (s : State) : Bool := decide (s.mod.product ≠ 0x00400001)

/-- A register of channel `i` of a bank. -/
def fbChanRead (c : Channel) (o : Nat) : Nat :=
  if o = 0 then
    b2n c.dark * 2048 + b2n c.safeRel * 1024 + c.safeSt * 256 + b2n c.fmode * 16 + c.kind
  else if o = 4 then c.hyst * 65536 + c.time
  else if o = 8 then c.dtAbort * 2 ^ 24 + c.dtPass % 256 * 65536 + c.queue.length * 256 + c.cause * 16 + c.state.code
  else if o = 12 then c.disc
  else 0

/-- A field bank (R265); on VPM4-00-T only the ID word reads other than 0 (R4). -/
def fbRead (s : State) (k : Fin 3) (o : Nat) : Nat :=
  let b := s.banks[k]
  if o = 0x00 then 0x4642 * 65536 + s.mod.issue * 256 + b2n (banksFitted s) * 128 + k.val * 16 + 1
  else if banksFitted s = false then 0
  else if o = 0x04 then b.tmo * 65536 + b2n b.recov * 256 + b.un
  else if o = 0x08 then b.horizon * 2 ^ 20 + b.stale
  else if o = 0x0C then b.interval * 65536 + b.width
  else if o = 0x10 then
    b2n b.coast * 2048 + b2n b.local_ * 1024 + b2n b.unc * 512 + b2n b.timeValid * 256 + b2n b.hold * 8 +
      b2n ((bankChans k).any (fun ch => decide ((s.chans[ch]).state = .overload) && decide ((s.chans[ch]).cause = 8))) * 4 +
      b.supply
  else if o = 0x14 then b.volt
  else if o = 0x18 then chanBits s k (fun c => decide (c.kind = 4)) * 65536 + chanBits s k Channel.isOut
  else if o = 0x20 ∨ o = 0x24 then chanBits s k (fun c => c.isOut && c.cmd)
  else if o = 0x28 then chanBits s k (fun c => c.raw) * 65536 + chanBits s k (fun c => c.filt)
  else if o = 0x2C then chanBits s k (fun c => c.gates.getLsbD 1) * 65536 + chanBits s k (fun c => c.gates.getLsbD 0)
  else if o = 0x30 then chanBits s k (fun c => c.gates.getLsbD 2)
  else if o = 0x34 then
    (if b.loaded then chanBits s k (fun c => decide (c.state = .locked)) else 0xFFFF) * 65536 +
      chanBits s k (fun c => decide (c.state = .safe))
  else if o = 0x38 then
    chanBits s k (fun c => decide (c.state = .overload)) * 65536 + chanBits s k (fun c => decide (c.state = .fault))
  else if o = 0x40 then (match b.fifo with | [] => 0 | e :: _ => (splitNs e.ns).2)
  else if o = 0x44 then b.evt[0].toNat
  else if o = 0x48 then b.evt[1].toNat
  else if o = 0x4C then b.evt[2].toNat
  else if o = 0x50 then min 0xFFFF b.evtLost * 65536 + b.fifo.length
  else if o = 0x54 then b.coFall.toNat * 65536 + b.coRise.toNat
  else if o = 0x60 then intStat s ⟨3 + k.val, by omega⟩
  else if o = 0x64 then intEn s ⟨3 + k.val, by omega⟩
  else if o = 0x70 then b.lastLaunch.toNat
  else if o = 0x74 then b.glzRefused * 65536 + b.glzLate
  else if h : 0x100 ≤ o ∧ o < 0x200 then fbChanRead s.chans[chanOf k ⟨(o - 0x100) / 16, by omega⟩] (o % 16)
  else 0

/-- The Xenex controller's registers (R307); the buffers above 0x8000 are memory. -/
def xnbRead (s : State) (o : Nat) : Nat :=
  let x := s.xn
  if o = 0x00 then idWord s 0x584E
  else if o = 0x04 then b2n x.claimEn * 512 + b2n x.csCap * 256 + x.addr
  else if o = 0x08 then
    x.master * 2 ^ 24 + x.epoch * 65536 + b2n x.schMis * 512 + b2n (decide (0 < x.tko)) * 256 + b2n x.chans[1].up * 32 +
      b2n x.chans[0].up * 16 + x.role.code
  else if o = 0x0C then x.macro_
  else if o = 0x10 then xnMax x
  else if o = 0x14 then x.claimSlot * 65536 + x.slots.length
  else if o = 0x18 then x.schedCrc
  else if o = 0x20 then lo32 x.mcycle.toNat
  else if o = 0x24 then x.mcycleH.toNat
  else if o = 0x28 then min 0xFFFF x.chans[1].errors * 65536 + min 0xFFFF x.chans[0].errors
  else if o = 0x2C then min 0xFFFF x.driftCount * 65536 + min 0xFFFF x.lateCount
  else if o = 0x30 then min 0xFFFF x.collCold * 65536 + min 0xFFFF x.collOther
  else if o = 0x40 then intStat s 6
  else if o = 0x44 then intEn s 6
  else if h : 0x100 ≤ o ∧ o < 0x200 ∧ o % 4 = 0 then
    let n := x.nodes[(o - 0x100) / 4]
    n.driftRun * 2 ^ 28 + n.late * 65536 + n.miss * 256 + n.state
  else 0

/-- The line-network controller's registers (R358); the areas above 0x4000 are memory. -/
def lncRead (s : State) (o : Nat) : Nat :=
  let l := s.lnc
  if o = 0x00 then idWord s 0x4C4E
  else if o = 0x04 then l.pcp * 4096 + l.vid
  else if o = 0x08 then b2n (txEnabled s) * 65536 + l.spd[1] * 4 + l.spd[0]
  else if o = 0x10 then l.miss * 65536 + l.overran
  else if o = 0x14 then l.suppr * 2 ^ 22 + l.refused * 4096 + l.sent
  else if o = 0x40 then intStat s 7
  else if o = 0x44 then intEn s 7
  else 0

/-- Seconds of the revert hold time that remain (TWL_REVERT). -/
def revertLeft (s : State) : Nat :=
  match s.twl.revertAt with
  | some t => ((t - s.tim.elapsed + 999999999) / 1000000000).toNat
  | none => 0

/-- The gate hold is applied in every bank. -/
def heldGates (s : State) : Bool := (allFin 3).all (fun k => (s.banks[k]).hold)

/-- The twin link's registers (R332). -/
def twlRead (s : State) (o : Nat) : Nat :=
  let t := s.twl
  if o = 0x00 then idWord s 0x5457
  else if o = 0x04 then t.delta * 2 ^ 24 + t.pref * 1024 + b2n s.pwr.pos * 512 + b2n t.en * 256
  else if o = 0x08 then
    t.peerState % 16 * 2 ^ 28 + b2n t.pulse.up * 2 ^ 21 + b2n t.link.up * 2 ^ 20 + t.peerRole % 4 * 65536 +
      b2n (heldGates s) * 256 + t.role.code
  else if o = 0x0C then t.pulseErrors * 65536 + t.pulse.miss * 256 + t.link.miss
  else if o = 0x10 then t.fail * 2 ^ 28 + t.phase * 2 ^ 17 + t.pages
  else if o = 0x14 then b2n t.fwdHold * 65536 + t.fwd.length
  else if o = 0x18 then revertLeft s
  else if o = 0x1C then t.craze.toNat
  else if o = 0x20 then t.peerCraze.toNat
  else if o = 0x24 then min 0xFFFF t.diverges * 65536 + min 0xFFFF t.takeovers
  else if o = 0x40 then intStat s 8
  else if o = 0x44 then intEn s 8
  else 0

/-- A register of task `n` of the cycle sequencer. -/
def cysTaskRead (s : State) (n : Fin 8) (o : Nat) : Nat :=
  let t := s.cys.tasks[n]
  let c := taskCfg s n
  if o = 0x00 then (match c with | some c => c.commit * 2 ^ 24 + c.latch * 65536 + c.period | none => 0)
  else if o = 0x04 then (match c with | some c => c.stall % 2 * 2 ^ 24 + c.deadline / 10 | none => 0)
  else if o = 0x08 then t.count
  else if o = 0x0C then min 0xFFFF t.ovr * 65536 + min 0xFFFF t.skip
  else if o = 0x10 then min 0xFFFF t.execMax * 65536 + min 0xFFFF t.execLast
  else if o = 0x14 then t.state.code
  else 0

/-- The cycle sequencer's registers (R180). -/
def cysRead (s : State) (o : Nat) : Nat :=
  let y := s.cys
  if o = 0x00 then idWord s 0x4359
  else if o = 0x04 then
    gapLen s * 65536 + ((configured s).foldl (fun m n => m + 2 ^ n.val) 0) * 256 + b2n y.dump * 2 + b2n y.run
  else if o = 0x08 then y.olc.code * 65536 + (openMask s).toNat * 256 + b2n y.quiet * 4 + b2n y.ack * 2 + b2n y.gap
  else if o = 0x0C then lo32 y.tick.toNat
  else if o = 0x10 then y.tickH.toNat
  else if o = 0x14 then min 0xFFFF y.avail * 65536 + y.resv
  else if o = 0x18 then (match y.app with | some a => a.hdr.toNat | none => 0)
  else if o = 0x40 then intStat s 10
  else if o = 0x44 then intEn s 10
  else if h : 0x100 ≤ o ∧ o < 0x200 then cysTaskRead s ⟨(o - 0x100) / 32, by omega⟩ (o % 32)
  else if o = 0x200 then y.result * 2 ^ 24 + y.need
  else if o = 0x210 then
    (match y.app with
    | some a => (match a.xnTask with | some t => 2 ^ 31 + t.val * 2 ^ 24 + a.xnLead | none => 0)
    | none => 0)
  else 0

/-- Tags in use at the bridge (R364). -/
def tagsUsed (b : Brg) : Nat := b.posted.length + b.reads.length

/-- The service bridge's registers (R379). -/
def brgRead (s : State) (o : Nat) : Nat :=
  let b := s.brg
  if o = 0x00 then idWord s 0x4252
  else if o = 0x08 then
    ((allFin 16).foldl (fun m n => m + b2n (b.sems[n]).isSome * 2 ^ n.val) 0) * 65536 + b.posted.length * 256 + tagsUsed b
  else if o = 0x0C then b.errCount
  else if o = 0x10 then b.ovf * 65536 + b.log.length
  else if o = 0x20 then (match b.log with | [] => 0 | e :: _ => e.w0.toNat)
  else if o = 0x24 then b.err[0].toNat
  else if o = 0x28 then b.err[1].toNat
  else if o = 0x2C then b.err[2].toNat
  else if o = 0x30 then lo32 b.pfAddr.toNat
  else if o = 0x34 then b2n b.pfValid * 2 ^ 31 + b.pfRegion * 2 ^ 24 + b.pfCount * 256 + b.pfAddr.toNat / 2 ^ 32
  else if o = 0x40 then intStat s 9
  else if o = 0x44 then intEn s 9
  else if o = 0x50 then b.tagWait
  else if o = 0x54 then b.steal * 65536 + b.expire
  else if h : 0x100 ≤ o ∧ o < 0x200 then
    let r := b.regions[(o - 0x100) / 16]
    if o % 16 = 0 then r.base.toNat else if o % 16 = 4 then r.lim.toNat else if o % 16 = 8 then r.attr.toNat else 0
  else 0

/-- A word of the voted register blocks, by lane-view address (R19). -/
def voteRead (s : State) (a : Nat) : Nat :=
  let o := a % 65536
  let blk := (a - 0x0200000000) / 65536
  (if blk = 0 then vrcRead s o
  else if blk = 1 then ctuRead s o
  else if blk = 2 then fbRead s 0 o
  else if blk = 3 then fbRead s 1 o
  else if blk = 4 then fbRead s 2 o
  else if blk = 5 then xnbRead s o
  else if blk = 6 then lncRead s o
  else if blk = 7 then twlRead s o
  else if blk = 8 then cysRead s o
  else if blk = 9 then brgRead s o
  else 0) % 2 ^ 32

/-- What a voted read leaves behind: the latches of CTU_FRCL, CTU_TIMENS and CTU_BERRL (R202, R216), CYS_TICKL (R180),
XNB_MCYCL, and the heads of FBx_EVT0 (R265) and BRG_ERR0 (R369). -/
def voteReadEffect (a : Nat) (s : State) : State :=
  if a = 0x0200010100 then { s with tim := { s.tim with frcH := BitVec.ofNat 32 (s.tim.frc.toNat / 2 ^ 32) } }
  else if a = 0x0200010110 then
    { s with tim := { s.tim with timeSecL := BitVec.ofNat 32 (splitNs s.tim.ns).1, timeSecH := BitVec.ofNat 32 (timeSecHigh s) } }
  else if a = 0x0200010030 then { s with clk := { s.clk with berrH := BitVec.ofNat 32 (berrHigh s.clk) } }
  else if a = 0x020008000C then
    { s with cys := { s.cys with tickH := BitVec.ofNat 32 (s.cys.tick.toNat / 2 ^ 32) } }
  else if a = 0x0200050020 then
    { s with xn := { s.xn with mcycleH := BitVec.ofNat 32 (s.xn.mcycle.toNat / 2 ^ 32) } }
  else if a = 0x0200020040 then (readEvt0 0 s).2
  else if a = 0x0200030040 then (readEvt0 1 s).2
  else if a = 0x0200040040 then (readEvt0 2 s).2
  else if a = 0x0200090020 then
    match s.brg.log with
    | [] => { s with brg := { s.brg with err := Vector.replicate 3 0 } }
    | e :: r => { s with brg := { s.brg with log := r, err := #v[e.w1, e.w2, e.w3] } }
  else s

end Sys2Proof.Machine
end

