-- ==== Sys2Proof/Machine/BrgOps.lean ====
section
/-! DEFINITION. The far side of the service bridge: what its blocks read and take (R350, R357, R396, R403, R426), and
the bridge's regions, tags, semaphores, line buffers and error log (R364-R377). -/

namespace Sys2Proof.Machine

/-- The bridge changed. -/
def setBrg (f : Brg → Brg) (s : State) : State := { s with brg := f s.brg }

/-- The answer of a fabric target: data, a bus error, a wait for the far side, or an STX without its reservation. -/
inductive BusReply where
  | done (v : Nat)
  | err
  | wait
  | exclFail
deriving DecidableEq, Repr

/-- Master code of CTU_BERRH for a beat: the voted lanes, the lane in 1oo1, a core in WIDE. -/
def masterCode (s : State) (m : Option (Fin 8)) : Nat :=
  match m with
  | some k => k.val + 1
  | none => if s.vrc.mode = .oo1 then 9 else 0

/-- A bus error response is logged, counted and recorded (R202). -/
def busError (kind master : Nat) (wr : Bool) (a : Nat) (s : State) : State :=
  let c := { s.clk with berrAddr := BitVec.ofNat 40 a, berrValid := true, berrMaster := master, berrWr := wr
                        berrKind := kind, berrCount := inc32 s.clk.berrCount }
  raise 69 (record 2 0x0021 (berrHigh c) (a % 2 ^ 32) (s.tim.frc.toNat % 2 ^ 32) { s with clk := c })

/-! ### Registers of the far side -/

/-- KLM (R396): stage words and state; verdict words and mailbox words read 0. -/
def klmRead (s : State) (o : Nat) : Nat :=
  if o = 0 then idWord s 0x4B4D
  else if h : 0x100 ≤ o ∧ o < 0x120 ∧ o % 4 = 0 then (s.kiln.stage[(o - 0x100) / 4]).toNat
  else if o = 0x140 then b2n s.kiln.applied * 4 + b2n s.kiln.verd * 2 + b2n s.kiln.staged.isSome
  else 0

/-- The KLM output is high while PEND = 1 and VERD = 0 (R397). -/
def klmOut (s : State) : Bool := s.kiln.staged.isSome && !s.kiln.verd

/-- REC (R426). -/
def recRead (s : State) (o : Nat) : Nat :=
  let r := s.recd
  if o = 0x00 then idWord s 0x5245
  else if o = 0x04 then b2n r.headValid * 2 ^ 31 + b2n r.sherdFull * 65536 + r.headIndex
  else if o = 0x08 then r.headSeq
  else if o = 0x0C then lo32 r.optime
  else if o = 0x10 then r.optimeH
  else if o = 0x14 then r.pwrcyc
  else if o = 0x18 then r.peak * 2 ^ 24 + r.loss * 256 + r.fifo.length
  else if o = 0x1C then r.lost
  else if o = 0x20 then r.written
  else if o = 0x40 then r.evRes
  else 0

/-- CPN registers (R358). -/
def cpnRead (s : State) (o : Nat) : Nat :=
  let c := s.cpn
  if o = 0 then idWord s 0x4350
  else if o = 4 then c.dupl * 65536 + c.wrong * 256 + b2n c.prp * 32 + c.spd[1] * 4 + c.spd[0]
  else 0

/-- CFD registers (R358). -/
def cfdRead (s : State) (o : Nat) : Nat :=
  let f (c : CanChan) : Nat := min 255 c.tec * 2 ^ 24 + min 255 c.recc * 65536 + c.nmt * 256 + c.bus
  if o = 0 then idWord s 0x4346
  else if o = 4 then f s.cfd.chans[0]
  else if o = 8 then f s.cfd.chans[1]
  else 0

/-- A far-side read of `n` octets: the value, and the state it leaves. DBG reads 0 (R403); PRM has no register the
spec gives; the parameter window's layout is not stated, so its octets are free values (log 3). -/
def farRead (a n : Nat) (s : State) : Nat × State :=
  let o := a % 65536
  if a < 0x0300010000 then (klmRead s o, s)
  else if a < 0x0300020000 then
    (recRead s o, if o = 0x0C then { s with recd := { s.recd with optimeH := s.recd.optime / 2 ^ 32 % 65536 } } else s)
  else if a < 0x0300028000 then (cpnRead s o, s)
  else if a < 0x0300030000 then (leNat (memRead s.vmem a n), s)
  else if a < 0x0300038000 then (cfdRead s o, s)
  else if a < 0x0300040000 then (leNat (memRead s.vmem a n), s)
  else if a < 0x0300060000 then (0, s)
  else if a < 0x0300400000 then (leNat (memRead s.recd.mram a n), s)
  else
    let (w1, s1) := drawWord s
    let (w2, s2) := drawWord s1
    ((w1.toNat + w2.toNat * 2 ^ 64) % 2 ^ (8 * n), s2)

/-- TPDO `n` of a channel is sent with its buffer as it stands (R357), in the operational state on a running bus. -/
def sendTpdo (ch : Fin 2) (n : Fin 8) (s : State) : State :=
  let c := s.cfd.chans[ch]
  let base := 0x0300038000 + 0x800 * ch.val + 0x400 + 0x80 * n.val
  let cob := par s (0x1800 + 8 * ch.val + n.val) 1
  if c.nmt = 2 ∧ c.bus < 2 ∧ cob < 2 ^ 31 then
    { s with cfd := { s.cfd with chans := vmod s.cfd.chans ch (fun x =>
      { x with tpdos := inc32 x.tpdos
               lastTpdo := some (n.val, memRead s.vmem (base + 16) (min 64 (leNat (memRead s.vmem (base + 14) 1)))) }) } }
  else s

/-- CFD_TPDOTRIG (R357). -/
def tpdoTrig (v : Nat) (s : State) : State :=
  (allFin 8).foldl (fun t n =>
    let t1 := if v.testBit n.val then sendTpdo 0 n t else t
    if v.testBit (8 + n.val) then sendTpdo 1 n t1 else t1) s

/-- A consist transmit slot whose SEQ changed is sent (R345, R350). -/
def cpnSend (m : Nat) (s : State) : State :=
  let base := 0x030002A000 + 0x800 * m
  let len := leNat (memRead s.vmem (base + 4) 2)
  if 14 ≤ len ∧ len ≤ 1514 then
    { s with cpn := { s.cpn with lastTx := memRead s.vmem (base + 32) len } }
  else s

/-- A write of KLM_VERDICT m; word 7 completes the verdict of the record staged (R397). -/
def verdictWrite (m : Fin 8) (v : Reg32) (s : State) : State :=
  { s with kiln := { s.kiln with
    verdict := s.kiln.verdict.set m.val v m.isLt
    verd := s.kiln.verd || (decide (m = 7) && s.kiln.staged.isSome) } }

/-- A write of a REC_EV word; REC_EV3 submits the event (R426). -/
def recEvWrite (m : Nat) (v : Reg32) (s : State) : State :=
  if h : m < 3 then { s with recd := { s.recd with ev := s.recd.ev.set m v h } }
  else
    let e := s.recd.ev
    let code := e[0].toNat % 65536
    let src := if 0x8100 ≤ code ∧ code ≤ 0x8FFF then 10 else 9
    let (r, res) := submitEvent s.recd src (masterCode s none) code e[1].toNat e[2].toNat v.toNat
    { s with recd := { r with evRes := res } }

/-- A far-side write of octets under byte enables: the state, or none where the target refuses it (R368). Registers
reserved for Executive refuse an Application-level write (R108). -/
def farWrite (a : Nat) (be : BitVec 16) (d : BitVec 128) (exec : Bool) (s : State) : Option State :=
  let blk := a / 16 * 16
  let word := BitVec.ofNat 32 (d.toNat / 2 ^ (8 * (a % 16)))
  let o := a % 65536
  if a < 0x0300010000 then
    if h : 0x120 ≤ o ∧ o < 0x140 ∧ o % 4 = 0 then
      (if exec then some (verdictWrite ⟨(o - 0x120) / 4, by omega⟩ word s) else none)
    else some s
  else if a < 0x0300020000 then
    if 0x30 ≤ o ∧ o < 0x40 ∧ o % 4 = 0 then (if exec then some (recEvWrite ((o - 0x30) / 4) word s) else none)
    else some s
  else if a < 0x0300028000 then some s
  else if a < 0x030002A000 then some s
  else if a < 0x0300030000 then
    let s1 := { s with vmem := memWriteBe s.vmem blk be d 16 }
    let m := (a - 0x030002A000) / 0x800
    let seqOf (t : State) := memRead t.vmem (0x030002A000 + 0x800 * m) 4
    if m < 4 then (if seqOf s = seqOf s1 then some s1 else some (cpnSend m s1)) else some s
  else if a < 0x0300038000 then some (if o = 0x10 then tpdoTrig word.toNat s else s)
  else if a < 0x0300040000 then
    if a % 0x800 < 0x400 ∨ 0x0300039000 ≤ a then some s else some { s with vmem := memWriteBe s.vmem blk be d 16 }
  else if a < 0x0300050000 then none
  else if a < 0x0300060000 then some s
  else none

/-! ### Regions, tags and lines -/

/-- A region contains an address (R365). -/
def BrgRegion.has (r : BrgRegion) (a : Nat) : Bool :=
  r.attr.getLsbD 0 && decide (r.base.toNat / 4096 ≤ (a - 0x0300000000) / 4096) &&
    decide ((a - 0x0300000000) / 4096 ≤ r.lim.toNat / 4096)

/-- The region that decides an address: the highest-numbered enabled one (R365). -/
def brgRegion (b : Brg) (a : Nat) : Option (Fin 16) := (allFin 16).reverse.find? (fun n => (b.regions[n]).has a)

/-- Prefetchable, side effects, read-only (R365). -/
def brgPF (b : Brg) (a : Nat) : Bool :=
  match brgRegion b a with | some n => (b.regions[n]).attr.getLsbD 1 | none => false

def brgSE (b : Brg) (a : Nat) : Bool :=
  (brgRegion b a).isNone || (allFin 16).any (fun n => (b.regions[n]).has a && (b.regions[n]).attr.getLsbD 2)

def brgRO (b : Brg) (a : Nat) : Bool :=
  match brgRegion b a with | some n => (b.regions[n]).attr.getLsbD 3 | none => false

/-- The lowest tag that is free (R364). -/
def freeTag (b : Brg) : Option (Fin 64) :=
  (allFin 64).find? (fun t => b.posted.all (fun p => decide (p.tag ≠ t)) && b.reads.all (fun r => decide (r.tag ≠ t)))

/-- A line buffer goes: a word no read has taken, in a line of side effects, is logged (R377). -/
def dropLine (l : BrgLine) (s : State) : State :=
  let left := (List.range 16).find? (fun w => !l.taken.getLsbD w && brgSE s.brg (l.base + 4 * w))
  let s1 := setBrg (fun b => { b with lines := b.lines.filter (fun x => !decide (x.base = l.base)) }) s
  match left with
  | none => s1
  | some w =>
    let a := l.base + 4 * w
    let r := l.region
    let due := match s.brg.pfAt.toList.getD r none with
      | some t => decide (t + 1000 ≤ s.recd.optime)
      | none => true
    let s2 := raise 273 (setBrg (fun b => { b with pfAddr := BitVec.ofNat 40 a, pfValid := true, pfRegion := r
                                                   pfCount := inc16 b.pfCount }) s1)
    if h : due = true ∧ r < 16 then
      record 11 0x0031 r (a % 2 ^ 32) (a / 2 ^ 32)
        (setBrg (fun b => { b with pfAt := b.pfAt.set r (some s.recd.optime) h.2 }) s2)
    else s2

/-- Every line that satisfies a predicate goes. -/
def dropLines (p : BrgLine → Bool) (s : State) : State := (s.brg.lines.filter p).foldl (fun t l => dropLine l t) s

/-- Write error of the far side (R367, R369): an entry of the log, or counted where the log is full. -/
def farError (p : Posted) (status : Nat) (s : State) : State :=
  let w1 := 2 ^ 31 + masterCode s p.master * 2 ^ 24 + status * 65536 + p.tag.val * 256 + p.addr.toNat / 2 ^ 32
  let frc := s.tim.frc.toNat % 2 ^ 32
  let s1 := setBrg (fun b => { b with errCount := inc16 b.errCount }) s
  if s.brg.log.length < 16 then
    raise 272 (record 11 0x0030 w1 (p.addr.toNat % 2 ^ 32) frc
      (setBrg (fun b => { b with log := b.log ++ [⟨BitVec.ofNat 32 p.addr.toNat, BitVec.ofNat 32 w1,
        BitVec.ofNat 32 p.be.toNat, BitVec.ofNat 32 frc⟩] }) s1))
  else
    let n := inc16 s.brg.ovf
    let due := match s.brg.ovfAt with
      | some t => decide (t + 1000 ≤ s.recd.optime)
      | none => true
    let s2 := raise 274 (setBrg (fun b => { b with ovf := n }) s1)
    if due then record 11 0x0032 n 0 0 (setBrg (fun b => { b with ovfAt := some s.recd.optime }) s2) else s2

/-- A write by a master to a region takes the semaphore from another master (R373). -/
def semWrite (m : Option (Fin 8)) (a : Nat) (s : State) : State :=
  match brgRegion s.brg a with
  | none => s
  | some n =>
    match s.brg.sems[n] with
    | some h => if h = m then s else setBrg (fun b => { b with sems := b.sems.set n.val none n.isLt }) s
    | none => s

/-- A write by the Kiln to a region takes its semaphore from whoever holds it (R373). -/
def semKiln (a : Nat) (s : State) : State :=
  match brgRegion s.brg a with
  | none => s
  | some n => setBrg (fun b => { b with sems := b.sems.set n.val none n.isLt }) s

/-- An LDX takes the semaphore of its region (R373). -/
def semTake (m : Option (Fin 8)) (n : Fin 16) (s : State) : State :=
  let stolen : Nat := match s.brg.sems[n] with
    | some h => if h = m then 0 else 1
    | none => 0
  setBrg (fun b => { b with sems := b.sems.set n.val (some m) n.isLt, steal := satAdd 0xFFFF b.steal stolen }) s

/-- The block of an address in the service window whose power or clock is off: its KIND (R17, R363). -/
def farOff (s : State) (a : Nat) : Option Nat :=
  let off (pd : Nat) (ck : Nat) : Option Nat :=
    if s.pwr.on.getLsbD pd = false then some 2 else if s.clk.clken1.getLsbD ck = false then some 1 else none
  if s.pwr.on.getLsbD 11 = false then some 2
  else if s.clk.clken0.getLsbD 1 = false then some 1
  else if 0x0300020000 ≤ a ∧ a < 0x0300030000 then off 7 0
  else if 0x0300030000 ≤ a ∧ a < 0x0300040000 then off 9 1
  else if 0x0300040000 ≤ a ∧ a < 0x0300050000 then off 11 2
  else none

/-- Register blocks of the service window, which take word accesses only (R8, R125). -/
def farRegister (a : Nat) : Bool :=
  decide (a < 0x0300028000) || (decide (0x0300030000 ≤ a) && decide (a < 0x0300038000)) ||
    (decide (0x0300040000 ≤ a) && decide (a < 0x0300060000))

/-- A read that lies within a line buffer (R375). -/
def lineHit (b : Brg) (a n : Nat) : Option BrgLine :=
  if brgPF b a then b.lines.find? (fun l => decide (l.base ≤ a) && decide (a + n ≤ l.base + 64)) else none

/-- The words of a line that a read takes. -/
def takeWords (l : BrgLine) (a n : Nat) : BrgLine :=
  { l with taken := (List.range 16).foldl (fun m w =>
      if a < l.base + 4 * w + 4 ∧ l.base + 4 * w < a + n then putBit m w true else m) l.taken }

/-- Size in octets of a beat. -/
def beatSize (b : Beat) : Nat := 2 ^ (b.attr.extractLsb' 16 4).toNat

/-- An access of a master to the service window (R362-R366, R371-R375): refused at the bridge, served at once, or
forwarded with a tag; without a free tag it waits (R364). -/
def brgAccess (m : Option (Fin 8)) (b : Beat) (s : State) : BusReply × State :=
  let a := b.addr.toNat
  let n := beatSize b
  let wr := decide ((b.attr.extractLsb' 0 4).toNat = 2)
  let excl := b.attr.getLsbD 9
  let exec := b.attr.getLsbD 8
  let fail (k : Nat) : BusReply × State := (.err, busError k (masterCode s m) wr a s)
  match farOff s a with
  | some k => fail k
  | none =>
    if wr && brgRO s.brg a then fail 6
    else if farRegister a && decide (n ≠ 4) then fail 4
    else if excl && (brgRegion s.brg a).isNone then fail 3
    else if wr && excl then
      match brgRegion s.brg a with
      | none => fail 3
      | some r =>
        if s.brg.sems[r] = some m then
          match freeTag s.brg with
          | none => (.wait, setBrg (fun x => { x with waiting := x.waiting ++ [⟨m, b, s.tim.frc.toNat⟩] }) s)
          | some t =>
            (.wait, setBrg (fun x => { x with
              sems := x.sems.set r.val none r.isLt
              reads := x.reads ++ [{ tag := t, master := m, addr := b.addr, size := n, write := some (b.be, b.data)
                                     excl := true, exec := exec }] })
              (dropLines (fun l => decide (l.base < a + n) && decide (a < l.base + 64)) s))
        else (.exclFail, s)
    else if wr then
      match freeTag s.brg with
      | none => (.wait, setBrg (fun x => { x with waiting := x.waiting ++ [⟨m, b, s.tim.frc.toNat⟩] }) s)
      | some t =>
        let s1 := semWrite m a (dropLines (fun l => decide (l.base < a + n) && decide (a < l.base + 64)) s)
        (.done 0, setBrg (fun x => { x with
          posted := x.posted ++ [{ tag := t, master := m, addr := b.addr, be := b.be, data := b.data, exec := exec }] }) s1)
    else
      match (if excl then none else lineHit s.brg a n) with
      | some l =>
        (.done (leNat ((l.octets.drop (a - l.base)).take n)),
          setBrg (fun x => { x with lines := x.lines.map (fun y => if y.base = l.base then takeWords y a n else y) }) s)
      | none =>
        match freeTag s.brg with
        | none => (.wait, setBrg (fun x => { x with waiting := x.waiting ++ [⟨m, b, s.tim.frc.toNat⟩] }) s)
        | some t =>
          let s1 := if excl then
              (match brgRegion s.brg a with
              | some r => semTake m r s
              | none => s)
            else s
          (.wait, setBrg (fun x => { x with
            reads := x.reads ++ [{ tag := t, master := m, addr := b.addr, size := n, write := none, excl := excl
                                   exec := exec }] }) s1)

end Sys2Proof.Machine
end

