-- ==== Sys2Proof/Machine/Bus.lean ====
section
/-! DEFINITION. The fabric: what a beat that the voter lets through, or that a core sends in WIDE, does at its target
(R8, R17-R20, R44, R51, R67, R108, R128, R434). -/

namespace Sys2Proof.Machine

/-! ### Writes to the registers of the voted blocks -/

/-- The bits of a block's INTSTAT and INTEN that exist. -/
def intMask : Vector Nat 11 := #v[0x7F, 0xFF, 0xFFFF00FF, 0xFFFFFFFF, 0xFFFFFFFF, 0xFFFFFFFF, 0xFFF, 0x3FFFF, 0x3FF, 0xFF, 0xFFFF]

/-- W1C of a block's INTSTAT (R9). -/
def intClear (k : Fin 11) (v : Reg32) (s : State) : State :=
  { s with ints := vmod s.ints k (fun r => { r with stat := r.stat &&& ~~~v }) }

/-- A write of a block's INTEN. -/
def intEnable (k : Fin 11) (v : Reg32) (s : State) : State :=
  { s with ints := vmod s.ints k (fun r => { r with en := v &&& BitVec.ofNat 32 intMask[k] }) }

/-- A W1C of BRG_INTSTAT: a forwarded bit clears only if its block's output is low (R378). The spec gives no level of
the outputs of CPN, CFD and DBG: they are free values (log 3). -/
def brgIntClear (v : Reg32) (s : State) : State :=
  let (w, s1) := drawWord s
  let outs := (w &&& 0xE) ||| (if klmOut s then 1 else 0)
  intClear 9 (v &&& ~~~((outs.setWidth 32 &&& 0xF) <<< 4)) s1

/-- An enabled region covers a page between two addresses, given as offsets in the window. -/
def BrgRegion.covers (r : BrgRegion) (a : Nat) : Bool :=
  decide (r.base.toNat / 4096 ≤ (a - 0x0300000000) / 4096) && decide ((a - 0x0300000000) / 4096 ≤ r.lim.toNat / 4096)

/-- A write to a region's registers (R366): the line buffers of its old and its new range go. -/
def brgRegionSet (n : Fin 16) (w : RegionWord) (v : Reg32) (s : State) : State :=
  let old := s.brg.regions[n]
  let new : BrgRegion := match w with
    | .base => { old with base := v &&& 0xFFFFF000 }
    | .lim => { old with lim := v &&& 0xFFFFF000 }
    | .attr => { old with attr := v.setWidth 4 }
  dropLines (fun l => old.covers l.base || new.covers l.base)
    (setBrg (fun b => { b with regions := b.regions.set n.val new n.isLt }) s)

/-- The word of a region's registers at an offset. -/
def regionWord (o : Nat) : Option RegionWord :=
  if o % 16 = 0 then some .base else if o % 16 = 4 then some .lim else if o % 16 = 8 then some .attr else none

/-- CYS_QUIET (R152): acknowledges the coming gap. -/
def quietWrite (s : State) : State :=
  if s.cys.warned || s.cys.gap then
    { s with cys := { s.cys with ack := s.cys.ack || (s.cys.warned && !s.cys.gap), waiting := true } }
  else s

/-- CYS_DONE (R149, R156). -/
def doneWrite (v : Reg32) (s : State) : State :=
  let n := v.toNat
  cycleDone ⟨n % 8, by omega⟩ (n / 256 % 128) s

/-- A write to a field bank's registers (R265, R4). -/
def fbWrite (k : Fin 3) (m : Option (Fin 8)) (o : Nat) (v : Reg32) (s : State) : State :=
  if banksFitted s = false then s
  else if o = 0x20 then outWrite k m (v.setWidth 16) s
  else if o = 0x3C then fltclrWrite k (v.setWidth 16) s
  else if o = 0x54 then setBank k (fun b => { b with coRise := v.setWidth 16, coFall := v.extractLsb' 16 16 }) s
  else if o = 0x60 then intClear ⟨3 + k.val, by omega⟩ v s
  else if o = 0x64 then intEnable ⟨3 + k.val, by omega⟩ v s
  else s

/-- A write to the bridge's registers (R379). -/
def brgWrite (o : Nat) (v : Reg32) (s : State) : State :=
  if o = 0x40 then brgIntClear v s
  else if o = 0x44 then intEnable 9 v s
  else if h : 0x1A0 ≤ o ∧ o < 0x200 then
    (match regionWord o with
    | some w => brgRegionSet ⟨(o - 0x100) / 16, by omega⟩ w v s
    | none => s)
  else s

/-- A voted register is reserved for Executive (R108, R265, R379). -/
def execOnly (wr : Bool) (a : Nat) : Bool :=
  let blk := (a - 0x0200000000) / 65536
  let o := a % 65536
  (decide (2 ≤ blk ∧ blk ≤ 4) && (decide (o = 0x20) || decide (o = 0x3C))) ||
    (wr && decide (blk = 9) && decide (0x1A0 ≤ o ∧ o < 0x200) && (regionWord o).isSome)

/-- A write lies in a read-only window (R20, R307). -/
def readOnlyWindow (wide : Bool) (a : Nat) : Bool :=
  decide (0x0200050000 ≤ a ∧ a < 0x0200060000) && decide (a ≠ 0x0200050040) && decide (a ≠ 0x0200050044) &&
    !(wide && decide (xnTx ≤ a))

/-- A word written to a voted register (R9, R10, R20): the registers lanes may write, every other one ignored. -/
def voteWrite (m : Option (Fin 8)) (a : Nat) (v : Reg32) (s : State) : State :=
  let o := a % 65536
  let blk := (a - 0x0200000000) / 65536
  if blk = 0 then
    (if o = 0x40 then intClear 0 v s else if o = 0x44 then intEnable 0 v s
     else if o = 0x140 then intClear 1 v s else if o = 0x144 then intEnable 1 v s else s)
  else if blk = 1 then (if o = 0x40 then intClear 2 v s else if o = 0x44 then intEnable 2 v s else s)
  else if blk = 2 then fbWrite 0 m o v s
  else if blk = 3 then fbWrite 1 m o v s
  else if blk = 4 then fbWrite 2 m o v s
  else if blk = 5 then (if o = 0x40 then intClear 6 v s else if o = 0x44 then intEnable 6 v s else s)
  else if blk = 6 then (if o = 0x40 then intClear 7 v s else if o = 0x44 then intEnable 7 v s else s)
  else if blk = 7 then (if o = 0x40 then intClear 8 v s else if o = 0x44 then intEnable 8 v s else s)
  else if blk = 8 then
    (if o = 0x20 then doneWrite v s else if o = 0x24 then quietWrite s
     else if o = 0x40 then intClear 10 v s else if o = 0x44 then intEnable 10 v s else s)
  else if blk = 9 then brgWrite o v s
  else s

/-! ### Gating, buffers and single beats -/

/-- The KIND of the bus error of a voted block that is switched off or gated (R17, R203). -/
def voteOff (s : State) (a : Nat) : Option Nat :=
  let blk := (a - 0x0200000000) / 65536
  let gate (n : Nat) : Option Nat := if s.clk.clken0.getLsbD n then none else some 1
  if s.pwr.on.getLsbD 5 = false then some 2
  else if blk = 2 then gate 2 else if blk = 3 then gate 3 else if blk = 4 then gate 4
  else if blk = 5 then gate 5 else if blk = 6 then gate 6 else if blk = 7 then gate 0
  else if blk = 9 then (if s.pwr.on.getLsbD 11 = false then some 2 else gate 1)
  else none

/-- The buffers of XNB and LNC, which hold memory and no registers. -/
def votedBuffer (a : Nat) : Bool :=
  decide (0x0200052000 ≤ a ∧ a < 0x0200056000) || decide (0x0200059000 ≤ a ∧ a < 0x0200060000) ||
    decide (lncRx ≤ a ∧ a < 0x0200070000)

/-- A slot of the schedule window, with any grant (R282, R283, R307). -/
def slotOctets (x : Xenex) (i : Nat) : List Byte :=
  match x.slots[i]? with
  | none => List.replicate 16 0
  | some c =>
    leBytes 4 c.start ++ leBytes 1 c.kind ++ leBytes 1 (slotNode x i) ++ leBytes 1 c.tx ++ leBytes 1 c.rx ++
      leBytes 2 c.txOff ++ leBytes 2 c.rxOff ++ leBytes 1 c.guard ++ leBytes 1 (b2n c.input) ++ leBytes 2 0

/-- Octets of a voted buffer; an access lies within one slot entry. -/
def bufferOctets (s : State) (a n : Nat) : List Byte :=
  if 0x0200052000 ≤ a ∧ a < 0x0200056000 then
    ((slotOctets s.xn ((a - 0x0200052000) / 16)).drop (a % 16)).take n
  else vread s a n

/-- Master key of a reservation the shared buffers keep: a core in WIDE, 8 the voted lanes. -/
def masterKey (m : Option (Fin 8)) : Nat := match m with | some k => k.val | none => 8

/-- A write of the shared buffers by a master: reservations of the others on its block are lost (R128), the page is
marked, and the entry enters the forward FIFO of an integration (R326, R504). -/
def sharedWrite (m : Option (Fin 8)) (b : Beat) (s : State) : State :=
  let a := b.addr.toNat / 16 * 16
  let s1 := { s with
    vmem := memWriteBe s.vmem a b.be b.data 16
    vrc := { s.vrc with bufResv := s.vrc.bufResv.filter (fun r =>
      decide (r.1 = masterKey m) || decide (r.2 ≠ a / 16)) } }
  fwdPush 1 { addr := BitVec.ofNat 40 a, be := b.be, data := b.data } (markShared a 16 s1)

/-- A voted write to the LNC's transmit area; a slot whose SEQ changes is queued (R345, R346). -/
def lncBufferWrite (b : Beat) (s : State) : State :=
  let a := b.addr.toNat / 16 * 16
  lncCommitted s.vmem { s with vmem := memWriteBe s.vmem a b.be b.data 16 }

/-- Bytes of a beat: those enabled of a write, the size of a read, none of the others (R434). -/
def beatBytes (b : Beat) : Nat :=
  let ty := (b.attr.extractLsb' 0 4).toNat
  if ty = 2 then enabledBytes b.be
  else if ty = 1 then beatSize b else 0

/-- The bytes of a beat are counted. -/
def bwBeat (m : Option (Fin 8)) (b : Beat) (s : State) : State :=
  let n := beatBytes b
  let s1 := if m = none then bwCount 0 n s else s
  bwTarget b.addr.toNat n s1

/-- A single access to the shared buffers; LDX and STX beats set and use the reservation (R128). -/
def sharedAccess (m : Option (Fin 8)) (b : Beat) (s : State) : BusReply × State :=
  let a := b.addr.toNat
  let n := beatSize b
  let me := (masterKey m, a / 16)
  let others := s.vrc.bufResv.filter (fun r => decide (r.1 ≠ masterKey m))
  let excl := b.attr.getLsbD 9
  if (b.attr.extractLsb' 0 4).toNat = 2 then
    if excl then
      let held := decide (me ∈ s.vrc.bufResv)
      let s1 := { s with vrc := { s.vrc with bufResv := others } }
      if held then (.done 0, sharedWrite m b s1) else (.exclFail, s1)
    else (.done 0, sharedWrite m b s)
  else
    let v := leNat (vread s a n)
    if excl then (.done v, { s with vrc := { s.vrc with bufResv := me :: others } }) else (.done v, s)

/-- A single access to the voted blocks (R8, R17, R20, R108, R128). -/
def voteAccess (m : Option (Fin 8)) (b : Beat) (s : State) : BusReply × State :=
  let a := b.addr.toNat
  let n := beatSize b
  let wr := decide ((b.attr.extractLsb' 0 4).toNat = 2)
  let fail (k : Nat) : BusReply × State := (.err, busError k (masterCode s m) wr a s)
  match voteOff s a with
  | some k => fail k
  | none =>
    if b.attr.getLsbD 9 then fail 3
    else if !votedBuffer a && decide (n ≠ 4) then fail 4
    else if execOnly wr a && !b.attr.getLsbD 8 then fail 5
    else if wr && readOnlyWindow (decide (s.vrc.mode = .split)) a then fail 6
    else if wr then
      if lncTx ≤ a ∧ a < 0x0200070000 then (.done 0, lncBufferWrite b s)
      else if xnTx ≤ a ∧ a < 0x0200060000 then
        (.done 0, { s with vmem := memWriteBe s.vmem (a / 16 * 16) b.be b.data 16 })
      else if votedBuffer a then (.done 0, s)
      else (.done 0, voteWrite m a (BitVec.ofNat 32 (b.data.toNat / 2 ^ (8 * (a % 16)))) s)
    else if votedBuffer a then (.done (leNat (bufferOctets s a n)), s)
    else if 0x0200058000 ≤ a ∧ a < 0x0200059000 then (.done (leNat (vread s a 4)), s)
    else if a = 0x020009000C ∧ s.brg.posted.any (fun p => decide (p.master = m)) = true then (.wait, s)
    else (.done (voteRead s a), voteReadEffect a s)

/-- What a beat of an access or a barrier does at its target (R44, R67, R127). -/
def fabric (m : Option (Fin 8)) (b : Beat) (s : State) : BusReply × State :=
  let ty := (b.attr.extractLsb' 0 4).toNat
  let a := b.addr.toNat
  if ty ≠ 1 ∧ ty ≠ 2 then (.done 0, s)
  else
    let s1 := bwBeat m b s
    match regionOf (decide (s.vrc.mode = .split)) a with
    | .voted => voteAccess m b s1
    | .shared =>
      if s.pwr.on.getLsbD 5 = false then (.err, busError 2 (masterCode s m) (decide (ty = 2)) a s1)
      else sharedAccess m b s1
    | .service => brgAccess m b s1
    | _ => (.err, busError 3 (masterCode s m) (decide (ty = 2)) a s1)

/-- The beats of a write burst at its last beat (R51): each is applied in the shared buffers. -/
def applyBurst (m : Option (Fin 8)) (bs : List Beat) (s : State) : BusReply × State :=
  bs.foldl (fun (p : BusReply × State) b =>
    match p.1 with
    | .err => p
    | _ => fabric m b p.2) (.done 0, s)

/-- The response of a single access goes on its way back (R44, R125). -/
def pushResponse (m : Option (Fin 8)) (tag : Nat) (r : BusReply) (s : State) : State :=
  let put (d : BitVec 128) (e : Bool) : State :=
    { s with vrc := { s.vrc with responses := s.vrc.responses ++ [{ tag := tag, core := m, data := d, err := e }] } }
  match r with
  | .done v => put (BitVec.ofNat 128 v) false
  | .err => put 0 true
  | .exclFail => put 1 false
  | .wait => s

/-- A beat that the voter forwards, or a core's beat in WIDE: idle clocks and acknowledge beats are discarded, the
beats of a burst are kept until its last, and reserved types do nothing (R45, R51, R134). -/
def busForward (b : Beat) (core : Option (Fin 8)) (s : State) : State :=
  let len := (b.attr.extractLsb' 4 2).toNat + 1
  let idx := (b.attr.extractLsb' 6 2).toNat
  let ty := (b.attr.extractLsb' 0 4).toNat
  if b.attr.getLsbD 23 = false ∨ ty = 0 ∨ 3 < ty then s
  else if ty = 2 ∧ 1 < len then
    let mine := (s.vrc.burst.filter (fun p => decide (p.1 = core))).map (fun p => p.2)
    let rest := s.vrc.burst.filter (fun p => decide (p.1 ≠ core))
    let kept := (if idx = 0 then [] else mine) ++ [b]
    if idx + 1 = len then
      let (r, s1) := applyBurst core kept { s with vrc := { s.vrc with burst := rest } }
      pushResponse core (b.attr.extractLsb' 10 6).toNat r s1
    else { s with vrc := { s.vrc with burst := rest ++ kept.map (fun x => (core, x)) } }
  else
    let (r, s1) := fabric core b s
    pushResponse core (b.attr.extractLsb' 10 6).toNat r s1

end Sys2Proof.Machine
end

