-- ==== Sys2Proof/Machine/LocalRegs.lean ====
section
/-! DEFINITION. The lane-local registers of a core: LIC, LTM, LPC and LKS (R41, R133-R135, R159, R160, R430-R441). -/

namespace Sys2Proof.Machine

/-- Bits `32m` to `32m + 31` of a field. -/
def wordOf {w : Nat} (v : BitVec w) (m : Nat) : Nat := (v.extractLsb' (32 * m) 32).toNat

/-- `v` with word `m` replaced. -/
def putWord {w : Nat} (v : BitVec w) (m : Nat) (x : Reg32) : BitVec w :=
  (v &&& ~~~((BitVec.ofNat w 0xFFFFFFFF) <<< (32 * m))) ||| ((x.setWidth w) <<< (32 * m))

/-- Elapsed time in µs. -/
def elapsedUs (s : State) : Nat := s.tim.elapsed.toNat / 1000

/-- LIC (R133-R135). -/
def licRead (l : Lic) (o : Nat) : Nat :=
  if o < 0x30 then wordOf l.pend (o / 4)
  else if 0x40 ≤ o ∧ o < 0x70 then wordOf l.en ((o - 0x40) / 4)
  else if 0x100 ≤ o ∧ o < 0x1C0 then wordOf l.prio ((o - 0x100) / 4)
  else if o = 0x200 then l.levelReg
  else if o = 0x204 then l.claimReg
  else 0

/-- A write to LIC. -/
def licWrite (o : Nat) (v : Reg32) (c : Core) : Core :=
  let l := c.lic
  if o < 0x30 then
    { c with lic := { l with pend := l.pend &&& ~~~((v.setWidth 384) <<< (8 * o)) } }
  else if 0x40 ≤ o ∧ o < 0x70 then ({ c with lic := { l with en := putWord l.en ((o - 0x40) / 4) v } }).wake
  else if 0x100 ≤ o ∧ o < 0x1C0 then ({ c with lic := { l with prio := putWord l.prio ((o - 0x100) / 4) v } }).wake
  else if o = 0x208 then { c with lic := l.eoi }
  else if o = 0x20C then c.swset v.toNat
  else c

/-- A lane timer's control word. -/
def LaneTimer.ctl (t : LaneTimer) : Nat := b2n t.exp * 256 + b2n t.ie * 8 + b2n t.run * 4 + t.mode.toNat

/-- A timer runs only in modes 1 and 2. -/
def LaneTimer.live (m : BitVec 2) : Bool := decide (m = 1) || decide (m = 2)

/-- A write of LTM_TMRnCTL (R160): RUN = 1 starts from the preset, a preset of 0 expires at the next µs. -/
def LaneTimer.start (t : LaneTimer) (now : Nat) (v : Reg32) : LaneTimer :=
  let m := v.setWidth 2
  let on := v.getLsbD 2 && LaneTimer.live m
  { t with mode := m, ie := v.getLsbD 3, exp := t.exp && !v.getLsbD 8, run := on
           due := if on then now + max 1 t.preset.toNat else t.due }

/-- LTM (R159, R160). -/
def ltmRead (s : State) (c : Core) (o : Nat) : Nat :=
  if o = 0 then s.tim.elapsed.toNat % 2 ^ 32
  else if o = 4 then c.elapH.toNat
  else if h : 0x100 ≤ o ∧ o < 0x200 then
    let t := c.timers[(o - 0x100) / 16]
    if o % 16 = 0 then t.ctl else if o % 16 = 4 then t.preset.toNat
    else if o % 16 = 8 then (if t.run then t.due - elapsedUs s else 0) else 0
  else 0

/-- A write to LTM. -/
def ltmWrite (s : State) (o : Nat) (v : Reg32) (c : Core) : Core :=
  if h : 0x100 ≤ o ∧ o < 0x200 then
    let n : Fin 16 := ⟨(o - 0x100) / 16, by omega⟩
    if o % 16 = 0 then { c with timers := vmod c.timers n (fun t => t.start (elapsedUs s) v) }
    else if o % 16 = 4 then { c with timers := vmod c.timers n (fun t => { t with preset := v }) }
    else c
  else c

/-- LPC (R430-R441). -/
def lpcRead (s : State) (p : Lpc) (o : Nat) : Nat :=
  if o = 0x00 then b2n p.derr * 2 + b2n p.gen
  else if o = 0x04 then p.ovf.toNat
  else if o = 0x08 then p.ien.toNat
  else if o = 0x10 then p.dumpAddr.toNat
  else if o = 0x14 then p.dumpPer.toNat
  else if o = 0x18 then p.dumpSeq
  else if h : 0x100 ≤ o ∧ o < 0x140 then (p.evsel[(o - 0x100) / 4]).toNat
  else if h : 0x200 ≤ o ∧ o < 0x280 then
    (if o % 8 = 0 then (p.cnt[(o - 0x200) / 8]).toNat % 2 ^ 32 else (p.readH[(o - 0x200) / 8]).toNat)
  else if h : 0x300 ≤ o ∧ o < 0x340 then
    (if o % 8 = 0 then (s.bw[(o - 0x300) / 8]).last else (s.bw[(o - 0x300) / 8]).max_)
  else if o = 0x340 then par s 0x2900 2
  else if h : 0x800 ≤ o ∧ o < 0x840 then (p.cnt[(o - 0x800) / 4]).toNat % 2 ^ 32
  else if o = 0x840 then p.v2ovf.toNat
  else 0

/-- A write to LPC (R432, R441). -/
def lpcWrite (o : Nat) (v : Reg32) (p : Lpc) : Lpc :=
  if o = 0x00 then { p with gen := v.getLsbD 0, derr := p.derr && !v.getLsbD 1 }
  else if o = 0x04 then { p with ovf := p.ovf &&& ~~~(v.setWidth 16) }
  else if o = 0x08 then { p with ien := v.setWidth 16 }
  else if o = 0x10 then { p with dumpAddr := v }
  else if o = 0x14 then { p with dumpPer := v }
  else if h : 0x100 ≤ o ∧ o < 0x140 then
    { p with evsel := p.evsel.set ((o - 0x100) / 4) (v.setWidth 10) (by omega) }
  else if h : 0x200 ≤ o ∧ o < 0x280 then
    if o % 8 = 0 then
      { p with cnt := p.cnt.set ((o - 0x200) / 8) ((p.heldH[(o - 0x200) / 8]) ++ v) (by omega) }
    else { p with heldH := p.heldH.set ((o - 0x200) / 8) (v.setWidth 16) (by omega) }
  else if o = 0x840 then { p with v2ovf := p.v2ovf &&& ~~~(v.setWidth 16) }
  else p

/-- LKS: what may differ between lanes reads 0 in voted operation (R41). -/
def lksRead (s : State) (k : Fin 8) (o : Nat) : Nat :=
  let l := s.vrc.lanes[laneOf k]
  if s.vrc.mode ≠ .split then 0
  else if o = 0 then k.val * 2 + 1
  else if o = 4 then mmReg l
  else if o = 8 then l.ceDram * 65536 + l.ceSram
  else 0

/-- A word of the lane-local registers as core `k` reads it. -/
def localRead (s : State) (k : Fin 8) (a : Nat) : Nat :=
  let c := s.cores[k]
  (if a < 0x101004000 then licRead c.lic (a - 0x101000000)
  else if a < 0x101008000 then ltmRead s c (a - 0x101004000)
  else if a < 0x10100C000 then lpcRead s c.lpc (a - 0x101008000)
  else lksRead s k (a - 0x10100C000)) % 2 ^ 32

/-- What a read leaves behind: the latches of LTM_ELAPH and LPC_CNTnH. -/
def localReadEffect (s : State) (a : Nat) (c : Core) : Core :=
  if a = 0x101004000 then { c with elapH := BitVec.ofNat 32 (s.tim.elapsed.toNat / 2 ^ 32) }
  else if h : 0x101008200 ≤ a ∧ a < 0x101008280 then
    if a % 8 = 0 then
      { c with lpc := { c.lpc with
        readH := c.lpc.readH.set ((a - 0x101008200) / 8) ((c.lpc.cnt[(a - 0x101008200) / 8]).extractLsb' 32 16) (by omega) } }
    else c
  else c

/-- A word written to the lane-local registers. -/
def localWrite (s : State) (a : Nat) (v : Reg32) (c : Core) : Core :=
  if a < 0x101004000 then licWrite (a - 0x101000000) v c
  else if a < 0x101008000 then ltmWrite s (a - 0x101004000) v c
  else if a < 0x10100C000 then { c with lpc := lpcWrite (a - 0x101008000) v c.lpc }
  else c

end Sys2Proof.Machine
end

