-- ==== Sys2Proof/Machine/Y64Ops.lean ====
section
/-! DEFINITION. How the lanes run one instruction: the cores that run it, store and combining buffers on their way
out, the vote on what leaves the lanes, and taking an exception (R105-R136, R83, R124, R125). -/

namespace Sys2Proof.Machine

/-- The cores that run the stream (R44, R57, R67): in voted operation core P of every ACTIVE lane, in 1oo1 that of the
lane selected, in WIDE the core named; none while the lanes are held. -/
def execCores (k : Fin 8) (s : State) : List (Fin 8) :=
  match s.vrc.mode with
  | .split => if (s.vrc.lanes[laneOf k]).stopped then [] else [k]
  | .oo1 => [coreP s.vrc.svc]
  | .oo3 | .oo2 => (activeLanes s).map coreP
  | .none => []

/-- In WIDE an access has its core as master; in voted operation the lanes are one master. -/
def masterOf (k : Fin 8) (s : State) : Option (Fin 8) := if s.vrc.mode = .split then some k else none

/-- Core S follows core P of the same lane, two core clocks later (R35, R36). -/
def mirrorShadow (s : State) : State :=
  if s.vrc.mode = .split then s
  else { s with cores := (allFin 4).foldl (fun v l => v.set (coreS l).val v[coreP l] (coreS l).isLt) s.cores }

/-- One core changed. -/
def setCore (k : Fin 8) (f : Core → Core) (s : State) : State := { s with cores := vmod s.cores k f }

/-- Every core that runs the stream changed. -/
def mapCores (ks : List (Fin 8)) (f : Core → Core) (s : State) : State := ks.foldl (fun t i => setCore i f t) s

/-- The store buffer does not drain while a MIRROR_HOLD is asserted (R85, R123, R326). -/
def drainHeld (s : State) : Bool := s.rot.hold || s.twl.fwdHold

/-! ### Buffers on their way out -/

/-- A mirror entry as the mirror voter compares it: groups 0-11, group 12 taken as 0 (R83). -/
def entryInput (e : Option MirrorEntry) : LaneInput :=
  match e with
  | some e => .beat { data := e.data, be := e.be, addr := e.addr, attr := 0 }
  | none => .beat {}

/-- The oldest entry of each running core's store buffer reaches its lane memory; in voted operation the entries pass
the mirror voter (R83, R84, R123). -/
def drainOne (k : Fin 8) (s : State) : State :=
  let ks := execCores k s
  let head (i : Fin 8) : Option MirrorEntry := (s.cores[i]).sbuf.head?
  let s1 := ks.foldl (fun t i =>
    match head i with
    | some e =>
      setCore i (fun c => { c with sbuf := c.sbuf.drop 1 })
        { t with mems := t.mems.set i.val (memWriteBe t.mems[i] e.addr.toNat e.be e.data 16) i.isLt }
    | none => t) s
  match s.vrc.mode with
  | .oo3 | .oo2 =>
    let v := decide3 (fun l => entryInput (head (coreP l))) (activeLanes s)
    let a := match ks with
      | i :: _ => (match head i with | some e => e.addr.toNat | none => 0)
      | [] => 0
    let s2 := mirrorDisagree v (a % 2 ^ 32) (a / 2 ^ 32) s1
    (match v with
    | .forward b => mirrorPush { addr := b.addr, be := b.be, data := b.data } s2
    | .minority _ _ _ b => mirrorPush { addr := b.addr, be := b.be, data := b.data } s2
    | _ => s2)
  | _ => s1

/-- `n` entries drain. -/
def drainBuf (k : Fin 8) : Nat → State → State
  | 0, s => s
  | n + 1, s => drainBuf k n (drainOne k s)

/-- The beat a running core presents at one clock; the others are idle (R46). -/
def presented (s : State) (f : Fin 8 → Option Beat) (l : Fin 4) : LaneInput :=
  if laneState s l = .active ∨ s.vrc.mode = .oo1 then
    match f (coreP l) with
    | some b => .beat b
    | none => .beat {}
  else .beat {}

/-- The beats presented at one clock are voted; the beat that goes on (R48, R67). -/
def voteBeats (k : Fin 8) (f : Fin 8 → Option Beat) (s : State) : Option Beat × State :=
  if s.vrc.mode = .split then (f k, s)
  else voteClock (presented s f) s

/-- The beats of a burst, one clock after another; what the voter let through (R49-R52). -/
def voteBurst (k : Fin 8) (bs : Fin 8 → List Beat) : Nat → State → List Beat × State
  | 0, s => ([], s)
  | n + 1, s =>
    match voteBeats k (fun i => (bs i).head?) s with
    | (none, s1) => ([], s1)
    | (some b, s1) =>
      let (r, s2) := voteBurst k (fun i => (bs i).drop 1) n s1
      (b :: r, s2)

/-- The combining buffer goes as one burst (R124); a bus error is pending as an imprecise one (R131). -/
def flushCombine (k : Fin 8) (s : State) : State :=
  let ks := execCores k s
  let bs (i : Fin 8) : List Beat :=
    let c := s.cores[i]
    match c.cbuf with
    | some x => burstBeats x c.tag.toNat c.exec
    | none => []
  let n := (ks.map (fun i => (bs i).length)).foldl max 0
  if n = 0 then s
  else
    let base := match ks with
      | i :: _ => (match (s.cores[i]).cbuf with | some x => x.base | none => 0)
      | [] => 0
    let s1 := mapCores ks (fun c =>
      if c.cbuf.isSome then ({ c with cbuf := none, tag := c.tag + 1 }).event 0x10 1 else c) s
    let (out, s2) := voteBurst k bs n s1
    if out.length < n then s2
    else
      let (r, s3) := applyBurst (masterOf k s2) (out.filter (fun b => b.attr.getLsbD 23)) s2
      if r = .err then mapCores (execCores k s3) (fun c => { c with imprecise := some (BitVec.ofNat 40 base) }) s3
      else s3

/-! ### What an instruction does in one core -/

/-- The effect of an instruction in one core. -/
inductive Act where
  /-- Entries of the store buffer drain first, or the combining buffer goes first; then the instruction is looked at
  again. -/
  | need (drain : Nat) (flush : Bool)
  | done (c : Core)
  /-- An exception: cause, ARG, CW_BADADDR. -/
  | trap (code arg : Nat) (bad : Option Reg64)
  /-- An access under R125, and what its answer does. -/
  | access (x : Access) (exec : Bool) (p : PendAcc)
  /-- A bus error that no beat leads to: a lane-local register met with a wrong size or as LDX or STX. -/
  | busErr (kind a : Nat) (store : Bool)
  /-- A cache-lock operation, which the spare repeats (R83, R122). -/
  | lock (c : Core)

/-- The instruction retires and the program counter goes on to an address. -/
def Core.retireAt (c : Core) (pc : Reg64) : Core :=
  { (c.event 0x02 1).setWord 11 (c.word 11 + 1) with pc := pc }

/-- The instruction retires. -/
def Core.retire (c : Core) : Core := c.retireAt (c.pc + 4)

/-- The value a load took reaches its registers (R106, R115). -/
def Core.loaded (c : Core) (op : LoadOp) (d : Fin 32) (v : Nat) : Core :=
  match op with
  | .flw | .fld => c.setF d (loadValue op v)
  | .ldp => (c.setX d (loadValue op v)).setX (d + 1) (BitVec.ofNat 64 (v / 2 ^ 64))
  | _ => c.setX d (loadValue op v)

/-- The granule of an address (R128). -/
def granule (a : Nat) : Nat := a / 16

/-- A good answer reaches the instruction that waits for it (R125, R128). -/
def Core.answered (c : Core) (p : PendAcc) (a v : Nat) : Core :=
  let c1 := { c with pend := none }
  match p with
  | .load op d => (c1.loaded op d v).retire
  | .store => c1.retire
  | .ldx dbl d =>
    ({ c1 with resv := some (granule a) }.setX d
      (if dbl then BitVec.ofNat 64 v else sextW (BitVec.ofNat 32 v))).retire
  | .stx d => ({ c1 with resv := none }.setX d 0).retire
  | .sync d => (c1.setX d (BitVec.ofNat 64 (v % 2 ^ 32))).retire

/-- An access is a store: causes 6, 8 and 10 instead of 5, 7 and 9 (R130). -/
def PendAcc.isStore : PendAcc → Bool
  | .store | .stx _ => true
  | _ => false

/-- The answer of the fabric to an access (R125, R128, R130). -/
def Core.answer (c : Core) (p : PendAcc) (a : Nat) (r : BusReply) : Core :=
  match r with
  | .done v => c.answered p a v
  | .err => { c with pend := none }.raiseExc (if p.isStore then 10 else 9) 0 (some (BitVec.ofNat 64 a))
  | .exclFail =>
    match p with
    | .stx d => ({ c with pend := none, resv := none }.setX d 1).retire
    | _ => { c with pend := none }.retire
  | .wait => { c with pend := some p }

/-- An access leaves: the tag counter advances, and the event of its target is counted (R125, R431). -/
def Core.issued (c : Core) (x : Access) : Core :=
  let c1 := { c with tag := c.tag + 1 }
  if x.ty = .barrier ∨ x.ty = .ack then c1
  else if 0x300000000 ≤ x.addr then c1.event 0x0A 1
  else if 0x200000000 ≤ x.addr then c1.event 0x09 1
  else c1

/-- The exception of an act in a core: the combining buffer has gone (R132). -/
def trapCore (code arg : Nat) (bad : Option Reg64) (c : Core) : Core := c.raiseExc code arg bad

/-- A cache-lock operation reaches the spare (R83, R122): its control words 13-15, and the locked ways filled from its
own memory. -/
def spareLock (lead : Fin 8) (s : State) : State :=
  match spareLane s with
  | none => s
  | some l =>
    let c := s.cores[lead]
    let m := s.mems[coreP l]
    let fill (lock : Nat) (ls : List CacheLine) : List CacheLine :=
      (lockedLines lock ls).map (fun x => { x with data := memRead m (x.tag * 8192 + x.set * 64) 64 })
    let f (d : Core) : Core :=
      { ((d.setWord 13 (c.word 13)).setWord 14 (c.word 14)).setWord 15 (c.word 15) with
        icache := fill (c.word 14).toNat c.icache, dcache := fill (c.word 15).toNat c.dcache }
    { s with cores := vmod (vmod s.cores (coreP l) f) (coreS l) f }

/-- A pending imprecise bus error is taken (R131): cause 11 with the burst's address. -/
def takeImprecise (c : Core) : Core :=
  match c.imprecise with
  | some a => { c with imprecise := none }.raiseExc 11 0 (some (a.setWidth 64))
  | none => c

/-- The beat of an act. -/
def Act.beat (c : Core) : Act → Option Beat
  | .access x e _ => some (x.beat c.tag.toNat e)
  | _ => none

/-- The part of an act that needs no answer. -/
def actCore (a : Act) (c : Core) : Core :=
  match a with
  | .done d => d
  | .lock d => d
  | .trap code arg bad => trapCore code arg bad c
  | .busErr _ x st => c.raiseExc (if st then 10 else 9) 0 (some (BitVec.ofNat 64 x))
  | _ => c

/-- An exception sends the combining buffer (R124, R132). -/
def actFlush (s : State) (k : Fin 8) (a : Act) : State :=
  match a with
  | .trap _ _ _ => flushCombine k s
  | .busErr _ _ _ => flushCombine k s
  | _ => s

/-- The acts of the running cores, once nothing has to go first (R48, R125). -/
def runActs (k : Fin 8) (act : State → Fin 8 → Act) (s0 : State) : State :=
  let ks := execCores k s0
  let as_ := ks.map (fun i => (i, act s0 i))
  let s := match as_ with
    | (_, a) :: _ => actFlush s0 k a
    | [] => s0
  let s1 := as_.foldl (fun t p => setCore p.1 (actCore p.2) t) s
  let s2 := match as_ with
    | (i, .lock _) :: _ => spareLock i s1
    | (i, .busErr kind a st) :: _ => busError kind (masterCode s1 (masterOf i s1)) st a s1
    | _ => s1
  let f (i : Fin 8) : Option Beat :=
    match as_.find? (fun p => decide (p.1 = i)) with
    | some (_, a) => a.beat s0.cores[i]
    | none => none
  if as_.all (fun p => (f p.1).isNone) then s2
  else
    let s3 := as_.foldl (fun t p =>
      match p.2 with
      | .access x _ _ => setCore p.1 (fun c => c.issued x) t
      | _ => t) s2
    match voteBeats k f s3 with
    | (none, s4) => s4
    | (some b, s4) =>
      let (r, s5) := if b.attr.getLsbD 23 then fabric (masterOf k s4) b s4 else (.done 0, s4)
      as_.foldl (fun t p =>
        match p.2 with
        | .access x _ pd => if p.1 ∈ execCores k t then setCore p.1 (fun c => c.answer pd x.addr r) t else t
        | _ => t) s5

/-- What has to go first does, unless a hold keeps it back: none then (R85, R123, R124). -/
def runNeeds (k : Fin 8) (act : State → Fin 8 → Act) (s : State) : Option State :=
  match execCores k s with
  | [] => none
  | i :: _ =>
    match act s i with
    | .need n fl =>
      if decide (0 < n) && drainHeld s then none
      else some (if fl then flushCombine k (drainBuf k n s) else drainBuf k n s)
    | _ => some s

/-- A core can take up an instruction: not halted (R404) or let step by the debugger (R405), not waiting in WFI or for
the bridge. -/
def Core.ready (c : Core) : Bool := (!c.halted || decide (0 < c.steps)) && !c.wfi && c.pend.isNone

/-- A step of the debugger is used up. -/
def Core.stepped (c : Core) : Core := { c with steps := c.steps - 1 }

/-- The instruction at PC may be fetched: of R107, R119 and R129; the access passes the I-cache (R122). -/
def fetchFirst (act : State → Fin 8 → Act) (s : State) (i : Fin 8) : Act :=
  let c := s.cores[i]
  if fetchable (decide (s.vrc.mode = .split)) c then act s i else .trap 4 0 (some c.pc)

/-- The I-cache sees the fetch. -/
def fetchAll (ks : List (Fin 8)) (s : State) : State :=
  ks.foldl (fun t i => setCore i (fun c => c.fetched t.mems[i]) t) s

/-- One instruction of the stream (R105-R131): a pending imprecise bus error goes ahead of it. -/
def runInstr (k : Fin 8) (act : State → Fin 8 → Act) (s : State) : State :=
  let ks := execCores k s
  if ks.all (fun i => (s.cores[i]).ready) = false ∨ ks = [] then s
  else if ks.any (fun i => (s.cores[i]).imprecise.isSome) then
    mirrorShadow (mapCores ks takeImprecise (flushCombine k s))
  else
    let a := fetchFirst act
    match runNeeds k a (fetchAll ks s) with
    | none => s
    | some s1 =>
      match runNeeds k a s1 with
      | none => s
      | some s2 => mirrorShadow (mapCores ks Core.stepped (runActs k a s2))

/-! ### Loads and stores -/

/-- The exception of a data access before any beat: alignment, then bits [63:40] and protection (R107, R118, R129,
R131). -/
def dataTrap (c : Core) (exec : Bool) (a : Reg64) (n : Nat) (st : Bool) : Option Act :=
  let v := a.toNat
  if v % n ≠ 0 then some (.trap (if st then 6 else 5) 0 (some a))
  else if 2 ^ 40 ≤ v ∨ (!exec && !permitted c v (if st then 1 else 0)) = true then
    some (.trap (if st then 8 else 7) 0 (some a))
  else none

/-- Is the region one a combining buffer must be sent for (R124)? -/
def Region.isFabric : Region → Bool
  | .shared | .voted | .service | .reserved => true
  | _ => false

/-- A load of `n` octets (R118-R125). -/
def loadAct (s : State) (k : Fin 8) (exec : Bool) (a : Reg64) (op : LoadOp) (d : Fin 32) : Act :=
  let c := s.cores[k]
  let n := loadSize op
  let v := a.toNat
  match dataTrap c exec a n false with
  | some t => t
  | none =>
    match regionOf (decide (s.vrc.mode = .split)) v with
    | .dram | .sram =>
      let q := drainFor c.sbuf v n
      if q ≠ 0 then .need q false
      else
        let (bs, c1) := c.loadMem s.mems[k] v n
        .done (c1.loaded op d (leNat bs)).retire
    | .lic | .ltm | .lpc | .lks =>
      if n ≠ 4 then .busErr 4 v false
      else .done ((localReadEffect s v c).loaded op d (localRead s k v)).retire
    | _ =>
      if c.cbuf.isSome then .need 0 true
      else .access { ty := .read, addr := v, size := n } exec (if v = 0x20009000C then .sync d else .load op d)

/-- A store of `n` octets (R118-R125): `v` is the value. -/
def storeAct (s : State) (k : Fin 8) (exec : Bool) (a : Reg64) (n v : Nat) : Act :=
  let c := s.cores[k]
  let w := a.toNat
  match dataTrap c exec a n true with
  | some t => t
  | none =>
    match regionOf (decide (s.vrc.mode = .split)) w with
    | .dram | .sram =>
      let e := blockOf w n v
      if c.sbuf.any (fun x => decide (x.addr = e.addr)) = false ∧ 8 ≤ c.sbuf.length then .need 1 false
      else
        let r := if c.resv = some (granule w) then none else c.resv
        .done ({ c with sbuf := pushStore c.sbuf e, resv := r, dcache := c.dcache.map (lineStore e) }).retire
    | .lic | .ltm | .lpc | .lks =>
      if n ≠ 4 then .busErr 4 w true
      else .done (localWrite s w (BitVec.ofNat 32 v) c).retire
    | .shared =>
      if (match c.cbuf with | some x => decide (x.base ≠ w / 64 * 64) | none => false) then .need 0 true
      else .done ({ c with cbuf := some (combineStore c.cbuf w n v) }).retire
    | _ =>
      if c.cbuf.isSome then .need 0 true
      else .access { ty := .write, addr := w, size := n, value := v } exec .store

/-- LDX (R128). -/
def ldxAct (s : State) (k : Fin 8) (dbl : Bool) (d : Fin 32) (a : Reg64) : Act :=
  let c := s.cores[k]
  let n := if dbl then 8 else 4
  let v := a.toNat
  match dataTrap c c.exec a n false with
  | some t => t
  | none =>
    match regionOf (decide (s.vrc.mode = .split)) v with
    | .dram | .sram =>
      let q := drainFor c.sbuf v n
      if q ≠ 0 then .need q false
      else
        let (bs, c1) := c.loadMem s.mems[k] v n
        .done (c1.answered (.ldx dbl d) v (leNat bs))
    | .lic | .ltm | .lpc | .lks => .busErr 3 v false
    | _ =>
      if c.cbuf.isSome then .need 0 true
      else .access { ty := .read, addr := v, size := n, excl := true } c.exec (.ldx dbl d)

/-- STX (R128, R374): without the core's own record no beat leaves. -/
def stxAct (s : State) (k : Fin 8) (dbl : Bool) (d : Fin 32) (a : Reg64) (val : Reg64) : Act :=
  let c := s.cores[k]
  let n := if dbl then 8 else 4
  let v := a.toNat
  let held := decide (c.resv = some (granule v))
  let failed : Act := .done ({ c with resv := none }.setX d 1).retire
  match dataTrap c c.exec a n true with
  | some t => t
  | none =>
    match regionOf (decide (s.vrc.mode = .split)) v with
    | .dram | .sram =>
      let e := blockOf v n val.toNat
      if held = false then failed
      else if c.sbuf.any (fun x => decide (x.addr = e.addr)) = false ∧ 8 ≤ c.sbuf.length then .need 1 false
      else .done ({ c with sbuf := pushStore c.sbuf e, dcache := c.dcache.map (lineStore e), resv := none }.setX d 0).retire
    | .lic | .ltm | .lpc | .lks => .busErr 3 v true
    | r =>
      if c.cbuf.isSome then .need 0 true
      else if (decide (r = .shared) || decide (r = .service)) && !held then failed
      else .access { ty := .write, addr := v, size := n, excl := true, value := val.toNat } c.exec (.stx d)

/-- A register read as the executive's LDWU at an address, into xd. -/
def readReg (k : Fin 8) (d : Fin 32) (a : Nat) (s : State) : State :=
  runInstr k (fun t i => loadAct t i true (BitVec.ofNat 64 a) .ldwu d) s

/-- A register write as the executive's STW at an address. -/
def writeReg (k : Fin 8) (a : Nat) (v : Reg32) (s : State) : State :=
  runInstr k (fun t i => storeAct t i true (BitVec.ofNat 64 a) 4 v.toNat) s

end Sys2Proof.Machine
end

