-- ==== Sys2Proof/Machine/ExecOps.lean ====
section
/-! DEFINITION. The lane executive as the spec describes it (R151-R154, R171-R173): whose code runs, contexts saved
and entered, protection regions, and exceptions in a task. It runs alike in every lane of the vote. -/

namespace Sys2Proof.Machine

/-- The context of a core (R152, R171). -/
def Core.context (c : Core) : CoreCtx :=
  { x := c.x, f := c.f, pc := c.pc, status := c.word 0, fpcsr := c.word 8, tptr := c.word 9 }

/-- A context taken up again. -/
def Core.resume (x : CoreCtx) (c : Core) : Core :=
  { ((c.setWord 0 x.status).setWord 8 x.fpcsr).setWord 9 x.tptr with
    x := x.x, f := x.f, pc := x.pc, wfi := false, pend := none, resv := none }

/-- The context with which a task cycle starts (R172): no register carries over between cycles. -/
def taskContext (c : TaskCfg) (cycle : Nat) : CoreCtx :=
  let r : Vector Reg64 32 := Vector.replicate 32 0
  { x := ((((((r.set 2 (BitVec.ofNat 64 c.stack)).set 3 (BitVec.ofNat 64 c.gp)).set 4
        (BitVec.ofNat 64 (sharedBase + c.inImg))).set 5 (BitVec.ofNat 64 (sharedBase + c.outImg))).set 6
        (BitVec.ofNat 64 (sharedBase + c.glaze))).set 7 (BitVec.ofNat 64 cycle))
    f := r, pc := BitVec.ofNat 64 c.entry, status := 2, fpcsr := 0, tptr := 0 }

/-- The context with which the background task is entered (R154). -/
def bgContext (a : AppImage) : CoreCtx :=
  let r : Vector Reg64 32 := Vector.replicate 32 0
  { x := r.set 2 (BitVec.ofNat 64 a.bgStack), f := r, pc := BitVec.ofNat 64 a.bgEntry, status := 2, fpcsr := 0, tptr := 0 }

/-- The first core of the vote: core P of the lowest ACTIVE lane. -/
def leadCore (s : State) : Option (Fin 8) := (activeLanes s).head?.map coreP

/-- A task whose cycle the lanes execute (R506). -/
def Task.running (t : Task) : Bool := decide (t.state = .run) || decide (t.state = .overrun)

/-- What the executive has to run: the lowest-numbered executing task, else the background task, unless the lanes are
quiescent (R143, R152, R154) or wait for the join of an integration (R504). -/
def execWanted (s : State) : Option (Fin 9) :=
  if s.cys.run = false ∨ s.cys.waiting = true ∨ (s.twl.role = .integrating ∧ follows s = true) then none
  else
    match (allFin 8).find? (fun n => (s.cys.tasks[n]).running) with
    | some n => some ⟨n.val, by omega⟩
    | none => if s.cys.bgRunning then some 8 else none

/-- The context that starts a task or the background task. -/
def freshContext (n : Fin 9) (s : State) : Option CoreCtx :=
  if h : n.val < 8 then (taskCfg s ⟨n.val, h⟩).map (fun c => taskContext c (s.cys.tasks[n.val]).cycle)
  else s.cys.app.map bgContext

/-- The executive saves what runs, if it will run again (R152). -/
def execSave (s : State) : State :=
  match s.cys.current, leadCore s with
  | some n, some k =>
    let live := if h : n.val < 8 then (s.cys.tasks[n.val]'h).running else s.cys.bgRunning
    { s with cys := { s.cys with
        saved := s.cys.saved.set n.val (if live then some (s.cores[k]).context else none) n.isLt, current := none } }
  | _, _ => { s with cys := { s.cys with current := none } }

/-- The lanes wait in WFI (R152). -/
def execWait (s : State) : State := mirrorShadow (mapCores (execCores 0 s) (fun c => { c with wfi := true }) s)

/-- A task is entered or resumed (R172). -/
def execEnter (n : Fin 9) (s : State) : State :=
  let x := match s.cys.saved[n] with
    | some x => some x
    | none => freshContext n s
  match x with
  | none => s
  | some x =>
    let s1 := { s with cys := { s.cys with current := some n, saved := s.cys.saved.set n.val none n.isLt } }
    mirrorShadow (mapCores (execCores 0 s1) (Core.resume x) s1)

/-- The executive turns to what it has to run (R143, R152, R154, R172). -/
def execDispatch (s : State) : State :=
  if s.vrc.mode ≠ .oo3 ∧ s.vrc.mode ≠ .oo2 then s
  else
    let w := execWanted s
    if w = s.cys.current then s
    else
      let s1 := execSave s
      match w with
      | some n => execEnter n s1
      | none => execWait s1

/-- The executive drops a task's context (R156). -/
def execDrop (n : Fin 9) (s : State) : State :=
  { s with cys := { s.cys with
      saved := s.cys.saved.set n.val none n.isLt
      current := if s.cys.current = some n then none else s.cys.current } }

/-- The background task ends; it is entered again at the next GAP_END (R154, R172). -/
def bgEnd (s : State) : State := execDispatch (execDrop 8 { s with cys := { s.cys with bgRunning := false } })

/-- The cycle of a task ends without commit (R172, R173). -/
def taskEnd (n : Fin 8) (s : State) : State :=
  let s1 := if (s.cys.tasks[n]).running then closeCycle n none (setTask n noteExec s) else s
  execDispatch (execDrop ⟨n.val, by omega⟩ s1)

/-- What runs ends without commit: a task's cycle, or the background task's run. -/
def currentEnd (n : Fin 9) (s : State) : State :=
  if h : n.val < 8 then taskEnd ⟨n.val, h⟩ s else bgEnd s

/-- The core stands in the executive's handler for an exception of Application code: its cause code (R130, R172). -/
def Core.appTrap (c : Core) : Option Nat :=
  let w := c.word 3
  if c.exl && c.exec && !w.getLsbD 31 && !w.getLsbD 30 && !(c.word 1).getLsbD 0 then some (w.toNat % 256) else none

/-- The SYSCALL that Application code has made, if the core stands in its handler: its ARG. -/
def sysArg (k : Fin 8) (s : State) : Option Nat :=
  if (s.cores[k]).appTrap = some 12 then some (field ((s.cores[k]).word 3).toNat 12 16) else none

/-- An exception in a task ends its cycle without commit, in the background task its run: APP_FAULT (R172). A SYSCALL
with an ARG that R173 does not list is APP_BADSYSCALL. -/
def appFault (s : State) : State :=
  match s.cys.current, leadCore s with
  | some n, some k =>
    let c := s.cores[k]
    match c.appTrap with
    | none => s
    | some 12 =>
      let arg := (sysArg k s).getD 0
      if 1 ≤ arg ∧ arg ≤ 4 then s
      else currentEnd n (record 9 0x8008 n.val arg ((c.word 2).toNat % 2 ^ 32) s)
    | some code => currentEnd n (record 9 0x800D n.val code ((c.word 4).toNat % 2 ^ 32) s)
  | _, _ => s

/-- An instruction of the stream, and what the executive makes of an exception in a task. -/
def runTask (k : Fin 8) (act : State → Fin 8 → Act) (s : State) : State := appFault (runInstr k act s)

/-- The executive returns from a SYSCALL with results in a0, a1 and a2 (R171, R173): it adds 4 to CW_EPC (R132). -/
def sysReturn (rs : List Nat) (s : State) : State :=
  let put (c : Core) : Core :=
    ((rs.zip (List.range rs.length)).foldl (fun d p =>
      if h : 4 + p.2 < 32 then d.setX ⟨4 + p.2, h⟩ (BitVec.ofNat 64 p.1) else d) c)
  mirrorShadow (mapCores (execCores 0 s) (fun c => ((put c).setWord 2 (c.word 2 + 4)).eret) s)

/-- The task that has made a SYSCALL with an ARG, and its core. -/
def syscaller (arg : Nat) (s : State) : Option (Fin 9 × Fin 8) :=
  match s.cys.current, leadCore s with
  | some n, some k => if sysArg k s = some arg then some (n, k) else none
  | _, _ => none

/-- The protection regions the executive opens for an application (R172): region 0 the LTM, 1-12 the sections of kinds
1-3, 13 the voted shared buffers. -/
def appRegions (a : AppImage) : List (Nat × Nat × Nat × Nat) :=
  let secs := a.sections.filter (fun x => decide (1 ≤ x.kind ∧ x.kind ≤ 3))
  (0, 0x101004000, 0x101007FFF, 3) :: (13, sharedBase, sharedBase + sharedSize - 1, 3) ::
    ((secs.zip (List.range secs.length)).map (fun p =>
      (p.2 + 1, p.1.load, p.1.load + (p.1.memSize + 4095) / 4096 * 4096 - 1,
        if p.1.kind = 1 then 5 else if p.1.kind = 2 then 1 else 3)))

/-- A core with protection regions set: base, limit page and permissions with EN. -/
def Core.regions (rs : List (Nat × Nat × Nat × Nat)) (c : Core) : Core :=
  rs.foldl (fun d r =>
    (d.setWord (32 + 2 * r.1) (BitVec.ofNat 64 (r.2.1 / 4096 * 4096))).setWord (33 + 2 * r.1)
      (BitVec.ofNat 64 (r.2.2.1 / 4096 * 4096 + 8 + r.2.2.2))) c

/-- The executive opens the regions of the running image in the lanes named; the others close. -/
def openRegions (ls : List (Fin 4)) (s : State) : State :=
  match s.cys.app with
  | none => s
  | some a =>
    let f (c : Core) : Core :=
      Core.regions (appRegions a) ((List.range 14).foldl (fun d n => d.setWord (33 + 2 * n) 0) c)
    { s with cores := ls.foldl (fun v l => vmod (vmod v (coreP l) f) (coreS l) f) s.cores }

end Sys2Proof.Machine
end

