-- ==== Sys2Proof/Machine/Bridge.lean ====
section
/-! DEFINITION. The service bridge's commands (chapter 12): far-side answers, posted writes, tags, semaphores and line
buffers, and the lane writes that a far-side block takes. -/

namespace Sys2Proof.Machine

/-- An answer reaches the cores that wait for it, or is on its way back to the lane ports (R44, R362). -/
def deliverAnswer (m : Option (Fin 8)) (a : Nat) (r : BusReply) (s : State) : State :=
  let ks := match m with
    | some k => [k]
    | none => execCores 0 s
  let waits (c : Core) : Bool :=
    match c.pend with
    | some (.sync _) => false
    | some _ => true
    | none => false
  if ks.any (fun i => waits s.cores[i]) then
    appFault (mirrorShadow (mapCores ks (fun c =>
      match c.pend with
      | some p => if waits c then c.answer p a r else c
      | none => c) s))
  else pushResponse m 0 r s

/-- BRG_SYNC answers the masters whose posted writes are all done (R372). -/
def syncDone (s : State) : State :=
  let f (t : State) (k : Fin 8) : State :=
    match (t.cores[k]).pend with
    | some (.sync d) =>
      if t.brg.posted.any (fun p => decide (p.master = masterOf k t)) then t
      else setCore k (fun c => c.answered (.sync d) 0x20009000C t.brg.errCount) t
    | _ => t
  (allFin 8).foldl f s

/-- The oldest posted write leaves the bridge: its tag is free (R367). -/
def dropPosted (s : State) : State := setBrg (fun b => { b with posted := b.posted.drop 1 }) s

/-- POSTED_WRITE_COMPLETE (R367, R368): the oldest posted write lands; a target that refuses it, or whose domain or
clock went after acceptance, makes a late error. -/
def execPostedWriteComplete (dt : Nat) (s : State) : Out :=
  let s0 := advance dt s
  match s0.brg.posted with
  | [] => .next s0
  | p :: _ =>
    let s1 := dropPosted s0
    let s2 := match farOff s0 p.addr.toNat with
      | some _ => farError p 3 s1
      | none =>
        match farWrite p.addr.toNat p.be p.data p.exec s1 with
        | some t => t
        | none => farError p 2 s1
    .next (syncDone s2)

/-- Far-side status codes of R368. -/
def statusCode : FarStatus → Nat
  | .timeout => 1
  | .refused => 2
  | .domainLost => 3
  | .interconnect => 4

/-- BRG_PWERR (R367-R369): the oldest posted write fails on the far side. -/
def execBrgPwerr (dt : Nat) (status : FarStatus) (s : State) : Out :=
  let s0 := advance dt s
  match s0.brg.posted with
  | [] => .next s0
  | p :: _ => .next (syncDone (farError p (statusCode status) (dropPosted s0)))

/-- A far-side read that is forwarded: no earlier posted write of its master to its 64 KiB block is outstanding
(R371). -/
def forwarded (s : State) : Option FarRead :=
  s.brg.reads.find? (fun r => s.brg.posted.all (fun p =>
    !(decide (p.master = r.master) && decide (p.addr.toNat / 65536 = r.addr.toNat / 65536))))

/-- The read leaves the bridge. -/
def dropRead (r : FarRead) (s : State) : State :=
  setBrg (fun b => { b with reads := b.reads.filter (fun x => decide (x.tag ≠ r.tag)) }) s

/-- A far-side error answers a read with a bus error, logged (R363, R374). CTU_BERRH has no KIND for it: the spec
states none, so KIND is a free value (log 3). -/
def farFail (r : FarRead) (s : State) : State :=
  let (w, s1) := drawWord s
  deliverAnswer r.master r.addr.toNat .err
    (busError (w.toNat % 16) (masterCode s1 r.master) r.write.isSome r.addr.toNat s1)

/-- The sixteen words of an aligned line, read one after another. -/
def farLine (base : Nat) : Nat → State → List Byte × State
  | 0, s => ([], s)
  | n + 1, s =>
    let (v, s1) := farRead (base + 4 * (16 - (n + 1))) 4 s
    let (r, s2) := farLine base n s1
    (leBytes 4 v ++ r, s2)

/-- A line enters the buffers; the oldest of four makes room (R375). -/
def addLine (base region : Nat) (s : State) : State :=
  let s1 := match s.brg.lines with
    | [x, _, _, _] => dropLine x s
    | _ => s
  let (bs, s2) := farLine base 16 s1
  setBrg (fun b => { b with lines := b.lines.filter (fun x => decide (x.base ≠ base)) ++
    [{ base := base, octets := bs, region := region, taken := 0 }] }) s2

/-- A read in a prefetchable region fetches its line, and the next one in the same region and page (R375); the value
comes from the line. -/
def prefetchRead (r : FarRead) (region : Nat) (s : State) : Nat × State :=
  let a := r.addr.toNat
  let base := a / 64 * 64
  let s1 := addLine base region s
  let next := base + 64
  let s2 := if next / 4096 = base / 4096 ∧ (brgRegion s.brg next).map (fun n => n.val) = some region then
      addLine next region s1
    else s1
  match s2.brg.lines.find? (fun l => decide (l.base = base)) with
  | some l =>
    (leNat ((l.octets.drop (a - base)).take r.size),
      setBrg (fun b => { b with lines := b.lines.map (fun y => if y.base = base then takeWords y a r.size else y) }) s2)
  | none => farRead a r.size s2

/-- FAR_SIDE_READ_RESPONSE (R362, R363, R371, R374, R375): the far side answers the oldest access it has. -/
def execFarSideReadResponse (dt : Nat) (failed : Bool) (s : State) : Out :=
  let s0 := advance dt s
  match forwarded s0 with
  | none => .next s0
  | some r =>
    let s1 := dropRead r s0
    let a := r.addr.toNat
    if failed ∨ (farOff s0 a).isSome = true then .next (farFail r s1)
    else
      match r.write with
      | some (be, d) =>
        match farWrite a be d r.exec s1 with
        | some t => .next (deliverAnswer r.master a (.done 0) t)
        | none => .next (farFail r s1)
      | none =>
        if brgPF s1.brg a && !r.excl then
          match brgRegion s1.brg a with
          | some n =>
            let (v, t) := prefetchRead r n.val s1
            .next (deliverAnswer r.master a (.done v) t)
          | none => .next s1
        else
          let (v, t) := farRead a r.size s1
          .next (deliverAnswer r.master a (.done v) t)

/-- FAR_SIDE_READ_TIMEOUT (R363): 10 µs without an answer. -/
def execFarSideReadTimeout (dt : Nat) (s : State) : Out :=
  let s0 := advance dt s
  match forwarded s0 with
  | none => .next s0
  | some r => .next (farFail r (dropRead r s0))

/-- BRG_TAG_FREE (R364): the access that has waited longest takes a free tag; its wait is added to BRG_TAGWAIT in
fabric clocks, 6 to 5 FRC counts. -/
def execBrgTagFree (dt : Nat) (s : State) : Out :=
  let s0 := advance dt s
  match s0.brg.waiting, freeTag s0.brg with
  | w :: rest, some _ =>
    let waited := (s0.tim.frc.toNat - w.since) * 6 / 5
    let s1 := setBrg (fun b => { b with waiting := rest, tagWait := satAdd 0xFFFFFFFF b.tagWait waited }) s0
    match brgAccess w.master w.beat s1 with
    | (.wait, s2) => .next s2
    | (r, s2) => .next (deliverAnswer w.master w.beat.addr.toNat r s2)
  | _, _ => .next s0

/-- BRG_SEM_EXPIRED (R373): 8 µs after its LDX a semaphore is lost. -/
def execBrgSemExpired (dt : Nat) (region : Fin 16) (s : State) : Out :=
  let s0 := advance dt s
  match s0.brg.sems[region] with
  | none => .next s0
  | some m =>
    .next (raise 275 (record 11 0x0033 region.val (masterCode s0 m) 0
      (setBrg (fun b => { b with sems := b.sems.set region.val none region.isLt, expire := inc16 b.expire }) s0)))

/-- PREFETCH_EXPIRY (R376, R377): the oldest line buffer is 2 µs old. -/
def execPrefetchExpiry (dt : Nat) (s : State) : Out :=
  let s0 := advance dt s
  match s0.brg.lines with
  | [] => .next s0
  | l :: _ => .next (dropLine l s0)

/-- FORWARDED_INTERRUPT_EDGE (R378): a block's output rises. The KLM output is high only under R397. -/
def execForwardedInterruptEdge (block : FarBlock) (s : State) : Out :=
  match block with
  | .klm => if klmOut s then .next (raise 276 s) else .next s
  | .cpn => .next (raise 277 s)
  | .cfd => .next (raise 278 s)
  | .dbg => .next (raise 279 s)

/-- REC_EV3_WRITE (R426): the four words form an event. -/
def execRecEv3Write (value : BitVec 32) (s : State) : Out := .next (recEvWrite 3 value s)

/-- KLM_VERDICT7_WRITE (R397). -/
def execKlmVerdict7Write (value : BitVec 32) (s : State) : Out := .next (verdictWrite 7 value s)

/-- CFD_TPDOTRIG_WRITE (R357). -/
def execCfdTpdotrigWrite (value : BitVec 32) (s : State) : Out := .next (tpdoTrig value.toNat s)

end Sys2Proof.Machine
end

