-- ==== Sys2Proof/Machine/PowerOps.lean ====
section
/-! DEFINITION. Resets and power (chapter 17): what each reset leaves in place (R475), module resets (R472, R473),
COLD (R469, R471), switching domains (R464), and transfers abandoned (R455). -/

namespace Sys2Proof.Machine

/-- The boot record and the images changed. -/
def setBoot (f : Boot → Boot) (s : State) : State := { s with boot := f s.boot }

/-- Power control changed. -/
def setPwr (f : Power → Power) (s : State) : State := { s with pwr := f s.pwr }

/-- The Kiln's dictionary side changed. -/
def setKiln (f : Kiln → Kiln) (s : State) : State := { s with kiln := f s.kiln }

/-- The target of 0x2A10 (R456): of A and B the one that is not running; while Golden or nothing runs, the one in the
lower-numbered state, or A. -/
def fwTarget (b : Boot) : Fin 3 :=
  if b.running = some 0 then 1
  else if b.running = some 1 then 0
  else if b.banks[1].state.code < b.banks[0].state.code then 1 else 0

/-- The transfer to 0x2A10 is abandoned (R455). -/
def abandonFw (s : State) : State :=
  match s.boot.fw with
  | none => s
  | some t => record 0 0x7004 3 (fwTarget s.boot).val t.data.length
      (setBoot (fun b => { b with fw := none, fwWait := none, fwResult := 5 }) s)

/-- The transfer to 0x3010 is abandoned: it fills the application area of Golden (R455). -/
def abandonApp (s : State) : State :=
  match s.boot.app with
  | none => s
  | some t => record 0 0x7004 3 2 t.data.length (setBoot (fun b => { b with app := none }) s)

/-- The transfer to 0x2510 is abandoned; no bank holds it. -/
def abandonSched (s : State) : State :=
  match s.boot.sched with
  | none => s
  | some t => record 0 0x7004 3 0xFF t.data.length (setBoot (fun b => { b with sched := none }) s)

/-- Every open transfer is abandoned (R455, R474). -/
def abandonAll (s : State) : State := abandonSched (abandonApp (abandonFw s))

/-! ### What a reset leaves (R475) -/

/-- A lane after a module reset: its retirement, transient and bisque records stay. -/
def Lane.fresh (x : Lane) : Lane :=
  { state := if x.retired.isSome then .retired else .spare
    fenced := x.retired.isSome, transients := x.transients, retired := x.retired, bisqueAt := x.bisqueAt }

/-- The voter after a module reset: what is counted or kept since power-on stays. -/
def Vrc.fresh (v : Vrc) : Vrc :=
  { lanes := v.lanes.map Lane.fresh
    exGroups := v.exGroups, exNoMaj := v.exNoMaj, exCause := v.exCause, exLanes := v.exLanes, exLane := v.exLane
    exFrc := v.exFrc, exAddr := v.exAddr, exAttr := v.exAttr
    injStartOk := v.injStartOk, injBisqOk := v.injBisqOk, injBisqLane := v.injBisqLane, injGroup := v.injGroup
    injKind := v.injKind, injPair := v.injPair, injAtStart := v.injAtStart, injAtBisq := v.injAtBisq, xcount := v.xcount, wideRej := v.wideRej }

/-- The voter after its domain was off. -/
def Vrc.off (v : Vrc) : Vrc :=
  { lanes := v.lanes.map Lane.fresh, injAtStart := v.injAtStart, injAtBisq := v.injAtBisq }

/-- The rotation controller after a module reset. -/
def Rotation.fresh (r : Rotation) : Rotation :=
  { bLane := r.bLane, bResult := r.bResult, bFail := r.bFail, holdCounts := r.holdCounts, need := r.need
    avail := r.avail, swaps := r.swaps, substitutions := r.substitutions, deferrals := r.deferrals
    lastWedge := r.lastWedge }

/-- The rotation controller after its domain was off: the Kiln's counts stay. -/
def Rotation.off (r : Rotation) : Rotation :=
  { swaps := r.swaps, substitutions := r.substitutions, deferrals := r.deferrals, lastWedge := r.lastWedge }

/-- A task after a module reset: the counts of its registers stay (R475), those of 0x3020 + n do not (R184). -/
def Task.fresh (t : Task) : Task :=
  { count := t.count, ovr := t.ovr, skip := t.skip, execLast := t.execLast, execMax := t.execMax }

/-- The Xenex controller after a module reset. -/
def Xenex.fresh (x : Xenex) : Xenex :=
  { stored := x.stored, tableResult := x.tableResult, startResult := x.startResult, macros := x.macros
    lateCount := x.lateCount, driftCount := x.driftCount, collCold := x.collCold, collOther := x.collOther
    chans := x.chans.map (fun c => { errors := c.errors }), gwAbort := x.gwAbort }

/-- The Xenex controller after its domain was off: what the Kiln holds stays. -/
def Xenex.off (x : Xenex) : Xenex :=
  { stored := x.stored, tableResult := x.tableResult, startResult := x.startResult, gwAbort := x.gwAbort }

/-- The twin link after a module reset. -/
def Twin.fresh (t : Twin) : Twin :=
  { crcErrors := t.crcErrors, pulseErrors := t.pulseErrors, diverges := t.diverges, takeovers := t.takeovers
    fail := t.fail, divergedAt := t.divergedAt, notedAt := t.notedAt }

/-- The twin link after its domain was off. -/
def Twin.off (t : Twin) : Twin := { fail := t.fail, divergedAt := t.divergedAt, notedAt := t.notedAt }

/-- The line-network controller after a module reset: links stay as they are. -/
def Lnc.fresh (l : Lnc) : Lnc :=
  { spd := l.spd, vlanDrops := l.vlanDrops, fcsErrors := l.fcsErrors, miss := l.miss, overran := l.overran
    suppr := l.suppr, refused := l.refused, sent := l.sent
    egress := l.egress.map (fun e => { dropped := e.dropped, recent := e.recent, noted := e.noted }) }

/-- The consist ports after a module reset. -/
def Cpn.fresh (c : Cpn) : Cpn := { spd := c.spd, dupl := c.dupl, wrong := c.wrong }

/-- The bridge after a module reset: its log and its posted writes are lost. -/
def Brg.fresh (b : Brg) : Brg :=
  { ovf := b.ovf, errCount := b.errCount, ovfAt := b.ovfAt, pfAddr := b.pfAddr, pfValid := b.pfValid
    pfRegion := b.pfRegion, pfCount := b.pfCount, tagWait := b.tagWait, steal := b.steal, expire := b.expire }

/-- A bank after a module reset: its configuration is loaded anew, its counts and its field side stay. -/
def Bank.fresh (b : Bank) : Bank :=
  { b with loaded := false, hold := false, coRise := 0, coFall := 0, fifo := [], evt := Vector.replicate 3 0
           lossMark := false }

/-- A session ends (R385, R386). -/
def closedSession : SessionState := {}

/-- The sessions after a reset: a warm restart keeps those of GDP. -/
def sessionsAfter (kind : Nat) (v : Vector SessionState 6) : Vector SessionState 6 :=
  if kind = 7 then Vector.ofFn (fun i => if i.val < 4 then { v[i] with challenge := none } else closedSession)
  else Vector.replicate 6 closedSession

/-- The Kiln after a module reset: the parameter set, the key and what is counted since power-on stay. -/
def Kiln.fresh (kind : Nat) (k : Kiln) : Kiln :=
  { params := k.params, inForce := k.inForce, pfv := k.pfv, dirty := k.dirty, blob := k.blob, key := k.key
    sessions := sessionsAfter kind k.sessions, safetySeq := k.safetySeq, commits := k.commits
    lastRefusal := k.lastRefusal, answers := k.answers, lastChal := k.lastChal }

/-- Boot after a module reset: the boot record and flash stay. A Kiln watchdog reset while the running bank is TRIAL
is remembered for R450. -/
def Boot.fresh (kind : Nat) (b : Boot) : Boot :=
  let trial := match b.running with
    | some k => if h : k < 3 then decide ((b.banks[k]).state = .trial) else false
    | none => false
  { banks := b.banks, nextBank := b.nextBank, prev := b.prev, savedPrev := b.savedPrev, fallback := b.fallback
    boots := b.boots, ranBefore := b.running, appA := b.appA, appB := b.appB, appBuf := b.appBuf
    appClosed := b.appClosed, fwResult := b.fwResult
    watchdogTrial := if kind = 3 ∧ trial = true then b.running else none }

/-- Every block of the module after a reset that leaves PD0 powered (R475). Clock enables return to 0 (R201). -/
def blocksFresh (kind : Nat) (s : State) : State :=
  { s with
    vrc := s.vrc.fresh, rot := s.rot.fresh, cys := { tasks := s.cys.tasks.map Task.fresh }, xn := s.xn.fresh, twl := s.twl.fresh, lnc := s.lnc.fresh
    cpn := s.cpn.fresh, cfd := {}, brg := s.brg.fresh, banks := s.banks.map Bank.fresh
    boot := s.boot.fresh kind, kiln := s.kiln.fresh kind, ints := Vector.replicate 11 {}
    cores := Vector.replicate 8 {}, vmem := []
    clk := { s.clk with clken0 := 0, clken1 := 0, want0 := 0, want1 := 0 } }

/-! ### Domains (R464) -/

/-- The buffers of the line-network controller, which PD6 holds. -/
def inLnc (a : Nat) : Bool := decide (0x0200060000 ≤ a) && decide (a < 0x0200070000)

/-- The interrupt registers of the blocks named are lost with their domain. -/
def offInts (ks : List Nat) (v : Vector IntRegs 11) : Vector IntRegs 11 :=
  Vector.ofFn (fun i => if i.val ∈ ks then {} else v[i])

/-- PD1-PD5, PD7-PD9 and PD11 are switched off in the orders 1-6 of R464; what their blocks hold and count is lost
(R475). -/
def domainsOff (s : State) : State :=
  let s1 := busLeave s
  { s1 with
    pwr := { s1.pwr with on := s1.pwr.on &&& 0x441 }
    vrc := { s1.vrc.off with mode := s1.vrc.mode, wideWritten := s1.vrc.wideWritten }
    rot := s1.rot.off, xn := s1.xn.off
    twl := { s1.twl.off with role := s1.twl.role, en := s1.twl.en }
    cpn := {}, cfd := {}, brg := {}, cys := {}
    cores := Vector.replicate 8 {}, mems := Vector.replicate 8 [], vmem := s1.vmem.filter (fun c => inLnc c.1)
    ints := offInts [0, 1, 6, 8, 9, 10] s1.ints
    bw := Vector.replicate 8 {} }

/-- A ramped domain starts, or moves from the ember to the root (R194): a ramp from step 5, unless one is in progress. -/
def domainRamp (s : State) : State :=
  if s.clk.rampStep = 0 then
    { s with clk := { s.clk with rampStep := 5, ramps := inc16 s.clk.ramps, fmRamped := true } }
  else s

/-- PD10 is off: the gate drive is gone and every network opens (R33). -/
def networksOpen (s : State) : State :=
  { s with chans := s.chans.map (fun c => if c.isOut then { c.abortPulse with gates := 0, filt := false, raw := false } else c) }

/-! ### Module resets -/

/-- The module leaves its state for a reset: safe states, the twin told, voting ended (R27, R52, R56, R258). -/
def leaveForReset (cause : Nat) (s : State) : State :=
  if isRunOrWide s then leaveRun 1 cause 1 s else setVote .none false cause (twinHold false s)

/-- The twin role at the start of FIRING (R313): INTEGRATING where twin operation is enabled. -/
def twinFiring (s : State) : State :=
  if stored s 0x2600 1 = 1 then twinRole .integrating 0 s else s

/-- FIRING begins: MODULE_RESET (R473), the change of state, and the count of R29 from 0. -/
def enterFiring (cause : Nat) (s : State) : State :=
  let p := s.pwr
  let s1 := setModState .firing cause (record 0 0x0062 p.rstKind p.rstDetail p.rstPrev s)
  twinFiring { s1 with mod := { s1.mod with changes := 0, command := 0, start := {} } }

/-- A module reset that leaves PD0 powered, kinds 3-7 (R472, R473), and the FIRING that follows it. -/
def moduleReset (kind detail : Nat) (s : State) : State :=
  let prev := s.mod.state.code
  let cause := if kind = 5 then 0 else 0x0062
  let s1 := banksReset (leaveForReset cause (abandonAll s))
  let s2 := setPwr (fun p =>
    { p with rstKind := kind, rstDetail := detail, rstPrev := prev, resets := inc32 p.resets, retained := true
             resetsOfKind := if h : kind - 1 < 7 then vmod p.resetsOfKind ⟨kind - 1, h⟩ inc32 else p.resetsOfKind
             heldWake := [], bankedReached := false }) (blocksFresh kind s1)
  let up := { s2 with mod := { s2.mod with start := { clocksUp := true } } }
  let s3 := enterFiring cause up
  { s3 with mod := { s3.mod with start := { clocksUp := true } } }

/-- COLD (R23, R469, R471): power-on reset is held. What MRAM and flash hold stays; `kind` is 1 or 2. -/
def toCold (kind detail : Nat) (s : State) : State :=
  let prev := if kind = 2 then s.mod.state.code else 0
  let b := (abandonAll s).boot.fresh kind
  { State.reset with
    pending := s.pending, drawn := s.drawn
    mod := { product := s.mod.product, issue := s.mod.issue }
    pwr := { rstKind := kind, rstDetail := detail, rstPrev := prev, mate := s.pwr.mate
             resetsOfKind := s.pwr.resetsOfKind
             hottest := s.pwr.hottest, measured := s.pwr.measured, hotTenths := s.pwr.hotTenths
             withdrawals := s.pwr.withdrawals }
    vrc := { s.vrc.off with injAtStart := 0, injAtBisq := 0 }
    xn := { stored := s.xn.stored, tableResult := s.xn.tableResult }
    recd := { mram := s.recd.mram, headA := s.recd.headA, headB := s.recd.headB, shadow := s.recd.shadow
              savedOptime := s.recd.savedOptime, pwrcyc := s.recd.pwrcyc
              lostMs := s.recd.optime - s.recd.savedOptime }
    boot := { b with fwResult := 0 }
    twl := { notedAt := s.twl.notedAt, divergedAt := s.twl.divergedAt }
    kiln := { params := s.kiln.params, inForce := s.kiln.inForce, pfv := s.kiln.pfv, dirty := s.kiln.dirty
              blob := s.kiln.blob, key := s.kiln.key } }

/-- Counts that the Kiln holds "since power-on" (R475), lost with its retained area (R474). -/
def kilnCountsLost (s : State) : State :=
  { s with
    pwr := { s.pwr with warnings := 0, resets := 0, dips := 0 }
    rot := { s.rot with swaps := 0, substitutions := 0, deferrals := 0, lastWedge := 0 }
    clk := { s.clk with refSwitches := 0, coastEntries := 0, coastMs := 0, coastSub := 0 }
    tim := { s.tim with steps := 0, tcCorrected := 0, syncTimeouts := 0 }
    kiln := { s.kiln with commits := 0, safetySeq := 0, lastRefusal := 0 } }

end Sys2Proof.Machine
end

