-- ==== Sys2Proof/Machine/ImageOps.lean ====
section
/-! DEFINITION. Application images: reading a file (R166-R169), the checks of R170 and R257, loading into the lanes
(R168, R174, R452), and what the Kiln stores (R445). -/

namespace Sys2Proof.Machine

/-- The octets of a file from an offset are 0. -/
def zerosAt (f : List Byte) (off n : Nat) : Bool := ((f.drop off).take n).all (fun b => decide (b = 0))

/-- The trailer of R166: a digest of everything before it, and a CRC-32C of everything before the CRC. -/
def trailerGood (f : List Byte) : Bool :=
  let n := f.length
  decide (36 ≤ n) && decide ((crc32c (f.take (n - 4))).toNat = leAt f (n - 4) 4) &&
    decide (sha256 (f.take (n - 36)) = (f.drop (n - 36)).take 32)

/-- A list of latch or commit entries (R169). -/
def readList (f : List Byte) (off : Nat) : Nat → List ListEntry
  | 0 => []
  | n + 1 => { kind := leAt f off 1, length := leAt f (off + 2) 2, src := leAt f (off + 4) 4, dst := leAt f (off + 8) 4 } ::
      readList f (off + 16) n

/-- The entry of task `n` is configured: ENTRY is not 0 (R167). -/
def taskAt (f : List Byte) (n : Nat) : Bool := decide (leAt f (0x100 + 64 * n) 8 ≠ 0)

/-- The tasks a file configures. -/
def tasksOf (f : List Byte) : List Nat := (List.range 8).filter (taskAt f)

/-- A field of the entry of task `n`. -/
def taskField (f : List Byte) (n off len : Nat) : Nat := leAt f (0x100 + 64 * n + off) len

/-- Σ (K_i + 6.4 µs) over the configured tasks, in tenths of a µs (R155). -/
def commitTenths (f : List Byte) : Nat :=
  (tasksOf f).foldl (fun a n => a + 10 * taskField f n 0x13 1 + 64) 0

/-- The default deadline of R155 in tenths of a µs. -/
def defaultDeadline (f : List Byte) (n : Nat) : Int :=
  (2500 * taskField f n 0x10 2 : Nat) - (10 * leAt f 0x14 1 + 40 + commitTenths f : Nat)

/-- A task as the sequencer takes it (R167). -/
def readTask (f : List Byte) (n : Nat) : Option TaskCfg :=
  if taskAt f n then
    let g := taskField f n
    some { entry := g 0 8, stack := g 8 8, period := g 0x10 2, latch := g 0x12 1, commit := g 0x13 1
           deadline := if g 0x14 4 = 0 then (defaultDeadline f n).toNat else 10 * g 0x14 4
           stall := g 0x18 1, latchList := readList f (g 0x28 4) (g 0x19 1)
           commitList := readList f (g 0x2C 4) (g 0x1A 1), inImg := g 0x1C 4, outImg := g 0x20 4, glaze := g 0x24 4
           own := BitVec.ofNat 48 (g 0x30 6), gp := g 0x38 8 }
  else none

/-- The section table (R168). -/
def readSections (f : List Byte) : List Section :=
  (List.range (leAt f 6 2)).map (fun i =>
    let o := 0x300 + 32 * i
    { load := leAt f o 8, fileOff := leAt f (o + 8) 4, fileSize := leAt f (o + 12) 4, memSize := leAt f (o + 16) 4
      kind := leAt f (o + 20) 1 })

/-- The entries of a migration map section (R169). -/
def readMap (f : List Byte) (x : Section) : List Migration :=
  (List.range (x.fileSize / 24)).map (fun i =>
    let o := x.fileOff + 24 * i
    { src := leAt f o 8, dst := leAt f (o + 8) 8, length := leAt f (o + 16) 4 })

/-- The image in a file; `hdr` is CYS_IMG.HDR (log 10). -/
def readImage (f : List Byte) (hdr : Reg32) : AppImage :=
  let secs := readSections f
  { appId := leAt f 0xC 4, build := leAt f 0x10 4, gapLen := leAt f 0x14 1
    xnTask := if h : leAt f 0x15 1 < 8 then some ⟨leAt f 0x15 1, h⟩ else none
    xnLead := leAt f 0x18 4, xnMacro := leAt f 0x1C 4, bgEntry := leAt f 0x20 8, bgStack := leAt f 0x28 8
    schedCrc := leAt f 0x30 4, crc := leAt f (f.length - 4) 4
    tasks := Vector.ofFn (fun n => readTask f n.val), sections := secs
    migrations := (secs.filter (fun x => decide (x.kind = 4))).flatMap (readMap f), hdr := hdr, file := f }

/-! ### The checks of R170: 0, or the first code that applies with its task, section or entry index -/

/-- Section kinds 1-3 are loaded into the lanes (R168). -/
def Section.loaded (x : Section) : Bool := decide (1 ≤ x.kind) && decide (x.kind ≤ 3)

/-- End of a loaded section: whole 4 KiB pages. -/
def Section.loadEnd (x : Section) : Nat := x.load + (x.memSize + 4095) / 4096 * 4096

/-- A section entry is valid (R168): `limit` is the file offset of the trailer. -/
def Section.valid (limit : Nat) (x : Section) : Bool :=
  decide (x.load % 4096 = 0) && decide (x.fileSize ≤ x.memSize) && decide (1 ≤ x.memSize) &&
    decide (x.fileOff + x.fileSize ≤ limit) && decide (1 ≤ x.kind ∧ x.kind ≤ 5) &&
    (!x.loaded || decide (x.loadEnd ≤ 0x100000000) ||
      (decide (0x100040000 ≤ x.load) && decide (x.loadEnd ≤ 0x100200000)))

/-- Two loaded sections overlap. -/
def Section.meets (x y : Section) : Bool :=
  x.loaded && y.loaded && decide (x.load < y.loadEnd) && decide (y.load < x.loadEnd)

/-- Sections that overlap none after them. -/
def apart : List Section → Bool
  | [] => true
  | x :: r => r.all (fun y => !x.meets y) && apart r

/-- The header of R166 is valid, its fields in their ranges (code 17). -/
def headerValid (f : List Byte) : Bool :=
  let g := leAt f 0x14 1
  let t := leAt f 0x15 1
  let lead := leAt f 0x18 4
  let mac := leAt f 0x1C 4
  decide (f.take 4 = ascii "YAP1") && decide (leAt f 4 2 = 1) && decide (1 ≤ leAt f 6 2 ∧ leAt f 6 2 ≤ 32) &&
    decide (leAt f 0xC 4 ≠ 0) && decide (12 ≤ g ∧ g ≤ 100) && zerosAt f 0x16 2 && zerosAt f 0x34 204 &&
    decide (0x300 + 32 * leAt f 6 2 + 36 ≤ f.length) &&
    (if t = 0xFF then decide (lead = 0 ∧ mac = 0)
      else decide (t < 8) && decide (250 ≤ mac ∧ mac ≤ 1000000) && decide (10 ≤ lead ∧ lead ≤ mac))

/-- Code 17 of the section table, with the section's index. -/
def sectionsBad (f : List Byte) : Option Nat :=
  let secs := readSections f
  match secs.findIdx? (fun x => !x.valid (f.length - 36)) with
  | some i => some i
  | none =>
    match (List.range secs.length).find? (fun i => !zerosAt f (0x300 + 32 * i + 21) 11) with
    | some i => some i
    | none =>
      if apart secs && decide ((secs.filter Section.loaded).length ≤ 12) then none else some 0

/-- The 16 octets below a stack top lie in a section of kind 3. -/
def stackInData (f : List Byte) (top : Nat) : Bool :=
  decide (16 ≤ top) && (readSections f).any (fun x => decide (x.kind = 3) && decide (x.load ≤ top - 16) && decide (top ≤ x.loadEnd))

/-- Periods are harmonic (R143). -/
def harmonic (f : List Byte) : List Nat → Bool
  | [] => true
  | i :: r => r.all (fun j => decide (taskField f j 0x10 2 % max 1 (taskField f i 0x10 2) = 0)) && harmonic f r

/-- The entry of task `n` breaks a rule of code 18. -/
def taskBad (f : List Byte) (n : Nat) : Bool :=
  let g := taskField f n
  decide (g 0x10 2 < 1 ∨ 40000 < g 0x10 2) ||
    decide (g 0x14 4 ≠ 0 ∧ defaultDeadline f n < (10 * g 0x14 4 : Nat)) || decide (1 < g 0x18 1) ||
    decide (g 0 8 % 4 ≠ 0) || decide (g 8 8 % 16 ≠ 0) || decide (g 0x12 1 < 1 ∨ 100 < g 0x12 1) ||
    decide (g 0x13 1 < 1 ∨ 100 < g 0x13 1) || decide (32 < g 0x19 1) || decide (32 < g 0x1A 1) ||
    !stackInData f (g 8 8)

/-- Code 18, with the task's index. -/
def tableBad (f : List Byte) : Option Nat :=
  let ts := tasksOf f
  let c := leAt f 0x15 1
  if ts = [] then some 0
  else
    match ts.find? (taskBad f) with
    | some n => some n
    | none =>
      if harmonic f ts = false then some 0
      else if leAt f 0x20 8 ≠ 0 ∧ (leAt f 0x28 8 % 16 ≠ 0 ∨ stackInData f (leAt f 0x28 8) = false) then some 8
      else if c ≠ 0xFF ∧ (taskAt f c = false ∨ leAt f 0x1C 4 % (250 * max 1 (taskField f c 0x10 2)) ≠ 0) then some c
      else none

/-- Σ LENGTH of a list. -/
def listOctets (l : List ListEntry) : Nat := l.foldl (fun a e => a + e.length) 0

/-- L_n or K_n below the need of its list (R170). -/
def listsShort (t : TaskCfg) : Bool :=
  decide (t.latch < 1 + (64 + listOctets t.latchList + 4799) / 4800) ||
    decide (t.commit < 1 + (listOctets t.commitList + 4799) / 4800)

/-- The tick budget of R170, in tenths of a µs. -/
def budgetExceeded (f : List Byte) : Bool :=
  let ts := tasksOf f
  let sum := ts.foldl (fun a n => a + 10 * (taskField f n 0x12 1 + taskField f n 0x13 1) + 64) 0
  let k := ts.foldl (fun a n => min a (taskField f n 0x10 2)) 40000
  decide ((2500 * k : Nat) - (10 * leAt f 0x14 1 + 40 : Nat) < (sum : Int))

/-- A channel of kind 3 or 4 by a parameter reader. -/
def outKind (get : Nat → Nat → Nat) (ch : Nat) : Bool := decide (3 ≤ get (0x2400 + ch) 1)

/-- A task's period is too long for the bank timeout of an output channel it owns (R257), ms against 0.25 ms. -/
def timeoutShort (get : Nat → Nat → Nat) (own : BitVec 48) (period : Nat) : Bool :=
  (List.range 48).any (fun ch =>
    own.getLsbD ch && outKind get ch && decide (4 * get 0x2430 (4 + ch / 16) < period + 4))

/-- The tasks of an image against the bank timeouts (R257): the first task that fails. -/
def timeoutsBad (get : Nat → Nat → Nat) (a : AppImage) : Option Nat :=
  (List.range 8).find? (fun n => match a.tasks[n]? with
    | some (some t) => timeoutShort get t.own t.period
    | _ => false)

/-- A latch list entry is valid: its source lies in the receive area of its block (R169). -/
def latchValid (e : ListEntry) : Bool :=
  decide (16 ≤ e.length ∧ e.length ≤ 4096 ∧ e.length % 16 = 0) &&
    (if e.kind = 1 then decide (0x8000 ≤ e.src ∧ e.src + e.length ≤ 0xC000)
      else if e.kind = 2 then decide (0x4000 ≤ e.src ∧ e.src + e.length ≤ 0xC000)
      else decide (e.kind = 3) && decide (e.src + e.length ≤ sharedSize))

/-- A commit list entry is valid (R169). -/
def commitValid (e : ListEntry) : Bool :=
  decide (16 ≤ e.length ∧ e.length ≤ 4096 ∧ e.length % 16 = 0) &&
    (if e.kind = 1 ∨ e.kind = 2 then decide (0xC000 ≤ e.dst ∧ e.dst + e.length ≤ 0x10000)
      else if e.kind = 3 then decide (e.dst + e.length ≤ sharedSize)
      else decide (e.kind = 4 ∧ e.length = 16 ∧ e.dst = 0))

/-- The images, lists and glaze list of a task lie where they must (R167, R169). -/
def areasValid (f : List Byte) (n : Nat) (t : TaskCfg) : Bool :=
  let lim := f.length - 36
  decide (t.inImg % 16 = 0 ∧ t.outImg % 16 = 0 ∧ t.glaze % 16 = 0) && t.latchList.all latchValid &&
    t.commitList.all commitValid && decide (taskField f n 0x28 4 + 16 * t.latchList.length ≤ lim) &&
    decide (taskField f n 0x2C 4 + 16 * t.commitList.length ≤ lim) &&
    decide (t.inImg + inputSpan t ≤ sharedSize) &&
    t.commitList.all (fun e => decide (t.outImg + e.src + e.length ≤ sharedSize)) &&
    decide (t.glaze + 1024 ≤ sharedSize) && decide (taskField f n 0x36 2 = 0)

/-- A migration entry is valid (R169). -/
def migrationValid (m : Migration) : Bool :=
  decide (m.src % 16 = 0 ∧ m.dst % 16 = 0 ∧ m.length % 16 = 0 ∧ 16 ≤ m.length) &&
    !(decide (m.src < m.dst + m.length) && decide (m.dst < m.src + m.length))

/-- The OWN masks of a list of tasks do not meet. -/
def ownsApart : List (BitVec 48) → Bool
  | [] => true
  | m :: r => r.all (fun k => decide (m &&& k = 0)) && ownsApart r

/-- Code 20, with a task or entry index. -/
def listsBad (f : List Byte) (a : AppImage) : Option Nat :=
  match (tasksOf f).find? (fun n => match readTask f n with | some t => !areasValid f n t | none => false) with
  | some n => some n
  | none =>
    match a.migrations.findIdx? (fun m => !migrationValid m) with
    | some i => some i
    | none =>
      if a.sections.any (fun x => decide (x.kind = 4) && decide (x.fileSize % 24 ≠ 0)) then some 0
      else if 256 < a.migrations.length then some 256
      else if ownsApart ((tasksOf f).filterMap (fun n => (readTask f n).map (fun t => t.own))) then none
      else some 0

/-- The first of codes 16-20 that applies to a file, with its index (R170); `get` gives the kinds and timeouts of the
check of R257, none leaves that check out (R445). -/
def imageCheck (get : Option (Nat → Nat → Nat)) (f : List Byte) : Option (Nat × Nat) :=
  if f.length < 804 ∨ leAt f 8 4 ≠ f.length ∨ trailerGood f = false then some (16, 0)
  else if headerValid f = false then some (17, 0)
  else
    match sectionsBad f with
    | some i => some (17, i)
    | none =>
      match tableBad f with
      | some i => some (18, i)
      | none =>
        let a := readImage f 0
        match (tasksOf f).find? (fun n => match readTask f n with | some t => listsShort t | none => false) with
        | some n => some (19, n)
        | none =>
          if budgetExceeded f then some (19, 0)
          else
            match get.bind (fun g => timeoutsBad g a) with
            | some n => some (19, n)
            | none => (listsBad f a).map (fun i => (20, i))

/-! ### The switch budget (R176) -/

/-- Σ LENGTH of the migration entries. -/
def mapOctets (a : AppImage) : Nat := a.migrations.foldl (fun n m => n + m.length) 0

/-- Time a switch needs, ns: 8.192 + 2.0 + 0.2 n + B / 8,000 µs. -/
def switchNs (a : AppImage) : Nat := 10192 + 200 * a.migrations.length + mapOctets a / 8

/-- The need in 10 ns units, rounded up. -/
def switchNeed (a : AppImage) : Nat := (switchNs a + 9) / 10

/-- The budget G - 2.0 µs in 10 ns units. -/
def switchAvail (a : AppImage) : Nat := 100 * a.gapLen - 200

/-- The first of codes 21-23 that applies to an image beside the running one (R174). -/
def stageCheck (run new : AppImage) : Option Nat :=
  if run.sections.any (fun x => new.sections.any x.meets) then some 21
  else if 10 * switchAvail new < switchNs new then some 22
  else if run.gapLen ≠ new.gapLen ∨ run.xnTask ≠ new.xnTask ∨ run.xnLead ≠ new.xnLead ∨ run.xnMacro ≠ new.xnMacro ∨
      run.schedCrc ≠ new.schedCrc then some 23
  else none

/-! ### Loading -/

/-- The octets of a loaded section: its contents, then zeros (R168). -/
def sectionOctets (f : List Byte) (x : Section) : List Byte :=
  (f.drop x.fileOff).take x.fileSize ++ List.replicate (x.loadEnd - x.load - x.fileSize) 0

/-- The loaded sections of an image written into a lane memory. -/
def writeSections (a : AppImage) (m : List Host.Cell) : List Host.Cell :=
  (a.sections.filter Section.loaded).foldl (fun t x => memWrite t x.load (sectionOctets a.file x)) m

/-- The pages that the sections of an image touch (R87). -/
def imagePages (a : AppImage) : List Nat :=
  (a.sections.filter Section.loaded).flatMap (fun x => pagesOf x.load (x.loadEnd - x.load))

/-- An image loaded into the lanes named, its pages marked (R87, R174). -/
def loadSections (a : AppImage) (ls : List (Fin 4)) (s : State) : State :=
  markPages (imagePages a) (ls.foldl (fun t l =>
    { t with mems := t.mems.set (coreP l).val (writeSections a t.mems[coreP l]) (coreP l).isLt }) s)

/-- The sequencer takes the task table of an image. -/
def takeImage (a : AppImage) (s : State) : State :=
  { s with cys := { s.cys with
      app := some a
      tasks := Vector.ofFn (fun n =>
        let t := s.cys.tasks[n]
        match a.tasks[n] with
        | some _ => { t with state := if t.state = .notConfigured then .idle else t.state }
        | none => { t with state := .notConfigured }) } }

/-- A new image's parts of R184's result entry. -/
def imageResult (code : Nat) (s : State) : State := { s with cys := { s.cys with result := code } }

/-- An image refused by R170: IMAGE_REFUSED for codes 16-20, OLC_REFUSED for 21-27. -/
def imageRefuse (code index : Nat) (f : List Byte) (need avail : Nat) (s : State) : State :=
  imageResult code (if code ≤ 20 then record 9 0x8009 code (leAt f 0xC 4) index s
    else record 9 0x800C code need avail s)

/-- The stored application the Kiln loads (R445): the first copy that passes, or the first failing code of each. -/
def storedImage (b : Boot) : List Byte ⊕ (Nat × Nat) :=
  match imageCheck none b.appA, imageCheck none b.appB with
  | none, _ => .inl b.appA
  | some _, none => .inl b.appB
  | some x, some y => .inr (x.1, y.1)

/-- The application of a bank timeout's check at a write (R257): the stored and the running one. -/
def timedImages (s : State) : List AppImage :=
  (match storedImage s.boot with
    | .inl f => [readImage f 0]
    | .inr _ => []) ++ s.cys.app.toList

end Sys2Proof.Machine
end

