-- ==== Sys2Proof/Machine/SeqOps.lean ====
section
/-! DEFINITION. What a tick does to the tasks (R146, R156, R157, R162), the close of a cycle with R178, the migration
of an online change (R177), and the executive's register writes. -/

namespace Sys2Proof.Machine

/-- The executive, awake, writes a register of the voted region. -/
def execWrite (k : Fin 8) (a : Nat) (v : Reg32) (s : State) : State :=
  writeReg k a v (mirrorShadow (mapCores (execCores k s) (fun c => { c with wfi := false }) s))

/-- A release that is not latched (R156, R157). -/
def Task.skipped (t : Task) : Task :=
  { t with skipNext := false, skip := inc16 t.skip, skips := inc32 t.skips, skipNow := t.skipNow + 1 }

/-- A release that is latched: the cycle number and the release tick (R144, R147). -/
def Task.released (t : Task) (n k : Int) : Task :=
  { t with cycle := (n / k).toNat, relNs := n * 250000 }

/-- Does the release of a task find it idle and not due to be skipped (R156)? -/
def Task.ready (t : Task) : Bool := decide (t.state = .idle) && !t.skipNext

/-- The grid releases task `n` at tick `t` (R144). -/
def releasedAt (t : Int) (s : State) (n : Fin 8) : Bool :=
  match taskCfg s n with
  | some c => decide (t % (max 1 c.period : Nat) = 0) && decide ((s.cys.tasks[n]).state ≠ .stopped)
  | none => false

/-- A task at the first tick after a step of network time (R162): `old` is the last tick executed. -/
def Task.stepped (t : Task) (forward : Bool) (old now k : Int) : Task :=
  { t with step := true
           skipNow := if forward then
               (if t.lastLatch.isSome then t.skipNow + ((now - 1) / k - old / k).toNat else t.skipNow)
             else 0 }

/-- The first tick after a step (R162): SEQ_TIME_STEP, and STEP and SKIP of the tasks. -/
def seqStep (now : Int) (s : State) : State :=
  match s.cys.stepPend with
  | none => s
  | some (fwd, _) =>
    let old : Int := s.cys.tick.toNat
    let passed := if fwd then min 0xFFFFFFFF (now - old - 1).toNat else 0
    let s1 := { s with cys := { s.cys with
        stepPend := none
        tasks := Vector.ofFn (fun n => match taskCfg s n with
          | some c => (s.cys.tasks[n]).stepped fwd old now (max 1 c.period : Nat)
          | none => s.cys.tasks[n]) } }
    raise 302 (record 9 0x8004 (if fwd then 1 else 2) passed (now.toNat % 2 ^ 32) s1)

/-- The tick after a switch (R177 step 5): OLC_SWITCHED, result 2. -/
def seqSwitched (s : State) : State :=
  match s.cys.olc, s.cys.staged, s.cys.switchedFrom, s.cys.app with
  | .switching, none, some old, some a =>
    raise 301 (record 9 0x800B old a.build s.cys.switchBytes
      { s with cys := { s.cys with olc := .none, result := 2, need := 0 } })
  | _, _, _, _ => s

/-- The tasks released at a tick are latched, or skipped (R146, R156, R157). -/
def seqRelease (now : Int) (s : State) : State :=
  let go := (configured s).filter (fun n => releasedAt now s n && (s.cys.tasks[n]).ready)
  { s with cys := { s.cys with
      latchQ := s.cys.latchQ ++ go
      tasks := Vector.ofFn (fun n =>
        let t := s.cys.tasks[n]
        match taskCfg s n with
        | some c =>
          if releasedAt now s n then (if t.ready then t.released now (max 1 c.period : Nat) else t.skipped) else t
        | none => t) } }

/-- The first latch of the queue begins; with none to make, held commits start (R146, R149). -/
def seqLatch (s : State) : State :=
  match s.cys.latchQ with
  | [] => releaseHeld s
  | n :: _ => if (s.cys.tasks[n]).state = .latch then s else beginLatch n s

/-- Tick `now` is executed (R145, R146, R152, R154, R162, R177). -/
def seqTick (now : Int) (s : State) : State :=
  let s1 := seqStep now s
  let grid := decide (configured s ≠ []) && decide (now % kMin s = 0)
  if grid then
    let s2 := seqSwitched (raise 297 s1)
    let s3 := { s2 with cys := { s2.cys with
        tick := BitVec.ofInt 64 now, gap := false, warned := false, waiting := false, switchGap := false
        olcSameGap := false
        olc := if s2.cys.olc = .switching then .accepted else s2.cys.olc
        bgRunning := s2.cys.bgRunning || decide ((s2.cys.app.map (fun a => a.bgEntry)).getD 0 ≠ 0) } }
    execDispatch (seqLatch (seqRelease now s3))
  else { s1 with cys := { s1.cys with tick := BitVec.ofInt 64 now } }

/-- The Kiln stores a switched image once every task has closed a cycle under it (R178). -/
def storeSwitched (s : State) : State :=
  match s.cys.switchedFrom, s.cys.app with
  | some _, some a =>
    if s.cys.olc ≠ .switching ∧ (configured s).all (fun n => (s.cys.tasks[n]).closedOnce) then
      setBoot (fun b => { b with appA := a.file, appB := a.file })
        { s with cys := { s.cys with switchedFrom := none } }
    else s
  | _, _ => s

/-- A second divergence makes a standby reset itself, without TWR (R324). -/
def twinReset (s : State) : State :=
  if s.twl.resetDue then moduleReset 4 1 (record 8 0x600E 3 0 0 s) else s

/-- A cycle has closed: the next commit starts, R178 may let the image be stored, and R324 may ask for a reset. -/
def afterClose (s : State) : State := twinReset (storeSwitched (startCommit s))

/-! ### The online change switch -/

/-- One piece of 16 octets of a migration entry is copied in every ACTIVE lane; the writes are voted in the mirror
voter and reach the spare (R177 step 2, R83, R84). -/
def migratePiece (src dst : Nat) (s : State) : State :=
  if isRun s then
    let act := activeLanes s
    let e (l : Fin 4) : MirrorEntry :=
      { addr := BitVec.ofNat 40 dst, be := 0xFFFF, data := BitVec.ofNat 128 (leNat (memRead s.mems[coreP l] src 16)) }
    let v := decide3 (fun l => .beat { data := (e l).data, be := 0xFFFF, addr := (e l).addr, attr := 0 }) act
    let s1 := act.foldl (fun t l => applyEntry l (e l) t) s
    let s2 := mirrorDisagree v (dst % 2 ^ 32) (dst / 2 ^ 32) s1
    match v with
    | .forward b | .minority _ _ _ b =>
      let w : MirrorEntry := { addr := b.addr, be := b.be, data := b.data }
      let s3 := fwdPush 0 w (markPages [pageOf dst] s2)
      match spareLane s3 with
      | some l => applyEntry l w s3
      | none => s3
    | _ => s2
  else s

/-- `n` pieces of a migration entry. -/
def migratePieces (src dst : Nat) : Nat → State → State
  | 0, s => s
  | n + 1, s => migratePieces (src + 16) (dst + 16) n (migratePiece src dst s)

/-- Every way of both caches invalidated and the lock masks cleared (R177 step 3). -/
def Core.cacheClear (c : Core) : Core :=
  { ((c.setWord 14 0).setWord 15 0) with icache := [], dcache := [] }

/-- The switch (R177 steps 1-3): the mirror drains, the migration map is copied, caches are invalidated, the
sequencer takes the new task table; the background task will be entered anew. -/
def olcSwitch (s : State) : State :=
  match s.cys.staged with
  | none => s
  | some new =>
    let old := (s.cys.app.map (fun a => a.build)).getD 0
    let s1 := drainMirror s.rot.fifo.length s
    let s2 := new.migrations.foldl (fun t m => migratePieces m.src m.dst (m.length / 16) t) s1
    if isRun s2 then
      let ls := activeLanes s2 ++ (spareLane s2).toList
      let s3 := { s2 with cores := ls.foldl (fun v l =>
        vmod (vmod v (coreP l) Core.cacheClear) (coreS l) Core.cacheClear) s2.cores }
      let s4 := takeImage new s3
      let s5 := mapTasks (fun t => { t with first := true, closedOnce := false, skipNext := false }) s4
      openRegions ls { s5 with cys := { s5.cys with
        staged := none, switchedFrom := some old, switchBytes := mapOctets new, olc := .switching
        bgRunning := false, saved := Vector.replicate 9 none, current := none } }
    else s2

end Sys2Proof.Machine
end

