-- ==== Sys2Proof/Machine/Xenex.lean ====
section
/-! DEFINITION. The Xenex bus commands of the master and of the roles (chapter 09). -/

namespace Sys2Proof.Machine

/-- The XNB is on a powered, clocked bus that R198 does not stop. -/
def xnLive (s : State) : Bool := s.pwr.on.getLsbD 8 && s.clk.clken0.getLsbD 5 && !s.clk.quiet

/-- A macrocycle starts or is accepted: its INPUT slots are open (R164, R289). -/
def macroOpen (j : BitVec 64) (s : State) : State :=
  let ins := (List.range s.xn.slots.length).filter (fun i =>
    match s.xn.slots[i]? with | some c => c.input | none => false)
  let s1 := setXn (fun x => { x with
    mcycle := j, macros := inc32 x.macros, inputsLeft := ins, dropped := false, slot := none, nextSlot := 0
    req := .none }) s
  raise 192 { s1 with cys := { s1.cys with xnStarted := true, xnComplete := decide (ins = []) } }

/-- A grant that was answered comes into force (R297). -/
def applyGrant (s : State) : State :=
  match s.xn.newGrant with
  | none => s
  | some (i, n) =>
    let s1 := setXn (fun x => { x with grants := x.grants ++ [(i, n)], newGrant := none }) s
    match nodeFin n with
    | some k => setNode k (fun y => { y with state := 2, miss := 0, driftRun := 0 }) s1
    | none => s1

/-- MACROCYCLE_START (R280, R289, R291, R296): CYCLE_START leaves at T_m. -/
def execMacrocycleStart (dt : Nat) (coll : BitVec 2) (s : State) : Out :=
  let s0 := advance dt s
  if s0.xn.role = .master ∧ xnLive s0 = true then
    let j := BitVec.ofInt 64 (xnNumber s0)
    let s1 := (allFin 64).foldl (fun t n => nodeMacroBegin n (nodeMacroEnd n t)) s0
    let s2 := applyGrant (macroOpen j s1)
    let tko := decide (0 < s2.xn.tko)
    let tm := (xnNumber s0 * (s2.xn.macro_ : Nat) - xnLead s0) * 1000
    let (sec, ns) := splitNs tm
    let fl := b2n s2.tim.timeLocal + 2 * b2n s2.tim.uncert + 4 * b2n tko
    let body := leBytes 8 j.toNat ++ leBytes 4 ns ++ leBytes 6 sec ++
      [BitVec.ofNat 8 fl, BitVec.ofNat 8 s2.xn.epoch] ++ leBytes 4 s2.xn.schedCrc
    let s3 := setXn (fun x => { x with
      tko := x.tko - 1, lastTko := tko, master := x.addr
      txArea := s2.vmem.filter (fun c => decide (xnTx ≤ c.1) && decide (c.1 < xnTx + 0x4000)) }) s2
    .next (xnEcho coll (xnSend 1 0 0 body s3))
  else .next s0

/-- The acyclic message octets (R300). -/
def acycBytes (m : AcycMsg) : List Byte :=
  [m.cmd, m.tag, m.route, m.seg] ++ leBytes 2 m.index.toNat ++ [m.sub, 0] ++ leBytes 4 m.value.toNat ++ m.data

/-- The request a gateway transfer sends next (R301). -/
def acycRequest (a : Acyc) : AcycMsg :=
  let chunk := if a.write then a.data.take 112 else []
  let last := if a.write then decide (a.data.length ≤ 112) else true
  { cmd := if a.begun then 3 else if a.write then 2 else 1, tag := BitVec.ofNat 8 a.tag
    route := BitVec.ofNat 8 a.route, seg := BitVec.ofNat 8 (b2n a.toggle + 2 * b2n last)
    index := BitVec.ofNat 16 a.index, sub := BitVec.ofNat 8 a.sub
    value := BitVec.ofNat 32 (if a.write && !a.begun then a.total else 0), data := chunk }

/-- The answer to a node's own request (R301, R303). -/
def nodeAnswer (r : NodeReq) : AcycMsg :=
  match r.answer.getD (.done []) with
  | .done d => { cmd := 6, tag := BitVec.ofNat 8 r.tag, route := 0, seg := 2, index := BitVec.ofNat 16 r.index
                 sub := BitVec.ofNat 8 r.sub, value := BitVec.ofNat 32 d.length, data := d.take 112 }
  | .abort c => { cmd := 7, tag := BitVec.ofNat 8 r.tag, route := 0, seg := 2, index := BitVec.ofNat 16 r.index
                  sub := BitVec.ofNat 8 r.sub, value := BitVec.ofNat 32 c, data := [] }

/-- The ACTIVE node after the one offered to last (R302). -/
def nextOffer (x : Xenex) : Option Nat :=
  let act := (allFin 64).filter (fun n => decide ((x.nodes[n]).state = 2))
  match act.find? (fun n => decide (x.offered < n.val)) with
  | some n => some n.val
  | none => act.head?.map (fun n => n.val)

/-- An offer to the node of the slot, or to the ACTIVE node next in turn (R302). -/
def acycOffer (n : Nat) (s : State) : State :=
  let x := s.xn
  let target := if n = 0 then nextOffer x
    else match nodeFin n with
      | some k => if (x.nodes[k]).state = 2 then some n else none
      | none => none
  match target with
  | none => s
  | some k =>
    xnSend 4 0 k (acycBytes { cmd := 5, tag := 0, route := 0, seg := 2, index := 0, sub := 0, value := 0, data := [] })
      (setXn (fun y => { y with req := .offer k, offered := k }) s)

/-- What an acyclic slot for node `n` (0: any) carries (R302). -/
def acycSlot (n : Nat) (s : State) : State :=
  let x := s.xn
  let serves (k : Nat) : Bool := decide (n = 0) || decide (n = k)
  match x.nodeReqs.find? (fun r => serves r.node && r.answer.isSome) with
  | some r =>
    xnSend 4 0 r.node (acycBytes (nodeAnswer r))
      (setXn (fun y => { y with req := .answer r.node, nodeReqs := y.nodeReqs.filter (fun q => decide (q ≠ r)) }) s)
  | none =>
    match x.acyc with
    | some a =>
      if serves a.node then
        xnSend 4 0 a.node (acycBytes (acycRequest a))
          (setXn (fun y => { y with req := .acyc a.node, acyc := some { a with sent := true } }) s)
      else acycOffer n s
    | none => acycOffer n s

/-- CLAIM_OPEN with the answer to the last claim (R297, R298). -/
def claimOpen (s : State) : State :=
  let (ga, gc, gs, tx, rx) := s.xn.claimAnswer
  let body := [BitVec.ofNat 8 ga, BitVec.ofNat 8 gc] ++ leBytes 2 gs ++
    [BitVec.ofNat 8 s.xn.epoch, 0, BitVec.ofNat 8 tx, BitVec.ofNat 8 rx]
  xnSend 6 0 0 body (setXn (fun x => { x with
    req := .claimOpen, claims := [], claimAnswer := (0, 0, 0xFFFF, 0, 0)
    newGrant := if ga ≠ 0 ∧ gc = 0 then some (gs, ga) else x.newGrant }) s)

/-- The request of a polled slot (R286, R289, R292). -/
def pollSlot (i : Nat) (c : XSlot) (s : State) : State :=
  let n := slotNode s.xn i
  match nodeFin n with
  | none => s
  | some k =>
    let d := s.xn.nodes[k]
    if d.state = 2 ∧ d.probes = 2 then putResult i 8 s
    else if d.state = 4 then
      if d.count % 16 = 0 ∧ firstSlot s.xn n = i then
        xnSend 2 1 n [] (setXn (fun x => { x with req := .probe n }) (putResult i 8 s))
      else putResult i 8 s
    else
      xnSend 2 0 n (memRead s.xn.txArea (xnTx + c.txOff) c.tx) (setXn (fun x => { x with req := .poll n }) s)

/-- SLOT_START (R286, R288, R292, R297, R302): the master's request of a slot; a FOLLOWER only follows. -/
def execSlotStart (dt slot : Nat) (coll : BitVec 2) (s : State) : Out :=
  let s0 := advance dt s
  if s0.xn.dropped = true ∨ xnLive s0 = false then .next s0
  else
    match s0.xn.slots[slot]?, s0.xn.role with
    | some c, .master =>
      let s1 := setXn (fun x => { x with slot := some slot, nextSlot := slot + 1, req := .none, judged := false, rejected := false
                                         reqColl := decide (coll = 3) }) s0
      let s2 := if slotPolled s1.xn slot then pollSlot slot c s1
        else if c.kind = 2 then acycSlot c.node (putResult slot 9 s1)
        else if c.kind = 4 then claimOpen (putResult slot 9 s1)
        else putResult slot 9 s1
      .next (if s2.xn.req = .none then s2 else xnEcho coll s2)
    | some _, .follower =>
      .next (setXn (fun x => { x with slot := some slot, nextSlot := slot + 1, req := .none, judged := false, rejected := false
                                      reqColl := false }) s0)
    | _, _ => .next s0

/-- The node of a slot missed its poll (R287): its result, and a probe unanswered (R292). -/
def slotUnanswered (i : Nat) (s : State) : State :=
  let res := if s.xn.reqColl then 7 else if s.xn.rejected then 4 else 3
  match s.xn.req with
  | .poll n =>
    match nodeFin n with
    | some k => setNode k (fun y => { y with lastResult := res }) (putResult i res s)
    | none => s
  | .probe n =>
    match nodeFin n with
    | some k => setNode k (fun y => { y with probes := 0 }) s
    | none => s
  | .acyc _ =>
    match s.xn.acyc with
    | some a => if 3 ≤ a.tries then acycAbort 0x05040000 s
      else setXn (fun x => { x with acyc := some { a with tries := a.tries + 1 } }) s
    | none => s
  | _ => s

/-- A slot is complete: INPUTS_DONE with the last INPUT slot (R289). -/
def slotDone (slot : Nat) (s : State) : State :=
  let left := s.xn.inputsLeft.filter (fun k => decide (k ≠ slot))
  let was := s.xn.inputsLeft
  let s1 := setXn (fun x => { x with inputsLeft := left, slot := none, req := .none }) s
  if was ≠ [] ∧ left = [] then raise 193 { s1 with cys := { s1.cys with xnComplete := true } } else s1

/-- The bus's schedule differs from the module's own (R295): recorded once per epoch. -/
def noteSchedule (crc src : Nat) (s : State) : State :=
  if crc = s.xn.schedCrc then setXn (fun x => { x with schMis := false }) s
  else
    let s1 := setXn (fun x => { x with schMis := true, misNoted := true }) s
    if s.xn.misNoted then s1 else record 6 0x400E s.xn.schedCrc crc src s1

/-- A FOLLOWER accepts a CYCLE_START (R291, R294, R295). -/
def followStart (src : Nat) (f : CycleStart) (s : State) : State :=
  let s1 := if s.xn.role = .follower then s else xnRole .follower 0 s
  let s2 := if f.epoch.toNat = s1.xn.epoch then s1
    else newEpoch f.epoch.toNat s1
  let s3 := setXn (fun x => { x with master := src }) s2
  macroOpen f.mcycle (noteSchedule f.schedCrc.toNat src s3)

/-- A master hears another (R296): it yields unless its own last CYCLE_START carried TKO and the other's does not, or
with equal TKO its address is the lower one. -/
def masterHears (src : Nat) (tko : Bool) (s : State) : Bool × State :=
  let keep := if s.xn.lastTko = tko then decide (s.xn.addr < src) else s.xn.lastTko
  let s1 := raise 203 (record 6 0x4004 src (if keep then 2 else 1) (b2n tko) s)
  if keep then (false, s1) else (true, xnRole .follower 0x4004 s1)

/-- An accepted CYCLE_START (R294, R295, R296). -/
def cycleStart (src : Nat) (f : CycleStart) (s : State) : State :=
  match s.xn.role with
  | .off => s
  | .listen | .follower => followStart src f s
  | .contend | .backoff => followStart src f (xnRole .listen 0 s)
  | .master =>
    let (yielded, s1) := masterHears src (f.tflags.getLsbD 2) s
    if yielded then followStart src f s1 else s1

/-- CYCLE_START_RECEIVED. -/
def execCycleStartReceived (dt : Nat) (src : BitVec 6) (frame : CycleStart) (s : State) : Out :=
  let s0 := advance dt s
  if xnLive s0 then .next (cycleStart src.toNat frame s0) else .next s0

/-- XENEX_SILENCE_TIMEOUT (R294): T_sil in LISTEN or FOLLOWER; a cold-start-capable station contends. -/
def execXenexSilenceTimeout (dt : Nat) (s : State) : Out :=
  let s0 := advance dt s
  if s0.xn.csCap && xnLive s0 && (decide (s0.xn.role = .listen) || decide (s0.xn.role = .follower)) then
    .next (xnRole .contend 0 s0)
  else .next s0

/-- CONTEND_DELAY_END (R281, R294): COLDSTART leaves on both channels. -/
def execContendDelayEnd (dt : Nat) (s : State) : Out :=
  let s0 := advance dt s
  if (s0.xn.role = .contend ∨ s0.xn.role = .backoff) ∧ xnLive s0 = true then
    .next (setXn (fun x => { x with coldSending := true })
      (xnSend 8 0 0 (leBytes 4 s0.xn.schedCrc ++ leBytes 4 s0.xn.macro_) s0))
  else .next s0

/-- COLDSTART_END (R294): the station becomes MASTER with a new EPOCH. -/
def execColdstartEnd (dt : Nat) (s : State) : Out :=
  let s0 := advance dt s
  if s0.xn.coldSending then
    let e := s0.xn.lastEpoch % 255 + 1
    let s1 := record 6 0x4002 s0.xn.addr s0.xn.contendColl e
      (setXn (fun x => { x with coldSending := false }) (newEpoch e s0))
    .next (xnRole .master 0x4002 (setXn (fun x => { x with master := x.addr, schMis := false, tko := 0
                                                           lastTko := false }) s1))
  else .next s0

/-- XN_COLLISION (R274, R294): an own COLDSTART collides; the station backs off. -/
def execXnCollision (coll : BitVec 2) (s : State) : Out :=
  if s.xn.coldSending then
    let s1 := record 6 0x4003 (if s.xn.role = .contend then 1 else 2) coll.toNat 0
      (setXn (fun x => { x with coldSending := false, collCold := satAdd 0xFFFFFFFF x.collCold (b2n (coll.getLsbD 0) + b2n (coll.getLsbD 1))
                                contendColl := x.contendColl + 1 }) s)
    .next (xnRole .backoff 0x4003 s1)
  else .next s

/-- CARRIER_DETECTED (R294): carrier before the delay ends. -/
def execCarrierDetected (s : State) : Out :=
  if (s.xn.role = .contend ∨ s.xn.role = .backoff) ∧ s.xn.coldSending = false then .next (xnRole .listen 0 s)
  else .next s

/-- A takeover commanded by the twin logic (R294, R296). -/
def xnbTakeover (s : State) : State :=
  if s.xn.role = .follower ∧ s.xn.schMis = false then
    xnRole .master 0 (setXn (fun x => { x with tko := 16, lastTko := false, master := x.addr }) s)
  else s

/-- XNB_TAKEOVER. -/
def execXnbTakeover (s : State) : Out := .next (xnbTakeover s)

/-- A release commanded by the twin logic (R294). -/
def xnbRelease (s : State) : State := if s.xn.role = .master then xnRole .follower 0 s else s

/-- XNB_RELEASE. -/
def execXnbRelease (s : State) : Out := .next (xnbRelease s)

/-- The answer to a claim (R297, R298): GADDR, GCAUSE, GSLOT, TXLEN, RXLEN. -/
def claimAnswer (x : Xenex) (src tx rx : Nat) : Nat × Nat × Nat × Nat × Nat :=
  let taken := x.grants ++ x.newGrant.toList
  if x.claimEn = false then (src, 3, 0xFFFF, 0, 0)
  else if x.slots.any (fun c => decide (c.kind = 1) && decide (c.node = src)) = true ∨
      src ∈ taken.map (fun g => g.2) then (src, 2, 0xFFFF, 0, 0)
  else
    match (List.range x.slots.length).find? (fun i =>
        match x.slots[i]? with
        | some c => decide (c.kind = 3) && decide (i ∉ taken.map (fun g => g.1)) && decide (tx ≤ c.tx) &&
            decide (rx ≤ c.rx)
        | none => false) with
    | none => (src, 1, 0xFFFF, 0, 0)
    | some i => match x.slots[i]? with
      | some c => (src, 0, i, c.tx, c.rx)
      | none => (src, 1, 0xFFFF, 0, 0)

/-- A claim in the claim slot (R297, R299): the second one of a macrocycle collides with the first. -/
def claimHeard (src tx rx : Nat) (s : State) : State :=
  if s.xn.role = .master then
    let s1 := setXn (fun x => { x with claims := x.claims ++ [(src, tx, rx)] }) s
    if s.xn.claims = [] then
      let a := claimAnswer s.xn src tx rx
      raise 200 (record 6 0x400D src a.2.2.1 a.2.1 (setXn (fun x => { x with claimAnswer := a }) s1))
    else setXn (fun x => { x with claimAnswer := (0, 0, 0xFFFF, 0, 0) }) s1
  else s

/-- CLAIM_RECEIVED. -/
def execClaimReceived (src : BitVec 6) (tx rx : BitVec 8) (s : State) : Out :=
  .next (claimHeard src.toNat tx.toNat rx.toNat s)

/-- The late end of coast for a master (R294): its last frame is 2 × M_max old or older. -/
def xnCoastEnd (s : State) : State :=
  if s.xn.role = .master ∧ (2000 * xnMax s.xn : Nat) ≤ s.tim.elapsed - s.xn.lastFrame then xnRole .listen 0 s else s

end Sys2Proof.Machine
end

