-- ==== Sys2Proof/Machine/ClkOps.lean ====
section
/-! DEFINITION. The clock tree's operations: validity and choice of a reference (R185-R189), ramps (R194, R195), what
coast does to the interfaces (R198), links (R187, R359), and the uncertainty of time (R218). -/

namespace Sys2Proof.Machine

/-- The clock side of the CTU changed. -/
def setClk (f : Clk → Clk) (s : State) : State := { s with clk := f s.clk }

/-- The time side of the CTU changed. -/
def setTim (f : Tim → Tim) (s : State) : State := { s with tim := f s.tim }

/-! ### The uncertainty of time -/

/-- Time becomes uncertain by coast (R196, R218): at step 1 of the ramp into coast. -/
def coastUncertain (s : State) : State :=
  uncertEdge s.tim.uncert 1 (errBoundReg s) (setTim (fun t => { t with uncCoast := true }) s)

/-- The first lock of the root (R218, R199). -/
def firstLock (s : State) : State :=
  uncertEdge s.tim.uncert 0 (errBoundReg s) (setTim (fun t => { t with uncNoLock := false }) s)

/-- The error bound against the uncertainty threshold (R218); `servo` after a servo update, which ends the condition of
coast outside coast. -/
def boundCheck (servo : Bool) (s : State) : State :=
  let eb := errBoundReg s
  let above := decide (par s 0x2310 9 < eb)
  let inCoast := s.clk.coast || decide (s.clk.target = 3 ∧ s.clk.state = .switching) || decide (s.clk.state = .coast)
  uncertEdge s.tim.uncert 2 eb (setTim (fun t =>
    { t with uncBound := !t.timeLocal && above
             uncCoast := t.uncCoast && !(servo && !above && !inCoast) }) s)

/-! ### References -/

/-- May a source be valid (R186, R187)? Enabled in the mask; a port also powered, linked at 1000BASE-T and timing
slave, out of coast. -/
def sourceOpen (n : Fin 3) (s : State) : Bool :=
  s.clk.mask.getLsbD n.val &&
    (decide (n = 2) || (s.pwr.on.getLsbD 6 && decide (portSpd s.lnc n = 2) && s.clk.role.getLsbD n.val && !s.clk.quiet))

/-- The most preferred valid source, or 3 for coast (R185, R189). -/
def bestSource (c : Clk) : Nat :=
  if c.valid.getLsbD 0 then 0 else if c.valid.getLsbD 1 then 1 else if c.valid.getLsbD 2 then 2 else 3

/-- A ramp to a source or to coast begins (R194); a measurement in progress is void (R205). -/
def startRamp (target : Nat) (s : State) : State :=
  let s1 := setClk (fun c =>
    { c with state := .switching, target := target, fromRef := c.ref, rampStep := 1, ramps := inc16 c.ramps
             rampAt := s.tim.frc, fmRamped := true }) s
  if target = 3 then coastUncertain s1 else s1

/-- A source has become invalid (R189, R195): lost as the reference or as the target of a ramp, or only noted. -/
def refLoss (src cause : Nat) (s : State) : State :=
  let s1 := setClk (fun c => { c with valid := putBit c.valid src false }) s
  let lost (t : State) : State := raise 64 (record 2 0x2002 src cause (t.tim.frc.toNat % 2 ^ 32) t)
  match s.clk.state with
  | .locked =>
    if s.clk.ref = src then startRamp (bestSource s1.clk) (lost (setClk (fun c => { c with lock := false }) s1)) else s1
  | .switching =>
    if s.clk.target = src ∧ s.clk.rampStep ≤ 5 then
      let s2 := setClk (fun c => { c with target := bestSource c }) (lost s1)
      if s2.clk.target = 3 then coastUncertain s2 else s2
    else if s.clk.target = src then setClk (fun c => { c with lostCause := cause }) s1
    else s1
  | _ => s1

/-- Reselection in LOCKED and COAST (R189): a more preferred source under revertive selection, the TCXO in coast; not
while a ramp is in progress (R195). -/
def reselect (s : State) : State :=
  match s.clk.state with
  | .locked =>
    if !s.clk.valid.getLsbD s.clk.ref then refLoss s.clk.ref s.clk.lostCause s
    else if s.clk.revert && decide (bestSource s.clk < s.clk.ref) && decide (s.clk.rampStep = 0) then
      startRamp (bestSource s.clk) s
    else s
  | .coast => if s.clk.valid.getLsbD 2 && decide (s.clk.rampStep = 0) then startRamp 2 s else s
  | _ => s

/-- A source is valid (R186). -/
def sourceValid (n : Fin 3) (s : State) : State :=
  if sourceOpen n s then reselect (setClk (fun c => { c with valid := putBit c.valid n.val true }) s) else s

/-! ### Links -/

/-- The speed of a port's link changes (R359): LINK_CHANGE, interrupt 240 for ports 0 and 1; a link that is no longer
at 1000BASE-T gives no recovered clock (R186). -/
def linkSet (p : Fin 4) (spd : Nat) (s : State) : State :=
  let old := if h : p.val < 2 then s.lnc.spd[p.val] else s.cpn.spd[p.val - 2]
  if old = spd then s
  else
    let s1 := if h : p.val < 2 then raise 240 (setLnc (fun l => { l with spd := l.spd.set p.val spd }) s)
      else { s with cpn := { s.cpn with spd := s.cpn.spd.set (p.val - 2) spd (by omega) } }
    let s2 := record 7 0x5001 p.val spd 0 s1
    if p.val < 2 ∧ spd ≠ 2 ∧ s2.clk.valid.getLsbD p.val = true then refLoss p.val 3 s2 else s2

/-- The selected master, or self as grandmaster, changes (R223, R236): GM_CHANGE; the estimate restarts (R220). -/
def gmSet (m : Option Master) (self : Bool) (s : State) : State :=
  let same := match s.tim.master, m with
    | some a, some b => decide (a.identity = b.identity ∧ a.port = b.port)
    | none, none => true
    | _, _ => false
  if same && decide (s.tim.gmSelf = self) then setTim (fun t => { t with master := m }) s
  else
    let id := match m with | some x => x.gm.toNat | none => 0
    let port := match m with | some x => x.port.val | none => 0xFF
    let s1 := setTim (fun t =>
      { t with master := m, gmSelf := self, hold := false, lastSeq := none, sync := none, accepted := 0, estimate := 0
               arb := if self then !t.hadTai else t.arb }) s
    boundCheck false (raise 84 (record 2 0x2013 (id / 2 ^ 32) (id % 2 ^ 32) port s1))

/-- Coast takes the interfaces out of service (R198): the PHYs' links go down, the CAN FD controllers leave the bus, no
master is selected (R502). -/
def netsQuiet (s : State) : State :=
  let s1 := (allFin 4).foldl (fun t p => linkSet p 0 t) s
  gmSet none false { s1 with
    cfd := { s1.cfd with chans := s1.cfd.chans.map (fun c => { c with bus := 3 }) } }

/-! ### Ramps -/

/-- The root has moved to its target (R194 step 5): LOCK, or COAST with its event. -/
def rootMoved (s : State) : State :=
  let c := s.clk
  let s1 := setClk (fun c => { c with rampStep := 6, ref := c.target }) s
  if c.target = 3 then
    let s2 := setClk (fun c => { c with lock := false, coast := true, quiet := true, coastAt := s.tim.frc
                                        coastEntries := if c.coast then c.coastEntries else inc32 c.coastEntries }) s1
    if c.coast then s2
    else netsQuiet (raise 66 (record 2 0x2004 c.fromRef (b2n c.emberFail) (s.tim.frc.toNat % 2 ^ 32) s2))
  else firstLock (setClk (fun c => { c with lock := true, coast := false }) s1)

/-- The ramp is complete (R194 step 9, R189): REF_SWITCH, or COAST_EXIT with the interfaces released. -/
def rampDone (s : State) : State :=
  let c := s.clk
  if c.target = 3 then reselect (setClk (fun c => { c with rampStep := 0, state := .coast }) s)
  else
    let s1 := setClk (fun c => { c with rampStep := 0, state := .locked, quiet := false }) s
    let s2 := if c.fromRef = 3 then
        xnCoastEnd (raise 67 (record 2 0x2005 c.target ((s.tim.frc - c.coastAt).toNat / 500000) 0 s1))
      else
        raise 65 (record 2 0x2003 c.fromRef c.target (2 * (s.tim.frc - c.rampAt).toNat)
          (setClk (fun c => { c with refSwitches := inc32 c.refSwitches }) s1))
    reselect s2

end Sys2Proof.Machine
end

