-- ==== Sys2Proof/Machine/TimOps.lean ====
section
/-! DEFINITION. Network time: steps and slews (R221, R222), the servo (R220), and the best master clock algorithm
(R223). -/

namespace Sys2Proof.Machine

/-- The signed ns and seconds of a step, as TIME_STEP gives them (R237). -/
def stepParts (v : Int) : Int × Int :=
  let ns := v / 65536
  let sec := ns.tdiv 1000000000
  (ns.tmod 1000000000, sec)

/-- A step of network time by `v`, 2^-16 ns (R221): the step sum, TIME_STEP, the sequencer (R162), the banks (R231),
the XNB (R293), and the first step's end of TIME_LOCAL; `lock` is whether that step may end it (R322). -/
def stepTime (v : Int) (lock : Bool) (s : State) : State :=
  let first := s.tim.timeLocal && lock
  let (ns, sec) := stepParts v
  let was := s.tim.uncert
  let s1 := setTim (fun t =>
    { t with offset := t.nt + v, frcRef := t.frc, sl := 0, busy := false, stepSum := t.stepSum + v, steps := inc32 t.steps
             stepCnt := (t.stepCnt + 1) % 16, stepSince := true, rebased := true
             timeLocal := t.timeLocal && !lock }) s
  let s2 := raise 80 (record 2 0x2010 (int32 ns) (int32 sec) (if first then 1 else 2) s1)
  let s3 := if first then raise 83 s2 else s2
  let s4 := if s3.cys.run then
      { s3 with cys := { s3.cys with
          stepPend := some (decide (0 ≤ v), s3.tim.ns + (gapLen s3 + 5) * 1000)
          tasks := s3.cys.tasks.map (fun t => { t with step := true }) } }
    else s3
  uncertEdge was 2 (errBoundReg s4) (xnStep s4)

/-- FRC counts a slew of `v` takes at |SL| = `sl` (R222). -/
def slewCounts (v : Int) (sl : Int) : Nat := (v.natAbs * 4294967296 + 131072 * sl.natAbs - 1) / (131072 * max 1 sl.natAbs)

/-- A slew by `v`, 2^-16 ns, replaces any slew in progress (R222); a slew of nothing has been applied at once. -/
def slewTime (v : Int) (s : State) : State :=
  let sl := slOf s.tim.slewPpm
  if v = 0 then raise 88 (setTim (fun t => { t.rebase with sl := 0, busy := false }) s)
  else
    setTim (fun t => { t.rebase with
      sl := if 0 < v then sl else -sl, busy := true
      slewEnd := t.frc + BitVec.ofNat 64 (slewCounts v sl) }) s

/-- A slew has been fully applied (R222): SL returns to 0 at the count at which it was. -/
def slewDone (s : State) : State :=
  if s.tim.busy && decide (s.tim.slewEnd.toNat ≤ s.tim.frc.toNat) then
    raise 88 (setTim (fun t =>
      { t with offset := t.ntAt t.slewEnd.toNat, frcRef := t.slewEnd, sl := 0, busy := false, rebased := true }) s)
  else s

/-- A 32-bit signed saturation (CTU_LASTOFS). -/
def sat32 (v : Int) : Int := clampInt (-2147483647) 2147483647 v

/-- The servo after an accepted Sync with offset `o`, 2^-16 ns (R220): a step or a slew, and the frequency estimate,
which the spec does not compute: `rate` gives it, or a free value stands for it (log 3). -/
def servo (o : Int) (lock : Bool) (rate : Option Int) (s : State) : State :=
  let big := decide (par s 0x2310 7 * 65536 < o.natAbs)
  let first := !s.tim.everAccepted
  let s1 := setTim (fun t =>
    { t with lastOfs := sat32 (o / 65536), lastAt := some t.elapsed, everAccepted := true, hold := false
             accepted := t.accepted + 1, estimate := min 8 (t.estimate + 1) }) s
  let s2 := if first || big then stepTime (-o) lock s1 else slewTime (-o) s1
  let s3 := match rate with
    | some r => setRate r s2
    | none =>
      if 2 ≤ s2.tim.estimate then
        let (w, t) := drawWord s2
        setRate (w.setWidth 32).toInt t
      else s2
  boundCheck true s3

/-! ### The ordinary clock -/

/-- clockIdentity of the module: its MAC address extended to EUI-64 (PRESUMED from IEEE 1588). -/
def ownIdentity (s : State) : BitVec 64 :=
  let m := BitVec.ofNat 48 s.lnc.mac
  (m.extractLsb' 0 8) ++ (m.extractLsb' 8 8) ++ (m.extractLsb' 16 8) ++ (0xFFFE : BitVec 16) ++ (m.extractLsb' 24 8) ++
    (m.extractLsb' 32 8) ++ (m.extractLsb' 40 8)

/-- A data set in the order in which the default best master clock algorithm compares: priority1, clockClass,
accuracy, variance, priority2, grandmaster identity, stepsRemoved; the lower is the better. -/
def bmcaRank (p1 cls acc var p2 gm steps : Nat) : Nat :=
  (((((p1 * 256 + cls) * 256 + acc) * 65536 + var) * 256 + p2) * 2 ^ 64 + gm) * 65536 + steps

/-- The module's own data set, as master-capable: clockClass 248 (R223); accuracy and variance are the protocol's
values for "unknown" (PRESUMED from IEEE 1588). -/
def ownRank (s : State) : Nat :=
  bmcaRank (par s 0x2310 3) 248 0xFE 0xFFFF (par s 0x2310 4) (ownIdentity s).toNat 0

/-- Is the module master-capable (0x2310 subindex 2)? -/
def masterCapable (s : State) : Bool := parOn s 0x2310 2

/-- The ordinary clock runs: PD6 and the switch microcode up, out of coast, and time is not taken from TIME frames
(R502, R322). -/
def clockRuns (s : State) : Bool :=
  switchOn s && decide (LoadTarget.switch ∈ s.boot.loadOk) && !passive s

/-- The algorithm's choice after an Announce of a master (R223). -/
def bmcaChoose (m : Master) (s : State) : State :=
  let better := masterCapable s && decide (ownRank s < m.rank)
  match s.tim.master with
  | some cur =>
    if cur.identity = m.identity ∧ cur.port = m.port then
      if better then gmSet none true s else gmSet (some m) false s
    else if m.rank < cur.rank ∧ better = false then gmSet (some m) false s
    else s
  | none => if better then gmSet none true s else gmSet (some m) false s

/-- Mean link delay plus asymmetry of a port, 2^-16 ns; none while not valid (R225). -/
def portDelay (p : Fin 2) (s : State) : Option Int :=
  let d := s.tim.delay[p]
  if d.valid then some (d.mean + parInt s 0x2310 (11 + p.val) 32 * 65536) else none

/-- A Sync with its Follow_Up accepted or dropped (R224). -/
def acceptSync (w : SyncWait) (origin corr : Int) (s : State) : State :=
  let inSeq := match s.tim.lastSeq with
    | some q => decide (w.seq = q + 1)
    | none => true
  match portDelay w.port s, s.tim.master with
  | some d, some m =>
    if inSeq && decide (s.tim.elapsed ≤ w.due) then
      let o := w.rx - (origin * 65536 + w.corr + corr + d)
      let s1 := servo o true none (setTim (fun t => { t with lastSeq := some w.seq }) s)
      setTim (fun t => { t with arb := !m.tai, hadTai := m.tai }) s1
    else s
  | _, _ => s

end Sys2Proof.Machine
end

