-- ==== Sys2Proof/Machine/StageOps.lean ====
section
/-! DEFINITION. Staging, storing and discarding application images (R174, R257, R330). -/

namespace Sys2Proof.Machine

/-- The image in the buffer of 0x3010: nothing before a complete transfer (R455). -/
def bufferedImage (s : State) : List Byte := if s.boot.appClosed then s.boot.appBuf else []

/-- The staged image goes (R174). -/
def dropStaged (s : State) : State :=
  { s with cys := { s.cys with staged := none, need := 0, olc := .none, olcSameGap := false } }

/-- An image staged beside the running one (R174): loaded into the lanes that are ACTIVE, WEDGING or WEDGED. -/
def stageImage (f : List Byte) (s : State) : State :=
  let a := readImage f 0
  let need := switchNeed a
  let s1 := loadSections a (activeLanes s ++ (spareLane s).toList) s
  imageResult 1 (record 9 0x800A a.appId a.build need
    { s1 with cys := { s1.cys with staged := some a, need := need, olc := .staged } })

/-- An image stored instead of staged: both copies (R174, R445). -/
def storeImage (f : List Byte) (s : State) : State := imageResult 3 (setBoot (fun b => { b with appA := f, appB := f }) s)

/-- Why an image is refused for staging: the first code that applies, its index, need and budget (R170, R174). -/
def stageRefusal (f : List Byte) (s : State) : Option (Nat × Nat × Nat × Nat) :=
  match imageCheck (some (par s)) f with
  | some (c, i) => some (c, i, 0, 0)
  | none =>
    let a := readImage f 0
    match s.cys.app.bind (fun run => stageCheck run a) with
    | some c => some (c, 0, switchNeed a, switchAvail a)
    | none => if s.cys.staged.isSome then some (27, 0, switchNeed a, switchAvail a) else none

/-- Command 1 stages in this state: a RUN state with an application running (R174). -/
def stages (s : State) : Bool := isRun s && s.cys.app.isSome && s.cys.run

/-- Command 1 stores in this state (R174). -/
def stores (s : State) : Bool :=
  decide (s.mod.state = .maintenance) || decide (s.mod.state = .service) || (isRun s && !(s.cys.app.isSome && s.cys.run))

/-- The SDO abort code of a refused image command (R184). -/
def imageAbort (code : Nat) : Nat := if code = 24 ∨ code = 26 ∨ code = 27 then 0x08000022 else 0x08000000

/-- Command 1 of 0x3011 (R170, R174, R257, R330): `peer` is the standby's result code where there is a standby. The
answer is the abort code, or none. -/
def imageStage (peer : Nat) (s : State) : Option Nat × State :=
  let f := bufferedImage s
  if stages s then
    match stageRefusal f s with
    | some (c, i, n, v) => (some (imageAbort c), imageRefuse c i f n v s)
    | none =>
      if s.twl.role = .active ∧ s.twl.peerRole = 2 ∧ 16 ≤ peer then
        let a := readImage f 0
        (some 0x08000000, imageResult peer (record 9 0x800C peer (switchNeed a) (switchAvail a)
          (dropStaged (stageImage f s))))
      else (none, stageImage f s)
  else if stores s then
    match imageCheck (some (stored s)) f with
    | some (c, i) => (some (imageAbort c), imageRefuse c i f 0 0 s)
    | none => (none, storeImage f s)
  else
    match imageCheck (some (stored s)) f with
    | some (c, i) => (some (imageAbort c), imageRefuse c i f 0 0 s)
    | none => (some 0x08000022, imageRefuse 24 0 f 0 0 s)

/-- Command 2 of 0x3011 (R174, R175). -/
def imageDiscard (s : State) : Option Nat × State :=
  match s.cys.staged with
  | none =>
    if s.cys.olc = .switching then (some 0x08000022, imageRefuse 24 0 [] 0 0 s)
    else (some 0x08000022, imageRefuse 26 0 [] 0 0 s)
  | some a =>
    if s.cys.olc = .accepted ∨ s.cys.olc = .switching then
      (some 0x08000022, imageRefuse 24 0 a.file (switchNeed a) (switchAvail a) s)
    else (none, imageResult 4 (dropStaged s))

/-- The standby's part in staging (R330): checked against its own running image, staged or refused back. -/
def standbyStage (f : List Byte) (s : State) : State :=
  match stageRefusal f s with
  | some (c, _, n, v) => imageResult c (record 9 0x800C c n v s)
  | none => stageImage f s

end Sys2Proof.Machine
end

