-- ==== Sys2Proof/Machine/RxOps.lean ====
section
/-! DEFINITION. Frames on their way to the lanes: the filters of 0x2703 (R342, R350), the wait for a receive slot (R343,
R344), and the RXFRAME of a pair (R322). -/

namespace Sys2Proof.Machine

/-- A receive filter matches a frame (R360): a field of 0 matches any value, ten octets of 0 are an unused filter. -/
def filterHits (flt f : List Byte) (vid : Nat) : Bool :=
  let mac := leAt flt 0 6
  let v := leAt flt 6 2
  let et := leAt flt 8 2
  !(flt.all (fun b => decide (b = 0))) && (decide (mac = 0) || decide (mac = macAt f 0)) &&
    (decide (v = 0) || decide (v = vid)) && (decide (et = 0) || decide (et = be16 f 12))

/-- The lowest-numbered filter that matches (R344); `f` carries no tag. -/
def slotFor (flts : List (List Byte)) (f : List Byte) (vid : Nat) : Option Nat :=
  flts.findIdx? (fun flt => filterHits flt f vid)

/-- A frame for the lanes waits for its receive slot, or is dropped and counted (R342). -/
def laneFrame (port : Nat) (tagged : Bool) (vid pcp : Nat) (ns : Int) (f : List Byte) (s : State) : State :=
  match slotFor s.lnc.filters f vid with
  | some k => setLnc (fun l => { l with rxWait := l.rxWait ++
      [{ slot := k, port := port, tagged := tagged, vid := vid, pcp := pcp, ns := ns, octets := f }] }) s
  | none => setLnc (fun l => { l with miss := inc16 l.miss }) s

/-- The 32-octet descriptor of a received frame (R343); `tag` is the TAG field. -/
def rxDescriptor (seq : Nat) (r : RxFrame) (tag : Nat) (s : State) : List Byte :=
  let (sec, ns) := splitNs r.ns
  leBytes 4 seq ++ leBytes 2 r.octets.length ++ leBytes 1 r.port ++ leBytes 1 (b2n r.tagged) ++ leBytes 4 ns ++
    leBytes 6 sec ++ leBytes 2 (b2n s.tim.timeLocal + 2 * b2n s.tim.uncert + 4 * b2n s.clk.coast) ++ leBytes 2 tag ++
    List.replicate 10 0

/-- The slot a latch is copying (R344): the task that is being latched reads it. -/
def slotLatching (k : Nat) (s : State) : Bool :=
  match s.cys.latchQ with
  | n :: _ => decide ((s.cys.tasks[n]).state = .latch) &&
      (match taskCfg s n with | some c => (slotsLatched c).getLsbD k | none => false)
  | [] => false

/-- A frame is written to its slot as one unit (R344). -/
def slotWrite (r : RxFrame) (s : State) : State :=
  let base := lncRx + 0x800 * r.slot
  let seq := leNat (vread s base 4)
  let lost := decide (seq ≠ 0) && !s.lnc.latched.getLsbD r.slot
  let s1 := vwrite base (rxDescriptor ((seq + 1) % 2 ^ 32) r (r.vid + 8192 * r.pcp) s ++ r.octets) s
  raise (224 + r.slot) (setLnc (fun l =>
    { l with overran := if lost then inc16 l.overran else l.overran, latched := putBit l.latched r.slot false }) s1)

/-- The frame goes to the standby as well (R322, R314). -/
def sendRx (port : Nat) (ns : Int) (f : List Byte) (s : State) : State :=
  let (sec, n) := splitNs ns
  if s.twl.role = .active then
    twinSend 4 (leBytes 1 port ++ leBytes 3 0 ++ leBytes 4 n ++ leBytes 6 sec ++ leBytes 2 0 ++ f) s
  else s

end Sys2Proof.Machine
end

