-- ==== Sys2Proof/Machine/KilnNet.lean ====
section
/-! DEFINITION. Frames as the ports tell them apart (R338, R342), the Kiln's answers to ARP and ICMP echo (R351), and
the consist pair's redundancy (R349). -/

namespace Sys2Proof.Machine

/-- 32 bits at an offset, most significant octet first. -/
def be32 (f : List Byte) (o : Nat) : Nat := leNat (((f.drop o).take 4).reverse)

/-- `n` octets of a number, most significant first. -/
def beBytes (n v : Nat) : List Byte := (leBytes n v).reverse

/-- A PTP frame, whatever its tags (R226). -/
def isPtp (f : List Byte) : Bool := decide (be16 (bare f) 12 = 0x88F7)

/-- The one's complement sum of 16-bit words, most significant octet first. -/
def onesSum : Nat → List Byte → Nat
  | 0, _ => 0
  | n + 1, bs =>
    match bs with
    | [] => 0
    | [a] => a.toNat * 256
    | a :: b :: r => a.toNat * 256 + b.toNat + onesSum n r

/-- The Internet checksum of an octet string. -/
def inetSum (bs : List Byte) : Nat :=
  let v := onesSum bs.length bs
  let w := v % 65536 + v / 65536
  65535 - (w % 65536 + w / 65536)

/-- The module's IPv4 address (R360). -/
def ipOwn (s : State) : Nat := par s 0x2700 1

/-- An untagged ARP request for the module's address (R342). -/
def isArp (ip : Nat) (f : List Byte) : Bool :=
  decide (be16 f 12 = 0x0806) && decide (be16 f 14 = 1) && decide (be16 f 16 = 0x0800) && decide (be16 f 20 = 1) &&
    decide (be32 f 38 = ip)

/-- An untagged IPv4 datagram to the module's address, with no options and no fragment (R351). -/
def isIp (ip proto : Nat) (f : List Byte) : Bool :=
  decide (be16 f 12 = 0x0800) && decide (leAt f 14 1 = 0x45) && decide (be16 f 20 % 0x4000 = 0) &&
    decide (leAt f 23 1 = proto) && decide (be32 f 30 = ip)

/-- An ICMP echo request to the module's address. -/
def isEcho (ip : Nat) (f : List Byte) : Bool := isIp ip 1 f && decide (be16 f 34 = 0x0800)

/-- Frames that go to the Kiln (R342): ARP and ICMP echo for the module, and UDP to port 47623. -/
def forKiln (ip : Nat) (f : List Byte) : Bool :=
  isArp ip f || isEcho ip f || (isIp ip 17 f && decide (be16 f 36 = 47623))

/-- What the Kiln's IPv4 stack answers to an untagged frame (R351): an ARP reply or an ICMP echo reply. GDP is answered
by the commands of R353. -/
def stackAnswer (mac : Nat) (ip : Nat) (f : List Byte) : Option (List Byte) :=
  if isArp ip f then
    let peer := (f.drop 22).take 6
    some (peer ++ leBytes 6 mac ++ [0x08, 0x06, 0, 1, 8, 0, 6, 4, 0, 2] ++ leBytes 6 mac ++ beBytes 4 ip ++
      (f.drop 22).take 10)
  else if isEcho ip f then
    let body := [(0 : Byte), 0, 0, 0] ++ ((f.drop 38).take (be16 f 16 - 24))
    some ((f.drop 6).take 6 ++ leBytes 6 mac ++ (f.drop 12).take 14 ++ (f.drop 30).take 4 ++ (f.drop 26).take 4 ++
      [0, 0] ++ beBytes 2 (inetSum body) ++ body.drop 4)
  else none

/-- The Kiln serves its stack: firmware runs, or the boot ROM in SERVICE (R351, R451). -/
def stackUp (s : State) : Bool := s.mod.start.kilnUp || decide (s.mod.state = .service)

/-- A frame the internal port sends for the Kiln, into the VLAN the request came in (R338, R351). -/
def kilnSend (vid : Nat) (f : List Byte) (s : State) : State :=
  match vlanOf s.lnc vid with
  | some w =>
    let g := f ++ List.replicate (60 - f.length) 0
    let s1 := setLnc (fun l => { l with lastTx := g }) s
    if switchOn s1 && member w 2 then forwardTo (outPorts s1.lnc w vid 2 g) w vid s1.lnc.pcp g false true s1 else s
  | none => s

/-! ### The consist pair (R349, R350) -/

/-- The consist unit changed. -/
def setCpn (f : Cpn → Cpn) (s : State) : State := { s with cpn := f s.cpn }

/-- Ports 2 and 3 run: PD7 is powered, its clock is on and no coast holds the links (R198, R201). -/
def cpnLive (s : State) : Bool := s.pwr.on.getLsbD 7 && s.clk.clken1.getLsbD 0 && !s.clk.quiet

/-- Duplicate-table entries not yet forgotten (R349: 400 ms). -/
def prpSeen (now : Int) (c : Cpn) : List (Nat × Nat × Int) := c.seen.filter (fun e => decide (now < e.2.2 + 400000000))

/-- The node table takes a source address (R349: 128 entries). -/
def prpNode (mac : Nat) (ns : List Nat) : List Nat := if ns.contains mac ∨ 128 ≤ ns.length then ns else ns ++ [mac]

/-- The VID a consist frame's filter is compared with: its tag's, or the module's. -/
def cpnVid (s : State) (f : List Byte) : Nat :=
  if be16 f 12 = 0x8100 ∧ be16 f 14 % 4096 ≠ 0 then be16 f 14 % 4096 else par s 0x2700 5

/-- A consist frame goes to the Kiln, or to the receive slot of its filter (R350). -/
def cpnAccept (lan : Fin 2) (f : List Byte) (s : State) : State :=
  let g := bare f
  if forKiln (ipOwn s) g then
    match stackAnswer s.lnc.mac (ipOwn s) g with
    | some r => if stackUp s then setCpn (fun c => { c with lastTx := r ++ List.replicate (60 - r.length) 0 }) s else s
    | none => s
  else
    match slotFor s.cpn.filters g (cpnVid s f) with
    | some k =>
      if k < 4 ∧ 14 ≤ g.length ∧ g.length ≤ 1514 then
        let base := 0x0300028000 + 0x800 * k
        let seq := leNat (memRead s.vmem base 4)
        let r : RxFrame := { slot := k, port := lan.val + 2, tagged := decide (be16 f 12 = 0x8100), vid := 0, pcp := 0
                             ns := s.tim.ns, octets := g }
        { s with vmem := memWrite s.vmem base (rxDescriptor ((seq + 1) % 2 ^ 32) r 0 s ++ g) }
      else s
    | none => s

/-- A frame is heard from a LAN: it lives (R349). -/
def lanHeard (lan : Fin 2) (s : State) : State :=
  setCpn (fun c => { c with lastAt := vmod c.lastAt lan (fun _ => s.tim.elapsed)
                            failed := vmod c.failed lan (fun _ => false) }) s

/-- A supervision frame of IEC 62439-3 with a sequence number (R349). -/
def supervision (mac seq : Nat) : List Byte :=
  let f := [(0x01 : Byte), 0x15, 0x4E, 0x00, 0x01, 0x00] ++ leBytes 6 mac ++ [0x88, 0xFB, 0x00, 0x01] ++
    beBytes 2 (seq % 65536) ++ [20, 6] ++ leBytes 6 mac ++ [0, 0]
  f ++ List.replicate (60 - f.length) 0

end Sys2Proof.Machine
end

