-- ==== Sys2Proof/Machine/BootOps.lean ====
section
/-! DEFINITION. The start of the module (chapter 16): the checks of a firmware image (R447, R448), the choice of a bank
(R449-R451), the parameter set and its format (R393, R458-R460), and what the Kiln loads at FIRING (R452). -/

namespace Sys2Proof.Machine

/-! ### Firmware images (R447, R448) -/

/-- KIND, OFFSET, SIZE and CRC of a section of a firmware image. -/
def fwSection (f : List Byte) (i : Nat) : Nat × Nat × Nat × Nat :=
  let o := 0x40 + 16 * i
  (leAt f o 1, leAt f (o + 4) 4, leAt f (o + 8) 4, leAt f (o + 12) 4)

/-- The five sections of a firmware image. -/
def fwSections (f : List Byte) : List (Nat × Nat × Nat × Nat) := (List.range 5).map (fwSection f)

/-- Largest SIZE of a section of a kind. -/
def fwLargest (kind : Nat) : Nat := [0, 786432, 262144, 131072, 65536, 65536].getD kind 0

/-- Condition 1 of R448: the header and the section table are valid under R447. -/
def fwHeaderGood (f : List Byte) : Bool :=
  decide (256 ≤ f.length) && decide (f.length ≤ 8388608) && decide (leAt f 8 4 = f.length) &&
    decide (f.take 4 = ascii "YFW1") && decide (leAt f 4 2 = 1) && decide (leAt f 6 2 = 5) &&
    decide (leAt f 15 1 = 0) && decide (leAt f 0x10 2 ≠ 0) && decide (0x41 ≤ leAt f 0x12 1) &&
    decide (leAt f 0x12 1 ≤ 0x5A) && zerosAt f 0x13 45 &&
    (List.range 5).all (fun i => zerosAt f (0x41 + 16 * i) 3) &&
    [1, 2, 3, 4, 5].all (fun k => decide (((fwSections f).filter (fun x => decide (x.1 = k))).length = 1)) &&
    (fwSections f).all (fun x => decide (x.2.2.1 ≤ fwLargest x.1) && decide (0x90 ≤ x.2.1) &&
      decide (x.2.1 + x.2.2.1 + 36 ≤ f.length))

/-- The first condition of R448 that fails, as a fallback cause. -/
def fwCheck (issue : Nat) (f : List Byte) : Option Nat :=
  let n := f.length
  if fwHeaderGood f = false then some 1
  else if issue < leAt f 0x12 1 then some 5
  else if (crc32c (f.take (n - 4))).toNat ≠ leAt f (n - 4) 4 then some 2
  else if sha256 (f.take (n - 36)) ≠ (f.drop (n - 36)).take 32 then some 3
  else if (fwSections f).any (fun x => decide ((crc32c ((f.drop x.2.1).take x.2.2.1)).toNat ≠ x.2.2.2)) then some 4
  else none

/-- The contents of the section of a kind. -/
def fwContent (f : List Byte) (kind : Nat) : List Byte :=
  match (fwSections f).find? (fun x => decide (x.1 = kind)) with
  | some x => (f.drop x.2.1).take x.2.2.1
  | none => []

/-! ### Choosing a bank (R449-R451) -/

/-- A bank's line of the boot record changed. -/
def setFwBank (b : Fin 3) (f : FwBank → FwBank) (s : State) : State :=
  setBoot (fun x => { x with banks := vmod x.banks b f }) s

/-- A bank that R449 passes over. -/
def BankState.skipped : BankState → Bool
  | .empty | .writing | .bad => true
  | _ => false

/-- The banks of R449 in their order, without repeats. -/
def bootOrder (b : Boot) : List (Fin 3) :=
  let fin (n : Nat) : List (Fin 3) := if h : n < 3 then [⟨n, h⟩] else []
  (fin b.nextBank ++ (match b.prev with | some p => fin p | none => []) ++ [2]).eraseDups

/-- The next bank that would be tried, or 0xFF. -/
def nextTried (bs : List (Fin 3)) (s : State) : Nat :=
  match bs.find? (fun b => !(s.boot.banks[b]).state.skipped) with
  | some b => b.val
  | none => 0xFF

/-- A bank becomes BAD (R446, R449, R450): BOOT_FALLBACK. -/
def bankBad (b : Fin 3) (cause : Nat) (rest : List (Fin 3)) (s : State) : State :=
  record 0 0x7002 b.val cause (nextTried rest s)
    (setBoot (fun x => { x with fallback := cause }) (setFwBank b (fun y => { y with state := .bad, trials := 0 }) s))

/-- A bank that passed its check boots (R449). -/
def bankBoot (b : Fin 3) (s : State) : State :=
  let s1 := setFwBank b (fun y =>
    match y.state with
    | .written => { y with state := .trial, trials := 1 }
    | .trial => { y with trials := y.trials + 1 }
    | _ => y) s
  let f := (s1.boot.banks[b]).image
  record 0 0x7001 b.val (leAt f 0xC 4) s1.pwr.rstKind
    { setBoot (fun x => { x with nextBank := b.val, running := some b.val, boots := inc32 x.boots
                                 runRelease := leAt f 0xC 4, runPfv := leAt f 0x10 2 }) s1 with
      mod := { s1.mod with start := { s1.mod.start with booted := true } } }

/-- Why R449 does not boot a bank that it tries: three TRIAL boots without confirmation, or the first condition of R448
that fails. -/
def bankVerdict (b : Fin 3) (s : State) : Option Nat :=
  let y := s.boot.banks[b]
  if y.state = .trial ∧ y.trials = 3 then some 6 else fwCheck s.mod.issue y.image

/-- R449 over the banks that are left: the bank that booted, if one did. -/
def bootTry : List (Fin 3) → State → State
  | [], s => s
  | b :: rest, s =>
    if (s.boot.banks[b]).state.skipped then bootTry rest s
    else
      match bankVerdict b s with
      | some c => bootTry rest (bankBad b c rest s)
      | none => bankBoot b s

/-- A Kiln watchdog reset during a TRIAL boot (R450). -/
def trialWatchdog (s : State) : State :=
  match s.boot.watchdogTrial with
  | none => s
  | some n =>
    let s1 := setBoot (fun x => { x with watchdogTrial := none }) s
    if h : n < 3 then bankBad ⟨n, h⟩ 7 ((bootOrder s1.boot).filter (fun b => decide (b.val ≠ n))) s1 else s1

/-- The Kiln's retained area is judged (R474, R475): sessions kept by a warm restart close where the bank that boots is
not the one that ran before or the area's CRC is bad, and with a bad CRC the Kiln's counts are lost. -/
def judgeRetained (good : Bool) (s : State) : State :=
  if s.pwr.retained then
    let warm := decide (s.pwr.rstKind = 7)
    let lost := !good || (warm && decide (s.boot.running ≠ s.boot.ranBefore))
    let s1 := setPwr (fun p => { p with retained := false }) s
    let s2 := if good then s1 else kilnCountsLost s1
    if lost then record 0 0x0066 s.pwr.rstKind 0 0 (setKiln (fun k => { k with sessions := Vector.replicate 6 closedSession }) s2)
    else s2
  else s

/-- FIRING ends into SERVICE (R23, R327, R453). -/
def fireService (cause : Nat) (s : State) : State :=
  enterService cause (twinHold false (twinRole .alone cause (setBoot (fun b => { b with firedAt := some s.recd.optime }) s)))

/-! ### The parameter set (R393, R458-R460) -/

/-- The stored set as a whole: the schedule table of 0x2510 is one of its entries. -/
def wholeSet (s : State) : List ((Nat × Nat) × Nat) :=
  s.kiln.params ++ (if s.xn.stored = [] then [] else [((0x2510, 0), leNat s.xn.stored)])

/-- A whole set put in place. -/
def takeSet (pfv : Nat) (ps : List ((Nat × Nat) × Nat)) (s : State) : State :=
  setXn (fun x => { x with stored := match assocGet ps (0x2510, 0) with
                             | some v => leBytes (storedLen 0x2510 0 v) v
                             | none => [] })
    (setKiln (fun k => { k with params := ps.filter (fun p => decide (p.1 ≠ (0x2510, 0))), pfv := pfv, dirty := false }) s)

/-- The old-settings blob as it is read at 0x2A30 (R460). -/
def blobOctets (k : Kiln) : List Byte :=
  match k.blob with
  | none => []
  | some (pfv, ps) => setOctets pfv false ps

/-- An entry whose two copies fail takes its default (R393): PARAM_DEFAULTED. -/
def paramLost (p : Nat × Nat) (s : State) : State :=
  let note (t : State) : State := record 0 0x0047 (p.1 * 256 + p.2) 0 0 t
  if p = (0x2510, 0) then note (setXn (fun x => { x with stored := [], tableResult := 0 }) s)
  else if p = (0x2003, 3) then note (setKiln (fun k => { k with key := Config.factoryKey }) s)
  else
    match dictEntry p.1 p.2 with
    | some (some e) =>
      if e.param then note (setKiln (fun k => { k with params := k.params.filter (fun q => decide (q.1 ≠ p)) }) s) else s
    | _ => s

/-- The parameter format is compared (R459). -/
def compareFormat (s : State) : State :=
  let old := s.kiln.pfv
  let new := s.boot.runPfv
  if old = new then s
  else
    match s.kiln.blob with
    | some (p, ps) =>
      if p = new ∧ s.kiln.dirty = false then
        record 0 0x7008 new ps.length 0 (setKiln (fun k => { k with blob := none }) (takeSet new ps s))
      else formatReset old new s
    | none => formatReset old new s
where
  /-- The stored set moves into the blob, and every entry takes its default. -/
  formatReset (old new : Nat) (s : State) : State :=
    let s1 := takeSet new [] (setKiln (fun k => { k with blob := some (old, wholeSet s) }) s)
    record 0 0x7007 old new (blobOctets s1.kiln).length s1

/-! ### What the Kiln loads at FIRING (R452 steps 4 and 5) -/

/-- The privileged codes of 0x2810 come into force (R417, R429): a bucket that exists keeps its tokens, a new one is
full. -/
def loadPrivileged (s : State) : State :=
  let ws := (List.range 32).filterMap (fun i =>
    let v := stored s 0x2810 (i + 1)
    if v = 0 then none else some (field v 0 16, field v 16 8, field v 24 8))
  { s with recd := { s.recd with
      privileged := ws, tokens := ws.map (fun w => (w.1, (assocGet s.recd.tokens w.1).getD w.2.1)) } }

/-- A bank and its channels take their configuration (R265, R268, R271); outputs hold their safe states, LOCKED. -/
def bankConfigure (b : Fin 3) (s : State) : State :=
  let s1 := setBank b (fun x =>
    { x with tmo := par s 0x2430 (4 + b.val), recov := parOn s 0x2430 7, un := par s 0x2430 (1 + b.val)
             stale := par s 0x2430 8, horizon := par s 0x2430 9, width := par s 0x2430 10
             interval := par s 0x2430 11, loaded := true }) s
  (bankChans b).foldl (fun t ch =>
    let g (k : Nat) : Nat := par s (0x2400 + ch.val) k
    let time := if g 2 = 1 then max 1 (g 3) else if 0 < g 3 ∧ g 3 < 10 then 10 else g 3
    let t1 := setChan ch (fun c =>
      { c with kind := g 1, fmode := decide (g 2 = 1), time := time, hyst := if g 2 = 1 then min (g 4) time else g 4
               safeSt := g 5, safeRel := decide (g 6 = 1), disc := g 7, dark := decide (g 8 = 1)
               state := if g 1 = 0 then .unused else .input, cause := 0, watched := false }) t
    if 3 ≤ g 1 then applySafe ch 1 .locked t1 else t1) s1

/-- The ten regions the Kiln loads (R366): base and limit as offsets in the window, attributes RO SE PF EN. -/
def presetRegions : List BrgRegion :=
  [⟨0x00000000, 0x0000F000, 5⟩, ⟨0x00010000, 0x0001F000, 5⟩, ⟨0x00020000, 0x00027000, 5⟩, ⟨0x00028000, 0x0002F000, 3⟩,
   ⟨0x00030000, 0x00037000, 5⟩, ⟨0x00038000, 0x0003F000, 3⟩, ⟨0x00040000, 0x0004F000, 5⟩, ⟨0x00050000, 0x0005F000, 5⟩,
   ⟨0x00200000, 0x003FF000, 11⟩, ⟨0x00400000, 0x004FF000, 11⟩]

/-- Receive filters `lo` to `lo + n - 1` of 0x2703. -/
def filtersAt (s : State) (lo n : Nat) : List (List Byte) :=
  (List.range n).map (fun i => leBytes 10 (par s 0x2703 (lo + i)))

/-- The networks take their configuration (R355-R360). -/
def loadNets (s : State) : State :=
  { s with
    lnc := { s.lnc with vid := par s 0x2700 5, pcp := par s 0x2700 6, mac := Config.factoryMac.toNat
                        vlans := (List.range 16).map (fun i => par s 0x2702 (i + 1)), filters := filtersAt s 1 16 }
    cpn := { s.cpn with prp := parOn s 0x2700 7, filters := filtersAt s 17 4 }
    cfd := { s.cfd with chans := Vector.ofFn (fun c =>
      let n := par s 0x2700 (8 + c.val)
      { s.cfd.chans[c] with node := n, nmt := if n = 0 then 0 else 1, bus := if n = 0 ∨ s.clk.quiet then 3 else 0 }) } }

/-- The domains of step 5 that are switched on: PD5-PD11 and those of the lanes not RETIRED (R61, R452). -/
def stepFive (s : State) : BitVec 12 :=
  (allFin 4).foldl (fun m l => if (s.vrc.lanes[l]).state = .retired then m else putBit m (1 + l.val) true) 0xFE1

/-- Domains switched on (R464): their rail-fault marks go, the ramped domains of PD1-PD5 start (R194), and the field
side of the banks starts with PD10 (R232). -/
def domainsOn (ds : BitVec 12) (s : State) : State :=
  let new := ds &&& ~~~s.pwr.on
  let s0 := setPwr (fun p => { p with on := p.on ||| ds, railFault := p.railFault &&& ~~~new }) s
  let s1 := if new &&& 0x3E = 0 then s0 else domainRamp s0
  if new.getLsbD 10 then
    { s1 with banks := s1.banks.map (fun b => { b with base := none, timeValid := false, goodRun := 0, badRun := 0 }) }
  else s1

/-- The clock side takes 0x2300 (R203, R209): a source no longer enabled is not valid. -/
def loadClocks (s : State) : State :=
  let w := par s 0x2300 4
  let en := if banksFitted s then BitVec.ofNat 7 w else BitVec.ofNat 7 w &&& 0x63
  let mask := BitVec.ofNat 3 (par s 0x2300 1)
  { s with
    clk := { s.clk with mask := mask, role := BitVec.ofNat 2 (par s 0x2300 2), revert := parOn s 0x2300 3
                        clken0 := en, want0 := en, clken1 := BitVec.ofNat 4 (w / 256), want1 := BitVec.ofNat 4 (w / 256)
                        valid := s.clk.valid &&& (mask.setWidth 4 ||| 8) }
    tim := { s.tim with slewPpm := par s 0x2310 8 } }

/-- Step 5 of R452 and the registers the Kiln loads from the dictionary. -/
def loadBlocks (s : State) : State :=
  let s1 := loadPrivileged (loadClocks (domainsOn (stepFive s) s))
  let s2 := loadNets ((allFin 3).foldl (fun t b => bankConfigure b t) s1)
  let s3 := loadTable (setXn (fun x =>
    { x with addr := par s 0x2500 1, csCap := parOn s 0x2500 2, maxMacro := par s 0x2500 3, claimEn := parOn s 0x2500 4 }) s2)
  let en := parOn s 0x2600 1
  twinHold en { s3 with
    twl := { s3.twl with en := en, pref := par s 0x2600 2, delta := par s 0x2600 4 }
    rot := { s3.rot with en := parOn s 0x2200 1, period := par s 0x2200 2 }
    vrc := { s3.vrc with owners := Vector.ofFn (fun c => par s 0x2110 (c.val + 1)) }
    brg := { s3.brg with regions := Vector.ofFn (fun n => presetRegions.getD n.val {}) } }

/-- The boot ROM serves its reduced dictionary (R451): it needs PD6, PD7 and PD9 (R32), and uses the stored network
parameters. -/
def romService (s : State) : State :=
  let st := s.boot.banks
  let s1 := record 0 0x7003 (st[0].state.code + 256 * st[1].state.code + 65536 * st[2].state.code) 0 0 s
  let s2 := domainsOn 0x2C0 (setKiln (fun k => { k with inForce := k.params }) s1)
  fireService 0x7003 (loadNets { s2 with clk := { s2.clk with clken1 := 3, want1 := 3 } })

/-! ### Lanes in FIRING (R452 steps 6-11) -/

/-- Lane memory and both cores of a lane filled with zeros (R452 step 6, R475). -/
def laneZero (l : Fin 4) (s : State) : State :=
  { s with
    mems := (s.mems.set (coreP l).val [] (coreP l).isLt).set (coreS l).val [] (coreS l).isLt
    cores := (s.cores.set (coreP l).val {} (coreP l).isLt).set (coreS l).val {} (coreS l).isLt }

/-- Wide mode is chosen for this FIRING (R65). -/
def wideChosen (s : State) : Bool := parOn s 0x2100 3

/-- Lanes that passed their start-up tests and are still in the module. -/
def usableLanes (s : State) : List (Fin 4) :=
  (allFin 4).filter (fun l => (s.vrc.lanes[l]).usable && !decide (laneState s l = .retired) &&
    !decide (laneState s l = .quarantine) && s.pwr.on.getLsbD (1 + l.val) && s.pwr.on.getLsbD 5)

/-- Octets written into the memory of a lane, and in WIDE of both its cores (R66, R452 step 9). -/
def laneWrite (l : Fin 4) (f : List Host.Cell → List Host.Cell) (s : State) : State :=
  let m1 := s.mems.set (coreP l).val (f s.mems[coreP l]) (coreP l).isLt
  { s with mems := if wideChosen s then m1.set (coreS l).val (f s.mems[coreS l]) (coreS l).isLt else m1 }

/-- The running firmware's lane executive (R109, R447). -/
def laneExecutive (s : State) : List Byte :=
  match s.boot.running with
  | some n => if h : n < 3 then fwContent (s.boot.banks[n]).image 2 else []
  | none => []

/-- The stored application as FIRING takes it (R445, R257): APP_NOIMAGE or IMAGE_REFUSED where there is none to take. -/
def takeStored (s : State) : State :=
  match storedImage s.boot with
  | .inr (a, b) => record 0 0x700A a b 0 s
  | .inl f =>
    let (h, s1) := drawWord s
    let a := readImage f (h.setWidth 32)
    match if wideChosen s then none else timeoutsBad (stored s) a with
    | some n => imageRefuse 19 n f 0 0 s
    | none => takeImage a s1

/-- δ of the module (R325, R336): G - 6 µs where it is 0 or exceeds it. -/
def takeDelta (s : State) : State :=
  match s.cys.app with
  | none => s
  | some a =>
    let top := a.gapLen - 6
    if s.twl.delta = 0 then setTwl (fun t => { t with delta := top }) s
    else if top < s.twl.delta then
      raise 265 (record 8 0x6009 3 0 0 (setTwl (fun t => { t with delta := top, fail := 3 }) s))
    else s

/-- Step 9 of R452 for the lanes named: executive and application loaded, their pages marked (R87). -/
def loadLanes (ls : List (Fin 4)) (s : State) : State :=
  let ex := laneExecutive s
  let w (m : List Host.Cell) : List Host.Cell :=
    let m1 := memWrite m 0x0100000000 ex
    match s.cys.app with
    | some a => writeSections a m1
    | none => m1
  let pages := pagesOf 0x0100000000 ex.length ++ (match s.cys.app with | some a => imagePages a | none => [])
  markPages pages (ls.foldl (fun t l => laneWrite l w t) s)

/-- A lane whose CRC does not match: LOAD_FAIL, then QUARANTINE at the second mismatch (R454). -/
def laneMismatch (l : Fin 4) (s : State) : State :=
  if (s.vrc.lanes[l]).loadOnce then toQuarantine l 0x7009 (record 0 0x7009 2 l.val 2 s)
  else setLane l (fun x => { x with loadOnce := true }) (record 0 0x7009 2 l.val 1 s)

end Sys2Proof.Machine
end

