-- ==== Sys2Proof/Machine/Boot.lean ====
section
/-! DEFINITION. The commands of the start of the module (R452, R485) and of trials (R450, R453). -/

namespace Sys2Proof.Machine

/-- The start sequence changed. -/
def setStart (f : StartProgress → StartProgress) (s : State) : State :=
  { s with mod := { s.mod with start := f s.mod.start } }

/-- POWER_ON_RESET_RELEASE (R485, R413, R414, R421, R482): the module leaves COLD. -/
def execPowerOnResetRelease (twpos : Bool) (s : State) : Out :=
  if s.mod.state ≠ .cold then .next s
  else
    let r := recRepair s.recd
    let r1 := { r with pwrcyc := inc32 r.pwrcyc, optime := r.savedOptime, subMs := 0 }
    let k := s.pwr.rstKind
    let s1 := loadPrivileged (setPwr (fun p =>
      { p with pos := twpos, mate := true, resetsOfKind := if h : k - 1 < 7 then vmod p.resetsOfKind ⟨k - 1, h⟩ inc32 else p.resetsOfKind })
      { s with recd := r1, clk := { s.clk with startWin := true } })
    let s2 := if tornAfterHead r1 then record 15 0xF002 (nextSlot r1) (nextSeq r1.headSeq) 0 s1 else s1
    .next (enterFiring 0x0062 (record 15 0xF004 k r1.pwrcyc r1.lostMs s2))

/-- BOOT_BANK_CHOICE (R449-R451, R474): step 3 of R452; `retained` is the verdict on the Kiln's retained area. -/
def execBootBankChoice (retained : Bool) (s : State) : Out :=
  let g := s.mod.start
  if s.mod.state ≠ .firing ∨ g.clocksUp = false ∨ g.booted = true then .next s
  else
    let s1 := trialWatchdog s
    let s2 := bootTry (bootOrder s1.boot) s1
    let s3 := judgeRetained retained s2
    .next (if s3.mod.start.booted then s3 else romService s3)

/-- KILN_FIRMWARE_START (R452 steps 4 and 5, R393, R459): `lost` names the entries whose two copies fail. -/
def execKilnFirmwareStart (lost : List (Nat × Nat)) (s : State) : Out :=
  let g := s.mod.start
  if s.mod.state ≠ .firing ∨ g.booted = false ∨ g.kilnUp = true then .next s
  else
    let s1 := compareFormat (lost.foldl (fun t p => paramLost p t) s)
    let s2 := setKiln (fun k => { k with inForce := k.params }) s1
    .next (setStart (fun x => { x with kilnUp := true }) (loadBlocks s2))

/-- The outcome of step 6 in one lane (R452, R454, R81). -/
def laneTested (l : Fin 4) (r : LaneTest) (s : State) : State :=
  if laneState s l = .retired ∨ laneState s l = .quarantine then s
  else
    let s1 := laneZero l s
    match r with
    | .pass => setLane l (fun x => { x with usable := true }) s1
    | .lbistP => retire l 1 none 0 s1
    | .lbistS => retire l 2 none 0 s1
    | .mbist => retire l 3 none 0 s1
    | .core => toQuarantine l 0x1013 s1

/-- LANE_STARTUP_TESTS_DONE (R452 step 6). -/
def execLaneStartupTestsDone (r0 r1 r2 r3 : LaneTest) (s : State) : Out :=
  let g := s.mod.start
  if s.mod.state ≠ .firing ∨ g.kilnUp = false ∨ g.lanesTested = true then .next s
  else .next (setStart (fun x => { x with lanesTested := true })
    (laneTested 3 r3 (laneTested 2 r2 (laneTested 1 r1 (laneTested 0 r0 s)))))

/-- KIND and target of a load (R463). -/
def loadKind : LoadTarget → Nat × Nat
  | .bank b => (3, b.val)
  | .xenex => (4, 0)
  | .switch => (5, 0)

/-- PROCESSOR_SECTION_LOADED (R454). -/
def execProcessorSectionLoaded (target : LoadTarget) (crcOk : Bool) (s : State) : Out :=
  let b := s.boot
  if s.mod.state ≠ .firing ∨ s.mod.start.kilnUp = false ∨ target ∈ b.loadOk ∨ target ∈ b.loadFailed then .next s
  else if crcOk then .next (setBoot (fun x => { x with loadOk := x.loadOk ++ [target] }) s)
  else
    let (kind, t) := loadKind target
    if target ∉ b.loadOnce then
      .next (record 0 0x7009 kind t 1 (setBoot (fun x => { x with loadOnce := x.loadOnce ++ [target] }) s))
    else
      let s1 := record 0 0x7009 kind t 2 (setBoot (fun x => { x with loadFailed := x.loadFailed ++ [target] }) s)
      if target = .switch then
        .next (linkSet 1 0 (linkSet 0 0 (setPwr (fun p => { p with on := putBit p.on 6 false }) s1)))
      else .next s1

/-- STARTUP_INJECTION_SET (R62, R64); disabled in wide mode (R65). -/
def execStartupInjectionSet (fail : Option InjFail) (s : State) : Out :=
  let g := s.mod.start
  if s.mod.state ≠ .firing ∨ g.lanesTested = false ∨ g.injected = true ∨ wideChosen s then .next s
  else
    match fail with
    | none =>
      let v := { s.vrc with injStartOk := true, injKind := 0, injPair := 0, injGroup := 0 }
      .next (setStart (fun x => { x with injected := true }) { s with vrc := { v with injAtStart := injReg v } })
    | some f =>
      let v := { s.vrc with injStartOk := false, injKind := f.kind.val, injPair := f.pair.val, injGroup := f.group.val }
      let s1 := { s with vrc := { v with injAtStart := injReg v } }
      .next (fireService 0x1007 (raise 37 (record 1 0x1007 (injReg s1.vrc) 0 0 s1)))

/-- A usable lane's CRC is compared (R452 step 10). -/
def laneCompared (crcOk : BitVec 4) (l : Fin 4) (s : State) : State :=
  if laneState s l = .wedged then s
  else if crcOk.getLsbD l.val then setLane l (fun x => { x with state := .wedged }) s
  else laneMismatch l s

/-- LANE_IMAGE_LOADED (R452 steps 9 and 10, R445, R454): the load, and the CRC of each lane; a lane that mismatched
once is loaded again by a second command. -/
def execLaneImageLoaded (crcOk : BitVec 4) (s : State) : Out :=
  let g := s.mod.start
  if s.mod.state ≠ .firing ∨ g.lanesTested = false ∨ g.loaded = true ∨ (g.injected = false ∧ wideChosen s = false) then
    .next s
  else
    let again := (allFin 4).any (fun l => (s.vrc.lanes[l]).loadOnce)
    let s1 := if again then s
      else takeDelta (takeStored { s with
        vmem := s.vmem.filter (fun c => !(decide (sharedBase ≤ c.1) && decide (c.1 < sharedBase + sharedSize)))
        rot := { s.rot with pages := [] }, twl := { s.twl with shared := [] } })
    let ls := (usableLanes s1).filter (fun l => laneState s1 l ≠ .wedged)
    let s2 := ls.foldl (fun t l => laneCompared crcOk l t) (loadLanes ls s1)
    let wedged := lanesIn s2 (fun x => decide (x = .wedged))
    if (usableLanes s2).any (fun l => laneState s2 l ≠ .wedged) then .next s2
    else if wedged.length < 2 then
      .next (fireService (if (lanesIn s2 (fun x => decide (x = .quarantine))).isEmpty then 0x1006 else 0x7009) s2)
    else .next (setStart (fun x => { x with loaded := true }) s2)

/-- A member of the SAFETY set fails its range (R394). -/
def memberBad (m : Nat × Nat) (s : State) : Bool :=
  let v := stored s m.1 m.2
  match dictEntry m.1 m.2 with
  | some (some e) => decide ((v : Int) < e.lo) || decide (e.hi < (v : Int)) ||
      (decide (m = (0x2600, 4)) && decide (0 < v) && decide (v < 4))
  | _ => true

/-- SAFETY_SET_CHECK (R394): the released lanes check the SAFETY set. -/
def execSafetySetCheck (s : State) : Out :=
  let g := s.mod.start
  if s.mod.state ≠ .firing ∨ g.loaded = false ∨ g.safetyOk = true then .next s
  else
    let bad := safetyMembers.filter (fun m => memberBad m s)
    let s1 := bad.foldl (fun t m => record 9 0x0044 (m.1 * 256 + m.2) (stored s m.1 m.2) 0 t) s
    if bad = [] then
      .next (setStart (fun x => { x with safetyOk := true })
        (mapLanes (fun x => if x.state = .wedged then { x with held := false } else x) s1))
    else .next (fireService 0x0044 s1)

/-- The lanes that become ACTIVE (R76): gate sets in ascending lane order. -/
def laneActivate (ls : List (Fin 4)) (s : State) : State :=
  let n := s.vrc.actSeq + 1
  let s1 := { s with vrc := { s.vrc with actSeq := n, aref := arefOf ls } }
  (ls.zip (allFin 3)).foldl (fun t p => setLane p.1 (fun x =>
    { x with state := .active, fenced := false, held := false, silent := false, gate := some p.2, since := n
             overdue := false }) t) s1

/-- Outputs of the banks whose controller was loaded become SAFE (R256, R454). -/
def banksStarted (s : State) : State :=
  (allFin 48).foldl (fun t ch =>
    if (t.chans[ch]).isOut ∧ (t.chans[ch]).state = .locked ∧ LoadTarget.bank (bankOf ch) ∈ s.boot.loadOk then
      setChan ch (fun x => { x with state := .safe }) t
    else t) s

/-- What FIRING leaves behind in every state it ends into by a cycle boundary (R184, R285, R453). -/
def fireEnd (new : ModState) (s : State) : State :=
  let s1 := setModState new 0 (setBoot (fun b => { b with firedAt := some s.recd.optime }) s)
  busStart (banksStarted s1)

/-- FIRING ends into a voted RUN state (R23, R56, R76). -/
def fireRun (ls : List (Fin 4)) (s : State) : State :=
  let three := decide (ls.length = 3)
  let s1 := laneActivate ls s
  let spare := wedgedLane s1
  let s2 := setVote (if three then .oo3 else .oo2) false 0
    { s1 with rot := { s1.rot with wLane := spare.getD 0, wPhase := if spare.isSome then 5 else 0 } }
  let s3 := fireEnd (if three then .run2oo3 else .run2oo2) (rotationRestart s2)
  let s4 := mapTasks (fun t => { t with first := true, firstFiring := true })
    { s3 with cys := { s3.cys with run := s3.cys.app.isSome, dump := parOn s3 0x2900 1 } }
  execWait (openRegions (ls ++ spare.toList) s4)

/-- FIRING ends into WIDE (R65-R69). -/
def fireWide (s : State) : State :=
  let s1 := mapLanes (fun x => if x.state = .wedged then
    { x with state := .split, fenced := false, held := false, silent := false, gate := none } else x) s
  fireEnd .wide (setVote .split false 0 (twinHold false (twinRole .alone 0 s1)))

/-- FIRING_END (R23): the first cycle boundary after the start sequence. -/
def execFiringEnd (dt : Nat) (s : State) : Out :=
  let s0 := advance dt s
  let g := s0.mod.start
  if s0.mod.state ≠ .firing ∨ g.loaded = false ∨ g.safetyOk = false then .next s0
  else if wideChosen s0 then .next (fireWide s0)
  else
    let ws := lanesIn s0 (fun x => decide (x = .wedged))
    if ws.length < 2 then .next (fireService 0x1006 s0) else .next (fireRun (ws.take 3) s0)

/-- The running bank while it is in TRIAL. -/
def trialBank (s : State) : Option (Fin 3) :=
  match s.boot.running with
  | some n => if h : n < 3 then (if (s.boot.banks[n]).state = .trial then some ⟨n, h⟩ else none) else none
  | none => none

/-- TRIAL_TIMEOUT (R450): FIRING of a TRIAL bank has not ended within 5 s. -/
def execTrialTimeout (s : State) : Out :=
  match trialBank s with
  | some b =>
    if s.mod.state = .firing ∧ s.mod.start.kilnUp = true then
      .next (moduleReset 3 3 (bankBad b 8 ((bootOrder s.boot).filter (fun x => decide (x ≠ b))) s))
    else .next s
  | none => .next s

/-- FW_CONFIRMED (R453): 60 s of operating time since FIRING. -/
def execFwConfirmed (dt : Nat) (s : State) : Out :=
  let s0 := advance dt s
  match trialBank s0, s0.boot.firedAt with
  | some b, some t =>
    if t + 60000 ≤ s0.recd.optime ∧ s0.mod.state ≠ .firing then
      let y := s0.boot.banks[b]
      .next (record 0 0x7006 b.val s0.boot.runRelease y.trials
        (setFwBank b (fun x => { x with state := .good, trials := 0 }) s0))
    else .next s0
  | _, _ => .next s0

end Sys2Proof.Machine
end

