-- ==== Sys2Proof/Machine/Power.lean ====
section
/-! DEFINITION. Supply, domains, temperature and slot (chapters 17 and 18): what the state commands of 0x2000 and the
power command of 0x2B00 do, BANKED and its wakes, power fail, rail faults, withdrawal. -/

namespace Sys2Proof.Machine

/-! ### State commands (R23, R29, R30, R467, R473, R474) -/

/-- Outputs to safe states and no application outside RUN and WIDE. -/
def quietState (cause : Nat) (s : State) : State := setVote .none false cause (lanesLeave (banksSafe 1 s))

/-- The CANopen FD sessions close (R475). -/
def canClosed (s : State) : State :=
  setKiln (fun k => { k with sessions := Vector.ofFn (fun i => if i.val < 4 then k.sessions[i] else closedSession) }) s

/-- Entry into BANKED (R467 steps 1-4). -/
def enterBanked (s : State) : State :=
  let s1 := if isRunOrWide s then leaveRun 1 0 7 s else quietState 0 s
  let s2 := canClosed (twinRole .alone 0 (setModState .banked 0 s1))
  let s3 := setPwr (fun p =>
    { p with bankedAt := s.recd.optime, bankedReached := false, heldWake := []
             wakeMask := stored s2 0x2B00 2 }) s2
  domainsOff { s3 with mod := { s3.mod with command := 0 } }

/-- MAINTENANCE at the cycle boundary after command 1 (R23). -/
def enterMaintenance (s : State) : State :=
  let s1 := if isRunOrWide s then leaveRun 1 0 6 s else quietState 0 s
  let s2 := setModState .maintenance 0 s1
  { s2 with mod := { s2.mod with command := 0 } }

/-- States command 3 is listed for (R23). -/
def bankable : ModState → Bool
  | .cold | .firing | .banked => false
  | _ => true

/-- States command 1 is listed for (R23). -/
def maintainable : ModState → Bool
  | .run2oo3 | .run2oo2 | .service | .safeHold => true
  | _ => false

/-- States a warm restart is accepted in (R474). -/
def restartable : ModState → Bool
  | .service | .safeHold | .maintenance => true
  | _ => false

/-- A state command v (R29, R30, R473): the abort code of its refusal, or none. -/
def stateCmd (v : Nat) (s : State) : Option Nat × State :=
  if v = 0 then (none, s)
  else if s.pwr.supply ≠ 0 ∧ v ≠ 3 then (some 0x08000022, s)
  else if v = 1 ∧ maintainable s.mod.state = true then (none, { s with mod := { s.mod with command := 1 } })
  else if v = 2 ∧ s.mod.state = .maintenance then (none, moduleReset 5 2 s)
  else if v = 3 ∧ bankable s.mod.state = true then (none, enterBanked s)
  else if v = 4 ∧ (s.mod.state = .service ∨ s.mod.state = .safeHold) then (none, moduleReset 5 4 s)
  else (some 0x08000022, s)

/-- The power command of 0x2B00 subindex 1 (R474, R479). -/
def powerCmd (v : Nat) (s : State) : Option Nat × State :=
  if v = 0 then (none, s)
  else if s.pwr.supply = 0 ∧ restartable s.mod.state = true then (none, moduleReset 7 0 s)
  else (some 0x08000022, s)

/-- MAINTENANCE_AT_BOUNDARY (R23). -/
def execMaintenanceAtBoundary (dt : Nat) (s : State) : Out :=
  let s0 := advance dt s
  if s0.mod.command = 1 ∧ maintainable s0.mod.state = true then .next (enterMaintenance s0) else .next s0

/-! ### BANKED and its wakes (R341, R467, R468, R470) -/

/-- Seconds in BANKED, saturating (R477). -/
def bankedSeconds (s : State) : Nat := min 0xFFFFFFFF ((s.recd.optime - s.pwr.bankedAt) / 1000)

/-- A Banked wake reset (R468). -/
def wakeNow (cause src : Nat) (s : State) : State := moduleReset 6 cause (record 0 0x0065 cause src (bankedSeconds s) s)

/-- A wake event: held until the Banked power state is reached (R467). -/
def wake (cause src : Nat) (s : State) : State :=
  if s.pwr.bankedReached then wakeNow cause src s
  else setPwr (fun p => { p with heldWake := p.heldWake ++ [(cause, src)] }) s

/-- A wake event that its condition allows (R468). -/
def wakeAllowed (cause src : Nat) (s : State) : Bool :=
  decide (s.mod.state = .banked) &&
    (if cause = 1 then decide (src < 2) && parOn s 0x2700 12
     else if cause = 2 then decide (src < 3) && s.pwr.wakeMask.testBit src
     else decide (cause = 3))

/-- BANKED_WAKE (R468). -/
def execBankedWake (cause : Fin 4) (source : Nat) (s : State) : Out :=
  if wakeAllowed cause.val source s then .next (wake cause.val source s) else .next s

/-- BANKED_POWER_STATE_REACHED (R467 step 5): a wake held during the entry is acted on. -/
def execBankedPowerStateReached (dt : Nat) (s : State) : Out :=
  let s0 := advance dt s
  if s0.mod.state ≠ .banked ∨ s0.pwr.bankedReached = true then .next s0
  else
    let drop (p : Fin 4) (t : State) : State :=
      if (if h : p.val < 2 then t.lnc.spd[p.val] else 0) = 0 then t else linkSet p 1 t
    let s1 := drop 1 (drop 0 s0)
    let s2 := record 0 0x0064 (s1.recd.optime - s1.pwr.bankedAt) 0 0 (setPwr (fun p => { p with bankedReached := true }) s1)
    match s2.pwr.heldWake with
    | [] => .next s2
    | (c, x) :: _ => .next (wakeNow c x s2)

/-- GDP_WAKE (R341, R352): OP 6 from a client at a port; no answer is sent. -/
def execGdpWake (port : Fin 4) (client : BitVec 32) (s : State) : Out :=
  if wakeAllowed 1 port.val s = true ∧ (par s 0x2700 4).testBit port.val = true ∧
      (if h : port.val < 2 then s.lnc.spd[port.val] else 0) ≠ 0 then
    .next (wake 1 port.val (record 7 0x5008 port.val client.toNat 0 s))
  else .next s

/-! ### Supply (R469-R471) -/

/-- KILN_WATCHDOG_RESET (R23, R472). -/
def execKilnWatchdogReset (s : State) : Out := if s.mod.state = .cold then .next s else .next (moduleReset 3 1 s)

/-- POWER_FAIL_WARNING (R422, R469). -/
def execPowerFailWarning (volt : BitVec 16) (s : State) : Out :=
  if s.mod.state = .cold ∨ s.pwr.supply ≠ 0 then .next s
  else
    .next (setPwr (fun p => { p with supply := 1, warnings := inc32 p.warnings, volt := volt.toNat, lowest := volt.toNat })
      { s with recd := { s.recd with savedOptime := s.recd.optime } })

/-- SAFE-HOLD with a cause from any state, then the domains off (R469, R484). -/
def powerDown (cause : Nat) (s : State) : State :=
  let s1 := if s.mod.state = .firing then
      twinRole .alone cause (setBoot (fun b => { b with firedAt := some s.recd.optime }) s)
    else s
  domainsOff (if s1.mod.state = .safeHold ∨ s1.mod.state = .banked then s1 else enterSafeHold cause s1)

/-- POWER_FAIL (R469 steps 2 and 3): the power-fail point, which BANKED has not (R470). -/
def execPowerFail (dt : Nat) (volt : BitVec 16) (s : State) : Out :=
  let s0 := advance dt s
  if s0.mod.state = .cold ∨ s0.mod.state = .banked ∨ s0.pwr.supply ≠ 1 then .next s0
  else
    .next (powerDown 0x0061 (record 0 0x0061 s0.mod.state.code volt.toNat 0
      (setPwr (fun p => { p with supply := 2, volt := volt.toNat, lowest := min p.lowest volt.toNat }) s0)))

/-- The supply is back before the power-fail point (R469): SUPPLY_DIP. -/
def supplyDip (us volt : Nat) (s : State) : State :=
  record 0 0x0060 us s.pwr.lowest 0
    (setPwr (fun p => { p with supply := 0, volt := volt, dips := inc32 p.dips }) s)

/-- SUPPLY_RETURN (R469-R471): after an interruption of `us` microseconds. -/
def execSupplyReturn (us : BitVec 32) (volt : BitVec 16) (s : State) : Out :=
  if s.mod.state = .cold ∨ s.pwr.supply = 0 then .next s
  else if s.mod.state = .banked then
    if us.toNat ≤ 10000 then .next (supplyDip us.toNat volt.toNat s)
    else .next (wake 3 0 (setPwr (fun p => { p with supply := 0, volt := volt.toNat }) s))
  else if s.pwr.supply = 1 then .next (supplyDip us.toNat volt.toNat s)
  else .next (toCold 2 1 s)

/-- HOLDUP_EXHAUSTED (R469 step 4, R470, R484). -/
def execHoldupExhausted (s : State) : Out :=
  if s.mod.state ≠ .cold ∧ (s.pwr.supply ≠ 0 ∨ s.pwr.withdrawn = true) then .next (toCold 1 0 s) else .next s

/-- BROWN_OUT_RESET (R471): on a trip of the PD0 rail, or on a return of the supply after the power-fail point. -/
def execBrownOutReset (railTrip : Bool) (s : State) : Out :=
  if s.mod.state = .cold then .next s
  else if railTrip then .next (toCold 2 2 s)
  else if s.pwr.supply = 2 then .next (toCold 2 1 s)
  else .next s

/-! ### Rail faults (R33, R34, R465) -/

/-- The domain of a lane is off after a rail fault. -/
def laneRailLost (l : Fin 4) (s : State) : State :=
  let s1 := laneZero l s
  match s.mod.state with
  | .wide => wideStop l s1
  | .firing => setLane l (fun x =>
      if x.state = .retired ∨ x.state = .quarantine then x else { x with state := .spare, usable := false, held := true }) s1
  | _ =>
    if laneState s l = .quarantine then retire l 6 none 0x0063 s1
    else if s.vrc.mode = .oo3 ∨ s.vrc.mode = .oo2 then
      let s2 := laneSilent l (.mismatch 7 0) s1
      let s3 := if laneState s2 l = .spare ∧ isRun s2 = true then toQuarantine l 0x1001 s2 else s2
      if laneState s3 l = .quarantine then
        domainRamp (setPwr (fun p =>
          { p with on := putBit p.on (1 + l.val) true, railFault := putBit p.railFault (1 + l.val) false }) s3)
      else s3
    else if s.vrc.mode = .oo1 ∧ s.vrc.svc = l then setVote .none false 0x0063 (lanesLeave s1)
    else s1

/-- PD5 is lost (R33): the voted blocks are gone, the banks keep their own timeouts, and a RUN state or WIDE is left
for SAFE-HOLD. -/
def voterLost (s : State) : State :=
  let s1 := klmDiscard (busLeave s)
  let s2 := twinRole .alone 0x0063 (setVote .none false 0x0063 s1)
  let s3 := { s2 with
    vrc := { s2.vrc.off with mode := s2.vrc.mode, wideWritten := s2.vrc.wideWritten }
    rot := s2.rot.off, twl := { s2.twl.off with role := s2.twl.role, en := s2.twl.en }, cys := {}
    vmem := s2.vmem.filter (fun c => !(decide (sharedBase ≤ c.1) && decide (c.1 < sharedBase + sharedSize)))
    ints := offInts [0, 1, 8, 10] s2.ints, bw := Vector.replicate 8 {} }
  if isRunOrWide s then setModState .safeHold 0x0063 s3 else s3

/-- The part of a block in a domain that is off after a rail fault. -/
def blockLost (d : Nat) (s : State) : State :=
  if d = 5 then voterLost s
  else if d = 6 then linkSet 1 0 (linkSet 0 0 { s with lnc := { spd := s.lnc.spd }, ints := offInts [7] s.ints })
  else if d = 7 then linkSet 3 0 (linkSet 2 0 { s with cpn := { spd := s.cpn.spd } })
  else if d = 8 then
    let s1 := busLeave s
    { s1 with xn := s1.xn.off, ints := offInts [6] s1.ints }
  else if d = 9 then { s with cfd := {} }
  else if d = 10 then networksOpen (if isRunOrWide s then enterSafeHold 0x0063 s else s)
  else if d = 11 then { s with brg := {}, ints := offInts [9] s.ints }
  else s

/-- DOMAIN_FAULT (R465). -/
def execDomainFault (domain : Fin 12) (mv : BitVec 32) (s : State) : Out :=
  let d := domain.val
  if s.pwr.on.getLsbD d = false ∨ s.mod.state = .cold then .next s
  else
    let s1 := record 0 0x0063 d mv.toNat s.mod.state.code s
    let s2 := setPwr (fun p => { p with on := putBit p.on d false, railFault := putBit p.railFault d true }) s1
    if d = 0 then .next (toCold 2 2 s1)
    else if h : 1 ≤ d ∧ d ≤ 4 then .next (laneRailLost ⟨d - 1, by omega⟩ s2)
    else .next (blockLost d s2)

/-! ### Slot and temperature (R484, R497) -/

/-- MODULE_WITHDRAWN (R484). -/
def execModuleWithdrawn (s : State) : Out :=
  if s.mod.state = .cold then .next s
  else
    .next (powerDown 0x0067 (record 0 0x0067 s.mod.state.code s.twl.role.code 0
      (setPwr (fun p => { p with withdrawn := true, mate := false, withdrawals := inc32 p.withdrawals }) s)))

/-- TEMP_MEASUREMENT (R497, R498): one of every 100 ms. -/
def execTempMeasurement (temp : BitVec 16) (s : State) : Out :=
  if s.mod.state = .cold then .next s
  else
    let t := temp.toInt
    let run := if 1200 ≤ t then s.pwr.hotRun + 1 else 0
    let warn := if 1050 ≤ t then true else if t ≤ 1000 then false else s.pwr.tempWarn
    let trip := decide (10 ≤ run)
    let s1 := setPwr (fun p =>
      { p with temp := temp, hotRun := run, tempWarn := warn, tempTrip := p.tempTrip || trip
               hottest := if p.measured && decide (t ≤ p.hottest.toInt) then p.hottest else temp
               measured := true, hotTenths := if 1050 ≤ t then p.hotTenths + 1 else p.hotTenths }) s
    let code := s.mod.state.code
    let s2 := if warn && !s.pwr.tempWarn then record 0 0x0068 (int32 t) code 0 s1 else s1
    let s3 := if run = 10 ∨ (trip = true ∧ isRunOrWide s = true) then record 0 0x0069 (int32 t) code 0 s2 else s2
    .next (if trip && isRunOrWide s then enterSafeHold 0x0069 s3 else s3)

end Sys2Proof.Machine
end

