-- ==== Sys2Proof/Machine/KilnOps.lean ====
section
/-! DEFINITION. The Kiln as it serves the dictionary (chapter 13): sessions and levels, the checks of R391, the key
exchange, the two-step commit, blocks of DOMAIN transfers (R455-R457) and the debugger (R403-R405). -/

namespace Sys2Proof.Machine

/-! ### Sessions and levels (R385, R386) -/

/-- Path of R408: 1 GDP, 2 CANopen FD, 3 Xenex. -/
def sessPath : Session → Nat
  | .gdp _ => 1
  | .can _ => 2
  | .node _ => 3

/-- ID of R387; of a node, its address. -/
def sessId : Session → Nat
  | .gdp n => n.val + 1
  | .can ch => 0x10000 + 0x100 * ch.val
  | .node a => a.toNat

/-- The number that marks a session's transfers. -/
def sessKey : Session → Nat
  | .gdp n => n.val + 1
  | .can ch => 100 + ch.val
  | .node a => 200 + a.toNat

/-- The state of a session; a node's requests are served as a fresh one, at OPEN level (R303). -/
def sessOf (b : Session) (s : State) : SessionState :=
  match sessIdx b with
  | some i => s.kiln.sessions[i]
  | none => {}

/-- MAINTENANCE level (R385). -/
def levelUp (b : Session) (s : State) : Bool := (sessOf b s).maint

/-- MAINTENANCE sessions open (R406). -/
def maintCount (s : State) : Nat := ((allFin 6).filter (fun i => (s.kiln.sessions[i]).maint)).length

/-- Transfers of a session are abandoned (R455). -/
def dropTransfers (b : Session) (s : State) : State :=
  let mine (t : Option Transfer) : Bool := match t with | some x => decide (x.session = sessKey b) | none => false
  let s1 := if mine s.boot.fw then abandonFw s else s
  let s2 := if mine s1.boot.app then abandonApp s1 else s1
  let s3 := if mine s2.boot.sched then abandonSched s2 else s2
  if mine s3.kiln.gwIn then setKiln (fun k => { k with gwIn := none }) s3 else s3

/-- A session ends (R385, R386): its level and its transfers with it. -/
def closeSession (b : Session) (s : State) : State :=
  match sessIdx b with
  | some i => setSess i (fun _ => closedSession) (dropTransfers b s)
  | none => s

/-- A CANopen FD session is in use from its first request (R386). -/
def openCan (ch : Fin 2) (s : State) : State :=
  setSess ⟨4 + ch.val, by omega⟩ (fun x => { x with open_ := true }) s

/-! ### What is served (R4, R451) -/

/-- The boot ROM serves instead of firmware (R451). -/
def romMode (s : State) : Bool := !s.mod.start.kilnUp && decide (s.mod.state = .service)

/-- Indices the boot ROM serves (R451). -/
def romIndices : List Nat :=
  [0x1000, 0x1018, 0x2000, 0x2003, 0x2800, 0x2801, 0x2A00, 0x2A01, 0x2A02, 0x2A03, 0x2A10, 0x2A11]

/-- The entry a request names, as `dictEntry` gives it, where it is served (R4, R451). -/
def servedEntry (s : State) (idx sub : Nat) : Option (Option DEntry) :=
  if romMode s && !decide (idx ∈ romIndices) then none
  else if decide (0x2400 ≤ idx) && decide (idx ≤ 0x2430) && !banksFitted s then none
  else dictEntry idx sub

/-- Highest subindex of a record entry (R383). -/
def highestSub (idx : Nat) : Nat :=
  (List.range 129).foldl (fun m n => match dictEntry idx n with | some (some _) => n | _ => m) 0

/-! ### Ranges and combinations (R391 checks 6 and 7) -/

/-- An address in lane memory (R19, R66). -/
def laneAddr (s : State) (a : Nat) : Bool := (regionOf (decide (s.mod.state = .wide)) a).isMem

/-- A block of lane memory (R404): it lies in lane memory whole. -/
def debugSpan (s : State) (n : Nat) : Bool :=
  laneAddr s s.kiln.memAddr && decide (0 < n) && laneAddr s (s.kiln.memAddr + n - 1) &&
    decide ((s.kiln.memAddr < 2 ^ 32) = (s.kiln.memAddr + n - 1 < 2 ^ 32))

/-- Netmask of the stored prefix length. -/
def hostBits (s : State) : Nat := 2 ^ (32 - min 32 (stored s 0x2700 2))

/-- Values of an entry that its range column shuts out beyond a lower and an upper bound. -/
def outOfSet (s : State) (idx sub v : Nat) : Bool :=
  if idx = 0x1016 then
    if sub = 0 then false
    else decide (127 < field v 16 8) || (decide (field v 0 16 ≠ 0) && decide (field v 16 8 = 0))
  else if idx = 0x2010 then
    if sub = 1 then !(decide (v < 4) || (decide (0x10 ≤ v) && decide (v ≤ 0x17)))
    else if sub = 4 then decide (v % 4 ≠ 0) || !laneAddr s v
    else if sub = 5 then decide (v % 4 ≠ 0)
    else false
  else if idx = 0x2012 then decide (sub = 1) && (decide (v % 4 ≠ 0) || !laneAddr s v)
  else if idx = 0x2100 then decide (sub = 5) && decide (3 < v) && decide (v ≠ 0xFF)
  else if idx = 0x2110 then decide (7 < v) && decide (v ≠ 0xFF)
  else if idx = 0x2300 then decide (sub = 4) && v.testBit 7
  else if idx = 0x2500 then decide (sub = 3) && decide (0 < v) && decide (v < 250)
  else if idx = 0x2600 then decide (sub = 4) && decide (0 < v) && decide (v < 4)
  else if idx = 0x2700 then
    if sub = 3 then
      decide (v ≠ 0) && (decide (v < 0x01000000) || decide (v / hostBits s ≠ stored s 0x2700 1 / hostBits s) ||
        decide (v % hostBits s = 0) || decide (v % hostBits s = hostBits s - 1))
    else if sub = 10 then !decide (v ∈ [125, 250, 500, 1000])
    else if sub = 11 then !decide (v ∈ [1000, 2000, 4000, 5000])
    else false
  else if idx = 0x2702 then decide (field v 12 4 ≠ 0) || v.testBit 19
  else if idx = 0x2003 then decide (sub = 3) && decide (v = 0)
  else false

/-- Checks 5 and 6 of R391 on the octets of a write: length, then range with zero (R13, R383). -/
def valueCheck (s : State) (idx sub : Nat) (e : DEntry) (d : List Byte) : Option Nat :=
  let v := leNat d
  match e.ty with
  | .domain lo hi =>
    if hi < d.length then some 0x06070012
    else if idx = 0x2012 then
      (if d.length < lo ∨ d.length % 4 ≠ 0 then some 0x06070010
        else if debugSpan s d.length then none else some 0x06090030)
    else if d.length < lo then some 0x06090032
    else none
  | .str => if 16 < d.length then some 0x06070012 else none
  | .octets n => if d.length ≠ n then some 0x06070010 else if outOfSet s idx sub v then some 0x06090030 else none
  | .bool => if d.length ≠ 1 then some 0x06070010 else if 1 < v then some 0x06090030 else none
  | .uint n =>
    if d.length ≠ n then some 0x06070010
    else if e.count && decide (v = 0) then some 0x06090032
    else if decide ((v : Int) < e.lo) || decide (e.hi < (v : Int)) || outOfSet s idx sub v then some 0x06090030
    else none
  | .int n =>
    if d.length ≠ n then some 0x06070010
    else if decide (signed (8 * n) v < e.lo) || decide (e.hi < signed (8 * n) v) then some 0x06090030
    else none

/-- The settings of a channel with a write applied. -/
def chanWith (s : State) (idx sub v k : Nat) : Nat := if k = sub then v else stored s idx k

/-- A write that R271 refuses. -/
def channelCombination (s : State) (idx sub v : Nat) : Bool :=
  let g := chanWith s idx sub v
  (decide (sub = 5 ∨ sub = 6 ∨ sub = 8) && decide (g 6 = 1) && (decide (g 5 ≠ 0) || decide (g 8 = 0))) ||
  (decide (sub = 2 ∨ sub = 3 ∨ sub = 4) &&
    ((decide (g 2 = 1) && (decide (g 3 = 0) || decide (g 3 < g 4))) ||
     (decide (g 2 = 0) && decide (0 < g 3) && decide (g 3 < 10))))

/-- A write that R257 refuses: with it, a task of a stored or running application owns an output of a bank whose
timeout is too short. -/
def timeoutCombination (s : State) (idx sub v : Nat) : Bool :=
  (timedImages s).any (fun a =>
    (timeoutsBad (fun i k => if i = idx ∧ k = sub then v else stored s i k) a).isSome)

/-- A VLAN table that R361 refuses. -/
def vlanCombination (s : State) (sub v : Nat) : Bool :=
  let t := (List.range 16).map (fun i => if i + 1 = sub then v else stored s 0x2702 (i + 1))
  let used := t.filter (fun w => decide (w ≠ 0))
  !used.any (fun w => w.testBit 18) ||
    used.any (fun w => decide (1 < (used.filter (fun u => decide (u % 4096 = w % 4096))).length))

/-- A privileged code that R429 refuses; codes of the recorder itself are those it never takes from a source. -/
def privCombination (s : State) (sub v : Nat) : Bool :=
  let code := field v 0 16
  decide (v ≠ 0) &&
    (decide (code = 0) || decide (field v 16 8 = 0) || decide (field v 24 8 = 0) || decide (0xF000 ≤ code) ||
     (List.range 32).any (fun i => decide (i + 1 ≠ sub) && decide (field (stored s 0x2810 (i + 1)) 0 16 = code)))

/-- Check 7 of R391. -/
def combination (s : State) (idx sub v : Nat) : Bool :=
  if 0x2400 ≤ idx ∧ idx < 0x2430 then
    channelCombination s idx sub v || (decide (sub = 1) && timeoutCombination s idx sub v)
  else if idx = 0x2430 then decide (4 ≤ sub) && decide (sub ≤ 6) && timeoutCombination s idx sub v
  else if idx = 0x2702 then vlanCombination s sub v
  else if idx = 0x2810 then privCombination s sub v
  else false

/-- The debugger's entries (R403). -/
def debugEntry (idx : Nat) : Bool := decide (0x2010 ≤ idx) && decide (idx ≤ 0x2013)

/-- The debug lock stands (R403). -/
def debugLocked (s : State) : Bool := decide (par s 0x2001 1 ≠ 0) && decide (s.mod.state ≠ .wide)

/-- Entries that a block transfer writes (R455). -/
def blockEntry (idx : Nat) : Bool := decide (idx = 0x2A10) || decide (idx = 0x3010) || decide (idx = 0x2510)

/-- Checks 1-4 of R391 on a write. -/
def writeAccess (b : Session) (idx sub : Nat) (s : State) : DEntry ⊕ Nat :=
  match servedEntry s idx sub with
  | none => .inr 0x06020000
  | some none => .inr 0x06090011
  | some (some e) =>
    if idx = 0x2013 ∧ wordExists (sub - 1) = false ∧ 0 < sub then .inr 0x06090011
    else if e.wr = false then .inr 0x06010002
    else if e.openWr = false ∧ levelUp b s = false then .inr 0x08000020
    else .inl e

/-- Checks 1-8 of R391 on a write of a value. -/
def writeCheck (b : Session) (idx sub : Nat) (d : List Byte) (s : State) : DEntry ⊕ Nat :=
  match writeAccess b idx sub s with
  | .inr c => .inr c
  | .inl e =>
    match valueCheck s idx sub e d with
    | some c => .inr c
    | none =>
      if combination s idx sub (leNat d) then .inr 0x06040043
      else if debugEntry idx && debugLocked s then .inr 0x08000021
      else .inl e

/-- Checks 1-8 of R391 on a read. -/
def readCheck (b : Session) (idx sub : Nat) (s : State) : DEntry ⊕ Nat :=
  match servedEntry s idx sub with
  | none => .inr 0x06020000
  | some none => .inr 0x06090011
  | some (some e) =>
    if e.rd = false then .inr 0x06010001
    else if 0x2011 ≤ idx ∧ idx ≤ 0x2013 ∧ levelUp b s = false then .inr 0x08000020
    else if 0x2011 ≤ idx ∧ idx ≤ 0x2013 ∧ debugLocked s = true then .inr 0x08000021
    else .inl e

/-! ### Parameter entries (R392, R393) -/

/-- A Parameter entry is stored: PARAM_WRITE. -/
def paramWrite (b : Session) (idx sub v : Nat) (s : State) : State :=
  record 0 0x0046 (idx * 256 + sub) (sessPath b) (sessId b) (putParam idx sub v s)

/-! ### The key exchange (R387-R389) -/

/-- Sixty seconds, ten seconds, ns. -/
def minuteNs : Int := 60000000000
def tenNs : Int := 10000000000

/-- A challenge is issued (R387): the power-cycle count and the FRC, at a count that has issued none. -/
def challenge (b : Session) (s : State) : List Byte × State :=
  let s1 := if s.kiln.lastChal = some s.tim.frc then advance 1 s else s
  let c := leBytes 4 s1.recd.pwrcyc ++ leBytes 8 s1.tim.frc.toNat
  let s2 := setKiln (fun k => { k with lastChal := some s1.tim.frc }) s1
  match sessIdx b with
  | some i => (c, setSess i (fun x => { x with challenge := some { octets := c, at_ := s1.tim.elapsed } }) s2)
  | none => (c, s2)

/-- The key exchange is locked out (R388). -/
def keyLocked (s : State) : Bool := match s.kiln.lockUntil with | some t => decide (s.tim.elapsed < t) | none => false

/-- A refused exchange (R388): KEYX_FAIL, and the lock-out at the third within 60 s. -/
def keyFail (b : Session) (why : Nat) (s : State) : State :=
  let now := s.tim.elapsed
  let fs := now :: (s.kiln.keyFails.filter (fun t => decide (now - t < minuteNs)))
  let s1 := record 0 0x0041 (sessPath b) (sessId b) why s
  if 3 ≤ fs.length then setKiln (fun k => { k with keyFails := [], lockUntil := some (now + minuteNs) }) s1
  else setKiln (fun k => { k with keyFails := fs }) s1

/-- A request for a challenge (R387, R388). -/
def keyChallenge (b : Session) (s : State) : Option Answer × State :=
  if keyLocked s then (some (.abort 0x08000022), record 0 0x0041 (sessPath b) (sessId b) 3 s)
  else
    let (c, s1) := challenge b s
    (some (.done c), s1)

/-- A response (R387, R388): the first 16 octets of SHA-256 over K, C and ID. -/
def keyResponse (b : Session) (r : List Byte) (s : State) : Option Answer × State :=
  if keyLocked s then (some (.abort 0x08000022), record 0 0x0041 (sessPath b) (sessId b) 3 s)
  else
    let used := match sessIdx b with
      | some i => setSess i (fun x => { x with challenge := none }) s
      | none => s
    match (sessOf b s).challenge with
    | none => (some (.abort 0x08000020), keyFail b 2 used)
    | some c =>
      if c.at_ + tenNs < s.tim.elapsed then (some (.abort 0x08000020), keyFail b 2 used)
      else if r ≠ (sha256 (s.kiln.key ++ c.octets ++ leBytes 4 (sessId b))).take 16 then
        (some (.abort 0x08000020), keyFail b 1 used)
      else
        match sessIdx b with
        | some i => (some (.done []), record 0 0x0040 (sessPath b) (sessId b) 0 (setSess i (fun x => { x with maint := true }) used))
        | none => (some (.abort 0x08000020), used)

/-! ### The two-step commit (R395-R399) -/

/-- The staging record (R396) without its CRC, and with it. -/
def stageBody (idx sub seq : Nat) (v : List Byte) : List Byte :=
  leBytes 2 idx ++ leBytes 1 sub ++ leBytes 1 v.length ++ leBytes 4 seq ++ v ++ List.replicate (16 - v.length) 0 ++
    leBytes 4 0

def stageRecord (idx sub seq : Nat) (v : List Byte) : List Byte :=
  stageBody idx sub seq v ++ leBytes 4 (crc32c (stageBody idx sub seq v)).toNat

/-- A record is staged (R397 step 2): KLM_STAGE0-7, PEND, KLM_MAIL. -/
def stageSafety (b : Option Session) (idx sub : Nat) (v : List Byte) (s : State) : State :=
  let seq := s.kiln.safetySeq + 1
  let r := stageRecord idx sub seq v
  raise 276 (setKiln (fun k =>
    { k with staged := some { index := idx, sub := sub, value := v, by_ := b, seq := seq }
             stage := Vector.ofFn (fun m => BitVec.ofNat 32 (leAt r (4 * m.val) 4))
             safetySeq := seq, verdict := Vector.replicate 8 0, verd := false, applied := false }) (semKiln 0x0300000100 s))

/-- A switch request that R175 refuses, by its result code. -/
def switchRefusal (s : State) : Option Nat :=
  if s.cys.olc = .accepted ∨ s.cys.olc = .switching then some 24
  else if s.cys.staged.isNone then some 26
  else none

/-- A SAFETY write that has passed checks 1-8 (R175, R395). -/
def safetyWrite (b : Session) (idx sub : Nat) (e : DEntry) (d : List Byte) (s : State) : Option Answer × State :=
  let no (t : State) : Option Answer × State := (some (.abort 0x08000022), t)
  if isRun s then
    if s.twl.role = .standby ∨ s.twl.role = .integrating ∨ s.kiln.staged.isSome = true then no s
    else if idx = 0x3011 ∧ leNat d = 1 then
      match switchRefusal s with
      | some c => no (imageRefuse c 0 [] 0 0 s)
      | none => (none, stageSafety (some b) idx sub d s)
    else if idx = 0x3011 ∧ (switchRefusal s) = some 24 then no (imageRefuse 24 0 [] 0 0 s)
    else (none, stageSafety (some b) idx sub d s)
  else if s.mod.state = .maintenance ∧ e.param = true then (some (.done []), paramWrite b idx sub (leNat d) s)
  else no s

/-- An applied value reaches its entry and its target register (R104, R175, R397 step 5). -/
def safetyApply (idx sub v : Nat) (s : State) : State :=
  let s1 := if idx = 0x3011 then s
    else setKiln (fun k => { k with inForce := assocSet k.inForce (idx, sub) v }) s
  if idx = 0x2200 ∧ sub = 1 then
    let on := decide (v = 1)
    { s1 with rot := { s1.rot with en := on, pend := s1.rot.pend || (on && decide (s1.rot.due = 0)) } }
  else if idx = 0x2200 ∧ sub = 2 then { s1 with rot := { s1.rot with period := v } }
  else if idx = 0x3011 ∧ v = 1 then { s1 with cys := { s1.cys with olc := .accepted, olcSameGap := true } }
  else s1

/-- The octets of the verdict record. -/
def verdictOctets (s : State) : List Byte := s.kiln.verdict.toList.flatMap (fun w => leBytes 4 w.toNat)

/-- The KLM judges the verdict in the SAFETY reserve (R397 step 5): none where it applies, or the code of the answer. -/
def verdictRefusal (g : Staged) (s : State) : Option Nat :=
  let r := stageRecord g.index g.sub g.seq g.value
  let v := verdictOctets s
  if v.take 24 ≠ r.take 24 ∨ leAt v 28 4 ≠ (crc32c (v.take 28)).toNat then some 0x08000000
  else if leAt v 24 4 ≠ 0 then some (leAt v 24 4)
  else none

/-! ### Block transfers (R384, R455, R456) -/

/-- What the rules of R455 make of a block. -/
inductive BlockFate where
  | refused (code : Nat)
  /-- A repeat of the last block: accepted, not written again. -/
  | repeated
  /-- Accepted: the transfer as it stands with the block, and whether the block closes it. -/
  | taken (t : Transfer) (closes : Bool)
deriving DecidableEq, Repr

/-- The rules of R455 for a block of session `b`, in order, with the least and the greatest length of the entry. -/
def blockRules (lo hi : Nat) (b : Session) (k : BlockIn) (open_ : Option Transfer) : BlockFate :=
  let off := k.offset.toNat
  let n := k.data.length
  if n = 0 then .refused 0x06090032
  else if 1024 < n ∨ hi < off + n then .refused 0x06070012
  else
    match open_ with
    | some t =>
      if t.session ≠ sessKey b then .refused 0x08000022
      else if t.lastOff = off ∧ t.lastLen = n then .repeated
      else if off = 0 then fresh off n
      else if off = t.data.length then
        if k.last ∧ off + n < lo then .refused 0x08000000
        else .taken { session := sessKey b, data := t.data ++ k.data, lastOff := off, lastLen := n } k.last
      else .refused 0x06090030
    | none => if off = 0 then fresh off n else .refused 0x06090030
where
  /-- A block at OFFSET 0 opens the transfer anew. -/
  fresh (off n : Nat) : BlockFate :=
    if k.last ∧ n < lo then .refused 0x08000000
    else .taken { session := sessKey b, data := k.data, lastOff := off, lastLen := n } k.last

/-- Octets at an offset of a bank's firmware area. -/
def areaWrite (img : List Byte) (off : Nat) (d : List Byte) : List Byte := img.take off ++ d

/-- A block of 0x2A10 is programmed (R456); the last one closes the transfer: WRITTEN. -/
def fwProgram (off : Nat) (last : Bool) (d : List Byte) (s : State) : State :=
  let t := fwTarget s.boot
  let s1 := setFwBank t (fun y => { y with image := areaWrite y.image off d }) s
  if last then
    let img := (s1.boot.banks[t]).image
    record 0 0x7004 2 t.val img.length
      (setBoot (fun b => { b with fw := none, fwResult := 2 })
        (setFwBank t (fun y => { y with state := .written, trials := 0, release := leAt img 0xC 4 }) s1))
  else s1

/-- The erase that a block waited for has ended (R456): programmed and answered. -/
def fwErased (s : State) : State :=
  match s.boot.fwWait with
  | none => s
  | some (b, off, last, d) => reply b (.done []) (fwProgram off last d (setBoot (fun x => { x with fwWait := none }) s))

/-- The transfer may not begin (R456). -/
def fwFirstRefused (s : State) : Bool :=
  let t := fwTarget s.boot
  let trial := match s.boot.running with
    | some n => if h : n < 3 then decide ((s.boot.banks[n]).state = .trial) else false
    | none => false
  trial || (decide (s.boot.nextBank = t.val) &&
    (s.boot.running.isSome || decide ((s.boot.banks[t]).state = .written)))

/-- An accepted first block (R456, R460). -/
def fwOpen (s : State) : State :=
  let t := fwTarget s.boot
  record 0 0x7004 1 t.val 0
    (setKiln (fun k => { k with blob := none })
      (setBoot (fun b => { b with fwResult := 1, fwErased := [] })
        (setFwBank t (fun y => { y with state := .writing, trials := 0, release := 0, image := [] }) s)))

/-- A block of 0x2A10 (R455, R456): the answer, none while a sector is erased. -/
def fwBlock (b : Session) (k : BlockIn) (s : State) : Option Answer × State :=
  match blockRules 256 8388608 b k s.boot.fw with
  | .refused c => (some (.abort c), s)
  | .repeated => (some (.done []), s)
  | .taken t last =>
    let off := k.offset.toNat
    if off = 0 ∧ fwFirstRefused s = true ∧ s.boot.fw.isNone then (some (.abort 0x08000022), s)
    else
      let s1 := if off = 0 then fwOpen s else s
      let s2 := setBoot (fun x => { x with fw := some t }) s1
      let first := off / 262144
      let sectors := (List.range ((off + k.data.length - 1) / 262144 + 1)).filter (fun i => decide (first ≤ i))
      let fresh := sectors.filter (fun i => decide (i ∉ s2.boot.fwErased))
      if fresh = [] then (some (.done []), fwProgram off k.last k.data s2)
      else
        (none, setBoot (fun x => { x with fwErased := x.fwErased ++ fresh, fwWait := some (b, off, last, k.data) }) s2)

/-- A block of 0x3010 (R184, R455): the transfer buffer. -/
def appBlock (b : Session) (k : BlockIn) (s : State) : Option Answer × State :=
  match blockRules 1 8388608 b k s.boot.app with
  | .refused c => (some (.abort c), s)
  | .repeated => (some (.done []), s)
  | .taken t last =>
    (some (.done []), setBoot (fun x =>
      { x with app := if last then none else some t, appBuf := t.data, appClosed := last }) s)

/-- A block of 0x2510 (R285, R311, R455): the table is checked and stored when the transfer closes. -/
def schedBlock (b : Session) (k : BlockIn) (s : State) : Option Answer × State :=
  match blockRules 32 16416 b k s.boot.sched with
  | .refused c => (some (.abort c), s)
  | .repeated => (some (.done []), s)
  | .taken t last =>
    if last then
      let r := tableCheck t.data
      let s1 := setBoot (fun x => { x with sched := none }) (setXn (fun x => { x with tableResult := r }) s)
      if r = 1 then
        (some (.done []), record 0 0x0046 (0x2510 * 256) (sessPath b) (sessId b)
          (setKiln (fun y => { y with dirty := true }) (setXn (fun x => { x with stored := t.data }) s1)))
      else (some (.abort 0x08000000), s1)
    else (some (.done []), setBoot (fun x => { x with sched := some t }) s)

/-! ### Firmware commands (R457) -/

/-- States a bank may be reverted to (R457). -/
def BankState.kept : BankState → Bool
  | .good | .trial => true
  | _ => false

/-- Command v of 0x2A11 subindex 3: the abort code of its refusal, or none. -/
def fwCommand (v : Nat) (s : State) : Option Nat × State :=
  let b := s.boot
  let t := fwTarget b
  let noted (s1 : State) : State :=
    let n := s1.boot.nextBank
    record 0 0x7005 n (s1.boot.prev.getD 0xFF) (if h : n < 3 then (s1.boot.banks[n]).release else 0) s1
  if v = 0 then (none, s)
  else if v = 1 ∧ (b.banks[t]).state = .written then
    (none, noted (setBoot (fun x => { x with savedPrev := x.prev, prev := x.running, nextBank := t.val, fwResult := 3 }) s))
  else if v = 2 then
    match b.prev with
    | some p =>
      if h : p < 3 then
        if (b.banks[p]).state.kept ∧ b.running ≠ some p then
          (none, noted (setBoot (fun x =>
            { x with savedPrev := x.prev, prev := x.running, nextBank := p, fwResult := 6 }) s))
        else (some 0x08000022, s)
      else (some 0x08000022, s)
    | none => (some 0x08000022, s)
  else if v = 3 then
    match b.fw with
    | some f =>
      (none, record 0 0x7004 4 t.val f.data.length
        (setBoot (fun x => { x with fw := none, fwWait := none, fwResult := 4 })
          (setFwBank t (fun y => { y with state := .empty, image := [], release := 0 }) s)))
    | none => (some 0x08000022, s)
  else if v = 4 then
    match b.running with
    | some r =>
      if b.nextBank ≠ r then
        (none, setBoot (fun x => { x with nextBank := r, prev := x.savedPrev, fwResult := 4 }) s)
      else (some 0x08000022, s)
    | none => (some 0x08000022, s)
  else (some 0x08000022, s)

/-! ### The debugger (R403-R405) -/

/-- The debugger's units have power: PD11, PD5 and the domain of the lane (R32). -/
def debugPower (s : State) (l : Fin 4) : Bool :=
  s.pwr.on.getLsbD 11 && s.pwr.on.getLsbD 5 && s.pwr.on.getLsbD (l.val + 1)

/-- The cores a target names: P of a lane with its copy S, or in WIDE one core. -/
def targetCores (s : State) : List (Fin 8) :=
  let t := s.kiln.target
  (if s.mod.state = .wide then
    if h : t < 4 then [coreP ⟨t, h⟩]
    else if h : 0x10 ≤ t ∧ t < 0x18 then [⟨t - 0x10, by omega⟩] else []
  else if h : t < 4 then [coreP ⟨t, h⟩, coreS ⟨t, h⟩] else []).filter (fun k => debugPower s (laneOf k))

/-- The core the debugger acts on. -/
def targetCore (s : State) : Option (Fin 8) := (targetCores s).head?

/-- The target is halted. -/
def targetHalted (s : State) : Bool := match targetCore s with | some k => (s.cores[k]).halted | none => false

/-- The target executes when it is not halted. -/
def targetExecutes (s : State) : Bool :=
  match targetCore s with
  | some k =>
    let l := s.vrc.lanes[laneOf k]
    match s.vrc.mode with
    | .split => decide (l.state = .split) && !l.stopped
    | .oo1 => decide (s.vrc.svc = laneOf k) && !l.held
    | .oo2 | .oo3 => decide (l.state = .active)
    | .none => false
  | none => false

/-- Target state of 0x2010 subindex 3. -/
def targetState (s : State) : Nat := if targetHalted s then 1 else if targetExecutes s then 0 else 2

/-- Run and step are accepted (R404): the 1oo1 lane in SERVICE, a core in WIDE. -/
def targetRuns (s : State) : Bool :=
  match targetCore s with
  | some k => (decide (s.mod.state = .service) && decide (s.vrc.mode = .oo1) && decide (s.vrc.svc = laneOf k)) ||
      decide (s.mod.state = .wide)
  | none => false

/-- The target's cores changed alike (R404). -/
def onTarget (f : Core → Core) (s : State) : State := mapCores (targetCores s) f s

/-- PC of the target, for DEBUG_CMD. -/
def targetPc (s : State) : Nat := match targetCore s with | some k => (s.cores[k]).pc.toNat % 2 ^ 32 | none => 0

/-- The target halts (R404): in RUN the module enters SERVICE. -/
def haltTarget (s : State) : State :=
  let s1 := if targetExecutes s then onTarget (fun c => { c with halted := true, steps := 0 }) s else s
  if isRun s && targetExecutes s then enterService 0x0045 s1 else s1

/-- Command v of 0x2010 subindex 2: the abort code of its refusal, or none. -/
def debugCommand (v : Nat) (s : State) : Option Nat × State :=
  let note (t : State) : State := record 0 0x0045 s.kiln.target v (targetPc s) t
  if v = 0 then (none, s)
  else if targetCore s = none then (some 0x08000022, s)
  else if v = 1 then (none, haltTarget (note s))
  else if targetRuns s = false then (some 0x08000022, s)
  else if v = 2 then (none, onTarget (fun c => { c with halted := false, steps := 0 }) (note s))
  else (none, onTarget (fun c => if c.halted then { c with steps := c.steps + 1 } else c) (note s))

/-- A register of 0x2011 or 0x2013, or PC, as the debugger reads it. -/
def debugReg (c : Core) (id : Nat) (idx sub : Nat) : Reg64 :=
  if idx = 0x2010 then c.pc
  else if idx = 0x2011 then
    if h : sub - 1 < 32 then c.getX ⟨sub - 1, h⟩ else if h : sub - 33 < 32 then c.getF ⟨sub - 33, h⟩ else 0
  else c.readWord id (sub - 1)

/-- A register of 0x2011 or 0x2013, or PC, as the debugger writes it. -/
def Core.debugSet (idx sub : Nat) (v : Reg64) (c : Core) : Core :=
  if idx = 0x2010 then { c with pc := v }
  else if idx = 0x2011 then
    if h : sub - 1 < 32 then c.setX ⟨sub - 1, h⟩ v else if h : sub - 33 < 32 then c.setF ⟨sub - 33, h⟩ v else c
  else c.writeWord (sub - 1) v

/-- The core number CW_COREID shows. -/
def coreIdOf (s : State) (k : Fin 8) : Nat := if s.mod.state = .wide then k.val else (laneOf k).val

/-- Octets of the target's lane memory. -/
def debugMemRead (n : Nat) (s : State) : List Byte :=
  match targetCore s with
  | some k => memRead s.mems[k] s.kiln.memAddr n
  | none => []

/-- Cache lines over an address range go. -/
def Core.dropRange (a n : Nat) (c : Core) : Core :=
  let base (l : CacheLine) : Nat := l.tag * 8192 + l.set * 64
  let keep (l : CacheLine) : Bool := decide (base l + 64 ≤ a) || decide (a + n ≤ base l)
  { c with icache := c.icache.filter keep, dcache := c.dcache.filter keep }

/-- Octets written to the target's lane memory, in both copies. -/
def debugMemWrite (d : List Byte) (s : State) : State :=
  let a := s.kiln.memAddr
  let s1 := (targetCores s).foldl (fun t k =>
    { t with mems := t.mems.set k.val (memWrite t.mems[k] a d) k.isLt }) s
  onTarget (Core.dropRange a d.length) s1

/-! ### 1oo1 (R56, R75) -/

/-- 0x2100 subindex 5: the abort code of a refusal, or none. -/
def selectLane (v : Nat) (s : State) : Option Nat × State :=
  if s.mod.state ≠ .service then (some 0x08000022, s)
  else if h : v < 4 then
    let l : Fin 4 := ⟨v, h⟩
    if s.vrc.mode = .oo1 then (if s.vrc.svc = l then (none, s) else (some 0x08000022, s))
    else if laneState s l = .retired ∨ laneState s l = .quarantine then (some 0x08000022, s)
    else
      (none, setVote .oo1 false 0
        (setLane l (fun x => { x with fenced := false, held := false, gate := none, silent := false })
          (laneReset l { s with vrc := { s.vrc with svc := l } })))
  else if s.vrc.mode = .oo1 then
    (none, setVote .none false 0
      (setLane s.vrc.svc (fun x => { x with fenced := true, held := true }) (laneReset s.vrc.svc s)))
  else (none, s)

end Sys2Proof.Machine
end

