-- ==== Sys2Proof/Machine/DictRead.lean ====
section
/-! DEFINITION. What each entry of the object dictionary reads (the entry tables of every chapter), and the records of
0x2801 (R427). -/

namespace Sys2Proof.Machine

/-! ### Records (R411, R412, R427) -/

/-- The slot that holds a SEQ, if the recorder holds it. -/
def recSlot (r : Recorder) (q : Nat) : Option Nat :=
  let h := r.headIndex
  let d := (r.headSeq + 0xFFFFFFFF - q) % 0xFFFFFFFF
  if r.headValid = false ∨ q = 0 then none
  else if h < 8192 then (if d ≤ h then some (h - d) else none)
  else if d ≤ h - 8192 then some (h - d)
  else
    let w := 65536 - (d - (h - 8192))
    if d < 57344 ∧ leAt (slotBytes r w) 0 4 = q then some w
    else if q ≤ 8192 then some (q - 1) else none

/-- Up to `n` records from a SEQ onwards, as stored. -/
def recordsFrom (r : Recorder) (q : Nat) : Nat → List Byte
  | 0 => []
  | n + 1 =>
    match recSlot r q with
    | some i => slotBytes r i ++ (if q = r.headSeq then [] else recordsFrom r (nextSeq q) n)
    | none => []

/-! ### Strings -/

/-- The digits of a number below 256. -/
def decimal (n : Nat) : List Byte :=
  let d (k : Nat) : Byte := BitVec.ofNat 8 (48 + k % 10)
  if n < 10 then [d n] else if n < 100 then [d (n / 10), d n] else [d (n / 100), d (n / 10), d n]

/-- A firmware release as 0x100A shows it: major, minor and patch. -/
def releaseText (r : Nat) : List Byte := decimal (field r 16 8) ++ ascii "." ++ decimal (field r 8 8) ++ ascii "." ++ decimal (field r 0 8)

/-! ### Status bytes -/

/-- 0x1001 (R402). -/
def errorRegister (s : State) : Nat :=
  let supply := banksFitted s && (allFin 3).any (fun b => decide ((s.banks[b]).supply ≠ 2))
  let xn := (allFin 64).any (fun n => decide ((s.xn.nodes[n]).state = 3)) ||
    (decide (s.xn.role ≠ .off) && (allFin 2).any (fun k => !(s.xn.chans[k]).up))
  let can := (allFin 2).any (fun c => decide ((s.cfd.chans[c]).bus = 2))
  let twin := s.twl.en && (!s.twl.link.up || !s.twl.pulse.up)
  let hold := decide (s.mod.state = .safeHold) || decide (s.mod.state = .service) ||
    (allFin 4).any (fun l => decide (laneState s l = .retired))
  let w := 4 * b2n supply + 16 * b2n (xn || can || twin) + 128 * b2n hold
  w + b2n (decide (w ≠ 0))

/-- 0x2F00 subindex 1 (R407). -/
def oldStatus : ModState → Nat
  | .cold | .firing => 0
  | .run2oo3 | .run2oo2 | .wide => 1
  | .safeHold | .banked => 2
  | .service | .maintenance => 3

/-- Commanded states of the outputs, bit by channel. -/
def commandedOutputs (s : State) : BitVec 48 :=
  (allFin 48).foldl (fun m ch => putBit m ch.val ((s.chans[ch]).isOut && (s.chans[ch]).cmd)) 0

/-- Application state of 0x3000 subindex 3 (R183). -/
def appState (s : State) : Nat :=
  if s.cys.app.isNone then 0
  else if s.cys.run = false then 1
  else if (configured s).any (fun n => decide ((s.cys.tasks[n]).state = .stopped)) then 3 else 2

/-- The core whose counters 0x2901 reads (R440). -/
def countedCore (s : State) : Option (Fin 8) :=
  if s.mod.state = .wide then some 0 else (activeLanes s).head?.map coreP

/-- Transients of a lane in the window (R60, R74). -/
def transientCount (s : State) (x : Lane) : Nat :=
  let n := (x.transients.filter (fun t => decide (s.recd.optime - t ≤ transientWindow))).length
  match x.retired with
  | some r => if r.test = 5 ∧ n = 2 then 3 else n
  | none => n

/-! ### Numbers, by index -/

/-- A lane's part of an entry with a subindex per lane. -/
def byLane (sub : Nat) (f : Fin 4 → Nat) : Nat := if h : sub - 1 < 4 then f ⟨sub - 1, h⟩ else 0

/-- 0x1000-0x20FF. -/
def value1 (b : Session) (s : State) (idx sub : Nat) : Nat :=
  if idx = 0x1000 then 0x00040000
  else if idx = 0x1001 then errorRegister s
  else if idx = 0x1018 then
    [0x0A5C, s.mod.product, s.mod.issue * 2 ^ 24 + s.boot.runRelease % 2 ^ 24, Config.serial.toNat].getD (sub - 1) 0
  else if idx = 0x2000 then [s.mod.state.code, s.mod.command, s.mod.cause, s.mod.changes].getD (sub - 1) 0
  else if idx = 0x2002 then
    [safetyCrc s, (match s.kiln.staged with | some g => g.index * 256 + g.sub | none => 0), s.kiln.lastRefusal,
      s.kiln.commits, b2n (levelUp b s), maintCount s].getD (sub - 1) 0
  else if idx = 0x2010 then [s.kiln.target, 0, targetState s, 0, s.kiln.breakpoint].getD (sub - 1) 0
  else if idx = 0x2012 then s.kiln.memAddr
  else stored s idx sub

/-- 0x2100-0x24FF. -/
def value2 (s : State) (idx sub : Nat) : Nat :=
  let v := s.vrc
  if idx = 0x2100 then
    if sub = 3 then stored s idx sub
    else [v.mode.code, laneStat s, 0, v.xcount, if v.mode = .oo1 then v.svc.val else 0xFF, v.injAtStart, v.injAtBisq].getD
      (sub - 1) 0
  else if idx = 0x2101 then byLane sub (fun l => (laneState s l).code)
  else if idx = 0x2102 then byLane sub (fun l => transientCount s v.lanes[l])
  else if idx = 0x2103 then byLane sub (fun l => match (v.lanes[l]).retired with | some r => r.test | none => 0)
  else if idx = 0x2104 then byLane sub (fun l => match (v.lanes[l]).retired with | some r => r.optime | none => 0)
  else if idx = 0x2105 then
    byLane sub (fun l => match (v.lanes[l]).retired with
      | some r => (match r.addr with | some a => 2 ^ 63 + a | none => 0)
      | none => 0)
  else if idx = 0x2200 then
    if sub ≤ 2 then stored s idx sub
    else [(match (lanesIn s (fun x => decide (x = .bisque))).head? with | some l => l.val | none => 0xFF),
      (match spareLane s with | some l => l.val | none => 0xFF), s.rot.swaps, s.rot.substitutions, s.rot.lastWedge,
      min 0xFFFFFFFF (s.rot.holdCounts / 500), s.rot.deferrals].getD (sub - 3) 0
  else if idx = 0x2201 then byLane sub (fun l => (v.lanes[l]).bisqueAt)
  else if idx = 0x2300 then
    if sub ≤ 4 then stored s idx sub
    else [s.clk.ref, s.clk.refSwitches, s.clk.coastEntries, s.clk.coastMs, s.clk.berrCount].getD (sub - 5) 0
  else if idx = 0x2301 then if h : sub - 1 < 13 then s.clk.freqs[sub - 1] else 0
  else if idx = 0x2311 then
    let t := s.tim
    [(splitNs t.ns).1, (splitNs t.ns).2, timeFlags s, ptpState s, int32 t.lastOfs, int32 ((t.delay[0]).mean / 65536),
      int32 ((t.delay[1]).mean / 65536), errBoundReg s, t.steps, t.tcCorrected, t.syncTimeouts].getD (sub - 1) 0
  else if 0x2400 ≤ idx ∧ idx < 0x2430 then
    if sub < 9 then stored s idx sub
    else if h : idx - 0x2400 < 48 then
      let c := s.chans[idx - 0x2400]
      if sub = 9 then c.state.code else c.cause
    else 0
  else if idx = 0x2430 then
    if sub < 12 then stored s idx sub
    else if h : (sub - 12) % 3 < 3 then
      let x := s.banks[(sub - 12) % 3]
      if sub < 15 then x.supply else if sub < 18 then x.volt else x.evtLost
    else 0
  else stored s idx sub

/-- 0x2500-0x27FF. -/
def value3 (s : State) (idx sub : Nat) : Nat :=
  let x := s.xn
  let t := s.twl
  if idx = 0x2500 then
    if sub ≤ 4 then stored s idx sub
    else [x.role.code, x.master, x.epoch, x.macros, (x.chans[0]).errors, (x.chans[1]).errors, x.lateCount, x.driftCount,
      x.collCold + x.collOther, x.startResult].getD (sub - 5) 0
  else if idx = 0x2511 then [leAt x.stored 28 4, leAt x.stored 6 2, x.tableResult].getD (sub - 1) 0
  else if idx = 0x2520 then
    [s.kiln.gwNode, s.kiln.gwRoute, s.kiln.gwIndex, s.kiln.gwSub, 0, x.gwAbort].getD (sub - 1) 0
  else if idx = 0x2530 then if h : sub < 64 then (x.nodes[sub]).state else 0
  else if idx = 0x2600 then
    if sub ≤ 4 then stored s idx sub
    else [t.role.code, if t.link.up || t.pulse.up then t.peerRole else 0xFF, b2n s.pwr.pos, t.takeovers, t.diverges,
      t.peerCraze.toNat, t.craze.toNat, t.fail].getD (sub - 5) 0
  else stored s idx sub

/-- 0x2800-0x2FFF. -/
def value4 (b : Session) (s : State) (idx sub : Nat) : Nat :=
  let r := s.recd
  let o := s.boot
  let p := s.pwr
  if idx = 0x2800 then
    [r.headSeq, r.headIndex, b2n r.sherdFull, r.optime, r.pwrcyc, r.written, r.lost, r.merges, r.peak].getD (sub - 1) 0
  else if idx = 0x2801 then [(sessOf b s).recFirst, (sessOf b s).recCount].getD (sub - 1) 0
  else if idx = 0x2811 then if h : sub - 1 < 32 then r.suppressedTotal[sub - 1] else 0
  else if idx = 0x2901 then
    match countedCore s with
    | some k => if h : sub - 1 < 16 then ((s.cores[k]).lpc.cnt[sub - 1]).toNat else 0
    | none => 0
  else if idx = 0x2902 then if h : sub - 1 < 8 then (s.bw[sub - 1]).last else 0
  else if idx = 0x2903 then if h : sub - 1 < 8 then (s.bw[sub - 1]).max_ else 0
  else if idx = 0x2A00 then
    [o.running.getD 0xFF, o.runRelease, o.nextBank, o.prev.getD 0xFF, o.runPfv, o.fallback, o.boots].getD (sub - 1) 0
  else if idx = 0x2A01 then if h : sub - 1 < 3 then (o.banks[sub - 1]).state.code else 0
  else if idx = 0x2A02 then if h : sub - 1 < 3 then (o.banks[sub - 1]).release else 0
  else if idx = 0x2A03 then if h : sub - 1 < 3 then (o.banks[sub - 1]).trials else 0
  else if idx = 0x2A11 then
    [(fwTarget o).val, (match o.fw with | some t => t.data.length | none => 0), 0, o.fwResult].getD (sub - 1) 0
  else if idx = 0x2A31 then
    match s.kiln.blob with
    | some (pfv, _) => [pfv, (blobOctets s.kiln).length, (crc32c (blobOctets s.kiln)).toNat].getD (sub - 1) 0
    | none => 0
  else if idx = 0x2B00 then
    if sub = 2 then stored s idx sub
    else [0, 0, p.rstKind, p.rstDetail, p.volt, p.on.toNat, p.warnings, p.resets, p.dips].getD (sub - 1) 0
  else if idx = 0x2B01 then if h : sub - 1 < 7 then p.resetsOfKind[sub - 1] else 0
  else if idx = 0x2F00 then
    let f := if banksFitted s then (bankFiltered s).toNat else 0
    let c := if banksFitted s then (commandedOutputs s).toNat else 0
    [oldStatus s.mod.state, f % 2 ^ 32, f / 2 ^ 32, c % 2 ^ 32, c / 2 ^ 32, r.optime / 3600000, errorRegister s,
      b2n (decide (s.vrc.mode = .oo3) || decide (s.vrc.mode = .oo2))].getD (sub - 1) 0
  else stored s idx sub

/-- A task's part of 0x3020 + n (R183). -/
def taskValue (s : State) (n : Fin 8) (sub : Nat) : Nat :=
  let t := s.cys.tasks[n]
  let c := taskCfg s n
  [(match c with | some x => x.period | none => 0), (match c with | some x => x.deadline / 10 | none => 0), t.cycles,
    t.ovrs, t.skips, t.lastUs, t.maxUs, (match c with | some x => x.stall | none => 0), t.state.code].getD (sub - 1) 0

/-- 0x3000-0x4FFF. -/
def value5 (s : State) (idx sub : Nat) : Nat :=
  let y := s.cys
  if idx = 0x3000 then
    let a (f : AppImage → Nat) : Nat := match y.app with | some x => f x | none => 0
    [a (fun x => x.appId), a (fun x => x.build), appState s, a (fun x => x.gapLen), y.quietGaps, y.noacks,
      a (fun x => x.crc)].getD (sub - 1) 0
  else if idx = 0x3011 then
    [0, b2n (decide (y.olc = .accepted) || decide (y.olc = .switching)), y.result, y.need].getD (sub - 1) 0
  else if 0x3020 ≤ idx ∧ idx < 0x3028 then if h : idx - 0x3020 < 8 then taskValue s ⟨idx - 0x3020, h⟩ sub else 0
  else if idx = 0x3030 then
    [(match y.app.bind (fun a => a.xnTask) with | some n => n.val | none => 0xFF), xnLead s, y.xnLateCount].getD (sub - 1) 0
  else if idx = 0x4001 then byLane sub (fun l => lksRead s (coreP l) 8)
  else if idx = 0x4002 then byLane sub (fun l => lksRead s (coreP l) 4)
  else if idx = 0x4010 then
    [s.pwr.temp.toNat, s.pwr.hottest.toNat, min 0xFFFFFFFF (s.pwr.hotTenths / 10), s.pwr.withdrawals].getD (sub - 1) 0
  else stored s idx sub

/-- Indices whose subindex 0 is a value of its own (R383). -/
def singleEntry (idx : Nat) : Bool :=
  decide (idx ∈ [0x1000, 0x1001, 0x1008, 0x1009, 0x100A, 0x1017, 0x2312, 0x2510, 0x2701, 0x2A10, 0x2A30, 0x3010])

/-- The value of a numeric entry. -/
def entryValue (b : Session) (s : State) (idx sub : Nat) : Nat :=
  if sub = 0 ∧ singleEntry idx = false then highestSub idx
  else if idx < 0x2100 then value1 b s idx sub
  else if idx < 0x2500 then value2 s idx sub
  else if idx < 0x2800 then value3 s idx sub
  else if idx < 0x3000 then value4 b s idx sub
  else value5 s idx sub

/-- The octets of a string entry. -/
def entryString (s : State) (idx : Nat) : List Byte :=
  if idx = 0x1008 then ascii "Oaren VPM-4"
  else if idx = 0x1009 then ascii "Issue " ++ leBytes 1 s.mod.issue
  else releaseText s.boot.runRelease

/-- The octets of a fixed OCTET_STRING entry. -/
def entryOctets (s : State) (idx sub n : Nat) : List Byte :=
  if idx = 0x2312 then
    match s.tim.master with
    | some m => (leBytes 8 m.gm.toNat).reverse
    | none => leBytes 8 0
  else if idx = 0x2701 then leBytes 6 Config.factoryMac.toNat
  else leBytes n (stored s idx sub)

/-- The octets of a DOMAIN entry that a read does not change. -/
def entryDomain (b : Session) (s : State) (idx : Nat) : List Byte :=
  if idx = 0x2510 then s.xn.stored
  else if idx = 0x2801 then recordsFrom s.recd (sessOf b s).recFirst (sessOf b s).recCount
  else blobOctets s.kiln

/-- The gateway starts a transfer (R311): the node, route and entry that 0x2520 names. -/
def gatewayStart (b : Session) (write : Bool) (off : Nat) (d : List Byte) (s : State) : Option Answer × State :=
  if s.xn.acyc.isSome then (some (.abort 0x08000022), s)
  else
    let k := s.kiln
    (none, setXn (fun x =>
      { x with tag := (x.tag + 1) % 256
               acyc := some { by_ := b, node := k.gwNode, route := k.gwRoute, index := k.gwIndex, sub := k.gwSub
                              write := write, tag := (x.tag + 1) % 256, toggle := false, data := d, total := d.length
                              off := off, begun := false, tries := 0, sent := false } }) s)

/-- Octets a read of 0x2012 subindex 2 gives: 1,024, or those up to the end of the memory range. -/
def memSpan (s : State) : Nat :=
  (List.range 256).foldl (fun m i => if debugSpan s (4 * (i + 1)) then 4 * (i + 1) else m) 0

/-- Register access of the debugger needs a halted target (R404). -/
def debugRegRead (idx sub : Nat) (s : State) : Answer :=
  match targetCore s with
  | some k =>
    if (s.cores[k]).halted then .done (leBytes 8 (debugReg s.cores[k] (coreIdOf s k) idx sub).toNat) else .abort 0x08000022
  | none => .abort 0x08000022

/-- Memory access of the debugger (R404). -/
def debugMemAnswer (n : Nat) (s : State) : Answer :=
  if debugSpan s n = false then .abort 0x06090030
  else if targetHalted s = false then .abort 0x08000022
  else .done (debugMemRead n s)

/-- A read of an entry (R383, R391): the answer, none while a transfer to a node runs; `off` is the offset of the
block a GDP READ asks for. -/
def dictRead (b : Session) (idx sub off : Nat) (s : State) : Option Answer × State :=
  match readCheck b idx sub s with
  | .inr c => (some (.abort c), s)
  | .inl e =>
    if idx = 0x2003 ∧ sub = 1 then keyChallenge b s
    else if idx = 0x2520 ∧ sub = 5 then gatewayStart b false off [] s
    else if idx = 0x2012 ∧ sub = 2 then (some (debugMemAnswer (memSpan s) s), s)
    else if idx = 0x2011 ∧ 0 < sub then (some (debugRegRead idx sub s), s)
    else if idx = 0x2013 ∧ 0 < sub then (some (debugRegRead idx sub s), s)
    else if idx = 0x2010 ∧ sub = 4 then (some (debugRegRead idx sub s), s)
    else
      let d := match e.ty with
        | .bool => leBytes 1 (entryValue b s idx sub)
        | .uint n => leBytes n (entryValue b s idx sub)
        | .int n => leBytes n (entryValue b s idx sub)
        | .octets n => entryOctets s idx sub n
        | .str => entryString s idx
        | .domain _ _ => entryDomain b s idx
      (some (.done d), s)

end Sys2Proof.Machine
end

