-- ==== Sys2Proof/Machine/DictWrite.lean ====
section
/-! DEFINITION. Writes of the object dictionary (R390-R393, R455), and how the Kiln serves a request of a session
(R354, R384, R386, R390). -/

namespace Sys2Proof.Machine

/-- The answer of a write: no data, or the abort code of a refusal. -/
def wrote (r : Option Nat × State) : Option Answer × State :=
  (some (match r.1 with | some c => .abort c | none => .done []), r.2)

/-- A write that took effect. -/
def accepted (s : State) : Option Answer × State := (some (.done []), s)

/-- PC, a register or a control word of a halted target (R404). -/
def debugRegWrite (idx sub v : Nat) (s : State) : Option Answer × State :=
  if targetHalted s then accepted (onTarget (Core.debugSet idx sub (BitVec.ofNat 64 v)) s)
  else (some (.abort 0x08000022), s)

/-- 0x2010-0x2013 (R403-R405). -/
def debugWrite (idx sub : Nat) (d : List Byte) (s : State) : Option Answer × State :=
  let v := leNat d
  if idx = 0x2010 then
    if sub = 1 then accepted (setKiln (fun k => { k with target := v }) s)
    else if sub = 2 then wrote (debugCommand v s)
    else if sub = 5 then accepted (setKiln (fun k => { k with breakpoint := v }) s)
    else debugRegWrite idx sub v s
  else if idx = 0x2012 then
    if sub = 1 then accepted (setKiln (fun k => { k with memAddr := v }) s)
    else if targetHalted s then accepted (debugMemWrite d s)
    else (some (.abort 0x08000022), s)
  else debugRegWrite idx sub v s

/-- 0x2520 (R310, R311). -/
def gatewayWrite (b : Session) (sub : Nat) (d : List Byte) (s : State) : Option Answer × State :=
  let v := leNat d
  if sub = 1 then accepted (setKiln (fun k => { k with gwNode := v }) s)
  else if sub = 2 then accepted (setKiln (fun k => { k with gwRoute := v }) s)
  else if sub = 3 then accepted (setKiln (fun k => { k with gwIndex := v }) s)
  else if sub = 4 then accepted (setKiln (fun k => { k with gwSub := v }) s)
  else if (match s.kiln.gwIn with | some t => decide (t.session ≠ sessKey b) | none => false) then
    (some (.abort 0x08000022), s)
  else gatewayStart b true 0 d s

/-- 0x2801 subindices 1 and 2 belong to the session (R427); a node's session ends with its request. -/
def recordRange (b : Session) (sub v : Nat) (s : State) : State :=
  match sessIdx b with
  | some i => setSess i (fun x => if sub = 1 then { x with recFirst := v } else { x with recCount := v }) s
  | none => s

/-- The maintenance key changes (R389). -/
def keyWrite (b : Session) (d : List Byte) (s : State) : State :=
  record 0 0x0046 (0x2003 * 256 + 3) (sessPath b) (sessId b) (setKiln (fun k => { k with key := d, dirty := true }) s)

/-- 0x2100 subindex 3 (R65): once between resets. -/
def wideWrite (b : Session) (v : Nat) (s : State) : Option Answer × State :=
  if s.vrc.wideWritten then (some (.abort 0x08000022), s)
  else accepted (paramWrite b 0x2100 3 v { s with vrc := { s.vrc with wideWritten := true } })

/-- Image commands over the plain dictionary: a standby is taken to accept (R174, R330). -/
def imageCommand (v peer : Nat) (s : State) : Option Answer × State :=
  if v = 1 then wrote (imageStage peer s) else if v = 2 then wrote (imageDiscard s) else accepted s

/-- A write of an entry (R391): the answer, none while the two-step commit or a node's answer is awaited. -/
def dictWrite (b : Session) (idx sub : Nat) (d : List Byte) (s : State) : Option Answer × State :=
  match writeCheck b idx sub d s with
  | .inr c => (some (.abort c), s)
  | .inl e =>
    let v := leNat d
    if e.safety then safetyWrite b idx sub e d s
    else if idx = 0x2000 then wrote (stateCmd v s)
    else if idx = 0x2003 then (if sub = 2 then keyResponse b d s else accepted (keyWrite b d s))
    else if debugEntry idx then debugWrite idx sub d s
    else if idx = 0x2100 ∧ sub = 3 then wideWrite b v s
    else if idx = 0x2100 then wrote (selectLane v s)
    else if idx = 0x2520 then gatewayWrite b sub d s
    else if idx = 0x2801 then accepted (recordRange b sub v s)
    else if idx = 0x2A11 then wrote (fwCommand v s)
    else if idx = 0x2B00 ∧ sub = 1 then wrote (powerCmd v s)
    else if idx = 0x3011 then imageCommand v 1 s
    else accepted (paramWrite b idx sub v s)

/-! ### Blocks (R353, R390, R455) -/

/-- A block of 0x2520 subindex 5 over GDP: the transfer to the node starts when the value is complete. -/
def gatewayBlock (b : Session) (k : BlockIn) (s : State) : Option Answer × State :=
  match blockRules 1 65536 b k s.kiln.gwIn with
  | .refused c => (some (.abort c), s)
  | .repeated => accepted s
  | .taken t last =>
    if last then gatewayStart b true 0 t.data (setKiln (fun x => { x with gwIn := none }) s)
    else accepted (setKiln (fun x => { x with gwIn := some t }) s)

/-- A block of an entry that is written in blocks. -/
def blockWrite (b : Session) (idx sub : Nat) (k : BlockIn) (s : State) : Option Answer × State :=
  match writeAccess b idx sub s with
  | .inr c => (some (.abort c), s)
  | .inl _ =>
    if idx = 0x2A10 then fwBlock b k s
    else if idx = 0x3010 then appBlock b k s
    else if idx = 0x2510 then schedBlock b k s
    else gatewayBlock b k s

/-- A GDP WRITE (R353): blocks of the DOMAIN entries, whole values of the others. -/
def gdpWrite (b : Session) (idx sub : Nat) (k : BlockIn) (s : State) : Option Answer × State :=
  if blockEntry idx || (decide (idx = 0x2520) && decide (sub = 5)) then blockWrite b idx sub k s
  else dictWrite b idx sub k.data s

/-- The block of a USDO download: OFFSET, FLAGS and three octets of 0 before the data (R455). -/
def usdoBlock (d : List Byte) : BlockIn :=
  { offset := BitVec.ofNat 32 (leAt d 0 4), last := (leAt d 4 1).testBit 0, data := d.drop 8 }

/-- A USDO download (R390). -/
def usdoWrite (b : Session) (idx sub : Nat) (d : List Byte) (s : State) : Option Answer × State :=
  if blockEntry idx then
    match writeAccess b idx sub s with
    | .inr c => (some (.abort c), s)
    | .inl _ => if d.length < 8 then (some (.abort 0x06070010), s) else blockWrite b idx sub (usdoBlock d) s
  else dictWrite b idx sub d s

/-! ### Requests (R351, R354, R384, R386) -/

/-- The Kiln's stack takes GDP requests: not in COLD, nor in BANKED but for WAKE (R31, R341). -/
def gdpUp (s : State) : Bool := stackUp s && decide (s.mod.state ≠ .banked) && decide (s.mod.state ≠ .cold)

/-- A CANopen FD channel serves its USDO client (R32, R198, R356, R451). -/
def canLive (ch : Fin 2) (s : State) : Bool :=
  let c := s.cfd.chans[ch]
  gdpUp s && s.pwr.on.getLsbD 9 && s.clk.clken1.getLsbD 1 && !s.clk.quiet && decide (c.node ≠ 0) && decide (c.bus < 2) &&
    decide (c.nmt ≠ 3) && (!romMode s || decide (ch = 0))

/-- The requester of a command can reach the Kiln: an open GDP session, a live channel, a node of a bus in use. -/
def sessLive (b : Session) (s : State) : Bool :=
  match b with
  | .gdp n => gdpUp s && (s.kiln.sessions[n.val]).open_
  | .can ch => canLive ch s
  | .node _ => gdpUp s && decide (s.xn.role = .master)

/-- A GDP session waits for the answer to its last request. -/
def sessBusy (x : SessionState) : Bool := decide (0 < x.seq) && decide (x.answer = none)

/-- The next request of a session is executed and, where an answer is ready, answered. -/
def answerTo (b : Session) (f : State → Option Answer × State) (s : State) : State :=
  let (r, t) := f s
  match r with
  | some a => reply b a t
  | none => t

/-- A session's next request begins: a GDP session's SEQ counts on; a channel's session is in use. -/
def nextRequest (b : Session) (s : State) : State :=
  match b with
  | .gdp n => setSess ⟨n.val, by omega⟩ (fun x => { x with seq := (x.seq + 1) % 2 ^ 32, answer := none }) s
  | .can ch => openCan ch s
  | .node _ => s

/-- A request of a session in the form of its effect: the Kiln first ends what it serves (R384). -/
def serve (b : Session) (f : State → Option Answer × State) (s : State) : State :=
  let s0 := fwErased s
  if sessLive b s0 = false then s0
  else if (match b with | .gdp n => sessBusy s0.kiln.sessions[n.val] | _ => false) then replyOnly b (.abort 0x05030000) s0
  else answerTo b f (nextRequest b s0)

/-- A port brings GDP datagrams to the Kiln (R337, R349, R351). -/
def gdpPort (h : GdpHead) (s : State) : Bool :=
  gdpUp s && (par s 0x2700 4).testBit h.port.val &&
    (if p : h.port.val < 2 then h.ownVid && switchOn s && decide (s.lnc.spd[h.port.val] ≠ 0)
      else cpnLive s && decide (s.cpn.spd[h.port.val - 2] ≠ 0))

/-- The open session a GDP header names (R352): the module numbers its sessions 1-4. -/
def gdpSession (h : GdpHead) (s : State) : Option (Fin 4) :=
  let n := h.session.toNat
  if p : 1 ≤ n ∧ n ≤ 4 then
    if (s.kiln.sessions[n - 1]).open_ then some ⟨n - 1, by omega⟩ else none
  else none

/-- A GDP request of an open session under its SEQ (R354). -/
def gdpServe (h : GdpHead) (f : Session → State → Option Answer × State) (s : State) : State :=
  if gdpPort h s = false then s
  else
    let s0 := fwErased s
    match gdpSession h s0 with
    | none => s0
    | some n =>
      let x := s0.kiln.sessions[n.val]
      let q := h.seq.toNat
      if 0 < x.seq ∧ q = x.seq then
        match x.answer with
        | some a => replyOnly (.gdp n) a s0
        | none => s0
      else if q ≠ (x.seq + 1) % 2 ^ 32 ∨ sessBusy x = true then replyOnly (.gdp n) (.abort 0x05030000) s0
      else answerTo (.gdp n) (f (.gdp n)) (nextRequest (.gdp n) s0)

end Sys2Proof.Machine
end

