-- ==== Sys2Proof/Machine/CanNet.lean ====
section
/-! DEFINITION. The CAN FD channels as CiA 1301 nodes (R355-R357), apart from their dictionary requests. -/

namespace Sys2Proof.Machine

/-- A CAN channel changed. -/
def setCan (ch : Fin 2) (f : CanChan → CanChan) (s : State) : State :=
  { s with cfd := { s.cfd with chans := vmod s.cfd.chans ch f } }

/-- The controllers have power and a clock, and no coast takes them off the bus (R198, R201). -/
def cfdLive (s : State) : Bool := s.pwr.on.getLsbD 9 && s.clk.clken1.getLsbD 1 && !s.clk.quiet

/-- A channel with a node-ID on the bus. -/
def canOn (ch : Fin 2) (s : State) : Bool :=
  let c := s.cfd.chans[ch]
  cfdLive s && decide (c.node ≠ 0) && decide (c.bus < 2) && decide (c.nmt ≠ 0)

/-- TPDO_EVENT_TIMER (R357). -/
def execTpdoEventTimer (dt : Nat) (channel : Fin 2) (tpdo : Fin 8) (s : State) : Out :=
  let s0 := advance dt s
  if canOn channel s0 && decide (par s0 (0x1800 + 8 * channel.val + tpdo.val) 5 ≠ 0) then .next (sendTpdo channel tpdo s0)
  else .next s0

/-- The RPDO whose valid COB-ID a frame carries (R356, R402). -/
def rpdoOf (ch : Fin 2) (cob : Nat) (s : State) : Option (Fin 8) :=
  (allFin 8).find? (fun n =>
    let v := par s (0x1400 + 8 * ch.val + n.val) 1
    decide (v < 2 ^ 31) && decide (v % 2 ^ 29 = cob))

/-- The Kiln's receive timestamp: whole microseconds, within 5 us of network time (R229); the error is a free value. -/
def kilnStamp (s : State) : Int × State :=
  let (w, s1) := drawWord s
  ((s.tim.ns / 1000 + (w.toNat % 11 : Nat) - 5) * 1000, s1)

/-- An RPDO reaches its buffer (R357). -/
def rpdoStore (ch : Fin 2) (n : Fin 8) (data : List Byte) (s : State) : State :=
  let (t, s1) := kilnStamp s
  let (sec, ns) := splitNs t
  let base := 0x0300038000 + 0x800 * ch.val + 0x80 * n.val
  let seq := leNat (memRead s.vmem base 4)
  let head := leBytes 4 ((seq + 1) % 2 ^ 32) ++ leBytes 4 ns ++ leBytes 6 sec ++ leBytes 1 data.length ++ leBytes 1 0
  semKiln base { s1 with vmem := memWrite s1.vmem base (head ++ data) }

/-- RPDO_RECEIVED: in the operational state. -/
def execRpdoReceived (dt : Nat) (channel : Fin 2) (cobId : BitVec 29) (data : List (BitVec 8)) (s : State) : Out :=
  let s0 := advance dt s
  if canOn channel s0 = false ∨ (s0.cfd.chans[channel]).nmt ≠ 2 ∨ 64 < data.length then .next s0
  else
    match rpdoOf channel cobId.toNat s0 with
    | some n => .next (rpdoStore channel n data s0)
    | none => .next s0

/-- CAN_BUSOFF (R355): with the transmit error count. -/
def execCanBusoff (channel : Fin 2) (tec : BitVec 8) (s : State) : Out :=
  if canOn channel s then
    .next (record 7 0x5006 channel.val tec.toNat 0 (setCan channel (fun c => { c with bus := 2, tec := tec.toNat }) s))
  else .next s

/-- CAN_BUSOFF_RECOVERY (R198, R355): after bus-off, or after coast. -/
def execCanBusoffRecovery (dt : Nat) (channel : Fin 2) (s : State) : Out :=
  let s0 := advance dt s
  let c := s0.cfd.chans[channel]
  if cfdLive s0 = true ∧ c.node ≠ 0 ∧ 2 ≤ c.bus then
    .next (setCan channel (fun c => { c with bus := 0, tec := 0, recc := 0 }) s0)
  else .next s0

/-- An NMT command of CiA 301 for a node (R356, R386). -/
def nmtTake (ch : Fin 2) (cmd : NmtCmd) (s : State) : State :=
  match cmd with
  | .start => setCan ch (fun c => { c with nmt := 2 }) s
  | .stop => setCan ch (fun c => { c with nmt := 3 }) s
  | .preOperational => setCan ch (fun c => { c with nmt := 1 }) s
  | .resetNode | .resetComm => closeSession (.can ch) (setCan ch (fun c => { c with nmt := 1 }) s)

/-- NMT_COMMAND: to this node, or with node 0 to all. -/
def execNmtCommand (channel : Fin 2) (node : BitVec 7) (cmd : NmtCmd) (s : State) : Out :=
  if canOn channel s && (decide (node = 0) || decide (node.toNat = (s.cfd.chans[channel]).node)) then
    .next (nmtTake channel cmd s)
  else .next s

/-- CAN_PRODUCER_HEARTBEAT (R356). -/
def execCanProducerHeartbeat (dt : Nat) (channel : Fin 2) (s : State) : Out :=
  let s0 := advance dt s
  if canOn channel s0 && decide (par s0 0x1017 0 ≠ 0) then
    .next (setCan channel (fun c => { c with beats := inc32 c.beats }) s0)
  else .next s0

/-- Channel and node of a consumer of 0x1016 that is in use. -/
def consumerOf (k : Fin 4) (s : State) : Option (Fin 2 × Nat) :=
  let v := par s 0x1016 (k.val + 1)
  if v % 65536 = 0 then none else some (if v.testBit 24 then 1 else 0, field v 16 8)

/-- CAN_HB_LOST (R356): the consumer waits for the next heartbeat. -/
def execCanHbLost (dt : Nat) (consumer : Fin 4) (s : State) : Out :=
  let s0 := advance dt s
  match consumerOf consumer s0 with
  | some (ch, node) =>
    if canOn ch s0 && s0.cfd.consuming.getLsbD consumer.val then
      .next (record 7 0x5007 ch.val node 0
        { s0 with cfd := { s0.cfd with consuming := putBit s0.cfd.consuming consumer.val false } })
    else .next s0
  | none => .next s0

/-- CAN_HEARTBEAT_RECEIVED (R356): the consumers of that node run. -/
def execCanHeartbeatReceived (channel : Fin 2) (node : BitVec 7) (s : State) : Out :=
  if canOn channel s then
    .next ((allFin 4).foldl (fun t k =>
      if consumerOf k t = some (channel, node.toNat) then
        { t with cfd := { t.cfd with consuming := putBit t.cfd.consuming k.val true } }
      else t) s)
  else .next s

end Sys2Proof.Machine
end

