-- ==== Sys2Proof/Machine/Clock.lean ====
section
/-! DEFINITION. The commands of the clock tree (chapter 06) and of network time (chapter 07). -/

namespace Sys2Proof.Machine

/-- START_WINDOW_END (R199 steps 3 and 4): the window closes and the TCXO is judged; the Kiln domain moves to the root
and ramps from step 5 of R194. -/
def execStartWindowEnd (dt : Nat) (tcxo : Bool) (edges ember : BitVec 32) (s : State) : Out :=
  let s0 := advance dt s
  if s0.mod.state ≠ .firing ∨ s0.clk.startWin = false ∨ s0.clk.state ≠ .start then .next s0
  else
    let s1 := domainRamp (setClk (fun c =>
      { c with startWin := false
               valid := putBit (putBit c.valid 2 (tcxo && c.mask.getLsbD 2)) 3 (!c.emberFail) }) s0)
    let s2 := { s1 with mod := { s1.mod with start := { s1.mod.start with clocksUp := true } } }
    if tcxo && s2.clk.mask.getLsbD 2 then
      .next (firstLock (setClk (fun c => { c with state := .locked, ref := 2, target := 2, lock := true }) s2))
    else
      let s3 := raise 66 (raise 71 (record 2 0x2001 edges.toNat ember.toNat 0 s2))
      .next (coastUncertain (netsQuiet (setClk (fun c =>
        { c with state := .coast, ref := 3, target := 3, coast := true, quiet := true, coastAt := s3.tim.frc
                 coastEntries := inc32 c.coastEntries }) s3)))

/-- REF_LOST (R186, R189, R195): the selected source, or the target of the ramp, becomes invalid. -/
def execRefLost (dt : Nat) (cause : Fin 4) (s : State) : Out :=
  let s0 := advance dt s
  match s0.clk.state with
  | .locked => .next (refLoss s0.clk.ref (cause.val + 1) s0)
  | .switching => if s0.clk.target ≤ 2 then .next (refLoss s0.clk.target (cause.val + 1) s0) else .next s0
  | _ => .next s0

/-- SOURCE_VALID (R186, R189). -/
def execSourceValid (dt : Nat) (src : Fin 3) (s : State) : Out := .next (sourceValid src (advance dt s))

/-- SOURCE_INVALID (R186): a source that is neither selected nor the target of a ramp. -/
def execSourceInvalid (dt : Nat) (src : Fin 3) (s : State) : Out :=
  let s0 := advance dt s
  if s0.clk.ref = src.val ∨ s0.clk.target = src.val then .next s0
  else .next (setClk (fun c => { c with valid := putBit c.valid src.val false }) s0)

/-- RAMP_STEP (R194, R195): a step of the ramp ends. A domain's own ramp moves no reference; at its end a reference
that has become valid in the meantime is taken up. -/
def execRampStep (dt : Nat) (s : State) : Out :=
  let s0 := advance dt s
  if s0.clk.rampStep = 0 then .next s0
  else if s0.clk.state ≠ .switching then
    if 9 ≤ s0.clk.rampStep then .next (reselect (setClk (fun c => { c with rampStep := 0 }) s0))
    else .next (setClk (fun c => { c with rampStep := c.rampStep + 1 }) s0)
  else if s0.clk.rampStep = 5 then .next (rootMoved s0)
  else if 9 ≤ s0.clk.rampStep then .next (rampDone s0)
  else .next (setClk (fun c => { c with rampStep := c.rampStep + 1, lock := c.lock && decide (c.rampStep ≠ 4) }) s0)

/-- MON_TRIP (R199, R200): recorded; outside the start window with its reaction. -/
def execMonTrip (dt : Nat) (item : Fin 3) (value : BitVec 32) (s : State) : Out :=
  let s0 := advance dt s
  if s0.mod.state = .cold then .next s0
  else if s0.clk.startWin then .next (record 2 0x2006 (item.val + 1) 1 value.toNat s0)
  else
    let s1 := raise 68 (record 2 0x2006 (item.val + 1) 0 value.toNat s0)
    if item = 0 then .next (setClk (fun c => { c with emberFail := true, valid := putBit c.valid 3 false }) s1)
    else if item = 1 then (if s1.clk.lock then .next (refLoss s1.clk.ref 5 s1) else .next s1)
    else .next (moduleReset 3 2 s1)

/-- EMBERFAIL_CLEAR (R200). -/
def execEmberfailClear (dt : Nat) (s : State) : Out :=
  let s0 := advance dt s
  if s0.clk.emberFail then
    .next (setClk (fun c => { c with emberFail := false, valid := putBit c.valid 3 true }) s0)
  else .next s0

/-- The interrupt registers of the blocks that CTU_CLKEN0 gates: TWL, BRG, FBA, FBB, FBC, XNB, LNC. -/
def gatedInts : Vector (Fin 11) 7 := #v[8, 9, 3, 4, 5, 6, 7]

/-- A block whose clock returns asserts its interrupt requests again (R203). -/
def assertAgain (k : Fin 11) (s : State) : State :=
  let r := s.ints[k]
  (List.range 32).foldl (fun t b =>
    if r.stat.getLsbD b && r.en.getLsbD b then deliver (intBase[k] + b) t else t) s

/-- CLOCK_ENABLE_APPLY (R201, R203): the Kiln's change of a block's enable takes effect; blocks 0-6 are those of
CTU_CLKEN0, 7-10 those of CTU_CLKEN1. On VPM4-00-T the bank enables read 0. -/
def execClockEnableApply (dt : Nat) (block : Fin 11) (on : Bool) (s : State) : Out :=
  let s0 := advance dt s
  if s0.mod.state = .cold then .next s0
  else if h : block.val < 7 then
    let on1 := on && !(decide (2 ≤ block.val ∧ block.val ≤ 4) && !banksFitted s0)
    let was := s0.clk.clken0.getLsbD block.val
    let s1 := setClk (fun c =>
      { c with want0 := putBit c.want0 block.val on1, clken0 := putBit c.clken0 block.val on1 }) s0
    .next (if on1 && !was then assertAgain gatedInts[block.val] s1 else s1)
  else
    .next (setClk (fun c =>
      { c with want1 := putBit c.want1 (block.val - 7) on, clken1 := putBit c.clken1 (block.val - 7) on }) s0)

/-- FM_START (R204, R205). -/
def execFmStart (ref meas : BitVec 4) (gate : BitVec 24) (s : State) : Out :=
  let bad := decide (gate = 0 ∨ 13 ≤ ref.toNat ∨ 13 ≤ meas.toNat)
  let s1 := setClk (fun c =>
    { c with fmRef := ref.toNat, fmMeas := meas.toNat, fmGate := gate.toNat, fmDone := bad, fmVoid := bad, fmBusy := !bad
             fmRamped := decide (c.rampStep ≠ 0) }) s
  .next (if bad then raise 70 s1 else s1)

/-- Nominal frequency, Hz, of a reference of the meter (R185, R190). -/
def nominalHz (n : Nat) : Nat :=
  [25000000, 20000000, 25000000, 25000000, 25000000, 1500000000, 600000000, 300000000, 100000000, 125000000, 500000000,
    50000000, 10000000].getD n 0

/-- FM_DONE (R204, R205): the gate ends. -/
def execFmDone (dt : Nat) (count : BitVec 32) (s : State) : Out :=
  let s0 := advance dt s
  if s0.clk.fmBusy then
    .next (raise 70 (setClk (fun c =>
      let hz := min 0xFFFFFFFF (count.toNat * nominalHz c.fmRef / max 1 c.fmGate)
      { c with fmBusy := false, fmDone := true, fmVoid := c.fmRamped, fmCount := count
               freqs := if h : c.fmMeas < 13 ∧ c.fmRamped = false then c.freqs.set c.fmMeas hz h.1 else c.freqs }) s0))
  else .next s0

/-- The adjustment registers as the Kiln writes them (R235). -/
def writeAdj (mode : Nat) (ns : BitVec 32) (sec : BitVec 48) (s : State) : State :=
  setTim (fun t => { t with adjNs := ns, adjSecL := sec.setWidth 32, adjSecH := sec.extractLsb' 32 16, adjMode := mode }) s

/-- CTU_ADJ_STEP (R221). -/
def execCtuAdjStep (ns : BitVec 32) (sec : BitVec 48) (s : State) : Out :=
  let s1 := writeAdj 2 ns sec s
  if adjInRange s1.tim then
    .next (stepTime (adjValue s1.tim) true (setTim (fun t => { t with adjErr := false }) s1))
  else .next (setTim (fun t => { t with adjErr := true }) s1)

/-- CTU_ADJ_SLEW (R222): a non-zero seconds part is refused. -/
def execCtuAdjSlew (ns : BitVec 32) (sec : BitVec 48) (s : State) : Out :=
  let s1 := writeAdj 1 ns sec s
  if adjInRange s1.tim && decide (sec = 0) then
    .next (slewTime (adjValue s1.tim) (setTim (fun t => { t with adjErr := false }) s1))
  else .next (setTim (fun t => { t with adjErr := true }) s1)

/-- SLEW_DONE (R222). -/
def execSlewDone (dt : Nat) (s : State) : Out := .next (slewDone (advance dt s))

/-- CTU_RATE_WRITE (R213). -/
def execCtuRateWrite (rate : BitVec 32) (s : State) : Out := .next (setRate rate.toInt s)

/-- EB_THRESHOLD_CROSSED (R218). -/
def execEbThresholdCrossed (dt : Nat) (s : State) : Out := .next (boundCheck false (advance dt s))

/-- ANNOUNCE_RECEIVED (R223): an Announce of the module's domain. -/
def execAnnounceReceived (dt : Nat) (port : Fin 2) (ann : PtpAnnounce) (s : State) : Out :=
  let s0 := advance dt s
  if clockRuns s0 ∧ ann.domain.toNat = par s0 0x2310 1 then
    .next (bmcaChoose
      { identity := ann.src, port := port, tai := ann.tai, gm := ann.gm
        rank := bmcaRank ann.p1.toNat ann.cls.toNat ann.acc.toNat ann.var.toNat ann.p2.toNat ann.gm.toNat ann.steps.toNat }
      s0)
  else .next s0

/-- ANNOUNCE_RECEIPT_TIMEOUT (R223, R502): the master is deselected; a master-capable module selects itself. -/
def execAnnounceReceiptTimeout (dt : Nat) (s : State) : Out :=
  let s0 := advance dt s
  if clockRuns s0 then .next (gmSet none (masterCapable s0) s0) else .next s0

/-- SYNC_RECEIVED (R224): a Sync of the selected master waits for its Follow_Up. -/
def execSyncReceived (dt : Nat) (port : Fin 2) (src : BitVec 64) (domain : BitVec 8) (seq : BitVec 16)
    (corr : BitVec 64) (log : BitVec 8) (s : State) : Out :=
  let s0 := advance dt s
  let i := log.toInt
  match s0.tim.master with
  | some m =>
    if clockRuns s0 ∧ m.identity = src ∧ domain.toNat = par s0 0x2310 1 ∧ -4 ≤ i ∧ i ≤ 1 then
      let len : Int := if 0 ≤ i then 1000000000 * 2 ^ i.toNat else 1000000000 / 2 ^ (-i).toNat
      .next (setTim (fun t =>
        { t with sync := some { seq := seq, rx := t.nt, corr := corr.toInt, port := port, due := t.elapsed + len } }) s0)
    else .next s0
  | none => .next s0

/-- FOLLOW_UP_RECEIVED (R224, R220). -/
def execFollowUpReceived (dt : Nat) (src : BitVec 64) (seq : BitVec 16) (sec : BitVec 48) (ns : BitVec 32)
    (corr : BitVec 64) (s : State) : Out :=
  let s0 := advance dt s
  match s0.tim.sync, s0.tim.master with
  | some w, some m =>
    if clockRuns s0 ∧ w.seq = seq ∧ m.identity = src then
      .next (acceptSync w (sec.toNat * 1000000000 + ns.toNat : Nat) corr.toInt (setTim (fun t => { t with sync := none }) s0))
    else .next s0
  | _, _ => .next s0

/-- SYNC_TIMEOUT (R224): hold-over. -/
def execSyncTimeout (dt : Nat) (s : State) : Out :=
  let s0 := advance dt s
  match s0.tim.master with
  | some m =>
    if clockRuns s0 ∧ s0.tim.hold = false then
      .next (raise 85 (record 2 0x2014 m.port.val (int32 s0.tim.lastOfs) 0 (setTim (fun t =>
        { t with hold := true, estimate := 0, lastSeq := none, sync := none, syncTimeouts := inc32 t.syncTimeouts }) s0)))
    else .next s0
  | none => .next s0

/-- SYNC_INTERVAL_EXPIRY (R223): the grandmaster sends Sync and Follow_Up. -/
def execSyncIntervalExpiry (dt : Nat) (s : State) : Out :=
  let s0 := advance dt s
  if clockRuns s0 ∧ s0.tim.gmSelf = true then .next (setTim (fun t => { t with txSeq := t.txSeq + 1 }) s0) else .next s0

/-- One port's link-delay measurement changed. -/
def setDelay (p : Fin 2) (f : PeerDelay → PeerDelay) (s : State) : State :=
  setTim (fun t => { t with delay := vmod t.delay p f }) s

/-- PDELAY_REQ_INTERVAL (R225): the exchange before, unanswered, counts as failed; the next request goes out. -/
def execPdelayReqInterval (dt : Nat) (port : Fin 2) (s : State) : Out :=
  let s0 := advance dt s
  if switchOn s0 = false ∨ s0.lnc.spd[port] = 0 then .next s0
  else
    let d := s0.tim.delay[port]
    let s1 := if d.waiting then
        let s2 := setDelay port (fun d => { d with fails := inc32 d.fails }) s0
        if d.fails + 1 = 3 then
          raise 86 (record 2 0x2015 port.val 3 0 (setDelay port (fun d =>
            { d with valid := false, fresh := 0, delays := [] }) s2))
        else s2
      else s0
    .next (setTim (fun t => { t with pdelaySeq := t.pdelaySeq + 1 })
      (setDelay port (fun d => { d with waiting := true }) s1))

/-- PDELAY_REQ_RECEIVED (R225): answered with Pdelay_Resp and Pdelay_Resp_Follow_Up, never forwarded. -/
def execPdelayReqReceived (dt : Nat) (port : Fin 2) (s : State) : Out :=
  let s0 := advance dt s
  if switchOn s0 = false ∨ s0.lnc.spd[port] = 0 then .next s0
  else .next (setDelay port (fun d => { d with answers := inc32 d.answers }) s0)

/-- PDELAY_RESP_RECEIVED (R225): an exchange completes with its link delay, 2^-16 ns, and rate ratio. -/
def execPdelayRespReceived (dt : Nat) (port : Fin 2) (delay ratio : BitVec 32) (s : State) : Out :=
  let s0 := advance dt s
  if switchOn s0 = false ∨ s0.lnc.spd[port] = 0 ∨ (s0.tim.delay[port]).waiting = false then .next s0
  else
    .next (setDelay port (fun d =>
      { d with delays := (delay.toInt :: d.delays).take 8, fresh := d.fresh + 1, valid := d.valid || decide (1 ≤ d.fresh)
               fails := 0, waiting := false, ratio := ratio.toInt }) s0)

/-- The residence of a frame in the switch, 2^-16 ns (R227). -/
def residence (s : State) (counts : Nat) : Int :=
  (131072 * (counts : Int) * (4294967296 + s.tim.rate + s.tim.sl)) / 4294967296

/-- TC_FORWARD (R226-R228): a PTP frame crosses between ports 0 and 1. -/
def execTcForward (dt : Nat) (port : Fin 2) (kind : PtpKind) (tags : Fin 4) (seq : BitVec 16) (corr : BitVec 64)
    (counts : BitVec 32) (s : State) : Out :=
  let s0 := advance dt s
  let sent (c : BitVec 64) : State → State := setTim (fun t => { t with tcOut := some c })
  if switchOn s0 = false ∨ s0.lnc.spd[0] = 0 ∨ s0.lnc.spd[1] = 0 ∨ kind = .pdelay then .next s0
  else if kind ≠ .sync ∨ parOn s0 0x2310 13 = false then .next (sent corr s0)
  else if 2 ≤ tags.val then .next (record 2 0x2019 port.val 1 seq.toNat (sent corr s0))
  else
    let sum := corr.toInt + residence s0 counts.toNat + (portDelay port s0).getD 0
    if 0x7FFFFFFFFFFFFFFF < sum ∨ corr = 0x7FFFFFFFFFFFFFFF then
      .next (record 2 0x2019 port.val 2 seq.toNat (sent 0x7FFFFFFFFFFFFFFF s0))
    else .next (setTim (fun t => { t with tcCorrected := inc32 t.tcCorrected }) (sent (BitVec.ofInt 64 sum) s0))

end Sys2Proof.Machine
end

