-- ==== Sys2Proof/Machine/Cys.lean ====
section
/-! DEFINITION. The cycle sequencer's commands (chapter 05): ticks, latches, gaps, commits, the cone monitor, the end
of a task's cycle, and the online change switch. -/

namespace Sys2Proof.Machine

/-- TICK (R144-R147, R162): the tick that network time has reached. Before the first tick that a step allows, and at a
tick executed already, there is none. -/
def execTick (dt : Nat) (s : State) : Out :=
  let s0 := advance dt s
  let now := tickNow s0
  if s0.cys.run = false then .next s0
  else
    match s0.cys.stepPend with
    | some (_, t) => if now * 250000 + s0.cys.delta < t then .next s0 else .next (seqTick now s0)
    | none => if now ≤ (s0.cys.tick.toNat : Int) then .next s0 else .next (seqTick now s0)

/-- LATCH_END (R146, R149). -/
def execLatchEnd (dt : Nat) (s : State) : Out :=
  let s0 := advance dt s
  match s0.cys.latchQ with
  | [] => .next s0
  | n :: rest =>
    let s1 := setTask n (fun t => { t with state := if t.state = .latch then .run else t.state })
      { s0 with cys := { s0.cys with latchQ := rest } }
    .next (execDispatch (seqLatch (raise (288 + n.val) s1)))

/-- GAP_WARN (R145, R152). -/
def execGapWarn (dt : Nat) (s : State) : Out :=
  let s0 := advance dt s
  if s0.cys.run = false ∨ s0.cys.warned = true ∨ configured s0 = [] then .next s0
  else .next (raise 296 { s0 with cys := { s0.cys with warned := true, ack := false } })

/-- GAP_START (R151, R152): the gap is quiet, or not; without an acknowledgement GAP_NOACK, and its dump moves. -/
def execGapStart (dt : Nat) (s : State) : Out :=
  let s0 := advance dt s
  if s0.cys.warned = false ∨ s0.cys.gap = true then .next s0
  else
    let quiet := s0.cys.ack && decide (openMask s0 = 0)
    let s1 := { s0 with cys := { s0.cys with
      gap := true, quiet := quiet, resvSafety := false, resvDump := false
      quietGaps := if quiet then inc32 s0.cys.quietGaps else s0.cys.quietGaps } }
    if s0.cys.ack then .next s1
    else
      .next (raise 303 (record 9 0x8003 ((tickNow s1 + 1).toNat % 2 ^ 32) 0 0
        { s1 with cys := { s1.cys with
            noacks := inc32 s1.cys.noacks, movedDump := s1.cys.movedDump || s1.cys.dump } }))

/-- CYS_QUIET_WRITE (R152 steps 1-4): the context is saved, the register written, and the lanes wait. -/
def execCysQuietWrite (core : Fin 8) (value : BitVec 32) (s : State) : Out :=
  let s1 := execWrite core 0x200080024 value (execSave s)
  .next (if s1.cys.waiting then execWait s1 else execDispatch s1)

/-- CYS_DONE_WRITE (R149, R156). -/
def execCysDoneWrite (core : Fin 8) (value : BitVec 32) (s : State) : Out :=
  .next (execDispatch (afterClose (execWrite core 0x200080020 value s)))

/-- COMMIT_END (R149, R150): the copies have been made; posting begins with the entries as they stand, or the cycle
closes. -/
def execCommitEnd (dt : Nat) (s : State) : Out :=
  let s0 := advance dt s
  match s0.cys.commit with
  | none => .next s0
  | some (n, g) =>
    let s1 := commitCopies n { s0 with cys := { s0.cys with commit := none } }
    if g = 0 then .next (afterClose (closeCycle n (some 0) s1))
    else
      match taskCfg s1 n with
      | some c => .next { postEntries n c 0 g s1 with cys := { (postEntries n c 0 g s1).cys with posting := some (n, g) } }
      | none => .next (afterClose (closeCycle n (some 0) s1))

/-- POSTING_END (R150). -/
def execPostingEnd (dt : Nat) (s : State) : Out :=
  let s0 := advance dt s
  match s0.cys.posting with
  | none => .next s0
  | some (n, g) => .next (afterClose (closeCycle n (some g) { s0 with cys := { s0.cys with posting := none } }))

/-- CONE_OVERRUN (R155, R156, R506). -/
def execConeOverrun (dt : Nat) (task : Fin 8) (s : State) : Out :=
  let s0 := advance dt s
  let t := s0.cys.tasks[task]
  if t.state = .run then
    .next (raise 298 (record 9 0x8001 task.val (t.cycle % 2 ^ 32) (min 0xFFFFFFFF (t.execCounts / 500))
      (setTask task (fun x =>
        { x with state := .overrun, skipNext := true, ovr := inc16 x.ovr, ovrs := inc32 x.ovrs }) s0)))
  else .next s0

/-- CONE_STALL (R156): reaction 0 stops the task and applies the safe states of its channels, reaction 1 drops its
context. -/
def execConeStall (dt : Nat) (task : Fin 8) (s : State) : Out :=
  let s0 := advance dt s
  let t := s0.cys.tasks[task]
  match t.state, taskCfg s0 task with
  | .overrun, some c =>
    let s1 := closeCycle task none (raise 299 (record 9 0x8002 task.val c.stall (t.cycle % 2 ^ 32) s0))
    let s2 := execDrop ⟨task.val, by omega⟩ s1
    let s3 := if c.stall = 0 then
        setTask task (fun x => { x with state := .stopped }) (banksSafeOwned c.own 1 s2)
      else s2
    .next (execDispatch (afterClose (setTask task (fun x => { x with skipNext := false }) s3)))
  | _, _ => .next s0

/-- What each lane writes to CYS_DONE for the value its task returned: 65 for one above 64 (R172). -/
def doneAct (n : Fin 9) (s : State) (k : Fin 8) : Act :=
  let g := ((s.cores[k]).getX 4).toNat
  storeAct s k true 0x200080020 4 (n.val + 256 * (if g ≤ 64 then g else 65))

/-- TASK_RETURN (R172, R154): the executive writes CYS_DONE; the background task's run ends. -/
def execTaskReturn (s : State) : Out :=
  match s.cys.current, leadCore s with
  | some n, some k =>
    if (s.cores[k]).ready = false then .next s
    else if n = 8 then .next (bgEnd s)
    else
      let v := ((s.cores[k]).getX 4).toNat
      let s1 := if 64 < v then record 9 0x8007 n.val (v % 2 ^ 32) 0 s else s
      .next (execDispatch (afterClose (execDrop n (runInstr k (doneAct n) s1))))
  | _, _ => .next s

/-- SYSCALL_EVENT (R173): a code outside 0x8100-0x8FFF is refused, and ends the cycle. -/
def execSyscallEvent (s : State) : Out :=
  match syscaller 1 s with
  | none => .next s
  | some (n, k) =>
    let c := s.cores[k]
    let code := (c.getX 4).toNat
    if 0x8100 ≤ code ∧ code ≤ 0x8FFF then
      let s1 := recEvWrite 3 (lowW (c.getX 7)) (recEvWrite 2 (lowW (c.getX 6)) (recEvWrite 1 (lowW (c.getX 5))
        (recEvWrite 0 (BitVec.ofNat 32 code) s)))
      let r := s1.recd.evRes
      .next (sysReturn [if r = 1 ∨ r = 2 ∨ r = 5 then 0 else 1] s1)
    else .next (currentEnd n (record 9 0x8008 n.val 1 ((c.word 2).toNat % 2 ^ 32) s))

/-- SYSCALL_NETTIME (R173). -/
def execSyscallNettime (s : State) : Out :=
  match syscaller 2 s with
  | none => .next s
  | some _ =>
    let (sec, ns) := splitNs s.tim.ns
    .next (sysReturn [sec, ns, b2n s.tim.timeLocal + 2 * b2n s.tim.uncert + 4 * b2n s.clk.coast] s)

/-- SYSCALL_NOCOMMIT (R173). -/
def execSyscallNocommit (s : State) : Out :=
  match syscaller 3 s with
  | none => .next s
  | some (n, _) => .next (currentEnd n s)

/-- The channels SYSCALL FAULTCLR may release: inputs, and outputs the calling task owns (R173). -/
def faultMask (n : Fin 9) (mask : BitVec 48) (s : State) : List (Fin 48) :=
  let own : BitVec 48 := if h : n.val < 8 then ((taskCfg s ⟨n.val, h⟩).map (fun c => c.own)).getD 0 else 0
  (allFin 48).filter (fun ch =>
    let k := (s.chans[ch]).kind
    mask.getLsbD ch.val && (decide (k = 1 ∨ k = 2) || ((s.chans[ch]).isOut && own.getLsbD ch.val)))

/-- SYSCALL_FAULTCLR (R173). -/
def execSyscallFaultclr (s : State) : Out :=
  match syscaller 4 s with
  | none => .next s
  | some (n, k) =>
    let chs := faultMask n (((s.cores[k]).getX 4).setWidth 48) s
    .next (sysReturn [chs.foldl (fun m ch => m + 2 ^ ch.val) 0] (chs.foldl (fun t ch => faultClear ch t) s))

/-- OLC_SWITCH (R177). -/
def execOlcSwitch (dt : Nat) (s : State) : Out :=
  let s0 := advance dt s
  if s0.cys.switchGap = true ∧ s0.cys.gap = true ∧ s0.cys.olc = .switching then
    .next (olcSwitch s0)
  else .next s0

/-- OLC_TIMEOUT (R175): code 25, the image stays staged. -/
def execOlcTimeout (dt : Nat) (s : State) : Out :=
  let s0 := advance dt s
  match s0.cys.olc, s0.cys.staged with
  | .accepted, some a =>
    .next (imageRefuse 25 0 a.file (switchNeed a) (switchAvail a)
      { s0 with cys := { s0.cys with olc := .staged, olcSameGap := false } })
  | _, _ => .next s0

end Sys2Proof.Machine
end

