-- ==== Sys2Proof/Machine/Lanes.lean ====
section
/-! DEFINITION. The voter's commands: beats, silence, responses, quarantine (chapter 02). -/

namespace Sys2Proof.Machine

/-- The input of lane `l` among four. -/
def pick4 {α : Type} (a b c d : α) (l : Fin 4) : α :=
  if l.val = 0 then a else if l.val = 1 then b else if l.val = 2 then c else d

/-- LANE_BEAT (R45-R54): the vote of one aligned clock; the voted beat enters the fabric. In WIDE every core's lane
port forwards its beat unvoted (R67); lane n's input stands for its core P. -/
def execLaneBeat (i0 i1 i2 i3 : LaneInput) (s : State) : Out :=
  let i := pick4 i0 i1 i2 i3
  if s.vrc.mode = .split then
    .next ((allFin 4).foldl (fun t l =>
      match i l with
      | .beat b => if (t.vrc.lanes[l]).stopped then t else busForward b (some (coreP l)) t
      | x => laneSilent l x t) s)
  else
    match voteClock i s with
    | (some b, s1) => .next (busForward b none s1)
    | (none, s1) => .next s1

/-- LOCKSTEP_MISMATCH (R38, R47, R54). -/
def execLockstepMismatch (lane : Fin 4) (cls : BitVec 4) (groups : BitVec 13) (s : State) : Out :=
  .next (laneSilent lane (.mismatch cls groups) s)

/-- LANE_MEM_UE (R40, R503). -/
def execLaneMemUe (lane : Fin 4) (addr : BitVec 40) (s : State) : Out :=
  .next (laneSilent lane (.memUe addr) s)

/-- The response reaches both cores of a lane (R44). -/
def lanePort (r : Response) (l : Fin 4) (s : State) : State :=
  let put (c : Core) : Core := { c with port := some r }
  { s with cores := vmod (vmod s.cores (coreP l) put) (coreS l) put }

/-- The oldest read data on its way back reaches the ACTIVE lanes, in 1oo1 that lane, in WIDE the core that asked
(R44, R50, R67). -/
def deliverResponse (s : State) : State :=
  match s.vrc.responses with
  | [] => s
  | r :: rest =>
    let s1 := { s with vrc := { s.vrc with responses := rest } }
    match s.vrc.mode with
    | .split =>
      match r.core with
      | some c => { s1 with cores := vmod s1.cores c (fun x => { x with port := some r }) }
      | none => s1
    | .oo1 => lanePort r s.vrc.svc s1
    | _ => (activeLanes s).foldl (fun t l => lanePort r l t) s1

/-- FABRIC_RESPONSE (R44, R67): an interrupt, or the oldest read data, reaches the lanes. -/
def execFabricResponse (irq : Option (BitVec 9)) (s : State) : Out :=
  match irq with
  | some n => .next (deliver n.toNat s)
  | none => .next (deliverResponse s)

/-- The failed-test code of R73 of a lane test. -/
def testCode : LaneTest → Nat
  | .lbistP => 1
  | .lbistS => 2
  | .mbist => 3
  | _ => 0

/-- A lane becomes SPARE and waits its turn (R82). -/
def becomeSpare (l : Fin 4) (stale : Bool) (s : State) : State :=
  let s1 := setLane l (fun x => { x with state := .spare, stale := stale, silent := false }) s
  { s1 with rot := { s1.rot with waiting := s1.rot.waiting.filter (fun y => decide (y ≠ l)) ++ [l] } }

/-- QUARANTINE_TESTS_DONE (R59, R61): the lane was reset and tested; SPARE with stale memory, or RETIRED. A core
routine is no part of these tests; such a result counts as a pass of LBIST and MBIST. -/
def execQuarantineTestsDone (lane : Fin 4) (result : LaneTest) (s : State) : Out :=
  if laneState s lane = .quarantine then
    if testCode result = 0 then .next (raise 35 (becomeSpare lane true (laneReset lane s)))
    else .next (retire lane (testCode result) none (s.vrc.lanes[lane]).qCause s)
  else .next s

end Sys2Proof.Machine
end

