-- ==== Sys2Proof/Machine/Network.lean ====
section
/-! DEFINITION. The commands of the backbone switch, of the line to the lanes, and of the consist pair (chapter 11). -/

namespace Sys2Proof.Machine

/-- The switch forwards now: R337, and not while ports 0 and 1 renegotiate on the way to BANKED (R341). -/
def forwards (s : State) : Bool := switchOn s && !(decide (s.mod.state = .banked) && !s.pwr.bankedReached)

/-- SWITCH_FRAME_RECEIVED (R338-R340): classified, learned, and cut through, stored or dropped. PTP frames cross by
TC_FORWARD. -/
def execSwitchFrameReceived (dt : Nat) (port : Fin 3) (frame : EthFrame) (s : State) : Out :=
  let s0 := advance dt s
  if forwards s0 = false ∨ portSpd s0.lnc port = 0 then .next s0
  else
    let (vid, pcp, _) := classify s0.lnc frame.octets
    match vlanOf s0.lnc vid with
    | none => .next (setLnc (fun l => { l with vlanDrops := inc32 l.vlanDrops }) s0)
    | some w =>
      if member w port = false then .next (setLnc (fun l => { l with vlanDrops := inc32 l.vlanDrops }) s0)
      else
        let s1 := if frame.fcsOk then
            setLnc (fun l => { l with macs := learn vid (macAt frame.octets 6) port s0.tim.elapsed l.macs }) s0
          else s0
        if isPtp frame.octets then .next s1
        else .next (forwardTo (outPorts s1.lnc w vid port frame.octets) w vid pcp (untag frame.octets)
          (decide (port.val < 2) && decide (portSpd s1.lnc port = 2)) frame.fcsOk s1)

/-- MAC_ADDRESS_AGEING (R340): an address not heard for 300 s leaves the table. -/
def execMacAddressAgeing (dt : Nat) (vid : BitVec 12) (mac : BitVec 48) (s : State) : Out :=
  let s0 := advance dt s
  .next (setLnc (fun l => { l with macs := l.macs.filter (fun m =>
    !(decide (m.vid = vid.toNat) && decide (m.mac = mac.toNat) &&
      decide (m.seen + 300000000000 ≤ s0.tim.elapsed))) }) s0)

/-- INTERNAL_PORT_RECEIVE (R342, R322): the frame goes to PTP, the Kiln, a receive slot, or is dropped. A module that
follows the active takes the frames of its lanes from RXFRAME. -/
def execInternalPortReceive (dt : Nat) (port : Fin 2) (frame : EthFrame) (s : State) : Out :=
  let s0 := advance dt s
  let g := bare frame.octets
  if s0.pwr.on.getLsbD 6 = false ∨ frame.fcsOk = false ∨ isPtp frame.octets then .next s0
  else
    let (vid, pcp, tagged) := classify s0.lnc frame.octets
    if forKiln (ipOwn s0) g then
      match stackAnswer s0.lnc.mac (ipOwn s0) g with
      | some r => if stackUp s0 then .next (kilnSend vid r s0) else .next s0
      | none => .next s0
    else if follows s0 ∨ s0.clk.clken0.getLsbD 6 = false ∨ s0.pwr.on.getLsbD 5 = false ∨ g.length < 14 ∨
        1514 < g.length then .next s0
    else
      let s1 := laneFrame port.val tagged vid pcp s0.tim.ns g s0
      .next (if (slotFor s0.lnc.filters g vid).isSome then sendRx port.val s0.tim.ns frame.octets s1 else s1)

/-- RECEIVE_SLOT_WRITE (R344): the oldest frame for the slot is written, unless a latch is copying the slot. -/
def execReceiveSlotWrite (dt : Nat) (slot : Fin 16) (s : State) : Out :=
  let s0 := advance dt s
  match s0.lnc.rxWait.find? (fun r => decide (r.slot = slot.val)) with
  | none => .next s0
  | some r =>
    if slotLatching slot.val s0 then .next s0
    else .next (slotWrite r (setLnc (fun l => { l with rxWait := l.rxWait.erase r }) s0))

/-- LINK_CHANGE (R359): a port's speed changes; in coast every link is held down (R198). -/
def execLinkChange (dt : Nat) (port : Fin 4) (spd : Fin 3) (s : State) : Out :=
  let s0 := advance dt s
  let powered := if port.val < 2 then s0.pwr.on.getLsbD 6 else s0.pwr.on.getLsbD 7
  if s0.clk.quiet ∨ powered = false then .next s0 else .next (linkSet port spd.val s0)

/-- PRP_FRAME_RECEIVED (R349): the first copy is accepted, the second discarded; with PRP off every frame is. -/
def execPrpFrameReceived (dt : Nat) (lan : Fin 2) (frame : PrpFrame) (s : State) : Out :=
  let s0 := advance dt s
  if cpnLive s0 = false ∨ (s0.cpn.spd[lan]) = 0 then .next s0
  else
    let src := macAt frame.octets 6
    let s1 := lanHeard lan s0
    if s1.cpn.prp = false then .next (cpnAccept lan frame.octets s1)
    else
      let s2 := setCpn (fun c => { c with nodes := prpNode src c.nodes, seen := prpSeen s0.tim.elapsed c }) s1
      match frame.trailer with
      | none => .next (cpnAccept lan frame.octets s2)
      | some (seq, id) =>
        let s3 := if id.toNat = 11 - lan.val then setCpn (fun c => { c with wrong := inc8 c.wrong }) s2 else s2
        if s3.cpn.seen.any (fun e => decide (e.1 = src) && decide (e.2.1 = seq.toNat)) then
          .next (setCpn (fun c => { c with dupl := inc16 c.dupl }) s3)
        else
          .next (cpnAccept lan frame.octets (setCpn (fun c =>
            { c with seen := (c.seen ++ [(src, seq.toNat, s0.tim.elapsed)]).drop (c.seen.length + 1 - 512) }) s3))

/-- PRP_SUPERVISION_INTERVAL (R349): every 2 s a supervision frame is sent. -/
def execPrpSupervisionInterval (dt : Nat) (s : State) : Out :=
  let s0 := advance dt s
  if cpnLive s0 && s0.cpn.prp then
    .next (setCpn (fun c => { c with lastTx := supervision s0.lnc.mac c.supervised, supervised := inc32 c.supervised }) s0)
  else .next s0

/-- PRP_LAN_FAIL (R349): a LAN is silent for 6 s while the other delivers. -/
def execPrpLanFail (dt : Nat) (lan : Fin 2) (s : State) : Out :=
  let s0 := advance dt s
  let now := s0.tim.elapsed
  let other : Fin 2 := ⟨1 - lan.val, by omega⟩
  if cpnLive s0 ∧ s0.cpn.prp = true ∧ (s0.cpn.failed[lan]) = false ∧ (s0.cpn.lastAt[lan]) + 6000000000 ≤ now ∧
      now < (s0.cpn.lastAt[other]) + 6000000000 then
    .next (record 7 0x5004 lan.val 0 0 (setCpn (fun c => { c with failed := vmod c.failed lan (fun _ => true) }) s0))
  else .next s0

end Sys2Proof.Machine
end

