-- ==== Sys2Proof/Machine/TwinOps.lean ====
section
/-! DEFINITION. The twin pair's operations: paths and a lost peer (R318-R320), role changes (R327), integration
(R325, R504), and craze flags (R331). -/

namespace Sys2Proof.Machine

/-- The twin link controller is powered and clocked (R316). -/
def twlRuns (s : State) : Bool := s.pwr.on.getLsbD 5 && s.clk.clken0.getLsbD 0

/-- Standby delay δ in µs, as applied (R335, R336). -/
def deltaNs (s : State) : Int := s.twl.delta * 1000

/-- A CMD frame (R314). -/
def twinCmd (code : Nat) (tick : Int) (s : State) : State :=
  twinSend 8 (leBytes 1 code ++ leBytes 3 0 ++ leBytes 8 (tick.toNat % 2 ^ 64)) s

/-- Is this module in the preferred position (R328)? -/
def preferred (s : State) : Bool := decide (s.twl.pref = (if s.pwr.pos then 2 else 1))

/-- This module becomes ACTIVE: the grid moves to 0 in its first quiet gap (R320, R327). -/
def becomeActive (cause : Nat) (s : State) : State :=
  twinRole .active cause (setTwl (fun t =>
    { t with phase := 0, retry := false, inputs := [], ownChecks := [], peerChecks := []
             gridTo := if s.cys.delta = 0 then none else some 0 }) s)

/-- TWIN_TAKEOVER (R320, R334) with the time from the last heartbeat to the gate release, `wait` µs from now. -/
def noteTakeover (silent : Bool) (wait : Nat) (s : State) : State :=
  let us := ((s.tim.elapsed - s.twl.lastBeat) / 1000).toNat + wait
  record 8 0x6002 (if silent then 1 else 2) us (if silent then 0 else s.twl.peerCause)
    (setTwl (fun t => { t with tookNoted := true }) s)

/-- Takeover (R320 steps 1 and 4). With no commit or posting in progress the gates are released 1 µs on, and
TWIN_TAKEOVER is recorded now. -/
def takeover (silent : Bool) (s : State) : State :=
  let s0 := setTwl (fun t =>
    { t with takeovers := inc32 t.takeovers, release := some silent, tookNoted := false, peerLost := true }) s
  let s1 := if s0.cys.commit.isNone && s0.cys.posting.isNone then noteTakeover silent 1 s0 else s0
  let s2 := raise 257 (becomeActive 0x6002 s1)
  setTim (fun t => { t with estimate := 0, lastSeq := none, sync := none, accepted := 0 }) (xnbTakeover s2)

/-- The peer has become silent or faulted (R319, R327). -/
def peerGone (silent : Bool) (s : State) : State :=
  match s.twl.role with
  | .alone => s
  | .standby => takeover silent (raise 258 s)
  | .active =>
    if s.twl.peerLost then s
    else
      let s1 := raise 258 (record 8 0x6003 (if silent then 1 else 2) s.twl.peerState 0
        (setTwl (fun t => { t with peerLost := true, handover := none, handoverAcked := false }) s))
      if 1 ≤ s.twl.phase then integFail 6 s1 else s1
  | .integrating =>
    if s.twl.peerLost then s
    else
      let s1 := raise 258 (setTwl (fun t => { t with peerLost := true }) s)
      if 1 ≤ s.twl.phase then integFail 6 s1 else s1

/-- One path changed. -/
def setPath (w : TwinWay) (f : TwinPath → TwinPath) (s : State) : State :=
  match w with
  | .link => setTwl (fun t => { t with link := f t.link }) s
  | .pulse => setTwl (fun t => { t with pulse := f t.pulse }) s

/-- A path of the peer. -/
def pathOf (w : TwinWay) (s : State) : TwinPath := match w with | .link => s.twl.link | .pulse => s.twl.pulse

/-- A standby whose link is lost while the pulse lines are up becomes INTEGRATING (R319). -/
def linkLost (s : State) : State :=
  if s.twl.role = .standby then standbyDrop 0x6005 (record 8 0x6005 s.twl.crcErrors 0 0 s) else s

/-- The pulse lines' third miss falls in this µs (R318: silent when both paths are down in the same µs). -/
def pulseDue (s : State) : Bool :=
  decide (s.twl.pulse.miss = 2) && decide (s.twl.pulse.missAt + 49000 ≤ s.tim.elapsed)

/-- A path goes down (R318, R319). -/
def pathDown (w : TwinWay) (s : State) : State :=
  let s1 := raise 259 (record 8 0x6004 (match w with | .link => 0 | .pulse => 1) 0 0 (setPath w (fun p => { p with up := false }) s))
  if !s1.twl.link.up && !s1.twl.pulse.up then peerGone true s1
  else
    match w with
    | .pulse => s1
    | .link =>
      let s2 := if pulseDue s1 then s1 else linkLost s1
      if 1 ≤ s2.twl.phase then integFail 6 s2 else s2

/-- A heartbeat on a path (R318): 8 of them bring it up. -/
def pathBeat (w : TwinWay) (s : State) : State :=
  let p := pathOf w s
  let s1 := setTwl (fun t => { t with lastBeat := s.tim.elapsed }) s
  if p.up then
    let s2 := setPath w (fun p => { p with miss := 0 }) s1
    if w = .pulse ∧ s2.twl.link.up = false then linkLost s2 else s2
  else if 7 ≤ p.good then
    raise 260 (setTwl (fun t => { t with peerLost := false }) (setPath w (fun _ => { up := true }) s1))
  else setPath w (fun p => { p with miss := 0, good := p.good + 1 }) s1

/-- Both paths are up. -/
def bothUp (s : State) : Bool := s.twl.link.up && s.twl.pulse.up

/-- Integration begins with phase 1 (R325): an INTEGRATING module in a RUN state hears an ACTIVE peer on both paths. -/
def integBegin (s : State) : State :=
  if s.twl.role = .integrating ∧ isRun s = true ∧ bothUp s = true ∧ s.twl.peerRole = 3 ∧ s.twl.phase = 0 ∧
      s.twl.retry = false then
    twinCmd 5 (tickNow s) (setTwl (fun t => { t with phase := 1, pages := 0, started := s.tim.elapsed, copied := 0, differ := [] }) s)
  else s

/-! ### Integration -/

/-- Own image CRC, schedule CRC and SAFETY CRC (R325). -/
def ownInfo (s : State) : IntegInfo :=
  { image := BitVec.ofNat 32 ((s.cys.app.map (fun a => a.crc)).getD 0), sched := BitVec.ofNat 32 s.xn.schedCrc
    safety := BitVec.ofNat 32 (safetyCrc s) }

/-- The octets latched at the tick that releases every task fit in δ (R323). -/
def inputsFit (s : State) : Bool :=
  match s.cys.app with
  | none => true
  | some a =>
    let octets := a.tasks.toList.foldl (fun n t => match t with | some c => n + inputSize c | none => n) 0
    decide (octets ≤ 240 * (s.twl.delta - 2))

/-- The failure code of the comparison, 0 where all is equal (R325, R326). -/
def integCompare (i : IntegInfo) (s : State) : Nat :=
  let o := ownInfo s
  if i.image ≠ o.image then 1 else if i.sched ≠ o.sched then 2 else if inputsFit s = false then 3
  else if i.safety ≠ o.safety then 4 else 0

/-- A 64 KiB page that holds only sections of kinds 1 and 2 of the running image (R504). -/
def pageConst (base : Nat) (s : State) : Bool :=
  match s.cys.app with
  | none => false
  | some a =>
    let meets (x : Section) : Bool := decide (x.load < base + 65536) && decide (base < x.loadEnd)
    let here := a.sections.filter (fun x => x.loaded && meets x)
    !here.isEmpty && here.all (fun x => decide (x.kind ≤ 2))

/-- Base address of a page of the written-page map (R87). -/
def pageBase (p : Nat) : Nat := if p < 65536 then 65536 * p else 2 ^ 32 + 65536 * (p - 65536)

/-- The copied ranges, as page bases in the lane view (R504). -/
def copiedPages (s : State) : List Nat :=
  (s.rot.pages.map pageBase).filter (fun b => !pageConst b s) ++ s.twl.shared.map (fun k => sharedBase + 65536 * k)

/-- The octets that each module's own sequencer writes at its latches count as 0 (R504). -/
def latchWritten (s : State) (a : Nat) : Bool :=
  match s.cys.app with
  | none => false
  | some g => g.tasks.toList.any (fun t =>
    match t with
    | none => false
    | some c =>
      let b := sharedBase + c.inImg
      (decide (b ≤ a) && decide (a < b + 64)) ||
        c.latchList.any (fun e => decide (b + 64 + e.dst ≤ a) && decide (a < b + 64 + e.dst + e.length)))

/-- The memory a copied page lies in: the voted shared buffers, or the memory of the lowest ACTIVE lane. -/
def pageMem (base : Nat) (s : State) : List Host.Cell :=
  if sharedBase ≤ base then s.vmem.filter (fun c => !latchWritten s c.1)
  else match leadCore s with
    | some k => s.mems[k]
    | none => []

/-- CRC-32C of a copied page (R504). -/
def pageCrc (base : Nat) (s : State) : Nat := (crc32c (memRead (pageMem base s) base 65536)).toNat

/-- The 16 PAGE frames of a page (R314). -/
def sendPage (base : Nat) (s : State) : State :=
  let m := if sharedBase ≤ base then s.vmem else pageMem base s
  (List.range 16).foldl (fun t k =>
    twinSend 9 (leBytes 8 (base + 4096 * k) ++ memRead m (base + 4096 * k) 4096) t) s

/-- The checksum marker of a page in an FWD frame (R326, R504). -/
def sendMarker (base : Nat) (s : State) : State :=
  twinSend 10 (fwdOctets { addr := BitVec.ofNat 40 base, be := 0, kind := 2, data := BitVec.ofNat 128 (pageCrc base s) }) s

/-- The lanes an integration loads: ACTIVE, WEDGING, WEDGED. -/
def loadedLanes (s : State) : List (Fin 4) := activeLanes s ++ (spareLane s).toList

/-- Octets loaded by the Kiln into the lanes or into the voted shared buffers (R325). -/
def pageLoad (a : Nat) (bs : List Byte) (s : State) : State :=
  if sharedBase ≤ a then vwrite a bs s
  else
    markPages (pagesOf a bs.length) ((loadedLanes s).foldl (fun t l =>
      { t with mems := t.mems.set (coreP l).val (memWrite t.mems[coreP l] a bs) (coreP l).isLt }) s)

/-- A forwarded entry in the standby (R326, R504): a write, or a checksum marker; a page that differs twice fails the
integration. -/
def fwdApply (e : TwinFwd) (s : State) : State :=
  let m : MirrorEntry := { addr := e.addr, be := e.be, data := e.data }
  let a := e.addr.toNat
  if e.kind = 0 then (loadedLanes s).foldl (fun t l => applyEntry l m t) (markPages [pageOf a] s)
  else if e.kind = 1 then markShared a 16 { s with vmem := memWriteBe s.vmem a e.be e.data 16 }
  else if e.kind = 2 then
    if pageCrc a s = e.data.toNat % 2 ^ 32 then setTwl (fun t => { t with pages := t.pages + 1 }) s
    else if a ∈ s.twl.differ then integFail 5 s
    else setTwl (fun t => { t with differ := t.differ ++ [a] }) s
  else s

/-- A LaneTimer as the state record carries it: control and preset, and the elapsed µs at which it expires. -/
def timerOf (p : BitVec 32 × BitVec 32 × Nat) : LaneTimer :=
  { mode := p.1.extractLsb' 0 2, run := p.1.getLsbD 2, ie := p.1.getLsbD 3, exp := p.1.getLsbD 8, preset := p.2.1
    due := p.2.2 }

/-- A core loaded from a state record of the active (R91, R111). -/
def Core.ofRecord (r : StateRec) (c : Core) : Core :=
  let w (o : Nat) : Reg64 := BitVec.ofNat 64 (leAt r.core o 8)
  let imp := leAt r.core 0x610 8
  { c with
    x := Vector.ofFn (fun i => if i.val = 0 then 0 else w (8 * i.val))
    f := Vector.ofFn (fun i => w (0x100 + 8 * i.val))
    cw := Vector.ofFn (fun i => if wordExists i.val then w (0x200 + 8 * i.val) else 0)
    pc := w 0x600, tag := BitVec.ofNat 6 (leAt r.core 0x608 1), wfi := decide (leAt r.core 0x609 1 % 2 = 1)
    imprecise := if imp = 0 then none else some (BitVec.ofNat 40 (leAt r.core 0x618 8))
    resv := none, sbuf := [], cbuf := none, pend := none
    lic := { pend := r.pend, en := r.en, prio := r.prio, level := r.level, stack := r.stack, claim := none }
    timers := Vector.ofFn (fun i => (r.timers[i.val]?.map timerOf).getD {})
    lpc := { c.lpc with
      cnt := Vector.ofFn (fun i => (r.counts[i.val]?.map (fun p => p.1)).getD 0)
      evsel := Vector.ofFn (fun i => (r.counts[i.val]?.map (fun p => p.2)).getD 0)
      gen := r.lpc.1.getLsbD 0, ovf := r.lpc.2.1, ien := r.lpc.2.2.1, v2ovf := r.lpc.2.2.2
      dumpAddr := r.dump.1, dumpPer := r.dump.2.1, dumpSeq := r.dump.2.2 } }

/-- The active's state record is in the ACTIVE lanes and the module runs in step: STANDBY, TWIN_JOINED (R325). -/
def joined (s : State) : State :=
  let ms := ((s.tim.elapsed - s.twl.started) / 1000000).toNat
  let s1 := mapTasks (fun t => { t with state := if t.state.isOpen then .idle else t.state }) s
  let s2 := { s1 with cys := { s1.cys with latchQ := [], commitQ := [], commit := none, posting := none } }
  let s3 := raise 262 (record 8 0x600A ms s.twl.copied s.twl.latency (twinRole .standby 0x600A s2))
  setTwl (fun t =>
    { t with phase := 0, joinTick := none, inputs := t.inputs, ownChecks := [], peerChecks := []
             revertAt := if preferred s3 then some (s3.tim.elapsed + par s3 0x2600 3 * 1000000000) else none }) s3

/-- The join in a quiet gap of the active (R325 phase 5): JOIN and STATEREC are sent and forwarding stops, or the join
is deferred. The spec does not lay out the 1,536 octets of the record that follow the core state (R91): free values
(log 3). -/
def joinTry (s : State) : State :=
  if s.twl.role = .active ∧ s.twl.phase = 5 then
    if s.twl.fwd.length * 120 + 16500 ≤ gapLen s * 1000 + s.twl.delta * 1000 then
      let s1 := twinCmd 6 (nextRelease s) (fwdDrain s.twl.fwd.length s)
      let c := match leadCore s1 with | some k => s1.cores[k] | none => {}
      let rec_ := c.x.toList.flatMap (fun v => leBytes 8 v.toNat) ++ c.f.toList.flatMap (fun v => leBytes 8 v.toNat) ++
        c.cw.toList.flatMap (fun v => leBytes 8 v.toNat) ++ List.replicate 512 0 ++ leBytes 8 c.pc.toNat ++
        leBytes 1 c.tag.toNat ++ leBytes 1 (b2n c.wfi) ++ List.replicate 6 0 ++
        (match c.imprecise with | some a => leBytes 8 1 ++ leBytes 8 a.toNat | none => List.replicate 16 0) ++
        List.replicate 480 0
      let (others, s2) := drawOctets 192 s1
      setTwl (fun t => { t with phase := 0, deferred := 0, toCopy := [] }) (twinSend 11 (rec_ ++ others) s2)
    else if 999 ≤ s.twl.deferred then integFail 7 (setTwl (fun t => { t with deferred := 0 }) s)
    else setTwl (fun t => { t with deferred := t.deferred + 1 }) s
  else s

/-! ### Craze flags -/

/-- A record within the last 24 h of operating time. -/
def within24h (o : Option Nat) (s : State) : Bool :=
  match o with
  | some t => decide (s.recd.optime - t ≤ transientWindow)
  | none => false

/-- The condition of a craze flag, where the state shows it (R331); none for flags 1 and 13, whose condition is
reported by the command. -/
def crazeCond (flag : Nat) (s : State) : Option Bool :=
  match flag with
  | 0 => some ((allFin 4).any (fun l => decide (laneState s l = .retired)))
  | 1 => none
  | 2 => some (within24h s.twl.notedAt[0] s)
  | 3 => some (within24h s.twl.notedAt[1] s)
  | 4 => some (within24h s.twl.notedAt[2] s)
  | 5 => some ((allFin 48).any (fun c => decide ((s.chans[c]).state = .fault) || decide ((s.chans[c]).state = .overload)))
  | 6 => some (decide (s.mod.product ≠ 0x00400001) && (allFin 3).any (fun b => decide ((s.banks[b]).supply ≠ 2)))
  | 7 => some (decide (s.mod.product ≠ 0x00400001) && (allFin 3).any (fun b => !(s.banks[b]).timeValid))
  | 8 => some (s.clk.coast || !s.clk.lock)
  | 9 => some s.clk.emberFail
  | 10 => some s.tim.uncert
  | 11 => some (s.twl.en && !bothUp s)
  | 12 => some (decide (s.xn.role ≠ .off) && (allFin 2).any (fun k => !(s.xn.chans[k]).up))
  | 13 => none
  | _ => some false

/-- A revert of the active to its peer is refused with a reason (R329); 0: not refused. -/
def revertRefusal (s : State) : Nat :=
  if s.cys.olc ≠ .none ∨ s.twl.peerOlc ≠ 0 then 1 else if s.twl.peerState ≠ 3 then 2
  else if s.twl.peerCraze ≠ 0 then 3 else 0

/-- The first tick that releases a task at least 2 ms ahead (R328). -/
def handoverTick (s : State) : Int :=
  let n := (s.tim.ns + 2000000 + 249999) / 250000
  (n + kMin s - 1) / kMin s * kMin s

end Sys2Proof.Machine
end

