-- ==== Sys2Proof/Machine/Twin.lean ====
section
/-! DEFINITION. The commands of the twin pair (chapter 10) and of the quiet gap (R153). -/

namespace Sys2Proof.Machine

/-- A link frame reaches the twin link controller (R314): a frame whose CRC fails is counted and discarded. -/
def linkFrame (head : TwinHead) (act : State → State) (s : State) : State :=
  if linkAlive s = false then s
  else if head.crcOk then act s
  else setTwl (fun t => { t with crcErrors := inc32 t.crcErrors }) s

/-- HEARTBEAT_STROBE (R315-R317). -/
def execHeartbeatStrobe (dt : Nat) (s : State) : Out :=
  let s0 := advance dt s
  if twlRuns s0 ∧ s0.twl.role ≠ .alone ∧ (s0.mod.state = .firing ∨ isRun s0 = true) then
    let s1 := setTwl (fun t => { t with beats := (t.beats + 1) % 2 ^ 32 }) s0
    .next (twinSend 1 (leBytes 1 s1.twl.role.code ++ leBytes 1 s1.mod.state.code ++ leBytes 1 s1.vrc.mode.code ++
      leBytes 1 (b2n s1.pwr.pos) ++ leBytes 4 ((tickNow s1).toNat % 2 ^ 32) ++ leBytes 2 (s1.twl.craze.toNat % 65536) ++
      leBytes 1 s1.cys.olc.code ++ [0] ++ leBytes 4 s1.twl.beats) s1)
  else .next s0

/-- What a HEARTBEAT shows (R315, R319): a standby whose peer is in no RUN state takes over as from a faulted peer. -/
def beatShown (b : TwinBeat) (s : State) : State :=
  let st := b.state.toNat
  let run := decide (st = 3 ∨ st = 4)
  let s1 := pathBeat .link (setTwl (fun t =>
    { t with peerRole := b.role.toNat % 4, peerState := st % 16, peerOlc := b.olc.toNat
             peerLost := t.peerLost && !(run || decide (st = 1)) }) s)
  if s1.twl.role = .standby ∧ run = false then peerGone false (setTwl (fun t => { t with peerCause := 0 }) s1) else integBegin s1

/-- HEARTBEAT_RECEIVED (R315, R318, R319, R325). -/
def execHeartbeatReceived (dt : Nat) (rx : BeatRx) (s : State) : Out :=
  let s0 := advance dt s
  match rx with
  | .link h b => .next (linkFrame h (beatShown b) s0)
  | .pulse => if twlRuns s0 then .next (integBegin (pathBeat .pulse s0)) else .next s0

/-- HEARTBEAT_MISS (R318, R319). -/
def execHeartbeatMiss (dt : Nat) (way : TwinWay) (s : State) : Out :=
  let s0 := advance dt s
  if twlRuns s0 = false then .next s0
  else
    let s1 := setPath way (fun p => { p with miss := inc8 p.miss, good := 0, missAt := s0.tim.elapsed }) s0
    let p := pathOf way s1
    .next (if p.up && decide (3 ≤ p.miss) then pathDown way s1 else s1)

/-- TWIN_FAULT_RECEIVED (R317-R320). -/
def execTwinFaultReceived (dt : Nat) (rx : FaultRx) (s : State) : Out :=
  let s0 := advance dt s
  match rx with
  | .link h cause state =>
    .next (linkFrame h (fun t =>
      peerGone false (setTwl (fun x => { x with peerCause := cause.toNat, peerState := state.toNat % 16 }) t)) s0)
  | .pulse => if twlRuns s0 then .next (peerGone false (setTwl (fun x => { x with peerCause := 0 }) s0)) else .next s0

/-- TAKEOVER_GATE_RELEASE (R320 steps 2 and 3): no sooner than the end of a commit and its posting in progress. -/
def execTakeoverGateRelease (dt : Nat) (s : State) : Out :=
  let s0 := advance dt s
  match s0.twl.release with
  | none => .next s0
  | some silent =>
    if s0.cys.commit.isSome ∨ s0.cys.posting.isSome then .next s0
    else
      let s1 := twinHold false (setTwl (fun t => { t with release := none })
        (if s0.twl.tookNoted then s0 else noteTakeover silent 0 s0))
      if silent then
        .next (record 8 0x600E 1 0 0 (setTwl (fun t => { t with twrUntil := s1.tim.elapsed + 22000 }) s1))
      else .next s1

/-- TWIN_REQUESTED_RESET (R321, R472). -/
def execTwinRequestedReset (dt : Nat) (s : State) : Out :=
  let s0 := advance dt s
  if s0.mod.state = .cold then .next s0 else .next (moduleReset 4 0 s0)

/-- An INPUT frame kept until its latch (R322, R323). -/
def keepInput (task : Fin 8) (cycle offset : Nat) (bs : List Byte) (s : State) : State :=
  let mine (i : InputImage) : Bool := decide (i.task = task.val) && decide (i.cycle = cycle)
  let old := (s.twl.inputs.find? mine).getD { task := task.val, cycle := cycle, cells := [], got := 0 }
  let new : InputImage := { old with cells := memWrite old.cells offset bs, got := old.got + bs.length }
  setTwl (fun t => { t with inputs := t.inputs.filter (fun i => !mine i) ++ [new] }) s

/-- TWIN_INPUT_FRAME (R322, R323). -/
def execTwinInputFrame (head : TwinHead) (task : Fin 8) (cycle : BitVec 64) (offset : BitVec 32)
    (octets : List (BitVec 8)) (s : State) : Out :=
  .next (linkFrame head (fun t => if follows t then keepInput task cycle.toNat offset.toNat octets t else t) s)

/-- TWIN_RXFRAME (R322). -/
def execTwinRxframe (head : TwinHead) (port : Fin 2) (sec : BitVec 48) (ns : BitVec 32) (frame : EthFrame)
    (s : State) : Out :=
  .next (linkFrame head (fun t =>
    if follows t then
      let (vid, pcp, tagged) := classify t.lnc frame.octets
      laneFrame port.val tagged vid pcp (sec.toNat * 1000000000 + ns.toNat : Nat) (bare frame.octets) t
    else t) s)

/-- TWIN_TIME_FRAME (R322): an accepted Sync whose link delay is the link latency, with the active's RATE, ARB and
error bound. -/
def execTwinTimeFrame (dt : Nat) (head : TwinHead) (frame : TimeFrame) (s : State) : Out :=
  .next (linkFrame head (fun t =>
    if passive t then
      let o := t.tim.nt - ((frame.sec.toNat * 1000000000 + frame.ns.toNat + t.twl.latency : Nat) : Int) * 65536
      servo o (!frame.flags.getLsbD 0) (some frame.rate.toInt)
        { t with twl := { t.twl with activeEb := frame.eb.toNat }, tim := { t.tim with arb := frame.flags.getLsbD 3 } }
    else t) (advance dt s))

/-- The copies of kind 3 of a task's commit list (R504). -/
def sharedCopies (n : Fin 8) (s : State) : State :=
  match taskCfg s n with
  | some c => (c.commitList.filter (fun e => decide (e.kind = 3))).foldl (fun t e => commitEntry c e t) s
  | none => s

/-- TWIN_CHECK_FRAME (R324, R504). -/
def execTwinCheckFrame (head : TwinHead) (task : Fin 8) (committed : Bool) (cycle : BitVec 64) (crc : BitVec 32)
    (s : State) : Out :=
  .next (linkFrame head (fun t =>
    if t.twl.role = .standby then
      twinReset (checkPeer { task := task.val, cycle := cycle.toNat, committed := committed, crc := crc.toNat } t)
    else if follows t ∧ (t.cys.tasks[task]).cycle = cycle.toNat ∧ (t.cys.tasks[task]).state.isOpen = true then
      setTask task (fun x => { x with state := .idle }) (if committed then sharedCopies task t else t)
    else t) s)

/-- TWIN_HEALTH_FRAME (R331, R333): a peer flag that sets raises CRAZE. -/
def execTwinHealthFrame (head : TwinHead) (flags : BitVec 32) (counts : BitVec 96) (s : State) : Out :=
  let _ := counts
  .next (linkFrame head (fun t =>
    let t1 := setTwl (fun x => { x with peerCraze := flags }) t
    if flags &&& ~~~t.twl.peerCraze = 0 then t1 else raise 263 t1) s)

/-- TWIN_CRAZE (R331): a flag whose condition holds sets, and is recorded once. -/
def execTwinCraze (flag : Fin 32) (s : State) : Out :=
  let holds := (crazeCond flag.val s).getD (decide (flag = 13) || (wedgedLane s).isNone)
  if holds && !s.twl.craze.getLsbD flag.val then
    .next (record 8 0x600D (b2n s.pwr.pos) flag.val 0 (setTwl (fun t => { t with craze := putBit t.craze flag.val true }) s))
  else .next s

/-- CRAZE_FLAG_CLEAR (R331): a flag clears when its condition has ended. -/
def execCrazeFlagClear (flag : Fin 32) (s : State) : Out :=
  if (crazeCond flag.val s).getD false then .next s
  else .next (setTwl (fun t => { t with craze := putBit t.craze flag.val false }) s)

/-- TWIN_CMD_REVERT_REQ (R328, R329): the active names the handover's tick, or refuses. -/
def execTwinCmdRevertReq (dt : Nat) (head : TwinHead) (s : State) : Out :=
  .next (linkFrame head (fun t =>
    if t.twl.role = .active ∧ t.twl.peerRole = 2 then
      let r := revertRefusal t
      if r = 0 then
        let n := handoverTick t
        twinCmd 2 n (setTwl (fun x => { x with handover := some n.toNat, handoverAcked := false }) t)
      else record 8 0x600C r t.twl.peerCraze.toNat 0 t
    else t) (advance dt s))

/-- TWIN_CMD_HANDOVER (R328): the standby acknowledges the tick. -/
def execTwinCmdHandover (dt : Nat) (head : TwinHead) (tick : BitVec 64) (s : State) : Out :=
  .next (linkFrame head (fun t =>
    if t.twl.role = .standby then twinCmd 3 tick.toNat (setTwl (fun x => { x with handover := some tick.toNat }) t)
    else t) (advance dt s))

/-- TWIN_CMD_HANDOVER_ACK (R328). -/
def execTwinCmdHandoverAck (head : TwinHead) (tick : BitVec 64) (s : State) : Out :=
  .next (linkFrame head (fun t =>
    if t.twl.role = .active ∧ t.twl.handover = some tick.toNat then setTwl (fun x => { x with handoverAcked := true }) t
    else t) s)

/-- The handover completes in this module (R327, R328). -/
def handoverDone (n : Nat) (s : State) : State :=
  let old := if s.twl.role = .active then b2n s.pwr.pos else b2n (!s.pwr.pos)
  raise 264 (record 8 0x600B old (n % 2 ^ 32) 0 s)

/-- HANDOVER_HOLD_CHANGE (R327, R328 steps 5 and 6): the new active releases its hold, the old active sets its own,
each in its quiet gap before the tick; otherwise the handover moves to the next tick. -/
def execHandoverHoldChange (dt : Nat) (s : State) : Out :=
  let s0 := advance dt s
  match s0.twl.handover with
  | none => .next s0
  | some n =>
    let quiet := s0.cys.gap && s0.cys.quiet
    if s0.twl.role = .standby then
      if quiet then
        let s1 := handoverDone n s0
        let s2 := xnbTakeover (becomeActive 0x600B (twinHold false s1))
        .next { s2 with cys := { s2.cys with delta := 0 }, twl := { s2.twl with gridTo := none } }
      else .next (setTwl (fun t => { t with handover := none }) s0)
    else if s0.twl.role = .active ∧ s0.twl.handoverAcked = true then
      if quiet then
        let s1 := xnbRelease (twinRole .standby 0x600B (twinHold true (handoverDone n s0)))
        .next { s1 with cys := { s1.cys with delta := deltaNs s1 } }
      else
        let m := handoverTick s0
        .next (twinCmd 2 m (setTwl (fun t => { t with handover := some m.toNat, handoverAcked := false }) s0))
    else .next s0

/-- TWIN_CMD_OLC_SWITCH (R330). -/
def execTwinCmdOlcSwitch (head : TwinHead) (tick : BitVec 64) (s : State) : Out :=
  .next (linkFrame head (fun t =>
    if t.twl.role = .standby ∧ t.cys.staged.isSome = true then
      { t with twl := { t.twl with olcTick := some tick.toNat }
               cys := { t.cys with olc := .accepted, olcSameGap := false } }
    else t) s)

/-- TWIN_CMD_INTEG_START (R325 phase 1): both modules compare; the active answers. -/
def execTwinCmdIntegStart (dt : Nat) (head : TwinHead) (info : IntegInfo) (s : State) : Out :=
  .next (linkFrame head (fun t =>
    let go := (decide (t.twl.role = .active) && decide (t.twl.phase = 0)) ||
      (decide (t.twl.role = .integrating) && decide (t.twl.phase = 1))
    if go && isRun t then
      let t1 := if t.twl.role = .active then
          twinCmd 5 (tickNow t) (setTwl (fun x => { x with pages := 0, deferred := 0, differ := [] }) t)
        else t
      let c := integCompare info t1
      if c = 0 then setTwl (fun x => { x with phase := 2 }) t1 else integFail c t1
    else t) (advance dt s))

/-- TWIN_LATENCY_DONE (R325 phase 2): the copy begins; the standby's grid is delayed by δ (R504). -/
def execTwinLatencyDone (dt : Nat) (meanRoundTrip : BitVec 32) (s : State) : Out :=
  let s0 := advance dt s
  if s0.twl.phase ≠ 2 then .next s0
  else
    let s1 := setTwl (fun t => { t with latency := meanRoundTrip.toNat / 2, phase := 3, pages := 0 }) s0
    if s1.twl.role = .active then .next (setTwl (fun t => { t with toCopy := copiedPages s1 }) s1)
    else .next (execDispatch { s1 with cys := { s1.cys with delta := deltaNs s1 } })

/-- TWIN_PAGE_FRAME (R325 phase 3): loaded into the lanes or the voted shared buffers. -/
def execTwinPageFrame (head : TwinHead) (addr : BitVec 64) (octets : List (BitVec 8)) (s : State) : Out :=
  .next (linkFrame head (fun t =>
    if t.twl.role = .integrating ∧ 3 ≤ t.twl.phase then
      let t1 := pageLoad addr.toNat octets t
      if (addr.toNat + 4096) % 65536 = 0 then
        setTwl (fun x => { x with pages := x.pages + 1, copied := x.copied + 1 }) t1
      else t1
    else t) s)

/-- TWIN_FWD_FRAME (R326, R504). -/
def execTwinFwdFrame (head : TwinHead) (entries : List TwinFwd) (s : State) : Out :=
  .next (linkFrame head (fun t =>
    entries.foldl (fun u e => if u.twl.role = .integrating ∧ 3 ≤ u.twl.phase then fwdApply e u else u) t) s)

/-- TWIN_COPY_DONE (R325 phase 3): the active has sent the pages of the copied ranges. -/
def execTwinCopyDone (dt : Nat) (s : State) : Out :=
  let s0 := advance dt s
  if s0.twl.phase ≠ 3 then .next s0
  else
    let s1 := if s0.twl.role = .active then
        setTwl (fun t => { t with copied := t.toCopy.length }) (s0.twl.toCopy.foldl (fun t p => sendPage p t) s0)
      else s0
    .next (setTwl (fun t => { t with phase := 4, pages := 0 }) s1)

/-- TWIN_CHECKSUM_DONE (R325 phase 4, R504): the active's checksum markers have gone out and every page agrees. -/
def execTwinChecksumDone (dt : Nat) (s : State) : Out :=
  let s0 := advance dt s
  if s0.twl.phase ≠ 4 then .next s0
  else
    let s1 := if s0.twl.role = .active then
        setTwl (fun t => { t with pages := t.toCopy.length })
          (s0.twl.toCopy.foldl (fun t p => sendMarker p t) (fwdDrain s0.twl.fwd.length s0))
      else s0
    .next (setTwl (fun t => { t with phase := 5 }) s1)

/-- TWIN_CMD_JOIN (R325 phase 5): the tick of the join. -/
def execTwinCmdJoin (dt : Nat) (head : TwinHead) (tick : BitVec 64) (s : State) : Out :=
  .next (linkFrame head (fun t =>
    if t.twl.role = .integrating ∧ 3 ≤ t.twl.phase then setTwl (fun x => { x with joinTick := some tick.toNat, phase := 5 }) t
    else t) (advance dt s))

/-- TWIN_STATEREC_FRAME (R325 phase 5): the lanes load the record and the module is STANDBY. -/
def execTwinStaterecFrame (dt : Nat) (head : TwinHead) (rcd : StateRec) (s : State) : Out :=
  .next (linkFrame head (fun t =>
    if t.twl.role = .integrating ∧ t.twl.joinTick.isSome = true then
      let f (c : Core) : Core := Core.ofRecord rcd c
      joined { t with cores := (activeLanes t).foldl (fun v l => vmod (vmod v (coreP l) f) (coreS l) f) t.cores }
    else t) (advance dt s))

/-- TWIN_INTEG_RETRY (R325): 10 s after a failure, from phase 1. -/
def execTwinIntegRetry (dt : Nat) (s : State) : Out :=
  .next (integBegin (setTwl (fun t => { t with retry := false }) (advance dt s)))

/-- TWIN_PEER_INTEGRATING_TIMEOUT (R327): the preferred position, or A, becomes ACTIVE. -/
def execTwinPeerIntegratingTimeout (dt : Nat) (s : State) : Out :=
  let s0 := advance dt s
  let mine := if s0.twl.pref = 0 then !s0.pwr.pos else preferred s0
  if s0.twl.role = .integrating ∧ isRun s0 = true ∧ bothUp s0 = true ∧ s0.twl.peerRole = 1 ∧ mine = true then
    .next (twinHold false (becomeActive 0 s0))
  else .next s0

/-- TWIN_PEER_SILENT_TIMEOUT (R327, R321): TWR once; the gate hold goes at the next commit. -/
def execTwinPeerSilentTimeout (dt : Nat) (s : State) : Out :=
  let s0 := advance dt s
  if s0.twl.role = .integrating ∧ isRun s0 = true ∧ s0.twl.link.up = false ∧ s0.twl.pulse.up = false then
    let s1 := record 8 0x600E 2 0 0 (setTwl (fun t => { t with twrUntil := s0.tim.elapsed + 20000 }) s0)
    .next (setTwl (fun t => { t with releaseAtCommit := true }) (becomeActive 0 s1))
  else .next s0

/-- REVERT_HOLD_EXPIRY (R328): the preferred standby asks for control. -/
def execRevertHoldExpiry (dt : Nat) (s : State) : Out :=
  let s0 := advance dt s
  match s0.twl.revertAt with
  | some t =>
    if s0.twl.role = .standby ∧ preferred s0 = true ∧ t ≤ s0.tim.elapsed then .next (twinCmd 1 (tickNow s0) s0)
    else .next s0
  | none => .next s0

/-- TWIN_FWD_HOLD_RELEASE (R326): the forward FIFO drains, and the hold goes at a fill of 512. -/
def execTwinFwdHoldRelease (dt : Nat) (s : State) : Out :=
  let s0 := advance dt s
  .next (setTwl (fun t => { t with fwdHold := t.fwdHold && decide (512 < t.fwd.length) }) s0)

/-- TIME_FRAME_INTERVAL (R314, R322). -/
def execTimeFrameInterval (dt : Nat) (s : State) : Out :=
  let s0 := advance dt s
  if s0.twl.role = .active then
    let (sec, ns) := splitNs s0.tim.ns
    let t := s0.tim
    let flags := b2n t.timeLocal + 2 * b2n t.uncert + 4 * b2n s0.clk.coast + 8 * b2n t.arb
    let body := leBytes 6 sec ++ leBytes 4 ns ++ leBytes 2 flags ++ leBytes 4 (int32 t.rate) ++
      leBytes 12 (BitVec.ofInt 96 (t.stepSum - s0.twl.sentSteps)).toNat ++ leBytes 4 (errBoundReg s0)
    .next (setTwl (fun x => { x with sentSteps := t.stepSum }) (twinSend 5 body s0))
  else .next s0

/-- HEALTH_FRAME_INTERVAL (R331): the craze flags; the spec does not say which counts follow (log 3). -/
def execHealthFrameInterval (dt : Nat) (s : State) : Out :=
  let s0 := advance dt s
  if s0.twl.role = .alone then .next s0
  else
    let (a, s1) := drawWord s0
    let (b, s2) := drawWord s1
    .next (twinSend 7 (leBytes 4 s2.twl.craze.toNat ++ leBytes 8 a.toNat ++ leBytes 4 (b.toNat % 2 ^ 32)) s2)

/-- TWP_PULSE_ERROR (R317). -/
def execTwpPulseError (s : State) : Out :=
  if twlRuns s then .next (setTwl (fun t => { t with pulseErrors := inc16 t.pulseErrors }) s) else .next s

/-- STANDBY_IMAGE_STAGE (R330). -/
def execStandbyImageStage (head : TwinHead) (image : List (BitVec 8)) (s : State) : Out :=
  .next (linkFrame head (fun t => if t.twl.role = .standby then standbyStage image t else t) s)

/-! ### The quiet gap -/

/-- Does the switch come in this quiet gap (R175, R330)? -/
def switchNow (s : State) : Bool :=
  decide (s.cys.olc = .accepted) && !s.cys.olcSameGap && s.cys.staged.isSome &&
    (match s.twl.olcTick with
      | some n => decide (nextRelease s = (n : Int))
      | none => decide (s.twl.role ≠ .standby))

/-- The grid moves in the first quiet gap (R327); the time by which the gap ends earlier, ns. -/
def moveGrid (s : State) : Nat × State :=
  match s.twl.gridTo with
  | some d =>
    ((s.cys.delta - d).toNat, { s with cys := { s.cys with delta := d }, twl := { s.twl with gridTo := none } })
  | none => (0, s)

/-- QUIET_GAP_START (R153, R93, R94, R175, R325, R327). -/
def execQuietGapStart (dt : Nat) (s : State) : Out :=
  let s0 := advance dt s
  if s0.cys.gap = false ∨ s0.cys.quiet = false then .next s0
  else
    let safety := s0.kiln.verd && !s0.kiln.applied
    let dump := s0.cys.dump || s0.cys.movedDump
    let resv := 100 * b2n safety + 100 * b2n dump
    let sw := switchNow s0
    let (early, s1) := moveGrid s0
    let avail := 100 * gapLen s1 - resv - early / 10
    let s2 := { s1 with cys := { s1.cys with
      resvSafety := safety, resvDump := dump, resv := resv, avail := if sw then 0 else avail, switchGap := sw
      olc := if sw then .switching else s1.cys.olc } }
    if sw then
      let s3 := if s2.twl.role = .active ∧ s2.twl.peerRole = 2 then twinCmd 4 (nextRelease s2) s2 else s2
      let s4 := setTwl (fun t => { t with olcTick := none }) s3
      .next (match rewedgeWanted s4 with
        | some r => if r.out.isNone then rewedgeDecide 0 s4 else s4
        | none => s4)
    else .next (joinTry (rewedgeDecide avail s2))

end Sys2Proof.Machine
end

