-- ==== Sys2Proof/Machine/Sessions.lean ====
section
/-! DEFINITION. The commands that sessions send to the Kiln (chapters 01-03, 05, 11, 13, 14, 16 and 17). -/

namespace Sys2Proof.Machine

/-! ### GDP (R352-R354) -/

/-- A DOMAIN value over GDP: up to 1,024 octets from OFFSET (R353); a read through the gateway is cut as it ends. -/
def gdpSlice (idx sub off : Nat) (r : Option Answer × State) : Option Answer × State :=
  match dictEntry idx sub, r with
  | some (some { ty := .domain _ _, .. }), (some (.done d), t) => (some (.done ((d.drop off).take 1024)), t)
  | _, x => x

/-- GDP_READ (R353). -/
def execGdpRead (head : GdpHead) (index : BitVec 16) (sub : BitVec 8) (offset : BitVec 32) (s : State) : Out :=
  let i := index.toNat
  let k := sub.toNat
  let o := offset.toNat
  .next (gdpServe head (fun b t => gdpSlice i k o (dictRead b i k o t)) s)

/-- GDP_WRITE (R353). -/
def execGdpWrite (head : GdpHead) (index : BitVec 16) (sub : BitVec 8) (block : BlockIn) (s : State) : Out :=
  .next (gdpServe head (fun b t => gdpWrite b index.toNat sub.toNat block t) s)

/-- A GDP session opens (R354, R359): the first free one of four. -/
def openGdp (client : BitVec 32) (s : State) : State :=
  match (allFin 4).find? (fun n => !(s.kiln.sessions[n.val]).open_) with
  | some n =>
    record 7 0x5005 (n.val + 1) 1 client.toNat
      (setKiln (fun k => { k with openAnswer := some (.done (leBytes 2 (n.val + 1))) })
        (setSess ⟨n.val, by omega⟩ (fun _ => { open_ := true, client := client }) s))
  | none => setKiln (fun k => { k with openAnswer := some (.abort 0x05040005) }) s

/-- GDP_OPEN: SESSION is 0. -/
def execGdpOpen (head : GdpHead) (client : BitVec 32) (s : State) : Out :=
  if gdpPort head s = true ∧ head.session = 0 then .next (openGdp client (fwErased s)) else .next s

/-- A GDP session ends with a reason code of GDP_SESSION. -/
def endGdp (n : Fin 4) (why : Nat) (s : State) : State :=
  closeSession (.gdp n) (record 7 0x5005 (n.val + 1) why (s.kiln.sessions[n.val]).client.toNat s)

/-- GDP_CLOSE (R354). -/
def execGdpClose (head : GdpHead) (s : State) : Out :=
  .next (gdpServe head (fun b t =>
    match b with
    | .gdp n => (some (.done []), endGdp n 2 t)
    | _ => (none, t)) s)

/-- GDP_SESSION_IDLE_TIMEOUT (R354, R386): sessions 4 and 5 are those of the CANopen FD channels. -/
def execGdpSessionIdleTimeout (dt : Nat) (session : Fin 6) (s : State) : Out :=
  let s0 := advance dt s
  if (s0.kiln.sessions[session]).open_ = false then .next s0
  else if h : session.val < 4 then .next (endGdp ⟨session.val, h⟩ 3 s0)
  else .next (closeSession (.can ⟨session.val - 4, by omega⟩) s0)

/-! ### The key exchange (R387-R389) -/

/-- KEYX_CHALLENGE. -/
def execKeyxChallenge (by_ : Session) (s : State) : Out := .next (serve by_ (dictRead by_ 0x2003 1 0) s)

/-- KEYX_RESPONSE. -/
def execKeyxResponse (by_ : Session) (response : List (BitVec 8)) (s : State) : Out :=
  .next (serve by_ (dictWrite by_ 0x2003 2 response) s)

/-- KEYX_LOCKOUT_END (R388). -/
def execKeyxLockoutEnd (dt : Nat) (s : State) : Out :=
  let s0 := advance dt s
  if keyLocked s0 then .next s0 else .next (setKiln (fun k => { k with lockUntil := none }) s0)

/-- MAINTENANCE_KEY_WRITE (R389). -/
def execMaintenanceKeyWrite (by_ : Session) (key : List (BitVec 8)) (s : State) : Out :=
  .next (serve by_ (dictWrite by_ 0x2003 3 key) s)

/-! ### CANopen FD requests (R390) -/

/-- USDO_TRANSFER. -/
def execUsdoTransfer (channel : Fin 2) (op : DictOp) (s : State) : Out :=
  let b := Session.can channel
  .next (serve b (fun t =>
    match op with
    | .read i k => dictRead b i.toNat k.toNat 0 t
    | .write i k d => usdoWrite b i.toNat k.toNat d t
    | .unknown => (some (.abort 0x05040001), t)) s)

/-- USDO_TIMEOUT: a transfer without a client segment for 1 s is aborted. -/
def execUsdoTimeout (dt : Nat) (channel : Fin 2) (s : State) : Out :=
  let s0 := advance dt s
  if canLive channel s0 then .next (reply (.can channel) (.abort 0x05040000) s0) else .next s0

/-! ### State, power, lane and wide commands (R29, R56, R65, R75, R474) -/

/-- STATE_CMD_ENTER_MAINTENANCE. -/
def execStateCmdEnterMaintenance (by_ : Session) (s : State) : Out := .next (serve by_ (dictWrite by_ 0x2000 2 [1]) s)

/-- STATE_CMD_LEAVE_MAINTENANCE. -/
def execStateCmdLeaveMaintenance (by_ : Session) (s : State) : Out := .next (serve by_ (dictWrite by_ 0x2000 2 [2]) s)

/-- STATE_CMD_ENTER_BANKED. -/
def execStateCmdEnterBanked (by_ : Session) (s : State) : Out := .next (serve by_ (dictWrite by_ 0x2000 2 [3]) s)

/-- STATE_CMD_MODULE_RESET. -/
def execStateCmdModuleReset (by_ : Session) (s : State) : Out := .next (serve by_ (dictWrite by_ 0x2000 2 [4]) s)

/-- WARM_RESTART. -/
def execWarmRestart (by_ : Session) (s : State) : Out := .next (serve by_ (dictWrite by_ 0x2B00 1 [1]) s)

/-- LANE_1OO1_SELECT. -/
def execLane1oo1Select (by_ : Session) (lane : Fin 4) (s : State) : Out :=
  .next (serve by_ (dictWrite by_ 0x2100 5 (leBytes 1 lane.val)) s)

/-- LANE_1OO1_RELEASE. -/
def execLane1oo1Release (by_ : Session) (s : State) : Out := .next (serve by_ (dictWrite by_ 0x2100 5 [0xFF]) s)

/-- WIDE_MODE_WRITE. -/
def execWideModeWrite (by_ : Session) (on : Bool) (s : State) : Out :=
  .next (serve by_ (dictWrite by_ 0x2100 3 (leBytes 1 (b2n on))) s)

/-! ### Application images (R174, R175, R184) -/

/-- An image command after the checks of R391; `peer` is the standby's result code. -/
def imageRequest (b : Session) (v peer : Nat) (s : State) : Option Answer × State :=
  match writeCheck b 0x3011 1 (leBytes 1 v) s with
  | .inr c => (some (.abort c), s)
  | .inl _ => imageCommand v peer s

/-- IMAGE_STAGE. -/
def execImageStage (by_ : Session) (peer : BitVec 8) (s : State) : Out :=
  .next (serve by_ (imageRequest by_ 1 peer.toNat) s)

/-- IMAGE_DISCARD. -/
def execImageDiscard (by_ : Session) (s : State) : Out := .next (serve by_ (imageRequest by_ 2 1) s)

/-- OLC_SWITCH_REQUEST. -/
def execOlcSwitchRequest (by_ : Session) (s : State) : Out := .next (serve by_ (dictWrite by_ 0x3011 2 [1]) s)

/-! ### The gateway (R311) -/

/-- GATEWAY_READ. -/
def execGatewayRead (by_ : Session) (s : State) : Out := .next (serve by_ (dictRead by_ 0x2520 5 0) s)

/-- GATEWAY_WRITE. -/
def execGatewayWrite (by_ : Session) (data : List (BitVec 8)) (s : State) : Out :=
  .next (serve by_ (dictWrite by_ 0x2520 5 data) s)

/-! ### The two-step commit (R395-R399) -/

/-- SAFETY_WRITE. -/
def execSafetyWrite (by_ : Session) (index : BitVec 16) (sub : BitVec 8) (value : List (BitVec 8)) (s : State) : Out :=
  .next (serve by_ (dictWrite by_ index.toNat sub.toNat value) s)

/-- A staged record is refused; a standby that refuses the active's value becomes INTEGRATING (R399). -/
def safetyRefuse (g : Staged) (code : Nat) (s : State) : State :=
  let s1 := klmRefuse code s
  if g.by_ = none then standbyDrop 0x0043 s1 else s1

/-- SAFETY_RESERVE (R397 step 5). -/
def execSafetyReserve (dt : Nat) (s : State) : Out :=
  let s0 := advance dt s
  match s0.kiln.staged with
  | none => .next s0
  | some g =>
    if s0.cys.gap && s0.cys.quiet && s0.cys.resvSafety && s0.kiln.verd && !s0.kiln.applied then
      match verdictRefusal g s0 with
      | some c => .next (safetyRefuse g c s0)
      | none => .next (setKiln (fun k => { k with applied := true }) (safetyApply g.index g.sub (leNat g.value) s0))
    else .next s0

/-- An applied value is stored, recorded and answered (R397 step 6). -/
def safetyStore (g : Staged) (s : State) : State :=
  let v := leNat g.value
  let who := match g.by_ with | some b => (sessPath b, sessId b) | none => (0, 0)
  let s1 := if g.index = 0x3011 then s
    else record 0 0x0046 (g.index * 256 + g.sub) who.1 who.2 (putParam g.index g.sub v s)
  let s2 := klmClear (setKiln (fun k => { k with commits := inc32 k.commits })
    (record 0 0x0042 (g.index * 256 + g.sub) (v % 2 ^ 32) g.seq s1))
  match g.by_ with
  | some b => reply b (.done []) s2
  | none => s2

/-- SAFETY_COMMIT (R397 step 6, R399). -/
def execSafetyCommit (dt : Nat) (s : State) : Out :=
  let s0 := advance dt s
  match s0.kiln.staged with
  | some g => .next (if s0.kiln.applied then safetyStore g s0 else s0)
  | none => .next s0

/-- SAFETY_TIMEOUT (R398, R399). -/
def execSafetyTimeout (dt : Nat) (s : State) : Out :=
  let s0 := advance dt s
  match s0.kiln.staged with
  | some g => .next (if s0.kiln.applied then s0 else safetyRefuse g 0x08000022 s0)
  | none => .next s0

/-- A standby can commit a value of the active (R399). -/
def valueFromActiveGood (idx sub : Nat) (d : List Byte) (s : State) : Bool :=
  match servedEntry s idx sub with
  | some (some e) => e.safety && (valueCheck s idx sub e d).isNone && !combination s idx sub (leNat d) &&
      s.kiln.staged.isNone && (decide (idx ≠ 0x3011 ∨ leNat d ≠ 1) || (switchRefusal s).isNone)
  | _ => false

/-- SAFETY_VALUE_FROM_ACTIVE (R399). -/
def execSafetyValueFromActive (head : TwinHead) (index : BitVec 16) (sub : BitVec 8) (value : List (BitVec 8))
    (s : State) : Out :=
  .next (linkFrame head (fun t =>
    if t.twl.role = .standby ∧ isRun t = true then
      if valueFromActiveGood index.toNat sub.toNat value t then stageSafety none index.toNat sub.toNat value t
      else standbyDrop 0x0043 (record 0 0x0043 (index.toNat * 256 + sub.toNat) 0x08000022 t.kiln.safetySeq t)
    else t) s)

/-! ### The debugger (R403-R405) -/

/-- DEBUG_HALT. -/
def execDebugHalt (by_ : Session) (s : State) : Out := .next (serve by_ (dictWrite by_ 0x2010 2 [1]) s)

/-- DEBUG_RUN. -/
def execDebugRun (by_ : Session) (s : State) : Out := .next (serve by_ (dictWrite by_ 0x2010 2 [2]) s)

/-- DEBUG_STEP. -/
def execDebugStep (by_ : Session) (s : State) : Out := .next (serve by_ (dictWrite by_ 0x2010 2 [3]) s)

/-- Index and subindex of a register of 0x2011 or 0x2013. -/
def debugIndex : DebugReg → Nat × Nat
  | .general n => (0x2011, n.val + 1)
  | .word n => (0x2013, n.val + 1)

/-- DEBUG_REGISTER_ACCESS: a write of `value`, or a read. -/
def execDebugRegisterAccess (by_ : Session) (reg : DebugReg) (value : Option (List (BitVec 8))) (s : State) : Out :=
  let (i, k) := debugIndex reg
  match value with
  | some d => .next (serve by_ (dictWrite by_ i k d) s)
  | none => .next (serve by_ (dictRead by_ i k 0) s)

/-- Length and range of a read of 0x2012 subindex 2. -/
def memReadBad (n : Nat) (s : State) : Option Nat :=
  if 1024 < n then some 0x06070012
  else if n < 4 ∨ n % 4 ≠ 0 then some 0x06070010
  else if debugSpan s n then none else some 0x06090030

/-- A read of `n` octets of 0x2012 subindex 2 (R391, R404). -/
def debugMemGet (b : Session) (n : Nat) (s : State) : Option Answer × State :=
  match readCheck b 0x2012 2 s with
  | .inr c => (some (.abort (if c = 0x08000021 then (memReadBad n s).getD c else c)), s)
  | .inl _ =>
    match memReadBad n s with
    | some c => (some (.abort c), s)
    | none => (some (debugMemAnswer n s), s)

/-- DEBUG_MEMORY_ACCESS: a write of `value`, or a read of `length` octets. -/
def execDebugMemoryAccess (by_ : Session) (length : BitVec 16) (value : Option (List (BitVec 8))) (s : State) : Out :=
  match value with
  | some d => .next (serve by_ (dictWrite by_ 0x2012 2 d) s)
  | none => .next (serve by_ (debugMemGet by_ length.toNat) s)

/-- The core of the target is at the breakpoint (R405). -/
def atBreakpoint (core : Fin 8) (s : State) : Bool :=
  decide (s.kiln.breakpoint ≠ 0) && (targetCores s).contains core && targetExecutes s && !(s.cores[core]).halted &&
    decide ((s.cores[core]).pc.toNat = s.kiln.breakpoint)

/-- DEBUG_BREAKPOINT_HIT. -/
def execDebugBreakpointHit (core : Fin 8) (s : State) : Out :=
  if atBreakpoint core s then .next (haltTarget s) else .next s

/-! ### Blocks and firmware commands (R455-R457), records (R427) -/

/-- FW_BLOCK. -/
def execFwBlock (by_ : Session) (block : BlockIn) (s : State) : Out := .next (serve by_ (blockWrite by_ 0x2A10 0 block) s)

/-- APP_IMAGE_BLOCK. -/
def execAppImageBlock (by_ : Session) (block : BlockIn) (s : State) : Out :=
  .next (serve by_ (blockWrite by_ 0x3010 0 block) s)

/-- SCHEDULE_TABLE_BLOCK. -/
def execScheduleTableBlock (by_ : Session) (block : BlockIn) (s : State) : Out :=
  .next (serve by_ (blockWrite by_ 0x2510 0 block) s)

/-- TRANSFER_ABANDON_TIMEOUT (R455): 30 s without a block. -/
def execTransferAbandonTimeout (dt : Nat) (index : BitVec 16) (s : State) : Out :=
  let s0 := advance dt s
  if index = 0x2A10 then .next (abandonFw s0)
  else if index = 0x3010 then .next (abandonApp s0)
  else if index = 0x2510 then .next (abandonSched s0)
  else if index = 0x2520 then .next (setKiln (fun k => { k with gwIn := none }) s0)
  else .next s0

/-- FLASH_SECTOR_ERASED (R456). -/
def execFlashSectorErased (dt : Nat) (s : State) : Out := .next (fwErased (advance dt s))

/-- FW_ACTIVATE. -/
def execFwActivate (by_ : Session) (s : State) : Out := .next (serve by_ (dictWrite by_ 0x2A11 3 [1]) s)

/-- FW_REVERT. -/
def execFwRevert (by_ : Session) (s : State) : Out := .next (serve by_ (dictWrite by_ 0x2A11 3 [2]) s)

/-- FW_CANCEL_TRANSFER. -/
def execFwCancelTransfer (by_ : Session) (s : State) : Out := .next (serve by_ (dictWrite by_ 0x2A11 3 [3]) s)

/-- FW_CANCEL_ACTIVATION. -/
def execFwCancelActivation (by_ : Session) (s : State) : Out := .next (serve by_ (dictWrite by_ 0x2A11 3 [4]) s)

/-- RECORDER_READ. -/
def execRecorderRead (by_ : Session) (s : State) : Out := .next (serve by_ (dictRead by_ 0x2801 3 0) s)

end Sys2Proof.Machine
end

