-- ==== Sys2Proof/Machine/Records.lean ====
section
/-! DEFINITION. The recorder's own commands (chapter 14), the bandwidth monitors and the counter dumps (chapter 15). -/

namespace Sys2Proof.Machine

/-- The recorder changed. -/
def setRec (f : Recorder → Recorder) (s : State) : State := { s with recd := f s.recd }

/-- The source code of an event that lanes submit (R415). -/
def laneSource (code : Nat) : Nat := if 0x8100 ≤ code ∧ code ≤ 0x8FFF then 10 else 9

/-- EVENT_SUBMIT (R415-R418): from a unit, or as source 10 from the lanes. Source codes 12-14 are reserved. -/
def execEventSubmit (src : Fin 16) (code : BitVec 16) (p0 p1 p2 : BitVec 32) (s : State) : Out :=
  let c := code.toNat
  if s.mod.state = .cold ∨ (12 ≤ src.val ∧ src.val < 15) then .next s
  else if src = 10 then
    let r := submitEvent s.recd (laneSource c) (masterCode s none) c p0.toNat p1.toNat p2.toNat
    .next (setRec (fun _ => { r.1 with evRes := r.2 }) s)
  else .next (record src.val c p0.toNat p1.toNat p2.toNat s)

/-! ### Writing (R412, R418-R421) -/

/-- SHERD_FULL (R412, R425). -/
def sherdEntry (r : Recorder) : RecEntry :=
  { code := 0xF003, p0 := r.headSeq, p1 := 0, p2 := 0, src := 15, priv := false, repeats := 0, optime := r.optime
    pwrcyc := r.pwrcyc % 65536 }

/-- The next entry to write and the recorder without it: SHERD_FULL ahead of the FIFO; the place that becomes free
takes a LOST entry (R412, R418, R419). -/
def nextEntry (r : Recorder) : Option (RecEntry × Recorder) :=
  if r.sherdNext then some (sherdEntry r, r)
  else
    match r.fifo with
    | [] => none
    | e :: rest => some (e, fifoLost { r with fifo := rest })

/-- A torn slot: the octets a cut write left (R419-R421). -/
def tornSlot (r : Recorder) (slot : Nat) (left : List Byte) : Recorder :=
  { r with mram := memWrite r.mram (slotAddr slot) ((left ++ List.replicate 32 0).take 32) }

/-- A rewrite that waits goes before the next record (R420). -/
def settled (r : Recorder) : Recorder := if r.rewrite then rewriteHead r else r

/-- RECORD_WRITE (R419): both phases, or as far as the supply lasted. -/
def execRecordWrite (dt : Nat) (cut : WriteCut) (s : State) : Out :=
  let s0 := advance dt s
  if s0.mod.state = .cold then .next s0
  else
    match nextEntry (settled s0.recd) with
    | none => .next s0
    | some (e, r) =>
      match cut with
      | .complete => .next { s0 with recd := writeRecord r e }
      | .slotTorn left => .next (toCold 1 0 { s0 with recd := tornSlot r (nextSlot r) left })
      | .secondLost => .next (toCold 1 0 { s0 with recd := writeSlot r e })

/-- HEAD_REWRITE (R420): through the shadow, or as far as the supply lasted; a torn shadow holds no record. -/
def execHeadRewrite (dt : Nat) (cut : WriteCut) (s : State) : Out :=
  let s0 := advance dt s
  if s0.mod.state = .cold ∨ s0.recd.rewrite = false then .next s0
  else
    match cut with
    | .complete => .next { s0 with recd := rewriteHead s0.recd }
    | .slotTorn left => .next (toCold 1 0 { s0 with recd := tornSlot (rewriteHead s0.recd) s0.recd.headIndex left })
    | .secondLost => .next (toCold 1 0 { s0 with recd := { s0.recd with shadow := [] } })

/-- OPTIME_SAVE (R413). -/
def execOptimeSave (dt : Nat) (s : State) : Out :=
  let s0 := advance dt s
  if s0.mod.state = .cold then .next s0 else .next (setRec (fun r => { r with savedOptime := r.optime }) s0)

/-- A token for a privileged code, up to its BURST (R417). -/
def refill (code : Nat) (r : Recorder) : Recorder :=
  match r.privileged.find? (fun p => decide (p.1 = code)) with
  | some p => { r with tokens := assocSet r.tokens code (min p.2.1 ((assocGet r.tokens code).getD 0 + 1)) }
  | none => r

/-- TOKEN_REFILL (R417). -/
def execTokenRefill (dt : Nat) (code : BitVec 16) (s : State) : Out :=
  let s0 := advance dt s
  if s0.mod.state = .cold then .next s0 else .next (setRec (refill code.toNat) s0)

/-! ### Monitors and dumps (R434-R437) -/

/-- A window ends for a monitor (R435). -/
def BwMon.close (w : BwMon) : BwMon :=
  let l := w.count / 4 % 2 ^ 32
  { count := 0, last := l, max_ := max w.max_ l }

/-- BANDWIDTH_WINDOW_END (R435): the monitors lie in PD5. -/
def execBandwidthWindowEnd (dt : Nat) (s : State) : Out :=
  let s0 := advance dt s
  if s0.mod.state = .cold ∨ s0.pwr.on.getLsbD 5 = false then .next s0 else .next { s0 with bw := s0.bw.map BwMon.close }

/-- Where a lane's dump goes, if it lies in lane SRAM (R437). -/
def dumpBase (c : Core) : Option Nat :=
  let a := 2 ^ 32 + c.lpc.dumpAddr.toNat / 16 * 16
  if regionOf false a = .sram ∧ regionOf false (a + 191) = .sram then some a else none

/-- The 192 octets of a dump (R437). -/
def dumpOctets (s : State) (c : Core) (seq flags : Nat) : List Byte :=
  let cnt (i : Fin 16) : List Byte := leBytes 8 ((c.lpc.cnt[i]).toNat + 2 ^ 63 * b2n (c.lpc.ovf.getLsbD i.val))
  leBytes 4 seq ++ leBytes 4 flags ++ leBytes 8 s.tim.frc.toNat ++ (allFin 16).flatMap cnt ++
    (allFin 8).flatMap (fun n => leBytes 4 (s.bw[n]).last) ++ leBytes 4 (par s 0x2900 2) ++ leBytes 8 0 ++ leBytes 4 seq

/-- A lane's dump: its address and its octets; none where dumps are stopped or the address is outside lane SRAM. -/
def laneDump (s : State) (flags : Nat) (l : Fin 4) : Option (Nat × List Byte) :=
  let c := s.cores[coreP l]
  if c.lpc.derr then none
  else (dumpBase c).map (fun a => (a, dumpOctets s c (nextSeq c.lpc.dumpSeq) flags))

/-- LPC after a dump, or after a dump that DUMPADDR stops (R437). -/
def Core.dumped (us : Nat) (c : Core) : Core :=
  if c.lpc.derr then c
  else
    match dumpBase c with
    | some _ => { c with lpc := { c.lpc with dumpSeq := nextSeq c.lpc.dumpSeq, dumpUs := some us } }
    | none => { c with lpc := { c.lpc with derr := true } }

/-- Entry `i` of 16 octets of each ACTIVE lane's dump passes the mirror voter as a store does (R83, R437). -/
def dumpEntry (d : Fin 4 → Option (Nat × List Byte)) (i : Nat) (s : State) : State :=
  let e (l : Fin 4) : Option MirrorEntry := (d l).map (fun x =>
    { addr := BitVec.ofNat 40 (x.1 + 16 * i), be := 0xFFFF, data := BitVec.ofNat 128 (leAt x.2 (16 * i) 16) })
  let act := activeLanes s
  let v := decide3 (fun l => entryInput (e l)) act
  let s1 := act.foldl (fun t l => match e l with | some x => applyEntry l x t | none => t) s
  let a := (act.filterMap e).head?.map (fun x => x.addr.toNat) |>.getD 0
  let s2 := mirrorDisagree v (a % 2 ^ 32) (a / 2 ^ 32) s1
  match v with
  | .forward b | .minority _ _ _ b =>
    if b.be = 0 then s2 else mirrorPush { addr := b.addr, be := b.be, data := b.data } s2
  | _ => s2

/-- A dump of the ACTIVE lanes in the order of R437. -/
def dumpLanes (flags : Nat) (s : State) : State :=
  let us := elapsedUs s
  let d := laneDump s flags
  let s1 := (List.range 12).foldl (fun t i => dumpEntry d i t) s
  (activeLanes s).foldl (fun t l => mapCores [coreP l, coreS l] (Core.dumped us) t) s1

/-- The dump of an ACTIVE lane that stands for all: LPC is private, and equal in lanes that agree. -/
def dumpLpc (s : State) : Option Lpc := (activeLanes s).head?.map (fun l => (s.cores[coreP l]).lpc)

/-- A dump has been made in this microsecond (R436). -/
def dumpMade (s : State) : Bool := match dumpLpc s with | some p => decide (p.dumpUs = some (elapsedUs s)) | none => true

/-- A periodic dump falls in this microsecond (R436, R441). -/
def periodicDue (s : State) : Bool :=
  match dumpLpc s with
  | some p => decide (p.dumpPer ≠ 0) && decide (elapsedUs s % max 10 p.dumpPer.toNat = 0)
  | none => false

/-- GAP_DUMP (R152, R153, R436): with both flags where a periodic dump falls in the same microsecond. -/
def execGapDump (dt : Nat) (s : State) : Out :=
  let s0 := advance dt s
  let y := s0.cys
  if y.gap && y.ack && (y.dump || y.movedDump) && isRun s0 then
    let s1 := { s0 with cys := { y with movedDump := false } }
    .next (if dumpMade s1 then s1 else dumpLanes (1 + 2 * b2n (periodicDue s1)) s1)
  else .next s0

/-- PERIODIC_DUMP (R436): none where the same microsecond has had its dump. -/
def execPeriodicDump (dt : Nat) (s : State) : Out :=
  let s0 := advance dt s
  match dumpLpc s0 with
  | some p => .next (if isRun s0 = true ∧ p.dumpPer ≠ 0 ∧ dumpMade s0 = false then dumpLanes 2 s0 else s0)
  | none => .next s0

end Sys2Proof.Machine
end

