-- ==== Sys2Proof/Machine/Replies.lean ====
section
/-! DEFINITION. Frames the Xenex controller receives: replies judged against their window (R279, R286-R292), slots
complete (R289), and acyclic answers (R300-R303). -/

namespace Sys2Proof.Machine

/-! ### Replies (R286-R292) -/

/-- Start and end of the transmit window of a reply, ns from the end of the request (R286). -/
def windowStart : Int := 1900
def windowEnd : Int := 4100

/-- Distance of a reply's start from the nearer window edge, ns; 0 inside the window (R309). -/
def windowOff (after : Int) : Int :=
  if after < windowStart then after - windowStart else if windowEnd < after then after - windowEnd else 0

/-- The channels a frame was accepted on: CHA and CHB of a status word (R290). -/
def copyBits (ga gb : Bool) : Nat := 256 * b2n ga + 512 * b2n gb

/-- The status word of a slot after an accepted reply (R290); NSTATE stays. -/
def replyStat (s : State) (i : Nat) (f : List Byte) (bits : Nat) (late : Bool) : Nat :=
  let fl := leAt f 0 1
  let st := slotStat s i / 16 % 8
  (s.xn.mcycle.toNat % 65536) * 65536 + 4096 * b2n late + 2048 * b2n (fl.testBit 4) + 1024 * b2n (fl.testBit 5) +
    bits + 16 * st + (if leAt f 3 1 = 0 then 2 else 1)

/-- An accepted reply in its slot: payload and status word (R287, R289, R290). -/
def storeReply (i : Nat) (c : XSlot) (f : List Byte) (bits : Nat) (late : Bool) (s : State) : State :=
  let len := leAt f 3 1
  let s1 := if len = 0 then s else vwrite (xnRx + c.rxOff) ((f.drop 5).take len) s
  putStat i (replyStat s i f bits late) s1

/-- The reply to a poll (R287): drift, wrong length, or accepted, in a guard or not. -/
def pollReply (k : Fin 64) (i : Nat) (c : XSlot) (f : List Byte) (bits : Nat) (after : Int) (s : State) : State :=
  let off := windowOff after
  let len := leAt f 3 1
  let late := decide (off ≠ 0)
  let res := if len = 0 then 2 else 1
  if (c.guardNs : Int) < off ∨ off < -(c.guardNs : Int) then
    nodeDrift k i off (setNode k (fun y => { y with lastResult := 5 }) (putResult i 5 s))
  else if len ≠ 0 ∧ len ≠ c.rx then setNode k (fun y => { y with lastResult := 6 }) (putResult i 6 s)
  else
    let s1 := nodeReplied k (setNode k (fun y => { y with lastResult := res }) (storeReply i c f bits late s))
    if late then nodeLate k i off s1 else s1

/-- The reply to a probe (R292): the second in a row brings the node back. -/
def probeReply (k : Fin 64) (c : XSlot) (after : Int) (s : State) : State :=
  let off := windowOff after
  let d := s.xn.nodes[k]
  if (c.guardNs : Int) < off ∨ off < -(c.guardNs : Int) then setNode k (fun y => { y with probes := 0 }) s
  else if 1 ≤ d.probes then
    record 6 0x400A k.val d.count 0 (setNode k (fun y =>
      { y with state := 2, count := 0, probes := 2, driftRun := 0, miss := 0, heard := true }) s)
  else setNode k (fun y => { y with probes := d.probes + 1 }) s

/-- A REPLY reaches a station that has a slot in progress. -/
def replyHeard (f : List Byte) (bits : Nat) (after : Int) (s : State) : State :=
  let src := leAt f 2 1 % 64
  match s.xn.slot with
  | none => s
  | some i =>
    match s.xn.slots[i]?, nodeFin src with
    | some c, some k =>
      let s1 := setXn (fun x => { x with judged := true }) s
      if s.xn.judged then s
      else if s.xn.role = .follower then
        (if s.xn.schMis = false ∧ slotPolled s.xn i = true ∧ slotNode s.xn i = src ∧
            (leAt f 3 1 = 0 ∨ leAt f 3 1 = c.rx) then storeReply i c f bits false s1 else s)
      else
        (match s.xn.req with
        | .poll n => if n = src then pollReply k i c f bits after s1 else s
        | .probe n => if n = src then probeReply k c after s1 else s
        | _ => s)
    | _, _ => s

/-- What each channel counts of a frame (R279, R288): `one` is its own copy, `other` the other channel's acceptance. -/
def chanHeard (k : Fin 2) (one : Option (List Byte)) (good other : Bool) (s : State) : State :=
  if good then chanGood k s
  else
    let s1 := if one.isSome then chanError k s else s
    if other && decide (s.xn.role = .master) then chanMissed k s1 else s1

/-- A copy that is accepted. -/
def copyGood (x : Xenex) : Option (List Byte) → Bool
  | some f => frameAccepted x f
  | none => false

/-- An accepted frame acts by its type (R278, R296); CYCLE_START, ACYC_RESP and CLAIM act by their own commands. -/
def frameActs (f : List Byte) (bits : Nat) (after : Int) (s : State) : State :=
  let ty := leAt f 0 1 % 16
  if ty = 3 then replyHeard f bits after s
  else if ty = 8 ∧ s.xn.role = .master then (masterHears (leAt f 2 1 % 64) false s).2
  else s

/-- XENEX_FRAME_RECEIVED (R273, R279, R287): `a` and `b` are the copies on the channels, `after` the time from the
end of the request to the start of the frame, ns. -/
def execXenexFrameReceived (dt : Nat) (a b : Option (List (BitVec 8))) (after : BitVec 32) (s : State) : Out :=
  let s0 := advance dt s
  if xnLive s0 = false ∨ s0.xn.role = .off then .next s0
  else
    let ga := copyGood s0.xn a
    let gb := copyGood s0.xn b
    let s1 := chanHeard 1 b gb ga (chanHeard 0 a ga gb s0)
    match (if ga then a else if gb then b else none) with
    | some f => .next (frameActs f (copyBits ga gb) (after.toNat : Int) s1)
    | none => .next (if a.isSome ∨ b.isSome then setXn (fun x => { x with rejected := true }) s1 else s1)

/-- SLOT_COMPLETE (R287, R289). -/
def execSlotComplete (dt slot : Nat) (s : State) : Out :=
  let s0 := advance dt s
  if s0.xn.slot = some slot ∧ xnLive s0 = true then
    .next (slotDone slot (if s0.xn.role = .master ∧ s0.xn.judged = false then slotUnanswered slot s0 else s0))
  else .next s0

/-! ### Acyclic answers (R301-R303) -/

/-- A confirmed segment: the transfer goes on or ends (R301). -/
def acycGoOn (a : Acyc) (m : AcycMsg) (s : State) : State :=
  if a.write then
    let rest := a.data.drop 112
    if rest = [] then acycEnd a (.done []) s
    else setXn (fun x => { x with acyc := some { a with data := rest, begun := true, toggle := !a.toggle, tries := 0 } }) s
  else
    let d := a.data ++ m.data
    if m.seg.getLsbD 1 then acycEnd a (.done d) s
    else setXn (fun x => { x with acyc := some { a with data := d, begun := true, toggle := !a.toggle, tries := 0 } }) s

/-- The node's answer to the gateway (R301, R302). -/
def acycAnswered (a : Acyc) (m : AcycMsg) (s : State) : State :=
  if m.tag.toNat ≠ a.tag then acycAbort 0x05030000 s
  else if m.cmd = 9 then s
  else if m.cmd = 7 then
    acycEnd a (.abort m.value.toNat) (setXn (fun x => { x with gwAbort := m.value.toNat }) s)
  else if m.cmd = 8 then
    if m.seg.getLsbD 0 ≠ a.toggle then acycAbort 0x05030000 s else acycGoOn a m s
  else s

/-- A node's own request (R303): one at a time; the second is aborted. -/
def nodeAsks (n : BitVec 6) (m : AcycMsg) (s : State) : State :=
  let add (r : Option Answer) (t : State) : State := setXn (fun x =>
    { x with nodeReqs := x.nodeReqs ++
        [{ node := n.toNat, tag := m.tag.toNat, index := m.index.toNat, sub := m.sub.toNat, answer := r }] }) t
  if s.xn.nodeReqs.any (fun r => decide (r.node = n.toNat)) then add (some (.abort 0x08000022)) s
  else
    let b := Session.node n
    let s0 := fwErased s
    let (r, t) := if m.cmd = 10 then dictRead b m.index.toNat m.sub.toNat 0 s0
      else dictWrite b m.index.toNat m.sub.toNat m.data s0
    match r with
    | some x => replyOnly b x (add r t)
    | none => add none t

/-- ACYC_RESP_RECEIVED: in the slot whose request went to that node. -/
def execAcycRespReceived (node : BitVec 6) (msg : AcycMsg) (s : State) : Out :=
  if s.xn.role ≠ .master ∨ xnLive s = false ∨ s.xn.judged = true then .next s
  else
    let s1 := setXn (fun x => { x with judged := true }) s
    match s.xn.req, s.xn.acyc with
    | .acyc n, some a => .next (if n = node.toNat then acycAnswered a msg s1 else s)
    | .offer n, _ => .next (if n ≠ node.toNat then s else if msg.cmd = 10 ∨ msg.cmd = 11 then nodeAsks node msg s1 else s1)
    | .answer n, _ => .next (if n = node.toNat then s1 else s)
    | _, _ => .next s

/-- ACYC_TIMEOUT (R302): 1 s after the first transmission. -/
def execAcycTimeout (dt : Nat) (s : State) : Out := .next (acycAbort 0x05040000 (advance dt s))

end Sys2Proof.Machine
end

