-- ==== Sys2Proof/Machine/Rotation.lean ====
section
/-! DEFINITION. Bisque rotation, wedging and rewedging (chapter 03). -/

namespace Sys2Proof.Machine

/-- ROTATION_TIMER_EXPIRY (R77): the timer reaches 0 in a RUN state. -/
def execRotationTimerExpiry (dt : Nat) (s : State) : Out :=
  let s1 := advance dt s
  .next (if isRun s1 then rotationExpire s1 else s1)

/-- BISQUE_OVERDUE (R79): an ACTIVE lane without a passed bisque for more than 1,000 h, recorded once a period. -/
def execBisqueOverdue (lane : Fin 4) (s : State) : Out :=
  let x := s.vrc.lanes[lane]
  if x.state = .active ∧ x.overdue = false then
    .next (record 1 0x1019 lane.val (x.bisqueAt % 2 ^ 32) (x.bisqueAt / 2 ^ 32)
      (setLane lane (fun y => { y with overdue := true }) s))
  else .next s

/-- The groups in which state records differ: the spec gives the record's parts but not their places in its entries
(R91), so they are a free value (log 3). -/
def freeGroups (v : Verdict) (n : Nat) : Verdict :=
  match v with
  | .minority l c _ b => .minority l c ((Config.freeWord n).setWidth 13) b
  | .noMajority ls c _ b => .noMajority ls c ((Config.freeWord n).setWidth 13) b
  | x => x

/-- The state records of the ACTIVE lanes are voted in the mirror voter (R93 step 3): a record that differs counts
as a beat of its own. -/
def recordVote (s : State) : Verdict :=
  match activeLanes s with
  | [] => .idle
  | a :: ls =>
    let same (k : Fin 4) : Bool := decide (stateRecord s.cores[coreP k] s.cores[coreP a] =
      stateRecord s.cores[coreP a] s.cores[coreP a])
    let i (k : Fin 4) : LaneInput :=
      if same k then .beat {} else .beat { data := BitVec.ofNat 128 (k.val + 1) }
    decide3 i (a :: ls)

/-- Steps 4-7 of a rewedge (R93): load, invalidate, AREF, the outgoing lane fenced. -/
def rewedgeLoad (r : Rewedge) (s : State) : State :=
  let next := activeAfter r s
  let s1 := invalidateLanes next (loadRecord r.joining s)
  let s2 := { s1 with
    vrc := { s1.vrc with aref := arefOf next }
    rot := { s1.rot with rewedge := some { r with done := true } } }
  match r.out with
  | some x => setLane x (fun y => { y with fenced := true }) s2
  | none => s2

/-- A rewedge whose loaded record reads back wrong (R95): the joining lane goes to QUARANTINE; a swap is cancelled,
a substitution leaves RUN-2oo2. -/
def rewedgeFails (r : Rewedge) (s : State) : State :=
  let s1 := toQuarantine r.joining 0x1015 (wedgeAbort r.joining 4 0 s)
  if s1.vrc.subst then setModState .run2oo2 0x1015 (setVote .oo2 false 0x1015 s1) else s1

/-- REWEDGE (R91-R93, R95). -/
def execRewedge (dt : Nat) (crcOk : Bool) (s : State) : Out :=
  let s0 := advance dt s
  match s0.rot.rewedge with
  | none => .next s0
  | some r =>
    if r.done then .next s0
    else
      let s1 := mirrorDisagree (freeGroups (recordVote s0) s0.drawn) 0 0 { s0 with drawn := s0.drawn + 1 }
      match s1.rot.rewedge with
      | none => .next s1
      | some r1 => if crcOk then .next (rewedgeLoad r1 s1) else .next (rewedgeFails r1 s1)

/-- The outgoing lane starts its bisque at the boundary (R80, R81). -/
def startBisque (l : Fin 4) (s : State) : State :=
  let s1 := setLane l (fun x => { x with state := .bisque, fenced := true, gate := none }) s
  { s1 with rot := { s1.rot with bLane := l, bStep := 1, bResult := 1, bFail := 0, bSlices := 0
                                 bStart := s1.recd.optime, bStepFrc := s1.tim.frc } }

/-- BISQUE_SWAP (R77, R96, R99): the boundary that ends a swap gap. -/
def execBisqueSwap (dt : Nat) (s : State) : Out :=
  let s0 := advance dt s
  match s0.rot.rewedge with
  | some r =>
    match r.out, r.done with
    | some x, true =>
      let s1 := rotationRestart (startBisque x (joinLane r s0))
      .next (raise 48 (record 1 0x1010 x.val r.joining.val r.gate.val
        { s1 with rot := { s1.rot with swaps := inc32 s1.rot.swaps } }))
    | _, _ => .next s0
  | none => .next s0

/-- SUBSTITUTED (R77, R98, R56): the boundary that ends a substitution gap. -/
def execSubstituted (dt : Nat) (s : State) : Out :=
  let s0 := advance dt s
  match s0.rot.rewedge with
  | some r =>
    match r.out, r.done with
    | none, true =>
      let s1 := joinLane r s0
      let s2 := if s1.rot.pend then s1 else rotationRestart s1
      let ex := match r.excluded with | some l => l.val | none => 0xFF
      let s3 := raise 49 (record 1 0x1011 ex r.joining.val r.gate.val
        { s2 with rot := { s2.rot with substitutions := inc32 s2.rot.substitutions, vacant := none } })
      .next (setModState .run2oo3 0x1011 (setVote .oo3 false 0x1011 s3))
    | _, _ => .next s0
  | none => .next s0

/-- A failed injection check of a bisque (R64): recorded, interrupt 37, and the module enters SERVICE. -/
def bisqueInjection (f : InjFail) (s : State) : State :=
  let v := { s.vrc with
    injBisqOk := false, injBisqLane := s.rot.bLane.val, injGroup := f.group.val, injKind := f.kind.val
    injPair := f.pair.val }
  let s1 := { s with vrc := { v with injAtBisq := injReg v } }
  let s2 := bisqueFail 1 0 s1
  enterService 0x1007 (raise 37 (record 1 0x1007 (injReg s2.vrc) 1 0 s2))

/-- A bisque step fails (R81), by its step code. -/
def bisqueStepFails (e : StepEnd) (s : State) : State :=
  let l := s.rot.bLane
  match s.rot.bStep, e with
  | 1, .injection f => bisqueInjection f s
  | 1, _ => bisqueInjection ⟨0, 0, 0⟩ s
  | 3, .lbist true => retire l 2 none 0x1013 (bisqueFail 3 0 s)
  | 3, _ => retire l 1 none 0x1013 (bisqueFail 3 0 s)
  | 5, _ => retire l 3 none 0x1013 (bisqueFail 5 0 s)
  | 6, .march a => retire l 4 (some a.toNat) 0x1013 (bisqueFail 6 (a.toNat % 2 ^ 32) s)
  | 6, _ => retire l 4 none 0x1013 (bisqueFail 6 0 s)
  | k, _ => toQuarantine l 0x1013 (bisqueFail k 0 s)

/-- Every step has passed (R81): BISQUE_PASS, OPTIME kept, memory zero, SPARE. -/
def bisquePasses (s : State) : State :=
  let l := s.rot.bLane
  let s1 := setLane l (fun x => { x with bisqueAt := s.recd.optime, overdue := false }) s
  let s2 := { s1 with
    mems := s1.mems.set (coreP l).val [] (coreP l).isLt
    rot := { s1.rot with bStep := 0, bResult := 2, bSlices := 256 } }
  raise 50 (record 1 0x1012 l.val (s.recd.optime - s.rot.bStart) 0 (becomeSpare l false s2))

/-- A bisque step passes (R80): the next one starts. Step 2 resets the lane; step 1 notes the injection result. -/
def bisqueStepPasses (s : State) : State :=
  let l := s.rot.bLane
  let v := { s.vrc with injBisqOk := true, injBisqLane := l.val, injGroup := 0, injKind := 0, injPair := 0 }
  let s1 := if s.rot.bStep = 1 then { s with vrc := { v with injAtBisq := injReg v } }
    else if s.rot.bStep = 2 then laneReset l s
    else s
  if s.rot.bStep = 6 then bisquePasses s1
  else { s1 with rot := { s1.rot with bStep := s1.rot.bStep + 1, bStepFrc := s1.tim.frc } }

/-- BISQUE_STEP_COMPLETE (R80, R81). -/
def execBisqueStepComplete (dt : Nat) (result : StepEnd) (s : State) : Out :=
  let s0 := advance dt s
  if s0.rot.bStep = 0 then .next s0
  else if result = .pass then .next (bisqueStepPasses s0)
  else .next (bisqueStepFails result s0)

/-- BISQUE_STEP_OVERRUN (R80): as a failure of that step. -/
def execBisqueStepOverrun (dt : Nat) (s : State) : Out :=
  let s0 := advance dt s
  if s0.rot.bStep = 0 then .next s0 else .next (bisqueStepFails .failed s0)

/-- WEDGING_START (R82, R99): the first waiting SPARE lane, in 2oo3 or 2oo2, while no lane is WEDGING or WEDGED. -/
def execWedgingStart (s : State) : Out :=
  match s.rot.waiting with
  | [] => .next s
  | l :: rest =>
    if (s.vrc.mode = .oo3 ∨ s.vrc.mode = .oo2) ∧ spareLane s = none then
      let stale := (s.vrc.lanes[l]).stale
      let s1 := setLane l (fun x => { x with state := .wedging }) s
      .next { s1 with rot := { s1.rot with
        waiting := rest, wLane := l, wPhase := if stale then 1 else 2, wRecopy := 0, wCopy := 0
        wStart := s1.recd.optime * 500000 + s1.recd.subMs, wDiffer := [] } }
    else .next s

/-- ZERO_FILL_DONE (R82): SRAM and DRAM of the lane are zero; the catch-up copy begins. -/
def execZeroFillDone (dt : Nat) (s : State) : Out :=
  let s0 := advance dt s
  if s0.rot.wPhase = 1 then
    let l := s0.rot.wLane
    let s1 := setLane l (fun x => { x with stale := false }) s0
    .next { s1 with
      mems := s1.mems.set (coreP l).val [] (coreP l).isLt
      rot := { s1.rot with wPhase := 2, wCopy := 0 } }
  else .next s0

/-- The pages named of the lowest ACTIVE lane's memory, in the spare's memory (R88, R434). -/
def copyPages (ps : List Nat) (s : State) : State :=
  match activeLanes s with
  | [] => s
  | a :: _ =>
    let l := coreP s.rot.wLane
    let m := memCopyIf (fun k => decide (pageOf k ∈ ps)) s.mems[l] s.mems[coreP a]
    bwCount 2 (65536 * ps.length) { s with mems := s.mems.set l.val m l.isLt }

/-- A page vote that disagrees (R89): under R84, with GROUPS = 0. -/
def pageDisagree (v : PageVote) (s : State) : State :=
  match v with
  | .agree => s
  | .minority l p =>
    if laneState s l = .active ∧ s.vrc.mode = .oo3 then mirrorDisagree (.minority l 1 0 {}) p 0 s
    else mirrorDisagree (.noMajority (activeLanes s) 1 0 {}) p 0 s
  | .none p => mirrorDisagree (.noMajority (activeLanes s) 1 0 {}) p 0 s

/-- CATCH_UP_COPY_DONE (R88): every marked page has been copied; the checksum round begins. A disagreement of the
ACTIVE lanes in the copied pages acts under R84. -/
def execCatchUpCopyDone (dt : Nat) (vote : PageVote) (s : State) : Out :=
  let s0 := advance dt s
  if s0.rot.wPhase = 2 then
    let s1 := pageDisagree vote s0
    if s1.rot.wPhase = 2 then
      let s2 := copyPages s1.rot.pages (drainMirror s1.rot.fifo.length s1)
      .next { s2 with rot := { s2.rot with wPhase := 3, wCopy := 0 } }
    else .next s1
  else .next s0

/-- The lane becomes WEDGED (R89): LANE_WEDGED with the wedging time to the nearest ms (DEDUCED, log 36), and interrupt 52. -/
def becomeWedged (s : State) : State :=
  let l := s.rot.wLane
  let ms := (s.recd.optime * 500000 + s.recd.subMs - s.rot.wStart + 250000) / 500000
  let s1 := setLane l (fun x => { x with state := .wedged }) s
  raise 52 (record 1 0x1014 l.val ms s.rot.pages.length
    { s1 with rot := { s1.rot with wPhase := 5, lastWedge := min 0xFFFFFFFF ms } })

/-- The pages in which the spare differs from the majority after the round (R89): the first difference of a page has
it copied and checked again, the second aborts the wedging. -/
def checksumDiffer (differ : List Nat) (s : State) : State :=
  match differ.find? (fun p => decide (p ∈ s.rot.wDiffer)) with
  | some p => toQuarantine s.rot.wLane 0x1015 (wedgeAbort s.rot.wLane 1 p s)
  | none =>
    let s1 := copyPages differ (drainMirror s.rot.fifo.length s)
    { s1 with rot := { s1.rot with
        wPhase := 4, wDiffer := s1.rot.wDiffer ++ differ, wRecopy := satAdd 255 s1.rot.wRecopy differ.length } }

/-- CHECKSUM_ROUND_DONE (R89, R434). -/
def execChecksumRoundDone (dt : Nat) (vote : PageVote) (differ : List Nat) (s : State) : Out :=
  let s0 := advance dt s
  if s0.rot.wPhase = 3 ∨ s0.rot.wPhase = 4 then
    let n := if s0.rot.wPhase = 3 then s0.rot.pages.length else s0.rot.wDiffer.length
    let s1 := pageDisagree vote (bwCount 2 (65536 * n) s0)
    if s1.rot.wPhase = 3 ∨ s1.rot.wPhase = 4 then
      if differ = [] then
        .next (becomeWedged { s1 with rot := { s1.rot with wCopy := s1.rot.pages.length } })
      else .next (checksumDiffer differ s1)
    else .next s1
  else .next s0

/-- MIRROR_HOLD_RELEASE (R85): the fill has fallen to 2,048 entries. -/
def execMirrorHoldRelease (dt : Nat) (s : State) : Out :=
  let s0 := advance dt s
  if s0.rot.hold then
    let n := s0.rot.fifo.length - 2048
    .next (drainMirror n { s0 with rot := { s0.rot with holdCounts := s0.rot.holdCounts + n } })
  else .next s0

end Sys2Proof.Machine
end

