-- ==== Sys2Proof/Machine/Y64Acts.lean ====
section
/-! DEFINITION. What each instruction of the Y64 set does in one core (R112-R133), and the decoding of an
instruction word (R112-R115). -/

namespace Sys2Proof.Machine

/-- An illegal encoding (R112). -/
def illegalAct (_ : State) (_ : Fin 8) : Act := .trap 1 0 none

/-- xd takes a value. -/
def toX (d : Fin 32) (f : Core → Reg64) (s : State) (k : Fin 8) : Act :=
  let c := s.cores[k]
  .done (c.setX d (f c)).retire

/-- OPR (R114). -/
def aluAct (op : AluOp) (d a b : Fin 32) : State → Fin 8 → Act := toX d (fun c => aluOp op (c.getX a) (c.getX b))

/-- OPRW (R114). -/
def aluwAct (op : AluwOp) (d a b : Fin 32) : State → Fin 8 → Act := toX d (fun c => aluwOp op (c.getX a) (c.getX b))

/-- Multiplications (R114). -/
def mulAct (op : MulOp) (d a b : Fin 32) : State → Fin 8 → Act := toX d (fun c => mulOp op (c.getX a) (c.getX b))

/-- Clocks a division keeps the divider busy (R138). -/
def divClocks : DivOp → Nat
  | .div | .divu | .rem | .remu => 34
  | _ => 18

/-- Divisions: cause 14 on a divisor of 0 with DZT = 1 (R116). -/
def divAct (op : DivOp) (d a b : Fin 32) (s : State) (k : Fin 8) : Act :=
  let c := s.cores[k]
  if divZero op (c.getX b) && c.dzt then .trap 14 0 none
  else .done ((c.event 0x13 (divClocks op)).setX d (divOp op (c.getX a) (c.getX b))).retire

/-- BITOP (R114, R116). -/
def bitAct (op : BitOp) (d a b : Fin 32) : State → Fin 8 → Act := toX d (fun c => bitOp op (c.getX a) (c.getX b))

/-- Immediate operations (R115). -/
def immAct (op : ImmOp) (d a : Fin 32) (imm : BitVec 16) : State → Fin 8 → Act :=
  toX d (fun c => immOp op (c.getX a) imm)

/-- SHI (R115): with W = 1 shamt[5] must be 0. -/
def shiftAct (op : ShiftOp) (word : Bool) (d a : Fin 32) (n : BitVec 6) : State → Fin 8 → Act :=
  if word && n.getLsbD 5 then illegalAct else toX d (fun c => shiftOp op word (c.getX a) n.toNat)

/-- LUI, INSH, LAPC (R115). -/
def luiAct (d : Fin 32) (imm : BitVec 16) : State → Fin 8 → Act := toX d (fun _ => sext16 imm <<< 16)

def inshAct (d : Fin 32) (h : Fin 4) (imm : BitVec 16) : State → Fin 8 → Act :=
  toX d (fun c => insertHalf (c.getX d) h.val imm)

def lapcAct (d : Fin 32) (imm : BitVec 16) : State → Fin 8 → Act := toX d (fun c => c.pc + (sext16 imm <<< 16))

/-- Loads; LDP needs an even d (R115). -/
def loadInstr (op : LoadOp) (d a : Fin 32) (disp : BitVec 16) (s : State) (k : Fin 8) : Act :=
  let c := s.cores[k]
  if op = .ldp ∧ d.val % 2 = 1 then illegalAct s k else loadAct s k c.exec (c.getX a + sext16 disp) op d

/-- The value a store writes. -/
def storeValue (op : StoreOp) (d : Fin 32) (c : Core) : Nat :=
  match op with
  | .fsw | .fsd => (c.getF d).toNat
  | .stp => (c.getX d).toNat + (c.getX (d + 1)).toNat * 2 ^ 64
  | _ => (c.getX d).toNat

/-- Stores; STP needs an even d (R115). -/
def storeInstr (op : StoreOp) (d a : Fin 32) (disp : BitVec 16) (s : State) (k : Fin 8) : Act :=
  let c := s.cores[k]
  if op = .stp ∧ d.val % 2 = 1 then illegalAct s k
  else storeAct s k c.exec (c.getX a + sext16 disp) (storeSize op) (storeValue op d c)

/-- LDX and STX (R128). -/
def ldxInstr (dbl : Bool) (d a : Fin 32) (s : State) (k : Fin 8) : Act := ldxAct s k dbl d ((s.cores[k]).getX a)

def stxInstr (dbl : Bool) (d a b : Fin 32) (s : State) (k : Fin 8) : Act :=
  stxAct s k dbl d ((s.cores[k]).getX a) ((s.cores[k]).getX b)

/-! ### Floating point (R106, R117) -/

/-- The bits of an operand in its precision. -/
def fpBits (dbl : Bool) (v : Reg64) : Nat := if dbl then v.toNat else v.toNat % 2 ^ 32

/-- fd takes a result and the sticky flags follow. -/
def toF (c : Core) (d : Fin 32) (r : Nat × FFlags) : Act :=
  let c1 := c.setF d (BitVec.ofNat 64 r.1)
  .done (c1.setWord 8 (c1.word 8 ||| r.2.word)).retire

/-- xd takes a result and the sticky flags follow. -/
def toXFlags (c : Core) (d : Fin 32) (v : Reg64) (g : FFlags) : Act :=
  let c1 := c.setX d v
  .done (c1.setWord 8 (c1.word 8 ||| g.word)).retire

/-- FPOP (R114, R117). -/
def fpAct (op : FpOp) (dbl : Bool) (d a b : Fin 32) (s : State) (k : Fin 8) : Act :=
  let c := s.cores[k]
  let m := fmtOf dbl
  let rm := rmOf ((c.word 8).toNat % 8)
  let wa := fpBits dbl (c.getF a)
  let wb := fpBits dbl (c.getF b)
  let fa := unpack m wa
  let fb := unpack m wb
  let top := m.frac + m.expo
  let rel (q lt eq : Bool) : Act :=
    let (r, g) := fpCompare q lt eq fa fb
    toXFlags c d (flag64 r) g
  let toInt (lo hi : Int) : Act :=
    let (v, g) := fpToInt rm lo hi fa
    toXFlags c d (BitVec.ofInt 64 v) g
  match op with
  | .fadd => toF c d (fpAdd m rm fa fb)
  | .fsub => toF c d (fpAdd m rm fa fb.opp)
  | .fmul => toF c d (fpMul m rm fa fb)
  | .fdiv => toF c d (fpDiv m rm fa fb)
  | .fsqrt => toF c d (fpSqrt m rm fa)
  | .fmin => toF c d (fpMinMax m false wa wb)
  | .fmax => toF c d (fpMinMax m true wa wb)
  | .fneg => toF c d (Nat.xor wa (2 ^ top), {})
  | .fabs => toF c d (wa % 2 ^ top, {})
  | .fcpys => toF c d (wa % 2 ^ top + wb / 2 ^ top * 2 ^ top, {})
  | .feq => rel true false true
  | .flt => rel false true false
  | .fle => rel false true true
  | .fclass => toXFlags c d (BitVec.ofNat 64 (fpClass m wa)) {}
  | .fcvtL => toInt (-9223372036854775808) 9223372036854775807
  | .fcvtLu => toInt 0 18446744073709551615
  | .fcvtW => toInt (-2147483648) 2147483647
  | .fcvtWu => toInt 0 4294967295
  | .fcvtfL => toF c d (fpOfInt m rm (c.getX a).toInt)
  | .fcvtfLu => toF c d (fpOfInt m rm (c.getX a).toNat)
  | .fcvtfW => toF c d (fpOfInt m rm (lowW (c.getX a)).toInt)
  | .fcvtfWu => toF c d (fpOfInt m rm (lowW (c.getX a)).toNat)
  | .fcvtp => toF c d (fpConvert m rm (unpack (fmtOf (!dbl)) (fpBits (!dbl) (c.getF a))))
  | .fmvxf => toXFlags c d (BitVec.ofNat 64 wa) {}
  | .fmvfx => toF c d (fpBits dbl (c.getX a), {})

/-- FMA (R115): one rounding. -/
def fmaAct (op : FmaOp) (dbl : Bool) (d a b r : Fin 32) (s : State) (k : Fin 8) : Act :=
  let c := s.cores[k]
  let m := fmtOf dbl
  let rm := rmOf ((c.word 8).toNat % 8)
  let f (i : Fin 32) : Fp := unpack m (fpBits dbl (c.getF i))
  match op with
  | .fmadd => toF c d (fpFma m rm (f a) (f b) (f r))
  | .fmsub => toF c d (fpFma m rm (f a) (f b) (f r).opp)
  | .fnmadd => toF c d (fpFma m rm (f a).opp (f b) (f r).opp)
  | .fnmsub => toF c d (fpFma m rm (f a).opp (f b) (f r))

/-! ### Control flow (R115, R119) -/

/-- A taken branch or jump. -/
def jumpTo (c : Core) (t : Reg64) : Act := .done ((c.event 0x0C 1).retireAt t)

/-- BEQ-BGEU. -/
def branchAct (q : Cond) (d a : Fin 32) (off : BitVec 16) (s : State) (k : Fin 8) : Act :=
  let c := s.cores[k]
  if condHolds q (c.getX d) (c.getX a) then jumpTo c (c.pc + sext16 off * 4) else .done c.retire

/-- J and JL. -/
def jumpAct (link : Bool) (off : BitVec 26) (s : State) (k : Fin 8) : Act :=
  let c := s.cores[k]
  jumpTo (if link then c.setX 1 (c.pc + 4) else c) (c.pc + off.signExtend 64 * 4)

/-- JLR: cause 3 on a misaligned target. -/
def jlrAct (d a : Fin 32) (imm : BitVec 16) (s : State) (k : Fin 8) : Act :=
  let c := s.cores[k]
  let t := c.getX a + sext16 imm
  if t.toNat % 4 ≠ 0 then .trap 3 0 (some t) else jumpTo (c.setX d (c.pc + 4)) t

/-! ### System instructions (R108, R110, R122, R127, R130-R133) -/

/-- The number CW_COREID shows: the core's own in WIDE, 0 in voted operation. -/
def coreId (s : State) (k : Fin 8) : Nat := if s.vrc.mode = .split then k.val else 0

/-- The exception of a control-word access: an unknown number, or one not open at the level. -/
def wordTrap (c : Core) (n : Nat) (wr : Bool) : Option Act :=
  if wordExists n = false then some (.trap 1 0 none)
  else if (if wr then wordWritable c.exec n else wordReadable c.exec n) = false then some (.trap 2 0 none)
  else none

/-- A control word written: words 13-15 are cache-lock operations (R122). -/
def wordWrite (c : Core) (n : Nat) (v : Reg64) : Act :=
  let c1 := (c.writeWord n v).retire
  if n = 13 ∨ n = 14 ∨ n = 15 then .lock c1 else .done c1

/-- CWR. -/
def cwrAct (d : Fin 32) (n : BitVec 16) (s : State) (k : Fin 8) : Act :=
  let c := s.cores[k]
  match wordTrap c n.toNat false with
  | some t => t
  | none => .done (c.setX d (c.readWord (coreId s k) n.toNat)).retire

/-- CWW. -/
def cwwAct (a : Fin 32) (n : BitVec 16) (s : State) (k : Fin 8) : Act :=
  let c := s.cores[k]
  match wordTrap c n.toNat true with
  | some t => t
  | none => wordWrite c n.toNat (c.getX a)

/-- CWS and CWC: the old value into xd, bits set or cleared. -/
def cwModAct (clear : Bool) (d a : Fin 32) (n : BitVec 16) (s : State) (k : Fin 8) : Act :=
  let c := s.cores[k]
  match wordTrap c n.toNat true with
  | some t => t
  | none =>
    let old := c.readWord (coreId s k) n.toNat
    let x := c.getX a
    wordWrite (c.setX d old) n.toNat (if clear then old &&& ~~~x else old ||| x)

/-- FENCE (R127): the buffers go first, then a barrier beat. -/
def fenceAct (s : State) (k : Fin 8) : Act :=
  let c := s.cores[k]
  if c.sbuf ≠ [] ∨ c.cbuf.isSome = true then .need c.sbuf.length c.cbuf.isSome
  else .access { ty := .barrier, addr := 0 } c.exec .store

/-- FENCE.I (R127): what was fetched ahead is discarded, which no state shows. -/
def fenceIAct (s : State) (k : Fin 8) : Act := .done (s.cores[k]).retire

/-- A privileged instruction. -/
def privileged (f : State → Fin 8 → Act) (s : State) (k : Fin 8) : Act :=
  if (s.cores[k]).exec then f s k else .trap 2 0 none

/-- ERET (R132): the combining buffer goes first (R124). -/
def eretAct (s : State) (k : Fin 8) : Act :=
  let c := s.cores[k]
  if c.cbuf.isSome then .need 0 true
  else
    let c1 := (c.retire).eret
    .done c1

/-- WFI (R133). -/
def wfiAct (s : State) (k : Fin 8) : Act := .done ({ (s.cores[k]).retire with wfi := true }).wake

/-- BREAK and SYSCALL (R130). -/
def breakAct (_ : State) (_ : Fin 8) : Act := .trap 13 0 none

def syscallAct (imm : BitVec 16) (_ : State) (_ : Fin 8) : Act := .trap 12 imm.toNat none

/-- ICINV, DCINV, ICINVA, DCINVA (R122). -/
def cacheAct (op : CacheOp) (a : Fin 32) (s : State) (k : Fin 8) : Act :=
  let c := s.cores[k]
  .done (c.invalidate op (c.getX a).toNat).retire

/-! ### Decoding (R112-R115) -/

/-- A field of an instruction word. -/
def fieldOf (w : BitVec 32) (lo n : Nat) : Nat := (w.toNat / 2 ^ lo) % 2 ^ n

/-- A register field. -/
def regField (w : BitVec 32) (lo : Nat) : Fin 32 := ⟨fieldOf w lo 5, by simp only [fieldOf]; omega⟩

/-- OPR operations by FN. -/
def aluOf (n : Nat) : Option AluOp :=
  [AluOp.add, .sub, .and, .or, .xor, .andn, .orn, .xnor, .sll, .srl, .sra, .ror, .slt, .sltu, .min, .max, .minu,
   .maxu, .czeq, .czne][n]?

/-- OPRW operations by FN. -/
def aluwOf (n : Nat) : Option AluwOp :=
  if n = 0 then some .addw else if n = 1 then some .subw else if n = 8 then some .sllw else if n = 9 then some .srlw
  else if n = 10 then some .sraw else if n = 11 then some .rorw else none

/-- MULDIV by FN: a multiplication or a division. -/
def mulOf (n : Nat) : Option MulOp := [MulOp.mul, .mulh, .mulhu, .mulhsu, .mulw][n]?

def divOf (n : Nat) : Option DivOp :=
  if n < 8 then none else [DivOp.div, .divu, .rem, .remu, .divw, .divuw, .remw, .remuw][n - 8]?

/-- BITOP by FN, and whether field B is used. -/
def bitOf (n : Nat) : Option (BitOp × Bool) :=
  if n < 10 then
    ([BitOp.clz, .ctz, .popc, .bswap, .sextb, .sexth, .sextw, .zextb, .zexth, .zextw][n]?).map (fun o => (o, false))
  else if n = 16 then some (.extu, true) else if n = 17 then some (.exts, true) else none

/-- FPOP by FN[9:0], and whether field B is used. -/
def fpOf (n : Nat) : Option (FpOp × Bool) :=
  if n < 0x0A then
    [(FpOp.fadd, true), (.fsub, true), (.fmul, true), (.fdiv, true), (.fsqrt, false), (.fmin, true), (.fmax, true),
     (.fneg, false), (.fabs, false), (.fcpys, true)][n]?
  else if 0x10 ≤ n ∧ n < 0x14 then [(FpOp.feq, true), (.flt, true), (.fle, true), (.fclass, false)][n - 0x10]?
  else if 0x20 ≤ n ∧ n < 0x29 then
    ([FpOp.fcvtL, .fcvtLu, .fcvtW, .fcvtWu, .fcvtfL, .fcvtfLu, .fcvtfW, .fcvtfWu, .fcvtp][n - 0x20]?).map
      (fun o => (o, false))
  else if n = 0x30 then some (.fmvxf, false) else if n = 0x31 then some (.fmvfx, false) else none

/-- The M-format loads and stores by MAJ. -/
def loadOf (m : Nat) : Option LoadOp :=
  if 0x18 ≤ m ∧ m < 0x20 then [LoadOp.ldb, .ldbu, .ldh, .ldhu, .ldw, .ldwu, .ldd, .ldp][m - 0x18]?
  else if m = 0x26 then some .flw else if m = 0x27 then some .fld else none

def storeOf (m : Nat) : Option StoreOp :=
  if 0x20 ≤ m ∧ m < 0x25 then [StoreOp.stb, .sth, .stw, .std, .stp][m - 0x20]?
  else if m = 0x28 then some .fsw else if m = 0x29 then some .fsd else none

/-- A-format words. -/
def decodeA (w : BitVec 32) : Option (State → Fin 8 → Act) :=
  let m := fieldOf w 0 6
  let fn := fieldOf w 21 11
  let d := regField w 6
  let a := regField w 11
  let b := regField w 16
  if m = 0x01 then (aluOf fn).map (fun o => aluAct o d a b)
  else if m = 0x02 then (aluwOf fn).map (fun o => aluwAct o d a b)
  else if m = 0x03 then
    match mulOf fn with
    | some o => some (mulAct o d a b)
    | none => (divOf fn).map (fun o => divAct o d a b)
  else if m = 0x04 then
    (bitOf fn).bind (fun o => if o.2 || decide (b = 0) then some (bitAct o.1 d a b) else none)
  else if m = 0x25 then
    if fn < 2 then (if b = 0 then some (ldxInstr (decide (fn = 1)) d a) else none)
    else if fn < 4 then some (stxInstr (decide (fn = 3)) d a b) else none
  else if m = 0x2A then
    (fpOf (fn % 1024)).bind (fun o => if o.2 || decide (b = 0) then some (fpAct o.1 (decide (1024 ≤ fn)) d a b) else none)
  else if m = 0x39 then
    if d ≠ 0 ∨ a ≠ 0 ∨ b ≠ 0 then none else if fn = 0 then some fenceAct else if fn = 1 then some fenceIAct else none
  else if m = 0x3A then
    if fn < 3 then
      if d ≠ 0 ∨ a ≠ 0 ∨ b ≠ 0 then none
      else if fn = 0 then some (privileged eretAct) else if fn = 1 then some (privileged wfiAct) else some breakAct
    else if d ≠ 0 ∨ b ≠ 0 then none
    else if fn = 0x10 then some (privileged (cacheAct .icinv a))
    else if fn = 0x11 then some (privileged (cacheAct .dcinv a))
    else if fn = 0x12 ∧ a = 0 then some (privileged (cacheAct .icinva 0))
    else if fn = 0x13 ∧ a = 0 then some (privileged (cacheAct .dcinva 0))
    else none
  else none

/-- I-, S-, B-, J- and Q-format words. -/
def decodeI (w : BitVec 32) : Option (State → Fin 8 → Act) :=
  let m := fieldOf w 0 6
  let d := regField w 6
  let a := regField w 11
  let b := regField w 16
  let imm := BitVec.ofNat 16 (fieldOf w 16 16)
  let imop : Option ImmOp := [ImmOp.addi, .addiw, .andi, .ori, .xori, .slti, .sltiu][m - 0x08]?
  let shop : ShiftOp := if fieldOf w 22 2 = 0 then .slli else if fieldOf w 22 2 = 1 then .srli
    else if fieldOf w 22 2 = 2 then .srai else .rori
  let cond : Cond := if m = 0x30 then .eq else if m = 0x31 then .ne else if m = 0x32 then .lt else if m = 0x33 then .ge
    else if m = 0x34 then .ltu else .geu
  let fop : FmaOp := if fieldOf w 26 2 = 0 then .fmadd else if fieldOf w 26 2 = 1 then .fmsub
    else if fieldOf w 26 2 = 2 then .fnmadd else .fnmsub
  if 0x08 ≤ m ∧ m < 0x0F then imop.map (fun o => immAct o d a imm)
  else if m = 0x0F then
    if fieldOf w 25 7 ≠ 0 ∨ (fieldOf w 24 1 = 1 ∧ 32 ≤ fieldOf w 16 6) then none
    else some (shiftAct shop (decide (fieldOf w 24 1 = 1)) d a (BitVec.ofNat 6 (fieldOf w 16 6)))
  else if m = 0x10 then (if a = 0 then some (luiAct d imm) else none)
  else if m = 0x11 then
    if h : a.val < 4 then some (inshAct d ⟨a.val, h⟩ imm) else none
  else if m = 0x12 then (if a = 0 then some (lapcAct d imm) else none)
  else if m = 0x2B then
    if fieldOf w 29 3 ≠ 0 then none else some (fmaAct fop (decide (fieldOf w 28 1 = 1)) d a b (regField w 21))
  else if 0x30 ≤ m ∧ m < 0x36 then some (branchAct cond d a imm)
  else if m = 0x36 ∨ m = 0x37 then some (jumpAct (decide (m = 0x37)) (BitVec.ofNat 26 (fieldOf w 6 26)))
  else if m = 0x38 then some (jlrAct d a imm)
  else if m = 0x3B then (if a = 0 then some (cwrAct d imm) else none)
  else if m = 0x3C then (if d = 0 then some (cwwAct a imm) else none)
  else if m = 0x3D then some (cwModAct false d a imm)
  else if m = 0x3E then some (cwModAct true d a imm)
  else if m = 0x3F then (if d = 0 ∧ a = 0 then some (syscallAct imm) else none)
  else none

/-- The meaning of an instruction word; none where it is illegal (R112). -/
def decodeWord (w : BitVec 32) : Option (State → Fin 8 → Act) :=
  let m := fieldOf w 0 6
  let d := regField w 6
  let a := regField w 11
  let imm := BitVec.ofNat 16 (fieldOf w 16 16)
  match loadOf m with
  | some o => if o = .ldp ∧ d.val % 2 = 1 then none else some (loadInstr o d a imm)
  | none =>
    match storeOf m with
    | some o => if o = .stp ∧ d.val % 2 = 1 then none else some (storeInstr o d a imm)
    | none =>
      match decodeA w with
      | some f => some f
      | none => decodeI w

/-- An instruction word that is illegal: its encoding, or a reserved control-word number (R110, R112). -/
def wordIllegal (w : BitVec 32) : Bool :=
  let m := fieldOf w 0 6
  (decodeWord w).isNone || (decide (0x3B ≤ m ∧ m ≤ 0x3E) && !wordExists (fieldOf w 16 16))

/-- The instruction word at PC, as lane memory holds it. -/
def wordAtPc (s : State) (k : Fin 8) : BitVec 32 := BitVec.ofNat 32 (leNat (memRead s.mems[k] (s.cores[k]).pc.toNat 4))

/-- The instruction at PC (R405: a step of the debugger). -/
def stepAct (s : State) (k : Fin 8) : Act :=
  match decodeWord (wordAtPc s k) with
  | some f => f s k
  | none => illegalAct s k

end Sys2Proof.Machine
end

