-- ==== Sys2Proof/Machine/Y64.lean ====
section
/-! DEFINITION. The commands of the Y64 cores (chapter 04) and the register commands of the lane-local blocks. -/

namespace Sys2Proof.Machine

/-- OPR_ALU (R114). -/
def execOprAlu (core : Fin 8) (op : AluOp) (d a b : Fin 32) (s : State) : Out := .next (runTask core (aluAct op d a b) s)

/-- OPRW_WORD_OP (R114). -/
def execOprwWordOp (core : Fin 8) (op : AluwOp) (d a b : Fin 32) (s : State) : Out :=
  .next (runTask core (aluwAct op d a b) s)

/-- MULTIPLY (R114). -/
def execMultiply (core : Fin 8) (op : MulOp) (d a b : Fin 32) (s : State) : Out := .next (runTask core (mulAct op d a b) s)

/-- DIVIDE (R116). -/
def execDivide (core : Fin 8) (op : DivOp) (d a b : Fin 32) (s : State) : Out := .next (runTask core (divAct op d a b) s)

/-- BITOP (R114, R116). -/
def execBitop (core : Fin 8) (op : BitOp) (d a b : Fin 32) (s : State) : Out := .next (runTask core (bitAct op d a b) s)

/-- ALU_IMMEDIATE (R115). -/
def execAluImmediate (core : Fin 8) (op : ImmOp) (d a : Fin 32) (imm : BitVec 16) (s : State) : Out :=
  .next (runTask core (immAct op d a imm) s)

/-- SHIFT_IMMEDIATE (R115). -/
def execShiftImmediate (core : Fin 8) (op : ShiftOp) (word : Bool) (d a : Fin 32) (shamt : BitVec 6) (s : State) : Out :=
  .next (runTask core (shiftAct op word d a shamt) s)

/-- LUI (R115). -/
def execLui (core : Fin 8) (d : Fin 32) (imm : BitVec 16) (s : State) : Out := .next (runTask core (luiAct d imm) s)

/-- INSH (R115). -/
def execInsh (core : Fin 8) (d : Fin 32) (k : Fin 4) (imm : BitVec 16) (s : State) : Out :=
  .next (runTask core (inshAct d k imm) s)

/-- LAPC (R115). -/
def execLapc (core : Fin 8) (d : Fin 32) (imm : BitVec 16) (s : State) : Out := .next (runTask core (lapcAct d imm) s)

/-- LOAD (R115, R118, R121-R125). -/
def execLoad (core : Fin 8) (op : LoadOp) (d a : Fin 32) (disp : BitVec 16) (s : State) : Out :=
  .next (runTask core (loadInstr op d a disp) s)

/-- STORE (R115, R118, R121-R125). -/
def execStore (core : Fin 8) (op : StoreOp) (d a : Fin 32) (disp : BitVec 16) (s : State) : Out :=
  .next (runTask core (storeInstr op d a disp) s)

/-- LDX (R128). -/
def execLdx (core : Fin 8) (dbl : Bool) (d a : Fin 32) (s : State) : Out := .next (runTask core (ldxInstr dbl d a) s)

/-- STX (R128). -/
def execStx (core : Fin 8) (dbl : Bool) (d a b : Fin 32) (s : State) : Out := .next (runTask core (stxInstr dbl d a b) s)

/-- FP_OPERATION (R114, R117). -/
def execFpOperation (core : Fin 8) (op : FpOp) (dbl : Bool) (d a b : Fin 32) (s : State) : Out :=
  .next (runTask core (fpAct op dbl d a b) s)

/-- FMA (R115, R117). -/
def execFma (core : Fin 8) (op : FmaOp) (dbl : Bool) (d a b c : Fin 32) (s : State) : Out :=
  .next (runTask core (fmaAct op dbl d a b c) s)

/-- BRANCH (R115). -/
def execBranch (core : Fin 8) (cond : Cond) (d a : Fin 32) (off : BitVec 16) (s : State) : Out :=
  .next (runTask core (branchAct cond d a off) s)

/-- J_JL (R115). -/
def execJJl (core : Fin 8) (link : Bool) (off : BitVec 26) (s : State) : Out := .next (runTask core (jumpAct link off) s)

/-- JLR (R119). -/
def execJlr (core : Fin 8) (d a : Fin 32) (imm : BitVec 16) (s : State) : Out := .next (runTask core (jlrAct d a imm) s)

/-- CWR (R108, R110). -/
def execCwr (core : Fin 8) (d : Fin 32) (n : BitVec 16) (s : State) : Out := .next (runTask core (cwrAct d n) s)

/-- CWW (R108, R110). -/
def execCww (core : Fin 8) (a : Fin 32) (n : BitVec 16) (s : State) : Out := .next (runTask core (cwwAct a n) s)

/-- CWS (R115). -/
def execCws (core : Fin 8) (d a : Fin 32) (n : BitVec 16) (s : State) : Out :=
  .next (runTask core (cwModAct false d a n) s)

/-- CWC (R115). -/
def execCwc (core : Fin 8) (d a : Fin 32) (n : BitVec 16) (s : State) : Out :=
  .next (runTask core (cwModAct true d a n) s)

/-- FENCE (R127). -/
def execFence (core : Fin 8) (s : State) : Out := .next (runTask core fenceAct s)

/-- FENCE_I (R127). -/
def execFenceI (core : Fin 8) (s : State) : Out := .next (runTask core fenceIAct s)

/-- ERET (R108, R132). -/
def execEret (core : Fin 8) (s : State) : Out := .next (runTask core (privileged eretAct) s)

/-- WFI (R108, R133). -/
def execWfi (core : Fin 8) (s : State) : Out := .next (runTask core (privileged wfiAct) s)

/-- BREAK (R130). -/
def execBreakInstr (core : Fin 8) (s : State) : Out := .next (runTask core breakAct s)

/-- CACHE_INVALIDATE (R108, R122). -/
def execCacheInvalidate (core : Fin 8) (op : CacheOp) (a : Fin 32) (s : State) : Out :=
  .next (runTask core (privileged (cacheAct op a)) s)

/-- SYSCALL (R115). -/
def execSyscall (core : Fin 8) (imm : BitVec 16) (s : State) : Out := .next (runTask core (syscallAct imm) s)

/-- ILLEGAL_INSTRUCTION (R110, R112): a word that is not illegal makes no such event. -/
def execIllegalInstruction (core : Fin 8) (word : BitVec 32) (s : State) : Out :=
  if wordIllegal word then .next (runTask core illegalAct s) else .next s

/-- FETCH_FAULT (R107, R119, R129): the fetch at PC is not permitted, or lies outside lane memory. -/
def execFetchFault (core : Fin 8) (s : State) : Out :=
  if (execCores core s).all (fun i => !fetchable (decide (s.vrc.mode = .split)) s.cores[i])
  then .next (runTask core illegalAct s) else .next s

/-- IMPRECISE_BUSERR (R131): the error that is pending, or one reported now for a burst at `addr`. -/
def execImpreciseBuserr (core : Fin 8) (addr : BitVec 40) (s : State) : Out :=
  let ks := execCores core s
  let put (c : Core) : Core := if c.imprecise.isSome then c else { c with imprecise := some addr }
  if ks.any (fun i => (s.cores[i]).halted) then .next s
  else .next (mirrorShadow (mapCores ks (fun c => takeImprecise (put c)) (flushCombine core s)))

/-- COMBINING_BUFFER_TIMEOUT (R124). -/
def execCombiningBufferTimeout (core : Fin 8) (s : State) : Out := .next (mirrorShadow (flushCombine core s))

/-- INTERRUPT_SOURCE_ASSERT (R133, R136): a lane-local source asserts in every lane alike. -/
def execInterruptSourceAssert (core : Fin 8) (src : Fin 384) (s : State) : Out :=
  .next (mirrorShadow (mapCores (execCores core s) (fun c => c.assertSrc src.val) s))

/-- The acknowledge beat of a source (R134). -/
def ackBeat (c : Core) (n : Nat) : Option Beat :=
  if 32 ≤ n ∧ n < 320 then some (({ ty := .ack, addr := n } : Access).beat c.tag.toNat true) else none

/-- The source a core takes now (R133). -/
def Core.taken (c : Core) : Option Nat := if c.ie then c.lic.winner else none

/-- INTERRUPT_ENTRY (R131, R134): every running core takes its winning source; the acknowledge beats are voted. -/
def execInterruptEntry (core : Fin 8) (s : State) : Out :=
  let ks := execCores core s
  if ks.any (fun i => (s.cores[i]).halted || (s.cores[i]).pend.isSome) = true ∨
      ks.all (fun i => ((s.cores[i]).taken).isNone) = true then .next s
  else if ks.any (fun i => (s.cores[i]).imprecise.isSome) then
    .next (mirrorShadow (mapCores ks takeImprecise (flushCombine core s)))
  else
    let s1 := flushCombine core s
    let f (i : Fin 8) : Option Beat :=
      match (s1.cores[i]).taken with
      | some n => ackBeat s1.cores[i] n
      | none => none
    let s2 := mapCores (execCores core s1) (fun c =>
      match c.taken with
      | some n => if (ackBeat c n).isSome ∧ s1.vrc.mode ≠ .split then { c.takeInt n with tag := c.tag + 1 } else c.takeInt n
      | none => c) s1
    if s.vrc.mode = .split then .next s2 else .next (mirrorShadow (voteBeats core f s2).2)

/-- LIC_EOI_WRITE (R135). -/
def execLicEoiWrite (core : Fin 8) (value : BitVec 32) (s : State) : Out := .next (writeReg core 0x101000208 value s)

/-- LIC_SWSET_WRITE (R133). -/
def execLicSwsetWrite (core : Fin 8) (value : BitVec 32) (s : State) : Out := .next (writeReg core 0x10100020C value s)

/-- REGISTER_WRITE (R9, R10, R20): a word write by the lane executive. -/
def execRegisterWrite (core : Fin 8) (addr : BitVec 40) (value : BitVec 32) (s : State) : Out :=
  .next (writeReg core addr.toNat value s)

/-- MIRROR_ENTRY (R83, R123): the oldest store on its way to lane memory; a hold keeps it back (R85). -/
def execMirrorEntry (s : State) : Out :=
  if drainHeld s = true ∨ s.vrc.mode = .split then .next s else .next (mirrorShadow (drainOne 0 s))

/-! ### Lane timers and lane-local reads -/

/-- LTM_TIMER_START (R160). -/
def execLtmTimerStart (core : Fin 8) (timer : Fin 16) (ctl : BitVec 32) (s : State) : Out :=
  .next (writeReg core (0x101004100 + 16 * timer.val) ctl s)

/-- A timer whose time has come expires (R160): a one-shot stops, a periodic one goes on from its start. -/
def LaneTimer.expire (t : LaneTimer) (now : Nat) : LaneTimer :=
  if t.run && decide (t.due ≤ now) then
    { t with exp := true, run := decide (t.mode = 2), due := if t.mode = 2 then t.due + max 1 t.preset.toNat else t.due }
  else t

/-- The timer of one core expires, and its source asserts where IE is 1. -/
def timerExpire (n : Fin 16) (now : Nat) (c : Core) : Core :=
  let t := c.timers[n]
  if t.run && decide (t.due ≤ now) then
    let c1 := { c with timers := vmod c.timers n (fun x => x.expire now) }
    if t.ie then c1.assertSrc n.val else c1
  else c

/-- LTM_TIMER_EXPIRY (R160). -/
def execLtmTimerExpiry (dt : Nat) (core : Fin 8) (timer : Fin 16) (s : State) : Out :=
  let s1 := advance dt s
  .next (mirrorShadow (mapCores (execCores core s1) (timerExpire timer (elapsedUs s1)) s1))

/-- LTM_ELAPL_READ (R159). -/
def execLtmElaplRead (core : Fin 8) (d : Fin 32) (s : State) : Out := .next (readReg core d 0x101004000 s)

/-- LPC_CNTNL_READ (R441). -/
def execLpcCntnlRead (core : Fin 8) (counter : Fin 16) (d : Fin 32) (s : State) : Out :=
  .next (readReg core d (0x101008200 + 8 * counter.val) s)

/-- LPC_CNTNL_WRITE (R432, R441). -/
def execLpcCntnlWrite (core : Fin 8) (counter : Fin 16) (value : BitVec 32) (s : State) : Out :=
  .next (writeReg core (0x101008200 + 8 * counter.val) value s)

/-- COUNTER_OVERFLOW (R432): events that carry a counter out of bit 47; fewer make no such event. -/
def execCounterOverflow (core : Fin 8) (counter : Fin 16) (events : BitVec 48) (s : State) : Out :=
  .next (mirrorShadow (mapCores (execCores core s) (fun c =>
    if c.lpc.gen && decide (2 ^ 48 ≤ (c.lpc.cnt[counter]).toNat + events.toNat) then c.bump counter events.toNat else c) s))

/-! ### Register reads that latch or remove -/

/-- CTU_TIMENS_READ (R216). -/
def execCtuTimensRead (core : Fin 8) (d : Fin 32) (s : State) : Out := .next (readReg core d 0x200010110 s)

/-- CTU_FRCL_READ (R216). -/
def execCtuFrclRead (core : Fin 8) (d : Fin 32) (s : State) : Out := .next (readReg core d 0x200010100 s)

/-- CTU_BERRL_READ (R202). -/
def execCtuBerrlRead (core : Fin 8) (d : Fin 32) (s : State) : Out := .next (readReg core d 0x200010030 s)

/-- CYS_TICKL_READ (R180). -/
def execCysTicklRead (core : Fin 8) (d : Fin 32) (s : State) : Out := .next (readReg core d 0x20008000C s)

/-- FBX_OUT_WRITE (R243, R265). -/
def execFbxOutWrite (core : Fin 8) (bank : Fin 3) (value : BitVec 32) (s : State) : Out :=
  .next (writeReg core (0x200020020 + 0x10000 * bank.val) value s)

/-- FBX_FLTCLR_WRITE (R259, R265). -/
def execFbxFltclrWrite (core : Fin 8) (bank : Fin 3) (value : BitVec 32) (s : State) : Out :=
  .next (writeReg core (0x20002003C + 0x10000 * bank.val) value s)

/-- FBX_EVT0_READ (R254, R265). -/
def execFbxEvt0Read (core : Fin 8) (bank : Fin 3) (d : Fin 32) (s : State) : Out :=
  .next (readReg core d (0x200020040 + 0x10000 * bank.val) s)

/-- BRG_ERR0_READ (R369). -/
def execBrgErr0Read (core : Fin 8) (d : Fin 32) (s : State) : Out := .next (readReg core d 0x200090020 s)

/-- BRG_SYNC_READ (R372). -/
def execBrgSyncRead (core : Fin 8) (d : Fin 32) (s : State) : Out := .next (readReg core d 0x20009000C s)

/-- BRG_REGION_WRITE (R366, R379). -/
def execBrgRegionWrite (core : Fin 8) (region : Fin 16) (word : RegionWord) (value : BitVec 32) (s : State) : Out :=
  let o := match word with | .base => 0 | .lim => 4 | .attr => 8
  .next (writeReg core (0x200090100 + 16 * region.val + o) value s)

/-- BRG_INTSTAT_CLEAR (R378). -/
def execBrgIntstatClear (core : Fin 8) (value : BitVec 32) (s : State) : Out :=
  .next (writeReg core 0x200090040 value s)

/-- LNC_TX_SEQ_WRITE (R346, R347): a word write of a transmit slot's SEQ. -/
def execLncTxSeqWrite (core : Fin 8) (slot : Fin 8) (value : BitVec 32) (s : State) : Out :=
  .next (writeReg core (lncTx + 0x800 * slot.val) value s)

end Sys2Proof.Machine
end

