-- ==== Sys2Proof/Machine/Dispatch.lean ====
section
/-! DEFINITION. One arm per command: its meaning, or its refusal by name. -/

namespace Sys2Proof.Machine

/-- The effect of a command on everything but the queue. -/
def exec (i : Instr) (s : State) : Host.Outcome State Fault Refusal :=
  match i with
  | .powerOnResetRelease twpos => Sys2Proof.Machine.execPowerOnResetRelease twpos s
  | .startWindowEnd dt tcxo edges ember => Sys2Proof.Machine.execStartWindowEnd dt tcxo edges ember s
  | .bootBankChoice retained => Sys2Proof.Machine.execBootBankChoice retained s
  | .kilnFirmwareStart lost => Sys2Proof.Machine.execKilnFirmwareStart lost s
  | .laneStartupTestsDone r0 r1 r2 r3 => Sys2Proof.Machine.execLaneStartupTestsDone r0 r1 r2 r3 s
  | .processorSectionLoaded target crcOk => Sys2Proof.Machine.execProcessorSectionLoaded target crcOk s
  | .startupInjectionSet fail => Sys2Proof.Machine.execStartupInjectionSet fail s
  | .laneImageLoaded crcOk => Sys2Proof.Machine.execLaneImageLoaded crcOk s
  | .safetySetCheck => Sys2Proof.Machine.execSafetySetCheck s
  | .firingEnd dt => Sys2Proof.Machine.execFiringEnd dt s
  | .trialTimeout => Sys2Proof.Machine.execTrialTimeout s
  | .fwConfirmed dt => Sys2Proof.Machine.execFwConfirmed dt s
  | .stateCmdEnterMaintenance by_ => Sys2Proof.Machine.execStateCmdEnterMaintenance by_ s
  | .maintenanceAtBoundary dt => Sys2Proof.Machine.execMaintenanceAtBoundary dt s
  | .stateCmdLeaveMaintenance by_ => Sys2Proof.Machine.execStateCmdLeaveMaintenance by_ s
  | .stateCmdEnterBanked by_ => Sys2Proof.Machine.execStateCmdEnterBanked by_ s
  | .bankedPowerStateReached dt => Sys2Proof.Machine.execBankedPowerStateReached dt s
  | .stateCmdModuleReset by_ => Sys2Proof.Machine.execStateCmdModuleReset by_ s
  | .warmRestart by_ => Sys2Proof.Machine.execWarmRestart by_ s
  | .kilnWatchdogReset => Sys2Proof.Machine.execKilnWatchdogReset s
  | .powerFailWarning volt => Sys2Proof.Machine.execPowerFailWarning volt s
  | .powerFail dt volt => Sys2Proof.Machine.execPowerFail dt volt s
  | .supplyReturn us volt => Sys2Proof.Machine.execSupplyReturn us volt s
  | .holdupExhausted => Sys2Proof.Machine.execHoldupExhausted s
  | .brownOutReset railTrip => Sys2Proof.Machine.execBrownOutReset railTrip s
  | .domainFault domain mv => Sys2Proof.Machine.execDomainFault domain mv s
  | .bankedWake cause source => Sys2Proof.Machine.execBankedWake cause source s
  | .moduleWithdrawn => Sys2Proof.Machine.execModuleWithdrawn s
  | .tempMeasurement temp => Sys2Proof.Machine.execTempMeasurement temp s
  | .laneBeat i0 i1 i2 i3 => Sys2Proof.Machine.execLaneBeat i0 i1 i2 i3 s
  | .lockstepMismatch lane cls groups => Sys2Proof.Machine.execLockstepMismatch lane cls groups s
  | .laneMemUe lane addr => Sys2Proof.Machine.execLaneMemUe lane addr s
  | .fabricResponse irq => Sys2Proof.Machine.execFabricResponse irq s
  | .quarantineTestsDone lane result => Sys2Proof.Machine.execQuarantineTestsDone lane result s
  | .lane1oo1Select by_ lane => Sys2Proof.Machine.execLane1oo1Select by_ lane s
  | .lane1oo1Release by_ => Sys2Proof.Machine.execLane1oo1Release by_ s
  | .wideModeWrite by_ on => Sys2Proof.Machine.execWideModeWrite by_ on s
  | .rotationTimerExpiry dt => Sys2Proof.Machine.execRotationTimerExpiry dt s
  | .bisqueOverdue lane => Sys2Proof.Machine.execBisqueOverdue lane s
  | .quietGapStart dt => Sys2Proof.Machine.execQuietGapStart dt s
  | .rewedge dt crcOk => Sys2Proof.Machine.execRewedge dt crcOk s
  | .bisqueSwap dt => Sys2Proof.Machine.execBisqueSwap dt s
  | .substituted dt => Sys2Proof.Machine.execSubstituted dt s
  | .bisqueStepComplete dt result => Sys2Proof.Machine.execBisqueStepComplete dt result s
  | .bisqueStepOverrun dt => Sys2Proof.Machine.execBisqueStepOverrun dt s
  | .wedgingStart => Sys2Proof.Machine.execWedgingStart s
  | .zeroFillDone dt => Sys2Proof.Machine.execZeroFillDone dt s
  | .catchUpCopyDone dt vote => Sys2Proof.Machine.execCatchUpCopyDone dt vote s
  | .checksumRoundDone dt vote differ => Sys2Proof.Machine.execChecksumRoundDone dt vote differ s
  | .mirrorEntry => Sys2Proof.Machine.execMirrorEntry s
  | .mirrorHoldRelease dt => Sys2Proof.Machine.execMirrorHoldRelease dt s
  | .oprAlu core op d a b => Sys2Proof.Machine.execOprAlu core op d a b s
  | .oprwWordOp core op d a b => Sys2Proof.Machine.execOprwWordOp core op d a b s
  | .multiply core op d a b => Sys2Proof.Machine.execMultiply core op d a b s
  | .divide core op d a b => Sys2Proof.Machine.execDivide core op d a b s
  | .bitop core op d a b => Sys2Proof.Machine.execBitop core op d a b s
  | .aluImmediate core op d a imm => Sys2Proof.Machine.execAluImmediate core op d a imm s
  | .shiftImmediate core op word d a shamt => Sys2Proof.Machine.execShiftImmediate core op word d a shamt s
  | .lui core d imm => Sys2Proof.Machine.execLui core d imm s
  | .insh core d k imm => Sys2Proof.Machine.execInsh core d k imm s
  | .lapc core d imm => Sys2Proof.Machine.execLapc core d imm s
  | .load core op d a disp => Sys2Proof.Machine.execLoad core op d a disp s
  | .store core op d a disp => Sys2Proof.Machine.execStore core op d a disp s
  | .ldx core dbl d a => Sys2Proof.Machine.execLdx core dbl d a s
  | .stx core dbl d a b => Sys2Proof.Machine.execStx core dbl d a b s
  | .fpOperation core op dbl d a b => Sys2Proof.Machine.execFpOperation core op dbl d a b s
  | .fma core op dbl d a b c => Sys2Proof.Machine.execFma core op dbl d a b c s
  | .branch core cond d a off => Sys2Proof.Machine.execBranch core cond d a off s
  | .jJl core link off => Sys2Proof.Machine.execJJl core link off s
  | .jlr core d a imm => Sys2Proof.Machine.execJlr core d a imm s
  | .cwr core d n => Sys2Proof.Machine.execCwr core d n s
  | .cww core a n => Sys2Proof.Machine.execCww core a n s
  | .cws core d a n => Sys2Proof.Machine.execCws core d a n s
  | .cwc core d a n => Sys2Proof.Machine.execCwc core d a n s
  | .fence core => Sys2Proof.Machine.execFence core s
  | .fenceI core => Sys2Proof.Machine.execFenceI core s
  | .eret core => Sys2Proof.Machine.execEret core s
  | .wfi core => Sys2Proof.Machine.execWfi core s
  | .breakInstr core => Sys2Proof.Machine.execBreakInstr core s
  | .cacheInvalidate core op a => Sys2Proof.Machine.execCacheInvalidate core op a s
  | .syscall core imm => Sys2Proof.Machine.execSyscall core imm s
  | .impreciseBuserr core addr => Sys2Proof.Machine.execImpreciseBuserr core addr s
  | .combiningBufferTimeout core => Sys2Proof.Machine.execCombiningBufferTimeout core s
  | .interruptSourceAssert core src => Sys2Proof.Machine.execInterruptSourceAssert core src s
  | .interruptEntry core => Sys2Proof.Machine.execInterruptEntry core s
  | .licEoiWrite core value => Sys2Proof.Machine.execLicEoiWrite core value s
  | .licSwsetWrite core value => Sys2Proof.Machine.execLicSwsetWrite core value s
  | .registerWrite core addr value => Sys2Proof.Machine.execRegisterWrite core addr value s
  | .tick dt => Sys2Proof.Machine.execTick dt s
  | .latchEnd dt => Sys2Proof.Machine.execLatchEnd dt s
  | .gapWarn dt => Sys2Proof.Machine.execGapWarn dt s
  | .gapStart dt => Sys2Proof.Machine.execGapStart dt s
  | .cysQuietWrite core value => Sys2Proof.Machine.execCysQuietWrite core value s
  | .cysDoneWrite core value => Sys2Proof.Machine.execCysDoneWrite core value s
  | .commitEnd dt => Sys2Proof.Machine.execCommitEnd dt s
  | .postingEnd dt => Sys2Proof.Machine.execPostingEnd dt s
  | .coneOverrun dt task => Sys2Proof.Machine.execConeOverrun dt task s
  | .coneStall dt task => Sys2Proof.Machine.execConeStall dt task s
  | .taskReturn => Sys2Proof.Machine.execTaskReturn s
  | .syscallEvent => Sys2Proof.Machine.execSyscallEvent s
  | .syscallNettime => Sys2Proof.Machine.execSyscallNettime s
  | .syscallNocommit => Sys2Proof.Machine.execSyscallNocommit s
  | .syscallFaultclr => Sys2Proof.Machine.execSyscallFaultclr s
  | .ltmTimerStart core timer ctl => Sys2Proof.Machine.execLtmTimerStart core timer ctl s
  | .ltmTimerExpiry dt core timer => Sys2Proof.Machine.execLtmTimerExpiry dt core timer s
  | .imageStage by_ peer => Sys2Proof.Machine.execImageStage by_ peer s
  | .imageDiscard by_ => Sys2Proof.Machine.execImageDiscard by_ s
  | .olcSwitchRequest by_ => Sys2Proof.Machine.execOlcSwitchRequest by_ s
  | .olcSwitch dt => Sys2Proof.Machine.execOlcSwitch dt s
  | .olcTimeout dt => Sys2Proof.Machine.execOlcTimeout dt s
  | .refLost dt cause => Sys2Proof.Machine.execRefLost dt cause s
  | .sourceValid dt src => Sys2Proof.Machine.execSourceValid dt src s
  | .rampStep dt => Sys2Proof.Machine.execRampStep dt s
  | .monTrip dt item value => Sys2Proof.Machine.execMonTrip dt item value s
  | .clockEnableApply dt block on => Sys2Proof.Machine.execClockEnableApply dt block on s
  | .fmStart ref meas gate => Sys2Proof.Machine.execFmStart ref meas gate s
  | .fmDone dt count => Sys2Proof.Machine.execFmDone dt count s
  | .ctuTimensRead core d => Sys2Proof.Machine.execCtuTimensRead core d s
  | .ctuFrclRead core d => Sys2Proof.Machine.execCtuFrclRead core d s
  | .ctuBerrlRead core d => Sys2Proof.Machine.execCtuBerrlRead core d s
  | .cysTicklRead core d => Sys2Proof.Machine.execCysTicklRead core d s
  | .ltmElaplRead core d => Sys2Proof.Machine.execLtmElaplRead core d s
  | .ctuAdjStep ns sec => Sys2Proof.Machine.execCtuAdjStep ns sec s
  | .ctuAdjSlew ns sec => Sys2Proof.Machine.execCtuAdjSlew ns sec s
  | .slewDone dt => Sys2Proof.Machine.execSlewDone dt s
  | .ctuRateWrite rate => Sys2Proof.Machine.execCtuRateWrite rate s
  | .ebThresholdCrossed dt => Sys2Proof.Machine.execEbThresholdCrossed dt s
  | .announceReceived dt port ann => Sys2Proof.Machine.execAnnounceReceived dt port ann s
  | .syncReceived dt port src domain seq corr log => Sys2Proof.Machine.execSyncReceived dt port src domain seq corr log s
  | .followUpReceived dt src seq sec ns corr => Sys2Proof.Machine.execFollowUpReceived dt src seq sec ns corr s
  | .syncTimeout dt => Sys2Proof.Machine.execSyncTimeout dt s
  | .syncIntervalExpiry dt => Sys2Proof.Machine.execSyncIntervalExpiry dt s
  | .pdelayReqInterval dt port => Sys2Proof.Machine.execPdelayReqInterval dt port s
  | .pdelayReqReceived dt port => Sys2Proof.Machine.execPdelayReqReceived dt port s
  | .pdelayRespReceived dt port delay ratio => Sys2Proof.Machine.execPdelayRespReceived dt port delay ratio s
  | .tcForward dt port kind tags seq corr counts => Sys2Proof.Machine.execTcForward dt port kind tags seq corr counts s
  | .bankSyncFrameSend dt extra ahead => Sys2Proof.Machine.execBankSyncFrameSend dt extra ahead s
  | .bankSyncPulse dt bank rx => Sys2Proof.Machine.execBankSyncPulse dt bank rx s
  | .fbxOutWrite core bank value => Sys2Proof.Machine.execFbxOutWrite core bank value s
  | .fbxFltclrWrite core bank value => Sys2Proof.Machine.execFbxFltclrWrite core bank value s
  | .fbxEvt0Read core bank d => Sys2Proof.Machine.execFbxEvt0Read core bank d s
  | .filteredStateChange dt ch value => Sys2Proof.Machine.execFilteredStateChange dt ch value s
  | .discrepancyTimeout dt ch => Sys2Proof.Machine.execDiscrepancyTimeout dt ch s
  | .comparatorInversion ch => Sys2Proof.Machine.execComparatorInversion ch s
  | .switchSenseFault ch gate => Sys2Proof.Machine.execSwitchSenseFault ch gate s
  | .gateSetDisagree ch gate => Sys2Proof.Machine.execGateSetDisagree ch gate s
  | .readbackFault ch => Sys2Proof.Machine.execReadbackFault ch s
  | .darkTestStart dt ch => Sys2Proof.Machine.execDarkTestStart dt ch s
  | .darkPulseEnd dt ch fail => Sys2Proof.Machine.execDarkPulseEnd dt ch fail s
  | .overload ch ma => Sys2Proof.Machine.execOverload ch ma s
  | .bankOverload bank ma => Sys2Proof.Machine.execBankOverload bank ma s
  | .bankTimeout dt ch => Sys2Proof.Machine.execBankTimeout dt ch s
  | .syncLost bank => Sys2Proof.Machine.execSyncLost bank s
  | .supplyState dt bank state volt => Sys2Proof.Machine.execSupplyState dt bank state volt s
  | .glazePost ch state sec ns => Sys2Proof.Machine.execGlazePost ch state sec ns s
  | .glazeLaunch dt ch => Sys2Proof.Machine.execGlazeLaunch dt ch s
  | .macrocycleStart dt coll => Sys2Proof.Machine.execMacrocycleStart dt coll s
  | .slotStart dt slot coll => Sys2Proof.Machine.execSlotStart dt slot coll s
  | .xenexFrameReceived dt a b after => Sys2Proof.Machine.execXenexFrameReceived dt a b after s
  | .slotComplete dt slot => Sys2Proof.Machine.execSlotComplete dt slot s
  | .cycleStartReceived dt src frame => Sys2Proof.Machine.execCycleStartReceived dt src frame s
  | .xenexSilenceTimeout dt => Sys2Proof.Machine.execXenexSilenceTimeout dt s
  | .contendDelayEnd dt => Sys2Proof.Machine.execContendDelayEnd dt s
  | .coldstartEnd dt => Sys2Proof.Machine.execColdstartEnd dt s
  | .xnCollision coll => Sys2Proof.Machine.execXnCollision coll s
  | .xnbTakeover => Sys2Proof.Machine.execXnbTakeover s
  | .xnbRelease => Sys2Proof.Machine.execXnbRelease s
  | .claimReceived src tx rx => Sys2Proof.Machine.execClaimReceived src tx rx s
  | .acycRespReceived node msg => Sys2Proof.Machine.execAcycRespReceived node msg s
  | .acycTimeout dt => Sys2Proof.Machine.execAcycTimeout dt s
  | .gatewayRead by_ => Sys2Proof.Machine.execGatewayRead by_ s
  | .gatewayWrite by_ data => Sys2Proof.Machine.execGatewayWrite by_ data s
  | .heartbeatStrobe dt => Sys2Proof.Machine.execHeartbeatStrobe dt s
  | .heartbeatReceived dt rx => Sys2Proof.Machine.execHeartbeatReceived dt rx s
  | .heartbeatMiss dt way => Sys2Proof.Machine.execHeartbeatMiss dt way s
  | .twinFaultReceived dt rx => Sys2Proof.Machine.execTwinFaultReceived dt rx s
  | .takeoverGateRelease dt => Sys2Proof.Machine.execTakeoverGateRelease dt s
  | .twinRequestedReset dt => Sys2Proof.Machine.execTwinRequestedReset dt s
  | .twinInputFrame head task cycle offset octets => Sys2Proof.Machine.execTwinInputFrame head task cycle offset octets s
  | .twinRxframe head port sec ns frame => Sys2Proof.Machine.execTwinRxframe head port sec ns frame s
  | .twinTimeFrame dt head frame => Sys2Proof.Machine.execTwinTimeFrame dt head frame s
  | .twinCheckFrame head task committed cycle crc => Sys2Proof.Machine.execTwinCheckFrame head task committed cycle crc s
  | .twinHealthFrame head flags counts => Sys2Proof.Machine.execTwinHealthFrame head flags counts s
  | .twinCraze flag => Sys2Proof.Machine.execTwinCraze flag s
  | .twinCmdRevertReq dt head => Sys2Proof.Machine.execTwinCmdRevertReq dt head s
  | .twinCmdHandover dt head tick => Sys2Proof.Machine.execTwinCmdHandover dt head tick s
  | .twinCmdHandoverAck head tick => Sys2Proof.Machine.execTwinCmdHandoverAck head tick s
  | .handoverHoldChange dt => Sys2Proof.Machine.execHandoverHoldChange dt s
  | .twinCmdOlcSwitch head tick => Sys2Proof.Machine.execTwinCmdOlcSwitch head tick s
  | .twinCmdIntegStart dt head info => Sys2Proof.Machine.execTwinCmdIntegStart dt head info s
  | .twinLatencyDone dt meanRoundTrip => Sys2Proof.Machine.execTwinLatencyDone dt meanRoundTrip s
  | .twinPageFrame head addr octets => Sys2Proof.Machine.execTwinPageFrame head addr octets s
  | .twinFwdFrame head entries => Sys2Proof.Machine.execTwinFwdFrame head entries s
  | .twinCopyDone dt => Sys2Proof.Machine.execTwinCopyDone dt s
  | .twinChecksumDone dt => Sys2Proof.Machine.execTwinChecksumDone dt s
  | .twinCmdJoin dt head tick => Sys2Proof.Machine.execTwinCmdJoin dt head tick s
  | .twinStaterecFrame dt head rcd => Sys2Proof.Machine.execTwinStaterecFrame dt head rcd s
  | .twinIntegRetry dt => Sys2Proof.Machine.execTwinIntegRetry dt s
  | .twinPeerIntegratingTimeout dt => Sys2Proof.Machine.execTwinPeerIntegratingTimeout dt s
  | .twinPeerSilentTimeout dt => Sys2Proof.Machine.execTwinPeerSilentTimeout dt s
  | .revertHoldExpiry dt => Sys2Proof.Machine.execRevertHoldExpiry dt s
  | .twinFwdHoldRelease dt => Sys2Proof.Machine.execTwinFwdHoldRelease dt s
  | .switchFrameReceived dt port frame => Sys2Proof.Machine.execSwitchFrameReceived dt port frame s
  | .internalPortReceive dt port frame => Sys2Proof.Machine.execInternalPortReceive dt port frame s
  | .receiveSlotWrite dt slot => Sys2Proof.Machine.execReceiveSlotWrite dt slot s
  | .lncTxSeqWrite core slot value => Sys2Proof.Machine.execLncTxSeqWrite core slot value s
  | .linkChange dt port spd => Sys2Proof.Machine.execLinkChange dt port spd s
  | .prpFrameReceived dt lan frame => Sys2Proof.Machine.execPrpFrameReceived dt lan frame s
  | .prpSupervisionInterval dt => Sys2Proof.Machine.execPrpSupervisionInterval dt s
  | .prpLanFail dt lan => Sys2Proof.Machine.execPrpLanFail dt lan s
  | .gdpRead head index sub offset => Sys2Proof.Machine.execGdpRead head index sub offset s
  | .gdpWrite head index sub block => Sys2Proof.Machine.execGdpWrite head index sub block s
  | .gdpOpen head client => Sys2Proof.Machine.execGdpOpen head client s
  | .gdpClose head => Sys2Proof.Machine.execGdpClose head s
  | .gdpWake port client => Sys2Proof.Machine.execGdpWake port client s
  | .gdpSessionIdleTimeout dt session => Sys2Proof.Machine.execGdpSessionIdleTimeout dt session s
  | .keyxChallenge by_ => Sys2Proof.Machine.execKeyxChallenge by_ s
  | .keyxResponse by_ response => Sys2Proof.Machine.execKeyxResponse by_ response s
  | .keyxLockoutEnd dt => Sys2Proof.Machine.execKeyxLockoutEnd dt s
  | .maintenanceKeyWrite by_ key => Sys2Proof.Machine.execMaintenanceKeyWrite by_ key s
  | .usdoTransfer channel op => Sys2Proof.Machine.execUsdoTransfer channel op s
  | .usdoTimeout dt channel => Sys2Proof.Machine.execUsdoTimeout dt channel s
  | .safetyWrite by_ index sub value => Sys2Proof.Machine.execSafetyWrite by_ index sub value s
  | .klmVerdict7Write value => Sys2Proof.Machine.execKlmVerdict7Write value s
  | .safetyReserve dt => Sys2Proof.Machine.execSafetyReserve dt s
  | .safetyCommit dt => Sys2Proof.Machine.execSafetyCommit dt s
  | .safetyTimeout dt => Sys2Proof.Machine.execSafetyTimeout dt s
  | .safetyValueFromActive head index sub value => Sys2Proof.Machine.execSafetyValueFromActive head index sub value s
  | .debugHalt by_ => Sys2Proof.Machine.execDebugHalt by_ s
  | .debugRun by_ => Sys2Proof.Machine.execDebugRun by_ s
  | .debugStep by_ => Sys2Proof.Machine.execDebugStep by_ s
  | .debugRegisterAccess by_ reg value => Sys2Proof.Machine.execDebugRegisterAccess by_ reg value s
  | .debugMemoryAccess by_ length value => Sys2Proof.Machine.execDebugMemoryAccess by_ length value s
  | .debugBreakpointHit core => Sys2Proof.Machine.execDebugBreakpointHit core s
  | .fwBlock by_ block => Sys2Proof.Machine.execFwBlock by_ block s
  | .appImageBlock by_ block => Sys2Proof.Machine.execAppImageBlock by_ block s
  | .scheduleTableBlock by_ block => Sys2Proof.Machine.execScheduleTableBlock by_ block s
  | .transferAbandonTimeout dt index => Sys2Proof.Machine.execTransferAbandonTimeout dt index s
  | .flashSectorErased dt => Sys2Proof.Machine.execFlashSectorErased dt s
  | .fwActivate by_ => Sys2Proof.Machine.execFwActivate by_ s
  | .fwRevert by_ => Sys2Proof.Machine.execFwRevert by_ s
  | .fwCancelTransfer by_ => Sys2Proof.Machine.execFwCancelTransfer by_ s
  | .fwCancelActivation by_ => Sys2Proof.Machine.execFwCancelActivation by_ s
  | .recorderRead by_ => Sys2Proof.Machine.execRecorderRead by_ s
  | .eventSubmit src code p0 p1 p2 => Sys2Proof.Machine.execEventSubmit src code p0 p1 p2 s
  | .recEv3Write value => Sys2Proof.Machine.execRecEv3Write value s
  | .recordWrite dt cut => Sys2Proof.Machine.execRecordWrite dt cut s
  | .headRewrite dt cut => Sys2Proof.Machine.execHeadRewrite dt cut s
  | .optimeSave dt => Sys2Proof.Machine.execOptimeSave dt s
  | .tokenRefill dt code => Sys2Proof.Machine.execTokenRefill dt code s
  | .postedWriteComplete dt => Sys2Proof.Machine.execPostedWriteComplete dt s
  | .brgPwerr dt status => Sys2Proof.Machine.execBrgPwerr dt status s
  | .farSideReadResponse dt failed => Sys2Proof.Machine.execFarSideReadResponse dt failed s
  | .farSideReadTimeout dt => Sys2Proof.Machine.execFarSideReadTimeout dt s
  | .brgTagFree dt => Sys2Proof.Machine.execBrgTagFree dt s
  | .brgSemExpired dt region => Sys2Proof.Machine.execBrgSemExpired dt region s
  | .prefetchExpiry dt => Sys2Proof.Machine.execPrefetchExpiry dt s
  | .brgErr0Read core d => Sys2Proof.Machine.execBrgErr0Read core d s
  | .brgSyncRead core d => Sys2Proof.Machine.execBrgSyncRead core d s
  | .brgRegionWrite core region word value => Sys2Proof.Machine.execBrgRegionWrite core region word value s
  | .brgIntstatClear core value => Sys2Proof.Machine.execBrgIntstatClear core value s
  | .forwardedInterruptEdge block => Sys2Proof.Machine.execForwardedInterruptEdge block s
  | .cfdTpdotrigWrite value => Sys2Proof.Machine.execCfdTpdotrigWrite value s
  | .tpdoEventTimer dt channel tpdo => Sys2Proof.Machine.execTpdoEventTimer dt channel tpdo s
  | .rpdoReceived dt channel cobId data => Sys2Proof.Machine.execRpdoReceived dt channel cobId data s
  | .canBusoff channel tec => Sys2Proof.Machine.execCanBusoff channel tec s
  | .canBusoffRecovery dt channel => Sys2Proof.Machine.execCanBusoffRecovery dt channel s
  | .nmtCommand channel node cmd => Sys2Proof.Machine.execNmtCommand channel node cmd s
  | .canProducerHeartbeat dt channel => Sys2Proof.Machine.execCanProducerHeartbeat dt channel s
  | .canHbLost dt consumer => Sys2Proof.Machine.execCanHbLost dt consumer s
  | .counterOverflow core counter events => Sys2Proof.Machine.execCounterOverflow core counter events s
  | .lpcCntnlRead core counter d => Sys2Proof.Machine.execLpcCntnlRead core counter d s
  | .lpcCntnlWrite core counter value => Sys2Proof.Machine.execLpcCntnlWrite core counter value s
  | .bandwidthWindowEnd dt => Sys2Proof.Machine.execBandwidthWindowEnd dt s
  | .gapDump dt => Sys2Proof.Machine.execGapDump dt s
  | .periodicDump dt => Sys2Proof.Machine.execPeriodicDump dt s
  | .illegalInstruction core word => Sys2Proof.Machine.execIllegalInstruction core word s
  | .fetchFault core => Sys2Proof.Machine.execFetchFault core s
  | .sourceInvalid dt src => Sys2Proof.Machine.execSourceInvalid dt src s
  | .emberfailClear dt => Sys2Proof.Machine.execEmberfailClear dt s
  | .announceReceiptTimeout dt => Sys2Proof.Machine.execAnnounceReceiptTimeout dt s
  | .readbackAgrees ch => Sys2Proof.Machine.execReadbackAgrees ch s
  | .carrierDetected => Sys2Proof.Machine.execCarrierDetected s
  | .timeFrameInterval dt => Sys2Proof.Machine.execTimeFrameInterval dt s
  | .healthFrameInterval dt => Sys2Proof.Machine.execHealthFrameInterval dt s
  | .crazeFlagClear flag => Sys2Proof.Machine.execCrazeFlagClear flag s
  | .twpPulseError => Sys2Proof.Machine.execTwpPulseError s
  | .standbyImageStage head image => Sys2Proof.Machine.execStandbyImageStage head image s
  | .macAddressAgeing dt vid mac => Sys2Proof.Machine.execMacAddressAgeing dt vid mac s
  | .canHeartbeatReceived channel node => Sys2Proof.Machine.execCanHeartbeatReceived channel node s

end Sys2Proof.Machine
end

