-- ==== Sys2Proof/Safety.lean ====
section
/-! DEFINITION. What a state must keep for the module to be the one of R22 and R55, and what a safe state of its
outputs is (R22, R28). -/

namespace Sys2Proof.Machine

/-- The voting mode, SUBST and the number of ACTIVE lanes are those R55 gives for the module state. -/
def State.voteLegal (s : State) : Bool :=
  let n := (activeLanes s).length
  match s.vrc.mode with
  | .oo3 => decide (s.mod.state = .run2oo3) && !s.vrc.subst && decide (n = 3)
  | .oo2 => decide (s.mod.state = if s.vrc.subst then .run2oo3 else .run2oo2) && decide (n = 2)
  | .oo1 => decide (s.mod.state = .service) && decide (n = 0)
  | .split => decide (s.mod.state = .wide) && decide (n = 0)
  | .none => !isRunOrWide s && decide (n = 0)

/-- Field outputs are driven only where R22 lets them be: in a RUN state or in WIDE. -/
def State.outputsHeld (s : State) : Bool :=
  isRunOrWide s || s.chans.toList.all (fun c => decide (c.state ≠ .driven))

/-- Every octet memory of the module is in canonical form: addresses rise, no cell holds what an unlisted one reads. -/
def State.memWf (s : State) : Bool :=
  Memory.wf s.vmem && Memory.wf s.recd.mram && Memory.wf s.xn.txArea && Memory.wf s.cys.xnLast &&
    s.mems.toList.all Memory.wf

/-- The recorder's staging FIFO holds at most 64 entries (R415). -/
def State.fifoFits (s : State) : Bool := decide (s.recd.fifo.length ≤ 64)

/-- The INTSTAT bit of an interrupt number is set (R20). -/
def Asserted (n : Nat) (v : Vector IntRegs 11) : Prop :=
  match intBlock n with
  | some (k, b) => (v[k]).stat.getLsbD b = true
  | none => False

/-! ### The instruction stream -/

/-- The lanes that run the instruction stream stand ready to execute the instruction at PC: not halted, not waiting,
no imprecise bus error pending, and the fetch permitted (R119, R131, R133). -/
def Executes (core : Fin 8) (s : State) : Prop :=
  execCores core s ≠ [] ∧ ∀ k ∈ execCores core s,
    (s.cores[k]).ready = true ∧ (s.cores[k]).imprecise = none ∧
      fetchable (decide (s.vrc.mode = .split)) s.cores[k] = true

/-- No exception of a task waits for the executive (R172): no task runs, or no core stands in a handler. -/
def Untrapped (s : State) : Prop := s.cys.current = none ∨ ∀ k : Fin 8, (s.cores[k]).exl = false

/-- A state that differs in nothing but the cores. -/
def CoresOnly (s t : State) : Prop := t = { s with cores := t.cores }

/-- The command completes: in every running core xd takes a value and PC goes on to the next instruction; the
floating-point registers stay, and so does everything outside the cores. -/
def Takes (i : Instr) (core : Fin 8) (s : State) (d : Fin 32) (v : Core → Reg64) : Prop :=
  ∃ t, exec i s = .next t ∧ CoresOnly s t ∧ ∀ k ∈ execCores core s,
    (t.cores[k]).x = ((s.cores[k]).setX d (v s.cores[k])).x ∧ (t.cores[k]).f = (s.cores[k]).f ∧
      (t.cores[k]).pc = (s.cores[k]).pc + 4

/-- The command raises an exception in every running core (R130, R132): the saved words, the level, and PC at the
vector base; the general and floating-point registers stay, and so does everything outside the cores. -/
def Traps (i : Instr) (core : Fin 8) (s : State) (code arg : Nat) (bad : Core → Option Reg64) : Prop :=
  ∃ t, exec i s = .next t ∧ CoresOnly s t ∧ ∀ k ∈ execCores core s,
    let c := s.cores[k]
    let d := t.cores[k]
    d.pc = c.word 5 ∧ d.word 2 = c.pc ∧ d.word 1 = c.word 0 ∧
      d.word 3 = (BitVec.ofNat 64 (arg * 4096 + code) ||| (if c.exl then 0x40000000 else 0)) ∧
      d.word 4 = (bad c).getD (c.word 4) ∧ d.exec = true ∧ d.ie = false ∧ d.exl = true ∧ d.dzt = c.dzt ∧
      d.x = c.x ∧ d.f = c.f

/-- No combining buffer of a running core holds a store (R124). -/
def Uncombined (core : Fin 8) (s : State) : Prop := ∀ k ∈ execCores core s, (s.cores[k]).cbuf = none

/-- The lanes of the vote run alike (R35, R36): their cores hold the same, and their number is that of the mode; in
1oo1 and WIDE one core is meant. -/
def Unison (core : Fin 8) (s : State) : Prop :=
  (match s.vrc.mode with
    | .oo3 => (activeLanes s).length = 3
    | .oo2 => (activeLanes s).length = 2
    | .oo1 => True
    | .split => True
    | .none => False) ∧
  ∀ j ∈ execCores core s, ∀ k ∈ execCores core s, s.cores[j] = s.cores[k]

/-- The core executes a register access of the lane executive: xd takes the value, PC goes on. -/
def ReadsInto (core : Fin 8) (s t : State) (d : Fin 32) (v : Nat) : Prop :=
  ∀ k ∈ execCores core s, (t.cores[k]).x = ((s.cores[k]).setX d (BitVec.ofNat 64 v)).x ∧
    (t.cores[k]).pc = (s.cores[k]).pc + 4

/-- The running cores go on to the next instruction with their registers as they were. -/
def GoesOn (core : Fin 8) (s t : State) : Prop :=
  ∀ k ∈ execCores core s, (t.cores[k]).x = (s.cores[k]).x ∧ (t.cores[k]).pc = (s.cores[k]).pc + 4

/-! ### Requests -/

/-- The Kiln serves the session's next request at once (R354, R384): no flash erase is under way, the session is live,
and a GDP session has had its last answer. -/
def Served (b : Session) (s : State) : Prop :=
  s.boot.fwWait = none ∧ sessLive b s = true ∧ ∀ n : Fin 4, b = .gdp n → sessBusy s.kiln.sessions[n.val] = false

/-- The last answer the Kiln has sent to a session. -/
def Answered (b : Session) (t : State) (a : Answer) : Prop := assocGet t.kiln.answers b = some a

/-! ### Frames -/

/-- The parts of State that a frame tells apart; `held` are the interrupts kept for a joining lane (R92), `noted` the
times of the last TIMEs noted from the peer's records, `lic` what an interrupt from the fabric changes in a core, and
the memories are compared by what they read. -/
inductive Part where
  | drawn | mod | pwr | vrc | rot | cys | clk | tim | banks | chans | xn | recd | boot | kiln | twl | lnc | cpn | cfd
  | brg | bw | ints | mems | cores | vmem | held | noted | lic | mram
deriving DecidableEq, Repr

/-- A core but for its pending sources and the wait they end (R133). -/
def Core.busPart (c : Core) : Core := { c with lic := { c.lic with pend := 0 }, wfi := false }

/-- The pending sources of a core and its wait. -/
def Core.licPart (c : Core) : BitVec 384 × Bool := (c.lic.pend, c.wfi)

/-- A part is the same in two states. -/
def Part.same (s t : State) : Part → Prop
  | .drawn => t.drawn = s.drawn
  | .mod => t.mod = s.mod
  | .pwr => t.pwr = s.pwr
  | .vrc => { t.vrc with heldInts := [] } = { s.vrc with heldInts := [] }
  | .rot => t.rot = s.rot
  | .cys => t.cys = s.cys
  | .clk => t.clk = s.clk
  | .tim => t.tim = s.tim
  | .banks => t.banks = s.banks
  | .chans => t.chans = s.chans
  | .xn => t.xn = s.xn
  | .recd => { t.recd with mram := [] } = { s.recd with mram := [] }
  | .boot => t.boot = s.boot
  | .kiln => t.kiln = s.kiln
  | .twl => { t.twl with notedAt := Vector.replicate 3 none } = { s.twl with notedAt := Vector.replicate 3 none }
  | .lnc => t.lnc = s.lnc
  | .cpn => t.cpn = s.cpn
  | .cfd => t.cfd = s.cfd
  | .brg => t.brg = s.brg
  | .bw => t.bw = s.bw
  | .ints => t.ints = s.ints
  | .mems => ∀ (i : Fin 8) (a : Nat), memGet t.mems[i] a = memGet s.mems[i] a
  | .cores => Vector.map Core.busPart t.cores = Vector.map Core.busPart s.cores
  | .vmem => ∀ a, memGet t.vmem a = memGet s.vmem a
  | .held => t.vrc.heldInts = s.vrc.heldInts
  | .noted => t.twl.notedAt = s.twl.notedAt
  | .lic => Vector.map Core.licPart t.cores = Vector.map Core.licPart s.cores
  | .mram => ∀ a, memGet t.recd.mram a = memGet s.recd.mram a

/-- Nothing differs but the parts named; the queue is the same. -/
def SameBut (P : List Part) (s t : State) : Prop :=
  t.pending = s.pending ∧ ∀ p, p ∉ P → Part.same s t p

/-- The parts that the passing of time may change. -/
def timeParts : List Part :=
  [.rot, .cys, .clk, .tim, .recd, .twl, .lnc, .bw, .mems, .cores, .lic]

/-- The parts that a restart may change. -/
def restartParts : List Part :=
  [.mod, .pwr, .vrc, .rot, .cys, .clk, .banks, .chans, .xn, .recd, .boot, .kiln, .twl, .lnc, .cpn, .cfd, .brg,
   .ints, .cores, .vmem, .held, .noted, .lic]

/-- The parts that an accepted state command or safety change may change. -/
def commandParts : List Part :=
  [.mod, .pwr, .vrc, .rot, .cys, .clk, .tim, .banks, .chans, .xn, .recd, .boot, .kiln, .twl, .lnc, .cpn, .cfd,
   .brg, .bw, .ints, .mems, .cores, .vmem, .held, .noted, .lic]

/-- The parts that a loss or return of the supply may change. -/
def supplyParts : List Part :=
  [.drawn, .mod, .pwr, .vrc, .rot, .cys, .clk, .tim, .banks, .chans, .xn, .recd, .boot, .kiln, .twl, .lnc, .cpn,
   .cfd, .brg, .bw, .ints, .mems, .cores, .vmem, .held, .noted, .lic, .mram]

/-- The parts that an instruction may change, with all that a trap, a bus access or a system call may bring. -/
def streamParts : List Part :=
  [.drawn, .mod, .pwr, .vrc, .rot, .cys, .clk, .tim, .banks, .chans, .xn, .recd, .kiln, .twl, .lnc, .brg, .bw,
   .ints, .mems, .cores, .vmem, .held, .noted, .lic]

/-- What a command may change: the state it starts from, which is `s` after the time the command brings, and the parts
that may differ from it when the command is done. -/
def footprint (c : Instr) (s : State) : State × List Part :=
  match c with
  | .powerOnResetRelease .. =>
    (s, [.mod, .pwr, .clk, .recd, .twl, .ints, .held, .noted, .lic, .mram])
  | .startWindowEnd dt _ _ _ =>
    (advance dt s, [.drawn, .mod, .vrc, .rot, .cys, .clk, .tim, .chans, .xn, .recd, .twl, .lnc, .cpn, .cfd, .bw,
      .ints, .mems, .cores, .vmem, .held, .noted, .lic])
  | .bootBankChoice .. =>
    (s, [.mod, .pwr, .vrc, .rot, .cys, .clk, .tim, .banks, .chans, .xn, .recd, .boot, .kiln, .twl, .lnc, .cpn,
      .cfd, .ints, .held, .noted, .lic])
  | .kilnFirmwareStart .. =>
    (s, [.mod, .pwr, .vrc, .rot, .clk, .tim, .banks, .chans, .xn, .recd, .kiln, .twl, .lnc, .cpn, .cfd, .brg,
      .ints, .held, .noted, .lic])
  | .laneStartupTestsDone .. =>
    (s, [.mod, .pwr, .vrc, .rot, .recd, .ints, .mems, .cores, .held, .noted, .lic])
  | .processorSectionLoaded .. =>
    (s, [.pwr, .clk, .tim, .recd, .boot, .lnc, .cpn, .ints, .held, .noted, .lic])
  | .startupInjectionSet .. | .safetySetCheck =>
    (s, [.mod, .vrc, .rot, .cys, .banks, .chans, .xn, .recd, .boot, .kiln, .twl, .ints, .held, .noted, .lic])
  | .laneImageLoaded .. =>
    (s, [.drawn, .mod, .pwr, .vrc, .rot, .cys, .banks, .chans, .xn, .recd, .boot, .kiln, .twl, .ints, .mems,
      .vmem, .held, .noted, .lic])
  | .firingEnd dt =>
    (advance dt s, [.mod, .vrc, .rot, .cys, .banks, .chans, .xn, .recd, .boot, .kiln, .twl, .ints, .cores,
      .vmem, .held, .noted, .lic])
  | .trialTimeout | .kilnWatchdogReset | .bankedWake .. | .gdpWake .. =>
    (s, restartParts)
  | .fwConfirmed dt =>
    (advance dt s, [.banks, .recd, .boot, .noted])
  | .stateCmdEnterMaintenance .. | .stateCmdLeaveMaintenance .. | .stateCmdEnterBanked .. |
    .stateCmdModuleReset .. | .warmRestart .. | .lane1oo1Select .. | .lane1oo1Release .. | .wideModeWrite .. |
    .olcSwitchRequest .. | .acycRespReceived .. | .gatewayWrite .. | .gdpWrite .. | .keyxResponse .. |
    .maintenanceKeyWrite .. | .usdoTransfer .. | .safetyWrite .. | .debugHalt .. | .debugRun .. | .debugStep ..
    | .debugRegisterAccess .. | .debugMemoryAccess .. | .fwActivate .. | .fwRevert .. | .fwCancelTransfer .. |
    .fwCancelActivation .. =>
    (s, commandParts)
  | .maintenanceAtBoundary dt =>
    (advance dt s, [.mod, .vrc, .rot, .cys, .banks, .chans, .xn, .recd, .kiln, .twl, .ints, .held, .noted,
      .lic])
  | .bankedPowerStateReached dt | .monTrip dt _ _ =>
    (advance dt s, [.mod, .pwr, .vrc, .rot, .cys, .clk, .tim, .banks, .chans, .xn, .recd, .boot, .kiln, .twl,
      .lnc, .cpn, .cfd, .brg, .ints, .cores, .vmem, .held, .noted, .lic])
  | .powerFailWarning .. =>
    (s, [.pwr, .recd])
  | .powerFail dt _ =>
    (advance dt s, [.mod, .pwr, .vrc, .rot, .cys, .banks, .chans, .xn, .recd, .boot, .kiln, .twl, .cpn, .cfd,
      .brg, .bw, .ints, .mems, .cores, .vmem, .held, .noted, .lic])
  | .supplyReturn .. | .holdupExhausted | .brownOutReset .. | .domainFault .. =>
    (s, supplyParts)
  | .moduleWithdrawn =>
    (s, [.mod, .pwr, .vrc, .rot, .cys, .banks, .chans, .xn, .recd, .boot, .kiln, .twl, .cpn, .cfd, .brg, .bw,
      .ints, .mems, .cores, .vmem, .held, .noted, .lic])
  | .tempMeasurement .. =>
    (s, [.mod, .pwr, .vrc, .rot, .cys, .banks, .chans, .xn, .recd, .kiln, .twl, .ints, .held, .noted, .lic])
  | .laneBeat .. | .oprAlu .. | .oprwWordOp .. | .multiply .. | .divide .. | .bitop .. | .aluImmediate .. |
    .shiftImmediate .. | .lui .. | .insh .. | .lapc .. | .load .. | .store .. | .ldx .. | .stx .. |
    .fpOperation .. | .fma .. | .branch .. | .jJl .. | .jlr .. | .cwr .. | .cww .. | .cws .. | .cwc .. |
    .fence .. | .fenceI .. | .eret .. | .wfi .. | .breakInstr .. | .cacheInvalidate .. | .syscall .. |
    .licEoiWrite .. | .licSwsetWrite .. | .registerWrite .. | .cysQuietWrite .. | .ltmTimerStart .. |
    .ctuTimensRead .. | .ctuFrclRead .. | .ctuBerrlRead .. | .cysTicklRead .. | .ltmElaplRead .. |
    .fbxOutWrite .. | .fbxFltclrWrite .. | .fbxEvt0Read .. | .lncTxSeqWrite .. | .brgErr0Read .. |
    .brgSyncRead .. | .brgRegionWrite .. | .brgIntstatClear .. | .lpcCntnlRead .. | .lpcCntnlWrite .. |
    .illegalInstruction .. | .fetchFault .. =>
    (s, streamParts)
  | .lockstepMismatch .. | .laneMemUe .. =>
    (s, [.mod, .pwr, .vrc, .rot, .cys, .clk, .tim, .banks, .chans, .xn, .recd, .kiln, .twl, .lnc, .bw, .ints,
      .mems, .cores, .held, .noted, .lic])
  | .fabricResponse .. =>
    (s, [.vrc, .cores, .held, .lic])
  | .quarantineTestsDone .. =>
    (s, [.pwr, .vrc, .rot, .recd, .ints, .cores, .held, .noted, .lic])
  | .rotationTimerExpiry dt =>
    (advance dt s, [.rot])
  | .bisqueOverdue .. =>
    (s, [.vrc, .recd, .noted])
  | .quietGapStart dt =>
    (advance dt s, [.drawn, .mod, .vrc, .rot, .cys, .recd, .twl, .bw, .ints, .mems, .cores, .held, .noted,
      .lic])
  | .rewedge dt _ =>
    (advance dt s, [.drawn, .mod, .pwr, .vrc, .rot, .cys, .banks, .chans, .xn, .recd, .kiln, .twl, .ints,
      .cores, .held, .noted, .lic])
  | .bisqueSwap dt =>
    (advance dt s, [.vrc, .rot, .recd, .ints, .held, .noted, .lic])
  | .substituted dt =>
    (advance dt s, [.mod, .vrc, .rot, .recd, .ints, .held, .noted, .lic])
  | .bisqueStepComplete dt _ | .bisqueStepOverrun dt =>
    (advance dt s, [.mod, .pwr, .vrc, .rot, .cys, .clk, .tim, .banks, .chans, .xn, .recd, .kiln, .twl, .lnc,
      .bw, .ints, .mems, .cores, .held, .noted, .lic])
  | .wedgingStart =>
    (s, [.vrc, .rot])
  | .zeroFillDone dt =>
    (advance dt s, [.vrc, .rot, .mems])
  | .catchUpCopyDone dt _ | .checksumRoundDone dt _ _ | .olcSwitch dt =>
    (advance dt s, [.mod, .pwr, .vrc, .rot, .cys, .banks, .chans, .xn, .recd, .kiln, .twl, .bw, .ints, .mems,
      .cores, .held, .noted, .lic])
  | .mirrorEntry =>
    (s, [.mod, .pwr, .vrc, .rot, .cys, .banks, .chans, .xn, .recd, .kiln, .twl, .ints, .mems, .cores, .held,
      .noted, .lic])
  | .mirrorHoldRelease dt =>
    (advance dt s, [.rot, .bw, .mems, .cores, .lic])
  | .impreciseBuserr .. | .combiningBufferTimeout .. | .interruptEntry .. =>
    (s, [.drawn, .mod, .pwr, .vrc, .rot, .cys, .clk, .tim, .banks, .chans, .xn, .recd, .kiln, .twl, .lnc, .brg,
      .bw, .ints, .cores, .vmem, .held, .noted, .lic])
  | .interruptSourceAssert .. | .syscallNettime | .counterOverflow .. =>
    (s, [.cores, .lic])
  | .tick dt | .latchEnd dt =>
    (advance dt s, [.vrc, .rot, .cys, .clk, .tim, .banks, .recd, .twl, .lnc, .bw, .ints, .mems, .cores, .vmem,
      .held, .noted, .lic])
  | .gapWarn dt =>
    (advance dt s, [.cys, .ints, .held, .lic])
  | .gapStart dt | .coneOverrun dt _ =>
    (advance dt s, [.cys, .recd, .ints, .held, .noted, .lic])
  | .cysDoneWrite .. | .taskReturn =>
    (s, [.drawn, .mod, .pwr, .vrc, .rot, .cys, .clk, .tim, .banks, .chans, .xn, .recd, .boot, .kiln, .twl, .lnc,
      .cpn, .cfd, .brg, .bw, .ints, .mems, .cores, .vmem, .held, .noted, .lic])
  | .commitEnd dt =>
    (advance dt s, [.mod, .pwr, .vrc, .rot, .cys, .clk, .tim, .banks, .chans, .xn, .recd, .boot, .kiln, .twl,
      .lnc, .cpn, .cfd, .brg, .bw, .ints, .mems, .cores, .vmem, .held, .noted, .lic])
  | .postingEnd dt | .coneStall dt _ | .twinRequestedReset dt =>
    (advance dt s, [.mod, .pwr, .vrc, .rot, .cys, .clk, .banks, .chans, .xn, .recd, .boot, .kiln, .twl, .lnc,
      .cpn, .cfd, .brg, .ints, .cores, .vmem, .held, .noted, .lic])
  | .syscallEvent | .syscallNocommit =>
    (s, [.cys, .banks, .recd, .twl, .ints, .cores, .held, .noted, .lic])
  | .syscallFaultclr =>
    (s, [.chans, .recd, .ints, .cores, .held, .noted, .lic])
  | .ltmTimerExpiry dt _ _ =>
    (advance dt s, [.cores, .lic])
  | .imageStage .. | .imageDiscard .. =>
    (s, [.rot, .cys, .banks, .recd, .boot, .kiln, .mems, .noted])
  | .olcTimeout dt =>
    (advance dt s, [.cys, .recd, .noted])
  | .refLost dt _ | .sourceValid dt _ =>
    (advance dt s, [.clk, .tim, .recd, .ints, .held, .noted, .lic])
  | .rampStep dt =>
    (advance dt s, [.drawn, .vrc, .rot, .cys, .clk, .tim, .chans, .xn, .recd, .twl, .lnc, .cpn, .cfd, .bw,
      .ints, .mems, .cores, .vmem, .held, .noted, .lic])
  | .clockEnableApply dt _ _ =>
    (advance dt s, [.clk, .held, .lic])
  | .fmStart .. =>
    (s, [.clk, .ints, .held, .lic])
  | .fmDone dt _ =>
    (advance dt s, [.clk, .ints, .held, .lic])
  | .ctuAdjStep .. =>
    (s, [.vrc, .rot, .cys, .clk, .tim, .xn, .recd, .twl, .lnc, .bw, .ints, .mems, .cores, .vmem, .held, .noted,
      .lic])
  | .ctuAdjSlew .. =>
    (s, [.tim, .ints, .held, .lic])
  | .slewDone dt =>
    (advance dt s, [.tim, .ints, .held, .lic])
  | .ctuRateWrite .. =>
    (s, [.tim, .recd, .noted])
  | .ebThresholdCrossed dt | .announceReceived dt _ _ | .followUpReceived dt _ _ _ _ _ | .twinTimeFrame dt _ _ |
    .announceReceiptTimeout dt =>
    (advance dt s, [.drawn, .vrc, .rot, .cys, .clk, .tim, .xn, .recd, .twl, .lnc, .bw, .ints, .mems, .cores,
      .vmem, .held, .noted, .lic])
  | .syncReceived dt _ _ _ _ _ _ | .syncIntervalExpiry dt | .pdelayReqReceived dt _ | .bankSyncFrameSend dt _ _ =>
    (advance dt s, [.tim])
  | .syncTimeout dt | .pdelayReqInterval dt _ =>
    (advance dt s, [.tim, .recd, .ints, .held, .noted, .lic])
  | .pdelayRespReceived dt _ _ _ =>
    (advance dt s, [.tim, .noted])
  | .tcForward dt _ _ _ _ _ _ =>
    (advance dt s, [.tim, .recd, .noted])
  | .bankSyncPulse dt _ _ =>
    (advance dt s, [.rot, .cys, .clk, .tim, .banks, .chans, .recd, .twl, .lnc, .bw, .ints, .mems, .cores, .held,
      .noted, .lic])
  | .filteredStateChange dt _ _ =>
    (advance dt s, [.cys, .banks, .chans, .recd, .ints, .held, .noted, .lic])
  | .discrepancyTimeout dt _ | .darkPulseEnd dt _ _ | .bankTimeout dt _ =>
    (advance dt s, [.chans, .recd, .ints, .held, .noted, .lic])
  | .comparatorInversion .. | .switchSenseFault .. | .gateSetDisagree .. | .readbackFault .. | .overload .. |
    .bankOverload .. | .syncLost .. =>
    (s, [.chans, .recd, .ints, .held, .noted, .lic])
  | .darkTestStart dt _ =>
    (advance dt s, [.chans])
  | .supplyState dt _ _ _ =>
    (advance dt s, [.tim, .banks, .recd, .ints, .held, .noted, .lic])
  | .glazePost .. =>
    (s, [.rot, .cys, .clk, .tim, .banks, .chans, .recd, .twl, .lnc, .bw, .ints, .mems, .cores, .held, .noted,
      .lic])
  | .glazeLaunch dt _ =>
    (advance dt s, [.rot, .cys, .clk, .tim, .banks, .chans, .recd, .twl, .lnc, .bw, .mems, .cores, .lic])
  | .macrocycleStart dt _ =>
    (advance dt s, [.vrc, .cys, .chans, .xn, .recd, .twl, .ints, .vmem, .held, .noted, .lic])
  | .slotStart dt _ _ | .xenexFrameReceived dt _ _ _ =>
    (advance dt s, [.vrc, .chans, .xn, .recd, .twl, .ints, .vmem, .held, .noted, .lic])
  | .slotComplete dt _ =>
    (advance dt s, [.vrc, .cys, .xn, .recd, .kiln, .twl, .ints, .vmem, .held, .noted, .lic])
  | .cycleStartReceived dt _ _ =>
    (advance dt s, [.vrc, .cys, .xn, .recd, .twl, .ints, .vmem, .held, .noted, .lic])
  | .xenexSilenceTimeout dt =>
    (advance dt s, [.xn, .recd, .ints, .held, .noted, .lic])
  | .contendDelayEnd dt =>
    (advance dt s, [.xn])
  | .coldstartEnd dt =>
    (advance dt s, [.vrc, .xn, .recd, .twl, .ints, .vmem, .held, .noted, .lic])
  | .xnCollision .. | .xnbTakeover | .xnbRelease | .claimReceived .. | .carrierDetected =>
    (s, [.xn, .recd, .ints, .held, .noted, .lic])
  | .acycTimeout dt =>
    (advance dt s, [.xn, .recd, .kiln, .ints, .held, .noted, .lic])
  | .gatewayRead .. | .gdpRead .. | .keyxChallenge .. | .recorderRead .. =>
    (s, [.rot, .cys, .clk, .tim, .banks, .xn, .recd, .boot, .kiln, .twl, .lnc, .bw, .mems, .cores, .noted,
      .lic])
  | .heartbeatStrobe dt =>
    (advance dt s, [.twl, .noted])
  | .heartbeatReceived dt _ | .heartbeatMiss dt _ =>
    (advance dt s, [.tim, .banks, .xn, .recd, .twl, .ints, .held, .noted, .lic])
  | .twinFaultReceived dt _ =>
    (advance dt s, [.tim, .xn, .recd, .twl, .ints, .held, .noted, .lic])
  | .takeoverGateRelease dt =>
    (advance dt s, [.banks, .recd, .twl, .noted])
  | .twinInputFrame .. | .twinCmdHandoverAck .. | .twpPulseError =>
    (s, [.twl])
  | .twinRxframe .. =>
    (s, [.twl, .lnc])
  | .twinCheckFrame .. =>
    (s, [.mod, .pwr, .vrc, .rot, .cys, .clk, .banks, .chans, .xn, .recd, .boot, .kiln, .twl, .lnc, .cpn, .cfd,
      .brg, .bw, .ints, .cores, .vmem, .held, .noted, .lic])
  | .twinHealthFrame .. =>
    (s, [.twl, .ints, .held, .lic])
  | .twinCraze .. =>
    (s, [.recd, .twl, .noted])
  | .twinCmdRevertReq dt _ =>
    (advance dt s, [.recd, .twl, .noted])
  | .twinCmdHandover dt _ _ | .twinCopyDone dt | .twinChecksumDone dt | .twinCmdJoin dt _ _ | .twinIntegRetry dt
    | .revertHoldExpiry dt | .twinFwdHoldRelease dt | .timeFrameInterval dt =>
    (advance dt s, [.twl])
  | .handoverHoldChange dt =>
    (advance dt s, [.cys, .banks, .xn, .recd, .twl, .ints, .held, .noted, .lic])
  | .twinCmdOlcSwitch .. =>
    (s, [.cys, .twl])
  | .twinCmdIntegStart dt _ _ | .twinPeerSilentTimeout dt =>
    (advance dt s, [.recd, .twl, .ints, .held, .noted, .lic])
  | .twinLatencyDone dt _ =>
    (advance dt s, [.cys, .twl, .cores, .lic])
  | .twinPageFrame .. =>
    (s, [.vrc, .rot, .twl, .mems, .vmem])
  | .twinFwdFrame .. =>
    (s, [.rot, .recd, .twl, .ints, .mems, .cores, .vmem, .held, .noted, .lic])
  | .twinStaterecFrame dt _ _ =>
    (advance dt s, [.cys, .recd, .twl, .ints, .cores, .held, .noted, .lic])
  | .twinPeerIntegratingTimeout dt =>
    (advance dt s, [.banks, .recd, .twl, .ints, .held, .noted, .lic])
  | .switchFrameReceived dt _ _ =>
    (advance dt s, [.recd, .lnc, .noted])
  | .internalPortReceive dt _ _ =>
    (advance dt s, [.recd, .twl, .lnc, .noted])
  | .receiveSlotWrite dt _ =>
    (advance dt s, [.vrc, .twl, .lnc, .ints, .vmem, .held, .lic])
  | .linkChange dt _ _ =>
    (advance dt s, [.clk, .tim, .recd, .lnc, .cpn, .ints, .held, .noted, .lic])
  | .prpFrameReceived dt _ _ =>
    (advance dt s, [.cpn, .vmem])
  | .prpSupervisionInterval dt =>
    (advance dt s, [.cpn])
  | .prpLanFail dt _ =>
    (advance dt s, [.recd, .cpn, .noted])
  | .gdpOpen .. | .gdpClose .. =>
    (s, [.banks, .recd, .boot, .kiln, .noted])
  | .gdpSessionIdleTimeout dt _ | .transferAbandonTimeout dt _ =>
    (advance dt s, [.recd, .boot, .kiln, .noted])
  | .keyxLockoutEnd dt | .usdoTimeout dt _ =>
    (advance dt s, [.kiln])
  | .klmVerdict7Write .. =>
    (s, [.kiln])
  | .safetyReserve dt =>
    (advance dt s, [.rot, .cys, .banks, .recd, .kiln, .twl, .ints, .held, .noted, .lic])
  | .safetyCommit dt =>
    (advance dt s, [.recd, .kiln, .noted])
  | .safetyTimeout dt =>
    (advance dt s, [.banks, .recd, .kiln, .twl, .ints, .held, .noted, .lic])
  | .safetyValueFromActive .. =>
    (s, [.banks, .recd, .kiln, .twl, .brg, .ints, .held, .noted, .lic])
  | .debugBreakpointHit .. =>
    (s, [.mod, .vrc, .rot, .cys, .banks, .chans, .xn, .recd, .kiln, .twl, .ints, .cores, .held, .noted, .lic])
  | .fwBlock .. | .appImageBlock .. | .scheduleTableBlock .. =>
    (s, [.banks, .xn, .recd, .boot, .kiln, .noted])
  | .flashSectorErased dt =>
    (advance dt s, [.banks, .recd, .boot, .kiln, .noted])
  | .eventSubmit .. | .recEv3Write .. =>
    (s, [.recd, .noted])
  | .recordWrite dt _ | .headRewrite dt _ =>
    (advance dt s, [.drawn, .mod, .pwr, .vrc, .rot, .cys, .clk, .tim, .banks, .chans, .xn, .recd, .boot, .kiln,
      .twl, .lnc, .cpn, .cfd, .brg, .bw, .ints, .mems, .cores, .vmem, .held, .noted, .lic, .mram])
  | .optimeSave dt | .tokenRefill dt _ =>
    (advance dt s, [.recd])
  | .postedWriteComplete dt =>
    (advance dt s, [.chans, .recd, .kiln, .cpn, .cfd, .brg, .ints, .cores, .vmem, .held, .noted, .lic])
  | .brgPwerr dt _ =>
    (advance dt s, [.recd, .brg, .ints, .cores, .held, .noted, .lic])
  | .farSideReadResponse dt _ =>
    (advance dt s, [.drawn, .vrc, .cys, .clk, .banks, .chans, .recd, .kiln, .twl, .cpn, .cfd, .brg, .ints,
      .cores, .vmem, .held, .noted, .lic])
  | .farSideReadTimeout dt =>
    (advance dt s, [.drawn, .vrc, .cys, .clk, .banks, .recd, .twl, .brg, .ints, .cores, .held, .noted, .lic])
  | .brgTagFree dt =>
    (advance dt s, [.vrc, .cys, .clk, .banks, .recd, .twl, .brg, .ints, .cores, .held, .noted, .lic])
  | .brgSemExpired dt _ | .prefetchExpiry dt =>
    (advance dt s, [.recd, .brg, .ints, .held, .noted, .lic])
  | .forwardedInterruptEdge .. =>
    (s, [.ints, .held, .lic])
  | .cfdTpdotrigWrite .. =>
    (s, [.chans, .cfd])
  | .tpdoEventTimer dt _ _ | .canBusoffRecovery dt _ | .canProducerHeartbeat dt _ =>
    (advance dt s, [.chans, .cfd])
  | .rpdoReceived dt _ _ _ =>
    (advance dt s, [.drawn, .brg, .vmem])
  | .canBusoff .. =>
    (s, [.chans, .recd, .cfd, .noted])
  | .nmtCommand .. =>
    (s, [.chans, .recd, .boot, .kiln, .cfd, .noted])
  | .canHbLost dt _ =>
    (advance dt s, [.recd, .cfd, .noted])
  | .bandwidthWindowEnd dt =>
    (advance dt s, [.bw])
  | .gapDump dt | .periodicDump dt =>
    (advance dt s, [.mod, .pwr, .vrc, .rot, .cys, .banks, .chans, .xn, .recd, .kiln, .twl, .ints, .mems, .cores,
      .held, .noted, .lic])
  | .sourceInvalid dt _ | .emberfailClear dt =>
    (advance dt s, [.clk])
  | .readbackAgrees .. =>
    (s, [.chans])
  | .healthFrameInterval dt =>
    (advance dt s, [.drawn, .twl])
  | .crazeFlagClear .. =>
    (s, [.twl, .noted])
  | .standbyImageStage .. =>
    (s, [.rot, .cys, .recd, .twl, .mems, .noted])
  | .macAddressAgeing dt _ _ =>
    (advance dt s, [.lnc])
  | .canHeartbeatReceived .. =>
    (s, [.cfd])

/-- A step ended in a next state. -/
def Completed : Host.Outcome State Fault Refusal → Prop
  | .next _ => True
  | .fault _ | .refused _ => False

end Sys2Proof.Machine
end

