-- ==== Sys2Proof/Certificates/Slice0/Obligations.lean ====
section
/-! DEFINITION. The statements for the provers. -/

section

open Sys2Proof Sys2Proof.Machine

/-- A step takes the command at the front of the queue and carries it out with the rest of the queue waiting; on an
empty queue one count of the free-running counter passes, which is the model's choice (log 2) and no rule of the
spec. -/
def Obligations.StepRunsFrontCommand : Prop :=
  (∀ (s : State) (c : Instr), step { s with pending := c :: s.pending } = exec c s) ∧
  (∀ s : State, s.pending = [] → step s = .next (advance 1 s))

/-- In 2oo3 and 2oo2, when every ACTIVE lane presents the same beat in an aligned clock, LANE_BEAT answers a next
state: that beat enters the fabric and nothing is excluded; the inputs of lanes that are not ACTIVE do not matter.
-/
def Obligations.VoterForwardsAgreedBeat : Prop :=
  ∀ (s : State) (b : Beat) (i0 i1 i2 i3 : LaneInput),
    ((s.vrc.mode = .oo3 ∧ (activeLanes s).length = 3) ∨ (s.vrc.mode = .oo2 ∧ (activeLanes s).length = 2)) →
    (∀ l ∈ activeLanes s, pick4 i0 i1 i2 i3 l = .beat b) →
      exec (.laneBeat i0 i1 i2 i3) s = .next (busForward b none s)

/-- In 2oo3 with no rewedge in progress, when one of three ACTIVE lanes presents a beat that differs from the beat
of the other two, LANE_BEAT forwards the majority's beat after an exclusion that leaves the voting mode 2oo2, shows
the lane in VRC_EXCL with cause 1, counts it in VRC_XCOUNT, asserts interrupt 32, leaves the lane QUARANTINE or
RETIRED with its port fenced and no gate set, and keeps the state of the other lanes. -/
def Obligations.MinorityLaneLeavesTheVote : Prop :=
  ∀ (s : State) (m : Fin 4) (x b : Beat) (i0 i1 i2 i3 : LaneInput),
    s.vrc.mode = .oo3 → s.rot.rewedge = none → (activeLanes s).length = 3 → m ∈ activeLanes s →
    beatDiff x b ≠ 0 → beatDiff b x ≠ 0 → pick4 i0 i1 i2 i3 m = .beat x →
    (∀ j ∈ activeLanes s, j ≠ m → pick4 i0 i1 i2 i3 j = .beat b) →
      ∃ t, exec (.laneBeat i0 i1 i2 i3) s = .next (busForward b none t) ∧
        t.vrc.mode = .oo2 ∧ t.vrc.exCause = 1 ∧ t.vrc.exLane = m.val ∧ t.vrc.exNoMaj = false ∧
        t.vrc.xcount = inc32 s.vrc.xcount ∧ Asserted 32 t.ints ∧
        (laneState t m = .quarantine ∨ laneState t m = .retired) ∧
        (t.vrc.lanes[m]).fenced = true ∧ (t.vrc.lanes[m]).gate = none ∧
        ∀ j, j ≠ m → laneState t j = laneState s j

/-- In RUN-2oo2, when the two ACTIVE lanes present beats that differ, LANE_BEAT answers a state in SAFE-HOLD with
voting mode none and cause 0x1004 whose lanes drive no gate set and whose ports, save those of RETIRED lanes, are
fenced; no lane is ACTIVE. -/
def Obligations.NoMajorityTakesSafeHold : Prop :=
  ∀ (s : State) (a c : Fin 4) (x b : Beat) (i0 i1 i2 i3 : LaneInput),
    s.vrc.mode = .oo2 → s.mod.state = .run2oo2 → activeLanes s = [a, c] → beatDiff x b ≠ 0 →
    pick4 i0 i1 i2 i3 a = .beat x → pick4 i0 i1 i2 i3 c = .beat b →
      ∃ t, exec (.laneBeat i0 i1 i2 i3) s = .next t ∧ t.mod.state = .safeHold ∧ t.mod.cause = 0x1004 ∧
        t.vrc.mode = .none ∧ t.vrc.subst = false ∧ (∀ l : Fin 4, (t.vrc.lanes[l]).gate = none ∨ (t.vrc.lanes[l]).state = .retired) ∧
        (∀ l : Fin 4, (t.vrc.lanes[l]).fenced = true ∨ (t.vrc.lanes[l]).state = .retired) ∧
        activeLanes t = []

/-- When a SPARE lane signals LOCKSTEP_MISMATCH, the command answers a state in which the lane is silent and fenced,
LKS_MMINFO shows the class and the groups, event 0x1001 has gone to the recorder and interrupt 33 is asserted;
LANE_MEM_UE does the same with class 5 for SRAM and 6 for DRAM and event 0x1009; a RETIRED lane does nothing.
QUARANTINE_TESTS_DONE with a pass makes a QUARANTINE lane SPARE with stale memory, last in the waiting lanes, and
asserts interrupt 35; a failed MBIST retires it with test code 3, its port fenced, its domain switched off and
interrupt 36; FABRIC_RESPONSE with nothing on its way back changes nothing, and in 1oo1 the oldest read data reaches
both cores of that lane. -/
def Obligations.SilentAndQuarantinedLanes : Prop :=
  (∀ (s : State) (l : Fin 4) (cls : BitVec 4) (g : BitVec 13), s.vrc.mode ≠ .split → laneState s l = .spare →
    ∃ t, exec (.lockstepMismatch l cls g) s = .next t ∧ (t.vrc.lanes[l]).silent = true ∧
      (t.vrc.lanes[l]).fenced = true ∧ (t.vrc.lanes[l]).mmClass = cls.toNat ∧ (t.vrc.lanes[l]).mmGroups = g ∧
      Asserted 33 t.ints ∧ t.vrc.mode = s.vrc.mode ∧ t.mod = s.mod ∧
      t.recd = (submitEvent s.recd 1 10 0x1001 l.val (cls.toNat * 2 ^ 16 + g.toNat) (s.tim.frc.toNat % 2 ^ 32)).1) ∧
  (∀ (s : State) (l : Fin 4) (a : BitVec 40), s.vrc.mode ≠ .split → laneState s l = .spare →
    ∃ t, exec (.laneMemUe l a) s = .next t ∧ (t.vrc.lanes[l]).silent = true ∧
      (t.vrc.lanes[l]).mmClass = (if a.toNat < 2 ^ 32 then 6 else 5) ∧ (t.vrc.lanes[l]).mmGroups = 0 ∧
      Asserted 33 t.ints ∧ t.vrc.mode = s.vrc.mode ∧ t.mod = s.mod ∧
      t.recd = (submitEvent s.recd 1 10 0x1009 l.val (a.toNat % 2 ^ 32) (a.toNat / 2 ^ 32)).1) ∧
  (∀ (s : State) (l : Fin 4) (cls : BitVec 4) (g : BitVec 13) (a : BitVec 40), s.vrc.mode ≠ .split →
    laneState s l = .retired → exec (.lockstepMismatch l cls g) s = .next s ∧ exec (.laneMemUe l a) s = .next s) ∧
  (∀ (s : State) (l : Fin 4), laneState s l = .quarantine →
    ∃ t, exec (.quarantineTestsDone l .pass) s = .next t ∧ laneState t l = .spare ∧
      (t.vrc.lanes[l]).stale = true ∧ t.rot.waiting.getLast? = some l ∧ Asserted 35 t.ints ∧
      ∀ j, j ≠ l → t.vrc.lanes[j] = s.vrc.lanes[j]) ∧
  (∀ (s : State) (l : Fin 4), laneState s l = .quarantine →
    ∃ t, exec (.quarantineTestsDone l .mbist) s = .next t ∧ laneState t l = .retired ∧
      (t.vrc.lanes[l]).fenced = true ∧ (t.vrc.lanes[l]).gate = none ∧
      t.pwr.on = putBit s.pwr.on (1 + l.val) false ∧ Asserted 36 t.ints ∧
      (t.vrc.lanes[l]).retired = some { test := 3, optime := s.recd.optime, addr := none } ∧
      t.recd = (submitEvent s.recd 1 10 0x1006 l.val 3 (s.vrc.lanes[l]).qCause).1) ∧
  (∀ (s : State), s.vrc.responses = [] → exec (.fabricResponse none) s = .next s) ∧
  (∀ (s : State) (r : Response) (q : List Response), s.vrc.responses = r :: q → s.vrc.mode = .oo1 →
    ∃ t, exec (.fabricResponse none) s = .next t ∧ t.vrc.responses = q ∧
      (t.cores[coreP s.vrc.svc]).port = some r ∧ (t.cores[coreS s.vrc.svc]).port = some r)

/-- ROTATION_TIMER_EXPIRY in a RUN state leaves the timer at 0 and makes a swap pending where rotation is enabled;
BISQUE_OVERDUE records 0x1019 for an ACTIVE lane not yet noted, with the OPTIME of its last passed bisque, and notes
it, and does nothing for a lane already noted. -/
def Obligations.RotationTimerAndOverdue : Prop :=
  (∀ (s : State) (dt : Nat), isRun s = true →
    ∃ t, exec (.rotationTimerExpiry dt) s = .next t ∧ t.rot.due = 0 ∧
      t.rot.pend = ((advance dt s).rot.pend || (advance dt s).rot.en) ∧
      t.rot.period = (advance dt s).rot.period ∧ t.vrc = s.vrc ∧ t.mod = s.mod) ∧
  (∀ (s : State) (l : Fin 4), laneState s l = .active → (s.vrc.lanes[l]).overdue = false →
    ∃ t, exec (.bisqueOverdue l) s = .next t ∧ (t.vrc.lanes[l]).overdue = true ∧
      (∀ j, j ≠ l → t.vrc.lanes[j] = s.vrc.lanes[j]) ∧
      t.recd = (submitEvent s.recd 1 10 0x1019 l.val ((s.vrc.lanes[l]).bisqueAt % 2 ^ 32)
        ((s.vrc.lanes[l]).bisqueAt / 2 ^ 32)).1) ∧
  (∀ (s : State) (l : Fin 4), (s.vrc.lanes[l]).overdue = true → exec (.bisqueOverdue l) s = .next s)

/-- At the boundary that ends a swap gap, BISQUE_SWAP answers a state in which the joining lane is ACTIVE on the
outgoing lane's gate set with its port open, the outgoing lane is BISQUE with its port fenced and no gate set and
bisque step 1 begins, the bisque period starts again, no swap is pending, the swap is counted and interrupt 48 is
asserted. -/
def Obligations.SwapHandsOverTheGateSet : Prop :=
  ∀ (s : State) (dt : Nat) (r : Rewedge) (x : Fin 4), (advance dt s).rot.rewedge = some r →
    r.out = some x → r.done = true → x ≠ r.joining →
    ∃ t, exec (.bisqueSwap dt) s = .next t ∧ laneState t r.joining = .active ∧
      (t.vrc.lanes[r.joining]).gate = some r.gate ∧ (t.vrc.lanes[r.joining]).fenced = false ∧
      laneState t x = .bisque ∧ (t.vrc.lanes[x]).gate = none ∧ (t.vrc.lanes[x]).fenced = true ∧
      (∀ j, j ≠ x → j ≠ r.joining → t.vrc.lanes[j] = s.vrc.lanes[j]) ∧
      t.rot.bLane = x ∧ t.rot.bStep = 1 ∧ t.rot.rewedge = none ∧ t.rot.pend = false ∧
      t.rot.due = t.rot.period ∧ t.rot.swaps = inc32 (advance dt s).rot.swaps ∧ Asserted 48 t.ints ∧
      t.vrc.mode = s.vrc.mode ∧ t.mod = s.mod

/-- At the boundary that ends a substitution gap, SUBSTITUTED answers a state in which the joining lane is ACTIVE on
the gate set of the rewedge, the voting mode is 2oo3 with SUBST = 0, the module state is RUN-2oo3, no gate set is
vacant, the substitution is counted and interrupt 49 is asserted. -/
def Obligations.SubstitutionRestoresThreeLanes : Prop :=
  ∀ (s : State) (dt : Nat) (r : Rewedge), (advance dt s).rot.rewedge = some r →
    r.out = none → r.done = true →
    ∃ t, exec (.substituted dt) s = .next t ∧ laneState t r.joining = .active ∧
      (t.vrc.lanes[r.joining]).gate = some r.gate ∧ (∀ j, j ≠ r.joining → t.vrc.lanes[j] = s.vrc.lanes[j]) ∧
      t.vrc.mode = .oo3 ∧ t.vrc.subst = false ∧ t.mod.state = .run2oo3 ∧ t.rot.rewedge = none ∧
      t.rot.vacant = none ∧ t.rot.substitutions = inc32 (advance dt s).rot.substitutions ∧ Asserted 49 t.ints

/-- When the state records of the ACTIVE lanes agree and the loaded record reads back, REWEDGE in progress answers a
state in which the rewedge is loaded, both cores of the joining lane hold the registers and the pc of the lowest
ACTIVE lane's core P, and the outgoing lane of a swap is fenced; nothing happens without a rewedge in progress. -/
def Obligations.RewedgeLoadsTheJoiningLane : Prop :=
  (∀ (s : State) (dt : Nat) (r : Rewedge) (a : Fin 4) (ls : List (Fin 4)) (b : Beat),
    (advance dt s).rot.rewedge = some r → r.done = false → activeLanes s = a :: ls → r.joining ∉ activeLanes s →
    recordVote (advance dt s) = .forward b →
    ∃ t, exec (.rewedge dt true) s = .next t ∧ t.rot.rewedge = some { r with done := true } ∧
      (t.cores[coreP r.joining]).x = ((advance dt s).cores[coreP a]).x ∧
      (t.cores[coreS r.joining]).x = ((advance dt s).cores[coreP a]).x ∧
      (t.cores[coreP r.joining]).pc = ((advance dt s).cores[coreP a]).pc ∧
      (∀ o, r.out = some o → (t.vrc.lanes[o]).fenced = true)) ∧
  (∀ (s : State) (dt : Nat) (ok : Bool), (advance dt s).rot.rewedge = none →
    exec (.rewedge dt ok) s = .next (advance dt s))

/-- BISQUE_STEP_COMPLETE with a pass in steps 1 to 5 starts the next step; in step 6 the lane becomes SPARE with
memory of zeros and result PASS, its last bisque is now, and interrupt 50 is asserted; an overrun of step 4 takes
the lane to QUARANTINE or RETIRED with result FAIL and step 4 noted. -/
def Obligations.BisqueStepsPassAndFail : Prop :=
  (∀ (s : State) (dt : Nat), 1 ≤ s.rot.bStep → s.rot.bStep ≤ 5 → (advance dt s).rot.bStep = s.rot.bStep →
    ∃ t, exec (.bisqueStepComplete dt .pass) s = .next t ∧ t.rot.bStep = s.rot.bStep + 1 ∧
      t.rot.bStepFrc = (advance dt s).tim.frc ∧ t.mod = s.mod ∧ t.vrc.mode = s.vrc.mode) ∧
  (∀ (s : State) (dt : Nat), (advance dt s).rot.bStep = 6 →
    ∃ t, exec (.bisqueStepComplete dt .pass) s = .next t ∧ t.rot.bStep = 0 ∧ t.rot.bResult = 2 ∧
      laneState t (advance dt s).rot.bLane = .spare ∧ (t.vrc.lanes[(advance dt s).rot.bLane]).stale = false ∧
      (t.vrc.lanes[(advance dt s).rot.bLane]).bisqueAt = (advance dt s).recd.optime ∧
      t.mems[coreP (advance dt s).rot.bLane] = [] ∧ Asserted 50 t.ints) ∧
  (∀ (s : State) (dt : Nat), (advance dt s).rot.bStep = 4 →
    ∃ t, exec (.bisqueStepOverrun dt) s = .next t ∧ t.rot.bStep = 0 ∧ t.rot.bResult = 3 ∧ t.rot.bFail = 4 ∧
      (laneState t (advance dt s).rot.bLane = .quarantine ∨ laneState t (advance dt s).rot.bLane = .retired) ∧
      (t.vrc.lanes[(advance dt s).rot.bLane]).fenced = true)

/-- WEDGING_START in 2oo3 or 2oo2 with no spare present makes the first waiting lane WEDGING and removes it from the
waiting lanes, with zero fill first where its memory is stale; ZERO_FILL_DONE leaves that lane's memory of zeros and
not stale and begins the catch-up copy; MIRROR_HOLD_RELEASE leaves 2,048 entries in the FIFO and ends the hold. -/
def Obligations.WedgingStartsWithTheFirstWaitingLane : Prop :=
  (∀ (s : State) (l : Fin 4) (q : List (Fin 4)), s.rot.waiting = l :: q →
    (s.vrc.mode = .oo3 ∨ s.vrc.mode = .oo2) → spareLane s = none →
    ∃ t, exec .wedgingStart s = .next t ∧ laneState t l = .wedging ∧ t.rot.waiting = q ∧ t.rot.wLane = l ∧
      t.rot.wPhase = (if (s.vrc.lanes[l]).stale then 1 else 2) ∧ (∀ j, j ≠ l → t.vrc.lanes[j] = s.vrc.lanes[j])) ∧
  (∀ (s : State), s.rot.waiting = [] → exec .wedgingStart s = .next s) ∧
  (∀ (s : State) (dt : Nat), (advance dt s).rot.wPhase = 1 →
    ∃ t, exec (.zeroFillDone dt) s = .next t ∧ t.rot.wPhase = 2 ∧ t.mems[coreP (advance dt s).rot.wLane] = [] ∧
      (t.vrc.lanes[(advance dt s).rot.wLane]).stale = false) ∧
  (∀ (s : State) (dt : Nat), (advance dt s).rot.hold = true → 2048 ≤ (advance dt s).rot.fifo.length →
    ∃ t, exec (.mirrorHoldRelease dt) s = .next t ∧ t.rot.fifo.length = 2048 ∧ t.rot.hold = false)

/-- CATCH_UP_COPY_DONE with agreeing copies leads to the checksum round and leaves no entry waiting in the mirror
FIFO; CHECKSUM_ROUND_DONE without a difference makes the lane WEDGED and asserts interrupt 52. -/
def Obligations.CatchUpCopyAndChecksumWedgeTheLane : Prop :=
  (∀ (s : State) (dt : Nat), (advance dt s).rot.wPhase = 2 →
    ∃ t, exec (.catchUpCopyDone dt .agree) s = .next t ∧ t.rot.wPhase = 3 ∧ t.rot.fifo = [] ∧ t.vrc = s.vrc ∧
      t.mod = s.mod) ∧
  (∀ (s : State) (dt : Nat), (advance dt s).rot.wPhase = 3 ∨ (advance dt s).rot.wPhase = 4 →
    ∃ t, exec (.checksumRoundDone dt .agree []) s = .next t ∧ t.rot.wPhase = 5 ∧
      laneState t (advance dt s).rot.wLane = .wedged ∧ Asserted 52 t.ints ∧ t.vrc.mode = s.vrc.mode)

/-- In every mode in which lanes run the instruction stream, OPR_ALU, OPRW_WORD_OP, MULTIPLY, BITOP, ALU_IMMEDIATE,
SHIFT_IMMEDIATE with a legal count, LUI, INSH and LAPC complete: in every running core xd takes the result of the
operation on the operands that core holds, a write to x0 is discarded, PC goes on by 4, and the floating-point
registers and everything outside the cores stay. -/
def Obligations.RegisterInstructionsWriteXd : Prop :=
  ∀ (core : Fin 8) (s : State), Executes core s → Untrapped s →
    (∀ op d a b, Takes (.oprAlu core op d a b) core s d (fun c => aluOp op (c.getX a) (c.getX b))) ∧
    (∀ op d a b, Takes (.oprwWordOp core op d a b) core s d (fun c => aluwOp op (c.getX a) (c.getX b))) ∧
    (∀ op d a b, Takes (.multiply core op d a b) core s d (fun c => mulOp op (c.getX a) (c.getX b))) ∧
    (∀ op d a b, Takes (.bitop core op d a b) core s d (fun c => bitOp op (c.getX a) (c.getX b))) ∧
    (∀ op d a imm, Takes (.aluImmediate core op d a imm) core s d (fun c => immOp op (c.getX a) imm)) ∧
    (∀ op w d a n, (w = true → n.getLsbD 5 = false) →
      Takes (.shiftImmediate core op w d a n) core s d (fun c => shiftOp op w (c.getX a) n.toNat)) ∧
    (∀ d imm, Takes (.lui core d imm) core s d (fun _ => imm.signExtend 64 <<< 16)) ∧
    (∀ d h imm, Takes (.insh core d h imm) core s d (fun c => insertHalf (c.getX d) h.val imm)) ∧
    (∀ d imm, Takes (.lapc core d imm) core s d (fun c => c.pc + (imm.signExtend 64 <<< 16)))

/-- DIVIDE by 0 with DZT = 0 writes a quotient with all bits set or the dividend as remainder, with DZT = 1 it
raises cause 14 with d not written; the most negative value divided by -1 gives that value and remainder 0; every
division sets no flag; EXTU and EXTS give 0 for n = 0, cut n at 64 - p, and EXTS takes the sign from bit p + n - 1;
a count of 0 returns xa, or xa[31:0] sign-extended for the W forms. -/
def Obligations.IntegerDivisionIsDefined : Prop :=
  (∀ (core : Fin 8) (s : State) (op : DivOp) (d a b : Fin 32), Executes core s → Untrapped s →
    (∀ k ∈ execCores core s, divZero op ((s.cores[k]).getX b) = false ∨ (s.cores[k]).dzt = false) →
      Takes (.divide core op d a b) core s d (fun c => divOp op (c.getX a) (c.getX b)) ∧
      ∃ t, exec (.divide core op d a b) s = .next t ∧
        ∀ k ∈ execCores core s, (t.cores[k]).word 8 = (s.cores[k]).word 8 ∧ (t.cores[k]).word 0 = (s.cores[k]).word 0) ∧
  (∀ x : Reg64, divOp .div x 0 = BitVec.allOnes 64 ∧ divOp .divu x 0 = BitVec.allOnes 64 ∧ divOp .rem x 0 = x ∧
    divOp .remu x 0 = x) ∧
  (∀ x y : Reg64, y.extractLsb' 0 32 = 0 → divOp .divw x y = BitVec.allOnes 64 ∧ divOp .divuw x y = BitVec.allOnes 64 ∧
    divOp .remw x y = (x.extractLsb' 0 32).signExtend 64 ∧ divOp .remuw x y = (x.extractLsb' 0 32).signExtend 64) ∧
  (∀ (core : Fin 8) (s : State) (op : DivOp) (d a b : Fin 32), Executes core s → s.cys.current = none →
    Uncombined core s → (∀ k ∈ execCores core s, divZero op ((s.cores[k]).getX b) = true ∧ (s.cores[k]).dzt = true) →
      Traps (.divide core op d a b) core s 14 0 (fun _ => none)) ∧
  (divOp .div (BitVec.intMin 64) (BitVec.allOnes 64) = BitVec.intMin 64 ∧
    divOp .rem (BitVec.intMin 64) (BitVec.allOnes 64) = 0) ∧
  (∀ x y : Reg64, x.extractLsb' 0 32 = BitVec.intMin 32 → y.extractLsb' 0 32 = BitVec.allOnes 32 →
    divOp .divw x y = (BitVec.intMin 32).signExtend 64 ∧ divOp .remw x y = 0) ∧
  (∀ x y : Reg64, y.toNat / 256 % 64 = 0 → bitOp .extu x y = 0 ∧ bitOp .exts x y = 0) ∧
  (∀ x y : Reg64, 0 < y.toNat / 256 % 64 →
    let p := y.toNat % 64
    let n := if 64 < p + y.toNat / 256 % 64 then 64 - p else y.toNat / 256 % 64
    ∀ j : Nat, j < 64 → (bitOp .extu x y).getLsbD j = (decide (j < n) && x.getLsbD (p + j)) ∧
      (bitOp .exts x y).getLsbD j = (if j < n then x.getLsbD (p + j) else x.getLsbD (p + n - 1))) ∧
  (∀ (x y : Reg64) (op : AluOp), op = .sll ∨ op = .srl ∨ op = .sra ∨ op = .ror → y.toNat % 64 = 0 → aluOp op x y = x) ∧
  (∀ (x y : Reg64) (op : AluwOp), op = .sllw ∨ op = .srlw ∨ op = .sraw ∨ op = .rorw → y.toNat % 32 = 0 →
    aluwOp op x y = (x.extractLsb' 0 32).signExtend 64) ∧
  (∀ (x : Reg64) (op : ShiftOp), shiftOp op false x 0 = x ∧ shiftOp op true x 0 = (x.extractLsb' 0 32).signExtend 64)

/-- When the target of JLR is not 4-byte aligned in the running cores, cause 3 is raised with CW_EPC the address of
the JLR and CW_BADADDR the target, and no general register changes; when PC lies outside lane DRAM and lane SRAM,
FETCH_FAULT raises cause 4 with CW_BADADDR the fetch address, and so does any instruction there. -/
def Obligations.JumpAndFetchFaults : Prop :=
  (∀ (core : Fin 8) (s : State) (d a : Fin 32) (imm : BitVec 16), Executes core s → s.cys.current = none →
    Uncombined core s → (∀ k ∈ execCores core s, ((s.cores[k]).getX a + imm.signExtend 64).toNat % 4 ≠ 0) →
      Traps (.jlr core d a imm) core s 3 0 (fun c => some (c.getX a + imm.signExtend 64))) ∧
  (∀ (core : Fin 8) (s : State) (op : AluOp) (d a b : Fin 32), execCores core s ≠ [] → s.cys.current = none →
    Uncombined core s →
    (∀ k ∈ execCores core s, (s.cores[k]).ready = true ∧ (s.cores[k]).imprecise = none ∧
      (regionOf (decide (s.vrc.mode = .split)) (s.cores[k]).pc.toNat).isMem = false) →
      Traps (.fetchFault core) core s 4 0 (fun c => some c.pc) ∧
      Traps (.oprAlu core op d a b) core s 4 0 (fun c => some c.pc))

/-- Whatever the level and the target, a misaligned LOAD raises cause 5 and a misaligned STORE cause 6 with
CW_BADADDR the address, and nothing outside the cores changes, neither memory nor anything a beat could reach; LDX
and STX do the same for their size. -/
def Obligations.MisalignedAccessesTrap : Prop :=
  loadSize .ldh = 2 ∧ loadSize .ldhu = 2 ∧ loadSize .ldw = 4 ∧ loadSize .ldwu = 4 ∧ loadSize .flw = 4 ∧
  loadSize .ldd = 8 ∧ loadSize .fld = 8 ∧ loadSize .ldp = 16 ∧ storeSize .sth = 2 ∧ storeSize .stw = 4 ∧
  storeSize .fsw = 4 ∧ storeSize .std = 8 ∧ storeSize .fsd = 8 ∧ storeSize .stp = 16 ∧
  (∀ (core : Fin 8) (s : State), Executes core s → s.cys.current = none → Uncombined core s →
    (∀ (op : LoadOp) (d a : Fin 32) (disp : BitVec 16), (op = .ldp → d.val % 2 = 0) →
      (∀ k ∈ execCores core s, ((s.cores[k]).getX a + disp.signExtend 64).toNat % loadSize op ≠ 0) →
        Traps (.load core op d a disp) core s 5 0 (fun c => some (c.getX a + disp.signExtend 64))) ∧
    (∀ (op : StoreOp) (d a : Fin 32) (disp : BitVec 16), (op = .stp → d.val % 2 = 0) →
      (∀ k ∈ execCores core s, ((s.cores[k]).getX a + disp.signExtend 64).toNat % storeSize op ≠ 0) →
        Traps (.store core op d a disp) core s 6 0 (fun c => some (c.getX a + disp.signExtend 64))) ∧
    (∀ (dbl : Bool) (d a : Fin 32),
      (∀ k ∈ execCores core s, ((s.cores[k]).getX a).toNat % (if dbl then 8 else 4) ≠ 0) →
        Traps (.ldx core dbl d a) core s 5 0 (fun c => some (c.getX a))) ∧
    (∀ (dbl : Bool) (d a b : Fin 32),
      (∀ k ∈ execCores core s, ((s.cores[k]).getX a).toNat % (if dbl then 8 else 4) ≠ 0) →
        Traps (.stx core dbl d a b) core s 6 0 (fun c => some (c.getX a))))

/-- With no task running, BREAK raises cause 13, SYSCALL cause 12 with its immediate as ARG, an illegal word cause
1, CWR, CWW, CWS and CWC of a reserved number cause 1; at Application level ERET, WFI and CACHE_INVALIDATE raise
cause 2, and so do CWR, CWW, CWS and CWC of a control word that is not open; in each case CW_EPC, CW_ESTATUS,
CW_CAUSE, the level and PC follow R132. -/
def Obligations.InstructionExceptions : Prop :=
  ∀ (core : Fin 8) (s : State), Executes core s → s.cys.current = none → Uncombined core s →
    Traps (.breakInstr core) core s 13 0 (fun _ => none) ∧
    (∀ imm, Traps (.syscall core imm) core s 12 imm.toNat (fun _ => none)) ∧
    (∀ w, wordIllegal w = true → Traps (.illegalInstruction core w) core s 1 0 (fun _ => none)) ∧
    (∀ (d a : Fin 32) (n : BitVec 16), wordExists n.toNat = false →
      Traps (.cwr core d n) core s 1 0 (fun _ => none) ∧ Traps (.cww core a n) core s 1 0 (fun _ => none) ∧
      Traps (.cws core d a n) core s 1 0 (fun _ => none) ∧ Traps (.cwc core d a n) core s 1 0 (fun _ => none)) ∧
    ((∀ k ∈ execCores core s, (s.cores[k]).exec = false) →
      Traps (.eret core) core s 2 0 (fun _ => none) ∧ Traps (.wfi core) core s 2 0 (fun _ => none) ∧
      (∀ op a, Traps (.cacheInvalidate core op a) core s 2 0 (fun _ => none)) ∧
      (∀ (d : Fin 32) (n : BitVec 16), wordExists n.toNat = true → ¬(8 ≤ n.toNat ∧ n.toNat ≤ 11) →
        Traps (.cwr core d n) core s 2 0 (fun _ => none)) ∧
      (∀ (d a : Fin 32) (n : BitVec 16), wordExists n.toNat = true → n.toNat ≠ 8 → n.toNat ≠ 9 →
        Traps (.cww core a n) core s 2 0 (fun _ => none) ∧ Traps (.cws core d a n) core s 2 0 (fun _ => none) ∧
        Traps (.cwc core d a n) core s 2 0 (fun _ => none)))

/-- A branch goes to PC plus 4 times its offset where its condition holds and on by 4 where it does not; J and JL go
to PC plus 4 times their offset, JL with the return address in x1; JLR with an aligned target goes there with the
return address in xd; FENCE.I goes on, FENCE by cores in unison with empty buffers passes its barrier and goes on;
CWR reads a control word that is open, CWW writes CW_SCRATCH0 at Executive, CWS and CWC set and clear bits of
CW_TPTR at every level and return its old value; ERET restores PC and CW_STATUS, WFI waits where no source would
qualify, and DCINVA leaves only locked ways. -/
def Obligations.ControlFlowAndControlWords : Prop :=
  ∀ (core : Fin 8) (s : State), Executes core s → s.cys.current = none →
    (∀ q d a off, ∃ t, exec (.branch core q d a off) s = .next t ∧ CoresOnly s t ∧ ∀ k ∈ execCores core s,
      (t.cores[k]).x = (s.cores[k]).x ∧ (t.cores[k]).f = (s.cores[k]).f ∧
        (t.cores[k]).pc = (s.cores[k]).pc +
          (if condHolds q ((s.cores[k]).getX d) ((s.cores[k]).getX a) then off.signExtend 64 * 4 else 4)) ∧
    (∀ link off, ∃ t, exec (.jJl core link off) s = .next t ∧ CoresOnly s t ∧ ∀ k ∈ execCores core s,
      (t.cores[k]).pc = (s.cores[k]).pc + off.signExtend 64 * 4 ∧ (t.cores[k]).f = (s.cores[k]).f ∧
        (t.cores[k]).x = (if link then (s.cores[k]).setX 1 ((s.cores[k]).pc + 4) else s.cores[k]).x) ∧
    (∀ d a imm, (∀ k ∈ execCores core s, ((s.cores[k]).getX a + imm.signExtend 64).toNat % 4 = 0) →
      ∃ t, exec (.jlr core d a imm) s = .next t ∧ CoresOnly s t ∧ ∀ k ∈ execCores core s,
        (t.cores[k]).pc = (s.cores[k]).getX a + imm.signExtend 64 ∧
          (t.cores[k]).x = ((s.cores[k]).setX d ((s.cores[k]).pc + 4)).x) ∧
    (∃ t, exec (.fenceI core) s = .next t ∧ CoresOnly s t ∧ ∀ k ∈ execCores core s,
      (t.cores[k]).pc = (s.cores[k]).pc + 4 ∧ (t.cores[k]).x = (s.cores[k]).x) ∧
    (Unison core s → Uncombined core s → (∀ k ∈ execCores core s, (s.cores[k]).sbuf = []) →
      ∃ t, exec (.fence core) s = .next t ∧ GoesOn core s t ∧ t.vmem = s.vmem) ∧
    (∀ (d : Fin 32) (n : BitVec 16), n = 8 ∨ n = 9 ∨ n = 10 →
      Takes (.cwr core d n) core s d (fun c => c.word n.toNat)) ∧
    (∀ (d a : Fin 32),
      (∃ t, exec (.cws core d a 9) s = .next t ∧ ∀ k ∈ execCores core s,
        (t.cores[k]).word 9 = ((s.cores[k]).word 9 ||| (s.cores[k]).getX a) ∧
          (t.cores[k]).x = ((s.cores[k]).setX d ((s.cores[k]).word 9)).x) ∧
      (∃ t, exec (.cwc core d a 9) s = .next t ∧ ∀ k ∈ execCores core s,
        (t.cores[k]).word 9 = ((s.cores[k]).word 9 &&& ~~~((s.cores[k]).getX a)) ∧
          (t.cores[k]).x = ((s.cores[k]).setX d ((s.cores[k]).word 9)).x)) ∧
    ((∀ k ∈ execCores core s, (s.cores[k]).exec = true) →
      (∀ a, ∃ t, exec (.cww core a 6) s = .next t ∧ ∀ k ∈ execCores core s,
        (t.cores[k]).word 6 = (s.cores[k]).getX a ∧ (t.cores[k]).pc = (s.cores[k]).pc + 4) ∧
      (Uncombined core s → ∃ t, exec (.eret core) s = .next t ∧ ∀ k ∈ execCores core s,
        (t.cores[k]).pc = (s.cores[k]).word 2 ∧ (t.cores[k]).word 0 = ((s.cores[k]).word 1 &&& 0xF) ∧
          (t.cores[k]).resv = none ∧ (t.cores[k]).x = (s.cores[k]).x) ∧
      ((∀ k ∈ execCores core s, (s.cores[k]).lpc.gen = false ∧ (s.cores[k]).lic.winner = none) →
        ∃ t, exec (.wfi core) s = .next t ∧ ∀ k ∈ execCores core s,
          (t.cores[k]).wfi = true ∧ (t.cores[k]).pc = (s.cores[k]).pc + 4) ∧
      (∀ a, ∃ t, exec (.cacheInvalidate core .dcinva a) s = .next t ∧ ∀ k ∈ execCores core s,
        (t.cores[k]).pc = (s.cores[k]).pc + 4 ∧
          ∀ l ∈ (t.cores[k]).dcache, l.way < 3 ∧ ((s.cores[k]).word 15).toNat.testBit l.way = true))

/-- At Executive level with empty store buffers and the D-cache off, an aligned LOAD of a general register from lane
memory takes the extended value of the octets there, a STORE puts its block into the store buffer and leaves memory,
LDX also takes the granule's reservation, STX without it writes 1 and stores nothing, with it 0 and stores;
MIRROR_ENTRY writes the oldest block of each running lane into its memory and does nothing while a hold is asserted
or in WIDE. -/
def Obligations.LaneMemoryIsReadAndWritten : Prop :=
  (∀ (core : Fin 8) (s : State) (d a : Fin 32) (disp : BitVec 16) (w : Nat), Executes core s → Untrapped s →
    (∀ k ∈ execCores core s, (s.cores[k]).exec = true ∧ (s.cores[k]).sbuf = [] ∧
      ((s.cores[k]).word 13).getLsbD 1 = false ∧ ((s.cores[k]).getX a + disp.signExtend 64).toNat = w ∧
      (regionOf (decide (s.vrc.mode = .split)) w).isMem = true) →
    (∀ op : LoadOp, op ≠ .ldp → op ≠ .flw → op ≠ .fld → w % loadSize op = 0 →
      ∃ t, exec (.load core op d a disp) s = .next t ∧ CoresOnly s t ∧ ∀ k ∈ execCores core s,
        (t.cores[k]).x = ((s.cores[k]).setX d (loadValue op (leNat (memRead s.mems[k] w (loadSize op))))).x ∧
          (t.cores[k]).pc = (s.cores[k]).pc + 4) ∧
    (∀ op : StoreOp, (op = .stp → d.val % 2 = 0) → w % storeSize op = 0 →
      ∃ t, exec (.store core op d a disp) s = .next t ∧ CoresOnly s t ∧ GoesOn core s t ∧ ∀ k ∈ execCores core s,
        (t.cores[k]).sbuf = [blockOf w (storeSize op) (storeValue op d s.cores[k])]) ∧
    (∀ dbl : Bool, disp = 0 → w % (if dbl then 8 else 4) = 0 →
      (∃ t, exec (.ldx core dbl d a) s = .next t ∧ CoresOnly s t ∧ ∀ k ∈ execCores core s,
        (t.cores[k]).resv = some (w / 16) ∧ (t.cores[k]).pc = (s.cores[k]).pc + 4) ∧
      (∀ b : Fin 32, (∀ k ∈ execCores core s, (s.cores[k]).resv ≠ some (w / 16)) →
        ∃ t, exec (.stx core dbl d a b) s = .next t ∧ CoresOnly s t ∧ ReadsInto core s t d 1 ∧
          ∀ k ∈ execCores core s, (t.cores[k]).sbuf = [] ∧ (t.cores[k]).resv = none) ∧
      (∀ b : Fin 32, (∀ k ∈ execCores core s, (s.cores[k]).resv = some (w / 16)) →
        ∃ t, exec (.stx core dbl d a b) s = .next t ∧ CoresOnly s t ∧ ReadsInto core s t d 0 ∧
          ∀ k ∈ execCores core s, (t.cores[k]).resv = none ∧
            (t.cores[k]).sbuf = [blockOf w (if dbl then 8 else 4) ((s.cores[k]).getX b).toNat]))) ∧
  (∀ (s : State) (e : MirrorEntry), s.vrc.mode ≠ .split → s.rot.hold = false → s.twl.fwdHold = false →
    Unison 0 s → (∀ k ∈ execCores 0 s, (s.cores[k]).sbuf.head? = some e) →
      ∃ t, exec .mirrorEntry s = .next t ∧ ∀ k ∈ execCores 0 s, (t.cores[k]).sbuf = (s.cores[k]).sbuf.drop 1 ∧
        t.mems[k] = memWriteBe s.mems[k] e.addr.toNat e.be e.data 16) ∧
  (∀ s : State, s.vrc.mode = .split ∨ s.rot.hold = true ∨ s.twl.fwdHold = true → exec .mirrorEntry s = .next s)

/-- FP_OPERATION and FMA complete for every operation, precision and operand: PC goes on by 4, no register but fd or
xd changes, CW_FPCSR keeps its rounding mode and every flag it had, and nothing outside the cores changes; FADD,
FSUB, FMUL, FDIV and FSQRT of a NaN give the canonical NaN, FMIN and FMAX of one NaN the other operand, a conversion
of a NaN to an integer 0 with NV set; FNEG, FABS and FCPYS act on the sign. -/
def Obligations.FloatingPointNeverTraps : Prop :=
  ∀ (core : Fin 8) (s : State) (dbl : Bool) (d a b : Fin 32), Executes core s → Untrapped s →
    let m := fmtOf dbl
    let bits (k : Fin 8) (i : Fin 32) : Nat := fpBits dbl ((s.cores[k]).getF i)
    let kept (t : State) : Prop := CoresOnly s t ∧ ∀ k ∈ execCores core s,
      (t.cores[k]).pc = (s.cores[k]).pc + 4 ∧ (∀ j : Fin 32, j ≠ d → (t.cores[k]).f[j] = (s.cores[k]).f[j]) ∧
        (∀ j : Fin 32, j ≠ d → (t.cores[k]).x[j] = (s.cores[k]).x[j]) ∧
        ((t.cores[k]).word 8).extractLsb' 0 3 = ((s.cores[k]).word 8).extractLsb' 0 3 ∧
        (∀ n : Nat, ((s.cores[k]).word 8).getLsbD n = true → ((t.cores[k]).word 8).getLsbD n = true)
    (∀ op, ∃ t, exec (.fpOperation core op dbl d a b) s = .next t ∧ kept t) ∧
    (∀ op c, ∃ t, exec (.fma core op dbl d a b c) s = .next t ∧ kept t) ∧
    ((∀ k ∈ execCores core s, (unpack m (bits k a)).isNan = true) →
      (∀ op, op = .fadd ∨ op = .fsub ∨ op = .fmul ∨ op = .fdiv ∨ op = .fsqrt →
        ∃ t, exec (.fpOperation core op dbl d a b) s = .next t ∧ ∀ k ∈ execCores core s,
          (t.cores[k]).f[d] = if dbl then 0x7FF8000000000000 else 0x7FC00000) ∧
      (∀ op, op = .fcvtL ∨ op = .fcvtLu ∨ op = .fcvtW ∨ op = .fcvtWu →
        ∃ t, exec (.fpOperation core op dbl d a b) s = .next t ∧ ∀ k ∈ execCores core s,
          (t.cores[k]).getX d = 0 ∧ ((t.cores[k]).word 8).getLsbD 8 = true) ∧
      ((∀ k ∈ execCores core s, (unpack m (bits k b)).isNan = false) →
        ∀ op, op = .fmin ∨ op = .fmax →
          ∃ t, exec (.fpOperation core op dbl d a b) s = .next t ∧ ∀ k ∈ execCores core s,
            (t.cores[k]).f[d] = BitVec.ofNat 64 (bits k b))) ∧
    (∃ t, exec (.fpOperation core .fneg dbl d a b) s = .next t ∧ ∀ k ∈ execCores core s,
      ∀ n : Nat, n < (if dbl then 64 else 32) → ((t.cores[k]).f[d]).getLsbD n =
        (((s.cores[k]).getF a).getLsbD n != decide (n + 1 = if dbl then 64 else 32))) ∧
    (∃ t, exec (.fpOperation core .fabs dbl d a b) s = .next t ∧ ∀ k ∈ execCores core s,
      ∀ n : Nat, n < (if dbl then 64 else 32) → ((t.cores[k]).f[d]).getLsbD n =
        (((s.cores[k]).getF a).getLsbD n && decide (n + 1 ≠ if dbl then 64 else 32))) ∧
    (∃ t, exec (.fpOperation core .fcpys dbl d a b) s = .next t ∧ ∀ k ∈ execCores core s,
      ∀ n : Nat, n < (if dbl then 64 else 32) → ((t.cores[k]).f[d]).getLsbD n =
        (if n + 1 = (if dbl then 64 else 32) then ((s.cores[k]).getF b).getLsbD n else ((s.cores[k]).getF a).getLsbD n))

/-- INTERRUPT_SOURCE_ASSERT sets the pending bit in every running core; INTERRUPT_ENTRY takes the winning source of
cores in unison: its pending bit goes, its priority becomes the level, the old level is pushed, LIC_CLAIM shows it
and PC is CW_VBASE + 0x100 with CW_EPC the instruction not executed; a write to LIC_EOI pops the level and one with
depth 0 is ignored; LIC_SWSET asserts sources 320-383 only; IMPRECISE_BUSERR takes cause 11 with the burst's
address; COMBINING_BUFFER_TIMEOUT with empty buffers leaves the cores that run. -/
def Obligations.InterruptsOfTheCores : Prop :=
  (∀ (core : Fin 8) (s : State) (n : Fin 384), ∃ t, exec (.interruptSourceAssert core n) s = .next t ∧ CoresOnly s t ∧
    ∀ k ∈ execCores core s, (t.cores[k]).lic.pend = putBit (s.cores[k]).lic.pend n.val true ∧
      (t.cores[k]).pc = (s.cores[k]).pc) ∧
  (∀ (core : Fin 8) (s : State) (n : Nat), Unison core s → Uncombined core s → execCores core s ≠ [] →
    (∀ k ∈ execCores core s, (s.cores[k]).halted = false ∧ (s.cores[k]).pend = none ∧ (s.cores[k]).imprecise = none ∧
      (s.cores[k]).ie = true ∧ (s.cores[k]).lpc.gen = false ∧ (s.cores[k]).lic.winner = some n) →
    ∃ t, exec (.interruptEntry core) s = .next t ∧ ∀ k ∈ execCores core s,
      let l := (s.cores[k]).lic
      (t.cores[k]).lic.pend = putBit l.pend n false ∧ (t.cores[k]).lic.level = l.prioOf n ∧
        (t.cores[k]).lic.stack = l.level :: l.stack ∧ (t.cores[k]).lic.claim = some n ∧
        (t.cores[k]).pc = (s.cores[k]).word 5 + 0x100 ∧ (t.cores[k]).word 2 = (s.cores[k]).pc ∧
        (t.cores[k]).word 1 = (s.cores[k]).word 0 ∧ (t.cores[k]).ie = false ∧ (t.cores[k]).x = (s.cores[k]).x) ∧
  (∀ (core : Fin 8) (s : State) (v : BitVec 32), Executes core s →
    (∃ t, exec (.licEoiWrite core v) s = .next t ∧ CoresOnly s t ∧ GoesOn core s t ∧ ∀ k ∈ execCores core s,
      (t.cores[k]).lic.level = ((s.cores[k]).lic.stack.head?).getD (s.cores[k]).lic.level ∧
        (t.cores[k]).lic.stack = (s.cores[k]).lic.stack.drop 1) ∧
    (∃ t, exec (.licSwsetWrite core v) s = .next t ∧ CoresOnly s t ∧ GoesOn core s t ∧
      ((∀ k ∈ execCores core s, (s.cores[k]).lpc.gen = false) → ∀ k ∈ execCores core s,
        (t.cores[k]).lic.pend = if 320 ≤ v.toNat % 512 ∧ v.toNat % 512 ≤ 383
          then putBit (s.cores[k]).lic.pend (v.toNat % 512) true else (s.cores[k]).lic.pend))) ∧
  (∀ (core : Fin 8) (s : State) (a : BitVec 40), Uncombined core s →
    (∀ k ∈ execCores core s, (s.cores[k]).halted = false ∧ (s.cores[k]).imprecise = none) →
    ∃ t, exec (.impreciseBuserr core a) s = .next t ∧ CoresOnly s t ∧ ∀ k ∈ execCores core s,
      (t.cores[k]).pc = (s.cores[k]).word 5 ∧ (t.cores[k]).word 2 = (s.cores[k]).pc ∧
        (t.cores[k]).word 4 = a.setWidth 64 ∧ (t.cores[k]).imprecise = none ∧ (t.cores[k]).x = (s.cores[k]).x) ∧
  (∀ (core : Fin 8) (s : State), Uncombined core s →
    ∃ t, exec (.combiningBufferTimeout core) s = .next t ∧ CoresOnly s t ∧ ∀ k ∈ execCores core s,
      t.cores[k] = s.cores[k])

/-- LTM_TIMER_START with RUN and mode 1 or 2 starts the timer for its preset, at least 1 us; LTM_TIMER_EXPIRY at a
running timer whose time has come sets EXP, stops a one-shot and asserts its source where IE is 1; LTM_ELAPL_READ
takes the low word of elapsed time and latches the high one; LPC_CNTNL_READ takes the low word of a counter and
latches its upper half; LPC_CNTNL_WRITE writes it with the upper half held; COUNTER_OVERFLOW sets the overflow bit
and wraps the counter at 2^48. -/
def Obligations.LaneLocalRegisters : Prop :=
  (∀ (core : Fin 8) (s : State), Executes core s →
    (∀ (n : Fin 16) (ctl : BitVec 32), ctl.getLsbD 2 = true → ctl.setWidth 2 = (1 : BitVec 2) ∨ ctl.setWidth 2 = (2 : BitVec 2) →
      ∃ t, exec (.ltmTimerStart core n ctl) s = .next t ∧ CoresOnly s t ∧ GoesOn core s t ∧ ∀ k ∈ execCores core s,
        let x := (t.cores[k]).timers[n]
        x.run = true ∧ x.mode = ctl.setWidth 2 ∧ x.ie = ctl.getLsbD 3 ∧
          x.due = s.tim.elapsed.toNat / 1000 + max 1 ((s.cores[k]).timers[n]).preset.toNat) ∧
    (∀ d : Fin 32, ∃ t, exec (.ltmElaplRead core d) s = .next t ∧ CoresOnly s t ∧
      ReadsInto core s t d (s.tim.elapsed.toNat % 2 ^ 32) ∧ ∀ k ∈ execCores core s,
        (t.cores[k]).elapH = BitVec.ofNat 32 (s.tim.elapsed.toNat / 2 ^ 32)) ∧
    ((∀ k ∈ execCores core s, (s.cores[k]).lpc.gen = false) →
      (∀ (n : Fin 16) (d : Fin 32) (v : BitVec 48), (∀ k ∈ execCores core s, (s.cores[k]).lpc.cnt[n] = v) →
        ∃ t, exec (.lpcCntnlRead core n d) s = .next t ∧ CoresOnly s t ∧ ReadsInto core s t d (v.toNat % 2 ^ 32) ∧
          ∀ k ∈ execCores core s, (t.cores[k]).lpc.readH[n] = v.extractLsb' 32 16) ∧
      (∀ (n : Fin 16) (v : BitVec 32), ∃ t, exec (.lpcCntnlWrite core n v) s = .next t ∧ CoresOnly s t ∧
        GoesOn core s t ∧ ∀ k ∈ execCores core s,
          (t.cores[k]).lpc.cnt[n] = (s.cores[k]).lpc.heldH[n] ++ v ∧ (t.cores[k]).lpc.heldH = (s.cores[k]).lpc.heldH))) ∧
  (∀ (core : Fin 8) (s : State) (dt : Nat) (n : Fin 16),
    (∀ k ∈ execCores core s, let x := ((advance dt s).cores[k]).timers[n]
      x.run = true ∧ x.mode = 1 ∧ x.due ≤ (advance dt s).tim.elapsed.toNat / 1000 ∧ x.ie = true) →
    ∃ t, exec (.ltmTimerExpiry dt core n) s = .next t ∧ CoresOnly (advance dt s) t ∧ ∀ k ∈ execCores core s,
      ((t.cores[k]).timers[n]).exp = true ∧ ((t.cores[k]).timers[n]).run = false ∧
        (t.cores[k]).lic.pend = putBit ((advance dt s).cores[k]).lic.pend n.val true) ∧
  (∀ (core : Fin 8) (s : State) (n : Fin 16) (ev : BitVec 48),
    (∀ k ∈ execCores core s, (s.cores[k]).lpc.gen = true ∧ 2 ^ 48 ≤ ((s.cores[k]).lpc.cnt[n]).toNat + ev.toNat) →
    ∃ t, exec (.counterOverflow core n ev) s = .next t ∧ CoresOnly s t ∧ ∀ k ∈ execCores core s,
      (t.cores[k]).lpc.ovf = putBit (s.cores[k]).lpc.ovf n.val true ∧
        (t.cores[k]).lpc.cnt[n] = (s.cores[k]).lpc.cnt[n] + ev ∧
        ((s.cores[k]).lpc.ien.getLsbD n.val = true → (t.cores[k]).lic.pend.getLsbD (16 + n.val) = true))

/-- Cores in unison that read a voted register take its value into xd: CTU_TIMENS latches the seconds, CTU_FRCL the
upper half of FRC, CTU_BERRL the rest of the bus error, CYS_TICKL the upper half of the tick; FBx_EVT0 removes the
oldest event, BRG_ERR0 the oldest error; BRG_SYNC gives the error count when no posted write of the reader is
outstanding, and otherwise leaves the cores waiting. -/
def Obligations.VotedRegisterReads : Prop :=
  ∀ (core : Fin 8) (s : State) (d : Fin 32), Executes core s → Unison core s → Uncombined core s →
    s.pwr.on.getLsbD 5 = true →
    (∃ t, exec (.ctuTimensRead core d) s = .next t ∧ ReadsInto core s t d ((splitNs s.tim.ns).2 % 2 ^ 32) ∧
      t.tim = { s.tim with timeSecL := BitVec.ofNat 32 (splitNs s.tim.ns).1, timeSecH := BitVec.ofNat 32 (timeSecHigh s) }) ∧
    (∃ t, exec (.ctuFrclRead core d) s = .next t ∧ ReadsInto core s t d (s.tim.frc.toNat % 2 ^ 32) ∧
      t.tim = { s.tim with frcH := BitVec.ofNat 32 (s.tim.frc.toNat / 2 ^ 32) }) ∧
    (∃ t, exec (.ctuBerrlRead core d) s = .next t ∧ ReadsInto core s t d (s.clk.berrAddr.toNat % 2 ^ 32) ∧
      t.clk = { s.clk with berrH := BitVec.ofNat 32 (berrHigh s.clk) }) ∧
    (∃ t, exec (.cysTicklRead core d) s = .next t ∧ ReadsInto core s t d (s.cys.tick.toNat % 2 ^ 32) ∧
      t.cys = { s.cys with tickH := BitVec.ofNat 32 (s.cys.tick.toNat / 2 ^ 32) }) ∧
    (∀ (b : Fin 3) (e : FieldEvent) (q : List FieldEvent), banksFitted s = true → s.clk.clken0.getLsbD (2 + b.val) = true →
      (s.banks[b]).fifo = e :: q →
      ∃ t, exec (.fbxEvt0Read core b d) s = .next t ∧ ReadsInto core s t d ((splitNs e.ns).2 % 2 ^ 32) ∧
        (t.banks[b]).fifo = q ∧ ∀ j, j ≠ b → t.banks[j] = s.banks[j]) ∧
    (s.pwr.on.getLsbD 11 = true → s.clk.clken0.getLsbD 1 = true →
      (∀ (e : BrgErr) (q : List BrgErr), s.brg.log = e :: q →
        ∃ t, exec (.brgErr0Read core d) s = .next t ∧ ReadsInto core s t d e.w0.toNat ∧
          t.brg = { s.brg with log := q, err := #v[e.w1, e.w2, e.w3] }) ∧
      (s.brg.posted.any (fun p => decide (p.master = masterOf core s)) = false →
        ∃ t, exec (.brgSyncRead core d) s = .next t ∧ ReadsInto core s t d (s.brg.errCount % 2 ^ 32) ∧ t.brg = s.brg) ∧
      (s.brg.posted.any (fun p => decide (p.master = masterOf core s)) = true →
        ∃ t, exec (.brgSyncRead core d) s = .next t ∧ t.brg = s.brg ∧ ∀ k ∈ execCores core s,
          (t.cores[k]).pend = some (.sync d) ∧ (t.cores[k]).pc = (s.cores[k]).pc))

/-- REGISTER_WRITE of an INTEN sets its existing bits and of an INTSTAT clears the bits written as 1; FBX_OUT_WRITE
refreshes the outputs of the bank and FBX_FLTCLR_WRITE releases the channels named; BRG_REGION_WRITE sets a region
that lanes may write and leaves regions 0-9; BRG_INTSTAT_CLEAR clears the bridge's own bits; LNC_TX_SEQ_WRITE stores
the slot's SEQ; each time the cores go on. -/
def Obligations.VotedRegisterWrites : Prop :=
  ∀ (core : Fin 8) (s : State) (v : BitVec 32), Executes core s → Unison core s → Uncombined core s →
    s.pwr.on.getLsbD 5 = true →
    (∃ t, exec (.registerWrite core 0x200010044 v) s = .next t ∧ GoesOn core s t ∧
      (t.ints[2]).en = v &&& BitVec.ofNat 32 intMask[2] ∧ (t.ints[2]).stat = (s.ints[2]).stat) ∧
    (∃ t, exec (.registerWrite core 0x200010040 v) s = .next t ∧ GoesOn core s t ∧
      (t.ints[2]).stat = (s.ints[2]).stat &&& ~~~v ∧ (t.ints[2]).en = (s.ints[2]).en) ∧
    (∀ b : Fin 3, banksFitted s = true → s.clk.clken0.getLsbD (2 + b.val) = true →
      (∃ t, exec (.fbxOutWrite core b v) s = .next t ∧ GoesOn core s t ∧
        t.chans = (outWrite b (masterOf core s) (v.setWidth 16) s).chans) ∧
      (∃ t, exec (.fbxFltclrWrite core b v) s = .next t ∧ GoesOn core s t ∧
        t.chans = (fltclrWrite b (v.setWidth 16) s).chans)) ∧
    (s.pwr.on.getLsbD 11 = true → s.clk.clken0.getLsbD 1 = true →
      (∀ r : Fin 16, 10 ≤ r.val →
        (∃ t, exec (.brgRegionWrite core r .base v) s = .next t ∧ GoesOn core s t ∧
          (t.brg.regions[r]).base = v &&& 0xFFFFF000 ∧ (t.brg.regions[r]).lim = (s.brg.regions[r]).lim) ∧
        (∃ t, exec (.brgRegionWrite core r .attr v) s = .next t ∧ GoesOn core s t ∧
          (t.brg.regions[r]).attr = v.setWidth 4 ∧ (t.brg.regions[r]).base = (s.brg.regions[r]).base)) ∧
      (∀ (r : Fin 16) (w : RegionWord), r.val < 10 →
        ∃ t, exec (.brgRegionWrite core r w v) s = .next t ∧ GoesOn core s t ∧ t.brg = s.brg) ∧
      (∃ t, exec (.brgIntstatClear core v) s = .next t ∧ GoesOn core s t ∧
        ∀ n : Nat, n < 4 ∨ 8 ≤ n → (t.ints[9]).stat.getLsbD n = ((s.ints[9]).stat.getLsbD n && !v.getLsbD n))) ∧
    (∀ m : Fin 8, s.clk.clken0.getLsbD 6 = true →
      ∃ t, exec (.lncTxSeqWrite core m v) s = .next t ∧ GoesOn core s t ∧
        memRead t.vmem (lncTx + 0x800 * m.val) 4 = leBytes 4 v.toNat)

/-- TICK before its time, or with the sequencer stopped, changes nothing but time; at a tick of the grid it leaves
the gap, asserts GAP_END, shows the tick, gives every idle task that is due its cycle number and release time, and
counts a skip for every other; LATCH_END releases its task and asserts its interrupt; GAP_WARN asserts 296 and
clears the acknowledgement; GAP_START makes the gap quiet when it was acknowledged and no cycle is open, and asserts
303 when it was not. -/
def Obligations.TicksReleaseAndLatchTasks : Prop :=
  (∀ (s : State) (dt : Nat), let s0 := advance dt s
    s0.cys.run = false ∨ (s0.cys.stepPend = none ∧ tickNow s0 ≤ (s0.cys.tick.toNat : Int)) →
      exec (.tick dt) s = .next s0) ∧
  (∀ (s : State) (dt : Nat), let s0 := advance dt s
    let now := tickNow s0
    s0.cys.run = true → s0.cys.stepPend = none → s0.twl.role ≠ .standby → (s0.cys.tick.toNat : Int) < now →
    configured s0 ≠ [] → now % kMin s0 = 0 →
    ∃ t, exec (.tick dt) s = .next t ∧ t.cys.tick = BitVec.ofInt 64 now ∧ t.cys.gap = false ∧ t.cys.warned = false ∧
      Asserted 297 t.ints ∧ ∀ (n : Fin 8) (c : TaskCfg), taskCfg s0 n = some c → releasedAt now s0 n = true →
        if (s0.cys.tasks[n]).ready then
          (t.cys.tasks[n]).cycle = (now / (max 1 c.period : Nat)).toNat ∧ (t.cys.tasks[n]).relNs = now * 250000
        else (t.cys.tasks[n]).skip = inc16 (s0.cys.tasks[n]).skip ∧ (t.cys.tasks[n]).skipNext = false) ∧
  (∀ (s : State) (dt : Nat) (n : Fin 8) (q : List (Fin 8)), let s0 := advance dt s
    s0.cys.latchQ = n :: q → n ∉ q → (s0.cys.tasks[n]).state = .latch → s0.twl.role ≠ .standby →
    ∃ t, exec (.latchEnd dt) s = .next t ∧ (t.cys.tasks[n]).state = .run ∧ t.cys.latchQ = q ∧
      Asserted (288 + n.val) t.ints) ∧
  (∀ (s : State) (dt : Nat), let s0 := advance dt s
    s0.cys.run = true → s0.cys.warned = false → configured s0 ≠ [] →
    ∃ t, exec (.gapWarn dt) s = .next t ∧ t.cys.warned = true ∧ t.cys.ack = false ∧ t.cys.tasks = s0.cys.tasks ∧
      Asserted 296 t.ints) ∧
  (∀ (s : State) (dt : Nat), let s0 := advance dt s
    s0.cys.warned = true → s0.cys.gap = false →
    ∃ t, exec (.gapStart dt) s = .next t ∧ t.cys.gap = true ∧
      t.cys.quiet = (s0.cys.ack && decide (openMask s0 = 0)) ∧ t.cys.tasks = s0.cys.tasks ∧
      (s0.cys.ack = true → t.cys.noacks = s0.cys.noacks) ∧
      (s0.cys.ack = false → t.cys.noacks = inc32 s0.cys.noacks ∧ Asserted 303 t.ints))

/-- With no standby comparing, COMMIT_END without glaze entries closes the cycle and a bank entry of its commit list
has refreshed the outputs the task owns, with entries it begins posting; POSTING_END closes the cycle; CYS_DONE with
a count above 64 closes it without commit; CONE_OVERRUN makes a running cycle OVERRUN and its next release skipped,
CONE_STALL with reaction 0 stops the task; CYS_QUIET after the warning acknowledges the gap and the lanes wait. -/
def Obligations.CyclesCommitPostAndClose : Prop :=
  (∀ (s : State) (dt : Nat) (n : Fin 8) (g : Nat) (c : TaskCfg), let s0 := advance dt s
    s0.cys.commit = some (n, g) → taskCfg s0 n = some c → s0.twl.role ≠ .standby → s0.twl.resetDue = false →
    s0.twl.releaseAtCommit = false →
    ∃ t, exec (.commitEnd dt) s = .next t ∧
      (0 < g → t.cys.posting = some (n, g) ∧ t.cys.commit = none ∧ t.cys.tasks = s0.cys.tasks) ∧
      (g = 0 → (t.cys.tasks[n]).state = .idle ∧ (t.cys.tasks[n]).closedOnce = true ∧
        ∀ e, c.commitList = [e] → e.kind = 4 →
          t.chans = (bankCommit c.own
            (BitVec.ofNat 48 (leNat (vread s0 (sharedBase + c.outImg + e.src) 8))) s0).chans)) ∧
  (∀ (s : State) (dt : Nat) (n : Fin 8) (g : Nat), let s0 := advance dt s
    s0.cys.posting = some (n, g) → s0.twl.role ≠ .standby → s0.twl.resetDue = false →
    ∃ t, exec (.postingEnd dt) s = .next t ∧ t.cys.posting = none ∧ (t.cys.tasks[n]).state = .idle ∧
      t.chans = s0.chans) ∧
  (∀ (core : Fin 8) (s : State) (n : Fin 8), Executes core s → Unison core s → Uncombined core s →
    s.pwr.on.getLsbD 5 = true → (s.cys.tasks[n]).state = .run → s.twl.role ≠ .standby → s.twl.resetDue = false →
    ∃ t, exec (.cysDoneWrite core (BitVec.ofNat 32 (n.val + 256 * 65))) s = .next t ∧
      (t.cys.tasks[n]).state = .idle ∧ (t.cys.tasks[n]).closedOnce = true ∧
      (t.cys.tasks[n]).lastUs = (s.cys.tasks[n]).execCounts / 500) ∧
  (∀ (s : State) (dt : Nat) (n : Fin 8), let s0 := advance dt s
    (s0.cys.tasks[n]).state = .run →
    ∃ t, exec (.coneOverrun dt n) s = .next t ∧ (t.cys.tasks[n]).state = .overrun ∧ (t.cys.tasks[n]).skipNext = true ∧
      (t.cys.tasks[n]).ovr = inc16 (s0.cys.tasks[n]).ovr ∧ Asserted 298 t.ints ∧
      ∀ j, j ≠ n → t.cys.tasks[j] = s0.cys.tasks[j]) ∧
  (∀ (s : State) (dt : Nat) (n : Fin 8), let s0 := advance dt s
    (s0.cys.tasks[n]).state ≠ .run → exec (.coneOverrun dt n) s = .next s0) ∧
  (∀ (s : State) (dt : Nat) (n : Fin 8) (c : TaskCfg), let s0 := advance dt s
    (s0.cys.tasks[n]).state = .overrun → taskCfg s0 n = some c → c.stall = 0 → s0.twl.role ≠ .standby →
    s0.twl.resetDue = false →
    ∃ t, exec (.coneStall dt n) s = .next t ∧ (t.cys.tasks[n]).state = .stopped ∧
      (t.cys.tasks[n]).skipNext = false ∧ Asserted 299 t.ints ∧
      ∀ ch : Fin 48, c.own.getLsbD ch.val = true → (s0.chans[ch]).isOut = true →
        (s0.chans[ch]).state = .driven ∨ (s0.chans[ch]).state = .safe → (t.chans[ch]).state = .locked) ∧
  (∀ (core : Fin 8) (s : State) (v : BitVec 32), Executes core s → Unison core s → Uncombined core s →
    s.pwr.on.getLsbD 5 = true → s.cys.warned = true → s.cys.gap = false → s.vrc.mode = .oo3 ∨ s.vrc.mode = .oo2 →
    ∃ t, exec (.cysQuietWrite core v) s = .next t ∧ t.cys.ack = true ∧ t.cys.waiting = true ∧ t.cys.current = none ∧
      ∀ k ∈ execCores core s, (t.cores[k]).wfi = true)

/-- TASK_RETURN with nothing running does nothing, ends the background task's run, and a value above 64 ends a
task's cycle without commit with APP_BADRETURN recorded; SYSCALL_NETTIME answers seconds, nanoseconds and flags in
a0, a1 and a2 and returns past the SYSCALL; SYSCALL_EVENT in range submits the event and answers 0 or 1;
SYSCALL_FAULTCLR releases the channels it may and answers their mask; SYSCALL_NOCOMMIT ends the cycle; outside a
SYSCALL none of them does anything; OLC_SWITCH makes the staged image the running one, and OLC_TIMEOUT leaves it
staged with result 25. -/
def Obligations.TasksReturnAndCallTheExecutive : Prop :=
  (∀ s : State, s.cys.current = none → exec .taskReturn s = .next s) ∧
  (∀ (s : State) (k : Fin 8), s.cys.current = some 8 → leadCore s = some k → (s.cores[k]).ready = true →
    ∃ t, exec .taskReturn s = .next t ∧ t.cys.bgRunning = false ∧ t.cys.tasks = s.cys.tasks) ∧
  (∀ (s : State) (n : Fin 8) (k : Fin 8), s.cys.current = some ⟨n.val, by omega⟩ → leadCore s = some k →
    Executes k s → Unison k s → Uncombined k s → s.pwr.on.getLsbD 5 = true → 64 < ((s.cores[k]).getX 4).toNat →
    (s.cys.tasks[n]).state = .run → s.twl.role ≠ .standby → s.twl.resetDue = false →
    ∃ t, exec .taskReturn s = .next t ∧ (t.cys.tasks[n]).state = .idle ∧ (t.cys.tasks[n]).closedOnce = true ∧
      t.recd = (record 9 0x8007 n.val (((s.cores[k]).getX 4).toNat % 2 ^ 32) 0 s).recd) ∧
  (∀ (s : State) (a : Nat), syscaller a s = none →
    (a = 1 → exec .syscallEvent s = .next s) ∧ (a = 2 → exec .syscallNettime s = .next s) ∧
    (a = 3 → exec .syscallNocommit s = .next s) ∧ (a = 4 → exec .syscallFaultclr s = .next s)) ∧
  (∀ (s : State) (n : Fin 9) (k : Fin 8), s.vrc.mode = .oo3 ∨ s.vrc.mode = .oo2 → syscaller 2 s = some (n, k) →
    ∃ t, exec .syscallNettime s = .next t ∧ CoresOnly s t ∧ ∀ i ∈ execCores k s,
      (t.cores[i]).getX 4 = BitVec.ofNat 64 (splitNs s.tim.ns).1 ∧
        (t.cores[i]).getX 5 = BitVec.ofNat 64 (splitNs s.tim.ns).2 ∧
        (t.cores[i]).getX 6 = BitVec.ofNat 64 (b2n s.tim.timeLocal + 2 * b2n s.tim.uncert + 4 * b2n s.clk.coast) ∧
        (t.cores[i]).pc = (s.cores[i]).word 2 + 4 ∧ (t.cores[i]).word 0 = ((s.cores[i]).word 1 &&& 0xF)) ∧
  (∀ (s : State) (n : Fin 9) (k : Fin 8), s.vrc.mode = .oo3 ∨ s.vrc.mode = .oo2 → syscaller 1 s = some (n, k) →
    0x8100 ≤ ((s.cores[k]).getX 4).toNat → ((s.cores[k]).getX 4).toNat ≤ 0x8FFF →
    ∃ t, exec .syscallEvent s = .next t ∧
      t.recd.ev = #v[BitVec.ofNat 32 ((s.cores[k]).getX 4).toNat, lowW ((s.cores[k]).getX 5), lowW ((s.cores[k]).getX 6)] ∧
      ∀ i ∈ execCores k s, (t.cores[i]).getX 4 =
        (if t.recd.evRes = 1 ∨ t.recd.evRes = 2 ∨ t.recd.evRes = 5 then 0 else 1)) ∧
  (∀ (s : State) (n : Fin 9) (k : Fin 8), s.vrc.mode = .oo3 ∨ s.vrc.mode = .oo2 → syscaller 4 s = some (n, k) →
    let chs := faultMask n (((s.cores[k]).getX 4).setWidth 48) s
    ∃ t, exec .syscallFaultclr s = .next t ∧ t.chans = (chs.foldl (fun u ch => faultClear ch u) s).chans ∧
      ∀ i ∈ execCores k s, (t.cores[i]).getX 4 = BitVec.ofNat 64 (chs.foldl (fun m ch => m + 2 ^ ch.val) 0)) ∧
  (∀ (s : State) (n k : Fin 8), syscaller 3 s = some (⟨n.val, by omega⟩, k) → (s.cys.tasks[n]).state = .run →
    s.twl.role ≠ .standby →
    ∃ t, exec .syscallNocommit s = .next t ∧ (t.cys.tasks[n]).state = .idle ∧ (t.cys.tasks[n]).closedOnce = true ∧
      t.cys.commitQ = s.cys.commitQ ∧ t.chans = s.chans) ∧
  (∀ (s : State) (dt : Nat) (a : AppImage), let s0 := advance dt s
    s0.cys.switchGap = true → s0.cys.gap = true → s0.cys.olc = .switching → s0.cys.staged = some a →
    a.migrations = [] → isRun s0 = true →
    ∃ t, exec (.olcSwitch dt) s = .next t ∧ t.cys.app = some a ∧ t.cys.staged = none ∧ t.cys.olc = .switching ∧
      t.cys.switchedFrom = some ((s0.cys.app.map (fun x => x.build)).getD 0) ∧
      ∀ n : Fin 8, (t.cys.tasks[n]).first = true ∧ (t.cys.tasks[n]).closedOnce = false) ∧
  (∀ (s : State) (dt : Nat) (a : AppImage), let s0 := advance dt s
    s0.cys.olc = .accepted → s0.cys.staged = some a →
    ∃ t, exec (.olcTimeout dt) s = .next t ∧ t.cys.olc = .staged ∧ t.cys.staged = some a ∧ t.cys.result = 25 ∧
      t.cys.app = s0.cys.app)

/-- START_WINDOW_END with a good TCXO enabled in the mask closes the window and locks the root to the TCXO with the
clocks up; without it the root coasts, event 0x2001 is recorded and interrupt 66 asserted; REF_LOST of the selected
source starts a ramp to the best source left, clears LOCK, makes the source invalid and asserts interrupt 64;
RAMP_STEP in steps 1 to 4 and 6 to 8 of a ramp goes to the next step, step 5 moves the reference to the target, and
step 9 of a ramp between sources that leaves nothing better to select ends LOCKED with the switch counted and
interrupt 65. -/
def Obligations.ReferenceSelectionAndRamps : Prop :=
  (∀ (s : State) (dt : Nat) (e m : BitVec 32), s.mod.state = .firing → (advance dt s).clk.startWin = true →
    (advance dt s).clk.state = .start → (advance dt s).clk.mask.getLsbD 2 = true →
    ∃ t, exec (.startWindowEnd dt true e m) s = .next t ∧ t.clk.startWin = false ∧ t.clk.state = .locked ∧
      t.clk.ref = 2 ∧ t.clk.lock = true ∧ t.mod.start.clocksUp = true ∧ t.mod.state = .firing ∧
      t.clk.valid.getLsbD 2 = true) ∧
  (∀ (s : State) (dt : Nat) (e m : BitVec 32), s.mod.state = .firing → (advance dt s).clk.startWin = true →
    (advance dt s).clk.state = .start →
    ∃ t, exec (.startWindowEnd dt false e m) s = .next t ∧ t.clk.startWin = false ∧ t.clk.state = .coast ∧
      t.clk.ref = 3 ∧ t.clk.coast = true ∧ t.mod.start.clocksUp = true ∧ Asserted 66 t.ints ∧ Asserted 71 t.ints) ∧
  (∀ (s : State) (dt : Nat) (c : Fin 4), (advance dt s).clk.state = .locked →
    bestSource { (advance dt s).clk with
      valid := putBit (advance dt s).clk.valid (advance dt s).clk.ref false } ≠ 3 →
    ∃ t, exec (.refLost dt c) s = .next t ∧ t.clk.state = .switching ∧ t.clk.rampStep = 1 ∧ t.clk.lock = false ∧
      t.clk.fromRef = (advance dt s).clk.ref ∧ t.clk.ramps = inc16 (advance dt s).clk.ramps ∧
      t.clk.valid = putBit (advance dt s).clk.valid (advance dt s).clk.ref false ∧ Asserted 64 t.ints ∧ t.mod = s.mod) ∧
  (∀ (s : State) (dt : Nat), (advance dt s).clk.state = .switching → 1 ≤ (advance dt s).clk.rampStep →
    (advance dt s).clk.rampStep ≤ 8 → (advance dt s).clk.rampStep ≠ 5 →
    ∃ t, exec (.rampStep dt) s = .next t ∧ t.clk.rampStep = (advance dt s).clk.rampStep + 1 ∧
      t.clk.ref = (advance dt s).clk.ref ∧ t.clk.state = .switching ∧ t.mod = s.mod) ∧
  (∀ (s : State) (dt : Nat), (advance dt s).clk.state = .switching → (advance dt s).clk.rampStep = 5 →
    (advance dt s).clk.target ≤ 2 →
    ∃ t, exec (.rampStep dt) s = .next t ∧ t.clk.rampStep = 6 ∧ t.clk.ref = (advance dt s).clk.target ∧
      t.clk.lock = true ∧ t.clk.coast = false) ∧
  (∀ (s : State) (dt : Nat), (advance dt s).clk.state = .switching → (advance dt s).clk.rampStep = 9 →
    (advance dt s).clk.target ≤ 2 → (advance dt s).clk.fromRef ≤ 2 → (advance dt s).clk.revert = false →
    (advance dt s).clk.valid.getLsbD (advance dt s).clk.ref = true →
    ∃ t, exec (.rampStep dt) s = .next t ∧ t.clk.rampStep = 0 ∧ t.clk.state = .locked ∧ t.clk.quiet = false ∧
      t.clk.refSwitches = inc32 (advance dt s).clk.refSwitches ∧ Asserted 65 t.ints)

/-- SOURCE_VALID of the TCXO enabled in the mask while the module is locked to a source still valid, without
revertive selection, only notes it valid; SOURCE_INVALID notes a source that is neither selected nor the target
invalid; MON_TRIP of the ember outside the start window notes the ember failed, records 0x2006 and asserts interrupt
68, and EMBERFAIL_CLEAR ends that; MON_TRIP of the Kiln clock resets the module; CLOCK_ENABLE_APPLY outside COLD
sets the enable of CPN, CFD, BRG or DBG. -/
def Obligations.SourcesAndMonitors : Prop :=
  (∀ (s : State) (dt : Nat), (advance dt s).clk.mask.getLsbD 2 = true → (advance dt s).clk.state = .locked →
    (advance dt s).clk.revert = false → (advance dt s).clk.ref = 0 → (advance dt s).clk.valid.getLsbD 0 = true →
    ∃ t, exec (.sourceValid dt 2) s = .next t ∧ t.clk.valid.getLsbD 2 = true ∧ t.clk.valid.getLsbD 0 = true ∧
      t.clk.state = .locked ∧ t.clk.ref = 0 ∧ t.tim = (advance dt s).tim) ∧
  (∀ (s : State) (dt : Nat) (n : Fin 3), (advance dt s).clk.ref ≠ n.val → (advance dt s).clk.target ≠ n.val →
    ∃ t, exec (.sourceInvalid dt n) s = .next t ∧ t.clk = { (advance dt s).clk with
      valid := putBit (advance dt s).clk.valid n.val false } ∧ t.tim = (advance dt s).tim) ∧
  (∀ (s : State) (dt : Nat) (v : BitVec 32), s.mod.state ≠ .cold → (advance dt s).clk.startWin = false →
    ∃ t, exec (.monTrip dt 0 v) s = .next t ∧ t.clk.emberFail = true ∧
      t.clk.valid = putBit (advance dt s).clk.valid 3 false ∧ Asserted 68 t.ints ∧
      t.recd = (submitEvent (advance dt s).recd 2 10 0x2006 1 0 v.toNat).1) ∧
  (∀ (s : State) (dt : Nat) (v : BitVec 32), s.mod.state ≠ .cold → (advance dt s).clk.startWin = false →
    ∃ t, exec (.monTrip dt 2 v) s = .next t ∧ t.mod.state = .firing ∧ t.pwr.rstKind = 3 ∧ t.pwr.rstDetail = 2) ∧
  (∀ (s : State) (dt : Nat), (advance dt s).clk.emberFail = true →
    ∃ t, exec (.emberfailClear dt) s = .next t ∧ t.clk.emberFail = false ∧
      t.clk.valid = putBit (advance dt s).clk.valid 3 true ∧ t.tim = (advance dt s).tim) ∧
  (∀ (s : State) (dt : Nat) (b : Fin 11) (on : Bool), s.mod.state ≠ .cold → 7 ≤ b.val →
    ∃ t, exec (.clockEnableApply dt b on) s = .next t ∧
      t.clk.clken1 = putBit (advance dt s).clk.clken1 (b.val - 7) on ∧
      t.clk.want1 = putBit (advance dt s).clk.want1 (b.val - 7) on ∧ t.clk.clken0 = (advance dt s).clk.clken0)

/-- FM_START with a gate of 1 or more and clocks below 13 makes the meter busy on them; with a gate of 0 it answers
at once as void and asserts interrupt 70; FM_DONE of a busy meter stores the count, ends the measurement, marks it
void where a ramp passed, and asserts interrupt 70. -/
def Obligations.FrequencyMeter : Prop :=
  (∀ (s : State) (r m : BitVec 4) (g : BitVec 24), g ≠ 0 → r.toNat < 13 → m.toNat < 13 →
    ∃ t, exec (.fmStart r m g) s = .next t ∧ t.clk.fmBusy = true ∧ t.clk.fmDone = false ∧ t.clk.fmRef = r.toNat ∧
      t.clk.fmMeas = m.toNat ∧ t.clk.fmGate = g.toNat ∧ t.ints = s.ints) ∧
  (∀ (s : State) (r m : BitVec 4),
    ∃ t, exec (.fmStart r m 0) s = .next t ∧ t.clk.fmBusy = false ∧ t.clk.fmDone = true ∧ t.clk.fmVoid = true ∧
      Asserted 70 t.ints) ∧
  (∀ (s : State) (dt : Nat) (c : BitVec 32), (advance dt s).clk.fmBusy = true →
    ∃ t, exec (.fmDone dt c) s = .next t ∧ t.clk.fmBusy = false ∧ t.clk.fmDone = true ∧ t.clk.fmCount = c ∧
      t.clk.fmVoid = (advance dt s).clk.fmRamped ∧ Asserted 70 t.ints)

/-- CTU_ADJ_STEP in range steps network time by the register's value, adds it to the step sum, counts the step and
asserts interrupt 80; out of range it only sets the error flag; CTU_ADJ_SLEW in range with seconds 0 and a value
other than 0 leaves network time as it was and slews by the value; SLEW_DONE at or after the end of a slew ends it
and asserts interrupt 88; CTU_RATE_WRITE within the limits sets the rate and leaves network time as it was. -/
def Obligations.TimeStepsSlewsAndRate : Prop :=
  (∀ (s : State) (ns : BitVec 32) (sec : BitVec 48), adjInRange (writeAdj 2 ns sec s).tim = true →
    ∃ t, exec (.ctuAdjStep ns sec) s = .next t ∧ t.tim.nt = s.tim.nt + adjValue (writeAdj 2 ns sec s).tim ∧
      t.tim.stepSum = s.tim.stepSum + adjValue (writeAdj 2 ns sec s).tim ∧ t.tim.steps = inc32 s.tim.steps ∧
      t.tim.stepCnt = (s.tim.stepCnt + 1) % 16 ∧ t.tim.busy = false ∧ t.tim.adjErr = false ∧ Asserted 80 t.ints) ∧
  (∀ (s : State) (ns : BitVec 32) (sec : BitVec 48), adjInRange (writeAdj 2 ns sec s).tim = false →
    ∃ t, exec (.ctuAdjStep ns sec) s = .next t ∧ t.tim.adjErr = true ∧ t.tim.nt = s.tim.nt ∧ t.recd = s.recd) ∧
  (∀ (s : State) (ns : BitVec 32), adjInRange (writeAdj 1 ns 0 s).tim = true → ns ≠ 0 →
    ∃ t, exec (.ctuAdjSlew ns 0) s = .next t ∧ t.tim.nt = s.tim.nt ∧ t.tim.busy = true ∧ t.tim.stepSum = s.tim.stepSum ∧
      t.tim.sl = (if 0 < ns.toInt then slOf s.tim.slewPpm else -slOf s.tim.slewPpm)) ∧
  (∀ (s : State) (dt : Nat), (advance dt s).tim.busy = true →
    (advance dt s).tim.slewEnd.toNat ≤ (advance dt s).tim.frc.toNat →
    ∃ t, exec (.slewDone dt) s = .next t ∧ t.tim.busy = false ∧ t.tim.sl = 0 ∧ t.tim.frcRef = (advance dt s).tim.slewEnd ∧
      Asserted 88 t.ints) ∧
  (∀ (s : State) (r : BitVec 32), clampRate r.toInt = r.toInt →
    ∃ t, exec (.ctuRateWrite r) s = .next t ∧ t.tim.rate = r.toInt ∧ t.tim.nt = s.tim.nt ∧ t.recd = s.recd) ∧
  (∀ (s : State) (dt : Nat), (advance dt s).tim.timeLocal = false →
    ∃ t, exec (.ebThresholdCrossed dt) s = .next t ∧
      t.tim.uncBound = decide (par (advance dt s) 0x2310 9 < errBoundReg (advance dt s)) ∧
      t.tim.uncCoast = (advance dt s).tim.uncCoast)

/-- While the ordinary clock runs: ANNOUNCE_RECEIVED of the module's domain at a module that is not master-capable
and has no master selects the sender; ANNOUNCE_RECEIPT_TIMEOUT at a module that is not master-capable leaves no
master; SYNC_RECEIVED of the selected master with a log interval from -4 to 1 waits for its Follow_Up;
FOLLOW_UP_RECEIVED for it ends the wait; SYNC_TIMEOUT with a master and not in hold-over enters hold-over, records
0x2014 and asserts interrupt 85; SYNC_INTERVAL_EXPIRY of a grandmaster counts its Sync. -/
def Obligations.OrdinaryClockFollowsItsMaster : Prop :=
  (∀ (s : State) (dt : Nat) (p : Fin 2) (a : PtpAnnounce), clockRuns (advance dt s) = true →
    a.domain.toNat = par (advance dt s) 0x2310 1 → masterCapable (advance dt s) = false →
    (advance dt s).tim.master = none →
    ∃ t, exec (.announceReceived dt p a) s = .next t ∧ t.tim.gmSelf = false ∧
      (t.tim.master.map (fun m => (m.identity, m.port, m.gm, m.tai))) = some (a.src, p, a.gm, a.tai) ∧
      Asserted 84 t.ints) ∧
  (∀ (s : State) (dt : Nat), clockRuns (advance dt s) = true → masterCapable (advance dt s) = false →
    ∃ t, exec (.announceReceiptTimeout dt) s = .next t ∧ t.tim.master = none ∧ t.tim.gmSelf = false) ∧
  (∀ (s : State) (dt : Nat) (p : Fin 2) (m : Master) (dom : BitVec 8) (seq : BitVec 16) (corr : BitVec 64) (log : BitVec 8),
    clockRuns (advance dt s) = true → (advance dt s).tim.master = some m → dom.toNat = par (advance dt s) 0x2310 1 →
    -4 ≤ log.toInt → log.toInt ≤ 1 →
    ∃ t, exec (.syncReceived dt p m.identity dom seq corr log) s = .next t ∧
      (t.tim.sync.map (fun w => (w.seq, w.rx, w.corr, w.port))) = some (seq, (advance dt s).tim.nt, corr.toInt, p) ∧
      t.tim.master = some m ∧ t.recd = (advance dt s).recd) ∧
  (∀ (s : State) (dt : Nat) (m : Master) (w : SyncWait) (sec : BitVec 48) (ns : BitVec 32) (corr : BitVec 64),
    clockRuns (advance dt s) = true → (advance dt s).tim.master = some m → (advance dt s).tim.sync = some w →
    portDelay w.port (advance dt s) = none →
    ∃ t, exec (.followUpReceived dt m.identity w.seq sec ns corr) s = .next t ∧ t.tim.sync = none ∧
      t.tim.nt = (advance dt s).tim.nt ∧ t.tim.accepted = (advance dt s).tim.accepted) ∧
  (∀ (s : State) (dt : Nat) (m : Master) (w : SyncWait) (sec : BitVec 48) (ns : BitVec 32) (corr : BitVec 64) (d : Int),
    clockRuns (advance dt s) = true → (advance dt s).tim.master = some m → (advance dt s).tim.sync = some w →
    portDelay w.port (advance dt s) = some d → (advance dt s).tim.elapsed ≤ w.due →
    (advance dt s).tim.lastSeq = none ∨ (advance dt s).tim.lastSeq = some (w.seq - 1) →
    ∃ t, exec (.followUpReceived dt m.identity w.seq sec ns corr) s = .next t ∧ t.tim.sync = none ∧
      t.tim.lastSeq = some w.seq ∧ t.tim.everAccepted = true ∧ t.tim.hold = false ∧ t.tim.arb = !m.tai ∧
      t.tim.accepted = (advance dt s).tim.accepted + 1) ∧
  (∀ (s : State) (dt : Nat) (m : Master), clockRuns (advance dt s) = true → (advance dt s).tim.master = some m →
    (advance dt s).tim.hold = false →
    ∃ t, exec (.syncTimeout dt) s = .next t ∧ t.tim.hold = true ∧ t.tim.lastSeq = none ∧ t.tim.estimate = 0 ∧
      t.tim.syncTimeouts = inc32 (advance dt s).tim.syncTimeouts ∧ Asserted 85 t.ints) ∧
  (∀ (s : State) (dt : Nat), clockRuns (advance dt s) = true → (advance dt s).tim.gmSelf = true →
    ∃ t, exec (.syncIntervalExpiry dt) s = .next t ∧ t.tim.txSeq = (advance dt s).tim.txSeq + 1 ∧
      t.tim.nt = (advance dt s).tim.nt)

/-- At a port of a switch that runs with its link up: PDELAY_REQ_INTERVAL sends the next request and, where the
request before went unanswered for the third time, makes the measurement invalid and asserts interrupt 86;
PDELAY_REQ_RECEIVED counts an answer; PDELAY_RESP_RECEIVED for a request that waits takes the delay and the ratio,
with the second fresh exchange the measurement is valid; TC_FORWARD of a Sync without tags adds the residence time
and the valid link delay to its correction and counts it, and of another PTP frame passes its correction on. -/
def Obligations.LinkDelayAndTransparentClock : Prop :=
  (∀ (s : State) (dt : Nat) (p : Fin 2), switchOn (advance dt s) = true → (advance dt s).lnc.spd[p] ≠ 0 →
    ((advance dt s).tim.delay[p]).waiting = true → ((advance dt s).tim.delay[p]).fails = 2 →
    ∃ t, exec (.pdelayReqInterval dt p) s = .next t ∧ (t.tim.delay[p]).valid = false ∧ (t.tim.delay[p]).fresh = 0 ∧
      (t.tim.delay[p]).waiting = true ∧ t.tim.pdelaySeq = (advance dt s).tim.pdelaySeq + 1 ∧ Asserted 86 t.ints) ∧
  (∀ (s : State) (dt : Nat) (p : Fin 2), switchOn (advance dt s) = true → (advance dt s).lnc.spd[p] ≠ 0 →
    ((advance dt s).tim.delay[p]).waiting = false →
    ∃ t, exec (.pdelayReqInterval dt p) s = .next t ∧ (t.tim.delay[p]).waiting = true ∧
      (t.tim.delay[p]).valid = ((advance dt s).tim.delay[p]).valid ∧ t.ints = s.ints) ∧
  (∀ (s : State) (dt : Nat) (p : Fin 2), switchOn (advance dt s) = true → (advance dt s).lnc.spd[p] ≠ 0 →
    ∃ t, exec (.pdelayReqReceived dt p) s = .next t ∧
      (t.tim.delay[p]).answers = inc32 ((advance dt s).tim.delay[p]).answers) ∧
  (∀ (s : State) (dt : Nat) (p : Fin 2) (d r : BitVec 32), switchOn (advance dt s) = true →
    (advance dt s).lnc.spd[p] ≠ 0 → ((advance dt s).tim.delay[p]).waiting = true →
    ∃ t, exec (.pdelayRespReceived dt p d r) s = .next t ∧ (t.tim.delay[p]).delays.head? = some d.toInt ∧
      (t.tim.delay[p]).ratio = r.toInt ∧ (t.tim.delay[p]).waiting = false ∧ (t.tim.delay[p]).fails = 0 ∧
      (1 ≤ ((advance dt s).tim.delay[p]).fresh → (t.tim.delay[p]).valid = true)) ∧
  (∀ (s : State) (dt : Nat) (p : Fin 2) (seq : BitVec 16) (corr : BitVec 64) (n : BitVec 32) (tags : Fin 4),
    switchOn (advance dt s) = true → (advance dt s).lnc.spd[0] ≠ 0 → (advance dt s).lnc.spd[1] ≠ 0 →
    parOn (advance dt s) 0x2310 13 = true → tags.val ≤ 1 → corr ≠ 0x7FFFFFFFFFFFFFFF →
    corr.toInt + residence (advance dt s) n.toNat + (portDelay p (advance dt s)).getD 0 ≤ 0x7FFFFFFFFFFFFFFF →
    ∃ t, exec (.tcForward dt p .sync tags seq corr n) s = .next t ∧
      t.tim.tcOut = some (BitVec.ofInt 64 (corr.toInt + residence (advance dt s) n.toNat +
        (portDelay p (advance dt s)).getD 0)) ∧ t.tim.tcCorrected = inc32 (advance dt s).tim.tcCorrected) ∧
  (∀ (s : State) (dt : Nat) (p : Fin 2) (seq : BitVec 16) (corr : BitVec 64) (n : BitVec 32) (tags : Fin 4),
    switchOn (advance dt s) = true → (advance dt s).lnc.spd[0] ≠ 0 → (advance dt s).lnc.spd[1] ≠ 0 →
    ∃ t, exec (.tcForward dt p .followUp tags seq corr n) s = .next t ∧ t.tim.tcOut = some corr ∧
      t.tim.tcCorrected = (advance dt s).tim.tcCorrected)

/-- BANK_SYNC_FRAME_SEND leaves the 18-octet frame for the next whole millisecond, or for the extra frame's instant,
and clears the step mark; BANK_SYNC_PULSE with a good frame at a bank without time loads the frame's instant and
increment, the clock edge of the frame's coast flag, and restarts the run of bad pulses; the third bad or missing
pulse in a row makes a valid bank time invalid, records 0x2018 and asserts interrupt 87. -/
def Obligations.BankTimeFollowsSyncPulses : Prop :=
  (∀ (s : State) (dt : Nat) (x : Bool) (ahead : BitVec 32),
    ∃ t, exec (.bankSyncFrameSend dt x ahead) s = .next t ∧ t.tim.stepSince = false ∧ t.tim.rebased = false ∧
      t.tim.frame = syncFrame (advance dt s) (if x then (advance dt s).tim.ns + ahead.toNat
        else ((advance dt s).tim.ns / 1000000 + 1) * 1000000) ∧ t.banks = s.banks) ∧
  (∀ (s : State) (dt : Nat) (b : Fin 3), (advance dt s).tim.frame.length = 18 → (s.banks[b]).base = none →
    ∃ t, exec (.bankSyncPulse dt b .good) s = .next t ∧
      (t.banks[b]).base = some ((leAt (advance dt s).tim.frame 0 6 * 1000000000 +
        leAt (advance dt s).tim.frame 6 4 : Nat) : Int) ∧
      (t.banks[b]).inc = leAt (advance dt s).tim.frame 10 4 ∧ (t.banks[b]).badRun = 0 ∧
      (t.banks[b]).edge = (if (leAt (advance dt s).tim.frame 14 2).testBit 3 then 125 else 50) ∧
      t.chans = s.chans) ∧
  (∀ (s : State) (dt : Nat) (b : Fin 3) (rx : PulseRx), rx ≠ .good → (s.banks[b]).timeValid = true →
    (s.banks[b]).badRun = 2 →
    ∃ t, exec (.bankSyncPulse dt b rx) s = .next t ∧ (t.banks[b]).timeValid = false ∧ (t.banks[b]).badRun = 3 ∧
      Asserted 87 t.ints ∧ t.chans = s.chans)

/-- FILTERED_STATE_CHANGE at an input channel gives it its new filtered state and marks the rising or falling edge
for every task; DISCREPANCY_TIMEOUT takes an input channel to FAULT with cause 2 and COMPARATOR_INVERSION with cause
1, its filtered state 0, and the bank's fault interrupt is asserted. -/
def Obligations.InputFaultsAndChanges : Prop :=
  (∀ (s : State) (dt : Nat) (ch : Fin 48) (v : Bool), (s.chans[ch]).state = .input → (s.chans[ch]).filt ≠ v →
    ((s.banks[bankOf ch]).coRise.getLsbD (idxOf ch) = false ∧ (s.banks[bankOf ch]).coFall.getLsbD (idxOf ch) = false) →
    ∃ t, exec (.filteredStateChange dt ch v) s = .next t ∧ (t.chans[ch]).filt = v ∧ (t.chans[ch]).raw = v ∧
      (∀ j, j ≠ ch → t.chans[j] = s.chans[j]) ∧
      (∀ n : Fin 8, v = true → (t.cys.tasks[n]).rise.getLsbD ch.val = true) ∧
      (∀ n : Fin 8, v = false → (t.cys.tasks[n]).fall.getLsbD ch.val = true)) ∧
  (∀ (s : State) (dt : Nat) (ch : Fin 48), (s.chans[ch]).state = .input → (s.chans[ch]).kind = 1 →
    ∃ t, exec (.discrepancyTimeout dt ch) s = .next t ∧ (t.chans[ch]).state = .fault ∧ (t.chans[ch]).cause = 2 ∧
      (t.chans[ch]).filt = false ∧ Asserted (bankInt (bankOf ch) + 2) t.ints ∧ (∀ j, j ≠ ch → t.chans[j] = s.chans[j])) ∧
  (∀ (s : State) (ch : Fin 48), (s.chans[ch]).state = .input → (s.chans[ch]).kind = 1 →
    ∃ t, exec (.comparatorInversion ch) s = .next t ∧ (t.chans[ch]).state = .fault ∧ (t.chans[ch]).cause = 1 ∧
      (t.chans[ch]).filt = false ∧ Asserted (bankInt (bankOf ch) + 2) t.ints ∧ (∀ j, j ≠ ch → t.chans[j] = s.chans[j]))

/-- At an output channel that is DRIVEN, SAFE or LOCKED with its field supply in range, no dark pulse and no twin
hold, in a voting mode other than 1oo1, SWITCH_SENSE_FAULT takes the channel to FAULT with cause 4,
GATE_SET_DISAGREE with cause 6 and READBACK_FAULT with cause 3, with an empty glaze queue and the bank's fault
interrupt asserted; OVERLOAD opens its six switches with cause 7 and BANK_OVERLOAD with cause 8. -/
def Obligations.OutputSupervisionFaultsTheChannel : Prop :=
  (∀ (s : State) (ch : Fin 48) (g : Fin 3), (s.chans[ch]).isOut = true → (s.chans[ch]).state.live = true →
    supplyOk ch s = true → (s.chans[ch]).pulse = none → (s.banks[bankOf ch]).hold = false → s.vrc.mode ≠ .oo1 →
    (∃ t, exec (.switchSenseFault ch g) s = .next t ∧ (t.chans[ch]).state = .fault ∧ (t.chans[ch]).cause = 4 ∧
      (t.chans[ch]).queue = [] ∧ Asserted (bankInt (bankOf ch) + 2) t.ints) ∧
    (∃ t, exec (.gateSetDisagree ch g) s = .next t ∧ (t.chans[ch]).state = .fault ∧ (t.chans[ch]).cause = 6 ∧
      (t.chans[ch]).queue = [] ∧ Asserted (bankInt (bankOf ch) + 2) t.ints) ∧
    (∃ t, exec (.readbackFault ch) s = .next t ∧ (t.chans[ch]).state = .fault ∧ (t.chans[ch]).cause = 3 ∧
      (t.chans[ch]).queue = [] ∧ Asserted (bankInt (bankOf ch) + 2) t.ints)) ∧
  (∀ (s : State) (ch : Fin 48) (ma : BitVec 32), (s.chans[ch]).isOut = true → (s.chans[ch]).state.live = true →
    ∃ t, exec (.overload ch ma) s = .next t ∧ (t.chans[ch]).state = .overload ∧ (t.chans[ch]).cause = 7 ∧
      (t.chans[ch]).gates = 0 ∧ (t.chans[ch]).queue = [] ∧ Asserted (bankInt (bankOf ch) + 7) t.ints) ∧
  (∀ (s : State) (b : Fin 3) (ma : BitVec 32), (∀ ch : Fin 48, bankOf ch = b →
      (s.chans[ch]).isOut = false ∨ (s.chans[ch]).state.live = false) →
    ∃ t, exec (.bankOverload b ma) s = .next t ∧ t.chans = s.chans ∧ Asserted (bankInt b + 7) t.ints ∧
      t.recd = (submitEvent s.recd (3 + b.val) 10 0x3004 b.val ma.toNat 0).1) ∧
  (∀ (s : State) (b : Fin 3) (i : Fin 16) (ma : BitVec 32), (s.chans[chanOf b i]).isOut = true →
      (s.chans[chanOf b i]).state.live = true →
    ∃ t, exec (.bankOverload b ma) s = .next t ∧ (t.chans[chanOf b i]).state = .overload ∧
      (t.chans[chanOf b i]).gates = 0)

/-- DARK_TEST_START at a channel ready for it with no launch near starts the pulse on the gate set that is next, and
the next test takes the following set; DARK_PULSE_END without a failure ends the pulse, returns the latches to the
commanded state and counts a pass; with a failure the channel enters FAULT with cause 5; READBACK_AGREES at a live
output makes its filtered state the commanded one and changes no other channel. -/
def Obligations.DarkTestsReturnTheGateSet : Prop :=
  (∀ (s : State) (dt : Nat) (ch : Fin 48), darkReady ch (advance dt s) = true → launchNear ch (advance dt s) = false →
    ∃ t, exec (.darkTestStart dt ch) s = .next t ∧ (t.chans[ch]).pulse = some (s.chans[ch]).darkNext ∧
      (t.chans[ch]).darkNext.val = ((s.chans[ch]).darkNext.val + 1) % 3 ∧ (t.chans[ch]).cmd = (s.chans[ch]).cmd ∧
      (∀ j, j ≠ ch → t.chans[j] = s.chans[j])) ∧
  (∀ (s : State) (dt : Nat) (ch : Fin 48) (k : Fin 3), (s.chans[ch]).pulse = some k →
    ∃ t, exec (.darkPulseEnd dt ch none) s = .next t ∧ (t.chans[ch]).pulse = none ∧
      (t.chans[ch]).gates = latches s (s.chans[ch]).cmd ∧ (t.chans[ch]).dtPass = ((s.chans[ch]).dtPass + 1) % 256 ∧
      (t.chans[ch]).state = (s.chans[ch]).state ∧ (∀ j, j ≠ ch → t.chans[j] = s.chans[j])) ∧
  (∀ (s : State) (dt : Nat) (ch : Fin 48) (k : Fin 3) (x : BitVec 6), (s.chans[ch]).pulse = some k →
    (s.chans[ch]).isOut = true →
    ∃ t, exec (.darkPulseEnd dt ch (some x)) s = .next t ∧ (t.chans[ch]).state = .fault ∧ (t.chans[ch]).cause = 5 ∧
      (t.chans[ch]).agree = false ∧ Asserted (bankInt (bankOf ch) + 2) t.ints) ∧
  (∀ (s : State) (ch : Fin 48), (s.chans[ch]).isOut = true → (s.chans[ch]).state.live = true →
    ∃ t, exec (.readbackAgrees ch) s = .next t ∧ (t.chans[ch]).agree = true ∧ (t.chans[ch]).filt = (s.chans[ch]).cmd ∧
      (∀ j, j ≠ ch → t.chans[j] = s.chans[j]))

/-- BANK_TIMEOUT of a watched DRIVEN channel makes it SAFE, or LOCKED where the bank recovers by reset, with an
empty glaze queue and no longer watched, and asserts the bank's timeout interrupt; SYNC_LOST locks every output of
the bank that is DRIVEN or SAFE and records 0x3008; SUPPLY_STATE takes the supply state and voltage, records a
change with 0x3005 and asserts the bank's supply interrupt. -/
def Obligations.BankTimeoutAndSupply : Prop :=
  (∀ (s : State) (dt : Nat) (ch : Fin 48), (s.chans[ch]).watched = true → (s.chans[ch]).state = .driven →
    ∃ t, exec (.bankTimeout dt ch) s = .next t ∧ (t.chans[ch]).watched = false ∧ (t.chans[ch]).queue = [] ∧
      (t.chans[ch]).state = (if (s.banks[bankOf ch]).recov then .locked else .safe) ∧
      Asserted (bankInt (bankOf ch) + 6) t.ints ∧ (∀ j, j ≠ ch → t.chans[j] = s.chans[j])) ∧
  (∀ (s : State) (b : Fin 3) (i : Fin 16), (s.chans[chanOf b i]).isOut = true →
    ((s.chans[chanOf b i]).state = .driven ∨ (s.chans[chanOf b i]).state = .safe) →
    ∃ t, exec (.syncLost b) s = .next t ∧ (t.chans[chanOf b i]).state = .locked) ∧
  (∀ (s : State) (b : Fin 3), (∀ ch : Fin 48, bankOf ch = b → (s.chans[ch]).isOut = false) →
    ∃ t, exec (.syncLost b) s = .next t ∧ t.chans = s.chans ∧
      t.recd = (submitEvent s.recd (3 + b.val) 10 0x3008 b.val 0 0).1) ∧
  (∀ (s : State) (dt : Nat) (b : Fin 3) (st : Fin 4) (v : BitVec 16), (s.banks[b]).supply ≠ st.val →
    ∃ t, exec (.supplyState dt b st v) s = .next t ∧ (t.banks[b]).supply = st.val ∧ (t.banks[b]).volt = v.toNat ∧
      (∀ j, j ≠ b → t.banks[j] = s.banks[j]) ∧ Asserted (bankInt b + 3) t.ints ∧ t.chans = s.chans ∧
      t.recd = (submitEvent (advance dt s).recd (3 + b.val) 10 0x3005 b.val st.val v.toNat).1)

/-- GLAZE_POST for a DRIVEN channel of kind 4 with a launch time in the future, within the horizon, not yet queued
and with fewer than eight entries waiting places the entry in the channel's queue; with eight entries it leaves
every queue as it was, counts the refusal and asserts the bank's refusal interrupt; GLAZE_LAUNCH takes the first
entry off the queue and sets the commanded state and the gate latches from it. -/
def Obligations.GlazeQueuesPostAndLaunch : Prop :=
  (∀ (s : State) (ch : Fin 48) (st : Bool) (sec : BitVec 48) (ns : BitVec 32) (now : Int),
    bankNow s.banks[bankOf ch] s = some now → (s.chans[ch]).kind = 4 → (s.chans[ch]).state = .driven →
    now < (sec.toNat * 1000000000 + ns.toNat : Nat) →
    ((sec.toNat * 1000000000 + ns.toNat : Nat) : Int) - now ≤ (s.banks[bankOf ch]).horizon * 1000000000 →
    (∀ e ∈ (s.chans[ch]).queue, e.launch ≠ (sec.toNat * 1000000000 + ns.toNat : Nat)) →
    ((s.chans[ch]).queue.length < 8 →
      ∃ t, exec (.glazePost ch st sec ns) s = .next t ∧
        (t.chans[ch]).queue = queueInsert (s.chans[ch]).queue ⟨(sec.toNat * 1000000000 + ns.toNat : Nat), st⟩ ∧
        (∀ j, j ≠ ch → t.chans[j] = s.chans[j]) ∧ t.banks = s.banks ∧ t.recd = s.recd) ∧
    ((s.chans[ch]).queue.length = 8 →
      ∃ t, exec (.glazePost ch st sec ns) s = .next t ∧ t.chans = s.chans ∧
        (t.banks[bankOf ch]).glzRefused = inc16 (s.banks[bankOf ch]).glzRefused ∧
        Asserted (bankInt (bankOf ch) + 5) t.ints)) ∧
  (∀ (s : State) (dt : Nat) (ch : Fin 48) (e : GlazeEntry) (q : List GlazeEntry), (s.chans[ch]).queue = e :: q →
    ∃ t, exec (.glazeLaunch dt ch) s = .next t ∧ (t.chans[ch]).queue = q ∧ (t.chans[ch]).cmd = e.state ∧
      (t.chans[ch]).gates = latches s e.state ∧ (∀ j, j ≠ ch → t.chans[j] = s.chans[j]) ∧ t.recd = (advance dt s).recd)

/-- MACROCYCLE_START of a live MASTER numbers the macrocycle, sends a CYCLE_START of 33 octets, counts TKO down,
takes the transmit area and asserts 192; CYCLE_START_RECEIVED makes a LISTEN station FOLLOWER of the sender, and a
MASTER keeps or yields by TKO and address with 203 asserted; silence makes a cold-start-capable station CONTEND; the
delay's end sends COLDSTART, its end makes it MASTER with the next epoch, a collision BACKOFF, carrier LISTEN;
XNB_TAKEOVER and XNB_RELEASE change FOLLOWER and MASTER. -/
def Obligations.BusRolesOfTheStation : Prop :=
  (∀ (s : State) (dt : Nat), let s0 := advance dt s
    (s0.xn.role ≠ .master ∨ xnLive s0 = false → ∀ c, exec (.macrocycleStart dt c) s = .next s0) ∧
    (s0.xn.role = .master → xnLive s0 = true →
      ∃ t, exec (.macrocycleStart dt 0) s = .next t ∧ t.xn.role = .master ∧
        t.xn.mcycle = BitVec.ofInt 64 (xnNumber s0) ∧ t.xn.macros = inc32 s0.xn.macros ∧ t.xn.slot = none ∧
        t.xn.tko = s0.xn.tko - 1 ∧ t.xn.lastTko = decide (0 < s0.xn.tko) ∧ t.xn.master = s0.xn.addr ∧
        t.xn.lastTx.length = 33 ∧ t.xn.lastTx.take 4 = [1, 0, BitVec.ofNat 8 s0.xn.addr, 24] ∧ Asserted 192 t.ints)) ∧
  (∀ (s : State) (dt : Nat) (src : BitVec 6) (f : CycleStart), let s0 := advance dt s
    (s0.xn.role = .off → exec (.cycleStartReceived dt src f) s = .next s0) ∧
    (xnLive s0 = true → s0.xn.role = .listen →
      ∃ t, exec (.cycleStartReceived dt src f) s = .next t ∧ t.xn.role = .follower ∧ t.xn.master = src.toNat ∧
        t.xn.epoch = f.epoch.toNat ∧ t.xn.mcycle = f.mcycle ∧
        t.xn.schMis = decide (f.schedCrc.toNat ≠ s0.xn.schedCrc) ∧ Asserted 192 t.ints ∧ Asserted 199 t.ints) ∧
    (xnLive s0 = true → s0.xn.role = .master → s0.xn.lastTko = f.tflags.getLsbD 2 → s0.xn.addr < src.toNat →
      ∃ t, exec (.cycleStartReceived dt src f) s = .next t ∧ t.xn = s0.xn ∧ Asserted 203 t.ints) ∧
    (xnLive s0 = true → s0.xn.role = .master → s0.xn.lastTko = f.tflags.getLsbD 2 → src.toNat ≤ s0.xn.addr →
      ∃ t, exec (.cycleStartReceived dt src f) s = .next t ∧ t.xn.role = .follower ∧ t.xn.master = src.toNat ∧
        t.xn.mcycle = f.mcycle ∧ Asserted 203 t.ints)) ∧
  (∀ (s : State) (dt : Nat), let s0 := advance dt s
    (s0.xn.csCap = false → exec (.xenexSilenceTimeout dt) s = .next s0) ∧
    (s0.xn.csCap = true → xnLive s0 = true → s0.xn.role = .listen →
      ∃ t, exec (.xenexSilenceTimeout dt) s = .next t ∧ t.xn.role = .contend ∧ Asserted 199 t.ints)) ∧
  (∀ (s : State) (dt : Nat), let s0 := advance dt s
    s0.xn.role = .contend → xnLive s0 = true →
    ∃ t, exec (.contendDelayEnd dt) s = .next t ∧ t.xn.coldSending = true ∧ t.xn.role = .contend ∧
      t.xn.lastTx.length = 17 ∧ t.xn.lastTx.take 4 = [8, 0, BitVec.ofNat 8 s0.xn.addr, 8]) ∧
  (∀ (s : State) (dt : Nat), let s0 := advance dt s
    (s0.xn.coldSending = false → exec (.coldstartEnd dt) s = .next s0) ∧
    (s0.xn.coldSending = true →
      ∃ t, exec (.coldstartEnd dt) s = .next t ∧ t.xn.role = .master ∧ t.xn.coldSending = false ∧
        t.xn.epoch = s0.xn.lastEpoch % 255 + 1 ∧ t.xn.master = s0.xn.addr ∧ t.xn.tko = 0)) ∧
  (∀ (s : State) (c : BitVec 2), s.xn.coldSending = true → s.xn.role = .contend →
    ∃ t, exec (.xnCollision c) s = .next t ∧ t.xn.role = .backoff ∧ t.xn.coldSending = false ∧
      t.xn.contendColl = s.xn.contendColl + 1 ∧ Asserted 199 t.ints) ∧
  (∀ s : State, s.xn.coldSending = false → s.xn.role = .contend →
    ∃ t, exec .carrierDetected s = .next t ∧ t.xn.role = .listen ∧ t.xn.contendColl = 0 ∧ Asserted 199 t.ints) ∧
  (∀ s : State, s.xn.role = .follower →
    (s.xn.schMis = false → ∃ t, exec .xnbTakeover s = .next t ∧ t.xn.role = .master ∧ t.xn.tko = 16 ∧
      t.xn.master = s.xn.addr ∧ Asserted 199 t.ints) ∧
    (s.xn.schMis = true → exec .xnbTakeover s = .next s)) ∧
  (∀ s : State, (s.xn.role = .master → ∃ t, exec .xnbRelease s = .next t ∧ t.xn.role = .follower ∧
      t.xn.epoch = s.xn.epoch ∧ Asserted 199 t.ints) ∧
    (s.xn.role ≠ .master → exec .xnbRelease s = .next s))

/-- SLOT_START of a MASTER sends the poll of the slot's node, an offer in an acyclic slot with nothing to send, or
CLAIM_OPEN in the claim slot; a FOLLOWER only follows; XENEX_FRAME_RECEIVED of the reply in its window stores the
payload and RESULT 1, outside window and guard marks DRIFT; SLOT_COMPLETE without a reply gives RESULT 3 and with
the last INPUT slot asserts 193; CLAIM_RECEIVED answers the first claim and asserts 200; ACYC_RESP_RECEIVED of the
last segment ends the transfer with 202 asserted; ACYC_TIMEOUT gives it up with 0x0504_0000. -/
def Obligations.SlotsAreRequestedAndJudged : Prop :=
  (∀ (s : State) (dt i : Nat) (c : XSlot) (k : Fin 64), let s0 := advance dt s
    s0.xn.role = .master → xnLive s0 = true → s0.xn.dropped = false → s0.xn.slots[i]? = some c →
    (c.kind = 1 → slotNode s0.xn i = k.val → (s0.xn.nodes[k]).state ≠ 4 →
      ((s0.xn.nodes[k]).state = 2 → (s0.xn.nodes[k]).probes ≠ 2) →
      ∃ t, exec (.slotStart dt i 0) s = .next t ∧ t.xn.slot = some i ∧ t.xn.nextSlot = i + 1 ∧
        t.xn.req = .poll k.val ∧ t.xn.judged = false ∧ t.xn.lastTx.length = 9 + c.tx ∧
        t.xn.lastTx.take 4 = [2, BitVec.ofNat 8 k.val, BitVec.ofNat 8 s0.xn.addr, BitVec.ofNat 8 c.tx]) ∧
    (c.kind = 2 → c.node = k.val → k ≠ 0 → (s0.xn.nodes[k]).state = 2 → s0.xn.nodeReqs = [] → s0.xn.acyc = none →
      ∃ t, exec (.slotStart dt i 0) s = .next t ∧ t.xn.slot = some i ∧ t.xn.req = .offer k.val ∧
        t.xn.offered = k.val ∧ t.xn.lastTx.length = 21) ∧
    (c.kind = 4 → ∃ t, exec (.slotStart dt i 0) s = .next t ∧ t.xn.slot = some i ∧ t.xn.req = .claimOpen ∧
        t.xn.claims = [] ∧ t.xn.lastTx.take 4 = [6, 0, BitVec.ofNat 8 s0.xn.addr, 8])) ∧
  (∀ (s : State) (dt i : Nat) (c : XSlot) (co : BitVec 2), let s0 := advance dt s
    s0.xn.role = .follower → xnLive s0 = true → s0.xn.dropped = false → s0.xn.slots[i]? = some c →
    ∃ t, exec (.slotStart dt i co) s = .next t ∧ t.xn.slot = some i ∧ t.xn.req = .none ∧ t.vmem = s0.vmem ∧
      t.xn.lastTx = s0.xn.lastTx) ∧
  (∀ (s : State) (dt i : Nat) (c : XSlot) (k : Fin 64) (f : List (BitVec 8)) (a : BitVec 32), let s0 := advance dt s
    s0.xn.role = .master → xnLive s0 = true → s0.xn.slot = some i → s0.xn.slots[i]? = some c →
    s0.xn.slots.length ≤ 1024 → 0x1000 ≤ c.rxOff → s0.xn.req = .poll k.val → s0.xn.judged = false →
    frameAccepted s0.xn f = true → leAt f 0 1 % 16 = 3 → leAt f 2 1 % 64 = k.val → leAt f 3 1 = c.rx → 0 < c.rx →
    (1900 ≤ a.toNat → a.toNat ≤ 4100 →
      ∃ t, exec (.xenexFrameReceived dt (some f) (some f) a) s = .next t ∧ t.xn.judged = true ∧
        vread t (xnRx + c.rxOff) c.rx = (f.drop 5).take c.rx ∧ slotStat t i % 16 = 1 ∧
        (t.xn.nodes[k]).lastResult = 1 ∧ (t.xn.nodes[k]).heard = true ∧
        (t.xn.nodes[k]).state = (if (s0.xn.nodes[k]).state = 1 ∨ (s0.xn.nodes[k]).state = 3 then 2
          else (s0.xn.nodes[k]).state)) ∧
    (4100 + c.guardNs < a.toNat →
      ∃ t, exec (.xenexFrameReceived dt (some f) (some f) a) s = .next t ∧ t.xn.judged = true ∧
        slotStat t i % 16 = 5 ∧ (t.xn.nodes[k]).lastResult = 5 ∧ t.xn.driftCount = inc32 s0.xn.driftCount)) ∧
  (∀ (s : State) (dt i : Nat) (k : Fin 64), let s0 := advance dt s
    (s0.xn.slot ≠ some i → exec (.slotComplete dt i) s = .next s0) ∧
    (s0.xn.slot = some i → xnLive s0 = true → s0.xn.role = .master → s0.xn.judged = false → s0.xn.req = .poll k.val →
      s0.xn.reqColl = false → s0.xn.rejected = false →
      ∃ t, exec (.slotComplete dt i) s = .next t ∧ t.xn.slot = none ∧ slotStat t i % 16 = 3 ∧
        (t.xn.nodes[k]).lastResult = 3 ∧
        (s0.xn.inputsLeft = [i] → t.cys.xnComplete = true ∧ Asserted 193 t.ints))) ∧
  (∀ (s : State) (src : BitVec 6) (tx rx : BitVec 8),
    (s.xn.role ≠ .master → exec (.claimReceived src tx rx) s = .next s) ∧
    (s.xn.role = .master → s.xn.claims = [] →
      ∃ t, exec (.claimReceived src tx rx) s = .next t ∧ t.xn.claims = [(src.toNat, tx.toNat, rx.toNat)] ∧
        t.xn.claimAnswer.1 = src.toNat ∧ (s.xn.claimEn = false → t.xn.claimAnswer.2.1 = 3) ∧ Asserted 200 t.ints)) ∧
  (∀ (s : State) (n : BitVec 6) (m : AcycMsg) (a : Acyc), s.xn.role = .master → xnLive s = true →
    s.xn.judged = false → s.xn.req = .acyc n.toNat → s.xn.acyc = some a → a.write = false → m.tag.toNat = a.tag →
    m.cmd = 8 → m.seg.getLsbD 0 = a.toggle → m.seg.getLsbD 1 = true → (∀ x, a.by_ ≠ .gdp x) →
    ∃ t, exec (.acycRespReceived n m) s = .next t ∧ t.xn.acyc = none ∧ t.xn.judged = true ∧ Asserted 202 t.ints ∧
      assocGet t.kiln.answers a.by_ = some (.done (a.data ++ m.data))) ∧
  (∀ (s : State) (dt : Nat), let s0 := advance dt s
    (s0.xn.acyc = none → exec (.acycTimeout dt) s = .next s0) ∧
    (∀ a, s0.xn.acyc = some a →
      ∃ t, exec (.acycTimeout dt) s = .next t ∧ t.xn.acyc = none ∧ t.xn.gwAbort = 0x05040000 ∧ Asserted 202 t.ints))

/-- A link frame whose CRC fails is counted and does nothing else; HEARTBEAT_STROBE sends a HEARTBEAT, received
beats clear the misses or bring the path up at the eighth, the third miss takes the pulse path down; a fault pulse
makes a STANDBY take over with 257 and 258 asserted, and the gates are released after the commit; REVERT_REQ,
HANDOVER and its acknowledgement agree on a tick and the hold changes in the quiet gap; with neither peer active the
preferred, or with a silent peer this module, becomes ACTIVE; craze flags set and clear with their condition;
TWIN_REQUESTED_RESET resets with kind 4. -/
def Obligations.TwinPairSupervisesAndHandsOver : Prop :=
  (∀ (s : State) (h : TwinHead), linkAlive s = true → h.crcOk = false →
    let r := Host.Outcome.next { s with twl := { s.twl with crcErrors := inc32 s.twl.crcErrors } }
    (∀ f n, exec (.twinHealthFrame h f n) s = r) ∧ (∀ a o, exec (.twinPageFrame h a o) s = r) ∧
      (∀ e, exec (.twinFwdFrame h e) s = r) ∧ (∀ k, exec (.twinCmdOlcSwitch h k) s = r) ∧
      (∀ i, exec (.standbyImageStage h i) s = r)) ∧
  (∀ (s : State) (dt : Nat), let s0 := advance dt s
    (twlRuns s0 = false → exec (.heartbeatStrobe dt) s = .next s0 ∧ ∀ w, exec (.heartbeatMiss dt w) s = .next s0) ∧
    (linkAlive s0 = true → s0.twl.role ≠ .alone → isRun s0 = true →
      ∃ t, exec (.heartbeatStrobe dt) s = .next t ∧ t.twl.beats = (s0.twl.beats + 1) % 2 ^ 32 ∧
        t.twl.seq = (s0.twl.seq + 1) % 65536 ∧ t.twl.lastTx.length = 28 ∧ t.twl.lastTx.take 1 = [1])) ∧
  (∀ (s : State) (dt : Nat) (h : TwinHead) (b : TwinBeat), let s0 := advance dt s
    s0.twl.role = .active →
    (twlRuns s0 = true → s0.twl.pulse.up = true →
      ∃ t, exec (.heartbeatReceived dt .pulse) s = .next t ∧ t.twl.pulse.miss = 0 ∧ t.twl.lastBeat = s0.tim.elapsed ∧
        t.twl.role = .active) ∧
    (twlRuns s0 = true → s0.twl.pulse.up = false → 7 ≤ s0.twl.pulse.good →
      ∃ t, exec (.heartbeatReceived dt .pulse) s = .next t ∧ t.twl.pulse.up = true ∧ t.twl.peerLost = false ∧
        Asserted 260 t.ints) ∧
    (linkAlive s0 = true → h.crcOk = true →
      ∃ t, exec (.heartbeatReceived dt (.link h b)) s = .next t ∧ t.twl.peerRole = b.role.toNat % 4 ∧
        t.twl.peerState = b.state.toNat % 16 ∧ t.twl.peerOlc = b.olc.toNat) ∧
    (twlRuns s0 = true → s0.twl.pulse.up = true → s0.twl.pulse.miss < 2 →
      ∃ t, exec (.heartbeatMiss dt .pulse) s = .next t ∧ t.twl.pulse.up = true ∧
        t.twl.pulse.miss = s0.twl.pulse.miss + 1 ∧ t.recd = s0.recd) ∧
    (twlRuns s0 = true → s0.twl.pulse.up = true → s0.twl.pulse.miss = 2 → s0.twl.link.up = true →
      ∃ t, exec (.heartbeatMiss dt .pulse) s = .next t ∧ t.twl.pulse.up = false ∧ t.twl.role = .active ∧
        Asserted 259 t.ints ∧ t.recd = (record 8 0x6004 1 0 0 s0).recd)) ∧
  (∀ (s : State) (dt : Nat), let s0 := advance dt s
    (twlRuns s0 = false → exec (.twinFaultReceived dt .pulse) s = .next s0) ∧
    (twlRuns s0 = true → s0.twl.role = .standby →
      ∃ t, exec (.twinFaultReceived dt .pulse) s = .next t ∧ t.twl.role = .active ∧
        t.twl.takeovers = inc32 s0.twl.takeovers ∧ t.twl.release = some false ∧ t.twl.peerLost = true ∧
        Asserted 256 t.ints ∧ Asserted 257 t.ints ∧ Asserted 258 t.ints) ∧
    (s0.twl.release = none → exec (.takeoverGateRelease dt) s = .next s0) ∧
    (s0.twl.release ≠ none → s0.cys.commit.isSome = true → exec (.takeoverGateRelease dt) s = .next s0) ∧
    (s0.twl.release = some false → s0.cys.commit = none → s0.cys.posting = none →
      ∃ t, exec (.takeoverGateRelease dt) s = .next t ∧ t.twl.release = none ∧
        ∀ b : Fin 3, (t.banks[b]).hold = false) ∧
    (s0.mod.state = .cold → exec (.twinRequestedReset dt) s = .next s0) ∧
    (s0.mod.state ≠ .cold → ∃ t, exec (.twinRequestedReset dt) s = .next t ∧ t.mod.state = .firing ∧
      t.pwr.rstKind = 4 ∧ t.pwr.rstPrev = s0.mod.state.code ∧ t.vrc.mode = .none)) ∧
  (∀ (s : State) (dt : Nat) (h : TwinHead), let s0 := advance dt s
    linkAlive s0 = true → h.crcOk = true → s0.twl.role = .active → s0.twl.peerRole = 2 →
    (revertRefusal s0 = 0 → ∃ t, exec (.twinCmdRevertReq dt h) s = .next t ∧
      t.twl.handover = some (handoverTick s0).toNat ∧ t.twl.handoverAcked = false ∧ t.recd = s0.recd) ∧
    (revertRefusal s0 ≠ 0 → ∃ t, exec (.twinCmdRevertReq dt h) s = .next t ∧ t.twl.handover = s0.twl.handover ∧
      t.recd = (record 8 0x600C (revertRefusal s0) s0.twl.peerCraze.toNat 0 s0).recd)) ∧
  (∀ (s : State) (dt : Nat) (h : TwinHead) (k : BitVec 64), let s0 := advance dt s
    linkAlive s0 = true → h.crcOk = true → s0.twl.role = .standby →
    ∃ t, exec (.twinCmdHandover dt h k) s = .next t ∧ t.twl.handover = some k.toNat ∧ t.twl.role = .standby) ∧
  (∀ (s : State) (h : TwinHead) (k : BitVec 64), linkAlive s = true → h.crcOk = true →
    (s.twl.role = .active → s.twl.handover = some k.toNat → exec (.twinCmdHandoverAck h k) s =
      .next { s with twl := { s.twl with handoverAcked := true } }) ∧
    (s.twl.handover ≠ some k.toNat → exec (.twinCmdHandoverAck h k) s = .next s)) ∧
  (∀ (s : State) (dt : Nat) (n : Nat), let s0 := advance dt s
    (s0.twl.handover = none → exec (.handoverHoldChange dt) s = .next s0) ∧
    (s0.twl.handover = some n → s0.twl.role = .standby → s0.cys.gap = true → s0.cys.quiet = true →
      ∃ t, exec (.handoverHoldChange dt) s = .next t ∧ t.twl.role = .active ∧ t.cys.delta = 0 ∧
        (∀ b : Fin 3, (t.banks[b]).hold = false) ∧ Asserted 264 t.ints ∧ Asserted 256 t.ints) ∧
    (s0.twl.handover = some n → s0.twl.role = .active → s0.twl.handoverAcked = true → s0.cys.gap = true →
      s0.cys.quiet = true →
      ∃ t, exec (.handoverHoldChange dt) s = .next t ∧ t.twl.role = .standby ∧
        t.cys.delta = s0.twl.delta * 1000 ∧ (∀ b : Fin 3, (t.banks[b]).hold = true) ∧ Asserted 264 t.ints)) ∧
  (∀ (s : State) (dt : Nat), let s0 := advance dt s
    s0.twl.role = .integrating → isRun s0 = true →
    (bothUp s0 = true → s0.twl.peerRole = 1 → s0.twl.pref = 0 → s0.pwr.pos = false →
      ∃ t, exec (.twinPeerIntegratingTimeout dt) s = .next t ∧ t.twl.role = .active ∧
        (∀ b : Fin 3, (t.banks[b]).hold = false) ∧ Asserted 256 t.ints) ∧
    (s0.twl.link.up = false → s0.twl.pulse.up = false →
      ∃ t, exec (.twinPeerSilentTimeout dt) s = .next t ∧ t.twl.role = .active ∧ t.twl.releaseAtCommit = true ∧
        t.twl.twrUntil = s0.tim.elapsed + 20000 ∧ t.banks = s0.banks ∧ Asserted 256 t.ints)) ∧
  (∀ (s : State) (dt : Nat) (u : Int), let s0 := advance dt s
    (s0.twl.revertAt = none → exec (.revertHoldExpiry dt) s = .next s0) ∧
    (s0.twl.revertAt = some u → s0.twl.role = .standby → preferred s0 = true → u ≤ s0.tim.elapsed →
      linkAlive s0 = true → ∃ t, exec (.revertHoldExpiry dt) s = .next t ∧ t.twl.lastTx[0]? = some 8 ∧
        t.twl.lastTx[8]? = some 1)) ∧
  (∀ (s : State) (f : Fin 32),
    (crazeCond f.val s = some true → s.twl.craze.getLsbD f.val = false →
      ∃ t, exec (.twinCraze f) s = .next t ∧ t.twl.craze = putBit s.twl.craze f.val true ∧
        t.recd = (record 8 0x600D (b2n s.pwr.pos) f.val 0 s).recd) ∧
    (crazeCond f.val s = some false → exec (.twinCraze f) s = .next s ∧ exec (.crazeFlagClear f) s =
      .next { s with twl := { s.twl with craze := putBit s.twl.craze f.val false } }) ∧
    (crazeCond f.val s = some true → exec (.crazeFlagClear f) s = .next s)) ∧
  (∀ s : State, (twlRuns s = false → exec .twpPulseError s = .next s) ∧
    (twlRuns s = true → exec .twpPulseError s =
      .next { s with twl := { s.twl with pulseErrors := inc16 s.twl.pulseErrors } }))

/-- A following module keeps INPUT images, queues RXFRAMEs, takes TIME frames, and compares CHECK frames, a
difference making it INTEGRATING with 261 asserted; the phases of an integration advance with LATENCY_DONE,
COPY_DONE, CHECKSUM_DONE, JOIN and STATEREC, pages and forwarded writes reach its memory; TIME and HEALTH frames are
sent; an image is staged and its switch agreed; QUIET_GAP_START computes the time available or begins the switch. -/
def Obligations.StandbyFollowsAndIntegrates : Prop :=
  (∀ (s : State) (h : TwinHead) (n : Fin 8) (c : BitVec 64) (o : BitVec 32) (bs : List (BitVec 8)),
    linkAlive s = true → h.crcOk = true →
    (s.twl.role = .active → exec (.twinInputFrame h n c o bs) s = .next s) ∧
    (s.twl.role = .standby → ∃ t i, exec (.twinInputFrame h n c o bs) s = .next t ∧ i ∈ t.twl.inputs ∧
      i.task = n.val ∧ i.cycle = c.toNat ∧ memRead i.cells o.toNat bs.length = bs)) ∧
  (∀ (s : State) (h : TwinHead) (p : Fin 2) (sec : BitVec 48) (ns : BitVec 32) (f : EthFrame) (vid pcp k : Nat)
    (tg : Bool), linkAlive s = true → h.crcOk = true → s.twl.role = .standby →
    classify s.lnc f.octets = (vid, pcp, tg) → slotFor s.lnc.filters (bare f.octets) vid = some k →
    ∃ t, exec (.twinRxframe h p sec ns f) s = .next t ∧ t.lnc.rxWait = s.lnc.rxWait ++
      [{ slot := k, port := p.val, tagged := tg, vid := vid, pcp := pcp
         ns := (sec.toNat * 1000000000 + ns.toNat : Nat), octets := bare f.octets }]) ∧
  (∀ (s : State) (dt : Nat) (h : TwinHead) (f : TimeFrame), let s0 := advance dt s
    linkAlive s0 = true → h.crcOk = true →
    (s0.twl.role = .active → exec (.twinTimeFrame dt h f) s = .next s0) ∧
    (s0.twl.role = .standby → ∃ t, exec (.twinTimeFrame dt h f) s = .next t ∧ t.twl.activeEb = f.eb.toNat ∧
      t.tim.everAccepted = true)) ∧
  (∀ (s : State) (h : TwinHead) (n : Fin 8) (c : BitVec 64) (crc : BitVec 32) (p : Check),
    linkAlive s = true → h.crcOk = true → s.twl.role = .standby → s.twl.resetDue = false →
    s.twl.ownChecks.find? (fun x => decide (x.task = n.val) && decide (x.cycle = c.toNat)) = some p →
    p.committed = true →
    (p.crc = crc.toNat → exec (.twinCheckFrame h n true c crc) s = .next { s with twl := { s.twl with
      ownChecks := s.twl.ownChecks.filter (fun x => decide (x ≠ p)) } }) ∧
    (p.crc ≠ crc.toNat → s.twl.divergedAt = none →
      ∃ t, exec (.twinCheckFrame h n true c crc) s = .next t ∧ t.twl.role = .integrating ∧
        t.twl.diverges = inc32 s.twl.diverges ∧ (∀ b : Fin 3, (t.banks[b]).hold = true) ∧ Asserted 261 t.ints)) ∧
  (∀ (s : State) (h : TwinHead) (f : BitVec 32) (n : BitVec 96), linkAlive s = true → h.crcOk = true →
    ∃ t, exec (.twinHealthFrame h f n) s = .next t ∧ t.twl.peerCraze = f ∧
      (f &&& ~~~s.twl.peerCraze ≠ 0 → Asserted 263 t.ints)) ∧
  (∀ (s : State) (h : TwinHead) (k : BitVec 64), linkAlive s = true → h.crcOk = true → s.twl.role = .standby →
    (s.cys.staged = none → exec (.twinCmdOlcSwitch h k) s = .next s) ∧
    (s.cys.staged ≠ none → ∃ t, exec (.twinCmdOlcSwitch h k) s = .next t ∧ t.twl.olcTick = some k.toNat ∧
      t.cys.olc = .accepted)) ∧
  (∀ (s : State) (dt : Nat) (h : TwinHead) (i : IntegInfo), let s0 := advance dt s
    linkAlive s0 = true → h.crcOk = true → isRun s0 = true → s0.twl.role = .integrating → s0.twl.phase = 1 →
    (integCompare i s0 = 0 → exec (.twinCmdIntegStart dt h i) s = .next { s0 with twl := { s0.twl with phase := 2 } }) ∧
    (integCompare i s0 ≠ 0 → ∃ t, exec (.twinCmdIntegStart dt h i) s = .next t ∧ t.twl.fail = integCompare i s0 ∧
      t.twl.phase = 0 ∧ t.twl.retry = true ∧ Asserted 265 t.ints)) ∧
  (∀ (s : State) (dt : Nat) (rt : BitVec 32), let s0 := advance dt s
    (s0.twl.phase ≠ 2 → exec (.twinLatencyDone dt rt) s = .next s0) ∧
    (s0.twl.phase = 2 → s0.twl.role = .active → ∃ t, exec (.twinLatencyDone dt rt) s = .next t ∧
      t.twl.latency = rt.toNat / 2 ∧ t.twl.phase = 3 ∧ t.twl.toCopy = copiedPages s0)) ∧
  (∀ (s : State) (h : TwinHead) (a : BitVec 64) (bs : List (BitVec 8)) (e : TwinFwd), linkAlive s = true →
    h.crcOk = true → s.twl.role = .integrating → 3 ≤ s.twl.phase →
    (sharedBase ≤ a.toNat → ∃ t, exec (.twinPageFrame h a bs) s = .next t ∧ vread t a.toNat bs.length = bs ∧
      t.twl.pages = s.twl.pages + (if (a.toNat + 4096) % 65536 = 0 then 1 else 0)) ∧
    (e.kind = 1 → ∃ t, exec (.twinFwdFrame h [e]) s = .next t ∧
      t.vmem = memWriteBe s.vmem e.addr.toNat e.be e.data 16)) ∧
  (∀ (s : State) (dt : Nat), let s0 := advance dt s
    (s0.twl.phase ≠ 3 → exec (.twinCopyDone dt) s = .next s0) ∧
    (s0.twl.phase = 3 → ∃ t, exec (.twinCopyDone dt) s = .next t ∧ t.twl.phase = 4 ∧ t.twl.pages = 0) ∧
    (s0.twl.phase ≠ 4 → exec (.twinChecksumDone dt) s = .next s0) ∧
    (s0.twl.phase = 4 → ∃ t, exec (.twinChecksumDone dt) s = .next t ∧ t.twl.phase = 5)) ∧
  (∀ (s : State) (dt : Nat) (h : TwinHead) (k : BitVec 64) (r : StateRec), let s0 := advance dt s
    linkAlive s0 = true → h.crcOk = true → s0.twl.role = .integrating →
    (3 ≤ s0.twl.phase → ∃ t, exec (.twinCmdJoin dt h k) s = .next t ∧ t.twl.joinTick = some k.toNat ∧ t.twl.phase = 5) ∧
    (s0.twl.joinTick = none → exec (.twinStaterecFrame dt h r) s = .next s0) ∧
    (s0.twl.joinTick ≠ none → ∃ t, exec (.twinStaterecFrame dt h r) s = .next t ∧ t.twl.role = .standby ∧
      t.twl.phase = 0 ∧ t.twl.joinTick = none ∧ t.cys.latchQ = [] ∧ t.cys.commitQ = [] ∧ Asserted 262 t.ints)) ∧
  (∀ (s : State) (dt : Nat), let s0 := advance dt s
    (s0.twl.role ≠ .integrating → exec (.twinIntegRetry dt) s = .next { s0 with twl := { s0.twl with retry := false } }) ∧
    (s0.twl.role = .integrating → isRun s0 = true → bothUp s0 = true → s0.twl.peerRole = 3 → s0.twl.phase = 0 →
      ∃ t, exec (.twinIntegRetry dt) s = .next t ∧ t.twl.phase = 1 ∧ t.twl.retry = false) ∧
    (∃ t, exec (.twinFwdHoldRelease dt) s = .next t ∧ t.twl.fwd = s0.twl.fwd ∧
      t.twl.fwdHold = (s0.twl.fwdHold && decide (512 < s0.twl.fwd.length))) ∧
    (s0.twl.role ≠ .active → exec (.timeFrameInterval dt) s = .next s0) ∧
    (s0.twl.role = .active → linkAlive s0 = true → ∃ t, exec (.timeFrameInterval dt) s = .next t ∧
      t.twl.lastTx[0]? = some 5 ∧ t.twl.sentSteps = s0.tim.stepSum) ∧
    (s0.twl.role = .alone → exec (.healthFrameInterval dt) s = .next s0) ∧
    (s0.twl.role ≠ .alone → linkAlive s0 = true → ∃ t, exec (.healthFrameInterval dt) s = .next t ∧
      t.twl.lastTx[0]? = some 7 ∧ (t.twl.lastTx.drop 8).take 4 = leBytes 4 s0.twl.craze.toNat)) ∧
  (∀ (s : State) (h : TwinHead) (im : List (BitVec 8)), linkAlive s = true → h.crcOk = true →
    (s.twl.role ≠ .standby → exec (.standbyImageStage h im) s = .next s) ∧
    (s.twl.role = .standby → stageRefusal im s = none → ∃ t, exec (.standbyImageStage h im) s = .next t ∧
      t.cys.staged = some (readImage im 0) ∧ t.cys.olc = .staged)) ∧
  (∀ (s : State) (dt : Nat), let s0 := advance dt s
    (s0.cys.gap = false → exec (.quietGapStart dt) s = .next s0) ∧
    (s0.cys.gap = true → s0.cys.quiet = true → s0.twl.gridTo = none → wedgedLane s0 = none → s0.twl.role = .alone →
      s0.kiln.verd = false → s0.cys.dump = false → s0.cys.movedDump = false →
      (switchNow s0 = false → ∃ t, exec (.quietGapStart dt) s = .next t ∧ t.cys.avail = 100 * gapLen s0 ∧
        t.cys.switchGap = false ∧ t.cys.olc = s0.cys.olc) ∧
      (switchNow s0 = true → ∃ t, exec (.quietGapStart dt) s = .next t ∧ t.cys.avail = 0 ∧ t.cys.switchGap = true ∧
        t.cys.olc = .switching)))

/-- SWITCH_FRAME_RECEIVED at a forwarding switch counts a frame of no VLAN as a VLAN drop, and learns the source of
a good frame of a member port and cuts a group frame through to an idle link; MAC_ADDRESS_AGEING removes exactly the
entry not heard for 300 s; INTERNAL_PORT_RECEIVE drops a bad frame and queues one for the lanes at the slot of its
filter or counts a miss; RECEIVE_SLOT_WRITE stores the oldest frame of the slot behind its descriptor and asserts
224 and up; LINK_CHANGE takes the new speed and asserts 240, and does nothing in coast; PRP_FRAME_RECEIVED discards
a copy seen within 400 ms and writes an accepted frame of a filter behind its descriptor into its receive slot;
PRP_SUPERVISION_INTERVAL sends a supervision frame; PRP_LAN_FAIL notes a LAN silent for 6 s while the other
delivers. -/
def Obligations.FramesCrossTheSwitchAndReachTheLanes : Prop :=
  (∀ (s : State) (dt : Nat) (p : Fin 3) (f : EthFrame) (vid pcp : Nat) (tg : Bool), let s0 := advance dt s
    (forwards s0 = false → exec (.switchFrameReceived dt p f) s = .next s0) ∧
    (forwards s0 = true → portSpd s0.lnc p ≠ 0 → classify s0.lnc f.octets = (vid, pcp, tg) →
      (vlanOf s0.lnc vid = none → exec (.switchFrameReceived dt p f) s =
        .next { s0 with lnc := { s0.lnc with vlanDrops := inc32 s0.lnc.vlanDrops } }) ∧
      (∀ w, vlanOf s0.lnc vid = some w → member w p = true → f.fcsOk = true → s0.lnc.macs.length < 1024 →
        isPtp f.octets = false →
        ∃ t, exec (.switchFrameReceived dt p f) s = .next t ∧ t.lnc.vlanDrops = s0.lnc.vlanDrops ∧
          { vid := vid, mac := macAt f.octets 6, port := p, seen := s0.tim.elapsed } ∈ t.lnc.macs ∧
          (p = 0 → groupMac f.octets = true → member w 1 = true → s0.lnc.spd = #v[2, 2] →
            (s0.lnc.egress[1]).busyUntil ≤ s0.tim.frc.toNat → topQueue s0.lnc.egress[1] = none →
            (t.lnc.egress[1]).last = leaving w 1 vid pcp (untag f.octets))))) ∧
  (∀ (s : State) (dt : Nat) (v : BitVec 12) (m : BitVec 48), let s0 := advance dt s
    ∃ t, exec (.macAddressAgeing dt v m) s = .next t ∧ ∀ e, e ∈ t.lnc.macs ↔ e ∈ s0.lnc.macs ∧
      ¬(e.vid = v.toNat ∧ e.mac = m.toNat ∧ e.seen + 300000000000 ≤ s0.tim.elapsed)) ∧
  (∀ (s : State) (dt : Nat) (p : Fin 2) (f : EthFrame) (vid pcp : Nat) (tg : Bool), let s0 := advance dt s
    let g := bare f.octets
    (f.fcsOk = false → exec (.internalPortReceive dt p f) s = .next s0) ∧
    (s0.pwr.on.getLsbD 6 = true → s0.pwr.on.getLsbD 5 = true → s0.clk.clken0.getLsbD 6 = true → f.fcsOk = true →
      isPtp f.octets = false → forKiln (ipOwn s0) g = false → s0.twl.role ≠ .standby → s0.twl.role ≠ .integrating →
      14 ≤ g.length → g.length ≤ 1514 →
      classify s0.lnc f.octets = (vid, pcp, tg) →
      ∃ t, exec (.internalPortReceive dt p f) s = .next t ∧
        (∀ k, slotFor s0.lnc.filters g vid = some k → t.lnc.miss = s0.lnc.miss ∧
          t.lnc.rxWait = s0.lnc.rxWait ++ [{ slot := k, port := p.val, tagged := tg, vid := vid, pcp := pcp
                                             ns := s0.tim.ns, octets := g }]) ∧
        (slotFor s0.lnc.filters g vid = none → t.lnc.miss = inc16 s0.lnc.miss ∧ t.lnc.rxWait = s0.lnc.rxWait))) ∧
  (∀ (s : State) (dt : Nat) (k : Fin 16), let s0 := advance dt s
    let base := lncRx + 0x800 * k.val
    ((∀ r ∈ s0.lnc.rxWait, r.slot ≠ k.val) → exec (.receiveSlotWrite dt k) s = .next s0) ∧
    (∀ r, s0.lnc.rxWait.find? (fun x => decide (x.slot = k.val)) = some r → slotLatching k.val s0 = false →
      ∃ t, exec (.receiveSlotWrite dt k) s = .next t ∧ t.lnc.rxWait = s0.lnc.rxWait.erase r ∧
        leNat (vread t base 4) = (leNat (vread s0 base 4) + 1) % 2 ^ 32 ∧
        vread t (base + 32) r.octets.length = r.octets ∧ Asserted (224 + k.val) t.ints)) ∧
  (∀ (s : State) (dt : Nat) (p : Fin 2) (spd : Fin 3), let s0 := advance dt s
    let c := Instr.linkChange dt ⟨p.val, by omega⟩ spd
    (s0.clk.quiet = true → exec c s = .next s0) ∧
    (s0.clk.quiet = false → s0.pwr.on.getLsbD 6 = true → s0.lnc.spd[p] = spd.val → exec c s = .next s0) ∧
    (s0.clk.quiet = false → s0.pwr.on.getLsbD 6 = true → s0.lnc.spd[p] ≠ spd.val →
      spd = 2 ∨ s0.clk.valid.getLsbD p.val = false →
      ∃ t, exec c s = .next t ∧ t.lnc.spd[p] = spd.val ∧ t.clk = s0.clk ∧ Asserted 240 t.ints ∧
        t.recd = (record 7 0x5001 p.val spd.val 0 s0).recd)) ∧
  (∀ (s : State) (dt : Nat) (l : Fin 2) (f : PrpFrame), let s0 := advance dt s
    (cpnLive s0 = false → exec (.prpFrameReceived dt l f) s = .next s0) ∧
    (cpnLive s0 = true → s0.cpn.spd[l] ≠ 0 →
      (∀ seq id, s0.cpn.prp = true → f.trailer = some (seq, id) →
        (∃ e ∈ s0.cpn.seen, e.1 = macAt f.octets 6 ∧ e.2.1 = seq.toNat ∧ s0.tim.elapsed < e.2.2 + 400000000) →
        ∃ t, exec (.prpFrameReceived dt l f) s = .next t ∧ t.cpn.dupl = inc16 s0.cpn.dupl ∧ t.vmem = s0.vmem ∧
          t.cpn.lastAt[l] = s0.tim.elapsed ∧ t.cpn.failed[l] = false) ∧
      (∀ k, s0.cpn.prp = false → forKiln (ipOwn s0) (bare f.octets) = false →
        slotFor s0.cpn.filters (bare f.octets) (cpnVid s0 f.octets) = some k → k < 4 →
        14 ≤ (bare f.octets).length → (bare f.octets).length ≤ 1514 →
        ∃ t, exec (.prpFrameReceived dt l f) s = .next t ∧
          leNat (vread t (0x0300028000 + 0x800 * k) 4) = (leNat (vread s0 (0x0300028000 + 0x800 * k) 4) + 1) % 2 ^ 32 ∧
          vread t (0x0300028000 + 0x800 * k + 32) (bare f.octets).length = bare f.octets ∧
          t.cpn.dupl = s0.cpn.dupl))) ∧
  (∀ (s : State) (dt : Nat), let s0 := advance dt s
    (cpnLive s0 = true → s0.cpn.prp = true →
      ∃ t, exec (.prpSupervisionInterval dt) s = .next t ∧ t.cpn.lastTx = supervision s0.lnc.mac s0.cpn.supervised ∧
        t.cpn.supervised = inc32 s0.cpn.supervised) ∧
    (s0.cpn.prp = false → exec (.prpSupervisionInterval dt) s = .next s0)) ∧
  (∀ (s : State) (dt : Nat) (l o : Fin 2), let s0 := advance dt s
    l ≠ o → cpnLive s0 = true → s0.cpn.prp = true → s0.cpn.lastAt[l] + 6000000000 ≤ s0.tim.elapsed →
    s0.tim.elapsed < s0.cpn.lastAt[o] + 6000000000 →
    (s0.cpn.failed[l] = true → exec (.prpLanFail dt l) s = .next s0) ∧
    (s0.cpn.failed[l] = false → ∃ t, exec (.prpLanFail dt l) s = .next t ∧ t.cpn.failed[l] = true ∧
      t.cpn.failed[o] = s0.cpn.failed[o] ∧ t.recd = (record 7 0x5004 l.val 0 0 s0).recd))

/-- On a channel that is on the bus: TPDO_EVENT_TIMER of a TPDO with an event time sends it, as CFD_TPDOTRIG_WRITE
of its bit does; RPDO_RECEIVED in the operational state stores the frame behind its descriptor in the buffer of its
COB-ID and outside it does nothing; CAN_BUSOFF takes the channel off the bus with record 0x5006 and
CAN_BUSOFF_RECOVERY puts it back with its counters at 0; NMT_COMMAND to the node sets its state;
CAN_PRODUCER_HEARTBEAT counts one sent; CAN_HB_LOST of a running consumer records 0x5007 and stops it until
CAN_HEARTBEAT_RECEIVED. -/
def Obligations.CanChannelsAreNodes : Prop :=
  (∀ (s : State) (dt : Nat) (c : Fin 2) (n : Fin 8), let s0 := advance dt s
    (canOn c s0 = false → exec (.tpdoEventTimer dt c n) s = .next s0) ∧
    (canOn c s0 = true → par s0 (0x1800 + 8 * c.val + n.val) 5 ≠ 0 → (s0.cfd.chans[c]).nmt = 2 →
      par s0 (0x1800 + 8 * c.val + n.val) 1 < 2 ^ 31 →
      let base := 0x0300038400 + 0x800 * c.val + 0x80 * n.val
      ∃ t, exec (.tpdoEventTimer dt c n) s = .next t ∧ (t.cfd.chans[c]).tpdos = inc32 (s0.cfd.chans[c]).tpdos ∧
        (t.cfd.chans[c]).lastTpdo =
          some (n.val, vread s0 (base + 16) (min 64 (leNat (vread s0 (base + 14) 1)))))) ∧
  (∀ s : State, (s.cfd.chans[0]).nmt = 2 → (s.cfd.chans[0]).bus < 2 → par s 0x1800 1 < 2 ^ 31 →
    exec (.cfdTpdotrigWrite 0) s = .next s ∧
    ∃ t, exec (.cfdTpdotrigWrite 1) s = .next t ∧ (t.cfd.chans[0]).tpdos = inc32 (s.cfd.chans[0]).tpdos ∧
      (t.cfd.chans[0]).lastTpdo =
        some (0, vread s 0x0300038410 (min 64 (leNat (vread s 0x030003840E 1)))) ∧ t.cfd.chans[1] = s.cfd.chans[1]) ∧
  (∀ (s : State) (dt : Nat) (c : Fin 2) (cob : BitVec 29) (d : List (BitVec 8)), let s0 := advance dt s
    ((s0.cfd.chans[c]).nmt ≠ 2 → exec (.rpdoReceived dt c cob d) s = .next s0) ∧
    (∀ n, canOn c s0 = true → (s0.cfd.chans[c]).nmt = 2 → d.length ≤ 64 → rpdoOf c cob.toNat s0 = some n →
      ∃ t, exec (.rpdoReceived dt c cob d) s = .next t ∧ let base := 0x0300038000 + 0x800 * c.val + 0x80 * n.val
        leNat (vread t base 4) = (leNat (vread s0 base 4) + 1) % 2 ^ 32 ∧ vread t (base + 14) 1 = leBytes 1 d.length ∧
          vread t (base + 16) d.length = d)) ∧
  (∀ (s : State) (c : Fin 2) (tec : BitVec 8),
    (canOn c s = false → exec (.canBusoff c tec) s = .next s) ∧
    (canOn c s = true → ∃ t, exec (.canBusoff c tec) s = .next t ∧ (t.cfd.chans[c]).bus = 2 ∧
      (t.cfd.chans[c]).tec = tec.toNat ∧ t.recd = (record 7 0x5006 c.val tec.toNat 0 s).recd)) ∧
  (∀ (s : State) (dt : Nat) (c : Fin 2), let s0 := advance dt s
    cfdLive s0 = true → (s0.cfd.chans[c]).node ≠ 0 →
    ((s0.cfd.chans[c]).bus < 2 → exec (.canBusoffRecovery dt c) s = .next s0) ∧
    (2 ≤ (s0.cfd.chans[c]).bus → ∃ t, exec (.canBusoffRecovery dt c) s = .next t ∧ (t.cfd.chans[c]).bus = 0 ∧
      (t.cfd.chans[c]).tec = 0 ∧ (t.cfd.chans[c]).recc = 0 ∧ (t.cfd.chans[c]).nmt = (s0.cfd.chans[c]).nmt)) ∧
  (∀ (s : State) (c : Fin 2) (n : BitVec 7), canOn c s = true →
    (n ≠ 0 → n.toNat ≠ (s.cfd.chans[c]).node → ∀ m, exec (.nmtCommand c n m) s = .next s) ∧
    (n = 0 ∨ n.toNat = (s.cfd.chans[c]).node →
      (∃ t, exec (.nmtCommand c n .start) s = .next t ∧ (t.cfd.chans[c]).nmt = 2) ∧
      (∃ t, exec (.nmtCommand c n .stop) s = .next t ∧ (t.cfd.chans[c]).nmt = 3) ∧
      (∃ t, exec (.nmtCommand c n .preOperational) s = .next t ∧ (t.cfd.chans[c]).nmt = 1))) ∧
  (∀ (s : State) (dt : Nat) (c : Fin 2), let s0 := advance dt s
    (par s0 0x1017 0 = 0 → exec (.canProducerHeartbeat dt c) s = .next s0) ∧
    (par s0 0x1017 0 ≠ 0 → canOn c s0 = true →
      ∃ t, exec (.canProducerHeartbeat dt c) s = .next t ∧ (t.cfd.chans[c]).beats = inc32 (s0.cfd.chans[c]).beats)) ∧
  (∀ (s : State) (dt : Nat) (k : Fin 4) (c : Fin 2) (node : Nat), let s0 := advance dt s
    consumerOf k s0 = some (c, node) → canOn c s0 = true →
    (s0.cfd.consuming.getLsbD k.val = false → exec (.canHbLost dt k) s = .next s0) ∧
    (s0.cfd.consuming.getLsbD k.val = true → ∃ t, exec (.canHbLost dt k) s = .next t ∧
      t.cfd.consuming.getLsbD k.val = false ∧ t.recd = (record 7 0x5007 c.val node 0 s0).recd)) ∧
  (∀ (s : State) (c : Fin 2) (n : BitVec 7),
    (canOn c s = false → exec (.canHeartbeatReceived c n) s = .next s) ∧
    (canOn c s = true → ∃ t, exec (.canHeartbeatReceived c n) s = .next t ∧
      ∀ k : Fin 4, t.cfd.consuming.getLsbD k.val =
        (s.cfd.consuming.getLsbD k.val || decide (consumerOf k s = some (c, n.toNat)))))

/-- POSTED_WRITE_COMPLETE lands the oldest posted write or logs its late error with status 3 or 2; BRG_PWERR logs it
with the status given; FAR_SIDE_READ_RESPONSE gives the waiting core its value, and a failure or
FAR_SIDE_READ_TIMEOUT a bus error; BRG_TAG_FREE posts the waiting write; BRG_SEM_EXPIRED frees the semaphore with
275 asserted; PREFETCH_EXPIRY drops the oldest line and logs an untaken word of side effects;
FORWARDED_INTERRUPT_EDGE asserts the block's bit. -/
def Obligations.BridgeCompletesItsAccesses : Prop :=
  (∀ (s : State) (dt : Nat) (f : FarStatus), let s0 := advance dt s
    s0.brg.posted = [] → exec (.postedWriteComplete dt) s = .next s0 ∧ exec (.brgPwerr dt f) s = .next s0) ∧
  (∀ (s : State) (dt : Nat) (p : Posted) (q : List Posted), let s0 := advance dt s
    s0.brg.posted = p :: q →
    (farOff s0 p.addr.toNat = none → 0x0300038400 ≤ p.addr.toNat → p.addr.toNat < 0x0300038800 →
      ∃ t, exec (.postedWriteComplete dt) s = .next t ∧ t.brg = { s0.brg with posted := q } ∧
        t.vmem = memWriteBe s0.vmem (p.addr.toNat / 16 * 16) p.be p.data 16) ∧
    (s0.brg.log.length < 16 →
      ∀ st : Nat, (farOff s0 p.addr.toNat ≠ none ∧ st = 3) ∨
        (farOff s0 p.addr.toNat = none ∧ 0x0300040000 ≤ p.addr.toNat ∧ p.addr.toNat < 0x0300050000 ∧ st = 2) →
      ∃ t e, exec (.postedWriteComplete dt) s = .next t ∧ t.brg.posted = q ∧ t.brg.log = s0.brg.log ++ [e] ∧
        e.w0 = p.addr.setWidth 32 ∧ e.w1.toNat / 65536 % 256 = st ∧ t.brg.errCount = inc16 s0.brg.errCount ∧
        t.vmem = s0.vmem ∧ Asserted 272 t.ints) ∧
    (s0.brg.log.length < 16 → ∀ f : FarStatus,
      ∃ t e, exec (.brgPwerr dt f) s = .next t ∧ t.brg.posted = q ∧ t.brg.log = s0.brg.log ++ [e] ∧
        e.w1.toNat / 65536 % 256 =
          (match f with | .timeout => 1 | .refused => 2 | .domainLost => 3 | .interconnect => 4) ∧
        t.brg.errCount = inc16 s0.brg.errCount ∧ Asserted 272 t.ints)) ∧
  (∀ (s : State) (dt : Nat) (x : Bool), let s0 := advance dt s
    forwarded s0 = none → exec (.farSideReadResponse dt x) s = .next s0 ∧ exec (.farSideReadTimeout dt) s = .next s0) ∧
  (∀ (s : State) (dt : Nat) (r : FarRead) (k : Fin 8) (op : LoadOp) (d : Fin 32), let s0 := advance dt s
    forwarded s0 = some r → r.master = some k → s0.vrc.mode = .split → s0.cys.current = none → r.write = none →
    (s0.cores[k]).pend = some (.load op d) →
    (farOff s0 r.addr.toNat = none → 0x0300028000 ≤ r.addr.toNat → r.addr.toNat < 0x0300030000 →
      brgPF s0.brg r.addr.toNat = false →
      ∃ t, exec (.farSideReadResponse dt false) s = .next t ∧ (t.cores[k]).pend = none ∧
        (t.cores[k]).x = ((s0.cores[k]).loaded op d (leNat (vread s0 r.addr.toNat r.size))).x ∧
        (t.cores[k]).pc = (s0.cores[k]).pc + 4 ∧ t.clk = s0.clk ∧ ∀ y ∈ t.brg.reads, y.tag ≠ r.tag) ∧
    (∀ c, c = Instr.farSideReadResponse dt true ∨ c = Instr.farSideReadTimeout dt →
      ∃ t, exec c s = .next t ∧ (t.cores[k]).pend = none ∧ (t.cores[k]).x = (s0.cores[k]).x ∧
        (t.cores[k]).exl = true ∧ (t.cores[k]).pc = (s0.cores[k]).word 5 ∧ t.clk.berrCount = inc32 s0.clk.berrCount ∧
        t.clk.berrAddr = r.addr ∧ Asserted 69 t.ints)) ∧
  (∀ (s : State) (dt : Nat), let s0 := advance dt s
    (s0.brg.waiting = [] → exec (.brgTagFree dt) s = .next s0) ∧
    (∀ w q, s0.brg.waiting = w :: q → freeTag s0.brg ≠ none → s0.cys.current = none →
      farOff s0 w.beat.addr.toNat = none → w.beat.attr.extractLsb' 0 4 = 2 → w.beat.attr.getLsbD 9 = false →
      brgRO s0.brg w.beat.addr.toNat = false → farRegister w.beat.addr.toNat = false →
      ∃ t p, exec (.brgTagFree dt) s = .next t ∧ t.brg.waiting = q ∧ t.brg.posted = s0.brg.posted ++ [p] ∧
        p.addr = w.beat.addr ∧ p.data = w.beat.data ∧ p.be = w.beat.be ∧ p.master = w.master)) ∧
  (∀ (s : State) (dt : Nat) (n : Fin 16), let s0 := advance dt s
    (s0.brg.sems[n] = none → exec (.brgSemExpired dt n) s = .next s0) ∧
    (s0.brg.sems[n] ≠ none → ∃ t, exec (.brgSemExpired dt n) s = .next t ∧ t.brg.sems[n] = none ∧
      t.brg.expire = inc16 s0.brg.expire ∧ Asserted 275 t.ints)) ∧
  (∀ (s : State) (dt : Nat), let s0 := advance dt s
    (s0.brg.lines = [] → exec (.prefetchExpiry dt) s = .next s0) ∧
    (∀ l q, s0.brg.lines = l :: q → ∃ t, exec (.prefetchExpiry dt) s = .next t ∧
      (∀ x ∈ t.brg.lines, x.base ≠ l.base) ∧ ((∀ w : Fin 16, l.taken.getLsbD w.val = true) → t.brg.pfCount = s0.brg.pfCount) ∧
      (l.taken = 0 → brgSE s0.brg l.base = true → t.brg.pfCount = inc16 s0.brg.pfCount ∧ Asserted 273 t.ints))) ∧
  (∀ s : State,
    (klmOut s = false → exec (.forwardedInterruptEdge .klm) s = .next s) ∧
    (klmOut s = true → ∃ t, exec (.forwardedInterruptEdge .klm) s = .next t ∧ Asserted 276 t.ints) ∧
    (∃ t, exec (.forwardedInterruptEdge .cpn) s = .next t ∧ Asserted 277 t.ints) ∧
    (∃ t, exec (.forwardedInterruptEdge .cfd) s = .next t ∧ Asserted 278 t.ints) ∧
    (∃ t, exec (.forwardedInterruptEdge .dbg) s = .next t ∧ Asserted 279 t.ints))

/-- GDP_OPEN takes the first free session or answers 0x0504_0005, a GDP request with the last SEQ gets the last
answer again and one with a wrong SEQ 0x0503_0000; with the next SEQ GDP_READ gives the value, GDP_WRITE stores a
parameter, GDP_CLOSE ends the session, as 30 s of silence do; KEYX_CHALLENGE gives power-cycle count and FRC, the
right KEYX_RESPONSE raises the level, a wrong one is refused; a locked exchange is refused until KEYX_LOCKOUT_END;
MAINTENANCE_KEY_WRITE stores the key; USDO_TRANSFER of another command and USDO_TIMEOUT are aborted. -/
def Obligations.SessionsKeysAndTransfers : Prop :=
  (∀ (s : State) (h : GdpHead) (c : BitVec 32), s.boot.fwWait = none →
    (gdpPort h s = false → exec (.gdpOpen h c) s = .next s) ∧
    (gdpPort h s = true → h.session = 0 →
      (∀ n : Fin 4, (s.kiln.sessions[n.val]).open_ = false → (∀ m : Fin 4, m < n → (s.kiln.sessions[m.val]).open_ = true) →
        ∃ t, exec (.gdpOpen h c) s = .next t ∧ (t.kiln.sessions[n.val]).open_ = true ∧
          (t.kiln.sessions[n.val]).client = c ∧ (t.kiln.sessions[n.val]).maint = false ∧
          t.kiln.openAnswer = some (.done (leBytes 2 (n.val + 1)))) ∧
      ((∀ m : Fin 4, (s.kiln.sessions[m.val]).open_ = true) → exec (.gdpOpen h c) s =
        .next { s with kiln := { s.kiln with openAnswer := some (.abort 0x05040005) } }))) ∧
  (∀ (s : State) (h : GdpHead) (n : Fin 4) (i : BitVec 16) (k : BitVec 8) (o : BitVec 32) (bl : BlockIn),
    s.boot.fwWait = none → gdpPort h s = true → gdpSession h s = some n →
    let x := s.kiln.sessions[n.val]
    (∀ a, 0 < x.seq → h.seq.toNat = x.seq → x.answer = some a →
      ∃ t, exec (.gdpRead h i k o) s = .next t ∧ exec (.gdpWrite h i k bl) s = .next t ∧ exec (.gdpClose h) s = .next t ∧
        Answered (.gdp n) t a ∧ t.kiln.sessions = s.kiln.sessions ∧ t.boot = s.boot) ∧
    (h.seq.toNat ≠ x.seq → h.seq.toNat ≠ (x.seq + 1) % 2 ^ 32 →
      ∃ t, exec (.gdpRead h i k o) s = .next t ∧ exec (.gdpWrite h i k bl) s = .next t ∧ exec (.gdpClose h) s = .next t ∧
        Answered (.gdp n) t (.abort 0x05030000) ∧ t.kiln.sessions = s.kiln.sessions ∧ t.boot = s.boot) ∧
    (h.seq.toNat = (x.seq + 1) % 2 ^ 32 → h.seq.toNat ≠ x.seq → sessBusy x = false →
      (∀ e w, readCheck (.gdp n) i.toNat k.toNat s = .inl e → e.ty = .uint w → i.toNat < 0x2000 →
        ∃ t, exec (.gdpRead h i k o) s = .next t ∧ (t.kiln.sessions[n.val]).seq = h.seq.toNat ∧
          Answered (.gdp n) t (.done (leBytes w (entryValue (.gdp n) s i.toNat k.toNat)))) ∧
      (∀ cd, readCheck (.gdp n) i.toNat k.toNat s = .inr cd →
        ∃ t, exec (.gdpRead h i k o) s = .next t ∧ Answered (.gdp n) t (.abort cd) ∧ t.recd = s.recd) ∧
      (∀ e, writeCheck (.gdp n) 0x1017 0 bl.data s = .inl e →
        ∃ t, exec (.gdpWrite h 0x1017 0 bl) s = .next t ∧ Answered (.gdp n) t (.done []) ∧
          stored t 0x1017 0 = leNat bl.data ∧ t.kiln.dirty = true) ∧
      (∃ t, exec (.gdpClose h) s = .next t ∧ (t.kiln.sessions[n.val]).open_ = false ∧
        (t.kiln.sessions[n.val]).maint = false ∧ Answered (.gdp n) t (.done [])))) ∧
  (∀ (s : State) (dt : Nat) (i : Fin 6), let s0 := advance dt s
    ((s0.kiln.sessions[i]).open_ = false → exec (.gdpSessionIdleTimeout dt i) s = .next s0) ∧
    ((s0.kiln.sessions[i]).open_ = true → ∃ t, exec (.gdpSessionIdleTimeout dt i) s = .next t ∧
      (t.kiln.sessions[i]).open_ = false ∧ (t.kiln.sessions[i]).maint = false)) ∧
  (∀ (s : State) (b : Session) (i : Fin 6), Served b s → sessIdx b = some i →
    (keyLocked s = true → ∃ t, exec (.keyxChallenge b) s = .next t ∧ Answered b t (.abort 0x08000022) ∧
      t.recd = (record 0 0x0041 (sessPath b) (sessId b) 3 s).recd) ∧
    (keyLocked s = false → s.kiln.lastChal ≠ some s.tim.frc →
      ∃ t, exec (.keyxChallenge b) s = .next t ∧ t.kiln.lastChal = some s.tim.frc ∧
        Answered b t (.done (leBytes 4 s.recd.pwrcyc ++ leBytes 8 s.tim.frc.toNat)) ∧
        (t.kiln.sessions[i]).challenge =
          some { octets := leBytes 4 s.recd.pwrcyc ++ leBytes 8 s.tim.frc.toNat, at_ := s.tim.elapsed }) ∧
    (∀ (c : Challenge) (r : List (BitVec 8)), keyLocked s = false → (sessOf b s).challenge = some c →
      s.tim.elapsed ≤ c.at_ + tenNs → r.length = 16 →
      (r = (sha256 (s.kiln.key ++ c.octets ++ leBytes 4 (sessId b))).take 16 →
        ∃ t, exec (.keyxResponse b r) s = .next t ∧ Answered b t (.done []) ∧ (t.kiln.sessions[i]).maint = true ∧
          (t.kiln.sessions[i]).challenge = none) ∧
      (r ≠ (sha256 (s.kiln.key ++ c.octets ++ leBytes 4 (sessId b))).take 16 →
        ∃ t, exec (.keyxResponse b r) s = .next t ∧ Answered b t (.abort 0x08000020) ∧
          (t.kiln.sessions[i]).maint = (s.kiln.sessions[i]).maint ∧ (t.kiln.sessions[i]).challenge = none)) ∧
    (∀ key : List (BitVec 8), levelUp b s = true → key.length = 16 → leNat key ≠ 0 →
      ∃ t, exec (.maintenanceKeyWrite b key) s = .next t ∧ t.kiln.key = key ∧ Answered b t (.done [])) ∧
    (∀ key : List (BitVec 8), levelUp b s = false →
      ∃ t, exec (.maintenanceKeyWrite b key) s = .next t ∧ t.kiln.key = s.kiln.key ∧
        Answered b t (.abort 0x08000020))) ∧
  (∀ (s : State) (dt : Nat), let s0 := advance dt s
    (keyLocked s0 = true → exec (.keyxLockoutEnd dt) s = .next s0) ∧
    (keyLocked s0 = false → exec (.keyxLockoutEnd dt) s = .next { s0 with kiln := { s0.kiln with lockUntil := none } })) ∧
  (∀ (s : State) (c : Fin 2), Served (.can c) s → ∃ t, exec (.usdoTransfer c .unknown) s = .next t ∧
    Answered (.can c) t (.abort 0x05040001) ∧ (t.kiln.sessions[4 + c.val]).open_ = true) ∧
  (∀ (s : State) (dt : Nat) (c : Fin 2), let s0 := advance dt s
    (canLive c s0 = false → exec (.usdoTimeout dt c) s = .next s0) ∧
    (canLive c s0 = true → ∃ t, exec (.usdoTimeout dt c) s = .next t ∧ Answered (.can c) t (.abort 0x05040000)))

/-- From a session at MAINTENANCE level with the supply in range: command 1 is kept for the next cycle boundary,
command 2 leaves MAINTENANCE and command 4 leaves SERVICE for FIRING with reset kind 5, command 3 enters BANKED,
WARM_RESTART in SERVICE resets with kind 7, each refused with 0x0800_0022 elsewhere; a lane is selected in SERVICE
for 1oo1 and released; wide mode is written once; SAFETY_WRITE in a RUN state stages the value with 276 asserted,
KLM_VERDICT7_WRITE completes the verdict, a good verdict applies it in the SAFETY reserve, the commit stores and
answers it, a bad one or the timeout discards it. -/
def Obligations.StateCommandsAndSafetyCommits : Prop :=
  (∀ (s : State) (b : Session), Served b s → levelUp b s = true →
    (s.pwr.supply = 0 → maintainable s.mod.state = true →
      ∃ t, exec (.stateCmdEnterMaintenance b) s = .next t ∧ Answered b t (.done []) ∧
        t.mod = { s.mod with command := 1 }) ∧
    (maintainable s.mod.state = false → ∃ t, exec (.stateCmdEnterMaintenance b) s = .next t ∧
      Answered b t (.abort 0x08000022) ∧ t.mod = s.mod) ∧
    (s.pwr.supply = 0 → s.mod.state = .maintenance → ∃ t, exec (.stateCmdLeaveMaintenance b) s = .next t ∧
      Answered b t (.done []) ∧ t.mod.state = .firing ∧ t.pwr.rstKind = 5 ∧ t.pwr.rstDetail = 2) ∧
    (s.mod.state ≠ .maintenance → ∃ t, exec (.stateCmdLeaveMaintenance b) s = .next t ∧
      Answered b t (.abort 0x08000022) ∧ t.mod = s.mod) ∧
    (bankable s.mod.state = true → ∃ t, exec (.stateCmdEnterBanked b) s = .next t ∧ Answered b t (.done []) ∧
      t.mod.state = .banked ∧ t.vrc.mode = .none) ∧
    (s.pwr.supply = 0 → s.mod.state = .service → ∃ t, exec (.stateCmdModuleReset b) s = .next t ∧
      Answered b t (.done []) ∧ t.mod.state = .firing ∧ t.pwr.rstKind = 5 ∧ t.pwr.rstDetail = 4) ∧
    (isRun s = true → ∃ t, exec (.stateCmdModuleReset b) s = .next t ∧ Answered b t (.abort 0x08000022) ∧ t.mod = s.mod) ∧
    (romMode s = false →
      (s.pwr.supply = 0 → s.mod.state = .service → ∃ t, exec (.warmRestart b) s = .next t ∧ Answered b t (.done []) ∧
        t.mod.state = .firing ∧ t.pwr.rstKind = 7) ∧
      (isRun s = true → ∃ t, exec (.warmRestart b) s = .next t ∧ Answered b t (.abort 0x08000022) ∧ t.mod = s.mod) ∧
      (∀ l : Fin 4, s.mod.state = .service → s.vrc.mode ≠ .oo1 → laneState s l ≠ .retired → laneState s l ≠ .quarantine →
        ∃ t, exec (.lane1oo1Select b l) s = .next t ∧ Answered b t (.done []) ∧ t.vrc.mode = .oo1 ∧ t.vrc.svc = l ∧
          (t.vrc.lanes[l]).fenced = false ∧ (t.vrc.lanes[l]).held = false) ∧
      (s.mod.state = .service → s.vrc.mode = .oo1 → ∃ t, exec (.lane1oo1Release b) s = .next t ∧
        Answered b t (.done []) ∧ t.vrc.mode = .none ∧ (t.vrc.lanes[s.vrc.svc]).fenced = true) ∧
      (∀ l : Fin 4, s.mod.state ≠ .service → ∃ t, exec (.lane1oo1Select b l) s = .next t ∧
        Answered b t (.abort 0x08000022) ∧ t.vrc = s.vrc) ∧
      (∀ on, (s.vrc.wideWritten = true → ∃ t, exec (.wideModeWrite b on) s = .next t ∧ Answered b t (.abort 0x08000022) ∧
          t.vrc = s.vrc ∧ t.kiln.params = s.kiln.params) ∧
        (s.vrc.wideWritten = false → ∃ t, exec (.wideModeWrite b on) s = .next t ∧ Answered b t (.done []) ∧
          t.vrc.wideWritten = true ∧ stored t 0x2100 3 = b2n on)))) ∧
  (∀ (s : State) (b : Session) (i : BitVec 16) (k : BitVec 8) (d : List (BitVec 8)) (e : DEntry), Served b s →
    writeCheck b i.toNat k.toNat d s = .inl e → e.safety = true → i.toNat ≠ 0x3011 → isRun s = true →
    (s.kiln.staged ≠ none → ∃ t, exec (.safetyWrite b i k d) s = .next t ∧ Answered b t (.abort 0x08000022) ∧
      t.kiln.staged = s.kiln.staged) ∧
    (s.kiln.staged = none → s.twl.role = .alone → ∃ t, exec (.safetyWrite b i k d) s = .next t ∧
      t.kiln.staged = some { index := i.toNat, sub := k.toNat, value := d, by_ := some b, seq := s.kiln.safetySeq + 1 } ∧
      t.kiln.verd = false ∧ t.kiln.applied = false ∧ t.kiln.inForce = s.kiln.inForce ∧ Asserted 276 t.ints)) ∧
  (∀ (s : State) (v : BitVec 32), ∃ t, exec (.klmVerdict7Write v) s = .next t ∧ t.kiln.verdict[7] = v ∧
    t.kiln.verd = (s.kiln.verd || s.kiln.staged.isSome) ∧ t.kiln.staged = s.kiln.staged ∧ t.recd = s.recd) ∧
  (∀ (s : State) (dt : Nat) (g : Staged) (b : Session), let s0 := advance dt s
    s0.kiln.staged = some g → g.by_ = some b →
    (s0.kiln.applied = true → exec (.safetyReserve dt) s = .next s0 ∧ exec (.safetyTimeout dt) s = .next s0) ∧
    (s0.kiln.applied = false → exec (.safetyCommit dt) s = .next s0) ∧
    (s0.cys.gap = true → s0.cys.quiet = true → s0.cys.resvSafety = true → s0.kiln.verd = true →
      s0.kiln.applied = false →
      (verdictRefusal g s0 = none → g.index ≠ 0x3011 → ∃ t, exec (.safetyReserve dt) s = .next t ∧
        t.kiln.applied = true ∧ par t g.index g.sub = leNat g.value ∧ t.kiln.params = s0.kiln.params) ∧
      (∀ c, verdictRefusal g s0 = some c → ∃ t, exec (.safetyReserve dt) s = .next t ∧ t.kiln.staged = none ∧
        t.kiln.lastRefusal = c ∧ Answered b t (.abort c) ∧ t.kiln.inForce = s0.kiln.inForce)) ∧
    (s0.kiln.applied = true → g.index ≠ 0x3011 → ∃ t, exec (.safetyCommit dt) s = .next t ∧ t.kiln.staged = none ∧
      t.kiln.applied = false ∧ t.kiln.commits = inc32 s0.kiln.commits ∧ stored t g.index g.sub = leNat g.value ∧
      Answered b t (.done [])) ∧
    (s0.kiln.applied = false → ∃ t, exec (.safetyTimeout dt) s = .next t ∧ t.kiln.staged = none ∧
      t.kiln.lastRefusal = 0x08000022 ∧ Answered b t (.abort 0x08000022))) ∧
  (∀ (s : State) (h : TwinHead) (i : BitVec 16) (k : BitVec 8) (d : List (BitVec 8)), linkAlive s = true →
    h.crcOk = true →
    (s.twl.role ≠ .standby → exec (.safetyValueFromActive h i k d) s = .next s) ∧
    (s.twl.role = .standby → isRun s = true →
      (valueFromActiveGood i.toNat k.toNat d s = true → ∃ t, exec (.safetyValueFromActive h i k d) s = .next t ∧
        t.kiln.staged = some { index := i.toNat, sub := k.toNat, value := d, by_ := none, seq := s.kiln.safetySeq + 1 } ∧
        Asserted 276 t.ints) ∧
      (valueFromActiveGood i.toNat k.toNat d s = false → ∃ t, exec (.safetyValueFromActive h i k d) s = .next t ∧
        t.twl.role = .integrating ∧ t.kiln.staged = s.kiln.staged)))

/-- With the debug lock open, DEBUG_HALT halts the target, DEBUG_RUN and DEBUG_STEP in SERVICE let it go on,
registers and memory of a halted target are read and written, and a breakpoint halts; a first FW_BLOCK waits for its
sectors, FLASH_SECTOR_ERASED programs and answers it, blocks of an image and of a schedule table fill their
transfers, which TRANSFER_ABANDON_TIMEOUT ends; FW_ACTIVATE, FW_REVERT and the cancelling commands set the next
bank; RECORDER_READ gives the records asked for; an image is staged, switched or discarded; a gateway request begins
its transfer. -/
def Obligations.ImagesFirmwareAndDebugger : Prop :=
  (∀ (s : State) (b : Session) (k : Fin 8) (q : List (Fin 8)), Served b s → levelUp b s = true → romMode s = false →
    par s 0x2001 1 = 0 → targetCores s = k :: q →
    (s.mod.state = .service → targetExecutes s = true → ∃ t, exec (.debugHalt b) s = .next t ∧ Answered b t (.done []) ∧
      (∀ i ∈ k :: q, (t.cores[i]).halted = true ∧ (t.cores[i]).pc = (s.cores[i]).pc) ∧ t.mod = s.mod) ∧
    (isRun s = true → ∃ t, exec (.debugRun b) s = .next t ∧ Answered b t (.abort 0x08000022) ∧ t.cores = s.cores) ∧
    (targetRuns s = true →
      (∃ t, exec (.debugRun b) s = .next t ∧ Answered b t (.done []) ∧ ∀ i ∈ k :: q, (t.cores[i]).halted = false) ∧
      (∃ t, exec (.debugStep b) s = .next t ∧ Answered b t (.done []) ∧ ∀ i ∈ k :: q,
        (t.cores[i]).steps = (s.cores[i]).steps + (if (s.cores[i]).halted then 1 else 0))) ∧
    (targetHalted s = true →
      (∀ n : Fin 32, ∃ t, exec (.debugRegisterAccess b (.general ⟨n.val, by omega⟩) none) s = .next t ∧ t.cores = s.cores ∧
        Answered b t (.done (leBytes 8 ((s.cores[k]).getX n).toNat))) ∧
      (∀ (n : Fin 32) (d : List (BitVec 8)), d.length = 8 →
        ∃ t, exec (.debugRegisterAccess b (.general ⟨n.val, by omega⟩) (some d)) s = .next t ∧ Answered b t (.done []) ∧
          ∀ i ∈ k :: q, (t.cores[i]).x = ((s.cores[i]).setX n (BitVec.ofNat 64 (leNat d))).x) ∧
      (∀ n : BitVec 16, memReadBad n.toNat s = none → ∃ t, exec (.debugMemoryAccess b n none) s = .next t ∧
        Answered b t (.done (memRead s.mems[k] s.kiln.memAddr n.toNat)) ∧ t.mems = s.mems) ∧
      (∀ (n : BitVec 16) (d : List (BitVec 8)), memReadBad d.length s = none →
        ∃ t, exec (.debugMemoryAccess b n (some d)) s = .next t ∧ Answered b t (.done []) ∧
          ∀ i ∈ k :: q, memRead t.mems[i] s.kiln.memAddr d.length = d)) ∧
    (targetHalted s = false → ∀ r v, (∀ d, v = some d → d.length = 8) →
      ∃ t, exec (.debugRegisterAccess b (.general r) v) s = .next t ∧ Answered b t (.abort 0x08000022) ∧
        t.cores = s.cores)) ∧
  (∀ (s : State) (k : Fin 8), (atBreakpoint k s = false → exec (.debugBreakpointHit k) s = .next s) ∧
    (atBreakpoint k s = true → s.mod.state = .service → ∃ t, exec (.debugBreakpointHit k) s = .next t ∧
      (t.cores[k]).halted = true ∧ (t.cores[k]).pc = (s.cores[k]).pc)) ∧
  (∀ (s : State) (b : Session) (d : List (BitVec 8)) (l : Bool), Served b s → levelUp b s = true → romMode s = false →
    0 < d.length → d.length ≤ 1024 →
    (s.boot.fw = none → fwFirstRefused s = false → ∃ t, exec (.fwBlock b ⟨0, false, d⟩) s = .next t ∧
      t.boot.fwWait = some (b, 0, false, d) ∧ t.boot.fwErased = [0] ∧ t.boot.fwResult = 1 ∧
      (t.boot.banks[fwTarget s.boot]).state = .writing ∧ t.kiln.answers = s.kiln.answers) ∧
    (s.boot.app = none → ∃ t, exec (.appImageBlock b ⟨0, l, d⟩) s = .next t ∧ Answered b t (.done []) ∧
      t.boot.appBuf = d ∧ t.boot.appClosed = l ∧ (t.boot.app = none ↔ l = true)) ∧
    (s.boot.sched = none → ∃ t, exec (.scheduleTableBlock b ⟨0, false, d⟩) s = .next t ∧ Answered b t (.done []) ∧
      t.boot.sched = some { session := sessKey b, data := d, lastOff := 0, lastLen := d.length } ∧
      t.xn.stored = s.xn.stored)) ∧
  (∀ (s : State) (dt : Nat), let s0 := advance dt s
    (s0.boot.fwWait = none → exec (.flashSectorErased dt) s = .next s0) ∧
    (∀ b off d, s0.boot.fwWait = some (b, off, false, d) → ∃ t, exec (.flashSectorErased dt) s = .next t ∧
      t.boot.fwWait = none ∧ Answered b t (.done []) ∧
      (t.boot.banks[fwTarget s0.boot]).image = (s0.boot.banks[fwTarget s0.boot]).image.take off ++ d) ∧
    (∀ x, s0.boot.app = some x → ∃ t, exec (.transferAbandonTimeout dt 0x3010) s = .next t ∧ t.boot.app = none ∧
      t.recd = (record 0 0x7004 3 2 x.data.length s0).recd) ∧
    (∀ x, s0.boot.fw = some x → ∃ t, exec (.transferAbandonTimeout dt 0x2A10) s = .next t ∧ t.boot.fw = none ∧
      t.boot.fwWait = none ∧ t.boot.fwResult = 5)) ∧
  (∀ (s : State) (b : Session), Served b s → levelUp b s = true →
    ((s.boot.banks[fwTarget s.boot]).state = .written → ∃ t, exec (.fwActivate b) s = .next t ∧ Answered b t (.done []) ∧
      t.boot.nextBank = (fwTarget s.boot).val ∧ t.boot.prev = s.boot.running ∧ t.boot.fwResult = 3) ∧
    ((s.boot.banks[fwTarget s.boot]).state ≠ .written → ∃ t, exec (.fwActivate b) s = .next t ∧
      Answered b t (.abort 0x08000022) ∧ t.boot = s.boot) ∧
    (∀ p : Fin 3, s.boot.prev = some p.val → (s.boot.banks[p]).state = .good → s.boot.running ≠ some p.val →
      ∃ t, exec (.fwRevert b) s = .next t ∧ Answered b t (.done []) ∧ t.boot.nextBank = p.val ∧ t.boot.fwResult = 6) ∧
    (∀ f, s.boot.fw = some f → ∃ t, exec (.fwCancelTransfer b) s = .next t ∧ Answered b t (.done []) ∧
      t.boot.fw = none ∧ t.boot.fwResult = 4 ∧ (t.boot.banks[fwTarget s.boot]).state = .empty) ∧
    (∀ r, s.boot.running = some r → s.boot.nextBank ≠ r → ∃ t, exec (.fwCancelActivation b) s = .next t ∧
      Answered b t (.done []) ∧ t.boot.nextBank = r ∧ t.boot.prev = s.boot.savedPrev)) ∧
  (∀ (s : State) (b : Session), Served b s →
    (∃ t, exec (.recorderRead b) s = .next t ∧ t.recd = s.recd ∧
      Answered b t (.done (recordsFrom s.recd (sessOf b s).recFirst (sessOf b s).recCount))) ∧
    (romMode s = false → s.xn.acyc = none →
      (∃ t a, exec (.gatewayRead b) s = .next t ∧ t.xn.acyc = some a ∧ a.by_ = b ∧ a.node = s.kiln.gwNode ∧
        a.index = s.kiln.gwIndex ∧ a.sub = s.kiln.gwSub ∧ a.write = false ∧ t.kiln.answers = s.kiln.answers) ∧
      (∀ d : List (BitVec 8), levelUp b s = true → 0 < d.length → d.length ≤ 65536 → s.kiln.gwIn = none →
        ∃ t a, exec (.gatewayWrite b d) s = .next t ∧ t.xn.acyc = some a ∧ a.by_ = b ∧ a.write = true ∧ a.data = d ∧
          a.total = d.length)) ∧
    (levelUp b s = true → romMode s = false →
      (s.cys.staged = none → ∃ t, exec (.imageDiscard b) s = .next t ∧ Answered b t (.abort 0x08000022) ∧
        t.cys.staged = none) ∧
      (s.cys.staged ≠ none → s.cys.olc = .staged → ∃ t, exec (.imageDiscard b) s = .next t ∧ Answered b t (.done []) ∧
        t.cys.staged = none ∧ t.cys.result = 4 ∧ t.cys.app = s.cys.app) ∧
      (∀ p : BitVec 8, stages s = true → s.twl.role = .alone → stageRefusal (bufferedImage s) s = none →
        ∃ t, exec (.imageStage b p) s = .next t ∧ Answered b t (.done []) ∧
          t.cys.staged = some (readImage (bufferedImage s) 0) ∧ t.cys.olc = .staged ∧ t.cys.app = s.cys.app) ∧
      (s.cys.staged ≠ none → s.cys.olc = .staged → isRun s = true → s.twl.role = .alone → s.kiln.staged = none →
        ∃ t, exec (.olcSwitchRequest b) s = .next t ∧ t.kiln.staged =
          some { index := 0x3011, sub := 2, value := [1], by_ := some b, seq := s.kiln.safetySeq + 1 })))

/-- Outside COLD, EVENT_SUBMIT of an allowed code that is not privileged adds its stamped entry to the staging FIFO
when neither the FIFO nor the head can take it by merging; merges with the newest entry where R416 lets it; and is
lost and counted when the FIFO holds 64. From the lanes, by EVENT_SUBMIT or REC_EV3_WRITE, REC_EVRES tells which; a
privileged code without a token is suppressed with result 5, one with a token is queued as privileged and takes the
token; TOKEN_REFILL gives a token back up to the code's burst. In COLD and for the source codes 12 to 14 nothing
happens. -/
def Obligations.EventsEnterTheRecorder : Prop :=
  (∀ (s : State) (src : Fin 16) (c : BitVec 16) (a b d : BitVec 32),
    s.mod.state = .cold ∨ (12 ≤ src.val ∧ src.val < 15) → exec (.eventSubmit src c a b d) s = .next s) ∧
  (∀ (s : State) (src : Fin 16) (c : BitVec 16) (a b d : BitVec 32), s.mod.state ≠ .cold → src.val < 10 →
    codeRefused src.val c.toNat = false → privIndex s.recd c.toNat = none →
    let e := stampEntry s.recd src.val c.toNat a.toNat b.toNat d.toNat
    (s.recd.fifo = [] → s.recd.head = none →
      ∃ t, exec (.eventSubmit src c a b d) s = .next t ∧ t.recd.fifo = [e] ∧ t.recd.mram = s.recd.mram ∧
        t.recd.lost = s.recd.lost) ∧
    (∀ q n, s.recd.fifo = q ++ [n] → mergeable e n = false → q.length < 63 →
      ∃ t, exec (.eventSubmit src c a b d) s = .next t ∧ t.recd.fifo = q ++ [n, e] ∧ t.recd.merges = s.recd.merges) ∧
    (∀ q n, s.recd.fifo = q ++ [n] → mergeable e n = true →
      ∃ t, exec (.eventSubmit src c a b d) s = .next t ∧ t.recd.merges = inc32 s.recd.merges ∧
        t.recd.fifo = q ++ [{ n with repeats := n.repeats + 1 }]) ∧
    (∀ q n, s.recd.fifo = q ++ [n] → mergeable e n = false → q.length = 63 →
      ∃ t, exec (.eventSubmit src c a b d) s = .next t ∧ t.recd.fifo = s.recd.fifo ∧
        t.recd.lost = inc32 s.recd.lost ∧ t.recd.loss = inc16 s.recd.loss ∧ t.recd.lossLast = c.toNat)) ∧
  (∀ (s : State) (c : BitVec 16) (a b d : BitVec 32), s.mod.state ≠ .cold → 0x8100 ≤ c.toNat → c.toNat ≤ 0x8FFF →
    let e := stampEntry s.recd 10 c.toNat a.toNat b.toNat d.toNat
    (privIndex s.recd c.toNat = none → s.recd.fifo = [] → s.recd.head = none →
      ∃ t, exec (.eventSubmit 10 c a b d) s = .next t ∧ t.recd.fifo = [e] ∧ t.recd.evRes = 1) ∧
    (∀ i, privIndex s.recd c.toNat = some i → assocGet s.recd.tokens c.toNat = none →
      ∃ t, exec (.eventSubmit 10 c a b d) s = .next t ∧ t.recd.fifo = s.recd.fifo ∧ t.recd.evRes = 5 ∧
        t.recd.suppressedTotal[i] = inc32 s.recd.suppressedTotal[i]) ∧
    (∀ i k, privIndex s.recd c.toNat = some i → assocGet s.recd.tokens c.toNat = some (k + 1) →
      s.recd.fifo.length < 64 →
      ∃ t, exec (.eventSubmit 10 c a b d) s = .next t ∧ t.recd.evRes = 1 ∧
        assocGet t.recd.tokens c.toNat = some k ∧ t.recd.fifo = s.recd.fifo ++
          [{ e with priv := true, repeats := min 255 ((assocGet s.recd.suppressed c.toNat).getD 0) }])) ∧
  (∀ (s : State) (v : BitVec 32), let c := s.recd.ev[0].toNat % 65536
    0x8100 ≤ c → c ≤ 0x8FFF → privIndex s.recd c = none → s.recd.fifo = [] → s.recd.head = none →
    ∃ t, exec (.recEv3Write v) s = .next t ∧ t.recd.evRes = 1 ∧
      t.recd.fifo = [stampEntry s.recd 10 c s.recd.ev[1].toNat s.recd.ev[2].toNat v.toNat]) ∧
  (∀ (s : State) (dt : Nat) (c : BitVec 16) (p : Nat × Nat × Nat), let s0 := advance dt s
    s0.mod.state ≠ .cold → s0.recd.privileged.find? (fun x => decide (x.1 = c.toNat)) = some p →
    ∃ t, exec (.tokenRefill dt c) s = .next t ∧ t.recd.fifo = s0.recd.fifo ∧
      assocGet t.recd.tokens c.toNat = some (min p.2.1 ((assocGet s0.recd.tokens c.toNat).getD 0 + 1)))

/-- Outside COLD, RECORD_WRITE writes the oldest entry of the FIFO with the next SEQ into the next slot and makes it
the head; cut short in its first phase it ends in COLD with neither head copy changed; HEAD_REWRITE writes the
head's record again through the shadow; OPTIME_SAVE saves the operating time; BANDWIDTH_WINDOW_END takes each
monitor's count over; GAP_DUMP in an acknowledged gap and PERIODIC_DUMP advance DUMPSEQ in each ACTIVE lane whose
LPC agrees, once in a microsecond. -/
def Obligations.RecordsAndDumpsAreWritten : Prop :=
  (∀ (s : State) (dt : Nat) (e : RecEntry) (q : List RecEntry), let s0 := advance dt s
    s0.mod.state ≠ .cold → s0.recd.rewrite = false → s0.recd.sherdNext = false → s0.recd.fifo = e :: q →
    (s0.recd.loss = 0 → ∃ t, exec (.recordWrite dt .complete) s = .next t ∧ t.recd.fifo = q ∧ t.recd.head = some e ∧
      t.recd.headValid = true ∧ t.recd.headIndex = nextSlot s0.recd ∧ t.recd.headSeq = nextSeq s0.recd.headSeq ∧
      t.recd.written = inc32 s0.recd.written ∧
      slotBytes t.recd (nextSlot s0.recd) = recordBytes (nextSeq s0.recd.headSeq) e) ∧
    (∀ l, ∃ t, exec (.recordWrite dt (.slotTorn l)) s = .next t ∧ t.mod.state = .cold ∧
      t.recd.headA = s0.recd.headA ∧ t.recd.headB = s0.recd.headB) ∧
    (∃ t, exec (.recordWrite dt .secondLost) s = .next t ∧ t.mod.state = .cold ∧
      t.recd.headA = s0.recd.headA ∧ t.recd.headB = s0.recd.headB ∧
      slotBytes t.recd (nextSlot s0.recd) = recordBytes (nextSeq s0.recd.headSeq) e)) ∧
  (∀ (s : State) (dt : Nat) (e : RecEntry), let s0 := advance dt s
    s0.mod.state ≠ .cold → s0.recd.head = some e →
    (s0.recd.rewrite = false → exec (.headRewrite dt .complete) s = .next s0) ∧
    (s0.recd.rewrite = true → ∃ t, exec (.headRewrite dt .complete) s = .next t ∧ t.recd.rewrite = false ∧
      t.recd.shadow = recordBytes s0.recd.headSeq e ∧
      slotBytes t.recd s0.recd.headIndex = recordBytes s0.recd.headSeq e ∧ t.recd.fifo = s0.recd.fifo)) ∧
  (∀ (s : State) (dt : Nat), let s0 := advance dt s
    (s0.mod.state = .cold → exec (.optimeSave dt) s = .next s0) ∧
    (s0.mod.state ≠ .cold → exec (.optimeSave dt) s =
      .next { s0 with recd := { s0.recd with savedOptime := s0.recd.optime } })) ∧
  (∀ (s : State) (dt : Nat), let s0 := advance dt s
    (s0.pwr.on.getLsbD 5 = false → exec (.bandwidthWindowEnd dt) s = .next s0) ∧
    (s0.mod.state ≠ .cold → s0.pwr.on.getLsbD 5 = true →
      ∃ t, exec (.bandwidthWindowEnd dt) s = .next t ∧ ∀ i : Fin 8, (t.bw[i]).count = 0 ∧
        (t.bw[i]).last = (s0.bw[i]).count / 4 % 2 ^ 32 ∧ (t.bw[i]).max_ = max (s0.bw[i]).max_ (t.bw[i]).last)) ∧
  (∀ (s : State) (dt : Nat) (p : Lpc) (a : Nat), let s0 := advance dt s
    isRun s0 = true → (activeLanes s0).length = 2 ∨ (activeLanes s0).length = 3 → p.derr = false →
    (∀ l ∈ activeLanes s0, (s0.cores[coreP l]).lpc = p ∧ dumpBase s0.cores[coreP l] = some a) →
    let q := { p with dumpSeq := nextSeq p.dumpSeq, dumpUs := some (elapsedUs s0) }
    (p.dumpUs = some (elapsedUs s0) → exec (.periodicDump dt) s = .next s0) ∧
    (p.dumpUs ≠ some (elapsedUs s0) → p.dumpPer ≠ 0 →
      ∃ t, exec (.periodicDump dt) s = .next t ∧ t.mod = s0.mod ∧
        ∀ l ∈ activeLanes s0, (t.cores[coreP l]).lpc = q) ∧
    (p.dumpUs ≠ some (elapsedUs s0) → s0.cys.gap = true → s0.cys.ack = true → s0.cys.dump = true →
      ∃ t, exec (.gapDump dt) s = .next t ∧ t.cys.movedDump = false ∧
        ∀ l ∈ activeLanes s0, (t.cores[coreP l]).lpc = q) ∧
    (s0.cys.gap = false → exec (.gapDump dt) s = .next s0))

/-- POWER_ON_RESET_RELEASE in COLD enters FIRING with OPTIME at its saved value, the power cycle counted, the slot
position taken and the start window open, and does nothing in any other state; BOOT_BANK_CHOICE with the clocks up
boots the bank named by the boot record where it passes its check, a WRITTEN bank becoming TRIAL with one boot;
KILN_FIRMWARE_START with a bank booted brings the Kiln up with the stored parameters in force. -/
def Obligations.StartLeavesColdAndChoosesABank : Prop :=
  (∀ (s : State) (p : Bool), s.mod.state = .cold →
    ∃ t, exec (.powerOnResetRelease p) s = .next t ∧ t.mod.state = .firing ∧ t.recd.optime = s.recd.savedOptime ∧
      t.recd.pwrcyc = inc32 s.recd.pwrcyc ∧ t.pwr.pos = p ∧ t.clk.startWin = true ∧ t.kiln = s.kiln) ∧
  (∀ (s : State) (p : Bool), s.mod.state ≠ .cold → exec (.powerOnResetRelease p) s = .next s) ∧
  (∀ (s : State) (r : Bool) (b : Fin 3), s.mod.state = .firing → s.mod.start.clocksUp = true →
    s.mod.start.booted = false → s.boot.watchdogTrial = none → s.boot.nextBank = b.val →
    (s.boot.banks[b]).state = .written → fwCheck s.mod.issue (s.boot.banks[b]).image = none →
    ∃ t, exec (.bootBankChoice r) s = .next t ∧ t.mod.start.booted = true ∧ t.boot.running = some b.val ∧
      (t.boot.banks[b]).state = .trial ∧ (t.boot.banks[b]).trials = 1 ∧ t.boot.boots = inc32 s.boot.boots ∧
      t.mod.state = .firing) ∧
  (∀ (s : State), s.mod.state = .firing → s.mod.start.booted = true → s.mod.start.kilnUp = false →
    s.kiln.pfv = s.boot.runPfv →
    ∃ t, exec (.kilnFirmwareStart []) s = .next t ∧ t.mod.start.kilnUp = true ∧ t.kiln.inForce = s.kiln.params ∧
      t.kiln.params = s.kiln.params ∧ t.mod.state = .firing ∧ t.pwr.on = s.pwr.on ||| stepFive s)

/-- In FIRING with the Kiln up: LANE_STARTUP_TESTS_DONE with four passes makes every lane that is neither RETIRED
nor in QUARANTINE usable with memory of zeros; PROCESSOR_SECTION_LOADED with a good CRC notes the section, and the
first bad CRC notes one retry and records 0x7009; STARTUP_INJECTION_SET without a failure, not in wide mode, notes
the pass and goes on, and with a failure records 0x1007, asserts interrupt 37 and enters SERVICE. -/
def Obligations.LanesAreTestedAndLoaded : Prop :=
  (∀ (s : State) (l : Fin 4), s.mod.state = .firing → s.mod.start.kilnUp = true → s.mod.start.lanesTested = false →
    laneState s l ≠ .retired → laneState s l ≠ .quarantine →
    ∃ t, exec (.laneStartupTestsDone .pass .pass .pass .pass) s = .next t ∧ t.mod.start.lanesTested = true ∧
      (t.vrc.lanes[l]).usable = true ∧ t.mems[coreP l] = [] ∧ t.mod.state = .firing ∧ t.recd = s.recd) ∧
  (∀ (s : State), s.mod.state = .firing → s.mod.start.kilnUp = true → s.mod.start.lanesTested = false →
    laneState s 0 = .spare →
    ∃ t, exec (.laneStartupTestsDone .lbistP .pass .pass .pass) s = .next t ∧ laneState t 0 = .retired ∧
      t.mod.start.lanesTested = true ∧ t.pwr.on = putBit s.pwr.on 1 false) ∧
  (∀ (s : State) (g : LoadTarget), s.mod.state = .firing → s.mod.start.kilnUp = true → g ∉ s.boot.loadOk →
    g ∉ s.boot.loadFailed →
    (∃ t, exec (.processorSectionLoaded g true) s = .next t ∧ t.boot.loadOk = s.boot.loadOk ++ [g] ∧ t.mod = s.mod) ∧
    (g ∉ s.boot.loadOnce → ∃ t, exec (.processorSectionLoaded g false) s = .next t ∧
      t.boot.loadOnce = s.boot.loadOnce ++ [g] ∧ t.boot.loadFailed = s.boot.loadFailed ∧
      t.recd = (submitEvent s.recd 0 10 0x7009 (loadKind g).1 (loadKind g).2 1).1)) ∧
  (∀ (s : State), s.mod.state = .firing → s.mod.start.lanesTested = true → s.mod.start.injected = false →
    wideChosen s = false →
    (∃ t, exec (.startupInjectionSet none) s = .next t ∧ t.mod.start.injected = true ∧ t.vrc.injStartOk = true ∧
      t.mod.state = .firing) ∧
    (∀ f : InjFail, ∃ t, exec (.startupInjectionSet (some f)) s = .next t ∧ t.mod.state = .service ∧
      t.vrc.injStartOk = false ∧ t.vrc.injKind = f.kind.val ∧ t.vrc.injPair = f.pair.val ∧
      t.vrc.injGroup = f.group.val ∧ Asserted 37 t.ints))

/-- In FIRING: LANE_IMAGE_LOADED for lanes that all answer a good CRC makes them WEDGED; SAFETY_SET_CHECK of a set
within its ranges releases the WEDGED lanes; FIRING_END with three or more WEDGED lanes, not in wide mode, enters
RUN-2oo3 with voting mode 2oo3 and the three lowest of them ACTIVE on gate sets 0, 1 and 2, and with two enters
RUN-2oo2 with voting mode 2oo2. -/
def Obligations.FiringEndsInRun : Prop :=
  (∀ (s : State), s.mod.state = .firing → s.mod.start.lanesTested = true → s.mod.start.loaded = false →
    s.mod.start.injected = true → (∀ l : Fin 4, (s.vrc.lanes[l]).usable = true ∧ laneState s l = .spare ∧
      s.pwr.on.getLsbD (1 + l.val) = true) → s.pwr.on.getLsbD 5 = true →
    ∃ t, exec (.laneImageLoaded 0xF) s = .next t ∧ t.mod.start.loaded = true ∧ (∀ l : Fin 4, laneState t l = .wedged) ∧
      t.mod.state = .firing) ∧
  (∀ (s : State), s.mod.state = .firing → s.mod.start.loaded = true → s.mod.start.safetyOk = false →
    (∀ m ∈ safetyMembers, memberBad m s = false) →
    ∃ t, exec .safetySetCheck s = .next t ∧ t.mod.start.safetyOk = true ∧ t.recd = s.recd ∧
      ∀ l : Fin 4, laneState s l = .wedged → (t.vrc.lanes[l]).held = false ∧ laneState t l = .wedged) ∧
  (∀ (s : State) (dt : Nat) (a b c : Fin 4) (q : List (Fin 4)), s.mod.state = .firing → s.mod.start.loaded = true →
    s.mod.start.safetyOk = true → wideChosen s = false → lanesIn s (fun x => decide (x = .wedged)) = a :: b :: c :: q →
    ∃ t, exec (.firingEnd dt) s = .next t ∧ t.mod.state = .run2oo3 ∧ t.vrc.mode = .oo3 ∧ t.vrc.subst = false ∧
      laneState t a = .active ∧ laneState t b = .active ∧ laneState t c = .active ∧
      (t.vrc.lanes[a]).gate = some 0 ∧ (t.vrc.lanes[b]).gate = some 1 ∧ (t.vrc.lanes[c]).gate = some 2) ∧
  (∀ (s : State) (dt : Nat) (a b : Fin 4), s.mod.state = .firing → s.mod.start.loaded = true →
    s.mod.start.safetyOk = true → wideChosen s = false → lanesIn s (fun x => decide (x = .wedged)) = [a, b] →
    ∃ t, exec (.firingEnd dt) s = .next t ∧ t.mod.state = .run2oo2 ∧ t.vrc.mode = .oo2 ∧ t.vrc.subst = false ∧
      laneState t a = .active ∧ laneState t b = .active)

/-- TRIAL_TIMEOUT of a TRIAL bank in FIRING makes it BAD with cause 8 and resets the module with kind 3;
FW_CONFIRMED 60 s of operating time after FIRING makes the TRIAL bank GOOD with no trials; KILN_WATCHDOG_RESET
outside COLD enters FIRING with reset kind 3 and detail 1, voting mode none, and the counts of resets advanced. -/
def Obligations.TrialsEndAndResetsFire : Prop :=
  (∀ (s : State) (b : Fin 3), trialBank s = some b → s.mod.state = .firing → s.mod.start.kilnUp = true →
    ∃ t, exec .trialTimeout s = .next t ∧ (t.boot.banks[b]).state = .bad ∧ t.boot.fallback = 8 ∧
      t.mod.state = .firing ∧ t.pwr.rstKind = 3 ∧ t.pwr.rstDetail = 3) ∧
  (∀ (s : State) (dt : Nat) (b : Fin 3) (f : Nat), trialBank s = some b → s.boot.firedAt = some f →
    f + 60000 ≤ s.recd.optime → s.mod.state = .run2oo3 →
    ∃ t, exec (.fwConfirmed dt) s = .next t ∧ (t.boot.banks[b]).state = .good ∧ (t.boot.banks[b]).trials = 0 ∧
      t.mod = s.mod) ∧
  (∀ (s : State), s.mod.state ≠ .cold →
    ∃ t, exec .kilnWatchdogReset s = .next t ∧ t.mod.state = .firing ∧ t.pwr.rstKind = 3 ∧ t.pwr.rstDetail = 1 ∧
      t.pwr.rstPrev = s.mod.state.code ∧ t.pwr.resets = inc32 s.pwr.resets ∧ t.vrc.mode = .none ∧
      t.mod.start = { clocksUp := true } ∧ t.kiln.params = s.kiln.params ∧ t.recd.mram = s.recd.mram)

/-- POWER_FAIL_WARNING outside COLD with the supply in range saves OPTIME and counts the warning; POWER_FAIL after
it in a RUN state enters SAFE-HOLD with cause 0x0061 and switches the domains off; SUPPLY_RETURN before the
power-fail point counts a dip, and after it is COLD with reset kind 2; HOLDUP_EXHAUSTED and BROWN_OUT_RESET of a
rail trip are COLD with the records and the parameters kept; MODULE_WITHDRAWN in a RUN state enters SAFE-HOLD with
cause 0x0067. -/
def Obligations.SupplyFailsAndReturns : Prop :=
  (∀ (s : State) (v : BitVec 16), s.mod.state ≠ .cold → s.pwr.supply = 0 →
    ∃ t, exec (.powerFailWarning v) s = .next t ∧ t.pwr.supply = 1 ∧ t.pwr.warnings = inc32 s.pwr.warnings ∧
      t.pwr.volt = v.toNat ∧ t.recd = { s.recd with savedOptime := s.recd.optime } ∧ t.mod = s.mod) ∧
  (∀ (s : State) (dt : Nat) (v : BitVec 16), isRun s = true → s.pwr.supply = 1 →
    ∃ t, exec (.powerFail dt v) s = .next t ∧ t.mod.state = .safeHold ∧ t.mod.cause = 0x0061 ∧ t.pwr.supply = 2 ∧
      t.pwr.on = s.pwr.on &&& 0x441) ∧
  (∀ (s : State) (us : BitVec 32) (v : BitVec 16), isRun s = true → s.pwr.supply = 1 →
    ∃ t, exec (.supplyReturn us v) s = .next t ∧ t.pwr.supply = 0 ∧ t.pwr.dips = inc32 s.pwr.dips ∧ t.mod = s.mod ∧
      t.recd = (submitEvent s.recd 0 10 0x0060 us.toNat s.pwr.lowest 0).1) ∧
  (∀ (s : State) (us : BitVec 32) (v : BitVec 16), s.mod.state = .safeHold → s.pwr.supply = 2 →
    ∃ t, exec (.supplyReturn us v) s = .next t ∧ t.mod.state = .cold ∧ t.pwr.rstKind = 2) ∧
  (∀ (s : State), s.mod.state ≠ .cold → s.pwr.supply ≠ 0 →
    ∃ t, exec .holdupExhausted s = .next t ∧ t.mod.state = .cold ∧ t.pwr.rstKind = 1 ∧ t.vrc.mode = .none ∧
      t.recd.mram = s.recd.mram ∧ t.kiln.params = s.kiln.params ∧ t.boot.banks = s.boot.banks) ∧
  (∀ (s : State), s.mod.state ≠ .cold →
    ∃ t, exec (.brownOutReset true) s = .next t ∧ t.mod.state = .cold ∧ t.pwr.rstKind = 2 ∧ t.pwr.rstDetail = 2 ∧
      t.pwr.rstPrev = s.mod.state.code ∧ t.recd.mram = s.recd.mram) ∧
  (∀ (s : State), isRun s = true →
    ∃ t, exec .moduleWithdrawn s = .next t ∧ t.mod.state = .safeHold ∧ t.mod.cause = 0x0067 ∧
      t.pwr.withdrawn = true ∧ t.pwr.withdrawals = inc32 s.pwr.withdrawals)

/-- DOMAIN_FAULT of a powered PD9 outside COLD switches it off, notes the fault and loses the CAN FD registers;
TEMP_MEASUREMENT outside COLD takes the temperature, and the tenth at or above 120 degrees in a RUN state enters
SAFE-HOLD with cause 0x0069; MAINTENANCE_AT_BOUNDARY after command 1 in SERVICE enters MAINTENANCE; in BANKED,
BANKED_POWER_STATE_REACHED with no wake held notes it, BANKED_WAKE after it enters FIRING with reset kind 6 and
before it is held, and GDP_WAKE at a port enabled for it does the same. -/
def Obligations.DomainsTemperatureAndBanked : Prop :=
  (∀ (s : State) (mv : BitVec 32), s.pwr.on.getLsbD 9 = true → s.mod.state ≠ .cold →
    ∃ t, exec (.domainFault 9 mv) s = .next t ∧ t.pwr.on = putBit s.pwr.on 9 false ∧
      t.pwr.railFault = putBit s.pwr.railFault 9 true ∧ t.cfd = {} ∧ t.mod = s.mod ∧ t.vrc = s.vrc ∧
      t.recd = (submitEvent s.recd 0 10 0x0063 9 mv.toNat s.mod.state.code).1) ∧
  (∀ (s : State) (v : BitVec 16), s.mod.state ≠ .cold → v.toInt < 1050 →
    ∃ t, exec (.tempMeasurement v) s = .next t ∧ t.pwr.temp = v ∧ t.pwr.hotRun = 0 ∧ t.pwr.measured = true ∧
      t.pwr.hotTenths = s.pwr.hotTenths ∧ t.mod = s.mod ∧ t.recd = s.recd) ∧
  (∀ (s : State) (v : BitVec 16), isRun s = true → 1200 ≤ v.toInt → s.pwr.hotRun = 9 →
    ∃ t, exec (.tempMeasurement v) s = .next t ∧ t.mod.state = .safeHold ∧ t.mod.cause = 0x0069 ∧
      t.pwr.tempTrip = true) ∧
  (∀ (s : State) (dt : Nat), s.mod.command = 1 → s.mod.state = .service →
    ∃ t, exec (.maintenanceAtBoundary dt) s = .next t ∧ t.mod.state = .maintenance ∧ t.mod.command = 0 ∧
      t.vrc.mode = .none) ∧
  (∀ (s : State) (dt : Nat), s.mod.state = .banked → s.pwr.bankedReached = false → s.pwr.heldWake = [] →
    ∃ t, exec (.bankedPowerStateReached dt) s = .next t ∧ t.pwr.bankedReached = true ∧ t.mod.state = .banked) ∧
  (∀ (s : State) (c : Fin 4) (x : Nat), wakeAllowed c.val x s = true →
    (s.pwr.bankedReached = true → ∃ t, exec (.bankedWake c x) s = .next t ∧ t.mod.state = .firing ∧ t.pwr.rstKind = 6 ∧
      t.pwr.rstDetail = c.val) ∧
    (s.pwr.bankedReached = false → exec (.bankedWake c x) s =
      .next { s with pwr := { s.pwr with heldWake := s.pwr.heldWake ++ [(c.val, x)] } })) ∧
  (∀ (s : State) (p : Fin 2) (client : BitVec 32), wakeAllowed 1 p.val s = true →
    (par s 0x2700 4).testBit p.val = true → s.lnc.spd[p] ≠ 0 → s.pwr.bankedReached = true →
    ∃ t, exec (.gdpWake ⟨p.val, by omega⟩ client) s = .next t ∧ t.mod.state = .firing ∧ t.pwr.rstKind = 6 ∧
      t.pwr.rstDetail = 1)

/-- Every command, in every state, ends in a next state; it leaves the waiting commands alone, and against the state
it starts from (`s`, or `s` after the time the command brings) only the parts its footprint names differ. The
passing of time itself changes only the parts of `timeParts`. That no command stops the model is the model's reading
of the spec, and the lists of parts are the model's. -/
def Obligations.FrameOfEveryCommand : Prop :=
  (∀ (c : Instr) (s : State), ∃ t, exec c s = .next t ∧ t.pending = s.pending ∧
    SameBut (footprint c s).2 (footprint c s).1 t) ∧
  (∀ (n : Nat) (s : State), SameBut timeParts s (advance n s))

/-- From every state in which the voted memory, the lane memories, the recorder's MRAM and the Xenex buffers are in
canonical form, a step leads to such a state, and a step never takes the recorder's staging FIFO beyond the 64
entries of R415. The canonical form is the model's. -/
def Obligations.InvariantOfEveryStep : Prop :=
  ∀ s t : State, step s = .next t →
    (s.memWf = true → t.memWf = true) ∧ (s.fifoFits = true → t.fifoFits = true)

/-- At reset the module is COLD with no lane in the vote and no command waiting; every core has PC at the start of
lane SRAM, its registers 0, CW_STATUS 1, CW_VBASE 0x01_0000_1000 and every other control word 0, no valid cache
line, no reservation and tag 0; the clock enables are 0, the FRC and the rate are 0 and no step has been made; the
memories are canonical and the recorder's FIFO is within its bound. -/
def Obligations.ResetState : Prop :=
  State.reset.mod.state = .cold ∧ State.reset.vrc.mode = .none ∧ State.reset.pending = [] ∧
  (∀ k : Fin 8,
    (State.reset.cores[k]).pc = 0x0100000000 ∧ (State.reset.cores[k]).icache = [] ∧
    (State.reset.cores[k]).dcache = [] ∧ (State.reset.cores[k]).resv = none ∧ (State.reset.cores[k]).tag = 0 ∧
    (∀ r : Fin 32, (State.reset.cores[k]).getX r = 0 ∧ (State.reset.cores[k]).f[r] = 0) ∧
    (∀ n : Fin 64, (State.reset.cores[k]).word n.val =
      if n.val = 0 then 1 else if n.val = 5 then 0x0100001000 else 0)) ∧
  State.reset.clk.clken0 = 0 ∧ State.reset.clk.clken1 = 0 ∧
  State.reset.tim.frc = 0 ∧ State.reset.tim.rate = 0 ∧ State.reset.tim.stepSum = 0 ∧
  State.reset.tim.timeLocal = true ∧ State.reset.memWf = true ∧ State.reset.fifoFits = true

end
end

