-- ==== Sys2Proof/Laws/Completes.lean ====
section
/-! SUPPORT. Every meaning ends in a next state. -/

set_option linter.all false

namespace Sys2Proof.Machine

open Sys2Proof

theorem next_ite {c : Prop} [Decidable c] {a b : Out} (ha : ∃ t, a = .next t) (hb : ∃ t, b = .next t) :
    ∃ t, (if c then a else b) = .next t := by split <;> assumption
theorem execLaneBeat_total (i0 i1 i2 i3 : LaneInput) (s : State) : ∃ t, execLaneBeat i0 i1 i2 i3 s = .next t := by
  unfold execLaneBeat
  repeat' first | with_reducible exact ⟨_, rfl⟩ | with_reducible refine next_ite ?_ ?_ | split | dsimp only
theorem execLockstepMismatch_total (lane : Fin 4) (cls : BitVec 4) (groups : BitVec 13) (s : State) : ∃ t, execLockstepMismatch lane cls groups s = .next t := by
  unfold execLockstepMismatch
  repeat' first | with_reducible exact ⟨_, rfl⟩ | with_reducible refine next_ite ?_ ?_ | split | dsimp only
theorem execLaneMemUe_total (lane : Fin 4) (addr : BitVec 40) (s : State) : ∃ t, execLaneMemUe lane addr s = .next t := by
  unfold execLaneMemUe
  repeat' first | with_reducible exact ⟨_, rfl⟩ | with_reducible refine next_ite ?_ ?_ | split | dsimp only
theorem execFabricResponse_total (irq : Option (BitVec 9)) (s : State) : ∃ t, execFabricResponse irq s = .next t := by
  unfold execFabricResponse
  repeat' first | with_reducible exact ⟨_, rfl⟩ | with_reducible refine next_ite ?_ ?_ | split | dsimp only
theorem execQuarantineTestsDone_total (lane : Fin 4) (result : LaneTest) (s : State) : ∃ t, execQuarantineTestsDone lane result s = .next t := by
  unfold execQuarantineTestsDone
  repeat' first | with_reducible exact ⟨_, rfl⟩ | with_reducible refine next_ite ?_ ?_ | split | dsimp only
theorem execRotationTimerExpiry_total (dt : Nat) (s : State) : ∃ t, execRotationTimerExpiry dt s = .next t := by
  unfold execRotationTimerExpiry
  repeat' first | with_reducible exact ⟨_, rfl⟩ | with_reducible refine next_ite ?_ ?_ | split | dsimp only
theorem execBisqueOverdue_total (lane : Fin 4) (s : State) : ∃ t, execBisqueOverdue lane s = .next t := by
  unfold execBisqueOverdue
  repeat' first | with_reducible exact ⟨_, rfl⟩ | with_reducible refine next_ite ?_ ?_ | split | dsimp only
theorem execRewedge_total (dt : Nat) (crcOk : Bool) (s : State) : ∃ t, execRewedge dt crcOk s = .next t := by
  unfold execRewedge
  repeat' first | with_reducible exact ⟨_, rfl⟩ | with_reducible refine next_ite ?_ ?_ | split | dsimp only
theorem execBisqueSwap_total (dt : Nat) (s : State) : ∃ t, execBisqueSwap dt s = .next t := by
  unfold execBisqueSwap
  repeat' first | with_reducible exact ⟨_, rfl⟩ | with_reducible refine next_ite ?_ ?_ | split | dsimp only
theorem execSubstituted_total (dt : Nat) (s : State) : ∃ t, execSubstituted dt s = .next t := by
  unfold execSubstituted
  repeat' first | with_reducible exact ⟨_, rfl⟩ | with_reducible refine next_ite ?_ ?_ | split | dsimp only
theorem execBisqueStepComplete_total (dt : Nat) (result : StepEnd) (s : State) : ∃ t, execBisqueStepComplete dt result s = .next t := by
  unfold execBisqueStepComplete
  repeat' first | with_reducible exact ⟨_, rfl⟩ | with_reducible refine next_ite ?_ ?_ | split | dsimp only
theorem execBisqueStepOverrun_total (dt : Nat) (s : State) : ∃ t, execBisqueStepOverrun dt s = .next t := by
  unfold execBisqueStepOverrun
  repeat' first | with_reducible exact ⟨_, rfl⟩ | with_reducible refine next_ite ?_ ?_ | split | dsimp only
theorem execWedgingStart_total (s : State) : ∃ t, execWedgingStart s = .next t := by
  unfold execWedgingStart
  repeat' first | with_reducible exact ⟨_, rfl⟩ | with_reducible refine next_ite ?_ ?_ | split | dsimp only
theorem execZeroFillDone_total (dt : Nat) (s : State) : ∃ t, execZeroFillDone dt s = .next t := by
  unfold execZeroFillDone
  repeat' first | with_reducible exact ⟨_, rfl⟩ | with_reducible refine next_ite ?_ ?_ | split | dsimp only
theorem execCatchUpCopyDone_total (dt : Nat) (vote : PageVote) (s : State) : ∃ t, execCatchUpCopyDone dt vote s = .next t := by
  unfold execCatchUpCopyDone
  repeat' first | with_reducible exact ⟨_, rfl⟩ | with_reducible refine next_ite ?_ ?_ | split | dsimp only
theorem execChecksumRoundDone_total (dt : Nat) (vote : PageVote) (differ : List Nat) (s : State) : ∃ t, execChecksumRoundDone dt vote differ s = .next t := by
  unfold execChecksumRoundDone
  repeat' first | with_reducible exact ⟨_, rfl⟩ | with_reducible refine next_ite ?_ ?_ | split | dsimp only
theorem execMirrorHoldRelease_total (dt : Nat) (s : State) : ∃ t, execMirrorHoldRelease dt s = .next t := by
  unfold execMirrorHoldRelease
  repeat' first | with_reducible exact ⟨_, rfl⟩ | with_reducible refine next_ite ?_ ?_ | split | dsimp only
theorem execBankSyncFrameSend_total (dt : Nat) (extra : Bool) (ahead : BitVec 32) (s : State) : ∃ t, execBankSyncFrameSend dt extra ahead s = .next t := by
  unfold execBankSyncFrameSend
  repeat' first | with_reducible exact ⟨_, rfl⟩ | with_reducible refine next_ite ?_ ?_ | split | dsimp only
theorem execBankSyncPulse_total (dt : Nat) (bank : Fin 3) (rx : PulseRx) (s : State) : ∃ t, execBankSyncPulse dt bank rx s = .next t := by
  unfold execBankSyncPulse
  repeat' first | with_reducible exact ⟨_, rfl⟩ | with_reducible refine next_ite ?_ ?_ | split | dsimp only
theorem execFilteredStateChange_total (dt : Nat) (ch : Fin 48) (value : Bool) (s : State) : ∃ t, execFilteredStateChange dt ch value s = .next t := by
  unfold execFilteredStateChange
  repeat' first | with_reducible exact ⟨_, rfl⟩ | with_reducible refine next_ite ?_ ?_ | split | dsimp only
theorem execDiscrepancyTimeout_total (dt : Nat) (ch : Fin 48) (s : State) : ∃ t, execDiscrepancyTimeout dt ch s = .next t := by
  unfold execDiscrepancyTimeout
  repeat' first | with_reducible exact ⟨_, rfl⟩ | with_reducible refine next_ite ?_ ?_ | split | dsimp only
theorem execComparatorInversion_total (ch : Fin 48) (s : State) : ∃ t, execComparatorInversion ch s = .next t := by
  unfold execComparatorInversion
  repeat' first | with_reducible exact ⟨_, rfl⟩ | with_reducible refine next_ite ?_ ?_ | split | dsimp only
theorem execSwitchSenseFault_total (ch : Fin 48) (gate : Fin 3) (s : State) : ∃ t, execSwitchSenseFault ch gate s = .next t := by
  unfold execSwitchSenseFault
  repeat' first | with_reducible exact ⟨_, rfl⟩ | with_reducible refine next_ite ?_ ?_ | split | dsimp only
theorem execGateSetDisagree_total (ch : Fin 48) (gate : Fin 3) (s : State) : ∃ t, execGateSetDisagree ch gate s = .next t := by
  unfold execGateSetDisagree
  repeat' first | with_reducible exact ⟨_, rfl⟩ | with_reducible refine next_ite ?_ ?_ | split | dsimp only
theorem execReadbackFault_total (ch : Fin 48) (s : State) : ∃ t, execReadbackFault ch s = .next t := by
  unfold execReadbackFault
  repeat' first | with_reducible exact ⟨_, rfl⟩ | with_reducible refine next_ite ?_ ?_ | split | dsimp only
theorem execDarkTestStart_total (dt : Nat) (ch : Fin 48) (s : State) : ∃ t, execDarkTestStart dt ch s = .next t := by
  unfold execDarkTestStart
  repeat' first | with_reducible exact ⟨_, rfl⟩ | with_reducible refine next_ite ?_ ?_ | split | dsimp only
theorem execDarkPulseEnd_total (dt : Nat) (ch : Fin 48) (fail : Option (BitVec 6)) (s : State) : ∃ t, execDarkPulseEnd dt ch fail s = .next t := by
  unfold execDarkPulseEnd
  repeat' first | with_reducible exact ⟨_, rfl⟩ | with_reducible refine next_ite ?_ ?_ | split | dsimp only
theorem execReadbackAgrees_total (ch : Fin 48) (s : State) : ∃ t, execReadbackAgrees ch s = .next t := by
  unfold execReadbackAgrees
  repeat' first | with_reducible exact ⟨_, rfl⟩ | with_reducible refine next_ite ?_ ?_ | split | dsimp only
theorem execOverload_total (ch : Fin 48) (ma : BitVec 32) (s : State) : ∃ t, execOverload ch ma s = .next t := by
  unfold execOverload
  repeat' first | with_reducible exact ⟨_, rfl⟩ | with_reducible refine next_ite ?_ ?_ | split | dsimp only
theorem execBankOverload_total (bank : Fin 3) (ma : BitVec 32) (s : State) : ∃ t, execBankOverload bank ma s = .next t := by
  unfold execBankOverload
  repeat' first | with_reducible exact ⟨_, rfl⟩ | with_reducible refine next_ite ?_ ?_ | split | dsimp only
theorem execBankTimeout_total (dt : Nat) (ch : Fin 48) (s : State) : ∃ t, execBankTimeout dt ch s = .next t := by
  unfold execBankTimeout
  repeat' first | with_reducible exact ⟨_, rfl⟩ | with_reducible refine next_ite ?_ ?_ | split | dsimp only
theorem execSyncLost_total (bank : Fin 3) (s : State) : ∃ t, execSyncLost bank s = .next t := by
  unfold execSyncLost
  repeat' first | with_reducible exact ⟨_, rfl⟩ | with_reducible refine next_ite ?_ ?_ | split | dsimp only
theorem execSupplyState_total (dt : Nat) (bank : Fin 3) (state : Fin 4) (volt : BitVec 16) (s : State) : ∃ t, execSupplyState dt bank state volt s = .next t := by
  unfold execSupplyState
  repeat' first | with_reducible exact ⟨_, rfl⟩ | with_reducible refine next_ite ?_ ?_ | split | dsimp only
theorem execGlazePost_total (ch : Fin 48) (state : Bool) (sec : BitVec 48) (ns : BitVec 32) (s : State) : ∃ t, execGlazePost ch state sec ns s = .next t := by
  unfold execGlazePost
  repeat' first | with_reducible exact ⟨_, rfl⟩ | with_reducible refine next_ite ?_ ?_ | split | dsimp only
theorem execGlazeLaunch_total (dt : Nat) (ch : Fin 48) (s : State) : ∃ t, execGlazeLaunch dt ch s = .next t := by
  unfold execGlazeLaunch
  repeat' first | with_reducible exact ⟨_, rfl⟩ | with_reducible refine next_ite ?_ ?_ | split | dsimp only
theorem execMacrocycleStart_total (dt : Nat) (coll : BitVec 2) (s : State) : ∃ t, execMacrocycleStart dt coll s = .next t := by
  unfold execMacrocycleStart
  repeat' first | with_reducible exact ⟨_, rfl⟩ | with_reducible refine next_ite ?_ ?_ | split | dsimp only
theorem execSlotStart_total (dt slot : Nat) (coll : BitVec 2) (s : State) : ∃ t, execSlotStart dt slot coll s = .next t := by
  unfold execSlotStart
  repeat' first | with_reducible exact ⟨_, rfl⟩ | with_reducible refine next_ite ?_ ?_ | split | dsimp only
theorem execCycleStartReceived_total (dt : Nat) (src : BitVec 6) (frame : CycleStart) (s : State) : ∃ t, execCycleStartReceived dt src frame s = .next t := by
  unfold execCycleStartReceived
  repeat' first | with_reducible exact ⟨_, rfl⟩ | with_reducible refine next_ite ?_ ?_ | split | dsimp only
theorem execXenexSilenceTimeout_total (dt : Nat) (s : State) : ∃ t, execXenexSilenceTimeout dt s = .next t := by
  unfold execXenexSilenceTimeout
  repeat' first | with_reducible exact ⟨_, rfl⟩ | with_reducible refine next_ite ?_ ?_ | split | dsimp only
theorem execContendDelayEnd_total (dt : Nat) (s : State) : ∃ t, execContendDelayEnd dt s = .next t := by
  unfold execContendDelayEnd
  repeat' first | with_reducible exact ⟨_, rfl⟩ | with_reducible refine next_ite ?_ ?_ | split | dsimp only
theorem execColdstartEnd_total (dt : Nat) (s : State) : ∃ t, execColdstartEnd dt s = .next t := by
  unfold execColdstartEnd
  repeat' first | with_reducible exact ⟨_, rfl⟩ | with_reducible refine next_ite ?_ ?_ | split | dsimp only
theorem execXnCollision_total (coll : BitVec 2) (s : State) : ∃ t, execXnCollision coll s = .next t := by
  unfold execXnCollision
  repeat' first | with_reducible exact ⟨_, rfl⟩ | with_reducible refine next_ite ?_ ?_ | split | dsimp only
theorem execCarrierDetected_total (s : State) : ∃ t, execCarrierDetected s = .next t := by
  unfold execCarrierDetected
  repeat' first | with_reducible exact ⟨_, rfl⟩ | with_reducible refine next_ite ?_ ?_ | split | dsimp only
theorem execXnbTakeover_total (s : State) : ∃ t, execXnbTakeover s = .next t := by
  unfold execXnbTakeover
  repeat' first | with_reducible exact ⟨_, rfl⟩ | with_reducible refine next_ite ?_ ?_ | split | dsimp only
theorem execXnbRelease_total (s : State) : ∃ t, execXnbRelease s = .next t := by
  unfold execXnbRelease
  repeat' first | with_reducible exact ⟨_, rfl⟩ | with_reducible refine next_ite ?_ ?_ | split | dsimp only
theorem execClaimReceived_total (src : BitVec 6) (tx rx : BitVec 8) (s : State) : ∃ t, execClaimReceived src tx rx s = .next t := by
  unfold execClaimReceived
  repeat' first | with_reducible exact ⟨_, rfl⟩ | with_reducible refine next_ite ?_ ?_ | split | dsimp only
theorem execOprAlu_total (core : Fin 8) (op : AluOp) (d a b : Fin 32) (s : State) : ∃ t, execOprAlu core op d a b s = .next t := by
  unfold execOprAlu
  repeat' first | with_reducible exact ⟨_, rfl⟩ | with_reducible refine next_ite ?_ ?_ | split | dsimp only
theorem execOprwWordOp_total (core : Fin 8) (op : AluwOp) (d a b : Fin 32) (s : State) : ∃ t, execOprwWordOp core op d a b s = .next t := by
  unfold execOprwWordOp
  repeat' first | with_reducible exact ⟨_, rfl⟩ | with_reducible refine next_ite ?_ ?_ | split | dsimp only
theorem execMultiply_total (core : Fin 8) (op : MulOp) (d a b : Fin 32) (s : State) : ∃ t, execMultiply core op d a b s = .next t := by
  unfold execMultiply
  repeat' first | with_reducible exact ⟨_, rfl⟩ | with_reducible refine next_ite ?_ ?_ | split | dsimp only
theorem execDivide_total (core : Fin 8) (op : DivOp) (d a b : Fin 32) (s : State) : ∃ t, execDivide core op d a b s = .next t := by
  unfold execDivide
  repeat' first | with_reducible exact ⟨_, rfl⟩ | with_reducible refine next_ite ?_ ?_ | split | dsimp only
theorem execBitop_total (core : Fin 8) (op : BitOp) (d a b : Fin 32) (s : State) : ∃ t, execBitop core op d a b s = .next t := by
  unfold execBitop
  repeat' first | with_reducible exact ⟨_, rfl⟩ | with_reducible refine next_ite ?_ ?_ | split | dsimp only
theorem execAluImmediate_total (core : Fin 8) (op : ImmOp) (d a : Fin 32) (imm : BitVec 16) (s : State) : ∃ t, execAluImmediate core op d a imm s = .next t := by
  unfold execAluImmediate
  repeat' first | with_reducible exact ⟨_, rfl⟩ | with_reducible refine next_ite ?_ ?_ | split | dsimp only
theorem execShiftImmediate_total (core : Fin 8) (op : ShiftOp) (word : Bool) (d a : Fin 32) (shamt : BitVec 6) (s : State) : ∃ t, execShiftImmediate core op word d a shamt s = .next t := by
  unfold execShiftImmediate
  repeat' first | with_reducible exact ⟨_, rfl⟩ | with_reducible refine next_ite ?_ ?_ | split | dsimp only
theorem execLui_total (core : Fin 8) (d : Fin 32) (imm : BitVec 16) (s : State) : ∃ t, execLui core d imm s = .next t := by
  unfold execLui
  repeat' first | with_reducible exact ⟨_, rfl⟩ | with_reducible refine next_ite ?_ ?_ | split | dsimp only
theorem execInsh_total (core : Fin 8) (d : Fin 32) (k : Fin 4) (imm : BitVec 16) (s : State) : ∃ t, execInsh core d k imm s = .next t := by
  unfold execInsh
  repeat' first | with_reducible exact ⟨_, rfl⟩ | with_reducible refine next_ite ?_ ?_ | split | dsimp only
theorem execLapc_total (core : Fin 8) (d : Fin 32) (imm : BitVec 16) (s : State) : ∃ t, execLapc core d imm s = .next t := by
  unfold execLapc
  repeat' first | with_reducible exact ⟨_, rfl⟩ | with_reducible refine next_ite ?_ ?_ | split | dsimp only
theorem execLoad_total (core : Fin 8) (op : LoadOp) (d a : Fin 32) (disp : BitVec 16) (s : State) : ∃ t, execLoad core op d a disp s = .next t := by
  unfold execLoad
  repeat' first | with_reducible exact ⟨_, rfl⟩ | with_reducible refine next_ite ?_ ?_ | split | dsimp only
theorem execStore_total (core : Fin 8) (op : StoreOp) (d a : Fin 32) (disp : BitVec 16) (s : State) : ∃ t, execStore core op d a disp s = .next t := by
  unfold execStore
  repeat' first | with_reducible exact ⟨_, rfl⟩ | with_reducible refine next_ite ?_ ?_ | split | dsimp only
theorem execLdx_total (core : Fin 8) (dbl : Bool) (d a : Fin 32) (s : State) : ∃ t, execLdx core dbl d a s = .next t := by
  unfold execLdx
  repeat' first | with_reducible exact ⟨_, rfl⟩ | with_reducible refine next_ite ?_ ?_ | split | dsimp only
theorem execStx_total (core : Fin 8) (dbl : Bool) (d a b : Fin 32) (s : State) : ∃ t, execStx core dbl d a b s = .next t := by
  unfold execStx
  repeat' first | with_reducible exact ⟨_, rfl⟩ | with_reducible refine next_ite ?_ ?_ | split | dsimp only
theorem execFpOperation_total (core : Fin 8) (op : FpOp) (dbl : Bool) (d a b : Fin 32) (s : State) : ∃ t, execFpOperation core op dbl d a b s = .next t := by
  unfold execFpOperation
  repeat' first | with_reducible exact ⟨_, rfl⟩ | with_reducible refine next_ite ?_ ?_ | split | dsimp only
theorem execFma_total (core : Fin 8) (op : FmaOp) (dbl : Bool) (d a b c : Fin 32) (s : State) : ∃ t, execFma core op dbl d a b c s = .next t := by
  unfold execFma
  repeat' first | with_reducible exact ⟨_, rfl⟩ | with_reducible refine next_ite ?_ ?_ | split | dsimp only
theorem execBranch_total (core : Fin 8) (cond : Cond) (d a : Fin 32) (off : BitVec 16) (s : State) : ∃ t, execBranch core cond d a off s = .next t := by
  unfold execBranch
  repeat' first | with_reducible exact ⟨_, rfl⟩ | with_reducible refine next_ite ?_ ?_ | split | dsimp only
theorem execJJl_total (core : Fin 8) (link : Bool) (off : BitVec 26) (s : State) : ∃ t, execJJl core link off s = .next t := by
  unfold execJJl
  repeat' first | with_reducible exact ⟨_, rfl⟩ | with_reducible refine next_ite ?_ ?_ | split | dsimp only
theorem execJlr_total (core : Fin 8) (d a : Fin 32) (imm : BitVec 16) (s : State) : ∃ t, execJlr core d a imm s = .next t := by
  unfold execJlr
  repeat' first | with_reducible exact ⟨_, rfl⟩ | with_reducible refine next_ite ?_ ?_ | split | dsimp only
theorem execCwr_total (core : Fin 8) (d : Fin 32) (n : BitVec 16) (s : State) : ∃ t, execCwr core d n s = .next t := by
  unfold execCwr
  repeat' first | with_reducible exact ⟨_, rfl⟩ | with_reducible refine next_ite ?_ ?_ | split | dsimp only
theorem execCww_total (core : Fin 8) (a : Fin 32) (n : BitVec 16) (s : State) : ∃ t, execCww core a n s = .next t := by
  unfold execCww
  repeat' first | with_reducible exact ⟨_, rfl⟩ | with_reducible refine next_ite ?_ ?_ | split | dsimp only
theorem execCws_total (core : Fin 8) (d a : Fin 32) (n : BitVec 16) (s : State) : ∃ t, execCws core d a n s = .next t := by
  unfold execCws
  repeat' first | with_reducible exact ⟨_, rfl⟩ | with_reducible refine next_ite ?_ ?_ | split | dsimp only
theorem execCwc_total (core : Fin 8) (d a : Fin 32) (n : BitVec 16) (s : State) : ∃ t, execCwc core d a n s = .next t := by
  unfold execCwc
  repeat' first | with_reducible exact ⟨_, rfl⟩ | with_reducible refine next_ite ?_ ?_ | split | dsimp only
theorem execFence_total (core : Fin 8) (s : State) : ∃ t, execFence core s = .next t := by
  unfold execFence
  repeat' first | with_reducible exact ⟨_, rfl⟩ | with_reducible refine next_ite ?_ ?_ | split | dsimp only
theorem execFenceI_total (core : Fin 8) (s : State) : ∃ t, execFenceI core s = .next t := by
  unfold execFenceI
  repeat' first | with_reducible exact ⟨_, rfl⟩ | with_reducible refine next_ite ?_ ?_ | split | dsimp only
theorem execEret_total (core : Fin 8) (s : State) : ∃ t, execEret core s = .next t := by
  unfold execEret
  repeat' first | with_reducible exact ⟨_, rfl⟩ | with_reducible refine next_ite ?_ ?_ | split | dsimp only
theorem execWfi_total (core : Fin 8) (s : State) : ∃ t, execWfi core s = .next t := by
  unfold execWfi
  repeat' first | with_reducible exact ⟨_, rfl⟩ | with_reducible refine next_ite ?_ ?_ | split | dsimp only
theorem execBreakInstr_total (core : Fin 8) (s : State) : ∃ t, execBreakInstr core s = .next t := by
  unfold execBreakInstr
  repeat' first | with_reducible exact ⟨_, rfl⟩ | with_reducible refine next_ite ?_ ?_ | split | dsimp only
theorem execCacheInvalidate_total (core : Fin 8) (op : CacheOp) (a : Fin 32) (s : State) : ∃ t, execCacheInvalidate core op a s = .next t := by
  unfold execCacheInvalidate
  repeat' first | with_reducible exact ⟨_, rfl⟩ | with_reducible refine next_ite ?_ ?_ | split | dsimp only
theorem execSyscall_total (core : Fin 8) (imm : BitVec 16) (s : State) : ∃ t, execSyscall core imm s = .next t := by
  unfold execSyscall
  repeat' first | with_reducible exact ⟨_, rfl⟩ | with_reducible refine next_ite ?_ ?_ | split | dsimp only
theorem execIllegalInstruction_total (core : Fin 8) (word : BitVec 32) (s : State) : ∃ t, execIllegalInstruction core word s = .next t := by
  unfold execIllegalInstruction
  repeat' first | with_reducible exact ⟨_, rfl⟩ | with_reducible refine next_ite ?_ ?_ | split | dsimp only
theorem execFetchFault_total (core : Fin 8) (s : State) : ∃ t, execFetchFault core s = .next t := by
  unfold execFetchFault
  repeat' first | with_reducible exact ⟨_, rfl⟩ | with_reducible refine next_ite ?_ ?_ | split | dsimp only
theorem execImpreciseBuserr_total (core : Fin 8) (addr : BitVec 40) (s : State) : ∃ t, execImpreciseBuserr core addr s = .next t := by
  unfold execImpreciseBuserr
  repeat' first | with_reducible exact ⟨_, rfl⟩ | with_reducible refine next_ite ?_ ?_ | split | dsimp only
theorem execCombiningBufferTimeout_total (core : Fin 8) (s : State) : ∃ t, execCombiningBufferTimeout core s = .next t := by
  unfold execCombiningBufferTimeout
  repeat' first | with_reducible exact ⟨_, rfl⟩ | with_reducible refine next_ite ?_ ?_ | split | dsimp only
theorem execInterruptSourceAssert_total (core : Fin 8) (src : Fin 384) (s : State) : ∃ t, execInterruptSourceAssert core src s = .next t := by
  unfold execInterruptSourceAssert
  repeat' first | with_reducible exact ⟨_, rfl⟩ | with_reducible refine next_ite ?_ ?_ | split | dsimp only
theorem execInterruptEntry_total (core : Fin 8) (s : State) : ∃ t, execInterruptEntry core s = .next t := by
  unfold execInterruptEntry
  repeat' first | with_reducible exact ⟨_, rfl⟩ | with_reducible refine next_ite ?_ ?_ | split | dsimp only
theorem execLicEoiWrite_total (core : Fin 8) (value : BitVec 32) (s : State) : ∃ t, execLicEoiWrite core value s = .next t := by
  unfold execLicEoiWrite
  repeat' first | with_reducible exact ⟨_, rfl⟩ | with_reducible refine next_ite ?_ ?_ | split | dsimp only
theorem execLicSwsetWrite_total (core : Fin 8) (value : BitVec 32) (s : State) : ∃ t, execLicSwsetWrite core value s = .next t := by
  unfold execLicSwsetWrite
  repeat' first | with_reducible exact ⟨_, rfl⟩ | with_reducible refine next_ite ?_ ?_ | split | dsimp only
theorem execRegisterWrite_total (core : Fin 8) (addr : BitVec 40) (value : BitVec 32) (s : State) : ∃ t, execRegisterWrite core addr value s = .next t := by
  unfold execRegisterWrite
  repeat' first | with_reducible exact ⟨_, rfl⟩ | with_reducible refine next_ite ?_ ?_ | split | dsimp only
theorem execMirrorEntry_total (s : State) : ∃ t, execMirrorEntry s = .next t := by
  unfold execMirrorEntry
  repeat' first | with_reducible exact ⟨_, rfl⟩ | with_reducible refine next_ite ?_ ?_ | split | dsimp only
theorem execLtmTimerStart_total (core : Fin 8) (timer : Fin 16) (ctl : BitVec 32) (s : State) : ∃ t, execLtmTimerStart core timer ctl s = .next t := by
  unfold execLtmTimerStart
  repeat' first | with_reducible exact ⟨_, rfl⟩ | with_reducible refine next_ite ?_ ?_ | split | dsimp only
theorem execLtmTimerExpiry_total (dt : Nat) (core : Fin 8) (timer : Fin 16) (s : State) : ∃ t, execLtmTimerExpiry dt core timer s = .next t := by
  unfold execLtmTimerExpiry
  repeat' first | with_reducible exact ⟨_, rfl⟩ | with_reducible refine next_ite ?_ ?_ | split | dsimp only
theorem execLtmElaplRead_total (core : Fin 8) (d : Fin 32) (s : State) : ∃ t, execLtmElaplRead core d s = .next t := by
  unfold execLtmElaplRead
  repeat' first | with_reducible exact ⟨_, rfl⟩ | with_reducible refine next_ite ?_ ?_ | split | dsimp only
theorem execLpcCntnlRead_total (core : Fin 8) (counter : Fin 16) (d : Fin 32) (s : State) : ∃ t, execLpcCntnlRead core counter d s = .next t := by
  unfold execLpcCntnlRead
  repeat' first | with_reducible exact ⟨_, rfl⟩ | with_reducible refine next_ite ?_ ?_ | split | dsimp only
theorem execLpcCntnlWrite_total (core : Fin 8) (counter : Fin 16) (value : BitVec 32) (s : State) : ∃ t, execLpcCntnlWrite core counter value s = .next t := by
  unfold execLpcCntnlWrite
  repeat' first | with_reducible exact ⟨_, rfl⟩ | with_reducible refine next_ite ?_ ?_ | split | dsimp only
theorem execCounterOverflow_total (core : Fin 8) (counter : Fin 16) (events : BitVec 48) (s : State) : ∃ t, execCounterOverflow core counter events s = .next t := by
  unfold execCounterOverflow
  repeat' first | with_reducible exact ⟨_, rfl⟩ | with_reducible refine next_ite ?_ ?_ | split | dsimp only
theorem execCtuTimensRead_total (core : Fin 8) (d : Fin 32) (s : State) : ∃ t, execCtuTimensRead core d s = .next t := by
  unfold execCtuTimensRead
  repeat' first | with_reducible exact ⟨_, rfl⟩ | with_reducible refine next_ite ?_ ?_ | split | dsimp only
theorem execCtuFrclRead_total (core : Fin 8) (d : Fin 32) (s : State) : ∃ t, execCtuFrclRead core d s = .next t := by
  unfold execCtuFrclRead
  repeat' first | with_reducible exact ⟨_, rfl⟩ | with_reducible refine next_ite ?_ ?_ | split | dsimp only
theorem execCtuBerrlRead_total (core : Fin 8) (d : Fin 32) (s : State) : ∃ t, execCtuBerrlRead core d s = .next t := by
  unfold execCtuBerrlRead
  repeat' first | with_reducible exact ⟨_, rfl⟩ | with_reducible refine next_ite ?_ ?_ | split | dsimp only
theorem execCysTicklRead_total (core : Fin 8) (d : Fin 32) (s : State) : ∃ t, execCysTicklRead core d s = .next t := by
  unfold execCysTicklRead
  repeat' first | with_reducible exact ⟨_, rfl⟩ | with_reducible refine next_ite ?_ ?_ | split | dsimp only
theorem execFbxOutWrite_total (core : Fin 8) (bank : Fin 3) (value : BitVec 32) (s : State) : ∃ t, execFbxOutWrite core bank value s = .next t := by
  unfold execFbxOutWrite
  repeat' first | with_reducible exact ⟨_, rfl⟩ | with_reducible refine next_ite ?_ ?_ | split | dsimp only
theorem execFbxFltclrWrite_total (core : Fin 8) (bank : Fin 3) (value : BitVec 32) (s : State) : ∃ t, execFbxFltclrWrite core bank value s = .next t := by
  unfold execFbxFltclrWrite
  repeat' first | with_reducible exact ⟨_, rfl⟩ | with_reducible refine next_ite ?_ ?_ | split | dsimp only
theorem execFbxEvt0Read_total (core : Fin 8) (bank : Fin 3) (d : Fin 32) (s : State) : ∃ t, execFbxEvt0Read core bank d s = .next t := by
  unfold execFbxEvt0Read
  repeat' first | with_reducible exact ⟨_, rfl⟩ | with_reducible refine next_ite ?_ ?_ | split | dsimp only
theorem execBrgErr0Read_total (core : Fin 8) (d : Fin 32) (s : State) : ∃ t, execBrgErr0Read core d s = .next t := by
  unfold execBrgErr0Read
  repeat' first | with_reducible exact ⟨_, rfl⟩ | with_reducible refine next_ite ?_ ?_ | split | dsimp only
theorem execBrgSyncRead_total (core : Fin 8) (d : Fin 32) (s : State) : ∃ t, execBrgSyncRead core d s = .next t := by
  unfold execBrgSyncRead
  repeat' first | with_reducible exact ⟨_, rfl⟩ | with_reducible refine next_ite ?_ ?_ | split | dsimp only
theorem execBrgRegionWrite_total (core : Fin 8) (region : Fin 16) (word : RegionWord) (value : BitVec 32) (s : State) : ∃ t, execBrgRegionWrite core region word value s = .next t := by
  unfold execBrgRegionWrite
  repeat' first | with_reducible exact ⟨_, rfl⟩ | with_reducible refine next_ite ?_ ?_ | split | dsimp only
theorem execBrgIntstatClear_total (core : Fin 8) (value : BitVec 32) (s : State) : ∃ t, execBrgIntstatClear core value s = .next t := by
  unfold execBrgIntstatClear
  repeat' first | with_reducible exact ⟨_, rfl⟩ | with_reducible refine next_ite ?_ ?_ | split | dsimp only
theorem execLncTxSeqWrite_total (core : Fin 8) (slot : Fin 8) (value : BitVec 32) (s : State) : ∃ t, execLncTxSeqWrite core slot value s = .next t := by
  unfold execLncTxSeqWrite
  repeat' first | with_reducible exact ⟨_, rfl⟩ | with_reducible refine next_ite ?_ ?_ | split | dsimp only
theorem execPostedWriteComplete_total (dt : Nat) (s : State) : ∃ t, execPostedWriteComplete dt s = .next t := by
  unfold execPostedWriteComplete
  repeat' first | with_reducible exact ⟨_, rfl⟩ | with_reducible refine next_ite ?_ ?_ | split | dsimp only
theorem execBrgPwerr_total (dt : Nat) (status : FarStatus) (s : State) : ∃ t, execBrgPwerr dt status s = .next t := by
  unfold execBrgPwerr
  repeat' first | with_reducible exact ⟨_, rfl⟩ | with_reducible refine next_ite ?_ ?_ | split | dsimp only
theorem execFarSideReadResponse_total (dt : Nat) (failed : Bool) (s : State) : ∃ t, execFarSideReadResponse dt failed s = .next t := by
  unfold execFarSideReadResponse
  repeat' first | with_reducible exact ⟨_, rfl⟩ | with_reducible refine next_ite ?_ ?_ | split | dsimp only
theorem execFarSideReadTimeout_total (dt : Nat) (s : State) : ∃ t, execFarSideReadTimeout dt s = .next t := by
  unfold execFarSideReadTimeout
  repeat' first | with_reducible exact ⟨_, rfl⟩ | with_reducible refine next_ite ?_ ?_ | split | dsimp only
theorem execBrgTagFree_total (dt : Nat) (s : State) : ∃ t, execBrgTagFree dt s = .next t := by
  unfold execBrgTagFree
  repeat' first | with_reducible exact ⟨_, rfl⟩ | with_reducible refine next_ite ?_ ?_ | split | dsimp only
theorem execBrgSemExpired_total (dt : Nat) (region : Fin 16) (s : State) : ∃ t, execBrgSemExpired dt region s = .next t := by
  unfold execBrgSemExpired
  repeat' first | with_reducible exact ⟨_, rfl⟩ | with_reducible refine next_ite ?_ ?_ | split | dsimp only
theorem execPrefetchExpiry_total (dt : Nat) (s : State) : ∃ t, execPrefetchExpiry dt s = .next t := by
  unfold execPrefetchExpiry
  repeat' first | with_reducible exact ⟨_, rfl⟩ | with_reducible refine next_ite ?_ ?_ | split | dsimp only
theorem execForwardedInterruptEdge_total (block : FarBlock) (s : State) : ∃ t, execForwardedInterruptEdge block s = .next t := by
  unfold execForwardedInterruptEdge
  repeat' first | with_reducible exact ⟨_, rfl⟩ | with_reducible refine next_ite ?_ ?_ | split | dsimp only
theorem execRecEv3Write_total (value : BitVec 32) (s : State) : ∃ t, execRecEv3Write value s = .next t := by
  unfold execRecEv3Write
  repeat' first | with_reducible exact ⟨_, rfl⟩ | with_reducible refine next_ite ?_ ?_ | split | dsimp only
theorem execKlmVerdict7Write_total (value : BitVec 32) (s : State) : ∃ t, execKlmVerdict7Write value s = .next t := by
  unfold execKlmVerdict7Write
  repeat' first | with_reducible exact ⟨_, rfl⟩ | with_reducible refine next_ite ?_ ?_ | split | dsimp only
theorem execCfdTpdotrigWrite_total (value : BitVec 32) (s : State) : ∃ t, execCfdTpdotrigWrite value s = .next t := by
  unfold execCfdTpdotrigWrite
  repeat' first | with_reducible exact ⟨_, rfl⟩ | with_reducible refine next_ite ?_ ?_ | split | dsimp only
theorem execTick_total (dt : Nat) (s : State) : ∃ t, execTick dt s = .next t := by
  unfold execTick
  repeat' first | with_reducible exact ⟨_, rfl⟩ | with_reducible refine next_ite ?_ ?_ | split | dsimp only
theorem execLatchEnd_total (dt : Nat) (s : State) : ∃ t, execLatchEnd dt s = .next t := by
  unfold execLatchEnd
  repeat' first | with_reducible exact ⟨_, rfl⟩ | with_reducible refine next_ite ?_ ?_ | split | dsimp only
theorem execGapWarn_total (dt : Nat) (s : State) : ∃ t, execGapWarn dt s = .next t := by
  unfold execGapWarn
  repeat' first | with_reducible exact ⟨_, rfl⟩ | with_reducible refine next_ite ?_ ?_ | split | dsimp only
theorem execGapStart_total (dt : Nat) (s : State) : ∃ t, execGapStart dt s = .next t := by
  unfold execGapStart
  repeat' first | with_reducible exact ⟨_, rfl⟩ | with_reducible refine next_ite ?_ ?_ | split | dsimp only
theorem execCysQuietWrite_total (core : Fin 8) (value : BitVec 32) (s : State) : ∃ t, execCysQuietWrite core value s = .next t := by
  unfold execCysQuietWrite
  repeat' first | with_reducible exact ⟨_, rfl⟩ | with_reducible refine next_ite ?_ ?_ | split | dsimp only
theorem execCysDoneWrite_total (core : Fin 8) (value : BitVec 32) (s : State) : ∃ t, execCysDoneWrite core value s = .next t := by
  unfold execCysDoneWrite
  repeat' first | with_reducible exact ⟨_, rfl⟩ | with_reducible refine next_ite ?_ ?_ | split | dsimp only
theorem execCommitEnd_total (dt : Nat) (s : State) : ∃ t, execCommitEnd dt s = .next t := by
  unfold execCommitEnd
  repeat' first | with_reducible exact ⟨_, rfl⟩ | with_reducible refine next_ite ?_ ?_ | split | dsimp only
theorem execPostingEnd_total (dt : Nat) (s : State) : ∃ t, execPostingEnd dt s = .next t := by
  unfold execPostingEnd
  repeat' first | with_reducible exact ⟨_, rfl⟩ | with_reducible refine next_ite ?_ ?_ | split | dsimp only
theorem execConeOverrun_total (dt : Nat) (task : Fin 8) (s : State) : ∃ t, execConeOverrun dt task s = .next t := by
  unfold execConeOverrun
  repeat' first | with_reducible exact ⟨_, rfl⟩ | with_reducible refine next_ite ?_ ?_ | split | dsimp only
theorem execConeStall_total (dt : Nat) (task : Fin 8) (s : State) : ∃ t, execConeStall dt task s = .next t := by
  unfold execConeStall
  repeat' first | with_reducible exact ⟨_, rfl⟩ | with_reducible refine next_ite ?_ ?_ | split | dsimp only
theorem execTaskReturn_total (s : State) : ∃ t, execTaskReturn s = .next t := by
  unfold execTaskReturn
  repeat' first | with_reducible exact ⟨_, rfl⟩ | with_reducible refine next_ite ?_ ?_ | split | dsimp only
theorem execSyscallEvent_total (s : State) : ∃ t, execSyscallEvent s = .next t := by
  unfold execSyscallEvent
  repeat' first | with_reducible exact ⟨_, rfl⟩ | with_reducible refine next_ite ?_ ?_ | split | dsimp only
theorem execSyscallNettime_total (s : State) : ∃ t, execSyscallNettime s = .next t := by
  unfold execSyscallNettime
  repeat' first | with_reducible exact ⟨_, rfl⟩ | with_reducible refine next_ite ?_ ?_ | split | dsimp only
theorem execSyscallNocommit_total (s : State) : ∃ t, execSyscallNocommit s = .next t := by
  unfold execSyscallNocommit
  repeat' first | with_reducible exact ⟨_, rfl⟩ | with_reducible refine next_ite ?_ ?_ | split | dsimp only
theorem execSyscallFaultclr_total (s : State) : ∃ t, execSyscallFaultclr s = .next t := by
  unfold execSyscallFaultclr
  repeat' first | with_reducible exact ⟨_, rfl⟩ | with_reducible refine next_ite ?_ ?_ | split | dsimp only
theorem execOlcSwitch_total (dt : Nat) (s : State) : ∃ t, execOlcSwitch dt s = .next t := by
  unfold execOlcSwitch
  repeat' first | with_reducible exact ⟨_, rfl⟩ | with_reducible refine next_ite ?_ ?_ | split | dsimp only
theorem execOlcTimeout_total (dt : Nat) (s : State) : ∃ t, execOlcTimeout dt s = .next t := by
  unfold execOlcTimeout
  repeat' first | with_reducible exact ⟨_, rfl⟩ | with_reducible refine next_ite ?_ ?_ | split | dsimp only
theorem execStartWindowEnd_total (dt : Nat) (tcxo : Bool) (edges ember : BitVec 32) (s : State) : ∃ t, execStartWindowEnd dt tcxo edges ember s = .next t := by
  unfold execStartWindowEnd
  repeat' first | with_reducible exact ⟨_, rfl⟩ | with_reducible refine next_ite ?_ ?_ | split | dsimp only
theorem execRefLost_total (dt : Nat) (cause : Fin 4) (s : State) : ∃ t, execRefLost dt cause s = .next t := by
  unfold execRefLost
  repeat' first | with_reducible exact ⟨_, rfl⟩ | with_reducible refine next_ite ?_ ?_ | split | dsimp only
theorem execSourceValid_total (dt : Nat) (src : Fin 3) (s : State) : ∃ t, execSourceValid dt src s = .next t := by
  unfold execSourceValid
  repeat' first | with_reducible exact ⟨_, rfl⟩ | with_reducible refine next_ite ?_ ?_ | split | dsimp only
theorem execSourceInvalid_total (dt : Nat) (src : Fin 3) (s : State) : ∃ t, execSourceInvalid dt src s = .next t := by
  unfold execSourceInvalid
  repeat' first | with_reducible exact ⟨_, rfl⟩ | with_reducible refine next_ite ?_ ?_ | split | dsimp only
theorem execRampStep_total (dt : Nat) (s : State) : ∃ t, execRampStep dt s = .next t := by
  unfold execRampStep
  repeat' first | with_reducible exact ⟨_, rfl⟩ | with_reducible refine next_ite ?_ ?_ | split | dsimp only
theorem execMonTrip_total (dt : Nat) (item : Fin 3) (value : BitVec 32) (s : State) : ∃ t, execMonTrip dt item value s = .next t := by
  unfold execMonTrip
  repeat' first | with_reducible exact ⟨_, rfl⟩ | with_reducible refine next_ite ?_ ?_ | split | dsimp only
theorem execEmberfailClear_total (dt : Nat) (s : State) : ∃ t, execEmberfailClear dt s = .next t := by
  unfold execEmberfailClear
  repeat' first | with_reducible exact ⟨_, rfl⟩ | with_reducible refine next_ite ?_ ?_ | split | dsimp only
theorem execClockEnableApply_total (dt : Nat) (block : Fin 11) (on : Bool) (s : State) : ∃ t, execClockEnableApply dt block on s = .next t := by
  unfold execClockEnableApply
  repeat' first | with_reducible exact ⟨_, rfl⟩ | with_reducible refine next_ite ?_ ?_ | split | dsimp only
theorem execFmStart_total (ref meas : BitVec 4) (gate : BitVec 24) (s : State) : ∃ t, execFmStart ref meas gate s = .next t := by
  unfold execFmStart
  repeat' first | with_reducible exact ⟨_, rfl⟩ | with_reducible refine next_ite ?_ ?_ | split | dsimp only
theorem execFmDone_total (dt : Nat) (count : BitVec 32) (s : State) : ∃ t, execFmDone dt count s = .next t := by
  unfold execFmDone
  repeat' first | with_reducible exact ⟨_, rfl⟩ | with_reducible refine next_ite ?_ ?_ | split | dsimp only
theorem execCtuAdjStep_total (ns : BitVec 32) (sec : BitVec 48) (s : State) : ∃ t, execCtuAdjStep ns sec s = .next t := by
  unfold execCtuAdjStep
  repeat' first | with_reducible exact ⟨_, rfl⟩ | with_reducible refine next_ite ?_ ?_ | split | dsimp only
theorem execCtuAdjSlew_total (ns : BitVec 32) (sec : BitVec 48) (s : State) : ∃ t, execCtuAdjSlew ns sec s = .next t := by
  unfold execCtuAdjSlew
  repeat' first | with_reducible exact ⟨_, rfl⟩ | with_reducible refine next_ite ?_ ?_ | split | dsimp only
theorem execSlewDone_total (dt : Nat) (s : State) : ∃ t, execSlewDone dt s = .next t := by
  unfold execSlewDone
  repeat' first | with_reducible exact ⟨_, rfl⟩ | with_reducible refine next_ite ?_ ?_ | split | dsimp only
theorem execCtuRateWrite_total (rate : BitVec 32) (s : State) : ∃ t, execCtuRateWrite rate s = .next t := by
  unfold execCtuRateWrite
  repeat' first | with_reducible exact ⟨_, rfl⟩ | with_reducible refine next_ite ?_ ?_ | split | dsimp only
theorem execEbThresholdCrossed_total (dt : Nat) (s : State) : ∃ t, execEbThresholdCrossed dt s = .next t := by
  unfold execEbThresholdCrossed
  repeat' first | with_reducible exact ⟨_, rfl⟩ | with_reducible refine next_ite ?_ ?_ | split | dsimp only
theorem execAnnounceReceived_total (dt : Nat) (port : Fin 2) (ann : PtpAnnounce) (s : State) : ∃ t, execAnnounceReceived dt port ann s = .next t := by
  unfold execAnnounceReceived
  repeat' first | with_reducible exact ⟨_, rfl⟩ | with_reducible refine next_ite ?_ ?_ | split | dsimp only
theorem execAnnounceReceiptTimeout_total (dt : Nat) (s : State) : ∃ t, execAnnounceReceiptTimeout dt s = .next t := by
  unfold execAnnounceReceiptTimeout
  repeat' first | with_reducible exact ⟨_, rfl⟩ | with_reducible refine next_ite ?_ ?_ | split | dsimp only
theorem execSyncReceived_total (dt : Nat) (port : Fin 2) (src : BitVec 64) (domain : BitVec 8) (seq : BitVec 16) (corr : BitVec 64) (log : BitVec 8) (s : State) : ∃ t, execSyncReceived dt port src domain seq corr log s = .next t := by
  unfold execSyncReceived
  repeat' first | with_reducible exact ⟨_, rfl⟩ | with_reducible refine next_ite ?_ ?_ | split | dsimp only
theorem execFollowUpReceived_total (dt : Nat) (src : BitVec 64) (seq : BitVec 16) (sec : BitVec 48) (ns : BitVec 32) (corr : BitVec 64) (s : State) : ∃ t, execFollowUpReceived dt src seq sec ns corr s = .next t := by
  unfold execFollowUpReceived
  repeat' first | with_reducible exact ⟨_, rfl⟩ | with_reducible refine next_ite ?_ ?_ | split | dsimp only
theorem execSyncTimeout_total (dt : Nat) (s : State) : ∃ t, execSyncTimeout dt s = .next t := by
  unfold execSyncTimeout
  repeat' first | with_reducible exact ⟨_, rfl⟩ | with_reducible refine next_ite ?_ ?_ | split | dsimp only
theorem execSyncIntervalExpiry_total (dt : Nat) (s : State) : ∃ t, execSyncIntervalExpiry dt s = .next t := by
  unfold execSyncIntervalExpiry
  repeat' first | with_reducible exact ⟨_, rfl⟩ | with_reducible refine next_ite ?_ ?_ | split | dsimp only
theorem execPdelayReqInterval_total (dt : Nat) (port : Fin 2) (s : State) : ∃ t, execPdelayReqInterval dt port s = .next t := by
  unfold execPdelayReqInterval
  repeat' first | with_reducible exact ⟨_, rfl⟩ | with_reducible refine next_ite ?_ ?_ | split | dsimp only
theorem execPdelayReqReceived_total (dt : Nat) (port : Fin 2) (s : State) : ∃ t, execPdelayReqReceived dt port s = .next t := by
  unfold execPdelayReqReceived
  repeat' first | with_reducible exact ⟨_, rfl⟩ | with_reducible refine next_ite ?_ ?_ | split | dsimp only
theorem execPdelayRespReceived_total (dt : Nat) (port : Fin 2) (delay ratio : BitVec 32) (s : State) : ∃ t, execPdelayRespReceived dt port delay ratio s = .next t := by
  unfold execPdelayRespReceived
  repeat' first | with_reducible exact ⟨_, rfl⟩ | with_reducible refine next_ite ?_ ?_ | split | dsimp only
theorem execTcForward_total (dt : Nat) (port : Fin 2) (kind : PtpKind) (tags : Fin 4) (seq : BitVec 16) (corr : BitVec 64) (counts : BitVec 32) (s : State) : ∃ t, execTcForward dt port kind tags seq corr counts s = .next t := by
  unfold execTcForward
  repeat' first | with_reducible exact ⟨_, rfl⟩ | with_reducible refine next_ite ?_ ?_ | split | dsimp only
theorem execHeartbeatStrobe_total (dt : Nat) (s : State) : ∃ t, execHeartbeatStrobe dt s = .next t := by
  unfold execHeartbeatStrobe
  repeat' first | with_reducible exact ⟨_, rfl⟩ | with_reducible refine next_ite ?_ ?_ | split | dsimp only
theorem execHeartbeatReceived_total (dt : Nat) (rx : BeatRx) (s : State) : ∃ t, execHeartbeatReceived dt rx s = .next t := by
  unfold execHeartbeatReceived
  repeat' first | with_reducible exact ⟨_, rfl⟩ | with_reducible refine next_ite ?_ ?_ | split | dsimp only
theorem execHeartbeatMiss_total (dt : Nat) (way : TwinWay) (s : State) : ∃ t, execHeartbeatMiss dt way s = .next t := by
  unfold execHeartbeatMiss
  repeat' first | with_reducible exact ⟨_, rfl⟩ | with_reducible refine next_ite ?_ ?_ | split | dsimp only
theorem execTwinFaultReceived_total (dt : Nat) (rx : FaultRx) (s : State) : ∃ t, execTwinFaultReceived dt rx s = .next t := by
  unfold execTwinFaultReceived
  repeat' first | with_reducible exact ⟨_, rfl⟩ | with_reducible refine next_ite ?_ ?_ | split | dsimp only
theorem execTakeoverGateRelease_total (dt : Nat) (s : State) : ∃ t, execTakeoverGateRelease dt s = .next t := by
  unfold execTakeoverGateRelease
  repeat' first | with_reducible exact ⟨_, rfl⟩ | with_reducible refine next_ite ?_ ?_ | split | dsimp only
theorem execTwinRequestedReset_total (dt : Nat) (s : State) : ∃ t, execTwinRequestedReset dt s = .next t := by
  unfold execTwinRequestedReset
  repeat' first | with_reducible exact ⟨_, rfl⟩ | with_reducible refine next_ite ?_ ?_ | split | dsimp only
theorem execTwinInputFrame_total (head : TwinHead) (task : Fin 8) (cycle : BitVec 64) (offset : BitVec 32) (octets : List (BitVec 8)) (s : State) : ∃ t, execTwinInputFrame head task cycle offset octets s = .next t := by
  unfold execTwinInputFrame
  repeat' first | with_reducible exact ⟨_, rfl⟩ | with_reducible refine next_ite ?_ ?_ | split | dsimp only
theorem execTwinRxframe_total (head : TwinHead) (port : Fin 2) (sec : BitVec 48) (ns : BitVec 32) (frame : EthFrame) (s : State) : ∃ t, execTwinRxframe head port sec ns frame s = .next t := by
  unfold execTwinRxframe
  repeat' first | with_reducible exact ⟨_, rfl⟩ | with_reducible refine next_ite ?_ ?_ | split | dsimp only
theorem execTwinTimeFrame_total (dt : Nat) (head : TwinHead) (frame : TimeFrame) (s : State) : ∃ t, execTwinTimeFrame dt head frame s = .next t := by
  unfold execTwinTimeFrame
  repeat' first | with_reducible exact ⟨_, rfl⟩ | with_reducible refine next_ite ?_ ?_ | split | dsimp only
theorem execTwinCheckFrame_total (head : TwinHead) (task : Fin 8) (committed : Bool) (cycle : BitVec 64) (crc : BitVec 32) (s : State) : ∃ t, execTwinCheckFrame head task committed cycle crc s = .next t := by
  unfold execTwinCheckFrame
  repeat' first | with_reducible exact ⟨_, rfl⟩ | with_reducible refine next_ite ?_ ?_ | split | dsimp only
theorem execTwinHealthFrame_total (head : TwinHead) (flags : BitVec 32) (counts : BitVec 96) (s : State) : ∃ t, execTwinHealthFrame head flags counts s = .next t := by
  unfold execTwinHealthFrame
  repeat' first | with_reducible exact ⟨_, rfl⟩ | with_reducible refine next_ite ?_ ?_ | split | dsimp only
theorem execTwinCraze_total (flag : Fin 32) (s : State) : ∃ t, execTwinCraze flag s = .next t := by
  unfold execTwinCraze
  repeat' first | with_reducible exact ⟨_, rfl⟩ | with_reducible refine next_ite ?_ ?_ | split | dsimp only
theorem execCrazeFlagClear_total (flag : Fin 32) (s : State) : ∃ t, execCrazeFlagClear flag s = .next t := by
  unfold execCrazeFlagClear
  repeat' first | with_reducible exact ⟨_, rfl⟩ | with_reducible refine next_ite ?_ ?_ | split | dsimp only
theorem execTwinCmdRevertReq_total (dt : Nat) (head : TwinHead) (s : State) : ∃ t, execTwinCmdRevertReq dt head s = .next t := by
  unfold execTwinCmdRevertReq
  repeat' first | with_reducible exact ⟨_, rfl⟩ | with_reducible refine next_ite ?_ ?_ | split | dsimp only
theorem execTwinCmdHandover_total (dt : Nat) (head : TwinHead) (tick : BitVec 64) (s : State) : ∃ t, execTwinCmdHandover dt head tick s = .next t := by
  unfold execTwinCmdHandover
  repeat' first | with_reducible exact ⟨_, rfl⟩ | with_reducible refine next_ite ?_ ?_ | split | dsimp only
theorem execTwinCmdHandoverAck_total (head : TwinHead) (tick : BitVec 64) (s : State) : ∃ t, execTwinCmdHandoverAck head tick s = .next t := by
  unfold execTwinCmdHandoverAck
  repeat' first | with_reducible exact ⟨_, rfl⟩ | with_reducible refine next_ite ?_ ?_ | split | dsimp only
theorem execHandoverHoldChange_total (dt : Nat) (s : State) : ∃ t, execHandoverHoldChange dt s = .next t := by
  unfold execHandoverHoldChange
  repeat' first | with_reducible exact ⟨_, rfl⟩ | with_reducible refine next_ite ?_ ?_ | split | dsimp only
theorem execTwinCmdOlcSwitch_total (head : TwinHead) (tick : BitVec 64) (s : State) : ∃ t, execTwinCmdOlcSwitch head tick s = .next t := by
  unfold execTwinCmdOlcSwitch
  repeat' first | with_reducible exact ⟨_, rfl⟩ | with_reducible refine next_ite ?_ ?_ | split | dsimp only
theorem execTwinCmdIntegStart_total (dt : Nat) (head : TwinHead) (info : IntegInfo) (s : State) : ∃ t, execTwinCmdIntegStart dt head info s = .next t := by
  unfold execTwinCmdIntegStart
  repeat' first | with_reducible exact ⟨_, rfl⟩ | with_reducible refine next_ite ?_ ?_ | split | dsimp only
theorem execTwinLatencyDone_total (dt : Nat) (meanRoundTrip : BitVec 32) (s : State) : ∃ t, execTwinLatencyDone dt meanRoundTrip s = .next t := by
  unfold execTwinLatencyDone
  repeat' first | with_reducible exact ⟨_, rfl⟩ | with_reducible refine next_ite ?_ ?_ | split | dsimp only
theorem execTwinPageFrame_total (head : TwinHead) (addr : BitVec 64) (octets : List (BitVec 8)) (s : State) : ∃ t, execTwinPageFrame head addr octets s = .next t := by
  unfold execTwinPageFrame
  repeat' first | with_reducible exact ⟨_, rfl⟩ | with_reducible refine next_ite ?_ ?_ | split | dsimp only
theorem execTwinFwdFrame_total (head : TwinHead) (entries : List TwinFwd) (s : State) : ∃ t, execTwinFwdFrame head entries s = .next t := by
  unfold execTwinFwdFrame
  repeat' first | with_reducible exact ⟨_, rfl⟩ | with_reducible refine next_ite ?_ ?_ | split | dsimp only
theorem execTwinCopyDone_total (dt : Nat) (s : State) : ∃ t, execTwinCopyDone dt s = .next t := by
  unfold execTwinCopyDone
  repeat' first | with_reducible exact ⟨_, rfl⟩ | with_reducible refine next_ite ?_ ?_ | split | dsimp only
theorem execTwinChecksumDone_total (dt : Nat) (s : State) : ∃ t, execTwinChecksumDone dt s = .next t := by
  unfold execTwinChecksumDone
  repeat' first | with_reducible exact ⟨_, rfl⟩ | with_reducible refine next_ite ?_ ?_ | split | dsimp only
theorem execTwinCmdJoin_total (dt : Nat) (head : TwinHead) (tick : BitVec 64) (s : State) : ∃ t, execTwinCmdJoin dt head tick s = .next t := by
  unfold execTwinCmdJoin
  repeat' first | with_reducible exact ⟨_, rfl⟩ | with_reducible refine next_ite ?_ ?_ | split | dsimp only
theorem execTwinStaterecFrame_total (dt : Nat) (head : TwinHead) (rcd : StateRec) (s : State) : ∃ t, execTwinStaterecFrame dt head rcd s = .next t := by
  unfold execTwinStaterecFrame
  repeat' first | with_reducible exact ⟨_, rfl⟩ | with_reducible refine next_ite ?_ ?_ | split | dsimp only
theorem execTwinIntegRetry_total (dt : Nat) (s : State) : ∃ t, execTwinIntegRetry dt s = .next t := by
  unfold execTwinIntegRetry
  repeat' first | with_reducible exact ⟨_, rfl⟩ | with_reducible refine next_ite ?_ ?_ | split | dsimp only
theorem execTwinPeerIntegratingTimeout_total (dt : Nat) (s : State) : ∃ t, execTwinPeerIntegratingTimeout dt s = .next t := by
  unfold execTwinPeerIntegratingTimeout
  repeat' first | with_reducible exact ⟨_, rfl⟩ | with_reducible refine next_ite ?_ ?_ | split | dsimp only
theorem execTwinPeerSilentTimeout_total (dt : Nat) (s : State) : ∃ t, execTwinPeerSilentTimeout dt s = .next t := by
  unfold execTwinPeerSilentTimeout
  repeat' first | with_reducible exact ⟨_, rfl⟩ | with_reducible refine next_ite ?_ ?_ | split | dsimp only
theorem execRevertHoldExpiry_total (dt : Nat) (s : State) : ∃ t, execRevertHoldExpiry dt s = .next t := by
  unfold execRevertHoldExpiry
  repeat' first | with_reducible exact ⟨_, rfl⟩ | with_reducible refine next_ite ?_ ?_ | split | dsimp only
theorem execTwinFwdHoldRelease_total (dt : Nat) (s : State) : ∃ t, execTwinFwdHoldRelease dt s = .next t := by
  unfold execTwinFwdHoldRelease
  repeat' first | with_reducible exact ⟨_, rfl⟩ | with_reducible refine next_ite ?_ ?_ | split | dsimp only
theorem execTimeFrameInterval_total (dt : Nat) (s : State) : ∃ t, execTimeFrameInterval dt s = .next t := by
  unfold execTimeFrameInterval
  repeat' first | with_reducible exact ⟨_, rfl⟩ | with_reducible refine next_ite ?_ ?_ | split | dsimp only
theorem execHealthFrameInterval_total (dt : Nat) (s : State) : ∃ t, execHealthFrameInterval dt s = .next t := by
  unfold execHealthFrameInterval
  repeat' first | with_reducible exact ⟨_, rfl⟩ | with_reducible refine next_ite ?_ ?_ | split | dsimp only
theorem execTwpPulseError_total (s : State) : ∃ t, execTwpPulseError s = .next t := by
  unfold execTwpPulseError
  repeat' first | with_reducible exact ⟨_, rfl⟩ | with_reducible refine next_ite ?_ ?_ | split | dsimp only
theorem execStandbyImageStage_total (head : TwinHead) (image : List (BitVec 8)) (s : State) : ∃ t, execStandbyImageStage head image s = .next t := by
  unfold execStandbyImageStage
  repeat' first | with_reducible exact ⟨_, rfl⟩ | with_reducible refine next_ite ?_ ?_ | split | dsimp only
theorem execQuietGapStart_total (dt : Nat) (s : State) : ∃ t, execQuietGapStart dt s = .next t := by
  unfold execQuietGapStart
  repeat' first | with_reducible exact ⟨_, rfl⟩ | with_reducible refine next_ite ?_ ?_ | split | dsimp only
theorem execSwitchFrameReceived_total (dt : Nat) (port : Fin 3) (frame : EthFrame) (s : State) : ∃ t, execSwitchFrameReceived dt port frame s = .next t := by
  unfold execSwitchFrameReceived
  repeat' first | with_reducible exact ⟨_, rfl⟩ | with_reducible refine next_ite ?_ ?_ | split | dsimp only
theorem execMacAddressAgeing_total (dt : Nat) (vid : BitVec 12) (mac : BitVec 48) (s : State) : ∃ t, execMacAddressAgeing dt vid mac s = .next t := by
  unfold execMacAddressAgeing
  repeat' first | with_reducible exact ⟨_, rfl⟩ | with_reducible refine next_ite ?_ ?_ | split | dsimp only
theorem execInternalPortReceive_total (dt : Nat) (port : Fin 2) (frame : EthFrame) (s : State) : ∃ t, execInternalPortReceive dt port frame s = .next t := by
  unfold execInternalPortReceive
  repeat' first | with_reducible exact ⟨_, rfl⟩ | with_reducible refine next_ite ?_ ?_ | split | dsimp only
theorem execReceiveSlotWrite_total (dt : Nat) (slot : Fin 16) (s : State) : ∃ t, execReceiveSlotWrite dt slot s = .next t := by
  unfold execReceiveSlotWrite
  repeat' first | with_reducible exact ⟨_, rfl⟩ | with_reducible refine next_ite ?_ ?_ | split | dsimp only
theorem execLinkChange_total (dt : Nat) (port : Fin 4) (spd : Fin 3) (s : State) : ∃ t, execLinkChange dt port spd s = .next t := by
  unfold execLinkChange
  repeat' first | with_reducible exact ⟨_, rfl⟩ | with_reducible refine next_ite ?_ ?_ | split | dsimp only
theorem execPrpFrameReceived_total (dt : Nat) (lan : Fin 2) (frame : PrpFrame) (s : State) : ∃ t, execPrpFrameReceived dt lan frame s = .next t := by
  unfold execPrpFrameReceived
  repeat' first | with_reducible exact ⟨_, rfl⟩ | with_reducible refine next_ite ?_ ?_ | split | dsimp only
theorem execPrpSupervisionInterval_total (dt : Nat) (s : State) : ∃ t, execPrpSupervisionInterval dt s = .next t := by
  unfold execPrpSupervisionInterval
  repeat' first | with_reducible exact ⟨_, rfl⟩ | with_reducible refine next_ite ?_ ?_ | split | dsimp only
theorem execPrpLanFail_total (dt : Nat) (lan : Fin 2) (s : State) : ∃ t, execPrpLanFail dt lan s = .next t := by
  unfold execPrpLanFail
  repeat' first | with_reducible exact ⟨_, rfl⟩ | with_reducible refine next_ite ?_ ?_ | split | dsimp only
theorem execPowerOnResetRelease_total (twpos : Bool) (s : State) : ∃ t, execPowerOnResetRelease twpos s = .next t := by
  unfold execPowerOnResetRelease
  repeat' first | with_reducible exact ⟨_, rfl⟩ | with_reducible refine next_ite ?_ ?_ | split | dsimp only
theorem execBootBankChoice_total (retained : Bool) (s : State) : ∃ t, execBootBankChoice retained s = .next t := by
  unfold execBootBankChoice
  repeat' first | with_reducible exact ⟨_, rfl⟩ | with_reducible refine next_ite ?_ ?_ | split | dsimp only
theorem execKilnFirmwareStart_total (lost : List (Nat × Nat)) (s : State) : ∃ t, execKilnFirmwareStart lost s = .next t := by
  unfold execKilnFirmwareStart
  repeat' first | with_reducible exact ⟨_, rfl⟩ | with_reducible refine next_ite ?_ ?_ | split | dsimp only
theorem execLaneStartupTestsDone_total (r0 r1 r2 r3 : LaneTest) (s : State) : ∃ t, execLaneStartupTestsDone r0 r1 r2 r3 s = .next t := by
  unfold execLaneStartupTestsDone
  repeat' first | with_reducible exact ⟨_, rfl⟩ | with_reducible refine next_ite ?_ ?_ | split | dsimp only
theorem execProcessorSectionLoaded_total (target : LoadTarget) (crcOk : Bool) (s : State) : ∃ t, execProcessorSectionLoaded target crcOk s = .next t := by
  unfold execProcessorSectionLoaded
  repeat' first | with_reducible exact ⟨_, rfl⟩ | with_reducible refine next_ite ?_ ?_ | split | dsimp only
theorem execStartupInjectionSet_total (fail : Option InjFail) (s : State) : ∃ t, execStartupInjectionSet fail s = .next t := by
  unfold execStartupInjectionSet
  repeat' first | with_reducible exact ⟨_, rfl⟩ | with_reducible refine next_ite ?_ ?_ | split | dsimp only
theorem execLaneImageLoaded_total (crcOk : BitVec 4) (s : State) : ∃ t, execLaneImageLoaded crcOk s = .next t := by
  unfold execLaneImageLoaded
  repeat' first | with_reducible exact ⟨_, rfl⟩ | with_reducible refine next_ite ?_ ?_ | split | dsimp only
theorem execSafetySetCheck_total (s : State) : ∃ t, execSafetySetCheck s = .next t := by
  unfold execSafetySetCheck
  repeat' first | with_reducible exact ⟨_, rfl⟩ | with_reducible refine next_ite ?_ ?_ | split | dsimp only
theorem execFiringEnd_total (dt : Nat) (s : State) : ∃ t, execFiringEnd dt s = .next t := by
  unfold execFiringEnd
  repeat' first | with_reducible exact ⟨_, rfl⟩ | with_reducible refine next_ite ?_ ?_ | split | dsimp only
theorem execTrialTimeout_total (s : State) : ∃ t, execTrialTimeout s = .next t := by
  unfold execTrialTimeout
  repeat' first | with_reducible exact ⟨_, rfl⟩ | with_reducible refine next_ite ?_ ?_ | split | dsimp only
theorem execFwConfirmed_total (dt : Nat) (s : State) : ∃ t, execFwConfirmed dt s = .next t := by
  unfold execFwConfirmed
  repeat' first | with_reducible exact ⟨_, rfl⟩ | with_reducible refine next_ite ?_ ?_ | split | dsimp only
theorem execMaintenanceAtBoundary_total (dt : Nat) (s : State) : ∃ t, execMaintenanceAtBoundary dt s = .next t := by
  unfold execMaintenanceAtBoundary
  repeat' first | with_reducible exact ⟨_, rfl⟩ | with_reducible refine next_ite ?_ ?_ | split | dsimp only
theorem execBankedWake_total (cause : Fin 4) (source : Nat) (s : State) : ∃ t, execBankedWake cause source s = .next t := by
  unfold execBankedWake
  repeat' first | with_reducible exact ⟨_, rfl⟩ | with_reducible refine next_ite ?_ ?_ | split | dsimp only
theorem execBankedPowerStateReached_total (dt : Nat) (s : State) : ∃ t, execBankedPowerStateReached dt s = .next t := by
  unfold execBankedPowerStateReached
  repeat' first | with_reducible exact ⟨_, rfl⟩ | with_reducible refine next_ite ?_ ?_ | split | dsimp only
theorem execGdpWake_total (port : Fin 4) (client : BitVec 32) (s : State) : ∃ t, execGdpWake port client s = .next t := by
  unfold execGdpWake
  repeat' first | with_reducible exact ⟨_, rfl⟩ | with_reducible refine next_ite ?_ ?_ | split | dsimp only
theorem execKilnWatchdogReset_total (s : State) : ∃ t, execKilnWatchdogReset s = .next t := by
  unfold execKilnWatchdogReset
  repeat' first | with_reducible exact ⟨_, rfl⟩ | with_reducible refine next_ite ?_ ?_ | split | dsimp only
theorem execPowerFailWarning_total (volt : BitVec 16) (s : State) : ∃ t, execPowerFailWarning volt s = .next t := by
  unfold execPowerFailWarning
  repeat' first | with_reducible exact ⟨_, rfl⟩ | with_reducible refine next_ite ?_ ?_ | split | dsimp only
theorem execPowerFail_total (dt : Nat) (volt : BitVec 16) (s : State) : ∃ t, execPowerFail dt volt s = .next t := by
  unfold execPowerFail
  repeat' first | with_reducible exact ⟨_, rfl⟩ | with_reducible refine next_ite ?_ ?_ | split | dsimp only
theorem execSupplyReturn_total (us : BitVec 32) (volt : BitVec 16) (s : State) : ∃ t, execSupplyReturn us volt s = .next t := by
  unfold execSupplyReturn
  repeat' first | with_reducible exact ⟨_, rfl⟩ | with_reducible refine next_ite ?_ ?_ | split | dsimp only
theorem execHoldupExhausted_total (s : State) : ∃ t, execHoldupExhausted s = .next t := by
  unfold execHoldupExhausted
  repeat' first | with_reducible exact ⟨_, rfl⟩ | with_reducible refine next_ite ?_ ?_ | split | dsimp only
theorem execBrownOutReset_total (railTrip : Bool) (s : State) : ∃ t, execBrownOutReset railTrip s = .next t := by
  unfold execBrownOutReset
  repeat' first | with_reducible exact ⟨_, rfl⟩ | with_reducible refine next_ite ?_ ?_ | split | dsimp only
theorem execDomainFault_total (domain : Fin 12) (mv : BitVec 32) (s : State) : ∃ t, execDomainFault domain mv s = .next t := by
  unfold execDomainFault
  repeat' first | with_reducible exact ⟨_, rfl⟩ | with_reducible refine next_ite ?_ ?_ | split | dsimp only
theorem execModuleWithdrawn_total (s : State) : ∃ t, execModuleWithdrawn s = .next t := by
  unfold execModuleWithdrawn
  repeat' first | with_reducible exact ⟨_, rfl⟩ | with_reducible refine next_ite ?_ ?_ | split | dsimp only
theorem execTempMeasurement_total (temp : BitVec 16) (s : State) : ∃ t, execTempMeasurement temp s = .next t := by
  unfold execTempMeasurement
  repeat' first | with_reducible exact ⟨_, rfl⟩ | with_reducible refine next_ite ?_ ?_ | split | dsimp only
theorem execGdpRead_total (head : GdpHead) (index : BitVec 16) (sub : BitVec 8) (offset : BitVec 32) (s : State) : ∃ t, execGdpRead head index sub offset s = .next t := by
  unfold execGdpRead
  repeat' first | with_reducible exact ⟨_, rfl⟩ | with_reducible refine next_ite ?_ ?_ | split | dsimp only
theorem execGdpWrite_total (head : GdpHead) (index : BitVec 16) (sub : BitVec 8) (block : BlockIn) (s : State) : ∃ t, execGdpWrite head index sub block s = .next t := by
  unfold execGdpWrite
  repeat' first | with_reducible exact ⟨_, rfl⟩ | with_reducible refine next_ite ?_ ?_ | split | dsimp only
theorem execGdpOpen_total (head : GdpHead) (client : BitVec 32) (s : State) : ∃ t, execGdpOpen head client s = .next t := by
  unfold execGdpOpen
  repeat' first | with_reducible exact ⟨_, rfl⟩ | with_reducible refine next_ite ?_ ?_ | split | dsimp only
theorem execGdpClose_total (head : GdpHead) (s : State) : ∃ t, execGdpClose head s = .next t := by
  unfold execGdpClose
  repeat' first | with_reducible exact ⟨_, rfl⟩ | with_reducible refine next_ite ?_ ?_ | split | dsimp only
theorem execGdpSessionIdleTimeout_total (dt : Nat) (session : Fin 6) (s : State) : ∃ t, execGdpSessionIdleTimeout dt session s = .next t := by
  unfold execGdpSessionIdleTimeout
  repeat' first | with_reducible exact ⟨_, rfl⟩ | with_reducible refine next_ite ?_ ?_ | split | dsimp only
theorem execKeyxChallenge_total (by_ : Session) (s : State) : ∃ t, execKeyxChallenge by_ s = .next t := by
  unfold execKeyxChallenge
  repeat' first | with_reducible exact ⟨_, rfl⟩ | with_reducible refine next_ite ?_ ?_ | split | dsimp only
theorem execKeyxResponse_total (by_ : Session) (response : List (BitVec 8)) (s : State) : ∃ t, execKeyxResponse by_ response s = .next t := by
  unfold execKeyxResponse
  repeat' first | with_reducible exact ⟨_, rfl⟩ | with_reducible refine next_ite ?_ ?_ | split | dsimp only
theorem execKeyxLockoutEnd_total (dt : Nat) (s : State) : ∃ t, execKeyxLockoutEnd dt s = .next t := by
  unfold execKeyxLockoutEnd
  repeat' first | with_reducible exact ⟨_, rfl⟩ | with_reducible refine next_ite ?_ ?_ | split | dsimp only
theorem execMaintenanceKeyWrite_total (by_ : Session) (key : List (BitVec 8)) (s : State) : ∃ t, execMaintenanceKeyWrite by_ key s = .next t := by
  unfold execMaintenanceKeyWrite
  repeat' first | with_reducible exact ⟨_, rfl⟩ | with_reducible refine next_ite ?_ ?_ | split | dsimp only
theorem execUsdoTransfer_total (channel : Fin 2) (op : DictOp) (s : State) : ∃ t, execUsdoTransfer channel op s = .next t := by
  unfold execUsdoTransfer
  repeat' first | with_reducible exact ⟨_, rfl⟩ | with_reducible refine next_ite ?_ ?_ | split | dsimp only
theorem execUsdoTimeout_total (dt : Nat) (channel : Fin 2) (s : State) : ∃ t, execUsdoTimeout dt channel s = .next t := by
  unfold execUsdoTimeout
  repeat' first | with_reducible exact ⟨_, rfl⟩ | with_reducible refine next_ite ?_ ?_ | split | dsimp only
theorem execStateCmdEnterMaintenance_total (by_ : Session) (s : State) : ∃ t, execStateCmdEnterMaintenance by_ s = .next t := by
  unfold execStateCmdEnterMaintenance
  repeat' first | with_reducible exact ⟨_, rfl⟩ | with_reducible refine next_ite ?_ ?_ | split | dsimp only
theorem execStateCmdLeaveMaintenance_total (by_ : Session) (s : State) : ∃ t, execStateCmdLeaveMaintenance by_ s = .next t := by
  unfold execStateCmdLeaveMaintenance
  repeat' first | with_reducible exact ⟨_, rfl⟩ | with_reducible refine next_ite ?_ ?_ | split | dsimp only
theorem execStateCmdEnterBanked_total (by_ : Session) (s : State) : ∃ t, execStateCmdEnterBanked by_ s = .next t := by
  unfold execStateCmdEnterBanked
  repeat' first | with_reducible exact ⟨_, rfl⟩ | with_reducible refine next_ite ?_ ?_ | split | dsimp only
theorem execStateCmdModuleReset_total (by_ : Session) (s : State) : ∃ t, execStateCmdModuleReset by_ s = .next t := by
  unfold execStateCmdModuleReset
  repeat' first | with_reducible exact ⟨_, rfl⟩ | with_reducible refine next_ite ?_ ?_ | split | dsimp only
theorem execWarmRestart_total (by_ : Session) (s : State) : ∃ t, execWarmRestart by_ s = .next t := by
  unfold execWarmRestart
  repeat' first | with_reducible exact ⟨_, rfl⟩ | with_reducible refine next_ite ?_ ?_ | split | dsimp only
theorem execLane1oo1Select_total (by_ : Session) (lane : Fin 4) (s : State) : ∃ t, execLane1oo1Select by_ lane s = .next t := by
  unfold execLane1oo1Select
  repeat' first | with_reducible exact ⟨_, rfl⟩ | with_reducible refine next_ite ?_ ?_ | split | dsimp only
theorem execLane1oo1Release_total (by_ : Session) (s : State) : ∃ t, execLane1oo1Release by_ s = .next t := by
  unfold execLane1oo1Release
  repeat' first | with_reducible exact ⟨_, rfl⟩ | with_reducible refine next_ite ?_ ?_ | split | dsimp only
theorem execWideModeWrite_total (by_ : Session) (on : Bool) (s : State) : ∃ t, execWideModeWrite by_ on s = .next t := by
  unfold execWideModeWrite
  repeat' first | with_reducible exact ⟨_, rfl⟩ | with_reducible refine next_ite ?_ ?_ | split | dsimp only
theorem execImageStage_total (by_ : Session) (peer : BitVec 8) (s : State) : ∃ t, execImageStage by_ peer s = .next t := by
  unfold execImageStage
  repeat' first | with_reducible exact ⟨_, rfl⟩ | with_reducible refine next_ite ?_ ?_ | split | dsimp only
theorem execImageDiscard_total (by_ : Session) (s : State) : ∃ t, execImageDiscard by_ s = .next t := by
  unfold execImageDiscard
  repeat' first | with_reducible exact ⟨_, rfl⟩ | with_reducible refine next_ite ?_ ?_ | split | dsimp only
theorem execOlcSwitchRequest_total (by_ : Session) (s : State) : ∃ t, execOlcSwitchRequest by_ s = .next t := by
  unfold execOlcSwitchRequest
  repeat' first | with_reducible exact ⟨_, rfl⟩ | with_reducible refine next_ite ?_ ?_ | split | dsimp only
theorem execGatewayRead_total (by_ : Session) (s : State) : ∃ t, execGatewayRead by_ s = .next t := by
  unfold execGatewayRead
  repeat' first | with_reducible exact ⟨_, rfl⟩ | with_reducible refine next_ite ?_ ?_ | split | dsimp only
theorem execGatewayWrite_total (by_ : Session) (data : List (BitVec 8)) (s : State) : ∃ t, execGatewayWrite by_ data s = .next t := by
  unfold execGatewayWrite
  repeat' first | with_reducible exact ⟨_, rfl⟩ | with_reducible refine next_ite ?_ ?_ | split | dsimp only
theorem execSafetyWrite_total (by_ : Session) (index : BitVec 16) (sub : BitVec 8) (value : List (BitVec 8)) (s : State) : ∃ t, execSafetyWrite by_ index sub value s = .next t := by
  unfold execSafetyWrite
  repeat' first | with_reducible exact ⟨_, rfl⟩ | with_reducible refine next_ite ?_ ?_ | split | dsimp only
theorem execSafetyReserve_total (dt : Nat) (s : State) : ∃ t, execSafetyReserve dt s = .next t := by
  unfold execSafetyReserve
  repeat' first | with_reducible exact ⟨_, rfl⟩ | with_reducible refine next_ite ?_ ?_ | split | dsimp only
theorem execSafetyCommit_total (dt : Nat) (s : State) : ∃ t, execSafetyCommit dt s = .next t := by
  unfold execSafetyCommit
  repeat' first | with_reducible exact ⟨_, rfl⟩ | with_reducible refine next_ite ?_ ?_ | split | dsimp only
theorem execSafetyTimeout_total (dt : Nat) (s : State) : ∃ t, execSafetyTimeout dt s = .next t := by
  unfold execSafetyTimeout
  repeat' first | with_reducible exact ⟨_, rfl⟩ | with_reducible refine next_ite ?_ ?_ | split | dsimp only
theorem execSafetyValueFromActive_total (head : TwinHead) (index : BitVec 16) (sub : BitVec 8) (value : List (BitVec 8)) (s : State) : ∃ t, execSafetyValueFromActive head index sub value s = .next t := by
  unfold execSafetyValueFromActive
  repeat' first | with_reducible exact ⟨_, rfl⟩ | with_reducible refine next_ite ?_ ?_ | split | dsimp only
theorem execDebugHalt_total (by_ : Session) (s : State) : ∃ t, execDebugHalt by_ s = .next t := by
  unfold execDebugHalt
  repeat' first | with_reducible exact ⟨_, rfl⟩ | with_reducible refine next_ite ?_ ?_ | split | dsimp only
theorem execDebugRun_total (by_ : Session) (s : State) : ∃ t, execDebugRun by_ s = .next t := by
  unfold execDebugRun
  repeat' first | with_reducible exact ⟨_, rfl⟩ | with_reducible refine next_ite ?_ ?_ | split | dsimp only
theorem execDebugStep_total (by_ : Session) (s : State) : ∃ t, execDebugStep by_ s = .next t := by
  unfold execDebugStep
  repeat' first | with_reducible exact ⟨_, rfl⟩ | with_reducible refine next_ite ?_ ?_ | split | dsimp only
theorem execDebugRegisterAccess_total (by_ : Session) (reg : DebugReg) (value : Option (List (BitVec 8))) (s : State) : ∃ t, execDebugRegisterAccess by_ reg value s = .next t := by
  unfold execDebugRegisterAccess
  repeat' first | with_reducible exact ⟨_, rfl⟩ | with_reducible refine next_ite ?_ ?_ | split | dsimp only
theorem execDebugMemoryAccess_total (by_ : Session) (length : BitVec 16) (value : Option (List (BitVec 8))) (s : State) : ∃ t, execDebugMemoryAccess by_ length value s = .next t := by
  unfold execDebugMemoryAccess
  repeat' first | with_reducible exact ⟨_, rfl⟩ | with_reducible refine next_ite ?_ ?_ | split | dsimp only
theorem execDebugBreakpointHit_total (core : Fin 8) (s : State) : ∃ t, execDebugBreakpointHit core s = .next t := by
  unfold execDebugBreakpointHit
  repeat' first | with_reducible exact ⟨_, rfl⟩ | with_reducible refine next_ite ?_ ?_ | split | dsimp only
theorem execFwBlock_total (by_ : Session) (block : BlockIn) (s : State) : ∃ t, execFwBlock by_ block s = .next t := by
  unfold execFwBlock
  repeat' first | with_reducible exact ⟨_, rfl⟩ | with_reducible refine next_ite ?_ ?_ | split | dsimp only
theorem execAppImageBlock_total (by_ : Session) (block : BlockIn) (s : State) : ∃ t, execAppImageBlock by_ block s = .next t := by
  unfold execAppImageBlock
  repeat' first | with_reducible exact ⟨_, rfl⟩ | with_reducible refine next_ite ?_ ?_ | split | dsimp only
theorem execScheduleTableBlock_total (by_ : Session) (block : BlockIn) (s : State) : ∃ t, execScheduleTableBlock by_ block s = .next t := by
  unfold execScheduleTableBlock
  repeat' first | with_reducible exact ⟨_, rfl⟩ | with_reducible refine next_ite ?_ ?_ | split | dsimp only
theorem execTransferAbandonTimeout_total (dt : Nat) (index : BitVec 16) (s : State) : ∃ t, execTransferAbandonTimeout dt index s = .next t := by
  unfold execTransferAbandonTimeout
  repeat' first | with_reducible exact ⟨_, rfl⟩ | with_reducible refine next_ite ?_ ?_ | split | dsimp only
theorem execFlashSectorErased_total (dt : Nat) (s : State) : ∃ t, execFlashSectorErased dt s = .next t := by
  unfold execFlashSectorErased
  repeat' first | with_reducible exact ⟨_, rfl⟩ | with_reducible refine next_ite ?_ ?_ | split | dsimp only
theorem execFwActivate_total (by_ : Session) (s : State) : ∃ t, execFwActivate by_ s = .next t := by
  unfold execFwActivate
  repeat' first | with_reducible exact ⟨_, rfl⟩ | with_reducible refine next_ite ?_ ?_ | split | dsimp only
theorem execFwRevert_total (by_ : Session) (s : State) : ∃ t, execFwRevert by_ s = .next t := by
  unfold execFwRevert
  repeat' first | with_reducible exact ⟨_, rfl⟩ | with_reducible refine next_ite ?_ ?_ | split | dsimp only
theorem execFwCancelTransfer_total (by_ : Session) (s : State) : ∃ t, execFwCancelTransfer by_ s = .next t := by
  unfold execFwCancelTransfer
  repeat' first | with_reducible exact ⟨_, rfl⟩ | with_reducible refine next_ite ?_ ?_ | split | dsimp only
theorem execFwCancelActivation_total (by_ : Session) (s : State) : ∃ t, execFwCancelActivation by_ s = .next t := by
  unfold execFwCancelActivation
  repeat' first | with_reducible exact ⟨_, rfl⟩ | with_reducible refine next_ite ?_ ?_ | split | dsimp only
theorem execRecorderRead_total (by_ : Session) (s : State) : ∃ t, execRecorderRead by_ s = .next t := by
  unfold execRecorderRead
  repeat' first | with_reducible exact ⟨_, rfl⟩ | with_reducible refine next_ite ?_ ?_ | split | dsimp only
theorem execXenexFrameReceived_total (dt : Nat) (a b : Option (List (BitVec 8))) (after : BitVec 32) (s : State) : ∃ t, execXenexFrameReceived dt a b after s = .next t := by
  unfold execXenexFrameReceived
  repeat' first | with_reducible exact ⟨_, rfl⟩ | with_reducible refine next_ite ?_ ?_ | split | dsimp only
theorem execSlotComplete_total (dt slot : Nat) (s : State) : ∃ t, execSlotComplete dt slot s = .next t := by
  unfold execSlotComplete
  repeat' first | with_reducible exact ⟨_, rfl⟩ | with_reducible refine next_ite ?_ ?_ | split | dsimp only
theorem execAcycRespReceived_total (node : BitVec 6) (msg : AcycMsg) (s : State) : ∃ t, execAcycRespReceived node msg s = .next t := by
  unfold execAcycRespReceived
  repeat' first | with_reducible exact ⟨_, rfl⟩ | with_reducible refine next_ite ?_ ?_ | split | dsimp only
theorem execAcycTimeout_total (dt : Nat) (s : State) : ∃ t, execAcycTimeout dt s = .next t := by
  unfold execAcycTimeout
  repeat' first | with_reducible exact ⟨_, rfl⟩ | with_reducible refine next_ite ?_ ?_ | split | dsimp only
theorem execTpdoEventTimer_total (dt : Nat) (channel : Fin 2) (tpdo : Fin 8) (s : State) : ∃ t, execTpdoEventTimer dt channel tpdo s = .next t := by
  unfold execTpdoEventTimer
  repeat' first | with_reducible exact ⟨_, rfl⟩ | with_reducible refine next_ite ?_ ?_ | split | dsimp only
theorem execRpdoReceived_total (dt : Nat) (channel : Fin 2) (cobId : BitVec 29) (data : List (BitVec 8)) (s : State) : ∃ t, execRpdoReceived dt channel cobId data s = .next t := by
  unfold execRpdoReceived
  repeat' first | with_reducible exact ⟨_, rfl⟩ | with_reducible refine next_ite ?_ ?_ | split | dsimp only
theorem execCanBusoff_total (channel : Fin 2) (tec : BitVec 8) (s : State) : ∃ t, execCanBusoff channel tec s = .next t := by
  unfold execCanBusoff
  repeat' first | with_reducible exact ⟨_, rfl⟩ | with_reducible refine next_ite ?_ ?_ | split | dsimp only
theorem execCanBusoffRecovery_total (dt : Nat) (channel : Fin 2) (s : State) : ∃ t, execCanBusoffRecovery dt channel s = .next t := by
  unfold execCanBusoffRecovery
  repeat' first | with_reducible exact ⟨_, rfl⟩ | with_reducible refine next_ite ?_ ?_ | split | dsimp only
theorem execNmtCommand_total (channel : Fin 2) (node : BitVec 7) (cmd : NmtCmd) (s : State) : ∃ t, execNmtCommand channel node cmd s = .next t := by
  unfold execNmtCommand
  repeat' first | with_reducible exact ⟨_, rfl⟩ | with_reducible refine next_ite ?_ ?_ | split | dsimp only
theorem execCanProducerHeartbeat_total (dt : Nat) (channel : Fin 2) (s : State) : ∃ t, execCanProducerHeartbeat dt channel s = .next t := by
  unfold execCanProducerHeartbeat
  repeat' first | with_reducible exact ⟨_, rfl⟩ | with_reducible refine next_ite ?_ ?_ | split | dsimp only
theorem execCanHbLost_total (dt : Nat) (consumer : Fin 4) (s : State) : ∃ t, execCanHbLost dt consumer s = .next t := by
  unfold execCanHbLost
  repeat' first | with_reducible exact ⟨_, rfl⟩ | with_reducible refine next_ite ?_ ?_ | split | dsimp only
theorem execCanHeartbeatReceived_total (channel : Fin 2) (node : BitVec 7) (s : State) : ∃ t, execCanHeartbeatReceived channel node s = .next t := by
  unfold execCanHeartbeatReceived
  repeat' first | with_reducible exact ⟨_, rfl⟩ | with_reducible refine next_ite ?_ ?_ | split | dsimp only
theorem execEventSubmit_total (src : Fin 16) (code : BitVec 16) (p0 p1 p2 : BitVec 32) (s : State) : ∃ t, execEventSubmit src code p0 p1 p2 s = .next t := by
  unfold execEventSubmit
  repeat' first | with_reducible exact ⟨_, rfl⟩ | with_reducible refine next_ite ?_ ?_ | split | dsimp only
theorem execRecordWrite_total (dt : Nat) (cut : WriteCut) (s : State) : ∃ t, execRecordWrite dt cut s = .next t := by
  unfold execRecordWrite
  repeat' first | with_reducible exact ⟨_, rfl⟩ | with_reducible refine next_ite ?_ ?_ | split | dsimp only
theorem execHeadRewrite_total (dt : Nat) (cut : WriteCut) (s : State) : ∃ t, execHeadRewrite dt cut s = .next t := by
  unfold execHeadRewrite
  repeat' first | with_reducible exact ⟨_, rfl⟩ | with_reducible refine next_ite ?_ ?_ | split | dsimp only
theorem execOptimeSave_total (dt : Nat) (s : State) : ∃ t, execOptimeSave dt s = .next t := by
  unfold execOptimeSave
  repeat' first | with_reducible exact ⟨_, rfl⟩ | with_reducible refine next_ite ?_ ?_ | split | dsimp only
theorem execTokenRefill_total (dt : Nat) (code : BitVec 16) (s : State) : ∃ t, execTokenRefill dt code s = .next t := by
  unfold execTokenRefill
  repeat' first | with_reducible exact ⟨_, rfl⟩ | with_reducible refine next_ite ?_ ?_ | split | dsimp only
theorem execBandwidthWindowEnd_total (dt : Nat) (s : State) : ∃ t, execBandwidthWindowEnd dt s = .next t := by
  unfold execBandwidthWindowEnd
  repeat' first | with_reducible exact ⟨_, rfl⟩ | with_reducible refine next_ite ?_ ?_ | split | dsimp only
theorem execGapDump_total (dt : Nat) (s : State) : ∃ t, execGapDump dt s = .next t := by
  unfold execGapDump
  repeat' first | with_reducible exact ⟨_, rfl⟩ | with_reducible refine next_ite ?_ ?_ | split | dsimp only
theorem execPeriodicDump_total (dt : Nat) (s : State) : ∃ t, execPeriodicDump dt s = .next t := by
  unfold execPeriodicDump
  repeat' first | with_reducible exact ⟨_, rfl⟩ | with_reducible refine next_ite ?_ ?_ | split | dsimp only

end Sys2Proof.Machine
end

