-- ==== Sys2Proof/Laws/Memory.lean ====
section
/-! SUPPORT. Memory operations keep the canonical form, and the read-after-write laws. -/

set_option linter.all false

namespace Sys2Proof.Machine

open Sys2Proof

theorem memWfFrom_mono {lo hi : Nat} {m : List Host.Cell} (h : memWfFrom hi m = true) (hl : lo ≤ hi) :
    memWfFrom lo m = true := by
  cases m with
  | nil => rfl
  | cons c r =>
    obtain ⟨k, v⟩ := c
    simp only [memWfFrom, Bool.and_eq_true, decide_eq_true_eq] at h ⊢
    exact ⟨⟨by omega, h.1.2⟩, h.2⟩

theorem memWfFrom_memSet {lo a : Nat} {b : Byte} : ∀ {m : List Host.Cell}, memWfFrom lo m = true → lo ≤ a →
    memWfFrom lo (memSet m a b) = true
  | [], _, ha => by
    unfold memSet
    split <;> simp_all [memWfFrom]
  | (k, v) :: r, h, ha => by
    simp only [memWfFrom, Bool.and_eq_true, decide_eq_true_eq] at h
    unfold memSet
    split
    · split
      · simp only [memWfFrom, Bool.and_eq_true, decide_eq_true_eq]; exact h
      · simp only [memWfFrom, Bool.and_eq_true, decide_eq_true_eq]
        exact ⟨⟨ha, ‹_›⟩, ⟨by omega, h.1.2⟩, h.2⟩
    · split
      · split
        · exact memWfFrom_mono h.2 (by omega)
        · simp only [memWfFrom, Bool.and_eq_true, decide_eq_true_eq]
          exact ⟨⟨ha, ‹_›⟩, by subst_vars; exact h.2⟩
      · simp only [memWfFrom, Bool.and_eq_true, decide_eq_true_eq]
        exact ⟨h.1, memWfFrom_memSet h.2 (by omega)⟩

/-- Writing one octet keeps the canonical form. -/
theorem Memory.wf_memSet {m : List Host.Cell} (a : Nat) (b : Byte) (h : Memory.wf m = true) :
    Memory.wf (memSet m a b) = true := memWfFrom_memSet h (Nat.zero_le _)

theorem Memory.wf_memWrite {m : List Host.Cell} (a : Nat) (bs : List Byte) (h : Memory.wf m = true) :
    Memory.wf (memWrite m a bs) = true := by
  induction bs generalizing m a with
  | nil => exact h
  | cons b bs ih => exact ih (a + 1) (Memory.wf_memSet a b h)

theorem Memory.wf_memWriteBe {m : List Host.Cell} (a : Nat) (be : BitVec 16) (d : BitVec 128) (n : Nat)
    (h : Memory.wf m = true) : Memory.wf (memWriteBe m a be d n) = true := by
  induction n with
  | zero => exact h
  | succ n ih =>
    unfold memWriteBe
    split
    · exact Memory.wf_memSet _ _ ih
    · exact ih

theorem memWfFrom_filter {p : Host.Cell → Bool} : ∀ {m : List Host.Cell} {lo : Nat}, memWfFrom lo m = true →
    memWfFrom lo (m.filter p) = true
  | [], _, _ => rfl
  | (k, v) :: r, lo, h => by
    simp only [memWfFrom, Bool.and_eq_true, decide_eq_true_eq] at h
    simp only [List.filter]
    have ih := memWfFrom_filter (p := p) h.2
    split
    · simp only [memWfFrom, Bool.and_eq_true, decide_eq_true_eq]; exact ⟨h.1, ih⟩
    · exact memWfFrom_mono ih (by omega)

theorem Memory.wf_filter {m : List Host.Cell} (p : Host.Cell → Bool) (h : Memory.wf m = true) :
    Memory.wf (m.filter p) = true := memWfFrom_filter h

theorem Memory.wf_memMerge {dst : List Host.Cell} (src : List Host.Cell) (h : Memory.wf dst = true) :
    Memory.wf (memMerge dst src) = true := by
  induction src generalizing dst with
  | nil => exact h
  | cons c r ih => exact ih (Memory.wf_memSet _ _ h)

theorem Memory.wf_memCopyIf {dst src : List Host.Cell} (p : Nat → Bool) (h : Memory.wf dst = true) :
    Memory.wf (memCopyIf p dst src) = true := Memory.wf_memMerge _ (Memory.wf_filter _ h)

theorem Memory.wf_nil : Memory.wf [] = true := rfl

theorem memWfFrom_get {m : List Host.Cell} {lo a : Nat} (h : memWfFrom lo m = true) (ha : a < lo) : memGet m a = 0 := by
  induction m generalizing lo with
  | nil => rfl
  | cons c r ih =>
    obtain ⟨k, v⟩ := c
    simp only [memWfFrom, Bool.and_eq_true, decide_eq_true_eq] at h
    unfold memGet
    rw [if_neg (by omega)]
    exact ih h.2 (by omega)

/-- A read after a write to the same place gives the value written. -/
theorem memGet_memSet_self {m : List Host.Cell} (a : Nat) (b : Byte) (h : Memory.wf m = true) :
    memGet (memSet m a b) a = b := by
  unfold Memory.wf at h
  revert h
  generalize 0 = lo
  intro h
  induction m generalizing lo with
  | nil => unfold memSet; split <;> simp_all [memGet]
  | cons c r ih =>
    obtain ⟨k, v⟩ := c
    simp only [memWfFrom, Bool.and_eq_true, decide_eq_true_eq] at h
    unfold memSet
    split
    · split
      · rename_i h1 h2
        subst h2
        exact memWfFrom_get (lo := k) (by simp only [memWfFrom, Bool.and_eq_true, decide_eq_true_eq]; exact ⟨⟨le_refl _, h.1.2⟩, h.2⟩) h1
      · simp [memGet]
    · split
      · split
        · rename_i h1 h2 h3
          subst h2; subst h3
          exact memWfFrom_get h.2 (by omega)
        · simp [memGet]
      · rename_i h1 h2
        unfold memGet
        rw [if_neg (by omega)]
        exact ih _ h.2

/-- A write leaves every other place alone. -/
theorem memGet_memSet_other {m : List Host.Cell} {a x : Nat} (b : Byte) (hx : x ≠ a) :
    memGet (memSet m a b) x = memGet m x := by
  induction m with
  | nil => unfold memSet; split <;> simp [memGet, Ne.symm hx]
  | cons c r ih =>
    obtain ⟨k, v⟩ := c
    unfold memSet
    split
    · split <;> simp [memGet, Ne.symm hx]
    · split
      · rename_i h1 h2
        subst h2
        split <;> simp [memGet, Ne.symm hx]
      · unfold memGet
        split
        · rfl
        · exact ih

end Sys2Proof.Machine
end

