-- ==== Sys2Proof/Laws/Recorder.lean ====
section
/-! SUPPORT. What taking an event and writing a record do to the FIFO and the MRAM. -/

set_option linter.all false

namespace Sys2Proof.Machine

open Sys2Proof

theorem fifo_writeHead (r : Recorder) (i q : Nat) : (writeHead r i q).fifo = r.fifo := by unfold writeHead; split <;> rfl
theorem mram_writeHead (r : Recorder) (i q : Nat) : (writeHead r i q).mram = r.mram := by unfold writeHead; split <;> rfl

theorem acceptPlain_keeps (r : Recorder) (e : RecEntry) : (acceptPlain r e).1.mram = r.mram ∧
    (r.fifo.length ≤ 64 → (acceptPlain r e).1.fifo.length ≤ 64) := by
  unfold acceptPlain
  split
  · rename_i n _ h
    have hne : r.fifo ≠ [] := by rintro h'; rw [h'] at h; simp at h
    have hpos : 0 < r.fifo.length := List.length_pos_of_ne_nil hne
    split
    · simp; omega
    · split
      · simp [fifoPush]; omega
      · simp [fifoLose]
  · rename_i h _
    have : r.fifo = [] := by simpa using h
    split <;> simp [fifoPush, this]
  · rename_i h _
    have : r.fifo = [] := by simpa using h
    simp [fifoPush, this]

theorem fifoEvict_length {f g : List RecEntry} {c : Nat} (h : fifoEvict f = some (c, g)) : g.length + 1 = f.length := by
  unfold fifoEvict at h
  split at h
  · simp at h
  · rename_i k hk
    have hlt : k < f.reverse.length := by
      rw [List.findIdx?_eq_some_iff_getElem] at hk
      exact hk.1
    simp only [List.length_reverse] at hlt
    simp only [Option.some.injEq, Prod.mk.injEq] at h
    rw [← h.2, List.length_eraseIdx]
    split <;> omega

theorem acceptPrivileged_keeps (r : Recorder) (i : Fin 32) (e : RecEntry) : (acceptPrivileged r i e).1.mram = r.mram ∧
    (r.fifo.length ≤ 64 → (acceptPrivileged r i e).1.fifo.length ≤ 64) := by
  unfold acceptPrivileged
  split
  · dsimp only
    split
    · simp [fifoPush]; omega
    · split
      · rename_i c f hf
        have := fifoEvict_length hf
        simp [fifoPush, fifoLose]; omega
      · simp [fifoLose]
  · simp

theorem acceptEvent_keeps (r : Recorder) (e : RecEntry) : (acceptEvent r e).1.mram = r.mram ∧
    (r.fifo.length ≤ 64 → (acceptEvent r e).1.fifo.length ≤ 64) := by
  unfold acceptEvent
  split
  · exact acceptPrivileged_keeps _ _ _
  · exact acceptPlain_keeps _ _

theorem submitEvent_keeps (r : Recorder) (src m c p0 p1 p2 : Nat) : (submitEvent r src m c p0 p1 p2).1.mram = r.mram ∧
    (r.fifo.length ≤ 64 → (submitEvent r src m c p0 p1 p2).1.fifo.length ≤ 64) := by
  unfold submitEvent
  split
  · exact acceptEvent_keeps _ _
  · exact acceptEvent_keeps _ _

theorem writeSlot_wf (r : Recorder) (e : RecEntry) (h : Memory.wf r.mram = true) :
    Memory.wf (writeSlot r e).mram = true := by
  unfold writeSlot
  dsimp only
  exact Memory.wf_memWrite _ _ h

theorem writeRecord_keeps (r : Recorder) (e : RecEntry) : (Memory.wf r.mram = true → Memory.wf (writeRecord r e).mram = true) ∧
    (writeRecord r e).fifo = r.fifo := by
  unfold writeRecord
  dsimp only
  rw [mram_writeHead, fifo_writeHead]
  exact ⟨writeSlot_wf r e, by unfold writeSlot; rfl⟩

theorem rewriteHead_keeps (r : Recorder) : (Memory.wf r.mram = true → Memory.wf (rewriteHead r).mram = true) ∧
    (rewriteHead r).fifo = r.fifo := by
  unfold rewriteHead
  split
  · exact ⟨id, rfl⟩
  · dsimp only
    exact ⟨fun h => Memory.wf_memWrite _ _ h, rfl⟩

theorem fifoLost_keeps (r : Recorder) : (fifoLost r).mram = r.mram ∧ (fifoLost r).fifo.length ≤ r.fifo.length + 1 := by
  unfold fifoLost
  split
  · simp
  · simp [fifoPush]

theorem recRepair_keeps (r : Recorder) : (Memory.wf r.mram = true → Memory.wf (recRepair r).mram = true) ∧
    (recRepair r).fifo = [] := by
  have key : ∀ (c : Prop) [Decidable c] (x y : Recorder), Memory.wf x.mram = true → Memory.wf y.mram = true →
      Memory.wf (if c then x else y).mram = true := by
    intro c _ x y hx hy; split <;> assumption
  unfold recRepair
  refine ⟨fun h => ?_, rfl⟩
  dsimp only
  refine key _ _ _ ?_ ?_
  · dsimp only
    apply Memory.wf_memWrite
    refine key _ _ _ ?_ ?_
    · rw [mram_writeHead]; exact h
    · exact h
  · refine key _ _ _ ?_ ?_
    · rw [mram_writeHead]; exact h
    · exact h

end Sys2Proof.Machine
end

