-- ==== Sys2Proof/Laws/Frame.lean ====
section
/-! SUPPORT. SameBut is reflexive and transitive, and passes through branches and folds. -/

set_option linter.all false

namespace Sys2Proof.Machine

open Sys2Proof

def OutFr (P : List Part) (s : State) (o : Out) : Prop := match o with | .next t => SameBut P s t | _ => True

theorem Part.same_refl (s : State) (p : Part) : Part.same s s p := by cases p <;> first | rfl | exact fun _ => rfl | exact fun _ _ => rfl
theorem Part.same_trans {s t u : State} {p : Part} (h : Part.same s t p) (g : Part.same t u p) : Part.same s u p := by
  cases p
  case mram => exact fun a => (g a).trans (h a)
  case vmem => exact fun a => (g a).trans (h a)
  case mems => exact fun i a => (g i a).trans (h i a)
  all_goals exact Eq.trans g h

theorem SameBut.refl (P s) : SameBut P s s := ⟨rfl, fun p _ => Part.same_refl s p⟩
theorem SameBut.trans {P} {s t u : State} (h : SameBut P s t) (g : SameBut P t u) : SameBut P s u :=
  ⟨g.1.trans h.1, fun p hp => Part.same_trans (h.2 p hp) (g.2 p hp)⟩
theorem SameBut.symm {P} {s t : State} (h : SameBut P s t) : SameBut P t s := by
  refine ⟨h.1.symm, fun p hp => ?_⟩
  have g := h.2 p hp
  cases p
  case mram => exact fun a => (g a).symm
  case vmem => exact fun a => (g a).symm
  case mems => exact fun i a => (g i a).symm
  all_goals exact Eq.symm g
theorem fr_mk {P} {s t : State} {vdrawn : Nat} {vmod : ModCtl} {vpwr : Power} {vvrc : Vrc} {vrot : Rotation} {vcys : Cys} {vclk : Clk} {vtim : Tim} {vbanks : Vector Bank 3} {vchans : Vector Channel 48} {vxn : Xenex} {vrecd : Recorder} {vboot : Boot} {vkiln : Kiln} {vtwl : Twin} {vlnc : Lnc} {vcpn : Cpn} {vcfd : Cfd} {vbrg : Brg} {vbw : Vector BwMon 8} {vints : Vector IntRegs 11} {vmems : Vector (List Host.Cell) 8} {vcores : Vector Core 8} {vvmem : List Host.Cell}
    (hdrawn : vdrawn = t.drawn ∨ Part.drawn ∈ P) (hmod : vmod = t.mod ∨ Part.mod ∈ P) (hpwr : vpwr = t.pwr ∨ Part.pwr ∈ P) (hvrc : { vvrc with heldInts := [] } = { t.vrc with heldInts := [] } ∨ Part.vrc ∈ P) (hrot : vrot = t.rot ∨ Part.rot ∈ P) (hcys : vcys = t.cys ∨ Part.cys ∈ P) (hclk : vclk = t.clk ∨ Part.clk ∈ P) (htim : vtim = t.tim ∨ Part.tim ∈ P) (hbanks : vbanks = t.banks ∨ Part.banks ∈ P) (hchans : vchans = t.chans ∨ Part.chans ∈ P) (hxn : vxn = t.xn ∨ Part.xn ∈ P) (hrecd : { vrecd with mram := [] } = { t.recd with mram := [] } ∨ Part.recd ∈ P) (hboot : vboot = t.boot ∨ Part.boot ∈ P) (hkiln : vkiln = t.kiln ∨ Part.kiln ∈ P) (htwl : { vtwl with notedAt := Vector.replicate 3 none } = { t.twl with notedAt := Vector.replicate 3 none } ∨ Part.twl ∈ P) (hlnc : vlnc = t.lnc ∨ Part.lnc ∈ P) (hcpn : vcpn = t.cpn ∨ Part.cpn ∈ P) (hcfd : vcfd = t.cfd ∨ Part.cfd ∈ P) (hbrg : vbrg = t.brg ∨ Part.brg ∈ P) (hbw : vbw = t.bw ∨ Part.bw ∈ P) (hints : vints = t.ints ∨ Part.ints ∈ P) (hmems : vmems = t.mems ∨ Part.mems ∈ P) (hcores : Vector.map Core.busPart vcores = Vector.map Core.busPart t.cores ∨ Part.cores ∈ P) (hvmem : vvmem = t.vmem ∨ Part.vmem ∈ P) (hheld : vvrc.heldInts = t.vrc.heldInts ∨ Part.held ∈ P) (hnoted : vtwl.notedAt = t.twl.notedAt ∨ Part.noted ∈ P) (hlic : Vector.map Core.licPart vcores = Vector.map Core.licPart t.cores ∨ Part.lic ∈ P) (hmram : vrecd.mram = t.recd.mram ∨ Part.mram ∈ P)
    (h : SameBut P s t) : SameBut P s { pending := t.pending, drawn := vdrawn, mod := vmod, pwr := vpwr, vrc := vvrc, rot := vrot, cys := vcys, clk := vclk, tim := vtim, banks := vbanks, chans := vchans, xn := vxn, recd := vrecd, boot := vboot, kiln := vkiln, twl := vtwl, lnc := vlnc, cpn := vcpn, cfd := vcfd, brg := vbrg, bw := vbw, ints := vints, mems := vmems, cores := vcores, vmem := vvmem } := by
  refine h.trans ⟨rfl, fun p hp => ?_⟩
  cases p
  · rcases hdrawn with h | h
    · exact h
    · exact absurd h hp
  · rcases hmod with h | h
    · exact h
    · exact absurd h hp
  · rcases hpwr with h | h
    · exact h
    · exact absurd h hp
  · rcases hvrc with h | h
    · exact h
    · exact absurd h hp
  · rcases hrot with h | h
    · exact h
    · exact absurd h hp
  · rcases hcys with h | h
    · exact h
    · exact absurd h hp
  · rcases hclk with h | h
    · exact h
    · exact absurd h hp
  · rcases htim with h | h
    · exact h
    · exact absurd h hp
  · rcases hbanks with h | h
    · exact h
    · exact absurd h hp
  · rcases hchans with h | h
    · exact h
    · exact absurd h hp
  · rcases hxn with h | h
    · exact h
    · exact absurd h hp
  · rcases hrecd with h | h
    · exact h
    · exact absurd h hp
  · rcases hboot with h | h
    · exact h
    · exact absurd h hp
  · rcases hkiln with h | h
    · exact h
    · exact absurd h hp
  · rcases htwl with h | h
    · exact h
    · exact absurd h hp
  · rcases hlnc with h | h
    · exact h
    · exact absurd h hp
  · rcases hcpn with h | h
    · exact h
    · exact absurd h hp
  · rcases hcfd with h | h
    · exact h
    · exact absurd h hp
  · rcases hbrg with h | h
    · exact h
    · exact absurd h hp
  · rcases hbw with h | h
    · exact h
    · exact absurd h hp
  · rcases hints with h | h
    · exact h
    · exact absurd h hp
  · rcases hmems with h | h
    · exact (fun i a => by rw [h])
    · exact absurd h hp
  · rcases hcores with h | h
    · exact h
    · exact absurd h hp
  · rcases hvmem with h | h
    · exact (fun a => by rw [h])
    · exact absurd h hp
  · rcases hheld with h | h
    · exact h
    · exact absurd h hp
  · rcases hnoted with h | h
    · exact h
    · exact absurd h hp
  · rcases hlic with h | h
    · exact h
    · exact absurd h hp
  · rcases hmram with h | h
    · exact (fun a => by rw [h])
    · exact absurd h hp
theorem fr_mk_iff {P} {s t : State} {vdrawn : Nat} {vmod : ModCtl} {vpwr : Power} {vvrc : Vrc} {vrot : Rotation} {vcys : Cys} {vclk : Clk} {vtim : Tim} {vbanks : Vector Bank 3} {vchans : Vector Channel 48} {vxn : Xenex} {vrecd : Recorder} {vboot : Boot} {vkiln : Kiln} {vtwl : Twin} {vlnc : Lnc} {vcpn : Cpn} {vcfd : Cfd} {vbrg : Brg} {vbw : Vector BwMon 8} {vints : Vector IntRegs 11} {vmems : Vector (List Host.Cell) 8} {vcores : Vector Core 8} {vvmem : List Host.Cell}
    (hdrawn : vdrawn = t.drawn ∨ Part.drawn ∈ P) (hmod : vmod = t.mod ∨ Part.mod ∈ P) (hpwr : vpwr = t.pwr ∨ Part.pwr ∈ P) (hvrc : { vvrc with heldInts := [] } = { t.vrc with heldInts := [] } ∨ Part.vrc ∈ P) (hrot : vrot = t.rot ∨ Part.rot ∈ P) (hcys : vcys = t.cys ∨ Part.cys ∈ P) (hclk : vclk = t.clk ∨ Part.clk ∈ P) (htim : vtim = t.tim ∨ Part.tim ∈ P) (hbanks : vbanks = t.banks ∨ Part.banks ∈ P) (hchans : vchans = t.chans ∨ Part.chans ∈ P) (hxn : vxn = t.xn ∨ Part.xn ∈ P) (hrecd : { vrecd with mram := [] } = { t.recd with mram := [] } ∨ Part.recd ∈ P) (hboot : vboot = t.boot ∨ Part.boot ∈ P) (hkiln : vkiln = t.kiln ∨ Part.kiln ∈ P) (htwl : { vtwl with notedAt := Vector.replicate 3 none } = { t.twl with notedAt := Vector.replicate 3 none } ∨ Part.twl ∈ P) (hlnc : vlnc = t.lnc ∨ Part.lnc ∈ P) (hcpn : vcpn = t.cpn ∨ Part.cpn ∈ P) (hcfd : vcfd = t.cfd ∨ Part.cfd ∈ P) (hbrg : vbrg = t.brg ∨ Part.brg ∈ P) (hbw : vbw = t.bw ∨ Part.bw ∈ P) (hints : vints = t.ints ∨ Part.ints ∈ P) (hmems : vmems = t.mems ∨ Part.mems ∈ P) (hcores : Vector.map Core.busPart vcores = Vector.map Core.busPart t.cores ∨ Part.cores ∈ P) (hvmem : vvmem = t.vmem ∨ Part.vmem ∈ P) (hheld : vvrc.heldInts = t.vrc.heldInts ∨ Part.held ∈ P) (hnoted : vtwl.notedAt = t.twl.notedAt ∨ Part.noted ∈ P) (hlic : Vector.map Core.licPart vcores = Vector.map Core.licPart t.cores ∨ Part.lic ∈ P) (hmram : vrecd.mram = t.recd.mram ∨ Part.mram ∈ P)
    : SameBut P s { pending := t.pending, drawn := vdrawn, mod := vmod, pwr := vpwr, vrc := vvrc, rot := vrot, cys := vcys, clk := vclk, tim := vtim, banks := vbanks, chans := vchans, xn := vxn, recd := vrecd, boot := vboot, kiln := vkiln, twl := vtwl, lnc := vlnc, cpn := vcpn, cfd := vcfd, brg := vbrg, bw := vbw, ints := vints, mems := vmems, cores := vcores, vmem := vvmem } ↔ SameBut P s t := by
  have k : SameBut P t { pending := t.pending, drawn := vdrawn, mod := vmod, pwr := vpwr, vrc := vvrc, rot := vrot, cys := vcys, clk := vclk, tim := vtim, banks := vbanks, chans := vchans, xn := vxn, recd := vrecd, boot := vboot, kiln := vkiln, twl := vtwl, lnc := vlnc, cpn := vcpn, cfd := vcfd, brg := vbrg, bw := vbw, ints := vints, mems := vmems, cores := vcores, vmem := vvmem } := fr_mk hdrawn hmod hpwr hvrc hrot hcys hclk htim hbanks hchans hxn hrecd hboot hkiln htwl hlnc hcpn hcfd hbrg hbw hints hmems hcores hvmem hheld hnoted hlic hmram (SameBut.refl P t)
  exact ⟨fun h => h.trans k.symm, fun h => h.trans k⟩
theorem fr_ite {P} {s a b : State} {c : Prop} [Decidable c] (h : SameBut P s a) (g : SameBut P s b) : SameBut P s (if c then a else b) := by
  split <;> assumption
theorem fr_ite2 {α} {P} {s : State} {a b : α × State} {c : Prop} [Decidable c] (h : SameBut P s a.2) (g : SameBut P s b.2) : SameBut P s (if c then a else b).2 := by
  split <;> assumption
theorem fr_foldl {α} {P} {s : State} {f : State → α → State} {l : List α} {a : State} (h : SameBut P s a)
    (hf : ∀ t x, SameBut P s t → SameBut P s (f t x)) : SameBut P s (l.foldl f a) := by
  induction l generalizing a with
  | nil => exact h
  | cons x l ih => exact ih (hf _ _ h)
theorem outFr_next {P} {s t : State} : OutFr P s (.next t) ↔ SameBut P s t := Iff.rfl
theorem outFr_ite {P} {s : State} {a b : Out} {c : Prop} [Decidable c] (h : OutFr P s a) (g : OutFr P s b) : OutFr P s (if c then a else b) := by
  split <;> assumption

end Sys2Proof.Machine
end

