-- ==== Sys2Proof/Laws/Frames1.lean ====
section
/-! SUPPORT. For every operation and every meaning: only the named parts differ after it. -/

set_option linter.all false

namespace Sys2Proof.Machine

open Sys2Proof

theorem drawWord_frame {P : List Part} {t₀ : State} (s : State) (mdrawn : Part.drawn ∈ P) (h₀ : SameBut P t₀ s) :
    SameBut P t₀ (drawWord s).2 := by
  unfold drawWord
  repeat' first
    | with_reducible assumption
    | (rename_i hq; have hq2 := congrArg Prod.snd hq; with_reducible dsimp only at hq2; subst hq2)
    | simp only [↓fr_mk_iff, true_or, or_true, mdrawn]
    | with_reducible refine fr_ite ?_ ?_
    | with_reducible refine outFr_ite ?_ ?_
    | with_reducible refine outFr_next.2 ?_
    | with_reducible refine fr_ite2 ?_ ?_
    | with_reducible refine fr_foldl ?_ (fun _ _ _ => ?_)
    | split
    | dsimp only

theorem drawBool_frame {P : List Part} {t₀ : State} (s : State) (mdrawn : Part.drawn ∈ P) (h₀ : SameBut P t₀ s) :
    SameBut P t₀ (drawBool s).2 := by
  unfold drawBool
  repeat' first
    | with_reducible assumption
    | (rename_i hq; have hq2 := congrArg Prod.snd hq; with_reducible dsimp only at hq2; subst hq2)
    | simp only [↓fr_mk_iff, true_or, or_true, mdrawn]
    | with_reducible refine fr_ite ?_ ?_
    | with_reducible refine outFr_ite ?_ ?_
    | with_reducible refine outFr_next.2 ?_
    | with_reducible refine fr_ite2 ?_ ?_
    | with_reducible refine fr_foldl ?_ (fun _ _ _ => ?_)
    | split
    | dsimp only

theorem drawOctets_frame {P : List Part} {t₀ : State} (n : Nat) (s : State) (mdrawn : Part.drawn ∈ P) (h₀ : SameBut P t₀ s) :
    SameBut P t₀ (drawOctets n s).2 := by
  unfold drawOctets
  repeat' first
    | with_reducible assumption
    | (rename_i hq; have hq2 := congrArg Prod.snd hq; with_reducible dsimp only at hq2; subst hq2)
    | simp only [↓fr_mk_iff, true_or, or_true, mdrawn]
    | with_reducible refine fr_ite ?_ ?_
    | with_reducible refine outFr_ite ?_ ?_
    | with_reducible refine outFr_next.2 ?_
    | with_reducible refine fr_ite2 ?_ ?_
    | with_reducible refine fr_foldl ?_ (fun _ _ _ => ?_)
    | split
    | dsimp only

theorem bwCount_frame {P : List Part} {t₀ : State} (port : Fin 8) (n : Nat) (s : State) (mbw : Part.bw ∈ P) (h₀ : SameBut P t₀ s) :
    SameBut P t₀ (bwCount port n s) := by
  unfold bwCount
  repeat' first
    | with_reducible assumption
    | (rename_i hq; have hq2 := congrArg Prod.snd hq; with_reducible dsimp only at hq2; subst hq2)
    | simp only [↓fr_mk_iff, true_or, or_true, mbw]
    | with_reducible refine fr_ite ?_ ?_
    | with_reducible refine outFr_ite ?_ ?_
    | with_reducible refine outFr_next.2 ?_
    | with_reducible refine fr_ite2 ?_ ?_
    | with_reducible refine fr_foldl ?_ (fun _ _ _ => ?_)
    | split
    | dsimp only

theorem bwTarget_frame {P : List Part} {t₀ : State} (a n : Nat) (s : State) (mbw : Part.bw ∈ P) (h₀ : SameBut P t₀ s) :
    SameBut P t₀ (bwTarget a n s) := by
  unfold bwTarget
  repeat' first
    | with_reducible assumption
    | (rename_i hq; have hq2 := congrArg Prod.snd hq; with_reducible dsimp only at hq2; subst hq2)
    | simp only [↓fr_mk_iff, true_or, or_true, mbw]
    | with_reducible refine fr_ite ?_ ?_
    | with_reducible refine outFr_ite ?_ ?_
    | with_reducible refine outFr_next.2 ?_
    | with_reducible refine fr_ite2 ?_ ?_
    | with_reducible refine fr_foldl ?_ (fun _ _ _ => ?_)
    | with_reducible refine bwCount_frame _ _ _ mbw ?_
    | split
    | dsimp only

theorem bwCopy_frame {P : List Part} {t₀ : State} (src dst n : Nat) (s : State) (mbw : Part.bw ∈ P) (h₀ : SameBut P t₀ s) :
    SameBut P t₀ (bwCopy src dst n s) := by
  unfold bwCopy
  repeat' first
    | with_reducible assumption
    | (rename_i hq; have hq2 := congrArg Prod.snd hq; with_reducible dsimp only at hq2; subst hq2)
    | simp only [↓fr_mk_iff, true_or, or_true, mbw]
    | with_reducible refine fr_ite ?_ ?_
    | with_reducible refine outFr_ite ?_ ?_
    | with_reducible refine outFr_next.2 ?_
    | with_reducible refine fr_ite2 ?_ ?_
    | with_reducible refine fr_foldl ?_ (fun _ _ _ => ?_)
    | with_reducible refine bwTarget_frame _ _ _ mbw ?_ | with_reducible refine bwCount_frame _ _ _ mbw ?_
    | split
    | dsimp only

theorem record_frame {P : List Part} {t₀ : State} (src code p0 p1 p2 : Nat) (s : State) (mrecd : Part.recd ∈ P) (mnoted : Part.noted ∈ P) (h₀ : SameBut P t₀ s) :
    SameBut P t₀ (record src code p0 p1 p2 s) := by
  have k := (submitEvent_keeps s.recd src 10 code p0 p1 p2).1
  unfold record
  dsimp only
  split <;> simp only [↓fr_mk_iff, true_or, or_true, mrecd, mnoted, k] <;> exact h₀

theorem assertSrc_busPart (c : Core) (n : Nat) : (c.assertSrc n).busPart = c.busPart := by
  unfold Core.assertSrc Core.wake
  split <;> rfl

theorem vmod_map_busPart (f : Core → Core) (hf : ∀ c, (f c).busPart = c.busPart) (v : Vector Core 8) (k : Fin 8) :
    (vmod v k f).map Core.busPart = v.map Core.busPart := by
  unfold vmod
  ext1 j hj
  simp only [Vector.getElem_map, Vector.getElem_set]
  split
  · subst_vars; exact hf _
  · rfl

theorem foldl_map_busPart (f : Core → Core) (hf : ∀ c, (f c).busPart = c.busPart) (l : List (Fin 8)) (v : Vector Core 8) :
    (l.foldl (fun v k => vmod v k f) v).map Core.busPart = v.map Core.busPart := by
  induction l generalizing v with
  | nil => rfl
  | cons k l ih => rw [List.foldl_cons, ih, vmod_map_busPart f hf]

theorem deliver_frame {P : List Part} {t₀ : State} (n : Nat) (s : State) (mheld : Part.held ∈ P) (mlic : Part.lic ∈ P) (h₀ : SameBut P t₀ s) :
    SameBut P t₀ (deliver n s) := by
  unfold deliver
  split
  · simp only [↓fr_mk_iff, true_or, or_true, mheld]; exact h₀
  · have k := foldl_map_busPart (fun c => c.assertSrc n) (fun c => assertSrc_busPart c n) (intCores s) s.cores
    simp only [↓fr_mk_iff, true_or, or_true, mlic, k]; exact h₀

theorem raise_frame {P : List Part} {t₀ : State} (n : Nat) (s : State) (mints : Part.ints ∈ P) (mheld : Part.held ∈ P) (mlic : Part.lic ∈ P) (h₀ : SameBut P t₀ s) :
    SameBut P t₀ (raise n s) := by
  unfold raise
  repeat' first
    | with_reducible assumption
    | (rename_i hq; have hq2 := congrArg Prod.snd hq; with_reducible dsimp only at hq2; subst hq2)
    | simp only [↓fr_mk_iff, true_or, or_true, mints, mheld, mlic]
    | with_reducible refine fr_ite ?_ ?_
    | with_reducible refine outFr_ite ?_ ?_
    | with_reducible refine outFr_next.2 ?_
    | with_reducible refine fr_ite2 ?_ ?_
    | with_reducible refine fr_foldl ?_ (fun _ _ _ => ?_)
    | with_reducible refine deliver_frame _ _ mheld mlic ?_
    | split
    | dsimp only

theorem setRate_frame {P : List Part} {t₀ : State} (r : Int) (s : State) (mtim : Part.tim ∈ P) (mrecd : Part.recd ∈ P) (mnoted : Part.noted ∈ P) (h₀ : SameBut P t₀ s) :
    SameBut P t₀ (setRate r s) := by
  unfold setRate
  repeat' first
    | with_reducible assumption
    | (rename_i hq; have hq2 := congrArg Prod.snd hq; with_reducible dsimp only at hq2; subst hq2)
    | simp only [↓fr_mk_iff, true_or, or_true, mtim, mrecd, mnoted]
    | with_reducible refine fr_ite ?_ ?_
    | with_reducible refine outFr_ite ?_ ?_
    | with_reducible refine outFr_next.2 ?_
    | with_reducible refine fr_ite2 ?_ ?_
    | with_reducible refine fr_foldl ?_ (fun _ _ _ => ?_)
    | with_reducible refine record_frame _ _ _ _ _ _ mrecd mnoted ?_
    | split
    | dsimp only

theorem uncertEdge_frame {P : List Part} {t₀ : State} (was : Bool) (cause eb : Nat) (s : State) (mtim : Part.tim ∈ P) (mrecd : Part.recd ∈ P) (mints : Part.ints ∈ P) (mheld : Part.held ∈ P) (mnoted : Part.noted ∈ P) (mlic : Part.lic ∈ P) (h₀ : SameBut P t₀ s) :
    SameBut P t₀ (uncertEdge was cause eb s) := by
  unfold uncertEdge
  repeat' first
    | with_reducible assumption
    | (rename_i hq; have hq2 := congrArg Prod.snd hq; with_reducible dsimp only at hq2; subst hq2)
    | simp only [↓fr_mk_iff, true_or, or_true, mtim, mrecd, mints, mheld, mnoted, mlic]
    | with_reducible refine fr_ite ?_ ?_
    | with_reducible refine outFr_ite ?_ ?_
    | with_reducible refine outFr_next.2 ?_
    | with_reducible refine fr_ite2 ?_ ?_
    | with_reducible refine fr_foldl ?_ (fun _ _ _ => ?_)
    | with_reducible refine record_frame _ _ _ _ _ _ mrecd mnoted ?_ | with_reducible refine raise_frame _ _ mints mheld mlic ?_
    | split
    | dsimp only

theorem setChan_frame {P : List Part} {t₀ : State} (ch : Fin 48) (f : Channel → Channel) (s : State) (mchans : Part.chans ∈ P) (h₀ : SameBut P t₀ s) :
    SameBut P t₀ (setChan ch f s) := by
  unfold setChan
  repeat' first
    | with_reducible assumption
    | (rename_i hq; have hq2 := congrArg Prod.snd hq; with_reducible dsimp only at hq2; subst hq2)
    | simp only [↓fr_mk_iff, true_or, or_true, mchans]
    | with_reducible refine fr_ite ?_ ?_
    | with_reducible refine outFr_ite ?_ ?_
    | with_reducible refine outFr_next.2 ?_
    | with_reducible refine fr_ite2 ?_ ?_
    | with_reducible refine fr_foldl ?_ (fun _ _ _ => ?_)
    | split
    | dsimp only

theorem setBank_frame {P : List Part} {t₀ : State} (b : Fin 3) (f : Bank → Bank) (s : State) (mbanks : Part.banks ∈ P) (h₀ : SameBut P t₀ s) :
    SameBut P t₀ (setBank b f s) := by
  unfold setBank
  repeat' first
    | with_reducible assumption
    | (rename_i hq; have hq2 := congrArg Prod.snd hq; with_reducible dsimp only at hq2; subst hq2)
    | simp only [↓fr_mk_iff, true_or, or_true, mbanks]
    | with_reducible refine fr_ite ?_ ?_
    | with_reducible refine outFr_ite ?_ ?_
    | with_reducible refine outFr_next.2 ?_
    | with_reducible refine fr_ite2 ?_ ?_
    | with_reducible refine fr_foldl ?_ (fun _ _ _ => ?_)
    | split
    | dsimp only

theorem setCmd_frame {P : List Part} {t₀ : State} (ch : Fin 48) (v : Bool) (s : State) (mchans : Part.chans ∈ P) (h₀ : SameBut P t₀ s) :
    SameBut P t₀ (setCmd ch v s) := by
  unfold setCmd
  repeat' first
    | with_reducible assumption
    | (rename_i hq; have hq2 := congrArg Prod.snd hq; with_reducible dsimp only at hq2; subst hq2)
    | simp only [↓fr_mk_iff, true_or, or_true, mchans]
    | with_reducible refine fr_ite ?_ ?_
    | with_reducible refine outFr_ite ?_ ?_
    | with_reducible refine outFr_next.2 ?_
    | with_reducible refine fr_ite2 ?_ ?_
    | with_reducible refine fr_foldl ?_ (fun _ _ _ => ?_)
    | with_reducible refine setChan_frame _ _ _ mchans ?_
    | split
    | dsimp only

theorem flushQueue_frame {P : List Part} {t₀ : State} (ch : Fin 48) (cause : Nat) (s : State) (mchans : Part.chans ∈ P) (mrecd : Part.recd ∈ P) (mints : Part.ints ∈ P) (mheld : Part.held ∈ P) (mnoted : Part.noted ∈ P) (mlic : Part.lic ∈ P) (h₀ : SameBut P t₀ s) :
    SameBut P t₀ (flushQueue ch cause s) := by
  unfold flushQueue
  repeat' first
    | with_reducible assumption
    | (rename_i hq; have hq2 := congrArg Prod.snd hq; with_reducible dsimp only at hq2; subst hq2)
    | simp only [↓fr_mk_iff, true_or, or_true, mchans, mrecd, mints, mheld, mnoted, mlic]
    | with_reducible refine fr_ite ?_ ?_
    | with_reducible refine outFr_ite ?_ ?_
    | with_reducible refine outFr_next.2 ?_
    | with_reducible refine fr_ite2 ?_ ?_
    | with_reducible refine fr_foldl ?_ (fun _ _ _ => ?_)
    | with_reducible refine raise_frame _ _ mints mheld mlic ?_ | with_reducible refine record_frame _ _ _ _ _ _ mrecd mnoted ?_ | with_reducible refine setChan_frame _ _ _ mchans ?_
    | split
    | dsimp only

theorem applySafe_frame {P : List Part} {t₀ : State} (ch : Fin 48) (reason : Nat) (next : ChanState) (s : State) (mchans : Part.chans ∈ P) (mrecd : Part.recd ∈ P) (mints : Part.ints ∈ P) (mheld : Part.held ∈ P) (mnoted : Part.noted ∈ P) (mlic : Part.lic ∈ P) (h₀ : SameBut P t₀ s) :
    SameBut P t₀ (applySafe ch reason next s) := by
  unfold applySafe
  repeat' first
    | with_reducible assumption
    | (rename_i hq; have hq2 := congrArg Prod.snd hq; with_reducible dsimp only at hq2; subst hq2)
    | simp only [↓fr_mk_iff, true_or, or_true, mchans, mrecd, mints, mheld, mnoted, mlic]
    | with_reducible refine fr_ite ?_ ?_
    | with_reducible refine outFr_ite ?_ ?_
    | with_reducible refine outFr_next.2 ?_
    | with_reducible refine fr_ite2 ?_ ?_
    | with_reducible refine fr_foldl ?_ (fun _ _ _ => ?_)
    | with_reducible refine setCmd_frame _ _ _ mchans ?_ | with_reducible refine setChan_frame _ _ _ mchans ?_ | with_reducible refine flushQueue_frame _ _ _ mchans mrecd mints mheld mnoted mlic ?_
    | split
    | dsimp only

theorem banksSafeOwned_frame {P : List Part} {t₀ : State} (own : BitVec 48) (reason : Nat) (s : State) (mchans : Part.chans ∈ P) (mrecd : Part.recd ∈ P) (mints : Part.ints ∈ P) (mheld : Part.held ∈ P) (mnoted : Part.noted ∈ P) (mlic : Part.lic ∈ P) (h₀ : SameBut P t₀ s) :
    SameBut P t₀ (banksSafeOwned own reason s) := by
  unfold banksSafeOwned
  repeat' first
    | with_reducible assumption
    | (rename_i hq; have hq2 := congrArg Prod.snd hq; with_reducible dsimp only at hq2; subst hq2)
    | simp only [↓fr_mk_iff, true_or, or_true, mchans, mrecd, mints, mheld, mnoted, mlic]
    | with_reducible refine fr_ite ?_ ?_
    | with_reducible refine outFr_ite ?_ ?_
    | with_reducible refine outFr_next.2 ?_
    | with_reducible refine fr_ite2 ?_ ?_
    | with_reducible refine fr_foldl ?_ (fun _ _ _ => ?_)
    | with_reducible refine applySafe_frame _ _ _ _ mchans mrecd mints mheld mnoted mlic ?_
    | split
    | dsimp only

theorem banksSafe_frame {P : List Part} {t₀ : State} (reason : Nat) (s : State) (mchans : Part.chans ∈ P) (mrecd : Part.recd ∈ P) (mints : Part.ints ∈ P) (mheld : Part.held ∈ P) (mnoted : Part.noted ∈ P) (mlic : Part.lic ∈ P) (h₀ : SameBut P t₀ s) :
    SameBut P t₀ (banksSafe reason s) := by
  unfold banksSafe
  repeat' first
    | with_reducible assumption
    | (rename_i hq; have hq2 := congrArg Prod.snd hq; with_reducible dsimp only at hq2; subst hq2)
    | simp only [↓fr_mk_iff, true_or, or_true, mchans, mrecd, mints, mheld, mnoted, mlic]
    | with_reducible refine fr_ite ?_ ?_
    | with_reducible refine outFr_ite ?_ ?_
    | with_reducible refine outFr_next.2 ?_
    | with_reducible refine fr_ite2 ?_ ?_
    | with_reducible refine fr_foldl ?_ (fun _ _ _ => ?_)
    | with_reducible refine banksSafeOwned_frame _ _ _ mchans mrecd mints mheld mnoted mlic ?_
    | split
    | dsimp only

theorem refresh_frame {P : List Part} {t₀ : State} (ch : Fin 48) (v : Bool) (s : State) (mchans : Part.chans ∈ P) (mrecd : Part.recd ∈ P) (mnoted : Part.noted ∈ P) (h₀ : SameBut P t₀ s) :
    SameBut P t₀ (refresh ch v s) := by
  unfold refresh
  repeat' first
    | with_reducible assumption
    | (rename_i hq; have hq2 := congrArg Prod.snd hq; with_reducible dsimp only at hq2; subst hq2)
    | simp only [↓fr_mk_iff, true_or, or_true, mchans, mrecd, mnoted]
    | with_reducible refine fr_ite ?_ ?_
    | with_reducible refine outFr_ite ?_ ?_
    | with_reducible refine outFr_next.2 ?_
    | with_reducible refine fr_ite2 ?_ ?_
    | with_reducible refine fr_foldl ?_ (fun _ _ _ => ?_)
    | with_reducible refine record_frame _ _ _ _ _ _ mrecd mnoted ?_ | with_reducible refine setChan_frame _ _ _ mchans ?_ | with_reducible refine setCmd_frame _ _ _ mchans ?_
    | split
    | dsimp only

theorem bankCommit_frame {P : List Part} {t₀ : State} (own bits : BitVec 48) (s : State) (mchans : Part.chans ∈ P) (mrecd : Part.recd ∈ P) (mnoted : Part.noted ∈ P) (h₀ : SameBut P t₀ s) :
    SameBut P t₀ (bankCommit own bits s) := by
  unfold bankCommit
  repeat' first
    | with_reducible assumption
    | (rename_i hq; have hq2 := congrArg Prod.snd hq; with_reducible dsimp only at hq2; subst hq2)
    | simp only [↓fr_mk_iff, true_or, or_true, mchans, mrecd, mnoted]
    | with_reducible refine fr_ite ?_ ?_
    | with_reducible refine outFr_ite ?_ ?_
    | with_reducible refine outFr_next.2 ?_
    | with_reducible refine fr_ite2 ?_ ?_
    | with_reducible refine fr_foldl ?_ (fun _ _ _ => ?_)
    | with_reducible refine refresh_frame _ _ _ mchans mrecd mnoted ?_
    | split
    | dsimp only

theorem outWrite_frame {P : List Part} {t₀ : State} (b : Fin 3) (core : Option (Fin 8)) (bits : BitVec 16) (s : State) (mvrc : Part.vrc ∈ P) (mchans : Part.chans ∈ P) (mrecd : Part.recd ∈ P) (mints : Part.ints ∈ P) (mheld : Part.held ∈ P) (mnoted : Part.noted ∈ P) (mlic : Part.lic ∈ P) (h₀ : SameBut P t₀ s) :
    SameBut P t₀ (outWrite b core bits s) := by
  unfold outWrite
  repeat' first
    | with_reducible assumption
    | (rename_i hq; have hq2 := congrArg Prod.snd hq; with_reducible dsimp only at hq2; subst hq2)
    | simp only [↓fr_mk_iff, true_or, or_true, mvrc, mchans, mrecd, mints, mheld, mnoted, mlic]
    | with_reducible refine fr_ite ?_ ?_
    | with_reducible refine outFr_ite ?_ ?_
    | with_reducible refine outFr_next.2 ?_
    | with_reducible refine fr_ite2 ?_ ?_
    | with_reducible refine fr_foldl ?_ (fun _ _ _ => ?_)
    | with_reducible refine refresh_frame _ _ _ mchans mrecd mnoted ?_ | with_reducible refine raise_frame _ _ mints mheld mlic ?_ | with_reducible refine record_frame _ _ _ _ _ _ mrecd mnoted ?_
    | split
    | dsimp only

theorem chanFault_frame {P : List Part} {t₀ : State} (ch : Fin 48) (cause p2 : Nat) (s : State) (mchans : Part.chans ∈ P) (mrecd : Part.recd ∈ P) (mints : Part.ints ∈ P) (mheld : Part.held ∈ P) (mnoted : Part.noted ∈ P) (mlic : Part.lic ∈ P) (h₀ : SameBut P t₀ s) :
    SameBut P t₀ (chanFault ch cause p2 s) := by
  unfold chanFault
  repeat' first
    | with_reducible assumption
    | (rename_i hq; have hq2 := congrArg Prod.snd hq; with_reducible dsimp only at hq2; subst hq2)
    | simp only [↓fr_mk_iff, true_or, or_true, mchans, mrecd, mints, mheld, mnoted, mlic]
    | with_reducible refine fr_ite ?_ ?_
    | with_reducible refine outFr_ite ?_ ?_
    | with_reducible refine outFr_next.2 ?_
    | with_reducible refine fr_ite2 ?_ ?_
    | with_reducible refine fr_foldl ?_ (fun _ _ _ => ?_)
    | with_reducible refine applySafe_frame _ _ _ _ mchans mrecd mints mheld mnoted mlic ?_ | with_reducible refine setChan_frame _ _ _ mchans ?_ | with_reducible refine raise_frame _ _ mints mheld mlic ?_ | with_reducible refine record_frame _ _ _ _ _ _ mrecd mnoted ?_
    | split
    | dsimp only

theorem chanTrip_frame {P : List Part} {t₀ : State} (ch : Fin 48) (cause : Nat) (s : State) (mchans : Part.chans ∈ P) (mrecd : Part.recd ∈ P) (mints : Part.ints ∈ P) (mheld : Part.held ∈ P) (mnoted : Part.noted ∈ P) (mlic : Part.lic ∈ P) (h₀ : SameBut P t₀ s) :
    SameBut P t₀ (chanTrip ch cause s) := by
  unfold chanTrip
  repeat' first
    | with_reducible assumption
    | (rename_i hq; have hq2 := congrArg Prod.snd hq; with_reducible dsimp only at hq2; subst hq2)
    | simp only [↓fr_mk_iff, true_or, or_true, mchans, mrecd, mints, mheld, mnoted, mlic]
    | with_reducible refine fr_ite ?_ ?_
    | with_reducible refine outFr_ite ?_ ?_
    | with_reducible refine outFr_next.2 ?_
    | with_reducible refine fr_ite2 ?_ ?_
    | with_reducible refine fr_foldl ?_ (fun _ _ _ => ?_)
    | with_reducible refine setChan_frame _ _ _ mchans ?_ | with_reducible refine flushQueue_frame _ _ _ mchans mrecd mints mheld mnoted mlic ?_
    | split
    | dsimp only

theorem faultClear_frame {P : List Part} {t₀ : State} (ch : Fin 48) (s : State) (mchans : Part.chans ∈ P) (mrecd : Part.recd ∈ P) (mints : Part.ints ∈ P) (mheld : Part.held ∈ P) (mnoted : Part.noted ∈ P) (mlic : Part.lic ∈ P) (h₀ : SameBut P t₀ s) :
    SameBut P t₀ (faultClear ch s) := by
  unfold faultClear
  repeat' first
    | with_reducible assumption
    | (rename_i hq; have hq2 := congrArg Prod.snd hq; with_reducible dsimp only at hq2; subst hq2)
    | simp only [↓fr_mk_iff, true_or, or_true, mchans, mrecd, mints, mheld, mnoted, mlic]
    | with_reducible refine fr_ite ?_ ?_
    | with_reducible refine outFr_ite ?_ ?_
    | with_reducible refine outFr_next.2 ?_
    | with_reducible refine fr_ite2 ?_ ?_
    | with_reducible refine fr_foldl ?_ (fun _ _ _ => ?_)
    | with_reducible refine setChan_frame _ _ _ mchans ?_ | with_reducible refine applySafe_frame _ _ _ _ mchans mrecd mints mheld mnoted mlic ?_
    | split
    | dsimp only

theorem fltclrWrite_frame {P : List Part} {t₀ : State} (b : Fin 3) (bits : BitVec 16) (s : State) (mchans : Part.chans ∈ P) (mrecd : Part.recd ∈ P) (mints : Part.ints ∈ P) (mheld : Part.held ∈ P) (mnoted : Part.noted ∈ P) (mlic : Part.lic ∈ P) (h₀ : SameBut P t₀ s) :
    SameBut P t₀ (fltclrWrite b bits s) := by
  unfold fltclrWrite
  repeat' first
    | with_reducible assumption
    | (rename_i hq; have hq2 := congrArg Prod.snd hq; with_reducible dsimp only at hq2; subst hq2)
    | simp only [↓fr_mk_iff, true_or, or_true, mchans, mrecd, mints, mheld, mnoted, mlic]
    | with_reducible refine fr_ite ?_ ?_
    | with_reducible refine outFr_ite ?_ ?_
    | with_reducible refine outFr_next.2 ?_
    | with_reducible refine fr_ite2 ?_ ?_
    | with_reducible refine fr_foldl ?_ (fun _ _ _ => ?_)
    | with_reducible refine faultClear_frame _ _ mchans mrecd mints mheld mnoted mlic ?_
    | split
    | dsimp only

theorem launch_frame {P : List Part} {t₀ : State} (ch : Fin 48) (st late step : Bool) (s : State) (mrot : Part.rot ∈ P) (mcys : Part.cys ∈ P) (mclk : Part.clk ∈ P) (mtim : Part.tim ∈ P) (mbanks : Part.banks ∈ P) (mchans : Part.chans ∈ P) (mrecd : Part.recd ∈ P) (mtwl : Part.twl ∈ P) (mlnc : Part.lnc ∈ P) (mbw : Part.bw ∈ P) (mmems : Part.mems ∈ P) (mcores : Part.cores ∈ P) (mlic : Part.lic ∈ P) (h₀ : SameBut P t₀ s) :
    SameBut P t₀ (launch ch st late step s).2 := by
  unfold launch
  repeat' first
    | with_reducible assumption
    | (rename_i hq; have hq2 := congrArg Prod.snd hq; with_reducible dsimp only at hq2; subst hq2)
    | simp only [↓fr_mk_iff, true_or, or_true, mrot, mcys, mclk, mtim, mbanks, mchans, mrecd, mtwl, mlnc, mbw, mmems, mcores, mlic]
    | with_reducible refine fr_ite ?_ ?_
    | with_reducible refine outFr_ite ?_ ?_
    | with_reducible refine outFr_next.2 ?_
    | with_reducible refine fr_ite2 ?_ ?_
    | with_reducible refine fr_foldl ?_ (fun _ _ _ => ?_)
    | with_reducible refine step_frame _ mrot mcys mclk mtim mrecd mtwl mlnc mbw mmems mcores mlic ?_ | with_reducible refine setChan_frame _ _ _ mchans ?_ | with_reducible refine setCmd_frame _ _ _ mchans ?_ | with_reducible refine setBank_frame _ _ _ mbanks ?_
    | split
    | dsimp only

theorem launchLate_frame {P : List Part} {t₀ : State} (ch : Fin 48) (st step : Bool) (lateNs : Int) (s : State) (mrot : Part.rot ∈ P) (mcys : Part.cys ∈ P) (mclk : Part.clk ∈ P) (mtim : Part.tim ∈ P) (mbanks : Part.banks ∈ P) (mchans : Part.chans ∈ P) (mrecd : Part.recd ∈ P) (mtwl : Part.twl ∈ P) (mlnc : Part.lnc ∈ P) (mbw : Part.bw ∈ P) (mints : Part.ints ∈ P) (mmems : Part.mems ∈ P) (mcores : Part.cores ∈ P) (mheld : Part.held ∈ P) (mnoted : Part.noted ∈ P) (mlic : Part.lic ∈ P) (h₀ : SameBut P t₀ s) :
    SameBut P t₀ (launchLate ch st step lateNs s) := by
  unfold launchLate
  repeat' first
    | with_reducible assumption
    | (rename_i hq; have hq2 := congrArg Prod.snd hq; with_reducible dsimp only at hq2; subst hq2)
    | simp only [↓fr_mk_iff, true_or, or_true, mrot, mcys, mclk, mtim, mbanks, mchans, mrecd, mtwl, mlnc, mbw, mints, mmems, mcores, mheld, mnoted, mlic]
    | with_reducible refine fr_ite ?_ ?_
    | with_reducible refine outFr_ite ?_ ?_
    | with_reducible refine outFr_next.2 ?_
    | with_reducible refine fr_ite2 ?_ ?_
    | with_reducible refine fr_foldl ?_ (fun _ _ _ => ?_)
    | with_reducible refine launch_frame _ _ _ _ _ mrot mcys mclk mtim mbanks mchans mrecd mtwl mlnc mbw mmems mcores mlic ?_ | with_reducible refine step_frame _ mrot mcys mclk mtim mrecd mtwl mlnc mbw mmems mcores mlic ?_ | with_reducible refine raise_frame _ _ mints mheld mlic ?_ | with_reducible refine record_frame _ _ _ _ _ _ mrecd mnoted ?_ | with_reducible refine setBank_frame _ _ _ mbanks ?_
    | split
    | dsimp only

theorem glazeRefuse_frame {P : List Part} {t₀ : State} (ch : Fin 48) (code p1 p2 : Nat) (s : State) (mbanks : Part.banks ∈ P) (mrecd : Part.recd ∈ P) (mints : Part.ints ∈ P) (mheld : Part.held ∈ P) (mnoted : Part.noted ∈ P) (mlic : Part.lic ∈ P) (h₀ : SameBut P t₀ s) :
    SameBut P t₀ (glazeRefuse ch code p1 p2 s) := by
  unfold glazeRefuse
  repeat' first
    | with_reducible assumption
    | (rename_i hq; have hq2 := congrArg Prod.snd hq; with_reducible dsimp only at hq2; subst hq2)
    | simp only [↓fr_mk_iff, true_or, or_true, mbanks, mrecd, mints, mheld, mnoted, mlic]
    | with_reducible refine fr_ite ?_ ?_
    | with_reducible refine outFr_ite ?_ ?_
    | with_reducible refine outFr_next.2 ?_
    | with_reducible refine fr_ite2 ?_ ?_
    | with_reducible refine fr_foldl ?_ (fun _ _ _ => ?_)
    | with_reducible refine raise_frame _ _ mints mheld mlic ?_ | with_reducible refine record_frame _ _ _ _ _ _ mrecd mnoted ?_ | with_reducible refine setBank_frame _ _ _ mbanks ?_
    | split
    | dsimp only

theorem glazePost_frame {P : List Part} {t₀ : State} (ch : Fin 48) (st : Bool) (ns : Int) (s : State) (mrot : Part.rot ∈ P) (mcys : Part.cys ∈ P) (mclk : Part.clk ∈ P) (mtim : Part.tim ∈ P) (mbanks : Part.banks ∈ P) (mchans : Part.chans ∈ P) (mrecd : Part.recd ∈ P) (mtwl : Part.twl ∈ P) (mlnc : Part.lnc ∈ P) (mbw : Part.bw ∈ P) (mints : Part.ints ∈ P) (mmems : Part.mems ∈ P) (mcores : Part.cores ∈ P) (mheld : Part.held ∈ P) (mnoted : Part.noted ∈ P) (mlic : Part.lic ∈ P) (h₀ : SameBut P t₀ s) :
    SameBut P t₀ (glazePost ch st ns s) := by
  unfold glazePost
  repeat' first
    | with_reducible assumption
    | (rename_i hq; have hq2 := congrArg Prod.snd hq; with_reducible dsimp only at hq2; subst hq2)
    | simp only [↓fr_mk_iff, true_or, or_true, mrot, mcys, mclk, mtim, mbanks, mchans, mrecd, mtwl, mlnc, mbw, mints, mmems, mcores, mheld, mnoted, mlic]
    | with_reducible refine fr_ite ?_ ?_
    | with_reducible refine outFr_ite ?_ ?_
    | with_reducible refine outFr_next.2 ?_
    | with_reducible refine fr_ite2 ?_ ?_
    | with_reducible refine fr_foldl ?_ (fun _ _ _ => ?_)
    | with_reducible refine glazeRefuse_frame _ _ _ _ _ mbanks mrecd mints mheld mnoted mlic ?_ | with_reducible refine launchLate_frame _ _ _ _ _ mrot mcys mclk mtim mbanks mchans mrecd mtwl mlnc mbw mints mmems mcores mheld mnoted mlic ?_ | with_reducible refine record_frame _ _ _ _ _ _ mrecd mnoted ?_ | with_reducible refine setChan_frame _ _ _ mchans ?_
    | split
    | dsimp only

theorem stepForward_frame {P : List Part} {t₀ : State} (ch : Fin 48) (now : Int) (s : State) (mrot : Part.rot ∈ P) (mcys : Part.cys ∈ P) (mclk : Part.clk ∈ P) (mtim : Part.tim ∈ P) (mbanks : Part.banks ∈ P) (mchans : Part.chans ∈ P) (mrecd : Part.recd ∈ P) (mtwl : Part.twl ∈ P) (mlnc : Part.lnc ∈ P) (mbw : Part.bw ∈ P) (mints : Part.ints ∈ P) (mmems : Part.mems ∈ P) (mcores : Part.cores ∈ P) (mheld : Part.held ∈ P) (mnoted : Part.noted ∈ P) (mlic : Part.lic ∈ P) (h₀ : SameBut P t₀ s) :
    SameBut P t₀ (stepForward ch now s) := by
  unfold stepForward
  repeat' first
    | with_reducible assumption
    | (rename_i hq; have hq2 := congrArg Prod.snd hq; with_reducible dsimp only at hq2; subst hq2)
    | simp only [↓fr_mk_iff, true_or, or_true, mrot, mcys, mclk, mtim, mbanks, mchans, mrecd, mtwl, mlnc, mbw, mints, mmems, mcores, mheld, mnoted, mlic]
    | with_reducible refine fr_ite ?_ ?_
    | with_reducible refine outFr_ite ?_ ?_
    | with_reducible refine outFr_next.2 ?_
    | with_reducible refine fr_ite2 ?_ ?_
    | with_reducible refine fr_foldl ?_ (fun _ _ _ => ?_)
    | with_reducible refine launchLate_frame _ _ _ _ _ mrot mcys mclk mtim mbanks mchans mrecd mtwl mlnc mbw mints mmems mcores mheld mnoted mlic ?_ | with_reducible refine setChan_frame _ _ _ mchans ?_
    | split
    | dsimp only

theorem stepBackward_frame {P : List Part} {t₀ : State} (ch : Fin 48) (now : Int) (s : State) (mchans : Part.chans ∈ P) (mrecd : Part.recd ∈ P) (mints : Part.ints ∈ P) (mheld : Part.held ∈ P) (mnoted : Part.noted ∈ P) (mlic : Part.lic ∈ P) (h₀ : SameBut P t₀ s) :
    SameBut P t₀ (stepBackward ch now s) := by
  unfold stepBackward
  repeat' first
    | with_reducible assumption
    | (rename_i hq; have hq2 := congrArg Prod.snd hq; with_reducible dsimp only at hq2; subst hq2)
    | simp only [↓fr_mk_iff, true_or, or_true, mchans, mrecd, mints, mheld, mnoted, mlic]
    | with_reducible refine fr_ite ?_ ?_
    | with_reducible refine outFr_ite ?_ ?_
    | with_reducible refine outFr_next.2 ?_
    | with_reducible refine fr_ite2 ?_ ?_
    | with_reducible refine fr_foldl ?_ (fun _ _ _ => ?_)
    | with_reducible refine raise_frame _ _ mints mheld mlic ?_ | with_reducible refine record_frame _ _ _ _ _ _ mrecd mnoted ?_ | with_reducible refine setChan_frame _ _ _ mchans ?_
    | split
    | dsimp only

theorem pushEvent_frame {P : List Part} {t₀ : State} (ch : Fin 48) (ns : Int) (rising integ : Bool) (s : State) (mbanks : Part.banks ∈ P) (mrecd : Part.recd ∈ P) (mints : Part.ints ∈ P) (mheld : Part.held ∈ P) (mnoted : Part.noted ∈ P) (mlic : Part.lic ∈ P) (h₀ : SameBut P t₀ s) :
    SameBut P t₀ (pushEvent ch ns rising integ s) := by
  unfold pushEvent
  repeat' first
    | with_reducible assumption
    | (rename_i hq; have hq2 := congrArg Prod.snd hq; with_reducible dsimp only at hq2; subst hq2)
    | simp only [↓fr_mk_iff, true_or, or_true, mbanks, mrecd, mints, mheld, mnoted, mlic]
    | with_reducible refine fr_ite ?_ ?_
    | with_reducible refine outFr_ite ?_ ?_
    | with_reducible refine outFr_next.2 ?_
    | with_reducible refine fr_ite2 ?_ ?_
    | with_reducible refine fr_foldl ?_ (fun _ _ _ => ?_)
    | with_reducible refine raise_frame _ _ mints mheld mlic ?_ | with_reducible refine setBank_frame _ _ _ mbanks ?_ | with_reducible refine record_frame _ _ _ _ _ _ mrecd mnoted ?_
    | split
    | dsimp only

theorem readEvt0_frame {P : List Part} {t₀ : State} (k : Fin 3) (s : State) (mbanks : Part.banks ∈ P) (h₀ : SameBut P t₀ s) :
    SameBut P t₀ (readEvt0 k s).2 := by
  unfold readEvt0
  repeat' first
    | with_reducible assumption
    | (rename_i hq; have hq2 := congrArg Prod.snd hq; with_reducible dsimp only at hq2; subst hq2)
    | simp only [↓fr_mk_iff, true_or, or_true, mbanks]
    | with_reducible refine fr_ite ?_ ?_
    | with_reducible refine outFr_ite ?_ ?_
    | with_reducible refine outFr_next.2 ?_
    | with_reducible refine fr_ite2 ?_ ?_
    | with_reducible refine fr_foldl ?_ (fun _ _ _ => ?_)
    | with_reducible refine setBank_frame _ _ _ mbanks ?_
    | split
    | dsimp only

theorem banksReset_frame {P : List Part} {t₀ : State} (s : State) (mchans : Part.chans ∈ P) (mrecd : Part.recd ∈ P) (mints : Part.ints ∈ P) (mheld : Part.held ∈ P) (mnoted : Part.noted ∈ P) (mlic : Part.lic ∈ P) (h₀ : SameBut P t₀ s) :
    SameBut P t₀ (banksReset s) := by
  unfold banksReset
  repeat' first
    | with_reducible assumption
    | (rename_i hq; have hq2 := congrArg Prod.snd hq; with_reducible dsimp only at hq2; subst hq2)
    | simp only [↓fr_mk_iff, true_or, or_true, mchans, mrecd, mints, mheld, mnoted, mlic]
    | with_reducible refine fr_ite ?_ ?_
    | with_reducible refine outFr_ite ?_ ?_
    | with_reducible refine outFr_next.2 ?_
    | with_reducible refine fr_ite2 ?_ ?_
    | with_reducible refine fr_foldl ?_ (fun _ _ _ => ?_)
    | with_reducible refine setChan_frame _ _ _ mchans ?_ | with_reducible refine applySafe_frame _ _ _ _ mchans mrecd mints mheld mnoted mlic ?_
    | split
    | dsimp only

theorem banksFired_frame {P : List Part} {t₀ : State} (s : State) (mchans : Part.chans ∈ P) (h₀ : SameBut P t₀ s) :
    SameBut P t₀ (banksFired s) := by
  unfold banksFired
  repeat' first
    | with_reducible assumption
    | (rename_i hq; have hq2 := congrArg Prod.snd hq; with_reducible dsimp only at hq2; subst hq2)
    | simp only [↓fr_mk_iff, true_or, or_true, mchans]
    | with_reducible refine fr_ite ?_ ?_
    | with_reducible refine outFr_ite ?_ ?_
    | with_reducible refine outFr_next.2 ?_
    | with_reducible refine fr_ite2 ?_ ?_
    | with_reducible refine fr_foldl ?_ (fun _ _ _ => ?_)
    | with_reducible refine setChan_frame _ _ _ mchans ?_
    | split
    | dsimp only

theorem putParam_frame {P : List Part} {t₀ : State} (idx sub v : Nat) (s : State) (mkiln : Part.kiln ∈ P) (h₀ : SameBut P t₀ s) :
    SameBut P t₀ (putParam idx sub v s) := by
  unfold putParam
  repeat' first
    | with_reducible assumption
    | (rename_i hq; have hq2 := congrArg Prod.snd hq; with_reducible dsimp only at hq2; subst hq2)
    | simp only [↓fr_mk_iff, true_or, or_true, mkiln]
    | with_reducible refine fr_ite ?_ ?_
    | with_reducible refine outFr_ite ?_ ?_
    | with_reducible refine outFr_next.2 ?_
    | with_reducible refine fr_ite2 ?_ ?_
    | with_reducible refine fr_foldl ?_ (fun _ _ _ => ?_)
    | split
    | dsimp only

theorem setLnc_frame {P : List Part} {t₀ : State} (f : Lnc → Lnc) (s : State) (mlnc : Part.lnc ∈ P) (h₀ : SameBut P t₀ s) :
    SameBut P t₀ (setLnc f s) := by
  unfold setLnc
  repeat' first
    | with_reducible assumption
    | (rename_i hq; have hq2 := congrArg Prod.snd hq; with_reducible dsimp only at hq2; subst hq2)
    | simp only [↓fr_mk_iff, true_or, or_true, mlnc]
    | with_reducible refine fr_ite ?_ ?_
    | with_reducible refine outFr_ite ?_ ?_
    | with_reducible refine outFr_next.2 ?_
    | with_reducible refine fr_ite2 ?_ ?_
    | with_reducible refine fr_foldl ?_ (fun _ _ _ => ?_)
    | split
    | dsimp only

theorem setSess_frame {P : List Part} {t₀ : State} (i : Fin 6) (f : SessionState → SessionState) (s : State) (mkiln : Part.kiln ∈ P) (h₀ : SameBut P t₀ s) :
    SameBut P t₀ (setSess i f s) := by
  unfold setSess
  repeat' first
    | with_reducible assumption
    | (rename_i hq; have hq2 := congrArg Prod.snd hq; with_reducible dsimp only at hq2; subst hq2)
    | simp only [↓fr_mk_iff, true_or, or_true, mkiln]
    | with_reducible refine fr_ite ?_ ?_
    | with_reducible refine outFr_ite ?_ ?_
    | with_reducible refine outFr_next.2 ?_
    | with_reducible refine fr_ite2 ?_ ?_
    | with_reducible refine fr_foldl ?_ (fun _ _ _ => ?_)
    | split
    | dsimp only

theorem replyOnly_frame {P : List Part} {t₀ : State} (b : Session) (a : Answer) (s : State) (mkiln : Part.kiln ∈ P) (h₀ : SameBut P t₀ s) :
    SameBut P t₀ (replyOnly b a s) := by
  unfold replyOnly
  repeat' first
    | with_reducible assumption
    | (rename_i hq; have hq2 := congrArg Prod.snd hq; with_reducible dsimp only at hq2; subst hq2)
    | simp only [↓fr_mk_iff, true_or, or_true, mkiln]
    | with_reducible refine fr_ite ?_ ?_
    | with_reducible refine outFr_ite ?_ ?_
    | with_reducible refine outFr_next.2 ?_
    | with_reducible refine fr_ite2 ?_ ?_
    | with_reducible refine fr_foldl ?_ (fun _ _ _ => ?_)
    | split
    | dsimp only

theorem reply_frame {P : List Part} {t₀ : State} (b : Session) (a : Answer) (s : State) (mkiln : Part.kiln ∈ P) (h₀ : SameBut P t₀ s) :
    SameBut P t₀ (reply b a s) := by
  unfold reply
  repeat' first
    | with_reducible assumption
    | (rename_i hq; have hq2 := congrArg Prod.snd hq; with_reducible dsimp only at hq2; subst hq2)
    | simp only [↓fr_mk_iff, true_or, or_true, mkiln]
    | with_reducible refine fr_ite ?_ ?_
    | with_reducible refine outFr_ite ?_ ?_
    | with_reducible refine outFr_next.2 ?_
    | with_reducible refine fr_ite2 ?_ ?_
    | with_reducible refine fr_foldl ?_ (fun _ _ _ => ?_)
    | with_reducible refine setSess_frame _ _ _ mkiln ?_ | with_reducible refine replyOnly_frame _ _ _ mkiln ?_
    | split
    | dsimp only

theorem serveSwitch_frame {P : List Part} {t₀ : State} (since : Nat) (s : State) (mlnc : Part.lnc ∈ P) (h₀ : SameBut P t₀ s) :
    SameBut P t₀ (serveSwitch since s) := by
  unfold serveSwitch
  repeat' first
    | with_reducible assumption
    | (rename_i hq; have hq2 := congrArg Prod.snd hq; with_reducible dsimp only at hq2; subst hq2)
    | simp only [↓fr_mk_iff, true_or, or_true, mlnc]
    | with_reducible refine fr_ite ?_ ?_
    | with_reducible refine outFr_ite ?_ ?_
    | with_reducible refine outFr_next.2 ?_
    | with_reducible refine fr_ite2 ?_ ?_
    | with_reducible refine fr_foldl ?_ (fun _ _ _ => ?_)
    | (intro b u hu; dsimp only)
    | intro b u hu
    | (intro u hu; dsimp only)
    | intro u hu
    | with_reducible refine setLnc_frame _ _ mlnc ?_
    | split
    | dsimp only

theorem queueDrop_frame {P : List Part} {t₀ : State} (p : Fin 3) (pcp : Nat) (s : State) (mrecd : Part.recd ∈ P) (mlnc : Part.lnc ∈ P) (mnoted : Part.noted ∈ P) (h₀ : SameBut P t₀ s) :
    SameBut P t₀ (queueDrop p pcp s) := by
  unfold queueDrop
  repeat' first
    | with_reducible assumption
    | (rename_i hq; have hq2 := congrArg Prod.snd hq; with_reducible dsimp only at hq2; subst hq2)
    | simp only [↓fr_mk_iff, true_or, or_true, mrecd, mlnc, mnoted]
    | with_reducible refine fr_ite ?_ ?_
    | with_reducible refine outFr_ite ?_ ?_
    | with_reducible refine outFr_next.2 ?_
    | with_reducible refine fr_ite2 ?_ ?_
    | with_reducible refine fr_foldl ?_ (fun _ _ _ => ?_)
    | with_reducible refine setLnc_frame _ _ mlnc ?_ | with_reducible refine record_frame _ _ _ _ _ _ mrecd mnoted ?_
    | split
    | dsimp only

theorem egressFrame_frame {P : List Part} {t₀ : State} (p : Fin 3) (f : QFrame) (cut fcsOk : Bool) (s : State) (mrecd : Part.recd ∈ P) (mlnc : Part.lnc ∈ P) (mnoted : Part.noted ∈ P) (h₀ : SameBut P t₀ s) :
    SameBut P t₀ (egressFrame p f cut fcsOk s) := by
  unfold egressFrame
  repeat' first
    | with_reducible assumption
    | (rename_i hq; have hq2 := congrArg Prod.snd hq; with_reducible dsimp only at hq2; subst hq2)
    | simp only [↓fr_mk_iff, true_or, or_true, mrecd, mlnc, mnoted]
    | with_reducible refine fr_ite ?_ ?_
    | with_reducible refine outFr_ite ?_ ?_
    | with_reducible refine outFr_next.2 ?_
    | with_reducible refine fr_ite2 ?_ ?_
    | with_reducible refine fr_foldl ?_ (fun _ _ _ => ?_)
    | (intro b u hu; dsimp only)
    | intro b u hu
    | (intro u hu; dsimp only)
    | intro u hu
    | with_reducible refine setLnc_frame _ _ mlnc ?_ | with_reducible refine queueDrop_frame _ _ _ mrecd mlnc mnoted ?_
    | split
    | dsimp only

theorem forwardTo_frame {P : List Part} {t₀ : State} (ps : List (Fin 3)) (w vid pcp : Nat) (f : List Byte) (cut fcsOk : Bool) (s : State) (mrecd : Part.recd ∈ P) (mlnc : Part.lnc ∈ P) (mnoted : Part.noted ∈ P) (h₀ : SameBut P t₀ s) :
    SameBut P t₀ (forwardTo ps w vid pcp f cut fcsOk s) := by
  unfold forwardTo
  repeat' first
    | with_reducible assumption
    | (rename_i hq; have hq2 := congrArg Prod.snd hq; with_reducible dsimp only at hq2; subst hq2)
    | simp only [↓fr_mk_iff, true_or, or_true, mrecd, mlnc, mnoted]
    | with_reducible refine fr_ite ?_ ?_
    | with_reducible refine outFr_ite ?_ ?_
    | with_reducible refine outFr_next.2 ?_
    | with_reducible refine fr_ite2 ?_ ?_
    | with_reducible refine fr_foldl ?_ (fun _ _ _ => ?_)
    | with_reducible refine egressFrame_frame _ _ _ _ _ mrecd mlnc mnoted ?_
    | split
    | dsimp only

theorem lncQueue_frame {P : List Part} {t₀ : State} (slot : Fin 8) (s : State) (mrecd : Part.recd ∈ P) (mlnc : Part.lnc ∈ P) (mints : Part.ints ∈ P) (mheld : Part.held ∈ P) (mnoted : Part.noted ∈ P) (mlic : Part.lic ∈ P) (h₀ : SameBut P t₀ s) :
    SameBut P t₀ (lncQueue slot s) := by
  unfold lncQueue
  repeat' first
    | with_reducible assumption
    | (rename_i hq; have hq2 := congrArg Prod.snd hq; with_reducible dsimp only at hq2; subst hq2)
    | simp only [↓fr_mk_iff, true_or, or_true, mrecd, mlnc, mints, mheld, mnoted, mlic]
    | with_reducible refine fr_ite ?_ ?_
    | with_reducible refine outFr_ite ?_ ?_
    | with_reducible refine outFr_next.2 ?_
    | with_reducible refine fr_ite2 ?_ ?_
    | with_reducible refine fr_foldl ?_ (fun _ _ _ => ?_)
    | with_reducible refine setLnc_frame _ _ mlnc ?_ | with_reducible refine forwardTo_frame _ _ _ _ _ _ _ _ mrecd mlnc mnoted ?_ | with_reducible refine raise_frame _ _ mints mheld mlic ?_ | with_reducible refine record_frame _ _ _ _ _ _ mrecd mnoted ?_
    | split
    | dsimp only

theorem lncCommitted_frame {P : List Part} {t₀ : State} (before : List Host.Cell) (s : State) (mrecd : Part.recd ∈ P) (mlnc : Part.lnc ∈ P) (mints : Part.ints ∈ P) (mheld : Part.held ∈ P) (mnoted : Part.noted ∈ P) (mlic : Part.lic ∈ P) (h₀ : SameBut P t₀ s) :
    SameBut P t₀ (lncCommitted before s) := by
  unfold lncCommitted
  repeat' first
    | with_reducible assumption
    | (rename_i hq; have hq2 := congrArg Prod.snd hq; with_reducible dsimp only at hq2; subst hq2)
    | simp only [↓fr_mk_iff, true_or, or_true, mrecd, mlnc, mints, mheld, mnoted, mlic]
    | with_reducible refine fr_ite ?_ ?_
    | with_reducible refine outFr_ite ?_ ?_
    | with_reducible refine outFr_next.2 ?_
    | with_reducible refine fr_ite2 ?_ ?_
    | with_reducible refine fr_foldl ?_ (fun _ _ _ => ?_)
    | with_reducible refine lncQueue_frame _ _ mrecd mlnc mints mheld mnoted mlic ?_
    | split
    | dsimp only

theorem setTwl_frame {P : List Part} {t₀ : State} (f : Twin → Twin) (s : State) (mtwl : Part.twl ∈ P)
    (hf : Part.noted ∈ P ∨ ∀ x : Twin, (f x).notedAt = x.notedAt) (h₀ : SameBut P t₀ s) : SameBut P t₀ (setTwl f s) := by
  unfold setTwl
  rcases hf with hf | hf <;> simp only [↓fr_mk_iff, true_or, or_true, mtwl, hf] <;> exact h₀

theorem twinRole_frame {P : List Part} {t₀ : State} (r : TwinRole) (cause : Nat) (s : State) (mrecd : Part.recd ∈ P) (mtwl : Part.twl ∈ P) (mints : Part.ints ∈ P) (mheld : Part.held ∈ P) (mnoted : Part.noted ∈ P) (mlic : Part.lic ∈ P) (h₀ : SameBut P t₀ s) :
    SameBut P t₀ (twinRole r cause s) := by
  unfold twinRole
  repeat' first
    | with_reducible assumption
    | (rename_i hq; have hq2 := congrArg Prod.snd hq; with_reducible dsimp only at hq2; subst hq2)
    | simp only [↓fr_mk_iff, true_or, or_true, mrecd, mtwl, mints, mheld, mnoted, mlic]
    | with_reducible refine fr_ite ?_ ?_
    | with_reducible refine outFr_ite ?_ ?_
    | with_reducible refine outFr_next.2 ?_
    | with_reducible refine fr_ite2 ?_ ?_
    | with_reducible refine fr_foldl ?_ (fun _ _ _ => ?_)
    | with_reducible refine raise_frame _ _ mints mheld mlic ?_ | with_reducible refine record_frame _ _ _ _ _ _ mrecd mnoted ?_ | with_reducible refine setTwl_frame _ _ mtwl (.inl mnoted) ?_
    | split
    | dsimp only

theorem twinHold_frame {P : List Part} {t₀ : State} (on : Bool) (s : State) (mbanks : Part.banks ∈ P) (h₀ : SameBut P t₀ s) :
    SameBut P t₀ (twinHold on s) := by
  unfold twinHold
  repeat' first
    | with_reducible assumption
    | (rename_i hq; have hq2 := congrArg Prod.snd hq; with_reducible dsimp only at hq2; subst hq2)
    | simp only [↓fr_mk_iff, true_or, or_true, mbanks]
    | with_reducible refine fr_ite ?_ ?_
    | with_reducible refine outFr_ite ?_ ?_
    | with_reducible refine outFr_next.2 ?_
    | with_reducible refine fr_ite2 ?_ ?_
    | with_reducible refine fr_foldl ?_ (fun _ _ _ => ?_)
    | split
    | dsimp only

theorem twinSend_frame {P : List Part} {t₀ : State} (ty : Nat) (payload : List Byte) (s : State) (mtwl : Part.twl ∈ P) (h₀ : SameBut P t₀ s) :
    SameBut P t₀ (twinSend ty payload s) := by
  unfold twinSend
  repeat' first
    | with_reducible assumption
    | (rename_i hq; have hq2 := congrArg Prod.snd hq; with_reducible dsimp only at hq2; subst hq2)
    | simp only [↓fr_mk_iff, true_or, or_true, mtwl]
    | with_reducible refine fr_ite ?_ ?_
    | with_reducible refine outFr_ite ?_ ?_
    | with_reducible refine outFr_next.2 ?_
    | with_reducible refine fr_ite2 ?_ ?_
    | with_reducible refine fr_foldl ?_ (fun _ _ _ => ?_)
    | with_reducible refine setTwl_frame _ _ mtwl (.inr fun _ => rfl) ?_
    | split
    | dsimp only

theorem twinFault_frame {P : List Part} {t₀ : State} (cause state : Nat) (s : State) (mtwl : Part.twl ∈ P) (h₀ : SameBut P t₀ s) :
    SameBut P t₀ (twinFault cause state s) := by
  unfold twinFault
  repeat' first
    | with_reducible assumption
    | (rename_i hq; have hq2 := congrArg Prod.snd hq; with_reducible dsimp only at hq2; subst hq2)
    | simp only [↓fr_mk_iff, true_or, or_true, mtwl]
    | with_reducible refine fr_ite ?_ ?_
    | with_reducible refine outFr_ite ?_ ?_
    | with_reducible refine outFr_next.2 ?_
    | with_reducible refine fr_ite2 ?_ ?_
    | with_reducible refine fr_foldl ?_ (fun _ _ _ => ?_)
    | with_reducible refine twinSend_frame _ _ _ mtwl ?_
    | split
    | dsimp only

theorem twinEnd_frame {P : List Part} {t₀ : State} (cause state : Nat) (s : State) (mrecd : Part.recd ∈ P) (mtwl : Part.twl ∈ P) (mints : Part.ints ∈ P) (mheld : Part.held ∈ P) (mnoted : Part.noted ∈ P) (mlic : Part.lic ∈ P) (h₀ : SameBut P t₀ s) :
    SameBut P t₀ (twinEnd cause state s) := by
  unfold twinEnd
  repeat' first
    | with_reducible assumption
    | (rename_i hq; have hq2 := congrArg Prod.snd hq; with_reducible dsimp only at hq2; subst hq2)
    | simp only [↓fr_mk_iff, true_or, or_true, mrecd, mtwl, mints, mheld, mnoted, mlic]
    | with_reducible refine fr_ite ?_ ?_
    | with_reducible refine outFr_ite ?_ ?_
    | with_reducible refine outFr_next.2 ?_
    | with_reducible refine fr_ite2 ?_ ?_
    | with_reducible refine fr_foldl ?_ (fun _ _ _ => ?_)
    | with_reducible refine twinRole_frame _ _ _ mrecd mtwl mints mheld mnoted mlic ?_ | with_reducible refine setTwl_frame _ _ mtwl (.inl mnoted) ?_ | with_reducible refine twinFault_frame _ _ _ mtwl ?_
    | split
    | dsimp only

theorem integFail_frame {P : List Part} {t₀ : State} (code : Nat) (s : State) (mrecd : Part.recd ∈ P) (mtwl : Part.twl ∈ P) (mints : Part.ints ∈ P) (mheld : Part.held ∈ P) (mnoted : Part.noted ∈ P) (mlic : Part.lic ∈ P) (h₀ : SameBut P t₀ s) :
    SameBut P t₀ (integFail code s) := by
  unfold integFail
  repeat' first
    | with_reducible assumption
    | (rename_i hq; have hq2 := congrArg Prod.snd hq; with_reducible dsimp only at hq2; subst hq2)
    | simp only [↓fr_mk_iff, true_or, or_true, mrecd, mtwl, mints, mheld, mnoted, mlic]
    | with_reducible refine fr_ite ?_ ?_
    | with_reducible refine outFr_ite ?_ ?_
    | with_reducible refine outFr_next.2 ?_
    | with_reducible refine fr_ite2 ?_ ?_
    | with_reducible refine fr_foldl ?_ (fun _ _ _ => ?_)
    | with_reducible refine raise_frame _ _ mints mheld mlic ?_ | with_reducible refine record_frame _ _ _ _ _ _ mrecd mnoted ?_ | with_reducible refine setTwl_frame _ _ mtwl (.inl mnoted) ?_
    | split
    | dsimp only

theorem standbyDrop_frame {P : List Part} {t₀ : State} (cause : Nat) (s : State) (mbanks : Part.banks ∈ P) (mrecd : Part.recd ∈ P) (mtwl : Part.twl ∈ P) (mints : Part.ints ∈ P) (mheld : Part.held ∈ P) (mnoted : Part.noted ∈ P) (mlic : Part.lic ∈ P) (h₀ : SameBut P t₀ s) :
    SameBut P t₀ (standbyDrop cause s) := by
  unfold standbyDrop
  repeat' first
    | with_reducible assumption
    | (rename_i hq; have hq2 := congrArg Prod.snd hq; with_reducible dsimp only at hq2; subst hq2)
    | simp only [↓fr_mk_iff, true_or, or_true, mbanks, mrecd, mtwl, mints, mheld, mnoted, mlic]
    | with_reducible refine fr_ite ?_ ?_
    | with_reducible refine outFr_ite ?_ ?_
    | with_reducible refine outFr_next.2 ?_
    | with_reducible refine fr_ite2 ?_ ?_
    | with_reducible refine fr_foldl ?_ (fun _ _ _ => ?_)
    | with_reducible refine twinHold_frame _ _ mbanks ?_ | with_reducible refine twinRole_frame _ _ _ mrecd mtwl mints mheld mnoted mlic ?_ | with_reducible refine setTwl_frame _ _ mtwl (.inl mnoted) ?_
    | split
    | dsimp only

theorem checkPair_frame {P : List Part} {t₀ : State} (own peer : Check) (s : State) (mbanks : Part.banks ∈ P) (mrecd : Part.recd ∈ P) (mtwl : Part.twl ∈ P) (mints : Part.ints ∈ P) (mheld : Part.held ∈ P) (mnoted : Part.noted ∈ P) (mlic : Part.lic ∈ P) (h₀ : SameBut P t₀ s) :
    SameBut P t₀ (checkPair own peer s) := by
  unfold checkPair
  repeat' first
    | with_reducible assumption
    | (rename_i hq; have hq2 := congrArg Prod.snd hq; with_reducible dsimp only at hq2; subst hq2)
    | simp only [↓fr_mk_iff, true_or, or_true, mbanks, mrecd, mtwl, mints, mheld, mnoted, mlic]
    | with_reducible refine fr_ite ?_ ?_
    | with_reducible refine outFr_ite ?_ ?_
    | with_reducible refine outFr_next.2 ?_
    | with_reducible refine fr_ite2 ?_ ?_
    | with_reducible refine fr_foldl ?_ (fun _ _ _ => ?_)
    | with_reducible refine raise_frame _ _ mints mheld mlic ?_ | with_reducible refine record_frame _ _ _ _ _ _ mrecd mnoted ?_ | with_reducible refine setTwl_frame _ _ mtwl (.inl mnoted) ?_ | with_reducible refine standbyDrop_frame _ _ mbanks mrecd mtwl mints mheld mnoted mlic ?_
    | split
    | dsimp only

theorem checkOwn_frame {P : List Part} {t₀ : State} (c : Check) (s : State) (mbanks : Part.banks ∈ P) (mrecd : Part.recd ∈ P) (mtwl : Part.twl ∈ P) (mints : Part.ints ∈ P) (mheld : Part.held ∈ P) (mnoted : Part.noted ∈ P) (mlic : Part.lic ∈ P) (h₀ : SameBut P t₀ s) :
    SameBut P t₀ (checkOwn c s) := by
  unfold checkOwn
  repeat' first
    | with_reducible assumption
    | (rename_i hq; have hq2 := congrArg Prod.snd hq; with_reducible dsimp only at hq2; subst hq2)
    | simp only [↓fr_mk_iff, true_or, or_true, mbanks, mrecd, mtwl, mints, mheld, mnoted, mlic]
    | with_reducible refine fr_ite ?_ ?_
    | with_reducible refine outFr_ite ?_ ?_
    | with_reducible refine outFr_next.2 ?_
    | with_reducible refine fr_ite2 ?_ ?_
    | with_reducible refine fr_foldl ?_ (fun _ _ _ => ?_)
    | with_reducible refine checkPair_frame _ _ _ mbanks mrecd mtwl mints mheld mnoted mlic ?_ | with_reducible refine setTwl_frame _ _ mtwl (.inl mnoted) ?_
    | split
    | dsimp only

theorem checkPeer_frame {P : List Part} {t₀ : State} (c : Check) (s : State) (mbanks : Part.banks ∈ P) (mrecd : Part.recd ∈ P) (mtwl : Part.twl ∈ P) (mints : Part.ints ∈ P) (mheld : Part.held ∈ P) (mnoted : Part.noted ∈ P) (mlic : Part.lic ∈ P) (h₀ : SameBut P t₀ s) :
    SameBut P t₀ (checkPeer c s) := by
  unfold checkPeer
  repeat' first
    | with_reducible assumption
    | (rename_i hq; have hq2 := congrArg Prod.snd hq; with_reducible dsimp only at hq2; subst hq2)
    | simp only [↓fr_mk_iff, true_or, or_true, mbanks, mrecd, mtwl, mints, mheld, mnoted, mlic]
    | with_reducible refine fr_ite ?_ ?_
    | with_reducible refine outFr_ite ?_ ?_
    | with_reducible refine outFr_next.2 ?_
    | with_reducible refine fr_ite2 ?_ ?_
    | with_reducible refine fr_foldl ?_ (fun _ _ _ => ?_)
    | with_reducible refine checkPair_frame _ _ _ mbanks mrecd mtwl mints mheld mnoted mlic ?_ | with_reducible refine setTwl_frame _ _ mtwl (.inl mnoted) ?_
    | split
    | dsimp only

theorem twinCheck_frame {P : List Part} {t₀ : State} (task : Fin 8) (cycle : Nat) (committed : Bool) (crc : Nat) (s : State) (mbanks : Part.banks ∈ P) (mrecd : Part.recd ∈ P) (mtwl : Part.twl ∈ P) (mints : Part.ints ∈ P) (mheld : Part.held ∈ P) (mnoted : Part.noted ∈ P) (mlic : Part.lic ∈ P) (h₀ : SameBut P t₀ s) :
    SameBut P t₀ (twinCheck task cycle committed crc s) := by
  unfold twinCheck
  repeat' first
    | with_reducible assumption
    | (rename_i hq; have hq2 := congrArg Prod.snd hq; with_reducible dsimp only at hq2; subst hq2)
    | simp only [↓fr_mk_iff, true_or, or_true, mbanks, mrecd, mtwl, mints, mheld, mnoted, mlic]
    | with_reducible refine fr_ite ?_ ?_
    | with_reducible refine outFr_ite ?_ ?_
    | with_reducible refine outFr_next.2 ?_
    | with_reducible refine fr_ite2 ?_ ?_
    | with_reducible refine fr_foldl ?_ (fun _ _ _ => ?_)
    | with_reducible refine twinSend_frame _ _ _ mtwl ?_ | with_reducible refine checkOwn_frame _ _ mbanks mrecd mtwl mints mheld mnoted mlic ?_
    | split
    | dsimp only

theorem twinCommitted_frame {P : List Part} {t₀ : State} (s : State) (mbanks : Part.banks ∈ P) (mtwl : Part.twl ∈ P) (h₀ : SameBut P t₀ s) :
    SameBut P t₀ (twinCommitted s) := by
  unfold twinCommitted
  repeat' first
    | with_reducible assumption
    | (rename_i hq; have hq2 := congrArg Prod.snd hq; with_reducible dsimp only at hq2; subst hq2)
    | simp only [↓fr_mk_iff, true_or, or_true, mbanks, mtwl]
    | with_reducible refine fr_ite ?_ ?_
    | with_reducible refine outFr_ite ?_ ?_
    | with_reducible refine outFr_next.2 ?_
    | with_reducible refine fr_ite2 ?_ ?_
    | with_reducible refine fr_foldl ?_ (fun _ _ _ => ?_)
    | with_reducible refine twinHold_frame _ _ mbanks ?_ | with_reducible refine setTwl_frame _ _ mtwl (.inr fun _ => rfl) ?_
    | split
    | dsimp only

theorem markShared_frame {P : List Part} {t₀ : State} (a n : Nat) (s : State) (mtwl : Part.twl ∈ P) (h₀ : SameBut P t₀ s) :
    SameBut P t₀ (markShared a n s) := by
  unfold markShared
  repeat' first
    | with_reducible assumption
    | (rename_i hq; have hq2 := congrArg Prod.snd hq; with_reducible dsimp only at hq2; subst hq2)
    | simp only [↓fr_mk_iff, true_or, or_true, mtwl]
    | with_reducible refine fr_ite ?_ ?_
    | with_reducible refine outFr_ite ?_ ?_
    | with_reducible refine outFr_next.2 ?_
    | with_reducible refine fr_ite2 ?_ ?_
    | with_reducible refine fr_foldl ?_ (fun _ _ _ => ?_)
    | with_reducible refine setTwl_frame _ _ mtwl (.inr fun _ => rfl) ?_
    | split
    | dsimp only

theorem vwrite_frame {P : List Part} {t₀ : State} (a : Nat) (bs : List Byte) (s : State) (mvrc : Part.vrc ∈ P) (mtwl : Part.twl ∈ P) (mvmem : Part.vmem ∈ P) (h₀ : SameBut P t₀ s) :
    SameBut P t₀ (vwrite a bs s) := by
  unfold vwrite
  repeat' first
    | with_reducible assumption
    | (rename_i hq; have hq2 := congrArg Prod.snd hq; with_reducible dsimp only at hq2; subst hq2)
    | simp only [↓fr_mk_iff, true_or, or_true, mvrc, mtwl, mvmem]
    | with_reducible refine fr_ite ?_ ?_
    | with_reducible refine outFr_ite ?_ ?_
    | with_reducible refine outFr_next.2 ?_
    | with_reducible refine fr_ite2 ?_ ?_
    | with_reducible refine fr_foldl ?_ (fun _ _ _ => ?_)
    | with_reducible refine markShared_frame _ _ _ mtwl ?_
    | split
    | dsimp only

theorem setTask_frame {P : List Part} {t₀ : State} (n : Fin 8) (f : Task → Task) (s : State) (mcys : Part.cys ∈ P) (h₀ : SameBut P t₀ s) :
    SameBut P t₀ (setTask n f s) := by
  unfold setTask
  repeat' first
    | with_reducible assumption
    | (rename_i hq; have hq2 := congrArg Prod.snd hq; with_reducible dsimp only at hq2; subst hq2)
    | simp only [↓fr_mk_iff, true_or, or_true, mcys]
    | with_reducible refine fr_ite ?_ ?_
    | with_reducible refine outFr_ite ?_ ?_
    | with_reducible refine outFr_next.2 ?_
    | with_reducible refine fr_ite2 ?_ ?_
    | with_reducible refine fr_foldl ?_ (fun _ _ _ => ?_)
    | split
    | dsimp only

theorem mapTasks_frame {P : List Part} {t₀ : State} (f : Task → Task) (s : State) (mcys : Part.cys ∈ P) (h₀ : SameBut P t₀ s) :
    SameBut P t₀ (mapTasks f s) := by
  unfold mapTasks
  repeat' first
    | with_reducible assumption
    | (rename_i hq; have hq2 := congrArg Prod.snd hq; with_reducible dsimp only at hq2; subst hq2)
    | simp only [↓fr_mk_iff, true_or, or_true, mcys]
    | with_reducible refine fr_ite ?_ ?_
    | with_reducible refine outFr_ite ?_ ?_
    | with_reducible refine outFr_next.2 ?_
    | with_reducible refine fr_ite2 ?_ ?_
    | with_reducible refine fr_foldl ?_ (fun _ _ _ => ?_)
    | split
    | dsimp only

theorem latchEntry_frame {P : List Part} {t₀ : State} (consumer : Bool) (inImg : Nat) (e : ListEntry) (s : State) (mvrc : Part.vrc ∈ P) (mtwl : Part.twl ∈ P) (mbw : Part.bw ∈ P) (mvmem : Part.vmem ∈ P) (h₀ : SameBut P t₀ s) :
    SameBut P t₀ (latchEntry consumer inImg e s) := by
  unfold latchEntry
  repeat' first
    | with_reducible assumption
    | (rename_i hq; have hq2 := congrArg Prod.snd hq; with_reducible dsimp only at hq2; subst hq2)
    | simp only [↓fr_mk_iff, true_or, or_true, mvrc, mtwl, mbw, mvmem]
    | with_reducible refine fr_ite ?_ ?_
    | with_reducible refine outFr_ite ?_ ?_
    | with_reducible refine outFr_next.2 ?_
    | with_reducible refine fr_ite2 ?_ ?_
    | with_reducible refine fr_foldl ?_ (fun _ _ _ => ?_)
    | with_reducible refine bwCopy_frame _ _ _ _ mbw ?_ | with_reducible refine vwrite_frame _ _ _ mvrc mtwl mvmem ?_
    | split
    | dsimp only

theorem latchXenex_frame {P : List Part} {t₀ : State} (n : Fin 8) (c : TaskCfg) (s : State) (mcys : Part.cys ∈ P) (mrecd : Part.recd ∈ P) (mints : Part.ints ∈ P) (mheld : Part.held ∈ P) (mnoted : Part.noted ∈ P) (mlic : Part.lic ∈ P) (h₀ : SameBut P t₀ s) :
    SameBut P t₀ (latchXenex n c s).1 := by
  unfold latchXenex
  repeat' first
    | with_reducible assumption
    | (rename_i hq; have hq2 := congrArg Prod.snd hq; with_reducible dsimp only at hq2; subst hq2)
    | simp only [↓fr_mk_iff, true_or, or_true, mcys, mrecd, mints, mheld, mnoted, mlic]
    | with_reducible refine fr_ite ?_ ?_
    | with_reducible refine outFr_ite ?_ ?_
    | with_reducible refine outFr_next.2 ?_
    | with_reducible refine fr_ite2 ?_ ?_
    | with_reducible refine fr_foldl ?_ (fun _ _ _ => ?_)
    | with_reducible refine raise_frame _ _ mints mheld mlic ?_ | with_reducible refine record_frame _ _ _ _ _ _ mrecd mnoted ?_
    | split
    | dsimp only

theorem sendInput_frame {P : List Part} {t₀ : State} (n : Fin 8) (cycle off k : Nat) (bs : List Byte) (s : State) (mtwl : Part.twl ∈ P)
    (h₀ : SameBut P t₀ s) : SameBut P t₀ (sendInput n cycle off k bs s) := by
  induction k generalizing off bs s with
  | zero => exact h₀
  | succ k ih =>
    unfold sendInput
    split
    · exact h₀
    · exact ih _ _ _ (twinSend_frame _ _ _ mtwl h₀)

theorem ownLatch_frame {P : List Part} {t₀ : State} (n : Fin 8) (c : TaskCfg) (s : State) (mvrc : Part.vrc ∈ P) (mcys : Part.cys ∈ P) (mrecd : Part.recd ∈ P) (mtwl : Part.twl ∈ P) (mlnc : Part.lnc ∈ P) (mbw : Part.bw ∈ P) (mints : Part.ints ∈ P) (mvmem : Part.vmem ∈ P) (mheld : Part.held ∈ P) (mnoted : Part.noted ∈ P) (mlic : Part.lic ∈ P)
    (h₀ : SameBut P t₀ s) : SameBut P t₀ (ownLatch n c s) := by
  have h1 := latchXenex_frame n c s mcys mrecd mints mheld mnoted mlic h₀
  unfold ownLatch
  generalize latchXenex n c s = x at h1
  obtain ⟨s1, f, l⟩ := x
  refine fr_ite ?_ ?_
  · refine sendInput_frame _ _ _ _ _ _ mtwl ?_
    refine setLnc_frame _ _ mlnc ?_
    exact fr_foldl (vwrite_frame _ _ _ mvrc mtwl mvmem h1) fun _ _ h => latchEntry_frame _ _ _ _ mvrc mtwl mbw mvmem h
  · refine setLnc_frame _ _ mlnc ?_
    exact fr_foldl (vwrite_frame _ _ _ mvrc mtwl mvmem h1) fun _ _ h => latchEntry_frame _ _ _ _ mvrc mtwl mbw mvmem h

theorem beginLatch_frame {P : List Part} {t₀ : State} (n : Fin 8) (s : State) (mvrc : Part.vrc ∈ P) (mrot : Part.rot ∈ P) (mcys : Part.cys ∈ P) (mclk : Part.clk ∈ P) (mtim : Part.tim ∈ P) (mbanks : Part.banks ∈ P) (mrecd : Part.recd ∈ P) (mtwl : Part.twl ∈ P) (mlnc : Part.lnc ∈ P) (mbw : Part.bw ∈ P) (mints : Part.ints ∈ P) (mmems : Part.mems ∈ P) (mcores : Part.cores ∈ P) (mvmem : Part.vmem ∈ P) (mheld : Part.held ∈ P) (mnoted : Part.noted ∈ P) (mlic : Part.lic ∈ P) (h₀ : SameBut P t₀ s) :
    SameBut P t₀ (beginLatch n s) := by
  unfold beginLatch
  repeat' first
    | with_reducible assumption
    | (rename_i hq; have hq2 := congrArg Prod.snd hq; with_reducible dsimp only at hq2; subst hq2)
    | simp only [↓fr_mk_iff, true_or, or_true, mvrc, mrot, mcys, mclk, mtim, mbanks, mrecd, mtwl, mlnc, mbw, mints, mmems, mcores, mvmem, mheld, mnoted, mlic]
    | with_reducible refine fr_ite ?_ ?_
    | with_reducible refine outFr_ite ?_ ?_
    | with_reducible refine outFr_next.2 ?_
    | with_reducible refine fr_ite2 ?_ ?_
    | with_reducible refine fr_foldl ?_ (fun _ _ _ => ?_)
    | with_reducible refine setTwl_frame _ _ mtwl (.inl mnoted) ?_ | with_reducible refine vwrite_frame _ _ _ mvrc mtwl mvmem ?_ | with_reducible refine ownLatch_frame _ _ _ mvrc mcys mrecd mtwl mlnc mbw mints mvmem mheld mnoted mlic ?_ | with_reducible refine standbyDrop_frame _ _ mbanks mrecd mtwl mints mheld mnoted mlic ?_ | with_reducible refine record_frame _ _ _ _ _ _ mrecd mnoted ?_ | with_reducible refine setTask_frame _ _ _ mcys ?_ | with_reducible refine step_frame _ mrot mcys mclk mtim mrecd mtwl mlnc mbw mmems mcores mlic ?_
    | split
    | dsimp only

theorem closeCycle_frame {P : List Part} {t₀ : State} (n : Fin 8) (glaze : Option Nat) (s : State) (mcys : Part.cys ∈ P) (mbanks : Part.banks ∈ P) (mrecd : Part.recd ∈ P) (mtwl : Part.twl ∈ P) (mints : Part.ints ∈ P) (mheld : Part.held ∈ P) (mnoted : Part.noted ∈ P) (mlic : Part.lic ∈ P) (h₀ : SameBut P t₀ s) :
    SameBut P t₀ (closeCycle n glaze s) := by
  unfold closeCycle
  repeat' first
    | with_reducible assumption
    | (rename_i hq; have hq2 := congrArg Prod.snd hq; with_reducible dsimp only at hq2; subst hq2)
    | simp only [↓fr_mk_iff, true_or, or_true, mcys, mbanks, mrecd, mtwl, mints, mheld, mnoted, mlic]
    | with_reducible refine fr_ite ?_ ?_
    | with_reducible refine outFr_ite ?_ ?_
    | with_reducible refine outFr_next.2 ?_
    | with_reducible refine fr_ite2 ?_ ?_
    | with_reducible refine fr_foldl ?_ (fun _ _ _ => ?_)
    | with_reducible refine twinCheck_frame _ _ _ _ _ mbanks mrecd mtwl mints mheld mnoted mlic ?_ | with_reducible refine setTask_frame _ _ _ mcys ?_
    | split
    | dsimp only

theorem startCommit_frame {P : List Part} {t₀ : State} (s : State) (mcys : Part.cys ∈ P) (h₀ : SameBut P t₀ s) :
    SameBut P t₀ (startCommit s) := by
  unfold startCommit
  repeat' first
    | with_reducible assumption
    | (rename_i hq; have hq2 := congrArg Prod.snd hq; with_reducible dsimp only at hq2; subst hq2)
    | simp only [↓fr_mk_iff, true_or, or_true, mcys]
    | with_reducible refine fr_ite ?_ ?_
    | with_reducible refine outFr_ite ?_ ?_
    | with_reducible refine outFr_next.2 ?_
    | with_reducible refine fr_ite2 ?_ ?_
    | with_reducible refine fr_foldl ?_ (fun _ _ _ => ?_)
    | split
    | dsimp only

theorem queueCommit_frame {P : List Part} {t₀ : State} (n : Fin 8) (glaze : Nat) (s : State) (mcys : Part.cys ∈ P) (h₀ : SameBut P t₀ s) :
    SameBut P t₀ (queueCommit n glaze s) := by
  unfold queueCommit
  repeat' first
    | with_reducible assumption
    | (rename_i hq; have hq2 := congrArg Prod.snd hq; with_reducible dsimp only at hq2; subst hq2)
    | simp only [↓fr_mk_iff, true_or, or_true, mcys]
    | with_reducible refine fr_ite ?_ ?_
    | with_reducible refine outFr_ite ?_ ?_
    | with_reducible refine outFr_next.2 ?_
    | with_reducible refine fr_ite2 ?_ ?_
    | with_reducible refine fr_foldl ?_ (fun _ _ _ => ?_)
    | with_reducible refine startCommit_frame _ mcys ?_ | with_reducible refine setTask_frame _ _ _ mcys ?_
    | split
    | dsimp only

theorem releaseHeld_frame {P : List Part} {t₀ : State} (s : State) (mcys : Part.cys ∈ P) (h₀ : SameBut P t₀ s) :
    SameBut P t₀ (releaseHeld s) := by
  unfold releaseHeld
  repeat' first
    | with_reducible assumption
    | (rename_i hq; have hq2 := congrArg Prod.snd hq; with_reducible dsimp only at hq2; subst hq2)
    | simp only [↓fr_mk_iff, true_or, or_true, mcys]
    | with_reducible refine fr_ite ?_ ?_
    | with_reducible refine outFr_ite ?_ ?_
    | with_reducible refine outFr_next.2 ?_
    | with_reducible refine fr_ite2 ?_ ?_
    | with_reducible refine fr_foldl ?_ (fun _ _ _ => ?_)
    | with_reducible refine setTask_frame _ _ _ mcys ?_ | with_reducible refine startCommit_frame _ mcys ?_
    | split
    | dsimp only

theorem cycleDone_frame {P : List Part} {t₀ : State} (n : Fin 8) (glaze : Nat) (s : State) (mcys : Part.cys ∈ P) (mbanks : Part.banks ∈ P) (mrecd : Part.recd ∈ P) (mtwl : Part.twl ∈ P) (mints : Part.ints ∈ P) (mheld : Part.held ∈ P) (mnoted : Part.noted ∈ P) (mlic : Part.lic ∈ P) (h₀ : SameBut P t₀ s) :
    SameBut P t₀ (cycleDone n glaze s) := by
  unfold cycleDone
  repeat' first
    | with_reducible assumption
    | (rename_i hq; have hq2 := congrArg Prod.snd hq; with_reducible dsimp only at hq2; subst hq2)
    | simp only [↓fr_mk_iff, true_or, or_true, mcys, mbanks, mrecd, mtwl, mints, mheld, mnoted, mlic]
    | with_reducible refine fr_ite ?_ ?_
    | with_reducible refine outFr_ite ?_ ?_
    | with_reducible refine outFr_next.2 ?_
    | with_reducible refine fr_ite2 ?_ ?_
    | with_reducible refine fr_foldl ?_ (fun _ _ _ => ?_)
    | with_reducible refine setTask_frame _ _ _ mcys ?_ | with_reducible refine queueCommit_frame _ _ _ mcys ?_ | with_reducible refine closeCycle_frame _ _ _ mcys mbanks mrecd mtwl mints mheld mnoted mlic ?_
    | split
    | dsimp only

theorem commitEntry_frame {P : List Part} {t₀ : State} (c : TaskCfg) (e : ListEntry) (s : State) (mvrc : Part.vrc ∈ P) (mchans : Part.chans ∈ P) (mrecd : Part.recd ∈ P) (mtwl : Part.twl ∈ P) (mbw : Part.bw ∈ P) (mvmem : Part.vmem ∈ P) (mnoted : Part.noted ∈ P) (h₀ : SameBut P t₀ s) :
    SameBut P t₀ (commitEntry c e s) := by
  unfold commitEntry
  repeat' first
    | with_reducible assumption
    | (rename_i hq; have hq2 := congrArg Prod.snd hq; with_reducible dsimp only at hq2; subst hq2)
    | simp only [↓fr_mk_iff, true_or, or_true, mvrc, mchans, mrecd, mtwl, mbw, mvmem, mnoted]
    | with_reducible refine fr_ite ?_ ?_
    | with_reducible refine outFr_ite ?_ ?_
    | with_reducible refine outFr_next.2 ?_
    | with_reducible refine fr_ite2 ?_ ?_
    | with_reducible refine fr_foldl ?_ (fun _ _ _ => ?_)
    | with_reducible refine bwCopy_frame _ _ _ _ mbw ?_ | with_reducible refine bankCommit_frame _ _ _ mchans mrecd mnoted ?_ | with_reducible refine vwrite_frame _ _ _ mvrc mtwl mvmem ?_
    | split
    | dsimp only

theorem commitCopies_frame {P : List Part} {t₀ : State} (n : Fin 8) (s : State) (mvrc : Part.vrc ∈ P) (mrot : Part.rot ∈ P) (mbanks : Part.banks ∈ P) (mchans : Part.chans ∈ P) (mrecd : Part.recd ∈ P) (mtwl : Part.twl ∈ P) (mlnc : Part.lnc ∈ P) (mbw : Part.bw ∈ P) (mints : Part.ints ∈ P) (mvmem : Part.vmem ∈ P) (mheld : Part.held ∈ P) (mnoted : Part.noted ∈ P) (mlic : Part.lic ∈ P) (h₀ : SameBut P t₀ s) :
    SameBut P t₀ (commitCopies n s) := by
  unfold commitCopies
  repeat' first
    | with_reducible assumption
    | (rename_i hq; have hq2 := congrArg Prod.snd hq; with_reducible dsimp only at hq2; subst hq2)
    | simp only [↓fr_mk_iff, true_or, or_true, mvrc, mrot, mbanks, mchans, mrecd, mtwl, mlnc, mbw, mints, mvmem, mheld, mnoted, mlic]
    | with_reducible refine fr_ite ?_ ?_
    | with_reducible refine outFr_ite ?_ ?_
    | with_reducible refine outFr_next.2 ?_
    | with_reducible refine fr_ite2 ?_ ?_
    | with_reducible refine fr_foldl ?_ (fun _ _ _ => ?_)
    | with_reducible refine commitEntry_frame _ _ _ mvrc mchans mrecd mtwl mbw mvmem mnoted ?_ | with_reducible refine lncCommitted_frame _ _ mrecd mlnc mints mheld mnoted mlic ?_ | with_reducible refine twinCommitted_frame _ mbanks mtwl ?_
    | split
    | dsimp only

theorem postEntry_frame {P : List Part} {t₀ : State} (n : Fin 8) (c : TaskCfg) (b : List Byte) (s : State) (mrot : Part.rot ∈ P) (mcys : Part.cys ∈ P) (mclk : Part.clk ∈ P) (mtim : Part.tim ∈ P) (mbanks : Part.banks ∈ P) (mchans : Part.chans ∈ P) (mrecd : Part.recd ∈ P) (mtwl : Part.twl ∈ P) (mlnc : Part.lnc ∈ P) (mbw : Part.bw ∈ P) (mints : Part.ints ∈ P) (mmems : Part.mems ∈ P) (mcores : Part.cores ∈ P) (mheld : Part.held ∈ P) (mnoted : Part.noted ∈ P) (mlic : Part.lic ∈ P) (h₀ : SameBut P t₀ s) :
    SameBut P t₀ (postEntry n c b s) := by
  unfold postEntry
  repeat' first
    | with_reducible assumption
    | (rename_i hq; have hq2 := congrArg Prod.snd hq; with_reducible dsimp only at hq2; subst hq2)
    | simp only [↓fr_mk_iff, true_or, or_true, mrot, mcys, mclk, mtim, mbanks, mchans, mrecd, mtwl, mlnc, mbw, mints, mmems, mcores, mheld, mnoted, mlic]
    | with_reducible refine fr_ite ?_ ?_
    | with_reducible refine outFr_ite ?_ ?_
    | with_reducible refine outFr_next.2 ?_
    | with_reducible refine fr_ite2 ?_ ?_
    | with_reducible refine fr_foldl ?_ (fun _ _ _ => ?_)
    | with_reducible refine glazePost_frame _ _ _ _ mrot mcys mclk mtim mbanks mchans mrecd mtwl mlnc mbw mints mmems mcores mheld mnoted mlic ?_ | with_reducible refine record_frame _ _ _ _ _ _ mrecd mnoted ?_
    | split
    | dsimp only

theorem postEntries_frame {P : List Part} {t₀ : State} (n : Fin 8) (c : TaskCfg) (i k : Nat) (s : State) (mrot : Part.rot ∈ P) (mcys : Part.cys ∈ P) (mclk : Part.clk ∈ P) (mtim : Part.tim ∈ P) (mbanks : Part.banks ∈ P) (mchans : Part.chans ∈ P) (mrecd : Part.recd ∈ P) (mtwl : Part.twl ∈ P) (mlnc : Part.lnc ∈ P) (mbw : Part.bw ∈ P) (mints : Part.ints ∈ P) (mmems : Part.mems ∈ P) (mcores : Part.cores ∈ P) (mheld : Part.held ∈ P) (mnoted : Part.noted ∈ P) (mlic : Part.lic ∈ P)
    (h₀ : SameBut P t₀ s) : SameBut P t₀ (postEntries n c i k s) := by
  induction k generalizing i s with
  | zero => exact h₀
  | succ k ih => exact ih _ _ (postEntry_frame _ _ _ _ mrot mcys mclk mtim mbanks mchans mrecd mtwl mlnc mbw mints mmems mcores mheld mnoted mlic h₀)

theorem cysStop_frame {P : List Part} {t₀ : State} (s : State) (mcys : Part.cys ∈ P) (h₀ : SameBut P t₀ s) :
    SameBut P t₀ (cysStop s) := by
  unfold cysStop
  repeat' first
    | with_reducible assumption
    | (rename_i hq; have hq2 := congrArg Prod.snd hq; with_reducible dsimp only at hq2; subst hq2)
    | simp only [↓fr_mk_iff, true_or, or_true, mcys]
    | with_reducible refine fr_ite ?_ ?_
    | with_reducible refine outFr_ite ?_ ?_
    | with_reducible refine outFr_next.2 ?_
    | with_reducible refine fr_ite2 ?_ ?_
    | with_reducible refine fr_foldl ?_ (fun _ _ _ => ?_)
    | with_reducible refine mapTasks_frame _ _ mcys ?_
    | split
    | dsimp only

theorem setXn_frame {P : List Part} {t₀ : State} (f : Xenex → Xenex) (s : State) (mxn : Part.xn ∈ P) (h₀ : SameBut P t₀ s) :
    SameBut P t₀ (setXn f s) := by
  unfold setXn
  repeat' first
    | with_reducible assumption
    | (rename_i hq; have hq2 := congrArg Prod.snd hq; with_reducible dsimp only at hq2; subst hq2)
    | simp only [↓fr_mk_iff, true_or, or_true, mxn]
    | with_reducible refine fr_ite ?_ ?_
    | with_reducible refine outFr_ite ?_ ?_
    | with_reducible refine outFr_next.2 ?_
    | with_reducible refine fr_ite2 ?_ ?_
    | with_reducible refine fr_foldl ?_ (fun _ _ _ => ?_)
    | split
    | dsimp only

theorem xnSend_frame {P : List Part} {t₀ : State} (ty flags dst : Nat) (payload : List Byte) (s : State) (mxn : Part.xn ∈ P) (h₀ : SameBut P t₀ s) :
    SameBut P t₀ (xnSend ty flags dst payload s) := by
  unfold xnSend
  repeat' first
    | with_reducible assumption
    | (rename_i hq; have hq2 := congrArg Prod.snd hq; with_reducible dsimp only at hq2; subst hq2)
    | simp only [↓fr_mk_iff, true_or, or_true, mxn]
    | with_reducible refine fr_ite ?_ ?_
    | with_reducible refine outFr_ite ?_ ?_
    | with_reducible refine outFr_next.2 ?_
    | with_reducible refine fr_ite2 ?_ ?_
    | with_reducible refine fr_foldl ?_ (fun _ _ _ => ?_)
    | with_reducible refine setXn_frame _ _ mxn ?_
    | split
    | dsimp only

theorem chanDown_frame {P : List Part} {t₀ : State} (k : Fin 2) (why : Nat) (s : State) (mchans : Part.chans ∈ P) (mxn : Part.xn ∈ P) (mrecd : Part.recd ∈ P) (mints : Part.ints ∈ P) (mheld : Part.held ∈ P) (mnoted : Part.noted ∈ P) (mlic : Part.lic ∈ P) (h₀ : SameBut P t₀ s) :
    SameBut P t₀ (chanDown k why s) := by
  unfold chanDown
  repeat' first
    | with_reducible assumption
    | (rename_i hq; have hq2 := congrArg Prod.snd hq; with_reducible dsimp only at hq2; subst hq2)
    | simp only [↓fr_mk_iff, true_or, or_true, mchans, mxn, mrecd, mints, mheld, mnoted, mlic]
    | with_reducible refine fr_ite ?_ ?_
    | with_reducible refine outFr_ite ?_ ?_
    | with_reducible refine outFr_next.2 ?_
    | with_reducible refine fr_ite2 ?_ ?_
    | with_reducible refine fr_foldl ?_ (fun _ _ _ => ?_)
    | with_reducible refine raise_frame _ _ mints mheld mlic ?_ | with_reducible refine record_frame _ _ _ _ _ _ mrecd mnoted ?_ | with_reducible refine setXn_frame _ _ mxn ?_
    | split
    | dsimp only

theorem chanGood_frame {P : List Part} {t₀ : State} (k : Fin 2) (s : State) (mchans : Part.chans ∈ P) (mxn : Part.xn ∈ P) (mrecd : Part.recd ∈ P) (mints : Part.ints ∈ P) (mheld : Part.held ∈ P) (mnoted : Part.noted ∈ P) (mlic : Part.lic ∈ P) (h₀ : SameBut P t₀ s) :
    SameBut P t₀ (chanGood k s) := by
  unfold chanGood
  repeat' first
    | with_reducible assumption
    | (rename_i hq; have hq2 := congrArg Prod.snd hq; with_reducible dsimp only at hq2; subst hq2)
    | simp only [↓fr_mk_iff, true_or, or_true, mchans, mxn, mrecd, mints, mheld, mnoted, mlic]
    | with_reducible refine fr_ite ?_ ?_
    | with_reducible refine outFr_ite ?_ ?_
    | with_reducible refine outFr_next.2 ?_
    | with_reducible refine fr_ite2 ?_ ?_
    | with_reducible refine fr_foldl ?_ (fun _ _ _ => ?_)
    | with_reducible refine setXn_frame _ _ mxn ?_ | with_reducible refine raise_frame _ _ mints mheld mlic ?_ | with_reducible refine record_frame _ _ _ _ _ _ mrecd mnoted ?_
    | split
    | dsimp only

theorem chanMissed_frame {P : List Part} {t₀ : State} (k : Fin 2) (s : State) (mchans : Part.chans ∈ P) (mxn : Part.xn ∈ P) (mrecd : Part.recd ∈ P) (mints : Part.ints ∈ P) (mheld : Part.held ∈ P) (mnoted : Part.noted ∈ P) (mlic : Part.lic ∈ P) (h₀ : SameBut P t₀ s) :
    SameBut P t₀ (chanMissed k s) := by
  unfold chanMissed
  repeat' first
    | with_reducible assumption
    | (rename_i hq; have hq2 := congrArg Prod.snd hq; with_reducible dsimp only at hq2; subst hq2)
    | simp only [↓fr_mk_iff, true_or, or_true, mchans, mxn, mrecd, mints, mheld, mnoted, mlic]
    | with_reducible refine fr_ite ?_ ?_
    | with_reducible refine outFr_ite ?_ ?_
    | with_reducible refine outFr_next.2 ?_
    | with_reducible refine fr_ite2 ?_ ?_
    | with_reducible refine fr_foldl ?_ (fun _ _ _ => ?_)
    | with_reducible refine setXn_frame _ _ mxn ?_ | with_reducible refine chanDown_frame _ _ _ mchans mxn mrecd mints mheld mnoted mlic ?_
    | split
    | dsimp only

theorem chanEcho_frame {P : List Part} {t₀ : State} (k : Fin 2) (collided : Bool) (s : State) (mchans : Part.chans ∈ P) (mxn : Part.xn ∈ P) (mrecd : Part.recd ∈ P) (mints : Part.ints ∈ P) (mheld : Part.held ∈ P) (mnoted : Part.noted ∈ P) (mlic : Part.lic ∈ P) (h₀ : SameBut P t₀ s) :
    SameBut P t₀ (chanEcho k collided s) := by
  unfold chanEcho
  repeat' first
    | with_reducible assumption
    | (rename_i hq; have hq2 := congrArg Prod.snd hq; with_reducible dsimp only at hq2; subst hq2)
    | simp only [↓fr_mk_iff, true_or, or_true, mchans, mxn, mrecd, mints, mheld, mnoted, mlic]
    | with_reducible refine fr_ite ?_ ?_
    | with_reducible refine outFr_ite ?_ ?_
    | with_reducible refine outFr_next.2 ?_
    | with_reducible refine fr_ite2 ?_ ?_
    | with_reducible refine fr_foldl ?_ (fun _ _ _ => ?_)
    | with_reducible refine setXn_frame _ _ mxn ?_ | with_reducible refine chanDown_frame _ _ _ mchans mxn mrecd mints mheld mnoted mlic ?_
    | split
    | dsimp only

theorem xnEcho_frame {P : List Part} {t₀ : State} (coll : BitVec 2) (s : State) (mchans : Part.chans ∈ P) (mxn : Part.xn ∈ P) (mrecd : Part.recd ∈ P) (mints : Part.ints ∈ P) (mheld : Part.held ∈ P) (mnoted : Part.noted ∈ P) (mlic : Part.lic ∈ P) (h₀ : SameBut P t₀ s) :
    SameBut P t₀ (xnEcho coll s) := by
  unfold xnEcho
  repeat' first
    | with_reducible assumption
    | (rename_i hq; have hq2 := congrArg Prod.snd hq; with_reducible dsimp only at hq2; subst hq2)
    | simp only [↓fr_mk_iff, true_or, or_true, mchans, mxn, mrecd, mints, mheld, mnoted, mlic]
    | with_reducible refine fr_ite ?_ ?_
    | with_reducible refine outFr_ite ?_ ?_
    | with_reducible refine outFr_next.2 ?_
    | with_reducible refine fr_ite2 ?_ ?_
    | with_reducible refine fr_foldl ?_ (fun _ _ _ => ?_)
    | with_reducible refine chanEcho_frame _ _ _ mchans mxn mrecd mints mheld mnoted mlic ?_
    | split
    | dsimp only

theorem chanError_frame {P : List Part} {t₀ : State} (k : Fin 2) (s : State) (mchans : Part.chans ∈ P) (mxn : Part.xn ∈ P) (h₀ : SameBut P t₀ s) :
    SameBut P t₀ (chanError k s) := by
  unfold chanError
  repeat' first
    | with_reducible assumption
    | (rename_i hq; have hq2 := congrArg Prod.snd hq; with_reducible dsimp only at hq2; subst hq2)
    | simp only [↓fr_mk_iff, true_or, or_true, mchans, mxn]
    | with_reducible refine fr_ite ?_ ?_
    | with_reducible refine outFr_ite ?_ ?_
    | with_reducible refine outFr_next.2 ?_
    | with_reducible refine fr_ite2 ?_ ?_
    | with_reducible refine fr_foldl ?_ (fun _ _ _ => ?_)
    | with_reducible refine setXn_frame _ _ mxn ?_
    | split
    | dsimp only

theorem putStat_frame {P : List Part} {t₀ : State} (i w : Nat) (s : State) (mvrc : Part.vrc ∈ P) (mtwl : Part.twl ∈ P) (mvmem : Part.vmem ∈ P) (h₀ : SameBut P t₀ s) :
    SameBut P t₀ (putStat i w s) := by
  unfold putStat
  repeat' first
    | with_reducible assumption
    | (rename_i hq; have hq2 := congrArg Prod.snd hq; with_reducible dsimp only at hq2; subst hq2)
    | simp only [↓fr_mk_iff, true_or, or_true, mvrc, mtwl, mvmem]
    | with_reducible refine fr_ite ?_ ?_
    | with_reducible refine outFr_ite ?_ ?_
    | with_reducible refine outFr_next.2 ?_
    | with_reducible refine fr_ite2 ?_ ?_
    | with_reducible refine fr_foldl ?_ (fun _ _ _ => ?_)
    | with_reducible refine vwrite_frame _ _ _ mvrc mtwl mvmem ?_
    | split
    | dsimp only

theorem putResult_frame {P : List Part} {t₀ : State} (i r : Nat) (s : State) (mvrc : Part.vrc ∈ P) (mtwl : Part.twl ∈ P) (mvmem : Part.vmem ∈ P) (h₀ : SameBut P t₀ s) :
    SameBut P t₀ (putResult i r s) := by
  unfold putResult
  repeat' first
    | with_reducible assumption
    | (rename_i hq; have hq2 := congrArg Prod.snd hq; with_reducible dsimp only at hq2; subst hq2)
    | simp only [↓fr_mk_iff, true_or, or_true, mvrc, mtwl, mvmem]
    | with_reducible refine fr_ite ?_ ?_
    | with_reducible refine outFr_ite ?_ ?_
    | with_reducible refine outFr_next.2 ?_
    | with_reducible refine fr_ite2 ?_ ?_
    | with_reducible refine fr_foldl ?_ (fun _ _ _ => ?_)
    | with_reducible refine putStat_frame _ _ _ mvrc mtwl mvmem ?_
    | split
    | dsimp only

theorem setNode_frame {P : List Part} {t₀ : State} (n : Fin 64) (f : XNode → XNode) (s : State) (mvrc : Part.vrc ∈ P) (mxn : Part.xn ∈ P) (mtwl : Part.twl ∈ P) (mvmem : Part.vmem ∈ P) (h₀ : SameBut P t₀ s) :
    SameBut P t₀ (setNode n f s) := by
  unfold setNode
  repeat' first
    | with_reducible assumption
    | (rename_i hq; have hq2 := congrArg Prod.snd hq; with_reducible dsimp only at hq2; subst hq2)
    | simp only [↓fr_mk_iff, true_or, or_true, mvrc, mxn, mtwl, mvmem]
    | with_reducible refine fr_ite ?_ ?_
    | with_reducible refine outFr_ite ?_ ?_
    | with_reducible refine outFr_next.2 ?_
    | with_reducible refine fr_ite2 ?_ ?_
    | with_reducible refine fr_foldl ?_ (fun _ _ _ => ?_)
    | with_reducible refine setXn_frame _ _ mxn ?_ | with_reducible refine putStat_frame _ _ _ mvrc mtwl mvmem ?_
    | split
    | dsimp only

theorem nodeReplied_frame {P : List Part} {t₀ : State} (n : Fin 64) (s : State) (mvrc : Part.vrc ∈ P) (mxn : Part.xn ∈ P) (mrecd : Part.recd ∈ P) (mtwl : Part.twl ∈ P) (mints : Part.ints ∈ P) (mvmem : Part.vmem ∈ P) (mheld : Part.held ∈ P) (mnoted : Part.noted ∈ P) (mlic : Part.lic ∈ P) (h₀ : SameBut P t₀ s) :
    SameBut P t₀ (nodeReplied n s) := by
  unfold nodeReplied
  repeat' first
    | with_reducible assumption
    | (rename_i hq; have hq2 := congrArg Prod.snd hq; with_reducible dsimp only at hq2; subst hq2)
    | simp only [↓fr_mk_iff, true_or, or_true, mvrc, mxn, mrecd, mtwl, mints, mvmem, mheld, mnoted, mlic]
    | with_reducible refine fr_ite ?_ ?_
    | with_reducible refine outFr_ite ?_ ?_
    | with_reducible refine outFr_next.2 ?_
    | with_reducible refine fr_ite2 ?_ ?_
    | with_reducible refine fr_foldl ?_ (fun _ _ _ => ?_)
    | with_reducible refine setNode_frame _ _ _ mvrc mxn mtwl mvmem ?_ | with_reducible refine raise_frame _ _ mints mheld mlic ?_ | with_reducible refine record_frame _ _ _ _ _ _ mrecd mnoted ?_
    | split
    | dsimp only

theorem nodeDrift_frame {P : List Part} {t₀ : State} (n : Fin 64) (slot : Nat) (off : Int) (s : State) (mvrc : Part.vrc ∈ P) (mxn : Part.xn ∈ P) (mrecd : Part.recd ∈ P) (mtwl : Part.twl ∈ P) (mints : Part.ints ∈ P) (mvmem : Part.vmem ∈ P) (mheld : Part.held ∈ P) (mnoted : Part.noted ∈ P) (mlic : Part.lic ∈ P) (h₀ : SameBut P t₀ s) :
    SameBut P t₀ (nodeDrift n slot off s) := by
  unfold nodeDrift
  repeat' first
    | with_reducible assumption
    | (rename_i hq; have hq2 := congrArg Prod.snd hq; with_reducible dsimp only at hq2; subst hq2)
    | simp only [↓fr_mk_iff, true_or, or_true, mvrc, mxn, mrecd, mtwl, mints, mvmem, mheld, mnoted, mlic]
    | with_reducible refine fr_ite ?_ ?_
    | with_reducible refine outFr_ite ?_ ?_
    | with_reducible refine outFr_next.2 ?_
    | with_reducible refine fr_ite2 ?_ ?_
    | with_reducible refine fr_foldl ?_ (fun _ _ _ => ?_)
    | with_reducible refine setNode_frame _ _ _ mvrc mxn mtwl mvmem ?_ | with_reducible refine setXn_frame _ _ mxn ?_ | with_reducible refine record_frame _ _ _ _ _ _ mrecd mnoted ?_ | with_reducible refine raise_frame _ _ mints mheld mlic ?_
    | split
    | dsimp only

theorem nodeLate_frame {P : List Part} {t₀ : State} (n : Fin 64) (slot : Nat) (off : Int) (s : State) (mvrc : Part.vrc ∈ P) (mxn : Part.xn ∈ P) (mrecd : Part.recd ∈ P) (mtwl : Part.twl ∈ P) (mints : Part.ints ∈ P) (mvmem : Part.vmem ∈ P) (mheld : Part.held ∈ P) (mnoted : Part.noted ∈ P) (mlic : Part.lic ∈ P) (h₀ : SameBut P t₀ s) :
    SameBut P t₀ (nodeLate n slot off s) := by
  unfold nodeLate
  repeat' first
    | with_reducible assumption
    | (rename_i hq; have hq2 := congrArg Prod.snd hq; with_reducible dsimp only at hq2; subst hq2)
    | simp only [↓fr_mk_iff, true_or, or_true, mvrc, mxn, mrecd, mtwl, mints, mvmem, mheld, mnoted, mlic]
    | with_reducible refine fr_ite ?_ ?_
    | with_reducible refine outFr_ite ?_ ?_
    | with_reducible refine outFr_next.2 ?_
    | with_reducible refine fr_ite2 ?_ ?_
    | with_reducible refine fr_foldl ?_ (fun _ _ _ => ?_)
    | with_reducible refine raise_frame _ _ mints mheld mlic ?_ | with_reducible refine setNode_frame _ _ _ mvrc mxn mtwl mvmem ?_ | with_reducible refine setXn_frame _ _ mxn ?_ | with_reducible refine record_frame _ _ _ _ _ _ mrecd mnoted ?_
    | split
    | dsimp only

theorem nodeMacroEnd_frame {P : List Part} {t₀ : State} (n : Fin 64) (s : State) (mvrc : Part.vrc ∈ P) (mxn : Part.xn ∈ P) (mrecd : Part.recd ∈ P) (mtwl : Part.twl ∈ P) (mints : Part.ints ∈ P) (mvmem : Part.vmem ∈ P) (mheld : Part.held ∈ P) (mnoted : Part.noted ∈ P) (mlic : Part.lic ∈ P) (h₀ : SameBut P t₀ s) :
    SameBut P t₀ (nodeMacroEnd n s) := by
  unfold nodeMacroEnd
  repeat' first
    | with_reducible assumption
    | (rename_i hq; have hq2 := congrArg Prod.snd hq; with_reducible dsimp only at hq2; subst hq2)
    | simp only [↓fr_mk_iff, true_or, or_true, mvrc, mxn, mrecd, mtwl, mints, mvmem, mheld, mnoted, mlic]
    | with_reducible refine fr_ite ?_ ?_
    | with_reducible refine outFr_ite ?_ ?_
    | with_reducible refine outFr_next.2 ?_
    | with_reducible refine fr_ite2 ?_ ?_
    | with_reducible refine fr_foldl ?_ (fun _ _ _ => ?_)
    | with_reducible refine setNode_frame _ _ _ mvrc mxn mtwl mvmem ?_ | with_reducible refine raise_frame _ _ mints mheld mlic ?_ | with_reducible refine record_frame _ _ _ _ _ _ mrecd mnoted ?_
    | split
    | dsimp only

theorem nodeMacroBegin_frame {P : List Part} {t₀ : State} (n : Fin 64) (s : State) (mvrc : Part.vrc ∈ P) (mxn : Part.xn ∈ P) (mtwl : Part.twl ∈ P) (mvmem : Part.vmem ∈ P) (h₀ : SameBut P t₀ s) :
    SameBut P t₀ (nodeMacroBegin n s) := by
  unfold nodeMacroBegin
  repeat' first
    | with_reducible assumption
    | (rename_i hq; have hq2 := congrArg Prod.snd hq; with_reducible dsimp only at hq2; subst hq2)
    | simp only [↓fr_mk_iff, true_or, or_true, mvrc, mxn, mtwl, mvmem]
    | with_reducible refine fr_ite ?_ ?_
    | with_reducible refine outFr_ite ?_ ?_
    | with_reducible refine outFr_next.2 ?_
    | with_reducible refine fr_ite2 ?_ ?_
    | with_reducible refine fr_foldl ?_ (fun _ _ _ => ?_)
    | with_reducible refine setNode_frame _ _ _ mvrc mxn mtwl mvmem ?_
    | split
    | dsimp only

theorem newEpoch_frame {P : List Part} {t₀ : State} (e : Nat) (s : State) (mvrc : Part.vrc ∈ P) (mxn : Part.xn ∈ P) (mtwl : Part.twl ∈ P) (mvmem : Part.vmem ∈ P) (h₀ : SameBut P t₀ s) :
    SameBut P t₀ (newEpoch e s) := by
  unfold newEpoch
  repeat' first
    | with_reducible assumption
    | (rename_i hq; have hq2 := congrArg Prod.snd hq; with_reducible dsimp only at hq2; subst hq2)
    | simp only [↓fr_mk_iff, true_or, or_true, mvrc, mxn, mtwl, mvmem]
    | with_reducible refine fr_ite ?_ ?_
    | with_reducible refine outFr_ite ?_ ?_
    | with_reducible refine outFr_next.2 ?_
    | with_reducible refine fr_ite2 ?_ ?_
    | with_reducible refine fr_foldl ?_ (fun _ _ _ => ?_)
    | with_reducible refine setXn_frame _ _ mxn ?_ | with_reducible refine setNode_frame _ _ _ mvrc mxn mtwl mvmem ?_
    | split
    | dsimp only

theorem xnRole_frame {P : List Part} {t₀ : State} (r : BusRole) (cause : Nat) (s : State) (mxn : Part.xn ∈ P) (mrecd : Part.recd ∈ P) (mints : Part.ints ∈ P) (mheld : Part.held ∈ P) (mnoted : Part.noted ∈ P) (mlic : Part.lic ∈ P) (h₀ : SameBut P t₀ s) :
    SameBut P t₀ (xnRole r cause s) := by
  unfold xnRole
  repeat' first
    | with_reducible assumption
    | (rename_i hq; have hq2 := congrArg Prod.snd hq; with_reducible dsimp only at hq2; subst hq2)
    | simp only [↓fr_mk_iff, true_or, or_true, mxn, mrecd, mints, mheld, mnoted, mlic]
    | with_reducible refine fr_ite ?_ ?_
    | with_reducible refine outFr_ite ?_ ?_
    | with_reducible refine outFr_next.2 ?_
    | with_reducible refine fr_ite2 ?_ ?_
    | with_reducible refine fr_foldl ?_ (fun _ _ _ => ?_)
    | with_reducible refine raise_frame _ _ mints mheld mlic ?_ | with_reducible refine record_frame _ _ _ _ _ _ mrecd mnoted ?_ | with_reducible refine setXn_frame _ _ mxn ?_
    | split
    | dsimp only

theorem acycEnd_frame {P : List Part} {t₀ : State} (a : Acyc) (r : Answer) (s : State) (mxn : Part.xn ∈ P) (mkiln : Part.kiln ∈ P) (mints : Part.ints ∈ P) (mheld : Part.held ∈ P) (mnoted : Part.noted ∈ P) (mlic : Part.lic ∈ P) (h₀ : SameBut P t₀ s) :
    SameBut P t₀ (acycEnd a r s) := by
  unfold acycEnd
  repeat' first
    | with_reducible assumption
    | (rename_i hq; have hq2 := congrArg Prod.snd hq; with_reducible dsimp only at hq2; subst hq2)
    | simp only [↓fr_mk_iff, true_or, or_true, mxn, mkiln, mints, mheld, mnoted, mlic]
    | with_reducible refine fr_ite ?_ ?_
    | with_reducible refine outFr_ite ?_ ?_
    | with_reducible refine outFr_next.2 ?_
    | with_reducible refine fr_ite2 ?_ ?_
    | with_reducible refine fr_foldl ?_ (fun _ _ _ => ?_)
    | with_reducible refine reply_frame _ _ _ mkiln ?_ | with_reducible refine raise_frame _ _ mints mheld mlic ?_ | with_reducible refine setXn_frame _ _ mxn ?_
    | split
    | dsimp only

theorem acycAbort_frame {P : List Part} {t₀ : State} (code : Nat) (s : State) (mxn : Part.xn ∈ P) (mrecd : Part.recd ∈ P) (mkiln : Part.kiln ∈ P) (mints : Part.ints ∈ P) (mheld : Part.held ∈ P) (mnoted : Part.noted ∈ P) (mlic : Part.lic ∈ P) (h₀ : SameBut P t₀ s) :
    SameBut P t₀ (acycAbort code s) := by
  unfold acycAbort
  repeat' first
    | with_reducible assumption
    | (rename_i hq; have hq2 := congrArg Prod.snd hq; with_reducible dsimp only at hq2; subst hq2)
    | simp only [↓fr_mk_iff, true_or, or_true, mxn, mrecd, mkiln, mints, mheld, mnoted, mlic]
    | with_reducible refine fr_ite ?_ ?_
    | with_reducible refine outFr_ite ?_ ?_
    | with_reducible refine outFr_next.2 ?_
    | with_reducible refine fr_ite2 ?_ ?_
    | with_reducible refine fr_foldl ?_ (fun _ _ _ => ?_)
    | with_reducible refine acycEnd_frame _ _ _ mxn mkiln mints mheld mnoted mlic ?_ | with_reducible refine record_frame _ _ _ _ _ _ mrecd mnoted ?_ | with_reducible refine setXn_frame _ _ mxn ?_
    | split
    | dsimp only

theorem busLeave_frame {P : List Part} {t₀ : State} (s : State) (mxn : Part.xn ∈ P) (mrecd : Part.recd ∈ P) (mkiln : Part.kiln ∈ P) (mints : Part.ints ∈ P) (mheld : Part.held ∈ P) (mnoted : Part.noted ∈ P) (mlic : Part.lic ∈ P) (h₀ : SameBut P t₀ s) :
    SameBut P t₀ (busLeave s) := by
  unfold busLeave
  repeat' first
    | with_reducible assumption
    | (rename_i hq; have hq2 := congrArg Prod.snd hq; with_reducible dsimp only at hq2; subst hq2)
    | simp only [↓fr_mk_iff, true_or, or_true, mxn, mrecd, mkiln, mints, mheld, mnoted, mlic]
    | with_reducible refine fr_ite ?_ ?_
    | with_reducible refine outFr_ite ?_ ?_
    | with_reducible refine outFr_next.2 ?_
    | with_reducible refine fr_ite2 ?_ ?_
    | with_reducible refine fr_foldl ?_ (fun _ _ _ => ?_)
    | with_reducible refine acycAbort_frame _ _ mxn mrecd mkiln mints mheld mnoted mlic ?_ | with_reducible refine xnRole_frame _ _ _ mxn mrecd mints mheld mnoted mlic ?_ | with_reducible refine setXn_frame _ _ mxn ?_
    | split
    | dsimp only

theorem xnStep_frame {P : List Part} {t₀ : State} (s : State) (mvrc : Part.vrc ∈ P) (mxn : Part.xn ∈ P) (mtwl : Part.twl ∈ P) (mvmem : Part.vmem ∈ P) (h₀ : SameBut P t₀ s) :
    SameBut P t₀ (xnStep s) := by
  unfold xnStep
  repeat' first
    | with_reducible assumption
    | (rename_i hq; have hq2 := congrArg Prod.snd hq; with_reducible dsimp only at hq2; subst hq2)
    | simp only [↓fr_mk_iff, true_or, or_true, mvrc, mxn, mtwl, mvmem]
    | with_reducible refine fr_ite ?_ ?_
    | with_reducible refine outFr_ite ?_ ?_
    | with_reducible refine outFr_next.2 ?_
    | with_reducible refine fr_ite2 ?_ ?_
    | with_reducible refine fr_foldl ?_ (fun _ _ _ => ?_)
    | with_reducible refine setXn_frame _ _ mxn ?_ | with_reducible refine putResult_frame _ _ _ mvrc mtwl mvmem ?_
    | split
    | dsimp only

theorem loadTable_frame {P : List Part} {t₀ : State} (s : State) (mxn : Part.xn ∈ P) (h₀ : SameBut P t₀ s) :
    SameBut P t₀ (loadTable s) := by
  unfold loadTable
  repeat' first
    | with_reducible assumption
    | (rename_i hq; have hq2 := congrArg Prod.snd hq; with_reducible dsimp only at hq2; subst hq2)
    | simp only [↓fr_mk_iff, true_or, or_true, mxn]
    | with_reducible refine fr_ite ?_ ?_
    | with_reducible refine outFr_ite ?_ ?_
    | with_reducible refine outFr_next.2 ?_
    | with_reducible refine fr_ite2 ?_ ?_
    | with_reducible refine fr_foldl ?_ (fun _ _ _ => ?_)
    | with_reducible refine setXn_frame _ _ mxn ?_
    | split
    | dsimp only

theorem busStart_frame {P : List Part} {t₀ : State} (s : State) (mvrc : Part.vrc ∈ P) (mxn : Part.xn ∈ P) (mrecd : Part.recd ∈ P) (mtwl : Part.twl ∈ P) (mints : Part.ints ∈ P) (mvmem : Part.vmem ∈ P) (mheld : Part.held ∈ P) (mnoted : Part.noted ∈ P) (mlic : Part.lic ∈ P) (h₀ : SameBut P t₀ s) :
    SameBut P t₀ (busStart s) := by
  unfold busStart
  repeat' first
    | with_reducible assumption
    | (rename_i hq; have hq2 := congrArg Prod.snd hq; with_reducible dsimp only at hq2; subst hq2)
    | simp only [↓fr_mk_iff, true_or, or_true, mvrc, mxn, mrecd, mtwl, mints, mvmem, mheld, mnoted, mlic]
    | with_reducible refine fr_ite ?_ ?_
    | with_reducible refine outFr_ite ?_ ?_
    | with_reducible refine outFr_next.2 ?_
    | with_reducible refine fr_ite2 ?_ ?_
    | with_reducible refine fr_foldl ?_ (fun _ _ _ => ?_)
    | with_reducible refine setXn_frame _ _ mxn ?_ | with_reducible refine setNode_frame _ _ _ mvrc mxn mtwl mvmem ?_ | with_reducible refine putStat_frame _ _ _ mvrc mtwl mvmem ?_ | with_reducible refine xnRole_frame _ _ _ mxn mrecd mints mheld mnoted mlic ?_
    | split
    | dsimp only

theorem klmClear_frame {P : List Part} {t₀ : State} (s : State) (mkiln : Part.kiln ∈ P) (h₀ : SameBut P t₀ s) :
    SameBut P t₀ (klmClear s) := by
  unfold klmClear
  repeat' first
    | with_reducible assumption
    | (rename_i hq; have hq2 := congrArg Prod.snd hq; with_reducible dsimp only at hq2; subst hq2)
    | simp only [↓fr_mk_iff, true_or, or_true, mkiln]
    | with_reducible refine fr_ite ?_ ?_
    | with_reducible refine outFr_ite ?_ ?_
    | with_reducible refine outFr_next.2 ?_
    | with_reducible refine fr_ite2 ?_ ?_
    | with_reducible refine fr_foldl ?_ (fun _ _ _ => ?_)
    | split
    | dsimp only

theorem klmRefuse_frame {P : List Part} {t₀ : State} (code : Nat) (s : State) (mrecd : Part.recd ∈ P) (mkiln : Part.kiln ∈ P) (mnoted : Part.noted ∈ P) (h₀ : SameBut P t₀ s) :
    SameBut P t₀ (klmRefuse code s) := by
  unfold klmRefuse
  repeat' first
    | with_reducible assumption
    | (rename_i hq; have hq2 := congrArg Prod.snd hq; with_reducible dsimp only at hq2; subst hq2)
    | simp only [↓fr_mk_iff, true_or, or_true, mrecd, mkiln, mnoted]
    | with_reducible refine fr_ite ?_ ?_
    | with_reducible refine outFr_ite ?_ ?_
    | with_reducible refine outFr_next.2 ?_
    | with_reducible refine fr_ite2 ?_ ?_
    | with_reducible refine fr_foldl ?_ (fun _ _ _ => ?_)
    | with_reducible refine record_frame _ _ _ _ _ _ mrecd mnoted ?_ | with_reducible refine klmClear_frame _ mkiln ?_ | with_reducible refine reply_frame _ _ _ mkiln ?_
    | split
    | dsimp only

theorem klmDiscard_frame {P : List Part} {t₀ : State} (s : State) (mrecd : Part.recd ∈ P) (mkiln : Part.kiln ∈ P) (mnoted : Part.noted ∈ P) (h₀ : SameBut P t₀ s) :
    SameBut P t₀ (klmDiscard s) := by
  unfold klmDiscard
  repeat' first
    | with_reducible assumption
    | (rename_i hq; have hq2 := congrArg Prod.snd hq; with_reducible dsimp only at hq2; subst hq2)
    | simp only [↓fr_mk_iff, true_or, or_true, mrecd, mkiln, mnoted]
    | with_reducible refine fr_ite ?_ ?_
    | with_reducible refine outFr_ite ?_ ?_
    | with_reducible refine outFr_next.2 ?_
    | with_reducible refine fr_ite2 ?_ ?_
    | with_reducible refine fr_foldl ?_ (fun _ _ _ => ?_)
    | with_reducible refine klmRefuse_frame _ _ mrecd mkiln mnoted ?_
    | split
    | dsimp only

theorem twinLeave_frame {P : List Part} {t₀ : State} (cause : Nat) (new : Nat) (s : State) (mbanks : Part.banks ∈ P) (mrecd : Part.recd ∈ P) (mtwl : Part.twl ∈ P) (mints : Part.ints ∈ P) (mheld : Part.held ∈ P) (mnoted : Part.noted ∈ P) (mlic : Part.lic ∈ P) (h₀ : SameBut P t₀ s) :
    SameBut P t₀ (twinLeave cause new s) := by
  unfold twinLeave
  repeat' first
    | with_reducible assumption
    | (rename_i hq; have hq2 := congrArg Prod.snd hq; with_reducible dsimp only at hq2; subst hq2)
    | simp only [↓fr_mk_iff, true_or, or_true, mbanks, mrecd, mtwl, mints, mheld, mnoted, mlic]
    | with_reducible refine fr_ite ?_ ?_
    | with_reducible refine outFr_ite ?_ ?_
    | with_reducible refine outFr_next.2 ?_
    | with_reducible refine fr_ite2 ?_ ?_
    | with_reducible refine fr_foldl ?_ (fun _ _ _ => ?_)
    | with_reducible refine twinHold_frame _ _ mbanks ?_ | with_reducible refine twinEnd_frame _ _ _ mrecd mtwl mints mheld mnoted mlic ?_
    | split
    | dsimp only

theorem setLane_frame {P : List Part} {t₀ : State} (l : Fin 4) (f : Lane → Lane) (s : State) (mvrc : Part.vrc ∈ P) (h₀ : SameBut P t₀ s) :
    SameBut P t₀ (setLane l f s) := by
  unfold setLane
  repeat' first
    | with_reducible assumption
    | (rename_i hq; have hq2 := congrArg Prod.snd hq; with_reducible dsimp only at hq2; subst hq2)
    | simp only [↓fr_mk_iff, true_or, or_true, mvrc]
    | with_reducible refine fr_ite ?_ ?_
    | with_reducible refine outFr_ite ?_ ?_
    | with_reducible refine outFr_next.2 ?_
    | with_reducible refine fr_ite2 ?_ ?_
    | with_reducible refine fr_foldl ?_ (fun _ _ _ => ?_)
    | split
    | dsimp only

theorem mapLanes_frame {P : List Part} {t₀ : State} (f : Lane → Lane) (s : State) (mvrc : Part.vrc ∈ P) (h₀ : SameBut P t₀ s) :
    SameBut P t₀ (mapLanes f s) := by
  unfold mapLanes
  repeat' first
    | with_reducible assumption
    | (rename_i hq; have hq2 := congrArg Prod.snd hq; with_reducible dsimp only at hq2; subst hq2)
    | simp only [↓fr_mk_iff, true_or, or_true, mvrc]
    | with_reducible refine fr_ite ?_ ?_
    | with_reducible refine outFr_ite ?_ ?_
    | with_reducible refine outFr_next.2 ?_
    | with_reducible refine fr_ite2 ?_ ?_
    | with_reducible refine fr_foldl ?_ (fun _ _ _ => ?_)
    | split
    | dsimp only

theorem setModState_frame {P : List Part} {t₀ : State} (new : ModState) (cause : Nat) (s : State) (mmod : Part.mod ∈ P) (mrecd : Part.recd ∈ P) (mnoted : Part.noted ∈ P) (h₀ : SameBut P t₀ s) :
    SameBut P t₀ (setModState new cause s) := by
  unfold setModState
  repeat' first
    | with_reducible assumption
    | (rename_i hq; have hq2 := congrArg Prod.snd hq; with_reducible dsimp only at hq2; subst hq2)
    | simp only [↓fr_mk_iff, true_or, or_true, mmod, mrecd, mnoted]
    | with_reducible refine fr_ite ?_ ?_
    | with_reducible refine outFr_ite ?_ ?_
    | with_reducible refine outFr_next.2 ?_
    | with_reducible refine fr_ite2 ?_ ?_
    | with_reducible refine fr_foldl ?_ (fun _ _ _ => ?_)
    | with_reducible refine record_frame _ _ _ _ _ _ mrecd mnoted ?_
    | split
    | dsimp only

theorem setVote_frame {P : List Part} {t₀ : State} (mode : VoteMode) (subst : Bool) (cause : Nat) (s : State) (mvrc : Part.vrc ∈ P) (mrecd : Part.recd ∈ P) (mints : Part.ints ∈ P) (mheld : Part.held ∈ P) (mnoted : Part.noted ∈ P) (mlic : Part.lic ∈ P) (h₀ : SameBut P t₀ s) :
    SameBut P t₀ (setVote mode subst cause s) := by
  unfold setVote
  repeat' first
    | with_reducible assumption
    | (rename_i hq; have hq2 := congrArg Prod.snd hq; with_reducible dsimp only at hq2; subst hq2)
    | simp only [↓fr_mk_iff, true_or, or_true, mvrc, mrecd, mints, mheld, mnoted, mlic]
    | with_reducible refine fr_ite ?_ ?_
    | with_reducible refine outFr_ite ?_ ?_
    | with_reducible refine outFr_next.2 ?_
    | with_reducible refine fr_ite2 ?_ ?_
    | with_reducible refine fr_foldl ?_ (fun _ _ _ => ?_)
    | with_reducible refine raise_frame _ _ mints mheld mlic ?_ | with_reducible refine record_frame _ _ _ _ _ _ mrecd mnoted ?_
    | split
    | dsimp only

theorem retire_frame {P : List Part} {t₀ : State} (l : Fin 4) (test : Nat) (addr : Option Nat) (cause : Nat) (s : State) (mpwr : Part.pwr ∈ P) (mvrc : Part.vrc ∈ P) (mrot : Part.rot ∈ P) (mrecd : Part.recd ∈ P) (mints : Part.ints ∈ P) (mheld : Part.held ∈ P) (mnoted : Part.noted ∈ P) (mlic : Part.lic ∈ P) (h₀ : SameBut P t₀ s) :
    SameBut P t₀ (retire l test addr cause s) := by
  unfold retire
  repeat' first
    | with_reducible assumption
    | (rename_i hq; have hq2 := congrArg Prod.snd hq; with_reducible dsimp only at hq2; subst hq2)
    | simp only [↓fr_mk_iff, true_or, or_true, mpwr, mvrc, mrot, mrecd, mints, mheld, mnoted, mlic]
    | with_reducible refine fr_ite ?_ ?_
    | with_reducible refine outFr_ite ?_ ?_
    | with_reducible refine outFr_next.2 ?_
    | with_reducible refine fr_ite2 ?_ ?_
    | with_reducible refine fr_foldl ?_ (fun _ _ _ => ?_)
    | with_reducible refine setLane_frame _ _ _ mvrc ?_ | with_reducible refine raise_frame _ _ mints mheld mlic ?_ | with_reducible refine record_frame _ _ _ _ _ _ mrecd mnoted ?_
    | split
    | dsimp only

theorem toQuarantine_frame {P : List Part} {t₀ : State} (l : Fin 4) (cause : Nat) (s : State) (mpwr : Part.pwr ∈ P) (mvrc : Part.vrc ∈ P) (mrot : Part.rot ∈ P) (mrecd : Part.recd ∈ P) (mints : Part.ints ∈ P) (mheld : Part.held ∈ P) (mnoted : Part.noted ∈ P) (mlic : Part.lic ∈ P) (h₀ : SameBut P t₀ s) :
    SameBut P t₀ (toQuarantine l cause s) := by
  unfold toQuarantine
  repeat' first
    | with_reducible assumption
    | (rename_i hq; have hq2 := congrArg Prod.snd hq; with_reducible dsimp only at hq2; subst hq2)
    | simp only [↓fr_mk_iff, true_or, or_true, mpwr, mvrc, mrot, mrecd, mints, mheld, mnoted, mlic]
    | with_reducible refine fr_ite ?_ ?_
    | with_reducible refine outFr_ite ?_ ?_
    | with_reducible refine outFr_next.2 ?_
    | with_reducible refine fr_ite2 ?_ ?_
    | with_reducible refine fr_foldl ?_ (fun _ _ _ => ?_)
    | with_reducible refine setLane_frame _ _ _ mvrc ?_ | with_reducible refine record_frame _ _ _ _ _ _ mrecd mnoted ?_ | with_reducible refine retire_frame _ _ _ _ _ mpwr mvrc mrot mrecd mints mheld mnoted mlic ?_
    | split
    | dsimp only

theorem rewedgeDrop_frame {P : List Part} {t₀ : State} (s : State) (mvrc : Part.vrc ∈ P) (mrot : Part.rot ∈ P) (mheld : Part.held ∈ P) (mlic : Part.lic ∈ P) (h₀ : SameBut P t₀ s) :
    SameBut P t₀ (rewedgeDrop s) := by
  unfold rewedgeDrop
  repeat' first
    | with_reducible assumption
    | (rename_i hq; have hq2 := congrArg Prod.snd hq; with_reducible dsimp only at hq2; subst hq2)
    | simp only [↓fr_mk_iff, true_or, or_true, mvrc, mrot, mheld, mlic]
    | with_reducible refine fr_ite ?_ ?_
    | with_reducible refine outFr_ite ?_ ?_
    | with_reducible refine outFr_next.2 ?_
    | with_reducible refine fr_ite2 ?_ ?_
    | with_reducible refine fr_foldl ?_ (fun _ _ _ => ?_)
    | with_reducible refine setLane_frame _ _ _ mvrc ?_ | with_reducible refine deliver_frame _ _ mheld mlic ?_
    | split
    | dsimp only

theorem wedgeAbort_frame {P : List Part} {t₀ : State} (l : Fin 4) (why page : Nat) (s : State) (mvrc : Part.vrc ∈ P) (mrot : Part.rot ∈ P) (mrecd : Part.recd ∈ P) (mints : Part.ints ∈ P) (mheld : Part.held ∈ P) (mnoted : Part.noted ∈ P) (mlic : Part.lic ∈ P) (h₀ : SameBut P t₀ s) :
    SameBut P t₀ (wedgeAbort l why page s) := by
  unfold wedgeAbort
  repeat' first
    | with_reducible assumption
    | (rename_i hq; have hq2 := congrArg Prod.snd hq; with_reducible dsimp only at hq2; subst hq2)
    | simp only [↓fr_mk_iff, true_or, or_true, mvrc, mrot, mrecd, mints, mheld, mnoted, mlic]
    | with_reducible refine fr_ite ?_ ?_
    | with_reducible refine outFr_ite ?_ ?_
    | with_reducible refine outFr_next.2 ?_
    | with_reducible refine fr_ite2 ?_ ?_
    | with_reducible refine fr_foldl ?_ (fun _ _ _ => ?_)
    | with_reducible refine rewedgeDrop_frame _ mvrc mrot mheld mlic ?_ | with_reducible refine raise_frame _ _ mints mheld mlic ?_ | with_reducible refine record_frame _ _ _ _ _ _ mrecd mnoted ?_
    | split
    | dsimp only

theorem bisqueFail_frame {P : List Part} {t₀ : State} (step addr : Nat) (s : State) (mrot : Part.rot ∈ P) (mcys : Part.cys ∈ P) (mclk : Part.clk ∈ P) (mtim : Part.tim ∈ P) (mrecd : Part.recd ∈ P) (mtwl : Part.twl ∈ P) (mlnc : Part.lnc ∈ P) (mbw : Part.bw ∈ P) (mints : Part.ints ∈ P) (mmems : Part.mems ∈ P) (mcores : Part.cores ∈ P) (mheld : Part.held ∈ P) (mnoted : Part.noted ∈ P) (mlic : Part.lic ∈ P) (h₀ : SameBut P t₀ s) :
    SameBut P t₀ (bisqueFail step addr s) := by
  unfold bisqueFail
  repeat' first
    | with_reducible assumption
    | (rename_i hq; have hq2 := congrArg Prod.snd hq; with_reducible dsimp only at hq2; subst hq2)
    | simp only [↓fr_mk_iff, true_or, or_true, mrot, mcys, mclk, mtim, mrecd, mtwl, mlnc, mbw, mints, mmems, mcores, mheld, mnoted, mlic]
    | with_reducible refine fr_ite ?_ ?_
    | with_reducible refine outFr_ite ?_ ?_
    | with_reducible refine outFr_next.2 ?_
    | with_reducible refine fr_ite2 ?_ ?_
    | with_reducible refine fr_foldl ?_ (fun _ _ _ => ?_)
    | with_reducible refine raise_frame _ _ mints mheld mlic ?_ | with_reducible refine record_frame _ _ _ _ _ _ mrecd mnoted ?_ | with_reducible refine step_frame _ mrot mcys mclk mtim mrecd mtwl mlnc mbw mmems mcores mlic ?_
    | split
    | dsimp only

theorem rotStop_frame {P : List Part} {t₀ : State} (s : State) (mvrc : Part.vrc ∈ P) (mrot : Part.rot ∈ P) (mrecd : Part.recd ∈ P) (mints : Part.ints ∈ P) (mheld : Part.held ∈ P) (mnoted : Part.noted ∈ P) (mlic : Part.lic ∈ P) (h₀ : SameBut P t₀ s) :
    SameBut P t₀ (rotStop s) := by
  unfold rotStop
  repeat' first
    | with_reducible assumption
    | (rename_i hq; have hq2 := congrArg Prod.snd hq; with_reducible dsimp only at hq2; subst hq2)
    | simp only [↓fr_mk_iff, true_or, or_true, mvrc, mrot, mrecd, mints, mheld, mnoted, mlic]
    | with_reducible refine fr_ite ?_ ?_
    | with_reducible refine outFr_ite ?_ ?_
    | with_reducible refine outFr_next.2 ?_
    | with_reducible refine fr_ite2 ?_ ?_
    | with_reducible refine fr_foldl ?_ (fun _ _ _ => ?_)
    | with_reducible refine wedgeAbort_frame _ _ _ _ mvrc mrot mrecd mints mheld mnoted mlic ?_
    | split
    | dsimp only

theorem lanesLeave_frame {P : List Part} {t₀ : State} (s : State) (mvrc : Part.vrc ∈ P) (h₀ : SameBut P t₀ s) :
    SameBut P t₀ (lanesLeave s) := by
  unfold lanesLeave
  repeat' first
    | with_reducible assumption
    | (rename_i hq; have hq2 := congrArg Prod.snd hq; with_reducible dsimp only at hq2; subst hq2)
    | simp only [↓fr_mk_iff, true_or, or_true, mvrc]
    | with_reducible refine fr_ite ?_ ?_
    | with_reducible refine outFr_ite ?_ ?_
    | with_reducible refine outFr_next.2 ?_
    | with_reducible refine fr_ite2 ?_ ?_
    | with_reducible refine fr_foldl ?_ (fun _ _ _ => ?_)
    | with_reducible refine mapLanes_frame _ _ mvrc ?_
    | split
    | dsimp only

theorem leaveRun_frame {P : List Part} {t₀ : State} (reason cause new : Nat) (s : State) (mvrc : Part.vrc ∈ P) (mrot : Part.rot ∈ P) (mcys : Part.cys ∈ P) (mbanks : Part.banks ∈ P) (mchans : Part.chans ∈ P) (mxn : Part.xn ∈ P) (mrecd : Part.recd ∈ P) (mkiln : Part.kiln ∈ P) (mtwl : Part.twl ∈ P) (mints : Part.ints ∈ P) (mheld : Part.held ∈ P) (mnoted : Part.noted ∈ P) (mlic : Part.lic ∈ P) (h₀ : SameBut P t₀ s) :
    SameBut P t₀ (leaveRun reason cause new s) := by
  unfold leaveRun
  repeat' first
    | with_reducible assumption
    | (rename_i hq; have hq2 := congrArg Prod.snd hq; with_reducible dsimp only at hq2; subst hq2)
    | simp only [↓fr_mk_iff, true_or, or_true, mvrc, mrot, mcys, mbanks, mchans, mxn, mrecd, mkiln, mtwl, mints, mheld, mnoted, mlic]
    | with_reducible refine fr_ite ?_ ?_
    | with_reducible refine outFr_ite ?_ ?_
    | with_reducible refine outFr_next.2 ?_
    | with_reducible refine fr_ite2 ?_ ?_
    | with_reducible refine fr_foldl ?_ (fun _ _ _ => ?_)
    | with_reducible refine twinLeave_frame _ _ _ mbanks mrecd mtwl mints mheld mnoted mlic ?_ | with_reducible refine klmDiscard_frame _ mrecd mkiln mnoted ?_ | with_reducible refine busLeave_frame _ mxn mrecd mkiln mints mheld mnoted mlic ?_ | with_reducible refine cysStop_frame _ mcys ?_ | with_reducible refine banksSafe_frame _ _ mchans mrecd mints mheld mnoted mlic ?_ | with_reducible refine lanesLeave_frame _ mvrc ?_ | with_reducible refine rotStop_frame _ mvrc mrot mrecd mints mheld mnoted mlic ?_ | with_reducible refine setVote_frame _ _ _ _ mvrc mrecd mints mheld mnoted mlic ?_
    | split
    | dsimp only

theorem enterSafeHold_frame {P : List Part} {t₀ : State} (cause : Nat) (s : State) (mmod : Part.mod ∈ P) (mvrc : Part.vrc ∈ P) (mrot : Part.rot ∈ P) (mcys : Part.cys ∈ P) (mbanks : Part.banks ∈ P) (mchans : Part.chans ∈ P) (mxn : Part.xn ∈ P) (mrecd : Part.recd ∈ P) (mkiln : Part.kiln ∈ P) (mtwl : Part.twl ∈ P) (mints : Part.ints ∈ P) (mheld : Part.held ∈ P) (mnoted : Part.noted ∈ P) (mlic : Part.lic ∈ P) (h₀ : SameBut P t₀ s) :
    SameBut P t₀ (enterSafeHold cause s) := by
  unfold enterSafeHold
  repeat' first
    | with_reducible assumption
    | (rename_i hq; have hq2 := congrArg Prod.snd hq; with_reducible dsimp only at hq2; subst hq2)
    | simp only [↓fr_mk_iff, true_or, or_true, mmod, mvrc, mrot, mcys, mbanks, mchans, mxn, mrecd, mkiln, mtwl, mints, mheld, mnoted, mlic]
    | with_reducible refine fr_ite ?_ ?_
    | with_reducible refine outFr_ite ?_ ?_
    | with_reducible refine outFr_next.2 ?_
    | with_reducible refine fr_ite2 ?_ ?_
    | with_reducible refine fr_foldl ?_ (fun _ _ _ => ?_)
    | with_reducible refine leaveRun_frame _ _ _ _ mvrc mrot mcys mbanks mchans mxn mrecd mkiln mtwl mints mheld mnoted mlic ?_ | with_reducible refine setVote_frame _ _ _ _ mvrc mrecd mints mheld mnoted mlic ?_ | with_reducible refine lanesLeave_frame _ mvrc ?_ | with_reducible refine banksSafe_frame _ _ mchans mrecd mints mheld mnoted mlic ?_ | with_reducible refine setModState_frame _ _ _ mmod mrecd mnoted ?_
    | split
    | dsimp only

theorem enterService_frame {P : List Part} {t₀ : State} (cause : Nat) (s : State) (mmod : Part.mod ∈ P) (mvrc : Part.vrc ∈ P) (mrot : Part.rot ∈ P) (mcys : Part.cys ∈ P) (mbanks : Part.banks ∈ P) (mchans : Part.chans ∈ P) (mxn : Part.xn ∈ P) (mrecd : Part.recd ∈ P) (mkiln : Part.kiln ∈ P) (mtwl : Part.twl ∈ P) (mints : Part.ints ∈ P) (mheld : Part.held ∈ P) (mnoted : Part.noted ∈ P) (mlic : Part.lic ∈ P) (h₀ : SameBut P t₀ s) :
    SameBut P t₀ (enterService cause s) := by
  unfold enterService
  repeat' first
    | with_reducible assumption
    | (rename_i hq; have hq2 := congrArg Prod.snd hq; with_reducible dsimp only at hq2; subst hq2)
    | simp only [↓fr_mk_iff, true_or, or_true, mmod, mvrc, mrot, mcys, mbanks, mchans, mxn, mrecd, mkiln, mtwl, mints, mheld, mnoted, mlic]
    | with_reducible refine fr_ite ?_ ?_
    | with_reducible refine outFr_ite ?_ ?_
    | with_reducible refine outFr_next.2 ?_
    | with_reducible refine fr_ite2 ?_ ?_
    | with_reducible refine fr_foldl ?_ (fun _ _ _ => ?_)
    | with_reducible refine leaveRun_frame _ _ _ _ mvrc mrot mcys mbanks mchans mxn mrecd mkiln mtwl mints mheld mnoted mlic ?_ | with_reducible refine setModState_frame _ _ _ mmod mrecd mnoted ?_
    | split
    | dsimp only

theorem noteExcl_frame {P : List Part} {t₀ : State} (groups : BitVec 13) (noMaj : Bool) (cause : Nat) (lanes : List (Fin 4)) (lane : Nat) (b : Beat) (s : State) (mvrc : Part.vrc ∈ P) (h₀ : SameBut P t₀ s) :
    SameBut P t₀ (noteExcl groups noMaj cause lanes lane b s) := by
  unfold noteExcl
  repeat' first
    | with_reducible assumption
    | (rename_i hq; have hq2 := congrArg Prod.snd hq; with_reducible dsimp only at hq2; subst hq2)
    | simp only [↓fr_mk_iff, true_or, or_true, mvrc]
    | with_reducible refine fr_ite ?_ ?_
    | with_reducible refine outFr_ite ?_ ?_
    | with_reducible refine outFr_next.2 ?_
    | with_reducible refine fr_ite2 ?_ ?_
    | with_reducible refine fr_foldl ?_ (fun _ _ _ => ?_)
    | split
    | dsimp only

theorem noMajority_frame {P : List Part} {t₀ : State} (lanes : List (Fin 4)) (cause : Nat) (groups : BitVec 13) (b : Beat) (s : State) (mmod : Part.mod ∈ P) (mvrc : Part.vrc ∈ P) (mrot : Part.rot ∈ P) (mcys : Part.cys ∈ P) (mbanks : Part.banks ∈ P) (mchans : Part.chans ∈ P) (mxn : Part.xn ∈ P) (mrecd : Part.recd ∈ P) (mkiln : Part.kiln ∈ P) (mtwl : Part.twl ∈ P) (mints : Part.ints ∈ P) (mheld : Part.held ∈ P) (mnoted : Part.noted ∈ P) (mlic : Part.lic ∈ P) (h₀ : SameBut P t₀ s) :
    SameBut P t₀ (noMajority lanes cause groups b s) := by
  unfold noMajority
  repeat' first
    | with_reducible assumption
    | (rename_i hq; have hq2 := congrArg Prod.snd hq; with_reducible dsimp only at hq2; subst hq2)
    | simp only [↓fr_mk_iff, true_or, or_true, mmod, mvrc, mrot, mcys, mbanks, mchans, mxn, mrecd, mkiln, mtwl, mints, mheld, mnoted, mlic]
    | with_reducible refine fr_ite ?_ ?_
    | with_reducible refine outFr_ite ?_ ?_
    | with_reducible refine outFr_next.2 ?_
    | with_reducible refine fr_ite2 ?_ ?_
    | with_reducible refine fr_foldl ?_ (fun _ _ _ => ?_)
    | with_reducible refine noteExcl_frame _ _ _ _ _ _ _ mvrc ?_ | with_reducible refine record_frame _ _ _ _ _ _ mrecd mnoted ?_ | with_reducible refine enterSafeHold_frame _ _ mmod mvrc mrot mcys mbanks mchans mxn mrecd mkiln mtwl mints mheld mnoted mlic ?_
    | split
    | dsimp only

theorem rewedgeAfterLoss_frame {P : List Part} {t₀ : State} (l : Fin 4) (s : State) (mvrc : Part.vrc ∈ P) (mrot : Part.rot ∈ P) (h₀ : SameBut P t₀ s) :
    SameBut P t₀ (rewedgeAfterLoss l s) := by
  unfold rewedgeAfterLoss
  repeat' first
    | with_reducible assumption
    | (rename_i hq; have hq2 := congrArg Prod.snd hq; with_reducible dsimp only at hq2; subst hq2)
    | simp only [↓fr_mk_iff, true_or, or_true, mvrc, mrot]
    | with_reducible refine fr_ite ?_ ?_
    | with_reducible refine outFr_ite ?_ ?_
    | with_reducible refine outFr_next.2 ?_
    | with_reducible refine fr_ite2 ?_ ?_
    | with_reducible refine fr_foldl ?_ (fun _ _ _ => ?_)
    | with_reducible refine setLane_frame _ _ _ mvrc ?_
    | split
    | dsimp only

theorem excludeLane_frame {P : List Part} {t₀ : State} (l : Fin 4) (cause : Nat) (groups : BitVec 13) (b : Beat) (s : State) (mmod : Part.mod ∈ P) (mpwr : Part.pwr ∈ P) (mvrc : Part.vrc ∈ P) (mrot : Part.rot ∈ P) (mrecd : Part.recd ∈ P) (mints : Part.ints ∈ P) (mheld : Part.held ∈ P) (mnoted : Part.noted ∈ P) (mlic : Part.lic ∈ P) (h₀ : SameBut P t₀ s) :
    SameBut P t₀ (excludeLane l cause groups b s) := by
  unfold excludeLane
  repeat' first
    | with_reducible assumption
    | (rename_i hq; have hq2 := congrArg Prod.snd hq; with_reducible dsimp only at hq2; subst hq2)
    | simp only [↓fr_mk_iff, true_or, or_true, mmod, mpwr, mvrc, mrot, mrecd, mints, mheld, mnoted, mlic]
    | with_reducible refine fr_ite ?_ ?_
    | with_reducible refine outFr_ite ?_ ?_
    | with_reducible refine outFr_next.2 ?_
    | with_reducible refine fr_ite2 ?_ ?_
    | with_reducible refine fr_foldl ?_ (fun _ _ _ => ?_)
    | with_reducible refine rewedgeAfterLoss_frame _ _ mvrc mrot ?_ | with_reducible refine noteExcl_frame _ _ _ _ _ _ _ mvrc ?_ | with_reducible refine raise_frame _ _ mints mheld mlic ?_ | with_reducible refine record_frame _ _ _ _ _ _ mrecd mnoted ?_ | with_reducible refine toQuarantine_frame _ _ _ mpwr mvrc mrot mrecd mints mheld mnoted mlic ?_ | with_reducible refine setVote_frame _ _ _ _ mvrc mrecd mints mheld mnoted mlic ?_ | with_reducible refine setModState_frame _ _ _ mmod mrecd mnoted ?_
    | split
    | dsimp only

theorem noteSilence_frame {P : List Part} {t₀ : State} (l : Fin 4) (i : LaneInput) (s : State) (mvrc : Part.vrc ∈ P) (mrecd : Part.recd ∈ P) (mints : Part.ints ∈ P) (mheld : Part.held ∈ P) (mnoted : Part.noted ∈ P) (mlic : Part.lic ∈ P) (h₀ : SameBut P t₀ s) :
    SameBut P t₀ (noteSilence l i s) := by
  unfold noteSilence
  repeat' first
    | with_reducible assumption
    | (rename_i hq; have hq2 := congrArg Prod.snd hq; with_reducible dsimp only at hq2; subst hq2)
    | simp only [↓fr_mk_iff, true_or, or_true, mvrc, mrecd, mints, mheld, mnoted, mlic]
    | with_reducible refine fr_ite ?_ ?_
    | with_reducible refine outFr_ite ?_ ?_
    | with_reducible refine outFr_next.2 ?_
    | with_reducible refine fr_ite2 ?_ ?_
    | with_reducible refine fr_foldl ?_ (fun _ _ _ => ?_)
    | with_reducible refine setLane_frame _ _ _ mvrc ?_ | with_reducible refine raise_frame _ _ mints mheld mlic ?_ | with_reducible refine record_frame _ _ _ _ _ _ mrecd mnoted ?_
    | split
    | dsimp only

theorem applyVerdict_frame {P : List Part} {t₀ : State} (v : Verdict) (s : State) (mmod : Part.mod ∈ P) (mpwr : Part.pwr ∈ P) (mvrc : Part.vrc ∈ P) (mrot : Part.rot ∈ P) (mcys : Part.cys ∈ P) (mbanks : Part.banks ∈ P) (mchans : Part.chans ∈ P) (mxn : Part.xn ∈ P) (mrecd : Part.recd ∈ P) (mkiln : Part.kiln ∈ P) (mtwl : Part.twl ∈ P) (mints : Part.ints ∈ P) (mheld : Part.held ∈ P) (mnoted : Part.noted ∈ P) (mlic : Part.lic ∈ P) (h₀ : SameBut P t₀ s) :
    SameBut P t₀ (applyVerdict v s).2 := by
  unfold applyVerdict
  repeat' first
    | with_reducible assumption
    | (rename_i hq; have hq2 := congrArg Prod.snd hq; with_reducible dsimp only at hq2; subst hq2)
    | simp only [↓fr_mk_iff, true_or, or_true, mmod, mpwr, mvrc, mrot, mcys, mbanks, mchans, mxn, mrecd, mkiln, mtwl, mints, mheld, mnoted, mlic]
    | with_reducible refine fr_ite ?_ ?_
    | with_reducible refine outFr_ite ?_ ?_
    | with_reducible refine outFr_next.2 ?_
    | with_reducible refine fr_ite2 ?_ ?_
    | with_reducible refine fr_foldl ?_ (fun _ _ _ => ?_)
    | with_reducible refine excludeLane_frame _ _ _ _ _ mmod mpwr mvrc mrot mrecd mints mheld mnoted mlic ?_ | with_reducible refine noMajority_frame _ _ _ _ _ mmod mvrc mrot mcys mbanks mchans mxn mrecd mkiln mtwl mints mheld mnoted mlic ?_
    | split
    | dsimp only

theorem voteClock_frame {P : List Part} {t₀ : State} (i : Fin 4 → LaneInput) (s : State) (mmod : Part.mod ∈ P) (mpwr : Part.pwr ∈ P) (mvrc : Part.vrc ∈ P) (mrot : Part.rot ∈ P) (mcys : Part.cys ∈ P) (mbanks : Part.banks ∈ P) (mchans : Part.chans ∈ P) (mxn : Part.xn ∈ P) (mrecd : Part.recd ∈ P) (mkiln : Part.kiln ∈ P) (mtwl : Part.twl ∈ P) (mints : Part.ints ∈ P) (mheld : Part.held ∈ P) (mnoted : Part.noted ∈ P) (mlic : Part.lic ∈ P) (h₀ : SameBut P t₀ s) :
    SameBut P t₀ (voteClock i s).2 := by
  unfold voteClock
  repeat' first
    | with_reducible assumption
    | (rename_i hq; have hq2 := congrArg Prod.snd hq; with_reducible dsimp only at hq2; subst hq2)
    | simp only [↓fr_mk_iff, true_or, or_true, mmod, mpwr, mvrc, mrot, mcys, mbanks, mchans, mxn, mrecd, mkiln, mtwl, mints, mheld, mnoted, mlic]
    | with_reducible refine fr_ite ?_ ?_
    | with_reducible refine outFr_ite ?_ ?_
    | with_reducible refine outFr_next.2 ?_
    | with_reducible refine fr_ite2 ?_ ?_
    | with_reducible refine fr_foldl ?_ (fun _ _ _ => ?_)
    | with_reducible refine noteSilence_frame _ _ _ mvrc mrecd mints mheld mnoted mlic ?_ | with_reducible refine applyVerdict_frame _ _ mmod mpwr mvrc mrot mcys mbanks mchans mxn mrecd mkiln mtwl mints mheld mnoted mlic ?_
    | split
    | dsimp only

theorem spareSilent_frame {P : List Part} {t₀ : State} (l : Fin 4) (i : LaneInput) (s : State) (mmod : Part.mod ∈ P) (mpwr : Part.pwr ∈ P) (mvrc : Part.vrc ∈ P) (mrot : Part.rot ∈ P) (mcys : Part.cys ∈ P) (mclk : Part.clk ∈ P) (mtim : Part.tim ∈ P) (mrecd : Part.recd ∈ P) (mtwl : Part.twl ∈ P) (mlnc : Part.lnc ∈ P) (mbw : Part.bw ∈ P) (mints : Part.ints ∈ P) (mmems : Part.mems ∈ P) (mcores : Part.cores ∈ P) (mheld : Part.held ∈ P) (mnoted : Part.noted ∈ P) (mlic : Part.lic ∈ P) (h₀ : SameBut P t₀ s) :
    SameBut P t₀ (spareSilent l i s) := by
  unfold spareSilent
  repeat' first
    | with_reducible assumption
    | (rename_i hq; have hq2 := congrArg Prod.snd hq; with_reducible dsimp only at hq2; subst hq2)
    | simp only [↓fr_mk_iff, true_or, or_true, mmod, mpwr, mvrc, mrot, mcys, mclk, mtim, mrecd, mtwl, mlnc, mbw, mints, mmems, mcores, mheld, mnoted, mlic]
    | with_reducible refine fr_ite ?_ ?_
    | with_reducible refine outFr_ite ?_ ?_
    | with_reducible refine outFr_next.2 ?_
    | with_reducible refine fr_ite2 ?_ ?_
    | with_reducible refine fr_foldl ?_ (fun _ _ _ => ?_)
    | with_reducible refine noteSilence_frame _ _ _ mvrc mrecd mints mheld mnoted mlic ?_ | with_reducible refine toQuarantine_frame _ _ _ mpwr mvrc mrot mrecd mints mheld mnoted mlic ?_ | with_reducible refine bisqueFail_frame _ _ _ mrot mcys mclk mtim mrecd mtwl mlnc mbw mints mmems mcores mheld mnoted mlic ?_ | with_reducible refine wedgeAbort_frame _ _ _ _ mvrc mrot mrecd mints mheld mnoted mlic ?_ | with_reducible refine setModState_frame _ _ _ mmod mrecd mnoted ?_ | with_reducible refine setVote_frame _ _ _ _ mvrc mrecd mints mheld mnoted mlic ?_
    | split
    | dsimp only

theorem wideStop_frame {P : List Part} {t₀ : State} (l : Fin 4) (s : State) (mvrc : Part.vrc ∈ P) (h₀ : SameBut P t₀ s) :
    SameBut P t₀ (wideStop l s) := by
  unfold wideStop
  repeat' first
    | with_reducible assumption
    | (rename_i hq; have hq2 := congrArg Prod.snd hq; with_reducible dsimp only at hq2; subst hq2)
    | simp only [↓fr_mk_iff, true_or, or_true, mvrc]
    | with_reducible refine fr_ite ?_ ?_
    | with_reducible refine outFr_ite ?_ ?_
    | with_reducible refine outFr_next.2 ?_
    | with_reducible refine fr_ite2 ?_ ?_
    | with_reducible refine fr_foldl ?_ (fun _ _ _ => ?_)
    | with_reducible refine setLane_frame _ _ _ mvrc ?_
    | split
    | dsimp only

theorem laneSilent_frame {P : List Part} {t₀ : State} (l : Fin 4) (i : LaneInput) (s : State) (mmod : Part.mod ∈ P) (mpwr : Part.pwr ∈ P) (mvrc : Part.vrc ∈ P) (mrot : Part.rot ∈ P) (mcys : Part.cys ∈ P) (mclk : Part.clk ∈ P) (mtim : Part.tim ∈ P) (mbanks : Part.banks ∈ P) (mchans : Part.chans ∈ P) (mxn : Part.xn ∈ P) (mrecd : Part.recd ∈ P) (mkiln : Part.kiln ∈ P) (mtwl : Part.twl ∈ P) (mlnc : Part.lnc ∈ P) (mbw : Part.bw ∈ P) (mints : Part.ints ∈ P) (mmems : Part.mems ∈ P) (mcores : Part.cores ∈ P) (mheld : Part.held ∈ P) (mnoted : Part.noted ∈ P) (mlic : Part.lic ∈ P) (h₀ : SameBut P t₀ s) :
    SameBut P t₀ (laneSilent l i s) := by
  unfold laneSilent
  repeat' first
    | with_reducible assumption
    | (rename_i hq; have hq2 := congrArg Prod.snd hq; with_reducible dsimp only at hq2; subst hq2)
    | simp only [↓fr_mk_iff, true_or, or_true, mmod, mpwr, mvrc, mrot, mcys, mclk, mtim, mbanks, mchans, mxn, mrecd, mkiln, mtwl, mlnc, mbw, mints, mmems, mcores, mheld, mnoted, mlic]
    | with_reducible refine fr_ite ?_ ?_
    | with_reducible refine outFr_ite ?_ ?_
    | with_reducible refine outFr_next.2 ?_
    | with_reducible refine fr_ite2 ?_ ?_
    | with_reducible refine fr_foldl ?_ (fun _ _ _ => ?_)
    | with_reducible refine wideStop_frame _ _ mvrc ?_ | with_reducible refine record_frame _ _ _ _ _ _ mrecd mnoted ?_ | with_reducible refine voteClock_frame _ _ mmod mpwr mvrc mrot mcys mbanks mchans mxn mrecd mkiln mtwl mints mheld mnoted mlic ?_ | with_reducible refine spareSilent_frame _ _ _ mmod mpwr mvrc mrot mcys mclk mtim mrecd mtwl mlnc mbw mints mmems mcores mheld mnoted mlic ?_
    | split
    | dsimp only

theorem laneReset_frame {P : List Part} {t₀ : State} (l : Fin 4) (s : State) (mvrc : Part.vrc ∈ P) (mcores : Part.cores ∈ P) (mlic : Part.lic ∈ P) (h₀ : SameBut P t₀ s) :
    SameBut P t₀ (laneReset l s) := by
  unfold laneReset
  repeat' first
    | with_reducible assumption
    | (rename_i hq; have hq2 := congrArg Prod.snd hq; with_reducible dsimp only at hq2; subst hq2)
    | simp only [↓fr_mk_iff, true_or, or_true, mvrc, mcores, mlic]
    | with_reducible refine fr_ite ?_ ?_
    | with_reducible refine outFr_ite ?_ ?_
    | with_reducible refine outFr_next.2 ?_
    | with_reducible refine fr_ite2 ?_ ?_
    | with_reducible refine fr_foldl ?_ (fun _ _ _ => ?_)
    | with_reducible refine setLane_frame _ _ _ mvrc ?_
    | split
    | dsimp only

end Sys2Proof.Machine
end

