-- ==== Sys2Proof/Laws/Frames2.lean ====
section
/-! SUPPORT. For every operation and every meaning: only the named parts differ after it. -/

set_option linter.all false

namespace Sys2Proof.Machine

open Sys2Proof

theorem markPages_frame {P : List Part} {t₀ : State} (ps : List Nat) (s : State) (mrot : Part.rot ∈ P) (h₀ : SameBut P t₀ s) :
    SameBut P t₀ (markPages ps s) := by
  unfold markPages
  repeat' first
    | with_reducible assumption
    | (rename_i hq; have hq2 := congrArg Prod.snd hq; with_reducible dsimp only at hq2; subst hq2)
    | simp only [↓fr_mk_iff, true_or, or_true, mrot]
    | with_reducible refine fr_ite ?_ ?_
    | with_reducible refine outFr_ite ?_ ?_
    | with_reducible refine outFr_next.2 ?_
    | with_reducible refine fr_ite2 ?_ ?_
    | with_reducible refine fr_foldl ?_ (fun _ _ _ => ?_)
    | split
    | dsimp only

theorem applyEntry_frame {P : List Part} {t₀ : State} (l : Fin 4) (e : MirrorEntry) (s : State) (mmems : Part.mems ∈ P) (mcores : Part.cores ∈ P) (mlic : Part.lic ∈ P) (h₀ : SameBut P t₀ s) :
    SameBut P t₀ (applyEntry l e s) := by
  unfold applyEntry
  repeat' first
    | with_reducible assumption
    | (rename_i hq; have hq2 := congrArg Prod.snd hq; with_reducible dsimp only at hq2; subst hq2)
    | simp only [↓fr_mk_iff, true_or, or_true, mmems, mcores, mlic]
    | with_reducible refine fr_ite ?_ ?_
    | with_reducible refine outFr_ite ?_ ?_
    | with_reducible refine outFr_next.2 ?_
    | with_reducible refine fr_ite2 ?_ ?_
    | with_reducible refine fr_foldl ?_ (fun _ _ _ => ?_)
    | split
    | dsimp only

theorem drainMirror_frame {P : List Part} {t₀ : State} (n : Nat) (s : State) (mrot : Part.rot ∈ P) (mbw : Part.bw ∈ P) (mmems : Part.mems ∈ P) (mcores : Part.cores ∈ P) (mlic : Part.lic ∈ P) (h₀ : SameBut P t₀ s) :
    SameBut P t₀ (drainMirror n s) := by
  unfold drainMirror
  repeat' first
    | with_reducible assumption
    | (rename_i hq; have hq2 := congrArg Prod.snd hq; with_reducible dsimp only at hq2; subst hq2)
    | simp only [↓fr_mk_iff, true_or, or_true, mrot, mbw, mmems, mcores, mlic]
    | with_reducible refine fr_ite ?_ ?_
    | with_reducible refine outFr_ite ?_ ?_
    | with_reducible refine outFr_next.2 ?_
    | with_reducible refine fr_ite2 ?_ ?_
    | with_reducible refine fr_foldl ?_ (fun _ _ _ => ?_)
    | with_reducible refine bwCount_frame _ _ _ mbw ?_ | with_reducible refine applyEntry_frame _ _ _ mmems mcores mlic ?_
    | split
    | dsimp only

theorem fwdPush_frame {P : List Part} {t₀ : State} (kind : Nat) (e : MirrorEntry) (s : State) (mtwl : Part.twl ∈ P) (h₀ : SameBut P t₀ s) :
    SameBut P t₀ (fwdPush kind e s) := by
  unfold fwdPush
  repeat' first
    | with_reducible assumption
    | (rename_i hq; have hq2 := congrArg Prod.snd hq; with_reducible dsimp only at hq2; subst hq2)
    | simp only [↓fr_mk_iff, true_or, or_true, mtwl]
    | with_reducible refine fr_ite ?_ ?_
    | with_reducible refine outFr_ite ?_ ?_
    | with_reducible refine outFr_next.2 ?_
    | with_reducible refine fr_ite2 ?_ ?_
    | with_reducible refine fr_foldl ?_ (fun _ _ _ => ?_)
    | with_reducible refine setTwl_frame _ _ mtwl (.inr fun _ => rfl) ?_
    | split
    | dsimp only

theorem fwdDrain_frame {P : List Part} {t₀ : State} (n : Nat) (s : State) (mtwl : Part.twl ∈ P) (h₀ : SameBut P t₀ s) :
    SameBut P t₀ (fwdDrain n s) := by
  unfold fwdDrain
  repeat' first
    | with_reducible assumption
    | (rename_i hq; have hq2 := congrArg Prod.snd hq; with_reducible dsimp only at hq2; subst hq2)
    | simp only [↓fr_mk_iff, true_or, or_true, mtwl]
    | with_reducible refine fr_ite ?_ ?_
    | with_reducible refine outFr_ite ?_ ?_
    | with_reducible refine outFr_next.2 ?_
    | with_reducible refine fr_ite2 ?_ ?_
    | with_reducible refine fr_foldl ?_ (fun _ _ _ => ?_)
    | with_reducible refine twinSend_frame _ _ _ mtwl ?_ | with_reducible refine setTwl_frame _ _ mtwl (.inr fun _ => rfl) ?_
    | split
    | dsimp only

theorem mirrorPush_frame {P : List Part} {t₀ : State} (e : MirrorEntry) (s : State) (mrot : Part.rot ∈ P) (mtwl : Part.twl ∈ P) (mints : Part.ints ∈ P) (mheld : Part.held ∈ P) (mlic : Part.lic ∈ P) (h₀ : SameBut P t₀ s) :
    SameBut P t₀ (mirrorPush e s) := by
  unfold mirrorPush
  repeat' first
    | with_reducible assumption
    | (rename_i hq; have hq2 := congrArg Prod.snd hq; with_reducible dsimp only at hq2; subst hq2)
    | simp only [↓fr_mk_iff, true_or, or_true, mrot, mtwl, mints, mheld, mlic]
    | with_reducible refine fr_ite ?_ ?_
    | with_reducible refine outFr_ite ?_ ?_
    | with_reducible refine outFr_next.2 ?_
    | with_reducible refine fr_ite2 ?_ ?_
    | with_reducible refine fr_foldl ?_ (fun _ _ _ => ?_)
    | with_reducible refine fwdPush_frame _ _ _ mtwl ?_ | with_reducible refine markPages_frame _ _ mrot ?_ | with_reducible refine raise_frame _ _ mints mheld mlic ?_
    | split
    | dsimp only

theorem mirrorDisagree_frame {P : List Part} {t₀ : State} (v : Verdict) (p1 p2 : Nat) (s : State) (mmod : Part.mod ∈ P) (mpwr : Part.pwr ∈ P) (mvrc : Part.vrc ∈ P) (mrot : Part.rot ∈ P) (mcys : Part.cys ∈ P) (mbanks : Part.banks ∈ P) (mchans : Part.chans ∈ P) (mxn : Part.xn ∈ P) (mrecd : Part.recd ∈ P) (mkiln : Part.kiln ∈ P) (mtwl : Part.twl ∈ P) (mints : Part.ints ∈ P) (mheld : Part.held ∈ P) (mnoted : Part.noted ∈ P) (mlic : Part.lic ∈ P) (h₀ : SameBut P t₀ s) :
    SameBut P t₀ (mirrorDisagree v p1 p2 s) := by
  unfold mirrorDisagree
  repeat' first
    | with_reducible assumption
    | (rename_i hq; have hq2 := congrArg Prod.snd hq; with_reducible dsimp only at hq2; subst hq2)
    | simp only [↓fr_mk_iff, true_or, or_true, mmod, mpwr, mvrc, mrot, mcys, mbanks, mchans, mxn, mrecd, mkiln, mtwl, mints, mheld, mnoted, mlic]
    | with_reducible refine fr_ite ?_ ?_
    | with_reducible refine outFr_ite ?_ ?_
    | with_reducible refine outFr_next.2 ?_
    | with_reducible refine fr_ite2 ?_ ?_
    | with_reducible refine fr_foldl ?_ (fun _ _ _ => ?_)
    | with_reducible refine excludeLane_frame _ _ _ _ _ mmod mpwr mvrc mrot mrecd mints mheld mnoted mlic ?_ | with_reducible refine record_frame _ _ _ _ _ _ mrecd mnoted ?_ | with_reducible refine noMajority_frame _ _ _ _ _ mmod mvrc mrot mcys mbanks mchans mxn mrecd mkiln mtwl mints mheld mnoted mlic ?_
    | split
    | dsimp only

theorem rewedgeDefer_frame {P : List Part} {t₀ : State} (r : Rewedge) (need avail : Nat) (s : State) (mmod : Part.mod ∈ P) (mvrc : Part.vrc ∈ P) (mrot : Part.rot ∈ P) (mrecd : Part.recd ∈ P) (mints : Part.ints ∈ P) (mheld : Part.held ∈ P) (mnoted : Part.noted ∈ P) (mlic : Part.lic ∈ P) (h₀ : SameBut P t₀ s) :
    SameBut P t₀ (rewedgeDefer r need avail s) := by
  unfold rewedgeDefer
  repeat' first
    | with_reducible assumption
    | (rename_i hq; have hq2 := congrArg Prod.snd hq; with_reducible dsimp only at hq2; subst hq2)
    | simp only [↓fr_mk_iff, true_or, or_true, mmod, mvrc, mrot, mrecd, mints, mheld, mnoted, mlic]
    | with_reducible refine fr_ite ?_ ?_
    | with_reducible refine outFr_ite ?_ ?_
    | with_reducible refine outFr_next.2 ?_
    | with_reducible refine fr_ite2 ?_ ?_
    | with_reducible refine fr_foldl ?_ (fun _ _ _ => ?_)
    | with_reducible refine raise_frame _ _ mints mheld mlic ?_ | with_reducible refine record_frame _ _ _ _ _ _ mrecd mnoted ?_ | with_reducible refine setModState_frame _ _ _ mmod mrecd mnoted ?_ | with_reducible refine setVote_frame _ _ _ _ mvrc mrecd mints mheld mnoted mlic ?_
    | split
    | dsimp only

theorem rewedgeDecide_frame {P : List Part} {t₀ : State} (avail : Nat) (s : State) (mmod : Part.mod ∈ P) (mvrc : Part.vrc ∈ P) (mrot : Part.rot ∈ P) (mrecd : Part.recd ∈ P) (mbw : Part.bw ∈ P) (mints : Part.ints ∈ P) (mmems : Part.mems ∈ P) (mcores : Part.cores ∈ P) (mheld : Part.held ∈ P) (mnoted : Part.noted ∈ P) (mlic : Part.lic ∈ P) (h₀ : SameBut P t₀ s) :
    SameBut P t₀ (rewedgeDecide avail s) := by
  unfold rewedgeDecide
  repeat' first
    | with_reducible assumption
    | (rename_i hq; have hq2 := congrArg Prod.snd hq; with_reducible dsimp only at hq2; subst hq2)
    | simp only [↓fr_mk_iff, true_or, or_true, mmod, mvrc, mrot, mrecd, mbw, mints, mmems, mcores, mheld, mnoted, mlic]
    | with_reducible refine fr_ite ?_ ?_
    | with_reducible refine outFr_ite ?_ ?_
    | with_reducible refine outFr_next.2 ?_
    | with_reducible refine fr_ite2 ?_ ?_
    | with_reducible refine fr_foldl ?_ (fun _ _ _ => ?_)
    | with_reducible refine drainMirror_frame _ _ mrot mbw mmems mcores mlic ?_ | with_reducible refine rewedgeDefer_frame _ _ _ _ mmod mvrc mrot mrecd mints mheld mnoted mlic ?_
    | split
    | dsimp only

theorem loadRecord_frame {P : List Part} {t₀ : State} (j : Fin 4) (s : State) (mcores : Part.cores ∈ P) (mlic : Part.lic ∈ P) (h₀ : SameBut P t₀ s) :
    SameBut P t₀ (loadRecord j s) := by
  unfold loadRecord
  repeat' first
    | with_reducible assumption
    | (rename_i hq; have hq2 := congrArg Prod.snd hq; with_reducible dsimp only at hq2; subst hq2)
    | simp only [↓fr_mk_iff, true_or, or_true, mcores, mlic]
    | with_reducible refine fr_ite ?_ ?_
    | with_reducible refine outFr_ite ?_ ?_
    | with_reducible refine outFr_next.2 ?_
    | with_reducible refine fr_ite2 ?_ ?_
    | with_reducible refine fr_foldl ?_ (fun _ _ _ => ?_)
    | split
    | dsimp only

theorem invalidateLanes_frame {P : List Part} {t₀ : State} (ls : List (Fin 4)) (s : State) (mvrc : Part.vrc ∈ P) (mcores : Part.cores ∈ P) (mlic : Part.lic ∈ P) (h₀ : SameBut P t₀ s) :
    SameBut P t₀ (invalidateLanes ls s) := by
  unfold invalidateLanes
  repeat' first
    | with_reducible assumption
    | (rename_i hq; have hq2 := congrArg Prod.snd hq; with_reducible dsimp only at hq2; subst hq2)
    | simp only [↓fr_mk_iff, true_or, or_true, mvrc, mcores, mlic]
    | with_reducible refine fr_ite ?_ ?_
    | with_reducible refine outFr_ite ?_ ?_
    | with_reducible refine outFr_next.2 ?_
    | with_reducible refine fr_ite2 ?_ ?_
    | with_reducible refine fr_foldl ?_ (fun _ _ _ => ?_)
    | split
    | dsimp only

theorem joinLane_frame {P : List Part} {t₀ : State} (r : Rewedge) (s : State) (mvrc : Part.vrc ∈ P) (mrot : Part.rot ∈ P) (mheld : Part.held ∈ P) (mlic : Part.lic ∈ P) (h₀ : SameBut P t₀ s) :
    SameBut P t₀ (joinLane r s) := by
  unfold joinLane
  repeat' first
    | with_reducible assumption
    | (rename_i hq; have hq2 := congrArg Prod.snd hq; with_reducible dsimp only at hq2; subst hq2)
    | simp only [↓fr_mk_iff, true_or, or_true, mvrc, mrot, mheld, mlic]
    | with_reducible refine fr_ite ?_ ?_
    | with_reducible refine outFr_ite ?_ ?_
    | with_reducible refine outFr_next.2 ?_
    | with_reducible refine fr_ite2 ?_ ?_
    | with_reducible refine fr_foldl ?_ (fun _ _ _ => ?_)
    | with_reducible refine setLane_frame _ _ _ mvrc ?_ | with_reducible refine deliver_frame _ _ mheld mlic ?_
    | split
    | dsimp only

theorem rotationExpire_frame {P : List Part} {t₀ : State} (s : State) (mrot : Part.rot ∈ P) (h₀ : SameBut P t₀ s) :
    SameBut P t₀ (rotationExpire s) := by
  unfold rotationExpire
  repeat' first
    | with_reducible assumption
    | (rename_i hq; have hq2 := congrArg Prod.snd hq; with_reducible dsimp only at hq2; subst hq2)
    | simp only [↓fr_mk_iff, true_or, or_true, mrot]
    | with_reducible refine fr_ite ?_ ?_
    | with_reducible refine outFr_ite ?_ ?_
    | with_reducible refine outFr_next.2 ?_
    | with_reducible refine fr_ite2 ?_ ?_
    | with_reducible refine fr_foldl ?_ (fun _ _ _ => ?_)
    | split
    | dsimp only

theorem rotationRestart_frame {P : List Part} {t₀ : State} (s : State) (mrot : Part.rot ∈ P) (h₀ : SameBut P t₀ s) :
    SameBut P t₀ (rotationRestart s) := by
  unfold rotationRestart
  repeat' first
    | with_reducible assumption
    | (rename_i hq; have hq2 := congrArg Prod.snd hq; with_reducible dsimp only at hq2; subst hq2)
    | simp only [↓fr_mk_iff, true_or, or_true, mrot]
    | with_reducible refine fr_ite ?_ ?_
    | with_reducible refine outFr_ite ?_ ?_
    | with_reducible refine outFr_next.2 ?_
    | with_reducible refine fr_ite2 ?_ ?_
    | with_reducible refine fr_foldl ?_ (fun _ _ _ => ?_)
    | split
    | dsimp only

theorem tickOptime_frame {P : List Part} {t₀ : State} (n : Nat) (s : State) (mrecd : Part.recd ∈ P) (h₀ : SameBut P t₀ s) :
    SameBut P t₀ (tickOptime n s).2 := by
  unfold tickOptime
  repeat' first
    | with_reducible assumption
    | (rename_i hq; have hq2 := congrArg Prod.snd hq; with_reducible dsimp only at hq2; subst hq2)
    | simp only [↓fr_mk_iff, true_or, or_true, mrecd]
    | with_reducible refine fr_ite ?_ ?_
    | with_reducible refine outFr_ite ?_ ?_
    | with_reducible refine outFr_next.2 ?_
    | with_reducible refine fr_ite2 ?_ ?_
    | with_reducible refine fr_foldl ?_ (fun _ _ _ => ?_)
    | split
    | dsimp only

theorem tickRotation_frame {P : List Part} {t₀ : State} (ms : Nat) (s : State) (mrot : Part.rot ∈ P) (h₀ : SameBut P t₀ s) :
    SameBut P t₀ (tickRotation ms s) := by
  unfold tickRotation
  repeat' first
    | with_reducible assumption
    | (rename_i hq; have hq2 := congrArg Prod.snd hq; with_reducible dsimp only at hq2; subst hq2)
    | simp only [↓fr_mk_iff, true_or, or_true, mrot]
    | with_reducible refine fr_ite ?_ ?_
    | with_reducible refine outFr_ite ?_ ?_
    | with_reducible refine outFr_next.2 ?_
    | with_reducible refine fr_ite2 ?_ ?_
    | with_reducible refine fr_foldl ?_ (fun _ _ _ => ?_)
    | with_reducible refine rotationExpire_frame _ mrot ?_
    | split
    | dsimp only

theorem tickMirror_frame {P : List Part} {t₀ : State} (n : Nat) (s : State) (mrot : Part.rot ∈ P) (mbw : Part.bw ∈ P) (mmems : Part.mems ∈ P) (mcores : Part.cores ∈ P) (mlic : Part.lic ∈ P) (h₀ : SameBut P t₀ s) :
    SameBut P t₀ (tickMirror n s) := by
  unfold tickMirror
  repeat' first
    | with_reducible assumption
    | (rename_i hq; have hq2 := congrArg Prod.snd hq; with_reducible dsimp only at hq2; subst hq2)
    | simp only [↓fr_mk_iff, true_or, or_true, mrot, mbw, mmems, mcores, mlic]
    | with_reducible refine fr_ite ?_ ?_
    | with_reducible refine outFr_ite ?_ ?_
    | with_reducible refine outFr_next.2 ?_
    | with_reducible refine fr_ite2 ?_ ?_
    | with_reducible refine fr_foldl ?_ (fun _ _ _ => ?_)
    | with_reducible refine drainMirror_frame _ _ mrot mbw mmems mcores mlic ?_
    | split
    | dsimp only

theorem tickExec_frame {P : List Part} {t₀ : State} (n : Nat) (s : State) (mcys : Part.cys ∈ P) (h₀ : SameBut P t₀ s) :
    SameBut P t₀ (tickExec n s) := by
  unfold tickExec
  repeat' first
    | with_reducible assumption
    | (rename_i hq; have hq2 := congrArg Prod.snd hq; with_reducible dsimp only at hq2; subst hq2)
    | simp only [↓fr_mk_iff, true_or, or_true, mcys]
    | with_reducible refine fr_ite ?_ ?_
    | with_reducible refine outFr_ite ?_ ?_
    | with_reducible refine outFr_next.2 ?_
    | with_reducible refine fr_ite2 ?_ ?_
    | with_reducible refine fr_foldl ?_ (fun _ _ _ => ?_)
    | split
    | dsimp only

theorem tickCoast_frame {P : List Part} {t₀ : State} (n : Nat) (s : State) (mclk : Part.clk ∈ P) (h₀ : SameBut P t₀ s) :
    SameBut P t₀ (tickCoast n s) := by
  unfold tickCoast
  repeat' first
    | with_reducible assumption
    | (rename_i hq; have hq2 := congrArg Prod.snd hq; with_reducible dsimp only at hq2; subst hq2)
    | simp only [↓fr_mk_iff, true_or, or_true, mclk]
    | with_reducible refine fr_ite ?_ ?_
    | with_reducible refine outFr_ite ?_ ?_
    | with_reducible refine outFr_next.2 ?_
    | with_reducible refine fr_ite2 ?_ ?_
    | with_reducible refine fr_foldl ?_ (fun _ _ _ => ?_)
    | split
    | dsimp only

theorem tickFwd_frame {P : List Part} {t₀ : State} (n : Nat) (s : State) (mtwl : Part.twl ∈ P) (h₀ : SameBut P t₀ s) :
    SameBut P t₀ (tickFwd n s) := by
  unfold tickFwd
  repeat' first
    | with_reducible assumption
    | (rename_i hq; have hq2 := congrArg Prod.snd hq; with_reducible dsimp only at hq2; subst hq2)
    | simp only [↓fr_mk_iff, true_or, or_true, mtwl]
    | with_reducible refine fr_ite ?_ ?_
    | with_reducible refine outFr_ite ?_ ?_
    | with_reducible refine outFr_next.2 ?_
    | with_reducible refine fr_ite2 ?_ ?_
    | with_reducible refine fr_foldl ?_ (fun _ _ _ => ?_)
    | with_reducible refine fwdDrain_frame _ _ mtwl ?_ | with_reducible refine setTwl_frame _ _ mtwl (.inr fun _ => rfl) ?_
    | split
    | dsimp only

theorem tickCores_frame {P : List Part} {t₀ : State} (n : Nat) (s : State) (mtim : Part.tim ∈ P) (mcores : Part.cores ∈ P) (mlic : Part.lic ∈ P) (h₀ : SameBut P t₀ s) :
    SameBut P t₀ (tickCores n s) := by
  unfold tickCores
  repeat' first
    | with_reducible assumption
    | (rename_i hq; have hq2 := congrArg Prod.snd hq; with_reducible dsimp only at hq2; subst hq2)
    | simp only [↓fr_mk_iff, true_or, or_true, mtim, mcores, mlic]
    | with_reducible refine fr_ite ?_ ?_
    | with_reducible refine outFr_ite ?_ ?_
    | with_reducible refine outFr_next.2 ?_
    | with_reducible refine fr_ite2 ?_ ?_
    | with_reducible refine fr_foldl ?_ (fun _ _ _ => ?_)
    | split
    | dsimp only

theorem advance_frame {P : List Part} {t₀ : State} (n : Nat) (s : State) (mrot : Part.rot ∈ P) (mcys : Part.cys ∈ P) (mclk : Part.clk ∈ P) (mtim : Part.tim ∈ P) (mrecd : Part.recd ∈ P) (mtwl : Part.twl ∈ P) (mlnc : Part.lnc ∈ P) (mbw : Part.bw ∈ P) (mmems : Part.mems ∈ P) (mcores : Part.cores ∈ P) (mlic : Part.lic ∈ P) (h₀ : SameBut P t₀ s) :
    SameBut P t₀ (advance n s) := by
  unfold advance
  repeat' first
    | with_reducible assumption
    | (rename_i hq; have hq2 := congrArg Prod.snd hq; with_reducible dsimp only at hq2; subst hq2)
    | simp only [↓fr_mk_iff, true_or, or_true, mrot, mcys, mclk, mtim, mrecd, mtwl, mlnc, mbw, mmems, mcores, mlic]
    | with_reducible refine fr_ite ?_ ?_
    | with_reducible refine outFr_ite ?_ ?_
    | with_reducible refine outFr_next.2 ?_
    | with_reducible refine fr_ite2 ?_ ?_
    | with_reducible refine fr_foldl ?_ (fun _ _ _ => ?_)
    | (intro b u hu; dsimp only)
    | intro b u hu
    | (intro u hu; dsimp only)
    | intro u hu
    | with_reducible refine tickOptime_frame _ _ mrecd ?_ | with_reducible refine tickCores_frame _ _ mtim mcores mlic ?_ | with_reducible refine tickFwd_frame _ _ mtwl ?_ | with_reducible refine tickCoast_frame _ _ mclk ?_ | with_reducible refine tickExec_frame _ _ mcys ?_ | with_reducible refine tickMirror_frame _ _ mrot mbw mmems mcores mlic ?_ | with_reducible refine tickRotation_frame _ _ mrot ?_ | with_reducible refine serveSwitch_frame _ _ mlnc ?_
    | split
    | dsimp only

theorem voteReadEffect_frame {P : List Part} {t₀ : State} (a : Nat) (s : State) (mcys : Part.cys ∈ P) (mclk : Part.clk ∈ P) (mtim : Part.tim ∈ P) (mbanks : Part.banks ∈ P) (mxn : Part.xn ∈ P) (mbrg : Part.brg ∈ P) (h₀ : SameBut P t₀ s) :
    SameBut P t₀ (voteReadEffect a s) := by
  unfold voteReadEffect
  repeat' first
    | with_reducible assumption
    | (rename_i hq; have hq2 := congrArg Prod.snd hq; with_reducible dsimp only at hq2; subst hq2)
    | simp only [↓fr_mk_iff, true_or, or_true, mcys, mclk, mtim, mbanks, mxn, mbrg]
    | with_reducible refine fr_ite ?_ ?_
    | with_reducible refine outFr_ite ?_ ?_
    | with_reducible refine outFr_next.2 ?_
    | with_reducible refine fr_ite2 ?_ ?_
    | with_reducible refine fr_foldl ?_ (fun _ _ _ => ?_)
    | with_reducible refine readEvt0_frame _ _ mbanks ?_
    | split
    | dsimp only

theorem setBrg_frame {P : List Part} {t₀ : State} (f : Brg → Brg) (s : State) (mbrg : Part.brg ∈ P) (h₀ : SameBut P t₀ s) :
    SameBut P t₀ (setBrg f s) := by
  unfold setBrg
  repeat' first
    | with_reducible assumption
    | (rename_i hq; have hq2 := congrArg Prod.snd hq; with_reducible dsimp only at hq2; subst hq2)
    | simp only [↓fr_mk_iff, true_or, or_true, mbrg]
    | with_reducible refine fr_ite ?_ ?_
    | with_reducible refine outFr_ite ?_ ?_
    | with_reducible refine outFr_next.2 ?_
    | with_reducible refine fr_ite2 ?_ ?_
    | with_reducible refine fr_foldl ?_ (fun _ _ _ => ?_)
    | split
    | dsimp only

theorem busError_frame {P : List Part} {t₀ : State} (kind master : Nat) (wr : Bool) (a : Nat) (s : State) (mclk : Part.clk ∈ P) (mrecd : Part.recd ∈ P) (mints : Part.ints ∈ P) (mheld : Part.held ∈ P) (mnoted : Part.noted ∈ P) (mlic : Part.lic ∈ P) (h₀ : SameBut P t₀ s) :
    SameBut P t₀ (busError kind master wr a s) := by
  unfold busError
  repeat' first
    | with_reducible assumption
    | (rename_i hq; have hq2 := congrArg Prod.snd hq; with_reducible dsimp only at hq2; subst hq2)
    | simp only [↓fr_mk_iff, true_or, or_true, mclk, mrecd, mints, mheld, mnoted, mlic]
    | with_reducible refine fr_ite ?_ ?_
    | with_reducible refine outFr_ite ?_ ?_
    | with_reducible refine outFr_next.2 ?_
    | with_reducible refine fr_ite2 ?_ ?_
    | with_reducible refine fr_foldl ?_ (fun _ _ _ => ?_)
    | with_reducible refine raise_frame _ _ mints mheld mlic ?_ | with_reducible refine record_frame _ _ _ _ _ _ mrecd mnoted ?_
    | split
    | dsimp only

theorem farRead_frame {P : List Part} {t₀ : State} (a n : Nat) (s : State) (mdrawn : Part.drawn ∈ P) (mrecd : Part.recd ∈ P) (h₀ : SameBut P t₀ s) :
    SameBut P t₀ (farRead a n s).2 := by
  unfold farRead
  repeat' first
    | with_reducible assumption
    | (rename_i hq; have hq2 := congrArg Prod.snd hq; with_reducible dsimp only at hq2; subst hq2)
    | simp only [↓fr_mk_iff, true_or, or_true, mdrawn, mrecd]
    | with_reducible refine fr_ite ?_ ?_
    | with_reducible refine outFr_ite ?_ ?_
    | with_reducible refine outFr_next.2 ?_
    | with_reducible refine fr_ite2 ?_ ?_
    | with_reducible refine fr_foldl ?_ (fun _ _ _ => ?_)
    | with_reducible refine drawWord_frame _ mdrawn ?_
    | split
    | dsimp only

theorem sendTpdo_frame {P : List Part} {t₀ : State} (ch : Fin 2) (n : Fin 8) (s : State) (mchans : Part.chans ∈ P) (mcfd : Part.cfd ∈ P) (h₀ : SameBut P t₀ s) :
    SameBut P t₀ (sendTpdo ch n s) := by
  unfold sendTpdo
  repeat' first
    | with_reducible assumption
    | (rename_i hq; have hq2 := congrArg Prod.snd hq; with_reducible dsimp only at hq2; subst hq2)
    | simp only [↓fr_mk_iff, true_or, or_true, mchans, mcfd]
    | with_reducible refine fr_ite ?_ ?_
    | with_reducible refine outFr_ite ?_ ?_
    | with_reducible refine outFr_next.2 ?_
    | with_reducible refine fr_ite2 ?_ ?_
    | with_reducible refine fr_foldl ?_ (fun _ _ _ => ?_)
    | split
    | dsimp only

theorem tpdoTrig_frame {P : List Part} {t₀ : State} (v : Nat) (s : State) (mchans : Part.chans ∈ P) (mcfd : Part.cfd ∈ P) (h₀ : SameBut P t₀ s) :
    SameBut P t₀ (tpdoTrig v s) := by
  unfold tpdoTrig
  repeat' first
    | with_reducible assumption
    | (rename_i hq; have hq2 := congrArg Prod.snd hq; with_reducible dsimp only at hq2; subst hq2)
    | simp only [↓fr_mk_iff, true_or, or_true, mchans, mcfd]
    | with_reducible refine fr_ite ?_ ?_
    | with_reducible refine outFr_ite ?_ ?_
    | with_reducible refine outFr_next.2 ?_
    | with_reducible refine fr_ite2 ?_ ?_
    | with_reducible refine fr_foldl ?_ (fun _ _ _ => ?_)
    | with_reducible refine sendTpdo_frame _ _ _ mchans mcfd ?_
    | split
    | dsimp only

theorem cpnSend_frame {P : List Part} {t₀ : State} (m : Nat) (s : State) (mcpn : Part.cpn ∈ P) (h₀ : SameBut P t₀ s) :
    SameBut P t₀ (cpnSend m s) := by
  unfold cpnSend
  repeat' first
    | with_reducible assumption
    | (rename_i hq; have hq2 := congrArg Prod.snd hq; with_reducible dsimp only at hq2; subst hq2)
    | simp only [↓fr_mk_iff, true_or, or_true, mcpn]
    | with_reducible refine fr_ite ?_ ?_
    | with_reducible refine outFr_ite ?_ ?_
    | with_reducible refine outFr_next.2 ?_
    | with_reducible refine fr_ite2 ?_ ?_
    | with_reducible refine fr_foldl ?_ (fun _ _ _ => ?_)
    | split
    | dsimp only

theorem verdictWrite_frame {P : List Part} {t₀ : State} (m : Fin 8) (v : Reg32) (s : State) (mkiln : Part.kiln ∈ P) (h₀ : SameBut P t₀ s) :
    SameBut P t₀ (verdictWrite m v s) := by
  unfold verdictWrite
  repeat' first
    | with_reducible assumption
    | (rename_i hq; have hq2 := congrArg Prod.snd hq; with_reducible dsimp only at hq2; subst hq2)
    | simp only [↓fr_mk_iff, true_or, or_true, mkiln]
    | with_reducible refine fr_ite ?_ ?_
    | with_reducible refine outFr_ite ?_ ?_
    | with_reducible refine outFr_next.2 ?_
    | with_reducible refine fr_ite2 ?_ ?_
    | with_reducible refine fr_foldl ?_ (fun _ _ _ => ?_)
    | split
    | dsimp only

theorem recEvWrite_frame {P : List Part} {t₀ : State} (m : Nat) (v : Reg32) (s : State) (mrecd : Part.recd ∈ P) (mnoted : Part.noted ∈ P) (h₀ : SameBut P t₀ s) :
    SameBut P t₀ (recEvWrite m v s) := by
  unfold recEvWrite
  split
  · simp only [↓fr_mk_iff, true_or, or_true, mrecd]; exact h₀
  · have k := fun c e z w => (submitEvent_keeps s.recd c (masterCode s none) e z w v.toNat).1
    simp only [↓fr_mk_iff, true_or, or_true, mrecd, k]; exact h₀

theorem farWrite_frame {P : List Part} {t₀ : State} (a : Nat) (be : BitVec 16) (d : BitVec 128) (exec : Bool) (s : State) (mchans : Part.chans ∈ P) (mrecd : Part.recd ∈ P) (mkiln : Part.kiln ∈ P) (mcpn : Part.cpn ∈ P) (mcfd : Part.cfd ∈ P) (mvmem : Part.vmem ∈ P) (mnoted : Part.noted ∈ P) (h₀ : SameBut P t₀ s) :
    ∀ u, (farWrite a be d exec s) = some u → SameBut P t₀ u := by
  unfold farWrite
  repeat' first
    | with_reducible assumption
    | (rename_i hq; have hq2 := congrArg Prod.snd hq; with_reducible dsimp only at hq2; subst hq2)
    | simp only [↓fr_mk_iff, true_or, or_true, mchans, mrecd, mkiln, mcpn, mcfd, mvmem, mnoted]
    | with_reducible refine fr_ite ?_ ?_
    | with_reducible refine outFr_ite ?_ ?_
    | with_reducible refine outFr_next.2 ?_
    | with_reducible refine fr_ite2 ?_ ?_
    | with_reducible refine fr_foldl ?_ (fun _ _ _ => ?_)
    | (intro u hu; cases hu; done)
    | (intro u hu; injection hu with hu; subst hu)
    | with_reducible refine exec_frame _ _  ?_ | with_reducible refine verdictWrite_frame _ _ _ mkiln ?_ | with_reducible refine recEvWrite_frame _ _ _ mrecd mnoted ?_ | with_reducible refine cpnSend_frame _ _ mcpn ?_ | with_reducible refine tpdoTrig_frame _ _ mchans mcfd ?_
    | split
    | dsimp only

theorem dropLine_frame {P : List Part} {t₀ : State} (l : BrgLine) (s : State) (mrecd : Part.recd ∈ P) (mbrg : Part.brg ∈ P) (mints : Part.ints ∈ P) (mheld : Part.held ∈ P) (mnoted : Part.noted ∈ P) (mlic : Part.lic ∈ P) (h₀ : SameBut P t₀ s) :
    SameBut P t₀ (dropLine l s) := by
  unfold dropLine
  repeat' first
    | with_reducible assumption
    | (rename_i hq; have hq2 := congrArg Prod.snd hq; with_reducible dsimp only at hq2; subst hq2)
    | simp only [↓fr_mk_iff, true_or, or_true, mrecd, mbrg, mints, mheld, mnoted, mlic]
    | with_reducible refine fr_ite ?_ ?_
    | with_reducible refine outFr_ite ?_ ?_
    | with_reducible refine outFr_next.2 ?_
    | with_reducible refine fr_ite2 ?_ ?_
    | with_reducible refine fr_foldl ?_ (fun _ _ _ => ?_)
    | with_reducible refine setBrg_frame _ _ mbrg ?_ | with_reducible refine raise_frame _ _ mints mheld mlic ?_ | with_reducible refine record_frame _ _ _ _ _ _ mrecd mnoted ?_
    | split
    | dsimp only

theorem dropLines_frame {P : List Part} {t₀ : State} (p : BrgLine → Bool) (s : State) (mrecd : Part.recd ∈ P) (mbrg : Part.brg ∈ P) (mints : Part.ints ∈ P) (mheld : Part.held ∈ P) (mnoted : Part.noted ∈ P) (mlic : Part.lic ∈ P) (h₀ : SameBut P t₀ s) :
    SameBut P t₀ (dropLines p s) := by
  unfold dropLines
  repeat' first
    | with_reducible assumption
    | (rename_i hq; have hq2 := congrArg Prod.snd hq; with_reducible dsimp only at hq2; subst hq2)
    | simp only [↓fr_mk_iff, true_or, or_true, mrecd, mbrg, mints, mheld, mnoted, mlic]
    | with_reducible refine fr_ite ?_ ?_
    | with_reducible refine outFr_ite ?_ ?_
    | with_reducible refine outFr_next.2 ?_
    | with_reducible refine fr_ite2 ?_ ?_
    | with_reducible refine fr_foldl ?_ (fun _ _ _ => ?_)
    | with_reducible refine dropLine_frame _ _ mrecd mbrg mints mheld mnoted mlic ?_
    | split
    | dsimp only

theorem farError_frame {P : List Part} {t₀ : State} (p : Posted) (status : Nat) (s : State) (mrecd : Part.recd ∈ P) (mbrg : Part.brg ∈ P) (mints : Part.ints ∈ P) (mheld : Part.held ∈ P) (mnoted : Part.noted ∈ P) (mlic : Part.lic ∈ P) (h₀ : SameBut P t₀ s) :
    SameBut P t₀ (farError p status s) := by
  unfold farError
  repeat' first
    | with_reducible assumption
    | (rename_i hq; have hq2 := congrArg Prod.snd hq; with_reducible dsimp only at hq2; subst hq2)
    | simp only [↓fr_mk_iff, true_or, or_true, mrecd, mbrg, mints, mheld, mnoted, mlic]
    | with_reducible refine fr_ite ?_ ?_
    | with_reducible refine outFr_ite ?_ ?_
    | with_reducible refine outFr_next.2 ?_
    | with_reducible refine fr_ite2 ?_ ?_
    | with_reducible refine fr_foldl ?_ (fun _ _ _ => ?_)
    | with_reducible refine setBrg_frame _ _ mbrg ?_ | with_reducible refine raise_frame _ _ mints mheld mlic ?_ | with_reducible refine record_frame _ _ _ _ _ _ mrecd mnoted ?_
    | split
    | dsimp only

theorem semWrite_frame {P : List Part} {t₀ : State} (m : Option (Fin 8)) (a : Nat) (s : State) (mbrg : Part.brg ∈ P) (h₀ : SameBut P t₀ s) :
    SameBut P t₀ (semWrite m a s) := by
  unfold semWrite
  repeat' first
    | with_reducible assumption
    | (rename_i hq; have hq2 := congrArg Prod.snd hq; with_reducible dsimp only at hq2; subst hq2)
    | simp only [↓fr_mk_iff, true_or, or_true, mbrg]
    | with_reducible refine fr_ite ?_ ?_
    | with_reducible refine outFr_ite ?_ ?_
    | with_reducible refine outFr_next.2 ?_
    | with_reducible refine fr_ite2 ?_ ?_
    | with_reducible refine fr_foldl ?_ (fun _ _ _ => ?_)
    | with_reducible refine setBrg_frame _ _ mbrg ?_
    | split
    | dsimp only

theorem semKiln_frame {P : List Part} {t₀ : State} (a : Nat) (s : State) (mbrg : Part.brg ∈ P) (h₀ : SameBut P t₀ s) :
    SameBut P t₀ (semKiln a s) := by
  unfold semKiln
  repeat' first
    | with_reducible assumption
    | (rename_i hq; have hq2 := congrArg Prod.snd hq; with_reducible dsimp only at hq2; subst hq2)
    | simp only [↓fr_mk_iff, true_or, or_true, mbrg]
    | with_reducible refine fr_ite ?_ ?_
    | with_reducible refine outFr_ite ?_ ?_
    | with_reducible refine outFr_next.2 ?_
    | with_reducible refine fr_ite2 ?_ ?_
    | with_reducible refine fr_foldl ?_ (fun _ _ _ => ?_)
    | with_reducible refine setBrg_frame _ _ mbrg ?_
    | split
    | dsimp only

theorem semTake_frame {P : List Part} {t₀ : State} (m : Option (Fin 8)) (n : Fin 16) (s : State) (mbrg : Part.brg ∈ P) (h₀ : SameBut P t₀ s) :
    SameBut P t₀ (semTake m n s) := by
  unfold semTake
  repeat' first
    | with_reducible assumption
    | (rename_i hq; have hq2 := congrArg Prod.snd hq; with_reducible dsimp only at hq2; subst hq2)
    | simp only [↓fr_mk_iff, true_or, or_true, mbrg]
    | with_reducible refine fr_ite ?_ ?_
    | with_reducible refine outFr_ite ?_ ?_
    | with_reducible refine outFr_next.2 ?_
    | with_reducible refine fr_ite2 ?_ ?_
    | with_reducible refine fr_foldl ?_ (fun _ _ _ => ?_)
    | with_reducible refine setBrg_frame _ _ mbrg ?_
    | split
    | dsimp only

theorem brgAccess_frame {P : List Part} {t₀ : State} (m : Option (Fin 8)) (b : Beat) (s : State) (mclk : Part.clk ∈ P) (mrecd : Part.recd ∈ P) (mbrg : Part.brg ∈ P) (mints : Part.ints ∈ P) (mheld : Part.held ∈ P) (mnoted : Part.noted ∈ P) (mlic : Part.lic ∈ P) (h₀ : SameBut P t₀ s) :
    SameBut P t₀ (brgAccess m b s).2 := by
  unfold brgAccess
  repeat' first
    | with_reducible assumption
    | (rename_i hq; have hq2 := congrArg Prod.snd hq; with_reducible dsimp only at hq2; subst hq2)
    | simp only [↓fr_mk_iff, true_or, or_true, mclk, mrecd, mbrg, mints, mheld, mnoted, mlic]
    | with_reducible refine fr_ite ?_ ?_
    | with_reducible refine outFr_ite ?_ ?_
    | with_reducible refine outFr_next.2 ?_
    | with_reducible refine fr_ite2 ?_ ?_
    | with_reducible refine fr_foldl ?_ (fun _ _ _ => ?_)
    | with_reducible refine exec_frame _ _  ?_ | with_reducible refine busError_frame _ _ _ _ _ mclk mrecd mints mheld mnoted mlic ?_ | with_reducible refine setBrg_frame _ _ mbrg ?_ | with_reducible refine dropLines_frame _ _ mrecd mbrg mints mheld mnoted mlic ?_ | with_reducible refine semWrite_frame _ _ _ mbrg ?_ | with_reducible refine semTake_frame _ _ _ mbrg ?_
    | split
    | dsimp only

theorem intClear_frame {P : List Part} {t₀ : State} (k : Fin 11) (v : Reg32) (s : State) (mints : Part.ints ∈ P) (h₀ : SameBut P t₀ s) :
    SameBut P t₀ (intClear k v s) := by
  unfold intClear
  repeat' first
    | with_reducible assumption
    | (rename_i hq; have hq2 := congrArg Prod.snd hq; with_reducible dsimp only at hq2; subst hq2)
    | simp only [↓fr_mk_iff, true_or, or_true, mints]
    | with_reducible refine fr_ite ?_ ?_
    | with_reducible refine outFr_ite ?_ ?_
    | with_reducible refine outFr_next.2 ?_
    | with_reducible refine fr_ite2 ?_ ?_
    | with_reducible refine fr_foldl ?_ (fun _ _ _ => ?_)
    | split
    | dsimp only

theorem intEnable_frame {P : List Part} {t₀ : State} (k : Fin 11) (v : Reg32) (s : State) (mints : Part.ints ∈ P) (h₀ : SameBut P t₀ s) :
    SameBut P t₀ (intEnable k v s) := by
  unfold intEnable
  repeat' first
    | with_reducible assumption
    | (rename_i hq; have hq2 := congrArg Prod.snd hq; with_reducible dsimp only at hq2; subst hq2)
    | simp only [↓fr_mk_iff, true_or, or_true, mints]
    | with_reducible refine fr_ite ?_ ?_
    | with_reducible refine outFr_ite ?_ ?_
    | with_reducible refine outFr_next.2 ?_
    | with_reducible refine fr_ite2 ?_ ?_
    | with_reducible refine fr_foldl ?_ (fun _ _ _ => ?_)
    | split
    | dsimp only

theorem brgIntClear_frame {P : List Part} {t₀ : State} (v : Reg32) (s : State) (mdrawn : Part.drawn ∈ P) (mints : Part.ints ∈ P) (h₀ : SameBut P t₀ s) :
    SameBut P t₀ (brgIntClear v s) := by
  unfold brgIntClear
  repeat' first
    | with_reducible assumption
    | (rename_i hq; have hq2 := congrArg Prod.snd hq; with_reducible dsimp only at hq2; subst hq2)
    | simp only [↓fr_mk_iff, true_or, or_true, mdrawn, mints]
    | with_reducible refine fr_ite ?_ ?_
    | with_reducible refine outFr_ite ?_ ?_
    | with_reducible refine outFr_next.2 ?_
    | with_reducible refine fr_ite2 ?_ ?_
    | with_reducible refine fr_foldl ?_ (fun _ _ _ => ?_)
    | with_reducible refine drawWord_frame _ mdrawn ?_ | with_reducible refine intClear_frame _ _ _ mints ?_
    | split
    | dsimp only

theorem brgRegionSet_frame {P : List Part} {t₀ : State} (n : Fin 16) (w : RegionWord) (v : Reg32) (s : State) (mrecd : Part.recd ∈ P) (mbrg : Part.brg ∈ P) (mints : Part.ints ∈ P) (mheld : Part.held ∈ P) (mnoted : Part.noted ∈ P) (mlic : Part.lic ∈ P) (h₀ : SameBut P t₀ s) :
    SameBut P t₀ (brgRegionSet n w v s) := by
  unfold brgRegionSet
  repeat' first
    | with_reducible assumption
    | (rename_i hq; have hq2 := congrArg Prod.snd hq; with_reducible dsimp only at hq2; subst hq2)
    | simp only [↓fr_mk_iff, true_or, or_true, mrecd, mbrg, mints, mheld, mnoted, mlic]
    | with_reducible refine fr_ite ?_ ?_
    | with_reducible refine outFr_ite ?_ ?_
    | with_reducible refine outFr_next.2 ?_
    | with_reducible refine fr_ite2 ?_ ?_
    | with_reducible refine fr_foldl ?_ (fun _ _ _ => ?_)
    | with_reducible refine dropLines_frame _ _ mrecd mbrg mints mheld mnoted mlic ?_ | with_reducible refine setBrg_frame _ _ mbrg ?_
    | split
    | dsimp only

theorem quietWrite_frame {P : List Part} {t₀ : State} (s : State) (mcys : Part.cys ∈ P) (h₀ : SameBut P t₀ s) :
    SameBut P t₀ (quietWrite s) := by
  unfold quietWrite
  repeat' first
    | with_reducible assumption
    | (rename_i hq; have hq2 := congrArg Prod.snd hq; with_reducible dsimp only at hq2; subst hq2)
    | simp only [↓fr_mk_iff, true_or, or_true, mcys]
    | with_reducible refine fr_ite ?_ ?_
    | with_reducible refine outFr_ite ?_ ?_
    | with_reducible refine outFr_next.2 ?_
    | with_reducible refine fr_ite2 ?_ ?_
    | with_reducible refine fr_foldl ?_ (fun _ _ _ => ?_)
    | split
    | dsimp only

theorem doneWrite_frame {P : List Part} {t₀ : State} (v : Reg32) (s : State) (mcys : Part.cys ∈ P) (mbanks : Part.banks ∈ P) (mrecd : Part.recd ∈ P) (mtwl : Part.twl ∈ P) (mints : Part.ints ∈ P) (mheld : Part.held ∈ P) (mnoted : Part.noted ∈ P) (mlic : Part.lic ∈ P) (h₀ : SameBut P t₀ s) :
    SameBut P t₀ (doneWrite v s) := by
  unfold doneWrite
  repeat' first
    | with_reducible assumption
    | (rename_i hq; have hq2 := congrArg Prod.snd hq; with_reducible dsimp only at hq2; subst hq2)
    | simp only [↓fr_mk_iff, true_or, or_true, mcys, mbanks, mrecd, mtwl, mints, mheld, mnoted, mlic]
    | with_reducible refine fr_ite ?_ ?_
    | with_reducible refine outFr_ite ?_ ?_
    | with_reducible refine outFr_next.2 ?_
    | with_reducible refine fr_ite2 ?_ ?_
    | with_reducible refine fr_foldl ?_ (fun _ _ _ => ?_)
    | with_reducible refine cycleDone_frame _ _ _ mcys mbanks mrecd mtwl mints mheld mnoted mlic ?_
    | split
    | dsimp only

theorem fbWrite_frame {P : List Part} {t₀ : State} (k : Fin 3) (m : Option (Fin 8)) (o : Nat) (v : Reg32) (s : State) (mvrc : Part.vrc ∈ P) (mbanks : Part.banks ∈ P) (mchans : Part.chans ∈ P) (mrecd : Part.recd ∈ P) (mints : Part.ints ∈ P) (mheld : Part.held ∈ P) (mnoted : Part.noted ∈ P) (mlic : Part.lic ∈ P) (h₀ : SameBut P t₀ s) :
    SameBut P t₀ (fbWrite k m o v s) := by
  unfold fbWrite
  repeat' first
    | with_reducible assumption
    | (rename_i hq; have hq2 := congrArg Prod.snd hq; with_reducible dsimp only at hq2; subst hq2)
    | simp only [↓fr_mk_iff, true_or, or_true, mvrc, mbanks, mchans, mrecd, mints, mheld, mnoted, mlic]
    | with_reducible refine fr_ite ?_ ?_
    | with_reducible refine outFr_ite ?_ ?_
    | with_reducible refine outFr_next.2 ?_
    | with_reducible refine fr_ite2 ?_ ?_
    | with_reducible refine fr_foldl ?_ (fun _ _ _ => ?_)
    | with_reducible refine outWrite_frame _ _ _ _ mvrc mchans mrecd mints mheld mnoted mlic ?_ | with_reducible refine fltclrWrite_frame _ _ _ mchans mrecd mints mheld mnoted mlic ?_ | with_reducible refine setBank_frame _ _ _ mbanks ?_ | with_reducible refine intClear_frame _ _ _ mints ?_ | with_reducible refine intEnable_frame _ _ _ mints ?_
    | split
    | dsimp only

theorem brgWrite_frame {P : List Part} {t₀ : State} (o : Nat) (v : Reg32) (s : State) (mdrawn : Part.drawn ∈ P) (mrecd : Part.recd ∈ P) (mbrg : Part.brg ∈ P) (mints : Part.ints ∈ P) (mheld : Part.held ∈ P) (mnoted : Part.noted ∈ P) (mlic : Part.lic ∈ P) (h₀ : SameBut P t₀ s) :
    SameBut P t₀ (brgWrite o v s) := by
  unfold brgWrite
  repeat' first
    | with_reducible assumption
    | (rename_i hq; have hq2 := congrArg Prod.snd hq; with_reducible dsimp only at hq2; subst hq2)
    | simp only [↓fr_mk_iff, true_or, or_true, mdrawn, mrecd, mbrg, mints, mheld, mnoted, mlic]
    | with_reducible refine fr_ite ?_ ?_
    | with_reducible refine outFr_ite ?_ ?_
    | with_reducible refine outFr_next.2 ?_
    | with_reducible refine fr_ite2 ?_ ?_
    | with_reducible refine fr_foldl ?_ (fun _ _ _ => ?_)
    | with_reducible refine brgIntClear_frame _ _ mdrawn mints ?_ | with_reducible refine intEnable_frame _ _ _ mints ?_ | with_reducible refine brgRegionSet_frame _ _ _ _ mrecd mbrg mints mheld mnoted mlic ?_
    | split
    | dsimp only

theorem voteWrite_frame {P : List Part} {t₀ : State} (m : Option (Fin 8)) (a : Nat) (v : Reg32) (s : State) (mdrawn : Part.drawn ∈ P) (mvrc : Part.vrc ∈ P) (mcys : Part.cys ∈ P) (mbanks : Part.banks ∈ P) (mchans : Part.chans ∈ P) (mrecd : Part.recd ∈ P) (mtwl : Part.twl ∈ P) (mbrg : Part.brg ∈ P) (mints : Part.ints ∈ P) (mheld : Part.held ∈ P) (mnoted : Part.noted ∈ P) (mlic : Part.lic ∈ P) (h₀ : SameBut P t₀ s) :
    SameBut P t₀ (voteWrite m a v s) := by
  unfold voteWrite
  repeat' first
    | with_reducible assumption
    | (rename_i hq; have hq2 := congrArg Prod.snd hq; with_reducible dsimp only at hq2; subst hq2)
    | simp only [↓fr_mk_iff, true_or, or_true, mdrawn, mvrc, mcys, mbanks, mchans, mrecd, mtwl, mbrg, mints, mheld, mnoted, mlic]
    | with_reducible refine fr_ite ?_ ?_
    | with_reducible refine outFr_ite ?_ ?_
    | with_reducible refine outFr_next.2 ?_
    | with_reducible refine fr_ite2 ?_ ?_
    | with_reducible refine fr_foldl ?_ (fun _ _ _ => ?_)
    | with_reducible refine intClear_frame _ _ _ mints ?_ | with_reducible refine intEnable_frame _ _ _ mints ?_ | with_reducible refine fbWrite_frame _ _ _ _ _ mvrc mbanks mchans mrecd mints mheld mnoted mlic ?_ | with_reducible refine doneWrite_frame _ _ mcys mbanks mrecd mtwl mints mheld mnoted mlic ?_ | with_reducible refine quietWrite_frame _ mcys ?_ | with_reducible refine brgWrite_frame _ _ _ mdrawn mrecd mbrg mints mheld mnoted mlic ?_
    | split
    | dsimp only

theorem sharedWrite_frame {P : List Part} {t₀ : State} (m : Option (Fin 8)) (b : Beat) (s : State) (mvrc : Part.vrc ∈ P) (mtwl : Part.twl ∈ P) (mvmem : Part.vmem ∈ P) (h₀ : SameBut P t₀ s) :
    SameBut P t₀ (sharedWrite m b s) := by
  unfold sharedWrite
  repeat' first
    | with_reducible assumption
    | (rename_i hq; have hq2 := congrArg Prod.snd hq; with_reducible dsimp only at hq2; subst hq2)
    | simp only [↓fr_mk_iff, true_or, or_true, mvrc, mtwl, mvmem]
    | with_reducible refine fr_ite ?_ ?_
    | with_reducible refine outFr_ite ?_ ?_
    | with_reducible refine outFr_next.2 ?_
    | with_reducible refine fr_ite2 ?_ ?_
    | with_reducible refine fr_foldl ?_ (fun _ _ _ => ?_)
    | with_reducible refine fwdPush_frame _ _ _ mtwl ?_ | with_reducible refine markShared_frame _ _ _ mtwl ?_
    | split
    | dsimp only

theorem lncBufferWrite_frame {P : List Part} {t₀ : State} (b : Beat) (s : State) (mrecd : Part.recd ∈ P) (mlnc : Part.lnc ∈ P) (mints : Part.ints ∈ P) (mvmem : Part.vmem ∈ P) (mheld : Part.held ∈ P) (mnoted : Part.noted ∈ P) (mlic : Part.lic ∈ P) (h₀ : SameBut P t₀ s) :
    SameBut P t₀ (lncBufferWrite b s) := by
  unfold lncBufferWrite
  repeat' first
    | with_reducible assumption
    | (rename_i hq; have hq2 := congrArg Prod.snd hq; with_reducible dsimp only at hq2; subst hq2)
    | simp only [↓fr_mk_iff, true_or, or_true, mrecd, mlnc, mints, mvmem, mheld, mnoted, mlic]
    | with_reducible refine fr_ite ?_ ?_
    | with_reducible refine outFr_ite ?_ ?_
    | with_reducible refine outFr_next.2 ?_
    | with_reducible refine fr_ite2 ?_ ?_
    | with_reducible refine fr_foldl ?_ (fun _ _ _ => ?_)
    | with_reducible refine lncCommitted_frame _ _ mrecd mlnc mints mheld mnoted mlic ?_
    | split
    | dsimp only

theorem bwBeat_frame {P : List Part} {t₀ : State} (m : Option (Fin 8)) (b : Beat) (s : State) (mbw : Part.bw ∈ P) (h₀ : SameBut P t₀ s) :
    SameBut P t₀ (bwBeat m b s) := by
  unfold bwBeat
  repeat' first
    | with_reducible assumption
    | (rename_i hq; have hq2 := congrArg Prod.snd hq; with_reducible dsimp only at hq2; subst hq2)
    | simp only [↓fr_mk_iff, true_or, or_true, mbw]
    | with_reducible refine fr_ite ?_ ?_
    | with_reducible refine outFr_ite ?_ ?_
    | with_reducible refine outFr_next.2 ?_
    | with_reducible refine fr_ite2 ?_ ?_
    | with_reducible refine fr_foldl ?_ (fun _ _ _ => ?_)
    | with_reducible refine bwCount_frame _ _ _ mbw ?_ | with_reducible refine bwTarget_frame _ _ _ mbw ?_
    | split
    | dsimp only

theorem sharedAccess_frame {P : List Part} {t₀ : State} (m : Option (Fin 8)) (b : Beat) (s : State) (mvrc : Part.vrc ∈ P) (mtwl : Part.twl ∈ P) (mvmem : Part.vmem ∈ P) (h₀ : SameBut P t₀ s) :
    SameBut P t₀ (sharedAccess m b s).2 := by
  unfold sharedAccess
  repeat' first
    | with_reducible assumption
    | (rename_i hq; have hq2 := congrArg Prod.snd hq; with_reducible dsimp only at hq2; subst hq2)
    | simp only [↓fr_mk_iff, true_or, or_true, mvrc, mtwl, mvmem]
    | with_reducible refine fr_ite ?_ ?_
    | with_reducible refine outFr_ite ?_ ?_
    | with_reducible refine outFr_next.2 ?_
    | with_reducible refine fr_ite2 ?_ ?_
    | with_reducible refine fr_foldl ?_ (fun _ _ _ => ?_)
    | with_reducible refine sharedWrite_frame _ _ _ mvrc mtwl mvmem ?_
    | split
    | dsimp only

theorem voteAccess_frame {P : List Part} {t₀ : State} (m : Option (Fin 8)) (b : Beat) (s : State) (mdrawn : Part.drawn ∈ P) (mvrc : Part.vrc ∈ P) (mcys : Part.cys ∈ P) (mclk : Part.clk ∈ P) (mtim : Part.tim ∈ P) (mbanks : Part.banks ∈ P) (mchans : Part.chans ∈ P) (mxn : Part.xn ∈ P) (mrecd : Part.recd ∈ P) (mtwl : Part.twl ∈ P) (mlnc : Part.lnc ∈ P) (mbrg : Part.brg ∈ P) (mints : Part.ints ∈ P) (mvmem : Part.vmem ∈ P) (mheld : Part.held ∈ P) (mnoted : Part.noted ∈ P) (mlic : Part.lic ∈ P) (h₀ : SameBut P t₀ s) :
    SameBut P t₀ (voteAccess m b s).2 := by
  unfold voteAccess
  repeat' first
    | with_reducible assumption
    | (rename_i hq; have hq2 := congrArg Prod.snd hq; with_reducible dsimp only at hq2; subst hq2)
    | simp only [↓fr_mk_iff, true_or, or_true, mdrawn, mvrc, mcys, mclk, mtim, mbanks, mchans, mxn, mrecd, mtwl, mlnc, mbrg, mints, mvmem, mheld, mnoted, mlic]
    | with_reducible refine fr_ite ?_ ?_
    | with_reducible refine outFr_ite ?_ ?_
    | with_reducible refine outFr_next.2 ?_
    | with_reducible refine fr_ite2 ?_ ?_
    | with_reducible refine fr_foldl ?_ (fun _ _ _ => ?_)
    | with_reducible refine busError_frame _ _ _ _ _ mclk mrecd mints mheld mnoted mlic ?_ | with_reducible refine lncBufferWrite_frame _ _ mrecd mlnc mints mvmem mheld mnoted mlic ?_ | with_reducible refine voteWrite_frame _ _ _ _ mdrawn mvrc mcys mbanks mchans mrecd mtwl mbrg mints mheld mnoted mlic ?_ | with_reducible refine voteReadEffect_frame _ _ mcys mclk mtim mbanks mxn mbrg ?_
    | split
    | dsimp only

theorem fabric_frame {P : List Part} {t₀ : State} (m : Option (Fin 8)) (b : Beat) (s : State) (mdrawn : Part.drawn ∈ P) (mvrc : Part.vrc ∈ P) (mcys : Part.cys ∈ P) (mclk : Part.clk ∈ P) (mtim : Part.tim ∈ P) (mbanks : Part.banks ∈ P) (mchans : Part.chans ∈ P) (mxn : Part.xn ∈ P) (mrecd : Part.recd ∈ P) (mtwl : Part.twl ∈ P) (mlnc : Part.lnc ∈ P) (mbrg : Part.brg ∈ P) (mbw : Part.bw ∈ P) (mints : Part.ints ∈ P) (mvmem : Part.vmem ∈ P) (mheld : Part.held ∈ P) (mnoted : Part.noted ∈ P) (mlic : Part.lic ∈ P) (h₀ : SameBut P t₀ s) :
    SameBut P t₀ (fabric m b s).2 := by
  unfold fabric
  repeat' first
    | with_reducible assumption
    | (rename_i hq; have hq2 := congrArg Prod.snd hq; with_reducible dsimp only at hq2; subst hq2)
    | simp only [↓fr_mk_iff, true_or, or_true, mdrawn, mvrc, mcys, mclk, mtim, mbanks, mchans, mxn, mrecd, mtwl, mlnc, mbrg, mbw, mints, mvmem, mheld, mnoted, mlic]
    | with_reducible refine fr_ite ?_ ?_
    | with_reducible refine outFr_ite ?_ ?_
    | with_reducible refine outFr_next.2 ?_
    | with_reducible refine fr_ite2 ?_ ?_
    | with_reducible refine fr_foldl ?_ (fun _ _ _ => ?_)
    | with_reducible refine bwBeat_frame _ _ _ mbw ?_ | with_reducible refine voteAccess_frame _ _ _ mdrawn mvrc mcys mclk mtim mbanks mchans mxn mrecd mtwl mlnc mbrg mints mvmem mheld mnoted mlic ?_ | with_reducible refine busError_frame _ _ _ _ _ mclk mrecd mints mheld mnoted mlic ?_ | with_reducible refine sharedAccess_frame _ _ _ mvrc mtwl mvmem ?_ | with_reducible refine brgAccess_frame _ _ _ mclk mrecd mbrg mints mheld mnoted mlic ?_
    | split
    | dsimp only

theorem applyBurst_frame {P : List Part} {t₀ : State} (m : Option (Fin 8)) (bs : List Beat) (s : State) (mdrawn : Part.drawn ∈ P) (mvrc : Part.vrc ∈ P) (mcys : Part.cys ∈ P) (mclk : Part.clk ∈ P) (mtim : Part.tim ∈ P) (mbanks : Part.banks ∈ P) (mchans : Part.chans ∈ P) (mxn : Part.xn ∈ P) (mrecd : Part.recd ∈ P) (mtwl : Part.twl ∈ P) (mlnc : Part.lnc ∈ P) (mbrg : Part.brg ∈ P) (mbw : Part.bw ∈ P) (mints : Part.ints ∈ P) (mvmem : Part.vmem ∈ P) (mheld : Part.held ∈ P) (mnoted : Part.noted ∈ P) (mlic : Part.lic ∈ P)
    (h₀ : SameBut P t₀ s) : SameBut P t₀ (applyBurst m bs s).2 := by
  unfold applyBurst
  generalize BusReply.done 0 = r
  induction bs generalizing r s with
  | nil => exact h₀
  | cons b bs ih =>
    rw [List.foldl_cons]
    dsimp only
    split
    · exact ih s h₀ _
    · exact ih _ (fabric_frame m b s mdrawn mvrc mcys mclk mtim mbanks mchans mxn mrecd mtwl mlnc mbrg mbw mints mvmem mheld mnoted mlic h₀) _

theorem pushResponse_frame {P : List Part} {t₀ : State} (m : Option (Fin 8)) (tag : Nat) (r : BusReply) (s : State) (mvrc : Part.vrc ∈ P) (h₀ : SameBut P t₀ s) :
    SameBut P t₀ (pushResponse m tag r s) := by
  unfold pushResponse
  repeat' first
    | with_reducible assumption
    | (rename_i hq; have hq2 := congrArg Prod.snd hq; with_reducible dsimp only at hq2; subst hq2)
    | simp only [↓fr_mk_iff, true_or, or_true, mvrc]
    | with_reducible refine fr_ite ?_ ?_
    | with_reducible refine outFr_ite ?_ ?_
    | with_reducible refine outFr_next.2 ?_
    | with_reducible refine fr_ite2 ?_ ?_
    | with_reducible refine fr_foldl ?_ (fun _ _ _ => ?_)
    | split
    | dsimp only

theorem busForward_frame {P : List Part} {t₀ : State} (b : Beat) (core : Option (Fin 8)) (s : State) (mdrawn : Part.drawn ∈ P) (mvrc : Part.vrc ∈ P) (mcys : Part.cys ∈ P) (mclk : Part.clk ∈ P) (mtim : Part.tim ∈ P) (mbanks : Part.banks ∈ P) (mchans : Part.chans ∈ P) (mxn : Part.xn ∈ P) (mrecd : Part.recd ∈ P) (mtwl : Part.twl ∈ P) (mlnc : Part.lnc ∈ P) (mbrg : Part.brg ∈ P) (mbw : Part.bw ∈ P) (mints : Part.ints ∈ P) (mvmem : Part.vmem ∈ P) (mheld : Part.held ∈ P) (mnoted : Part.noted ∈ P) (mlic : Part.lic ∈ P) (h₀ : SameBut P t₀ s) :
    SameBut P t₀ (busForward b core s) := by
  unfold busForward
  repeat' first
    | with_reducible assumption
    | (rename_i hq; have hq2 := congrArg Prod.snd hq; with_reducible dsimp only at hq2; subst hq2)
    | simp only [↓fr_mk_iff, true_or, or_true, mdrawn, mvrc, mcys, mclk, mtim, mbanks, mchans, mxn, mrecd, mtwl, mlnc, mbrg, mbw, mints, mvmem, mheld, mnoted, mlic]
    | with_reducible refine fr_ite ?_ ?_
    | with_reducible refine outFr_ite ?_ ?_
    | with_reducible refine outFr_next.2 ?_
    | with_reducible refine fr_ite2 ?_ ?_
    | with_reducible refine fr_foldl ?_ (fun _ _ _ => ?_)
    | with_reducible refine applyBurst_frame _ _ _ mdrawn mvrc mcys mclk mtim mbanks mchans mxn mrecd mtwl mlnc mbrg mbw mints mvmem mheld mnoted mlic ?_ | with_reducible refine pushResponse_frame _ _ _ _ mvrc ?_ | with_reducible refine fabric_frame _ _ _ mdrawn mvrc mcys mclk mtim mbanks mchans mxn mrecd mtwl mlnc mbrg mbw mints mvmem mheld mnoted mlic ?_
    | split
    | dsimp only

theorem execLaneBeat_frame {P : List Part} {t₀ : State} (i0 i1 i2 i3 : LaneInput) (s : State) (mdrawn : Part.drawn ∈ P) (mmod : Part.mod ∈ P) (mpwr : Part.pwr ∈ P) (mvrc : Part.vrc ∈ P) (mrot : Part.rot ∈ P) (mcys : Part.cys ∈ P) (mclk : Part.clk ∈ P) (mtim : Part.tim ∈ P) (mbanks : Part.banks ∈ P) (mchans : Part.chans ∈ P) (mxn : Part.xn ∈ P) (mrecd : Part.recd ∈ P) (mkiln : Part.kiln ∈ P) (mtwl : Part.twl ∈ P) (mlnc : Part.lnc ∈ P) (mbrg : Part.brg ∈ P) (mbw : Part.bw ∈ P) (mints : Part.ints ∈ P) (mmems : Part.mems ∈ P) (mcores : Part.cores ∈ P) (mvmem : Part.vmem ∈ P) (mheld : Part.held ∈ P) (mnoted : Part.noted ∈ P) (mlic : Part.lic ∈ P) (h₀ : SameBut P t₀ s) :
    OutFr P t₀ (execLaneBeat i0 i1 i2 i3 s) := by
  unfold execLaneBeat
  repeat' first
    | with_reducible assumption
    | (rename_i hq; have hq2 := congrArg Prod.snd hq; with_reducible dsimp only at hq2; subst hq2)
    | simp only [↓fr_mk_iff, true_or, or_true, mdrawn, mmod, mpwr, mvrc, mrot, mcys, mclk, mtim, mbanks, mchans, mxn, mrecd, mkiln, mtwl, mlnc, mbrg, mbw, mints, mmems, mcores, mvmem, mheld, mnoted, mlic]
    | with_reducible refine fr_ite ?_ ?_
    | with_reducible refine outFr_ite ?_ ?_
    | with_reducible refine outFr_next.2 ?_
    | with_reducible refine fr_ite2 ?_ ?_
    | with_reducible refine fr_foldl ?_ (fun _ _ _ => ?_)
    | with_reducible refine busForward_frame _ _ _ mdrawn mvrc mcys mclk mtim mbanks mchans mxn mrecd mtwl mlnc mbrg mbw mints mvmem mheld mnoted mlic ?_ | with_reducible refine laneSilent_frame _ _ _ mmod mpwr mvrc mrot mcys mclk mtim mbanks mchans mxn mrecd mkiln mtwl mlnc mbw mints mmems mcores mheld mnoted mlic ?_ | with_reducible refine voteClock_frame _ _ mmod mpwr mvrc mrot mcys mbanks mchans mxn mrecd mkiln mtwl mints mheld mnoted mlic ?_
    | split
    | dsimp only

theorem execLockstepMismatch_frame {P : List Part} {t₀ : State} (lane : Fin 4) (cls : BitVec 4) (groups : BitVec 13) (s : State) (mmod : Part.mod ∈ P) (mpwr : Part.pwr ∈ P) (mvrc : Part.vrc ∈ P) (mrot : Part.rot ∈ P) (mcys : Part.cys ∈ P) (mclk : Part.clk ∈ P) (mtim : Part.tim ∈ P) (mbanks : Part.banks ∈ P) (mchans : Part.chans ∈ P) (mxn : Part.xn ∈ P) (mrecd : Part.recd ∈ P) (mkiln : Part.kiln ∈ P) (mtwl : Part.twl ∈ P) (mlnc : Part.lnc ∈ P) (mbw : Part.bw ∈ P) (mints : Part.ints ∈ P) (mmems : Part.mems ∈ P) (mcores : Part.cores ∈ P) (mheld : Part.held ∈ P) (mnoted : Part.noted ∈ P) (mlic : Part.lic ∈ P) (h₀ : SameBut P t₀ s) :
    OutFr P t₀ (execLockstepMismatch lane cls groups s) := by
  unfold execLockstepMismatch
  repeat' first
    | with_reducible assumption
    | (rename_i hq; have hq2 := congrArg Prod.snd hq; with_reducible dsimp only at hq2; subst hq2)
    | simp only [↓fr_mk_iff, true_or, or_true, mmod, mpwr, mvrc, mrot, mcys, mclk, mtim, mbanks, mchans, mxn, mrecd, mkiln, mtwl, mlnc, mbw, mints, mmems, mcores, mheld, mnoted, mlic]
    | with_reducible refine fr_ite ?_ ?_
    | with_reducible refine outFr_ite ?_ ?_
    | with_reducible refine outFr_next.2 ?_
    | with_reducible refine fr_ite2 ?_ ?_
    | with_reducible refine fr_foldl ?_ (fun _ _ _ => ?_)
    | with_reducible refine laneSilent_frame _ _ _ mmod mpwr mvrc mrot mcys mclk mtim mbanks mchans mxn mrecd mkiln mtwl mlnc mbw mints mmems mcores mheld mnoted mlic ?_
    | split
    | dsimp only

theorem execLaneMemUe_frame {P : List Part} {t₀ : State} (lane : Fin 4) (addr : BitVec 40) (s : State) (mmod : Part.mod ∈ P) (mpwr : Part.pwr ∈ P) (mvrc : Part.vrc ∈ P) (mrot : Part.rot ∈ P) (mcys : Part.cys ∈ P) (mclk : Part.clk ∈ P) (mtim : Part.tim ∈ P) (mbanks : Part.banks ∈ P) (mchans : Part.chans ∈ P) (mxn : Part.xn ∈ P) (mrecd : Part.recd ∈ P) (mkiln : Part.kiln ∈ P) (mtwl : Part.twl ∈ P) (mlnc : Part.lnc ∈ P) (mbw : Part.bw ∈ P) (mints : Part.ints ∈ P) (mmems : Part.mems ∈ P) (mcores : Part.cores ∈ P) (mheld : Part.held ∈ P) (mnoted : Part.noted ∈ P) (mlic : Part.lic ∈ P) (h₀ : SameBut P t₀ s) :
    OutFr P t₀ (execLaneMemUe lane addr s) := by
  unfold execLaneMemUe
  repeat' first
    | with_reducible assumption
    | (rename_i hq; have hq2 := congrArg Prod.snd hq; with_reducible dsimp only at hq2; subst hq2)
    | simp only [↓fr_mk_iff, true_or, or_true, mmod, mpwr, mvrc, mrot, mcys, mclk, mtim, mbanks, mchans, mxn, mrecd, mkiln, mtwl, mlnc, mbw, mints, mmems, mcores, mheld, mnoted, mlic]
    | with_reducible refine fr_ite ?_ ?_
    | with_reducible refine outFr_ite ?_ ?_
    | with_reducible refine outFr_next.2 ?_
    | with_reducible refine fr_ite2 ?_ ?_
    | with_reducible refine fr_foldl ?_ (fun _ _ _ => ?_)
    | with_reducible refine laneSilent_frame _ _ _ mmod mpwr mvrc mrot mcys mclk mtim mbanks mchans mxn mrecd mkiln mtwl mlnc mbw mints mmems mcores mheld mnoted mlic ?_
    | split
    | dsimp only

theorem lanePort_frame {P : List Part} {t₀ : State} (r : Response) (l : Fin 4) (s : State) (mcores : Part.cores ∈ P) (mlic : Part.lic ∈ P) (h₀ : SameBut P t₀ s) :
    SameBut P t₀ (lanePort r l s) := by
  unfold lanePort
  repeat' first
    | with_reducible assumption
    | (rename_i hq; have hq2 := congrArg Prod.snd hq; with_reducible dsimp only at hq2; subst hq2)
    | simp only [↓fr_mk_iff, true_or, or_true, mcores, mlic]
    | with_reducible refine fr_ite ?_ ?_
    | with_reducible refine outFr_ite ?_ ?_
    | with_reducible refine outFr_next.2 ?_
    | with_reducible refine fr_ite2 ?_ ?_
    | with_reducible refine fr_foldl ?_ (fun _ _ _ => ?_)
    | split
    | dsimp only

theorem deliverResponse_frame {P : List Part} {t₀ : State} (s : State) (mvrc : Part.vrc ∈ P) (mcores : Part.cores ∈ P) (mlic : Part.lic ∈ P) (h₀ : SameBut P t₀ s) :
    SameBut P t₀ (deliverResponse s) := by
  unfold deliverResponse
  repeat' first
    | with_reducible assumption
    | (rename_i hq; have hq2 := congrArg Prod.snd hq; with_reducible dsimp only at hq2; subst hq2)
    | simp only [↓fr_mk_iff, true_or, or_true, mvrc, mcores, mlic]
    | with_reducible refine fr_ite ?_ ?_
    | with_reducible refine outFr_ite ?_ ?_
    | with_reducible refine outFr_next.2 ?_
    | with_reducible refine fr_ite2 ?_ ?_
    | with_reducible refine fr_foldl ?_ (fun _ _ _ => ?_)
    | with_reducible refine lanePort_frame _ _ _ mcores mlic ?_
    | split
    | dsimp only

theorem execFabricResponse_frame {P : List Part} {t₀ : State} (irq : Option (BitVec 9)) (s : State) (mvrc : Part.vrc ∈ P) (mcores : Part.cores ∈ P) (mheld : Part.held ∈ P) (mlic : Part.lic ∈ P) (h₀ : SameBut P t₀ s) :
    OutFr P t₀ (execFabricResponse irq s) := by
  unfold execFabricResponse
  repeat' first
    | with_reducible assumption
    | (rename_i hq; have hq2 := congrArg Prod.snd hq; with_reducible dsimp only at hq2; subst hq2)
    | simp only [↓fr_mk_iff, true_or, or_true, mvrc, mcores, mheld, mlic]
    | with_reducible refine fr_ite ?_ ?_
    | with_reducible refine outFr_ite ?_ ?_
    | with_reducible refine outFr_next.2 ?_
    | with_reducible refine fr_ite2 ?_ ?_
    | with_reducible refine fr_foldl ?_ (fun _ _ _ => ?_)
    | with_reducible refine deliver_frame _ _ mheld mlic ?_ | with_reducible refine deliverResponse_frame _ mvrc mcores mlic ?_
    | split
    | dsimp only

theorem becomeSpare_frame {P : List Part} {t₀ : State} (l : Fin 4) (stale : Bool) (s : State) (mvrc : Part.vrc ∈ P) (mrot : Part.rot ∈ P) (h₀ : SameBut P t₀ s) :
    SameBut P t₀ (becomeSpare l stale s) := by
  unfold becomeSpare
  repeat' first
    | with_reducible assumption
    | (rename_i hq; have hq2 := congrArg Prod.snd hq; with_reducible dsimp only at hq2; subst hq2)
    | simp only [↓fr_mk_iff, true_or, or_true, mvrc, mrot]
    | with_reducible refine fr_ite ?_ ?_
    | with_reducible refine outFr_ite ?_ ?_
    | with_reducible refine outFr_next.2 ?_
    | with_reducible refine fr_ite2 ?_ ?_
    | with_reducible refine fr_foldl ?_ (fun _ _ _ => ?_)
    | with_reducible refine setLane_frame _ _ _ mvrc ?_
    | split
    | dsimp only

theorem execQuarantineTestsDone_frame {P : List Part} {t₀ : State} (lane : Fin 4) (result : LaneTest) (s : State) (mpwr : Part.pwr ∈ P) (mvrc : Part.vrc ∈ P) (mrot : Part.rot ∈ P) (mrecd : Part.recd ∈ P) (mints : Part.ints ∈ P) (mcores : Part.cores ∈ P) (mheld : Part.held ∈ P) (mnoted : Part.noted ∈ P) (mlic : Part.lic ∈ P) (h₀ : SameBut P t₀ s) :
    OutFr P t₀ (execQuarantineTestsDone lane result s) := by
  unfold execQuarantineTestsDone
  repeat' first
    | with_reducible assumption
    | (rename_i hq; have hq2 := congrArg Prod.snd hq; with_reducible dsimp only at hq2; subst hq2)
    | simp only [↓fr_mk_iff, true_or, or_true, mpwr, mvrc, mrot, mrecd, mints, mcores, mheld, mnoted, mlic]
    | with_reducible refine fr_ite ?_ ?_
    | with_reducible refine outFr_ite ?_ ?_
    | with_reducible refine outFr_next.2 ?_
    | with_reducible refine fr_ite2 ?_ ?_
    | with_reducible refine fr_foldl ?_ (fun _ _ _ => ?_)
    | with_reducible refine raise_frame _ _ mints mheld mlic ?_ | with_reducible refine becomeSpare_frame _ _ _ mvrc mrot ?_ | with_reducible refine laneReset_frame _ _ mvrc mcores mlic ?_ | with_reducible refine retire_frame _ _ _ _ _ mpwr mvrc mrot mrecd mints mheld mnoted mlic ?_
    | split
    | dsimp only

theorem execRotationTimerExpiry_frame {P : List Part} {t₀ : State} (dt : Nat) (s : State) (mrot : Part.rot ∈ P) (h₀ : SameBut P t₀ (advance dt s)) :
    OutFr P t₀ (execRotationTimerExpiry dt s) := by
  unfold execRotationTimerExpiry
  repeat' first
    | with_reducible assumption
    | (rename_i hq; have hq2 := congrArg Prod.snd hq; with_reducible dsimp only at hq2; subst hq2)
    | simp only [↓fr_mk_iff, true_or, or_true, mrot]
    | with_reducible refine fr_ite ?_ ?_
    | with_reducible refine outFr_ite ?_ ?_
    | with_reducible refine outFr_next.2 ?_
    | with_reducible refine fr_ite2 ?_ ?_
    | with_reducible refine fr_foldl ?_ (fun _ _ _ => ?_)
    | with_reducible refine rotationExpire_frame _ mrot ?_
    | split
    | dsimp only

theorem execBisqueOverdue_frame {P : List Part} {t₀ : State} (lane : Fin 4) (s : State) (mvrc : Part.vrc ∈ P) (mrecd : Part.recd ∈ P) (mnoted : Part.noted ∈ P) (h₀ : SameBut P t₀ s) :
    OutFr P t₀ (execBisqueOverdue lane s) := by
  unfold execBisqueOverdue
  repeat' first
    | with_reducible assumption
    | (rename_i hq; have hq2 := congrArg Prod.snd hq; with_reducible dsimp only at hq2; subst hq2)
    | simp only [↓fr_mk_iff, true_or, or_true, mvrc, mrecd, mnoted]
    | with_reducible refine fr_ite ?_ ?_
    | with_reducible refine outFr_ite ?_ ?_
    | with_reducible refine outFr_next.2 ?_
    | with_reducible refine fr_ite2 ?_ ?_
    | with_reducible refine fr_foldl ?_ (fun _ _ _ => ?_)
    | with_reducible refine record_frame _ _ _ _ _ _ mrecd mnoted ?_ | with_reducible refine setLane_frame _ _ _ mvrc ?_
    | split
    | dsimp only

theorem rewedgeLoad_frame {P : List Part} {t₀ : State} (r : Rewedge) (s : State) (mvrc : Part.vrc ∈ P) (mrot : Part.rot ∈ P) (mcores : Part.cores ∈ P) (mlic : Part.lic ∈ P) (h₀ : SameBut P t₀ s) :
    SameBut P t₀ (rewedgeLoad r s) := by
  unfold rewedgeLoad
  repeat' first
    | with_reducible assumption
    | (rename_i hq; have hq2 := congrArg Prod.snd hq; with_reducible dsimp only at hq2; subst hq2)
    | simp only [↓fr_mk_iff, true_or, or_true, mvrc, mrot, mcores, mlic]
    | with_reducible refine fr_ite ?_ ?_
    | with_reducible refine outFr_ite ?_ ?_
    | with_reducible refine outFr_next.2 ?_
    | with_reducible refine fr_ite2 ?_ ?_
    | with_reducible refine fr_foldl ?_ (fun _ _ _ => ?_)
    | with_reducible refine invalidateLanes_frame _ _ mvrc mcores mlic ?_ | with_reducible refine loadRecord_frame _ _ mcores mlic ?_ | with_reducible refine setLane_frame _ _ _ mvrc ?_
    | split
    | dsimp only

theorem rewedgeFails_frame {P : List Part} {t₀ : State} (r : Rewedge) (s : State) (mmod : Part.mod ∈ P) (mpwr : Part.pwr ∈ P) (mvrc : Part.vrc ∈ P) (mrot : Part.rot ∈ P) (mrecd : Part.recd ∈ P) (mints : Part.ints ∈ P) (mheld : Part.held ∈ P) (mnoted : Part.noted ∈ P) (mlic : Part.lic ∈ P) (h₀ : SameBut P t₀ s) :
    SameBut P t₀ (rewedgeFails r s) := by
  unfold rewedgeFails
  repeat' first
    | with_reducible assumption
    | (rename_i hq; have hq2 := congrArg Prod.snd hq; with_reducible dsimp only at hq2; subst hq2)
    | simp only [↓fr_mk_iff, true_or, or_true, mmod, mpwr, mvrc, mrot, mrecd, mints, mheld, mnoted, mlic]
    | with_reducible refine fr_ite ?_ ?_
    | with_reducible refine outFr_ite ?_ ?_
    | with_reducible refine outFr_next.2 ?_
    | with_reducible refine fr_ite2 ?_ ?_
    | with_reducible refine fr_foldl ?_ (fun _ _ _ => ?_)
    | with_reducible refine toQuarantine_frame _ _ _ mpwr mvrc mrot mrecd mints mheld mnoted mlic ?_ | with_reducible refine wedgeAbort_frame _ _ _ _ mvrc mrot mrecd mints mheld mnoted mlic ?_ | with_reducible refine setModState_frame _ _ _ mmod mrecd mnoted ?_ | with_reducible refine setVote_frame _ _ _ _ mvrc mrecd mints mheld mnoted mlic ?_
    | split
    | dsimp only

theorem execRewedge_frame {P : List Part} {t₀ : State} (dt : Nat) (crcOk : Bool) (s : State) (mdrawn : Part.drawn ∈ P) (mmod : Part.mod ∈ P) (mpwr : Part.pwr ∈ P) (mvrc : Part.vrc ∈ P) (mrot : Part.rot ∈ P) (mcys : Part.cys ∈ P) (mbanks : Part.banks ∈ P) (mchans : Part.chans ∈ P) (mxn : Part.xn ∈ P) (mrecd : Part.recd ∈ P) (mkiln : Part.kiln ∈ P) (mtwl : Part.twl ∈ P) (mints : Part.ints ∈ P) (mcores : Part.cores ∈ P) (mheld : Part.held ∈ P) (mnoted : Part.noted ∈ P) (mlic : Part.lic ∈ P) (h₀ : SameBut P t₀ (advance dt s)) :
    OutFr P t₀ (execRewedge dt crcOk s) := by
  unfold execRewedge
  repeat' first
    | with_reducible assumption
    | (rename_i hq; have hq2 := congrArg Prod.snd hq; with_reducible dsimp only at hq2; subst hq2)
    | simp only [↓fr_mk_iff, true_or, or_true, mdrawn, mmod, mpwr, mvrc, mrot, mcys, mbanks, mchans, mxn, mrecd, mkiln, mtwl, mints, mcores, mheld, mnoted, mlic]
    | with_reducible refine fr_ite ?_ ?_
    | with_reducible refine outFr_ite ?_ ?_
    | with_reducible refine outFr_next.2 ?_
    | with_reducible refine fr_ite2 ?_ ?_
    | with_reducible refine fr_foldl ?_ (fun _ _ _ => ?_)
    | with_reducible refine mirrorDisagree_frame _ _ _ _ mmod mpwr mvrc mrot mcys mbanks mchans mxn mrecd mkiln mtwl mints mheld mnoted mlic ?_ | with_reducible refine rewedgeLoad_frame _ _ mvrc mrot mcores mlic ?_ | with_reducible refine rewedgeFails_frame _ _ mmod mpwr mvrc mrot mrecd mints mheld mnoted mlic ?_
    | split
    | dsimp only

theorem startBisque_frame {P : List Part} {t₀ : State} (l : Fin 4) (s : State) (mvrc : Part.vrc ∈ P) (mrot : Part.rot ∈ P) (h₀ : SameBut P t₀ s) :
    SameBut P t₀ (startBisque l s) := by
  unfold startBisque
  repeat' first
    | with_reducible assumption
    | (rename_i hq; have hq2 := congrArg Prod.snd hq; with_reducible dsimp only at hq2; subst hq2)
    | simp only [↓fr_mk_iff, true_or, or_true, mvrc, mrot]
    | with_reducible refine fr_ite ?_ ?_
    | with_reducible refine outFr_ite ?_ ?_
    | with_reducible refine outFr_next.2 ?_
    | with_reducible refine fr_ite2 ?_ ?_
    | with_reducible refine fr_foldl ?_ (fun _ _ _ => ?_)
    | with_reducible refine setLane_frame _ _ _ mvrc ?_
    | split
    | dsimp only

theorem execBisqueSwap_frame {P : List Part} {t₀ : State} (dt : Nat) (s : State) (mvrc : Part.vrc ∈ P) (mrot : Part.rot ∈ P) (mrecd : Part.recd ∈ P) (mints : Part.ints ∈ P) (mheld : Part.held ∈ P) (mnoted : Part.noted ∈ P) (mlic : Part.lic ∈ P) (h₀ : SameBut P t₀ (advance dt s)) :
    OutFr P t₀ (execBisqueSwap dt s) := by
  unfold execBisqueSwap
  repeat' first
    | with_reducible assumption
    | (rename_i hq; have hq2 := congrArg Prod.snd hq; with_reducible dsimp only at hq2; subst hq2)
    | simp only [↓fr_mk_iff, true_or, or_true, mvrc, mrot, mrecd, mints, mheld, mnoted, mlic]
    | with_reducible refine fr_ite ?_ ?_
    | with_reducible refine outFr_ite ?_ ?_
    | with_reducible refine outFr_next.2 ?_
    | with_reducible refine fr_ite2 ?_ ?_
    | with_reducible refine fr_foldl ?_ (fun _ _ _ => ?_)
    | with_reducible refine rotationRestart_frame _ mrot ?_ | with_reducible refine startBisque_frame _ _ mvrc mrot ?_ | with_reducible refine joinLane_frame _ _ mvrc mrot mheld mlic ?_ | with_reducible refine raise_frame _ _ mints mheld mlic ?_ | with_reducible refine record_frame _ _ _ _ _ _ mrecd mnoted ?_
    | split
    | dsimp only

theorem execSubstituted_frame {P : List Part} {t₀ : State} (dt : Nat) (s : State) (mmod : Part.mod ∈ P) (mvrc : Part.vrc ∈ P) (mrot : Part.rot ∈ P) (mrecd : Part.recd ∈ P) (mints : Part.ints ∈ P) (mheld : Part.held ∈ P) (mnoted : Part.noted ∈ P) (mlic : Part.lic ∈ P) (h₀ : SameBut P t₀ (advance dt s)) :
    OutFr P t₀ (execSubstituted dt s) := by
  unfold execSubstituted
  repeat' first
    | with_reducible assumption
    | (rename_i hq; have hq2 := congrArg Prod.snd hq; with_reducible dsimp only at hq2; subst hq2)
    | simp only [↓fr_mk_iff, true_or, or_true, mmod, mvrc, mrot, mrecd, mints, mheld, mnoted, mlic]
    | with_reducible refine fr_ite ?_ ?_
    | with_reducible refine outFr_ite ?_ ?_
    | with_reducible refine outFr_next.2 ?_
    | with_reducible refine fr_ite2 ?_ ?_
    | with_reducible refine fr_foldl ?_ (fun _ _ _ => ?_)
    | with_reducible refine joinLane_frame _ _ mvrc mrot mheld mlic ?_ | with_reducible refine rotationRestart_frame _ mrot ?_ | with_reducible refine raise_frame _ _ mints mheld mlic ?_ | with_reducible refine record_frame _ _ _ _ _ _ mrecd mnoted ?_ | with_reducible refine setModState_frame _ _ _ mmod mrecd mnoted ?_ | with_reducible refine setVote_frame _ _ _ _ mvrc mrecd mints mheld mnoted mlic ?_
    | split
    | dsimp only

theorem bisqueInjection_frame {P : List Part} {t₀ : State} (f : InjFail) (s : State) (mmod : Part.mod ∈ P) (mvrc : Part.vrc ∈ P) (mrot : Part.rot ∈ P) (mcys : Part.cys ∈ P) (mclk : Part.clk ∈ P) (mtim : Part.tim ∈ P) (mbanks : Part.banks ∈ P) (mchans : Part.chans ∈ P) (mxn : Part.xn ∈ P) (mrecd : Part.recd ∈ P) (mkiln : Part.kiln ∈ P) (mtwl : Part.twl ∈ P) (mlnc : Part.lnc ∈ P) (mbw : Part.bw ∈ P) (mints : Part.ints ∈ P) (mmems : Part.mems ∈ P) (mcores : Part.cores ∈ P) (mheld : Part.held ∈ P) (mnoted : Part.noted ∈ P) (mlic : Part.lic ∈ P) (h₀ : SameBut P t₀ s) :
    SameBut P t₀ (bisqueInjection f s) := by
  unfold bisqueInjection
  repeat' first
    | with_reducible assumption
    | (rename_i hq; have hq2 := congrArg Prod.snd hq; with_reducible dsimp only at hq2; subst hq2)
    | simp only [↓fr_mk_iff, true_or, or_true, mmod, mvrc, mrot, mcys, mclk, mtim, mbanks, mchans, mxn, mrecd, mkiln, mtwl, mlnc, mbw, mints, mmems, mcores, mheld, mnoted, mlic]
    | with_reducible refine fr_ite ?_ ?_
    | with_reducible refine outFr_ite ?_ ?_
    | with_reducible refine outFr_next.2 ?_
    | with_reducible refine fr_ite2 ?_ ?_
    | with_reducible refine fr_foldl ?_ (fun _ _ _ => ?_)
    | with_reducible refine bisqueFail_frame _ _ _ mrot mcys mclk mtim mrecd mtwl mlnc mbw mints mmems mcores mheld mnoted mlic ?_ | with_reducible refine enterService_frame _ _ mmod mvrc mrot mcys mbanks mchans mxn mrecd mkiln mtwl mints mheld mnoted mlic ?_ | with_reducible refine raise_frame _ _ mints mheld mlic ?_ | with_reducible refine record_frame _ _ _ _ _ _ mrecd mnoted ?_
    | split
    | dsimp only

theorem bisqueStepFails_frame {P : List Part} {t₀ : State} (e : StepEnd) (s : State) (mmod : Part.mod ∈ P) (mpwr : Part.pwr ∈ P) (mvrc : Part.vrc ∈ P) (mrot : Part.rot ∈ P) (mcys : Part.cys ∈ P) (mclk : Part.clk ∈ P) (mtim : Part.tim ∈ P) (mbanks : Part.banks ∈ P) (mchans : Part.chans ∈ P) (mxn : Part.xn ∈ P) (mrecd : Part.recd ∈ P) (mkiln : Part.kiln ∈ P) (mtwl : Part.twl ∈ P) (mlnc : Part.lnc ∈ P) (mbw : Part.bw ∈ P) (mints : Part.ints ∈ P) (mmems : Part.mems ∈ P) (mcores : Part.cores ∈ P) (mheld : Part.held ∈ P) (mnoted : Part.noted ∈ P) (mlic : Part.lic ∈ P) (h₀ : SameBut P t₀ s) :
    SameBut P t₀ (bisqueStepFails e s) := by
  unfold bisqueStepFails
  repeat' first
    | with_reducible assumption
    | (rename_i hq; have hq2 := congrArg Prod.snd hq; with_reducible dsimp only at hq2; subst hq2)
    | simp only [↓fr_mk_iff, true_or, or_true, mmod, mpwr, mvrc, mrot, mcys, mclk, mtim, mbanks, mchans, mxn, mrecd, mkiln, mtwl, mlnc, mbw, mints, mmems, mcores, mheld, mnoted, mlic]
    | with_reducible refine fr_ite ?_ ?_
    | with_reducible refine outFr_ite ?_ ?_
    | with_reducible refine outFr_next.2 ?_
    | with_reducible refine fr_ite2 ?_ ?_
    | with_reducible refine fr_foldl ?_ (fun _ _ _ => ?_)
    | with_reducible refine bisqueInjection_frame _ _ mmod mvrc mrot mcys mclk mtim mbanks mchans mxn mrecd mkiln mtwl mlnc mbw mints mmems mcores mheld mnoted mlic ?_ | with_reducible refine retire_frame _ _ _ _ _ mpwr mvrc mrot mrecd mints mheld mnoted mlic ?_ | with_reducible refine bisqueFail_frame _ _ _ mrot mcys mclk mtim mrecd mtwl mlnc mbw mints mmems mcores mheld mnoted mlic ?_ | with_reducible refine toQuarantine_frame _ _ _ mpwr mvrc mrot mrecd mints mheld mnoted mlic ?_
    | split
    | dsimp only

theorem bisquePasses_frame {P : List Part} {t₀ : State} (s : State) (mvrc : Part.vrc ∈ P) (mrot : Part.rot ∈ P) (mrecd : Part.recd ∈ P) (mints : Part.ints ∈ P) (mmems : Part.mems ∈ P) (mheld : Part.held ∈ P) (mnoted : Part.noted ∈ P) (mlic : Part.lic ∈ P) (h₀ : SameBut P t₀ s) :
    SameBut P t₀ (bisquePasses s) := by
  unfold bisquePasses
  repeat' first
    | with_reducible assumption
    | (rename_i hq; have hq2 := congrArg Prod.snd hq; with_reducible dsimp only at hq2; subst hq2)
    | simp only [↓fr_mk_iff, true_or, or_true, mvrc, mrot, mrecd, mints, mmems, mheld, mnoted, mlic]
    | with_reducible refine fr_ite ?_ ?_
    | with_reducible refine outFr_ite ?_ ?_
    | with_reducible refine outFr_next.2 ?_
    | with_reducible refine fr_ite2 ?_ ?_
    | with_reducible refine fr_foldl ?_ (fun _ _ _ => ?_)
    | with_reducible refine setLane_frame _ _ _ mvrc ?_ | with_reducible refine raise_frame _ _ mints mheld mlic ?_ | with_reducible refine record_frame _ _ _ _ _ _ mrecd mnoted ?_ | with_reducible refine becomeSpare_frame _ _ _ mvrc mrot ?_
    | split
    | dsimp only

theorem bisqueStepPasses_frame {P : List Part} {t₀ : State} (s : State) (mvrc : Part.vrc ∈ P) (mrot : Part.rot ∈ P) (mrecd : Part.recd ∈ P) (mints : Part.ints ∈ P) (mmems : Part.mems ∈ P) (mcores : Part.cores ∈ P) (mheld : Part.held ∈ P) (mnoted : Part.noted ∈ P) (mlic : Part.lic ∈ P) (h₀ : SameBut P t₀ s) :
    SameBut P t₀ (bisqueStepPasses s) := by
  unfold bisqueStepPasses
  repeat' first
    | with_reducible assumption
    | (rename_i hq; have hq2 := congrArg Prod.snd hq; with_reducible dsimp only at hq2; subst hq2)
    | simp only [↓fr_mk_iff, true_or, or_true, mvrc, mrot, mrecd, mints, mmems, mcores, mheld, mnoted, mlic]
    | with_reducible refine fr_ite ?_ ?_
    | with_reducible refine outFr_ite ?_ ?_
    | with_reducible refine outFr_next.2 ?_
    | with_reducible refine fr_ite2 ?_ ?_
    | with_reducible refine fr_foldl ?_ (fun _ _ _ => ?_)
    | with_reducible refine laneReset_frame _ _ mvrc mcores mlic ?_ | with_reducible refine bisquePasses_frame _ mvrc mrot mrecd mints mmems mheld mnoted mlic ?_
    | split
    | dsimp only

theorem execBisqueStepComplete_frame {P : List Part} {t₀ : State} (dt : Nat) (result : StepEnd) (s : State) (mmod : Part.mod ∈ P) (mpwr : Part.pwr ∈ P) (mvrc : Part.vrc ∈ P) (mrot : Part.rot ∈ P) (mcys : Part.cys ∈ P) (mclk : Part.clk ∈ P) (mtim : Part.tim ∈ P) (mbanks : Part.banks ∈ P) (mchans : Part.chans ∈ P) (mxn : Part.xn ∈ P) (mrecd : Part.recd ∈ P) (mkiln : Part.kiln ∈ P) (mtwl : Part.twl ∈ P) (mlnc : Part.lnc ∈ P) (mbw : Part.bw ∈ P) (mints : Part.ints ∈ P) (mmems : Part.mems ∈ P) (mcores : Part.cores ∈ P) (mheld : Part.held ∈ P) (mnoted : Part.noted ∈ P) (mlic : Part.lic ∈ P) (h₀ : SameBut P t₀ (advance dt s)) :
    OutFr P t₀ (execBisqueStepComplete dt result s) := by
  unfold execBisqueStepComplete
  repeat' first
    | with_reducible assumption
    | (rename_i hq; have hq2 := congrArg Prod.snd hq; with_reducible dsimp only at hq2; subst hq2)
    | simp only [↓fr_mk_iff, true_or, or_true, mmod, mpwr, mvrc, mrot, mcys, mclk, mtim, mbanks, mchans, mxn, mrecd, mkiln, mtwl, mlnc, mbw, mints, mmems, mcores, mheld, mnoted, mlic]
    | with_reducible refine fr_ite ?_ ?_
    | with_reducible refine outFr_ite ?_ ?_
    | with_reducible refine outFr_next.2 ?_
    | with_reducible refine fr_ite2 ?_ ?_
    | with_reducible refine fr_foldl ?_ (fun _ _ _ => ?_)
    | with_reducible refine bisqueStepPasses_frame _ mvrc mrot mrecd mints mmems mcores mheld mnoted mlic ?_ | with_reducible refine bisqueStepFails_frame _ _ mmod mpwr mvrc mrot mcys mclk mtim mbanks mchans mxn mrecd mkiln mtwl mlnc mbw mints mmems mcores mheld mnoted mlic ?_
    | split
    | dsimp only

theorem execBisqueStepOverrun_frame {P : List Part} {t₀ : State} (dt : Nat) (s : State) (mmod : Part.mod ∈ P) (mpwr : Part.pwr ∈ P) (mvrc : Part.vrc ∈ P) (mrot : Part.rot ∈ P) (mcys : Part.cys ∈ P) (mclk : Part.clk ∈ P) (mtim : Part.tim ∈ P) (mbanks : Part.banks ∈ P) (mchans : Part.chans ∈ P) (mxn : Part.xn ∈ P) (mrecd : Part.recd ∈ P) (mkiln : Part.kiln ∈ P) (mtwl : Part.twl ∈ P) (mlnc : Part.lnc ∈ P) (mbw : Part.bw ∈ P) (mints : Part.ints ∈ P) (mmems : Part.mems ∈ P) (mcores : Part.cores ∈ P) (mheld : Part.held ∈ P) (mnoted : Part.noted ∈ P) (mlic : Part.lic ∈ P) (h₀ : SameBut P t₀ (advance dt s)) :
    OutFr P t₀ (execBisqueStepOverrun dt s) := by
  unfold execBisqueStepOverrun
  repeat' first
    | with_reducible assumption
    | (rename_i hq; have hq2 := congrArg Prod.snd hq; with_reducible dsimp only at hq2; subst hq2)
    | simp only [↓fr_mk_iff, true_or, or_true, mmod, mpwr, mvrc, mrot, mcys, mclk, mtim, mbanks, mchans, mxn, mrecd, mkiln, mtwl, mlnc, mbw, mints, mmems, mcores, mheld, mnoted, mlic]
    | with_reducible refine fr_ite ?_ ?_
    | with_reducible refine outFr_ite ?_ ?_
    | with_reducible refine outFr_next.2 ?_
    | with_reducible refine fr_ite2 ?_ ?_
    | with_reducible refine fr_foldl ?_ (fun _ _ _ => ?_)
    | with_reducible refine bisqueStepFails_frame _ _ mmod mpwr mvrc mrot mcys mclk mtim mbanks mchans mxn mrecd mkiln mtwl mlnc mbw mints mmems mcores mheld mnoted mlic ?_
    | split
    | dsimp only

theorem execWedgingStart_frame {P : List Part} {t₀ : State} (s : State) (mvrc : Part.vrc ∈ P) (mrot : Part.rot ∈ P) (h₀ : SameBut P t₀ s) :
    OutFr P t₀ (execWedgingStart s) := by
  unfold execWedgingStart
  repeat' first
    | with_reducible assumption
    | (rename_i hq; have hq2 := congrArg Prod.snd hq; with_reducible dsimp only at hq2; subst hq2)
    | simp only [↓fr_mk_iff, true_or, or_true, mvrc, mrot]
    | with_reducible refine fr_ite ?_ ?_
    | with_reducible refine outFr_ite ?_ ?_
    | with_reducible refine outFr_next.2 ?_
    | with_reducible refine fr_ite2 ?_ ?_
    | with_reducible refine fr_foldl ?_ (fun _ _ _ => ?_)
    | with_reducible refine setLane_frame _ _ _ mvrc ?_
    | split
    | dsimp only

theorem execZeroFillDone_frame {P : List Part} {t₀ : State} (dt : Nat) (s : State) (mvrc : Part.vrc ∈ P) (mrot : Part.rot ∈ P) (mmems : Part.mems ∈ P) (h₀ : SameBut P t₀ (advance dt s)) :
    OutFr P t₀ (execZeroFillDone dt s) := by
  unfold execZeroFillDone
  repeat' first
    | with_reducible assumption
    | (rename_i hq; have hq2 := congrArg Prod.snd hq; with_reducible dsimp only at hq2; subst hq2)
    | simp only [↓fr_mk_iff, true_or, or_true, mvrc, mrot, mmems]
    | with_reducible refine fr_ite ?_ ?_
    | with_reducible refine outFr_ite ?_ ?_
    | with_reducible refine outFr_next.2 ?_
    | with_reducible refine fr_ite2 ?_ ?_
    | with_reducible refine fr_foldl ?_ (fun _ _ _ => ?_)
    | with_reducible refine setLane_frame _ _ _ mvrc ?_
    | split
    | dsimp only

theorem copyPages_frame {P : List Part} {t₀ : State} (ps : List Nat) (s : State) (mbw : Part.bw ∈ P) (mmems : Part.mems ∈ P) (h₀ : SameBut P t₀ s) :
    SameBut P t₀ (copyPages ps s) := by
  unfold copyPages
  repeat' first
    | with_reducible assumption
    | (rename_i hq; have hq2 := congrArg Prod.snd hq; with_reducible dsimp only at hq2; subst hq2)
    | simp only [↓fr_mk_iff, true_or, or_true, mbw, mmems]
    | with_reducible refine fr_ite ?_ ?_
    | with_reducible refine outFr_ite ?_ ?_
    | with_reducible refine outFr_next.2 ?_
    | with_reducible refine fr_ite2 ?_ ?_
    | with_reducible refine fr_foldl ?_ (fun _ _ _ => ?_)
    | with_reducible refine bwCount_frame _ _ _ mbw ?_
    | split
    | dsimp only

theorem pageDisagree_frame {P : List Part} {t₀ : State} (v : PageVote) (s : State) (mmod : Part.mod ∈ P) (mpwr : Part.pwr ∈ P) (mvrc : Part.vrc ∈ P) (mrot : Part.rot ∈ P) (mcys : Part.cys ∈ P) (mbanks : Part.banks ∈ P) (mchans : Part.chans ∈ P) (mxn : Part.xn ∈ P) (mrecd : Part.recd ∈ P) (mkiln : Part.kiln ∈ P) (mtwl : Part.twl ∈ P) (mints : Part.ints ∈ P) (mheld : Part.held ∈ P) (mnoted : Part.noted ∈ P) (mlic : Part.lic ∈ P) (h₀ : SameBut P t₀ s) :
    SameBut P t₀ (pageDisagree v s) := by
  unfold pageDisagree
  repeat' first
    | with_reducible assumption
    | (rename_i hq; have hq2 := congrArg Prod.snd hq; with_reducible dsimp only at hq2; subst hq2)
    | simp only [↓fr_mk_iff, true_or, or_true, mmod, mpwr, mvrc, mrot, mcys, mbanks, mchans, mxn, mrecd, mkiln, mtwl, mints, mheld, mnoted, mlic]
    | with_reducible refine fr_ite ?_ ?_
    | with_reducible refine outFr_ite ?_ ?_
    | with_reducible refine outFr_next.2 ?_
    | with_reducible refine fr_ite2 ?_ ?_
    | with_reducible refine fr_foldl ?_ (fun _ _ _ => ?_)
    | with_reducible refine mirrorDisagree_frame _ _ _ _ mmod mpwr mvrc mrot mcys mbanks mchans mxn mrecd mkiln mtwl mints mheld mnoted mlic ?_
    | split
    | dsimp only

theorem execCatchUpCopyDone_frame {P : List Part} {t₀ : State} (dt : Nat) (vote : PageVote) (s : State) (mmod : Part.mod ∈ P) (mpwr : Part.pwr ∈ P) (mvrc : Part.vrc ∈ P) (mrot : Part.rot ∈ P) (mcys : Part.cys ∈ P) (mbanks : Part.banks ∈ P) (mchans : Part.chans ∈ P) (mxn : Part.xn ∈ P) (mrecd : Part.recd ∈ P) (mkiln : Part.kiln ∈ P) (mtwl : Part.twl ∈ P) (mbw : Part.bw ∈ P) (mints : Part.ints ∈ P) (mmems : Part.mems ∈ P) (mcores : Part.cores ∈ P) (mheld : Part.held ∈ P) (mnoted : Part.noted ∈ P) (mlic : Part.lic ∈ P) (h₀ : SameBut P t₀ (advance dt s)) :
    OutFr P t₀ (execCatchUpCopyDone dt vote s) := by
  unfold execCatchUpCopyDone
  repeat' first
    | with_reducible assumption
    | (rename_i hq; have hq2 := congrArg Prod.snd hq; with_reducible dsimp only at hq2; subst hq2)
    | simp only [↓fr_mk_iff, true_or, or_true, mmod, mpwr, mvrc, mrot, mcys, mbanks, mchans, mxn, mrecd, mkiln, mtwl, mbw, mints, mmems, mcores, mheld, mnoted, mlic]
    | with_reducible refine fr_ite ?_ ?_
    | with_reducible refine outFr_ite ?_ ?_
    | with_reducible refine outFr_next.2 ?_
    | with_reducible refine fr_ite2 ?_ ?_
    | with_reducible refine fr_foldl ?_ (fun _ _ _ => ?_)
    | with_reducible refine pageDisagree_frame _ _ mmod mpwr mvrc mrot mcys mbanks mchans mxn mrecd mkiln mtwl mints mheld mnoted mlic ?_ | with_reducible refine copyPages_frame _ _ mbw mmems ?_ | with_reducible refine drainMirror_frame _ _ mrot mbw mmems mcores mlic ?_
    | split
    | dsimp only

theorem becomeWedged_frame {P : List Part} {t₀ : State} (s : State) (mvrc : Part.vrc ∈ P) (mrot : Part.rot ∈ P) (mrecd : Part.recd ∈ P) (mints : Part.ints ∈ P) (mheld : Part.held ∈ P) (mnoted : Part.noted ∈ P) (mlic : Part.lic ∈ P) (h₀ : SameBut P t₀ s) :
    SameBut P t₀ (becomeWedged s) := by
  unfold becomeWedged
  repeat' first
    | with_reducible assumption
    | (rename_i hq; have hq2 := congrArg Prod.snd hq; with_reducible dsimp only at hq2; subst hq2)
    | simp only [↓fr_mk_iff, true_or, or_true, mvrc, mrot, mrecd, mints, mheld, mnoted, mlic]
    | with_reducible refine fr_ite ?_ ?_
    | with_reducible refine outFr_ite ?_ ?_
    | with_reducible refine outFr_next.2 ?_
    | with_reducible refine fr_ite2 ?_ ?_
    | with_reducible refine fr_foldl ?_ (fun _ _ _ => ?_)
    | with_reducible refine setLane_frame _ _ _ mvrc ?_ | with_reducible refine raise_frame _ _ mints mheld mlic ?_ | with_reducible refine record_frame _ _ _ _ _ _ mrecd mnoted ?_
    | split
    | dsimp only

theorem checksumDiffer_frame {P : List Part} {t₀ : State} (differ : List Nat) (s : State) (mpwr : Part.pwr ∈ P) (mvrc : Part.vrc ∈ P) (mrot : Part.rot ∈ P) (mrecd : Part.recd ∈ P) (mbw : Part.bw ∈ P) (mints : Part.ints ∈ P) (mmems : Part.mems ∈ P) (mcores : Part.cores ∈ P) (mheld : Part.held ∈ P) (mnoted : Part.noted ∈ P) (mlic : Part.lic ∈ P) (h₀ : SameBut P t₀ s) :
    SameBut P t₀ (checksumDiffer differ s) := by
  unfold checksumDiffer
  repeat' first
    | with_reducible assumption
    | (rename_i hq; have hq2 := congrArg Prod.snd hq; with_reducible dsimp only at hq2; subst hq2)
    | simp only [↓fr_mk_iff, true_or, or_true, mpwr, mvrc, mrot, mrecd, mbw, mints, mmems, mcores, mheld, mnoted, mlic]
    | with_reducible refine fr_ite ?_ ?_
    | with_reducible refine outFr_ite ?_ ?_
    | with_reducible refine outFr_next.2 ?_
    | with_reducible refine fr_ite2 ?_ ?_
    | with_reducible refine fr_foldl ?_ (fun _ _ _ => ?_)
    | with_reducible refine toQuarantine_frame _ _ _ mpwr mvrc mrot mrecd mints mheld mnoted mlic ?_ | with_reducible refine wedgeAbort_frame _ _ _ _ mvrc mrot mrecd mints mheld mnoted mlic ?_ | with_reducible refine copyPages_frame _ _ mbw mmems ?_ | with_reducible refine drainMirror_frame _ _ mrot mbw mmems mcores mlic ?_
    | split
    | dsimp only

theorem execChecksumRoundDone_frame {P : List Part} {t₀ : State} (dt : Nat) (vote : PageVote) (differ : List Nat) (s : State) (mmod : Part.mod ∈ P) (mpwr : Part.pwr ∈ P) (mvrc : Part.vrc ∈ P) (mrot : Part.rot ∈ P) (mcys : Part.cys ∈ P) (mbanks : Part.banks ∈ P) (mchans : Part.chans ∈ P) (mxn : Part.xn ∈ P) (mrecd : Part.recd ∈ P) (mkiln : Part.kiln ∈ P) (mtwl : Part.twl ∈ P) (mbw : Part.bw ∈ P) (mints : Part.ints ∈ P) (mmems : Part.mems ∈ P) (mcores : Part.cores ∈ P) (mheld : Part.held ∈ P) (mnoted : Part.noted ∈ P) (mlic : Part.lic ∈ P) (h₀ : SameBut P t₀ (advance dt s)) :
    OutFr P t₀ (execChecksumRoundDone dt vote differ s) := by
  unfold execChecksumRoundDone
  repeat' first
    | with_reducible assumption
    | (rename_i hq; have hq2 := congrArg Prod.snd hq; with_reducible dsimp only at hq2; subst hq2)
    | simp only [↓fr_mk_iff, true_or, or_true, mmod, mpwr, mvrc, mrot, mcys, mbanks, mchans, mxn, mrecd, mkiln, mtwl, mbw, mints, mmems, mcores, mheld, mnoted, mlic]
    | with_reducible refine fr_ite ?_ ?_
    | with_reducible refine outFr_ite ?_ ?_
    | with_reducible refine outFr_next.2 ?_
    | with_reducible refine fr_ite2 ?_ ?_
    | with_reducible refine fr_foldl ?_ (fun _ _ _ => ?_)
    | with_reducible refine pageDisagree_frame _ _ mmod mpwr mvrc mrot mcys mbanks mchans mxn mrecd mkiln mtwl mints mheld mnoted mlic ?_ | with_reducible refine bwCount_frame _ _ _ mbw ?_ | with_reducible refine becomeWedged_frame _ mvrc mrot mrecd mints mheld mnoted mlic ?_ | with_reducible refine checksumDiffer_frame _ _ mpwr mvrc mrot mrecd mbw mints mmems mcores mheld mnoted mlic ?_
    | split
    | dsimp only

theorem execMirrorHoldRelease_frame {P : List Part} {t₀ : State} (dt : Nat) (s : State) (mrot : Part.rot ∈ P) (mbw : Part.bw ∈ P) (mmems : Part.mems ∈ P) (mcores : Part.cores ∈ P) (mlic : Part.lic ∈ P) (h₀ : SameBut P t₀ (advance dt s)) :
    OutFr P t₀ (execMirrorHoldRelease dt s) := by
  unfold execMirrorHoldRelease
  repeat' first
    | with_reducible assumption
    | (rename_i hq; have hq2 := congrArg Prod.snd hq; with_reducible dsimp only at hq2; subst hq2)
    | simp only [↓fr_mk_iff, true_or, or_true, mrot, mbw, mmems, mcores, mlic]
    | with_reducible refine fr_ite ?_ ?_
    | with_reducible refine outFr_ite ?_ ?_
    | with_reducible refine outFr_next.2 ?_
    | with_reducible refine fr_ite2 ?_ ?_
    | with_reducible refine fr_foldl ?_ (fun _ _ _ => ?_)
    | with_reducible refine drainMirror_frame _ _ mrot mbw mmems mcores mlic ?_
    | split
    | dsimp only

theorem execBankSyncFrameSend_frame {P : List Part} {t₀ : State} (dt : Nat) (extra : Bool) (ahead : BitVec 32) (s : State) (mtim : Part.tim ∈ P) (h₀ : SameBut P t₀ (advance dt s)) :
    OutFr P t₀ (execBankSyncFrameSend dt extra ahead s) := by
  unfold execBankSyncFrameSend
  repeat' first
    | with_reducible assumption
    | (rename_i hq; have hq2 := congrArg Prod.snd hq; with_reducible dsimp only at hq2; subst hq2)
    | simp only [↓fr_mk_iff, true_or, or_true, mtim]
    | with_reducible refine fr_ite ?_ ?_
    | with_reducible refine outFr_ite ?_ ?_
    | with_reducible refine outFr_next.2 ?_
    | with_reducible refine fr_ite2 ?_ ?_
    | with_reducible refine fr_foldl ?_ (fun _ _ _ => ?_)
    | split
    | dsimp only

theorem noteBsync_frame {P : List Part} {t₀ : State} (b : Fin 3) (valid jump : Bool) (corr : Int) (s : State) (mtim : Part.tim ∈ P) (h₀ : SameBut P t₀ s) :
    SameBut P t₀ (noteBsync b valid jump corr s) := by
  unfold noteBsync
  repeat' first
    | with_reducible assumption
    | (rename_i hq; have hq2 := congrArg Prod.snd hq; with_reducible dsimp only at hq2; subst hq2)
    | simp only [↓fr_mk_iff, true_or, or_true, mtim]
    | with_reducible refine fr_ite ?_ ?_
    | with_reducible refine outFr_ite ?_ ?_
    | with_reducible refine outFr_next.2 ?_
    | with_reducible refine fr_ite2 ?_ ?_
    | with_reducible refine fr_foldl ?_ (fun _ _ _ => ?_)
    | split
    | dsimp only

theorem pulseGood_frame {P : List Part} {t₀ : State} (b : Fin 3) (f : List Byte) (s : State) (mrot : Part.rot ∈ P) (mcys : Part.cys ∈ P) (mclk : Part.clk ∈ P) (mtim : Part.tim ∈ P) (mbanks : Part.banks ∈ P) (mchans : Part.chans ∈ P) (mrecd : Part.recd ∈ P) (mtwl : Part.twl ∈ P) (mlnc : Part.lnc ∈ P) (mbw : Part.bw ∈ P) (mints : Part.ints ∈ P) (mmems : Part.mems ∈ P) (mcores : Part.cores ∈ P) (mheld : Part.held ∈ P) (mnoted : Part.noted ∈ P) (mlic : Part.lic ∈ P) (h₀ : SameBut P t₀ s) :
    SameBut P t₀ (pulseGood b f s) := by
  unfold pulseGood
  repeat' first
    | with_reducible assumption
    | (rename_i hq; have hq2 := congrArg Prod.snd hq; with_reducible dsimp only at hq2; subst hq2)
    | simp only [↓fr_mk_iff, true_or, or_true, mrot, mcys, mclk, mtim, mbanks, mchans, mrecd, mtwl, mlnc, mbw, mints, mmems, mcores, mheld, mnoted, mlic]
    | with_reducible refine fr_ite ?_ ?_
    | with_reducible refine outFr_ite ?_ ?_
    | with_reducible refine outFr_next.2 ?_
    | with_reducible refine fr_ite2 ?_ ?_
    | with_reducible refine fr_foldl ?_ (fun _ _ _ => ?_)
    | with_reducible refine setBank_frame _ _ _ mbanks ?_ | with_reducible refine noteBsync_frame _ _ _ _ _ mtim ?_ | with_reducible refine stepForward_frame _ _ _ mrot mcys mclk mtim mbanks mchans mrecd mtwl mlnc mbw mints mmems mcores mheld mnoted mlic ?_ | with_reducible refine stepBackward_frame _ _ _ mchans mrecd mints mheld mnoted mlic ?_ | with_reducible refine raise_frame _ _ mints mheld mlic ?_ | with_reducible refine record_frame _ _ _ _ _ _ mrecd mnoted ?_
    | split
    | dsimp only

theorem pulseBad_frame {P : List Part} {t₀ : State} (b : Fin 3) (s : State) (mtim : Part.tim ∈ P) (mbanks : Part.banks ∈ P) (mrecd : Part.recd ∈ P) (mints : Part.ints ∈ P) (mheld : Part.held ∈ P) (mnoted : Part.noted ∈ P) (mlic : Part.lic ∈ P) (h₀ : SameBut P t₀ s) :
    SameBut P t₀ (pulseBad b s) := by
  unfold pulseBad
  repeat' first
    | with_reducible assumption
    | (rename_i hq; have hq2 := congrArg Prod.snd hq; with_reducible dsimp only at hq2; subst hq2)
    | simp only [↓fr_mk_iff, true_or, or_true, mtim, mbanks, mrecd, mints, mheld, mnoted, mlic]
    | with_reducible refine fr_ite ?_ ?_
    | with_reducible refine outFr_ite ?_ ?_
    | with_reducible refine outFr_next.2 ?_
    | with_reducible refine fr_ite2 ?_ ?_
    | with_reducible refine fr_foldl ?_ (fun _ _ _ => ?_)
    | with_reducible refine setBank_frame _ _ _ mbanks ?_ | with_reducible refine raise_frame _ _ mints mheld mlic ?_ | with_reducible refine record_frame _ _ _ _ _ _ mrecd mnoted ?_ | with_reducible refine noteBsync_frame _ _ _ _ _ mtim ?_
    | split
    | dsimp only

theorem execBankSyncPulse_frame {P : List Part} {t₀ : State} (dt : Nat) (bank : Fin 3) (rx : PulseRx) (s : State) (mrot : Part.rot ∈ P) (mcys : Part.cys ∈ P) (mclk : Part.clk ∈ P) (mtim : Part.tim ∈ P) (mbanks : Part.banks ∈ P) (mchans : Part.chans ∈ P) (mrecd : Part.recd ∈ P) (mtwl : Part.twl ∈ P) (mlnc : Part.lnc ∈ P) (mbw : Part.bw ∈ P) (mints : Part.ints ∈ P) (mmems : Part.mems ∈ P) (mcores : Part.cores ∈ P) (mheld : Part.held ∈ P) (mnoted : Part.noted ∈ P) (mlic : Part.lic ∈ P) (h₀ : SameBut P t₀ (advance dt s)) :
    OutFr P t₀ (execBankSyncPulse dt bank rx s) := by
  unfold execBankSyncPulse
  repeat' first
    | with_reducible assumption
    | (rename_i hq; have hq2 := congrArg Prod.snd hq; with_reducible dsimp only at hq2; subst hq2)
    | simp only [↓fr_mk_iff, true_or, or_true, mrot, mcys, mclk, mtim, mbanks, mchans, mrecd, mtwl, mlnc, mbw, mints, mmems, mcores, mheld, mnoted, mlic]
    | with_reducible refine fr_ite ?_ ?_
    | with_reducible refine outFr_ite ?_ ?_
    | with_reducible refine outFr_next.2 ?_
    | with_reducible refine fr_ite2 ?_ ?_
    | with_reducible refine fr_foldl ?_ (fun _ _ _ => ?_)
    | with_reducible refine pulseGood_frame _ _ _ mrot mcys mclk mtim mbanks mchans mrecd mtwl mlnc mbw mints mmems mcores mheld mnoted mlic ?_ | with_reducible refine pulseBad_frame _ _ mtim mbanks mrecd mints mheld mnoted mlic ?_
    | split
    | dsimp only

theorem execFilteredStateChange_frame {P : List Part} {t₀ : State} (dt : Nat) (ch : Fin 48) (value : Bool) (s : State) (mcys : Part.cys ∈ P) (mbanks : Part.banks ∈ P) (mchans : Part.chans ∈ P) (mrecd : Part.recd ∈ P) (mints : Part.ints ∈ P) (mheld : Part.held ∈ P) (mnoted : Part.noted ∈ P) (mlic : Part.lic ∈ P) (h₀ : SameBut P t₀ (advance dt s)) :
    OutFr P t₀ (execFilteredStateChange dt ch value s) := by
  unfold execFilteredStateChange
  repeat' first
    | with_reducible assumption
    | (rename_i hq; have hq2 := congrArg Prod.snd hq; with_reducible dsimp only at hq2; subst hq2)
    | simp only [↓fr_mk_iff, true_or, or_true, mcys, mbanks, mchans, mrecd, mints, mheld, mnoted, mlic]
    | with_reducible refine fr_ite ?_ ?_
    | with_reducible refine outFr_ite ?_ ?_
    | with_reducible refine outFr_next.2 ?_
    | with_reducible refine fr_ite2 ?_ ?_
    | with_reducible refine fr_foldl ?_ (fun _ _ _ => ?_)
    | with_reducible refine setChan_frame _ _ _ mchans ?_ | with_reducible refine pushEvent_frame _ _ _ _ _ mbanks mrecd mints mheld mnoted mlic ?_
    | split
    | dsimp only

theorem execDiscrepancyTimeout_frame {P : List Part} {t₀ : State} (dt : Nat) (ch : Fin 48) (s : State) (mchans : Part.chans ∈ P) (mrecd : Part.recd ∈ P) (mints : Part.ints ∈ P) (mheld : Part.held ∈ P) (mnoted : Part.noted ∈ P) (mlic : Part.lic ∈ P) (h₀ : SameBut P t₀ (advance dt s)) :
    OutFr P t₀ (execDiscrepancyTimeout dt ch s) := by
  unfold execDiscrepancyTimeout
  repeat' first
    | with_reducible assumption
    | (rename_i hq; have hq2 := congrArg Prod.snd hq; with_reducible dsimp only at hq2; subst hq2)
    | simp only [↓fr_mk_iff, true_or, or_true, mchans, mrecd, mints, mheld, mnoted, mlic]
    | with_reducible refine fr_ite ?_ ?_
    | with_reducible refine outFr_ite ?_ ?_
    | with_reducible refine outFr_next.2 ?_
    | with_reducible refine fr_ite2 ?_ ?_
    | with_reducible refine fr_foldl ?_ (fun _ _ _ => ?_)
    | with_reducible refine chanFault_frame _ _ _ _ mchans mrecd mints mheld mnoted mlic ?_ | with_reducible refine setChan_frame _ _ _ mchans ?_
    | split
    | dsimp only

theorem execComparatorInversion_frame {P : List Part} {t₀ : State} (ch : Fin 48) (s : State) (mchans : Part.chans ∈ P) (mrecd : Part.recd ∈ P) (mints : Part.ints ∈ P) (mheld : Part.held ∈ P) (mnoted : Part.noted ∈ P) (mlic : Part.lic ∈ P) (h₀ : SameBut P t₀ s) :
    OutFr P t₀ (execComparatorInversion ch s) := by
  unfold execComparatorInversion
  repeat' first
    | with_reducible assumption
    | (rename_i hq; have hq2 := congrArg Prod.snd hq; with_reducible dsimp only at hq2; subst hq2)
    | simp only [↓fr_mk_iff, true_or, or_true, mchans, mrecd, mints, mheld, mnoted, mlic]
    | with_reducible refine fr_ite ?_ ?_
    | with_reducible refine outFr_ite ?_ ?_
    | with_reducible refine outFr_next.2 ?_
    | with_reducible refine fr_ite2 ?_ ?_
    | with_reducible refine fr_foldl ?_ (fun _ _ _ => ?_)
    | with_reducible refine chanFault_frame _ _ _ _ mchans mrecd mints mheld mnoted mlic ?_ | with_reducible refine setChan_frame _ _ _ mchans ?_
    | split
    | dsimp only

theorem execSwitchSenseFault_frame {P : List Part} {t₀ : State} (ch : Fin 48) (gate : Fin 3) (s : State) (mchans : Part.chans ∈ P) (mrecd : Part.recd ∈ P) (mints : Part.ints ∈ P) (mheld : Part.held ∈ P) (mnoted : Part.noted ∈ P) (mlic : Part.lic ∈ P) (h₀ : SameBut P t₀ s) :
    OutFr P t₀ (execSwitchSenseFault ch gate s) := by
  unfold execSwitchSenseFault
  repeat' first
    | with_reducible assumption
    | (rename_i hq; have hq2 := congrArg Prod.snd hq; with_reducible dsimp only at hq2; subst hq2)
    | simp only [↓fr_mk_iff, true_or, or_true, mchans, mrecd, mints, mheld, mnoted, mlic]
    | with_reducible refine fr_ite ?_ ?_
    | with_reducible refine outFr_ite ?_ ?_
    | with_reducible refine outFr_next.2 ?_
    | with_reducible refine fr_ite2 ?_ ?_
    | with_reducible refine fr_foldl ?_ (fun _ _ _ => ?_)
    | with_reducible refine chanFault_frame _ _ _ _ mchans mrecd mints mheld mnoted mlic ?_ | with_reducible refine setChan_frame _ _ _ mchans ?_
    | split
    | dsimp only

theorem execGateSetDisagree_frame {P : List Part} {t₀ : State} (ch : Fin 48) (gate : Fin 3) (s : State) (mchans : Part.chans ∈ P) (mrecd : Part.recd ∈ P) (mints : Part.ints ∈ P) (mheld : Part.held ∈ P) (mnoted : Part.noted ∈ P) (mlic : Part.lic ∈ P) (h₀ : SameBut P t₀ s) :
    OutFr P t₀ (execGateSetDisagree ch gate s) := by
  unfold execGateSetDisagree
  repeat' first
    | with_reducible assumption
    | (rename_i hq; have hq2 := congrArg Prod.snd hq; with_reducible dsimp only at hq2; subst hq2)
    | simp only [↓fr_mk_iff, true_or, or_true, mchans, mrecd, mints, mheld, mnoted, mlic]
    | with_reducible refine fr_ite ?_ ?_
    | with_reducible refine outFr_ite ?_ ?_
    | with_reducible refine outFr_next.2 ?_
    | with_reducible refine fr_ite2 ?_ ?_
    | with_reducible refine fr_foldl ?_ (fun _ _ _ => ?_)
    | with_reducible refine chanFault_frame _ _ _ _ mchans mrecd mints mheld mnoted mlic ?_
    | split
    | dsimp only

theorem execReadbackFault_frame {P : List Part} {t₀ : State} (ch : Fin 48) (s : State) (mchans : Part.chans ∈ P) (mrecd : Part.recd ∈ P) (mints : Part.ints ∈ P) (mheld : Part.held ∈ P) (mnoted : Part.noted ∈ P) (mlic : Part.lic ∈ P) (h₀ : SameBut P t₀ s) :
    OutFr P t₀ (execReadbackFault ch s) := by
  unfold execReadbackFault
  repeat' first
    | with_reducible assumption
    | (rename_i hq; have hq2 := congrArg Prod.snd hq; with_reducible dsimp only at hq2; subst hq2)
    | simp only [↓fr_mk_iff, true_or, or_true, mchans, mrecd, mints, mheld, mnoted, mlic]
    | with_reducible refine fr_ite ?_ ?_
    | with_reducible refine outFr_ite ?_ ?_
    | with_reducible refine outFr_next.2 ?_
    | with_reducible refine fr_ite2 ?_ ?_
    | with_reducible refine fr_foldl ?_ (fun _ _ _ => ?_)
    | with_reducible refine chanFault_frame _ _ _ _ mchans mrecd mints mheld mnoted mlic ?_
    | split
    | dsimp only

theorem startPulse_frame {P : List Part} {t₀ : State} (ch : Fin 48) (s : State) (mchans : Part.chans ∈ P) (h₀ : SameBut P t₀ s) :
    SameBut P t₀ (startPulse ch s) := by
  unfold startPulse
  repeat' first
    | with_reducible assumption
    | (rename_i hq; have hq2 := congrArg Prod.snd hq; with_reducible dsimp only at hq2; subst hq2)
    | simp only [↓fr_mk_iff, true_or, or_true, mchans]
    | with_reducible refine fr_ite ?_ ?_
    | with_reducible refine outFr_ite ?_ ?_
    | with_reducible refine outFr_next.2 ?_
    | with_reducible refine fr_ite2 ?_ ?_
    | with_reducible refine fr_foldl ?_ (fun _ _ _ => ?_)
    | with_reducible refine setChan_frame _ _ _ mchans ?_
    | split
    | dsimp only

theorem execDarkTestStart_frame {P : List Part} {t₀ : State} (dt : Nat) (ch : Fin 48) (s : State) (mchans : Part.chans ∈ P) (h₀ : SameBut P t₀ (advance dt s)) :
    OutFr P t₀ (execDarkTestStart dt ch s) := by
  unfold execDarkTestStart
  repeat' first
    | with_reducible assumption
    | (rename_i hq; have hq2 := congrArg Prod.snd hq; with_reducible dsimp only at hq2; subst hq2)
    | simp only [↓fr_mk_iff, true_or, or_true, mchans]
    | with_reducible refine fr_ite ?_ ?_
    | with_reducible refine outFr_ite ?_ ?_
    | with_reducible refine outFr_next.2 ?_
    | with_reducible refine fr_ite2 ?_ ?_
    | with_reducible refine fr_foldl ?_ (fun _ _ _ => ?_)
    | with_reducible refine setChan_frame _ _ _ mchans ?_ | with_reducible refine startPulse_frame _ _ mchans ?_
    | split
    | dsimp only

theorem execDarkPulseEnd_frame {P : List Part} {t₀ : State} (dt : Nat) (ch : Fin 48) (fail : Option (BitVec 6)) (s : State) (mchans : Part.chans ∈ P) (mrecd : Part.recd ∈ P) (mints : Part.ints ∈ P) (mheld : Part.held ∈ P) (mnoted : Part.noted ∈ P) (mlic : Part.lic ∈ P) (h₀ : SameBut P t₀ (advance dt s)) :
    OutFr P t₀ (execDarkPulseEnd dt ch fail s) := by
  unfold execDarkPulseEnd
  repeat' first
    | with_reducible assumption
    | (rename_i hq; have hq2 := congrArg Prod.snd hq; with_reducible dsimp only at hq2; subst hq2)
    | simp only [↓fr_mk_iff, true_or, or_true, mchans, mrecd, mints, mheld, mnoted, mlic]
    | with_reducible refine fr_ite ?_ ?_
    | with_reducible refine outFr_ite ?_ ?_
    | with_reducible refine outFr_next.2 ?_
    | with_reducible refine fr_ite2 ?_ ?_
    | with_reducible refine fr_foldl ?_ (fun _ _ _ => ?_)
    | with_reducible refine setChan_frame _ _ _ mchans ?_ | with_reducible refine chanFault_frame _ _ _ _ mchans mrecd mints mheld mnoted mlic ?_ | with_reducible refine record_frame _ _ _ _ _ _ mrecd mnoted ?_
    | split
    | dsimp only

theorem execReadbackAgrees_frame {P : List Part} {t₀ : State} (ch : Fin 48) (s : State) (mchans : Part.chans ∈ P) (h₀ : SameBut P t₀ s) :
    OutFr P t₀ (execReadbackAgrees ch s) := by
  unfold execReadbackAgrees
  repeat' first
    | with_reducible assumption
    | (rename_i hq; have hq2 := congrArg Prod.snd hq; with_reducible dsimp only at hq2; subst hq2)
    | simp only [↓fr_mk_iff, true_or, or_true, mchans]
    | with_reducible refine fr_ite ?_ ?_
    | with_reducible refine outFr_ite ?_ ?_
    | with_reducible refine outFr_next.2 ?_
    | with_reducible refine fr_ite2 ?_ ?_
    | with_reducible refine fr_foldl ?_ (fun _ _ _ => ?_)
    | with_reducible refine setChan_frame _ _ _ mchans ?_ | with_reducible refine startPulse_frame _ _ mchans ?_
    | split
    | dsimp only

theorem execOverload_frame {P : List Part} {t₀ : State} (ch : Fin 48) (ma : BitVec 32) (s : State) (mchans : Part.chans ∈ P) (mrecd : Part.recd ∈ P) (mints : Part.ints ∈ P) (mheld : Part.held ∈ P) (mnoted : Part.noted ∈ P) (mlic : Part.lic ∈ P) (h₀ : SameBut P t₀ s) :
    OutFr P t₀ (execOverload ch ma s) := by
  unfold execOverload
  repeat' first
    | with_reducible assumption
    | (rename_i hq; have hq2 := congrArg Prod.snd hq; with_reducible dsimp only at hq2; subst hq2)
    | simp only [↓fr_mk_iff, true_or, or_true, mchans, mrecd, mints, mheld, mnoted, mlic]
    | with_reducible refine fr_ite ?_ ?_
    | with_reducible refine outFr_ite ?_ ?_
    | with_reducible refine outFr_next.2 ?_
    | with_reducible refine fr_ite2 ?_ ?_
    | with_reducible refine fr_foldl ?_ (fun _ _ _ => ?_)
    | with_reducible refine raise_frame _ _ mints mheld mlic ?_ | with_reducible refine record_frame _ _ _ _ _ _ mrecd mnoted ?_ | with_reducible refine chanTrip_frame _ _ _ mchans mrecd mints mheld mnoted mlic ?_
    | split
    | dsimp only

theorem execBankOverload_frame {P : List Part} {t₀ : State} (bank : Fin 3) (ma : BitVec 32) (s : State) (mchans : Part.chans ∈ P) (mrecd : Part.recd ∈ P) (mints : Part.ints ∈ P) (mheld : Part.held ∈ P) (mnoted : Part.noted ∈ P) (mlic : Part.lic ∈ P) (h₀ : SameBut P t₀ s) :
    OutFr P t₀ (execBankOverload bank ma s) := by
  unfold execBankOverload
  repeat' first
    | with_reducible assumption
    | (rename_i hq; have hq2 := congrArg Prod.snd hq; with_reducible dsimp only at hq2; subst hq2)
    | simp only [↓fr_mk_iff, true_or, or_true, mchans, mrecd, mints, mheld, mnoted, mlic]
    | with_reducible refine fr_ite ?_ ?_
    | with_reducible refine outFr_ite ?_ ?_
    | with_reducible refine outFr_next.2 ?_
    | with_reducible refine fr_ite2 ?_ ?_
    | with_reducible refine fr_foldl ?_ (fun _ _ _ => ?_)
    | with_reducible refine chanTrip_frame _ _ _ mchans mrecd mints mheld mnoted mlic ?_ | with_reducible refine raise_frame _ _ mints mheld mlic ?_ | with_reducible refine record_frame _ _ _ _ _ _ mrecd mnoted ?_
    | split
    | dsimp only

theorem execBankTimeout_frame {P : List Part} {t₀ : State} (dt : Nat) (ch : Fin 48) (s : State) (mchans : Part.chans ∈ P) (mrecd : Part.recd ∈ P) (mints : Part.ints ∈ P) (mheld : Part.held ∈ P) (mnoted : Part.noted ∈ P) (mlic : Part.lic ∈ P) (h₀ : SameBut P t₀ (advance dt s)) :
    OutFr P t₀ (execBankTimeout dt ch s) := by
  unfold execBankTimeout
  repeat' first
    | with_reducible assumption
    | (rename_i hq; have hq2 := congrArg Prod.snd hq; with_reducible dsimp only at hq2; subst hq2)
    | simp only [↓fr_mk_iff, true_or, or_true, mchans, mrecd, mints, mheld, mnoted, mlic]
    | with_reducible refine fr_ite ?_ ?_
    | with_reducible refine outFr_ite ?_ ?_
    | with_reducible refine outFr_next.2 ?_
    | with_reducible refine fr_ite2 ?_ ?_
    | with_reducible refine fr_foldl ?_ (fun _ _ _ => ?_)
    | with_reducible refine applySafe_frame _ _ _ _ mchans mrecd mints mheld mnoted mlic ?_ | with_reducible refine raise_frame _ _ mints mheld mlic ?_ | with_reducible refine record_frame _ _ _ _ _ _ mrecd mnoted ?_ | with_reducible refine setChan_frame _ _ _ mchans ?_
    | split
    | dsimp only

theorem execSyncLost_frame {P : List Part} {t₀ : State} (bank : Fin 3) (s : State) (mchans : Part.chans ∈ P) (mrecd : Part.recd ∈ P) (mints : Part.ints ∈ P) (mheld : Part.held ∈ P) (mnoted : Part.noted ∈ P) (mlic : Part.lic ∈ P) (h₀ : SameBut P t₀ s) :
    OutFr P t₀ (execSyncLost bank s) := by
  unfold execSyncLost
  repeat' first
    | with_reducible assumption
    | (rename_i hq; have hq2 := congrArg Prod.snd hq; with_reducible dsimp only at hq2; subst hq2)
    | simp only [↓fr_mk_iff, true_or, or_true, mchans, mrecd, mints, mheld, mnoted, mlic]
    | with_reducible refine fr_ite ?_ ?_
    | with_reducible refine outFr_ite ?_ ?_
    | with_reducible refine outFr_next.2 ?_
    | with_reducible refine fr_ite2 ?_ ?_
    | with_reducible refine fr_foldl ?_ (fun _ _ _ => ?_)
    | with_reducible refine record_frame _ _ _ _ _ _ mrecd mnoted ?_ | with_reducible refine banksSafeOwned_frame _ _ _ mchans mrecd mints mheld mnoted mlic ?_
    | split
    | dsimp only

theorem execSupplyState_frame {P : List Part} {t₀ : State} (dt : Nat) (bank : Fin 3) (state : Fin 4) (volt : BitVec 16) (s : State) (mtim : Part.tim ∈ P) (mbanks : Part.banks ∈ P) (mrecd : Part.recd ∈ P) (mints : Part.ints ∈ P) (mheld : Part.held ∈ P) (mnoted : Part.noted ∈ P) (mlic : Part.lic ∈ P) (h₀ : SameBut P t₀ (advance dt s)) :
    OutFr P t₀ (execSupplyState dt bank state volt s) := by
  unfold execSupplyState
  repeat' first
    | with_reducible assumption
    | (rename_i hq; have hq2 := congrArg Prod.snd hq; with_reducible dsimp only at hq2; subst hq2)
    | simp only [↓fr_mk_iff, true_or, or_true, mtim, mbanks, mrecd, mints, mheld, mnoted, mlic]
    | with_reducible refine fr_ite ?_ ?_
    | with_reducible refine outFr_ite ?_ ?_
    | with_reducible refine outFr_next.2 ?_
    | with_reducible refine fr_ite2 ?_ ?_
    | with_reducible refine fr_foldl ?_ (fun _ _ _ => ?_)
    | with_reducible refine setBank_frame _ _ _ mbanks ?_ | with_reducible refine noteBsync_frame _ _ _ _ _ mtim ?_ | with_reducible refine raise_frame _ _ mints mheld mlic ?_ | with_reducible refine record_frame _ _ _ _ _ _ mrecd mnoted ?_
    | split
    | dsimp only

theorem execGlazePost_frame {P : List Part} {t₀ : State} (ch : Fin 48) (state : Bool) (sec : BitVec 48) (ns : BitVec 32) (s : State) (mrot : Part.rot ∈ P) (mcys : Part.cys ∈ P) (mclk : Part.clk ∈ P) (mtim : Part.tim ∈ P) (mbanks : Part.banks ∈ P) (mchans : Part.chans ∈ P) (mrecd : Part.recd ∈ P) (mtwl : Part.twl ∈ P) (mlnc : Part.lnc ∈ P) (mbw : Part.bw ∈ P) (mints : Part.ints ∈ P) (mmems : Part.mems ∈ P) (mcores : Part.cores ∈ P) (mheld : Part.held ∈ P) (mnoted : Part.noted ∈ P) (mlic : Part.lic ∈ P) (h₀ : SameBut P t₀ s) :
    OutFr P t₀ (execGlazePost ch state sec ns s) := by
  unfold execGlazePost
  repeat' first
    | with_reducible assumption
    | (rename_i hq; have hq2 := congrArg Prod.snd hq; with_reducible dsimp only at hq2; subst hq2)
    | simp only [↓fr_mk_iff, true_or, or_true, mrot, mcys, mclk, mtim, mbanks, mchans, mrecd, mtwl, mlnc, mbw, mints, mmems, mcores, mheld, mnoted, mlic]
    | with_reducible refine fr_ite ?_ ?_
    | with_reducible refine outFr_ite ?_ ?_
    | with_reducible refine outFr_next.2 ?_
    | with_reducible refine fr_ite2 ?_ ?_
    | with_reducible refine fr_foldl ?_ (fun _ _ _ => ?_)
    | with_reducible refine glazePost_frame _ _ _ _ mrot mcys mclk mtim mbanks mchans mrecd mtwl mlnc mbw mints mmems mcores mheld mnoted mlic ?_
    | split
    | dsimp only

theorem execGlazeLaunch_frame {P : List Part} {t₀ : State} (dt : Nat) (ch : Fin 48) (s : State) (mrot : Part.rot ∈ P) (mcys : Part.cys ∈ P) (mclk : Part.clk ∈ P) (mtim : Part.tim ∈ P) (mbanks : Part.banks ∈ P) (mchans : Part.chans ∈ P) (mrecd : Part.recd ∈ P) (mtwl : Part.twl ∈ P) (mlnc : Part.lnc ∈ P) (mbw : Part.bw ∈ P) (mmems : Part.mems ∈ P) (mcores : Part.cores ∈ P) (mlic : Part.lic ∈ P) (h₀ : SameBut P t₀ (advance dt s)) :
    OutFr P t₀ (execGlazeLaunch dt ch s) := by
  unfold execGlazeLaunch
  repeat' first
    | with_reducible assumption
    | (rename_i hq; have hq2 := congrArg Prod.snd hq; with_reducible dsimp only at hq2; subst hq2)
    | simp only [↓fr_mk_iff, true_or, or_true, mrot, mcys, mclk, mtim, mbanks, mchans, mrecd, mtwl, mlnc, mbw, mmems, mcores, mlic]
    | with_reducible refine fr_ite ?_ ?_
    | with_reducible refine outFr_ite ?_ ?_
    | with_reducible refine outFr_next.2 ?_
    | with_reducible refine fr_ite2 ?_ ?_
    | with_reducible refine fr_foldl ?_ (fun _ _ _ => ?_)
    | with_reducible refine launch_frame _ _ _ _ _ mrot mcys mclk mtim mbanks mchans mrecd mtwl mlnc mbw mmems mcores mlic ?_ | with_reducible refine setChan_frame _ _ _ mchans ?_
    | split
    | dsimp only

end Sys2Proof.Machine
end

