-- ==== Sys2Proof/Laws/Frames3.lean ====
section
/-! SUPPORT. For every operation and every meaning: only the named parts differ after it. -/

set_option linter.all false

namespace Sys2Proof.Machine

open Sys2Proof

theorem macroOpen_frame {P : List Part} {t₀ : State} (j : BitVec 64) (s : State) (mcys : Part.cys ∈ P) (mxn : Part.xn ∈ P) (mints : Part.ints ∈ P) (mheld : Part.held ∈ P) (mlic : Part.lic ∈ P) (h₀ : SameBut P t₀ s) :
    SameBut P t₀ (macroOpen j s) := by
  unfold macroOpen
  repeat' first
    | with_reducible assumption
    | (rename_i hq; have hq2 := congrArg Prod.snd hq; with_reducible dsimp only at hq2; subst hq2)
    | simp only [↓fr_mk_iff, true_or, or_true, mcys, mxn, mints, mheld, mlic]
    | with_reducible refine fr_ite ?_ ?_
    | with_reducible refine outFr_ite ?_ ?_
    | with_reducible refine outFr_next.2 ?_
    | with_reducible refine fr_ite2 ?_ ?_
    | with_reducible refine fr_foldl ?_ (fun _ _ _ => ?_)
    | with_reducible refine setXn_frame _ _ mxn ?_ | with_reducible refine raise_frame _ _ mints mheld mlic ?_
    | split
    | dsimp only

theorem applyGrant_frame {P : List Part} {t₀ : State} (s : State) (mvrc : Part.vrc ∈ P) (mxn : Part.xn ∈ P) (mtwl : Part.twl ∈ P) (mvmem : Part.vmem ∈ P) (h₀ : SameBut P t₀ s) :
    SameBut P t₀ (applyGrant s) := by
  unfold applyGrant
  repeat' first
    | with_reducible assumption
    | (rename_i hq; have hq2 := congrArg Prod.snd hq; with_reducible dsimp only at hq2; subst hq2)
    | simp only [↓fr_mk_iff, true_or, or_true, mvrc, mxn, mtwl, mvmem]
    | with_reducible refine fr_ite ?_ ?_
    | with_reducible refine outFr_ite ?_ ?_
    | with_reducible refine outFr_next.2 ?_
    | with_reducible refine fr_ite2 ?_ ?_
    | with_reducible refine fr_foldl ?_ (fun _ _ _ => ?_)
    | with_reducible refine setXn_frame _ _ mxn ?_ | with_reducible refine setNode_frame _ _ _ mvrc mxn mtwl mvmem ?_
    | split
    | dsimp only

theorem execMacrocycleStart_frame {P : List Part} {t₀ : State} (dt : Nat) (coll : BitVec 2) (s : State) (mvrc : Part.vrc ∈ P) (mcys : Part.cys ∈ P) (mchans : Part.chans ∈ P) (mxn : Part.xn ∈ P) (mrecd : Part.recd ∈ P) (mtwl : Part.twl ∈ P) (mints : Part.ints ∈ P) (mvmem : Part.vmem ∈ P) (mheld : Part.held ∈ P) (mnoted : Part.noted ∈ P) (mlic : Part.lic ∈ P) (h₀ : SameBut P t₀ (advance dt s)) :
    OutFr P t₀ (execMacrocycleStart dt coll s) := by
  unfold execMacrocycleStart
  repeat' first
    | with_reducible assumption
    | (rename_i hq; have hq2 := congrArg Prod.snd hq; with_reducible dsimp only at hq2; subst hq2)
    | simp only [↓fr_mk_iff, true_or, or_true, mvrc, mcys, mchans, mxn, mrecd, mtwl, mints, mvmem, mheld, mnoted, mlic]
    | with_reducible refine fr_ite ?_ ?_
    | with_reducible refine outFr_ite ?_ ?_
    | with_reducible refine outFr_next.2 ?_
    | with_reducible refine fr_ite2 ?_ ?_
    | with_reducible refine fr_foldl ?_ (fun _ _ _ => ?_)
    | with_reducible refine nodeMacroBegin_frame _ _ mvrc mxn mtwl mvmem ?_ | with_reducible refine nodeMacroEnd_frame _ _ mvrc mxn mrecd mtwl mints mvmem mheld mnoted mlic ?_ | with_reducible refine applyGrant_frame _ mvrc mxn mtwl mvmem ?_ | with_reducible refine macroOpen_frame _ _ mcys mxn mints mheld mlic ?_ | with_reducible refine setXn_frame _ _ mxn ?_ | with_reducible refine xnEcho_frame _ _ mchans mxn mrecd mints mheld mnoted mlic ?_ | with_reducible refine xnSend_frame _ _ _ _ _ mxn ?_
    | split
    | dsimp only

theorem acycOffer_frame {P : List Part} {t₀ : State} (n : Nat) (s : State) (mxn : Part.xn ∈ P) (h₀ : SameBut P t₀ s) :
    SameBut P t₀ (acycOffer n s) := by
  unfold acycOffer
  repeat' first
    | with_reducible assumption
    | (rename_i hq; have hq2 := congrArg Prod.snd hq; with_reducible dsimp only at hq2; subst hq2)
    | simp only [↓fr_mk_iff, true_or, or_true, mxn]
    | with_reducible refine fr_ite ?_ ?_
    | with_reducible refine outFr_ite ?_ ?_
    | with_reducible refine outFr_next.2 ?_
    | with_reducible refine fr_ite2 ?_ ?_
    | with_reducible refine fr_foldl ?_ (fun _ _ _ => ?_)
    | with_reducible refine xnSend_frame _ _ _ _ _ mxn ?_ | with_reducible refine setXn_frame _ _ mxn ?_
    | split
    | dsimp only

theorem acycSlot_frame {P : List Part} {t₀ : State} (n : Nat) (s : State) (mxn : Part.xn ∈ P) (h₀ : SameBut P t₀ s) :
    SameBut P t₀ (acycSlot n s) := by
  unfold acycSlot
  repeat' first
    | with_reducible assumption
    | (rename_i hq; have hq2 := congrArg Prod.snd hq; with_reducible dsimp only at hq2; subst hq2)
    | simp only [↓fr_mk_iff, true_or, or_true, mxn]
    | with_reducible refine fr_ite ?_ ?_
    | with_reducible refine outFr_ite ?_ ?_
    | with_reducible refine outFr_next.2 ?_
    | with_reducible refine fr_ite2 ?_ ?_
    | with_reducible refine fr_foldl ?_ (fun _ _ _ => ?_)
    | (intro b u hu; dsimp only)
    | intro b u hu
    | (intro u hu; dsimp only)
    | intro u hu
    | with_reducible refine xnSend_frame _ _ _ _ _ mxn ?_ | with_reducible refine setXn_frame _ _ mxn ?_ | with_reducible refine acycOffer_frame _ _ mxn ?_
    | split
    | dsimp only

theorem claimOpen_frame {P : List Part} {t₀ : State} (s : State) (mxn : Part.xn ∈ P) (h₀ : SameBut P t₀ s) :
    SameBut P t₀ (claimOpen s) := by
  unfold claimOpen
  repeat' first
    | with_reducible assumption
    | (rename_i hq; have hq2 := congrArg Prod.snd hq; with_reducible dsimp only at hq2; subst hq2)
    | simp only [↓fr_mk_iff, true_or, or_true, mxn]
    | with_reducible refine fr_ite ?_ ?_
    | with_reducible refine outFr_ite ?_ ?_
    | with_reducible refine outFr_next.2 ?_
    | with_reducible refine fr_ite2 ?_ ?_
    | with_reducible refine fr_foldl ?_ (fun _ _ _ => ?_)
    | with_reducible refine xnSend_frame _ _ _ _ _ mxn ?_ | with_reducible refine setXn_frame _ _ mxn ?_
    | split
    | dsimp only

theorem pollSlot_frame {P : List Part} {t₀ : State} (i : Nat) (c : XSlot) (s : State) (mvrc : Part.vrc ∈ P) (mxn : Part.xn ∈ P) (mtwl : Part.twl ∈ P) (mvmem : Part.vmem ∈ P) (h₀ : SameBut P t₀ s) :
    SameBut P t₀ (pollSlot i c s) := by
  unfold pollSlot
  repeat' first
    | with_reducible assumption
    | (rename_i hq; have hq2 := congrArg Prod.snd hq; with_reducible dsimp only at hq2; subst hq2)
    | simp only [↓fr_mk_iff, true_or, or_true, mvrc, mxn, mtwl, mvmem]
    | with_reducible refine fr_ite ?_ ?_
    | with_reducible refine outFr_ite ?_ ?_
    | with_reducible refine outFr_next.2 ?_
    | with_reducible refine fr_ite2 ?_ ?_
    | with_reducible refine fr_foldl ?_ (fun _ _ _ => ?_)
    | with_reducible refine putResult_frame _ _ _ mvrc mtwl mvmem ?_ | with_reducible refine xnSend_frame _ _ _ _ _ mxn ?_ | with_reducible refine setXn_frame _ _ mxn ?_
    | split
    | dsimp only

theorem execSlotStart_frame {P : List Part} {t₀ : State} (dt slot : Nat) (coll : BitVec 2) (s : State) (mvrc : Part.vrc ∈ P) (mchans : Part.chans ∈ P) (mxn : Part.xn ∈ P) (mrecd : Part.recd ∈ P) (mtwl : Part.twl ∈ P) (mints : Part.ints ∈ P) (mvmem : Part.vmem ∈ P) (mheld : Part.held ∈ P) (mnoted : Part.noted ∈ P) (mlic : Part.lic ∈ P) (h₀ : SameBut P t₀ (advance dt s)) :
    OutFr P t₀ (execSlotStart dt slot coll s) := by
  unfold execSlotStart
  repeat' first
    | with_reducible assumption
    | (rename_i hq; have hq2 := congrArg Prod.snd hq; with_reducible dsimp only at hq2; subst hq2)
    | simp only [↓fr_mk_iff, true_or, or_true, mvrc, mchans, mxn, mrecd, mtwl, mints, mvmem, mheld, mnoted, mlic]
    | with_reducible refine fr_ite ?_ ?_
    | with_reducible refine outFr_ite ?_ ?_
    | with_reducible refine outFr_next.2 ?_
    | with_reducible refine fr_ite2 ?_ ?_
    | with_reducible refine fr_foldl ?_ (fun _ _ _ => ?_)
    | with_reducible refine setXn_frame _ _ mxn ?_ | with_reducible refine pollSlot_frame _ _ _ mvrc mxn mtwl mvmem ?_ | with_reducible refine acycSlot_frame _ _ mxn ?_ | with_reducible refine putResult_frame _ _ _ mvrc mtwl mvmem ?_ | with_reducible refine claimOpen_frame _ mxn ?_ | with_reducible refine xnEcho_frame _ _ mchans mxn mrecd mints mheld mnoted mlic ?_
    | split
    | dsimp only

theorem slotUnanswered_frame {P : List Part} {t₀ : State} (i : Nat) (s : State) (mvrc : Part.vrc ∈ P) (mxn : Part.xn ∈ P) (mrecd : Part.recd ∈ P) (mkiln : Part.kiln ∈ P) (mtwl : Part.twl ∈ P) (mints : Part.ints ∈ P) (mvmem : Part.vmem ∈ P) (mheld : Part.held ∈ P) (mnoted : Part.noted ∈ P) (mlic : Part.lic ∈ P) (h₀ : SameBut P t₀ s) :
    SameBut P t₀ (slotUnanswered i s) := by
  unfold slotUnanswered
  repeat' first
    | with_reducible assumption
    | (rename_i hq; have hq2 := congrArg Prod.snd hq; with_reducible dsimp only at hq2; subst hq2)
    | simp only [↓fr_mk_iff, true_or, or_true, mvrc, mxn, mrecd, mkiln, mtwl, mints, mvmem, mheld, mnoted, mlic]
    | with_reducible refine fr_ite ?_ ?_
    | with_reducible refine outFr_ite ?_ ?_
    | with_reducible refine outFr_next.2 ?_
    | with_reducible refine fr_ite2 ?_ ?_
    | with_reducible refine fr_foldl ?_ (fun _ _ _ => ?_)
    | with_reducible refine setNode_frame _ _ _ mvrc mxn mtwl mvmem ?_ | with_reducible refine putResult_frame _ _ _ mvrc mtwl mvmem ?_ | with_reducible refine acycAbort_frame _ _ mxn mrecd mkiln mints mheld mnoted mlic ?_ | with_reducible refine setXn_frame _ _ mxn ?_
    | split
    | dsimp only

theorem slotDone_frame {P : List Part} {t₀ : State} (slot : Nat) (s : State) (mcys : Part.cys ∈ P) (mxn : Part.xn ∈ P) (mints : Part.ints ∈ P) (mheld : Part.held ∈ P) (mlic : Part.lic ∈ P) (h₀ : SameBut P t₀ s) :
    SameBut P t₀ (slotDone slot s) := by
  unfold slotDone
  repeat' first
    | with_reducible assumption
    | (rename_i hq; have hq2 := congrArg Prod.snd hq; with_reducible dsimp only at hq2; subst hq2)
    | simp only [↓fr_mk_iff, true_or, or_true, mcys, mxn, mints, mheld, mlic]
    | with_reducible refine fr_ite ?_ ?_
    | with_reducible refine outFr_ite ?_ ?_
    | with_reducible refine outFr_next.2 ?_
    | with_reducible refine fr_ite2 ?_ ?_
    | with_reducible refine fr_foldl ?_ (fun _ _ _ => ?_)
    | with_reducible refine setXn_frame _ _ mxn ?_ | with_reducible refine raise_frame _ _ mints mheld mlic ?_
    | split
    | dsimp only

theorem noteSchedule_frame {P : List Part} {t₀ : State} (crc src : Nat) (s : State) (mxn : Part.xn ∈ P) (mrecd : Part.recd ∈ P) (mnoted : Part.noted ∈ P) (h₀ : SameBut P t₀ s) :
    SameBut P t₀ (noteSchedule crc src s) := by
  unfold noteSchedule
  repeat' first
    | with_reducible assumption
    | (rename_i hq; have hq2 := congrArg Prod.snd hq; with_reducible dsimp only at hq2; subst hq2)
    | simp only [↓fr_mk_iff, true_or, or_true, mxn, mrecd, mnoted]
    | with_reducible refine fr_ite ?_ ?_
    | with_reducible refine outFr_ite ?_ ?_
    | with_reducible refine outFr_next.2 ?_
    | with_reducible refine fr_ite2 ?_ ?_
    | with_reducible refine fr_foldl ?_ (fun _ _ _ => ?_)
    | with_reducible refine setXn_frame _ _ mxn ?_ | with_reducible refine record_frame _ _ _ _ _ _ mrecd mnoted ?_
    | split
    | dsimp only

theorem followStart_frame {P : List Part} {t₀ : State} (src : Nat) (f : CycleStart) (s : State) (mvrc : Part.vrc ∈ P) (mcys : Part.cys ∈ P) (mxn : Part.xn ∈ P) (mrecd : Part.recd ∈ P) (mtwl : Part.twl ∈ P) (mints : Part.ints ∈ P) (mvmem : Part.vmem ∈ P) (mheld : Part.held ∈ P) (mnoted : Part.noted ∈ P) (mlic : Part.lic ∈ P) (h₀ : SameBut P t₀ s) :
    SameBut P t₀ (followStart src f s) := by
  unfold followStart
  repeat' first
    | with_reducible assumption
    | (rename_i hq; have hq2 := congrArg Prod.snd hq; with_reducible dsimp only at hq2; subst hq2)
    | simp only [↓fr_mk_iff, true_or, or_true, mvrc, mcys, mxn, mrecd, mtwl, mints, mvmem, mheld, mnoted, mlic]
    | with_reducible refine fr_ite ?_ ?_
    | with_reducible refine outFr_ite ?_ ?_
    | with_reducible refine outFr_next.2 ?_
    | with_reducible refine fr_ite2 ?_ ?_
    | with_reducible refine fr_foldl ?_ (fun _ _ _ => ?_)
    | with_reducible refine xnRole_frame _ _ _ mxn mrecd mints mheld mnoted mlic ?_ | with_reducible refine newEpoch_frame _ _ mvrc mxn mtwl mvmem ?_ | with_reducible refine setXn_frame _ _ mxn ?_ | with_reducible refine macroOpen_frame _ _ mcys mxn mints mheld mlic ?_ | with_reducible refine noteSchedule_frame _ _ _ mxn mrecd mnoted ?_
    | split
    | dsimp only

theorem masterHears_frame {P : List Part} {t₀ : State} (src : Nat) (tko : Bool) (s : State) (mxn : Part.xn ∈ P) (mrecd : Part.recd ∈ P) (mints : Part.ints ∈ P) (mheld : Part.held ∈ P) (mnoted : Part.noted ∈ P) (mlic : Part.lic ∈ P) (h₀ : SameBut P t₀ s) :
    SameBut P t₀ (masterHears src tko s).2 := by
  unfold masterHears
  repeat' first
    | with_reducible assumption
    | (rename_i hq; have hq2 := congrArg Prod.snd hq; with_reducible dsimp only at hq2; subst hq2)
    | simp only [↓fr_mk_iff, true_or, or_true, mxn, mrecd, mints, mheld, mnoted, mlic]
    | with_reducible refine fr_ite ?_ ?_
    | with_reducible refine outFr_ite ?_ ?_
    | with_reducible refine outFr_next.2 ?_
    | with_reducible refine fr_ite2 ?_ ?_
    | with_reducible refine fr_foldl ?_ (fun _ _ _ => ?_)
    | with_reducible refine raise_frame _ _ mints mheld mlic ?_ | with_reducible refine record_frame _ _ _ _ _ _ mrecd mnoted ?_ | with_reducible refine xnRole_frame _ _ _ mxn mrecd mints mheld mnoted mlic ?_
    | split
    | dsimp only

theorem cycleStart_frame {P : List Part} {t₀ : State} (src : Nat) (f : CycleStart) (s : State) (mvrc : Part.vrc ∈ P) (mcys : Part.cys ∈ P) (mxn : Part.xn ∈ P) (mrecd : Part.recd ∈ P) (mtwl : Part.twl ∈ P) (mints : Part.ints ∈ P) (mvmem : Part.vmem ∈ P) (mheld : Part.held ∈ P) (mnoted : Part.noted ∈ P) (mlic : Part.lic ∈ P) (h₀ : SameBut P t₀ s) :
    SameBut P t₀ (cycleStart src f s) := by
  unfold cycleStart
  repeat' first
    | with_reducible assumption
    | (rename_i hq; have hq2 := congrArg Prod.snd hq; with_reducible dsimp only at hq2; subst hq2)
    | simp only [↓fr_mk_iff, true_or, or_true, mvrc, mcys, mxn, mrecd, mtwl, mints, mvmem, mheld, mnoted, mlic]
    | with_reducible refine fr_ite ?_ ?_
    | with_reducible refine outFr_ite ?_ ?_
    | with_reducible refine outFr_next.2 ?_
    | with_reducible refine fr_ite2 ?_ ?_
    | with_reducible refine fr_foldl ?_ (fun _ _ _ => ?_)
    | with_reducible refine followStart_frame _ _ _ mvrc mcys mxn mrecd mtwl mints mvmem mheld mnoted mlic ?_ | with_reducible refine xnRole_frame _ _ _ mxn mrecd mints mheld mnoted mlic ?_ | with_reducible refine masterHears_frame _ _ _ mxn mrecd mints mheld mnoted mlic ?_
    | split
    | dsimp only

theorem execCycleStartReceived_frame {P : List Part} {t₀ : State} (dt : Nat) (src : BitVec 6) (frame : CycleStart) (s : State) (mvrc : Part.vrc ∈ P) (mcys : Part.cys ∈ P) (mxn : Part.xn ∈ P) (mrecd : Part.recd ∈ P) (mtwl : Part.twl ∈ P) (mints : Part.ints ∈ P) (mvmem : Part.vmem ∈ P) (mheld : Part.held ∈ P) (mnoted : Part.noted ∈ P) (mlic : Part.lic ∈ P) (h₀ : SameBut P t₀ (advance dt s)) :
    OutFr P t₀ (execCycleStartReceived dt src frame s) := by
  unfold execCycleStartReceived
  repeat' first
    | with_reducible assumption
    | (rename_i hq; have hq2 := congrArg Prod.snd hq; with_reducible dsimp only at hq2; subst hq2)
    | simp only [↓fr_mk_iff, true_or, or_true, mvrc, mcys, mxn, mrecd, mtwl, mints, mvmem, mheld, mnoted, mlic]
    | with_reducible refine fr_ite ?_ ?_
    | with_reducible refine outFr_ite ?_ ?_
    | with_reducible refine outFr_next.2 ?_
    | with_reducible refine fr_ite2 ?_ ?_
    | with_reducible refine fr_foldl ?_ (fun _ _ _ => ?_)
    | with_reducible refine cycleStart_frame _ _ _ mvrc mcys mxn mrecd mtwl mints mvmem mheld mnoted mlic ?_
    | split
    | dsimp only

theorem execXenexSilenceTimeout_frame {P : List Part} {t₀ : State} (dt : Nat) (s : State) (mxn : Part.xn ∈ P) (mrecd : Part.recd ∈ P) (mints : Part.ints ∈ P) (mheld : Part.held ∈ P) (mnoted : Part.noted ∈ P) (mlic : Part.lic ∈ P) (h₀ : SameBut P t₀ (advance dt s)) :
    OutFr P t₀ (execXenexSilenceTimeout dt s) := by
  unfold execXenexSilenceTimeout
  repeat' first
    | with_reducible assumption
    | (rename_i hq; have hq2 := congrArg Prod.snd hq; with_reducible dsimp only at hq2; subst hq2)
    | simp only [↓fr_mk_iff, true_or, or_true, mxn, mrecd, mints, mheld, mnoted, mlic]
    | with_reducible refine fr_ite ?_ ?_
    | with_reducible refine outFr_ite ?_ ?_
    | with_reducible refine outFr_next.2 ?_
    | with_reducible refine fr_ite2 ?_ ?_
    | with_reducible refine fr_foldl ?_ (fun _ _ _ => ?_)
    | with_reducible refine xnRole_frame _ _ _ mxn mrecd mints mheld mnoted mlic ?_
    | split
    | dsimp only

theorem execContendDelayEnd_frame {P : List Part} {t₀ : State} (dt : Nat) (s : State) (mxn : Part.xn ∈ P) (h₀ : SameBut P t₀ (advance dt s)) :
    OutFr P t₀ (execContendDelayEnd dt s) := by
  unfold execContendDelayEnd
  repeat' first
    | with_reducible assumption
    | (rename_i hq; have hq2 := congrArg Prod.snd hq; with_reducible dsimp only at hq2; subst hq2)
    | simp only [↓fr_mk_iff, true_or, or_true, mxn]
    | with_reducible refine fr_ite ?_ ?_
    | with_reducible refine outFr_ite ?_ ?_
    | with_reducible refine outFr_next.2 ?_
    | with_reducible refine fr_ite2 ?_ ?_
    | with_reducible refine fr_foldl ?_ (fun _ _ _ => ?_)
    | with_reducible refine setXn_frame _ _ mxn ?_ | with_reducible refine xnSend_frame _ _ _ _ _ mxn ?_
    | split
    | dsimp only

theorem execColdstartEnd_frame {P : List Part} {t₀ : State} (dt : Nat) (s : State) (mvrc : Part.vrc ∈ P) (mxn : Part.xn ∈ P) (mrecd : Part.recd ∈ P) (mtwl : Part.twl ∈ P) (mints : Part.ints ∈ P) (mvmem : Part.vmem ∈ P) (mheld : Part.held ∈ P) (mnoted : Part.noted ∈ P) (mlic : Part.lic ∈ P) (h₀ : SameBut P t₀ (advance dt s)) :
    OutFr P t₀ (execColdstartEnd dt s) := by
  unfold execColdstartEnd
  repeat' first
    | with_reducible assumption
    | (rename_i hq; have hq2 := congrArg Prod.snd hq; with_reducible dsimp only at hq2; subst hq2)
    | simp only [↓fr_mk_iff, true_or, or_true, mvrc, mxn, mrecd, mtwl, mints, mvmem, mheld, mnoted, mlic]
    | with_reducible refine fr_ite ?_ ?_
    | with_reducible refine outFr_ite ?_ ?_
    | with_reducible refine outFr_next.2 ?_
    | with_reducible refine fr_ite2 ?_ ?_
    | with_reducible refine fr_foldl ?_ (fun _ _ _ => ?_)
    | with_reducible refine record_frame _ _ _ _ _ _ mrecd mnoted ?_ | with_reducible refine setXn_frame _ _ mxn ?_ | with_reducible refine newEpoch_frame _ _ mvrc mxn mtwl mvmem ?_ | with_reducible refine xnRole_frame _ _ _ mxn mrecd mints mheld mnoted mlic ?_
    | split
    | dsimp only

theorem execXnCollision_frame {P : List Part} {t₀ : State} (coll : BitVec 2) (s : State) (mxn : Part.xn ∈ P) (mrecd : Part.recd ∈ P) (mints : Part.ints ∈ P) (mheld : Part.held ∈ P) (mnoted : Part.noted ∈ P) (mlic : Part.lic ∈ P) (h₀ : SameBut P t₀ s) :
    OutFr P t₀ (execXnCollision coll s) := by
  unfold execXnCollision
  repeat' first
    | with_reducible assumption
    | (rename_i hq; have hq2 := congrArg Prod.snd hq; with_reducible dsimp only at hq2; subst hq2)
    | simp only [↓fr_mk_iff, true_or, or_true, mxn, mrecd, mints, mheld, mnoted, mlic]
    | with_reducible refine fr_ite ?_ ?_
    | with_reducible refine outFr_ite ?_ ?_
    | with_reducible refine outFr_next.2 ?_
    | with_reducible refine fr_ite2 ?_ ?_
    | with_reducible refine fr_foldl ?_ (fun _ _ _ => ?_)
    | with_reducible refine record_frame _ _ _ _ _ _ mrecd mnoted ?_ | with_reducible refine setXn_frame _ _ mxn ?_ | with_reducible refine xnRole_frame _ _ _ mxn mrecd mints mheld mnoted mlic ?_
    | split
    | dsimp only

theorem execCarrierDetected_frame {P : List Part} {t₀ : State} (s : State) (mxn : Part.xn ∈ P) (mrecd : Part.recd ∈ P) (mints : Part.ints ∈ P) (mheld : Part.held ∈ P) (mnoted : Part.noted ∈ P) (mlic : Part.lic ∈ P) (h₀ : SameBut P t₀ s) :
    OutFr P t₀ (execCarrierDetected s) := by
  unfold execCarrierDetected
  repeat' first
    | with_reducible assumption
    | (rename_i hq; have hq2 := congrArg Prod.snd hq; with_reducible dsimp only at hq2; subst hq2)
    | simp only [↓fr_mk_iff, true_or, or_true, mxn, mrecd, mints, mheld, mnoted, mlic]
    | with_reducible refine fr_ite ?_ ?_
    | with_reducible refine outFr_ite ?_ ?_
    | with_reducible refine outFr_next.2 ?_
    | with_reducible refine fr_ite2 ?_ ?_
    | with_reducible refine fr_foldl ?_ (fun _ _ _ => ?_)
    | with_reducible refine xnRole_frame _ _ _ mxn mrecd mints mheld mnoted mlic ?_
    | split
    | dsimp only

theorem xnbTakeover_frame {P : List Part} {t₀ : State} (s : State) (mxn : Part.xn ∈ P) (mrecd : Part.recd ∈ P) (mints : Part.ints ∈ P) (mheld : Part.held ∈ P) (mnoted : Part.noted ∈ P) (mlic : Part.lic ∈ P) (h₀ : SameBut P t₀ s) :
    SameBut P t₀ (xnbTakeover s) := by
  unfold xnbTakeover
  repeat' first
    | with_reducible assumption
    | (rename_i hq; have hq2 := congrArg Prod.snd hq; with_reducible dsimp only at hq2; subst hq2)
    | simp only [↓fr_mk_iff, true_or, or_true, mxn, mrecd, mints, mheld, mnoted, mlic]
    | with_reducible refine fr_ite ?_ ?_
    | with_reducible refine outFr_ite ?_ ?_
    | with_reducible refine outFr_next.2 ?_
    | with_reducible refine fr_ite2 ?_ ?_
    | with_reducible refine fr_foldl ?_ (fun _ _ _ => ?_)
    | with_reducible refine xnRole_frame _ _ _ mxn mrecd mints mheld mnoted mlic ?_ | with_reducible refine setXn_frame _ _ mxn ?_
    | split
    | dsimp only

theorem execXnbTakeover_frame {P : List Part} {t₀ : State} (s : State) (mxn : Part.xn ∈ P) (mrecd : Part.recd ∈ P) (mints : Part.ints ∈ P) (mheld : Part.held ∈ P) (mnoted : Part.noted ∈ P) (mlic : Part.lic ∈ P) (h₀ : SameBut P t₀ s) :
    OutFr P t₀ (execXnbTakeover s) := by
  unfold execXnbTakeover
  repeat' first
    | with_reducible assumption
    | (rename_i hq; have hq2 := congrArg Prod.snd hq; with_reducible dsimp only at hq2; subst hq2)
    | simp only [↓fr_mk_iff, true_or, or_true, mxn, mrecd, mints, mheld, mnoted, mlic]
    | with_reducible refine fr_ite ?_ ?_
    | with_reducible refine outFr_ite ?_ ?_
    | with_reducible refine outFr_next.2 ?_
    | with_reducible refine fr_ite2 ?_ ?_
    | with_reducible refine fr_foldl ?_ (fun _ _ _ => ?_)
    | with_reducible refine xnbTakeover_frame _ mxn mrecd mints mheld mnoted mlic ?_
    | split
    | dsimp only

theorem xnbRelease_frame {P : List Part} {t₀ : State} (s : State) (mxn : Part.xn ∈ P) (mrecd : Part.recd ∈ P) (mints : Part.ints ∈ P) (mheld : Part.held ∈ P) (mnoted : Part.noted ∈ P) (mlic : Part.lic ∈ P) (h₀ : SameBut P t₀ s) :
    SameBut P t₀ (xnbRelease s) := by
  unfold xnbRelease
  repeat' first
    | with_reducible assumption
    | (rename_i hq; have hq2 := congrArg Prod.snd hq; with_reducible dsimp only at hq2; subst hq2)
    | simp only [↓fr_mk_iff, true_or, or_true, mxn, mrecd, mints, mheld, mnoted, mlic]
    | with_reducible refine fr_ite ?_ ?_
    | with_reducible refine outFr_ite ?_ ?_
    | with_reducible refine outFr_next.2 ?_
    | with_reducible refine fr_ite2 ?_ ?_
    | with_reducible refine fr_foldl ?_ (fun _ _ _ => ?_)
    | with_reducible refine xnRole_frame _ _ _ mxn mrecd mints mheld mnoted mlic ?_
    | split
    | dsimp only

theorem execXnbRelease_frame {P : List Part} {t₀ : State} (s : State) (mxn : Part.xn ∈ P) (mrecd : Part.recd ∈ P) (mints : Part.ints ∈ P) (mheld : Part.held ∈ P) (mnoted : Part.noted ∈ P) (mlic : Part.lic ∈ P) (h₀ : SameBut P t₀ s) :
    OutFr P t₀ (execXnbRelease s) := by
  unfold execXnbRelease
  repeat' first
    | with_reducible assumption
    | (rename_i hq; have hq2 := congrArg Prod.snd hq; with_reducible dsimp only at hq2; subst hq2)
    | simp only [↓fr_mk_iff, true_or, or_true, mxn, mrecd, mints, mheld, mnoted, mlic]
    | with_reducible refine fr_ite ?_ ?_
    | with_reducible refine outFr_ite ?_ ?_
    | with_reducible refine outFr_next.2 ?_
    | with_reducible refine fr_ite2 ?_ ?_
    | with_reducible refine fr_foldl ?_ (fun _ _ _ => ?_)
    | with_reducible refine xnbRelease_frame _ mxn mrecd mints mheld mnoted mlic ?_
    | split
    | dsimp only

theorem claimHeard_frame {P : List Part} {t₀ : State} (src tx rx : Nat) (s : State) (mxn : Part.xn ∈ P) (mrecd : Part.recd ∈ P) (mints : Part.ints ∈ P) (mheld : Part.held ∈ P) (mnoted : Part.noted ∈ P) (mlic : Part.lic ∈ P) (h₀ : SameBut P t₀ s) :
    SameBut P t₀ (claimHeard src tx rx s) := by
  unfold claimHeard
  repeat' first
    | with_reducible assumption
    | (rename_i hq; have hq2 := congrArg Prod.snd hq; with_reducible dsimp only at hq2; subst hq2)
    | simp only [↓fr_mk_iff, true_or, or_true, mxn, mrecd, mints, mheld, mnoted, mlic]
    | with_reducible refine fr_ite ?_ ?_
    | with_reducible refine outFr_ite ?_ ?_
    | with_reducible refine outFr_next.2 ?_
    | with_reducible refine fr_ite2 ?_ ?_
    | with_reducible refine fr_foldl ?_ (fun _ _ _ => ?_)
    | with_reducible refine setXn_frame _ _ mxn ?_ | with_reducible refine raise_frame _ _ mints mheld mlic ?_ | with_reducible refine record_frame _ _ _ _ _ _ mrecd mnoted ?_
    | split
    | dsimp only

theorem execClaimReceived_frame {P : List Part} {t₀ : State} (src : BitVec 6) (tx rx : BitVec 8) (s : State) (mxn : Part.xn ∈ P) (mrecd : Part.recd ∈ P) (mints : Part.ints ∈ P) (mheld : Part.held ∈ P) (mnoted : Part.noted ∈ P) (mlic : Part.lic ∈ P) (h₀ : SameBut P t₀ s) :
    OutFr P t₀ (execClaimReceived src tx rx s) := by
  unfold execClaimReceived
  repeat' first
    | with_reducible assumption
    | (rename_i hq; have hq2 := congrArg Prod.snd hq; with_reducible dsimp only at hq2; subst hq2)
    | simp only [↓fr_mk_iff, true_or, or_true, mxn, mrecd, mints, mheld, mnoted, mlic]
    | with_reducible refine fr_ite ?_ ?_
    | with_reducible refine outFr_ite ?_ ?_
    | with_reducible refine outFr_next.2 ?_
    | with_reducible refine fr_ite2 ?_ ?_
    | with_reducible refine fr_foldl ?_ (fun _ _ _ => ?_)
    | with_reducible refine claimHeard_frame _ _ _ _ mxn mrecd mints mheld mnoted mlic ?_
    | split
    | dsimp only

theorem xnCoastEnd_frame {P : List Part} {t₀ : State} (s : State) (mxn : Part.xn ∈ P) (mrecd : Part.recd ∈ P) (mints : Part.ints ∈ P) (mheld : Part.held ∈ P) (mnoted : Part.noted ∈ P) (mlic : Part.lic ∈ P) (h₀ : SameBut P t₀ s) :
    SameBut P t₀ (xnCoastEnd s) := by
  unfold xnCoastEnd
  repeat' first
    | with_reducible assumption
    | (rename_i hq; have hq2 := congrArg Prod.snd hq; with_reducible dsimp only at hq2; subst hq2)
    | simp only [↓fr_mk_iff, true_or, or_true, mxn, mrecd, mints, mheld, mnoted, mlic]
    | with_reducible refine fr_ite ?_ ?_
    | with_reducible refine outFr_ite ?_ ?_
    | with_reducible refine outFr_next.2 ?_
    | with_reducible refine fr_ite2 ?_ ?_
    | with_reducible refine fr_foldl ?_ (fun _ _ _ => ?_)
    | with_reducible refine xnRole_frame _ _ _ mxn mrecd mints mheld mnoted mlic ?_
    | split
    | dsimp only

theorem mirrorShadow_frame {P : List Part} {t₀ : State} (s : State) (mcores : Part.cores ∈ P) (mlic : Part.lic ∈ P) (h₀ : SameBut P t₀ s) :
    SameBut P t₀ (mirrorShadow s) := by
  unfold mirrorShadow
  repeat' first
    | with_reducible assumption
    | (rename_i hq; have hq2 := congrArg Prod.snd hq; with_reducible dsimp only at hq2; subst hq2)
    | simp only [↓fr_mk_iff, true_or, or_true, mcores, mlic]
    | with_reducible refine fr_ite ?_ ?_
    | with_reducible refine outFr_ite ?_ ?_
    | with_reducible refine outFr_next.2 ?_
    | with_reducible refine fr_ite2 ?_ ?_
    | with_reducible refine fr_foldl ?_ (fun _ _ _ => ?_)
    | split
    | dsimp only

theorem setCore_frame {P : List Part} {t₀ : State} (k : Fin 8) (f : Core → Core) (s : State) (mcores : Part.cores ∈ P) (mlic : Part.lic ∈ P) (h₀ : SameBut P t₀ s) :
    SameBut P t₀ (setCore k f s) := by
  unfold setCore
  repeat' first
    | with_reducible assumption
    | (rename_i hq; have hq2 := congrArg Prod.snd hq; with_reducible dsimp only at hq2; subst hq2)
    | simp only [↓fr_mk_iff, true_or, or_true, mcores, mlic]
    | with_reducible refine fr_ite ?_ ?_
    | with_reducible refine outFr_ite ?_ ?_
    | with_reducible refine outFr_next.2 ?_
    | with_reducible refine fr_ite2 ?_ ?_
    | with_reducible refine fr_foldl ?_ (fun _ _ _ => ?_)
    | split
    | dsimp only

theorem mapCores_frame {P : List Part} {t₀ : State} (ks : List (Fin 8)) (f : Core → Core) (s : State) (mcores : Part.cores ∈ P) (mlic : Part.lic ∈ P) (h₀ : SameBut P t₀ s) :
    SameBut P t₀ (mapCores ks f s) := by
  unfold mapCores
  repeat' first
    | with_reducible assumption
    | (rename_i hq; have hq2 := congrArg Prod.snd hq; with_reducible dsimp only at hq2; subst hq2)
    | simp only [↓fr_mk_iff, true_or, or_true, mcores, mlic]
    | with_reducible refine fr_ite ?_ ?_
    | with_reducible refine outFr_ite ?_ ?_
    | with_reducible refine outFr_next.2 ?_
    | with_reducible refine fr_ite2 ?_ ?_
    | with_reducible refine fr_foldl ?_ (fun _ _ _ => ?_)
    | with_reducible refine setCore_frame _ _ _ mcores mlic ?_
    | split
    | dsimp only

theorem drainOne_frame {P : List Part} {t₀ : State} (k : Fin 8) (s : State) (mmod : Part.mod ∈ P) (mpwr : Part.pwr ∈ P) (mvrc : Part.vrc ∈ P) (mrot : Part.rot ∈ P) (mcys : Part.cys ∈ P) (mbanks : Part.banks ∈ P) (mchans : Part.chans ∈ P) (mxn : Part.xn ∈ P) (mrecd : Part.recd ∈ P) (mkiln : Part.kiln ∈ P) (mtwl : Part.twl ∈ P) (mints : Part.ints ∈ P) (mmems : Part.mems ∈ P) (mcores : Part.cores ∈ P) (mheld : Part.held ∈ P) (mnoted : Part.noted ∈ P) (mlic : Part.lic ∈ P) (h₀ : SameBut P t₀ s) :
    SameBut P t₀ (drainOne k s) := by
  unfold drainOne
  repeat' first
    | with_reducible assumption
    | (rename_i hq; have hq2 := congrArg Prod.snd hq; with_reducible dsimp only at hq2; subst hq2)
    | simp only [↓fr_mk_iff, true_or, or_true, mmod, mpwr, mvrc, mrot, mcys, mbanks, mchans, mxn, mrecd, mkiln, mtwl, mints, mmems, mcores, mheld, mnoted, mlic]
    | with_reducible refine fr_ite ?_ ?_
    | with_reducible refine outFr_ite ?_ ?_
    | with_reducible refine outFr_next.2 ?_
    | with_reducible refine fr_ite2 ?_ ?_
    | with_reducible refine fr_foldl ?_ (fun _ _ _ => ?_)
    | with_reducible refine setCore_frame _ _ _ mcores mlic ?_ | with_reducible refine mirrorDisagree_frame _ _ _ _ mmod mpwr mvrc mrot mcys mbanks mchans mxn mrecd mkiln mtwl mints mheld mnoted mlic ?_ | with_reducible refine mirrorPush_frame _ _ mrot mtwl mints mheld mlic ?_
    | split
    | dsimp only

theorem drainBuf_frame {P : List Part} {t₀ : State} (k : Fin 8) (n : Nat) (s : State) (mmod : Part.mod ∈ P) (mpwr : Part.pwr ∈ P) (mvrc : Part.vrc ∈ P) (mrot : Part.rot ∈ P) (mcys : Part.cys ∈ P) (mbanks : Part.banks ∈ P) (mchans : Part.chans ∈ P) (mxn : Part.xn ∈ P) (mrecd : Part.recd ∈ P) (mkiln : Part.kiln ∈ P) (mtwl : Part.twl ∈ P) (mints : Part.ints ∈ P) (mmems : Part.mems ∈ P) (mcores : Part.cores ∈ P) (mheld : Part.held ∈ P) (mnoted : Part.noted ∈ P) (mlic : Part.lic ∈ P)
    (h₀ : SameBut P t₀ s) : SameBut P t₀ (drainBuf k n s) := by
  induction n generalizing s with
  | zero => exact h₀
  | succ n ih => exact ih _ (drainOne_frame _ _ mmod mpwr mvrc mrot mcys mbanks mchans mxn mrecd mkiln mtwl mints mmems mcores mheld mnoted mlic h₀)

theorem voteBeats_frame {P : List Part} {t₀ : State} (k : Fin 8) (f : Fin 8 → Option Beat) (s : State) (mmod : Part.mod ∈ P) (mpwr : Part.pwr ∈ P) (mvrc : Part.vrc ∈ P) (mrot : Part.rot ∈ P) (mcys : Part.cys ∈ P) (mbanks : Part.banks ∈ P) (mchans : Part.chans ∈ P) (mxn : Part.xn ∈ P) (mrecd : Part.recd ∈ P) (mkiln : Part.kiln ∈ P) (mtwl : Part.twl ∈ P) (mints : Part.ints ∈ P) (mheld : Part.held ∈ P) (mnoted : Part.noted ∈ P) (mlic : Part.lic ∈ P) (h₀ : SameBut P t₀ s) :
    SameBut P t₀ (voteBeats k f s).2 := by
  unfold voteBeats
  repeat' first
    | with_reducible assumption
    | (rename_i hq; have hq2 := congrArg Prod.snd hq; with_reducible dsimp only at hq2; subst hq2)
    | simp only [↓fr_mk_iff, true_or, or_true, mmod, mpwr, mvrc, mrot, mcys, mbanks, mchans, mxn, mrecd, mkiln, mtwl, mints, mheld, mnoted, mlic]
    | with_reducible refine fr_ite ?_ ?_
    | with_reducible refine outFr_ite ?_ ?_
    | with_reducible refine outFr_next.2 ?_
    | with_reducible refine fr_ite2 ?_ ?_
    | with_reducible refine fr_foldl ?_ (fun _ _ _ => ?_)
    | with_reducible refine voteClock_frame _ _ mmod mpwr mvrc mrot mcys mbanks mchans mxn mrecd mkiln mtwl mints mheld mnoted mlic ?_
    | split
    | dsimp only

theorem voteBurst_frame {P : List Part} {t₀ : State} (k : Fin 8) (bs : Fin 8 → List Beat) (n : Nat) (s : State) (mmod : Part.mod ∈ P) (mpwr : Part.pwr ∈ P) (mvrc : Part.vrc ∈ P) (mrot : Part.rot ∈ P) (mcys : Part.cys ∈ P) (mbanks : Part.banks ∈ P) (mchans : Part.chans ∈ P) (mxn : Part.xn ∈ P) (mrecd : Part.recd ∈ P) (mkiln : Part.kiln ∈ P) (mtwl : Part.twl ∈ P) (mints : Part.ints ∈ P) (mheld : Part.held ∈ P) (mnoted : Part.noted ∈ P) (mlic : Part.lic ∈ P)
    (h₀ : SameBut P t₀ s) : SameBut P t₀ (voteBurst k bs n s).2 := by
  induction n generalizing bs s with
  | zero => exact h₀
  | succ n ih =>
    have h1 := voteBeats_frame k (fun i => (bs i).head?) s mmod mpwr mvrc mrot mcys mbanks mchans mxn mrecd mkiln mtwl mints mheld mnoted mlic h₀
    unfold voteBurst
    split
    · rename_i hq; rw [hq] at h1; exact h1
    · rename_i hq; rw [hq] at h1; exact ih _ _ h1

theorem flushCombine_frame {P : List Part} {t₀ : State} (k : Fin 8) (s : State) (mdrawn : Part.drawn ∈ P) (mmod : Part.mod ∈ P) (mpwr : Part.pwr ∈ P) (mvrc : Part.vrc ∈ P) (mrot : Part.rot ∈ P) (mcys : Part.cys ∈ P) (mclk : Part.clk ∈ P) (mtim : Part.tim ∈ P) (mbanks : Part.banks ∈ P) (mchans : Part.chans ∈ P) (mxn : Part.xn ∈ P) (mrecd : Part.recd ∈ P) (mkiln : Part.kiln ∈ P) (mtwl : Part.twl ∈ P) (mlnc : Part.lnc ∈ P) (mbrg : Part.brg ∈ P) (mbw : Part.bw ∈ P) (mints : Part.ints ∈ P) (mcores : Part.cores ∈ P) (mvmem : Part.vmem ∈ P) (mheld : Part.held ∈ P) (mnoted : Part.noted ∈ P) (mlic : Part.lic ∈ P)
    (h₀ : SameBut P t₀ s) : SameBut P t₀ (flushCombine k s) := by
  unfold flushCombine
  dsimp only
  refine fr_ite h₀ ?_
  refine fr_ite (voteBurst_frame _ _ _ _ mmod mpwr mvrc mrot mcys mbanks mchans mxn mrecd mkiln mtwl mints mheld mnoted mlic (mapCores_frame _ _ _ mcores mlic h₀)) ?_
  refine fr_ite (mapCores_frame _ _ _ mcores mlic ?_) ?_ <;>
    exact applyBurst_frame _ _ _ mdrawn mvrc mcys mclk mtim mbanks mchans mxn mrecd mtwl mlnc mbrg mbw mints mvmem mheld mnoted mlic (voteBurst_frame _ _ _ _ mmod mpwr mvrc mrot mcys mbanks mchans mxn mrecd mkiln mtwl mints mheld mnoted mlic (mapCores_frame _ _ _ mcores mlic h₀))

theorem spareLock_frame {P : List Part} {t₀ : State} (lead : Fin 8) (s : State) (mcores : Part.cores ∈ P) (mlic : Part.lic ∈ P) (h₀ : SameBut P t₀ s) :
    SameBut P t₀ (spareLock lead s) := by
  unfold spareLock
  repeat' first
    | with_reducible assumption
    | (rename_i hq; have hq2 := congrArg Prod.snd hq; with_reducible dsimp only at hq2; subst hq2)
    | simp only [↓fr_mk_iff, true_or, or_true, mcores, mlic]
    | with_reducible refine fr_ite ?_ ?_
    | with_reducible refine outFr_ite ?_ ?_
    | with_reducible refine outFr_next.2 ?_
    | with_reducible refine fr_ite2 ?_ ?_
    | with_reducible refine fr_foldl ?_ (fun _ _ _ => ?_)
    | split
    | dsimp only

theorem actFlush_frame {P : List Part} {t₀ : State} (s : State) (k : Fin 8) (a : Act) (mdrawn : Part.drawn ∈ P) (mmod : Part.mod ∈ P) (mpwr : Part.pwr ∈ P) (mvrc : Part.vrc ∈ P) (mrot : Part.rot ∈ P) (mcys : Part.cys ∈ P) (mclk : Part.clk ∈ P) (mtim : Part.tim ∈ P) (mbanks : Part.banks ∈ P) (mchans : Part.chans ∈ P) (mxn : Part.xn ∈ P) (mrecd : Part.recd ∈ P) (mkiln : Part.kiln ∈ P) (mtwl : Part.twl ∈ P) (mlnc : Part.lnc ∈ P) (mbrg : Part.brg ∈ P) (mbw : Part.bw ∈ P) (mints : Part.ints ∈ P) (mcores : Part.cores ∈ P) (mvmem : Part.vmem ∈ P) (mheld : Part.held ∈ P) (mnoted : Part.noted ∈ P) (mlic : Part.lic ∈ P) (h₀ : SameBut P t₀ s) :
    SameBut P t₀ (actFlush s k a) := by
  unfold actFlush
  repeat' first
    | with_reducible assumption
    | (rename_i hq; have hq2 := congrArg Prod.snd hq; with_reducible dsimp only at hq2; subst hq2)
    | simp only [↓fr_mk_iff, true_or, or_true, mdrawn, mmod, mpwr, mvrc, mrot, mcys, mclk, mtim, mbanks, mchans, mxn, mrecd, mkiln, mtwl, mlnc, mbrg, mbw, mints, mcores, mvmem, mheld, mnoted, mlic]
    | with_reducible refine fr_ite ?_ ?_
    | with_reducible refine outFr_ite ?_ ?_
    | with_reducible refine outFr_next.2 ?_
    | with_reducible refine fr_ite2 ?_ ?_
    | with_reducible refine fr_foldl ?_ (fun _ _ _ => ?_)
    | with_reducible refine flushCombine_frame _ _ mdrawn mmod mpwr mvrc mrot mcys mclk mtim mbanks mchans mxn mrecd mkiln mtwl mlnc mbrg mbw mints mcores mvmem mheld mnoted mlic ?_
    | split
    | dsimp only

theorem runActs_frame {P : List Part} {t₀ : State} (k : Fin 8) (act : State → Fin 8 → Act) (s0 : State) (mdrawn : Part.drawn ∈ P) (mmod : Part.mod ∈ P) (mpwr : Part.pwr ∈ P) (mvrc : Part.vrc ∈ P) (mrot : Part.rot ∈ P) (mcys : Part.cys ∈ P) (mclk : Part.clk ∈ P) (mtim : Part.tim ∈ P) (mbanks : Part.banks ∈ P) (mchans : Part.chans ∈ P) (mxn : Part.xn ∈ P) (mrecd : Part.recd ∈ P) (mkiln : Part.kiln ∈ P) (mtwl : Part.twl ∈ P) (mlnc : Part.lnc ∈ P) (mbrg : Part.brg ∈ P) (mbw : Part.bw ∈ P) (mints : Part.ints ∈ P) (mcores : Part.cores ∈ P) (mvmem : Part.vmem ∈ P) (mheld : Part.held ∈ P) (mnoted : Part.noted ∈ P) (mlic : Part.lic ∈ P) (h₀ : SameBut P t₀ s0) :
    SameBut P t₀ (runActs k act s0) := by
  unfold runActs
  repeat' first
    | with_reducible assumption
    | (rename_i hq; have hq2 := congrArg Prod.snd hq; with_reducible dsimp only at hq2; subst hq2)
    | simp only [↓fr_mk_iff, true_or, or_true, mdrawn, mmod, mpwr, mvrc, mrot, mcys, mclk, mtim, mbanks, mchans, mxn, mrecd, mkiln, mtwl, mlnc, mbrg, mbw, mints, mcores, mvmem, mheld, mnoted, mlic]
    | with_reducible refine fr_ite ?_ ?_
    | with_reducible refine outFr_ite ?_ ?_
    | with_reducible refine outFr_next.2 ?_
    | with_reducible refine fr_ite2 ?_ ?_
    | with_reducible refine fr_foldl ?_ (fun _ _ _ => ?_)
    | with_reducible refine actFlush_frame _ _ _ mdrawn mmod mpwr mvrc mrot mcys mclk mtim mbanks mchans mxn mrecd mkiln mtwl mlnc mbrg mbw mints mcores mvmem mheld mnoted mlic ?_ | with_reducible refine setCore_frame _ _ _ mcores mlic ?_ | with_reducible refine spareLock_frame _ _ mcores mlic ?_ | with_reducible refine busError_frame _ _ _ _ _ mclk mrecd mints mheld mnoted mlic ?_ | with_reducible refine voteBeats_frame _ _ _ mmod mpwr mvrc mrot mcys mbanks mchans mxn mrecd mkiln mtwl mints mheld mnoted mlic ?_ | with_reducible refine fabric_frame _ _ _ mdrawn mvrc mcys mclk mtim mbanks mchans mxn mrecd mtwl mlnc mbrg mbw mints mvmem mheld mnoted mlic ?_
    | split
    | dsimp only

theorem runNeeds_frame {P : List Part} {t₀ : State} (k : Fin 8) (act : State → Fin 8 → Act) (s : State) (mdrawn : Part.drawn ∈ P) (mmod : Part.mod ∈ P) (mpwr : Part.pwr ∈ P) (mvrc : Part.vrc ∈ P) (mrot : Part.rot ∈ P) (mcys : Part.cys ∈ P) (mclk : Part.clk ∈ P) (mtim : Part.tim ∈ P) (mbanks : Part.banks ∈ P) (mchans : Part.chans ∈ P) (mxn : Part.xn ∈ P) (mrecd : Part.recd ∈ P) (mkiln : Part.kiln ∈ P) (mtwl : Part.twl ∈ P) (mlnc : Part.lnc ∈ P) (mbrg : Part.brg ∈ P) (mbw : Part.bw ∈ P) (mints : Part.ints ∈ P) (mmems : Part.mems ∈ P) (mcores : Part.cores ∈ P) (mvmem : Part.vmem ∈ P) (mheld : Part.held ∈ P) (mnoted : Part.noted ∈ P) (mlic : Part.lic ∈ P) (h₀ : SameBut P t₀ s) :
    ∀ u, (runNeeds k act s) = some u → SameBut P t₀ u := by
  unfold runNeeds
  repeat' first
    | with_reducible assumption
    | (rename_i hq; have hq2 := congrArg Prod.snd hq; with_reducible dsimp only at hq2; subst hq2)
    | simp only [↓fr_mk_iff, true_or, or_true, mdrawn, mmod, mpwr, mvrc, mrot, mcys, mclk, mtim, mbanks, mchans, mxn, mrecd, mkiln, mtwl, mlnc, mbrg, mbw, mints, mmems, mcores, mvmem, mheld, mnoted, mlic]
    | with_reducible refine fr_ite ?_ ?_
    | with_reducible refine outFr_ite ?_ ?_
    | with_reducible refine outFr_next.2 ?_
    | with_reducible refine fr_ite2 ?_ ?_
    | with_reducible refine fr_foldl ?_ (fun _ _ _ => ?_)
    | (intro u hu; cases hu; done)
    | (intro u hu; injection hu with hu; subst hu)
    | with_reducible refine flushCombine_frame _ _ mdrawn mmod mpwr mvrc mrot mcys mclk mtim mbanks mchans mxn mrecd mkiln mtwl mlnc mbrg mbw mints mcores mvmem mheld mnoted mlic ?_ | with_reducible refine drainBuf_frame _ _ _ mmod mpwr mvrc mrot mcys mbanks mchans mxn mrecd mkiln mtwl mints mmems mcores mheld mnoted mlic ?_
    | split
    | dsimp only

theorem fetchAll_frame {P : List Part} {t₀ : State} (ks : List (Fin 8)) (s : State) (mcores : Part.cores ∈ P) (mlic : Part.lic ∈ P) (h₀ : SameBut P t₀ s) :
    SameBut P t₀ (fetchAll ks s) := by
  unfold fetchAll
  repeat' first
    | with_reducible assumption
    | (rename_i hq; have hq2 := congrArg Prod.snd hq; with_reducible dsimp only at hq2; subst hq2)
    | simp only [↓fr_mk_iff, true_or, or_true, mcores, mlic]
    | with_reducible refine fr_ite ?_ ?_
    | with_reducible refine outFr_ite ?_ ?_
    | with_reducible refine outFr_next.2 ?_
    | with_reducible refine fr_ite2 ?_ ?_
    | with_reducible refine fr_foldl ?_ (fun _ _ _ => ?_)
    | with_reducible refine setCore_frame _ _ _ mcores mlic ?_
    | split
    | dsimp only

theorem runInstr_frame {P : List Part} {t₀ : State} (k : Fin 8) (act : State → Fin 8 → Act) (s : State) (mdrawn : Part.drawn ∈ P) (mmod : Part.mod ∈ P) (mpwr : Part.pwr ∈ P) (mvrc : Part.vrc ∈ P) (mrot : Part.rot ∈ P) (mcys : Part.cys ∈ P) (mclk : Part.clk ∈ P) (mtim : Part.tim ∈ P) (mbanks : Part.banks ∈ P) (mchans : Part.chans ∈ P) (mxn : Part.xn ∈ P) (mrecd : Part.recd ∈ P) (mkiln : Part.kiln ∈ P) (mtwl : Part.twl ∈ P) (mlnc : Part.lnc ∈ P) (mbrg : Part.brg ∈ P) (mbw : Part.bw ∈ P) (mints : Part.ints ∈ P) (mmems : Part.mems ∈ P) (mcores : Part.cores ∈ P) (mvmem : Part.vmem ∈ P) (mheld : Part.held ∈ P) (mnoted : Part.noted ∈ P) (mlic : Part.lic ∈ P) (h₀ : SameBut P t₀ s) :
    SameBut P t₀ (runInstr k act s) := by
  unfold runInstr
  repeat' first
    | with_reducible assumption
    | (rename_i hq; have hq2 := congrArg Prod.snd hq; with_reducible dsimp only at hq2; subst hq2)
    | simp only [↓fr_mk_iff, true_or, or_true, mdrawn, mmod, mpwr, mvrc, mrot, mcys, mclk, mtim, mbanks, mchans, mxn, mrecd, mkiln, mtwl, mlnc, mbrg, mbw, mints, mmems, mcores, mvmem, mheld, mnoted, mlic]
    | with_reducible refine fr_ite ?_ ?_
    | with_reducible refine outFr_ite ?_ ?_
    | with_reducible refine outFr_next.2 ?_
    | with_reducible refine fr_ite2 ?_ ?_
    | with_reducible refine fr_foldl ?_ (fun _ _ _ => ?_)
    | with_reducible refine mirrorShadow_frame _ mcores mlic ?_ | with_reducible refine mapCores_frame _ _ _ mcores mlic ?_ | with_reducible refine flushCombine_frame _ _ mdrawn mmod mpwr mvrc mrot mcys mclk mtim mbanks mchans mxn mrecd mkiln mtwl mlnc mbrg mbw mints mcores mvmem mheld mnoted mlic ?_ | with_reducible refine runNeeds_frame _ _ _ mdrawn mmod mpwr mvrc mrot mcys mclk mtim mbanks mchans mxn mrecd mkiln mtwl mlnc mbrg mbw mints mmems mcores mvmem mheld mnoted mlic ?_ _ ‹_› | with_reducible refine fetchAll_frame _ _ mcores mlic ?_ | with_reducible refine runActs_frame _ _ _ mdrawn mmod mpwr mvrc mrot mcys mclk mtim mbanks mchans mxn mrecd mkiln mtwl mlnc mbrg mbw mints mcores mvmem mheld mnoted mlic ?_
    | split
    | dsimp only

theorem readReg_frame {P : List Part} {t₀ : State} (k : Fin 8) (d : Fin 32) (a : Nat) (s : State) (mdrawn : Part.drawn ∈ P) (mmod : Part.mod ∈ P) (mpwr : Part.pwr ∈ P) (mvrc : Part.vrc ∈ P) (mrot : Part.rot ∈ P) (mcys : Part.cys ∈ P) (mclk : Part.clk ∈ P) (mtim : Part.tim ∈ P) (mbanks : Part.banks ∈ P) (mchans : Part.chans ∈ P) (mxn : Part.xn ∈ P) (mrecd : Part.recd ∈ P) (mkiln : Part.kiln ∈ P) (mtwl : Part.twl ∈ P) (mlnc : Part.lnc ∈ P) (mbrg : Part.brg ∈ P) (mbw : Part.bw ∈ P) (mints : Part.ints ∈ P) (mmems : Part.mems ∈ P) (mcores : Part.cores ∈ P) (mvmem : Part.vmem ∈ P) (mheld : Part.held ∈ P) (mnoted : Part.noted ∈ P) (mlic : Part.lic ∈ P) (h₀ : SameBut P t₀ s) :
    SameBut P t₀ (readReg k d a s) := by
  unfold readReg
  repeat' first
    | with_reducible assumption
    | (rename_i hq; have hq2 := congrArg Prod.snd hq; with_reducible dsimp only at hq2; subst hq2)
    | simp only [↓fr_mk_iff, true_or, or_true, mdrawn, mmod, mpwr, mvrc, mrot, mcys, mclk, mtim, mbanks, mchans, mxn, mrecd, mkiln, mtwl, mlnc, mbrg, mbw, mints, mmems, mcores, mvmem, mheld, mnoted, mlic]
    | with_reducible refine fr_ite ?_ ?_
    | with_reducible refine outFr_ite ?_ ?_
    | with_reducible refine outFr_next.2 ?_
    | with_reducible refine fr_ite2 ?_ ?_
    | with_reducible refine fr_foldl ?_ (fun _ _ _ => ?_)
    | with_reducible refine runInstr_frame _ _ _ mdrawn mmod mpwr mvrc mrot mcys mclk mtim mbanks mchans mxn mrecd mkiln mtwl mlnc mbrg mbw mints mmems mcores mvmem mheld mnoted mlic ?_
    | split
    | dsimp only

theorem writeReg_frame {P : List Part} {t₀ : State} (k : Fin 8) (a : Nat) (v : Reg32) (s : State) (mdrawn : Part.drawn ∈ P) (mmod : Part.mod ∈ P) (mpwr : Part.pwr ∈ P) (mvrc : Part.vrc ∈ P) (mrot : Part.rot ∈ P) (mcys : Part.cys ∈ P) (mclk : Part.clk ∈ P) (mtim : Part.tim ∈ P) (mbanks : Part.banks ∈ P) (mchans : Part.chans ∈ P) (mxn : Part.xn ∈ P) (mrecd : Part.recd ∈ P) (mkiln : Part.kiln ∈ P) (mtwl : Part.twl ∈ P) (mlnc : Part.lnc ∈ P) (mbrg : Part.brg ∈ P) (mbw : Part.bw ∈ P) (mints : Part.ints ∈ P) (mmems : Part.mems ∈ P) (mcores : Part.cores ∈ P) (mvmem : Part.vmem ∈ P) (mheld : Part.held ∈ P) (mnoted : Part.noted ∈ P) (mlic : Part.lic ∈ P) (h₀ : SameBut P t₀ s) :
    SameBut P t₀ (writeReg k a v s) := by
  unfold writeReg
  repeat' first
    | with_reducible assumption
    | (rename_i hq; have hq2 := congrArg Prod.snd hq; with_reducible dsimp only at hq2; subst hq2)
    | simp only [↓fr_mk_iff, true_or, or_true, mdrawn, mmod, mpwr, mvrc, mrot, mcys, mclk, mtim, mbanks, mchans, mxn, mrecd, mkiln, mtwl, mlnc, mbrg, mbw, mints, mmems, mcores, mvmem, mheld, mnoted, mlic]
    | with_reducible refine fr_ite ?_ ?_
    | with_reducible refine outFr_ite ?_ ?_
    | with_reducible refine outFr_next.2 ?_
    | with_reducible refine fr_ite2 ?_ ?_
    | with_reducible refine fr_foldl ?_ (fun _ _ _ => ?_)
    | with_reducible refine runInstr_frame _ _ _ mdrawn mmod mpwr mvrc mrot mcys mclk mtim mbanks mchans mxn mrecd mkiln mtwl mlnc mbrg mbw mints mmems mcores mvmem mheld mnoted mlic ?_
    | split
    | dsimp only

theorem execSave_frame {P : List Part} {t₀ : State} (s : State) (mcys : Part.cys ∈ P) (h₀ : SameBut P t₀ s) :
    SameBut P t₀ (execSave s) := by
  unfold execSave
  repeat' first
    | with_reducible assumption
    | (rename_i hq; have hq2 := congrArg Prod.snd hq; with_reducible dsimp only at hq2; subst hq2)
    | simp only [↓fr_mk_iff, true_or, or_true, mcys]
    | with_reducible refine fr_ite ?_ ?_
    | with_reducible refine outFr_ite ?_ ?_
    | with_reducible refine outFr_next.2 ?_
    | with_reducible refine fr_ite2 ?_ ?_
    | with_reducible refine fr_foldl ?_ (fun _ _ _ => ?_)
    | split
    | dsimp only

theorem execWait_frame {P : List Part} {t₀ : State} (s : State) (mcores : Part.cores ∈ P) (mlic : Part.lic ∈ P) (h₀ : SameBut P t₀ s) :
    SameBut P t₀ (execWait s) := by
  unfold execWait
  repeat' first
    | with_reducible assumption
    | (rename_i hq; have hq2 := congrArg Prod.snd hq; with_reducible dsimp only at hq2; subst hq2)
    | simp only [↓fr_mk_iff, true_or, or_true, mcores, mlic]
    | with_reducible refine fr_ite ?_ ?_
    | with_reducible refine outFr_ite ?_ ?_
    | with_reducible refine outFr_next.2 ?_
    | with_reducible refine fr_ite2 ?_ ?_
    | with_reducible refine fr_foldl ?_ (fun _ _ _ => ?_)
    | with_reducible refine mirrorShadow_frame _ mcores mlic ?_ | with_reducible refine mapCores_frame _ _ _ mcores mlic ?_
    | split
    | dsimp only

theorem execEnter_frame {P : List Part} {t₀ : State} (n : Fin 9) (s : State) (mcys : Part.cys ∈ P) (mcores : Part.cores ∈ P) (mlic : Part.lic ∈ P) (h₀ : SameBut P t₀ s) :
    SameBut P t₀ (execEnter n s) := by
  unfold execEnter
  repeat' first
    | with_reducible assumption
    | (rename_i hq; have hq2 := congrArg Prod.snd hq; with_reducible dsimp only at hq2; subst hq2)
    | simp only [↓fr_mk_iff, true_or, or_true, mcys, mcores, mlic]
    | with_reducible refine fr_ite ?_ ?_
    | with_reducible refine outFr_ite ?_ ?_
    | with_reducible refine outFr_next.2 ?_
    | with_reducible refine fr_ite2 ?_ ?_
    | with_reducible refine fr_foldl ?_ (fun _ _ _ => ?_)
    | with_reducible refine mirrorShadow_frame _ mcores mlic ?_ | with_reducible refine mapCores_frame _ _ _ mcores mlic ?_
    | split
    | dsimp only

theorem execDispatch_frame {P : List Part} {t₀ : State} (s : State) (mcys : Part.cys ∈ P) (mcores : Part.cores ∈ P) (mlic : Part.lic ∈ P) (h₀ : SameBut P t₀ s) :
    SameBut P t₀ (execDispatch s) := by
  unfold execDispatch
  repeat' first
    | with_reducible assumption
    | (rename_i hq; have hq2 := congrArg Prod.snd hq; with_reducible dsimp only at hq2; subst hq2)
    | simp only [↓fr_mk_iff, true_or, or_true, mcys, mcores, mlic]
    | with_reducible refine fr_ite ?_ ?_
    | with_reducible refine outFr_ite ?_ ?_
    | with_reducible refine outFr_next.2 ?_
    | with_reducible refine fr_ite2 ?_ ?_
    | with_reducible refine fr_foldl ?_ (fun _ _ _ => ?_)
    | with_reducible refine execSave_frame _ mcys ?_ | with_reducible refine execEnter_frame _ _ mcys mcores mlic ?_ | with_reducible refine execWait_frame _ mcores mlic ?_
    | split
    | dsimp only

theorem execDrop_frame {P : List Part} {t₀ : State} (n : Fin 9) (s : State) (mcys : Part.cys ∈ P) (h₀ : SameBut P t₀ s) :
    SameBut P t₀ (execDrop n s) := by
  unfold execDrop
  repeat' first
    | with_reducible assumption
    | (rename_i hq; have hq2 := congrArg Prod.snd hq; with_reducible dsimp only at hq2; subst hq2)
    | simp only [↓fr_mk_iff, true_or, or_true, mcys]
    | with_reducible refine fr_ite ?_ ?_
    | with_reducible refine outFr_ite ?_ ?_
    | with_reducible refine outFr_next.2 ?_
    | with_reducible refine fr_ite2 ?_ ?_
    | with_reducible refine fr_foldl ?_ (fun _ _ _ => ?_)
    | split
    | dsimp only

theorem bgEnd_frame {P : List Part} {t₀ : State} (s : State) (mcys : Part.cys ∈ P) (mcores : Part.cores ∈ P) (mlic : Part.lic ∈ P) (h₀ : SameBut P t₀ s) :
    SameBut P t₀ (bgEnd s) := by
  unfold bgEnd
  repeat' first
    | with_reducible assumption
    | (rename_i hq; have hq2 := congrArg Prod.snd hq; with_reducible dsimp only at hq2; subst hq2)
    | simp only [↓fr_mk_iff, true_or, or_true, mcys, mcores, mlic]
    | with_reducible refine fr_ite ?_ ?_
    | with_reducible refine outFr_ite ?_ ?_
    | with_reducible refine outFr_next.2 ?_
    | with_reducible refine fr_ite2 ?_ ?_
    | with_reducible refine fr_foldl ?_ (fun _ _ _ => ?_)
    | with_reducible refine execDispatch_frame _ mcys mcores mlic ?_ | with_reducible refine execDrop_frame _ _ mcys ?_
    | split
    | dsimp only

theorem taskEnd_frame {P : List Part} {t₀ : State} (n : Fin 8) (s : State) (mcys : Part.cys ∈ P) (mbanks : Part.banks ∈ P) (mrecd : Part.recd ∈ P) (mtwl : Part.twl ∈ P) (mints : Part.ints ∈ P) (mcores : Part.cores ∈ P) (mheld : Part.held ∈ P) (mnoted : Part.noted ∈ P) (mlic : Part.lic ∈ P) (h₀ : SameBut P t₀ s) :
    SameBut P t₀ (taskEnd n s) := by
  unfold taskEnd
  repeat' first
    | with_reducible assumption
    | (rename_i hq; have hq2 := congrArg Prod.snd hq; with_reducible dsimp only at hq2; subst hq2)
    | simp only [↓fr_mk_iff, true_or, or_true, mcys, mbanks, mrecd, mtwl, mints, mcores, mheld, mnoted, mlic]
    | with_reducible refine fr_ite ?_ ?_
    | with_reducible refine outFr_ite ?_ ?_
    | with_reducible refine outFr_next.2 ?_
    | with_reducible refine fr_ite2 ?_ ?_
    | with_reducible refine fr_foldl ?_ (fun _ _ _ => ?_)
    | with_reducible refine closeCycle_frame _ _ _ mcys mbanks mrecd mtwl mints mheld mnoted mlic ?_ | with_reducible refine setTask_frame _ _ _ mcys ?_ | with_reducible refine execDispatch_frame _ mcys mcores mlic ?_ | with_reducible refine execDrop_frame _ _ mcys ?_
    | split
    | dsimp only

theorem currentEnd_frame {P : List Part} {t₀ : State} (n : Fin 9) (s : State) (mcys : Part.cys ∈ P) (mbanks : Part.banks ∈ P) (mrecd : Part.recd ∈ P) (mtwl : Part.twl ∈ P) (mints : Part.ints ∈ P) (mcores : Part.cores ∈ P) (mheld : Part.held ∈ P) (mnoted : Part.noted ∈ P) (mlic : Part.lic ∈ P) (h₀ : SameBut P t₀ s) :
    SameBut P t₀ (currentEnd n s) := by
  unfold currentEnd
  repeat' first
    | with_reducible assumption
    | (rename_i hq; have hq2 := congrArg Prod.snd hq; with_reducible dsimp only at hq2; subst hq2)
    | simp only [↓fr_mk_iff, true_or, or_true, mcys, mbanks, mrecd, mtwl, mints, mcores, mheld, mnoted, mlic]
    | with_reducible refine fr_ite ?_ ?_
    | with_reducible refine outFr_ite ?_ ?_
    | with_reducible refine outFr_next.2 ?_
    | with_reducible refine fr_ite2 ?_ ?_
    | with_reducible refine fr_foldl ?_ (fun _ _ _ => ?_)
    | with_reducible refine taskEnd_frame _ _ mcys mbanks mrecd mtwl mints mcores mheld mnoted mlic ?_ | with_reducible refine bgEnd_frame _ mcys mcores mlic ?_
    | split
    | dsimp only

theorem appFault_frame {P : List Part} {t₀ : State} (s : State) (mcys : Part.cys ∈ P) (mbanks : Part.banks ∈ P) (mrecd : Part.recd ∈ P) (mtwl : Part.twl ∈ P) (mints : Part.ints ∈ P) (mcores : Part.cores ∈ P) (mheld : Part.held ∈ P) (mnoted : Part.noted ∈ P) (mlic : Part.lic ∈ P) (h₀ : SameBut P t₀ s) :
    SameBut P t₀ (appFault s) := by
  unfold appFault
  repeat' first
    | with_reducible assumption
    | (rename_i hq; have hq2 := congrArg Prod.snd hq; with_reducible dsimp only at hq2; subst hq2)
    | simp only [↓fr_mk_iff, true_or, or_true, mcys, mbanks, mrecd, mtwl, mints, mcores, mheld, mnoted, mlic]
    | with_reducible refine fr_ite ?_ ?_
    | with_reducible refine outFr_ite ?_ ?_
    | with_reducible refine outFr_next.2 ?_
    | with_reducible refine fr_ite2 ?_ ?_
    | with_reducible refine fr_foldl ?_ (fun _ _ _ => ?_)
    | with_reducible refine currentEnd_frame _ _ mcys mbanks mrecd mtwl mints mcores mheld mnoted mlic ?_ | with_reducible refine record_frame _ _ _ _ _ _ mrecd mnoted ?_
    | split
    | dsimp only

theorem runTask_frame {P : List Part} {t₀ : State} (k : Fin 8) (act : State → Fin 8 → Act) (s : State) (mdrawn : Part.drawn ∈ P) (mmod : Part.mod ∈ P) (mpwr : Part.pwr ∈ P) (mvrc : Part.vrc ∈ P) (mrot : Part.rot ∈ P) (mcys : Part.cys ∈ P) (mclk : Part.clk ∈ P) (mtim : Part.tim ∈ P) (mbanks : Part.banks ∈ P) (mchans : Part.chans ∈ P) (mxn : Part.xn ∈ P) (mrecd : Part.recd ∈ P) (mkiln : Part.kiln ∈ P) (mtwl : Part.twl ∈ P) (mlnc : Part.lnc ∈ P) (mbrg : Part.brg ∈ P) (mbw : Part.bw ∈ P) (mints : Part.ints ∈ P) (mmems : Part.mems ∈ P) (mcores : Part.cores ∈ P) (mvmem : Part.vmem ∈ P) (mheld : Part.held ∈ P) (mnoted : Part.noted ∈ P) (mlic : Part.lic ∈ P) (h₀ : SameBut P t₀ s) :
    SameBut P t₀ (runTask k act s) := by
  unfold runTask
  repeat' first
    | with_reducible assumption
    | (rename_i hq; have hq2 := congrArg Prod.snd hq; with_reducible dsimp only at hq2; subst hq2)
    | simp only [↓fr_mk_iff, true_or, or_true, mdrawn, mmod, mpwr, mvrc, mrot, mcys, mclk, mtim, mbanks, mchans, mxn, mrecd, mkiln, mtwl, mlnc, mbrg, mbw, mints, mmems, mcores, mvmem, mheld, mnoted, mlic]
    | with_reducible refine fr_ite ?_ ?_
    | with_reducible refine outFr_ite ?_ ?_
    | with_reducible refine outFr_next.2 ?_
    | with_reducible refine fr_ite2 ?_ ?_
    | with_reducible refine fr_foldl ?_ (fun _ _ _ => ?_)
    | with_reducible refine appFault_frame _ mcys mbanks mrecd mtwl mints mcores mheld mnoted mlic ?_ | with_reducible refine runInstr_frame _ _ _ mdrawn mmod mpwr mvrc mrot mcys mclk mtim mbanks mchans mxn mrecd mkiln mtwl mlnc mbrg mbw mints mmems mcores mvmem mheld mnoted mlic ?_
    | split
    | dsimp only

theorem sysReturn_frame {P : List Part} {t₀ : State} (rs : List Nat) (s : State) (mcores : Part.cores ∈ P) (mlic : Part.lic ∈ P) (h₀ : SameBut P t₀ s) :
    SameBut P t₀ (sysReturn rs s) := by
  unfold sysReturn
  repeat' first
    | with_reducible assumption
    | (rename_i hq; have hq2 := congrArg Prod.snd hq; with_reducible dsimp only at hq2; subst hq2)
    | simp only [↓fr_mk_iff, true_or, or_true, mcores, mlic]
    | with_reducible refine fr_ite ?_ ?_
    | with_reducible refine outFr_ite ?_ ?_
    | with_reducible refine outFr_next.2 ?_
    | with_reducible refine fr_ite2 ?_ ?_
    | with_reducible refine fr_foldl ?_ (fun _ _ _ => ?_)
    | with_reducible refine mirrorShadow_frame _ mcores mlic ?_ | with_reducible refine mapCores_frame _ _ _ mcores mlic ?_
    | split
    | dsimp only

theorem openRegions_frame {P : List Part} {t₀ : State} (ls : List (Fin 4)) (s : State) (mcores : Part.cores ∈ P) (mlic : Part.lic ∈ P) (h₀ : SameBut P t₀ s) :
    SameBut P t₀ (openRegions ls s) := by
  unfold openRegions
  repeat' first
    | with_reducible assumption
    | (rename_i hq; have hq2 := congrArg Prod.snd hq; with_reducible dsimp only at hq2; subst hq2)
    | simp only [↓fr_mk_iff, true_or, or_true, mcores, mlic]
    | with_reducible refine fr_ite ?_ ?_
    | with_reducible refine outFr_ite ?_ ?_
    | with_reducible refine outFr_next.2 ?_
    | with_reducible refine fr_ite2 ?_ ?_
    | with_reducible refine fr_foldl ?_ (fun _ _ _ => ?_)
    | split
    | dsimp only

end Sys2Proof.Machine
end

