-- ==== Sys2Proof/Laws/Frames4.lean ====
section
/-! SUPPORT. For every operation and every meaning: only the named parts differ after it. -/

set_option linter.all false

namespace Sys2Proof.Machine

open Sys2Proof

theorem execOprAlu_frame {P : List Part} {t₀ : State} (core : Fin 8) (op : AluOp) (d a b : Fin 32) (s : State) (mdrawn : Part.drawn ∈ P) (mmod : Part.mod ∈ P) (mpwr : Part.pwr ∈ P) (mvrc : Part.vrc ∈ P) (mrot : Part.rot ∈ P) (mcys : Part.cys ∈ P) (mclk : Part.clk ∈ P) (mtim : Part.tim ∈ P) (mbanks : Part.banks ∈ P) (mchans : Part.chans ∈ P) (mxn : Part.xn ∈ P) (mrecd : Part.recd ∈ P) (mkiln : Part.kiln ∈ P) (mtwl : Part.twl ∈ P) (mlnc : Part.lnc ∈ P) (mbrg : Part.brg ∈ P) (mbw : Part.bw ∈ P) (mints : Part.ints ∈ P) (mmems : Part.mems ∈ P) (mcores : Part.cores ∈ P) (mvmem : Part.vmem ∈ P) (mheld : Part.held ∈ P) (mnoted : Part.noted ∈ P) (mlic : Part.lic ∈ P) (h₀ : SameBut P t₀ s) :
    OutFr P t₀ (execOprAlu core op d a b s) := by
  unfold execOprAlu
  repeat' first
    | with_reducible assumption
    | (rename_i hq; have hq2 := congrArg Prod.snd hq; with_reducible dsimp only at hq2; subst hq2)
    | simp only [↓fr_mk_iff, true_or, or_true, mdrawn, mmod, mpwr, mvrc, mrot, mcys, mclk, mtim, mbanks, mchans, mxn, mrecd, mkiln, mtwl, mlnc, mbrg, mbw, mints, mmems, mcores, mvmem, mheld, mnoted, mlic]
    | with_reducible refine fr_ite ?_ ?_
    | with_reducible refine outFr_ite ?_ ?_
    | with_reducible refine outFr_next.2 ?_
    | with_reducible refine fr_ite2 ?_ ?_
    | with_reducible refine fr_foldl ?_ (fun _ _ _ => ?_)
    | with_reducible refine runTask_frame _ _ _ mdrawn mmod mpwr mvrc mrot mcys mclk mtim mbanks mchans mxn mrecd mkiln mtwl mlnc mbrg mbw mints mmems mcores mvmem mheld mnoted mlic ?_
    | split
    | dsimp only

theorem execOprwWordOp_frame {P : List Part} {t₀ : State} (core : Fin 8) (op : AluwOp) (d a b : Fin 32) (s : State) (mdrawn : Part.drawn ∈ P) (mmod : Part.mod ∈ P) (mpwr : Part.pwr ∈ P) (mvrc : Part.vrc ∈ P) (mrot : Part.rot ∈ P) (mcys : Part.cys ∈ P) (mclk : Part.clk ∈ P) (mtim : Part.tim ∈ P) (mbanks : Part.banks ∈ P) (mchans : Part.chans ∈ P) (mxn : Part.xn ∈ P) (mrecd : Part.recd ∈ P) (mkiln : Part.kiln ∈ P) (mtwl : Part.twl ∈ P) (mlnc : Part.lnc ∈ P) (mbrg : Part.brg ∈ P) (mbw : Part.bw ∈ P) (mints : Part.ints ∈ P) (mmems : Part.mems ∈ P) (mcores : Part.cores ∈ P) (mvmem : Part.vmem ∈ P) (mheld : Part.held ∈ P) (mnoted : Part.noted ∈ P) (mlic : Part.lic ∈ P) (h₀ : SameBut P t₀ s) :
    OutFr P t₀ (execOprwWordOp core op d a b s) := by
  unfold execOprwWordOp
  repeat' first
    | with_reducible assumption
    | (rename_i hq; have hq2 := congrArg Prod.snd hq; with_reducible dsimp only at hq2; subst hq2)
    | simp only [↓fr_mk_iff, true_or, or_true, mdrawn, mmod, mpwr, mvrc, mrot, mcys, mclk, mtim, mbanks, mchans, mxn, mrecd, mkiln, mtwl, mlnc, mbrg, mbw, mints, mmems, mcores, mvmem, mheld, mnoted, mlic]
    | with_reducible refine fr_ite ?_ ?_
    | with_reducible refine outFr_ite ?_ ?_
    | with_reducible refine outFr_next.2 ?_
    | with_reducible refine fr_ite2 ?_ ?_
    | with_reducible refine fr_foldl ?_ (fun _ _ _ => ?_)
    | with_reducible refine runTask_frame _ _ _ mdrawn mmod mpwr mvrc mrot mcys mclk mtim mbanks mchans mxn mrecd mkiln mtwl mlnc mbrg mbw mints mmems mcores mvmem mheld mnoted mlic ?_
    | split
    | dsimp only

theorem execMultiply_frame {P : List Part} {t₀ : State} (core : Fin 8) (op : MulOp) (d a b : Fin 32) (s : State) (mdrawn : Part.drawn ∈ P) (mmod : Part.mod ∈ P) (mpwr : Part.pwr ∈ P) (mvrc : Part.vrc ∈ P) (mrot : Part.rot ∈ P) (mcys : Part.cys ∈ P) (mclk : Part.clk ∈ P) (mtim : Part.tim ∈ P) (mbanks : Part.banks ∈ P) (mchans : Part.chans ∈ P) (mxn : Part.xn ∈ P) (mrecd : Part.recd ∈ P) (mkiln : Part.kiln ∈ P) (mtwl : Part.twl ∈ P) (mlnc : Part.lnc ∈ P) (mbrg : Part.brg ∈ P) (mbw : Part.bw ∈ P) (mints : Part.ints ∈ P) (mmems : Part.mems ∈ P) (mcores : Part.cores ∈ P) (mvmem : Part.vmem ∈ P) (mheld : Part.held ∈ P) (mnoted : Part.noted ∈ P) (mlic : Part.lic ∈ P) (h₀ : SameBut P t₀ s) :
    OutFr P t₀ (execMultiply core op d a b s) := by
  unfold execMultiply
  repeat' first
    | with_reducible assumption
    | (rename_i hq; have hq2 := congrArg Prod.snd hq; with_reducible dsimp only at hq2; subst hq2)
    | simp only [↓fr_mk_iff, true_or, or_true, mdrawn, mmod, mpwr, mvrc, mrot, mcys, mclk, mtim, mbanks, mchans, mxn, mrecd, mkiln, mtwl, mlnc, mbrg, mbw, mints, mmems, mcores, mvmem, mheld, mnoted, mlic]
    | with_reducible refine fr_ite ?_ ?_
    | with_reducible refine outFr_ite ?_ ?_
    | with_reducible refine outFr_next.2 ?_
    | with_reducible refine fr_ite2 ?_ ?_
    | with_reducible refine fr_foldl ?_ (fun _ _ _ => ?_)
    | with_reducible refine runTask_frame _ _ _ mdrawn mmod mpwr mvrc mrot mcys mclk mtim mbanks mchans mxn mrecd mkiln mtwl mlnc mbrg mbw mints mmems mcores mvmem mheld mnoted mlic ?_
    | split
    | dsimp only

theorem execDivide_frame {P : List Part} {t₀ : State} (core : Fin 8) (op : DivOp) (d a b : Fin 32) (s : State) (mdrawn : Part.drawn ∈ P) (mmod : Part.mod ∈ P) (mpwr : Part.pwr ∈ P) (mvrc : Part.vrc ∈ P) (mrot : Part.rot ∈ P) (mcys : Part.cys ∈ P) (mclk : Part.clk ∈ P) (mtim : Part.tim ∈ P) (mbanks : Part.banks ∈ P) (mchans : Part.chans ∈ P) (mxn : Part.xn ∈ P) (mrecd : Part.recd ∈ P) (mkiln : Part.kiln ∈ P) (mtwl : Part.twl ∈ P) (mlnc : Part.lnc ∈ P) (mbrg : Part.brg ∈ P) (mbw : Part.bw ∈ P) (mints : Part.ints ∈ P) (mmems : Part.mems ∈ P) (mcores : Part.cores ∈ P) (mvmem : Part.vmem ∈ P) (mheld : Part.held ∈ P) (mnoted : Part.noted ∈ P) (mlic : Part.lic ∈ P) (h₀ : SameBut P t₀ s) :
    OutFr P t₀ (execDivide core op d a b s) := by
  unfold execDivide
  repeat' first
    | with_reducible assumption
    | (rename_i hq; have hq2 := congrArg Prod.snd hq; with_reducible dsimp only at hq2; subst hq2)
    | simp only [↓fr_mk_iff, true_or, or_true, mdrawn, mmod, mpwr, mvrc, mrot, mcys, mclk, mtim, mbanks, mchans, mxn, mrecd, mkiln, mtwl, mlnc, mbrg, mbw, mints, mmems, mcores, mvmem, mheld, mnoted, mlic]
    | with_reducible refine fr_ite ?_ ?_
    | with_reducible refine outFr_ite ?_ ?_
    | with_reducible refine outFr_next.2 ?_
    | with_reducible refine fr_ite2 ?_ ?_
    | with_reducible refine fr_foldl ?_ (fun _ _ _ => ?_)
    | with_reducible refine runTask_frame _ _ _ mdrawn mmod mpwr mvrc mrot mcys mclk mtim mbanks mchans mxn mrecd mkiln mtwl mlnc mbrg mbw mints mmems mcores mvmem mheld mnoted mlic ?_
    | split
    | dsimp only

theorem execBitop_frame {P : List Part} {t₀ : State} (core : Fin 8) (op : BitOp) (d a b : Fin 32) (s : State) (mdrawn : Part.drawn ∈ P) (mmod : Part.mod ∈ P) (mpwr : Part.pwr ∈ P) (mvrc : Part.vrc ∈ P) (mrot : Part.rot ∈ P) (mcys : Part.cys ∈ P) (mclk : Part.clk ∈ P) (mtim : Part.tim ∈ P) (mbanks : Part.banks ∈ P) (mchans : Part.chans ∈ P) (mxn : Part.xn ∈ P) (mrecd : Part.recd ∈ P) (mkiln : Part.kiln ∈ P) (mtwl : Part.twl ∈ P) (mlnc : Part.lnc ∈ P) (mbrg : Part.brg ∈ P) (mbw : Part.bw ∈ P) (mints : Part.ints ∈ P) (mmems : Part.mems ∈ P) (mcores : Part.cores ∈ P) (mvmem : Part.vmem ∈ P) (mheld : Part.held ∈ P) (mnoted : Part.noted ∈ P) (mlic : Part.lic ∈ P) (h₀ : SameBut P t₀ s) :
    OutFr P t₀ (execBitop core op d a b s) := by
  unfold execBitop
  repeat' first
    | with_reducible assumption
    | (rename_i hq; have hq2 := congrArg Prod.snd hq; with_reducible dsimp only at hq2; subst hq2)
    | simp only [↓fr_mk_iff, true_or, or_true, mdrawn, mmod, mpwr, mvrc, mrot, mcys, mclk, mtim, mbanks, mchans, mxn, mrecd, mkiln, mtwl, mlnc, mbrg, mbw, mints, mmems, mcores, mvmem, mheld, mnoted, mlic]
    | with_reducible refine fr_ite ?_ ?_
    | with_reducible refine outFr_ite ?_ ?_
    | with_reducible refine outFr_next.2 ?_
    | with_reducible refine fr_ite2 ?_ ?_
    | with_reducible refine fr_foldl ?_ (fun _ _ _ => ?_)
    | with_reducible refine runTask_frame _ _ _ mdrawn mmod mpwr mvrc mrot mcys mclk mtim mbanks mchans mxn mrecd mkiln mtwl mlnc mbrg mbw mints mmems mcores mvmem mheld mnoted mlic ?_
    | split
    | dsimp only

theorem execAluImmediate_frame {P : List Part} {t₀ : State} (core : Fin 8) (op : ImmOp) (d a : Fin 32) (imm : BitVec 16) (s : State) (mdrawn : Part.drawn ∈ P) (mmod : Part.mod ∈ P) (mpwr : Part.pwr ∈ P) (mvrc : Part.vrc ∈ P) (mrot : Part.rot ∈ P) (mcys : Part.cys ∈ P) (mclk : Part.clk ∈ P) (mtim : Part.tim ∈ P) (mbanks : Part.banks ∈ P) (mchans : Part.chans ∈ P) (mxn : Part.xn ∈ P) (mrecd : Part.recd ∈ P) (mkiln : Part.kiln ∈ P) (mtwl : Part.twl ∈ P) (mlnc : Part.lnc ∈ P) (mbrg : Part.brg ∈ P) (mbw : Part.bw ∈ P) (mints : Part.ints ∈ P) (mmems : Part.mems ∈ P) (mcores : Part.cores ∈ P) (mvmem : Part.vmem ∈ P) (mheld : Part.held ∈ P) (mnoted : Part.noted ∈ P) (mlic : Part.lic ∈ P) (h₀ : SameBut P t₀ s) :
    OutFr P t₀ (execAluImmediate core op d a imm s) := by
  unfold execAluImmediate
  repeat' first
    | with_reducible assumption
    | (rename_i hq; have hq2 := congrArg Prod.snd hq; with_reducible dsimp only at hq2; subst hq2)
    | simp only [↓fr_mk_iff, true_or, or_true, mdrawn, mmod, mpwr, mvrc, mrot, mcys, mclk, mtim, mbanks, mchans, mxn, mrecd, mkiln, mtwl, mlnc, mbrg, mbw, mints, mmems, mcores, mvmem, mheld, mnoted, mlic]
    | with_reducible refine fr_ite ?_ ?_
    | with_reducible refine outFr_ite ?_ ?_
    | with_reducible refine outFr_next.2 ?_
    | with_reducible refine fr_ite2 ?_ ?_
    | with_reducible refine fr_foldl ?_ (fun _ _ _ => ?_)
    | with_reducible refine runTask_frame _ _ _ mdrawn mmod mpwr mvrc mrot mcys mclk mtim mbanks mchans mxn mrecd mkiln mtwl mlnc mbrg mbw mints mmems mcores mvmem mheld mnoted mlic ?_
    | split
    | dsimp only

theorem execShiftImmediate_frame {P : List Part} {t₀ : State} (core : Fin 8) (op : ShiftOp) (word : Bool) (d a : Fin 32) (shamt : BitVec 6) (s : State) (mdrawn : Part.drawn ∈ P) (mmod : Part.mod ∈ P) (mpwr : Part.pwr ∈ P) (mvrc : Part.vrc ∈ P) (mrot : Part.rot ∈ P) (mcys : Part.cys ∈ P) (mclk : Part.clk ∈ P) (mtim : Part.tim ∈ P) (mbanks : Part.banks ∈ P) (mchans : Part.chans ∈ P) (mxn : Part.xn ∈ P) (mrecd : Part.recd ∈ P) (mkiln : Part.kiln ∈ P) (mtwl : Part.twl ∈ P) (mlnc : Part.lnc ∈ P) (mbrg : Part.brg ∈ P) (mbw : Part.bw ∈ P) (mints : Part.ints ∈ P) (mmems : Part.mems ∈ P) (mcores : Part.cores ∈ P) (mvmem : Part.vmem ∈ P) (mheld : Part.held ∈ P) (mnoted : Part.noted ∈ P) (mlic : Part.lic ∈ P) (h₀ : SameBut P t₀ s) :
    OutFr P t₀ (execShiftImmediate core op word d a shamt s) := by
  unfold execShiftImmediate
  repeat' first
    | with_reducible assumption
    | (rename_i hq; have hq2 := congrArg Prod.snd hq; with_reducible dsimp only at hq2; subst hq2)
    | simp only [↓fr_mk_iff, true_or, or_true, mdrawn, mmod, mpwr, mvrc, mrot, mcys, mclk, mtim, mbanks, mchans, mxn, mrecd, mkiln, mtwl, mlnc, mbrg, mbw, mints, mmems, mcores, mvmem, mheld, mnoted, mlic]
    | with_reducible refine fr_ite ?_ ?_
    | with_reducible refine outFr_ite ?_ ?_
    | with_reducible refine outFr_next.2 ?_
    | with_reducible refine fr_ite2 ?_ ?_
    | with_reducible refine fr_foldl ?_ (fun _ _ _ => ?_)
    | with_reducible refine runTask_frame _ _ _ mdrawn mmod mpwr mvrc mrot mcys mclk mtim mbanks mchans mxn mrecd mkiln mtwl mlnc mbrg mbw mints mmems mcores mvmem mheld mnoted mlic ?_
    | split
    | dsimp only

theorem execLui_frame {P : List Part} {t₀ : State} (core : Fin 8) (d : Fin 32) (imm : BitVec 16) (s : State) (mdrawn : Part.drawn ∈ P) (mmod : Part.mod ∈ P) (mpwr : Part.pwr ∈ P) (mvrc : Part.vrc ∈ P) (mrot : Part.rot ∈ P) (mcys : Part.cys ∈ P) (mclk : Part.clk ∈ P) (mtim : Part.tim ∈ P) (mbanks : Part.banks ∈ P) (mchans : Part.chans ∈ P) (mxn : Part.xn ∈ P) (mrecd : Part.recd ∈ P) (mkiln : Part.kiln ∈ P) (mtwl : Part.twl ∈ P) (mlnc : Part.lnc ∈ P) (mbrg : Part.brg ∈ P) (mbw : Part.bw ∈ P) (mints : Part.ints ∈ P) (mmems : Part.mems ∈ P) (mcores : Part.cores ∈ P) (mvmem : Part.vmem ∈ P) (mheld : Part.held ∈ P) (mnoted : Part.noted ∈ P) (mlic : Part.lic ∈ P) (h₀ : SameBut P t₀ s) :
    OutFr P t₀ (execLui core d imm s) := by
  unfold execLui
  repeat' first
    | with_reducible assumption
    | (rename_i hq; have hq2 := congrArg Prod.snd hq; with_reducible dsimp only at hq2; subst hq2)
    | simp only [↓fr_mk_iff, true_or, or_true, mdrawn, mmod, mpwr, mvrc, mrot, mcys, mclk, mtim, mbanks, mchans, mxn, mrecd, mkiln, mtwl, mlnc, mbrg, mbw, mints, mmems, mcores, mvmem, mheld, mnoted, mlic]
    | with_reducible refine fr_ite ?_ ?_
    | with_reducible refine outFr_ite ?_ ?_
    | with_reducible refine outFr_next.2 ?_
    | with_reducible refine fr_ite2 ?_ ?_
    | with_reducible refine fr_foldl ?_ (fun _ _ _ => ?_)
    | with_reducible refine runTask_frame _ _ _ mdrawn mmod mpwr mvrc mrot mcys mclk mtim mbanks mchans mxn mrecd mkiln mtwl mlnc mbrg mbw mints mmems mcores mvmem mheld mnoted mlic ?_
    | split
    | dsimp only

theorem execInsh_frame {P : List Part} {t₀ : State} (core : Fin 8) (d : Fin 32) (k : Fin 4) (imm : BitVec 16) (s : State) (mdrawn : Part.drawn ∈ P) (mmod : Part.mod ∈ P) (mpwr : Part.pwr ∈ P) (mvrc : Part.vrc ∈ P) (mrot : Part.rot ∈ P) (mcys : Part.cys ∈ P) (mclk : Part.clk ∈ P) (mtim : Part.tim ∈ P) (mbanks : Part.banks ∈ P) (mchans : Part.chans ∈ P) (mxn : Part.xn ∈ P) (mrecd : Part.recd ∈ P) (mkiln : Part.kiln ∈ P) (mtwl : Part.twl ∈ P) (mlnc : Part.lnc ∈ P) (mbrg : Part.brg ∈ P) (mbw : Part.bw ∈ P) (mints : Part.ints ∈ P) (mmems : Part.mems ∈ P) (mcores : Part.cores ∈ P) (mvmem : Part.vmem ∈ P) (mheld : Part.held ∈ P) (mnoted : Part.noted ∈ P) (mlic : Part.lic ∈ P) (h₀ : SameBut P t₀ s) :
    OutFr P t₀ (execInsh core d k imm s) := by
  unfold execInsh
  repeat' first
    | with_reducible assumption
    | (rename_i hq; have hq2 := congrArg Prod.snd hq; with_reducible dsimp only at hq2; subst hq2)
    | simp only [↓fr_mk_iff, true_or, or_true, mdrawn, mmod, mpwr, mvrc, mrot, mcys, mclk, mtim, mbanks, mchans, mxn, mrecd, mkiln, mtwl, mlnc, mbrg, mbw, mints, mmems, mcores, mvmem, mheld, mnoted, mlic]
    | with_reducible refine fr_ite ?_ ?_
    | with_reducible refine outFr_ite ?_ ?_
    | with_reducible refine outFr_next.2 ?_
    | with_reducible refine fr_ite2 ?_ ?_
    | with_reducible refine fr_foldl ?_ (fun _ _ _ => ?_)
    | with_reducible refine runTask_frame _ _ _ mdrawn mmod mpwr mvrc mrot mcys mclk mtim mbanks mchans mxn mrecd mkiln mtwl mlnc mbrg mbw mints mmems mcores mvmem mheld mnoted mlic ?_
    | split
    | dsimp only

theorem execLapc_frame {P : List Part} {t₀ : State} (core : Fin 8) (d : Fin 32) (imm : BitVec 16) (s : State) (mdrawn : Part.drawn ∈ P) (mmod : Part.mod ∈ P) (mpwr : Part.pwr ∈ P) (mvrc : Part.vrc ∈ P) (mrot : Part.rot ∈ P) (mcys : Part.cys ∈ P) (mclk : Part.clk ∈ P) (mtim : Part.tim ∈ P) (mbanks : Part.banks ∈ P) (mchans : Part.chans ∈ P) (mxn : Part.xn ∈ P) (mrecd : Part.recd ∈ P) (mkiln : Part.kiln ∈ P) (mtwl : Part.twl ∈ P) (mlnc : Part.lnc ∈ P) (mbrg : Part.brg ∈ P) (mbw : Part.bw ∈ P) (mints : Part.ints ∈ P) (mmems : Part.mems ∈ P) (mcores : Part.cores ∈ P) (mvmem : Part.vmem ∈ P) (mheld : Part.held ∈ P) (mnoted : Part.noted ∈ P) (mlic : Part.lic ∈ P) (h₀ : SameBut P t₀ s) :
    OutFr P t₀ (execLapc core d imm s) := by
  unfold execLapc
  repeat' first
    | with_reducible assumption
    | (rename_i hq; have hq2 := congrArg Prod.snd hq; with_reducible dsimp only at hq2; subst hq2)
    | simp only [↓fr_mk_iff, true_or, or_true, mdrawn, mmod, mpwr, mvrc, mrot, mcys, mclk, mtim, mbanks, mchans, mxn, mrecd, mkiln, mtwl, mlnc, mbrg, mbw, mints, mmems, mcores, mvmem, mheld, mnoted, mlic]
    | with_reducible refine fr_ite ?_ ?_
    | with_reducible refine outFr_ite ?_ ?_
    | with_reducible refine outFr_next.2 ?_
    | with_reducible refine fr_ite2 ?_ ?_
    | with_reducible refine fr_foldl ?_ (fun _ _ _ => ?_)
    | with_reducible refine runTask_frame _ _ _ mdrawn mmod mpwr mvrc mrot mcys mclk mtim mbanks mchans mxn mrecd mkiln mtwl mlnc mbrg mbw mints mmems mcores mvmem mheld mnoted mlic ?_
    | split
    | dsimp only

theorem execLoad_frame {P : List Part} {t₀ : State} (core : Fin 8) (op : LoadOp) (d a : Fin 32) (disp : BitVec 16) (s : State) (mdrawn : Part.drawn ∈ P) (mmod : Part.mod ∈ P) (mpwr : Part.pwr ∈ P) (mvrc : Part.vrc ∈ P) (mrot : Part.rot ∈ P) (mcys : Part.cys ∈ P) (mclk : Part.clk ∈ P) (mtim : Part.tim ∈ P) (mbanks : Part.banks ∈ P) (mchans : Part.chans ∈ P) (mxn : Part.xn ∈ P) (mrecd : Part.recd ∈ P) (mkiln : Part.kiln ∈ P) (mtwl : Part.twl ∈ P) (mlnc : Part.lnc ∈ P) (mbrg : Part.brg ∈ P) (mbw : Part.bw ∈ P) (mints : Part.ints ∈ P) (mmems : Part.mems ∈ P) (mcores : Part.cores ∈ P) (mvmem : Part.vmem ∈ P) (mheld : Part.held ∈ P) (mnoted : Part.noted ∈ P) (mlic : Part.lic ∈ P) (h₀ : SameBut P t₀ s) :
    OutFr P t₀ (execLoad core op d a disp s) := by
  unfold execLoad
  repeat' first
    | with_reducible assumption
    | (rename_i hq; have hq2 := congrArg Prod.snd hq; with_reducible dsimp only at hq2; subst hq2)
    | simp only [↓fr_mk_iff, true_or, or_true, mdrawn, mmod, mpwr, mvrc, mrot, mcys, mclk, mtim, mbanks, mchans, mxn, mrecd, mkiln, mtwl, mlnc, mbrg, mbw, mints, mmems, mcores, mvmem, mheld, mnoted, mlic]
    | with_reducible refine fr_ite ?_ ?_
    | with_reducible refine outFr_ite ?_ ?_
    | with_reducible refine outFr_next.2 ?_
    | with_reducible refine fr_ite2 ?_ ?_
    | with_reducible refine fr_foldl ?_ (fun _ _ _ => ?_)
    | with_reducible refine runTask_frame _ _ _ mdrawn mmod mpwr mvrc mrot mcys mclk mtim mbanks mchans mxn mrecd mkiln mtwl mlnc mbrg mbw mints mmems mcores mvmem mheld mnoted mlic ?_
    | split
    | dsimp only

theorem execStore_frame {P : List Part} {t₀ : State} (core : Fin 8) (op : StoreOp) (d a : Fin 32) (disp : BitVec 16) (s : State) (mdrawn : Part.drawn ∈ P) (mmod : Part.mod ∈ P) (mpwr : Part.pwr ∈ P) (mvrc : Part.vrc ∈ P) (mrot : Part.rot ∈ P) (mcys : Part.cys ∈ P) (mclk : Part.clk ∈ P) (mtim : Part.tim ∈ P) (mbanks : Part.banks ∈ P) (mchans : Part.chans ∈ P) (mxn : Part.xn ∈ P) (mrecd : Part.recd ∈ P) (mkiln : Part.kiln ∈ P) (mtwl : Part.twl ∈ P) (mlnc : Part.lnc ∈ P) (mbrg : Part.brg ∈ P) (mbw : Part.bw ∈ P) (mints : Part.ints ∈ P) (mmems : Part.mems ∈ P) (mcores : Part.cores ∈ P) (mvmem : Part.vmem ∈ P) (mheld : Part.held ∈ P) (mnoted : Part.noted ∈ P) (mlic : Part.lic ∈ P) (h₀ : SameBut P t₀ s) :
    OutFr P t₀ (execStore core op d a disp s) := by
  unfold execStore
  repeat' first
    | with_reducible assumption
    | (rename_i hq; have hq2 := congrArg Prod.snd hq; with_reducible dsimp only at hq2; subst hq2)
    | simp only [↓fr_mk_iff, true_or, or_true, mdrawn, mmod, mpwr, mvrc, mrot, mcys, mclk, mtim, mbanks, mchans, mxn, mrecd, mkiln, mtwl, mlnc, mbrg, mbw, mints, mmems, mcores, mvmem, mheld, mnoted, mlic]
    | with_reducible refine fr_ite ?_ ?_
    | with_reducible refine outFr_ite ?_ ?_
    | with_reducible refine outFr_next.2 ?_
    | with_reducible refine fr_ite2 ?_ ?_
    | with_reducible refine fr_foldl ?_ (fun _ _ _ => ?_)
    | with_reducible refine runTask_frame _ _ _ mdrawn mmod mpwr mvrc mrot mcys mclk mtim mbanks mchans mxn mrecd mkiln mtwl mlnc mbrg mbw mints mmems mcores mvmem mheld mnoted mlic ?_
    | split
    | dsimp only

theorem execLdx_frame {P : List Part} {t₀ : State} (core : Fin 8) (dbl : Bool) (d a : Fin 32) (s : State) (mdrawn : Part.drawn ∈ P) (mmod : Part.mod ∈ P) (mpwr : Part.pwr ∈ P) (mvrc : Part.vrc ∈ P) (mrot : Part.rot ∈ P) (mcys : Part.cys ∈ P) (mclk : Part.clk ∈ P) (mtim : Part.tim ∈ P) (mbanks : Part.banks ∈ P) (mchans : Part.chans ∈ P) (mxn : Part.xn ∈ P) (mrecd : Part.recd ∈ P) (mkiln : Part.kiln ∈ P) (mtwl : Part.twl ∈ P) (mlnc : Part.lnc ∈ P) (mbrg : Part.brg ∈ P) (mbw : Part.bw ∈ P) (mints : Part.ints ∈ P) (mmems : Part.mems ∈ P) (mcores : Part.cores ∈ P) (mvmem : Part.vmem ∈ P) (mheld : Part.held ∈ P) (mnoted : Part.noted ∈ P) (mlic : Part.lic ∈ P) (h₀ : SameBut P t₀ s) :
    OutFr P t₀ (execLdx core dbl d a s) := by
  unfold execLdx
  repeat' first
    | with_reducible assumption
    | (rename_i hq; have hq2 := congrArg Prod.snd hq; with_reducible dsimp only at hq2; subst hq2)
    | simp only [↓fr_mk_iff, true_or, or_true, mdrawn, mmod, mpwr, mvrc, mrot, mcys, mclk, mtim, mbanks, mchans, mxn, mrecd, mkiln, mtwl, mlnc, mbrg, mbw, mints, mmems, mcores, mvmem, mheld, mnoted, mlic]
    | with_reducible refine fr_ite ?_ ?_
    | with_reducible refine outFr_ite ?_ ?_
    | with_reducible refine outFr_next.2 ?_
    | with_reducible refine fr_ite2 ?_ ?_
    | with_reducible refine fr_foldl ?_ (fun _ _ _ => ?_)
    | with_reducible refine runTask_frame _ _ _ mdrawn mmod mpwr mvrc mrot mcys mclk mtim mbanks mchans mxn mrecd mkiln mtwl mlnc mbrg mbw mints mmems mcores mvmem mheld mnoted mlic ?_
    | split
    | dsimp only

theorem execStx_frame {P : List Part} {t₀ : State} (core : Fin 8) (dbl : Bool) (d a b : Fin 32) (s : State) (mdrawn : Part.drawn ∈ P) (mmod : Part.mod ∈ P) (mpwr : Part.pwr ∈ P) (mvrc : Part.vrc ∈ P) (mrot : Part.rot ∈ P) (mcys : Part.cys ∈ P) (mclk : Part.clk ∈ P) (mtim : Part.tim ∈ P) (mbanks : Part.banks ∈ P) (mchans : Part.chans ∈ P) (mxn : Part.xn ∈ P) (mrecd : Part.recd ∈ P) (mkiln : Part.kiln ∈ P) (mtwl : Part.twl ∈ P) (mlnc : Part.lnc ∈ P) (mbrg : Part.brg ∈ P) (mbw : Part.bw ∈ P) (mints : Part.ints ∈ P) (mmems : Part.mems ∈ P) (mcores : Part.cores ∈ P) (mvmem : Part.vmem ∈ P) (mheld : Part.held ∈ P) (mnoted : Part.noted ∈ P) (mlic : Part.lic ∈ P) (h₀ : SameBut P t₀ s) :
    OutFr P t₀ (execStx core dbl d a b s) := by
  unfold execStx
  repeat' first
    | with_reducible assumption
    | (rename_i hq; have hq2 := congrArg Prod.snd hq; with_reducible dsimp only at hq2; subst hq2)
    | simp only [↓fr_mk_iff, true_or, or_true, mdrawn, mmod, mpwr, mvrc, mrot, mcys, mclk, mtim, mbanks, mchans, mxn, mrecd, mkiln, mtwl, mlnc, mbrg, mbw, mints, mmems, mcores, mvmem, mheld, mnoted, mlic]
    | with_reducible refine fr_ite ?_ ?_
    | with_reducible refine outFr_ite ?_ ?_
    | with_reducible refine outFr_next.2 ?_
    | with_reducible refine fr_ite2 ?_ ?_
    | with_reducible refine fr_foldl ?_ (fun _ _ _ => ?_)
    | with_reducible refine runTask_frame _ _ _ mdrawn mmod mpwr mvrc mrot mcys mclk mtim mbanks mchans mxn mrecd mkiln mtwl mlnc mbrg mbw mints mmems mcores mvmem mheld mnoted mlic ?_
    | split
    | dsimp only

theorem execFpOperation_frame {P : List Part} {t₀ : State} (core : Fin 8) (op : FpOp) (dbl : Bool) (d a b : Fin 32) (s : State) (mdrawn : Part.drawn ∈ P) (mmod : Part.mod ∈ P) (mpwr : Part.pwr ∈ P) (mvrc : Part.vrc ∈ P) (mrot : Part.rot ∈ P) (mcys : Part.cys ∈ P) (mclk : Part.clk ∈ P) (mtim : Part.tim ∈ P) (mbanks : Part.banks ∈ P) (mchans : Part.chans ∈ P) (mxn : Part.xn ∈ P) (mrecd : Part.recd ∈ P) (mkiln : Part.kiln ∈ P) (mtwl : Part.twl ∈ P) (mlnc : Part.lnc ∈ P) (mbrg : Part.brg ∈ P) (mbw : Part.bw ∈ P) (mints : Part.ints ∈ P) (mmems : Part.mems ∈ P) (mcores : Part.cores ∈ P) (mvmem : Part.vmem ∈ P) (mheld : Part.held ∈ P) (mnoted : Part.noted ∈ P) (mlic : Part.lic ∈ P) (h₀ : SameBut P t₀ s) :
    OutFr P t₀ (execFpOperation core op dbl d a b s) := by
  unfold execFpOperation
  repeat' first
    | with_reducible assumption
    | (rename_i hq; have hq2 := congrArg Prod.snd hq; with_reducible dsimp only at hq2; subst hq2)
    | simp only [↓fr_mk_iff, true_or, or_true, mdrawn, mmod, mpwr, mvrc, mrot, mcys, mclk, mtim, mbanks, mchans, mxn, mrecd, mkiln, mtwl, mlnc, mbrg, mbw, mints, mmems, mcores, mvmem, mheld, mnoted, mlic]
    | with_reducible refine fr_ite ?_ ?_
    | with_reducible refine outFr_ite ?_ ?_
    | with_reducible refine outFr_next.2 ?_
    | with_reducible refine fr_ite2 ?_ ?_
    | with_reducible refine fr_foldl ?_ (fun _ _ _ => ?_)
    | with_reducible refine runTask_frame _ _ _ mdrawn mmod mpwr mvrc mrot mcys mclk mtim mbanks mchans mxn mrecd mkiln mtwl mlnc mbrg mbw mints mmems mcores mvmem mheld mnoted mlic ?_
    | split
    | dsimp only

theorem execFma_frame {P : List Part} {t₀ : State} (core : Fin 8) (op : FmaOp) (dbl : Bool) (d a b c : Fin 32) (s : State) (mdrawn : Part.drawn ∈ P) (mmod : Part.mod ∈ P) (mpwr : Part.pwr ∈ P) (mvrc : Part.vrc ∈ P) (mrot : Part.rot ∈ P) (mcys : Part.cys ∈ P) (mclk : Part.clk ∈ P) (mtim : Part.tim ∈ P) (mbanks : Part.banks ∈ P) (mchans : Part.chans ∈ P) (mxn : Part.xn ∈ P) (mrecd : Part.recd ∈ P) (mkiln : Part.kiln ∈ P) (mtwl : Part.twl ∈ P) (mlnc : Part.lnc ∈ P) (mbrg : Part.brg ∈ P) (mbw : Part.bw ∈ P) (mints : Part.ints ∈ P) (mmems : Part.mems ∈ P) (mcores : Part.cores ∈ P) (mvmem : Part.vmem ∈ P) (mheld : Part.held ∈ P) (mnoted : Part.noted ∈ P) (mlic : Part.lic ∈ P) (h₀ : SameBut P t₀ s) :
    OutFr P t₀ (execFma core op dbl d a b c s) := by
  unfold execFma
  repeat' first
    | with_reducible assumption
    | (rename_i hq; have hq2 := congrArg Prod.snd hq; with_reducible dsimp only at hq2; subst hq2)
    | simp only [↓fr_mk_iff, true_or, or_true, mdrawn, mmod, mpwr, mvrc, mrot, mcys, mclk, mtim, mbanks, mchans, mxn, mrecd, mkiln, mtwl, mlnc, mbrg, mbw, mints, mmems, mcores, mvmem, mheld, mnoted, mlic]
    | with_reducible refine fr_ite ?_ ?_
    | with_reducible refine outFr_ite ?_ ?_
    | with_reducible refine outFr_next.2 ?_
    | with_reducible refine fr_ite2 ?_ ?_
    | with_reducible refine fr_foldl ?_ (fun _ _ _ => ?_)
    | with_reducible refine runTask_frame _ _ _ mdrawn mmod mpwr mvrc mrot mcys mclk mtim mbanks mchans mxn mrecd mkiln mtwl mlnc mbrg mbw mints mmems mcores mvmem mheld mnoted mlic ?_
    | split
    | dsimp only

theorem execBranch_frame {P : List Part} {t₀ : State} (core : Fin 8) (cond : Cond) (d a : Fin 32) (off : BitVec 16) (s : State) (mdrawn : Part.drawn ∈ P) (mmod : Part.mod ∈ P) (mpwr : Part.pwr ∈ P) (mvrc : Part.vrc ∈ P) (mrot : Part.rot ∈ P) (mcys : Part.cys ∈ P) (mclk : Part.clk ∈ P) (mtim : Part.tim ∈ P) (mbanks : Part.banks ∈ P) (mchans : Part.chans ∈ P) (mxn : Part.xn ∈ P) (mrecd : Part.recd ∈ P) (mkiln : Part.kiln ∈ P) (mtwl : Part.twl ∈ P) (mlnc : Part.lnc ∈ P) (mbrg : Part.brg ∈ P) (mbw : Part.bw ∈ P) (mints : Part.ints ∈ P) (mmems : Part.mems ∈ P) (mcores : Part.cores ∈ P) (mvmem : Part.vmem ∈ P) (mheld : Part.held ∈ P) (mnoted : Part.noted ∈ P) (mlic : Part.lic ∈ P) (h₀ : SameBut P t₀ s) :
    OutFr P t₀ (execBranch core cond d a off s) := by
  unfold execBranch
  repeat' first
    | with_reducible assumption
    | (rename_i hq; have hq2 := congrArg Prod.snd hq; with_reducible dsimp only at hq2; subst hq2)
    | simp only [↓fr_mk_iff, true_or, or_true, mdrawn, mmod, mpwr, mvrc, mrot, mcys, mclk, mtim, mbanks, mchans, mxn, mrecd, mkiln, mtwl, mlnc, mbrg, mbw, mints, mmems, mcores, mvmem, mheld, mnoted, mlic]
    | with_reducible refine fr_ite ?_ ?_
    | with_reducible refine outFr_ite ?_ ?_
    | with_reducible refine outFr_next.2 ?_
    | with_reducible refine fr_ite2 ?_ ?_
    | with_reducible refine fr_foldl ?_ (fun _ _ _ => ?_)
    | with_reducible refine runTask_frame _ _ _ mdrawn mmod mpwr mvrc mrot mcys mclk mtim mbanks mchans mxn mrecd mkiln mtwl mlnc mbrg mbw mints mmems mcores mvmem mheld mnoted mlic ?_
    | split
    | dsimp only

theorem execJJl_frame {P : List Part} {t₀ : State} (core : Fin 8) (link : Bool) (off : BitVec 26) (s : State) (mdrawn : Part.drawn ∈ P) (mmod : Part.mod ∈ P) (mpwr : Part.pwr ∈ P) (mvrc : Part.vrc ∈ P) (mrot : Part.rot ∈ P) (mcys : Part.cys ∈ P) (mclk : Part.clk ∈ P) (mtim : Part.tim ∈ P) (mbanks : Part.banks ∈ P) (mchans : Part.chans ∈ P) (mxn : Part.xn ∈ P) (mrecd : Part.recd ∈ P) (mkiln : Part.kiln ∈ P) (mtwl : Part.twl ∈ P) (mlnc : Part.lnc ∈ P) (mbrg : Part.brg ∈ P) (mbw : Part.bw ∈ P) (mints : Part.ints ∈ P) (mmems : Part.mems ∈ P) (mcores : Part.cores ∈ P) (mvmem : Part.vmem ∈ P) (mheld : Part.held ∈ P) (mnoted : Part.noted ∈ P) (mlic : Part.lic ∈ P) (h₀ : SameBut P t₀ s) :
    OutFr P t₀ (execJJl core link off s) := by
  unfold execJJl
  repeat' first
    | with_reducible assumption
    | (rename_i hq; have hq2 := congrArg Prod.snd hq; with_reducible dsimp only at hq2; subst hq2)
    | simp only [↓fr_mk_iff, true_or, or_true, mdrawn, mmod, mpwr, mvrc, mrot, mcys, mclk, mtim, mbanks, mchans, mxn, mrecd, mkiln, mtwl, mlnc, mbrg, mbw, mints, mmems, mcores, mvmem, mheld, mnoted, mlic]
    | with_reducible refine fr_ite ?_ ?_
    | with_reducible refine outFr_ite ?_ ?_
    | with_reducible refine outFr_next.2 ?_
    | with_reducible refine fr_ite2 ?_ ?_
    | with_reducible refine fr_foldl ?_ (fun _ _ _ => ?_)
    | with_reducible refine runTask_frame _ _ _ mdrawn mmod mpwr mvrc mrot mcys mclk mtim mbanks mchans mxn mrecd mkiln mtwl mlnc mbrg mbw mints mmems mcores mvmem mheld mnoted mlic ?_
    | split
    | dsimp only

theorem execJlr_frame {P : List Part} {t₀ : State} (core : Fin 8) (d a : Fin 32) (imm : BitVec 16) (s : State) (mdrawn : Part.drawn ∈ P) (mmod : Part.mod ∈ P) (mpwr : Part.pwr ∈ P) (mvrc : Part.vrc ∈ P) (mrot : Part.rot ∈ P) (mcys : Part.cys ∈ P) (mclk : Part.clk ∈ P) (mtim : Part.tim ∈ P) (mbanks : Part.banks ∈ P) (mchans : Part.chans ∈ P) (mxn : Part.xn ∈ P) (mrecd : Part.recd ∈ P) (mkiln : Part.kiln ∈ P) (mtwl : Part.twl ∈ P) (mlnc : Part.lnc ∈ P) (mbrg : Part.brg ∈ P) (mbw : Part.bw ∈ P) (mints : Part.ints ∈ P) (mmems : Part.mems ∈ P) (mcores : Part.cores ∈ P) (mvmem : Part.vmem ∈ P) (mheld : Part.held ∈ P) (mnoted : Part.noted ∈ P) (mlic : Part.lic ∈ P) (h₀ : SameBut P t₀ s) :
    OutFr P t₀ (execJlr core d a imm s) := by
  unfold execJlr
  repeat' first
    | with_reducible assumption
    | (rename_i hq; have hq2 := congrArg Prod.snd hq; with_reducible dsimp only at hq2; subst hq2)
    | simp only [↓fr_mk_iff, true_or, or_true, mdrawn, mmod, mpwr, mvrc, mrot, mcys, mclk, mtim, mbanks, mchans, mxn, mrecd, mkiln, mtwl, mlnc, mbrg, mbw, mints, mmems, mcores, mvmem, mheld, mnoted, mlic]
    | with_reducible refine fr_ite ?_ ?_
    | with_reducible refine outFr_ite ?_ ?_
    | with_reducible refine outFr_next.2 ?_
    | with_reducible refine fr_ite2 ?_ ?_
    | with_reducible refine fr_foldl ?_ (fun _ _ _ => ?_)
    | with_reducible refine runTask_frame _ _ _ mdrawn mmod mpwr mvrc mrot mcys mclk mtim mbanks mchans mxn mrecd mkiln mtwl mlnc mbrg mbw mints mmems mcores mvmem mheld mnoted mlic ?_
    | split
    | dsimp only

theorem execCwr_frame {P : List Part} {t₀ : State} (core : Fin 8) (d : Fin 32) (n : BitVec 16) (s : State) (mdrawn : Part.drawn ∈ P) (mmod : Part.mod ∈ P) (mpwr : Part.pwr ∈ P) (mvrc : Part.vrc ∈ P) (mrot : Part.rot ∈ P) (mcys : Part.cys ∈ P) (mclk : Part.clk ∈ P) (mtim : Part.tim ∈ P) (mbanks : Part.banks ∈ P) (mchans : Part.chans ∈ P) (mxn : Part.xn ∈ P) (mrecd : Part.recd ∈ P) (mkiln : Part.kiln ∈ P) (mtwl : Part.twl ∈ P) (mlnc : Part.lnc ∈ P) (mbrg : Part.brg ∈ P) (mbw : Part.bw ∈ P) (mints : Part.ints ∈ P) (mmems : Part.mems ∈ P) (mcores : Part.cores ∈ P) (mvmem : Part.vmem ∈ P) (mheld : Part.held ∈ P) (mnoted : Part.noted ∈ P) (mlic : Part.lic ∈ P) (h₀ : SameBut P t₀ s) :
    OutFr P t₀ (execCwr core d n s) := by
  unfold execCwr
  repeat' first
    | with_reducible assumption
    | (rename_i hq; have hq2 := congrArg Prod.snd hq; with_reducible dsimp only at hq2; subst hq2)
    | simp only [↓fr_mk_iff, true_or, or_true, mdrawn, mmod, mpwr, mvrc, mrot, mcys, mclk, mtim, mbanks, mchans, mxn, mrecd, mkiln, mtwl, mlnc, mbrg, mbw, mints, mmems, mcores, mvmem, mheld, mnoted, mlic]
    | with_reducible refine fr_ite ?_ ?_
    | with_reducible refine outFr_ite ?_ ?_
    | with_reducible refine outFr_next.2 ?_
    | with_reducible refine fr_ite2 ?_ ?_
    | with_reducible refine fr_foldl ?_ (fun _ _ _ => ?_)
    | with_reducible refine runTask_frame _ _ _ mdrawn mmod mpwr mvrc mrot mcys mclk mtim mbanks mchans mxn mrecd mkiln mtwl mlnc mbrg mbw mints mmems mcores mvmem mheld mnoted mlic ?_
    | split
    | dsimp only

theorem execCww_frame {P : List Part} {t₀ : State} (core : Fin 8) (a : Fin 32) (n : BitVec 16) (s : State) (mdrawn : Part.drawn ∈ P) (mmod : Part.mod ∈ P) (mpwr : Part.pwr ∈ P) (mvrc : Part.vrc ∈ P) (mrot : Part.rot ∈ P) (mcys : Part.cys ∈ P) (mclk : Part.clk ∈ P) (mtim : Part.tim ∈ P) (mbanks : Part.banks ∈ P) (mchans : Part.chans ∈ P) (mxn : Part.xn ∈ P) (mrecd : Part.recd ∈ P) (mkiln : Part.kiln ∈ P) (mtwl : Part.twl ∈ P) (mlnc : Part.lnc ∈ P) (mbrg : Part.brg ∈ P) (mbw : Part.bw ∈ P) (mints : Part.ints ∈ P) (mmems : Part.mems ∈ P) (mcores : Part.cores ∈ P) (mvmem : Part.vmem ∈ P) (mheld : Part.held ∈ P) (mnoted : Part.noted ∈ P) (mlic : Part.lic ∈ P) (h₀ : SameBut P t₀ s) :
    OutFr P t₀ (execCww core a n s) := by
  unfold execCww
  repeat' first
    | with_reducible assumption
    | (rename_i hq; have hq2 := congrArg Prod.snd hq; with_reducible dsimp only at hq2; subst hq2)
    | simp only [↓fr_mk_iff, true_or, or_true, mdrawn, mmod, mpwr, mvrc, mrot, mcys, mclk, mtim, mbanks, mchans, mxn, mrecd, mkiln, mtwl, mlnc, mbrg, mbw, mints, mmems, mcores, mvmem, mheld, mnoted, mlic]
    | with_reducible refine fr_ite ?_ ?_
    | with_reducible refine outFr_ite ?_ ?_
    | with_reducible refine outFr_next.2 ?_
    | with_reducible refine fr_ite2 ?_ ?_
    | with_reducible refine fr_foldl ?_ (fun _ _ _ => ?_)
    | with_reducible refine runTask_frame _ _ _ mdrawn mmod mpwr mvrc mrot mcys mclk mtim mbanks mchans mxn mrecd mkiln mtwl mlnc mbrg mbw mints mmems mcores mvmem mheld mnoted mlic ?_
    | split
    | dsimp only

theorem execCws_frame {P : List Part} {t₀ : State} (core : Fin 8) (d a : Fin 32) (n : BitVec 16) (s : State) (mdrawn : Part.drawn ∈ P) (mmod : Part.mod ∈ P) (mpwr : Part.pwr ∈ P) (mvrc : Part.vrc ∈ P) (mrot : Part.rot ∈ P) (mcys : Part.cys ∈ P) (mclk : Part.clk ∈ P) (mtim : Part.tim ∈ P) (mbanks : Part.banks ∈ P) (mchans : Part.chans ∈ P) (mxn : Part.xn ∈ P) (mrecd : Part.recd ∈ P) (mkiln : Part.kiln ∈ P) (mtwl : Part.twl ∈ P) (mlnc : Part.lnc ∈ P) (mbrg : Part.brg ∈ P) (mbw : Part.bw ∈ P) (mints : Part.ints ∈ P) (mmems : Part.mems ∈ P) (mcores : Part.cores ∈ P) (mvmem : Part.vmem ∈ P) (mheld : Part.held ∈ P) (mnoted : Part.noted ∈ P) (mlic : Part.lic ∈ P) (h₀ : SameBut P t₀ s) :
    OutFr P t₀ (execCws core d a n s) := by
  unfold execCws
  repeat' first
    | with_reducible assumption
    | (rename_i hq; have hq2 := congrArg Prod.snd hq; with_reducible dsimp only at hq2; subst hq2)
    | simp only [↓fr_mk_iff, true_or, or_true, mdrawn, mmod, mpwr, mvrc, mrot, mcys, mclk, mtim, mbanks, mchans, mxn, mrecd, mkiln, mtwl, mlnc, mbrg, mbw, mints, mmems, mcores, mvmem, mheld, mnoted, mlic]
    | with_reducible refine fr_ite ?_ ?_
    | with_reducible refine outFr_ite ?_ ?_
    | with_reducible refine outFr_next.2 ?_
    | with_reducible refine fr_ite2 ?_ ?_
    | with_reducible refine fr_foldl ?_ (fun _ _ _ => ?_)
    | with_reducible refine runTask_frame _ _ _ mdrawn mmod mpwr mvrc mrot mcys mclk mtim mbanks mchans mxn mrecd mkiln mtwl mlnc mbrg mbw mints mmems mcores mvmem mheld mnoted mlic ?_
    | split
    | dsimp only

theorem execCwc_frame {P : List Part} {t₀ : State} (core : Fin 8) (d a : Fin 32) (n : BitVec 16) (s : State) (mdrawn : Part.drawn ∈ P) (mmod : Part.mod ∈ P) (mpwr : Part.pwr ∈ P) (mvrc : Part.vrc ∈ P) (mrot : Part.rot ∈ P) (mcys : Part.cys ∈ P) (mclk : Part.clk ∈ P) (mtim : Part.tim ∈ P) (mbanks : Part.banks ∈ P) (mchans : Part.chans ∈ P) (mxn : Part.xn ∈ P) (mrecd : Part.recd ∈ P) (mkiln : Part.kiln ∈ P) (mtwl : Part.twl ∈ P) (mlnc : Part.lnc ∈ P) (mbrg : Part.brg ∈ P) (mbw : Part.bw ∈ P) (mints : Part.ints ∈ P) (mmems : Part.mems ∈ P) (mcores : Part.cores ∈ P) (mvmem : Part.vmem ∈ P) (mheld : Part.held ∈ P) (mnoted : Part.noted ∈ P) (mlic : Part.lic ∈ P) (h₀ : SameBut P t₀ s) :
    OutFr P t₀ (execCwc core d a n s) := by
  unfold execCwc
  repeat' first
    | with_reducible assumption
    | (rename_i hq; have hq2 := congrArg Prod.snd hq; with_reducible dsimp only at hq2; subst hq2)
    | simp only [↓fr_mk_iff, true_or, or_true, mdrawn, mmod, mpwr, mvrc, mrot, mcys, mclk, mtim, mbanks, mchans, mxn, mrecd, mkiln, mtwl, mlnc, mbrg, mbw, mints, mmems, mcores, mvmem, mheld, mnoted, mlic]
    | with_reducible refine fr_ite ?_ ?_
    | with_reducible refine outFr_ite ?_ ?_
    | with_reducible refine outFr_next.2 ?_
    | with_reducible refine fr_ite2 ?_ ?_
    | with_reducible refine fr_foldl ?_ (fun _ _ _ => ?_)
    | with_reducible refine runTask_frame _ _ _ mdrawn mmod mpwr mvrc mrot mcys mclk mtim mbanks mchans mxn mrecd mkiln mtwl mlnc mbrg mbw mints mmems mcores mvmem mheld mnoted mlic ?_
    | split
    | dsimp only

theorem execFence_frame {P : List Part} {t₀ : State} (core : Fin 8) (s : State) (mdrawn : Part.drawn ∈ P) (mmod : Part.mod ∈ P) (mpwr : Part.pwr ∈ P) (mvrc : Part.vrc ∈ P) (mrot : Part.rot ∈ P) (mcys : Part.cys ∈ P) (mclk : Part.clk ∈ P) (mtim : Part.tim ∈ P) (mbanks : Part.banks ∈ P) (mchans : Part.chans ∈ P) (mxn : Part.xn ∈ P) (mrecd : Part.recd ∈ P) (mkiln : Part.kiln ∈ P) (mtwl : Part.twl ∈ P) (mlnc : Part.lnc ∈ P) (mbrg : Part.brg ∈ P) (mbw : Part.bw ∈ P) (mints : Part.ints ∈ P) (mmems : Part.mems ∈ P) (mcores : Part.cores ∈ P) (mvmem : Part.vmem ∈ P) (mheld : Part.held ∈ P) (mnoted : Part.noted ∈ P) (mlic : Part.lic ∈ P) (h₀ : SameBut P t₀ s) :
    OutFr P t₀ (execFence core s) := by
  unfold execFence
  repeat' first
    | with_reducible assumption
    | (rename_i hq; have hq2 := congrArg Prod.snd hq; with_reducible dsimp only at hq2; subst hq2)
    | simp only [↓fr_mk_iff, true_or, or_true, mdrawn, mmod, mpwr, mvrc, mrot, mcys, mclk, mtim, mbanks, mchans, mxn, mrecd, mkiln, mtwl, mlnc, mbrg, mbw, mints, mmems, mcores, mvmem, mheld, mnoted, mlic]
    | with_reducible refine fr_ite ?_ ?_
    | with_reducible refine outFr_ite ?_ ?_
    | with_reducible refine outFr_next.2 ?_
    | with_reducible refine fr_ite2 ?_ ?_
    | with_reducible refine fr_foldl ?_ (fun _ _ _ => ?_)
    | with_reducible refine runTask_frame _ _ _ mdrawn mmod mpwr mvrc mrot mcys mclk mtim mbanks mchans mxn mrecd mkiln mtwl mlnc mbrg mbw mints mmems mcores mvmem mheld mnoted mlic ?_
    | split
    | dsimp only

theorem execFenceI_frame {P : List Part} {t₀ : State} (core : Fin 8) (s : State) (mdrawn : Part.drawn ∈ P) (mmod : Part.mod ∈ P) (mpwr : Part.pwr ∈ P) (mvrc : Part.vrc ∈ P) (mrot : Part.rot ∈ P) (mcys : Part.cys ∈ P) (mclk : Part.clk ∈ P) (mtim : Part.tim ∈ P) (mbanks : Part.banks ∈ P) (mchans : Part.chans ∈ P) (mxn : Part.xn ∈ P) (mrecd : Part.recd ∈ P) (mkiln : Part.kiln ∈ P) (mtwl : Part.twl ∈ P) (mlnc : Part.lnc ∈ P) (mbrg : Part.brg ∈ P) (mbw : Part.bw ∈ P) (mints : Part.ints ∈ P) (mmems : Part.mems ∈ P) (mcores : Part.cores ∈ P) (mvmem : Part.vmem ∈ P) (mheld : Part.held ∈ P) (mnoted : Part.noted ∈ P) (mlic : Part.lic ∈ P) (h₀ : SameBut P t₀ s) :
    OutFr P t₀ (execFenceI core s) := by
  unfold execFenceI
  repeat' first
    | with_reducible assumption
    | (rename_i hq; have hq2 := congrArg Prod.snd hq; with_reducible dsimp only at hq2; subst hq2)
    | simp only [↓fr_mk_iff, true_or, or_true, mdrawn, mmod, mpwr, mvrc, mrot, mcys, mclk, mtim, mbanks, mchans, mxn, mrecd, mkiln, mtwl, mlnc, mbrg, mbw, mints, mmems, mcores, mvmem, mheld, mnoted, mlic]
    | with_reducible refine fr_ite ?_ ?_
    | with_reducible refine outFr_ite ?_ ?_
    | with_reducible refine outFr_next.2 ?_
    | with_reducible refine fr_ite2 ?_ ?_
    | with_reducible refine fr_foldl ?_ (fun _ _ _ => ?_)
    | with_reducible refine runTask_frame _ _ _ mdrawn mmod mpwr mvrc mrot mcys mclk mtim mbanks mchans mxn mrecd mkiln mtwl mlnc mbrg mbw mints mmems mcores mvmem mheld mnoted mlic ?_
    | split
    | dsimp only

theorem execEret_frame {P : List Part} {t₀ : State} (core : Fin 8) (s : State) (mdrawn : Part.drawn ∈ P) (mmod : Part.mod ∈ P) (mpwr : Part.pwr ∈ P) (mvrc : Part.vrc ∈ P) (mrot : Part.rot ∈ P) (mcys : Part.cys ∈ P) (mclk : Part.clk ∈ P) (mtim : Part.tim ∈ P) (mbanks : Part.banks ∈ P) (mchans : Part.chans ∈ P) (mxn : Part.xn ∈ P) (mrecd : Part.recd ∈ P) (mkiln : Part.kiln ∈ P) (mtwl : Part.twl ∈ P) (mlnc : Part.lnc ∈ P) (mbrg : Part.brg ∈ P) (mbw : Part.bw ∈ P) (mints : Part.ints ∈ P) (mmems : Part.mems ∈ P) (mcores : Part.cores ∈ P) (mvmem : Part.vmem ∈ P) (mheld : Part.held ∈ P) (mnoted : Part.noted ∈ P) (mlic : Part.lic ∈ P) (h₀ : SameBut P t₀ s) :
    OutFr P t₀ (execEret core s) := by
  unfold execEret
  repeat' first
    | with_reducible assumption
    | (rename_i hq; have hq2 := congrArg Prod.snd hq; with_reducible dsimp only at hq2; subst hq2)
    | simp only [↓fr_mk_iff, true_or, or_true, mdrawn, mmod, mpwr, mvrc, mrot, mcys, mclk, mtim, mbanks, mchans, mxn, mrecd, mkiln, mtwl, mlnc, mbrg, mbw, mints, mmems, mcores, mvmem, mheld, mnoted, mlic]
    | with_reducible refine fr_ite ?_ ?_
    | with_reducible refine outFr_ite ?_ ?_
    | with_reducible refine outFr_next.2 ?_
    | with_reducible refine fr_ite2 ?_ ?_
    | with_reducible refine fr_foldl ?_ (fun _ _ _ => ?_)
    | with_reducible refine runTask_frame _ _ _ mdrawn mmod mpwr mvrc mrot mcys mclk mtim mbanks mchans mxn mrecd mkiln mtwl mlnc mbrg mbw mints mmems mcores mvmem mheld mnoted mlic ?_
    | split
    | dsimp only

theorem execWfi_frame {P : List Part} {t₀ : State} (core : Fin 8) (s : State) (mdrawn : Part.drawn ∈ P) (mmod : Part.mod ∈ P) (mpwr : Part.pwr ∈ P) (mvrc : Part.vrc ∈ P) (mrot : Part.rot ∈ P) (mcys : Part.cys ∈ P) (mclk : Part.clk ∈ P) (mtim : Part.tim ∈ P) (mbanks : Part.banks ∈ P) (mchans : Part.chans ∈ P) (mxn : Part.xn ∈ P) (mrecd : Part.recd ∈ P) (mkiln : Part.kiln ∈ P) (mtwl : Part.twl ∈ P) (mlnc : Part.lnc ∈ P) (mbrg : Part.brg ∈ P) (mbw : Part.bw ∈ P) (mints : Part.ints ∈ P) (mmems : Part.mems ∈ P) (mcores : Part.cores ∈ P) (mvmem : Part.vmem ∈ P) (mheld : Part.held ∈ P) (mnoted : Part.noted ∈ P) (mlic : Part.lic ∈ P) (h₀ : SameBut P t₀ s) :
    OutFr P t₀ (execWfi core s) := by
  unfold execWfi
  repeat' first
    | with_reducible assumption
    | (rename_i hq; have hq2 := congrArg Prod.snd hq; with_reducible dsimp only at hq2; subst hq2)
    | simp only [↓fr_mk_iff, true_or, or_true, mdrawn, mmod, mpwr, mvrc, mrot, mcys, mclk, mtim, mbanks, mchans, mxn, mrecd, mkiln, mtwl, mlnc, mbrg, mbw, mints, mmems, mcores, mvmem, mheld, mnoted, mlic]
    | with_reducible refine fr_ite ?_ ?_
    | with_reducible refine outFr_ite ?_ ?_
    | with_reducible refine outFr_next.2 ?_
    | with_reducible refine fr_ite2 ?_ ?_
    | with_reducible refine fr_foldl ?_ (fun _ _ _ => ?_)
    | with_reducible refine runTask_frame _ _ _ mdrawn mmod mpwr mvrc mrot mcys mclk mtim mbanks mchans mxn mrecd mkiln mtwl mlnc mbrg mbw mints mmems mcores mvmem mheld mnoted mlic ?_
    | split
    | dsimp only

theorem execBreakInstr_frame {P : List Part} {t₀ : State} (core : Fin 8) (s : State) (mdrawn : Part.drawn ∈ P) (mmod : Part.mod ∈ P) (mpwr : Part.pwr ∈ P) (mvrc : Part.vrc ∈ P) (mrot : Part.rot ∈ P) (mcys : Part.cys ∈ P) (mclk : Part.clk ∈ P) (mtim : Part.tim ∈ P) (mbanks : Part.banks ∈ P) (mchans : Part.chans ∈ P) (mxn : Part.xn ∈ P) (mrecd : Part.recd ∈ P) (mkiln : Part.kiln ∈ P) (mtwl : Part.twl ∈ P) (mlnc : Part.lnc ∈ P) (mbrg : Part.brg ∈ P) (mbw : Part.bw ∈ P) (mints : Part.ints ∈ P) (mmems : Part.mems ∈ P) (mcores : Part.cores ∈ P) (mvmem : Part.vmem ∈ P) (mheld : Part.held ∈ P) (mnoted : Part.noted ∈ P) (mlic : Part.lic ∈ P) (h₀ : SameBut P t₀ s) :
    OutFr P t₀ (execBreakInstr core s) := by
  unfold execBreakInstr
  repeat' first
    | with_reducible assumption
    | (rename_i hq; have hq2 := congrArg Prod.snd hq; with_reducible dsimp only at hq2; subst hq2)
    | simp only [↓fr_mk_iff, true_or, or_true, mdrawn, mmod, mpwr, mvrc, mrot, mcys, mclk, mtim, mbanks, mchans, mxn, mrecd, mkiln, mtwl, mlnc, mbrg, mbw, mints, mmems, mcores, mvmem, mheld, mnoted, mlic]
    | with_reducible refine fr_ite ?_ ?_
    | with_reducible refine outFr_ite ?_ ?_
    | with_reducible refine outFr_next.2 ?_
    | with_reducible refine fr_ite2 ?_ ?_
    | with_reducible refine fr_foldl ?_ (fun _ _ _ => ?_)
    | with_reducible refine runTask_frame _ _ _ mdrawn mmod mpwr mvrc mrot mcys mclk mtim mbanks mchans mxn mrecd mkiln mtwl mlnc mbrg mbw mints mmems mcores mvmem mheld mnoted mlic ?_
    | split
    | dsimp only

theorem execCacheInvalidate_frame {P : List Part} {t₀ : State} (core : Fin 8) (op : CacheOp) (a : Fin 32) (s : State) (mdrawn : Part.drawn ∈ P) (mmod : Part.mod ∈ P) (mpwr : Part.pwr ∈ P) (mvrc : Part.vrc ∈ P) (mrot : Part.rot ∈ P) (mcys : Part.cys ∈ P) (mclk : Part.clk ∈ P) (mtim : Part.tim ∈ P) (mbanks : Part.banks ∈ P) (mchans : Part.chans ∈ P) (mxn : Part.xn ∈ P) (mrecd : Part.recd ∈ P) (mkiln : Part.kiln ∈ P) (mtwl : Part.twl ∈ P) (mlnc : Part.lnc ∈ P) (mbrg : Part.brg ∈ P) (mbw : Part.bw ∈ P) (mints : Part.ints ∈ P) (mmems : Part.mems ∈ P) (mcores : Part.cores ∈ P) (mvmem : Part.vmem ∈ P) (mheld : Part.held ∈ P) (mnoted : Part.noted ∈ P) (mlic : Part.lic ∈ P) (h₀ : SameBut P t₀ s) :
    OutFr P t₀ (execCacheInvalidate core op a s) := by
  unfold execCacheInvalidate
  repeat' first
    | with_reducible assumption
    | (rename_i hq; have hq2 := congrArg Prod.snd hq; with_reducible dsimp only at hq2; subst hq2)
    | simp only [↓fr_mk_iff, true_or, or_true, mdrawn, mmod, mpwr, mvrc, mrot, mcys, mclk, mtim, mbanks, mchans, mxn, mrecd, mkiln, mtwl, mlnc, mbrg, mbw, mints, mmems, mcores, mvmem, mheld, mnoted, mlic]
    | with_reducible refine fr_ite ?_ ?_
    | with_reducible refine outFr_ite ?_ ?_
    | with_reducible refine outFr_next.2 ?_
    | with_reducible refine fr_ite2 ?_ ?_
    | with_reducible refine fr_foldl ?_ (fun _ _ _ => ?_)
    | with_reducible refine runTask_frame _ _ _ mdrawn mmod mpwr mvrc mrot mcys mclk mtim mbanks mchans mxn mrecd mkiln mtwl mlnc mbrg mbw mints mmems mcores mvmem mheld mnoted mlic ?_
    | split
    | dsimp only

theorem execSyscall_frame {P : List Part} {t₀ : State} (core : Fin 8) (imm : BitVec 16) (s : State) (mdrawn : Part.drawn ∈ P) (mmod : Part.mod ∈ P) (mpwr : Part.pwr ∈ P) (mvrc : Part.vrc ∈ P) (mrot : Part.rot ∈ P) (mcys : Part.cys ∈ P) (mclk : Part.clk ∈ P) (mtim : Part.tim ∈ P) (mbanks : Part.banks ∈ P) (mchans : Part.chans ∈ P) (mxn : Part.xn ∈ P) (mrecd : Part.recd ∈ P) (mkiln : Part.kiln ∈ P) (mtwl : Part.twl ∈ P) (mlnc : Part.lnc ∈ P) (mbrg : Part.brg ∈ P) (mbw : Part.bw ∈ P) (mints : Part.ints ∈ P) (mmems : Part.mems ∈ P) (mcores : Part.cores ∈ P) (mvmem : Part.vmem ∈ P) (mheld : Part.held ∈ P) (mnoted : Part.noted ∈ P) (mlic : Part.lic ∈ P) (h₀ : SameBut P t₀ s) :
    OutFr P t₀ (execSyscall core imm s) := by
  unfold execSyscall
  repeat' first
    | with_reducible assumption
    | (rename_i hq; have hq2 := congrArg Prod.snd hq; with_reducible dsimp only at hq2; subst hq2)
    | simp only [↓fr_mk_iff, true_or, or_true, mdrawn, mmod, mpwr, mvrc, mrot, mcys, mclk, mtim, mbanks, mchans, mxn, mrecd, mkiln, mtwl, mlnc, mbrg, mbw, mints, mmems, mcores, mvmem, mheld, mnoted, mlic]
    | with_reducible refine fr_ite ?_ ?_
    | with_reducible refine outFr_ite ?_ ?_
    | with_reducible refine outFr_next.2 ?_
    | with_reducible refine fr_ite2 ?_ ?_
    | with_reducible refine fr_foldl ?_ (fun _ _ _ => ?_)
    | with_reducible refine runTask_frame _ _ _ mdrawn mmod mpwr mvrc mrot mcys mclk mtim mbanks mchans mxn mrecd mkiln mtwl mlnc mbrg mbw mints mmems mcores mvmem mheld mnoted mlic ?_
    | split
    | dsimp only

theorem execIllegalInstruction_frame {P : List Part} {t₀ : State} (core : Fin 8) (word : BitVec 32) (s : State) (mdrawn : Part.drawn ∈ P) (mmod : Part.mod ∈ P) (mpwr : Part.pwr ∈ P) (mvrc : Part.vrc ∈ P) (mrot : Part.rot ∈ P) (mcys : Part.cys ∈ P) (mclk : Part.clk ∈ P) (mtim : Part.tim ∈ P) (mbanks : Part.banks ∈ P) (mchans : Part.chans ∈ P) (mxn : Part.xn ∈ P) (mrecd : Part.recd ∈ P) (mkiln : Part.kiln ∈ P) (mtwl : Part.twl ∈ P) (mlnc : Part.lnc ∈ P) (mbrg : Part.brg ∈ P) (mbw : Part.bw ∈ P) (mints : Part.ints ∈ P) (mmems : Part.mems ∈ P) (mcores : Part.cores ∈ P) (mvmem : Part.vmem ∈ P) (mheld : Part.held ∈ P) (mnoted : Part.noted ∈ P) (mlic : Part.lic ∈ P) (h₀ : SameBut P t₀ s) :
    OutFr P t₀ (execIllegalInstruction core word s) := by
  unfold execIllegalInstruction
  repeat' first
    | with_reducible assumption
    | (rename_i hq; have hq2 := congrArg Prod.snd hq; with_reducible dsimp only at hq2; subst hq2)
    | simp only [↓fr_mk_iff, true_or, or_true, mdrawn, mmod, mpwr, mvrc, mrot, mcys, mclk, mtim, mbanks, mchans, mxn, mrecd, mkiln, mtwl, mlnc, mbrg, mbw, mints, mmems, mcores, mvmem, mheld, mnoted, mlic]
    | with_reducible refine fr_ite ?_ ?_
    | with_reducible refine outFr_ite ?_ ?_
    | with_reducible refine outFr_next.2 ?_
    | with_reducible refine fr_ite2 ?_ ?_
    | with_reducible refine fr_foldl ?_ (fun _ _ _ => ?_)
    | with_reducible refine runTask_frame _ _ _ mdrawn mmod mpwr mvrc mrot mcys mclk mtim mbanks mchans mxn mrecd mkiln mtwl mlnc mbrg mbw mints mmems mcores mvmem mheld mnoted mlic ?_
    | split
    | dsimp only

theorem execFetchFault_frame {P : List Part} {t₀ : State} (core : Fin 8) (s : State) (mdrawn : Part.drawn ∈ P) (mmod : Part.mod ∈ P) (mpwr : Part.pwr ∈ P) (mvrc : Part.vrc ∈ P) (mrot : Part.rot ∈ P) (mcys : Part.cys ∈ P) (mclk : Part.clk ∈ P) (mtim : Part.tim ∈ P) (mbanks : Part.banks ∈ P) (mchans : Part.chans ∈ P) (mxn : Part.xn ∈ P) (mrecd : Part.recd ∈ P) (mkiln : Part.kiln ∈ P) (mtwl : Part.twl ∈ P) (mlnc : Part.lnc ∈ P) (mbrg : Part.brg ∈ P) (mbw : Part.bw ∈ P) (mints : Part.ints ∈ P) (mmems : Part.mems ∈ P) (mcores : Part.cores ∈ P) (mvmem : Part.vmem ∈ P) (mheld : Part.held ∈ P) (mnoted : Part.noted ∈ P) (mlic : Part.lic ∈ P) (h₀ : SameBut P t₀ s) :
    OutFr P t₀ (execFetchFault core s) := by
  unfold execFetchFault
  repeat' first
    | with_reducible assumption
    | (rename_i hq; have hq2 := congrArg Prod.snd hq; with_reducible dsimp only at hq2; subst hq2)
    | simp only [↓fr_mk_iff, true_or, or_true, mdrawn, mmod, mpwr, mvrc, mrot, mcys, mclk, mtim, mbanks, mchans, mxn, mrecd, mkiln, mtwl, mlnc, mbrg, mbw, mints, mmems, mcores, mvmem, mheld, mnoted, mlic]
    | with_reducible refine fr_ite ?_ ?_
    | with_reducible refine outFr_ite ?_ ?_
    | with_reducible refine outFr_next.2 ?_
    | with_reducible refine fr_ite2 ?_ ?_
    | with_reducible refine fr_foldl ?_ (fun _ _ _ => ?_)
    | with_reducible refine runTask_frame _ _ _ mdrawn mmod mpwr mvrc mrot mcys mclk mtim mbanks mchans mxn mrecd mkiln mtwl mlnc mbrg mbw mints mmems mcores mvmem mheld mnoted mlic ?_
    | split
    | dsimp only

theorem execImpreciseBuserr_frame {P : List Part} {t₀ : State} (core : Fin 8) (addr : BitVec 40) (s : State) (mdrawn : Part.drawn ∈ P) (mmod : Part.mod ∈ P) (mpwr : Part.pwr ∈ P) (mvrc : Part.vrc ∈ P) (mrot : Part.rot ∈ P) (mcys : Part.cys ∈ P) (mclk : Part.clk ∈ P) (mtim : Part.tim ∈ P) (mbanks : Part.banks ∈ P) (mchans : Part.chans ∈ P) (mxn : Part.xn ∈ P) (mrecd : Part.recd ∈ P) (mkiln : Part.kiln ∈ P) (mtwl : Part.twl ∈ P) (mlnc : Part.lnc ∈ P) (mbrg : Part.brg ∈ P) (mbw : Part.bw ∈ P) (mints : Part.ints ∈ P) (mcores : Part.cores ∈ P) (mvmem : Part.vmem ∈ P) (mheld : Part.held ∈ P) (mnoted : Part.noted ∈ P) (mlic : Part.lic ∈ P) (h₀ : SameBut P t₀ s) :
    OutFr P t₀ (execImpreciseBuserr core addr s) := by
  unfold execImpreciseBuserr
  repeat' first
    | with_reducible assumption
    | (rename_i hq; have hq2 := congrArg Prod.snd hq; with_reducible dsimp only at hq2; subst hq2)
    | simp only [↓fr_mk_iff, true_or, or_true, mdrawn, mmod, mpwr, mvrc, mrot, mcys, mclk, mtim, mbanks, mchans, mxn, mrecd, mkiln, mtwl, mlnc, mbrg, mbw, mints, mcores, mvmem, mheld, mnoted, mlic]
    | with_reducible refine fr_ite ?_ ?_
    | with_reducible refine outFr_ite ?_ ?_
    | with_reducible refine outFr_next.2 ?_
    | with_reducible refine fr_ite2 ?_ ?_
    | with_reducible refine fr_foldl ?_ (fun _ _ _ => ?_)
    | with_reducible refine mirrorShadow_frame _ mcores mlic ?_ | with_reducible refine mapCores_frame _ _ _ mcores mlic ?_ | with_reducible refine flushCombine_frame _ _ mdrawn mmod mpwr mvrc mrot mcys mclk mtim mbanks mchans mxn mrecd mkiln mtwl mlnc mbrg mbw mints mcores mvmem mheld mnoted mlic ?_
    | split
    | dsimp only

theorem execCombiningBufferTimeout_frame {P : List Part} {t₀ : State} (core : Fin 8) (s : State) (mdrawn : Part.drawn ∈ P) (mmod : Part.mod ∈ P) (mpwr : Part.pwr ∈ P) (mvrc : Part.vrc ∈ P) (mrot : Part.rot ∈ P) (mcys : Part.cys ∈ P) (mclk : Part.clk ∈ P) (mtim : Part.tim ∈ P) (mbanks : Part.banks ∈ P) (mchans : Part.chans ∈ P) (mxn : Part.xn ∈ P) (mrecd : Part.recd ∈ P) (mkiln : Part.kiln ∈ P) (mtwl : Part.twl ∈ P) (mlnc : Part.lnc ∈ P) (mbrg : Part.brg ∈ P) (mbw : Part.bw ∈ P) (mints : Part.ints ∈ P) (mcores : Part.cores ∈ P) (mvmem : Part.vmem ∈ P) (mheld : Part.held ∈ P) (mnoted : Part.noted ∈ P) (mlic : Part.lic ∈ P) (h₀ : SameBut P t₀ s) :
    OutFr P t₀ (execCombiningBufferTimeout core s) := by
  unfold execCombiningBufferTimeout
  repeat' first
    | with_reducible assumption
    | (rename_i hq; have hq2 := congrArg Prod.snd hq; with_reducible dsimp only at hq2; subst hq2)
    | simp only [↓fr_mk_iff, true_or, or_true, mdrawn, mmod, mpwr, mvrc, mrot, mcys, mclk, mtim, mbanks, mchans, mxn, mrecd, mkiln, mtwl, mlnc, mbrg, mbw, mints, mcores, mvmem, mheld, mnoted, mlic]
    | with_reducible refine fr_ite ?_ ?_
    | with_reducible refine outFr_ite ?_ ?_
    | with_reducible refine outFr_next.2 ?_
    | with_reducible refine fr_ite2 ?_ ?_
    | with_reducible refine fr_foldl ?_ (fun _ _ _ => ?_)
    | with_reducible refine mirrorShadow_frame _ mcores mlic ?_ | with_reducible refine flushCombine_frame _ _ mdrawn mmod mpwr mvrc mrot mcys mclk mtim mbanks mchans mxn mrecd mkiln mtwl mlnc mbrg mbw mints mcores mvmem mheld mnoted mlic ?_
    | split
    | dsimp only

theorem execInterruptSourceAssert_frame {P : List Part} {t₀ : State} (core : Fin 8) (src : Fin 384) (s : State) (mcores : Part.cores ∈ P) (mlic : Part.lic ∈ P) (h₀ : SameBut P t₀ s) :
    OutFr P t₀ (execInterruptSourceAssert core src s) := by
  unfold execInterruptSourceAssert
  repeat' first
    | with_reducible assumption
    | (rename_i hq; have hq2 := congrArg Prod.snd hq; with_reducible dsimp only at hq2; subst hq2)
    | simp only [↓fr_mk_iff, true_or, or_true, mcores, mlic]
    | with_reducible refine fr_ite ?_ ?_
    | with_reducible refine outFr_ite ?_ ?_
    | with_reducible refine outFr_next.2 ?_
    | with_reducible refine fr_ite2 ?_ ?_
    | with_reducible refine fr_foldl ?_ (fun _ _ _ => ?_)
    | with_reducible refine mirrorShadow_frame _ mcores mlic ?_ | with_reducible refine mapCores_frame _ _ _ mcores mlic ?_
    | split
    | dsimp only

theorem execInterruptEntry_frame {P : List Part} {t₀ : State} (core : Fin 8) (s : State) (mdrawn : Part.drawn ∈ P) (mmod : Part.mod ∈ P) (mpwr : Part.pwr ∈ P) (mvrc : Part.vrc ∈ P) (mrot : Part.rot ∈ P) (mcys : Part.cys ∈ P) (mclk : Part.clk ∈ P) (mtim : Part.tim ∈ P) (mbanks : Part.banks ∈ P) (mchans : Part.chans ∈ P) (mxn : Part.xn ∈ P) (mrecd : Part.recd ∈ P) (mkiln : Part.kiln ∈ P) (mtwl : Part.twl ∈ P) (mlnc : Part.lnc ∈ P) (mbrg : Part.brg ∈ P) (mbw : Part.bw ∈ P) (mints : Part.ints ∈ P) (mcores : Part.cores ∈ P) (mvmem : Part.vmem ∈ P) (mheld : Part.held ∈ P) (mnoted : Part.noted ∈ P) (mlic : Part.lic ∈ P) (h₀ : SameBut P t₀ s) :
    OutFr P t₀ (execInterruptEntry core s) := by
  unfold execInterruptEntry
  repeat' first
    | with_reducible assumption
    | (rename_i hq; have hq2 := congrArg Prod.snd hq; with_reducible dsimp only at hq2; subst hq2)
    | simp only [↓fr_mk_iff, true_or, or_true, mdrawn, mmod, mpwr, mvrc, mrot, mcys, mclk, mtim, mbanks, mchans, mxn, mrecd, mkiln, mtwl, mlnc, mbrg, mbw, mints, mcores, mvmem, mheld, mnoted, mlic]
    | with_reducible refine fr_ite ?_ ?_
    | with_reducible refine outFr_ite ?_ ?_
    | with_reducible refine outFr_next.2 ?_
    | with_reducible refine fr_ite2 ?_ ?_
    | with_reducible refine fr_foldl ?_ (fun _ _ _ => ?_)
    | with_reducible refine mirrorShadow_frame _ mcores mlic ?_ | with_reducible refine mapCores_frame _ _ _ mcores mlic ?_ | with_reducible refine flushCombine_frame _ _ mdrawn mmod mpwr mvrc mrot mcys mclk mtim mbanks mchans mxn mrecd mkiln mtwl mlnc mbrg mbw mints mcores mvmem mheld mnoted mlic ?_ | with_reducible refine voteBeats_frame _ _ _ mmod mpwr mvrc mrot mcys mbanks mchans mxn mrecd mkiln mtwl mints mheld mnoted mlic ?_
    | split
    | dsimp only

theorem execLicEoiWrite_frame {P : List Part} {t₀ : State} (core : Fin 8) (value : BitVec 32) (s : State) (mdrawn : Part.drawn ∈ P) (mmod : Part.mod ∈ P) (mpwr : Part.pwr ∈ P) (mvrc : Part.vrc ∈ P) (mrot : Part.rot ∈ P) (mcys : Part.cys ∈ P) (mclk : Part.clk ∈ P) (mtim : Part.tim ∈ P) (mbanks : Part.banks ∈ P) (mchans : Part.chans ∈ P) (mxn : Part.xn ∈ P) (mrecd : Part.recd ∈ P) (mkiln : Part.kiln ∈ P) (mtwl : Part.twl ∈ P) (mlnc : Part.lnc ∈ P) (mbrg : Part.brg ∈ P) (mbw : Part.bw ∈ P) (mints : Part.ints ∈ P) (mmems : Part.mems ∈ P) (mcores : Part.cores ∈ P) (mvmem : Part.vmem ∈ P) (mheld : Part.held ∈ P) (mnoted : Part.noted ∈ P) (mlic : Part.lic ∈ P) (h₀ : SameBut P t₀ s) :
    OutFr P t₀ (execLicEoiWrite core value s) := by
  unfold execLicEoiWrite
  repeat' first
    | with_reducible assumption
    | (rename_i hq; have hq2 := congrArg Prod.snd hq; with_reducible dsimp only at hq2; subst hq2)
    | simp only [↓fr_mk_iff, true_or, or_true, mdrawn, mmod, mpwr, mvrc, mrot, mcys, mclk, mtim, mbanks, mchans, mxn, mrecd, mkiln, mtwl, mlnc, mbrg, mbw, mints, mmems, mcores, mvmem, mheld, mnoted, mlic]
    | with_reducible refine fr_ite ?_ ?_
    | with_reducible refine outFr_ite ?_ ?_
    | with_reducible refine outFr_next.2 ?_
    | with_reducible refine fr_ite2 ?_ ?_
    | with_reducible refine fr_foldl ?_ (fun _ _ _ => ?_)
    | with_reducible refine writeReg_frame _ _ _ _ mdrawn mmod mpwr mvrc mrot mcys mclk mtim mbanks mchans mxn mrecd mkiln mtwl mlnc mbrg mbw mints mmems mcores mvmem mheld mnoted mlic ?_
    | split
    | dsimp only

theorem execLicSwsetWrite_frame {P : List Part} {t₀ : State} (core : Fin 8) (value : BitVec 32) (s : State) (mdrawn : Part.drawn ∈ P) (mmod : Part.mod ∈ P) (mpwr : Part.pwr ∈ P) (mvrc : Part.vrc ∈ P) (mrot : Part.rot ∈ P) (mcys : Part.cys ∈ P) (mclk : Part.clk ∈ P) (mtim : Part.tim ∈ P) (mbanks : Part.banks ∈ P) (mchans : Part.chans ∈ P) (mxn : Part.xn ∈ P) (mrecd : Part.recd ∈ P) (mkiln : Part.kiln ∈ P) (mtwl : Part.twl ∈ P) (mlnc : Part.lnc ∈ P) (mbrg : Part.brg ∈ P) (mbw : Part.bw ∈ P) (mints : Part.ints ∈ P) (mmems : Part.mems ∈ P) (mcores : Part.cores ∈ P) (mvmem : Part.vmem ∈ P) (mheld : Part.held ∈ P) (mnoted : Part.noted ∈ P) (mlic : Part.lic ∈ P) (h₀ : SameBut P t₀ s) :
    OutFr P t₀ (execLicSwsetWrite core value s) := by
  unfold execLicSwsetWrite
  repeat' first
    | with_reducible assumption
    | (rename_i hq; have hq2 := congrArg Prod.snd hq; with_reducible dsimp only at hq2; subst hq2)
    | simp only [↓fr_mk_iff, true_or, or_true, mdrawn, mmod, mpwr, mvrc, mrot, mcys, mclk, mtim, mbanks, mchans, mxn, mrecd, mkiln, mtwl, mlnc, mbrg, mbw, mints, mmems, mcores, mvmem, mheld, mnoted, mlic]
    | with_reducible refine fr_ite ?_ ?_
    | with_reducible refine outFr_ite ?_ ?_
    | with_reducible refine outFr_next.2 ?_
    | with_reducible refine fr_ite2 ?_ ?_
    | with_reducible refine fr_foldl ?_ (fun _ _ _ => ?_)
    | with_reducible refine writeReg_frame _ _ _ _ mdrawn mmod mpwr mvrc mrot mcys mclk mtim mbanks mchans mxn mrecd mkiln mtwl mlnc mbrg mbw mints mmems mcores mvmem mheld mnoted mlic ?_
    | split
    | dsimp only

theorem execRegisterWrite_frame {P : List Part} {t₀ : State} (core : Fin 8) (addr : BitVec 40) (value : BitVec 32) (s : State) (mdrawn : Part.drawn ∈ P) (mmod : Part.mod ∈ P) (mpwr : Part.pwr ∈ P) (mvrc : Part.vrc ∈ P) (mrot : Part.rot ∈ P) (mcys : Part.cys ∈ P) (mclk : Part.clk ∈ P) (mtim : Part.tim ∈ P) (mbanks : Part.banks ∈ P) (mchans : Part.chans ∈ P) (mxn : Part.xn ∈ P) (mrecd : Part.recd ∈ P) (mkiln : Part.kiln ∈ P) (mtwl : Part.twl ∈ P) (mlnc : Part.lnc ∈ P) (mbrg : Part.brg ∈ P) (mbw : Part.bw ∈ P) (mints : Part.ints ∈ P) (mmems : Part.mems ∈ P) (mcores : Part.cores ∈ P) (mvmem : Part.vmem ∈ P) (mheld : Part.held ∈ P) (mnoted : Part.noted ∈ P) (mlic : Part.lic ∈ P) (h₀ : SameBut P t₀ s) :
    OutFr P t₀ (execRegisterWrite core addr value s) := by
  unfold execRegisterWrite
  repeat' first
    | with_reducible assumption
    | (rename_i hq; have hq2 := congrArg Prod.snd hq; with_reducible dsimp only at hq2; subst hq2)
    | simp only [↓fr_mk_iff, true_or, or_true, mdrawn, mmod, mpwr, mvrc, mrot, mcys, mclk, mtim, mbanks, mchans, mxn, mrecd, mkiln, mtwl, mlnc, mbrg, mbw, mints, mmems, mcores, mvmem, mheld, mnoted, mlic]
    | with_reducible refine fr_ite ?_ ?_
    | with_reducible refine outFr_ite ?_ ?_
    | with_reducible refine outFr_next.2 ?_
    | with_reducible refine fr_ite2 ?_ ?_
    | with_reducible refine fr_foldl ?_ (fun _ _ _ => ?_)
    | with_reducible refine writeReg_frame _ _ _ _ mdrawn mmod mpwr mvrc mrot mcys mclk mtim mbanks mchans mxn mrecd mkiln mtwl mlnc mbrg mbw mints mmems mcores mvmem mheld mnoted mlic ?_
    | split
    | dsimp only

theorem execMirrorEntry_frame {P : List Part} {t₀ : State} (s : State) (mmod : Part.mod ∈ P) (mpwr : Part.pwr ∈ P) (mvrc : Part.vrc ∈ P) (mrot : Part.rot ∈ P) (mcys : Part.cys ∈ P) (mbanks : Part.banks ∈ P) (mchans : Part.chans ∈ P) (mxn : Part.xn ∈ P) (mrecd : Part.recd ∈ P) (mkiln : Part.kiln ∈ P) (mtwl : Part.twl ∈ P) (mints : Part.ints ∈ P) (mmems : Part.mems ∈ P) (mcores : Part.cores ∈ P) (mheld : Part.held ∈ P) (mnoted : Part.noted ∈ P) (mlic : Part.lic ∈ P) (h₀ : SameBut P t₀ s) :
    OutFr P t₀ (execMirrorEntry s) := by
  unfold execMirrorEntry
  repeat' first
    | with_reducible assumption
    | (rename_i hq; have hq2 := congrArg Prod.snd hq; with_reducible dsimp only at hq2; subst hq2)
    | simp only [↓fr_mk_iff, true_or, or_true, mmod, mpwr, mvrc, mrot, mcys, mbanks, mchans, mxn, mrecd, mkiln, mtwl, mints, mmems, mcores, mheld, mnoted, mlic]
    | with_reducible refine fr_ite ?_ ?_
    | with_reducible refine outFr_ite ?_ ?_
    | with_reducible refine outFr_next.2 ?_
    | with_reducible refine fr_ite2 ?_ ?_
    | with_reducible refine fr_foldl ?_ (fun _ _ _ => ?_)
    | with_reducible refine mirrorShadow_frame _ mcores mlic ?_ | with_reducible refine drainOne_frame _ _ mmod mpwr mvrc mrot mcys mbanks mchans mxn mrecd mkiln mtwl mints mmems mcores mheld mnoted mlic ?_
    | split
    | dsimp only

theorem execLtmTimerStart_frame {P : List Part} {t₀ : State} (core : Fin 8) (timer : Fin 16) (ctl : BitVec 32) (s : State) (mdrawn : Part.drawn ∈ P) (mmod : Part.mod ∈ P) (mpwr : Part.pwr ∈ P) (mvrc : Part.vrc ∈ P) (mrot : Part.rot ∈ P) (mcys : Part.cys ∈ P) (mclk : Part.clk ∈ P) (mtim : Part.tim ∈ P) (mbanks : Part.banks ∈ P) (mchans : Part.chans ∈ P) (mxn : Part.xn ∈ P) (mrecd : Part.recd ∈ P) (mkiln : Part.kiln ∈ P) (mtwl : Part.twl ∈ P) (mlnc : Part.lnc ∈ P) (mbrg : Part.brg ∈ P) (mbw : Part.bw ∈ P) (mints : Part.ints ∈ P) (mmems : Part.mems ∈ P) (mcores : Part.cores ∈ P) (mvmem : Part.vmem ∈ P) (mheld : Part.held ∈ P) (mnoted : Part.noted ∈ P) (mlic : Part.lic ∈ P) (h₀ : SameBut P t₀ s) :
    OutFr P t₀ (execLtmTimerStart core timer ctl s) := by
  unfold execLtmTimerStart
  repeat' first
    | with_reducible assumption
    | (rename_i hq; have hq2 := congrArg Prod.snd hq; with_reducible dsimp only at hq2; subst hq2)
    | simp only [↓fr_mk_iff, true_or, or_true, mdrawn, mmod, mpwr, mvrc, mrot, mcys, mclk, mtim, mbanks, mchans, mxn, mrecd, mkiln, mtwl, mlnc, mbrg, mbw, mints, mmems, mcores, mvmem, mheld, mnoted, mlic]
    | with_reducible refine fr_ite ?_ ?_
    | with_reducible refine outFr_ite ?_ ?_
    | with_reducible refine outFr_next.2 ?_
    | with_reducible refine fr_ite2 ?_ ?_
    | with_reducible refine fr_foldl ?_ (fun _ _ _ => ?_)
    | with_reducible refine writeReg_frame _ _ _ _ mdrawn mmod mpwr mvrc mrot mcys mclk mtim mbanks mchans mxn mrecd mkiln mtwl mlnc mbrg mbw mints mmems mcores mvmem mheld mnoted mlic ?_
    | split
    | dsimp only

theorem execLtmTimerExpiry_frame {P : List Part} {t₀ : State} (dt : Nat) (core : Fin 8) (timer : Fin 16) (s : State) (mcores : Part.cores ∈ P) (mlic : Part.lic ∈ P) (h₀ : SameBut P t₀ (advance dt s)) :
    OutFr P t₀ (execLtmTimerExpiry dt core timer s) := by
  unfold execLtmTimerExpiry
  repeat' first
    | with_reducible assumption
    | (rename_i hq; have hq2 := congrArg Prod.snd hq; with_reducible dsimp only at hq2; subst hq2)
    | simp only [↓fr_mk_iff, true_or, or_true, mcores, mlic]
    | with_reducible refine fr_ite ?_ ?_
    | with_reducible refine outFr_ite ?_ ?_
    | with_reducible refine outFr_next.2 ?_
    | with_reducible refine fr_ite2 ?_ ?_
    | with_reducible refine fr_foldl ?_ (fun _ _ _ => ?_)
    | with_reducible refine mirrorShadow_frame _ mcores mlic ?_ | with_reducible refine mapCores_frame _ _ _ mcores mlic ?_
    | split
    | dsimp only

theorem execLtmElaplRead_frame {P : List Part} {t₀ : State} (core : Fin 8) (d : Fin 32) (s : State) (mdrawn : Part.drawn ∈ P) (mmod : Part.mod ∈ P) (mpwr : Part.pwr ∈ P) (mvrc : Part.vrc ∈ P) (mrot : Part.rot ∈ P) (mcys : Part.cys ∈ P) (mclk : Part.clk ∈ P) (mtim : Part.tim ∈ P) (mbanks : Part.banks ∈ P) (mchans : Part.chans ∈ P) (mxn : Part.xn ∈ P) (mrecd : Part.recd ∈ P) (mkiln : Part.kiln ∈ P) (mtwl : Part.twl ∈ P) (mlnc : Part.lnc ∈ P) (mbrg : Part.brg ∈ P) (mbw : Part.bw ∈ P) (mints : Part.ints ∈ P) (mmems : Part.mems ∈ P) (mcores : Part.cores ∈ P) (mvmem : Part.vmem ∈ P) (mheld : Part.held ∈ P) (mnoted : Part.noted ∈ P) (mlic : Part.lic ∈ P) (h₀ : SameBut P t₀ s) :
    OutFr P t₀ (execLtmElaplRead core d s) := by
  unfold execLtmElaplRead
  repeat' first
    | with_reducible assumption
    | (rename_i hq; have hq2 := congrArg Prod.snd hq; with_reducible dsimp only at hq2; subst hq2)
    | simp only [↓fr_mk_iff, true_or, or_true, mdrawn, mmod, mpwr, mvrc, mrot, mcys, mclk, mtim, mbanks, mchans, mxn, mrecd, mkiln, mtwl, mlnc, mbrg, mbw, mints, mmems, mcores, mvmem, mheld, mnoted, mlic]
    | with_reducible refine fr_ite ?_ ?_
    | with_reducible refine outFr_ite ?_ ?_
    | with_reducible refine outFr_next.2 ?_
    | with_reducible refine fr_ite2 ?_ ?_
    | with_reducible refine fr_foldl ?_ (fun _ _ _ => ?_)
    | with_reducible refine readReg_frame _ _ _ _ mdrawn mmod mpwr mvrc mrot mcys mclk mtim mbanks mchans mxn mrecd mkiln mtwl mlnc mbrg mbw mints mmems mcores mvmem mheld mnoted mlic ?_
    | split
    | dsimp only

theorem execLpcCntnlRead_frame {P : List Part} {t₀ : State} (core : Fin 8) (counter : Fin 16) (d : Fin 32) (s : State) (mdrawn : Part.drawn ∈ P) (mmod : Part.mod ∈ P) (mpwr : Part.pwr ∈ P) (mvrc : Part.vrc ∈ P) (mrot : Part.rot ∈ P) (mcys : Part.cys ∈ P) (mclk : Part.clk ∈ P) (mtim : Part.tim ∈ P) (mbanks : Part.banks ∈ P) (mchans : Part.chans ∈ P) (mxn : Part.xn ∈ P) (mrecd : Part.recd ∈ P) (mkiln : Part.kiln ∈ P) (mtwl : Part.twl ∈ P) (mlnc : Part.lnc ∈ P) (mbrg : Part.brg ∈ P) (mbw : Part.bw ∈ P) (mints : Part.ints ∈ P) (mmems : Part.mems ∈ P) (mcores : Part.cores ∈ P) (mvmem : Part.vmem ∈ P) (mheld : Part.held ∈ P) (mnoted : Part.noted ∈ P) (mlic : Part.lic ∈ P) (h₀ : SameBut P t₀ s) :
    OutFr P t₀ (execLpcCntnlRead core counter d s) := by
  unfold execLpcCntnlRead
  repeat' first
    | with_reducible assumption
    | (rename_i hq; have hq2 := congrArg Prod.snd hq; with_reducible dsimp only at hq2; subst hq2)
    | simp only [↓fr_mk_iff, true_or, or_true, mdrawn, mmod, mpwr, mvrc, mrot, mcys, mclk, mtim, mbanks, mchans, mxn, mrecd, mkiln, mtwl, mlnc, mbrg, mbw, mints, mmems, mcores, mvmem, mheld, mnoted, mlic]
    | with_reducible refine fr_ite ?_ ?_
    | with_reducible refine outFr_ite ?_ ?_
    | with_reducible refine outFr_next.2 ?_
    | with_reducible refine fr_ite2 ?_ ?_
    | with_reducible refine fr_foldl ?_ (fun _ _ _ => ?_)
    | with_reducible refine readReg_frame _ _ _ _ mdrawn mmod mpwr mvrc mrot mcys mclk mtim mbanks mchans mxn mrecd mkiln mtwl mlnc mbrg mbw mints mmems mcores mvmem mheld mnoted mlic ?_
    | split
    | dsimp only

theorem execLpcCntnlWrite_frame {P : List Part} {t₀ : State} (core : Fin 8) (counter : Fin 16) (value : BitVec 32) (s : State) (mdrawn : Part.drawn ∈ P) (mmod : Part.mod ∈ P) (mpwr : Part.pwr ∈ P) (mvrc : Part.vrc ∈ P) (mrot : Part.rot ∈ P) (mcys : Part.cys ∈ P) (mclk : Part.clk ∈ P) (mtim : Part.tim ∈ P) (mbanks : Part.banks ∈ P) (mchans : Part.chans ∈ P) (mxn : Part.xn ∈ P) (mrecd : Part.recd ∈ P) (mkiln : Part.kiln ∈ P) (mtwl : Part.twl ∈ P) (mlnc : Part.lnc ∈ P) (mbrg : Part.brg ∈ P) (mbw : Part.bw ∈ P) (mints : Part.ints ∈ P) (mmems : Part.mems ∈ P) (mcores : Part.cores ∈ P) (mvmem : Part.vmem ∈ P) (mheld : Part.held ∈ P) (mnoted : Part.noted ∈ P) (mlic : Part.lic ∈ P) (h₀ : SameBut P t₀ s) :
    OutFr P t₀ (execLpcCntnlWrite core counter value s) := by
  unfold execLpcCntnlWrite
  repeat' first
    | with_reducible assumption
    | (rename_i hq; have hq2 := congrArg Prod.snd hq; with_reducible dsimp only at hq2; subst hq2)
    | simp only [↓fr_mk_iff, true_or, or_true, mdrawn, mmod, mpwr, mvrc, mrot, mcys, mclk, mtim, mbanks, mchans, mxn, mrecd, mkiln, mtwl, mlnc, mbrg, mbw, mints, mmems, mcores, mvmem, mheld, mnoted, mlic]
    | with_reducible refine fr_ite ?_ ?_
    | with_reducible refine outFr_ite ?_ ?_
    | with_reducible refine outFr_next.2 ?_
    | with_reducible refine fr_ite2 ?_ ?_
    | with_reducible refine fr_foldl ?_ (fun _ _ _ => ?_)
    | with_reducible refine writeReg_frame _ _ _ _ mdrawn mmod mpwr mvrc mrot mcys mclk mtim mbanks mchans mxn mrecd mkiln mtwl mlnc mbrg mbw mints mmems mcores mvmem mheld mnoted mlic ?_
    | split
    | dsimp only

theorem execCounterOverflow_frame {P : List Part} {t₀ : State} (core : Fin 8) (counter : Fin 16) (events : BitVec 48) (s : State) (mcores : Part.cores ∈ P) (mlic : Part.lic ∈ P) (h₀ : SameBut P t₀ s) :
    OutFr P t₀ (execCounterOverflow core counter events s) := by
  unfold execCounterOverflow
  repeat' first
    | with_reducible assumption
    | (rename_i hq; have hq2 := congrArg Prod.snd hq; with_reducible dsimp only at hq2; subst hq2)
    | simp only [↓fr_mk_iff, true_or, or_true, mcores, mlic]
    | with_reducible refine fr_ite ?_ ?_
    | with_reducible refine outFr_ite ?_ ?_
    | with_reducible refine outFr_next.2 ?_
    | with_reducible refine fr_ite2 ?_ ?_
    | with_reducible refine fr_foldl ?_ (fun _ _ _ => ?_)
    | with_reducible refine mirrorShadow_frame _ mcores mlic ?_ | with_reducible refine mapCores_frame _ _ _ mcores mlic ?_
    | split
    | dsimp only

theorem execCtuTimensRead_frame {P : List Part} {t₀ : State} (core : Fin 8) (d : Fin 32) (s : State) (mdrawn : Part.drawn ∈ P) (mmod : Part.mod ∈ P) (mpwr : Part.pwr ∈ P) (mvrc : Part.vrc ∈ P) (mrot : Part.rot ∈ P) (mcys : Part.cys ∈ P) (mclk : Part.clk ∈ P) (mtim : Part.tim ∈ P) (mbanks : Part.banks ∈ P) (mchans : Part.chans ∈ P) (mxn : Part.xn ∈ P) (mrecd : Part.recd ∈ P) (mkiln : Part.kiln ∈ P) (mtwl : Part.twl ∈ P) (mlnc : Part.lnc ∈ P) (mbrg : Part.brg ∈ P) (mbw : Part.bw ∈ P) (mints : Part.ints ∈ P) (mmems : Part.mems ∈ P) (mcores : Part.cores ∈ P) (mvmem : Part.vmem ∈ P) (mheld : Part.held ∈ P) (mnoted : Part.noted ∈ P) (mlic : Part.lic ∈ P) (h₀ : SameBut P t₀ s) :
    OutFr P t₀ (execCtuTimensRead core d s) := by
  unfold execCtuTimensRead
  repeat' first
    | with_reducible assumption
    | (rename_i hq; have hq2 := congrArg Prod.snd hq; with_reducible dsimp only at hq2; subst hq2)
    | simp only [↓fr_mk_iff, true_or, or_true, mdrawn, mmod, mpwr, mvrc, mrot, mcys, mclk, mtim, mbanks, mchans, mxn, mrecd, mkiln, mtwl, mlnc, mbrg, mbw, mints, mmems, mcores, mvmem, mheld, mnoted, mlic]
    | with_reducible refine fr_ite ?_ ?_
    | with_reducible refine outFr_ite ?_ ?_
    | with_reducible refine outFr_next.2 ?_
    | with_reducible refine fr_ite2 ?_ ?_
    | with_reducible refine fr_foldl ?_ (fun _ _ _ => ?_)
    | with_reducible refine readReg_frame _ _ _ _ mdrawn mmod mpwr mvrc mrot mcys mclk mtim mbanks mchans mxn mrecd mkiln mtwl mlnc mbrg mbw mints mmems mcores mvmem mheld mnoted mlic ?_
    | split
    | dsimp only

theorem execCtuFrclRead_frame {P : List Part} {t₀ : State} (core : Fin 8) (d : Fin 32) (s : State) (mdrawn : Part.drawn ∈ P) (mmod : Part.mod ∈ P) (mpwr : Part.pwr ∈ P) (mvrc : Part.vrc ∈ P) (mrot : Part.rot ∈ P) (mcys : Part.cys ∈ P) (mclk : Part.clk ∈ P) (mtim : Part.tim ∈ P) (mbanks : Part.banks ∈ P) (mchans : Part.chans ∈ P) (mxn : Part.xn ∈ P) (mrecd : Part.recd ∈ P) (mkiln : Part.kiln ∈ P) (mtwl : Part.twl ∈ P) (mlnc : Part.lnc ∈ P) (mbrg : Part.brg ∈ P) (mbw : Part.bw ∈ P) (mints : Part.ints ∈ P) (mmems : Part.mems ∈ P) (mcores : Part.cores ∈ P) (mvmem : Part.vmem ∈ P) (mheld : Part.held ∈ P) (mnoted : Part.noted ∈ P) (mlic : Part.lic ∈ P) (h₀ : SameBut P t₀ s) :
    OutFr P t₀ (execCtuFrclRead core d s) := by
  unfold execCtuFrclRead
  repeat' first
    | with_reducible assumption
    | (rename_i hq; have hq2 := congrArg Prod.snd hq; with_reducible dsimp only at hq2; subst hq2)
    | simp only [↓fr_mk_iff, true_or, or_true, mdrawn, mmod, mpwr, mvrc, mrot, mcys, mclk, mtim, mbanks, mchans, mxn, mrecd, mkiln, mtwl, mlnc, mbrg, mbw, mints, mmems, mcores, mvmem, mheld, mnoted, mlic]
    | with_reducible refine fr_ite ?_ ?_
    | with_reducible refine outFr_ite ?_ ?_
    | with_reducible refine outFr_next.2 ?_
    | with_reducible refine fr_ite2 ?_ ?_
    | with_reducible refine fr_foldl ?_ (fun _ _ _ => ?_)
    | with_reducible refine readReg_frame _ _ _ _ mdrawn mmod mpwr mvrc mrot mcys mclk mtim mbanks mchans mxn mrecd mkiln mtwl mlnc mbrg mbw mints mmems mcores mvmem mheld mnoted mlic ?_
    | split
    | dsimp only

theorem execCtuBerrlRead_frame {P : List Part} {t₀ : State} (core : Fin 8) (d : Fin 32) (s : State) (mdrawn : Part.drawn ∈ P) (mmod : Part.mod ∈ P) (mpwr : Part.pwr ∈ P) (mvrc : Part.vrc ∈ P) (mrot : Part.rot ∈ P) (mcys : Part.cys ∈ P) (mclk : Part.clk ∈ P) (mtim : Part.tim ∈ P) (mbanks : Part.banks ∈ P) (mchans : Part.chans ∈ P) (mxn : Part.xn ∈ P) (mrecd : Part.recd ∈ P) (mkiln : Part.kiln ∈ P) (mtwl : Part.twl ∈ P) (mlnc : Part.lnc ∈ P) (mbrg : Part.brg ∈ P) (mbw : Part.bw ∈ P) (mints : Part.ints ∈ P) (mmems : Part.mems ∈ P) (mcores : Part.cores ∈ P) (mvmem : Part.vmem ∈ P) (mheld : Part.held ∈ P) (mnoted : Part.noted ∈ P) (mlic : Part.lic ∈ P) (h₀ : SameBut P t₀ s) :
    OutFr P t₀ (execCtuBerrlRead core d s) := by
  unfold execCtuBerrlRead
  repeat' first
    | with_reducible assumption
    | (rename_i hq; have hq2 := congrArg Prod.snd hq; with_reducible dsimp only at hq2; subst hq2)
    | simp only [↓fr_mk_iff, true_or, or_true, mdrawn, mmod, mpwr, mvrc, mrot, mcys, mclk, mtim, mbanks, mchans, mxn, mrecd, mkiln, mtwl, mlnc, mbrg, mbw, mints, mmems, mcores, mvmem, mheld, mnoted, mlic]
    | with_reducible refine fr_ite ?_ ?_
    | with_reducible refine outFr_ite ?_ ?_
    | with_reducible refine outFr_next.2 ?_
    | with_reducible refine fr_ite2 ?_ ?_
    | with_reducible refine fr_foldl ?_ (fun _ _ _ => ?_)
    | with_reducible refine readReg_frame _ _ _ _ mdrawn mmod mpwr mvrc mrot mcys mclk mtim mbanks mchans mxn mrecd mkiln mtwl mlnc mbrg mbw mints mmems mcores mvmem mheld mnoted mlic ?_
    | split
    | dsimp only

theorem execCysTicklRead_frame {P : List Part} {t₀ : State} (core : Fin 8) (d : Fin 32) (s : State) (mdrawn : Part.drawn ∈ P) (mmod : Part.mod ∈ P) (mpwr : Part.pwr ∈ P) (mvrc : Part.vrc ∈ P) (mrot : Part.rot ∈ P) (mcys : Part.cys ∈ P) (mclk : Part.clk ∈ P) (mtim : Part.tim ∈ P) (mbanks : Part.banks ∈ P) (mchans : Part.chans ∈ P) (mxn : Part.xn ∈ P) (mrecd : Part.recd ∈ P) (mkiln : Part.kiln ∈ P) (mtwl : Part.twl ∈ P) (mlnc : Part.lnc ∈ P) (mbrg : Part.brg ∈ P) (mbw : Part.bw ∈ P) (mints : Part.ints ∈ P) (mmems : Part.mems ∈ P) (mcores : Part.cores ∈ P) (mvmem : Part.vmem ∈ P) (mheld : Part.held ∈ P) (mnoted : Part.noted ∈ P) (mlic : Part.lic ∈ P) (h₀ : SameBut P t₀ s) :
    OutFr P t₀ (execCysTicklRead core d s) := by
  unfold execCysTicklRead
  repeat' first
    | with_reducible assumption
    | (rename_i hq; have hq2 := congrArg Prod.snd hq; with_reducible dsimp only at hq2; subst hq2)
    | simp only [↓fr_mk_iff, true_or, or_true, mdrawn, mmod, mpwr, mvrc, mrot, mcys, mclk, mtim, mbanks, mchans, mxn, mrecd, mkiln, mtwl, mlnc, mbrg, mbw, mints, mmems, mcores, mvmem, mheld, mnoted, mlic]
    | with_reducible refine fr_ite ?_ ?_
    | with_reducible refine outFr_ite ?_ ?_
    | with_reducible refine outFr_next.2 ?_
    | with_reducible refine fr_ite2 ?_ ?_
    | with_reducible refine fr_foldl ?_ (fun _ _ _ => ?_)
    | with_reducible refine readReg_frame _ _ _ _ mdrawn mmod mpwr mvrc mrot mcys mclk mtim mbanks mchans mxn mrecd mkiln mtwl mlnc mbrg mbw mints mmems mcores mvmem mheld mnoted mlic ?_
    | split
    | dsimp only

theorem execFbxOutWrite_frame {P : List Part} {t₀ : State} (core : Fin 8) (bank : Fin 3) (value : BitVec 32) (s : State) (mdrawn : Part.drawn ∈ P) (mmod : Part.mod ∈ P) (mpwr : Part.pwr ∈ P) (mvrc : Part.vrc ∈ P) (mrot : Part.rot ∈ P) (mcys : Part.cys ∈ P) (mclk : Part.clk ∈ P) (mtim : Part.tim ∈ P) (mbanks : Part.banks ∈ P) (mchans : Part.chans ∈ P) (mxn : Part.xn ∈ P) (mrecd : Part.recd ∈ P) (mkiln : Part.kiln ∈ P) (mtwl : Part.twl ∈ P) (mlnc : Part.lnc ∈ P) (mbrg : Part.brg ∈ P) (mbw : Part.bw ∈ P) (mints : Part.ints ∈ P) (mmems : Part.mems ∈ P) (mcores : Part.cores ∈ P) (mvmem : Part.vmem ∈ P) (mheld : Part.held ∈ P) (mnoted : Part.noted ∈ P) (mlic : Part.lic ∈ P) (h₀ : SameBut P t₀ s) :
    OutFr P t₀ (execFbxOutWrite core bank value s) := by
  unfold execFbxOutWrite
  repeat' first
    | with_reducible assumption
    | (rename_i hq; have hq2 := congrArg Prod.snd hq; with_reducible dsimp only at hq2; subst hq2)
    | simp only [↓fr_mk_iff, true_or, or_true, mdrawn, mmod, mpwr, mvrc, mrot, mcys, mclk, mtim, mbanks, mchans, mxn, mrecd, mkiln, mtwl, mlnc, mbrg, mbw, mints, mmems, mcores, mvmem, mheld, mnoted, mlic]
    | with_reducible refine fr_ite ?_ ?_
    | with_reducible refine outFr_ite ?_ ?_
    | with_reducible refine outFr_next.2 ?_
    | with_reducible refine fr_ite2 ?_ ?_
    | with_reducible refine fr_foldl ?_ (fun _ _ _ => ?_)
    | with_reducible refine writeReg_frame _ _ _ _ mdrawn mmod mpwr mvrc mrot mcys mclk mtim mbanks mchans mxn mrecd mkiln mtwl mlnc mbrg mbw mints mmems mcores mvmem mheld mnoted mlic ?_
    | split
    | dsimp only

theorem execFbxFltclrWrite_frame {P : List Part} {t₀ : State} (core : Fin 8) (bank : Fin 3) (value : BitVec 32) (s : State) (mdrawn : Part.drawn ∈ P) (mmod : Part.mod ∈ P) (mpwr : Part.pwr ∈ P) (mvrc : Part.vrc ∈ P) (mrot : Part.rot ∈ P) (mcys : Part.cys ∈ P) (mclk : Part.clk ∈ P) (mtim : Part.tim ∈ P) (mbanks : Part.banks ∈ P) (mchans : Part.chans ∈ P) (mxn : Part.xn ∈ P) (mrecd : Part.recd ∈ P) (mkiln : Part.kiln ∈ P) (mtwl : Part.twl ∈ P) (mlnc : Part.lnc ∈ P) (mbrg : Part.brg ∈ P) (mbw : Part.bw ∈ P) (mints : Part.ints ∈ P) (mmems : Part.mems ∈ P) (mcores : Part.cores ∈ P) (mvmem : Part.vmem ∈ P) (mheld : Part.held ∈ P) (mnoted : Part.noted ∈ P) (mlic : Part.lic ∈ P) (h₀ : SameBut P t₀ s) :
    OutFr P t₀ (execFbxFltclrWrite core bank value s) := by
  unfold execFbxFltclrWrite
  repeat' first
    | with_reducible assumption
    | (rename_i hq; have hq2 := congrArg Prod.snd hq; with_reducible dsimp only at hq2; subst hq2)
    | simp only [↓fr_mk_iff, true_or, or_true, mdrawn, mmod, mpwr, mvrc, mrot, mcys, mclk, mtim, mbanks, mchans, mxn, mrecd, mkiln, mtwl, mlnc, mbrg, mbw, mints, mmems, mcores, mvmem, mheld, mnoted, mlic]
    | with_reducible refine fr_ite ?_ ?_
    | with_reducible refine outFr_ite ?_ ?_
    | with_reducible refine outFr_next.2 ?_
    | with_reducible refine fr_ite2 ?_ ?_
    | with_reducible refine fr_foldl ?_ (fun _ _ _ => ?_)
    | with_reducible refine writeReg_frame _ _ _ _ mdrawn mmod mpwr mvrc mrot mcys mclk mtim mbanks mchans mxn mrecd mkiln mtwl mlnc mbrg mbw mints mmems mcores mvmem mheld mnoted mlic ?_
    | split
    | dsimp only

theorem execFbxEvt0Read_frame {P : List Part} {t₀ : State} (core : Fin 8) (bank : Fin 3) (d : Fin 32) (s : State) (mdrawn : Part.drawn ∈ P) (mmod : Part.mod ∈ P) (mpwr : Part.pwr ∈ P) (mvrc : Part.vrc ∈ P) (mrot : Part.rot ∈ P) (mcys : Part.cys ∈ P) (mclk : Part.clk ∈ P) (mtim : Part.tim ∈ P) (mbanks : Part.banks ∈ P) (mchans : Part.chans ∈ P) (mxn : Part.xn ∈ P) (mrecd : Part.recd ∈ P) (mkiln : Part.kiln ∈ P) (mtwl : Part.twl ∈ P) (mlnc : Part.lnc ∈ P) (mbrg : Part.brg ∈ P) (mbw : Part.bw ∈ P) (mints : Part.ints ∈ P) (mmems : Part.mems ∈ P) (mcores : Part.cores ∈ P) (mvmem : Part.vmem ∈ P) (mheld : Part.held ∈ P) (mnoted : Part.noted ∈ P) (mlic : Part.lic ∈ P) (h₀ : SameBut P t₀ s) :
    OutFr P t₀ (execFbxEvt0Read core bank d s) := by
  unfold execFbxEvt0Read
  repeat' first
    | with_reducible assumption
    | (rename_i hq; have hq2 := congrArg Prod.snd hq; with_reducible dsimp only at hq2; subst hq2)
    | simp only [↓fr_mk_iff, true_or, or_true, mdrawn, mmod, mpwr, mvrc, mrot, mcys, mclk, mtim, mbanks, mchans, mxn, mrecd, mkiln, mtwl, mlnc, mbrg, mbw, mints, mmems, mcores, mvmem, mheld, mnoted, mlic]
    | with_reducible refine fr_ite ?_ ?_
    | with_reducible refine outFr_ite ?_ ?_
    | with_reducible refine outFr_next.2 ?_
    | with_reducible refine fr_ite2 ?_ ?_
    | with_reducible refine fr_foldl ?_ (fun _ _ _ => ?_)
    | with_reducible refine readReg_frame _ _ _ _ mdrawn mmod mpwr mvrc mrot mcys mclk mtim mbanks mchans mxn mrecd mkiln mtwl mlnc mbrg mbw mints mmems mcores mvmem mheld mnoted mlic ?_
    | split
    | dsimp only

theorem execBrgErr0Read_frame {P : List Part} {t₀ : State} (core : Fin 8) (d : Fin 32) (s : State) (mdrawn : Part.drawn ∈ P) (mmod : Part.mod ∈ P) (mpwr : Part.pwr ∈ P) (mvrc : Part.vrc ∈ P) (mrot : Part.rot ∈ P) (mcys : Part.cys ∈ P) (mclk : Part.clk ∈ P) (mtim : Part.tim ∈ P) (mbanks : Part.banks ∈ P) (mchans : Part.chans ∈ P) (mxn : Part.xn ∈ P) (mrecd : Part.recd ∈ P) (mkiln : Part.kiln ∈ P) (mtwl : Part.twl ∈ P) (mlnc : Part.lnc ∈ P) (mbrg : Part.brg ∈ P) (mbw : Part.bw ∈ P) (mints : Part.ints ∈ P) (mmems : Part.mems ∈ P) (mcores : Part.cores ∈ P) (mvmem : Part.vmem ∈ P) (mheld : Part.held ∈ P) (mnoted : Part.noted ∈ P) (mlic : Part.lic ∈ P) (h₀ : SameBut P t₀ s) :
    OutFr P t₀ (execBrgErr0Read core d s) := by
  unfold execBrgErr0Read
  repeat' first
    | with_reducible assumption
    | (rename_i hq; have hq2 := congrArg Prod.snd hq; with_reducible dsimp only at hq2; subst hq2)
    | simp only [↓fr_mk_iff, true_or, or_true, mdrawn, mmod, mpwr, mvrc, mrot, mcys, mclk, mtim, mbanks, mchans, mxn, mrecd, mkiln, mtwl, mlnc, mbrg, mbw, mints, mmems, mcores, mvmem, mheld, mnoted, mlic]
    | with_reducible refine fr_ite ?_ ?_
    | with_reducible refine outFr_ite ?_ ?_
    | with_reducible refine outFr_next.2 ?_
    | with_reducible refine fr_ite2 ?_ ?_
    | with_reducible refine fr_foldl ?_ (fun _ _ _ => ?_)
    | with_reducible refine readReg_frame _ _ _ _ mdrawn mmod mpwr mvrc mrot mcys mclk mtim mbanks mchans mxn mrecd mkiln mtwl mlnc mbrg mbw mints mmems mcores mvmem mheld mnoted mlic ?_
    | split
    | dsimp only

theorem execBrgSyncRead_frame {P : List Part} {t₀ : State} (core : Fin 8) (d : Fin 32) (s : State) (mdrawn : Part.drawn ∈ P) (mmod : Part.mod ∈ P) (mpwr : Part.pwr ∈ P) (mvrc : Part.vrc ∈ P) (mrot : Part.rot ∈ P) (mcys : Part.cys ∈ P) (mclk : Part.clk ∈ P) (mtim : Part.tim ∈ P) (mbanks : Part.banks ∈ P) (mchans : Part.chans ∈ P) (mxn : Part.xn ∈ P) (mrecd : Part.recd ∈ P) (mkiln : Part.kiln ∈ P) (mtwl : Part.twl ∈ P) (mlnc : Part.lnc ∈ P) (mbrg : Part.brg ∈ P) (mbw : Part.bw ∈ P) (mints : Part.ints ∈ P) (mmems : Part.mems ∈ P) (mcores : Part.cores ∈ P) (mvmem : Part.vmem ∈ P) (mheld : Part.held ∈ P) (mnoted : Part.noted ∈ P) (mlic : Part.lic ∈ P) (h₀ : SameBut P t₀ s) :
    OutFr P t₀ (execBrgSyncRead core d s) := by
  unfold execBrgSyncRead
  repeat' first
    | with_reducible assumption
    | (rename_i hq; have hq2 := congrArg Prod.snd hq; with_reducible dsimp only at hq2; subst hq2)
    | simp only [↓fr_mk_iff, true_or, or_true, mdrawn, mmod, mpwr, mvrc, mrot, mcys, mclk, mtim, mbanks, mchans, mxn, mrecd, mkiln, mtwl, mlnc, mbrg, mbw, mints, mmems, mcores, mvmem, mheld, mnoted, mlic]
    | with_reducible refine fr_ite ?_ ?_
    | with_reducible refine outFr_ite ?_ ?_
    | with_reducible refine outFr_next.2 ?_
    | with_reducible refine fr_ite2 ?_ ?_
    | with_reducible refine fr_foldl ?_ (fun _ _ _ => ?_)
    | with_reducible refine readReg_frame _ _ _ _ mdrawn mmod mpwr mvrc mrot mcys mclk mtim mbanks mchans mxn mrecd mkiln mtwl mlnc mbrg mbw mints mmems mcores mvmem mheld mnoted mlic ?_
    | split
    | dsimp only

theorem execBrgRegionWrite_frame {P : List Part} {t₀ : State} (core : Fin 8) (region : Fin 16) (word : RegionWord) (value : BitVec 32) (s : State) (mdrawn : Part.drawn ∈ P) (mmod : Part.mod ∈ P) (mpwr : Part.pwr ∈ P) (mvrc : Part.vrc ∈ P) (mrot : Part.rot ∈ P) (mcys : Part.cys ∈ P) (mclk : Part.clk ∈ P) (mtim : Part.tim ∈ P) (mbanks : Part.banks ∈ P) (mchans : Part.chans ∈ P) (mxn : Part.xn ∈ P) (mrecd : Part.recd ∈ P) (mkiln : Part.kiln ∈ P) (mtwl : Part.twl ∈ P) (mlnc : Part.lnc ∈ P) (mbrg : Part.brg ∈ P) (mbw : Part.bw ∈ P) (mints : Part.ints ∈ P) (mmems : Part.mems ∈ P) (mcores : Part.cores ∈ P) (mvmem : Part.vmem ∈ P) (mheld : Part.held ∈ P) (mnoted : Part.noted ∈ P) (mlic : Part.lic ∈ P) (h₀ : SameBut P t₀ s) :
    OutFr P t₀ (execBrgRegionWrite core region word value s) := by
  unfold execBrgRegionWrite
  repeat' first
    | with_reducible assumption
    | (rename_i hq; have hq2 := congrArg Prod.snd hq; with_reducible dsimp only at hq2; subst hq2)
    | simp only [↓fr_mk_iff, true_or, or_true, mdrawn, mmod, mpwr, mvrc, mrot, mcys, mclk, mtim, mbanks, mchans, mxn, mrecd, mkiln, mtwl, mlnc, mbrg, mbw, mints, mmems, mcores, mvmem, mheld, mnoted, mlic]
    | with_reducible refine fr_ite ?_ ?_
    | with_reducible refine outFr_ite ?_ ?_
    | with_reducible refine outFr_next.2 ?_
    | with_reducible refine fr_ite2 ?_ ?_
    | with_reducible refine fr_foldl ?_ (fun _ _ _ => ?_)
    | with_reducible refine writeReg_frame _ _ _ _ mdrawn mmod mpwr mvrc mrot mcys mclk mtim mbanks mchans mxn mrecd mkiln mtwl mlnc mbrg mbw mints mmems mcores mvmem mheld mnoted mlic ?_
    | split
    | dsimp only

theorem execBrgIntstatClear_frame {P : List Part} {t₀ : State} (core : Fin 8) (value : BitVec 32) (s : State) (mdrawn : Part.drawn ∈ P) (mmod : Part.mod ∈ P) (mpwr : Part.pwr ∈ P) (mvrc : Part.vrc ∈ P) (mrot : Part.rot ∈ P) (mcys : Part.cys ∈ P) (mclk : Part.clk ∈ P) (mtim : Part.tim ∈ P) (mbanks : Part.banks ∈ P) (mchans : Part.chans ∈ P) (mxn : Part.xn ∈ P) (mrecd : Part.recd ∈ P) (mkiln : Part.kiln ∈ P) (mtwl : Part.twl ∈ P) (mlnc : Part.lnc ∈ P) (mbrg : Part.brg ∈ P) (mbw : Part.bw ∈ P) (mints : Part.ints ∈ P) (mmems : Part.mems ∈ P) (mcores : Part.cores ∈ P) (mvmem : Part.vmem ∈ P) (mheld : Part.held ∈ P) (mnoted : Part.noted ∈ P) (mlic : Part.lic ∈ P) (h₀ : SameBut P t₀ s) :
    OutFr P t₀ (execBrgIntstatClear core value s) := by
  unfold execBrgIntstatClear
  repeat' first
    | with_reducible assumption
    | (rename_i hq; have hq2 := congrArg Prod.snd hq; with_reducible dsimp only at hq2; subst hq2)
    | simp only [↓fr_mk_iff, true_or, or_true, mdrawn, mmod, mpwr, mvrc, mrot, mcys, mclk, mtim, mbanks, mchans, mxn, mrecd, mkiln, mtwl, mlnc, mbrg, mbw, mints, mmems, mcores, mvmem, mheld, mnoted, mlic]
    | with_reducible refine fr_ite ?_ ?_
    | with_reducible refine outFr_ite ?_ ?_
    | with_reducible refine outFr_next.2 ?_
    | with_reducible refine fr_ite2 ?_ ?_
    | with_reducible refine fr_foldl ?_ (fun _ _ _ => ?_)
    | with_reducible refine writeReg_frame _ _ _ _ mdrawn mmod mpwr mvrc mrot mcys mclk mtim mbanks mchans mxn mrecd mkiln mtwl mlnc mbrg mbw mints mmems mcores mvmem mheld mnoted mlic ?_
    | split
    | dsimp only

theorem execLncTxSeqWrite_frame {P : List Part} {t₀ : State} (core : Fin 8) (slot : Fin 8) (value : BitVec 32) (s : State) (mdrawn : Part.drawn ∈ P) (mmod : Part.mod ∈ P) (mpwr : Part.pwr ∈ P) (mvrc : Part.vrc ∈ P) (mrot : Part.rot ∈ P) (mcys : Part.cys ∈ P) (mclk : Part.clk ∈ P) (mtim : Part.tim ∈ P) (mbanks : Part.banks ∈ P) (mchans : Part.chans ∈ P) (mxn : Part.xn ∈ P) (mrecd : Part.recd ∈ P) (mkiln : Part.kiln ∈ P) (mtwl : Part.twl ∈ P) (mlnc : Part.lnc ∈ P) (mbrg : Part.brg ∈ P) (mbw : Part.bw ∈ P) (mints : Part.ints ∈ P) (mmems : Part.mems ∈ P) (mcores : Part.cores ∈ P) (mvmem : Part.vmem ∈ P) (mheld : Part.held ∈ P) (mnoted : Part.noted ∈ P) (mlic : Part.lic ∈ P) (h₀ : SameBut P t₀ s) :
    OutFr P t₀ (execLncTxSeqWrite core slot value s) := by
  unfold execLncTxSeqWrite
  repeat' first
    | with_reducible assumption
    | (rename_i hq; have hq2 := congrArg Prod.snd hq; with_reducible dsimp only at hq2; subst hq2)
    | simp only [↓fr_mk_iff, true_or, or_true, mdrawn, mmod, mpwr, mvrc, mrot, mcys, mclk, mtim, mbanks, mchans, mxn, mrecd, mkiln, mtwl, mlnc, mbrg, mbw, mints, mmems, mcores, mvmem, mheld, mnoted, mlic]
    | with_reducible refine fr_ite ?_ ?_
    | with_reducible refine outFr_ite ?_ ?_
    | with_reducible refine outFr_next.2 ?_
    | with_reducible refine fr_ite2 ?_ ?_
    | with_reducible refine fr_foldl ?_ (fun _ _ _ => ?_)
    | with_reducible refine writeReg_frame _ _ _ _ mdrawn mmod mpwr mvrc mrot mcys mclk mtim mbanks mchans mxn mrecd mkiln mtwl mlnc mbrg mbw mints mmems mcores mvmem mheld mnoted mlic ?_
    | split
    | dsimp only

theorem deliverAnswer_frame {P : List Part} {t₀ : State} (m : Option (Fin 8)) (a : Nat) (r : BusReply) (s : State) (mvrc : Part.vrc ∈ P) (mcys : Part.cys ∈ P) (mbanks : Part.banks ∈ P) (mrecd : Part.recd ∈ P) (mtwl : Part.twl ∈ P) (mints : Part.ints ∈ P) (mcores : Part.cores ∈ P) (mheld : Part.held ∈ P) (mnoted : Part.noted ∈ P) (mlic : Part.lic ∈ P) (h₀ : SameBut P t₀ s) :
    SameBut P t₀ (deliverAnswer m a r s) := by
  unfold deliverAnswer
  repeat' first
    | with_reducible assumption
    | (rename_i hq; have hq2 := congrArg Prod.snd hq; with_reducible dsimp only at hq2; subst hq2)
    | simp only [↓fr_mk_iff, true_or, or_true, mvrc, mcys, mbanks, mrecd, mtwl, mints, mcores, mheld, mnoted, mlic]
    | with_reducible refine fr_ite ?_ ?_
    | with_reducible refine outFr_ite ?_ ?_
    | with_reducible refine outFr_next.2 ?_
    | with_reducible refine fr_ite2 ?_ ?_
    | with_reducible refine fr_foldl ?_ (fun _ _ _ => ?_)
    | with_reducible refine appFault_frame _ mcys mbanks mrecd mtwl mints mcores mheld mnoted mlic ?_ | with_reducible refine mirrorShadow_frame _ mcores mlic ?_ | with_reducible refine mapCores_frame _ _ _ mcores mlic ?_ | with_reducible refine pushResponse_frame _ _ _ _ mvrc ?_
    | split
    | dsimp only

theorem syncDone_frame {P : List Part} {t₀ : State} (s : State) (mcores : Part.cores ∈ P) (mlic : Part.lic ∈ P) (h₀ : SameBut P t₀ s) :
    SameBut P t₀ (syncDone s) := by
  unfold syncDone
  repeat' first
    | with_reducible assumption
    | (rename_i hq; have hq2 := congrArg Prod.snd hq; with_reducible dsimp only at hq2; subst hq2)
    | simp only [↓fr_mk_iff, true_or, or_true, mcores, mlic]
    | with_reducible refine fr_ite ?_ ?_
    | with_reducible refine outFr_ite ?_ ?_
    | with_reducible refine outFr_next.2 ?_
    | with_reducible refine fr_ite2 ?_ ?_
    | with_reducible refine fr_foldl ?_ (fun _ _ _ => ?_)
    | with_reducible refine setCore_frame _ _ _ mcores mlic ?_
    | split
    | dsimp only

theorem dropPosted_frame {P : List Part} {t₀ : State} (s : State) (mbrg : Part.brg ∈ P) (h₀ : SameBut P t₀ s) :
    SameBut P t₀ (dropPosted s) := by
  unfold dropPosted
  repeat' first
    | with_reducible assumption
    | (rename_i hq; have hq2 := congrArg Prod.snd hq; with_reducible dsimp only at hq2; subst hq2)
    | simp only [↓fr_mk_iff, true_or, or_true, mbrg]
    | with_reducible refine fr_ite ?_ ?_
    | with_reducible refine outFr_ite ?_ ?_
    | with_reducible refine outFr_next.2 ?_
    | with_reducible refine fr_ite2 ?_ ?_
    | with_reducible refine fr_foldl ?_ (fun _ _ _ => ?_)
    | with_reducible refine setBrg_frame _ _ mbrg ?_
    | split
    | dsimp only

theorem execPostedWriteComplete_frame {P : List Part} {t₀ : State} (dt : Nat) (s : State) (mchans : Part.chans ∈ P) (mrecd : Part.recd ∈ P) (mkiln : Part.kiln ∈ P) (mcpn : Part.cpn ∈ P) (mcfd : Part.cfd ∈ P) (mbrg : Part.brg ∈ P) (mints : Part.ints ∈ P) (mcores : Part.cores ∈ P) (mvmem : Part.vmem ∈ P) (mheld : Part.held ∈ P) (mnoted : Part.noted ∈ P) (mlic : Part.lic ∈ P) (h₀ : SameBut P t₀ (advance dt s)) :
    OutFr P t₀ (execPostedWriteComplete dt s) := by
  unfold execPostedWriteComplete
  repeat' first
    | with_reducible assumption
    | (rename_i hq; have hq2 := congrArg Prod.snd hq; with_reducible dsimp only at hq2; subst hq2)
    | simp only [↓fr_mk_iff, true_or, or_true, mchans, mrecd, mkiln, mcpn, mcfd, mbrg, mints, mcores, mvmem, mheld, mnoted, mlic]
    | with_reducible refine fr_ite ?_ ?_
    | with_reducible refine outFr_ite ?_ ?_
    | with_reducible refine outFr_next.2 ?_
    | with_reducible refine fr_ite2 ?_ ?_
    | with_reducible refine fr_foldl ?_ (fun _ _ _ => ?_)
    | with_reducible refine dropPosted_frame _ mbrg ?_ | with_reducible refine farError_frame _ _ _ mrecd mbrg mints mheld mnoted mlic ?_ | with_reducible refine farWrite_frame _ _ _ _ _ mchans mrecd mkiln mcpn mcfd mvmem mnoted ?_ _ ‹_› | with_reducible refine syncDone_frame _ mcores mlic ?_
    | split
    | dsimp only

theorem execBrgPwerr_frame {P : List Part} {t₀ : State} (dt : Nat) (status : FarStatus) (s : State) (mrecd : Part.recd ∈ P) (mbrg : Part.brg ∈ P) (mints : Part.ints ∈ P) (mcores : Part.cores ∈ P) (mheld : Part.held ∈ P) (mnoted : Part.noted ∈ P) (mlic : Part.lic ∈ P) (h₀ : SameBut P t₀ (advance dt s)) :
    OutFr P t₀ (execBrgPwerr dt status s) := by
  unfold execBrgPwerr
  repeat' first
    | with_reducible assumption
    | (rename_i hq; have hq2 := congrArg Prod.snd hq; with_reducible dsimp only at hq2; subst hq2)
    | simp only [↓fr_mk_iff, true_or, or_true, mrecd, mbrg, mints, mcores, mheld, mnoted, mlic]
    | with_reducible refine fr_ite ?_ ?_
    | with_reducible refine outFr_ite ?_ ?_
    | with_reducible refine outFr_next.2 ?_
    | with_reducible refine fr_ite2 ?_ ?_
    | with_reducible refine fr_foldl ?_ (fun _ _ _ => ?_)
    | with_reducible refine syncDone_frame _ mcores mlic ?_ | with_reducible refine farError_frame _ _ _ mrecd mbrg mints mheld mnoted mlic ?_ | with_reducible refine dropPosted_frame _ mbrg ?_
    | split
    | dsimp only

theorem dropRead_frame {P : List Part} {t₀ : State} (r : FarRead) (s : State) (mbrg : Part.brg ∈ P) (h₀ : SameBut P t₀ s) :
    SameBut P t₀ (dropRead r s) := by
  unfold dropRead
  repeat' first
    | with_reducible assumption
    | (rename_i hq; have hq2 := congrArg Prod.snd hq; with_reducible dsimp only at hq2; subst hq2)
    | simp only [↓fr_mk_iff, true_or, or_true, mbrg]
    | with_reducible refine fr_ite ?_ ?_
    | with_reducible refine outFr_ite ?_ ?_
    | with_reducible refine outFr_next.2 ?_
    | with_reducible refine fr_ite2 ?_ ?_
    | with_reducible refine fr_foldl ?_ (fun _ _ _ => ?_)
    | with_reducible refine setBrg_frame _ _ mbrg ?_
    | split
    | dsimp only

theorem farFail_frame {P : List Part} {t₀ : State} (r : FarRead) (s : State) (mdrawn : Part.drawn ∈ P) (mvrc : Part.vrc ∈ P) (mcys : Part.cys ∈ P) (mclk : Part.clk ∈ P) (mbanks : Part.banks ∈ P) (mrecd : Part.recd ∈ P) (mtwl : Part.twl ∈ P) (mints : Part.ints ∈ P) (mcores : Part.cores ∈ P) (mheld : Part.held ∈ P) (mnoted : Part.noted ∈ P) (mlic : Part.lic ∈ P) (h₀ : SameBut P t₀ s) :
    SameBut P t₀ (farFail r s) := by
  unfold farFail
  repeat' first
    | with_reducible assumption
    | (rename_i hq; have hq2 := congrArg Prod.snd hq; with_reducible dsimp only at hq2; subst hq2)
    | simp only [↓fr_mk_iff, true_or, or_true, mdrawn, mvrc, mcys, mclk, mbanks, mrecd, mtwl, mints, mcores, mheld, mnoted, mlic]
    | with_reducible refine fr_ite ?_ ?_
    | with_reducible refine outFr_ite ?_ ?_
    | with_reducible refine outFr_next.2 ?_
    | with_reducible refine fr_ite2 ?_ ?_
    | with_reducible refine fr_foldl ?_ (fun _ _ _ => ?_)
    | with_reducible refine drawWord_frame _ mdrawn ?_ | with_reducible refine deliverAnswer_frame _ _ _ _ mvrc mcys mbanks mrecd mtwl mints mcores mheld mnoted mlic ?_ | with_reducible refine busError_frame _ _ _ _ _ mclk mrecd mints mheld mnoted mlic ?_
    | split
    | dsimp only

theorem farLine_frame {P : List Part} {t₀ : State} (base n : Nat) (s : State) (mdrawn : Part.drawn ∈ P) (mrecd : Part.recd ∈ P)
    (h₀ : SameBut P t₀ s) : SameBut P t₀ (farLine base n s).2 := by
  induction n generalizing s with
  | zero => exact h₀
  | succ n ih => exact ih _ (farRead_frame _ _ _ mdrawn mrecd h₀)

theorem addLine_frame {P : List Part} {t₀ : State} (base region : Nat) (s : State) (mdrawn : Part.drawn ∈ P) (mrecd : Part.recd ∈ P) (mbrg : Part.brg ∈ P) (mints : Part.ints ∈ P) (mheld : Part.held ∈ P) (mnoted : Part.noted ∈ P) (mlic : Part.lic ∈ P)
    (h₀ : SameBut P t₀ s) : SameBut P t₀ (addLine base region s) := by
  unfold addLine
  dsimp only
  refine setBrg_frame _ _ mbrg (farLine_frame _ _ _ mdrawn mrecd ?_)
  split
  · exact dropLine_frame _ _ mrecd mbrg mints mheld mnoted mlic h₀
  · exact h₀

theorem prefetchRead_frame {P : List Part} {t₀ : State} (r : FarRead) (region : Nat) (s : State) (mdrawn : Part.drawn ∈ P) (mrecd : Part.recd ∈ P) (mbrg : Part.brg ∈ P) (mints : Part.ints ∈ P) (mheld : Part.held ∈ P) (mnoted : Part.noted ∈ P) (mlic : Part.lic ∈ P) (h₀ : SameBut P t₀ s) :
    SameBut P t₀ (prefetchRead r region s).2 := by
  unfold prefetchRead
  repeat' first
    | with_reducible assumption
    | (rename_i hq; have hq2 := congrArg Prod.snd hq; with_reducible dsimp only at hq2; subst hq2)
    | simp only [↓fr_mk_iff, true_or, or_true, mdrawn, mrecd, mbrg, mints, mheld, mnoted, mlic]
    | with_reducible refine fr_ite ?_ ?_
    | with_reducible refine outFr_ite ?_ ?_
    | with_reducible refine outFr_next.2 ?_
    | with_reducible refine fr_ite2 ?_ ?_
    | with_reducible refine fr_foldl ?_ (fun _ _ _ => ?_)
    | with_reducible refine addLine_frame _ _ _ mdrawn mrecd mbrg mints mheld mnoted mlic ?_ | with_reducible refine setBrg_frame _ _ mbrg ?_ | with_reducible refine farRead_frame _ _ _ mdrawn mrecd ?_
    | split
    | dsimp only

theorem execFarSideReadResponse_frame {P : List Part} {t₀ : State} (dt : Nat) (failed : Bool) (s : State) (mdrawn : Part.drawn ∈ P) (mvrc : Part.vrc ∈ P) (mcys : Part.cys ∈ P) (mclk : Part.clk ∈ P) (mbanks : Part.banks ∈ P) (mchans : Part.chans ∈ P) (mrecd : Part.recd ∈ P) (mkiln : Part.kiln ∈ P) (mtwl : Part.twl ∈ P) (mcpn : Part.cpn ∈ P) (mcfd : Part.cfd ∈ P) (mbrg : Part.brg ∈ P) (mints : Part.ints ∈ P) (mcores : Part.cores ∈ P) (mvmem : Part.vmem ∈ P) (mheld : Part.held ∈ P) (mnoted : Part.noted ∈ P) (mlic : Part.lic ∈ P) (h₀ : SameBut P t₀ (advance dt s)) :
    OutFr P t₀ (execFarSideReadResponse dt failed s) := by
  unfold execFarSideReadResponse
  repeat' first
    | with_reducible assumption
    | (rename_i hq; have hq2 := congrArg Prod.snd hq; with_reducible dsimp only at hq2; subst hq2)
    | simp only [↓fr_mk_iff, true_or, or_true, mdrawn, mvrc, mcys, mclk, mbanks, mchans, mrecd, mkiln, mtwl, mcpn, mcfd, mbrg, mints, mcores, mvmem, mheld, mnoted, mlic]
    | with_reducible refine fr_ite ?_ ?_
    | with_reducible refine outFr_ite ?_ ?_
    | with_reducible refine outFr_next.2 ?_
    | with_reducible refine fr_ite2 ?_ ?_
    | with_reducible refine fr_foldl ?_ (fun _ _ _ => ?_)
    | with_reducible refine dropRead_frame _ _ mbrg ?_ | with_reducible refine farFail_frame _ _ mdrawn mvrc mcys mclk mbanks mrecd mtwl mints mcores mheld mnoted mlic ?_ | with_reducible refine farWrite_frame _ _ _ _ _ mchans mrecd mkiln mcpn mcfd mvmem mnoted ?_ _ ‹_› | with_reducible refine deliverAnswer_frame _ _ _ _ mvrc mcys mbanks mrecd mtwl mints mcores mheld mnoted mlic ?_ | with_reducible refine prefetchRead_frame _ _ _ mdrawn mrecd mbrg mints mheld mnoted mlic ?_ | with_reducible refine farRead_frame _ _ _ mdrawn mrecd ?_
    | split
    | dsimp only

theorem execFarSideReadTimeout_frame {P : List Part} {t₀ : State} (dt : Nat) (s : State) (mdrawn : Part.drawn ∈ P) (mvrc : Part.vrc ∈ P) (mcys : Part.cys ∈ P) (mclk : Part.clk ∈ P) (mbanks : Part.banks ∈ P) (mrecd : Part.recd ∈ P) (mtwl : Part.twl ∈ P) (mbrg : Part.brg ∈ P) (mints : Part.ints ∈ P) (mcores : Part.cores ∈ P) (mheld : Part.held ∈ P) (mnoted : Part.noted ∈ P) (mlic : Part.lic ∈ P) (h₀ : SameBut P t₀ (advance dt s)) :
    OutFr P t₀ (execFarSideReadTimeout dt s) := by
  unfold execFarSideReadTimeout
  repeat' first
    | with_reducible assumption
    | (rename_i hq; have hq2 := congrArg Prod.snd hq; with_reducible dsimp only at hq2; subst hq2)
    | simp only [↓fr_mk_iff, true_or, or_true, mdrawn, mvrc, mcys, mclk, mbanks, mrecd, mtwl, mbrg, mints, mcores, mheld, mnoted, mlic]
    | with_reducible refine fr_ite ?_ ?_
    | with_reducible refine outFr_ite ?_ ?_
    | with_reducible refine outFr_next.2 ?_
    | with_reducible refine fr_ite2 ?_ ?_
    | with_reducible refine fr_foldl ?_ (fun _ _ _ => ?_)
    | with_reducible refine farFail_frame _ _ mdrawn mvrc mcys mclk mbanks mrecd mtwl mints mcores mheld mnoted mlic ?_ | with_reducible refine dropRead_frame _ _ mbrg ?_
    | split
    | dsimp only

theorem execBrgTagFree_frame {P : List Part} {t₀ : State} (dt : Nat) (s : State) (mvrc : Part.vrc ∈ P) (mcys : Part.cys ∈ P) (mclk : Part.clk ∈ P) (mbanks : Part.banks ∈ P) (mrecd : Part.recd ∈ P) (mtwl : Part.twl ∈ P) (mbrg : Part.brg ∈ P) (mints : Part.ints ∈ P) (mcores : Part.cores ∈ P) (mheld : Part.held ∈ P) (mnoted : Part.noted ∈ P) (mlic : Part.lic ∈ P) (h₀ : SameBut P t₀ (advance dt s)) :
    OutFr P t₀ (execBrgTagFree dt s) := by
  unfold execBrgTagFree
  repeat' first
    | with_reducible assumption
    | (rename_i hq; have hq2 := congrArg Prod.snd hq; with_reducible dsimp only at hq2; subst hq2)
    | simp only [↓fr_mk_iff, true_or, or_true, mvrc, mcys, mclk, mbanks, mrecd, mtwl, mbrg, mints, mcores, mheld, mnoted, mlic]
    | with_reducible refine fr_ite ?_ ?_
    | with_reducible refine outFr_ite ?_ ?_
    | with_reducible refine outFr_next.2 ?_
    | with_reducible refine fr_ite2 ?_ ?_
    | with_reducible refine fr_foldl ?_ (fun _ _ _ => ?_)
    | with_reducible refine setBrg_frame _ _ mbrg ?_ | with_reducible refine brgAccess_frame _ _ _ mclk mrecd mbrg mints mheld mnoted mlic ?_ | with_reducible refine deliverAnswer_frame _ _ _ _ mvrc mcys mbanks mrecd mtwl mints mcores mheld mnoted mlic ?_
    | split
    | dsimp only

theorem execBrgSemExpired_frame {P : List Part} {t₀ : State} (dt : Nat) (region : Fin 16) (s : State) (mrecd : Part.recd ∈ P) (mbrg : Part.brg ∈ P) (mints : Part.ints ∈ P) (mheld : Part.held ∈ P) (mnoted : Part.noted ∈ P) (mlic : Part.lic ∈ P) (h₀ : SameBut P t₀ (advance dt s)) :
    OutFr P t₀ (execBrgSemExpired dt region s) := by
  unfold execBrgSemExpired
  repeat' first
    | with_reducible assumption
    | (rename_i hq; have hq2 := congrArg Prod.snd hq; with_reducible dsimp only at hq2; subst hq2)
    | simp only [↓fr_mk_iff, true_or, or_true, mrecd, mbrg, mints, mheld, mnoted, mlic]
    | with_reducible refine fr_ite ?_ ?_
    | with_reducible refine outFr_ite ?_ ?_
    | with_reducible refine outFr_next.2 ?_
    | with_reducible refine fr_ite2 ?_ ?_
    | with_reducible refine fr_foldl ?_ (fun _ _ _ => ?_)
    | with_reducible refine raise_frame _ _ mints mheld mlic ?_ | with_reducible refine record_frame _ _ _ _ _ _ mrecd mnoted ?_ | with_reducible refine setBrg_frame _ _ mbrg ?_
    | split
    | dsimp only

theorem execPrefetchExpiry_frame {P : List Part} {t₀ : State} (dt : Nat) (s : State) (mrecd : Part.recd ∈ P) (mbrg : Part.brg ∈ P) (mints : Part.ints ∈ P) (mheld : Part.held ∈ P) (mnoted : Part.noted ∈ P) (mlic : Part.lic ∈ P) (h₀ : SameBut P t₀ (advance dt s)) :
    OutFr P t₀ (execPrefetchExpiry dt s) := by
  unfold execPrefetchExpiry
  repeat' first
    | with_reducible assumption
    | (rename_i hq; have hq2 := congrArg Prod.snd hq; with_reducible dsimp only at hq2; subst hq2)
    | simp only [↓fr_mk_iff, true_or, or_true, mrecd, mbrg, mints, mheld, mnoted, mlic]
    | with_reducible refine fr_ite ?_ ?_
    | with_reducible refine outFr_ite ?_ ?_
    | with_reducible refine outFr_next.2 ?_
    | with_reducible refine fr_ite2 ?_ ?_
    | with_reducible refine fr_foldl ?_ (fun _ _ _ => ?_)
    | with_reducible refine dropLine_frame _ _ mrecd mbrg mints mheld mnoted mlic ?_
    | split
    | dsimp only

theorem execForwardedInterruptEdge_frame {P : List Part} {t₀ : State} (block : FarBlock) (s : State) (mints : Part.ints ∈ P) (mheld : Part.held ∈ P) (mlic : Part.lic ∈ P) (h₀ : SameBut P t₀ s) :
    OutFr P t₀ (execForwardedInterruptEdge block s) := by
  unfold execForwardedInterruptEdge
  repeat' first
    | with_reducible assumption
    | (rename_i hq; have hq2 := congrArg Prod.snd hq; with_reducible dsimp only at hq2; subst hq2)
    | simp only [↓fr_mk_iff, true_or, or_true, mints, mheld, mlic]
    | with_reducible refine fr_ite ?_ ?_
    | with_reducible refine outFr_ite ?_ ?_
    | with_reducible refine outFr_next.2 ?_
    | with_reducible refine fr_ite2 ?_ ?_
    | with_reducible refine fr_foldl ?_ (fun _ _ _ => ?_)
    | with_reducible refine raise_frame _ _ mints mheld mlic ?_
    | split
    | dsimp only

theorem execRecEv3Write_frame {P : List Part} {t₀ : State} (value : BitVec 32) (s : State) (mrecd : Part.recd ∈ P) (mnoted : Part.noted ∈ P) (h₀ : SameBut P t₀ s) :
    OutFr P t₀ (execRecEv3Write value s) := by
  unfold execRecEv3Write
  repeat' first
    | with_reducible assumption
    | (rename_i hq; have hq2 := congrArg Prod.snd hq; with_reducible dsimp only at hq2; subst hq2)
    | simp only [↓fr_mk_iff, true_or, or_true, mrecd, mnoted]
    | with_reducible refine fr_ite ?_ ?_
    | with_reducible refine outFr_ite ?_ ?_
    | with_reducible refine outFr_next.2 ?_
    | with_reducible refine fr_ite2 ?_ ?_
    | with_reducible refine fr_foldl ?_ (fun _ _ _ => ?_)
    | with_reducible refine recEvWrite_frame _ _ _ mrecd mnoted ?_
    | split
    | dsimp only

theorem execKlmVerdict7Write_frame {P : List Part} {t₀ : State} (value : BitVec 32) (s : State) (mkiln : Part.kiln ∈ P) (h₀ : SameBut P t₀ s) :
    OutFr P t₀ (execKlmVerdict7Write value s) := by
  unfold execKlmVerdict7Write
  repeat' first
    | with_reducible assumption
    | (rename_i hq; have hq2 := congrArg Prod.snd hq; with_reducible dsimp only at hq2; subst hq2)
    | simp only [↓fr_mk_iff, true_or, or_true, mkiln]
    | with_reducible refine fr_ite ?_ ?_
    | with_reducible refine outFr_ite ?_ ?_
    | with_reducible refine outFr_next.2 ?_
    | with_reducible refine fr_ite2 ?_ ?_
    | with_reducible refine fr_foldl ?_ (fun _ _ _ => ?_)
    | with_reducible refine verdictWrite_frame _ _ _ mkiln ?_
    | split
    | dsimp only

theorem execCfdTpdotrigWrite_frame {P : List Part} {t₀ : State} (value : BitVec 32) (s : State) (mchans : Part.chans ∈ P) (mcfd : Part.cfd ∈ P) (h₀ : SameBut P t₀ s) :
    OutFr P t₀ (execCfdTpdotrigWrite value s) := by
  unfold execCfdTpdotrigWrite
  repeat' first
    | with_reducible assumption
    | (rename_i hq; have hq2 := congrArg Prod.snd hq; with_reducible dsimp only at hq2; subst hq2)
    | simp only [↓fr_mk_iff, true_or, or_true, mchans, mcfd]
    | with_reducible refine fr_ite ?_ ?_
    | with_reducible refine outFr_ite ?_ ?_
    | with_reducible refine outFr_next.2 ?_
    | with_reducible refine fr_ite2 ?_ ?_
    | with_reducible refine fr_foldl ?_ (fun _ _ _ => ?_)
    | with_reducible refine tpdoTrig_frame _ _ mchans mcfd ?_
    | split
    | dsimp only

theorem setBoot_frame {P : List Part} {t₀ : State} (f : Boot → Boot) (s : State) (mboot : Part.boot ∈ P) (h₀ : SameBut P t₀ s) :
    SameBut P t₀ (setBoot f s) := by
  unfold setBoot
  repeat' first
    | with_reducible assumption
    | (rename_i hq; have hq2 := congrArg Prod.snd hq; with_reducible dsimp only at hq2; subst hq2)
    | simp only [↓fr_mk_iff, true_or, or_true, mboot]
    | with_reducible refine fr_ite ?_ ?_
    | with_reducible refine outFr_ite ?_ ?_
    | with_reducible refine outFr_next.2 ?_
    | with_reducible refine fr_ite2 ?_ ?_
    | with_reducible refine fr_foldl ?_ (fun _ _ _ => ?_)
    | split
    | dsimp only

theorem setPwr_frame {P : List Part} {t₀ : State} (f : Power → Power) (s : State) (mpwr : Part.pwr ∈ P) (h₀ : SameBut P t₀ s) :
    SameBut P t₀ (setPwr f s) := by
  unfold setPwr
  repeat' first
    | with_reducible assumption
    | (rename_i hq; have hq2 := congrArg Prod.snd hq; with_reducible dsimp only at hq2; subst hq2)
    | simp only [↓fr_mk_iff, true_or, or_true, mpwr]
    | with_reducible refine fr_ite ?_ ?_
    | with_reducible refine outFr_ite ?_ ?_
    | with_reducible refine outFr_next.2 ?_
    | with_reducible refine fr_ite2 ?_ ?_
    | with_reducible refine fr_foldl ?_ (fun _ _ _ => ?_)
    | split
    | dsimp only

theorem setKiln_frame {P : List Part} {t₀ : State} (f : Kiln → Kiln) (s : State) (mkiln : Part.kiln ∈ P) (h₀ : SameBut P t₀ s) :
    SameBut P t₀ (setKiln f s) := by
  unfold setKiln
  repeat' first
    | with_reducible assumption
    | (rename_i hq; have hq2 := congrArg Prod.snd hq; with_reducible dsimp only at hq2; subst hq2)
    | simp only [↓fr_mk_iff, true_or, or_true, mkiln]
    | with_reducible refine fr_ite ?_ ?_
    | with_reducible refine outFr_ite ?_ ?_
    | with_reducible refine outFr_next.2 ?_
    | with_reducible refine fr_ite2 ?_ ?_
    | with_reducible refine fr_foldl ?_ (fun _ _ _ => ?_)
    | split
    | dsimp only

theorem abandonFw_frame {P : List Part} {t₀ : State} (s : State) (mrecd : Part.recd ∈ P) (mboot : Part.boot ∈ P) (mnoted : Part.noted ∈ P) (h₀ : SameBut P t₀ s) :
    SameBut P t₀ (abandonFw s) := by
  unfold abandonFw
  repeat' first
    | with_reducible assumption
    | (rename_i hq; have hq2 := congrArg Prod.snd hq; with_reducible dsimp only at hq2; subst hq2)
    | simp only [↓fr_mk_iff, true_or, or_true, mrecd, mboot, mnoted]
    | with_reducible refine fr_ite ?_ ?_
    | with_reducible refine outFr_ite ?_ ?_
    | with_reducible refine outFr_next.2 ?_
    | with_reducible refine fr_ite2 ?_ ?_
    | with_reducible refine fr_foldl ?_ (fun _ _ _ => ?_)
    | with_reducible refine record_frame _ _ _ _ _ _ mrecd mnoted ?_ | with_reducible refine setBoot_frame _ _ mboot ?_
    | split
    | dsimp only

theorem abandonApp_frame {P : List Part} {t₀ : State} (s : State) (mrecd : Part.recd ∈ P) (mboot : Part.boot ∈ P) (mnoted : Part.noted ∈ P) (h₀ : SameBut P t₀ s) :
    SameBut P t₀ (abandonApp s) := by
  unfold abandonApp
  repeat' first
    | with_reducible assumption
    | (rename_i hq; have hq2 := congrArg Prod.snd hq; with_reducible dsimp only at hq2; subst hq2)
    | simp only [↓fr_mk_iff, true_or, or_true, mrecd, mboot, mnoted]
    | with_reducible refine fr_ite ?_ ?_
    | with_reducible refine outFr_ite ?_ ?_
    | with_reducible refine outFr_next.2 ?_
    | with_reducible refine fr_ite2 ?_ ?_
    | with_reducible refine fr_foldl ?_ (fun _ _ _ => ?_)
    | with_reducible refine record_frame _ _ _ _ _ _ mrecd mnoted ?_ | with_reducible refine setBoot_frame _ _ mboot ?_
    | split
    | dsimp only

theorem abandonSched_frame {P : List Part} {t₀ : State} (s : State) (mrecd : Part.recd ∈ P) (mboot : Part.boot ∈ P) (mnoted : Part.noted ∈ P) (h₀ : SameBut P t₀ s) :
    SameBut P t₀ (abandonSched s) := by
  unfold abandonSched
  repeat' first
    | with_reducible assumption
    | (rename_i hq; have hq2 := congrArg Prod.snd hq; with_reducible dsimp only at hq2; subst hq2)
    | simp only [↓fr_mk_iff, true_or, or_true, mrecd, mboot, mnoted]
    | with_reducible refine fr_ite ?_ ?_
    | with_reducible refine outFr_ite ?_ ?_
    | with_reducible refine outFr_next.2 ?_
    | with_reducible refine fr_ite2 ?_ ?_
    | with_reducible refine fr_foldl ?_ (fun _ _ _ => ?_)
    | with_reducible refine record_frame _ _ _ _ _ _ mrecd mnoted ?_ | with_reducible refine setBoot_frame _ _ mboot ?_
    | split
    | dsimp only

theorem abandonAll_frame {P : List Part} {t₀ : State} (s : State) (mrecd : Part.recd ∈ P) (mboot : Part.boot ∈ P) (mnoted : Part.noted ∈ P) (h₀ : SameBut P t₀ s) :
    SameBut P t₀ (abandonAll s) := by
  unfold abandonAll
  repeat' first
    | with_reducible assumption
    | (rename_i hq; have hq2 := congrArg Prod.snd hq; with_reducible dsimp only at hq2; subst hq2)
    | simp only [↓fr_mk_iff, true_or, or_true, mrecd, mboot, mnoted]
    | with_reducible refine fr_ite ?_ ?_
    | with_reducible refine outFr_ite ?_ ?_
    | with_reducible refine outFr_next.2 ?_
    | with_reducible refine fr_ite2 ?_ ?_
    | with_reducible refine fr_foldl ?_ (fun _ _ _ => ?_)
    | with_reducible refine abandonSched_frame _ mrecd mboot mnoted ?_ | with_reducible refine abandonApp_frame _ mrecd mboot mnoted ?_ | with_reducible refine abandonFw_frame _ mrecd mboot mnoted ?_
    | split
    | dsimp only

theorem blocksFresh_frame {P : List Part} {t₀ : State} (kind : Nat) (s : State) (mvrc : Part.vrc ∈ P) (mrot : Part.rot ∈ P) (mcys : Part.cys ∈ P) (mclk : Part.clk ∈ P) (mbanks : Part.banks ∈ P) (mxn : Part.xn ∈ P) (mboot : Part.boot ∈ P) (mkiln : Part.kiln ∈ P) (mtwl : Part.twl ∈ P) (mlnc : Part.lnc ∈ P) (mcpn : Part.cpn ∈ P) (mcfd : Part.cfd ∈ P) (mbrg : Part.brg ∈ P) (mints : Part.ints ∈ P) (mcores : Part.cores ∈ P) (mvmem : Part.vmem ∈ P) (mheld : Part.held ∈ P) (mnoted : Part.noted ∈ P) (mlic : Part.lic ∈ P) (h₀ : SameBut P t₀ s) :
    SameBut P t₀ (blocksFresh kind s) := by
  unfold blocksFresh
  repeat' first
    | with_reducible assumption
    | (rename_i hq; have hq2 := congrArg Prod.snd hq; with_reducible dsimp only at hq2; subst hq2)
    | simp only [↓fr_mk_iff, true_or, or_true, mvrc, mrot, mcys, mclk, mbanks, mxn, mboot, mkiln, mtwl, mlnc, mcpn, mcfd, mbrg, mints, mcores, mvmem, mheld, mnoted, mlic]
    | with_reducible refine fr_ite ?_ ?_
    | with_reducible refine outFr_ite ?_ ?_
    | with_reducible refine outFr_next.2 ?_
    | with_reducible refine fr_ite2 ?_ ?_
    | with_reducible refine fr_foldl ?_ (fun _ _ _ => ?_)
    | split
    | dsimp only

theorem domainsOff_frame {P : List Part} {t₀ : State} (s : State) (mpwr : Part.pwr ∈ P) (mvrc : Part.vrc ∈ P) (mrot : Part.rot ∈ P) (mcys : Part.cys ∈ P) (mxn : Part.xn ∈ P) (mrecd : Part.recd ∈ P) (mkiln : Part.kiln ∈ P) (mtwl : Part.twl ∈ P) (mcpn : Part.cpn ∈ P) (mcfd : Part.cfd ∈ P) (mbrg : Part.brg ∈ P) (mbw : Part.bw ∈ P) (mints : Part.ints ∈ P) (mmems : Part.mems ∈ P) (mcores : Part.cores ∈ P) (mvmem : Part.vmem ∈ P) (mheld : Part.held ∈ P) (mnoted : Part.noted ∈ P) (mlic : Part.lic ∈ P) (h₀ : SameBut P t₀ s) :
    SameBut P t₀ (domainsOff s) := by
  unfold domainsOff
  repeat' first
    | with_reducible assumption
    | (rename_i hq; have hq2 := congrArg Prod.snd hq; with_reducible dsimp only at hq2; subst hq2)
    | simp only [↓fr_mk_iff, true_or, or_true, mpwr, mvrc, mrot, mcys, mxn, mrecd, mkiln, mtwl, mcpn, mcfd, mbrg, mbw, mints, mmems, mcores, mvmem, mheld, mnoted, mlic]
    | with_reducible refine fr_ite ?_ ?_
    | with_reducible refine outFr_ite ?_ ?_
    | with_reducible refine outFr_next.2 ?_
    | with_reducible refine fr_ite2 ?_ ?_
    | with_reducible refine fr_foldl ?_ (fun _ _ _ => ?_)
    | with_reducible refine busLeave_frame _ mxn mrecd mkiln mints mheld mnoted mlic ?_
    | split
    | dsimp only

theorem domainRamp_frame {P : List Part} {t₀ : State} (s : State) (mclk : Part.clk ∈ P) (h₀ : SameBut P t₀ s) :
    SameBut P t₀ (domainRamp s) := by
  unfold domainRamp
  repeat' first
    | with_reducible assumption
    | (rename_i hq; have hq2 := congrArg Prod.snd hq; with_reducible dsimp only at hq2; subst hq2)
    | simp only [↓fr_mk_iff, true_or, or_true, mclk]
    | with_reducible refine fr_ite ?_ ?_
    | with_reducible refine outFr_ite ?_ ?_
    | with_reducible refine outFr_next.2 ?_
    | with_reducible refine fr_ite2 ?_ ?_
    | with_reducible refine fr_foldl ?_ (fun _ _ _ => ?_)
    | split
    | dsimp only

theorem networksOpen_frame {P : List Part} {t₀ : State} (s : State) (mchans : Part.chans ∈ P) (h₀ : SameBut P t₀ s) :
    SameBut P t₀ (networksOpen s) := by
  unfold networksOpen
  repeat' first
    | with_reducible assumption
    | (rename_i hq; have hq2 := congrArg Prod.snd hq; with_reducible dsimp only at hq2; subst hq2)
    | simp only [↓fr_mk_iff, true_or, or_true, mchans]
    | with_reducible refine fr_ite ?_ ?_
    | with_reducible refine outFr_ite ?_ ?_
    | with_reducible refine outFr_next.2 ?_
    | with_reducible refine fr_ite2 ?_ ?_
    | with_reducible refine fr_foldl ?_ (fun _ _ _ => ?_)
    | split
    | dsimp only

theorem leaveForReset_frame {P : List Part} {t₀ : State} (cause : Nat) (s : State) (mvrc : Part.vrc ∈ P) (mrot : Part.rot ∈ P) (mcys : Part.cys ∈ P) (mbanks : Part.banks ∈ P) (mchans : Part.chans ∈ P) (mxn : Part.xn ∈ P) (mrecd : Part.recd ∈ P) (mkiln : Part.kiln ∈ P) (mtwl : Part.twl ∈ P) (mints : Part.ints ∈ P) (mheld : Part.held ∈ P) (mnoted : Part.noted ∈ P) (mlic : Part.lic ∈ P) (h₀ : SameBut P t₀ s) :
    SameBut P t₀ (leaveForReset cause s) := by
  unfold leaveForReset
  repeat' first
    | with_reducible assumption
    | (rename_i hq; have hq2 := congrArg Prod.snd hq; with_reducible dsimp only at hq2; subst hq2)
    | simp only [↓fr_mk_iff, true_or, or_true, mvrc, mrot, mcys, mbanks, mchans, mxn, mrecd, mkiln, mtwl, mints, mheld, mnoted, mlic]
    | with_reducible refine fr_ite ?_ ?_
    | with_reducible refine outFr_ite ?_ ?_
    | with_reducible refine outFr_next.2 ?_
    | with_reducible refine fr_ite2 ?_ ?_
    | with_reducible refine fr_foldl ?_ (fun _ _ _ => ?_)
    | with_reducible refine leaveRun_frame _ _ _ _ mvrc mrot mcys mbanks mchans mxn mrecd mkiln mtwl mints mheld mnoted mlic ?_ | with_reducible refine setVote_frame _ _ _ _ mvrc mrecd mints mheld mnoted mlic ?_ | with_reducible refine twinHold_frame _ _ mbanks ?_
    | split
    | dsimp only

theorem twinFiring_frame {P : List Part} {t₀ : State} (s : State) (mrecd : Part.recd ∈ P) (mtwl : Part.twl ∈ P) (mints : Part.ints ∈ P) (mheld : Part.held ∈ P) (mnoted : Part.noted ∈ P) (mlic : Part.lic ∈ P) (h₀ : SameBut P t₀ s) :
    SameBut P t₀ (twinFiring s) := by
  unfold twinFiring
  repeat' first
    | with_reducible assumption
    | (rename_i hq; have hq2 := congrArg Prod.snd hq; with_reducible dsimp only at hq2; subst hq2)
    | simp only [↓fr_mk_iff, true_or, or_true, mrecd, mtwl, mints, mheld, mnoted, mlic]
    | with_reducible refine fr_ite ?_ ?_
    | with_reducible refine outFr_ite ?_ ?_
    | with_reducible refine outFr_next.2 ?_
    | with_reducible refine fr_ite2 ?_ ?_
    | with_reducible refine fr_foldl ?_ (fun _ _ _ => ?_)
    | with_reducible refine twinRole_frame _ _ _ mrecd mtwl mints mheld mnoted mlic ?_
    | split
    | dsimp only

theorem enterFiring_frame {P : List Part} {t₀ : State} (cause : Nat) (s : State) (mmod : Part.mod ∈ P) (mrecd : Part.recd ∈ P) (mtwl : Part.twl ∈ P) (mints : Part.ints ∈ P) (mheld : Part.held ∈ P) (mnoted : Part.noted ∈ P) (mlic : Part.lic ∈ P) (h₀ : SameBut P t₀ s) :
    SameBut P t₀ (enterFiring cause s) := by
  unfold enterFiring
  repeat' first
    | with_reducible assumption
    | (rename_i hq; have hq2 := congrArg Prod.snd hq; with_reducible dsimp only at hq2; subst hq2)
    | simp only [↓fr_mk_iff, true_or, or_true, mmod, mrecd, mtwl, mints, mheld, mnoted, mlic]
    | with_reducible refine fr_ite ?_ ?_
    | with_reducible refine outFr_ite ?_ ?_
    | with_reducible refine outFr_next.2 ?_
    | with_reducible refine fr_ite2 ?_ ?_
    | with_reducible refine fr_foldl ?_ (fun _ _ _ => ?_)
    | with_reducible refine setModState_frame _ _ _ mmod mrecd mnoted ?_ | with_reducible refine record_frame _ _ _ _ _ _ mrecd mnoted ?_ | with_reducible refine twinFiring_frame _ mrecd mtwl mints mheld mnoted mlic ?_
    | split
    | dsimp only

theorem moduleReset_frame {P : List Part} {t₀ : State} (kind detail : Nat) (s : State) (mmod : Part.mod ∈ P) (mpwr : Part.pwr ∈ P) (mvrc : Part.vrc ∈ P) (mrot : Part.rot ∈ P) (mcys : Part.cys ∈ P) (mclk : Part.clk ∈ P) (mbanks : Part.banks ∈ P) (mchans : Part.chans ∈ P) (mxn : Part.xn ∈ P) (mrecd : Part.recd ∈ P) (mboot : Part.boot ∈ P) (mkiln : Part.kiln ∈ P) (mtwl : Part.twl ∈ P) (mlnc : Part.lnc ∈ P) (mcpn : Part.cpn ∈ P) (mcfd : Part.cfd ∈ P) (mbrg : Part.brg ∈ P) (mints : Part.ints ∈ P) (mcores : Part.cores ∈ P) (mvmem : Part.vmem ∈ P) (mheld : Part.held ∈ P) (mnoted : Part.noted ∈ P) (mlic : Part.lic ∈ P) (h₀ : SameBut P t₀ s) :
    SameBut P t₀ (moduleReset kind detail s) := by
  unfold moduleReset
  repeat' first
    | with_reducible assumption
    | (rename_i hq; have hq2 := congrArg Prod.snd hq; with_reducible dsimp only at hq2; subst hq2)
    | simp only [↓fr_mk_iff, true_or, or_true, mmod, mpwr, mvrc, mrot, mcys, mclk, mbanks, mchans, mxn, mrecd, mboot, mkiln, mtwl, mlnc, mcpn, mcfd, mbrg, mints, mcores, mvmem, mheld, mnoted, mlic]
    | with_reducible refine fr_ite ?_ ?_
    | with_reducible refine outFr_ite ?_ ?_
    | with_reducible refine outFr_next.2 ?_
    | with_reducible refine fr_ite2 ?_ ?_
    | with_reducible refine fr_foldl ?_ (fun _ _ _ => ?_)
    | with_reducible refine banksReset_frame _ mchans mrecd mints mheld mnoted mlic ?_ | with_reducible refine leaveForReset_frame _ _ mvrc mrot mcys mbanks mchans mxn mrecd mkiln mtwl mints mheld mnoted mlic ?_ | with_reducible refine abandonAll_frame _ mrecd mboot mnoted ?_ | with_reducible refine setPwr_frame _ _ mpwr ?_ | with_reducible refine blocksFresh_frame _ _ mvrc mrot mcys mclk mbanks mxn mboot mkiln mtwl mlnc mcpn mcfd mbrg mints mcores mvmem mheld mnoted mlic ?_ | with_reducible refine enterFiring_frame _ _ mmod mrecd mtwl mints mheld mnoted mlic ?_
    | split
    | dsimp only

theorem toCold_frame {P : List Part} {t₀ : State} (kind detail : Nat) (s : State) (mdrawn : Part.drawn ∈ P) (mmod : Part.mod ∈ P) (mpwr : Part.pwr ∈ P) (mvrc : Part.vrc ∈ P) (mrot : Part.rot ∈ P) (mcys : Part.cys ∈ P) (mclk : Part.clk ∈ P) (mtim : Part.tim ∈ P) (mbanks : Part.banks ∈ P) (mchans : Part.chans ∈ P) (mxn : Part.xn ∈ P) (mrecd : Part.recd ∈ P) (mboot : Part.boot ∈ P) (mkiln : Part.kiln ∈ P) (mtwl : Part.twl ∈ P) (mlnc : Part.lnc ∈ P) (mcpn : Part.cpn ∈ P) (mcfd : Part.cfd ∈ P) (mbrg : Part.brg ∈ P) (mbw : Part.bw ∈ P) (mints : Part.ints ∈ P) (mmems : Part.mems ∈ P) (mcores : Part.cores ∈ P) (mvmem : Part.vmem ∈ P) (mheld : Part.held ∈ P) (mnoted : Part.noted ∈ P) (mlic : Part.lic ∈ P) (mmram : Part.mram ∈ P)
    (h₀ : SameBut P t₀ s) : SameBut P t₀ (toCold kind detail s) := by
  refine ⟨h₀.1, fun p hp => ?_⟩
  cases p <;> exact absurd (by assumption) hp

theorem kilnCountsLost_frame {P : List Part} {t₀ : State} (s : State) (mpwr : Part.pwr ∈ P) (mrot : Part.rot ∈ P) (mclk : Part.clk ∈ P) (mtim : Part.tim ∈ P) (mkiln : Part.kiln ∈ P) (h₀ : SameBut P t₀ s) :
    SameBut P t₀ (kilnCountsLost s) := by
  unfold kilnCountsLost
  repeat' first
    | with_reducible assumption
    | (rename_i hq; have hq2 := congrArg Prod.snd hq; with_reducible dsimp only at hq2; subst hq2)
    | simp only [↓fr_mk_iff, true_or, or_true, mpwr, mrot, mclk, mtim, mkiln]
    | with_reducible refine fr_ite ?_ ?_
    | with_reducible refine outFr_ite ?_ ?_
    | with_reducible refine outFr_next.2 ?_
    | with_reducible refine fr_ite2 ?_ ?_
    | with_reducible refine fr_foldl ?_ (fun _ _ _ => ?_)
    | split
    | dsimp only

theorem loadSections_frame {P : List Part} {t₀ : State} (a : AppImage) (ls : List (Fin 4)) (s : State) (mrot : Part.rot ∈ P) (mmems : Part.mems ∈ P) (h₀ : SameBut P t₀ s) :
    SameBut P t₀ (loadSections a ls s) := by
  unfold loadSections
  repeat' first
    | with_reducible assumption
    | (rename_i hq; have hq2 := congrArg Prod.snd hq; with_reducible dsimp only at hq2; subst hq2)
    | simp only [↓fr_mk_iff, true_or, or_true, mrot, mmems]
    | with_reducible refine fr_ite ?_ ?_
    | with_reducible refine outFr_ite ?_ ?_
    | with_reducible refine outFr_next.2 ?_
    | with_reducible refine fr_ite2 ?_ ?_
    | with_reducible refine fr_foldl ?_ (fun _ _ _ => ?_)
    | with_reducible refine markPages_frame _ _ mrot ?_
    | split
    | dsimp only

theorem takeImage_frame {P : List Part} {t₀ : State} (a : AppImage) (s : State) (mcys : Part.cys ∈ P) (h₀ : SameBut P t₀ s) :
    SameBut P t₀ (takeImage a s) := by
  unfold takeImage
  repeat' first
    | with_reducible assumption
    | (rename_i hq; have hq2 := congrArg Prod.snd hq; with_reducible dsimp only at hq2; subst hq2)
    | simp only [↓fr_mk_iff, true_or, or_true, mcys]
    | with_reducible refine fr_ite ?_ ?_
    | with_reducible refine outFr_ite ?_ ?_
    | with_reducible refine outFr_next.2 ?_
    | with_reducible refine fr_ite2 ?_ ?_
    | with_reducible refine fr_foldl ?_ (fun _ _ _ => ?_)
    | split
    | dsimp only

theorem imageResult_frame {P : List Part} {t₀ : State} (code : Nat) (s : State) (mcys : Part.cys ∈ P) (h₀ : SameBut P t₀ s) :
    SameBut P t₀ (imageResult code s) := by
  unfold imageResult
  repeat' first
    | with_reducible assumption
    | (rename_i hq; have hq2 := congrArg Prod.snd hq; with_reducible dsimp only at hq2; subst hq2)
    | simp only [↓fr_mk_iff, true_or, or_true, mcys]
    | with_reducible refine fr_ite ?_ ?_
    | with_reducible refine outFr_ite ?_ ?_
    | with_reducible refine outFr_next.2 ?_
    | with_reducible refine fr_ite2 ?_ ?_
    | with_reducible refine fr_foldl ?_ (fun _ _ _ => ?_)
    | split
    | dsimp only

theorem imageRefuse_frame {P : List Part} {t₀ : State} (code index : Nat) (f : List Byte) (need avail : Nat) (s : State) (mcys : Part.cys ∈ P) (mrecd : Part.recd ∈ P) (mnoted : Part.noted ∈ P) (h₀ : SameBut P t₀ s) :
    SameBut P t₀ (imageRefuse code index f need avail s) := by
  unfold imageRefuse
  repeat' first
    | with_reducible assumption
    | (rename_i hq; have hq2 := congrArg Prod.snd hq; with_reducible dsimp only at hq2; subst hq2)
    | simp only [↓fr_mk_iff, true_or, or_true, mcys, mrecd, mnoted]
    | with_reducible refine fr_ite ?_ ?_
    | with_reducible refine outFr_ite ?_ ?_
    | with_reducible refine outFr_next.2 ?_
    | with_reducible refine fr_ite2 ?_ ?_
    | with_reducible refine fr_foldl ?_ (fun _ _ _ => ?_)
    | with_reducible refine imageResult_frame _ _ mcys ?_ | with_reducible refine record_frame _ _ _ _ _ _ mrecd mnoted ?_
    | split
    | dsimp only

end Sys2Proof.Machine
end

