-- ==== Sys2Proof/Laws/Frames5.lean ====
section
/-! SUPPORT. For every operation and every meaning: only the named parts differ after it. -/

set_option linter.all false

namespace Sys2Proof.Machine

open Sys2Proof

theorem execWrite_frame {P : List Part} {t₀ : State} (k : Fin 8) (a : Nat) (v : Reg32) (s : State) (mdrawn : Part.drawn ∈ P) (mmod : Part.mod ∈ P) (mpwr : Part.pwr ∈ P) (mvrc : Part.vrc ∈ P) (mrot : Part.rot ∈ P) (mcys : Part.cys ∈ P) (mclk : Part.clk ∈ P) (mtim : Part.tim ∈ P) (mbanks : Part.banks ∈ P) (mchans : Part.chans ∈ P) (mxn : Part.xn ∈ P) (mrecd : Part.recd ∈ P) (mkiln : Part.kiln ∈ P) (mtwl : Part.twl ∈ P) (mlnc : Part.lnc ∈ P) (mbrg : Part.brg ∈ P) (mbw : Part.bw ∈ P) (mints : Part.ints ∈ P) (mmems : Part.mems ∈ P) (mcores : Part.cores ∈ P) (mvmem : Part.vmem ∈ P) (mheld : Part.held ∈ P) (mnoted : Part.noted ∈ P) (mlic : Part.lic ∈ P) (h₀ : SameBut P t₀ s) :
    SameBut P t₀ (execWrite k a v s) := by
  unfold execWrite
  repeat' first
    | with_reducible assumption
    | (rename_i hq; have hq2 := congrArg Prod.snd hq; with_reducible dsimp only at hq2; subst hq2)
    | simp only [↓fr_mk_iff, true_or, or_true, mdrawn, mmod, mpwr, mvrc, mrot, mcys, mclk, mtim, mbanks, mchans, mxn, mrecd, mkiln, mtwl, mlnc, mbrg, mbw, mints, mmems, mcores, mvmem, mheld, mnoted, mlic]
    | with_reducible refine fr_ite ?_ ?_
    | with_reducible refine outFr_ite ?_ ?_
    | with_reducible refine outFr_next.2 ?_
    | with_reducible refine fr_ite2 ?_ ?_
    | with_reducible refine fr_foldl ?_ (fun _ _ _ => ?_)
    | with_reducible refine writeReg_frame _ _ _ _ mdrawn mmod mpwr mvrc mrot mcys mclk mtim mbanks mchans mxn mrecd mkiln mtwl mlnc mbrg mbw mints mmems mcores mvmem mheld mnoted mlic ?_ | with_reducible refine mirrorShadow_frame _ mcores mlic ?_ | with_reducible refine mapCores_frame _ _ _ mcores mlic ?_
    | split
    | dsimp only

theorem seqStep_frame {P : List Part} {t₀ : State} (now : Int) (s : State) (mcys : Part.cys ∈ P) (mrecd : Part.recd ∈ P) (mints : Part.ints ∈ P) (mheld : Part.held ∈ P) (mnoted : Part.noted ∈ P) (mlic : Part.lic ∈ P) (h₀ : SameBut P t₀ s) :
    SameBut P t₀ (seqStep now s) := by
  unfold seqStep
  repeat' first
    | with_reducible assumption
    | (rename_i hq; have hq2 := congrArg Prod.snd hq; with_reducible dsimp only at hq2; subst hq2)
    | simp only [↓fr_mk_iff, true_or, or_true, mcys, mrecd, mints, mheld, mnoted, mlic]
    | with_reducible refine fr_ite ?_ ?_
    | with_reducible refine outFr_ite ?_ ?_
    | with_reducible refine outFr_next.2 ?_
    | with_reducible refine fr_ite2 ?_ ?_
    | with_reducible refine fr_foldl ?_ (fun _ _ _ => ?_)
    | with_reducible refine raise_frame _ _ mints mheld mlic ?_ | with_reducible refine record_frame _ _ _ _ _ _ mrecd mnoted ?_
    | split
    | dsimp only

theorem seqSwitched_frame {P : List Part} {t₀ : State} (s : State) (mcys : Part.cys ∈ P) (mrecd : Part.recd ∈ P) (mints : Part.ints ∈ P) (mheld : Part.held ∈ P) (mnoted : Part.noted ∈ P) (mlic : Part.lic ∈ P) (h₀ : SameBut P t₀ s) :
    SameBut P t₀ (seqSwitched s) := by
  unfold seqSwitched
  repeat' first
    | with_reducible assumption
    | (rename_i hq; have hq2 := congrArg Prod.snd hq; with_reducible dsimp only at hq2; subst hq2)
    | simp only [↓fr_mk_iff, true_or, or_true, mcys, mrecd, mints, mheld, mnoted, mlic]
    | with_reducible refine fr_ite ?_ ?_
    | with_reducible refine outFr_ite ?_ ?_
    | with_reducible refine outFr_next.2 ?_
    | with_reducible refine fr_ite2 ?_ ?_
    | with_reducible refine fr_foldl ?_ (fun _ _ _ => ?_)
    | with_reducible refine raise_frame _ _ mints mheld mlic ?_ | with_reducible refine record_frame _ _ _ _ _ _ mrecd mnoted ?_
    | split
    | dsimp only

theorem seqRelease_frame {P : List Part} {t₀ : State} (now : Int) (s : State) (mcys : Part.cys ∈ P) (h₀ : SameBut P t₀ s) :
    SameBut P t₀ (seqRelease now s) := by
  unfold seqRelease
  repeat' first
    | with_reducible assumption
    | (rename_i hq; have hq2 := congrArg Prod.snd hq; with_reducible dsimp only at hq2; subst hq2)
    | simp only [↓fr_mk_iff, true_or, or_true, mcys]
    | with_reducible refine fr_ite ?_ ?_
    | with_reducible refine outFr_ite ?_ ?_
    | with_reducible refine outFr_next.2 ?_
    | with_reducible refine fr_ite2 ?_ ?_
    | with_reducible refine fr_foldl ?_ (fun _ _ _ => ?_)
    | split
    | dsimp only

theorem seqLatch_frame {P : List Part} {t₀ : State} (s : State) (mvrc : Part.vrc ∈ P) (mrot : Part.rot ∈ P) (mcys : Part.cys ∈ P) (mclk : Part.clk ∈ P) (mtim : Part.tim ∈ P) (mbanks : Part.banks ∈ P) (mrecd : Part.recd ∈ P) (mtwl : Part.twl ∈ P) (mlnc : Part.lnc ∈ P) (mbw : Part.bw ∈ P) (mints : Part.ints ∈ P) (mmems : Part.mems ∈ P) (mcores : Part.cores ∈ P) (mvmem : Part.vmem ∈ P) (mheld : Part.held ∈ P) (mnoted : Part.noted ∈ P) (mlic : Part.lic ∈ P) (h₀ : SameBut P t₀ s) :
    SameBut P t₀ (seqLatch s) := by
  unfold seqLatch
  repeat' first
    | with_reducible assumption
    | (rename_i hq; have hq2 := congrArg Prod.snd hq; with_reducible dsimp only at hq2; subst hq2)
    | simp only [↓fr_mk_iff, true_or, or_true, mvrc, mrot, mcys, mclk, mtim, mbanks, mrecd, mtwl, mlnc, mbw, mints, mmems, mcores, mvmem, mheld, mnoted, mlic]
    | with_reducible refine fr_ite ?_ ?_
    | with_reducible refine outFr_ite ?_ ?_
    | with_reducible refine outFr_next.2 ?_
    | with_reducible refine fr_ite2 ?_ ?_
    | with_reducible refine fr_foldl ?_ (fun _ _ _ => ?_)
    | with_reducible refine releaseHeld_frame _ mcys ?_ | with_reducible refine beginLatch_frame _ _ mvrc mrot mcys mclk mtim mbanks mrecd mtwl mlnc mbw mints mmems mcores mvmem mheld mnoted mlic ?_
    | split
    | dsimp only

theorem seqTick_frame {P : List Part} {t₀ : State} (now : Int) (s : State) (mvrc : Part.vrc ∈ P) (mrot : Part.rot ∈ P) (mcys : Part.cys ∈ P) (mclk : Part.clk ∈ P) (mtim : Part.tim ∈ P) (mbanks : Part.banks ∈ P) (mrecd : Part.recd ∈ P) (mtwl : Part.twl ∈ P) (mlnc : Part.lnc ∈ P) (mbw : Part.bw ∈ P) (mints : Part.ints ∈ P) (mmems : Part.mems ∈ P) (mcores : Part.cores ∈ P) (mvmem : Part.vmem ∈ P) (mheld : Part.held ∈ P) (mnoted : Part.noted ∈ P) (mlic : Part.lic ∈ P) (h₀ : SameBut P t₀ s) :
    SameBut P t₀ (seqTick now s) := by
  unfold seqTick
  repeat' first
    | with_reducible assumption
    | (rename_i hq; have hq2 := congrArg Prod.snd hq; with_reducible dsimp only at hq2; subst hq2)
    | simp only [↓fr_mk_iff, true_or, or_true, mvrc, mrot, mcys, mclk, mtim, mbanks, mrecd, mtwl, mlnc, mbw, mints, mmems, mcores, mvmem, mheld, mnoted, mlic]
    | with_reducible refine fr_ite ?_ ?_
    | with_reducible refine outFr_ite ?_ ?_
    | with_reducible refine outFr_next.2 ?_
    | with_reducible refine fr_ite2 ?_ ?_
    | with_reducible refine fr_foldl ?_ (fun _ _ _ => ?_)
    | with_reducible refine seqStep_frame _ _ mcys mrecd mints mheld mnoted mlic ?_ | with_reducible refine seqSwitched_frame _ mcys mrecd mints mheld mnoted mlic ?_ | with_reducible refine raise_frame _ _ mints mheld mlic ?_ | with_reducible refine execDispatch_frame _ mcys mcores mlic ?_ | with_reducible refine seqLatch_frame _ mvrc mrot mcys mclk mtim mbanks mrecd mtwl mlnc mbw mints mmems mcores mvmem mheld mnoted mlic ?_ | with_reducible refine seqRelease_frame _ _ mcys ?_
    | split
    | dsimp only

theorem storeSwitched_frame {P : List Part} {t₀ : State} (s : State) (mcys : Part.cys ∈ P) (mboot : Part.boot ∈ P) (h₀ : SameBut P t₀ s) :
    SameBut P t₀ (storeSwitched s) := by
  unfold storeSwitched
  repeat' first
    | with_reducible assumption
    | (rename_i hq; have hq2 := congrArg Prod.snd hq; with_reducible dsimp only at hq2; subst hq2)
    | simp only [↓fr_mk_iff, true_or, or_true, mcys, mboot]
    | with_reducible refine fr_ite ?_ ?_
    | with_reducible refine outFr_ite ?_ ?_
    | with_reducible refine outFr_next.2 ?_
    | with_reducible refine fr_ite2 ?_ ?_
    | with_reducible refine fr_foldl ?_ (fun _ _ _ => ?_)
    | with_reducible refine setBoot_frame _ _ mboot ?_
    | split
    | dsimp only

theorem twinReset_frame {P : List Part} {t₀ : State} (s : State) (mmod : Part.mod ∈ P) (mpwr : Part.pwr ∈ P) (mvrc : Part.vrc ∈ P) (mrot : Part.rot ∈ P) (mcys : Part.cys ∈ P) (mclk : Part.clk ∈ P) (mbanks : Part.banks ∈ P) (mchans : Part.chans ∈ P) (mxn : Part.xn ∈ P) (mrecd : Part.recd ∈ P) (mboot : Part.boot ∈ P) (mkiln : Part.kiln ∈ P) (mtwl : Part.twl ∈ P) (mlnc : Part.lnc ∈ P) (mcpn : Part.cpn ∈ P) (mcfd : Part.cfd ∈ P) (mbrg : Part.brg ∈ P) (mints : Part.ints ∈ P) (mcores : Part.cores ∈ P) (mvmem : Part.vmem ∈ P) (mheld : Part.held ∈ P) (mnoted : Part.noted ∈ P) (mlic : Part.lic ∈ P) (h₀ : SameBut P t₀ s) :
    SameBut P t₀ (twinReset s) := by
  unfold twinReset
  repeat' first
    | with_reducible assumption
    | (rename_i hq; have hq2 := congrArg Prod.snd hq; with_reducible dsimp only at hq2; subst hq2)
    | simp only [↓fr_mk_iff, true_or, or_true, mmod, mpwr, mvrc, mrot, mcys, mclk, mbanks, mchans, mxn, mrecd, mboot, mkiln, mtwl, mlnc, mcpn, mcfd, mbrg, mints, mcores, mvmem, mheld, mnoted, mlic]
    | with_reducible refine fr_ite ?_ ?_
    | with_reducible refine outFr_ite ?_ ?_
    | with_reducible refine outFr_next.2 ?_
    | with_reducible refine fr_ite2 ?_ ?_
    | with_reducible refine fr_foldl ?_ (fun _ _ _ => ?_)
    | with_reducible refine moduleReset_frame _ _ _ mmod mpwr mvrc mrot mcys mclk mbanks mchans mxn mrecd mboot mkiln mtwl mlnc mcpn mcfd mbrg mints mcores mvmem mheld mnoted mlic ?_ | with_reducible refine record_frame _ _ _ _ _ _ mrecd mnoted ?_
    | split
    | dsimp only

theorem afterClose_frame {P : List Part} {t₀ : State} (s : State) (mmod : Part.mod ∈ P) (mpwr : Part.pwr ∈ P) (mvrc : Part.vrc ∈ P) (mrot : Part.rot ∈ P) (mcys : Part.cys ∈ P) (mclk : Part.clk ∈ P) (mbanks : Part.banks ∈ P) (mchans : Part.chans ∈ P) (mxn : Part.xn ∈ P) (mrecd : Part.recd ∈ P) (mboot : Part.boot ∈ P) (mkiln : Part.kiln ∈ P) (mtwl : Part.twl ∈ P) (mlnc : Part.lnc ∈ P) (mcpn : Part.cpn ∈ P) (mcfd : Part.cfd ∈ P) (mbrg : Part.brg ∈ P) (mints : Part.ints ∈ P) (mcores : Part.cores ∈ P) (mvmem : Part.vmem ∈ P) (mheld : Part.held ∈ P) (mnoted : Part.noted ∈ P) (mlic : Part.lic ∈ P) (h₀ : SameBut P t₀ s) :
    SameBut P t₀ (afterClose s) := by
  unfold afterClose
  repeat' first
    | with_reducible assumption
    | (rename_i hq; have hq2 := congrArg Prod.snd hq; with_reducible dsimp only at hq2; subst hq2)
    | simp only [↓fr_mk_iff, true_or, or_true, mmod, mpwr, mvrc, mrot, mcys, mclk, mbanks, mchans, mxn, mrecd, mboot, mkiln, mtwl, mlnc, mcpn, mcfd, mbrg, mints, mcores, mvmem, mheld, mnoted, mlic]
    | with_reducible refine fr_ite ?_ ?_
    | with_reducible refine outFr_ite ?_ ?_
    | with_reducible refine outFr_next.2 ?_
    | with_reducible refine fr_ite2 ?_ ?_
    | with_reducible refine fr_foldl ?_ (fun _ _ _ => ?_)
    | with_reducible refine twinReset_frame _ mmod mpwr mvrc mrot mcys mclk mbanks mchans mxn mrecd mboot mkiln mtwl mlnc mcpn mcfd mbrg mints mcores mvmem mheld mnoted mlic ?_ | with_reducible refine storeSwitched_frame _ mcys mboot ?_ | with_reducible refine startCommit_frame _ mcys ?_
    | split
    | dsimp only

theorem migratePiece_frame {P : List Part} {t₀ : State} (src dst : Nat) (s : State) (mmod : Part.mod ∈ P) (mpwr : Part.pwr ∈ P) (mvrc : Part.vrc ∈ P) (mrot : Part.rot ∈ P) (mcys : Part.cys ∈ P) (mbanks : Part.banks ∈ P) (mchans : Part.chans ∈ P) (mxn : Part.xn ∈ P) (mrecd : Part.recd ∈ P) (mkiln : Part.kiln ∈ P) (mtwl : Part.twl ∈ P) (mints : Part.ints ∈ P) (mmems : Part.mems ∈ P) (mcores : Part.cores ∈ P) (mheld : Part.held ∈ P) (mnoted : Part.noted ∈ P) (mlic : Part.lic ∈ P) (h₀ : SameBut P t₀ s) :
    SameBut P t₀ (migratePiece src dst s) := by
  unfold migratePiece
  split
  · dsimp only
    have h1 : ∀ e : Fin 4 → MirrorEntry, SameBut P t₀ ((activeLanes s).foldl (fun t l => applyEntry l (e l) t) s) :=
      fun e => fr_foldl h₀ (fun _ _ h => applyEntry_frame _ _ _ mmems mcores mlic h)
    have h2 := fun v a b e => mirrorDisagree_frame v a b _ mmod mpwr mvrc mrot mcys mbanks mchans mxn mrecd mkiln mtwl mints mheld mnoted mlic (h1 e)
    split
    · split
      · exact applyEntry_frame _ _ _ mmems mcores mlic (fwdPush_frame _ _ _ mtwl (markPages_frame _ _ mrot (h2 _ _ _ _)))
      · exact fwdPush_frame _ _ _ mtwl (markPages_frame _ _ mrot (h2 _ _ _ _))
    · split
      · exact applyEntry_frame _ _ _ mmems mcores mlic (fwdPush_frame _ _ _ mtwl (markPages_frame _ _ mrot (h2 _ _ _ _)))
      · exact fwdPush_frame _ _ _ mtwl (markPages_frame _ _ mrot (h2 _ _ _ _))
    · exact h2 _ _ _ _
  · exact h₀

theorem migratePieces_frame {P : List Part} {t₀ : State} (src dst n : Nat) (s : State) (mmod : Part.mod ∈ P) (mpwr : Part.pwr ∈ P) (mvrc : Part.vrc ∈ P) (mrot : Part.rot ∈ P) (mcys : Part.cys ∈ P) (mbanks : Part.banks ∈ P) (mchans : Part.chans ∈ P) (mxn : Part.xn ∈ P) (mrecd : Part.recd ∈ P) (mkiln : Part.kiln ∈ P) (mtwl : Part.twl ∈ P) (mints : Part.ints ∈ P) (mmems : Part.mems ∈ P) (mcores : Part.cores ∈ P) (mheld : Part.held ∈ P) (mnoted : Part.noted ∈ P) (mlic : Part.lic ∈ P)
    (h₀ : SameBut P t₀ s) : SameBut P t₀ (migratePieces src dst n s) := by
  induction n generalizing src dst s with
  | zero => exact h₀
  | succ n ih => exact ih _ _ _ (migratePiece_frame _ _ _ mmod mpwr mvrc mrot mcys mbanks mchans mxn mrecd mkiln mtwl mints mmems mcores mheld mnoted mlic h₀)

theorem olcSwitch_frame {P : List Part} {t₀ : State} (s : State) (mmod : Part.mod ∈ P) (mpwr : Part.pwr ∈ P) (mvrc : Part.vrc ∈ P) (mrot : Part.rot ∈ P) (mcys : Part.cys ∈ P) (mbanks : Part.banks ∈ P) (mchans : Part.chans ∈ P) (mxn : Part.xn ∈ P) (mrecd : Part.recd ∈ P) (mkiln : Part.kiln ∈ P) (mtwl : Part.twl ∈ P) (mbw : Part.bw ∈ P) (mints : Part.ints ∈ P) (mmems : Part.mems ∈ P) (mcores : Part.cores ∈ P) (mheld : Part.held ∈ P) (mnoted : Part.noted ∈ P) (mlic : Part.lic ∈ P) (h₀ : SameBut P t₀ s) :
    SameBut P t₀ (olcSwitch s) := by
  unfold olcSwitch
  repeat' first
    | with_reducible assumption
    | (rename_i hq; have hq2 := congrArg Prod.snd hq; with_reducible dsimp only at hq2; subst hq2)
    | simp only [↓fr_mk_iff, true_or, or_true, mmod, mpwr, mvrc, mrot, mcys, mbanks, mchans, mxn, mrecd, mkiln, mtwl, mbw, mints, mmems, mcores, mheld, mnoted, mlic]
    | with_reducible refine fr_ite ?_ ?_
    | with_reducible refine outFr_ite ?_ ?_
    | with_reducible refine outFr_next.2 ?_
    | with_reducible refine fr_ite2 ?_ ?_
    | with_reducible refine fr_foldl ?_ (fun _ _ _ => ?_)
    | with_reducible refine drainMirror_frame _ _ mrot mbw mmems mcores mlic ?_ | with_reducible refine migratePieces_frame _ _ _ _ mmod mpwr mvrc mrot mcys mbanks mchans mxn mrecd mkiln mtwl mints mmems mcores mheld mnoted mlic ?_ | with_reducible refine takeImage_frame _ _ mcys ?_ | with_reducible refine mapTasks_frame _ _ mcys ?_ | with_reducible refine openRegions_frame _ _ mcores mlic ?_
    | split
    | dsimp only

theorem execTick_frame {P : List Part} {t₀ : State} (dt : Nat) (s : State) (mvrc : Part.vrc ∈ P) (mrot : Part.rot ∈ P) (mcys : Part.cys ∈ P) (mclk : Part.clk ∈ P) (mtim : Part.tim ∈ P) (mbanks : Part.banks ∈ P) (mrecd : Part.recd ∈ P) (mtwl : Part.twl ∈ P) (mlnc : Part.lnc ∈ P) (mbw : Part.bw ∈ P) (mints : Part.ints ∈ P) (mmems : Part.mems ∈ P) (mcores : Part.cores ∈ P) (mvmem : Part.vmem ∈ P) (mheld : Part.held ∈ P) (mnoted : Part.noted ∈ P) (mlic : Part.lic ∈ P) (h₀ : SameBut P t₀ (advance dt s)) :
    OutFr P t₀ (execTick dt s) := by
  unfold execTick
  repeat' first
    | with_reducible assumption
    | (rename_i hq; have hq2 := congrArg Prod.snd hq; with_reducible dsimp only at hq2; subst hq2)
    | simp only [↓fr_mk_iff, true_or, or_true, mvrc, mrot, mcys, mclk, mtim, mbanks, mrecd, mtwl, mlnc, mbw, mints, mmems, mcores, mvmem, mheld, mnoted, mlic]
    | with_reducible refine fr_ite ?_ ?_
    | with_reducible refine outFr_ite ?_ ?_
    | with_reducible refine outFr_next.2 ?_
    | with_reducible refine fr_ite2 ?_ ?_
    | with_reducible refine fr_foldl ?_ (fun _ _ _ => ?_)
    | with_reducible refine seqTick_frame _ _ mvrc mrot mcys mclk mtim mbanks mrecd mtwl mlnc mbw mints mmems mcores mvmem mheld mnoted mlic ?_
    | split
    | dsimp only

theorem execLatchEnd_frame {P : List Part} {t₀ : State} (dt : Nat) (s : State) (mvrc : Part.vrc ∈ P) (mrot : Part.rot ∈ P) (mcys : Part.cys ∈ P) (mclk : Part.clk ∈ P) (mtim : Part.tim ∈ P) (mbanks : Part.banks ∈ P) (mrecd : Part.recd ∈ P) (mtwl : Part.twl ∈ P) (mlnc : Part.lnc ∈ P) (mbw : Part.bw ∈ P) (mints : Part.ints ∈ P) (mmems : Part.mems ∈ P) (mcores : Part.cores ∈ P) (mvmem : Part.vmem ∈ P) (mheld : Part.held ∈ P) (mnoted : Part.noted ∈ P) (mlic : Part.lic ∈ P) (h₀ : SameBut P t₀ (advance dt s)) :
    OutFr P t₀ (execLatchEnd dt s) := by
  unfold execLatchEnd
  repeat' first
    | with_reducible assumption
    | (rename_i hq; have hq2 := congrArg Prod.snd hq; with_reducible dsimp only at hq2; subst hq2)
    | simp only [↓fr_mk_iff, true_or, or_true, mvrc, mrot, mcys, mclk, mtim, mbanks, mrecd, mtwl, mlnc, mbw, mints, mmems, mcores, mvmem, mheld, mnoted, mlic]
    | with_reducible refine fr_ite ?_ ?_
    | with_reducible refine outFr_ite ?_ ?_
    | with_reducible refine outFr_next.2 ?_
    | with_reducible refine fr_ite2 ?_ ?_
    | with_reducible refine fr_foldl ?_ (fun _ _ _ => ?_)
    | with_reducible refine setTask_frame _ _ _ mcys ?_ | with_reducible refine execDispatch_frame _ mcys mcores mlic ?_ | with_reducible refine seqLatch_frame _ mvrc mrot mcys mclk mtim mbanks mrecd mtwl mlnc mbw mints mmems mcores mvmem mheld mnoted mlic ?_ | with_reducible refine raise_frame _ _ mints mheld mlic ?_
    | split
    | dsimp only

theorem execGapWarn_frame {P : List Part} {t₀ : State} (dt : Nat) (s : State) (mcys : Part.cys ∈ P) (mints : Part.ints ∈ P) (mheld : Part.held ∈ P) (mlic : Part.lic ∈ P) (h₀ : SameBut P t₀ (advance dt s)) :
    OutFr P t₀ (execGapWarn dt s) := by
  unfold execGapWarn
  repeat' first
    | with_reducible assumption
    | (rename_i hq; have hq2 := congrArg Prod.snd hq; with_reducible dsimp only at hq2; subst hq2)
    | simp only [↓fr_mk_iff, true_or, or_true, mcys, mints, mheld, mlic]
    | with_reducible refine fr_ite ?_ ?_
    | with_reducible refine outFr_ite ?_ ?_
    | with_reducible refine outFr_next.2 ?_
    | with_reducible refine fr_ite2 ?_ ?_
    | with_reducible refine fr_foldl ?_ (fun _ _ _ => ?_)
    | with_reducible refine raise_frame _ _ mints mheld mlic ?_
    | split
    | dsimp only

theorem execGapStart_frame {P : List Part} {t₀ : State} (dt : Nat) (s : State) (mcys : Part.cys ∈ P) (mrecd : Part.recd ∈ P) (mints : Part.ints ∈ P) (mheld : Part.held ∈ P) (mnoted : Part.noted ∈ P) (mlic : Part.lic ∈ P) (h₀ : SameBut P t₀ (advance dt s)) :
    OutFr P t₀ (execGapStart dt s) := by
  unfold execGapStart
  repeat' first
    | with_reducible assumption
    | (rename_i hq; have hq2 := congrArg Prod.snd hq; with_reducible dsimp only at hq2; subst hq2)
    | simp only [↓fr_mk_iff, true_or, or_true, mcys, mrecd, mints, mheld, mnoted, mlic]
    | with_reducible refine fr_ite ?_ ?_
    | with_reducible refine outFr_ite ?_ ?_
    | with_reducible refine outFr_next.2 ?_
    | with_reducible refine fr_ite2 ?_ ?_
    | with_reducible refine fr_foldl ?_ (fun _ _ _ => ?_)
    | with_reducible refine raise_frame _ _ mints mheld mlic ?_ | with_reducible refine record_frame _ _ _ _ _ _ mrecd mnoted ?_
    | split
    | dsimp only

theorem execCysQuietWrite_frame {P : List Part} {t₀ : State} (core : Fin 8) (value : BitVec 32) (s : State) (mdrawn : Part.drawn ∈ P) (mmod : Part.mod ∈ P) (mpwr : Part.pwr ∈ P) (mvrc : Part.vrc ∈ P) (mrot : Part.rot ∈ P) (mcys : Part.cys ∈ P) (mclk : Part.clk ∈ P) (mtim : Part.tim ∈ P) (mbanks : Part.banks ∈ P) (mchans : Part.chans ∈ P) (mxn : Part.xn ∈ P) (mrecd : Part.recd ∈ P) (mkiln : Part.kiln ∈ P) (mtwl : Part.twl ∈ P) (mlnc : Part.lnc ∈ P) (mbrg : Part.brg ∈ P) (mbw : Part.bw ∈ P) (mints : Part.ints ∈ P) (mmems : Part.mems ∈ P) (mcores : Part.cores ∈ P) (mvmem : Part.vmem ∈ P) (mheld : Part.held ∈ P) (mnoted : Part.noted ∈ P) (mlic : Part.lic ∈ P) (h₀ : SameBut P t₀ s) :
    OutFr P t₀ (execCysQuietWrite core value s) := by
  unfold execCysQuietWrite
  repeat' first
    | with_reducible assumption
    | (rename_i hq; have hq2 := congrArg Prod.snd hq; with_reducible dsimp only at hq2; subst hq2)
    | simp only [↓fr_mk_iff, true_or, or_true, mdrawn, mmod, mpwr, mvrc, mrot, mcys, mclk, mtim, mbanks, mchans, mxn, mrecd, mkiln, mtwl, mlnc, mbrg, mbw, mints, mmems, mcores, mvmem, mheld, mnoted, mlic]
    | with_reducible refine fr_ite ?_ ?_
    | with_reducible refine outFr_ite ?_ ?_
    | with_reducible refine outFr_next.2 ?_
    | with_reducible refine fr_ite2 ?_ ?_
    | with_reducible refine fr_foldl ?_ (fun _ _ _ => ?_)
    | with_reducible refine execWrite_frame _ _ _ _ mdrawn mmod mpwr mvrc mrot mcys mclk mtim mbanks mchans mxn mrecd mkiln mtwl mlnc mbrg mbw mints mmems mcores mvmem mheld mnoted mlic ?_ | with_reducible refine execSave_frame _ mcys ?_ | with_reducible refine execWait_frame _ mcores mlic ?_ | with_reducible refine execDispatch_frame _ mcys mcores mlic ?_
    | split
    | dsimp only

theorem execCysDoneWrite_frame {P : List Part} {t₀ : State} (core : Fin 8) (value : BitVec 32) (s : State) (mdrawn : Part.drawn ∈ P) (mmod : Part.mod ∈ P) (mpwr : Part.pwr ∈ P) (mvrc : Part.vrc ∈ P) (mrot : Part.rot ∈ P) (mcys : Part.cys ∈ P) (mclk : Part.clk ∈ P) (mtim : Part.tim ∈ P) (mbanks : Part.banks ∈ P) (mchans : Part.chans ∈ P) (mxn : Part.xn ∈ P) (mrecd : Part.recd ∈ P) (mboot : Part.boot ∈ P) (mkiln : Part.kiln ∈ P) (mtwl : Part.twl ∈ P) (mlnc : Part.lnc ∈ P) (mcpn : Part.cpn ∈ P) (mcfd : Part.cfd ∈ P) (mbrg : Part.brg ∈ P) (mbw : Part.bw ∈ P) (mints : Part.ints ∈ P) (mmems : Part.mems ∈ P) (mcores : Part.cores ∈ P) (mvmem : Part.vmem ∈ P) (mheld : Part.held ∈ P) (mnoted : Part.noted ∈ P) (mlic : Part.lic ∈ P) (h₀ : SameBut P t₀ s) :
    OutFr P t₀ (execCysDoneWrite core value s) := by
  unfold execCysDoneWrite
  repeat' first
    | with_reducible assumption
    | (rename_i hq; have hq2 := congrArg Prod.snd hq; with_reducible dsimp only at hq2; subst hq2)
    | simp only [↓fr_mk_iff, true_or, or_true, mdrawn, mmod, mpwr, mvrc, mrot, mcys, mclk, mtim, mbanks, mchans, mxn, mrecd, mboot, mkiln, mtwl, mlnc, mcpn, mcfd, mbrg, mbw, mints, mmems, mcores, mvmem, mheld, mnoted, mlic]
    | with_reducible refine fr_ite ?_ ?_
    | with_reducible refine outFr_ite ?_ ?_
    | with_reducible refine outFr_next.2 ?_
    | with_reducible refine fr_ite2 ?_ ?_
    | with_reducible refine fr_foldl ?_ (fun _ _ _ => ?_)
    | with_reducible refine execDispatch_frame _ mcys mcores mlic ?_ | with_reducible refine afterClose_frame _ mmod mpwr mvrc mrot mcys mclk mbanks mchans mxn mrecd mboot mkiln mtwl mlnc mcpn mcfd mbrg mints mcores mvmem mheld mnoted mlic ?_ | with_reducible refine execWrite_frame _ _ _ _ mdrawn mmod mpwr mvrc mrot mcys mclk mtim mbanks mchans mxn mrecd mkiln mtwl mlnc mbrg mbw mints mmems mcores mvmem mheld mnoted mlic ?_
    | split
    | dsimp only

theorem execCommitEnd_frame {P : List Part} {t₀ : State} (dt : Nat) (s : State) (mmod : Part.mod ∈ P) (mpwr : Part.pwr ∈ P) (mvrc : Part.vrc ∈ P) (mrot : Part.rot ∈ P) (mcys : Part.cys ∈ P) (mclk : Part.clk ∈ P) (mtim : Part.tim ∈ P) (mbanks : Part.banks ∈ P) (mchans : Part.chans ∈ P) (mxn : Part.xn ∈ P) (mrecd : Part.recd ∈ P) (mboot : Part.boot ∈ P) (mkiln : Part.kiln ∈ P) (mtwl : Part.twl ∈ P) (mlnc : Part.lnc ∈ P) (mcpn : Part.cpn ∈ P) (mcfd : Part.cfd ∈ P) (mbrg : Part.brg ∈ P) (mbw : Part.bw ∈ P) (mints : Part.ints ∈ P) (mmems : Part.mems ∈ P) (mcores : Part.cores ∈ P) (mvmem : Part.vmem ∈ P) (mheld : Part.held ∈ P) (mnoted : Part.noted ∈ P) (mlic : Part.lic ∈ P) (h₀ : SameBut P t₀ (advance dt s)) :
    OutFr P t₀ (execCommitEnd dt s) := by
  unfold execCommitEnd
  repeat' first
    | with_reducible assumption
    | (rename_i hq; have hq2 := congrArg Prod.snd hq; with_reducible dsimp only at hq2; subst hq2)
    | simp only [↓fr_mk_iff, true_or, or_true, mmod, mpwr, mvrc, mrot, mcys, mclk, mtim, mbanks, mchans, mxn, mrecd, mboot, mkiln, mtwl, mlnc, mcpn, mcfd, mbrg, mbw, mints, mmems, mcores, mvmem, mheld, mnoted, mlic]
    | with_reducible refine fr_ite ?_ ?_
    | with_reducible refine outFr_ite ?_ ?_
    | with_reducible refine outFr_next.2 ?_
    | with_reducible refine fr_ite2 ?_ ?_
    | with_reducible refine fr_foldl ?_ (fun _ _ _ => ?_)
    | with_reducible refine commitCopies_frame _ _ mvrc mrot mbanks mchans mrecd mtwl mlnc mbw mints mvmem mheld mnoted mlic ?_ | with_reducible refine afterClose_frame _ mmod mpwr mvrc mrot mcys mclk mbanks mchans mxn mrecd mboot mkiln mtwl mlnc mcpn mcfd mbrg mints mcores mvmem mheld mnoted mlic ?_ | with_reducible refine closeCycle_frame _ _ _ mcys mbanks mrecd mtwl mints mheld mnoted mlic ?_ | with_reducible refine postEntries_frame _ _ _ _ _ mrot mcys mclk mtim mbanks mchans mrecd mtwl mlnc mbw mints mmems mcores mheld mnoted mlic ?_
    | split
    | dsimp only

theorem execPostingEnd_frame {P : List Part} {t₀ : State} (dt : Nat) (s : State) (mmod : Part.mod ∈ P) (mpwr : Part.pwr ∈ P) (mvrc : Part.vrc ∈ P) (mrot : Part.rot ∈ P) (mcys : Part.cys ∈ P) (mclk : Part.clk ∈ P) (mbanks : Part.banks ∈ P) (mchans : Part.chans ∈ P) (mxn : Part.xn ∈ P) (mrecd : Part.recd ∈ P) (mboot : Part.boot ∈ P) (mkiln : Part.kiln ∈ P) (mtwl : Part.twl ∈ P) (mlnc : Part.lnc ∈ P) (mcpn : Part.cpn ∈ P) (mcfd : Part.cfd ∈ P) (mbrg : Part.brg ∈ P) (mints : Part.ints ∈ P) (mcores : Part.cores ∈ P) (mvmem : Part.vmem ∈ P) (mheld : Part.held ∈ P) (mnoted : Part.noted ∈ P) (mlic : Part.lic ∈ P) (h₀ : SameBut P t₀ (advance dt s)) :
    OutFr P t₀ (execPostingEnd dt s) := by
  unfold execPostingEnd
  repeat' first
    | with_reducible assumption
    | (rename_i hq; have hq2 := congrArg Prod.snd hq; with_reducible dsimp only at hq2; subst hq2)
    | simp only [↓fr_mk_iff, true_or, or_true, mmod, mpwr, mvrc, mrot, mcys, mclk, mbanks, mchans, mxn, mrecd, mboot, mkiln, mtwl, mlnc, mcpn, mcfd, mbrg, mints, mcores, mvmem, mheld, mnoted, mlic]
    | with_reducible refine fr_ite ?_ ?_
    | with_reducible refine outFr_ite ?_ ?_
    | with_reducible refine outFr_next.2 ?_
    | with_reducible refine fr_ite2 ?_ ?_
    | with_reducible refine fr_foldl ?_ (fun _ _ _ => ?_)
    | with_reducible refine afterClose_frame _ mmod mpwr mvrc mrot mcys mclk mbanks mchans mxn mrecd mboot mkiln mtwl mlnc mcpn mcfd mbrg mints mcores mvmem mheld mnoted mlic ?_ | with_reducible refine closeCycle_frame _ _ _ mcys mbanks mrecd mtwl mints mheld mnoted mlic ?_
    | split
    | dsimp only

theorem execConeOverrun_frame {P : List Part} {t₀ : State} (dt : Nat) (task : Fin 8) (s : State) (mcys : Part.cys ∈ P) (mrecd : Part.recd ∈ P) (mints : Part.ints ∈ P) (mheld : Part.held ∈ P) (mnoted : Part.noted ∈ P) (mlic : Part.lic ∈ P) (h₀ : SameBut P t₀ (advance dt s)) :
    OutFr P t₀ (execConeOverrun dt task s) := by
  unfold execConeOverrun
  repeat' first
    | with_reducible assumption
    | (rename_i hq; have hq2 := congrArg Prod.snd hq; with_reducible dsimp only at hq2; subst hq2)
    | simp only [↓fr_mk_iff, true_or, or_true, mcys, mrecd, mints, mheld, mnoted, mlic]
    | with_reducible refine fr_ite ?_ ?_
    | with_reducible refine outFr_ite ?_ ?_
    | with_reducible refine outFr_next.2 ?_
    | with_reducible refine fr_ite2 ?_ ?_
    | with_reducible refine fr_foldl ?_ (fun _ _ _ => ?_)
    | with_reducible refine raise_frame _ _ mints mheld mlic ?_ | with_reducible refine record_frame _ _ _ _ _ _ mrecd mnoted ?_ | with_reducible refine setTask_frame _ _ _ mcys ?_
    | split
    | dsimp only

theorem execConeStall_frame {P : List Part} {t₀ : State} (dt : Nat) (task : Fin 8) (s : State) (mmod : Part.mod ∈ P) (mpwr : Part.pwr ∈ P) (mvrc : Part.vrc ∈ P) (mrot : Part.rot ∈ P) (mcys : Part.cys ∈ P) (mclk : Part.clk ∈ P) (mbanks : Part.banks ∈ P) (mchans : Part.chans ∈ P) (mxn : Part.xn ∈ P) (mrecd : Part.recd ∈ P) (mboot : Part.boot ∈ P) (mkiln : Part.kiln ∈ P) (mtwl : Part.twl ∈ P) (mlnc : Part.lnc ∈ P) (mcpn : Part.cpn ∈ P) (mcfd : Part.cfd ∈ P) (mbrg : Part.brg ∈ P) (mints : Part.ints ∈ P) (mcores : Part.cores ∈ P) (mvmem : Part.vmem ∈ P) (mheld : Part.held ∈ P) (mnoted : Part.noted ∈ P) (mlic : Part.lic ∈ P) (h₀ : SameBut P t₀ (advance dt s)) :
    OutFr P t₀ (execConeStall dt task s) := by
  unfold execConeStall
  repeat' first
    | with_reducible assumption
    | (rename_i hq; have hq2 := congrArg Prod.snd hq; with_reducible dsimp only at hq2; subst hq2)
    | simp only [↓fr_mk_iff, true_or, or_true, mmod, mpwr, mvrc, mrot, mcys, mclk, mbanks, mchans, mxn, mrecd, mboot, mkiln, mtwl, mlnc, mcpn, mcfd, mbrg, mints, mcores, mvmem, mheld, mnoted, mlic]
    | with_reducible refine fr_ite ?_ ?_
    | with_reducible refine outFr_ite ?_ ?_
    | with_reducible refine outFr_next.2 ?_
    | with_reducible refine fr_ite2 ?_ ?_
    | with_reducible refine fr_foldl ?_ (fun _ _ _ => ?_)
    | with_reducible refine closeCycle_frame _ _ _ mcys mbanks mrecd mtwl mints mheld mnoted mlic ?_ | with_reducible refine raise_frame _ _ mints mheld mlic ?_ | with_reducible refine record_frame _ _ _ _ _ _ mrecd mnoted ?_ | with_reducible refine execDrop_frame _ _ mcys ?_ | with_reducible refine setTask_frame _ _ _ mcys ?_ | with_reducible refine banksSafeOwned_frame _ _ _ mchans mrecd mints mheld mnoted mlic ?_ | with_reducible refine execDispatch_frame _ mcys mcores mlic ?_ | with_reducible refine afterClose_frame _ mmod mpwr mvrc mrot mcys mclk mbanks mchans mxn mrecd mboot mkiln mtwl mlnc mcpn mcfd mbrg mints mcores mvmem mheld mnoted mlic ?_
    | split
    | dsimp only

theorem execTaskReturn_frame {P : List Part} {t₀ : State} (s : State) (mdrawn : Part.drawn ∈ P) (mmod : Part.mod ∈ P) (mpwr : Part.pwr ∈ P) (mvrc : Part.vrc ∈ P) (mrot : Part.rot ∈ P) (mcys : Part.cys ∈ P) (mclk : Part.clk ∈ P) (mtim : Part.tim ∈ P) (mbanks : Part.banks ∈ P) (mchans : Part.chans ∈ P) (mxn : Part.xn ∈ P) (mrecd : Part.recd ∈ P) (mboot : Part.boot ∈ P) (mkiln : Part.kiln ∈ P) (mtwl : Part.twl ∈ P) (mlnc : Part.lnc ∈ P) (mcpn : Part.cpn ∈ P) (mcfd : Part.cfd ∈ P) (mbrg : Part.brg ∈ P) (mbw : Part.bw ∈ P) (mints : Part.ints ∈ P) (mmems : Part.mems ∈ P) (mcores : Part.cores ∈ P) (mvmem : Part.vmem ∈ P) (mheld : Part.held ∈ P) (mnoted : Part.noted ∈ P) (mlic : Part.lic ∈ P) (h₀ : SameBut P t₀ s) :
    OutFr P t₀ (execTaskReturn s) := by
  unfold execTaskReturn
  repeat' first
    | with_reducible assumption
    | (rename_i hq; have hq2 := congrArg Prod.snd hq; with_reducible dsimp only at hq2; subst hq2)
    | simp only [↓fr_mk_iff, true_or, or_true, mdrawn, mmod, mpwr, mvrc, mrot, mcys, mclk, mtim, mbanks, mchans, mxn, mrecd, mboot, mkiln, mtwl, mlnc, mcpn, mcfd, mbrg, mbw, mints, mmems, mcores, mvmem, mheld, mnoted, mlic]
    | with_reducible refine fr_ite ?_ ?_
    | with_reducible refine outFr_ite ?_ ?_
    | with_reducible refine outFr_next.2 ?_
    | with_reducible refine fr_ite2 ?_ ?_
    | with_reducible refine fr_foldl ?_ (fun _ _ _ => ?_)
    | with_reducible refine bgEnd_frame _ mcys mcores mlic ?_ | with_reducible refine record_frame _ _ _ _ _ _ mrecd mnoted ?_ | with_reducible refine execDispatch_frame _ mcys mcores mlic ?_ | with_reducible refine afterClose_frame _ mmod mpwr mvrc mrot mcys mclk mbanks mchans mxn mrecd mboot mkiln mtwl mlnc mcpn mcfd mbrg mints mcores mvmem mheld mnoted mlic ?_ | with_reducible refine execDrop_frame _ _ mcys ?_ | with_reducible refine runInstr_frame _ _ _ mdrawn mmod mpwr mvrc mrot mcys mclk mtim mbanks mchans mxn mrecd mkiln mtwl mlnc mbrg mbw mints mmems mcores mvmem mheld mnoted mlic ?_
    | split
    | dsimp only

theorem execSyscallEvent_frame {P : List Part} {t₀ : State} (s : State) (mcys : Part.cys ∈ P) (mbanks : Part.banks ∈ P) (mrecd : Part.recd ∈ P) (mtwl : Part.twl ∈ P) (mints : Part.ints ∈ P) (mcores : Part.cores ∈ P) (mheld : Part.held ∈ P) (mnoted : Part.noted ∈ P) (mlic : Part.lic ∈ P) (h₀ : SameBut P t₀ s) :
    OutFr P t₀ (execSyscallEvent s) := by
  unfold execSyscallEvent
  repeat' first
    | with_reducible assumption
    | (rename_i hq; have hq2 := congrArg Prod.snd hq; with_reducible dsimp only at hq2; subst hq2)
    | simp only [↓fr_mk_iff, true_or, or_true, mcys, mbanks, mrecd, mtwl, mints, mcores, mheld, mnoted, mlic]
    | with_reducible refine fr_ite ?_ ?_
    | with_reducible refine outFr_ite ?_ ?_
    | with_reducible refine outFr_next.2 ?_
    | with_reducible refine fr_ite2 ?_ ?_
    | with_reducible refine fr_foldl ?_ (fun _ _ _ => ?_)
    | with_reducible refine recEvWrite_frame _ _ _ mrecd mnoted ?_ | with_reducible refine sysReturn_frame _ _ mcores mlic ?_ | with_reducible refine currentEnd_frame _ _ mcys mbanks mrecd mtwl mints mcores mheld mnoted mlic ?_ | with_reducible refine record_frame _ _ _ _ _ _ mrecd mnoted ?_
    | split
    | dsimp only

theorem execSyscallNettime_frame {P : List Part} {t₀ : State} (s : State) (mcores : Part.cores ∈ P) (mlic : Part.lic ∈ P) (h₀ : SameBut P t₀ s) :
    OutFr P t₀ (execSyscallNettime s) := by
  unfold execSyscallNettime
  repeat' first
    | with_reducible assumption
    | (rename_i hq; have hq2 := congrArg Prod.snd hq; with_reducible dsimp only at hq2; subst hq2)
    | simp only [↓fr_mk_iff, true_or, or_true, mcores, mlic]
    | with_reducible refine fr_ite ?_ ?_
    | with_reducible refine outFr_ite ?_ ?_
    | with_reducible refine outFr_next.2 ?_
    | with_reducible refine fr_ite2 ?_ ?_
    | with_reducible refine fr_foldl ?_ (fun _ _ _ => ?_)
    | with_reducible refine sysReturn_frame _ _ mcores mlic ?_
    | split
    | dsimp only

theorem execSyscallNocommit_frame {P : List Part} {t₀ : State} (s : State) (mcys : Part.cys ∈ P) (mbanks : Part.banks ∈ P) (mrecd : Part.recd ∈ P) (mtwl : Part.twl ∈ P) (mints : Part.ints ∈ P) (mcores : Part.cores ∈ P) (mheld : Part.held ∈ P) (mnoted : Part.noted ∈ P) (mlic : Part.lic ∈ P) (h₀ : SameBut P t₀ s) :
    OutFr P t₀ (execSyscallNocommit s) := by
  unfold execSyscallNocommit
  repeat' first
    | with_reducible assumption
    | (rename_i hq; have hq2 := congrArg Prod.snd hq; with_reducible dsimp only at hq2; subst hq2)
    | simp only [↓fr_mk_iff, true_or, or_true, mcys, mbanks, mrecd, mtwl, mints, mcores, mheld, mnoted, mlic]
    | with_reducible refine fr_ite ?_ ?_
    | with_reducible refine outFr_ite ?_ ?_
    | with_reducible refine outFr_next.2 ?_
    | with_reducible refine fr_ite2 ?_ ?_
    | with_reducible refine fr_foldl ?_ (fun _ _ _ => ?_)
    | with_reducible refine currentEnd_frame _ _ mcys mbanks mrecd mtwl mints mcores mheld mnoted mlic ?_
    | split
    | dsimp only

theorem execSyscallFaultclr_frame {P : List Part} {t₀ : State} (s : State) (mchans : Part.chans ∈ P) (mrecd : Part.recd ∈ P) (mints : Part.ints ∈ P) (mcores : Part.cores ∈ P) (mheld : Part.held ∈ P) (mnoted : Part.noted ∈ P) (mlic : Part.lic ∈ P) (h₀ : SameBut P t₀ s) :
    OutFr P t₀ (execSyscallFaultclr s) := by
  unfold execSyscallFaultclr
  repeat' first
    | with_reducible assumption
    | (rename_i hq; have hq2 := congrArg Prod.snd hq; with_reducible dsimp only at hq2; subst hq2)
    | simp only [↓fr_mk_iff, true_or, or_true, mchans, mrecd, mints, mcores, mheld, mnoted, mlic]
    | with_reducible refine fr_ite ?_ ?_
    | with_reducible refine outFr_ite ?_ ?_
    | with_reducible refine outFr_next.2 ?_
    | with_reducible refine fr_ite2 ?_ ?_
    | with_reducible refine fr_foldl ?_ (fun _ _ _ => ?_)
    | with_reducible refine sysReturn_frame _ _ mcores mlic ?_ | with_reducible refine faultClear_frame _ _ mchans mrecd mints mheld mnoted mlic ?_
    | split
    | dsimp only

theorem execOlcSwitch_frame {P : List Part} {t₀ : State} (dt : Nat) (s : State) (mmod : Part.mod ∈ P) (mpwr : Part.pwr ∈ P) (mvrc : Part.vrc ∈ P) (mrot : Part.rot ∈ P) (mcys : Part.cys ∈ P) (mbanks : Part.banks ∈ P) (mchans : Part.chans ∈ P) (mxn : Part.xn ∈ P) (mrecd : Part.recd ∈ P) (mkiln : Part.kiln ∈ P) (mtwl : Part.twl ∈ P) (mbw : Part.bw ∈ P) (mints : Part.ints ∈ P) (mmems : Part.mems ∈ P) (mcores : Part.cores ∈ P) (mheld : Part.held ∈ P) (mnoted : Part.noted ∈ P) (mlic : Part.lic ∈ P) (h₀ : SameBut P t₀ (advance dt s)) :
    OutFr P t₀ (execOlcSwitch dt s) := by
  unfold execOlcSwitch
  repeat' first
    | with_reducible assumption
    | (rename_i hq; have hq2 := congrArg Prod.snd hq; with_reducible dsimp only at hq2; subst hq2)
    | simp only [↓fr_mk_iff, true_or, or_true, mmod, mpwr, mvrc, mrot, mcys, mbanks, mchans, mxn, mrecd, mkiln, mtwl, mbw, mints, mmems, mcores, mheld, mnoted, mlic]
    | with_reducible refine fr_ite ?_ ?_
    | with_reducible refine outFr_ite ?_ ?_
    | with_reducible refine outFr_next.2 ?_
    | with_reducible refine fr_ite2 ?_ ?_
    | with_reducible refine fr_foldl ?_ (fun _ _ _ => ?_)
    | with_reducible refine olcSwitch_frame _ mmod mpwr mvrc mrot mcys mbanks mchans mxn mrecd mkiln mtwl mbw mints mmems mcores mheld mnoted mlic ?_
    | split
    | dsimp only

theorem execOlcTimeout_frame {P : List Part} {t₀ : State} (dt : Nat) (s : State) (mcys : Part.cys ∈ P) (mrecd : Part.recd ∈ P) (mnoted : Part.noted ∈ P) (h₀ : SameBut P t₀ (advance dt s)) :
    OutFr P t₀ (execOlcTimeout dt s) := by
  unfold execOlcTimeout
  repeat' first
    | with_reducible assumption
    | (rename_i hq; have hq2 := congrArg Prod.snd hq; with_reducible dsimp only at hq2; subst hq2)
    | simp only [↓fr_mk_iff, true_or, or_true, mcys, mrecd, mnoted]
    | with_reducible refine fr_ite ?_ ?_
    | with_reducible refine outFr_ite ?_ ?_
    | with_reducible refine outFr_next.2 ?_
    | with_reducible refine fr_ite2 ?_ ?_
    | with_reducible refine fr_foldl ?_ (fun _ _ _ => ?_)
    | with_reducible refine imageRefuse_frame _ _ _ _ _ _ mcys mrecd mnoted ?_
    | split
    | dsimp only

theorem setClk_frame {P : List Part} {t₀ : State} (f : Clk → Clk) (s : State) (mclk : Part.clk ∈ P) (h₀ : SameBut P t₀ s) :
    SameBut P t₀ (setClk f s) := by
  unfold setClk
  repeat' first
    | with_reducible assumption
    | (rename_i hq; have hq2 := congrArg Prod.snd hq; with_reducible dsimp only at hq2; subst hq2)
    | simp only [↓fr_mk_iff, true_or, or_true, mclk]
    | with_reducible refine fr_ite ?_ ?_
    | with_reducible refine outFr_ite ?_ ?_
    | with_reducible refine outFr_next.2 ?_
    | with_reducible refine fr_ite2 ?_ ?_
    | with_reducible refine fr_foldl ?_ (fun _ _ _ => ?_)
    | split
    | dsimp only

theorem setTim_frame {P : List Part} {t₀ : State} (f : Tim → Tim) (s : State) (mtim : Part.tim ∈ P) (h₀ : SameBut P t₀ s) :
    SameBut P t₀ (setTim f s) := by
  unfold setTim
  repeat' first
    | with_reducible assumption
    | (rename_i hq; have hq2 := congrArg Prod.snd hq; with_reducible dsimp only at hq2; subst hq2)
    | simp only [↓fr_mk_iff, true_or, or_true, mtim]
    | with_reducible refine fr_ite ?_ ?_
    | with_reducible refine outFr_ite ?_ ?_
    | with_reducible refine outFr_next.2 ?_
    | with_reducible refine fr_ite2 ?_ ?_
    | with_reducible refine fr_foldl ?_ (fun _ _ _ => ?_)
    | split
    | dsimp only

theorem coastUncertain_frame {P : List Part} {t₀ : State} (s : State) (mtim : Part.tim ∈ P) (mrecd : Part.recd ∈ P) (mints : Part.ints ∈ P) (mheld : Part.held ∈ P) (mnoted : Part.noted ∈ P) (mlic : Part.lic ∈ P) (h₀ : SameBut P t₀ s) :
    SameBut P t₀ (coastUncertain s) := by
  unfold coastUncertain
  repeat' first
    | with_reducible assumption
    | (rename_i hq; have hq2 := congrArg Prod.snd hq; with_reducible dsimp only at hq2; subst hq2)
    | simp only [↓fr_mk_iff, true_or, or_true, mtim, mrecd, mints, mheld, mnoted, mlic]
    | with_reducible refine fr_ite ?_ ?_
    | with_reducible refine outFr_ite ?_ ?_
    | with_reducible refine outFr_next.2 ?_
    | with_reducible refine fr_ite2 ?_ ?_
    | with_reducible refine fr_foldl ?_ (fun _ _ _ => ?_)
    | with_reducible refine uncertEdge_frame _ _ _ _ mtim mrecd mints mheld mnoted mlic ?_ | with_reducible refine setTim_frame _ _ mtim ?_
    | split
    | dsimp only

theorem firstLock_frame {P : List Part} {t₀ : State} (s : State) (mtim : Part.tim ∈ P) (mrecd : Part.recd ∈ P) (mints : Part.ints ∈ P) (mheld : Part.held ∈ P) (mnoted : Part.noted ∈ P) (mlic : Part.lic ∈ P) (h₀ : SameBut P t₀ s) :
    SameBut P t₀ (firstLock s) := by
  unfold firstLock
  repeat' first
    | with_reducible assumption
    | (rename_i hq; have hq2 := congrArg Prod.snd hq; with_reducible dsimp only at hq2; subst hq2)
    | simp only [↓fr_mk_iff, true_or, or_true, mtim, mrecd, mints, mheld, mnoted, mlic]
    | with_reducible refine fr_ite ?_ ?_
    | with_reducible refine outFr_ite ?_ ?_
    | with_reducible refine outFr_next.2 ?_
    | with_reducible refine fr_ite2 ?_ ?_
    | with_reducible refine fr_foldl ?_ (fun _ _ _ => ?_)
    | with_reducible refine uncertEdge_frame _ _ _ _ mtim mrecd mints mheld mnoted mlic ?_ | with_reducible refine setTim_frame _ _ mtim ?_
    | split
    | dsimp only

theorem boundCheck_frame {P : List Part} {t₀ : State} (servo : Bool) (s : State) (mdrawn : Part.drawn ∈ P) (mvrc : Part.vrc ∈ P) (mrot : Part.rot ∈ P) (mcys : Part.cys ∈ P) (mclk : Part.clk ∈ P) (mtim : Part.tim ∈ P) (mxn : Part.xn ∈ P) (mrecd : Part.recd ∈ P) (mtwl : Part.twl ∈ P) (mlnc : Part.lnc ∈ P) (mbw : Part.bw ∈ P) (mints : Part.ints ∈ P) (mmems : Part.mems ∈ P) (mcores : Part.cores ∈ P) (mvmem : Part.vmem ∈ P) (mheld : Part.held ∈ P) (mnoted : Part.noted ∈ P) (mlic : Part.lic ∈ P) (h₀ : SameBut P t₀ s) :
    SameBut P t₀ (boundCheck servo s) := by
  unfold boundCheck
  repeat' first
    | with_reducible assumption
    | (rename_i hq; have hq2 := congrArg Prod.snd hq; with_reducible dsimp only at hq2; subst hq2)
    | simp only [↓fr_mk_iff, true_or, or_true, mdrawn, mvrc, mrot, mcys, mclk, mtim, mxn, mrecd, mtwl, mlnc, mbw, mints, mmems, mcores, mvmem, mheld, mnoted, mlic]
    | with_reducible refine fr_ite ?_ ?_
    | with_reducible refine outFr_ite ?_ ?_
    | with_reducible refine outFr_next.2 ?_
    | with_reducible refine fr_ite2 ?_ ?_
    | with_reducible refine fr_foldl ?_ (fun _ _ _ => ?_)
    | with_reducible refine uncertEdge_frame _ _ _ _ mtim mrecd mints mheld mnoted mlic ?_ | with_reducible refine setTim_frame _ _ mtim ?_ | with_reducible refine servo_frame _ _ _ _ mdrawn mvrc mrot mcys mclk mtim mxn mrecd mtwl mlnc mbw mints mmems mcores mvmem mheld mnoted mlic ?_
    | split
    | dsimp only

theorem startRamp_frame {P : List Part} {t₀ : State} (target : Nat) (s : State) (mclk : Part.clk ∈ P) (mtim : Part.tim ∈ P) (mrecd : Part.recd ∈ P) (mints : Part.ints ∈ P) (mheld : Part.held ∈ P) (mnoted : Part.noted ∈ P) (mlic : Part.lic ∈ P) (h₀ : SameBut P t₀ s) :
    SameBut P t₀ (startRamp target s) := by
  unfold startRamp
  repeat' first
    | with_reducible assumption
    | (rename_i hq; have hq2 := congrArg Prod.snd hq; with_reducible dsimp only at hq2; subst hq2)
    | simp only [↓fr_mk_iff, true_or, or_true, mclk, mtim, mrecd, mints, mheld, mnoted, mlic]
    | with_reducible refine fr_ite ?_ ?_
    | with_reducible refine outFr_ite ?_ ?_
    | with_reducible refine outFr_next.2 ?_
    | with_reducible refine fr_ite2 ?_ ?_
    | with_reducible refine fr_foldl ?_ (fun _ _ _ => ?_)
    | with_reducible refine setClk_frame _ _ mclk ?_ | with_reducible refine coastUncertain_frame _ mtim mrecd mints mheld mnoted mlic ?_
    | split
    | dsimp only

theorem refLoss_frame {P : List Part} {t₀ : State} (src cause : Nat) (s : State) (mclk : Part.clk ∈ P) (mtim : Part.tim ∈ P) (mrecd : Part.recd ∈ P) (mints : Part.ints ∈ P) (mheld : Part.held ∈ P) (mnoted : Part.noted ∈ P) (mlic : Part.lic ∈ P) (h₀ : SameBut P t₀ s) :
    SameBut P t₀ (refLoss src cause s) := by
  unfold refLoss
  repeat' first
    | with_reducible assumption
    | (rename_i hq; have hq2 := congrArg Prod.snd hq; with_reducible dsimp only at hq2; subst hq2)
    | simp only [↓fr_mk_iff, true_or, or_true, mclk, mtim, mrecd, mints, mheld, mnoted, mlic]
    | with_reducible refine fr_ite ?_ ?_
    | with_reducible refine outFr_ite ?_ ?_
    | with_reducible refine outFr_next.2 ?_
    | with_reducible refine fr_ite2 ?_ ?_
    | with_reducible refine fr_foldl ?_ (fun _ _ _ => ?_)
    | with_reducible refine setClk_frame _ _ mclk ?_ | with_reducible refine raise_frame _ _ mints mheld mlic ?_ | with_reducible refine record_frame _ _ _ _ _ _ mrecd mnoted ?_ | with_reducible refine startRamp_frame _ _ mclk mtim mrecd mints mheld mnoted mlic ?_ | with_reducible refine coastUncertain_frame _ mtim mrecd mints mheld mnoted mlic ?_
    | split
    | dsimp only

theorem reselect_frame {P : List Part} {t₀ : State} (s : State) (mclk : Part.clk ∈ P) (mtim : Part.tim ∈ P) (mrecd : Part.recd ∈ P) (mints : Part.ints ∈ P) (mheld : Part.held ∈ P) (mnoted : Part.noted ∈ P) (mlic : Part.lic ∈ P) (h₀ : SameBut P t₀ s) :
    SameBut P t₀ (reselect s) := by
  unfold reselect
  repeat' first
    | with_reducible assumption
    | (rename_i hq; have hq2 := congrArg Prod.snd hq; with_reducible dsimp only at hq2; subst hq2)
    | simp only [↓fr_mk_iff, true_or, or_true, mclk, mtim, mrecd, mints, mheld, mnoted, mlic]
    | with_reducible refine fr_ite ?_ ?_
    | with_reducible refine outFr_ite ?_ ?_
    | with_reducible refine outFr_next.2 ?_
    | with_reducible refine fr_ite2 ?_ ?_
    | with_reducible refine fr_foldl ?_ (fun _ _ _ => ?_)
    | with_reducible refine refLoss_frame _ _ _ mclk mtim mrecd mints mheld mnoted mlic ?_ | with_reducible refine startRamp_frame _ _ mclk mtim mrecd mints mheld mnoted mlic ?_
    | split
    | dsimp only

theorem sourceValid_frame {P : List Part} {t₀ : State} (n : Fin 3) (s : State) (mclk : Part.clk ∈ P) (mtim : Part.tim ∈ P) (mrecd : Part.recd ∈ P) (mints : Part.ints ∈ P) (mheld : Part.held ∈ P) (mnoted : Part.noted ∈ P) (mlic : Part.lic ∈ P) (h₀ : SameBut P t₀ s) :
    SameBut P t₀ (sourceValid n s) := by
  unfold sourceValid
  repeat' first
    | with_reducible assumption
    | (rename_i hq; have hq2 := congrArg Prod.snd hq; with_reducible dsimp only at hq2; subst hq2)
    | simp only [↓fr_mk_iff, true_or, or_true, mclk, mtim, mrecd, mints, mheld, mnoted, mlic]
    | with_reducible refine fr_ite ?_ ?_
    | with_reducible refine outFr_ite ?_ ?_
    | with_reducible refine outFr_next.2 ?_
    | with_reducible refine fr_ite2 ?_ ?_
    | with_reducible refine fr_foldl ?_ (fun _ _ _ => ?_)
    | with_reducible refine reselect_frame _ mclk mtim mrecd mints mheld mnoted mlic ?_ | with_reducible refine setClk_frame _ _ mclk ?_
    | split
    | dsimp only

theorem linkSet_frame {P : List Part} {t₀ : State} (p : Fin 4) (spd : Nat) (s : State) (mclk : Part.clk ∈ P) (mtim : Part.tim ∈ P) (mrecd : Part.recd ∈ P) (mlnc : Part.lnc ∈ P) (mcpn : Part.cpn ∈ P) (mints : Part.ints ∈ P) (mheld : Part.held ∈ P) (mnoted : Part.noted ∈ P) (mlic : Part.lic ∈ P) (h₀ : SameBut P t₀ s) :
    SameBut P t₀ (linkSet p spd s) := by
  unfold linkSet
  repeat' first
    | with_reducible assumption
    | (rename_i hq; have hq2 := congrArg Prod.snd hq; with_reducible dsimp only at hq2; subst hq2)
    | simp only [↓fr_mk_iff, true_or, or_true, mclk, mtim, mrecd, mlnc, mcpn, mints, mheld, mnoted, mlic]
    | with_reducible refine fr_ite ?_ ?_
    | with_reducible refine outFr_ite ?_ ?_
    | with_reducible refine outFr_next.2 ?_
    | with_reducible refine fr_ite2 ?_ ?_
    | with_reducible refine fr_foldl ?_ (fun _ _ _ => ?_)
    | with_reducible refine raise_frame _ _ mints mheld mlic ?_ | with_reducible refine setLnc_frame _ _ mlnc ?_ | with_reducible refine record_frame _ _ _ _ _ _ mrecd mnoted ?_ | with_reducible refine refLoss_frame _ _ _ mclk mtim mrecd mints mheld mnoted mlic ?_
    | split
    | dsimp only

theorem gmSet_frame {P : List Part} {t₀ : State} (m : Option Master) (self : Bool) (s : State) (mdrawn : Part.drawn ∈ P) (mvrc : Part.vrc ∈ P) (mrot : Part.rot ∈ P) (mcys : Part.cys ∈ P) (mclk : Part.clk ∈ P) (mtim : Part.tim ∈ P) (mxn : Part.xn ∈ P) (mrecd : Part.recd ∈ P) (mtwl : Part.twl ∈ P) (mlnc : Part.lnc ∈ P) (mbw : Part.bw ∈ P) (mints : Part.ints ∈ P) (mmems : Part.mems ∈ P) (mcores : Part.cores ∈ P) (mvmem : Part.vmem ∈ P) (mheld : Part.held ∈ P) (mnoted : Part.noted ∈ P) (mlic : Part.lic ∈ P) (h₀ : SameBut P t₀ s) :
    SameBut P t₀ (gmSet m self s) := by
  unfold gmSet
  repeat' first
    | with_reducible assumption
    | (rename_i hq; have hq2 := congrArg Prod.snd hq; with_reducible dsimp only at hq2; subst hq2)
    | simp only [↓fr_mk_iff, true_or, or_true, mdrawn, mvrc, mrot, mcys, mclk, mtim, mxn, mrecd, mtwl, mlnc, mbw, mints, mmems, mcores, mvmem, mheld, mnoted, mlic]
    | with_reducible refine fr_ite ?_ ?_
    | with_reducible refine outFr_ite ?_ ?_
    | with_reducible refine outFr_next.2 ?_
    | with_reducible refine fr_ite2 ?_ ?_
    | with_reducible refine fr_foldl ?_ (fun _ _ _ => ?_)
    | with_reducible refine setTim_frame _ _ mtim ?_ | with_reducible refine accepted_frame _  ?_ | with_reducible refine boundCheck_frame _ _ mdrawn mvrc mrot mcys mclk mtim mxn mrecd mtwl mlnc mbw mints mmems mcores mvmem mheld mnoted mlic ?_ | with_reducible refine raise_frame _ _ mints mheld mlic ?_ | with_reducible refine record_frame _ _ _ _ _ _ mrecd mnoted ?_
    | split
    | dsimp only

theorem netsQuiet_frame {P : List Part} {t₀ : State} (s : State) (mdrawn : Part.drawn ∈ P) (mvrc : Part.vrc ∈ P) (mrot : Part.rot ∈ P) (mcys : Part.cys ∈ P) (mclk : Part.clk ∈ P) (mtim : Part.tim ∈ P) (mchans : Part.chans ∈ P) (mxn : Part.xn ∈ P) (mrecd : Part.recd ∈ P) (mtwl : Part.twl ∈ P) (mlnc : Part.lnc ∈ P) (mcpn : Part.cpn ∈ P) (mcfd : Part.cfd ∈ P) (mbw : Part.bw ∈ P) (mints : Part.ints ∈ P) (mmems : Part.mems ∈ P) (mcores : Part.cores ∈ P) (mvmem : Part.vmem ∈ P) (mheld : Part.held ∈ P) (mnoted : Part.noted ∈ P) (mlic : Part.lic ∈ P) (h₀ : SameBut P t₀ s) :
    SameBut P t₀ (netsQuiet s) := by
  unfold netsQuiet
  repeat' first
    | with_reducible assumption
    | (rename_i hq; have hq2 := congrArg Prod.snd hq; with_reducible dsimp only at hq2; subst hq2)
    | simp only [↓fr_mk_iff, true_or, or_true, mdrawn, mvrc, mrot, mcys, mclk, mtim, mchans, mxn, mrecd, mtwl, mlnc, mcpn, mcfd, mbw, mints, mmems, mcores, mvmem, mheld, mnoted, mlic]
    | with_reducible refine fr_ite ?_ ?_
    | with_reducible refine outFr_ite ?_ ?_
    | with_reducible refine outFr_next.2 ?_
    | with_reducible refine fr_ite2 ?_ ?_
    | with_reducible refine fr_foldl ?_ (fun _ _ _ => ?_)
    | with_reducible refine linkSet_frame _ _ _ mclk mtim mrecd mlnc mcpn mints mheld mnoted mlic ?_ | with_reducible refine gmSet_frame _ _ _ mdrawn mvrc mrot mcys mclk mtim mxn mrecd mtwl mlnc mbw mints mmems mcores mvmem mheld mnoted mlic ?_
    | split
    | dsimp only

theorem rootMoved_frame {P : List Part} {t₀ : State} (s : State) (mdrawn : Part.drawn ∈ P) (mvrc : Part.vrc ∈ P) (mrot : Part.rot ∈ P) (mcys : Part.cys ∈ P) (mclk : Part.clk ∈ P) (mtim : Part.tim ∈ P) (mchans : Part.chans ∈ P) (mxn : Part.xn ∈ P) (mrecd : Part.recd ∈ P) (mtwl : Part.twl ∈ P) (mlnc : Part.lnc ∈ P) (mcpn : Part.cpn ∈ P) (mcfd : Part.cfd ∈ P) (mbw : Part.bw ∈ P) (mints : Part.ints ∈ P) (mmems : Part.mems ∈ P) (mcores : Part.cores ∈ P) (mvmem : Part.vmem ∈ P) (mheld : Part.held ∈ P) (mnoted : Part.noted ∈ P) (mlic : Part.lic ∈ P) (h₀ : SameBut P t₀ s) :
    SameBut P t₀ (rootMoved s) := by
  unfold rootMoved
  repeat' first
    | with_reducible assumption
    | (rename_i hq; have hq2 := congrArg Prod.snd hq; with_reducible dsimp only at hq2; subst hq2)
    | simp only [↓fr_mk_iff, true_or, or_true, mdrawn, mvrc, mrot, mcys, mclk, mtim, mchans, mxn, mrecd, mtwl, mlnc, mcpn, mcfd, mbw, mints, mmems, mcores, mvmem, mheld, mnoted, mlic]
    | with_reducible refine fr_ite ?_ ?_
    | with_reducible refine outFr_ite ?_ ?_
    | with_reducible refine outFr_next.2 ?_
    | with_reducible refine fr_ite2 ?_ ?_
    | with_reducible refine fr_foldl ?_ (fun _ _ _ => ?_)
    | with_reducible refine setClk_frame _ _ mclk ?_ | with_reducible refine netsQuiet_frame _ mdrawn mvrc mrot mcys mclk mtim mchans mxn mrecd mtwl mlnc mcpn mcfd mbw mints mmems mcores mvmem mheld mnoted mlic ?_ | with_reducible refine raise_frame _ _ mints mheld mlic ?_ | with_reducible refine record_frame _ _ _ _ _ _ mrecd mnoted ?_ | with_reducible refine firstLock_frame _ mtim mrecd mints mheld mnoted mlic ?_
    | split
    | dsimp only

theorem rampDone_frame {P : List Part} {t₀ : State} (s : State) (mclk : Part.clk ∈ P) (mtim : Part.tim ∈ P) (mxn : Part.xn ∈ P) (mrecd : Part.recd ∈ P) (mints : Part.ints ∈ P) (mheld : Part.held ∈ P) (mnoted : Part.noted ∈ P) (mlic : Part.lic ∈ P) (h₀ : SameBut P t₀ s) :
    SameBut P t₀ (rampDone s) := by
  unfold rampDone
  repeat' first
    | with_reducible assumption
    | (rename_i hq; have hq2 := congrArg Prod.snd hq; with_reducible dsimp only at hq2; subst hq2)
    | simp only [↓fr_mk_iff, true_or, or_true, mclk, mtim, mxn, mrecd, mints, mheld, mnoted, mlic]
    | with_reducible refine fr_ite ?_ ?_
    | with_reducible refine outFr_ite ?_ ?_
    | with_reducible refine outFr_next.2 ?_
    | with_reducible refine fr_ite2 ?_ ?_
    | with_reducible refine fr_foldl ?_ (fun _ _ _ => ?_)
    | with_reducible refine reselect_frame _ mclk mtim mrecd mints mheld mnoted mlic ?_ | with_reducible refine setClk_frame _ _ mclk ?_ | with_reducible refine xnCoastEnd_frame _ mxn mrecd mints mheld mnoted mlic ?_ | with_reducible refine raise_frame _ _ mints mheld mlic ?_ | with_reducible refine record_frame _ _ _ _ _ _ mrecd mnoted ?_
    | split
    | dsimp only

theorem stepTime_frame {P : List Part} {t₀ : State} (v : Int) (lock : Bool) (s : State) (mvrc : Part.vrc ∈ P) (mrot : Part.rot ∈ P) (mcys : Part.cys ∈ P) (mclk : Part.clk ∈ P) (mtim : Part.tim ∈ P) (mxn : Part.xn ∈ P) (mrecd : Part.recd ∈ P) (mtwl : Part.twl ∈ P) (mlnc : Part.lnc ∈ P) (mbw : Part.bw ∈ P) (mints : Part.ints ∈ P) (mmems : Part.mems ∈ P) (mcores : Part.cores ∈ P) (mvmem : Part.vmem ∈ P) (mheld : Part.held ∈ P) (mnoted : Part.noted ∈ P) (mlic : Part.lic ∈ P) (h₀ : SameBut P t₀ s) :
    SameBut P t₀ (stepTime v lock s) := by
  unfold stepTime
  repeat' first
    | with_reducible assumption
    | (rename_i hq; have hq2 := congrArg Prod.snd hq; with_reducible dsimp only at hq2; subst hq2)
    | simp only [↓fr_mk_iff, true_or, or_true, mvrc, mrot, mcys, mclk, mtim, mxn, mrecd, mtwl, mlnc, mbw, mints, mmems, mcores, mvmem, mheld, mnoted, mlic]
    | with_reducible refine fr_ite ?_ ?_
    | with_reducible refine outFr_ite ?_ ?_
    | with_reducible refine outFr_next.2 ?_
    | with_reducible refine fr_ite2 ?_ ?_
    | with_reducible refine fr_foldl ?_ (fun _ _ _ => ?_)
    | with_reducible refine setTim_frame _ _ mtim ?_ | with_reducible refine raise_frame _ _ mints mheld mlic ?_ | with_reducible refine record_frame _ _ _ _ _ _ mrecd mnoted ?_ | with_reducible refine step_frame _ mrot mcys mclk mtim mrecd mtwl mlnc mbw mmems mcores mlic ?_ | with_reducible refine uncertEdge_frame _ _ _ _ mtim mrecd mints mheld mnoted mlic ?_ | with_reducible refine xnStep_frame _ mvrc mxn mtwl mvmem ?_
    | split
    | dsimp only

theorem slewTime_frame {P : List Part} {t₀ : State} (v : Int) (s : State) (mtim : Part.tim ∈ P) (mints : Part.ints ∈ P) (mheld : Part.held ∈ P) (mlic : Part.lic ∈ P) (h₀ : SameBut P t₀ s) :
    SameBut P t₀ (slewTime v s) := by
  unfold slewTime
  repeat' first
    | with_reducible assumption
    | (rename_i hq; have hq2 := congrArg Prod.snd hq; with_reducible dsimp only at hq2; subst hq2)
    | simp only [↓fr_mk_iff, true_or, or_true, mtim, mints, mheld, mlic]
    | with_reducible refine fr_ite ?_ ?_
    | with_reducible refine outFr_ite ?_ ?_
    | with_reducible refine outFr_next.2 ?_
    | with_reducible refine fr_ite2 ?_ ?_
    | with_reducible refine fr_foldl ?_ (fun _ _ _ => ?_)
    | with_reducible refine raise_frame _ _ mints mheld mlic ?_ | with_reducible refine setTim_frame _ _ mtim ?_
    | split
    | dsimp only

theorem slewDone_frame {P : List Part} {t₀ : State} (s : State) (mtim : Part.tim ∈ P) (mints : Part.ints ∈ P) (mheld : Part.held ∈ P) (mlic : Part.lic ∈ P) (h₀ : SameBut P t₀ s) :
    SameBut P t₀ (slewDone s) := by
  unfold slewDone
  repeat' first
    | with_reducible assumption
    | (rename_i hq; have hq2 := congrArg Prod.snd hq; with_reducible dsimp only at hq2; subst hq2)
    | simp only [↓fr_mk_iff, true_or, or_true, mtim, mints, mheld, mlic]
    | with_reducible refine fr_ite ?_ ?_
    | with_reducible refine outFr_ite ?_ ?_
    | with_reducible refine outFr_next.2 ?_
    | with_reducible refine fr_ite2 ?_ ?_
    | with_reducible refine fr_foldl ?_ (fun _ _ _ => ?_)
    | with_reducible refine raise_frame _ _ mints mheld mlic ?_ | with_reducible refine setTim_frame _ _ mtim ?_
    | split
    | dsimp only

theorem servo_frame {P : List Part} {t₀ : State} (o : Int) (lock : Bool) (rate : Option Int) (s : State) (mdrawn : Part.drawn ∈ P) (mvrc : Part.vrc ∈ P) (mrot : Part.rot ∈ P) (mcys : Part.cys ∈ P) (mclk : Part.clk ∈ P) (mtim : Part.tim ∈ P) (mxn : Part.xn ∈ P) (mrecd : Part.recd ∈ P) (mtwl : Part.twl ∈ P) (mlnc : Part.lnc ∈ P) (mbw : Part.bw ∈ P) (mints : Part.ints ∈ P) (mmems : Part.mems ∈ P) (mcores : Part.cores ∈ P) (mvmem : Part.vmem ∈ P) (mheld : Part.held ∈ P) (mnoted : Part.noted ∈ P) (mlic : Part.lic ∈ P) (h₀ : SameBut P t₀ s) :
    SameBut P t₀ (servo o lock rate s) := by
  unfold servo
  repeat' first
    | with_reducible assumption
    | (rename_i hq; have hq2 := congrArg Prod.snd hq; with_reducible dsimp only at hq2; subst hq2)
    | simp only [↓fr_mk_iff, true_or, or_true, mdrawn, mvrc, mrot, mcys, mclk, mtim, mxn, mrecd, mtwl, mlnc, mbw, mints, mmems, mcores, mvmem, mheld, mnoted, mlic]
    | with_reducible refine fr_ite ?_ ?_
    | with_reducible refine outFr_ite ?_ ?_
    | with_reducible refine outFr_next.2 ?_
    | with_reducible refine fr_ite2 ?_ ?_
    | with_reducible refine fr_foldl ?_ (fun _ _ _ => ?_)
    | with_reducible refine setTim_frame _ _ mtim ?_ | with_reducible refine accepted_frame _  ?_ | with_reducible refine stepTime_frame _ _ _ mvrc mrot mcys mclk mtim mxn mrecd mtwl mlnc mbw mints mmems mcores mvmem mheld mnoted mlic ?_ | with_reducible refine slewTime_frame _ _ mtim mints mheld mlic ?_ | with_reducible refine setRate_frame _ _ mtim mrecd mnoted ?_ | with_reducible refine drawWord_frame _ mdrawn ?_ | with_reducible refine boundCheck_frame _ _ mdrawn mvrc mrot mcys mclk mtim mxn mrecd mtwl mlnc mbw mints mmems mcores mvmem mheld mnoted mlic ?_
    | split
    | dsimp only

theorem bmcaChoose_frame {P : List Part} {t₀ : State} (m : Master) (s : State) (mdrawn : Part.drawn ∈ P) (mvrc : Part.vrc ∈ P) (mrot : Part.rot ∈ P) (mcys : Part.cys ∈ P) (mclk : Part.clk ∈ P) (mtim : Part.tim ∈ P) (mxn : Part.xn ∈ P) (mrecd : Part.recd ∈ P) (mtwl : Part.twl ∈ P) (mlnc : Part.lnc ∈ P) (mbw : Part.bw ∈ P) (mints : Part.ints ∈ P) (mmems : Part.mems ∈ P) (mcores : Part.cores ∈ P) (mvmem : Part.vmem ∈ P) (mheld : Part.held ∈ P) (mnoted : Part.noted ∈ P) (mlic : Part.lic ∈ P) (h₀ : SameBut P t₀ s) :
    SameBut P t₀ (bmcaChoose m s) := by
  unfold bmcaChoose
  repeat' first
    | with_reducible assumption
    | (rename_i hq; have hq2 := congrArg Prod.snd hq; with_reducible dsimp only at hq2; subst hq2)
    | simp only [↓fr_mk_iff, true_or, or_true, mdrawn, mvrc, mrot, mcys, mclk, mtim, mxn, mrecd, mtwl, mlnc, mbw, mints, mmems, mcores, mvmem, mheld, mnoted, mlic]
    | with_reducible refine fr_ite ?_ ?_
    | with_reducible refine outFr_ite ?_ ?_
    | with_reducible refine outFr_next.2 ?_
    | with_reducible refine fr_ite2 ?_ ?_
    | with_reducible refine fr_foldl ?_ (fun _ _ _ => ?_)
    | with_reducible refine gmSet_frame _ _ _ mdrawn mvrc mrot mcys mclk mtim mxn mrecd mtwl mlnc mbw mints mmems mcores mvmem mheld mnoted mlic ?_
    | split
    | dsimp only

theorem acceptSync_frame {P : List Part} {t₀ : State} (w : SyncWait) (origin corr : Int) (s : State) (mdrawn : Part.drawn ∈ P) (mvrc : Part.vrc ∈ P) (mrot : Part.rot ∈ P) (mcys : Part.cys ∈ P) (mclk : Part.clk ∈ P) (mtim : Part.tim ∈ P) (mxn : Part.xn ∈ P) (mrecd : Part.recd ∈ P) (mtwl : Part.twl ∈ P) (mlnc : Part.lnc ∈ P) (mbw : Part.bw ∈ P) (mints : Part.ints ∈ P) (mmems : Part.mems ∈ P) (mcores : Part.cores ∈ P) (mvmem : Part.vmem ∈ P) (mheld : Part.held ∈ P) (mnoted : Part.noted ∈ P) (mlic : Part.lic ∈ P) (h₀ : SameBut P t₀ s) :
    SameBut P t₀ (acceptSync w origin corr s) := by
  unfold acceptSync
  repeat' first
    | with_reducible assumption
    | (rename_i hq; have hq2 := congrArg Prod.snd hq; with_reducible dsimp only at hq2; subst hq2)
    | simp only [↓fr_mk_iff, true_or, or_true, mdrawn, mvrc, mrot, mcys, mclk, mtim, mxn, mrecd, mtwl, mlnc, mbw, mints, mmems, mcores, mvmem, mheld, mnoted, mlic]
    | with_reducible refine fr_ite ?_ ?_
    | with_reducible refine outFr_ite ?_ ?_
    | with_reducible refine outFr_next.2 ?_
    | with_reducible refine fr_ite2 ?_ ?_
    | with_reducible refine fr_foldl ?_ (fun _ _ _ => ?_)
    | with_reducible refine servo_frame _ _ _ _ mdrawn mvrc mrot mcys mclk mtim mxn mrecd mtwl mlnc mbw mints mmems mcores mvmem mheld mnoted mlic ?_ | with_reducible refine setTim_frame _ _ mtim ?_
    | split
    | dsimp only

theorem execStartWindowEnd_frame {P : List Part} {t₀ : State} (dt : Nat) (tcxo : Bool) (edges ember : BitVec 32) (s : State) (mdrawn : Part.drawn ∈ P) (mmod : Part.mod ∈ P) (mvrc : Part.vrc ∈ P) (mrot : Part.rot ∈ P) (mcys : Part.cys ∈ P) (mclk : Part.clk ∈ P) (mtim : Part.tim ∈ P) (mchans : Part.chans ∈ P) (mxn : Part.xn ∈ P) (mrecd : Part.recd ∈ P) (mtwl : Part.twl ∈ P) (mlnc : Part.lnc ∈ P) (mcpn : Part.cpn ∈ P) (mcfd : Part.cfd ∈ P) (mbw : Part.bw ∈ P) (mints : Part.ints ∈ P) (mmems : Part.mems ∈ P) (mcores : Part.cores ∈ P) (mvmem : Part.vmem ∈ P) (mheld : Part.held ∈ P) (mnoted : Part.noted ∈ P) (mlic : Part.lic ∈ P) (h₀ : SameBut P t₀ (advance dt s)) :
    OutFr P t₀ (execStartWindowEnd dt tcxo edges ember s) := by
  unfold execStartWindowEnd
  repeat' first
    | with_reducible assumption
    | (rename_i hq; have hq2 := congrArg Prod.snd hq; with_reducible dsimp only at hq2; subst hq2)
    | simp only [↓fr_mk_iff, true_or, or_true, mdrawn, mmod, mvrc, mrot, mcys, mclk, mtim, mchans, mxn, mrecd, mtwl, mlnc, mcpn, mcfd, mbw, mints, mmems, mcores, mvmem, mheld, mnoted, mlic]
    | with_reducible refine fr_ite ?_ ?_
    | with_reducible refine outFr_ite ?_ ?_
    | with_reducible refine outFr_next.2 ?_
    | with_reducible refine fr_ite2 ?_ ?_
    | with_reducible refine fr_foldl ?_ (fun _ _ _ => ?_)
    | with_reducible refine domainRamp_frame _ mclk ?_ | with_reducible refine setClk_frame _ _ mclk ?_ | with_reducible refine firstLock_frame _ mtim mrecd mints mheld mnoted mlic ?_ | with_reducible refine raise_frame _ _ mints mheld mlic ?_ | with_reducible refine record_frame _ _ _ _ _ _ mrecd mnoted ?_ | with_reducible refine coastUncertain_frame _ mtim mrecd mints mheld mnoted mlic ?_ | with_reducible refine netsQuiet_frame _ mdrawn mvrc mrot mcys mclk mtim mchans mxn mrecd mtwl mlnc mcpn mcfd mbw mints mmems mcores mvmem mheld mnoted mlic ?_
    | split
    | dsimp only

theorem execRefLost_frame {P : List Part} {t₀ : State} (dt : Nat) (cause : Fin 4) (s : State) (mclk : Part.clk ∈ P) (mtim : Part.tim ∈ P) (mrecd : Part.recd ∈ P) (mints : Part.ints ∈ P) (mheld : Part.held ∈ P) (mnoted : Part.noted ∈ P) (mlic : Part.lic ∈ P) (h₀ : SameBut P t₀ (advance dt s)) :
    OutFr P t₀ (execRefLost dt cause s) := by
  unfold execRefLost
  repeat' first
    | with_reducible assumption
    | (rename_i hq; have hq2 := congrArg Prod.snd hq; with_reducible dsimp only at hq2; subst hq2)
    | simp only [↓fr_mk_iff, true_or, or_true, mclk, mtim, mrecd, mints, mheld, mnoted, mlic]
    | with_reducible refine fr_ite ?_ ?_
    | with_reducible refine outFr_ite ?_ ?_
    | with_reducible refine outFr_next.2 ?_
    | with_reducible refine fr_ite2 ?_ ?_
    | with_reducible refine fr_foldl ?_ (fun _ _ _ => ?_)
    | with_reducible refine refLoss_frame _ _ _ mclk mtim mrecd mints mheld mnoted mlic ?_
    | split
    | dsimp only

theorem execSourceValid_frame {P : List Part} {t₀ : State} (dt : Nat) (src : Fin 3) (s : State) (mclk : Part.clk ∈ P) (mtim : Part.tim ∈ P) (mrecd : Part.recd ∈ P) (mints : Part.ints ∈ P) (mheld : Part.held ∈ P) (mnoted : Part.noted ∈ P) (mlic : Part.lic ∈ P) (h₀ : SameBut P t₀ (advance dt s)) :
    OutFr P t₀ (execSourceValid dt src s) := by
  unfold execSourceValid
  repeat' first
    | with_reducible assumption
    | (rename_i hq; have hq2 := congrArg Prod.snd hq; with_reducible dsimp only at hq2; subst hq2)
    | simp only [↓fr_mk_iff, true_or, or_true, mclk, mtim, mrecd, mints, mheld, mnoted, mlic]
    | with_reducible refine fr_ite ?_ ?_
    | with_reducible refine outFr_ite ?_ ?_
    | with_reducible refine outFr_next.2 ?_
    | with_reducible refine fr_ite2 ?_ ?_
    | with_reducible refine fr_foldl ?_ (fun _ _ _ => ?_)
    | with_reducible refine sourceValid_frame _ _ mclk mtim mrecd mints mheld mnoted mlic ?_
    | split
    | dsimp only

theorem execSourceInvalid_frame {P : List Part} {t₀ : State} (dt : Nat) (src : Fin 3) (s : State) (mclk : Part.clk ∈ P) (h₀ : SameBut P t₀ (advance dt s)) :
    OutFr P t₀ (execSourceInvalid dt src s) := by
  unfold execSourceInvalid
  repeat' first
    | with_reducible assumption
    | (rename_i hq; have hq2 := congrArg Prod.snd hq; with_reducible dsimp only at hq2; subst hq2)
    | simp only [↓fr_mk_iff, true_or, or_true, mclk]
    | with_reducible refine fr_ite ?_ ?_
    | with_reducible refine outFr_ite ?_ ?_
    | with_reducible refine outFr_next.2 ?_
    | with_reducible refine fr_ite2 ?_ ?_
    | with_reducible refine fr_foldl ?_ (fun _ _ _ => ?_)
    | with_reducible refine setClk_frame _ _ mclk ?_
    | split
    | dsimp only

theorem execRampStep_frame {P : List Part} {t₀ : State} (dt : Nat) (s : State) (mdrawn : Part.drawn ∈ P) (mvrc : Part.vrc ∈ P) (mrot : Part.rot ∈ P) (mcys : Part.cys ∈ P) (mclk : Part.clk ∈ P) (mtim : Part.tim ∈ P) (mchans : Part.chans ∈ P) (mxn : Part.xn ∈ P) (mrecd : Part.recd ∈ P) (mtwl : Part.twl ∈ P) (mlnc : Part.lnc ∈ P) (mcpn : Part.cpn ∈ P) (mcfd : Part.cfd ∈ P) (mbw : Part.bw ∈ P) (mints : Part.ints ∈ P) (mmems : Part.mems ∈ P) (mcores : Part.cores ∈ P) (mvmem : Part.vmem ∈ P) (mheld : Part.held ∈ P) (mnoted : Part.noted ∈ P) (mlic : Part.lic ∈ P) (h₀ : SameBut P t₀ (advance dt s)) :
    OutFr P t₀ (execRampStep dt s) := by
  unfold execRampStep
  repeat' first
    | with_reducible assumption
    | (rename_i hq; have hq2 := congrArg Prod.snd hq; with_reducible dsimp only at hq2; subst hq2)
    | simp only [↓fr_mk_iff, true_or, or_true, mdrawn, mvrc, mrot, mcys, mclk, mtim, mchans, mxn, mrecd, mtwl, mlnc, mcpn, mcfd, mbw, mints, mmems, mcores, mvmem, mheld, mnoted, mlic]
    | with_reducible refine fr_ite ?_ ?_
    | with_reducible refine outFr_ite ?_ ?_
    | with_reducible refine outFr_next.2 ?_
    | with_reducible refine fr_ite2 ?_ ?_
    | with_reducible refine fr_foldl ?_ (fun _ _ _ => ?_)
    | with_reducible refine reselect_frame _ mclk mtim mrecd mints mheld mnoted mlic ?_ | with_reducible refine setClk_frame _ _ mclk ?_ | with_reducible refine rootMoved_frame _ mdrawn mvrc mrot mcys mclk mtim mchans mxn mrecd mtwl mlnc mcpn mcfd mbw mints mmems mcores mvmem mheld mnoted mlic ?_ | with_reducible refine rampDone_frame _ mclk mtim mxn mrecd mints mheld mnoted mlic ?_
    | split
    | dsimp only

theorem execMonTrip_frame {P : List Part} {t₀ : State} (dt : Nat) (item : Fin 3) (value : BitVec 32) (s : State) (mmod : Part.mod ∈ P) (mpwr : Part.pwr ∈ P) (mvrc : Part.vrc ∈ P) (mrot : Part.rot ∈ P) (mcys : Part.cys ∈ P) (mclk : Part.clk ∈ P) (mtim : Part.tim ∈ P) (mbanks : Part.banks ∈ P) (mchans : Part.chans ∈ P) (mxn : Part.xn ∈ P) (mrecd : Part.recd ∈ P) (mboot : Part.boot ∈ P) (mkiln : Part.kiln ∈ P) (mtwl : Part.twl ∈ P) (mlnc : Part.lnc ∈ P) (mcpn : Part.cpn ∈ P) (mcfd : Part.cfd ∈ P) (mbrg : Part.brg ∈ P) (mints : Part.ints ∈ P) (mcores : Part.cores ∈ P) (mvmem : Part.vmem ∈ P) (mheld : Part.held ∈ P) (mnoted : Part.noted ∈ P) (mlic : Part.lic ∈ P) (h₀ : SameBut P t₀ (advance dt s)) :
    OutFr P t₀ (execMonTrip dt item value s) := by
  unfold execMonTrip
  repeat' first
    | with_reducible assumption
    | (rename_i hq; have hq2 := congrArg Prod.snd hq; with_reducible dsimp only at hq2; subst hq2)
    | simp only [↓fr_mk_iff, true_or, or_true, mmod, mpwr, mvrc, mrot, mcys, mclk, mtim, mbanks, mchans, mxn, mrecd, mboot, mkiln, mtwl, mlnc, mcpn, mcfd, mbrg, mints, mcores, mvmem, mheld, mnoted, mlic]
    | with_reducible refine fr_ite ?_ ?_
    | with_reducible refine outFr_ite ?_ ?_
    | with_reducible refine outFr_next.2 ?_
    | with_reducible refine fr_ite2 ?_ ?_
    | with_reducible refine fr_foldl ?_ (fun _ _ _ => ?_)
    | with_reducible refine record_frame _ _ _ _ _ _ mrecd mnoted ?_ | with_reducible refine raise_frame _ _ mints mheld mlic ?_ | with_reducible refine setClk_frame _ _ mclk ?_ | with_reducible refine refLoss_frame _ _ _ mclk mtim mrecd mints mheld mnoted mlic ?_ | with_reducible refine moduleReset_frame _ _ _ mmod mpwr mvrc mrot mcys mclk mbanks mchans mxn mrecd mboot mkiln mtwl mlnc mcpn mcfd mbrg mints mcores mvmem mheld mnoted mlic ?_
    | split
    | dsimp only

theorem execEmberfailClear_frame {P : List Part} {t₀ : State} (dt : Nat) (s : State) (mclk : Part.clk ∈ P) (h₀ : SameBut P t₀ (advance dt s)) :
    OutFr P t₀ (execEmberfailClear dt s) := by
  unfold execEmberfailClear
  repeat' first
    | with_reducible assumption
    | (rename_i hq; have hq2 := congrArg Prod.snd hq; with_reducible dsimp only at hq2; subst hq2)
    | simp only [↓fr_mk_iff, true_or, or_true, mclk]
    | with_reducible refine fr_ite ?_ ?_
    | with_reducible refine outFr_ite ?_ ?_
    | with_reducible refine outFr_next.2 ?_
    | with_reducible refine fr_ite2 ?_ ?_
    | with_reducible refine fr_foldl ?_ (fun _ _ _ => ?_)
    | with_reducible refine setClk_frame _ _ mclk ?_
    | split
    | dsimp only

theorem assertAgain_frame {P : List Part} {t₀ : State} (k : Fin 11) (s : State) (mheld : Part.held ∈ P) (mlic : Part.lic ∈ P) (h₀ : SameBut P t₀ s) :
    SameBut P t₀ (assertAgain k s) := by
  unfold assertAgain
  repeat' first
    | with_reducible assumption
    | (rename_i hq; have hq2 := congrArg Prod.snd hq; with_reducible dsimp only at hq2; subst hq2)
    | simp only [↓fr_mk_iff, true_or, or_true, mheld, mlic]
    | with_reducible refine fr_ite ?_ ?_
    | with_reducible refine outFr_ite ?_ ?_
    | with_reducible refine outFr_next.2 ?_
    | with_reducible refine fr_ite2 ?_ ?_
    | with_reducible refine fr_foldl ?_ (fun _ _ _ => ?_)
    | with_reducible refine deliver_frame _ _ mheld mlic ?_
    | split
    | dsimp only

theorem execClockEnableApply_frame {P : List Part} {t₀ : State} (dt : Nat) (block : Fin 11) (on : Bool) (s : State) (mclk : Part.clk ∈ P) (mheld : Part.held ∈ P) (mlic : Part.lic ∈ P) (h₀ : SameBut P t₀ (advance dt s)) :
    OutFr P t₀ (execClockEnableApply dt block on s) := by
  unfold execClockEnableApply
  repeat' first
    | with_reducible assumption
    | (rename_i hq; have hq2 := congrArg Prod.snd hq; with_reducible dsimp only at hq2; subst hq2)
    | simp only [↓fr_mk_iff, true_or, or_true, mclk, mheld, mlic]
    | with_reducible refine fr_ite ?_ ?_
    | with_reducible refine outFr_ite ?_ ?_
    | with_reducible refine outFr_next.2 ?_
    | with_reducible refine fr_ite2 ?_ ?_
    | with_reducible refine fr_foldl ?_ (fun _ _ _ => ?_)
    | with_reducible refine setClk_frame _ _ mclk ?_ | with_reducible refine assertAgain_frame _ _ mheld mlic ?_
    | split
    | dsimp only

theorem execFmStart_frame {P : List Part} {t₀ : State} (ref meas : BitVec 4) (gate : BitVec 24) (s : State) (mclk : Part.clk ∈ P) (mints : Part.ints ∈ P) (mheld : Part.held ∈ P) (mlic : Part.lic ∈ P) (h₀ : SameBut P t₀ s) :
    OutFr P t₀ (execFmStart ref meas gate s) := by
  unfold execFmStart
  repeat' first
    | with_reducible assumption
    | (rename_i hq; have hq2 := congrArg Prod.snd hq; with_reducible dsimp only at hq2; subst hq2)
    | simp only [↓fr_mk_iff, true_or, or_true, mclk, mints, mheld, mlic]
    | with_reducible refine fr_ite ?_ ?_
    | with_reducible refine outFr_ite ?_ ?_
    | with_reducible refine outFr_next.2 ?_
    | with_reducible refine fr_ite2 ?_ ?_
    | with_reducible refine fr_foldl ?_ (fun _ _ _ => ?_)
    | with_reducible refine setClk_frame _ _ mclk ?_ | with_reducible refine raise_frame _ _ mints mheld mlic ?_
    | split
    | dsimp only

theorem execFmDone_frame {P : List Part} {t₀ : State} (dt : Nat) (count : BitVec 32) (s : State) (mclk : Part.clk ∈ P) (mints : Part.ints ∈ P) (mheld : Part.held ∈ P) (mlic : Part.lic ∈ P) (h₀ : SameBut P t₀ (advance dt s)) :
    OutFr P t₀ (execFmDone dt count s) := by
  unfold execFmDone
  repeat' first
    | with_reducible assumption
    | (rename_i hq; have hq2 := congrArg Prod.snd hq; with_reducible dsimp only at hq2; subst hq2)
    | simp only [↓fr_mk_iff, true_or, or_true, mclk, mints, mheld, mlic]
    | with_reducible refine fr_ite ?_ ?_
    | with_reducible refine outFr_ite ?_ ?_
    | with_reducible refine outFr_next.2 ?_
    | with_reducible refine fr_ite2 ?_ ?_
    | with_reducible refine fr_foldl ?_ (fun _ _ _ => ?_)
    | with_reducible refine raise_frame _ _ mints mheld mlic ?_ | with_reducible refine setClk_frame _ _ mclk ?_
    | split
    | dsimp only

theorem writeAdj_frame {P : List Part} {t₀ : State} (mode : Nat) (ns : BitVec 32) (sec : BitVec 48) (s : State) (mtim : Part.tim ∈ P) (h₀ : SameBut P t₀ s) :
    SameBut P t₀ (writeAdj mode ns sec s) := by
  unfold writeAdj
  repeat' first
    | with_reducible assumption
    | (rename_i hq; have hq2 := congrArg Prod.snd hq; with_reducible dsimp only at hq2; subst hq2)
    | simp only [↓fr_mk_iff, true_or, or_true, mtim]
    | with_reducible refine fr_ite ?_ ?_
    | with_reducible refine outFr_ite ?_ ?_
    | with_reducible refine outFr_next.2 ?_
    | with_reducible refine fr_ite2 ?_ ?_
    | with_reducible refine fr_foldl ?_ (fun _ _ _ => ?_)
    | with_reducible refine setTim_frame _ _ mtim ?_
    | split
    | dsimp only

theorem execCtuAdjStep_frame {P : List Part} {t₀ : State} (ns : BitVec 32) (sec : BitVec 48) (s : State) (mvrc : Part.vrc ∈ P) (mrot : Part.rot ∈ P) (mcys : Part.cys ∈ P) (mclk : Part.clk ∈ P) (mtim : Part.tim ∈ P) (mxn : Part.xn ∈ P) (mrecd : Part.recd ∈ P) (mtwl : Part.twl ∈ P) (mlnc : Part.lnc ∈ P) (mbw : Part.bw ∈ P) (mints : Part.ints ∈ P) (mmems : Part.mems ∈ P) (mcores : Part.cores ∈ P) (mvmem : Part.vmem ∈ P) (mheld : Part.held ∈ P) (mnoted : Part.noted ∈ P) (mlic : Part.lic ∈ P) (h₀ : SameBut P t₀ s) :
    OutFr P t₀ (execCtuAdjStep ns sec s) := by
  unfold execCtuAdjStep
  repeat' first
    | with_reducible assumption
    | (rename_i hq; have hq2 := congrArg Prod.snd hq; with_reducible dsimp only at hq2; subst hq2)
    | simp only [↓fr_mk_iff, true_or, or_true, mvrc, mrot, mcys, mclk, mtim, mxn, mrecd, mtwl, mlnc, mbw, mints, mmems, mcores, mvmem, mheld, mnoted, mlic]
    | with_reducible refine fr_ite ?_ ?_
    | with_reducible refine outFr_ite ?_ ?_
    | with_reducible refine outFr_next.2 ?_
    | with_reducible refine fr_ite2 ?_ ?_
    | with_reducible refine fr_foldl ?_ (fun _ _ _ => ?_)
    | with_reducible refine writeAdj_frame _ _ _ _ mtim ?_ | with_reducible refine stepTime_frame _ _ _ mvrc mrot mcys mclk mtim mxn mrecd mtwl mlnc mbw mints mmems mcores mvmem mheld mnoted mlic ?_ | with_reducible refine setTim_frame _ _ mtim ?_
    | split
    | dsimp only

theorem execCtuAdjSlew_frame {P : List Part} {t₀ : State} (ns : BitVec 32) (sec : BitVec 48) (s : State) (mtim : Part.tim ∈ P) (mints : Part.ints ∈ P) (mheld : Part.held ∈ P) (mlic : Part.lic ∈ P) (h₀ : SameBut P t₀ s) :
    OutFr P t₀ (execCtuAdjSlew ns sec s) := by
  unfold execCtuAdjSlew
  repeat' first
    | with_reducible assumption
    | (rename_i hq; have hq2 := congrArg Prod.snd hq; with_reducible dsimp only at hq2; subst hq2)
    | simp only [↓fr_mk_iff, true_or, or_true, mtim, mints, mheld, mlic]
    | with_reducible refine fr_ite ?_ ?_
    | with_reducible refine outFr_ite ?_ ?_
    | with_reducible refine outFr_next.2 ?_
    | with_reducible refine fr_ite2 ?_ ?_
    | with_reducible refine fr_foldl ?_ (fun _ _ _ => ?_)
    | with_reducible refine writeAdj_frame _ _ _ _ mtim ?_ | with_reducible refine slewTime_frame _ _ mtim mints mheld mlic ?_ | with_reducible refine setTim_frame _ _ mtim ?_
    | split
    | dsimp only

theorem execSlewDone_frame {P : List Part} {t₀ : State} (dt : Nat) (s : State) (mtim : Part.tim ∈ P) (mints : Part.ints ∈ P) (mheld : Part.held ∈ P) (mlic : Part.lic ∈ P) (h₀ : SameBut P t₀ (advance dt s)) :
    OutFr P t₀ (execSlewDone dt s) := by
  unfold execSlewDone
  repeat' first
    | with_reducible assumption
    | (rename_i hq; have hq2 := congrArg Prod.snd hq; with_reducible dsimp only at hq2; subst hq2)
    | simp only [↓fr_mk_iff, true_or, or_true, mtim, mints, mheld, mlic]
    | with_reducible refine fr_ite ?_ ?_
    | with_reducible refine outFr_ite ?_ ?_
    | with_reducible refine outFr_next.2 ?_
    | with_reducible refine fr_ite2 ?_ ?_
    | with_reducible refine fr_foldl ?_ (fun _ _ _ => ?_)
    | with_reducible refine slewDone_frame _ mtim mints mheld mlic ?_
    | split
    | dsimp only

theorem execCtuRateWrite_frame {P : List Part} {t₀ : State} (rate : BitVec 32) (s : State) (mtim : Part.tim ∈ P) (mrecd : Part.recd ∈ P) (mnoted : Part.noted ∈ P) (h₀ : SameBut P t₀ s) :
    OutFr P t₀ (execCtuRateWrite rate s) := by
  unfold execCtuRateWrite
  repeat' first
    | with_reducible assumption
    | (rename_i hq; have hq2 := congrArg Prod.snd hq; with_reducible dsimp only at hq2; subst hq2)
    | simp only [↓fr_mk_iff, true_or, or_true, mtim, mrecd, mnoted]
    | with_reducible refine fr_ite ?_ ?_
    | with_reducible refine outFr_ite ?_ ?_
    | with_reducible refine outFr_next.2 ?_
    | with_reducible refine fr_ite2 ?_ ?_
    | with_reducible refine fr_foldl ?_ (fun _ _ _ => ?_)
    | with_reducible refine setRate_frame _ _ mtim mrecd mnoted ?_
    | split
    | dsimp only

theorem execEbThresholdCrossed_frame {P : List Part} {t₀ : State} (dt : Nat) (s : State) (mdrawn : Part.drawn ∈ P) (mvrc : Part.vrc ∈ P) (mrot : Part.rot ∈ P) (mcys : Part.cys ∈ P) (mclk : Part.clk ∈ P) (mtim : Part.tim ∈ P) (mxn : Part.xn ∈ P) (mrecd : Part.recd ∈ P) (mtwl : Part.twl ∈ P) (mlnc : Part.lnc ∈ P) (mbw : Part.bw ∈ P) (mints : Part.ints ∈ P) (mmems : Part.mems ∈ P) (mcores : Part.cores ∈ P) (mvmem : Part.vmem ∈ P) (mheld : Part.held ∈ P) (mnoted : Part.noted ∈ P) (mlic : Part.lic ∈ P) (h₀ : SameBut P t₀ (advance dt s)) :
    OutFr P t₀ (execEbThresholdCrossed dt s) := by
  unfold execEbThresholdCrossed
  repeat' first
    | with_reducible assumption
    | (rename_i hq; have hq2 := congrArg Prod.snd hq; with_reducible dsimp only at hq2; subst hq2)
    | simp only [↓fr_mk_iff, true_or, or_true, mdrawn, mvrc, mrot, mcys, mclk, mtim, mxn, mrecd, mtwl, mlnc, mbw, mints, mmems, mcores, mvmem, mheld, mnoted, mlic]
    | with_reducible refine fr_ite ?_ ?_
    | with_reducible refine outFr_ite ?_ ?_
    | with_reducible refine outFr_next.2 ?_
    | with_reducible refine fr_ite2 ?_ ?_
    | with_reducible refine fr_foldl ?_ (fun _ _ _ => ?_)
    | with_reducible refine boundCheck_frame _ _ mdrawn mvrc mrot mcys mclk mtim mxn mrecd mtwl mlnc mbw mints mmems mcores mvmem mheld mnoted mlic ?_
    | split
    | dsimp only

theorem execAnnounceReceived_frame {P : List Part} {t₀ : State} (dt : Nat) (port : Fin 2) (ann : PtpAnnounce) (s : State) (mdrawn : Part.drawn ∈ P) (mvrc : Part.vrc ∈ P) (mrot : Part.rot ∈ P) (mcys : Part.cys ∈ P) (mclk : Part.clk ∈ P) (mtim : Part.tim ∈ P) (mxn : Part.xn ∈ P) (mrecd : Part.recd ∈ P) (mtwl : Part.twl ∈ P) (mlnc : Part.lnc ∈ P) (mbw : Part.bw ∈ P) (mints : Part.ints ∈ P) (mmems : Part.mems ∈ P) (mcores : Part.cores ∈ P) (mvmem : Part.vmem ∈ P) (mheld : Part.held ∈ P) (mnoted : Part.noted ∈ P) (mlic : Part.lic ∈ P) (h₀ : SameBut P t₀ (advance dt s)) :
    OutFr P t₀ (execAnnounceReceived dt port ann s) := by
  unfold execAnnounceReceived
  repeat' first
    | with_reducible assumption
    | (rename_i hq; have hq2 := congrArg Prod.snd hq; with_reducible dsimp only at hq2; subst hq2)
    | simp only [↓fr_mk_iff, true_or, or_true, mdrawn, mvrc, mrot, mcys, mclk, mtim, mxn, mrecd, mtwl, mlnc, mbw, mints, mmems, mcores, mvmem, mheld, mnoted, mlic]
    | with_reducible refine fr_ite ?_ ?_
    | with_reducible refine outFr_ite ?_ ?_
    | with_reducible refine outFr_next.2 ?_
    | with_reducible refine fr_ite2 ?_ ?_
    | with_reducible refine fr_foldl ?_ (fun _ _ _ => ?_)
    | with_reducible refine bmcaChoose_frame _ _ mdrawn mvrc mrot mcys mclk mtim mxn mrecd mtwl mlnc mbw mints mmems mcores mvmem mheld mnoted mlic ?_
    | split
    | dsimp only

theorem execAnnounceReceiptTimeout_frame {P : List Part} {t₀ : State} (dt : Nat) (s : State) (mdrawn : Part.drawn ∈ P) (mvrc : Part.vrc ∈ P) (mrot : Part.rot ∈ P) (mcys : Part.cys ∈ P) (mclk : Part.clk ∈ P) (mtim : Part.tim ∈ P) (mxn : Part.xn ∈ P) (mrecd : Part.recd ∈ P) (mtwl : Part.twl ∈ P) (mlnc : Part.lnc ∈ P) (mbw : Part.bw ∈ P) (mints : Part.ints ∈ P) (mmems : Part.mems ∈ P) (mcores : Part.cores ∈ P) (mvmem : Part.vmem ∈ P) (mheld : Part.held ∈ P) (mnoted : Part.noted ∈ P) (mlic : Part.lic ∈ P) (h₀ : SameBut P t₀ (advance dt s)) :
    OutFr P t₀ (execAnnounceReceiptTimeout dt s) := by
  unfold execAnnounceReceiptTimeout
  repeat' first
    | with_reducible assumption
    | (rename_i hq; have hq2 := congrArg Prod.snd hq; with_reducible dsimp only at hq2; subst hq2)
    | simp only [↓fr_mk_iff, true_or, or_true, mdrawn, mvrc, mrot, mcys, mclk, mtim, mxn, mrecd, mtwl, mlnc, mbw, mints, mmems, mcores, mvmem, mheld, mnoted, mlic]
    | with_reducible refine fr_ite ?_ ?_
    | with_reducible refine outFr_ite ?_ ?_
    | with_reducible refine outFr_next.2 ?_
    | with_reducible refine fr_ite2 ?_ ?_
    | with_reducible refine fr_foldl ?_ (fun _ _ _ => ?_)
    | with_reducible refine gmSet_frame _ _ _ mdrawn mvrc mrot mcys mclk mtim mxn mrecd mtwl mlnc mbw mints mmems mcores mvmem mheld mnoted mlic ?_
    | split
    | dsimp only

theorem execSyncReceived_frame {P : List Part} {t₀ : State} (dt : Nat) (port : Fin 2) (src : BitVec 64) (domain : BitVec 8) (seq : BitVec 16) (corr : BitVec 64) (log : BitVec 8) (s : State) (mtim : Part.tim ∈ P) (h₀ : SameBut P t₀ (advance dt s)) :
    OutFr P t₀ (execSyncReceived dt port src domain seq corr log s) := by
  unfold execSyncReceived
  repeat' first
    | with_reducible assumption
    | (rename_i hq; have hq2 := congrArg Prod.snd hq; with_reducible dsimp only at hq2; subst hq2)
    | simp only [↓fr_mk_iff, true_or, or_true, mtim]
    | with_reducible refine fr_ite ?_ ?_
    | with_reducible refine outFr_ite ?_ ?_
    | with_reducible refine outFr_next.2 ?_
    | with_reducible refine fr_ite2 ?_ ?_
    | with_reducible refine fr_foldl ?_ (fun _ _ _ => ?_)
    | with_reducible refine setTim_frame _ _ mtim ?_
    | split
    | dsimp only

theorem execFollowUpReceived_frame {P : List Part} {t₀ : State} (dt : Nat) (src : BitVec 64) (seq : BitVec 16) (sec : BitVec 48) (ns : BitVec 32) (corr : BitVec 64) (s : State) (mdrawn : Part.drawn ∈ P) (mvrc : Part.vrc ∈ P) (mrot : Part.rot ∈ P) (mcys : Part.cys ∈ P) (mclk : Part.clk ∈ P) (mtim : Part.tim ∈ P) (mxn : Part.xn ∈ P) (mrecd : Part.recd ∈ P) (mtwl : Part.twl ∈ P) (mlnc : Part.lnc ∈ P) (mbw : Part.bw ∈ P) (mints : Part.ints ∈ P) (mmems : Part.mems ∈ P) (mcores : Part.cores ∈ P) (mvmem : Part.vmem ∈ P) (mheld : Part.held ∈ P) (mnoted : Part.noted ∈ P) (mlic : Part.lic ∈ P) (h₀ : SameBut P t₀ (advance dt s)) :
    OutFr P t₀ (execFollowUpReceived dt src seq sec ns corr s) := by
  unfold execFollowUpReceived
  repeat' first
    | with_reducible assumption
    | (rename_i hq; have hq2 := congrArg Prod.snd hq; with_reducible dsimp only at hq2; subst hq2)
    | simp only [↓fr_mk_iff, true_or, or_true, mdrawn, mvrc, mrot, mcys, mclk, mtim, mxn, mrecd, mtwl, mlnc, mbw, mints, mmems, mcores, mvmem, mheld, mnoted, mlic]
    | with_reducible refine fr_ite ?_ ?_
    | with_reducible refine outFr_ite ?_ ?_
    | with_reducible refine outFr_next.2 ?_
    | with_reducible refine fr_ite2 ?_ ?_
    | with_reducible refine fr_foldl ?_ (fun _ _ _ => ?_)
    | with_reducible refine acceptSync_frame _ _ _ _ mdrawn mvrc mrot mcys mclk mtim mxn mrecd mtwl mlnc mbw mints mmems mcores mvmem mheld mnoted mlic ?_ | with_reducible refine setTim_frame _ _ mtim ?_
    | split
    | dsimp only

theorem execSyncTimeout_frame {P : List Part} {t₀ : State} (dt : Nat) (s : State) (mtim : Part.tim ∈ P) (mrecd : Part.recd ∈ P) (mints : Part.ints ∈ P) (mheld : Part.held ∈ P) (mnoted : Part.noted ∈ P) (mlic : Part.lic ∈ P) (h₀ : SameBut P t₀ (advance dt s)) :
    OutFr P t₀ (execSyncTimeout dt s) := by
  unfold execSyncTimeout
  repeat' first
    | with_reducible assumption
    | (rename_i hq; have hq2 := congrArg Prod.snd hq; with_reducible dsimp only at hq2; subst hq2)
    | simp only [↓fr_mk_iff, true_or, or_true, mtim, mrecd, mints, mheld, mnoted, mlic]
    | with_reducible refine fr_ite ?_ ?_
    | with_reducible refine outFr_ite ?_ ?_
    | with_reducible refine outFr_next.2 ?_
    | with_reducible refine fr_ite2 ?_ ?_
    | with_reducible refine fr_foldl ?_ (fun _ _ _ => ?_)
    | with_reducible refine raise_frame _ _ mints mheld mlic ?_ | with_reducible refine record_frame _ _ _ _ _ _ mrecd mnoted ?_ | with_reducible refine setTim_frame _ _ mtim ?_
    | split
    | dsimp only

theorem execSyncIntervalExpiry_frame {P : List Part} {t₀ : State} (dt : Nat) (s : State) (mtim : Part.tim ∈ P) (h₀ : SameBut P t₀ (advance dt s)) :
    OutFr P t₀ (execSyncIntervalExpiry dt s) := by
  unfold execSyncIntervalExpiry
  repeat' first
    | with_reducible assumption
    | (rename_i hq; have hq2 := congrArg Prod.snd hq; with_reducible dsimp only at hq2; subst hq2)
    | simp only [↓fr_mk_iff, true_or, or_true, mtim]
    | with_reducible refine fr_ite ?_ ?_
    | with_reducible refine outFr_ite ?_ ?_
    | with_reducible refine outFr_next.2 ?_
    | with_reducible refine fr_ite2 ?_ ?_
    | with_reducible refine fr_foldl ?_ (fun _ _ _ => ?_)
    | with_reducible refine setTim_frame _ _ mtim ?_
    | split
    | dsimp only

theorem setDelay_frame {P : List Part} {t₀ : State} (p : Fin 2) (f : PeerDelay → PeerDelay) (s : State) (mtim : Part.tim ∈ P) (h₀ : SameBut P t₀ s) :
    SameBut P t₀ (setDelay p f s) := by
  unfold setDelay
  repeat' first
    | with_reducible assumption
    | (rename_i hq; have hq2 := congrArg Prod.snd hq; with_reducible dsimp only at hq2; subst hq2)
    | simp only [↓fr_mk_iff, true_or, or_true, mtim]
    | with_reducible refine fr_ite ?_ ?_
    | with_reducible refine outFr_ite ?_ ?_
    | with_reducible refine outFr_next.2 ?_
    | with_reducible refine fr_ite2 ?_ ?_
    | with_reducible refine fr_foldl ?_ (fun _ _ _ => ?_)
    | with_reducible refine setTim_frame _ _ mtim ?_
    | split
    | dsimp only

theorem execPdelayReqInterval_frame {P : List Part} {t₀ : State} (dt : Nat) (port : Fin 2) (s : State) (mtim : Part.tim ∈ P) (mrecd : Part.recd ∈ P) (mints : Part.ints ∈ P) (mheld : Part.held ∈ P) (mnoted : Part.noted ∈ P) (mlic : Part.lic ∈ P) (h₀ : SameBut P t₀ (advance dt s)) :
    OutFr P t₀ (execPdelayReqInterval dt port s) := by
  unfold execPdelayReqInterval
  repeat' first
    | with_reducible assumption
    | (rename_i hq; have hq2 := congrArg Prod.snd hq; with_reducible dsimp only at hq2; subst hq2)
    | simp only [↓fr_mk_iff, true_or, or_true, mtim, mrecd, mints, mheld, mnoted, mlic]
    | with_reducible refine fr_ite ?_ ?_
    | with_reducible refine outFr_ite ?_ ?_
    | with_reducible refine outFr_next.2 ?_
    | with_reducible refine fr_ite2 ?_ ?_
    | with_reducible refine fr_foldl ?_ (fun _ _ _ => ?_)
    | with_reducible refine setDelay_frame _ _ _ mtim ?_ | with_reducible refine raise_frame _ _ mints mheld mlic ?_ | with_reducible refine record_frame _ _ _ _ _ _ mrecd mnoted ?_ | with_reducible refine setTim_frame _ _ mtim ?_
    | split
    | dsimp only

theorem execPdelayReqReceived_frame {P : List Part} {t₀ : State} (dt : Nat) (port : Fin 2) (s : State) (mtim : Part.tim ∈ P) (h₀ : SameBut P t₀ (advance dt s)) :
    OutFr P t₀ (execPdelayReqReceived dt port s) := by
  unfold execPdelayReqReceived
  repeat' first
    | with_reducible assumption
    | (rename_i hq; have hq2 := congrArg Prod.snd hq; with_reducible dsimp only at hq2; subst hq2)
    | simp only [↓fr_mk_iff, true_or, or_true, mtim]
    | with_reducible refine fr_ite ?_ ?_
    | with_reducible refine outFr_ite ?_ ?_
    | with_reducible refine outFr_next.2 ?_
    | with_reducible refine fr_ite2 ?_ ?_
    | with_reducible refine fr_foldl ?_ (fun _ _ _ => ?_)
    | with_reducible refine setDelay_frame _ _ _ mtim ?_
    | split
    | dsimp only

theorem execPdelayRespReceived_frame {P : List Part} {t₀ : State} (dt : Nat) (port : Fin 2) (delay ratio : BitVec 32) (s : State) (mtim : Part.tim ∈ P) (mnoted : Part.noted ∈ P) (h₀ : SameBut P t₀ (advance dt s)) :
    OutFr P t₀ (execPdelayRespReceived dt port delay ratio s) := by
  unfold execPdelayRespReceived
  repeat' first
    | with_reducible assumption
    | (rename_i hq; have hq2 := congrArg Prod.snd hq; with_reducible dsimp only at hq2; subst hq2)
    | simp only [↓fr_mk_iff, true_or, or_true, mtim, mnoted]
    | with_reducible refine fr_ite ?_ ?_
    | with_reducible refine outFr_ite ?_ ?_
    | with_reducible refine outFr_next.2 ?_
    | with_reducible refine fr_ite2 ?_ ?_
    | with_reducible refine fr_foldl ?_ (fun _ _ _ => ?_)
    | with_reducible refine setDelay_frame _ _ _ mtim ?_
    | split
    | dsimp only

theorem execTcForward_frame {P : List Part} {t₀ : State} (dt : Nat) (port : Fin 2) (kind : PtpKind) (tags : Fin 4) (seq : BitVec 16) (corr : BitVec 64) (counts : BitVec 32) (s : State) (mtim : Part.tim ∈ P) (mrecd : Part.recd ∈ P) (mnoted : Part.noted ∈ P) (h₀ : SameBut P t₀ (advance dt s)) :
    OutFr P t₀ (execTcForward dt port kind tags seq corr counts s) := by
  unfold execTcForward
  repeat' first
    | with_reducible assumption
    | (rename_i hq; have hq2 := congrArg Prod.snd hq; with_reducible dsimp only at hq2; subst hq2)
    | simp only [↓fr_mk_iff, true_or, or_true, mtim, mrecd, mnoted]
    | with_reducible refine fr_ite ?_ ?_
    | with_reducible refine outFr_ite ?_ ?_
    | with_reducible refine outFr_next.2 ?_
    | with_reducible refine fr_ite2 ?_ ?_
    | with_reducible refine fr_foldl ?_ (fun _ _ _ => ?_)
    | with_reducible refine setTim_frame _ _ mtim ?_ | with_reducible refine record_frame _ _ _ _ _ _ mrecd mnoted ?_
    | split
    | dsimp only

theorem dropStaged_frame {P : List Part} {t₀ : State} (s : State) (mcys : Part.cys ∈ P) (h₀ : SameBut P t₀ s) :
    SameBut P t₀ (dropStaged s) := by
  unfold dropStaged
  repeat' first
    | with_reducible assumption
    | (rename_i hq; have hq2 := congrArg Prod.snd hq; with_reducible dsimp only at hq2; subst hq2)
    | simp only [↓fr_mk_iff, true_or, or_true, mcys]
    | with_reducible refine fr_ite ?_ ?_
    | with_reducible refine outFr_ite ?_ ?_
    | with_reducible refine outFr_next.2 ?_
    | with_reducible refine fr_ite2 ?_ ?_
    | with_reducible refine fr_foldl ?_ (fun _ _ _ => ?_)
    | split
    | dsimp only

theorem stageImage_frame {P : List Part} {t₀ : State} (f : List Byte) (s : State) (mrot : Part.rot ∈ P) (mcys : Part.cys ∈ P) (mrecd : Part.recd ∈ P) (mmems : Part.mems ∈ P) (mnoted : Part.noted ∈ P) (h₀ : SameBut P t₀ s) :
    SameBut P t₀ (stageImage f s) := by
  unfold stageImage
  repeat' first
    | with_reducible assumption
    | (rename_i hq; have hq2 := congrArg Prod.snd hq; with_reducible dsimp only at hq2; subst hq2)
    | simp only [↓fr_mk_iff, true_or, or_true, mrot, mcys, mrecd, mmems, mnoted]
    | with_reducible refine fr_ite ?_ ?_
    | with_reducible refine outFr_ite ?_ ?_
    | with_reducible refine outFr_next.2 ?_
    | with_reducible refine fr_ite2 ?_ ?_
    | with_reducible refine fr_foldl ?_ (fun _ _ _ => ?_)
    | with_reducible refine loadSections_frame _ _ _ mrot mmems ?_ | with_reducible refine imageResult_frame _ _ mcys ?_ | with_reducible refine record_frame _ _ _ _ _ _ mrecd mnoted ?_
    | split
    | dsimp only

theorem storeImage_frame {P : List Part} {t₀ : State} (f : List Byte) (s : State) (mcys : Part.cys ∈ P) (mboot : Part.boot ∈ P) (h₀ : SameBut P t₀ s) :
    SameBut P t₀ (storeImage f s) := by
  unfold storeImage
  repeat' first
    | with_reducible assumption
    | (rename_i hq; have hq2 := congrArg Prod.snd hq; with_reducible dsimp only at hq2; subst hq2)
    | simp only [↓fr_mk_iff, true_or, or_true, mcys, mboot]
    | with_reducible refine fr_ite ?_ ?_
    | with_reducible refine outFr_ite ?_ ?_
    | with_reducible refine outFr_next.2 ?_
    | with_reducible refine fr_ite2 ?_ ?_
    | with_reducible refine fr_foldl ?_ (fun _ _ _ => ?_)
    | with_reducible refine imageResult_frame _ _ mcys ?_ | with_reducible refine setBoot_frame _ _ mboot ?_
    | split
    | dsimp only

theorem imageStage_frame {P : List Part} {t₀ : State} (peer : Nat) (s : State) (mrot : Part.rot ∈ P) (mcys : Part.cys ∈ P) (mrecd : Part.recd ∈ P) (mboot : Part.boot ∈ P) (mmems : Part.mems ∈ P) (mnoted : Part.noted ∈ P) (h₀ : SameBut P t₀ s) :
    SameBut P t₀ (imageStage peer s).2 := by
  unfold imageStage
  repeat' first
    | with_reducible assumption
    | (rename_i hq; have hq2 := congrArg Prod.snd hq; with_reducible dsimp only at hq2; subst hq2)
    | simp only [↓fr_mk_iff, true_or, or_true, mrot, mcys, mrecd, mboot, mmems, mnoted]
    | with_reducible refine fr_ite ?_ ?_
    | with_reducible refine outFr_ite ?_ ?_
    | with_reducible refine outFr_next.2 ?_
    | with_reducible refine fr_ite2 ?_ ?_
    | with_reducible refine fr_foldl ?_ (fun _ _ _ => ?_)
    | with_reducible refine imageRefuse_frame _ _ _ _ _ _ mcys mrecd mnoted ?_ | with_reducible refine imageResult_frame _ _ mcys ?_ | with_reducible refine record_frame _ _ _ _ _ _ mrecd mnoted ?_ | with_reducible refine dropStaged_frame _ mcys ?_ | with_reducible refine stageImage_frame _ _ mrot mcys mrecd mmems mnoted ?_ | with_reducible refine storeImage_frame _ _ mcys mboot ?_
    | split
    | dsimp only

theorem imageDiscard_frame {P : List Part} {t₀ : State} (s : State) (mcys : Part.cys ∈ P) (mrecd : Part.recd ∈ P) (mnoted : Part.noted ∈ P) (h₀ : SameBut P t₀ s) :
    SameBut P t₀ (imageDiscard s).2 := by
  unfold imageDiscard
  repeat' first
    | with_reducible assumption
    | (rename_i hq; have hq2 := congrArg Prod.snd hq; with_reducible dsimp only at hq2; subst hq2)
    | simp only [↓fr_mk_iff, true_or, or_true, mcys, mrecd, mnoted]
    | with_reducible refine fr_ite ?_ ?_
    | with_reducible refine outFr_ite ?_ ?_
    | with_reducible refine outFr_next.2 ?_
    | with_reducible refine fr_ite2 ?_ ?_
    | with_reducible refine fr_foldl ?_ (fun _ _ _ => ?_)
    | with_reducible refine imageRefuse_frame _ _ _ _ _ _ mcys mrecd mnoted ?_ | with_reducible refine imageResult_frame _ _ mcys ?_ | with_reducible refine dropStaged_frame _ mcys ?_
    | split
    | dsimp only

theorem standbyStage_frame {P : List Part} {t₀ : State} (f : List Byte) (s : State) (mrot : Part.rot ∈ P) (mcys : Part.cys ∈ P) (mrecd : Part.recd ∈ P) (mmems : Part.mems ∈ P) (mnoted : Part.noted ∈ P) (h₀ : SameBut P t₀ s) :
    SameBut P t₀ (standbyStage f s) := by
  unfold standbyStage
  repeat' first
    | with_reducible assumption
    | (rename_i hq; have hq2 := congrArg Prod.snd hq; with_reducible dsimp only at hq2; subst hq2)
    | simp only [↓fr_mk_iff, true_or, or_true, mrot, mcys, mrecd, mmems, mnoted]
    | with_reducible refine fr_ite ?_ ?_
    | with_reducible refine outFr_ite ?_ ?_
    | with_reducible refine outFr_next.2 ?_
    | with_reducible refine fr_ite2 ?_ ?_
    | with_reducible refine fr_foldl ?_ (fun _ _ _ => ?_)
    | with_reducible refine imageResult_frame _ _ mcys ?_ | with_reducible refine record_frame _ _ _ _ _ _ mrecd mnoted ?_ | with_reducible refine stageImage_frame _ _ mrot mcys mrecd mmems mnoted ?_
    | split
    | dsimp only

theorem laneFrame_frame {P : List Part} {t₀ : State} (port : Nat) (tagged : Bool) (vid pcp : Nat) (ns : Int) (f : List Byte) (s : State) (mlnc : Part.lnc ∈ P) (h₀ : SameBut P t₀ s) :
    SameBut P t₀ (laneFrame port tagged vid pcp ns f s) := by
  unfold laneFrame
  repeat' first
    | with_reducible assumption
    | (rename_i hq; have hq2 := congrArg Prod.snd hq; with_reducible dsimp only at hq2; subst hq2)
    | simp only [↓fr_mk_iff, true_or, or_true, mlnc]
    | with_reducible refine fr_ite ?_ ?_
    | with_reducible refine outFr_ite ?_ ?_
    | with_reducible refine outFr_next.2 ?_
    | with_reducible refine fr_ite2 ?_ ?_
    | with_reducible refine fr_foldl ?_ (fun _ _ _ => ?_)
    | with_reducible refine setLnc_frame _ _ mlnc ?_
    | split
    | dsimp only

theorem slotWrite_frame {P : List Part} {t₀ : State} (r : RxFrame) (s : State) (mvrc : Part.vrc ∈ P) (mtwl : Part.twl ∈ P) (mlnc : Part.lnc ∈ P) (mints : Part.ints ∈ P) (mvmem : Part.vmem ∈ P) (mheld : Part.held ∈ P) (mlic : Part.lic ∈ P) (h₀ : SameBut P t₀ s) :
    SameBut P t₀ (slotWrite r s) := by
  unfold slotWrite
  repeat' first
    | with_reducible assumption
    | (rename_i hq; have hq2 := congrArg Prod.snd hq; with_reducible dsimp only at hq2; subst hq2)
    | simp only [↓fr_mk_iff, true_or, or_true, mvrc, mtwl, mlnc, mints, mvmem, mheld, mlic]
    | with_reducible refine fr_ite ?_ ?_
    | with_reducible refine outFr_ite ?_ ?_
    | with_reducible refine outFr_next.2 ?_
    | with_reducible refine fr_ite2 ?_ ?_
    | with_reducible refine fr_foldl ?_ (fun _ _ _ => ?_)
    | with_reducible refine vwrite_frame _ _ _ mvrc mtwl mvmem ?_ | with_reducible refine raise_frame _ _ mints mheld mlic ?_ | with_reducible refine setLnc_frame _ _ mlnc ?_
    | split
    | dsimp only

theorem sendRx_frame {P : List Part} {t₀ : State} (port : Nat) (ns : Int) (f : List Byte) (s : State) (mtwl : Part.twl ∈ P) (h₀ : SameBut P t₀ s) :
    SameBut P t₀ (sendRx port ns f s) := by
  unfold sendRx
  repeat' first
    | with_reducible assumption
    | (rename_i hq; have hq2 := congrArg Prod.snd hq; with_reducible dsimp only at hq2; subst hq2)
    | simp only [↓fr_mk_iff, true_or, or_true, mtwl]
    | with_reducible refine fr_ite ?_ ?_
    | with_reducible refine outFr_ite ?_ ?_
    | with_reducible refine outFr_next.2 ?_
    | with_reducible refine fr_ite2 ?_ ?_
    | with_reducible refine fr_foldl ?_ (fun _ _ _ => ?_)
    | with_reducible refine twinSend_frame _ _ _ mtwl ?_
    | split
    | dsimp only

theorem twinCmd_frame {P : List Part} {t₀ : State} (code : Nat) (tick : Int) (s : State) (mtwl : Part.twl ∈ P) (h₀ : SameBut P t₀ s) :
    SameBut P t₀ (twinCmd code tick s) := by
  unfold twinCmd
  repeat' first
    | with_reducible assumption
    | (rename_i hq; have hq2 := congrArg Prod.snd hq; with_reducible dsimp only at hq2; subst hq2)
    | simp only [↓fr_mk_iff, true_or, or_true, mtwl]
    | with_reducible refine fr_ite ?_ ?_
    | with_reducible refine outFr_ite ?_ ?_
    | with_reducible refine outFr_next.2 ?_
    | with_reducible refine fr_ite2 ?_ ?_
    | with_reducible refine fr_foldl ?_ (fun _ _ _ => ?_)
    | with_reducible refine twinSend_frame _ _ _ mtwl ?_
    | split
    | dsimp only

theorem becomeActive_frame {P : List Part} {t₀ : State} (cause : Nat) (s : State) (mrecd : Part.recd ∈ P) (mtwl : Part.twl ∈ P) (mints : Part.ints ∈ P) (mheld : Part.held ∈ P) (mnoted : Part.noted ∈ P) (mlic : Part.lic ∈ P) (h₀ : SameBut P t₀ s) :
    SameBut P t₀ (becomeActive cause s) := by
  unfold becomeActive
  repeat' first
    | with_reducible assumption
    | (rename_i hq; have hq2 := congrArg Prod.snd hq; with_reducible dsimp only at hq2; subst hq2)
    | simp only [↓fr_mk_iff, true_or, or_true, mrecd, mtwl, mints, mheld, mnoted, mlic]
    | with_reducible refine fr_ite ?_ ?_
    | with_reducible refine outFr_ite ?_ ?_
    | with_reducible refine outFr_next.2 ?_
    | with_reducible refine fr_ite2 ?_ ?_
    | with_reducible refine fr_foldl ?_ (fun _ _ _ => ?_)
    | with_reducible refine twinRole_frame _ _ _ mrecd mtwl mints mheld mnoted mlic ?_ | with_reducible refine setTwl_frame _ _ mtwl (.inl mnoted) ?_
    | split
    | dsimp only

theorem noteTakeover_frame {P : List Part} {t₀ : State} (silent : Bool) (wait : Nat) (s : State) (mrecd : Part.recd ∈ P) (mtwl : Part.twl ∈ P) (mnoted : Part.noted ∈ P) (h₀ : SameBut P t₀ s) :
    SameBut P t₀ (noteTakeover silent wait s) := by
  unfold noteTakeover
  repeat' first
    | with_reducible assumption
    | (rename_i hq; have hq2 := congrArg Prod.snd hq; with_reducible dsimp only at hq2; subst hq2)
    | simp only [↓fr_mk_iff, true_or, or_true, mrecd, mtwl, mnoted]
    | with_reducible refine fr_ite ?_ ?_
    | with_reducible refine outFr_ite ?_ ?_
    | with_reducible refine outFr_next.2 ?_
    | with_reducible refine fr_ite2 ?_ ?_
    | with_reducible refine fr_foldl ?_ (fun _ _ _ => ?_)
    | with_reducible refine record_frame _ _ _ _ _ _ mrecd mnoted ?_ | with_reducible refine setTwl_frame _ _ mtwl (.inl mnoted) ?_
    | split
    | dsimp only

theorem takeover_frame {P : List Part} {t₀ : State} (silent : Bool) (s : State) (mtim : Part.tim ∈ P) (mxn : Part.xn ∈ P) (mrecd : Part.recd ∈ P) (mtwl : Part.twl ∈ P) (mints : Part.ints ∈ P) (mheld : Part.held ∈ P) (mnoted : Part.noted ∈ P) (mlic : Part.lic ∈ P) (h₀ : SameBut P t₀ s) :
    SameBut P t₀ (takeover silent s) := by
  unfold takeover
  repeat' first
    | with_reducible assumption
    | (rename_i hq; have hq2 := congrArg Prod.snd hq; with_reducible dsimp only at hq2; subst hq2)
    | simp only [↓fr_mk_iff, true_or, or_true, mtim, mxn, mrecd, mtwl, mints, mheld, mnoted, mlic]
    | with_reducible refine fr_ite ?_ ?_
    | with_reducible refine outFr_ite ?_ ?_
    | with_reducible refine outFr_next.2 ?_
    | with_reducible refine fr_ite2 ?_ ?_
    | with_reducible refine fr_foldl ?_ (fun _ _ _ => ?_)
    | with_reducible refine setTwl_frame _ _ mtwl (.inl mnoted) ?_ | with_reducible refine noteTakeover_frame _ _ _ mrecd mtwl mnoted ?_ | with_reducible refine raise_frame _ _ mints mheld mlic ?_ | with_reducible refine becomeActive_frame _ _ mrecd mtwl mints mheld mnoted mlic ?_ | with_reducible refine setTim_frame _ _ mtim ?_ | with_reducible refine accepted_frame _  ?_ | with_reducible refine xnbTakeover_frame _ mxn mrecd mints mheld mnoted mlic ?_
    | split
    | dsimp only

theorem peerGone_frame {P : List Part} {t₀ : State} (silent : Bool) (s : State) (mtim : Part.tim ∈ P) (mxn : Part.xn ∈ P) (mrecd : Part.recd ∈ P) (mtwl : Part.twl ∈ P) (mints : Part.ints ∈ P) (mheld : Part.held ∈ P) (mnoted : Part.noted ∈ P) (mlic : Part.lic ∈ P) (h₀ : SameBut P t₀ s) :
    SameBut P t₀ (peerGone silent s) := by
  unfold peerGone
  repeat' first
    | with_reducible assumption
    | (rename_i hq; have hq2 := congrArg Prod.snd hq; with_reducible dsimp only at hq2; subst hq2)
    | simp only [↓fr_mk_iff, true_or, or_true, mtim, mxn, mrecd, mtwl, mints, mheld, mnoted, mlic]
    | with_reducible refine fr_ite ?_ ?_
    | with_reducible refine outFr_ite ?_ ?_
    | with_reducible refine outFr_next.2 ?_
    | with_reducible refine fr_ite2 ?_ ?_
    | with_reducible refine fr_foldl ?_ (fun _ _ _ => ?_)
    | with_reducible refine takeover_frame _ _ mtim mxn mrecd mtwl mints mheld mnoted mlic ?_ | with_reducible refine raise_frame _ _ mints mheld mlic ?_ | with_reducible refine record_frame _ _ _ _ _ _ mrecd mnoted ?_ | with_reducible refine setTwl_frame _ _ mtwl (.inl mnoted) ?_ | with_reducible refine integFail_frame _ _ mrecd mtwl mints mheld mnoted mlic ?_
    | split
    | dsimp only

theorem setPath_frame {P : List Part} {t₀ : State} (w : TwinWay) (f : TwinPath → TwinPath) (s : State) (mtwl : Part.twl ∈ P) (h₀ : SameBut P t₀ s) :
    SameBut P t₀ (setPath w f s) := by
  unfold setPath
  repeat' first
    | with_reducible assumption
    | (rename_i hq; have hq2 := congrArg Prod.snd hq; with_reducible dsimp only at hq2; subst hq2)
    | simp only [↓fr_mk_iff, true_or, or_true, mtwl]
    | with_reducible refine fr_ite ?_ ?_
    | with_reducible refine outFr_ite ?_ ?_
    | with_reducible refine outFr_next.2 ?_
    | with_reducible refine fr_ite2 ?_ ?_
    | with_reducible refine fr_foldl ?_ (fun _ _ _ => ?_)
    | with_reducible refine setTwl_frame _ _ mtwl (.inr fun _ => rfl) ?_
    | split
    | dsimp only

theorem linkLost_frame {P : List Part} {t₀ : State} (s : State) (mbanks : Part.banks ∈ P) (mrecd : Part.recd ∈ P) (mtwl : Part.twl ∈ P) (mints : Part.ints ∈ P) (mheld : Part.held ∈ P) (mnoted : Part.noted ∈ P) (mlic : Part.lic ∈ P) (h₀ : SameBut P t₀ s) :
    SameBut P t₀ (linkLost s) := by
  unfold linkLost
  repeat' first
    | with_reducible assumption
    | (rename_i hq; have hq2 := congrArg Prod.snd hq; with_reducible dsimp only at hq2; subst hq2)
    | simp only [↓fr_mk_iff, true_or, or_true, mbanks, mrecd, mtwl, mints, mheld, mnoted, mlic]
    | with_reducible refine fr_ite ?_ ?_
    | with_reducible refine outFr_ite ?_ ?_
    | with_reducible refine outFr_next.2 ?_
    | with_reducible refine fr_ite2 ?_ ?_
    | with_reducible refine fr_foldl ?_ (fun _ _ _ => ?_)
    | with_reducible refine standbyDrop_frame _ _ mbanks mrecd mtwl mints mheld mnoted mlic ?_ | with_reducible refine record_frame _ _ _ _ _ _ mrecd mnoted ?_
    | split
    | dsimp only

theorem pathDown_frame {P : List Part} {t₀ : State} (w : TwinWay) (s : State) (mtim : Part.tim ∈ P) (mbanks : Part.banks ∈ P) (mxn : Part.xn ∈ P) (mrecd : Part.recd ∈ P) (mtwl : Part.twl ∈ P) (mints : Part.ints ∈ P) (mheld : Part.held ∈ P) (mnoted : Part.noted ∈ P) (mlic : Part.lic ∈ P) (h₀ : SameBut P t₀ s) :
    SameBut P t₀ (pathDown w s) := by
  unfold pathDown
  repeat' first
    | with_reducible assumption
    | (rename_i hq; have hq2 := congrArg Prod.snd hq; with_reducible dsimp only at hq2; subst hq2)
    | simp only [↓fr_mk_iff, true_or, or_true, mtim, mbanks, mxn, mrecd, mtwl, mints, mheld, mnoted, mlic]
    | with_reducible refine fr_ite ?_ ?_
    | with_reducible refine outFr_ite ?_ ?_
    | with_reducible refine outFr_next.2 ?_
    | with_reducible refine fr_ite2 ?_ ?_
    | with_reducible refine fr_foldl ?_ (fun _ _ _ => ?_)
    | with_reducible refine raise_frame _ _ mints mheld mlic ?_ | with_reducible refine record_frame _ _ _ _ _ _ mrecd mnoted ?_ | with_reducible refine setPath_frame _ _ _ mtwl ?_ | with_reducible refine peerGone_frame _ _ mtim mxn mrecd mtwl mints mheld mnoted mlic ?_ | with_reducible refine linkLost_frame _ mbanks mrecd mtwl mints mheld mnoted mlic ?_ | with_reducible refine integFail_frame _ _ mrecd mtwl mints mheld mnoted mlic ?_
    | split
    | dsimp only

theorem pathBeat_frame {P : List Part} {t₀ : State} (w : TwinWay) (s : State) (mbanks : Part.banks ∈ P) (mrecd : Part.recd ∈ P) (mtwl : Part.twl ∈ P) (mints : Part.ints ∈ P) (mheld : Part.held ∈ P) (mnoted : Part.noted ∈ P) (mlic : Part.lic ∈ P) (h₀ : SameBut P t₀ s) :
    SameBut P t₀ (pathBeat w s) := by
  unfold pathBeat
  repeat' first
    | with_reducible assumption
    | (rename_i hq; have hq2 := congrArg Prod.snd hq; with_reducible dsimp only at hq2; subst hq2)
    | simp only [↓fr_mk_iff, true_or, or_true, mbanks, mrecd, mtwl, mints, mheld, mnoted, mlic]
    | with_reducible refine fr_ite ?_ ?_
    | with_reducible refine outFr_ite ?_ ?_
    | with_reducible refine outFr_next.2 ?_
    | with_reducible refine fr_ite2 ?_ ?_
    | with_reducible refine fr_foldl ?_ (fun _ _ _ => ?_)
    | with_reducible refine setTwl_frame _ _ mtwl (.inl mnoted) ?_ | with_reducible refine setPath_frame _ _ _ mtwl ?_ | with_reducible refine linkLost_frame _ mbanks mrecd mtwl mints mheld mnoted mlic ?_ | with_reducible refine raise_frame _ _ mints mheld mlic ?_
    | split
    | dsimp only

theorem integBegin_frame {P : List Part} {t₀ : State} (s : State) (mtwl : Part.twl ∈ P) (h₀ : SameBut P t₀ s) :
    SameBut P t₀ (integBegin s) := by
  unfold integBegin
  repeat' first
    | with_reducible assumption
    | (rename_i hq; have hq2 := congrArg Prod.snd hq; with_reducible dsimp only at hq2; subst hq2)
    | simp only [↓fr_mk_iff, true_or, or_true, mtwl]
    | with_reducible refine fr_ite ?_ ?_
    | with_reducible refine outFr_ite ?_ ?_
    | with_reducible refine outFr_next.2 ?_
    | with_reducible refine fr_ite2 ?_ ?_
    | with_reducible refine fr_foldl ?_ (fun _ _ _ => ?_)
    | with_reducible refine twinCmd_frame _ _ _ mtwl ?_ | with_reducible refine setTwl_frame _ _ mtwl (.inr fun _ => rfl) ?_
    | split
    | dsimp only

theorem sendPage_frame {P : List Part} {t₀ : State} (base : Nat) (s : State) (mtwl : Part.twl ∈ P) (h₀ : SameBut P t₀ s) :
    SameBut P t₀ (sendPage base s) := by
  unfold sendPage
  repeat' first
    | with_reducible assumption
    | (rename_i hq; have hq2 := congrArg Prod.snd hq; with_reducible dsimp only at hq2; subst hq2)
    | simp only [↓fr_mk_iff, true_or, or_true, mtwl]
    | with_reducible refine fr_ite ?_ ?_
    | with_reducible refine outFr_ite ?_ ?_
    | with_reducible refine outFr_next.2 ?_
    | with_reducible refine fr_ite2 ?_ ?_
    | with_reducible refine fr_foldl ?_ (fun _ _ _ => ?_)
    | with_reducible refine twinSend_frame _ _ _ mtwl ?_
    | split
    | dsimp only

theorem sendMarker_frame {P : List Part} {t₀ : State} (base : Nat) (s : State) (mtwl : Part.twl ∈ P) (h₀ : SameBut P t₀ s) :
    SameBut P t₀ (sendMarker base s) := by
  unfold sendMarker
  repeat' first
    | with_reducible assumption
    | (rename_i hq; have hq2 := congrArg Prod.snd hq; with_reducible dsimp only at hq2; subst hq2)
    | simp only [↓fr_mk_iff, true_or, or_true, mtwl]
    | with_reducible refine fr_ite ?_ ?_
    | with_reducible refine outFr_ite ?_ ?_
    | with_reducible refine outFr_next.2 ?_
    | with_reducible refine fr_ite2 ?_ ?_
    | with_reducible refine fr_foldl ?_ (fun _ _ _ => ?_)
    | with_reducible refine twinSend_frame _ _ _ mtwl ?_
    | split
    | dsimp only

theorem pageLoad_frame {P : List Part} {t₀ : State} (a : Nat) (bs : List Byte) (s : State) (mvrc : Part.vrc ∈ P) (mrot : Part.rot ∈ P) (mtwl : Part.twl ∈ P) (mmems : Part.mems ∈ P) (mvmem : Part.vmem ∈ P) (h₀ : SameBut P t₀ s) :
    SameBut P t₀ (pageLoad a bs s) := by
  unfold pageLoad
  repeat' first
    | with_reducible assumption
    | (rename_i hq; have hq2 := congrArg Prod.snd hq; with_reducible dsimp only at hq2; subst hq2)
    | simp only [↓fr_mk_iff, true_or, or_true, mvrc, mrot, mtwl, mmems, mvmem]
    | with_reducible refine fr_ite ?_ ?_
    | with_reducible refine outFr_ite ?_ ?_
    | with_reducible refine outFr_next.2 ?_
    | with_reducible refine fr_ite2 ?_ ?_
    | with_reducible refine fr_foldl ?_ (fun _ _ _ => ?_)
    | with_reducible refine vwrite_frame _ _ _ mvrc mtwl mvmem ?_ | with_reducible refine markPages_frame _ _ mrot ?_
    | split
    | dsimp only

theorem fwdApply_frame {P : List Part} {t₀ : State} (e : TwinFwd) (s : State) (mrot : Part.rot ∈ P) (mrecd : Part.recd ∈ P) (mtwl : Part.twl ∈ P) (mints : Part.ints ∈ P) (mmems : Part.mems ∈ P) (mcores : Part.cores ∈ P) (mvmem : Part.vmem ∈ P) (mheld : Part.held ∈ P) (mnoted : Part.noted ∈ P) (mlic : Part.lic ∈ P) (h₀ : SameBut P t₀ s) :
    SameBut P t₀ (fwdApply e s) := by
  unfold fwdApply
  repeat' first
    | with_reducible assumption
    | (rename_i hq; have hq2 := congrArg Prod.snd hq; with_reducible dsimp only at hq2; subst hq2)
    | simp only [↓fr_mk_iff, true_or, or_true, mrot, mrecd, mtwl, mints, mmems, mcores, mvmem, mheld, mnoted, mlic]
    | with_reducible refine fr_ite ?_ ?_
    | with_reducible refine outFr_ite ?_ ?_
    | with_reducible refine outFr_next.2 ?_
    | with_reducible refine fr_ite2 ?_ ?_
    | with_reducible refine fr_foldl ?_ (fun _ _ _ => ?_)
    | with_reducible refine applyEntry_frame _ _ _ mmems mcores mlic ?_ | with_reducible refine markPages_frame _ _ mrot ?_ | with_reducible refine markShared_frame _ _ _ mtwl ?_ | with_reducible refine setTwl_frame _ _ mtwl (.inl mnoted) ?_ | with_reducible refine integFail_frame _ _ mrecd mtwl mints mheld mnoted mlic ?_
    | split
    | dsimp only

theorem joined_frame {P : List Part} {t₀ : State} (s : State) (mcys : Part.cys ∈ P) (mrecd : Part.recd ∈ P) (mtwl : Part.twl ∈ P) (mints : Part.ints ∈ P) (mheld : Part.held ∈ P) (mnoted : Part.noted ∈ P) (mlic : Part.lic ∈ P) (h₀ : SameBut P t₀ s) :
    SameBut P t₀ (joined s) := by
  unfold joined
  repeat' first
    | with_reducible assumption
    | (rename_i hq; have hq2 := congrArg Prod.snd hq; with_reducible dsimp only at hq2; subst hq2)
    | simp only [↓fr_mk_iff, true_or, or_true, mcys, mrecd, mtwl, mints, mheld, mnoted, mlic]
    | with_reducible refine fr_ite ?_ ?_
    | with_reducible refine outFr_ite ?_ ?_
    | with_reducible refine outFr_next.2 ?_
    | with_reducible refine fr_ite2 ?_ ?_
    | with_reducible refine fr_foldl ?_ (fun _ _ _ => ?_)
    | with_reducible refine mapTasks_frame _ _ mcys ?_ | with_reducible refine raise_frame _ _ mints mheld mlic ?_ | with_reducible refine record_frame _ _ _ _ _ _ mrecd mnoted ?_ | with_reducible refine twinRole_frame _ _ _ mrecd mtwl mints mheld mnoted mlic ?_ | with_reducible refine setTwl_frame _ _ mtwl (.inl mnoted) ?_
    | split
    | dsimp only

theorem joinTry_frame {P : List Part} {t₀ : State} (s : State) (mdrawn : Part.drawn ∈ P) (mrecd : Part.recd ∈ P) (mtwl : Part.twl ∈ P) (mints : Part.ints ∈ P) (mheld : Part.held ∈ P) (mnoted : Part.noted ∈ P) (mlic : Part.lic ∈ P) (h₀ : SameBut P t₀ s) :
    SameBut P t₀ (joinTry s) := by
  unfold joinTry
  repeat' first
    | with_reducible assumption
    | (rename_i hq; have hq2 := congrArg Prod.snd hq; with_reducible dsimp only at hq2; subst hq2)
    | simp only [↓fr_mk_iff, true_or, or_true, mdrawn, mrecd, mtwl, mints, mheld, mnoted, mlic]
    | with_reducible refine fr_ite ?_ ?_
    | with_reducible refine outFr_ite ?_ ?_
    | with_reducible refine outFr_next.2 ?_
    | with_reducible refine fr_ite2 ?_ ?_
    | with_reducible refine fr_foldl ?_ (fun _ _ _ => ?_)
    | with_reducible refine twinCmd_frame _ _ _ mtwl ?_ | with_reducible refine fwdDrain_frame _ _ mtwl ?_ | with_reducible refine drawOctets_frame _ _ mdrawn ?_ | with_reducible refine setTwl_frame _ _ mtwl (.inl mnoted) ?_ | with_reducible refine twinSend_frame _ _ _ mtwl ?_ | with_reducible refine integFail_frame _ _ mrecd mtwl mints mheld mnoted mlic ?_
    | split
    | dsimp only

end Sys2Proof.Machine
end

