-- ==== Sys2Proof/Laws/Frames6.lean ====
section
/-! SUPPORT. For every operation and every meaning: only the named parts differ after it. -/

set_option linter.all false

namespace Sys2Proof.Machine

open Sys2Proof

theorem linkFrame_frame {P : List Part} {t₀ : State} (head : TwinHead) (act : State → State) (s : State) (mtwl : Part.twl ∈ P)
    (hf : ∀ u, SameBut P t₀ u → SameBut P t₀ (act u)) (h₀ : SameBut P t₀ s) : SameBut P t₀ (linkFrame head act s) := by
  unfold linkFrame
  exact fr_ite h₀ (fr_ite (hf s h₀) (setTwl_frame _ _ mtwl (.inr fun _ => rfl) h₀))

theorem execHeartbeatStrobe_frame {P : List Part} {t₀ : State} (dt : Nat) (s : State) (mtwl : Part.twl ∈ P) (mnoted : Part.noted ∈ P) (h₀ : SameBut P t₀ (advance dt s)) :
    OutFr P t₀ (execHeartbeatStrobe dt s) := by
  unfold execHeartbeatStrobe
  repeat' first
    | with_reducible assumption
    | (rename_i hq; have hq2 := congrArg Prod.snd hq; with_reducible dsimp only at hq2; subst hq2)
    | simp only [↓fr_mk_iff, true_or, or_true, mtwl, mnoted]
    | with_reducible refine fr_ite ?_ ?_
    | with_reducible refine outFr_ite ?_ ?_
    | with_reducible refine outFr_next.2 ?_
    | with_reducible refine fr_ite2 ?_ ?_
    | with_reducible refine fr_foldl ?_ (fun _ _ _ => ?_)
    | with_reducible refine setTwl_frame _ _ mtwl (.inl mnoted) ?_ | with_reducible refine twinSend_frame _ _ _ mtwl ?_
    | split
    | dsimp only

theorem beatShown_frame {P : List Part} {t₀ : State} (b : TwinBeat) (s : State) (mtim : Part.tim ∈ P) (mbanks : Part.banks ∈ P) (mxn : Part.xn ∈ P) (mrecd : Part.recd ∈ P) (mtwl : Part.twl ∈ P) (mints : Part.ints ∈ P) (mheld : Part.held ∈ P) (mnoted : Part.noted ∈ P) (mlic : Part.lic ∈ P) (h₀ : SameBut P t₀ s) :
    SameBut P t₀ (beatShown b s) := by
  unfold beatShown
  repeat' first
    | with_reducible assumption
    | (rename_i hq; have hq2 := congrArg Prod.snd hq; with_reducible dsimp only at hq2; subst hq2)
    | simp only [↓fr_mk_iff, true_or, or_true, mtim, mbanks, mxn, mrecd, mtwl, mints, mheld, mnoted, mlic]
    | with_reducible refine fr_ite ?_ ?_
    | with_reducible refine outFr_ite ?_ ?_
    | with_reducible refine outFr_next.2 ?_
    | with_reducible refine fr_ite2 ?_ ?_
    | with_reducible refine fr_foldl ?_ (fun _ _ _ => ?_)
    | with_reducible refine pathBeat_frame _ _ mbanks mrecd mtwl mints mheld mnoted mlic ?_ | with_reducible refine setTwl_frame _ _ mtwl (.inl mnoted) ?_ | with_reducible refine peerGone_frame _ _ mtim mxn mrecd mtwl mints mheld mnoted mlic ?_ | with_reducible refine integBegin_frame _ mtwl ?_
    | split
    | dsimp only

theorem execHeartbeatReceived_frame {P : List Part} {t₀ : State} (dt : Nat) (rx : BeatRx) (s : State) (mtim : Part.tim ∈ P) (mbanks : Part.banks ∈ P) (mxn : Part.xn ∈ P) (mrecd : Part.recd ∈ P) (mtwl : Part.twl ∈ P) (mints : Part.ints ∈ P) (mheld : Part.held ∈ P) (mnoted : Part.noted ∈ P) (mlic : Part.lic ∈ P) (h₀ : SameBut P t₀ (advance dt s)) :
    OutFr P t₀ (execHeartbeatReceived dt rx s) := by
  unfold execHeartbeatReceived
  repeat' first
    | with_reducible assumption
    | (rename_i hq; have hq2 := congrArg Prod.snd hq; with_reducible dsimp only at hq2; subst hq2)
    | simp only [↓fr_mk_iff, true_or, or_true, mtim, mbanks, mxn, mrecd, mtwl, mints, mheld, mnoted, mlic]
    | with_reducible refine fr_ite ?_ ?_
    | with_reducible refine outFr_ite ?_ ?_
    | with_reducible refine outFr_next.2 ?_
    | with_reducible refine fr_ite2 ?_ ?_
    | with_reducible refine fr_foldl ?_ (fun _ _ _ => ?_)
    | (intro b u hu; dsimp only)
    | intro b u hu
    | (intro u hu; dsimp only)
    | intro u hu
    | with_reducible refine linkFrame_frame _ _ _ mtwl ?_ ?_ | with_reducible refine beatShown_frame _ _ mtim mbanks mxn mrecd mtwl mints mheld mnoted mlic ?_ | with_reducible refine integBegin_frame _ mtwl ?_ | with_reducible refine pathBeat_frame _ _ mbanks mrecd mtwl mints mheld mnoted mlic ?_
    | split
    | dsimp only

theorem execHeartbeatMiss_frame {P : List Part} {t₀ : State} (dt : Nat) (way : TwinWay) (s : State) (mtim : Part.tim ∈ P) (mbanks : Part.banks ∈ P) (mxn : Part.xn ∈ P) (mrecd : Part.recd ∈ P) (mtwl : Part.twl ∈ P) (mints : Part.ints ∈ P) (mheld : Part.held ∈ P) (mnoted : Part.noted ∈ P) (mlic : Part.lic ∈ P) (h₀ : SameBut P t₀ (advance dt s)) :
    OutFr P t₀ (execHeartbeatMiss dt way s) := by
  unfold execHeartbeatMiss
  repeat' first
    | with_reducible assumption
    | (rename_i hq; have hq2 := congrArg Prod.snd hq; with_reducible dsimp only at hq2; subst hq2)
    | simp only [↓fr_mk_iff, true_or, or_true, mtim, mbanks, mxn, mrecd, mtwl, mints, mheld, mnoted, mlic]
    | with_reducible refine fr_ite ?_ ?_
    | with_reducible refine outFr_ite ?_ ?_
    | with_reducible refine outFr_next.2 ?_
    | with_reducible refine fr_ite2 ?_ ?_
    | with_reducible refine fr_foldl ?_ (fun _ _ _ => ?_)
    | with_reducible refine setPath_frame _ _ _ mtwl ?_ | with_reducible refine pathDown_frame _ _ mtim mbanks mxn mrecd mtwl mints mheld mnoted mlic ?_
    | split
    | dsimp only

theorem execTwinFaultReceived_frame {P : List Part} {t₀ : State} (dt : Nat) (rx : FaultRx) (s : State) (mtim : Part.tim ∈ P) (mxn : Part.xn ∈ P) (mrecd : Part.recd ∈ P) (mtwl : Part.twl ∈ P) (mints : Part.ints ∈ P) (mheld : Part.held ∈ P) (mnoted : Part.noted ∈ P) (mlic : Part.lic ∈ P) (h₀ : SameBut P t₀ (advance dt s)) :
    OutFr P t₀ (execTwinFaultReceived dt rx s) := by
  unfold execTwinFaultReceived
  repeat' first
    | with_reducible assumption
    | (rename_i hq; have hq2 := congrArg Prod.snd hq; with_reducible dsimp only at hq2; subst hq2)
    | simp only [↓fr_mk_iff, true_or, or_true, mtim, mxn, mrecd, mtwl, mints, mheld, mnoted, mlic]
    | with_reducible refine fr_ite ?_ ?_
    | with_reducible refine outFr_ite ?_ ?_
    | with_reducible refine outFr_next.2 ?_
    | with_reducible refine fr_ite2 ?_ ?_
    | with_reducible refine fr_foldl ?_ (fun _ _ _ => ?_)
    | (intro b u hu; dsimp only)
    | intro b u hu
    | (intro u hu; dsimp only)
    | intro u hu
    | with_reducible refine linkFrame_frame _ _ _ mtwl ?_ ?_ | with_reducible refine peerGone_frame _ _ mtim mxn mrecd mtwl mints mheld mnoted mlic ?_ | with_reducible refine setTwl_frame _ _ mtwl (.inl mnoted) ?_
    | split
    | dsimp only

theorem execTakeoverGateRelease_frame {P : List Part} {t₀ : State} (dt : Nat) (s : State) (mbanks : Part.banks ∈ P) (mrecd : Part.recd ∈ P) (mtwl : Part.twl ∈ P) (mnoted : Part.noted ∈ P) (h₀ : SameBut P t₀ (advance dt s)) :
    OutFr P t₀ (execTakeoverGateRelease dt s) := by
  unfold execTakeoverGateRelease
  repeat' first
    | with_reducible assumption
    | (rename_i hq; have hq2 := congrArg Prod.snd hq; with_reducible dsimp only at hq2; subst hq2)
    | simp only [↓fr_mk_iff, true_or, or_true, mbanks, mrecd, mtwl, mnoted]
    | with_reducible refine fr_ite ?_ ?_
    | with_reducible refine outFr_ite ?_ ?_
    | with_reducible refine outFr_next.2 ?_
    | with_reducible refine fr_ite2 ?_ ?_
    | with_reducible refine fr_foldl ?_ (fun _ _ _ => ?_)
    | with_reducible refine twinHold_frame _ _ mbanks ?_ | with_reducible refine setTwl_frame _ _ mtwl (.inl mnoted) ?_ | with_reducible refine noteTakeover_frame _ _ _ mrecd mtwl mnoted ?_ | with_reducible refine record_frame _ _ _ _ _ _ mrecd mnoted ?_
    | split
    | dsimp only

theorem execTwinRequestedReset_frame {P : List Part} {t₀ : State} (dt : Nat) (s : State) (mmod : Part.mod ∈ P) (mpwr : Part.pwr ∈ P) (mvrc : Part.vrc ∈ P) (mrot : Part.rot ∈ P) (mcys : Part.cys ∈ P) (mclk : Part.clk ∈ P) (mbanks : Part.banks ∈ P) (mchans : Part.chans ∈ P) (mxn : Part.xn ∈ P) (mrecd : Part.recd ∈ P) (mboot : Part.boot ∈ P) (mkiln : Part.kiln ∈ P) (mtwl : Part.twl ∈ P) (mlnc : Part.lnc ∈ P) (mcpn : Part.cpn ∈ P) (mcfd : Part.cfd ∈ P) (mbrg : Part.brg ∈ P) (mints : Part.ints ∈ P) (mcores : Part.cores ∈ P) (mvmem : Part.vmem ∈ P) (mheld : Part.held ∈ P) (mnoted : Part.noted ∈ P) (mlic : Part.lic ∈ P) (h₀ : SameBut P t₀ (advance dt s)) :
    OutFr P t₀ (execTwinRequestedReset dt s) := by
  unfold execTwinRequestedReset
  repeat' first
    | with_reducible assumption
    | (rename_i hq; have hq2 := congrArg Prod.snd hq; with_reducible dsimp only at hq2; subst hq2)
    | simp only [↓fr_mk_iff, true_or, or_true, mmod, mpwr, mvrc, mrot, mcys, mclk, mbanks, mchans, mxn, mrecd, mboot, mkiln, mtwl, mlnc, mcpn, mcfd, mbrg, mints, mcores, mvmem, mheld, mnoted, mlic]
    | with_reducible refine fr_ite ?_ ?_
    | with_reducible refine outFr_ite ?_ ?_
    | with_reducible refine outFr_next.2 ?_
    | with_reducible refine fr_ite2 ?_ ?_
    | with_reducible refine fr_foldl ?_ (fun _ _ _ => ?_)
    | with_reducible refine moduleReset_frame _ _ _ mmod mpwr mvrc mrot mcys mclk mbanks mchans mxn mrecd mboot mkiln mtwl mlnc mcpn mcfd mbrg mints mcores mvmem mheld mnoted mlic ?_
    | split
    | dsimp only

theorem keepInput_frame {P : List Part} {t₀ : State} (task : Fin 8) (cycle offset : Nat) (bs : List Byte) (s : State) (mtwl : Part.twl ∈ P) (h₀ : SameBut P t₀ s) :
    SameBut P t₀ (keepInput task cycle offset bs s) := by
  unfold keepInput
  repeat' first
    | with_reducible assumption
    | (rename_i hq; have hq2 := congrArg Prod.snd hq; with_reducible dsimp only at hq2; subst hq2)
    | simp only [↓fr_mk_iff, true_or, or_true, mtwl]
    | with_reducible refine fr_ite ?_ ?_
    | with_reducible refine outFr_ite ?_ ?_
    | with_reducible refine outFr_next.2 ?_
    | with_reducible refine fr_ite2 ?_ ?_
    | with_reducible refine fr_foldl ?_ (fun _ _ _ => ?_)
    | with_reducible refine setTwl_frame _ _ mtwl (.inr fun _ => rfl) ?_
    | split
    | dsimp only

theorem execTwinInputFrame_frame {P : List Part} {t₀ : State} (head : TwinHead) (task : Fin 8) (cycle : BitVec 64) (offset : BitVec 32) (octets : List (BitVec 8)) (s : State) (mtwl : Part.twl ∈ P) (h₀ : SameBut P t₀ s) :
    OutFr P t₀ (execTwinInputFrame head task cycle offset octets s) := by
  unfold execTwinInputFrame
  repeat' first
    | with_reducible assumption
    | (rename_i hq; have hq2 := congrArg Prod.snd hq; with_reducible dsimp only at hq2; subst hq2)
    | simp only [↓fr_mk_iff, true_or, or_true, mtwl]
    | with_reducible refine fr_ite ?_ ?_
    | with_reducible refine outFr_ite ?_ ?_
    | with_reducible refine outFr_next.2 ?_
    | with_reducible refine fr_ite2 ?_ ?_
    | with_reducible refine fr_foldl ?_ (fun _ _ _ => ?_)
    | (intro b u hu; dsimp only)
    | intro b u hu
    | (intro u hu; dsimp only)
    | intro u hu
    | with_reducible refine linkFrame_frame _ _ _ mtwl ?_ ?_ | with_reducible refine keepInput_frame _ _ _ _ _ mtwl ?_
    | split
    | dsimp only

theorem execTwinRxframe_frame {P : List Part} {t₀ : State} (head : TwinHead) (port : Fin 2) (sec : BitVec 48) (ns : BitVec 32) (frame : EthFrame) (s : State) (mtwl : Part.twl ∈ P) (mlnc : Part.lnc ∈ P) (h₀ : SameBut P t₀ s) :
    OutFr P t₀ (execTwinRxframe head port sec ns frame s) := by
  unfold execTwinRxframe
  repeat' first
    | with_reducible assumption
    | (rename_i hq; have hq2 := congrArg Prod.snd hq; with_reducible dsimp only at hq2; subst hq2)
    | simp only [↓fr_mk_iff, true_or, or_true, mtwl, mlnc]
    | with_reducible refine fr_ite ?_ ?_
    | with_reducible refine outFr_ite ?_ ?_
    | with_reducible refine outFr_next.2 ?_
    | with_reducible refine fr_ite2 ?_ ?_
    | with_reducible refine fr_foldl ?_ (fun _ _ _ => ?_)
    | (intro b u hu; dsimp only)
    | intro b u hu
    | (intro u hu; dsimp only)
    | intro u hu
    | with_reducible refine linkFrame_frame _ _ _ mtwl ?_ ?_ | with_reducible refine laneFrame_frame _ _ _ _ _ _ _ mlnc ?_
    | split
    | dsimp only

theorem execTwinTimeFrame_frame {P : List Part} {t₀ : State} (dt : Nat) (head : TwinHead) (frame : TimeFrame) (s : State) (mdrawn : Part.drawn ∈ P) (mvrc : Part.vrc ∈ P) (mrot : Part.rot ∈ P) (mcys : Part.cys ∈ P) (mclk : Part.clk ∈ P) (mtim : Part.tim ∈ P) (mxn : Part.xn ∈ P) (mrecd : Part.recd ∈ P) (mtwl : Part.twl ∈ P) (mlnc : Part.lnc ∈ P) (mbw : Part.bw ∈ P) (mints : Part.ints ∈ P) (mmems : Part.mems ∈ P) (mcores : Part.cores ∈ P) (mvmem : Part.vmem ∈ P) (mheld : Part.held ∈ P) (mnoted : Part.noted ∈ P) (mlic : Part.lic ∈ P) (h₀ : SameBut P t₀ (advance dt s)) :
    OutFr P t₀ (execTwinTimeFrame dt head frame s) := by
  unfold execTwinTimeFrame
  repeat' first
    | with_reducible assumption
    | (rename_i hq; have hq2 := congrArg Prod.snd hq; with_reducible dsimp only at hq2; subst hq2)
    | simp only [↓fr_mk_iff, true_or, or_true, mdrawn, mvrc, mrot, mcys, mclk, mtim, mxn, mrecd, mtwl, mlnc, mbw, mints, mmems, mcores, mvmem, mheld, mnoted, mlic]
    | with_reducible refine fr_ite ?_ ?_
    | with_reducible refine outFr_ite ?_ ?_
    | with_reducible refine outFr_next.2 ?_
    | with_reducible refine fr_ite2 ?_ ?_
    | with_reducible refine fr_foldl ?_ (fun _ _ _ => ?_)
    | (intro b u hu; dsimp only)
    | intro b u hu
    | (intro u hu; dsimp only)
    | intro u hu
    | with_reducible refine linkFrame_frame _ _ _ mtwl ?_ ?_ | with_reducible refine servo_frame _ _ _ _ mdrawn mvrc mrot mcys mclk mtim mxn mrecd mtwl mlnc mbw mints mmems mcores mvmem mheld mnoted mlic ?_
    | split
    | dsimp only

theorem sharedCopies_frame {P : List Part} {t₀ : State} (n : Fin 8) (s : State) (mvrc : Part.vrc ∈ P) (mchans : Part.chans ∈ P) (mrecd : Part.recd ∈ P) (mtwl : Part.twl ∈ P) (mbw : Part.bw ∈ P) (mvmem : Part.vmem ∈ P) (mnoted : Part.noted ∈ P) (h₀ : SameBut P t₀ s) :
    SameBut P t₀ (sharedCopies n s) := by
  unfold sharedCopies
  repeat' first
    | with_reducible assumption
    | (rename_i hq; have hq2 := congrArg Prod.snd hq; with_reducible dsimp only at hq2; subst hq2)
    | simp only [↓fr_mk_iff, true_or, or_true, mvrc, mchans, mrecd, mtwl, mbw, mvmem, mnoted]
    | with_reducible refine fr_ite ?_ ?_
    | with_reducible refine outFr_ite ?_ ?_
    | with_reducible refine outFr_next.2 ?_
    | with_reducible refine fr_ite2 ?_ ?_
    | with_reducible refine fr_foldl ?_ (fun _ _ _ => ?_)
    | with_reducible refine commitEntry_frame _ _ _ mvrc mchans mrecd mtwl mbw mvmem mnoted ?_
    | split
    | dsimp only

theorem execTwinCheckFrame_frame {P : List Part} {t₀ : State} (head : TwinHead) (task : Fin 8) (committed : Bool) (cycle : BitVec 64) (crc : BitVec 32) (s : State) (mmod : Part.mod ∈ P) (mpwr : Part.pwr ∈ P) (mvrc : Part.vrc ∈ P) (mrot : Part.rot ∈ P) (mcys : Part.cys ∈ P) (mclk : Part.clk ∈ P) (mbanks : Part.banks ∈ P) (mchans : Part.chans ∈ P) (mxn : Part.xn ∈ P) (mrecd : Part.recd ∈ P) (mboot : Part.boot ∈ P) (mkiln : Part.kiln ∈ P) (mtwl : Part.twl ∈ P) (mlnc : Part.lnc ∈ P) (mcpn : Part.cpn ∈ P) (mcfd : Part.cfd ∈ P) (mbrg : Part.brg ∈ P) (mbw : Part.bw ∈ P) (mints : Part.ints ∈ P) (mcores : Part.cores ∈ P) (mvmem : Part.vmem ∈ P) (mheld : Part.held ∈ P) (mnoted : Part.noted ∈ P) (mlic : Part.lic ∈ P) (h₀ : SameBut P t₀ s) :
    OutFr P t₀ (execTwinCheckFrame head task committed cycle crc s) := by
  unfold execTwinCheckFrame
  repeat' first
    | with_reducible assumption
    | (rename_i hq; have hq2 := congrArg Prod.snd hq; with_reducible dsimp only at hq2; subst hq2)
    | simp only [↓fr_mk_iff, true_or, or_true, mmod, mpwr, mvrc, mrot, mcys, mclk, mbanks, mchans, mxn, mrecd, mboot, mkiln, mtwl, mlnc, mcpn, mcfd, mbrg, mbw, mints, mcores, mvmem, mheld, mnoted, mlic]
    | with_reducible refine fr_ite ?_ ?_
    | with_reducible refine outFr_ite ?_ ?_
    | with_reducible refine outFr_next.2 ?_
    | with_reducible refine fr_ite2 ?_ ?_
    | with_reducible refine fr_foldl ?_ (fun _ _ _ => ?_)
    | (intro b u hu; dsimp only)
    | intro b u hu
    | (intro u hu; dsimp only)
    | intro u hu
    | with_reducible refine linkFrame_frame _ _ _ mtwl ?_ ?_ | with_reducible refine twinReset_frame _ mmod mpwr mvrc mrot mcys mclk mbanks mchans mxn mrecd mboot mkiln mtwl mlnc mcpn mcfd mbrg mints mcores mvmem mheld mnoted mlic ?_ | with_reducible refine checkPeer_frame _ _ mbanks mrecd mtwl mints mheld mnoted mlic ?_ | with_reducible refine setTask_frame _ _ _ mcys ?_ | with_reducible refine sharedCopies_frame _ _ mvrc mchans mrecd mtwl mbw mvmem mnoted ?_
    | split
    | dsimp only

theorem execTwinHealthFrame_frame {P : List Part} {t₀ : State} (head : TwinHead) (flags : BitVec 32) (counts : BitVec 96) (s : State) (mtwl : Part.twl ∈ P) (mints : Part.ints ∈ P) (mheld : Part.held ∈ P) (mlic : Part.lic ∈ P) (h₀ : SameBut P t₀ s) :
    OutFr P t₀ (execTwinHealthFrame head flags counts s) := by
  unfold execTwinHealthFrame
  repeat' first
    | with_reducible assumption
    | (rename_i hq; have hq2 := congrArg Prod.snd hq; with_reducible dsimp only at hq2; subst hq2)
    | simp only [↓fr_mk_iff, true_or, or_true, mtwl, mints, mheld, mlic]
    | with_reducible refine fr_ite ?_ ?_
    | with_reducible refine outFr_ite ?_ ?_
    | with_reducible refine outFr_next.2 ?_
    | with_reducible refine fr_ite2 ?_ ?_
    | with_reducible refine fr_foldl ?_ (fun _ _ _ => ?_)
    | (intro b u hu; dsimp only)
    | intro b u hu
    | (intro u hu; dsimp only)
    | intro u hu
    | with_reducible refine linkFrame_frame _ _ _ mtwl ?_ ?_ | with_reducible refine setTwl_frame _ _ mtwl (.inr fun _ => rfl) ?_ | with_reducible refine raise_frame _ _ mints mheld mlic ?_
    | split
    | dsimp only

theorem execTwinCraze_frame {P : List Part} {t₀ : State} (flag : Fin 32) (s : State) (mrecd : Part.recd ∈ P) (mtwl : Part.twl ∈ P) (mnoted : Part.noted ∈ P) (h₀ : SameBut P t₀ s) :
    OutFr P t₀ (execTwinCraze flag s) := by
  unfold execTwinCraze
  repeat' first
    | with_reducible assumption
    | (rename_i hq; have hq2 := congrArg Prod.snd hq; with_reducible dsimp only at hq2; subst hq2)
    | simp only [↓fr_mk_iff, true_or, or_true, mrecd, mtwl, mnoted]
    | with_reducible refine fr_ite ?_ ?_
    | with_reducible refine outFr_ite ?_ ?_
    | with_reducible refine outFr_next.2 ?_
    | with_reducible refine fr_ite2 ?_ ?_
    | with_reducible refine fr_foldl ?_ (fun _ _ _ => ?_)
    | with_reducible refine record_frame _ _ _ _ _ _ mrecd mnoted ?_ | with_reducible refine setTwl_frame _ _ mtwl (.inl mnoted) ?_
    | split
    | dsimp only

theorem execCrazeFlagClear_frame {P : List Part} {t₀ : State} (flag : Fin 32) (s : State) (mtwl : Part.twl ∈ P) (mnoted : Part.noted ∈ P) (h₀ : SameBut P t₀ s) :
    OutFr P t₀ (execCrazeFlagClear flag s) := by
  unfold execCrazeFlagClear
  repeat' first
    | with_reducible assumption
    | (rename_i hq; have hq2 := congrArg Prod.snd hq; with_reducible dsimp only at hq2; subst hq2)
    | simp only [↓fr_mk_iff, true_or, or_true, mtwl, mnoted]
    | with_reducible refine fr_ite ?_ ?_
    | with_reducible refine outFr_ite ?_ ?_
    | with_reducible refine outFr_next.2 ?_
    | with_reducible refine fr_ite2 ?_ ?_
    | with_reducible refine fr_foldl ?_ (fun _ _ _ => ?_)
    | with_reducible refine setTwl_frame _ _ mtwl (.inl mnoted) ?_
    | split
    | dsimp only

theorem execTwinCmdRevertReq_frame {P : List Part} {t₀ : State} (dt : Nat) (head : TwinHead) (s : State) (mrecd : Part.recd ∈ P) (mtwl : Part.twl ∈ P) (mnoted : Part.noted ∈ P) (h₀ : SameBut P t₀ (advance dt s)) :
    OutFr P t₀ (execTwinCmdRevertReq dt head s) := by
  unfold execTwinCmdRevertReq
  repeat' first
    | with_reducible assumption
    | (rename_i hq; have hq2 := congrArg Prod.snd hq; with_reducible dsimp only at hq2; subst hq2)
    | simp only [↓fr_mk_iff, true_or, or_true, mrecd, mtwl, mnoted]
    | with_reducible refine fr_ite ?_ ?_
    | with_reducible refine outFr_ite ?_ ?_
    | with_reducible refine outFr_next.2 ?_
    | with_reducible refine fr_ite2 ?_ ?_
    | with_reducible refine fr_foldl ?_ (fun _ _ _ => ?_)
    | (intro b u hu; dsimp only)
    | intro b u hu
    | (intro u hu; dsimp only)
    | intro u hu
    | with_reducible refine linkFrame_frame _ _ _ mtwl ?_ ?_ | with_reducible refine twinCmd_frame _ _ _ mtwl ?_ | with_reducible refine setTwl_frame _ _ mtwl (.inl mnoted) ?_ | with_reducible refine record_frame _ _ _ _ _ _ mrecd mnoted ?_
    | split
    | dsimp only

theorem execTwinCmdHandover_frame {P : List Part} {t₀ : State} (dt : Nat) (head : TwinHead) (tick : BitVec 64) (s : State) (mtwl : Part.twl ∈ P) (h₀ : SameBut P t₀ (advance dt s)) :
    OutFr P t₀ (execTwinCmdHandover dt head tick s) := by
  unfold execTwinCmdHandover
  repeat' first
    | with_reducible assumption
    | (rename_i hq; have hq2 := congrArg Prod.snd hq; with_reducible dsimp only at hq2; subst hq2)
    | simp only [↓fr_mk_iff, true_or, or_true, mtwl]
    | with_reducible refine fr_ite ?_ ?_
    | with_reducible refine outFr_ite ?_ ?_
    | with_reducible refine outFr_next.2 ?_
    | with_reducible refine fr_ite2 ?_ ?_
    | with_reducible refine fr_foldl ?_ (fun _ _ _ => ?_)
    | (intro b u hu; dsimp only)
    | intro b u hu
    | (intro u hu; dsimp only)
    | intro u hu
    | with_reducible refine linkFrame_frame _ _ _ mtwl ?_ ?_ | with_reducible refine twinCmd_frame _ _ _ mtwl ?_ | with_reducible refine setTwl_frame _ _ mtwl (.inr fun _ => rfl) ?_
    | split
    | dsimp only

theorem execTwinCmdHandoverAck_frame {P : List Part} {t₀ : State} (head : TwinHead) (tick : BitVec 64) (s : State) (mtwl : Part.twl ∈ P) (h₀ : SameBut P t₀ s) :
    OutFr P t₀ (execTwinCmdHandoverAck head tick s) := by
  unfold execTwinCmdHandoverAck
  repeat' first
    | with_reducible assumption
    | (rename_i hq; have hq2 := congrArg Prod.snd hq; with_reducible dsimp only at hq2; subst hq2)
    | simp only [↓fr_mk_iff, true_or, or_true, mtwl]
    | with_reducible refine fr_ite ?_ ?_
    | with_reducible refine outFr_ite ?_ ?_
    | with_reducible refine outFr_next.2 ?_
    | with_reducible refine fr_ite2 ?_ ?_
    | with_reducible refine fr_foldl ?_ (fun _ _ _ => ?_)
    | (intro b u hu; dsimp only)
    | intro b u hu
    | (intro u hu; dsimp only)
    | intro u hu
    | with_reducible refine linkFrame_frame _ _ _ mtwl ?_ ?_ | with_reducible refine setTwl_frame _ _ mtwl (.inr fun _ => rfl) ?_
    | split
    | dsimp only

theorem handoverDone_frame {P : List Part} {t₀ : State} (n : Nat) (s : State) (mrecd : Part.recd ∈ P) (mints : Part.ints ∈ P) (mheld : Part.held ∈ P) (mnoted : Part.noted ∈ P) (mlic : Part.lic ∈ P) (h₀ : SameBut P t₀ s) :
    SameBut P t₀ (handoverDone n s) := by
  unfold handoverDone
  repeat' first
    | with_reducible assumption
    | (rename_i hq; have hq2 := congrArg Prod.snd hq; with_reducible dsimp only at hq2; subst hq2)
    | simp only [↓fr_mk_iff, true_or, or_true, mrecd, mints, mheld, mnoted, mlic]
    | with_reducible refine fr_ite ?_ ?_
    | with_reducible refine outFr_ite ?_ ?_
    | with_reducible refine outFr_next.2 ?_
    | with_reducible refine fr_ite2 ?_ ?_
    | with_reducible refine fr_foldl ?_ (fun _ _ _ => ?_)
    | with_reducible refine raise_frame _ _ mints mheld mlic ?_ | with_reducible refine record_frame _ _ _ _ _ _ mrecd mnoted ?_
    | split
    | dsimp only

theorem execHandoverHoldChange_frame {P : List Part} {t₀ : State} (dt : Nat) (s : State) (mcys : Part.cys ∈ P) (mbanks : Part.banks ∈ P) (mxn : Part.xn ∈ P) (mrecd : Part.recd ∈ P) (mtwl : Part.twl ∈ P) (mints : Part.ints ∈ P) (mheld : Part.held ∈ P) (mnoted : Part.noted ∈ P) (mlic : Part.lic ∈ P) (h₀ : SameBut P t₀ (advance dt s)) :
    OutFr P t₀ (execHandoverHoldChange dt s) := by
  unfold execHandoverHoldChange
  repeat' first
    | with_reducible assumption
    | (rename_i hq; have hq2 := congrArg Prod.snd hq; with_reducible dsimp only at hq2; subst hq2)
    | simp only [↓fr_mk_iff, true_or, or_true, mcys, mbanks, mxn, mrecd, mtwl, mints, mheld, mnoted, mlic]
    | with_reducible refine fr_ite ?_ ?_
    | with_reducible refine outFr_ite ?_ ?_
    | with_reducible refine outFr_next.2 ?_
    | with_reducible refine fr_ite2 ?_ ?_
    | with_reducible refine fr_foldl ?_ (fun _ _ _ => ?_)
    | with_reducible refine handoverDone_frame _ _ mrecd mints mheld mnoted mlic ?_ | with_reducible refine xnbTakeover_frame _ mxn mrecd mints mheld mnoted mlic ?_ | with_reducible refine becomeActive_frame _ _ mrecd mtwl mints mheld mnoted mlic ?_ | with_reducible refine twinHold_frame _ _ mbanks ?_ | with_reducible refine setTwl_frame _ _ mtwl (.inl mnoted) ?_ | with_reducible refine xnbRelease_frame _ mxn mrecd mints mheld mnoted mlic ?_ | with_reducible refine twinRole_frame _ _ _ mrecd mtwl mints mheld mnoted mlic ?_ | with_reducible refine twinCmd_frame _ _ _ mtwl ?_
    | split
    | dsimp only

theorem execTwinCmdOlcSwitch_frame {P : List Part} {t₀ : State} (head : TwinHead) (tick : BitVec 64) (s : State) (mcys : Part.cys ∈ P) (mtwl : Part.twl ∈ P) (h₀ : SameBut P t₀ s) :
    OutFr P t₀ (execTwinCmdOlcSwitch head tick s) := by
  unfold execTwinCmdOlcSwitch
  repeat' first
    | with_reducible assumption
    | (rename_i hq; have hq2 := congrArg Prod.snd hq; with_reducible dsimp only at hq2; subst hq2)
    | simp only [↓fr_mk_iff, true_or, or_true, mcys, mtwl]
    | with_reducible refine fr_ite ?_ ?_
    | with_reducible refine outFr_ite ?_ ?_
    | with_reducible refine outFr_next.2 ?_
    | with_reducible refine fr_ite2 ?_ ?_
    | with_reducible refine fr_foldl ?_ (fun _ _ _ => ?_)
    | (intro b u hu; dsimp only)
    | intro b u hu
    | (intro u hu; dsimp only)
    | intro u hu
    | with_reducible refine linkFrame_frame _ _ _ mtwl ?_ ?_
    | split
    | dsimp only

theorem execTwinCmdIntegStart_frame {P : List Part} {t₀ : State} (dt : Nat) (head : TwinHead) (info : IntegInfo) (s : State) (mrecd : Part.recd ∈ P) (mtwl : Part.twl ∈ P) (mints : Part.ints ∈ P) (mheld : Part.held ∈ P) (mnoted : Part.noted ∈ P) (mlic : Part.lic ∈ P) (h₀ : SameBut P t₀ (advance dt s)) :
    OutFr P t₀ (execTwinCmdIntegStart dt head info s) := by
  unfold execTwinCmdIntegStart
  repeat' first
    | with_reducible assumption
    | (rename_i hq; have hq2 := congrArg Prod.snd hq; with_reducible dsimp only at hq2; subst hq2)
    | simp only [↓fr_mk_iff, true_or, or_true, mrecd, mtwl, mints, mheld, mnoted, mlic]
    | with_reducible refine fr_ite ?_ ?_
    | with_reducible refine outFr_ite ?_ ?_
    | with_reducible refine outFr_next.2 ?_
    | with_reducible refine fr_ite2 ?_ ?_
    | with_reducible refine fr_foldl ?_ (fun _ _ _ => ?_)
    | (intro b u hu; dsimp only)
    | intro b u hu
    | (intro u hu; dsimp only)
    | intro u hu
    | with_reducible refine linkFrame_frame _ _ _ mtwl ?_ ?_ | with_reducible refine twinCmd_frame _ _ _ mtwl ?_ | with_reducible refine setTwl_frame _ _ mtwl (.inl mnoted) ?_ | with_reducible refine integFail_frame _ _ mrecd mtwl mints mheld mnoted mlic ?_
    | split
    | dsimp only

theorem execTwinLatencyDone_frame {P : List Part} {t₀ : State} (dt : Nat) (meanRoundTrip : BitVec 32) (s : State) (mcys : Part.cys ∈ P) (mtwl : Part.twl ∈ P) (mcores : Part.cores ∈ P) (mlic : Part.lic ∈ P) (h₀ : SameBut P t₀ (advance dt s)) :
    OutFr P t₀ (execTwinLatencyDone dt meanRoundTrip s) := by
  unfold execTwinLatencyDone
  repeat' first
    | with_reducible assumption
    | (rename_i hq; have hq2 := congrArg Prod.snd hq; with_reducible dsimp only at hq2; subst hq2)
    | simp only [↓fr_mk_iff, true_or, or_true, mcys, mtwl, mcores, mlic]
    | with_reducible refine fr_ite ?_ ?_
    | with_reducible refine outFr_ite ?_ ?_
    | with_reducible refine outFr_next.2 ?_
    | with_reducible refine fr_ite2 ?_ ?_
    | with_reducible refine fr_foldl ?_ (fun _ _ _ => ?_)
    | with_reducible refine setTwl_frame _ _ mtwl (.inr fun _ => rfl) ?_ | with_reducible refine execDispatch_frame _ mcys mcores mlic ?_
    | split
    | dsimp only

theorem execTwinPageFrame_frame {P : List Part} {t₀ : State} (head : TwinHead) (addr : BitVec 64) (octets : List (BitVec 8)) (s : State) (mvrc : Part.vrc ∈ P) (mrot : Part.rot ∈ P) (mtwl : Part.twl ∈ P) (mmems : Part.mems ∈ P) (mvmem : Part.vmem ∈ P) (h₀ : SameBut P t₀ s) :
    OutFr P t₀ (execTwinPageFrame head addr octets s) := by
  unfold execTwinPageFrame
  repeat' first
    | with_reducible assumption
    | (rename_i hq; have hq2 := congrArg Prod.snd hq; with_reducible dsimp only at hq2; subst hq2)
    | simp only [↓fr_mk_iff, true_or, or_true, mvrc, mrot, mtwl, mmems, mvmem]
    | with_reducible refine fr_ite ?_ ?_
    | with_reducible refine outFr_ite ?_ ?_
    | with_reducible refine outFr_next.2 ?_
    | with_reducible refine fr_ite2 ?_ ?_
    | with_reducible refine fr_foldl ?_ (fun _ _ _ => ?_)
    | (intro b u hu; dsimp only)
    | intro b u hu
    | (intro u hu; dsimp only)
    | intro u hu
    | with_reducible refine linkFrame_frame _ _ _ mtwl ?_ ?_ | with_reducible refine pageLoad_frame _ _ _ mvrc mrot mtwl mmems mvmem ?_ | with_reducible refine setTwl_frame _ _ mtwl (.inr fun _ => rfl) ?_
    | split
    | dsimp only

theorem execTwinFwdFrame_frame {P : List Part} {t₀ : State} (head : TwinHead) (entries : List TwinFwd) (s : State) (mrot : Part.rot ∈ P) (mrecd : Part.recd ∈ P) (mtwl : Part.twl ∈ P) (mints : Part.ints ∈ P) (mmems : Part.mems ∈ P) (mcores : Part.cores ∈ P) (mvmem : Part.vmem ∈ P) (mheld : Part.held ∈ P) (mnoted : Part.noted ∈ P) (mlic : Part.lic ∈ P) (h₀ : SameBut P t₀ s) :
    OutFr P t₀ (execTwinFwdFrame head entries s) := by
  unfold execTwinFwdFrame
  repeat' first
    | with_reducible assumption
    | (rename_i hq; have hq2 := congrArg Prod.snd hq; with_reducible dsimp only at hq2; subst hq2)
    | simp only [↓fr_mk_iff, true_or, or_true, mrot, mrecd, mtwl, mints, mmems, mcores, mvmem, mheld, mnoted, mlic]
    | with_reducible refine fr_ite ?_ ?_
    | with_reducible refine outFr_ite ?_ ?_
    | with_reducible refine outFr_next.2 ?_
    | with_reducible refine fr_ite2 ?_ ?_
    | with_reducible refine fr_foldl ?_ (fun _ _ _ => ?_)
    | (intro b u hu; dsimp only)
    | intro b u hu
    | (intro u hu; dsimp only)
    | intro u hu
    | with_reducible refine linkFrame_frame _ _ _ mtwl ?_ ?_ | with_reducible refine fwdApply_frame _ _ mrot mrecd mtwl mints mmems mcores mvmem mheld mnoted mlic ?_
    | split
    | dsimp only

theorem execTwinCopyDone_frame {P : List Part} {t₀ : State} (dt : Nat) (s : State) (mtwl : Part.twl ∈ P) (h₀ : SameBut P t₀ (advance dt s)) :
    OutFr P t₀ (execTwinCopyDone dt s) := by
  unfold execTwinCopyDone
  repeat' first
    | with_reducible assumption
    | (rename_i hq; have hq2 := congrArg Prod.snd hq; with_reducible dsimp only at hq2; subst hq2)
    | simp only [↓fr_mk_iff, true_or, or_true, mtwl]
    | with_reducible refine fr_ite ?_ ?_
    | with_reducible refine outFr_ite ?_ ?_
    | with_reducible refine outFr_next.2 ?_
    | with_reducible refine fr_ite2 ?_ ?_
    | with_reducible refine fr_foldl ?_ (fun _ _ _ => ?_)
    | with_reducible refine setTwl_frame _ _ mtwl (.inr fun _ => rfl) ?_ | with_reducible refine sendPage_frame _ _ mtwl ?_
    | split
    | dsimp only

theorem execTwinChecksumDone_frame {P : List Part} {t₀ : State} (dt : Nat) (s : State) (mtwl : Part.twl ∈ P) (h₀ : SameBut P t₀ (advance dt s)) :
    OutFr P t₀ (execTwinChecksumDone dt s) := by
  unfold execTwinChecksumDone
  repeat' first
    | with_reducible assumption
    | (rename_i hq; have hq2 := congrArg Prod.snd hq; with_reducible dsimp only at hq2; subst hq2)
    | simp only [↓fr_mk_iff, true_or, or_true, mtwl]
    | with_reducible refine fr_ite ?_ ?_
    | with_reducible refine outFr_ite ?_ ?_
    | with_reducible refine outFr_next.2 ?_
    | with_reducible refine fr_ite2 ?_ ?_
    | with_reducible refine fr_foldl ?_ (fun _ _ _ => ?_)
    | with_reducible refine setTwl_frame _ _ mtwl (.inr fun _ => rfl) ?_ | with_reducible refine sendMarker_frame _ _ mtwl ?_ | with_reducible refine fwdDrain_frame _ _ mtwl ?_
    | split
    | dsimp only

theorem execTwinCmdJoin_frame {P : List Part} {t₀ : State} (dt : Nat) (head : TwinHead) (tick : BitVec 64) (s : State) (mtwl : Part.twl ∈ P) (h₀ : SameBut P t₀ (advance dt s)) :
    OutFr P t₀ (execTwinCmdJoin dt head tick s) := by
  unfold execTwinCmdJoin
  repeat' first
    | with_reducible assumption
    | (rename_i hq; have hq2 := congrArg Prod.snd hq; with_reducible dsimp only at hq2; subst hq2)
    | simp only [↓fr_mk_iff, true_or, or_true, mtwl]
    | with_reducible refine fr_ite ?_ ?_
    | with_reducible refine outFr_ite ?_ ?_
    | with_reducible refine outFr_next.2 ?_
    | with_reducible refine fr_ite2 ?_ ?_
    | with_reducible refine fr_foldl ?_ (fun _ _ _ => ?_)
    | (intro b u hu; dsimp only)
    | intro b u hu
    | (intro u hu; dsimp only)
    | intro u hu
    | with_reducible refine linkFrame_frame _ _ _ mtwl ?_ ?_ | with_reducible refine setTwl_frame _ _ mtwl (.inr fun _ => rfl) ?_
    | split
    | dsimp only

theorem execTwinStaterecFrame_frame {P : List Part} {t₀ : State} (dt : Nat) (head : TwinHead) (rcd : StateRec) (s : State) (mcys : Part.cys ∈ P) (mrecd : Part.recd ∈ P) (mtwl : Part.twl ∈ P) (mints : Part.ints ∈ P) (mcores : Part.cores ∈ P) (mheld : Part.held ∈ P) (mnoted : Part.noted ∈ P) (mlic : Part.lic ∈ P) (h₀ : SameBut P t₀ (advance dt s)) :
    OutFr P t₀ (execTwinStaterecFrame dt head rcd s) := by
  unfold execTwinStaterecFrame
  repeat' first
    | with_reducible assumption
    | (rename_i hq; have hq2 := congrArg Prod.snd hq; with_reducible dsimp only at hq2; subst hq2)
    | simp only [↓fr_mk_iff, true_or, or_true, mcys, mrecd, mtwl, mints, mcores, mheld, mnoted, mlic]
    | with_reducible refine fr_ite ?_ ?_
    | with_reducible refine outFr_ite ?_ ?_
    | with_reducible refine outFr_next.2 ?_
    | with_reducible refine fr_ite2 ?_ ?_
    | with_reducible refine fr_foldl ?_ (fun _ _ _ => ?_)
    | (intro b u hu; dsimp only)
    | intro b u hu
    | (intro u hu; dsimp only)
    | intro u hu
    | with_reducible refine linkFrame_frame _ _ _ mtwl ?_ ?_ | with_reducible refine joined_frame _ mcys mrecd mtwl mints mheld mnoted mlic ?_
    | split
    | dsimp only

theorem execTwinIntegRetry_frame {P : List Part} {t₀ : State} (dt : Nat) (s : State) (mtwl : Part.twl ∈ P) (h₀ : SameBut P t₀ (advance dt s)) :
    OutFr P t₀ (execTwinIntegRetry dt s) := by
  unfold execTwinIntegRetry
  repeat' first
    | with_reducible assumption
    | (rename_i hq; have hq2 := congrArg Prod.snd hq; with_reducible dsimp only at hq2; subst hq2)
    | simp only [↓fr_mk_iff, true_or, or_true, mtwl]
    | with_reducible refine fr_ite ?_ ?_
    | with_reducible refine outFr_ite ?_ ?_
    | with_reducible refine outFr_next.2 ?_
    | with_reducible refine fr_ite2 ?_ ?_
    | with_reducible refine fr_foldl ?_ (fun _ _ _ => ?_)
    | with_reducible refine integBegin_frame _ mtwl ?_ | with_reducible refine setTwl_frame _ _ mtwl (.inr fun _ => rfl) ?_
    | split
    | dsimp only

theorem execTwinPeerIntegratingTimeout_frame {P : List Part} {t₀ : State} (dt : Nat) (s : State) (mbanks : Part.banks ∈ P) (mrecd : Part.recd ∈ P) (mtwl : Part.twl ∈ P) (mints : Part.ints ∈ P) (mheld : Part.held ∈ P) (mnoted : Part.noted ∈ P) (mlic : Part.lic ∈ P) (h₀ : SameBut P t₀ (advance dt s)) :
    OutFr P t₀ (execTwinPeerIntegratingTimeout dt s) := by
  unfold execTwinPeerIntegratingTimeout
  repeat' first
    | with_reducible assumption
    | (rename_i hq; have hq2 := congrArg Prod.snd hq; with_reducible dsimp only at hq2; subst hq2)
    | simp only [↓fr_mk_iff, true_or, or_true, mbanks, mrecd, mtwl, mints, mheld, mnoted, mlic]
    | with_reducible refine fr_ite ?_ ?_
    | with_reducible refine outFr_ite ?_ ?_
    | with_reducible refine outFr_next.2 ?_
    | with_reducible refine fr_ite2 ?_ ?_
    | with_reducible refine fr_foldl ?_ (fun _ _ _ => ?_)
    | with_reducible refine twinHold_frame _ _ mbanks ?_ | with_reducible refine becomeActive_frame _ _ mrecd mtwl mints mheld mnoted mlic ?_
    | split
    | dsimp only

theorem execTwinPeerSilentTimeout_frame {P : List Part} {t₀ : State} (dt : Nat) (s : State) (mrecd : Part.recd ∈ P) (mtwl : Part.twl ∈ P) (mints : Part.ints ∈ P) (mheld : Part.held ∈ P) (mnoted : Part.noted ∈ P) (mlic : Part.lic ∈ P) (h₀ : SameBut P t₀ (advance dt s)) :
    OutFr P t₀ (execTwinPeerSilentTimeout dt s) := by
  unfold execTwinPeerSilentTimeout
  repeat' first
    | with_reducible assumption
    | (rename_i hq; have hq2 := congrArg Prod.snd hq; with_reducible dsimp only at hq2; subst hq2)
    | simp only [↓fr_mk_iff, true_or, or_true, mrecd, mtwl, mints, mheld, mnoted, mlic]
    | with_reducible refine fr_ite ?_ ?_
    | with_reducible refine outFr_ite ?_ ?_
    | with_reducible refine outFr_next.2 ?_
    | with_reducible refine fr_ite2 ?_ ?_
    | with_reducible refine fr_foldl ?_ (fun _ _ _ => ?_)
    | with_reducible refine record_frame _ _ _ _ _ _ mrecd mnoted ?_ | with_reducible refine setTwl_frame _ _ mtwl (.inl mnoted) ?_ | with_reducible refine becomeActive_frame _ _ mrecd mtwl mints mheld mnoted mlic ?_
    | split
    | dsimp only

theorem execRevertHoldExpiry_frame {P : List Part} {t₀ : State} (dt : Nat) (s : State) (mtwl : Part.twl ∈ P) (h₀ : SameBut P t₀ (advance dt s)) :
    OutFr P t₀ (execRevertHoldExpiry dt s) := by
  unfold execRevertHoldExpiry
  repeat' first
    | with_reducible assumption
    | (rename_i hq; have hq2 := congrArg Prod.snd hq; with_reducible dsimp only at hq2; subst hq2)
    | simp only [↓fr_mk_iff, true_or, or_true, mtwl]
    | with_reducible refine fr_ite ?_ ?_
    | with_reducible refine outFr_ite ?_ ?_
    | with_reducible refine outFr_next.2 ?_
    | with_reducible refine fr_ite2 ?_ ?_
    | with_reducible refine fr_foldl ?_ (fun _ _ _ => ?_)
    | with_reducible refine twinCmd_frame _ _ _ mtwl ?_
    | split
    | dsimp only

theorem execTwinFwdHoldRelease_frame {P : List Part} {t₀ : State} (dt : Nat) (s : State) (mtwl : Part.twl ∈ P) (h₀ : SameBut P t₀ (advance dt s)) :
    OutFr P t₀ (execTwinFwdHoldRelease dt s) := by
  unfold execTwinFwdHoldRelease
  repeat' first
    | with_reducible assumption
    | (rename_i hq; have hq2 := congrArg Prod.snd hq; with_reducible dsimp only at hq2; subst hq2)
    | simp only [↓fr_mk_iff, true_or, or_true, mtwl]
    | with_reducible refine fr_ite ?_ ?_
    | with_reducible refine outFr_ite ?_ ?_
    | with_reducible refine outFr_next.2 ?_
    | with_reducible refine fr_ite2 ?_ ?_
    | with_reducible refine fr_foldl ?_ (fun _ _ _ => ?_)
    | with_reducible refine setTwl_frame _ _ mtwl (.inr fun _ => rfl) ?_
    | split
    | dsimp only

theorem execTimeFrameInterval_frame {P : List Part} {t₀ : State} (dt : Nat) (s : State) (mtwl : Part.twl ∈ P) (h₀ : SameBut P t₀ (advance dt s)) :
    OutFr P t₀ (execTimeFrameInterval dt s) := by
  unfold execTimeFrameInterval
  repeat' first
    | with_reducible assumption
    | (rename_i hq; have hq2 := congrArg Prod.snd hq; with_reducible dsimp only at hq2; subst hq2)
    | simp only [↓fr_mk_iff, true_or, or_true, mtwl]
    | with_reducible refine fr_ite ?_ ?_
    | with_reducible refine outFr_ite ?_ ?_
    | with_reducible refine outFr_next.2 ?_
    | with_reducible refine fr_ite2 ?_ ?_
    | with_reducible refine fr_foldl ?_ (fun _ _ _ => ?_)
    | with_reducible refine setTwl_frame _ _ mtwl (.inr fun _ => rfl) ?_ | with_reducible refine twinSend_frame _ _ _ mtwl ?_
    | split
    | dsimp only

theorem execHealthFrameInterval_frame {P : List Part} {t₀ : State} (dt : Nat) (s : State) (mdrawn : Part.drawn ∈ P) (mtwl : Part.twl ∈ P) (h₀ : SameBut P t₀ (advance dt s)) :
    OutFr P t₀ (execHealthFrameInterval dt s) := by
  unfold execHealthFrameInterval
  repeat' first
    | with_reducible assumption
    | (rename_i hq; have hq2 := congrArg Prod.snd hq; with_reducible dsimp only at hq2; subst hq2)
    | simp only [↓fr_mk_iff, true_or, or_true, mdrawn, mtwl]
    | with_reducible refine fr_ite ?_ ?_
    | with_reducible refine outFr_ite ?_ ?_
    | with_reducible refine outFr_next.2 ?_
    | with_reducible refine fr_ite2 ?_ ?_
    | with_reducible refine fr_foldl ?_ (fun _ _ _ => ?_)
    | with_reducible refine drawWord_frame _ mdrawn ?_ | with_reducible refine twinSend_frame _ _ _ mtwl ?_
    | split
    | dsimp only

theorem execTwpPulseError_frame {P : List Part} {t₀ : State} (s : State) (mtwl : Part.twl ∈ P) (h₀ : SameBut P t₀ s) :
    OutFr P t₀ (execTwpPulseError s) := by
  unfold execTwpPulseError
  repeat' first
    | with_reducible assumption
    | (rename_i hq; have hq2 := congrArg Prod.snd hq; with_reducible dsimp only at hq2; subst hq2)
    | simp only [↓fr_mk_iff, true_or, or_true, mtwl]
    | with_reducible refine fr_ite ?_ ?_
    | with_reducible refine outFr_ite ?_ ?_
    | with_reducible refine outFr_next.2 ?_
    | with_reducible refine fr_ite2 ?_ ?_
    | with_reducible refine fr_foldl ?_ (fun _ _ _ => ?_)
    | with_reducible refine setTwl_frame _ _ mtwl (.inr fun _ => rfl) ?_
    | split
    | dsimp only

theorem execStandbyImageStage_frame {P : List Part} {t₀ : State} (head : TwinHead) (image : List (BitVec 8)) (s : State) (mrot : Part.rot ∈ P) (mcys : Part.cys ∈ P) (mrecd : Part.recd ∈ P) (mtwl : Part.twl ∈ P) (mmems : Part.mems ∈ P) (mnoted : Part.noted ∈ P) (h₀ : SameBut P t₀ s) :
    OutFr P t₀ (execStandbyImageStage head image s) := by
  unfold execStandbyImageStage
  repeat' first
    | with_reducible assumption
    | (rename_i hq; have hq2 := congrArg Prod.snd hq; with_reducible dsimp only at hq2; subst hq2)
    | simp only [↓fr_mk_iff, true_or, or_true, mrot, mcys, mrecd, mtwl, mmems, mnoted]
    | with_reducible refine fr_ite ?_ ?_
    | with_reducible refine outFr_ite ?_ ?_
    | with_reducible refine outFr_next.2 ?_
    | with_reducible refine fr_ite2 ?_ ?_
    | with_reducible refine fr_foldl ?_ (fun _ _ _ => ?_)
    | (intro b u hu; dsimp only)
    | intro b u hu
    | (intro u hu; dsimp only)
    | intro u hu
    | with_reducible refine linkFrame_frame _ _ _ mtwl ?_ ?_ | with_reducible refine standbyStage_frame _ _ mrot mcys mrecd mmems mnoted ?_
    | split
    | dsimp only

theorem moveGrid_frame {P : List Part} {t₀ : State} (s : State) (mcys : Part.cys ∈ P) (mtwl : Part.twl ∈ P) (h₀ : SameBut P t₀ s) :
    SameBut P t₀ (moveGrid s).2 := by
  unfold moveGrid
  repeat' first
    | with_reducible assumption
    | (rename_i hq; have hq2 := congrArg Prod.snd hq; with_reducible dsimp only at hq2; subst hq2)
    | simp only [↓fr_mk_iff, true_or, or_true, mcys, mtwl]
    | with_reducible refine fr_ite ?_ ?_
    | with_reducible refine outFr_ite ?_ ?_
    | with_reducible refine outFr_next.2 ?_
    | with_reducible refine fr_ite2 ?_ ?_
    | with_reducible refine fr_foldl ?_ (fun _ _ _ => ?_)
    | split
    | dsimp only

theorem execQuietGapStart_frame {P : List Part} {t₀ : State} (dt : Nat) (s : State) (mdrawn : Part.drawn ∈ P) (mmod : Part.mod ∈ P) (mvrc : Part.vrc ∈ P) (mrot : Part.rot ∈ P) (mcys : Part.cys ∈ P) (mrecd : Part.recd ∈ P) (mtwl : Part.twl ∈ P) (mbw : Part.bw ∈ P) (mints : Part.ints ∈ P) (mmems : Part.mems ∈ P) (mcores : Part.cores ∈ P) (mheld : Part.held ∈ P) (mnoted : Part.noted ∈ P) (mlic : Part.lic ∈ P) (h₀ : SameBut P t₀ (advance dt s)) :
    OutFr P t₀ (execQuietGapStart dt s) := by
  unfold execQuietGapStart
  repeat' first
    | with_reducible assumption
    | (rename_i hq; have hq2 := congrArg Prod.snd hq; with_reducible dsimp only at hq2; subst hq2)
    | simp only [↓fr_mk_iff, true_or, or_true, mdrawn, mmod, mvrc, mrot, mcys, mrecd, mtwl, mbw, mints, mmems, mcores, mheld, mnoted, mlic]
    | with_reducible refine fr_ite ?_ ?_
    | with_reducible refine outFr_ite ?_ ?_
    | with_reducible refine outFr_next.2 ?_
    | with_reducible refine fr_ite2 ?_ ?_
    | with_reducible refine fr_foldl ?_ (fun _ _ _ => ?_)
    | with_reducible refine moveGrid_frame _ mcys mtwl ?_ | with_reducible refine twinCmd_frame _ _ _ mtwl ?_ | with_reducible refine setTwl_frame _ _ mtwl (.inl mnoted) ?_ | with_reducible refine rewedgeDecide_frame _ _ mmod mvrc mrot mrecd mbw mints mmems mcores mheld mnoted mlic ?_ | with_reducible refine joinTry_frame _ mdrawn mrecd mtwl mints mheld mnoted mlic ?_
    | split
    | dsimp only

theorem kilnSend_frame {P : List Part} {t₀ : State} (vid : Nat) (f : List Byte) (s : State) (mrecd : Part.recd ∈ P) (mlnc : Part.lnc ∈ P) (mnoted : Part.noted ∈ P) (h₀ : SameBut P t₀ s) :
    SameBut P t₀ (kilnSend vid f s) := by
  unfold kilnSend
  repeat' first
    | with_reducible assumption
    | (rename_i hq; have hq2 := congrArg Prod.snd hq; with_reducible dsimp only at hq2; subst hq2)
    | simp only [↓fr_mk_iff, true_or, or_true, mrecd, mlnc, mnoted]
    | with_reducible refine fr_ite ?_ ?_
    | with_reducible refine outFr_ite ?_ ?_
    | with_reducible refine outFr_next.2 ?_
    | with_reducible refine fr_ite2 ?_ ?_
    | with_reducible refine fr_foldl ?_ (fun _ _ _ => ?_)
    | with_reducible refine setLnc_frame _ _ mlnc ?_ | with_reducible refine forwardTo_frame _ _ _ _ _ _ _ _ mrecd mlnc mnoted ?_
    | split
    | dsimp only

theorem setCpn_frame {P : List Part} {t₀ : State} (f : Cpn → Cpn) (s : State) (mcpn : Part.cpn ∈ P) (h₀ : SameBut P t₀ s) :
    SameBut P t₀ (setCpn f s) := by
  unfold setCpn
  repeat' first
    | with_reducible assumption
    | (rename_i hq; have hq2 := congrArg Prod.snd hq; with_reducible dsimp only at hq2; subst hq2)
    | simp only [↓fr_mk_iff, true_or, or_true, mcpn]
    | with_reducible refine fr_ite ?_ ?_
    | with_reducible refine outFr_ite ?_ ?_
    | with_reducible refine outFr_next.2 ?_
    | with_reducible refine fr_ite2 ?_ ?_
    | with_reducible refine fr_foldl ?_ (fun _ _ _ => ?_)
    | split
    | dsimp only

theorem cpnAccept_frame {P : List Part} {t₀ : State} (lan : Fin 2) (f : List Byte) (s : State) (mcpn : Part.cpn ∈ P) (mvmem : Part.vmem ∈ P) (h₀ : SameBut P t₀ s) :
    SameBut P t₀ (cpnAccept lan f s) := by
  unfold cpnAccept
  repeat' first
    | with_reducible assumption
    | (rename_i hq; have hq2 := congrArg Prod.snd hq; with_reducible dsimp only at hq2; subst hq2)
    | simp only [↓fr_mk_iff, true_or, or_true, mcpn, mvmem]
    | with_reducible refine fr_ite ?_ ?_
    | with_reducible refine outFr_ite ?_ ?_
    | with_reducible refine outFr_next.2 ?_
    | with_reducible refine fr_ite2 ?_ ?_
    | with_reducible refine fr_foldl ?_ (fun _ _ _ => ?_)
    | with_reducible refine setCpn_frame _ _ mcpn ?_
    | split
    | dsimp only

theorem lanHeard_frame {P : List Part} {t₀ : State} (lan : Fin 2) (s : State) (mcpn : Part.cpn ∈ P) (h₀ : SameBut P t₀ s) :
    SameBut P t₀ (lanHeard lan s) := by
  unfold lanHeard
  repeat' first
    | with_reducible assumption
    | (rename_i hq; have hq2 := congrArg Prod.snd hq; with_reducible dsimp only at hq2; subst hq2)
    | simp only [↓fr_mk_iff, true_or, or_true, mcpn]
    | with_reducible refine fr_ite ?_ ?_
    | with_reducible refine outFr_ite ?_ ?_
    | with_reducible refine outFr_next.2 ?_
    | with_reducible refine fr_ite2 ?_ ?_
    | with_reducible refine fr_foldl ?_ (fun _ _ _ => ?_)
    | with_reducible refine setCpn_frame _ _ mcpn ?_
    | split
    | dsimp only

theorem execSwitchFrameReceived_frame {P : List Part} {t₀ : State} (dt : Nat) (port : Fin 3) (frame : EthFrame) (s : State) (mrecd : Part.recd ∈ P) (mlnc : Part.lnc ∈ P) (mnoted : Part.noted ∈ P) (h₀ : SameBut P t₀ (advance dt s)) :
    OutFr P t₀ (execSwitchFrameReceived dt port frame s) := by
  unfold execSwitchFrameReceived
  repeat' first
    | with_reducible assumption
    | (rename_i hq; have hq2 := congrArg Prod.snd hq; with_reducible dsimp only at hq2; subst hq2)
    | simp only [↓fr_mk_iff, true_or, or_true, mrecd, mlnc, mnoted]
    | with_reducible refine fr_ite ?_ ?_
    | with_reducible refine outFr_ite ?_ ?_
    | with_reducible refine outFr_next.2 ?_
    | with_reducible refine fr_ite2 ?_ ?_
    | with_reducible refine fr_foldl ?_ (fun _ _ _ => ?_)
    | with_reducible refine setLnc_frame _ _ mlnc ?_ | with_reducible refine forwardTo_frame _ _ _ _ _ _ _ _ mrecd mlnc mnoted ?_
    | split
    | dsimp only

theorem execMacAddressAgeing_frame {P : List Part} {t₀ : State} (dt : Nat) (vid : BitVec 12) (mac : BitVec 48) (s : State) (mlnc : Part.lnc ∈ P) (h₀ : SameBut P t₀ (advance dt s)) :
    OutFr P t₀ (execMacAddressAgeing dt vid mac s) := by
  unfold execMacAddressAgeing
  repeat' first
    | with_reducible assumption
    | (rename_i hq; have hq2 := congrArg Prod.snd hq; with_reducible dsimp only at hq2; subst hq2)
    | simp only [↓fr_mk_iff, true_or, or_true, mlnc]
    | with_reducible refine fr_ite ?_ ?_
    | with_reducible refine outFr_ite ?_ ?_
    | with_reducible refine outFr_next.2 ?_
    | with_reducible refine fr_ite2 ?_ ?_
    | with_reducible refine fr_foldl ?_ (fun _ _ _ => ?_)
    | with_reducible refine setLnc_frame _ _ mlnc ?_
    | split
    | dsimp only

theorem execInternalPortReceive_frame {P : List Part} {t₀ : State} (dt : Nat) (port : Fin 2) (frame : EthFrame) (s : State) (mrecd : Part.recd ∈ P) (mtwl : Part.twl ∈ P) (mlnc : Part.lnc ∈ P) (mnoted : Part.noted ∈ P) (h₀ : SameBut P t₀ (advance dt s)) :
    OutFr P t₀ (execInternalPortReceive dt port frame s) := by
  unfold execInternalPortReceive
  repeat' first
    | with_reducible assumption
    | (rename_i hq; have hq2 := congrArg Prod.snd hq; with_reducible dsimp only at hq2; subst hq2)
    | simp only [↓fr_mk_iff, true_or, or_true, mrecd, mtwl, mlnc, mnoted]
    | with_reducible refine fr_ite ?_ ?_
    | with_reducible refine outFr_ite ?_ ?_
    | with_reducible refine outFr_next.2 ?_
    | with_reducible refine fr_ite2 ?_ ?_
    | with_reducible refine fr_foldl ?_ (fun _ _ _ => ?_)
    | with_reducible refine kilnSend_frame _ _ _ mrecd mlnc mnoted ?_ | with_reducible refine laneFrame_frame _ _ _ _ _ _ _ mlnc ?_ | with_reducible refine sendRx_frame _ _ _ _ mtwl ?_
    | split
    | dsimp only

theorem execReceiveSlotWrite_frame {P : List Part} {t₀ : State} (dt : Nat) (slot : Fin 16) (s : State) (mvrc : Part.vrc ∈ P) (mtwl : Part.twl ∈ P) (mlnc : Part.lnc ∈ P) (mints : Part.ints ∈ P) (mvmem : Part.vmem ∈ P) (mheld : Part.held ∈ P) (mlic : Part.lic ∈ P) (h₀ : SameBut P t₀ (advance dt s)) :
    OutFr P t₀ (execReceiveSlotWrite dt slot s) := by
  unfold execReceiveSlotWrite
  repeat' first
    | with_reducible assumption
    | (rename_i hq; have hq2 := congrArg Prod.snd hq; with_reducible dsimp only at hq2; subst hq2)
    | simp only [↓fr_mk_iff, true_or, or_true, mvrc, mtwl, mlnc, mints, mvmem, mheld, mlic]
    | with_reducible refine fr_ite ?_ ?_
    | with_reducible refine outFr_ite ?_ ?_
    | with_reducible refine outFr_next.2 ?_
    | with_reducible refine fr_ite2 ?_ ?_
    | with_reducible refine fr_foldl ?_ (fun _ _ _ => ?_)
    | with_reducible refine slotWrite_frame _ _ mvrc mtwl mlnc mints mvmem mheld mlic ?_ | with_reducible refine setLnc_frame _ _ mlnc ?_
    | split
    | dsimp only

theorem execLinkChange_frame {P : List Part} {t₀ : State} (dt : Nat) (port : Fin 4) (spd : Fin 3) (s : State) (mclk : Part.clk ∈ P) (mtim : Part.tim ∈ P) (mrecd : Part.recd ∈ P) (mlnc : Part.lnc ∈ P) (mcpn : Part.cpn ∈ P) (mints : Part.ints ∈ P) (mheld : Part.held ∈ P) (mnoted : Part.noted ∈ P) (mlic : Part.lic ∈ P) (h₀ : SameBut P t₀ (advance dt s)) :
    OutFr P t₀ (execLinkChange dt port spd s) := by
  unfold execLinkChange
  repeat' first
    | with_reducible assumption
    | (rename_i hq; have hq2 := congrArg Prod.snd hq; with_reducible dsimp only at hq2; subst hq2)
    | simp only [↓fr_mk_iff, true_or, or_true, mclk, mtim, mrecd, mlnc, mcpn, mints, mheld, mnoted, mlic]
    | with_reducible refine fr_ite ?_ ?_
    | with_reducible refine outFr_ite ?_ ?_
    | with_reducible refine outFr_next.2 ?_
    | with_reducible refine fr_ite2 ?_ ?_
    | with_reducible refine fr_foldl ?_ (fun _ _ _ => ?_)
    | with_reducible refine linkSet_frame _ _ _ mclk mtim mrecd mlnc mcpn mints mheld mnoted mlic ?_
    | split
    | dsimp only

theorem execPrpFrameReceived_frame {P : List Part} {t₀ : State} (dt : Nat) (lan : Fin 2) (frame : PrpFrame) (s : State) (mcpn : Part.cpn ∈ P) (mvmem : Part.vmem ∈ P) (h₀ : SameBut P t₀ (advance dt s)) :
    OutFr P t₀ (execPrpFrameReceived dt lan frame s) := by
  unfold execPrpFrameReceived
  repeat' first
    | with_reducible assumption
    | (rename_i hq; have hq2 := congrArg Prod.snd hq; with_reducible dsimp only at hq2; subst hq2)
    | simp only [↓fr_mk_iff, true_or, or_true, mcpn, mvmem]
    | with_reducible refine fr_ite ?_ ?_
    | with_reducible refine outFr_ite ?_ ?_
    | with_reducible refine outFr_next.2 ?_
    | with_reducible refine fr_ite2 ?_ ?_
    | with_reducible refine fr_foldl ?_ (fun _ _ _ => ?_)
    | with_reducible refine lanHeard_frame _ _ mcpn ?_ | with_reducible refine cpnAccept_frame _ _ _ mcpn mvmem ?_ | with_reducible refine setCpn_frame _ _ mcpn ?_
    | split
    | dsimp only

theorem execPrpSupervisionInterval_frame {P : List Part} {t₀ : State} (dt : Nat) (s : State) (mcpn : Part.cpn ∈ P) (h₀ : SameBut P t₀ (advance dt s)) :
    OutFr P t₀ (execPrpSupervisionInterval dt s) := by
  unfold execPrpSupervisionInterval
  repeat' first
    | with_reducible assumption
    | (rename_i hq; have hq2 := congrArg Prod.snd hq; with_reducible dsimp only at hq2; subst hq2)
    | simp only [↓fr_mk_iff, true_or, or_true, mcpn]
    | with_reducible refine fr_ite ?_ ?_
    | with_reducible refine outFr_ite ?_ ?_
    | with_reducible refine outFr_next.2 ?_
    | with_reducible refine fr_ite2 ?_ ?_
    | with_reducible refine fr_foldl ?_ (fun _ _ _ => ?_)
    | with_reducible refine setCpn_frame _ _ mcpn ?_
    | split
    | dsimp only

theorem execPrpLanFail_frame {P : List Part} {t₀ : State} (dt : Nat) (lan : Fin 2) (s : State) (mrecd : Part.recd ∈ P) (mcpn : Part.cpn ∈ P) (mnoted : Part.noted ∈ P) (h₀ : SameBut P t₀ (advance dt s)) :
    OutFr P t₀ (execPrpLanFail dt lan s) := by
  unfold execPrpLanFail
  repeat' first
    | with_reducible assumption
    | (rename_i hq; have hq2 := congrArg Prod.snd hq; with_reducible dsimp only at hq2; subst hq2)
    | simp only [↓fr_mk_iff, true_or, or_true, mrecd, mcpn, mnoted]
    | with_reducible refine fr_ite ?_ ?_
    | with_reducible refine outFr_ite ?_ ?_
    | with_reducible refine outFr_next.2 ?_
    | with_reducible refine fr_ite2 ?_ ?_
    | with_reducible refine fr_foldl ?_ (fun _ _ _ => ?_)
    | with_reducible refine record_frame _ _ _ _ _ _ mrecd mnoted ?_ | with_reducible refine setCpn_frame _ _ mcpn ?_
    | split
    | dsimp only

theorem setFwBank_frame {P : List Part} {t₀ : State} (b : Fin 3) (f : FwBank → FwBank) (s : State) (mbanks : Part.banks ∈ P) (mboot : Part.boot ∈ P) (h₀ : SameBut P t₀ s) :
    SameBut P t₀ (setFwBank b f s) := by
  unfold setFwBank
  repeat' first
    | with_reducible assumption
    | (rename_i hq; have hq2 := congrArg Prod.snd hq; with_reducible dsimp only at hq2; subst hq2)
    | simp only [↓fr_mk_iff, true_or, or_true, mbanks, mboot]
    | with_reducible refine fr_ite ?_ ?_
    | with_reducible refine outFr_ite ?_ ?_
    | with_reducible refine outFr_next.2 ?_
    | with_reducible refine fr_ite2 ?_ ?_
    | with_reducible refine fr_foldl ?_ (fun _ _ _ => ?_)
    | with_reducible refine setBoot_frame _ _ mboot ?_
    | split
    | dsimp only

theorem bankBad_frame {P : List Part} {t₀ : State} (b : Fin 3) (cause : Nat) (rest : List (Fin 3)) (s : State) (mbanks : Part.banks ∈ P) (mrecd : Part.recd ∈ P) (mboot : Part.boot ∈ P) (mnoted : Part.noted ∈ P) (h₀ : SameBut P t₀ s) :
    SameBut P t₀ (bankBad b cause rest s) := by
  unfold bankBad
  repeat' first
    | with_reducible assumption
    | (rename_i hq; have hq2 := congrArg Prod.snd hq; with_reducible dsimp only at hq2; subst hq2)
    | simp only [↓fr_mk_iff, true_or, or_true, mbanks, mrecd, mboot, mnoted]
    | with_reducible refine fr_ite ?_ ?_
    | with_reducible refine outFr_ite ?_ ?_
    | with_reducible refine outFr_next.2 ?_
    | with_reducible refine fr_ite2 ?_ ?_
    | with_reducible refine fr_foldl ?_ (fun _ _ _ => ?_)
    | with_reducible refine record_frame _ _ _ _ _ _ mrecd mnoted ?_ | with_reducible refine setBoot_frame _ _ mboot ?_ | with_reducible refine setFwBank_frame _ _ _ mbanks mboot ?_
    | split
    | dsimp only

theorem bankBoot_frame {P : List Part} {t₀ : State} (b : Fin 3) (s : State) (mmod : Part.mod ∈ P) (mbanks : Part.banks ∈ P) (mrecd : Part.recd ∈ P) (mboot : Part.boot ∈ P) (mnoted : Part.noted ∈ P) (h₀ : SameBut P t₀ s) :
    SameBut P t₀ (bankBoot b s) := by
  unfold bankBoot
  repeat' first
    | with_reducible assumption
    | (rename_i hq; have hq2 := congrArg Prod.snd hq; with_reducible dsimp only at hq2; subst hq2)
    | simp only [↓fr_mk_iff, true_or, or_true, mmod, mbanks, mrecd, mboot, mnoted]
    | with_reducible refine fr_ite ?_ ?_
    | with_reducible refine outFr_ite ?_ ?_
    | with_reducible refine outFr_next.2 ?_
    | with_reducible refine fr_ite2 ?_ ?_
    | with_reducible refine fr_foldl ?_ (fun _ _ _ => ?_)
    | with_reducible refine setFwBank_frame _ _ _ mbanks mboot ?_ | with_reducible refine record_frame _ _ _ _ _ _ mrecd mnoted ?_ | with_reducible refine setBoot_frame _ _ mboot ?_
    | split
    | dsimp only

theorem bootTry_frame {P : List Part} {t₀ : State} (ls : List (Fin 3)) (s : State) (mmod : Part.mod ∈ P) (mbanks : Part.banks ∈ P) (mrecd : Part.recd ∈ P) (mboot : Part.boot ∈ P) (mnoted : Part.noted ∈ P)
    (h₀ : SameBut P t₀ s) : SameBut P t₀ (bootTry ls s) := by
  induction ls generalizing s with
  | nil => unfold bootTry; exact h₀
  | cons b rest ih =>
    unfold bootTry
    split
    · exact ih _ h₀
    · split
      · exact ih _ (bankBad_frame _ _ _ _ mbanks mrecd mboot mnoted h₀)
      · exact bankBoot_frame _ _ mmod mbanks mrecd mboot mnoted h₀

theorem trialWatchdog_frame {P : List Part} {t₀ : State} (s : State) (mbanks : Part.banks ∈ P) (mrecd : Part.recd ∈ P) (mboot : Part.boot ∈ P) (mnoted : Part.noted ∈ P) (h₀ : SameBut P t₀ s) :
    SameBut P t₀ (trialWatchdog s) := by
  unfold trialWatchdog
  repeat' first
    | with_reducible assumption
    | (rename_i hq; have hq2 := congrArg Prod.snd hq; with_reducible dsimp only at hq2; subst hq2)
    | simp only [↓fr_mk_iff, true_or, or_true, mbanks, mrecd, mboot, mnoted]
    | with_reducible refine fr_ite ?_ ?_
    | with_reducible refine outFr_ite ?_ ?_
    | with_reducible refine outFr_next.2 ?_
    | with_reducible refine fr_ite2 ?_ ?_
    | with_reducible refine fr_foldl ?_ (fun _ _ _ => ?_)
    | with_reducible refine setBoot_frame _ _ mboot ?_ | with_reducible refine bankBad_frame _ _ _ _ mbanks mrecd mboot mnoted ?_
    | split
    | dsimp only

theorem judgeRetained_frame {P : List Part} {t₀ : State} (good : Bool) (s : State) (mpwr : Part.pwr ∈ P) (mrot : Part.rot ∈ P) (mclk : Part.clk ∈ P) (mtim : Part.tim ∈ P) (mrecd : Part.recd ∈ P) (mkiln : Part.kiln ∈ P) (mnoted : Part.noted ∈ P) (h₀ : SameBut P t₀ s) :
    SameBut P t₀ (judgeRetained good s) := by
  unfold judgeRetained
  repeat' first
    | with_reducible assumption
    | (rename_i hq; have hq2 := congrArg Prod.snd hq; with_reducible dsimp only at hq2; subst hq2)
    | simp only [↓fr_mk_iff, true_or, or_true, mpwr, mrot, mclk, mtim, mrecd, mkiln, mnoted]
    | with_reducible refine fr_ite ?_ ?_
    | with_reducible refine outFr_ite ?_ ?_
    | with_reducible refine outFr_next.2 ?_
    | with_reducible refine fr_ite2 ?_ ?_
    | with_reducible refine fr_foldl ?_ (fun _ _ _ => ?_)
    | with_reducible refine setPwr_frame _ _ mpwr ?_ | with_reducible refine kilnCountsLost_frame _ mpwr mrot mclk mtim mkiln ?_ | with_reducible refine record_frame _ _ _ _ _ _ mrecd mnoted ?_ | with_reducible refine setKiln_frame _ _ mkiln ?_
    | split
    | dsimp only

theorem fireService_frame {P : List Part} {t₀ : State} (cause : Nat) (s : State) (mmod : Part.mod ∈ P) (mvrc : Part.vrc ∈ P) (mrot : Part.rot ∈ P) (mcys : Part.cys ∈ P) (mbanks : Part.banks ∈ P) (mchans : Part.chans ∈ P) (mxn : Part.xn ∈ P) (mrecd : Part.recd ∈ P) (mboot : Part.boot ∈ P) (mkiln : Part.kiln ∈ P) (mtwl : Part.twl ∈ P) (mints : Part.ints ∈ P) (mheld : Part.held ∈ P) (mnoted : Part.noted ∈ P) (mlic : Part.lic ∈ P) (h₀ : SameBut P t₀ s) :
    SameBut P t₀ (fireService cause s) := by
  unfold fireService
  repeat' first
    | with_reducible assumption
    | (rename_i hq; have hq2 := congrArg Prod.snd hq; with_reducible dsimp only at hq2; subst hq2)
    | simp only [↓fr_mk_iff, true_or, or_true, mmod, mvrc, mrot, mcys, mbanks, mchans, mxn, mrecd, mboot, mkiln, mtwl, mints, mheld, mnoted, mlic]
    | with_reducible refine fr_ite ?_ ?_
    | with_reducible refine outFr_ite ?_ ?_
    | with_reducible refine outFr_next.2 ?_
    | with_reducible refine fr_ite2 ?_ ?_
    | with_reducible refine fr_foldl ?_ (fun _ _ _ => ?_)
    | with_reducible refine enterService_frame _ _ mmod mvrc mrot mcys mbanks mchans mxn mrecd mkiln mtwl mints mheld mnoted mlic ?_ | with_reducible refine twinHold_frame _ _ mbanks ?_ | with_reducible refine twinRole_frame _ _ _ mrecd mtwl mints mheld mnoted mlic ?_ | with_reducible refine setBoot_frame _ _ mboot ?_
    | split
    | dsimp only

theorem takeSet_frame {P : List Part} {t₀ : State} (pfv : Nat) (ps : List ((Nat × Nat) × Nat)) (s : State) (mxn : Part.xn ∈ P) (mkiln : Part.kiln ∈ P) (h₀ : SameBut P t₀ s) :
    SameBut P t₀ (takeSet pfv ps s) := by
  unfold takeSet
  repeat' first
    | with_reducible assumption
    | (rename_i hq; have hq2 := congrArg Prod.snd hq; with_reducible dsimp only at hq2; subst hq2)
    | simp only [↓fr_mk_iff, true_or, or_true, mxn, mkiln]
    | with_reducible refine fr_ite ?_ ?_
    | with_reducible refine outFr_ite ?_ ?_
    | with_reducible refine outFr_next.2 ?_
    | with_reducible refine fr_ite2 ?_ ?_
    | with_reducible refine fr_foldl ?_ (fun _ _ _ => ?_)
    | with_reducible refine setXn_frame _ _ mxn ?_ | with_reducible refine setKiln_frame _ _ mkiln ?_
    | split
    | dsimp only

theorem paramLost_frame {P : List Part} {t₀ : State} (p : Nat × Nat) (s : State) (mxn : Part.xn ∈ P) (mrecd : Part.recd ∈ P) (mkiln : Part.kiln ∈ P) (mnoted : Part.noted ∈ P) (h₀ : SameBut P t₀ s) :
    SameBut P t₀ (paramLost p s) := by
  unfold paramLost
  repeat' first
    | with_reducible assumption
    | (rename_i hq; have hq2 := congrArg Prod.snd hq; with_reducible dsimp only at hq2; subst hq2)
    | simp only [↓fr_mk_iff, true_or, or_true, mxn, mrecd, mkiln, mnoted]
    | with_reducible refine fr_ite ?_ ?_
    | with_reducible refine outFr_ite ?_ ?_
    | with_reducible refine outFr_next.2 ?_
    | with_reducible refine fr_ite2 ?_ ?_
    | with_reducible refine fr_foldl ?_ (fun _ _ _ => ?_)
    | with_reducible refine record_frame _ _ _ _ _ _ mrecd mnoted ?_ | with_reducible refine setXn_frame _ _ mxn ?_ | with_reducible refine setKiln_frame _ _ mkiln ?_
    | split
    | dsimp only

theorem formatReset_frame {P : List Part} {t₀ : State} (old new : Nat) (s : State) (mxn : Part.xn ∈ P) (mrecd : Part.recd ∈ P) (mkiln : Part.kiln ∈ P) (mnoted : Part.noted ∈ P) (h₀ : SameBut P t₀ s) :
    SameBut P t₀ (compareFormat.formatReset old new s) := by
  unfold compareFormat.formatReset
  exact record_frame _ _ _ _ _ _ mrecd mnoted (takeSet_frame _ _ _ mxn mkiln (setKiln_frame _ _ mkiln h₀))

theorem compareFormat_frame {P : List Part} {t₀ : State} (s : State) (mxn : Part.xn ∈ P) (mrecd : Part.recd ∈ P) (mkiln : Part.kiln ∈ P) (mnoted : Part.noted ∈ P) (h₀ : SameBut P t₀ s) :
    SameBut P t₀ (compareFormat s) := by
  unfold compareFormat
  dsimp only
  refine fr_ite h₀ ?_
  split
  · exact fr_ite (record_frame _ _ _ _ _ _ mrecd mnoted (setKiln_frame _ _ mkiln (takeSet_frame _ _ _ mxn mkiln h₀))) (formatReset_frame _ _ _ mxn mrecd mkiln mnoted h₀)
  · exact formatReset_frame _ _ _ mxn mrecd mkiln mnoted h₀

theorem loadPrivileged_frame {P : List Part} {t₀ : State} (s : State) (mrecd : Part.recd ∈ P) (h₀ : SameBut P t₀ s) :
    SameBut P t₀ (loadPrivileged s) := by
  unfold loadPrivileged
  repeat' first
    | with_reducible assumption
    | (rename_i hq; have hq2 := congrArg Prod.snd hq; with_reducible dsimp only at hq2; subst hq2)
    | simp only [↓fr_mk_iff, true_or, or_true, mrecd]
    | with_reducible refine fr_ite ?_ ?_
    | with_reducible refine outFr_ite ?_ ?_
    | with_reducible refine outFr_next.2 ?_
    | with_reducible refine fr_ite2 ?_ ?_
    | with_reducible refine fr_foldl ?_ (fun _ _ _ => ?_)
    | split
    | dsimp only

theorem bankConfigure_frame {P : List Part} {t₀ : State} (b : Fin 3) (s : State) (mbanks : Part.banks ∈ P) (mchans : Part.chans ∈ P) (mrecd : Part.recd ∈ P) (mints : Part.ints ∈ P) (mheld : Part.held ∈ P) (mnoted : Part.noted ∈ P) (mlic : Part.lic ∈ P) (h₀ : SameBut P t₀ s) :
    SameBut P t₀ (bankConfigure b s) := by
  unfold bankConfigure
  repeat' first
    | with_reducible assumption
    | (rename_i hq; have hq2 := congrArg Prod.snd hq; with_reducible dsimp only at hq2; subst hq2)
    | simp only [↓fr_mk_iff, true_or, or_true, mbanks, mchans, mrecd, mints, mheld, mnoted, mlic]
    | with_reducible refine fr_ite ?_ ?_
    | with_reducible refine outFr_ite ?_ ?_
    | with_reducible refine outFr_next.2 ?_
    | with_reducible refine fr_ite2 ?_ ?_
    | with_reducible refine fr_foldl ?_ (fun _ _ _ => ?_)
    | with_reducible refine setBank_frame _ _ _ mbanks ?_ | with_reducible refine setChan_frame _ _ _ mchans ?_ | with_reducible refine applySafe_frame _ _ _ _ mchans mrecd mints mheld mnoted mlic ?_
    | split
    | dsimp only

theorem loadNets_frame {P : List Part} {t₀ : State} (s : State) (mchans : Part.chans ∈ P) (mlnc : Part.lnc ∈ P) (mcpn : Part.cpn ∈ P) (mcfd : Part.cfd ∈ P) (h₀ : SameBut P t₀ s) :
    SameBut P t₀ (loadNets s) := by
  unfold loadNets
  repeat' first
    | with_reducible assumption
    | (rename_i hq; have hq2 := congrArg Prod.snd hq; with_reducible dsimp only at hq2; subst hq2)
    | simp only [↓fr_mk_iff, true_or, or_true, mchans, mlnc, mcpn, mcfd]
    | with_reducible refine fr_ite ?_ ?_
    | with_reducible refine outFr_ite ?_ ?_
    | with_reducible refine outFr_next.2 ?_
    | with_reducible refine fr_ite2 ?_ ?_
    | with_reducible refine fr_foldl ?_ (fun _ _ _ => ?_)
    | split
    | dsimp only

theorem domainsOn_frame {P : List Part} {t₀ : State} (ds : BitVec 12) (s : State) (mpwr : Part.pwr ∈ P) (mclk : Part.clk ∈ P) (mbanks : Part.banks ∈ P) (h₀ : SameBut P t₀ s) :
    SameBut P t₀ (domainsOn ds s) := by
  unfold domainsOn
  repeat' first
    | with_reducible assumption
    | (rename_i hq; have hq2 := congrArg Prod.snd hq; with_reducible dsimp only at hq2; subst hq2)
    | simp only [↓fr_mk_iff, true_or, or_true, mpwr, mclk, mbanks]
    | with_reducible refine fr_ite ?_ ?_
    | with_reducible refine outFr_ite ?_ ?_
    | with_reducible refine outFr_next.2 ?_
    | with_reducible refine fr_ite2 ?_ ?_
    | with_reducible refine fr_foldl ?_ (fun _ _ _ => ?_)
    | with_reducible refine setPwr_frame _ _ mpwr ?_ | with_reducible refine domainRamp_frame _ mclk ?_
    | split
    | dsimp only

theorem loadClocks_frame {P : List Part} {t₀ : State} (s : State) (mclk : Part.clk ∈ P) (mtim : Part.tim ∈ P) (h₀ : SameBut P t₀ s) :
    SameBut P t₀ (loadClocks s) := by
  unfold loadClocks
  repeat' first
    | with_reducible assumption
    | (rename_i hq; have hq2 := congrArg Prod.snd hq; with_reducible dsimp only at hq2; subst hq2)
    | simp only [↓fr_mk_iff, true_or, or_true, mclk, mtim]
    | with_reducible refine fr_ite ?_ ?_
    | with_reducible refine outFr_ite ?_ ?_
    | with_reducible refine outFr_next.2 ?_
    | with_reducible refine fr_ite2 ?_ ?_
    | with_reducible refine fr_foldl ?_ (fun _ _ _ => ?_)
    | split
    | dsimp only

theorem loadBlocks_frame {P : List Part} {t₀ : State} (s : State) (mpwr : Part.pwr ∈ P) (mvrc : Part.vrc ∈ P) (mrot : Part.rot ∈ P) (mclk : Part.clk ∈ P) (mtim : Part.tim ∈ P) (mbanks : Part.banks ∈ P) (mchans : Part.chans ∈ P) (mxn : Part.xn ∈ P) (mrecd : Part.recd ∈ P) (mtwl : Part.twl ∈ P) (mlnc : Part.lnc ∈ P) (mcpn : Part.cpn ∈ P) (mcfd : Part.cfd ∈ P) (mbrg : Part.brg ∈ P) (mints : Part.ints ∈ P) (mheld : Part.held ∈ P) (mnoted : Part.noted ∈ P) (mlic : Part.lic ∈ P) (h₀ : SameBut P t₀ s) :
    SameBut P t₀ (loadBlocks s) := by
  unfold loadBlocks
  repeat' first
    | with_reducible assumption
    | (rename_i hq; have hq2 := congrArg Prod.snd hq; with_reducible dsimp only at hq2; subst hq2)
    | simp only [↓fr_mk_iff, true_or, or_true, mpwr, mvrc, mrot, mclk, mtim, mbanks, mchans, mxn, mrecd, mtwl, mlnc, mcpn, mcfd, mbrg, mints, mheld, mnoted, mlic]
    | with_reducible refine fr_ite ?_ ?_
    | with_reducible refine outFr_ite ?_ ?_
    | with_reducible refine outFr_next.2 ?_
    | with_reducible refine fr_ite2 ?_ ?_
    | with_reducible refine fr_foldl ?_ (fun _ _ _ => ?_)
    | with_reducible refine loadPrivileged_frame _ mrecd ?_ | with_reducible refine loadClocks_frame _ mclk mtim ?_ | with_reducible refine domainsOn_frame _ _ mpwr mclk mbanks ?_ | with_reducible refine loadNets_frame _ mchans mlnc mcpn mcfd ?_ | with_reducible refine bankConfigure_frame _ _ mbanks mchans mrecd mints mheld mnoted mlic ?_ | with_reducible refine loadTable_frame _ mxn ?_ | with_reducible refine setXn_frame _ _ mxn ?_ | with_reducible refine twinHold_frame _ _ mbanks ?_
    | split
    | dsimp only

theorem romService_frame {P : List Part} {t₀ : State} (s : State) (mmod : Part.mod ∈ P) (mpwr : Part.pwr ∈ P) (mvrc : Part.vrc ∈ P) (mrot : Part.rot ∈ P) (mcys : Part.cys ∈ P) (mclk : Part.clk ∈ P) (mbanks : Part.banks ∈ P) (mchans : Part.chans ∈ P) (mxn : Part.xn ∈ P) (mrecd : Part.recd ∈ P) (mboot : Part.boot ∈ P) (mkiln : Part.kiln ∈ P) (mtwl : Part.twl ∈ P) (mlnc : Part.lnc ∈ P) (mcpn : Part.cpn ∈ P) (mcfd : Part.cfd ∈ P) (mints : Part.ints ∈ P) (mheld : Part.held ∈ P) (mnoted : Part.noted ∈ P) (mlic : Part.lic ∈ P) (h₀ : SameBut P t₀ s) :
    SameBut P t₀ (romService s) := by
  unfold romService
  repeat' first
    | with_reducible assumption
    | (rename_i hq; have hq2 := congrArg Prod.snd hq; with_reducible dsimp only at hq2; subst hq2)
    | simp only [↓fr_mk_iff, true_or, or_true, mmod, mpwr, mvrc, mrot, mcys, mclk, mbanks, mchans, mxn, mrecd, mboot, mkiln, mtwl, mlnc, mcpn, mcfd, mints, mheld, mnoted, mlic]
    | with_reducible refine fr_ite ?_ ?_
    | with_reducible refine outFr_ite ?_ ?_
    | with_reducible refine outFr_next.2 ?_
    | with_reducible refine fr_ite2 ?_ ?_
    | with_reducible refine fr_foldl ?_ (fun _ _ _ => ?_)
    | with_reducible refine record_frame _ _ _ _ _ _ mrecd mnoted ?_ | with_reducible refine domainsOn_frame _ _ mpwr mclk mbanks ?_ | with_reducible refine setKiln_frame _ _ mkiln ?_ | with_reducible refine fireService_frame _ _ mmod mvrc mrot mcys mbanks mchans mxn mrecd mboot mkiln mtwl mints mheld mnoted mlic ?_ | with_reducible refine loadNets_frame _ mchans mlnc mcpn mcfd ?_
    | split
    | dsimp only

theorem laneZero_frame {P : List Part} {t₀ : State} (l : Fin 4) (s : State) (mmems : Part.mems ∈ P) (mcores : Part.cores ∈ P) (mlic : Part.lic ∈ P) (h₀ : SameBut P t₀ s) :
    SameBut P t₀ (laneZero l s) := by
  unfold laneZero
  repeat' first
    | with_reducible assumption
    | (rename_i hq; have hq2 := congrArg Prod.snd hq; with_reducible dsimp only at hq2; subst hq2)
    | simp only [↓fr_mk_iff, true_or, or_true, mmems, mcores, mlic]
    | with_reducible refine fr_ite ?_ ?_
    | with_reducible refine outFr_ite ?_ ?_
    | with_reducible refine outFr_next.2 ?_
    | with_reducible refine fr_ite2 ?_ ?_
    | with_reducible refine fr_foldl ?_ (fun _ _ _ => ?_)
    | split
    | dsimp only

theorem laneWrite_frame {P : List Part} {t₀ : State} (l : Fin 4) (f : List Host.Cell → List Host.Cell) (s : State) (mmems : Part.mems ∈ P) (h₀ : SameBut P t₀ s) :
    SameBut P t₀ (laneWrite l f s) := by
  unfold laneWrite
  repeat' first
    | with_reducible assumption
    | (rename_i hq; have hq2 := congrArg Prod.snd hq; with_reducible dsimp only at hq2; subst hq2)
    | simp only [↓fr_mk_iff, true_or, or_true, mmems]
    | with_reducible refine fr_ite ?_ ?_
    | with_reducible refine outFr_ite ?_ ?_
    | with_reducible refine outFr_next.2 ?_
    | with_reducible refine fr_ite2 ?_ ?_
    | with_reducible refine fr_foldl ?_ (fun _ _ _ => ?_)
    | split
    | dsimp only

theorem takeStored_frame {P : List Part} {t₀ : State} (s : State) (mdrawn : Part.drawn ∈ P) (mcys : Part.cys ∈ P) (mrecd : Part.recd ∈ P) (mnoted : Part.noted ∈ P) (h₀ : SameBut P t₀ s) :
    SameBut P t₀ (takeStored s) := by
  unfold takeStored
  repeat' first
    | with_reducible assumption
    | (rename_i hq; have hq2 := congrArg Prod.snd hq; with_reducible dsimp only at hq2; subst hq2)
    | simp only [↓fr_mk_iff, true_or, or_true, mdrawn, mcys, mrecd, mnoted]
    | with_reducible refine fr_ite ?_ ?_
    | with_reducible refine outFr_ite ?_ ?_
    | with_reducible refine outFr_next.2 ?_
    | with_reducible refine fr_ite2 ?_ ?_
    | with_reducible refine fr_foldl ?_ (fun _ _ _ => ?_)
    | with_reducible refine record_frame _ _ _ _ _ _ mrecd mnoted ?_ | with_reducible refine drawWord_frame _ mdrawn ?_ | with_reducible refine imageRefuse_frame _ _ _ _ _ _ mcys mrecd mnoted ?_ | with_reducible refine takeImage_frame _ _ mcys ?_
    | split
    | dsimp only

theorem takeDelta_frame {P : List Part} {t₀ : State} (s : State) (mrecd : Part.recd ∈ P) (mtwl : Part.twl ∈ P) (mints : Part.ints ∈ P) (mheld : Part.held ∈ P) (mnoted : Part.noted ∈ P) (mlic : Part.lic ∈ P) (h₀ : SameBut P t₀ s) :
    SameBut P t₀ (takeDelta s) := by
  unfold takeDelta
  repeat' first
    | with_reducible assumption
    | (rename_i hq; have hq2 := congrArg Prod.snd hq; with_reducible dsimp only at hq2; subst hq2)
    | simp only [↓fr_mk_iff, true_or, or_true, mrecd, mtwl, mints, mheld, mnoted, mlic]
    | with_reducible refine fr_ite ?_ ?_
    | with_reducible refine outFr_ite ?_ ?_
    | with_reducible refine outFr_next.2 ?_
    | with_reducible refine fr_ite2 ?_ ?_
    | with_reducible refine fr_foldl ?_ (fun _ _ _ => ?_)
    | with_reducible refine setTwl_frame _ _ mtwl (.inl mnoted) ?_ | with_reducible refine raise_frame _ _ mints mheld mlic ?_ | with_reducible refine record_frame _ _ _ _ _ _ mrecd mnoted ?_
    | split
    | dsimp only

theorem loadLanes_frame {P : List Part} {t₀ : State} (ls : List (Fin 4)) (s : State) (mrot : Part.rot ∈ P) (mmems : Part.mems ∈ P) (h₀ : SameBut P t₀ s) :
    SameBut P t₀ (loadLanes ls s) := by
  unfold loadLanes
  repeat' first
    | with_reducible assumption
    | (rename_i hq; have hq2 := congrArg Prod.snd hq; with_reducible dsimp only at hq2; subst hq2)
    | simp only [↓fr_mk_iff, true_or, or_true, mrot, mmems]
    | with_reducible refine fr_ite ?_ ?_
    | with_reducible refine outFr_ite ?_ ?_
    | with_reducible refine outFr_next.2 ?_
    | with_reducible refine fr_ite2 ?_ ?_
    | with_reducible refine fr_foldl ?_ (fun _ _ _ => ?_)
    | with_reducible refine markPages_frame _ _ mrot ?_ | with_reducible refine laneWrite_frame _ _ _ mmems ?_
    | split
    | dsimp only

theorem laneMismatch_frame {P : List Part} {t₀ : State} (l : Fin 4) (s : State) (mpwr : Part.pwr ∈ P) (mvrc : Part.vrc ∈ P) (mrot : Part.rot ∈ P) (mrecd : Part.recd ∈ P) (mints : Part.ints ∈ P) (mheld : Part.held ∈ P) (mnoted : Part.noted ∈ P) (mlic : Part.lic ∈ P) (h₀ : SameBut P t₀ s) :
    SameBut P t₀ (laneMismatch l s) := by
  unfold laneMismatch
  repeat' first
    | with_reducible assumption
    | (rename_i hq; have hq2 := congrArg Prod.snd hq; with_reducible dsimp only at hq2; subst hq2)
    | simp only [↓fr_mk_iff, true_or, or_true, mpwr, mvrc, mrot, mrecd, mints, mheld, mnoted, mlic]
    | with_reducible refine fr_ite ?_ ?_
    | with_reducible refine outFr_ite ?_ ?_
    | with_reducible refine outFr_next.2 ?_
    | with_reducible refine fr_ite2 ?_ ?_
    | with_reducible refine fr_foldl ?_ (fun _ _ _ => ?_)
    | with_reducible refine toQuarantine_frame _ _ _ mpwr mvrc mrot mrecd mints mheld mnoted mlic ?_ | with_reducible refine record_frame _ _ _ _ _ _ mrecd mnoted ?_ | with_reducible refine setLane_frame _ _ _ mvrc ?_
    | split
    | dsimp only

theorem setStart_frame {P : List Part} {t₀ : State} (f : StartProgress → StartProgress) (s : State) (mmod : Part.mod ∈ P) (h₀ : SameBut P t₀ s) :
    SameBut P t₀ (setStart f s) := by
  unfold setStart
  repeat' first
    | with_reducible assumption
    | (rename_i hq; have hq2 := congrArg Prod.snd hq; with_reducible dsimp only at hq2; subst hq2)
    | simp only [↓fr_mk_iff, true_or, or_true, mmod]
    | with_reducible refine fr_ite ?_ ?_
    | with_reducible refine outFr_ite ?_ ?_
    | with_reducible refine outFr_next.2 ?_
    | with_reducible refine fr_ite2 ?_ ?_
    | with_reducible refine fr_foldl ?_ (fun _ _ _ => ?_)
    | split
    | dsimp only

theorem execPowerOnResetRelease_frame {P : List Part} {t₀ : State} (twpos : Bool) (s : State) (mmod : Part.mod ∈ P) (mpwr : Part.pwr ∈ P) (mclk : Part.clk ∈ P) (mrecd : Part.recd ∈ P) (mtwl : Part.twl ∈ P) (mints : Part.ints ∈ P) (mheld : Part.held ∈ P) (mnoted : Part.noted ∈ P) (mlic : Part.lic ∈ P) (mmram : Part.mram ∈ P) (h₀ : SameBut P t₀ s) :
    OutFr P t₀ (execPowerOnResetRelease twpos s) := by
  unfold execPowerOnResetRelease
  repeat' first
    | with_reducible assumption
    | (rename_i hq; have hq2 := congrArg Prod.snd hq; with_reducible dsimp only at hq2; subst hq2)
    | simp only [↓fr_mk_iff, true_or, or_true, mmod, mpwr, mclk, mrecd, mtwl, mints, mheld, mnoted, mlic, mmram]
    | with_reducible refine fr_ite ?_ ?_
    | with_reducible refine outFr_ite ?_ ?_
    | with_reducible refine outFr_next.2 ?_
    | with_reducible refine fr_ite2 ?_ ?_
    | with_reducible refine fr_foldl ?_ (fun _ _ _ => ?_)
    | with_reducible refine loadPrivileged_frame _ mrecd ?_ | with_reducible refine setPwr_frame _ _ mpwr ?_ | with_reducible refine record_frame _ _ _ _ _ _ mrecd mnoted ?_ | with_reducible refine enterFiring_frame _ _ mmod mrecd mtwl mints mheld mnoted mlic ?_
    | split
    | dsimp only

theorem execBootBankChoice_frame {P : List Part} {t₀ : State} (retained : Bool) (s : State) (mmod : Part.mod ∈ P) (mpwr : Part.pwr ∈ P) (mvrc : Part.vrc ∈ P) (mrot : Part.rot ∈ P) (mcys : Part.cys ∈ P) (mclk : Part.clk ∈ P) (mtim : Part.tim ∈ P) (mbanks : Part.banks ∈ P) (mchans : Part.chans ∈ P) (mxn : Part.xn ∈ P) (mrecd : Part.recd ∈ P) (mboot : Part.boot ∈ P) (mkiln : Part.kiln ∈ P) (mtwl : Part.twl ∈ P) (mlnc : Part.lnc ∈ P) (mcpn : Part.cpn ∈ P) (mcfd : Part.cfd ∈ P) (mints : Part.ints ∈ P) (mheld : Part.held ∈ P) (mnoted : Part.noted ∈ P) (mlic : Part.lic ∈ P)
    (h₀ : SameBut P t₀ s) : OutFr P t₀ (execBootBankChoice retained s) := by
  unfold execBootBankChoice
  dsimp only
  refine outFr_ite h₀ (outFr_next.2 ?_)
  have h := judgeRetained_frame retained _ mpwr mrot mclk mtim mrecd mkiln mnoted (bootTry_frame (bootOrder (trialWatchdog s).boot) _ mmod mbanks mrecd mboot mnoted (trialWatchdog_frame s mbanks mrecd mboot mnoted h₀))
  exact fr_ite h (romService_frame _ mmod mpwr mvrc mrot mcys mclk mbanks mchans mxn mrecd mboot mkiln mtwl mlnc mcpn mcfd mints mheld mnoted mlic h)

theorem execKilnFirmwareStart_frame {P : List Part} {t₀ : State} (lost : List (Nat × Nat)) (s : State) (mmod : Part.mod ∈ P) (mpwr : Part.pwr ∈ P) (mvrc : Part.vrc ∈ P) (mrot : Part.rot ∈ P) (mclk : Part.clk ∈ P) (mtim : Part.tim ∈ P) (mbanks : Part.banks ∈ P) (mchans : Part.chans ∈ P) (mxn : Part.xn ∈ P) (mrecd : Part.recd ∈ P) (mkiln : Part.kiln ∈ P) (mtwl : Part.twl ∈ P) (mlnc : Part.lnc ∈ P) (mcpn : Part.cpn ∈ P) (mcfd : Part.cfd ∈ P) (mbrg : Part.brg ∈ P) (mints : Part.ints ∈ P) (mheld : Part.held ∈ P) (mnoted : Part.noted ∈ P) (mlic : Part.lic ∈ P) (h₀ : SameBut P t₀ s) :
    OutFr P t₀ (execKilnFirmwareStart lost s) := by
  unfold execKilnFirmwareStart
  repeat' first
    | with_reducible assumption
    | (rename_i hq; have hq2 := congrArg Prod.snd hq; with_reducible dsimp only at hq2; subst hq2)
    | simp only [↓fr_mk_iff, true_or, or_true, mmod, mpwr, mvrc, mrot, mclk, mtim, mbanks, mchans, mxn, mrecd, mkiln, mtwl, mlnc, mcpn, mcfd, mbrg, mints, mheld, mnoted, mlic]
    | with_reducible refine fr_ite ?_ ?_
    | with_reducible refine outFr_ite ?_ ?_
    | with_reducible refine outFr_next.2 ?_
    | with_reducible refine fr_ite2 ?_ ?_
    | with_reducible refine fr_foldl ?_ (fun _ _ _ => ?_)
    | with_reducible refine compareFormat_frame _ mxn mrecd mkiln mnoted ?_ | with_reducible refine paramLost_frame _ _ mxn mrecd mkiln mnoted ?_ | with_reducible refine setKiln_frame _ _ mkiln ?_ | with_reducible refine setStart_frame _ _ mmod ?_ | with_reducible refine loadBlocks_frame _ mpwr mvrc mrot mclk mtim mbanks mchans mxn mrecd mtwl mlnc mcpn mcfd mbrg mints mheld mnoted mlic ?_
    | split
    | dsimp only

theorem laneTested_frame {P : List Part} {t₀ : State} (l : Fin 4) (r : LaneTest) (s : State) (mpwr : Part.pwr ∈ P) (mvrc : Part.vrc ∈ P) (mrot : Part.rot ∈ P) (mrecd : Part.recd ∈ P) (mints : Part.ints ∈ P) (mmems : Part.mems ∈ P) (mcores : Part.cores ∈ P) (mheld : Part.held ∈ P) (mnoted : Part.noted ∈ P) (mlic : Part.lic ∈ P) (h₀ : SameBut P t₀ s) :
    SameBut P t₀ (laneTested l r s) := by
  unfold laneTested
  repeat' first
    | with_reducible assumption
    | (rename_i hq; have hq2 := congrArg Prod.snd hq; with_reducible dsimp only at hq2; subst hq2)
    | simp only [↓fr_mk_iff, true_or, or_true, mpwr, mvrc, mrot, mrecd, mints, mmems, mcores, mheld, mnoted, mlic]
    | with_reducible refine fr_ite ?_ ?_
    | with_reducible refine outFr_ite ?_ ?_
    | with_reducible refine outFr_next.2 ?_
    | with_reducible refine fr_ite2 ?_ ?_
    | with_reducible refine fr_foldl ?_ (fun _ _ _ => ?_)
    | with_reducible refine laneZero_frame _ _ mmems mcores mlic ?_ | with_reducible refine setLane_frame _ _ _ mvrc ?_ | with_reducible refine retire_frame _ _ _ _ _ mpwr mvrc mrot mrecd mints mheld mnoted mlic ?_ | with_reducible refine toQuarantine_frame _ _ _ mpwr mvrc mrot mrecd mints mheld mnoted mlic ?_
    | split
    | dsimp only

theorem execLaneStartupTestsDone_frame {P : List Part} {t₀ : State} (r0 r1 r2 r3 : LaneTest) (s : State) (mmod : Part.mod ∈ P) (mpwr : Part.pwr ∈ P) (mvrc : Part.vrc ∈ P) (mrot : Part.rot ∈ P) (mrecd : Part.recd ∈ P) (mints : Part.ints ∈ P) (mmems : Part.mems ∈ P) (mcores : Part.cores ∈ P) (mheld : Part.held ∈ P) (mnoted : Part.noted ∈ P) (mlic : Part.lic ∈ P) (h₀ : SameBut P t₀ s) :
    OutFr P t₀ (execLaneStartupTestsDone r0 r1 r2 r3 s) := by
  unfold execLaneStartupTestsDone
  repeat' first
    | with_reducible assumption
    | (rename_i hq; have hq2 := congrArg Prod.snd hq; with_reducible dsimp only at hq2; subst hq2)
    | simp only [↓fr_mk_iff, true_or, or_true, mmod, mpwr, mvrc, mrot, mrecd, mints, mmems, mcores, mheld, mnoted, mlic]
    | with_reducible refine fr_ite ?_ ?_
    | with_reducible refine outFr_ite ?_ ?_
    | with_reducible refine outFr_next.2 ?_
    | with_reducible refine fr_ite2 ?_ ?_
    | with_reducible refine fr_foldl ?_ (fun _ _ _ => ?_)
    | with_reducible refine setStart_frame _ _ mmod ?_ | with_reducible refine laneTested_frame _ _ _ mpwr mvrc mrot mrecd mints mmems mcores mheld mnoted mlic ?_
    | split
    | dsimp only

theorem execProcessorSectionLoaded_frame {P : List Part} {t₀ : State} (target : LoadTarget) (crcOk : Bool) (s : State) (mpwr : Part.pwr ∈ P) (mclk : Part.clk ∈ P) (mtim : Part.tim ∈ P) (mrecd : Part.recd ∈ P) (mboot : Part.boot ∈ P) (mlnc : Part.lnc ∈ P) (mcpn : Part.cpn ∈ P) (mints : Part.ints ∈ P) (mheld : Part.held ∈ P) (mnoted : Part.noted ∈ P) (mlic : Part.lic ∈ P) (h₀ : SameBut P t₀ s) :
    OutFr P t₀ (execProcessorSectionLoaded target crcOk s) := by
  unfold execProcessorSectionLoaded
  repeat' first
    | with_reducible assumption
    | (rename_i hq; have hq2 := congrArg Prod.snd hq; with_reducible dsimp only at hq2; subst hq2)
    | simp only [↓fr_mk_iff, true_or, or_true, mpwr, mclk, mtim, mrecd, mboot, mlnc, mcpn, mints, mheld, mnoted, mlic]
    | with_reducible refine fr_ite ?_ ?_
    | with_reducible refine outFr_ite ?_ ?_
    | with_reducible refine outFr_next.2 ?_
    | with_reducible refine fr_ite2 ?_ ?_
    | with_reducible refine fr_foldl ?_ (fun _ _ _ => ?_)
    | with_reducible refine setBoot_frame _ _ mboot ?_ | with_reducible refine record_frame _ _ _ _ _ _ mrecd mnoted ?_ | with_reducible refine linkSet_frame _ _ _ mclk mtim mrecd mlnc mcpn mints mheld mnoted mlic ?_ | with_reducible refine setPwr_frame _ _ mpwr ?_
    | split
    | dsimp only

theorem execStartupInjectionSet_frame {P : List Part} {t₀ : State} (fail : Option InjFail) (s : State) (mmod : Part.mod ∈ P) (mvrc : Part.vrc ∈ P) (mrot : Part.rot ∈ P) (mcys : Part.cys ∈ P) (mbanks : Part.banks ∈ P) (mchans : Part.chans ∈ P) (mxn : Part.xn ∈ P) (mrecd : Part.recd ∈ P) (mboot : Part.boot ∈ P) (mkiln : Part.kiln ∈ P) (mtwl : Part.twl ∈ P) (mints : Part.ints ∈ P) (mheld : Part.held ∈ P) (mnoted : Part.noted ∈ P) (mlic : Part.lic ∈ P) (h₀ : SameBut P t₀ s) :
    OutFr P t₀ (execStartupInjectionSet fail s) := by
  unfold execStartupInjectionSet
  repeat' first
    | with_reducible assumption
    | (rename_i hq; have hq2 := congrArg Prod.snd hq; with_reducible dsimp only at hq2; subst hq2)
    | simp only [↓fr_mk_iff, true_or, or_true, mmod, mvrc, mrot, mcys, mbanks, mchans, mxn, mrecd, mboot, mkiln, mtwl, mints, mheld, mnoted, mlic]
    | with_reducible refine fr_ite ?_ ?_
    | with_reducible refine outFr_ite ?_ ?_
    | with_reducible refine outFr_next.2 ?_
    | with_reducible refine fr_ite2 ?_ ?_
    | with_reducible refine fr_foldl ?_ (fun _ _ _ => ?_)
    | with_reducible refine setStart_frame _ _ mmod ?_ | with_reducible refine fireService_frame _ _ mmod mvrc mrot mcys mbanks mchans mxn mrecd mboot mkiln mtwl mints mheld mnoted mlic ?_ | with_reducible refine raise_frame _ _ mints mheld mlic ?_ | with_reducible refine record_frame _ _ _ _ _ _ mrecd mnoted ?_
    | split
    | dsimp only

theorem laneCompared_frame {P : List Part} {t₀ : State} (crcOk : BitVec 4) (l : Fin 4) (s : State) (mpwr : Part.pwr ∈ P) (mvrc : Part.vrc ∈ P) (mrot : Part.rot ∈ P) (mrecd : Part.recd ∈ P) (mints : Part.ints ∈ P) (mheld : Part.held ∈ P) (mnoted : Part.noted ∈ P) (mlic : Part.lic ∈ P) (h₀ : SameBut P t₀ s) :
    SameBut P t₀ (laneCompared crcOk l s) := by
  unfold laneCompared
  repeat' first
    | with_reducible assumption
    | (rename_i hq; have hq2 := congrArg Prod.snd hq; with_reducible dsimp only at hq2; subst hq2)
    | simp only [↓fr_mk_iff, true_or, or_true, mpwr, mvrc, mrot, mrecd, mints, mheld, mnoted, mlic]
    | with_reducible refine fr_ite ?_ ?_
    | with_reducible refine outFr_ite ?_ ?_
    | with_reducible refine outFr_next.2 ?_
    | with_reducible refine fr_ite2 ?_ ?_
    | with_reducible refine fr_foldl ?_ (fun _ _ _ => ?_)
    | with_reducible refine setLane_frame _ _ _ mvrc ?_ | with_reducible refine laneMismatch_frame _ _ mpwr mvrc mrot mrecd mints mheld mnoted mlic ?_
    | split
    | dsimp only

theorem execLaneImageLoaded_frame {P : List Part} {t₀ : State} (crcOk : BitVec 4) (s : State) (mdrawn : Part.drawn ∈ P) (mmod : Part.mod ∈ P) (mpwr : Part.pwr ∈ P) (mvrc : Part.vrc ∈ P) (mrot : Part.rot ∈ P) (mcys : Part.cys ∈ P) (mbanks : Part.banks ∈ P) (mchans : Part.chans ∈ P) (mxn : Part.xn ∈ P) (mrecd : Part.recd ∈ P) (mboot : Part.boot ∈ P) (mkiln : Part.kiln ∈ P) (mtwl : Part.twl ∈ P) (mints : Part.ints ∈ P) (mmems : Part.mems ∈ P) (mvmem : Part.vmem ∈ P) (mheld : Part.held ∈ P) (mnoted : Part.noted ∈ P) (mlic : Part.lic ∈ P) (h₀ : SameBut P t₀ s) :
    OutFr P t₀ (execLaneImageLoaded crcOk s) := by
  unfold execLaneImageLoaded
  repeat' first
    | with_reducible assumption
    | (rename_i hq; have hq2 := congrArg Prod.snd hq; with_reducible dsimp only at hq2; subst hq2)
    | simp only [↓fr_mk_iff, true_or, or_true, mdrawn, mmod, mpwr, mvrc, mrot, mcys, mbanks, mchans, mxn, mrecd, mboot, mkiln, mtwl, mints, mmems, mvmem, mheld, mnoted, mlic]
    | with_reducible refine fr_ite ?_ ?_
    | with_reducible refine outFr_ite ?_ ?_
    | with_reducible refine outFr_next.2 ?_
    | with_reducible refine fr_ite2 ?_ ?_
    | with_reducible refine fr_foldl ?_ (fun _ _ _ => ?_)
    | with_reducible refine takeDelta_frame _ mrecd mtwl mints mheld mnoted mlic ?_ | with_reducible refine takeStored_frame _ mdrawn mcys mrecd mnoted ?_ | with_reducible refine laneCompared_frame _ _ _ mpwr mvrc mrot mrecd mints mheld mnoted mlic ?_ | with_reducible refine loadLanes_frame _ _ mrot mmems ?_ | with_reducible refine fireService_frame _ _ mmod mvrc mrot mcys mbanks mchans mxn mrecd mboot mkiln mtwl mints mheld mnoted mlic ?_ | with_reducible refine setStart_frame _ _ mmod ?_
    | split
    | dsimp only

theorem execSafetySetCheck_frame {P : List Part} {t₀ : State} (s : State) (mmod : Part.mod ∈ P) (mvrc : Part.vrc ∈ P) (mrot : Part.rot ∈ P) (mcys : Part.cys ∈ P) (mbanks : Part.banks ∈ P) (mchans : Part.chans ∈ P) (mxn : Part.xn ∈ P) (mrecd : Part.recd ∈ P) (mboot : Part.boot ∈ P) (mkiln : Part.kiln ∈ P) (mtwl : Part.twl ∈ P) (mints : Part.ints ∈ P) (mheld : Part.held ∈ P) (mnoted : Part.noted ∈ P) (mlic : Part.lic ∈ P) (h₀ : SameBut P t₀ s) :
    OutFr P t₀ (execSafetySetCheck s) := by
  unfold execSafetySetCheck
  repeat' first
    | with_reducible assumption
    | (rename_i hq; have hq2 := congrArg Prod.snd hq; with_reducible dsimp only at hq2; subst hq2)
    | simp only [↓fr_mk_iff, true_or, or_true, mmod, mvrc, mrot, mcys, mbanks, mchans, mxn, mrecd, mboot, mkiln, mtwl, mints, mheld, mnoted, mlic]
    | with_reducible refine fr_ite ?_ ?_
    | with_reducible refine outFr_ite ?_ ?_
    | with_reducible refine outFr_next.2 ?_
    | with_reducible refine fr_ite2 ?_ ?_
    | with_reducible refine fr_foldl ?_ (fun _ _ _ => ?_)
    | with_reducible refine record_frame _ _ _ _ _ _ mrecd mnoted ?_ | with_reducible refine setStart_frame _ _ mmod ?_ | with_reducible refine mapLanes_frame _ _ mvrc ?_ | with_reducible refine fireService_frame _ _ mmod mvrc mrot mcys mbanks mchans mxn mrecd mboot mkiln mtwl mints mheld mnoted mlic ?_
    | split
    | dsimp only

theorem laneActivate_frame {P : List Part} {t₀ : State} (ls : List (Fin 4)) (s : State) (mvrc : Part.vrc ∈ P) (h₀ : SameBut P t₀ s) :
    SameBut P t₀ (laneActivate ls s) := by
  unfold laneActivate
  repeat' first
    | with_reducible assumption
    | (rename_i hq; have hq2 := congrArg Prod.snd hq; with_reducible dsimp only at hq2; subst hq2)
    | simp only [↓fr_mk_iff, true_or, or_true, mvrc]
    | with_reducible refine fr_ite ?_ ?_
    | with_reducible refine outFr_ite ?_ ?_
    | with_reducible refine outFr_next.2 ?_
    | with_reducible refine fr_ite2 ?_ ?_
    | with_reducible refine fr_foldl ?_ (fun _ _ _ => ?_)
    | with_reducible refine setLane_frame _ _ _ mvrc ?_
    | split
    | dsimp only

theorem banksStarted_frame {P : List Part} {t₀ : State} (s : State) (mchans : Part.chans ∈ P) (h₀ : SameBut P t₀ s) :
    SameBut P t₀ (banksStarted s) := by
  unfold banksStarted
  repeat' first
    | with_reducible assumption
    | (rename_i hq; have hq2 := congrArg Prod.snd hq; with_reducible dsimp only at hq2; subst hq2)
    | simp only [↓fr_mk_iff, true_or, or_true, mchans]
    | with_reducible refine fr_ite ?_ ?_
    | with_reducible refine outFr_ite ?_ ?_
    | with_reducible refine outFr_next.2 ?_
    | with_reducible refine fr_ite2 ?_ ?_
    | with_reducible refine fr_foldl ?_ (fun _ _ _ => ?_)
    | with_reducible refine setChan_frame _ _ _ mchans ?_
    | split
    | dsimp only

theorem fireEnd_frame {P : List Part} {t₀ : State} (new : ModState) (s : State) (mmod : Part.mod ∈ P) (mvrc : Part.vrc ∈ P) (mchans : Part.chans ∈ P) (mxn : Part.xn ∈ P) (mrecd : Part.recd ∈ P) (mboot : Part.boot ∈ P) (mtwl : Part.twl ∈ P) (mints : Part.ints ∈ P) (mvmem : Part.vmem ∈ P) (mheld : Part.held ∈ P) (mnoted : Part.noted ∈ P) (mlic : Part.lic ∈ P) (h₀ : SameBut P t₀ s) :
    SameBut P t₀ (fireEnd new s) := by
  unfold fireEnd
  repeat' first
    | with_reducible assumption
    | (rename_i hq; have hq2 := congrArg Prod.snd hq; with_reducible dsimp only at hq2; subst hq2)
    | simp only [↓fr_mk_iff, true_or, or_true, mmod, mvrc, mchans, mxn, mrecd, mboot, mtwl, mints, mvmem, mheld, mnoted, mlic]
    | with_reducible refine fr_ite ?_ ?_
    | with_reducible refine outFr_ite ?_ ?_
    | with_reducible refine outFr_next.2 ?_
    | with_reducible refine fr_ite2 ?_ ?_
    | with_reducible refine fr_foldl ?_ (fun _ _ _ => ?_)
    | with_reducible refine setModState_frame _ _ _ mmod mrecd mnoted ?_ | with_reducible refine setBoot_frame _ _ mboot ?_ | with_reducible refine busStart_frame _ mvrc mxn mrecd mtwl mints mvmem mheld mnoted mlic ?_ | with_reducible refine banksStarted_frame _ mchans ?_
    | split
    | dsimp only

theorem fireRun_frame {P : List Part} {t₀ : State} (ls : List (Fin 4)) (s : State) (mmod : Part.mod ∈ P) (mvrc : Part.vrc ∈ P) (mrot : Part.rot ∈ P) (mcys : Part.cys ∈ P) (mchans : Part.chans ∈ P) (mxn : Part.xn ∈ P) (mrecd : Part.recd ∈ P) (mboot : Part.boot ∈ P) (mtwl : Part.twl ∈ P) (mints : Part.ints ∈ P) (mcores : Part.cores ∈ P) (mvmem : Part.vmem ∈ P) (mheld : Part.held ∈ P) (mnoted : Part.noted ∈ P) (mlic : Part.lic ∈ P) (h₀ : SameBut P t₀ s) :
    SameBut P t₀ (fireRun ls s) := by
  unfold fireRun
  repeat' first
    | with_reducible assumption
    | (rename_i hq; have hq2 := congrArg Prod.snd hq; with_reducible dsimp only at hq2; subst hq2)
    | simp only [↓fr_mk_iff, true_or, or_true, mmod, mvrc, mrot, mcys, mchans, mxn, mrecd, mboot, mtwl, mints, mcores, mvmem, mheld, mnoted, mlic]
    | with_reducible refine fr_ite ?_ ?_
    | with_reducible refine outFr_ite ?_ ?_
    | with_reducible refine outFr_next.2 ?_
    | with_reducible refine fr_ite2 ?_ ?_
    | with_reducible refine fr_foldl ?_ (fun _ _ _ => ?_)
    | with_reducible refine laneActivate_frame _ _ mvrc ?_ | with_reducible refine setVote_frame _ _ _ _ mvrc mrecd mints mheld mnoted mlic ?_ | with_reducible refine fireEnd_frame _ _ mmod mvrc mchans mxn mrecd mboot mtwl mints mvmem mheld mnoted mlic ?_ | with_reducible refine rotationRestart_frame _ mrot ?_ | with_reducible refine mapTasks_frame _ _ mcys ?_ | with_reducible refine execWait_frame _ mcores mlic ?_ | with_reducible refine openRegions_frame _ _ mcores mlic ?_
    | split
    | dsimp only

theorem fireWide_frame {P : List Part} {t₀ : State} (s : State) (mmod : Part.mod ∈ P) (mvrc : Part.vrc ∈ P) (mbanks : Part.banks ∈ P) (mchans : Part.chans ∈ P) (mxn : Part.xn ∈ P) (mrecd : Part.recd ∈ P) (mboot : Part.boot ∈ P) (mtwl : Part.twl ∈ P) (mints : Part.ints ∈ P) (mvmem : Part.vmem ∈ P) (mheld : Part.held ∈ P) (mnoted : Part.noted ∈ P) (mlic : Part.lic ∈ P) (h₀ : SameBut P t₀ s) :
    SameBut P t₀ (fireWide s) := by
  unfold fireWide
  repeat' first
    | with_reducible assumption
    | (rename_i hq; have hq2 := congrArg Prod.snd hq; with_reducible dsimp only at hq2; subst hq2)
    | simp only [↓fr_mk_iff, true_or, or_true, mmod, mvrc, mbanks, mchans, mxn, mrecd, mboot, mtwl, mints, mvmem, mheld, mnoted, mlic]
    | with_reducible refine fr_ite ?_ ?_
    | with_reducible refine outFr_ite ?_ ?_
    | with_reducible refine outFr_next.2 ?_
    | with_reducible refine fr_ite2 ?_ ?_
    | with_reducible refine fr_foldl ?_ (fun _ _ _ => ?_)
    | with_reducible refine mapLanes_frame _ _ mvrc ?_ | with_reducible refine fireEnd_frame _ _ mmod mvrc mchans mxn mrecd mboot mtwl mints mvmem mheld mnoted mlic ?_ | with_reducible refine setVote_frame _ _ _ _ mvrc mrecd mints mheld mnoted mlic ?_ | with_reducible refine twinHold_frame _ _ mbanks ?_ | with_reducible refine twinRole_frame _ _ _ mrecd mtwl mints mheld mnoted mlic ?_
    | split
    | dsimp only

theorem execFiringEnd_frame {P : List Part} {t₀ : State} (dt : Nat) (s : State) (mmod : Part.mod ∈ P) (mvrc : Part.vrc ∈ P) (mrot : Part.rot ∈ P) (mcys : Part.cys ∈ P) (mbanks : Part.banks ∈ P) (mchans : Part.chans ∈ P) (mxn : Part.xn ∈ P) (mrecd : Part.recd ∈ P) (mboot : Part.boot ∈ P) (mkiln : Part.kiln ∈ P) (mtwl : Part.twl ∈ P) (mints : Part.ints ∈ P) (mcores : Part.cores ∈ P) (mvmem : Part.vmem ∈ P) (mheld : Part.held ∈ P) (mnoted : Part.noted ∈ P) (mlic : Part.lic ∈ P) (h₀ : SameBut P t₀ (advance dt s)) :
    OutFr P t₀ (execFiringEnd dt s) := by
  unfold execFiringEnd
  repeat' first
    | with_reducible assumption
    | (rename_i hq; have hq2 := congrArg Prod.snd hq; with_reducible dsimp only at hq2; subst hq2)
    | simp only [↓fr_mk_iff, true_or, or_true, mmod, mvrc, mrot, mcys, mbanks, mchans, mxn, mrecd, mboot, mkiln, mtwl, mints, mcores, mvmem, mheld, mnoted, mlic]
    | with_reducible refine fr_ite ?_ ?_
    | with_reducible refine outFr_ite ?_ ?_
    | with_reducible refine outFr_next.2 ?_
    | with_reducible refine fr_ite2 ?_ ?_
    | with_reducible refine fr_foldl ?_ (fun _ _ _ => ?_)
    | with_reducible refine fireWide_frame _ mmod mvrc mbanks mchans mxn mrecd mboot mtwl mints mvmem mheld mnoted mlic ?_ | with_reducible refine fireService_frame _ _ mmod mvrc mrot mcys mbanks mchans mxn mrecd mboot mkiln mtwl mints mheld mnoted mlic ?_ | with_reducible refine fireRun_frame _ _ mmod mvrc mrot mcys mchans mxn mrecd mboot mtwl mints mcores mvmem mheld mnoted mlic ?_
    | split
    | dsimp only

theorem execTrialTimeout_frame {P : List Part} {t₀ : State} (s : State) (mmod : Part.mod ∈ P) (mpwr : Part.pwr ∈ P) (mvrc : Part.vrc ∈ P) (mrot : Part.rot ∈ P) (mcys : Part.cys ∈ P) (mclk : Part.clk ∈ P) (mbanks : Part.banks ∈ P) (mchans : Part.chans ∈ P) (mxn : Part.xn ∈ P) (mrecd : Part.recd ∈ P) (mboot : Part.boot ∈ P) (mkiln : Part.kiln ∈ P) (mtwl : Part.twl ∈ P) (mlnc : Part.lnc ∈ P) (mcpn : Part.cpn ∈ P) (mcfd : Part.cfd ∈ P) (mbrg : Part.brg ∈ P) (mints : Part.ints ∈ P) (mcores : Part.cores ∈ P) (mvmem : Part.vmem ∈ P) (mheld : Part.held ∈ P) (mnoted : Part.noted ∈ P) (mlic : Part.lic ∈ P) (h₀ : SameBut P t₀ s) :
    OutFr P t₀ (execTrialTimeout s) := by
  unfold execTrialTimeout
  repeat' first
    | with_reducible assumption
    | (rename_i hq; have hq2 := congrArg Prod.snd hq; with_reducible dsimp only at hq2; subst hq2)
    | simp only [↓fr_mk_iff, true_or, or_true, mmod, mpwr, mvrc, mrot, mcys, mclk, mbanks, mchans, mxn, mrecd, mboot, mkiln, mtwl, mlnc, mcpn, mcfd, mbrg, mints, mcores, mvmem, mheld, mnoted, mlic]
    | with_reducible refine fr_ite ?_ ?_
    | with_reducible refine outFr_ite ?_ ?_
    | with_reducible refine outFr_next.2 ?_
    | with_reducible refine fr_ite2 ?_ ?_
    | with_reducible refine fr_foldl ?_ (fun _ _ _ => ?_)
    | with_reducible refine moduleReset_frame _ _ _ mmod mpwr mvrc mrot mcys mclk mbanks mchans mxn mrecd mboot mkiln mtwl mlnc mcpn mcfd mbrg mints mcores mvmem mheld mnoted mlic ?_ | with_reducible refine bankBad_frame _ _ _ _ mbanks mrecd mboot mnoted ?_
    | split
    | dsimp only

theorem execFwConfirmed_frame {P : List Part} {t₀ : State} (dt : Nat) (s : State) (mbanks : Part.banks ∈ P) (mrecd : Part.recd ∈ P) (mboot : Part.boot ∈ P) (mnoted : Part.noted ∈ P) (h₀ : SameBut P t₀ (advance dt s)) :
    OutFr P t₀ (execFwConfirmed dt s) := by
  unfold execFwConfirmed
  repeat' first
    | with_reducible assumption
    | (rename_i hq; have hq2 := congrArg Prod.snd hq; with_reducible dsimp only at hq2; subst hq2)
    | simp only [↓fr_mk_iff, true_or, or_true, mbanks, mrecd, mboot, mnoted]
    | with_reducible refine fr_ite ?_ ?_
    | with_reducible refine outFr_ite ?_ ?_
    | with_reducible refine outFr_next.2 ?_
    | with_reducible refine fr_ite2 ?_ ?_
    | with_reducible refine fr_foldl ?_ (fun _ _ _ => ?_)
    | with_reducible refine record_frame _ _ _ _ _ _ mrecd mnoted ?_ | with_reducible refine setFwBank_frame _ _ _ mbanks mboot ?_
    | split
    | dsimp only

end Sys2Proof.Machine
end

