-- ==== Sys2Proof/Laws/Frames7.lean ====
section
/-! SUPPORT. For every operation and every meaning: only the named parts differ after it. -/

set_option linter.all false

namespace Sys2Proof.Machine

open Sys2Proof

theorem quietState_frame {P : List Part} {t₀ : State} (cause : Nat) (s : State) (mvrc : Part.vrc ∈ P) (mchans : Part.chans ∈ P) (mrecd : Part.recd ∈ P) (mints : Part.ints ∈ P) (mheld : Part.held ∈ P) (mnoted : Part.noted ∈ P) (mlic : Part.lic ∈ P) (h₀ : SameBut P t₀ s) :
    SameBut P t₀ (quietState cause s) := by
  unfold quietState
  repeat' first
    | with_reducible assumption
    | (rename_i hq; have hq2 := congrArg Prod.snd hq; with_reducible dsimp only at hq2; subst hq2)
    | simp only [↓fr_mk_iff, true_or, or_true, mvrc, mchans, mrecd, mints, mheld, mnoted, mlic]
    | with_reducible refine fr_ite ?_ ?_
    | with_reducible refine outFr_ite ?_ ?_
    | with_reducible refine outFr_next.2 ?_
    | with_reducible refine fr_ite2 ?_ ?_
    | with_reducible refine fr_foldl ?_ (fun _ _ _ => ?_)
    | with_reducible refine setVote_frame _ _ _ _ mvrc mrecd mints mheld mnoted mlic ?_ | with_reducible refine lanesLeave_frame _ mvrc ?_ | with_reducible refine banksSafe_frame _ _ mchans mrecd mints mheld mnoted mlic ?_
    | split
    | dsimp only

theorem canClosed_frame {P : List Part} {t₀ : State} (s : State) (mkiln : Part.kiln ∈ P) (h₀ : SameBut P t₀ s) :
    SameBut P t₀ (canClosed s) := by
  unfold canClosed
  repeat' first
    | with_reducible assumption
    | (rename_i hq; have hq2 := congrArg Prod.snd hq; with_reducible dsimp only at hq2; subst hq2)
    | simp only [↓fr_mk_iff, true_or, or_true, mkiln]
    | with_reducible refine fr_ite ?_ ?_
    | with_reducible refine outFr_ite ?_ ?_
    | with_reducible refine outFr_next.2 ?_
    | with_reducible refine fr_ite2 ?_ ?_
    | with_reducible refine fr_foldl ?_ (fun _ _ _ => ?_)
    | with_reducible refine setKiln_frame _ _ mkiln ?_
    | split
    | dsimp only

theorem enterBanked_frame {P : List Part} {t₀ : State} (s : State) (mmod : Part.mod ∈ P) (mpwr : Part.pwr ∈ P) (mvrc : Part.vrc ∈ P) (mrot : Part.rot ∈ P) (mcys : Part.cys ∈ P) (mbanks : Part.banks ∈ P) (mchans : Part.chans ∈ P) (mxn : Part.xn ∈ P) (mrecd : Part.recd ∈ P) (mkiln : Part.kiln ∈ P) (mtwl : Part.twl ∈ P) (mcpn : Part.cpn ∈ P) (mcfd : Part.cfd ∈ P) (mbrg : Part.brg ∈ P) (mbw : Part.bw ∈ P) (mints : Part.ints ∈ P) (mmems : Part.mems ∈ P) (mcores : Part.cores ∈ P) (mvmem : Part.vmem ∈ P) (mheld : Part.held ∈ P) (mnoted : Part.noted ∈ P) (mlic : Part.lic ∈ P) (h₀ : SameBut P t₀ s) :
    SameBut P t₀ (enterBanked s) := by
  unfold enterBanked
  repeat' first
    | with_reducible assumption
    | (rename_i hq; have hq2 := congrArg Prod.snd hq; with_reducible dsimp only at hq2; subst hq2)
    | simp only [↓fr_mk_iff, true_or, or_true, mmod, mpwr, mvrc, mrot, mcys, mbanks, mchans, mxn, mrecd, mkiln, mtwl, mcpn, mcfd, mbrg, mbw, mints, mmems, mcores, mvmem, mheld, mnoted, mlic]
    | with_reducible refine fr_ite ?_ ?_
    | with_reducible refine outFr_ite ?_ ?_
    | with_reducible refine outFr_next.2 ?_
    | with_reducible refine fr_ite2 ?_ ?_
    | with_reducible refine fr_foldl ?_ (fun _ _ _ => ?_)
    | with_reducible refine leaveRun_frame _ _ _ _ mvrc mrot mcys mbanks mchans mxn mrecd mkiln mtwl mints mheld mnoted mlic ?_ | with_reducible refine quietState_frame _ _ mvrc mchans mrecd mints mheld mnoted mlic ?_ | with_reducible refine canClosed_frame _ mkiln ?_ | with_reducible refine twinRole_frame _ _ _ mrecd mtwl mints mheld mnoted mlic ?_ | with_reducible refine setModState_frame _ _ _ mmod mrecd mnoted ?_ | with_reducible refine setPwr_frame _ _ mpwr ?_ | with_reducible refine domainsOff_frame _ mpwr mvrc mrot mcys mxn mrecd mkiln mtwl mcpn mcfd mbrg mbw mints mmems mcores mvmem mheld mnoted mlic ?_
    | split
    | dsimp only

theorem enterMaintenance_frame {P : List Part} {t₀ : State} (s : State) (mmod : Part.mod ∈ P) (mvrc : Part.vrc ∈ P) (mrot : Part.rot ∈ P) (mcys : Part.cys ∈ P) (mbanks : Part.banks ∈ P) (mchans : Part.chans ∈ P) (mxn : Part.xn ∈ P) (mrecd : Part.recd ∈ P) (mkiln : Part.kiln ∈ P) (mtwl : Part.twl ∈ P) (mints : Part.ints ∈ P) (mheld : Part.held ∈ P) (mnoted : Part.noted ∈ P) (mlic : Part.lic ∈ P) (h₀ : SameBut P t₀ s) :
    SameBut P t₀ (enterMaintenance s) := by
  unfold enterMaintenance
  repeat' first
    | with_reducible assumption
    | (rename_i hq; have hq2 := congrArg Prod.snd hq; with_reducible dsimp only at hq2; subst hq2)
    | simp only [↓fr_mk_iff, true_or, or_true, mmod, mvrc, mrot, mcys, mbanks, mchans, mxn, mrecd, mkiln, mtwl, mints, mheld, mnoted, mlic]
    | with_reducible refine fr_ite ?_ ?_
    | with_reducible refine outFr_ite ?_ ?_
    | with_reducible refine outFr_next.2 ?_
    | with_reducible refine fr_ite2 ?_ ?_
    | with_reducible refine fr_foldl ?_ (fun _ _ _ => ?_)
    | with_reducible refine leaveRun_frame _ _ _ _ mvrc mrot mcys mbanks mchans mxn mrecd mkiln mtwl mints mheld mnoted mlic ?_ | with_reducible refine quietState_frame _ _ mvrc mchans mrecd mints mheld mnoted mlic ?_ | with_reducible refine setModState_frame _ _ _ mmod mrecd mnoted ?_
    | split
    | dsimp only

theorem stateCmd_frame {P : List Part} {t₀ : State} (v : Nat) (s : State) (mmod : Part.mod ∈ P) (mpwr : Part.pwr ∈ P) (mvrc : Part.vrc ∈ P) (mrot : Part.rot ∈ P) (mcys : Part.cys ∈ P) (mclk : Part.clk ∈ P) (mbanks : Part.banks ∈ P) (mchans : Part.chans ∈ P) (mxn : Part.xn ∈ P) (mrecd : Part.recd ∈ P) (mboot : Part.boot ∈ P) (mkiln : Part.kiln ∈ P) (mtwl : Part.twl ∈ P) (mlnc : Part.lnc ∈ P) (mcpn : Part.cpn ∈ P) (mcfd : Part.cfd ∈ P) (mbrg : Part.brg ∈ P) (mbw : Part.bw ∈ P) (mints : Part.ints ∈ P) (mmems : Part.mems ∈ P) (mcores : Part.cores ∈ P) (mvmem : Part.vmem ∈ P) (mheld : Part.held ∈ P) (mnoted : Part.noted ∈ P) (mlic : Part.lic ∈ P) (h₀ : SameBut P t₀ s) :
    SameBut P t₀ (stateCmd v s).2 := by
  unfold stateCmd
  repeat' first
    | with_reducible assumption
    | (rename_i hq; have hq2 := congrArg Prod.snd hq; with_reducible dsimp only at hq2; subst hq2)
    | simp only [↓fr_mk_iff, true_or, or_true, mmod, mpwr, mvrc, mrot, mcys, mclk, mbanks, mchans, mxn, mrecd, mboot, mkiln, mtwl, mlnc, mcpn, mcfd, mbrg, mbw, mints, mmems, mcores, mvmem, mheld, mnoted, mlic]
    | with_reducible refine fr_ite ?_ ?_
    | with_reducible refine outFr_ite ?_ ?_
    | with_reducible refine outFr_next.2 ?_
    | with_reducible refine fr_ite2 ?_ ?_
    | with_reducible refine fr_foldl ?_ (fun _ _ _ => ?_)
    | with_reducible refine moduleReset_frame _ _ _ mmod mpwr mvrc mrot mcys mclk mbanks mchans mxn mrecd mboot mkiln mtwl mlnc mcpn mcfd mbrg mints mcores mvmem mheld mnoted mlic ?_ | with_reducible refine enterBanked_frame _ mmod mpwr mvrc mrot mcys mbanks mchans mxn mrecd mkiln mtwl mcpn mcfd mbrg mbw mints mmems mcores mvmem mheld mnoted mlic ?_
    | split
    | dsimp only

theorem powerCmd_frame {P : List Part} {t₀ : State} (v : Nat) (s : State) (mmod : Part.mod ∈ P) (mpwr : Part.pwr ∈ P) (mvrc : Part.vrc ∈ P) (mrot : Part.rot ∈ P) (mcys : Part.cys ∈ P) (mclk : Part.clk ∈ P) (mbanks : Part.banks ∈ P) (mchans : Part.chans ∈ P) (mxn : Part.xn ∈ P) (mrecd : Part.recd ∈ P) (mboot : Part.boot ∈ P) (mkiln : Part.kiln ∈ P) (mtwl : Part.twl ∈ P) (mlnc : Part.lnc ∈ P) (mcpn : Part.cpn ∈ P) (mcfd : Part.cfd ∈ P) (mbrg : Part.brg ∈ P) (mints : Part.ints ∈ P) (mcores : Part.cores ∈ P) (mvmem : Part.vmem ∈ P) (mheld : Part.held ∈ P) (mnoted : Part.noted ∈ P) (mlic : Part.lic ∈ P) (h₀ : SameBut P t₀ s) :
    SameBut P t₀ (powerCmd v s).2 := by
  unfold powerCmd
  repeat' first
    | with_reducible assumption
    | (rename_i hq; have hq2 := congrArg Prod.snd hq; with_reducible dsimp only at hq2; subst hq2)
    | simp only [↓fr_mk_iff, true_or, or_true, mmod, mpwr, mvrc, mrot, mcys, mclk, mbanks, mchans, mxn, mrecd, mboot, mkiln, mtwl, mlnc, mcpn, mcfd, mbrg, mints, mcores, mvmem, mheld, mnoted, mlic]
    | with_reducible refine fr_ite ?_ ?_
    | with_reducible refine outFr_ite ?_ ?_
    | with_reducible refine outFr_next.2 ?_
    | with_reducible refine fr_ite2 ?_ ?_
    | with_reducible refine fr_foldl ?_ (fun _ _ _ => ?_)
    | with_reducible refine moduleReset_frame _ _ _ mmod mpwr mvrc mrot mcys mclk mbanks mchans mxn mrecd mboot mkiln mtwl mlnc mcpn mcfd mbrg mints mcores mvmem mheld mnoted mlic ?_
    | split
    | dsimp only

theorem execMaintenanceAtBoundary_frame {P : List Part} {t₀ : State} (dt : Nat) (s : State) (mmod : Part.mod ∈ P) (mvrc : Part.vrc ∈ P) (mrot : Part.rot ∈ P) (mcys : Part.cys ∈ P) (mbanks : Part.banks ∈ P) (mchans : Part.chans ∈ P) (mxn : Part.xn ∈ P) (mrecd : Part.recd ∈ P) (mkiln : Part.kiln ∈ P) (mtwl : Part.twl ∈ P) (mints : Part.ints ∈ P) (mheld : Part.held ∈ P) (mnoted : Part.noted ∈ P) (mlic : Part.lic ∈ P) (h₀ : SameBut P t₀ (advance dt s)) :
    OutFr P t₀ (execMaintenanceAtBoundary dt s) := by
  unfold execMaintenanceAtBoundary
  repeat' first
    | with_reducible assumption
    | (rename_i hq; have hq2 := congrArg Prod.snd hq; with_reducible dsimp only at hq2; subst hq2)
    | simp only [↓fr_mk_iff, true_or, or_true, mmod, mvrc, mrot, mcys, mbanks, mchans, mxn, mrecd, mkiln, mtwl, mints, mheld, mnoted, mlic]
    | with_reducible refine fr_ite ?_ ?_
    | with_reducible refine outFr_ite ?_ ?_
    | with_reducible refine outFr_next.2 ?_
    | with_reducible refine fr_ite2 ?_ ?_
    | with_reducible refine fr_foldl ?_ (fun _ _ _ => ?_)
    | with_reducible refine enterMaintenance_frame _ mmod mvrc mrot mcys mbanks mchans mxn mrecd mkiln mtwl mints mheld mnoted mlic ?_
    | split
    | dsimp only

theorem wakeNow_frame {P : List Part} {t₀ : State} (cause src : Nat) (s : State) (mmod : Part.mod ∈ P) (mpwr : Part.pwr ∈ P) (mvrc : Part.vrc ∈ P) (mrot : Part.rot ∈ P) (mcys : Part.cys ∈ P) (mclk : Part.clk ∈ P) (mbanks : Part.banks ∈ P) (mchans : Part.chans ∈ P) (mxn : Part.xn ∈ P) (mrecd : Part.recd ∈ P) (mboot : Part.boot ∈ P) (mkiln : Part.kiln ∈ P) (mtwl : Part.twl ∈ P) (mlnc : Part.lnc ∈ P) (mcpn : Part.cpn ∈ P) (mcfd : Part.cfd ∈ P) (mbrg : Part.brg ∈ P) (mints : Part.ints ∈ P) (mcores : Part.cores ∈ P) (mvmem : Part.vmem ∈ P) (mheld : Part.held ∈ P) (mnoted : Part.noted ∈ P) (mlic : Part.lic ∈ P) (h₀ : SameBut P t₀ s) :
    SameBut P t₀ (wakeNow cause src s) := by
  unfold wakeNow
  repeat' first
    | with_reducible assumption
    | (rename_i hq; have hq2 := congrArg Prod.snd hq; with_reducible dsimp only at hq2; subst hq2)
    | simp only [↓fr_mk_iff, true_or, or_true, mmod, mpwr, mvrc, mrot, mcys, mclk, mbanks, mchans, mxn, mrecd, mboot, mkiln, mtwl, mlnc, mcpn, mcfd, mbrg, mints, mcores, mvmem, mheld, mnoted, mlic]
    | with_reducible refine fr_ite ?_ ?_
    | with_reducible refine outFr_ite ?_ ?_
    | with_reducible refine outFr_next.2 ?_
    | with_reducible refine fr_ite2 ?_ ?_
    | with_reducible refine fr_foldl ?_ (fun _ _ _ => ?_)
    | with_reducible refine moduleReset_frame _ _ _ mmod mpwr mvrc mrot mcys mclk mbanks mchans mxn mrecd mboot mkiln mtwl mlnc mcpn mcfd mbrg mints mcores mvmem mheld mnoted mlic ?_ | with_reducible refine record_frame _ _ _ _ _ _ mrecd mnoted ?_
    | split
    | dsimp only

theorem wake_frame {P : List Part} {t₀ : State} (cause src : Nat) (s : State) (mmod : Part.mod ∈ P) (mpwr : Part.pwr ∈ P) (mvrc : Part.vrc ∈ P) (mrot : Part.rot ∈ P) (mcys : Part.cys ∈ P) (mclk : Part.clk ∈ P) (mbanks : Part.banks ∈ P) (mchans : Part.chans ∈ P) (mxn : Part.xn ∈ P) (mrecd : Part.recd ∈ P) (mboot : Part.boot ∈ P) (mkiln : Part.kiln ∈ P) (mtwl : Part.twl ∈ P) (mlnc : Part.lnc ∈ P) (mcpn : Part.cpn ∈ P) (mcfd : Part.cfd ∈ P) (mbrg : Part.brg ∈ P) (mints : Part.ints ∈ P) (mcores : Part.cores ∈ P) (mvmem : Part.vmem ∈ P) (mheld : Part.held ∈ P) (mnoted : Part.noted ∈ P) (mlic : Part.lic ∈ P) (h₀ : SameBut P t₀ s) :
    SameBut P t₀ (wake cause src s) := by
  unfold wake
  repeat' first
    | with_reducible assumption
    | (rename_i hq; have hq2 := congrArg Prod.snd hq; with_reducible dsimp only at hq2; subst hq2)
    | simp only [↓fr_mk_iff, true_or, or_true, mmod, mpwr, mvrc, mrot, mcys, mclk, mbanks, mchans, mxn, mrecd, mboot, mkiln, mtwl, mlnc, mcpn, mcfd, mbrg, mints, mcores, mvmem, mheld, mnoted, mlic]
    | with_reducible refine fr_ite ?_ ?_
    | with_reducible refine outFr_ite ?_ ?_
    | with_reducible refine outFr_next.2 ?_
    | with_reducible refine fr_ite2 ?_ ?_
    | with_reducible refine fr_foldl ?_ (fun _ _ _ => ?_)
    | with_reducible refine wakeNow_frame _ _ _ mmod mpwr mvrc mrot mcys mclk mbanks mchans mxn mrecd mboot mkiln mtwl mlnc mcpn mcfd mbrg mints mcores mvmem mheld mnoted mlic ?_ | with_reducible refine setPwr_frame _ _ mpwr ?_
    | split
    | dsimp only

theorem execBankedWake_frame {P : List Part} {t₀ : State} (cause : Fin 4) (source : Nat) (s : State) (mmod : Part.mod ∈ P) (mpwr : Part.pwr ∈ P) (mvrc : Part.vrc ∈ P) (mrot : Part.rot ∈ P) (mcys : Part.cys ∈ P) (mclk : Part.clk ∈ P) (mbanks : Part.banks ∈ P) (mchans : Part.chans ∈ P) (mxn : Part.xn ∈ P) (mrecd : Part.recd ∈ P) (mboot : Part.boot ∈ P) (mkiln : Part.kiln ∈ P) (mtwl : Part.twl ∈ P) (mlnc : Part.lnc ∈ P) (mcpn : Part.cpn ∈ P) (mcfd : Part.cfd ∈ P) (mbrg : Part.brg ∈ P) (mints : Part.ints ∈ P) (mcores : Part.cores ∈ P) (mvmem : Part.vmem ∈ P) (mheld : Part.held ∈ P) (mnoted : Part.noted ∈ P) (mlic : Part.lic ∈ P) (h₀ : SameBut P t₀ s) :
    OutFr P t₀ (execBankedWake cause source s) := by
  unfold execBankedWake
  repeat' first
    | with_reducible assumption
    | (rename_i hq; have hq2 := congrArg Prod.snd hq; with_reducible dsimp only at hq2; subst hq2)
    | simp only [↓fr_mk_iff, true_or, or_true, mmod, mpwr, mvrc, mrot, mcys, mclk, mbanks, mchans, mxn, mrecd, mboot, mkiln, mtwl, mlnc, mcpn, mcfd, mbrg, mints, mcores, mvmem, mheld, mnoted, mlic]
    | with_reducible refine fr_ite ?_ ?_
    | with_reducible refine outFr_ite ?_ ?_
    | with_reducible refine outFr_next.2 ?_
    | with_reducible refine fr_ite2 ?_ ?_
    | with_reducible refine fr_foldl ?_ (fun _ _ _ => ?_)
    | with_reducible refine wake_frame _ _ _ mmod mpwr mvrc mrot mcys mclk mbanks mchans mxn mrecd mboot mkiln mtwl mlnc mcpn mcfd mbrg mints mcores mvmem mheld mnoted mlic ?_
    | split
    | dsimp only

theorem execBankedPowerStateReached_frame {P : List Part} {t₀ : State} (dt : Nat) (s : State) (mmod : Part.mod ∈ P) (mpwr : Part.pwr ∈ P) (mvrc : Part.vrc ∈ P) (mrot : Part.rot ∈ P) (mcys : Part.cys ∈ P) (mclk : Part.clk ∈ P) (mtim : Part.tim ∈ P) (mbanks : Part.banks ∈ P) (mchans : Part.chans ∈ P) (mxn : Part.xn ∈ P) (mrecd : Part.recd ∈ P) (mboot : Part.boot ∈ P) (mkiln : Part.kiln ∈ P) (mtwl : Part.twl ∈ P) (mlnc : Part.lnc ∈ P) (mcpn : Part.cpn ∈ P) (mcfd : Part.cfd ∈ P) (mbrg : Part.brg ∈ P) (mints : Part.ints ∈ P) (mcores : Part.cores ∈ P) (mvmem : Part.vmem ∈ P) (mheld : Part.held ∈ P) (mnoted : Part.noted ∈ P) (mlic : Part.lic ∈ P) (h₀ : SameBut P t₀ (advance dt s)) :
    OutFr P t₀ (execBankedPowerStateReached dt s) := by
  unfold execBankedPowerStateReached
  repeat' first
    | with_reducible assumption
    | (rename_i hq; have hq2 := congrArg Prod.snd hq; with_reducible dsimp only at hq2; subst hq2)
    | simp only [↓fr_mk_iff, true_or, or_true, mmod, mpwr, mvrc, mrot, mcys, mclk, mtim, mbanks, mchans, mxn, mrecd, mboot, mkiln, mtwl, mlnc, mcpn, mcfd, mbrg, mints, mcores, mvmem, mheld, mnoted, mlic]
    | with_reducible refine fr_ite ?_ ?_
    | with_reducible refine outFr_ite ?_ ?_
    | with_reducible refine outFr_next.2 ?_
    | with_reducible refine fr_ite2 ?_ ?_
    | with_reducible refine fr_foldl ?_ (fun _ _ _ => ?_)
    | with_reducible refine linkSet_frame _ _ _ mclk mtim mrecd mlnc mcpn mints mheld mnoted mlic ?_ | with_reducible refine record_frame _ _ _ _ _ _ mrecd mnoted ?_ | with_reducible refine setPwr_frame _ _ mpwr ?_ | with_reducible refine wakeNow_frame _ _ _ mmod mpwr mvrc mrot mcys mclk mbanks mchans mxn mrecd mboot mkiln mtwl mlnc mcpn mcfd mbrg mints mcores mvmem mheld mnoted mlic ?_
    | split
    | dsimp only

theorem execGdpWake_frame {P : List Part} {t₀ : State} (port : Fin 4) (client : BitVec 32) (s : State) (mmod : Part.mod ∈ P) (mpwr : Part.pwr ∈ P) (mvrc : Part.vrc ∈ P) (mrot : Part.rot ∈ P) (mcys : Part.cys ∈ P) (mclk : Part.clk ∈ P) (mbanks : Part.banks ∈ P) (mchans : Part.chans ∈ P) (mxn : Part.xn ∈ P) (mrecd : Part.recd ∈ P) (mboot : Part.boot ∈ P) (mkiln : Part.kiln ∈ P) (mtwl : Part.twl ∈ P) (mlnc : Part.lnc ∈ P) (mcpn : Part.cpn ∈ P) (mcfd : Part.cfd ∈ P) (mbrg : Part.brg ∈ P) (mints : Part.ints ∈ P) (mcores : Part.cores ∈ P) (mvmem : Part.vmem ∈ P) (mheld : Part.held ∈ P) (mnoted : Part.noted ∈ P) (mlic : Part.lic ∈ P) (h₀ : SameBut P t₀ s) :
    OutFr P t₀ (execGdpWake port client s) := by
  unfold execGdpWake
  repeat' first
    | with_reducible assumption
    | (rename_i hq; have hq2 := congrArg Prod.snd hq; with_reducible dsimp only at hq2; subst hq2)
    | simp only [↓fr_mk_iff, true_or, or_true, mmod, mpwr, mvrc, mrot, mcys, mclk, mbanks, mchans, mxn, mrecd, mboot, mkiln, mtwl, mlnc, mcpn, mcfd, mbrg, mints, mcores, mvmem, mheld, mnoted, mlic]
    | with_reducible refine fr_ite ?_ ?_
    | with_reducible refine outFr_ite ?_ ?_
    | with_reducible refine outFr_next.2 ?_
    | with_reducible refine fr_ite2 ?_ ?_
    | with_reducible refine fr_foldl ?_ (fun _ _ _ => ?_)
    | with_reducible refine wake_frame _ _ _ mmod mpwr mvrc mrot mcys mclk mbanks mchans mxn mrecd mboot mkiln mtwl mlnc mcpn mcfd mbrg mints mcores mvmem mheld mnoted mlic ?_ | with_reducible refine record_frame _ _ _ _ _ _ mrecd mnoted ?_
    | split
    | dsimp only

theorem execKilnWatchdogReset_frame {P : List Part} {t₀ : State} (s : State) (mmod : Part.mod ∈ P) (mpwr : Part.pwr ∈ P) (mvrc : Part.vrc ∈ P) (mrot : Part.rot ∈ P) (mcys : Part.cys ∈ P) (mclk : Part.clk ∈ P) (mbanks : Part.banks ∈ P) (mchans : Part.chans ∈ P) (mxn : Part.xn ∈ P) (mrecd : Part.recd ∈ P) (mboot : Part.boot ∈ P) (mkiln : Part.kiln ∈ P) (mtwl : Part.twl ∈ P) (mlnc : Part.lnc ∈ P) (mcpn : Part.cpn ∈ P) (mcfd : Part.cfd ∈ P) (mbrg : Part.brg ∈ P) (mints : Part.ints ∈ P) (mcores : Part.cores ∈ P) (mvmem : Part.vmem ∈ P) (mheld : Part.held ∈ P) (mnoted : Part.noted ∈ P) (mlic : Part.lic ∈ P) (h₀ : SameBut P t₀ s) :
    OutFr P t₀ (execKilnWatchdogReset s) := by
  unfold execKilnWatchdogReset
  repeat' first
    | with_reducible assumption
    | (rename_i hq; have hq2 := congrArg Prod.snd hq; with_reducible dsimp only at hq2; subst hq2)
    | simp only [↓fr_mk_iff, true_or, or_true, mmod, mpwr, mvrc, mrot, mcys, mclk, mbanks, mchans, mxn, mrecd, mboot, mkiln, mtwl, mlnc, mcpn, mcfd, mbrg, mints, mcores, mvmem, mheld, mnoted, mlic]
    | with_reducible refine fr_ite ?_ ?_
    | with_reducible refine outFr_ite ?_ ?_
    | with_reducible refine outFr_next.2 ?_
    | with_reducible refine fr_ite2 ?_ ?_
    | with_reducible refine fr_foldl ?_ (fun _ _ _ => ?_)
    | with_reducible refine moduleReset_frame _ _ _ mmod mpwr mvrc mrot mcys mclk mbanks mchans mxn mrecd mboot mkiln mtwl mlnc mcpn mcfd mbrg mints mcores mvmem mheld mnoted mlic ?_
    | split
    | dsimp only

theorem execPowerFailWarning_frame {P : List Part} {t₀ : State} (volt : BitVec 16) (s : State) (mpwr : Part.pwr ∈ P) (mrecd : Part.recd ∈ P) (h₀ : SameBut P t₀ s) :
    OutFr P t₀ (execPowerFailWarning volt s) := by
  unfold execPowerFailWarning
  repeat' first
    | with_reducible assumption
    | (rename_i hq; have hq2 := congrArg Prod.snd hq; with_reducible dsimp only at hq2; subst hq2)
    | simp only [↓fr_mk_iff, true_or, or_true, mpwr, mrecd]
    | with_reducible refine fr_ite ?_ ?_
    | with_reducible refine outFr_ite ?_ ?_
    | with_reducible refine outFr_next.2 ?_
    | with_reducible refine fr_ite2 ?_ ?_
    | with_reducible refine fr_foldl ?_ (fun _ _ _ => ?_)
    | with_reducible refine setPwr_frame _ _ mpwr ?_
    | split
    | dsimp only

theorem powerDown_frame {P : List Part} {t₀ : State} (cause : Nat) (s : State) (mmod : Part.mod ∈ P) (mpwr : Part.pwr ∈ P) (mvrc : Part.vrc ∈ P) (mrot : Part.rot ∈ P) (mcys : Part.cys ∈ P) (mbanks : Part.banks ∈ P) (mchans : Part.chans ∈ P) (mxn : Part.xn ∈ P) (mrecd : Part.recd ∈ P) (mboot : Part.boot ∈ P) (mkiln : Part.kiln ∈ P) (mtwl : Part.twl ∈ P) (mcpn : Part.cpn ∈ P) (mcfd : Part.cfd ∈ P) (mbrg : Part.brg ∈ P) (mbw : Part.bw ∈ P) (mints : Part.ints ∈ P) (mmems : Part.mems ∈ P) (mcores : Part.cores ∈ P) (mvmem : Part.vmem ∈ P) (mheld : Part.held ∈ P) (mnoted : Part.noted ∈ P) (mlic : Part.lic ∈ P) (h₀ : SameBut P t₀ s) :
    SameBut P t₀ (powerDown cause s) := by
  unfold powerDown
  repeat' first
    | with_reducible assumption
    | (rename_i hq; have hq2 := congrArg Prod.snd hq; with_reducible dsimp only at hq2; subst hq2)
    | simp only [↓fr_mk_iff, true_or, or_true, mmod, mpwr, mvrc, mrot, mcys, mbanks, mchans, mxn, mrecd, mboot, mkiln, mtwl, mcpn, mcfd, mbrg, mbw, mints, mmems, mcores, mvmem, mheld, mnoted, mlic]
    | with_reducible refine fr_ite ?_ ?_
    | with_reducible refine outFr_ite ?_ ?_
    | with_reducible refine outFr_next.2 ?_
    | with_reducible refine fr_ite2 ?_ ?_
    | with_reducible refine fr_foldl ?_ (fun _ _ _ => ?_)
    | with_reducible refine twinRole_frame _ _ _ mrecd mtwl mints mheld mnoted mlic ?_ | with_reducible refine setBoot_frame _ _ mboot ?_ | with_reducible refine domainsOff_frame _ mpwr mvrc mrot mcys mxn mrecd mkiln mtwl mcpn mcfd mbrg mbw mints mmems mcores mvmem mheld mnoted mlic ?_ | with_reducible refine enterSafeHold_frame _ _ mmod mvrc mrot mcys mbanks mchans mxn mrecd mkiln mtwl mints mheld mnoted mlic ?_
    | split
    | dsimp only

theorem execPowerFail_frame {P : List Part} {t₀ : State} (dt : Nat) (volt : BitVec 16) (s : State) (mmod : Part.mod ∈ P) (mpwr : Part.pwr ∈ P) (mvrc : Part.vrc ∈ P) (mrot : Part.rot ∈ P) (mcys : Part.cys ∈ P) (mbanks : Part.banks ∈ P) (mchans : Part.chans ∈ P) (mxn : Part.xn ∈ P) (mrecd : Part.recd ∈ P) (mboot : Part.boot ∈ P) (mkiln : Part.kiln ∈ P) (mtwl : Part.twl ∈ P) (mcpn : Part.cpn ∈ P) (mcfd : Part.cfd ∈ P) (mbrg : Part.brg ∈ P) (mbw : Part.bw ∈ P) (mints : Part.ints ∈ P) (mmems : Part.mems ∈ P) (mcores : Part.cores ∈ P) (mvmem : Part.vmem ∈ P) (mheld : Part.held ∈ P) (mnoted : Part.noted ∈ P) (mlic : Part.lic ∈ P) (h₀ : SameBut P t₀ (advance dt s)) :
    OutFr P t₀ (execPowerFail dt volt s) := by
  unfold execPowerFail
  repeat' first
    | with_reducible assumption
    | (rename_i hq; have hq2 := congrArg Prod.snd hq; with_reducible dsimp only at hq2; subst hq2)
    | simp only [↓fr_mk_iff, true_or, or_true, mmod, mpwr, mvrc, mrot, mcys, mbanks, mchans, mxn, mrecd, mboot, mkiln, mtwl, mcpn, mcfd, mbrg, mbw, mints, mmems, mcores, mvmem, mheld, mnoted, mlic]
    | with_reducible refine fr_ite ?_ ?_
    | with_reducible refine outFr_ite ?_ ?_
    | with_reducible refine outFr_next.2 ?_
    | with_reducible refine fr_ite2 ?_ ?_
    | with_reducible refine fr_foldl ?_ (fun _ _ _ => ?_)
    | with_reducible refine powerDown_frame _ _ mmod mpwr mvrc mrot mcys mbanks mchans mxn mrecd mboot mkiln mtwl mcpn mcfd mbrg mbw mints mmems mcores mvmem mheld mnoted mlic ?_ | with_reducible refine record_frame _ _ _ _ _ _ mrecd mnoted ?_ | with_reducible refine setPwr_frame _ _ mpwr ?_
    | split
    | dsimp only

theorem supplyDip_frame {P : List Part} {t₀ : State} (us volt : Nat) (s : State) (mpwr : Part.pwr ∈ P) (mrecd : Part.recd ∈ P) (mnoted : Part.noted ∈ P) (h₀ : SameBut P t₀ s) :
    SameBut P t₀ (supplyDip us volt s) := by
  unfold supplyDip
  repeat' first
    | with_reducible assumption
    | (rename_i hq; have hq2 := congrArg Prod.snd hq; with_reducible dsimp only at hq2; subst hq2)
    | simp only [↓fr_mk_iff, true_or, or_true, mpwr, mrecd, mnoted]
    | with_reducible refine fr_ite ?_ ?_
    | with_reducible refine outFr_ite ?_ ?_
    | with_reducible refine outFr_next.2 ?_
    | with_reducible refine fr_ite2 ?_ ?_
    | with_reducible refine fr_foldl ?_ (fun _ _ _ => ?_)
    | with_reducible refine record_frame _ _ _ _ _ _ mrecd mnoted ?_ | with_reducible refine setPwr_frame _ _ mpwr ?_
    | split
    | dsimp only

theorem execSupplyReturn_frame {P : List Part} {t₀ : State} (us : BitVec 32) (volt : BitVec 16) (s : State) (mdrawn : Part.drawn ∈ P) (mmod : Part.mod ∈ P) (mpwr : Part.pwr ∈ P) (mvrc : Part.vrc ∈ P) (mrot : Part.rot ∈ P) (mcys : Part.cys ∈ P) (mclk : Part.clk ∈ P) (mtim : Part.tim ∈ P) (mbanks : Part.banks ∈ P) (mchans : Part.chans ∈ P) (mxn : Part.xn ∈ P) (mrecd : Part.recd ∈ P) (mboot : Part.boot ∈ P) (mkiln : Part.kiln ∈ P) (mtwl : Part.twl ∈ P) (mlnc : Part.lnc ∈ P) (mcpn : Part.cpn ∈ P) (mcfd : Part.cfd ∈ P) (mbrg : Part.brg ∈ P) (mbw : Part.bw ∈ P) (mints : Part.ints ∈ P) (mmems : Part.mems ∈ P) (mcores : Part.cores ∈ P) (mvmem : Part.vmem ∈ P) (mheld : Part.held ∈ P) (mnoted : Part.noted ∈ P) (mlic : Part.lic ∈ P) (mmram : Part.mram ∈ P) (h₀ : SameBut P t₀ s) :
    OutFr P t₀ (execSupplyReturn us volt s) := by
  unfold execSupplyReturn
  repeat' first
    | with_reducible assumption
    | (rename_i hq; have hq2 := congrArg Prod.snd hq; with_reducible dsimp only at hq2; subst hq2)
    | simp only [↓fr_mk_iff, true_or, or_true, mdrawn, mmod, mpwr, mvrc, mrot, mcys, mclk, mtim, mbanks, mchans, mxn, mrecd, mboot, mkiln, mtwl, mlnc, mcpn, mcfd, mbrg, mbw, mints, mmems, mcores, mvmem, mheld, mnoted, mlic, mmram]
    | with_reducible refine fr_ite ?_ ?_
    | with_reducible refine outFr_ite ?_ ?_
    | with_reducible refine outFr_next.2 ?_
    | with_reducible refine fr_ite2 ?_ ?_
    | with_reducible refine fr_foldl ?_ (fun _ _ _ => ?_)
    | with_reducible refine supplyDip_frame _ _ _ mpwr mrecd mnoted ?_ | with_reducible refine wake_frame _ _ _ mmod mpwr mvrc mrot mcys mclk mbanks mchans mxn mrecd mboot mkiln mtwl mlnc mcpn mcfd mbrg mints mcores mvmem mheld mnoted mlic ?_ | with_reducible refine setPwr_frame _ _ mpwr ?_ | with_reducible refine toCold_frame _ _ _ mdrawn mmod mpwr mvrc mrot mcys mclk mtim mbanks mchans mxn mrecd mboot mkiln mtwl mlnc mcpn mcfd mbrg mbw mints mmems mcores mvmem mheld mnoted mlic mmram ?_
    | split
    | dsimp only

theorem execHoldupExhausted_frame {P : List Part} {t₀ : State} (s : State) (mdrawn : Part.drawn ∈ P) (mmod : Part.mod ∈ P) (mpwr : Part.pwr ∈ P) (mvrc : Part.vrc ∈ P) (mrot : Part.rot ∈ P) (mcys : Part.cys ∈ P) (mclk : Part.clk ∈ P) (mtim : Part.tim ∈ P) (mbanks : Part.banks ∈ P) (mchans : Part.chans ∈ P) (mxn : Part.xn ∈ P) (mrecd : Part.recd ∈ P) (mboot : Part.boot ∈ P) (mkiln : Part.kiln ∈ P) (mtwl : Part.twl ∈ P) (mlnc : Part.lnc ∈ P) (mcpn : Part.cpn ∈ P) (mcfd : Part.cfd ∈ P) (mbrg : Part.brg ∈ P) (mbw : Part.bw ∈ P) (mints : Part.ints ∈ P) (mmems : Part.mems ∈ P) (mcores : Part.cores ∈ P) (mvmem : Part.vmem ∈ P) (mheld : Part.held ∈ P) (mnoted : Part.noted ∈ P) (mlic : Part.lic ∈ P) (mmram : Part.mram ∈ P) (h₀ : SameBut P t₀ s) :
    OutFr P t₀ (execHoldupExhausted s) := by
  unfold execHoldupExhausted
  repeat' first
    | with_reducible assumption
    | (rename_i hq; have hq2 := congrArg Prod.snd hq; with_reducible dsimp only at hq2; subst hq2)
    | simp only [↓fr_mk_iff, true_or, or_true, mdrawn, mmod, mpwr, mvrc, mrot, mcys, mclk, mtim, mbanks, mchans, mxn, mrecd, mboot, mkiln, mtwl, mlnc, mcpn, mcfd, mbrg, mbw, mints, mmems, mcores, mvmem, mheld, mnoted, mlic, mmram]
    | with_reducible refine fr_ite ?_ ?_
    | with_reducible refine outFr_ite ?_ ?_
    | with_reducible refine outFr_next.2 ?_
    | with_reducible refine fr_ite2 ?_ ?_
    | with_reducible refine fr_foldl ?_ (fun _ _ _ => ?_)
    | with_reducible refine toCold_frame _ _ _ mdrawn mmod mpwr mvrc mrot mcys mclk mtim mbanks mchans mxn mrecd mboot mkiln mtwl mlnc mcpn mcfd mbrg mbw mints mmems mcores mvmem mheld mnoted mlic mmram ?_
    | split
    | dsimp only

theorem execBrownOutReset_frame {P : List Part} {t₀ : State} (railTrip : Bool) (s : State) (mdrawn : Part.drawn ∈ P) (mmod : Part.mod ∈ P) (mpwr : Part.pwr ∈ P) (mvrc : Part.vrc ∈ P) (mrot : Part.rot ∈ P) (mcys : Part.cys ∈ P) (mclk : Part.clk ∈ P) (mtim : Part.tim ∈ P) (mbanks : Part.banks ∈ P) (mchans : Part.chans ∈ P) (mxn : Part.xn ∈ P) (mrecd : Part.recd ∈ P) (mboot : Part.boot ∈ P) (mkiln : Part.kiln ∈ P) (mtwl : Part.twl ∈ P) (mlnc : Part.lnc ∈ P) (mcpn : Part.cpn ∈ P) (mcfd : Part.cfd ∈ P) (mbrg : Part.brg ∈ P) (mbw : Part.bw ∈ P) (mints : Part.ints ∈ P) (mmems : Part.mems ∈ P) (mcores : Part.cores ∈ P) (mvmem : Part.vmem ∈ P) (mheld : Part.held ∈ P) (mnoted : Part.noted ∈ P) (mlic : Part.lic ∈ P) (mmram : Part.mram ∈ P) (h₀ : SameBut P t₀ s) :
    OutFr P t₀ (execBrownOutReset railTrip s) := by
  unfold execBrownOutReset
  repeat' first
    | with_reducible assumption
    | (rename_i hq; have hq2 := congrArg Prod.snd hq; with_reducible dsimp only at hq2; subst hq2)
    | simp only [↓fr_mk_iff, true_or, or_true, mdrawn, mmod, mpwr, mvrc, mrot, mcys, mclk, mtim, mbanks, mchans, mxn, mrecd, mboot, mkiln, mtwl, mlnc, mcpn, mcfd, mbrg, mbw, mints, mmems, mcores, mvmem, mheld, mnoted, mlic, mmram]
    | with_reducible refine fr_ite ?_ ?_
    | with_reducible refine outFr_ite ?_ ?_
    | with_reducible refine outFr_next.2 ?_
    | with_reducible refine fr_ite2 ?_ ?_
    | with_reducible refine fr_foldl ?_ (fun _ _ _ => ?_)
    | with_reducible refine toCold_frame _ _ _ mdrawn mmod mpwr mvrc mrot mcys mclk mtim mbanks mchans mxn mrecd mboot mkiln mtwl mlnc mcpn mcfd mbrg mbw mints mmems mcores mvmem mheld mnoted mlic mmram ?_
    | split
    | dsimp only

theorem laneRailLost_frame {P : List Part} {t₀ : State} (l : Fin 4) (s : State) (mmod : Part.mod ∈ P) (mpwr : Part.pwr ∈ P) (mvrc : Part.vrc ∈ P) (mrot : Part.rot ∈ P) (mcys : Part.cys ∈ P) (mclk : Part.clk ∈ P) (mtim : Part.tim ∈ P) (mbanks : Part.banks ∈ P) (mchans : Part.chans ∈ P) (mxn : Part.xn ∈ P) (mrecd : Part.recd ∈ P) (mkiln : Part.kiln ∈ P) (mtwl : Part.twl ∈ P) (mlnc : Part.lnc ∈ P) (mbw : Part.bw ∈ P) (mints : Part.ints ∈ P) (mmems : Part.mems ∈ P) (mcores : Part.cores ∈ P) (mheld : Part.held ∈ P) (mnoted : Part.noted ∈ P) (mlic : Part.lic ∈ P) (h₀ : SameBut P t₀ s) :
    SameBut P t₀ (laneRailLost l s) := by
  unfold laneRailLost
  repeat' first
    | with_reducible assumption
    | (rename_i hq; have hq2 := congrArg Prod.snd hq; with_reducible dsimp only at hq2; subst hq2)
    | simp only [↓fr_mk_iff, true_or, or_true, mmod, mpwr, mvrc, mrot, mcys, mclk, mtim, mbanks, mchans, mxn, mrecd, mkiln, mtwl, mlnc, mbw, mints, mmems, mcores, mheld, mnoted, mlic]
    | with_reducible refine fr_ite ?_ ?_
    | with_reducible refine outFr_ite ?_ ?_
    | with_reducible refine outFr_next.2 ?_
    | with_reducible refine fr_ite2 ?_ ?_
    | with_reducible refine fr_foldl ?_ (fun _ _ _ => ?_)
    | with_reducible refine laneZero_frame _ _ mmems mcores mlic ?_ | with_reducible refine wideStop_frame _ _ mvrc ?_ | with_reducible refine setLane_frame _ _ _ mvrc ?_ | with_reducible refine retire_frame _ _ _ _ _ mpwr mvrc mrot mrecd mints mheld mnoted mlic ?_ | with_reducible refine laneSilent_frame _ _ _ mmod mpwr mvrc mrot mcys mclk mtim mbanks mchans mxn mrecd mkiln mtwl mlnc mbw mints mmems mcores mheld mnoted mlic ?_ | with_reducible refine toQuarantine_frame _ _ _ mpwr mvrc mrot mrecd mints mheld mnoted mlic ?_ | with_reducible refine domainRamp_frame _ mclk ?_ | with_reducible refine setPwr_frame _ _ mpwr ?_ | with_reducible refine setVote_frame _ _ _ _ mvrc mrecd mints mheld mnoted mlic ?_ | with_reducible refine lanesLeave_frame _ mvrc ?_
    | split
    | dsimp only

theorem voterLost_frame {P : List Part} {t₀ : State} (s : State) (mmod : Part.mod ∈ P) (mvrc : Part.vrc ∈ P) (mrot : Part.rot ∈ P) (mcys : Part.cys ∈ P) (mxn : Part.xn ∈ P) (mrecd : Part.recd ∈ P) (mkiln : Part.kiln ∈ P) (mtwl : Part.twl ∈ P) (mbw : Part.bw ∈ P) (mints : Part.ints ∈ P) (mvmem : Part.vmem ∈ P) (mheld : Part.held ∈ P) (mnoted : Part.noted ∈ P) (mlic : Part.lic ∈ P) (h₀ : SameBut P t₀ s) :
    SameBut P t₀ (voterLost s) := by
  unfold voterLost
  repeat' first
    | with_reducible assumption
    | (rename_i hq; have hq2 := congrArg Prod.snd hq; with_reducible dsimp only at hq2; subst hq2)
    | simp only [↓fr_mk_iff, true_or, or_true, mmod, mvrc, mrot, mcys, mxn, mrecd, mkiln, mtwl, mbw, mints, mvmem, mheld, mnoted, mlic]
    | with_reducible refine fr_ite ?_ ?_
    | with_reducible refine outFr_ite ?_ ?_
    | with_reducible refine outFr_next.2 ?_
    | with_reducible refine fr_ite2 ?_ ?_
    | with_reducible refine fr_foldl ?_ (fun _ _ _ => ?_)
    | with_reducible refine klmDiscard_frame _ mrecd mkiln mnoted ?_ | with_reducible refine busLeave_frame _ mxn mrecd mkiln mints mheld mnoted mlic ?_ | with_reducible refine twinRole_frame _ _ _ mrecd mtwl mints mheld mnoted mlic ?_ | with_reducible refine setVote_frame _ _ _ _ mvrc mrecd mints mheld mnoted mlic ?_ | with_reducible refine setModState_frame _ _ _ mmod mrecd mnoted ?_
    | split
    | dsimp only

theorem blockLost_frame {P : List Part} {t₀ : State} (d : Nat) (s : State) (mmod : Part.mod ∈ P) (mvrc : Part.vrc ∈ P) (mrot : Part.rot ∈ P) (mcys : Part.cys ∈ P) (mclk : Part.clk ∈ P) (mtim : Part.tim ∈ P) (mbanks : Part.banks ∈ P) (mchans : Part.chans ∈ P) (mxn : Part.xn ∈ P) (mrecd : Part.recd ∈ P) (mkiln : Part.kiln ∈ P) (mtwl : Part.twl ∈ P) (mlnc : Part.lnc ∈ P) (mcpn : Part.cpn ∈ P) (mcfd : Part.cfd ∈ P) (mbrg : Part.brg ∈ P) (mbw : Part.bw ∈ P) (mints : Part.ints ∈ P) (mvmem : Part.vmem ∈ P) (mheld : Part.held ∈ P) (mnoted : Part.noted ∈ P) (mlic : Part.lic ∈ P) (h₀ : SameBut P t₀ s) :
    SameBut P t₀ (blockLost d s) := by
  unfold blockLost
  repeat' first
    | with_reducible assumption
    | (rename_i hq; have hq2 := congrArg Prod.snd hq; with_reducible dsimp only at hq2; subst hq2)
    | simp only [↓fr_mk_iff, true_or, or_true, mmod, mvrc, mrot, mcys, mclk, mtim, mbanks, mchans, mxn, mrecd, mkiln, mtwl, mlnc, mcpn, mcfd, mbrg, mbw, mints, mvmem, mheld, mnoted, mlic]
    | with_reducible refine fr_ite ?_ ?_
    | with_reducible refine outFr_ite ?_ ?_
    | with_reducible refine outFr_next.2 ?_
    | with_reducible refine fr_ite2 ?_ ?_
    | with_reducible refine fr_foldl ?_ (fun _ _ _ => ?_)
    | with_reducible refine voterLost_frame _ mmod mvrc mrot mcys mxn mrecd mkiln mtwl mbw mints mvmem mheld mnoted mlic ?_ | with_reducible refine linkSet_frame _ _ _ mclk mtim mrecd mlnc mcpn mints mheld mnoted mlic ?_ | with_reducible refine busLeave_frame _ mxn mrecd mkiln mints mheld mnoted mlic ?_ | with_reducible refine networksOpen_frame _ mchans ?_ | with_reducible refine enterSafeHold_frame _ _ mmod mvrc mrot mcys mbanks mchans mxn mrecd mkiln mtwl mints mheld mnoted mlic ?_
    | split
    | dsimp only

theorem execDomainFault_frame {P : List Part} {t₀ : State} (domain : Fin 12) (mv : BitVec 32) (s : State) (mdrawn : Part.drawn ∈ P) (mmod : Part.mod ∈ P) (mpwr : Part.pwr ∈ P) (mvrc : Part.vrc ∈ P) (mrot : Part.rot ∈ P) (mcys : Part.cys ∈ P) (mclk : Part.clk ∈ P) (mtim : Part.tim ∈ P) (mbanks : Part.banks ∈ P) (mchans : Part.chans ∈ P) (mxn : Part.xn ∈ P) (mrecd : Part.recd ∈ P) (mboot : Part.boot ∈ P) (mkiln : Part.kiln ∈ P) (mtwl : Part.twl ∈ P) (mlnc : Part.lnc ∈ P) (mcpn : Part.cpn ∈ P) (mcfd : Part.cfd ∈ P) (mbrg : Part.brg ∈ P) (mbw : Part.bw ∈ P) (mints : Part.ints ∈ P) (mmems : Part.mems ∈ P) (mcores : Part.cores ∈ P) (mvmem : Part.vmem ∈ P) (mheld : Part.held ∈ P) (mnoted : Part.noted ∈ P) (mlic : Part.lic ∈ P) (mmram : Part.mram ∈ P) (h₀ : SameBut P t₀ s) :
    OutFr P t₀ (execDomainFault domain mv s) := by
  unfold execDomainFault
  repeat' first
    | with_reducible assumption
    | (rename_i hq; have hq2 := congrArg Prod.snd hq; with_reducible dsimp only at hq2; subst hq2)
    | simp only [↓fr_mk_iff, true_or, or_true, mdrawn, mmod, mpwr, mvrc, mrot, mcys, mclk, mtim, mbanks, mchans, mxn, mrecd, mboot, mkiln, mtwl, mlnc, mcpn, mcfd, mbrg, mbw, mints, mmems, mcores, mvmem, mheld, mnoted, mlic, mmram]
    | with_reducible refine fr_ite ?_ ?_
    | with_reducible refine outFr_ite ?_ ?_
    | with_reducible refine outFr_next.2 ?_
    | with_reducible refine fr_ite2 ?_ ?_
    | with_reducible refine fr_foldl ?_ (fun _ _ _ => ?_)
    | with_reducible refine record_frame _ _ _ _ _ _ mrecd mnoted ?_ | with_reducible refine setPwr_frame _ _ mpwr ?_ | with_reducible refine toCold_frame _ _ _ mdrawn mmod mpwr mvrc mrot mcys mclk mtim mbanks mchans mxn mrecd mboot mkiln mtwl mlnc mcpn mcfd mbrg mbw mints mmems mcores mvmem mheld mnoted mlic mmram ?_ | with_reducible refine laneRailLost_frame _ _ mmod mpwr mvrc mrot mcys mclk mtim mbanks mchans mxn mrecd mkiln mtwl mlnc mbw mints mmems mcores mheld mnoted mlic ?_ | with_reducible refine blockLost_frame _ _ mmod mvrc mrot mcys mclk mtim mbanks mchans mxn mrecd mkiln mtwl mlnc mcpn mcfd mbrg mbw mints mvmem mheld mnoted mlic ?_
    | split
    | dsimp only

theorem execModuleWithdrawn_frame {P : List Part} {t₀ : State} (s : State) (mmod : Part.mod ∈ P) (mpwr : Part.pwr ∈ P) (mvrc : Part.vrc ∈ P) (mrot : Part.rot ∈ P) (mcys : Part.cys ∈ P) (mbanks : Part.banks ∈ P) (mchans : Part.chans ∈ P) (mxn : Part.xn ∈ P) (mrecd : Part.recd ∈ P) (mboot : Part.boot ∈ P) (mkiln : Part.kiln ∈ P) (mtwl : Part.twl ∈ P) (mcpn : Part.cpn ∈ P) (mcfd : Part.cfd ∈ P) (mbrg : Part.brg ∈ P) (mbw : Part.bw ∈ P) (mints : Part.ints ∈ P) (mmems : Part.mems ∈ P) (mcores : Part.cores ∈ P) (mvmem : Part.vmem ∈ P) (mheld : Part.held ∈ P) (mnoted : Part.noted ∈ P) (mlic : Part.lic ∈ P) (h₀ : SameBut P t₀ s) :
    OutFr P t₀ (execModuleWithdrawn s) := by
  unfold execModuleWithdrawn
  repeat' first
    | with_reducible assumption
    | (rename_i hq; have hq2 := congrArg Prod.snd hq; with_reducible dsimp only at hq2; subst hq2)
    | simp only [↓fr_mk_iff, true_or, or_true, mmod, mpwr, mvrc, mrot, mcys, mbanks, mchans, mxn, mrecd, mboot, mkiln, mtwl, mcpn, mcfd, mbrg, mbw, mints, mmems, mcores, mvmem, mheld, mnoted, mlic]
    | with_reducible refine fr_ite ?_ ?_
    | with_reducible refine outFr_ite ?_ ?_
    | with_reducible refine outFr_next.2 ?_
    | with_reducible refine fr_ite2 ?_ ?_
    | with_reducible refine fr_foldl ?_ (fun _ _ _ => ?_)
    | with_reducible refine powerDown_frame _ _ mmod mpwr mvrc mrot mcys mbanks mchans mxn mrecd mboot mkiln mtwl mcpn mcfd mbrg mbw mints mmems mcores mvmem mheld mnoted mlic ?_ | with_reducible refine record_frame _ _ _ _ _ _ mrecd mnoted ?_ | with_reducible refine setPwr_frame _ _ mpwr ?_
    | split
    | dsimp only

theorem execTempMeasurement_frame {P : List Part} {t₀ : State} (temp : BitVec 16) (s : State) (mmod : Part.mod ∈ P) (mpwr : Part.pwr ∈ P) (mvrc : Part.vrc ∈ P) (mrot : Part.rot ∈ P) (mcys : Part.cys ∈ P) (mbanks : Part.banks ∈ P) (mchans : Part.chans ∈ P) (mxn : Part.xn ∈ P) (mrecd : Part.recd ∈ P) (mkiln : Part.kiln ∈ P) (mtwl : Part.twl ∈ P) (mints : Part.ints ∈ P) (mheld : Part.held ∈ P) (mnoted : Part.noted ∈ P) (mlic : Part.lic ∈ P) (h₀ : SameBut P t₀ s) :
    OutFr P t₀ (execTempMeasurement temp s) := by
  unfold execTempMeasurement
  repeat' first
    | with_reducible assumption
    | (rename_i hq; have hq2 := congrArg Prod.snd hq; with_reducible dsimp only at hq2; subst hq2)
    | simp only [↓fr_mk_iff, true_or, or_true, mmod, mpwr, mvrc, mrot, mcys, mbanks, mchans, mxn, mrecd, mkiln, mtwl, mints, mheld, mnoted, mlic]
    | with_reducible refine fr_ite ?_ ?_
    | with_reducible refine outFr_ite ?_ ?_
    | with_reducible refine outFr_next.2 ?_
    | with_reducible refine fr_ite2 ?_ ?_
    | with_reducible refine fr_foldl ?_ (fun _ _ _ => ?_)
    | with_reducible refine setPwr_frame _ _ mpwr ?_ | with_reducible refine record_frame _ _ _ _ _ _ mrecd mnoted ?_ | with_reducible refine enterSafeHold_frame _ _ mmod mvrc mrot mcys mbanks mchans mxn mrecd mkiln mtwl mints mheld mnoted mlic ?_
    | split
    | dsimp only

theorem dropTransfers_frame {P : List Part} {t₀ : State} (b : Session) (s : State) (mrecd : Part.recd ∈ P) (mboot : Part.boot ∈ P) (mkiln : Part.kiln ∈ P) (mnoted : Part.noted ∈ P) (h₀ : SameBut P t₀ s) :
    SameBut P t₀ (dropTransfers b s) := by
  unfold dropTransfers
  repeat' first
    | with_reducible assumption
    | (rename_i hq; have hq2 := congrArg Prod.snd hq; with_reducible dsimp only at hq2; subst hq2)
    | simp only [↓fr_mk_iff, true_or, or_true, mrecd, mboot, mkiln, mnoted]
    | with_reducible refine fr_ite ?_ ?_
    | with_reducible refine outFr_ite ?_ ?_
    | with_reducible refine outFr_next.2 ?_
    | with_reducible refine fr_ite2 ?_ ?_
    | with_reducible refine fr_foldl ?_ (fun _ _ _ => ?_)
    | with_reducible refine abandonFw_frame _ mrecd mboot mnoted ?_ | with_reducible refine abandonApp_frame _ mrecd mboot mnoted ?_ | with_reducible refine abandonSched_frame _ mrecd mboot mnoted ?_ | with_reducible refine setKiln_frame _ _ mkiln ?_
    | split
    | dsimp only

theorem closeSession_frame {P : List Part} {t₀ : State} (b : Session) (s : State) (mrecd : Part.recd ∈ P) (mboot : Part.boot ∈ P) (mkiln : Part.kiln ∈ P) (mnoted : Part.noted ∈ P) (h₀ : SameBut P t₀ s) :
    SameBut P t₀ (closeSession b s) := by
  unfold closeSession
  repeat' first
    | with_reducible assumption
    | (rename_i hq; have hq2 := congrArg Prod.snd hq; with_reducible dsimp only at hq2; subst hq2)
    | simp only [↓fr_mk_iff, true_or, or_true, mrecd, mboot, mkiln, mnoted]
    | with_reducible refine fr_ite ?_ ?_
    | with_reducible refine outFr_ite ?_ ?_
    | with_reducible refine outFr_next.2 ?_
    | with_reducible refine fr_ite2 ?_ ?_
    | with_reducible refine fr_foldl ?_ (fun _ _ _ => ?_)
    | with_reducible refine setSess_frame _ _ _ mkiln ?_ | with_reducible refine dropTransfers_frame _ _ mrecd mboot mkiln mnoted ?_
    | split
    | dsimp only

theorem openCan_frame {P : List Part} {t₀ : State} (ch : Fin 2) (s : State) (mkiln : Part.kiln ∈ P) (h₀ : SameBut P t₀ s) :
    SameBut P t₀ (openCan ch s) := by
  unfold openCan
  repeat' first
    | with_reducible assumption
    | (rename_i hq; have hq2 := congrArg Prod.snd hq; with_reducible dsimp only at hq2; subst hq2)
    | simp only [↓fr_mk_iff, true_or, or_true, mkiln]
    | with_reducible refine fr_ite ?_ ?_
    | with_reducible refine outFr_ite ?_ ?_
    | with_reducible refine outFr_next.2 ?_
    | with_reducible refine fr_ite2 ?_ ?_
    | with_reducible refine fr_foldl ?_ (fun _ _ _ => ?_)
    | with_reducible refine setSess_frame _ _ _ mkiln ?_
    | split
    | dsimp only

theorem paramWrite_frame {P : List Part} {t₀ : State} (b : Session) (idx sub v : Nat) (s : State) (mrecd : Part.recd ∈ P) (mkiln : Part.kiln ∈ P) (mnoted : Part.noted ∈ P) (h₀ : SameBut P t₀ s) :
    SameBut P t₀ (paramWrite b idx sub v s) := by
  unfold paramWrite
  repeat' first
    | with_reducible assumption
    | (rename_i hq; have hq2 := congrArg Prod.snd hq; with_reducible dsimp only at hq2; subst hq2)
    | simp only [↓fr_mk_iff, true_or, or_true, mrecd, mkiln, mnoted]
    | with_reducible refine fr_ite ?_ ?_
    | with_reducible refine outFr_ite ?_ ?_
    | with_reducible refine outFr_next.2 ?_
    | with_reducible refine fr_ite2 ?_ ?_
    | with_reducible refine fr_foldl ?_ (fun _ _ _ => ?_)
    | with_reducible refine record_frame _ _ _ _ _ _ mrecd mnoted ?_ | with_reducible refine putParam_frame _ _ _ _ mkiln ?_
    | split
    | dsimp only

theorem challenge_frame {P : List Part} {t₀ : State} (b : Session) (s : State) (mrot : Part.rot ∈ P) (mcys : Part.cys ∈ P) (mclk : Part.clk ∈ P) (mtim : Part.tim ∈ P) (mrecd : Part.recd ∈ P) (mkiln : Part.kiln ∈ P) (mtwl : Part.twl ∈ P) (mlnc : Part.lnc ∈ P) (mbw : Part.bw ∈ P) (mmems : Part.mems ∈ P) (mcores : Part.cores ∈ P) (mlic : Part.lic ∈ P) (h₀ : SameBut P t₀ s) :
    SameBut P t₀ (challenge b s).2 := by
  unfold challenge
  repeat' first
    | with_reducible assumption
    | (rename_i hq; have hq2 := congrArg Prod.snd hq; with_reducible dsimp only at hq2; subst hq2)
    | simp only [↓fr_mk_iff, true_or, or_true, mrot, mcys, mclk, mtim, mrecd, mkiln, mtwl, mlnc, mbw, mmems, mcores, mlic]
    | with_reducible refine fr_ite ?_ ?_
    | with_reducible refine outFr_ite ?_ ?_
    | with_reducible refine outFr_next.2 ?_
    | with_reducible refine fr_ite2 ?_ ?_
    | with_reducible refine fr_foldl ?_ (fun _ _ _ => ?_)
    | with_reducible refine advance_frame _ _ mrot mcys mclk mtim mrecd mtwl mlnc mbw mmems mcores mlic ?_ | with_reducible refine setKiln_frame _ _ mkiln ?_ | with_reducible refine setSess_frame _ _ _ mkiln ?_
    | split
    | dsimp only

theorem keyFail_frame {P : List Part} {t₀ : State} (b : Session) (why : Nat) (s : State) (mrecd : Part.recd ∈ P) (mkiln : Part.kiln ∈ P) (mnoted : Part.noted ∈ P) (h₀ : SameBut P t₀ s) :
    SameBut P t₀ (keyFail b why s) := by
  unfold keyFail
  repeat' first
    | with_reducible assumption
    | (rename_i hq; have hq2 := congrArg Prod.snd hq; with_reducible dsimp only at hq2; subst hq2)
    | simp only [↓fr_mk_iff, true_or, or_true, mrecd, mkiln, mnoted]
    | with_reducible refine fr_ite ?_ ?_
    | with_reducible refine outFr_ite ?_ ?_
    | with_reducible refine outFr_next.2 ?_
    | with_reducible refine fr_ite2 ?_ ?_
    | with_reducible refine fr_foldl ?_ (fun _ _ _ => ?_)
    | with_reducible refine record_frame _ _ _ _ _ _ mrecd mnoted ?_ | with_reducible refine setKiln_frame _ _ mkiln ?_
    | split
    | dsimp only

theorem keyChallenge_frame {P : List Part} {t₀ : State} (b : Session) (s : State) (mrot : Part.rot ∈ P) (mcys : Part.cys ∈ P) (mclk : Part.clk ∈ P) (mtim : Part.tim ∈ P) (mrecd : Part.recd ∈ P) (mkiln : Part.kiln ∈ P) (mtwl : Part.twl ∈ P) (mlnc : Part.lnc ∈ P) (mbw : Part.bw ∈ P) (mmems : Part.mems ∈ P) (mcores : Part.cores ∈ P) (mnoted : Part.noted ∈ P) (mlic : Part.lic ∈ P) (h₀ : SameBut P t₀ s) :
    SameBut P t₀ (keyChallenge b s).2 := by
  unfold keyChallenge
  repeat' first
    | with_reducible assumption
    | (rename_i hq; have hq2 := congrArg Prod.snd hq; with_reducible dsimp only at hq2; subst hq2)
    | simp only [↓fr_mk_iff, true_or, or_true, mrot, mcys, mclk, mtim, mrecd, mkiln, mtwl, mlnc, mbw, mmems, mcores, mnoted, mlic]
    | with_reducible refine fr_ite ?_ ?_
    | with_reducible refine outFr_ite ?_ ?_
    | with_reducible refine outFr_next.2 ?_
    | with_reducible refine fr_ite2 ?_ ?_
    | with_reducible refine fr_foldl ?_ (fun _ _ _ => ?_)
    | with_reducible refine record_frame _ _ _ _ _ _ mrecd mnoted ?_ | with_reducible refine challenge_frame _ _ mrot mcys mclk mtim mrecd mkiln mtwl mlnc mbw mmems mcores mlic ?_
    | split
    | dsimp only

theorem keyResponse_frame {P : List Part} {t₀ : State} (b : Session) (r : List Byte) (s : State) (mrot : Part.rot ∈ P) (mcys : Part.cys ∈ P) (mclk : Part.clk ∈ P) (mtim : Part.tim ∈ P) (mrecd : Part.recd ∈ P) (mkiln : Part.kiln ∈ P) (mtwl : Part.twl ∈ P) (mlnc : Part.lnc ∈ P) (mbw : Part.bw ∈ P) (mmems : Part.mems ∈ P) (mcores : Part.cores ∈ P) (mnoted : Part.noted ∈ P) (mlic : Part.lic ∈ P) (h₀ : SameBut P t₀ s) :
    SameBut P t₀ (keyResponse b r s).2 := by
  unfold keyResponse
  repeat' first
    | with_reducible assumption
    | (rename_i hq; have hq2 := congrArg Prod.snd hq; with_reducible dsimp only at hq2; subst hq2)
    | simp only [↓fr_mk_iff, true_or, or_true, mrot, mcys, mclk, mtim, mrecd, mkiln, mtwl, mlnc, mbw, mmems, mcores, mnoted, mlic]
    | with_reducible refine fr_ite ?_ ?_
    | with_reducible refine outFr_ite ?_ ?_
    | with_reducible refine outFr_next.2 ?_
    | with_reducible refine fr_ite2 ?_ ?_
    | with_reducible refine fr_foldl ?_ (fun _ _ _ => ?_)
    | with_reducible refine record_frame _ _ _ _ _ _ mrecd mnoted ?_ | with_reducible refine setSess_frame _ _ _ mkiln ?_ | with_reducible refine challenge_frame _ _ mrot mcys mclk mtim mrecd mkiln mtwl mlnc mbw mmems mcores mlic ?_ | with_reducible refine keyFail_frame _ _ _ mrecd mkiln mnoted ?_
    | split
    | dsimp only

theorem stageSafety_frame {P : List Part} {t₀ : State} (b : Option Session) (idx sub : Nat) (v : List Byte) (s : State) (mkiln : Part.kiln ∈ P) (mbrg : Part.brg ∈ P) (mints : Part.ints ∈ P) (mheld : Part.held ∈ P) (mlic : Part.lic ∈ P) (h₀ : SameBut P t₀ s) :
    SameBut P t₀ (stageSafety b idx sub v s) := by
  unfold stageSafety
  repeat' first
    | with_reducible assumption
    | (rename_i hq; have hq2 := congrArg Prod.snd hq; with_reducible dsimp only at hq2; subst hq2)
    | simp only [↓fr_mk_iff, true_or, or_true, mkiln, mbrg, mints, mheld, mlic]
    | with_reducible refine fr_ite ?_ ?_
    | with_reducible refine outFr_ite ?_ ?_
    | with_reducible refine outFr_next.2 ?_
    | with_reducible refine fr_ite2 ?_ ?_
    | with_reducible refine fr_foldl ?_ (fun _ _ _ => ?_)
    | with_reducible refine raise_frame _ _ mints mheld mlic ?_ | with_reducible refine setKiln_frame _ _ mkiln ?_ | with_reducible refine semKiln_frame _ _ mbrg ?_
    | split
    | dsimp only

theorem safetyWrite_frame {P : List Part} {t₀ : State} (b : Session) (idx sub : Nat) (e : DEntry) (d : List Byte) (s : State) (mcys : Part.cys ∈ P) (mrecd : Part.recd ∈ P) (mkiln : Part.kiln ∈ P) (mbrg : Part.brg ∈ P) (mints : Part.ints ∈ P) (mheld : Part.held ∈ P) (mnoted : Part.noted ∈ P) (mlic : Part.lic ∈ P) (h₀ : SameBut P t₀ s) :
    SameBut P t₀ (safetyWrite b idx sub e d s).2 := by
  unfold safetyWrite
  repeat' first
    | with_reducible assumption
    | (rename_i hq; have hq2 := congrArg Prod.snd hq; with_reducible dsimp only at hq2; subst hq2)
    | simp only [↓fr_mk_iff, true_or, or_true, mcys, mrecd, mkiln, mbrg, mints, mheld, mnoted, mlic]
    | with_reducible refine fr_ite ?_ ?_
    | with_reducible refine outFr_ite ?_ ?_
    | with_reducible refine outFr_next.2 ?_
    | with_reducible refine fr_ite2 ?_ ?_
    | with_reducible refine fr_foldl ?_ (fun _ _ _ => ?_)
    | with_reducible refine imageRefuse_frame _ _ _ _ _ _ mcys mrecd mnoted ?_ | with_reducible refine stageSafety_frame _ _ _ _ _ mkiln mbrg mints mheld mlic ?_ | with_reducible refine paramWrite_frame _ _ _ _ _ mrecd mkiln mnoted ?_
    | split
    | dsimp only

theorem safetyApply_frame {P : List Part} {t₀ : State} (idx sub v : Nat) (s : State) (mrot : Part.rot ∈ P) (mcys : Part.cys ∈ P) (mkiln : Part.kiln ∈ P) (h₀ : SameBut P t₀ s) :
    SameBut P t₀ (safetyApply idx sub v s) := by
  unfold safetyApply
  repeat' first
    | with_reducible assumption
    | (rename_i hq; have hq2 := congrArg Prod.snd hq; with_reducible dsimp only at hq2; subst hq2)
    | simp only [↓fr_mk_iff, true_or, or_true, mrot, mcys, mkiln]
    | with_reducible refine fr_ite ?_ ?_
    | with_reducible refine outFr_ite ?_ ?_
    | with_reducible refine outFr_next.2 ?_
    | with_reducible refine fr_ite2 ?_ ?_
    | with_reducible refine fr_foldl ?_ (fun _ _ _ => ?_)
    | with_reducible refine setKiln_frame _ _ mkiln ?_
    | split
    | dsimp only

theorem fwProgram_frame {P : List Part} {t₀ : State} (off : Nat) (last : Bool) (d : List Byte) (s : State) (mbanks : Part.banks ∈ P) (mrecd : Part.recd ∈ P) (mboot : Part.boot ∈ P) (mnoted : Part.noted ∈ P) (h₀ : SameBut P t₀ s) :
    SameBut P t₀ (fwProgram off last d s) := by
  unfold fwProgram
  repeat' first
    | with_reducible assumption
    | (rename_i hq; have hq2 := congrArg Prod.snd hq; with_reducible dsimp only at hq2; subst hq2)
    | simp only [↓fr_mk_iff, true_or, or_true, mbanks, mrecd, mboot, mnoted]
    | with_reducible refine fr_ite ?_ ?_
    | with_reducible refine outFr_ite ?_ ?_
    | with_reducible refine outFr_next.2 ?_
    | with_reducible refine fr_ite2 ?_ ?_
    | with_reducible refine fr_foldl ?_ (fun _ _ _ => ?_)
    | with_reducible refine setFwBank_frame _ _ _ mbanks mboot ?_ | with_reducible refine record_frame _ _ _ _ _ _ mrecd mnoted ?_ | with_reducible refine setBoot_frame _ _ mboot ?_
    | split
    | dsimp only

theorem fwErased_frame {P : List Part} {t₀ : State} (s : State) (mbanks : Part.banks ∈ P) (mrecd : Part.recd ∈ P) (mboot : Part.boot ∈ P) (mkiln : Part.kiln ∈ P) (mnoted : Part.noted ∈ P) (h₀ : SameBut P t₀ s) :
    SameBut P t₀ (fwErased s) := by
  unfold fwErased
  repeat' first
    | with_reducible assumption
    | (rename_i hq; have hq2 := congrArg Prod.snd hq; with_reducible dsimp only at hq2; subst hq2)
    | simp only [↓fr_mk_iff, true_or, or_true, mbanks, mrecd, mboot, mkiln, mnoted]
    | with_reducible refine fr_ite ?_ ?_
    | with_reducible refine outFr_ite ?_ ?_
    | with_reducible refine outFr_next.2 ?_
    | with_reducible refine fr_ite2 ?_ ?_
    | with_reducible refine fr_foldl ?_ (fun _ _ _ => ?_)
    | with_reducible refine reply_frame _ _ _ mkiln ?_ | with_reducible refine fwProgram_frame _ _ _ _ mbanks mrecd mboot mnoted ?_ | with_reducible refine setBoot_frame _ _ mboot ?_
    | split
    | dsimp only

theorem fwOpen_frame {P : List Part} {t₀ : State} (s : State) (mbanks : Part.banks ∈ P) (mrecd : Part.recd ∈ P) (mboot : Part.boot ∈ P) (mkiln : Part.kiln ∈ P) (mnoted : Part.noted ∈ P) (h₀ : SameBut P t₀ s) :
    SameBut P t₀ (fwOpen s) := by
  unfold fwOpen
  repeat' first
    | with_reducible assumption
    | (rename_i hq; have hq2 := congrArg Prod.snd hq; with_reducible dsimp only at hq2; subst hq2)
    | simp only [↓fr_mk_iff, true_or, or_true, mbanks, mrecd, mboot, mkiln, mnoted]
    | with_reducible refine fr_ite ?_ ?_
    | with_reducible refine outFr_ite ?_ ?_
    | with_reducible refine outFr_next.2 ?_
    | with_reducible refine fr_ite2 ?_ ?_
    | with_reducible refine fr_foldl ?_ (fun _ _ _ => ?_)
    | with_reducible refine record_frame _ _ _ _ _ _ mrecd mnoted ?_ | with_reducible refine setKiln_frame _ _ mkiln ?_ | with_reducible refine setBoot_frame _ _ mboot ?_ | with_reducible refine fwErased_frame _ mbanks mrecd mboot mkiln mnoted ?_ | with_reducible refine setFwBank_frame _ _ _ mbanks mboot ?_
    | split
    | dsimp only

theorem fwBlock_frame {P : List Part} {t₀ : State} (b : Session) (k : BlockIn) (s : State) (mbanks : Part.banks ∈ P) (mrecd : Part.recd ∈ P) (mboot : Part.boot ∈ P) (mkiln : Part.kiln ∈ P) (mnoted : Part.noted ∈ P) (h₀ : SameBut P t₀ s) :
    SameBut P t₀ (fwBlock b k s).2 := by
  unfold fwBlock
  repeat' first
    | with_reducible assumption
    | (rename_i hq; have hq2 := congrArg Prod.snd hq; with_reducible dsimp only at hq2; subst hq2)
    | simp only [↓fr_mk_iff, true_or, or_true, mbanks, mrecd, mboot, mkiln, mnoted]
    | with_reducible refine fr_ite ?_ ?_
    | with_reducible refine outFr_ite ?_ ?_
    | with_reducible refine outFr_next.2 ?_
    | with_reducible refine fr_ite2 ?_ ?_
    | with_reducible refine fr_foldl ?_ (fun _ _ _ => ?_)
    | with_reducible refine fwOpen_frame _ mbanks mrecd mboot mkiln mnoted ?_ | with_reducible refine setBoot_frame _ _ mboot ?_ | with_reducible refine fwProgram_frame _ _ _ _ mbanks mrecd mboot mnoted ?_ | with_reducible refine fwErased_frame _ mbanks mrecd mboot mkiln mnoted ?_
    | split
    | dsimp only

theorem appBlock_frame {P : List Part} {t₀ : State} (b : Session) (k : BlockIn) (s : State) (mboot : Part.boot ∈ P) (h₀ : SameBut P t₀ s) :
    SameBut P t₀ (appBlock b k s).2 := by
  unfold appBlock
  repeat' first
    | with_reducible assumption
    | (rename_i hq; have hq2 := congrArg Prod.snd hq; with_reducible dsimp only at hq2; subst hq2)
    | simp only [↓fr_mk_iff, true_or, or_true, mboot]
    | with_reducible refine fr_ite ?_ ?_
    | with_reducible refine outFr_ite ?_ ?_
    | with_reducible refine outFr_next.2 ?_
    | with_reducible refine fr_ite2 ?_ ?_
    | with_reducible refine fr_foldl ?_ (fun _ _ _ => ?_)
    | with_reducible refine setBoot_frame _ _ mboot ?_
    | split
    | dsimp only

theorem schedBlock_frame {P : List Part} {t₀ : State} (b : Session) (k : BlockIn) (s : State) (mxn : Part.xn ∈ P) (mrecd : Part.recd ∈ P) (mboot : Part.boot ∈ P) (mkiln : Part.kiln ∈ P) (mnoted : Part.noted ∈ P) (h₀ : SameBut P t₀ s) :
    SameBut P t₀ (schedBlock b k s).2 := by
  unfold schedBlock
  repeat' first
    | with_reducible assumption
    | (rename_i hq; have hq2 := congrArg Prod.snd hq; with_reducible dsimp only at hq2; subst hq2)
    | simp only [↓fr_mk_iff, true_or, or_true, mxn, mrecd, mboot, mkiln, mnoted]
    | with_reducible refine fr_ite ?_ ?_
    | with_reducible refine outFr_ite ?_ ?_
    | with_reducible refine outFr_next.2 ?_
    | with_reducible refine fr_ite2 ?_ ?_
    | with_reducible refine fr_foldl ?_ (fun _ _ _ => ?_)
    | with_reducible refine setBoot_frame _ _ mboot ?_ | with_reducible refine setXn_frame _ _ mxn ?_ | with_reducible refine record_frame _ _ _ _ _ _ mrecd mnoted ?_ | with_reducible refine setKiln_frame _ _ mkiln ?_
    | split
    | dsimp only

theorem fwCommand_frame {P : List Part} {t₀ : State} (v : Nat) (s : State) (mbanks : Part.banks ∈ P) (mrecd : Part.recd ∈ P) (mboot : Part.boot ∈ P) (mnoted : Part.noted ∈ P) (h₀ : SameBut P t₀ s) :
    SameBut P t₀ (fwCommand v s).2 := by
  unfold fwCommand
  repeat' first
    | with_reducible assumption
    | (rename_i hq; have hq2 := congrArg Prod.snd hq; with_reducible dsimp only at hq2; subst hq2)
    | simp only [↓fr_mk_iff, true_or, or_true, mbanks, mrecd, mboot, mnoted]
    | with_reducible refine fr_ite ?_ ?_
    | with_reducible refine outFr_ite ?_ ?_
    | with_reducible refine outFr_next.2 ?_
    | with_reducible refine fr_ite2 ?_ ?_
    | with_reducible refine fr_foldl ?_ (fun _ _ _ => ?_)
    | with_reducible refine record_frame _ _ _ _ _ _ mrecd mnoted ?_ | with_reducible refine setBoot_frame _ _ mboot ?_ | with_reducible refine setFwBank_frame _ _ _ mbanks mboot ?_
    | split
    | dsimp only

theorem onTarget_frame {P : List Part} {t₀ : State} (f : Core → Core) (s : State) (mcores : Part.cores ∈ P) (mlic : Part.lic ∈ P) (h₀ : SameBut P t₀ s) :
    SameBut P t₀ (onTarget f s) := by
  unfold onTarget
  repeat' first
    | with_reducible assumption
    | (rename_i hq; have hq2 := congrArg Prod.snd hq; with_reducible dsimp only at hq2; subst hq2)
    | simp only [↓fr_mk_iff, true_or, or_true, mcores, mlic]
    | with_reducible refine fr_ite ?_ ?_
    | with_reducible refine outFr_ite ?_ ?_
    | with_reducible refine outFr_next.2 ?_
    | with_reducible refine fr_ite2 ?_ ?_
    | with_reducible refine fr_foldl ?_ (fun _ _ _ => ?_)
    | with_reducible refine mapCores_frame _ _ _ mcores mlic ?_
    | split
    | dsimp only

theorem haltTarget_frame {P : List Part} {t₀ : State} (s : State) (mmod : Part.mod ∈ P) (mvrc : Part.vrc ∈ P) (mrot : Part.rot ∈ P) (mcys : Part.cys ∈ P) (mbanks : Part.banks ∈ P) (mchans : Part.chans ∈ P) (mxn : Part.xn ∈ P) (mrecd : Part.recd ∈ P) (mkiln : Part.kiln ∈ P) (mtwl : Part.twl ∈ P) (mints : Part.ints ∈ P) (mcores : Part.cores ∈ P) (mheld : Part.held ∈ P) (mnoted : Part.noted ∈ P) (mlic : Part.lic ∈ P) (h₀ : SameBut P t₀ s) :
    SameBut P t₀ (haltTarget s) := by
  unfold haltTarget
  repeat' first
    | with_reducible assumption
    | (rename_i hq; have hq2 := congrArg Prod.snd hq; with_reducible dsimp only at hq2; subst hq2)
    | simp only [↓fr_mk_iff, true_or, or_true, mmod, mvrc, mrot, mcys, mbanks, mchans, mxn, mrecd, mkiln, mtwl, mints, mcores, mheld, mnoted, mlic]
    | with_reducible refine fr_ite ?_ ?_
    | with_reducible refine outFr_ite ?_ ?_
    | with_reducible refine outFr_next.2 ?_
    | with_reducible refine fr_ite2 ?_ ?_
    | with_reducible refine fr_foldl ?_ (fun _ _ _ => ?_)
    | with_reducible refine onTarget_frame _ _ mcores mlic ?_ | with_reducible refine enterService_frame _ _ mmod mvrc mrot mcys mbanks mchans mxn mrecd mkiln mtwl mints mheld mnoted mlic ?_
    | split
    | dsimp only

theorem debugCommand_frame {P : List Part} {t₀ : State} (v : Nat) (s : State) (mmod : Part.mod ∈ P) (mvrc : Part.vrc ∈ P) (mrot : Part.rot ∈ P) (mcys : Part.cys ∈ P) (mbanks : Part.banks ∈ P) (mchans : Part.chans ∈ P) (mxn : Part.xn ∈ P) (mrecd : Part.recd ∈ P) (mkiln : Part.kiln ∈ P) (mtwl : Part.twl ∈ P) (mints : Part.ints ∈ P) (mcores : Part.cores ∈ P) (mheld : Part.held ∈ P) (mnoted : Part.noted ∈ P) (mlic : Part.lic ∈ P) (h₀ : SameBut P t₀ s) :
    SameBut P t₀ (debugCommand v s).2 := by
  unfold debugCommand
  repeat' first
    | with_reducible assumption
    | (rename_i hq; have hq2 := congrArg Prod.snd hq; with_reducible dsimp only at hq2; subst hq2)
    | simp only [↓fr_mk_iff, true_or, or_true, mmod, mvrc, mrot, mcys, mbanks, mchans, mxn, mrecd, mkiln, mtwl, mints, mcores, mheld, mnoted, mlic]
    | with_reducible refine fr_ite ?_ ?_
    | with_reducible refine outFr_ite ?_ ?_
    | with_reducible refine outFr_next.2 ?_
    | with_reducible refine fr_ite2 ?_ ?_
    | with_reducible refine fr_foldl ?_ (fun _ _ _ => ?_)
    | with_reducible refine record_frame _ _ _ _ _ _ mrecd mnoted ?_ | with_reducible refine haltTarget_frame _ mmod mvrc mrot mcys mbanks mchans mxn mrecd mkiln mtwl mints mcores mheld mnoted mlic ?_ | with_reducible refine onTarget_frame _ _ mcores mlic ?_
    | split
    | dsimp only

theorem debugMemWrite_frame {P : List Part} {t₀ : State} (d : List Byte) (s : State) (mmems : Part.mems ∈ P) (mcores : Part.cores ∈ P) (mlic : Part.lic ∈ P) (h₀ : SameBut P t₀ s) :
    SameBut P t₀ (debugMemWrite d s) := by
  unfold debugMemWrite
  repeat' first
    | with_reducible assumption
    | (rename_i hq; have hq2 := congrArg Prod.snd hq; with_reducible dsimp only at hq2; subst hq2)
    | simp only [↓fr_mk_iff, true_or, or_true, mmems, mcores, mlic]
    | with_reducible refine fr_ite ?_ ?_
    | with_reducible refine outFr_ite ?_ ?_
    | with_reducible refine outFr_next.2 ?_
    | with_reducible refine fr_ite2 ?_ ?_
    | with_reducible refine fr_foldl ?_ (fun _ _ _ => ?_)
    | with_reducible refine onTarget_frame _ _ mcores mlic ?_
    | split
    | dsimp only

theorem selectLane_frame {P : List Part} {t₀ : State} (v : Nat) (s : State) (mvrc : Part.vrc ∈ P) (mrecd : Part.recd ∈ P) (mints : Part.ints ∈ P) (mcores : Part.cores ∈ P) (mheld : Part.held ∈ P) (mnoted : Part.noted ∈ P) (mlic : Part.lic ∈ P) (h₀ : SameBut P t₀ s) :
    SameBut P t₀ (selectLane v s).2 := by
  unfold selectLane
  repeat' first
    | with_reducible assumption
    | (rename_i hq; have hq2 := congrArg Prod.snd hq; with_reducible dsimp only at hq2; subst hq2)
    | simp only [↓fr_mk_iff, true_or, or_true, mvrc, mrecd, mints, mcores, mheld, mnoted, mlic]
    | with_reducible refine fr_ite ?_ ?_
    | with_reducible refine outFr_ite ?_ ?_
    | with_reducible refine outFr_next.2 ?_
    | with_reducible refine fr_ite2 ?_ ?_
    | with_reducible refine fr_foldl ?_ (fun _ _ _ => ?_)
    | with_reducible refine setVote_frame _ _ _ _ mvrc mrecd mints mheld mnoted mlic ?_ | with_reducible refine setLane_frame _ _ _ mvrc ?_ | with_reducible refine laneReset_frame _ _ mvrc mcores mlic ?_
    | split
    | dsimp only

theorem gatewayStart_frame {P : List Part} {t₀ : State} (b : Session) (write : Bool) (off : Nat) (d : List Byte) (s : State) (mxn : Part.xn ∈ P) (h₀ : SameBut P t₀ s) :
    SameBut P t₀ (gatewayStart b write off d s).2 := by
  unfold gatewayStart
  repeat' first
    | with_reducible assumption
    | (rename_i hq; have hq2 := congrArg Prod.snd hq; with_reducible dsimp only at hq2; subst hq2)
    | simp only [↓fr_mk_iff, true_or, or_true, mxn]
    | with_reducible refine fr_ite ?_ ?_
    | with_reducible refine outFr_ite ?_ ?_
    | with_reducible refine outFr_next.2 ?_
    | with_reducible refine fr_ite2 ?_ ?_
    | with_reducible refine fr_foldl ?_ (fun _ _ _ => ?_)
    | with_reducible refine setXn_frame _ _ mxn ?_
    | split
    | dsimp only

theorem dictRead_frame {P : List Part} {t₀ : State} (b : Session) (idx sub off : Nat) (s : State) (mrot : Part.rot ∈ P) (mcys : Part.cys ∈ P) (mclk : Part.clk ∈ P) (mtim : Part.tim ∈ P) (mxn : Part.xn ∈ P) (mrecd : Part.recd ∈ P) (mkiln : Part.kiln ∈ P) (mtwl : Part.twl ∈ P) (mlnc : Part.lnc ∈ P) (mbw : Part.bw ∈ P) (mmems : Part.mems ∈ P) (mcores : Part.cores ∈ P) (mnoted : Part.noted ∈ P) (mlic : Part.lic ∈ P) (h₀ : SameBut P t₀ s) :
    SameBut P t₀ (dictRead b idx sub off s).2 := by
  unfold dictRead
  repeat' first
    | with_reducible assumption
    | (rename_i hq; have hq2 := congrArg Prod.snd hq; with_reducible dsimp only at hq2; subst hq2)
    | simp only [↓fr_mk_iff, true_or, or_true, mrot, mcys, mclk, mtim, mxn, mrecd, mkiln, mtwl, mlnc, mbw, mmems, mcores, mnoted, mlic]
    | with_reducible refine fr_ite ?_ ?_
    | with_reducible refine outFr_ite ?_ ?_
    | with_reducible refine outFr_next.2 ?_
    | with_reducible refine fr_ite2 ?_ ?_
    | with_reducible refine fr_foldl ?_ (fun _ _ _ => ?_)
    | with_reducible refine keyChallenge_frame _ _ mrot mcys mclk mtim mrecd mkiln mtwl mlnc mbw mmems mcores mnoted mlic ?_ | with_reducible refine gatewayStart_frame _ _ _ _ _ mxn ?_
    | split
    | dsimp only

theorem wrote_frame {P : List Part} {t₀ : State} (r : Option Nat × State) (h₀ : SameBut P t₀ r.2) : SameBut P t₀ (wrote r).2 := h₀

theorem accepted_frame {P : List Part} {t₀ : State} (s : State)  (h₀ : SameBut P t₀ s) :
    SameBut P t₀ (accepted s).2 := by
  unfold accepted
  repeat' first
    | with_reducible assumption
    | (rename_i hq; have hq2 := congrArg Prod.snd hq; with_reducible dsimp only at hq2; subst hq2)
    | simp only [↓fr_mk_iff, true_or, or_true]
    | with_reducible refine fr_ite ?_ ?_
    | with_reducible refine outFr_ite ?_ ?_
    | with_reducible refine outFr_next.2 ?_
    | with_reducible refine fr_ite2 ?_ ?_
    | with_reducible refine fr_foldl ?_ (fun _ _ _ => ?_)
    | split
    | dsimp only

theorem debugRegWrite_frame {P : List Part} {t₀ : State} (idx sub v : Nat) (s : State) (mcores : Part.cores ∈ P) (mlic : Part.lic ∈ P) (h₀ : SameBut P t₀ s) :
    SameBut P t₀ (debugRegWrite idx sub v s).2 := by
  unfold debugRegWrite
  repeat' first
    | with_reducible assumption
    | (rename_i hq; have hq2 := congrArg Prod.snd hq; with_reducible dsimp only at hq2; subst hq2)
    | simp only [↓fr_mk_iff, true_or, or_true, mcores, mlic]
    | with_reducible refine fr_ite ?_ ?_
    | with_reducible refine outFr_ite ?_ ?_
    | with_reducible refine outFr_next.2 ?_
    | with_reducible refine fr_ite2 ?_ ?_
    | with_reducible refine fr_foldl ?_ (fun _ _ _ => ?_)
    | with_reducible refine accepted_frame _  ?_ | with_reducible refine onTarget_frame _ _ mcores mlic ?_
    | split
    | dsimp only

theorem debugWrite_frame {P : List Part} {t₀ : State} (idx sub : Nat) (d : List Byte) (s : State) (mmod : Part.mod ∈ P) (mvrc : Part.vrc ∈ P) (mrot : Part.rot ∈ P) (mcys : Part.cys ∈ P) (mbanks : Part.banks ∈ P) (mchans : Part.chans ∈ P) (mxn : Part.xn ∈ P) (mrecd : Part.recd ∈ P) (mkiln : Part.kiln ∈ P) (mtwl : Part.twl ∈ P) (mints : Part.ints ∈ P) (mmems : Part.mems ∈ P) (mcores : Part.cores ∈ P) (mheld : Part.held ∈ P) (mnoted : Part.noted ∈ P) (mlic : Part.lic ∈ P) (h₀ : SameBut P t₀ s) :
    SameBut P t₀ (debugWrite idx sub d s).2 := by
  unfold debugWrite
  repeat' first
    | with_reducible assumption
    | (rename_i hq; have hq2 := congrArg Prod.snd hq; with_reducible dsimp only at hq2; subst hq2)
    | simp only [↓fr_mk_iff, true_or, or_true, mmod, mvrc, mrot, mcys, mbanks, mchans, mxn, mrecd, mkiln, mtwl, mints, mmems, mcores, mheld, mnoted, mlic]
    | with_reducible refine fr_ite ?_ ?_
    | with_reducible refine outFr_ite ?_ ?_
    | with_reducible refine outFr_next.2 ?_
    | with_reducible refine fr_ite2 ?_ ?_
    | with_reducible refine fr_foldl ?_ (fun _ _ _ => ?_)
    | with_reducible refine accepted_frame _  ?_ | with_reducible refine setKiln_frame _ _ mkiln ?_ | with_reducible refine wrote_frame _  ?_ | with_reducible refine debugCommand_frame _ _ mmod mvrc mrot mcys mbanks mchans mxn mrecd mkiln mtwl mints mcores mheld mnoted mlic ?_ | with_reducible refine debugRegWrite_frame _ _ _ _ mcores mlic ?_ | with_reducible refine debugMemWrite_frame _ _ mmems mcores mlic ?_
    | split
    | dsimp only

theorem gatewayWrite_frame {P : List Part} {t₀ : State} (b : Session) (sub : Nat) (d : List Byte) (s : State) (mxn : Part.xn ∈ P) (mkiln : Part.kiln ∈ P) (h₀ : SameBut P t₀ s) :
    SameBut P t₀ (gatewayWrite b sub d s).2 := by
  unfold gatewayWrite
  repeat' first
    | with_reducible assumption
    | (rename_i hq; have hq2 := congrArg Prod.snd hq; with_reducible dsimp only at hq2; subst hq2)
    | simp only [↓fr_mk_iff, true_or, or_true, mxn, mkiln]
    | with_reducible refine fr_ite ?_ ?_
    | with_reducible refine outFr_ite ?_ ?_
    | with_reducible refine outFr_next.2 ?_
    | with_reducible refine fr_ite2 ?_ ?_
    | with_reducible refine fr_foldl ?_ (fun _ _ _ => ?_)
    | with_reducible refine accepted_frame _  ?_ | with_reducible refine setKiln_frame _ _ mkiln ?_ | with_reducible refine gatewayStart_frame _ _ _ _ _ mxn ?_
    | split
    | dsimp only

theorem recordRange_frame {P : List Part} {t₀ : State} (b : Session) (sub v : Nat) (s : State) (mkiln : Part.kiln ∈ P) (h₀ : SameBut P t₀ s) :
    SameBut P t₀ (recordRange b sub v s) := by
  unfold recordRange
  repeat' first
    | with_reducible assumption
    | (rename_i hq; have hq2 := congrArg Prod.snd hq; with_reducible dsimp only at hq2; subst hq2)
    | simp only [↓fr_mk_iff, true_or, or_true, mkiln]
    | with_reducible refine fr_ite ?_ ?_
    | with_reducible refine outFr_ite ?_ ?_
    | with_reducible refine outFr_next.2 ?_
    | with_reducible refine fr_ite2 ?_ ?_
    | with_reducible refine fr_foldl ?_ (fun _ _ _ => ?_)
    | with_reducible refine setSess_frame _ _ _ mkiln ?_
    | split
    | dsimp only

theorem keyWrite_frame {P : List Part} {t₀ : State} (b : Session) (d : List Byte) (s : State) (mrecd : Part.recd ∈ P) (mkiln : Part.kiln ∈ P) (mnoted : Part.noted ∈ P) (h₀ : SameBut P t₀ s) :
    SameBut P t₀ (keyWrite b d s) := by
  unfold keyWrite
  repeat' first
    | with_reducible assumption
    | (rename_i hq; have hq2 := congrArg Prod.snd hq; with_reducible dsimp only at hq2; subst hq2)
    | simp only [↓fr_mk_iff, true_or, or_true, mrecd, mkiln, mnoted]
    | with_reducible refine fr_ite ?_ ?_
    | with_reducible refine outFr_ite ?_ ?_
    | with_reducible refine outFr_next.2 ?_
    | with_reducible refine fr_ite2 ?_ ?_
    | with_reducible refine fr_foldl ?_ (fun _ _ _ => ?_)
    | with_reducible refine record_frame _ _ _ _ _ _ mrecd mnoted ?_ | with_reducible refine setKiln_frame _ _ mkiln ?_
    | split
    | dsimp only

theorem wideWrite_frame {P : List Part} {t₀ : State} (b : Session) (v : Nat) (s : State) (mvrc : Part.vrc ∈ P) (mrecd : Part.recd ∈ P) (mkiln : Part.kiln ∈ P) (mnoted : Part.noted ∈ P) (h₀ : SameBut P t₀ s) :
    SameBut P t₀ (wideWrite b v s).2 := by
  unfold wideWrite
  repeat' first
    | with_reducible assumption
    | (rename_i hq; have hq2 := congrArg Prod.snd hq; with_reducible dsimp only at hq2; subst hq2)
    | simp only [↓fr_mk_iff, true_or, or_true, mvrc, mrecd, mkiln, mnoted]
    | with_reducible refine fr_ite ?_ ?_
    | with_reducible refine outFr_ite ?_ ?_
    | with_reducible refine outFr_next.2 ?_
    | with_reducible refine fr_ite2 ?_ ?_
    | with_reducible refine fr_foldl ?_ (fun _ _ _ => ?_)
    | with_reducible refine accepted_frame _  ?_ | with_reducible refine paramWrite_frame _ _ _ _ _ mrecd mkiln mnoted ?_
    | split
    | dsimp only

theorem imageCommand_frame {P : List Part} {t₀ : State} (v peer : Nat) (s : State) (mrot : Part.rot ∈ P) (mcys : Part.cys ∈ P) (mrecd : Part.recd ∈ P) (mboot : Part.boot ∈ P) (mmems : Part.mems ∈ P) (mnoted : Part.noted ∈ P) (h₀ : SameBut P t₀ s) :
    SameBut P t₀ (imageCommand v peer s).2 := by
  unfold imageCommand
  repeat' first
    | with_reducible assumption
    | (rename_i hq; have hq2 := congrArg Prod.snd hq; with_reducible dsimp only at hq2; subst hq2)
    | simp only [↓fr_mk_iff, true_or, or_true, mrot, mcys, mrecd, mboot, mmems, mnoted]
    | with_reducible refine fr_ite ?_ ?_
    | with_reducible refine outFr_ite ?_ ?_
    | with_reducible refine outFr_next.2 ?_
    | with_reducible refine fr_ite2 ?_ ?_
    | with_reducible refine fr_foldl ?_ (fun _ _ _ => ?_)
    | with_reducible refine wrote_frame _  ?_ | with_reducible refine imageStage_frame _ _ mrot mcys mrecd mboot mmems mnoted ?_ | with_reducible refine imageDiscard_frame _ mcys mrecd mnoted ?_ | with_reducible refine accepted_frame _  ?_
    | split
    | dsimp only

theorem dictWrite_frame {P : List Part} {t₀ : State} (b : Session) (idx sub : Nat) (d : List Byte) (s : State) (mmod : Part.mod ∈ P) (mpwr : Part.pwr ∈ P) (mvrc : Part.vrc ∈ P) (mrot : Part.rot ∈ P) (mcys : Part.cys ∈ P) (mclk : Part.clk ∈ P) (mtim : Part.tim ∈ P) (mbanks : Part.banks ∈ P) (mchans : Part.chans ∈ P) (mxn : Part.xn ∈ P) (mrecd : Part.recd ∈ P) (mboot : Part.boot ∈ P) (mkiln : Part.kiln ∈ P) (mtwl : Part.twl ∈ P) (mlnc : Part.lnc ∈ P) (mcpn : Part.cpn ∈ P) (mcfd : Part.cfd ∈ P) (mbrg : Part.brg ∈ P) (mbw : Part.bw ∈ P) (mints : Part.ints ∈ P) (mmems : Part.mems ∈ P) (mcores : Part.cores ∈ P) (mvmem : Part.vmem ∈ P) (mheld : Part.held ∈ P) (mnoted : Part.noted ∈ P) (mlic : Part.lic ∈ P) (h₀ : SameBut P t₀ s) :
    SameBut P t₀ (dictWrite b idx sub d s).2 := by
  unfold dictWrite
  repeat' first
    | with_reducible assumption
    | (rename_i hq; have hq2 := congrArg Prod.snd hq; with_reducible dsimp only at hq2; subst hq2)
    | simp only [↓fr_mk_iff, true_or, or_true, mmod, mpwr, mvrc, mrot, mcys, mclk, mtim, mbanks, mchans, mxn, mrecd, mboot, mkiln, mtwl, mlnc, mcpn, mcfd, mbrg, mbw, mints, mmems, mcores, mvmem, mheld, mnoted, mlic]
    | with_reducible refine fr_ite ?_ ?_
    | with_reducible refine outFr_ite ?_ ?_
    | with_reducible refine outFr_next.2 ?_
    | with_reducible refine fr_ite2 ?_ ?_
    | with_reducible refine fr_foldl ?_ (fun _ _ _ => ?_)
    | with_reducible refine safetyWrite_frame _ _ _ _ _ _ mcys mrecd mkiln mbrg mints mheld mnoted mlic ?_ | with_reducible refine wrote_frame _  ?_ | with_reducible refine stateCmd_frame _ _ mmod mpwr mvrc mrot mcys mclk mbanks mchans mxn mrecd mboot mkiln mtwl mlnc mcpn mcfd mbrg mbw mints mmems mcores mvmem mheld mnoted mlic ?_ | with_reducible refine keyResponse_frame _ _ _ mrot mcys mclk mtim mrecd mkiln mtwl mlnc mbw mmems mcores mnoted mlic ?_ | with_reducible refine accepted_frame _  ?_ | with_reducible refine keyWrite_frame _ _ _ mrecd mkiln mnoted ?_ | with_reducible refine debugWrite_frame _ _ _ _ mmod mvrc mrot mcys mbanks mchans mxn mrecd mkiln mtwl mints mmems mcores mheld mnoted mlic ?_ | with_reducible refine wideWrite_frame _ _ _ mvrc mrecd mkiln mnoted ?_ | with_reducible refine selectLane_frame _ _ mvrc mrecd mints mcores mheld mnoted mlic ?_ | with_reducible refine gatewayWrite_frame _ _ _ _ mxn mkiln ?_ | with_reducible refine recordRange_frame _ _ _ _ mkiln ?_ | with_reducible refine fwCommand_frame _ _ mbanks mrecd mboot mnoted ?_ | with_reducible refine powerCmd_frame _ _ mmod mpwr mvrc mrot mcys mclk mbanks mchans mxn mrecd mboot mkiln mtwl mlnc mcpn mcfd mbrg mints mcores mvmem mheld mnoted mlic ?_ | with_reducible refine imageCommand_frame _ _ _ mrot mcys mrecd mboot mmems mnoted ?_ | with_reducible refine paramWrite_frame _ _ _ _ _ mrecd mkiln mnoted ?_
    | split
    | dsimp only

theorem gatewayBlock_frame {P : List Part} {t₀ : State} (b : Session) (k : BlockIn) (s : State) (mxn : Part.xn ∈ P) (mkiln : Part.kiln ∈ P) (h₀ : SameBut P t₀ s) :
    SameBut P t₀ (gatewayBlock b k s).2 := by
  unfold gatewayBlock
  repeat' first
    | with_reducible assumption
    | (rename_i hq; have hq2 := congrArg Prod.snd hq; with_reducible dsimp only at hq2; subst hq2)
    | simp only [↓fr_mk_iff, true_or, or_true, mxn, mkiln]
    | with_reducible refine fr_ite ?_ ?_
    | with_reducible refine outFr_ite ?_ ?_
    | with_reducible refine outFr_next.2 ?_
    | with_reducible refine fr_ite2 ?_ ?_
    | with_reducible refine fr_foldl ?_ (fun _ _ _ => ?_)
    | with_reducible refine accepted_frame _  ?_ | with_reducible refine gatewayStart_frame _ _ _ _ _ mxn ?_ | with_reducible refine setKiln_frame _ _ mkiln ?_
    | split
    | dsimp only

theorem blockWrite_frame {P : List Part} {t₀ : State} (b : Session) (idx sub : Nat) (k : BlockIn) (s : State) (mbanks : Part.banks ∈ P) (mxn : Part.xn ∈ P) (mrecd : Part.recd ∈ P) (mboot : Part.boot ∈ P) (mkiln : Part.kiln ∈ P) (mnoted : Part.noted ∈ P) (h₀ : SameBut P t₀ s) :
    SameBut P t₀ (blockWrite b idx sub k s).2 := by
  unfold blockWrite
  repeat' first
    | with_reducible assumption
    | (rename_i hq; have hq2 := congrArg Prod.snd hq; with_reducible dsimp only at hq2; subst hq2)
    | simp only [↓fr_mk_iff, true_or, or_true, mbanks, mxn, mrecd, mboot, mkiln, mnoted]
    | with_reducible refine fr_ite ?_ ?_
    | with_reducible refine outFr_ite ?_ ?_
    | with_reducible refine outFr_next.2 ?_
    | with_reducible refine fr_ite2 ?_ ?_
    | with_reducible refine fr_foldl ?_ (fun _ _ _ => ?_)
    | with_reducible refine fwBlock_frame _ _ _ mbanks mrecd mboot mkiln mnoted ?_ | with_reducible refine appBlock_frame _ _ _ mboot ?_ | with_reducible refine schedBlock_frame _ _ _ mxn mrecd mboot mkiln mnoted ?_ | with_reducible refine gatewayBlock_frame _ _ _ mxn mkiln ?_
    | split
    | dsimp only

theorem gdpWrite_frame {P : List Part} {t₀ : State} (b : Session) (idx sub : Nat) (k : BlockIn) (s : State) (mmod : Part.mod ∈ P) (mpwr : Part.pwr ∈ P) (mvrc : Part.vrc ∈ P) (mrot : Part.rot ∈ P) (mcys : Part.cys ∈ P) (mclk : Part.clk ∈ P) (mtim : Part.tim ∈ P) (mbanks : Part.banks ∈ P) (mchans : Part.chans ∈ P) (mxn : Part.xn ∈ P) (mrecd : Part.recd ∈ P) (mboot : Part.boot ∈ P) (mkiln : Part.kiln ∈ P) (mtwl : Part.twl ∈ P) (mlnc : Part.lnc ∈ P) (mcpn : Part.cpn ∈ P) (mcfd : Part.cfd ∈ P) (mbrg : Part.brg ∈ P) (mbw : Part.bw ∈ P) (mints : Part.ints ∈ P) (mmems : Part.mems ∈ P) (mcores : Part.cores ∈ P) (mvmem : Part.vmem ∈ P) (mheld : Part.held ∈ P) (mnoted : Part.noted ∈ P) (mlic : Part.lic ∈ P) (h₀ : SameBut P t₀ s) :
    SameBut P t₀ (gdpWrite b idx sub k s).2 := by
  unfold gdpWrite
  repeat' first
    | with_reducible assumption
    | (rename_i hq; have hq2 := congrArg Prod.snd hq; with_reducible dsimp only at hq2; subst hq2)
    | simp only [↓fr_mk_iff, true_or, or_true, mmod, mpwr, mvrc, mrot, mcys, mclk, mtim, mbanks, mchans, mxn, mrecd, mboot, mkiln, mtwl, mlnc, mcpn, mcfd, mbrg, mbw, mints, mmems, mcores, mvmem, mheld, mnoted, mlic]
    | with_reducible refine fr_ite ?_ ?_
    | with_reducible refine outFr_ite ?_ ?_
    | with_reducible refine outFr_next.2 ?_
    | with_reducible refine fr_ite2 ?_ ?_
    | with_reducible refine fr_foldl ?_ (fun _ _ _ => ?_)
    | with_reducible refine blockWrite_frame _ _ _ _ _ mbanks mxn mrecd mboot mkiln mnoted ?_ | with_reducible refine dictWrite_frame _ _ _ _ _ mmod mpwr mvrc mrot mcys mclk mtim mbanks mchans mxn mrecd mboot mkiln mtwl mlnc mcpn mcfd mbrg mbw mints mmems mcores mvmem mheld mnoted mlic ?_
    | split
    | dsimp only

theorem usdoWrite_frame {P : List Part} {t₀ : State} (b : Session) (idx sub : Nat) (d : List Byte) (s : State) (mmod : Part.mod ∈ P) (mpwr : Part.pwr ∈ P) (mvrc : Part.vrc ∈ P) (mrot : Part.rot ∈ P) (mcys : Part.cys ∈ P) (mclk : Part.clk ∈ P) (mtim : Part.tim ∈ P) (mbanks : Part.banks ∈ P) (mchans : Part.chans ∈ P) (mxn : Part.xn ∈ P) (mrecd : Part.recd ∈ P) (mboot : Part.boot ∈ P) (mkiln : Part.kiln ∈ P) (mtwl : Part.twl ∈ P) (mlnc : Part.lnc ∈ P) (mcpn : Part.cpn ∈ P) (mcfd : Part.cfd ∈ P) (mbrg : Part.brg ∈ P) (mbw : Part.bw ∈ P) (mints : Part.ints ∈ P) (mmems : Part.mems ∈ P) (mcores : Part.cores ∈ P) (mvmem : Part.vmem ∈ P) (mheld : Part.held ∈ P) (mnoted : Part.noted ∈ P) (mlic : Part.lic ∈ P) (h₀ : SameBut P t₀ s) :
    SameBut P t₀ (usdoWrite b idx sub d s).2 := by
  unfold usdoWrite
  repeat' first
    | with_reducible assumption
    | (rename_i hq; have hq2 := congrArg Prod.snd hq; with_reducible dsimp only at hq2; subst hq2)
    | simp only [↓fr_mk_iff, true_or, or_true, mmod, mpwr, mvrc, mrot, mcys, mclk, mtim, mbanks, mchans, mxn, mrecd, mboot, mkiln, mtwl, mlnc, mcpn, mcfd, mbrg, mbw, mints, mmems, mcores, mvmem, mheld, mnoted, mlic]
    | with_reducible refine fr_ite ?_ ?_
    | with_reducible refine outFr_ite ?_ ?_
    | with_reducible refine outFr_next.2 ?_
    | with_reducible refine fr_ite2 ?_ ?_
    | with_reducible refine fr_foldl ?_ (fun _ _ _ => ?_)
    | with_reducible refine blockWrite_frame _ _ _ _ _ mbanks mxn mrecd mboot mkiln mnoted ?_ | with_reducible refine dictWrite_frame _ _ _ _ _ mmod mpwr mvrc mrot mcys mclk mtim mbanks mchans mxn mrecd mboot mkiln mtwl mlnc mcpn mcfd mbrg mbw mints mmems mcores mvmem mheld mnoted mlic ?_
    | split
    | dsimp only

theorem answerTo_frame {P : List Part} {t₀ : State} (b : Session) (f : State → Option Answer × State) (s : State)
    (mkiln : Part.kiln ∈ P) (hf : ∀ u, SameBut P t₀ u → SameBut P t₀ (f u).2) (h₀ : SameBut P t₀ s) : SameBut P t₀ (answerTo b f s) := by
  unfold answerTo
  have h1 := hf s h₀
  dsimp only
  split
  · exact reply_frame _ _ _ mkiln h1
  · exact h1

theorem nextRequest_frame {P : List Part} {t₀ : State} (b : Session) (s : State) (mkiln : Part.kiln ∈ P) (h₀ : SameBut P t₀ s) :
    SameBut P t₀ (nextRequest b s) := by
  unfold nextRequest
  repeat' first
    | with_reducible assumption
    | (rename_i hq; have hq2 := congrArg Prod.snd hq; with_reducible dsimp only at hq2; subst hq2)
    | simp only [↓fr_mk_iff, true_or, or_true, mkiln]
    | with_reducible refine fr_ite ?_ ?_
    | with_reducible refine outFr_ite ?_ ?_
    | with_reducible refine outFr_next.2 ?_
    | with_reducible refine fr_ite2 ?_ ?_
    | with_reducible refine fr_foldl ?_ (fun _ _ _ => ?_)
    | with_reducible refine setSess_frame _ _ _ mkiln ?_ | with_reducible refine openCan_frame _ _ mkiln ?_
    | split
    | dsimp only

theorem serve_frame {P : List Part} {t₀ : State} (b : Session) (f : State → Option Answer × State) (s : State) (mbanks : Part.banks ∈ P) (mrecd : Part.recd ∈ P) (mboot : Part.boot ∈ P) (mkiln : Part.kiln ∈ P) (mnoted : Part.noted ∈ P)
    (hf : ∀ u, SameBut P t₀ u → SameBut P t₀ (f u).2) (h₀ : SameBut P t₀ s) : SameBut P t₀ (serve b f s) := by
  unfold serve
  have h1 := fwErased_frame s mbanks mrecd mboot mkiln mnoted h₀
  exact fr_ite h1 (fr_ite (replyOnly_frame _ _ _ mkiln h1) (answerTo_frame _ _ _ mkiln hf (nextRequest_frame _ _ mkiln h1)))

theorem gdpServe_frame {P : List Part} {t₀ : State} (h : GdpHead) (f : Session → State → Option Answer × State) (s : State) (mbanks : Part.banks ∈ P) (mrecd : Part.recd ∈ P) (mboot : Part.boot ∈ P) (mkiln : Part.kiln ∈ P) (mnoted : Part.noted ∈ P)
    (hf : ∀ b u, SameBut P t₀ u → SameBut P t₀ (f b u).2) (h₀ : SameBut P t₀ s) : SameBut P t₀ (gdpServe h f s) := by
  unfold gdpServe
  have h1 := fwErased_frame s mbanks mrecd mboot mkiln mnoted h₀
  refine fr_ite h₀ ?_
  dsimp only
  split
  · exact h1
  · refine fr_ite ?_ (fr_ite (replyOnly_frame _ _ _ mkiln h1) (answerTo_frame _ _ _ mkiln (hf _) (nextRequest_frame _ _ mkiln h1)))
    split
    · exact replyOnly_frame _ _ _ mkiln h1
    · exact h1

end Sys2Proof.Machine
end

