-- ==== Sys2Proof/Laws/Frames8.lean ====
section
/-! SUPPORT. For every operation and every meaning: only the named parts differ after it. -/

set_option linter.all false

namespace Sys2Proof.Machine

open Sys2Proof

theorem gdpSlice_frame {P : List Part} {t₀ : State} (idx sub off : Nat) (r : Option Answer × State) (h₀ : SameBut P t₀ r.2) :
    SameBut P t₀ (gdpSlice idx sub off r).2 := by
  unfold gdpSlice
  split <;> exact h₀

theorem execGdpRead_frame {P : List Part} {t₀ : State} (head : GdpHead) (index : BitVec 16) (sub : BitVec 8) (offset : BitVec 32) (s : State) (mrot : Part.rot ∈ P) (mcys : Part.cys ∈ P) (mclk : Part.clk ∈ P) (mtim : Part.tim ∈ P) (mbanks : Part.banks ∈ P) (mxn : Part.xn ∈ P) (mrecd : Part.recd ∈ P) (mboot : Part.boot ∈ P) (mkiln : Part.kiln ∈ P) (mtwl : Part.twl ∈ P) (mlnc : Part.lnc ∈ P) (mbw : Part.bw ∈ P) (mmems : Part.mems ∈ P) (mcores : Part.cores ∈ P) (mnoted : Part.noted ∈ P) (mlic : Part.lic ∈ P) (h₀ : SameBut P t₀ s) :
    OutFr P t₀ (execGdpRead head index sub offset s) := by
  unfold execGdpRead
  repeat' first
    | with_reducible assumption
    | (rename_i hq; have hq2 := congrArg Prod.snd hq; with_reducible dsimp only at hq2; subst hq2)
    | simp only [↓fr_mk_iff, true_or, or_true, mrot, mcys, mclk, mtim, mbanks, mxn, mrecd, mboot, mkiln, mtwl, mlnc, mbw, mmems, mcores, mnoted, mlic]
    | with_reducible refine fr_ite ?_ ?_
    | with_reducible refine outFr_ite ?_ ?_
    | with_reducible refine outFr_next.2 ?_
    | with_reducible refine fr_ite2 ?_ ?_
    | with_reducible refine fr_foldl ?_ (fun _ _ _ => ?_)
    | (intro b u hu; dsimp only)
    | intro b u hu
    | (intro u hu; dsimp only)
    | intro u hu
    | with_reducible refine gdpServe_frame _ _ _ mbanks mrecd mboot mkiln mnoted ?_ ?_ | with_reducible refine gdpSlice_frame _ _ _ _  ?_ | with_reducible refine dictRead_frame _ _ _ _ _ mrot mcys mclk mtim mxn mrecd mkiln mtwl mlnc mbw mmems mcores mnoted mlic ?_
    | split
    | dsimp only

theorem execGdpWrite_frame {P : List Part} {t₀ : State} (head : GdpHead) (index : BitVec 16) (sub : BitVec 8) (block : BlockIn) (s : State) (mmod : Part.mod ∈ P) (mpwr : Part.pwr ∈ P) (mvrc : Part.vrc ∈ P) (mrot : Part.rot ∈ P) (mcys : Part.cys ∈ P) (mclk : Part.clk ∈ P) (mtim : Part.tim ∈ P) (mbanks : Part.banks ∈ P) (mchans : Part.chans ∈ P) (mxn : Part.xn ∈ P) (mrecd : Part.recd ∈ P) (mboot : Part.boot ∈ P) (mkiln : Part.kiln ∈ P) (mtwl : Part.twl ∈ P) (mlnc : Part.lnc ∈ P) (mcpn : Part.cpn ∈ P) (mcfd : Part.cfd ∈ P) (mbrg : Part.brg ∈ P) (mbw : Part.bw ∈ P) (mints : Part.ints ∈ P) (mmems : Part.mems ∈ P) (mcores : Part.cores ∈ P) (mvmem : Part.vmem ∈ P) (mheld : Part.held ∈ P) (mnoted : Part.noted ∈ P) (mlic : Part.lic ∈ P) (h₀ : SameBut P t₀ s) :
    OutFr P t₀ (execGdpWrite head index sub block s) := by
  unfold execGdpWrite
  repeat' first
    | with_reducible assumption
    | (rename_i hq; have hq2 := congrArg Prod.snd hq; with_reducible dsimp only at hq2; subst hq2)
    | simp only [↓fr_mk_iff, true_or, or_true, mmod, mpwr, mvrc, mrot, mcys, mclk, mtim, mbanks, mchans, mxn, mrecd, mboot, mkiln, mtwl, mlnc, mcpn, mcfd, mbrg, mbw, mints, mmems, mcores, mvmem, mheld, mnoted, mlic]
    | with_reducible refine fr_ite ?_ ?_
    | with_reducible refine outFr_ite ?_ ?_
    | with_reducible refine outFr_next.2 ?_
    | with_reducible refine fr_ite2 ?_ ?_
    | with_reducible refine fr_foldl ?_ (fun _ _ _ => ?_)
    | (intro b u hu; dsimp only)
    | intro b u hu
    | (intro u hu; dsimp only)
    | intro u hu
    | with_reducible refine gdpServe_frame _ _ _ mbanks mrecd mboot mkiln mnoted ?_ ?_ | with_reducible refine gdpWrite_frame _ _ _ _ _ mmod mpwr mvrc mrot mcys mclk mtim mbanks mchans mxn mrecd mboot mkiln mtwl mlnc mcpn mcfd mbrg mbw mints mmems mcores mvmem mheld mnoted mlic ?_
    | split
    | dsimp only

theorem openGdp_frame {P : List Part} {t₀ : State} (client : BitVec 32) (s : State) (mrecd : Part.recd ∈ P) (mkiln : Part.kiln ∈ P) (mnoted : Part.noted ∈ P) (h₀ : SameBut P t₀ s) :
    SameBut P t₀ (openGdp client s) := by
  unfold openGdp
  repeat' first
    | with_reducible assumption
    | (rename_i hq; have hq2 := congrArg Prod.snd hq; with_reducible dsimp only at hq2; subst hq2)
    | simp only [↓fr_mk_iff, true_or, or_true, mrecd, mkiln, mnoted]
    | with_reducible refine fr_ite ?_ ?_
    | with_reducible refine outFr_ite ?_ ?_
    | with_reducible refine outFr_next.2 ?_
    | with_reducible refine fr_ite2 ?_ ?_
    | with_reducible refine fr_foldl ?_ (fun _ _ _ => ?_)
    | with_reducible refine record_frame _ _ _ _ _ _ mrecd mnoted ?_ | with_reducible refine setKiln_frame _ _ mkiln ?_ | with_reducible refine setSess_frame _ _ _ mkiln ?_
    | split
    | dsimp only

theorem execGdpOpen_frame {P : List Part} {t₀ : State} (head : GdpHead) (client : BitVec 32) (s : State) (mbanks : Part.banks ∈ P) (mrecd : Part.recd ∈ P) (mboot : Part.boot ∈ P) (mkiln : Part.kiln ∈ P) (mnoted : Part.noted ∈ P) (h₀ : SameBut P t₀ s) :
    OutFr P t₀ (execGdpOpen head client s) := by
  unfold execGdpOpen
  repeat' first
    | with_reducible assumption
    | (rename_i hq; have hq2 := congrArg Prod.snd hq; with_reducible dsimp only at hq2; subst hq2)
    | simp only [↓fr_mk_iff, true_or, or_true, mbanks, mrecd, mboot, mkiln, mnoted]
    | with_reducible refine fr_ite ?_ ?_
    | with_reducible refine outFr_ite ?_ ?_
    | with_reducible refine outFr_next.2 ?_
    | with_reducible refine fr_ite2 ?_ ?_
    | with_reducible refine fr_foldl ?_ (fun _ _ _ => ?_)
    | with_reducible refine openGdp_frame _ _ mrecd mkiln mnoted ?_ | with_reducible refine fwErased_frame _ mbanks mrecd mboot mkiln mnoted ?_
    | split
    | dsimp only

theorem endGdp_frame {P : List Part} {t₀ : State} (n : Fin 4) (why : Nat) (s : State) (mrecd : Part.recd ∈ P) (mboot : Part.boot ∈ P) (mkiln : Part.kiln ∈ P) (mnoted : Part.noted ∈ P) (h₀ : SameBut P t₀ s) :
    SameBut P t₀ (endGdp n why s) := by
  unfold endGdp
  repeat' first
    | with_reducible assumption
    | (rename_i hq; have hq2 := congrArg Prod.snd hq; with_reducible dsimp only at hq2; subst hq2)
    | simp only [↓fr_mk_iff, true_or, or_true, mrecd, mboot, mkiln, mnoted]
    | with_reducible refine fr_ite ?_ ?_
    | with_reducible refine outFr_ite ?_ ?_
    | with_reducible refine outFr_next.2 ?_
    | with_reducible refine fr_ite2 ?_ ?_
    | with_reducible refine fr_foldl ?_ (fun _ _ _ => ?_)
    | with_reducible refine closeSession_frame _ _ mrecd mboot mkiln mnoted ?_ | with_reducible refine record_frame _ _ _ _ _ _ mrecd mnoted ?_
    | split
    | dsimp only

theorem execGdpClose_frame {P : List Part} {t₀ : State} (head : GdpHead) (s : State) (mbanks : Part.banks ∈ P) (mrecd : Part.recd ∈ P) (mboot : Part.boot ∈ P) (mkiln : Part.kiln ∈ P) (mnoted : Part.noted ∈ P) (h₀ : SameBut P t₀ s) :
    OutFr P t₀ (execGdpClose head s) := by
  unfold execGdpClose
  repeat' first
    | with_reducible assumption
    | (rename_i hq; have hq2 := congrArg Prod.snd hq; with_reducible dsimp only at hq2; subst hq2)
    | simp only [↓fr_mk_iff, true_or, or_true, mbanks, mrecd, mboot, mkiln, mnoted]
    | with_reducible refine fr_ite ?_ ?_
    | with_reducible refine outFr_ite ?_ ?_
    | with_reducible refine outFr_next.2 ?_
    | with_reducible refine fr_ite2 ?_ ?_
    | with_reducible refine fr_foldl ?_ (fun _ _ _ => ?_)
    | (intro b u hu; dsimp only)
    | intro b u hu
    | (intro u hu; dsimp only)
    | intro u hu
    | with_reducible refine gdpServe_frame _ _ _ mbanks mrecd mboot mkiln mnoted ?_ ?_ | with_reducible refine endGdp_frame _ _ _ mrecd mboot mkiln mnoted ?_
    | split
    | dsimp only

theorem execGdpSessionIdleTimeout_frame {P : List Part} {t₀ : State} (dt : Nat) (session : Fin 6) (s : State) (mrecd : Part.recd ∈ P) (mboot : Part.boot ∈ P) (mkiln : Part.kiln ∈ P) (mnoted : Part.noted ∈ P) (h₀ : SameBut P t₀ (advance dt s)) :
    OutFr P t₀ (execGdpSessionIdleTimeout dt session s) := by
  unfold execGdpSessionIdleTimeout
  repeat' first
    | with_reducible assumption
    | (rename_i hq; have hq2 := congrArg Prod.snd hq; with_reducible dsimp only at hq2; subst hq2)
    | simp only [↓fr_mk_iff, true_or, or_true, mrecd, mboot, mkiln, mnoted]
    | with_reducible refine fr_ite ?_ ?_
    | with_reducible refine outFr_ite ?_ ?_
    | with_reducible refine outFr_next.2 ?_
    | with_reducible refine fr_ite2 ?_ ?_
    | with_reducible refine fr_foldl ?_ (fun _ _ _ => ?_)
    | with_reducible refine endGdp_frame _ _ _ mrecd mboot mkiln mnoted ?_ | with_reducible refine closeSession_frame _ _ mrecd mboot mkiln mnoted ?_
    | split
    | dsimp only

theorem execKeyxChallenge_frame {P : List Part} {t₀ : State} (by_ : Session) (s : State) (mrot : Part.rot ∈ P) (mcys : Part.cys ∈ P) (mclk : Part.clk ∈ P) (mtim : Part.tim ∈ P) (mbanks : Part.banks ∈ P) (mxn : Part.xn ∈ P) (mrecd : Part.recd ∈ P) (mboot : Part.boot ∈ P) (mkiln : Part.kiln ∈ P) (mtwl : Part.twl ∈ P) (mlnc : Part.lnc ∈ P) (mbw : Part.bw ∈ P) (mmems : Part.mems ∈ P) (mcores : Part.cores ∈ P) (mnoted : Part.noted ∈ P) (mlic : Part.lic ∈ P) (h₀ : SameBut P t₀ s) :
    OutFr P t₀ (execKeyxChallenge by_ s) := by
  unfold execKeyxChallenge
  repeat' first
    | with_reducible assumption
    | (rename_i hq; have hq2 := congrArg Prod.snd hq; with_reducible dsimp only at hq2; subst hq2)
    | simp only [↓fr_mk_iff, true_or, or_true, mrot, mcys, mclk, mtim, mbanks, mxn, mrecd, mboot, mkiln, mtwl, mlnc, mbw, mmems, mcores, mnoted, mlic]
    | with_reducible refine fr_ite ?_ ?_
    | with_reducible refine outFr_ite ?_ ?_
    | with_reducible refine outFr_next.2 ?_
    | with_reducible refine fr_ite2 ?_ ?_
    | with_reducible refine fr_foldl ?_ (fun _ _ _ => ?_)
    | (intro b u hu; dsimp only)
    | intro b u hu
    | (intro u hu; dsimp only)
    | intro u hu
    | with_reducible refine serve_frame _ _ _ mbanks mrecd mboot mkiln mnoted ?_ ?_ | with_reducible refine dictRead_frame _ _ _ _ _ mrot mcys mclk mtim mxn mrecd mkiln mtwl mlnc mbw mmems mcores mnoted mlic ?_
    | split
    | dsimp only

theorem execKeyxResponse_frame {P : List Part} {t₀ : State} (by_ : Session) (response : List (BitVec 8)) (s : State) (mmod : Part.mod ∈ P) (mpwr : Part.pwr ∈ P) (mvrc : Part.vrc ∈ P) (mrot : Part.rot ∈ P) (mcys : Part.cys ∈ P) (mclk : Part.clk ∈ P) (mtim : Part.tim ∈ P) (mbanks : Part.banks ∈ P) (mchans : Part.chans ∈ P) (mxn : Part.xn ∈ P) (mrecd : Part.recd ∈ P) (mboot : Part.boot ∈ P) (mkiln : Part.kiln ∈ P) (mtwl : Part.twl ∈ P) (mlnc : Part.lnc ∈ P) (mcpn : Part.cpn ∈ P) (mcfd : Part.cfd ∈ P) (mbrg : Part.brg ∈ P) (mbw : Part.bw ∈ P) (mints : Part.ints ∈ P) (mmems : Part.mems ∈ P) (mcores : Part.cores ∈ P) (mvmem : Part.vmem ∈ P) (mheld : Part.held ∈ P) (mnoted : Part.noted ∈ P) (mlic : Part.lic ∈ P) (h₀ : SameBut P t₀ s) :
    OutFr P t₀ (execKeyxResponse by_ response s) := by
  unfold execKeyxResponse
  repeat' first
    | with_reducible assumption
    | (rename_i hq; have hq2 := congrArg Prod.snd hq; with_reducible dsimp only at hq2; subst hq2)
    | simp only [↓fr_mk_iff, true_or, or_true, mmod, mpwr, mvrc, mrot, mcys, mclk, mtim, mbanks, mchans, mxn, mrecd, mboot, mkiln, mtwl, mlnc, mcpn, mcfd, mbrg, mbw, mints, mmems, mcores, mvmem, mheld, mnoted, mlic]
    | with_reducible refine fr_ite ?_ ?_
    | with_reducible refine outFr_ite ?_ ?_
    | with_reducible refine outFr_next.2 ?_
    | with_reducible refine fr_ite2 ?_ ?_
    | with_reducible refine fr_foldl ?_ (fun _ _ _ => ?_)
    | (intro b u hu; dsimp only)
    | intro b u hu
    | (intro u hu; dsimp only)
    | intro u hu
    | with_reducible refine serve_frame _ _ _ mbanks mrecd mboot mkiln mnoted ?_ ?_ | with_reducible refine dictWrite_frame _ _ _ _ _ mmod mpwr mvrc mrot mcys mclk mtim mbanks mchans mxn mrecd mboot mkiln mtwl mlnc mcpn mcfd mbrg mbw mints mmems mcores mvmem mheld mnoted mlic ?_
    | split
    | dsimp only

theorem execKeyxLockoutEnd_frame {P : List Part} {t₀ : State} (dt : Nat) (s : State) (mkiln : Part.kiln ∈ P) (h₀ : SameBut P t₀ (advance dt s)) :
    OutFr P t₀ (execKeyxLockoutEnd dt s) := by
  unfold execKeyxLockoutEnd
  repeat' first
    | with_reducible assumption
    | (rename_i hq; have hq2 := congrArg Prod.snd hq; with_reducible dsimp only at hq2; subst hq2)
    | simp only [↓fr_mk_iff, true_or, or_true, mkiln]
    | with_reducible refine fr_ite ?_ ?_
    | with_reducible refine outFr_ite ?_ ?_
    | with_reducible refine outFr_next.2 ?_
    | with_reducible refine fr_ite2 ?_ ?_
    | with_reducible refine fr_foldl ?_ (fun _ _ _ => ?_)
    | with_reducible refine setKiln_frame _ _ mkiln ?_
    | split
    | dsimp only

theorem execMaintenanceKeyWrite_frame {P : List Part} {t₀ : State} (by_ : Session) (key : List (BitVec 8)) (s : State) (mmod : Part.mod ∈ P) (mpwr : Part.pwr ∈ P) (mvrc : Part.vrc ∈ P) (mrot : Part.rot ∈ P) (mcys : Part.cys ∈ P) (mclk : Part.clk ∈ P) (mtim : Part.tim ∈ P) (mbanks : Part.banks ∈ P) (mchans : Part.chans ∈ P) (mxn : Part.xn ∈ P) (mrecd : Part.recd ∈ P) (mboot : Part.boot ∈ P) (mkiln : Part.kiln ∈ P) (mtwl : Part.twl ∈ P) (mlnc : Part.lnc ∈ P) (mcpn : Part.cpn ∈ P) (mcfd : Part.cfd ∈ P) (mbrg : Part.brg ∈ P) (mbw : Part.bw ∈ P) (mints : Part.ints ∈ P) (mmems : Part.mems ∈ P) (mcores : Part.cores ∈ P) (mvmem : Part.vmem ∈ P) (mheld : Part.held ∈ P) (mnoted : Part.noted ∈ P) (mlic : Part.lic ∈ P) (h₀ : SameBut P t₀ s) :
    OutFr P t₀ (execMaintenanceKeyWrite by_ key s) := by
  unfold execMaintenanceKeyWrite
  repeat' first
    | with_reducible assumption
    | (rename_i hq; have hq2 := congrArg Prod.snd hq; with_reducible dsimp only at hq2; subst hq2)
    | simp only [↓fr_mk_iff, true_or, or_true, mmod, mpwr, mvrc, mrot, mcys, mclk, mtim, mbanks, mchans, mxn, mrecd, mboot, mkiln, mtwl, mlnc, mcpn, mcfd, mbrg, mbw, mints, mmems, mcores, mvmem, mheld, mnoted, mlic]
    | with_reducible refine fr_ite ?_ ?_
    | with_reducible refine outFr_ite ?_ ?_
    | with_reducible refine outFr_next.2 ?_
    | with_reducible refine fr_ite2 ?_ ?_
    | with_reducible refine fr_foldl ?_ (fun _ _ _ => ?_)
    | (intro b u hu; dsimp only)
    | intro b u hu
    | (intro u hu; dsimp only)
    | intro u hu
    | with_reducible refine serve_frame _ _ _ mbanks mrecd mboot mkiln mnoted ?_ ?_ | with_reducible refine dictWrite_frame _ _ _ _ _ mmod mpwr mvrc mrot mcys mclk mtim mbanks mchans mxn mrecd mboot mkiln mtwl mlnc mcpn mcfd mbrg mbw mints mmems mcores mvmem mheld mnoted mlic ?_
    | split
    | dsimp only

theorem execUsdoTransfer_frame {P : List Part} {t₀ : State} (channel : Fin 2) (op : DictOp) (s : State) (mmod : Part.mod ∈ P) (mpwr : Part.pwr ∈ P) (mvrc : Part.vrc ∈ P) (mrot : Part.rot ∈ P) (mcys : Part.cys ∈ P) (mclk : Part.clk ∈ P) (mtim : Part.tim ∈ P) (mbanks : Part.banks ∈ P) (mchans : Part.chans ∈ P) (mxn : Part.xn ∈ P) (mrecd : Part.recd ∈ P) (mboot : Part.boot ∈ P) (mkiln : Part.kiln ∈ P) (mtwl : Part.twl ∈ P) (mlnc : Part.lnc ∈ P) (mcpn : Part.cpn ∈ P) (mcfd : Part.cfd ∈ P) (mbrg : Part.brg ∈ P) (mbw : Part.bw ∈ P) (mints : Part.ints ∈ P) (mmems : Part.mems ∈ P) (mcores : Part.cores ∈ P) (mvmem : Part.vmem ∈ P) (mheld : Part.held ∈ P) (mnoted : Part.noted ∈ P) (mlic : Part.lic ∈ P) (h₀ : SameBut P t₀ s) :
    OutFr P t₀ (execUsdoTransfer channel op s) := by
  unfold execUsdoTransfer
  repeat' first
    | with_reducible assumption
    | (rename_i hq; have hq2 := congrArg Prod.snd hq; with_reducible dsimp only at hq2; subst hq2)
    | simp only [↓fr_mk_iff, true_or, or_true, mmod, mpwr, mvrc, mrot, mcys, mclk, mtim, mbanks, mchans, mxn, mrecd, mboot, mkiln, mtwl, mlnc, mcpn, mcfd, mbrg, mbw, mints, mmems, mcores, mvmem, mheld, mnoted, mlic]
    | with_reducible refine fr_ite ?_ ?_
    | with_reducible refine outFr_ite ?_ ?_
    | with_reducible refine outFr_next.2 ?_
    | with_reducible refine fr_ite2 ?_ ?_
    | with_reducible refine fr_foldl ?_ (fun _ _ _ => ?_)
    | (intro b u hu; dsimp only)
    | intro b u hu
    | (intro u hu; dsimp only)
    | intro u hu
    | with_reducible refine serve_frame _ _ _ mbanks mrecd mboot mkiln mnoted ?_ ?_ | with_reducible refine dictRead_frame _ _ _ _ _ mrot mcys mclk mtim mxn mrecd mkiln mtwl mlnc mbw mmems mcores mnoted mlic ?_ | with_reducible refine usdoWrite_frame _ _ _ _ _ mmod mpwr mvrc mrot mcys mclk mtim mbanks mchans mxn mrecd mboot mkiln mtwl mlnc mcpn mcfd mbrg mbw mints mmems mcores mvmem mheld mnoted mlic ?_
    | split
    | dsimp only

theorem execUsdoTimeout_frame {P : List Part} {t₀ : State} (dt : Nat) (channel : Fin 2) (s : State) (mkiln : Part.kiln ∈ P) (h₀ : SameBut P t₀ (advance dt s)) :
    OutFr P t₀ (execUsdoTimeout dt channel s) := by
  unfold execUsdoTimeout
  repeat' first
    | with_reducible assumption
    | (rename_i hq; have hq2 := congrArg Prod.snd hq; with_reducible dsimp only at hq2; subst hq2)
    | simp only [↓fr_mk_iff, true_or, or_true, mkiln]
    | with_reducible refine fr_ite ?_ ?_
    | with_reducible refine outFr_ite ?_ ?_
    | with_reducible refine outFr_next.2 ?_
    | with_reducible refine fr_ite2 ?_ ?_
    | with_reducible refine fr_foldl ?_ (fun _ _ _ => ?_)
    | with_reducible refine reply_frame _ _ _ mkiln ?_
    | split
    | dsimp only

theorem execStateCmdEnterMaintenance_frame {P : List Part} {t₀ : State} (by_ : Session) (s : State) (mmod : Part.mod ∈ P) (mpwr : Part.pwr ∈ P) (mvrc : Part.vrc ∈ P) (mrot : Part.rot ∈ P) (mcys : Part.cys ∈ P) (mclk : Part.clk ∈ P) (mtim : Part.tim ∈ P) (mbanks : Part.banks ∈ P) (mchans : Part.chans ∈ P) (mxn : Part.xn ∈ P) (mrecd : Part.recd ∈ P) (mboot : Part.boot ∈ P) (mkiln : Part.kiln ∈ P) (mtwl : Part.twl ∈ P) (mlnc : Part.lnc ∈ P) (mcpn : Part.cpn ∈ P) (mcfd : Part.cfd ∈ P) (mbrg : Part.brg ∈ P) (mbw : Part.bw ∈ P) (mints : Part.ints ∈ P) (mmems : Part.mems ∈ P) (mcores : Part.cores ∈ P) (mvmem : Part.vmem ∈ P) (mheld : Part.held ∈ P) (mnoted : Part.noted ∈ P) (mlic : Part.lic ∈ P) (h₀ : SameBut P t₀ s) :
    OutFr P t₀ (execStateCmdEnterMaintenance by_ s) := by
  unfold execStateCmdEnterMaintenance
  repeat' first
    | with_reducible assumption
    | (rename_i hq; have hq2 := congrArg Prod.snd hq; with_reducible dsimp only at hq2; subst hq2)
    | simp only [↓fr_mk_iff, true_or, or_true, mmod, mpwr, mvrc, mrot, mcys, mclk, mtim, mbanks, mchans, mxn, mrecd, mboot, mkiln, mtwl, mlnc, mcpn, mcfd, mbrg, mbw, mints, mmems, mcores, mvmem, mheld, mnoted, mlic]
    | with_reducible refine fr_ite ?_ ?_
    | with_reducible refine outFr_ite ?_ ?_
    | with_reducible refine outFr_next.2 ?_
    | with_reducible refine fr_ite2 ?_ ?_
    | with_reducible refine fr_foldl ?_ (fun _ _ _ => ?_)
    | (intro b u hu; dsimp only)
    | intro b u hu
    | (intro u hu; dsimp only)
    | intro u hu
    | with_reducible refine serve_frame _ _ _ mbanks mrecd mboot mkiln mnoted ?_ ?_ | with_reducible refine dictWrite_frame _ _ _ _ _ mmod mpwr mvrc mrot mcys mclk mtim mbanks mchans mxn mrecd mboot mkiln mtwl mlnc mcpn mcfd mbrg mbw mints mmems mcores mvmem mheld mnoted mlic ?_
    | split
    | dsimp only

theorem execStateCmdLeaveMaintenance_frame {P : List Part} {t₀ : State} (by_ : Session) (s : State) (mmod : Part.mod ∈ P) (mpwr : Part.pwr ∈ P) (mvrc : Part.vrc ∈ P) (mrot : Part.rot ∈ P) (mcys : Part.cys ∈ P) (mclk : Part.clk ∈ P) (mtim : Part.tim ∈ P) (mbanks : Part.banks ∈ P) (mchans : Part.chans ∈ P) (mxn : Part.xn ∈ P) (mrecd : Part.recd ∈ P) (mboot : Part.boot ∈ P) (mkiln : Part.kiln ∈ P) (mtwl : Part.twl ∈ P) (mlnc : Part.lnc ∈ P) (mcpn : Part.cpn ∈ P) (mcfd : Part.cfd ∈ P) (mbrg : Part.brg ∈ P) (mbw : Part.bw ∈ P) (mints : Part.ints ∈ P) (mmems : Part.mems ∈ P) (mcores : Part.cores ∈ P) (mvmem : Part.vmem ∈ P) (mheld : Part.held ∈ P) (mnoted : Part.noted ∈ P) (mlic : Part.lic ∈ P) (h₀ : SameBut P t₀ s) :
    OutFr P t₀ (execStateCmdLeaveMaintenance by_ s) := by
  unfold execStateCmdLeaveMaintenance
  repeat' first
    | with_reducible assumption
    | (rename_i hq; have hq2 := congrArg Prod.snd hq; with_reducible dsimp only at hq2; subst hq2)
    | simp only [↓fr_mk_iff, true_or, or_true, mmod, mpwr, mvrc, mrot, mcys, mclk, mtim, mbanks, mchans, mxn, mrecd, mboot, mkiln, mtwl, mlnc, mcpn, mcfd, mbrg, mbw, mints, mmems, mcores, mvmem, mheld, mnoted, mlic]
    | with_reducible refine fr_ite ?_ ?_
    | with_reducible refine outFr_ite ?_ ?_
    | with_reducible refine outFr_next.2 ?_
    | with_reducible refine fr_ite2 ?_ ?_
    | with_reducible refine fr_foldl ?_ (fun _ _ _ => ?_)
    | (intro b u hu; dsimp only)
    | intro b u hu
    | (intro u hu; dsimp only)
    | intro u hu
    | with_reducible refine serve_frame _ _ _ mbanks mrecd mboot mkiln mnoted ?_ ?_ | with_reducible refine dictWrite_frame _ _ _ _ _ mmod mpwr mvrc mrot mcys mclk mtim mbanks mchans mxn mrecd mboot mkiln mtwl mlnc mcpn mcfd mbrg mbw mints mmems mcores mvmem mheld mnoted mlic ?_
    | split
    | dsimp only

theorem execStateCmdEnterBanked_frame {P : List Part} {t₀ : State} (by_ : Session) (s : State) (mmod : Part.mod ∈ P) (mpwr : Part.pwr ∈ P) (mvrc : Part.vrc ∈ P) (mrot : Part.rot ∈ P) (mcys : Part.cys ∈ P) (mclk : Part.clk ∈ P) (mtim : Part.tim ∈ P) (mbanks : Part.banks ∈ P) (mchans : Part.chans ∈ P) (mxn : Part.xn ∈ P) (mrecd : Part.recd ∈ P) (mboot : Part.boot ∈ P) (mkiln : Part.kiln ∈ P) (mtwl : Part.twl ∈ P) (mlnc : Part.lnc ∈ P) (mcpn : Part.cpn ∈ P) (mcfd : Part.cfd ∈ P) (mbrg : Part.brg ∈ P) (mbw : Part.bw ∈ P) (mints : Part.ints ∈ P) (mmems : Part.mems ∈ P) (mcores : Part.cores ∈ P) (mvmem : Part.vmem ∈ P) (mheld : Part.held ∈ P) (mnoted : Part.noted ∈ P) (mlic : Part.lic ∈ P) (h₀ : SameBut P t₀ s) :
    OutFr P t₀ (execStateCmdEnterBanked by_ s) := by
  unfold execStateCmdEnterBanked
  repeat' first
    | with_reducible assumption
    | (rename_i hq; have hq2 := congrArg Prod.snd hq; with_reducible dsimp only at hq2; subst hq2)
    | simp only [↓fr_mk_iff, true_or, or_true, mmod, mpwr, mvrc, mrot, mcys, mclk, mtim, mbanks, mchans, mxn, mrecd, mboot, mkiln, mtwl, mlnc, mcpn, mcfd, mbrg, mbw, mints, mmems, mcores, mvmem, mheld, mnoted, mlic]
    | with_reducible refine fr_ite ?_ ?_
    | with_reducible refine outFr_ite ?_ ?_
    | with_reducible refine outFr_next.2 ?_
    | with_reducible refine fr_ite2 ?_ ?_
    | with_reducible refine fr_foldl ?_ (fun _ _ _ => ?_)
    | (intro b u hu; dsimp only)
    | intro b u hu
    | (intro u hu; dsimp only)
    | intro u hu
    | with_reducible refine serve_frame _ _ _ mbanks mrecd mboot mkiln mnoted ?_ ?_ | with_reducible refine dictWrite_frame _ _ _ _ _ mmod mpwr mvrc mrot mcys mclk mtim mbanks mchans mxn mrecd mboot mkiln mtwl mlnc mcpn mcfd mbrg mbw mints mmems mcores mvmem mheld mnoted mlic ?_
    | split
    | dsimp only

theorem execStateCmdModuleReset_frame {P : List Part} {t₀ : State} (by_ : Session) (s : State) (mmod : Part.mod ∈ P) (mpwr : Part.pwr ∈ P) (mvrc : Part.vrc ∈ P) (mrot : Part.rot ∈ P) (mcys : Part.cys ∈ P) (mclk : Part.clk ∈ P) (mtim : Part.tim ∈ P) (mbanks : Part.banks ∈ P) (mchans : Part.chans ∈ P) (mxn : Part.xn ∈ P) (mrecd : Part.recd ∈ P) (mboot : Part.boot ∈ P) (mkiln : Part.kiln ∈ P) (mtwl : Part.twl ∈ P) (mlnc : Part.lnc ∈ P) (mcpn : Part.cpn ∈ P) (mcfd : Part.cfd ∈ P) (mbrg : Part.brg ∈ P) (mbw : Part.bw ∈ P) (mints : Part.ints ∈ P) (mmems : Part.mems ∈ P) (mcores : Part.cores ∈ P) (mvmem : Part.vmem ∈ P) (mheld : Part.held ∈ P) (mnoted : Part.noted ∈ P) (mlic : Part.lic ∈ P) (h₀ : SameBut P t₀ s) :
    OutFr P t₀ (execStateCmdModuleReset by_ s) := by
  unfold execStateCmdModuleReset
  repeat' first
    | with_reducible assumption
    | (rename_i hq; have hq2 := congrArg Prod.snd hq; with_reducible dsimp only at hq2; subst hq2)
    | simp only [↓fr_mk_iff, true_or, or_true, mmod, mpwr, mvrc, mrot, mcys, mclk, mtim, mbanks, mchans, mxn, mrecd, mboot, mkiln, mtwl, mlnc, mcpn, mcfd, mbrg, mbw, mints, mmems, mcores, mvmem, mheld, mnoted, mlic]
    | with_reducible refine fr_ite ?_ ?_
    | with_reducible refine outFr_ite ?_ ?_
    | with_reducible refine outFr_next.2 ?_
    | with_reducible refine fr_ite2 ?_ ?_
    | with_reducible refine fr_foldl ?_ (fun _ _ _ => ?_)
    | (intro b u hu; dsimp only)
    | intro b u hu
    | (intro u hu; dsimp only)
    | intro u hu
    | with_reducible refine serve_frame _ _ _ mbanks mrecd mboot mkiln mnoted ?_ ?_ | with_reducible refine dictWrite_frame _ _ _ _ _ mmod mpwr mvrc mrot mcys mclk mtim mbanks mchans mxn mrecd mboot mkiln mtwl mlnc mcpn mcfd mbrg mbw mints mmems mcores mvmem mheld mnoted mlic ?_
    | split
    | dsimp only

theorem execWarmRestart_frame {P : List Part} {t₀ : State} (by_ : Session) (s : State) (mmod : Part.mod ∈ P) (mpwr : Part.pwr ∈ P) (mvrc : Part.vrc ∈ P) (mrot : Part.rot ∈ P) (mcys : Part.cys ∈ P) (mclk : Part.clk ∈ P) (mtim : Part.tim ∈ P) (mbanks : Part.banks ∈ P) (mchans : Part.chans ∈ P) (mxn : Part.xn ∈ P) (mrecd : Part.recd ∈ P) (mboot : Part.boot ∈ P) (mkiln : Part.kiln ∈ P) (mtwl : Part.twl ∈ P) (mlnc : Part.lnc ∈ P) (mcpn : Part.cpn ∈ P) (mcfd : Part.cfd ∈ P) (mbrg : Part.brg ∈ P) (mbw : Part.bw ∈ P) (mints : Part.ints ∈ P) (mmems : Part.mems ∈ P) (mcores : Part.cores ∈ P) (mvmem : Part.vmem ∈ P) (mheld : Part.held ∈ P) (mnoted : Part.noted ∈ P) (mlic : Part.lic ∈ P) (h₀ : SameBut P t₀ s) :
    OutFr P t₀ (execWarmRestart by_ s) := by
  unfold execWarmRestart
  repeat' first
    | with_reducible assumption
    | (rename_i hq; have hq2 := congrArg Prod.snd hq; with_reducible dsimp only at hq2; subst hq2)
    | simp only [↓fr_mk_iff, true_or, or_true, mmod, mpwr, mvrc, mrot, mcys, mclk, mtim, mbanks, mchans, mxn, mrecd, mboot, mkiln, mtwl, mlnc, mcpn, mcfd, mbrg, mbw, mints, mmems, mcores, mvmem, mheld, mnoted, mlic]
    | with_reducible refine fr_ite ?_ ?_
    | with_reducible refine outFr_ite ?_ ?_
    | with_reducible refine outFr_next.2 ?_
    | with_reducible refine fr_ite2 ?_ ?_
    | with_reducible refine fr_foldl ?_ (fun _ _ _ => ?_)
    | (intro b u hu; dsimp only)
    | intro b u hu
    | (intro u hu; dsimp only)
    | intro u hu
    | with_reducible refine serve_frame _ _ _ mbanks mrecd mboot mkiln mnoted ?_ ?_ | with_reducible refine dictWrite_frame _ _ _ _ _ mmod mpwr mvrc mrot mcys mclk mtim mbanks mchans mxn mrecd mboot mkiln mtwl mlnc mcpn mcfd mbrg mbw mints mmems mcores mvmem mheld mnoted mlic ?_
    | split
    | dsimp only

theorem execLane1oo1Select_frame {P : List Part} {t₀ : State} (by_ : Session) (lane : Fin 4) (s : State) (mmod : Part.mod ∈ P) (mpwr : Part.pwr ∈ P) (mvrc : Part.vrc ∈ P) (mrot : Part.rot ∈ P) (mcys : Part.cys ∈ P) (mclk : Part.clk ∈ P) (mtim : Part.tim ∈ P) (mbanks : Part.banks ∈ P) (mchans : Part.chans ∈ P) (mxn : Part.xn ∈ P) (mrecd : Part.recd ∈ P) (mboot : Part.boot ∈ P) (mkiln : Part.kiln ∈ P) (mtwl : Part.twl ∈ P) (mlnc : Part.lnc ∈ P) (mcpn : Part.cpn ∈ P) (mcfd : Part.cfd ∈ P) (mbrg : Part.brg ∈ P) (mbw : Part.bw ∈ P) (mints : Part.ints ∈ P) (mmems : Part.mems ∈ P) (mcores : Part.cores ∈ P) (mvmem : Part.vmem ∈ P) (mheld : Part.held ∈ P) (mnoted : Part.noted ∈ P) (mlic : Part.lic ∈ P) (h₀ : SameBut P t₀ s) :
    OutFr P t₀ (execLane1oo1Select by_ lane s) := by
  unfold execLane1oo1Select
  repeat' first
    | with_reducible assumption
    | (rename_i hq; have hq2 := congrArg Prod.snd hq; with_reducible dsimp only at hq2; subst hq2)
    | simp only [↓fr_mk_iff, true_or, or_true, mmod, mpwr, mvrc, mrot, mcys, mclk, mtim, mbanks, mchans, mxn, mrecd, mboot, mkiln, mtwl, mlnc, mcpn, mcfd, mbrg, mbw, mints, mmems, mcores, mvmem, mheld, mnoted, mlic]
    | with_reducible refine fr_ite ?_ ?_
    | with_reducible refine outFr_ite ?_ ?_
    | with_reducible refine outFr_next.2 ?_
    | with_reducible refine fr_ite2 ?_ ?_
    | with_reducible refine fr_foldl ?_ (fun _ _ _ => ?_)
    | (intro b u hu; dsimp only)
    | intro b u hu
    | (intro u hu; dsimp only)
    | intro u hu
    | with_reducible refine serve_frame _ _ _ mbanks mrecd mboot mkiln mnoted ?_ ?_ | with_reducible refine dictWrite_frame _ _ _ _ _ mmod mpwr mvrc mrot mcys mclk mtim mbanks mchans mxn mrecd mboot mkiln mtwl mlnc mcpn mcfd mbrg mbw mints mmems mcores mvmem mheld mnoted mlic ?_
    | split
    | dsimp only

theorem execLane1oo1Release_frame {P : List Part} {t₀ : State} (by_ : Session) (s : State) (mmod : Part.mod ∈ P) (mpwr : Part.pwr ∈ P) (mvrc : Part.vrc ∈ P) (mrot : Part.rot ∈ P) (mcys : Part.cys ∈ P) (mclk : Part.clk ∈ P) (mtim : Part.tim ∈ P) (mbanks : Part.banks ∈ P) (mchans : Part.chans ∈ P) (mxn : Part.xn ∈ P) (mrecd : Part.recd ∈ P) (mboot : Part.boot ∈ P) (mkiln : Part.kiln ∈ P) (mtwl : Part.twl ∈ P) (mlnc : Part.lnc ∈ P) (mcpn : Part.cpn ∈ P) (mcfd : Part.cfd ∈ P) (mbrg : Part.brg ∈ P) (mbw : Part.bw ∈ P) (mints : Part.ints ∈ P) (mmems : Part.mems ∈ P) (mcores : Part.cores ∈ P) (mvmem : Part.vmem ∈ P) (mheld : Part.held ∈ P) (mnoted : Part.noted ∈ P) (mlic : Part.lic ∈ P) (h₀ : SameBut P t₀ s) :
    OutFr P t₀ (execLane1oo1Release by_ s) := by
  unfold execLane1oo1Release
  repeat' first
    | with_reducible assumption
    | (rename_i hq; have hq2 := congrArg Prod.snd hq; with_reducible dsimp only at hq2; subst hq2)
    | simp only [↓fr_mk_iff, true_or, or_true, mmod, mpwr, mvrc, mrot, mcys, mclk, mtim, mbanks, mchans, mxn, mrecd, mboot, mkiln, mtwl, mlnc, mcpn, mcfd, mbrg, mbw, mints, mmems, mcores, mvmem, mheld, mnoted, mlic]
    | with_reducible refine fr_ite ?_ ?_
    | with_reducible refine outFr_ite ?_ ?_
    | with_reducible refine outFr_next.2 ?_
    | with_reducible refine fr_ite2 ?_ ?_
    | with_reducible refine fr_foldl ?_ (fun _ _ _ => ?_)
    | (intro b u hu; dsimp only)
    | intro b u hu
    | (intro u hu; dsimp only)
    | intro u hu
    | with_reducible refine serve_frame _ _ _ mbanks mrecd mboot mkiln mnoted ?_ ?_ | with_reducible refine dictWrite_frame _ _ _ _ _ mmod mpwr mvrc mrot mcys mclk mtim mbanks mchans mxn mrecd mboot mkiln mtwl mlnc mcpn mcfd mbrg mbw mints mmems mcores mvmem mheld mnoted mlic ?_
    | split
    | dsimp only

theorem execWideModeWrite_frame {P : List Part} {t₀ : State} (by_ : Session) (on : Bool) (s : State) (mmod : Part.mod ∈ P) (mpwr : Part.pwr ∈ P) (mvrc : Part.vrc ∈ P) (mrot : Part.rot ∈ P) (mcys : Part.cys ∈ P) (mclk : Part.clk ∈ P) (mtim : Part.tim ∈ P) (mbanks : Part.banks ∈ P) (mchans : Part.chans ∈ P) (mxn : Part.xn ∈ P) (mrecd : Part.recd ∈ P) (mboot : Part.boot ∈ P) (mkiln : Part.kiln ∈ P) (mtwl : Part.twl ∈ P) (mlnc : Part.lnc ∈ P) (mcpn : Part.cpn ∈ P) (mcfd : Part.cfd ∈ P) (mbrg : Part.brg ∈ P) (mbw : Part.bw ∈ P) (mints : Part.ints ∈ P) (mmems : Part.mems ∈ P) (mcores : Part.cores ∈ P) (mvmem : Part.vmem ∈ P) (mheld : Part.held ∈ P) (mnoted : Part.noted ∈ P) (mlic : Part.lic ∈ P) (h₀ : SameBut P t₀ s) :
    OutFr P t₀ (execWideModeWrite by_ on s) := by
  unfold execWideModeWrite
  repeat' first
    | with_reducible assumption
    | (rename_i hq; have hq2 := congrArg Prod.snd hq; with_reducible dsimp only at hq2; subst hq2)
    | simp only [↓fr_mk_iff, true_or, or_true, mmod, mpwr, mvrc, mrot, mcys, mclk, mtim, mbanks, mchans, mxn, mrecd, mboot, mkiln, mtwl, mlnc, mcpn, mcfd, mbrg, mbw, mints, mmems, mcores, mvmem, mheld, mnoted, mlic]
    | with_reducible refine fr_ite ?_ ?_
    | with_reducible refine outFr_ite ?_ ?_
    | with_reducible refine outFr_next.2 ?_
    | with_reducible refine fr_ite2 ?_ ?_
    | with_reducible refine fr_foldl ?_ (fun _ _ _ => ?_)
    | (intro b u hu; dsimp only)
    | intro b u hu
    | (intro u hu; dsimp only)
    | intro u hu
    | with_reducible refine serve_frame _ _ _ mbanks mrecd mboot mkiln mnoted ?_ ?_ | with_reducible refine dictWrite_frame _ _ _ _ _ mmod mpwr mvrc mrot mcys mclk mtim mbanks mchans mxn mrecd mboot mkiln mtwl mlnc mcpn mcfd mbrg mbw mints mmems mcores mvmem mheld mnoted mlic ?_
    | split
    | dsimp only

theorem imageRequest_frame {P : List Part} {t₀ : State} (b : Session) (v peer : Nat) (s : State) (mrot : Part.rot ∈ P) (mcys : Part.cys ∈ P) (mrecd : Part.recd ∈ P) (mboot : Part.boot ∈ P) (mmems : Part.mems ∈ P) (mnoted : Part.noted ∈ P) (h₀ : SameBut P t₀ s) :
    SameBut P t₀ (imageRequest b v peer s).2 := by
  unfold imageRequest
  repeat' first
    | with_reducible assumption
    | (rename_i hq; have hq2 := congrArg Prod.snd hq; with_reducible dsimp only at hq2; subst hq2)
    | simp only [↓fr_mk_iff, true_or, or_true, mrot, mcys, mrecd, mboot, mmems, mnoted]
    | with_reducible refine fr_ite ?_ ?_
    | with_reducible refine outFr_ite ?_ ?_
    | with_reducible refine outFr_next.2 ?_
    | with_reducible refine fr_ite2 ?_ ?_
    | with_reducible refine fr_foldl ?_ (fun _ _ _ => ?_)
    | with_reducible refine imageCommand_frame _ _ _ mrot mcys mrecd mboot mmems mnoted ?_
    | split
    | dsimp only

theorem execImageStage_frame {P : List Part} {t₀ : State} (by_ : Session) (peer : BitVec 8) (s : State) (mrot : Part.rot ∈ P) (mcys : Part.cys ∈ P) (mbanks : Part.banks ∈ P) (mrecd : Part.recd ∈ P) (mboot : Part.boot ∈ P) (mkiln : Part.kiln ∈ P) (mmems : Part.mems ∈ P) (mnoted : Part.noted ∈ P) (h₀ : SameBut P t₀ s) :
    OutFr P t₀ (execImageStage by_ peer s) := by
  unfold execImageStage
  repeat' first
    | with_reducible assumption
    | (rename_i hq; have hq2 := congrArg Prod.snd hq; with_reducible dsimp only at hq2; subst hq2)
    | simp only [↓fr_mk_iff, true_or, or_true, mrot, mcys, mbanks, mrecd, mboot, mkiln, mmems, mnoted]
    | with_reducible refine fr_ite ?_ ?_
    | with_reducible refine outFr_ite ?_ ?_
    | with_reducible refine outFr_next.2 ?_
    | with_reducible refine fr_ite2 ?_ ?_
    | with_reducible refine fr_foldl ?_ (fun _ _ _ => ?_)
    | (intro b u hu; dsimp only)
    | intro b u hu
    | (intro u hu; dsimp only)
    | intro u hu
    | with_reducible refine serve_frame _ _ _ mbanks mrecd mboot mkiln mnoted ?_ ?_ | with_reducible refine imageRequest_frame _ _ _ _ mrot mcys mrecd mboot mmems mnoted ?_
    | split
    | dsimp only

theorem execImageDiscard_frame {P : List Part} {t₀ : State} (by_ : Session) (s : State) (mrot : Part.rot ∈ P) (mcys : Part.cys ∈ P) (mbanks : Part.banks ∈ P) (mrecd : Part.recd ∈ P) (mboot : Part.boot ∈ P) (mkiln : Part.kiln ∈ P) (mmems : Part.mems ∈ P) (mnoted : Part.noted ∈ P) (h₀ : SameBut P t₀ s) :
    OutFr P t₀ (execImageDiscard by_ s) := by
  unfold execImageDiscard
  repeat' first
    | with_reducible assumption
    | (rename_i hq; have hq2 := congrArg Prod.snd hq; with_reducible dsimp only at hq2; subst hq2)
    | simp only [↓fr_mk_iff, true_or, or_true, mrot, mcys, mbanks, mrecd, mboot, mkiln, mmems, mnoted]
    | with_reducible refine fr_ite ?_ ?_
    | with_reducible refine outFr_ite ?_ ?_
    | with_reducible refine outFr_next.2 ?_
    | with_reducible refine fr_ite2 ?_ ?_
    | with_reducible refine fr_foldl ?_ (fun _ _ _ => ?_)
    | (intro b u hu; dsimp only)
    | intro b u hu
    | (intro u hu; dsimp only)
    | intro u hu
    | with_reducible refine serve_frame _ _ _ mbanks mrecd mboot mkiln mnoted ?_ ?_ | with_reducible refine imageRequest_frame _ _ _ _ mrot mcys mrecd mboot mmems mnoted ?_
    | split
    | dsimp only

theorem execOlcSwitchRequest_frame {P : List Part} {t₀ : State} (by_ : Session) (s : State) (mmod : Part.mod ∈ P) (mpwr : Part.pwr ∈ P) (mvrc : Part.vrc ∈ P) (mrot : Part.rot ∈ P) (mcys : Part.cys ∈ P) (mclk : Part.clk ∈ P) (mtim : Part.tim ∈ P) (mbanks : Part.banks ∈ P) (mchans : Part.chans ∈ P) (mxn : Part.xn ∈ P) (mrecd : Part.recd ∈ P) (mboot : Part.boot ∈ P) (mkiln : Part.kiln ∈ P) (mtwl : Part.twl ∈ P) (mlnc : Part.lnc ∈ P) (mcpn : Part.cpn ∈ P) (mcfd : Part.cfd ∈ P) (mbrg : Part.brg ∈ P) (mbw : Part.bw ∈ P) (mints : Part.ints ∈ P) (mmems : Part.mems ∈ P) (mcores : Part.cores ∈ P) (mvmem : Part.vmem ∈ P) (mheld : Part.held ∈ P) (mnoted : Part.noted ∈ P) (mlic : Part.lic ∈ P) (h₀ : SameBut P t₀ s) :
    OutFr P t₀ (execOlcSwitchRequest by_ s) := by
  unfold execOlcSwitchRequest
  repeat' first
    | with_reducible assumption
    | (rename_i hq; have hq2 := congrArg Prod.snd hq; with_reducible dsimp only at hq2; subst hq2)
    | simp only [↓fr_mk_iff, true_or, or_true, mmod, mpwr, mvrc, mrot, mcys, mclk, mtim, mbanks, mchans, mxn, mrecd, mboot, mkiln, mtwl, mlnc, mcpn, mcfd, mbrg, mbw, mints, mmems, mcores, mvmem, mheld, mnoted, mlic]
    | with_reducible refine fr_ite ?_ ?_
    | with_reducible refine outFr_ite ?_ ?_
    | with_reducible refine outFr_next.2 ?_
    | with_reducible refine fr_ite2 ?_ ?_
    | with_reducible refine fr_foldl ?_ (fun _ _ _ => ?_)
    | (intro b u hu; dsimp only)
    | intro b u hu
    | (intro u hu; dsimp only)
    | intro u hu
    | with_reducible refine serve_frame _ _ _ mbanks mrecd mboot mkiln mnoted ?_ ?_ | with_reducible refine dictWrite_frame _ _ _ _ _ mmod mpwr mvrc mrot mcys mclk mtim mbanks mchans mxn mrecd mboot mkiln mtwl mlnc mcpn mcfd mbrg mbw mints mmems mcores mvmem mheld mnoted mlic ?_
    | split
    | dsimp only

theorem execGatewayRead_frame {P : List Part} {t₀ : State} (by_ : Session) (s : State) (mrot : Part.rot ∈ P) (mcys : Part.cys ∈ P) (mclk : Part.clk ∈ P) (mtim : Part.tim ∈ P) (mbanks : Part.banks ∈ P) (mxn : Part.xn ∈ P) (mrecd : Part.recd ∈ P) (mboot : Part.boot ∈ P) (mkiln : Part.kiln ∈ P) (mtwl : Part.twl ∈ P) (mlnc : Part.lnc ∈ P) (mbw : Part.bw ∈ P) (mmems : Part.mems ∈ P) (mcores : Part.cores ∈ P) (mnoted : Part.noted ∈ P) (mlic : Part.lic ∈ P) (h₀ : SameBut P t₀ s) :
    OutFr P t₀ (execGatewayRead by_ s) := by
  unfold execGatewayRead
  repeat' first
    | with_reducible assumption
    | (rename_i hq; have hq2 := congrArg Prod.snd hq; with_reducible dsimp only at hq2; subst hq2)
    | simp only [↓fr_mk_iff, true_or, or_true, mrot, mcys, mclk, mtim, mbanks, mxn, mrecd, mboot, mkiln, mtwl, mlnc, mbw, mmems, mcores, mnoted, mlic]
    | with_reducible refine fr_ite ?_ ?_
    | with_reducible refine outFr_ite ?_ ?_
    | with_reducible refine outFr_next.2 ?_
    | with_reducible refine fr_ite2 ?_ ?_
    | with_reducible refine fr_foldl ?_ (fun _ _ _ => ?_)
    | (intro b u hu; dsimp only)
    | intro b u hu
    | (intro u hu; dsimp only)
    | intro u hu
    | with_reducible refine serve_frame _ _ _ mbanks mrecd mboot mkiln mnoted ?_ ?_ | with_reducible refine dictRead_frame _ _ _ _ _ mrot mcys mclk mtim mxn mrecd mkiln mtwl mlnc mbw mmems mcores mnoted mlic ?_
    | split
    | dsimp only

theorem execGatewayWrite_frame {P : List Part} {t₀ : State} (by_ : Session) (data : List (BitVec 8)) (s : State) (mmod : Part.mod ∈ P) (mpwr : Part.pwr ∈ P) (mvrc : Part.vrc ∈ P) (mrot : Part.rot ∈ P) (mcys : Part.cys ∈ P) (mclk : Part.clk ∈ P) (mtim : Part.tim ∈ P) (mbanks : Part.banks ∈ P) (mchans : Part.chans ∈ P) (mxn : Part.xn ∈ P) (mrecd : Part.recd ∈ P) (mboot : Part.boot ∈ P) (mkiln : Part.kiln ∈ P) (mtwl : Part.twl ∈ P) (mlnc : Part.lnc ∈ P) (mcpn : Part.cpn ∈ P) (mcfd : Part.cfd ∈ P) (mbrg : Part.brg ∈ P) (mbw : Part.bw ∈ P) (mints : Part.ints ∈ P) (mmems : Part.mems ∈ P) (mcores : Part.cores ∈ P) (mvmem : Part.vmem ∈ P) (mheld : Part.held ∈ P) (mnoted : Part.noted ∈ P) (mlic : Part.lic ∈ P) (h₀ : SameBut P t₀ s) :
    OutFr P t₀ (execGatewayWrite by_ data s) := by
  unfold execGatewayWrite
  repeat' first
    | with_reducible assumption
    | (rename_i hq; have hq2 := congrArg Prod.snd hq; with_reducible dsimp only at hq2; subst hq2)
    | simp only [↓fr_mk_iff, true_or, or_true, mmod, mpwr, mvrc, mrot, mcys, mclk, mtim, mbanks, mchans, mxn, mrecd, mboot, mkiln, mtwl, mlnc, mcpn, mcfd, mbrg, mbw, mints, mmems, mcores, mvmem, mheld, mnoted, mlic]
    | with_reducible refine fr_ite ?_ ?_
    | with_reducible refine outFr_ite ?_ ?_
    | with_reducible refine outFr_next.2 ?_
    | with_reducible refine fr_ite2 ?_ ?_
    | with_reducible refine fr_foldl ?_ (fun _ _ _ => ?_)
    | (intro b u hu; dsimp only)
    | intro b u hu
    | (intro u hu; dsimp only)
    | intro u hu
    | with_reducible refine serve_frame _ _ _ mbanks mrecd mboot mkiln mnoted ?_ ?_ | with_reducible refine dictWrite_frame _ _ _ _ _ mmod mpwr mvrc mrot mcys mclk mtim mbanks mchans mxn mrecd mboot mkiln mtwl mlnc mcpn mcfd mbrg mbw mints mmems mcores mvmem mheld mnoted mlic ?_
    | split
    | dsimp only

theorem execSafetyWrite_frame {P : List Part} {t₀ : State} (by_ : Session) (index : BitVec 16) (sub : BitVec 8) (value : List (BitVec 8)) (s : State) (mmod : Part.mod ∈ P) (mpwr : Part.pwr ∈ P) (mvrc : Part.vrc ∈ P) (mrot : Part.rot ∈ P) (mcys : Part.cys ∈ P) (mclk : Part.clk ∈ P) (mtim : Part.tim ∈ P) (mbanks : Part.banks ∈ P) (mchans : Part.chans ∈ P) (mxn : Part.xn ∈ P) (mrecd : Part.recd ∈ P) (mboot : Part.boot ∈ P) (mkiln : Part.kiln ∈ P) (mtwl : Part.twl ∈ P) (mlnc : Part.lnc ∈ P) (mcpn : Part.cpn ∈ P) (mcfd : Part.cfd ∈ P) (mbrg : Part.brg ∈ P) (mbw : Part.bw ∈ P) (mints : Part.ints ∈ P) (mmems : Part.mems ∈ P) (mcores : Part.cores ∈ P) (mvmem : Part.vmem ∈ P) (mheld : Part.held ∈ P) (mnoted : Part.noted ∈ P) (mlic : Part.lic ∈ P) (h₀ : SameBut P t₀ s) :
    OutFr P t₀ (execSafetyWrite by_ index sub value s) := by
  unfold execSafetyWrite
  repeat' first
    | with_reducible assumption
    | (rename_i hq; have hq2 := congrArg Prod.snd hq; with_reducible dsimp only at hq2; subst hq2)
    | simp only [↓fr_mk_iff, true_or, or_true, mmod, mpwr, mvrc, mrot, mcys, mclk, mtim, mbanks, mchans, mxn, mrecd, mboot, mkiln, mtwl, mlnc, mcpn, mcfd, mbrg, mbw, mints, mmems, mcores, mvmem, mheld, mnoted, mlic]
    | with_reducible refine fr_ite ?_ ?_
    | with_reducible refine outFr_ite ?_ ?_
    | with_reducible refine outFr_next.2 ?_
    | with_reducible refine fr_ite2 ?_ ?_
    | with_reducible refine fr_foldl ?_ (fun _ _ _ => ?_)
    | (intro b u hu; dsimp only)
    | intro b u hu
    | (intro u hu; dsimp only)
    | intro u hu
    | with_reducible refine serve_frame _ _ _ mbanks mrecd mboot mkiln mnoted ?_ ?_ | with_reducible refine dictWrite_frame _ _ _ _ _ mmod mpwr mvrc mrot mcys mclk mtim mbanks mchans mxn mrecd mboot mkiln mtwl mlnc mcpn mcfd mbrg mbw mints mmems mcores mvmem mheld mnoted mlic ?_
    | split
    | dsimp only

theorem safetyRefuse_frame {P : List Part} {t₀ : State} (g : Staged) (code : Nat) (s : State) (mbanks : Part.banks ∈ P) (mrecd : Part.recd ∈ P) (mkiln : Part.kiln ∈ P) (mtwl : Part.twl ∈ P) (mints : Part.ints ∈ P) (mheld : Part.held ∈ P) (mnoted : Part.noted ∈ P) (mlic : Part.lic ∈ P) (h₀ : SameBut P t₀ s) :
    SameBut P t₀ (safetyRefuse g code s) := by
  unfold safetyRefuse
  repeat' first
    | with_reducible assumption
    | (rename_i hq; have hq2 := congrArg Prod.snd hq; with_reducible dsimp only at hq2; subst hq2)
    | simp only [↓fr_mk_iff, true_or, or_true, mbanks, mrecd, mkiln, mtwl, mints, mheld, mnoted, mlic]
    | with_reducible refine fr_ite ?_ ?_
    | with_reducible refine outFr_ite ?_ ?_
    | with_reducible refine outFr_next.2 ?_
    | with_reducible refine fr_ite2 ?_ ?_
    | with_reducible refine fr_foldl ?_ (fun _ _ _ => ?_)
    | with_reducible refine klmRefuse_frame _ _ mrecd mkiln mnoted ?_ | with_reducible refine standbyDrop_frame _ _ mbanks mrecd mtwl mints mheld mnoted mlic ?_
    | split
    | dsimp only

theorem execSafetyReserve_frame {P : List Part} {t₀ : State} (dt : Nat) (s : State) (mrot : Part.rot ∈ P) (mcys : Part.cys ∈ P) (mbanks : Part.banks ∈ P) (mrecd : Part.recd ∈ P) (mkiln : Part.kiln ∈ P) (mtwl : Part.twl ∈ P) (mints : Part.ints ∈ P) (mheld : Part.held ∈ P) (mnoted : Part.noted ∈ P) (mlic : Part.lic ∈ P) (h₀ : SameBut P t₀ (advance dt s)) :
    OutFr P t₀ (execSafetyReserve dt s) := by
  unfold execSafetyReserve
  repeat' first
    | with_reducible assumption
    | (rename_i hq; have hq2 := congrArg Prod.snd hq; with_reducible dsimp only at hq2; subst hq2)
    | simp only [↓fr_mk_iff, true_or, or_true, mrot, mcys, mbanks, mrecd, mkiln, mtwl, mints, mheld, mnoted, mlic]
    | with_reducible refine fr_ite ?_ ?_
    | with_reducible refine outFr_ite ?_ ?_
    | with_reducible refine outFr_next.2 ?_
    | with_reducible refine fr_ite2 ?_ ?_
    | with_reducible refine fr_foldl ?_ (fun _ _ _ => ?_)
    | with_reducible refine safetyRefuse_frame _ _ _ mbanks mrecd mkiln mtwl mints mheld mnoted mlic ?_ | with_reducible refine setKiln_frame _ _ mkiln ?_ | with_reducible refine safetyApply_frame _ _ _ _ mrot mcys mkiln ?_
    | split
    | dsimp only

theorem safetyStore_frame {P : List Part} {t₀ : State} (g : Staged) (s : State) (mrecd : Part.recd ∈ P) (mkiln : Part.kiln ∈ P) (mnoted : Part.noted ∈ P) (h₀ : SameBut P t₀ s) :
    SameBut P t₀ (safetyStore g s) := by
  unfold safetyStore
  repeat' first
    | with_reducible assumption
    | (rename_i hq; have hq2 := congrArg Prod.snd hq; with_reducible dsimp only at hq2; subst hq2)
    | simp only [↓fr_mk_iff, true_or, or_true, mrecd, mkiln, mnoted]
    | with_reducible refine fr_ite ?_ ?_
    | with_reducible refine outFr_ite ?_ ?_
    | with_reducible refine outFr_next.2 ?_
    | with_reducible refine fr_ite2 ?_ ?_
    | with_reducible refine fr_foldl ?_ (fun _ _ _ => ?_)
    | with_reducible refine record_frame _ _ _ _ _ _ mrecd mnoted ?_ | with_reducible refine putParam_frame _ _ _ _ mkiln ?_ | with_reducible refine klmClear_frame _ mkiln ?_ | with_reducible refine setKiln_frame _ _ mkiln ?_ | with_reducible refine reply_frame _ _ _ mkiln ?_
    | split
    | dsimp only

theorem execSafetyCommit_frame {P : List Part} {t₀ : State} (dt : Nat) (s : State) (mrecd : Part.recd ∈ P) (mkiln : Part.kiln ∈ P) (mnoted : Part.noted ∈ P) (h₀ : SameBut P t₀ (advance dt s)) :
    OutFr P t₀ (execSafetyCommit dt s) := by
  unfold execSafetyCommit
  repeat' first
    | with_reducible assumption
    | (rename_i hq; have hq2 := congrArg Prod.snd hq; with_reducible dsimp only at hq2; subst hq2)
    | simp only [↓fr_mk_iff, true_or, or_true, mrecd, mkiln, mnoted]
    | with_reducible refine fr_ite ?_ ?_
    | with_reducible refine outFr_ite ?_ ?_
    | with_reducible refine outFr_next.2 ?_
    | with_reducible refine fr_ite2 ?_ ?_
    | with_reducible refine fr_foldl ?_ (fun _ _ _ => ?_)
    | with_reducible refine safetyStore_frame _ _ mrecd mkiln mnoted ?_
    | split
    | dsimp only

theorem execSafetyTimeout_frame {P : List Part} {t₀ : State} (dt : Nat) (s : State) (mbanks : Part.banks ∈ P) (mrecd : Part.recd ∈ P) (mkiln : Part.kiln ∈ P) (mtwl : Part.twl ∈ P) (mints : Part.ints ∈ P) (mheld : Part.held ∈ P) (mnoted : Part.noted ∈ P) (mlic : Part.lic ∈ P) (h₀ : SameBut P t₀ (advance dt s)) :
    OutFr P t₀ (execSafetyTimeout dt s) := by
  unfold execSafetyTimeout
  repeat' first
    | with_reducible assumption
    | (rename_i hq; have hq2 := congrArg Prod.snd hq; with_reducible dsimp only at hq2; subst hq2)
    | simp only [↓fr_mk_iff, true_or, or_true, mbanks, mrecd, mkiln, mtwl, mints, mheld, mnoted, mlic]
    | with_reducible refine fr_ite ?_ ?_
    | with_reducible refine outFr_ite ?_ ?_
    | with_reducible refine outFr_next.2 ?_
    | with_reducible refine fr_ite2 ?_ ?_
    | with_reducible refine fr_foldl ?_ (fun _ _ _ => ?_)
    | with_reducible refine safetyRefuse_frame _ _ _ mbanks mrecd mkiln mtwl mints mheld mnoted mlic ?_
    | split
    | dsimp only

theorem execSafetyValueFromActive_frame {P : List Part} {t₀ : State} (head : TwinHead) (index : BitVec 16) (sub : BitVec 8) (value : List (BitVec 8)) (s : State) (mbanks : Part.banks ∈ P) (mrecd : Part.recd ∈ P) (mkiln : Part.kiln ∈ P) (mtwl : Part.twl ∈ P) (mbrg : Part.brg ∈ P) (mints : Part.ints ∈ P) (mheld : Part.held ∈ P) (mnoted : Part.noted ∈ P) (mlic : Part.lic ∈ P) (h₀ : SameBut P t₀ s) :
    OutFr P t₀ (execSafetyValueFromActive head index sub value s) := by
  unfold execSafetyValueFromActive
  repeat' first
    | with_reducible assumption
    | (rename_i hq; have hq2 := congrArg Prod.snd hq; with_reducible dsimp only at hq2; subst hq2)
    | simp only [↓fr_mk_iff, true_or, or_true, mbanks, mrecd, mkiln, mtwl, mbrg, mints, mheld, mnoted, mlic]
    | with_reducible refine fr_ite ?_ ?_
    | with_reducible refine outFr_ite ?_ ?_
    | with_reducible refine outFr_next.2 ?_
    | with_reducible refine fr_ite2 ?_ ?_
    | with_reducible refine fr_foldl ?_ (fun _ _ _ => ?_)
    | (intro b u hu; dsimp only)
    | intro b u hu
    | (intro u hu; dsimp only)
    | intro u hu
    | with_reducible refine linkFrame_frame _ _ _ mtwl ?_ ?_ | with_reducible refine stageSafety_frame _ _ _ _ _ mkiln mbrg mints mheld mlic ?_ | with_reducible refine standbyDrop_frame _ _ mbanks mrecd mtwl mints mheld mnoted mlic ?_ | with_reducible refine record_frame _ _ _ _ _ _ mrecd mnoted ?_
    | split
    | dsimp only

theorem execDebugHalt_frame {P : List Part} {t₀ : State} (by_ : Session) (s : State) (mmod : Part.mod ∈ P) (mpwr : Part.pwr ∈ P) (mvrc : Part.vrc ∈ P) (mrot : Part.rot ∈ P) (mcys : Part.cys ∈ P) (mclk : Part.clk ∈ P) (mtim : Part.tim ∈ P) (mbanks : Part.banks ∈ P) (mchans : Part.chans ∈ P) (mxn : Part.xn ∈ P) (mrecd : Part.recd ∈ P) (mboot : Part.boot ∈ P) (mkiln : Part.kiln ∈ P) (mtwl : Part.twl ∈ P) (mlnc : Part.lnc ∈ P) (mcpn : Part.cpn ∈ P) (mcfd : Part.cfd ∈ P) (mbrg : Part.brg ∈ P) (mbw : Part.bw ∈ P) (mints : Part.ints ∈ P) (mmems : Part.mems ∈ P) (mcores : Part.cores ∈ P) (mvmem : Part.vmem ∈ P) (mheld : Part.held ∈ P) (mnoted : Part.noted ∈ P) (mlic : Part.lic ∈ P) (h₀ : SameBut P t₀ s) :
    OutFr P t₀ (execDebugHalt by_ s) := by
  unfold execDebugHalt
  repeat' first
    | with_reducible assumption
    | (rename_i hq; have hq2 := congrArg Prod.snd hq; with_reducible dsimp only at hq2; subst hq2)
    | simp only [↓fr_mk_iff, true_or, or_true, mmod, mpwr, mvrc, mrot, mcys, mclk, mtim, mbanks, mchans, mxn, mrecd, mboot, mkiln, mtwl, mlnc, mcpn, mcfd, mbrg, mbw, mints, mmems, mcores, mvmem, mheld, mnoted, mlic]
    | with_reducible refine fr_ite ?_ ?_
    | with_reducible refine outFr_ite ?_ ?_
    | with_reducible refine outFr_next.2 ?_
    | with_reducible refine fr_ite2 ?_ ?_
    | with_reducible refine fr_foldl ?_ (fun _ _ _ => ?_)
    | (intro b u hu; dsimp only)
    | intro b u hu
    | (intro u hu; dsimp only)
    | intro u hu
    | with_reducible refine serve_frame _ _ _ mbanks mrecd mboot mkiln mnoted ?_ ?_ | with_reducible refine dictWrite_frame _ _ _ _ _ mmod mpwr mvrc mrot mcys mclk mtim mbanks mchans mxn mrecd mboot mkiln mtwl mlnc mcpn mcfd mbrg mbw mints mmems mcores mvmem mheld mnoted mlic ?_
    | split
    | dsimp only

theorem execDebugRun_frame {P : List Part} {t₀ : State} (by_ : Session) (s : State) (mmod : Part.mod ∈ P) (mpwr : Part.pwr ∈ P) (mvrc : Part.vrc ∈ P) (mrot : Part.rot ∈ P) (mcys : Part.cys ∈ P) (mclk : Part.clk ∈ P) (mtim : Part.tim ∈ P) (mbanks : Part.banks ∈ P) (mchans : Part.chans ∈ P) (mxn : Part.xn ∈ P) (mrecd : Part.recd ∈ P) (mboot : Part.boot ∈ P) (mkiln : Part.kiln ∈ P) (mtwl : Part.twl ∈ P) (mlnc : Part.lnc ∈ P) (mcpn : Part.cpn ∈ P) (mcfd : Part.cfd ∈ P) (mbrg : Part.brg ∈ P) (mbw : Part.bw ∈ P) (mints : Part.ints ∈ P) (mmems : Part.mems ∈ P) (mcores : Part.cores ∈ P) (mvmem : Part.vmem ∈ P) (mheld : Part.held ∈ P) (mnoted : Part.noted ∈ P) (mlic : Part.lic ∈ P) (h₀ : SameBut P t₀ s) :
    OutFr P t₀ (execDebugRun by_ s) := by
  unfold execDebugRun
  repeat' first
    | with_reducible assumption
    | (rename_i hq; have hq2 := congrArg Prod.snd hq; with_reducible dsimp only at hq2; subst hq2)
    | simp only [↓fr_mk_iff, true_or, or_true, mmod, mpwr, mvrc, mrot, mcys, mclk, mtim, mbanks, mchans, mxn, mrecd, mboot, mkiln, mtwl, mlnc, mcpn, mcfd, mbrg, mbw, mints, mmems, mcores, mvmem, mheld, mnoted, mlic]
    | with_reducible refine fr_ite ?_ ?_
    | with_reducible refine outFr_ite ?_ ?_
    | with_reducible refine outFr_next.2 ?_
    | with_reducible refine fr_ite2 ?_ ?_
    | with_reducible refine fr_foldl ?_ (fun _ _ _ => ?_)
    | (intro b u hu; dsimp only)
    | intro b u hu
    | (intro u hu; dsimp only)
    | intro u hu
    | with_reducible refine serve_frame _ _ _ mbanks mrecd mboot mkiln mnoted ?_ ?_ | with_reducible refine dictWrite_frame _ _ _ _ _ mmod mpwr mvrc mrot mcys mclk mtim mbanks mchans mxn mrecd mboot mkiln mtwl mlnc mcpn mcfd mbrg mbw mints mmems mcores mvmem mheld mnoted mlic ?_
    | split
    | dsimp only

theorem execDebugStep_frame {P : List Part} {t₀ : State} (by_ : Session) (s : State) (mmod : Part.mod ∈ P) (mpwr : Part.pwr ∈ P) (mvrc : Part.vrc ∈ P) (mrot : Part.rot ∈ P) (mcys : Part.cys ∈ P) (mclk : Part.clk ∈ P) (mtim : Part.tim ∈ P) (mbanks : Part.banks ∈ P) (mchans : Part.chans ∈ P) (mxn : Part.xn ∈ P) (mrecd : Part.recd ∈ P) (mboot : Part.boot ∈ P) (mkiln : Part.kiln ∈ P) (mtwl : Part.twl ∈ P) (mlnc : Part.lnc ∈ P) (mcpn : Part.cpn ∈ P) (mcfd : Part.cfd ∈ P) (mbrg : Part.brg ∈ P) (mbw : Part.bw ∈ P) (mints : Part.ints ∈ P) (mmems : Part.mems ∈ P) (mcores : Part.cores ∈ P) (mvmem : Part.vmem ∈ P) (mheld : Part.held ∈ P) (mnoted : Part.noted ∈ P) (mlic : Part.lic ∈ P) (h₀ : SameBut P t₀ s) :
    OutFr P t₀ (execDebugStep by_ s) := by
  unfold execDebugStep
  repeat' first
    | with_reducible assumption
    | (rename_i hq; have hq2 := congrArg Prod.snd hq; with_reducible dsimp only at hq2; subst hq2)
    | simp only [↓fr_mk_iff, true_or, or_true, mmod, mpwr, mvrc, mrot, mcys, mclk, mtim, mbanks, mchans, mxn, mrecd, mboot, mkiln, mtwl, mlnc, mcpn, mcfd, mbrg, mbw, mints, mmems, mcores, mvmem, mheld, mnoted, mlic]
    | with_reducible refine fr_ite ?_ ?_
    | with_reducible refine outFr_ite ?_ ?_
    | with_reducible refine outFr_next.2 ?_
    | with_reducible refine fr_ite2 ?_ ?_
    | with_reducible refine fr_foldl ?_ (fun _ _ _ => ?_)
    | (intro b u hu; dsimp only)
    | intro b u hu
    | (intro u hu; dsimp only)
    | intro u hu
    | with_reducible refine serve_frame _ _ _ mbanks mrecd mboot mkiln mnoted ?_ ?_ | with_reducible refine dictWrite_frame _ _ _ _ _ mmod mpwr mvrc mrot mcys mclk mtim mbanks mchans mxn mrecd mboot mkiln mtwl mlnc mcpn mcfd mbrg mbw mints mmems mcores mvmem mheld mnoted mlic ?_
    | split
    | dsimp only

theorem execDebugRegisterAccess_frame {P : List Part} {t₀ : State} (by_ : Session) (reg : DebugReg) (value : Option (List (BitVec 8))) (s : State) (mmod : Part.mod ∈ P) (mpwr : Part.pwr ∈ P) (mvrc : Part.vrc ∈ P) (mrot : Part.rot ∈ P) (mcys : Part.cys ∈ P) (mclk : Part.clk ∈ P) (mtim : Part.tim ∈ P) (mbanks : Part.banks ∈ P) (mchans : Part.chans ∈ P) (mxn : Part.xn ∈ P) (mrecd : Part.recd ∈ P) (mboot : Part.boot ∈ P) (mkiln : Part.kiln ∈ P) (mtwl : Part.twl ∈ P) (mlnc : Part.lnc ∈ P) (mcpn : Part.cpn ∈ P) (mcfd : Part.cfd ∈ P) (mbrg : Part.brg ∈ P) (mbw : Part.bw ∈ P) (mints : Part.ints ∈ P) (mmems : Part.mems ∈ P) (mcores : Part.cores ∈ P) (mvmem : Part.vmem ∈ P) (mheld : Part.held ∈ P) (mnoted : Part.noted ∈ P) (mlic : Part.lic ∈ P) (h₀ : SameBut P t₀ s) :
    OutFr P t₀ (execDebugRegisterAccess by_ reg value s) := by
  unfold execDebugRegisterAccess
  repeat' first
    | with_reducible assumption
    | (rename_i hq; have hq2 := congrArg Prod.snd hq; with_reducible dsimp only at hq2; subst hq2)
    | simp only [↓fr_mk_iff, true_or, or_true, mmod, mpwr, mvrc, mrot, mcys, mclk, mtim, mbanks, mchans, mxn, mrecd, mboot, mkiln, mtwl, mlnc, mcpn, mcfd, mbrg, mbw, mints, mmems, mcores, mvmem, mheld, mnoted, mlic]
    | with_reducible refine fr_ite ?_ ?_
    | with_reducible refine outFr_ite ?_ ?_
    | with_reducible refine outFr_next.2 ?_
    | with_reducible refine fr_ite2 ?_ ?_
    | with_reducible refine fr_foldl ?_ (fun _ _ _ => ?_)
    | (intro b u hu; dsimp only)
    | intro b u hu
    | (intro u hu; dsimp only)
    | intro u hu
    | with_reducible refine serve_frame _ _ _ mbanks mrecd mboot mkiln mnoted ?_ ?_ | with_reducible refine dictWrite_frame _ _ _ _ _ mmod mpwr mvrc mrot mcys mclk mtim mbanks mchans mxn mrecd mboot mkiln mtwl mlnc mcpn mcfd mbrg mbw mints mmems mcores mvmem mheld mnoted mlic ?_ | with_reducible refine dictRead_frame _ _ _ _ _ mrot mcys mclk mtim mxn mrecd mkiln mtwl mlnc mbw mmems mcores mnoted mlic ?_
    | split
    | dsimp only

theorem debugMemGet_frame {P : List Part} {t₀ : State} (b : Session) (n : Nat) (s : State)  (h₀ : SameBut P t₀ s) :
    SameBut P t₀ (debugMemGet b n s).2 := by
  unfold debugMemGet
  repeat' first
    | with_reducible assumption
    | (rename_i hq; have hq2 := congrArg Prod.snd hq; with_reducible dsimp only at hq2; subst hq2)
    | simp only [↓fr_mk_iff, true_or, or_true]
    | with_reducible refine fr_ite ?_ ?_
    | with_reducible refine outFr_ite ?_ ?_
    | with_reducible refine outFr_next.2 ?_
    | with_reducible refine fr_ite2 ?_ ?_
    | with_reducible refine fr_foldl ?_ (fun _ _ _ => ?_)
    | split
    | dsimp only

theorem execDebugMemoryAccess_frame {P : List Part} {t₀ : State} (by_ : Session) (length : BitVec 16) (value : Option (List (BitVec 8))) (s : State) (mmod : Part.mod ∈ P) (mpwr : Part.pwr ∈ P) (mvrc : Part.vrc ∈ P) (mrot : Part.rot ∈ P) (mcys : Part.cys ∈ P) (mclk : Part.clk ∈ P) (mtim : Part.tim ∈ P) (mbanks : Part.banks ∈ P) (mchans : Part.chans ∈ P) (mxn : Part.xn ∈ P) (mrecd : Part.recd ∈ P) (mboot : Part.boot ∈ P) (mkiln : Part.kiln ∈ P) (mtwl : Part.twl ∈ P) (mlnc : Part.lnc ∈ P) (mcpn : Part.cpn ∈ P) (mcfd : Part.cfd ∈ P) (mbrg : Part.brg ∈ P) (mbw : Part.bw ∈ P) (mints : Part.ints ∈ P) (mmems : Part.mems ∈ P) (mcores : Part.cores ∈ P) (mvmem : Part.vmem ∈ P) (mheld : Part.held ∈ P) (mnoted : Part.noted ∈ P) (mlic : Part.lic ∈ P) (h₀ : SameBut P t₀ s) :
    OutFr P t₀ (execDebugMemoryAccess by_ length value s) := by
  unfold execDebugMemoryAccess
  repeat' first
    | with_reducible assumption
    | (rename_i hq; have hq2 := congrArg Prod.snd hq; with_reducible dsimp only at hq2; subst hq2)
    | simp only [↓fr_mk_iff, true_or, or_true, mmod, mpwr, mvrc, mrot, mcys, mclk, mtim, mbanks, mchans, mxn, mrecd, mboot, mkiln, mtwl, mlnc, mcpn, mcfd, mbrg, mbw, mints, mmems, mcores, mvmem, mheld, mnoted, mlic]
    | with_reducible refine fr_ite ?_ ?_
    | with_reducible refine outFr_ite ?_ ?_
    | with_reducible refine outFr_next.2 ?_
    | with_reducible refine fr_ite2 ?_ ?_
    | with_reducible refine fr_foldl ?_ (fun _ _ _ => ?_)
    | (intro b u hu; dsimp only)
    | intro b u hu
    | (intro u hu; dsimp only)
    | intro u hu
    | with_reducible refine serve_frame _ _ _ mbanks mrecd mboot mkiln mnoted ?_ ?_ | with_reducible refine dictWrite_frame _ _ _ _ _ mmod mpwr mvrc mrot mcys mclk mtim mbanks mchans mxn mrecd mboot mkiln mtwl mlnc mcpn mcfd mbrg mbw mints mmems mcores mvmem mheld mnoted mlic ?_ | with_reducible refine debugMemGet_frame _ _ _  ?_
    | split
    | dsimp only

theorem execDebugBreakpointHit_frame {P : List Part} {t₀ : State} (core : Fin 8) (s : State) (mmod : Part.mod ∈ P) (mvrc : Part.vrc ∈ P) (mrot : Part.rot ∈ P) (mcys : Part.cys ∈ P) (mbanks : Part.banks ∈ P) (mchans : Part.chans ∈ P) (mxn : Part.xn ∈ P) (mrecd : Part.recd ∈ P) (mkiln : Part.kiln ∈ P) (mtwl : Part.twl ∈ P) (mints : Part.ints ∈ P) (mcores : Part.cores ∈ P) (mheld : Part.held ∈ P) (mnoted : Part.noted ∈ P) (mlic : Part.lic ∈ P) (h₀ : SameBut P t₀ s) :
    OutFr P t₀ (execDebugBreakpointHit core s) := by
  unfold execDebugBreakpointHit
  repeat' first
    | with_reducible assumption
    | (rename_i hq; have hq2 := congrArg Prod.snd hq; with_reducible dsimp only at hq2; subst hq2)
    | simp only [↓fr_mk_iff, true_or, or_true, mmod, mvrc, mrot, mcys, mbanks, mchans, mxn, mrecd, mkiln, mtwl, mints, mcores, mheld, mnoted, mlic]
    | with_reducible refine fr_ite ?_ ?_
    | with_reducible refine outFr_ite ?_ ?_
    | with_reducible refine outFr_next.2 ?_
    | with_reducible refine fr_ite2 ?_ ?_
    | with_reducible refine fr_foldl ?_ (fun _ _ _ => ?_)
    | with_reducible refine haltTarget_frame _ mmod mvrc mrot mcys mbanks mchans mxn mrecd mkiln mtwl mints mcores mheld mnoted mlic ?_
    | split
    | dsimp only

theorem execFwBlock_frame {P : List Part} {t₀ : State} (by_ : Session) (block : BlockIn) (s : State) (mbanks : Part.banks ∈ P) (mxn : Part.xn ∈ P) (mrecd : Part.recd ∈ P) (mboot : Part.boot ∈ P) (mkiln : Part.kiln ∈ P) (mnoted : Part.noted ∈ P) (h₀ : SameBut P t₀ s) :
    OutFr P t₀ (execFwBlock by_ block s) := by
  unfold execFwBlock
  repeat' first
    | with_reducible assumption
    | (rename_i hq; have hq2 := congrArg Prod.snd hq; with_reducible dsimp only at hq2; subst hq2)
    | simp only [↓fr_mk_iff, true_or, or_true, mbanks, mxn, mrecd, mboot, mkiln, mnoted]
    | with_reducible refine fr_ite ?_ ?_
    | with_reducible refine outFr_ite ?_ ?_
    | with_reducible refine outFr_next.2 ?_
    | with_reducible refine fr_ite2 ?_ ?_
    | with_reducible refine fr_foldl ?_ (fun _ _ _ => ?_)
    | (intro b u hu; dsimp only)
    | intro b u hu
    | (intro u hu; dsimp only)
    | intro u hu
    | with_reducible refine serve_frame _ _ _ mbanks mrecd mboot mkiln mnoted ?_ ?_ | with_reducible refine blockWrite_frame _ _ _ _ _ mbanks mxn mrecd mboot mkiln mnoted ?_
    | split
    | dsimp only

theorem execAppImageBlock_frame {P : List Part} {t₀ : State} (by_ : Session) (block : BlockIn) (s : State) (mbanks : Part.banks ∈ P) (mxn : Part.xn ∈ P) (mrecd : Part.recd ∈ P) (mboot : Part.boot ∈ P) (mkiln : Part.kiln ∈ P) (mnoted : Part.noted ∈ P) (h₀ : SameBut P t₀ s) :
    OutFr P t₀ (execAppImageBlock by_ block s) := by
  unfold execAppImageBlock
  repeat' first
    | with_reducible assumption
    | (rename_i hq; have hq2 := congrArg Prod.snd hq; with_reducible dsimp only at hq2; subst hq2)
    | simp only [↓fr_mk_iff, true_or, or_true, mbanks, mxn, mrecd, mboot, mkiln, mnoted]
    | with_reducible refine fr_ite ?_ ?_
    | with_reducible refine outFr_ite ?_ ?_
    | with_reducible refine outFr_next.2 ?_
    | with_reducible refine fr_ite2 ?_ ?_
    | with_reducible refine fr_foldl ?_ (fun _ _ _ => ?_)
    | (intro b u hu; dsimp only)
    | intro b u hu
    | (intro u hu; dsimp only)
    | intro u hu
    | with_reducible refine serve_frame _ _ _ mbanks mrecd mboot mkiln mnoted ?_ ?_ | with_reducible refine blockWrite_frame _ _ _ _ _ mbanks mxn mrecd mboot mkiln mnoted ?_
    | split
    | dsimp only

theorem execScheduleTableBlock_frame {P : List Part} {t₀ : State} (by_ : Session) (block : BlockIn) (s : State) (mbanks : Part.banks ∈ P) (mxn : Part.xn ∈ P) (mrecd : Part.recd ∈ P) (mboot : Part.boot ∈ P) (mkiln : Part.kiln ∈ P) (mnoted : Part.noted ∈ P) (h₀ : SameBut P t₀ s) :
    OutFr P t₀ (execScheduleTableBlock by_ block s) := by
  unfold execScheduleTableBlock
  repeat' first
    | with_reducible assumption
    | (rename_i hq; have hq2 := congrArg Prod.snd hq; with_reducible dsimp only at hq2; subst hq2)
    | simp only [↓fr_mk_iff, true_or, or_true, mbanks, mxn, mrecd, mboot, mkiln, mnoted]
    | with_reducible refine fr_ite ?_ ?_
    | with_reducible refine outFr_ite ?_ ?_
    | with_reducible refine outFr_next.2 ?_
    | with_reducible refine fr_ite2 ?_ ?_
    | with_reducible refine fr_foldl ?_ (fun _ _ _ => ?_)
    | (intro b u hu; dsimp only)
    | intro b u hu
    | (intro u hu; dsimp only)
    | intro u hu
    | with_reducible refine serve_frame _ _ _ mbanks mrecd mboot mkiln mnoted ?_ ?_ | with_reducible refine blockWrite_frame _ _ _ _ _ mbanks mxn mrecd mboot mkiln mnoted ?_
    | split
    | dsimp only

theorem execTransferAbandonTimeout_frame {P : List Part} {t₀ : State} (dt : Nat) (index : BitVec 16) (s : State) (mrecd : Part.recd ∈ P) (mboot : Part.boot ∈ P) (mkiln : Part.kiln ∈ P) (mnoted : Part.noted ∈ P) (h₀ : SameBut P t₀ (advance dt s)) :
    OutFr P t₀ (execTransferAbandonTimeout dt index s) := by
  unfold execTransferAbandonTimeout
  repeat' first
    | with_reducible assumption
    | (rename_i hq; have hq2 := congrArg Prod.snd hq; with_reducible dsimp only at hq2; subst hq2)
    | simp only [↓fr_mk_iff, true_or, or_true, mrecd, mboot, mkiln, mnoted]
    | with_reducible refine fr_ite ?_ ?_
    | with_reducible refine outFr_ite ?_ ?_
    | with_reducible refine outFr_next.2 ?_
    | with_reducible refine fr_ite2 ?_ ?_
    | with_reducible refine fr_foldl ?_ (fun _ _ _ => ?_)
    | with_reducible refine abandonFw_frame _ mrecd mboot mnoted ?_ | with_reducible refine abandonApp_frame _ mrecd mboot mnoted ?_ | with_reducible refine abandonSched_frame _ mrecd mboot mnoted ?_ | with_reducible refine setKiln_frame _ _ mkiln ?_
    | split
    | dsimp only

theorem execFlashSectorErased_frame {P : List Part} {t₀ : State} (dt : Nat) (s : State) (mbanks : Part.banks ∈ P) (mrecd : Part.recd ∈ P) (mboot : Part.boot ∈ P) (mkiln : Part.kiln ∈ P) (mnoted : Part.noted ∈ P) (h₀ : SameBut P t₀ (advance dt s)) :
    OutFr P t₀ (execFlashSectorErased dt s) := by
  unfold execFlashSectorErased
  repeat' first
    | with_reducible assumption
    | (rename_i hq; have hq2 := congrArg Prod.snd hq; with_reducible dsimp only at hq2; subst hq2)
    | simp only [↓fr_mk_iff, true_or, or_true, mbanks, mrecd, mboot, mkiln, mnoted]
    | with_reducible refine fr_ite ?_ ?_
    | with_reducible refine outFr_ite ?_ ?_
    | with_reducible refine outFr_next.2 ?_
    | with_reducible refine fr_ite2 ?_ ?_
    | with_reducible refine fr_foldl ?_ (fun _ _ _ => ?_)
    | with_reducible refine fwErased_frame _ mbanks mrecd mboot mkiln mnoted ?_
    | split
    | dsimp only

theorem execFwActivate_frame {P : List Part} {t₀ : State} (by_ : Session) (s : State) (mmod : Part.mod ∈ P) (mpwr : Part.pwr ∈ P) (mvrc : Part.vrc ∈ P) (mrot : Part.rot ∈ P) (mcys : Part.cys ∈ P) (mclk : Part.clk ∈ P) (mtim : Part.tim ∈ P) (mbanks : Part.banks ∈ P) (mchans : Part.chans ∈ P) (mxn : Part.xn ∈ P) (mrecd : Part.recd ∈ P) (mboot : Part.boot ∈ P) (mkiln : Part.kiln ∈ P) (mtwl : Part.twl ∈ P) (mlnc : Part.lnc ∈ P) (mcpn : Part.cpn ∈ P) (mcfd : Part.cfd ∈ P) (mbrg : Part.brg ∈ P) (mbw : Part.bw ∈ P) (mints : Part.ints ∈ P) (mmems : Part.mems ∈ P) (mcores : Part.cores ∈ P) (mvmem : Part.vmem ∈ P) (mheld : Part.held ∈ P) (mnoted : Part.noted ∈ P) (mlic : Part.lic ∈ P) (h₀ : SameBut P t₀ s) :
    OutFr P t₀ (execFwActivate by_ s) := by
  unfold execFwActivate
  repeat' first
    | with_reducible assumption
    | (rename_i hq; have hq2 := congrArg Prod.snd hq; with_reducible dsimp only at hq2; subst hq2)
    | simp only [↓fr_mk_iff, true_or, or_true, mmod, mpwr, mvrc, mrot, mcys, mclk, mtim, mbanks, mchans, mxn, mrecd, mboot, mkiln, mtwl, mlnc, mcpn, mcfd, mbrg, mbw, mints, mmems, mcores, mvmem, mheld, mnoted, mlic]
    | with_reducible refine fr_ite ?_ ?_
    | with_reducible refine outFr_ite ?_ ?_
    | with_reducible refine outFr_next.2 ?_
    | with_reducible refine fr_ite2 ?_ ?_
    | with_reducible refine fr_foldl ?_ (fun _ _ _ => ?_)
    | (intro b u hu; dsimp only)
    | intro b u hu
    | (intro u hu; dsimp only)
    | intro u hu
    | with_reducible refine serve_frame _ _ _ mbanks mrecd mboot mkiln mnoted ?_ ?_ | with_reducible refine dictWrite_frame _ _ _ _ _ mmod mpwr mvrc mrot mcys mclk mtim mbanks mchans mxn mrecd mboot mkiln mtwl mlnc mcpn mcfd mbrg mbw mints mmems mcores mvmem mheld mnoted mlic ?_
    | split
    | dsimp only

theorem execFwRevert_frame {P : List Part} {t₀ : State} (by_ : Session) (s : State) (mmod : Part.mod ∈ P) (mpwr : Part.pwr ∈ P) (mvrc : Part.vrc ∈ P) (mrot : Part.rot ∈ P) (mcys : Part.cys ∈ P) (mclk : Part.clk ∈ P) (mtim : Part.tim ∈ P) (mbanks : Part.banks ∈ P) (mchans : Part.chans ∈ P) (mxn : Part.xn ∈ P) (mrecd : Part.recd ∈ P) (mboot : Part.boot ∈ P) (mkiln : Part.kiln ∈ P) (mtwl : Part.twl ∈ P) (mlnc : Part.lnc ∈ P) (mcpn : Part.cpn ∈ P) (mcfd : Part.cfd ∈ P) (mbrg : Part.brg ∈ P) (mbw : Part.bw ∈ P) (mints : Part.ints ∈ P) (mmems : Part.mems ∈ P) (mcores : Part.cores ∈ P) (mvmem : Part.vmem ∈ P) (mheld : Part.held ∈ P) (mnoted : Part.noted ∈ P) (mlic : Part.lic ∈ P) (h₀ : SameBut P t₀ s) :
    OutFr P t₀ (execFwRevert by_ s) := by
  unfold execFwRevert
  repeat' first
    | with_reducible assumption
    | (rename_i hq; have hq2 := congrArg Prod.snd hq; with_reducible dsimp only at hq2; subst hq2)
    | simp only [↓fr_mk_iff, true_or, or_true, mmod, mpwr, mvrc, mrot, mcys, mclk, mtim, mbanks, mchans, mxn, mrecd, mboot, mkiln, mtwl, mlnc, mcpn, mcfd, mbrg, mbw, mints, mmems, mcores, mvmem, mheld, mnoted, mlic]
    | with_reducible refine fr_ite ?_ ?_
    | with_reducible refine outFr_ite ?_ ?_
    | with_reducible refine outFr_next.2 ?_
    | with_reducible refine fr_ite2 ?_ ?_
    | with_reducible refine fr_foldl ?_ (fun _ _ _ => ?_)
    | (intro b u hu; dsimp only)
    | intro b u hu
    | (intro u hu; dsimp only)
    | intro u hu
    | with_reducible refine serve_frame _ _ _ mbanks mrecd mboot mkiln mnoted ?_ ?_ | with_reducible refine dictWrite_frame _ _ _ _ _ mmod mpwr mvrc mrot mcys mclk mtim mbanks mchans mxn mrecd mboot mkiln mtwl mlnc mcpn mcfd mbrg mbw mints mmems mcores mvmem mheld mnoted mlic ?_
    | split
    | dsimp only

theorem execFwCancelTransfer_frame {P : List Part} {t₀ : State} (by_ : Session) (s : State) (mmod : Part.mod ∈ P) (mpwr : Part.pwr ∈ P) (mvrc : Part.vrc ∈ P) (mrot : Part.rot ∈ P) (mcys : Part.cys ∈ P) (mclk : Part.clk ∈ P) (mtim : Part.tim ∈ P) (mbanks : Part.banks ∈ P) (mchans : Part.chans ∈ P) (mxn : Part.xn ∈ P) (mrecd : Part.recd ∈ P) (mboot : Part.boot ∈ P) (mkiln : Part.kiln ∈ P) (mtwl : Part.twl ∈ P) (mlnc : Part.lnc ∈ P) (mcpn : Part.cpn ∈ P) (mcfd : Part.cfd ∈ P) (mbrg : Part.brg ∈ P) (mbw : Part.bw ∈ P) (mints : Part.ints ∈ P) (mmems : Part.mems ∈ P) (mcores : Part.cores ∈ P) (mvmem : Part.vmem ∈ P) (mheld : Part.held ∈ P) (mnoted : Part.noted ∈ P) (mlic : Part.lic ∈ P) (h₀ : SameBut P t₀ s) :
    OutFr P t₀ (execFwCancelTransfer by_ s) := by
  unfold execFwCancelTransfer
  repeat' first
    | with_reducible assumption
    | (rename_i hq; have hq2 := congrArg Prod.snd hq; with_reducible dsimp only at hq2; subst hq2)
    | simp only [↓fr_mk_iff, true_or, or_true, mmod, mpwr, mvrc, mrot, mcys, mclk, mtim, mbanks, mchans, mxn, mrecd, mboot, mkiln, mtwl, mlnc, mcpn, mcfd, mbrg, mbw, mints, mmems, mcores, mvmem, mheld, mnoted, mlic]
    | with_reducible refine fr_ite ?_ ?_
    | with_reducible refine outFr_ite ?_ ?_
    | with_reducible refine outFr_next.2 ?_
    | with_reducible refine fr_ite2 ?_ ?_
    | with_reducible refine fr_foldl ?_ (fun _ _ _ => ?_)
    | (intro b u hu; dsimp only)
    | intro b u hu
    | (intro u hu; dsimp only)
    | intro u hu
    | with_reducible refine serve_frame _ _ _ mbanks mrecd mboot mkiln mnoted ?_ ?_ | with_reducible refine dictWrite_frame _ _ _ _ _ mmod mpwr mvrc mrot mcys mclk mtim mbanks mchans mxn mrecd mboot mkiln mtwl mlnc mcpn mcfd mbrg mbw mints mmems mcores mvmem mheld mnoted mlic ?_
    | split
    | dsimp only

theorem execFwCancelActivation_frame {P : List Part} {t₀ : State} (by_ : Session) (s : State) (mmod : Part.mod ∈ P) (mpwr : Part.pwr ∈ P) (mvrc : Part.vrc ∈ P) (mrot : Part.rot ∈ P) (mcys : Part.cys ∈ P) (mclk : Part.clk ∈ P) (mtim : Part.tim ∈ P) (mbanks : Part.banks ∈ P) (mchans : Part.chans ∈ P) (mxn : Part.xn ∈ P) (mrecd : Part.recd ∈ P) (mboot : Part.boot ∈ P) (mkiln : Part.kiln ∈ P) (mtwl : Part.twl ∈ P) (mlnc : Part.lnc ∈ P) (mcpn : Part.cpn ∈ P) (mcfd : Part.cfd ∈ P) (mbrg : Part.brg ∈ P) (mbw : Part.bw ∈ P) (mints : Part.ints ∈ P) (mmems : Part.mems ∈ P) (mcores : Part.cores ∈ P) (mvmem : Part.vmem ∈ P) (mheld : Part.held ∈ P) (mnoted : Part.noted ∈ P) (mlic : Part.lic ∈ P) (h₀ : SameBut P t₀ s) :
    OutFr P t₀ (execFwCancelActivation by_ s) := by
  unfold execFwCancelActivation
  repeat' first
    | with_reducible assumption
    | (rename_i hq; have hq2 := congrArg Prod.snd hq; with_reducible dsimp only at hq2; subst hq2)
    | simp only [↓fr_mk_iff, true_or, or_true, mmod, mpwr, mvrc, mrot, mcys, mclk, mtim, mbanks, mchans, mxn, mrecd, mboot, mkiln, mtwl, mlnc, mcpn, mcfd, mbrg, mbw, mints, mmems, mcores, mvmem, mheld, mnoted, mlic]
    | with_reducible refine fr_ite ?_ ?_
    | with_reducible refine outFr_ite ?_ ?_
    | with_reducible refine outFr_next.2 ?_
    | with_reducible refine fr_ite2 ?_ ?_
    | with_reducible refine fr_foldl ?_ (fun _ _ _ => ?_)
    | (intro b u hu; dsimp only)
    | intro b u hu
    | (intro u hu; dsimp only)
    | intro u hu
    | with_reducible refine serve_frame _ _ _ mbanks mrecd mboot mkiln mnoted ?_ ?_ | with_reducible refine dictWrite_frame _ _ _ _ _ mmod mpwr mvrc mrot mcys mclk mtim mbanks mchans mxn mrecd mboot mkiln mtwl mlnc mcpn mcfd mbrg mbw mints mmems mcores mvmem mheld mnoted mlic ?_
    | split
    | dsimp only

theorem execRecorderRead_frame {P : List Part} {t₀ : State} (by_ : Session) (s : State) (mrot : Part.rot ∈ P) (mcys : Part.cys ∈ P) (mclk : Part.clk ∈ P) (mtim : Part.tim ∈ P) (mbanks : Part.banks ∈ P) (mxn : Part.xn ∈ P) (mrecd : Part.recd ∈ P) (mboot : Part.boot ∈ P) (mkiln : Part.kiln ∈ P) (mtwl : Part.twl ∈ P) (mlnc : Part.lnc ∈ P) (mbw : Part.bw ∈ P) (mmems : Part.mems ∈ P) (mcores : Part.cores ∈ P) (mnoted : Part.noted ∈ P) (mlic : Part.lic ∈ P) (h₀ : SameBut P t₀ s) :
    OutFr P t₀ (execRecorderRead by_ s) := by
  unfold execRecorderRead
  repeat' first
    | with_reducible assumption
    | (rename_i hq; have hq2 := congrArg Prod.snd hq; with_reducible dsimp only at hq2; subst hq2)
    | simp only [↓fr_mk_iff, true_or, or_true, mrot, mcys, mclk, mtim, mbanks, mxn, mrecd, mboot, mkiln, mtwl, mlnc, mbw, mmems, mcores, mnoted, mlic]
    | with_reducible refine fr_ite ?_ ?_
    | with_reducible refine outFr_ite ?_ ?_
    | with_reducible refine outFr_next.2 ?_
    | with_reducible refine fr_ite2 ?_ ?_
    | with_reducible refine fr_foldl ?_ (fun _ _ _ => ?_)
    | (intro b u hu; dsimp only)
    | intro b u hu
    | (intro u hu; dsimp only)
    | intro u hu
    | with_reducible refine serve_frame _ _ _ mbanks mrecd mboot mkiln mnoted ?_ ?_ | with_reducible refine dictRead_frame _ _ _ _ _ mrot mcys mclk mtim mxn mrecd mkiln mtwl mlnc mbw mmems mcores mnoted mlic ?_
    | split
    | dsimp only

theorem storeReply_frame {P : List Part} {t₀ : State} (i : Nat) (c : XSlot) (f : List Byte) (bits : Nat) (late : Bool) (s : State) (mvrc : Part.vrc ∈ P) (mtwl : Part.twl ∈ P) (mvmem : Part.vmem ∈ P) (h₀ : SameBut P t₀ s) :
    SameBut P t₀ (storeReply i c f bits late s) := by
  unfold storeReply
  repeat' first
    | with_reducible assumption
    | (rename_i hq; have hq2 := congrArg Prod.snd hq; with_reducible dsimp only at hq2; subst hq2)
    | simp only [↓fr_mk_iff, true_or, or_true, mvrc, mtwl, mvmem]
    | with_reducible refine fr_ite ?_ ?_
    | with_reducible refine outFr_ite ?_ ?_
    | with_reducible refine outFr_next.2 ?_
    | with_reducible refine fr_ite2 ?_ ?_
    | with_reducible refine fr_foldl ?_ (fun _ _ _ => ?_)
    | with_reducible refine vwrite_frame _ _ _ mvrc mtwl mvmem ?_ | with_reducible refine putStat_frame _ _ _ mvrc mtwl mvmem ?_
    | split
    | dsimp only

theorem pollReply_frame {P : List Part} {t₀ : State} (k : Fin 64) (i : Nat) (c : XSlot) (f : List Byte) (bits : Nat) (after : Int) (s : State) (mvrc : Part.vrc ∈ P) (mxn : Part.xn ∈ P) (mrecd : Part.recd ∈ P) (mtwl : Part.twl ∈ P) (mints : Part.ints ∈ P) (mvmem : Part.vmem ∈ P) (mheld : Part.held ∈ P) (mnoted : Part.noted ∈ P) (mlic : Part.lic ∈ P) (h₀ : SameBut P t₀ s) :
    SameBut P t₀ (pollReply k i c f bits after s) := by
  unfold pollReply
  repeat' first
    | with_reducible assumption
    | (rename_i hq; have hq2 := congrArg Prod.snd hq; with_reducible dsimp only at hq2; subst hq2)
    | simp only [↓fr_mk_iff, true_or, or_true, mvrc, mxn, mrecd, mtwl, mints, mvmem, mheld, mnoted, mlic]
    | with_reducible refine fr_ite ?_ ?_
    | with_reducible refine outFr_ite ?_ ?_
    | with_reducible refine outFr_next.2 ?_
    | with_reducible refine fr_ite2 ?_ ?_
    | with_reducible refine fr_foldl ?_ (fun _ _ _ => ?_)
    | with_reducible refine nodeDrift_frame _ _ _ _ mvrc mxn mrecd mtwl mints mvmem mheld mnoted mlic ?_ | with_reducible refine setNode_frame _ _ _ mvrc mxn mtwl mvmem ?_ | with_reducible refine putResult_frame _ _ _ mvrc mtwl mvmem ?_ | with_reducible refine nodeReplied_frame _ _ mvrc mxn mrecd mtwl mints mvmem mheld mnoted mlic ?_ | with_reducible refine storeReply_frame _ _ _ _ _ _ mvrc mtwl mvmem ?_ | with_reducible refine nodeLate_frame _ _ _ _ mvrc mxn mrecd mtwl mints mvmem mheld mnoted mlic ?_
    | split
    | dsimp only

theorem probeReply_frame {P : List Part} {t₀ : State} (k : Fin 64) (c : XSlot) (after : Int) (s : State) (mvrc : Part.vrc ∈ P) (mxn : Part.xn ∈ P) (mrecd : Part.recd ∈ P) (mtwl : Part.twl ∈ P) (mvmem : Part.vmem ∈ P) (mnoted : Part.noted ∈ P) (h₀ : SameBut P t₀ s) :
    SameBut P t₀ (probeReply k c after s) := by
  unfold probeReply
  repeat' first
    | with_reducible assumption
    | (rename_i hq; have hq2 := congrArg Prod.snd hq; with_reducible dsimp only at hq2; subst hq2)
    | simp only [↓fr_mk_iff, true_or, or_true, mvrc, mxn, mrecd, mtwl, mvmem, mnoted]
    | with_reducible refine fr_ite ?_ ?_
    | with_reducible refine outFr_ite ?_ ?_
    | with_reducible refine outFr_next.2 ?_
    | with_reducible refine fr_ite2 ?_ ?_
    | with_reducible refine fr_foldl ?_ (fun _ _ _ => ?_)
    | with_reducible refine setNode_frame _ _ _ mvrc mxn mtwl mvmem ?_ | with_reducible refine record_frame _ _ _ _ _ _ mrecd mnoted ?_
    | split
    | dsimp only

theorem replyHeard_frame {P : List Part} {t₀ : State} (f : List Byte) (bits : Nat) (after : Int) (s : State) (mvrc : Part.vrc ∈ P) (mxn : Part.xn ∈ P) (mrecd : Part.recd ∈ P) (mtwl : Part.twl ∈ P) (mints : Part.ints ∈ P) (mvmem : Part.vmem ∈ P) (mheld : Part.held ∈ P) (mnoted : Part.noted ∈ P) (mlic : Part.lic ∈ P) (h₀ : SameBut P t₀ s) :
    SameBut P t₀ (replyHeard f bits after s) := by
  unfold replyHeard
  repeat' first
    | with_reducible assumption
    | (rename_i hq; have hq2 := congrArg Prod.snd hq; with_reducible dsimp only at hq2; subst hq2)
    | simp only [↓fr_mk_iff, true_or, or_true, mvrc, mxn, mrecd, mtwl, mints, mvmem, mheld, mnoted, mlic]
    | with_reducible refine fr_ite ?_ ?_
    | with_reducible refine outFr_ite ?_ ?_
    | with_reducible refine outFr_next.2 ?_
    | with_reducible refine fr_ite2 ?_ ?_
    | with_reducible refine fr_foldl ?_ (fun _ _ _ => ?_)
    | with_reducible refine setXn_frame _ _ mxn ?_ | with_reducible refine storeReply_frame _ _ _ _ _ _ mvrc mtwl mvmem ?_ | with_reducible refine pollReply_frame _ _ _ _ _ _ _ mvrc mxn mrecd mtwl mints mvmem mheld mnoted mlic ?_ | with_reducible refine probeReply_frame _ _ _ _ mvrc mxn mrecd mtwl mvmem mnoted ?_
    | split
    | dsimp only

theorem chanHeard_frame {P : List Part} {t₀ : State} (k : Fin 2) (one : Option (List Byte)) (good other : Bool) (s : State) (mchans : Part.chans ∈ P) (mxn : Part.xn ∈ P) (mrecd : Part.recd ∈ P) (mints : Part.ints ∈ P) (mheld : Part.held ∈ P) (mnoted : Part.noted ∈ P) (mlic : Part.lic ∈ P) (h₀ : SameBut P t₀ s) :
    SameBut P t₀ (chanHeard k one good other s) := by
  unfold chanHeard
  repeat' first
    | with_reducible assumption
    | (rename_i hq; have hq2 := congrArg Prod.snd hq; with_reducible dsimp only at hq2; subst hq2)
    | simp only [↓fr_mk_iff, true_or, or_true, mchans, mxn, mrecd, mints, mheld, mnoted, mlic]
    | with_reducible refine fr_ite ?_ ?_
    | with_reducible refine outFr_ite ?_ ?_
    | with_reducible refine outFr_next.2 ?_
    | with_reducible refine fr_ite2 ?_ ?_
    | with_reducible refine fr_foldl ?_ (fun _ _ _ => ?_)
    | with_reducible refine chanGood_frame _ _ mchans mxn mrecd mints mheld mnoted mlic ?_ | with_reducible refine chanError_frame _ _ mchans mxn ?_ | with_reducible refine chanMissed_frame _ _ mchans mxn mrecd mints mheld mnoted mlic ?_
    | split
    | dsimp only

theorem frameActs_frame {P : List Part} {t₀ : State} (f : List Byte) (bits : Nat) (after : Int) (s : State) (mvrc : Part.vrc ∈ P) (mxn : Part.xn ∈ P) (mrecd : Part.recd ∈ P) (mtwl : Part.twl ∈ P) (mints : Part.ints ∈ P) (mvmem : Part.vmem ∈ P) (mheld : Part.held ∈ P) (mnoted : Part.noted ∈ P) (mlic : Part.lic ∈ P) (h₀ : SameBut P t₀ s) :
    SameBut P t₀ (frameActs f bits after s) := by
  unfold frameActs
  repeat' first
    | with_reducible assumption
    | (rename_i hq; have hq2 := congrArg Prod.snd hq; with_reducible dsimp only at hq2; subst hq2)
    | simp only [↓fr_mk_iff, true_or, or_true, mvrc, mxn, mrecd, mtwl, mints, mvmem, mheld, mnoted, mlic]
    | with_reducible refine fr_ite ?_ ?_
    | with_reducible refine outFr_ite ?_ ?_
    | with_reducible refine outFr_next.2 ?_
    | with_reducible refine fr_ite2 ?_ ?_
    | with_reducible refine fr_foldl ?_ (fun _ _ _ => ?_)
    | with_reducible refine replyHeard_frame _ _ _ _ mvrc mxn mrecd mtwl mints mvmem mheld mnoted mlic ?_ | with_reducible refine masterHears_frame _ _ _ mxn mrecd mints mheld mnoted mlic ?_
    | split
    | dsimp only

theorem execXenexFrameReceived_frame {P : List Part} {t₀ : State} (dt : Nat) (a b : Option (List (BitVec 8))) (after : BitVec 32) (s : State) (mvrc : Part.vrc ∈ P) (mchans : Part.chans ∈ P) (mxn : Part.xn ∈ P) (mrecd : Part.recd ∈ P) (mtwl : Part.twl ∈ P) (mints : Part.ints ∈ P) (mvmem : Part.vmem ∈ P) (mheld : Part.held ∈ P) (mnoted : Part.noted ∈ P) (mlic : Part.lic ∈ P) (h₀ : SameBut P t₀ (advance dt s)) :
    OutFr P t₀ (execXenexFrameReceived dt a b after s) := by
  unfold execXenexFrameReceived
  repeat' first
    | with_reducible assumption
    | (rename_i hq; have hq2 := congrArg Prod.snd hq; with_reducible dsimp only at hq2; subst hq2)
    | simp only [↓fr_mk_iff, true_or, or_true, mvrc, mchans, mxn, mrecd, mtwl, mints, mvmem, mheld, mnoted, mlic]
    | with_reducible refine fr_ite ?_ ?_
    | with_reducible refine outFr_ite ?_ ?_
    | with_reducible refine outFr_next.2 ?_
    | with_reducible refine fr_ite2 ?_ ?_
    | with_reducible refine fr_foldl ?_ (fun _ _ _ => ?_)
    | with_reducible refine chanHeard_frame _ _ _ _ _ mchans mxn mrecd mints mheld mnoted mlic ?_ | with_reducible refine frameActs_frame _ _ _ _ mvrc mxn mrecd mtwl mints mvmem mheld mnoted mlic ?_ | with_reducible refine setXn_frame _ _ mxn ?_
    | split
    | dsimp only

theorem execSlotComplete_frame {P : List Part} {t₀ : State} (dt slot : Nat) (s : State) (mvrc : Part.vrc ∈ P) (mcys : Part.cys ∈ P) (mxn : Part.xn ∈ P) (mrecd : Part.recd ∈ P) (mkiln : Part.kiln ∈ P) (mtwl : Part.twl ∈ P) (mints : Part.ints ∈ P) (mvmem : Part.vmem ∈ P) (mheld : Part.held ∈ P) (mnoted : Part.noted ∈ P) (mlic : Part.lic ∈ P) (h₀ : SameBut P t₀ (advance dt s)) :
    OutFr P t₀ (execSlotComplete dt slot s) := by
  unfold execSlotComplete
  repeat' first
    | with_reducible assumption
    | (rename_i hq; have hq2 := congrArg Prod.snd hq; with_reducible dsimp only at hq2; subst hq2)
    | simp only [↓fr_mk_iff, true_or, or_true, mvrc, mcys, mxn, mrecd, mkiln, mtwl, mints, mvmem, mheld, mnoted, mlic]
    | with_reducible refine fr_ite ?_ ?_
    | with_reducible refine outFr_ite ?_ ?_
    | with_reducible refine outFr_next.2 ?_
    | with_reducible refine fr_ite2 ?_ ?_
    | with_reducible refine fr_foldl ?_ (fun _ _ _ => ?_)
    | with_reducible refine slotDone_frame _ _ mcys mxn mints mheld mlic ?_ | with_reducible refine slotUnanswered_frame _ _ mvrc mxn mrecd mkiln mtwl mints mvmem mheld mnoted mlic ?_
    | split
    | dsimp only

theorem acycGoOn_frame {P : List Part} {t₀ : State} (a : Acyc) (m : AcycMsg) (s : State) (mxn : Part.xn ∈ P) (mkiln : Part.kiln ∈ P) (mints : Part.ints ∈ P) (mheld : Part.held ∈ P) (mnoted : Part.noted ∈ P) (mlic : Part.lic ∈ P) (h₀ : SameBut P t₀ s) :
    SameBut P t₀ (acycGoOn a m s) := by
  unfold acycGoOn
  repeat' first
    | with_reducible assumption
    | (rename_i hq; have hq2 := congrArg Prod.snd hq; with_reducible dsimp only at hq2; subst hq2)
    | simp only [↓fr_mk_iff, true_or, or_true, mxn, mkiln, mints, mheld, mnoted, mlic]
    | with_reducible refine fr_ite ?_ ?_
    | with_reducible refine outFr_ite ?_ ?_
    | with_reducible refine outFr_next.2 ?_
    | with_reducible refine fr_ite2 ?_ ?_
    | with_reducible refine fr_foldl ?_ (fun _ _ _ => ?_)
    | with_reducible refine acycEnd_frame _ _ _ mxn mkiln mints mheld mnoted mlic ?_ | with_reducible refine setXn_frame _ _ mxn ?_
    | split
    | dsimp only

theorem acycAnswered_frame {P : List Part} {t₀ : State} (a : Acyc) (m : AcycMsg) (s : State) (mxn : Part.xn ∈ P) (mrecd : Part.recd ∈ P) (mkiln : Part.kiln ∈ P) (mints : Part.ints ∈ P) (mheld : Part.held ∈ P) (mnoted : Part.noted ∈ P) (mlic : Part.lic ∈ P) (h₀ : SameBut P t₀ s) :
    SameBut P t₀ (acycAnswered a m s) := by
  unfold acycAnswered
  repeat' first
    | with_reducible assumption
    | (rename_i hq; have hq2 := congrArg Prod.snd hq; with_reducible dsimp only at hq2; subst hq2)
    | simp only [↓fr_mk_iff, true_or, or_true, mxn, mrecd, mkiln, mints, mheld, mnoted, mlic]
    | with_reducible refine fr_ite ?_ ?_
    | with_reducible refine outFr_ite ?_ ?_
    | with_reducible refine outFr_next.2 ?_
    | with_reducible refine fr_ite2 ?_ ?_
    | with_reducible refine fr_foldl ?_ (fun _ _ _ => ?_)
    | with_reducible refine acycAbort_frame _ _ mxn mrecd mkiln mints mheld mnoted mlic ?_ | with_reducible refine acycEnd_frame _ _ _ mxn mkiln mints mheld mnoted mlic ?_ | with_reducible refine setXn_frame _ _ mxn ?_ | with_reducible refine acycGoOn_frame _ _ _ mxn mkiln mints mheld mnoted mlic ?_
    | split
    | dsimp only

theorem nodeAsks_frame {P : List Part} {t₀ : State} (n : BitVec 6) (m : AcycMsg) (s : State) (mmod : Part.mod ∈ P) (mpwr : Part.pwr ∈ P) (mvrc : Part.vrc ∈ P) (mrot : Part.rot ∈ P) (mcys : Part.cys ∈ P) (mclk : Part.clk ∈ P) (mtim : Part.tim ∈ P) (mbanks : Part.banks ∈ P) (mchans : Part.chans ∈ P) (mxn : Part.xn ∈ P) (mrecd : Part.recd ∈ P) (mboot : Part.boot ∈ P) (mkiln : Part.kiln ∈ P) (mtwl : Part.twl ∈ P) (mlnc : Part.lnc ∈ P) (mcpn : Part.cpn ∈ P) (mcfd : Part.cfd ∈ P) (mbrg : Part.brg ∈ P) (mbw : Part.bw ∈ P) (mints : Part.ints ∈ P) (mmems : Part.mems ∈ P) (mcores : Part.cores ∈ P) (mvmem : Part.vmem ∈ P) (mheld : Part.held ∈ P) (mnoted : Part.noted ∈ P) (mlic : Part.lic ∈ P) (h₀ : SameBut P t₀ s) :
    SameBut P t₀ (nodeAsks n m s) := by
  unfold nodeAsks
  repeat' first
    | with_reducible assumption
    | (rename_i hq; have hq2 := congrArg Prod.snd hq; with_reducible dsimp only at hq2; subst hq2)
    | simp only [↓fr_mk_iff, true_or, or_true, mmod, mpwr, mvrc, mrot, mcys, mclk, mtim, mbanks, mchans, mxn, mrecd, mboot, mkiln, mtwl, mlnc, mcpn, mcfd, mbrg, mbw, mints, mmems, mcores, mvmem, mheld, mnoted, mlic]
    | with_reducible refine fr_ite ?_ ?_
    | with_reducible refine outFr_ite ?_ ?_
    | with_reducible refine outFr_next.2 ?_
    | with_reducible refine fr_ite2 ?_ ?_
    | with_reducible refine fr_foldl ?_ (fun _ _ _ => ?_)
    | with_reducible refine setXn_frame _ _ mxn ?_ | with_reducible refine fwErased_frame _ mbanks mrecd mboot mkiln mnoted ?_ | with_reducible refine dictRead_frame _ _ _ _ _ mrot mcys mclk mtim mxn mrecd mkiln mtwl mlnc mbw mmems mcores mnoted mlic ?_ | with_reducible refine dictWrite_frame _ _ _ _ _ mmod mpwr mvrc mrot mcys mclk mtim mbanks mchans mxn mrecd mboot mkiln mtwl mlnc mcpn mcfd mbrg mbw mints mmems mcores mvmem mheld mnoted mlic ?_ | with_reducible refine replyOnly_frame _ _ _ mkiln ?_
    | split
    | dsimp only

theorem execAcycRespReceived_frame {P : List Part} {t₀ : State} (node : BitVec 6) (msg : AcycMsg) (s : State) (mmod : Part.mod ∈ P) (mpwr : Part.pwr ∈ P) (mvrc : Part.vrc ∈ P) (mrot : Part.rot ∈ P) (mcys : Part.cys ∈ P) (mclk : Part.clk ∈ P) (mtim : Part.tim ∈ P) (mbanks : Part.banks ∈ P) (mchans : Part.chans ∈ P) (mxn : Part.xn ∈ P) (mrecd : Part.recd ∈ P) (mboot : Part.boot ∈ P) (mkiln : Part.kiln ∈ P) (mtwl : Part.twl ∈ P) (mlnc : Part.lnc ∈ P) (mcpn : Part.cpn ∈ P) (mcfd : Part.cfd ∈ P) (mbrg : Part.brg ∈ P) (mbw : Part.bw ∈ P) (mints : Part.ints ∈ P) (mmems : Part.mems ∈ P) (mcores : Part.cores ∈ P) (mvmem : Part.vmem ∈ P) (mheld : Part.held ∈ P) (mnoted : Part.noted ∈ P) (mlic : Part.lic ∈ P) (h₀ : SameBut P t₀ s) :
    OutFr P t₀ (execAcycRespReceived node msg s) := by
  unfold execAcycRespReceived
  repeat' first
    | with_reducible assumption
    | (rename_i hq; have hq2 := congrArg Prod.snd hq; with_reducible dsimp only at hq2; subst hq2)
    | simp only [↓fr_mk_iff, true_or, or_true, mmod, mpwr, mvrc, mrot, mcys, mclk, mtim, mbanks, mchans, mxn, mrecd, mboot, mkiln, mtwl, mlnc, mcpn, mcfd, mbrg, mbw, mints, mmems, mcores, mvmem, mheld, mnoted, mlic]
    | with_reducible refine fr_ite ?_ ?_
    | with_reducible refine outFr_ite ?_ ?_
    | with_reducible refine outFr_next.2 ?_
    | with_reducible refine fr_ite2 ?_ ?_
    | with_reducible refine fr_foldl ?_ (fun _ _ _ => ?_)
    | with_reducible refine setXn_frame _ _ mxn ?_ | with_reducible refine acycAnswered_frame _ _ _ mxn mrecd mkiln mints mheld mnoted mlic ?_ | with_reducible refine nodeAsks_frame _ _ _ mmod mpwr mvrc mrot mcys mclk mtim mbanks mchans mxn mrecd mboot mkiln mtwl mlnc mcpn mcfd mbrg mbw mints mmems mcores mvmem mheld mnoted mlic ?_
    | split
    | dsimp only

theorem execAcycTimeout_frame {P : List Part} {t₀ : State} (dt : Nat) (s : State) (mxn : Part.xn ∈ P) (mrecd : Part.recd ∈ P) (mkiln : Part.kiln ∈ P) (mints : Part.ints ∈ P) (mheld : Part.held ∈ P) (mnoted : Part.noted ∈ P) (mlic : Part.lic ∈ P) (h₀ : SameBut P t₀ (advance dt s)) :
    OutFr P t₀ (execAcycTimeout dt s) := by
  unfold execAcycTimeout
  repeat' first
    | with_reducible assumption
    | (rename_i hq; have hq2 := congrArg Prod.snd hq; with_reducible dsimp only at hq2; subst hq2)
    | simp only [↓fr_mk_iff, true_or, or_true, mxn, mrecd, mkiln, mints, mheld, mnoted, mlic]
    | with_reducible refine fr_ite ?_ ?_
    | with_reducible refine outFr_ite ?_ ?_
    | with_reducible refine outFr_next.2 ?_
    | with_reducible refine fr_ite2 ?_ ?_
    | with_reducible refine fr_foldl ?_ (fun _ _ _ => ?_)
    | with_reducible refine acycAbort_frame _ _ mxn mrecd mkiln mints mheld mnoted mlic ?_
    | split
    | dsimp only

theorem setCan_frame {P : List Part} {t₀ : State} (ch : Fin 2) (f : CanChan → CanChan) (s : State) (mchans : Part.chans ∈ P) (mcfd : Part.cfd ∈ P) (h₀ : SameBut P t₀ s) :
    SameBut P t₀ (setCan ch f s) := by
  unfold setCan
  repeat' first
    | with_reducible assumption
    | (rename_i hq; have hq2 := congrArg Prod.snd hq; with_reducible dsimp only at hq2; subst hq2)
    | simp only [↓fr_mk_iff, true_or, or_true, mchans, mcfd]
    | with_reducible refine fr_ite ?_ ?_
    | with_reducible refine outFr_ite ?_ ?_
    | with_reducible refine outFr_next.2 ?_
    | with_reducible refine fr_ite2 ?_ ?_
    | with_reducible refine fr_foldl ?_ (fun _ _ _ => ?_)
    | split
    | dsimp only

theorem execTpdoEventTimer_frame {P : List Part} {t₀ : State} (dt : Nat) (channel : Fin 2) (tpdo : Fin 8) (s : State) (mchans : Part.chans ∈ P) (mcfd : Part.cfd ∈ P) (h₀ : SameBut P t₀ (advance dt s)) :
    OutFr P t₀ (execTpdoEventTimer dt channel tpdo s) := by
  unfold execTpdoEventTimer
  repeat' first
    | with_reducible assumption
    | (rename_i hq; have hq2 := congrArg Prod.snd hq; with_reducible dsimp only at hq2; subst hq2)
    | simp only [↓fr_mk_iff, true_or, or_true, mchans, mcfd]
    | with_reducible refine fr_ite ?_ ?_
    | with_reducible refine outFr_ite ?_ ?_
    | with_reducible refine outFr_next.2 ?_
    | with_reducible refine fr_ite2 ?_ ?_
    | with_reducible refine fr_foldl ?_ (fun _ _ _ => ?_)
    | with_reducible refine sendTpdo_frame _ _ _ mchans mcfd ?_
    | split
    | dsimp only

theorem kilnStamp_frame {P : List Part} {t₀ : State} (s : State) (mdrawn : Part.drawn ∈ P) (h₀ : SameBut P t₀ s) :
    SameBut P t₀ (kilnStamp s).2 := by
  unfold kilnStamp
  repeat' first
    | with_reducible assumption
    | (rename_i hq; have hq2 := congrArg Prod.snd hq; with_reducible dsimp only at hq2; subst hq2)
    | simp only [↓fr_mk_iff, true_or, or_true, mdrawn]
    | with_reducible refine fr_ite ?_ ?_
    | with_reducible refine outFr_ite ?_ ?_
    | with_reducible refine outFr_next.2 ?_
    | with_reducible refine fr_ite2 ?_ ?_
    | with_reducible refine fr_foldl ?_ (fun _ _ _ => ?_)
    | with_reducible refine drawWord_frame _ mdrawn ?_
    | split
    | dsimp only

theorem rpdoStore_frame {P : List Part} {t₀ : State} (ch : Fin 2) (n : Fin 8) (data : List Byte) (s : State) (mdrawn : Part.drawn ∈ P) (mbrg : Part.brg ∈ P) (mvmem : Part.vmem ∈ P) (h₀ : SameBut P t₀ s) :
    SameBut P t₀ (rpdoStore ch n data s) := by
  unfold rpdoStore
  repeat' first
    | with_reducible assumption
    | (rename_i hq; have hq2 := congrArg Prod.snd hq; with_reducible dsimp only at hq2; subst hq2)
    | simp only [↓fr_mk_iff, true_or, or_true, mdrawn, mbrg, mvmem]
    | with_reducible refine fr_ite ?_ ?_
    | with_reducible refine outFr_ite ?_ ?_
    | with_reducible refine outFr_next.2 ?_
    | with_reducible refine fr_ite2 ?_ ?_
    | with_reducible refine fr_foldl ?_ (fun _ _ _ => ?_)
    | with_reducible refine kilnStamp_frame _ mdrawn ?_ | with_reducible refine semKiln_frame _ _ mbrg ?_
    | split
    | dsimp only

theorem execRpdoReceived_frame {P : List Part} {t₀ : State} (dt : Nat) (channel : Fin 2) (cobId : BitVec 29) (data : List (BitVec 8)) (s : State) (mdrawn : Part.drawn ∈ P) (mbrg : Part.brg ∈ P) (mvmem : Part.vmem ∈ P) (h₀ : SameBut P t₀ (advance dt s)) :
    OutFr P t₀ (execRpdoReceived dt channel cobId data s) := by
  unfold execRpdoReceived
  repeat' first
    | with_reducible assumption
    | (rename_i hq; have hq2 := congrArg Prod.snd hq; with_reducible dsimp only at hq2; subst hq2)
    | simp only [↓fr_mk_iff, true_or, or_true, mdrawn, mbrg, mvmem]
    | with_reducible refine fr_ite ?_ ?_
    | with_reducible refine outFr_ite ?_ ?_
    | with_reducible refine outFr_next.2 ?_
    | with_reducible refine fr_ite2 ?_ ?_
    | with_reducible refine fr_foldl ?_ (fun _ _ _ => ?_)
    | with_reducible refine rpdoStore_frame _ _ _ _ mdrawn mbrg mvmem ?_
    | split
    | dsimp only

theorem execCanBusoff_frame {P : List Part} {t₀ : State} (channel : Fin 2) (tec : BitVec 8) (s : State) (mchans : Part.chans ∈ P) (mrecd : Part.recd ∈ P) (mcfd : Part.cfd ∈ P) (mnoted : Part.noted ∈ P) (h₀ : SameBut P t₀ s) :
    OutFr P t₀ (execCanBusoff channel tec s) := by
  unfold execCanBusoff
  repeat' first
    | with_reducible assumption
    | (rename_i hq; have hq2 := congrArg Prod.snd hq; with_reducible dsimp only at hq2; subst hq2)
    | simp only [↓fr_mk_iff, true_or, or_true, mchans, mrecd, mcfd, mnoted]
    | with_reducible refine fr_ite ?_ ?_
    | with_reducible refine outFr_ite ?_ ?_
    | with_reducible refine outFr_next.2 ?_
    | with_reducible refine fr_ite2 ?_ ?_
    | with_reducible refine fr_foldl ?_ (fun _ _ _ => ?_)
    | with_reducible refine record_frame _ _ _ _ _ _ mrecd mnoted ?_ | with_reducible refine setCan_frame _ _ _ mchans mcfd ?_
    | split
    | dsimp only

theorem execCanBusoffRecovery_frame {P : List Part} {t₀ : State} (dt : Nat) (channel : Fin 2) (s : State) (mchans : Part.chans ∈ P) (mcfd : Part.cfd ∈ P) (h₀ : SameBut P t₀ (advance dt s)) :
    OutFr P t₀ (execCanBusoffRecovery dt channel s) := by
  unfold execCanBusoffRecovery
  repeat' first
    | with_reducible assumption
    | (rename_i hq; have hq2 := congrArg Prod.snd hq; with_reducible dsimp only at hq2; subst hq2)
    | simp only [↓fr_mk_iff, true_or, or_true, mchans, mcfd]
    | with_reducible refine fr_ite ?_ ?_
    | with_reducible refine outFr_ite ?_ ?_
    | with_reducible refine outFr_next.2 ?_
    | with_reducible refine fr_ite2 ?_ ?_
    | with_reducible refine fr_foldl ?_ (fun _ _ _ => ?_)
    | with_reducible refine setCan_frame _ _ _ mchans mcfd ?_
    | split
    | dsimp only

theorem nmtTake_frame {P : List Part} {t₀ : State} (ch : Fin 2) (cmd : NmtCmd) (s : State) (mchans : Part.chans ∈ P) (mrecd : Part.recd ∈ P) (mboot : Part.boot ∈ P) (mkiln : Part.kiln ∈ P) (mcfd : Part.cfd ∈ P) (mnoted : Part.noted ∈ P) (h₀ : SameBut P t₀ s) :
    SameBut P t₀ (nmtTake ch cmd s) := by
  unfold nmtTake
  repeat' first
    | with_reducible assumption
    | (rename_i hq; have hq2 := congrArg Prod.snd hq; with_reducible dsimp only at hq2; subst hq2)
    | simp only [↓fr_mk_iff, true_or, or_true, mchans, mrecd, mboot, mkiln, mcfd, mnoted]
    | with_reducible refine fr_ite ?_ ?_
    | with_reducible refine outFr_ite ?_ ?_
    | with_reducible refine outFr_next.2 ?_
    | with_reducible refine fr_ite2 ?_ ?_
    | with_reducible refine fr_foldl ?_ (fun _ _ _ => ?_)
    | with_reducible refine setCan_frame _ _ _ mchans mcfd ?_ | with_reducible refine closeSession_frame _ _ mrecd mboot mkiln mnoted ?_
    | split
    | dsimp only

theorem execNmtCommand_frame {P : List Part} {t₀ : State} (channel : Fin 2) (node : BitVec 7) (cmd : NmtCmd) (s : State) (mchans : Part.chans ∈ P) (mrecd : Part.recd ∈ P) (mboot : Part.boot ∈ P) (mkiln : Part.kiln ∈ P) (mcfd : Part.cfd ∈ P) (mnoted : Part.noted ∈ P) (h₀ : SameBut P t₀ s) :
    OutFr P t₀ (execNmtCommand channel node cmd s) := by
  unfold execNmtCommand
  repeat' first
    | with_reducible assumption
    | (rename_i hq; have hq2 := congrArg Prod.snd hq; with_reducible dsimp only at hq2; subst hq2)
    | simp only [↓fr_mk_iff, true_or, or_true, mchans, mrecd, mboot, mkiln, mcfd, mnoted]
    | with_reducible refine fr_ite ?_ ?_
    | with_reducible refine outFr_ite ?_ ?_
    | with_reducible refine outFr_next.2 ?_
    | with_reducible refine fr_ite2 ?_ ?_
    | with_reducible refine fr_foldl ?_ (fun _ _ _ => ?_)
    | with_reducible refine nmtTake_frame _ _ _ mchans mrecd mboot mkiln mcfd mnoted ?_
    | split
    | dsimp only

theorem execCanProducerHeartbeat_frame {P : List Part} {t₀ : State} (dt : Nat) (channel : Fin 2) (s : State) (mchans : Part.chans ∈ P) (mcfd : Part.cfd ∈ P) (h₀ : SameBut P t₀ (advance dt s)) :
    OutFr P t₀ (execCanProducerHeartbeat dt channel s) := by
  unfold execCanProducerHeartbeat
  repeat' first
    | with_reducible assumption
    | (rename_i hq; have hq2 := congrArg Prod.snd hq; with_reducible dsimp only at hq2; subst hq2)
    | simp only [↓fr_mk_iff, true_or, or_true, mchans, mcfd]
    | with_reducible refine fr_ite ?_ ?_
    | with_reducible refine outFr_ite ?_ ?_
    | with_reducible refine outFr_next.2 ?_
    | with_reducible refine fr_ite2 ?_ ?_
    | with_reducible refine fr_foldl ?_ (fun _ _ _ => ?_)
    | with_reducible refine setCan_frame _ _ _ mchans mcfd ?_
    | split
    | dsimp only

theorem execCanHbLost_frame {P : List Part} {t₀ : State} (dt : Nat) (consumer : Fin 4) (s : State) (mrecd : Part.recd ∈ P) (mcfd : Part.cfd ∈ P) (mnoted : Part.noted ∈ P) (h₀ : SameBut P t₀ (advance dt s)) :
    OutFr P t₀ (execCanHbLost dt consumer s) := by
  unfold execCanHbLost
  repeat' first
    | with_reducible assumption
    | (rename_i hq; have hq2 := congrArg Prod.snd hq; with_reducible dsimp only at hq2; subst hq2)
    | simp only [↓fr_mk_iff, true_or, or_true, mrecd, mcfd, mnoted]
    | with_reducible refine fr_ite ?_ ?_
    | with_reducible refine outFr_ite ?_ ?_
    | with_reducible refine outFr_next.2 ?_
    | with_reducible refine fr_ite2 ?_ ?_
    | with_reducible refine fr_foldl ?_ (fun _ _ _ => ?_)
    | with_reducible refine record_frame _ _ _ _ _ _ mrecd mnoted ?_
    | split
    | dsimp only

theorem execCanHeartbeatReceived_frame {P : List Part} {t₀ : State} (channel : Fin 2) (node : BitVec 7) (s : State) (mcfd : Part.cfd ∈ P) (h₀ : SameBut P t₀ s) :
    OutFr P t₀ (execCanHeartbeatReceived channel node s) := by
  unfold execCanHeartbeatReceived
  repeat' first
    | with_reducible assumption
    | (rename_i hq; have hq2 := congrArg Prod.snd hq; with_reducible dsimp only at hq2; subst hq2)
    | simp only [↓fr_mk_iff, true_or, or_true, mcfd]
    | with_reducible refine fr_ite ?_ ?_
    | with_reducible refine outFr_ite ?_ ?_
    | with_reducible refine outFr_next.2 ?_
    | with_reducible refine fr_ite2 ?_ ?_
    | with_reducible refine fr_foldl ?_ (fun _ _ _ => ?_)
    | split
    | dsimp only

theorem setRec_frame {P : List Part} {t₀ : State} (f : Recorder → Recorder) (s : State) (mrecd : Part.recd ∈ P)
    (hf : Part.mram ∈ P ∨ ∀ x : Recorder, (f x).mram = x.mram) (h₀ : SameBut P t₀ s) : SameBut P t₀ (setRec f s) := by
  unfold setRec
  rcases hf with hf | hf <;> simp only [↓fr_mk_iff, true_or, or_true, mrecd, hf] <;> exact h₀

theorem execEventSubmit_frame {P : List Part} {t₀ : State} (src : Fin 16) (code : BitVec 16) (p0 p1 p2 : BitVec 32)
    (s : State) (mrecd : Part.recd ∈ P) (mnoted : Part.noted ∈ P) (h₀ : SameBut P t₀ s) : OutFr P t₀ (execEventSubmit src code p0 p1 p2 s) := by
  have k := fun c m e z w v => (submitEvent_keeps s.recd c m e z w v).1
  unfold execEventSubmit setRec
  dsimp only
  refine outFr_ite h₀ (outFr_ite (outFr_next.2 ?_) (record_frame _ _ _ _ _ _ mrecd mnoted h₀))
  simp only [↓fr_mk_iff, true_or, or_true, mrecd, k]; exact h₀

theorem execRecordWrite_frame {P : List Part} {t₀ : State} (dt : Nat) (cut : WriteCut) (s : State) (mdrawn : Part.drawn ∈ P) (mmod : Part.mod ∈ P) (mpwr : Part.pwr ∈ P) (mvrc : Part.vrc ∈ P) (mrot : Part.rot ∈ P) (mcys : Part.cys ∈ P) (mclk : Part.clk ∈ P) (mtim : Part.tim ∈ P) (mbanks : Part.banks ∈ P) (mchans : Part.chans ∈ P) (mxn : Part.xn ∈ P) (mrecd : Part.recd ∈ P) (mboot : Part.boot ∈ P) (mkiln : Part.kiln ∈ P) (mtwl : Part.twl ∈ P) (mlnc : Part.lnc ∈ P) (mcpn : Part.cpn ∈ P) (mcfd : Part.cfd ∈ P) (mbrg : Part.brg ∈ P) (mbw : Part.bw ∈ P) (mints : Part.ints ∈ P) (mmems : Part.mems ∈ P) (mcores : Part.cores ∈ P) (mvmem : Part.vmem ∈ P) (mheld : Part.held ∈ P) (mnoted : Part.noted ∈ P) (mlic : Part.lic ∈ P) (mmram : Part.mram ∈ P) (h₀ : SameBut P t₀ (advance dt s)) :
    OutFr P t₀ (execRecordWrite dt cut s) := by
  unfold execRecordWrite
  repeat' first
    | with_reducible assumption
    | (rename_i hq; have hq2 := congrArg Prod.snd hq; with_reducible dsimp only at hq2; subst hq2)
    | simp only [↓fr_mk_iff, true_or, or_true, mdrawn, mmod, mpwr, mvrc, mrot, mcys, mclk, mtim, mbanks, mchans, mxn, mrecd, mboot, mkiln, mtwl, mlnc, mcpn, mcfd, mbrg, mbw, mints, mmems, mcores, mvmem, mheld, mnoted, mlic, mmram]
    | with_reducible refine fr_ite ?_ ?_
    | with_reducible refine outFr_ite ?_ ?_
    | with_reducible refine outFr_next.2 ?_
    | with_reducible refine fr_ite2 ?_ ?_
    | with_reducible refine fr_foldl ?_ (fun _ _ _ => ?_)
    | with_reducible refine toCold_frame _ _ _ mdrawn mmod mpwr mvrc mrot mcys mclk mtim mbanks mchans mxn mrecd mboot mkiln mtwl mlnc mcpn mcfd mbrg mbw mints mmems mcores mvmem mheld mnoted mlic mmram ?_
    | split
    | dsimp only

theorem execHeadRewrite_frame {P : List Part} {t₀ : State} (dt : Nat) (cut : WriteCut) (s : State) (mdrawn : Part.drawn ∈ P) (mmod : Part.mod ∈ P) (mpwr : Part.pwr ∈ P) (mvrc : Part.vrc ∈ P) (mrot : Part.rot ∈ P) (mcys : Part.cys ∈ P) (mclk : Part.clk ∈ P) (mtim : Part.tim ∈ P) (mbanks : Part.banks ∈ P) (mchans : Part.chans ∈ P) (mxn : Part.xn ∈ P) (mrecd : Part.recd ∈ P) (mboot : Part.boot ∈ P) (mkiln : Part.kiln ∈ P) (mtwl : Part.twl ∈ P) (mlnc : Part.lnc ∈ P) (mcpn : Part.cpn ∈ P) (mcfd : Part.cfd ∈ P) (mbrg : Part.brg ∈ P) (mbw : Part.bw ∈ P) (mints : Part.ints ∈ P) (mmems : Part.mems ∈ P) (mcores : Part.cores ∈ P) (mvmem : Part.vmem ∈ P) (mheld : Part.held ∈ P) (mnoted : Part.noted ∈ P) (mlic : Part.lic ∈ P) (mmram : Part.mram ∈ P) (h₀ : SameBut P t₀ (advance dt s)) :
    OutFr P t₀ (execHeadRewrite dt cut s) := by
  unfold execHeadRewrite
  repeat' first
    | with_reducible assumption
    | (rename_i hq; have hq2 := congrArg Prod.snd hq; with_reducible dsimp only at hq2; subst hq2)
    | simp only [↓fr_mk_iff, true_or, or_true, mdrawn, mmod, mpwr, mvrc, mrot, mcys, mclk, mtim, mbanks, mchans, mxn, mrecd, mboot, mkiln, mtwl, mlnc, mcpn, mcfd, mbrg, mbw, mints, mmems, mcores, mvmem, mheld, mnoted, mlic, mmram]
    | with_reducible refine fr_ite ?_ ?_
    | with_reducible refine outFr_ite ?_ ?_
    | with_reducible refine outFr_next.2 ?_
    | with_reducible refine fr_ite2 ?_ ?_
    | with_reducible refine fr_foldl ?_ (fun _ _ _ => ?_)
    | with_reducible refine toCold_frame _ _ _ mdrawn mmod mpwr mvrc mrot mcys mclk mtim mbanks mchans mxn mrecd mboot mkiln mtwl mlnc mcpn mcfd mbrg mbw mints mmems mcores mvmem mheld mnoted mlic mmram ?_
    | split
    | dsimp only

theorem execOptimeSave_frame {P : List Part} {t₀ : State} (dt : Nat) (s : State) (mrecd : Part.recd ∈ P) (h₀ : SameBut P t₀ (advance dt s)) :
    OutFr P t₀ (execOptimeSave dt s) := by
  unfold execOptimeSave
  repeat' first
    | with_reducible assumption
    | (rename_i hq; have hq2 := congrArg Prod.snd hq; with_reducible dsimp only at hq2; subst hq2)
    | simp only [↓fr_mk_iff, true_or, or_true, mrecd]
    | with_reducible refine fr_ite ?_ ?_
    | with_reducible refine outFr_ite ?_ ?_
    | with_reducible refine outFr_next.2 ?_
    | with_reducible refine fr_ite2 ?_ ?_
    | with_reducible refine fr_foldl ?_ (fun _ _ _ => ?_)
    | with_reducible refine setRec_frame _ _ mrecd (.inr fun _ => rfl) ?_
    | split
    | dsimp only

theorem execTokenRefill_frame {P : List Part} {t₀ : State} (dt : Nat) (code : BitVec 16) (s : State) (mrecd : Part.recd ∈ P) (h₀ : SameBut P t₀ (advance dt s)) :
    OutFr P t₀ (execTokenRefill dt code s) := by
  unfold execTokenRefill
  dsimp only
  have h1 := h₀
  refine outFr_ite h1 (outFr_next.2 (setRec_frame _ _ mrecd (.inr fun r => ?_) h1))
  unfold refill
  split <;> rfl

theorem execBandwidthWindowEnd_frame {P : List Part} {t₀ : State} (dt : Nat) (s : State) (mbw : Part.bw ∈ P) (h₀ : SameBut P t₀ (advance dt s)) :
    OutFr P t₀ (execBandwidthWindowEnd dt s) := by
  unfold execBandwidthWindowEnd
  repeat' first
    | with_reducible assumption
    | (rename_i hq; have hq2 := congrArg Prod.snd hq; with_reducible dsimp only at hq2; subst hq2)
    | simp only [↓fr_mk_iff, true_or, or_true, mbw]
    | with_reducible refine fr_ite ?_ ?_
    | with_reducible refine outFr_ite ?_ ?_
    | with_reducible refine outFr_next.2 ?_
    | with_reducible refine fr_ite2 ?_ ?_
    | with_reducible refine fr_foldl ?_ (fun _ _ _ => ?_)
    | split
    | dsimp only

theorem dumpEntry_frame {P : List Part} {t₀ : State} (d : Fin 4 → Option (Nat × List Byte)) (i : Nat) (s : State) (mmod : Part.mod ∈ P) (mpwr : Part.pwr ∈ P) (mvrc : Part.vrc ∈ P) (mrot : Part.rot ∈ P) (mcys : Part.cys ∈ P) (mbanks : Part.banks ∈ P) (mchans : Part.chans ∈ P) (mxn : Part.xn ∈ P) (mrecd : Part.recd ∈ P) (mkiln : Part.kiln ∈ P) (mtwl : Part.twl ∈ P) (mints : Part.ints ∈ P) (mmems : Part.mems ∈ P) (mcores : Part.cores ∈ P) (mheld : Part.held ∈ P) (mnoted : Part.noted ∈ P) (mlic : Part.lic ∈ P) (h₀ : SameBut P t₀ s) :
    SameBut P t₀ (dumpEntry d i s) := by
  unfold dumpEntry
  repeat' first
    | with_reducible assumption
    | (rename_i hq; have hq2 := congrArg Prod.snd hq; with_reducible dsimp only at hq2; subst hq2)
    | simp only [↓fr_mk_iff, true_or, or_true, mmod, mpwr, mvrc, mrot, mcys, mbanks, mchans, mxn, mrecd, mkiln, mtwl, mints, mmems, mcores, mheld, mnoted, mlic]
    | with_reducible refine fr_ite ?_ ?_
    | with_reducible refine outFr_ite ?_ ?_
    | with_reducible refine outFr_next.2 ?_
    | with_reducible refine fr_ite2 ?_ ?_
    | with_reducible refine fr_foldl ?_ (fun _ _ _ => ?_)
    | with_reducible refine applyEntry_frame _ _ _ mmems mcores mlic ?_ | with_reducible refine mirrorDisagree_frame _ _ _ _ mmod mpwr mvrc mrot mcys mbanks mchans mxn mrecd mkiln mtwl mints mheld mnoted mlic ?_ | with_reducible refine mirrorPush_frame _ _ mrot mtwl mints mheld mlic ?_
    | split
    | dsimp only

theorem dumpLanes_frame {P : List Part} {t₀ : State} (flags : Nat) (s : State) (mmod : Part.mod ∈ P) (mpwr : Part.pwr ∈ P) (mvrc : Part.vrc ∈ P) (mrot : Part.rot ∈ P) (mcys : Part.cys ∈ P) (mbanks : Part.banks ∈ P) (mchans : Part.chans ∈ P) (mxn : Part.xn ∈ P) (mrecd : Part.recd ∈ P) (mkiln : Part.kiln ∈ P) (mtwl : Part.twl ∈ P) (mints : Part.ints ∈ P) (mmems : Part.mems ∈ P) (mcores : Part.cores ∈ P) (mheld : Part.held ∈ P) (mnoted : Part.noted ∈ P) (mlic : Part.lic ∈ P) (h₀ : SameBut P t₀ s) :
    SameBut P t₀ (dumpLanes flags s) := by
  unfold dumpLanes
  repeat' first
    | with_reducible assumption
    | (rename_i hq; have hq2 := congrArg Prod.snd hq; with_reducible dsimp only at hq2; subst hq2)
    | simp only [↓fr_mk_iff, true_or, or_true, mmod, mpwr, mvrc, mrot, mcys, mbanks, mchans, mxn, mrecd, mkiln, mtwl, mints, mmems, mcores, mheld, mnoted, mlic]
    | with_reducible refine fr_ite ?_ ?_
    | with_reducible refine outFr_ite ?_ ?_
    | with_reducible refine outFr_next.2 ?_
    | with_reducible refine fr_ite2 ?_ ?_
    | with_reducible refine fr_foldl ?_ (fun _ _ _ => ?_)
    | with_reducible refine dumpEntry_frame _ _ _ mmod mpwr mvrc mrot mcys mbanks mchans mxn mrecd mkiln mtwl mints mmems mcores mheld mnoted mlic ?_ | with_reducible refine mapCores_frame _ _ _ mcores mlic ?_
    | split
    | dsimp only

theorem execGapDump_frame {P : List Part} {t₀ : State} (dt : Nat) (s : State) (mmod : Part.mod ∈ P) (mpwr : Part.pwr ∈ P) (mvrc : Part.vrc ∈ P) (mrot : Part.rot ∈ P) (mcys : Part.cys ∈ P) (mbanks : Part.banks ∈ P) (mchans : Part.chans ∈ P) (mxn : Part.xn ∈ P) (mrecd : Part.recd ∈ P) (mkiln : Part.kiln ∈ P) (mtwl : Part.twl ∈ P) (mints : Part.ints ∈ P) (mmems : Part.mems ∈ P) (mcores : Part.cores ∈ P) (mheld : Part.held ∈ P) (mnoted : Part.noted ∈ P) (mlic : Part.lic ∈ P) (h₀ : SameBut P t₀ (advance dt s)) :
    OutFr P t₀ (execGapDump dt s) := by
  unfold execGapDump
  repeat' first
    | with_reducible assumption
    | (rename_i hq; have hq2 := congrArg Prod.snd hq; with_reducible dsimp only at hq2; subst hq2)
    | simp only [↓fr_mk_iff, true_or, or_true, mmod, mpwr, mvrc, mrot, mcys, mbanks, mchans, mxn, mrecd, mkiln, mtwl, mints, mmems, mcores, mheld, mnoted, mlic]
    | with_reducible refine fr_ite ?_ ?_
    | with_reducible refine outFr_ite ?_ ?_
    | with_reducible refine outFr_next.2 ?_
    | with_reducible refine fr_ite2 ?_ ?_
    | with_reducible refine fr_foldl ?_ (fun _ _ _ => ?_)
    | with_reducible refine dumpLanes_frame _ _ mmod mpwr mvrc mrot mcys mbanks mchans mxn mrecd mkiln mtwl mints mmems mcores mheld mnoted mlic ?_
    | split
    | dsimp only

theorem execPeriodicDump_frame {P : List Part} {t₀ : State} (dt : Nat) (s : State) (mmod : Part.mod ∈ P) (mpwr : Part.pwr ∈ P) (mvrc : Part.vrc ∈ P) (mrot : Part.rot ∈ P) (mcys : Part.cys ∈ P) (mbanks : Part.banks ∈ P) (mchans : Part.chans ∈ P) (mxn : Part.xn ∈ P) (mrecd : Part.recd ∈ P) (mkiln : Part.kiln ∈ P) (mtwl : Part.twl ∈ P) (mints : Part.ints ∈ P) (mmems : Part.mems ∈ P) (mcores : Part.cores ∈ P) (mheld : Part.held ∈ P) (mnoted : Part.noted ∈ P) (mlic : Part.lic ∈ P) (h₀ : SameBut P t₀ (advance dt s)) :
    OutFr P t₀ (execPeriodicDump dt s) := by
  unfold execPeriodicDump
  repeat' first
    | with_reducible assumption
    | (rename_i hq; have hq2 := congrArg Prod.snd hq; with_reducible dsimp only at hq2; subst hq2)
    | simp only [↓fr_mk_iff, true_or, or_true, mmod, mpwr, mvrc, mrot, mcys, mbanks, mchans, mxn, mrecd, mkiln, mtwl, mints, mmems, mcores, mheld, mnoted, mlic]
    | with_reducible refine fr_ite ?_ ?_
    | with_reducible refine outFr_ite ?_ ?_
    | with_reducible refine outFr_next.2 ?_
    | with_reducible refine fr_ite2 ?_ ?_
    | with_reducible refine fr_foldl ?_ (fun _ _ _ => ?_)
    | with_reducible refine dumpLanes_frame _ _ mmod mpwr mvrc mrot mcys mbanks mchans mxn mrecd mkiln mtwl mints mmems mcores mheld mnoted mlic ?_
    | split
    | dsimp only

end Sys2Proof.Machine
end

