-- ==== Sys2Proof/Laws/State.lean ====
section
/-! SUPPORT. What each shared operation leaves in each part of State; simp uses these instead of unfolding the operation. -/

set_option linter.all false

namespace Sys2Proof.Machine

open Sys2Proof

@[simp] theorem record_pending (src code p0 p1 p2 : Nat) (s : State) : (record src code p0 p1 p2 s).pending = s.pending := by
  unfold record; dsimp only; split <;> rfl
@[simp] theorem record_drawn (src code p0 p1 p2 : Nat) (s : State) : (record src code p0 p1 p2 s).drawn = s.drawn := by
  unfold record; dsimp only; split <;> rfl
@[simp] theorem record_mod (src code p0 p1 p2 : Nat) (s : State) : (record src code p0 p1 p2 s).mod = s.mod := by
  unfold record; dsimp only; split <;> rfl
@[simp] theorem record_pwr (src code p0 p1 p2 : Nat) (s : State) : (record src code p0 p1 p2 s).pwr = s.pwr := by
  unfold record; dsimp only; split <;> rfl
@[simp] theorem record_vrc (src code p0 p1 p2 : Nat) (s : State) : (record src code p0 p1 p2 s).vrc = s.vrc := by
  unfold record; dsimp only; split <;> rfl
@[simp] theorem record_rot (src code p0 p1 p2 : Nat) (s : State) : (record src code p0 p1 p2 s).rot = s.rot := by
  unfold record; dsimp only; split <;> rfl
@[simp] theorem record_cys (src code p0 p1 p2 : Nat) (s : State) : (record src code p0 p1 p2 s).cys = s.cys := by
  unfold record; dsimp only; split <;> rfl
@[simp] theorem record_clk (src code p0 p1 p2 : Nat) (s : State) : (record src code p0 p1 p2 s).clk = s.clk := by
  unfold record; dsimp only; split <;> rfl
@[simp] theorem record_tim (src code p0 p1 p2 : Nat) (s : State) : (record src code p0 p1 p2 s).tim = s.tim := by
  unfold record; dsimp only; split <;> rfl
@[simp] theorem record_banks (src code p0 p1 p2 : Nat) (s : State) : (record src code p0 p1 p2 s).banks = s.banks := by
  unfold record; dsimp only; split <;> rfl
@[simp] theorem record_chans (src code p0 p1 p2 : Nat) (s : State) : (record src code p0 p1 p2 s).chans = s.chans := by
  unfold record; dsimp only; split <;> rfl
@[simp] theorem record_xn (src code p0 p1 p2 : Nat) (s : State) : (record src code p0 p1 p2 s).xn = s.xn := by
  unfold record; dsimp only; split <;> rfl
@[simp] theorem record_boot (src code p0 p1 p2 : Nat) (s : State) : (record src code p0 p1 p2 s).boot = s.boot := by
  unfold record; dsimp only; split <;> rfl
@[simp] theorem record_kiln (src code p0 p1 p2 : Nat) (s : State) : (record src code p0 p1 p2 s).kiln = s.kiln := by
  unfold record; dsimp only; split <;> rfl
@[simp] theorem record_lnc (src code p0 p1 p2 : Nat) (s : State) : (record src code p0 p1 p2 s).lnc = s.lnc := by
  unfold record; dsimp only; split <;> rfl
@[simp] theorem record_cpn (src code p0 p1 p2 : Nat) (s : State) : (record src code p0 p1 p2 s).cpn = s.cpn := by
  unfold record; dsimp only; split <;> rfl
@[simp] theorem record_cfd (src code p0 p1 p2 : Nat) (s : State) : (record src code p0 p1 p2 s).cfd = s.cfd := by
  unfold record; dsimp only; split <;> rfl
@[simp] theorem record_brg (src code p0 p1 p2 : Nat) (s : State) : (record src code p0 p1 p2 s).brg = s.brg := by
  unfold record; dsimp only; split <;> rfl
@[simp] theorem record_bw (src code p0 p1 p2 : Nat) (s : State) : (record src code p0 p1 p2 s).bw = s.bw := by
  unfold record; dsimp only; split <;> rfl
@[simp] theorem record_ints (src code p0 p1 p2 : Nat) (s : State) : (record src code p0 p1 p2 s).ints = s.ints := by
  unfold record; dsimp only; split <;> rfl
@[simp] theorem record_mems (src code p0 p1 p2 : Nat) (s : State) : (record src code p0 p1 p2 s).mems = s.mems := by
  unfold record; dsimp only; split <;> rfl
@[simp] theorem record_cores (src code p0 p1 p2 : Nat) (s : State) : (record src code p0 p1 p2 s).cores = s.cores := by
  unfold record; dsimp only; split <;> rfl
@[simp] theorem record_vmem (src code p0 p1 p2 : Nat) (s : State) : (record src code p0 p1 p2 s).vmem = s.vmem := by
  unfold record; dsimp only; split <;> rfl
@[simp] theorem deliver_pending (n : Nat) (s : State) : (deliver n s).pending = s.pending := by
  unfold deliver; split <;> rfl
@[simp] theorem deliver_drawn (n : Nat) (s : State) : (deliver n s).drawn = s.drawn := by
  unfold deliver; split <;> rfl
@[simp] theorem deliver_mod (n : Nat) (s : State) : (deliver n s).mod = s.mod := by
  unfold deliver; split <;> rfl
@[simp] theorem deliver_pwr (n : Nat) (s : State) : (deliver n s).pwr = s.pwr := by
  unfold deliver; split <;> rfl
@[simp] theorem deliver_rot (n : Nat) (s : State) : (deliver n s).rot = s.rot := by
  unfold deliver; split <;> rfl
@[simp] theorem deliver_cys (n : Nat) (s : State) : (deliver n s).cys = s.cys := by
  unfold deliver; split <;> rfl
@[simp] theorem deliver_clk (n : Nat) (s : State) : (deliver n s).clk = s.clk := by
  unfold deliver; split <;> rfl
@[simp] theorem deliver_tim (n : Nat) (s : State) : (deliver n s).tim = s.tim := by
  unfold deliver; split <;> rfl
@[simp] theorem deliver_banks (n : Nat) (s : State) : (deliver n s).banks = s.banks := by
  unfold deliver; split <;> rfl
@[simp] theorem deliver_chans (n : Nat) (s : State) : (deliver n s).chans = s.chans := by
  unfold deliver; split <;> rfl
@[simp] theorem deliver_xn (n : Nat) (s : State) : (deliver n s).xn = s.xn := by
  unfold deliver; split <;> rfl
@[simp] theorem deliver_recd (n : Nat) (s : State) : (deliver n s).recd = s.recd := by
  unfold deliver; split <;> rfl
@[simp] theorem deliver_boot (n : Nat) (s : State) : (deliver n s).boot = s.boot := by
  unfold deliver; split <;> rfl
@[simp] theorem deliver_kiln (n : Nat) (s : State) : (deliver n s).kiln = s.kiln := by
  unfold deliver; split <;> rfl
@[simp] theorem deliver_twl (n : Nat) (s : State) : (deliver n s).twl = s.twl := by
  unfold deliver; split <;> rfl
@[simp] theorem deliver_lnc (n : Nat) (s : State) : (deliver n s).lnc = s.lnc := by
  unfold deliver; split <;> rfl
@[simp] theorem deliver_cpn (n : Nat) (s : State) : (deliver n s).cpn = s.cpn := by
  unfold deliver; split <;> rfl
@[simp] theorem deliver_cfd (n : Nat) (s : State) : (deliver n s).cfd = s.cfd := by
  unfold deliver; split <;> rfl
@[simp] theorem deliver_brg (n : Nat) (s : State) : (deliver n s).brg = s.brg := by
  unfold deliver; split <;> rfl
@[simp] theorem deliver_bw (n : Nat) (s : State) : (deliver n s).bw = s.bw := by
  unfold deliver; split <;> rfl
@[simp] theorem deliver_ints (n : Nat) (s : State) : (deliver n s).ints = s.ints := by
  unfold deliver; split <;> rfl
@[simp] theorem deliver_mems (n : Nat) (s : State) : (deliver n s).mems = s.mems := by
  unfold deliver; split <;> rfl
@[simp] theorem deliver_vmem (n : Nat) (s : State) : (deliver n s).vmem = s.vmem := by
  unfold deliver; split <;> rfl
@[simp] theorem raise_pending (n : Nat) (s : State) : (raise n s).pending = s.pending := by
  unfold raise; split; · rfl
  · dsimp only; split
    · rw [deliver_pending]
    · rfl
@[simp] theorem raise_drawn (n : Nat) (s : State) : (raise n s).drawn = s.drawn := by
  unfold raise; split; · rfl
  · dsimp only; split
    · rw [deliver_drawn]
    · rfl
@[simp] theorem raise_mod (n : Nat) (s : State) : (raise n s).mod = s.mod := by
  unfold raise; split; · rfl
  · dsimp only; split
    · rw [deliver_mod]
    · rfl
@[simp] theorem raise_pwr (n : Nat) (s : State) : (raise n s).pwr = s.pwr := by
  unfold raise; split; · rfl
  · dsimp only; split
    · rw [deliver_pwr]
    · rfl
@[simp] theorem raise_rot (n : Nat) (s : State) : (raise n s).rot = s.rot := by
  unfold raise; split; · rfl
  · dsimp only; split
    · rw [deliver_rot]
    · rfl
@[simp] theorem raise_cys (n : Nat) (s : State) : (raise n s).cys = s.cys := by
  unfold raise; split; · rfl
  · dsimp only; split
    · rw [deliver_cys]
    · rfl
@[simp] theorem raise_clk (n : Nat) (s : State) : (raise n s).clk = s.clk := by
  unfold raise; split; · rfl
  · dsimp only; split
    · rw [deliver_clk]
    · rfl
@[simp] theorem raise_tim (n : Nat) (s : State) : (raise n s).tim = s.tim := by
  unfold raise; split; · rfl
  · dsimp only; split
    · rw [deliver_tim]
    · rfl
@[simp] theorem raise_banks (n : Nat) (s : State) : (raise n s).banks = s.banks := by
  unfold raise; split; · rfl
  · dsimp only; split
    · rw [deliver_banks]
    · rfl
@[simp] theorem raise_chans (n : Nat) (s : State) : (raise n s).chans = s.chans := by
  unfold raise; split; · rfl
  · dsimp only; split
    · rw [deliver_chans]
    · rfl
@[simp] theorem raise_xn (n : Nat) (s : State) : (raise n s).xn = s.xn := by
  unfold raise; split; · rfl
  · dsimp only; split
    · rw [deliver_xn]
    · rfl
@[simp] theorem raise_recd (n : Nat) (s : State) : (raise n s).recd = s.recd := by
  unfold raise; split; · rfl
  · dsimp only; split
    · rw [deliver_recd]
    · rfl
@[simp] theorem raise_boot (n : Nat) (s : State) : (raise n s).boot = s.boot := by
  unfold raise; split; · rfl
  · dsimp only; split
    · rw [deliver_boot]
    · rfl
@[simp] theorem raise_kiln (n : Nat) (s : State) : (raise n s).kiln = s.kiln := by
  unfold raise; split; · rfl
  · dsimp only; split
    · rw [deliver_kiln]
    · rfl
@[simp] theorem raise_twl (n : Nat) (s : State) : (raise n s).twl = s.twl := by
  unfold raise; split; · rfl
  · dsimp only; split
    · rw [deliver_twl]
    · rfl
@[simp] theorem raise_lnc (n : Nat) (s : State) : (raise n s).lnc = s.lnc := by
  unfold raise; split; · rfl
  · dsimp only; split
    · rw [deliver_lnc]
    · rfl
@[simp] theorem raise_cpn (n : Nat) (s : State) : (raise n s).cpn = s.cpn := by
  unfold raise; split; · rfl
  · dsimp only; split
    · rw [deliver_cpn]
    · rfl
@[simp] theorem raise_cfd (n : Nat) (s : State) : (raise n s).cfd = s.cfd := by
  unfold raise; split; · rfl
  · dsimp only; split
    · rw [deliver_cfd]
    · rfl
@[simp] theorem raise_brg (n : Nat) (s : State) : (raise n s).brg = s.brg := by
  unfold raise; split; · rfl
  · dsimp only; split
    · rw [deliver_brg]
    · rfl
@[simp] theorem raise_bw (n : Nat) (s : State) : (raise n s).bw = s.bw := by
  unfold raise; split; · rfl
  · dsimp only; split
    · rw [deliver_bw]
    · rfl
@[simp] theorem raise_mems (n : Nat) (s : State) : (raise n s).mems = s.mems := by
  unfold raise; split; · rfl
  · dsimp only; split
    · rw [deliver_mems]
    · rfl
@[simp] theorem raise_vmem (n : Nat) (s : State) : (raise n s).vmem = s.vmem := by
  unfold raise; split; · rfl
  · dsimp only; split
    · rw [deliver_vmem]
    · rfl
@[simp] theorem bwCount_pending (port : Fin 8) (n : Nat) (s : State) : (bwCount port n s).pending = s.pending := rfl
@[simp] theorem bwCount_drawn (port : Fin 8) (n : Nat) (s : State) : (bwCount port n s).drawn = s.drawn := rfl
@[simp] theorem bwCount_mod (port : Fin 8) (n : Nat) (s : State) : (bwCount port n s).mod = s.mod := rfl
@[simp] theorem bwCount_pwr (port : Fin 8) (n : Nat) (s : State) : (bwCount port n s).pwr = s.pwr := rfl
@[simp] theorem bwCount_vrc (port : Fin 8) (n : Nat) (s : State) : (bwCount port n s).vrc = s.vrc := rfl
@[simp] theorem bwCount_rot (port : Fin 8) (n : Nat) (s : State) : (bwCount port n s).rot = s.rot := rfl
@[simp] theorem bwCount_cys (port : Fin 8) (n : Nat) (s : State) : (bwCount port n s).cys = s.cys := rfl
@[simp] theorem bwCount_clk (port : Fin 8) (n : Nat) (s : State) : (bwCount port n s).clk = s.clk := rfl
@[simp] theorem bwCount_tim (port : Fin 8) (n : Nat) (s : State) : (bwCount port n s).tim = s.tim := rfl
@[simp] theorem bwCount_banks (port : Fin 8) (n : Nat) (s : State) : (bwCount port n s).banks = s.banks := rfl
@[simp] theorem bwCount_chans (port : Fin 8) (n : Nat) (s : State) : (bwCount port n s).chans = s.chans := rfl
@[simp] theorem bwCount_xn (port : Fin 8) (n : Nat) (s : State) : (bwCount port n s).xn = s.xn := rfl
@[simp] theorem bwCount_recd (port : Fin 8) (n : Nat) (s : State) : (bwCount port n s).recd = s.recd := rfl
@[simp] theorem bwCount_boot (port : Fin 8) (n : Nat) (s : State) : (bwCount port n s).boot = s.boot := rfl
@[simp] theorem bwCount_kiln (port : Fin 8) (n : Nat) (s : State) : (bwCount port n s).kiln = s.kiln := rfl
@[simp] theorem bwCount_twl (port : Fin 8) (n : Nat) (s : State) : (bwCount port n s).twl = s.twl := rfl
@[simp] theorem bwCount_lnc (port : Fin 8) (n : Nat) (s : State) : (bwCount port n s).lnc = s.lnc := rfl
@[simp] theorem bwCount_cpn (port : Fin 8) (n : Nat) (s : State) : (bwCount port n s).cpn = s.cpn := rfl
@[simp] theorem bwCount_cfd (port : Fin 8) (n : Nat) (s : State) : (bwCount port n s).cfd = s.cfd := rfl
@[simp] theorem bwCount_brg (port : Fin 8) (n : Nat) (s : State) : (bwCount port n s).brg = s.brg := rfl
@[simp] theorem bwCount_ints (port : Fin 8) (n : Nat) (s : State) : (bwCount port n s).ints = s.ints := rfl
@[simp] theorem bwCount_mems (port : Fin 8) (n : Nat) (s : State) : (bwCount port n s).mems = s.mems := rfl
@[simp] theorem bwCount_cores (port : Fin 8) (n : Nat) (s : State) : (bwCount port n s).cores = s.cores := rfl
@[simp] theorem bwCount_vmem (port : Fin 8) (n : Nat) (s : State) : (bwCount port n s).vmem = s.vmem := rfl
@[simp] theorem setLane_pending (l : Fin 4) (f : Lane → Lane) (s : State) : (setLane l f s).pending = s.pending := rfl
@[simp] theorem setLane_drawn (l : Fin 4) (f : Lane → Lane) (s : State) : (setLane l f s).drawn = s.drawn := rfl
@[simp] theorem setLane_mod (l : Fin 4) (f : Lane → Lane) (s : State) : (setLane l f s).mod = s.mod := rfl
@[simp] theorem setLane_pwr (l : Fin 4) (f : Lane → Lane) (s : State) : (setLane l f s).pwr = s.pwr := rfl
@[simp] theorem setLane_rot (l : Fin 4) (f : Lane → Lane) (s : State) : (setLane l f s).rot = s.rot := rfl
@[simp] theorem setLane_cys (l : Fin 4) (f : Lane → Lane) (s : State) : (setLane l f s).cys = s.cys := rfl
@[simp] theorem setLane_clk (l : Fin 4) (f : Lane → Lane) (s : State) : (setLane l f s).clk = s.clk := rfl
@[simp] theorem setLane_tim (l : Fin 4) (f : Lane → Lane) (s : State) : (setLane l f s).tim = s.tim := rfl
@[simp] theorem setLane_banks (l : Fin 4) (f : Lane → Lane) (s : State) : (setLane l f s).banks = s.banks := rfl
@[simp] theorem setLane_chans (l : Fin 4) (f : Lane → Lane) (s : State) : (setLane l f s).chans = s.chans := rfl
@[simp] theorem setLane_xn (l : Fin 4) (f : Lane → Lane) (s : State) : (setLane l f s).xn = s.xn := rfl
@[simp] theorem setLane_recd (l : Fin 4) (f : Lane → Lane) (s : State) : (setLane l f s).recd = s.recd := rfl
@[simp] theorem setLane_boot (l : Fin 4) (f : Lane → Lane) (s : State) : (setLane l f s).boot = s.boot := rfl
@[simp] theorem setLane_kiln (l : Fin 4) (f : Lane → Lane) (s : State) : (setLane l f s).kiln = s.kiln := rfl
@[simp] theorem setLane_twl (l : Fin 4) (f : Lane → Lane) (s : State) : (setLane l f s).twl = s.twl := rfl
@[simp] theorem setLane_lnc (l : Fin 4) (f : Lane → Lane) (s : State) : (setLane l f s).lnc = s.lnc := rfl
@[simp] theorem setLane_cpn (l : Fin 4) (f : Lane → Lane) (s : State) : (setLane l f s).cpn = s.cpn := rfl
@[simp] theorem setLane_cfd (l : Fin 4) (f : Lane → Lane) (s : State) : (setLane l f s).cfd = s.cfd := rfl
@[simp] theorem setLane_brg (l : Fin 4) (f : Lane → Lane) (s : State) : (setLane l f s).brg = s.brg := rfl
@[simp] theorem setLane_bw (l : Fin 4) (f : Lane → Lane) (s : State) : (setLane l f s).bw = s.bw := rfl
@[simp] theorem setLane_ints (l : Fin 4) (f : Lane → Lane) (s : State) : (setLane l f s).ints = s.ints := rfl
@[simp] theorem setLane_mems (l : Fin 4) (f : Lane → Lane) (s : State) : (setLane l f s).mems = s.mems := rfl
@[simp] theorem setLane_cores (l : Fin 4) (f : Lane → Lane) (s : State) : (setLane l f s).cores = s.cores := rfl
@[simp] theorem setLane_vmem (l : Fin 4) (f : Lane → Lane) (s : State) : (setLane l f s).vmem = s.vmem := rfl
@[simp] theorem mapLanes_pending (f : Lane → Lane) (s : State) : (mapLanes f s).pending = s.pending := rfl
@[simp] theorem mapLanes_drawn (f : Lane → Lane) (s : State) : (mapLanes f s).drawn = s.drawn := rfl
@[simp] theorem mapLanes_mod (f : Lane → Lane) (s : State) : (mapLanes f s).mod = s.mod := rfl
@[simp] theorem mapLanes_pwr (f : Lane → Lane) (s : State) : (mapLanes f s).pwr = s.pwr := rfl
@[simp] theorem mapLanes_rot (f : Lane → Lane) (s : State) : (mapLanes f s).rot = s.rot := rfl
@[simp] theorem mapLanes_cys (f : Lane → Lane) (s : State) : (mapLanes f s).cys = s.cys := rfl
@[simp] theorem mapLanes_clk (f : Lane → Lane) (s : State) : (mapLanes f s).clk = s.clk := rfl
@[simp] theorem mapLanes_tim (f : Lane → Lane) (s : State) : (mapLanes f s).tim = s.tim := rfl
@[simp] theorem mapLanes_banks (f : Lane → Lane) (s : State) : (mapLanes f s).banks = s.banks := rfl
@[simp] theorem mapLanes_chans (f : Lane → Lane) (s : State) : (mapLanes f s).chans = s.chans := rfl
@[simp] theorem mapLanes_xn (f : Lane → Lane) (s : State) : (mapLanes f s).xn = s.xn := rfl
@[simp] theorem mapLanes_recd (f : Lane → Lane) (s : State) : (mapLanes f s).recd = s.recd := rfl
@[simp] theorem mapLanes_boot (f : Lane → Lane) (s : State) : (mapLanes f s).boot = s.boot := rfl
@[simp] theorem mapLanes_kiln (f : Lane → Lane) (s : State) : (mapLanes f s).kiln = s.kiln := rfl
@[simp] theorem mapLanes_twl (f : Lane → Lane) (s : State) : (mapLanes f s).twl = s.twl := rfl
@[simp] theorem mapLanes_lnc (f : Lane → Lane) (s : State) : (mapLanes f s).lnc = s.lnc := rfl
@[simp] theorem mapLanes_cpn (f : Lane → Lane) (s : State) : (mapLanes f s).cpn = s.cpn := rfl
@[simp] theorem mapLanes_cfd (f : Lane → Lane) (s : State) : (mapLanes f s).cfd = s.cfd := rfl
@[simp] theorem mapLanes_brg (f : Lane → Lane) (s : State) : (mapLanes f s).brg = s.brg := rfl
@[simp] theorem mapLanes_bw (f : Lane → Lane) (s : State) : (mapLanes f s).bw = s.bw := rfl
@[simp] theorem mapLanes_ints (f : Lane → Lane) (s : State) : (mapLanes f s).ints = s.ints := rfl
@[simp] theorem mapLanes_mems (f : Lane → Lane) (s : State) : (mapLanes f s).mems = s.mems := rfl
@[simp] theorem mapLanes_cores (f : Lane → Lane) (s : State) : (mapLanes f s).cores = s.cores := rfl
@[simp] theorem mapLanes_vmem (f : Lane → Lane) (s : State) : (mapLanes f s).vmem = s.vmem := rfl
@[simp] theorem setModState_pending (new : ModState) (cause : Nat) (s : State) : (setModState new cause s).pending = s.pending := by
  unfold setModState; split; · rfl
  · rw [record_pending]
@[simp] theorem setModState_drawn (new : ModState) (cause : Nat) (s : State) : (setModState new cause s).drawn = s.drawn := by
  unfold setModState; split; · rfl
  · rw [record_drawn]
@[simp] theorem setModState_pwr (new : ModState) (cause : Nat) (s : State) : (setModState new cause s).pwr = s.pwr := by
  unfold setModState; split; · rfl
  · rw [record_pwr]
@[simp] theorem setModState_vrc (new : ModState) (cause : Nat) (s : State) : (setModState new cause s).vrc = s.vrc := by
  unfold setModState; split; · rfl
  · rw [record_vrc]
@[simp] theorem setModState_rot (new : ModState) (cause : Nat) (s : State) : (setModState new cause s).rot = s.rot := by
  unfold setModState; split; · rfl
  · rw [record_rot]
@[simp] theorem setModState_cys (new : ModState) (cause : Nat) (s : State) : (setModState new cause s).cys = s.cys := by
  unfold setModState; split; · rfl
  · rw [record_cys]
@[simp] theorem setModState_clk (new : ModState) (cause : Nat) (s : State) : (setModState new cause s).clk = s.clk := by
  unfold setModState; split; · rfl
  · rw [record_clk]
@[simp] theorem setModState_tim (new : ModState) (cause : Nat) (s : State) : (setModState new cause s).tim = s.tim := by
  unfold setModState; split; · rfl
  · rw [record_tim]
@[simp] theorem setModState_banks (new : ModState) (cause : Nat) (s : State) : (setModState new cause s).banks = s.banks := by
  unfold setModState; split; · rfl
  · rw [record_banks]
@[simp] theorem setModState_chans (new : ModState) (cause : Nat) (s : State) : (setModState new cause s).chans = s.chans := by
  unfold setModState; split; · rfl
  · rw [record_chans]
@[simp] theorem setModState_xn (new : ModState) (cause : Nat) (s : State) : (setModState new cause s).xn = s.xn := by
  unfold setModState; split; · rfl
  · rw [record_xn]
@[simp] theorem setModState_boot (new : ModState) (cause : Nat) (s : State) : (setModState new cause s).boot = s.boot := by
  unfold setModState; split; · rfl
  · rw [record_boot]
@[simp] theorem setModState_kiln (new : ModState) (cause : Nat) (s : State) : (setModState new cause s).kiln = s.kiln := by
  unfold setModState; split; · rfl
  · rw [record_kiln]
@[simp] theorem setModState_lnc (new : ModState) (cause : Nat) (s : State) : (setModState new cause s).lnc = s.lnc := by
  unfold setModState; split; · rfl
  · rw [record_lnc]
@[simp] theorem setModState_cpn (new : ModState) (cause : Nat) (s : State) : (setModState new cause s).cpn = s.cpn := by
  unfold setModState; split; · rfl
  · rw [record_cpn]
@[simp] theorem setModState_cfd (new : ModState) (cause : Nat) (s : State) : (setModState new cause s).cfd = s.cfd := by
  unfold setModState; split; · rfl
  · rw [record_cfd]
@[simp] theorem setModState_brg (new : ModState) (cause : Nat) (s : State) : (setModState new cause s).brg = s.brg := by
  unfold setModState; split; · rfl
  · rw [record_brg]
@[simp] theorem setModState_bw (new : ModState) (cause : Nat) (s : State) : (setModState new cause s).bw = s.bw := by
  unfold setModState; split; · rfl
  · rw [record_bw]
@[simp] theorem setModState_ints (new : ModState) (cause : Nat) (s : State) : (setModState new cause s).ints = s.ints := by
  unfold setModState; split; · rfl
  · rw [record_ints]
@[simp] theorem setModState_mems (new : ModState) (cause : Nat) (s : State) : (setModState new cause s).mems = s.mems := by
  unfold setModState; split; · rfl
  · rw [record_mems]
@[simp] theorem setModState_cores (new : ModState) (cause : Nat) (s : State) : (setModState new cause s).cores = s.cores := by
  unfold setModState; split; · rfl
  · rw [record_cores]
@[simp] theorem setModState_vmem (new : ModState) (cause : Nat) (s : State) : (setModState new cause s).vmem = s.vmem := by
  unfold setModState; split; · rfl
  · rw [record_vmem]
@[simp] theorem setVote_pending (mode : VoteMode) (subst : Bool) (cause : Nat) (s : State) : (setVote mode subst cause s).pending = s.pending := by
  unfold setVote; split; · rfl
  · rw [raise_pending, record_pending]
@[simp] theorem setVote_drawn (mode : VoteMode) (subst : Bool) (cause : Nat) (s : State) : (setVote mode subst cause s).drawn = s.drawn := by
  unfold setVote; split; · rfl
  · rw [raise_drawn, record_drawn]
@[simp] theorem setVote_mod (mode : VoteMode) (subst : Bool) (cause : Nat) (s : State) : (setVote mode subst cause s).mod = s.mod := by
  unfold setVote; split; · rfl
  · rw [raise_mod, record_mod]
@[simp] theorem setVote_pwr (mode : VoteMode) (subst : Bool) (cause : Nat) (s : State) : (setVote mode subst cause s).pwr = s.pwr := by
  unfold setVote; split; · rfl
  · rw [raise_pwr, record_pwr]
@[simp] theorem setVote_rot (mode : VoteMode) (subst : Bool) (cause : Nat) (s : State) : (setVote mode subst cause s).rot = s.rot := by
  unfold setVote; split; · rfl
  · rw [raise_rot, record_rot]
@[simp] theorem setVote_cys (mode : VoteMode) (subst : Bool) (cause : Nat) (s : State) : (setVote mode subst cause s).cys = s.cys := by
  unfold setVote; split; · rfl
  · rw [raise_cys, record_cys]
@[simp] theorem setVote_clk (mode : VoteMode) (subst : Bool) (cause : Nat) (s : State) : (setVote mode subst cause s).clk = s.clk := by
  unfold setVote; split; · rfl
  · rw [raise_clk, record_clk]
@[simp] theorem setVote_tim (mode : VoteMode) (subst : Bool) (cause : Nat) (s : State) : (setVote mode subst cause s).tim = s.tim := by
  unfold setVote; split; · rfl
  · rw [raise_tim, record_tim]
@[simp] theorem setVote_banks (mode : VoteMode) (subst : Bool) (cause : Nat) (s : State) : (setVote mode subst cause s).banks = s.banks := by
  unfold setVote; split; · rfl
  · rw [raise_banks, record_banks]
@[simp] theorem setVote_chans (mode : VoteMode) (subst : Bool) (cause : Nat) (s : State) : (setVote mode subst cause s).chans = s.chans := by
  unfold setVote; split; · rfl
  · rw [raise_chans, record_chans]
@[simp] theorem setVote_xn (mode : VoteMode) (subst : Bool) (cause : Nat) (s : State) : (setVote mode subst cause s).xn = s.xn := by
  unfold setVote; split; · rfl
  · rw [raise_xn, record_xn]
@[simp] theorem setVote_boot (mode : VoteMode) (subst : Bool) (cause : Nat) (s : State) : (setVote mode subst cause s).boot = s.boot := by
  unfold setVote; split; · rfl
  · rw [raise_boot, record_boot]
@[simp] theorem setVote_kiln (mode : VoteMode) (subst : Bool) (cause : Nat) (s : State) : (setVote mode subst cause s).kiln = s.kiln := by
  unfold setVote; split; · rfl
  · rw [raise_kiln, record_kiln]
@[simp] theorem setVote_lnc (mode : VoteMode) (subst : Bool) (cause : Nat) (s : State) : (setVote mode subst cause s).lnc = s.lnc := by
  unfold setVote; split; · rfl
  · rw [raise_lnc, record_lnc]
@[simp] theorem setVote_cpn (mode : VoteMode) (subst : Bool) (cause : Nat) (s : State) : (setVote mode subst cause s).cpn = s.cpn := by
  unfold setVote; split; · rfl
  · rw [raise_cpn, record_cpn]
@[simp] theorem setVote_cfd (mode : VoteMode) (subst : Bool) (cause : Nat) (s : State) : (setVote mode subst cause s).cfd = s.cfd := by
  unfold setVote; split; · rfl
  · rw [raise_cfd, record_cfd]
@[simp] theorem setVote_brg (mode : VoteMode) (subst : Bool) (cause : Nat) (s : State) : (setVote mode subst cause s).brg = s.brg := by
  unfold setVote; split; · rfl
  · rw [raise_brg, record_brg]
@[simp] theorem setVote_bw (mode : VoteMode) (subst : Bool) (cause : Nat) (s : State) : (setVote mode subst cause s).bw = s.bw := by
  unfold setVote; split; · rfl
  · rw [raise_bw, record_bw]
@[simp] theorem setVote_mems (mode : VoteMode) (subst : Bool) (cause : Nat) (s : State) : (setVote mode subst cause s).mems = s.mems := by
  unfold setVote; split; · rfl
  · rw [raise_mems, record_mems]
@[simp] theorem setVote_vmem (mode : VoteMode) (subst : Bool) (cause : Nat) (s : State) : (setVote mode subst cause s).vmem = s.vmem := by
  unfold setVote; split; · rfl
  · rw [raise_vmem, record_vmem]
@[simp] theorem setChan_pending (ch : Fin 48) (f : Channel → Channel) (s : State) : (setChan ch f s).pending = s.pending := rfl
@[simp] theorem setChan_drawn (ch : Fin 48) (f : Channel → Channel) (s : State) : (setChan ch f s).drawn = s.drawn := rfl
@[simp] theorem setChan_mod (ch : Fin 48) (f : Channel → Channel) (s : State) : (setChan ch f s).mod = s.mod := rfl
@[simp] theorem setChan_pwr (ch : Fin 48) (f : Channel → Channel) (s : State) : (setChan ch f s).pwr = s.pwr := rfl
@[simp] theorem setChan_vrc (ch : Fin 48) (f : Channel → Channel) (s : State) : (setChan ch f s).vrc = s.vrc := rfl
@[simp] theorem setChan_rot (ch : Fin 48) (f : Channel → Channel) (s : State) : (setChan ch f s).rot = s.rot := rfl
@[simp] theorem setChan_cys (ch : Fin 48) (f : Channel → Channel) (s : State) : (setChan ch f s).cys = s.cys := rfl
@[simp] theorem setChan_clk (ch : Fin 48) (f : Channel → Channel) (s : State) : (setChan ch f s).clk = s.clk := rfl
@[simp] theorem setChan_tim (ch : Fin 48) (f : Channel → Channel) (s : State) : (setChan ch f s).tim = s.tim := rfl
@[simp] theorem setChan_banks (ch : Fin 48) (f : Channel → Channel) (s : State) : (setChan ch f s).banks = s.banks := rfl
@[simp] theorem setChan_xn (ch : Fin 48) (f : Channel → Channel) (s : State) : (setChan ch f s).xn = s.xn := rfl
@[simp] theorem setChan_recd (ch : Fin 48) (f : Channel → Channel) (s : State) : (setChan ch f s).recd = s.recd := rfl
@[simp] theorem setChan_boot (ch : Fin 48) (f : Channel → Channel) (s : State) : (setChan ch f s).boot = s.boot := rfl
@[simp] theorem setChan_kiln (ch : Fin 48) (f : Channel → Channel) (s : State) : (setChan ch f s).kiln = s.kiln := rfl
@[simp] theorem setChan_twl (ch : Fin 48) (f : Channel → Channel) (s : State) : (setChan ch f s).twl = s.twl := rfl
@[simp] theorem setChan_lnc (ch : Fin 48) (f : Channel → Channel) (s : State) : (setChan ch f s).lnc = s.lnc := rfl
@[simp] theorem setChan_cpn (ch : Fin 48) (f : Channel → Channel) (s : State) : (setChan ch f s).cpn = s.cpn := rfl
@[simp] theorem setChan_cfd (ch : Fin 48) (f : Channel → Channel) (s : State) : (setChan ch f s).cfd = s.cfd := rfl
@[simp] theorem setChan_brg (ch : Fin 48) (f : Channel → Channel) (s : State) : (setChan ch f s).brg = s.brg := rfl
@[simp] theorem setChan_bw (ch : Fin 48) (f : Channel → Channel) (s : State) : (setChan ch f s).bw = s.bw := rfl
@[simp] theorem setChan_ints (ch : Fin 48) (f : Channel → Channel) (s : State) : (setChan ch f s).ints = s.ints := rfl
@[simp] theorem setChan_mems (ch : Fin 48) (f : Channel → Channel) (s : State) : (setChan ch f s).mems = s.mems := rfl
@[simp] theorem setChan_cores (ch : Fin 48) (f : Channel → Channel) (s : State) : (setChan ch f s).cores = s.cores := rfl
@[simp] theorem setChan_vmem (ch : Fin 48) (f : Channel → Channel) (s : State) : (setChan ch f s).vmem = s.vmem := rfl
@[simp] theorem setBank_pending (b : Fin 3) (f : Bank → Bank) (s : State) : (setBank b f s).pending = s.pending := rfl
@[simp] theorem setBank_drawn (b : Fin 3) (f : Bank → Bank) (s : State) : (setBank b f s).drawn = s.drawn := rfl
@[simp] theorem setBank_mod (b : Fin 3) (f : Bank → Bank) (s : State) : (setBank b f s).mod = s.mod := rfl
@[simp] theorem setBank_pwr (b : Fin 3) (f : Bank → Bank) (s : State) : (setBank b f s).pwr = s.pwr := rfl
@[simp] theorem setBank_vrc (b : Fin 3) (f : Bank → Bank) (s : State) : (setBank b f s).vrc = s.vrc := rfl
@[simp] theorem setBank_rot (b : Fin 3) (f : Bank → Bank) (s : State) : (setBank b f s).rot = s.rot := rfl
@[simp] theorem setBank_cys (b : Fin 3) (f : Bank → Bank) (s : State) : (setBank b f s).cys = s.cys := rfl
@[simp] theorem setBank_clk (b : Fin 3) (f : Bank → Bank) (s : State) : (setBank b f s).clk = s.clk := rfl
@[simp] theorem setBank_tim (b : Fin 3) (f : Bank → Bank) (s : State) : (setBank b f s).tim = s.tim := rfl
@[simp] theorem setBank_chans (b : Fin 3) (f : Bank → Bank) (s : State) : (setBank b f s).chans = s.chans := rfl
@[simp] theorem setBank_xn (b : Fin 3) (f : Bank → Bank) (s : State) : (setBank b f s).xn = s.xn := rfl
@[simp] theorem setBank_recd (b : Fin 3) (f : Bank → Bank) (s : State) : (setBank b f s).recd = s.recd := rfl
@[simp] theorem setBank_boot (b : Fin 3) (f : Bank → Bank) (s : State) : (setBank b f s).boot = s.boot := rfl
@[simp] theorem setBank_kiln (b : Fin 3) (f : Bank → Bank) (s : State) : (setBank b f s).kiln = s.kiln := rfl
@[simp] theorem setBank_twl (b : Fin 3) (f : Bank → Bank) (s : State) : (setBank b f s).twl = s.twl := rfl
@[simp] theorem setBank_lnc (b : Fin 3) (f : Bank → Bank) (s : State) : (setBank b f s).lnc = s.lnc := rfl
@[simp] theorem setBank_cpn (b : Fin 3) (f : Bank → Bank) (s : State) : (setBank b f s).cpn = s.cpn := rfl
@[simp] theorem setBank_cfd (b : Fin 3) (f : Bank → Bank) (s : State) : (setBank b f s).cfd = s.cfd := rfl
@[simp] theorem setBank_brg (b : Fin 3) (f : Bank → Bank) (s : State) : (setBank b f s).brg = s.brg := rfl
@[simp] theorem setBank_bw (b : Fin 3) (f : Bank → Bank) (s : State) : (setBank b f s).bw = s.bw := rfl
@[simp] theorem setBank_ints (b : Fin 3) (f : Bank → Bank) (s : State) : (setBank b f s).ints = s.ints := rfl
@[simp] theorem setBank_mems (b : Fin 3) (f : Bank → Bank) (s : State) : (setBank b f s).mems = s.mems := rfl
@[simp] theorem setBank_cores (b : Fin 3) (f : Bank → Bank) (s : State) : (setBank b f s).cores = s.cores := rfl
@[simp] theorem setBank_vmem (b : Fin 3) (f : Bank → Bank) (s : State) : (setBank b f s).vmem = s.vmem := rfl
@[simp] theorem setTask_pending (n : Fin 8) (f : Task → Task) (s : State) : (setTask n f s).pending = s.pending := rfl
@[simp] theorem setTask_drawn (n : Fin 8) (f : Task → Task) (s : State) : (setTask n f s).drawn = s.drawn := rfl
@[simp] theorem setTask_mod (n : Fin 8) (f : Task → Task) (s : State) : (setTask n f s).mod = s.mod := rfl
@[simp] theorem setTask_pwr (n : Fin 8) (f : Task → Task) (s : State) : (setTask n f s).pwr = s.pwr := rfl
@[simp] theorem setTask_vrc (n : Fin 8) (f : Task → Task) (s : State) : (setTask n f s).vrc = s.vrc := rfl
@[simp] theorem setTask_rot (n : Fin 8) (f : Task → Task) (s : State) : (setTask n f s).rot = s.rot := rfl
@[simp] theorem setTask_clk (n : Fin 8) (f : Task → Task) (s : State) : (setTask n f s).clk = s.clk := rfl
@[simp] theorem setTask_tim (n : Fin 8) (f : Task → Task) (s : State) : (setTask n f s).tim = s.tim := rfl
@[simp] theorem setTask_banks (n : Fin 8) (f : Task → Task) (s : State) : (setTask n f s).banks = s.banks := rfl
@[simp] theorem setTask_chans (n : Fin 8) (f : Task → Task) (s : State) : (setTask n f s).chans = s.chans := rfl
@[simp] theorem setTask_xn (n : Fin 8) (f : Task → Task) (s : State) : (setTask n f s).xn = s.xn := rfl
@[simp] theorem setTask_recd (n : Fin 8) (f : Task → Task) (s : State) : (setTask n f s).recd = s.recd := rfl
@[simp] theorem setTask_boot (n : Fin 8) (f : Task → Task) (s : State) : (setTask n f s).boot = s.boot := rfl
@[simp] theorem setTask_kiln (n : Fin 8) (f : Task → Task) (s : State) : (setTask n f s).kiln = s.kiln := rfl
@[simp] theorem setTask_twl (n : Fin 8) (f : Task → Task) (s : State) : (setTask n f s).twl = s.twl := rfl
@[simp] theorem setTask_lnc (n : Fin 8) (f : Task → Task) (s : State) : (setTask n f s).lnc = s.lnc := rfl
@[simp] theorem setTask_cpn (n : Fin 8) (f : Task → Task) (s : State) : (setTask n f s).cpn = s.cpn := rfl
@[simp] theorem setTask_cfd (n : Fin 8) (f : Task → Task) (s : State) : (setTask n f s).cfd = s.cfd := rfl
@[simp] theorem setTask_brg (n : Fin 8) (f : Task → Task) (s : State) : (setTask n f s).brg = s.brg := rfl
@[simp] theorem setTask_bw (n : Fin 8) (f : Task → Task) (s : State) : (setTask n f s).bw = s.bw := rfl
@[simp] theorem setTask_ints (n : Fin 8) (f : Task → Task) (s : State) : (setTask n f s).ints = s.ints := rfl
@[simp] theorem setTask_mems (n : Fin 8) (f : Task → Task) (s : State) : (setTask n f s).mems = s.mems := rfl
@[simp] theorem setTask_cores (n : Fin 8) (f : Task → Task) (s : State) : (setTask n f s).cores = s.cores := rfl
@[simp] theorem setTask_vmem (n : Fin 8) (f : Task → Task) (s : State) : (setTask n f s).vmem = s.vmem := rfl
@[simp] theorem setTwl_pending (f : Twin → Twin) (s : State) : (setTwl f s).pending = s.pending := rfl
@[simp] theorem setTwl_drawn (f : Twin → Twin) (s : State) : (setTwl f s).drawn = s.drawn := rfl
@[simp] theorem setTwl_mod (f : Twin → Twin) (s : State) : (setTwl f s).mod = s.mod := rfl
@[simp] theorem setTwl_pwr (f : Twin → Twin) (s : State) : (setTwl f s).pwr = s.pwr := rfl
@[simp] theorem setTwl_vrc (f : Twin → Twin) (s : State) : (setTwl f s).vrc = s.vrc := rfl
@[simp] theorem setTwl_rot (f : Twin → Twin) (s : State) : (setTwl f s).rot = s.rot := rfl
@[simp] theorem setTwl_cys (f : Twin → Twin) (s : State) : (setTwl f s).cys = s.cys := rfl
@[simp] theorem setTwl_clk (f : Twin → Twin) (s : State) : (setTwl f s).clk = s.clk := rfl
@[simp] theorem setTwl_tim (f : Twin → Twin) (s : State) : (setTwl f s).tim = s.tim := rfl
@[simp] theorem setTwl_banks (f : Twin → Twin) (s : State) : (setTwl f s).banks = s.banks := rfl
@[simp] theorem setTwl_chans (f : Twin → Twin) (s : State) : (setTwl f s).chans = s.chans := rfl
@[simp] theorem setTwl_xn (f : Twin → Twin) (s : State) : (setTwl f s).xn = s.xn := rfl
@[simp] theorem setTwl_recd (f : Twin → Twin) (s : State) : (setTwl f s).recd = s.recd := rfl
@[simp] theorem setTwl_boot (f : Twin → Twin) (s : State) : (setTwl f s).boot = s.boot := rfl
@[simp] theorem setTwl_kiln (f : Twin → Twin) (s : State) : (setTwl f s).kiln = s.kiln := rfl
@[simp] theorem setTwl_lnc (f : Twin → Twin) (s : State) : (setTwl f s).lnc = s.lnc := rfl
@[simp] theorem setTwl_cpn (f : Twin → Twin) (s : State) : (setTwl f s).cpn = s.cpn := rfl
@[simp] theorem setTwl_cfd (f : Twin → Twin) (s : State) : (setTwl f s).cfd = s.cfd := rfl
@[simp] theorem setTwl_brg (f : Twin → Twin) (s : State) : (setTwl f s).brg = s.brg := rfl
@[simp] theorem setTwl_bw (f : Twin → Twin) (s : State) : (setTwl f s).bw = s.bw := rfl
@[simp] theorem setTwl_ints (f : Twin → Twin) (s : State) : (setTwl f s).ints = s.ints := rfl
@[simp] theorem setTwl_mems (f : Twin → Twin) (s : State) : (setTwl f s).mems = s.mems := rfl
@[simp] theorem setTwl_cores (f : Twin → Twin) (s : State) : (setTwl f s).cores = s.cores := rfl
@[simp] theorem setTwl_vmem (f : Twin → Twin) (s : State) : (setTwl f s).vmem = s.vmem := rfl
@[simp] theorem setXn_pending (f : Xenex → Xenex) (s : State) : (setXn f s).pending = s.pending := rfl
@[simp] theorem setXn_drawn (f : Xenex → Xenex) (s : State) : (setXn f s).drawn = s.drawn := rfl
@[simp] theorem setXn_mod (f : Xenex → Xenex) (s : State) : (setXn f s).mod = s.mod := rfl
@[simp] theorem setXn_pwr (f : Xenex → Xenex) (s : State) : (setXn f s).pwr = s.pwr := rfl
@[simp] theorem setXn_vrc (f : Xenex → Xenex) (s : State) : (setXn f s).vrc = s.vrc := rfl
@[simp] theorem setXn_rot (f : Xenex → Xenex) (s : State) : (setXn f s).rot = s.rot := rfl
@[simp] theorem setXn_cys (f : Xenex → Xenex) (s : State) : (setXn f s).cys = s.cys := rfl
@[simp] theorem setXn_clk (f : Xenex → Xenex) (s : State) : (setXn f s).clk = s.clk := rfl
@[simp] theorem setXn_tim (f : Xenex → Xenex) (s : State) : (setXn f s).tim = s.tim := rfl
@[simp] theorem setXn_banks (f : Xenex → Xenex) (s : State) : (setXn f s).banks = s.banks := rfl
@[simp] theorem setXn_chans (f : Xenex → Xenex) (s : State) : (setXn f s).chans = s.chans := rfl
@[simp] theorem setXn_recd (f : Xenex → Xenex) (s : State) : (setXn f s).recd = s.recd := rfl
@[simp] theorem setXn_boot (f : Xenex → Xenex) (s : State) : (setXn f s).boot = s.boot := rfl
@[simp] theorem setXn_kiln (f : Xenex → Xenex) (s : State) : (setXn f s).kiln = s.kiln := rfl
@[simp] theorem setXn_twl (f : Xenex → Xenex) (s : State) : (setXn f s).twl = s.twl := rfl
@[simp] theorem setXn_lnc (f : Xenex → Xenex) (s : State) : (setXn f s).lnc = s.lnc := rfl
@[simp] theorem setXn_cpn (f : Xenex → Xenex) (s : State) : (setXn f s).cpn = s.cpn := rfl
@[simp] theorem setXn_cfd (f : Xenex → Xenex) (s : State) : (setXn f s).cfd = s.cfd := rfl
@[simp] theorem setXn_brg (f : Xenex → Xenex) (s : State) : (setXn f s).brg = s.brg := rfl
@[simp] theorem setXn_bw (f : Xenex → Xenex) (s : State) : (setXn f s).bw = s.bw := rfl
@[simp] theorem setXn_ints (f : Xenex → Xenex) (s : State) : (setXn f s).ints = s.ints := rfl
@[simp] theorem setXn_mems (f : Xenex → Xenex) (s : State) : (setXn f s).mems = s.mems := rfl
@[simp] theorem setXn_cores (f : Xenex → Xenex) (s : State) : (setXn f s).cores = s.cores := rfl
@[simp] theorem setXn_vmem (f : Xenex → Xenex) (s : State) : (setXn f s).vmem = s.vmem := rfl
@[simp] theorem setLnc_pending (f : Lnc → Lnc) (s : State) : (setLnc f s).pending = s.pending := rfl
@[simp] theorem setLnc_drawn (f : Lnc → Lnc) (s : State) : (setLnc f s).drawn = s.drawn := rfl
@[simp] theorem setLnc_mod (f : Lnc → Lnc) (s : State) : (setLnc f s).mod = s.mod := rfl
@[simp] theorem setLnc_pwr (f : Lnc → Lnc) (s : State) : (setLnc f s).pwr = s.pwr := rfl
@[simp] theorem setLnc_vrc (f : Lnc → Lnc) (s : State) : (setLnc f s).vrc = s.vrc := rfl
@[simp] theorem setLnc_rot (f : Lnc → Lnc) (s : State) : (setLnc f s).rot = s.rot := rfl
@[simp] theorem setLnc_cys (f : Lnc → Lnc) (s : State) : (setLnc f s).cys = s.cys := rfl
@[simp] theorem setLnc_clk (f : Lnc → Lnc) (s : State) : (setLnc f s).clk = s.clk := rfl
@[simp] theorem setLnc_tim (f : Lnc → Lnc) (s : State) : (setLnc f s).tim = s.tim := rfl
@[simp] theorem setLnc_banks (f : Lnc → Lnc) (s : State) : (setLnc f s).banks = s.banks := rfl
@[simp] theorem setLnc_chans (f : Lnc → Lnc) (s : State) : (setLnc f s).chans = s.chans := rfl
@[simp] theorem setLnc_xn (f : Lnc → Lnc) (s : State) : (setLnc f s).xn = s.xn := rfl
@[simp] theorem setLnc_recd (f : Lnc → Lnc) (s : State) : (setLnc f s).recd = s.recd := rfl
@[simp] theorem setLnc_boot (f : Lnc → Lnc) (s : State) : (setLnc f s).boot = s.boot := rfl
@[simp] theorem setLnc_kiln (f : Lnc → Lnc) (s : State) : (setLnc f s).kiln = s.kiln := rfl
@[simp] theorem setLnc_twl (f : Lnc → Lnc) (s : State) : (setLnc f s).twl = s.twl := rfl
@[simp] theorem setLnc_cpn (f : Lnc → Lnc) (s : State) : (setLnc f s).cpn = s.cpn := rfl
@[simp] theorem setLnc_cfd (f : Lnc → Lnc) (s : State) : (setLnc f s).cfd = s.cfd := rfl
@[simp] theorem setLnc_brg (f : Lnc → Lnc) (s : State) : (setLnc f s).brg = s.brg := rfl
@[simp] theorem setLnc_bw (f : Lnc → Lnc) (s : State) : (setLnc f s).bw = s.bw := rfl
@[simp] theorem setLnc_ints (f : Lnc → Lnc) (s : State) : (setLnc f s).ints = s.ints := rfl
@[simp] theorem setLnc_mems (f : Lnc → Lnc) (s : State) : (setLnc f s).mems = s.mems := rfl
@[simp] theorem setLnc_cores (f : Lnc → Lnc) (s : State) : (setLnc f s).cores = s.cores := rfl
@[simp] theorem setLnc_vmem (f : Lnc → Lnc) (s : State) : (setLnc f s).vmem = s.vmem := rfl
@[simp] theorem setClk_pending (f : Clk → Clk) (s : State) : (setClk f s).pending = s.pending := rfl
@[simp] theorem setClk_drawn (f : Clk → Clk) (s : State) : (setClk f s).drawn = s.drawn := rfl
@[simp] theorem setClk_mod (f : Clk → Clk) (s : State) : (setClk f s).mod = s.mod := rfl
@[simp] theorem setClk_pwr (f : Clk → Clk) (s : State) : (setClk f s).pwr = s.pwr := rfl
@[simp] theorem setClk_vrc (f : Clk → Clk) (s : State) : (setClk f s).vrc = s.vrc := rfl
@[simp] theorem setClk_rot (f : Clk → Clk) (s : State) : (setClk f s).rot = s.rot := rfl
@[simp] theorem setClk_cys (f : Clk → Clk) (s : State) : (setClk f s).cys = s.cys := rfl
@[simp] theorem setClk_tim (f : Clk → Clk) (s : State) : (setClk f s).tim = s.tim := rfl
@[simp] theorem setClk_banks (f : Clk → Clk) (s : State) : (setClk f s).banks = s.banks := rfl
@[simp] theorem setClk_chans (f : Clk → Clk) (s : State) : (setClk f s).chans = s.chans := rfl
@[simp] theorem setClk_xn (f : Clk → Clk) (s : State) : (setClk f s).xn = s.xn := rfl
@[simp] theorem setClk_recd (f : Clk → Clk) (s : State) : (setClk f s).recd = s.recd := rfl
@[simp] theorem setClk_boot (f : Clk → Clk) (s : State) : (setClk f s).boot = s.boot := rfl
@[simp] theorem setClk_kiln (f : Clk → Clk) (s : State) : (setClk f s).kiln = s.kiln := rfl
@[simp] theorem setClk_twl (f : Clk → Clk) (s : State) : (setClk f s).twl = s.twl := rfl
@[simp] theorem setClk_lnc (f : Clk → Clk) (s : State) : (setClk f s).lnc = s.lnc := rfl
@[simp] theorem setClk_cpn (f : Clk → Clk) (s : State) : (setClk f s).cpn = s.cpn := rfl
@[simp] theorem setClk_cfd (f : Clk → Clk) (s : State) : (setClk f s).cfd = s.cfd := rfl
@[simp] theorem setClk_brg (f : Clk → Clk) (s : State) : (setClk f s).brg = s.brg := rfl
@[simp] theorem setClk_bw (f : Clk → Clk) (s : State) : (setClk f s).bw = s.bw := rfl
@[simp] theorem setClk_ints (f : Clk → Clk) (s : State) : (setClk f s).ints = s.ints := rfl
@[simp] theorem setClk_mems (f : Clk → Clk) (s : State) : (setClk f s).mems = s.mems := rfl
@[simp] theorem setClk_cores (f : Clk → Clk) (s : State) : (setClk f s).cores = s.cores := rfl
@[simp] theorem setClk_vmem (f : Clk → Clk) (s : State) : (setClk f s).vmem = s.vmem := rfl
@[simp] theorem setTim_pending (f : Tim → Tim) (s : State) : (setTim f s).pending = s.pending := rfl
@[simp] theorem setTim_drawn (f : Tim → Tim) (s : State) : (setTim f s).drawn = s.drawn := rfl
@[simp] theorem setTim_mod (f : Tim → Tim) (s : State) : (setTim f s).mod = s.mod := rfl
@[simp] theorem setTim_pwr (f : Tim → Tim) (s : State) : (setTim f s).pwr = s.pwr := rfl
@[simp] theorem setTim_vrc (f : Tim → Tim) (s : State) : (setTim f s).vrc = s.vrc := rfl
@[simp] theorem setTim_rot (f : Tim → Tim) (s : State) : (setTim f s).rot = s.rot := rfl
@[simp] theorem setTim_cys (f : Tim → Tim) (s : State) : (setTim f s).cys = s.cys := rfl
@[simp] theorem setTim_clk (f : Tim → Tim) (s : State) : (setTim f s).clk = s.clk := rfl
@[simp] theorem setTim_banks (f : Tim → Tim) (s : State) : (setTim f s).banks = s.banks := rfl
@[simp] theorem setTim_chans (f : Tim → Tim) (s : State) : (setTim f s).chans = s.chans := rfl
@[simp] theorem setTim_xn (f : Tim → Tim) (s : State) : (setTim f s).xn = s.xn := rfl
@[simp] theorem setTim_recd (f : Tim → Tim) (s : State) : (setTim f s).recd = s.recd := rfl
@[simp] theorem setTim_boot (f : Tim → Tim) (s : State) : (setTim f s).boot = s.boot := rfl
@[simp] theorem setTim_kiln (f : Tim → Tim) (s : State) : (setTim f s).kiln = s.kiln := rfl
@[simp] theorem setTim_twl (f : Tim → Tim) (s : State) : (setTim f s).twl = s.twl := rfl
@[simp] theorem setTim_lnc (f : Tim → Tim) (s : State) : (setTim f s).lnc = s.lnc := rfl
@[simp] theorem setTim_cpn (f : Tim → Tim) (s : State) : (setTim f s).cpn = s.cpn := rfl
@[simp] theorem setTim_cfd (f : Tim → Tim) (s : State) : (setTim f s).cfd = s.cfd := rfl
@[simp] theorem setTim_brg (f : Tim → Tim) (s : State) : (setTim f s).brg = s.brg := rfl
@[simp] theorem setTim_bw (f : Tim → Tim) (s : State) : (setTim f s).bw = s.bw := rfl
@[simp] theorem setTim_ints (f : Tim → Tim) (s : State) : (setTim f s).ints = s.ints := rfl
@[simp] theorem setTim_mems (f : Tim → Tim) (s : State) : (setTim f s).mems = s.mems := rfl
@[simp] theorem setTim_cores (f : Tim → Tim) (s : State) : (setTim f s).cores = s.cores := rfl
@[simp] theorem setTim_vmem (f : Tim → Tim) (s : State) : (setTim f s).vmem = s.vmem := rfl
@[simp] theorem setBrg_pending (f : Brg → Brg) (s : State) : (setBrg f s).pending = s.pending := rfl
@[simp] theorem setBrg_drawn (f : Brg → Brg) (s : State) : (setBrg f s).drawn = s.drawn := rfl
@[simp] theorem setBrg_mod (f : Brg → Brg) (s : State) : (setBrg f s).mod = s.mod := rfl
@[simp] theorem setBrg_pwr (f : Brg → Brg) (s : State) : (setBrg f s).pwr = s.pwr := rfl
@[simp] theorem setBrg_vrc (f : Brg → Brg) (s : State) : (setBrg f s).vrc = s.vrc := rfl
@[simp] theorem setBrg_rot (f : Brg → Brg) (s : State) : (setBrg f s).rot = s.rot := rfl
@[simp] theorem setBrg_cys (f : Brg → Brg) (s : State) : (setBrg f s).cys = s.cys := rfl
@[simp] theorem setBrg_clk (f : Brg → Brg) (s : State) : (setBrg f s).clk = s.clk := rfl
@[simp] theorem setBrg_tim (f : Brg → Brg) (s : State) : (setBrg f s).tim = s.tim := rfl
@[simp] theorem setBrg_banks (f : Brg → Brg) (s : State) : (setBrg f s).banks = s.banks := rfl
@[simp] theorem setBrg_chans (f : Brg → Brg) (s : State) : (setBrg f s).chans = s.chans := rfl
@[simp] theorem setBrg_xn (f : Brg → Brg) (s : State) : (setBrg f s).xn = s.xn := rfl
@[simp] theorem setBrg_recd (f : Brg → Brg) (s : State) : (setBrg f s).recd = s.recd := rfl
@[simp] theorem setBrg_boot (f : Brg → Brg) (s : State) : (setBrg f s).boot = s.boot := rfl
@[simp] theorem setBrg_kiln (f : Brg → Brg) (s : State) : (setBrg f s).kiln = s.kiln := rfl
@[simp] theorem setBrg_twl (f : Brg → Brg) (s : State) : (setBrg f s).twl = s.twl := rfl
@[simp] theorem setBrg_lnc (f : Brg → Brg) (s : State) : (setBrg f s).lnc = s.lnc := rfl
@[simp] theorem setBrg_cpn (f : Brg → Brg) (s : State) : (setBrg f s).cpn = s.cpn := rfl
@[simp] theorem setBrg_cfd (f : Brg → Brg) (s : State) : (setBrg f s).cfd = s.cfd := rfl
@[simp] theorem setBrg_bw (f : Brg → Brg) (s : State) : (setBrg f s).bw = s.bw := rfl
@[simp] theorem setBrg_ints (f : Brg → Brg) (s : State) : (setBrg f s).ints = s.ints := rfl
@[simp] theorem setBrg_mems (f : Brg → Brg) (s : State) : (setBrg f s).mems = s.mems := rfl
@[simp] theorem setBrg_cores (f : Brg → Brg) (s : State) : (setBrg f s).cores = s.cores := rfl
@[simp] theorem setBrg_vmem (f : Brg → Brg) (s : State) : (setBrg f s).vmem = s.vmem := rfl
@[simp] theorem setPwr_pending (f : Power → Power) (s : State) : (setPwr f s).pending = s.pending := rfl
@[simp] theorem setPwr_drawn (f : Power → Power) (s : State) : (setPwr f s).drawn = s.drawn := rfl
@[simp] theorem setPwr_mod (f : Power → Power) (s : State) : (setPwr f s).mod = s.mod := rfl
@[simp] theorem setPwr_vrc (f : Power → Power) (s : State) : (setPwr f s).vrc = s.vrc := rfl
@[simp] theorem setPwr_rot (f : Power → Power) (s : State) : (setPwr f s).rot = s.rot := rfl
@[simp] theorem setPwr_cys (f : Power → Power) (s : State) : (setPwr f s).cys = s.cys := rfl
@[simp] theorem setPwr_clk (f : Power → Power) (s : State) : (setPwr f s).clk = s.clk := rfl
@[simp] theorem setPwr_tim (f : Power → Power) (s : State) : (setPwr f s).tim = s.tim := rfl
@[simp] theorem setPwr_banks (f : Power → Power) (s : State) : (setPwr f s).banks = s.banks := rfl
@[simp] theorem setPwr_chans (f : Power → Power) (s : State) : (setPwr f s).chans = s.chans := rfl
@[simp] theorem setPwr_xn (f : Power → Power) (s : State) : (setPwr f s).xn = s.xn := rfl
@[simp] theorem setPwr_recd (f : Power → Power) (s : State) : (setPwr f s).recd = s.recd := rfl
@[simp] theorem setPwr_boot (f : Power → Power) (s : State) : (setPwr f s).boot = s.boot := rfl
@[simp] theorem setPwr_kiln (f : Power → Power) (s : State) : (setPwr f s).kiln = s.kiln := rfl
@[simp] theorem setPwr_twl (f : Power → Power) (s : State) : (setPwr f s).twl = s.twl := rfl
@[simp] theorem setPwr_lnc (f : Power → Power) (s : State) : (setPwr f s).lnc = s.lnc := rfl
@[simp] theorem setPwr_cpn (f : Power → Power) (s : State) : (setPwr f s).cpn = s.cpn := rfl
@[simp] theorem setPwr_cfd (f : Power → Power) (s : State) : (setPwr f s).cfd = s.cfd := rfl
@[simp] theorem setPwr_brg (f : Power → Power) (s : State) : (setPwr f s).brg = s.brg := rfl
@[simp] theorem setPwr_bw (f : Power → Power) (s : State) : (setPwr f s).bw = s.bw := rfl
@[simp] theorem setPwr_ints (f : Power → Power) (s : State) : (setPwr f s).ints = s.ints := rfl
@[simp] theorem setPwr_mems (f : Power → Power) (s : State) : (setPwr f s).mems = s.mems := rfl
@[simp] theorem setPwr_cores (f : Power → Power) (s : State) : (setPwr f s).cores = s.cores := rfl
@[simp] theorem setPwr_vmem (f : Power → Power) (s : State) : (setPwr f s).vmem = s.vmem := rfl
@[simp] theorem setBoot_pending (f : Boot → Boot) (s : State) : (setBoot f s).pending = s.pending := rfl
@[simp] theorem setBoot_drawn (f : Boot → Boot) (s : State) : (setBoot f s).drawn = s.drawn := rfl
@[simp] theorem setBoot_mod (f : Boot → Boot) (s : State) : (setBoot f s).mod = s.mod := rfl
@[simp] theorem setBoot_pwr (f : Boot → Boot) (s : State) : (setBoot f s).pwr = s.pwr := rfl
@[simp] theorem setBoot_vrc (f : Boot → Boot) (s : State) : (setBoot f s).vrc = s.vrc := rfl
@[simp] theorem setBoot_rot (f : Boot → Boot) (s : State) : (setBoot f s).rot = s.rot := rfl
@[simp] theorem setBoot_cys (f : Boot → Boot) (s : State) : (setBoot f s).cys = s.cys := rfl
@[simp] theorem setBoot_clk (f : Boot → Boot) (s : State) : (setBoot f s).clk = s.clk := rfl
@[simp] theorem setBoot_tim (f : Boot → Boot) (s : State) : (setBoot f s).tim = s.tim := rfl
@[simp] theorem setBoot_banks (f : Boot → Boot) (s : State) : (setBoot f s).banks = s.banks := rfl
@[simp] theorem setBoot_chans (f : Boot → Boot) (s : State) : (setBoot f s).chans = s.chans := rfl
@[simp] theorem setBoot_xn (f : Boot → Boot) (s : State) : (setBoot f s).xn = s.xn := rfl
@[simp] theorem setBoot_recd (f : Boot → Boot) (s : State) : (setBoot f s).recd = s.recd := rfl
@[simp] theorem setBoot_kiln (f : Boot → Boot) (s : State) : (setBoot f s).kiln = s.kiln := rfl
@[simp] theorem setBoot_twl (f : Boot → Boot) (s : State) : (setBoot f s).twl = s.twl := rfl
@[simp] theorem setBoot_lnc (f : Boot → Boot) (s : State) : (setBoot f s).lnc = s.lnc := rfl
@[simp] theorem setBoot_cpn (f : Boot → Boot) (s : State) : (setBoot f s).cpn = s.cpn := rfl
@[simp] theorem setBoot_cfd (f : Boot → Boot) (s : State) : (setBoot f s).cfd = s.cfd := rfl
@[simp] theorem setBoot_brg (f : Boot → Boot) (s : State) : (setBoot f s).brg = s.brg := rfl
@[simp] theorem setBoot_bw (f : Boot → Boot) (s : State) : (setBoot f s).bw = s.bw := rfl
@[simp] theorem setBoot_ints (f : Boot → Boot) (s : State) : (setBoot f s).ints = s.ints := rfl
@[simp] theorem setBoot_mems (f : Boot → Boot) (s : State) : (setBoot f s).mems = s.mems := rfl
@[simp] theorem setBoot_cores (f : Boot → Boot) (s : State) : (setBoot f s).cores = s.cores := rfl
@[simp] theorem setBoot_vmem (f : Boot → Boot) (s : State) : (setBoot f s).vmem = s.vmem := rfl
@[simp] theorem setKiln_pending (f : Kiln → Kiln) (s : State) : (setKiln f s).pending = s.pending := rfl
@[simp] theorem setKiln_drawn (f : Kiln → Kiln) (s : State) : (setKiln f s).drawn = s.drawn := rfl
@[simp] theorem setKiln_mod (f : Kiln → Kiln) (s : State) : (setKiln f s).mod = s.mod := rfl
@[simp] theorem setKiln_pwr (f : Kiln → Kiln) (s : State) : (setKiln f s).pwr = s.pwr := rfl
@[simp] theorem setKiln_vrc (f : Kiln → Kiln) (s : State) : (setKiln f s).vrc = s.vrc := rfl
@[simp] theorem setKiln_rot (f : Kiln → Kiln) (s : State) : (setKiln f s).rot = s.rot := rfl
@[simp] theorem setKiln_cys (f : Kiln → Kiln) (s : State) : (setKiln f s).cys = s.cys := rfl
@[simp] theorem setKiln_clk (f : Kiln → Kiln) (s : State) : (setKiln f s).clk = s.clk := rfl
@[simp] theorem setKiln_tim (f : Kiln → Kiln) (s : State) : (setKiln f s).tim = s.tim := rfl
@[simp] theorem setKiln_banks (f : Kiln → Kiln) (s : State) : (setKiln f s).banks = s.banks := rfl
@[simp] theorem setKiln_chans (f : Kiln → Kiln) (s : State) : (setKiln f s).chans = s.chans := rfl
@[simp] theorem setKiln_xn (f : Kiln → Kiln) (s : State) : (setKiln f s).xn = s.xn := rfl
@[simp] theorem setKiln_recd (f : Kiln → Kiln) (s : State) : (setKiln f s).recd = s.recd := rfl
@[simp] theorem setKiln_boot (f : Kiln → Kiln) (s : State) : (setKiln f s).boot = s.boot := rfl
@[simp] theorem setKiln_twl (f : Kiln → Kiln) (s : State) : (setKiln f s).twl = s.twl := rfl
@[simp] theorem setKiln_lnc (f : Kiln → Kiln) (s : State) : (setKiln f s).lnc = s.lnc := rfl
@[simp] theorem setKiln_cpn (f : Kiln → Kiln) (s : State) : (setKiln f s).cpn = s.cpn := rfl
@[simp] theorem setKiln_cfd (f : Kiln → Kiln) (s : State) : (setKiln f s).cfd = s.cfd := rfl
@[simp] theorem setKiln_brg (f : Kiln → Kiln) (s : State) : (setKiln f s).brg = s.brg := rfl
@[simp] theorem setKiln_bw (f : Kiln → Kiln) (s : State) : (setKiln f s).bw = s.bw := rfl
@[simp] theorem setKiln_ints (f : Kiln → Kiln) (s : State) : (setKiln f s).ints = s.ints := rfl
@[simp] theorem setKiln_mems (f : Kiln → Kiln) (s : State) : (setKiln f s).mems = s.mems := rfl
@[simp] theorem setKiln_cores (f : Kiln → Kiln) (s : State) : (setKiln f s).cores = s.cores := rfl
@[simp] theorem setKiln_vmem (f : Kiln → Kiln) (s : State) : (setKiln f s).vmem = s.vmem := rfl
@[simp] theorem setCpn_pending (f : Cpn → Cpn) (s : State) : (setCpn f s).pending = s.pending := rfl
@[simp] theorem setCpn_drawn (f : Cpn → Cpn) (s : State) : (setCpn f s).drawn = s.drawn := rfl
@[simp] theorem setCpn_mod (f : Cpn → Cpn) (s : State) : (setCpn f s).mod = s.mod := rfl
@[simp] theorem setCpn_pwr (f : Cpn → Cpn) (s : State) : (setCpn f s).pwr = s.pwr := rfl
@[simp] theorem setCpn_vrc (f : Cpn → Cpn) (s : State) : (setCpn f s).vrc = s.vrc := rfl
@[simp] theorem setCpn_rot (f : Cpn → Cpn) (s : State) : (setCpn f s).rot = s.rot := rfl
@[simp] theorem setCpn_cys (f : Cpn → Cpn) (s : State) : (setCpn f s).cys = s.cys := rfl
@[simp] theorem setCpn_clk (f : Cpn → Cpn) (s : State) : (setCpn f s).clk = s.clk := rfl
@[simp] theorem setCpn_tim (f : Cpn → Cpn) (s : State) : (setCpn f s).tim = s.tim := rfl
@[simp] theorem setCpn_banks (f : Cpn → Cpn) (s : State) : (setCpn f s).banks = s.banks := rfl
@[simp] theorem setCpn_chans (f : Cpn → Cpn) (s : State) : (setCpn f s).chans = s.chans := rfl
@[simp] theorem setCpn_xn (f : Cpn → Cpn) (s : State) : (setCpn f s).xn = s.xn := rfl
@[simp] theorem setCpn_recd (f : Cpn → Cpn) (s : State) : (setCpn f s).recd = s.recd := rfl
@[simp] theorem setCpn_boot (f : Cpn → Cpn) (s : State) : (setCpn f s).boot = s.boot := rfl
@[simp] theorem setCpn_kiln (f : Cpn → Cpn) (s : State) : (setCpn f s).kiln = s.kiln := rfl
@[simp] theorem setCpn_twl (f : Cpn → Cpn) (s : State) : (setCpn f s).twl = s.twl := rfl
@[simp] theorem setCpn_lnc (f : Cpn → Cpn) (s : State) : (setCpn f s).lnc = s.lnc := rfl
@[simp] theorem setCpn_cfd (f : Cpn → Cpn) (s : State) : (setCpn f s).cfd = s.cfd := rfl
@[simp] theorem setCpn_brg (f : Cpn → Cpn) (s : State) : (setCpn f s).brg = s.brg := rfl
@[simp] theorem setCpn_bw (f : Cpn → Cpn) (s : State) : (setCpn f s).bw = s.bw := rfl
@[simp] theorem setCpn_ints (f : Cpn → Cpn) (s : State) : (setCpn f s).ints = s.ints := rfl
@[simp] theorem setCpn_mems (f : Cpn → Cpn) (s : State) : (setCpn f s).mems = s.mems := rfl
@[simp] theorem setCpn_cores (f : Cpn → Cpn) (s : State) : (setCpn f s).cores = s.cores := rfl
@[simp] theorem setCpn_vmem (f : Cpn → Cpn) (s : State) : (setCpn f s).vmem = s.vmem := rfl
@[simp] theorem setCan_pending (ch : Fin 2) (f : CanChan → CanChan) (s : State) : (setCan ch f s).pending = s.pending := rfl
@[simp] theorem setCan_drawn (ch : Fin 2) (f : CanChan → CanChan) (s : State) : (setCan ch f s).drawn = s.drawn := rfl
@[simp] theorem setCan_mod (ch : Fin 2) (f : CanChan → CanChan) (s : State) : (setCan ch f s).mod = s.mod := rfl
@[simp] theorem setCan_pwr (ch : Fin 2) (f : CanChan → CanChan) (s : State) : (setCan ch f s).pwr = s.pwr := rfl
@[simp] theorem setCan_vrc (ch : Fin 2) (f : CanChan → CanChan) (s : State) : (setCan ch f s).vrc = s.vrc := rfl
@[simp] theorem setCan_rot (ch : Fin 2) (f : CanChan → CanChan) (s : State) : (setCan ch f s).rot = s.rot := rfl
@[simp] theorem setCan_cys (ch : Fin 2) (f : CanChan → CanChan) (s : State) : (setCan ch f s).cys = s.cys := rfl
@[simp] theorem setCan_clk (ch : Fin 2) (f : CanChan → CanChan) (s : State) : (setCan ch f s).clk = s.clk := rfl
@[simp] theorem setCan_tim (ch : Fin 2) (f : CanChan → CanChan) (s : State) : (setCan ch f s).tim = s.tim := rfl
@[simp] theorem setCan_banks (ch : Fin 2) (f : CanChan → CanChan) (s : State) : (setCan ch f s).banks = s.banks := rfl
@[simp] theorem setCan_xn (ch : Fin 2) (f : CanChan → CanChan) (s : State) : (setCan ch f s).xn = s.xn := rfl
@[simp] theorem setCan_recd (ch : Fin 2) (f : CanChan → CanChan) (s : State) : (setCan ch f s).recd = s.recd := rfl
@[simp] theorem setCan_boot (ch : Fin 2) (f : CanChan → CanChan) (s : State) : (setCan ch f s).boot = s.boot := rfl
@[simp] theorem setCan_kiln (ch : Fin 2) (f : CanChan → CanChan) (s : State) : (setCan ch f s).kiln = s.kiln := rfl
@[simp] theorem setCan_twl (ch : Fin 2) (f : CanChan → CanChan) (s : State) : (setCan ch f s).twl = s.twl := rfl
@[simp] theorem setCan_lnc (ch : Fin 2) (f : CanChan → CanChan) (s : State) : (setCan ch f s).lnc = s.lnc := rfl
@[simp] theorem setCan_cpn (ch : Fin 2) (f : CanChan → CanChan) (s : State) : (setCan ch f s).cpn = s.cpn := rfl
@[simp] theorem setCan_brg (ch : Fin 2) (f : CanChan → CanChan) (s : State) : (setCan ch f s).brg = s.brg := rfl
@[simp] theorem setCan_bw (ch : Fin 2) (f : CanChan → CanChan) (s : State) : (setCan ch f s).bw = s.bw := rfl
@[simp] theorem setCan_ints (ch : Fin 2) (f : CanChan → CanChan) (s : State) : (setCan ch f s).ints = s.ints := rfl
@[simp] theorem setCan_mems (ch : Fin 2) (f : CanChan → CanChan) (s : State) : (setCan ch f s).mems = s.mems := rfl
@[simp] theorem setCan_cores (ch : Fin 2) (f : CanChan → CanChan) (s : State) : (setCan ch f s).cores = s.cores := rfl
@[simp] theorem setCan_vmem (ch : Fin 2) (f : CanChan → CanChan) (s : State) : (setCan ch f s).vmem = s.vmem := rfl
@[simp] theorem setRec_pending (f : Recorder → Recorder) (s : State) : (setRec f s).pending = s.pending := rfl
@[simp] theorem setRec_drawn (f : Recorder → Recorder) (s : State) : (setRec f s).drawn = s.drawn := rfl
@[simp] theorem setRec_mod (f : Recorder → Recorder) (s : State) : (setRec f s).mod = s.mod := rfl
@[simp] theorem setRec_pwr (f : Recorder → Recorder) (s : State) : (setRec f s).pwr = s.pwr := rfl
@[simp] theorem setRec_vrc (f : Recorder → Recorder) (s : State) : (setRec f s).vrc = s.vrc := rfl
@[simp] theorem setRec_rot (f : Recorder → Recorder) (s : State) : (setRec f s).rot = s.rot := rfl
@[simp] theorem setRec_cys (f : Recorder → Recorder) (s : State) : (setRec f s).cys = s.cys := rfl
@[simp] theorem setRec_clk (f : Recorder → Recorder) (s : State) : (setRec f s).clk = s.clk := rfl
@[simp] theorem setRec_tim (f : Recorder → Recorder) (s : State) : (setRec f s).tim = s.tim := rfl
@[simp] theorem setRec_banks (f : Recorder → Recorder) (s : State) : (setRec f s).banks = s.banks := rfl
@[simp] theorem setRec_chans (f : Recorder → Recorder) (s : State) : (setRec f s).chans = s.chans := rfl
@[simp] theorem setRec_xn (f : Recorder → Recorder) (s : State) : (setRec f s).xn = s.xn := rfl
@[simp] theorem setRec_boot (f : Recorder → Recorder) (s : State) : (setRec f s).boot = s.boot := rfl
@[simp] theorem setRec_kiln (f : Recorder → Recorder) (s : State) : (setRec f s).kiln = s.kiln := rfl
@[simp] theorem setRec_twl (f : Recorder → Recorder) (s : State) : (setRec f s).twl = s.twl := rfl
@[simp] theorem setRec_lnc (f : Recorder → Recorder) (s : State) : (setRec f s).lnc = s.lnc := rfl
@[simp] theorem setRec_cpn (f : Recorder → Recorder) (s : State) : (setRec f s).cpn = s.cpn := rfl
@[simp] theorem setRec_cfd (f : Recorder → Recorder) (s : State) : (setRec f s).cfd = s.cfd := rfl
@[simp] theorem setRec_brg (f : Recorder → Recorder) (s : State) : (setRec f s).brg = s.brg := rfl
@[simp] theorem setRec_bw (f : Recorder → Recorder) (s : State) : (setRec f s).bw = s.bw := rfl
@[simp] theorem setRec_ints (f : Recorder → Recorder) (s : State) : (setRec f s).ints = s.ints := rfl
@[simp] theorem setRec_mems (f : Recorder → Recorder) (s : State) : (setRec f s).mems = s.mems := rfl
@[simp] theorem setRec_cores (f : Recorder → Recorder) (s : State) : (setRec f s).cores = s.cores := rfl
@[simp] theorem setRec_vmem (f : Recorder → Recorder) (s : State) : (setRec f s).vmem = s.vmem := rfl
@[simp] theorem setStart_pending (f : StartProgress → StartProgress) (s : State) : (setStart f s).pending = s.pending := rfl
@[simp] theorem setStart_drawn (f : StartProgress → StartProgress) (s : State) : (setStart f s).drawn = s.drawn := rfl
@[simp] theorem setStart_pwr (f : StartProgress → StartProgress) (s : State) : (setStart f s).pwr = s.pwr := rfl
@[simp] theorem setStart_vrc (f : StartProgress → StartProgress) (s : State) : (setStart f s).vrc = s.vrc := rfl
@[simp] theorem setStart_rot (f : StartProgress → StartProgress) (s : State) : (setStart f s).rot = s.rot := rfl
@[simp] theorem setStart_cys (f : StartProgress → StartProgress) (s : State) : (setStart f s).cys = s.cys := rfl
@[simp] theorem setStart_clk (f : StartProgress → StartProgress) (s : State) : (setStart f s).clk = s.clk := rfl
@[simp] theorem setStart_tim (f : StartProgress → StartProgress) (s : State) : (setStart f s).tim = s.tim := rfl
@[simp] theorem setStart_banks (f : StartProgress → StartProgress) (s : State) : (setStart f s).banks = s.banks := rfl
@[simp] theorem setStart_chans (f : StartProgress → StartProgress) (s : State) : (setStart f s).chans = s.chans := rfl
@[simp] theorem setStart_xn (f : StartProgress → StartProgress) (s : State) : (setStart f s).xn = s.xn := rfl
@[simp] theorem setStart_recd (f : StartProgress → StartProgress) (s : State) : (setStart f s).recd = s.recd := rfl
@[simp] theorem setStart_boot (f : StartProgress → StartProgress) (s : State) : (setStart f s).boot = s.boot := rfl
@[simp] theorem setStart_kiln (f : StartProgress → StartProgress) (s : State) : (setStart f s).kiln = s.kiln := rfl
@[simp] theorem setStart_twl (f : StartProgress → StartProgress) (s : State) : (setStart f s).twl = s.twl := rfl
@[simp] theorem setStart_lnc (f : StartProgress → StartProgress) (s : State) : (setStart f s).lnc = s.lnc := rfl
@[simp] theorem setStart_cpn (f : StartProgress → StartProgress) (s : State) : (setStart f s).cpn = s.cpn := rfl
@[simp] theorem setStart_cfd (f : StartProgress → StartProgress) (s : State) : (setStart f s).cfd = s.cfd := rfl
@[simp] theorem setStart_brg (f : StartProgress → StartProgress) (s : State) : (setStart f s).brg = s.brg := rfl
@[simp] theorem setStart_bw (f : StartProgress → StartProgress) (s : State) : (setStart f s).bw = s.bw := rfl
@[simp] theorem setStart_ints (f : StartProgress → StartProgress) (s : State) : (setStart f s).ints = s.ints := rfl
@[simp] theorem setStart_mems (f : StartProgress → StartProgress) (s : State) : (setStart f s).mems = s.mems := rfl
@[simp] theorem setStart_cores (f : StartProgress → StartProgress) (s : State) : (setStart f s).cores = s.cores := rfl
@[simp] theorem setStart_vmem (f : StartProgress → StartProgress) (s : State) : (setStart f s).vmem = s.vmem := rfl
@[simp] theorem setCore_pending (k : Fin 8) (f : Core → Core) (s : State) : (setCore k f s).pending = s.pending := rfl
@[simp] theorem setCore_drawn (k : Fin 8) (f : Core → Core) (s : State) : (setCore k f s).drawn = s.drawn := rfl
@[simp] theorem setCore_mod (k : Fin 8) (f : Core → Core) (s : State) : (setCore k f s).mod = s.mod := rfl
@[simp] theorem setCore_pwr (k : Fin 8) (f : Core → Core) (s : State) : (setCore k f s).pwr = s.pwr := rfl
@[simp] theorem setCore_vrc (k : Fin 8) (f : Core → Core) (s : State) : (setCore k f s).vrc = s.vrc := rfl
@[simp] theorem setCore_rot (k : Fin 8) (f : Core → Core) (s : State) : (setCore k f s).rot = s.rot := rfl
@[simp] theorem setCore_cys (k : Fin 8) (f : Core → Core) (s : State) : (setCore k f s).cys = s.cys := rfl
@[simp] theorem setCore_clk (k : Fin 8) (f : Core → Core) (s : State) : (setCore k f s).clk = s.clk := rfl
@[simp] theorem setCore_tim (k : Fin 8) (f : Core → Core) (s : State) : (setCore k f s).tim = s.tim := rfl
@[simp] theorem setCore_banks (k : Fin 8) (f : Core → Core) (s : State) : (setCore k f s).banks = s.banks := rfl
@[simp] theorem setCore_chans (k : Fin 8) (f : Core → Core) (s : State) : (setCore k f s).chans = s.chans := rfl
@[simp] theorem setCore_xn (k : Fin 8) (f : Core → Core) (s : State) : (setCore k f s).xn = s.xn := rfl
@[simp] theorem setCore_recd (k : Fin 8) (f : Core → Core) (s : State) : (setCore k f s).recd = s.recd := rfl
@[simp] theorem setCore_boot (k : Fin 8) (f : Core → Core) (s : State) : (setCore k f s).boot = s.boot := rfl
@[simp] theorem setCore_kiln (k : Fin 8) (f : Core → Core) (s : State) : (setCore k f s).kiln = s.kiln := rfl
@[simp] theorem setCore_twl (k : Fin 8) (f : Core → Core) (s : State) : (setCore k f s).twl = s.twl := rfl
@[simp] theorem setCore_lnc (k : Fin 8) (f : Core → Core) (s : State) : (setCore k f s).lnc = s.lnc := rfl
@[simp] theorem setCore_cpn (k : Fin 8) (f : Core → Core) (s : State) : (setCore k f s).cpn = s.cpn := rfl
@[simp] theorem setCore_cfd (k : Fin 8) (f : Core → Core) (s : State) : (setCore k f s).cfd = s.cfd := rfl
@[simp] theorem setCore_brg (k : Fin 8) (f : Core → Core) (s : State) : (setCore k f s).brg = s.brg := rfl
@[simp] theorem setCore_bw (k : Fin 8) (f : Core → Core) (s : State) : (setCore k f s).bw = s.bw := rfl
@[simp] theorem setCore_ints (k : Fin 8) (f : Core → Core) (s : State) : (setCore k f s).ints = s.ints := rfl
@[simp] theorem setCore_mems (k : Fin 8) (f : Core → Core) (s : State) : (setCore k f s).mems = s.mems := rfl
@[simp] theorem setCore_vmem (k : Fin 8) (f : Core → Core) (s : State) : (setCore k f s).vmem = s.vmem := rfl
@[simp] theorem setSess_pending (i : Fin 6) (f : SessionState → SessionState) (s : State) : (setSess i f s).pending = s.pending := rfl
@[simp] theorem setSess_drawn (i : Fin 6) (f : SessionState → SessionState) (s : State) : (setSess i f s).drawn = s.drawn := rfl
@[simp] theorem setSess_mod (i : Fin 6) (f : SessionState → SessionState) (s : State) : (setSess i f s).mod = s.mod := rfl
@[simp] theorem setSess_pwr (i : Fin 6) (f : SessionState → SessionState) (s : State) : (setSess i f s).pwr = s.pwr := rfl
@[simp] theorem setSess_vrc (i : Fin 6) (f : SessionState → SessionState) (s : State) : (setSess i f s).vrc = s.vrc := rfl
@[simp] theorem setSess_rot (i : Fin 6) (f : SessionState → SessionState) (s : State) : (setSess i f s).rot = s.rot := rfl
@[simp] theorem setSess_cys (i : Fin 6) (f : SessionState → SessionState) (s : State) : (setSess i f s).cys = s.cys := rfl
@[simp] theorem setSess_clk (i : Fin 6) (f : SessionState → SessionState) (s : State) : (setSess i f s).clk = s.clk := rfl
@[simp] theorem setSess_tim (i : Fin 6) (f : SessionState → SessionState) (s : State) : (setSess i f s).tim = s.tim := rfl
@[simp] theorem setSess_banks (i : Fin 6) (f : SessionState → SessionState) (s : State) : (setSess i f s).banks = s.banks := rfl
@[simp] theorem setSess_chans (i : Fin 6) (f : SessionState → SessionState) (s : State) : (setSess i f s).chans = s.chans := rfl
@[simp] theorem setSess_xn (i : Fin 6) (f : SessionState → SessionState) (s : State) : (setSess i f s).xn = s.xn := rfl
@[simp] theorem setSess_recd (i : Fin 6) (f : SessionState → SessionState) (s : State) : (setSess i f s).recd = s.recd := rfl
@[simp] theorem setSess_boot (i : Fin 6) (f : SessionState → SessionState) (s : State) : (setSess i f s).boot = s.boot := rfl
@[simp] theorem setSess_twl (i : Fin 6) (f : SessionState → SessionState) (s : State) : (setSess i f s).twl = s.twl := rfl
@[simp] theorem setSess_lnc (i : Fin 6) (f : SessionState → SessionState) (s : State) : (setSess i f s).lnc = s.lnc := rfl
@[simp] theorem setSess_cpn (i : Fin 6) (f : SessionState → SessionState) (s : State) : (setSess i f s).cpn = s.cpn := rfl
@[simp] theorem setSess_cfd (i : Fin 6) (f : SessionState → SessionState) (s : State) : (setSess i f s).cfd = s.cfd := rfl
@[simp] theorem setSess_brg (i : Fin 6) (f : SessionState → SessionState) (s : State) : (setSess i f s).brg = s.brg := rfl
@[simp] theorem setSess_bw (i : Fin 6) (f : SessionState → SessionState) (s : State) : (setSess i f s).bw = s.bw := rfl
@[simp] theorem setSess_ints (i : Fin 6) (f : SessionState → SessionState) (s : State) : (setSess i f s).ints = s.ints := rfl
@[simp] theorem setSess_mems (i : Fin 6) (f : SessionState → SessionState) (s : State) : (setSess i f s).mems = s.mems := rfl
@[simp] theorem setSess_cores (i : Fin 6) (f : SessionState → SessionState) (s : State) : (setSess i f s).cores = s.cores := rfl
@[simp] theorem setSess_vmem (i : Fin 6) (f : SessionState → SessionState) (s : State) : (setSess i f s).vmem = s.vmem := rfl

@[simp] theorem deliver_vrc_mode (n : Nat) (s : State) : (deliver n s).vrc.mode = s.vrc.mode := by
  unfold deliver; split <;> rfl
@[simp] theorem raise_vrc_mode (n : Nat) (s : State) : (raise n s).vrc.mode = s.vrc.mode := by
  unfold raise; split; · rfl
  · dsimp only; split
    · rw [deliver_vrc_mode]
    · rfl
@[simp] theorem deliver_vrc_subst (n : Nat) (s : State) : (deliver n s).vrc.subst = s.vrc.subst := by
  unfold deliver; split <;> rfl
@[simp] theorem raise_vrc_subst (n : Nat) (s : State) : (raise n s).vrc.subst = s.vrc.subst := by
  unfold raise; split; · rfl
  · dsimp only; split
    · rw [deliver_vrc_subst]
    · rfl
@[simp] theorem deliver_vrc_svc (n : Nat) (s : State) : (deliver n s).vrc.svc = s.vrc.svc := by
  unfold deliver; split <;> rfl
@[simp] theorem raise_vrc_svc (n : Nat) (s : State) : (raise n s).vrc.svc = s.vrc.svc := by
  unfold raise; split; · rfl
  · dsimp only; split
    · rw [deliver_vrc_svc]
    · rfl
@[simp] theorem setVote_vrc_svc (m : VoteMode) (b : Bool) (c : Nat) (s : State) :
    (setVote m b c s).vrc.svc = s.vrc.svc := by unfold setVote; split <;> simp
@[simp] theorem deliver_vrc_aref (n : Nat) (s : State) : (deliver n s).vrc.aref = s.vrc.aref := by
  unfold deliver; split <;> rfl
@[simp] theorem raise_vrc_aref (n : Nat) (s : State) : (raise n s).vrc.aref = s.vrc.aref := by
  unfold raise; split; · rfl
  · dsimp only; split
    · rw [deliver_vrc_aref]
    · rfl
@[simp] theorem setVote_vrc_aref (m : VoteMode) (b : Bool) (c : Nat) (s : State) :
    (setVote m b c s).vrc.aref = s.vrc.aref := by unfold setVote; split <;> simp
@[simp] theorem deliver_vrc_lanes (n : Nat) (s : State) : (deliver n s).vrc.lanes = s.vrc.lanes := by
  unfold deliver; split <;> rfl
@[simp] theorem raise_vrc_lanes (n : Nat) (s : State) : (raise n s).vrc.lanes = s.vrc.lanes := by
  unfold raise; split; · rfl
  · dsimp only; split
    · rw [deliver_vrc_lanes]
    · rfl
@[simp] theorem setVote_vrc_lanes (m : VoteMode) (b : Bool) (c : Nat) (s : State) :
    (setVote m b c s).vrc.lanes = s.vrc.lanes := by unfold setVote; split <;> simp
@[simp] theorem deliver_vrc_exGroups (n : Nat) (s : State) : (deliver n s).vrc.exGroups = s.vrc.exGroups := by
  unfold deliver; split <;> rfl
@[simp] theorem raise_vrc_exGroups (n : Nat) (s : State) : (raise n s).vrc.exGroups = s.vrc.exGroups := by
  unfold raise; split; · rfl
  · dsimp only; split
    · rw [deliver_vrc_exGroups]
    · rfl
@[simp] theorem setVote_vrc_exGroups (m : VoteMode) (b : Bool) (c : Nat) (s : State) :
    (setVote m b c s).vrc.exGroups = s.vrc.exGroups := by unfold setVote; split <;> simp
@[simp] theorem deliver_vrc_exNoMaj (n : Nat) (s : State) : (deliver n s).vrc.exNoMaj = s.vrc.exNoMaj := by
  unfold deliver; split <;> rfl
@[simp] theorem raise_vrc_exNoMaj (n : Nat) (s : State) : (raise n s).vrc.exNoMaj = s.vrc.exNoMaj := by
  unfold raise; split; · rfl
  · dsimp only; split
    · rw [deliver_vrc_exNoMaj]
    · rfl
@[simp] theorem setVote_vrc_exNoMaj (m : VoteMode) (b : Bool) (c : Nat) (s : State) :
    (setVote m b c s).vrc.exNoMaj = s.vrc.exNoMaj := by unfold setVote; split <;> simp
@[simp] theorem deliver_vrc_exCause (n : Nat) (s : State) : (deliver n s).vrc.exCause = s.vrc.exCause := by
  unfold deliver; split <;> rfl
@[simp] theorem raise_vrc_exCause (n : Nat) (s : State) : (raise n s).vrc.exCause = s.vrc.exCause := by
  unfold raise; split; · rfl
  · dsimp only; split
    · rw [deliver_vrc_exCause]
    · rfl
@[simp] theorem setVote_vrc_exCause (m : VoteMode) (b : Bool) (c : Nat) (s : State) :
    (setVote m b c s).vrc.exCause = s.vrc.exCause := by unfold setVote; split <;> simp
@[simp] theorem deliver_vrc_exLanes (n : Nat) (s : State) : (deliver n s).vrc.exLanes = s.vrc.exLanes := by
  unfold deliver; split <;> rfl
@[simp] theorem raise_vrc_exLanes (n : Nat) (s : State) : (raise n s).vrc.exLanes = s.vrc.exLanes := by
  unfold raise; split; · rfl
  · dsimp only; split
    · rw [deliver_vrc_exLanes]
    · rfl
@[simp] theorem setVote_vrc_exLanes (m : VoteMode) (b : Bool) (c : Nat) (s : State) :
    (setVote m b c s).vrc.exLanes = s.vrc.exLanes := by unfold setVote; split <;> simp
@[simp] theorem deliver_vrc_exLane (n : Nat) (s : State) : (deliver n s).vrc.exLane = s.vrc.exLane := by
  unfold deliver; split <;> rfl
@[simp] theorem raise_vrc_exLane (n : Nat) (s : State) : (raise n s).vrc.exLane = s.vrc.exLane := by
  unfold raise; split; · rfl
  · dsimp only; split
    · rw [deliver_vrc_exLane]
    · rfl
@[simp] theorem setVote_vrc_exLane (m : VoteMode) (b : Bool) (c : Nat) (s : State) :
    (setVote m b c s).vrc.exLane = s.vrc.exLane := by unfold setVote; split <;> simp
@[simp] theorem deliver_vrc_exFrc (n : Nat) (s : State) : (deliver n s).vrc.exFrc = s.vrc.exFrc := by
  unfold deliver; split <;> rfl
@[simp] theorem raise_vrc_exFrc (n : Nat) (s : State) : (raise n s).vrc.exFrc = s.vrc.exFrc := by
  unfold raise; split; · rfl
  · dsimp only; split
    · rw [deliver_vrc_exFrc]
    · rfl
@[simp] theorem setVote_vrc_exFrc (m : VoteMode) (b : Bool) (c : Nat) (s : State) :
    (setVote m b c s).vrc.exFrc = s.vrc.exFrc := by unfold setVote; split <;> simp
@[simp] theorem deliver_vrc_exAddr (n : Nat) (s : State) : (deliver n s).vrc.exAddr = s.vrc.exAddr := by
  unfold deliver; split <;> rfl
@[simp] theorem raise_vrc_exAddr (n : Nat) (s : State) : (raise n s).vrc.exAddr = s.vrc.exAddr := by
  unfold raise; split; · rfl
  · dsimp only; split
    · rw [deliver_vrc_exAddr]
    · rfl
@[simp] theorem setVote_vrc_exAddr (m : VoteMode) (b : Bool) (c : Nat) (s : State) :
    (setVote m b c s).vrc.exAddr = s.vrc.exAddr := by unfold setVote; split <;> simp
@[simp] theorem deliver_vrc_exAttr (n : Nat) (s : State) : (deliver n s).vrc.exAttr = s.vrc.exAttr := by
  unfold deliver; split <;> rfl
@[simp] theorem raise_vrc_exAttr (n : Nat) (s : State) : (raise n s).vrc.exAttr = s.vrc.exAttr := by
  unfold raise; split; · rfl
  · dsimp only; split
    · rw [deliver_vrc_exAttr]
    · rfl
@[simp] theorem setVote_vrc_exAttr (m : VoteMode) (b : Bool) (c : Nat) (s : State) :
    (setVote m b c s).vrc.exAttr = s.vrc.exAttr := by unfold setVote; split <;> simp
@[simp] theorem deliver_vrc_injStartOk (n : Nat) (s : State) : (deliver n s).vrc.injStartOk = s.vrc.injStartOk := by
  unfold deliver; split <;> rfl
@[simp] theorem raise_vrc_injStartOk (n : Nat) (s : State) : (raise n s).vrc.injStartOk = s.vrc.injStartOk := by
  unfold raise; split; · rfl
  · dsimp only; split
    · rw [deliver_vrc_injStartOk]
    · rfl
@[simp] theorem setVote_vrc_injStartOk (m : VoteMode) (b : Bool) (c : Nat) (s : State) :
    (setVote m b c s).vrc.injStartOk = s.vrc.injStartOk := by unfold setVote; split <;> simp
@[simp] theorem deliver_vrc_injBisqOk (n : Nat) (s : State) : (deliver n s).vrc.injBisqOk = s.vrc.injBisqOk := by
  unfold deliver; split <;> rfl
@[simp] theorem raise_vrc_injBisqOk (n : Nat) (s : State) : (raise n s).vrc.injBisqOk = s.vrc.injBisqOk := by
  unfold raise; split; · rfl
  · dsimp only; split
    · rw [deliver_vrc_injBisqOk]
    · rfl
@[simp] theorem setVote_vrc_injBisqOk (m : VoteMode) (b : Bool) (c : Nat) (s : State) :
    (setVote m b c s).vrc.injBisqOk = s.vrc.injBisqOk := by unfold setVote; split <;> simp
@[simp] theorem deliver_vrc_injBisqLane (n : Nat) (s : State) : (deliver n s).vrc.injBisqLane = s.vrc.injBisqLane := by
  unfold deliver; split <;> rfl
@[simp] theorem raise_vrc_injBisqLane (n : Nat) (s : State) : (raise n s).vrc.injBisqLane = s.vrc.injBisqLane := by
  unfold raise; split; · rfl
  · dsimp only; split
    · rw [deliver_vrc_injBisqLane]
    · rfl
@[simp] theorem setVote_vrc_injBisqLane (m : VoteMode) (b : Bool) (c : Nat) (s : State) :
    (setVote m b c s).vrc.injBisqLane = s.vrc.injBisqLane := by unfold setVote; split <;> simp
@[simp] theorem deliver_vrc_injGroup (n : Nat) (s : State) : (deliver n s).vrc.injGroup = s.vrc.injGroup := by
  unfold deliver; split <;> rfl
@[simp] theorem raise_vrc_injGroup (n : Nat) (s : State) : (raise n s).vrc.injGroup = s.vrc.injGroup := by
  unfold raise; split; · rfl
  · dsimp only; split
    · rw [deliver_vrc_injGroup]
    · rfl
@[simp] theorem setVote_vrc_injGroup (m : VoteMode) (b : Bool) (c : Nat) (s : State) :
    (setVote m b c s).vrc.injGroup = s.vrc.injGroup := by unfold setVote; split <;> simp
@[simp] theorem deliver_vrc_injKind (n : Nat) (s : State) : (deliver n s).vrc.injKind = s.vrc.injKind := by
  unfold deliver; split <;> rfl
@[simp] theorem raise_vrc_injKind (n : Nat) (s : State) : (raise n s).vrc.injKind = s.vrc.injKind := by
  unfold raise; split; · rfl
  · dsimp only; split
    · rw [deliver_vrc_injKind]
    · rfl
@[simp] theorem setVote_vrc_injKind (m : VoteMode) (b : Bool) (c : Nat) (s : State) :
    (setVote m b c s).vrc.injKind = s.vrc.injKind := by unfold setVote; split <;> simp
@[simp] theorem deliver_vrc_injPair (n : Nat) (s : State) : (deliver n s).vrc.injPair = s.vrc.injPair := by
  unfold deliver; split <;> rfl
@[simp] theorem raise_vrc_injPair (n : Nat) (s : State) : (raise n s).vrc.injPair = s.vrc.injPair := by
  unfold raise; split; · rfl
  · dsimp only; split
    · rw [deliver_vrc_injPair]
    · rfl
@[simp] theorem setVote_vrc_injPair (m : VoteMode) (b : Bool) (c : Nat) (s : State) :
    (setVote m b c s).vrc.injPair = s.vrc.injPair := by unfold setVote; split <;> simp
@[simp] theorem deliver_vrc_injAtStart (n : Nat) (s : State) : (deliver n s).vrc.injAtStart = s.vrc.injAtStart := by
  unfold deliver; split <;> rfl
@[simp] theorem raise_vrc_injAtStart (n : Nat) (s : State) : (raise n s).vrc.injAtStart = s.vrc.injAtStart := by
  unfold raise; split; · rfl
  · dsimp only; split
    · rw [deliver_vrc_injAtStart]
    · rfl
@[simp] theorem setVote_vrc_injAtStart (m : VoteMode) (b : Bool) (c : Nat) (s : State) :
    (setVote m b c s).vrc.injAtStart = s.vrc.injAtStart := by unfold setVote; split <;> simp
@[simp] theorem deliver_vrc_injAtBisq (n : Nat) (s : State) : (deliver n s).vrc.injAtBisq = s.vrc.injAtBisq := by
  unfold deliver; split <;> rfl
@[simp] theorem raise_vrc_injAtBisq (n : Nat) (s : State) : (raise n s).vrc.injAtBisq = s.vrc.injAtBisq := by
  unfold raise; split; · rfl
  · dsimp only; split
    · rw [deliver_vrc_injAtBisq]
    · rfl
@[simp] theorem setVote_vrc_injAtBisq (m : VoteMode) (b : Bool) (c : Nat) (s : State) :
    (setVote m b c s).vrc.injAtBisq = s.vrc.injAtBisq := by unfold setVote; split <;> simp
@[simp] theorem deliver_vrc_xcount (n : Nat) (s : State) : (deliver n s).vrc.xcount = s.vrc.xcount := by
  unfold deliver; split <;> rfl
@[simp] theorem raise_vrc_xcount (n : Nat) (s : State) : (raise n s).vrc.xcount = s.vrc.xcount := by
  unfold raise; split; · rfl
  · dsimp only; split
    · rw [deliver_vrc_xcount]
    · rfl
@[simp] theorem setVote_vrc_xcount (m : VoteMode) (b : Bool) (c : Nat) (s : State) :
    (setVote m b c s).vrc.xcount = s.vrc.xcount := by unfold setVote; split <;> simp
@[simp] theorem deliver_vrc_wideRej (n : Nat) (s : State) : (deliver n s).vrc.wideRej = s.vrc.wideRej := by
  unfold deliver; split <;> rfl
@[simp] theorem raise_vrc_wideRej (n : Nat) (s : State) : (raise n s).vrc.wideRej = s.vrc.wideRej := by
  unfold raise; split; · rfl
  · dsimp only; split
    · rw [deliver_vrc_wideRej]
    · rfl
@[simp] theorem setVote_vrc_wideRej (m : VoteMode) (b : Bool) (c : Nat) (s : State) :
    (setVote m b c s).vrc.wideRej = s.vrc.wideRej := by unfold setVote; split <;> simp
@[simp] theorem deliver_vrc_wideWritten (n : Nat) (s : State) : (deliver n s).vrc.wideWritten = s.vrc.wideWritten := by
  unfold deliver; split <;> rfl
@[simp] theorem raise_vrc_wideWritten (n : Nat) (s : State) : (raise n s).vrc.wideWritten = s.vrc.wideWritten := by
  unfold raise; split; · rfl
  · dsimp only; split
    · rw [deliver_vrc_wideWritten]
    · rfl
@[simp] theorem setVote_vrc_wideWritten (m : VoteMode) (b : Bool) (c : Nat) (s : State) :
    (setVote m b c s).vrc.wideWritten = s.vrc.wideWritten := by unfold setVote; split <;> simp
@[simp] theorem deliver_vrc_owners (n : Nat) (s : State) : (deliver n s).vrc.owners = s.vrc.owners := by
  unfold deliver; split <;> rfl
@[simp] theorem raise_vrc_owners (n : Nat) (s : State) : (raise n s).vrc.owners = s.vrc.owners := by
  unfold raise; split; · rfl
  · dsimp only; split
    · rw [deliver_vrc_owners]
    · rfl
@[simp] theorem setVote_vrc_owners (m : VoteMode) (b : Bool) (c : Nat) (s : State) :
    (setVote m b c s).vrc.owners = s.vrc.owners := by unfold setVote; split <;> simp
@[simp] theorem deliver_vrc_burst (n : Nat) (s : State) : (deliver n s).vrc.burst = s.vrc.burst := by
  unfold deliver; split <;> rfl
@[simp] theorem raise_vrc_burst (n : Nat) (s : State) : (raise n s).vrc.burst = s.vrc.burst := by
  unfold raise; split; · rfl
  · dsimp only; split
    · rw [deliver_vrc_burst]
    · rfl
@[simp] theorem setVote_vrc_burst (m : VoteMode) (b : Bool) (c : Nat) (s : State) :
    (setVote m b c s).vrc.burst = s.vrc.burst := by unfold setVote; split <;> simp
@[simp] theorem deliver_vrc_responses (n : Nat) (s : State) : (deliver n s).vrc.responses = s.vrc.responses := by
  unfold deliver; split <;> rfl
@[simp] theorem raise_vrc_responses (n : Nat) (s : State) : (raise n s).vrc.responses = s.vrc.responses := by
  unfold raise; split; · rfl
  · dsimp only; split
    · rw [deliver_vrc_responses]
    · rfl
@[simp] theorem setVote_vrc_responses (m : VoteMode) (b : Bool) (c : Nat) (s : State) :
    (setVote m b c s).vrc.responses = s.vrc.responses := by unfold setVote; split <;> simp
@[simp] theorem deliver_vrc_bufResv (n : Nat) (s : State) : (deliver n s).vrc.bufResv = s.vrc.bufResv := by
  unfold deliver; split <;> rfl
@[simp] theorem raise_vrc_bufResv (n : Nat) (s : State) : (raise n s).vrc.bufResv = s.vrc.bufResv := by
  unfold raise; split; · rfl
  · dsimp only; split
    · rw [deliver_vrc_bufResv]
    · rfl
@[simp] theorem setVote_vrc_bufResv (m : VoteMode) (b : Bool) (c : Nat) (s : State) :
    (setVote m b c s).vrc.bufResv = s.vrc.bufResv := by unfold setVote; split <;> simp
@[simp] theorem deliver_vrc_actSeq (n : Nat) (s : State) : (deliver n s).vrc.actSeq = s.vrc.actSeq := by
  unfold deliver; split <;> rfl
@[simp] theorem raise_vrc_actSeq (n : Nat) (s : State) : (raise n s).vrc.actSeq = s.vrc.actSeq := by
  unfold raise; split; · rfl
  · dsimp only; split
    · rw [deliver_vrc_actSeq]
    · rfl
@[simp] theorem setVote_vrc_actSeq (m : VoteMode) (b : Bool) (c : Nat) (s : State) :
    (setVote m b c s).vrc.actSeq = s.vrc.actSeq := by unfold setVote; split <;> simp
@[simp] theorem setVote_vrc_mode (m : VoteMode) (b : Bool) (c : Nat) (s : State) : (setVote m b c s).vrc.mode = m := by
  unfold setVote; split
  · rename_i h; exact h.1
  · simp
@[simp] theorem setVote_vrc_subst (m : VoteMode) (b : Bool) (c : Nat) (s : State) : (setVote m b c s).vrc.subst = b := by
  unfold setVote; split
  · rename_i h; exact h.2
  · simp
@[simp] theorem record_twl_delta (src code p0 p1 p2 : Nat) (s : State) :
    (record src code p0 p1 p2 s).twl.delta = s.twl.delta := by unfold record; dsimp only; split <;> rfl
@[simp] theorem record_twl_pref (src code p0 p1 p2 : Nat) (s : State) :
    (record src code p0 p1 p2 s).twl.pref = s.twl.pref := by unfold record; dsimp only; split <;> rfl
@[simp] theorem record_twl_en (src code p0 p1 p2 : Nat) (s : State) :
    (record src code p0 p1 p2 s).twl.en = s.twl.en := by unfold record; dsimp only; split <;> rfl
@[simp] theorem record_twl_role (src code p0 p1 p2 : Nat) (s : State) :
    (record src code p0 p1 p2 s).twl.role = s.twl.role := by unfold record; dsimp only; split <;> rfl
@[simp] theorem record_twl_peerRole (src code p0 p1 p2 : Nat) (s : State) :
    (record src code p0 p1 p2 s).twl.peerRole = s.twl.peerRole := by unfold record; dsimp only; split <;> rfl
@[simp] theorem record_twl_peerState (src code p0 p1 p2 : Nat) (s : State) :
    (record src code p0 p1 p2 s).twl.peerState = s.twl.peerState := by unfold record; dsimp only; split <;> rfl
@[simp] theorem record_twl_peerOlc (src code p0 p1 p2 : Nat) (s : State) :
    (record src code p0 p1 p2 s).twl.peerOlc = s.twl.peerOlc := by unfold record; dsimp only; split <;> rfl
@[simp] theorem record_twl_peerCause (src code p0 p1 p2 : Nat) (s : State) :
    (record src code p0 p1 p2 s).twl.peerCause = s.twl.peerCause := by unfold record; dsimp only; split <;> rfl
@[simp] theorem record_twl_peerLost (src code p0 p1 p2 : Nat) (s : State) :
    (record src code p0 p1 p2 s).twl.peerLost = s.twl.peerLost := by unfold record; dsimp only; split <;> rfl
@[simp] theorem record_twl_link (src code p0 p1 p2 : Nat) (s : State) :
    (record src code p0 p1 p2 s).twl.link = s.twl.link := by unfold record; dsimp only; split <;> rfl
@[simp] theorem record_twl_pulse (src code p0 p1 p2 : Nat) (s : State) :
    (record src code p0 p1 p2 s).twl.pulse = s.twl.pulse := by unfold record; dsimp only; split <;> rfl
@[simp] theorem record_twl_pulseErrors (src code p0 p1 p2 : Nat) (s : State) :
    (record src code p0 p1 p2 s).twl.pulseErrors = s.twl.pulseErrors := by unfold record; dsimp only; split <;> rfl
@[simp] theorem record_twl_crcErrors (src code p0 p1 p2 : Nat) (s : State) :
    (record src code p0 p1 p2 s).twl.crcErrors = s.twl.crcErrors := by unfold record; dsimp only; split <;> rfl
@[simp] theorem record_twl_lastBeat (src code p0 p1 p2 : Nat) (s : State) :
    (record src code p0 p1 p2 s).twl.lastBeat = s.twl.lastBeat := by unfold record; dsimp only; split <;> rfl
@[simp] theorem record_twl_release (src code p0 p1 p2 : Nat) (s : State) :
    (record src code p0 p1 p2 s).twl.release = s.twl.release := by unfold record; dsimp only; split <;> rfl
@[simp] theorem record_twl_tookNoted (src code p0 p1 p2 : Nat) (s : State) :
    (record src code p0 p1 p2 s).twl.tookNoted = s.twl.tookNoted := by unfold record; dsimp only; split <;> rfl
@[simp] theorem record_twl_releaseAtCommit (src code p0 p1 p2 : Nat) (s : State) :
    (record src code p0 p1 p2 s).twl.releaseAtCommit = s.twl.releaseAtCommit := by unfold record; dsimp only; split <;> rfl
@[simp] theorem record_twl_twrUntil (src code p0 p1 p2 : Nat) (s : State) :
    (record src code p0 p1 p2 s).twl.twrUntil = s.twl.twrUntil := by unfold record; dsimp only; split <;> rfl
@[simp] theorem record_twl_gridTo (src code p0 p1 p2 : Nat) (s : State) :
    (record src code p0 p1 p2 s).twl.gridTo = s.twl.gridTo := by unfold record; dsimp only; split <;> rfl
@[simp] theorem record_twl_fail (src code p0 p1 p2 : Nat) (s : State) :
    (record src code p0 p1 p2 s).twl.fail = s.twl.fail := by unfold record; dsimp only; split <;> rfl
@[simp] theorem record_twl_phase (src code p0 p1 p2 : Nat) (s : State) :
    (record src code p0 p1 p2 s).twl.phase = s.twl.phase := by unfold record; dsimp only; split <;> rfl
@[simp] theorem record_twl_pages (src code p0 p1 p2 : Nat) (s : State) :
    (record src code p0 p1 p2 s).twl.pages = s.twl.pages := by unfold record; dsimp only; split <;> rfl
@[simp] theorem record_twl_started (src code p0 p1 p2 : Nat) (s : State) :
    (record src code p0 p1 p2 s).twl.started = s.twl.started := by unfold record; dsimp only; split <;> rfl
@[simp] theorem record_twl_copied (src code p0 p1 p2 : Nat) (s : State) :
    (record src code p0 p1 p2 s).twl.copied = s.twl.copied := by unfold record; dsimp only; split <;> rfl
@[simp] theorem record_twl_deferred (src code p0 p1 p2 : Nat) (s : State) :
    (record src code p0 p1 p2 s).twl.deferred = s.twl.deferred := by unfold record; dsimp only; split <;> rfl
@[simp] theorem record_twl_differ (src code p0 p1 p2 : Nat) (s : State) :
    (record src code p0 p1 p2 s).twl.differ = s.twl.differ := by unfold record; dsimp only; split <;> rfl
@[simp] theorem record_twl_latency (src code p0 p1 p2 : Nat) (s : State) :
    (record src code p0 p1 p2 s).twl.latency = s.twl.latency := by unfold record; dsimp only; split <;> rfl
@[simp] theorem record_twl_retry (src code p0 p1 p2 : Nat) (s : State) :
    (record src code p0 p1 p2 s).twl.retry = s.twl.retry := by unfold record; dsimp only; split <;> rfl
@[simp] theorem record_twl_joinTick (src code p0 p1 p2 : Nat) (s : State) :
    (record src code p0 p1 p2 s).twl.joinTick = s.twl.joinTick := by unfold record; dsimp only; split <;> rfl
@[simp] theorem record_twl_toCopy (src code p0 p1 p2 : Nat) (s : State) :
    (record src code p0 p1 p2 s).twl.toCopy = s.twl.toCopy := by unfold record; dsimp only; split <;> rfl
@[simp] theorem record_twl_fwd (src code p0 p1 p2 : Nat) (s : State) :
    (record src code p0 p1 p2 s).twl.fwd = s.twl.fwd := by unfold record; dsimp only; split <;> rfl
@[simp] theorem record_twl_fwdHold (src code p0 p1 p2 : Nat) (s : State) :
    (record src code p0 p1 p2 s).twl.fwdHold = s.twl.fwdHold := by unfold record; dsimp only; split <;> rfl
@[simp] theorem record_twl_fwdSub (src code p0 p1 p2 : Nat) (s : State) :
    (record src code p0 p1 p2 s).twl.fwdSub = s.twl.fwdSub := by unfold record; dsimp only; split <;> rfl
@[simp] theorem record_twl_shared (src code p0 p1 p2 : Nat) (s : State) :
    (record src code p0 p1 p2 s).twl.shared = s.twl.shared := by unfold record; dsimp only; split <;> rfl
@[simp] theorem record_twl_ownChecks (src code p0 p1 p2 : Nat) (s : State) :
    (record src code p0 p1 p2 s).twl.ownChecks = s.twl.ownChecks := by unfold record; dsimp only; split <;> rfl
@[simp] theorem record_twl_peerChecks (src code p0 p1 p2 : Nat) (s : State) :
    (record src code p0 p1 p2 s).twl.peerChecks = s.twl.peerChecks := by unfold record; dsimp only; split <;> rfl
@[simp] theorem record_twl_inputs (src code p0 p1 p2 : Nat) (s : State) :
    (record src code p0 p1 p2 s).twl.inputs = s.twl.inputs := by unfold record; dsimp only; split <;> rfl
@[simp] theorem record_twl_divergedAt (src code p0 p1 p2 : Nat) (s : State) :
    (record src code p0 p1 p2 s).twl.divergedAt = s.twl.divergedAt := by unfold record; dsimp only; split <;> rfl
@[simp] theorem record_twl_diverges (src code p0 p1 p2 : Nat) (s : State) :
    (record src code p0 p1 p2 s).twl.diverges = s.twl.diverges := by unfold record; dsimp only; split <;> rfl
@[simp] theorem record_twl_resetDue (src code p0 p1 p2 : Nat) (s : State) :
    (record src code p0 p1 p2 s).twl.resetDue = s.twl.resetDue := by unfold record; dsimp only; split <;> rfl
@[simp] theorem record_twl_takeovers (src code p0 p1 p2 : Nat) (s : State) :
    (record src code p0 p1 p2 s).twl.takeovers = s.twl.takeovers := by unfold record; dsimp only; split <;> rfl
@[simp] theorem record_twl_revertAt (src code p0 p1 p2 : Nat) (s : State) :
    (record src code p0 p1 p2 s).twl.revertAt = s.twl.revertAt := by unfold record; dsimp only; split <;> rfl
@[simp] theorem record_twl_handover (src code p0 p1 p2 : Nat) (s : State) :
    (record src code p0 p1 p2 s).twl.handover = s.twl.handover := by unfold record; dsimp only; split <;> rfl
@[simp] theorem record_twl_handoverAcked (src code p0 p1 p2 : Nat) (s : State) :
    (record src code p0 p1 p2 s).twl.handoverAcked = s.twl.handoverAcked := by unfold record; dsimp only; split <;> rfl
@[simp] theorem record_twl_olcTick (src code p0 p1 p2 : Nat) (s : State) :
    (record src code p0 p1 p2 s).twl.olcTick = s.twl.olcTick := by unfold record; dsimp only; split <;> rfl
@[simp] theorem record_twl_staging (src code p0 p1 p2 : Nat) (s : State) :
    (record src code p0 p1 p2 s).twl.staging = s.twl.staging := by unfold record; dsimp only; split <;> rfl
@[simp] theorem record_twl_craze (src code p0 p1 p2 : Nat) (s : State) :
    (record src code p0 p1 p2 s).twl.craze = s.twl.craze := by unfold record; dsimp only; split <;> rfl
@[simp] theorem record_twl_peerCraze (src code p0 p1 p2 : Nat) (s : State) :
    (record src code p0 p1 p2 s).twl.peerCraze = s.twl.peerCraze := by unfold record; dsimp only; split <;> rfl
@[simp] theorem record_twl_beats (src code p0 p1 p2 : Nat) (s : State) :
    (record src code p0 p1 p2 s).twl.beats = s.twl.beats := by unfold record; dsimp only; split <;> rfl
@[simp] theorem record_twl_seq (src code p0 p1 p2 : Nat) (s : State) :
    (record src code p0 p1 p2 s).twl.seq = s.twl.seq := by unfold record; dsimp only; split <;> rfl
@[simp] theorem record_twl_lastTx (src code p0 p1 p2 : Nat) (s : State) :
    (record src code p0 p1 p2 s).twl.lastTx = s.twl.lastTx := by unfold record; dsimp only; split <;> rfl
@[simp] theorem record_twl_sentSteps (src code p0 p1 p2 : Nat) (s : State) :
    (record src code p0 p1 p2 s).twl.sentSteps = s.twl.sentSteps := by unfold record; dsimp only; split <;> rfl
@[simp] theorem record_twl_activeEb (src code p0 p1 p2 : Nat) (s : State) :
    (record src code p0 p1 p2 s).twl.activeEb = s.twl.activeEb := by unfold record; dsimp only; split <;> rfl
@[simp] theorem record_recd (src code p0 p1 p2 : Nat) (s : State) :
    (record src code p0 p1 p2 s).recd = (submitEvent s.recd src 10 code p0 p1 p2).1 := by
  unfold record; dsimp only; split <;> rfl
@[simp] theorem setModState_mod_command (m : ModState) (c : Nat) (s : State) :
    (setModState m c s).mod.command = s.mod.command := by unfold setModState; split <;> simp
@[simp] theorem setModState_mod_start (m : ModState) (c : Nat) (s : State) :
    (setModState m c s).mod.start = s.mod.start := by unfold setModState; split <;> simp
@[simp] theorem setModState_mod_product (m : ModState) (c : Nat) (s : State) :
    (setModState m c s).mod.product = s.mod.product := by unfold setModState; split <;> simp
@[simp] theorem setModState_mod_issue (m : ModState) (c : Nat) (s : State) :
    (setModState m c s).mod.issue = s.mod.issue := by unfold setModState; split <;> simp
@[simp] theorem setModState_mod_state (m : ModState) (c : Nat) (s : State) : (setModState m c s).mod.state = m := by
  unfold setModState; split
  · assumption
  · simp

theorem vmod_get {α : Type} {n : Nat} (v : Vector α n) (i j : Fin n) (f : α → α) :
    (vmod v i f)[j] = if j = i then f v[j] else v[j] := by
  unfold vmod
  simp only [Fin.getElem_fin, Vector.getElem_set, Fin.ext_iff]
  by_cases h : i.val = j.val
  · simp [h]
  · simp [h, Ne.symm h]
theorem vmod_self {α : Type} {n : Nat} (v : Vector α n) (i : Fin n) (f : α → α) : (vmod v i f)[i] = f v[i] := by
  rw [vmod_get, if_pos rfl]
@[simp] theorem vmod_self_val {α : Type} {n : Nat} (v : Vector α n) (i : Fin n) (f : α → α) :
    (vmod v i f)[i.val] = f v[i.val] := vmod_self v i f
@[simp] theorem vmod_other_val {α : Type} {n : Nat} (v : Vector α n) (i j : Fin n) (f : α → α) (h : j ≠ i) : (vmod v i f)[j.val] = v[j.val] := by
  have := vmod_get v i j f; rw [if_neg h] at this; exact this
theorem vmod_other {α : Type} {n : Nat} (v : Vector α n) (i j : Fin n) (f : α → α) (h : j ≠ i) : (vmod v i f)[j] = v[j] := by
  rw [vmod_get, if_neg h]

theorem putBit_get {w : Nat} (v : BitVec w) (n m : Nat) (h : n < w) : (putBit v n true).getLsbD m = (v.getLsbD m || decide (m = n)) := by
  simp only [putBit, if_true, BitVec.getLsbD_or]
  congr 1
  rw [BitVec.getLsbD_ofNat]
  simp only [Nat.testBit_two_pow]
  by_cases hm : n = m
  · subst hm; simp [h]
  · simp [hm, Ne.symm hm]

theorem intBlock_lt {n : Nat} {k : Fin 11} {b : Nat} (h : intBlock n = some (k, b)) : b < 32 := by
  unfold intBlock at h
  repeat' (split at h)
  all_goals first | (simp at h; done) | (simp only [Option.some.injEq, Prod.mk.injEq] at h; omega)

theorem raise_ints (n : Nat) (s : State) : (raise n s).ints = match intBlock n with
    | some (k, b) => vmod s.ints k (fun r => { r with stat := putBit r.stat b true })
    | none => s.ints := by
  unfold raise
  split
  · rename_i h; simp [h]
  · rename_i k b h
    simp only [h]
    split <;> simp

@[simp] theorem raise_asserted (n : Nat) (s : State) (h : 32 ≤ n ∧ n ≤ 319) : Asserted n (raise n s).ints := by
  unfold Asserted
  rw [raise_ints]
  cases hq : intBlock n with
  | none =>
    exfalso
    unfold intBlock at hq
    split at hq
    · omega
    · repeat' (split at hq)
      all_goals simp at hq
  | some x =>
    obtain ⟨k, b⟩ := x
    simp only [vmod_self]
    rw [putBit_get _ _ _ (intBlock_lt hq)]
    simp

theorem raise_asserted_of (n m : Nat) (s : State) (h : Asserted m s.ints) : Asserted m (raise n s).ints := by
  unfold Asserted at *
  rw [raise_ints]
  cases hm : intBlock m with
  | none => rw [hm] at h; exact h
  | some y =>
    rw [hm] at h
    obtain ⟨j, c⟩ := y
    dsimp only at h ⊢
    cases hq : intBlock n with
    | none => exact h
    | some x =>
      obtain ⟨k, b⟩ := x
      dsimp only
      rw [vmod_get]
      split
      · dsimp only
        rw [putBit_get _ _ _ (intBlock_lt hq), h]; rfl
      · exact h

theorem foldl_deliver_proj {β : Type} (f : State → β) (hf : ∀ n s, f (deliver n s) = f s) (l : List Nat) (s : State) :
    f (l.foldl (fun t k => deliver k t) s) = f s := by
  induction l generalizing s with
  | nil => rfl
  | cons a l ih => rw [List.foldl_cons, ih, hf]

end Sys2Proof.Machine
end

