-- ==== Sys2Proof/Laws/Time.lean ====
section
/-! SUPPORT. What the passing of time leaves alone. -/

set_option linter.all false

namespace Sys2Proof.Machine

open Sys2Proof

theorem advance_fr (n : Nat) (s : State) : SameBut [.bw, .clk, .cores, .cys, .lic, .lnc, .mems, .recd, .rot, .tim, .twl] s (advance n s) :=
  advance_frame n s (by decide) (by decide) (by decide) (by decide) (by decide) (by decide) (by decide) (by decide) (by decide) (by decide) (by decide) (SameBut.refl _ _)
@[simp] theorem advance_pending (n : Nat) (s : State) : (advance n s).pending = s.pending := (advance_fr n s).1
@[simp] theorem advance_drawn (n : Nat) (s : State) : (advance n s).drawn = s.drawn := (advance_fr n s).2 .drawn (by decide)
@[simp] theorem advance_mod (n : Nat) (s : State) : (advance n s).mod = s.mod := (advance_fr n s).2 .mod (by decide)
@[simp] theorem advance_pwr (n : Nat) (s : State) : (advance n s).pwr = s.pwr := (advance_fr n s).2 .pwr (by decide)
@[simp] theorem advance_banks (n : Nat) (s : State) : (advance n s).banks = s.banks := (advance_fr n s).2 .banks (by decide)
@[simp] theorem advance_chans (n : Nat) (s : State) : (advance n s).chans = s.chans := (advance_fr n s).2 .chans (by decide)
@[simp] theorem advance_xn (n : Nat) (s : State) : (advance n s).xn = s.xn := (advance_fr n s).2 .xn (by decide)
@[simp] theorem advance_boot (n : Nat) (s : State) : (advance n s).boot = s.boot := (advance_fr n s).2 .boot (by decide)
@[simp] theorem advance_kiln (n : Nat) (s : State) : (advance n s).kiln = s.kiln := (advance_fr n s).2 .kiln (by decide)
@[simp] theorem advance_cpn (n : Nat) (s : State) : (advance n s).cpn = s.cpn := (advance_fr n s).2 .cpn (by decide)
@[simp] theorem advance_cfd (n : Nat) (s : State) : (advance n s).cfd = s.cfd := (advance_fr n s).2 .cfd (by decide)
@[simp] theorem advance_brg (n : Nat) (s : State) : (advance n s).brg = s.brg := (advance_fr n s).2 .brg (by decide)
@[simp] theorem advance_ints (n : Nat) (s : State) : (advance n s).ints = s.ints := (advance_fr n s).2 .ints (by decide)
@[simp] theorem advance_vrc (n : Nat) (s : State) : (advance n s).vrc = s.vrc := by
  have a := (advance_fr n s).2 .vrc (by decide)
  have b := (advance_fr n s).2 .held (by decide)
  simp only [Part.same] at a b
  generalize (advance n s).vrc = x at a b
  generalize s.vrc = y at a b
  cases x; cases y
  simp_all
@[simp] theorem advance_notedAt (n : Nat) (s : State) : (advance n s).twl.notedAt = s.twl.notedAt :=
  (advance_fr n s).2 .noted (by decide)

end Sys2Proof.Machine
end

