-- ==== Sys2Proof/Laws/Instructions.lean ====
section
/-! SUPPORT. Running an instruction on the cores that execute the stream. -/

set_option linter.all false

namespace Sys2Proof.Machine

open Sys2Proof

theorem execCores_nodup (k : Fin 8) (s : State) : (execCores k s).Nodup := by
  unfold execCores
  split
  · split <;> simp
  · simp
  · apply List.Nodup.map
    · intro a b h; simp [coreP, Fin.ext_iff] at h; exact Fin.ext (by omega)
    · unfold activeLanes lanesIn allFin; exact (List.nodup_finRange 4).filter _
  · apply List.Nodup.map
    · intro a b h; simp [coreP, Fin.ext_iff] at h; exact Fin.ext (by omega)
    · unfold activeLanes lanesIn allFin; exact (List.nodup_finRange 4).filter _
  · simp

theorem execCores_even (k : Fin 8) (s : State) (h : s.vrc.mode ≠ .split) (i : Fin 8) (hi : i ∈ execCores k s) :
    ∃ l, i = coreP l := by
  unfold execCores at hi
  split at hi
  · contradiction
  · exact ⟨_, List.mem_singleton.1 hi⟩
  · obtain ⟨l, -, h⟩ := List.mem_map.1 hi; exact ⟨l, h.symm⟩
  · obtain ⟨l, -, h⟩ := List.mem_map.1 hi; exact ⟨l, h.symm⟩
  · simp at hi

theorem mapCores_rest (ks : List (Fin 8)) (f : Core → Core) (s : State) :
    mapCores ks f s = { s with cores := (mapCores ks f s).cores } := by
  induction ks generalizing s with
  | nil => rfl
  | cons a ks ih => 
    show mapCores ks f (setCore a f s) = _
    rw [ih]; rfl

theorem foldCore_rest (ks : List (Fin 8)) (f : Fin 8 → State → Core → Core) (s : State) :
    ks.foldl (fun t i => setCore i (f i t) t) s = { s with cores := (ks.foldl (fun t i => setCore i (f i t) t) s).cores } := by
  induction ks generalizing s with
  | nil => rfl
  | cons a ks ih => simp only [List.foldl_cons]; rw [ih]; rfl

theorem foldCore_get (ks : List (Fin 8)) (hk : ks.Nodup) (f : Fin 8 → Core → Core) (s : State) (i : Fin 8) :
    (ks.foldl (fun t i => setCore i (f i) t) s).cores[i] = if i ∈ ks then f i s.cores[i] else s.cores[i] := by
  induction ks generalizing s with
  | nil => simp
  | cons a ks ih =>
    simp only [List.foldl_cons]
    rw [ih (List.nodup_cons.1 hk).2]
    by_cases h : i = a
    · subst h
      simp [(List.nodup_cons.1 hk).1, setCore]
    · simp [h, setCore, vmod_other_val _ _ _ _ h]

theorem mapCores_get (ks : List (Fin 8)) (hk : ks.Nodup) (f : Core → Core) (s : State) (i : Fin 8) :
    (mapCores ks f s).cores[i] = if i ∈ ks then f s.cores[i] else s.cores[i] := foldCore_get ks hk (fun _ => f) s i

theorem mirrorShadow_rest (s : State) : mirrorShadow s = { s with cores := (mirrorShadow s).cores } := by
  unfold mirrorShadow; split <;> rfl

theorem mirrorShadow_get (k : Fin 8) (s : State) (i : Fin 8) (hi : i ∈ execCores k s) :
    (mirrorShadow s).cores[i] = s.cores[i] := by
  by_cases h : s.vrc.mode = .split
  · simp [mirrorShadow, h]
  · obtain ⟨l, rfl⟩ := execCores_even k s h i hi
    simp only [mirrorShadow, h, if_false]
    have : allFin 4 = [0,1,2,3] := by decide
    simp only [this]
    fin_cases l <;> simp [coreS, coreP]

theorem fetchAll_rest (ks : List (Fin 8)) (s : State) : fetchAll ks s = { s with cores := (fetchAll ks s).cores } :=
  foldCore_rest ks (fun i t c => c.fetched t.mems[i]) s

theorem fetchAll_get (ks : List (Fin 8)) (hk : ks.Nodup) (s : State) (i : Fin 8) :
    (fetchAll ks s).cores[i] = if i ∈ ks then (s.cores[i]).fetched s.mems[i] else s.cores[i] := by
  have : ∀ (l : List (Fin 8)) (t : State), t.mems = s.mems → l.foldl (fun t i => setCore i (fun c => c.fetched t.mems[i]) t) t
      = l.foldl (fun t i => setCore i (fun c => c.fetched s.mems[i]) t) t := by
    intro l
    induction l with
    | nil => intros; rfl
    | cons a l ih => intro t ht; simp only [List.foldl_cons]; rw [ht]; exact ih _ (by simp [setCore, ht])
  unfold fetchAll
  rw [this ks s rfl]
  exact foldCore_get ks hk (fun i c => c.fetched s.mems[i]) s i

/- keeps of fetched -/
@[simp] theorem wake_x (c : Core) : c.wake.x = c.x := by unfold Core.wake; split <;> rfl
@[simp] theorem wake_f (c : Core) : c.wake.f = c.f := by unfold Core.wake; split <;> rfl
@[simp] theorem wake_pc (c : Core) : c.wake.pc = c.pc := by unfold Core.wake; split <;> rfl
@[simp] theorem wake_cw (c : Core) : c.wake.cw = c.cw := by unfold Core.wake; split <;> rfl

/-- What counting events and passing a cache leave of a core. -/
def Core.plain (c : Core) : Core := { c with lpc := {}, lic := { c.lic with pend := 0 }, wfi := false, icache := [], uses := 0 }
theorem wake_plain (c : Core) : c.wake.plain = c.plain := by unfold Core.wake; split <;> rfl
theorem assertSrc_plain (c : Core) (n : Nat) : (c.assertSrc n).plain = c.plain := by unfold Core.assertSrc; rw [wake_plain]; rfl
theorem bump_plain (c : Core) (i : Fin 16) (n : Nat) : (c.bump i n).plain = c.plain := by
  unfold Core.bump; dsimp only; split
  · rw [assertSrc_plain]; rfl
  · rfl
theorem event_plain (c : Core) (e n : Nat) : (c.event e n).plain = c.plain := by
  unfold Core.event
  split
  · rfl
  · generalize allFin 16 = l
    have : ∀ d : Core, d.plain = c.plain → (l.foldl (fun d i => if d.counts i e then d.bump i n else d) d).plain = c.plain := by
      induction l with
      | nil => intro d h; exact h
      | cons a l ih => 
        intro d h; simp only [List.foldl_cons]; apply ih; split
        · rw [bump_plain, h]
        · exact h
    exact this c rfl
theorem fetched_plain (c : Core) (m : List Host.Cell) : (c.fetched m).plain = c.plain := by
  unfold Core.fetched
  split
  · dsimp only; split
    · rfl
    · rw [event_plain]; rfl
  · rfl
theorem plain_fields {c d : Core} (h : c.plain = d.plain) : c.x = d.x ∧ c.f = d.f ∧ c.pc = d.pc ∧ c.cw = d.cw ∧ c.tag = d.tag ∧
   c.imprecise = d.imprecise ∧ c.resv = d.resv ∧ c.sbuf = d.sbuf ∧ c.cbuf = d.cbuf ∧ c.dcache = d.dcache ∧ c.pend = d.pend := by
  unfold Core.plain at h
  simp only [Core.mk.injEq] at h
  tauto

theorem execCores_congr (k : Fin 8) (s t : State) (h : t.vrc = s.vrc) : execCores k t = execCores k s := by
  unfold execCores activeLanes lanesIn laneState
  rw [h]
theorem protRegion_congr (c d : Core) (h : c.cw = d.cw) (a n : Nat) : protRegion c a n = protRegion d a n := by
  induction n with
  | zero => rfl
  | succ n ih => simp [protRegion, Core.word, h, ih]
theorem fetchable_congr (w : Bool) (c d : Core) (h : c.plain = d.plain) : fetchable w c = fetchable w d := by
  obtain ⟨-, -, hp, hc, -⟩ := plain_fields h
  simp [fetchable, permitted, Core.exec, Core.word, hp, hc, protRegion_congr c d hc]

theorem CoresOnly.trans {s t u : State} (h : CoresOnly s t) (k : CoresOnly t u) : CoresOnly s u := by
  unfold CoresOnly at *; rw [k, h]
theorem CoresOnly.vrc {s t : State} (h : CoresOnly s t) : t.vrc = s.vrc := by
  unfold CoresOnly at h; rw [h]

def Flat : Act → Prop
  | .done _ | .trap _ _ _ => True
  | _ => False

/-- Acts that only change the running cores. -/
theorem runInstr_flat (core : Fin 8) (act : State → Fin 8 → Act) (s : State) (h : Executes core s) (A : Fin 8 → Act)
    (hg : ∀ i ∈ execCores core s, act (fetchAll (execCores core s) s) i = A i)
    (hA : ∀ i ∈ execCores core s, Flat (A i))
    (hF : ∀ i ∈ execCores core s, actFlush (fetchAll (execCores core s) s) core (A i) = fetchAll (execCores core s) s) :
    CoresOnly s (runInstr core act s) ∧
    (∀ i ∈ execCores core s, (runInstr core act s).cores[i] = (actCore (A i) ((s.cores[i]).fetched s.mems[i])).stepped) ∧
    ∀ l, coreP l ∉ execCores core s → (runInstr core act s).cores[coreP l] = s.cores[coreP l] := by
  obtain ⟨h1, h2⟩ := h
  have hv : (fetchAll (execCores core s) s).vrc = s.vrc := by rw [fetchAll_rest]
  have hks : execCores core (fetchAll (execCores core s) s) = execCores core s := execCores_congr _ _ _ hv
  have hff : ∀ i ∈ execCores core s, fetchFirst act (fetchAll (execCores core s) s) i = A i := by
    intro i hi
    unfold fetchFirst
    have : fetchable (decide ((fetchAll (execCores core s) s).vrc.mode = .split)) (fetchAll (execCores core s) s).cores[i] = true := by
      rw [hv, ← (h2 i hi).2.2]
      apply fetchable_congr
      rw [fetchAll_get _ (execCores_nodup _ _)]
      simp [hi, fetched_plain]
    simp only [this, if_true]
    exact hg i hi
  have hr : ∀ i ∈ execCores core s, (s.cores[i]).ready = true := fun i hi => (h2 i hi).1
  have hi' : ∀ i ∈ execCores core s, (s.cores[i]).imprecise = none := fun i hi => (h2 i hi).2.1
  have hneed : runNeeds core (fetchFirst act) (fetchAll (execCores core s) s) = some (fetchAll (execCores core s) s) := by
    unfold runNeeds
    rw [hks]
    cases hq : execCores core s with
    | nil => exact absurd hq h1
    | cons a l =>
      have ha : a ∈ execCores core s := by simp [hq]
      simp only; rw [← hq, hff a ha]
      have := hA a ha
      cases hq2 : A a <;> simp_all [Flat]
  have e1 : runInstr core act s = mirrorShadow (mapCores (execCores core s) Core.stepped
      (runActs core (fetchFirst act) (fetchAll (execCores core s) s))) := by
    unfold runInstr
    have c1 : ¬((execCores core s).all (fun i => (s.cores[i]).ready) = false ∨ execCores core s = []) := by
      simp only [h1, or_false, Bool.not_eq_false, List.all_eq_true]
      exact hr
    have c2 : ¬((execCores core s).any (fun i => (s.cores[i]).imprecise.isSome) = true) := by
      simp only [List.any_eq_true, not_exists, not_and]
      intro i hi; rw [hi' i hi]; simp
    simp only [c1, if_false, c2, hneed]
    rfl
  have e2 : runActs core (fetchFirst act) (fetchAll (execCores core s) s) =
      (execCores core s).foldl (fun t i => setCore i (actCore (A i)) t) (fetchAll (execCores core s) s) := by
    unfold runActs
    simp only [hks]
    generalize hS : fetchAll (execCores core s) s = S at *
    have hm : (execCores core s).map (fun i => (i, fetchFirst act S i)) = (execCores core s).map (fun i => (i, A i)) := by
      apply List.map_congr_left
      intro i hi; rw [hff i hi]
    rw [hm]
    have hf : ∀ i, (match ((execCores core s).map (fun i => (i, A i))).find? (fun p => decide (p.1 = i)) with
      | some (_, a) => a.beat S.cores[i]
      | none => none) = none := by
      intro i
      cases hq : ((execCores core s).map (fun i => (i, A i))).find? (fun p => decide (p.1 = i)) with
      | none => rfl
      | some p =>
        have := List.mem_of_find?_eq_some hq
        obtain ⟨j, hj1, hj⟩ := List.mem_map.1 this
        subst hj
        have := hA j hj1
        simp only
        cases hq2 : A j <;> simp_all [Flat, Act.beat]
    cases hq : execCores core s with
    | nil => exact absurd hq h1
    | cons a l =>
      have ha : a ∈ execCores core s := by simp [hq]
      rw [hq] at hf
      simp only [List.map_cons] at hf ⊢
      rw [hF a ha]
      split
      · have := hA a ha
        simp only [List.foldl_cons, List.foldl_map]
        cases hq2 : A a <;> simp_all [Flat]
      · rename_i hneg
        exfalso; apply hneg; rw [List.all_eq_true]; intro p _
        exact (congrArg Option.isNone (hf p.1)).trans rfl
  have r0 : CoresOnly s (fetchAll (execCores core s) s) := fetchAll_rest _ _
  have r1 : CoresOnly s (runActs core (fetchFirst act) (fetchAll (execCores core s) s)) := by
    rw [e2]; exact r0.trans (foldCore_rest _ (fun i _ => actCore (A i)) _)
  have r2 : CoresOnly s (mapCores (execCores core s) Core.stepped (runActs core (fetchFirst act) (fetchAll (execCores core s) s))) :=
    r1.trans (mapCores_rest _ _ _)
  rw [e1]
  refine ⟨r2.trans (mirrorShadow_rest _), ?_, ?_⟩
  · intro i hi
    rw [mirrorShadow_get core, mapCores_get _ (execCores_nodup _ _)]
    · simp only [hi, if_true]
      rw [e2, foldCore_get _ (execCores_nodup _ _), fetchAll_get _ (execCores_nodup _ _)]
      simp [hi]
    · rw [execCores_congr core s _ r2.vrc]; exact hi
  · intro l hl
    have : (mirrorShadow (mapCores (execCores core s) Core.stepped (runActs core (fetchFirst act) (fetchAll (execCores core s) s)))).cores[coreP l]
      = (mapCores (execCores core s) Core.stepped (runActs core (fetchFirst act) (fetchAll (execCores core s) s))).cores[coreP l] := by
      unfold mirrorShadow
      split
      · rfl
      · have : allFin 4 = [0,1,2,3] := by decide
        simp only [this]
        fin_cases l <;> simp [coreS, coreP]
    rw [this, mapCores_get _ (execCores_nodup _ _), e2, foldCore_get _ (execCores_nodup _ _), fetchAll_get _ (execCores_nodup _ _)]
    simp [hl]

theorem flush_none (core : Fin 8) (s : State) (h : ∀ i ∈ execCores core s, (s.cores[i]).cbuf = none) :
    flushCombine core s = s := by
  unfold flushCombine
  have : ((execCores core s).map (fun i => (match (s.cores[i]).cbuf with
    | some x => burstBeats x (s.cores[i]).tag.toNat (s.cores[i]).exec
    | none => []).length)).foldl max 0 = 0 := by
    have : (execCores core s).map (fun i => (match (s.cores[i]).cbuf with
    | some x => burstBeats x (s.cores[i]).tag.toNat (s.cores[i]).exec
    | none => []).length) = (execCores core s).map (fun _ => 0) := by
      apply List.map_congr_left; intro i hi; rw [h i hi]; rfl
    rw [this]
    induction execCores core s with
    | nil => rfl
    | cons a l ih => simpa using ih
  exact if_pos this

theorem appFault_none (s : State) (h : s.cys.current = none) : appFault s = s := by
  simp [appFault, h]
theorem appFault_lead (s : State) (h : ∀ l, (s.cores[coreP l]).exl = false) : appFault s = s := by
  unfold appFault leadCore
  cases s.cys.current <;> cases ha : (activeLanes s).head? <;> try rfl
  rename_i l
  have : (s.cores[coreP l]).appTrap = none := by
    unfold Core.appTrap; rw [h l]; rfl
  simp only [Option.map_some, this]

/-- Done in every running core, with or without a task. -/
theorem runTask_done (core : Fin 8) (act : State → Fin 8 → Act) (s : State) (h : Executes core s) (hu : Untrapped s) (g : Fin 8 → Core)
    (hg : ∀ i ∈ execCores core s, act (fetchAll (execCores core s) s) i = .done (g i))
    (he : ∀ i ∈ execCores core s, (g i).exl = (s.cores[i]).exl) :
    CoresOnly s (runTask core act s) ∧ ∀ i ∈ execCores core s, (runTask core act s).cores[i] = (g i).stepped := by
  obtain ⟨a, b, c⟩ := runInstr_flat core act s h (fun i => .done (g i)) hg (fun _ _ => trivial) (fun _ _ => rfl)
  have : runTask core act s = runInstr core act s := by
    unfold runTask
    rcases hu with hu | hu
    · apply appFault_none; rw [a]; exact hu
    · apply appFault_lead
      intro l
      by_cases hl : coreP l ∈ execCores core s
      · rw [b _ hl]; show (g _).exl = _; rw [he _ hl]; exact hu _
      · rw [c l hl]; exact hu _
  rw [this]
  exact ⟨a, b⟩

section
variable (c : Core) (m : List Host.Cell) (e n : Nat)
@[simp] theorem fetched_x : (c.fetched m).x = c.x := (plain_fields (fetched_plain c m)).1
@[simp] theorem fetched_f : (c.fetched m).f = c.f := (plain_fields (fetched_plain c m)).2.1
@[simp] theorem fetched_pc : (c.fetched m).pc = c.pc := (plain_fields (fetched_plain c m)).2.2.1
@[simp] theorem fetched_cw : (c.fetched m).cw = c.cw := (plain_fields (fetched_plain c m)).2.2.2.1
@[simp] theorem fetched_cbuf : (c.fetched m).cbuf = c.cbuf := (plain_fields (fetched_plain c m)).2.2.2.2.2.2.2.2.1
@[simp] theorem fetched_dcache : (c.fetched m).dcache = c.dcache := (plain_fields (fetched_plain c m)).2.2.2.2.2.2.2.2.2.1
@[simp] theorem event_x : (c.event e n).x = c.x := (plain_fields (event_plain c e n)).1
@[simp] theorem event_f : (c.event e n).f = c.f := (plain_fields (event_plain c e n)).2.1
@[simp] theorem event_pc : (c.event e n).pc = c.pc := (plain_fields (event_plain c e n)).2.2.1
@[simp] theorem event_cw : (c.event e n).cw = c.cw := (plain_fields (event_plain c e n)).2.2.2.1
@[simp] theorem event_dcache : (c.event e n).dcache = c.dcache := (plain_fields (event_plain c e n)).2.2.2.2.2.2.2.2.2.1
@[simp] theorem setX_f (d : Fin 32) (v : Reg64) : (c.setX d v).f = c.f := by unfold Core.setX; split <;> rfl
@[simp] theorem setX_pc (d : Fin 32) (v : Reg64) : (c.setX d v).pc = c.pc := by unfold Core.setX; split <;> rfl
@[simp] theorem setX_cw (d : Fin 32) (v : Reg64) : (c.setX d v).cw = c.cw := by unfold Core.setX; split <;> rfl
@[simp] theorem setX_dcache (d : Fin 32) (v : Reg64) : (c.setX d v).dcache = c.dcache := by unfold Core.setX; split <;> rfl
theorem setX_x_congr (c c' : Core) (h : c.x = c'.x) (d : Fin 32) (v : Reg64) : (c.setX d v).x = (c'.setX d v).x := by
  unfold Core.setX; split <;> simp [h]
@[simp] theorem setWord_x (k : Nat) (v : Reg64) : (c.setWord k v).x = c.x := by unfold Core.setWord; split <;> rfl
@[simp] theorem setWord_f (k : Nat) (v : Reg64) : (c.setWord k v).f = c.f := by unfold Core.setWord; split <;> rfl
@[simp] theorem setWord_pc (k : Nat) (v : Reg64) : (c.setWord k v).pc = c.pc := by unfold Core.setWord; split <;> rfl
@[simp] theorem setWord_dcache (k : Nat) (v : Reg64) : (c.setWord k v).dcache = c.dcache := by unfold Core.setWord; split <;> rfl
@[simp] theorem setWord_resv (k : Nat) (v : Reg64) : (c.setWord k v).resv = c.resv := by unfold Core.setWord; split <;> rfl
theorem setWord_word (k j : Nat) (v : Reg64) : (c.setWord k v).word j = if j = k ∧ k < 64 then v else c.word j := by
  unfold Core.setWord Core.word
  by_cases hk : k < 64
  · simp only [hk, dif_pos, and_true]
    by_cases hj : j < 64
    · simp only [hj, dif_pos, Vector.getElem_set, eq_comm]
    · simp only [hj, dif_neg, not_false_eq_true]; rw [if_neg]; omega
  · simp [hk]
theorem word_congr {c c' : Core} (h : c.cw = c'.cw) (j : Nat) : c.word j = c'.word j := by unfold Core.word; rw [h]
@[simp] theorem stepped_x : c.stepped.x = c.x := rfl
@[simp] theorem stepped_f : c.stepped.f = c.f := rfl
@[simp] theorem stepped_pc : c.stepped.pc = c.pc := rfl
@[simp] theorem stepped_cw : c.stepped.cw = c.cw := rfl
@[simp] theorem stepped_dcache : c.stepped.dcache = c.dcache := rfl
@[simp] theorem stepped_resv : c.stepped.resv = c.resv := rfl
@[simp] theorem stepped_wfi : c.stepped.wfi = c.wfi := rfl
@[simp] theorem stepped_word (j : Nat) : c.stepped.word j = c.word j := rfl
@[simp] theorem fetched_word (j : Nat) : (c.fetched m).word j = c.word j := word_congr (fetched_cw c m) j
@[simp] theorem event_word (j : Nat) : (c.event e n).word j = c.word j := word_congr (event_cw c e n) j
@[simp] theorem setX_word (d : Fin 32) (v : Reg64) (j : Nat) : (c.setX d v).word j = c.word j := word_congr (setX_cw c d v) j
@[simp] theorem retireAt_x (p : Reg64) : (c.retireAt p).x = c.x := by simp [Core.retireAt]
@[simp] theorem retireAt_f (p : Reg64) : (c.retireAt p).f = c.f := by simp [Core.retireAt]
@[simp] theorem retireAt_pc (p : Reg64) : (c.retireAt p).pc = p := rfl
@[simp] theorem retireAt_dcache (p : Reg64) : (c.retireAt p).dcache = c.dcache := by simp [Core.retireAt]
@[simp] theorem retireAt_word (p : Reg64) (j : Nat) : (c.retireAt p).word j = if j = 11 then c.word 11 + 1 else c.word j := by
  show (Core.word _ _) = _
  rw [show (c.retireAt p).word j = ((c.event 0x02 1).setWord 11 (c.word 11 + 1)).word j from rfl, setWord_word]
  simp
@[simp] theorem retire_x : c.retire.x = c.x := by simp [Core.retire]
@[simp] theorem retire_f : c.retire.f = c.f := by simp [Core.retire]
@[simp] theorem retire_pc : c.retire.pc = c.pc + 4 := rfl
@[simp] theorem retire_dcache : c.retire.dcache = c.dcache := by simp [Core.retire]
@[simp] theorem retire_word (j : Nat) : c.retire.word j = if j = 11 then c.word 11 + 1 else c.word j := by simp [Core.retire]
theorem getX_congr {c c' : Core} (h : c.x = c'.x) (i : Fin 32) : c.getX i = c'.getX i := by unfold Core.getX; rw [h]
@[simp] theorem fetched_getX (i : Fin 32) : (c.fetched m).getX i = c.getX i := getX_congr (fetched_x c m) i
theorem exl_congr {c c' : Core} (h : c.word 0 = c'.word 0) : c.exl = c'.exl := by unfold Core.exl; rw [h]
end

/-- toX instructions. -/
theorem takes_of (i : Instr) (core : Fin 8) (s : State) (d : Fin 32) (v v' : Core → Reg64) (act : State → Fin 8 → Act)
    (he : Executes core s) (hu : Untrapped s) (hx : exec i s = .next (runTask core act s))
    (hact : act = toX d v') (hv : ∀ (c : Core) m, v' (c.fetched m) = v c) : Takes i core s d v := by
  subst hact
  have hg : ∀ k ∈ execCores core s, toX d v' (fetchAll (execCores core s) s) k =
      .done (((s.cores[k]).fetched s.mems[k]).setX d (v s.cores[k])).retire := by
    intro k hk
    simp only [toX, fetchAll_get _ (execCores_nodup _ _), hk, if_true, hv]
  obtain ⟨a, b⟩ := runTask_done core (toX d v') s he hu _ hg (by intro k hk; apply exl_congr; simp)
  refine ⟨_, hx, a, ?_⟩
  intro k hk
  rw [b k hk]
  refine ⟨?_, ?_, ?_⟩
  · rw [stepped_x, retire_x]; exact setX_x_congr _ _ (fetched_x _ _) _ _
  · simp
  · simp

theorem raise_fields (c : Core) (code arg : Nat) (bad : Option Reg64) :
    let d := c.raiseExc code arg bad
    d.pc = c.word 5 ∧ d.word 2 = c.pc ∧ d.word 1 = c.word 0 ∧
      d.word 3 = (BitVec.ofNat 64 (arg * 4096 + code) ||| (if c.exl then 0x40000000 else 0)) ∧
      d.word 4 = bad.getD (c.word 4) ∧ d.exec = true ∧ d.ie = false ∧ d.exl = true ∧ d.dzt = c.dzt ∧
      d.x = c.x ∧ d.f = c.f := by
  intro d
  have hx : (c.event 0x0D 1).exl = c.exl := exl_congr (by simp)
  have hw : ∀ j, d.word j = if j = 0 then ((c.word 0 &&& 8) ||| 5) else if j = 4 then bad.getD (c.word 4) else if j = 1 then c.word 0
      else if j = 3 then (BitVec.ofNat 64 (arg * 4096 + code) ||| (if c.exl then 0x40000000 else 0)) else if j = 2 then c.pc else c.word j := by
    intro j
    cases bad with
    | none =>
      show Core.word (Core.setWord (Core.setWord (Core.setWord (Core.setWord _ _ _) _ _) _ _) _ _) j = _
      simp only [setWord_word, event_word, hx]
      repeat' split
      all_goals simp_all
    | some v =>
      show Core.word (Core.setWord (Core.setWord (Core.setWord (Core.setWord (Core.setWord _ _ _) _ _) _ _) _ _) _ _) j = _
      simp only [setWord_word, event_word, hx]
      repeat' split
      all_goals simp_all
  refine ⟨?_, by simp [hw], by simp [hw], by simp [hw], by simp [hw], ?_, ?_, ?_, ?_, ?_, ?_⟩
  · show (c.event 0x0D 1).word 5 + 0 = _; simp
  · show (d.word 0).getLsbD 0 = _; rw [hw]; simp
  · show (d.word 0).getLsbD 1 = _; rw [hw]; simp; 
  · show (d.word 0).getLsbD 2 = _; rw [hw]; simp
  · show (d.word 0).getLsbD 3 = (c.word 0).getLsbD 3; rw [hw]; simp
  · cases bad <;> (show Core.x (Core.setWord _ _ _) = _) <;> simp
  · cases bad <;> (show Core.f (Core.setWord _ _ _) = _) <;> simp
theorem traps_of (i : Instr) (core : Fin 8) (s : State) (code arg : Nat) (bad : Core → Option Reg64) (act : State → Fin 8 → Act)
    (he : Executes core s) (hu : s.cys.current = none) (hc : Uncombined core s) (hx : exec i s = .next (runTask core act s))
    (hact : ∀ k ∈ execCores core s, act (fetchAll (execCores core s) s) k = .trap code arg (bad s.cores[k])) :
    Traps i core s code arg bad := by
  have hF : flushCombine core (fetchAll (execCores core s) s) = fetchAll (execCores core s) s := by
    apply flush_none
    intro k hk
    have hks : execCores core (fetchAll (execCores core s) s) = execCores core s := by
      apply execCores_congr; rw [fetchAll_rest]
    rw [hks] at hk
    rw [fetchAll_get _ (execCores_nodup _ _)]
    simpa [hk] using hc k hk
  obtain ⟨a, b, -⟩ := runInstr_flat core act s he (fun k => .trap code arg (bad s.cores[k])) hact (fun _ _ => trivial) (fun _ _ => hF)
  have h0 : runTask core act s = runInstr core act s := by
    unfold runTask; apply appFault_none; rw [a]; exact hu
  refine ⟨_, hx, ?_, ?_⟩
  · rw [h0]; exact a
  intro k hk
  rw [h0]
  simp only [b k hk]
  have h := raise_fields ((s.cores[k]).fetched s.mems[k]) code arg (bad s.cores[k])
  have e1 : ((s.cores[k]).fetched s.mems[k]).exl = (s.cores[k]).exl := exl_congr (by simp)
  have e2 : ((s.cores[k]).fetched s.mems[k]).dzt = (s.cores[k]).dzt := by unfold Core.dzt; simp
  simp only [e1, e2, fetched_word, fetched_x, fetched_f, fetched_pc] at h
  exact h

theorem fetchAll_at {core : Fin 8} {s : State} {k : Fin 8} (hk : k ∈ execCores core s) :
    (fetchAll (execCores core s) s).cores[k] = (s.cores[k]).fetched s.mems[k] := by
  rw [fetchAll_get _ (execCores_nodup _ _)]; simp [hk]

theorem done_of (i : Instr) (core : Fin 8) (s : State) (act : State → Fin 8 → Act) (g : Core → Core)
    (he : Executes core s) (hu : s.cys.current = none) (hx : exec i s = .next (runTask core act s))
    (hact : ∀ k ∈ execCores core s, act (fetchAll (execCores core s) s) k = .done (g ((s.cores[k]).fetched s.mems[k]))) :
    ∃ t, exec i s = .next t ∧ CoresOnly s t ∧ ∀ k ∈ execCores core s, t.cores[k] = (g ((s.cores[k]).fetched s.mems[k])).stepped := by
  obtain ⟨a, b, -⟩ := runInstr_flat core act s he (fun k => .done (g ((s.cores[k]).fetched s.mems[k]))) hact (fun _ _ => trivial) (fun _ _ => rfl)
  have h0 : runTask core act s = runInstr core act s := by
    unfold runTask; apply appFault_none; rw [a]; exact hu
  exact ⟨_, hx, by rw [h0]; exact a, by rw [h0]; exact b⟩

end Sys2Proof.Machine
end

