-- ==== Sys2Proof/Laws/Keeps.lean ====
section
/-! SUPPORT. The canonical form of the memories and the bound on the FIFO, carried through updates, branches and folds. -/

set_option linter.all false

namespace Sys2Proof.Machine

open Sys2Proof

/-- The canonical form of the memories and the bound on the recorder's FIFO are carried from one state to another. -/
structure Keeps (s t : State) : Prop where
  mem : s.memWf = true → t.memWf = true
  fifo : s.recd.fifo.length ≤ 64 → t.recd.fifo.length ≤ 64

/-- The same of an outcome. -/
def OutKeeps (s : State) (o : Out) : Prop := match o with | .next t => Keeps s t | _ => True

theorem Keeps.refl (s : State) : Keeps s s := ⟨id, id⟩
theorem Keeps.trans {s t u : State} (h : Keeps s t) (g : Keeps t u) : Keeps s u :=
  ⟨fun x => g.mem (h.mem x), fun x => g.fifo (h.fifo x)⟩

theorem memWf_iff (s : State) : s.memWf = true ↔ (Memory.wf s.vmem = true ∧ Memory.wf s.recd.mram = true ∧
    Memory.wf s.xn.txArea = true ∧ Memory.wf s.cys.xnLast = true ∧ ∀ i : Fin 8, Memory.wf s.mems[i] = true) := by
  unfold State.memWf
  simp only [Bool.and_eq_true, and_assoc, Array.all_eq_true, List.all_eq_true]
  refine and_congr_right fun _ => and_congr_right fun _ => and_congr_right fun _ => and_congr_right fun _ => ?_
  constructor
  · intro h i
    exact h _ (by simp)
  · intro h x hx
    obtain ⟨i, hi, rfl⟩ := List.getElem_of_mem hx
    simpa using h ⟨i, by simpa using hi⟩

section
variable {s t : State} {dr : Nat} {md : ModCtl} {pw : Power} {vr : Vrc} {ro : Rotation} {cy : Cys}
  {cl : Clk} {ti : Tim} {ba : Vector Bank 3} {ch : Vector Channel 48} {xn : Xenex} {re : Recorder} {bo : Boot}
  {ki : Kiln} {tw : Twin} {ln : Lnc} {cp : Cpn} {cf : Cfd} {br : Brg} {bw : Vector BwMon 8}
  {it : Vector IntRegs 11} {me : Vector (List Host.Cell) 8} {co : Vector Core 8} {vm : List Host.Cell}

theorem keeps_mk
    (h3 : t.memWf = true → Memory.wf vm = true ∧ Memory.wf re.mram = true ∧ Memory.wf xn.txArea = true ∧
      Memory.wf cy.xnLast = true ∧ ∀ i : Fin 8, Memory.wf me[i] = true)
    (h8 : t.recd.fifo.length ≤ 64 → re.fifo.length ≤ 64) (h : Keeps s t) :
    Keeps s { pending := t.pending, drawn := dr, mod := md, pwr := pw, vrc := vr, rot := ro, cys := cy, clk := cl,
                tim := ti, banks := ba, chans := ch, xn := xn, recd := re, boot := bo, kiln := ki, twl := tw,
                lnc := ln, cpn := cp, cfd := cf, brg := br, bw := bw, ints := it, mems := me, cores := co,
                vmem := vm } :=
  h.trans ⟨fun x => (memWf_iff _).2 (h3 x), h8⟩

theorem keeps_mk_iff (h3 : me = t.mems) (h4 : vm = t.vmem) (h5 : re.mram = t.recd.mram) (h6 : xn.txArea = t.xn.txArea)
    (h7 : cy.xnLast = t.cys.xnLast) (h8 : re.fifo = t.recd.fifo) :
    Keeps s { pending := t.pending, drawn := dr, mod := md, pwr := pw, vrc := vr, rot := ro, cys := cy, clk := cl,
                tim := ti, banks := ba, chans := ch, xn := xn, recd := re, boot := bo, kiln := ki, twl := tw,
                lnc := ln, cpn := cp, cfd := cf, brg := br, bw := bw, ints := it, mems := me, cores := co,
                vmem := vm } ↔
      Keeps s t := by
  constructor
  · intro h
    refine h.trans ⟨?_, ?_⟩
    · simp only [memWf_iff, h3, h4, h5, h6, h7]; exact id
    · rw [← h8]; exact id
  · refine keeps_mk ?_ ?_
    · rw [h3, h4, h5, h6, h7]; exact (memWf_iff t).1
    · rw [h8]; exact id

theorem keeps_vmem (hv : Memory.wf t.vmem = true → Memory.wf vm = true) (h3 : me = t.mems)
    (h5 : re.mram = t.recd.mram) (h6 : xn.txArea = t.xn.txArea) (h7 : cy.xnLast = t.cys.xnLast)
    (h8 : re.fifo = t.recd.fifo) (h : Keeps s t) :
    Keeps s { pending := t.pending, drawn := dr, mod := md, pwr := pw, vrc := vr, rot := ro, cys := cy, clk := cl,
                tim := ti, banks := ba, chans := ch, xn := xn, recd := re, boot := bo, kiln := ki, twl := tw,
                lnc := ln, cpn := cp, cfd := cf, brg := br, bw := bw, ints := it, mems := me, cores := co,
                vmem := vm } := by
  refine keeps_mk ?_ ?_ h
  · rw [h3, h5, h6, h7]; exact fun x => ⟨hv ((memWf_iff t).1 x).1, ((memWf_iff t).1 x).2⟩
  · rw [h8]; exact id

theorem keeps_mems (hm : (∀ i : Fin 8, Memory.wf t.mems[i] = true) → ∀ i : Fin 8, Memory.wf me[i] = true)
    (h3 : vm = t.vmem) (h5 : re.mram = t.recd.mram) (h6 : xn.txArea = t.xn.txArea) (h7 : cy.xnLast = t.cys.xnLast)
    (h8 : re.fifo = t.recd.fifo) (h : Keeps s t) :
    Keeps s { pending := t.pending, drawn := dr, mod := md, pwr := pw, vrc := vr, rot := ro, cys := cy, clk := cl,
                tim := ti, banks := ba, chans := ch, xn := xn, recd := re, boot := bo, kiln := ki, twl := tw,
                lnc := ln, cpn := cp, cfd := cf, brg := br, bw := bw, ints := it, mems := me, cores := co,
                vmem := vm } := by
  refine keeps_mk ?_ ?_ h
  · rw [h3, h5, h6, h7]
    exact fun x => have y := (memWf_iff t).1 x; ⟨y.1, y.2.1, y.2.2.1, y.2.2.2.1, hm y.2.2.2.2⟩
  · rw [h8]; exact id
end

theorem wf_mems_set {m : Vector (List Host.Cell) 8} {k : Nat} {hk : k < 8} {x : List Host.Cell}
    (h : ∀ i : Fin 8, Memory.wf m[i] = true) (hx : Memory.wf x = true) (i : Fin 8) : Memory.wf (m.set k x hk)[i] = true := by
  simp only [Fin.getElem_fin, Vector.getElem_set]
  split
  · exact hx
  · exact h i

theorem keeps_ite {t : State} {c : Prop} [Decidable c] {a b : State} (ha : Keeps t a) (hb : Keeps t b) :
    Keeps t (if c then a else b) := by split <;> assumption
theorem keeps_foldl {α} {t : State} {f : State → α → State} {s : State} {l : List α}
    (hs : Keeps t s) (h : ∀ x u, Keeps t u → Keeps t (f u x)) : Keeps t (l.foldl f s) := by
  induction l generalizing s with
  | nil => exact hs
  | cons a l ih => exact ih (h a s hs)
theorem keeps_option {α} {t : State} {f : α → State} {s : State} {o : Option α}
    (hs : Keeps t s) (h : ∀ x, Keeps t (f x)) : Keeps t ((o.map f).getD s) := by
  cases o <;> simp_all
theorem outKeeps_next {t s : State} : OutKeeps t (.next s) ↔ Keeps t s := Iff.rfl
theorem outKeeps_ite {t : State} {c : Prop} [Decidable c] {a b : Out} (ha : OutKeeps t a) (hb : OutKeeps t b) :
    OutKeeps t (if c then a else b) := by split <;> assumption
theorem keeps_ite2 {α} {t : State} {c : Prop} [Decidable c] {a b : α × State} (ha : Keeps t a.2) (hb : Keeps t b.2) :
    Keeps t (if c then a else b).2 := by split <;> assumption

end Sys2Proof.Machine
end

