-- ==== Sys2Proof/Laws/KeepsAll1.lean ====
section
/-! SUPPORT. Every operation and every meaning keeps the memories canonical and the FIFO within its bound. -/

set_option linter.all false

namespace Sys2Proof.Machine

open Sys2Proof

theorem drawWord_keeps {t₀ : State} (s : State) (h₀ : Keeps t₀ s) :
    Keeps t₀ (drawWord s).2 := by
  unfold drawWord
  repeat' first
    | with_reducible assumption
    | with_reducible exact fun _ => rfl
    | with_reducible exact fun _ _ => rfl
    | with_reducible exact fun _ => ⟨id, id⟩
    | (rename_i hq; have hq2 := congrArg Prod.snd hq; with_reducible dsimp only at hq2; subst hq2)
    | simp only [↓keeps_mk_iff]
    | with_reducible refine keeps_ite ?_ ?_
    | with_reducible refine outKeeps_ite ?_ ?_
    | with_reducible refine outKeeps_next.2 ?_
    | with_reducible refine keeps_ite2 ?_ ?_
    | with_reducible refine keeps_foldl ?_ (fun _ _ _ => ?_)
    | split
    | dsimp only

theorem drawBool_keeps {t₀ : State} (s : State) (h₀ : Keeps t₀ s) :
    Keeps t₀ (drawBool s).2 := by
  unfold drawBool
  repeat' first
    | with_reducible assumption
    | with_reducible exact fun _ => rfl
    | with_reducible exact fun _ _ => rfl
    | with_reducible exact fun _ => ⟨id, id⟩
    | (rename_i hq; have hq2 := congrArg Prod.snd hq; with_reducible dsimp only at hq2; subst hq2)
    | simp only [↓keeps_mk_iff]
    | with_reducible refine keeps_ite ?_ ?_
    | with_reducible refine outKeeps_ite ?_ ?_
    | with_reducible refine outKeeps_next.2 ?_
    | with_reducible refine keeps_ite2 ?_ ?_
    | with_reducible refine keeps_foldl ?_ (fun _ _ _ => ?_)
    | split
    | dsimp only

theorem drawOctets_keeps {t₀ : State} (n : Nat) (s : State) (h₀ : Keeps t₀ s) :
    Keeps t₀ (drawOctets n s).2 := by
  unfold drawOctets
  repeat' first
    | with_reducible assumption
    | with_reducible exact fun _ => rfl
    | with_reducible exact fun _ _ => rfl
    | with_reducible exact fun _ => ⟨id, id⟩
    | (rename_i hq; have hq2 := congrArg Prod.snd hq; with_reducible dsimp only at hq2; subst hq2)
    | simp only [↓keeps_mk_iff]
    | with_reducible refine keeps_ite ?_ ?_
    | with_reducible refine outKeeps_ite ?_ ?_
    | with_reducible refine outKeeps_next.2 ?_
    | with_reducible refine keeps_ite2 ?_ ?_
    | with_reducible refine keeps_foldl ?_ (fun _ _ _ => ?_)
    | split
    | dsimp only

theorem bwCount_keeps {t₀ : State} (port : Fin 8) (n : Nat) (s : State) (h₀ : Keeps t₀ s) :
    Keeps t₀ (bwCount port n s) := by
  unfold bwCount
  repeat' first
    | with_reducible assumption
    | with_reducible exact fun _ => rfl
    | with_reducible exact fun _ _ => rfl
    | with_reducible exact fun _ => ⟨id, id⟩
    | (rename_i hq; have hq2 := congrArg Prod.snd hq; with_reducible dsimp only at hq2; subst hq2)
    | simp only [↓keeps_mk_iff]
    | with_reducible refine keeps_ite ?_ ?_
    | with_reducible refine outKeeps_ite ?_ ?_
    | with_reducible refine outKeeps_next.2 ?_
    | with_reducible refine keeps_ite2 ?_ ?_
    | with_reducible refine keeps_foldl ?_ (fun _ _ _ => ?_)
    | split
    | dsimp only

theorem bwTarget_keeps {t₀ : State} (a n : Nat) (s : State) (h₀ : Keeps t₀ s) :
    Keeps t₀ (bwTarget a n s) := by
  unfold bwTarget
  repeat' first
    | with_reducible assumption
    | with_reducible exact fun _ => rfl
    | with_reducible exact fun _ _ => rfl
    | with_reducible exact fun _ => ⟨id, id⟩
    | (rename_i hq; have hq2 := congrArg Prod.snd hq; with_reducible dsimp only at hq2; subst hq2)
    | simp only [↓keeps_mk_iff]
    | with_reducible refine keeps_ite ?_ ?_
    | with_reducible refine outKeeps_ite ?_ ?_
    | with_reducible refine outKeeps_next.2 ?_
    | with_reducible refine keeps_ite2 ?_ ?_
    | with_reducible refine keeps_foldl ?_ (fun _ _ _ => ?_)
    | with_reducible apply bwCount_keeps
    | split
    | dsimp only

theorem bwCopy_keeps {t₀ : State} (src dst n : Nat) (s : State) (h₀ : Keeps t₀ s) :
    Keeps t₀ (bwCopy src dst n s) := by
  unfold bwCopy
  repeat' first
    | with_reducible assumption
    | with_reducible exact fun _ => rfl
    | with_reducible exact fun _ _ => rfl
    | with_reducible exact fun _ => ⟨id, id⟩
    | (rename_i hq; have hq2 := congrArg Prod.snd hq; with_reducible dsimp only at hq2; subst hq2)
    | simp only [↓keeps_mk_iff]
    | with_reducible refine keeps_ite ?_ ?_
    | with_reducible refine outKeeps_ite ?_ ?_
    | with_reducible refine outKeeps_next.2 ?_
    | with_reducible refine keeps_ite2 ?_ ?_
    | with_reducible refine keeps_foldl ?_ (fun _ _ _ => ?_)
    | with_reducible apply bwTarget_keeps | with_reducible apply bwCount_keeps
    | split
    | dsimp only

theorem keeps_recd {t₀ s : State} {re : Recorder} (h1 : Memory.wf s.recd.mram = true → Memory.wf re.mram = true)
    (h2 : s.recd.fifo.length ≤ 64 → re.fifo.length ≤ 64) (h₀ : Keeps t₀ s) : Keeps t₀ { s with recd := re } :=
  keeps_mk (fun x => by have y := (memWf_iff s).1 x; exact ⟨y.1, h1 y.2.1, y.2.2⟩) h2 h₀

theorem record_keeps {t₀ : State} (src code p0 p1 p2 : Nat) (s : State) (h₀ : Keeps t₀ s) :
    Keeps t₀ (record src code p0 p1 p2 s) := by
  have k := submitEvent_keeps s.recd src 10 code p0 p1 p2
  have h1 : Keeps t₀ { s with recd := (submitEvent s.recd src 10 code p0 p1 p2).1 } :=
    keeps_recd (fun x => by rw [k.1]; exact x) k.2 h₀
  unfold record
  dsimp only
  split
  · exact (keeps_mk_iff rfl rfl rfl rfl rfl rfl).2 h1
  · exact h1

theorem deliver_keeps {t₀ : State} (n : Nat) (s : State) (h₀ : Keeps t₀ s) :
    Keeps t₀ (deliver n s) := by
  unfold deliver
  repeat' first
    | with_reducible assumption
    | with_reducible exact fun _ => rfl
    | with_reducible exact fun _ _ => rfl
    | with_reducible exact fun _ => ⟨id, id⟩
    | (rename_i hq; have hq2 := congrArg Prod.snd hq; with_reducible dsimp only at hq2; subst hq2)
    | simp only [↓keeps_mk_iff]
    | with_reducible refine keeps_ite ?_ ?_
    | with_reducible refine outKeeps_ite ?_ ?_
    | with_reducible refine outKeeps_next.2 ?_
    | with_reducible refine keeps_ite2 ?_ ?_
    | with_reducible refine keeps_foldl ?_ (fun _ _ _ => ?_)
    | split
    | dsimp only

theorem raise_keeps {t₀ : State} (n : Nat) (s : State) (h₀ : Keeps t₀ s) :
    Keeps t₀ (raise n s) := by
  unfold raise
  repeat' first
    | with_reducible assumption
    | with_reducible exact fun _ => rfl
    | with_reducible exact fun _ _ => rfl
    | with_reducible exact fun _ => ⟨id, id⟩
    | (rename_i hq; have hq2 := congrArg Prod.snd hq; with_reducible dsimp only at hq2; subst hq2)
    | simp only [↓keeps_mk_iff]
    | with_reducible refine keeps_ite ?_ ?_
    | with_reducible refine outKeeps_ite ?_ ?_
    | with_reducible refine outKeeps_next.2 ?_
    | with_reducible refine keeps_ite2 ?_ ?_
    | with_reducible refine keeps_foldl ?_ (fun _ _ _ => ?_)
    | with_reducible apply deliver_keeps
    | split
    | dsimp only

theorem setRate_keeps {t₀ : State} (r : Int) (s : State) (h₀ : Keeps t₀ s) :
    Keeps t₀ (setRate r s) := by
  unfold setRate
  repeat' first
    | with_reducible assumption
    | with_reducible exact fun _ => rfl
    | with_reducible exact fun _ _ => rfl
    | with_reducible exact fun _ => ⟨id, id⟩
    | (rename_i hq; have hq2 := congrArg Prod.snd hq; with_reducible dsimp only at hq2; subst hq2)
    | simp only [↓keeps_mk_iff]
    | with_reducible refine keeps_ite ?_ ?_
    | with_reducible refine outKeeps_ite ?_ ?_
    | with_reducible refine outKeeps_next.2 ?_
    | with_reducible refine keeps_ite2 ?_ ?_
    | with_reducible refine keeps_foldl ?_ (fun _ _ _ => ?_)
    | with_reducible apply record_keeps
    | split
    | dsimp only

theorem uncertEdge_keeps {t₀ : State} (was : Bool) (cause eb : Nat) (s : State) (h₀ : Keeps t₀ s) :
    Keeps t₀ (uncertEdge was cause eb s) := by
  unfold uncertEdge
  repeat' first
    | with_reducible assumption
    | with_reducible exact fun _ => rfl
    | with_reducible exact fun _ _ => rfl
    | with_reducible exact fun _ => ⟨id, id⟩
    | (rename_i hq; have hq2 := congrArg Prod.snd hq; with_reducible dsimp only at hq2; subst hq2)
    | simp only [↓keeps_mk_iff]
    | with_reducible refine keeps_ite ?_ ?_
    | with_reducible refine outKeeps_ite ?_ ?_
    | with_reducible refine outKeeps_next.2 ?_
    | with_reducible refine keeps_ite2 ?_ ?_
    | with_reducible refine keeps_foldl ?_ (fun _ _ _ => ?_)
    | with_reducible apply record_keeps | with_reducible apply raise_keeps
    | split
    | dsimp only

theorem setChan_keeps {t₀ : State} (ch : Fin 48) (f : Channel → Channel) (s : State) (h₀ : Keeps t₀ s) :
    Keeps t₀ (setChan ch f s) := by
  unfold setChan
  repeat' first
    | with_reducible assumption
    | with_reducible exact fun _ => rfl
    | with_reducible exact fun _ _ => rfl
    | with_reducible exact fun _ => ⟨id, id⟩
    | (rename_i hq; have hq2 := congrArg Prod.snd hq; with_reducible dsimp only at hq2; subst hq2)
    | simp only [↓keeps_mk_iff]
    | with_reducible refine keeps_ite ?_ ?_
    | with_reducible refine outKeeps_ite ?_ ?_
    | with_reducible refine outKeeps_next.2 ?_
    | with_reducible refine keeps_ite2 ?_ ?_
    | with_reducible refine keeps_foldl ?_ (fun _ _ _ => ?_)
    | split
    | dsimp only

theorem setBank_keeps {t₀ : State} (b : Fin 3) (f : Bank → Bank) (s : State) (h₀ : Keeps t₀ s) :
    Keeps t₀ (setBank b f s) := by
  unfold setBank
  repeat' first
    | with_reducible assumption
    | with_reducible exact fun _ => rfl
    | with_reducible exact fun _ _ => rfl
    | with_reducible exact fun _ => ⟨id, id⟩
    | (rename_i hq; have hq2 := congrArg Prod.snd hq; with_reducible dsimp only at hq2; subst hq2)
    | simp only [↓keeps_mk_iff]
    | with_reducible refine keeps_ite ?_ ?_
    | with_reducible refine outKeeps_ite ?_ ?_
    | with_reducible refine outKeeps_next.2 ?_
    | with_reducible refine keeps_ite2 ?_ ?_
    | with_reducible refine keeps_foldl ?_ (fun _ _ _ => ?_)
    | split
    | dsimp only

theorem setCmd_keeps {t₀ : State} (ch : Fin 48) (v : Bool) (s : State) (h₀ : Keeps t₀ s) :
    Keeps t₀ (setCmd ch v s) := by
  unfold setCmd
  repeat' first
    | with_reducible assumption
    | with_reducible exact fun _ => rfl
    | with_reducible exact fun _ _ => rfl
    | with_reducible exact fun _ => ⟨id, id⟩
    | (rename_i hq; have hq2 := congrArg Prod.snd hq; with_reducible dsimp only at hq2; subst hq2)
    | simp only [↓keeps_mk_iff]
    | with_reducible refine keeps_ite ?_ ?_
    | with_reducible refine outKeeps_ite ?_ ?_
    | with_reducible refine outKeeps_next.2 ?_
    | with_reducible refine keeps_ite2 ?_ ?_
    | with_reducible refine keeps_foldl ?_ (fun _ _ _ => ?_)
    | with_reducible apply setChan_keeps
    | split
    | dsimp only

theorem flushQueue_keeps {t₀ : State} (ch : Fin 48) (cause : Nat) (s : State) (h₀ : Keeps t₀ s) :
    Keeps t₀ (flushQueue ch cause s) := by
  unfold flushQueue
  repeat' first
    | with_reducible assumption
    | with_reducible exact fun _ => rfl
    | with_reducible exact fun _ _ => rfl
    | with_reducible exact fun _ => ⟨id, id⟩
    | (rename_i hq; have hq2 := congrArg Prod.snd hq; with_reducible dsimp only at hq2; subst hq2)
    | simp only [↓keeps_mk_iff]
    | with_reducible refine keeps_ite ?_ ?_
    | with_reducible refine outKeeps_ite ?_ ?_
    | with_reducible refine outKeeps_next.2 ?_
    | with_reducible refine keeps_ite2 ?_ ?_
    | with_reducible refine keeps_foldl ?_ (fun _ _ _ => ?_)
    | with_reducible apply raise_keeps | with_reducible apply record_keeps | with_reducible apply setChan_keeps
    | split
    | dsimp only

theorem applySafe_keeps {t₀ : State} (ch : Fin 48) (reason : Nat) (next : ChanState) (s : State) (h₀ : Keeps t₀ s) :
    Keeps t₀ (applySafe ch reason next s) := by
  unfold applySafe
  repeat' first
    | with_reducible assumption
    | with_reducible exact fun _ => rfl
    | with_reducible exact fun _ _ => rfl
    | with_reducible exact fun _ => ⟨id, id⟩
    | (rename_i hq; have hq2 := congrArg Prod.snd hq; with_reducible dsimp only at hq2; subst hq2)
    | simp only [↓keeps_mk_iff]
    | with_reducible refine keeps_ite ?_ ?_
    | with_reducible refine outKeeps_ite ?_ ?_
    | with_reducible refine outKeeps_next.2 ?_
    | with_reducible refine keeps_ite2 ?_ ?_
    | with_reducible refine keeps_foldl ?_ (fun _ _ _ => ?_)
    | with_reducible apply setCmd_keeps | with_reducible apply setChan_keeps | with_reducible apply flushQueue_keeps
    | split
    | dsimp only

theorem banksSafeOwned_keeps {t₀ : State} (own : BitVec 48) (reason : Nat) (s : State) (h₀ : Keeps t₀ s) :
    Keeps t₀ (banksSafeOwned own reason s) := by
  unfold banksSafeOwned
  repeat' first
    | with_reducible assumption
    | with_reducible exact fun _ => rfl
    | with_reducible exact fun _ _ => rfl
    | with_reducible exact fun _ => ⟨id, id⟩
    | (rename_i hq; have hq2 := congrArg Prod.snd hq; with_reducible dsimp only at hq2; subst hq2)
    | simp only [↓keeps_mk_iff]
    | with_reducible refine keeps_ite ?_ ?_
    | with_reducible refine outKeeps_ite ?_ ?_
    | with_reducible refine outKeeps_next.2 ?_
    | with_reducible refine keeps_ite2 ?_ ?_
    | with_reducible refine keeps_foldl ?_ (fun _ _ _ => ?_)
    | with_reducible apply applySafe_keeps
    | split
    | dsimp only

theorem banksSafe_keeps {t₀ : State} (reason : Nat) (s : State) (h₀ : Keeps t₀ s) :
    Keeps t₀ (banksSafe reason s) := by
  unfold banksSafe
  repeat' first
    | with_reducible assumption
    | with_reducible exact fun _ => rfl
    | with_reducible exact fun _ _ => rfl
    | with_reducible exact fun _ => ⟨id, id⟩
    | (rename_i hq; have hq2 := congrArg Prod.snd hq; with_reducible dsimp only at hq2; subst hq2)
    | simp only [↓keeps_mk_iff]
    | with_reducible refine keeps_ite ?_ ?_
    | with_reducible refine outKeeps_ite ?_ ?_
    | with_reducible refine outKeeps_next.2 ?_
    | with_reducible refine keeps_ite2 ?_ ?_
    | with_reducible refine keeps_foldl ?_ (fun _ _ _ => ?_)
    | with_reducible apply banksSafeOwned_keeps
    | split
    | dsimp only

theorem refresh_keeps {t₀ : State} (ch : Fin 48) (v : Bool) (s : State) (h₀ : Keeps t₀ s) :
    Keeps t₀ (refresh ch v s) := by
  unfold refresh
  repeat' first
    | with_reducible assumption
    | with_reducible exact fun _ => rfl
    | with_reducible exact fun _ _ => rfl
    | with_reducible exact fun _ => ⟨id, id⟩
    | (rename_i hq; have hq2 := congrArg Prod.snd hq; with_reducible dsimp only at hq2; subst hq2)
    | simp only [↓keeps_mk_iff]
    | with_reducible refine keeps_ite ?_ ?_
    | with_reducible refine outKeeps_ite ?_ ?_
    | with_reducible refine outKeeps_next.2 ?_
    | with_reducible refine keeps_ite2 ?_ ?_
    | with_reducible refine keeps_foldl ?_ (fun _ _ _ => ?_)
    | with_reducible apply record_keeps | with_reducible apply setChan_keeps | with_reducible apply setCmd_keeps
    | split
    | dsimp only

theorem bankCommit_keeps {t₀ : State} (own bits : BitVec 48) (s : State) (h₀ : Keeps t₀ s) :
    Keeps t₀ (bankCommit own bits s) := by
  unfold bankCommit
  repeat' first
    | with_reducible assumption
    | with_reducible exact fun _ => rfl
    | with_reducible exact fun _ _ => rfl
    | with_reducible exact fun _ => ⟨id, id⟩
    | (rename_i hq; have hq2 := congrArg Prod.snd hq; with_reducible dsimp only at hq2; subst hq2)
    | simp only [↓keeps_mk_iff]
    | with_reducible refine keeps_ite ?_ ?_
    | with_reducible refine outKeeps_ite ?_ ?_
    | with_reducible refine outKeeps_next.2 ?_
    | with_reducible refine keeps_ite2 ?_ ?_
    | with_reducible refine keeps_foldl ?_ (fun _ _ _ => ?_)
    | with_reducible apply refresh_keeps
    | split
    | dsimp only

theorem outWrite_keeps {t₀ : State} (b : Fin 3) (core : Option (Fin 8)) (bits : BitVec 16) (s : State) (h₀ : Keeps t₀ s) :
    Keeps t₀ (outWrite b core bits s) := by
  unfold outWrite
  repeat' first
    | with_reducible assumption
    | with_reducible exact fun _ => rfl
    | with_reducible exact fun _ _ => rfl
    | with_reducible exact fun _ => ⟨id, id⟩
    | (rename_i hq; have hq2 := congrArg Prod.snd hq; with_reducible dsimp only at hq2; subst hq2)
    | simp only [↓keeps_mk_iff]
    | with_reducible refine keeps_ite ?_ ?_
    | with_reducible refine outKeeps_ite ?_ ?_
    | with_reducible refine outKeeps_next.2 ?_
    | with_reducible refine keeps_ite2 ?_ ?_
    | with_reducible refine keeps_foldl ?_ (fun _ _ _ => ?_)
    | with_reducible apply refresh_keeps | with_reducible apply raise_keeps | with_reducible apply record_keeps
    | split
    | dsimp only

theorem chanFault_keeps {t₀ : State} (ch : Fin 48) (cause p2 : Nat) (s : State) (h₀ : Keeps t₀ s) :
    Keeps t₀ (chanFault ch cause p2 s) := by
  unfold chanFault
  repeat' first
    | with_reducible assumption
    | with_reducible exact fun _ => rfl
    | with_reducible exact fun _ _ => rfl
    | with_reducible exact fun _ => ⟨id, id⟩
    | (rename_i hq; have hq2 := congrArg Prod.snd hq; with_reducible dsimp only at hq2; subst hq2)
    | simp only [↓keeps_mk_iff]
    | with_reducible refine keeps_ite ?_ ?_
    | with_reducible refine outKeeps_ite ?_ ?_
    | with_reducible refine outKeeps_next.2 ?_
    | with_reducible refine keeps_ite2 ?_ ?_
    | with_reducible refine keeps_foldl ?_ (fun _ _ _ => ?_)
    | with_reducible apply applySafe_keeps | with_reducible apply setChan_keeps | with_reducible apply raise_keeps | with_reducible apply record_keeps
    | split
    | dsimp only

theorem chanTrip_keeps {t₀ : State} (ch : Fin 48) (cause : Nat) (s : State) (h₀ : Keeps t₀ s) :
    Keeps t₀ (chanTrip ch cause s) := by
  unfold chanTrip
  repeat' first
    | with_reducible assumption
    | with_reducible exact fun _ => rfl
    | with_reducible exact fun _ _ => rfl
    | with_reducible exact fun _ => ⟨id, id⟩
    | (rename_i hq; have hq2 := congrArg Prod.snd hq; with_reducible dsimp only at hq2; subst hq2)
    | simp only [↓keeps_mk_iff]
    | with_reducible refine keeps_ite ?_ ?_
    | with_reducible refine outKeeps_ite ?_ ?_
    | with_reducible refine outKeeps_next.2 ?_
    | with_reducible refine keeps_ite2 ?_ ?_
    | with_reducible refine keeps_foldl ?_ (fun _ _ _ => ?_)
    | with_reducible apply setChan_keeps | with_reducible apply flushQueue_keeps
    | split
    | dsimp only

theorem faultClear_keeps {t₀ : State} (ch : Fin 48) (s : State) (h₀ : Keeps t₀ s) :
    Keeps t₀ (faultClear ch s) := by
  unfold faultClear
  repeat' first
    | with_reducible assumption
    | with_reducible exact fun _ => rfl
    | with_reducible exact fun _ _ => rfl
    | with_reducible exact fun _ => ⟨id, id⟩
    | (rename_i hq; have hq2 := congrArg Prod.snd hq; with_reducible dsimp only at hq2; subst hq2)
    | simp only [↓keeps_mk_iff]
    | with_reducible refine keeps_ite ?_ ?_
    | with_reducible refine outKeeps_ite ?_ ?_
    | with_reducible refine outKeeps_next.2 ?_
    | with_reducible refine keeps_ite2 ?_ ?_
    | with_reducible refine keeps_foldl ?_ (fun _ _ _ => ?_)
    | with_reducible apply setChan_keeps | with_reducible apply applySafe_keeps
    | split
    | dsimp only

theorem fltclrWrite_keeps {t₀ : State} (b : Fin 3) (bits : BitVec 16) (s : State) (h₀ : Keeps t₀ s) :
    Keeps t₀ (fltclrWrite b bits s) := by
  unfold fltclrWrite
  repeat' first
    | with_reducible assumption
    | with_reducible exact fun _ => rfl
    | with_reducible exact fun _ _ => rfl
    | with_reducible exact fun _ => ⟨id, id⟩
    | (rename_i hq; have hq2 := congrArg Prod.snd hq; with_reducible dsimp only at hq2; subst hq2)
    | simp only [↓keeps_mk_iff]
    | with_reducible refine keeps_ite ?_ ?_
    | with_reducible refine outKeeps_ite ?_ ?_
    | with_reducible refine outKeeps_next.2 ?_
    | with_reducible refine keeps_ite2 ?_ ?_
    | with_reducible refine keeps_foldl ?_ (fun _ _ _ => ?_)
    | with_reducible apply faultClear_keeps
    | split
    | dsimp only

theorem launch_keeps {t₀ : State} (ch : Fin 48) (st late step : Bool) (s : State) (h₀ : Keeps t₀ s) :
    Keeps t₀ (launch ch st late step s).2 := by
  unfold launch
  repeat' first
    | with_reducible assumption
    | with_reducible exact fun _ => rfl
    | with_reducible exact fun _ _ => rfl
    | with_reducible exact fun _ => ⟨id, id⟩
    | (rename_i hq; have hq2 := congrArg Prod.snd hq; with_reducible dsimp only at hq2; subst hq2)
    | simp only [↓keeps_mk_iff]
    | with_reducible refine keeps_ite ?_ ?_
    | with_reducible refine outKeeps_ite ?_ ?_
    | with_reducible refine outKeeps_next.2 ?_
    | with_reducible refine keeps_ite2 ?_ ?_
    | with_reducible refine keeps_foldl ?_ (fun _ _ _ => ?_)
    | with_reducible apply step_keeps | with_reducible apply setChan_keeps | with_reducible apply setCmd_keeps | with_reducible apply setBank_keeps
    | split
    | dsimp only

theorem launchLate_keeps {t₀ : State} (ch : Fin 48) (st step : Bool) (lateNs : Int) (s : State) (h₀ : Keeps t₀ s) :
    Keeps t₀ (launchLate ch st step lateNs s) := by
  unfold launchLate
  repeat' first
    | with_reducible assumption
    | with_reducible exact fun _ => rfl
    | with_reducible exact fun _ _ => rfl
    | with_reducible exact fun _ => ⟨id, id⟩
    | (rename_i hq; have hq2 := congrArg Prod.snd hq; with_reducible dsimp only at hq2; subst hq2)
    | simp only [↓keeps_mk_iff]
    | with_reducible refine keeps_ite ?_ ?_
    | with_reducible refine outKeeps_ite ?_ ?_
    | with_reducible refine outKeeps_next.2 ?_
    | with_reducible refine keeps_ite2 ?_ ?_
    | with_reducible refine keeps_foldl ?_ (fun _ _ _ => ?_)
    | with_reducible apply launch_keeps | with_reducible apply step_keeps | with_reducible apply raise_keeps | with_reducible apply record_keeps | with_reducible apply setBank_keeps
    | split
    | dsimp only

theorem glazeRefuse_keeps {t₀ : State} (ch : Fin 48) (code p1 p2 : Nat) (s : State) (h₀ : Keeps t₀ s) :
    Keeps t₀ (glazeRefuse ch code p1 p2 s) := by
  unfold glazeRefuse
  repeat' first
    | with_reducible assumption
    | with_reducible exact fun _ => rfl
    | with_reducible exact fun _ _ => rfl
    | with_reducible exact fun _ => ⟨id, id⟩
    | (rename_i hq; have hq2 := congrArg Prod.snd hq; with_reducible dsimp only at hq2; subst hq2)
    | simp only [↓keeps_mk_iff]
    | with_reducible refine keeps_ite ?_ ?_
    | with_reducible refine outKeeps_ite ?_ ?_
    | with_reducible refine outKeeps_next.2 ?_
    | with_reducible refine keeps_ite2 ?_ ?_
    | with_reducible refine keeps_foldl ?_ (fun _ _ _ => ?_)
    | with_reducible apply raise_keeps | with_reducible apply record_keeps | with_reducible apply setBank_keeps
    | split
    | dsimp only

theorem glazePost_keeps {t₀ : State} (ch : Fin 48) (st : Bool) (ns : Int) (s : State) (h₀ : Keeps t₀ s) :
    Keeps t₀ (glazePost ch st ns s) := by
  unfold glazePost
  repeat' first
    | with_reducible assumption
    | with_reducible exact fun _ => rfl
    | with_reducible exact fun _ _ => rfl
    | with_reducible exact fun _ => ⟨id, id⟩
    | (rename_i hq; have hq2 := congrArg Prod.snd hq; with_reducible dsimp only at hq2; subst hq2)
    | simp only [↓keeps_mk_iff]
    | with_reducible refine keeps_ite ?_ ?_
    | with_reducible refine outKeeps_ite ?_ ?_
    | with_reducible refine outKeeps_next.2 ?_
    | with_reducible refine keeps_ite2 ?_ ?_
    | with_reducible refine keeps_foldl ?_ (fun _ _ _ => ?_)
    | with_reducible apply glazeRefuse_keeps | with_reducible apply launchLate_keeps | with_reducible apply record_keeps | with_reducible apply setChan_keeps
    | split
    | dsimp only

theorem stepForward_keeps {t₀ : State} (ch : Fin 48) (now : Int) (s : State) (h₀ : Keeps t₀ s) :
    Keeps t₀ (stepForward ch now s) := by
  unfold stepForward
  repeat' first
    | with_reducible assumption
    | with_reducible exact fun _ => rfl
    | with_reducible exact fun _ _ => rfl
    | with_reducible exact fun _ => ⟨id, id⟩
    | (rename_i hq; have hq2 := congrArg Prod.snd hq; with_reducible dsimp only at hq2; subst hq2)
    | simp only [↓keeps_mk_iff]
    | with_reducible refine keeps_ite ?_ ?_
    | with_reducible refine outKeeps_ite ?_ ?_
    | with_reducible refine outKeeps_next.2 ?_
    | with_reducible refine keeps_ite2 ?_ ?_
    | with_reducible refine keeps_foldl ?_ (fun _ _ _ => ?_)
    | with_reducible apply launchLate_keeps | with_reducible apply setChan_keeps
    | split
    | dsimp only

theorem stepBackward_keeps {t₀ : State} (ch : Fin 48) (now : Int) (s : State) (h₀ : Keeps t₀ s) :
    Keeps t₀ (stepBackward ch now s) := by
  unfold stepBackward
  repeat' first
    | with_reducible assumption
    | with_reducible exact fun _ => rfl
    | with_reducible exact fun _ _ => rfl
    | with_reducible exact fun _ => ⟨id, id⟩
    | (rename_i hq; have hq2 := congrArg Prod.snd hq; with_reducible dsimp only at hq2; subst hq2)
    | simp only [↓keeps_mk_iff]
    | with_reducible refine keeps_ite ?_ ?_
    | with_reducible refine outKeeps_ite ?_ ?_
    | with_reducible refine outKeeps_next.2 ?_
    | with_reducible refine keeps_ite2 ?_ ?_
    | with_reducible refine keeps_foldl ?_ (fun _ _ _ => ?_)
    | with_reducible apply raise_keeps | with_reducible apply record_keeps | with_reducible apply setChan_keeps
    | split
    | dsimp only

theorem pushEvent_keeps {t₀ : State} (ch : Fin 48) (ns : Int) (rising integ : Bool) (s : State) (h₀ : Keeps t₀ s) :
    Keeps t₀ (pushEvent ch ns rising integ s) := by
  unfold pushEvent
  repeat' first
    | with_reducible assumption
    | with_reducible exact fun _ => rfl
    | with_reducible exact fun _ _ => rfl
    | with_reducible exact fun _ => ⟨id, id⟩
    | (rename_i hq; have hq2 := congrArg Prod.snd hq; with_reducible dsimp only at hq2; subst hq2)
    | simp only [↓keeps_mk_iff]
    | with_reducible refine keeps_ite ?_ ?_
    | with_reducible refine outKeeps_ite ?_ ?_
    | with_reducible refine outKeeps_next.2 ?_
    | with_reducible refine keeps_ite2 ?_ ?_
    | with_reducible refine keeps_foldl ?_ (fun _ _ _ => ?_)
    | with_reducible apply raise_keeps | with_reducible apply setBank_keeps | with_reducible apply record_keeps
    | split
    | dsimp only

theorem readEvt0_keeps {t₀ : State} (k : Fin 3) (s : State) (h₀ : Keeps t₀ s) :
    Keeps t₀ (readEvt0 k s).2 := by
  unfold readEvt0
  repeat' first
    | with_reducible assumption
    | with_reducible exact fun _ => rfl
    | with_reducible exact fun _ _ => rfl
    | with_reducible exact fun _ => ⟨id, id⟩
    | (rename_i hq; have hq2 := congrArg Prod.snd hq; with_reducible dsimp only at hq2; subst hq2)
    | simp only [↓keeps_mk_iff]
    | with_reducible refine keeps_ite ?_ ?_
    | with_reducible refine outKeeps_ite ?_ ?_
    | with_reducible refine outKeeps_next.2 ?_
    | with_reducible refine keeps_ite2 ?_ ?_
    | with_reducible refine keeps_foldl ?_ (fun _ _ _ => ?_)
    | with_reducible apply setBank_keeps
    | split
    | dsimp only

theorem banksReset_keeps {t₀ : State} (s : State) (h₀ : Keeps t₀ s) :
    Keeps t₀ (banksReset s) := by
  unfold banksReset
  repeat' first
    | with_reducible assumption
    | with_reducible exact fun _ => rfl
    | with_reducible exact fun _ _ => rfl
    | with_reducible exact fun _ => ⟨id, id⟩
    | (rename_i hq; have hq2 := congrArg Prod.snd hq; with_reducible dsimp only at hq2; subst hq2)
    | simp only [↓keeps_mk_iff]
    | with_reducible refine keeps_ite ?_ ?_
    | with_reducible refine outKeeps_ite ?_ ?_
    | with_reducible refine outKeeps_next.2 ?_
    | with_reducible refine keeps_ite2 ?_ ?_
    | with_reducible refine keeps_foldl ?_ (fun _ _ _ => ?_)
    | with_reducible apply setChan_keeps | with_reducible apply applySafe_keeps
    | split
    | dsimp only

theorem banksFired_keeps {t₀ : State} (s : State) (h₀ : Keeps t₀ s) :
    Keeps t₀ (banksFired s) := by
  unfold banksFired
  repeat' first
    | with_reducible assumption
    | with_reducible exact fun _ => rfl
    | with_reducible exact fun _ _ => rfl
    | with_reducible exact fun _ => ⟨id, id⟩
    | (rename_i hq; have hq2 := congrArg Prod.snd hq; with_reducible dsimp only at hq2; subst hq2)
    | simp only [↓keeps_mk_iff]
    | with_reducible refine keeps_ite ?_ ?_
    | with_reducible refine outKeeps_ite ?_ ?_
    | with_reducible refine outKeeps_next.2 ?_
    | with_reducible refine keeps_ite2 ?_ ?_
    | with_reducible refine keeps_foldl ?_ (fun _ _ _ => ?_)
    | with_reducible apply setChan_keeps
    | split
    | dsimp only

theorem putParam_keeps {t₀ : State} (idx sub v : Nat) (s : State) (h₀ : Keeps t₀ s) :
    Keeps t₀ (putParam idx sub v s) := by
  unfold putParam
  repeat' first
    | with_reducible assumption
    | with_reducible exact fun _ => rfl
    | with_reducible exact fun _ _ => rfl
    | with_reducible exact fun _ => ⟨id, id⟩
    | (rename_i hq; have hq2 := congrArg Prod.snd hq; with_reducible dsimp only at hq2; subst hq2)
    | simp only [↓keeps_mk_iff]
    | with_reducible refine keeps_ite ?_ ?_
    | with_reducible refine outKeeps_ite ?_ ?_
    | with_reducible refine outKeeps_next.2 ?_
    | with_reducible refine keeps_ite2 ?_ ?_
    | with_reducible refine keeps_foldl ?_ (fun _ _ _ => ?_)
    | split
    | dsimp only

theorem setLnc_keeps {t₀ : State} (f : Lnc → Lnc) (s : State) (h₀ : Keeps t₀ s) :
    Keeps t₀ (setLnc f s) := by
  unfold setLnc
  repeat' first
    | with_reducible assumption
    | with_reducible exact fun _ => rfl
    | with_reducible exact fun _ _ => rfl
    | with_reducible exact fun _ => ⟨id, id⟩
    | (rename_i hq; have hq2 := congrArg Prod.snd hq; with_reducible dsimp only at hq2; subst hq2)
    | simp only [↓keeps_mk_iff]
    | with_reducible refine keeps_ite ?_ ?_
    | with_reducible refine outKeeps_ite ?_ ?_
    | with_reducible refine outKeeps_next.2 ?_
    | with_reducible refine keeps_ite2 ?_ ?_
    | with_reducible refine keeps_foldl ?_ (fun _ _ _ => ?_)
    | split
    | dsimp only

theorem setSess_keeps {t₀ : State} (i : Fin 6) (f : SessionState → SessionState) (s : State) (h₀ : Keeps t₀ s) :
    Keeps t₀ (setSess i f s) := by
  unfold setSess
  repeat' first
    | with_reducible assumption
    | with_reducible exact fun _ => rfl
    | with_reducible exact fun _ _ => rfl
    | with_reducible exact fun _ => ⟨id, id⟩
    | (rename_i hq; have hq2 := congrArg Prod.snd hq; with_reducible dsimp only at hq2; subst hq2)
    | simp only [↓keeps_mk_iff]
    | with_reducible refine keeps_ite ?_ ?_
    | with_reducible refine outKeeps_ite ?_ ?_
    | with_reducible refine outKeeps_next.2 ?_
    | with_reducible refine keeps_ite2 ?_ ?_
    | with_reducible refine keeps_foldl ?_ (fun _ _ _ => ?_)
    | split
    | dsimp only

theorem replyOnly_keeps {t₀ : State} (b : Session) (a : Answer) (s : State) (h₀ : Keeps t₀ s) :
    Keeps t₀ (replyOnly b a s) := by
  unfold replyOnly
  repeat' first
    | with_reducible assumption
    | with_reducible exact fun _ => rfl
    | with_reducible exact fun _ _ => rfl
    | with_reducible exact fun _ => ⟨id, id⟩
    | (rename_i hq; have hq2 := congrArg Prod.snd hq; with_reducible dsimp only at hq2; subst hq2)
    | simp only [↓keeps_mk_iff]
    | with_reducible refine keeps_ite ?_ ?_
    | with_reducible refine outKeeps_ite ?_ ?_
    | with_reducible refine outKeeps_next.2 ?_
    | with_reducible refine keeps_ite2 ?_ ?_
    | with_reducible refine keeps_foldl ?_ (fun _ _ _ => ?_)
    | split
    | dsimp only

theorem reply_keeps {t₀ : State} (b : Session) (a : Answer) (s : State) (h₀ : Keeps t₀ s) :
    Keeps t₀ (reply b a s) := by
  unfold reply
  repeat' first
    | with_reducible assumption
    | with_reducible exact fun _ => rfl
    | with_reducible exact fun _ _ => rfl
    | with_reducible exact fun _ => ⟨id, id⟩
    | (rename_i hq; have hq2 := congrArg Prod.snd hq; with_reducible dsimp only at hq2; subst hq2)
    | simp only [↓keeps_mk_iff]
    | with_reducible refine keeps_ite ?_ ?_
    | with_reducible refine outKeeps_ite ?_ ?_
    | with_reducible refine outKeeps_next.2 ?_
    | with_reducible refine keeps_ite2 ?_ ?_
    | with_reducible refine keeps_foldl ?_ (fun _ _ _ => ?_)
    | with_reducible apply setSess_keeps | with_reducible apply replyOnly_keeps
    | split
    | dsimp only

theorem serveSwitch_keeps {t₀ : State} (since : Nat) (s : State) (h₀ : Keeps t₀ s) :
    Keeps t₀ (serveSwitch since s) := by
  unfold serveSwitch
  repeat' first
    | with_reducible assumption
    | with_reducible exact fun _ => rfl
    | with_reducible exact fun _ _ => rfl
    | with_reducible exact fun _ => ⟨id, id⟩
    | (rename_i hq; have hq2 := congrArg Prod.snd hq; with_reducible dsimp only at hq2; subst hq2)
    | simp only [↓keeps_mk_iff]
    | with_reducible refine keeps_ite ?_ ?_
    | with_reducible refine outKeeps_ite ?_ ?_
    | with_reducible refine outKeeps_next.2 ?_
    | with_reducible refine keeps_ite2 ?_ ?_
    | with_reducible refine keeps_foldl ?_ (fun _ _ _ => ?_)
    | (intro b u hu; dsimp only)
    | intro b u hu
    | (intro u hu; dsimp only)
    | intro u hu
    | with_reducible apply setLnc_keeps
    | split
    | dsimp only

theorem queueDrop_keeps {t₀ : State} (p : Fin 3) (pcp : Nat) (s : State) (h₀ : Keeps t₀ s) :
    Keeps t₀ (queueDrop p pcp s) := by
  unfold queueDrop
  repeat' first
    | with_reducible assumption
    | with_reducible exact fun _ => rfl
    | with_reducible exact fun _ _ => rfl
    | with_reducible exact fun _ => ⟨id, id⟩
    | (rename_i hq; have hq2 := congrArg Prod.snd hq; with_reducible dsimp only at hq2; subst hq2)
    | simp only [↓keeps_mk_iff]
    | with_reducible refine keeps_ite ?_ ?_
    | with_reducible refine outKeeps_ite ?_ ?_
    | with_reducible refine outKeeps_next.2 ?_
    | with_reducible refine keeps_ite2 ?_ ?_
    | with_reducible refine keeps_foldl ?_ (fun _ _ _ => ?_)
    | with_reducible apply setLnc_keeps | with_reducible apply record_keeps
    | split
    | dsimp only

theorem egressFrame_keeps {t₀ : State} (p : Fin 3) (f : QFrame) (cut fcsOk : Bool) (s : State) (h₀ : Keeps t₀ s) :
    Keeps t₀ (egressFrame p f cut fcsOk s) := by
  unfold egressFrame
  repeat' first
    | with_reducible assumption
    | with_reducible exact fun _ => rfl
    | with_reducible exact fun _ _ => rfl
    | with_reducible exact fun _ => ⟨id, id⟩
    | (rename_i hq; have hq2 := congrArg Prod.snd hq; with_reducible dsimp only at hq2; subst hq2)
    | simp only [↓keeps_mk_iff]
    | with_reducible refine keeps_ite ?_ ?_
    | with_reducible refine outKeeps_ite ?_ ?_
    | with_reducible refine outKeeps_next.2 ?_
    | with_reducible refine keeps_ite2 ?_ ?_
    | with_reducible refine keeps_foldl ?_ (fun _ _ _ => ?_)
    | (intro b u hu; dsimp only)
    | intro b u hu
    | (intro u hu; dsimp only)
    | intro u hu
    | with_reducible apply setLnc_keeps | with_reducible apply queueDrop_keeps
    | split
    | dsimp only

theorem forwardTo_keeps {t₀ : State} (ps : List (Fin 3)) (w vid pcp : Nat) (f : List Byte) (cut fcsOk : Bool) (s : State) (h₀ : Keeps t₀ s) :
    Keeps t₀ (forwardTo ps w vid pcp f cut fcsOk s) := by
  unfold forwardTo
  repeat' first
    | with_reducible assumption
    | with_reducible exact fun _ => rfl
    | with_reducible exact fun _ _ => rfl
    | with_reducible exact fun _ => ⟨id, id⟩
    | (rename_i hq; have hq2 := congrArg Prod.snd hq; with_reducible dsimp only at hq2; subst hq2)
    | simp only [↓keeps_mk_iff]
    | with_reducible refine keeps_ite ?_ ?_
    | with_reducible refine outKeeps_ite ?_ ?_
    | with_reducible refine outKeeps_next.2 ?_
    | with_reducible refine keeps_ite2 ?_ ?_
    | with_reducible refine keeps_foldl ?_ (fun _ _ _ => ?_)
    | with_reducible apply egressFrame_keeps
    | split
    | dsimp only

theorem lncQueue_keeps {t₀ : State} (slot : Fin 8) (s : State) (h₀ : Keeps t₀ s) :
    Keeps t₀ (lncQueue slot s) := by
  unfold lncQueue
  repeat' first
    | with_reducible assumption
    | with_reducible exact fun _ => rfl
    | with_reducible exact fun _ _ => rfl
    | with_reducible exact fun _ => ⟨id, id⟩
    | (rename_i hq; have hq2 := congrArg Prod.snd hq; with_reducible dsimp only at hq2; subst hq2)
    | simp only [↓keeps_mk_iff]
    | with_reducible refine keeps_ite ?_ ?_
    | with_reducible refine outKeeps_ite ?_ ?_
    | with_reducible refine outKeeps_next.2 ?_
    | with_reducible refine keeps_ite2 ?_ ?_
    | with_reducible refine keeps_foldl ?_ (fun _ _ _ => ?_)
    | with_reducible refine keeps_vmem (fun h => Memory.wf_memWriteBe _ _ _ _ h) rfl rfl rfl rfl rfl ?_
    | with_reducible refine keeps_vmem (fun h => Memory.wf_memWrite _ _ h) rfl rfl rfl rfl rfl ?_
    | with_reducible refine keeps_vmem (fun h => Memory.wf_filter _ h) rfl rfl rfl rfl rfl ?_
    | with_reducible refine keeps_mems (fun h => wf_mems_set h (Memory.wf_memWriteBe _ _ _ _ (h _))) rfl rfl rfl rfl rfl ?_
    | with_reducible refine keeps_mems (fun h => wf_mems_set h (Memory.wf_memWrite _ _ (h _))) rfl rfl rfl rfl rfl ?_
    | with_reducible refine keeps_mems (fun h => wf_mems_set h (Memory.wf_memCopyIf _ (h _))) rfl rfl rfl rfl rfl ?_
    | with_reducible refine keeps_mems (fun h => wf_mems_set h (Memory.wf_nil)) rfl rfl rfl rfl rfl ?_
    | with_reducible apply setLnc_keeps | with_reducible apply forwardTo_keeps | with_reducible apply raise_keeps | with_reducible apply record_keeps
    | split
    | dsimp only

theorem lncCommitted_keeps {t₀ : State} (before : List Host.Cell) (s : State) (h₀ : Keeps t₀ s) :
    Keeps t₀ (lncCommitted before s) := by
  unfold lncCommitted
  repeat' first
    | with_reducible assumption
    | with_reducible exact fun _ => rfl
    | with_reducible exact fun _ _ => rfl
    | with_reducible exact fun _ => ⟨id, id⟩
    | (rename_i hq; have hq2 := congrArg Prod.snd hq; with_reducible dsimp only at hq2; subst hq2)
    | simp only [↓keeps_mk_iff]
    | with_reducible refine keeps_ite ?_ ?_
    | with_reducible refine outKeeps_ite ?_ ?_
    | with_reducible refine outKeeps_next.2 ?_
    | with_reducible refine keeps_ite2 ?_ ?_
    | with_reducible refine keeps_foldl ?_ (fun _ _ _ => ?_)
    | with_reducible refine keeps_vmem (fun h => Memory.wf_memWriteBe _ _ _ _ h) rfl rfl rfl rfl rfl ?_
    | with_reducible refine keeps_vmem (fun h => Memory.wf_memWrite _ _ h) rfl rfl rfl rfl rfl ?_
    | with_reducible refine keeps_vmem (fun h => Memory.wf_filter _ h) rfl rfl rfl rfl rfl ?_
    | with_reducible refine keeps_mems (fun h => wf_mems_set h (Memory.wf_memWriteBe _ _ _ _ (h _))) rfl rfl rfl rfl rfl ?_
    | with_reducible refine keeps_mems (fun h => wf_mems_set h (Memory.wf_memWrite _ _ (h _))) rfl rfl rfl rfl rfl ?_
    | with_reducible refine keeps_mems (fun h => wf_mems_set h (Memory.wf_memCopyIf _ (h _))) rfl rfl rfl rfl rfl ?_
    | with_reducible refine keeps_mems (fun h => wf_mems_set h (Memory.wf_nil)) rfl rfl rfl rfl rfl ?_
    | with_reducible apply lncQueue_keeps
    | split
    | dsimp only

theorem setTwl_keeps {t₀ : State} (f : Twin → Twin) (s : State) (h₀ : Keeps t₀ s) :
    Keeps t₀ (setTwl f s) := by
  unfold setTwl
  repeat' first
    | with_reducible assumption
    | with_reducible exact fun _ => rfl
    | with_reducible exact fun _ _ => rfl
    | with_reducible exact fun _ => ⟨id, id⟩
    | (rename_i hq; have hq2 := congrArg Prod.snd hq; with_reducible dsimp only at hq2; subst hq2)
    | simp only [↓keeps_mk_iff]
    | with_reducible refine keeps_ite ?_ ?_
    | with_reducible refine outKeeps_ite ?_ ?_
    | with_reducible refine outKeeps_next.2 ?_
    | with_reducible refine keeps_ite2 ?_ ?_
    | with_reducible refine keeps_foldl ?_ (fun _ _ _ => ?_)
    | split
    | dsimp only

theorem twinRole_keeps {t₀ : State} (r : TwinRole) (cause : Nat) (s : State) (h₀ : Keeps t₀ s) :
    Keeps t₀ (twinRole r cause s) := by
  unfold twinRole
  repeat' first
    | with_reducible assumption
    | with_reducible exact fun _ => rfl
    | with_reducible exact fun _ _ => rfl
    | with_reducible exact fun _ => ⟨id, id⟩
    | (rename_i hq; have hq2 := congrArg Prod.snd hq; with_reducible dsimp only at hq2; subst hq2)
    | simp only [↓keeps_mk_iff]
    | with_reducible refine keeps_ite ?_ ?_
    | with_reducible refine outKeeps_ite ?_ ?_
    | with_reducible refine outKeeps_next.2 ?_
    | with_reducible refine keeps_ite2 ?_ ?_
    | with_reducible refine keeps_foldl ?_ (fun _ _ _ => ?_)
    | with_reducible apply raise_keeps | with_reducible apply record_keeps | with_reducible apply setTwl_keeps
    | split
    | dsimp only

theorem twinHold_keeps {t₀ : State} (on : Bool) (s : State) (h₀ : Keeps t₀ s) :
    Keeps t₀ (twinHold on s) := by
  unfold twinHold
  repeat' first
    | with_reducible assumption
    | with_reducible exact fun _ => rfl
    | with_reducible exact fun _ _ => rfl
    | with_reducible exact fun _ => ⟨id, id⟩
    | (rename_i hq; have hq2 := congrArg Prod.snd hq; with_reducible dsimp only at hq2; subst hq2)
    | simp only [↓keeps_mk_iff]
    | with_reducible refine keeps_ite ?_ ?_
    | with_reducible refine outKeeps_ite ?_ ?_
    | with_reducible refine outKeeps_next.2 ?_
    | with_reducible refine keeps_ite2 ?_ ?_
    | with_reducible refine keeps_foldl ?_ (fun _ _ _ => ?_)
    | split
    | dsimp only

theorem twinSend_keeps {t₀ : State} (ty : Nat) (payload : List Byte) (s : State) (h₀ : Keeps t₀ s) :
    Keeps t₀ (twinSend ty payload s) := by
  unfold twinSend
  repeat' first
    | with_reducible assumption
    | with_reducible exact fun _ => rfl
    | with_reducible exact fun _ _ => rfl
    | with_reducible exact fun _ => ⟨id, id⟩
    | (rename_i hq; have hq2 := congrArg Prod.snd hq; with_reducible dsimp only at hq2; subst hq2)
    | simp only [↓keeps_mk_iff]
    | with_reducible refine keeps_ite ?_ ?_
    | with_reducible refine outKeeps_ite ?_ ?_
    | with_reducible refine outKeeps_next.2 ?_
    | with_reducible refine keeps_ite2 ?_ ?_
    | with_reducible refine keeps_foldl ?_ (fun _ _ _ => ?_)
    | with_reducible apply setTwl_keeps
    | split
    | dsimp only

theorem twinFault_keeps {t₀ : State} (cause state : Nat) (s : State) (h₀ : Keeps t₀ s) :
    Keeps t₀ (twinFault cause state s) := by
  unfold twinFault
  repeat' first
    | with_reducible assumption
    | with_reducible exact fun _ => rfl
    | with_reducible exact fun _ _ => rfl
    | with_reducible exact fun _ => ⟨id, id⟩
    | (rename_i hq; have hq2 := congrArg Prod.snd hq; with_reducible dsimp only at hq2; subst hq2)
    | simp only [↓keeps_mk_iff]
    | with_reducible refine keeps_ite ?_ ?_
    | with_reducible refine outKeeps_ite ?_ ?_
    | with_reducible refine outKeeps_next.2 ?_
    | with_reducible refine keeps_ite2 ?_ ?_
    | with_reducible refine keeps_foldl ?_ (fun _ _ _ => ?_)
    | with_reducible apply twinSend_keeps
    | split
    | dsimp only

theorem twinEnd_keeps {t₀ : State} (cause state : Nat) (s : State) (h₀ : Keeps t₀ s) :
    Keeps t₀ (twinEnd cause state s) := by
  unfold twinEnd
  repeat' first
    | with_reducible assumption
    | with_reducible exact fun _ => rfl
    | with_reducible exact fun _ _ => rfl
    | with_reducible exact fun _ => ⟨id, id⟩
    | (rename_i hq; have hq2 := congrArg Prod.snd hq; with_reducible dsimp only at hq2; subst hq2)
    | simp only [↓keeps_mk_iff]
    | with_reducible refine keeps_ite ?_ ?_
    | with_reducible refine outKeeps_ite ?_ ?_
    | with_reducible refine outKeeps_next.2 ?_
    | with_reducible refine keeps_ite2 ?_ ?_
    | with_reducible refine keeps_foldl ?_ (fun _ _ _ => ?_)
    | with_reducible apply twinRole_keeps | with_reducible apply setTwl_keeps | with_reducible apply twinFault_keeps
    | split
    | dsimp only

theorem integFail_keeps {t₀ : State} (code : Nat) (s : State) (h₀ : Keeps t₀ s) :
    Keeps t₀ (integFail code s) := by
  unfold integFail
  repeat' first
    | with_reducible assumption
    | with_reducible exact fun _ => rfl
    | with_reducible exact fun _ _ => rfl
    | with_reducible exact fun _ => ⟨id, id⟩
    | (rename_i hq; have hq2 := congrArg Prod.snd hq; with_reducible dsimp only at hq2; subst hq2)
    | simp only [↓keeps_mk_iff]
    | with_reducible refine keeps_ite ?_ ?_
    | with_reducible refine outKeeps_ite ?_ ?_
    | with_reducible refine outKeeps_next.2 ?_
    | with_reducible refine keeps_ite2 ?_ ?_
    | with_reducible refine keeps_foldl ?_ (fun _ _ _ => ?_)
    | with_reducible apply raise_keeps | with_reducible apply record_keeps | with_reducible apply setTwl_keeps
    | split
    | dsimp only

theorem standbyDrop_keeps {t₀ : State} (cause : Nat) (s : State) (h₀ : Keeps t₀ s) :
    Keeps t₀ (standbyDrop cause s) := by
  unfold standbyDrop
  repeat' first
    | with_reducible assumption
    | with_reducible exact fun _ => rfl
    | with_reducible exact fun _ _ => rfl
    | with_reducible exact fun _ => ⟨id, id⟩
    | (rename_i hq; have hq2 := congrArg Prod.snd hq; with_reducible dsimp only at hq2; subst hq2)
    | simp only [↓keeps_mk_iff]
    | with_reducible refine keeps_ite ?_ ?_
    | with_reducible refine outKeeps_ite ?_ ?_
    | with_reducible refine outKeeps_next.2 ?_
    | with_reducible refine keeps_ite2 ?_ ?_
    | with_reducible refine keeps_foldl ?_ (fun _ _ _ => ?_)
    | with_reducible apply twinHold_keeps | with_reducible apply twinRole_keeps | with_reducible apply setTwl_keeps
    | split
    | dsimp only

theorem checkPair_keeps {t₀ : State} (own peer : Check) (s : State) (h₀ : Keeps t₀ s) :
    Keeps t₀ (checkPair own peer s) := by
  unfold checkPair
  repeat' first
    | with_reducible assumption
    | with_reducible exact fun _ => rfl
    | with_reducible exact fun _ _ => rfl
    | with_reducible exact fun _ => ⟨id, id⟩
    | (rename_i hq; have hq2 := congrArg Prod.snd hq; with_reducible dsimp only at hq2; subst hq2)
    | simp only [↓keeps_mk_iff]
    | with_reducible refine keeps_ite ?_ ?_
    | with_reducible refine outKeeps_ite ?_ ?_
    | with_reducible refine outKeeps_next.2 ?_
    | with_reducible refine keeps_ite2 ?_ ?_
    | with_reducible refine keeps_foldl ?_ (fun _ _ _ => ?_)
    | with_reducible apply raise_keeps | with_reducible apply record_keeps | with_reducible apply setTwl_keeps | with_reducible apply standbyDrop_keeps
    | split
    | dsimp only

theorem checkOwn_keeps {t₀ : State} (c : Check) (s : State) (h₀ : Keeps t₀ s) :
    Keeps t₀ (checkOwn c s) := by
  unfold checkOwn
  repeat' first
    | with_reducible assumption
    | with_reducible exact fun _ => rfl
    | with_reducible exact fun _ _ => rfl
    | with_reducible exact fun _ => ⟨id, id⟩
    | (rename_i hq; have hq2 := congrArg Prod.snd hq; with_reducible dsimp only at hq2; subst hq2)
    | simp only [↓keeps_mk_iff]
    | with_reducible refine keeps_ite ?_ ?_
    | with_reducible refine outKeeps_ite ?_ ?_
    | with_reducible refine outKeeps_next.2 ?_
    | with_reducible refine keeps_ite2 ?_ ?_
    | with_reducible refine keeps_foldl ?_ (fun _ _ _ => ?_)
    | with_reducible apply checkPair_keeps | with_reducible apply setTwl_keeps
    | split
    | dsimp only

theorem checkPeer_keeps {t₀ : State} (c : Check) (s : State) (h₀ : Keeps t₀ s) :
    Keeps t₀ (checkPeer c s) := by
  unfold checkPeer
  repeat' first
    | with_reducible assumption
    | with_reducible exact fun _ => rfl
    | with_reducible exact fun _ _ => rfl
    | with_reducible exact fun _ => ⟨id, id⟩
    | (rename_i hq; have hq2 := congrArg Prod.snd hq; with_reducible dsimp only at hq2; subst hq2)
    | simp only [↓keeps_mk_iff]
    | with_reducible refine keeps_ite ?_ ?_
    | with_reducible refine outKeeps_ite ?_ ?_
    | with_reducible refine outKeeps_next.2 ?_
    | with_reducible refine keeps_ite2 ?_ ?_
    | with_reducible refine keeps_foldl ?_ (fun _ _ _ => ?_)
    | with_reducible apply checkPair_keeps | with_reducible apply setTwl_keeps
    | split
    | dsimp only

theorem twinCheck_keeps {t₀ : State} (task : Fin 8) (cycle : Nat) (committed : Bool) (crc : Nat) (s : State) (h₀ : Keeps t₀ s) :
    Keeps t₀ (twinCheck task cycle committed crc s) := by
  unfold twinCheck
  repeat' first
    | with_reducible assumption
    | with_reducible exact fun _ => rfl
    | with_reducible exact fun _ _ => rfl
    | with_reducible exact fun _ => ⟨id, id⟩
    | (rename_i hq; have hq2 := congrArg Prod.snd hq; with_reducible dsimp only at hq2; subst hq2)
    | simp only [↓keeps_mk_iff]
    | with_reducible refine keeps_ite ?_ ?_
    | with_reducible refine outKeeps_ite ?_ ?_
    | with_reducible refine outKeeps_next.2 ?_
    | with_reducible refine keeps_ite2 ?_ ?_
    | with_reducible refine keeps_foldl ?_ (fun _ _ _ => ?_)
    | with_reducible apply twinSend_keeps | with_reducible apply checkOwn_keeps
    | split
    | dsimp only

theorem twinCommitted_keeps {t₀ : State} (s : State) (h₀ : Keeps t₀ s) :
    Keeps t₀ (twinCommitted s) := by
  unfold twinCommitted
  repeat' first
    | with_reducible assumption
    | with_reducible exact fun _ => rfl
    | with_reducible exact fun _ _ => rfl
    | with_reducible exact fun _ => ⟨id, id⟩
    | (rename_i hq; have hq2 := congrArg Prod.snd hq; with_reducible dsimp only at hq2; subst hq2)
    | simp only [↓keeps_mk_iff]
    | with_reducible refine keeps_ite ?_ ?_
    | with_reducible refine outKeeps_ite ?_ ?_
    | with_reducible refine outKeeps_next.2 ?_
    | with_reducible refine keeps_ite2 ?_ ?_
    | with_reducible refine keeps_foldl ?_ (fun _ _ _ => ?_)
    | with_reducible apply twinHold_keeps | with_reducible apply setTwl_keeps
    | split
    | dsimp only

theorem markShared_keeps {t₀ : State} (a n : Nat) (s : State) (h₀ : Keeps t₀ s) :
    Keeps t₀ (markShared a n s) := by
  unfold markShared
  repeat' first
    | with_reducible assumption
    | with_reducible exact fun _ => rfl
    | with_reducible exact fun _ _ => rfl
    | with_reducible exact fun _ => ⟨id, id⟩
    | (rename_i hq; have hq2 := congrArg Prod.snd hq; with_reducible dsimp only at hq2; subst hq2)
    | simp only [↓keeps_mk_iff]
    | with_reducible refine keeps_ite ?_ ?_
    | with_reducible refine outKeeps_ite ?_ ?_
    | with_reducible refine outKeeps_next.2 ?_
    | with_reducible refine keeps_ite2 ?_ ?_
    | with_reducible refine keeps_foldl ?_ (fun _ _ _ => ?_)
    | with_reducible apply setTwl_keeps
    | split
    | dsimp only

theorem vwrite_keeps {t₀ : State} (a : Nat) (bs : List Byte) (s : State) (h₀ : Keeps t₀ s) :
    Keeps t₀ (vwrite a bs s) := by
  unfold vwrite
  apply markShared_keeps
  refine keeps_mk ?_ id h₀
  intro x
  have y := (memWf_iff s).1 x
  exact ⟨Memory.wf_memWrite _ _ y.1, y.2⟩

theorem setTask_keeps {t₀ : State} (n : Fin 8) (f : Task → Task) (s : State) (h₀ : Keeps t₀ s) :
    Keeps t₀ (setTask n f s) := by
  unfold setTask
  repeat' first
    | with_reducible assumption
    | with_reducible exact fun _ => rfl
    | with_reducible exact fun _ _ => rfl
    | with_reducible exact fun _ => ⟨id, id⟩
    | (rename_i hq; have hq2 := congrArg Prod.snd hq; with_reducible dsimp only at hq2; subst hq2)
    | simp only [↓keeps_mk_iff]
    | with_reducible refine keeps_ite ?_ ?_
    | with_reducible refine outKeeps_ite ?_ ?_
    | with_reducible refine outKeeps_next.2 ?_
    | with_reducible refine keeps_ite2 ?_ ?_
    | with_reducible refine keeps_foldl ?_ (fun _ _ _ => ?_)
    | split
    | dsimp only

theorem mapTasks_keeps {t₀ : State} (f : Task → Task) (s : State) (h₀ : Keeps t₀ s) :
    Keeps t₀ (mapTasks f s) := by
  unfold mapTasks
  repeat' first
    | with_reducible assumption
    | with_reducible exact fun _ => rfl
    | with_reducible exact fun _ _ => rfl
    | with_reducible exact fun _ => ⟨id, id⟩
    | (rename_i hq; have hq2 := congrArg Prod.snd hq; with_reducible dsimp only at hq2; subst hq2)
    | simp only [↓keeps_mk_iff]
    | with_reducible refine keeps_ite ?_ ?_
    | with_reducible refine outKeeps_ite ?_ ?_
    | with_reducible refine outKeeps_next.2 ?_
    | with_reducible refine keeps_ite2 ?_ ?_
    | with_reducible refine keeps_foldl ?_ (fun _ _ _ => ?_)
    | split
    | dsimp only

theorem latchEntry_keeps {t₀ : State} (consumer : Bool) (inImg : Nat) (e : ListEntry) (s : State) (h₀ : Keeps t₀ s) :
    Keeps t₀ (latchEntry consumer inImg e s) := by
  unfold latchEntry
  repeat' first
    | with_reducible assumption
    | with_reducible exact fun _ => rfl
    | with_reducible exact fun _ _ => rfl
    | with_reducible exact fun _ => ⟨id, id⟩
    | (rename_i hq; have hq2 := congrArg Prod.snd hq; with_reducible dsimp only at hq2; subst hq2)
    | simp only [↓keeps_mk_iff]
    | with_reducible refine keeps_ite ?_ ?_
    | with_reducible refine outKeeps_ite ?_ ?_
    | with_reducible refine outKeeps_next.2 ?_
    | with_reducible refine keeps_ite2 ?_ ?_
    | with_reducible refine keeps_foldl ?_ (fun _ _ _ => ?_)
    | with_reducible apply bwCopy_keeps | with_reducible apply vwrite_keeps
    | split
    | dsimp only

theorem latchXenex_keeps {t₀ : State} (n : Fin 8) (c : TaskCfg) (s : State) (h₀ : Keeps t₀ s) :
    Keeps t₀ (latchXenex n c s).1 := by
  unfold latchXenex
  split
  · exact h₀
  · split
    · dsimp only
      split
      · dsimp only
        simp only [↓keeps_mk_iff]
        split
        · refine keeps_mk ?_ id h₀
          intro x
          have y := (memWf_iff s).1 x
          exact ⟨y.1, y.2.1, y.2.2.1, Memory.wf_filter _ y.1, y.2.2.2.2⟩
        · apply raise_keeps
          apply record_keeps
          simp only [↓keeps_mk_iff]
          exact h₀
      · exact h₀
    · exact h₀

theorem sendInput_keeps {t₀ : State} (n : Fin 8) (cycle off : Nat) (k : Nat) (bs : List Byte) (s : State)
    (h₀ : Keeps t₀ s) : Keeps t₀ (sendInput n cycle off k bs s) := by
  induction k generalizing off bs s with
  | zero => exact h₀
  | succ k ih =>
    unfold sendInput
    split
    · exact h₀
    · apply ih; apply twinSend_keeps; exact h₀

theorem ownLatch_keeps {t₀ : State} (n : Fin 8) (c : TaskCfg) (s : State) (h₀ : Keeps t₀ s) :
    Keeps t₀ (ownLatch n c s) := by
  unfold ownLatch
  repeat' first
    | with_reducible assumption
    | with_reducible exact fun _ => rfl
    | with_reducible exact fun _ _ => rfl
    | with_reducible exact fun _ => ⟨id, id⟩
    | (rename_i hq; have hq2 := congrArg Prod.snd hq; with_reducible dsimp only at hq2; subst hq2)
    | simp only [↓keeps_mk_iff]
    | with_reducible refine keeps_ite ?_ ?_
    | with_reducible refine outKeeps_ite ?_ ?_
    | with_reducible refine outKeeps_next.2 ?_
    | with_reducible refine keeps_ite2 ?_ ?_
    | with_reducible refine keeps_foldl ?_ (fun _ _ _ => ?_)
    | with_reducible apply latchXenex_keeps | with_reducible apply vwrite_keeps | with_reducible apply latchEntry_keeps | with_reducible apply setLnc_keeps | with_reducible apply sendInput_keeps
    | split
    | dsimp only

theorem beginLatch_keeps {t₀ : State} (n : Fin 8) (s : State) (h₀ : Keeps t₀ s) :
    Keeps t₀ (beginLatch n s) := by
  unfold beginLatch
  repeat' first
    | with_reducible assumption
    | with_reducible exact fun _ => rfl
    | with_reducible exact fun _ _ => rfl
    | with_reducible exact fun _ => ⟨id, id⟩
    | (rename_i hq; have hq2 := congrArg Prod.snd hq; with_reducible dsimp only at hq2; subst hq2)
    | simp only [↓keeps_mk_iff]
    | with_reducible refine keeps_ite ?_ ?_
    | with_reducible refine outKeeps_ite ?_ ?_
    | with_reducible refine outKeeps_next.2 ?_
    | with_reducible refine keeps_ite2 ?_ ?_
    | with_reducible refine keeps_foldl ?_ (fun _ _ _ => ?_)
    | with_reducible apply setTwl_keeps | with_reducible apply vwrite_keeps | with_reducible apply ownLatch_keeps | with_reducible apply standbyDrop_keeps | with_reducible apply record_keeps | with_reducible apply setTask_keeps | with_reducible apply step_keeps
    | split
    | dsimp only

theorem closeCycle_keeps {t₀ : State} (n : Fin 8) (glaze : Option Nat) (s : State) (h₀ : Keeps t₀ s) :
    Keeps t₀ (closeCycle n glaze s) := by
  unfold closeCycle
  repeat' first
    | with_reducible assumption
    | with_reducible exact fun _ => rfl
    | with_reducible exact fun _ _ => rfl
    | with_reducible exact fun _ => ⟨id, id⟩
    | (rename_i hq; have hq2 := congrArg Prod.snd hq; with_reducible dsimp only at hq2; subst hq2)
    | simp only [↓keeps_mk_iff]
    | with_reducible refine keeps_ite ?_ ?_
    | with_reducible refine outKeeps_ite ?_ ?_
    | with_reducible refine outKeeps_next.2 ?_
    | with_reducible refine keeps_ite2 ?_ ?_
    | with_reducible refine keeps_foldl ?_ (fun _ _ _ => ?_)
    | with_reducible apply twinCheck_keeps | with_reducible apply setTask_keeps
    | split
    | dsimp only

theorem startCommit_keeps {t₀ : State} (s : State) (h₀ : Keeps t₀ s) :
    Keeps t₀ (startCommit s) := by
  unfold startCommit
  repeat' first
    | with_reducible assumption
    | with_reducible exact fun _ => rfl
    | with_reducible exact fun _ _ => rfl
    | with_reducible exact fun _ => ⟨id, id⟩
    | (rename_i hq; have hq2 := congrArg Prod.snd hq; with_reducible dsimp only at hq2; subst hq2)
    | simp only [↓keeps_mk_iff]
    | with_reducible refine keeps_ite ?_ ?_
    | with_reducible refine outKeeps_ite ?_ ?_
    | with_reducible refine outKeeps_next.2 ?_
    | with_reducible refine keeps_ite2 ?_ ?_
    | with_reducible refine keeps_foldl ?_ (fun _ _ _ => ?_)
    | split
    | dsimp only

theorem queueCommit_keeps {t₀ : State} (n : Fin 8) (glaze : Nat) (s : State) (h₀ : Keeps t₀ s) :
    Keeps t₀ (queueCommit n glaze s) := by
  unfold queueCommit
  repeat' first
    | with_reducible assumption
    | with_reducible exact fun _ => rfl
    | with_reducible exact fun _ _ => rfl
    | with_reducible exact fun _ => ⟨id, id⟩
    | (rename_i hq; have hq2 := congrArg Prod.snd hq; with_reducible dsimp only at hq2; subst hq2)
    | simp only [↓keeps_mk_iff]
    | with_reducible refine keeps_ite ?_ ?_
    | with_reducible refine outKeeps_ite ?_ ?_
    | with_reducible refine outKeeps_next.2 ?_
    | with_reducible refine keeps_ite2 ?_ ?_
    | with_reducible refine keeps_foldl ?_ (fun _ _ _ => ?_)
    | with_reducible apply startCommit_keeps | with_reducible apply setTask_keeps
    | split
    | dsimp only

theorem releaseHeld_keeps {t₀ : State} (s : State) (h₀ : Keeps t₀ s) :
    Keeps t₀ (releaseHeld s) := by
  unfold releaseHeld
  repeat' first
    | with_reducible assumption
    | with_reducible exact fun _ => rfl
    | with_reducible exact fun _ _ => rfl
    | with_reducible exact fun _ => ⟨id, id⟩
    | (rename_i hq; have hq2 := congrArg Prod.snd hq; with_reducible dsimp only at hq2; subst hq2)
    | simp only [↓keeps_mk_iff]
    | with_reducible refine keeps_ite ?_ ?_
    | with_reducible refine outKeeps_ite ?_ ?_
    | with_reducible refine outKeeps_next.2 ?_
    | with_reducible refine keeps_ite2 ?_ ?_
    | with_reducible refine keeps_foldl ?_ (fun _ _ _ => ?_)
    | with_reducible apply setTask_keeps | with_reducible apply startCommit_keeps
    | split
    | dsimp only

theorem cycleDone_keeps {t₀ : State} (n : Fin 8) (glaze : Nat) (s : State) (h₀ : Keeps t₀ s) :
    Keeps t₀ (cycleDone n glaze s) := by
  unfold cycleDone
  repeat' first
    | with_reducible assumption
    | with_reducible exact fun _ => rfl
    | with_reducible exact fun _ _ => rfl
    | with_reducible exact fun _ => ⟨id, id⟩
    | (rename_i hq; have hq2 := congrArg Prod.snd hq; with_reducible dsimp only at hq2; subst hq2)
    | simp only [↓keeps_mk_iff]
    | with_reducible refine keeps_ite ?_ ?_
    | with_reducible refine outKeeps_ite ?_ ?_
    | with_reducible refine outKeeps_next.2 ?_
    | with_reducible refine keeps_ite2 ?_ ?_
    | with_reducible refine keeps_foldl ?_ (fun _ _ _ => ?_)
    | with_reducible apply setTask_keeps | with_reducible apply queueCommit_keeps | with_reducible apply closeCycle_keeps
    | split
    | dsimp only

theorem commitEntry_keeps {t₀ : State} (c : TaskCfg) (e : ListEntry) (s : State) (h₀ : Keeps t₀ s) :
    Keeps t₀ (commitEntry c e s) := by
  unfold commitEntry
  repeat' first
    | with_reducible assumption
    | with_reducible exact fun _ => rfl
    | with_reducible exact fun _ _ => rfl
    | with_reducible exact fun _ => ⟨id, id⟩
    | (rename_i hq; have hq2 := congrArg Prod.snd hq; with_reducible dsimp only at hq2; subst hq2)
    | simp only [↓keeps_mk_iff]
    | with_reducible refine keeps_ite ?_ ?_
    | with_reducible refine outKeeps_ite ?_ ?_
    | with_reducible refine outKeeps_next.2 ?_
    | with_reducible refine keeps_ite2 ?_ ?_
    | with_reducible refine keeps_foldl ?_ (fun _ _ _ => ?_)
    | with_reducible apply bwCopy_keeps | with_reducible apply bankCommit_keeps | with_reducible apply vwrite_keeps
    | split
    | dsimp only

theorem commitCopies_keeps {t₀ : State} (n : Fin 8) (s : State) (h₀ : Keeps t₀ s) :
    Keeps t₀ (commitCopies n s) := by
  unfold commitCopies
  repeat' first
    | with_reducible assumption
    | with_reducible exact fun _ => rfl
    | with_reducible exact fun _ _ => rfl
    | with_reducible exact fun _ => ⟨id, id⟩
    | (rename_i hq; have hq2 := congrArg Prod.snd hq; with_reducible dsimp only at hq2; subst hq2)
    | simp only [↓keeps_mk_iff]
    | with_reducible refine keeps_ite ?_ ?_
    | with_reducible refine outKeeps_ite ?_ ?_
    | with_reducible refine outKeeps_next.2 ?_
    | with_reducible refine keeps_ite2 ?_ ?_
    | with_reducible refine keeps_foldl ?_ (fun _ _ _ => ?_)
    | with_reducible refine keeps_vmem (fun h => Memory.wf_memWriteBe _ _ _ _ h) rfl rfl rfl rfl rfl ?_
    | with_reducible refine keeps_vmem (fun h => Memory.wf_memWrite _ _ h) rfl rfl rfl rfl rfl ?_
    | with_reducible refine keeps_vmem (fun h => Memory.wf_filter _ h) rfl rfl rfl rfl rfl ?_
    | with_reducible refine keeps_mems (fun h => wf_mems_set h (Memory.wf_memWriteBe _ _ _ _ (h _))) rfl rfl rfl rfl rfl ?_
    | with_reducible refine keeps_mems (fun h => wf_mems_set h (Memory.wf_memWrite _ _ (h _))) rfl rfl rfl rfl rfl ?_
    | with_reducible refine keeps_mems (fun h => wf_mems_set h (Memory.wf_memCopyIf _ (h _))) rfl rfl rfl rfl rfl ?_
    | with_reducible refine keeps_mems (fun h => wf_mems_set h (Memory.wf_nil)) rfl rfl rfl rfl rfl ?_
    | with_reducible apply commitEntry_keeps | with_reducible apply lncCommitted_keeps | with_reducible apply twinCommitted_keeps
    | split
    | dsimp only

theorem postEntry_keeps {t₀ : State} (n : Fin 8) (c : TaskCfg) (b : List Byte) (s : State) (h₀ : Keeps t₀ s) :
    Keeps t₀ (postEntry n c b s) := by
  unfold postEntry
  repeat' first
    | with_reducible assumption
    | with_reducible exact fun _ => rfl
    | with_reducible exact fun _ _ => rfl
    | with_reducible exact fun _ => ⟨id, id⟩
    | (rename_i hq; have hq2 := congrArg Prod.snd hq; with_reducible dsimp only at hq2; subst hq2)
    | simp only [↓keeps_mk_iff]
    | with_reducible refine keeps_ite ?_ ?_
    | with_reducible refine outKeeps_ite ?_ ?_
    | with_reducible refine outKeeps_next.2 ?_
    | with_reducible refine keeps_ite2 ?_ ?_
    | with_reducible refine keeps_foldl ?_ (fun _ _ _ => ?_)
    | with_reducible apply glazePost_keeps | with_reducible apply record_keeps
    | split
    | dsimp only

theorem postEntries_keeps {t₀ : State} (n : Fin 8) (c : TaskCfg) (i k : Nat) (s : State)
    (h₀ : Keeps t₀ s) : Keeps t₀ (postEntries n c i k s) := by
  induction k generalizing i s with
  | zero => exact h₀
  | succ k ih => exact ih _ _ (postEntry_keeps _ _ _ _ h₀)

theorem cysStop_keeps {t₀ : State} (s : State) (h₀ : Keeps t₀ s) :
    Keeps t₀ (cysStop s) := by
  unfold cysStop
  repeat' first
    | with_reducible assumption
    | with_reducible exact fun _ => rfl
    | with_reducible exact fun _ _ => rfl
    | with_reducible exact fun _ => ⟨id, id⟩
    | (rename_i hq; have hq2 := congrArg Prod.snd hq; with_reducible dsimp only at hq2; subst hq2)
    | simp only [↓keeps_mk_iff]
    | with_reducible refine keeps_ite ?_ ?_
    | with_reducible refine outKeeps_ite ?_ ?_
    | with_reducible refine outKeeps_next.2 ?_
    | with_reducible refine keeps_ite2 ?_ ?_
    | with_reducible refine keeps_foldl ?_ (fun _ _ _ => ?_)
    | with_reducible apply mapTasks_keeps
    | split
    | dsimp only

theorem setXn_keeps {t₀ : State} (f : Xenex → Xenex) (s : State)
    (hf : ∀ x : Xenex, (f x).txArea = x.txArea) (h₀ : Keeps t₀ s) : Keeps t₀ (setXn f s) := by
  unfold setXn
  exact (keeps_mk_iff rfl rfl rfl (hf _) rfl rfl).2 h₀

theorem xnSend_keeps {t₀ : State} (ty flags dst : Nat) (payload : List Byte) (s : State) (h₀ : Keeps t₀ s) :
    Keeps t₀ (xnSend ty flags dst payload s) := by
  unfold xnSend
  repeat' first
    | with_reducible assumption
    | with_reducible exact fun _ => rfl
    | with_reducible exact fun _ _ => rfl
    | with_reducible exact fun _ => ⟨id, id⟩
    | (rename_i hq; have hq2 := congrArg Prod.snd hq; with_reducible dsimp only at hq2; subst hq2)
    | simp only [↓keeps_mk_iff]
    | with_reducible refine keeps_ite ?_ ?_
    | with_reducible refine outKeeps_ite ?_ ?_
    | with_reducible refine outKeeps_next.2 ?_
    | with_reducible refine keeps_ite2 ?_ ?_
    | with_reducible refine keeps_foldl ?_ (fun _ _ _ => ?_)
    | with_reducible apply setXn_keeps
    | split
    | dsimp only

theorem chanDown_keeps {t₀ : State} (k : Fin 2) (why : Nat) (s : State) (h₀ : Keeps t₀ s) :
    Keeps t₀ (chanDown k why s) := by
  unfold chanDown
  repeat' first
    | with_reducible assumption
    | with_reducible exact fun _ => rfl
    | with_reducible exact fun _ _ => rfl
    | with_reducible exact fun _ => ⟨id, id⟩
    | (rename_i hq; have hq2 := congrArg Prod.snd hq; with_reducible dsimp only at hq2; subst hq2)
    | simp only [↓keeps_mk_iff]
    | with_reducible refine keeps_ite ?_ ?_
    | with_reducible refine outKeeps_ite ?_ ?_
    | with_reducible refine outKeeps_next.2 ?_
    | with_reducible refine keeps_ite2 ?_ ?_
    | with_reducible refine keeps_foldl ?_ (fun _ _ _ => ?_)
    | with_reducible apply raise_keeps | with_reducible apply record_keeps | with_reducible apply setXn_keeps
    | split
    | dsimp only

theorem chanGood_keeps {t₀ : State} (k : Fin 2) (s : State) (h₀ : Keeps t₀ s) :
    Keeps t₀ (chanGood k s) := by
  unfold chanGood
  repeat' first
    | with_reducible assumption
    | with_reducible exact fun _ => rfl
    | with_reducible exact fun _ _ => rfl
    | with_reducible exact fun _ => ⟨id, id⟩
    | (rename_i hq; have hq2 := congrArg Prod.snd hq; with_reducible dsimp only at hq2; subst hq2)
    | simp only [↓keeps_mk_iff]
    | with_reducible refine keeps_ite ?_ ?_
    | with_reducible refine outKeeps_ite ?_ ?_
    | with_reducible refine outKeeps_next.2 ?_
    | with_reducible refine keeps_ite2 ?_ ?_
    | with_reducible refine keeps_foldl ?_ (fun _ _ _ => ?_)
    | with_reducible apply setXn_keeps | with_reducible apply raise_keeps | with_reducible apply record_keeps
    | split
    | dsimp only

theorem chanMissed_keeps {t₀ : State} (k : Fin 2) (s : State) (h₀ : Keeps t₀ s) :
    Keeps t₀ (chanMissed k s) := by
  unfold chanMissed
  repeat' first
    | with_reducible assumption
    | with_reducible exact fun _ => rfl
    | with_reducible exact fun _ _ => rfl
    | with_reducible exact fun _ => ⟨id, id⟩
    | (rename_i hq; have hq2 := congrArg Prod.snd hq; with_reducible dsimp only at hq2; subst hq2)
    | simp only [↓keeps_mk_iff]
    | with_reducible refine keeps_ite ?_ ?_
    | with_reducible refine outKeeps_ite ?_ ?_
    | with_reducible refine outKeeps_next.2 ?_
    | with_reducible refine keeps_ite2 ?_ ?_
    | with_reducible refine keeps_foldl ?_ (fun _ _ _ => ?_)
    | with_reducible apply setXn_keeps | with_reducible apply chanDown_keeps
    | split
    | dsimp only

theorem chanEcho_keeps {t₀ : State} (k : Fin 2) (collided : Bool) (s : State) (h₀ : Keeps t₀ s) :
    Keeps t₀ (chanEcho k collided s) := by
  unfold chanEcho
  repeat' first
    | with_reducible assumption
    | with_reducible exact fun _ => rfl
    | with_reducible exact fun _ _ => rfl
    | with_reducible exact fun _ => ⟨id, id⟩
    | (rename_i hq; have hq2 := congrArg Prod.snd hq; with_reducible dsimp only at hq2; subst hq2)
    | simp only [↓keeps_mk_iff]
    | with_reducible refine keeps_ite ?_ ?_
    | with_reducible refine outKeeps_ite ?_ ?_
    | with_reducible refine outKeeps_next.2 ?_
    | with_reducible refine keeps_ite2 ?_ ?_
    | with_reducible refine keeps_foldl ?_ (fun _ _ _ => ?_)
    | with_reducible apply setXn_keeps | with_reducible apply chanDown_keeps
    | split
    | dsimp only

theorem xnEcho_keeps {t₀ : State} (coll : BitVec 2) (s : State) (h₀ : Keeps t₀ s) :
    Keeps t₀ (xnEcho coll s) := by
  unfold xnEcho
  repeat' first
    | with_reducible assumption
    | with_reducible exact fun _ => rfl
    | with_reducible exact fun _ _ => rfl
    | with_reducible exact fun _ => ⟨id, id⟩
    | (rename_i hq; have hq2 := congrArg Prod.snd hq; with_reducible dsimp only at hq2; subst hq2)
    | simp only [↓keeps_mk_iff]
    | with_reducible refine keeps_ite ?_ ?_
    | with_reducible refine outKeeps_ite ?_ ?_
    | with_reducible refine outKeeps_next.2 ?_
    | with_reducible refine keeps_ite2 ?_ ?_
    | with_reducible refine keeps_foldl ?_ (fun _ _ _ => ?_)
    | with_reducible apply chanEcho_keeps
    | split
    | dsimp only

theorem chanError_keeps {t₀ : State} (k : Fin 2) (s : State) (h₀ : Keeps t₀ s) :
    Keeps t₀ (chanError k s) := by
  unfold chanError
  repeat' first
    | with_reducible assumption
    | with_reducible exact fun _ => rfl
    | with_reducible exact fun _ _ => rfl
    | with_reducible exact fun _ => ⟨id, id⟩
    | (rename_i hq; have hq2 := congrArg Prod.snd hq; with_reducible dsimp only at hq2; subst hq2)
    | simp only [↓keeps_mk_iff]
    | with_reducible refine keeps_ite ?_ ?_
    | with_reducible refine outKeeps_ite ?_ ?_
    | with_reducible refine outKeeps_next.2 ?_
    | with_reducible refine keeps_ite2 ?_ ?_
    | with_reducible refine keeps_foldl ?_ (fun _ _ _ => ?_)
    | with_reducible apply setXn_keeps
    | split
    | dsimp only

theorem putStat_keeps {t₀ : State} (i w : Nat) (s : State) (h₀ : Keeps t₀ s) :
    Keeps t₀ (putStat i w s) := by
  unfold putStat
  repeat' first
    | with_reducible assumption
    | with_reducible exact fun _ => rfl
    | with_reducible exact fun _ _ => rfl
    | with_reducible exact fun _ => ⟨id, id⟩
    | (rename_i hq; have hq2 := congrArg Prod.snd hq; with_reducible dsimp only at hq2; subst hq2)
    | simp only [↓keeps_mk_iff]
    | with_reducible refine keeps_ite ?_ ?_
    | with_reducible refine outKeeps_ite ?_ ?_
    | with_reducible refine outKeeps_next.2 ?_
    | with_reducible refine keeps_ite2 ?_ ?_
    | with_reducible refine keeps_foldl ?_ (fun _ _ _ => ?_)
    | with_reducible apply vwrite_keeps
    | split
    | dsimp only

theorem putResult_keeps {t₀ : State} (i r : Nat) (s : State) (h₀ : Keeps t₀ s) :
    Keeps t₀ (putResult i r s) := by
  unfold putResult
  repeat' first
    | with_reducible assumption
    | with_reducible exact fun _ => rfl
    | with_reducible exact fun _ _ => rfl
    | with_reducible exact fun _ => ⟨id, id⟩
    | (rename_i hq; have hq2 := congrArg Prod.snd hq; with_reducible dsimp only at hq2; subst hq2)
    | simp only [↓keeps_mk_iff]
    | with_reducible refine keeps_ite ?_ ?_
    | with_reducible refine outKeeps_ite ?_ ?_
    | with_reducible refine outKeeps_next.2 ?_
    | with_reducible refine keeps_ite2 ?_ ?_
    | with_reducible refine keeps_foldl ?_ (fun _ _ _ => ?_)
    | with_reducible apply putStat_keeps
    | split
    | dsimp only

theorem setNode_keeps {t₀ : State} (n : Fin 64) (f : XNode → XNode) (s : State) (h₀ : Keeps t₀ s) :
    Keeps t₀ (setNode n f s) := by
  unfold setNode
  repeat' first
    | with_reducible assumption
    | with_reducible exact fun _ => rfl
    | with_reducible exact fun _ _ => rfl
    | with_reducible exact fun _ => ⟨id, id⟩
    | (rename_i hq; have hq2 := congrArg Prod.snd hq; with_reducible dsimp only at hq2; subst hq2)
    | simp only [↓keeps_mk_iff]
    | with_reducible refine keeps_ite ?_ ?_
    | with_reducible refine outKeeps_ite ?_ ?_
    | with_reducible refine outKeeps_next.2 ?_
    | with_reducible refine keeps_ite2 ?_ ?_
    | with_reducible refine keeps_foldl ?_ (fun _ _ _ => ?_)
    | with_reducible apply setXn_keeps | with_reducible apply putStat_keeps
    | split
    | dsimp only

theorem nodeReplied_keeps {t₀ : State} (n : Fin 64) (s : State) (h₀ : Keeps t₀ s) :
    Keeps t₀ (nodeReplied n s) := by
  unfold nodeReplied
  repeat' first
    | with_reducible assumption
    | with_reducible exact fun _ => rfl
    | with_reducible exact fun _ _ => rfl
    | with_reducible exact fun _ => ⟨id, id⟩
    | (rename_i hq; have hq2 := congrArg Prod.snd hq; with_reducible dsimp only at hq2; subst hq2)
    | simp only [↓keeps_mk_iff]
    | with_reducible refine keeps_ite ?_ ?_
    | with_reducible refine outKeeps_ite ?_ ?_
    | with_reducible refine outKeeps_next.2 ?_
    | with_reducible refine keeps_ite2 ?_ ?_
    | with_reducible refine keeps_foldl ?_ (fun _ _ _ => ?_)
    | with_reducible apply setNode_keeps | with_reducible apply raise_keeps | with_reducible apply record_keeps
    | split
    | dsimp only

theorem nodeDrift_keeps {t₀ : State} (n : Fin 64) (slot : Nat) (off : Int) (s : State) (h₀ : Keeps t₀ s) :
    Keeps t₀ (nodeDrift n slot off s) := by
  unfold nodeDrift
  repeat' first
    | with_reducible assumption
    | with_reducible exact fun _ => rfl
    | with_reducible exact fun _ _ => rfl
    | with_reducible exact fun _ => ⟨id, id⟩
    | (rename_i hq; have hq2 := congrArg Prod.snd hq; with_reducible dsimp only at hq2; subst hq2)
    | simp only [↓keeps_mk_iff]
    | with_reducible refine keeps_ite ?_ ?_
    | with_reducible refine outKeeps_ite ?_ ?_
    | with_reducible refine outKeeps_next.2 ?_
    | with_reducible refine keeps_ite2 ?_ ?_
    | with_reducible refine keeps_foldl ?_ (fun _ _ _ => ?_)
    | with_reducible apply setNode_keeps | with_reducible apply setXn_keeps | with_reducible apply record_keeps | with_reducible apply raise_keeps
    | split
    | dsimp only

theorem nodeLate_keeps {t₀ : State} (n : Fin 64) (slot : Nat) (off : Int) (s : State) (h₀ : Keeps t₀ s) :
    Keeps t₀ (nodeLate n slot off s) := by
  unfold nodeLate
  repeat' first
    | with_reducible assumption
    | with_reducible exact fun _ => rfl
    | with_reducible exact fun _ _ => rfl
    | with_reducible exact fun _ => ⟨id, id⟩
    | (rename_i hq; have hq2 := congrArg Prod.snd hq; with_reducible dsimp only at hq2; subst hq2)
    | simp only [↓keeps_mk_iff]
    | with_reducible refine keeps_ite ?_ ?_
    | with_reducible refine outKeeps_ite ?_ ?_
    | with_reducible refine outKeeps_next.2 ?_
    | with_reducible refine keeps_ite2 ?_ ?_
    | with_reducible refine keeps_foldl ?_ (fun _ _ _ => ?_)
    | with_reducible apply raise_keeps | with_reducible apply setNode_keeps | with_reducible apply setXn_keeps | with_reducible apply record_keeps
    | split
    | dsimp only

theorem nodeMacroEnd_keeps {t₀ : State} (n : Fin 64) (s : State) (h₀ : Keeps t₀ s) :
    Keeps t₀ (nodeMacroEnd n s) := by
  unfold nodeMacroEnd
  repeat' first
    | with_reducible assumption
    | with_reducible exact fun _ => rfl
    | with_reducible exact fun _ _ => rfl
    | with_reducible exact fun _ => ⟨id, id⟩
    | (rename_i hq; have hq2 := congrArg Prod.snd hq; with_reducible dsimp only at hq2; subst hq2)
    | simp only [↓keeps_mk_iff]
    | with_reducible refine keeps_ite ?_ ?_
    | with_reducible refine outKeeps_ite ?_ ?_
    | with_reducible refine outKeeps_next.2 ?_
    | with_reducible refine keeps_ite2 ?_ ?_
    | with_reducible refine keeps_foldl ?_ (fun _ _ _ => ?_)
    | with_reducible apply setNode_keeps | with_reducible apply raise_keeps | with_reducible apply record_keeps
    | split
    | dsimp only

theorem nodeMacroBegin_keeps {t₀ : State} (n : Fin 64) (s : State) (h₀ : Keeps t₀ s) :
    Keeps t₀ (nodeMacroBegin n s) := by
  unfold nodeMacroBegin
  repeat' first
    | with_reducible assumption
    | with_reducible exact fun _ => rfl
    | with_reducible exact fun _ _ => rfl
    | with_reducible exact fun _ => ⟨id, id⟩
    | (rename_i hq; have hq2 := congrArg Prod.snd hq; with_reducible dsimp only at hq2; subst hq2)
    | simp only [↓keeps_mk_iff]
    | with_reducible refine keeps_ite ?_ ?_
    | with_reducible refine outKeeps_ite ?_ ?_
    | with_reducible refine outKeeps_next.2 ?_
    | with_reducible refine keeps_ite2 ?_ ?_
    | with_reducible refine keeps_foldl ?_ (fun _ _ _ => ?_)
    | with_reducible apply setNode_keeps
    | split
    | dsimp only

theorem newEpoch_keeps {t₀ : State} (e : Nat) (s : State) (h₀ : Keeps t₀ s) :
    Keeps t₀ (newEpoch e s) := by
  unfold newEpoch
  repeat' first
    | with_reducible assumption
    | with_reducible exact fun _ => rfl
    | with_reducible exact fun _ _ => rfl
    | with_reducible exact fun _ => ⟨id, id⟩
    | (rename_i hq; have hq2 := congrArg Prod.snd hq; with_reducible dsimp only at hq2; subst hq2)
    | simp only [↓keeps_mk_iff]
    | with_reducible refine keeps_ite ?_ ?_
    | with_reducible refine outKeeps_ite ?_ ?_
    | with_reducible refine outKeeps_next.2 ?_
    | with_reducible refine keeps_ite2 ?_ ?_
    | with_reducible refine keeps_foldl ?_ (fun _ _ _ => ?_)
    | with_reducible apply setXn_keeps | with_reducible apply setNode_keeps
    | split
    | dsimp only

theorem xnRole_keeps {t₀ : State} (r : BusRole) (cause : Nat) (s : State) (h₀ : Keeps t₀ s) :
    Keeps t₀ (xnRole r cause s) := by
  unfold xnRole
  repeat' first
    | with_reducible assumption
    | with_reducible exact fun _ => rfl
    | with_reducible exact fun _ _ => rfl
    | with_reducible exact fun _ => ⟨id, id⟩
    | (rename_i hq; have hq2 := congrArg Prod.snd hq; with_reducible dsimp only at hq2; subst hq2)
    | simp only [↓keeps_mk_iff]
    | with_reducible refine keeps_ite ?_ ?_
    | with_reducible refine outKeeps_ite ?_ ?_
    | with_reducible refine outKeeps_next.2 ?_
    | with_reducible refine keeps_ite2 ?_ ?_
    | with_reducible refine keeps_foldl ?_ (fun _ _ _ => ?_)
    | with_reducible apply raise_keeps | with_reducible apply record_keeps | with_reducible apply setXn_keeps
    | split
    | dsimp only

theorem acycEnd_keeps {t₀ : State} (a : Acyc) (r : Answer) (s : State) (h₀ : Keeps t₀ s) :
    Keeps t₀ (acycEnd a r s) := by
  unfold acycEnd
  repeat' first
    | with_reducible assumption
    | with_reducible exact fun _ => rfl
    | with_reducible exact fun _ _ => rfl
    | with_reducible exact fun _ => ⟨id, id⟩
    | (rename_i hq; have hq2 := congrArg Prod.snd hq; with_reducible dsimp only at hq2; subst hq2)
    | simp only [↓keeps_mk_iff]
    | with_reducible refine keeps_ite ?_ ?_
    | with_reducible refine outKeeps_ite ?_ ?_
    | with_reducible refine outKeeps_next.2 ?_
    | with_reducible refine keeps_ite2 ?_ ?_
    | with_reducible refine keeps_foldl ?_ (fun _ _ _ => ?_)
    | with_reducible apply reply_keeps | with_reducible apply raise_keeps | with_reducible apply setXn_keeps
    | split
    | dsimp only

theorem acycAbort_keeps {t₀ : State} (code : Nat) (s : State) (h₀ : Keeps t₀ s) :
    Keeps t₀ (acycAbort code s) := by
  unfold acycAbort
  repeat' first
    | with_reducible assumption
    | with_reducible exact fun _ => rfl
    | with_reducible exact fun _ _ => rfl
    | with_reducible exact fun _ => ⟨id, id⟩
    | (rename_i hq; have hq2 := congrArg Prod.snd hq; with_reducible dsimp only at hq2; subst hq2)
    | simp only [↓keeps_mk_iff]
    | with_reducible refine keeps_ite ?_ ?_
    | with_reducible refine outKeeps_ite ?_ ?_
    | with_reducible refine outKeeps_next.2 ?_
    | with_reducible refine keeps_ite2 ?_ ?_
    | with_reducible refine keeps_foldl ?_ (fun _ _ _ => ?_)
    | with_reducible apply acycEnd_keeps | with_reducible apply record_keeps | with_reducible apply setXn_keeps
    | split
    | dsimp only

theorem busLeave_keeps {t₀ : State} (s : State) (h₀ : Keeps t₀ s) :
    Keeps t₀ (busLeave s) := by
  unfold busLeave
  repeat' first
    | with_reducible assumption
    | with_reducible exact fun _ => rfl
    | with_reducible exact fun _ _ => rfl
    | with_reducible exact fun _ => ⟨id, id⟩
    | (rename_i hq; have hq2 := congrArg Prod.snd hq; with_reducible dsimp only at hq2; subst hq2)
    | simp only [↓keeps_mk_iff]
    | with_reducible refine keeps_ite ?_ ?_
    | with_reducible refine outKeeps_ite ?_ ?_
    | with_reducible refine outKeeps_next.2 ?_
    | with_reducible refine keeps_ite2 ?_ ?_
    | with_reducible refine keeps_foldl ?_ (fun _ _ _ => ?_)
    | with_reducible apply acycAbort_keeps | with_reducible apply xnRole_keeps | with_reducible apply setXn_keeps
    | split
    | dsimp only

theorem xnStep_keeps {t₀ : State} (s : State) (h₀ : Keeps t₀ s) :
    Keeps t₀ (xnStep s) := by
  unfold xnStep
  repeat' first
    | with_reducible assumption
    | with_reducible exact fun _ => rfl
    | with_reducible exact fun _ _ => rfl
    | with_reducible exact fun _ => ⟨id, id⟩
    | (rename_i hq; have hq2 := congrArg Prod.snd hq; with_reducible dsimp only at hq2; subst hq2)
    | simp only [↓keeps_mk_iff]
    | with_reducible refine keeps_ite ?_ ?_
    | with_reducible refine outKeeps_ite ?_ ?_
    | with_reducible refine outKeeps_next.2 ?_
    | with_reducible refine keeps_ite2 ?_ ?_
    | with_reducible refine keeps_foldl ?_ (fun _ _ _ => ?_)
    | with_reducible apply setXn_keeps | with_reducible apply putResult_keeps
    | split
    | dsimp only

theorem loadTable_keeps {t₀ : State} (s : State) (h₀ : Keeps t₀ s) :
    Keeps t₀ (loadTable s) := by
  unfold loadTable
  repeat' first
    | with_reducible assumption
    | with_reducible exact fun _ => rfl
    | with_reducible exact fun _ _ => rfl
    | with_reducible exact fun _ => ⟨id, id⟩
    | (rename_i hq; have hq2 := congrArg Prod.snd hq; with_reducible dsimp only at hq2; subst hq2)
    | simp only [↓keeps_mk_iff]
    | with_reducible refine keeps_ite ?_ ?_
    | with_reducible refine outKeeps_ite ?_ ?_
    | with_reducible refine outKeeps_next.2 ?_
    | with_reducible refine keeps_ite2 ?_ ?_
    | with_reducible refine keeps_foldl ?_ (fun _ _ _ => ?_)
    | with_reducible apply setXn_keeps
    | split
    | dsimp only

theorem busStart_keeps {t₀ : State} (s : State) (h₀ : Keeps t₀ s) :
    Keeps t₀ (busStart s) := by
  unfold busStart
  repeat' first
    | with_reducible assumption
    | with_reducible exact fun _ => rfl
    | with_reducible exact fun _ _ => rfl
    | with_reducible exact fun _ => ⟨id, id⟩
    | (rename_i hq; have hq2 := congrArg Prod.snd hq; with_reducible dsimp only at hq2; subst hq2)
    | simp only [↓keeps_mk_iff]
    | with_reducible refine keeps_ite ?_ ?_
    | with_reducible refine outKeeps_ite ?_ ?_
    | with_reducible refine outKeeps_next.2 ?_
    | with_reducible refine keeps_ite2 ?_ ?_
    | with_reducible refine keeps_foldl ?_ (fun _ _ _ => ?_)
    | with_reducible apply setXn_keeps | with_reducible apply setNode_keeps | with_reducible apply putStat_keeps | with_reducible apply xnRole_keeps
    | split
    | dsimp only

theorem klmClear_keeps {t₀ : State} (s : State) (h₀ : Keeps t₀ s) :
    Keeps t₀ (klmClear s) := by
  unfold klmClear
  repeat' first
    | with_reducible assumption
    | with_reducible exact fun _ => rfl
    | with_reducible exact fun _ _ => rfl
    | with_reducible exact fun _ => ⟨id, id⟩
    | (rename_i hq; have hq2 := congrArg Prod.snd hq; with_reducible dsimp only at hq2; subst hq2)
    | simp only [↓keeps_mk_iff]
    | with_reducible refine keeps_ite ?_ ?_
    | with_reducible refine outKeeps_ite ?_ ?_
    | with_reducible refine outKeeps_next.2 ?_
    | with_reducible refine keeps_ite2 ?_ ?_
    | with_reducible refine keeps_foldl ?_ (fun _ _ _ => ?_)
    | split
    | dsimp only

theorem klmRefuse_keeps {t₀ : State} (code : Nat) (s : State) (h₀ : Keeps t₀ s) :
    Keeps t₀ (klmRefuse code s) := by
  unfold klmRefuse
  repeat' first
    | with_reducible assumption
    | with_reducible exact fun _ => rfl
    | with_reducible exact fun _ _ => rfl
    | with_reducible exact fun _ => ⟨id, id⟩
    | (rename_i hq; have hq2 := congrArg Prod.snd hq; with_reducible dsimp only at hq2; subst hq2)
    | simp only [↓keeps_mk_iff]
    | with_reducible refine keeps_ite ?_ ?_
    | with_reducible refine outKeeps_ite ?_ ?_
    | with_reducible refine outKeeps_next.2 ?_
    | with_reducible refine keeps_ite2 ?_ ?_
    | with_reducible refine keeps_foldl ?_ (fun _ _ _ => ?_)
    | with_reducible apply record_keeps | with_reducible apply klmClear_keeps | with_reducible apply reply_keeps
    | split
    | dsimp only

theorem klmDiscard_keeps {t₀ : State} (s : State) (h₀ : Keeps t₀ s) :
    Keeps t₀ (klmDiscard s) := by
  unfold klmDiscard
  repeat' first
    | with_reducible assumption
    | with_reducible exact fun _ => rfl
    | with_reducible exact fun _ _ => rfl
    | with_reducible exact fun _ => ⟨id, id⟩
    | (rename_i hq; have hq2 := congrArg Prod.snd hq; with_reducible dsimp only at hq2; subst hq2)
    | simp only [↓keeps_mk_iff]
    | with_reducible refine keeps_ite ?_ ?_
    | with_reducible refine outKeeps_ite ?_ ?_
    | with_reducible refine outKeeps_next.2 ?_
    | with_reducible refine keeps_ite2 ?_ ?_
    | with_reducible refine keeps_foldl ?_ (fun _ _ _ => ?_)
    | with_reducible apply klmRefuse_keeps
    | split
    | dsimp only

theorem twinLeave_keeps {t₀ : State} (cause : Nat) (new : Nat) (s : State) (h₀ : Keeps t₀ s) :
    Keeps t₀ (twinLeave cause new s) := by
  unfold twinLeave
  repeat' first
    | with_reducible assumption
    | with_reducible exact fun _ => rfl
    | with_reducible exact fun _ _ => rfl
    | with_reducible exact fun _ => ⟨id, id⟩
    | (rename_i hq; have hq2 := congrArg Prod.snd hq; with_reducible dsimp only at hq2; subst hq2)
    | simp only [↓keeps_mk_iff]
    | with_reducible refine keeps_ite ?_ ?_
    | with_reducible refine outKeeps_ite ?_ ?_
    | with_reducible refine outKeeps_next.2 ?_
    | with_reducible refine keeps_ite2 ?_ ?_
    | with_reducible refine keeps_foldl ?_ (fun _ _ _ => ?_)
    | with_reducible apply twinHold_keeps | with_reducible apply twinEnd_keeps
    | split
    | dsimp only

theorem setLane_keeps {t₀ : State} (l : Fin 4) (f : Lane → Lane) (s : State) (h₀ : Keeps t₀ s) :
    Keeps t₀ (setLane l f s) := by
  unfold setLane
  repeat' first
    | with_reducible assumption
    | with_reducible exact fun _ => rfl
    | with_reducible exact fun _ _ => rfl
    | with_reducible exact fun _ => ⟨id, id⟩
    | (rename_i hq; have hq2 := congrArg Prod.snd hq; with_reducible dsimp only at hq2; subst hq2)
    | simp only [↓keeps_mk_iff]
    | with_reducible refine keeps_ite ?_ ?_
    | with_reducible refine outKeeps_ite ?_ ?_
    | with_reducible refine outKeeps_next.2 ?_
    | with_reducible refine keeps_ite2 ?_ ?_
    | with_reducible refine keeps_foldl ?_ (fun _ _ _ => ?_)
    | split
    | dsimp only

theorem mapLanes_keeps {t₀ : State} (f : Lane → Lane) (s : State) (h₀ : Keeps t₀ s) :
    Keeps t₀ (mapLanes f s) := by
  unfold mapLanes
  repeat' first
    | with_reducible assumption
    | with_reducible exact fun _ => rfl
    | with_reducible exact fun _ _ => rfl
    | with_reducible exact fun _ => ⟨id, id⟩
    | (rename_i hq; have hq2 := congrArg Prod.snd hq; with_reducible dsimp only at hq2; subst hq2)
    | simp only [↓keeps_mk_iff]
    | with_reducible refine keeps_ite ?_ ?_
    | with_reducible refine outKeeps_ite ?_ ?_
    | with_reducible refine outKeeps_next.2 ?_
    | with_reducible refine keeps_ite2 ?_ ?_
    | with_reducible refine keeps_foldl ?_ (fun _ _ _ => ?_)
    | split
    | dsimp only

theorem setModState_keeps {t₀ : State} (new : ModState) (cause : Nat) (s : State) (h₀ : Keeps t₀ s) :
    Keeps t₀ (setModState new cause s) := by
  unfold setModState
  repeat' first
    | with_reducible assumption
    | with_reducible exact fun _ => rfl
    | with_reducible exact fun _ _ => rfl
    | with_reducible exact fun _ => ⟨id, id⟩
    | (rename_i hq; have hq2 := congrArg Prod.snd hq; with_reducible dsimp only at hq2; subst hq2)
    | simp only [↓keeps_mk_iff]
    | with_reducible refine keeps_ite ?_ ?_
    | with_reducible refine outKeeps_ite ?_ ?_
    | with_reducible refine outKeeps_next.2 ?_
    | with_reducible refine keeps_ite2 ?_ ?_
    | with_reducible refine keeps_foldl ?_ (fun _ _ _ => ?_)
    | with_reducible apply record_keeps
    | split
    | dsimp only

theorem setVote_keeps {t₀ : State} (mode : VoteMode) (subst : Bool) (cause : Nat) (s : State) (h₀ : Keeps t₀ s) :
    Keeps t₀ (setVote mode subst cause s) := by
  unfold setVote
  repeat' first
    | with_reducible assumption
    | with_reducible exact fun _ => rfl
    | with_reducible exact fun _ _ => rfl
    | with_reducible exact fun _ => ⟨id, id⟩
    | (rename_i hq; have hq2 := congrArg Prod.snd hq; with_reducible dsimp only at hq2; subst hq2)
    | simp only [↓keeps_mk_iff]
    | with_reducible refine keeps_ite ?_ ?_
    | with_reducible refine outKeeps_ite ?_ ?_
    | with_reducible refine outKeeps_next.2 ?_
    | with_reducible refine keeps_ite2 ?_ ?_
    | with_reducible refine keeps_foldl ?_ (fun _ _ _ => ?_)
    | with_reducible apply raise_keeps | with_reducible apply record_keeps
    | split
    | dsimp only

theorem retire_keeps {t₀ : State} (l : Fin 4) (test : Nat) (addr : Option Nat) (cause : Nat) (s : State) (h₀ : Keeps t₀ s) :
    Keeps t₀ (retire l test addr cause s) := by
  unfold retire
  repeat' first
    | with_reducible assumption
    | with_reducible exact fun _ => rfl
    | with_reducible exact fun _ _ => rfl
    | with_reducible exact fun _ => ⟨id, id⟩
    | (rename_i hq; have hq2 := congrArg Prod.snd hq; with_reducible dsimp only at hq2; subst hq2)
    | simp only [↓keeps_mk_iff]
    | with_reducible refine keeps_ite ?_ ?_
    | with_reducible refine outKeeps_ite ?_ ?_
    | with_reducible refine outKeeps_next.2 ?_
    | with_reducible refine keeps_ite2 ?_ ?_
    | with_reducible refine keeps_foldl ?_ (fun _ _ _ => ?_)
    | with_reducible apply setLane_keeps | with_reducible apply raise_keeps | with_reducible apply record_keeps
    | split
    | dsimp only

theorem toQuarantine_keeps {t₀ : State} (l : Fin 4) (cause : Nat) (s : State) (h₀ : Keeps t₀ s) :
    Keeps t₀ (toQuarantine l cause s) := by
  unfold toQuarantine
  repeat' first
    | with_reducible assumption
    | with_reducible exact fun _ => rfl
    | with_reducible exact fun _ _ => rfl
    | with_reducible exact fun _ => ⟨id, id⟩
    | (rename_i hq; have hq2 := congrArg Prod.snd hq; with_reducible dsimp only at hq2; subst hq2)
    | simp only [↓keeps_mk_iff]
    | with_reducible refine keeps_ite ?_ ?_
    | with_reducible refine outKeeps_ite ?_ ?_
    | with_reducible refine outKeeps_next.2 ?_
    | with_reducible refine keeps_ite2 ?_ ?_
    | with_reducible refine keeps_foldl ?_ (fun _ _ _ => ?_)
    | with_reducible apply setLane_keeps | with_reducible apply record_keeps | with_reducible apply retire_keeps
    | split
    | dsimp only

theorem rewedgeDrop_keeps {t₀ : State} (s : State) (h₀ : Keeps t₀ s) :
    Keeps t₀ (rewedgeDrop s) := by
  unfold rewedgeDrop
  repeat' first
    | with_reducible assumption
    | with_reducible exact fun _ => rfl
    | with_reducible exact fun _ _ => rfl
    | with_reducible exact fun _ => ⟨id, id⟩
    | (rename_i hq; have hq2 := congrArg Prod.snd hq; with_reducible dsimp only at hq2; subst hq2)
    | simp only [↓keeps_mk_iff]
    | with_reducible refine keeps_ite ?_ ?_
    | with_reducible refine outKeeps_ite ?_ ?_
    | with_reducible refine outKeeps_next.2 ?_
    | with_reducible refine keeps_ite2 ?_ ?_
    | with_reducible refine keeps_foldl ?_ (fun _ _ _ => ?_)
    | with_reducible apply setLane_keeps | with_reducible apply deliver_keeps
    | split
    | dsimp only

theorem wedgeAbort_keeps {t₀ : State} (l : Fin 4) (why page : Nat) (s : State) (h₀ : Keeps t₀ s) :
    Keeps t₀ (wedgeAbort l why page s) := by
  unfold wedgeAbort
  repeat' first
    | with_reducible assumption
    | with_reducible exact fun _ => rfl
    | with_reducible exact fun _ _ => rfl
    | with_reducible exact fun _ => ⟨id, id⟩
    | (rename_i hq; have hq2 := congrArg Prod.snd hq; with_reducible dsimp only at hq2; subst hq2)
    | simp only [↓keeps_mk_iff]
    | with_reducible refine keeps_ite ?_ ?_
    | with_reducible refine outKeeps_ite ?_ ?_
    | with_reducible refine outKeeps_next.2 ?_
    | with_reducible refine keeps_ite2 ?_ ?_
    | with_reducible refine keeps_foldl ?_ (fun _ _ _ => ?_)
    | with_reducible apply rewedgeDrop_keeps | with_reducible apply raise_keeps | with_reducible apply record_keeps
    | split
    | dsimp only

theorem bisqueFail_keeps {t₀ : State} (step addr : Nat) (s : State) (h₀ : Keeps t₀ s) :
    Keeps t₀ (bisqueFail step addr s) := by
  unfold bisqueFail
  repeat' first
    | with_reducible assumption
    | with_reducible exact fun _ => rfl
    | with_reducible exact fun _ _ => rfl
    | with_reducible exact fun _ => ⟨id, id⟩
    | (rename_i hq; have hq2 := congrArg Prod.snd hq; with_reducible dsimp only at hq2; subst hq2)
    | simp only [↓keeps_mk_iff]
    | with_reducible refine keeps_ite ?_ ?_
    | with_reducible refine outKeeps_ite ?_ ?_
    | with_reducible refine outKeeps_next.2 ?_
    | with_reducible refine keeps_ite2 ?_ ?_
    | with_reducible refine keeps_foldl ?_ (fun _ _ _ => ?_)
    | with_reducible apply raise_keeps | with_reducible apply record_keeps | with_reducible apply step_keeps
    | split
    | dsimp only

theorem rotStop_keeps {t₀ : State} (s : State) (h₀ : Keeps t₀ s) :
    Keeps t₀ (rotStop s) := by
  unfold rotStop
  repeat' first
    | with_reducible assumption
    | with_reducible exact fun _ => rfl
    | with_reducible exact fun _ _ => rfl
    | with_reducible exact fun _ => ⟨id, id⟩
    | (rename_i hq; have hq2 := congrArg Prod.snd hq; with_reducible dsimp only at hq2; subst hq2)
    | simp only [↓keeps_mk_iff]
    | with_reducible refine keeps_ite ?_ ?_
    | with_reducible refine outKeeps_ite ?_ ?_
    | with_reducible refine outKeeps_next.2 ?_
    | with_reducible refine keeps_ite2 ?_ ?_
    | with_reducible refine keeps_foldl ?_ (fun _ _ _ => ?_)
    | with_reducible apply wedgeAbort_keeps
    | split
    | dsimp only

theorem lanesLeave_keeps {t₀ : State} (s : State) (h₀ : Keeps t₀ s) :
    Keeps t₀ (lanesLeave s) := by
  unfold lanesLeave
  repeat' first
    | with_reducible assumption
    | with_reducible exact fun _ => rfl
    | with_reducible exact fun _ _ => rfl
    | with_reducible exact fun _ => ⟨id, id⟩
    | (rename_i hq; have hq2 := congrArg Prod.snd hq; with_reducible dsimp only at hq2; subst hq2)
    | simp only [↓keeps_mk_iff]
    | with_reducible refine keeps_ite ?_ ?_
    | with_reducible refine outKeeps_ite ?_ ?_
    | with_reducible refine outKeeps_next.2 ?_
    | with_reducible refine keeps_ite2 ?_ ?_
    | with_reducible refine keeps_foldl ?_ (fun _ _ _ => ?_)
    | with_reducible apply mapLanes_keeps
    | split
    | dsimp only

theorem leaveRun_keeps {t₀ : State} (reason cause new : Nat) (s : State) (h₀ : Keeps t₀ s) :
    Keeps t₀ (leaveRun reason cause new s) := by
  unfold leaveRun
  repeat' first
    | with_reducible assumption
    | with_reducible exact fun _ => rfl
    | with_reducible exact fun _ _ => rfl
    | with_reducible exact fun _ => ⟨id, id⟩
    | (rename_i hq; have hq2 := congrArg Prod.snd hq; with_reducible dsimp only at hq2; subst hq2)
    | simp only [↓keeps_mk_iff]
    | with_reducible refine keeps_ite ?_ ?_
    | with_reducible refine outKeeps_ite ?_ ?_
    | with_reducible refine outKeeps_next.2 ?_
    | with_reducible refine keeps_ite2 ?_ ?_
    | with_reducible refine keeps_foldl ?_ (fun _ _ _ => ?_)
    | with_reducible apply twinLeave_keeps | with_reducible apply klmDiscard_keeps | with_reducible apply busLeave_keeps | with_reducible apply cysStop_keeps | with_reducible apply banksSafe_keeps | with_reducible apply lanesLeave_keeps | with_reducible apply rotStop_keeps | with_reducible apply setVote_keeps
    | split
    | dsimp only

theorem enterSafeHold_keeps {t₀ : State} (cause : Nat) (s : State) (h₀ : Keeps t₀ s) :
    Keeps t₀ (enterSafeHold cause s) := by
  unfold enterSafeHold
  repeat' first
    | with_reducible assumption
    | with_reducible exact fun _ => rfl
    | with_reducible exact fun _ _ => rfl
    | with_reducible exact fun _ => ⟨id, id⟩
    | (rename_i hq; have hq2 := congrArg Prod.snd hq; with_reducible dsimp only at hq2; subst hq2)
    | simp only [↓keeps_mk_iff]
    | with_reducible refine keeps_ite ?_ ?_
    | with_reducible refine outKeeps_ite ?_ ?_
    | with_reducible refine outKeeps_next.2 ?_
    | with_reducible refine keeps_ite2 ?_ ?_
    | with_reducible refine keeps_foldl ?_ (fun _ _ _ => ?_)
    | with_reducible apply leaveRun_keeps | with_reducible apply setVote_keeps | with_reducible apply lanesLeave_keeps | with_reducible apply banksSafe_keeps | with_reducible apply setModState_keeps
    | split
    | dsimp only

theorem enterService_keeps {t₀ : State} (cause : Nat) (s : State) (h₀ : Keeps t₀ s) :
    Keeps t₀ (enterService cause s) := by
  unfold enterService
  repeat' first
    | with_reducible assumption
    | with_reducible exact fun _ => rfl
    | with_reducible exact fun _ _ => rfl
    | with_reducible exact fun _ => ⟨id, id⟩
    | (rename_i hq; have hq2 := congrArg Prod.snd hq; with_reducible dsimp only at hq2; subst hq2)
    | simp only [↓keeps_mk_iff]
    | with_reducible refine keeps_ite ?_ ?_
    | with_reducible refine outKeeps_ite ?_ ?_
    | with_reducible refine outKeeps_next.2 ?_
    | with_reducible refine keeps_ite2 ?_ ?_
    | with_reducible refine keeps_foldl ?_ (fun _ _ _ => ?_)
    | with_reducible apply leaveRun_keeps | with_reducible apply setModState_keeps
    | split
    | dsimp only

theorem noteExcl_keeps {t₀ : State} (groups : BitVec 13) (noMaj : Bool) (cause : Nat) (lanes : List (Fin 4)) (lane : Nat) (b : Beat) (s : State) (h₀ : Keeps t₀ s) :
    Keeps t₀ (noteExcl groups noMaj cause lanes lane b s) := by
  unfold noteExcl
  repeat' first
    | with_reducible assumption
    | with_reducible exact fun _ => rfl
    | with_reducible exact fun _ _ => rfl
    | with_reducible exact fun _ => ⟨id, id⟩
    | (rename_i hq; have hq2 := congrArg Prod.snd hq; with_reducible dsimp only at hq2; subst hq2)
    | simp only [↓keeps_mk_iff]
    | with_reducible refine keeps_ite ?_ ?_
    | with_reducible refine outKeeps_ite ?_ ?_
    | with_reducible refine outKeeps_next.2 ?_
    | with_reducible refine keeps_ite2 ?_ ?_
    | with_reducible refine keeps_foldl ?_ (fun _ _ _ => ?_)
    | split
    | dsimp only

theorem noMajority_keeps {t₀ : State} (lanes : List (Fin 4)) (cause : Nat) (groups : BitVec 13) (b : Beat) (s : State) (h₀ : Keeps t₀ s) :
    Keeps t₀ (noMajority lanes cause groups b s) := by
  unfold noMajority
  repeat' first
    | with_reducible assumption
    | with_reducible exact fun _ => rfl
    | with_reducible exact fun _ _ => rfl
    | with_reducible exact fun _ => ⟨id, id⟩
    | (rename_i hq; have hq2 := congrArg Prod.snd hq; with_reducible dsimp only at hq2; subst hq2)
    | simp only [↓keeps_mk_iff]
    | with_reducible refine keeps_ite ?_ ?_
    | with_reducible refine outKeeps_ite ?_ ?_
    | with_reducible refine outKeeps_next.2 ?_
    | with_reducible refine keeps_ite2 ?_ ?_
    | with_reducible refine keeps_foldl ?_ (fun _ _ _ => ?_)
    | with_reducible apply noteExcl_keeps | with_reducible apply record_keeps | with_reducible apply enterSafeHold_keeps
    | split
    | dsimp only

theorem rewedgeAfterLoss_keeps {t₀ : State} (l : Fin 4) (s : State) (h₀ : Keeps t₀ s) :
    Keeps t₀ (rewedgeAfterLoss l s) := by
  unfold rewedgeAfterLoss
  repeat' first
    | with_reducible assumption
    | with_reducible exact fun _ => rfl
    | with_reducible exact fun _ _ => rfl
    | with_reducible exact fun _ => ⟨id, id⟩
    | (rename_i hq; have hq2 := congrArg Prod.snd hq; with_reducible dsimp only at hq2; subst hq2)
    | simp only [↓keeps_mk_iff]
    | with_reducible refine keeps_ite ?_ ?_
    | with_reducible refine outKeeps_ite ?_ ?_
    | with_reducible refine outKeeps_next.2 ?_
    | with_reducible refine keeps_ite2 ?_ ?_
    | with_reducible refine keeps_foldl ?_ (fun _ _ _ => ?_)
    | with_reducible apply setLane_keeps
    | split
    | dsimp only

theorem excludeLane_keeps {t₀ : State} (l : Fin 4) (cause : Nat) (groups : BitVec 13) (b : Beat) (s : State) (h₀ : Keeps t₀ s) :
    Keeps t₀ (excludeLane l cause groups b s) := by
  unfold excludeLane
  repeat' first
    | with_reducible assumption
    | with_reducible exact fun _ => rfl
    | with_reducible exact fun _ _ => rfl
    | with_reducible exact fun _ => ⟨id, id⟩
    | (rename_i hq; have hq2 := congrArg Prod.snd hq; with_reducible dsimp only at hq2; subst hq2)
    | simp only [↓keeps_mk_iff]
    | with_reducible refine keeps_ite ?_ ?_
    | with_reducible refine outKeeps_ite ?_ ?_
    | with_reducible refine outKeeps_next.2 ?_
    | with_reducible refine keeps_ite2 ?_ ?_
    | with_reducible refine keeps_foldl ?_ (fun _ _ _ => ?_)
    | with_reducible apply rewedgeAfterLoss_keeps | with_reducible apply noteExcl_keeps | with_reducible apply raise_keeps | with_reducible apply record_keeps | with_reducible apply toQuarantine_keeps | with_reducible apply setVote_keeps | with_reducible apply setModState_keeps
    | split
    | dsimp only

theorem noteSilence_keeps {t₀ : State} (l : Fin 4) (i : LaneInput) (s : State) (h₀ : Keeps t₀ s) :
    Keeps t₀ (noteSilence l i s) := by
  unfold noteSilence
  repeat' first
    | with_reducible assumption
    | with_reducible exact fun _ => rfl
    | with_reducible exact fun _ _ => rfl
    | with_reducible exact fun _ => ⟨id, id⟩
    | (rename_i hq; have hq2 := congrArg Prod.snd hq; with_reducible dsimp only at hq2; subst hq2)
    | simp only [↓keeps_mk_iff]
    | with_reducible refine keeps_ite ?_ ?_
    | with_reducible refine outKeeps_ite ?_ ?_
    | with_reducible refine outKeeps_next.2 ?_
    | with_reducible refine keeps_ite2 ?_ ?_
    | with_reducible refine keeps_foldl ?_ (fun _ _ _ => ?_)
    | with_reducible apply setLane_keeps | with_reducible apply raise_keeps | with_reducible apply record_keeps
    | split
    | dsimp only

theorem applyVerdict_keeps {t₀ : State} (v : Verdict) (s : State) (h₀ : Keeps t₀ s) :
    Keeps t₀ (applyVerdict v s).2 := by
  unfold applyVerdict
  repeat' first
    | with_reducible assumption
    | with_reducible exact fun _ => rfl
    | with_reducible exact fun _ _ => rfl
    | with_reducible exact fun _ => ⟨id, id⟩
    | (rename_i hq; have hq2 := congrArg Prod.snd hq; with_reducible dsimp only at hq2; subst hq2)
    | simp only [↓keeps_mk_iff]
    | with_reducible refine keeps_ite ?_ ?_
    | with_reducible refine outKeeps_ite ?_ ?_
    | with_reducible refine outKeeps_next.2 ?_
    | with_reducible refine keeps_ite2 ?_ ?_
    | with_reducible refine keeps_foldl ?_ (fun _ _ _ => ?_)
    | with_reducible apply excludeLane_keeps | with_reducible apply noMajority_keeps
    | split
    | dsimp only

theorem voteClock_keeps {t₀ : State} (i : Fin 4 → LaneInput) (s : State) (h₀ : Keeps t₀ s) :
    Keeps t₀ (voteClock i s).2 := by
  have h1 : Keeps t₀ ((activeLanes s).foldl (fun t l => noteSilence l (i l) t) s) :=
    keeps_foldl h₀ (fun _ _ h => noteSilence_keeps _ _ _ h)
  unfold voteClock
  dsimp only
  split
  · exact applyVerdict_keeps _ _ h1
  · exact applyVerdict_keeps _ _ h1
  · split
    · exact h1
    · exact noteSilence_keeps _ _ _ h1
  · exact h1
  · exact h1

theorem spareSilent_keeps {t₀ : State} (l : Fin 4) (i : LaneInput) (s : State) (h₀ : Keeps t₀ s) :
    Keeps t₀ (spareSilent l i s) := by
  unfold spareSilent
  repeat' first
    | with_reducible assumption
    | with_reducible exact fun _ => rfl
    | with_reducible exact fun _ _ => rfl
    | with_reducible exact fun _ => ⟨id, id⟩
    | (rename_i hq; have hq2 := congrArg Prod.snd hq; with_reducible dsimp only at hq2; subst hq2)
    | simp only [↓keeps_mk_iff]
    | with_reducible refine keeps_ite ?_ ?_
    | with_reducible refine outKeeps_ite ?_ ?_
    | with_reducible refine outKeeps_next.2 ?_
    | with_reducible refine keeps_ite2 ?_ ?_
    | with_reducible refine keeps_foldl ?_ (fun _ _ _ => ?_)
    | with_reducible apply noteSilence_keeps | with_reducible apply toQuarantine_keeps | with_reducible apply bisqueFail_keeps | with_reducible apply wedgeAbort_keeps | with_reducible apply setModState_keeps | with_reducible apply setVote_keeps
    | split
    | dsimp only

theorem wideStop_keeps {t₀ : State} (l : Fin 4) (s : State) (h₀ : Keeps t₀ s) :
    Keeps t₀ (wideStop l s) := by
  unfold wideStop
  repeat' first
    | with_reducible assumption
    | with_reducible exact fun _ => rfl
    | with_reducible exact fun _ _ => rfl
    | with_reducible exact fun _ => ⟨id, id⟩
    | (rename_i hq; have hq2 := congrArg Prod.snd hq; with_reducible dsimp only at hq2; subst hq2)
    | simp only [↓keeps_mk_iff]
    | with_reducible refine keeps_ite ?_ ?_
    | with_reducible refine outKeeps_ite ?_ ?_
    | with_reducible refine outKeeps_next.2 ?_
    | with_reducible refine keeps_ite2 ?_ ?_
    | with_reducible refine keeps_foldl ?_ (fun _ _ _ => ?_)
    | with_reducible apply setLane_keeps
    | split
    | dsimp only

theorem laneSilent_keeps {t₀ : State} (l : Fin 4) (i : LaneInput) (s : State) (h₀ : Keeps t₀ s) :
    Keeps t₀ (laneSilent l i s) := by
  unfold laneSilent
  repeat' first
    | with_reducible assumption
    | with_reducible exact fun _ => rfl
    | with_reducible exact fun _ _ => rfl
    | with_reducible exact fun _ => ⟨id, id⟩
    | (rename_i hq; have hq2 := congrArg Prod.snd hq; with_reducible dsimp only at hq2; subst hq2)
    | simp only [↓keeps_mk_iff]
    | with_reducible refine keeps_ite ?_ ?_
    | with_reducible refine outKeeps_ite ?_ ?_
    | with_reducible refine outKeeps_next.2 ?_
    | with_reducible refine keeps_ite2 ?_ ?_
    | with_reducible refine keeps_foldl ?_ (fun _ _ _ => ?_)
    | with_reducible apply wideStop_keeps | with_reducible apply record_keeps | with_reducible apply voteClock_keeps | with_reducible apply spareSilent_keeps
    | split
    | dsimp only

theorem laneReset_keeps {t₀ : State} (l : Fin 4) (s : State) (h₀ : Keeps t₀ s) :
    Keeps t₀ (laneReset l s) := by
  unfold laneReset
  repeat' first
    | with_reducible assumption
    | with_reducible exact fun _ => rfl
    | with_reducible exact fun _ _ => rfl
    | with_reducible exact fun _ => ⟨id, id⟩
    | (rename_i hq; have hq2 := congrArg Prod.snd hq; with_reducible dsimp only at hq2; subst hq2)
    | simp only [↓keeps_mk_iff]
    | with_reducible refine keeps_ite ?_ ?_
    | with_reducible refine outKeeps_ite ?_ ?_
    | with_reducible refine outKeeps_next.2 ?_
    | with_reducible refine keeps_ite2 ?_ ?_
    | with_reducible refine keeps_foldl ?_ (fun _ _ _ => ?_)
    | with_reducible apply setLane_keeps
    | split
    | dsimp only

theorem markPages_keeps {t₀ : State} (ps : List Nat) (s : State) (h₀ : Keeps t₀ s) :
    Keeps t₀ (markPages ps s) := by
  unfold markPages
  repeat' first
    | with_reducible assumption
    | with_reducible exact fun _ => rfl
    | with_reducible exact fun _ _ => rfl
    | with_reducible exact fun _ => ⟨id, id⟩
    | (rename_i hq; have hq2 := congrArg Prod.snd hq; with_reducible dsimp only at hq2; subst hq2)
    | simp only [↓keeps_mk_iff]
    | with_reducible refine keeps_ite ?_ ?_
    | with_reducible refine outKeeps_ite ?_ ?_
    | with_reducible refine outKeeps_next.2 ?_
    | with_reducible refine keeps_ite2 ?_ ?_
    | with_reducible refine keeps_foldl ?_ (fun _ _ _ => ?_)
    | split
    | dsimp only

theorem applyEntry_keeps {t₀ : State} (l : Fin 4) (e : MirrorEntry) (s : State) (h₀ : Keeps t₀ s) :
    Keeps t₀ (applyEntry l e s) := by
  unfold applyEntry
  repeat' first
    | with_reducible assumption
    | with_reducible exact fun _ => rfl
    | with_reducible exact fun _ _ => rfl
    | with_reducible exact fun _ => ⟨id, id⟩
    | (rename_i hq; have hq2 := congrArg Prod.snd hq; with_reducible dsimp only at hq2; subst hq2)
    | simp only [↓keeps_mk_iff]
    | with_reducible refine keeps_ite ?_ ?_
    | with_reducible refine outKeeps_ite ?_ ?_
    | with_reducible refine outKeeps_next.2 ?_
    | with_reducible refine keeps_ite2 ?_ ?_
    | with_reducible refine keeps_foldl ?_ (fun _ _ _ => ?_)
    | with_reducible refine keeps_vmem (fun h => Memory.wf_memWriteBe _ _ _ _ h) rfl rfl rfl rfl rfl ?_
    | with_reducible refine keeps_vmem (fun h => Memory.wf_memWrite _ _ h) rfl rfl rfl rfl rfl ?_
    | with_reducible refine keeps_vmem (fun h => Memory.wf_filter _ h) rfl rfl rfl rfl rfl ?_
    | with_reducible refine keeps_mems (fun h => wf_mems_set h (Memory.wf_memWriteBe _ _ _ _ (h _))) rfl rfl rfl rfl rfl ?_
    | with_reducible refine keeps_mems (fun h => wf_mems_set h (Memory.wf_memWrite _ _ (h _))) rfl rfl rfl rfl rfl ?_
    | with_reducible refine keeps_mems (fun h => wf_mems_set h (Memory.wf_memCopyIf _ (h _))) rfl rfl rfl rfl rfl ?_
    | with_reducible refine keeps_mems (fun h => wf_mems_set h (Memory.wf_nil)) rfl rfl rfl rfl rfl ?_
    | split
    | dsimp only

theorem drainMirror_keeps {t₀ : State} (n : Nat) (s : State) (h₀ : Keeps t₀ s) :
    Keeps t₀ (drainMirror n s) := by
  unfold drainMirror
  repeat' first
    | with_reducible assumption
    | with_reducible exact fun _ => rfl
    | with_reducible exact fun _ _ => rfl
    | with_reducible exact fun _ => ⟨id, id⟩
    | (rename_i hq; have hq2 := congrArg Prod.snd hq; with_reducible dsimp only at hq2; subst hq2)
    | simp only [↓keeps_mk_iff]
    | with_reducible refine keeps_ite ?_ ?_
    | with_reducible refine outKeeps_ite ?_ ?_
    | with_reducible refine outKeeps_next.2 ?_
    | with_reducible refine keeps_ite2 ?_ ?_
    | with_reducible refine keeps_foldl ?_ (fun _ _ _ => ?_)
    | with_reducible apply bwCount_keeps | with_reducible apply applyEntry_keeps
    | split
    | dsimp only

theorem fwdPush_keeps {t₀ : State} (kind : Nat) (e : MirrorEntry) (s : State) (h₀ : Keeps t₀ s) :
    Keeps t₀ (fwdPush kind e s) := by
  unfold fwdPush
  repeat' first
    | with_reducible assumption
    | with_reducible exact fun _ => rfl
    | with_reducible exact fun _ _ => rfl
    | with_reducible exact fun _ => ⟨id, id⟩
    | (rename_i hq; have hq2 := congrArg Prod.snd hq; with_reducible dsimp only at hq2; subst hq2)
    | simp only [↓keeps_mk_iff]
    | with_reducible refine keeps_ite ?_ ?_
    | with_reducible refine outKeeps_ite ?_ ?_
    | with_reducible refine outKeeps_next.2 ?_
    | with_reducible refine keeps_ite2 ?_ ?_
    | with_reducible refine keeps_foldl ?_ (fun _ _ _ => ?_)
    | with_reducible apply setTwl_keeps
    | split
    | dsimp only

theorem fwdDrain_keeps {t₀ : State} (n : Nat) (s : State) (h₀ : Keeps t₀ s) :
    Keeps t₀ (fwdDrain n s) := by
  unfold fwdDrain
  repeat' first
    | with_reducible assumption
    | with_reducible exact fun _ => rfl
    | with_reducible exact fun _ _ => rfl
    | with_reducible exact fun _ => ⟨id, id⟩
    | (rename_i hq; have hq2 := congrArg Prod.snd hq; with_reducible dsimp only at hq2; subst hq2)
    | simp only [↓keeps_mk_iff]
    | with_reducible refine keeps_ite ?_ ?_
    | with_reducible refine outKeeps_ite ?_ ?_
    | with_reducible refine outKeeps_next.2 ?_
    | with_reducible refine keeps_ite2 ?_ ?_
    | with_reducible refine keeps_foldl ?_ (fun _ _ _ => ?_)
    | with_reducible apply twinSend_keeps | with_reducible apply setTwl_keeps
    | split
    | dsimp only

theorem mirrorPush_keeps {t₀ : State} (e : MirrorEntry) (s : State) (h₀ : Keeps t₀ s) :
    Keeps t₀ (mirrorPush e s) := by
  unfold mirrorPush
  repeat' first
    | with_reducible assumption
    | with_reducible exact fun _ => rfl
    | with_reducible exact fun _ _ => rfl
    | with_reducible exact fun _ => ⟨id, id⟩
    | (rename_i hq; have hq2 := congrArg Prod.snd hq; with_reducible dsimp only at hq2; subst hq2)
    | simp only [↓keeps_mk_iff]
    | with_reducible refine keeps_ite ?_ ?_
    | with_reducible refine outKeeps_ite ?_ ?_
    | with_reducible refine outKeeps_next.2 ?_
    | with_reducible refine keeps_ite2 ?_ ?_
    | with_reducible refine keeps_foldl ?_ (fun _ _ _ => ?_)
    | with_reducible apply fwdPush_keeps | with_reducible apply markPages_keeps | with_reducible apply raise_keeps
    | split
    | dsimp only

theorem mirrorDisagree_keeps {t₀ : State} (v : Verdict) (p1 p2 : Nat) (s : State) (h₀ : Keeps t₀ s) :
    Keeps t₀ (mirrorDisagree v p1 p2 s) := by
  unfold mirrorDisagree
  repeat' first
    | with_reducible assumption
    | with_reducible exact fun _ => rfl
    | with_reducible exact fun _ _ => rfl
    | with_reducible exact fun _ => ⟨id, id⟩
    | (rename_i hq; have hq2 := congrArg Prod.snd hq; with_reducible dsimp only at hq2; subst hq2)
    | simp only [↓keeps_mk_iff]
    | with_reducible refine keeps_ite ?_ ?_
    | with_reducible refine outKeeps_ite ?_ ?_
    | with_reducible refine outKeeps_next.2 ?_
    | with_reducible refine keeps_ite2 ?_ ?_
    | with_reducible refine keeps_foldl ?_ (fun _ _ _ => ?_)
    | with_reducible apply excludeLane_keeps | with_reducible apply record_keeps | with_reducible apply noMajority_keeps
    | split
    | dsimp only

theorem rewedgeDefer_keeps {t₀ : State} (r : Rewedge) (need avail : Nat) (s : State) (h₀ : Keeps t₀ s) :
    Keeps t₀ (rewedgeDefer r need avail s) := by
  unfold rewedgeDefer
  repeat' first
    | with_reducible assumption
    | with_reducible exact fun _ => rfl
    | with_reducible exact fun _ _ => rfl
    | with_reducible exact fun _ => ⟨id, id⟩
    | (rename_i hq; have hq2 := congrArg Prod.snd hq; with_reducible dsimp only at hq2; subst hq2)
    | simp only [↓keeps_mk_iff]
    | with_reducible refine keeps_ite ?_ ?_
    | with_reducible refine outKeeps_ite ?_ ?_
    | with_reducible refine outKeeps_next.2 ?_
    | with_reducible refine keeps_ite2 ?_ ?_
    | with_reducible refine keeps_foldl ?_ (fun _ _ _ => ?_)
    | with_reducible apply raise_keeps | with_reducible apply record_keeps | with_reducible apply setModState_keeps | with_reducible apply setVote_keeps
    | split
    | dsimp only

theorem rewedgeDecide_keeps {t₀ : State} (avail : Nat) (s : State) (h₀ : Keeps t₀ s) :
    Keeps t₀ (rewedgeDecide avail s) := by
  unfold rewedgeDecide
  repeat' first
    | with_reducible assumption
    | with_reducible exact fun _ => rfl
    | with_reducible exact fun _ _ => rfl
    | with_reducible exact fun _ => ⟨id, id⟩
    | (rename_i hq; have hq2 := congrArg Prod.snd hq; with_reducible dsimp only at hq2; subst hq2)
    | simp only [↓keeps_mk_iff]
    | with_reducible refine keeps_ite ?_ ?_
    | with_reducible refine outKeeps_ite ?_ ?_
    | with_reducible refine outKeeps_next.2 ?_
    | with_reducible refine keeps_ite2 ?_ ?_
    | with_reducible refine keeps_foldl ?_ (fun _ _ _ => ?_)
    | with_reducible apply drainMirror_keeps | with_reducible apply rewedgeDefer_keeps
    | split
    | dsimp only

theorem loadRecord_keeps {t₀ : State} (j : Fin 4) (s : State) (h₀ : Keeps t₀ s) :
    Keeps t₀ (loadRecord j s) := by
  unfold loadRecord
  repeat' first
    | with_reducible assumption
    | with_reducible exact fun _ => rfl
    | with_reducible exact fun _ _ => rfl
    | with_reducible exact fun _ => ⟨id, id⟩
    | (rename_i hq; have hq2 := congrArg Prod.snd hq; with_reducible dsimp only at hq2; subst hq2)
    | simp only [↓keeps_mk_iff]
    | with_reducible refine keeps_ite ?_ ?_
    | with_reducible refine outKeeps_ite ?_ ?_
    | with_reducible refine outKeeps_next.2 ?_
    | with_reducible refine keeps_ite2 ?_ ?_
    | with_reducible refine keeps_foldl ?_ (fun _ _ _ => ?_)
    | split
    | dsimp only

theorem invalidateLanes_keeps {t₀ : State} (ls : List (Fin 4)) (s : State) (h₀ : Keeps t₀ s) :
    Keeps t₀ (invalidateLanes ls s) := by
  unfold invalidateLanes
  repeat' first
    | with_reducible assumption
    | with_reducible exact fun _ => rfl
    | with_reducible exact fun _ _ => rfl
    | with_reducible exact fun _ => ⟨id, id⟩
    | (rename_i hq; have hq2 := congrArg Prod.snd hq; with_reducible dsimp only at hq2; subst hq2)
    | simp only [↓keeps_mk_iff]
    | with_reducible refine keeps_ite ?_ ?_
    | with_reducible refine outKeeps_ite ?_ ?_
    | with_reducible refine outKeeps_next.2 ?_
    | with_reducible refine keeps_ite2 ?_ ?_
    | with_reducible refine keeps_foldl ?_ (fun _ _ _ => ?_)
    | split
    | dsimp only

theorem joinLane_keeps {t₀ : State} (r : Rewedge) (s : State) (h₀ : Keeps t₀ s) :
    Keeps t₀ (joinLane r s) := by
  unfold joinLane
  repeat' first
    | with_reducible assumption
    | with_reducible exact fun _ => rfl
    | with_reducible exact fun _ _ => rfl
    | with_reducible exact fun _ => ⟨id, id⟩
    | (rename_i hq; have hq2 := congrArg Prod.snd hq; with_reducible dsimp only at hq2; subst hq2)
    | simp only [↓keeps_mk_iff]
    | with_reducible refine keeps_ite ?_ ?_
    | with_reducible refine outKeeps_ite ?_ ?_
    | with_reducible refine outKeeps_next.2 ?_
    | with_reducible refine keeps_ite2 ?_ ?_
    | with_reducible refine keeps_foldl ?_ (fun _ _ _ => ?_)
    | with_reducible apply setLane_keeps | with_reducible apply deliver_keeps
    | split
    | dsimp only

theorem rotationExpire_keeps {t₀ : State} (s : State) (h₀ : Keeps t₀ s) :
    Keeps t₀ (rotationExpire s) := by
  unfold rotationExpire
  repeat' first
    | with_reducible assumption
    | with_reducible exact fun _ => rfl
    | with_reducible exact fun _ _ => rfl
    | with_reducible exact fun _ => ⟨id, id⟩
    | (rename_i hq; have hq2 := congrArg Prod.snd hq; with_reducible dsimp only at hq2; subst hq2)
    | simp only [↓keeps_mk_iff]
    | with_reducible refine keeps_ite ?_ ?_
    | with_reducible refine outKeeps_ite ?_ ?_
    | with_reducible refine outKeeps_next.2 ?_
    | with_reducible refine keeps_ite2 ?_ ?_
    | with_reducible refine keeps_foldl ?_ (fun _ _ _ => ?_)
    | split
    | dsimp only

theorem rotationRestart_keeps {t₀ : State} (s : State) (h₀ : Keeps t₀ s) :
    Keeps t₀ (rotationRestart s) := by
  unfold rotationRestart
  repeat' first
    | with_reducible assumption
    | with_reducible exact fun _ => rfl
    | with_reducible exact fun _ _ => rfl
    | with_reducible exact fun _ => ⟨id, id⟩
    | (rename_i hq; have hq2 := congrArg Prod.snd hq; with_reducible dsimp only at hq2; subst hq2)
    | simp only [↓keeps_mk_iff]
    | with_reducible refine keeps_ite ?_ ?_
    | with_reducible refine outKeeps_ite ?_ ?_
    | with_reducible refine outKeeps_next.2 ?_
    | with_reducible refine keeps_ite2 ?_ ?_
    | with_reducible refine keeps_foldl ?_ (fun _ _ _ => ?_)
    | split
    | dsimp only

theorem tickOptime_keeps {t₀ : State} (n : Nat) (s : State) (h₀ : Keeps t₀ s) :
    Keeps t₀ (tickOptime n s).2 := by
  unfold tickOptime
  repeat' first
    | with_reducible assumption
    | with_reducible exact fun _ => rfl
    | with_reducible exact fun _ _ => rfl
    | with_reducible exact fun _ => ⟨id, id⟩
    | (rename_i hq; have hq2 := congrArg Prod.snd hq; with_reducible dsimp only at hq2; subst hq2)
    | simp only [↓keeps_mk_iff]
    | with_reducible refine keeps_ite ?_ ?_
    | with_reducible refine outKeeps_ite ?_ ?_
    | with_reducible refine outKeeps_next.2 ?_
    | with_reducible refine keeps_ite2 ?_ ?_
    | with_reducible refine keeps_foldl ?_ (fun _ _ _ => ?_)
    | split
    | dsimp only

theorem tickRotation_keeps {t₀ : State} (ms : Nat) (s : State) (h₀ : Keeps t₀ s) :
    Keeps t₀ (tickRotation ms s) := by
  unfold tickRotation
  repeat' first
    | with_reducible assumption
    | with_reducible exact fun _ => rfl
    | with_reducible exact fun _ _ => rfl
    | with_reducible exact fun _ => ⟨id, id⟩
    | (rename_i hq; have hq2 := congrArg Prod.snd hq; with_reducible dsimp only at hq2; subst hq2)
    | simp only [↓keeps_mk_iff]
    | with_reducible refine keeps_ite ?_ ?_
    | with_reducible refine outKeeps_ite ?_ ?_
    | with_reducible refine outKeeps_next.2 ?_
    | with_reducible refine keeps_ite2 ?_ ?_
    | with_reducible refine keeps_foldl ?_ (fun _ _ _ => ?_)
    | with_reducible apply rotationExpire_keeps
    | split
    | dsimp only

theorem tickMirror_keeps {t₀ : State} (n : Nat) (s : State) (h₀ : Keeps t₀ s) :
    Keeps t₀ (tickMirror n s) := by
  unfold tickMirror
  repeat' first
    | with_reducible assumption
    | with_reducible exact fun _ => rfl
    | with_reducible exact fun _ _ => rfl
    | with_reducible exact fun _ => ⟨id, id⟩
    | (rename_i hq; have hq2 := congrArg Prod.snd hq; with_reducible dsimp only at hq2; subst hq2)
    | simp only [↓keeps_mk_iff]
    | with_reducible refine keeps_ite ?_ ?_
    | with_reducible refine outKeeps_ite ?_ ?_
    | with_reducible refine outKeeps_next.2 ?_
    | with_reducible refine keeps_ite2 ?_ ?_
    | with_reducible refine keeps_foldl ?_ (fun _ _ _ => ?_)
    | with_reducible apply drainMirror_keeps
    | split
    | dsimp only

theorem tickExec_keeps {t₀ : State} (n : Nat) (s : State) (h₀ : Keeps t₀ s) :
    Keeps t₀ (tickExec n s) := by
  unfold tickExec
  repeat' first
    | with_reducible assumption
    | with_reducible exact fun _ => rfl
    | with_reducible exact fun _ _ => rfl
    | with_reducible exact fun _ => ⟨id, id⟩
    | (rename_i hq; have hq2 := congrArg Prod.snd hq; with_reducible dsimp only at hq2; subst hq2)
    | simp only [↓keeps_mk_iff]
    | with_reducible refine keeps_ite ?_ ?_
    | with_reducible refine outKeeps_ite ?_ ?_
    | with_reducible refine outKeeps_next.2 ?_
    | with_reducible refine keeps_ite2 ?_ ?_
    | with_reducible refine keeps_foldl ?_ (fun _ _ _ => ?_)
    | split
    | dsimp only

theorem tickCoast_keeps {t₀ : State} (n : Nat) (s : State) (h₀ : Keeps t₀ s) :
    Keeps t₀ (tickCoast n s) := by
  unfold tickCoast
  repeat' first
    | with_reducible assumption
    | with_reducible exact fun _ => rfl
    | with_reducible exact fun _ _ => rfl
    | with_reducible exact fun _ => ⟨id, id⟩
    | (rename_i hq; have hq2 := congrArg Prod.snd hq; with_reducible dsimp only at hq2; subst hq2)
    | simp only [↓keeps_mk_iff]
    | with_reducible refine keeps_ite ?_ ?_
    | with_reducible refine outKeeps_ite ?_ ?_
    | with_reducible refine outKeeps_next.2 ?_
    | with_reducible refine keeps_ite2 ?_ ?_
    | with_reducible refine keeps_foldl ?_ (fun _ _ _ => ?_)
    | split
    | dsimp only

theorem tickFwd_keeps {t₀ : State} (n : Nat) (s : State) (h₀ : Keeps t₀ s) :
    Keeps t₀ (tickFwd n s) := by
  unfold tickFwd
  repeat' first
    | with_reducible assumption
    | with_reducible exact fun _ => rfl
    | with_reducible exact fun _ _ => rfl
    | with_reducible exact fun _ => ⟨id, id⟩
    | (rename_i hq; have hq2 := congrArg Prod.snd hq; with_reducible dsimp only at hq2; subst hq2)
    | simp only [↓keeps_mk_iff]
    | with_reducible refine keeps_ite ?_ ?_
    | with_reducible refine outKeeps_ite ?_ ?_
    | with_reducible refine outKeeps_next.2 ?_
    | with_reducible refine keeps_ite2 ?_ ?_
    | with_reducible refine keeps_foldl ?_ (fun _ _ _ => ?_)
    | with_reducible apply fwdDrain_keeps | with_reducible apply setTwl_keeps
    | split
    | dsimp only

theorem tickCores_keeps {t₀ : State} (n : Nat) (s : State) (h₀ : Keeps t₀ s) :
    Keeps t₀ (tickCores n s) := by
  unfold tickCores
  repeat' first
    | with_reducible assumption
    | with_reducible exact fun _ => rfl
    | with_reducible exact fun _ _ => rfl
    | with_reducible exact fun _ => ⟨id, id⟩
    | (rename_i hq; have hq2 := congrArg Prod.snd hq; with_reducible dsimp only at hq2; subst hq2)
    | simp only [↓keeps_mk_iff]
    | with_reducible refine keeps_ite ?_ ?_
    | with_reducible refine outKeeps_ite ?_ ?_
    | with_reducible refine outKeeps_next.2 ?_
    | with_reducible refine keeps_ite2 ?_ ?_
    | with_reducible refine keeps_foldl ?_ (fun _ _ _ => ?_)
    | split
    | dsimp only

theorem advance_keeps {t₀ : State} (n : Nat) (s : State) (h₀ : Keeps t₀ s) :
    Keeps t₀ (advance n s) := by
  unfold advance
  repeat' first
    | with_reducible assumption
    | with_reducible exact fun _ => rfl
    | with_reducible exact fun _ _ => rfl
    | with_reducible exact fun _ => ⟨id, id⟩
    | (rename_i hq; have hq2 := congrArg Prod.snd hq; with_reducible dsimp only at hq2; subst hq2)
    | simp only [↓keeps_mk_iff]
    | with_reducible refine keeps_ite ?_ ?_
    | with_reducible refine outKeeps_ite ?_ ?_
    | with_reducible refine outKeeps_next.2 ?_
    | with_reducible refine keeps_ite2 ?_ ?_
    | with_reducible refine keeps_foldl ?_ (fun _ _ _ => ?_)
    | (intro b u hu; dsimp only)
    | intro b u hu
    | (intro u hu; dsimp only)
    | intro u hu
    | with_reducible apply tickOptime_keeps | with_reducible apply tickCores_keeps | with_reducible apply tickFwd_keeps | with_reducible apply tickCoast_keeps | with_reducible apply tickExec_keeps | with_reducible apply tickMirror_keeps | with_reducible apply tickRotation_keeps | with_reducible apply serveSwitch_keeps
    | split
    | dsimp only

theorem voteReadEffect_keeps {t₀ : State} (a : Nat) (s : State) (h₀ : Keeps t₀ s) :
    Keeps t₀ (voteReadEffect a s) := by
  unfold voteReadEffect
  repeat' first
    | with_reducible assumption
    | with_reducible exact fun _ => rfl
    | with_reducible exact fun _ _ => rfl
    | with_reducible exact fun _ => ⟨id, id⟩
    | (rename_i hq; have hq2 := congrArg Prod.snd hq; with_reducible dsimp only at hq2; subst hq2)
    | simp only [↓keeps_mk_iff]
    | with_reducible refine keeps_ite ?_ ?_
    | with_reducible refine outKeeps_ite ?_ ?_
    | with_reducible refine outKeeps_next.2 ?_
    | with_reducible refine keeps_ite2 ?_ ?_
    | with_reducible refine keeps_foldl ?_ (fun _ _ _ => ?_)
    | with_reducible apply readEvt0_keeps
    | split
    | dsimp only

end Sys2Proof.Machine
end

