-- ==== Sys2Proof/Laws/KeepsAll2.lean ====
section
/-! SUPPORT. Every operation and every meaning keeps the memories canonical and the FIFO within its bound. -/

set_option linter.all false

namespace Sys2Proof.Machine

open Sys2Proof

theorem setBrg_keeps {t₀ : State} (f : Brg → Brg) (s : State) (h₀ : Keeps t₀ s) :
    Keeps t₀ (setBrg f s) := by
  unfold setBrg
  repeat' first
    | with_reducible assumption
    | with_reducible exact fun _ => rfl
    | with_reducible exact fun _ _ => rfl
    | with_reducible exact fun _ => ⟨id, id⟩
    | (rename_i hq; have hq2 := congrArg Prod.snd hq; with_reducible dsimp only at hq2; subst hq2)
    | simp only [↓keeps_mk_iff]
    | with_reducible refine keeps_ite ?_ ?_
    | with_reducible refine outKeeps_ite ?_ ?_
    | with_reducible refine outKeeps_next.2 ?_
    | with_reducible refine keeps_ite2 ?_ ?_
    | with_reducible refine keeps_foldl ?_ (fun _ _ _ => ?_)
    | split
    | dsimp only

theorem busError_keeps {t₀ : State} (kind master : Nat) (wr : Bool) (a : Nat) (s : State) (h₀ : Keeps t₀ s) :
    Keeps t₀ (busError kind master wr a s) := by
  unfold busError
  repeat' first
    | with_reducible assumption
    | with_reducible exact fun _ => rfl
    | with_reducible exact fun _ _ => rfl
    | with_reducible exact fun _ => ⟨id, id⟩
    | (rename_i hq; have hq2 := congrArg Prod.snd hq; with_reducible dsimp only at hq2; subst hq2)
    | simp only [↓keeps_mk_iff]
    | with_reducible refine keeps_ite ?_ ?_
    | with_reducible refine outKeeps_ite ?_ ?_
    | with_reducible refine outKeeps_next.2 ?_
    | with_reducible refine keeps_ite2 ?_ ?_
    | with_reducible refine keeps_foldl ?_ (fun _ _ _ => ?_)
    | with_reducible apply raise_keeps | with_reducible apply record_keeps
    | split
    | dsimp only

theorem farRead_keeps {t₀ : State} (a n : Nat) (s : State) (h₀ : Keeps t₀ s) :
    Keeps t₀ (farRead a n s).2 := by
  unfold farRead
  repeat' first
    | with_reducible assumption
    | with_reducible exact fun _ => rfl
    | with_reducible exact fun _ _ => rfl
    | with_reducible exact fun _ => ⟨id, id⟩
    | (rename_i hq; have hq2 := congrArg Prod.snd hq; with_reducible dsimp only at hq2; subst hq2)
    | simp only [↓keeps_mk_iff]
    | with_reducible refine keeps_ite ?_ ?_
    | with_reducible refine outKeeps_ite ?_ ?_
    | with_reducible refine outKeeps_next.2 ?_
    | with_reducible refine keeps_ite2 ?_ ?_
    | with_reducible refine keeps_foldl ?_ (fun _ _ _ => ?_)
    | with_reducible refine keeps_vmem (fun h => Memory.wf_memWriteBe _ _ _ _ h) rfl rfl rfl rfl rfl ?_
    | with_reducible refine keeps_vmem (fun h => Memory.wf_memWrite _ _ h) rfl rfl rfl rfl rfl ?_
    | with_reducible refine keeps_vmem (fun h => Memory.wf_filter _ h) rfl rfl rfl rfl rfl ?_
    | with_reducible refine keeps_mems (fun h => wf_mems_set h (Memory.wf_memWriteBe _ _ _ _ (h _))) rfl rfl rfl rfl rfl ?_
    | with_reducible refine keeps_mems (fun h => wf_mems_set h (Memory.wf_memWrite _ _ (h _))) rfl rfl rfl rfl rfl ?_
    | with_reducible refine keeps_mems (fun h => wf_mems_set h (Memory.wf_memCopyIf _ (h _))) rfl rfl rfl rfl rfl ?_
    | with_reducible refine keeps_mems (fun h => wf_mems_set h (Memory.wf_nil)) rfl rfl rfl rfl rfl ?_
    | with_reducible apply drawWord_keeps
    | split
    | dsimp only

theorem sendTpdo_keeps {t₀ : State} (ch : Fin 2) (n : Fin 8) (s : State) (h₀ : Keeps t₀ s) :
    Keeps t₀ (sendTpdo ch n s) := by
  unfold sendTpdo
  repeat' first
    | with_reducible assumption
    | with_reducible exact fun _ => rfl
    | with_reducible exact fun _ _ => rfl
    | with_reducible exact fun _ => ⟨id, id⟩
    | (rename_i hq; have hq2 := congrArg Prod.snd hq; with_reducible dsimp only at hq2; subst hq2)
    | simp only [↓keeps_mk_iff]
    | with_reducible refine keeps_ite ?_ ?_
    | with_reducible refine outKeeps_ite ?_ ?_
    | with_reducible refine outKeeps_next.2 ?_
    | with_reducible refine keeps_ite2 ?_ ?_
    | with_reducible refine keeps_foldl ?_ (fun _ _ _ => ?_)
    | with_reducible refine keeps_vmem (fun h => Memory.wf_memWriteBe _ _ _ _ h) rfl rfl rfl rfl rfl ?_
    | with_reducible refine keeps_vmem (fun h => Memory.wf_memWrite _ _ h) rfl rfl rfl rfl rfl ?_
    | with_reducible refine keeps_vmem (fun h => Memory.wf_filter _ h) rfl rfl rfl rfl rfl ?_
    | with_reducible refine keeps_mems (fun h => wf_mems_set h (Memory.wf_memWriteBe _ _ _ _ (h _))) rfl rfl rfl rfl rfl ?_
    | with_reducible refine keeps_mems (fun h => wf_mems_set h (Memory.wf_memWrite _ _ (h _))) rfl rfl rfl rfl rfl ?_
    | with_reducible refine keeps_mems (fun h => wf_mems_set h (Memory.wf_memCopyIf _ (h _))) rfl rfl rfl rfl rfl ?_
    | with_reducible refine keeps_mems (fun h => wf_mems_set h (Memory.wf_nil)) rfl rfl rfl rfl rfl ?_
    | split
    | dsimp only

theorem tpdoTrig_keeps {t₀ : State} (v : Nat) (s : State) (h₀ : Keeps t₀ s) :
    Keeps t₀ (tpdoTrig v s) := by
  unfold tpdoTrig
  repeat' first
    | with_reducible assumption
    | with_reducible exact fun _ => rfl
    | with_reducible exact fun _ _ => rfl
    | with_reducible exact fun _ => ⟨id, id⟩
    | (rename_i hq; have hq2 := congrArg Prod.snd hq; with_reducible dsimp only at hq2; subst hq2)
    | simp only [↓keeps_mk_iff]
    | with_reducible refine keeps_ite ?_ ?_
    | with_reducible refine outKeeps_ite ?_ ?_
    | with_reducible refine outKeeps_next.2 ?_
    | with_reducible refine keeps_ite2 ?_ ?_
    | with_reducible refine keeps_foldl ?_ (fun _ _ _ => ?_)
    | with_reducible apply sendTpdo_keeps
    | split
    | dsimp only

theorem cpnSend_keeps {t₀ : State} (m : Nat) (s : State) (h₀ : Keeps t₀ s) :
    Keeps t₀ (cpnSend m s) := by
  unfold cpnSend
  repeat' first
    | with_reducible assumption
    | with_reducible exact fun _ => rfl
    | with_reducible exact fun _ _ => rfl
    | with_reducible exact fun _ => ⟨id, id⟩
    | (rename_i hq; have hq2 := congrArg Prod.snd hq; with_reducible dsimp only at hq2; subst hq2)
    | simp only [↓keeps_mk_iff]
    | with_reducible refine keeps_ite ?_ ?_
    | with_reducible refine outKeeps_ite ?_ ?_
    | with_reducible refine outKeeps_next.2 ?_
    | with_reducible refine keeps_ite2 ?_ ?_
    | with_reducible refine keeps_foldl ?_ (fun _ _ _ => ?_)
    | with_reducible refine keeps_vmem (fun h => Memory.wf_memWriteBe _ _ _ _ h) rfl rfl rfl rfl rfl ?_
    | with_reducible refine keeps_vmem (fun h => Memory.wf_memWrite _ _ h) rfl rfl rfl rfl rfl ?_
    | with_reducible refine keeps_vmem (fun h => Memory.wf_filter _ h) rfl rfl rfl rfl rfl ?_
    | with_reducible refine keeps_mems (fun h => wf_mems_set h (Memory.wf_memWriteBe _ _ _ _ (h _))) rfl rfl rfl rfl rfl ?_
    | with_reducible refine keeps_mems (fun h => wf_mems_set h (Memory.wf_memWrite _ _ (h _))) rfl rfl rfl rfl rfl ?_
    | with_reducible refine keeps_mems (fun h => wf_mems_set h (Memory.wf_memCopyIf _ (h _))) rfl rfl rfl rfl rfl ?_
    | with_reducible refine keeps_mems (fun h => wf_mems_set h (Memory.wf_nil)) rfl rfl rfl rfl rfl ?_
    | split
    | dsimp only

theorem verdictWrite_keeps {t₀ : State} (m : Fin 8) (v : Reg32) (s : State) (h₀ : Keeps t₀ s) :
    Keeps t₀ (verdictWrite m v s) := by
  unfold verdictWrite
  repeat' first
    | with_reducible assumption
    | with_reducible exact fun _ => rfl
    | with_reducible exact fun _ _ => rfl
    | with_reducible exact fun _ => ⟨id, id⟩
    | (rename_i hq; have hq2 := congrArg Prod.snd hq; with_reducible dsimp only at hq2; subst hq2)
    | simp only [↓keeps_mk_iff]
    | with_reducible refine keeps_ite ?_ ?_
    | with_reducible refine outKeeps_ite ?_ ?_
    | with_reducible refine outKeeps_next.2 ?_
    | with_reducible refine keeps_ite2 ?_ ?_
    | with_reducible refine keeps_foldl ?_ (fun _ _ _ => ?_)
    | split
    | dsimp only

theorem recEvWrite_keeps {t₀ : State} (m : Nat) (w : Reg32) (s : State) (h₀ : Keeps t₀ s) :
    Keeps t₀ (recEvWrite m w s) := by
  unfold recEvWrite
  split
  · simp only [↓keeps_mk_iff]; exact h₀
  · dsimp only
    refine keeps_recd (fun x => ?_) (fun x => ?_) h₀
    · dsimp only; rw [(submitEvent_keeps _ _ _ _ _ _ _).1]; exact x
    · exact (submitEvent_keeps _ _ _ _ _ _ _).2 x

theorem farWrite_keeps {t₀ : State} (a : Nat) (be : BitVec 16) (d : BitVec 128) (exec : Bool) (s : State) (h₀ : Keeps t₀ s) :
    ∀ u, (farWrite a be d exec s) = some u → Keeps t₀ u := by
  unfold farWrite
  repeat' first
    | with_reducible assumption
    | with_reducible exact fun _ => rfl
    | with_reducible exact fun _ _ => rfl
    | with_reducible exact fun _ => ⟨id, id⟩
    | (rename_i hq; have hq2 := congrArg Prod.snd hq; with_reducible dsimp only at hq2; subst hq2)
    | simp only [↓keeps_mk_iff]
    | with_reducible refine keeps_ite ?_ ?_
    | with_reducible refine outKeeps_ite ?_ ?_
    | with_reducible refine outKeeps_next.2 ?_
    | with_reducible refine keeps_ite2 ?_ ?_
    | with_reducible refine keeps_foldl ?_ (fun _ _ _ => ?_)
    | with_reducible refine keeps_vmem (fun h => Memory.wf_memWriteBe _ _ _ _ h) rfl rfl rfl rfl rfl ?_
    | with_reducible refine keeps_vmem (fun h => Memory.wf_memWrite _ _ h) rfl rfl rfl rfl rfl ?_
    | with_reducible refine keeps_vmem (fun h => Memory.wf_filter _ h) rfl rfl rfl rfl rfl ?_
    | with_reducible refine keeps_mems (fun h => wf_mems_set h (Memory.wf_memWriteBe _ _ _ _ (h _))) rfl rfl rfl rfl rfl ?_
    | with_reducible refine keeps_mems (fun h => wf_mems_set h (Memory.wf_memWrite _ _ (h _))) rfl rfl rfl rfl rfl ?_
    | with_reducible refine keeps_mems (fun h => wf_mems_set h (Memory.wf_memCopyIf _ (h _))) rfl rfl rfl rfl rfl ?_
    | with_reducible refine keeps_mems (fun h => wf_mems_set h (Memory.wf_nil)) rfl rfl rfl rfl rfl ?_
    | (intro u hu; cases hu; done)
    | (intro u hu; injection hu with hu; subst hu)
    | with_reducible apply exec_keeps | with_reducible apply verdictWrite_keeps | with_reducible apply recEvWrite_keeps | with_reducible apply cpnSend_keeps | with_reducible apply tpdoTrig_keeps
    | split
    | dsimp only

theorem dropLine_keeps {t₀ : State} (l : BrgLine) (s : State) (h₀ : Keeps t₀ s) :
    Keeps t₀ (dropLine l s) := by
  unfold dropLine
  repeat' first
    | with_reducible assumption
    | with_reducible exact fun _ => rfl
    | with_reducible exact fun _ _ => rfl
    | with_reducible exact fun _ => ⟨id, id⟩
    | (rename_i hq; have hq2 := congrArg Prod.snd hq; with_reducible dsimp only at hq2; subst hq2)
    | simp only [↓keeps_mk_iff]
    | with_reducible refine keeps_ite ?_ ?_
    | with_reducible refine outKeeps_ite ?_ ?_
    | with_reducible refine outKeeps_next.2 ?_
    | with_reducible refine keeps_ite2 ?_ ?_
    | with_reducible refine keeps_foldl ?_ (fun _ _ _ => ?_)
    | with_reducible apply setBrg_keeps | with_reducible apply raise_keeps | with_reducible apply record_keeps
    | split
    | dsimp only

theorem dropLines_keeps {t₀ : State} (p : BrgLine → Bool) (s : State) (h₀ : Keeps t₀ s) :
    Keeps t₀ (dropLines p s) := by
  unfold dropLines
  repeat' first
    | with_reducible assumption
    | with_reducible exact fun _ => rfl
    | with_reducible exact fun _ _ => rfl
    | with_reducible exact fun _ => ⟨id, id⟩
    | (rename_i hq; have hq2 := congrArg Prod.snd hq; with_reducible dsimp only at hq2; subst hq2)
    | simp only [↓keeps_mk_iff]
    | with_reducible refine keeps_ite ?_ ?_
    | with_reducible refine outKeeps_ite ?_ ?_
    | with_reducible refine outKeeps_next.2 ?_
    | with_reducible refine keeps_ite2 ?_ ?_
    | with_reducible refine keeps_foldl ?_ (fun _ _ _ => ?_)
    | with_reducible apply dropLine_keeps
    | split
    | dsimp only

theorem farError_keeps {t₀ : State} (p : Posted) (status : Nat) (s : State) (h₀ : Keeps t₀ s) :
    Keeps t₀ (farError p status s) := by
  unfold farError
  repeat' first
    | with_reducible assumption
    | with_reducible exact fun _ => rfl
    | with_reducible exact fun _ _ => rfl
    | with_reducible exact fun _ => ⟨id, id⟩
    | (rename_i hq; have hq2 := congrArg Prod.snd hq; with_reducible dsimp only at hq2; subst hq2)
    | simp only [↓keeps_mk_iff]
    | with_reducible refine keeps_ite ?_ ?_
    | with_reducible refine outKeeps_ite ?_ ?_
    | with_reducible refine outKeeps_next.2 ?_
    | with_reducible refine keeps_ite2 ?_ ?_
    | with_reducible refine keeps_foldl ?_ (fun _ _ _ => ?_)
    | with_reducible apply setBrg_keeps | with_reducible apply raise_keeps | with_reducible apply record_keeps
    | split
    | dsimp only

theorem semWrite_keeps {t₀ : State} (m : Option (Fin 8)) (a : Nat) (s : State) (h₀ : Keeps t₀ s) :
    Keeps t₀ (semWrite m a s) := by
  unfold semWrite
  repeat' first
    | with_reducible assumption
    | with_reducible exact fun _ => rfl
    | with_reducible exact fun _ _ => rfl
    | with_reducible exact fun _ => ⟨id, id⟩
    | (rename_i hq; have hq2 := congrArg Prod.snd hq; with_reducible dsimp only at hq2; subst hq2)
    | simp only [↓keeps_mk_iff]
    | with_reducible refine keeps_ite ?_ ?_
    | with_reducible refine outKeeps_ite ?_ ?_
    | with_reducible refine outKeeps_next.2 ?_
    | with_reducible refine keeps_ite2 ?_ ?_
    | with_reducible refine keeps_foldl ?_ (fun _ _ _ => ?_)
    | with_reducible apply setBrg_keeps
    | split
    | dsimp only

theorem semKiln_keeps {t₀ : State} (a : Nat) (s : State) (h₀ : Keeps t₀ s) :
    Keeps t₀ (semKiln a s) := by
  unfold semKiln
  repeat' first
    | with_reducible assumption
    | with_reducible exact fun _ => rfl
    | with_reducible exact fun _ _ => rfl
    | with_reducible exact fun _ => ⟨id, id⟩
    | (rename_i hq; have hq2 := congrArg Prod.snd hq; with_reducible dsimp only at hq2; subst hq2)
    | simp only [↓keeps_mk_iff]
    | with_reducible refine keeps_ite ?_ ?_
    | with_reducible refine outKeeps_ite ?_ ?_
    | with_reducible refine outKeeps_next.2 ?_
    | with_reducible refine keeps_ite2 ?_ ?_
    | with_reducible refine keeps_foldl ?_ (fun _ _ _ => ?_)
    | with_reducible apply setBrg_keeps
    | split
    | dsimp only

theorem semTake_keeps {t₀ : State} (m : Option (Fin 8)) (n : Fin 16) (s : State) (h₀ : Keeps t₀ s) :
    Keeps t₀ (semTake m n s) := by
  unfold semTake
  repeat' first
    | with_reducible assumption
    | with_reducible exact fun _ => rfl
    | with_reducible exact fun _ _ => rfl
    | with_reducible exact fun _ => ⟨id, id⟩
    | (rename_i hq; have hq2 := congrArg Prod.snd hq; with_reducible dsimp only at hq2; subst hq2)
    | simp only [↓keeps_mk_iff]
    | with_reducible refine keeps_ite ?_ ?_
    | with_reducible refine outKeeps_ite ?_ ?_
    | with_reducible refine outKeeps_next.2 ?_
    | with_reducible refine keeps_ite2 ?_ ?_
    | with_reducible refine keeps_foldl ?_ (fun _ _ _ => ?_)
    | with_reducible apply setBrg_keeps
    | split
    | dsimp only

theorem brgAccess_keeps {t₀ : State} (m : Option (Fin 8)) (b : Beat) (s : State) (h₀ : Keeps t₀ s) :
    Keeps t₀ (brgAccess m b s).2 := by
  unfold brgAccess
  repeat' first
    | with_reducible assumption
    | with_reducible exact fun _ => rfl
    | with_reducible exact fun _ _ => rfl
    | with_reducible exact fun _ => ⟨id, id⟩
    | (rename_i hq; have hq2 := congrArg Prod.snd hq; with_reducible dsimp only at hq2; subst hq2)
    | simp only [↓keeps_mk_iff]
    | with_reducible refine keeps_ite ?_ ?_
    | with_reducible refine outKeeps_ite ?_ ?_
    | with_reducible refine outKeeps_next.2 ?_
    | with_reducible refine keeps_ite2 ?_ ?_
    | with_reducible refine keeps_foldl ?_ (fun _ _ _ => ?_)
    | with_reducible apply exec_keeps | with_reducible apply busError_keeps | with_reducible apply setBrg_keeps | with_reducible apply dropLines_keeps | with_reducible apply semWrite_keeps | with_reducible apply semTake_keeps
    | split
    | dsimp only

theorem intClear_keeps {t₀ : State} (k : Fin 11) (v : Reg32) (s : State) (h₀ : Keeps t₀ s) :
    Keeps t₀ (intClear k v s) := by
  unfold intClear
  repeat' first
    | with_reducible assumption
    | with_reducible exact fun _ => rfl
    | with_reducible exact fun _ _ => rfl
    | with_reducible exact fun _ => ⟨id, id⟩
    | (rename_i hq; have hq2 := congrArg Prod.snd hq; with_reducible dsimp only at hq2; subst hq2)
    | simp only [↓keeps_mk_iff]
    | with_reducible refine keeps_ite ?_ ?_
    | with_reducible refine outKeeps_ite ?_ ?_
    | with_reducible refine outKeeps_next.2 ?_
    | with_reducible refine keeps_ite2 ?_ ?_
    | with_reducible refine keeps_foldl ?_ (fun _ _ _ => ?_)
    | split
    | dsimp only

theorem intEnable_keeps {t₀ : State} (k : Fin 11) (v : Reg32) (s : State) (h₀ : Keeps t₀ s) :
    Keeps t₀ (intEnable k v s) := by
  unfold intEnable
  repeat' first
    | with_reducible assumption
    | with_reducible exact fun _ => rfl
    | with_reducible exact fun _ _ => rfl
    | with_reducible exact fun _ => ⟨id, id⟩
    | (rename_i hq; have hq2 := congrArg Prod.snd hq; with_reducible dsimp only at hq2; subst hq2)
    | simp only [↓keeps_mk_iff]
    | with_reducible refine keeps_ite ?_ ?_
    | with_reducible refine outKeeps_ite ?_ ?_
    | with_reducible refine outKeeps_next.2 ?_
    | with_reducible refine keeps_ite2 ?_ ?_
    | with_reducible refine keeps_foldl ?_ (fun _ _ _ => ?_)
    | split
    | dsimp only

theorem brgIntClear_keeps {t₀ : State} (v : Reg32) (s : State) (h₀ : Keeps t₀ s) :
    Keeps t₀ (brgIntClear v s) := by
  unfold brgIntClear
  repeat' first
    | with_reducible assumption
    | with_reducible exact fun _ => rfl
    | with_reducible exact fun _ _ => rfl
    | with_reducible exact fun _ => ⟨id, id⟩
    | (rename_i hq; have hq2 := congrArg Prod.snd hq; with_reducible dsimp only at hq2; subst hq2)
    | simp only [↓keeps_mk_iff]
    | with_reducible refine keeps_ite ?_ ?_
    | with_reducible refine outKeeps_ite ?_ ?_
    | with_reducible refine outKeeps_next.2 ?_
    | with_reducible refine keeps_ite2 ?_ ?_
    | with_reducible refine keeps_foldl ?_ (fun _ _ _ => ?_)
    | with_reducible apply drawWord_keeps | with_reducible apply intClear_keeps
    | split
    | dsimp only

theorem brgRegionSet_keeps {t₀ : State} (n : Fin 16) (w : RegionWord) (v : Reg32) (s : State) (h₀ : Keeps t₀ s) :
    Keeps t₀ (brgRegionSet n w v s) := by
  unfold brgRegionSet
  repeat' first
    | with_reducible assumption
    | with_reducible exact fun _ => rfl
    | with_reducible exact fun _ _ => rfl
    | with_reducible exact fun _ => ⟨id, id⟩
    | (rename_i hq; have hq2 := congrArg Prod.snd hq; with_reducible dsimp only at hq2; subst hq2)
    | simp only [↓keeps_mk_iff]
    | with_reducible refine keeps_ite ?_ ?_
    | with_reducible refine outKeeps_ite ?_ ?_
    | with_reducible refine outKeeps_next.2 ?_
    | with_reducible refine keeps_ite2 ?_ ?_
    | with_reducible refine keeps_foldl ?_ (fun _ _ _ => ?_)
    | with_reducible apply dropLines_keeps | with_reducible apply setBrg_keeps
    | split
    | dsimp only

theorem quietWrite_keeps {t₀ : State} (s : State) (h₀ : Keeps t₀ s) :
    Keeps t₀ (quietWrite s) := by
  unfold quietWrite
  repeat' first
    | with_reducible assumption
    | with_reducible exact fun _ => rfl
    | with_reducible exact fun _ _ => rfl
    | with_reducible exact fun _ => ⟨id, id⟩
    | (rename_i hq; have hq2 := congrArg Prod.snd hq; with_reducible dsimp only at hq2; subst hq2)
    | simp only [↓keeps_mk_iff]
    | with_reducible refine keeps_ite ?_ ?_
    | with_reducible refine outKeeps_ite ?_ ?_
    | with_reducible refine outKeeps_next.2 ?_
    | with_reducible refine keeps_ite2 ?_ ?_
    | with_reducible refine keeps_foldl ?_ (fun _ _ _ => ?_)
    | split
    | dsimp only

theorem doneWrite_keeps {t₀ : State} (v : Reg32) (s : State) (h₀ : Keeps t₀ s) :
    Keeps t₀ (doneWrite v s) := by
  unfold doneWrite
  repeat' first
    | with_reducible assumption
    | with_reducible exact fun _ => rfl
    | with_reducible exact fun _ _ => rfl
    | with_reducible exact fun _ => ⟨id, id⟩
    | (rename_i hq; have hq2 := congrArg Prod.snd hq; with_reducible dsimp only at hq2; subst hq2)
    | simp only [↓keeps_mk_iff]
    | with_reducible refine keeps_ite ?_ ?_
    | with_reducible refine outKeeps_ite ?_ ?_
    | with_reducible refine outKeeps_next.2 ?_
    | with_reducible refine keeps_ite2 ?_ ?_
    | with_reducible refine keeps_foldl ?_ (fun _ _ _ => ?_)
    | with_reducible apply cycleDone_keeps
    | split
    | dsimp only

theorem fbWrite_keeps {t₀ : State} (k : Fin 3) (m : Option (Fin 8)) (o : Nat) (v : Reg32) (s : State) (h₀ : Keeps t₀ s) :
    Keeps t₀ (fbWrite k m o v s) := by
  unfold fbWrite
  repeat' first
    | with_reducible assumption
    | with_reducible exact fun _ => rfl
    | with_reducible exact fun _ _ => rfl
    | with_reducible exact fun _ => ⟨id, id⟩
    | (rename_i hq; have hq2 := congrArg Prod.snd hq; with_reducible dsimp only at hq2; subst hq2)
    | simp only [↓keeps_mk_iff]
    | with_reducible refine keeps_ite ?_ ?_
    | with_reducible refine outKeeps_ite ?_ ?_
    | with_reducible refine outKeeps_next.2 ?_
    | with_reducible refine keeps_ite2 ?_ ?_
    | with_reducible refine keeps_foldl ?_ (fun _ _ _ => ?_)
    | with_reducible apply outWrite_keeps | with_reducible apply fltclrWrite_keeps | with_reducible apply setBank_keeps | with_reducible apply intClear_keeps | with_reducible apply intEnable_keeps
    | split
    | dsimp only

theorem brgWrite_keeps {t₀ : State} (o : Nat) (v : Reg32) (s : State) (h₀ : Keeps t₀ s) :
    Keeps t₀ (brgWrite o v s) := by
  unfold brgWrite
  repeat' first
    | with_reducible assumption
    | with_reducible exact fun _ => rfl
    | with_reducible exact fun _ _ => rfl
    | with_reducible exact fun _ => ⟨id, id⟩
    | (rename_i hq; have hq2 := congrArg Prod.snd hq; with_reducible dsimp only at hq2; subst hq2)
    | simp only [↓keeps_mk_iff]
    | with_reducible refine keeps_ite ?_ ?_
    | with_reducible refine outKeeps_ite ?_ ?_
    | with_reducible refine outKeeps_next.2 ?_
    | with_reducible refine keeps_ite2 ?_ ?_
    | with_reducible refine keeps_foldl ?_ (fun _ _ _ => ?_)
    | with_reducible apply brgIntClear_keeps | with_reducible apply intEnable_keeps | with_reducible apply brgRegionSet_keeps
    | split
    | dsimp only

theorem voteWrite_keeps {t₀ : State} (m : Option (Fin 8)) (a : Nat) (v : Reg32) (s : State) (h₀ : Keeps t₀ s) :
    Keeps t₀ (voteWrite m a v s) := by
  unfold voteWrite
  repeat' first
    | with_reducible assumption
    | with_reducible exact fun _ => rfl
    | with_reducible exact fun _ _ => rfl
    | with_reducible exact fun _ => ⟨id, id⟩
    | (rename_i hq; have hq2 := congrArg Prod.snd hq; with_reducible dsimp only at hq2; subst hq2)
    | simp only [↓keeps_mk_iff]
    | with_reducible refine keeps_ite ?_ ?_
    | with_reducible refine outKeeps_ite ?_ ?_
    | with_reducible refine outKeeps_next.2 ?_
    | with_reducible refine keeps_ite2 ?_ ?_
    | with_reducible refine keeps_foldl ?_ (fun _ _ _ => ?_)
    | with_reducible apply intClear_keeps | with_reducible apply intEnable_keeps | with_reducible apply fbWrite_keeps | with_reducible apply doneWrite_keeps | with_reducible apply quietWrite_keeps | with_reducible apply brgWrite_keeps
    | split
    | dsimp only

theorem sharedWrite_keeps {t₀ : State} (m : Option (Fin 8)) (b : Beat) (s : State) (h₀ : Keeps t₀ s) :
    Keeps t₀ (sharedWrite m b s) := by
  unfold sharedWrite
  repeat' first
    | with_reducible assumption
    | with_reducible exact fun _ => rfl
    | with_reducible exact fun _ _ => rfl
    | with_reducible exact fun _ => ⟨id, id⟩
    | (rename_i hq; have hq2 := congrArg Prod.snd hq; with_reducible dsimp only at hq2; subst hq2)
    | simp only [↓keeps_mk_iff]
    | with_reducible refine keeps_ite ?_ ?_
    | with_reducible refine outKeeps_ite ?_ ?_
    | with_reducible refine outKeeps_next.2 ?_
    | with_reducible refine keeps_ite2 ?_ ?_
    | with_reducible refine keeps_foldl ?_ (fun _ _ _ => ?_)
    | with_reducible refine keeps_vmem (fun h => Memory.wf_memWriteBe _ _ _ _ h) rfl rfl rfl rfl rfl ?_
    | with_reducible refine keeps_vmem (fun h => Memory.wf_memWrite _ _ h) rfl rfl rfl rfl rfl ?_
    | with_reducible refine keeps_vmem (fun h => Memory.wf_filter _ h) rfl rfl rfl rfl rfl ?_
    | with_reducible refine keeps_mems (fun h => wf_mems_set h (Memory.wf_memWriteBe _ _ _ _ (h _))) rfl rfl rfl rfl rfl ?_
    | with_reducible refine keeps_mems (fun h => wf_mems_set h (Memory.wf_memWrite _ _ (h _))) rfl rfl rfl rfl rfl ?_
    | with_reducible refine keeps_mems (fun h => wf_mems_set h (Memory.wf_memCopyIf _ (h _))) rfl rfl rfl rfl rfl ?_
    | with_reducible refine keeps_mems (fun h => wf_mems_set h (Memory.wf_nil)) rfl rfl rfl rfl rfl ?_
    | with_reducible apply fwdPush_keeps | with_reducible apply markShared_keeps
    | split
    | dsimp only

theorem lncBufferWrite_keeps {t₀ : State} (b : Beat) (s : State) (h₀ : Keeps t₀ s) :
    Keeps t₀ (lncBufferWrite b s) := by
  unfold lncBufferWrite
  repeat' first
    | with_reducible assumption
    | with_reducible exact fun _ => rfl
    | with_reducible exact fun _ _ => rfl
    | with_reducible exact fun _ => ⟨id, id⟩
    | (rename_i hq; have hq2 := congrArg Prod.snd hq; with_reducible dsimp only at hq2; subst hq2)
    | simp only [↓keeps_mk_iff]
    | with_reducible refine keeps_ite ?_ ?_
    | with_reducible refine outKeeps_ite ?_ ?_
    | with_reducible refine outKeeps_next.2 ?_
    | with_reducible refine keeps_ite2 ?_ ?_
    | with_reducible refine keeps_foldl ?_ (fun _ _ _ => ?_)
    | with_reducible refine keeps_vmem (fun h => Memory.wf_memWriteBe _ _ _ _ h) rfl rfl rfl rfl rfl ?_
    | with_reducible refine keeps_vmem (fun h => Memory.wf_memWrite _ _ h) rfl rfl rfl rfl rfl ?_
    | with_reducible refine keeps_vmem (fun h => Memory.wf_filter _ h) rfl rfl rfl rfl rfl ?_
    | with_reducible refine keeps_mems (fun h => wf_mems_set h (Memory.wf_memWriteBe _ _ _ _ (h _))) rfl rfl rfl rfl rfl ?_
    | with_reducible refine keeps_mems (fun h => wf_mems_set h (Memory.wf_memWrite _ _ (h _))) rfl rfl rfl rfl rfl ?_
    | with_reducible refine keeps_mems (fun h => wf_mems_set h (Memory.wf_memCopyIf _ (h _))) rfl rfl rfl rfl rfl ?_
    | with_reducible refine keeps_mems (fun h => wf_mems_set h (Memory.wf_nil)) rfl rfl rfl rfl rfl ?_
    | with_reducible apply lncCommitted_keeps
    | split
    | dsimp only

theorem bwBeat_keeps {t₀ : State} (m : Option (Fin 8)) (b : Beat) (s : State) (h₀ : Keeps t₀ s) :
    Keeps t₀ (bwBeat m b s) := by
  unfold bwBeat
  repeat' first
    | with_reducible assumption
    | with_reducible exact fun _ => rfl
    | with_reducible exact fun _ _ => rfl
    | with_reducible exact fun _ => ⟨id, id⟩
    | (rename_i hq; have hq2 := congrArg Prod.snd hq; with_reducible dsimp only at hq2; subst hq2)
    | simp only [↓keeps_mk_iff]
    | with_reducible refine keeps_ite ?_ ?_
    | with_reducible refine outKeeps_ite ?_ ?_
    | with_reducible refine outKeeps_next.2 ?_
    | with_reducible refine keeps_ite2 ?_ ?_
    | with_reducible refine keeps_foldl ?_ (fun _ _ _ => ?_)
    | with_reducible apply bwCount_keeps | with_reducible apply bwTarget_keeps
    | split
    | dsimp only

theorem sharedAccess_keeps {t₀ : State} (m : Option (Fin 8)) (b : Beat) (s : State) (h₀ : Keeps t₀ s) :
    Keeps t₀ (sharedAccess m b s).2 := by
  unfold sharedAccess
  repeat' first
    | with_reducible assumption
    | with_reducible exact fun _ => rfl
    | with_reducible exact fun _ _ => rfl
    | with_reducible exact fun _ => ⟨id, id⟩
    | (rename_i hq; have hq2 := congrArg Prod.snd hq; with_reducible dsimp only at hq2; subst hq2)
    | simp only [↓keeps_mk_iff]
    | with_reducible refine keeps_ite ?_ ?_
    | with_reducible refine outKeeps_ite ?_ ?_
    | with_reducible refine outKeeps_next.2 ?_
    | with_reducible refine keeps_ite2 ?_ ?_
    | with_reducible refine keeps_foldl ?_ (fun _ _ _ => ?_)
    | with_reducible apply sharedWrite_keeps
    | split
    | dsimp only

theorem voteAccess_keeps {t₀ : State} (m : Option (Fin 8)) (b : Beat) (s : State) (h₀ : Keeps t₀ s) :
    Keeps t₀ (voteAccess m b s).2 := by
  unfold voteAccess
  repeat' first
    | with_reducible assumption
    | with_reducible exact fun _ => rfl
    | with_reducible exact fun _ _ => rfl
    | with_reducible exact fun _ => ⟨id, id⟩
    | (rename_i hq; have hq2 := congrArg Prod.snd hq; with_reducible dsimp only at hq2; subst hq2)
    | simp only [↓keeps_mk_iff]
    | with_reducible refine keeps_ite ?_ ?_
    | with_reducible refine outKeeps_ite ?_ ?_
    | with_reducible refine outKeeps_next.2 ?_
    | with_reducible refine keeps_ite2 ?_ ?_
    | with_reducible refine keeps_foldl ?_ (fun _ _ _ => ?_)
    | with_reducible refine keeps_vmem (fun h => Memory.wf_memWriteBe _ _ _ _ h) rfl rfl rfl rfl rfl ?_
    | with_reducible refine keeps_vmem (fun h => Memory.wf_memWrite _ _ h) rfl rfl rfl rfl rfl ?_
    | with_reducible refine keeps_vmem (fun h => Memory.wf_filter _ h) rfl rfl rfl rfl rfl ?_
    | with_reducible refine keeps_mems (fun h => wf_mems_set h (Memory.wf_memWriteBe _ _ _ _ (h _))) rfl rfl rfl rfl rfl ?_
    | with_reducible refine keeps_mems (fun h => wf_mems_set h (Memory.wf_memWrite _ _ (h _))) rfl rfl rfl rfl rfl ?_
    | with_reducible refine keeps_mems (fun h => wf_mems_set h (Memory.wf_memCopyIf _ (h _))) rfl rfl rfl rfl rfl ?_
    | with_reducible refine keeps_mems (fun h => wf_mems_set h (Memory.wf_nil)) rfl rfl rfl rfl rfl ?_
    | with_reducible apply busError_keeps | with_reducible apply lncBufferWrite_keeps | with_reducible apply voteWrite_keeps | with_reducible apply voteReadEffect_keeps
    | split
    | dsimp only

theorem fabric_keeps {t₀ : State} (m : Option (Fin 8)) (b : Beat) (s : State) (h₀ : Keeps t₀ s) :
    Keeps t₀ (fabric m b s).2 := by
  unfold fabric
  repeat' first
    | with_reducible assumption
    | with_reducible exact fun _ => rfl
    | with_reducible exact fun _ _ => rfl
    | with_reducible exact fun _ => ⟨id, id⟩
    | (rename_i hq; have hq2 := congrArg Prod.snd hq; with_reducible dsimp only at hq2; subst hq2)
    | simp only [↓keeps_mk_iff]
    | with_reducible refine keeps_ite ?_ ?_
    | with_reducible refine outKeeps_ite ?_ ?_
    | with_reducible refine outKeeps_next.2 ?_
    | with_reducible refine keeps_ite2 ?_ ?_
    | with_reducible refine keeps_foldl ?_ (fun _ _ _ => ?_)
    | with_reducible apply bwBeat_keeps | with_reducible apply voteAccess_keeps | with_reducible apply busError_keeps | with_reducible apply sharedAccess_keeps | with_reducible apply brgAccess_keeps
    | split
    | dsimp only

theorem applyBurst_keeps {t₀ : State} (m : Option (Fin 8)) (bs : List Beat) (s : State)
    (h₀ : Keeps t₀ s) : Keeps t₀ (applyBurst m bs s).2 := by
  unfold applyBurst
  generalize BusReply.done 0 = r
  induction bs generalizing r s with
  | nil => exact h₀
  | cons b bs ih =>
    rw [List.foldl_cons]
    dsimp only
    split
    · exact ih s h₀ _
    · exact ih _ (fabric_keeps m b s h₀) _

theorem pushResponse_keeps {t₀ : State} (m : Option (Fin 8)) (tag : Nat) (r : BusReply) (s : State) (h₀ : Keeps t₀ s) :
    Keeps t₀ (pushResponse m tag r s) := by
  unfold pushResponse
  repeat' first
    | with_reducible assumption
    | with_reducible exact fun _ => rfl
    | with_reducible exact fun _ _ => rfl
    | with_reducible exact fun _ => ⟨id, id⟩
    | (rename_i hq; have hq2 := congrArg Prod.snd hq; with_reducible dsimp only at hq2; subst hq2)
    | simp only [↓keeps_mk_iff]
    | with_reducible refine keeps_ite ?_ ?_
    | with_reducible refine outKeeps_ite ?_ ?_
    | with_reducible refine outKeeps_next.2 ?_
    | with_reducible refine keeps_ite2 ?_ ?_
    | with_reducible refine keeps_foldl ?_ (fun _ _ _ => ?_)
    | split
    | dsimp only

theorem busForward_keeps {t₀ : State} (b : Beat) (core : Option (Fin 8)) (s : State) (h₀ : Keeps t₀ s) :
    Keeps t₀ (busForward b core s) := by
  unfold busForward
  repeat' first
    | with_reducible assumption
    | with_reducible exact fun _ => rfl
    | with_reducible exact fun _ _ => rfl
    | with_reducible exact fun _ => ⟨id, id⟩
    | (rename_i hq; have hq2 := congrArg Prod.snd hq; with_reducible dsimp only at hq2; subst hq2)
    | simp only [↓keeps_mk_iff]
    | with_reducible refine keeps_ite ?_ ?_
    | with_reducible refine outKeeps_ite ?_ ?_
    | with_reducible refine outKeeps_next.2 ?_
    | with_reducible refine keeps_ite2 ?_ ?_
    | with_reducible refine keeps_foldl ?_ (fun _ _ _ => ?_)
    | with_reducible apply applyBurst_keeps | with_reducible apply pushResponse_keeps | with_reducible apply fabric_keeps
    | split
    | dsimp only

theorem execLaneBeat_keeps {t₀ : State} (i0 i1 i2 i3 : LaneInput) (s : State) (h₀ : Keeps t₀ s) :
    OutKeeps t₀ (execLaneBeat i0 i1 i2 i3 s) := by
  unfold execLaneBeat
  repeat' first
    | with_reducible assumption
    | with_reducible exact fun _ => rfl
    | with_reducible exact fun _ _ => rfl
    | with_reducible exact fun _ => ⟨id, id⟩
    | (rename_i hq; have hq2 := congrArg Prod.snd hq; with_reducible dsimp only at hq2; subst hq2)
    | simp only [↓keeps_mk_iff]
    | with_reducible refine keeps_ite ?_ ?_
    | with_reducible refine outKeeps_ite ?_ ?_
    | with_reducible refine outKeeps_next.2 ?_
    | with_reducible refine keeps_ite2 ?_ ?_
    | with_reducible refine keeps_foldl ?_ (fun _ _ _ => ?_)
    | with_reducible apply busForward_keeps | with_reducible apply laneSilent_keeps | with_reducible apply voteClock_keeps
    | split
    | dsimp only

theorem execLockstepMismatch_keeps {t₀ : State} (lane : Fin 4) (cls : BitVec 4) (groups : BitVec 13) (s : State) (h₀ : Keeps t₀ s) :
    OutKeeps t₀ (execLockstepMismatch lane cls groups s) := by
  unfold execLockstepMismatch
  repeat' first
    | with_reducible assumption
    | with_reducible exact fun _ => rfl
    | with_reducible exact fun _ _ => rfl
    | with_reducible exact fun _ => ⟨id, id⟩
    | (rename_i hq; have hq2 := congrArg Prod.snd hq; with_reducible dsimp only at hq2; subst hq2)
    | simp only [↓keeps_mk_iff]
    | with_reducible refine keeps_ite ?_ ?_
    | with_reducible refine outKeeps_ite ?_ ?_
    | with_reducible refine outKeeps_next.2 ?_
    | with_reducible refine keeps_ite2 ?_ ?_
    | with_reducible refine keeps_foldl ?_ (fun _ _ _ => ?_)
    | with_reducible apply laneSilent_keeps
    | split
    | dsimp only

theorem execLaneMemUe_keeps {t₀ : State} (lane : Fin 4) (addr : BitVec 40) (s : State) (h₀ : Keeps t₀ s) :
    OutKeeps t₀ (execLaneMemUe lane addr s) := by
  unfold execLaneMemUe
  repeat' first
    | with_reducible assumption
    | with_reducible exact fun _ => rfl
    | with_reducible exact fun _ _ => rfl
    | with_reducible exact fun _ => ⟨id, id⟩
    | (rename_i hq; have hq2 := congrArg Prod.snd hq; with_reducible dsimp only at hq2; subst hq2)
    | simp only [↓keeps_mk_iff]
    | with_reducible refine keeps_ite ?_ ?_
    | with_reducible refine outKeeps_ite ?_ ?_
    | with_reducible refine outKeeps_next.2 ?_
    | with_reducible refine keeps_ite2 ?_ ?_
    | with_reducible refine keeps_foldl ?_ (fun _ _ _ => ?_)
    | with_reducible apply laneSilent_keeps
    | split
    | dsimp only

theorem lanePort_keeps {t₀ : State} (r : Response) (l : Fin 4) (s : State) (h₀ : Keeps t₀ s) :
    Keeps t₀ (lanePort r l s) := by
  unfold lanePort
  repeat' first
    | with_reducible assumption
    | with_reducible exact fun _ => rfl
    | with_reducible exact fun _ _ => rfl
    | with_reducible exact fun _ => ⟨id, id⟩
    | (rename_i hq; have hq2 := congrArg Prod.snd hq; with_reducible dsimp only at hq2; subst hq2)
    | simp only [↓keeps_mk_iff]
    | with_reducible refine keeps_ite ?_ ?_
    | with_reducible refine outKeeps_ite ?_ ?_
    | with_reducible refine outKeeps_next.2 ?_
    | with_reducible refine keeps_ite2 ?_ ?_
    | with_reducible refine keeps_foldl ?_ (fun _ _ _ => ?_)
    | split
    | dsimp only

theorem deliverResponse_keeps {t₀ : State} (s : State) (h₀ : Keeps t₀ s) :
    Keeps t₀ (deliverResponse s) := by
  unfold deliverResponse
  repeat' first
    | with_reducible assumption
    | with_reducible exact fun _ => rfl
    | with_reducible exact fun _ _ => rfl
    | with_reducible exact fun _ => ⟨id, id⟩
    | (rename_i hq; have hq2 := congrArg Prod.snd hq; with_reducible dsimp only at hq2; subst hq2)
    | simp only [↓keeps_mk_iff]
    | with_reducible refine keeps_ite ?_ ?_
    | with_reducible refine outKeeps_ite ?_ ?_
    | with_reducible refine outKeeps_next.2 ?_
    | with_reducible refine keeps_ite2 ?_ ?_
    | with_reducible refine keeps_foldl ?_ (fun _ _ _ => ?_)
    | with_reducible apply lanePort_keeps
    | split
    | dsimp only

theorem execFabricResponse_keeps {t₀ : State} (irq : Option (BitVec 9)) (s : State) (h₀ : Keeps t₀ s) :
    OutKeeps t₀ (execFabricResponse irq s) := by
  unfold execFabricResponse
  repeat' first
    | with_reducible assumption
    | with_reducible exact fun _ => rfl
    | with_reducible exact fun _ _ => rfl
    | with_reducible exact fun _ => ⟨id, id⟩
    | (rename_i hq; have hq2 := congrArg Prod.snd hq; with_reducible dsimp only at hq2; subst hq2)
    | simp only [↓keeps_mk_iff]
    | with_reducible refine keeps_ite ?_ ?_
    | with_reducible refine outKeeps_ite ?_ ?_
    | with_reducible refine outKeeps_next.2 ?_
    | with_reducible refine keeps_ite2 ?_ ?_
    | with_reducible refine keeps_foldl ?_ (fun _ _ _ => ?_)
    | with_reducible apply deliver_keeps | with_reducible apply deliverResponse_keeps
    | split
    | dsimp only

theorem becomeSpare_keeps {t₀ : State} (l : Fin 4) (stale : Bool) (s : State) (h₀ : Keeps t₀ s) :
    Keeps t₀ (becomeSpare l stale s) := by
  unfold becomeSpare
  repeat' first
    | with_reducible assumption
    | with_reducible exact fun _ => rfl
    | with_reducible exact fun _ _ => rfl
    | with_reducible exact fun _ => ⟨id, id⟩
    | (rename_i hq; have hq2 := congrArg Prod.snd hq; with_reducible dsimp only at hq2; subst hq2)
    | simp only [↓keeps_mk_iff]
    | with_reducible refine keeps_ite ?_ ?_
    | with_reducible refine outKeeps_ite ?_ ?_
    | with_reducible refine outKeeps_next.2 ?_
    | with_reducible refine keeps_ite2 ?_ ?_
    | with_reducible refine keeps_foldl ?_ (fun _ _ _ => ?_)
    | with_reducible apply setLane_keeps
    | split
    | dsimp only

theorem execQuarantineTestsDone_keeps {t₀ : State} (lane : Fin 4) (result : LaneTest) (s : State) (h₀ : Keeps t₀ s) :
    OutKeeps t₀ (execQuarantineTestsDone lane result s) := by
  unfold execQuarantineTestsDone
  repeat' first
    | with_reducible assumption
    | with_reducible exact fun _ => rfl
    | with_reducible exact fun _ _ => rfl
    | with_reducible exact fun _ => ⟨id, id⟩
    | (rename_i hq; have hq2 := congrArg Prod.snd hq; with_reducible dsimp only at hq2; subst hq2)
    | simp only [↓keeps_mk_iff]
    | with_reducible refine keeps_ite ?_ ?_
    | with_reducible refine outKeeps_ite ?_ ?_
    | with_reducible refine outKeeps_next.2 ?_
    | with_reducible refine keeps_ite2 ?_ ?_
    | with_reducible refine keeps_foldl ?_ (fun _ _ _ => ?_)
    | with_reducible apply raise_keeps | with_reducible apply becomeSpare_keeps | with_reducible apply laneReset_keeps | with_reducible apply retire_keeps
    | split
    | dsimp only

theorem execRotationTimerExpiry_keeps {t₀ : State} (dt : Nat) (s : State) (h₀ : Keeps t₀ s) :
    OutKeeps t₀ (execRotationTimerExpiry dt s) := by
  unfold execRotationTimerExpiry
  repeat' first
    | with_reducible assumption
    | with_reducible exact fun _ => rfl
    | with_reducible exact fun _ _ => rfl
    | with_reducible exact fun _ => ⟨id, id⟩
    | (rename_i hq; have hq2 := congrArg Prod.snd hq; with_reducible dsimp only at hq2; subst hq2)
    | simp only [↓keeps_mk_iff]
    | with_reducible refine keeps_ite ?_ ?_
    | with_reducible refine outKeeps_ite ?_ ?_
    | with_reducible refine outKeeps_next.2 ?_
    | with_reducible refine keeps_ite2 ?_ ?_
    | with_reducible refine keeps_foldl ?_ (fun _ _ _ => ?_)
    | with_reducible apply advance_keeps | with_reducible apply rotationExpire_keeps
    | split
    | dsimp only

theorem execBisqueOverdue_keeps {t₀ : State} (lane : Fin 4) (s : State) (h₀ : Keeps t₀ s) :
    OutKeeps t₀ (execBisqueOverdue lane s) := by
  unfold execBisqueOverdue
  repeat' first
    | with_reducible assumption
    | with_reducible exact fun _ => rfl
    | with_reducible exact fun _ _ => rfl
    | with_reducible exact fun _ => ⟨id, id⟩
    | (rename_i hq; have hq2 := congrArg Prod.snd hq; with_reducible dsimp only at hq2; subst hq2)
    | simp only [↓keeps_mk_iff]
    | with_reducible refine keeps_ite ?_ ?_
    | with_reducible refine outKeeps_ite ?_ ?_
    | with_reducible refine outKeeps_next.2 ?_
    | with_reducible refine keeps_ite2 ?_ ?_
    | with_reducible refine keeps_foldl ?_ (fun _ _ _ => ?_)
    | with_reducible apply record_keeps | with_reducible apply setLane_keeps
    | split
    | dsimp only

theorem rewedgeLoad_keeps {t₀ : State} (r : Rewedge) (s : State) (h₀ : Keeps t₀ s) :
    Keeps t₀ (rewedgeLoad r s) := by
  unfold rewedgeLoad
  repeat' first
    | with_reducible assumption
    | with_reducible exact fun _ => rfl
    | with_reducible exact fun _ _ => rfl
    | with_reducible exact fun _ => ⟨id, id⟩
    | (rename_i hq; have hq2 := congrArg Prod.snd hq; with_reducible dsimp only at hq2; subst hq2)
    | simp only [↓keeps_mk_iff]
    | with_reducible refine keeps_ite ?_ ?_
    | with_reducible refine outKeeps_ite ?_ ?_
    | with_reducible refine outKeeps_next.2 ?_
    | with_reducible refine keeps_ite2 ?_ ?_
    | with_reducible refine keeps_foldl ?_ (fun _ _ _ => ?_)
    | with_reducible apply invalidateLanes_keeps | with_reducible apply loadRecord_keeps | with_reducible apply setLane_keeps
    | split
    | dsimp only

theorem rewedgeFails_keeps {t₀ : State} (r : Rewedge) (s : State) (h₀ : Keeps t₀ s) :
    Keeps t₀ (rewedgeFails r s) := by
  unfold rewedgeFails
  repeat' first
    | with_reducible assumption
    | with_reducible exact fun _ => rfl
    | with_reducible exact fun _ _ => rfl
    | with_reducible exact fun _ => ⟨id, id⟩
    | (rename_i hq; have hq2 := congrArg Prod.snd hq; with_reducible dsimp only at hq2; subst hq2)
    | simp only [↓keeps_mk_iff]
    | with_reducible refine keeps_ite ?_ ?_
    | with_reducible refine outKeeps_ite ?_ ?_
    | with_reducible refine outKeeps_next.2 ?_
    | with_reducible refine keeps_ite2 ?_ ?_
    | with_reducible refine keeps_foldl ?_ (fun _ _ _ => ?_)
    | with_reducible apply toQuarantine_keeps | with_reducible apply wedgeAbort_keeps | with_reducible apply setModState_keeps | with_reducible apply setVote_keeps
    | split
    | dsimp only

theorem execRewedge_keeps {t₀ : State} (dt : Nat) (crcOk : Bool) (s : State) (h₀ : Keeps t₀ s) :
    OutKeeps t₀ (execRewedge dt crcOk s) := by
  unfold execRewedge
  repeat' first
    | with_reducible assumption
    | with_reducible exact fun _ => rfl
    | with_reducible exact fun _ _ => rfl
    | with_reducible exact fun _ => ⟨id, id⟩
    | (rename_i hq; have hq2 := congrArg Prod.snd hq; with_reducible dsimp only at hq2; subst hq2)
    | simp only [↓keeps_mk_iff]
    | with_reducible refine keeps_ite ?_ ?_
    | with_reducible refine outKeeps_ite ?_ ?_
    | with_reducible refine outKeeps_next.2 ?_
    | with_reducible refine keeps_ite2 ?_ ?_
    | with_reducible refine keeps_foldl ?_ (fun _ _ _ => ?_)
    | with_reducible apply advance_keeps | with_reducible apply mirrorDisagree_keeps | with_reducible apply rewedgeLoad_keeps | with_reducible apply rewedgeFails_keeps
    | split
    | dsimp only

theorem startBisque_keeps {t₀ : State} (l : Fin 4) (s : State) (h₀ : Keeps t₀ s) :
    Keeps t₀ (startBisque l s) := by
  unfold startBisque
  repeat' first
    | with_reducible assumption
    | with_reducible exact fun _ => rfl
    | with_reducible exact fun _ _ => rfl
    | with_reducible exact fun _ => ⟨id, id⟩
    | (rename_i hq; have hq2 := congrArg Prod.snd hq; with_reducible dsimp only at hq2; subst hq2)
    | simp only [↓keeps_mk_iff]
    | with_reducible refine keeps_ite ?_ ?_
    | with_reducible refine outKeeps_ite ?_ ?_
    | with_reducible refine outKeeps_next.2 ?_
    | with_reducible refine keeps_ite2 ?_ ?_
    | with_reducible refine keeps_foldl ?_ (fun _ _ _ => ?_)
    | with_reducible apply setLane_keeps
    | split
    | dsimp only

theorem execBisqueSwap_keeps {t₀ : State} (dt : Nat) (s : State) (h₀ : Keeps t₀ s) :
    OutKeeps t₀ (execBisqueSwap dt s) := by
  unfold execBisqueSwap
  repeat' first
    | with_reducible assumption
    | with_reducible exact fun _ => rfl
    | with_reducible exact fun _ _ => rfl
    | with_reducible exact fun _ => ⟨id, id⟩
    | (rename_i hq; have hq2 := congrArg Prod.snd hq; with_reducible dsimp only at hq2; subst hq2)
    | simp only [↓keeps_mk_iff]
    | with_reducible refine keeps_ite ?_ ?_
    | with_reducible refine outKeeps_ite ?_ ?_
    | with_reducible refine outKeeps_next.2 ?_
    | with_reducible refine keeps_ite2 ?_ ?_
    | with_reducible refine keeps_foldl ?_ (fun _ _ _ => ?_)
    | with_reducible apply advance_keeps | with_reducible apply rotationRestart_keeps | with_reducible apply startBisque_keeps | with_reducible apply joinLane_keeps | with_reducible apply raise_keeps | with_reducible apply record_keeps
    | split
    | dsimp only

theorem execSubstituted_keeps {t₀ : State} (dt : Nat) (s : State) (h₀ : Keeps t₀ s) :
    OutKeeps t₀ (execSubstituted dt s) := by
  unfold execSubstituted
  repeat' first
    | with_reducible assumption
    | with_reducible exact fun _ => rfl
    | with_reducible exact fun _ _ => rfl
    | with_reducible exact fun _ => ⟨id, id⟩
    | (rename_i hq; have hq2 := congrArg Prod.snd hq; with_reducible dsimp only at hq2; subst hq2)
    | simp only [↓keeps_mk_iff]
    | with_reducible refine keeps_ite ?_ ?_
    | with_reducible refine outKeeps_ite ?_ ?_
    | with_reducible refine outKeeps_next.2 ?_
    | with_reducible refine keeps_ite2 ?_ ?_
    | with_reducible refine keeps_foldl ?_ (fun _ _ _ => ?_)
    | with_reducible apply advance_keeps | with_reducible apply joinLane_keeps | with_reducible apply rotationRestart_keeps | with_reducible apply raise_keeps | with_reducible apply record_keeps | with_reducible apply setModState_keeps | with_reducible apply setVote_keeps
    | split
    | dsimp only

theorem bisqueInjection_keeps {t₀ : State} (f : InjFail) (s : State) (h₀ : Keeps t₀ s) :
    Keeps t₀ (bisqueInjection f s) := by
  unfold bisqueInjection
  repeat' first
    | with_reducible assumption
    | with_reducible exact fun _ => rfl
    | with_reducible exact fun _ _ => rfl
    | with_reducible exact fun _ => ⟨id, id⟩
    | (rename_i hq; have hq2 := congrArg Prod.snd hq; with_reducible dsimp only at hq2; subst hq2)
    | simp only [↓keeps_mk_iff]
    | with_reducible refine keeps_ite ?_ ?_
    | with_reducible refine outKeeps_ite ?_ ?_
    | with_reducible refine outKeeps_next.2 ?_
    | with_reducible refine keeps_ite2 ?_ ?_
    | with_reducible refine keeps_foldl ?_ (fun _ _ _ => ?_)
    | with_reducible apply bisqueFail_keeps | with_reducible apply enterService_keeps | with_reducible apply raise_keeps | with_reducible apply record_keeps
    | split
    | dsimp only

theorem bisqueStepFails_keeps {t₀ : State} (e : StepEnd) (s : State) (h₀ : Keeps t₀ s) :
    Keeps t₀ (bisqueStepFails e s) := by
  unfold bisqueStepFails
  repeat' first
    | with_reducible assumption
    | with_reducible exact fun _ => rfl
    | with_reducible exact fun _ _ => rfl
    | with_reducible exact fun _ => ⟨id, id⟩
    | (rename_i hq; have hq2 := congrArg Prod.snd hq; with_reducible dsimp only at hq2; subst hq2)
    | simp only [↓keeps_mk_iff]
    | with_reducible refine keeps_ite ?_ ?_
    | with_reducible refine outKeeps_ite ?_ ?_
    | with_reducible refine outKeeps_next.2 ?_
    | with_reducible refine keeps_ite2 ?_ ?_
    | with_reducible refine keeps_foldl ?_ (fun _ _ _ => ?_)
    | with_reducible apply bisqueInjection_keeps | with_reducible apply retire_keeps | with_reducible apply bisqueFail_keeps | with_reducible apply toQuarantine_keeps
    | split
    | dsimp only

theorem bisquePasses_keeps {t₀ : State} (s : State) (h₀ : Keeps t₀ s) :
    Keeps t₀ (bisquePasses s) := by
  unfold bisquePasses
  repeat' first
    | with_reducible assumption
    | with_reducible exact fun _ => rfl
    | with_reducible exact fun _ _ => rfl
    | with_reducible exact fun _ => ⟨id, id⟩
    | (rename_i hq; have hq2 := congrArg Prod.snd hq; with_reducible dsimp only at hq2; subst hq2)
    | simp only [↓keeps_mk_iff]
    | with_reducible refine keeps_ite ?_ ?_
    | with_reducible refine outKeeps_ite ?_ ?_
    | with_reducible refine outKeeps_next.2 ?_
    | with_reducible refine keeps_ite2 ?_ ?_
    | with_reducible refine keeps_foldl ?_ (fun _ _ _ => ?_)
    | with_reducible refine keeps_vmem (fun h => Memory.wf_memWriteBe _ _ _ _ h) rfl rfl rfl rfl rfl ?_
    | with_reducible refine keeps_vmem (fun h => Memory.wf_memWrite _ _ h) rfl rfl rfl rfl rfl ?_
    | with_reducible refine keeps_vmem (fun h => Memory.wf_filter _ h) rfl rfl rfl rfl rfl ?_
    | with_reducible refine keeps_mems (fun h => wf_mems_set h (Memory.wf_memWriteBe _ _ _ _ (h _))) rfl rfl rfl rfl rfl ?_
    | with_reducible refine keeps_mems (fun h => wf_mems_set h (Memory.wf_memWrite _ _ (h _))) rfl rfl rfl rfl rfl ?_
    | with_reducible refine keeps_mems (fun h => wf_mems_set h (Memory.wf_memCopyIf _ (h _))) rfl rfl rfl rfl rfl ?_
    | with_reducible refine keeps_mems (fun h => wf_mems_set h (Memory.wf_nil)) rfl rfl rfl rfl rfl ?_
    | with_reducible apply setLane_keeps | with_reducible apply raise_keeps | with_reducible apply record_keeps | with_reducible apply becomeSpare_keeps
    | split
    | dsimp only

theorem bisqueStepPasses_keeps {t₀ : State} (s : State) (h₀ : Keeps t₀ s) :
    Keeps t₀ (bisqueStepPasses s) := by
  unfold bisqueStepPasses
  repeat' first
    | with_reducible assumption
    | with_reducible exact fun _ => rfl
    | with_reducible exact fun _ _ => rfl
    | with_reducible exact fun _ => ⟨id, id⟩
    | (rename_i hq; have hq2 := congrArg Prod.snd hq; with_reducible dsimp only at hq2; subst hq2)
    | simp only [↓keeps_mk_iff]
    | with_reducible refine keeps_ite ?_ ?_
    | with_reducible refine outKeeps_ite ?_ ?_
    | with_reducible refine outKeeps_next.2 ?_
    | with_reducible refine keeps_ite2 ?_ ?_
    | with_reducible refine keeps_foldl ?_ (fun _ _ _ => ?_)
    | with_reducible apply laneReset_keeps | with_reducible apply bisquePasses_keeps
    | split
    | dsimp only

theorem execBisqueStepComplete_keeps {t₀ : State} (dt : Nat) (result : StepEnd) (s : State) (h₀ : Keeps t₀ s) :
    OutKeeps t₀ (execBisqueStepComplete dt result s) := by
  unfold execBisqueStepComplete
  repeat' first
    | with_reducible assumption
    | with_reducible exact fun _ => rfl
    | with_reducible exact fun _ _ => rfl
    | with_reducible exact fun _ => ⟨id, id⟩
    | (rename_i hq; have hq2 := congrArg Prod.snd hq; with_reducible dsimp only at hq2; subst hq2)
    | simp only [↓keeps_mk_iff]
    | with_reducible refine keeps_ite ?_ ?_
    | with_reducible refine outKeeps_ite ?_ ?_
    | with_reducible refine outKeeps_next.2 ?_
    | with_reducible refine keeps_ite2 ?_ ?_
    | with_reducible refine keeps_foldl ?_ (fun _ _ _ => ?_)
    | with_reducible apply advance_keeps | with_reducible apply bisqueStepPasses_keeps | with_reducible apply bisqueStepFails_keeps
    | split
    | dsimp only

theorem execBisqueStepOverrun_keeps {t₀ : State} (dt : Nat) (s : State) (h₀ : Keeps t₀ s) :
    OutKeeps t₀ (execBisqueStepOverrun dt s) := by
  unfold execBisqueStepOverrun
  repeat' first
    | with_reducible assumption
    | with_reducible exact fun _ => rfl
    | with_reducible exact fun _ _ => rfl
    | with_reducible exact fun _ => ⟨id, id⟩
    | (rename_i hq; have hq2 := congrArg Prod.snd hq; with_reducible dsimp only at hq2; subst hq2)
    | simp only [↓keeps_mk_iff]
    | with_reducible refine keeps_ite ?_ ?_
    | with_reducible refine outKeeps_ite ?_ ?_
    | with_reducible refine outKeeps_next.2 ?_
    | with_reducible refine keeps_ite2 ?_ ?_
    | with_reducible refine keeps_foldl ?_ (fun _ _ _ => ?_)
    | with_reducible apply advance_keeps | with_reducible apply bisqueStepFails_keeps
    | split
    | dsimp only

theorem execWedgingStart_keeps {t₀ : State} (s : State) (h₀ : Keeps t₀ s) :
    OutKeeps t₀ (execWedgingStart s) := by
  unfold execWedgingStart
  repeat' first
    | with_reducible assumption
    | with_reducible exact fun _ => rfl
    | with_reducible exact fun _ _ => rfl
    | with_reducible exact fun _ => ⟨id, id⟩
    | (rename_i hq; have hq2 := congrArg Prod.snd hq; with_reducible dsimp only at hq2; subst hq2)
    | simp only [↓keeps_mk_iff]
    | with_reducible refine keeps_ite ?_ ?_
    | with_reducible refine outKeeps_ite ?_ ?_
    | with_reducible refine outKeeps_next.2 ?_
    | with_reducible refine keeps_ite2 ?_ ?_
    | with_reducible refine keeps_foldl ?_ (fun _ _ _ => ?_)
    | with_reducible apply setLane_keeps
    | split
    | dsimp only

theorem execZeroFillDone_keeps {t₀ : State} (dt : Nat) (s : State) (h₀ : Keeps t₀ s) :
    OutKeeps t₀ (execZeroFillDone dt s) := by
  unfold execZeroFillDone
  repeat' first
    | with_reducible assumption
    | with_reducible exact fun _ => rfl
    | with_reducible exact fun _ _ => rfl
    | with_reducible exact fun _ => ⟨id, id⟩
    | (rename_i hq; have hq2 := congrArg Prod.snd hq; with_reducible dsimp only at hq2; subst hq2)
    | simp only [↓keeps_mk_iff]
    | with_reducible refine keeps_ite ?_ ?_
    | with_reducible refine outKeeps_ite ?_ ?_
    | with_reducible refine outKeeps_next.2 ?_
    | with_reducible refine keeps_ite2 ?_ ?_
    | with_reducible refine keeps_foldl ?_ (fun _ _ _ => ?_)
    | with_reducible refine keeps_vmem (fun h => Memory.wf_memWriteBe _ _ _ _ h) rfl rfl rfl rfl rfl ?_
    | with_reducible refine keeps_vmem (fun h => Memory.wf_memWrite _ _ h) rfl rfl rfl rfl rfl ?_
    | with_reducible refine keeps_vmem (fun h => Memory.wf_filter _ h) rfl rfl rfl rfl rfl ?_
    | with_reducible refine keeps_mems (fun h => wf_mems_set h (Memory.wf_memWriteBe _ _ _ _ (h _))) rfl rfl rfl rfl rfl ?_
    | with_reducible refine keeps_mems (fun h => wf_mems_set h (Memory.wf_memWrite _ _ (h _))) rfl rfl rfl rfl rfl ?_
    | with_reducible refine keeps_mems (fun h => wf_mems_set h (Memory.wf_memCopyIf _ (h _))) rfl rfl rfl rfl rfl ?_
    | with_reducible refine keeps_mems (fun h => wf_mems_set h (Memory.wf_nil)) rfl rfl rfl rfl rfl ?_
    | with_reducible apply advance_keeps | with_reducible apply setLane_keeps
    | split
    | dsimp only

theorem copyPages_keeps {t₀ : State} (ps : List Nat) (s : State) (h₀ : Keeps t₀ s) :
    Keeps t₀ (copyPages ps s) := by
  unfold copyPages
  repeat' first
    | with_reducible assumption
    | with_reducible exact fun _ => rfl
    | with_reducible exact fun _ _ => rfl
    | with_reducible exact fun _ => ⟨id, id⟩
    | (rename_i hq; have hq2 := congrArg Prod.snd hq; with_reducible dsimp only at hq2; subst hq2)
    | simp only [↓keeps_mk_iff]
    | with_reducible refine keeps_ite ?_ ?_
    | with_reducible refine outKeeps_ite ?_ ?_
    | with_reducible refine outKeeps_next.2 ?_
    | with_reducible refine keeps_ite2 ?_ ?_
    | with_reducible refine keeps_foldl ?_ (fun _ _ _ => ?_)
    | with_reducible refine keeps_vmem (fun h => Memory.wf_memWriteBe _ _ _ _ h) rfl rfl rfl rfl rfl ?_
    | with_reducible refine keeps_vmem (fun h => Memory.wf_memWrite _ _ h) rfl rfl rfl rfl rfl ?_
    | with_reducible refine keeps_vmem (fun h => Memory.wf_filter _ h) rfl rfl rfl rfl rfl ?_
    | with_reducible refine keeps_mems (fun h => wf_mems_set h (Memory.wf_memWriteBe _ _ _ _ (h _))) rfl rfl rfl rfl rfl ?_
    | with_reducible refine keeps_mems (fun h => wf_mems_set h (Memory.wf_memWrite _ _ (h _))) rfl rfl rfl rfl rfl ?_
    | with_reducible refine keeps_mems (fun h => wf_mems_set h (Memory.wf_memCopyIf _ (h _))) rfl rfl rfl rfl rfl ?_
    | with_reducible refine keeps_mems (fun h => wf_mems_set h (Memory.wf_nil)) rfl rfl rfl rfl rfl ?_
    | with_reducible apply bwCount_keeps
    | split
    | dsimp only

theorem pageDisagree_keeps {t₀ : State} (v : PageVote) (s : State) (h₀ : Keeps t₀ s) :
    Keeps t₀ (pageDisagree v s) := by
  unfold pageDisagree
  repeat' first
    | with_reducible assumption
    | with_reducible exact fun _ => rfl
    | with_reducible exact fun _ _ => rfl
    | with_reducible exact fun _ => ⟨id, id⟩
    | (rename_i hq; have hq2 := congrArg Prod.snd hq; with_reducible dsimp only at hq2; subst hq2)
    | simp only [↓keeps_mk_iff]
    | with_reducible refine keeps_ite ?_ ?_
    | with_reducible refine outKeeps_ite ?_ ?_
    | with_reducible refine outKeeps_next.2 ?_
    | with_reducible refine keeps_ite2 ?_ ?_
    | with_reducible refine keeps_foldl ?_ (fun _ _ _ => ?_)
    | with_reducible apply mirrorDisagree_keeps
    | split
    | dsimp only

theorem execCatchUpCopyDone_keeps {t₀ : State} (dt : Nat) (vote : PageVote) (s : State) (h₀ : Keeps t₀ s) :
    OutKeeps t₀ (execCatchUpCopyDone dt vote s) := by
  unfold execCatchUpCopyDone
  repeat' first
    | with_reducible assumption
    | with_reducible exact fun _ => rfl
    | with_reducible exact fun _ _ => rfl
    | with_reducible exact fun _ => ⟨id, id⟩
    | (rename_i hq; have hq2 := congrArg Prod.snd hq; with_reducible dsimp only at hq2; subst hq2)
    | simp only [↓keeps_mk_iff]
    | with_reducible refine keeps_ite ?_ ?_
    | with_reducible refine outKeeps_ite ?_ ?_
    | with_reducible refine outKeeps_next.2 ?_
    | with_reducible refine keeps_ite2 ?_ ?_
    | with_reducible refine keeps_foldl ?_ (fun _ _ _ => ?_)
    | with_reducible apply advance_keeps | with_reducible apply pageDisagree_keeps | with_reducible apply copyPages_keeps | with_reducible apply drainMirror_keeps
    | split
    | dsimp only

theorem becomeWedged_keeps {t₀ : State} (s : State) (h₀ : Keeps t₀ s) :
    Keeps t₀ (becomeWedged s) := by
  unfold becomeWedged
  repeat' first
    | with_reducible assumption
    | with_reducible exact fun _ => rfl
    | with_reducible exact fun _ _ => rfl
    | with_reducible exact fun _ => ⟨id, id⟩
    | (rename_i hq; have hq2 := congrArg Prod.snd hq; with_reducible dsimp only at hq2; subst hq2)
    | simp only [↓keeps_mk_iff]
    | with_reducible refine keeps_ite ?_ ?_
    | with_reducible refine outKeeps_ite ?_ ?_
    | with_reducible refine outKeeps_next.2 ?_
    | with_reducible refine keeps_ite2 ?_ ?_
    | with_reducible refine keeps_foldl ?_ (fun _ _ _ => ?_)
    | with_reducible apply setLane_keeps | with_reducible apply raise_keeps | with_reducible apply record_keeps
    | split
    | dsimp only

theorem checksumDiffer_keeps {t₀ : State} (differ : List Nat) (s : State) (h₀ : Keeps t₀ s) :
    Keeps t₀ (checksumDiffer differ s) := by
  unfold checksumDiffer
  repeat' first
    | with_reducible assumption
    | with_reducible exact fun _ => rfl
    | with_reducible exact fun _ _ => rfl
    | with_reducible exact fun _ => ⟨id, id⟩
    | (rename_i hq; have hq2 := congrArg Prod.snd hq; with_reducible dsimp only at hq2; subst hq2)
    | simp only [↓keeps_mk_iff]
    | with_reducible refine keeps_ite ?_ ?_
    | with_reducible refine outKeeps_ite ?_ ?_
    | with_reducible refine outKeeps_next.2 ?_
    | with_reducible refine keeps_ite2 ?_ ?_
    | with_reducible refine keeps_foldl ?_ (fun _ _ _ => ?_)
    | with_reducible apply toQuarantine_keeps | with_reducible apply wedgeAbort_keeps | with_reducible apply copyPages_keeps | with_reducible apply drainMirror_keeps
    | split
    | dsimp only

theorem execChecksumRoundDone_keeps {t₀ : State} (dt : Nat) (vote : PageVote) (differ : List Nat) (s : State) (h₀ : Keeps t₀ s) :
    OutKeeps t₀ (execChecksumRoundDone dt vote differ s) := by
  unfold execChecksumRoundDone
  repeat' first
    | with_reducible assumption
    | with_reducible exact fun _ => rfl
    | with_reducible exact fun _ _ => rfl
    | with_reducible exact fun _ => ⟨id, id⟩
    | (rename_i hq; have hq2 := congrArg Prod.snd hq; with_reducible dsimp only at hq2; subst hq2)
    | simp only [↓keeps_mk_iff]
    | with_reducible refine keeps_ite ?_ ?_
    | with_reducible refine outKeeps_ite ?_ ?_
    | with_reducible refine outKeeps_next.2 ?_
    | with_reducible refine keeps_ite2 ?_ ?_
    | with_reducible refine keeps_foldl ?_ (fun _ _ _ => ?_)
    | with_reducible apply advance_keeps | with_reducible apply pageDisagree_keeps | with_reducible apply bwCount_keeps | with_reducible apply becomeWedged_keeps | with_reducible apply checksumDiffer_keeps
    | split
    | dsimp only

theorem execMirrorHoldRelease_keeps {t₀ : State} (dt : Nat) (s : State) (h₀ : Keeps t₀ s) :
    OutKeeps t₀ (execMirrorHoldRelease dt s) := by
  unfold execMirrorHoldRelease
  repeat' first
    | with_reducible assumption
    | with_reducible exact fun _ => rfl
    | with_reducible exact fun _ _ => rfl
    | with_reducible exact fun _ => ⟨id, id⟩
    | (rename_i hq; have hq2 := congrArg Prod.snd hq; with_reducible dsimp only at hq2; subst hq2)
    | simp only [↓keeps_mk_iff]
    | with_reducible refine keeps_ite ?_ ?_
    | with_reducible refine outKeeps_ite ?_ ?_
    | with_reducible refine outKeeps_next.2 ?_
    | with_reducible refine keeps_ite2 ?_ ?_
    | with_reducible refine keeps_foldl ?_ (fun _ _ _ => ?_)
    | with_reducible apply advance_keeps | with_reducible apply drainMirror_keeps
    | split
    | dsimp only

theorem execBankSyncFrameSend_keeps {t₀ : State} (dt : Nat) (extra : Bool) (ahead : BitVec 32) (s : State) (h₀ : Keeps t₀ s) :
    OutKeeps t₀ (execBankSyncFrameSend dt extra ahead s) := by
  unfold execBankSyncFrameSend
  repeat' first
    | with_reducible assumption
    | with_reducible exact fun _ => rfl
    | with_reducible exact fun _ _ => rfl
    | with_reducible exact fun _ => ⟨id, id⟩
    | (rename_i hq; have hq2 := congrArg Prod.snd hq; with_reducible dsimp only at hq2; subst hq2)
    | simp only [↓keeps_mk_iff]
    | with_reducible refine keeps_ite ?_ ?_
    | with_reducible refine outKeeps_ite ?_ ?_
    | with_reducible refine outKeeps_next.2 ?_
    | with_reducible refine keeps_ite2 ?_ ?_
    | with_reducible refine keeps_foldl ?_ (fun _ _ _ => ?_)
    | with_reducible apply advance_keeps
    | split
    | dsimp only

theorem noteBsync_keeps {t₀ : State} (b : Fin 3) (valid jump : Bool) (corr : Int) (s : State) (h₀ : Keeps t₀ s) :
    Keeps t₀ (noteBsync b valid jump corr s) := by
  unfold noteBsync
  repeat' first
    | with_reducible assumption
    | with_reducible exact fun _ => rfl
    | with_reducible exact fun _ _ => rfl
    | with_reducible exact fun _ => ⟨id, id⟩
    | (rename_i hq; have hq2 := congrArg Prod.snd hq; with_reducible dsimp only at hq2; subst hq2)
    | simp only [↓keeps_mk_iff]
    | with_reducible refine keeps_ite ?_ ?_
    | with_reducible refine outKeeps_ite ?_ ?_
    | with_reducible refine outKeeps_next.2 ?_
    | with_reducible refine keeps_ite2 ?_ ?_
    | with_reducible refine keeps_foldl ?_ (fun _ _ _ => ?_)
    | split
    | dsimp only

theorem pulseGood_keeps {t₀ : State} (b : Fin 3) (f : List Byte) (s : State) (h₀ : Keeps t₀ s) :
    Keeps t₀ (pulseGood b f s) := by
  unfold pulseGood
  repeat' first
    | with_reducible assumption
    | with_reducible exact fun _ => rfl
    | with_reducible exact fun _ _ => rfl
    | with_reducible exact fun _ => ⟨id, id⟩
    | (rename_i hq; have hq2 := congrArg Prod.snd hq; with_reducible dsimp only at hq2; subst hq2)
    | simp only [↓keeps_mk_iff]
    | with_reducible refine keeps_ite ?_ ?_
    | with_reducible refine outKeeps_ite ?_ ?_
    | with_reducible refine outKeeps_next.2 ?_
    | with_reducible refine keeps_ite2 ?_ ?_
    | with_reducible refine keeps_foldl ?_ (fun _ _ _ => ?_)
    | with_reducible apply setBank_keeps | with_reducible apply noteBsync_keeps | with_reducible apply stepForward_keeps | with_reducible apply stepBackward_keeps | with_reducible apply raise_keeps | with_reducible apply record_keeps
    | split
    | dsimp only

theorem pulseBad_keeps {t₀ : State} (b : Fin 3) (s : State) (h₀ : Keeps t₀ s) :
    Keeps t₀ (pulseBad b s) := by
  unfold pulseBad
  repeat' first
    | with_reducible assumption
    | with_reducible exact fun _ => rfl
    | with_reducible exact fun _ _ => rfl
    | with_reducible exact fun _ => ⟨id, id⟩
    | (rename_i hq; have hq2 := congrArg Prod.snd hq; with_reducible dsimp only at hq2; subst hq2)
    | simp only [↓keeps_mk_iff]
    | with_reducible refine keeps_ite ?_ ?_
    | with_reducible refine outKeeps_ite ?_ ?_
    | with_reducible refine outKeeps_next.2 ?_
    | with_reducible refine keeps_ite2 ?_ ?_
    | with_reducible refine keeps_foldl ?_ (fun _ _ _ => ?_)
    | with_reducible apply setBank_keeps | with_reducible apply raise_keeps | with_reducible apply record_keeps | with_reducible apply noteBsync_keeps
    | split
    | dsimp only

theorem execBankSyncPulse_keeps {t₀ : State} (dt : Nat) (bank : Fin 3) (rx : PulseRx) (s : State) (h₀ : Keeps t₀ s) :
    OutKeeps t₀ (execBankSyncPulse dt bank rx s) := by
  unfold execBankSyncPulse
  repeat' first
    | with_reducible assumption
    | with_reducible exact fun _ => rfl
    | with_reducible exact fun _ _ => rfl
    | with_reducible exact fun _ => ⟨id, id⟩
    | (rename_i hq; have hq2 := congrArg Prod.snd hq; with_reducible dsimp only at hq2; subst hq2)
    | simp only [↓keeps_mk_iff]
    | with_reducible refine keeps_ite ?_ ?_
    | with_reducible refine outKeeps_ite ?_ ?_
    | with_reducible refine outKeeps_next.2 ?_
    | with_reducible refine keeps_ite2 ?_ ?_
    | with_reducible refine keeps_foldl ?_ (fun _ _ _ => ?_)
    | with_reducible apply advance_keeps | with_reducible apply pulseGood_keeps | with_reducible apply pulseBad_keeps
    | split
    | dsimp only

theorem execFilteredStateChange_keeps {t₀ : State} (dt : Nat) (ch : Fin 48) (value : Bool) (s : State) (h₀ : Keeps t₀ s) :
    OutKeeps t₀ (execFilteredStateChange dt ch value s) := by
  unfold execFilteredStateChange
  repeat' first
    | with_reducible assumption
    | with_reducible exact fun _ => rfl
    | with_reducible exact fun _ _ => rfl
    | with_reducible exact fun _ => ⟨id, id⟩
    | (rename_i hq; have hq2 := congrArg Prod.snd hq; with_reducible dsimp only at hq2; subst hq2)
    | simp only [↓keeps_mk_iff]
    | with_reducible refine keeps_ite ?_ ?_
    | with_reducible refine outKeeps_ite ?_ ?_
    | with_reducible refine outKeeps_next.2 ?_
    | with_reducible refine keeps_ite2 ?_ ?_
    | with_reducible refine keeps_foldl ?_ (fun _ _ _ => ?_)
    | with_reducible apply advance_keeps | with_reducible apply setChan_keeps | with_reducible apply pushEvent_keeps
    | split
    | dsimp only

theorem execDiscrepancyTimeout_keeps {t₀ : State} (dt : Nat) (ch : Fin 48) (s : State) (h₀ : Keeps t₀ s) :
    OutKeeps t₀ (execDiscrepancyTimeout dt ch s) := by
  unfold execDiscrepancyTimeout
  repeat' first
    | with_reducible assumption
    | with_reducible exact fun _ => rfl
    | with_reducible exact fun _ _ => rfl
    | with_reducible exact fun _ => ⟨id, id⟩
    | (rename_i hq; have hq2 := congrArg Prod.snd hq; with_reducible dsimp only at hq2; subst hq2)
    | simp only [↓keeps_mk_iff]
    | with_reducible refine keeps_ite ?_ ?_
    | with_reducible refine outKeeps_ite ?_ ?_
    | with_reducible refine outKeeps_next.2 ?_
    | with_reducible refine keeps_ite2 ?_ ?_
    | with_reducible refine keeps_foldl ?_ (fun _ _ _ => ?_)
    | with_reducible apply advance_keeps | with_reducible apply chanFault_keeps | with_reducible apply setChan_keeps
    | split
    | dsimp only

theorem execComparatorInversion_keeps {t₀ : State} (ch : Fin 48) (s : State) (h₀ : Keeps t₀ s) :
    OutKeeps t₀ (execComparatorInversion ch s) := by
  unfold execComparatorInversion
  repeat' first
    | with_reducible assumption
    | with_reducible exact fun _ => rfl
    | with_reducible exact fun _ _ => rfl
    | with_reducible exact fun _ => ⟨id, id⟩
    | (rename_i hq; have hq2 := congrArg Prod.snd hq; with_reducible dsimp only at hq2; subst hq2)
    | simp only [↓keeps_mk_iff]
    | with_reducible refine keeps_ite ?_ ?_
    | with_reducible refine outKeeps_ite ?_ ?_
    | with_reducible refine outKeeps_next.2 ?_
    | with_reducible refine keeps_ite2 ?_ ?_
    | with_reducible refine keeps_foldl ?_ (fun _ _ _ => ?_)
    | with_reducible apply chanFault_keeps | with_reducible apply setChan_keeps
    | split
    | dsimp only

theorem execSwitchSenseFault_keeps {t₀ : State} (ch : Fin 48) (gate : Fin 3) (s : State) (h₀ : Keeps t₀ s) :
    OutKeeps t₀ (execSwitchSenseFault ch gate s) := by
  unfold execSwitchSenseFault
  repeat' first
    | with_reducible assumption
    | with_reducible exact fun _ => rfl
    | with_reducible exact fun _ _ => rfl
    | with_reducible exact fun _ => ⟨id, id⟩
    | (rename_i hq; have hq2 := congrArg Prod.snd hq; with_reducible dsimp only at hq2; subst hq2)
    | simp only [↓keeps_mk_iff]
    | with_reducible refine keeps_ite ?_ ?_
    | with_reducible refine outKeeps_ite ?_ ?_
    | with_reducible refine outKeeps_next.2 ?_
    | with_reducible refine keeps_ite2 ?_ ?_
    | with_reducible refine keeps_foldl ?_ (fun _ _ _ => ?_)
    | with_reducible apply chanFault_keeps | with_reducible apply setChan_keeps
    | split
    | dsimp only

theorem execGateSetDisagree_keeps {t₀ : State} (ch : Fin 48) (gate : Fin 3) (s : State) (h₀ : Keeps t₀ s) :
    OutKeeps t₀ (execGateSetDisagree ch gate s) := by
  unfold execGateSetDisagree
  repeat' first
    | with_reducible assumption
    | with_reducible exact fun _ => rfl
    | with_reducible exact fun _ _ => rfl
    | with_reducible exact fun _ => ⟨id, id⟩
    | (rename_i hq; have hq2 := congrArg Prod.snd hq; with_reducible dsimp only at hq2; subst hq2)
    | simp only [↓keeps_mk_iff]
    | with_reducible refine keeps_ite ?_ ?_
    | with_reducible refine outKeeps_ite ?_ ?_
    | with_reducible refine outKeeps_next.2 ?_
    | with_reducible refine keeps_ite2 ?_ ?_
    | with_reducible refine keeps_foldl ?_ (fun _ _ _ => ?_)
    | with_reducible apply chanFault_keeps
    | split
    | dsimp only

theorem execReadbackFault_keeps {t₀ : State} (ch : Fin 48) (s : State) (h₀ : Keeps t₀ s) :
    OutKeeps t₀ (execReadbackFault ch s) := by
  unfold execReadbackFault
  repeat' first
    | with_reducible assumption
    | with_reducible exact fun _ => rfl
    | with_reducible exact fun _ _ => rfl
    | with_reducible exact fun _ => ⟨id, id⟩
    | (rename_i hq; have hq2 := congrArg Prod.snd hq; with_reducible dsimp only at hq2; subst hq2)
    | simp only [↓keeps_mk_iff]
    | with_reducible refine keeps_ite ?_ ?_
    | with_reducible refine outKeeps_ite ?_ ?_
    | with_reducible refine outKeeps_next.2 ?_
    | with_reducible refine keeps_ite2 ?_ ?_
    | with_reducible refine keeps_foldl ?_ (fun _ _ _ => ?_)
    | with_reducible apply chanFault_keeps
    | split
    | dsimp only

theorem startPulse_keeps {t₀ : State} (ch : Fin 48) (s : State) (h₀ : Keeps t₀ s) :
    Keeps t₀ (startPulse ch s) := by
  unfold startPulse
  repeat' first
    | with_reducible assumption
    | with_reducible exact fun _ => rfl
    | with_reducible exact fun _ _ => rfl
    | with_reducible exact fun _ => ⟨id, id⟩
    | (rename_i hq; have hq2 := congrArg Prod.snd hq; with_reducible dsimp only at hq2; subst hq2)
    | simp only [↓keeps_mk_iff]
    | with_reducible refine keeps_ite ?_ ?_
    | with_reducible refine outKeeps_ite ?_ ?_
    | with_reducible refine outKeeps_next.2 ?_
    | with_reducible refine keeps_ite2 ?_ ?_
    | with_reducible refine keeps_foldl ?_ (fun _ _ _ => ?_)
    | with_reducible apply setChan_keeps
    | split
    | dsimp only

theorem execDarkTestStart_keeps {t₀ : State} (dt : Nat) (ch : Fin 48) (s : State) (h₀ : Keeps t₀ s) :
    OutKeeps t₀ (execDarkTestStart dt ch s) := by
  unfold execDarkTestStart
  repeat' first
    | with_reducible assumption
    | with_reducible exact fun _ => rfl
    | with_reducible exact fun _ _ => rfl
    | with_reducible exact fun _ => ⟨id, id⟩
    | (rename_i hq; have hq2 := congrArg Prod.snd hq; with_reducible dsimp only at hq2; subst hq2)
    | simp only [↓keeps_mk_iff]
    | with_reducible refine keeps_ite ?_ ?_
    | with_reducible refine outKeeps_ite ?_ ?_
    | with_reducible refine outKeeps_next.2 ?_
    | with_reducible refine keeps_ite2 ?_ ?_
    | with_reducible refine keeps_foldl ?_ (fun _ _ _ => ?_)
    | with_reducible apply advance_keeps | with_reducible apply setChan_keeps | with_reducible apply startPulse_keeps
    | split
    | dsimp only

theorem execDarkPulseEnd_keeps {t₀ : State} (dt : Nat) (ch : Fin 48) (fail : Option (BitVec 6)) (s : State) (h₀ : Keeps t₀ s) :
    OutKeeps t₀ (execDarkPulseEnd dt ch fail s) := by
  unfold execDarkPulseEnd
  repeat' first
    | with_reducible assumption
    | with_reducible exact fun _ => rfl
    | with_reducible exact fun _ _ => rfl
    | with_reducible exact fun _ => ⟨id, id⟩
    | (rename_i hq; have hq2 := congrArg Prod.snd hq; with_reducible dsimp only at hq2; subst hq2)
    | simp only [↓keeps_mk_iff]
    | with_reducible refine keeps_ite ?_ ?_
    | with_reducible refine outKeeps_ite ?_ ?_
    | with_reducible refine outKeeps_next.2 ?_
    | with_reducible refine keeps_ite2 ?_ ?_
    | with_reducible refine keeps_foldl ?_ (fun _ _ _ => ?_)
    | with_reducible apply advance_keeps | with_reducible apply setChan_keeps | with_reducible apply chanFault_keeps | with_reducible apply record_keeps
    | split
    | dsimp only

theorem execReadbackAgrees_keeps {t₀ : State} (ch : Fin 48) (s : State) (h₀ : Keeps t₀ s) :
    OutKeeps t₀ (execReadbackAgrees ch s) := by
  unfold execReadbackAgrees
  repeat' first
    | with_reducible assumption
    | with_reducible exact fun _ => rfl
    | with_reducible exact fun _ _ => rfl
    | with_reducible exact fun _ => ⟨id, id⟩
    | (rename_i hq; have hq2 := congrArg Prod.snd hq; with_reducible dsimp only at hq2; subst hq2)
    | simp only [↓keeps_mk_iff]
    | with_reducible refine keeps_ite ?_ ?_
    | with_reducible refine outKeeps_ite ?_ ?_
    | with_reducible refine outKeeps_next.2 ?_
    | with_reducible refine keeps_ite2 ?_ ?_
    | with_reducible refine keeps_foldl ?_ (fun _ _ _ => ?_)
    | with_reducible apply setChan_keeps | with_reducible apply startPulse_keeps
    | split
    | dsimp only

theorem execOverload_keeps {t₀ : State} (ch : Fin 48) (ma : BitVec 32) (s : State) (h₀ : Keeps t₀ s) :
    OutKeeps t₀ (execOverload ch ma s) := by
  unfold execOverload
  repeat' first
    | with_reducible assumption
    | with_reducible exact fun _ => rfl
    | with_reducible exact fun _ _ => rfl
    | with_reducible exact fun _ => ⟨id, id⟩
    | (rename_i hq; have hq2 := congrArg Prod.snd hq; with_reducible dsimp only at hq2; subst hq2)
    | simp only [↓keeps_mk_iff]
    | with_reducible refine keeps_ite ?_ ?_
    | with_reducible refine outKeeps_ite ?_ ?_
    | with_reducible refine outKeeps_next.2 ?_
    | with_reducible refine keeps_ite2 ?_ ?_
    | with_reducible refine keeps_foldl ?_ (fun _ _ _ => ?_)
    | with_reducible apply raise_keeps | with_reducible apply record_keeps | with_reducible apply chanTrip_keeps
    | split
    | dsimp only

theorem execBankOverload_keeps {t₀ : State} (bank : Fin 3) (ma : BitVec 32) (s : State) (h₀ : Keeps t₀ s) :
    OutKeeps t₀ (execBankOverload bank ma s) := by
  unfold execBankOverload
  repeat' first
    | with_reducible assumption
    | with_reducible exact fun _ => rfl
    | with_reducible exact fun _ _ => rfl
    | with_reducible exact fun _ => ⟨id, id⟩
    | (rename_i hq; have hq2 := congrArg Prod.snd hq; with_reducible dsimp only at hq2; subst hq2)
    | simp only [↓keeps_mk_iff]
    | with_reducible refine keeps_ite ?_ ?_
    | with_reducible refine outKeeps_ite ?_ ?_
    | with_reducible refine outKeeps_next.2 ?_
    | with_reducible refine keeps_ite2 ?_ ?_
    | with_reducible refine keeps_foldl ?_ (fun _ _ _ => ?_)
    | with_reducible apply chanTrip_keeps | with_reducible apply raise_keeps | with_reducible apply record_keeps
    | split
    | dsimp only

theorem execBankTimeout_keeps {t₀ : State} (dt : Nat) (ch : Fin 48) (s : State) (h₀ : Keeps t₀ s) :
    OutKeeps t₀ (execBankTimeout dt ch s) := by
  unfold execBankTimeout
  repeat' first
    | with_reducible assumption
    | with_reducible exact fun _ => rfl
    | with_reducible exact fun _ _ => rfl
    | with_reducible exact fun _ => ⟨id, id⟩
    | (rename_i hq; have hq2 := congrArg Prod.snd hq; with_reducible dsimp only at hq2; subst hq2)
    | simp only [↓keeps_mk_iff]
    | with_reducible refine keeps_ite ?_ ?_
    | with_reducible refine outKeeps_ite ?_ ?_
    | with_reducible refine outKeeps_next.2 ?_
    | with_reducible refine keeps_ite2 ?_ ?_
    | with_reducible refine keeps_foldl ?_ (fun _ _ _ => ?_)
    | with_reducible apply advance_keeps | with_reducible apply applySafe_keeps | with_reducible apply raise_keeps | with_reducible apply record_keeps | with_reducible apply setChan_keeps
    | split
    | dsimp only

theorem execSyncLost_keeps {t₀ : State} (bank : Fin 3) (s : State) (h₀ : Keeps t₀ s) :
    OutKeeps t₀ (execSyncLost bank s) := by
  unfold execSyncLost
  repeat' first
    | with_reducible assumption
    | with_reducible exact fun _ => rfl
    | with_reducible exact fun _ _ => rfl
    | with_reducible exact fun _ => ⟨id, id⟩
    | (rename_i hq; have hq2 := congrArg Prod.snd hq; with_reducible dsimp only at hq2; subst hq2)
    | simp only [↓keeps_mk_iff]
    | with_reducible refine keeps_ite ?_ ?_
    | with_reducible refine outKeeps_ite ?_ ?_
    | with_reducible refine outKeeps_next.2 ?_
    | with_reducible refine keeps_ite2 ?_ ?_
    | with_reducible refine keeps_foldl ?_ (fun _ _ _ => ?_)
    | with_reducible apply record_keeps | with_reducible apply banksSafeOwned_keeps
    | split
    | dsimp only

theorem execSupplyState_keeps {t₀ : State} (dt : Nat) (bank : Fin 3) (state : Fin 4) (volt : BitVec 16) (s : State) (h₀ : Keeps t₀ s) :
    OutKeeps t₀ (execSupplyState dt bank state volt s) := by
  unfold execSupplyState
  repeat' first
    | with_reducible assumption
    | with_reducible exact fun _ => rfl
    | with_reducible exact fun _ _ => rfl
    | with_reducible exact fun _ => ⟨id, id⟩
    | (rename_i hq; have hq2 := congrArg Prod.snd hq; with_reducible dsimp only at hq2; subst hq2)
    | simp only [↓keeps_mk_iff]
    | with_reducible refine keeps_ite ?_ ?_
    | with_reducible refine outKeeps_ite ?_ ?_
    | with_reducible refine outKeeps_next.2 ?_
    | with_reducible refine keeps_ite2 ?_ ?_
    | with_reducible refine keeps_foldl ?_ (fun _ _ _ => ?_)
    | with_reducible apply advance_keeps | with_reducible apply setBank_keeps | with_reducible apply noteBsync_keeps | with_reducible apply raise_keeps | with_reducible apply record_keeps
    | split
    | dsimp only

theorem execGlazePost_keeps {t₀ : State} (ch : Fin 48) (state : Bool) (sec : BitVec 48) (ns : BitVec 32) (s : State) (h₀ : Keeps t₀ s) :
    OutKeeps t₀ (execGlazePost ch state sec ns s) := by
  unfold execGlazePost
  repeat' first
    | with_reducible assumption
    | with_reducible exact fun _ => rfl
    | with_reducible exact fun _ _ => rfl
    | with_reducible exact fun _ => ⟨id, id⟩
    | (rename_i hq; have hq2 := congrArg Prod.snd hq; with_reducible dsimp only at hq2; subst hq2)
    | simp only [↓keeps_mk_iff]
    | with_reducible refine keeps_ite ?_ ?_
    | with_reducible refine outKeeps_ite ?_ ?_
    | with_reducible refine outKeeps_next.2 ?_
    | with_reducible refine keeps_ite2 ?_ ?_
    | with_reducible refine keeps_foldl ?_ (fun _ _ _ => ?_)
    | with_reducible apply glazePost_keeps
    | split
    | dsimp only

theorem execGlazeLaunch_keeps {t₀ : State} (dt : Nat) (ch : Fin 48) (s : State) (h₀ : Keeps t₀ s) :
    OutKeeps t₀ (execGlazeLaunch dt ch s) := by
  unfold execGlazeLaunch
  repeat' first
    | with_reducible assumption
    | with_reducible exact fun _ => rfl
    | with_reducible exact fun _ _ => rfl
    | with_reducible exact fun _ => ⟨id, id⟩
    | (rename_i hq; have hq2 := congrArg Prod.snd hq; with_reducible dsimp only at hq2; subst hq2)
    | simp only [↓keeps_mk_iff]
    | with_reducible refine keeps_ite ?_ ?_
    | with_reducible refine outKeeps_ite ?_ ?_
    | with_reducible refine outKeeps_next.2 ?_
    | with_reducible refine keeps_ite2 ?_ ?_
    | with_reducible refine keeps_foldl ?_ (fun _ _ _ => ?_)
    | with_reducible apply advance_keeps | with_reducible apply launch_keeps | with_reducible apply setChan_keeps
    | split
    | dsimp only

theorem macroOpen_keeps {t₀ : State} (j : BitVec 64) (s : State) (h₀ : Keeps t₀ s) :
    Keeps t₀ (macroOpen j s) := by
  unfold macroOpen
  repeat' first
    | with_reducible assumption
    | with_reducible exact fun _ => rfl
    | with_reducible exact fun _ _ => rfl
    | with_reducible exact fun _ => ⟨id, id⟩
    | (rename_i hq; have hq2 := congrArg Prod.snd hq; with_reducible dsimp only at hq2; subst hq2)
    | simp only [↓keeps_mk_iff]
    | with_reducible refine keeps_ite ?_ ?_
    | with_reducible refine outKeeps_ite ?_ ?_
    | with_reducible refine outKeeps_next.2 ?_
    | with_reducible refine keeps_ite2 ?_ ?_
    | with_reducible refine keeps_foldl ?_ (fun _ _ _ => ?_)
    | with_reducible apply setXn_keeps | with_reducible apply raise_keeps
    | split
    | dsimp only

theorem applyGrant_keeps {t₀ : State} (s : State) (h₀ : Keeps t₀ s) :
    Keeps t₀ (applyGrant s) := by
  unfold applyGrant
  repeat' first
    | with_reducible assumption
    | with_reducible exact fun _ => rfl
    | with_reducible exact fun _ _ => rfl
    | with_reducible exact fun _ => ⟨id, id⟩
    | (rename_i hq; have hq2 := congrArg Prod.snd hq; with_reducible dsimp only at hq2; subst hq2)
    | simp only [↓keeps_mk_iff]
    | with_reducible refine keeps_ite ?_ ?_
    | with_reducible refine outKeeps_ite ?_ ?_
    | with_reducible refine outKeeps_next.2 ?_
    | with_reducible refine keeps_ite2 ?_ ?_
    | with_reducible refine keeps_foldl ?_ (fun _ _ _ => ?_)
    | with_reducible apply setXn_keeps | with_reducible apply setNode_keeps
    | split
    | dsimp only

theorem execMacrocycleStart_keeps {t₀ : State} (dt : Nat) (coll : BitVec 2) (s : State) (h₀ : Keeps t₀ s) :
    OutKeeps t₀ (execMacrocycleStart dt coll s) := by
  unfold execMacrocycleStart
  dsimp only
  have h1 := advance_keeps dt s h₀
  refine outKeeps_ite (outKeeps_next.2 ?_) (outKeeps_next.2 h1)
  refine xnEcho_keeps _ _ (xnSend_keeps _ _ _ _ _ ?_)
  have h2 := applyGrant_keeps _ (macroOpen_keeps (BitVec.ofInt 64 (xnNumber (advance dt s))) _
    (keeps_foldl (l := allFin 64) h1 (fun n u hu => nodeMacroBegin_keeps n _ (nodeMacroEnd_keeps n _ hu))))
  unfold setXn
  refine keeps_mk (fun x => ?_) id h2
  have y := (memWf_iff _).1 x
  exact ⟨y.1, y.2.1, Memory.wf_filter _ y.1, y.2.2.2⟩

theorem acycOffer_keeps {t₀ : State} (n : Nat) (s : State) (h₀ : Keeps t₀ s) :
    Keeps t₀ (acycOffer n s) := by
  unfold acycOffer
  repeat' first
    | with_reducible assumption
    | with_reducible exact fun _ => rfl
    | with_reducible exact fun _ _ => rfl
    | with_reducible exact fun _ => ⟨id, id⟩
    | (rename_i hq; have hq2 := congrArg Prod.snd hq; with_reducible dsimp only at hq2; subst hq2)
    | simp only [↓keeps_mk_iff]
    | with_reducible refine keeps_ite ?_ ?_
    | with_reducible refine outKeeps_ite ?_ ?_
    | with_reducible refine outKeeps_next.2 ?_
    | with_reducible refine keeps_ite2 ?_ ?_
    | with_reducible refine keeps_foldl ?_ (fun _ _ _ => ?_)
    | with_reducible apply xnSend_keeps | with_reducible apply setXn_keeps
    | split
    | dsimp only

theorem acycSlot_keeps {t₀ : State} (n : Nat) (s : State) (h₀ : Keeps t₀ s) :
    Keeps t₀ (acycSlot n s) := by
  unfold acycSlot
  repeat' first
    | with_reducible assumption
    | with_reducible exact fun _ => rfl
    | with_reducible exact fun _ _ => rfl
    | with_reducible exact fun _ => ⟨id, id⟩
    | (rename_i hq; have hq2 := congrArg Prod.snd hq; with_reducible dsimp only at hq2; subst hq2)
    | simp only [↓keeps_mk_iff]
    | with_reducible refine keeps_ite ?_ ?_
    | with_reducible refine outKeeps_ite ?_ ?_
    | with_reducible refine outKeeps_next.2 ?_
    | with_reducible refine keeps_ite2 ?_ ?_
    | with_reducible refine keeps_foldl ?_ (fun _ _ _ => ?_)
    | (intro b u hu; dsimp only)
    | intro b u hu
    | (intro u hu; dsimp only)
    | intro u hu
    | with_reducible apply xnSend_keeps | with_reducible apply setXn_keeps | with_reducible apply acycOffer_keeps
    | split
    | dsimp only

theorem claimOpen_keeps {t₀ : State} (s : State) (h₀ : Keeps t₀ s) :
    Keeps t₀ (claimOpen s) := by
  unfold claimOpen
  repeat' first
    | with_reducible assumption
    | with_reducible exact fun _ => rfl
    | with_reducible exact fun _ _ => rfl
    | with_reducible exact fun _ => ⟨id, id⟩
    | (rename_i hq; have hq2 := congrArg Prod.snd hq; with_reducible dsimp only at hq2; subst hq2)
    | simp only [↓keeps_mk_iff]
    | with_reducible refine keeps_ite ?_ ?_
    | with_reducible refine outKeeps_ite ?_ ?_
    | with_reducible refine outKeeps_next.2 ?_
    | with_reducible refine keeps_ite2 ?_ ?_
    | with_reducible refine keeps_foldl ?_ (fun _ _ _ => ?_)
    | with_reducible apply xnSend_keeps | with_reducible apply setXn_keeps
    | split
    | dsimp only

theorem pollSlot_keeps {t₀ : State} (i : Nat) (c : XSlot) (s : State) (h₀ : Keeps t₀ s) :
    Keeps t₀ (pollSlot i c s) := by
  unfold pollSlot
  repeat' first
    | with_reducible assumption
    | with_reducible exact fun _ => rfl
    | with_reducible exact fun _ _ => rfl
    | with_reducible exact fun _ => ⟨id, id⟩
    | (rename_i hq; have hq2 := congrArg Prod.snd hq; with_reducible dsimp only at hq2; subst hq2)
    | simp only [↓keeps_mk_iff]
    | with_reducible refine keeps_ite ?_ ?_
    | with_reducible refine outKeeps_ite ?_ ?_
    | with_reducible refine outKeeps_next.2 ?_
    | with_reducible refine keeps_ite2 ?_ ?_
    | with_reducible refine keeps_foldl ?_ (fun _ _ _ => ?_)
    | with_reducible apply putResult_keeps | with_reducible apply xnSend_keeps | with_reducible apply setXn_keeps
    | split
    | dsimp only

theorem execSlotStart_keeps {t₀ : State} (dt slot : Nat) (coll : BitVec 2) (s : State) (h₀ : Keeps t₀ s) :
    OutKeeps t₀ (execSlotStart dt slot coll s) := by
  unfold execSlotStart
  repeat' first
    | with_reducible assumption
    | with_reducible exact fun _ => rfl
    | with_reducible exact fun _ _ => rfl
    | with_reducible exact fun _ => ⟨id, id⟩
    | (rename_i hq; have hq2 := congrArg Prod.snd hq; with_reducible dsimp only at hq2; subst hq2)
    | simp only [↓keeps_mk_iff]
    | with_reducible refine keeps_ite ?_ ?_
    | with_reducible refine outKeeps_ite ?_ ?_
    | with_reducible refine outKeeps_next.2 ?_
    | with_reducible refine keeps_ite2 ?_ ?_
    | with_reducible refine keeps_foldl ?_ (fun _ _ _ => ?_)
    | with_reducible apply advance_keeps | with_reducible apply setXn_keeps | with_reducible apply pollSlot_keeps | with_reducible apply acycSlot_keeps | with_reducible apply putResult_keeps | with_reducible apply claimOpen_keeps | with_reducible apply xnEcho_keeps
    | split
    | dsimp only

theorem slotUnanswered_keeps {t₀ : State} (i : Nat) (s : State) (h₀ : Keeps t₀ s) :
    Keeps t₀ (slotUnanswered i s) := by
  unfold slotUnanswered
  repeat' first
    | with_reducible assumption
    | with_reducible exact fun _ => rfl
    | with_reducible exact fun _ _ => rfl
    | with_reducible exact fun _ => ⟨id, id⟩
    | (rename_i hq; have hq2 := congrArg Prod.snd hq; with_reducible dsimp only at hq2; subst hq2)
    | simp only [↓keeps_mk_iff]
    | with_reducible refine keeps_ite ?_ ?_
    | with_reducible refine outKeeps_ite ?_ ?_
    | with_reducible refine outKeeps_next.2 ?_
    | with_reducible refine keeps_ite2 ?_ ?_
    | with_reducible refine keeps_foldl ?_ (fun _ _ _ => ?_)
    | with_reducible apply setNode_keeps | with_reducible apply putResult_keeps | with_reducible apply acycAbort_keeps | with_reducible apply setXn_keeps
    | split
    | dsimp only

theorem slotDone_keeps {t₀ : State} (slot : Nat) (s : State) (h₀ : Keeps t₀ s) :
    Keeps t₀ (slotDone slot s) := by
  unfold slotDone
  repeat' first
    | with_reducible assumption
    | with_reducible exact fun _ => rfl
    | with_reducible exact fun _ _ => rfl
    | with_reducible exact fun _ => ⟨id, id⟩
    | (rename_i hq; have hq2 := congrArg Prod.snd hq; with_reducible dsimp only at hq2; subst hq2)
    | simp only [↓keeps_mk_iff]
    | with_reducible refine keeps_ite ?_ ?_
    | with_reducible refine outKeeps_ite ?_ ?_
    | with_reducible refine outKeeps_next.2 ?_
    | with_reducible refine keeps_ite2 ?_ ?_
    | with_reducible refine keeps_foldl ?_ (fun _ _ _ => ?_)
    | with_reducible apply setXn_keeps | with_reducible apply raise_keeps
    | split
    | dsimp only

theorem noteSchedule_keeps {t₀ : State} (crc src : Nat) (s : State) (h₀ : Keeps t₀ s) :
    Keeps t₀ (noteSchedule crc src s) := by
  unfold noteSchedule
  repeat' first
    | with_reducible assumption
    | with_reducible exact fun _ => rfl
    | with_reducible exact fun _ _ => rfl
    | with_reducible exact fun _ => ⟨id, id⟩
    | (rename_i hq; have hq2 := congrArg Prod.snd hq; with_reducible dsimp only at hq2; subst hq2)
    | simp only [↓keeps_mk_iff]
    | with_reducible refine keeps_ite ?_ ?_
    | with_reducible refine outKeeps_ite ?_ ?_
    | with_reducible refine outKeeps_next.2 ?_
    | with_reducible refine keeps_ite2 ?_ ?_
    | with_reducible refine keeps_foldl ?_ (fun _ _ _ => ?_)
    | with_reducible apply setXn_keeps | with_reducible apply record_keeps
    | split
    | dsimp only

theorem followStart_keeps {t₀ : State} (src : Nat) (f : CycleStart) (s : State) (h₀ : Keeps t₀ s) :
    Keeps t₀ (followStart src f s) := by
  unfold followStart
  repeat' first
    | with_reducible assumption
    | with_reducible exact fun _ => rfl
    | with_reducible exact fun _ _ => rfl
    | with_reducible exact fun _ => ⟨id, id⟩
    | (rename_i hq; have hq2 := congrArg Prod.snd hq; with_reducible dsimp only at hq2; subst hq2)
    | simp only [↓keeps_mk_iff]
    | with_reducible refine keeps_ite ?_ ?_
    | with_reducible refine outKeeps_ite ?_ ?_
    | with_reducible refine outKeeps_next.2 ?_
    | with_reducible refine keeps_ite2 ?_ ?_
    | with_reducible refine keeps_foldl ?_ (fun _ _ _ => ?_)
    | with_reducible apply xnRole_keeps | with_reducible apply newEpoch_keeps | with_reducible apply setXn_keeps | with_reducible apply macroOpen_keeps | with_reducible apply noteSchedule_keeps
    | split
    | dsimp only

theorem masterHears_keeps {t₀ : State} (src : Nat) (tko : Bool) (s : State) (h₀ : Keeps t₀ s) :
    Keeps t₀ (masterHears src tko s).2 := by
  unfold masterHears
  repeat' first
    | with_reducible assumption
    | with_reducible exact fun _ => rfl
    | with_reducible exact fun _ _ => rfl
    | with_reducible exact fun _ => ⟨id, id⟩
    | (rename_i hq; have hq2 := congrArg Prod.snd hq; with_reducible dsimp only at hq2; subst hq2)
    | simp only [↓keeps_mk_iff]
    | with_reducible refine keeps_ite ?_ ?_
    | with_reducible refine outKeeps_ite ?_ ?_
    | with_reducible refine outKeeps_next.2 ?_
    | with_reducible refine keeps_ite2 ?_ ?_
    | with_reducible refine keeps_foldl ?_ (fun _ _ _ => ?_)
    | with_reducible apply raise_keeps | with_reducible apply record_keeps | with_reducible apply xnRole_keeps
    | split
    | dsimp only

theorem cycleStart_keeps {t₀ : State} (src : Nat) (f : CycleStart) (s : State) (h₀ : Keeps t₀ s) :
    Keeps t₀ (cycleStart src f s) := by
  unfold cycleStart
  repeat' first
    | with_reducible assumption
    | with_reducible exact fun _ => rfl
    | with_reducible exact fun _ _ => rfl
    | with_reducible exact fun _ => ⟨id, id⟩
    | (rename_i hq; have hq2 := congrArg Prod.snd hq; with_reducible dsimp only at hq2; subst hq2)
    | simp only [↓keeps_mk_iff]
    | with_reducible refine keeps_ite ?_ ?_
    | with_reducible refine outKeeps_ite ?_ ?_
    | with_reducible refine outKeeps_next.2 ?_
    | with_reducible refine keeps_ite2 ?_ ?_
    | with_reducible refine keeps_foldl ?_ (fun _ _ _ => ?_)
    | with_reducible apply followStart_keeps | with_reducible apply xnRole_keeps | with_reducible apply masterHears_keeps
    | split
    | dsimp only

theorem execCycleStartReceived_keeps {t₀ : State} (dt : Nat) (src : BitVec 6) (frame : CycleStart) (s : State) (h₀ : Keeps t₀ s) :
    OutKeeps t₀ (execCycleStartReceived dt src frame s) := by
  unfold execCycleStartReceived
  repeat' first
    | with_reducible assumption
    | with_reducible exact fun _ => rfl
    | with_reducible exact fun _ _ => rfl
    | with_reducible exact fun _ => ⟨id, id⟩
    | (rename_i hq; have hq2 := congrArg Prod.snd hq; with_reducible dsimp only at hq2; subst hq2)
    | simp only [↓keeps_mk_iff]
    | with_reducible refine keeps_ite ?_ ?_
    | with_reducible refine outKeeps_ite ?_ ?_
    | with_reducible refine outKeeps_next.2 ?_
    | with_reducible refine keeps_ite2 ?_ ?_
    | with_reducible refine keeps_foldl ?_ (fun _ _ _ => ?_)
    | with_reducible apply advance_keeps | with_reducible apply cycleStart_keeps
    | split
    | dsimp only

theorem execXenexSilenceTimeout_keeps {t₀ : State} (dt : Nat) (s : State) (h₀ : Keeps t₀ s) :
    OutKeeps t₀ (execXenexSilenceTimeout dt s) := by
  unfold execXenexSilenceTimeout
  repeat' first
    | with_reducible assumption
    | with_reducible exact fun _ => rfl
    | with_reducible exact fun _ _ => rfl
    | with_reducible exact fun _ => ⟨id, id⟩
    | (rename_i hq; have hq2 := congrArg Prod.snd hq; with_reducible dsimp only at hq2; subst hq2)
    | simp only [↓keeps_mk_iff]
    | with_reducible refine keeps_ite ?_ ?_
    | with_reducible refine outKeeps_ite ?_ ?_
    | with_reducible refine outKeeps_next.2 ?_
    | with_reducible refine keeps_ite2 ?_ ?_
    | with_reducible refine keeps_foldl ?_ (fun _ _ _ => ?_)
    | with_reducible apply advance_keeps | with_reducible apply xnRole_keeps
    | split
    | dsimp only

theorem execContendDelayEnd_keeps {t₀ : State} (dt : Nat) (s : State) (h₀ : Keeps t₀ s) :
    OutKeeps t₀ (execContendDelayEnd dt s) := by
  unfold execContendDelayEnd
  repeat' first
    | with_reducible assumption
    | with_reducible exact fun _ => rfl
    | with_reducible exact fun _ _ => rfl
    | with_reducible exact fun _ => ⟨id, id⟩
    | (rename_i hq; have hq2 := congrArg Prod.snd hq; with_reducible dsimp only at hq2; subst hq2)
    | simp only [↓keeps_mk_iff]
    | with_reducible refine keeps_ite ?_ ?_
    | with_reducible refine outKeeps_ite ?_ ?_
    | with_reducible refine outKeeps_next.2 ?_
    | with_reducible refine keeps_ite2 ?_ ?_
    | with_reducible refine keeps_foldl ?_ (fun _ _ _ => ?_)
    | with_reducible apply advance_keeps | with_reducible apply setXn_keeps | with_reducible apply xnSend_keeps
    | split
    | dsimp only

theorem execColdstartEnd_keeps {t₀ : State} (dt : Nat) (s : State) (h₀ : Keeps t₀ s) :
    OutKeeps t₀ (execColdstartEnd dt s) := by
  unfold execColdstartEnd
  repeat' first
    | with_reducible assumption
    | with_reducible exact fun _ => rfl
    | with_reducible exact fun _ _ => rfl
    | with_reducible exact fun _ => ⟨id, id⟩
    | (rename_i hq; have hq2 := congrArg Prod.snd hq; with_reducible dsimp only at hq2; subst hq2)
    | simp only [↓keeps_mk_iff]
    | with_reducible refine keeps_ite ?_ ?_
    | with_reducible refine outKeeps_ite ?_ ?_
    | with_reducible refine outKeeps_next.2 ?_
    | with_reducible refine keeps_ite2 ?_ ?_
    | with_reducible refine keeps_foldl ?_ (fun _ _ _ => ?_)
    | with_reducible apply advance_keeps | with_reducible apply record_keeps | with_reducible apply setXn_keeps | with_reducible apply newEpoch_keeps | with_reducible apply xnRole_keeps
    | split
    | dsimp only

theorem execXnCollision_keeps {t₀ : State} (coll : BitVec 2) (s : State) (h₀ : Keeps t₀ s) :
    OutKeeps t₀ (execXnCollision coll s) := by
  unfold execXnCollision
  repeat' first
    | with_reducible assumption
    | with_reducible exact fun _ => rfl
    | with_reducible exact fun _ _ => rfl
    | with_reducible exact fun _ => ⟨id, id⟩
    | (rename_i hq; have hq2 := congrArg Prod.snd hq; with_reducible dsimp only at hq2; subst hq2)
    | simp only [↓keeps_mk_iff]
    | with_reducible refine keeps_ite ?_ ?_
    | with_reducible refine outKeeps_ite ?_ ?_
    | with_reducible refine outKeeps_next.2 ?_
    | with_reducible refine keeps_ite2 ?_ ?_
    | with_reducible refine keeps_foldl ?_ (fun _ _ _ => ?_)
    | with_reducible apply record_keeps | with_reducible apply setXn_keeps | with_reducible apply xnRole_keeps
    | split
    | dsimp only

theorem execCarrierDetected_keeps {t₀ : State} (s : State) (h₀ : Keeps t₀ s) :
    OutKeeps t₀ (execCarrierDetected s) := by
  unfold execCarrierDetected
  repeat' first
    | with_reducible assumption
    | with_reducible exact fun _ => rfl
    | with_reducible exact fun _ _ => rfl
    | with_reducible exact fun _ => ⟨id, id⟩
    | (rename_i hq; have hq2 := congrArg Prod.snd hq; with_reducible dsimp only at hq2; subst hq2)
    | simp only [↓keeps_mk_iff]
    | with_reducible refine keeps_ite ?_ ?_
    | with_reducible refine outKeeps_ite ?_ ?_
    | with_reducible refine outKeeps_next.2 ?_
    | with_reducible refine keeps_ite2 ?_ ?_
    | with_reducible refine keeps_foldl ?_ (fun _ _ _ => ?_)
    | with_reducible apply xnRole_keeps
    | split
    | dsimp only

theorem xnbTakeover_keeps {t₀ : State} (s : State) (h₀ : Keeps t₀ s) :
    Keeps t₀ (xnbTakeover s) := by
  unfold xnbTakeover
  repeat' first
    | with_reducible assumption
    | with_reducible exact fun _ => rfl
    | with_reducible exact fun _ _ => rfl
    | with_reducible exact fun _ => ⟨id, id⟩
    | (rename_i hq; have hq2 := congrArg Prod.snd hq; with_reducible dsimp only at hq2; subst hq2)
    | simp only [↓keeps_mk_iff]
    | with_reducible refine keeps_ite ?_ ?_
    | with_reducible refine outKeeps_ite ?_ ?_
    | with_reducible refine outKeeps_next.2 ?_
    | with_reducible refine keeps_ite2 ?_ ?_
    | with_reducible refine keeps_foldl ?_ (fun _ _ _ => ?_)
    | with_reducible apply xnRole_keeps | with_reducible apply setXn_keeps
    | split
    | dsimp only

theorem execXnbTakeover_keeps {t₀ : State} (s : State) (h₀ : Keeps t₀ s) :
    OutKeeps t₀ (execXnbTakeover s) := by
  unfold execXnbTakeover
  repeat' first
    | with_reducible assumption
    | with_reducible exact fun _ => rfl
    | with_reducible exact fun _ _ => rfl
    | with_reducible exact fun _ => ⟨id, id⟩
    | (rename_i hq; have hq2 := congrArg Prod.snd hq; with_reducible dsimp only at hq2; subst hq2)
    | simp only [↓keeps_mk_iff]
    | with_reducible refine keeps_ite ?_ ?_
    | with_reducible refine outKeeps_ite ?_ ?_
    | with_reducible refine outKeeps_next.2 ?_
    | with_reducible refine keeps_ite2 ?_ ?_
    | with_reducible refine keeps_foldl ?_ (fun _ _ _ => ?_)
    | with_reducible apply xnbTakeover_keeps
    | split
    | dsimp only

theorem xnbRelease_keeps {t₀ : State} (s : State) (h₀ : Keeps t₀ s) :
    Keeps t₀ (xnbRelease s) := by
  unfold xnbRelease
  repeat' first
    | with_reducible assumption
    | with_reducible exact fun _ => rfl
    | with_reducible exact fun _ _ => rfl
    | with_reducible exact fun _ => ⟨id, id⟩
    | (rename_i hq; have hq2 := congrArg Prod.snd hq; with_reducible dsimp only at hq2; subst hq2)
    | simp only [↓keeps_mk_iff]
    | with_reducible refine keeps_ite ?_ ?_
    | with_reducible refine outKeeps_ite ?_ ?_
    | with_reducible refine outKeeps_next.2 ?_
    | with_reducible refine keeps_ite2 ?_ ?_
    | with_reducible refine keeps_foldl ?_ (fun _ _ _ => ?_)
    | with_reducible apply xnRole_keeps
    | split
    | dsimp only

theorem execXnbRelease_keeps {t₀ : State} (s : State) (h₀ : Keeps t₀ s) :
    OutKeeps t₀ (execXnbRelease s) := by
  unfold execXnbRelease
  repeat' first
    | with_reducible assumption
    | with_reducible exact fun _ => rfl
    | with_reducible exact fun _ _ => rfl
    | with_reducible exact fun _ => ⟨id, id⟩
    | (rename_i hq; have hq2 := congrArg Prod.snd hq; with_reducible dsimp only at hq2; subst hq2)
    | simp only [↓keeps_mk_iff]
    | with_reducible refine keeps_ite ?_ ?_
    | with_reducible refine outKeeps_ite ?_ ?_
    | with_reducible refine outKeeps_next.2 ?_
    | with_reducible refine keeps_ite2 ?_ ?_
    | with_reducible refine keeps_foldl ?_ (fun _ _ _ => ?_)
    | with_reducible apply xnbRelease_keeps
    | split
    | dsimp only

theorem claimHeard_keeps {t₀ : State} (src tx rx : Nat) (s : State) (h₀ : Keeps t₀ s) :
    Keeps t₀ (claimHeard src tx rx s) := by
  unfold claimHeard
  repeat' first
    | with_reducible assumption
    | with_reducible exact fun _ => rfl
    | with_reducible exact fun _ _ => rfl
    | with_reducible exact fun _ => ⟨id, id⟩
    | (rename_i hq; have hq2 := congrArg Prod.snd hq; with_reducible dsimp only at hq2; subst hq2)
    | simp only [↓keeps_mk_iff]
    | with_reducible refine keeps_ite ?_ ?_
    | with_reducible refine outKeeps_ite ?_ ?_
    | with_reducible refine outKeeps_next.2 ?_
    | with_reducible refine keeps_ite2 ?_ ?_
    | with_reducible refine keeps_foldl ?_ (fun _ _ _ => ?_)
    | with_reducible apply setXn_keeps | with_reducible apply raise_keeps | with_reducible apply record_keeps
    | split
    | dsimp only

theorem execClaimReceived_keeps {t₀ : State} (src : BitVec 6) (tx rx : BitVec 8) (s : State) (h₀ : Keeps t₀ s) :
    OutKeeps t₀ (execClaimReceived src tx rx s) := by
  unfold execClaimReceived
  repeat' first
    | with_reducible assumption
    | with_reducible exact fun _ => rfl
    | with_reducible exact fun _ _ => rfl
    | with_reducible exact fun _ => ⟨id, id⟩
    | (rename_i hq; have hq2 := congrArg Prod.snd hq; with_reducible dsimp only at hq2; subst hq2)
    | simp only [↓keeps_mk_iff]
    | with_reducible refine keeps_ite ?_ ?_
    | with_reducible refine outKeeps_ite ?_ ?_
    | with_reducible refine outKeeps_next.2 ?_
    | with_reducible refine keeps_ite2 ?_ ?_
    | with_reducible refine keeps_foldl ?_ (fun _ _ _ => ?_)
    | with_reducible apply claimHeard_keeps
    | split
    | dsimp only

theorem xnCoastEnd_keeps {t₀ : State} (s : State) (h₀ : Keeps t₀ s) :
    Keeps t₀ (xnCoastEnd s) := by
  unfold xnCoastEnd
  repeat' first
    | with_reducible assumption
    | with_reducible exact fun _ => rfl
    | with_reducible exact fun _ _ => rfl
    | with_reducible exact fun _ => ⟨id, id⟩
    | (rename_i hq; have hq2 := congrArg Prod.snd hq; with_reducible dsimp only at hq2; subst hq2)
    | simp only [↓keeps_mk_iff]
    | with_reducible refine keeps_ite ?_ ?_
    | with_reducible refine outKeeps_ite ?_ ?_
    | with_reducible refine outKeeps_next.2 ?_
    | with_reducible refine keeps_ite2 ?_ ?_
    | with_reducible refine keeps_foldl ?_ (fun _ _ _ => ?_)
    | with_reducible apply xnRole_keeps
    | split
    | dsimp only

theorem mirrorShadow_keeps {t₀ : State} (s : State) (h₀ : Keeps t₀ s) :
    Keeps t₀ (mirrorShadow s) := by
  unfold mirrorShadow
  repeat' first
    | with_reducible assumption
    | with_reducible exact fun _ => rfl
    | with_reducible exact fun _ _ => rfl
    | with_reducible exact fun _ => ⟨id, id⟩
    | (rename_i hq; have hq2 := congrArg Prod.snd hq; with_reducible dsimp only at hq2; subst hq2)
    | simp only [↓keeps_mk_iff]
    | with_reducible refine keeps_ite ?_ ?_
    | with_reducible refine outKeeps_ite ?_ ?_
    | with_reducible refine outKeeps_next.2 ?_
    | with_reducible refine keeps_ite2 ?_ ?_
    | with_reducible refine keeps_foldl ?_ (fun _ _ _ => ?_)
    | split
    | dsimp only

theorem setCore_keeps {t₀ : State} (k : Fin 8) (f : Core → Core) (s : State) (h₀ : Keeps t₀ s) :
    Keeps t₀ (setCore k f s) := by
  unfold setCore
  repeat' first
    | with_reducible assumption
    | with_reducible exact fun _ => rfl
    | with_reducible exact fun _ _ => rfl
    | with_reducible exact fun _ => ⟨id, id⟩
    | (rename_i hq; have hq2 := congrArg Prod.snd hq; with_reducible dsimp only at hq2; subst hq2)
    | simp only [↓keeps_mk_iff]
    | with_reducible refine keeps_ite ?_ ?_
    | with_reducible refine outKeeps_ite ?_ ?_
    | with_reducible refine outKeeps_next.2 ?_
    | with_reducible refine keeps_ite2 ?_ ?_
    | with_reducible refine keeps_foldl ?_ (fun _ _ _ => ?_)
    | split
    | dsimp only

theorem mapCores_keeps {t₀ : State} (ks : List (Fin 8)) (f : Core → Core) (s : State) (h₀ : Keeps t₀ s) :
    Keeps t₀ (mapCores ks f s) := by
  unfold mapCores
  repeat' first
    | with_reducible assumption
    | with_reducible exact fun _ => rfl
    | with_reducible exact fun _ _ => rfl
    | with_reducible exact fun _ => ⟨id, id⟩
    | (rename_i hq; have hq2 := congrArg Prod.snd hq; with_reducible dsimp only at hq2; subst hq2)
    | simp only [↓keeps_mk_iff]
    | with_reducible refine keeps_ite ?_ ?_
    | with_reducible refine outKeeps_ite ?_ ?_
    | with_reducible refine outKeeps_next.2 ?_
    | with_reducible refine keeps_ite2 ?_ ?_
    | with_reducible refine keeps_foldl ?_ (fun _ _ _ => ?_)
    | with_reducible apply setCore_keeps
    | split
    | dsimp only

theorem drainOne_keeps {t₀ : State} (k : Fin 8) (s : State) (h₀ : Keeps t₀ s) :
    Keeps t₀ (drainOne k s) := by
  unfold drainOne
  repeat' first
    | with_reducible assumption
    | with_reducible exact fun _ => rfl
    | with_reducible exact fun _ _ => rfl
    | with_reducible exact fun _ => ⟨id, id⟩
    | (rename_i hq; have hq2 := congrArg Prod.snd hq; with_reducible dsimp only at hq2; subst hq2)
    | simp only [↓keeps_mk_iff]
    | with_reducible refine keeps_ite ?_ ?_
    | with_reducible refine outKeeps_ite ?_ ?_
    | with_reducible refine outKeeps_next.2 ?_
    | with_reducible refine keeps_ite2 ?_ ?_
    | with_reducible refine keeps_foldl ?_ (fun _ _ _ => ?_)
    | with_reducible refine keeps_vmem (fun h => Memory.wf_memWriteBe _ _ _ _ h) rfl rfl rfl rfl rfl ?_
    | with_reducible refine keeps_vmem (fun h => Memory.wf_memWrite _ _ h) rfl rfl rfl rfl rfl ?_
    | with_reducible refine keeps_vmem (fun h => Memory.wf_filter _ h) rfl rfl rfl rfl rfl ?_
    | with_reducible refine keeps_mems (fun h => wf_mems_set h (Memory.wf_memWriteBe _ _ _ _ (h _))) rfl rfl rfl rfl rfl ?_
    | with_reducible refine keeps_mems (fun h => wf_mems_set h (Memory.wf_memWrite _ _ (h _))) rfl rfl rfl rfl rfl ?_
    | with_reducible refine keeps_mems (fun h => wf_mems_set h (Memory.wf_memCopyIf _ (h _))) rfl rfl rfl rfl rfl ?_
    | with_reducible refine keeps_mems (fun h => wf_mems_set h (Memory.wf_nil)) rfl rfl rfl rfl rfl ?_
    | with_reducible apply setCore_keeps | with_reducible apply mirrorDisagree_keeps | with_reducible apply mirrorPush_keeps
    | split
    | dsimp only

theorem drainBuf_keeps {t₀ : State} (k : Fin 8) (n : Nat) (s : State) (h₀ : Keeps t₀ s) :
    Keeps t₀ (drainBuf k n s) := by
  induction n generalizing s with
  | zero => exact h₀
  | succ n ih => exact ih _ (drainOne_keeps _ _ h₀)

theorem voteBeats_keeps {t₀ : State} (k : Fin 8) (f : Fin 8 → Option Beat) (s : State) (h₀ : Keeps t₀ s) :
    Keeps t₀ (voteBeats k f s).2 := by
  unfold voteBeats
  repeat' first
    | with_reducible assumption
    | with_reducible exact fun _ => rfl
    | with_reducible exact fun _ _ => rfl
    | with_reducible exact fun _ => ⟨id, id⟩
    | (rename_i hq; have hq2 := congrArg Prod.snd hq; with_reducible dsimp only at hq2; subst hq2)
    | simp only [↓keeps_mk_iff]
    | with_reducible refine keeps_ite ?_ ?_
    | with_reducible refine outKeeps_ite ?_ ?_
    | with_reducible refine outKeeps_next.2 ?_
    | with_reducible refine keeps_ite2 ?_ ?_
    | with_reducible refine keeps_foldl ?_ (fun _ _ _ => ?_)
    | with_reducible apply voteClock_keeps
    | split
    | dsimp only

theorem voteBurst_keeps {t₀ : State} (k : Fin 8) (bs : Fin 8 → List Beat) (n : Nat) (s : State)
    (h₀ : Keeps t₀ s) : Keeps t₀ (voteBurst k bs n s).2 := by
  induction n generalizing bs s with
  | zero => exact h₀
  | succ n ih =>
    have h1 := voteBeats_keeps k (fun i => (bs i).head?) s h₀
    unfold voteBurst
    split
    · rename_i hq; rw [hq] at h1; exact h1
    · rename_i hq; rw [hq] at h1; exact ih _ _ h1

theorem flushCombine_keeps {t₀ : State} (k : Fin 8) (s : State) (h₀ : Keeps t₀ s) :
    Keeps t₀ (flushCombine k s) := by
  unfold flushCombine
  repeat' first
    | with_reducible assumption
    | with_reducible exact fun _ => rfl
    | with_reducible exact fun _ _ => rfl
    | with_reducible exact fun _ => ⟨id, id⟩
    | (rename_i hq; have hq2 := congrArg Prod.snd hq; with_reducible dsimp only at hq2; subst hq2)
    | simp only [↓keeps_mk_iff]
    | with_reducible refine keeps_ite ?_ ?_
    | with_reducible refine outKeeps_ite ?_ ?_
    | with_reducible refine outKeeps_next.2 ?_
    | with_reducible refine keeps_ite2 ?_ ?_
    | with_reducible refine keeps_foldl ?_ (fun _ _ _ => ?_)
    | with_reducible apply mapCores_keeps | with_reducible apply voteBurst_keeps | with_reducible apply applyBurst_keeps
    | split
    | dsimp only

theorem spareLock_keeps {t₀ : State} (lead : Fin 8) (s : State) (h₀ : Keeps t₀ s) :
    Keeps t₀ (spareLock lead s) := by
  unfold spareLock
  repeat' first
    | with_reducible assumption
    | with_reducible exact fun _ => rfl
    | with_reducible exact fun _ _ => rfl
    | with_reducible exact fun _ => ⟨id, id⟩
    | (rename_i hq; have hq2 := congrArg Prod.snd hq; with_reducible dsimp only at hq2; subst hq2)
    | simp only [↓keeps_mk_iff]
    | with_reducible refine keeps_ite ?_ ?_
    | with_reducible refine outKeeps_ite ?_ ?_
    | with_reducible refine outKeeps_next.2 ?_
    | with_reducible refine keeps_ite2 ?_ ?_
    | with_reducible refine keeps_foldl ?_ (fun _ _ _ => ?_)
    | with_reducible refine keeps_vmem (fun h => Memory.wf_memWriteBe _ _ _ _ h) rfl rfl rfl rfl rfl ?_
    | with_reducible refine keeps_vmem (fun h => Memory.wf_memWrite _ _ h) rfl rfl rfl rfl rfl ?_
    | with_reducible refine keeps_vmem (fun h => Memory.wf_filter _ h) rfl rfl rfl rfl rfl ?_
    | with_reducible refine keeps_mems (fun h => wf_mems_set h (Memory.wf_memWriteBe _ _ _ _ (h _))) rfl rfl rfl rfl rfl ?_
    | with_reducible refine keeps_mems (fun h => wf_mems_set h (Memory.wf_memWrite _ _ (h _))) rfl rfl rfl rfl rfl ?_
    | with_reducible refine keeps_mems (fun h => wf_mems_set h (Memory.wf_memCopyIf _ (h _))) rfl rfl rfl rfl rfl ?_
    | with_reducible refine keeps_mems (fun h => wf_mems_set h (Memory.wf_nil)) rfl rfl rfl rfl rfl ?_
    | split
    | dsimp only

theorem actFlush_keeps {t₀ : State} (s : State) (k : Fin 8) (a : Act) (h₀ : Keeps t₀ s) :
    Keeps t₀ (actFlush s k a) := by
  unfold actFlush
  repeat' first
    | with_reducible assumption
    | with_reducible exact fun _ => rfl
    | with_reducible exact fun _ _ => rfl
    | with_reducible exact fun _ => ⟨id, id⟩
    | (rename_i hq; have hq2 := congrArg Prod.snd hq; with_reducible dsimp only at hq2; subst hq2)
    | simp only [↓keeps_mk_iff]
    | with_reducible refine keeps_ite ?_ ?_
    | with_reducible refine outKeeps_ite ?_ ?_
    | with_reducible refine outKeeps_next.2 ?_
    | with_reducible refine keeps_ite2 ?_ ?_
    | with_reducible refine keeps_foldl ?_ (fun _ _ _ => ?_)
    | with_reducible apply flushCombine_keeps
    | split
    | dsimp only

theorem runActs_keeps {t₀ : State} (k : Fin 8) (act : State → Fin 8 → Act) (s0 : State) (h₀ : Keeps t₀ s0) :
    Keeps t₀ (runActs k act s0) := by
  unfold runActs
  repeat' first
    | with_reducible assumption
    | with_reducible exact fun _ => rfl
    | with_reducible exact fun _ _ => rfl
    | with_reducible exact fun _ => ⟨id, id⟩
    | (rename_i hq; have hq2 := congrArg Prod.snd hq; with_reducible dsimp only at hq2; subst hq2)
    | simp only [↓keeps_mk_iff]
    | with_reducible refine keeps_ite ?_ ?_
    | with_reducible refine outKeeps_ite ?_ ?_
    | with_reducible refine outKeeps_next.2 ?_
    | with_reducible refine keeps_ite2 ?_ ?_
    | with_reducible refine keeps_foldl ?_ (fun _ _ _ => ?_)
    | with_reducible apply actFlush_keeps | with_reducible apply setCore_keeps | with_reducible apply spareLock_keeps | with_reducible apply busError_keeps | with_reducible apply voteBeats_keeps | with_reducible apply fabric_keeps
    | split
    | dsimp only

theorem runNeeds_keeps {t₀ : State} (k : Fin 8) (act : State → Fin 8 → Act) (s : State) (h₀ : Keeps t₀ s) :
    ∀ u, (runNeeds k act s) = some u → Keeps t₀ u := by
  unfold runNeeds
  repeat' first
    | with_reducible assumption
    | with_reducible exact fun _ => rfl
    | with_reducible exact fun _ _ => rfl
    | with_reducible exact fun _ => ⟨id, id⟩
    | (rename_i hq; have hq2 := congrArg Prod.snd hq; with_reducible dsimp only at hq2; subst hq2)
    | simp only [↓keeps_mk_iff]
    | with_reducible refine keeps_ite ?_ ?_
    | with_reducible refine outKeeps_ite ?_ ?_
    | with_reducible refine outKeeps_next.2 ?_
    | with_reducible refine keeps_ite2 ?_ ?_
    | with_reducible refine keeps_foldl ?_ (fun _ _ _ => ?_)
    | (intro u hu; cases hu; done)
    | (intro u hu; injection hu with hu; subst hu)
    | with_reducible apply flushCombine_keeps | with_reducible apply drainBuf_keeps
    | split
    | dsimp only

theorem fetchAll_keeps {t₀ : State} (ks : List (Fin 8)) (s : State) (h₀ : Keeps t₀ s) :
    Keeps t₀ (fetchAll ks s) := by
  unfold fetchAll
  repeat' first
    | with_reducible assumption
    | with_reducible exact fun _ => rfl
    | with_reducible exact fun _ _ => rfl
    | with_reducible exact fun _ => ⟨id, id⟩
    | (rename_i hq; have hq2 := congrArg Prod.snd hq; with_reducible dsimp only at hq2; subst hq2)
    | simp only [↓keeps_mk_iff]
    | with_reducible refine keeps_ite ?_ ?_
    | with_reducible refine outKeeps_ite ?_ ?_
    | with_reducible refine outKeeps_next.2 ?_
    | with_reducible refine keeps_ite2 ?_ ?_
    | with_reducible refine keeps_foldl ?_ (fun _ _ _ => ?_)
    | with_reducible refine keeps_vmem (fun h => Memory.wf_memWriteBe _ _ _ _ h) rfl rfl rfl rfl rfl ?_
    | with_reducible refine keeps_vmem (fun h => Memory.wf_memWrite _ _ h) rfl rfl rfl rfl rfl ?_
    | with_reducible refine keeps_vmem (fun h => Memory.wf_filter _ h) rfl rfl rfl rfl rfl ?_
    | with_reducible refine keeps_mems (fun h => wf_mems_set h (Memory.wf_memWriteBe _ _ _ _ (h _))) rfl rfl rfl rfl rfl ?_
    | with_reducible refine keeps_mems (fun h => wf_mems_set h (Memory.wf_memWrite _ _ (h _))) rfl rfl rfl rfl rfl ?_
    | with_reducible refine keeps_mems (fun h => wf_mems_set h (Memory.wf_memCopyIf _ (h _))) rfl rfl rfl rfl rfl ?_
    | with_reducible refine keeps_mems (fun h => wf_mems_set h (Memory.wf_nil)) rfl rfl rfl rfl rfl ?_
    | with_reducible apply setCore_keeps
    | split
    | dsimp only

theorem runInstr_keeps {t₀ : State} (k : Fin 8) (act : State → Fin 8 → Act) (s : State) (h₀ : Keeps t₀ s) :
    Keeps t₀ (runInstr k act s) := by
  unfold runInstr
  repeat' first
    | with_reducible assumption
    | with_reducible exact fun _ => rfl
    | with_reducible exact fun _ _ => rfl
    | with_reducible exact fun _ => ⟨id, id⟩
    | (rename_i hq; have hq2 := congrArg Prod.snd hq; with_reducible dsimp only at hq2; subst hq2)
    | simp only [↓keeps_mk_iff]
    | with_reducible refine keeps_ite ?_ ?_
    | with_reducible refine outKeeps_ite ?_ ?_
    | with_reducible refine outKeeps_next.2 ?_
    | with_reducible refine keeps_ite2 ?_ ?_
    | with_reducible refine keeps_foldl ?_ (fun _ _ _ => ?_)
    | with_reducible apply mirrorShadow_keeps | with_reducible apply mapCores_keeps | with_reducible apply flushCombine_keeps | with_reducible refine runNeeds_keeps _ _ _ ?_ _ ‹_› | with_reducible apply fetchAll_keeps | with_reducible apply runActs_keeps
    | split
    | dsimp only

theorem readReg_keeps {t₀ : State} (k : Fin 8) (d : Fin 32) (a : Nat) (s : State) (h₀ : Keeps t₀ s) :
    Keeps t₀ (readReg k d a s) := by
  unfold readReg
  repeat' first
    | with_reducible assumption
    | with_reducible exact fun _ => rfl
    | with_reducible exact fun _ _ => rfl
    | with_reducible exact fun _ => ⟨id, id⟩
    | (rename_i hq; have hq2 := congrArg Prod.snd hq; with_reducible dsimp only at hq2; subst hq2)
    | simp only [↓keeps_mk_iff]
    | with_reducible refine keeps_ite ?_ ?_
    | with_reducible refine outKeeps_ite ?_ ?_
    | with_reducible refine outKeeps_next.2 ?_
    | with_reducible refine keeps_ite2 ?_ ?_
    | with_reducible refine keeps_foldl ?_ (fun _ _ _ => ?_)
    | with_reducible apply runInstr_keeps
    | split
    | dsimp only

theorem writeReg_keeps {t₀ : State} (k : Fin 8) (a : Nat) (v : Reg32) (s : State) (h₀ : Keeps t₀ s) :
    Keeps t₀ (writeReg k a v s) := by
  unfold writeReg
  repeat' first
    | with_reducible assumption
    | with_reducible exact fun _ => rfl
    | with_reducible exact fun _ _ => rfl
    | with_reducible exact fun _ => ⟨id, id⟩
    | (rename_i hq; have hq2 := congrArg Prod.snd hq; with_reducible dsimp only at hq2; subst hq2)
    | simp only [↓keeps_mk_iff]
    | with_reducible refine keeps_ite ?_ ?_
    | with_reducible refine outKeeps_ite ?_ ?_
    | with_reducible refine outKeeps_next.2 ?_
    | with_reducible refine keeps_ite2 ?_ ?_
    | with_reducible refine keeps_foldl ?_ (fun _ _ _ => ?_)
    | with_reducible apply runInstr_keeps
    | split
    | dsimp only

theorem execSave_keeps {t₀ : State} (s : State) (h₀ : Keeps t₀ s) :
    Keeps t₀ (execSave s) := by
  unfold execSave
  repeat' first
    | with_reducible assumption
    | with_reducible exact fun _ => rfl
    | with_reducible exact fun _ _ => rfl
    | with_reducible exact fun _ => ⟨id, id⟩
    | (rename_i hq; have hq2 := congrArg Prod.snd hq; with_reducible dsimp only at hq2; subst hq2)
    | simp only [↓keeps_mk_iff]
    | with_reducible refine keeps_ite ?_ ?_
    | with_reducible refine outKeeps_ite ?_ ?_
    | with_reducible refine outKeeps_next.2 ?_
    | with_reducible refine keeps_ite2 ?_ ?_
    | with_reducible refine keeps_foldl ?_ (fun _ _ _ => ?_)
    | split
    | dsimp only

theorem execWait_keeps {t₀ : State} (s : State) (h₀ : Keeps t₀ s) :
    Keeps t₀ (execWait s) := by
  unfold execWait
  repeat' first
    | with_reducible assumption
    | with_reducible exact fun _ => rfl
    | with_reducible exact fun _ _ => rfl
    | with_reducible exact fun _ => ⟨id, id⟩
    | (rename_i hq; have hq2 := congrArg Prod.snd hq; with_reducible dsimp only at hq2; subst hq2)
    | simp only [↓keeps_mk_iff]
    | with_reducible refine keeps_ite ?_ ?_
    | with_reducible refine outKeeps_ite ?_ ?_
    | with_reducible refine outKeeps_next.2 ?_
    | with_reducible refine keeps_ite2 ?_ ?_
    | with_reducible refine keeps_foldl ?_ (fun _ _ _ => ?_)
    | with_reducible apply mirrorShadow_keeps | with_reducible apply mapCores_keeps
    | split
    | dsimp only

theorem execEnter_keeps {t₀ : State} (n : Fin 9) (s : State) (h₀ : Keeps t₀ s) :
    Keeps t₀ (execEnter n s) := by
  unfold execEnter
  repeat' first
    | with_reducible assumption
    | with_reducible exact fun _ => rfl
    | with_reducible exact fun _ _ => rfl
    | with_reducible exact fun _ => ⟨id, id⟩
    | (rename_i hq; have hq2 := congrArg Prod.snd hq; with_reducible dsimp only at hq2; subst hq2)
    | simp only [↓keeps_mk_iff]
    | with_reducible refine keeps_ite ?_ ?_
    | with_reducible refine outKeeps_ite ?_ ?_
    | with_reducible refine outKeeps_next.2 ?_
    | with_reducible refine keeps_ite2 ?_ ?_
    | with_reducible refine keeps_foldl ?_ (fun _ _ _ => ?_)
    | with_reducible apply mirrorShadow_keeps | with_reducible apply mapCores_keeps
    | split
    | dsimp only

theorem execDispatch_keeps {t₀ : State} (s : State) (h₀ : Keeps t₀ s) :
    Keeps t₀ (execDispatch s) := by
  unfold execDispatch
  repeat' first
    | with_reducible assumption
    | with_reducible exact fun _ => rfl
    | with_reducible exact fun _ _ => rfl
    | with_reducible exact fun _ => ⟨id, id⟩
    | (rename_i hq; have hq2 := congrArg Prod.snd hq; with_reducible dsimp only at hq2; subst hq2)
    | simp only [↓keeps_mk_iff]
    | with_reducible refine keeps_ite ?_ ?_
    | with_reducible refine outKeeps_ite ?_ ?_
    | with_reducible refine outKeeps_next.2 ?_
    | with_reducible refine keeps_ite2 ?_ ?_
    | with_reducible refine keeps_foldl ?_ (fun _ _ _ => ?_)
    | with_reducible apply execSave_keeps | with_reducible apply execEnter_keeps | with_reducible apply execWait_keeps
    | split
    | dsimp only

theorem execDrop_keeps {t₀ : State} (n : Fin 9) (s : State) (h₀ : Keeps t₀ s) :
    Keeps t₀ (execDrop n s) := by
  unfold execDrop
  repeat' first
    | with_reducible assumption
    | with_reducible exact fun _ => rfl
    | with_reducible exact fun _ _ => rfl
    | with_reducible exact fun _ => ⟨id, id⟩
    | (rename_i hq; have hq2 := congrArg Prod.snd hq; with_reducible dsimp only at hq2; subst hq2)
    | simp only [↓keeps_mk_iff]
    | with_reducible refine keeps_ite ?_ ?_
    | with_reducible refine outKeeps_ite ?_ ?_
    | with_reducible refine outKeeps_next.2 ?_
    | with_reducible refine keeps_ite2 ?_ ?_
    | with_reducible refine keeps_foldl ?_ (fun _ _ _ => ?_)
    | split
    | dsimp only

theorem bgEnd_keeps {t₀ : State} (s : State) (h₀ : Keeps t₀ s) :
    Keeps t₀ (bgEnd s) := by
  unfold bgEnd
  repeat' first
    | with_reducible assumption
    | with_reducible exact fun _ => rfl
    | with_reducible exact fun _ _ => rfl
    | with_reducible exact fun _ => ⟨id, id⟩
    | (rename_i hq; have hq2 := congrArg Prod.snd hq; with_reducible dsimp only at hq2; subst hq2)
    | simp only [↓keeps_mk_iff]
    | with_reducible refine keeps_ite ?_ ?_
    | with_reducible refine outKeeps_ite ?_ ?_
    | with_reducible refine outKeeps_next.2 ?_
    | with_reducible refine keeps_ite2 ?_ ?_
    | with_reducible refine keeps_foldl ?_ (fun _ _ _ => ?_)
    | with_reducible apply execDispatch_keeps | with_reducible apply execDrop_keeps
    | split
    | dsimp only

theorem taskEnd_keeps {t₀ : State} (n : Fin 8) (s : State) (h₀ : Keeps t₀ s) :
    Keeps t₀ (taskEnd n s) := by
  unfold taskEnd
  repeat' first
    | with_reducible assumption
    | with_reducible exact fun _ => rfl
    | with_reducible exact fun _ _ => rfl
    | with_reducible exact fun _ => ⟨id, id⟩
    | (rename_i hq; have hq2 := congrArg Prod.snd hq; with_reducible dsimp only at hq2; subst hq2)
    | simp only [↓keeps_mk_iff]
    | with_reducible refine keeps_ite ?_ ?_
    | with_reducible refine outKeeps_ite ?_ ?_
    | with_reducible refine outKeeps_next.2 ?_
    | with_reducible refine keeps_ite2 ?_ ?_
    | with_reducible refine keeps_foldl ?_ (fun _ _ _ => ?_)
    | with_reducible apply closeCycle_keeps | with_reducible apply setTask_keeps | with_reducible apply execDispatch_keeps | with_reducible apply execDrop_keeps
    | split
    | dsimp only

theorem currentEnd_keeps {t₀ : State} (n : Fin 9) (s : State) (h₀ : Keeps t₀ s) :
    Keeps t₀ (currentEnd n s) := by
  unfold currentEnd
  repeat' first
    | with_reducible assumption
    | with_reducible exact fun _ => rfl
    | with_reducible exact fun _ _ => rfl
    | with_reducible exact fun _ => ⟨id, id⟩
    | (rename_i hq; have hq2 := congrArg Prod.snd hq; with_reducible dsimp only at hq2; subst hq2)
    | simp only [↓keeps_mk_iff]
    | with_reducible refine keeps_ite ?_ ?_
    | with_reducible refine outKeeps_ite ?_ ?_
    | with_reducible refine outKeeps_next.2 ?_
    | with_reducible refine keeps_ite2 ?_ ?_
    | with_reducible refine keeps_foldl ?_ (fun _ _ _ => ?_)
    | with_reducible apply taskEnd_keeps | with_reducible apply bgEnd_keeps
    | split
    | dsimp only

theorem appFault_keeps {t₀ : State} (s : State) (h₀ : Keeps t₀ s) :
    Keeps t₀ (appFault s) := by
  unfold appFault
  repeat' first
    | with_reducible assumption
    | with_reducible exact fun _ => rfl
    | with_reducible exact fun _ _ => rfl
    | with_reducible exact fun _ => ⟨id, id⟩
    | (rename_i hq; have hq2 := congrArg Prod.snd hq; with_reducible dsimp only at hq2; subst hq2)
    | simp only [↓keeps_mk_iff]
    | with_reducible refine keeps_ite ?_ ?_
    | with_reducible refine outKeeps_ite ?_ ?_
    | with_reducible refine outKeeps_next.2 ?_
    | with_reducible refine keeps_ite2 ?_ ?_
    | with_reducible refine keeps_foldl ?_ (fun _ _ _ => ?_)
    | with_reducible apply currentEnd_keeps | with_reducible apply record_keeps
    | split
    | dsimp only

theorem runTask_keeps {t₀ : State} (k : Fin 8) (act : State → Fin 8 → Act) (s : State) (h₀ : Keeps t₀ s) :
    Keeps t₀ (runTask k act s) := by
  unfold runTask
  repeat' first
    | with_reducible assumption
    | with_reducible exact fun _ => rfl
    | with_reducible exact fun _ _ => rfl
    | with_reducible exact fun _ => ⟨id, id⟩
    | (rename_i hq; have hq2 := congrArg Prod.snd hq; with_reducible dsimp only at hq2; subst hq2)
    | simp only [↓keeps_mk_iff]
    | with_reducible refine keeps_ite ?_ ?_
    | with_reducible refine outKeeps_ite ?_ ?_
    | with_reducible refine outKeeps_next.2 ?_
    | with_reducible refine keeps_ite2 ?_ ?_
    | with_reducible refine keeps_foldl ?_ (fun _ _ _ => ?_)
    | with_reducible apply appFault_keeps | with_reducible apply runInstr_keeps
    | split
    | dsimp only

theorem sysReturn_keeps {t₀ : State} (rs : List Nat) (s : State) (h₀ : Keeps t₀ s) :
    Keeps t₀ (sysReturn rs s) := by
  unfold sysReturn
  repeat' first
    | with_reducible assumption
    | with_reducible exact fun _ => rfl
    | with_reducible exact fun _ _ => rfl
    | with_reducible exact fun _ => ⟨id, id⟩
    | (rename_i hq; have hq2 := congrArg Prod.snd hq; with_reducible dsimp only at hq2; subst hq2)
    | simp only [↓keeps_mk_iff]
    | with_reducible refine keeps_ite ?_ ?_
    | with_reducible refine outKeeps_ite ?_ ?_
    | with_reducible refine outKeeps_next.2 ?_
    | with_reducible refine keeps_ite2 ?_ ?_
    | with_reducible refine keeps_foldl ?_ (fun _ _ _ => ?_)
    | with_reducible apply mirrorShadow_keeps | with_reducible apply mapCores_keeps
    | split
    | dsimp only

theorem openRegions_keeps {t₀ : State} (ls : List (Fin 4)) (s : State) (h₀ : Keeps t₀ s) :
    Keeps t₀ (openRegions ls s) := by
  unfold openRegions
  repeat' first
    | with_reducible assumption
    | with_reducible exact fun _ => rfl
    | with_reducible exact fun _ _ => rfl
    | with_reducible exact fun _ => ⟨id, id⟩
    | (rename_i hq; have hq2 := congrArg Prod.snd hq; with_reducible dsimp only at hq2; subst hq2)
    | simp only [↓keeps_mk_iff]
    | with_reducible refine keeps_ite ?_ ?_
    | with_reducible refine outKeeps_ite ?_ ?_
    | with_reducible refine outKeeps_next.2 ?_
    | with_reducible refine keeps_ite2 ?_ ?_
    | with_reducible refine keeps_foldl ?_ (fun _ _ _ => ?_)
    | split
    | dsimp only

end Sys2Proof.Machine
end

