-- ==== Sys2Proof/Laws/KeepsAll3.lean ====
section
/-! SUPPORT. Every operation and every meaning keeps the memories canonical and the FIFO within its bound. -/

set_option linter.all false

namespace Sys2Proof.Machine

open Sys2Proof

theorem execOprAlu_keeps {t₀ : State} (core : Fin 8) (op : AluOp) (d a b : Fin 32) (s : State) (h₀ : Keeps t₀ s) :
    OutKeeps t₀ (execOprAlu core op d a b s) := by
  unfold execOprAlu
  repeat' first
    | with_reducible assumption
    | with_reducible exact fun _ => rfl
    | with_reducible exact fun _ _ => rfl
    | with_reducible exact fun _ => ⟨id, id⟩
    | (rename_i hq; have hq2 := congrArg Prod.snd hq; with_reducible dsimp only at hq2; subst hq2)
    | simp only [↓keeps_mk_iff]
    | with_reducible refine keeps_ite ?_ ?_
    | with_reducible refine outKeeps_ite ?_ ?_
    | with_reducible refine outKeeps_next.2 ?_
    | with_reducible refine keeps_ite2 ?_ ?_
    | with_reducible refine keeps_foldl ?_ (fun _ _ _ => ?_)
    | with_reducible apply runTask_keeps | with_reducible apply aluAct_keeps
    | split
    | dsimp only

theorem execOprwWordOp_keeps {t₀ : State} (core : Fin 8) (op : AluwOp) (d a b : Fin 32) (s : State) (h₀ : Keeps t₀ s) :
    OutKeeps t₀ (execOprwWordOp core op d a b s) := by
  unfold execOprwWordOp
  repeat' first
    | with_reducible assumption
    | with_reducible exact fun _ => rfl
    | with_reducible exact fun _ _ => rfl
    | with_reducible exact fun _ => ⟨id, id⟩
    | (rename_i hq; have hq2 := congrArg Prod.snd hq; with_reducible dsimp only at hq2; subst hq2)
    | simp only [↓keeps_mk_iff]
    | with_reducible refine keeps_ite ?_ ?_
    | with_reducible refine outKeeps_ite ?_ ?_
    | with_reducible refine outKeeps_next.2 ?_
    | with_reducible refine keeps_ite2 ?_ ?_
    | with_reducible refine keeps_foldl ?_ (fun _ _ _ => ?_)
    | with_reducible apply runTask_keeps | with_reducible apply aluwAct_keeps
    | split
    | dsimp only

theorem execMultiply_keeps {t₀ : State} (core : Fin 8) (op : MulOp) (d a b : Fin 32) (s : State) (h₀ : Keeps t₀ s) :
    OutKeeps t₀ (execMultiply core op d a b s) := by
  unfold execMultiply
  repeat' first
    | with_reducible assumption
    | with_reducible exact fun _ => rfl
    | with_reducible exact fun _ _ => rfl
    | with_reducible exact fun _ => ⟨id, id⟩
    | (rename_i hq; have hq2 := congrArg Prod.snd hq; with_reducible dsimp only at hq2; subst hq2)
    | simp only [↓keeps_mk_iff]
    | with_reducible refine keeps_ite ?_ ?_
    | with_reducible refine outKeeps_ite ?_ ?_
    | with_reducible refine outKeeps_next.2 ?_
    | with_reducible refine keeps_ite2 ?_ ?_
    | with_reducible refine keeps_foldl ?_ (fun _ _ _ => ?_)
    | with_reducible apply runTask_keeps | with_reducible apply mulAct_keeps
    | split
    | dsimp only

theorem execDivide_keeps {t₀ : State} (core : Fin 8) (op : DivOp) (d a b : Fin 32) (s : State) (h₀ : Keeps t₀ s) :
    OutKeeps t₀ (execDivide core op d a b s) := by
  unfold execDivide
  repeat' first
    | with_reducible assumption
    | with_reducible exact fun _ => rfl
    | with_reducible exact fun _ _ => rfl
    | with_reducible exact fun _ => ⟨id, id⟩
    | (rename_i hq; have hq2 := congrArg Prod.snd hq; with_reducible dsimp only at hq2; subst hq2)
    | simp only [↓keeps_mk_iff]
    | with_reducible refine keeps_ite ?_ ?_
    | with_reducible refine outKeeps_ite ?_ ?_
    | with_reducible refine outKeeps_next.2 ?_
    | with_reducible refine keeps_ite2 ?_ ?_
    | with_reducible refine keeps_foldl ?_ (fun _ _ _ => ?_)
    | with_reducible apply runTask_keeps
    | split
    | dsimp only

theorem execBitop_keeps {t₀ : State} (core : Fin 8) (op : BitOp) (d a b : Fin 32) (s : State) (h₀ : Keeps t₀ s) :
    OutKeeps t₀ (execBitop core op d a b s) := by
  unfold execBitop
  repeat' first
    | with_reducible assumption
    | with_reducible exact fun _ => rfl
    | with_reducible exact fun _ _ => rfl
    | with_reducible exact fun _ => ⟨id, id⟩
    | (rename_i hq; have hq2 := congrArg Prod.snd hq; with_reducible dsimp only at hq2; subst hq2)
    | simp only [↓keeps_mk_iff]
    | with_reducible refine keeps_ite ?_ ?_
    | with_reducible refine outKeeps_ite ?_ ?_
    | with_reducible refine outKeeps_next.2 ?_
    | with_reducible refine keeps_ite2 ?_ ?_
    | with_reducible refine keeps_foldl ?_ (fun _ _ _ => ?_)
    | with_reducible apply runTask_keeps | with_reducible apply bitAct_keeps
    | split
    | dsimp only

theorem execAluImmediate_keeps {t₀ : State} (core : Fin 8) (op : ImmOp) (d a : Fin 32) (imm : BitVec 16) (s : State) (h₀ : Keeps t₀ s) :
    OutKeeps t₀ (execAluImmediate core op d a imm s) := by
  unfold execAluImmediate
  repeat' first
    | with_reducible assumption
    | with_reducible exact fun _ => rfl
    | with_reducible exact fun _ _ => rfl
    | with_reducible exact fun _ => ⟨id, id⟩
    | (rename_i hq; have hq2 := congrArg Prod.snd hq; with_reducible dsimp only at hq2; subst hq2)
    | simp only [↓keeps_mk_iff]
    | with_reducible refine keeps_ite ?_ ?_
    | with_reducible refine outKeeps_ite ?_ ?_
    | with_reducible refine outKeeps_next.2 ?_
    | with_reducible refine keeps_ite2 ?_ ?_
    | with_reducible refine keeps_foldl ?_ (fun _ _ _ => ?_)
    | with_reducible apply runTask_keeps | with_reducible apply immAct_keeps
    | split
    | dsimp only

theorem execShiftImmediate_keeps {t₀ : State} (core : Fin 8) (op : ShiftOp) (word : Bool) (d a : Fin 32) (shamt : BitVec 6) (s : State) (h₀ : Keeps t₀ s) :
    OutKeeps t₀ (execShiftImmediate core op word d a shamt s) := by
  unfold execShiftImmediate
  repeat' first
    | with_reducible assumption
    | with_reducible exact fun _ => rfl
    | with_reducible exact fun _ _ => rfl
    | with_reducible exact fun _ => ⟨id, id⟩
    | (rename_i hq; have hq2 := congrArg Prod.snd hq; with_reducible dsimp only at hq2; subst hq2)
    | simp only [↓keeps_mk_iff]
    | with_reducible refine keeps_ite ?_ ?_
    | with_reducible refine outKeeps_ite ?_ ?_
    | with_reducible refine outKeeps_next.2 ?_
    | with_reducible refine keeps_ite2 ?_ ?_
    | with_reducible refine keeps_foldl ?_ (fun _ _ _ => ?_)
    | with_reducible apply runTask_keeps | with_reducible apply shiftAct_keeps
    | split
    | dsimp only

theorem execLui_keeps {t₀ : State} (core : Fin 8) (d : Fin 32) (imm : BitVec 16) (s : State) (h₀ : Keeps t₀ s) :
    OutKeeps t₀ (execLui core d imm s) := by
  unfold execLui
  repeat' first
    | with_reducible assumption
    | with_reducible exact fun _ => rfl
    | with_reducible exact fun _ _ => rfl
    | with_reducible exact fun _ => ⟨id, id⟩
    | (rename_i hq; have hq2 := congrArg Prod.snd hq; with_reducible dsimp only at hq2; subst hq2)
    | simp only [↓keeps_mk_iff]
    | with_reducible refine keeps_ite ?_ ?_
    | with_reducible refine outKeeps_ite ?_ ?_
    | with_reducible refine outKeeps_next.2 ?_
    | with_reducible refine keeps_ite2 ?_ ?_
    | with_reducible refine keeps_foldl ?_ (fun _ _ _ => ?_)
    | with_reducible apply runTask_keeps | with_reducible apply luiAct_keeps
    | split
    | dsimp only

theorem execInsh_keeps {t₀ : State} (core : Fin 8) (d : Fin 32) (k : Fin 4) (imm : BitVec 16) (s : State) (h₀ : Keeps t₀ s) :
    OutKeeps t₀ (execInsh core d k imm s) := by
  unfold execInsh
  repeat' first
    | with_reducible assumption
    | with_reducible exact fun _ => rfl
    | with_reducible exact fun _ _ => rfl
    | with_reducible exact fun _ => ⟨id, id⟩
    | (rename_i hq; have hq2 := congrArg Prod.snd hq; with_reducible dsimp only at hq2; subst hq2)
    | simp only [↓keeps_mk_iff]
    | with_reducible refine keeps_ite ?_ ?_
    | with_reducible refine outKeeps_ite ?_ ?_
    | with_reducible refine outKeeps_next.2 ?_
    | with_reducible refine keeps_ite2 ?_ ?_
    | with_reducible refine keeps_foldl ?_ (fun _ _ _ => ?_)
    | with_reducible apply runTask_keeps | with_reducible apply inshAct_keeps
    | split
    | dsimp only

theorem execLapc_keeps {t₀ : State} (core : Fin 8) (d : Fin 32) (imm : BitVec 16) (s : State) (h₀ : Keeps t₀ s) :
    OutKeeps t₀ (execLapc core d imm s) := by
  unfold execLapc
  repeat' first
    | with_reducible assumption
    | with_reducible exact fun _ => rfl
    | with_reducible exact fun _ _ => rfl
    | with_reducible exact fun _ => ⟨id, id⟩
    | (rename_i hq; have hq2 := congrArg Prod.snd hq; with_reducible dsimp only at hq2; subst hq2)
    | simp only [↓keeps_mk_iff]
    | with_reducible refine keeps_ite ?_ ?_
    | with_reducible refine outKeeps_ite ?_ ?_
    | with_reducible refine outKeeps_next.2 ?_
    | with_reducible refine keeps_ite2 ?_ ?_
    | with_reducible refine keeps_foldl ?_ (fun _ _ _ => ?_)
    | with_reducible apply runTask_keeps | with_reducible apply lapcAct_keeps
    | split
    | dsimp only

theorem execLoad_keeps {t₀ : State} (core : Fin 8) (op : LoadOp) (d a : Fin 32) (disp : BitVec 16) (s : State) (h₀ : Keeps t₀ s) :
    OutKeeps t₀ (execLoad core op d a disp s) := by
  unfold execLoad
  repeat' first
    | with_reducible assumption
    | with_reducible exact fun _ => rfl
    | with_reducible exact fun _ _ => rfl
    | with_reducible exact fun _ => ⟨id, id⟩
    | (rename_i hq; have hq2 := congrArg Prod.snd hq; with_reducible dsimp only at hq2; subst hq2)
    | simp only [↓keeps_mk_iff]
    | with_reducible refine keeps_ite ?_ ?_
    | with_reducible refine outKeeps_ite ?_ ?_
    | with_reducible refine outKeeps_next.2 ?_
    | with_reducible refine keeps_ite2 ?_ ?_
    | with_reducible refine keeps_foldl ?_ (fun _ _ _ => ?_)
    | with_reducible apply runTask_keeps
    | split
    | dsimp only

theorem execStore_keeps {t₀ : State} (core : Fin 8) (op : StoreOp) (d a : Fin 32) (disp : BitVec 16) (s : State) (h₀ : Keeps t₀ s) :
    OutKeeps t₀ (execStore core op d a disp s) := by
  unfold execStore
  repeat' first
    | with_reducible assumption
    | with_reducible exact fun _ => rfl
    | with_reducible exact fun _ _ => rfl
    | with_reducible exact fun _ => ⟨id, id⟩
    | (rename_i hq; have hq2 := congrArg Prod.snd hq; with_reducible dsimp only at hq2; subst hq2)
    | simp only [↓keeps_mk_iff]
    | with_reducible refine keeps_ite ?_ ?_
    | with_reducible refine outKeeps_ite ?_ ?_
    | with_reducible refine outKeeps_next.2 ?_
    | with_reducible refine keeps_ite2 ?_ ?_
    | with_reducible refine keeps_foldl ?_ (fun _ _ _ => ?_)
    | with_reducible apply runTask_keeps
    | split
    | dsimp only

theorem execLdx_keeps {t₀ : State} (core : Fin 8) (dbl : Bool) (d a : Fin 32) (s : State) (h₀ : Keeps t₀ s) :
    OutKeeps t₀ (execLdx core dbl d a s) := by
  unfold execLdx
  repeat' first
    | with_reducible assumption
    | with_reducible exact fun _ => rfl
    | with_reducible exact fun _ _ => rfl
    | with_reducible exact fun _ => ⟨id, id⟩
    | (rename_i hq; have hq2 := congrArg Prod.snd hq; with_reducible dsimp only at hq2; subst hq2)
    | simp only [↓keeps_mk_iff]
    | with_reducible refine keeps_ite ?_ ?_
    | with_reducible refine outKeeps_ite ?_ ?_
    | with_reducible refine outKeeps_next.2 ?_
    | with_reducible refine keeps_ite2 ?_ ?_
    | with_reducible refine keeps_foldl ?_ (fun _ _ _ => ?_)
    | with_reducible apply runTask_keeps
    | split
    | dsimp only

theorem execStx_keeps {t₀ : State} (core : Fin 8) (dbl : Bool) (d a b : Fin 32) (s : State) (h₀ : Keeps t₀ s) :
    OutKeeps t₀ (execStx core dbl d a b s) := by
  unfold execStx
  repeat' first
    | with_reducible assumption
    | with_reducible exact fun _ => rfl
    | with_reducible exact fun _ _ => rfl
    | with_reducible exact fun _ => ⟨id, id⟩
    | (rename_i hq; have hq2 := congrArg Prod.snd hq; with_reducible dsimp only at hq2; subst hq2)
    | simp only [↓keeps_mk_iff]
    | with_reducible refine keeps_ite ?_ ?_
    | with_reducible refine outKeeps_ite ?_ ?_
    | with_reducible refine outKeeps_next.2 ?_
    | with_reducible refine keeps_ite2 ?_ ?_
    | with_reducible refine keeps_foldl ?_ (fun _ _ _ => ?_)
    | with_reducible apply runTask_keeps
    | split
    | dsimp only

theorem execFpOperation_keeps {t₀ : State} (core : Fin 8) (op : FpOp) (dbl : Bool) (d a b : Fin 32) (s : State) (h₀ : Keeps t₀ s) :
    OutKeeps t₀ (execFpOperation core op dbl d a b s) := by
  unfold execFpOperation
  repeat' first
    | with_reducible assumption
    | with_reducible exact fun _ => rfl
    | with_reducible exact fun _ _ => rfl
    | with_reducible exact fun _ => ⟨id, id⟩
    | (rename_i hq; have hq2 := congrArg Prod.snd hq; with_reducible dsimp only at hq2; subst hq2)
    | simp only [↓keeps_mk_iff]
    | with_reducible refine keeps_ite ?_ ?_
    | with_reducible refine outKeeps_ite ?_ ?_
    | with_reducible refine outKeeps_next.2 ?_
    | with_reducible refine keeps_ite2 ?_ ?_
    | with_reducible refine keeps_foldl ?_ (fun _ _ _ => ?_)
    | with_reducible apply runTask_keeps
    | split
    | dsimp only

theorem execFma_keeps {t₀ : State} (core : Fin 8) (op : FmaOp) (dbl : Bool) (d a b c : Fin 32) (s : State) (h₀ : Keeps t₀ s) :
    OutKeeps t₀ (execFma core op dbl d a b c s) := by
  unfold execFma
  repeat' first
    | with_reducible assumption
    | with_reducible exact fun _ => rfl
    | with_reducible exact fun _ _ => rfl
    | with_reducible exact fun _ => ⟨id, id⟩
    | (rename_i hq; have hq2 := congrArg Prod.snd hq; with_reducible dsimp only at hq2; subst hq2)
    | simp only [↓keeps_mk_iff]
    | with_reducible refine keeps_ite ?_ ?_
    | with_reducible refine outKeeps_ite ?_ ?_
    | with_reducible refine outKeeps_next.2 ?_
    | with_reducible refine keeps_ite2 ?_ ?_
    | with_reducible refine keeps_foldl ?_ (fun _ _ _ => ?_)
    | with_reducible apply runTask_keeps
    | split
    | dsimp only

theorem execBranch_keeps {t₀ : State} (core : Fin 8) (cond : Cond) (d a : Fin 32) (off : BitVec 16) (s : State) (h₀ : Keeps t₀ s) :
    OutKeeps t₀ (execBranch core cond d a off s) := by
  unfold execBranch
  repeat' first
    | with_reducible assumption
    | with_reducible exact fun _ => rfl
    | with_reducible exact fun _ _ => rfl
    | with_reducible exact fun _ => ⟨id, id⟩
    | (rename_i hq; have hq2 := congrArg Prod.snd hq; with_reducible dsimp only at hq2; subst hq2)
    | simp only [↓keeps_mk_iff]
    | with_reducible refine keeps_ite ?_ ?_
    | with_reducible refine outKeeps_ite ?_ ?_
    | with_reducible refine outKeeps_next.2 ?_
    | with_reducible refine keeps_ite2 ?_ ?_
    | with_reducible refine keeps_foldl ?_ (fun _ _ _ => ?_)
    | with_reducible apply runTask_keeps
    | split
    | dsimp only

theorem execJJl_keeps {t₀ : State} (core : Fin 8) (link : Bool) (off : BitVec 26) (s : State) (h₀ : Keeps t₀ s) :
    OutKeeps t₀ (execJJl core link off s) := by
  unfold execJJl
  repeat' first
    | with_reducible assumption
    | with_reducible exact fun _ => rfl
    | with_reducible exact fun _ _ => rfl
    | with_reducible exact fun _ => ⟨id, id⟩
    | (rename_i hq; have hq2 := congrArg Prod.snd hq; with_reducible dsimp only at hq2; subst hq2)
    | simp only [↓keeps_mk_iff]
    | with_reducible refine keeps_ite ?_ ?_
    | with_reducible refine outKeeps_ite ?_ ?_
    | with_reducible refine outKeeps_next.2 ?_
    | with_reducible refine keeps_ite2 ?_ ?_
    | with_reducible refine keeps_foldl ?_ (fun _ _ _ => ?_)
    | with_reducible apply runTask_keeps
    | split
    | dsimp only

theorem execJlr_keeps {t₀ : State} (core : Fin 8) (d a : Fin 32) (imm : BitVec 16) (s : State) (h₀ : Keeps t₀ s) :
    OutKeeps t₀ (execJlr core d a imm s) := by
  unfold execJlr
  repeat' first
    | with_reducible assumption
    | with_reducible exact fun _ => rfl
    | with_reducible exact fun _ _ => rfl
    | with_reducible exact fun _ => ⟨id, id⟩
    | (rename_i hq; have hq2 := congrArg Prod.snd hq; with_reducible dsimp only at hq2; subst hq2)
    | simp only [↓keeps_mk_iff]
    | with_reducible refine keeps_ite ?_ ?_
    | with_reducible refine outKeeps_ite ?_ ?_
    | with_reducible refine outKeeps_next.2 ?_
    | with_reducible refine keeps_ite2 ?_ ?_
    | with_reducible refine keeps_foldl ?_ (fun _ _ _ => ?_)
    | with_reducible apply runTask_keeps
    | split
    | dsimp only

theorem execCwr_keeps {t₀ : State} (core : Fin 8) (d : Fin 32) (n : BitVec 16) (s : State) (h₀ : Keeps t₀ s) :
    OutKeeps t₀ (execCwr core d n s) := by
  unfold execCwr
  repeat' first
    | with_reducible assumption
    | with_reducible exact fun _ => rfl
    | with_reducible exact fun _ _ => rfl
    | with_reducible exact fun _ => ⟨id, id⟩
    | (rename_i hq; have hq2 := congrArg Prod.snd hq; with_reducible dsimp only at hq2; subst hq2)
    | simp only [↓keeps_mk_iff]
    | with_reducible refine keeps_ite ?_ ?_
    | with_reducible refine outKeeps_ite ?_ ?_
    | with_reducible refine outKeeps_next.2 ?_
    | with_reducible refine keeps_ite2 ?_ ?_
    | with_reducible refine keeps_foldl ?_ (fun _ _ _ => ?_)
    | with_reducible apply runTask_keeps
    | split
    | dsimp only

theorem execCww_keeps {t₀ : State} (core : Fin 8) (a : Fin 32) (n : BitVec 16) (s : State) (h₀ : Keeps t₀ s) :
    OutKeeps t₀ (execCww core a n s) := by
  unfold execCww
  repeat' first
    | with_reducible assumption
    | with_reducible exact fun _ => rfl
    | with_reducible exact fun _ _ => rfl
    | with_reducible exact fun _ => ⟨id, id⟩
    | (rename_i hq; have hq2 := congrArg Prod.snd hq; with_reducible dsimp only at hq2; subst hq2)
    | simp only [↓keeps_mk_iff]
    | with_reducible refine keeps_ite ?_ ?_
    | with_reducible refine outKeeps_ite ?_ ?_
    | with_reducible refine outKeeps_next.2 ?_
    | with_reducible refine keeps_ite2 ?_ ?_
    | with_reducible refine keeps_foldl ?_ (fun _ _ _ => ?_)
    | with_reducible apply runTask_keeps
    | split
    | dsimp only

theorem execCws_keeps {t₀ : State} (core : Fin 8) (d a : Fin 32) (n : BitVec 16) (s : State) (h₀ : Keeps t₀ s) :
    OutKeeps t₀ (execCws core d a n s) := by
  unfold execCws
  repeat' first
    | with_reducible assumption
    | with_reducible exact fun _ => rfl
    | with_reducible exact fun _ _ => rfl
    | with_reducible exact fun _ => ⟨id, id⟩
    | (rename_i hq; have hq2 := congrArg Prod.snd hq; with_reducible dsimp only at hq2; subst hq2)
    | simp only [↓keeps_mk_iff]
    | with_reducible refine keeps_ite ?_ ?_
    | with_reducible refine outKeeps_ite ?_ ?_
    | with_reducible refine outKeeps_next.2 ?_
    | with_reducible refine keeps_ite2 ?_ ?_
    | with_reducible refine keeps_foldl ?_ (fun _ _ _ => ?_)
    | with_reducible apply runTask_keeps
    | split
    | dsimp only

theorem execCwc_keeps {t₀ : State} (core : Fin 8) (d a : Fin 32) (n : BitVec 16) (s : State) (h₀ : Keeps t₀ s) :
    OutKeeps t₀ (execCwc core d a n s) := by
  unfold execCwc
  repeat' first
    | with_reducible assumption
    | with_reducible exact fun _ => rfl
    | with_reducible exact fun _ _ => rfl
    | with_reducible exact fun _ => ⟨id, id⟩
    | (rename_i hq; have hq2 := congrArg Prod.snd hq; with_reducible dsimp only at hq2; subst hq2)
    | simp only [↓keeps_mk_iff]
    | with_reducible refine keeps_ite ?_ ?_
    | with_reducible refine outKeeps_ite ?_ ?_
    | with_reducible refine outKeeps_next.2 ?_
    | with_reducible refine keeps_ite2 ?_ ?_
    | with_reducible refine keeps_foldl ?_ (fun _ _ _ => ?_)
    | with_reducible apply runTask_keeps
    | split
    | dsimp only

theorem execFence_keeps {t₀ : State} (core : Fin 8) (s : State) (h₀ : Keeps t₀ s) :
    OutKeeps t₀ (execFence core s) := by
  unfold execFence
  repeat' first
    | with_reducible assumption
    | with_reducible exact fun _ => rfl
    | with_reducible exact fun _ _ => rfl
    | with_reducible exact fun _ => ⟨id, id⟩
    | (rename_i hq; have hq2 := congrArg Prod.snd hq; with_reducible dsimp only at hq2; subst hq2)
    | simp only [↓keeps_mk_iff]
    | with_reducible refine keeps_ite ?_ ?_
    | with_reducible refine outKeeps_ite ?_ ?_
    | with_reducible refine outKeeps_next.2 ?_
    | with_reducible refine keeps_ite2 ?_ ?_
    | with_reducible refine keeps_foldl ?_ (fun _ _ _ => ?_)
    | with_reducible apply runTask_keeps
    | split
    | dsimp only

theorem execFenceI_keeps {t₀ : State} (core : Fin 8) (s : State) (h₀ : Keeps t₀ s) :
    OutKeeps t₀ (execFenceI core s) := by
  unfold execFenceI
  repeat' first
    | with_reducible assumption
    | with_reducible exact fun _ => rfl
    | with_reducible exact fun _ _ => rfl
    | with_reducible exact fun _ => ⟨id, id⟩
    | (rename_i hq; have hq2 := congrArg Prod.snd hq; with_reducible dsimp only at hq2; subst hq2)
    | simp only [↓keeps_mk_iff]
    | with_reducible refine keeps_ite ?_ ?_
    | with_reducible refine outKeeps_ite ?_ ?_
    | with_reducible refine outKeeps_next.2 ?_
    | with_reducible refine keeps_ite2 ?_ ?_
    | with_reducible refine keeps_foldl ?_ (fun _ _ _ => ?_)
    | with_reducible apply runTask_keeps
    | split
    | dsimp only

theorem execEret_keeps {t₀ : State} (core : Fin 8) (s : State) (h₀ : Keeps t₀ s) :
    OutKeeps t₀ (execEret core s) := by
  unfold execEret
  repeat' first
    | with_reducible assumption
    | with_reducible exact fun _ => rfl
    | with_reducible exact fun _ _ => rfl
    | with_reducible exact fun _ => ⟨id, id⟩
    | (rename_i hq; have hq2 := congrArg Prod.snd hq; with_reducible dsimp only at hq2; subst hq2)
    | simp only [↓keeps_mk_iff]
    | with_reducible refine keeps_ite ?_ ?_
    | with_reducible refine outKeeps_ite ?_ ?_
    | with_reducible refine outKeeps_next.2 ?_
    | with_reducible refine keeps_ite2 ?_ ?_
    | with_reducible refine keeps_foldl ?_ (fun _ _ _ => ?_)
    | with_reducible apply runTask_keeps
    | split
    | dsimp only

theorem execWfi_keeps {t₀ : State} (core : Fin 8) (s : State) (h₀ : Keeps t₀ s) :
    OutKeeps t₀ (execWfi core s) := by
  unfold execWfi
  repeat' first
    | with_reducible assumption
    | with_reducible exact fun _ => rfl
    | with_reducible exact fun _ _ => rfl
    | with_reducible exact fun _ => ⟨id, id⟩
    | (rename_i hq; have hq2 := congrArg Prod.snd hq; with_reducible dsimp only at hq2; subst hq2)
    | simp only [↓keeps_mk_iff]
    | with_reducible refine keeps_ite ?_ ?_
    | with_reducible refine outKeeps_ite ?_ ?_
    | with_reducible refine outKeeps_next.2 ?_
    | with_reducible refine keeps_ite2 ?_ ?_
    | with_reducible refine keeps_foldl ?_ (fun _ _ _ => ?_)
    | with_reducible apply runTask_keeps
    | split
    | dsimp only

theorem execBreakInstr_keeps {t₀ : State} (core : Fin 8) (s : State) (h₀ : Keeps t₀ s) :
    OutKeeps t₀ (execBreakInstr core s) := by
  unfold execBreakInstr
  repeat' first
    | with_reducible assumption
    | with_reducible exact fun _ => rfl
    | with_reducible exact fun _ _ => rfl
    | with_reducible exact fun _ => ⟨id, id⟩
    | (rename_i hq; have hq2 := congrArg Prod.snd hq; with_reducible dsimp only at hq2; subst hq2)
    | simp only [↓keeps_mk_iff]
    | with_reducible refine keeps_ite ?_ ?_
    | with_reducible refine outKeeps_ite ?_ ?_
    | with_reducible refine outKeeps_next.2 ?_
    | with_reducible refine keeps_ite2 ?_ ?_
    | with_reducible refine keeps_foldl ?_ (fun _ _ _ => ?_)
    | with_reducible apply runTask_keeps
    | split
    | dsimp only

theorem execCacheInvalidate_keeps {t₀ : State} (core : Fin 8) (op : CacheOp) (a : Fin 32) (s : State) (h₀ : Keeps t₀ s) :
    OutKeeps t₀ (execCacheInvalidate core op a s) := by
  unfold execCacheInvalidate
  repeat' first
    | with_reducible assumption
    | with_reducible exact fun _ => rfl
    | with_reducible exact fun _ _ => rfl
    | with_reducible exact fun _ => ⟨id, id⟩
    | (rename_i hq; have hq2 := congrArg Prod.snd hq; with_reducible dsimp only at hq2; subst hq2)
    | simp only [↓keeps_mk_iff]
    | with_reducible refine keeps_ite ?_ ?_
    | with_reducible refine outKeeps_ite ?_ ?_
    | with_reducible refine outKeeps_next.2 ?_
    | with_reducible refine keeps_ite2 ?_ ?_
    | with_reducible refine keeps_foldl ?_ (fun _ _ _ => ?_)
    | with_reducible apply runTask_keeps
    | split
    | dsimp only

theorem execSyscall_keeps {t₀ : State} (core : Fin 8) (imm : BitVec 16) (s : State) (h₀ : Keeps t₀ s) :
    OutKeeps t₀ (execSyscall core imm s) := by
  unfold execSyscall
  repeat' first
    | with_reducible assumption
    | with_reducible exact fun _ => rfl
    | with_reducible exact fun _ _ => rfl
    | with_reducible exact fun _ => ⟨id, id⟩
    | (rename_i hq; have hq2 := congrArg Prod.snd hq; with_reducible dsimp only at hq2; subst hq2)
    | simp only [↓keeps_mk_iff]
    | with_reducible refine keeps_ite ?_ ?_
    | with_reducible refine outKeeps_ite ?_ ?_
    | with_reducible refine outKeeps_next.2 ?_
    | with_reducible refine keeps_ite2 ?_ ?_
    | with_reducible refine keeps_foldl ?_ (fun _ _ _ => ?_)
    | with_reducible apply runTask_keeps
    | split
    | dsimp only

theorem execIllegalInstruction_keeps {t₀ : State} (core : Fin 8) (word : BitVec 32) (s : State) (h₀ : Keeps t₀ s) :
    OutKeeps t₀ (execIllegalInstruction core word s) := by
  unfold execIllegalInstruction
  repeat' first
    | with_reducible assumption
    | with_reducible exact fun _ => rfl
    | with_reducible exact fun _ _ => rfl
    | with_reducible exact fun _ => ⟨id, id⟩
    | (rename_i hq; have hq2 := congrArg Prod.snd hq; with_reducible dsimp only at hq2; subst hq2)
    | simp only [↓keeps_mk_iff]
    | with_reducible refine keeps_ite ?_ ?_
    | with_reducible refine outKeeps_ite ?_ ?_
    | with_reducible refine outKeeps_next.2 ?_
    | with_reducible refine keeps_ite2 ?_ ?_
    | with_reducible refine keeps_foldl ?_ (fun _ _ _ => ?_)
    | with_reducible apply runTask_keeps
    | split
    | dsimp only

theorem execFetchFault_keeps {t₀ : State} (core : Fin 8) (s : State) (h₀ : Keeps t₀ s) :
    OutKeeps t₀ (execFetchFault core s) := by
  unfold execFetchFault
  repeat' first
    | with_reducible assumption
    | with_reducible exact fun _ => rfl
    | with_reducible exact fun _ _ => rfl
    | with_reducible exact fun _ => ⟨id, id⟩
    | (rename_i hq; have hq2 := congrArg Prod.snd hq; with_reducible dsimp only at hq2; subst hq2)
    | simp only [↓keeps_mk_iff]
    | with_reducible refine keeps_ite ?_ ?_
    | with_reducible refine outKeeps_ite ?_ ?_
    | with_reducible refine outKeeps_next.2 ?_
    | with_reducible refine keeps_ite2 ?_ ?_
    | with_reducible refine keeps_foldl ?_ (fun _ _ _ => ?_)
    | with_reducible apply runTask_keeps
    | split
    | dsimp only

theorem execImpreciseBuserr_keeps {t₀ : State} (core : Fin 8) (addr : BitVec 40) (s : State) (h₀ : Keeps t₀ s) :
    OutKeeps t₀ (execImpreciseBuserr core addr s) := by
  unfold execImpreciseBuserr
  repeat' first
    | with_reducible assumption
    | with_reducible exact fun _ => rfl
    | with_reducible exact fun _ _ => rfl
    | with_reducible exact fun _ => ⟨id, id⟩
    | (rename_i hq; have hq2 := congrArg Prod.snd hq; with_reducible dsimp only at hq2; subst hq2)
    | simp only [↓keeps_mk_iff]
    | with_reducible refine keeps_ite ?_ ?_
    | with_reducible refine outKeeps_ite ?_ ?_
    | with_reducible refine outKeeps_next.2 ?_
    | with_reducible refine keeps_ite2 ?_ ?_
    | with_reducible refine keeps_foldl ?_ (fun _ _ _ => ?_)
    | with_reducible apply mirrorShadow_keeps | with_reducible apply mapCores_keeps | with_reducible apply flushCombine_keeps
    | split
    | dsimp only

theorem execCombiningBufferTimeout_keeps {t₀ : State} (core : Fin 8) (s : State) (h₀ : Keeps t₀ s) :
    OutKeeps t₀ (execCombiningBufferTimeout core s) := by
  unfold execCombiningBufferTimeout
  repeat' first
    | with_reducible assumption
    | with_reducible exact fun _ => rfl
    | with_reducible exact fun _ _ => rfl
    | with_reducible exact fun _ => ⟨id, id⟩
    | (rename_i hq; have hq2 := congrArg Prod.snd hq; with_reducible dsimp only at hq2; subst hq2)
    | simp only [↓keeps_mk_iff]
    | with_reducible refine keeps_ite ?_ ?_
    | with_reducible refine outKeeps_ite ?_ ?_
    | with_reducible refine outKeeps_next.2 ?_
    | with_reducible refine keeps_ite2 ?_ ?_
    | with_reducible refine keeps_foldl ?_ (fun _ _ _ => ?_)
    | with_reducible apply mirrorShadow_keeps | with_reducible apply flushCombine_keeps
    | split
    | dsimp only

theorem execInterruptSourceAssert_keeps {t₀ : State} (core : Fin 8) (src : Fin 384) (s : State) (h₀ : Keeps t₀ s) :
    OutKeeps t₀ (execInterruptSourceAssert core src s) := by
  unfold execInterruptSourceAssert
  repeat' first
    | with_reducible assumption
    | with_reducible exact fun _ => rfl
    | with_reducible exact fun _ _ => rfl
    | with_reducible exact fun _ => ⟨id, id⟩
    | (rename_i hq; have hq2 := congrArg Prod.snd hq; with_reducible dsimp only at hq2; subst hq2)
    | simp only [↓keeps_mk_iff]
    | with_reducible refine keeps_ite ?_ ?_
    | with_reducible refine outKeeps_ite ?_ ?_
    | with_reducible refine outKeeps_next.2 ?_
    | with_reducible refine keeps_ite2 ?_ ?_
    | with_reducible refine keeps_foldl ?_ (fun _ _ _ => ?_)
    | with_reducible apply mirrorShadow_keeps | with_reducible apply mapCores_keeps
    | split
    | dsimp only

theorem execInterruptEntry_keeps {t₀ : State} (core : Fin 8) (s : State) (h₀ : Keeps t₀ s) :
    OutKeeps t₀ (execInterruptEntry core s) := by
  unfold execInterruptEntry
  repeat' first
    | with_reducible assumption
    | with_reducible exact fun _ => rfl
    | with_reducible exact fun _ _ => rfl
    | with_reducible exact fun _ => ⟨id, id⟩
    | (rename_i hq; have hq2 := congrArg Prod.snd hq; with_reducible dsimp only at hq2; subst hq2)
    | simp only [↓keeps_mk_iff]
    | with_reducible refine keeps_ite ?_ ?_
    | with_reducible refine outKeeps_ite ?_ ?_
    | with_reducible refine outKeeps_next.2 ?_
    | with_reducible refine keeps_ite2 ?_ ?_
    | with_reducible refine keeps_foldl ?_ (fun _ _ _ => ?_)
    | with_reducible apply mirrorShadow_keeps | with_reducible apply mapCores_keeps | with_reducible apply flushCombine_keeps | with_reducible apply voteBeats_keeps
    | split
    | dsimp only

theorem execLicEoiWrite_keeps {t₀ : State} (core : Fin 8) (value : BitVec 32) (s : State) (h₀ : Keeps t₀ s) :
    OutKeeps t₀ (execLicEoiWrite core value s) := by
  unfold execLicEoiWrite
  repeat' first
    | with_reducible assumption
    | with_reducible exact fun _ => rfl
    | with_reducible exact fun _ _ => rfl
    | with_reducible exact fun _ => ⟨id, id⟩
    | (rename_i hq; have hq2 := congrArg Prod.snd hq; with_reducible dsimp only at hq2; subst hq2)
    | simp only [↓keeps_mk_iff]
    | with_reducible refine keeps_ite ?_ ?_
    | with_reducible refine outKeeps_ite ?_ ?_
    | with_reducible refine outKeeps_next.2 ?_
    | with_reducible refine keeps_ite2 ?_ ?_
    | with_reducible refine keeps_foldl ?_ (fun _ _ _ => ?_)
    | with_reducible apply writeReg_keeps
    | split
    | dsimp only

theorem execLicSwsetWrite_keeps {t₀ : State} (core : Fin 8) (value : BitVec 32) (s : State) (h₀ : Keeps t₀ s) :
    OutKeeps t₀ (execLicSwsetWrite core value s) := by
  unfold execLicSwsetWrite
  repeat' first
    | with_reducible assumption
    | with_reducible exact fun _ => rfl
    | with_reducible exact fun _ _ => rfl
    | with_reducible exact fun _ => ⟨id, id⟩
    | (rename_i hq; have hq2 := congrArg Prod.snd hq; with_reducible dsimp only at hq2; subst hq2)
    | simp only [↓keeps_mk_iff]
    | with_reducible refine keeps_ite ?_ ?_
    | with_reducible refine outKeeps_ite ?_ ?_
    | with_reducible refine outKeeps_next.2 ?_
    | with_reducible refine keeps_ite2 ?_ ?_
    | with_reducible refine keeps_foldl ?_ (fun _ _ _ => ?_)
    | with_reducible apply writeReg_keeps
    | split
    | dsimp only

theorem execRegisterWrite_keeps {t₀ : State} (core : Fin 8) (addr : BitVec 40) (value : BitVec 32) (s : State) (h₀ : Keeps t₀ s) :
    OutKeeps t₀ (execRegisterWrite core addr value s) := by
  unfold execRegisterWrite
  repeat' first
    | with_reducible assumption
    | with_reducible exact fun _ => rfl
    | with_reducible exact fun _ _ => rfl
    | with_reducible exact fun _ => ⟨id, id⟩
    | (rename_i hq; have hq2 := congrArg Prod.snd hq; with_reducible dsimp only at hq2; subst hq2)
    | simp only [↓keeps_mk_iff]
    | with_reducible refine keeps_ite ?_ ?_
    | with_reducible refine outKeeps_ite ?_ ?_
    | with_reducible refine outKeeps_next.2 ?_
    | with_reducible refine keeps_ite2 ?_ ?_
    | with_reducible refine keeps_foldl ?_ (fun _ _ _ => ?_)
    | with_reducible apply writeReg_keeps
    | split
    | dsimp only

theorem execMirrorEntry_keeps {t₀ : State} (s : State) (h₀ : Keeps t₀ s) :
    OutKeeps t₀ (execMirrorEntry s) := by
  unfold execMirrorEntry
  repeat' first
    | with_reducible assumption
    | with_reducible exact fun _ => rfl
    | with_reducible exact fun _ _ => rfl
    | with_reducible exact fun _ => ⟨id, id⟩
    | (rename_i hq; have hq2 := congrArg Prod.snd hq; with_reducible dsimp only at hq2; subst hq2)
    | simp only [↓keeps_mk_iff]
    | with_reducible refine keeps_ite ?_ ?_
    | with_reducible refine outKeeps_ite ?_ ?_
    | with_reducible refine outKeeps_next.2 ?_
    | with_reducible refine keeps_ite2 ?_ ?_
    | with_reducible refine keeps_foldl ?_ (fun _ _ _ => ?_)
    | with_reducible apply mirrorShadow_keeps | with_reducible apply drainOne_keeps
    | split
    | dsimp only

theorem execLtmTimerStart_keeps {t₀ : State} (core : Fin 8) (timer : Fin 16) (ctl : BitVec 32) (s : State) (h₀ : Keeps t₀ s) :
    OutKeeps t₀ (execLtmTimerStart core timer ctl s) := by
  unfold execLtmTimerStart
  repeat' first
    | with_reducible assumption
    | with_reducible exact fun _ => rfl
    | with_reducible exact fun _ _ => rfl
    | with_reducible exact fun _ => ⟨id, id⟩
    | (rename_i hq; have hq2 := congrArg Prod.snd hq; with_reducible dsimp only at hq2; subst hq2)
    | simp only [↓keeps_mk_iff]
    | with_reducible refine keeps_ite ?_ ?_
    | with_reducible refine outKeeps_ite ?_ ?_
    | with_reducible refine outKeeps_next.2 ?_
    | with_reducible refine keeps_ite2 ?_ ?_
    | with_reducible refine keeps_foldl ?_ (fun _ _ _ => ?_)
    | with_reducible apply writeReg_keeps
    | split
    | dsimp only

theorem execLtmTimerExpiry_keeps {t₀ : State} (dt : Nat) (core : Fin 8) (timer : Fin 16) (s : State) (h₀ : Keeps t₀ s) :
    OutKeeps t₀ (execLtmTimerExpiry dt core timer s) := by
  unfold execLtmTimerExpiry
  repeat' first
    | with_reducible assumption
    | with_reducible exact fun _ => rfl
    | with_reducible exact fun _ _ => rfl
    | with_reducible exact fun _ => ⟨id, id⟩
    | (rename_i hq; have hq2 := congrArg Prod.snd hq; with_reducible dsimp only at hq2; subst hq2)
    | simp only [↓keeps_mk_iff]
    | with_reducible refine keeps_ite ?_ ?_
    | with_reducible refine outKeeps_ite ?_ ?_
    | with_reducible refine outKeeps_next.2 ?_
    | with_reducible refine keeps_ite2 ?_ ?_
    | with_reducible refine keeps_foldl ?_ (fun _ _ _ => ?_)
    | with_reducible apply advance_keeps | with_reducible apply mirrorShadow_keeps | with_reducible apply mapCores_keeps
    | split
    | dsimp only

theorem execLtmElaplRead_keeps {t₀ : State} (core : Fin 8) (d : Fin 32) (s : State) (h₀ : Keeps t₀ s) :
    OutKeeps t₀ (execLtmElaplRead core d s) := by
  unfold execLtmElaplRead
  repeat' first
    | with_reducible assumption
    | with_reducible exact fun _ => rfl
    | with_reducible exact fun _ _ => rfl
    | with_reducible exact fun _ => ⟨id, id⟩
    | (rename_i hq; have hq2 := congrArg Prod.snd hq; with_reducible dsimp only at hq2; subst hq2)
    | simp only [↓keeps_mk_iff]
    | with_reducible refine keeps_ite ?_ ?_
    | with_reducible refine outKeeps_ite ?_ ?_
    | with_reducible refine outKeeps_next.2 ?_
    | with_reducible refine keeps_ite2 ?_ ?_
    | with_reducible refine keeps_foldl ?_ (fun _ _ _ => ?_)
    | with_reducible apply readReg_keeps
    | split
    | dsimp only

theorem execLpcCntnlRead_keeps {t₀ : State} (core : Fin 8) (counter : Fin 16) (d : Fin 32) (s : State) (h₀ : Keeps t₀ s) :
    OutKeeps t₀ (execLpcCntnlRead core counter d s) := by
  unfold execLpcCntnlRead
  repeat' first
    | with_reducible assumption
    | with_reducible exact fun _ => rfl
    | with_reducible exact fun _ _ => rfl
    | with_reducible exact fun _ => ⟨id, id⟩
    | (rename_i hq; have hq2 := congrArg Prod.snd hq; with_reducible dsimp only at hq2; subst hq2)
    | simp only [↓keeps_mk_iff]
    | with_reducible refine keeps_ite ?_ ?_
    | with_reducible refine outKeeps_ite ?_ ?_
    | with_reducible refine outKeeps_next.2 ?_
    | with_reducible refine keeps_ite2 ?_ ?_
    | with_reducible refine keeps_foldl ?_ (fun _ _ _ => ?_)
    | with_reducible apply readReg_keeps
    | split
    | dsimp only

theorem execLpcCntnlWrite_keeps {t₀ : State} (core : Fin 8) (counter : Fin 16) (value : BitVec 32) (s : State) (h₀ : Keeps t₀ s) :
    OutKeeps t₀ (execLpcCntnlWrite core counter value s) := by
  unfold execLpcCntnlWrite
  repeat' first
    | with_reducible assumption
    | with_reducible exact fun _ => rfl
    | with_reducible exact fun _ _ => rfl
    | with_reducible exact fun _ => ⟨id, id⟩
    | (rename_i hq; have hq2 := congrArg Prod.snd hq; with_reducible dsimp only at hq2; subst hq2)
    | simp only [↓keeps_mk_iff]
    | with_reducible refine keeps_ite ?_ ?_
    | with_reducible refine outKeeps_ite ?_ ?_
    | with_reducible refine outKeeps_next.2 ?_
    | with_reducible refine keeps_ite2 ?_ ?_
    | with_reducible refine keeps_foldl ?_ (fun _ _ _ => ?_)
    | with_reducible apply writeReg_keeps
    | split
    | dsimp only

theorem execCounterOverflow_keeps {t₀ : State} (core : Fin 8) (counter : Fin 16) (events : BitVec 48) (s : State) (h₀ : Keeps t₀ s) :
    OutKeeps t₀ (execCounterOverflow core counter events s) := by
  unfold execCounterOverflow
  repeat' first
    | with_reducible assumption
    | with_reducible exact fun _ => rfl
    | with_reducible exact fun _ _ => rfl
    | with_reducible exact fun _ => ⟨id, id⟩
    | (rename_i hq; have hq2 := congrArg Prod.snd hq; with_reducible dsimp only at hq2; subst hq2)
    | simp only [↓keeps_mk_iff]
    | with_reducible refine keeps_ite ?_ ?_
    | with_reducible refine outKeeps_ite ?_ ?_
    | with_reducible refine outKeeps_next.2 ?_
    | with_reducible refine keeps_ite2 ?_ ?_
    | with_reducible refine keeps_foldl ?_ (fun _ _ _ => ?_)
    | with_reducible apply mirrorShadow_keeps | with_reducible apply mapCores_keeps
    | split
    | dsimp only

theorem execCtuTimensRead_keeps {t₀ : State} (core : Fin 8) (d : Fin 32) (s : State) (h₀ : Keeps t₀ s) :
    OutKeeps t₀ (execCtuTimensRead core d s) := by
  unfold execCtuTimensRead
  repeat' first
    | with_reducible assumption
    | with_reducible exact fun _ => rfl
    | with_reducible exact fun _ _ => rfl
    | with_reducible exact fun _ => ⟨id, id⟩
    | (rename_i hq; have hq2 := congrArg Prod.snd hq; with_reducible dsimp only at hq2; subst hq2)
    | simp only [↓keeps_mk_iff]
    | with_reducible refine keeps_ite ?_ ?_
    | with_reducible refine outKeeps_ite ?_ ?_
    | with_reducible refine outKeeps_next.2 ?_
    | with_reducible refine keeps_ite2 ?_ ?_
    | with_reducible refine keeps_foldl ?_ (fun _ _ _ => ?_)
    | with_reducible apply readReg_keeps
    | split
    | dsimp only

theorem execCtuFrclRead_keeps {t₀ : State} (core : Fin 8) (d : Fin 32) (s : State) (h₀ : Keeps t₀ s) :
    OutKeeps t₀ (execCtuFrclRead core d s) := by
  unfold execCtuFrclRead
  repeat' first
    | with_reducible assumption
    | with_reducible exact fun _ => rfl
    | with_reducible exact fun _ _ => rfl
    | with_reducible exact fun _ => ⟨id, id⟩
    | (rename_i hq; have hq2 := congrArg Prod.snd hq; with_reducible dsimp only at hq2; subst hq2)
    | simp only [↓keeps_mk_iff]
    | with_reducible refine keeps_ite ?_ ?_
    | with_reducible refine outKeeps_ite ?_ ?_
    | with_reducible refine outKeeps_next.2 ?_
    | with_reducible refine keeps_ite2 ?_ ?_
    | with_reducible refine keeps_foldl ?_ (fun _ _ _ => ?_)
    | with_reducible apply readReg_keeps
    | split
    | dsimp only

theorem execCtuBerrlRead_keeps {t₀ : State} (core : Fin 8) (d : Fin 32) (s : State) (h₀ : Keeps t₀ s) :
    OutKeeps t₀ (execCtuBerrlRead core d s) := by
  unfold execCtuBerrlRead
  repeat' first
    | with_reducible assumption
    | with_reducible exact fun _ => rfl
    | with_reducible exact fun _ _ => rfl
    | with_reducible exact fun _ => ⟨id, id⟩
    | (rename_i hq; have hq2 := congrArg Prod.snd hq; with_reducible dsimp only at hq2; subst hq2)
    | simp only [↓keeps_mk_iff]
    | with_reducible refine keeps_ite ?_ ?_
    | with_reducible refine outKeeps_ite ?_ ?_
    | with_reducible refine outKeeps_next.2 ?_
    | with_reducible refine keeps_ite2 ?_ ?_
    | with_reducible refine keeps_foldl ?_ (fun _ _ _ => ?_)
    | with_reducible apply readReg_keeps
    | split
    | dsimp only

theorem execCysTicklRead_keeps {t₀ : State} (core : Fin 8) (d : Fin 32) (s : State) (h₀ : Keeps t₀ s) :
    OutKeeps t₀ (execCysTicklRead core d s) := by
  unfold execCysTicklRead
  repeat' first
    | with_reducible assumption
    | with_reducible exact fun _ => rfl
    | with_reducible exact fun _ _ => rfl
    | with_reducible exact fun _ => ⟨id, id⟩
    | (rename_i hq; have hq2 := congrArg Prod.snd hq; with_reducible dsimp only at hq2; subst hq2)
    | simp only [↓keeps_mk_iff]
    | with_reducible refine keeps_ite ?_ ?_
    | with_reducible refine outKeeps_ite ?_ ?_
    | with_reducible refine outKeeps_next.2 ?_
    | with_reducible refine keeps_ite2 ?_ ?_
    | with_reducible refine keeps_foldl ?_ (fun _ _ _ => ?_)
    | with_reducible apply readReg_keeps
    | split
    | dsimp only

theorem execFbxOutWrite_keeps {t₀ : State} (core : Fin 8) (bank : Fin 3) (value : BitVec 32) (s : State) (h₀ : Keeps t₀ s) :
    OutKeeps t₀ (execFbxOutWrite core bank value s) := by
  unfold execFbxOutWrite
  repeat' first
    | with_reducible assumption
    | with_reducible exact fun _ => rfl
    | with_reducible exact fun _ _ => rfl
    | with_reducible exact fun _ => ⟨id, id⟩
    | (rename_i hq; have hq2 := congrArg Prod.snd hq; with_reducible dsimp only at hq2; subst hq2)
    | simp only [↓keeps_mk_iff]
    | with_reducible refine keeps_ite ?_ ?_
    | with_reducible refine outKeeps_ite ?_ ?_
    | with_reducible refine outKeeps_next.2 ?_
    | with_reducible refine keeps_ite2 ?_ ?_
    | with_reducible refine keeps_foldl ?_ (fun _ _ _ => ?_)
    | with_reducible apply writeReg_keeps
    | split
    | dsimp only

theorem execFbxFltclrWrite_keeps {t₀ : State} (core : Fin 8) (bank : Fin 3) (value : BitVec 32) (s : State) (h₀ : Keeps t₀ s) :
    OutKeeps t₀ (execFbxFltclrWrite core bank value s) := by
  unfold execFbxFltclrWrite
  repeat' first
    | with_reducible assumption
    | with_reducible exact fun _ => rfl
    | with_reducible exact fun _ _ => rfl
    | with_reducible exact fun _ => ⟨id, id⟩
    | (rename_i hq; have hq2 := congrArg Prod.snd hq; with_reducible dsimp only at hq2; subst hq2)
    | simp only [↓keeps_mk_iff]
    | with_reducible refine keeps_ite ?_ ?_
    | with_reducible refine outKeeps_ite ?_ ?_
    | with_reducible refine outKeeps_next.2 ?_
    | with_reducible refine keeps_ite2 ?_ ?_
    | with_reducible refine keeps_foldl ?_ (fun _ _ _ => ?_)
    | with_reducible apply writeReg_keeps
    | split
    | dsimp only

theorem execFbxEvt0Read_keeps {t₀ : State} (core : Fin 8) (bank : Fin 3) (d : Fin 32) (s : State) (h₀ : Keeps t₀ s) :
    OutKeeps t₀ (execFbxEvt0Read core bank d s) := by
  unfold execFbxEvt0Read
  repeat' first
    | with_reducible assumption
    | with_reducible exact fun _ => rfl
    | with_reducible exact fun _ _ => rfl
    | with_reducible exact fun _ => ⟨id, id⟩
    | (rename_i hq; have hq2 := congrArg Prod.snd hq; with_reducible dsimp only at hq2; subst hq2)
    | simp only [↓keeps_mk_iff]
    | with_reducible refine keeps_ite ?_ ?_
    | with_reducible refine outKeeps_ite ?_ ?_
    | with_reducible refine outKeeps_next.2 ?_
    | with_reducible refine keeps_ite2 ?_ ?_
    | with_reducible refine keeps_foldl ?_ (fun _ _ _ => ?_)
    | with_reducible apply readReg_keeps
    | split
    | dsimp only

theorem execBrgErr0Read_keeps {t₀ : State} (core : Fin 8) (d : Fin 32) (s : State) (h₀ : Keeps t₀ s) :
    OutKeeps t₀ (execBrgErr0Read core d s) := by
  unfold execBrgErr0Read
  repeat' first
    | with_reducible assumption
    | with_reducible exact fun _ => rfl
    | with_reducible exact fun _ _ => rfl
    | with_reducible exact fun _ => ⟨id, id⟩
    | (rename_i hq; have hq2 := congrArg Prod.snd hq; with_reducible dsimp only at hq2; subst hq2)
    | simp only [↓keeps_mk_iff]
    | with_reducible refine keeps_ite ?_ ?_
    | with_reducible refine outKeeps_ite ?_ ?_
    | with_reducible refine outKeeps_next.2 ?_
    | with_reducible refine keeps_ite2 ?_ ?_
    | with_reducible refine keeps_foldl ?_ (fun _ _ _ => ?_)
    | with_reducible apply readReg_keeps
    | split
    | dsimp only

theorem execBrgSyncRead_keeps {t₀ : State} (core : Fin 8) (d : Fin 32) (s : State) (h₀ : Keeps t₀ s) :
    OutKeeps t₀ (execBrgSyncRead core d s) := by
  unfold execBrgSyncRead
  repeat' first
    | with_reducible assumption
    | with_reducible exact fun _ => rfl
    | with_reducible exact fun _ _ => rfl
    | with_reducible exact fun _ => ⟨id, id⟩
    | (rename_i hq; have hq2 := congrArg Prod.snd hq; with_reducible dsimp only at hq2; subst hq2)
    | simp only [↓keeps_mk_iff]
    | with_reducible refine keeps_ite ?_ ?_
    | with_reducible refine outKeeps_ite ?_ ?_
    | with_reducible refine outKeeps_next.2 ?_
    | with_reducible refine keeps_ite2 ?_ ?_
    | with_reducible refine keeps_foldl ?_ (fun _ _ _ => ?_)
    | with_reducible apply readReg_keeps
    | split
    | dsimp only

theorem execBrgRegionWrite_keeps {t₀ : State} (core : Fin 8) (region : Fin 16) (word : RegionWord) (value : BitVec 32) (s : State) (h₀ : Keeps t₀ s) :
    OutKeeps t₀ (execBrgRegionWrite core region word value s) := by
  unfold execBrgRegionWrite
  repeat' first
    | with_reducible assumption
    | with_reducible exact fun _ => rfl
    | with_reducible exact fun _ _ => rfl
    | with_reducible exact fun _ => ⟨id, id⟩
    | (rename_i hq; have hq2 := congrArg Prod.snd hq; with_reducible dsimp only at hq2; subst hq2)
    | simp only [↓keeps_mk_iff]
    | with_reducible refine keeps_ite ?_ ?_
    | with_reducible refine outKeeps_ite ?_ ?_
    | with_reducible refine outKeeps_next.2 ?_
    | with_reducible refine keeps_ite2 ?_ ?_
    | with_reducible refine keeps_foldl ?_ (fun _ _ _ => ?_)
    | with_reducible apply writeReg_keeps
    | split
    | dsimp only

theorem execBrgIntstatClear_keeps {t₀ : State} (core : Fin 8) (value : BitVec 32) (s : State) (h₀ : Keeps t₀ s) :
    OutKeeps t₀ (execBrgIntstatClear core value s) := by
  unfold execBrgIntstatClear
  repeat' first
    | with_reducible assumption
    | with_reducible exact fun _ => rfl
    | with_reducible exact fun _ _ => rfl
    | with_reducible exact fun _ => ⟨id, id⟩
    | (rename_i hq; have hq2 := congrArg Prod.snd hq; with_reducible dsimp only at hq2; subst hq2)
    | simp only [↓keeps_mk_iff]
    | with_reducible refine keeps_ite ?_ ?_
    | with_reducible refine outKeeps_ite ?_ ?_
    | with_reducible refine outKeeps_next.2 ?_
    | with_reducible refine keeps_ite2 ?_ ?_
    | with_reducible refine keeps_foldl ?_ (fun _ _ _ => ?_)
    | with_reducible apply writeReg_keeps
    | split
    | dsimp only

theorem execLncTxSeqWrite_keeps {t₀ : State} (core : Fin 8) (slot : Fin 8) (value : BitVec 32) (s : State) (h₀ : Keeps t₀ s) :
    OutKeeps t₀ (execLncTxSeqWrite core slot value s) := by
  unfold execLncTxSeqWrite
  repeat' first
    | with_reducible assumption
    | with_reducible exact fun _ => rfl
    | with_reducible exact fun _ _ => rfl
    | with_reducible exact fun _ => ⟨id, id⟩
    | (rename_i hq; have hq2 := congrArg Prod.snd hq; with_reducible dsimp only at hq2; subst hq2)
    | simp only [↓keeps_mk_iff]
    | with_reducible refine keeps_ite ?_ ?_
    | with_reducible refine outKeeps_ite ?_ ?_
    | with_reducible refine outKeeps_next.2 ?_
    | with_reducible refine keeps_ite2 ?_ ?_
    | with_reducible refine keeps_foldl ?_ (fun _ _ _ => ?_)
    | with_reducible apply writeReg_keeps
    | split
    | dsimp only

theorem deliverAnswer_keeps {t₀ : State} (m : Option (Fin 8)) (a : Nat) (r : BusReply) (s : State) (h₀ : Keeps t₀ s) :
    Keeps t₀ (deliverAnswer m a r s) := by
  unfold deliverAnswer
  repeat' first
    | with_reducible assumption
    | with_reducible exact fun _ => rfl
    | with_reducible exact fun _ _ => rfl
    | with_reducible exact fun _ => ⟨id, id⟩
    | (rename_i hq; have hq2 := congrArg Prod.snd hq; with_reducible dsimp only at hq2; subst hq2)
    | simp only [↓keeps_mk_iff]
    | with_reducible refine keeps_ite ?_ ?_
    | with_reducible refine outKeeps_ite ?_ ?_
    | with_reducible refine outKeeps_next.2 ?_
    | with_reducible refine keeps_ite2 ?_ ?_
    | with_reducible refine keeps_foldl ?_ (fun _ _ _ => ?_)
    | with_reducible apply appFault_keeps | with_reducible apply mirrorShadow_keeps | with_reducible apply mapCores_keeps | with_reducible apply pushResponse_keeps
    | split
    | dsimp only

theorem syncDone_keeps {t₀ : State} (s : State) (h₀ : Keeps t₀ s) :
    Keeps t₀ (syncDone s) := by
  unfold syncDone
  repeat' first
    | with_reducible assumption
    | with_reducible exact fun _ => rfl
    | with_reducible exact fun _ _ => rfl
    | with_reducible exact fun _ => ⟨id, id⟩
    | (rename_i hq; have hq2 := congrArg Prod.snd hq; with_reducible dsimp only at hq2; subst hq2)
    | simp only [↓keeps_mk_iff]
    | with_reducible refine keeps_ite ?_ ?_
    | with_reducible refine outKeeps_ite ?_ ?_
    | with_reducible refine outKeeps_next.2 ?_
    | with_reducible refine keeps_ite2 ?_ ?_
    | with_reducible refine keeps_foldl ?_ (fun _ _ _ => ?_)
    | with_reducible apply setCore_keeps
    | split
    | dsimp only

theorem dropPosted_keeps {t₀ : State} (s : State) (h₀ : Keeps t₀ s) :
    Keeps t₀ (dropPosted s) := by
  unfold dropPosted
  repeat' first
    | with_reducible assumption
    | with_reducible exact fun _ => rfl
    | with_reducible exact fun _ _ => rfl
    | with_reducible exact fun _ => ⟨id, id⟩
    | (rename_i hq; have hq2 := congrArg Prod.snd hq; with_reducible dsimp only at hq2; subst hq2)
    | simp only [↓keeps_mk_iff]
    | with_reducible refine keeps_ite ?_ ?_
    | with_reducible refine outKeeps_ite ?_ ?_
    | with_reducible refine outKeeps_next.2 ?_
    | with_reducible refine keeps_ite2 ?_ ?_
    | with_reducible refine keeps_foldl ?_ (fun _ _ _ => ?_)
    | with_reducible apply setBrg_keeps
    | split
    | dsimp only

theorem execPostedWriteComplete_keeps {t₀ : State} (dt : Nat) (s : State) (h₀ : Keeps t₀ s) :
    OutKeeps t₀ (execPostedWriteComplete dt s) := by
  unfold execPostedWriteComplete
  repeat' first
    | with_reducible assumption
    | with_reducible exact fun _ => rfl
    | with_reducible exact fun _ _ => rfl
    | with_reducible exact fun _ => ⟨id, id⟩
    | (rename_i hq; have hq2 := congrArg Prod.snd hq; with_reducible dsimp only at hq2; subst hq2)
    | simp only [↓keeps_mk_iff]
    | with_reducible refine keeps_ite ?_ ?_
    | with_reducible refine outKeeps_ite ?_ ?_
    | with_reducible refine outKeeps_next.2 ?_
    | with_reducible refine keeps_ite2 ?_ ?_
    | with_reducible refine keeps_foldl ?_ (fun _ _ _ => ?_)
    | with_reducible apply advance_keeps | with_reducible apply dropPosted_keeps | with_reducible apply farError_keeps | with_reducible refine farWrite_keeps _ _ _ _ _ ?_ _ ‹_› | with_reducible apply syncDone_keeps
    | split
    | dsimp only

theorem execBrgPwerr_keeps {t₀ : State} (dt : Nat) (status : FarStatus) (s : State) (h₀ : Keeps t₀ s) :
    OutKeeps t₀ (execBrgPwerr dt status s) := by
  unfold execBrgPwerr
  repeat' first
    | with_reducible assumption
    | with_reducible exact fun _ => rfl
    | with_reducible exact fun _ _ => rfl
    | with_reducible exact fun _ => ⟨id, id⟩
    | (rename_i hq; have hq2 := congrArg Prod.snd hq; with_reducible dsimp only at hq2; subst hq2)
    | simp only [↓keeps_mk_iff]
    | with_reducible refine keeps_ite ?_ ?_
    | with_reducible refine outKeeps_ite ?_ ?_
    | with_reducible refine outKeeps_next.2 ?_
    | with_reducible refine keeps_ite2 ?_ ?_
    | with_reducible refine keeps_foldl ?_ (fun _ _ _ => ?_)
    | with_reducible apply advance_keeps | with_reducible apply syncDone_keeps | with_reducible apply farError_keeps | with_reducible apply dropPosted_keeps
    | split
    | dsimp only

theorem dropRead_keeps {t₀ : State} (r : FarRead) (s : State) (h₀ : Keeps t₀ s) :
    Keeps t₀ (dropRead r s) := by
  unfold dropRead
  repeat' first
    | with_reducible assumption
    | with_reducible exact fun _ => rfl
    | with_reducible exact fun _ _ => rfl
    | with_reducible exact fun _ => ⟨id, id⟩
    | (rename_i hq; have hq2 := congrArg Prod.snd hq; with_reducible dsimp only at hq2; subst hq2)
    | simp only [↓keeps_mk_iff]
    | with_reducible refine keeps_ite ?_ ?_
    | with_reducible refine outKeeps_ite ?_ ?_
    | with_reducible refine outKeeps_next.2 ?_
    | with_reducible refine keeps_ite2 ?_ ?_
    | with_reducible refine keeps_foldl ?_ (fun _ _ _ => ?_)
    | with_reducible apply setBrg_keeps
    | split
    | dsimp only

theorem farFail_keeps {t₀ : State} (r : FarRead) (s : State) (h₀ : Keeps t₀ s) :
    Keeps t₀ (farFail r s) := by
  unfold farFail
  repeat' first
    | with_reducible assumption
    | with_reducible exact fun _ => rfl
    | with_reducible exact fun _ _ => rfl
    | with_reducible exact fun _ => ⟨id, id⟩
    | (rename_i hq; have hq2 := congrArg Prod.snd hq; with_reducible dsimp only at hq2; subst hq2)
    | simp only [↓keeps_mk_iff]
    | with_reducible refine keeps_ite ?_ ?_
    | with_reducible refine outKeeps_ite ?_ ?_
    | with_reducible refine outKeeps_next.2 ?_
    | with_reducible refine keeps_ite2 ?_ ?_
    | with_reducible refine keeps_foldl ?_ (fun _ _ _ => ?_)
    | with_reducible apply drawWord_keeps | with_reducible apply deliverAnswer_keeps | with_reducible apply busError_keeps
    | split
    | dsimp only

theorem farLine_keeps {t₀ : State} (base n : Nat) (s : State) (h₀ : Keeps t₀ s) :
    Keeps t₀ (farLine base n s).2 := by
  induction n generalizing s with
  | zero => exact h₀
  | succ n ih => exact ih _ (farRead_keeps _ _ _ h₀)

theorem addLine_keeps {t₀ : State} (base region : Nat) (s : State) (h₀ : Keeps t₀ s) :
    Keeps t₀ (addLine base region s) := by
  unfold addLine
  repeat' first
    | with_reducible assumption
    | with_reducible exact fun _ => rfl
    | with_reducible exact fun _ _ => rfl
    | with_reducible exact fun _ => ⟨id, id⟩
    | (rename_i hq; have hq2 := congrArg Prod.snd hq; with_reducible dsimp only at hq2; subst hq2)
    | simp only [↓keeps_mk_iff]
    | with_reducible refine keeps_ite ?_ ?_
    | with_reducible refine outKeeps_ite ?_ ?_
    | with_reducible refine outKeeps_next.2 ?_
    | with_reducible refine keeps_ite2 ?_ ?_
    | with_reducible refine keeps_foldl ?_ (fun _ _ _ => ?_)
    | with_reducible apply dropLine_keeps | with_reducible apply farLine_keeps | with_reducible apply setBrg_keeps
    | split
    | dsimp only

theorem prefetchRead_keeps {t₀ : State} (r : FarRead) (region : Nat) (s : State) (h₀ : Keeps t₀ s) :
    Keeps t₀ (prefetchRead r region s).2 := by
  unfold prefetchRead
  repeat' first
    | with_reducible assumption
    | with_reducible exact fun _ => rfl
    | with_reducible exact fun _ _ => rfl
    | with_reducible exact fun _ => ⟨id, id⟩
    | (rename_i hq; have hq2 := congrArg Prod.snd hq; with_reducible dsimp only at hq2; subst hq2)
    | simp only [↓keeps_mk_iff]
    | with_reducible refine keeps_ite ?_ ?_
    | with_reducible refine outKeeps_ite ?_ ?_
    | with_reducible refine outKeeps_next.2 ?_
    | with_reducible refine keeps_ite2 ?_ ?_
    | with_reducible refine keeps_foldl ?_ (fun _ _ _ => ?_)
    | with_reducible apply addLine_keeps | with_reducible apply setBrg_keeps | with_reducible apply farRead_keeps
    | split
    | dsimp only

theorem execFarSideReadResponse_keeps {t₀ : State} (dt : Nat) (failed : Bool) (s : State) (h₀ : Keeps t₀ s) :
    OutKeeps t₀ (execFarSideReadResponse dt failed s) := by
  unfold execFarSideReadResponse
  repeat' first
    | with_reducible assumption
    | with_reducible exact fun _ => rfl
    | with_reducible exact fun _ _ => rfl
    | with_reducible exact fun _ => ⟨id, id⟩
    | (rename_i hq; have hq2 := congrArg Prod.snd hq; with_reducible dsimp only at hq2; subst hq2)
    | simp only [↓keeps_mk_iff]
    | with_reducible refine keeps_ite ?_ ?_
    | with_reducible refine outKeeps_ite ?_ ?_
    | with_reducible refine outKeeps_next.2 ?_
    | with_reducible refine keeps_ite2 ?_ ?_
    | with_reducible refine keeps_foldl ?_ (fun _ _ _ => ?_)
    | with_reducible apply advance_keeps | with_reducible apply dropRead_keeps | with_reducible apply farFail_keeps | with_reducible refine farWrite_keeps _ _ _ _ _ ?_ _ ‹_› | with_reducible apply deliverAnswer_keeps | with_reducible apply prefetchRead_keeps | with_reducible apply farRead_keeps
    | split
    | dsimp only

theorem execFarSideReadTimeout_keeps {t₀ : State} (dt : Nat) (s : State) (h₀ : Keeps t₀ s) :
    OutKeeps t₀ (execFarSideReadTimeout dt s) := by
  unfold execFarSideReadTimeout
  repeat' first
    | with_reducible assumption
    | with_reducible exact fun _ => rfl
    | with_reducible exact fun _ _ => rfl
    | with_reducible exact fun _ => ⟨id, id⟩
    | (rename_i hq; have hq2 := congrArg Prod.snd hq; with_reducible dsimp only at hq2; subst hq2)
    | simp only [↓keeps_mk_iff]
    | with_reducible refine keeps_ite ?_ ?_
    | with_reducible refine outKeeps_ite ?_ ?_
    | with_reducible refine outKeeps_next.2 ?_
    | with_reducible refine keeps_ite2 ?_ ?_
    | with_reducible refine keeps_foldl ?_ (fun _ _ _ => ?_)
    | with_reducible apply advance_keeps | with_reducible apply farFail_keeps | with_reducible apply dropRead_keeps
    | split
    | dsimp only

theorem execBrgTagFree_keeps {t₀ : State} (dt : Nat) (s : State) (h₀ : Keeps t₀ s) :
    OutKeeps t₀ (execBrgTagFree dt s) := by
  unfold execBrgTagFree
  repeat' first
    | with_reducible assumption
    | with_reducible exact fun _ => rfl
    | with_reducible exact fun _ _ => rfl
    | with_reducible exact fun _ => ⟨id, id⟩
    | (rename_i hq; have hq2 := congrArg Prod.snd hq; with_reducible dsimp only at hq2; subst hq2)
    | simp only [↓keeps_mk_iff]
    | with_reducible refine keeps_ite ?_ ?_
    | with_reducible refine outKeeps_ite ?_ ?_
    | with_reducible refine outKeeps_next.2 ?_
    | with_reducible refine keeps_ite2 ?_ ?_
    | with_reducible refine keeps_foldl ?_ (fun _ _ _ => ?_)
    | with_reducible apply advance_keeps | with_reducible apply setBrg_keeps | with_reducible apply brgAccess_keeps | with_reducible apply deliverAnswer_keeps
    | split
    | dsimp only

theorem execBrgSemExpired_keeps {t₀ : State} (dt : Nat) (region : Fin 16) (s : State) (h₀ : Keeps t₀ s) :
    OutKeeps t₀ (execBrgSemExpired dt region s) := by
  unfold execBrgSemExpired
  repeat' first
    | with_reducible assumption
    | with_reducible exact fun _ => rfl
    | with_reducible exact fun _ _ => rfl
    | with_reducible exact fun _ => ⟨id, id⟩
    | (rename_i hq; have hq2 := congrArg Prod.snd hq; with_reducible dsimp only at hq2; subst hq2)
    | simp only [↓keeps_mk_iff]
    | with_reducible refine keeps_ite ?_ ?_
    | with_reducible refine outKeeps_ite ?_ ?_
    | with_reducible refine outKeeps_next.2 ?_
    | with_reducible refine keeps_ite2 ?_ ?_
    | with_reducible refine keeps_foldl ?_ (fun _ _ _ => ?_)
    | with_reducible apply advance_keeps | with_reducible apply raise_keeps | with_reducible apply record_keeps | with_reducible apply setBrg_keeps
    | split
    | dsimp only

theorem execPrefetchExpiry_keeps {t₀ : State} (dt : Nat) (s : State) (h₀ : Keeps t₀ s) :
    OutKeeps t₀ (execPrefetchExpiry dt s) := by
  unfold execPrefetchExpiry
  repeat' first
    | with_reducible assumption
    | with_reducible exact fun _ => rfl
    | with_reducible exact fun _ _ => rfl
    | with_reducible exact fun _ => ⟨id, id⟩
    | (rename_i hq; have hq2 := congrArg Prod.snd hq; with_reducible dsimp only at hq2; subst hq2)
    | simp only [↓keeps_mk_iff]
    | with_reducible refine keeps_ite ?_ ?_
    | with_reducible refine outKeeps_ite ?_ ?_
    | with_reducible refine outKeeps_next.2 ?_
    | with_reducible refine keeps_ite2 ?_ ?_
    | with_reducible refine keeps_foldl ?_ (fun _ _ _ => ?_)
    | with_reducible apply advance_keeps | with_reducible apply dropLine_keeps
    | split
    | dsimp only

theorem execForwardedInterruptEdge_keeps {t₀ : State} (block : FarBlock) (s : State) (h₀ : Keeps t₀ s) :
    OutKeeps t₀ (execForwardedInterruptEdge block s) := by
  unfold execForwardedInterruptEdge
  repeat' first
    | with_reducible assumption
    | with_reducible exact fun _ => rfl
    | with_reducible exact fun _ _ => rfl
    | with_reducible exact fun _ => ⟨id, id⟩
    | (rename_i hq; have hq2 := congrArg Prod.snd hq; with_reducible dsimp only at hq2; subst hq2)
    | simp only [↓keeps_mk_iff]
    | with_reducible refine keeps_ite ?_ ?_
    | with_reducible refine outKeeps_ite ?_ ?_
    | with_reducible refine outKeeps_next.2 ?_
    | with_reducible refine keeps_ite2 ?_ ?_
    | with_reducible refine keeps_foldl ?_ (fun _ _ _ => ?_)
    | with_reducible apply raise_keeps
    | split
    | dsimp only

theorem execRecEv3Write_keeps {t₀ : State} (value : BitVec 32) (s : State) (h₀ : Keeps t₀ s) :
    OutKeeps t₀ (execRecEv3Write value s) := by
  unfold execRecEv3Write
  repeat' first
    | with_reducible assumption
    | with_reducible exact fun _ => rfl
    | with_reducible exact fun _ _ => rfl
    | with_reducible exact fun _ => ⟨id, id⟩
    | (rename_i hq; have hq2 := congrArg Prod.snd hq; with_reducible dsimp only at hq2; subst hq2)
    | simp only [↓keeps_mk_iff]
    | with_reducible refine keeps_ite ?_ ?_
    | with_reducible refine outKeeps_ite ?_ ?_
    | with_reducible refine outKeeps_next.2 ?_
    | with_reducible refine keeps_ite2 ?_ ?_
    | with_reducible refine keeps_foldl ?_ (fun _ _ _ => ?_)
    | with_reducible apply recEvWrite_keeps
    | split
    | dsimp only

theorem execKlmVerdict7Write_keeps {t₀ : State} (value : BitVec 32) (s : State) (h₀ : Keeps t₀ s) :
    OutKeeps t₀ (execKlmVerdict7Write value s) := by
  unfold execKlmVerdict7Write
  repeat' first
    | with_reducible assumption
    | with_reducible exact fun _ => rfl
    | with_reducible exact fun _ _ => rfl
    | with_reducible exact fun _ => ⟨id, id⟩
    | (rename_i hq; have hq2 := congrArg Prod.snd hq; with_reducible dsimp only at hq2; subst hq2)
    | simp only [↓keeps_mk_iff]
    | with_reducible refine keeps_ite ?_ ?_
    | with_reducible refine outKeeps_ite ?_ ?_
    | with_reducible refine outKeeps_next.2 ?_
    | with_reducible refine keeps_ite2 ?_ ?_
    | with_reducible refine keeps_foldl ?_ (fun _ _ _ => ?_)
    | with_reducible apply verdictWrite_keeps
    | split
    | dsimp only

theorem execCfdTpdotrigWrite_keeps {t₀ : State} (value : BitVec 32) (s : State) (h₀ : Keeps t₀ s) :
    OutKeeps t₀ (execCfdTpdotrigWrite value s) := by
  unfold execCfdTpdotrigWrite
  repeat' first
    | with_reducible assumption
    | with_reducible exact fun _ => rfl
    | with_reducible exact fun _ _ => rfl
    | with_reducible exact fun _ => ⟨id, id⟩
    | (rename_i hq; have hq2 := congrArg Prod.snd hq; with_reducible dsimp only at hq2; subst hq2)
    | simp only [↓keeps_mk_iff]
    | with_reducible refine keeps_ite ?_ ?_
    | with_reducible refine outKeeps_ite ?_ ?_
    | with_reducible refine outKeeps_next.2 ?_
    | with_reducible refine keeps_ite2 ?_ ?_
    | with_reducible refine keeps_foldl ?_ (fun _ _ _ => ?_)
    | with_reducible apply tpdoTrig_keeps
    | split
    | dsimp only

theorem setBoot_keeps {t₀ : State} (f : Boot → Boot) (s : State) (h₀ : Keeps t₀ s) :
    Keeps t₀ (setBoot f s) := by
  unfold setBoot
  repeat' first
    | with_reducible assumption
    | with_reducible exact fun _ => rfl
    | with_reducible exact fun _ _ => rfl
    | with_reducible exact fun _ => ⟨id, id⟩
    | (rename_i hq; have hq2 := congrArg Prod.snd hq; with_reducible dsimp only at hq2; subst hq2)
    | simp only [↓keeps_mk_iff]
    | with_reducible refine keeps_ite ?_ ?_
    | with_reducible refine outKeeps_ite ?_ ?_
    | with_reducible refine outKeeps_next.2 ?_
    | with_reducible refine keeps_ite2 ?_ ?_
    | with_reducible refine keeps_foldl ?_ (fun _ _ _ => ?_)
    | split
    | dsimp only

theorem setPwr_keeps {t₀ : State} (f : Power → Power) (s : State) (h₀ : Keeps t₀ s) :
    Keeps t₀ (setPwr f s) := by
  unfold setPwr
  repeat' first
    | with_reducible assumption
    | with_reducible exact fun _ => rfl
    | with_reducible exact fun _ _ => rfl
    | with_reducible exact fun _ => ⟨id, id⟩
    | (rename_i hq; have hq2 := congrArg Prod.snd hq; with_reducible dsimp only at hq2; subst hq2)
    | simp only [↓keeps_mk_iff]
    | with_reducible refine keeps_ite ?_ ?_
    | with_reducible refine outKeeps_ite ?_ ?_
    | with_reducible refine outKeeps_next.2 ?_
    | with_reducible refine keeps_ite2 ?_ ?_
    | with_reducible refine keeps_foldl ?_ (fun _ _ _ => ?_)
    | split
    | dsimp only

theorem setKiln_keeps {t₀ : State} (f : Kiln → Kiln) (s : State) (h₀ : Keeps t₀ s) :
    Keeps t₀ (setKiln f s) := by
  unfold setKiln
  repeat' first
    | with_reducible assumption
    | with_reducible exact fun _ => rfl
    | with_reducible exact fun _ _ => rfl
    | with_reducible exact fun _ => ⟨id, id⟩
    | (rename_i hq; have hq2 := congrArg Prod.snd hq; with_reducible dsimp only at hq2; subst hq2)
    | simp only [↓keeps_mk_iff]
    | with_reducible refine keeps_ite ?_ ?_
    | with_reducible refine outKeeps_ite ?_ ?_
    | with_reducible refine outKeeps_next.2 ?_
    | with_reducible refine keeps_ite2 ?_ ?_
    | with_reducible refine keeps_foldl ?_ (fun _ _ _ => ?_)
    | split
    | dsimp only

theorem abandonFw_keeps {t₀ : State} (s : State) (h₀ : Keeps t₀ s) :
    Keeps t₀ (abandonFw s) := by
  unfold abandonFw
  repeat' first
    | with_reducible assumption
    | with_reducible exact fun _ => rfl
    | with_reducible exact fun _ _ => rfl
    | with_reducible exact fun _ => ⟨id, id⟩
    | (rename_i hq; have hq2 := congrArg Prod.snd hq; with_reducible dsimp only at hq2; subst hq2)
    | simp only [↓keeps_mk_iff]
    | with_reducible refine keeps_ite ?_ ?_
    | with_reducible refine outKeeps_ite ?_ ?_
    | with_reducible refine outKeeps_next.2 ?_
    | with_reducible refine keeps_ite2 ?_ ?_
    | with_reducible refine keeps_foldl ?_ (fun _ _ _ => ?_)
    | with_reducible apply record_keeps | with_reducible apply setBoot_keeps
    | split
    | dsimp only

theorem abandonApp_keeps {t₀ : State} (s : State) (h₀ : Keeps t₀ s) :
    Keeps t₀ (abandonApp s) := by
  unfold abandonApp
  repeat' first
    | with_reducible assumption
    | with_reducible exact fun _ => rfl
    | with_reducible exact fun _ _ => rfl
    | with_reducible exact fun _ => ⟨id, id⟩
    | (rename_i hq; have hq2 := congrArg Prod.snd hq; with_reducible dsimp only at hq2; subst hq2)
    | simp only [↓keeps_mk_iff]
    | with_reducible refine keeps_ite ?_ ?_
    | with_reducible refine outKeeps_ite ?_ ?_
    | with_reducible refine outKeeps_next.2 ?_
    | with_reducible refine keeps_ite2 ?_ ?_
    | with_reducible refine keeps_foldl ?_ (fun _ _ _ => ?_)
    | with_reducible apply record_keeps | with_reducible apply setBoot_keeps
    | split
    | dsimp only

theorem abandonSched_keeps {t₀ : State} (s : State) (h₀ : Keeps t₀ s) :
    Keeps t₀ (abandonSched s) := by
  unfold abandonSched
  repeat' first
    | with_reducible assumption
    | with_reducible exact fun _ => rfl
    | with_reducible exact fun _ _ => rfl
    | with_reducible exact fun _ => ⟨id, id⟩
    | (rename_i hq; have hq2 := congrArg Prod.snd hq; with_reducible dsimp only at hq2; subst hq2)
    | simp only [↓keeps_mk_iff]
    | with_reducible refine keeps_ite ?_ ?_
    | with_reducible refine outKeeps_ite ?_ ?_
    | with_reducible refine outKeeps_next.2 ?_
    | with_reducible refine keeps_ite2 ?_ ?_
    | with_reducible refine keeps_foldl ?_ (fun _ _ _ => ?_)
    | with_reducible apply record_keeps | with_reducible apply setBoot_keeps
    | split
    | dsimp only

theorem abandonAll_keeps {t₀ : State} (s : State) (h₀ : Keeps t₀ s) :
    Keeps t₀ (abandonAll s) := by
  unfold abandonAll
  repeat' first
    | with_reducible assumption
    | with_reducible exact fun _ => rfl
    | with_reducible exact fun _ _ => rfl
    | with_reducible exact fun _ => ⟨id, id⟩
    | (rename_i hq; have hq2 := congrArg Prod.snd hq; with_reducible dsimp only at hq2; subst hq2)
    | simp only [↓keeps_mk_iff]
    | with_reducible refine keeps_ite ?_ ?_
    | with_reducible refine outKeeps_ite ?_ ?_
    | with_reducible refine outKeeps_next.2 ?_
    | with_reducible refine keeps_ite2 ?_ ?_
    | with_reducible refine keeps_foldl ?_ (fun _ _ _ => ?_)
    | with_reducible apply abandonSched_keeps | with_reducible apply abandonApp_keeps | with_reducible apply abandonFw_keeps
    | split
    | dsimp only

theorem blocksFresh_keeps {t₀ : State} (kind : Nat) (s : State) (h₀ : Keeps t₀ s) :
    Keeps t₀ (blocksFresh kind s) := by
  unfold blocksFresh
  exact keeps_mk (fun x => have y := (memWf_iff s).1 x; ⟨rfl, y.2.1, rfl, rfl, y.2.2.2.2⟩) id h₀

theorem domainsOff_keeps {t₀ : State} (s : State) (h₀ : Keeps t₀ s) : Keeps t₀ (domainsOff s) := by
  unfold domainsOff
  have h1 := busLeave_keeps s h₀
  dsimp only
  refine keeps_mk (fun x => ?_) id h1
  have y := (memWf_iff _).1 x
  refine ⟨Memory.wf_filter _ y.1, y.2.1, rfl, rfl, fun i => ?_⟩
  simp only [Fin.getElem_fin, Vector.getElem_replicate]
  rfl

theorem domainRamp_keeps {t₀ : State} (s : State) (h₀ : Keeps t₀ s) :
    Keeps t₀ (domainRamp s) := by
  unfold domainRamp
  repeat' first
    | with_reducible assumption
    | with_reducible exact fun _ => rfl
    | with_reducible exact fun _ _ => rfl
    | with_reducible exact fun _ => ⟨id, id⟩
    | (rename_i hq; have hq2 := congrArg Prod.snd hq; with_reducible dsimp only at hq2; subst hq2)
    | simp only [↓keeps_mk_iff]
    | with_reducible refine keeps_ite ?_ ?_
    | with_reducible refine outKeeps_ite ?_ ?_
    | with_reducible refine outKeeps_next.2 ?_
    | with_reducible refine keeps_ite2 ?_ ?_
    | with_reducible refine keeps_foldl ?_ (fun _ _ _ => ?_)
    | split
    | dsimp only

theorem networksOpen_keeps {t₀ : State} (s : State) (h₀ : Keeps t₀ s) :
    Keeps t₀ (networksOpen s) := by
  unfold networksOpen
  repeat' first
    | with_reducible assumption
    | with_reducible exact fun _ => rfl
    | with_reducible exact fun _ _ => rfl
    | with_reducible exact fun _ => ⟨id, id⟩
    | (rename_i hq; have hq2 := congrArg Prod.snd hq; with_reducible dsimp only at hq2; subst hq2)
    | simp only [↓keeps_mk_iff]
    | with_reducible refine keeps_ite ?_ ?_
    | with_reducible refine outKeeps_ite ?_ ?_
    | with_reducible refine outKeeps_next.2 ?_
    | with_reducible refine keeps_ite2 ?_ ?_
    | with_reducible refine keeps_foldl ?_ (fun _ _ _ => ?_)
    | split
    | dsimp only

theorem leaveForReset_keeps {t₀ : State} (cause : Nat) (s : State) (h₀ : Keeps t₀ s) :
    Keeps t₀ (leaveForReset cause s) := by
  unfold leaveForReset
  repeat' first
    | with_reducible assumption
    | with_reducible exact fun _ => rfl
    | with_reducible exact fun _ _ => rfl
    | with_reducible exact fun _ => ⟨id, id⟩
    | (rename_i hq; have hq2 := congrArg Prod.snd hq; with_reducible dsimp only at hq2; subst hq2)
    | simp only [↓keeps_mk_iff]
    | with_reducible refine keeps_ite ?_ ?_
    | with_reducible refine outKeeps_ite ?_ ?_
    | with_reducible refine outKeeps_next.2 ?_
    | with_reducible refine keeps_ite2 ?_ ?_
    | with_reducible refine keeps_foldl ?_ (fun _ _ _ => ?_)
    | with_reducible apply leaveRun_keeps | with_reducible apply setVote_keeps | with_reducible apply twinHold_keeps
    | split
    | dsimp only

theorem twinFiring_keeps {t₀ : State} (s : State) (h₀ : Keeps t₀ s) :
    Keeps t₀ (twinFiring s) := by
  unfold twinFiring
  repeat' first
    | with_reducible assumption
    | with_reducible exact fun _ => rfl
    | with_reducible exact fun _ _ => rfl
    | with_reducible exact fun _ => ⟨id, id⟩
    | (rename_i hq; have hq2 := congrArg Prod.snd hq; with_reducible dsimp only at hq2; subst hq2)
    | simp only [↓keeps_mk_iff]
    | with_reducible refine keeps_ite ?_ ?_
    | with_reducible refine outKeeps_ite ?_ ?_
    | with_reducible refine outKeeps_next.2 ?_
    | with_reducible refine keeps_ite2 ?_ ?_
    | with_reducible refine keeps_foldl ?_ (fun _ _ _ => ?_)
    | with_reducible apply twinRole_keeps
    | split
    | dsimp only

theorem enterFiring_keeps {t₀ : State} (cause : Nat) (s : State) (h₀ : Keeps t₀ s) :
    Keeps t₀ (enterFiring cause s) := by
  unfold enterFiring
  repeat' first
    | with_reducible assumption
    | with_reducible exact fun _ => rfl
    | with_reducible exact fun _ _ => rfl
    | with_reducible exact fun _ => ⟨id, id⟩
    | (rename_i hq; have hq2 := congrArg Prod.snd hq; with_reducible dsimp only at hq2; subst hq2)
    | simp only [↓keeps_mk_iff]
    | with_reducible refine keeps_ite ?_ ?_
    | with_reducible refine outKeeps_ite ?_ ?_
    | with_reducible refine outKeeps_next.2 ?_
    | with_reducible refine keeps_ite2 ?_ ?_
    | with_reducible refine keeps_foldl ?_ (fun _ _ _ => ?_)
    | with_reducible apply setModState_keeps | with_reducible apply record_keeps | with_reducible apply twinFiring_keeps
    | split
    | dsimp only

theorem moduleReset_keeps {t₀ : State} (kind detail : Nat) (s : State) (h₀ : Keeps t₀ s) :
    Keeps t₀ (moduleReset kind detail s) := by
  unfold moduleReset
  repeat' first
    | with_reducible assumption
    | with_reducible exact fun _ => rfl
    | with_reducible exact fun _ _ => rfl
    | with_reducible exact fun _ => ⟨id, id⟩
    | (rename_i hq; have hq2 := congrArg Prod.snd hq; with_reducible dsimp only at hq2; subst hq2)
    | simp only [↓keeps_mk_iff]
    | with_reducible refine keeps_ite ?_ ?_
    | with_reducible refine outKeeps_ite ?_ ?_
    | with_reducible refine outKeeps_next.2 ?_
    | with_reducible refine keeps_ite2 ?_ ?_
    | with_reducible refine keeps_foldl ?_ (fun _ _ _ => ?_)
    | with_reducible apply banksReset_keeps | with_reducible apply leaveForReset_keeps | with_reducible apply abandonAll_keeps | with_reducible apply setPwr_keeps | with_reducible apply blocksFresh_keeps | with_reducible apply enterFiring_keeps
    | split
    | dsimp only

theorem toCold_keeps {t₀ : State} (kind detail : Nat) (s : State) (h₀ : Keeps t₀ s) :
    Keeps t₀ (toCold kind detail s) := by
  unfold toCold
  refine keeps_mk (fun x => ?_) (fun _ => Nat.zero_le _) h₀
  have y := (memWf_iff s).1 x
  refine ⟨rfl, y.2.1, rfl, rfl, fun i => ?_⟩
  show Memory.wf (Vector.replicate 8 [])[i] = true
  simp only [Fin.getElem_fin, Vector.getElem_replicate]
  rfl

theorem kilnCountsLost_keeps {t₀ : State} (s : State) (h₀ : Keeps t₀ s) :
    Keeps t₀ (kilnCountsLost s) := by
  unfold kilnCountsLost
  repeat' first
    | with_reducible assumption
    | with_reducible exact fun _ => rfl
    | with_reducible exact fun _ _ => rfl
    | with_reducible exact fun _ => ⟨id, id⟩
    | (rename_i hq; have hq2 := congrArg Prod.snd hq; with_reducible dsimp only at hq2; subst hq2)
    | simp only [↓keeps_mk_iff]
    | with_reducible refine keeps_ite ?_ ?_
    | with_reducible refine outKeeps_ite ?_ ?_
    | with_reducible refine outKeeps_next.2 ?_
    | with_reducible refine keeps_ite2 ?_ ?_
    | with_reducible refine keeps_foldl ?_ (fun _ _ _ => ?_)
    | split
    | dsimp only

theorem writeSections_wf (a : AppImage) (m : List Host.Cell) (h : Memory.wf m = true) :
    Memory.wf (writeSections a m) = true := by
  unfold writeSections
  generalize a.sections.filter Section.loaded = l
  induction l generalizing m with
  | nil => exact h
  | cons x l ih => exact ih _ (Memory.wf_memWrite _ _ h)

theorem loadSections_keeps {t₀ : State} (a : AppImage) (ls : List (Fin 4)) (s : State) (h₀ : Keeps t₀ s) :
    Keeps t₀ (loadSections a ls s) := by
  unfold loadSections
  apply markPages_keeps
  refine keeps_foldl h₀ (fun l u hu => ?_)
  exact keeps_mems (fun h => wf_mems_set h (writeSections_wf a _ (h _))) rfl rfl rfl rfl rfl hu

theorem takeImage_keeps {t₀ : State} (a : AppImage) (s : State) (h₀ : Keeps t₀ s) :
    Keeps t₀ (takeImage a s) := by
  unfold takeImage
  repeat' first
    | with_reducible assumption
    | with_reducible exact fun _ => rfl
    | with_reducible exact fun _ _ => rfl
    | with_reducible exact fun _ => ⟨id, id⟩
    | (rename_i hq; have hq2 := congrArg Prod.snd hq; with_reducible dsimp only at hq2; subst hq2)
    | simp only [↓keeps_mk_iff]
    | with_reducible refine keeps_ite ?_ ?_
    | with_reducible refine outKeeps_ite ?_ ?_
    | with_reducible refine outKeeps_next.2 ?_
    | with_reducible refine keeps_ite2 ?_ ?_
    | with_reducible refine keeps_foldl ?_ (fun _ _ _ => ?_)
    | split
    | dsimp only

theorem imageResult_keeps {t₀ : State} (code : Nat) (s : State) (h₀ : Keeps t₀ s) :
    Keeps t₀ (imageResult code s) := by
  unfold imageResult
  repeat' first
    | with_reducible assumption
    | with_reducible exact fun _ => rfl
    | with_reducible exact fun _ _ => rfl
    | with_reducible exact fun _ => ⟨id, id⟩
    | (rename_i hq; have hq2 := congrArg Prod.snd hq; with_reducible dsimp only at hq2; subst hq2)
    | simp only [↓keeps_mk_iff]
    | with_reducible refine keeps_ite ?_ ?_
    | with_reducible refine outKeeps_ite ?_ ?_
    | with_reducible refine outKeeps_next.2 ?_
    | with_reducible refine keeps_ite2 ?_ ?_
    | with_reducible refine keeps_foldl ?_ (fun _ _ _ => ?_)
    | split
    | dsimp only

theorem imageRefuse_keeps {t₀ : State} (code index : Nat) (f : List Byte) (need avail : Nat) (s : State) (h₀ : Keeps t₀ s) :
    Keeps t₀ (imageRefuse code index f need avail s) := by
  unfold imageRefuse
  repeat' first
    | with_reducible assumption
    | with_reducible exact fun _ => rfl
    | with_reducible exact fun _ _ => rfl
    | with_reducible exact fun _ => ⟨id, id⟩
    | (rename_i hq; have hq2 := congrArg Prod.snd hq; with_reducible dsimp only at hq2; subst hq2)
    | simp only [↓keeps_mk_iff]
    | with_reducible refine keeps_ite ?_ ?_
    | with_reducible refine outKeeps_ite ?_ ?_
    | with_reducible refine outKeeps_next.2 ?_
    | with_reducible refine keeps_ite2 ?_ ?_
    | with_reducible refine keeps_foldl ?_ (fun _ _ _ => ?_)
    | with_reducible apply imageResult_keeps | with_reducible apply record_keeps
    | split
    | dsimp only

theorem execWrite_keeps {t₀ : State} (k : Fin 8) (a : Nat) (v : Reg32) (s : State) (h₀ : Keeps t₀ s) :
    Keeps t₀ (execWrite k a v s) := by
  unfold execWrite
  repeat' first
    | with_reducible assumption
    | with_reducible exact fun _ => rfl
    | with_reducible exact fun _ _ => rfl
    | with_reducible exact fun _ => ⟨id, id⟩
    | (rename_i hq; have hq2 := congrArg Prod.snd hq; with_reducible dsimp only at hq2; subst hq2)
    | simp only [↓keeps_mk_iff]
    | with_reducible refine keeps_ite ?_ ?_
    | with_reducible refine outKeeps_ite ?_ ?_
    | with_reducible refine outKeeps_next.2 ?_
    | with_reducible refine keeps_ite2 ?_ ?_
    | with_reducible refine keeps_foldl ?_ (fun _ _ _ => ?_)
    | with_reducible apply writeReg_keeps | with_reducible apply mirrorShadow_keeps | with_reducible apply mapCores_keeps
    | split
    | dsimp only

theorem seqStep_keeps {t₀ : State} (now : Int) (s : State) (h₀ : Keeps t₀ s) :
    Keeps t₀ (seqStep now s) := by
  unfold seqStep
  repeat' first
    | with_reducible assumption
    | with_reducible exact fun _ => rfl
    | with_reducible exact fun _ _ => rfl
    | with_reducible exact fun _ => ⟨id, id⟩
    | (rename_i hq; have hq2 := congrArg Prod.snd hq; with_reducible dsimp only at hq2; subst hq2)
    | simp only [↓keeps_mk_iff]
    | with_reducible refine keeps_ite ?_ ?_
    | with_reducible refine outKeeps_ite ?_ ?_
    | with_reducible refine outKeeps_next.2 ?_
    | with_reducible refine keeps_ite2 ?_ ?_
    | with_reducible refine keeps_foldl ?_ (fun _ _ _ => ?_)
    | with_reducible apply raise_keeps | with_reducible apply record_keeps
    | split
    | dsimp only

theorem seqSwitched_keeps {t₀ : State} (s : State) (h₀ : Keeps t₀ s) :
    Keeps t₀ (seqSwitched s) := by
  unfold seqSwitched
  repeat' first
    | with_reducible assumption
    | with_reducible exact fun _ => rfl
    | with_reducible exact fun _ _ => rfl
    | with_reducible exact fun _ => ⟨id, id⟩
    | (rename_i hq; have hq2 := congrArg Prod.snd hq; with_reducible dsimp only at hq2; subst hq2)
    | simp only [↓keeps_mk_iff]
    | with_reducible refine keeps_ite ?_ ?_
    | with_reducible refine outKeeps_ite ?_ ?_
    | with_reducible refine outKeeps_next.2 ?_
    | with_reducible refine keeps_ite2 ?_ ?_
    | with_reducible refine keeps_foldl ?_ (fun _ _ _ => ?_)
    | with_reducible apply raise_keeps | with_reducible apply record_keeps
    | split
    | dsimp only

theorem seqRelease_keeps {t₀ : State} (now : Int) (s : State) (h₀ : Keeps t₀ s) :
    Keeps t₀ (seqRelease now s) := by
  unfold seqRelease
  repeat' first
    | with_reducible assumption
    | with_reducible exact fun _ => rfl
    | with_reducible exact fun _ _ => rfl
    | with_reducible exact fun _ => ⟨id, id⟩
    | (rename_i hq; have hq2 := congrArg Prod.snd hq; with_reducible dsimp only at hq2; subst hq2)
    | simp only [↓keeps_mk_iff]
    | with_reducible refine keeps_ite ?_ ?_
    | with_reducible refine outKeeps_ite ?_ ?_
    | with_reducible refine outKeeps_next.2 ?_
    | with_reducible refine keeps_ite2 ?_ ?_
    | with_reducible refine keeps_foldl ?_ (fun _ _ _ => ?_)
    | split
    | dsimp only

theorem seqLatch_keeps {t₀ : State} (s : State) (h₀ : Keeps t₀ s) :
    Keeps t₀ (seqLatch s) := by
  unfold seqLatch
  repeat' first
    | with_reducible assumption
    | with_reducible exact fun _ => rfl
    | with_reducible exact fun _ _ => rfl
    | with_reducible exact fun _ => ⟨id, id⟩
    | (rename_i hq; have hq2 := congrArg Prod.snd hq; with_reducible dsimp only at hq2; subst hq2)
    | simp only [↓keeps_mk_iff]
    | with_reducible refine keeps_ite ?_ ?_
    | with_reducible refine outKeeps_ite ?_ ?_
    | with_reducible refine outKeeps_next.2 ?_
    | with_reducible refine keeps_ite2 ?_ ?_
    | with_reducible refine keeps_foldl ?_ (fun _ _ _ => ?_)
    | with_reducible apply releaseHeld_keeps | with_reducible apply beginLatch_keeps
    | split
    | dsimp only

theorem seqTick_keeps {t₀ : State} (now : Int) (s : State) (h₀ : Keeps t₀ s) :
    Keeps t₀ (seqTick now s) := by
  unfold seqTick
  repeat' first
    | with_reducible assumption
    | with_reducible exact fun _ => rfl
    | with_reducible exact fun _ _ => rfl
    | with_reducible exact fun _ => ⟨id, id⟩
    | (rename_i hq; have hq2 := congrArg Prod.snd hq; with_reducible dsimp only at hq2; subst hq2)
    | simp only [↓keeps_mk_iff]
    | with_reducible refine keeps_ite ?_ ?_
    | with_reducible refine outKeeps_ite ?_ ?_
    | with_reducible refine outKeeps_next.2 ?_
    | with_reducible refine keeps_ite2 ?_ ?_
    | with_reducible refine keeps_foldl ?_ (fun _ _ _ => ?_)
    | with_reducible apply seqStep_keeps | with_reducible apply seqSwitched_keeps | with_reducible apply raise_keeps | with_reducible apply execDispatch_keeps | with_reducible apply seqLatch_keeps | with_reducible apply seqRelease_keeps
    | split
    | dsimp only

theorem storeSwitched_keeps {t₀ : State} (s : State) (h₀ : Keeps t₀ s) :
    Keeps t₀ (storeSwitched s) := by
  unfold storeSwitched
  repeat' first
    | with_reducible assumption
    | with_reducible exact fun _ => rfl
    | with_reducible exact fun _ _ => rfl
    | with_reducible exact fun _ => ⟨id, id⟩
    | (rename_i hq; have hq2 := congrArg Prod.snd hq; with_reducible dsimp only at hq2; subst hq2)
    | simp only [↓keeps_mk_iff]
    | with_reducible refine keeps_ite ?_ ?_
    | with_reducible refine outKeeps_ite ?_ ?_
    | with_reducible refine outKeeps_next.2 ?_
    | with_reducible refine keeps_ite2 ?_ ?_
    | with_reducible refine keeps_foldl ?_ (fun _ _ _ => ?_)
    | with_reducible apply setBoot_keeps
    | split
    | dsimp only

theorem twinReset_keeps {t₀ : State} (s : State) (h₀ : Keeps t₀ s) :
    Keeps t₀ (twinReset s) := by
  unfold twinReset
  repeat' first
    | with_reducible assumption
    | with_reducible exact fun _ => rfl
    | with_reducible exact fun _ _ => rfl
    | with_reducible exact fun _ => ⟨id, id⟩
    | (rename_i hq; have hq2 := congrArg Prod.snd hq; with_reducible dsimp only at hq2; subst hq2)
    | simp only [↓keeps_mk_iff]
    | with_reducible refine keeps_ite ?_ ?_
    | with_reducible refine outKeeps_ite ?_ ?_
    | with_reducible refine outKeeps_next.2 ?_
    | with_reducible refine keeps_ite2 ?_ ?_
    | with_reducible refine keeps_foldl ?_ (fun _ _ _ => ?_)
    | with_reducible apply moduleReset_keeps | with_reducible apply record_keeps
    | split
    | dsimp only

theorem afterClose_keeps {t₀ : State} (s : State) (h₀ : Keeps t₀ s) :
    Keeps t₀ (afterClose s) := by
  unfold afterClose
  repeat' first
    | with_reducible assumption
    | with_reducible exact fun _ => rfl
    | with_reducible exact fun _ _ => rfl
    | with_reducible exact fun _ => ⟨id, id⟩
    | (rename_i hq; have hq2 := congrArg Prod.snd hq; with_reducible dsimp only at hq2; subst hq2)
    | simp only [↓keeps_mk_iff]
    | with_reducible refine keeps_ite ?_ ?_
    | with_reducible refine outKeeps_ite ?_ ?_
    | with_reducible refine outKeeps_next.2 ?_
    | with_reducible refine keeps_ite2 ?_ ?_
    | with_reducible refine keeps_foldl ?_ (fun _ _ _ => ?_)
    | with_reducible apply twinReset_keeps | with_reducible apply storeSwitched_keeps | with_reducible apply startCommit_keeps
    | split
    | dsimp only

theorem migratePiece_keeps {t₀ : State} (src dst : Nat) (s : State) (h₀ : Keeps t₀ s) :
    Keeps t₀ (migratePiece src dst s) := by
  unfold migratePiece
  split
  · dsimp only
    have h1 : ∀ e : Fin 4 → MirrorEntry, Keeps t₀ ((activeLanes s).foldl (fun t l => applyEntry l (e l) t) s) :=
      fun e => keeps_foldl h₀ (fun _ _ h => applyEntry_keeps _ _ _ h)
    have h2 := fun v a b e => mirrorDisagree_keeps v a b _ (h1 e)
    split
    · split
      · exact applyEntry_keeps _ _ _ (fwdPush_keeps _ _ _ (markPages_keeps _ _ (h2 _ _ _ _)))
      · exact fwdPush_keeps _ _ _ (markPages_keeps _ _ (h2 _ _ _ _))
    · split
      · exact applyEntry_keeps _ _ _ (fwdPush_keeps _ _ _ (markPages_keeps _ _ (h2 _ _ _ _)))
      · exact fwdPush_keeps _ _ _ (markPages_keeps _ _ (h2 _ _ _ _))
    · exact h2 _ _ _ _
  · exact h₀

theorem migratePieces_keeps {t₀ : State} (src dst n : Nat) (s : State) (h₀ : Keeps t₀ s) :
    Keeps t₀ (migratePieces src dst n s) := by
  induction n generalizing src dst s with
  | zero => exact h₀
  | succ n ih => exact ih _ _ _ (migratePiece_keeps _ _ _ h₀)

theorem olcSwitch_keeps {t₀ : State} (s : State) (h₀ : Keeps t₀ s) :
    Keeps t₀ (olcSwitch s) := by
  unfold olcSwitch
  repeat' first
    | with_reducible assumption
    | with_reducible exact fun _ => rfl
    | with_reducible exact fun _ _ => rfl
    | with_reducible exact fun _ => ⟨id, id⟩
    | (rename_i hq; have hq2 := congrArg Prod.snd hq; with_reducible dsimp only at hq2; subst hq2)
    | simp only [↓keeps_mk_iff]
    | with_reducible refine keeps_ite ?_ ?_
    | with_reducible refine outKeeps_ite ?_ ?_
    | with_reducible refine outKeeps_next.2 ?_
    | with_reducible refine keeps_ite2 ?_ ?_
    | with_reducible refine keeps_foldl ?_ (fun _ _ _ => ?_)
    | with_reducible apply drainMirror_keeps | with_reducible apply migratePieces_keeps | with_reducible apply takeImage_keeps | with_reducible apply mapTasks_keeps | with_reducible apply openRegions_keeps
    | split
    | dsimp only

theorem execTick_keeps {t₀ : State} (dt : Nat) (s : State) (h₀ : Keeps t₀ s) :
    OutKeeps t₀ (execTick dt s) := by
  unfold execTick
  repeat' first
    | with_reducible assumption
    | with_reducible exact fun _ => rfl
    | with_reducible exact fun _ _ => rfl
    | with_reducible exact fun _ => ⟨id, id⟩
    | (rename_i hq; have hq2 := congrArg Prod.snd hq; with_reducible dsimp only at hq2; subst hq2)
    | simp only [↓keeps_mk_iff]
    | with_reducible refine keeps_ite ?_ ?_
    | with_reducible refine outKeeps_ite ?_ ?_
    | with_reducible refine outKeeps_next.2 ?_
    | with_reducible refine keeps_ite2 ?_ ?_
    | with_reducible refine keeps_foldl ?_ (fun _ _ _ => ?_)
    | with_reducible apply advance_keeps | with_reducible apply seqTick_keeps
    | split
    | dsimp only

theorem execLatchEnd_keeps {t₀ : State} (dt : Nat) (s : State) (h₀ : Keeps t₀ s) :
    OutKeeps t₀ (execLatchEnd dt s) := by
  unfold execLatchEnd
  repeat' first
    | with_reducible assumption
    | with_reducible exact fun _ => rfl
    | with_reducible exact fun _ _ => rfl
    | with_reducible exact fun _ => ⟨id, id⟩
    | (rename_i hq; have hq2 := congrArg Prod.snd hq; with_reducible dsimp only at hq2; subst hq2)
    | simp only [↓keeps_mk_iff]
    | with_reducible refine keeps_ite ?_ ?_
    | with_reducible refine outKeeps_ite ?_ ?_
    | with_reducible refine outKeeps_next.2 ?_
    | with_reducible refine keeps_ite2 ?_ ?_
    | with_reducible refine keeps_foldl ?_ (fun _ _ _ => ?_)
    | with_reducible apply advance_keeps | with_reducible apply setTask_keeps | with_reducible apply execDispatch_keeps | with_reducible apply seqLatch_keeps | with_reducible apply raise_keeps
    | split
    | dsimp only

theorem execGapWarn_keeps {t₀ : State} (dt : Nat) (s : State) (h₀ : Keeps t₀ s) :
    OutKeeps t₀ (execGapWarn dt s) := by
  unfold execGapWarn
  repeat' first
    | with_reducible assumption
    | with_reducible exact fun _ => rfl
    | with_reducible exact fun _ _ => rfl
    | with_reducible exact fun _ => ⟨id, id⟩
    | (rename_i hq; have hq2 := congrArg Prod.snd hq; with_reducible dsimp only at hq2; subst hq2)
    | simp only [↓keeps_mk_iff]
    | with_reducible refine keeps_ite ?_ ?_
    | with_reducible refine outKeeps_ite ?_ ?_
    | with_reducible refine outKeeps_next.2 ?_
    | with_reducible refine keeps_ite2 ?_ ?_
    | with_reducible refine keeps_foldl ?_ (fun _ _ _ => ?_)
    | with_reducible apply advance_keeps | with_reducible apply raise_keeps
    | split
    | dsimp only

theorem execGapStart_keeps {t₀ : State} (dt : Nat) (s : State) (h₀ : Keeps t₀ s) :
    OutKeeps t₀ (execGapStart dt s) := by
  unfold execGapStart
  repeat' first
    | with_reducible assumption
    | with_reducible exact fun _ => rfl
    | with_reducible exact fun _ _ => rfl
    | with_reducible exact fun _ => ⟨id, id⟩
    | (rename_i hq; have hq2 := congrArg Prod.snd hq; with_reducible dsimp only at hq2; subst hq2)
    | simp only [↓keeps_mk_iff]
    | with_reducible refine keeps_ite ?_ ?_
    | with_reducible refine outKeeps_ite ?_ ?_
    | with_reducible refine outKeeps_next.2 ?_
    | with_reducible refine keeps_ite2 ?_ ?_
    | with_reducible refine keeps_foldl ?_ (fun _ _ _ => ?_)
    | with_reducible apply advance_keeps | with_reducible apply raise_keeps | with_reducible apply record_keeps
    | split
    | dsimp only

theorem execCysQuietWrite_keeps {t₀ : State} (core : Fin 8) (value : BitVec 32) (s : State) (h₀ : Keeps t₀ s) :
    OutKeeps t₀ (execCysQuietWrite core value s) := by
  unfold execCysQuietWrite
  repeat' first
    | with_reducible assumption
    | with_reducible exact fun _ => rfl
    | with_reducible exact fun _ _ => rfl
    | with_reducible exact fun _ => ⟨id, id⟩
    | (rename_i hq; have hq2 := congrArg Prod.snd hq; with_reducible dsimp only at hq2; subst hq2)
    | simp only [↓keeps_mk_iff]
    | with_reducible refine keeps_ite ?_ ?_
    | with_reducible refine outKeeps_ite ?_ ?_
    | with_reducible refine outKeeps_next.2 ?_
    | with_reducible refine keeps_ite2 ?_ ?_
    | with_reducible refine keeps_foldl ?_ (fun _ _ _ => ?_)
    | with_reducible apply execWrite_keeps | with_reducible apply execSave_keeps | with_reducible apply execWait_keeps | with_reducible apply execDispatch_keeps
    | split
    | dsimp only

theorem execCysDoneWrite_keeps {t₀ : State} (core : Fin 8) (value : BitVec 32) (s : State) (h₀ : Keeps t₀ s) :
    OutKeeps t₀ (execCysDoneWrite core value s) := by
  unfold execCysDoneWrite
  repeat' first
    | with_reducible assumption
    | with_reducible exact fun _ => rfl
    | with_reducible exact fun _ _ => rfl
    | with_reducible exact fun _ => ⟨id, id⟩
    | (rename_i hq; have hq2 := congrArg Prod.snd hq; with_reducible dsimp only at hq2; subst hq2)
    | simp only [↓keeps_mk_iff]
    | with_reducible refine keeps_ite ?_ ?_
    | with_reducible refine outKeeps_ite ?_ ?_
    | with_reducible refine outKeeps_next.2 ?_
    | with_reducible refine keeps_ite2 ?_ ?_
    | with_reducible refine keeps_foldl ?_ (fun _ _ _ => ?_)
    | with_reducible apply execDispatch_keeps | with_reducible apply afterClose_keeps | with_reducible apply execWrite_keeps
    | split
    | dsimp only

theorem execCommitEnd_keeps {t₀ : State} (dt : Nat) (s : State) (h₀ : Keeps t₀ s) :
    OutKeeps t₀ (execCommitEnd dt s) := by
  unfold execCommitEnd
  repeat' first
    | with_reducible assumption
    | with_reducible exact fun _ => rfl
    | with_reducible exact fun _ _ => rfl
    | with_reducible exact fun _ => ⟨id, id⟩
    | (rename_i hq; have hq2 := congrArg Prod.snd hq; with_reducible dsimp only at hq2; subst hq2)
    | simp only [↓keeps_mk_iff]
    | with_reducible refine keeps_ite ?_ ?_
    | with_reducible refine outKeeps_ite ?_ ?_
    | with_reducible refine outKeeps_next.2 ?_
    | with_reducible refine keeps_ite2 ?_ ?_
    | with_reducible refine keeps_foldl ?_ (fun _ _ _ => ?_)
    | with_reducible apply advance_keeps | with_reducible apply commitCopies_keeps | with_reducible apply afterClose_keeps | with_reducible apply closeCycle_keeps | with_reducible apply postEntries_keeps
    | split
    | dsimp only

theorem execPostingEnd_keeps {t₀ : State} (dt : Nat) (s : State) (h₀ : Keeps t₀ s) :
    OutKeeps t₀ (execPostingEnd dt s) := by
  unfold execPostingEnd
  repeat' first
    | with_reducible assumption
    | with_reducible exact fun _ => rfl
    | with_reducible exact fun _ _ => rfl
    | with_reducible exact fun _ => ⟨id, id⟩
    | (rename_i hq; have hq2 := congrArg Prod.snd hq; with_reducible dsimp only at hq2; subst hq2)
    | simp only [↓keeps_mk_iff]
    | with_reducible refine keeps_ite ?_ ?_
    | with_reducible refine outKeeps_ite ?_ ?_
    | with_reducible refine outKeeps_next.2 ?_
    | with_reducible refine keeps_ite2 ?_ ?_
    | with_reducible refine keeps_foldl ?_ (fun _ _ _ => ?_)
    | with_reducible apply advance_keeps | with_reducible apply afterClose_keeps | with_reducible apply closeCycle_keeps
    | split
    | dsimp only

theorem execConeOverrun_keeps {t₀ : State} (dt : Nat) (task : Fin 8) (s : State) (h₀ : Keeps t₀ s) :
    OutKeeps t₀ (execConeOverrun dt task s) := by
  unfold execConeOverrun
  repeat' first
    | with_reducible assumption
    | with_reducible exact fun _ => rfl
    | with_reducible exact fun _ _ => rfl
    | with_reducible exact fun _ => ⟨id, id⟩
    | (rename_i hq; have hq2 := congrArg Prod.snd hq; with_reducible dsimp only at hq2; subst hq2)
    | simp only [↓keeps_mk_iff]
    | with_reducible refine keeps_ite ?_ ?_
    | with_reducible refine outKeeps_ite ?_ ?_
    | with_reducible refine outKeeps_next.2 ?_
    | with_reducible refine keeps_ite2 ?_ ?_
    | with_reducible refine keeps_foldl ?_ (fun _ _ _ => ?_)
    | with_reducible apply advance_keeps | with_reducible apply raise_keeps | with_reducible apply record_keeps | with_reducible apply setTask_keeps
    | split
    | dsimp only

theorem execConeStall_keeps {t₀ : State} (dt : Nat) (task : Fin 8) (s : State) (h₀ : Keeps t₀ s) :
    OutKeeps t₀ (execConeStall dt task s) := by
  unfold execConeStall
  repeat' first
    | with_reducible assumption
    | with_reducible exact fun _ => rfl
    | with_reducible exact fun _ _ => rfl
    | with_reducible exact fun _ => ⟨id, id⟩
    | (rename_i hq; have hq2 := congrArg Prod.snd hq; with_reducible dsimp only at hq2; subst hq2)
    | simp only [↓keeps_mk_iff]
    | with_reducible refine keeps_ite ?_ ?_
    | with_reducible refine outKeeps_ite ?_ ?_
    | with_reducible refine outKeeps_next.2 ?_
    | with_reducible refine keeps_ite2 ?_ ?_
    | with_reducible refine keeps_foldl ?_ (fun _ _ _ => ?_)
    | with_reducible apply advance_keeps | with_reducible apply closeCycle_keeps | with_reducible apply raise_keeps | with_reducible apply record_keeps | with_reducible apply execDrop_keeps | with_reducible apply setTask_keeps | with_reducible apply banksSafeOwned_keeps | with_reducible apply execDispatch_keeps | with_reducible apply afterClose_keeps
    | split
    | dsimp only

theorem execTaskReturn_keeps {t₀ : State} (s : State) (h₀ : Keeps t₀ s) :
    OutKeeps t₀ (execTaskReturn s) := by
  unfold execTaskReturn
  repeat' first
    | with_reducible assumption
    | with_reducible exact fun _ => rfl
    | with_reducible exact fun _ _ => rfl
    | with_reducible exact fun _ => ⟨id, id⟩
    | (rename_i hq; have hq2 := congrArg Prod.snd hq; with_reducible dsimp only at hq2; subst hq2)
    | simp only [↓keeps_mk_iff]
    | with_reducible refine keeps_ite ?_ ?_
    | with_reducible refine outKeeps_ite ?_ ?_
    | with_reducible refine outKeeps_next.2 ?_
    | with_reducible refine keeps_ite2 ?_ ?_
    | with_reducible refine keeps_foldl ?_ (fun _ _ _ => ?_)
    | with_reducible apply bgEnd_keeps | with_reducible apply record_keeps | with_reducible apply execDispatch_keeps | with_reducible apply afterClose_keeps | with_reducible apply execDrop_keeps | with_reducible apply runInstr_keeps
    | split
    | dsimp only

theorem execSyscallEvent_keeps {t₀ : State} (s : State) (h₀ : Keeps t₀ s) :
    OutKeeps t₀ (execSyscallEvent s) := by
  unfold execSyscallEvent
  repeat' first
    | with_reducible assumption
    | with_reducible exact fun _ => rfl
    | with_reducible exact fun _ _ => rfl
    | with_reducible exact fun _ => ⟨id, id⟩
    | (rename_i hq; have hq2 := congrArg Prod.snd hq; with_reducible dsimp only at hq2; subst hq2)
    | simp only [↓keeps_mk_iff]
    | with_reducible refine keeps_ite ?_ ?_
    | with_reducible refine outKeeps_ite ?_ ?_
    | with_reducible refine outKeeps_next.2 ?_
    | with_reducible refine keeps_ite2 ?_ ?_
    | with_reducible refine keeps_foldl ?_ (fun _ _ _ => ?_)
    | with_reducible apply recEvWrite_keeps | with_reducible apply sysReturn_keeps | with_reducible apply currentEnd_keeps | with_reducible apply record_keeps
    | split
    | dsimp only

theorem execSyscallNettime_keeps {t₀ : State} (s : State) (h₀ : Keeps t₀ s) :
    OutKeeps t₀ (execSyscallNettime s) := by
  unfold execSyscallNettime
  repeat' first
    | with_reducible assumption
    | with_reducible exact fun _ => rfl
    | with_reducible exact fun _ _ => rfl
    | with_reducible exact fun _ => ⟨id, id⟩
    | (rename_i hq; have hq2 := congrArg Prod.snd hq; with_reducible dsimp only at hq2; subst hq2)
    | simp only [↓keeps_mk_iff]
    | with_reducible refine keeps_ite ?_ ?_
    | with_reducible refine outKeeps_ite ?_ ?_
    | with_reducible refine outKeeps_next.2 ?_
    | with_reducible refine keeps_ite2 ?_ ?_
    | with_reducible refine keeps_foldl ?_ (fun _ _ _ => ?_)
    | with_reducible apply sysReturn_keeps
    | split
    | dsimp only

theorem execSyscallNocommit_keeps {t₀ : State} (s : State) (h₀ : Keeps t₀ s) :
    OutKeeps t₀ (execSyscallNocommit s) := by
  unfold execSyscallNocommit
  repeat' first
    | with_reducible assumption
    | with_reducible exact fun _ => rfl
    | with_reducible exact fun _ _ => rfl
    | with_reducible exact fun _ => ⟨id, id⟩
    | (rename_i hq; have hq2 := congrArg Prod.snd hq; with_reducible dsimp only at hq2; subst hq2)
    | simp only [↓keeps_mk_iff]
    | with_reducible refine keeps_ite ?_ ?_
    | with_reducible refine outKeeps_ite ?_ ?_
    | with_reducible refine outKeeps_next.2 ?_
    | with_reducible refine keeps_ite2 ?_ ?_
    | with_reducible refine keeps_foldl ?_ (fun _ _ _ => ?_)
    | with_reducible apply currentEnd_keeps
    | split
    | dsimp only

theorem execSyscallFaultclr_keeps {t₀ : State} (s : State) (h₀ : Keeps t₀ s) :
    OutKeeps t₀ (execSyscallFaultclr s) := by
  unfold execSyscallFaultclr
  repeat' first
    | with_reducible assumption
    | with_reducible exact fun _ => rfl
    | with_reducible exact fun _ _ => rfl
    | with_reducible exact fun _ => ⟨id, id⟩
    | (rename_i hq; have hq2 := congrArg Prod.snd hq; with_reducible dsimp only at hq2; subst hq2)
    | simp only [↓keeps_mk_iff]
    | with_reducible refine keeps_ite ?_ ?_
    | with_reducible refine outKeeps_ite ?_ ?_
    | with_reducible refine outKeeps_next.2 ?_
    | with_reducible refine keeps_ite2 ?_ ?_
    | with_reducible refine keeps_foldl ?_ (fun _ _ _ => ?_)
    | with_reducible apply sysReturn_keeps | with_reducible apply faultClear_keeps
    | split
    | dsimp only

theorem execOlcSwitch_keeps {t₀ : State} (dt : Nat) (s : State) (h₀ : Keeps t₀ s) :
    OutKeeps t₀ (execOlcSwitch dt s) := by
  unfold execOlcSwitch
  repeat' first
    | with_reducible assumption
    | with_reducible exact fun _ => rfl
    | with_reducible exact fun _ _ => rfl
    | with_reducible exact fun _ => ⟨id, id⟩
    | (rename_i hq; have hq2 := congrArg Prod.snd hq; with_reducible dsimp only at hq2; subst hq2)
    | simp only [↓keeps_mk_iff]
    | with_reducible refine keeps_ite ?_ ?_
    | with_reducible refine outKeeps_ite ?_ ?_
    | with_reducible refine outKeeps_next.2 ?_
    | with_reducible refine keeps_ite2 ?_ ?_
    | with_reducible refine keeps_foldl ?_ (fun _ _ _ => ?_)
    | with_reducible apply advance_keeps | with_reducible apply olcSwitch_keeps
    | split
    | dsimp only

theorem execOlcTimeout_keeps {t₀ : State} (dt : Nat) (s : State) (h₀ : Keeps t₀ s) :
    OutKeeps t₀ (execOlcTimeout dt s) := by
  unfold execOlcTimeout
  repeat' first
    | with_reducible assumption
    | with_reducible exact fun _ => rfl
    | with_reducible exact fun _ _ => rfl
    | with_reducible exact fun _ => ⟨id, id⟩
    | (rename_i hq; have hq2 := congrArg Prod.snd hq; with_reducible dsimp only at hq2; subst hq2)
    | simp only [↓keeps_mk_iff]
    | with_reducible refine keeps_ite ?_ ?_
    | with_reducible refine outKeeps_ite ?_ ?_
    | with_reducible refine outKeeps_next.2 ?_
    | with_reducible refine keeps_ite2 ?_ ?_
    | with_reducible refine keeps_foldl ?_ (fun _ _ _ => ?_)
    | with_reducible apply advance_keeps | with_reducible apply imageRefuse_keeps
    | split
    | dsimp only

theorem setClk_keeps {t₀ : State} (f : Clk → Clk) (s : State) (h₀ : Keeps t₀ s) :
    Keeps t₀ (setClk f s) := by
  unfold setClk
  repeat' first
    | with_reducible assumption
    | with_reducible exact fun _ => rfl
    | with_reducible exact fun _ _ => rfl
    | with_reducible exact fun _ => ⟨id, id⟩
    | (rename_i hq; have hq2 := congrArg Prod.snd hq; with_reducible dsimp only at hq2; subst hq2)
    | simp only [↓keeps_mk_iff]
    | with_reducible refine keeps_ite ?_ ?_
    | with_reducible refine outKeeps_ite ?_ ?_
    | with_reducible refine outKeeps_next.2 ?_
    | with_reducible refine keeps_ite2 ?_ ?_
    | with_reducible refine keeps_foldl ?_ (fun _ _ _ => ?_)
    | split
    | dsimp only

theorem setTim_keeps {t₀ : State} (f : Tim → Tim) (s : State) (h₀ : Keeps t₀ s) :
    Keeps t₀ (setTim f s) := by
  unfold setTim
  repeat' first
    | with_reducible assumption
    | with_reducible exact fun _ => rfl
    | with_reducible exact fun _ _ => rfl
    | with_reducible exact fun _ => ⟨id, id⟩
    | (rename_i hq; have hq2 := congrArg Prod.snd hq; with_reducible dsimp only at hq2; subst hq2)
    | simp only [↓keeps_mk_iff]
    | with_reducible refine keeps_ite ?_ ?_
    | with_reducible refine outKeeps_ite ?_ ?_
    | with_reducible refine outKeeps_next.2 ?_
    | with_reducible refine keeps_ite2 ?_ ?_
    | with_reducible refine keeps_foldl ?_ (fun _ _ _ => ?_)
    | split
    | dsimp only

theorem coastUncertain_keeps {t₀ : State} (s : State) (h₀ : Keeps t₀ s) :
    Keeps t₀ (coastUncertain s) := by
  unfold coastUncertain
  repeat' first
    | with_reducible assumption
    | with_reducible exact fun _ => rfl
    | with_reducible exact fun _ _ => rfl
    | with_reducible exact fun _ => ⟨id, id⟩
    | (rename_i hq; have hq2 := congrArg Prod.snd hq; with_reducible dsimp only at hq2; subst hq2)
    | simp only [↓keeps_mk_iff]
    | with_reducible refine keeps_ite ?_ ?_
    | with_reducible refine outKeeps_ite ?_ ?_
    | with_reducible refine outKeeps_next.2 ?_
    | with_reducible refine keeps_ite2 ?_ ?_
    | with_reducible refine keeps_foldl ?_ (fun _ _ _ => ?_)
    | with_reducible apply uncertEdge_keeps | with_reducible apply setTim_keeps
    | split
    | dsimp only

theorem firstLock_keeps {t₀ : State} (s : State) (h₀ : Keeps t₀ s) :
    Keeps t₀ (firstLock s) := by
  unfold firstLock
  repeat' first
    | with_reducible assumption
    | with_reducible exact fun _ => rfl
    | with_reducible exact fun _ _ => rfl
    | with_reducible exact fun _ => ⟨id, id⟩
    | (rename_i hq; have hq2 := congrArg Prod.snd hq; with_reducible dsimp only at hq2; subst hq2)
    | simp only [↓keeps_mk_iff]
    | with_reducible refine keeps_ite ?_ ?_
    | with_reducible refine outKeeps_ite ?_ ?_
    | with_reducible refine outKeeps_next.2 ?_
    | with_reducible refine keeps_ite2 ?_ ?_
    | with_reducible refine keeps_foldl ?_ (fun _ _ _ => ?_)
    | with_reducible apply uncertEdge_keeps | with_reducible apply setTim_keeps
    | split
    | dsimp only

theorem boundCheck_keeps {t₀ : State} (servo : Bool) (s : State) (h₀ : Keeps t₀ s) :
    Keeps t₀ (boundCheck servo s) := by
  unfold boundCheck
  repeat' first
    | with_reducible assumption
    | with_reducible exact fun _ => rfl
    | with_reducible exact fun _ _ => rfl
    | with_reducible exact fun _ => ⟨id, id⟩
    | (rename_i hq; have hq2 := congrArg Prod.snd hq; with_reducible dsimp only at hq2; subst hq2)
    | simp only [↓keeps_mk_iff]
    | with_reducible refine keeps_ite ?_ ?_
    | with_reducible refine outKeeps_ite ?_ ?_
    | with_reducible refine outKeeps_next.2 ?_
    | with_reducible refine keeps_ite2 ?_ ?_
    | with_reducible refine keeps_foldl ?_ (fun _ _ _ => ?_)
    | with_reducible apply uncertEdge_keeps | with_reducible apply setTim_keeps | with_reducible apply servo_keeps
    | split
    | dsimp only

theorem startRamp_keeps {t₀ : State} (target : Nat) (s : State) (h₀ : Keeps t₀ s) :
    Keeps t₀ (startRamp target s) := by
  unfold startRamp
  repeat' first
    | with_reducible assumption
    | with_reducible exact fun _ => rfl
    | with_reducible exact fun _ _ => rfl
    | with_reducible exact fun _ => ⟨id, id⟩
    | (rename_i hq; have hq2 := congrArg Prod.snd hq; with_reducible dsimp only at hq2; subst hq2)
    | simp only [↓keeps_mk_iff]
    | with_reducible refine keeps_ite ?_ ?_
    | with_reducible refine outKeeps_ite ?_ ?_
    | with_reducible refine outKeeps_next.2 ?_
    | with_reducible refine keeps_ite2 ?_ ?_
    | with_reducible refine keeps_foldl ?_ (fun _ _ _ => ?_)
    | with_reducible apply setClk_keeps | with_reducible apply coastUncertain_keeps
    | split
    | dsimp only

theorem refLoss_keeps {t₀ : State} (src cause : Nat) (s : State) (h₀ : Keeps t₀ s) :
    Keeps t₀ (refLoss src cause s) := by
  unfold refLoss
  repeat' first
    | with_reducible assumption
    | with_reducible exact fun _ => rfl
    | with_reducible exact fun _ _ => rfl
    | with_reducible exact fun _ => ⟨id, id⟩
    | (rename_i hq; have hq2 := congrArg Prod.snd hq; with_reducible dsimp only at hq2; subst hq2)
    | simp only [↓keeps_mk_iff]
    | with_reducible refine keeps_ite ?_ ?_
    | with_reducible refine outKeeps_ite ?_ ?_
    | with_reducible refine outKeeps_next.2 ?_
    | with_reducible refine keeps_ite2 ?_ ?_
    | with_reducible refine keeps_foldl ?_ (fun _ _ _ => ?_)
    | with_reducible apply setClk_keeps | with_reducible apply raise_keeps | with_reducible apply record_keeps | with_reducible apply startRamp_keeps | with_reducible apply coastUncertain_keeps
    | split
    | dsimp only

theorem reselect_keeps {t₀ : State} (s : State) (h₀ : Keeps t₀ s) :
    Keeps t₀ (reselect s) := by
  unfold reselect
  repeat' first
    | with_reducible assumption
    | with_reducible exact fun _ => rfl
    | with_reducible exact fun _ _ => rfl
    | with_reducible exact fun _ => ⟨id, id⟩
    | (rename_i hq; have hq2 := congrArg Prod.snd hq; with_reducible dsimp only at hq2; subst hq2)
    | simp only [↓keeps_mk_iff]
    | with_reducible refine keeps_ite ?_ ?_
    | with_reducible refine outKeeps_ite ?_ ?_
    | with_reducible refine outKeeps_next.2 ?_
    | with_reducible refine keeps_ite2 ?_ ?_
    | with_reducible refine keeps_foldl ?_ (fun _ _ _ => ?_)
    | with_reducible apply refLoss_keeps | with_reducible apply startRamp_keeps
    | split
    | dsimp only

theorem sourceValid_keeps {t₀ : State} (n : Fin 3) (s : State) (h₀ : Keeps t₀ s) :
    Keeps t₀ (sourceValid n s) := by
  unfold sourceValid
  repeat' first
    | with_reducible assumption
    | with_reducible exact fun _ => rfl
    | with_reducible exact fun _ _ => rfl
    | with_reducible exact fun _ => ⟨id, id⟩
    | (rename_i hq; have hq2 := congrArg Prod.snd hq; with_reducible dsimp only at hq2; subst hq2)
    | simp only [↓keeps_mk_iff]
    | with_reducible refine keeps_ite ?_ ?_
    | with_reducible refine outKeeps_ite ?_ ?_
    | with_reducible refine outKeeps_next.2 ?_
    | with_reducible refine keeps_ite2 ?_ ?_
    | with_reducible refine keeps_foldl ?_ (fun _ _ _ => ?_)
    | with_reducible apply reselect_keeps | with_reducible apply setClk_keeps
    | split
    | dsimp only

theorem linkSet_keeps {t₀ : State} (p : Fin 4) (spd : Nat) (s : State) (h₀ : Keeps t₀ s) :
    Keeps t₀ (linkSet p spd s) := by
  unfold linkSet
  repeat' first
    | with_reducible assumption
    | with_reducible exact fun _ => rfl
    | with_reducible exact fun _ _ => rfl
    | with_reducible exact fun _ => ⟨id, id⟩
    | (rename_i hq; have hq2 := congrArg Prod.snd hq; with_reducible dsimp only at hq2; subst hq2)
    | simp only [↓keeps_mk_iff]
    | with_reducible refine keeps_ite ?_ ?_
    | with_reducible refine outKeeps_ite ?_ ?_
    | with_reducible refine outKeeps_next.2 ?_
    | with_reducible refine keeps_ite2 ?_ ?_
    | with_reducible refine keeps_foldl ?_ (fun _ _ _ => ?_)
    | with_reducible apply raise_keeps | with_reducible apply setLnc_keeps | with_reducible apply record_keeps | with_reducible apply refLoss_keeps
    | split
    | dsimp only

theorem gmSet_keeps {t₀ : State} (m : Option Master) (self : Bool) (s : State) (h₀ : Keeps t₀ s) :
    Keeps t₀ (gmSet m self s) := by
  unfold gmSet
  repeat' first
    | with_reducible assumption
    | with_reducible exact fun _ => rfl
    | with_reducible exact fun _ _ => rfl
    | with_reducible exact fun _ => ⟨id, id⟩
    | (rename_i hq; have hq2 := congrArg Prod.snd hq; with_reducible dsimp only at hq2; subst hq2)
    | simp only [↓keeps_mk_iff]
    | with_reducible refine keeps_ite ?_ ?_
    | with_reducible refine outKeeps_ite ?_ ?_
    | with_reducible refine outKeeps_next.2 ?_
    | with_reducible refine keeps_ite2 ?_ ?_
    | with_reducible refine keeps_foldl ?_ (fun _ _ _ => ?_)
    | with_reducible apply setTim_keeps | with_reducible apply accepted_keeps | with_reducible apply boundCheck_keeps | with_reducible apply raise_keeps | with_reducible apply record_keeps
    | split
    | dsimp only

theorem netsQuiet_keeps {t₀ : State} (s : State) (h₀ : Keeps t₀ s) :
    Keeps t₀ (netsQuiet s) := by
  unfold netsQuiet
  repeat' first
    | with_reducible assumption
    | with_reducible exact fun _ => rfl
    | with_reducible exact fun _ _ => rfl
    | with_reducible exact fun _ => ⟨id, id⟩
    | (rename_i hq; have hq2 := congrArg Prod.snd hq; with_reducible dsimp only at hq2; subst hq2)
    | simp only [↓keeps_mk_iff]
    | with_reducible refine keeps_ite ?_ ?_
    | with_reducible refine outKeeps_ite ?_ ?_
    | with_reducible refine outKeeps_next.2 ?_
    | with_reducible refine keeps_ite2 ?_ ?_
    | with_reducible refine keeps_foldl ?_ (fun _ _ _ => ?_)
    | with_reducible apply linkSet_keeps | with_reducible apply gmSet_keeps
    | split
    | dsimp only

theorem rootMoved_keeps {t₀ : State} (s : State) (h₀ : Keeps t₀ s) :
    Keeps t₀ (rootMoved s) := by
  unfold rootMoved
  repeat' first
    | with_reducible assumption
    | with_reducible exact fun _ => rfl
    | with_reducible exact fun _ _ => rfl
    | with_reducible exact fun _ => ⟨id, id⟩
    | (rename_i hq; have hq2 := congrArg Prod.snd hq; with_reducible dsimp only at hq2; subst hq2)
    | simp only [↓keeps_mk_iff]
    | with_reducible refine keeps_ite ?_ ?_
    | with_reducible refine outKeeps_ite ?_ ?_
    | with_reducible refine outKeeps_next.2 ?_
    | with_reducible refine keeps_ite2 ?_ ?_
    | with_reducible refine keeps_foldl ?_ (fun _ _ _ => ?_)
    | with_reducible apply setClk_keeps | with_reducible apply netsQuiet_keeps | with_reducible apply raise_keeps | with_reducible apply record_keeps | with_reducible apply firstLock_keeps
    | split
    | dsimp only

theorem rampDone_keeps {t₀ : State} (s : State) (h₀ : Keeps t₀ s) :
    Keeps t₀ (rampDone s) := by
  unfold rampDone
  repeat' first
    | with_reducible assumption
    | with_reducible exact fun _ => rfl
    | with_reducible exact fun _ _ => rfl
    | with_reducible exact fun _ => ⟨id, id⟩
    | (rename_i hq; have hq2 := congrArg Prod.snd hq; with_reducible dsimp only at hq2; subst hq2)
    | simp only [↓keeps_mk_iff]
    | with_reducible refine keeps_ite ?_ ?_
    | with_reducible refine outKeeps_ite ?_ ?_
    | with_reducible refine outKeeps_next.2 ?_
    | with_reducible refine keeps_ite2 ?_ ?_
    | with_reducible refine keeps_foldl ?_ (fun _ _ _ => ?_)
    | with_reducible apply reselect_keeps | with_reducible apply setClk_keeps | with_reducible apply xnCoastEnd_keeps | with_reducible apply raise_keeps | with_reducible apply record_keeps
    | split
    | dsimp only

theorem stepTime_keeps {t₀ : State} (v : Int) (lock : Bool) (s : State) (h₀ : Keeps t₀ s) :
    Keeps t₀ (stepTime v lock s) := by
  unfold stepTime
  repeat' first
    | with_reducible assumption
    | with_reducible exact fun _ => rfl
    | with_reducible exact fun _ _ => rfl
    | with_reducible exact fun _ => ⟨id, id⟩
    | (rename_i hq; have hq2 := congrArg Prod.snd hq; with_reducible dsimp only at hq2; subst hq2)
    | simp only [↓keeps_mk_iff]
    | with_reducible refine keeps_ite ?_ ?_
    | with_reducible refine outKeeps_ite ?_ ?_
    | with_reducible refine outKeeps_next.2 ?_
    | with_reducible refine keeps_ite2 ?_ ?_
    | with_reducible refine keeps_foldl ?_ (fun _ _ _ => ?_)
    | with_reducible apply setTim_keeps | with_reducible apply raise_keeps | with_reducible apply record_keeps | with_reducible apply step_keeps | with_reducible apply uncertEdge_keeps | with_reducible apply xnStep_keeps
    | split
    | dsimp only

theorem slewTime_keeps {t₀ : State} (v : Int) (s : State) (h₀ : Keeps t₀ s) :
    Keeps t₀ (slewTime v s) := by
  unfold slewTime
  repeat' first
    | with_reducible assumption
    | with_reducible exact fun _ => rfl
    | with_reducible exact fun _ _ => rfl
    | with_reducible exact fun _ => ⟨id, id⟩
    | (rename_i hq; have hq2 := congrArg Prod.snd hq; with_reducible dsimp only at hq2; subst hq2)
    | simp only [↓keeps_mk_iff]
    | with_reducible refine keeps_ite ?_ ?_
    | with_reducible refine outKeeps_ite ?_ ?_
    | with_reducible refine outKeeps_next.2 ?_
    | with_reducible refine keeps_ite2 ?_ ?_
    | with_reducible refine keeps_foldl ?_ (fun _ _ _ => ?_)
    | with_reducible apply raise_keeps | with_reducible apply setTim_keeps
    | split
    | dsimp only

theorem slewDone_keeps {t₀ : State} (s : State) (h₀ : Keeps t₀ s) :
    Keeps t₀ (slewDone s) := by
  unfold slewDone
  repeat' first
    | with_reducible assumption
    | with_reducible exact fun _ => rfl
    | with_reducible exact fun _ _ => rfl
    | with_reducible exact fun _ => ⟨id, id⟩
    | (rename_i hq; have hq2 := congrArg Prod.snd hq; with_reducible dsimp only at hq2; subst hq2)
    | simp only [↓keeps_mk_iff]
    | with_reducible refine keeps_ite ?_ ?_
    | with_reducible refine outKeeps_ite ?_ ?_
    | with_reducible refine outKeeps_next.2 ?_
    | with_reducible refine keeps_ite2 ?_ ?_
    | with_reducible refine keeps_foldl ?_ (fun _ _ _ => ?_)
    | with_reducible apply raise_keeps | with_reducible apply setTim_keeps
    | split
    | dsimp only

theorem servo_keeps {t₀ : State} (o : Int) (lock : Bool) (rate : Option Int) (s : State) (h₀ : Keeps t₀ s) :
    Keeps t₀ (servo o lock rate s) := by
  unfold servo
  repeat' first
    | with_reducible assumption
    | with_reducible exact fun _ => rfl
    | with_reducible exact fun _ _ => rfl
    | with_reducible exact fun _ => ⟨id, id⟩
    | (rename_i hq; have hq2 := congrArg Prod.snd hq; with_reducible dsimp only at hq2; subst hq2)
    | simp only [↓keeps_mk_iff]
    | with_reducible refine keeps_ite ?_ ?_
    | with_reducible refine outKeeps_ite ?_ ?_
    | with_reducible refine outKeeps_next.2 ?_
    | with_reducible refine keeps_ite2 ?_ ?_
    | with_reducible refine keeps_foldl ?_ (fun _ _ _ => ?_)
    | with_reducible apply setTim_keeps | with_reducible apply accepted_keeps | with_reducible apply stepTime_keeps | with_reducible apply slewTime_keeps | with_reducible apply setRate_keeps | with_reducible apply drawWord_keeps | with_reducible apply boundCheck_keeps
    | split
    | dsimp only

theorem bmcaChoose_keeps {t₀ : State} (m : Master) (s : State) (h₀ : Keeps t₀ s) :
    Keeps t₀ (bmcaChoose m s) := by
  unfold bmcaChoose
  repeat' first
    | with_reducible assumption
    | with_reducible exact fun _ => rfl
    | with_reducible exact fun _ _ => rfl
    | with_reducible exact fun _ => ⟨id, id⟩
    | (rename_i hq; have hq2 := congrArg Prod.snd hq; with_reducible dsimp only at hq2; subst hq2)
    | simp only [↓keeps_mk_iff]
    | with_reducible refine keeps_ite ?_ ?_
    | with_reducible refine outKeeps_ite ?_ ?_
    | with_reducible refine outKeeps_next.2 ?_
    | with_reducible refine keeps_ite2 ?_ ?_
    | with_reducible refine keeps_foldl ?_ (fun _ _ _ => ?_)
    | with_reducible apply gmSet_keeps
    | split
    | dsimp only

theorem acceptSync_keeps {t₀ : State} (w : SyncWait) (origin corr : Int) (s : State) (h₀ : Keeps t₀ s) :
    Keeps t₀ (acceptSync w origin corr s) := by
  unfold acceptSync
  repeat' first
    | with_reducible assumption
    | with_reducible exact fun _ => rfl
    | with_reducible exact fun _ _ => rfl
    | with_reducible exact fun _ => ⟨id, id⟩
    | (rename_i hq; have hq2 := congrArg Prod.snd hq; with_reducible dsimp only at hq2; subst hq2)
    | simp only [↓keeps_mk_iff]
    | with_reducible refine keeps_ite ?_ ?_
    | with_reducible refine outKeeps_ite ?_ ?_
    | with_reducible refine outKeeps_next.2 ?_
    | with_reducible refine keeps_ite2 ?_ ?_
    | with_reducible refine keeps_foldl ?_ (fun _ _ _ => ?_)
    | with_reducible apply servo_keeps | with_reducible apply setTim_keeps
    | split
    | dsimp only

end Sys2Proof.Machine
end

