-- ==== Sys2Proof/Laws/KeepsAll4.lean ====
section
/-! SUPPORT. Every operation and every meaning keeps the memories canonical and the FIFO within its bound. -/

set_option linter.all false

namespace Sys2Proof.Machine

open Sys2Proof

theorem execStartWindowEnd_keeps {t₀ : State} (dt : Nat) (tcxo : Bool) (edges ember : BitVec 32) (s : State) (h₀ : Keeps t₀ s) :
    OutKeeps t₀ (execStartWindowEnd dt tcxo edges ember s) := by
  unfold execStartWindowEnd
  repeat' first
    | with_reducible assumption
    | with_reducible exact fun _ => rfl
    | with_reducible exact fun _ _ => rfl
    | with_reducible exact fun _ => ⟨id, id⟩
    | (rename_i hq; have hq2 := congrArg Prod.snd hq; with_reducible dsimp only at hq2; subst hq2)
    | simp only [↓keeps_mk_iff]
    | with_reducible refine keeps_ite ?_ ?_
    | with_reducible refine outKeeps_ite ?_ ?_
    | with_reducible refine outKeeps_next.2 ?_
    | with_reducible refine keeps_ite2 ?_ ?_
    | with_reducible refine keeps_foldl ?_ (fun _ _ _ => ?_)
    | with_reducible apply advance_keeps | with_reducible apply domainRamp_keeps | with_reducible apply setClk_keeps | with_reducible apply firstLock_keeps | with_reducible apply raise_keeps | with_reducible apply record_keeps | with_reducible apply coastUncertain_keeps | with_reducible apply netsQuiet_keeps
    | split
    | dsimp only

theorem execRefLost_keeps {t₀ : State} (dt : Nat) (cause : Fin 4) (s : State) (h₀ : Keeps t₀ s) :
    OutKeeps t₀ (execRefLost dt cause s) := by
  unfold execRefLost
  repeat' first
    | with_reducible assumption
    | with_reducible exact fun _ => rfl
    | with_reducible exact fun _ _ => rfl
    | with_reducible exact fun _ => ⟨id, id⟩
    | (rename_i hq; have hq2 := congrArg Prod.snd hq; with_reducible dsimp only at hq2; subst hq2)
    | simp only [↓keeps_mk_iff]
    | with_reducible refine keeps_ite ?_ ?_
    | with_reducible refine outKeeps_ite ?_ ?_
    | with_reducible refine outKeeps_next.2 ?_
    | with_reducible refine keeps_ite2 ?_ ?_
    | with_reducible refine keeps_foldl ?_ (fun _ _ _ => ?_)
    | with_reducible apply advance_keeps | with_reducible apply refLoss_keeps
    | split
    | dsimp only

theorem execSourceValid_keeps {t₀ : State} (dt : Nat) (src : Fin 3) (s : State) (h₀ : Keeps t₀ s) :
    OutKeeps t₀ (execSourceValid dt src s) := by
  unfold execSourceValid
  repeat' first
    | with_reducible assumption
    | with_reducible exact fun _ => rfl
    | with_reducible exact fun _ _ => rfl
    | with_reducible exact fun _ => ⟨id, id⟩
    | (rename_i hq; have hq2 := congrArg Prod.snd hq; with_reducible dsimp only at hq2; subst hq2)
    | simp only [↓keeps_mk_iff]
    | with_reducible refine keeps_ite ?_ ?_
    | with_reducible refine outKeeps_ite ?_ ?_
    | with_reducible refine outKeeps_next.2 ?_
    | with_reducible refine keeps_ite2 ?_ ?_
    | with_reducible refine keeps_foldl ?_ (fun _ _ _ => ?_)
    | with_reducible apply sourceValid_keeps | with_reducible apply advance_keeps
    | split
    | dsimp only

theorem execSourceInvalid_keeps {t₀ : State} (dt : Nat) (src : Fin 3) (s : State) (h₀ : Keeps t₀ s) :
    OutKeeps t₀ (execSourceInvalid dt src s) := by
  unfold execSourceInvalid
  repeat' first
    | with_reducible assumption
    | with_reducible exact fun _ => rfl
    | with_reducible exact fun _ _ => rfl
    | with_reducible exact fun _ => ⟨id, id⟩
    | (rename_i hq; have hq2 := congrArg Prod.snd hq; with_reducible dsimp only at hq2; subst hq2)
    | simp only [↓keeps_mk_iff]
    | with_reducible refine keeps_ite ?_ ?_
    | with_reducible refine outKeeps_ite ?_ ?_
    | with_reducible refine outKeeps_next.2 ?_
    | with_reducible refine keeps_ite2 ?_ ?_
    | with_reducible refine keeps_foldl ?_ (fun _ _ _ => ?_)
    | with_reducible apply advance_keeps | with_reducible apply setClk_keeps
    | split
    | dsimp only

theorem execRampStep_keeps {t₀ : State} (dt : Nat) (s : State) (h₀ : Keeps t₀ s) :
    OutKeeps t₀ (execRampStep dt s) := by
  unfold execRampStep
  repeat' first
    | with_reducible assumption
    | with_reducible exact fun _ => rfl
    | with_reducible exact fun _ _ => rfl
    | with_reducible exact fun _ => ⟨id, id⟩
    | (rename_i hq; have hq2 := congrArg Prod.snd hq; with_reducible dsimp only at hq2; subst hq2)
    | simp only [↓keeps_mk_iff]
    | with_reducible refine keeps_ite ?_ ?_
    | with_reducible refine outKeeps_ite ?_ ?_
    | with_reducible refine outKeeps_next.2 ?_
    | with_reducible refine keeps_ite2 ?_ ?_
    | with_reducible refine keeps_foldl ?_ (fun _ _ _ => ?_)
    | with_reducible apply advance_keeps | with_reducible apply reselect_keeps | with_reducible apply setClk_keeps | with_reducible apply rootMoved_keeps | with_reducible apply rampDone_keeps
    | split
    | dsimp only

theorem execMonTrip_keeps {t₀ : State} (dt : Nat) (item : Fin 3) (value : BitVec 32) (s : State) (h₀ : Keeps t₀ s) :
    OutKeeps t₀ (execMonTrip dt item value s) := by
  unfold execMonTrip
  repeat' first
    | with_reducible assumption
    | with_reducible exact fun _ => rfl
    | with_reducible exact fun _ _ => rfl
    | with_reducible exact fun _ => ⟨id, id⟩
    | (rename_i hq; have hq2 := congrArg Prod.snd hq; with_reducible dsimp only at hq2; subst hq2)
    | simp only [↓keeps_mk_iff]
    | with_reducible refine keeps_ite ?_ ?_
    | with_reducible refine outKeeps_ite ?_ ?_
    | with_reducible refine outKeeps_next.2 ?_
    | with_reducible refine keeps_ite2 ?_ ?_
    | with_reducible refine keeps_foldl ?_ (fun _ _ _ => ?_)
    | with_reducible apply advance_keeps | with_reducible apply record_keeps | with_reducible apply raise_keeps | with_reducible apply setClk_keeps | with_reducible apply refLoss_keeps | with_reducible apply moduleReset_keeps
    | split
    | dsimp only

theorem execEmberfailClear_keeps {t₀ : State} (dt : Nat) (s : State) (h₀ : Keeps t₀ s) :
    OutKeeps t₀ (execEmberfailClear dt s) := by
  unfold execEmberfailClear
  repeat' first
    | with_reducible assumption
    | with_reducible exact fun _ => rfl
    | with_reducible exact fun _ _ => rfl
    | with_reducible exact fun _ => ⟨id, id⟩
    | (rename_i hq; have hq2 := congrArg Prod.snd hq; with_reducible dsimp only at hq2; subst hq2)
    | simp only [↓keeps_mk_iff]
    | with_reducible refine keeps_ite ?_ ?_
    | with_reducible refine outKeeps_ite ?_ ?_
    | with_reducible refine outKeeps_next.2 ?_
    | with_reducible refine keeps_ite2 ?_ ?_
    | with_reducible refine keeps_foldl ?_ (fun _ _ _ => ?_)
    | with_reducible apply advance_keeps | with_reducible apply setClk_keeps
    | split
    | dsimp only

theorem assertAgain_keeps {t₀ : State} (k : Fin 11) (s : State) (h₀ : Keeps t₀ s) :
    Keeps t₀ (assertAgain k s) := by
  unfold assertAgain
  repeat' first
    | with_reducible assumption
    | with_reducible exact fun _ => rfl
    | with_reducible exact fun _ _ => rfl
    | with_reducible exact fun _ => ⟨id, id⟩
    | (rename_i hq; have hq2 := congrArg Prod.snd hq; with_reducible dsimp only at hq2; subst hq2)
    | simp only [↓keeps_mk_iff]
    | with_reducible refine keeps_ite ?_ ?_
    | with_reducible refine outKeeps_ite ?_ ?_
    | with_reducible refine outKeeps_next.2 ?_
    | with_reducible refine keeps_ite2 ?_ ?_
    | with_reducible refine keeps_foldl ?_ (fun _ _ _ => ?_)
    | with_reducible apply deliver_keeps
    | split
    | dsimp only

theorem execClockEnableApply_keeps {t₀ : State} (dt : Nat) (block : Fin 11) (on : Bool) (s : State) (h₀ : Keeps t₀ s) :
    OutKeeps t₀ (execClockEnableApply dt block on s) := by
  unfold execClockEnableApply
  repeat' first
    | with_reducible assumption
    | with_reducible exact fun _ => rfl
    | with_reducible exact fun _ _ => rfl
    | with_reducible exact fun _ => ⟨id, id⟩
    | (rename_i hq; have hq2 := congrArg Prod.snd hq; with_reducible dsimp only at hq2; subst hq2)
    | simp only [↓keeps_mk_iff]
    | with_reducible refine keeps_ite ?_ ?_
    | with_reducible refine outKeeps_ite ?_ ?_
    | with_reducible refine outKeeps_next.2 ?_
    | with_reducible refine keeps_ite2 ?_ ?_
    | with_reducible refine keeps_foldl ?_ (fun _ _ _ => ?_)
    | with_reducible apply advance_keeps | with_reducible apply setClk_keeps | with_reducible apply assertAgain_keeps
    | split
    | dsimp only

theorem execFmStart_keeps {t₀ : State} (ref meas : BitVec 4) (gate : BitVec 24) (s : State) (h₀ : Keeps t₀ s) :
    OutKeeps t₀ (execFmStart ref meas gate s) := by
  unfold execFmStart
  repeat' first
    | with_reducible assumption
    | with_reducible exact fun _ => rfl
    | with_reducible exact fun _ _ => rfl
    | with_reducible exact fun _ => ⟨id, id⟩
    | (rename_i hq; have hq2 := congrArg Prod.snd hq; with_reducible dsimp only at hq2; subst hq2)
    | simp only [↓keeps_mk_iff]
    | with_reducible refine keeps_ite ?_ ?_
    | with_reducible refine outKeeps_ite ?_ ?_
    | with_reducible refine outKeeps_next.2 ?_
    | with_reducible refine keeps_ite2 ?_ ?_
    | with_reducible refine keeps_foldl ?_ (fun _ _ _ => ?_)
    | with_reducible apply setClk_keeps | with_reducible apply raise_keeps
    | split
    | dsimp only

theorem execFmDone_keeps {t₀ : State} (dt : Nat) (count : BitVec 32) (s : State) (h₀ : Keeps t₀ s) :
    OutKeeps t₀ (execFmDone dt count s) := by
  unfold execFmDone
  repeat' first
    | with_reducible assumption
    | with_reducible exact fun _ => rfl
    | with_reducible exact fun _ _ => rfl
    | with_reducible exact fun _ => ⟨id, id⟩
    | (rename_i hq; have hq2 := congrArg Prod.snd hq; with_reducible dsimp only at hq2; subst hq2)
    | simp only [↓keeps_mk_iff]
    | with_reducible refine keeps_ite ?_ ?_
    | with_reducible refine outKeeps_ite ?_ ?_
    | with_reducible refine outKeeps_next.2 ?_
    | with_reducible refine keeps_ite2 ?_ ?_
    | with_reducible refine keeps_foldl ?_ (fun _ _ _ => ?_)
    | with_reducible apply advance_keeps | with_reducible apply raise_keeps | with_reducible apply setClk_keeps
    | split
    | dsimp only

theorem writeAdj_keeps {t₀ : State} (mode : Nat) (ns : BitVec 32) (sec : BitVec 48) (s : State) (h₀ : Keeps t₀ s) :
    Keeps t₀ (writeAdj mode ns sec s) := by
  unfold writeAdj
  repeat' first
    | with_reducible assumption
    | with_reducible exact fun _ => rfl
    | with_reducible exact fun _ _ => rfl
    | with_reducible exact fun _ => ⟨id, id⟩
    | (rename_i hq; have hq2 := congrArg Prod.snd hq; with_reducible dsimp only at hq2; subst hq2)
    | simp only [↓keeps_mk_iff]
    | with_reducible refine keeps_ite ?_ ?_
    | with_reducible refine outKeeps_ite ?_ ?_
    | with_reducible refine outKeeps_next.2 ?_
    | with_reducible refine keeps_ite2 ?_ ?_
    | with_reducible refine keeps_foldl ?_ (fun _ _ _ => ?_)
    | with_reducible apply setTim_keeps
    | split
    | dsimp only

theorem execCtuAdjStep_keeps {t₀ : State} (ns : BitVec 32) (sec : BitVec 48) (s : State) (h₀ : Keeps t₀ s) :
    OutKeeps t₀ (execCtuAdjStep ns sec s) := by
  unfold execCtuAdjStep
  repeat' first
    | with_reducible assumption
    | with_reducible exact fun _ => rfl
    | with_reducible exact fun _ _ => rfl
    | with_reducible exact fun _ => ⟨id, id⟩
    | (rename_i hq; have hq2 := congrArg Prod.snd hq; with_reducible dsimp only at hq2; subst hq2)
    | simp only [↓keeps_mk_iff]
    | with_reducible refine keeps_ite ?_ ?_
    | with_reducible refine outKeeps_ite ?_ ?_
    | with_reducible refine outKeeps_next.2 ?_
    | with_reducible refine keeps_ite2 ?_ ?_
    | with_reducible refine keeps_foldl ?_ (fun _ _ _ => ?_)
    | with_reducible apply writeAdj_keeps | with_reducible apply stepTime_keeps | with_reducible apply setTim_keeps
    | split
    | dsimp only

theorem execCtuAdjSlew_keeps {t₀ : State} (ns : BitVec 32) (sec : BitVec 48) (s : State) (h₀ : Keeps t₀ s) :
    OutKeeps t₀ (execCtuAdjSlew ns sec s) := by
  unfold execCtuAdjSlew
  repeat' first
    | with_reducible assumption
    | with_reducible exact fun _ => rfl
    | with_reducible exact fun _ _ => rfl
    | with_reducible exact fun _ => ⟨id, id⟩
    | (rename_i hq; have hq2 := congrArg Prod.snd hq; with_reducible dsimp only at hq2; subst hq2)
    | simp only [↓keeps_mk_iff]
    | with_reducible refine keeps_ite ?_ ?_
    | with_reducible refine outKeeps_ite ?_ ?_
    | with_reducible refine outKeeps_next.2 ?_
    | with_reducible refine keeps_ite2 ?_ ?_
    | with_reducible refine keeps_foldl ?_ (fun _ _ _ => ?_)
    | with_reducible apply writeAdj_keeps | with_reducible apply slewTime_keeps | with_reducible apply setTim_keeps
    | split
    | dsimp only

theorem execSlewDone_keeps {t₀ : State} (dt : Nat) (s : State) (h₀ : Keeps t₀ s) :
    OutKeeps t₀ (execSlewDone dt s) := by
  unfold execSlewDone
  repeat' first
    | with_reducible assumption
    | with_reducible exact fun _ => rfl
    | with_reducible exact fun _ _ => rfl
    | with_reducible exact fun _ => ⟨id, id⟩
    | (rename_i hq; have hq2 := congrArg Prod.snd hq; with_reducible dsimp only at hq2; subst hq2)
    | simp only [↓keeps_mk_iff]
    | with_reducible refine keeps_ite ?_ ?_
    | with_reducible refine outKeeps_ite ?_ ?_
    | with_reducible refine outKeeps_next.2 ?_
    | with_reducible refine keeps_ite2 ?_ ?_
    | with_reducible refine keeps_foldl ?_ (fun _ _ _ => ?_)
    | with_reducible apply slewDone_keeps | with_reducible apply advance_keeps
    | split
    | dsimp only

theorem execCtuRateWrite_keeps {t₀ : State} (rate : BitVec 32) (s : State) (h₀ : Keeps t₀ s) :
    OutKeeps t₀ (execCtuRateWrite rate s) := by
  unfold execCtuRateWrite
  repeat' first
    | with_reducible assumption
    | with_reducible exact fun _ => rfl
    | with_reducible exact fun _ _ => rfl
    | with_reducible exact fun _ => ⟨id, id⟩
    | (rename_i hq; have hq2 := congrArg Prod.snd hq; with_reducible dsimp only at hq2; subst hq2)
    | simp only [↓keeps_mk_iff]
    | with_reducible refine keeps_ite ?_ ?_
    | with_reducible refine outKeeps_ite ?_ ?_
    | with_reducible refine outKeeps_next.2 ?_
    | with_reducible refine keeps_ite2 ?_ ?_
    | with_reducible refine keeps_foldl ?_ (fun _ _ _ => ?_)
    | with_reducible apply setRate_keeps
    | split
    | dsimp only

theorem execEbThresholdCrossed_keeps {t₀ : State} (dt : Nat) (s : State) (h₀ : Keeps t₀ s) :
    OutKeeps t₀ (execEbThresholdCrossed dt s) := by
  unfold execEbThresholdCrossed
  repeat' first
    | with_reducible assumption
    | with_reducible exact fun _ => rfl
    | with_reducible exact fun _ _ => rfl
    | with_reducible exact fun _ => ⟨id, id⟩
    | (rename_i hq; have hq2 := congrArg Prod.snd hq; with_reducible dsimp only at hq2; subst hq2)
    | simp only [↓keeps_mk_iff]
    | with_reducible refine keeps_ite ?_ ?_
    | with_reducible refine outKeeps_ite ?_ ?_
    | with_reducible refine outKeeps_next.2 ?_
    | with_reducible refine keeps_ite2 ?_ ?_
    | with_reducible refine keeps_foldl ?_ (fun _ _ _ => ?_)
    | with_reducible apply boundCheck_keeps | with_reducible apply advance_keeps
    | split
    | dsimp only

theorem execAnnounceReceived_keeps {t₀ : State} (dt : Nat) (port : Fin 2) (ann : PtpAnnounce) (s : State) (h₀ : Keeps t₀ s) :
    OutKeeps t₀ (execAnnounceReceived dt port ann s) := by
  unfold execAnnounceReceived
  repeat' first
    | with_reducible assumption
    | with_reducible exact fun _ => rfl
    | with_reducible exact fun _ _ => rfl
    | with_reducible exact fun _ => ⟨id, id⟩
    | (rename_i hq; have hq2 := congrArg Prod.snd hq; with_reducible dsimp only at hq2; subst hq2)
    | simp only [↓keeps_mk_iff]
    | with_reducible refine keeps_ite ?_ ?_
    | with_reducible refine outKeeps_ite ?_ ?_
    | with_reducible refine outKeeps_next.2 ?_
    | with_reducible refine keeps_ite2 ?_ ?_
    | with_reducible refine keeps_foldl ?_ (fun _ _ _ => ?_)
    | with_reducible apply advance_keeps | with_reducible apply bmcaChoose_keeps
    | split
    | dsimp only

theorem execAnnounceReceiptTimeout_keeps {t₀ : State} (dt : Nat) (s : State) (h₀ : Keeps t₀ s) :
    OutKeeps t₀ (execAnnounceReceiptTimeout dt s) := by
  unfold execAnnounceReceiptTimeout
  repeat' first
    | with_reducible assumption
    | with_reducible exact fun _ => rfl
    | with_reducible exact fun _ _ => rfl
    | with_reducible exact fun _ => ⟨id, id⟩
    | (rename_i hq; have hq2 := congrArg Prod.snd hq; with_reducible dsimp only at hq2; subst hq2)
    | simp only [↓keeps_mk_iff]
    | with_reducible refine keeps_ite ?_ ?_
    | with_reducible refine outKeeps_ite ?_ ?_
    | with_reducible refine outKeeps_next.2 ?_
    | with_reducible refine keeps_ite2 ?_ ?_
    | with_reducible refine keeps_foldl ?_ (fun _ _ _ => ?_)
    | with_reducible apply advance_keeps | with_reducible apply gmSet_keeps
    | split
    | dsimp only

theorem execSyncReceived_keeps {t₀ : State} (dt : Nat) (port : Fin 2) (src : BitVec 64) (domain : BitVec 8) (seq : BitVec 16) (corr : BitVec 64) (log : BitVec 8) (s : State) (h₀ : Keeps t₀ s) :
    OutKeeps t₀ (execSyncReceived dt port src domain seq corr log s) := by
  unfold execSyncReceived
  repeat' first
    | with_reducible assumption
    | with_reducible exact fun _ => rfl
    | with_reducible exact fun _ _ => rfl
    | with_reducible exact fun _ => ⟨id, id⟩
    | (rename_i hq; have hq2 := congrArg Prod.snd hq; with_reducible dsimp only at hq2; subst hq2)
    | simp only [↓keeps_mk_iff]
    | with_reducible refine keeps_ite ?_ ?_
    | with_reducible refine outKeeps_ite ?_ ?_
    | with_reducible refine outKeeps_next.2 ?_
    | with_reducible refine keeps_ite2 ?_ ?_
    | with_reducible refine keeps_foldl ?_ (fun _ _ _ => ?_)
    | with_reducible apply advance_keeps | with_reducible apply setTim_keeps
    | split
    | dsimp only

theorem execFollowUpReceived_keeps {t₀ : State} (dt : Nat) (src : BitVec 64) (seq : BitVec 16) (sec : BitVec 48) (ns : BitVec 32) (corr : BitVec 64) (s : State) (h₀ : Keeps t₀ s) :
    OutKeeps t₀ (execFollowUpReceived dt src seq sec ns corr s) := by
  unfold execFollowUpReceived
  repeat' first
    | with_reducible assumption
    | with_reducible exact fun _ => rfl
    | with_reducible exact fun _ _ => rfl
    | with_reducible exact fun _ => ⟨id, id⟩
    | (rename_i hq; have hq2 := congrArg Prod.snd hq; with_reducible dsimp only at hq2; subst hq2)
    | simp only [↓keeps_mk_iff]
    | with_reducible refine keeps_ite ?_ ?_
    | with_reducible refine outKeeps_ite ?_ ?_
    | with_reducible refine outKeeps_next.2 ?_
    | with_reducible refine keeps_ite2 ?_ ?_
    | with_reducible refine keeps_foldl ?_ (fun _ _ _ => ?_)
    | with_reducible apply advance_keeps | with_reducible apply acceptSync_keeps | with_reducible apply setTim_keeps
    | split
    | dsimp only

theorem execSyncTimeout_keeps {t₀ : State} (dt : Nat) (s : State) (h₀ : Keeps t₀ s) :
    OutKeeps t₀ (execSyncTimeout dt s) := by
  unfold execSyncTimeout
  repeat' first
    | with_reducible assumption
    | with_reducible exact fun _ => rfl
    | with_reducible exact fun _ _ => rfl
    | with_reducible exact fun _ => ⟨id, id⟩
    | (rename_i hq; have hq2 := congrArg Prod.snd hq; with_reducible dsimp only at hq2; subst hq2)
    | simp only [↓keeps_mk_iff]
    | with_reducible refine keeps_ite ?_ ?_
    | with_reducible refine outKeeps_ite ?_ ?_
    | with_reducible refine outKeeps_next.2 ?_
    | with_reducible refine keeps_ite2 ?_ ?_
    | with_reducible refine keeps_foldl ?_ (fun _ _ _ => ?_)
    | with_reducible apply advance_keeps | with_reducible apply raise_keeps | with_reducible apply record_keeps | with_reducible apply setTim_keeps
    | split
    | dsimp only

theorem execSyncIntervalExpiry_keeps {t₀ : State} (dt : Nat) (s : State) (h₀ : Keeps t₀ s) :
    OutKeeps t₀ (execSyncIntervalExpiry dt s) := by
  unfold execSyncIntervalExpiry
  repeat' first
    | with_reducible assumption
    | with_reducible exact fun _ => rfl
    | with_reducible exact fun _ _ => rfl
    | with_reducible exact fun _ => ⟨id, id⟩
    | (rename_i hq; have hq2 := congrArg Prod.snd hq; with_reducible dsimp only at hq2; subst hq2)
    | simp only [↓keeps_mk_iff]
    | with_reducible refine keeps_ite ?_ ?_
    | with_reducible refine outKeeps_ite ?_ ?_
    | with_reducible refine outKeeps_next.2 ?_
    | with_reducible refine keeps_ite2 ?_ ?_
    | with_reducible refine keeps_foldl ?_ (fun _ _ _ => ?_)
    | with_reducible apply advance_keeps | with_reducible apply setTim_keeps
    | split
    | dsimp only

theorem setDelay_keeps {t₀ : State} (p : Fin 2) (f : PeerDelay → PeerDelay) (s : State) (h₀ : Keeps t₀ s) :
    Keeps t₀ (setDelay p f s) := by
  unfold setDelay
  repeat' first
    | with_reducible assumption
    | with_reducible exact fun _ => rfl
    | with_reducible exact fun _ _ => rfl
    | with_reducible exact fun _ => ⟨id, id⟩
    | (rename_i hq; have hq2 := congrArg Prod.snd hq; with_reducible dsimp only at hq2; subst hq2)
    | simp only [↓keeps_mk_iff]
    | with_reducible refine keeps_ite ?_ ?_
    | with_reducible refine outKeeps_ite ?_ ?_
    | with_reducible refine outKeeps_next.2 ?_
    | with_reducible refine keeps_ite2 ?_ ?_
    | with_reducible refine keeps_foldl ?_ (fun _ _ _ => ?_)
    | with_reducible apply setTim_keeps
    | split
    | dsimp only

theorem execPdelayReqInterval_keeps {t₀ : State} (dt : Nat) (port : Fin 2) (s : State) (h₀ : Keeps t₀ s) :
    OutKeeps t₀ (execPdelayReqInterval dt port s) := by
  unfold execPdelayReqInterval
  repeat' first
    | with_reducible assumption
    | with_reducible exact fun _ => rfl
    | with_reducible exact fun _ _ => rfl
    | with_reducible exact fun _ => ⟨id, id⟩
    | (rename_i hq; have hq2 := congrArg Prod.snd hq; with_reducible dsimp only at hq2; subst hq2)
    | simp only [↓keeps_mk_iff]
    | with_reducible refine keeps_ite ?_ ?_
    | with_reducible refine outKeeps_ite ?_ ?_
    | with_reducible refine outKeeps_next.2 ?_
    | with_reducible refine keeps_ite2 ?_ ?_
    | with_reducible refine keeps_foldl ?_ (fun _ _ _ => ?_)
    | with_reducible apply advance_keeps | with_reducible apply setDelay_keeps | with_reducible apply raise_keeps | with_reducible apply record_keeps | with_reducible apply setTim_keeps
    | split
    | dsimp only

theorem execPdelayReqReceived_keeps {t₀ : State} (dt : Nat) (port : Fin 2) (s : State) (h₀ : Keeps t₀ s) :
    OutKeeps t₀ (execPdelayReqReceived dt port s) := by
  unfold execPdelayReqReceived
  repeat' first
    | with_reducible assumption
    | with_reducible exact fun _ => rfl
    | with_reducible exact fun _ _ => rfl
    | with_reducible exact fun _ => ⟨id, id⟩
    | (rename_i hq; have hq2 := congrArg Prod.snd hq; with_reducible dsimp only at hq2; subst hq2)
    | simp only [↓keeps_mk_iff]
    | with_reducible refine keeps_ite ?_ ?_
    | with_reducible refine outKeeps_ite ?_ ?_
    | with_reducible refine outKeeps_next.2 ?_
    | with_reducible refine keeps_ite2 ?_ ?_
    | with_reducible refine keeps_foldl ?_ (fun _ _ _ => ?_)
    | with_reducible apply advance_keeps | with_reducible apply setDelay_keeps
    | split
    | dsimp only

theorem execPdelayRespReceived_keeps {t₀ : State} (dt : Nat) (port : Fin 2) (delay ratio : BitVec 32) (s : State) (h₀ : Keeps t₀ s) :
    OutKeeps t₀ (execPdelayRespReceived dt port delay ratio s) := by
  unfold execPdelayRespReceived
  repeat' first
    | with_reducible assumption
    | with_reducible exact fun _ => rfl
    | with_reducible exact fun _ _ => rfl
    | with_reducible exact fun _ => ⟨id, id⟩
    | (rename_i hq; have hq2 := congrArg Prod.snd hq; with_reducible dsimp only at hq2; subst hq2)
    | simp only [↓keeps_mk_iff]
    | with_reducible refine keeps_ite ?_ ?_
    | with_reducible refine outKeeps_ite ?_ ?_
    | with_reducible refine outKeeps_next.2 ?_
    | with_reducible refine keeps_ite2 ?_ ?_
    | with_reducible refine keeps_foldl ?_ (fun _ _ _ => ?_)
    | with_reducible apply advance_keeps | with_reducible apply setDelay_keeps
    | split
    | dsimp only

theorem execTcForward_keeps {t₀ : State} (dt : Nat) (port : Fin 2) (kind : PtpKind) (tags : Fin 4) (seq : BitVec 16) (corr : BitVec 64) (counts : BitVec 32) (s : State) (h₀ : Keeps t₀ s) :
    OutKeeps t₀ (execTcForward dt port kind tags seq corr counts s) := by
  unfold execTcForward
  repeat' first
    | with_reducible assumption
    | with_reducible exact fun _ => rfl
    | with_reducible exact fun _ _ => rfl
    | with_reducible exact fun _ => ⟨id, id⟩
    | (rename_i hq; have hq2 := congrArg Prod.snd hq; with_reducible dsimp only at hq2; subst hq2)
    | simp only [↓keeps_mk_iff]
    | with_reducible refine keeps_ite ?_ ?_
    | with_reducible refine outKeeps_ite ?_ ?_
    | with_reducible refine outKeeps_next.2 ?_
    | with_reducible refine keeps_ite2 ?_ ?_
    | with_reducible refine keeps_foldl ?_ (fun _ _ _ => ?_)
    | with_reducible apply advance_keeps | with_reducible apply setTim_keeps | with_reducible apply record_keeps
    | split
    | dsimp only

theorem dropStaged_keeps {t₀ : State} (s : State) (h₀ : Keeps t₀ s) :
    Keeps t₀ (dropStaged s) := by
  unfold dropStaged
  repeat' first
    | with_reducible assumption
    | with_reducible exact fun _ => rfl
    | with_reducible exact fun _ _ => rfl
    | with_reducible exact fun _ => ⟨id, id⟩
    | (rename_i hq; have hq2 := congrArg Prod.snd hq; with_reducible dsimp only at hq2; subst hq2)
    | simp only [↓keeps_mk_iff]
    | with_reducible refine keeps_ite ?_ ?_
    | with_reducible refine outKeeps_ite ?_ ?_
    | with_reducible refine outKeeps_next.2 ?_
    | with_reducible refine keeps_ite2 ?_ ?_
    | with_reducible refine keeps_foldl ?_ (fun _ _ _ => ?_)
    | split
    | dsimp only

theorem stageImage_keeps {t₀ : State} (f : List Byte) (s : State) (h₀ : Keeps t₀ s) :
    Keeps t₀ (stageImage f s) := by
  unfold stageImage
  repeat' first
    | with_reducible assumption
    | with_reducible exact fun _ => rfl
    | with_reducible exact fun _ _ => rfl
    | with_reducible exact fun _ => ⟨id, id⟩
    | (rename_i hq; have hq2 := congrArg Prod.snd hq; with_reducible dsimp only at hq2; subst hq2)
    | simp only [↓keeps_mk_iff]
    | with_reducible refine keeps_ite ?_ ?_
    | with_reducible refine outKeeps_ite ?_ ?_
    | with_reducible refine outKeeps_next.2 ?_
    | with_reducible refine keeps_ite2 ?_ ?_
    | with_reducible refine keeps_foldl ?_ (fun _ _ _ => ?_)
    | with_reducible apply loadSections_keeps | with_reducible apply imageResult_keeps | with_reducible apply record_keeps
    | split
    | dsimp only

theorem storeImage_keeps {t₀ : State} (f : List Byte) (s : State) (h₀ : Keeps t₀ s) :
    Keeps t₀ (storeImage f s) := by
  unfold storeImage
  repeat' first
    | with_reducible assumption
    | with_reducible exact fun _ => rfl
    | with_reducible exact fun _ _ => rfl
    | with_reducible exact fun _ => ⟨id, id⟩
    | (rename_i hq; have hq2 := congrArg Prod.snd hq; with_reducible dsimp only at hq2; subst hq2)
    | simp only [↓keeps_mk_iff]
    | with_reducible refine keeps_ite ?_ ?_
    | with_reducible refine outKeeps_ite ?_ ?_
    | with_reducible refine outKeeps_next.2 ?_
    | with_reducible refine keeps_ite2 ?_ ?_
    | with_reducible refine keeps_foldl ?_ (fun _ _ _ => ?_)
    | with_reducible apply imageResult_keeps | with_reducible apply setBoot_keeps
    | split
    | dsimp only

theorem imageStage_keeps {t₀ : State} (peer : Nat) (s : State) (h₀ : Keeps t₀ s) :
    Keeps t₀ (imageStage peer s).2 := by
  unfold imageStage
  repeat' first
    | with_reducible assumption
    | with_reducible exact fun _ => rfl
    | with_reducible exact fun _ _ => rfl
    | with_reducible exact fun _ => ⟨id, id⟩
    | (rename_i hq; have hq2 := congrArg Prod.snd hq; with_reducible dsimp only at hq2; subst hq2)
    | simp only [↓keeps_mk_iff]
    | with_reducible refine keeps_ite ?_ ?_
    | with_reducible refine outKeeps_ite ?_ ?_
    | with_reducible refine outKeeps_next.2 ?_
    | with_reducible refine keeps_ite2 ?_ ?_
    | with_reducible refine keeps_foldl ?_ (fun _ _ _ => ?_)
    | with_reducible apply imageRefuse_keeps | with_reducible apply imageResult_keeps | with_reducible apply record_keeps | with_reducible apply dropStaged_keeps | with_reducible apply stageImage_keeps | with_reducible apply storeImage_keeps
    | split
    | dsimp only

theorem imageDiscard_keeps {t₀ : State} (s : State) (h₀ : Keeps t₀ s) :
    Keeps t₀ (imageDiscard s).2 := by
  unfold imageDiscard
  repeat' first
    | with_reducible assumption
    | with_reducible exact fun _ => rfl
    | with_reducible exact fun _ _ => rfl
    | with_reducible exact fun _ => ⟨id, id⟩
    | (rename_i hq; have hq2 := congrArg Prod.snd hq; with_reducible dsimp only at hq2; subst hq2)
    | simp only [↓keeps_mk_iff]
    | with_reducible refine keeps_ite ?_ ?_
    | with_reducible refine outKeeps_ite ?_ ?_
    | with_reducible refine outKeeps_next.2 ?_
    | with_reducible refine keeps_ite2 ?_ ?_
    | with_reducible refine keeps_foldl ?_ (fun _ _ _ => ?_)
    | with_reducible apply imageRefuse_keeps | with_reducible apply imageResult_keeps | with_reducible apply dropStaged_keeps
    | split
    | dsimp only

theorem standbyStage_keeps {t₀ : State} (f : List Byte) (s : State) (h₀ : Keeps t₀ s) :
    Keeps t₀ (standbyStage f s) := by
  unfold standbyStage
  repeat' first
    | with_reducible assumption
    | with_reducible exact fun _ => rfl
    | with_reducible exact fun _ _ => rfl
    | with_reducible exact fun _ => ⟨id, id⟩
    | (rename_i hq; have hq2 := congrArg Prod.snd hq; with_reducible dsimp only at hq2; subst hq2)
    | simp only [↓keeps_mk_iff]
    | with_reducible refine keeps_ite ?_ ?_
    | with_reducible refine outKeeps_ite ?_ ?_
    | with_reducible refine outKeeps_next.2 ?_
    | with_reducible refine keeps_ite2 ?_ ?_
    | with_reducible refine keeps_foldl ?_ (fun _ _ _ => ?_)
    | with_reducible apply imageResult_keeps | with_reducible apply record_keeps | with_reducible apply stageImage_keeps
    | split
    | dsimp only

theorem laneFrame_keeps {t₀ : State} (port : Nat) (tagged : Bool) (vid pcp : Nat) (ns : Int) (f : List Byte) (s : State) (h₀ : Keeps t₀ s) :
    Keeps t₀ (laneFrame port tagged vid pcp ns f s) := by
  unfold laneFrame
  repeat' first
    | with_reducible assumption
    | with_reducible exact fun _ => rfl
    | with_reducible exact fun _ _ => rfl
    | with_reducible exact fun _ => ⟨id, id⟩
    | (rename_i hq; have hq2 := congrArg Prod.snd hq; with_reducible dsimp only at hq2; subst hq2)
    | simp only [↓keeps_mk_iff]
    | with_reducible refine keeps_ite ?_ ?_
    | with_reducible refine outKeeps_ite ?_ ?_
    | with_reducible refine outKeeps_next.2 ?_
    | with_reducible refine keeps_ite2 ?_ ?_
    | with_reducible refine keeps_foldl ?_ (fun _ _ _ => ?_)
    | with_reducible apply setLnc_keeps
    | split
    | dsimp only

theorem slotWrite_keeps {t₀ : State} (r : RxFrame) (s : State) (h₀ : Keeps t₀ s) :
    Keeps t₀ (slotWrite r s) := by
  unfold slotWrite
  repeat' first
    | with_reducible assumption
    | with_reducible exact fun _ => rfl
    | with_reducible exact fun _ _ => rfl
    | with_reducible exact fun _ => ⟨id, id⟩
    | (rename_i hq; have hq2 := congrArg Prod.snd hq; with_reducible dsimp only at hq2; subst hq2)
    | simp only [↓keeps_mk_iff]
    | with_reducible refine keeps_ite ?_ ?_
    | with_reducible refine outKeeps_ite ?_ ?_
    | with_reducible refine outKeeps_next.2 ?_
    | with_reducible refine keeps_ite2 ?_ ?_
    | with_reducible refine keeps_foldl ?_ (fun _ _ _ => ?_)
    | with_reducible apply vwrite_keeps | with_reducible apply raise_keeps | with_reducible apply setLnc_keeps
    | split
    | dsimp only

theorem sendRx_keeps {t₀ : State} (port : Nat) (ns : Int) (f : List Byte) (s : State) (h₀ : Keeps t₀ s) :
    Keeps t₀ (sendRx port ns f s) := by
  unfold sendRx
  repeat' first
    | with_reducible assumption
    | with_reducible exact fun _ => rfl
    | with_reducible exact fun _ _ => rfl
    | with_reducible exact fun _ => ⟨id, id⟩
    | (rename_i hq; have hq2 := congrArg Prod.snd hq; with_reducible dsimp only at hq2; subst hq2)
    | simp only [↓keeps_mk_iff]
    | with_reducible refine keeps_ite ?_ ?_
    | with_reducible refine outKeeps_ite ?_ ?_
    | with_reducible refine outKeeps_next.2 ?_
    | with_reducible refine keeps_ite2 ?_ ?_
    | with_reducible refine keeps_foldl ?_ (fun _ _ _ => ?_)
    | with_reducible apply twinSend_keeps
    | split
    | dsimp only

theorem twinCmd_keeps {t₀ : State} (code : Nat) (tick : Int) (s : State) (h₀ : Keeps t₀ s) :
    Keeps t₀ (twinCmd code tick s) := by
  unfold twinCmd
  repeat' first
    | with_reducible assumption
    | with_reducible exact fun _ => rfl
    | with_reducible exact fun _ _ => rfl
    | with_reducible exact fun _ => ⟨id, id⟩
    | (rename_i hq; have hq2 := congrArg Prod.snd hq; with_reducible dsimp only at hq2; subst hq2)
    | simp only [↓keeps_mk_iff]
    | with_reducible refine keeps_ite ?_ ?_
    | with_reducible refine outKeeps_ite ?_ ?_
    | with_reducible refine outKeeps_next.2 ?_
    | with_reducible refine keeps_ite2 ?_ ?_
    | with_reducible refine keeps_foldl ?_ (fun _ _ _ => ?_)
    | with_reducible apply twinSend_keeps
    | split
    | dsimp only

theorem becomeActive_keeps {t₀ : State} (cause : Nat) (s : State) (h₀ : Keeps t₀ s) :
    Keeps t₀ (becomeActive cause s) := by
  unfold becomeActive
  repeat' first
    | with_reducible assumption
    | with_reducible exact fun _ => rfl
    | with_reducible exact fun _ _ => rfl
    | with_reducible exact fun _ => ⟨id, id⟩
    | (rename_i hq; have hq2 := congrArg Prod.snd hq; with_reducible dsimp only at hq2; subst hq2)
    | simp only [↓keeps_mk_iff]
    | with_reducible refine keeps_ite ?_ ?_
    | with_reducible refine outKeeps_ite ?_ ?_
    | with_reducible refine outKeeps_next.2 ?_
    | with_reducible refine keeps_ite2 ?_ ?_
    | with_reducible refine keeps_foldl ?_ (fun _ _ _ => ?_)
    | with_reducible apply twinRole_keeps | with_reducible apply setTwl_keeps
    | split
    | dsimp only

theorem noteTakeover_keeps {t₀ : State} (silent : Bool) (wait : Nat) (s : State) (h₀ : Keeps t₀ s) :
    Keeps t₀ (noteTakeover silent wait s) := by
  unfold noteTakeover
  repeat' first
    | with_reducible assumption
    | with_reducible exact fun _ => rfl
    | with_reducible exact fun _ _ => rfl
    | with_reducible exact fun _ => ⟨id, id⟩
    | (rename_i hq; have hq2 := congrArg Prod.snd hq; with_reducible dsimp only at hq2; subst hq2)
    | simp only [↓keeps_mk_iff]
    | with_reducible refine keeps_ite ?_ ?_
    | with_reducible refine outKeeps_ite ?_ ?_
    | with_reducible refine outKeeps_next.2 ?_
    | with_reducible refine keeps_ite2 ?_ ?_
    | with_reducible refine keeps_foldl ?_ (fun _ _ _ => ?_)
    | with_reducible apply record_keeps | with_reducible apply setTwl_keeps
    | split
    | dsimp only

theorem takeover_keeps {t₀ : State} (silent : Bool) (s : State) (h₀ : Keeps t₀ s) :
    Keeps t₀ (takeover silent s) := by
  unfold takeover
  repeat' first
    | with_reducible assumption
    | with_reducible exact fun _ => rfl
    | with_reducible exact fun _ _ => rfl
    | with_reducible exact fun _ => ⟨id, id⟩
    | (rename_i hq; have hq2 := congrArg Prod.snd hq; with_reducible dsimp only at hq2; subst hq2)
    | simp only [↓keeps_mk_iff]
    | with_reducible refine keeps_ite ?_ ?_
    | with_reducible refine outKeeps_ite ?_ ?_
    | with_reducible refine outKeeps_next.2 ?_
    | with_reducible refine keeps_ite2 ?_ ?_
    | with_reducible refine keeps_foldl ?_ (fun _ _ _ => ?_)
    | with_reducible apply setTwl_keeps | with_reducible apply noteTakeover_keeps | with_reducible apply raise_keeps | with_reducible apply becomeActive_keeps | with_reducible apply setTim_keeps | with_reducible apply accepted_keeps | with_reducible apply xnbTakeover_keeps
    | split
    | dsimp only

theorem peerGone_keeps {t₀ : State} (silent : Bool) (s : State) (h₀ : Keeps t₀ s) :
    Keeps t₀ (peerGone silent s) := by
  unfold peerGone
  repeat' first
    | with_reducible assumption
    | with_reducible exact fun _ => rfl
    | with_reducible exact fun _ _ => rfl
    | with_reducible exact fun _ => ⟨id, id⟩
    | (rename_i hq; have hq2 := congrArg Prod.snd hq; with_reducible dsimp only at hq2; subst hq2)
    | simp only [↓keeps_mk_iff]
    | with_reducible refine keeps_ite ?_ ?_
    | with_reducible refine outKeeps_ite ?_ ?_
    | with_reducible refine outKeeps_next.2 ?_
    | with_reducible refine keeps_ite2 ?_ ?_
    | with_reducible refine keeps_foldl ?_ (fun _ _ _ => ?_)
    | with_reducible apply takeover_keeps | with_reducible apply raise_keeps | with_reducible apply record_keeps | with_reducible apply setTwl_keeps | with_reducible apply integFail_keeps
    | split
    | dsimp only

theorem setPath_keeps {t₀ : State} (w : TwinWay) (f : TwinPath → TwinPath) (s : State) (h₀ : Keeps t₀ s) :
    Keeps t₀ (setPath w f s) := by
  unfold setPath
  repeat' first
    | with_reducible assumption
    | with_reducible exact fun _ => rfl
    | with_reducible exact fun _ _ => rfl
    | with_reducible exact fun _ => ⟨id, id⟩
    | (rename_i hq; have hq2 := congrArg Prod.snd hq; with_reducible dsimp only at hq2; subst hq2)
    | simp only [↓keeps_mk_iff]
    | with_reducible refine keeps_ite ?_ ?_
    | with_reducible refine outKeeps_ite ?_ ?_
    | with_reducible refine outKeeps_next.2 ?_
    | with_reducible refine keeps_ite2 ?_ ?_
    | with_reducible refine keeps_foldl ?_ (fun _ _ _ => ?_)
    | with_reducible apply setTwl_keeps
    | split
    | dsimp only

theorem linkLost_keeps {t₀ : State} (s : State) (h₀ : Keeps t₀ s) :
    Keeps t₀ (linkLost s) := by
  unfold linkLost
  repeat' first
    | with_reducible assumption
    | with_reducible exact fun _ => rfl
    | with_reducible exact fun _ _ => rfl
    | with_reducible exact fun _ => ⟨id, id⟩
    | (rename_i hq; have hq2 := congrArg Prod.snd hq; with_reducible dsimp only at hq2; subst hq2)
    | simp only [↓keeps_mk_iff]
    | with_reducible refine keeps_ite ?_ ?_
    | with_reducible refine outKeeps_ite ?_ ?_
    | with_reducible refine outKeeps_next.2 ?_
    | with_reducible refine keeps_ite2 ?_ ?_
    | with_reducible refine keeps_foldl ?_ (fun _ _ _ => ?_)
    | with_reducible apply standbyDrop_keeps | with_reducible apply record_keeps
    | split
    | dsimp only

theorem pathDown_keeps {t₀ : State} (w : TwinWay) (s : State) (h₀ : Keeps t₀ s) :
    Keeps t₀ (pathDown w s) := by
  unfold pathDown
  repeat' first
    | with_reducible assumption
    | with_reducible exact fun _ => rfl
    | with_reducible exact fun _ _ => rfl
    | with_reducible exact fun _ => ⟨id, id⟩
    | (rename_i hq; have hq2 := congrArg Prod.snd hq; with_reducible dsimp only at hq2; subst hq2)
    | simp only [↓keeps_mk_iff]
    | with_reducible refine keeps_ite ?_ ?_
    | with_reducible refine outKeeps_ite ?_ ?_
    | with_reducible refine outKeeps_next.2 ?_
    | with_reducible refine keeps_ite2 ?_ ?_
    | with_reducible refine keeps_foldl ?_ (fun _ _ _ => ?_)
    | with_reducible apply raise_keeps | with_reducible apply record_keeps | with_reducible apply setPath_keeps | with_reducible apply peerGone_keeps | with_reducible apply linkLost_keeps | with_reducible apply integFail_keeps
    | split
    | dsimp only

theorem pathBeat_keeps {t₀ : State} (w : TwinWay) (s : State) (h₀ : Keeps t₀ s) :
    Keeps t₀ (pathBeat w s) := by
  unfold pathBeat
  repeat' first
    | with_reducible assumption
    | with_reducible exact fun _ => rfl
    | with_reducible exact fun _ _ => rfl
    | with_reducible exact fun _ => ⟨id, id⟩
    | (rename_i hq; have hq2 := congrArg Prod.snd hq; with_reducible dsimp only at hq2; subst hq2)
    | simp only [↓keeps_mk_iff]
    | with_reducible refine keeps_ite ?_ ?_
    | with_reducible refine outKeeps_ite ?_ ?_
    | with_reducible refine outKeeps_next.2 ?_
    | with_reducible refine keeps_ite2 ?_ ?_
    | with_reducible refine keeps_foldl ?_ (fun _ _ _ => ?_)
    | with_reducible apply setTwl_keeps | with_reducible apply setPath_keeps | with_reducible apply linkLost_keeps | with_reducible apply raise_keeps
    | split
    | dsimp only

theorem integBegin_keeps {t₀ : State} (s : State) (h₀ : Keeps t₀ s) :
    Keeps t₀ (integBegin s) := by
  unfold integBegin
  repeat' first
    | with_reducible assumption
    | with_reducible exact fun _ => rfl
    | with_reducible exact fun _ _ => rfl
    | with_reducible exact fun _ => ⟨id, id⟩
    | (rename_i hq; have hq2 := congrArg Prod.snd hq; with_reducible dsimp only at hq2; subst hq2)
    | simp only [↓keeps_mk_iff]
    | with_reducible refine keeps_ite ?_ ?_
    | with_reducible refine outKeeps_ite ?_ ?_
    | with_reducible refine outKeeps_next.2 ?_
    | with_reducible refine keeps_ite2 ?_ ?_
    | with_reducible refine keeps_foldl ?_ (fun _ _ _ => ?_)
    | with_reducible apply twinCmd_keeps | with_reducible apply setTwl_keeps
    | split
    | dsimp only

theorem sendPage_keeps {t₀ : State} (base : Nat) (s : State) (h₀ : Keeps t₀ s) :
    Keeps t₀ (sendPage base s) := by
  unfold sendPage
  repeat' first
    | with_reducible assumption
    | with_reducible exact fun _ => rfl
    | with_reducible exact fun _ _ => rfl
    | with_reducible exact fun _ => ⟨id, id⟩
    | (rename_i hq; have hq2 := congrArg Prod.snd hq; with_reducible dsimp only at hq2; subst hq2)
    | simp only [↓keeps_mk_iff]
    | with_reducible refine keeps_ite ?_ ?_
    | with_reducible refine outKeeps_ite ?_ ?_
    | with_reducible refine outKeeps_next.2 ?_
    | with_reducible refine keeps_ite2 ?_ ?_
    | with_reducible refine keeps_foldl ?_ (fun _ _ _ => ?_)
    | with_reducible refine keeps_vmem (fun h => Memory.wf_memWriteBe _ _ _ _ h) rfl rfl rfl rfl rfl ?_
    | with_reducible refine keeps_vmem (fun h => Memory.wf_memWrite _ _ h) rfl rfl rfl rfl rfl ?_
    | with_reducible refine keeps_vmem (fun h => Memory.wf_filter _ h) rfl rfl rfl rfl rfl ?_
    | with_reducible refine keeps_mems (fun h => wf_mems_set h (Memory.wf_memWriteBe _ _ _ _ (h _))) rfl rfl rfl rfl rfl ?_
    | with_reducible refine keeps_mems (fun h => wf_mems_set h (Memory.wf_memWrite _ _ (h _))) rfl rfl rfl rfl rfl ?_
    | with_reducible refine keeps_mems (fun h => wf_mems_set h (Memory.wf_memCopyIf _ (h _))) rfl rfl rfl rfl rfl ?_
    | with_reducible refine keeps_mems (fun h => wf_mems_set h (Memory.wf_nil)) rfl rfl rfl rfl rfl ?_
    | with_reducible apply twinSend_keeps
    | split
    | dsimp only

theorem sendMarker_keeps {t₀ : State} (base : Nat) (s : State) (h₀ : Keeps t₀ s) :
    Keeps t₀ (sendMarker base s) := by
  unfold sendMarker
  repeat' first
    | with_reducible assumption
    | with_reducible exact fun _ => rfl
    | with_reducible exact fun _ _ => rfl
    | with_reducible exact fun _ => ⟨id, id⟩
    | (rename_i hq; have hq2 := congrArg Prod.snd hq; with_reducible dsimp only at hq2; subst hq2)
    | simp only [↓keeps_mk_iff]
    | with_reducible refine keeps_ite ?_ ?_
    | with_reducible refine outKeeps_ite ?_ ?_
    | with_reducible refine outKeeps_next.2 ?_
    | with_reducible refine keeps_ite2 ?_ ?_
    | with_reducible refine keeps_foldl ?_ (fun _ _ _ => ?_)
    | with_reducible apply twinSend_keeps
    | split
    | dsimp only

theorem pageLoad_keeps {t₀ : State} (a : Nat) (bs : List Byte) (s : State) (h₀ : Keeps t₀ s) :
    Keeps t₀ (pageLoad a bs s) := by
  unfold pageLoad
  repeat' first
    | with_reducible assumption
    | with_reducible exact fun _ => rfl
    | with_reducible exact fun _ _ => rfl
    | with_reducible exact fun _ => ⟨id, id⟩
    | (rename_i hq; have hq2 := congrArg Prod.snd hq; with_reducible dsimp only at hq2; subst hq2)
    | simp only [↓keeps_mk_iff]
    | with_reducible refine keeps_ite ?_ ?_
    | with_reducible refine outKeeps_ite ?_ ?_
    | with_reducible refine outKeeps_next.2 ?_
    | with_reducible refine keeps_ite2 ?_ ?_
    | with_reducible refine keeps_foldl ?_ (fun _ _ _ => ?_)
    | with_reducible refine keeps_vmem (fun h => Memory.wf_memWriteBe _ _ _ _ h) rfl rfl rfl rfl rfl ?_
    | with_reducible refine keeps_vmem (fun h => Memory.wf_memWrite _ _ h) rfl rfl rfl rfl rfl ?_
    | with_reducible refine keeps_vmem (fun h => Memory.wf_filter _ h) rfl rfl rfl rfl rfl ?_
    | with_reducible refine keeps_mems (fun h => wf_mems_set h (Memory.wf_memWriteBe _ _ _ _ (h _))) rfl rfl rfl rfl rfl ?_
    | with_reducible refine keeps_mems (fun h => wf_mems_set h (Memory.wf_memWrite _ _ (h _))) rfl rfl rfl rfl rfl ?_
    | with_reducible refine keeps_mems (fun h => wf_mems_set h (Memory.wf_memCopyIf _ (h _))) rfl rfl rfl rfl rfl ?_
    | with_reducible refine keeps_mems (fun h => wf_mems_set h (Memory.wf_nil)) rfl rfl rfl rfl rfl ?_
    | with_reducible apply vwrite_keeps | with_reducible apply markPages_keeps
    | split
    | dsimp only

theorem fwdApply_keeps {t₀ : State} (e : TwinFwd) (s : State) (h₀ : Keeps t₀ s) :
    Keeps t₀ (fwdApply e s) := by
  unfold fwdApply
  repeat' first
    | with_reducible assumption
    | with_reducible exact fun _ => rfl
    | with_reducible exact fun _ _ => rfl
    | with_reducible exact fun _ => ⟨id, id⟩
    | (rename_i hq; have hq2 := congrArg Prod.snd hq; with_reducible dsimp only at hq2; subst hq2)
    | simp only [↓keeps_mk_iff]
    | with_reducible refine keeps_ite ?_ ?_
    | with_reducible refine outKeeps_ite ?_ ?_
    | with_reducible refine outKeeps_next.2 ?_
    | with_reducible refine keeps_ite2 ?_ ?_
    | with_reducible refine keeps_foldl ?_ (fun _ _ _ => ?_)
    | with_reducible refine keeps_vmem (fun h => Memory.wf_memWriteBe _ _ _ _ h) rfl rfl rfl rfl rfl ?_
    | with_reducible refine keeps_vmem (fun h => Memory.wf_memWrite _ _ h) rfl rfl rfl rfl rfl ?_
    | with_reducible refine keeps_vmem (fun h => Memory.wf_filter _ h) rfl rfl rfl rfl rfl ?_
    | with_reducible refine keeps_mems (fun h => wf_mems_set h (Memory.wf_memWriteBe _ _ _ _ (h _))) rfl rfl rfl rfl rfl ?_
    | with_reducible refine keeps_mems (fun h => wf_mems_set h (Memory.wf_memWrite _ _ (h _))) rfl rfl rfl rfl rfl ?_
    | with_reducible refine keeps_mems (fun h => wf_mems_set h (Memory.wf_memCopyIf _ (h _))) rfl rfl rfl rfl rfl ?_
    | with_reducible refine keeps_mems (fun h => wf_mems_set h (Memory.wf_nil)) rfl rfl rfl rfl rfl ?_
    | with_reducible apply applyEntry_keeps | with_reducible apply markPages_keeps | with_reducible apply markShared_keeps | with_reducible apply setTwl_keeps | with_reducible apply integFail_keeps
    | split
    | dsimp only

theorem joined_keeps {t₀ : State} (s : State) (h₀ : Keeps t₀ s) :
    Keeps t₀ (joined s) := by
  unfold joined
  repeat' first
    | with_reducible assumption
    | with_reducible exact fun _ => rfl
    | with_reducible exact fun _ _ => rfl
    | with_reducible exact fun _ => ⟨id, id⟩
    | (rename_i hq; have hq2 := congrArg Prod.snd hq; with_reducible dsimp only at hq2; subst hq2)
    | simp only [↓keeps_mk_iff]
    | with_reducible refine keeps_ite ?_ ?_
    | with_reducible refine outKeeps_ite ?_ ?_
    | with_reducible refine outKeeps_next.2 ?_
    | with_reducible refine keeps_ite2 ?_ ?_
    | with_reducible refine keeps_foldl ?_ (fun _ _ _ => ?_)
    | with_reducible apply mapTasks_keeps | with_reducible apply raise_keeps | with_reducible apply record_keeps | with_reducible apply twinRole_keeps | with_reducible apply setTwl_keeps
    | split
    | dsimp only

theorem joinTry_keeps {t₀ : State} (s : State) (h₀ : Keeps t₀ s) :
    Keeps t₀ (joinTry s) := by
  unfold joinTry
  repeat' first
    | with_reducible assumption
    | with_reducible exact fun _ => rfl
    | with_reducible exact fun _ _ => rfl
    | with_reducible exact fun _ => ⟨id, id⟩
    | (rename_i hq; have hq2 := congrArg Prod.snd hq; with_reducible dsimp only at hq2; subst hq2)
    | simp only [↓keeps_mk_iff]
    | with_reducible refine keeps_ite ?_ ?_
    | with_reducible refine outKeeps_ite ?_ ?_
    | with_reducible refine outKeeps_next.2 ?_
    | with_reducible refine keeps_ite2 ?_ ?_
    | with_reducible refine keeps_foldl ?_ (fun _ _ _ => ?_)
    | with_reducible apply twinCmd_keeps | with_reducible apply fwdDrain_keeps | with_reducible apply drawOctets_keeps | with_reducible apply setTwl_keeps | with_reducible apply twinSend_keeps | with_reducible apply integFail_keeps
    | split
    | dsimp only

theorem linkFrame_keeps {t₀ : State} (head : TwinHead) (act : State → State) (s : State)
    (ha : ∀ u, Keeps t₀ u → Keeps t₀ (act u)) (h₀ : Keeps t₀ s) : Keeps t₀ (linkFrame head act s) := by
  unfold linkFrame
  exact keeps_ite h₀ (keeps_ite (ha s h₀) (setTwl_keeps _ _ h₀))

theorem execHeartbeatStrobe_keeps {t₀ : State} (dt : Nat) (s : State) (h₀ : Keeps t₀ s) :
    OutKeeps t₀ (execHeartbeatStrobe dt s) := by
  unfold execHeartbeatStrobe
  repeat' first
    | with_reducible assumption
    | with_reducible exact fun _ => rfl
    | with_reducible exact fun _ _ => rfl
    | with_reducible exact fun _ => ⟨id, id⟩
    | (rename_i hq; have hq2 := congrArg Prod.snd hq; with_reducible dsimp only at hq2; subst hq2)
    | simp only [↓keeps_mk_iff]
    | with_reducible refine keeps_ite ?_ ?_
    | with_reducible refine outKeeps_ite ?_ ?_
    | with_reducible refine outKeeps_next.2 ?_
    | with_reducible refine keeps_ite2 ?_ ?_
    | with_reducible refine keeps_foldl ?_ (fun _ _ _ => ?_)
    | with_reducible apply advance_keeps | with_reducible apply setTwl_keeps | with_reducible apply twinSend_keeps
    | split
    | dsimp only

theorem beatShown_keeps {t₀ : State} (b : TwinBeat) (s : State) (h₀ : Keeps t₀ s) :
    Keeps t₀ (beatShown b s) := by
  unfold beatShown
  repeat' first
    | with_reducible assumption
    | with_reducible exact fun _ => rfl
    | with_reducible exact fun _ _ => rfl
    | with_reducible exact fun _ => ⟨id, id⟩
    | (rename_i hq; have hq2 := congrArg Prod.snd hq; with_reducible dsimp only at hq2; subst hq2)
    | simp only [↓keeps_mk_iff]
    | with_reducible refine keeps_ite ?_ ?_
    | with_reducible refine outKeeps_ite ?_ ?_
    | with_reducible refine outKeeps_next.2 ?_
    | with_reducible refine keeps_ite2 ?_ ?_
    | with_reducible refine keeps_foldl ?_ (fun _ _ _ => ?_)
    | with_reducible apply pathBeat_keeps | with_reducible apply setTwl_keeps | with_reducible apply peerGone_keeps | with_reducible apply integBegin_keeps
    | split
    | dsimp only

theorem execHeartbeatReceived_keeps {t₀ : State} (dt : Nat) (rx : BeatRx) (s : State) (h₀ : Keeps t₀ s) :
    OutKeeps t₀ (execHeartbeatReceived dt rx s) := by
  unfold execHeartbeatReceived
  repeat' first
    | with_reducible assumption
    | with_reducible exact fun _ => rfl
    | with_reducible exact fun _ _ => rfl
    | with_reducible exact fun _ => ⟨id, id⟩
    | (rename_i hq; have hq2 := congrArg Prod.snd hq; with_reducible dsimp only at hq2; subst hq2)
    | simp only [↓keeps_mk_iff]
    | with_reducible refine keeps_ite ?_ ?_
    | with_reducible refine outKeeps_ite ?_ ?_
    | with_reducible refine outKeeps_next.2 ?_
    | with_reducible refine keeps_ite2 ?_ ?_
    | with_reducible refine keeps_foldl ?_ (fun _ _ _ => ?_)
    | (intro b u hu; dsimp only)
    | intro b u hu
    | (intro u hu; dsimp only)
    | intro u hu
    | with_reducible apply advance_keeps | with_reducible apply linkFrame_keeps | with_reducible apply beatShown_keeps | with_reducible apply integBegin_keeps | with_reducible apply pathBeat_keeps
    | split
    | dsimp only

theorem execHeartbeatMiss_keeps {t₀ : State} (dt : Nat) (way : TwinWay) (s : State) (h₀ : Keeps t₀ s) :
    OutKeeps t₀ (execHeartbeatMiss dt way s) := by
  unfold execHeartbeatMiss
  repeat' first
    | with_reducible assumption
    | with_reducible exact fun _ => rfl
    | with_reducible exact fun _ _ => rfl
    | with_reducible exact fun _ => ⟨id, id⟩
    | (rename_i hq; have hq2 := congrArg Prod.snd hq; with_reducible dsimp only at hq2; subst hq2)
    | simp only [↓keeps_mk_iff]
    | with_reducible refine keeps_ite ?_ ?_
    | with_reducible refine outKeeps_ite ?_ ?_
    | with_reducible refine outKeeps_next.2 ?_
    | with_reducible refine keeps_ite2 ?_ ?_
    | with_reducible refine keeps_foldl ?_ (fun _ _ _ => ?_)
    | with_reducible apply advance_keeps | with_reducible apply setPath_keeps | with_reducible apply pathDown_keeps
    | split
    | dsimp only

theorem execTwinFaultReceived_keeps {t₀ : State} (dt : Nat) (rx : FaultRx) (s : State) (h₀ : Keeps t₀ s) :
    OutKeeps t₀ (execTwinFaultReceived dt rx s) := by
  unfold execTwinFaultReceived
  repeat' first
    | with_reducible assumption
    | with_reducible exact fun _ => rfl
    | with_reducible exact fun _ _ => rfl
    | with_reducible exact fun _ => ⟨id, id⟩
    | (rename_i hq; have hq2 := congrArg Prod.snd hq; with_reducible dsimp only at hq2; subst hq2)
    | simp only [↓keeps_mk_iff]
    | with_reducible refine keeps_ite ?_ ?_
    | with_reducible refine outKeeps_ite ?_ ?_
    | with_reducible refine outKeeps_next.2 ?_
    | with_reducible refine keeps_ite2 ?_ ?_
    | with_reducible refine keeps_foldl ?_ (fun _ _ _ => ?_)
    | (intro b u hu; dsimp only)
    | intro b u hu
    | (intro u hu; dsimp only)
    | intro u hu
    | with_reducible apply advance_keeps | with_reducible apply linkFrame_keeps | with_reducible apply peerGone_keeps | with_reducible apply setTwl_keeps
    | split
    | dsimp only

theorem execTakeoverGateRelease_keeps {t₀ : State} (dt : Nat) (s : State) (h₀ : Keeps t₀ s) :
    OutKeeps t₀ (execTakeoverGateRelease dt s) := by
  unfold execTakeoverGateRelease
  repeat' first
    | with_reducible assumption
    | with_reducible exact fun _ => rfl
    | with_reducible exact fun _ _ => rfl
    | with_reducible exact fun _ => ⟨id, id⟩
    | (rename_i hq; have hq2 := congrArg Prod.snd hq; with_reducible dsimp only at hq2; subst hq2)
    | simp only [↓keeps_mk_iff]
    | with_reducible refine keeps_ite ?_ ?_
    | with_reducible refine outKeeps_ite ?_ ?_
    | with_reducible refine outKeeps_next.2 ?_
    | with_reducible refine keeps_ite2 ?_ ?_
    | with_reducible refine keeps_foldl ?_ (fun _ _ _ => ?_)
    | with_reducible apply advance_keeps | with_reducible apply twinHold_keeps | with_reducible apply setTwl_keeps | with_reducible apply noteTakeover_keeps | with_reducible apply record_keeps
    | split
    | dsimp only

theorem execTwinRequestedReset_keeps {t₀ : State} (dt : Nat) (s : State) (h₀ : Keeps t₀ s) :
    OutKeeps t₀ (execTwinRequestedReset dt s) := by
  unfold execTwinRequestedReset
  repeat' first
    | with_reducible assumption
    | with_reducible exact fun _ => rfl
    | with_reducible exact fun _ _ => rfl
    | with_reducible exact fun _ => ⟨id, id⟩
    | (rename_i hq; have hq2 := congrArg Prod.snd hq; with_reducible dsimp only at hq2; subst hq2)
    | simp only [↓keeps_mk_iff]
    | with_reducible refine keeps_ite ?_ ?_
    | with_reducible refine outKeeps_ite ?_ ?_
    | with_reducible refine outKeeps_next.2 ?_
    | with_reducible refine keeps_ite2 ?_ ?_
    | with_reducible refine keeps_foldl ?_ (fun _ _ _ => ?_)
    | with_reducible apply advance_keeps | with_reducible apply moduleReset_keeps
    | split
    | dsimp only

theorem keepInput_keeps {t₀ : State} (task : Fin 8) (cycle offset : Nat) (bs : List Byte) (s : State) (h₀ : Keeps t₀ s) :
    Keeps t₀ (keepInput task cycle offset bs s) := by
  unfold keepInput
  repeat' first
    | with_reducible assumption
    | with_reducible exact fun _ => rfl
    | with_reducible exact fun _ _ => rfl
    | with_reducible exact fun _ => ⟨id, id⟩
    | (rename_i hq; have hq2 := congrArg Prod.snd hq; with_reducible dsimp only at hq2; subst hq2)
    | simp only [↓keeps_mk_iff]
    | with_reducible refine keeps_ite ?_ ?_
    | with_reducible refine outKeeps_ite ?_ ?_
    | with_reducible refine outKeeps_next.2 ?_
    | with_reducible refine keeps_ite2 ?_ ?_
    | with_reducible refine keeps_foldl ?_ (fun _ _ _ => ?_)
    | with_reducible refine keeps_vmem (fun h => Memory.wf_memWriteBe _ _ _ _ h) rfl rfl rfl rfl rfl ?_
    | with_reducible refine keeps_vmem (fun h => Memory.wf_memWrite _ _ h) rfl rfl rfl rfl rfl ?_
    | with_reducible refine keeps_vmem (fun h => Memory.wf_filter _ h) rfl rfl rfl rfl rfl ?_
    | with_reducible refine keeps_mems (fun h => wf_mems_set h (Memory.wf_memWriteBe _ _ _ _ (h _))) rfl rfl rfl rfl rfl ?_
    | with_reducible refine keeps_mems (fun h => wf_mems_set h (Memory.wf_memWrite _ _ (h _))) rfl rfl rfl rfl rfl ?_
    | with_reducible refine keeps_mems (fun h => wf_mems_set h (Memory.wf_memCopyIf _ (h _))) rfl rfl rfl rfl rfl ?_
    | with_reducible refine keeps_mems (fun h => wf_mems_set h (Memory.wf_nil)) rfl rfl rfl rfl rfl ?_
    | with_reducible apply setTwl_keeps
    | split
    | dsimp only

theorem execTwinInputFrame_keeps {t₀ : State} (head : TwinHead) (task : Fin 8) (cycle : BitVec 64) (offset : BitVec 32) (octets : List (BitVec 8)) (s : State) (h₀ : Keeps t₀ s) :
    OutKeeps t₀ (execTwinInputFrame head task cycle offset octets s) := by
  unfold execTwinInputFrame
  repeat' first
    | with_reducible assumption
    | with_reducible exact fun _ => rfl
    | with_reducible exact fun _ _ => rfl
    | with_reducible exact fun _ => ⟨id, id⟩
    | (rename_i hq; have hq2 := congrArg Prod.snd hq; with_reducible dsimp only at hq2; subst hq2)
    | simp only [↓keeps_mk_iff]
    | with_reducible refine keeps_ite ?_ ?_
    | with_reducible refine outKeeps_ite ?_ ?_
    | with_reducible refine outKeeps_next.2 ?_
    | with_reducible refine keeps_ite2 ?_ ?_
    | with_reducible refine keeps_foldl ?_ (fun _ _ _ => ?_)
    | (intro b u hu; dsimp only)
    | intro b u hu
    | (intro u hu; dsimp only)
    | intro u hu
    | with_reducible apply linkFrame_keeps | with_reducible apply keepInput_keeps
    | split
    | dsimp only

theorem execTwinRxframe_keeps {t₀ : State} (head : TwinHead) (port : Fin 2) (sec : BitVec 48) (ns : BitVec 32) (frame : EthFrame) (s : State) (h₀ : Keeps t₀ s) :
    OutKeeps t₀ (execTwinRxframe head port sec ns frame s) := by
  unfold execTwinRxframe
  repeat' first
    | with_reducible assumption
    | with_reducible exact fun _ => rfl
    | with_reducible exact fun _ _ => rfl
    | with_reducible exact fun _ => ⟨id, id⟩
    | (rename_i hq; have hq2 := congrArg Prod.snd hq; with_reducible dsimp only at hq2; subst hq2)
    | simp only [↓keeps_mk_iff]
    | with_reducible refine keeps_ite ?_ ?_
    | with_reducible refine outKeeps_ite ?_ ?_
    | with_reducible refine outKeeps_next.2 ?_
    | with_reducible refine keeps_ite2 ?_ ?_
    | with_reducible refine keeps_foldl ?_ (fun _ _ _ => ?_)
    | (intro b u hu; dsimp only)
    | intro b u hu
    | (intro u hu; dsimp only)
    | intro u hu
    | with_reducible apply linkFrame_keeps | with_reducible apply laneFrame_keeps
    | split
    | dsimp only

theorem execTwinTimeFrame_keeps {t₀ : State} (dt : Nat) (head : TwinHead) (frame : TimeFrame) (s : State) (h₀ : Keeps t₀ s) :
    OutKeeps t₀ (execTwinTimeFrame dt head frame s) := by
  unfold execTwinTimeFrame
  repeat' first
    | with_reducible assumption
    | with_reducible exact fun _ => rfl
    | with_reducible exact fun _ _ => rfl
    | with_reducible exact fun _ => ⟨id, id⟩
    | (rename_i hq; have hq2 := congrArg Prod.snd hq; with_reducible dsimp only at hq2; subst hq2)
    | simp only [↓keeps_mk_iff]
    | with_reducible refine keeps_ite ?_ ?_
    | with_reducible refine outKeeps_ite ?_ ?_
    | with_reducible refine outKeeps_next.2 ?_
    | with_reducible refine keeps_ite2 ?_ ?_
    | with_reducible refine keeps_foldl ?_ (fun _ _ _ => ?_)
    | (intro b u hu; dsimp only)
    | intro b u hu
    | (intro u hu; dsimp only)
    | intro u hu
    | with_reducible apply linkFrame_keeps | with_reducible apply servo_keeps | with_reducible apply advance_keeps
    | split
    | dsimp only

theorem sharedCopies_keeps {t₀ : State} (n : Fin 8) (s : State) (h₀ : Keeps t₀ s) :
    Keeps t₀ (sharedCopies n s) := by
  unfold sharedCopies
  repeat' first
    | with_reducible assumption
    | with_reducible exact fun _ => rfl
    | with_reducible exact fun _ _ => rfl
    | with_reducible exact fun _ => ⟨id, id⟩
    | (rename_i hq; have hq2 := congrArg Prod.snd hq; with_reducible dsimp only at hq2; subst hq2)
    | simp only [↓keeps_mk_iff]
    | with_reducible refine keeps_ite ?_ ?_
    | with_reducible refine outKeeps_ite ?_ ?_
    | with_reducible refine outKeeps_next.2 ?_
    | with_reducible refine keeps_ite2 ?_ ?_
    | with_reducible refine keeps_foldl ?_ (fun _ _ _ => ?_)
    | with_reducible apply commitEntry_keeps
    | split
    | dsimp only

theorem execTwinCheckFrame_keeps {t₀ : State} (head : TwinHead) (task : Fin 8) (committed : Bool) (cycle : BitVec 64) (crc : BitVec 32) (s : State) (h₀ : Keeps t₀ s) :
    OutKeeps t₀ (execTwinCheckFrame head task committed cycle crc s) := by
  unfold execTwinCheckFrame
  repeat' first
    | with_reducible assumption
    | with_reducible exact fun _ => rfl
    | with_reducible exact fun _ _ => rfl
    | with_reducible exact fun _ => ⟨id, id⟩
    | (rename_i hq; have hq2 := congrArg Prod.snd hq; with_reducible dsimp only at hq2; subst hq2)
    | simp only [↓keeps_mk_iff]
    | with_reducible refine keeps_ite ?_ ?_
    | with_reducible refine outKeeps_ite ?_ ?_
    | with_reducible refine outKeeps_next.2 ?_
    | with_reducible refine keeps_ite2 ?_ ?_
    | with_reducible refine keeps_foldl ?_ (fun _ _ _ => ?_)
    | (intro b u hu; dsimp only)
    | intro b u hu
    | (intro u hu; dsimp only)
    | intro u hu
    | with_reducible apply linkFrame_keeps | with_reducible apply twinReset_keeps | with_reducible apply checkPeer_keeps | with_reducible apply setTask_keeps | with_reducible apply sharedCopies_keeps
    | split
    | dsimp only

theorem execTwinHealthFrame_keeps {t₀ : State} (head : TwinHead) (flags : BitVec 32) (counts : BitVec 96) (s : State) (h₀ : Keeps t₀ s) :
    OutKeeps t₀ (execTwinHealthFrame head flags counts s) := by
  unfold execTwinHealthFrame
  repeat' first
    | with_reducible assumption
    | with_reducible exact fun _ => rfl
    | with_reducible exact fun _ _ => rfl
    | with_reducible exact fun _ => ⟨id, id⟩
    | (rename_i hq; have hq2 := congrArg Prod.snd hq; with_reducible dsimp only at hq2; subst hq2)
    | simp only [↓keeps_mk_iff]
    | with_reducible refine keeps_ite ?_ ?_
    | with_reducible refine outKeeps_ite ?_ ?_
    | with_reducible refine outKeeps_next.2 ?_
    | with_reducible refine keeps_ite2 ?_ ?_
    | with_reducible refine keeps_foldl ?_ (fun _ _ _ => ?_)
    | (intro b u hu; dsimp only)
    | intro b u hu
    | (intro u hu; dsimp only)
    | intro u hu
    | with_reducible apply linkFrame_keeps | with_reducible apply setTwl_keeps | with_reducible apply raise_keeps
    | split
    | dsimp only

theorem execTwinCraze_keeps {t₀ : State} (flag : Fin 32) (s : State) (h₀ : Keeps t₀ s) :
    OutKeeps t₀ (execTwinCraze flag s) := by
  unfold execTwinCraze
  repeat' first
    | with_reducible assumption
    | with_reducible exact fun _ => rfl
    | with_reducible exact fun _ _ => rfl
    | with_reducible exact fun _ => ⟨id, id⟩
    | (rename_i hq; have hq2 := congrArg Prod.snd hq; with_reducible dsimp only at hq2; subst hq2)
    | simp only [↓keeps_mk_iff]
    | with_reducible refine keeps_ite ?_ ?_
    | with_reducible refine outKeeps_ite ?_ ?_
    | with_reducible refine outKeeps_next.2 ?_
    | with_reducible refine keeps_ite2 ?_ ?_
    | with_reducible refine keeps_foldl ?_ (fun _ _ _ => ?_)
    | with_reducible apply record_keeps | with_reducible apply setTwl_keeps
    | split
    | dsimp only

theorem execCrazeFlagClear_keeps {t₀ : State} (flag : Fin 32) (s : State) (h₀ : Keeps t₀ s) :
    OutKeeps t₀ (execCrazeFlagClear flag s) := by
  unfold execCrazeFlagClear
  repeat' first
    | with_reducible assumption
    | with_reducible exact fun _ => rfl
    | with_reducible exact fun _ _ => rfl
    | with_reducible exact fun _ => ⟨id, id⟩
    | (rename_i hq; have hq2 := congrArg Prod.snd hq; with_reducible dsimp only at hq2; subst hq2)
    | simp only [↓keeps_mk_iff]
    | with_reducible refine keeps_ite ?_ ?_
    | with_reducible refine outKeeps_ite ?_ ?_
    | with_reducible refine outKeeps_next.2 ?_
    | with_reducible refine keeps_ite2 ?_ ?_
    | with_reducible refine keeps_foldl ?_ (fun _ _ _ => ?_)
    | with_reducible apply setTwl_keeps
    | split
    | dsimp only

theorem execTwinCmdRevertReq_keeps {t₀ : State} (dt : Nat) (head : TwinHead) (s : State) (h₀ : Keeps t₀ s) :
    OutKeeps t₀ (execTwinCmdRevertReq dt head s) := by
  unfold execTwinCmdRevertReq
  repeat' first
    | with_reducible assumption
    | with_reducible exact fun _ => rfl
    | with_reducible exact fun _ _ => rfl
    | with_reducible exact fun _ => ⟨id, id⟩
    | (rename_i hq; have hq2 := congrArg Prod.snd hq; with_reducible dsimp only at hq2; subst hq2)
    | simp only [↓keeps_mk_iff]
    | with_reducible refine keeps_ite ?_ ?_
    | with_reducible refine outKeeps_ite ?_ ?_
    | with_reducible refine outKeeps_next.2 ?_
    | with_reducible refine keeps_ite2 ?_ ?_
    | with_reducible refine keeps_foldl ?_ (fun _ _ _ => ?_)
    | (intro b u hu; dsimp only)
    | intro b u hu
    | (intro u hu; dsimp only)
    | intro u hu
    | with_reducible apply linkFrame_keeps | with_reducible apply twinCmd_keeps | with_reducible apply setTwl_keeps | with_reducible apply record_keeps | with_reducible apply advance_keeps
    | split
    | dsimp only

theorem execTwinCmdHandover_keeps {t₀ : State} (dt : Nat) (head : TwinHead) (tick : BitVec 64) (s : State) (h₀ : Keeps t₀ s) :
    OutKeeps t₀ (execTwinCmdHandover dt head tick s) := by
  unfold execTwinCmdHandover
  repeat' first
    | with_reducible assumption
    | with_reducible exact fun _ => rfl
    | with_reducible exact fun _ _ => rfl
    | with_reducible exact fun _ => ⟨id, id⟩
    | (rename_i hq; have hq2 := congrArg Prod.snd hq; with_reducible dsimp only at hq2; subst hq2)
    | simp only [↓keeps_mk_iff]
    | with_reducible refine keeps_ite ?_ ?_
    | with_reducible refine outKeeps_ite ?_ ?_
    | with_reducible refine outKeeps_next.2 ?_
    | with_reducible refine keeps_ite2 ?_ ?_
    | with_reducible refine keeps_foldl ?_ (fun _ _ _ => ?_)
    | (intro b u hu; dsimp only)
    | intro b u hu
    | (intro u hu; dsimp only)
    | intro u hu
    | with_reducible apply linkFrame_keeps | with_reducible apply twinCmd_keeps | with_reducible apply setTwl_keeps | with_reducible apply advance_keeps
    | split
    | dsimp only

theorem execTwinCmdHandoverAck_keeps {t₀ : State} (head : TwinHead) (tick : BitVec 64) (s : State) (h₀ : Keeps t₀ s) :
    OutKeeps t₀ (execTwinCmdHandoverAck head tick s) := by
  unfold execTwinCmdHandoverAck
  repeat' first
    | with_reducible assumption
    | with_reducible exact fun _ => rfl
    | with_reducible exact fun _ _ => rfl
    | with_reducible exact fun _ => ⟨id, id⟩
    | (rename_i hq; have hq2 := congrArg Prod.snd hq; with_reducible dsimp only at hq2; subst hq2)
    | simp only [↓keeps_mk_iff]
    | with_reducible refine keeps_ite ?_ ?_
    | with_reducible refine outKeeps_ite ?_ ?_
    | with_reducible refine outKeeps_next.2 ?_
    | with_reducible refine keeps_ite2 ?_ ?_
    | with_reducible refine keeps_foldl ?_ (fun _ _ _ => ?_)
    | (intro b u hu; dsimp only)
    | intro b u hu
    | (intro u hu; dsimp only)
    | intro u hu
    | with_reducible apply linkFrame_keeps | with_reducible apply setTwl_keeps
    | split
    | dsimp only

theorem handoverDone_keeps {t₀ : State} (n : Nat) (s : State) (h₀ : Keeps t₀ s) :
    Keeps t₀ (handoverDone n s) := by
  unfold handoverDone
  repeat' first
    | with_reducible assumption
    | with_reducible exact fun _ => rfl
    | with_reducible exact fun _ _ => rfl
    | with_reducible exact fun _ => ⟨id, id⟩
    | (rename_i hq; have hq2 := congrArg Prod.snd hq; with_reducible dsimp only at hq2; subst hq2)
    | simp only [↓keeps_mk_iff]
    | with_reducible refine keeps_ite ?_ ?_
    | with_reducible refine outKeeps_ite ?_ ?_
    | with_reducible refine outKeeps_next.2 ?_
    | with_reducible refine keeps_ite2 ?_ ?_
    | with_reducible refine keeps_foldl ?_ (fun _ _ _ => ?_)
    | with_reducible apply raise_keeps | with_reducible apply record_keeps
    | split
    | dsimp only

theorem execHandoverHoldChange_keeps {t₀ : State} (dt : Nat) (s : State) (h₀ : Keeps t₀ s) :
    OutKeeps t₀ (execHandoverHoldChange dt s) := by
  unfold execHandoverHoldChange
  repeat' first
    | with_reducible assumption
    | with_reducible exact fun _ => rfl
    | with_reducible exact fun _ _ => rfl
    | with_reducible exact fun _ => ⟨id, id⟩
    | (rename_i hq; have hq2 := congrArg Prod.snd hq; with_reducible dsimp only at hq2; subst hq2)
    | simp only [↓keeps_mk_iff]
    | with_reducible refine keeps_ite ?_ ?_
    | with_reducible refine outKeeps_ite ?_ ?_
    | with_reducible refine outKeeps_next.2 ?_
    | with_reducible refine keeps_ite2 ?_ ?_
    | with_reducible refine keeps_foldl ?_ (fun _ _ _ => ?_)
    | with_reducible apply advance_keeps | with_reducible apply handoverDone_keeps | with_reducible apply xnbTakeover_keeps | with_reducible apply becomeActive_keeps | with_reducible apply twinHold_keeps | with_reducible apply setTwl_keeps | with_reducible apply xnbRelease_keeps | with_reducible apply twinRole_keeps | with_reducible apply twinCmd_keeps
    | split
    | dsimp only

theorem execTwinCmdOlcSwitch_keeps {t₀ : State} (head : TwinHead) (tick : BitVec 64) (s : State) (h₀ : Keeps t₀ s) :
    OutKeeps t₀ (execTwinCmdOlcSwitch head tick s) := by
  unfold execTwinCmdOlcSwitch
  repeat' first
    | with_reducible assumption
    | with_reducible exact fun _ => rfl
    | with_reducible exact fun _ _ => rfl
    | with_reducible exact fun _ => ⟨id, id⟩
    | (rename_i hq; have hq2 := congrArg Prod.snd hq; with_reducible dsimp only at hq2; subst hq2)
    | simp only [↓keeps_mk_iff]
    | with_reducible refine keeps_ite ?_ ?_
    | with_reducible refine outKeeps_ite ?_ ?_
    | with_reducible refine outKeeps_next.2 ?_
    | with_reducible refine keeps_ite2 ?_ ?_
    | with_reducible refine keeps_foldl ?_ (fun _ _ _ => ?_)
    | (intro b u hu; dsimp only)
    | intro b u hu
    | (intro u hu; dsimp only)
    | intro u hu
    | with_reducible apply linkFrame_keeps
    | split
    | dsimp only

theorem execTwinCmdIntegStart_keeps {t₀ : State} (dt : Nat) (head : TwinHead) (info : IntegInfo) (s : State) (h₀ : Keeps t₀ s) :
    OutKeeps t₀ (execTwinCmdIntegStart dt head info s) := by
  unfold execTwinCmdIntegStart
  repeat' first
    | with_reducible assumption
    | with_reducible exact fun _ => rfl
    | with_reducible exact fun _ _ => rfl
    | with_reducible exact fun _ => ⟨id, id⟩
    | (rename_i hq; have hq2 := congrArg Prod.snd hq; with_reducible dsimp only at hq2; subst hq2)
    | simp only [↓keeps_mk_iff]
    | with_reducible refine keeps_ite ?_ ?_
    | with_reducible refine outKeeps_ite ?_ ?_
    | with_reducible refine outKeeps_next.2 ?_
    | with_reducible refine keeps_ite2 ?_ ?_
    | with_reducible refine keeps_foldl ?_ (fun _ _ _ => ?_)
    | (intro b u hu; dsimp only)
    | intro b u hu
    | (intro u hu; dsimp only)
    | intro u hu
    | with_reducible apply linkFrame_keeps | with_reducible apply twinCmd_keeps | with_reducible apply setTwl_keeps | with_reducible apply integFail_keeps | with_reducible apply advance_keeps
    | split
    | dsimp only

theorem execTwinLatencyDone_keeps {t₀ : State} (dt : Nat) (meanRoundTrip : BitVec 32) (s : State) (h₀ : Keeps t₀ s) :
    OutKeeps t₀ (execTwinLatencyDone dt meanRoundTrip s) := by
  unfold execTwinLatencyDone
  repeat' first
    | with_reducible assumption
    | with_reducible exact fun _ => rfl
    | with_reducible exact fun _ _ => rfl
    | with_reducible exact fun _ => ⟨id, id⟩
    | (rename_i hq; have hq2 := congrArg Prod.snd hq; with_reducible dsimp only at hq2; subst hq2)
    | simp only [↓keeps_mk_iff]
    | with_reducible refine keeps_ite ?_ ?_
    | with_reducible refine outKeeps_ite ?_ ?_
    | with_reducible refine outKeeps_next.2 ?_
    | with_reducible refine keeps_ite2 ?_ ?_
    | with_reducible refine keeps_foldl ?_ (fun _ _ _ => ?_)
    | with_reducible apply advance_keeps | with_reducible apply setTwl_keeps | with_reducible apply execDispatch_keeps
    | split
    | dsimp only

theorem execTwinPageFrame_keeps {t₀ : State} (head : TwinHead) (addr : BitVec 64) (octets : List (BitVec 8)) (s : State) (h₀ : Keeps t₀ s) :
    OutKeeps t₀ (execTwinPageFrame head addr octets s) := by
  unfold execTwinPageFrame
  repeat' first
    | with_reducible assumption
    | with_reducible exact fun _ => rfl
    | with_reducible exact fun _ _ => rfl
    | with_reducible exact fun _ => ⟨id, id⟩
    | (rename_i hq; have hq2 := congrArg Prod.snd hq; with_reducible dsimp only at hq2; subst hq2)
    | simp only [↓keeps_mk_iff]
    | with_reducible refine keeps_ite ?_ ?_
    | with_reducible refine outKeeps_ite ?_ ?_
    | with_reducible refine outKeeps_next.2 ?_
    | with_reducible refine keeps_ite2 ?_ ?_
    | with_reducible refine keeps_foldl ?_ (fun _ _ _ => ?_)
    | (intro b u hu; dsimp only)
    | intro b u hu
    | (intro u hu; dsimp only)
    | intro u hu
    | with_reducible apply linkFrame_keeps | with_reducible apply pageLoad_keeps | with_reducible apply setTwl_keeps
    | split
    | dsimp only

theorem execTwinFwdFrame_keeps {t₀ : State} (head : TwinHead) (entries : List TwinFwd) (s : State) (h₀ : Keeps t₀ s) :
    OutKeeps t₀ (execTwinFwdFrame head entries s) := by
  unfold execTwinFwdFrame
  repeat' first
    | with_reducible assumption
    | with_reducible exact fun _ => rfl
    | with_reducible exact fun _ _ => rfl
    | with_reducible exact fun _ => ⟨id, id⟩
    | (rename_i hq; have hq2 := congrArg Prod.snd hq; with_reducible dsimp only at hq2; subst hq2)
    | simp only [↓keeps_mk_iff]
    | with_reducible refine keeps_ite ?_ ?_
    | with_reducible refine outKeeps_ite ?_ ?_
    | with_reducible refine outKeeps_next.2 ?_
    | with_reducible refine keeps_ite2 ?_ ?_
    | with_reducible refine keeps_foldl ?_ (fun _ _ _ => ?_)
    | (intro b u hu; dsimp only)
    | intro b u hu
    | (intro u hu; dsimp only)
    | intro u hu
    | with_reducible apply linkFrame_keeps | with_reducible apply fwdApply_keeps
    | split
    | dsimp only

theorem execTwinCopyDone_keeps {t₀ : State} (dt : Nat) (s : State) (h₀ : Keeps t₀ s) :
    OutKeeps t₀ (execTwinCopyDone dt s) := by
  unfold execTwinCopyDone
  repeat' first
    | with_reducible assumption
    | with_reducible exact fun _ => rfl
    | with_reducible exact fun _ _ => rfl
    | with_reducible exact fun _ => ⟨id, id⟩
    | (rename_i hq; have hq2 := congrArg Prod.snd hq; with_reducible dsimp only at hq2; subst hq2)
    | simp only [↓keeps_mk_iff]
    | with_reducible refine keeps_ite ?_ ?_
    | with_reducible refine outKeeps_ite ?_ ?_
    | with_reducible refine outKeeps_next.2 ?_
    | with_reducible refine keeps_ite2 ?_ ?_
    | with_reducible refine keeps_foldl ?_ (fun _ _ _ => ?_)
    | with_reducible apply advance_keeps | with_reducible apply setTwl_keeps | with_reducible apply sendPage_keeps
    | split
    | dsimp only

theorem execTwinChecksumDone_keeps {t₀ : State} (dt : Nat) (s : State) (h₀ : Keeps t₀ s) :
    OutKeeps t₀ (execTwinChecksumDone dt s) := by
  unfold execTwinChecksumDone
  repeat' first
    | with_reducible assumption
    | with_reducible exact fun _ => rfl
    | with_reducible exact fun _ _ => rfl
    | with_reducible exact fun _ => ⟨id, id⟩
    | (rename_i hq; have hq2 := congrArg Prod.snd hq; with_reducible dsimp only at hq2; subst hq2)
    | simp only [↓keeps_mk_iff]
    | with_reducible refine keeps_ite ?_ ?_
    | with_reducible refine outKeeps_ite ?_ ?_
    | with_reducible refine outKeeps_next.2 ?_
    | with_reducible refine keeps_ite2 ?_ ?_
    | with_reducible refine keeps_foldl ?_ (fun _ _ _ => ?_)
    | with_reducible apply advance_keeps | with_reducible apply setTwl_keeps | with_reducible apply sendMarker_keeps | with_reducible apply fwdDrain_keeps
    | split
    | dsimp only

theorem execTwinCmdJoin_keeps {t₀ : State} (dt : Nat) (head : TwinHead) (tick : BitVec 64) (s : State) (h₀ : Keeps t₀ s) :
    OutKeeps t₀ (execTwinCmdJoin dt head tick s) := by
  unfold execTwinCmdJoin
  repeat' first
    | with_reducible assumption
    | with_reducible exact fun _ => rfl
    | with_reducible exact fun _ _ => rfl
    | with_reducible exact fun _ => ⟨id, id⟩
    | (rename_i hq; have hq2 := congrArg Prod.snd hq; with_reducible dsimp only at hq2; subst hq2)
    | simp only [↓keeps_mk_iff]
    | with_reducible refine keeps_ite ?_ ?_
    | with_reducible refine outKeeps_ite ?_ ?_
    | with_reducible refine outKeeps_next.2 ?_
    | with_reducible refine keeps_ite2 ?_ ?_
    | with_reducible refine keeps_foldl ?_ (fun _ _ _ => ?_)
    | (intro b u hu; dsimp only)
    | intro b u hu
    | (intro u hu; dsimp only)
    | intro u hu
    | with_reducible apply linkFrame_keeps | with_reducible apply setTwl_keeps | with_reducible apply advance_keeps
    | split
    | dsimp only

theorem execTwinStaterecFrame_keeps {t₀ : State} (dt : Nat) (head : TwinHead) (rcd : StateRec) (s : State) (h₀ : Keeps t₀ s) :
    OutKeeps t₀ (execTwinStaterecFrame dt head rcd s) := by
  unfold execTwinStaterecFrame
  repeat' first
    | with_reducible assumption
    | with_reducible exact fun _ => rfl
    | with_reducible exact fun _ _ => rfl
    | with_reducible exact fun _ => ⟨id, id⟩
    | (rename_i hq; have hq2 := congrArg Prod.snd hq; with_reducible dsimp only at hq2; subst hq2)
    | simp only [↓keeps_mk_iff]
    | with_reducible refine keeps_ite ?_ ?_
    | with_reducible refine outKeeps_ite ?_ ?_
    | with_reducible refine outKeeps_next.2 ?_
    | with_reducible refine keeps_ite2 ?_ ?_
    | with_reducible refine keeps_foldl ?_ (fun _ _ _ => ?_)
    | (intro b u hu; dsimp only)
    | intro b u hu
    | (intro u hu; dsimp only)
    | intro u hu
    | with_reducible apply linkFrame_keeps | with_reducible apply joined_keeps | with_reducible apply advance_keeps
    | split
    | dsimp only

theorem execTwinIntegRetry_keeps {t₀ : State} (dt : Nat) (s : State) (h₀ : Keeps t₀ s) :
    OutKeeps t₀ (execTwinIntegRetry dt s) := by
  unfold execTwinIntegRetry
  repeat' first
    | with_reducible assumption
    | with_reducible exact fun _ => rfl
    | with_reducible exact fun _ _ => rfl
    | with_reducible exact fun _ => ⟨id, id⟩
    | (rename_i hq; have hq2 := congrArg Prod.snd hq; with_reducible dsimp only at hq2; subst hq2)
    | simp only [↓keeps_mk_iff]
    | with_reducible refine keeps_ite ?_ ?_
    | with_reducible refine outKeeps_ite ?_ ?_
    | with_reducible refine outKeeps_next.2 ?_
    | with_reducible refine keeps_ite2 ?_ ?_
    | with_reducible refine keeps_foldl ?_ (fun _ _ _ => ?_)
    | with_reducible apply integBegin_keeps | with_reducible apply setTwl_keeps | with_reducible apply advance_keeps
    | split
    | dsimp only

theorem execTwinPeerIntegratingTimeout_keeps {t₀ : State} (dt : Nat) (s : State) (h₀ : Keeps t₀ s) :
    OutKeeps t₀ (execTwinPeerIntegratingTimeout dt s) := by
  unfold execTwinPeerIntegratingTimeout
  repeat' first
    | with_reducible assumption
    | with_reducible exact fun _ => rfl
    | with_reducible exact fun _ _ => rfl
    | with_reducible exact fun _ => ⟨id, id⟩
    | (rename_i hq; have hq2 := congrArg Prod.snd hq; with_reducible dsimp only at hq2; subst hq2)
    | simp only [↓keeps_mk_iff]
    | with_reducible refine keeps_ite ?_ ?_
    | with_reducible refine outKeeps_ite ?_ ?_
    | with_reducible refine outKeeps_next.2 ?_
    | with_reducible refine keeps_ite2 ?_ ?_
    | with_reducible refine keeps_foldl ?_ (fun _ _ _ => ?_)
    | with_reducible apply advance_keeps | with_reducible apply twinHold_keeps | with_reducible apply becomeActive_keeps
    | split
    | dsimp only

theorem execTwinPeerSilentTimeout_keeps {t₀ : State} (dt : Nat) (s : State) (h₀ : Keeps t₀ s) :
    OutKeeps t₀ (execTwinPeerSilentTimeout dt s) := by
  unfold execTwinPeerSilentTimeout
  repeat' first
    | with_reducible assumption
    | with_reducible exact fun _ => rfl
    | with_reducible exact fun _ _ => rfl
    | with_reducible exact fun _ => ⟨id, id⟩
    | (rename_i hq; have hq2 := congrArg Prod.snd hq; with_reducible dsimp only at hq2; subst hq2)
    | simp only [↓keeps_mk_iff]
    | with_reducible refine keeps_ite ?_ ?_
    | with_reducible refine outKeeps_ite ?_ ?_
    | with_reducible refine outKeeps_next.2 ?_
    | with_reducible refine keeps_ite2 ?_ ?_
    | with_reducible refine keeps_foldl ?_ (fun _ _ _ => ?_)
    | with_reducible apply advance_keeps | with_reducible apply record_keeps | with_reducible apply setTwl_keeps | with_reducible apply becomeActive_keeps
    | split
    | dsimp only

theorem execRevertHoldExpiry_keeps {t₀ : State} (dt : Nat) (s : State) (h₀ : Keeps t₀ s) :
    OutKeeps t₀ (execRevertHoldExpiry dt s) := by
  unfold execRevertHoldExpiry
  repeat' first
    | with_reducible assumption
    | with_reducible exact fun _ => rfl
    | with_reducible exact fun _ _ => rfl
    | with_reducible exact fun _ => ⟨id, id⟩
    | (rename_i hq; have hq2 := congrArg Prod.snd hq; with_reducible dsimp only at hq2; subst hq2)
    | simp only [↓keeps_mk_iff]
    | with_reducible refine keeps_ite ?_ ?_
    | with_reducible refine outKeeps_ite ?_ ?_
    | with_reducible refine outKeeps_next.2 ?_
    | with_reducible refine keeps_ite2 ?_ ?_
    | with_reducible refine keeps_foldl ?_ (fun _ _ _ => ?_)
    | with_reducible apply advance_keeps | with_reducible apply twinCmd_keeps
    | split
    | dsimp only

theorem execTwinFwdHoldRelease_keeps {t₀ : State} (dt : Nat) (s : State) (h₀ : Keeps t₀ s) :
    OutKeeps t₀ (execTwinFwdHoldRelease dt s) := by
  unfold execTwinFwdHoldRelease
  repeat' first
    | with_reducible assumption
    | with_reducible exact fun _ => rfl
    | with_reducible exact fun _ _ => rfl
    | with_reducible exact fun _ => ⟨id, id⟩
    | (rename_i hq; have hq2 := congrArg Prod.snd hq; with_reducible dsimp only at hq2; subst hq2)
    | simp only [↓keeps_mk_iff]
    | with_reducible refine keeps_ite ?_ ?_
    | with_reducible refine outKeeps_ite ?_ ?_
    | with_reducible refine outKeeps_next.2 ?_
    | with_reducible refine keeps_ite2 ?_ ?_
    | with_reducible refine keeps_foldl ?_ (fun _ _ _ => ?_)
    | with_reducible apply advance_keeps | with_reducible apply setTwl_keeps
    | split
    | dsimp only

theorem execTimeFrameInterval_keeps {t₀ : State} (dt : Nat) (s : State) (h₀ : Keeps t₀ s) :
    OutKeeps t₀ (execTimeFrameInterval dt s) := by
  unfold execTimeFrameInterval
  repeat' first
    | with_reducible assumption
    | with_reducible exact fun _ => rfl
    | with_reducible exact fun _ _ => rfl
    | with_reducible exact fun _ => ⟨id, id⟩
    | (rename_i hq; have hq2 := congrArg Prod.snd hq; with_reducible dsimp only at hq2; subst hq2)
    | simp only [↓keeps_mk_iff]
    | with_reducible refine keeps_ite ?_ ?_
    | with_reducible refine outKeeps_ite ?_ ?_
    | with_reducible refine outKeeps_next.2 ?_
    | with_reducible refine keeps_ite2 ?_ ?_
    | with_reducible refine keeps_foldl ?_ (fun _ _ _ => ?_)
    | with_reducible apply advance_keeps | with_reducible apply setTwl_keeps | with_reducible apply twinSend_keeps
    | split
    | dsimp only

theorem execHealthFrameInterval_keeps {t₀ : State} (dt : Nat) (s : State) (h₀ : Keeps t₀ s) :
    OutKeeps t₀ (execHealthFrameInterval dt s) := by
  unfold execHealthFrameInterval
  repeat' first
    | with_reducible assumption
    | with_reducible exact fun _ => rfl
    | with_reducible exact fun _ _ => rfl
    | with_reducible exact fun _ => ⟨id, id⟩
    | (rename_i hq; have hq2 := congrArg Prod.snd hq; with_reducible dsimp only at hq2; subst hq2)
    | simp only [↓keeps_mk_iff]
    | with_reducible refine keeps_ite ?_ ?_
    | with_reducible refine outKeeps_ite ?_ ?_
    | with_reducible refine outKeeps_next.2 ?_
    | with_reducible refine keeps_ite2 ?_ ?_
    | with_reducible refine keeps_foldl ?_ (fun _ _ _ => ?_)
    | with_reducible apply advance_keeps | with_reducible apply drawWord_keeps | with_reducible apply twinSend_keeps
    | split
    | dsimp only

theorem execTwpPulseError_keeps {t₀ : State} (s : State) (h₀ : Keeps t₀ s) :
    OutKeeps t₀ (execTwpPulseError s) := by
  unfold execTwpPulseError
  repeat' first
    | with_reducible assumption
    | with_reducible exact fun _ => rfl
    | with_reducible exact fun _ _ => rfl
    | with_reducible exact fun _ => ⟨id, id⟩
    | (rename_i hq; have hq2 := congrArg Prod.snd hq; with_reducible dsimp only at hq2; subst hq2)
    | simp only [↓keeps_mk_iff]
    | with_reducible refine keeps_ite ?_ ?_
    | with_reducible refine outKeeps_ite ?_ ?_
    | with_reducible refine outKeeps_next.2 ?_
    | with_reducible refine keeps_ite2 ?_ ?_
    | with_reducible refine keeps_foldl ?_ (fun _ _ _ => ?_)
    | with_reducible apply setTwl_keeps
    | split
    | dsimp only

theorem execStandbyImageStage_keeps {t₀ : State} (head : TwinHead) (image : List (BitVec 8)) (s : State) (h₀ : Keeps t₀ s) :
    OutKeeps t₀ (execStandbyImageStage head image s) := by
  unfold execStandbyImageStage
  repeat' first
    | with_reducible assumption
    | with_reducible exact fun _ => rfl
    | with_reducible exact fun _ _ => rfl
    | with_reducible exact fun _ => ⟨id, id⟩
    | (rename_i hq; have hq2 := congrArg Prod.snd hq; with_reducible dsimp only at hq2; subst hq2)
    | simp only [↓keeps_mk_iff]
    | with_reducible refine keeps_ite ?_ ?_
    | with_reducible refine outKeeps_ite ?_ ?_
    | with_reducible refine outKeeps_next.2 ?_
    | with_reducible refine keeps_ite2 ?_ ?_
    | with_reducible refine keeps_foldl ?_ (fun _ _ _ => ?_)
    | (intro b u hu; dsimp only)
    | intro b u hu
    | (intro u hu; dsimp only)
    | intro u hu
    | with_reducible apply linkFrame_keeps | with_reducible apply standbyStage_keeps
    | split
    | dsimp only

theorem moveGrid_keeps {t₀ : State} (s : State) (h₀ : Keeps t₀ s) :
    Keeps t₀ (moveGrid s).2 := by
  unfold moveGrid
  repeat' first
    | with_reducible assumption
    | with_reducible exact fun _ => rfl
    | with_reducible exact fun _ _ => rfl
    | with_reducible exact fun _ => ⟨id, id⟩
    | (rename_i hq; have hq2 := congrArg Prod.snd hq; with_reducible dsimp only at hq2; subst hq2)
    | simp only [↓keeps_mk_iff]
    | with_reducible refine keeps_ite ?_ ?_
    | with_reducible refine outKeeps_ite ?_ ?_
    | with_reducible refine outKeeps_next.2 ?_
    | with_reducible refine keeps_ite2 ?_ ?_
    | with_reducible refine keeps_foldl ?_ (fun _ _ _ => ?_)
    | split
    | dsimp only

theorem execQuietGapStart_keeps {t₀ : State} (dt : Nat) (s : State) (h₀ : Keeps t₀ s) :
    OutKeeps t₀ (execQuietGapStart dt s) := by
  unfold execQuietGapStart
  repeat' first
    | with_reducible assumption
    | with_reducible exact fun _ => rfl
    | with_reducible exact fun _ _ => rfl
    | with_reducible exact fun _ => ⟨id, id⟩
    | (rename_i hq; have hq2 := congrArg Prod.snd hq; with_reducible dsimp only at hq2; subst hq2)
    | simp only [↓keeps_mk_iff]
    | with_reducible refine keeps_ite ?_ ?_
    | with_reducible refine outKeeps_ite ?_ ?_
    | with_reducible refine outKeeps_next.2 ?_
    | with_reducible refine keeps_ite2 ?_ ?_
    | with_reducible refine keeps_foldl ?_ (fun _ _ _ => ?_)
    | with_reducible apply advance_keeps | with_reducible apply moveGrid_keeps | with_reducible apply twinCmd_keeps | with_reducible apply setTwl_keeps | with_reducible apply rewedgeDecide_keeps | with_reducible apply joinTry_keeps
    | split
    | dsimp only

theorem kilnSend_keeps {t₀ : State} (vid : Nat) (f : List Byte) (s : State) (h₀ : Keeps t₀ s) :
    Keeps t₀ (kilnSend vid f s) := by
  unfold kilnSend
  repeat' first
    | with_reducible assumption
    | with_reducible exact fun _ => rfl
    | with_reducible exact fun _ _ => rfl
    | with_reducible exact fun _ => ⟨id, id⟩
    | (rename_i hq; have hq2 := congrArg Prod.snd hq; with_reducible dsimp only at hq2; subst hq2)
    | simp only [↓keeps_mk_iff]
    | with_reducible refine keeps_ite ?_ ?_
    | with_reducible refine outKeeps_ite ?_ ?_
    | with_reducible refine outKeeps_next.2 ?_
    | with_reducible refine keeps_ite2 ?_ ?_
    | with_reducible refine keeps_foldl ?_ (fun _ _ _ => ?_)
    | with_reducible apply setLnc_keeps | with_reducible apply forwardTo_keeps
    | split
    | dsimp only

theorem setCpn_keeps {t₀ : State} (f : Cpn → Cpn) (s : State) (h₀ : Keeps t₀ s) :
    Keeps t₀ (setCpn f s) := by
  unfold setCpn
  repeat' first
    | with_reducible assumption
    | with_reducible exact fun _ => rfl
    | with_reducible exact fun _ _ => rfl
    | with_reducible exact fun _ => ⟨id, id⟩
    | (rename_i hq; have hq2 := congrArg Prod.snd hq; with_reducible dsimp only at hq2; subst hq2)
    | simp only [↓keeps_mk_iff]
    | with_reducible refine keeps_ite ?_ ?_
    | with_reducible refine outKeeps_ite ?_ ?_
    | with_reducible refine outKeeps_next.2 ?_
    | with_reducible refine keeps_ite2 ?_ ?_
    | with_reducible refine keeps_foldl ?_ (fun _ _ _ => ?_)
    | split
    | dsimp only

theorem cpnAccept_keeps {t₀ : State} (lan : Fin 2) (f : List Byte) (s : State) (h₀ : Keeps t₀ s) :
    Keeps t₀ (cpnAccept lan f s) := by
  unfold cpnAccept
  repeat' first
    | with_reducible assumption
    | with_reducible exact fun _ => rfl
    | with_reducible exact fun _ _ => rfl
    | with_reducible exact fun _ => ⟨id, id⟩
    | (rename_i hq; have hq2 := congrArg Prod.snd hq; with_reducible dsimp only at hq2; subst hq2)
    | simp only [↓keeps_mk_iff]
    | with_reducible refine keeps_ite ?_ ?_
    | with_reducible refine outKeeps_ite ?_ ?_
    | with_reducible refine outKeeps_next.2 ?_
    | with_reducible refine keeps_ite2 ?_ ?_
    | with_reducible refine keeps_foldl ?_ (fun _ _ _ => ?_)
    | with_reducible refine keeps_vmem (fun h => Memory.wf_memWriteBe _ _ _ _ h) rfl rfl rfl rfl rfl ?_
    | with_reducible refine keeps_vmem (fun h => Memory.wf_memWrite _ _ h) rfl rfl rfl rfl rfl ?_
    | with_reducible refine keeps_vmem (fun h => Memory.wf_filter _ h) rfl rfl rfl rfl rfl ?_
    | with_reducible refine keeps_mems (fun h => wf_mems_set h (Memory.wf_memWriteBe _ _ _ _ (h _))) rfl rfl rfl rfl rfl ?_
    | with_reducible refine keeps_mems (fun h => wf_mems_set h (Memory.wf_memWrite _ _ (h _))) rfl rfl rfl rfl rfl ?_
    | with_reducible refine keeps_mems (fun h => wf_mems_set h (Memory.wf_memCopyIf _ (h _))) rfl rfl rfl rfl rfl ?_
    | with_reducible refine keeps_mems (fun h => wf_mems_set h (Memory.wf_nil)) rfl rfl rfl rfl rfl ?_
    | with_reducible apply setCpn_keeps
    | split
    | dsimp only

theorem lanHeard_keeps {t₀ : State} (lan : Fin 2) (s : State) (h₀ : Keeps t₀ s) :
    Keeps t₀ (lanHeard lan s) := by
  unfold lanHeard
  repeat' first
    | with_reducible assumption
    | with_reducible exact fun _ => rfl
    | with_reducible exact fun _ _ => rfl
    | with_reducible exact fun _ => ⟨id, id⟩
    | (rename_i hq; have hq2 := congrArg Prod.snd hq; with_reducible dsimp only at hq2; subst hq2)
    | simp only [↓keeps_mk_iff]
    | with_reducible refine keeps_ite ?_ ?_
    | with_reducible refine outKeeps_ite ?_ ?_
    | with_reducible refine outKeeps_next.2 ?_
    | with_reducible refine keeps_ite2 ?_ ?_
    | with_reducible refine keeps_foldl ?_ (fun _ _ _ => ?_)
    | with_reducible apply setCpn_keeps
    | split
    | dsimp only

theorem execSwitchFrameReceived_keeps {t₀ : State} (dt : Nat) (port : Fin 3) (frame : EthFrame) (s : State) (h₀ : Keeps t₀ s) :
    OutKeeps t₀ (execSwitchFrameReceived dt port frame s) := by
  unfold execSwitchFrameReceived
  repeat' first
    | with_reducible assumption
    | with_reducible exact fun _ => rfl
    | with_reducible exact fun _ _ => rfl
    | with_reducible exact fun _ => ⟨id, id⟩
    | (rename_i hq; have hq2 := congrArg Prod.snd hq; with_reducible dsimp only at hq2; subst hq2)
    | simp only [↓keeps_mk_iff]
    | with_reducible refine keeps_ite ?_ ?_
    | with_reducible refine outKeeps_ite ?_ ?_
    | with_reducible refine outKeeps_next.2 ?_
    | with_reducible refine keeps_ite2 ?_ ?_
    | with_reducible refine keeps_foldl ?_ (fun _ _ _ => ?_)
    | with_reducible apply advance_keeps | with_reducible apply setLnc_keeps | with_reducible apply forwardTo_keeps
    | split
    | dsimp only

theorem execMacAddressAgeing_keeps {t₀ : State} (dt : Nat) (vid : BitVec 12) (mac : BitVec 48) (s : State) (h₀ : Keeps t₀ s) :
    OutKeeps t₀ (execMacAddressAgeing dt vid mac s) := by
  unfold execMacAddressAgeing
  repeat' first
    | with_reducible assumption
    | with_reducible exact fun _ => rfl
    | with_reducible exact fun _ _ => rfl
    | with_reducible exact fun _ => ⟨id, id⟩
    | (rename_i hq; have hq2 := congrArg Prod.snd hq; with_reducible dsimp only at hq2; subst hq2)
    | simp only [↓keeps_mk_iff]
    | with_reducible refine keeps_ite ?_ ?_
    | with_reducible refine outKeeps_ite ?_ ?_
    | with_reducible refine outKeeps_next.2 ?_
    | with_reducible refine keeps_ite2 ?_ ?_
    | with_reducible refine keeps_foldl ?_ (fun _ _ _ => ?_)
    | with_reducible apply advance_keeps | with_reducible apply setLnc_keeps
    | split
    | dsimp only

theorem execInternalPortReceive_keeps {t₀ : State} (dt : Nat) (port : Fin 2) (frame : EthFrame) (s : State) (h₀ : Keeps t₀ s) :
    OutKeeps t₀ (execInternalPortReceive dt port frame s) := by
  unfold execInternalPortReceive
  repeat' first
    | with_reducible assumption
    | with_reducible exact fun _ => rfl
    | with_reducible exact fun _ _ => rfl
    | with_reducible exact fun _ => ⟨id, id⟩
    | (rename_i hq; have hq2 := congrArg Prod.snd hq; with_reducible dsimp only at hq2; subst hq2)
    | simp only [↓keeps_mk_iff]
    | with_reducible refine keeps_ite ?_ ?_
    | with_reducible refine outKeeps_ite ?_ ?_
    | with_reducible refine outKeeps_next.2 ?_
    | with_reducible refine keeps_ite2 ?_ ?_
    | with_reducible refine keeps_foldl ?_ (fun _ _ _ => ?_)
    | with_reducible apply advance_keeps | with_reducible apply kilnSend_keeps | with_reducible apply laneFrame_keeps | with_reducible apply sendRx_keeps
    | split
    | dsimp only

theorem execReceiveSlotWrite_keeps {t₀ : State} (dt : Nat) (slot : Fin 16) (s : State) (h₀ : Keeps t₀ s) :
    OutKeeps t₀ (execReceiveSlotWrite dt slot s) := by
  unfold execReceiveSlotWrite
  repeat' first
    | with_reducible assumption
    | with_reducible exact fun _ => rfl
    | with_reducible exact fun _ _ => rfl
    | with_reducible exact fun _ => ⟨id, id⟩
    | (rename_i hq; have hq2 := congrArg Prod.snd hq; with_reducible dsimp only at hq2; subst hq2)
    | simp only [↓keeps_mk_iff]
    | with_reducible refine keeps_ite ?_ ?_
    | with_reducible refine outKeeps_ite ?_ ?_
    | with_reducible refine outKeeps_next.2 ?_
    | with_reducible refine keeps_ite2 ?_ ?_
    | with_reducible refine keeps_foldl ?_ (fun _ _ _ => ?_)
    | with_reducible apply advance_keeps | with_reducible apply slotWrite_keeps | with_reducible apply setLnc_keeps
    | split
    | dsimp only

theorem execLinkChange_keeps {t₀ : State} (dt : Nat) (port : Fin 4) (spd : Fin 3) (s : State) (h₀ : Keeps t₀ s) :
    OutKeeps t₀ (execLinkChange dt port spd s) := by
  unfold execLinkChange
  repeat' first
    | with_reducible assumption
    | with_reducible exact fun _ => rfl
    | with_reducible exact fun _ _ => rfl
    | with_reducible exact fun _ => ⟨id, id⟩
    | (rename_i hq; have hq2 := congrArg Prod.snd hq; with_reducible dsimp only at hq2; subst hq2)
    | simp only [↓keeps_mk_iff]
    | with_reducible refine keeps_ite ?_ ?_
    | with_reducible refine outKeeps_ite ?_ ?_
    | with_reducible refine outKeeps_next.2 ?_
    | with_reducible refine keeps_ite2 ?_ ?_
    | with_reducible refine keeps_foldl ?_ (fun _ _ _ => ?_)
    | with_reducible apply advance_keeps | with_reducible apply linkSet_keeps
    | split
    | dsimp only

theorem execPrpFrameReceived_keeps {t₀ : State} (dt : Nat) (lan : Fin 2) (frame : PrpFrame) (s : State) (h₀ : Keeps t₀ s) :
    OutKeeps t₀ (execPrpFrameReceived dt lan frame s) := by
  unfold execPrpFrameReceived
  repeat' first
    | with_reducible assumption
    | with_reducible exact fun _ => rfl
    | with_reducible exact fun _ _ => rfl
    | with_reducible exact fun _ => ⟨id, id⟩
    | (rename_i hq; have hq2 := congrArg Prod.snd hq; with_reducible dsimp only at hq2; subst hq2)
    | simp only [↓keeps_mk_iff]
    | with_reducible refine keeps_ite ?_ ?_
    | with_reducible refine outKeeps_ite ?_ ?_
    | with_reducible refine outKeeps_next.2 ?_
    | with_reducible refine keeps_ite2 ?_ ?_
    | with_reducible refine keeps_foldl ?_ (fun _ _ _ => ?_)
    | with_reducible apply advance_keeps | with_reducible apply lanHeard_keeps | with_reducible apply cpnAccept_keeps | with_reducible apply setCpn_keeps
    | split
    | dsimp only

theorem execPrpSupervisionInterval_keeps {t₀ : State} (dt : Nat) (s : State) (h₀ : Keeps t₀ s) :
    OutKeeps t₀ (execPrpSupervisionInterval dt s) := by
  unfold execPrpSupervisionInterval
  repeat' first
    | with_reducible assumption
    | with_reducible exact fun _ => rfl
    | with_reducible exact fun _ _ => rfl
    | with_reducible exact fun _ => ⟨id, id⟩
    | (rename_i hq; have hq2 := congrArg Prod.snd hq; with_reducible dsimp only at hq2; subst hq2)
    | simp only [↓keeps_mk_iff]
    | with_reducible refine keeps_ite ?_ ?_
    | with_reducible refine outKeeps_ite ?_ ?_
    | with_reducible refine outKeeps_next.2 ?_
    | with_reducible refine keeps_ite2 ?_ ?_
    | with_reducible refine keeps_foldl ?_ (fun _ _ _ => ?_)
    | with_reducible apply advance_keeps | with_reducible apply setCpn_keeps
    | split
    | dsimp only

theorem execPrpLanFail_keeps {t₀ : State} (dt : Nat) (lan : Fin 2) (s : State) (h₀ : Keeps t₀ s) :
    OutKeeps t₀ (execPrpLanFail dt lan s) := by
  unfold execPrpLanFail
  repeat' first
    | with_reducible assumption
    | with_reducible exact fun _ => rfl
    | with_reducible exact fun _ _ => rfl
    | with_reducible exact fun _ => ⟨id, id⟩
    | (rename_i hq; have hq2 := congrArg Prod.snd hq; with_reducible dsimp only at hq2; subst hq2)
    | simp only [↓keeps_mk_iff]
    | with_reducible refine keeps_ite ?_ ?_
    | with_reducible refine outKeeps_ite ?_ ?_
    | with_reducible refine outKeeps_next.2 ?_
    | with_reducible refine keeps_ite2 ?_ ?_
    | with_reducible refine keeps_foldl ?_ (fun _ _ _ => ?_)
    | with_reducible apply advance_keeps | with_reducible apply record_keeps | with_reducible apply setCpn_keeps
    | split
    | dsimp only

theorem setFwBank_keeps {t₀ : State} (b : Fin 3) (f : FwBank → FwBank) (s : State) (h₀ : Keeps t₀ s) :
    Keeps t₀ (setFwBank b f s) := by
  unfold setFwBank
  repeat' first
    | with_reducible assumption
    | with_reducible exact fun _ => rfl
    | with_reducible exact fun _ _ => rfl
    | with_reducible exact fun _ => ⟨id, id⟩
    | (rename_i hq; have hq2 := congrArg Prod.snd hq; with_reducible dsimp only at hq2; subst hq2)
    | simp only [↓keeps_mk_iff]
    | with_reducible refine keeps_ite ?_ ?_
    | with_reducible refine outKeeps_ite ?_ ?_
    | with_reducible refine outKeeps_next.2 ?_
    | with_reducible refine keeps_ite2 ?_ ?_
    | with_reducible refine keeps_foldl ?_ (fun _ _ _ => ?_)
    | with_reducible apply setBoot_keeps
    | split
    | dsimp only

theorem bankBad_keeps {t₀ : State} (b : Fin 3) (cause : Nat) (rest : List (Fin 3)) (s : State) (h₀ : Keeps t₀ s) :
    Keeps t₀ (bankBad b cause rest s) := by
  unfold bankBad
  repeat' first
    | with_reducible assumption
    | with_reducible exact fun _ => rfl
    | with_reducible exact fun _ _ => rfl
    | with_reducible exact fun _ => ⟨id, id⟩
    | (rename_i hq; have hq2 := congrArg Prod.snd hq; with_reducible dsimp only at hq2; subst hq2)
    | simp only [↓keeps_mk_iff]
    | with_reducible refine keeps_ite ?_ ?_
    | with_reducible refine outKeeps_ite ?_ ?_
    | with_reducible refine outKeeps_next.2 ?_
    | with_reducible refine keeps_ite2 ?_ ?_
    | with_reducible refine keeps_foldl ?_ (fun _ _ _ => ?_)
    | with_reducible apply record_keeps | with_reducible apply setBoot_keeps | with_reducible apply setFwBank_keeps
    | split
    | dsimp only

theorem bankBoot_keeps {t₀ : State} (b : Fin 3) (s : State) (h₀ : Keeps t₀ s) :
    Keeps t₀ (bankBoot b s) := by
  unfold bankBoot
  dsimp only
  refine record_keeps _ _ _ _ _ _ (keeps_mk (fun x => (memWf_iff _).1 x) id (setBoot_keeps _ _ (setFwBank_keeps _ _ _ h₀)))

theorem bootTry_keeps {t₀ : State} (ls : List (Fin 3)) (s : State) (h₀ : Keeps t₀ s) :
    Keeps t₀ (bootTry ls s) := by
  induction ls generalizing s with
  | nil => unfold bootTry; exact h₀
  | cons b rest ih =>
    unfold bootTry
    split
    · exact ih _ h₀
    · split
      · exact ih _ (bankBad_keeps _ _ _ _ h₀)
      · exact bankBoot_keeps _ _ h₀

theorem trialWatchdog_keeps {t₀ : State} (s : State) (h₀ : Keeps t₀ s) :
    Keeps t₀ (trialWatchdog s) := by
  unfold trialWatchdog
  repeat' first
    | with_reducible assumption
    | with_reducible exact fun _ => rfl
    | with_reducible exact fun _ _ => rfl
    | with_reducible exact fun _ => ⟨id, id⟩
    | (rename_i hq; have hq2 := congrArg Prod.snd hq; with_reducible dsimp only at hq2; subst hq2)
    | simp only [↓keeps_mk_iff]
    | with_reducible refine keeps_ite ?_ ?_
    | with_reducible refine outKeeps_ite ?_ ?_
    | with_reducible refine outKeeps_next.2 ?_
    | with_reducible refine keeps_ite2 ?_ ?_
    | with_reducible refine keeps_foldl ?_ (fun _ _ _ => ?_)
    | with_reducible apply setBoot_keeps | with_reducible apply bankBad_keeps
    | split
    | dsimp only

theorem judgeRetained_keeps {t₀ : State} (good : Bool) (s : State) (h₀ : Keeps t₀ s) :
    Keeps t₀ (judgeRetained good s) := by
  unfold judgeRetained
  repeat' first
    | with_reducible assumption
    | with_reducible exact fun _ => rfl
    | with_reducible exact fun _ _ => rfl
    | with_reducible exact fun _ => ⟨id, id⟩
    | (rename_i hq; have hq2 := congrArg Prod.snd hq; with_reducible dsimp only at hq2; subst hq2)
    | simp only [↓keeps_mk_iff]
    | with_reducible refine keeps_ite ?_ ?_
    | with_reducible refine outKeeps_ite ?_ ?_
    | with_reducible refine outKeeps_next.2 ?_
    | with_reducible refine keeps_ite2 ?_ ?_
    | with_reducible refine keeps_foldl ?_ (fun _ _ _ => ?_)
    | with_reducible apply setPwr_keeps | with_reducible apply kilnCountsLost_keeps | with_reducible apply record_keeps | with_reducible apply setKiln_keeps
    | split
    | dsimp only

theorem fireService_keeps {t₀ : State} (cause : Nat) (s : State) (h₀ : Keeps t₀ s) :
    Keeps t₀ (fireService cause s) := by
  unfold fireService
  repeat' first
    | with_reducible assumption
    | with_reducible exact fun _ => rfl
    | with_reducible exact fun _ _ => rfl
    | with_reducible exact fun _ => ⟨id, id⟩
    | (rename_i hq; have hq2 := congrArg Prod.snd hq; with_reducible dsimp only at hq2; subst hq2)
    | simp only [↓keeps_mk_iff]
    | with_reducible refine keeps_ite ?_ ?_
    | with_reducible refine outKeeps_ite ?_ ?_
    | with_reducible refine outKeeps_next.2 ?_
    | with_reducible refine keeps_ite2 ?_ ?_
    | with_reducible refine keeps_foldl ?_ (fun _ _ _ => ?_)
    | with_reducible apply enterService_keeps | with_reducible apply twinHold_keeps | with_reducible apply twinRole_keeps | with_reducible apply setBoot_keeps
    | split
    | dsimp only

theorem takeSet_keeps {t₀ : State} (pfv : Nat) (ps : List ((Nat × Nat) × Nat)) (s : State) (h₀ : Keeps t₀ s) :
    Keeps t₀ (takeSet pfv ps s) := by
  unfold takeSet
  repeat' first
    | with_reducible assumption
    | with_reducible exact fun _ => rfl
    | with_reducible exact fun _ _ => rfl
    | with_reducible exact fun _ => ⟨id, id⟩
    | (rename_i hq; have hq2 := congrArg Prod.snd hq; with_reducible dsimp only at hq2; subst hq2)
    | simp only [↓keeps_mk_iff]
    | with_reducible refine keeps_ite ?_ ?_
    | with_reducible refine outKeeps_ite ?_ ?_
    | with_reducible refine outKeeps_next.2 ?_
    | with_reducible refine keeps_ite2 ?_ ?_
    | with_reducible refine keeps_foldl ?_ (fun _ _ _ => ?_)
    | with_reducible apply setXn_keeps | with_reducible apply setKiln_keeps
    | split
    | dsimp only

theorem paramLost_keeps {t₀ : State} (p : Nat × Nat) (s : State) (h₀ : Keeps t₀ s) :
    Keeps t₀ (paramLost p s) := by
  unfold paramLost
  repeat' first
    | with_reducible assumption
    | with_reducible exact fun _ => rfl
    | with_reducible exact fun _ _ => rfl
    | with_reducible exact fun _ => ⟨id, id⟩
    | (rename_i hq; have hq2 := congrArg Prod.snd hq; with_reducible dsimp only at hq2; subst hq2)
    | simp only [↓keeps_mk_iff]
    | with_reducible refine keeps_ite ?_ ?_
    | with_reducible refine outKeeps_ite ?_ ?_
    | with_reducible refine outKeeps_next.2 ?_
    | with_reducible refine keeps_ite2 ?_ ?_
    | with_reducible refine keeps_foldl ?_ (fun _ _ _ => ?_)
    | with_reducible apply record_keeps | with_reducible apply setXn_keeps | with_reducible apply setKiln_keeps
    | split
    | dsimp only

theorem formatReset_keeps {t₀ : State} (old new : Nat) (s : State) (h₀ : Keeps t₀ s) :
    Keeps t₀ (compareFormat.formatReset old new s) := by
  unfold compareFormat.formatReset
  exact record_keeps _ _ _ _ _ _ (takeSet_keeps _ _ _ (setKiln_keeps _ _ h₀))

theorem compareFormat_keeps {t₀ : State} (s : State) (h₀ : Keeps t₀ s) :
    Keeps t₀ (compareFormat s) := by
  unfold compareFormat
  dsimp only
  refine keeps_ite h₀ ?_
  split
  · exact keeps_ite (record_keeps _ _ _ _ _ _ (setKiln_keeps _ _ (takeSet_keeps _ _ _ h₀))) (formatReset_keeps _ _ _ h₀)
  · exact formatReset_keeps _ _ _ h₀

theorem loadPrivileged_keeps {t₀ : State} (s : State) (h₀ : Keeps t₀ s) :
    Keeps t₀ (loadPrivileged s) := by
  unfold loadPrivileged
  repeat' first
    | with_reducible assumption
    | with_reducible exact fun _ => rfl
    | with_reducible exact fun _ _ => rfl
    | with_reducible exact fun _ => ⟨id, id⟩
    | (rename_i hq; have hq2 := congrArg Prod.snd hq; with_reducible dsimp only at hq2; subst hq2)
    | simp only [↓keeps_mk_iff]
    | with_reducible refine keeps_ite ?_ ?_
    | with_reducible refine outKeeps_ite ?_ ?_
    | with_reducible refine outKeeps_next.2 ?_
    | with_reducible refine keeps_ite2 ?_ ?_
    | with_reducible refine keeps_foldl ?_ (fun _ _ _ => ?_)
    | split
    | dsimp only

theorem bankConfigure_keeps {t₀ : State} (b : Fin 3) (s : State) (h₀ : Keeps t₀ s) :
    Keeps t₀ (bankConfigure b s) := by
  unfold bankConfigure
  repeat' first
    | with_reducible assumption
    | with_reducible exact fun _ => rfl
    | with_reducible exact fun _ _ => rfl
    | with_reducible exact fun _ => ⟨id, id⟩
    | (rename_i hq; have hq2 := congrArg Prod.snd hq; with_reducible dsimp only at hq2; subst hq2)
    | simp only [↓keeps_mk_iff]
    | with_reducible refine keeps_ite ?_ ?_
    | with_reducible refine outKeeps_ite ?_ ?_
    | with_reducible refine outKeeps_next.2 ?_
    | with_reducible refine keeps_ite2 ?_ ?_
    | with_reducible refine keeps_foldl ?_ (fun _ _ _ => ?_)
    | with_reducible apply setBank_keeps | with_reducible apply setChan_keeps | with_reducible apply applySafe_keeps
    | split
    | dsimp only

theorem loadNets_keeps {t₀ : State} (s : State) (h₀ : Keeps t₀ s) :
    Keeps t₀ (loadNets s) := by
  unfold loadNets
  repeat' first
    | with_reducible assumption
    | with_reducible exact fun _ => rfl
    | with_reducible exact fun _ _ => rfl
    | with_reducible exact fun _ => ⟨id, id⟩
    | (rename_i hq; have hq2 := congrArg Prod.snd hq; with_reducible dsimp only at hq2; subst hq2)
    | simp only [↓keeps_mk_iff]
    | with_reducible refine keeps_ite ?_ ?_
    | with_reducible refine outKeeps_ite ?_ ?_
    | with_reducible refine outKeeps_next.2 ?_
    | with_reducible refine keeps_ite2 ?_ ?_
    | with_reducible refine keeps_foldl ?_ (fun _ _ _ => ?_)
    | split
    | dsimp only

theorem domainsOn_keeps {t₀ : State} (ds : BitVec 12) (s : State) (h₀ : Keeps t₀ s) :
    Keeps t₀ (domainsOn ds s) := by
  unfold domainsOn
  repeat' first
    | with_reducible assumption
    | with_reducible exact fun _ => rfl
    | with_reducible exact fun _ _ => rfl
    | with_reducible exact fun _ => ⟨id, id⟩
    | (rename_i hq; have hq2 := congrArg Prod.snd hq; with_reducible dsimp only at hq2; subst hq2)
    | simp only [↓keeps_mk_iff]
    | with_reducible refine keeps_ite ?_ ?_
    | with_reducible refine outKeeps_ite ?_ ?_
    | with_reducible refine outKeeps_next.2 ?_
    | with_reducible refine keeps_ite2 ?_ ?_
    | with_reducible refine keeps_foldl ?_ (fun _ _ _ => ?_)
    | with_reducible apply setPwr_keeps | with_reducible apply domainRamp_keeps
    | split
    | dsimp only

theorem loadClocks_keeps {t₀ : State} (s : State) (h₀ : Keeps t₀ s) :
    Keeps t₀ (loadClocks s) := by
  unfold loadClocks
  repeat' first
    | with_reducible assumption
    | with_reducible exact fun _ => rfl
    | with_reducible exact fun _ _ => rfl
    | with_reducible exact fun _ => ⟨id, id⟩
    | (rename_i hq; have hq2 := congrArg Prod.snd hq; with_reducible dsimp only at hq2; subst hq2)
    | simp only [↓keeps_mk_iff]
    | with_reducible refine keeps_ite ?_ ?_
    | with_reducible refine outKeeps_ite ?_ ?_
    | with_reducible refine outKeeps_next.2 ?_
    | with_reducible refine keeps_ite2 ?_ ?_
    | with_reducible refine keeps_foldl ?_ (fun _ _ _ => ?_)
    | split
    | dsimp only

theorem loadBlocks_keeps {t₀ : State} (s : State) (h₀ : Keeps t₀ s) :
    Keeps t₀ (loadBlocks s) := by
  unfold loadBlocks
  repeat' first
    | with_reducible assumption
    | with_reducible exact fun _ => rfl
    | with_reducible exact fun _ _ => rfl
    | with_reducible exact fun _ => ⟨id, id⟩
    | (rename_i hq; have hq2 := congrArg Prod.snd hq; with_reducible dsimp only at hq2; subst hq2)
    | simp only [↓keeps_mk_iff]
    | with_reducible refine keeps_ite ?_ ?_
    | with_reducible refine outKeeps_ite ?_ ?_
    | with_reducible refine outKeeps_next.2 ?_
    | with_reducible refine keeps_ite2 ?_ ?_
    | with_reducible refine keeps_foldl ?_ (fun _ _ _ => ?_)
    | with_reducible apply loadPrivileged_keeps | with_reducible apply loadClocks_keeps | with_reducible apply domainsOn_keeps | with_reducible apply loadNets_keeps | with_reducible apply bankConfigure_keeps | with_reducible apply loadTable_keeps | with_reducible apply setXn_keeps | with_reducible apply twinHold_keeps
    | split
    | dsimp only

theorem romService_keeps {t₀ : State} (s : State) (h₀ : Keeps t₀ s) :
    Keeps t₀ (romService s) := by
  unfold romService
  repeat' first
    | with_reducible assumption
    | with_reducible exact fun _ => rfl
    | with_reducible exact fun _ _ => rfl
    | with_reducible exact fun _ => ⟨id, id⟩
    | (rename_i hq; have hq2 := congrArg Prod.snd hq; with_reducible dsimp only at hq2; subst hq2)
    | simp only [↓keeps_mk_iff]
    | with_reducible refine keeps_ite ?_ ?_
    | with_reducible refine outKeeps_ite ?_ ?_
    | with_reducible refine outKeeps_next.2 ?_
    | with_reducible refine keeps_ite2 ?_ ?_
    | with_reducible refine keeps_foldl ?_ (fun _ _ _ => ?_)
    | with_reducible apply record_keeps | with_reducible apply domainsOn_keeps | with_reducible apply setKiln_keeps | with_reducible apply fireService_keeps | with_reducible apply loadNets_keeps
    | split
    | dsimp only

theorem laneZero_keeps {t₀ : State} (l : Fin 4) (s : State) (h₀ : Keeps t₀ s) :
    Keeps t₀ (laneZero l s) := by
  unfold laneZero
  exact keeps_mems (fun h => wf_mems_set (wf_mems_set h rfl) rfl) rfl rfl rfl rfl rfl h₀

theorem laneWrite_keeps {t₀ : State} (l : Fin 4) (f : List Host.Cell → List Host.Cell) (s : State)
    (hf : ∀ m, Memory.wf m = true → Memory.wf (f m) = true) (h₀ : Keeps t₀ s) : Keeps t₀ (laneWrite l f s) := by
  unfold laneWrite
  refine keeps_mems (fun h => ?_) rfl rfl rfl rfl rfl h₀
  have h1 := wf_mems_set (k := (coreP l).val) (hk := (coreP l).isLt) h (hf _ (h (coreP l)))
  split
  · exact wf_mems_set h1 (hf _ (h _))
  · exact h1

theorem takeStored_keeps {t₀ : State} (s : State) (h₀ : Keeps t₀ s) :
    Keeps t₀ (takeStored s) := by
  unfold takeStored
  repeat' first
    | with_reducible assumption
    | with_reducible exact fun _ => rfl
    | with_reducible exact fun _ _ => rfl
    | with_reducible exact fun _ => ⟨id, id⟩
    | (rename_i hq; have hq2 := congrArg Prod.snd hq; with_reducible dsimp only at hq2; subst hq2)
    | simp only [↓keeps_mk_iff]
    | with_reducible refine keeps_ite ?_ ?_
    | with_reducible refine outKeeps_ite ?_ ?_
    | with_reducible refine outKeeps_next.2 ?_
    | with_reducible refine keeps_ite2 ?_ ?_
    | with_reducible refine keeps_foldl ?_ (fun _ _ _ => ?_)
    | with_reducible apply record_keeps | with_reducible apply drawWord_keeps | with_reducible apply imageRefuse_keeps | with_reducible apply takeImage_keeps
    | split
    | dsimp only

theorem takeDelta_keeps {t₀ : State} (s : State) (h₀ : Keeps t₀ s) :
    Keeps t₀ (takeDelta s) := by
  unfold takeDelta
  repeat' first
    | with_reducible assumption
    | with_reducible exact fun _ => rfl
    | with_reducible exact fun _ _ => rfl
    | with_reducible exact fun _ => ⟨id, id⟩
    | (rename_i hq; have hq2 := congrArg Prod.snd hq; with_reducible dsimp only at hq2; subst hq2)
    | simp only [↓keeps_mk_iff]
    | with_reducible refine keeps_ite ?_ ?_
    | with_reducible refine outKeeps_ite ?_ ?_
    | with_reducible refine outKeeps_next.2 ?_
    | with_reducible refine keeps_ite2 ?_ ?_
    | with_reducible refine keeps_foldl ?_ (fun _ _ _ => ?_)
    | with_reducible apply setTwl_keeps | with_reducible apply raise_keeps | with_reducible apply record_keeps
    | split
    | dsimp only

theorem loadLanes_keeps {t₀ : State} (ls : List (Fin 4)) (s : State) (h₀ : Keeps t₀ s) :
    Keeps t₀ (loadLanes ls s) := by
  unfold loadLanes
  apply markPages_keeps
  refine keeps_foldl h₀ (fun l u hu => laneWrite_keeps _ _ _ (fun m hm => ?_) hu)
  dsimp only
  split
  · exact writeSections_wf _ _ (Memory.wf_memWrite _ _ hm)
  · exact Memory.wf_memWrite _ _ hm

theorem laneMismatch_keeps {t₀ : State} (l : Fin 4) (s : State) (h₀ : Keeps t₀ s) :
    Keeps t₀ (laneMismatch l s) := by
  unfold laneMismatch
  repeat' first
    | with_reducible assumption
    | with_reducible exact fun _ => rfl
    | with_reducible exact fun _ _ => rfl
    | with_reducible exact fun _ => ⟨id, id⟩
    | (rename_i hq; have hq2 := congrArg Prod.snd hq; with_reducible dsimp only at hq2; subst hq2)
    | simp only [↓keeps_mk_iff]
    | with_reducible refine keeps_ite ?_ ?_
    | with_reducible refine outKeeps_ite ?_ ?_
    | with_reducible refine outKeeps_next.2 ?_
    | with_reducible refine keeps_ite2 ?_ ?_
    | with_reducible refine keeps_foldl ?_ (fun _ _ _ => ?_)
    | with_reducible apply toQuarantine_keeps | with_reducible apply record_keeps | with_reducible apply setLane_keeps
    | split
    | dsimp only

end Sys2Proof.Machine
end

