-- ==== Sys2Proof/Laws/KeepsAll5.lean ====
section
/-! SUPPORT. Every operation and every meaning keeps the memories canonical and the FIFO within its bound. -/

set_option linter.all false

namespace Sys2Proof.Machine

open Sys2Proof

theorem setStart_keeps {t₀ : State} (f : StartProgress → StartProgress) (s : State) (h₀ : Keeps t₀ s) :
    Keeps t₀ (setStart f s) := by
  unfold setStart
  repeat' first
    | with_reducible assumption
    | with_reducible exact fun _ => rfl
    | with_reducible exact fun _ _ => rfl
    | with_reducible exact fun _ => ⟨id, id⟩
    | (rename_i hq; have hq2 := congrArg Prod.snd hq; with_reducible dsimp only at hq2; subst hq2)
    | simp only [↓keeps_mk_iff]
    | with_reducible refine keeps_ite ?_ ?_
    | with_reducible refine outKeeps_ite ?_ ?_
    | with_reducible refine outKeeps_next.2 ?_
    | with_reducible refine keeps_ite2 ?_ ?_
    | with_reducible refine keeps_foldl ?_ (fun _ _ _ => ?_)
    | split
    | dsimp only

theorem execPowerOnResetRelease_keeps {t₀ : State} (twpos : Bool) (s : State) (h₀ : Keeps t₀ s) :
    OutKeeps t₀ (execPowerOnResetRelease twpos s) := by
  unfold execPowerOnResetRelease
  dsimp only
  refine outKeeps_ite h₀ (outKeeps_next.2 (enterFiring_keeps _ _ (record_keeps _ _ _ _ _ _ (keeps_ite
    (record_keeps _ _ _ _ _ _ ?_) ?_))))
  all_goals
    refine loadPrivileged_keeps _ (setPwr_keeps _ _ (keeps_mk (fun x => ?_) (fun x => ?_) h₀))
    · have y := (memWf_iff _).1 x
      exact ⟨y.1, (recRepair_keeps s.recd).1 y.2.1, y.2.2⟩
    · show (recRepair s.recd).fifo.length ≤ 64
      rw [(recRepair_keeps s.recd).2]; exact Nat.zero_le _

theorem execBootBankChoice_keeps {t₀ : State} (retained : Bool) (s : State) (h₀ : Keeps t₀ s) :
    OutKeeps t₀ (execBootBankChoice retained s) := by
  unfold execBootBankChoice
  repeat' first
    | with_reducible assumption
    | with_reducible exact fun _ => rfl
    | with_reducible exact fun _ _ => rfl
    | with_reducible exact fun _ => ⟨id, id⟩
    | (rename_i hq; have hq2 := congrArg Prod.snd hq; with_reducible dsimp only at hq2; subst hq2)
    | simp only [↓keeps_mk_iff]
    | with_reducible refine keeps_ite ?_ ?_
    | with_reducible refine outKeeps_ite ?_ ?_
    | with_reducible refine outKeeps_next.2 ?_
    | with_reducible refine keeps_ite2 ?_ ?_
    | with_reducible refine keeps_foldl ?_ (fun _ _ _ => ?_)
    | with_reducible apply trialWatchdog_keeps | with_reducible apply bootTry_keeps | with_reducible apply judgeRetained_keeps | with_reducible apply romService_keeps
    | split
    | dsimp only

theorem execKilnFirmwareStart_keeps {t₀ : State} (lost : List (Nat × Nat)) (s : State) (h₀ : Keeps t₀ s) :
    OutKeeps t₀ (execKilnFirmwareStart lost s) := by
  unfold execKilnFirmwareStart
  repeat' first
    | with_reducible assumption
    | with_reducible exact fun _ => rfl
    | with_reducible exact fun _ _ => rfl
    | with_reducible exact fun _ => ⟨id, id⟩
    | (rename_i hq; have hq2 := congrArg Prod.snd hq; with_reducible dsimp only at hq2; subst hq2)
    | simp only [↓keeps_mk_iff]
    | with_reducible refine keeps_ite ?_ ?_
    | with_reducible refine outKeeps_ite ?_ ?_
    | with_reducible refine outKeeps_next.2 ?_
    | with_reducible refine keeps_ite2 ?_ ?_
    | with_reducible refine keeps_foldl ?_ (fun _ _ _ => ?_)
    | with_reducible apply compareFormat_keeps | with_reducible apply paramLost_keeps | with_reducible apply setKiln_keeps | with_reducible apply setStart_keeps | with_reducible apply loadBlocks_keeps
    | split
    | dsimp only

theorem laneTested_keeps {t₀ : State} (l : Fin 4) (r : LaneTest) (s : State) (h₀ : Keeps t₀ s) :
    Keeps t₀ (laneTested l r s) := by
  unfold laneTested
  repeat' first
    | with_reducible assumption
    | with_reducible exact fun _ => rfl
    | with_reducible exact fun _ _ => rfl
    | with_reducible exact fun _ => ⟨id, id⟩
    | (rename_i hq; have hq2 := congrArg Prod.snd hq; with_reducible dsimp only at hq2; subst hq2)
    | simp only [↓keeps_mk_iff]
    | with_reducible refine keeps_ite ?_ ?_
    | with_reducible refine outKeeps_ite ?_ ?_
    | with_reducible refine outKeeps_next.2 ?_
    | with_reducible refine keeps_ite2 ?_ ?_
    | with_reducible refine keeps_foldl ?_ (fun _ _ _ => ?_)
    | with_reducible apply laneZero_keeps | with_reducible apply setLane_keeps | with_reducible apply retire_keeps | with_reducible apply toQuarantine_keeps
    | split
    | dsimp only

theorem execLaneStartupTestsDone_keeps {t₀ : State} (r0 r1 r2 r3 : LaneTest) (s : State) (h₀ : Keeps t₀ s) :
    OutKeeps t₀ (execLaneStartupTestsDone r0 r1 r2 r3 s) := by
  unfold execLaneStartupTestsDone
  repeat' first
    | with_reducible assumption
    | with_reducible exact fun _ => rfl
    | with_reducible exact fun _ _ => rfl
    | with_reducible exact fun _ => ⟨id, id⟩
    | (rename_i hq; have hq2 := congrArg Prod.snd hq; with_reducible dsimp only at hq2; subst hq2)
    | simp only [↓keeps_mk_iff]
    | with_reducible refine keeps_ite ?_ ?_
    | with_reducible refine outKeeps_ite ?_ ?_
    | with_reducible refine outKeeps_next.2 ?_
    | with_reducible refine keeps_ite2 ?_ ?_
    | with_reducible refine keeps_foldl ?_ (fun _ _ _ => ?_)
    | with_reducible apply setStart_keeps | with_reducible apply laneTested_keeps
    | split
    | dsimp only

theorem execProcessorSectionLoaded_keeps {t₀ : State} (target : LoadTarget) (crcOk : Bool) (s : State) (h₀ : Keeps t₀ s) :
    OutKeeps t₀ (execProcessorSectionLoaded target crcOk s) := by
  unfold execProcessorSectionLoaded
  repeat' first
    | with_reducible assumption
    | with_reducible exact fun _ => rfl
    | with_reducible exact fun _ _ => rfl
    | with_reducible exact fun _ => ⟨id, id⟩
    | (rename_i hq; have hq2 := congrArg Prod.snd hq; with_reducible dsimp only at hq2; subst hq2)
    | simp only [↓keeps_mk_iff]
    | with_reducible refine keeps_ite ?_ ?_
    | with_reducible refine outKeeps_ite ?_ ?_
    | with_reducible refine outKeeps_next.2 ?_
    | with_reducible refine keeps_ite2 ?_ ?_
    | with_reducible refine keeps_foldl ?_ (fun _ _ _ => ?_)
    | with_reducible apply setBoot_keeps | with_reducible apply record_keeps | with_reducible apply linkSet_keeps | with_reducible apply setPwr_keeps
    | split
    | dsimp only

theorem execStartupInjectionSet_keeps {t₀ : State} (fail : Option InjFail) (s : State) (h₀ : Keeps t₀ s) :
    OutKeeps t₀ (execStartupInjectionSet fail s) := by
  unfold execStartupInjectionSet
  repeat' first
    | with_reducible assumption
    | with_reducible exact fun _ => rfl
    | with_reducible exact fun _ _ => rfl
    | with_reducible exact fun _ => ⟨id, id⟩
    | (rename_i hq; have hq2 := congrArg Prod.snd hq; with_reducible dsimp only at hq2; subst hq2)
    | simp only [↓keeps_mk_iff]
    | with_reducible refine keeps_ite ?_ ?_
    | with_reducible refine outKeeps_ite ?_ ?_
    | with_reducible refine outKeeps_next.2 ?_
    | with_reducible refine keeps_ite2 ?_ ?_
    | with_reducible refine keeps_foldl ?_ (fun _ _ _ => ?_)
    | with_reducible apply setStart_keeps | with_reducible apply fireService_keeps | with_reducible apply raise_keeps | with_reducible apply record_keeps
    | split
    | dsimp only

theorem laneCompared_keeps {t₀ : State} (crcOk : BitVec 4) (l : Fin 4) (s : State) (h₀ : Keeps t₀ s) :
    Keeps t₀ (laneCompared crcOk l s) := by
  unfold laneCompared
  repeat' first
    | with_reducible assumption
    | with_reducible exact fun _ => rfl
    | with_reducible exact fun _ _ => rfl
    | with_reducible exact fun _ => ⟨id, id⟩
    | (rename_i hq; have hq2 := congrArg Prod.snd hq; with_reducible dsimp only at hq2; subst hq2)
    | simp only [↓keeps_mk_iff]
    | with_reducible refine keeps_ite ?_ ?_
    | with_reducible refine outKeeps_ite ?_ ?_
    | with_reducible refine outKeeps_next.2 ?_
    | with_reducible refine keeps_ite2 ?_ ?_
    | with_reducible refine keeps_foldl ?_ (fun _ _ _ => ?_)
    | with_reducible apply setLane_keeps | with_reducible apply laneMismatch_keeps
    | split
    | dsimp only

theorem execLaneImageLoaded_keeps {t₀ : State} (crcOk : BitVec 4) (s : State) (h₀ : Keeps t₀ s) :
    OutKeeps t₀ (execLaneImageLoaded crcOk s) := by
  unfold execLaneImageLoaded
  repeat' first
    | with_reducible assumption
    | with_reducible exact fun _ => rfl
    | with_reducible exact fun _ _ => rfl
    | with_reducible exact fun _ => ⟨id, id⟩
    | (rename_i hq; have hq2 := congrArg Prod.snd hq; with_reducible dsimp only at hq2; subst hq2)
    | simp only [↓keeps_mk_iff]
    | with_reducible refine keeps_ite ?_ ?_
    | with_reducible refine outKeeps_ite ?_ ?_
    | with_reducible refine outKeeps_next.2 ?_
    | with_reducible refine keeps_ite2 ?_ ?_
    | with_reducible refine keeps_foldl ?_ (fun _ _ _ => ?_)
    | with_reducible refine keeps_vmem (fun h => Memory.wf_memWriteBe _ _ _ _ h) rfl rfl rfl rfl rfl ?_
    | with_reducible refine keeps_vmem (fun h => Memory.wf_memWrite _ _ h) rfl rfl rfl rfl rfl ?_
    | with_reducible refine keeps_vmem (fun h => Memory.wf_filter _ h) rfl rfl rfl rfl rfl ?_
    | with_reducible refine keeps_mems (fun h => wf_mems_set h (Memory.wf_memWriteBe _ _ _ _ (h _))) rfl rfl rfl rfl rfl ?_
    | with_reducible refine keeps_mems (fun h => wf_mems_set h (Memory.wf_memWrite _ _ (h _))) rfl rfl rfl rfl rfl ?_
    | with_reducible refine keeps_mems (fun h => wf_mems_set h (Memory.wf_memCopyIf _ (h _))) rfl rfl rfl rfl rfl ?_
    | with_reducible refine keeps_mems (fun h => wf_mems_set h (Memory.wf_nil)) rfl rfl rfl rfl rfl ?_
    | with_reducible apply takeDelta_keeps | with_reducible apply takeStored_keeps | with_reducible apply laneCompared_keeps | with_reducible apply loadLanes_keeps | with_reducible apply fireService_keeps | with_reducible apply setStart_keeps
    | split
    | dsimp only

theorem execSafetySetCheck_keeps {t₀ : State} (s : State) (h₀ : Keeps t₀ s) :
    OutKeeps t₀ (execSafetySetCheck s) := by
  unfold execSafetySetCheck
  repeat' first
    | with_reducible assumption
    | with_reducible exact fun _ => rfl
    | with_reducible exact fun _ _ => rfl
    | with_reducible exact fun _ => ⟨id, id⟩
    | (rename_i hq; have hq2 := congrArg Prod.snd hq; with_reducible dsimp only at hq2; subst hq2)
    | simp only [↓keeps_mk_iff]
    | with_reducible refine keeps_ite ?_ ?_
    | with_reducible refine outKeeps_ite ?_ ?_
    | with_reducible refine outKeeps_next.2 ?_
    | with_reducible refine keeps_ite2 ?_ ?_
    | with_reducible refine keeps_foldl ?_ (fun _ _ _ => ?_)
    | with_reducible apply record_keeps | with_reducible apply setStart_keeps | with_reducible apply mapLanes_keeps | with_reducible apply fireService_keeps
    | split
    | dsimp only

theorem laneActivate_keeps {t₀ : State} (ls : List (Fin 4)) (s : State) (h₀ : Keeps t₀ s) :
    Keeps t₀ (laneActivate ls s) := by
  unfold laneActivate
  repeat' first
    | with_reducible assumption
    | with_reducible exact fun _ => rfl
    | with_reducible exact fun _ _ => rfl
    | with_reducible exact fun _ => ⟨id, id⟩
    | (rename_i hq; have hq2 := congrArg Prod.snd hq; with_reducible dsimp only at hq2; subst hq2)
    | simp only [↓keeps_mk_iff]
    | with_reducible refine keeps_ite ?_ ?_
    | with_reducible refine outKeeps_ite ?_ ?_
    | with_reducible refine outKeeps_next.2 ?_
    | with_reducible refine keeps_ite2 ?_ ?_
    | with_reducible refine keeps_foldl ?_ (fun _ _ _ => ?_)
    | with_reducible apply setLane_keeps
    | split
    | dsimp only

theorem banksStarted_keeps {t₀ : State} (s : State) (h₀ : Keeps t₀ s) :
    Keeps t₀ (banksStarted s) := by
  unfold banksStarted
  repeat' first
    | with_reducible assumption
    | with_reducible exact fun _ => rfl
    | with_reducible exact fun _ _ => rfl
    | with_reducible exact fun _ => ⟨id, id⟩
    | (rename_i hq; have hq2 := congrArg Prod.snd hq; with_reducible dsimp only at hq2; subst hq2)
    | simp only [↓keeps_mk_iff]
    | with_reducible refine keeps_ite ?_ ?_
    | with_reducible refine outKeeps_ite ?_ ?_
    | with_reducible refine outKeeps_next.2 ?_
    | with_reducible refine keeps_ite2 ?_ ?_
    | with_reducible refine keeps_foldl ?_ (fun _ _ _ => ?_)
    | with_reducible apply setChan_keeps
    | split
    | dsimp only

theorem fireEnd_keeps {t₀ : State} (new : ModState) (s : State) (h₀ : Keeps t₀ s) :
    Keeps t₀ (fireEnd new s) := by
  unfold fireEnd
  repeat' first
    | with_reducible assumption
    | with_reducible exact fun _ => rfl
    | with_reducible exact fun _ _ => rfl
    | with_reducible exact fun _ => ⟨id, id⟩
    | (rename_i hq; have hq2 := congrArg Prod.snd hq; with_reducible dsimp only at hq2; subst hq2)
    | simp only [↓keeps_mk_iff]
    | with_reducible refine keeps_ite ?_ ?_
    | with_reducible refine outKeeps_ite ?_ ?_
    | with_reducible refine outKeeps_next.2 ?_
    | with_reducible refine keeps_ite2 ?_ ?_
    | with_reducible refine keeps_foldl ?_ (fun _ _ _ => ?_)
    | with_reducible apply setModState_keeps | with_reducible apply setBoot_keeps | with_reducible apply busStart_keeps | with_reducible apply banksStarted_keeps
    | split
    | dsimp only

theorem fireRun_keeps {t₀ : State} (ls : List (Fin 4)) (s : State) (h₀ : Keeps t₀ s) :
    Keeps t₀ (fireRun ls s) := by
  unfold fireRun
  repeat' first
    | with_reducible assumption
    | with_reducible exact fun _ => rfl
    | with_reducible exact fun _ _ => rfl
    | with_reducible exact fun _ => ⟨id, id⟩
    | (rename_i hq; have hq2 := congrArg Prod.snd hq; with_reducible dsimp only at hq2; subst hq2)
    | simp only [↓keeps_mk_iff]
    | with_reducible refine keeps_ite ?_ ?_
    | with_reducible refine outKeeps_ite ?_ ?_
    | with_reducible refine outKeeps_next.2 ?_
    | with_reducible refine keeps_ite2 ?_ ?_
    | with_reducible refine keeps_foldl ?_ (fun _ _ _ => ?_)
    | with_reducible apply laneActivate_keeps | with_reducible apply setVote_keeps | with_reducible apply fireEnd_keeps | with_reducible apply rotationRestart_keeps | with_reducible apply mapTasks_keeps | with_reducible apply execWait_keeps | with_reducible apply openRegions_keeps
    | split
    | dsimp only

theorem fireWide_keeps {t₀ : State} (s : State) (h₀ : Keeps t₀ s) :
    Keeps t₀ (fireWide s) := by
  unfold fireWide
  repeat' first
    | with_reducible assumption
    | with_reducible exact fun _ => rfl
    | with_reducible exact fun _ _ => rfl
    | with_reducible exact fun _ => ⟨id, id⟩
    | (rename_i hq; have hq2 := congrArg Prod.snd hq; with_reducible dsimp only at hq2; subst hq2)
    | simp only [↓keeps_mk_iff]
    | with_reducible refine keeps_ite ?_ ?_
    | with_reducible refine outKeeps_ite ?_ ?_
    | with_reducible refine outKeeps_next.2 ?_
    | with_reducible refine keeps_ite2 ?_ ?_
    | with_reducible refine keeps_foldl ?_ (fun _ _ _ => ?_)
    | with_reducible apply mapLanes_keeps | with_reducible apply fireEnd_keeps | with_reducible apply setVote_keeps | with_reducible apply twinHold_keeps | with_reducible apply twinRole_keeps
    | split
    | dsimp only

theorem execFiringEnd_keeps {t₀ : State} (dt : Nat) (s : State) (h₀ : Keeps t₀ s) :
    OutKeeps t₀ (execFiringEnd dt s) := by
  unfold execFiringEnd
  repeat' first
    | with_reducible assumption
    | with_reducible exact fun _ => rfl
    | with_reducible exact fun _ _ => rfl
    | with_reducible exact fun _ => ⟨id, id⟩
    | (rename_i hq; have hq2 := congrArg Prod.snd hq; with_reducible dsimp only at hq2; subst hq2)
    | simp only [↓keeps_mk_iff]
    | with_reducible refine keeps_ite ?_ ?_
    | with_reducible refine outKeeps_ite ?_ ?_
    | with_reducible refine outKeeps_next.2 ?_
    | with_reducible refine keeps_ite2 ?_ ?_
    | with_reducible refine keeps_foldl ?_ (fun _ _ _ => ?_)
    | with_reducible apply advance_keeps | with_reducible apply fireWide_keeps | with_reducible apply fireService_keeps | with_reducible apply fireRun_keeps
    | split
    | dsimp only

theorem execTrialTimeout_keeps {t₀ : State} (s : State) (h₀ : Keeps t₀ s) :
    OutKeeps t₀ (execTrialTimeout s) := by
  unfold execTrialTimeout
  repeat' first
    | with_reducible assumption
    | with_reducible exact fun _ => rfl
    | with_reducible exact fun _ _ => rfl
    | with_reducible exact fun _ => ⟨id, id⟩
    | (rename_i hq; have hq2 := congrArg Prod.snd hq; with_reducible dsimp only at hq2; subst hq2)
    | simp only [↓keeps_mk_iff]
    | with_reducible refine keeps_ite ?_ ?_
    | with_reducible refine outKeeps_ite ?_ ?_
    | with_reducible refine outKeeps_next.2 ?_
    | with_reducible refine keeps_ite2 ?_ ?_
    | with_reducible refine keeps_foldl ?_ (fun _ _ _ => ?_)
    | with_reducible apply moduleReset_keeps | with_reducible apply bankBad_keeps
    | split
    | dsimp only

theorem execFwConfirmed_keeps {t₀ : State} (dt : Nat) (s : State) (h₀ : Keeps t₀ s) :
    OutKeeps t₀ (execFwConfirmed dt s) := by
  unfold execFwConfirmed
  repeat' first
    | with_reducible assumption
    | with_reducible exact fun _ => rfl
    | with_reducible exact fun _ _ => rfl
    | with_reducible exact fun _ => ⟨id, id⟩
    | (rename_i hq; have hq2 := congrArg Prod.snd hq; with_reducible dsimp only at hq2; subst hq2)
    | simp only [↓keeps_mk_iff]
    | with_reducible refine keeps_ite ?_ ?_
    | with_reducible refine outKeeps_ite ?_ ?_
    | with_reducible refine outKeeps_next.2 ?_
    | with_reducible refine keeps_ite2 ?_ ?_
    | with_reducible refine keeps_foldl ?_ (fun _ _ _ => ?_)
    | with_reducible apply advance_keeps | with_reducible apply record_keeps | with_reducible apply setFwBank_keeps
    | split
    | dsimp only

theorem quietState_keeps {t₀ : State} (cause : Nat) (s : State) (h₀ : Keeps t₀ s) :
    Keeps t₀ (quietState cause s) := by
  unfold quietState
  repeat' first
    | with_reducible assumption
    | with_reducible exact fun _ => rfl
    | with_reducible exact fun _ _ => rfl
    | with_reducible exact fun _ => ⟨id, id⟩
    | (rename_i hq; have hq2 := congrArg Prod.snd hq; with_reducible dsimp only at hq2; subst hq2)
    | simp only [↓keeps_mk_iff]
    | with_reducible refine keeps_ite ?_ ?_
    | with_reducible refine outKeeps_ite ?_ ?_
    | with_reducible refine outKeeps_next.2 ?_
    | with_reducible refine keeps_ite2 ?_ ?_
    | with_reducible refine keeps_foldl ?_ (fun _ _ _ => ?_)
    | with_reducible apply setVote_keeps | with_reducible apply lanesLeave_keeps | with_reducible apply banksSafe_keeps
    | split
    | dsimp only

theorem canClosed_keeps {t₀ : State} (s : State) (h₀ : Keeps t₀ s) :
    Keeps t₀ (canClosed s) := by
  unfold canClosed
  repeat' first
    | with_reducible assumption
    | with_reducible exact fun _ => rfl
    | with_reducible exact fun _ _ => rfl
    | with_reducible exact fun _ => ⟨id, id⟩
    | (rename_i hq; have hq2 := congrArg Prod.snd hq; with_reducible dsimp only at hq2; subst hq2)
    | simp only [↓keeps_mk_iff]
    | with_reducible refine keeps_ite ?_ ?_
    | with_reducible refine outKeeps_ite ?_ ?_
    | with_reducible refine outKeeps_next.2 ?_
    | with_reducible refine keeps_ite2 ?_ ?_
    | with_reducible refine keeps_foldl ?_ (fun _ _ _ => ?_)
    | with_reducible apply setKiln_keeps
    | split
    | dsimp only

theorem enterBanked_keeps {t₀ : State} (s : State) (h₀ : Keeps t₀ s) :
    Keeps t₀ (enterBanked s) := by
  unfold enterBanked
  repeat' first
    | with_reducible assumption
    | with_reducible exact fun _ => rfl
    | with_reducible exact fun _ _ => rfl
    | with_reducible exact fun _ => ⟨id, id⟩
    | (rename_i hq; have hq2 := congrArg Prod.snd hq; with_reducible dsimp only at hq2; subst hq2)
    | simp only [↓keeps_mk_iff]
    | with_reducible refine keeps_ite ?_ ?_
    | with_reducible refine outKeeps_ite ?_ ?_
    | with_reducible refine outKeeps_next.2 ?_
    | with_reducible refine keeps_ite2 ?_ ?_
    | with_reducible refine keeps_foldl ?_ (fun _ _ _ => ?_)
    | with_reducible apply leaveRun_keeps | with_reducible apply quietState_keeps | with_reducible apply canClosed_keeps | with_reducible apply twinRole_keeps | with_reducible apply setModState_keeps | with_reducible apply setPwr_keeps | with_reducible apply domainsOff_keeps
    | split
    | dsimp only

theorem enterMaintenance_keeps {t₀ : State} (s : State) (h₀ : Keeps t₀ s) :
    Keeps t₀ (enterMaintenance s) := by
  unfold enterMaintenance
  repeat' first
    | with_reducible assumption
    | with_reducible exact fun _ => rfl
    | with_reducible exact fun _ _ => rfl
    | with_reducible exact fun _ => ⟨id, id⟩
    | (rename_i hq; have hq2 := congrArg Prod.snd hq; with_reducible dsimp only at hq2; subst hq2)
    | simp only [↓keeps_mk_iff]
    | with_reducible refine keeps_ite ?_ ?_
    | with_reducible refine outKeeps_ite ?_ ?_
    | with_reducible refine outKeeps_next.2 ?_
    | with_reducible refine keeps_ite2 ?_ ?_
    | with_reducible refine keeps_foldl ?_ (fun _ _ _ => ?_)
    | with_reducible apply leaveRun_keeps | with_reducible apply quietState_keeps | with_reducible apply setModState_keeps
    | split
    | dsimp only

theorem stateCmd_keeps {t₀ : State} (v : Nat) (s : State) (h₀ : Keeps t₀ s) :
    Keeps t₀ (stateCmd v s).2 := by
  unfold stateCmd
  repeat' first
    | with_reducible assumption
    | with_reducible exact fun _ => rfl
    | with_reducible exact fun _ _ => rfl
    | with_reducible exact fun _ => ⟨id, id⟩
    | (rename_i hq; have hq2 := congrArg Prod.snd hq; with_reducible dsimp only at hq2; subst hq2)
    | simp only [↓keeps_mk_iff]
    | with_reducible refine keeps_ite ?_ ?_
    | with_reducible refine outKeeps_ite ?_ ?_
    | with_reducible refine outKeeps_next.2 ?_
    | with_reducible refine keeps_ite2 ?_ ?_
    | with_reducible refine keeps_foldl ?_ (fun _ _ _ => ?_)
    | with_reducible apply moduleReset_keeps | with_reducible apply enterBanked_keeps
    | split
    | dsimp only

theorem powerCmd_keeps {t₀ : State} (v : Nat) (s : State) (h₀ : Keeps t₀ s) :
    Keeps t₀ (powerCmd v s).2 := by
  unfold powerCmd
  repeat' first
    | with_reducible assumption
    | with_reducible exact fun _ => rfl
    | with_reducible exact fun _ _ => rfl
    | with_reducible exact fun _ => ⟨id, id⟩
    | (rename_i hq; have hq2 := congrArg Prod.snd hq; with_reducible dsimp only at hq2; subst hq2)
    | simp only [↓keeps_mk_iff]
    | with_reducible refine keeps_ite ?_ ?_
    | with_reducible refine outKeeps_ite ?_ ?_
    | with_reducible refine outKeeps_next.2 ?_
    | with_reducible refine keeps_ite2 ?_ ?_
    | with_reducible refine keeps_foldl ?_ (fun _ _ _ => ?_)
    | with_reducible apply moduleReset_keeps
    | split
    | dsimp only

theorem execMaintenanceAtBoundary_keeps {t₀ : State} (dt : Nat) (s : State) (h₀ : Keeps t₀ s) :
    OutKeeps t₀ (execMaintenanceAtBoundary dt s) := by
  unfold execMaintenanceAtBoundary
  repeat' first
    | with_reducible assumption
    | with_reducible exact fun _ => rfl
    | with_reducible exact fun _ _ => rfl
    | with_reducible exact fun _ => ⟨id, id⟩
    | (rename_i hq; have hq2 := congrArg Prod.snd hq; with_reducible dsimp only at hq2; subst hq2)
    | simp only [↓keeps_mk_iff]
    | with_reducible refine keeps_ite ?_ ?_
    | with_reducible refine outKeeps_ite ?_ ?_
    | with_reducible refine outKeeps_next.2 ?_
    | with_reducible refine keeps_ite2 ?_ ?_
    | with_reducible refine keeps_foldl ?_ (fun _ _ _ => ?_)
    | with_reducible apply advance_keeps | with_reducible apply enterMaintenance_keeps
    | split
    | dsimp only

theorem wakeNow_keeps {t₀ : State} (cause src : Nat) (s : State) (h₀ : Keeps t₀ s) :
    Keeps t₀ (wakeNow cause src s) := by
  unfold wakeNow
  repeat' first
    | with_reducible assumption
    | with_reducible exact fun _ => rfl
    | with_reducible exact fun _ _ => rfl
    | with_reducible exact fun _ => ⟨id, id⟩
    | (rename_i hq; have hq2 := congrArg Prod.snd hq; with_reducible dsimp only at hq2; subst hq2)
    | simp only [↓keeps_mk_iff]
    | with_reducible refine keeps_ite ?_ ?_
    | with_reducible refine outKeeps_ite ?_ ?_
    | with_reducible refine outKeeps_next.2 ?_
    | with_reducible refine keeps_ite2 ?_ ?_
    | with_reducible refine keeps_foldl ?_ (fun _ _ _ => ?_)
    | with_reducible apply moduleReset_keeps | with_reducible apply record_keeps
    | split
    | dsimp only

theorem wake_keeps {t₀ : State} (cause src : Nat) (s : State) (h₀ : Keeps t₀ s) :
    Keeps t₀ (wake cause src s) := by
  unfold wake
  repeat' first
    | with_reducible assumption
    | with_reducible exact fun _ => rfl
    | with_reducible exact fun _ _ => rfl
    | with_reducible exact fun _ => ⟨id, id⟩
    | (rename_i hq; have hq2 := congrArg Prod.snd hq; with_reducible dsimp only at hq2; subst hq2)
    | simp only [↓keeps_mk_iff]
    | with_reducible refine keeps_ite ?_ ?_
    | with_reducible refine outKeeps_ite ?_ ?_
    | with_reducible refine outKeeps_next.2 ?_
    | with_reducible refine keeps_ite2 ?_ ?_
    | with_reducible refine keeps_foldl ?_ (fun _ _ _ => ?_)
    | with_reducible apply wakeNow_keeps | with_reducible apply setPwr_keeps
    | split
    | dsimp only

theorem execBankedWake_keeps {t₀ : State} (cause : Fin 4) (source : Nat) (s : State) (h₀ : Keeps t₀ s) :
    OutKeeps t₀ (execBankedWake cause source s) := by
  unfold execBankedWake
  repeat' first
    | with_reducible assumption
    | with_reducible exact fun _ => rfl
    | with_reducible exact fun _ _ => rfl
    | with_reducible exact fun _ => ⟨id, id⟩
    | (rename_i hq; have hq2 := congrArg Prod.snd hq; with_reducible dsimp only at hq2; subst hq2)
    | simp only [↓keeps_mk_iff]
    | with_reducible refine keeps_ite ?_ ?_
    | with_reducible refine outKeeps_ite ?_ ?_
    | with_reducible refine outKeeps_next.2 ?_
    | with_reducible refine keeps_ite2 ?_ ?_
    | with_reducible refine keeps_foldl ?_ (fun _ _ _ => ?_)
    | with_reducible apply wake_keeps
    | split
    | dsimp only

theorem execBankedPowerStateReached_keeps {t₀ : State} (dt : Nat) (s : State) (h₀ : Keeps t₀ s) :
    OutKeeps t₀ (execBankedPowerStateReached dt s) := by
  unfold execBankedPowerStateReached
  repeat' first
    | with_reducible assumption
    | with_reducible exact fun _ => rfl
    | with_reducible exact fun _ _ => rfl
    | with_reducible exact fun _ => ⟨id, id⟩
    | (rename_i hq; have hq2 := congrArg Prod.snd hq; with_reducible dsimp only at hq2; subst hq2)
    | simp only [↓keeps_mk_iff]
    | with_reducible refine keeps_ite ?_ ?_
    | with_reducible refine outKeeps_ite ?_ ?_
    | with_reducible refine outKeeps_next.2 ?_
    | with_reducible refine keeps_ite2 ?_ ?_
    | with_reducible refine keeps_foldl ?_ (fun _ _ _ => ?_)
    | with_reducible apply advance_keeps | with_reducible apply linkSet_keeps | with_reducible apply record_keeps | with_reducible apply setPwr_keeps | with_reducible apply wakeNow_keeps
    | split
    | dsimp only

theorem execGdpWake_keeps {t₀ : State} (port : Fin 4) (client : BitVec 32) (s : State) (h₀ : Keeps t₀ s) :
    OutKeeps t₀ (execGdpWake port client s) := by
  unfold execGdpWake
  repeat' first
    | with_reducible assumption
    | with_reducible exact fun _ => rfl
    | with_reducible exact fun _ _ => rfl
    | with_reducible exact fun _ => ⟨id, id⟩
    | (rename_i hq; have hq2 := congrArg Prod.snd hq; with_reducible dsimp only at hq2; subst hq2)
    | simp only [↓keeps_mk_iff]
    | with_reducible refine keeps_ite ?_ ?_
    | with_reducible refine outKeeps_ite ?_ ?_
    | with_reducible refine outKeeps_next.2 ?_
    | with_reducible refine keeps_ite2 ?_ ?_
    | with_reducible refine keeps_foldl ?_ (fun _ _ _ => ?_)
    | with_reducible apply wake_keeps | with_reducible apply record_keeps
    | split
    | dsimp only

theorem execKilnWatchdogReset_keeps {t₀ : State} (s : State) (h₀ : Keeps t₀ s) :
    OutKeeps t₀ (execKilnWatchdogReset s) := by
  unfold execKilnWatchdogReset
  repeat' first
    | with_reducible assumption
    | with_reducible exact fun _ => rfl
    | with_reducible exact fun _ _ => rfl
    | with_reducible exact fun _ => ⟨id, id⟩
    | (rename_i hq; have hq2 := congrArg Prod.snd hq; with_reducible dsimp only at hq2; subst hq2)
    | simp only [↓keeps_mk_iff]
    | with_reducible refine keeps_ite ?_ ?_
    | with_reducible refine outKeeps_ite ?_ ?_
    | with_reducible refine outKeeps_next.2 ?_
    | with_reducible refine keeps_ite2 ?_ ?_
    | with_reducible refine keeps_foldl ?_ (fun _ _ _ => ?_)
    | with_reducible apply moduleReset_keeps
    | split
    | dsimp only

theorem execPowerFailWarning_keeps {t₀ : State} (volt : BitVec 16) (s : State) (h₀ : Keeps t₀ s) :
    OutKeeps t₀ (execPowerFailWarning volt s) := by
  unfold execPowerFailWarning
  repeat' first
    | with_reducible assumption
    | with_reducible exact fun _ => rfl
    | with_reducible exact fun _ _ => rfl
    | with_reducible exact fun _ => ⟨id, id⟩
    | (rename_i hq; have hq2 := congrArg Prod.snd hq; with_reducible dsimp only at hq2; subst hq2)
    | simp only [↓keeps_mk_iff]
    | with_reducible refine keeps_ite ?_ ?_
    | with_reducible refine outKeeps_ite ?_ ?_
    | with_reducible refine outKeeps_next.2 ?_
    | with_reducible refine keeps_ite2 ?_ ?_
    | with_reducible refine keeps_foldl ?_ (fun _ _ _ => ?_)
    | with_reducible apply setPwr_keeps
    | split
    | dsimp only

theorem powerDown_keeps {t₀ : State} (cause : Nat) (s : State) (h₀ : Keeps t₀ s) :
    Keeps t₀ (powerDown cause s) := by
  unfold powerDown
  repeat' first
    | with_reducible assumption
    | with_reducible exact fun _ => rfl
    | with_reducible exact fun _ _ => rfl
    | with_reducible exact fun _ => ⟨id, id⟩
    | (rename_i hq; have hq2 := congrArg Prod.snd hq; with_reducible dsimp only at hq2; subst hq2)
    | simp only [↓keeps_mk_iff]
    | with_reducible refine keeps_ite ?_ ?_
    | with_reducible refine outKeeps_ite ?_ ?_
    | with_reducible refine outKeeps_next.2 ?_
    | with_reducible refine keeps_ite2 ?_ ?_
    | with_reducible refine keeps_foldl ?_ (fun _ _ _ => ?_)
    | with_reducible apply twinRole_keeps | with_reducible apply setBoot_keeps | with_reducible apply domainsOff_keeps | with_reducible apply enterSafeHold_keeps
    | split
    | dsimp only

theorem execPowerFail_keeps {t₀ : State} (dt : Nat) (volt : BitVec 16) (s : State) (h₀ : Keeps t₀ s) :
    OutKeeps t₀ (execPowerFail dt volt s) := by
  unfold execPowerFail
  repeat' first
    | with_reducible assumption
    | with_reducible exact fun _ => rfl
    | with_reducible exact fun _ _ => rfl
    | with_reducible exact fun _ => ⟨id, id⟩
    | (rename_i hq; have hq2 := congrArg Prod.snd hq; with_reducible dsimp only at hq2; subst hq2)
    | simp only [↓keeps_mk_iff]
    | with_reducible refine keeps_ite ?_ ?_
    | with_reducible refine outKeeps_ite ?_ ?_
    | with_reducible refine outKeeps_next.2 ?_
    | with_reducible refine keeps_ite2 ?_ ?_
    | with_reducible refine keeps_foldl ?_ (fun _ _ _ => ?_)
    | with_reducible apply advance_keeps | with_reducible apply powerDown_keeps | with_reducible apply record_keeps | with_reducible apply setPwr_keeps
    | split
    | dsimp only

theorem supplyDip_keeps {t₀ : State} (us volt : Nat) (s : State) (h₀ : Keeps t₀ s) :
    Keeps t₀ (supplyDip us volt s) := by
  unfold supplyDip
  repeat' first
    | with_reducible assumption
    | with_reducible exact fun _ => rfl
    | with_reducible exact fun _ _ => rfl
    | with_reducible exact fun _ => ⟨id, id⟩
    | (rename_i hq; have hq2 := congrArg Prod.snd hq; with_reducible dsimp only at hq2; subst hq2)
    | simp only [↓keeps_mk_iff]
    | with_reducible refine keeps_ite ?_ ?_
    | with_reducible refine outKeeps_ite ?_ ?_
    | with_reducible refine outKeeps_next.2 ?_
    | with_reducible refine keeps_ite2 ?_ ?_
    | with_reducible refine keeps_foldl ?_ (fun _ _ _ => ?_)
    | with_reducible apply record_keeps | with_reducible apply setPwr_keeps
    | split
    | dsimp only

theorem execSupplyReturn_keeps {t₀ : State} (us : BitVec 32) (volt : BitVec 16) (s : State) (h₀ : Keeps t₀ s) :
    OutKeeps t₀ (execSupplyReturn us volt s) := by
  unfold execSupplyReturn
  repeat' first
    | with_reducible assumption
    | with_reducible exact fun _ => rfl
    | with_reducible exact fun _ _ => rfl
    | with_reducible exact fun _ => ⟨id, id⟩
    | (rename_i hq; have hq2 := congrArg Prod.snd hq; with_reducible dsimp only at hq2; subst hq2)
    | simp only [↓keeps_mk_iff]
    | with_reducible refine keeps_ite ?_ ?_
    | with_reducible refine outKeeps_ite ?_ ?_
    | with_reducible refine outKeeps_next.2 ?_
    | with_reducible refine keeps_ite2 ?_ ?_
    | with_reducible refine keeps_foldl ?_ (fun _ _ _ => ?_)
    | with_reducible apply supplyDip_keeps | with_reducible apply wake_keeps | with_reducible apply setPwr_keeps | with_reducible apply toCold_keeps
    | split
    | dsimp only

theorem execHoldupExhausted_keeps {t₀ : State} (s : State) (h₀ : Keeps t₀ s) :
    OutKeeps t₀ (execHoldupExhausted s) := by
  unfold execHoldupExhausted
  repeat' first
    | with_reducible assumption
    | with_reducible exact fun _ => rfl
    | with_reducible exact fun _ _ => rfl
    | with_reducible exact fun _ => ⟨id, id⟩
    | (rename_i hq; have hq2 := congrArg Prod.snd hq; with_reducible dsimp only at hq2; subst hq2)
    | simp only [↓keeps_mk_iff]
    | with_reducible refine keeps_ite ?_ ?_
    | with_reducible refine outKeeps_ite ?_ ?_
    | with_reducible refine outKeeps_next.2 ?_
    | with_reducible refine keeps_ite2 ?_ ?_
    | with_reducible refine keeps_foldl ?_ (fun _ _ _ => ?_)
    | with_reducible apply toCold_keeps
    | split
    | dsimp only

theorem execBrownOutReset_keeps {t₀ : State} (railTrip : Bool) (s : State) (h₀ : Keeps t₀ s) :
    OutKeeps t₀ (execBrownOutReset railTrip s) := by
  unfold execBrownOutReset
  repeat' first
    | with_reducible assumption
    | with_reducible exact fun _ => rfl
    | with_reducible exact fun _ _ => rfl
    | with_reducible exact fun _ => ⟨id, id⟩
    | (rename_i hq; have hq2 := congrArg Prod.snd hq; with_reducible dsimp only at hq2; subst hq2)
    | simp only [↓keeps_mk_iff]
    | with_reducible refine keeps_ite ?_ ?_
    | with_reducible refine outKeeps_ite ?_ ?_
    | with_reducible refine outKeeps_next.2 ?_
    | with_reducible refine keeps_ite2 ?_ ?_
    | with_reducible refine keeps_foldl ?_ (fun _ _ _ => ?_)
    | with_reducible apply toCold_keeps
    | split
    | dsimp only

theorem laneRailLost_keeps {t₀ : State} (l : Fin 4) (s : State) (h₀ : Keeps t₀ s) :
    Keeps t₀ (laneRailLost l s) := by
  unfold laneRailLost
  repeat' first
    | with_reducible assumption
    | with_reducible exact fun _ => rfl
    | with_reducible exact fun _ _ => rfl
    | with_reducible exact fun _ => ⟨id, id⟩
    | (rename_i hq; have hq2 := congrArg Prod.snd hq; with_reducible dsimp only at hq2; subst hq2)
    | simp only [↓keeps_mk_iff]
    | with_reducible refine keeps_ite ?_ ?_
    | with_reducible refine outKeeps_ite ?_ ?_
    | with_reducible refine outKeeps_next.2 ?_
    | with_reducible refine keeps_ite2 ?_ ?_
    | with_reducible refine keeps_foldl ?_ (fun _ _ _ => ?_)
    | with_reducible apply laneZero_keeps | with_reducible apply wideStop_keeps | with_reducible apply setLane_keeps | with_reducible apply retire_keeps | with_reducible apply laneSilent_keeps | with_reducible apply toQuarantine_keeps | with_reducible apply domainRamp_keeps | with_reducible apply setPwr_keeps | with_reducible apply setVote_keeps | with_reducible apply lanesLeave_keeps
    | split
    | dsimp only

theorem voterLost_keeps {t₀ : State} (s : State) (h₀ : Keeps t₀ s) : Keeps t₀ (voterLost s) := by
  unfold voterLost
  have h1 := twinRole_keeps .alone 0x0063 _ (setVote_keeps .none false 0x0063 _ (klmDiscard_keeps _ (busLeave_keeps _ h₀)))
  dsimp only
  refine keeps_ite (setModState_keeps _ _ _ ?_) ?_
  all_goals
    refine keeps_mk (fun x => ?_) id h1
    have y := (memWf_iff _).1 x
    exact ⟨Memory.wf_filter _ y.1, y.2.1, y.2.2.1, rfl, y.2.2.2.2⟩

theorem blockLost_keeps {t₀ : State} (d : Nat) (s : State) (h₀ : Keeps t₀ s) : Keeps t₀ (blockLost d s) := by
  unfold blockLost
  have h2 := busLeave_keeps s h₀
  refine keeps_ite (voterLost_keeps _ h₀) (keeps_ite (linkSet_keeps _ _ _ (linkSet_keeps _ _ _ ?_)) (keeps_ite
    (linkSet_keeps _ _ _ (linkSet_keeps _ _ _ ?_)) (keeps_ite ?_ (keeps_ite ?_ (keeps_ite (networksOpen_keeps _ (keeps_ite
    (enterSafeHold_keeps _ _ h₀) h₀)) (keeps_ite ?_ h₀))))))
  · simp only [↓keeps_mk_iff]; exact h₀
  · simp only [↓keeps_mk_iff]; exact h₀
  · refine keeps_mk (fun x => ?_) id h2
    have y := (memWf_iff _).1 x
    exact ⟨y.1, y.2.1, rfl, y.2.2.2⟩
  · simp only [↓keeps_mk_iff]; exact h₀
  · simp only [↓keeps_mk_iff]; exact h₀

theorem execDomainFault_keeps {t₀ : State} (domain : Fin 12) (mv : BitVec 32) (s : State) (h₀ : Keeps t₀ s) :
    OutKeeps t₀ (execDomainFault domain mv s) := by
  unfold execDomainFault
  repeat' first
    | with_reducible assumption
    | with_reducible exact fun _ => rfl
    | with_reducible exact fun _ _ => rfl
    | with_reducible exact fun _ => ⟨id, id⟩
    | (rename_i hq; have hq2 := congrArg Prod.snd hq; with_reducible dsimp only at hq2; subst hq2)
    | simp only [↓keeps_mk_iff]
    | with_reducible refine keeps_ite ?_ ?_
    | with_reducible refine outKeeps_ite ?_ ?_
    | with_reducible refine outKeeps_next.2 ?_
    | with_reducible refine keeps_ite2 ?_ ?_
    | with_reducible refine keeps_foldl ?_ (fun _ _ _ => ?_)
    | with_reducible apply record_keeps | with_reducible apply setPwr_keeps | with_reducible apply toCold_keeps | with_reducible apply laneRailLost_keeps | with_reducible apply blockLost_keeps
    | split
    | dsimp only

theorem execModuleWithdrawn_keeps {t₀ : State} (s : State) (h₀ : Keeps t₀ s) :
    OutKeeps t₀ (execModuleWithdrawn s) := by
  unfold execModuleWithdrawn
  repeat' first
    | with_reducible assumption
    | with_reducible exact fun _ => rfl
    | with_reducible exact fun _ _ => rfl
    | with_reducible exact fun _ => ⟨id, id⟩
    | (rename_i hq; have hq2 := congrArg Prod.snd hq; with_reducible dsimp only at hq2; subst hq2)
    | simp only [↓keeps_mk_iff]
    | with_reducible refine keeps_ite ?_ ?_
    | with_reducible refine outKeeps_ite ?_ ?_
    | with_reducible refine outKeeps_next.2 ?_
    | with_reducible refine keeps_ite2 ?_ ?_
    | with_reducible refine keeps_foldl ?_ (fun _ _ _ => ?_)
    | with_reducible apply powerDown_keeps | with_reducible apply record_keeps | with_reducible apply setPwr_keeps
    | split
    | dsimp only

theorem execTempMeasurement_keeps {t₀ : State} (temp : BitVec 16) (s : State) (h₀ : Keeps t₀ s) :
    OutKeeps t₀ (execTempMeasurement temp s) := by
  unfold execTempMeasurement
  repeat' first
    | with_reducible assumption
    | with_reducible exact fun _ => rfl
    | with_reducible exact fun _ _ => rfl
    | with_reducible exact fun _ => ⟨id, id⟩
    | (rename_i hq; have hq2 := congrArg Prod.snd hq; with_reducible dsimp only at hq2; subst hq2)
    | simp only [↓keeps_mk_iff]
    | with_reducible refine keeps_ite ?_ ?_
    | with_reducible refine outKeeps_ite ?_ ?_
    | with_reducible refine outKeeps_next.2 ?_
    | with_reducible refine keeps_ite2 ?_ ?_
    | with_reducible refine keeps_foldl ?_ (fun _ _ _ => ?_)
    | with_reducible apply setPwr_keeps | with_reducible apply record_keeps | with_reducible apply enterSafeHold_keeps
    | split
    | dsimp only

theorem dropTransfers_keeps {t₀ : State} (b : Session) (s : State) (h₀ : Keeps t₀ s) :
    Keeps t₀ (dropTransfers b s) := by
  unfold dropTransfers
  repeat' first
    | with_reducible assumption
    | with_reducible exact fun _ => rfl
    | with_reducible exact fun _ _ => rfl
    | with_reducible exact fun _ => ⟨id, id⟩
    | (rename_i hq; have hq2 := congrArg Prod.snd hq; with_reducible dsimp only at hq2; subst hq2)
    | simp only [↓keeps_mk_iff]
    | with_reducible refine keeps_ite ?_ ?_
    | with_reducible refine outKeeps_ite ?_ ?_
    | with_reducible refine outKeeps_next.2 ?_
    | with_reducible refine keeps_ite2 ?_ ?_
    | with_reducible refine keeps_foldl ?_ (fun _ _ _ => ?_)
    | with_reducible apply abandonFw_keeps | with_reducible apply abandonApp_keeps | with_reducible apply abandonSched_keeps | with_reducible apply setKiln_keeps
    | split
    | dsimp only

theorem closeSession_keeps {t₀ : State} (b : Session) (s : State) (h₀ : Keeps t₀ s) :
    Keeps t₀ (closeSession b s) := by
  unfold closeSession
  repeat' first
    | with_reducible assumption
    | with_reducible exact fun _ => rfl
    | with_reducible exact fun _ _ => rfl
    | with_reducible exact fun _ => ⟨id, id⟩
    | (rename_i hq; have hq2 := congrArg Prod.snd hq; with_reducible dsimp only at hq2; subst hq2)
    | simp only [↓keeps_mk_iff]
    | with_reducible refine keeps_ite ?_ ?_
    | with_reducible refine outKeeps_ite ?_ ?_
    | with_reducible refine outKeeps_next.2 ?_
    | with_reducible refine keeps_ite2 ?_ ?_
    | with_reducible refine keeps_foldl ?_ (fun _ _ _ => ?_)
    | with_reducible apply setSess_keeps | with_reducible apply dropTransfers_keeps
    | split
    | dsimp only

theorem openCan_keeps {t₀ : State} (ch : Fin 2) (s : State) (h₀ : Keeps t₀ s) :
    Keeps t₀ (openCan ch s) := by
  unfold openCan
  repeat' first
    | with_reducible assumption
    | with_reducible exact fun _ => rfl
    | with_reducible exact fun _ _ => rfl
    | with_reducible exact fun _ => ⟨id, id⟩
    | (rename_i hq; have hq2 := congrArg Prod.snd hq; with_reducible dsimp only at hq2; subst hq2)
    | simp only [↓keeps_mk_iff]
    | with_reducible refine keeps_ite ?_ ?_
    | with_reducible refine outKeeps_ite ?_ ?_
    | with_reducible refine outKeeps_next.2 ?_
    | with_reducible refine keeps_ite2 ?_ ?_
    | with_reducible refine keeps_foldl ?_ (fun _ _ _ => ?_)
    | with_reducible apply setSess_keeps
    | split
    | dsimp only

theorem paramWrite_keeps {t₀ : State} (b : Session) (idx sub v : Nat) (s : State) (h₀ : Keeps t₀ s) :
    Keeps t₀ (paramWrite b idx sub v s) := by
  unfold paramWrite
  repeat' first
    | with_reducible assumption
    | with_reducible exact fun _ => rfl
    | with_reducible exact fun _ _ => rfl
    | with_reducible exact fun _ => ⟨id, id⟩
    | (rename_i hq; have hq2 := congrArg Prod.snd hq; with_reducible dsimp only at hq2; subst hq2)
    | simp only [↓keeps_mk_iff]
    | with_reducible refine keeps_ite ?_ ?_
    | with_reducible refine outKeeps_ite ?_ ?_
    | with_reducible refine outKeeps_next.2 ?_
    | with_reducible refine keeps_ite2 ?_ ?_
    | with_reducible refine keeps_foldl ?_ (fun _ _ _ => ?_)
    | with_reducible apply record_keeps | with_reducible apply putParam_keeps
    | split
    | dsimp only

theorem challenge_keeps {t₀ : State} (b : Session) (s : State) (h₀ : Keeps t₀ s) :
    Keeps t₀ (challenge b s).2 := by
  unfold challenge
  repeat' first
    | with_reducible assumption
    | with_reducible exact fun _ => rfl
    | with_reducible exact fun _ _ => rfl
    | with_reducible exact fun _ => ⟨id, id⟩
    | (rename_i hq; have hq2 := congrArg Prod.snd hq; with_reducible dsimp only at hq2; subst hq2)
    | simp only [↓keeps_mk_iff]
    | with_reducible refine keeps_ite ?_ ?_
    | with_reducible refine outKeeps_ite ?_ ?_
    | with_reducible refine outKeeps_next.2 ?_
    | with_reducible refine keeps_ite2 ?_ ?_
    | with_reducible refine keeps_foldl ?_ (fun _ _ _ => ?_)
    | with_reducible apply advance_keeps | with_reducible apply setKiln_keeps | with_reducible apply setSess_keeps
    | split
    | dsimp only

theorem keyFail_keeps {t₀ : State} (b : Session) (why : Nat) (s : State) (h₀ : Keeps t₀ s) :
    Keeps t₀ (keyFail b why s) := by
  unfold keyFail
  repeat' first
    | with_reducible assumption
    | with_reducible exact fun _ => rfl
    | with_reducible exact fun _ _ => rfl
    | with_reducible exact fun _ => ⟨id, id⟩
    | (rename_i hq; have hq2 := congrArg Prod.snd hq; with_reducible dsimp only at hq2; subst hq2)
    | simp only [↓keeps_mk_iff]
    | with_reducible refine keeps_ite ?_ ?_
    | with_reducible refine outKeeps_ite ?_ ?_
    | with_reducible refine outKeeps_next.2 ?_
    | with_reducible refine keeps_ite2 ?_ ?_
    | with_reducible refine keeps_foldl ?_ (fun _ _ _ => ?_)
    | with_reducible apply record_keeps | with_reducible apply setKiln_keeps
    | split
    | dsimp only

theorem keyChallenge_keeps {t₀ : State} (b : Session) (s : State) (h₀ : Keeps t₀ s) :
    Keeps t₀ (keyChallenge b s).2 := by
  unfold keyChallenge
  repeat' first
    | with_reducible assumption
    | with_reducible exact fun _ => rfl
    | with_reducible exact fun _ _ => rfl
    | with_reducible exact fun _ => ⟨id, id⟩
    | (rename_i hq; have hq2 := congrArg Prod.snd hq; with_reducible dsimp only at hq2; subst hq2)
    | simp only [↓keeps_mk_iff]
    | with_reducible refine keeps_ite ?_ ?_
    | with_reducible refine outKeeps_ite ?_ ?_
    | with_reducible refine outKeeps_next.2 ?_
    | with_reducible refine keeps_ite2 ?_ ?_
    | with_reducible refine keeps_foldl ?_ (fun _ _ _ => ?_)
    | with_reducible apply record_keeps | with_reducible apply challenge_keeps
    | split
    | dsimp only

theorem keyResponse_keeps {t₀ : State} (b : Session) (r : List Byte) (s : State) (h₀ : Keeps t₀ s) :
    Keeps t₀ (keyResponse b r s).2 := by
  unfold keyResponse
  repeat' first
    | with_reducible assumption
    | with_reducible exact fun _ => rfl
    | with_reducible exact fun _ _ => rfl
    | with_reducible exact fun _ => ⟨id, id⟩
    | (rename_i hq; have hq2 := congrArg Prod.snd hq; with_reducible dsimp only at hq2; subst hq2)
    | simp only [↓keeps_mk_iff]
    | with_reducible refine keeps_ite ?_ ?_
    | with_reducible refine outKeeps_ite ?_ ?_
    | with_reducible refine outKeeps_next.2 ?_
    | with_reducible refine keeps_ite2 ?_ ?_
    | with_reducible refine keeps_foldl ?_ (fun _ _ _ => ?_)
    | with_reducible apply record_keeps | with_reducible apply setSess_keeps | with_reducible apply challenge_keeps | with_reducible apply keyFail_keeps
    | split
    | dsimp only

theorem stageSafety_keeps {t₀ : State} (b : Option Session) (idx sub : Nat) (v : List Byte) (s : State) (h₀ : Keeps t₀ s) :
    Keeps t₀ (stageSafety b idx sub v s) := by
  unfold stageSafety
  repeat' first
    | with_reducible assumption
    | with_reducible exact fun _ => rfl
    | with_reducible exact fun _ _ => rfl
    | with_reducible exact fun _ => ⟨id, id⟩
    | (rename_i hq; have hq2 := congrArg Prod.snd hq; with_reducible dsimp only at hq2; subst hq2)
    | simp only [↓keeps_mk_iff]
    | with_reducible refine keeps_ite ?_ ?_
    | with_reducible refine outKeeps_ite ?_ ?_
    | with_reducible refine outKeeps_next.2 ?_
    | with_reducible refine keeps_ite2 ?_ ?_
    | with_reducible refine keeps_foldl ?_ (fun _ _ _ => ?_)
    | with_reducible apply raise_keeps | with_reducible apply setKiln_keeps | with_reducible apply semKiln_keeps
    | split
    | dsimp only

theorem safetyWrite_keeps {t₀ : State} (b : Session) (idx sub : Nat) (e : DEntry) (d : List Byte) (s : State) (h₀ : Keeps t₀ s) :
    Keeps t₀ (safetyWrite b idx sub e d s).2 := by
  unfold safetyWrite
  repeat' first
    | with_reducible assumption
    | with_reducible exact fun _ => rfl
    | with_reducible exact fun _ _ => rfl
    | with_reducible exact fun _ => ⟨id, id⟩
    | (rename_i hq; have hq2 := congrArg Prod.snd hq; with_reducible dsimp only at hq2; subst hq2)
    | simp only [↓keeps_mk_iff]
    | with_reducible refine keeps_ite ?_ ?_
    | with_reducible refine outKeeps_ite ?_ ?_
    | with_reducible refine outKeeps_next.2 ?_
    | with_reducible refine keeps_ite2 ?_ ?_
    | with_reducible refine keeps_foldl ?_ (fun _ _ _ => ?_)
    | with_reducible apply imageRefuse_keeps | with_reducible apply stageSafety_keeps | with_reducible apply paramWrite_keeps
    | split
    | dsimp only

theorem safetyApply_keeps {t₀ : State} (idx sub v : Nat) (s : State) (h₀ : Keeps t₀ s) :
    Keeps t₀ (safetyApply idx sub v s) := by
  unfold safetyApply
  repeat' first
    | with_reducible assumption
    | with_reducible exact fun _ => rfl
    | with_reducible exact fun _ _ => rfl
    | with_reducible exact fun _ => ⟨id, id⟩
    | (rename_i hq; have hq2 := congrArg Prod.snd hq; with_reducible dsimp only at hq2; subst hq2)
    | simp only [↓keeps_mk_iff]
    | with_reducible refine keeps_ite ?_ ?_
    | with_reducible refine outKeeps_ite ?_ ?_
    | with_reducible refine outKeeps_next.2 ?_
    | with_reducible refine keeps_ite2 ?_ ?_
    | with_reducible refine keeps_foldl ?_ (fun _ _ _ => ?_)
    | with_reducible apply setKiln_keeps
    | split
    | dsimp only

theorem fwProgram_keeps {t₀ : State} (off : Nat) (last : Bool) (d : List Byte) (s : State) (h₀ : Keeps t₀ s) :
    Keeps t₀ (fwProgram off last d s) := by
  unfold fwProgram
  repeat' first
    | with_reducible assumption
    | with_reducible exact fun _ => rfl
    | with_reducible exact fun _ _ => rfl
    | with_reducible exact fun _ => ⟨id, id⟩
    | (rename_i hq; have hq2 := congrArg Prod.snd hq; with_reducible dsimp only at hq2; subst hq2)
    | simp only [↓keeps_mk_iff]
    | with_reducible refine keeps_ite ?_ ?_
    | with_reducible refine outKeeps_ite ?_ ?_
    | with_reducible refine outKeeps_next.2 ?_
    | with_reducible refine keeps_ite2 ?_ ?_
    | with_reducible refine keeps_foldl ?_ (fun _ _ _ => ?_)
    | with_reducible apply setFwBank_keeps | with_reducible apply record_keeps | with_reducible apply setBoot_keeps
    | split
    | dsimp only

theorem fwErased_keeps {t₀ : State} (s : State) (h₀ : Keeps t₀ s) :
    Keeps t₀ (fwErased s) := by
  unfold fwErased
  repeat' first
    | with_reducible assumption
    | with_reducible exact fun _ => rfl
    | with_reducible exact fun _ _ => rfl
    | with_reducible exact fun _ => ⟨id, id⟩
    | (rename_i hq; have hq2 := congrArg Prod.snd hq; with_reducible dsimp only at hq2; subst hq2)
    | simp only [↓keeps_mk_iff]
    | with_reducible refine keeps_ite ?_ ?_
    | with_reducible refine outKeeps_ite ?_ ?_
    | with_reducible refine outKeeps_next.2 ?_
    | with_reducible refine keeps_ite2 ?_ ?_
    | with_reducible refine keeps_foldl ?_ (fun _ _ _ => ?_)
    | with_reducible apply reply_keeps | with_reducible apply fwProgram_keeps | with_reducible apply setBoot_keeps
    | split
    | dsimp only

theorem fwOpen_keeps {t₀ : State} (s : State) (h₀ : Keeps t₀ s) :
    Keeps t₀ (fwOpen s) := by
  unfold fwOpen
  repeat' first
    | with_reducible assumption
    | with_reducible exact fun _ => rfl
    | with_reducible exact fun _ _ => rfl
    | with_reducible exact fun _ => ⟨id, id⟩
    | (rename_i hq; have hq2 := congrArg Prod.snd hq; with_reducible dsimp only at hq2; subst hq2)
    | simp only [↓keeps_mk_iff]
    | with_reducible refine keeps_ite ?_ ?_
    | with_reducible refine outKeeps_ite ?_ ?_
    | with_reducible refine outKeeps_next.2 ?_
    | with_reducible refine keeps_ite2 ?_ ?_
    | with_reducible refine keeps_foldl ?_ (fun _ _ _ => ?_)
    | with_reducible apply record_keeps | with_reducible apply setKiln_keeps | with_reducible apply setBoot_keeps | with_reducible apply fwErased_keeps | with_reducible apply setFwBank_keeps
    | split
    | dsimp only

theorem fwBlock_keeps {t₀ : State} (b : Session) (k : BlockIn) (s : State) (h₀ : Keeps t₀ s) :
    Keeps t₀ (fwBlock b k s).2 := by
  unfold fwBlock
  repeat' first
    | with_reducible assumption
    | with_reducible exact fun _ => rfl
    | with_reducible exact fun _ _ => rfl
    | with_reducible exact fun _ => ⟨id, id⟩
    | (rename_i hq; have hq2 := congrArg Prod.snd hq; with_reducible dsimp only at hq2; subst hq2)
    | simp only [↓keeps_mk_iff]
    | with_reducible refine keeps_ite ?_ ?_
    | with_reducible refine outKeeps_ite ?_ ?_
    | with_reducible refine outKeeps_next.2 ?_
    | with_reducible refine keeps_ite2 ?_ ?_
    | with_reducible refine keeps_foldl ?_ (fun _ _ _ => ?_)
    | with_reducible apply fwOpen_keeps | with_reducible apply setBoot_keeps | with_reducible apply fwProgram_keeps | with_reducible apply fwErased_keeps
    | split
    | dsimp only

theorem appBlock_keeps {t₀ : State} (b : Session) (k : BlockIn) (s : State) (h₀ : Keeps t₀ s) :
    Keeps t₀ (appBlock b k s).2 := by
  unfold appBlock
  repeat' first
    | with_reducible assumption
    | with_reducible exact fun _ => rfl
    | with_reducible exact fun _ _ => rfl
    | with_reducible exact fun _ => ⟨id, id⟩
    | (rename_i hq; have hq2 := congrArg Prod.snd hq; with_reducible dsimp only at hq2; subst hq2)
    | simp only [↓keeps_mk_iff]
    | with_reducible refine keeps_ite ?_ ?_
    | with_reducible refine outKeeps_ite ?_ ?_
    | with_reducible refine outKeeps_next.2 ?_
    | with_reducible refine keeps_ite2 ?_ ?_
    | with_reducible refine keeps_foldl ?_ (fun _ _ _ => ?_)
    | with_reducible apply setBoot_keeps
    | split
    | dsimp only

theorem schedBlock_keeps {t₀ : State} (b : Session) (k : BlockIn) (s : State) (h₀ : Keeps t₀ s) :
    Keeps t₀ (schedBlock b k s).2 := by
  unfold schedBlock
  repeat' first
    | with_reducible assumption
    | with_reducible exact fun _ => rfl
    | with_reducible exact fun _ _ => rfl
    | with_reducible exact fun _ => ⟨id, id⟩
    | (rename_i hq; have hq2 := congrArg Prod.snd hq; with_reducible dsimp only at hq2; subst hq2)
    | simp only [↓keeps_mk_iff]
    | with_reducible refine keeps_ite ?_ ?_
    | with_reducible refine outKeeps_ite ?_ ?_
    | with_reducible refine outKeeps_next.2 ?_
    | with_reducible refine keeps_ite2 ?_ ?_
    | with_reducible refine keeps_foldl ?_ (fun _ _ _ => ?_)
    | with_reducible apply setBoot_keeps | with_reducible apply setXn_keeps | with_reducible apply record_keeps | with_reducible apply setKiln_keeps
    | split
    | dsimp only

theorem fwCommand_keeps {t₀ : State} (v : Nat) (s : State) (h₀ : Keeps t₀ s) :
    Keeps t₀ (fwCommand v s).2 := by
  unfold fwCommand
  repeat' first
    | with_reducible assumption
    | with_reducible exact fun _ => rfl
    | with_reducible exact fun _ _ => rfl
    | with_reducible exact fun _ => ⟨id, id⟩
    | (rename_i hq; have hq2 := congrArg Prod.snd hq; with_reducible dsimp only at hq2; subst hq2)
    | simp only [↓keeps_mk_iff]
    | with_reducible refine keeps_ite ?_ ?_
    | with_reducible refine outKeeps_ite ?_ ?_
    | with_reducible refine outKeeps_next.2 ?_
    | with_reducible refine keeps_ite2 ?_ ?_
    | with_reducible refine keeps_foldl ?_ (fun _ _ _ => ?_)
    | with_reducible apply record_keeps | with_reducible apply setBoot_keeps | with_reducible apply setFwBank_keeps
    | split
    | dsimp only

theorem onTarget_keeps {t₀ : State} (f : Core → Core) (s : State) (h₀ : Keeps t₀ s) :
    Keeps t₀ (onTarget f s) := by
  unfold onTarget
  repeat' first
    | with_reducible assumption
    | with_reducible exact fun _ => rfl
    | with_reducible exact fun _ _ => rfl
    | with_reducible exact fun _ => ⟨id, id⟩
    | (rename_i hq; have hq2 := congrArg Prod.snd hq; with_reducible dsimp only at hq2; subst hq2)
    | simp only [↓keeps_mk_iff]
    | with_reducible refine keeps_ite ?_ ?_
    | with_reducible refine outKeeps_ite ?_ ?_
    | with_reducible refine outKeeps_next.2 ?_
    | with_reducible refine keeps_ite2 ?_ ?_
    | with_reducible refine keeps_foldl ?_ (fun _ _ _ => ?_)
    | with_reducible apply mapCores_keeps
    | split
    | dsimp only

theorem haltTarget_keeps {t₀ : State} (s : State) (h₀ : Keeps t₀ s) :
    Keeps t₀ (haltTarget s) := by
  unfold haltTarget
  repeat' first
    | with_reducible assumption
    | with_reducible exact fun _ => rfl
    | with_reducible exact fun _ _ => rfl
    | with_reducible exact fun _ => ⟨id, id⟩
    | (rename_i hq; have hq2 := congrArg Prod.snd hq; with_reducible dsimp only at hq2; subst hq2)
    | simp only [↓keeps_mk_iff]
    | with_reducible refine keeps_ite ?_ ?_
    | with_reducible refine outKeeps_ite ?_ ?_
    | with_reducible refine outKeeps_next.2 ?_
    | with_reducible refine keeps_ite2 ?_ ?_
    | with_reducible refine keeps_foldl ?_ (fun _ _ _ => ?_)
    | with_reducible apply onTarget_keeps | with_reducible apply enterService_keeps
    | split
    | dsimp only

theorem debugCommand_keeps {t₀ : State} (v : Nat) (s : State) (h₀ : Keeps t₀ s) :
    Keeps t₀ (debugCommand v s).2 := by
  unfold debugCommand
  repeat' first
    | with_reducible assumption
    | with_reducible exact fun _ => rfl
    | with_reducible exact fun _ _ => rfl
    | with_reducible exact fun _ => ⟨id, id⟩
    | (rename_i hq; have hq2 := congrArg Prod.snd hq; with_reducible dsimp only at hq2; subst hq2)
    | simp only [↓keeps_mk_iff]
    | with_reducible refine keeps_ite ?_ ?_
    | with_reducible refine outKeeps_ite ?_ ?_
    | with_reducible refine outKeeps_next.2 ?_
    | with_reducible refine keeps_ite2 ?_ ?_
    | with_reducible refine keeps_foldl ?_ (fun _ _ _ => ?_)
    | with_reducible apply record_keeps | with_reducible apply haltTarget_keeps | with_reducible apply onTarget_keeps
    | split
    | dsimp only

theorem debugMemWrite_keeps {t₀ : State} (d : List Byte) (s : State) (h₀ : Keeps t₀ s) :
    Keeps t₀ (debugMemWrite d s) := by
  unfold debugMemWrite
  repeat' first
    | with_reducible assumption
    | with_reducible exact fun _ => rfl
    | with_reducible exact fun _ _ => rfl
    | with_reducible exact fun _ => ⟨id, id⟩
    | (rename_i hq; have hq2 := congrArg Prod.snd hq; with_reducible dsimp only at hq2; subst hq2)
    | simp only [↓keeps_mk_iff]
    | with_reducible refine keeps_ite ?_ ?_
    | with_reducible refine outKeeps_ite ?_ ?_
    | with_reducible refine outKeeps_next.2 ?_
    | with_reducible refine keeps_ite2 ?_ ?_
    | with_reducible refine keeps_foldl ?_ (fun _ _ _ => ?_)
    | with_reducible refine keeps_vmem (fun h => Memory.wf_memWriteBe _ _ _ _ h) rfl rfl rfl rfl rfl ?_
    | with_reducible refine keeps_vmem (fun h => Memory.wf_memWrite _ _ h) rfl rfl rfl rfl rfl ?_
    | with_reducible refine keeps_vmem (fun h => Memory.wf_filter _ h) rfl rfl rfl rfl rfl ?_
    | with_reducible refine keeps_mems (fun h => wf_mems_set h (Memory.wf_memWriteBe _ _ _ _ (h _))) rfl rfl rfl rfl rfl ?_
    | with_reducible refine keeps_mems (fun h => wf_mems_set h (Memory.wf_memWrite _ _ (h _))) rfl rfl rfl rfl rfl ?_
    | with_reducible refine keeps_mems (fun h => wf_mems_set h (Memory.wf_memCopyIf _ (h _))) rfl rfl rfl rfl rfl ?_
    | with_reducible refine keeps_mems (fun h => wf_mems_set h (Memory.wf_nil)) rfl rfl rfl rfl rfl ?_
    | with_reducible apply onTarget_keeps
    | split
    | dsimp only

theorem selectLane_keeps {t₀ : State} (v : Nat) (s : State) (h₀ : Keeps t₀ s) :
    Keeps t₀ (selectLane v s).2 := by
  unfold selectLane
  repeat' first
    | with_reducible assumption
    | with_reducible exact fun _ => rfl
    | with_reducible exact fun _ _ => rfl
    | with_reducible exact fun _ => ⟨id, id⟩
    | (rename_i hq; have hq2 := congrArg Prod.snd hq; with_reducible dsimp only at hq2; subst hq2)
    | simp only [↓keeps_mk_iff]
    | with_reducible refine keeps_ite ?_ ?_
    | with_reducible refine outKeeps_ite ?_ ?_
    | with_reducible refine outKeeps_next.2 ?_
    | with_reducible refine keeps_ite2 ?_ ?_
    | with_reducible refine keeps_foldl ?_ (fun _ _ _ => ?_)
    | with_reducible apply setVote_keeps | with_reducible apply setLane_keeps | with_reducible apply laneReset_keeps
    | split
    | dsimp only

theorem gatewayStart_keeps {t₀ : State} (b : Session) (write : Bool) (off : Nat) (d : List Byte) (s : State) (h₀ : Keeps t₀ s) :
    Keeps t₀ (gatewayStart b write off d s).2 := by
  unfold gatewayStart
  repeat' first
    | with_reducible assumption
    | with_reducible exact fun _ => rfl
    | with_reducible exact fun _ _ => rfl
    | with_reducible exact fun _ => ⟨id, id⟩
    | (rename_i hq; have hq2 := congrArg Prod.snd hq; with_reducible dsimp only at hq2; subst hq2)
    | simp only [↓keeps_mk_iff]
    | with_reducible refine keeps_ite ?_ ?_
    | with_reducible refine outKeeps_ite ?_ ?_
    | with_reducible refine outKeeps_next.2 ?_
    | with_reducible refine keeps_ite2 ?_ ?_
    | with_reducible refine keeps_foldl ?_ (fun _ _ _ => ?_)
    | with_reducible apply setXn_keeps
    | split
    | dsimp only

theorem dictRead_keeps {t₀ : State} (b : Session) (idx sub off : Nat) (s : State) (h₀ : Keeps t₀ s) :
    Keeps t₀ (dictRead b idx sub off s).2 := by
  unfold dictRead
  repeat' first
    | with_reducible assumption
    | with_reducible exact fun _ => rfl
    | with_reducible exact fun _ _ => rfl
    | with_reducible exact fun _ => ⟨id, id⟩
    | (rename_i hq; have hq2 := congrArg Prod.snd hq; with_reducible dsimp only at hq2; subst hq2)
    | simp only [↓keeps_mk_iff]
    | with_reducible refine keeps_ite ?_ ?_
    | with_reducible refine outKeeps_ite ?_ ?_
    | with_reducible refine outKeeps_next.2 ?_
    | with_reducible refine keeps_ite2 ?_ ?_
    | with_reducible refine keeps_foldl ?_ (fun _ _ _ => ?_)
    | with_reducible apply keyChallenge_keeps | with_reducible apply gatewayStart_keeps
    | split
    | dsimp only

theorem wrote_keeps {t₀ : State} (r : Option Nat × State) (h₀ : Keeps t₀ r.2) : Keeps t₀ (wrote r).2 := h₀

theorem accepted_keeps {t₀ : State} (s : State) (h₀ : Keeps t₀ s) :
    Keeps t₀ (accepted s).2 := by
  unfold accepted
  repeat' first
    | with_reducible assumption
    | with_reducible exact fun _ => rfl
    | with_reducible exact fun _ _ => rfl
    | with_reducible exact fun _ => ⟨id, id⟩
    | (rename_i hq; have hq2 := congrArg Prod.snd hq; with_reducible dsimp only at hq2; subst hq2)
    | simp only [↓keeps_mk_iff]
    | with_reducible refine keeps_ite ?_ ?_
    | with_reducible refine outKeeps_ite ?_ ?_
    | with_reducible refine outKeeps_next.2 ?_
    | with_reducible refine keeps_ite2 ?_ ?_
    | with_reducible refine keeps_foldl ?_ (fun _ _ _ => ?_)
    | split
    | dsimp only

theorem debugRegWrite_keeps {t₀ : State} (idx sub v : Nat) (s : State) (h₀ : Keeps t₀ s) :
    Keeps t₀ (debugRegWrite idx sub v s).2 := by
  unfold debugRegWrite
  repeat' first
    | with_reducible assumption
    | with_reducible exact fun _ => rfl
    | with_reducible exact fun _ _ => rfl
    | with_reducible exact fun _ => ⟨id, id⟩
    | (rename_i hq; have hq2 := congrArg Prod.snd hq; with_reducible dsimp only at hq2; subst hq2)
    | simp only [↓keeps_mk_iff]
    | with_reducible refine keeps_ite ?_ ?_
    | with_reducible refine outKeeps_ite ?_ ?_
    | with_reducible refine outKeeps_next.2 ?_
    | with_reducible refine keeps_ite2 ?_ ?_
    | with_reducible refine keeps_foldl ?_ (fun _ _ _ => ?_)
    | with_reducible apply accepted_keeps | with_reducible apply onTarget_keeps
    | split
    | dsimp only

theorem debugWrite_keeps {t₀ : State} (idx sub : Nat) (d : List Byte) (s : State) (h₀ : Keeps t₀ s) :
    Keeps t₀ (debugWrite idx sub d s).2 := by
  unfold debugWrite
  repeat' first
    | with_reducible assumption
    | with_reducible exact fun _ => rfl
    | with_reducible exact fun _ _ => rfl
    | with_reducible exact fun _ => ⟨id, id⟩
    | (rename_i hq; have hq2 := congrArg Prod.snd hq; with_reducible dsimp only at hq2; subst hq2)
    | simp only [↓keeps_mk_iff]
    | with_reducible refine keeps_ite ?_ ?_
    | with_reducible refine outKeeps_ite ?_ ?_
    | with_reducible refine outKeeps_next.2 ?_
    | with_reducible refine keeps_ite2 ?_ ?_
    | with_reducible refine keeps_foldl ?_ (fun _ _ _ => ?_)
    | with_reducible apply accepted_keeps | with_reducible apply setKiln_keeps | with_reducible apply wrote_keeps | with_reducible apply debugCommand_keeps | with_reducible apply debugRegWrite_keeps | with_reducible apply debugMemWrite_keeps
    | split
    | dsimp only

theorem gatewayWrite_keeps {t₀ : State} (b : Session) (sub : Nat) (d : List Byte) (s : State) (h₀ : Keeps t₀ s) :
    Keeps t₀ (gatewayWrite b sub d s).2 := by
  unfold gatewayWrite
  repeat' first
    | with_reducible assumption
    | with_reducible exact fun _ => rfl
    | with_reducible exact fun _ _ => rfl
    | with_reducible exact fun _ => ⟨id, id⟩
    | (rename_i hq; have hq2 := congrArg Prod.snd hq; with_reducible dsimp only at hq2; subst hq2)
    | simp only [↓keeps_mk_iff]
    | with_reducible refine keeps_ite ?_ ?_
    | with_reducible refine outKeeps_ite ?_ ?_
    | with_reducible refine outKeeps_next.2 ?_
    | with_reducible refine keeps_ite2 ?_ ?_
    | with_reducible refine keeps_foldl ?_ (fun _ _ _ => ?_)
    | with_reducible apply accepted_keeps | with_reducible apply setKiln_keeps | with_reducible apply gatewayStart_keeps
    | split
    | dsimp only

theorem recordRange_keeps {t₀ : State} (b : Session) (sub v : Nat) (s : State) (h₀ : Keeps t₀ s) :
    Keeps t₀ (recordRange b sub v s) := by
  unfold recordRange
  repeat' first
    | with_reducible assumption
    | with_reducible exact fun _ => rfl
    | with_reducible exact fun _ _ => rfl
    | with_reducible exact fun _ => ⟨id, id⟩
    | (rename_i hq; have hq2 := congrArg Prod.snd hq; with_reducible dsimp only at hq2; subst hq2)
    | simp only [↓keeps_mk_iff]
    | with_reducible refine keeps_ite ?_ ?_
    | with_reducible refine outKeeps_ite ?_ ?_
    | with_reducible refine outKeeps_next.2 ?_
    | with_reducible refine keeps_ite2 ?_ ?_
    | with_reducible refine keeps_foldl ?_ (fun _ _ _ => ?_)
    | with_reducible apply setSess_keeps
    | split
    | dsimp only

theorem keyWrite_keeps {t₀ : State} (b : Session) (d : List Byte) (s : State) (h₀ : Keeps t₀ s) :
    Keeps t₀ (keyWrite b d s) := by
  unfold keyWrite
  repeat' first
    | with_reducible assumption
    | with_reducible exact fun _ => rfl
    | with_reducible exact fun _ _ => rfl
    | with_reducible exact fun _ => ⟨id, id⟩
    | (rename_i hq; have hq2 := congrArg Prod.snd hq; with_reducible dsimp only at hq2; subst hq2)
    | simp only [↓keeps_mk_iff]
    | with_reducible refine keeps_ite ?_ ?_
    | with_reducible refine outKeeps_ite ?_ ?_
    | with_reducible refine outKeeps_next.2 ?_
    | with_reducible refine keeps_ite2 ?_ ?_
    | with_reducible refine keeps_foldl ?_ (fun _ _ _ => ?_)
    | with_reducible apply record_keeps | with_reducible apply setKiln_keeps
    | split
    | dsimp only

theorem wideWrite_keeps {t₀ : State} (b : Session) (v : Nat) (s : State) (h₀ : Keeps t₀ s) :
    Keeps t₀ (wideWrite b v s).2 := by
  unfold wideWrite
  repeat' first
    | with_reducible assumption
    | with_reducible exact fun _ => rfl
    | with_reducible exact fun _ _ => rfl
    | with_reducible exact fun _ => ⟨id, id⟩
    | (rename_i hq; have hq2 := congrArg Prod.snd hq; with_reducible dsimp only at hq2; subst hq2)
    | simp only [↓keeps_mk_iff]
    | with_reducible refine keeps_ite ?_ ?_
    | with_reducible refine outKeeps_ite ?_ ?_
    | with_reducible refine outKeeps_next.2 ?_
    | with_reducible refine keeps_ite2 ?_ ?_
    | with_reducible refine keeps_foldl ?_ (fun _ _ _ => ?_)
    | with_reducible apply accepted_keeps | with_reducible apply paramWrite_keeps
    | split
    | dsimp only

theorem imageCommand_keeps {t₀ : State} (v peer : Nat) (s : State) (h₀ : Keeps t₀ s) :
    Keeps t₀ (imageCommand v peer s).2 := by
  unfold imageCommand
  repeat' first
    | with_reducible assumption
    | with_reducible exact fun _ => rfl
    | with_reducible exact fun _ _ => rfl
    | with_reducible exact fun _ => ⟨id, id⟩
    | (rename_i hq; have hq2 := congrArg Prod.snd hq; with_reducible dsimp only at hq2; subst hq2)
    | simp only [↓keeps_mk_iff]
    | with_reducible refine keeps_ite ?_ ?_
    | with_reducible refine outKeeps_ite ?_ ?_
    | with_reducible refine outKeeps_next.2 ?_
    | with_reducible refine keeps_ite2 ?_ ?_
    | with_reducible refine keeps_foldl ?_ (fun _ _ _ => ?_)
    | with_reducible apply wrote_keeps | with_reducible apply imageStage_keeps | with_reducible apply imageDiscard_keeps | with_reducible apply accepted_keeps
    | split
    | dsimp only

theorem dictWrite_keeps {t₀ : State} (b : Session) (idx sub : Nat) (d : List Byte) (s : State) (h₀ : Keeps t₀ s) :
    Keeps t₀ (dictWrite b idx sub d s).2 := by
  unfold dictWrite
  repeat' first
    | with_reducible assumption
    | with_reducible exact fun _ => rfl
    | with_reducible exact fun _ _ => rfl
    | with_reducible exact fun _ => ⟨id, id⟩
    | (rename_i hq; have hq2 := congrArg Prod.snd hq; with_reducible dsimp only at hq2; subst hq2)
    | simp only [↓keeps_mk_iff]
    | with_reducible refine keeps_ite ?_ ?_
    | with_reducible refine outKeeps_ite ?_ ?_
    | with_reducible refine outKeeps_next.2 ?_
    | with_reducible refine keeps_ite2 ?_ ?_
    | with_reducible refine keeps_foldl ?_ (fun _ _ _ => ?_)
    | with_reducible apply safetyWrite_keeps | with_reducible apply wrote_keeps | with_reducible apply stateCmd_keeps | with_reducible apply keyResponse_keeps | with_reducible apply accepted_keeps | with_reducible apply keyWrite_keeps | with_reducible apply debugWrite_keeps | with_reducible apply wideWrite_keeps | with_reducible apply selectLane_keeps | with_reducible apply gatewayWrite_keeps | with_reducible apply recordRange_keeps | with_reducible apply fwCommand_keeps | with_reducible apply powerCmd_keeps | with_reducible apply imageCommand_keeps | with_reducible apply paramWrite_keeps
    | split
    | dsimp only

theorem gatewayBlock_keeps {t₀ : State} (b : Session) (k : BlockIn) (s : State) (h₀ : Keeps t₀ s) :
    Keeps t₀ (gatewayBlock b k s).2 := by
  unfold gatewayBlock
  repeat' first
    | with_reducible assumption
    | with_reducible exact fun _ => rfl
    | with_reducible exact fun _ _ => rfl
    | with_reducible exact fun _ => ⟨id, id⟩
    | (rename_i hq; have hq2 := congrArg Prod.snd hq; with_reducible dsimp only at hq2; subst hq2)
    | simp only [↓keeps_mk_iff]
    | with_reducible refine keeps_ite ?_ ?_
    | with_reducible refine outKeeps_ite ?_ ?_
    | with_reducible refine outKeeps_next.2 ?_
    | with_reducible refine keeps_ite2 ?_ ?_
    | with_reducible refine keeps_foldl ?_ (fun _ _ _ => ?_)
    | with_reducible apply accepted_keeps | with_reducible apply gatewayStart_keeps | with_reducible apply setKiln_keeps
    | split
    | dsimp only

theorem blockWrite_keeps {t₀ : State} (b : Session) (idx sub : Nat) (k : BlockIn) (s : State) (h₀ : Keeps t₀ s) :
    Keeps t₀ (blockWrite b idx sub k s).2 := by
  unfold blockWrite
  repeat' first
    | with_reducible assumption
    | with_reducible exact fun _ => rfl
    | with_reducible exact fun _ _ => rfl
    | with_reducible exact fun _ => ⟨id, id⟩
    | (rename_i hq; have hq2 := congrArg Prod.snd hq; with_reducible dsimp only at hq2; subst hq2)
    | simp only [↓keeps_mk_iff]
    | with_reducible refine keeps_ite ?_ ?_
    | with_reducible refine outKeeps_ite ?_ ?_
    | with_reducible refine outKeeps_next.2 ?_
    | with_reducible refine keeps_ite2 ?_ ?_
    | with_reducible refine keeps_foldl ?_ (fun _ _ _ => ?_)
    | with_reducible apply fwBlock_keeps | with_reducible apply appBlock_keeps | with_reducible apply schedBlock_keeps | with_reducible apply gatewayBlock_keeps
    | split
    | dsimp only

theorem gdpWrite_keeps {t₀ : State} (b : Session) (idx sub : Nat) (k : BlockIn) (s : State) (h₀ : Keeps t₀ s) :
    Keeps t₀ (gdpWrite b idx sub k s).2 := by
  unfold gdpWrite
  repeat' first
    | with_reducible assumption
    | with_reducible exact fun _ => rfl
    | with_reducible exact fun _ _ => rfl
    | with_reducible exact fun _ => ⟨id, id⟩
    | (rename_i hq; have hq2 := congrArg Prod.snd hq; with_reducible dsimp only at hq2; subst hq2)
    | simp only [↓keeps_mk_iff]
    | with_reducible refine keeps_ite ?_ ?_
    | with_reducible refine outKeeps_ite ?_ ?_
    | with_reducible refine outKeeps_next.2 ?_
    | with_reducible refine keeps_ite2 ?_ ?_
    | with_reducible refine keeps_foldl ?_ (fun _ _ _ => ?_)
    | with_reducible apply blockWrite_keeps | with_reducible apply dictWrite_keeps
    | split
    | dsimp only

theorem usdoWrite_keeps {t₀ : State} (b : Session) (idx sub : Nat) (d : List Byte) (s : State) (h₀ : Keeps t₀ s) :
    Keeps t₀ (usdoWrite b idx sub d s).2 := by
  unfold usdoWrite
  repeat' first
    | with_reducible assumption
    | with_reducible exact fun _ => rfl
    | with_reducible exact fun _ _ => rfl
    | with_reducible exact fun _ => ⟨id, id⟩
    | (rename_i hq; have hq2 := congrArg Prod.snd hq; with_reducible dsimp only at hq2; subst hq2)
    | simp only [↓keeps_mk_iff]
    | with_reducible refine keeps_ite ?_ ?_
    | with_reducible refine outKeeps_ite ?_ ?_
    | with_reducible refine outKeeps_next.2 ?_
    | with_reducible refine keeps_ite2 ?_ ?_
    | with_reducible refine keeps_foldl ?_ (fun _ _ _ => ?_)
    | with_reducible apply blockWrite_keeps | with_reducible apply dictWrite_keeps
    | split
    | dsimp only

theorem answerTo_keeps {t₀ : State} (b : Session) (f : State → Option Answer × State) (s : State)
    (hf : ∀ u, Keeps t₀ u → Keeps t₀ (f u).2) (h₀ : Keeps t₀ s) : Keeps t₀ (answerTo b f s) := by
  unfold answerTo
  dsimp only
  split
  · exact reply_keeps _ _ _ (hf s h₀)
  · exact hf s h₀

theorem nextRequest_keeps {t₀ : State} (b : Session) (s : State) (h₀ : Keeps t₀ s) :
    Keeps t₀ (nextRequest b s) := by
  unfold nextRequest
  repeat' first
    | with_reducible assumption
    | with_reducible exact fun _ => rfl
    | with_reducible exact fun _ _ => rfl
    | with_reducible exact fun _ => ⟨id, id⟩
    | (rename_i hq; have hq2 := congrArg Prod.snd hq; with_reducible dsimp only at hq2; subst hq2)
    | simp only [↓keeps_mk_iff]
    | with_reducible refine keeps_ite ?_ ?_
    | with_reducible refine outKeeps_ite ?_ ?_
    | with_reducible refine outKeeps_next.2 ?_
    | with_reducible refine keeps_ite2 ?_ ?_
    | with_reducible refine keeps_foldl ?_ (fun _ _ _ => ?_)
    | with_reducible apply setSess_keeps | with_reducible apply openCan_keeps
    | split
    | dsimp only

theorem serve_keeps {t₀ : State} (b : Session) (f : State → Option Answer × State) (s : State)
    (hf : ∀ u, Keeps t₀ u → Keeps t₀ (f u).2) (h₀ : Keeps t₀ s) : Keeps t₀ (serve b f s) := by
  unfold serve
  have h1 := fwErased_keeps s h₀
  exact keeps_ite h1 (keeps_ite (replyOnly_keeps _ _ _ h1) (answerTo_keeps _ _ _ hf (nextRequest_keeps _ _ h1)))

theorem gdpServe_keeps {t₀ : State} (h : GdpHead) (f : Session → State → Option Answer × State) (s : State)
    (hf : ∀ b u, Keeps t₀ u → Keeps t₀ (f b u).2) (h₀ : Keeps t₀ s) : Keeps t₀ (gdpServe h f s) := by
  unfold gdpServe
  have h1 := fwErased_keeps s h₀
  refine keeps_ite h₀ ?_
  dsimp only
  split
  · exact h1
  · refine keeps_ite ?_ (keeps_ite (replyOnly_keeps _ _ _ h1) (answerTo_keeps _ _ _ (hf _) (nextRequest_keeps _ _ h1)))
    split
    · exact replyOnly_keeps _ _ _ h1
    · exact h1

theorem gdpSlice_keeps {t₀ : State} (idx sub off : Nat) (r : Option Answer × State) (h₀ : Keeps t₀ r.2) :
    Keeps t₀ (gdpSlice idx sub off r).2 := by
  unfold gdpSlice
  split <;> exact h₀

theorem execGdpRead_keeps {t₀ : State} (head : GdpHead) (index : BitVec 16) (sub : BitVec 8) (offset : BitVec 32) (s : State) (h₀ : Keeps t₀ s) :
    OutKeeps t₀ (execGdpRead head index sub offset s) := by
  unfold execGdpRead
  repeat' first
    | with_reducible assumption
    | with_reducible exact fun _ => rfl
    | with_reducible exact fun _ _ => rfl
    | with_reducible exact fun _ => ⟨id, id⟩
    | (rename_i hq; have hq2 := congrArg Prod.snd hq; with_reducible dsimp only at hq2; subst hq2)
    | simp only [↓keeps_mk_iff]
    | with_reducible refine keeps_ite ?_ ?_
    | with_reducible refine outKeeps_ite ?_ ?_
    | with_reducible refine outKeeps_next.2 ?_
    | with_reducible refine keeps_ite2 ?_ ?_
    | with_reducible refine keeps_foldl ?_ (fun _ _ _ => ?_)
    | (intro b u hu; dsimp only)
    | intro b u hu
    | (intro u hu; dsimp only)
    | intro u hu
    | with_reducible apply gdpServe_keeps | with_reducible apply gdpSlice_keeps | with_reducible apply dictRead_keeps
    | split
    | dsimp only

theorem execGdpWrite_keeps {t₀ : State} (head : GdpHead) (index : BitVec 16) (sub : BitVec 8) (block : BlockIn) (s : State) (h₀ : Keeps t₀ s) :
    OutKeeps t₀ (execGdpWrite head index sub block s) := by
  unfold execGdpWrite
  repeat' first
    | with_reducible assumption
    | with_reducible exact fun _ => rfl
    | with_reducible exact fun _ _ => rfl
    | with_reducible exact fun _ => ⟨id, id⟩
    | (rename_i hq; have hq2 := congrArg Prod.snd hq; with_reducible dsimp only at hq2; subst hq2)
    | simp only [↓keeps_mk_iff]
    | with_reducible refine keeps_ite ?_ ?_
    | with_reducible refine outKeeps_ite ?_ ?_
    | with_reducible refine outKeeps_next.2 ?_
    | with_reducible refine keeps_ite2 ?_ ?_
    | with_reducible refine keeps_foldl ?_ (fun _ _ _ => ?_)
    | (intro b u hu; dsimp only)
    | intro b u hu
    | (intro u hu; dsimp only)
    | intro u hu
    | with_reducible apply gdpServe_keeps | with_reducible apply gdpWrite_keeps
    | split
    | dsimp only

theorem openGdp_keeps {t₀ : State} (client : BitVec 32) (s : State) (h₀ : Keeps t₀ s) :
    Keeps t₀ (openGdp client s) := by
  unfold openGdp
  repeat' first
    | with_reducible assumption
    | with_reducible exact fun _ => rfl
    | with_reducible exact fun _ _ => rfl
    | with_reducible exact fun _ => ⟨id, id⟩
    | (rename_i hq; have hq2 := congrArg Prod.snd hq; with_reducible dsimp only at hq2; subst hq2)
    | simp only [↓keeps_mk_iff]
    | with_reducible refine keeps_ite ?_ ?_
    | with_reducible refine outKeeps_ite ?_ ?_
    | with_reducible refine outKeeps_next.2 ?_
    | with_reducible refine keeps_ite2 ?_ ?_
    | with_reducible refine keeps_foldl ?_ (fun _ _ _ => ?_)
    | with_reducible apply record_keeps | with_reducible apply setKiln_keeps | with_reducible apply setSess_keeps
    | split
    | dsimp only

theorem execGdpOpen_keeps {t₀ : State} (head : GdpHead) (client : BitVec 32) (s : State) (h₀ : Keeps t₀ s) :
    OutKeeps t₀ (execGdpOpen head client s) := by
  unfold execGdpOpen
  repeat' first
    | with_reducible assumption
    | with_reducible exact fun _ => rfl
    | with_reducible exact fun _ _ => rfl
    | with_reducible exact fun _ => ⟨id, id⟩
    | (rename_i hq; have hq2 := congrArg Prod.snd hq; with_reducible dsimp only at hq2; subst hq2)
    | simp only [↓keeps_mk_iff]
    | with_reducible refine keeps_ite ?_ ?_
    | with_reducible refine outKeeps_ite ?_ ?_
    | with_reducible refine outKeeps_next.2 ?_
    | with_reducible refine keeps_ite2 ?_ ?_
    | with_reducible refine keeps_foldl ?_ (fun _ _ _ => ?_)
    | with_reducible apply openGdp_keeps | with_reducible apply fwErased_keeps
    | split
    | dsimp only

theorem endGdp_keeps {t₀ : State} (n : Fin 4) (why : Nat) (s : State) (h₀ : Keeps t₀ s) :
    Keeps t₀ (endGdp n why s) := by
  unfold endGdp
  repeat' first
    | with_reducible assumption
    | with_reducible exact fun _ => rfl
    | with_reducible exact fun _ _ => rfl
    | with_reducible exact fun _ => ⟨id, id⟩
    | (rename_i hq; have hq2 := congrArg Prod.snd hq; with_reducible dsimp only at hq2; subst hq2)
    | simp only [↓keeps_mk_iff]
    | with_reducible refine keeps_ite ?_ ?_
    | with_reducible refine outKeeps_ite ?_ ?_
    | with_reducible refine outKeeps_next.2 ?_
    | with_reducible refine keeps_ite2 ?_ ?_
    | with_reducible refine keeps_foldl ?_ (fun _ _ _ => ?_)
    | with_reducible apply closeSession_keeps | with_reducible apply record_keeps
    | split
    | dsimp only

theorem execGdpClose_keeps {t₀ : State} (head : GdpHead) (s : State) (h₀ : Keeps t₀ s) :
    OutKeeps t₀ (execGdpClose head s) := by
  unfold execGdpClose
  repeat' first
    | with_reducible assumption
    | with_reducible exact fun _ => rfl
    | with_reducible exact fun _ _ => rfl
    | with_reducible exact fun _ => ⟨id, id⟩
    | (rename_i hq; have hq2 := congrArg Prod.snd hq; with_reducible dsimp only at hq2; subst hq2)
    | simp only [↓keeps_mk_iff]
    | with_reducible refine keeps_ite ?_ ?_
    | with_reducible refine outKeeps_ite ?_ ?_
    | with_reducible refine outKeeps_next.2 ?_
    | with_reducible refine keeps_ite2 ?_ ?_
    | with_reducible refine keeps_foldl ?_ (fun _ _ _ => ?_)
    | (intro b u hu; dsimp only)
    | intro b u hu
    | (intro u hu; dsimp only)
    | intro u hu
    | with_reducible apply gdpServe_keeps | with_reducible apply endGdp_keeps
    | split
    | dsimp only

theorem execGdpSessionIdleTimeout_keeps {t₀ : State} (dt : Nat) (session : Fin 6) (s : State) (h₀ : Keeps t₀ s) :
    OutKeeps t₀ (execGdpSessionIdleTimeout dt session s) := by
  unfold execGdpSessionIdleTimeout
  repeat' first
    | with_reducible assumption
    | with_reducible exact fun _ => rfl
    | with_reducible exact fun _ _ => rfl
    | with_reducible exact fun _ => ⟨id, id⟩
    | (rename_i hq; have hq2 := congrArg Prod.snd hq; with_reducible dsimp only at hq2; subst hq2)
    | simp only [↓keeps_mk_iff]
    | with_reducible refine keeps_ite ?_ ?_
    | with_reducible refine outKeeps_ite ?_ ?_
    | with_reducible refine outKeeps_next.2 ?_
    | with_reducible refine keeps_ite2 ?_ ?_
    | with_reducible refine keeps_foldl ?_ (fun _ _ _ => ?_)
    | with_reducible apply advance_keeps | with_reducible apply endGdp_keeps | with_reducible apply closeSession_keeps
    | split
    | dsimp only

theorem execKeyxChallenge_keeps {t₀ : State} (by_ : Session) (s : State) (h₀ : Keeps t₀ s) :
    OutKeeps t₀ (execKeyxChallenge by_ s) := by
  unfold execKeyxChallenge
  repeat' first
    | with_reducible assumption
    | with_reducible exact fun _ => rfl
    | with_reducible exact fun _ _ => rfl
    | with_reducible exact fun _ => ⟨id, id⟩
    | (rename_i hq; have hq2 := congrArg Prod.snd hq; with_reducible dsimp only at hq2; subst hq2)
    | simp only [↓keeps_mk_iff]
    | with_reducible refine keeps_ite ?_ ?_
    | with_reducible refine outKeeps_ite ?_ ?_
    | with_reducible refine outKeeps_next.2 ?_
    | with_reducible refine keeps_ite2 ?_ ?_
    | with_reducible refine keeps_foldl ?_ (fun _ _ _ => ?_)
    | (intro b u hu; dsimp only)
    | intro b u hu
    | (intro u hu; dsimp only)
    | intro u hu
    | with_reducible apply serve_keeps | with_reducible apply dictRead_keeps
    | split
    | dsimp only

theorem execKeyxResponse_keeps {t₀ : State} (by_ : Session) (response : List (BitVec 8)) (s : State) (h₀ : Keeps t₀ s) :
    OutKeeps t₀ (execKeyxResponse by_ response s) := by
  unfold execKeyxResponse
  repeat' first
    | with_reducible assumption
    | with_reducible exact fun _ => rfl
    | with_reducible exact fun _ _ => rfl
    | with_reducible exact fun _ => ⟨id, id⟩
    | (rename_i hq; have hq2 := congrArg Prod.snd hq; with_reducible dsimp only at hq2; subst hq2)
    | simp only [↓keeps_mk_iff]
    | with_reducible refine keeps_ite ?_ ?_
    | with_reducible refine outKeeps_ite ?_ ?_
    | with_reducible refine outKeeps_next.2 ?_
    | with_reducible refine keeps_ite2 ?_ ?_
    | with_reducible refine keeps_foldl ?_ (fun _ _ _ => ?_)
    | (intro b u hu; dsimp only)
    | intro b u hu
    | (intro u hu; dsimp only)
    | intro u hu
    | with_reducible apply serve_keeps | with_reducible apply dictWrite_keeps
    | split
    | dsimp only

theorem execKeyxLockoutEnd_keeps {t₀ : State} (dt : Nat) (s : State) (h₀ : Keeps t₀ s) :
    OutKeeps t₀ (execKeyxLockoutEnd dt s) := by
  unfold execKeyxLockoutEnd
  repeat' first
    | with_reducible assumption
    | with_reducible exact fun _ => rfl
    | with_reducible exact fun _ _ => rfl
    | with_reducible exact fun _ => ⟨id, id⟩
    | (rename_i hq; have hq2 := congrArg Prod.snd hq; with_reducible dsimp only at hq2; subst hq2)
    | simp only [↓keeps_mk_iff]
    | with_reducible refine keeps_ite ?_ ?_
    | with_reducible refine outKeeps_ite ?_ ?_
    | with_reducible refine outKeeps_next.2 ?_
    | with_reducible refine keeps_ite2 ?_ ?_
    | with_reducible refine keeps_foldl ?_ (fun _ _ _ => ?_)
    | with_reducible apply advance_keeps | with_reducible apply setKiln_keeps
    | split
    | dsimp only

theorem execMaintenanceKeyWrite_keeps {t₀ : State} (by_ : Session) (key : List (BitVec 8)) (s : State) (h₀ : Keeps t₀ s) :
    OutKeeps t₀ (execMaintenanceKeyWrite by_ key s) := by
  unfold execMaintenanceKeyWrite
  repeat' first
    | with_reducible assumption
    | with_reducible exact fun _ => rfl
    | with_reducible exact fun _ _ => rfl
    | with_reducible exact fun _ => ⟨id, id⟩
    | (rename_i hq; have hq2 := congrArg Prod.snd hq; with_reducible dsimp only at hq2; subst hq2)
    | simp only [↓keeps_mk_iff]
    | with_reducible refine keeps_ite ?_ ?_
    | with_reducible refine outKeeps_ite ?_ ?_
    | with_reducible refine outKeeps_next.2 ?_
    | with_reducible refine keeps_ite2 ?_ ?_
    | with_reducible refine keeps_foldl ?_ (fun _ _ _ => ?_)
    | (intro b u hu; dsimp only)
    | intro b u hu
    | (intro u hu; dsimp only)
    | intro u hu
    | with_reducible apply serve_keeps | with_reducible apply dictWrite_keeps
    | split
    | dsimp only

theorem execUsdoTransfer_keeps {t₀ : State} (channel : Fin 2) (op : DictOp) (s : State) (h₀ : Keeps t₀ s) :
    OutKeeps t₀ (execUsdoTransfer channel op s) := by
  unfold execUsdoTransfer
  repeat' first
    | with_reducible assumption
    | with_reducible exact fun _ => rfl
    | with_reducible exact fun _ _ => rfl
    | with_reducible exact fun _ => ⟨id, id⟩
    | (rename_i hq; have hq2 := congrArg Prod.snd hq; with_reducible dsimp only at hq2; subst hq2)
    | simp only [↓keeps_mk_iff]
    | with_reducible refine keeps_ite ?_ ?_
    | with_reducible refine outKeeps_ite ?_ ?_
    | with_reducible refine outKeeps_next.2 ?_
    | with_reducible refine keeps_ite2 ?_ ?_
    | with_reducible refine keeps_foldl ?_ (fun _ _ _ => ?_)
    | (intro b u hu; dsimp only)
    | intro b u hu
    | (intro u hu; dsimp only)
    | intro u hu
    | with_reducible apply serve_keeps | with_reducible apply dictRead_keeps | with_reducible apply usdoWrite_keeps
    | split
    | dsimp only

theorem execUsdoTimeout_keeps {t₀ : State} (dt : Nat) (channel : Fin 2) (s : State) (h₀ : Keeps t₀ s) :
    OutKeeps t₀ (execUsdoTimeout dt channel s) := by
  unfold execUsdoTimeout
  repeat' first
    | with_reducible assumption
    | with_reducible exact fun _ => rfl
    | with_reducible exact fun _ _ => rfl
    | with_reducible exact fun _ => ⟨id, id⟩
    | (rename_i hq; have hq2 := congrArg Prod.snd hq; with_reducible dsimp only at hq2; subst hq2)
    | simp only [↓keeps_mk_iff]
    | with_reducible refine keeps_ite ?_ ?_
    | with_reducible refine outKeeps_ite ?_ ?_
    | with_reducible refine outKeeps_next.2 ?_
    | with_reducible refine keeps_ite2 ?_ ?_
    | with_reducible refine keeps_foldl ?_ (fun _ _ _ => ?_)
    | with_reducible apply advance_keeps | with_reducible apply reply_keeps
    | split
    | dsimp only

theorem execStateCmdEnterMaintenance_keeps {t₀ : State} (by_ : Session) (s : State) (h₀ : Keeps t₀ s) :
    OutKeeps t₀ (execStateCmdEnterMaintenance by_ s) := by
  unfold execStateCmdEnterMaintenance
  repeat' first
    | with_reducible assumption
    | with_reducible exact fun _ => rfl
    | with_reducible exact fun _ _ => rfl
    | with_reducible exact fun _ => ⟨id, id⟩
    | (rename_i hq; have hq2 := congrArg Prod.snd hq; with_reducible dsimp only at hq2; subst hq2)
    | simp only [↓keeps_mk_iff]
    | with_reducible refine keeps_ite ?_ ?_
    | with_reducible refine outKeeps_ite ?_ ?_
    | with_reducible refine outKeeps_next.2 ?_
    | with_reducible refine keeps_ite2 ?_ ?_
    | with_reducible refine keeps_foldl ?_ (fun _ _ _ => ?_)
    | (intro b u hu; dsimp only)
    | intro b u hu
    | (intro u hu; dsimp only)
    | intro u hu
    | with_reducible apply serve_keeps | with_reducible apply dictWrite_keeps
    | split
    | dsimp only

theorem execStateCmdLeaveMaintenance_keeps {t₀ : State} (by_ : Session) (s : State) (h₀ : Keeps t₀ s) :
    OutKeeps t₀ (execStateCmdLeaveMaintenance by_ s) := by
  unfold execStateCmdLeaveMaintenance
  repeat' first
    | with_reducible assumption
    | with_reducible exact fun _ => rfl
    | with_reducible exact fun _ _ => rfl
    | with_reducible exact fun _ => ⟨id, id⟩
    | (rename_i hq; have hq2 := congrArg Prod.snd hq; with_reducible dsimp only at hq2; subst hq2)
    | simp only [↓keeps_mk_iff]
    | with_reducible refine keeps_ite ?_ ?_
    | with_reducible refine outKeeps_ite ?_ ?_
    | with_reducible refine outKeeps_next.2 ?_
    | with_reducible refine keeps_ite2 ?_ ?_
    | with_reducible refine keeps_foldl ?_ (fun _ _ _ => ?_)
    | (intro b u hu; dsimp only)
    | intro b u hu
    | (intro u hu; dsimp only)
    | intro u hu
    | with_reducible apply serve_keeps | with_reducible apply dictWrite_keeps
    | split
    | dsimp only

theorem execStateCmdEnterBanked_keeps {t₀ : State} (by_ : Session) (s : State) (h₀ : Keeps t₀ s) :
    OutKeeps t₀ (execStateCmdEnterBanked by_ s) := by
  unfold execStateCmdEnterBanked
  repeat' first
    | with_reducible assumption
    | with_reducible exact fun _ => rfl
    | with_reducible exact fun _ _ => rfl
    | with_reducible exact fun _ => ⟨id, id⟩
    | (rename_i hq; have hq2 := congrArg Prod.snd hq; with_reducible dsimp only at hq2; subst hq2)
    | simp only [↓keeps_mk_iff]
    | with_reducible refine keeps_ite ?_ ?_
    | with_reducible refine outKeeps_ite ?_ ?_
    | with_reducible refine outKeeps_next.2 ?_
    | with_reducible refine keeps_ite2 ?_ ?_
    | with_reducible refine keeps_foldl ?_ (fun _ _ _ => ?_)
    | (intro b u hu; dsimp only)
    | intro b u hu
    | (intro u hu; dsimp only)
    | intro u hu
    | with_reducible apply serve_keeps | with_reducible apply dictWrite_keeps
    | split
    | dsimp only

theorem execStateCmdModuleReset_keeps {t₀ : State} (by_ : Session) (s : State) (h₀ : Keeps t₀ s) :
    OutKeeps t₀ (execStateCmdModuleReset by_ s) := by
  unfold execStateCmdModuleReset
  repeat' first
    | with_reducible assumption
    | with_reducible exact fun _ => rfl
    | with_reducible exact fun _ _ => rfl
    | with_reducible exact fun _ => ⟨id, id⟩
    | (rename_i hq; have hq2 := congrArg Prod.snd hq; with_reducible dsimp only at hq2; subst hq2)
    | simp only [↓keeps_mk_iff]
    | with_reducible refine keeps_ite ?_ ?_
    | with_reducible refine outKeeps_ite ?_ ?_
    | with_reducible refine outKeeps_next.2 ?_
    | with_reducible refine keeps_ite2 ?_ ?_
    | with_reducible refine keeps_foldl ?_ (fun _ _ _ => ?_)
    | (intro b u hu; dsimp only)
    | intro b u hu
    | (intro u hu; dsimp only)
    | intro u hu
    | with_reducible apply serve_keeps | with_reducible apply dictWrite_keeps
    | split
    | dsimp only

theorem execWarmRestart_keeps {t₀ : State} (by_ : Session) (s : State) (h₀ : Keeps t₀ s) :
    OutKeeps t₀ (execWarmRestart by_ s) := by
  unfold execWarmRestart
  repeat' first
    | with_reducible assumption
    | with_reducible exact fun _ => rfl
    | with_reducible exact fun _ _ => rfl
    | with_reducible exact fun _ => ⟨id, id⟩
    | (rename_i hq; have hq2 := congrArg Prod.snd hq; with_reducible dsimp only at hq2; subst hq2)
    | simp only [↓keeps_mk_iff]
    | with_reducible refine keeps_ite ?_ ?_
    | with_reducible refine outKeeps_ite ?_ ?_
    | with_reducible refine outKeeps_next.2 ?_
    | with_reducible refine keeps_ite2 ?_ ?_
    | with_reducible refine keeps_foldl ?_ (fun _ _ _ => ?_)
    | (intro b u hu; dsimp only)
    | intro b u hu
    | (intro u hu; dsimp only)
    | intro u hu
    | with_reducible apply serve_keeps | with_reducible apply dictWrite_keeps
    | split
    | dsimp only

theorem execLane1oo1Select_keeps {t₀ : State} (by_ : Session) (lane : Fin 4) (s : State) (h₀ : Keeps t₀ s) :
    OutKeeps t₀ (execLane1oo1Select by_ lane s) := by
  unfold execLane1oo1Select
  repeat' first
    | with_reducible assumption
    | with_reducible exact fun _ => rfl
    | with_reducible exact fun _ _ => rfl
    | with_reducible exact fun _ => ⟨id, id⟩
    | (rename_i hq; have hq2 := congrArg Prod.snd hq; with_reducible dsimp only at hq2; subst hq2)
    | simp only [↓keeps_mk_iff]
    | with_reducible refine keeps_ite ?_ ?_
    | with_reducible refine outKeeps_ite ?_ ?_
    | with_reducible refine outKeeps_next.2 ?_
    | with_reducible refine keeps_ite2 ?_ ?_
    | with_reducible refine keeps_foldl ?_ (fun _ _ _ => ?_)
    | (intro b u hu; dsimp only)
    | intro b u hu
    | (intro u hu; dsimp only)
    | intro u hu
    | with_reducible apply serve_keeps | with_reducible apply dictWrite_keeps
    | split
    | dsimp only

theorem execLane1oo1Release_keeps {t₀ : State} (by_ : Session) (s : State) (h₀ : Keeps t₀ s) :
    OutKeeps t₀ (execLane1oo1Release by_ s) := by
  unfold execLane1oo1Release
  repeat' first
    | with_reducible assumption
    | with_reducible exact fun _ => rfl
    | with_reducible exact fun _ _ => rfl
    | with_reducible exact fun _ => ⟨id, id⟩
    | (rename_i hq; have hq2 := congrArg Prod.snd hq; with_reducible dsimp only at hq2; subst hq2)
    | simp only [↓keeps_mk_iff]
    | with_reducible refine keeps_ite ?_ ?_
    | with_reducible refine outKeeps_ite ?_ ?_
    | with_reducible refine outKeeps_next.2 ?_
    | with_reducible refine keeps_ite2 ?_ ?_
    | with_reducible refine keeps_foldl ?_ (fun _ _ _ => ?_)
    | (intro b u hu; dsimp only)
    | intro b u hu
    | (intro u hu; dsimp only)
    | intro u hu
    | with_reducible apply serve_keeps | with_reducible apply dictWrite_keeps
    | split
    | dsimp only

theorem execWideModeWrite_keeps {t₀ : State} (by_ : Session) (on : Bool) (s : State) (h₀ : Keeps t₀ s) :
    OutKeeps t₀ (execWideModeWrite by_ on s) := by
  unfold execWideModeWrite
  repeat' first
    | with_reducible assumption
    | with_reducible exact fun _ => rfl
    | with_reducible exact fun _ _ => rfl
    | with_reducible exact fun _ => ⟨id, id⟩
    | (rename_i hq; have hq2 := congrArg Prod.snd hq; with_reducible dsimp only at hq2; subst hq2)
    | simp only [↓keeps_mk_iff]
    | with_reducible refine keeps_ite ?_ ?_
    | with_reducible refine outKeeps_ite ?_ ?_
    | with_reducible refine outKeeps_next.2 ?_
    | with_reducible refine keeps_ite2 ?_ ?_
    | with_reducible refine keeps_foldl ?_ (fun _ _ _ => ?_)
    | (intro b u hu; dsimp only)
    | intro b u hu
    | (intro u hu; dsimp only)
    | intro u hu
    | with_reducible apply serve_keeps | with_reducible apply dictWrite_keeps
    | split
    | dsimp only

theorem imageRequest_keeps {t₀ : State} (b : Session) (v peer : Nat) (s : State) (h₀ : Keeps t₀ s) :
    Keeps t₀ (imageRequest b v peer s).2 := by
  unfold imageRequest
  repeat' first
    | with_reducible assumption
    | with_reducible exact fun _ => rfl
    | with_reducible exact fun _ _ => rfl
    | with_reducible exact fun _ => ⟨id, id⟩
    | (rename_i hq; have hq2 := congrArg Prod.snd hq; with_reducible dsimp only at hq2; subst hq2)
    | simp only [↓keeps_mk_iff]
    | with_reducible refine keeps_ite ?_ ?_
    | with_reducible refine outKeeps_ite ?_ ?_
    | with_reducible refine outKeeps_next.2 ?_
    | with_reducible refine keeps_ite2 ?_ ?_
    | with_reducible refine keeps_foldl ?_ (fun _ _ _ => ?_)
    | with_reducible apply imageCommand_keeps
    | split
    | dsimp only

theorem execImageStage_keeps {t₀ : State} (by_ : Session) (peer : BitVec 8) (s : State) (h₀ : Keeps t₀ s) :
    OutKeeps t₀ (execImageStage by_ peer s) := by
  unfold execImageStage
  repeat' first
    | with_reducible assumption
    | with_reducible exact fun _ => rfl
    | with_reducible exact fun _ _ => rfl
    | with_reducible exact fun _ => ⟨id, id⟩
    | (rename_i hq; have hq2 := congrArg Prod.snd hq; with_reducible dsimp only at hq2; subst hq2)
    | simp only [↓keeps_mk_iff]
    | with_reducible refine keeps_ite ?_ ?_
    | with_reducible refine outKeeps_ite ?_ ?_
    | with_reducible refine outKeeps_next.2 ?_
    | with_reducible refine keeps_ite2 ?_ ?_
    | with_reducible refine keeps_foldl ?_ (fun _ _ _ => ?_)
    | (intro b u hu; dsimp only)
    | intro b u hu
    | (intro u hu; dsimp only)
    | intro u hu
    | with_reducible apply serve_keeps | with_reducible apply imageRequest_keeps
    | split
    | dsimp only

theorem execImageDiscard_keeps {t₀ : State} (by_ : Session) (s : State) (h₀ : Keeps t₀ s) :
    OutKeeps t₀ (execImageDiscard by_ s) := by
  unfold execImageDiscard
  repeat' first
    | with_reducible assumption
    | with_reducible exact fun _ => rfl
    | with_reducible exact fun _ _ => rfl
    | with_reducible exact fun _ => ⟨id, id⟩
    | (rename_i hq; have hq2 := congrArg Prod.snd hq; with_reducible dsimp only at hq2; subst hq2)
    | simp only [↓keeps_mk_iff]
    | with_reducible refine keeps_ite ?_ ?_
    | with_reducible refine outKeeps_ite ?_ ?_
    | with_reducible refine outKeeps_next.2 ?_
    | with_reducible refine keeps_ite2 ?_ ?_
    | with_reducible refine keeps_foldl ?_ (fun _ _ _ => ?_)
    | (intro b u hu; dsimp only)
    | intro b u hu
    | (intro u hu; dsimp only)
    | intro u hu
    | with_reducible apply serve_keeps | with_reducible apply imageRequest_keeps
    | split
    | dsimp only

theorem execOlcSwitchRequest_keeps {t₀ : State} (by_ : Session) (s : State) (h₀ : Keeps t₀ s) :
    OutKeeps t₀ (execOlcSwitchRequest by_ s) := by
  unfold execOlcSwitchRequest
  repeat' first
    | with_reducible assumption
    | with_reducible exact fun _ => rfl
    | with_reducible exact fun _ _ => rfl
    | with_reducible exact fun _ => ⟨id, id⟩
    | (rename_i hq; have hq2 := congrArg Prod.snd hq; with_reducible dsimp only at hq2; subst hq2)
    | simp only [↓keeps_mk_iff]
    | with_reducible refine keeps_ite ?_ ?_
    | with_reducible refine outKeeps_ite ?_ ?_
    | with_reducible refine outKeeps_next.2 ?_
    | with_reducible refine keeps_ite2 ?_ ?_
    | with_reducible refine keeps_foldl ?_ (fun _ _ _ => ?_)
    | (intro b u hu; dsimp only)
    | intro b u hu
    | (intro u hu; dsimp only)
    | intro u hu
    | with_reducible apply serve_keeps | with_reducible apply dictWrite_keeps
    | split
    | dsimp only

theorem execGatewayRead_keeps {t₀ : State} (by_ : Session) (s : State) (h₀ : Keeps t₀ s) :
    OutKeeps t₀ (execGatewayRead by_ s) := by
  unfold execGatewayRead
  repeat' first
    | with_reducible assumption
    | with_reducible exact fun _ => rfl
    | with_reducible exact fun _ _ => rfl
    | with_reducible exact fun _ => ⟨id, id⟩
    | (rename_i hq; have hq2 := congrArg Prod.snd hq; with_reducible dsimp only at hq2; subst hq2)
    | simp only [↓keeps_mk_iff]
    | with_reducible refine keeps_ite ?_ ?_
    | with_reducible refine outKeeps_ite ?_ ?_
    | with_reducible refine outKeeps_next.2 ?_
    | with_reducible refine keeps_ite2 ?_ ?_
    | with_reducible refine keeps_foldl ?_ (fun _ _ _ => ?_)
    | (intro b u hu; dsimp only)
    | intro b u hu
    | (intro u hu; dsimp only)
    | intro u hu
    | with_reducible apply serve_keeps | with_reducible apply dictRead_keeps
    | split
    | dsimp only

theorem execGatewayWrite_keeps {t₀ : State} (by_ : Session) (data : List (BitVec 8)) (s : State) (h₀ : Keeps t₀ s) :
    OutKeeps t₀ (execGatewayWrite by_ data s) := by
  unfold execGatewayWrite
  repeat' first
    | with_reducible assumption
    | with_reducible exact fun _ => rfl
    | with_reducible exact fun _ _ => rfl
    | with_reducible exact fun _ => ⟨id, id⟩
    | (rename_i hq; have hq2 := congrArg Prod.snd hq; with_reducible dsimp only at hq2; subst hq2)
    | simp only [↓keeps_mk_iff]
    | with_reducible refine keeps_ite ?_ ?_
    | with_reducible refine outKeeps_ite ?_ ?_
    | with_reducible refine outKeeps_next.2 ?_
    | with_reducible refine keeps_ite2 ?_ ?_
    | with_reducible refine keeps_foldl ?_ (fun _ _ _ => ?_)
    | (intro b u hu; dsimp only)
    | intro b u hu
    | (intro u hu; dsimp only)
    | intro u hu
    | with_reducible apply serve_keeps | with_reducible apply dictWrite_keeps
    | split
    | dsimp only

theorem execSafetyWrite_keeps {t₀ : State} (by_ : Session) (index : BitVec 16) (sub : BitVec 8) (value : List (BitVec 8)) (s : State) (h₀ : Keeps t₀ s) :
    OutKeeps t₀ (execSafetyWrite by_ index sub value s) := by
  unfold execSafetyWrite
  repeat' first
    | with_reducible assumption
    | with_reducible exact fun _ => rfl
    | with_reducible exact fun _ _ => rfl
    | with_reducible exact fun _ => ⟨id, id⟩
    | (rename_i hq; have hq2 := congrArg Prod.snd hq; with_reducible dsimp only at hq2; subst hq2)
    | simp only [↓keeps_mk_iff]
    | with_reducible refine keeps_ite ?_ ?_
    | with_reducible refine outKeeps_ite ?_ ?_
    | with_reducible refine outKeeps_next.2 ?_
    | with_reducible refine keeps_ite2 ?_ ?_
    | with_reducible refine keeps_foldl ?_ (fun _ _ _ => ?_)
    | (intro b u hu; dsimp only)
    | intro b u hu
    | (intro u hu; dsimp only)
    | intro u hu
    | with_reducible apply serve_keeps | with_reducible apply dictWrite_keeps
    | split
    | dsimp only

theorem safetyRefuse_keeps {t₀ : State} (g : Staged) (code : Nat) (s : State) (h₀ : Keeps t₀ s) :
    Keeps t₀ (safetyRefuse g code s) := by
  unfold safetyRefuse
  repeat' first
    | with_reducible assumption
    | with_reducible exact fun _ => rfl
    | with_reducible exact fun _ _ => rfl
    | with_reducible exact fun _ => ⟨id, id⟩
    | (rename_i hq; have hq2 := congrArg Prod.snd hq; with_reducible dsimp only at hq2; subst hq2)
    | simp only [↓keeps_mk_iff]
    | with_reducible refine keeps_ite ?_ ?_
    | with_reducible refine outKeeps_ite ?_ ?_
    | with_reducible refine outKeeps_next.2 ?_
    | with_reducible refine keeps_ite2 ?_ ?_
    | with_reducible refine keeps_foldl ?_ (fun _ _ _ => ?_)
    | with_reducible apply klmRefuse_keeps | with_reducible apply standbyDrop_keeps
    | split
    | dsimp only

theorem execSafetyReserve_keeps {t₀ : State} (dt : Nat) (s : State) (h₀ : Keeps t₀ s) :
    OutKeeps t₀ (execSafetyReserve dt s) := by
  unfold execSafetyReserve
  repeat' first
    | with_reducible assumption
    | with_reducible exact fun _ => rfl
    | with_reducible exact fun _ _ => rfl
    | with_reducible exact fun _ => ⟨id, id⟩
    | (rename_i hq; have hq2 := congrArg Prod.snd hq; with_reducible dsimp only at hq2; subst hq2)
    | simp only [↓keeps_mk_iff]
    | with_reducible refine keeps_ite ?_ ?_
    | with_reducible refine outKeeps_ite ?_ ?_
    | with_reducible refine outKeeps_next.2 ?_
    | with_reducible refine keeps_ite2 ?_ ?_
    | with_reducible refine keeps_foldl ?_ (fun _ _ _ => ?_)
    | with_reducible apply advance_keeps | with_reducible apply safetyRefuse_keeps | with_reducible apply setKiln_keeps | with_reducible apply safetyApply_keeps
    | split
    | dsimp only

theorem safetyStore_keeps {t₀ : State} (g : Staged) (s : State) (h₀ : Keeps t₀ s) :
    Keeps t₀ (safetyStore g s) := by
  unfold safetyStore
  repeat' first
    | with_reducible assumption
    | with_reducible exact fun _ => rfl
    | with_reducible exact fun _ _ => rfl
    | with_reducible exact fun _ => ⟨id, id⟩
    | (rename_i hq; have hq2 := congrArg Prod.snd hq; with_reducible dsimp only at hq2; subst hq2)
    | simp only [↓keeps_mk_iff]
    | with_reducible refine keeps_ite ?_ ?_
    | with_reducible refine outKeeps_ite ?_ ?_
    | with_reducible refine outKeeps_next.2 ?_
    | with_reducible refine keeps_ite2 ?_ ?_
    | with_reducible refine keeps_foldl ?_ (fun _ _ _ => ?_)
    | with_reducible apply record_keeps | with_reducible apply putParam_keeps | with_reducible apply klmClear_keeps | with_reducible apply setKiln_keeps | with_reducible apply reply_keeps
    | split
    | dsimp only

theorem execSafetyCommit_keeps {t₀ : State} (dt : Nat) (s : State) (h₀ : Keeps t₀ s) :
    OutKeeps t₀ (execSafetyCommit dt s) := by
  unfold execSafetyCommit
  repeat' first
    | with_reducible assumption
    | with_reducible exact fun _ => rfl
    | with_reducible exact fun _ _ => rfl
    | with_reducible exact fun _ => ⟨id, id⟩
    | (rename_i hq; have hq2 := congrArg Prod.snd hq; with_reducible dsimp only at hq2; subst hq2)
    | simp only [↓keeps_mk_iff]
    | with_reducible refine keeps_ite ?_ ?_
    | with_reducible refine outKeeps_ite ?_ ?_
    | with_reducible refine outKeeps_next.2 ?_
    | with_reducible refine keeps_ite2 ?_ ?_
    | with_reducible refine keeps_foldl ?_ (fun _ _ _ => ?_)
    | with_reducible apply advance_keeps | with_reducible apply safetyStore_keeps
    | split
    | dsimp only

theorem execSafetyTimeout_keeps {t₀ : State} (dt : Nat) (s : State) (h₀ : Keeps t₀ s) :
    OutKeeps t₀ (execSafetyTimeout dt s) := by
  unfold execSafetyTimeout
  repeat' first
    | with_reducible assumption
    | with_reducible exact fun _ => rfl
    | with_reducible exact fun _ _ => rfl
    | with_reducible exact fun _ => ⟨id, id⟩
    | (rename_i hq; have hq2 := congrArg Prod.snd hq; with_reducible dsimp only at hq2; subst hq2)
    | simp only [↓keeps_mk_iff]
    | with_reducible refine keeps_ite ?_ ?_
    | with_reducible refine outKeeps_ite ?_ ?_
    | with_reducible refine outKeeps_next.2 ?_
    | with_reducible refine keeps_ite2 ?_ ?_
    | with_reducible refine keeps_foldl ?_ (fun _ _ _ => ?_)
    | with_reducible apply advance_keeps | with_reducible apply safetyRefuse_keeps
    | split
    | dsimp only

theorem execSafetyValueFromActive_keeps {t₀ : State} (head : TwinHead) (index : BitVec 16) (sub : BitVec 8) (value : List (BitVec 8)) (s : State) (h₀ : Keeps t₀ s) :
    OutKeeps t₀ (execSafetyValueFromActive head index sub value s) := by
  unfold execSafetyValueFromActive
  repeat' first
    | with_reducible assumption
    | with_reducible exact fun _ => rfl
    | with_reducible exact fun _ _ => rfl
    | with_reducible exact fun _ => ⟨id, id⟩
    | (rename_i hq; have hq2 := congrArg Prod.snd hq; with_reducible dsimp only at hq2; subst hq2)
    | simp only [↓keeps_mk_iff]
    | with_reducible refine keeps_ite ?_ ?_
    | with_reducible refine outKeeps_ite ?_ ?_
    | with_reducible refine outKeeps_next.2 ?_
    | with_reducible refine keeps_ite2 ?_ ?_
    | with_reducible refine keeps_foldl ?_ (fun _ _ _ => ?_)
    | (intro b u hu; dsimp only)
    | intro b u hu
    | (intro u hu; dsimp only)
    | intro u hu
    | with_reducible apply linkFrame_keeps | with_reducible apply stageSafety_keeps | with_reducible apply standbyDrop_keeps | with_reducible apply record_keeps
    | split
    | dsimp only

theorem execDebugHalt_keeps {t₀ : State} (by_ : Session) (s : State) (h₀ : Keeps t₀ s) :
    OutKeeps t₀ (execDebugHalt by_ s) := by
  unfold execDebugHalt
  repeat' first
    | with_reducible assumption
    | with_reducible exact fun _ => rfl
    | with_reducible exact fun _ _ => rfl
    | with_reducible exact fun _ => ⟨id, id⟩
    | (rename_i hq; have hq2 := congrArg Prod.snd hq; with_reducible dsimp only at hq2; subst hq2)
    | simp only [↓keeps_mk_iff]
    | with_reducible refine keeps_ite ?_ ?_
    | with_reducible refine outKeeps_ite ?_ ?_
    | with_reducible refine outKeeps_next.2 ?_
    | with_reducible refine keeps_ite2 ?_ ?_
    | with_reducible refine keeps_foldl ?_ (fun _ _ _ => ?_)
    | (intro b u hu; dsimp only)
    | intro b u hu
    | (intro u hu; dsimp only)
    | intro u hu
    | with_reducible apply serve_keeps | with_reducible apply dictWrite_keeps
    | split
    | dsimp only

theorem execDebugRun_keeps {t₀ : State} (by_ : Session) (s : State) (h₀ : Keeps t₀ s) :
    OutKeeps t₀ (execDebugRun by_ s) := by
  unfold execDebugRun
  repeat' first
    | with_reducible assumption
    | with_reducible exact fun _ => rfl
    | with_reducible exact fun _ _ => rfl
    | with_reducible exact fun _ => ⟨id, id⟩
    | (rename_i hq; have hq2 := congrArg Prod.snd hq; with_reducible dsimp only at hq2; subst hq2)
    | simp only [↓keeps_mk_iff]
    | with_reducible refine keeps_ite ?_ ?_
    | with_reducible refine outKeeps_ite ?_ ?_
    | with_reducible refine outKeeps_next.2 ?_
    | with_reducible refine keeps_ite2 ?_ ?_
    | with_reducible refine keeps_foldl ?_ (fun _ _ _ => ?_)
    | (intro b u hu; dsimp only)
    | intro b u hu
    | (intro u hu; dsimp only)
    | intro u hu
    | with_reducible apply serve_keeps | with_reducible apply dictWrite_keeps
    | split
    | dsimp only

theorem execDebugStep_keeps {t₀ : State} (by_ : Session) (s : State) (h₀ : Keeps t₀ s) :
    OutKeeps t₀ (execDebugStep by_ s) := by
  unfold execDebugStep
  repeat' first
    | with_reducible assumption
    | with_reducible exact fun _ => rfl
    | with_reducible exact fun _ _ => rfl
    | with_reducible exact fun _ => ⟨id, id⟩
    | (rename_i hq; have hq2 := congrArg Prod.snd hq; with_reducible dsimp only at hq2; subst hq2)
    | simp only [↓keeps_mk_iff]
    | with_reducible refine keeps_ite ?_ ?_
    | with_reducible refine outKeeps_ite ?_ ?_
    | with_reducible refine outKeeps_next.2 ?_
    | with_reducible refine keeps_ite2 ?_ ?_
    | with_reducible refine keeps_foldl ?_ (fun _ _ _ => ?_)
    | (intro b u hu; dsimp only)
    | intro b u hu
    | (intro u hu; dsimp only)
    | intro u hu
    | with_reducible apply serve_keeps | with_reducible apply dictWrite_keeps
    | split
    | dsimp only

theorem execDebugRegisterAccess_keeps {t₀ : State} (by_ : Session) (reg : DebugReg) (value : Option (List (BitVec 8))) (s : State) (h₀ : Keeps t₀ s) :
    OutKeeps t₀ (execDebugRegisterAccess by_ reg value s) := by
  unfold execDebugRegisterAccess
  repeat' first
    | with_reducible assumption
    | with_reducible exact fun _ => rfl
    | with_reducible exact fun _ _ => rfl
    | with_reducible exact fun _ => ⟨id, id⟩
    | (rename_i hq; have hq2 := congrArg Prod.snd hq; with_reducible dsimp only at hq2; subst hq2)
    | simp only [↓keeps_mk_iff]
    | with_reducible refine keeps_ite ?_ ?_
    | with_reducible refine outKeeps_ite ?_ ?_
    | with_reducible refine outKeeps_next.2 ?_
    | with_reducible refine keeps_ite2 ?_ ?_
    | with_reducible refine keeps_foldl ?_ (fun _ _ _ => ?_)
    | (intro b u hu; dsimp only)
    | intro b u hu
    | (intro u hu; dsimp only)
    | intro u hu
    | with_reducible apply serve_keeps | with_reducible apply dictWrite_keeps | with_reducible apply dictRead_keeps
    | split
    | dsimp only

theorem debugMemGet_keeps {t₀ : State} (b : Session) (n : Nat) (s : State) (h₀ : Keeps t₀ s) :
    Keeps t₀ (debugMemGet b n s).2 := by
  unfold debugMemGet
  repeat' first
    | with_reducible assumption
    | with_reducible exact fun _ => rfl
    | with_reducible exact fun _ _ => rfl
    | with_reducible exact fun _ => ⟨id, id⟩
    | (rename_i hq; have hq2 := congrArg Prod.snd hq; with_reducible dsimp only at hq2; subst hq2)
    | simp only [↓keeps_mk_iff]
    | with_reducible refine keeps_ite ?_ ?_
    | with_reducible refine outKeeps_ite ?_ ?_
    | with_reducible refine outKeeps_next.2 ?_
    | with_reducible refine keeps_ite2 ?_ ?_
    | with_reducible refine keeps_foldl ?_ (fun _ _ _ => ?_)
    | split
    | dsimp only

theorem execDebugMemoryAccess_keeps {t₀ : State} (by_ : Session) (length : BitVec 16) (value : Option (List (BitVec 8))) (s : State) (h₀ : Keeps t₀ s) :
    OutKeeps t₀ (execDebugMemoryAccess by_ length value s) := by
  unfold execDebugMemoryAccess
  repeat' first
    | with_reducible assumption
    | with_reducible exact fun _ => rfl
    | with_reducible exact fun _ _ => rfl
    | with_reducible exact fun _ => ⟨id, id⟩
    | (rename_i hq; have hq2 := congrArg Prod.snd hq; with_reducible dsimp only at hq2; subst hq2)
    | simp only [↓keeps_mk_iff]
    | with_reducible refine keeps_ite ?_ ?_
    | with_reducible refine outKeeps_ite ?_ ?_
    | with_reducible refine outKeeps_next.2 ?_
    | with_reducible refine keeps_ite2 ?_ ?_
    | with_reducible refine keeps_foldl ?_ (fun _ _ _ => ?_)
    | (intro b u hu; dsimp only)
    | intro b u hu
    | (intro u hu; dsimp only)
    | intro u hu
    | with_reducible apply serve_keeps | with_reducible apply dictWrite_keeps | with_reducible apply debugMemGet_keeps
    | split
    | dsimp only

theorem execDebugBreakpointHit_keeps {t₀ : State} (core : Fin 8) (s : State) (h₀ : Keeps t₀ s) :
    OutKeeps t₀ (execDebugBreakpointHit core s) := by
  unfold execDebugBreakpointHit
  repeat' first
    | with_reducible assumption
    | with_reducible exact fun _ => rfl
    | with_reducible exact fun _ _ => rfl
    | with_reducible exact fun _ => ⟨id, id⟩
    | (rename_i hq; have hq2 := congrArg Prod.snd hq; with_reducible dsimp only at hq2; subst hq2)
    | simp only [↓keeps_mk_iff]
    | with_reducible refine keeps_ite ?_ ?_
    | with_reducible refine outKeeps_ite ?_ ?_
    | with_reducible refine outKeeps_next.2 ?_
    | with_reducible refine keeps_ite2 ?_ ?_
    | with_reducible refine keeps_foldl ?_ (fun _ _ _ => ?_)
    | with_reducible apply haltTarget_keeps
    | split
    | dsimp only

theorem execFwBlock_keeps {t₀ : State} (by_ : Session) (block : BlockIn) (s : State) (h₀ : Keeps t₀ s) :
    OutKeeps t₀ (execFwBlock by_ block s) := by
  unfold execFwBlock
  repeat' first
    | with_reducible assumption
    | with_reducible exact fun _ => rfl
    | with_reducible exact fun _ _ => rfl
    | with_reducible exact fun _ => ⟨id, id⟩
    | (rename_i hq; have hq2 := congrArg Prod.snd hq; with_reducible dsimp only at hq2; subst hq2)
    | simp only [↓keeps_mk_iff]
    | with_reducible refine keeps_ite ?_ ?_
    | with_reducible refine outKeeps_ite ?_ ?_
    | with_reducible refine outKeeps_next.2 ?_
    | with_reducible refine keeps_ite2 ?_ ?_
    | with_reducible refine keeps_foldl ?_ (fun _ _ _ => ?_)
    | (intro b u hu; dsimp only)
    | intro b u hu
    | (intro u hu; dsimp only)
    | intro u hu
    | with_reducible apply serve_keeps | with_reducible apply blockWrite_keeps
    | split
    | dsimp only

theorem execAppImageBlock_keeps {t₀ : State} (by_ : Session) (block : BlockIn) (s : State) (h₀ : Keeps t₀ s) :
    OutKeeps t₀ (execAppImageBlock by_ block s) := by
  unfold execAppImageBlock
  repeat' first
    | with_reducible assumption
    | with_reducible exact fun _ => rfl
    | with_reducible exact fun _ _ => rfl
    | with_reducible exact fun _ => ⟨id, id⟩
    | (rename_i hq; have hq2 := congrArg Prod.snd hq; with_reducible dsimp only at hq2; subst hq2)
    | simp only [↓keeps_mk_iff]
    | with_reducible refine keeps_ite ?_ ?_
    | with_reducible refine outKeeps_ite ?_ ?_
    | with_reducible refine outKeeps_next.2 ?_
    | with_reducible refine keeps_ite2 ?_ ?_
    | with_reducible refine keeps_foldl ?_ (fun _ _ _ => ?_)
    | (intro b u hu; dsimp only)
    | intro b u hu
    | (intro u hu; dsimp only)
    | intro u hu
    | with_reducible apply serve_keeps | with_reducible apply blockWrite_keeps
    | split
    | dsimp only

theorem execScheduleTableBlock_keeps {t₀ : State} (by_ : Session) (block : BlockIn) (s : State) (h₀ : Keeps t₀ s) :
    OutKeeps t₀ (execScheduleTableBlock by_ block s) := by
  unfold execScheduleTableBlock
  repeat' first
    | with_reducible assumption
    | with_reducible exact fun _ => rfl
    | with_reducible exact fun _ _ => rfl
    | with_reducible exact fun _ => ⟨id, id⟩
    | (rename_i hq; have hq2 := congrArg Prod.snd hq; with_reducible dsimp only at hq2; subst hq2)
    | simp only [↓keeps_mk_iff]
    | with_reducible refine keeps_ite ?_ ?_
    | with_reducible refine outKeeps_ite ?_ ?_
    | with_reducible refine outKeeps_next.2 ?_
    | with_reducible refine keeps_ite2 ?_ ?_
    | with_reducible refine keeps_foldl ?_ (fun _ _ _ => ?_)
    | (intro b u hu; dsimp only)
    | intro b u hu
    | (intro u hu; dsimp only)
    | intro u hu
    | with_reducible apply serve_keeps | with_reducible apply blockWrite_keeps
    | split
    | dsimp only

theorem execTransferAbandonTimeout_keeps {t₀ : State} (dt : Nat) (index : BitVec 16) (s : State) (h₀ : Keeps t₀ s) :
    OutKeeps t₀ (execTransferAbandonTimeout dt index s) := by
  unfold execTransferAbandonTimeout
  repeat' first
    | with_reducible assumption
    | with_reducible exact fun _ => rfl
    | with_reducible exact fun _ _ => rfl
    | with_reducible exact fun _ => ⟨id, id⟩
    | (rename_i hq; have hq2 := congrArg Prod.snd hq; with_reducible dsimp only at hq2; subst hq2)
    | simp only [↓keeps_mk_iff]
    | with_reducible refine keeps_ite ?_ ?_
    | with_reducible refine outKeeps_ite ?_ ?_
    | with_reducible refine outKeeps_next.2 ?_
    | with_reducible refine keeps_ite2 ?_ ?_
    | with_reducible refine keeps_foldl ?_ (fun _ _ _ => ?_)
    | with_reducible apply advance_keeps | with_reducible apply abandonFw_keeps | with_reducible apply abandonApp_keeps | with_reducible apply abandonSched_keeps | with_reducible apply setKiln_keeps
    | split
    | dsimp only

theorem execFlashSectorErased_keeps {t₀ : State} (dt : Nat) (s : State) (h₀ : Keeps t₀ s) :
    OutKeeps t₀ (execFlashSectorErased dt s) := by
  unfold execFlashSectorErased
  repeat' first
    | with_reducible assumption
    | with_reducible exact fun _ => rfl
    | with_reducible exact fun _ _ => rfl
    | with_reducible exact fun _ => ⟨id, id⟩
    | (rename_i hq; have hq2 := congrArg Prod.snd hq; with_reducible dsimp only at hq2; subst hq2)
    | simp only [↓keeps_mk_iff]
    | with_reducible refine keeps_ite ?_ ?_
    | with_reducible refine outKeeps_ite ?_ ?_
    | with_reducible refine outKeeps_next.2 ?_
    | with_reducible refine keeps_ite2 ?_ ?_
    | with_reducible refine keeps_foldl ?_ (fun _ _ _ => ?_)
    | with_reducible apply fwErased_keeps | with_reducible apply advance_keeps
    | split
    | dsimp only

theorem execFwActivate_keeps {t₀ : State} (by_ : Session) (s : State) (h₀ : Keeps t₀ s) :
    OutKeeps t₀ (execFwActivate by_ s) := by
  unfold execFwActivate
  repeat' first
    | with_reducible assumption
    | with_reducible exact fun _ => rfl
    | with_reducible exact fun _ _ => rfl
    | with_reducible exact fun _ => ⟨id, id⟩
    | (rename_i hq; have hq2 := congrArg Prod.snd hq; with_reducible dsimp only at hq2; subst hq2)
    | simp only [↓keeps_mk_iff]
    | with_reducible refine keeps_ite ?_ ?_
    | with_reducible refine outKeeps_ite ?_ ?_
    | with_reducible refine outKeeps_next.2 ?_
    | with_reducible refine keeps_ite2 ?_ ?_
    | with_reducible refine keeps_foldl ?_ (fun _ _ _ => ?_)
    | (intro b u hu; dsimp only)
    | intro b u hu
    | (intro u hu; dsimp only)
    | intro u hu
    | with_reducible apply serve_keeps | with_reducible apply dictWrite_keeps
    | split
    | dsimp only

theorem execFwRevert_keeps {t₀ : State} (by_ : Session) (s : State) (h₀ : Keeps t₀ s) :
    OutKeeps t₀ (execFwRevert by_ s) := by
  unfold execFwRevert
  repeat' first
    | with_reducible assumption
    | with_reducible exact fun _ => rfl
    | with_reducible exact fun _ _ => rfl
    | with_reducible exact fun _ => ⟨id, id⟩
    | (rename_i hq; have hq2 := congrArg Prod.snd hq; with_reducible dsimp only at hq2; subst hq2)
    | simp only [↓keeps_mk_iff]
    | with_reducible refine keeps_ite ?_ ?_
    | with_reducible refine outKeeps_ite ?_ ?_
    | with_reducible refine outKeeps_next.2 ?_
    | with_reducible refine keeps_ite2 ?_ ?_
    | with_reducible refine keeps_foldl ?_ (fun _ _ _ => ?_)
    | (intro b u hu; dsimp only)
    | intro b u hu
    | (intro u hu; dsimp only)
    | intro u hu
    | with_reducible apply serve_keeps | with_reducible apply dictWrite_keeps
    | split
    | dsimp only

theorem execFwCancelTransfer_keeps {t₀ : State} (by_ : Session) (s : State) (h₀ : Keeps t₀ s) :
    OutKeeps t₀ (execFwCancelTransfer by_ s) := by
  unfold execFwCancelTransfer
  repeat' first
    | with_reducible assumption
    | with_reducible exact fun _ => rfl
    | with_reducible exact fun _ _ => rfl
    | with_reducible exact fun _ => ⟨id, id⟩
    | (rename_i hq; have hq2 := congrArg Prod.snd hq; with_reducible dsimp only at hq2; subst hq2)
    | simp only [↓keeps_mk_iff]
    | with_reducible refine keeps_ite ?_ ?_
    | with_reducible refine outKeeps_ite ?_ ?_
    | with_reducible refine outKeeps_next.2 ?_
    | with_reducible refine keeps_ite2 ?_ ?_
    | with_reducible refine keeps_foldl ?_ (fun _ _ _ => ?_)
    | (intro b u hu; dsimp only)
    | intro b u hu
    | (intro u hu; dsimp only)
    | intro u hu
    | with_reducible apply serve_keeps | with_reducible apply dictWrite_keeps
    | split
    | dsimp only

theorem execFwCancelActivation_keeps {t₀ : State} (by_ : Session) (s : State) (h₀ : Keeps t₀ s) :
    OutKeeps t₀ (execFwCancelActivation by_ s) := by
  unfold execFwCancelActivation
  repeat' first
    | with_reducible assumption
    | with_reducible exact fun _ => rfl
    | with_reducible exact fun _ _ => rfl
    | with_reducible exact fun _ => ⟨id, id⟩
    | (rename_i hq; have hq2 := congrArg Prod.snd hq; with_reducible dsimp only at hq2; subst hq2)
    | simp only [↓keeps_mk_iff]
    | with_reducible refine keeps_ite ?_ ?_
    | with_reducible refine outKeeps_ite ?_ ?_
    | with_reducible refine outKeeps_next.2 ?_
    | with_reducible refine keeps_ite2 ?_ ?_
    | with_reducible refine keeps_foldl ?_ (fun _ _ _ => ?_)
    | (intro b u hu; dsimp only)
    | intro b u hu
    | (intro u hu; dsimp only)
    | intro u hu
    | with_reducible apply serve_keeps | with_reducible apply dictWrite_keeps
    | split
    | dsimp only

theorem execRecorderRead_keeps {t₀ : State} (by_ : Session) (s : State) (h₀ : Keeps t₀ s) :
    OutKeeps t₀ (execRecorderRead by_ s) := by
  unfold execRecorderRead
  repeat' first
    | with_reducible assumption
    | with_reducible exact fun _ => rfl
    | with_reducible exact fun _ _ => rfl
    | with_reducible exact fun _ => ⟨id, id⟩
    | (rename_i hq; have hq2 := congrArg Prod.snd hq; with_reducible dsimp only at hq2; subst hq2)
    | simp only [↓keeps_mk_iff]
    | with_reducible refine keeps_ite ?_ ?_
    | with_reducible refine outKeeps_ite ?_ ?_
    | with_reducible refine outKeeps_next.2 ?_
    | with_reducible refine keeps_ite2 ?_ ?_
    | with_reducible refine keeps_foldl ?_ (fun _ _ _ => ?_)
    | (intro b u hu; dsimp only)
    | intro b u hu
    | (intro u hu; dsimp only)
    | intro u hu
    | with_reducible apply serve_keeps | with_reducible apply dictRead_keeps
    | split
    | dsimp only

end Sys2Proof.Machine
end

