-- ==== Sys2Proof/Laws/KeepsAll6.lean ====
section
/-! SUPPORT. Every operation and every meaning keeps the memories canonical and the FIFO within its bound. -/

set_option linter.all false

namespace Sys2Proof.Machine

open Sys2Proof

theorem storeReply_keeps {t₀ : State} (i : Nat) (c : XSlot) (f : List Byte) (bits : Nat) (late : Bool) (s : State) (h₀ : Keeps t₀ s) :
    Keeps t₀ (storeReply i c f bits late s) := by
  unfold storeReply
  repeat' first
    | with_reducible assumption
    | with_reducible exact fun _ => rfl
    | with_reducible exact fun _ _ => rfl
    | with_reducible exact fun _ => ⟨id, id⟩
    | (rename_i hq; have hq2 := congrArg Prod.snd hq; with_reducible dsimp only at hq2; subst hq2)
    | simp only [↓keeps_mk_iff]
    | with_reducible refine keeps_ite ?_ ?_
    | with_reducible refine outKeeps_ite ?_ ?_
    | with_reducible refine outKeeps_next.2 ?_
    | with_reducible refine keeps_ite2 ?_ ?_
    | with_reducible refine keeps_foldl ?_ (fun _ _ _ => ?_)
    | with_reducible apply vwrite_keeps | with_reducible apply putStat_keeps
    | split
    | dsimp only

theorem pollReply_keeps {t₀ : State} (k : Fin 64) (i : Nat) (c : XSlot) (f : List Byte) (bits : Nat) (after : Int) (s : State) (h₀ : Keeps t₀ s) :
    Keeps t₀ (pollReply k i c f bits after s) := by
  unfold pollReply
  repeat' first
    | with_reducible assumption
    | with_reducible exact fun _ => rfl
    | with_reducible exact fun _ _ => rfl
    | with_reducible exact fun _ => ⟨id, id⟩
    | (rename_i hq; have hq2 := congrArg Prod.snd hq; with_reducible dsimp only at hq2; subst hq2)
    | simp only [↓keeps_mk_iff]
    | with_reducible refine keeps_ite ?_ ?_
    | with_reducible refine outKeeps_ite ?_ ?_
    | with_reducible refine outKeeps_next.2 ?_
    | with_reducible refine keeps_ite2 ?_ ?_
    | with_reducible refine keeps_foldl ?_ (fun _ _ _ => ?_)
    | with_reducible apply nodeDrift_keeps | with_reducible apply setNode_keeps | with_reducible apply putResult_keeps | with_reducible apply nodeReplied_keeps | with_reducible apply storeReply_keeps | with_reducible apply nodeLate_keeps
    | split
    | dsimp only

theorem probeReply_keeps {t₀ : State} (k : Fin 64) (c : XSlot) (after : Int) (s : State) (h₀ : Keeps t₀ s) :
    Keeps t₀ (probeReply k c after s) := by
  unfold probeReply
  repeat' first
    | with_reducible assumption
    | with_reducible exact fun _ => rfl
    | with_reducible exact fun _ _ => rfl
    | with_reducible exact fun _ => ⟨id, id⟩
    | (rename_i hq; have hq2 := congrArg Prod.snd hq; with_reducible dsimp only at hq2; subst hq2)
    | simp only [↓keeps_mk_iff]
    | with_reducible refine keeps_ite ?_ ?_
    | with_reducible refine outKeeps_ite ?_ ?_
    | with_reducible refine outKeeps_next.2 ?_
    | with_reducible refine keeps_ite2 ?_ ?_
    | with_reducible refine keeps_foldl ?_ (fun _ _ _ => ?_)
    | with_reducible apply setNode_keeps | with_reducible apply record_keeps
    | split
    | dsimp only

theorem replyHeard_keeps {t₀ : State} (f : List Byte) (bits : Nat) (after : Int) (s : State) (h₀ : Keeps t₀ s) :
    Keeps t₀ (replyHeard f bits after s) := by
  unfold replyHeard
  repeat' first
    | with_reducible assumption
    | with_reducible exact fun _ => rfl
    | with_reducible exact fun _ _ => rfl
    | with_reducible exact fun _ => ⟨id, id⟩
    | (rename_i hq; have hq2 := congrArg Prod.snd hq; with_reducible dsimp only at hq2; subst hq2)
    | simp only [↓keeps_mk_iff]
    | with_reducible refine keeps_ite ?_ ?_
    | with_reducible refine outKeeps_ite ?_ ?_
    | with_reducible refine outKeeps_next.2 ?_
    | with_reducible refine keeps_ite2 ?_ ?_
    | with_reducible refine keeps_foldl ?_ (fun _ _ _ => ?_)
    | with_reducible apply setXn_keeps | with_reducible apply storeReply_keeps | with_reducible apply pollReply_keeps | with_reducible apply probeReply_keeps
    | split
    | dsimp only

theorem chanHeard_keeps {t₀ : State} (k : Fin 2) (one : Option (List Byte)) (good other : Bool) (s : State) (h₀ : Keeps t₀ s) :
    Keeps t₀ (chanHeard k one good other s) := by
  unfold chanHeard
  repeat' first
    | with_reducible assumption
    | with_reducible exact fun _ => rfl
    | with_reducible exact fun _ _ => rfl
    | with_reducible exact fun _ => ⟨id, id⟩
    | (rename_i hq; have hq2 := congrArg Prod.snd hq; with_reducible dsimp only at hq2; subst hq2)
    | simp only [↓keeps_mk_iff]
    | with_reducible refine keeps_ite ?_ ?_
    | with_reducible refine outKeeps_ite ?_ ?_
    | with_reducible refine outKeeps_next.2 ?_
    | with_reducible refine keeps_ite2 ?_ ?_
    | with_reducible refine keeps_foldl ?_ (fun _ _ _ => ?_)
    | with_reducible apply chanGood_keeps | with_reducible apply chanError_keeps | with_reducible apply chanMissed_keeps
    | split
    | dsimp only

theorem frameActs_keeps {t₀ : State} (f : List Byte) (bits : Nat) (after : Int) (s : State) (h₀ : Keeps t₀ s) :
    Keeps t₀ (frameActs f bits after s) := by
  unfold frameActs
  repeat' first
    | with_reducible assumption
    | with_reducible exact fun _ => rfl
    | with_reducible exact fun _ _ => rfl
    | with_reducible exact fun _ => ⟨id, id⟩
    | (rename_i hq; have hq2 := congrArg Prod.snd hq; with_reducible dsimp only at hq2; subst hq2)
    | simp only [↓keeps_mk_iff]
    | with_reducible refine keeps_ite ?_ ?_
    | with_reducible refine outKeeps_ite ?_ ?_
    | with_reducible refine outKeeps_next.2 ?_
    | with_reducible refine keeps_ite2 ?_ ?_
    | with_reducible refine keeps_foldl ?_ (fun _ _ _ => ?_)
    | with_reducible apply replyHeard_keeps | with_reducible apply masterHears_keeps
    | split
    | dsimp only

theorem execXenexFrameReceived_keeps {t₀ : State} (dt : Nat) (a b : Option (List (BitVec 8))) (after : BitVec 32) (s : State) (h₀ : Keeps t₀ s) :
    OutKeeps t₀ (execXenexFrameReceived dt a b after s) := by
  unfold execXenexFrameReceived
  repeat' first
    | with_reducible assumption
    | with_reducible exact fun _ => rfl
    | with_reducible exact fun _ _ => rfl
    | with_reducible exact fun _ => ⟨id, id⟩
    | (rename_i hq; have hq2 := congrArg Prod.snd hq; with_reducible dsimp only at hq2; subst hq2)
    | simp only [↓keeps_mk_iff]
    | with_reducible refine keeps_ite ?_ ?_
    | with_reducible refine outKeeps_ite ?_ ?_
    | with_reducible refine outKeeps_next.2 ?_
    | with_reducible refine keeps_ite2 ?_ ?_
    | with_reducible refine keeps_foldl ?_ (fun _ _ _ => ?_)
    | with_reducible apply advance_keeps | with_reducible apply chanHeard_keeps | with_reducible apply frameActs_keeps | with_reducible apply setXn_keeps
    | split
    | dsimp only

theorem execSlotComplete_keeps {t₀ : State} (dt slot : Nat) (s : State) (h₀ : Keeps t₀ s) :
    OutKeeps t₀ (execSlotComplete dt slot s) := by
  unfold execSlotComplete
  repeat' first
    | with_reducible assumption
    | with_reducible exact fun _ => rfl
    | with_reducible exact fun _ _ => rfl
    | with_reducible exact fun _ => ⟨id, id⟩
    | (rename_i hq; have hq2 := congrArg Prod.snd hq; with_reducible dsimp only at hq2; subst hq2)
    | simp only [↓keeps_mk_iff]
    | with_reducible refine keeps_ite ?_ ?_
    | with_reducible refine outKeeps_ite ?_ ?_
    | with_reducible refine outKeeps_next.2 ?_
    | with_reducible refine keeps_ite2 ?_ ?_
    | with_reducible refine keeps_foldl ?_ (fun _ _ _ => ?_)
    | with_reducible apply advance_keeps | with_reducible apply slotDone_keeps | with_reducible apply slotUnanswered_keeps
    | split
    | dsimp only

theorem acycGoOn_keeps {t₀ : State} (a : Acyc) (m : AcycMsg) (s : State) (h₀ : Keeps t₀ s) :
    Keeps t₀ (acycGoOn a m s) := by
  unfold acycGoOn
  repeat' first
    | with_reducible assumption
    | with_reducible exact fun _ => rfl
    | with_reducible exact fun _ _ => rfl
    | with_reducible exact fun _ => ⟨id, id⟩
    | (rename_i hq; have hq2 := congrArg Prod.snd hq; with_reducible dsimp only at hq2; subst hq2)
    | simp only [↓keeps_mk_iff]
    | with_reducible refine keeps_ite ?_ ?_
    | with_reducible refine outKeeps_ite ?_ ?_
    | with_reducible refine outKeeps_next.2 ?_
    | with_reducible refine keeps_ite2 ?_ ?_
    | with_reducible refine keeps_foldl ?_ (fun _ _ _ => ?_)
    | with_reducible apply acycEnd_keeps | with_reducible apply setXn_keeps
    | split
    | dsimp only

theorem acycAnswered_keeps {t₀ : State} (a : Acyc) (m : AcycMsg) (s : State) (h₀ : Keeps t₀ s) :
    Keeps t₀ (acycAnswered a m s) := by
  unfold acycAnswered
  repeat' first
    | with_reducible assumption
    | with_reducible exact fun _ => rfl
    | with_reducible exact fun _ _ => rfl
    | with_reducible exact fun _ => ⟨id, id⟩
    | (rename_i hq; have hq2 := congrArg Prod.snd hq; with_reducible dsimp only at hq2; subst hq2)
    | simp only [↓keeps_mk_iff]
    | with_reducible refine keeps_ite ?_ ?_
    | with_reducible refine outKeeps_ite ?_ ?_
    | with_reducible refine outKeeps_next.2 ?_
    | with_reducible refine keeps_ite2 ?_ ?_
    | with_reducible refine keeps_foldl ?_ (fun _ _ _ => ?_)
    | with_reducible apply acycAbort_keeps | with_reducible apply acycEnd_keeps | with_reducible apply setXn_keeps | with_reducible apply acycGoOn_keeps
    | split
    | dsimp only

theorem nodeAsks_keeps {t₀ : State} (n : BitVec 6) (m : AcycMsg) (s : State) (h₀ : Keeps t₀ s) :
    Keeps t₀ (nodeAsks n m s) := by
  unfold nodeAsks
  repeat' first
    | with_reducible assumption
    | with_reducible exact fun _ => rfl
    | with_reducible exact fun _ _ => rfl
    | with_reducible exact fun _ => ⟨id, id⟩
    | (rename_i hq; have hq2 := congrArg Prod.snd hq; with_reducible dsimp only at hq2; subst hq2)
    | simp only [↓keeps_mk_iff]
    | with_reducible refine keeps_ite ?_ ?_
    | with_reducible refine outKeeps_ite ?_ ?_
    | with_reducible refine outKeeps_next.2 ?_
    | with_reducible refine keeps_ite2 ?_ ?_
    | with_reducible refine keeps_foldl ?_ (fun _ _ _ => ?_)
    | with_reducible apply setXn_keeps | with_reducible apply fwErased_keeps | with_reducible apply dictRead_keeps | with_reducible apply dictWrite_keeps | with_reducible apply replyOnly_keeps
    | split
    | dsimp only

theorem execAcycRespReceived_keeps {t₀ : State} (node : BitVec 6) (msg : AcycMsg) (s : State) (h₀ : Keeps t₀ s) :
    OutKeeps t₀ (execAcycRespReceived node msg s) := by
  unfold execAcycRespReceived
  repeat' first
    | with_reducible assumption
    | with_reducible exact fun _ => rfl
    | with_reducible exact fun _ _ => rfl
    | with_reducible exact fun _ => ⟨id, id⟩
    | (rename_i hq; have hq2 := congrArg Prod.snd hq; with_reducible dsimp only at hq2; subst hq2)
    | simp only [↓keeps_mk_iff]
    | with_reducible refine keeps_ite ?_ ?_
    | with_reducible refine outKeeps_ite ?_ ?_
    | with_reducible refine outKeeps_next.2 ?_
    | with_reducible refine keeps_ite2 ?_ ?_
    | with_reducible refine keeps_foldl ?_ (fun _ _ _ => ?_)
    | with_reducible apply setXn_keeps | with_reducible apply acycAnswered_keeps | with_reducible apply nodeAsks_keeps
    | split
    | dsimp only

theorem execAcycTimeout_keeps {t₀ : State} (dt : Nat) (s : State) (h₀ : Keeps t₀ s) :
    OutKeeps t₀ (execAcycTimeout dt s) := by
  unfold execAcycTimeout
  repeat' first
    | with_reducible assumption
    | with_reducible exact fun _ => rfl
    | with_reducible exact fun _ _ => rfl
    | with_reducible exact fun _ => ⟨id, id⟩
    | (rename_i hq; have hq2 := congrArg Prod.snd hq; with_reducible dsimp only at hq2; subst hq2)
    | simp only [↓keeps_mk_iff]
    | with_reducible refine keeps_ite ?_ ?_
    | with_reducible refine outKeeps_ite ?_ ?_
    | with_reducible refine outKeeps_next.2 ?_
    | with_reducible refine keeps_ite2 ?_ ?_
    | with_reducible refine keeps_foldl ?_ (fun _ _ _ => ?_)
    | with_reducible apply acycAbort_keeps | with_reducible apply advance_keeps
    | split
    | dsimp only

theorem setCan_keeps {t₀ : State} (ch : Fin 2) (f : CanChan → CanChan) (s : State) (h₀ : Keeps t₀ s) :
    Keeps t₀ (setCan ch f s) := by
  unfold setCan
  repeat' first
    | with_reducible assumption
    | with_reducible exact fun _ => rfl
    | with_reducible exact fun _ _ => rfl
    | with_reducible exact fun _ => ⟨id, id⟩
    | (rename_i hq; have hq2 := congrArg Prod.snd hq; with_reducible dsimp only at hq2; subst hq2)
    | simp only [↓keeps_mk_iff]
    | with_reducible refine keeps_ite ?_ ?_
    | with_reducible refine outKeeps_ite ?_ ?_
    | with_reducible refine outKeeps_next.2 ?_
    | with_reducible refine keeps_ite2 ?_ ?_
    | with_reducible refine keeps_foldl ?_ (fun _ _ _ => ?_)
    | split
    | dsimp only

theorem execTpdoEventTimer_keeps {t₀ : State} (dt : Nat) (channel : Fin 2) (tpdo : Fin 8) (s : State) (h₀ : Keeps t₀ s) :
    OutKeeps t₀ (execTpdoEventTimer dt channel tpdo s) := by
  unfold execTpdoEventTimer
  repeat' first
    | with_reducible assumption
    | with_reducible exact fun _ => rfl
    | with_reducible exact fun _ _ => rfl
    | with_reducible exact fun _ => ⟨id, id⟩
    | (rename_i hq; have hq2 := congrArg Prod.snd hq; with_reducible dsimp only at hq2; subst hq2)
    | simp only [↓keeps_mk_iff]
    | with_reducible refine keeps_ite ?_ ?_
    | with_reducible refine outKeeps_ite ?_ ?_
    | with_reducible refine outKeeps_next.2 ?_
    | with_reducible refine keeps_ite2 ?_ ?_
    | with_reducible refine keeps_foldl ?_ (fun _ _ _ => ?_)
    | with_reducible apply advance_keeps | with_reducible apply sendTpdo_keeps
    | split
    | dsimp only

theorem kilnStamp_keeps {t₀ : State} (s : State) (h₀ : Keeps t₀ s) :
    Keeps t₀ (kilnStamp s).2 := by
  unfold kilnStamp
  repeat' first
    | with_reducible assumption
    | with_reducible exact fun _ => rfl
    | with_reducible exact fun _ _ => rfl
    | with_reducible exact fun _ => ⟨id, id⟩
    | (rename_i hq; have hq2 := congrArg Prod.snd hq; with_reducible dsimp only at hq2; subst hq2)
    | simp only [↓keeps_mk_iff]
    | with_reducible refine keeps_ite ?_ ?_
    | with_reducible refine outKeeps_ite ?_ ?_
    | with_reducible refine outKeeps_next.2 ?_
    | with_reducible refine keeps_ite2 ?_ ?_
    | with_reducible refine keeps_foldl ?_ (fun _ _ _ => ?_)
    | with_reducible apply drawWord_keeps
    | split
    | dsimp only

theorem rpdoStore_keeps {t₀ : State} (ch : Fin 2) (n : Fin 8) (data : List Byte) (s : State) (h₀ : Keeps t₀ s) :
    Keeps t₀ (rpdoStore ch n data s) := by
  unfold rpdoStore
  repeat' first
    | with_reducible assumption
    | with_reducible exact fun _ => rfl
    | with_reducible exact fun _ _ => rfl
    | with_reducible exact fun _ => ⟨id, id⟩
    | (rename_i hq; have hq2 := congrArg Prod.snd hq; with_reducible dsimp only at hq2; subst hq2)
    | simp only [↓keeps_mk_iff]
    | with_reducible refine keeps_ite ?_ ?_
    | with_reducible refine outKeeps_ite ?_ ?_
    | with_reducible refine outKeeps_next.2 ?_
    | with_reducible refine keeps_ite2 ?_ ?_
    | with_reducible refine keeps_foldl ?_ (fun _ _ _ => ?_)
    | with_reducible refine keeps_vmem (fun h => Memory.wf_memWriteBe _ _ _ _ h) rfl rfl rfl rfl rfl ?_
    | with_reducible refine keeps_vmem (fun h => Memory.wf_memWrite _ _ h) rfl rfl rfl rfl rfl ?_
    | with_reducible refine keeps_vmem (fun h => Memory.wf_filter _ h) rfl rfl rfl rfl rfl ?_
    | with_reducible refine keeps_mems (fun h => wf_mems_set h (Memory.wf_memWriteBe _ _ _ _ (h _))) rfl rfl rfl rfl rfl ?_
    | with_reducible refine keeps_mems (fun h => wf_mems_set h (Memory.wf_memWrite _ _ (h _))) rfl rfl rfl rfl rfl ?_
    | with_reducible refine keeps_mems (fun h => wf_mems_set h (Memory.wf_memCopyIf _ (h _))) rfl rfl rfl rfl rfl ?_
    | with_reducible refine keeps_mems (fun h => wf_mems_set h (Memory.wf_nil)) rfl rfl rfl rfl rfl ?_
    | with_reducible apply kilnStamp_keeps | with_reducible apply semKiln_keeps
    | split
    | dsimp only

theorem execRpdoReceived_keeps {t₀ : State} (dt : Nat) (channel : Fin 2) (cobId : BitVec 29) (data : List (BitVec 8)) (s : State) (h₀ : Keeps t₀ s) :
    OutKeeps t₀ (execRpdoReceived dt channel cobId data s) := by
  unfold execRpdoReceived
  repeat' first
    | with_reducible assumption
    | with_reducible exact fun _ => rfl
    | with_reducible exact fun _ _ => rfl
    | with_reducible exact fun _ => ⟨id, id⟩
    | (rename_i hq; have hq2 := congrArg Prod.snd hq; with_reducible dsimp only at hq2; subst hq2)
    | simp only [↓keeps_mk_iff]
    | with_reducible refine keeps_ite ?_ ?_
    | with_reducible refine outKeeps_ite ?_ ?_
    | with_reducible refine outKeeps_next.2 ?_
    | with_reducible refine keeps_ite2 ?_ ?_
    | with_reducible refine keeps_foldl ?_ (fun _ _ _ => ?_)
    | with_reducible apply advance_keeps | with_reducible apply rpdoStore_keeps
    | split
    | dsimp only

theorem execCanBusoff_keeps {t₀ : State} (channel : Fin 2) (tec : BitVec 8) (s : State) (h₀ : Keeps t₀ s) :
    OutKeeps t₀ (execCanBusoff channel tec s) := by
  unfold execCanBusoff
  repeat' first
    | with_reducible assumption
    | with_reducible exact fun _ => rfl
    | with_reducible exact fun _ _ => rfl
    | with_reducible exact fun _ => ⟨id, id⟩
    | (rename_i hq; have hq2 := congrArg Prod.snd hq; with_reducible dsimp only at hq2; subst hq2)
    | simp only [↓keeps_mk_iff]
    | with_reducible refine keeps_ite ?_ ?_
    | with_reducible refine outKeeps_ite ?_ ?_
    | with_reducible refine outKeeps_next.2 ?_
    | with_reducible refine keeps_ite2 ?_ ?_
    | with_reducible refine keeps_foldl ?_ (fun _ _ _ => ?_)
    | with_reducible apply record_keeps | with_reducible apply setCan_keeps
    | split
    | dsimp only

theorem execCanBusoffRecovery_keeps {t₀ : State} (dt : Nat) (channel : Fin 2) (s : State) (h₀ : Keeps t₀ s) :
    OutKeeps t₀ (execCanBusoffRecovery dt channel s) := by
  unfold execCanBusoffRecovery
  repeat' first
    | with_reducible assumption
    | with_reducible exact fun _ => rfl
    | with_reducible exact fun _ _ => rfl
    | with_reducible exact fun _ => ⟨id, id⟩
    | (rename_i hq; have hq2 := congrArg Prod.snd hq; with_reducible dsimp only at hq2; subst hq2)
    | simp only [↓keeps_mk_iff]
    | with_reducible refine keeps_ite ?_ ?_
    | with_reducible refine outKeeps_ite ?_ ?_
    | with_reducible refine outKeeps_next.2 ?_
    | with_reducible refine keeps_ite2 ?_ ?_
    | with_reducible refine keeps_foldl ?_ (fun _ _ _ => ?_)
    | with_reducible apply advance_keeps | with_reducible apply setCan_keeps
    | split
    | dsimp only

theorem nmtTake_keeps {t₀ : State} (ch : Fin 2) (cmd : NmtCmd) (s : State) (h₀ : Keeps t₀ s) :
    Keeps t₀ (nmtTake ch cmd s) := by
  unfold nmtTake
  repeat' first
    | with_reducible assumption
    | with_reducible exact fun _ => rfl
    | with_reducible exact fun _ _ => rfl
    | with_reducible exact fun _ => ⟨id, id⟩
    | (rename_i hq; have hq2 := congrArg Prod.snd hq; with_reducible dsimp only at hq2; subst hq2)
    | simp only [↓keeps_mk_iff]
    | with_reducible refine keeps_ite ?_ ?_
    | with_reducible refine outKeeps_ite ?_ ?_
    | with_reducible refine outKeeps_next.2 ?_
    | with_reducible refine keeps_ite2 ?_ ?_
    | with_reducible refine keeps_foldl ?_ (fun _ _ _ => ?_)
    | with_reducible apply setCan_keeps | with_reducible apply closeSession_keeps
    | split
    | dsimp only

theorem execNmtCommand_keeps {t₀ : State} (channel : Fin 2) (node : BitVec 7) (cmd : NmtCmd) (s : State) (h₀ : Keeps t₀ s) :
    OutKeeps t₀ (execNmtCommand channel node cmd s) := by
  unfold execNmtCommand
  repeat' first
    | with_reducible assumption
    | with_reducible exact fun _ => rfl
    | with_reducible exact fun _ _ => rfl
    | with_reducible exact fun _ => ⟨id, id⟩
    | (rename_i hq; have hq2 := congrArg Prod.snd hq; with_reducible dsimp only at hq2; subst hq2)
    | simp only [↓keeps_mk_iff]
    | with_reducible refine keeps_ite ?_ ?_
    | with_reducible refine outKeeps_ite ?_ ?_
    | with_reducible refine outKeeps_next.2 ?_
    | with_reducible refine keeps_ite2 ?_ ?_
    | with_reducible refine keeps_foldl ?_ (fun _ _ _ => ?_)
    | with_reducible apply nmtTake_keeps
    | split
    | dsimp only

theorem execCanProducerHeartbeat_keeps {t₀ : State} (dt : Nat) (channel : Fin 2) (s : State) (h₀ : Keeps t₀ s) :
    OutKeeps t₀ (execCanProducerHeartbeat dt channel s) := by
  unfold execCanProducerHeartbeat
  repeat' first
    | with_reducible assumption
    | with_reducible exact fun _ => rfl
    | with_reducible exact fun _ _ => rfl
    | with_reducible exact fun _ => ⟨id, id⟩
    | (rename_i hq; have hq2 := congrArg Prod.snd hq; with_reducible dsimp only at hq2; subst hq2)
    | simp only [↓keeps_mk_iff]
    | with_reducible refine keeps_ite ?_ ?_
    | with_reducible refine outKeeps_ite ?_ ?_
    | with_reducible refine outKeeps_next.2 ?_
    | with_reducible refine keeps_ite2 ?_ ?_
    | with_reducible refine keeps_foldl ?_ (fun _ _ _ => ?_)
    | with_reducible apply advance_keeps | with_reducible apply setCan_keeps
    | split
    | dsimp only

theorem execCanHbLost_keeps {t₀ : State} (dt : Nat) (consumer : Fin 4) (s : State) (h₀ : Keeps t₀ s) :
    OutKeeps t₀ (execCanHbLost dt consumer s) := by
  unfold execCanHbLost
  repeat' first
    | with_reducible assumption
    | with_reducible exact fun _ => rfl
    | with_reducible exact fun _ _ => rfl
    | with_reducible exact fun _ => ⟨id, id⟩
    | (rename_i hq; have hq2 := congrArg Prod.snd hq; with_reducible dsimp only at hq2; subst hq2)
    | simp only [↓keeps_mk_iff]
    | with_reducible refine keeps_ite ?_ ?_
    | with_reducible refine outKeeps_ite ?_ ?_
    | with_reducible refine outKeeps_next.2 ?_
    | with_reducible refine keeps_ite2 ?_ ?_
    | with_reducible refine keeps_foldl ?_ (fun _ _ _ => ?_)
    | with_reducible apply advance_keeps | with_reducible apply record_keeps
    | split
    | dsimp only

theorem execCanHeartbeatReceived_keeps {t₀ : State} (channel : Fin 2) (node : BitVec 7) (s : State) (h₀ : Keeps t₀ s) :
    OutKeeps t₀ (execCanHeartbeatReceived channel node s) := by
  unfold execCanHeartbeatReceived
  repeat' first
    | with_reducible assumption
    | with_reducible exact fun _ => rfl
    | with_reducible exact fun _ _ => rfl
    | with_reducible exact fun _ => ⟨id, id⟩
    | (rename_i hq; have hq2 := congrArg Prod.snd hq; with_reducible dsimp only at hq2; subst hq2)
    | simp only [↓keeps_mk_iff]
    | with_reducible refine keeps_ite ?_ ?_
    | with_reducible refine outKeeps_ite ?_ ?_
    | with_reducible refine outKeeps_next.2 ?_
    | with_reducible refine keeps_ite2 ?_ ?_
    | with_reducible refine keeps_foldl ?_ (fun _ _ _ => ?_)
    | split
    | dsimp only

theorem setRec_keeps {t₀ : State} (f : Recorder → Recorder) (s : State)
    (hf : ∀ r, (Memory.wf r.mram = true → Memory.wf (f r).mram = true) ∧ (r.fifo.length ≤ 64 → (f r).fifo.length ≤ 64))
    (h₀ : Keeps t₀ s) : Keeps t₀ (setRec f s) := by
  unfold setRec
  exact keeps_recd (hf _).1 (hf _).2 h₀

theorem execEventSubmit_keeps {t₀ : State} (src : Fin 16) (code : BitVec 16) (p0 p1 p2 : BitVec 32)
    (s : State) (h₀ : Keeps t₀ s) : OutKeeps t₀ (execEventSubmit src code p0 p1 p2 s) := by
  unfold execEventSubmit
  dsimp only
  refine outKeeps_ite h₀ (outKeeps_ite (outKeeps_next.2 ?_) (record_keeps _ _ _ _ _ _ h₀))
  unfold setRec
  refine keeps_recd (fun x => ?_) (fun x => ?_) h₀
  · dsimp only; rw [(submitEvent_keeps _ _ _ _ _ _ _).1]; exact x
  · exact (submitEvent_keeps _ _ _ _ _ _ _).2 x

theorem settled_keeps (r : Recorder) : (Memory.wf r.mram = true → Memory.wf (settled r).mram = true) ∧
    (settled r).fifo = r.fifo := by
  unfold settled
  split
  · exact rewriteHead_keeps r
  · exact ⟨id, rfl⟩

theorem nextEntry_keeps {r u : Recorder} {e : RecEntry} (h : nextEntry r = some (e, u)) :
    u.mram = r.mram ∧ u.fifo.length ≤ r.fifo.length := by
  unfold nextEntry at h
  split at h
  · simp only [Option.some.injEq, Prod.mk.injEq] at h; rw [← h.2]; simp
  · split at h
    · cases h
    · rename_i e' rest hr
      simp only [Option.some.injEq, Prod.mk.injEq] at h
      have k := fifoLost_keeps { r with fifo := rest }
      rw [← h.2, hr]
      exact ⟨k.1, by simpa using k.2⟩

theorem execRecordWrite_keeps {t₀ : State} (dt : Nat) (cut : WriteCut) (s : State) (h₀ : Keeps t₀ s) :
    OutKeeps t₀ (execRecordWrite dt cut s) := by
  unfold execRecordWrite
  dsimp only
  have h1 := advance_keeps dt s h₀
  refine outKeeps_ite h1 ?_
  split
  · exact h1
  · rename_i e r hr
    have k := nextEntry_keeps hr
    have k2 := settled_keeps (advance dt s).recd
    rw [k2.2] at k
    split
    · refine keeps_recd (re := writeRecord r e) (fun x => (writeRecord_keeps r e).1 ?_) (fun x => ?_) h1
      · rw [k.1]; exact k2.1 x
      · rw [(writeRecord_keeps r e).2]; omega
    · refine toCold_keeps _ _ _ (keeps_recd (fun x => ?_) (fun x => ?_) h1)
      · unfold tornSlot
        dsimp only
        refine Memory.wf_memWrite _ _ ?_
        rw [k.1]; exact k2.1 x
      · exact le_trans k.2 x
    · refine toCold_keeps _ _ _ (keeps_recd (re := writeSlot r e) (fun x => ?_) (fun x => ?_) h1)
      · refine writeSlot_wf _ _ ?_
        rw [k.1]; exact k2.1 x
      · have hw : (writeSlot r e).fifo = r.fifo := by unfold writeSlot; rfl
        rw [hw]; exact le_trans k.2 x

theorem execHeadRewrite_keeps {t₀ : State} (dt : Nat) (cut : WriteCut) (s : State) (h₀ : Keeps t₀ s) :
    OutKeeps t₀ (execHeadRewrite dt cut s) := by
  unfold execHeadRewrite
  dsimp only
  have h1 := advance_keeps dt s h₀
  have k := rewriteHead_keeps (advance dt s).recd
  refine outKeeps_ite h1 ?_
  split
  · refine keeps_recd k.1 (fun x => ?_) h1
    rw [k.2]; exact x
  · refine toCold_keeps _ _ _ (keeps_recd (fun x => ?_) (fun x => ?_) h1)
    · unfold tornSlot
      dsimp only
      exact Memory.wf_memWrite _ _ (k.1 x)
    · unfold tornSlot
      dsimp only
      rw [k.2]; exact x
  · exact toCold_keeps _ _ _ (keeps_recd id id h1)

theorem execOptimeSave_keeps {t₀ : State} (dt : Nat) (s : State) (h₀ : Keeps t₀ s) :
    OutKeeps t₀ (execOptimeSave dt s) := by
  unfold execOptimeSave
  repeat' first
    | with_reducible assumption
    | with_reducible exact fun _ => rfl
    | with_reducible exact fun _ _ => rfl
    | with_reducible exact fun _ => ⟨id, id⟩
    | (rename_i hq; have hq2 := congrArg Prod.snd hq; with_reducible dsimp only at hq2; subst hq2)
    | simp only [↓keeps_mk_iff]
    | with_reducible refine keeps_ite ?_ ?_
    | with_reducible refine outKeeps_ite ?_ ?_
    | with_reducible refine outKeeps_next.2 ?_
    | with_reducible refine keeps_ite2 ?_ ?_
    | with_reducible refine keeps_foldl ?_ (fun _ _ _ => ?_)
    | with_reducible apply advance_keeps | with_reducible apply setRec_keeps
    | split
    | dsimp only

theorem refill_keeps (code : Nat) (r : Recorder) : (refill code r).mram = r.mram ∧ (refill code r).fifo = r.fifo := by
  unfold refill
  split <;> exact ⟨rfl, rfl⟩

theorem execTokenRefill_keeps {t₀ : State} (dt : Nat) (code : BitVec 16) (s : State) (h₀ : Keeps t₀ s) :
    OutKeeps t₀ (execTokenRefill dt code s) := by
  unfold execTokenRefill
  dsimp only
  have h1 := advance_keeps dt s h₀
  refine outKeeps_ite h1 (outKeeps_next.2 (setRec_keeps _ _ (fun r => ?_) h1))
  rw [(refill_keeps _ r).1, (refill_keeps _ r).2]
  exact ⟨id, id⟩

theorem execBandwidthWindowEnd_keeps {t₀ : State} (dt : Nat) (s : State) (h₀ : Keeps t₀ s) :
    OutKeeps t₀ (execBandwidthWindowEnd dt s) := by
  unfold execBandwidthWindowEnd
  repeat' first
    | with_reducible assumption
    | with_reducible exact fun _ => rfl
    | with_reducible exact fun _ _ => rfl
    | with_reducible exact fun _ => ⟨id, id⟩
    | (rename_i hq; have hq2 := congrArg Prod.snd hq; with_reducible dsimp only at hq2; subst hq2)
    | simp only [↓keeps_mk_iff]
    | with_reducible refine keeps_ite ?_ ?_
    | with_reducible refine outKeeps_ite ?_ ?_
    | with_reducible refine outKeeps_next.2 ?_
    | with_reducible refine keeps_ite2 ?_ ?_
    | with_reducible refine keeps_foldl ?_ (fun _ _ _ => ?_)
    | with_reducible apply advance_keeps
    | split
    | dsimp only

theorem dumpEntry_keeps {t₀ : State} (d : Fin 4 → Option (Nat × List Byte)) (i : Nat) (s : State) (h₀ : Keeps t₀ s) :
    Keeps t₀ (dumpEntry d i s) := by
  unfold dumpEntry
  repeat' first
    | with_reducible assumption
    | with_reducible exact fun _ => rfl
    | with_reducible exact fun _ _ => rfl
    | with_reducible exact fun _ => ⟨id, id⟩
    | (rename_i hq; have hq2 := congrArg Prod.snd hq; with_reducible dsimp only at hq2; subst hq2)
    | simp only [↓keeps_mk_iff]
    | with_reducible refine keeps_ite ?_ ?_
    | with_reducible refine outKeeps_ite ?_ ?_
    | with_reducible refine outKeeps_next.2 ?_
    | with_reducible refine keeps_ite2 ?_ ?_
    | with_reducible refine keeps_foldl ?_ (fun _ _ _ => ?_)
    | with_reducible apply applyEntry_keeps | with_reducible apply mirrorDisagree_keeps | with_reducible apply mirrorPush_keeps
    | split
    | dsimp only

theorem dumpLanes_keeps {t₀ : State} (flags : Nat) (s : State) (h₀ : Keeps t₀ s) :
    Keeps t₀ (dumpLanes flags s) := by
  unfold dumpLanes
  repeat' first
    | with_reducible assumption
    | with_reducible exact fun _ => rfl
    | with_reducible exact fun _ _ => rfl
    | with_reducible exact fun _ => ⟨id, id⟩
    | (rename_i hq; have hq2 := congrArg Prod.snd hq; with_reducible dsimp only at hq2; subst hq2)
    | simp only [↓keeps_mk_iff]
    | with_reducible refine keeps_ite ?_ ?_
    | with_reducible refine outKeeps_ite ?_ ?_
    | with_reducible refine outKeeps_next.2 ?_
    | with_reducible refine keeps_ite2 ?_ ?_
    | with_reducible refine keeps_foldl ?_ (fun _ _ _ => ?_)
    | with_reducible apply dumpEntry_keeps | with_reducible apply mapCores_keeps
    | split
    | dsimp only

theorem execGapDump_keeps {t₀ : State} (dt : Nat) (s : State) (h₀ : Keeps t₀ s) :
    OutKeeps t₀ (execGapDump dt s) := by
  unfold execGapDump
  repeat' first
    | with_reducible assumption
    | with_reducible exact fun _ => rfl
    | with_reducible exact fun _ _ => rfl
    | with_reducible exact fun _ => ⟨id, id⟩
    | (rename_i hq; have hq2 := congrArg Prod.snd hq; with_reducible dsimp only at hq2; subst hq2)
    | simp only [↓keeps_mk_iff]
    | with_reducible refine keeps_ite ?_ ?_
    | with_reducible refine outKeeps_ite ?_ ?_
    | with_reducible refine outKeeps_next.2 ?_
    | with_reducible refine keeps_ite2 ?_ ?_
    | with_reducible refine keeps_foldl ?_ (fun _ _ _ => ?_)
    | with_reducible apply advance_keeps | with_reducible apply dumpLanes_keeps
    | split
    | dsimp only

theorem execPeriodicDump_keeps {t₀ : State} (dt : Nat) (s : State) (h₀ : Keeps t₀ s) :
    OutKeeps t₀ (execPeriodicDump dt s) := by
  unfold execPeriodicDump
  repeat' first
    | with_reducible assumption
    | with_reducible exact fun _ => rfl
    | with_reducible exact fun _ _ => rfl
    | with_reducible exact fun _ => ⟨id, id⟩
    | (rename_i hq; have hq2 := congrArg Prod.snd hq; with_reducible dsimp only at hq2; subst hq2)
    | simp only [↓keeps_mk_iff]
    | with_reducible refine keeps_ite ?_ ?_
    | with_reducible refine outKeeps_ite ?_ ?_
    | with_reducible refine outKeeps_next.2 ?_
    | with_reducible refine keeps_ite2 ?_ ?_
    | with_reducible refine keeps_foldl ?_ (fun _ _ _ => ?_)
    | with_reducible apply advance_keeps | with_reducible apply dumpLanes_keeps
    | split
    | dsimp only

end Sys2Proof.Machine
end

