-- ==== Sys2Proof/Laws/Lanes.lean ====
section
/-! SUPPORT. Lanes leaving the vote, and the shared operations of the output channels. -/

set_option linter.all false

namespace Sys2Proof.Machine

open Sys2Proof

theorem ite_any {α : Type} {c : Prop} {_ : Decidable c} {a b : α} {P : α → Prop} (ha : P a) (hb : P b) :
    P (if c then a else b) := by split <;> assumption

theorem toQ_facts (l : Fin 4) (c : Nat) (s : State) :
    (toQuarantine l c s).vrc.mode = s.vrc.mode ∧ (toQuarantine l c s).vrc.exCause = s.vrc.exCause ∧
    (toQuarantine l c s).vrc.exLane = s.vrc.exLane ∧ (toQuarantine l c s).vrc.exNoMaj = s.vrc.exNoMaj ∧
    (toQuarantine l c s).vrc.xcount = s.vrc.xcount ∧ (Asserted 32 s.ints → Asserted 32 (toQuarantine l c s).ints) ∧
    (laneState (toQuarantine l c s) l = .quarantine ∨ laneState (toQuarantine l c s) l = .retired) ∧
    ((toQuarantine l c s).vrc.lanes[l]).fenced = true ∧ ((toQuarantine l c s).vrc.lanes[l]).gate = none ∧
    ∀ j, j ≠ l → laneState (toQuarantine l c s) j = laneState s j := by
  unfold toQuarantine
  dsimp only
  refine ite_any (P := fun u : State => u.vrc.mode = s.vrc.mode ∧ u.vrc.exCause = s.vrc.exCause ∧
    u.vrc.exLane = s.vrc.exLane ∧ u.vrc.exNoMaj = s.vrc.exNoMaj ∧
    u.vrc.xcount = s.vrc.xcount ∧ (Asserted 32 s.ints → Asserted 32 u.ints) ∧
    (laneState u l = .quarantine ∨ laneState u l = .retired) ∧
    (u.vrc.lanes[l]).fenced = true ∧ (u.vrc.lanes[l]).gate = none ∧
    ∀ j, j ≠ l → laneState u j = laneState s j) ?_ ?_
  · simp [setLane, laneState, retire]
    refine ⟨fun h => raise_asserted_of _ _ _ (by simpa using h), ?_⟩
    intro j hj; simp [hj]
  · simp [setLane, laneState]
    intro j hj; simp [hj]
theorem setModState_cause (c : Nat) (s : State) (h : s.mod.state ≠ .safeHold) : (setModState .safeHold c s).mod.cause = c := by
  unfold setModState
  rw [if_neg h, record_mod]
  rfl

theorem setVote_asserted (n : Nat) (m : VoteMode) (b : Bool) (c : Nat) (s : State) (h : Asserted n s.ints) :
    Asserted n (setVote m b c s).ints := by
  unfold setVote
  split
  · exact h
  · exact raise_asserted_of _ _ _ (by simpa using h)

theorem setModState_ints' (m : ModState) (c : Nat) (s : State) : (setModState m c s).ints = s.ints := by simp

theorem beatDiff_self (b : Beat) : beatDiff b b = 0 := by
  unfold beatDiff
  simp only [ne_eq, not_true, decide_false]
  rfl
theorem foldl_beats (ls : List (Fin 4)) (i : Fin 4 → LaneInput) (s : State) (h : ∀ l ∈ ls, ∃ b, i l = .beat b) :
    ls.foldl (fun t l => noteSilence l (i l) t) s = s := by
  induction ls with
  | nil => rfl
  | cons a ls ih =>
    rw [List.foldl_cons]
    obtain ⟨b, hb⟩ := h a (List.mem_cons_self ..)
    rw [hb]
    exact ih (fun l hl => h l (List.mem_cons_of_mem _ hl))

theorem bankInt_ok (b : Fin 3) (k : Nat) (h : k < 32) : 32 ≤ bankInt b + k ∧ bankInt b + k ≤ 319 := by
  unfold bankInt; have := b.isLt; omega
@[simp] theorem setChan_at (ch : Fin 48) (f : Channel → Channel) (s : State) : (setChan ch f s).chans[ch.val] = f s.chans[ch.val] := by
  simp [setChan]
@[simp] theorem setChan_ne (ch j : Fin 48) (f : Channel → Channel) (s : State) (h : j ≠ ch) : (setChan ch f s).chans[j.val] = s.chans[j.val] := by
  simp [setChan, h]
@[simp] theorem raise_bank (b : Fin 3) (k : Nat) (s : State) (h : k < 32) : Asserted (bankInt b + k) (raise (bankInt b + k) s).ints :=
  raise_asserted _ _ (bankInt_ok b k h)
theorem flushQueue_at (ch : Fin 48) (r : Nat) (s : State) :
    (flushQueue ch r s).chans[ch.val] = { s.chans[ch.val] with queue := [], darkDue := if s.chans[ch.val].queue = [] then s.chans[ch.val].darkDue else false } := by
  unfold flushQueue
  by_cases h : s.chans[ch.val].queue = []
  · have : ∀ c : Channel, c.queue = [] → c = { c with queue := [], darkDue := c.darkDue } := by
      intro c hc; cases c; simp_all
    simp only [h, Fin.getElem_fin, List.length_nil, if_true]
    exact this _ h
  · simp [h, List.length_eq_zero_iff]
theorem flushQueue_ne (ch j : Fin 48) (r : Nat) (s : State) (h : j ≠ ch) : (flushQueue ch r s).chans[j.val] = s.chans[j.val] := by
  unfold flushQueue
  dsimp only
  split <;> simp [h]
@[simp] theorem abortPulse_state (c : Channel) : c.abortPulse.state = c.state ∧ c.abortPulse.kind = c.kind ∧ c.abortPulse.queue = c.queue ∧
   c.abortPulse.agree = c.agree ∧ c.abortPulse.watched = c.watched := by
  unfold Channel.abortPulse; split <;> simp
theorem applySafe_at (ch : Fin 48) (r : Nat) (n : ChanState) (s : State) :
    (applySafe ch r n s).chans[ch.val].state = n ∧ (applySafe ch r n s).chans[ch.val].queue = [] ∧
    (applySafe ch r n s).chans[ch.val].watched = false ∧ (applySafe ch r n s).chans[ch.val].agree = s.chans[ch.val].agree ∧
    (applySafe ch r n s).chans[ch.val].kind = s.chans[ch.val].kind := by
  unfold applySafe
  simp only [setChan_at, flushQueue_at, Fin.getElem_fin]
  generalize (if s.chans[ch.val].safeSt = 1 then true else if s.chans[ch.val].safeSt = 2 then s.chans[ch.val].cmd else false) = v
  refine ⟨trivial, trivial, trivial, ?_, ?_⟩
  · split
    · rfl
    · simp [setCmd]
  · split
    · rfl
    · simp [setCmd]
theorem applySafe_ne (ch j : Fin 48) (r : Nat) (n : ChanState) (s : State) (h : j ≠ ch) :
    (applySafe ch r n s).chans[j.val] = s.chans[j.val] := by
  unfold applySafe
  simp only [setChan_ne _ _ _ _ h, flushQueue_ne _ _ _ _ h, Fin.getElem_fin]
  generalize (if s.chans[ch.val].safeSt = 1 then true else if s.chans[ch.val].safeSt = 2 then s.chans[ch.val].cmd else false) = v
  split
  · rfl
  · simp [setCmd, h]

end Sys2Proof.Machine
end

