-- ==== Sys2Proof/WellFormed.lean ====
section
/-! DEFINITION. Which commands a sender can form: lengths and numbers that the frames and registers of the spec can
carry. exec is total, and gives a command outside these bounds a meaning too. -/

namespace Sys2Proof

/-- Pages of the written-page map: 65,536 of lane DRAM, then 32 of lane SRAM (R87). -/
def pageCount : Nat := 65568

/-- A vote names pages that exist. -/
def voteWf : PageVote → Bool
  | .agree => true
  | .minority _ p => decide (p < pageCount)
  | .none p => decide (p < pageCount)

/-- A torn slot holds 32 octets (R409). -/
def cutWf : WriteCut → Bool
  | .slotTorn left => decide (left.length = 32)
  | .complete | .secondLost => true

/-- A GDP session number the module gives (R352, R354). -/
def headWf (h : GdpHead) : Bool := decide (1 ≤ h.session.toNat) && decide (h.session.toNat ≤ 4)

/-- A GDP datagram carries at most 1,024 octets of DATA (R352). -/
def blockWf (b : BlockIn) : Bool := decide (b.data.length ≤ 1024)

/-- A Xenex station address (R276). -/
def stationWf (a : BitVec 6) : Bool := decide (1 ≤ a.toNat) && decide (a.toNat ≤ 62)

/-- A node's session carries a station address. -/
def sessionWf : Session → Bool
  | .node a => stationWf a
  | .gdp _ | .can _ => true

/-- Data lengths of CAN FD frames (R355). -/
def canLength (n : Nat) : Bool := decide (n ≤ 8) || decide (n ∈ [12, 16, 20, 24, 32, 48, 64])

/-- A frame copy: header, at most 240 octets of payload, FCS (R275, R276). -/
def copyWf : Option (List (BitVec 8)) → Bool
  | some f => decide (9 ≤ f.length) && decide (f.length ≤ 249)
  | none => true

/-- An Ethernet frame reaches at least to the end of its EtherType. -/
def ethWf (f : List (BitVec 8)) : Bool := decide (14 ≤ f.length)

/-- The lengths of a state record (R91): core state, 16 timers, 16 counters. -/
def recordWf (r : StateRec) : Bool :=
  decide (r.core.length = 2048) && decide (r.timers.length = 16) && decide (r.counts.length = 16)

/-- Well-formedness, command by command. -/
def Instr.wf (i : Instr) : Bool :=
  match i with
  | .catchUpCopyDone _ vote => voteWf vote
  | .checksumRoundDone _ vote differ => voteWf vote && differ.all (fun p => decide (p < pageCount))
  | .registerWrite _ addr _ => decide (addr.toNat % 4 = 0)
  | .slotStart _ slot _ => decide (slot < 1024)
  | .xenexFrameReceived _ a b _ => copyWf a && copyWf b
  | .slotComplete _ slot => decide (slot < 1024)
  | .cycleStartReceived _ src _ => stationWf src
  | .claimReceived src tx rx => stationWf src && decide (tx.toNat ≤ 240) && decide (rx.toNat ≤ 240)
  | .acycRespReceived node msg => stationWf node && decide (msg.data.length ≤ 112)
  | .twinRxframe _ _ _ _ frame => ethWf frame.octets
  | .twinFwdFrame _ entries => entries.all (fun e => decide (e.kind.toNat ≤ 1))
  | .twinStaterecFrame _ _ rcd => recordWf rcd
  | .switchFrameReceived _ _ frame => ethWf frame.octets
  | .internalPortReceive _ _ frame => ethWf frame.octets
  | .prpFrameReceived _ _ frame => ethWf frame.octets
  | .gdpRead head _ _ _ => headWf head
  | .gdpWrite head _ _ block => headWf head && blockWf block
  | .gdpOpen head _ => decide (head.session = 0)
  | .gdpClose head => headWf head
  | .safetyWrite by_ _ _ _ => sessionWf by_
  | .safetyValueFromActive _ _ _ value => decide (1 ≤ value.length) && decide (value.length ≤ 16)
  | .fwBlock by_ block => sessionWf by_ && blockWf block
  | .appImageBlock by_ block => sessionWf by_ && blockWf block
  | .scheduleTableBlock by_ block => sessionWf by_ && blockWf block
  | .eventSubmit src _ _ _ _ => decide (src.val < 12) || decide (src.val = 15)
  | .recordWrite _ cut => cutWf cut
  | .headRewrite _ cut => cutWf cut
  | .rpdoReceived _ _ _ data => canLength data.length
  | .stateCmdEnterMaintenance by_ => sessionWf by_
  | .stateCmdLeaveMaintenance by_ => sessionWf by_
  | .stateCmdEnterBanked by_ => sessionWf by_
  | .stateCmdModuleReset by_ => sessionWf by_
  | .warmRestart by_ => sessionWf by_
  | .lane1oo1Select by_ .. => sessionWf by_
  | .lane1oo1Release by_ => sessionWf by_
  | .wideModeWrite by_ .. => sessionWf by_
  | .imageStage by_ .. => sessionWf by_
  | .imageDiscard by_ => sessionWf by_
  | .olcSwitchRequest by_ => sessionWf by_
  | .gatewayRead by_ => sessionWf by_
  | .gatewayWrite by_ .. => sessionWf by_
  | .keyxChallenge by_ => sessionWf by_
  | .keyxResponse by_ .. => sessionWf by_
  | .maintenanceKeyWrite by_ .. => sessionWf by_
  | .debugHalt by_ => sessionWf by_
  | .debugRun by_ => sessionWf by_
  | .debugStep by_ => sessionWf by_
  | .debugRegisterAccess by_ .. => sessionWf by_
  | .debugMemoryAccess by_ .. => sessionWf by_
  | .fwActivate by_ => sessionWf by_
  | .fwRevert by_ => sessionWf by_
  | .fwCancelTransfer by_ => sessionWf by_
  | .fwCancelActivation by_ => sessionWf by_
  | .recorderRead by_ => sessionWf by_
  | .powerOnResetRelease .. | .startWindowEnd .. | .bootBankChoice .. | .kilnFirmwareStart ..
  | .laneStartupTestsDone .. | .processorSectionLoaded .. | .startupInjectionSet .. | .laneImageLoaded ..
  | .safetySetCheck | .firingEnd .. | .trialTimeout | .fwConfirmed .. | .maintenanceAtBoundary ..
  | .bankedPowerStateReached .. | .kilnWatchdogReset | .powerFailWarning .. | .powerFail ..
  | .supplyReturn .. | .holdupExhausted | .brownOutReset .. | .domainFault .. | .bankedWake ..
  | .moduleWithdrawn | .tempMeasurement .. | .laneBeat .. | .lockstepMismatch .. | .laneMemUe ..
  | .fabricResponse .. | .quarantineTestsDone .. | .rotationTimerExpiry .. | .bisqueOverdue ..
  | .quietGapStart .. | .rewedge .. | .bisqueSwap .. | .substituted .. | .bisqueStepComplete ..
  | .bisqueStepOverrun .. | .wedgingStart | .zeroFillDone .. | .mirrorEntry | .mirrorHoldRelease ..
  | .oprAlu .. | .oprwWordOp .. | .multiply .. | .divide .. | .bitop .. | .aluImmediate ..
  | .shiftImmediate .. | .lui .. | .insh .. | .lapc .. | .load .. | .store .. | .ldx .. | .stx ..
  | .fpOperation .. | .fma .. | .branch .. | .jJl .. | .jlr .. | .cwr .. | .cww .. | .cws .. | .cwc ..
  | .fence .. | .fenceI .. | .eret .. | .wfi .. | .breakInstr .. | .cacheInvalidate .. | .syscall ..
  | .impreciseBuserr .. | .combiningBufferTimeout .. | .interruptSourceAssert .. | .interruptEntry ..
  | .licEoiWrite .. | .licSwsetWrite .. | .tick .. | .latchEnd .. | .gapWarn .. | .gapStart ..
  | .cysQuietWrite .. | .cysDoneWrite .. | .commitEnd .. | .postingEnd .. | .coneOverrun .. | .coneStall ..
  | .taskReturn | .syscallEvent | .syscallNettime | .syscallNocommit | .syscallFaultclr | .ltmTimerStart ..
  | .ltmTimerExpiry .. | .olcSwitch .. | .olcTimeout .. | .refLost .. | .sourceValid .. | .rampStep ..
  | .monTrip .. | .clockEnableApply .. | .fmStart .. | .fmDone .. | .ctuTimensRead .. | .ctuFrclRead ..
  | .ctuBerrlRead .. | .cysTicklRead .. | .ltmElaplRead .. | .ctuAdjStep .. | .ctuAdjSlew .. | .slewDone ..
  | .ctuRateWrite .. | .ebThresholdCrossed .. | .announceReceived .. | .syncReceived ..
  | .followUpReceived .. | .syncTimeout .. | .syncIntervalExpiry .. | .pdelayReqInterval ..
  | .pdelayReqReceived .. | .pdelayRespReceived .. | .tcForward .. | .bankSyncFrameSend ..
  | .bankSyncPulse .. | .fbxOutWrite .. | .fbxFltclrWrite .. | .fbxEvt0Read .. | .filteredStateChange ..
  | .discrepancyTimeout .. | .comparatorInversion .. | .switchSenseFault .. | .gateSetDisagree ..
  | .readbackFault .. | .darkTestStart .. | .darkPulseEnd .. | .overload .. | .bankOverload ..
  | .bankTimeout .. | .syncLost .. | .supplyState .. | .glazePost .. | .glazeLaunch .. | .macrocycleStart ..
  | .xenexSilenceTimeout .. | .contendDelayEnd .. | .coldstartEnd .. | .xnCollision .. | .xnbTakeover
  | .xnbRelease | .acycTimeout .. | .heartbeatStrobe .. | .heartbeatReceived .. | .heartbeatMiss ..
  | .twinFaultReceived .. | .takeoverGateRelease .. | .twinRequestedReset .. | .twinInputFrame ..
  | .twinTimeFrame .. | .twinCheckFrame .. | .twinHealthFrame .. | .twinCraze .. | .twinCmdRevertReq ..
  | .twinCmdHandover .. | .twinCmdHandoverAck .. | .handoverHoldChange .. | .twinCmdOlcSwitch ..
  | .twinCmdIntegStart .. | .twinLatencyDone .. | .twinPageFrame .. | .twinCopyDone .. | .twinChecksumDone ..
  | .twinCmdJoin .. | .twinIntegRetry .. | .twinPeerIntegratingTimeout .. | .twinPeerSilentTimeout ..
  | .revertHoldExpiry .. | .twinFwdHoldRelease .. | .receiveSlotWrite .. | .lncTxSeqWrite .. | .linkChange ..
  | .prpSupervisionInterval .. | .prpLanFail .. | .gdpWake .. | .gdpSessionIdleTimeout ..
  | .keyxLockoutEnd .. | .usdoTransfer .. | .usdoTimeout .. | .klmVerdict7Write .. | .safetyReserve ..
  | .safetyCommit .. | .safetyTimeout .. | .debugBreakpointHit .. | .transferAbandonTimeout ..
  | .flashSectorErased .. | .recEv3Write .. | .optimeSave .. | .tokenRefill .. | .postedWriteComplete ..
  | .brgPwerr .. | .farSideReadResponse .. | .farSideReadTimeout .. | .brgTagFree .. | .brgSemExpired ..
  | .prefetchExpiry .. | .brgErr0Read .. | .brgSyncRead .. | .brgRegionWrite .. | .brgIntstatClear ..
  | .forwardedInterruptEdge .. | .cfdTpdotrigWrite .. | .tpdoEventTimer .. | .canBusoff ..
  | .canBusoffRecovery .. | .nmtCommand .. | .canProducerHeartbeat .. | .canHbLost .. | .counterOverflow ..
  | .lpcCntnlRead .. | .lpcCntnlWrite .. | .bandwidthWindowEnd .. | .gapDump .. | .periodicDump ..
  | .illegalInstruction .. | .fetchFault .. | .sourceInvalid .. | .emberfailClear ..
  | .announceReceiptTimeout .. | .readbackAgrees .. | .carrierDetected | .timeFrameInterval ..
  | .healthFrameInterval .. | .crazeFlagClear .. | .twpPulseError | .standbyImageStage ..
  | .macAddressAgeing .. | .canHeartbeatReceived .. => true

end Sys2Proof
end

