-- ==== Sys2Proof/Tests/Slice0.lean ====
section
/-! SUPPORT. Tests: commands that are not well-formed, values worked out in the examples of the spec, and for each
statement of Obligations.lean with hypotheses a state and operands that meet them, clause by clause. -/

namespace Sys2Proof.Tests

open Sys2Proof.Machine

set_option maxRecDepth 100000
set_option Elab.async false

/-! ### States -/

/-- A lane in a state of the rotation, on a gate set. -/
def laneAs (x : LaneState) (g : Option (Fin 3)) : Lane :=
  { state := x, gate := g, held := false, usable := true, fenced := g.isNone }

/-- A module in RUN-2oo3: lanes 0, 1 and 2 ACTIVE, lane 3 SPARE, all domains and clocks on. -/
def runS : State :=
  { mod := { state := .run2oo3, start := { clocksUp := true, booted := true, kilnUp := true } }
    pwr := { on := 0xFFF }
    vrc := { mode := .oo3
             lanes := #v[laneAs .active (some 0), laneAs .active (some 1), laneAs .active (some 2), laneAs .spare none] }
    clk := { state := .locked, ref := 2, valid := 4, startWin := false, lock := true, clken0 := 0x7F, clken1 := 0xF }
    rot := { en := true } }

/-- The same with lane 2 in QUARANTINE and two lanes in the vote. -/
def twoS : State :=
  { runS with
    mod := { runS.mod with state := .run2oo2 }
    vrc := { runS.vrc with
             mode := .oo2
             lanes := #v[laneAs .active (some 0), laneAs .active (some 1), laneAs .quarantine none, laneAs .spare none] } }

/-- Lane 3 joins: a rewedge in progress, for a swap with lane 0 or a substitution. -/
def joinS (out : Option (Fin 4)) (done : Bool) : State :=
  { runS with
    vrc := { runS.vrc with
             mode := if out.isSome then .oo3 else .oo2
             lanes := #v[laneAs .active (some 0), laneAs .active (some 1),
               if out.isSome then laneAs .active (some 2) else laneAs .quarantine none, laneAs .wedged none] }
    rot := { runS.rot with
             rewedge := some { joining := 3, gate := if out.isSome then 0 else 2, out := out, excluded := none, done := done } } }

/-- Lane 0 in a step of its bisque. -/
def bisqueS (n : Nat) : State :=
  { runS with
    vrc := { runS.vrc with
             lanes := #v[laneAs .bisque none, laneAs .active (some 1), laneAs .active (some 2), laneAs .active (some 0)] }
    rot := { runS.rot with bLane := 0, bStep := n } }

/-- Lane 3 in a phase of its wedging. -/
def wedgeS (n : Nat) : State :=
  { runS with
    vrc := { runS.vrc with
             lanes := #v[laneAs .active (some 0), laneAs .active (some 1), laneAs .active (some 2), laneAs .wedging none] }
    rot := { runS.rot with wLane := 3, wPhase := n } }

/-- A change of every core. -/
def onCores (f : Core → Core) (s : State) : State := { s with cores := s.cores.map f }

/-- WIDE: every core runs its own instruction stream. -/
def wideS : State :=
  { runS with
    mod := { runS.mod with state := .wide }
    vrc := { runS.vrc with mode := .split, lanes := Vector.replicate 4 (laneAs .split none) } }

/-- Registers with values at the edges: x1 the least number, x2 all ones, x5 and x6 lane addresses. -/
def edgeRegs : Vector Reg64 32 :=
  Vector.ofFn (fun i : Fin 32 => match i.val with
    | 1 => 0x8000000000000000 | 2 => 0xFFFFFFFFFFFFFFFF | 3 => 0x0123456789ABCDEF | 4 => 4 | 5 => 0x0100000100
    | 6 => 0x0100000102 | 7 => 0x0000003F80000000 | _ => 0)

/-- The lanes with those registers, and as floating-point registers 1.0, a NaN, an infinity and 0. -/
def regS (s : State) : State :=
  onCores (fun c => { c with x := edgeRegs
                             f := (((Vector.replicate 32 0).set 1 0x3FF0000000000000).set 2 0x7FF8000000000001).set 3 0x7FF0000000000000 |>.set 9 0x7FC00001 }) s

/-- The lanes at Application level, allowed the first page of lane SRAM. -/
def appS (s : State) : State :=
  onCores (fun c => ((c.setWord 0 0).setWord 32 0x0100000000).setWord 33 0x010000000F) (regS s)

/-- A task of 250 µs that owns channel 0 of the first bank. -/
def taskA : TaskCfg :=
  { entry := 0x0100000000, stack := 0x0100008000, period := 1, latch := 10, commit := 10, deadline := 2000, stall := 0
    latchList := [], commitList := [{ kind := 4, length := 8, src := 0, dst := 0 }], inImg := 0, outImg := 0x1000
    glaze := 0x2000, own := 1, gp := 0 }

/-- An application with that task as task 0. -/
def appA : AppImage :=
  { appId := 1, build := 7, gapLen := 40, xnTask := none, xnLead := 0, xnMacro := 0, bgEntry := 0x0100000000
    bgStack := 0x0100009000, schedCrc := 0, crc := 0, tasks := (Vector.replicate 8 none).set 0 (some taskA), sections := []
    migrations := [], hdr := 0, file := [] }

/-- The sequencer runs that application at 1 ms of network time; its task in a state of R156. -/
def cycS (x : CycState) : State :=
  { runS with
    tim := { frc := 500000 }
    cys := { run := true, app := some appA, tick := 3, tasks := (Vector.replicate 8 {}).set 0 { state := x, execCounts := 500 } } }

/-- The microcode of the switch is loaded, and a link is up on both backbone ports. -/
def netS : State :=
  { runS with boot := { loadOk := [.bank 0, .bank 1, .bank 2, .xenex, .switch] }, lnc := { spd := #v[2, 2] } }

/-- A PTP master on port 1. -/
def masterA : Master := { identity := 0x1122334455667788, port := 1, tai := true, gm := 0x1122334455667788, rank := 5 }

/-- The ordinary clock follows that master, a Sync waits for its Follow_Up. -/
def ptpS : State :=
  { netS with tim := { netS.tim with
      master := some masterA, sync := some { seq := 9, rx := 0, corr := 0, port := 1, due := 1000000000 }
      timeLocal := false } }

/-- Task 0 has made a SYSCALL: its cores stand in the handler with cause 12. -/
def callS (n : Nat) : State :=
  onCores (fun c => (((c.setWord 0 5).setWord 1 2).setWord 2 0x0100000400).setWord 3 (BitVec.ofNat 64 (n * 4096 + 12)))
    { cycS .run with cys := { (cycS .run).cys with current := some 0 } }

/-- Channel 0 of the first bank as an output in a state, its supply in range, bank time running. -/
def chanS (c : Channel) : State :=
  { runS with chans := runS.chans.set 0 c, banks := runS.banks.set 0 { base := some 0, supply := 2, timeValid := true, loaded := true } }

/-- A driven output with dark tests. -/
def outA : Channel := { kind := 4, dark := true, state := .driven }

/-- The station 2 on the bus in a role, with one poll slot of node 3 and a schedule of 1 ms. -/
def xnS (r : BusRole) : State :=
  { runS with xn := { addr := 2, csCap := true, role := r, macro_ := 1000, epoch := 1, lastEpoch := 1, master := 2
                      slots := [{ start := 0, kind := 1, node := 3, tx := 4, rx := 2, txOff := 0x100, rxOff := 0x1000, guard := 0, input := true }]
                      nodes := (Vector.replicate 64 {}).set 3 { state := 2 } } }

/-- Its slot in progress: node 3 is polled. -/
def pollS : State := { xnS .master with xn := { (xnS .master).xn with slot := some 0, req := .poll 3, inputsLeft := [0] } }

/-- A reply of node 3 with two octets. -/
def replyA : List Byte := xnFrame 3 0 2 3 [0xAB, 0xCD]

/-- A transfer of the gateway in progress with node 3. -/
def acycA : Acyc :=
  { by_ := .node 5, node := 3, route := 0, index := 0x1000, sub := 0, write := false, tag := 1, toggle := false, data := [], total := 4
    off := 0, begun := true, tries := 0, sent := true }

/-- A slot of node 3 of a kind. -/
def slotA (k : Nat) : XSlot := { start := 0, kind := k, node := 3, tx := 4, rx := 2, txOff := 0x100, rxOff := 0x1000, guard := 0, input := true }

/-- A STANDBY or other pair member: both paths up, the twin link on. -/
def pairS (r : TwinRole) : State :=
  { cycS .idle with
    twl := { delta := 1000, pref := 1, en := true, role := r, peerRole := 2, peerState := 3, link := { up := true }, pulse := { up := true } } }

/-- A good link frame. -/
def headA : TwinHead := ⟨true, 0⟩

/-- A link frame with a bad CRC. -/
def headBad : TwinHead := ⟨false, 0⟩

/-- A HEARTBEAT of an ACTIVE peer in RUN-2oo3. -/
def beatA : TwinBeat := ⟨3, 3, 2, 1, 0, 0, 0, 0⟩

/-- The octets of an image file with one task before its trailer: header, task table, a section of kind 3. -/
def imageBody : List Byte :=
  ascii "YAP1" ++ leBytes 2 1 ++ leBytes 2 1 ++ leBytes 4 836 ++ leBytes 4 2 ++ leBytes 4 8 ++ [40, 0xFF, 0, 0] ++
    List.replicate 232 0 ++ leBytes 8 0x0100050000 ++ leBytes 8 0x0100051000 ++ leBytes 2 1 ++ [10, 10] ++
    List.replicate 12 0 ++ leBytes 4 0x1000 ++ leBytes 4 0x2000 ++ List.replicate 472 0 ++ leBytes 8 0x0100050000 ++
    leBytes 4 800 ++ leBytes 4 0 ++ leBytes 4 4096 ++ [3] ++ List.replicate 11 0

/-- The file with its digest and CRC. -/
def imageFile : List Byte :=
  let d := imageBody ++ sha256 imageBody
  d ++ leBytes 4 (crc32c d).toNat

/-- An integrating module in a phase. -/
def integS (n : Nat) : State := { pairS .integrating with twl := { (pairS .integrating).twl with phase := n, peerRole := 3 } }

/-- An untagged broadcast frame of EtherType 0x88B5. -/
def frameA : EthFrame :=
  ⟨[0xFF, 0xFF, 0xFF, 0xFF, 0xFF, 0xFF, 2, 0, 0, 0, 0, 1, 0x88, 0xB5] ++ List.replicate 46 0, true⟩

/-- A filter for any frame of that EtherType. -/
def filterA : List Byte := [0, 0, 0, 0, 0, 0, 0, 0, 0xB5, 0x88]

/-- A quiet gap is open. -/
def gapS (s : State) : State := { s with cys := { s.cys with gap := true, ack := true, quiet := true } }

/-- The switch with VID 1 at every port, untagged, and the filter of that frame. -/
def lanS : State := { netS with lnc := { spd := #v[2, 2], vid := 1, vlans := [0x00770001], filters := [filterA] } }

/-- A frame waits for receive slot 0. -/
def rxS : State :=
  { lanS with lnc := { lanS.lnc with rxWait := [⟨0, 0, false, 1, 0, 7, [1, 2, 3, 4]⟩] } }

/-- The consist ports, with or without PRP; LAN 0 has been silent. -/
def conS (prp : Bool) (failed : Bool) : State :=
  { lanS with
    tim := { lanS.tim with frc := 3500000000 }
    cpn := { prp := prp, spd := #v[2, 2], filters := [filterA], lastAt := #v[0, 7000000000], failed := #v[failed, false] } }

/-- Both CAN channels operational with node-ID 5. -/
def canS : State :=
  { runS with cfd := { chans := Vector.replicate 2 { node := 5, nmt := 2, bus := 0 } }
              kiln := { inForce := [((0x1800, 5), 10), ((0x1800, 1), 0x185), ((0x1400, 1), 0x205), ((0x1017, 0), 100), ((0x1016, 1), 0x00070064)] } }

/-- A posted write to an address of the service window. -/
def postA (a : BitVec 40) : Posted := ⟨0, none, a, 0xF, 5, true⟩

/-- The bridge holds one posted write. -/
def postS (a : BitVec 40) : State := { runS with brg := { posted := [postA a] } }

/-- WIDE: core 0 waits for a far-side read of a word. -/
def farS : State :=
  { wideS with cores := wideS.cores.set 0 { (wideS.cores[0]) with pend := some (.load .ldw 3) }
               brg := { reads := [⟨0, some 0, 0x0300028000, 4, none, false, true⟩] } }

/-- The read it waits for. -/
def farA : FarRead := ⟨0, some 0, 0x0300028000, 4, none, false, true⟩

/-- A write of the voted lanes waits for a tag. -/
def waitA : TagWait := ⟨none, ⟨5, 0xF, 0x0300038400, 2⟩, 0⟩

/-- A prefetched line of region 0, of which no word has been read. -/
def lineA : BrgLine := ⟨0x0300020000, List.replicate 64 0, 0, 0⟩

/-- The bridge holds that line; the region has side effects. -/
def lineS (l : BrgLine) : State :=
  { runS with brg := { regions := (Vector.replicate 16 {}).set 0 ⟨0x20000, 0x20000, 7⟩, lines := [l] } }

/-- A SAFETY write waits for its verdict. -/
def stagedA : Staged := { index := 0x2200, sub := 2, value := leBytes 4 3600, by_ := some (.gdp 0), seq := 1 }

/-- A session that has answered its fourth request and issued a challenge. -/
def sessionA (lvl : Bool) : SessionState :=
  { open_ := true, maint := lvl, seq := 4, answer := some (.done [1]), challenge := some ⟨[1, 2, 3], 0⟩ }

/-- A session of a GDP client at MAINTENANCE level, in a module state; the GDP answers on port 1. -/
def gdpS (m : ModState) (lvl : Bool) : State :=
  { cycS .run with
    mod := { runS.mod with state := m }
    lnc := { spd := #v[2, 2] }
    boot := { netS.boot with running := some 2, runRelease := 1 }
    twl := { link := { up := true }, pulse := { up := true } }
    tim := { (cycS .run).tim with frc := 600000 }
    kiln := { key := List.replicate 16 7, inForce := [((0x2001, 1), 0)], sessions := (Vector.replicate 6 {}).set 0 (sessionA lvl) } }

/-- A GDP request of that session with a SEQ. -/
def gdpHeadA (n : BitVec 32) : GdpHead := ⟨0, true, 1, n⟩

/-- The entry that a check lets pass. -/
def entryOf (x : DEntry ⊕ Nat) : DEntry := match x with | .inl e => e | .inr _ => ro 1

/-- The response of that session to its challenge. -/
def responseA : List Byte := (sha256 ((gdpS .run2oo3 false).kiln.key ++ [1, 2, 3] ++ leBytes 4 (sessId (.gdp 0)))).take 16

/-- A staged SAFETY value whose verdict is good, or refuses with a code, in a quiet gap. -/
def verdictS (code : Nat) (applied : Bool) : State :=
  let r := stageBody stagedA.index stagedA.sub stagedA.seq stagedA.value
  let b := r.take 24 ++ leBytes 4 code
  let v := b ++ leBytes 4 (crc32c b).toNat
  let s := gapS (gdpS .run2oo3 true)
  { s with cys := { s.cys with resvSafety := true }
           kiln := { s.kiln with staged := some stagedA, verd := true, applied := applied
                                 verdict := Vector.ofFn (fun m => BitVec.ofNat 32 (leAt v (4 * m.val) 4)) } }

/-- A firmware image of five empty sections before its trailer. -/
def firmwareBody : List Byte :=
  ascii "YFW1" ++ leBytes 2 1 ++ leBytes 2 5 ++ leBytes 4 256 ++ [1, 0, 0, 0] ++ leBytes 2 1 ++ [0x41] ++ List.replicate 45 0 ++
    [1, 2, 3, 4, 5].flatMap (fun k => leBytes 4 k ++ leBytes 4 0x90 ++ leBytes 4 0 ++ leBytes 4 0) ++ List.replicate 76 0

/-- The image with its digest and CRC. -/
def firmwareFile : List Byte :=
  let d := firmwareBody ++ sha256 firmwareBody
  d ++ leBytes 4 (crc32c d).toNat

/-- The debugger's session in SERVICE-1oo1 on lane 0, its cores halted or not. -/
def debugS (h : Bool) : State :=
  onCores (fun c => { c with halted := h })
    { gdpS .service true with
      vrc := { runS.vrc with mode := .oo1, svc := 0, lanes := Vector.replicate 4 (laneAs .spare none) }
      kiln := { (gdpS .service true).kiln with memAddr := 0x0100000000 } }

/-- FIRING with progress. -/
def fireS (p : StartProgress) : State :=
  { runS with mod := { state := .firing, start := p }, vrc := { lanes := Vector.replicate 4 (laneAs .spare none) } }

/-- FIRING with the lanes in a state, loaded. -/
def loadedS (l : Vector LaneState 4) : State :=
  { fireS { clocksUp := true, booted := true, kilnUp := true, lanesTested := true, injected := true, loaded := true, safetyOk := true } with
    vrc := { lanes := l.map (fun x => laneAs x none) } }

/-- Bank A is TRIAL and runs, in FIRING. -/
def trialS (m : ModState) : State :=
  { fireS { clocksUp := true, booted := true, kilnUp := true } with
    mod := { state := m, start := { clocksUp := true, booted := true, kilnUp := true } }
    boot := { running := some 0, firedAt := some 0, banks := #v[{ state := .trial, trials := 1 }, {}, { state := .good }] }
    recd := { optime := 60000 } }

/-- The state a command leads to. -/
def after (i : Instr) (s : State) : State :=
  match exec i s with
  | .next t => t
  | .fault _ => s
  | .refused _ => s

/-- A state record that is too short. -/
def recordShort : StateRec :=
  { core := [], pend := 0, en := 0, prio := 0, level := 0, stack := [], timers := [], counts := [], lpc := (0, 0, 0, 0)
    dump := (0, 0, 0) }

/-! ### Commands no sender can form, each check of WellFormed.lean refusing one -/

theorem wf_refuses_catch_up_page : (Instr.catchUpCopyDone 0 (.minority 1 65568)).wf = false := by decide +kernel

theorem wf_refuses_checksum_page : (Instr.checksumRoundDone 0 .agree [65568]).wf = false := by decide +kernel

theorem wf_refuses_torn_slot : (Instr.recordWrite 0 (.slotTorn [1, 2])).wf = false := by decide +kernel

theorem wf_refuses_torn_head : (Instr.headRewrite 0 (.slotTorn [])).wf = false := by decide +kernel

theorem wf_refuses_gdp_session : (Instr.gdpRead ⟨0, true, 5, 1⟩ 0x1000 0 0).wf = false := by decide +kernel

theorem wf_refuses_gdp_close : (Instr.gdpClose ⟨0, true, 0, 1⟩).wf = false := by decide +kernel

theorem wf_refuses_gdp_data : (Instr.gdpWrite ⟨0, true, 1, 1⟩ 0x3010 2 ⟨0, false, List.replicate 1025 0⟩).wf = false := by decide +kernel

theorem wf_refuses_firmware_block : (Instr.fwBlock (.gdp 0) ⟨0, false, List.replicate 1025 0⟩).wf = false := by decide +kernel

theorem wf_refuses_gdp_open : (Instr.gdpOpen ⟨0, true, 1, 1⟩ 7).wf = false := by decide +kernel

theorem wf_refuses_node_session : (Instr.warmRestart (.node 63)).wf = false := by decide +kernel

theorem wf_refuses_cycle_start_source : (Instr.cycleStartReceived 0 0 ⟨9, 0, 0, 0, 3, 0⟩).wf = false := by decide +kernel

theorem wf_refuses_claim_lengths : (Instr.claimReceived 5 241 0).wf = false := by decide +kernel

theorem wf_refuses_acyclic_segment : (Instr.acycRespReceived 3 ⟨8, 1, 0, 2, 0x1000, 0, 0, List.replicate 113 0⟩).wf = false := by decide +kernel

theorem wf_refuses_frame_copy : (Instr.xenexFrameReceived 0 (some [1, 2]) none 0).wf = false := by decide +kernel

theorem wf_refuses_slot_number : (Instr.slotStart 0 1024 0).wf = false := by decide +kernel

theorem wf_refuses_slot_end : (Instr.slotComplete 0 1024).wf = false := by decide +kernel

theorem wf_refuses_register_address : (Instr.registerWrite 0 0x0200080002 1).wf = false := by decide +kernel

theorem wf_refuses_short_frame : (Instr.switchFrameReceived 0 0 ⟨[1, 2, 3], true⟩).wf = false := by decide +kernel

theorem wf_refuses_short_internal : (Instr.internalPortReceive 0 0 ⟨[], true⟩).wf = false := by decide +kernel

theorem wf_refuses_short_consist : (Instr.prpFrameReceived 0 0 ⟨[], none⟩).wf = false := by decide +kernel

theorem wf_refuses_short_rxframe : (Instr.twinRxframe ⟨true, 0⟩ 0 0 0 ⟨[], true⟩).wf = false := by decide +kernel

theorem wf_refuses_forward_kind : (Instr.twinFwdFrame ⟨true, 0⟩ [⟨0, 0, 2, 0⟩]).wf = false := by decide +kernel

theorem wf_refuses_state_record : (Instr.twinStaterecFrame 0 ⟨true, 0⟩ recordShort).wf = false := by decide +kernel

theorem wf_refuses_safety_value : (Instr.safetyValueFromActive ⟨true, 0⟩ 0x2200 1 []).wf = false := by decide +kernel

theorem wf_refuses_can_length : (Instr.rpdoReceived 0 0 0x205 (List.replicate 9 0)).wf = false := by decide +kernel

theorem wf_refuses_event_source : (Instr.eventSubmit 12 1 0 0 0).wf = false := by decide +kernel

/-! ### Values from the examples of the spec -/

/-- R112, ch. 04 Example: LUI x5, 0x0010 and INSH x5, 0x0002, k = 2 form the base of the shared buffers. -/
theorem test_lui_insh : ((after (.insh 0 5 2 0x0002) (after (.lui 0 5 0x0010) runS)).cores[0]).getX 5 = 0x0200100000 := by
  decide +kernel

/-- R116: the least number divided by -1 is itself. -/
theorem test_divide_overflow :
    ((after (.divide 0 .div 8 1 2) (regS runS)).cores[0]).getX 8 = 0x8000000000000000 := by
  decide +kernel

/-- R176, ch. 05 Example: 12 entries of 96,000 octets in all need 24.592 µs and are refused with 22 µs to spend. -/
theorem test_switch_refused :
    let a := { appA with gapLen := 24, migrations := List.replicate 12 ⟨0, 0x10000, 8000⟩ }
    switchNeed a = 2460 ∧ switchAvail a = 2200 ∧ stageCheck a a = some 22 := by
  decide +kernel

/-- R176, ch. 05 Example: 12 entries of 72,000 octets need 21.592 µs. -/
theorem test_switch_fits : switchNeed { appA with migrations := List.replicate 12 ⟨0, 0x10000, 6000⟩ } = 2160 := by
  decide +kernel

/-- R205, ch. 06 Example: a count of 193,842 in a gate of 250,000 TCXO periods is 19,384,200 Hz. -/
theorem test_ember_frequency :
    ((after (.fmDone 0 193842) { runS with clk := { runS.clk with fmBusy := true, fmRef := 0, fmMeas := 1, fmGate := 250000 } }).clk.freqs)[1]
      = 19384200 := by
  decide +kernel

/-- R226, R227, ch. 07 Example: the correctionField of a Sync that stays 1,230 counts in the module. -/
theorem test_transparent_clock :
    (after (.tcForward 0 1 .sync 0 9 0x1F400000 1230)
      { netS with tim := { netS.tim with rate := 21475, delay := #v[{}, { valid := true, delays := List.replicate 8 27344896 }] } }).tim.tcOut
      = some 0x2A7D4326 := by
  decide +kernel

/-- R369, ch. 12 Example: the log entry of a posted write of CFD_TPDOTRIG under tag 17 that times out. -/
theorem test_posted_timeout :
    ((after (.brgPwerr 0 .timeout) { runS with brg := { posted := [⟨17, none, 0x0300030010, 0xF, 1, true⟩] } }).brg.log.map
      (fun e => (e.w0, e.w1, e.w2))) = [(0x00030010, 0x80011103, 0x0000000F)] := by
  decide +kernel

/-- R396, ch. 13 Example: the staging record of 120,000 for 0x2200 subindex 2 with SEQ 7. -/
theorem test_staging_record :
    (stageRecord 0x2200 2 7 (leBytes 4 120000)).take 12 = [0x00, 0x22, 2, 4, 7, 0, 0, 0, 0xC0, 0xD4, 0x01, 0x00] := by
  decide +kernel

/-- R417, R418, ch. 14 Example: a privileged event removes the newest plain entry of a full FIFO, which is counted as lost. -/
theorem test_privileged_into_full_fifo :
    let r := (after (.eventSubmit 1 0x1002 0 0 0) { runS with recd := { fifo := List.replicate 64 (stampEntry {} 2 0x0021 0 0 0), privileged := [(0x1002, 5, 1)], tokens := [(0x1002, 5)] } }).recd
    r.fifo.length = 64 ∧ (r.fifo.getLast?.map (fun e => (e.code, e.priv, e.repeats))) = some (0x1002, true, 0) ∧ r.lost = 1 := by
  decide +kernel

/-- R434, ch. 15 Example: 5,440,000 octets in a window read as 1,360,000. -/
theorem test_bandwidth_window :
    ((after (.bandwidthWindowEnd 0) { runS with bw := runS.bw.set 1 { count := 5440000 } }).bw[1]).last = 1360000 := by
  decide +kernel

/-- R411: after SEQ 0xFFFFFFFF comes 1. -/
theorem test_sequence_number_wraps : nextSeq 0xFFFFFFFF = 1 := by decide

/-- R122: no row of the table gives bits, so no word spells a command. -/
theorem test_no_word_spells_a_command : decodeTableWord 32 0x00100150 = none := by decide

/-! ### Hypotheses that can be met -/

theorem unison_oo3 {core : Fin 8} {s : State} (hm : s.vrc.mode = .oo3) (hl : (activeLanes s).length = 3)
    (hc : ∀ j ∈ execCores core s, ∀ k ∈ execCores core s, s.cores[j] = s.cores[k]) : Unison core s := by
  unfold Unison; rw [hm]; exact ⟨hl, hc⟩

theorem unison_split {core : Fin 8} {s : State} (hm : s.vrc.mode = .split)
    (hc : ∀ j ∈ execCores core s, ∀ k ∈ execCores core s, s.cores[j] = s.cores[k]) : Unison core s := by
  unfold Unison; rw [hm]; exact ⟨trivial, hc⟩

/-- A step from reset leads on, and reset is in canonical form. -/
theorem hyps_InvariantOfEveryStep : ∃ s t : State, step s = .next t ∧ s.memWf = true ∧ s.fifoFits = true :=
  ⟨State.reset, advance 1 State.reset, rfl, by decide +kernel, by decide +kernel⟩

theorem hyps_StepRunsFrontCommand : ∃ s : State, s.pending = [] := ⟨State.reset, rfl⟩

theorem hyps_VoterForwardsAgreedBeat :
    (∃ (s : State) (b : Beat) (i0 i1 i2 i3 : LaneInput),
      (s.vrc.mode = VoteMode.oo3 ∧ (activeLanes s).length = 3 ∨ s.vrc.mode = VoteMode.oo2 ∧ (activeLanes s).length = 2) ∧
      (∀ l ∈ activeLanes s, pick4 i0 i1 i2 i3 l = LaneInput.beat b)) ∧
    (∃ (s : State) (b : Beat) (i0 i1 i2 i3 : LaneInput),
      (s.vrc.mode = VoteMode.oo3 ∧ (activeLanes s).length = 3 ∨ s.vrc.mode = VoteMode.oo2 ∧ (activeLanes s).length = 2) ∧
      (∀ l ∈ activeLanes s, pick4 i0 i1 i2 i3 l = LaneInput.beat b)) :=
  ⟨⟨runS, { addr := 0x100, be := 0xF, attr := 1 }, (.beat { addr := 0x100, be := 0xF, attr := 1 }),
     (.beat { addr := 0x100, be := 0xF, attr := 1 }), (.beat { addr := 0x100, be := 0xF, attr := 1 }), (.beat {}),
     by decide +kernel⟩,
    ⟨twoS, {}, (.beat {}), (.beat {}), (.memUe 0), (.beat {}), by decide +kernel⟩⟩

theorem hyps_MinorityLaneLeavesTheVote : ∃ (s : State) (m : Fin 4) (x b : Beat) (i0 i1 i2 i3 : LaneInput),
    s.vrc.mode = VoteMode.oo3 ∧ s.rot.rewedge = none ∧ (activeLanes s).length = 3 ∧ m ∈ activeLanes s ∧
    beatDiff x b ≠ 0 ∧ beatDiff b x ≠ 0 ∧ pick4 i0 i1 i2 i3 m = LaneInput.beat x ∧
    (∀ j ∈ activeLanes s, j ≠ m → pick4 i0 i1 i2 i3 j = LaneInput.beat b) :=
  ⟨runS, 2, { data := 1 }, {}, (.beat {}), (.beat {}), (.beat { data := 1 }), (.beat {}), by decide +kernel⟩

theorem hyps_NoMajorityTakesSafeHold : ∃ (s : State) (a c : Fin 4) (x b : Beat) (i0 i1 i2 i3 : LaneInput),
    s.vrc.mode = VoteMode.oo2 ∧ s.mod.state = ModState.run2oo2 ∧ activeLanes s = [a, c] ∧ beatDiff x b ≠ 0 ∧
    pick4 i0 i1 i2 i3 a = LaneInput.beat x ∧ pick4 i0 i1 i2 i3 c = LaneInput.beat b :=
  ⟨twoS, 0, 1, { addr := 4 }, {}, (.beat { addr := 4 }), (.beat {}), (.beat {}), (.beat {}), by decide +kernel⟩

theorem hyps_SilentAndQuarantinedLanes :
    (∃ (s : State) (l : Fin 4),
      s.vrc.mode ≠ VoteMode.split ∧ laneState s l = LaneState.spare) ∧
    (∃ (s : State) (l : Fin 4),
      s.vrc.mode ≠ VoteMode.split ∧ laneState s l = LaneState.retired) ∧
    (∃ (s : State) (l : Fin 4),
      laneState s l = LaneState.quarantine) ∧
    (∃ (s : State),
      s.vrc.responses = []) ∧
    (∃ (s : State) (r : Response) (q : List Response),
      s.vrc.responses = r :: q ∧ s.vrc.mode = VoteMode.oo1) :=
  ⟨⟨runS, 3, by decide +kernel⟩,
    ⟨{ runS with vrc := { runS.vrc with lanes := runS.vrc.lanes.set 3 (laneAs .retired none) } }, 3,
     by decide +kernel⟩,
    ⟨twoS, 2, by decide +kernel⟩,
    ⟨runS, by decide +kernel⟩,
    ⟨{ runS with vrc := { runS.vrc with mode := .oo1, svc := 3, responses := [{ tag := 1, core := none, data := 9, err := false }] } },
     { tag := 1, core := none, data := 9, err := false }, [], by decide +kernel⟩⟩

theorem hyps_RotationTimerAndOverdue :
    (∃ (s : State),
      isRun s = true) ∧
    (∃ (s : State) (l : Fin 4),
      laneState s l = LaneState.active ∧ s.vrc.lanes[l].overdue = false) ∧
    (∃ (s : State) (l : Fin 4),
      s.vrc.lanes[l].overdue = true) :=
  ⟨⟨runS, by decide +kernel⟩,
    ⟨runS, 0, by decide +kernel⟩,
    ⟨{ runS with vrc := { runS.vrc with lanes := runS.vrc.lanes.set 1 { laneAs .active (some 1) with overdue := true } } },
     1, by decide +kernel⟩⟩

theorem hyps_SwapHandsOverTheGateSet : ∃ (s : State) (dt : ℕ) (r : Rewedge) (x : Fin 4),
    (advance dt s).rot.rewedge = some r ∧ r.out = some x ∧ r.done = true ∧ x ≠ r.joining :=
  ⟨(joinS (some 0) true), 0, { joining := 3, gate := 0, out := some 0, excluded := none, done := true }, 0,
     by decide +kernel⟩

theorem hyps_SubstitutionRestoresThreeLanes : ∃ (s : State) (dt : ℕ) (r : Rewedge),
    (advance dt s).rot.rewedge = some r ∧ r.out = none ∧ r.done = true :=
  ⟨(joinS none true), 0, { joining := 3, gate := 2, out := none, excluded := none, done := true },
     by decide +kernel⟩

theorem hyps_RewedgeLoadsTheJoiningLane :
    (∃ (s : State) (dt : ℕ) (r : Rewedge) (a : Fin 4) (ls : List (Fin 4)) (b : Beat),
      (advance dt s).rot.rewedge = some r ∧ r.done = false ∧ activeLanes s = a :: ls ∧ r.joining ∉ activeLanes s ∧
      recordVote (advance dt s) = Verdict.forward b) ∧
    (∃ (s : State) (dt : ℕ),
      (advance dt s).rot.rewedge = none) :=
  ⟨⟨(joinS (some 0) false), 0, { joining := 3, gate := 0, out := some 0, excluded := none, done := false }, 0,
     [1, 2], {}, by decide +kernel⟩,
    ⟨runS, 0, by decide +kernel⟩⟩

theorem hyps_BisqueStepsPassAndFail :
    (∃ (s : State) (dt : ℕ),
      1 ≤ s.rot.bStep ∧ s.rot.bStep ≤ 5 ∧ (advance dt s).rot.bStep = s.rot.bStep) ∧
    (∃ (s : State) (dt : ℕ),
      1 ≤ s.rot.bStep ∧ s.rot.bStep ≤ 5 ∧ (advance dt s).rot.bStep = s.rot.bStep) ∧
    (∃ (s : State) (dt : ℕ),
      (advance dt s).rot.bStep = 6) ∧
    (∃ (s : State) (dt : ℕ),
      (advance dt s).rot.bStep = 4) :=
  ⟨⟨(bisqueS 1), 0, by decide +kernel⟩,
    ⟨(bisqueS 5), 0, by decide +kernel⟩,
    ⟨(bisqueS 6), 0, by decide +kernel⟩,
    ⟨(bisqueS 4), 0, by decide +kernel⟩⟩

theorem hyps_WedgingStartsWithTheFirstWaitingLane :
    (∃ (s : State) (l : Fin 4) (q : List (Fin 4)),
      s.rot.waiting = l :: q ∧ (s.vrc.mode = VoteMode.oo3 ∨ s.vrc.mode = VoteMode.oo2) ∧ spareLane s = none) ∧
    (∃ (s : State),
      s.rot.waiting = []) ∧
    (∃ (s : State) (dt : ℕ),
      (advance dt s).rot.wPhase = 1) ∧
    (∃ (s : State) (dt : ℕ),
      (advance dt s).rot.hold = true ∧ 2048 ≤ (advance dt s).rot.fifo.length) :=
  ⟨⟨{ runS with rot := { runS.rot with waiting := [3] } }, 3, [], by decide +kernel⟩,
    ⟨runS, by decide +kernel⟩,
    ⟨(wedgeS 1), 0, by decide +kernel⟩,
    ⟨{ wedgeS 2 with rot := { (wedgeS 2).rot with hold := true, fifo := List.replicate 2049 { addr := 0x10, be := 1, data := 1 } } },
     0, by decide +kernel⟩⟩

theorem hyps_CatchUpCopyAndChecksumWedgeTheLane :
    (∃ (s : State) (dt : ℕ),
      (advance dt s).rot.wPhase = 2) ∧
    (∃ (s : State) (dt : ℕ),
      ((advance dt s).rot.wPhase = 3 ∨ (advance dt s).rot.wPhase = 4)) ∧
    (∃ (s : State) (dt : ℕ),
      ((advance dt s).rot.wPhase = 3 ∨ (advance dt s).rot.wPhase = 4)) :=
  ⟨⟨(wedgeS 2), 0, by decide +kernel⟩,
    ⟨(wedgeS 3), 0, by decide +kernel⟩,
    ⟨(wedgeS 4), 0, by decide +kernel⟩⟩

theorem hyps_RegisterInstructionsWriteXd :
    (∃ (core : Fin 8) (s : State),
      Executes core s ∧ Untrapped s) ∧
    (∃ (core : Fin 8) (s : State),
      Executes core s ∧ Untrapped s) ∧
    (∃ (core : Fin 8) (s : State) (w : Bool) (n : BitVec 6),
      Executes core s ∧ Untrapped s ∧ (w = true → n.getLsbD 5 = false)) ∧
    (∃ (core : Fin 8) (s : State) (w : Bool) (n : BitVec 6),
      Executes core s ∧ Untrapped s ∧ (w = true → n.getLsbD 5 = false)) :=
  ⟨⟨0, (regS runS), by unfold Executes Untrapped; decide +kernel⟩,
    ⟨5, (regS wideS), by unfold Executes Untrapped; decide +kernel⟩,
    ⟨0, (regS runS), false, 63, by unfold Executes Untrapped; decide +kernel⟩,
    ⟨0, (regS runS), true, 31, by unfold Executes Untrapped; decide +kernel⟩⟩

theorem hyps_IntegerDivisionIsDefined :
    (∃ (core : Fin 8) (s : State) (op : DivOp) (b : Fin 32),
      Executes core s ∧ Untrapped s ∧
      (∀ k ∈ execCores core s, divZero op (s.cores[k].getX b) = false ∨ s.cores[k].dzt = false)) ∧
    (∃ (core : Fin 8) (s : State) (op : DivOp) (b : Fin 32),
      Executes core s ∧ Untrapped s ∧
      (∀ k ∈ execCores core s, divZero op (s.cores[k].getX b) = false ∨ s.cores[k].dzt = false)) ∧
    (∃ (core : Fin 8) (s : State) (op : DivOp) (b : Fin 32),
      Executes core s ∧ Untrapped s ∧
      (∀ k ∈ execCores core s, divZero op (s.cores[k].getX b) = false ∨ s.cores[k].dzt = false)) ∧
    (∃ (y : Reg64),
      BitVec.extractLsb' 0 32 y = 0) ∧
    (∃ (core : Fin 8) (s : State) (op : DivOp) (b : Fin 32),
      Executes core s ∧ s.cys.current = none ∧ Uncombined core s ∧
      (∀ k ∈ execCores core s, divZero op (s.cores[k].getX b) = true ∧ s.cores[k].dzt = true)) ∧
    (∃ (core : Fin 8) (s : State) (op : DivOp) (b : Fin 32),
      Executes core s ∧ s.cys.current = none ∧ Uncombined core s ∧
      (∀ k ∈ execCores core s, divZero op (s.cores[k].getX b) = true ∧ s.cores[k].dzt = true)) ∧
    (∃ (x y : Reg64),
      BitVec.extractLsb' 0 32 x = BitVec.intMin 32 ∧ BitVec.extractLsb' 0 32 y = BitVec.allOnes 32) ∧
    (∃ (y : Reg64),
      BitVec.toNat y / 256 % 64 = 0) ∧
    (∃ (y : Reg64) (j : ℕ),
      0 < BitVec.toNat y / 256 % 64 ∧ j < 64) ∧
    (∃ (y : Reg64) (j : ℕ),
      0 < BitVec.toNat y / 256 % 64 ∧ j < 64) ∧
    (∃ (y : Reg64) (op : AluOp),
      (op = AluOp.sll ∨ op = AluOp.srl ∨ op = AluOp.sra ∨ op = AluOp.ror) ∧ BitVec.toNat y % 64 = 0) ∧
    (∃ (y : Reg64) (op : AluwOp),
      (op = AluwOp.sllw ∨ op = AluwOp.srlw ∨ op = AluwOp.sraw ∨ op = AluwOp.rorw) ∧ BitVec.toNat y % 32 = 0) :=
  ⟨⟨0, (regS runS), .div, 2, by unfold Executes Untrapped; decide +kernel⟩,
    ⟨0, (regS runS), .div, 0, by unfold Executes Untrapped; decide +kernel⟩,
    ⟨0, (regS runS), .remuw, 0, by unfold Executes Untrapped; decide +kernel⟩,
    ⟨0x100000000, by decide +kernel⟩,
    ⟨0, (onCores (fun c => c.setWord 0 9) (regS runS)), .div, 0, by unfold Executes Uncombined; decide +kernel⟩,
    ⟨0, (onCores (fun c => c.setWord 0 9) (regS runS)), .remw, 0, by unfold Executes Uncombined; decide +kernel⟩,
    ⟨0x180000000, 0xFFFFFFFF, by decide +kernel⟩,
    ⟨0x3F, by decide +kernel⟩,
    ⟨0x3F3F, 63, by decide +kernel⟩,
    ⟨0x0204, 63, by decide +kernel⟩,
    ⟨0x40, .ror, by decide +kernel⟩,
    ⟨0x20, .srlw, by decide +kernel⟩⟩

theorem hyps_JumpAndFetchFaults :
    (∃ (core : Fin 8) (s : State) (a : Fin 32) (imm : BitVec 16),
      Executes core s ∧ s.cys.current = none ∧ Uncombined core s ∧
      (∀ k ∈ execCores core s, BitVec.toNat (s.cores[k].getX a + BitVec.signExtend 64 imm) % 4 ≠ 0)) ∧
    (∃ (core : Fin 8) (s : State),
      execCores core s ≠ [] ∧ s.cys.current = none ∧ Uncombined core s ∧
      (∀ k ∈ execCores core s, s.cores[k].ready = true ∧ s.cores[k].imprecise = none ∧ (regionOf (decide (s.vrc.mode = VoteMode.split)) (BitVec.toNat s.cores[k].pc)).isMem = false)) :=
  ⟨⟨0, (regS runS), 5, 0x8001, by unfold Executes Uncombined; decide +kernel⟩,
    ⟨0, (onCores (fun c => { c with pc := 0x02FFFFFFFC }) (regS runS)), by unfold Uncombined; decide +kernel⟩⟩

theorem hyps_MisalignedAccessesTrap :
    (∃ (core : Fin 8) (s : State) (op : LoadOp) (d a : Fin 32) (disp : BitVec 16),
      Executes core s ∧ s.cys.current = none ∧ Uncombined core s ∧ (op = LoadOp.ldp → d.val % 2 = 0) ∧
      (∀ k ∈ execCores core s, BitVec.toNat (s.cores[k].getX a + BitVec.signExtend 64 disp) % loadSize op ≠ 0)) ∧
    (∃ (core : Fin 8) (s : State) (op : LoadOp) (d a : Fin 32) (disp : BitVec 16),
      Executes core s ∧ s.cys.current = none ∧ Uncombined core s ∧ (op = LoadOp.ldp → d.val % 2 = 0) ∧
      (∀ k ∈ execCores core s, BitVec.toNat (s.cores[k].getX a + BitVec.signExtend 64 disp) % loadSize op ≠ 0)) ∧
    (∃ (core : Fin 8) (s : State) (op : StoreOp) (d a : Fin 32) (disp : BitVec 16),
      Executes core s ∧ s.cys.current = none ∧ Uncombined core s ∧ (op = StoreOp.stp → d.val % 2 = 0) ∧
      (∀ k ∈ execCores core s, BitVec.toNat (s.cores[k].getX a + BitVec.signExtend 64 disp) % storeSize op ≠ 0)) ∧
    (∃ (core : Fin 8) (s : State) (op : StoreOp) (d a : Fin 32) (disp : BitVec 16),
      Executes core s ∧ s.cys.current = none ∧ Uncombined core s ∧ (op = StoreOp.stp → d.val % 2 = 0) ∧
      (∀ k ∈ execCores core s, BitVec.toNat (s.cores[k].getX a + BitVec.signExtend 64 disp) % storeSize op ≠ 0)) ∧
    (∃ (core : Fin 8) (s : State) (dbl : Bool) (a : Fin 32),
      Executes core s ∧ s.cys.current = none ∧ Uncombined core s ∧
      (∀ k ∈ execCores core s, (BitVec.toNat (s.cores[k].getX a) % if dbl = true then 8 else 4) ≠ 0)) ∧
    (∃ (core : Fin 8) (s : State) (dbl : Bool) (a : Fin 32),
      Executes core s ∧ s.cys.current = none ∧ Uncombined core s ∧
      (∀ k ∈ execCores core s, (BitVec.toNat (s.cores[k].getX a) % if dbl = true then 8 else 4) ≠ 0)) :=
  ⟨⟨0, (regS runS), .ldh, 8, 5, 1, by unfold Executes Uncombined; decide +kernel⟩,
    ⟨0, (regS runS), .ldp, 8, 5, 8, by unfold Executes Uncombined; decide +kernel⟩,
    ⟨0, (regS runS), .stp, 8, 5, 8, by unfold Executes Uncombined; decide +kernel⟩,
    ⟨0, (regS runS), .std, 8, 5, 4, by unfold Executes Uncombined; decide +kernel⟩,
    ⟨0, (regS runS), true, 6, by unfold Executes Uncombined; decide +kernel⟩,
    ⟨0, (regS runS), false, 6, by unfold Executes Uncombined; decide +kernel⟩⟩

theorem hyps_InstructionExceptions :
    (∃ (core : Fin 8) (s : State),
      Executes core s ∧ s.cys.current = none ∧ Uncombined core s) ∧
    (∃ (core : Fin 8) (s : State) (w : BitVec 32),
      Executes core s ∧ s.cys.current = none ∧ Uncombined core s ∧ wordIllegal w = true) ∧
    (∃ (core : Fin 8) (s : State) (n : BitVec 16),
      Executes core s ∧ s.cys.current = none ∧ Uncombined core s ∧ wordExists n.toNat = false) ∧
    (∃ (core : Fin 8) (s : State) (n : BitVec 16),
      Executes core s ∧ s.cys.current = none ∧ Uncombined core s ∧ wordExists n.toNat = false) ∧
    (∃ (core : Fin 8) (s : State),
      Executes core s ∧ s.cys.current = none ∧ Uncombined core s ∧ (∀ k ∈ execCores core s, s.cores[k].exec = false)) ∧
    (∃ (core : Fin 8) (s : State) (n : BitVec 16),
      Executes core s ∧ s.cys.current = none ∧ Uncombined core s ∧ (∀ k ∈ execCores core s, s.cores[k].exec = false) ∧
      wordExists n.toNat = true ∧ ¬(8 ≤ n.toNat ∧ n.toNat ≤ 11)) ∧
    (∃ (core : Fin 8) (s : State) (n : BitVec 16),
      Executes core s ∧ s.cys.current = none ∧ Uncombined core s ∧ (∀ k ∈ execCores core s, s.cores[k].exec = false) ∧
      wordExists n.toNat = true ∧ ¬(8 ≤ n.toNat ∧ n.toNat ≤ 11)) ∧
    (∃ (core : Fin 8) (s : State) (n : BitVec 16),
      Executes core s ∧ s.cys.current = none ∧ Uncombined core s ∧ (∀ k ∈ execCores core s, s.cores[k].exec = false) ∧
      wordExists n.toNat = true ∧ n.toNat ≠ 8 ∧ n.toNat ≠ 9) ∧
    (∃ (core : Fin 8) (s : State) (n : BitVec 16),
      Executes core s ∧ s.cys.current = none ∧ Uncombined core s ∧ (∀ k ∈ execCores core s, s.cores[k].exec = false) ∧
      wordExists n.toNat = true ∧ n.toNat ≠ 8 ∧ n.toNat ≠ 9) :=
  ⟨⟨0, (regS runS), by unfold Executes Uncombined; decide +kernel⟩,
    ⟨0, (regS runS), 0, by unfold Executes Uncombined; decide +kernel⟩,
    ⟨0, (regS runS), 16, by unfold Executes Uncombined; decide +kernel⟩,
    ⟨0, (regS runS), 64, by unfold Executes Uncombined; decide +kernel⟩,
    ⟨0, (appS runS), by unfold Executes Uncombined; decide +kernel⟩,
    ⟨0, (appS runS), 7, by unfold Executes Uncombined; decide +kernel⟩,
    ⟨0, (appS runS), 12, by unfold Executes Uncombined; decide +kernel⟩,
    ⟨0, (appS runS), 10, by unfold Executes Uncombined; decide +kernel⟩,
    ⟨0, (appS runS), 7, by unfold Executes Uncombined; decide +kernel⟩⟩

theorem hyps_ControlFlowAndControlWords :
    (∃ (core : Fin 8) (s : State),
      Executes core s ∧ s.cys.current = none) ∧
    (∃ (core : Fin 8) (s : State) (a : Fin 32) (imm : BitVec 16),
      Executes core s ∧ s.cys.current = none ∧
      (∀ k ∈ execCores core s, BitVec.toNat (s.cores[k].getX a + BitVec.signExtend 64 imm) % 4 = 0)) ∧
    (∃ (core : Fin 8) (s : State),
      Executes core s ∧ s.cys.current = none ∧ Unison core s ∧ Uncombined core s ∧
      (∀ k ∈ execCores core s, s.cores[k].sbuf = [])) ∧
    (∃ (core : Fin 8) (s : State) (n : BitVec 16),
      Executes core s ∧ s.cys.current = none ∧ (n = 8 ∨ n = 9 ∨ n = 10)) ∧
    (∃ (core : Fin 8) (s : State) (n : BitVec 16),
      Executes core s ∧ s.cys.current = none ∧ (n = 8 ∨ n = 9 ∨ n = 10)) ∧
    (∃ (core : Fin 8) (s : State),
      Executes core s ∧ s.cys.current = none ∧ (∀ k ∈ execCores core s, s.cores[k].exec = true)) ∧
    (∃ (core : Fin 8) (s : State),
      Executes core s ∧ s.cys.current = none ∧ (∀ k ∈ execCores core s, s.cores[k].exec = true) ∧ Uncombined core s) ∧
    (∃ (core : Fin 8) (s : State),
      Executes core s ∧ s.cys.current = none ∧ (∀ k ∈ execCores core s, s.cores[k].exec = true) ∧
      (∀ k ∈ execCores core s, s.cores[k].lpc.gen = false ∧ s.cores[k].lic.winner = none)) :=
  ⟨⟨0, (regS runS), by unfold Executes; decide +kernel⟩,
    ⟨0, (regS runS), 5, 8, by unfold Executes; decide +kernel⟩,
    ⟨0, (regS runS),
     ⟨by unfold Executes; decide +kernel, by decide +kernel, unison_oo3 (by decide +kernel) (by decide +kernel) (by decide +kernel), by unfold Uncombined; decide +kernel, by decide +kernel⟩⟩,
    ⟨0, (regS runS), 9, by unfold Executes; decide +kernel⟩,
    ⟨0, (regS runS), 10, by unfold Executes; decide +kernel⟩,
    ⟨0, (regS runS), by unfold Executes; decide +kernel⟩,
    ⟨0, (regS runS), by unfold Executes Uncombined; decide +kernel⟩,
    ⟨0, (regS runS), by unfold Executes; decide +kernel⟩⟩

theorem hyps_LaneMemoryIsReadAndWritten :
    (∃ (core : Fin 8) (s : State) (a : Fin 32) (disp : BitVec 16) (w : ℕ) (op : LoadOp),
      Executes core s ∧ Untrapped s ∧
      (∀ k ∈ execCores core s, s.cores[k].exec = true ∧ s.cores[k].sbuf = [] ∧ BitVec.getLsbD (s.cores[k].word 13) 1 = false ∧ BitVec.toNat (s.cores[k].getX a + BitVec.signExtend 64 disp) = w ∧ (regionOf (decide (s.vrc.mode = VoteMode.split)) w).isMem = true) ∧
      op ≠ LoadOp.ldp ∧ op ≠ LoadOp.flw ∧ op ≠ LoadOp.fld ∧ w % loadSize op = 0) ∧
    (∃ (core : Fin 8) (s : State) (a : Fin 32) (disp : BitVec 16) (w : ℕ) (op : LoadOp),
      Executes core s ∧ Untrapped s ∧
      (∀ k ∈ execCores core s, s.cores[k].exec = true ∧ s.cores[k].sbuf = [] ∧ BitVec.getLsbD (s.cores[k].word 13) 1 = false ∧ BitVec.toNat (s.cores[k].getX a + BitVec.signExtend 64 disp) = w ∧ (regionOf (decide (s.vrc.mode = VoteMode.split)) w).isMem = true) ∧
      op ≠ LoadOp.ldp ∧ op ≠ LoadOp.flw ∧ op ≠ LoadOp.fld ∧ w % loadSize op = 0) ∧
    (∃ (core : Fin 8) (s : State) (a : Fin 32) (disp : BitVec 16) (w : ℕ) (op : LoadOp),
      Executes core s ∧ Untrapped s ∧
      (∀ k ∈ execCores core s, s.cores[k].exec = true ∧ s.cores[k].sbuf = [] ∧ BitVec.getLsbD (s.cores[k].word 13) 1 = false ∧ BitVec.toNat (s.cores[k].getX a + BitVec.signExtend 64 disp) = w ∧ (regionOf (decide (s.vrc.mode = VoteMode.split)) w).isMem = true) ∧
      op ≠ LoadOp.ldp ∧ op ≠ LoadOp.flw ∧ op ≠ LoadOp.fld ∧ w % loadSize op = 0) ∧
    (∃ (core : Fin 8) (s : State) (d a : Fin 32) (disp : BitVec 16) (w : ℕ) (op : StoreOp),
      Executes core s ∧ Untrapped s ∧
      (∀ k ∈ execCores core s, s.cores[k].exec = true ∧ s.cores[k].sbuf = [] ∧ BitVec.getLsbD (s.cores[k].word 13) 1 = false ∧ BitVec.toNat (s.cores[k].getX a + BitVec.signExtend 64 disp) = w ∧ (regionOf (decide (s.vrc.mode = VoteMode.split)) w).isMem = true) ∧
      (op = StoreOp.stp → d.val % 2 = 0) ∧ w % storeSize op = 0) ∧
    (∃ (core : Fin 8) (s : State) (d a : Fin 32) (disp : BitVec 16) (w : ℕ) (op : StoreOp),
      Executes core s ∧ Untrapped s ∧
      (∀ k ∈ execCores core s, s.cores[k].exec = true ∧ s.cores[k].sbuf = [] ∧ BitVec.getLsbD (s.cores[k].word 13) 1 = false ∧ BitVec.toNat (s.cores[k].getX a + BitVec.signExtend 64 disp) = w ∧ (regionOf (decide (s.vrc.mode = VoteMode.split)) w).isMem = true) ∧
      (op = StoreOp.stp → d.val % 2 = 0) ∧ w % storeSize op = 0) ∧
    (∃ (core : Fin 8) (s : State) (d a : Fin 32) (disp : BitVec 16) (w : ℕ) (op : StoreOp),
      Executes core s ∧ Untrapped s ∧
      (∀ k ∈ execCores core s, s.cores[k].exec = true ∧ s.cores[k].sbuf = [] ∧ BitVec.getLsbD (s.cores[k].word 13) 1 = false ∧ BitVec.toNat (s.cores[k].getX a + BitVec.signExtend 64 disp) = w ∧ (regionOf (decide (s.vrc.mode = VoteMode.split)) w).isMem = true) ∧
      (op = StoreOp.stp → d.val % 2 = 0) ∧ w % storeSize op = 0) ∧
    (∃ (core : Fin 8) (s : State) (d a : Fin 32) (disp : BitVec 16) (w : ℕ) (op : StoreOp),
      Executes core s ∧ Untrapped s ∧
      (∀ k ∈ execCores core s, s.cores[k].exec = true ∧ s.cores[k].sbuf = [] ∧ BitVec.getLsbD (s.cores[k].word 13) 1 = false ∧ BitVec.toNat (s.cores[k].getX a + BitVec.signExtend 64 disp) = w ∧ (regionOf (decide (s.vrc.mode = VoteMode.split)) w).isMem = true) ∧
      (op = StoreOp.stp → d.val % 2 = 0) ∧ w % storeSize op = 0) ∧
    (∃ (core : Fin 8) (s : State) (a : Fin 32) (disp : BitVec 16) (w : ℕ) (dbl : Bool),
      Executes core s ∧ Untrapped s ∧
      (∀ k ∈ execCores core s, s.cores[k].exec = true ∧ s.cores[k].sbuf = [] ∧ BitVec.getLsbD (s.cores[k].word 13) 1 = false ∧ BitVec.toNat (s.cores[k].getX a + BitVec.signExtend 64 disp) = w ∧ (regionOf (decide (s.vrc.mode = VoteMode.split)) w).isMem = true) ∧
      disp = 0 ∧ (w % if dbl = true then 8 else 4) = 0) ∧
    (∃ (core : Fin 8) (s : State) (a : Fin 32) (disp : BitVec 16) (w : ℕ) (dbl : Bool),
      Executes core s ∧ Untrapped s ∧
      (∀ k ∈ execCores core s, s.cores[k].exec = true ∧ s.cores[k].sbuf = [] ∧ BitVec.getLsbD (s.cores[k].word 13) 1 = false ∧ BitVec.toNat (s.cores[k].getX a + BitVec.signExtend 64 disp) = w ∧ (regionOf (decide (s.vrc.mode = VoteMode.split)) w).isMem = true) ∧
      disp = 0 ∧ (w % if dbl = true then 8 else 4) = 0 ∧ (∀ k ∈ execCores core s, s.cores[k].resv ≠ some (w / 16))) ∧
    (∃ (core : Fin 8) (s : State) (a : Fin 32) (disp : BitVec 16) (w : ℕ) (dbl : Bool),
      Executes core s ∧ Untrapped s ∧
      (∀ k ∈ execCores core s, s.cores[k].exec = true ∧ s.cores[k].sbuf = [] ∧ BitVec.getLsbD (s.cores[k].word 13) 1 = false ∧ BitVec.toNat (s.cores[k].getX a + BitVec.signExtend 64 disp) = w ∧ (regionOf (decide (s.vrc.mode = VoteMode.split)) w).isMem = true) ∧
      disp = 0 ∧ (w % if dbl = true then 8 else 4) = 0 ∧ (∀ k ∈ execCores core s, s.cores[k].resv = some (w / 16))) ∧
    (∃ (s : State) (e : MirrorEntry),
      s.vrc.mode ≠ VoteMode.split ∧ s.rot.hold = false ∧ s.twl.fwdHold = false ∧ Unison 0 s ∧
      (∀ k ∈ execCores 0 s, s.cores[k].sbuf.head? = some e)) ∧
    (∃ (s : State),
      (s.vrc.mode = VoteMode.split ∨ s.rot.hold = true ∨ s.twl.fwdHold = true)) :=
  ⟨⟨0, (regS runS), 5, 8, 0x0100000108, .ldd, by unfold Executes Untrapped; decide +kernel⟩,
    ⟨0, (regS { runS with mems := runS.mems.set 0 [(0x0100000108, 0x80)] }), 5, 8, 0x0100000108, .ldh,
     by unfold Executes Untrapped; decide +kernel⟩,
    ⟨5, (regS { wideS with mems := runS.mems.set 5 [(0x0100000108, 0x80)] }), 5, 8, 0x0100000108, .ldh,
     by unfold Executes Untrapped; decide +kernel⟩,
    ⟨0, (regS runS), 8, 5, 8, 0x0100000108, .std, by unfold Executes Untrapped; decide +kernel⟩,
    ⟨0, (regS runS), 2, 5, 0, 0x0100000100, .stp, by unfold Executes Untrapped; decide +kernel⟩,
    ⟨0, (regS runS), 1, 5, 0, 0x0100000100, .fsd, by unfold Executes Untrapped; decide +kernel⟩,
    ⟨0, (regS runS), 3, 5, 2, 0x0100000102, .sth, by unfold Executes Untrapped; decide +kernel⟩,
    ⟨0, (regS runS), 5, 0, 0x0100000100, true, by unfold Executes Untrapped; decide +kernel⟩,
    ⟨0, (regS runS), 5, 0, 0x0100000100, true, by unfold Executes Untrapped; decide +kernel⟩,
    ⟨0, (onCores (fun c => { c with resv := some 0x10000010 }) (regS runS)), 5, 0, 0x0100000100, false,
     by unfold Executes Untrapped; decide +kernel⟩,
    ⟨(onCores (fun c => { c with sbuf := [{ addr := 0x0100000100, be := 3, data := 0x1234 }] }) runS),
     { addr := 0x0100000100, be := 3, data := 0x1234 },
     ⟨by decide +kernel, by decide +kernel, by decide +kernel, unison_oo3 (by decide +kernel) (by decide +kernel) (by decide +kernel), by decide +kernel⟩⟩,
    ⟨wideS, by decide +kernel⟩⟩

theorem hyps_FloatingPointNeverTraps :
    (∃ (core : Fin 8) (s : State),
      Executes core s ∧ Untrapped s) ∧
    (∃ (core : Fin 8) (s : State) (dbl : Bool) (a : Fin 32) (op : FpOp),
      Executes core s ∧ Untrapped s ∧
      (∀ k ∈ execCores core s, (unpack (fmtOf dbl) ((fun k i => fpBits dbl (s.cores[k].getF i)) k a)).isNan = true) ∧
      (op = FpOp.fadd ∨ op = FpOp.fsub ∨ op = FpOp.fmul ∨ op = FpOp.fdiv ∨ op = FpOp.fsqrt)) ∧
    (∃ (core : Fin 8) (s : State) (dbl : Bool) (a : Fin 32) (op : FpOp),
      Executes core s ∧ Untrapped s ∧
      (∀ k ∈ execCores core s, (unpack (fmtOf dbl) ((fun k i => fpBits dbl (s.cores[k].getF i)) k a)).isNan = true) ∧
      (op = FpOp.fadd ∨ op = FpOp.fsub ∨ op = FpOp.fmul ∨ op = FpOp.fdiv ∨ op = FpOp.fsqrt)) ∧
    (∃ (core : Fin 8) (s : State) (dbl : Bool) (a : Fin 32) (op : FpOp),
      Executes core s ∧ Untrapped s ∧
      (∀ k ∈ execCores core s, (unpack (fmtOf dbl) ((fun k i => fpBits dbl (s.cores[k].getF i)) k a)).isNan = true) ∧
      (op = FpOp.fadd ∨ op = FpOp.fsub ∨ op = FpOp.fmul ∨ op = FpOp.fdiv ∨ op = FpOp.fsqrt)) ∧
    (∃ (core : Fin 8) (s : State) (dbl : Bool) (a : Fin 32) (op : FpOp),
      Executes core s ∧ Untrapped s ∧
      (∀ k ∈ execCores core s, (unpack (fmtOf dbl) ((fun k i => fpBits dbl (s.cores[k].getF i)) k a)).isNan = true) ∧
      (op = FpOp.fcvtL ∨ op = FpOp.fcvtLu ∨ op = FpOp.fcvtW ∨ op = FpOp.fcvtWu)) ∧
    (∃ (core : Fin 8) (s : State) (dbl : Bool) (a b : Fin 32) (op : FpOp),
      Executes core s ∧ Untrapped s ∧
      (∀ k ∈ execCores core s, (unpack (fmtOf dbl) ((fun k i => fpBits dbl (s.cores[k].getF i)) k a)).isNan = true) ∧
      (∀ k ∈ execCores core s, (unpack (fmtOf dbl) ((fun k i => fpBits dbl (s.cores[k].getF i)) k b)).isNan = false) ∧
      (op = FpOp.fmin ∨ op = FpOp.fmax)) :=
  ⟨⟨0, (regS runS), by unfold Executes Untrapped; decide +kernel⟩,
    ⟨0, (regS runS), true, 2, .fadd, by unfold Executes Untrapped; decide +kernel⟩,
    ⟨0, (regS runS), true, 2, .fsqrt, by unfold Executes Untrapped; decide +kernel⟩,
    ⟨0, (regS runS), false, 9, .fmul, by unfold Executes Untrapped; decide +kernel⟩,
    ⟨0, (regS runS), true, 2, .fcvtLu, by unfold Executes Untrapped; decide +kernel⟩,
    ⟨0, (regS runS), true, 2, 1, .fmin, by unfold Executes Untrapped; decide +kernel⟩⟩

theorem hyps_InterruptsOfTheCores :
    (∃ (core : Fin 8) (s : State) (n : ℕ),
      Unison core s ∧ Uncombined core s ∧ execCores core s ≠ [] ∧
      (∀ k ∈ execCores core s, s.cores[k].halted = false ∧ s.cores[k].pend = none ∧ s.cores[k].imprecise = none ∧ s.cores[k].ie = true ∧ s.cores[k].lpc.gen = false ∧ s.cores[k].lic.winner = some n)) ∧
    (∃ (core : Fin 8) (s : State) (n : ℕ),
      Unison core s ∧ Uncombined core s ∧ execCores core s ≠ [] ∧
      (∀ k ∈ execCores core s, s.cores[k].halted = false ∧ s.cores[k].pend = none ∧ s.cores[k].imprecise = none ∧ s.cores[k].ie = true ∧ s.cores[k].lpc.gen = false ∧ s.cores[k].lic.winner = some n)) ∧
    (∃ (core : Fin 8) (s : State),
      Executes core s) ∧
    (∃ (core : Fin 8) (s : State),
      Executes core s) ∧
    (∃ (core : Fin 8) (s : State),
      Uncombined core s ∧ (∀ k ∈ execCores core s, s.cores[k].halted = false ∧ s.cores[k].imprecise = none)) ∧
    (∃ (core : Fin 8) (s : State),
      Uncombined core s) :=
  ⟨⟨0, (onCores (fun c => { c.setWord 0 3 with lic := { pend := 2 ^ 40, en := 2 ^ 40, prio := 5 <<< 160 } }) runS),
     40,
     ⟨unison_oo3 (by decide +kernel) (by decide +kernel) (by decide +kernel), by unfold Uncombined; decide +kernel, by decide +kernel, by decide +kernel⟩⟩,
    ⟨0, (onCores (fun c => { c.setWord 0 3 with lic := { pend := 1, en := 1, prio := 0xF } }) runS), 0,
     ⟨unison_oo3 (by decide +kernel) (by decide +kernel) (by decide +kernel), by unfold Uncombined; decide +kernel, by decide +kernel, by decide +kernel⟩⟩,
    ⟨0, (onCores (fun c => { c with lic := { level := 5, stack := [2] } }) runS), by unfold Executes; decide +kernel⟩,
    ⟨0, runS, by unfold Executes; decide +kernel⟩,
    ⟨0, runS, by unfold Uncombined; decide +kernel⟩,
    ⟨0, runS, by unfold Uncombined; decide +kernel⟩⟩

theorem hyps_LaneLocalRegisters :
    (∃ (core : Fin 8) (s : State) (ctl : BitVec 32),
      Executes core s ∧ ctl.getLsbD 2 = true ∧ (BitVec.setWidth 2 ctl = 1 ∨ BitVec.setWidth 2 ctl = 2)) ∧
    (∃ (core : Fin 8) (s : State) (ctl : BitVec 32),
      Executes core s ∧ ctl.getLsbD 2 = true ∧ (BitVec.setWidth 2 ctl = 1 ∨ BitVec.setWidth 2 ctl = 2)) ∧
    (∃ (core : Fin 8) (s : State),
      Executes core s) ∧
    (∃ (core : Fin 8) (s : State) (n : Fin 16) (v : BitVec 48),
      Executes core s ∧ (∀ k ∈ execCores core s, s.cores[k].lpc.gen = false) ∧
      (∀ k ∈ execCores core s, s.cores[k].lpc.cnt[n] = v)) ∧
    (∃ (core : Fin 8) (s : State),
      Executes core s ∧ (∀ k ∈ execCores core s, s.cores[k].lpc.gen = false)) ∧
    (∃ (core : Fin 8) (s : State) (dt : ℕ) (n : Fin 16),
      (∀ k ∈ execCores core s,
  have x := (advance dt s).cores[k].timers[n];
  x.run = true ∧ x.mode = 1 ∧ x.due ≤ (advance dt s).tim.elapsed.toNat / 1000 ∧ x.ie = true)) ∧
    (∃ (core : Fin 8) (s : State) (n : Fin 16) (ev : BitVec 48),
      (∀ k ∈ execCores core s, s.cores[k].lpc.gen = true ∧ 2 ^ 48 ≤ s.cores[k].lpc.cnt[n].toNat + ev.toNat)) :=
  ⟨⟨0, runS, 0xD, by unfold Executes; decide +kernel⟩,
    ⟨0, runS, 6, by unfold Executes; decide +kernel⟩,
    ⟨0, runS, by unfold Executes; decide +kernel⟩,
    ⟨0, runS, 15, 0, by unfold Executes; decide +kernel⟩,
    ⟨0, runS, by unfold Executes; decide +kernel⟩,
    ⟨0,
     (onCores (fun c => { c with timers := c.timers.set 3 { mode := 1, run := true, ie := true, due := 0 } }) runS),
     0, 3, by decide +kernel⟩,
    ⟨0,
     (onCores (fun c => { c with lpc := { c.lpc with gen := true, ien := 1, cnt := c.lpc.cnt.set 0 0xFFFFFFFFFFFF } }) runS),
     0, 1, by decide +kernel⟩⟩

theorem hyps_VotedRegisterReads :
    (∃ (core : Fin 8) (s : State),
      Executes core s ∧ Unison core s ∧ Uncombined core s ∧ s.pwr.on.getLsbD 5 = true) ∧
    (∃ (core : Fin 8) (s : State) (b : Fin 3) (e : FieldEvent) (q : List FieldEvent),
      Executes core s ∧ Unison core s ∧ Uncombined core s ∧ s.pwr.on.getLsbD 5 = true ∧ banksFitted s = true ∧
      s.clk.clken0.getLsbD (2 + b.val) = true ∧ s.banks[b].fifo = e :: q) ∧
    (∃ (core : Fin 8) (s : State) (e : BrgErr) (q : List BrgErr),
      Executes core s ∧ Unison core s ∧ Uncombined core s ∧ s.pwr.on.getLsbD 5 = true ∧ s.pwr.on.getLsbD 11 = true ∧
      s.clk.clken0.getLsbD 1 = true ∧ s.brg.log = e :: q) ∧
    (∃ (core : Fin 8) (s : State),
      Executes core s ∧ Unison core s ∧ Uncombined core s ∧ s.pwr.on.getLsbD 5 = true ∧ s.pwr.on.getLsbD 11 = true ∧
      s.clk.clken0.getLsbD 1 = true ∧ ((s.brg.posted.any fun p => decide (p.master = masterOf core s)) = false)) ∧
    (∃ (core : Fin 8) (s : State),
      Executes core s ∧ Unison core s ∧ Uncombined core s ∧ s.pwr.on.getLsbD 5 = true ∧ s.pwr.on.getLsbD 11 = true ∧
      s.clk.clken0.getLsbD 1 = true ∧ ((s.brg.posted.any fun p => decide (p.master = masterOf core s)) = true)) :=
  ⟨⟨0, (regS runS),
     ⟨by unfold Executes; decide +kernel, unison_oo3 (by decide +kernel) (by decide +kernel) (by decide +kernel), by unfold Uncombined; decide +kernel, by decide +kernel⟩⟩,
    ⟨0, (regS { runS with banks := runS.banks.set 1 { fifo := [{ ns := 1500000000, flags := 3 }] } }), 1,
     { ns := 1500000000, flags := 3 }, [],
     ⟨by unfold Executes; decide +kernel, unison_oo3 (by decide +kernel) (by decide +kernel) (by decide +kernel), by unfold Uncombined; decide +kernel, by decide +kernel, by decide +kernel, by decide +kernel, by decide +kernel⟩⟩,
    ⟨0, (regS { runS with brg := { log := [{ w0 := 1, w1 := 2, w2 := 3, w3 := 4 }] } }),
     { w0 := 1, w1 := 2, w2 := 3, w3 := 4 }, [],
     ⟨by unfold Executes; decide +kernel, unison_oo3 (by decide +kernel) (by decide +kernel) (by decide +kernel), by unfold Uncombined; decide +kernel, by decide +kernel, by decide +kernel, by decide +kernel, by decide +kernel⟩⟩,
    ⟨0, (regS runS),
     ⟨by unfold Executes; decide +kernel, unison_oo3 (by decide +kernel) (by decide +kernel) (by decide +kernel), by unfold Uncombined; decide +kernel, by decide +kernel, by decide +kernel, by decide +kernel, by decide +kernel⟩⟩,
    ⟨0,
     (regS { runS with brg := { posted := [{ tag := 0, master := none, addr := 0x800000000, be := 1, data := 1, exec := true }] } }),
     ⟨by unfold Executes; decide +kernel, unison_oo3 (by decide +kernel) (by decide +kernel) (by decide +kernel), by unfold Uncombined; decide +kernel, by decide +kernel, by decide +kernel, by decide +kernel, by decide +kernel⟩⟩⟩

theorem hyps_VotedRegisterWrites :
    (∃ (core : Fin 8) (s : State),
      Executes core s ∧ Unison core s ∧ Uncombined core s ∧ s.pwr.on.getLsbD 5 = true) ∧
    (∃ (core : Fin 8) (s : State),
      Executes core s ∧ Unison core s ∧ Uncombined core s ∧ s.pwr.on.getLsbD 5 = true) ∧
    (∃ (core : Fin 8) (s : State) (b : Fin 3),
      Executes core s ∧ Unison core s ∧ Uncombined core s ∧ s.pwr.on.getLsbD 5 = true ∧ banksFitted s = true ∧
      s.clk.clken0.getLsbD (2 + b.val) = true) ∧
    (∃ (core : Fin 8) (s : State) (b : Fin 3),
      Executes core s ∧ Unison core s ∧ Uncombined core s ∧ s.pwr.on.getLsbD 5 = true ∧ banksFitted s = true ∧
      s.clk.clken0.getLsbD (2 + b.val) = true) ∧
    (∃ (core : Fin 8) (s : State) (r : Fin 16),
      Executes core s ∧ Unison core s ∧ Uncombined core s ∧ s.pwr.on.getLsbD 5 = true ∧ s.pwr.on.getLsbD 11 = true ∧
      s.clk.clken0.getLsbD 1 = true ∧ 10 ≤ r.val) ∧
    (∃ (core : Fin 8) (s : State) (r : Fin 16),
      Executes core s ∧ Unison core s ∧ Uncombined core s ∧ s.pwr.on.getLsbD 5 = true ∧ s.pwr.on.getLsbD 11 = true ∧
      s.clk.clken0.getLsbD 1 = true ∧ 10 ≤ r.val) ∧
    (∃ (core : Fin 8) (s : State) (r : Fin 16),
      Executes core s ∧ Unison core s ∧ Uncombined core s ∧ s.pwr.on.getLsbD 5 = true ∧ s.pwr.on.getLsbD 11 = true ∧
      s.clk.clken0.getLsbD 1 = true ∧ r.val < 10) ∧
    (∃ (core : Fin 8) (s : State),
      Executes core s ∧ Unison core s ∧ Uncombined core s ∧ s.pwr.on.getLsbD 5 = true ∧ s.pwr.on.getLsbD 11 = true ∧
      s.clk.clken0.getLsbD 1 = true) ∧
    (∃ (core : Fin 8) (s : State),
      Executes core s ∧ Unison core s ∧ Uncombined core s ∧ s.pwr.on.getLsbD 5 = true ∧ s.clk.clken0.getLsbD 6 = true) :=
  ⟨⟨0, (regS runS),
     ⟨by unfold Executes; decide +kernel, unison_oo3 (by decide +kernel) (by decide +kernel) (by decide +kernel), by unfold Uncombined; decide +kernel, by decide +kernel⟩⟩,
    ⟨0, (regS { runS with ints := runS.ints.set 2 { stat := 5, en := 4 } }),
     ⟨by unfold Executes; decide +kernel, unison_oo3 (by decide +kernel) (by decide +kernel) (by decide +kernel), by unfold Uncombined; decide +kernel, by decide +kernel⟩⟩,
    ⟨0, (regS runS), 2,
     ⟨by unfold Executes; decide +kernel, unison_oo3 (by decide +kernel) (by decide +kernel) (by decide +kernel), by unfold Uncombined; decide +kernel, by decide +kernel, by decide +kernel, by decide +kernel⟩⟩,
    ⟨0, (regS runS), 0,
     ⟨by unfold Executes; decide +kernel, unison_oo3 (by decide +kernel) (by decide +kernel) (by decide +kernel), by unfold Uncombined; decide +kernel, by decide +kernel, by decide +kernel, by decide +kernel⟩⟩,
    ⟨0, (regS runS), 10,
     ⟨by unfold Executes; decide +kernel, unison_oo3 (by decide +kernel) (by decide +kernel) (by decide +kernel), by unfold Uncombined; decide +kernel, by decide +kernel, by decide +kernel, by decide +kernel, by decide +kernel⟩⟩,
    ⟨0, (regS runS), 15,
     ⟨by unfold Executes; decide +kernel, unison_oo3 (by decide +kernel) (by decide +kernel) (by decide +kernel), by unfold Uncombined; decide +kernel, by decide +kernel, by decide +kernel, by decide +kernel, by decide +kernel⟩⟩,
    ⟨0, (regS runS), 9,
     ⟨by unfold Executes; decide +kernel, unison_oo3 (by decide +kernel) (by decide +kernel) (by decide +kernel), by unfold Uncombined; decide +kernel, by decide +kernel, by decide +kernel, by decide +kernel, by decide +kernel⟩⟩,
    ⟨0, (regS { runS with ints := runS.ints.set 9 { stat := 0xF0F } }),
     ⟨by unfold Executes; decide +kernel, unison_oo3 (by decide +kernel) (by decide +kernel) (by decide +kernel), by unfold Uncombined; decide +kernel, by decide +kernel, by decide +kernel, by decide +kernel⟩⟩,
    ⟨0, (regS runS),
     ⟨by unfold Executes; decide +kernel, unison_oo3 (by decide +kernel) (by decide +kernel) (by decide +kernel), by unfold Uncombined; decide +kernel, by decide +kernel, by decide +kernel⟩⟩⟩

theorem hyps_TicksReleaseAndLatchTasks :
    (∃ (s : State) (dt : ℕ),
      ((advance dt s).cys.run = false ∨ (advance dt s).cys.stepPend = none ∧ tickNow (advance dt s) ≤ (advance dt s).cys.tick.toNat.cast)) ∧
    (∃ (s : State) (dt : ℕ),
      ((advance dt s).cys.run = false ∨ (advance dt s).cys.stepPend = none ∧ tickNow (advance dt s) ≤ (advance dt s).cys.tick.toNat.cast)) ∧
    (∃ (s : State) (dt : ℕ),
      (advance dt s).cys.run = true ∧ (advance dt s).cys.stepPend = none ∧ (advance dt s).twl.role ≠ TwinRole.standby ∧
      (advance dt s).cys.tick.toNat.cast < tickNow (advance dt s) ∧ configured (advance dt s) ≠ [] ∧
      tickNow (advance dt s) % (kMin (advance dt s)).cast = 0) ∧
    (∃ (s : State) (dt : ℕ),
      (advance dt s).cys.run = true ∧ (advance dt s).cys.stepPend = none ∧ (advance dt s).twl.role ≠ TwinRole.standby ∧
      (advance dt s).cys.tick.toNat.cast < tickNow (advance dt s) ∧ configured (advance dt s) ≠ [] ∧
      tickNow (advance dt s) % (kMin (advance dt s)).cast = 0) ∧
    (∃ (s : State) (dt : ℕ) (n : Fin 8) (q : List (Fin 8)),
      (advance dt s).cys.latchQ = n :: q ∧ n ∉ q ∧ (advance dt s).cys.tasks[n].state = CycState.latch ∧
      (advance dt s).twl.role ≠ TwinRole.standby) ∧
    (∃ (s : State) (dt : ℕ),
      (advance dt s).cys.run = true ∧ (advance dt s).cys.warned = false ∧ configured (advance dt s) ≠ []) ∧
    (∃ (s : State) (dt : ℕ),
      (advance dt s).cys.warned = true ∧ (advance dt s).cys.gap = false) ∧
    (∃ (s : State) (dt : ℕ),
      (advance dt s).cys.warned = true ∧ (advance dt s).cys.gap = false) :=
  ⟨⟨runS, 0, by decide +kernel⟩,
    ⟨{ cycS .idle with cys := { (cycS .idle).cys with tick := 4 } }, 0, by decide +kernel⟩,
    ⟨(cycS .idle), 0, by decide +kernel⟩,
    ⟨(cycS .run), 0, by decide +kernel⟩,
    ⟨{ cycS .latch with cys := { (cycS .latch).cys with latchQ := [0] } }, 0, 0, [], by decide +kernel⟩,
    ⟨(cycS .idle), 0, by decide +kernel⟩,
    ⟨{ cycS .idle with cys := { (cycS .idle).cys with warned := true } }, 0, by decide +kernel⟩,
    ⟨{ cycS .idle with cys := { (cycS .idle).cys with warned := true, ack := true } }, 0, by decide +kernel⟩⟩

theorem hyps_CyclesCommitPostAndClose :
    (∃ (s : State) (dt : ℕ) (n : Fin 8) (g : ℕ) (c : TaskCfg),
      (advance dt s).cys.commit = some (n, g) ∧ taskCfg (advance dt s) n = some c ∧
      (advance dt s).twl.role ≠ TwinRole.standby ∧ (advance dt s).twl.resetDue = false ∧
      (advance dt s).twl.releaseAtCommit = false) ∧
    (∃ (s : State) (dt : ℕ) (n : Fin 8) (g : ℕ) (c : TaskCfg),
      (advance dt s).cys.commit = some (n, g) ∧ taskCfg (advance dt s) n = some c ∧
      (advance dt s).twl.role ≠ TwinRole.standby ∧ (advance dt s).twl.resetDue = false ∧
      (advance dt s).twl.releaseAtCommit = false) ∧
    (∃ (s : State) (dt : ℕ) (n : Fin 8) (g : ℕ),
      (advance dt s).cys.posting = some (n, g) ∧ (advance dt s).twl.role ≠ TwinRole.standby ∧
      (advance dt s).twl.resetDue = false) ∧
    (∃ (core : Fin 8) (s : State) (n : Fin 8),
      Executes core s ∧ Unison core s ∧ Uncombined core s ∧ s.pwr.on.getLsbD 5 = true ∧
      s.cys.tasks[n].state = CycState.run ∧ s.twl.role ≠ TwinRole.standby ∧ s.twl.resetDue = false) ∧
    (∃ (s : State) (dt : ℕ) (n : Fin 8),
      (advance dt s).cys.tasks[n].state = CycState.run) ∧
    (∃ (s : State) (dt : ℕ) (n : Fin 8),
      (advance dt s).cys.tasks[n].state ≠ CycState.run) ∧
    (∃ (s : State) (dt : ℕ) (n : Fin 8) (c : TaskCfg),
      (advance dt s).cys.tasks[n].state = CycState.overrun ∧ taskCfg (advance dt s) n = some c ∧ c.stall = 0 ∧
      (advance dt s).twl.role ≠ TwinRole.standby ∧ (advance dt s).twl.resetDue = false) ∧
    (∃ (core : Fin 8) (s : State),
      Executes core s ∧ Unison core s ∧ Uncombined core s ∧ s.pwr.on.getLsbD 5 = true ∧ s.cys.warned = true ∧
      s.cys.gap = false ∧ (s.vrc.mode = VoteMode.oo3 ∨ s.vrc.mode = VoteMode.oo2)) :=
  ⟨⟨{ cycS .commit with cys := { (cycS .commit).cys with commit := some (0, 0) } }, 0, 0, 0, taskA,
     by decide +kernel⟩,
    ⟨{ cycS .commit with cys := { (cycS .commit).cys with commit := some (0, 64) } }, 0, 0, 64, taskA,
     by decide +kernel⟩,
    ⟨{ cycS .commit with cys := { (cycS .commit).cys with posting := some (0, 1) } }, 0, 0, 1, by decide +kernel⟩,
    ⟨0, (cycS .run), 0,
     ⟨by unfold Executes; decide +kernel, unison_oo3 (by decide +kernel) (by decide +kernel) (by decide +kernel), by unfold Uncombined; decide +kernel, by decide +kernel, by decide +kernel, by decide +kernel, by decide +kernel⟩⟩,
    ⟨(cycS .run), 0, 0, by decide +kernel⟩,
    ⟨(cycS .idle), 0, 0, by decide +kernel⟩,
    ⟨{ cycS .overrun with chans := runS.chans.set 0 { kind := 3, state := .driven } }, 0, 0, taskA, by decide +kernel⟩,
    ⟨0, { cycS .idle with cys := { (cycS .idle).cys with warned := true } },
     ⟨by unfold Executes; decide +kernel, unison_oo3 (by decide +kernel) (by decide +kernel) (by decide +kernel), by unfold Uncombined; decide +kernel, by decide +kernel, by decide +kernel, by decide +kernel, by decide +kernel⟩⟩⟩

theorem hyps_TasksReturnAndCallTheExecutive :
    (∃ (s : State),
      s.cys.current = none) ∧
    (∃ (s : State) (k : Fin 8),
      s.cys.current = some 8 ∧ leadCore s = some k ∧ s.cores[k].ready = true) ∧
    (∃ (s : State) (n k : Fin 8),
      s.cys.current = some ⟨n.val, by omega⟩ ∧ leadCore s = some k ∧ Executes k s ∧ Unison k s ∧ Uncombined k s ∧
      s.pwr.on.getLsbD 5 = true ∧ 64 < BitVec.toNat (s.cores[k].getX 4) ∧ s.cys.tasks[n].state = CycState.run ∧
      s.twl.role ≠ TwinRole.standby ∧ s.twl.resetDue = false) ∧
    (∃ (s : State) (a : ℕ),
      syscaller a s = none ∧ a = 1) ∧
    (∃ (s : State) (a : ℕ),
      syscaller a s = none ∧ a = 4) ∧
    (∃ (s : State) (n : Fin 9) (k : Fin 8),
      (s.vrc.mode = VoteMode.oo3 ∨ s.vrc.mode = VoteMode.oo2) ∧ syscaller 2 s = some (n, k)) ∧
    (∃ (s : State) (n : Fin 9) (k : Fin 8),
      (s.vrc.mode = VoteMode.oo3 ∨ s.vrc.mode = VoteMode.oo2) ∧ syscaller 1 s = some (n, k) ∧
      33024 ≤ BitVec.toNat (s.cores[k].getX 4) ∧ BitVec.toNat (s.cores[k].getX 4) ≤ 36863) ∧
    (∃ (s : State) (n : Fin 9) (k : Fin 8),
      (s.vrc.mode = VoteMode.oo3 ∨ s.vrc.mode = VoteMode.oo2) ∧ syscaller 1 s = some (n, k) ∧
      33024 ≤ BitVec.toNat (s.cores[k].getX 4) ∧ BitVec.toNat (s.cores[k].getX 4) ≤ 36863) ∧
    (∃ (s : State) (n : Fin 9) (k : Fin 8),
      (s.vrc.mode = VoteMode.oo3 ∨ s.vrc.mode = VoteMode.oo2) ∧ syscaller 4 s = some (n, k)) ∧
    (∃ (s : State) (n k : Fin 8),
      syscaller 3 s = some (⟨n.val, by omega⟩, k) ∧ s.cys.tasks[n].state = CycState.run ∧ s.twl.role ≠ TwinRole.standby) ∧
    (∃ (s : State) (dt : ℕ) (a : AppImage),
      (advance dt s).cys.switchGap = true ∧ (advance dt s).cys.gap = true ∧ (advance dt s).cys.olc = Olc.switching ∧
      (advance dt s).cys.staged = some a ∧ a.migrations = [] ∧ isRun (advance dt s) = true) ∧
    (∃ (s : State) (dt : ℕ) (a : AppImage),
      (advance dt s).cys.olc = Olc.accepted ∧ (advance dt s).cys.staged = some a) :=
  ⟨⟨runS, by decide +kernel⟩,
    ⟨{ cycS .idle with cys := { (cycS .idle).cys with current := some 8, bgRunning := true } }, 0, by decide +kernel⟩,
    ⟨(onCores (fun c => c.setX 4 65) { cycS .run with cys := { (cycS .run).cys with current := some 0 } }), 0, 0,
     ⟨by decide +kernel, by decide +kernel, by unfold Executes; decide +kernel, unison_oo3 (by decide +kernel) (by decide +kernel) (by decide +kernel), by unfold Uncombined; decide +kernel, by decide +kernel, by decide +kernel, by decide +kernel, by decide +kernel, by decide +kernel⟩⟩,
    ⟨(cycS .idle), 1, by decide +kernel⟩,
    ⟨(cycS .idle), 4, by decide +kernel⟩,
    ⟨(callS 2), 0, 0, by decide +kernel⟩,
    ⟨(onCores (fun c => c.setX 4 0x8100) (callS 1)), 0, 0, by decide +kernel⟩,
    ⟨(onCores (fun c => c.setX 4 0x8FFF) (callS 1)), 0, 0, by decide +kernel⟩,
    ⟨(onCores (fun c => c.setX 4 3) { callS 4 with chans := runS.chans.set 0 { kind := 3, state := .fault } }), 0, 0,
     by decide +kernel⟩,
    ⟨(callS 3), 0, 0, by decide +kernel⟩,
    ⟨{ cycS .idle with cys := { (cycS .idle).cys with gap := true, switchGap := true, olc := .switching, staged := some appA } },
     0, appA, by decide +kernel⟩,
    ⟨{ cycS .idle with cys := { (cycS .idle).cys with olc := .accepted, staged := some appA } }, 0, appA,
     by decide +kernel⟩⟩

theorem hyps_ReferenceSelectionAndRamps :
    (∃ (s : State) (dt : ℕ),
      s.mod.state = ModState.firing ∧ (advance dt s).clk.startWin = true ∧ (advance dt s).clk.state = ClkState.start ∧
      (advance dt s).clk.mask.getLsbD 2 = true) ∧
    (∃ (s : State) (dt : ℕ),
      s.mod.state = ModState.firing ∧ (advance dt s).clk.startWin = true ∧ (advance dt s).clk.state = ClkState.start) ∧
    (∃ (s : State) (dt : ℕ),
      (advance dt s).clk.state = ClkState.locked ∧
      bestSource
      (have __src := (advance dt s).clk;
      { state := __src.state, ref := __src.ref, target := __src.target, valid := putBit (advance dt s).clk.valid (advance dt s).clk.ref false, emberFail := __src.emberFail, startWin := __src.startWin, lock := __src.lock, coast := __src.coast, quiet := __src.quiet, lostCause := __src.lostCause, rampAt := __src.rampAt, fromRef := __src.fromRef, coastAt := __src.coastAt, rampStep := __src.rampStep, ramps := __src.ramps, revert := __src.revert, role := __src.role, mask := __src.mask, clken0 := __src.clken0, clken1 := __src.clken1, want0 := __src.want0, want1 := __src.want1, fmVoid := __src.fmVoid, fmDone := __src.fmDone, fmBusy := __src.fmBusy, fmRef := __src.fmRef, fmMeas := __src.fmMeas, fmGate := __src.fmGate, fmCount := __src.fmCount, fmRamped := __src.fmRamped, berrAddr := __src.berrAddr, berrValid := __src.berrValid, berrMaster := __src.berrMaster, berrWr := __src.berrWr, berrKind := __src.berrKind, berrH := __src.berrH, berrCount := __src.berrCount, refSwitches := __src.refSwitches, coastEntries := __src.coastEntries, coastMs := __src.coastMs, coastSub := __src.coastSub, freqs := __src.freqs }) ≠
  3) ∧
    (∃ (s : State) (dt : ℕ),
      (advance dt s).clk.state = ClkState.switching ∧ 1 ≤ (advance dt s).clk.rampStep ∧
      (advance dt s).clk.rampStep ≤ 8 ∧ (advance dt s).clk.rampStep ≠ 5) ∧
    (∃ (s : State) (dt : ℕ),
      (advance dt s).clk.state = ClkState.switching ∧ 1 ≤ (advance dt s).clk.rampStep ∧
      (advance dt s).clk.rampStep ≤ 8 ∧ (advance dt s).clk.rampStep ≠ 5) ∧
    (∃ (s : State) (dt : ℕ),
      (advance dt s).clk.state = ClkState.switching ∧ (advance dt s).clk.rampStep = 5 ∧ (advance dt s).clk.target ≤ 2) ∧
    (∃ (s : State) (dt : ℕ),
      (advance dt s).clk.state = ClkState.switching ∧ (advance dt s).clk.rampStep = 9 ∧ (advance dt s).clk.target ≤ 2 ∧
      (advance dt s).clk.fromRef ≤ 2 ∧ (advance dt s).clk.revert = false ∧
      (advance dt s).clk.valid.getLsbD (advance dt s).clk.ref = true) :=
  ⟨⟨{ runS with mod := { runS.mod with state := .firing }, clk := {} }, 0, by decide +kernel⟩,
    ⟨{ runS with mod := { runS.mod with state := .firing }, clk := {} }, 0, by decide +kernel⟩,
    ⟨{ runS with clk := { runS.clk with ref := 0, valid := 5 } }, 0, by decide +kernel⟩,
    ⟨{ runS with clk := { runS.clk with state := .switching, target := 2, fromRef := 0, ref := 0, rampStep := 1 } },
     0, by decide +kernel⟩,
    ⟨{ runS with clk := { runS.clk with state := .switching, target := 2, fromRef := 0, ref := 2, rampStep := 8 } },
     0, by decide +kernel⟩,
    ⟨{ runS with clk := { runS.clk with state := .switching, target := 2, fromRef := 0, ref := 0, rampStep := 5 } },
     0, by decide +kernel⟩,
    ⟨{ runS with clk := { runS.clk with state := .switching, target := 2, fromRef := 0, ref := 2, rampStep := 9, revert := false } },
     0, by decide +kernel⟩⟩

theorem hyps_SourcesAndMonitors :
    (∃ (s : State) (dt : ℕ),
      (advance dt s).clk.mask.getLsbD 2 = true ∧ (advance dt s).clk.state = ClkState.locked ∧
      (advance dt s).clk.revert = false ∧ (advance dt s).clk.ref = 0 ∧ (advance dt s).clk.valid.getLsbD 0 = true) ∧
    (∃ (s : State) (dt : ℕ) (n : Fin 3),
      (advance dt s).clk.ref ≠ n.val ∧ (advance dt s).clk.target ≠ n.val) ∧
    (∃ (s : State) (dt : ℕ),
      s.mod.state ≠ ModState.cold ∧ (advance dt s).clk.startWin = false) ∧
    (∃ (s : State) (dt : ℕ),
      (advance dt s).clk.emberFail = true) ∧
    (∃ (s : State) (b : Fin 11),
      s.mod.state ≠ ModState.cold ∧ 7 ≤ b.val) ∧
    (∃ (s : State) (b : Fin 11),
      s.mod.state ≠ ModState.cold ∧ 7 ≤ b.val) :=
  ⟨⟨{ runS with clk := { runS.clk with ref := 0, valid := 1, revert := false } }, 0, by decide +kernel⟩,
    ⟨runS, 0, 1, by decide +kernel⟩,
    ⟨runS, 0, by decide +kernel⟩,
    ⟨{ runS with clk := { runS.clk with emberFail := true } }, 0, by decide +kernel⟩,
    ⟨runS, 7, by decide +kernel⟩,
    ⟨runS, 10, by decide +kernel⟩⟩

theorem hyps_FrequencyMeter :
    (∃ (r m : BitVec 4) (g : BitVec 24),
      g ≠ 0 ∧ r.toNat < 13 ∧ m.toNat < 13) ∧
    (∃ (s : State) (dt : ℕ),
      (advance dt s).clk.fmBusy = true) :=
  ⟨⟨12, 0, 1, by decide +kernel⟩,
    ⟨{ runS with clk := { runS.clk with fmBusy := true } }, 0, by decide +kernel⟩⟩

theorem hyps_TimeStepsSlewsAndRate :
    (∃ (s : State) (ns : BitVec 32) (sec : BitVec 48),
      adjInRange (writeAdj 2 ns sec s).tim = true) ∧
    (∃ (s : State) (ns : BitVec 32) (sec : BitVec 48),
      adjInRange (writeAdj 2 ns sec s).tim = false) ∧
    (∃ (s : State) (ns : BitVec 32),
      adjInRange (writeAdj 1 ns 0 s).tim = true ∧ ns ≠ 0) ∧
    (∃ (s : State) (ns : BitVec 32),
      adjInRange (writeAdj 1 ns 0 s).tim = true ∧ ns ≠ 0) ∧
    (∃ (s : State) (dt : ℕ),
      (advance dt s).tim.busy = true ∧ (advance dt s).tim.slewEnd.toNat ≤ (advance dt s).tim.frc.toNat) ∧
    (∃ (r : BitVec 32),
      clampRate r.toInt = r.toInt) ∧
    (∃ (s : State) (dt : ℕ),
      (advance dt s).tim.timeLocal = false) :=
  ⟨⟨runS, 999999999, 1, by decide +kernel⟩,
    ⟨runS, 1000000000, 0, by decide +kernel⟩,
    ⟨runS, 1, by decide +kernel⟩,
    ⟨runS, 0xFFFFFFFF, by decide +kernel⟩,
    ⟨{ runS with tim := { busy := true, sl := 5, slewEnd := 100, frc := 100 } }, 0, by decide +kernel⟩,
    ⟨1000, by decide +kernel⟩,
    ⟨ptpS, 0, by decide +kernel⟩⟩

theorem hyps_OrdinaryClockFollowsItsMaster :
    (∃ (s : State) (dt : ℕ) (a : PtpAnnounce),
      clockRuns (advance dt s) = true ∧ a.domain.toNat = par (advance dt s) 8976 1 ∧
      masterCapable (advance dt s) = false ∧ (advance dt s).tim.master = none) ∧
    (∃ (s : State) (dt : ℕ),
      clockRuns (advance dt s) = true ∧ masterCapable (advance dt s) = false) ∧
    (∃ (s : State) (dt : ℕ) (m : Master) (dom log : BitVec 8),
      clockRuns (advance dt s) = true ∧ (advance dt s).tim.master = some m ∧ dom.toNat = par (advance dt s) 8976 1 ∧
      -4 ≤ log.toInt ∧ log.toInt ≤ 1) ∧
    (∃ (s : State) (dt : ℕ) (m : Master) (dom log : BitVec 8),
      clockRuns (advance dt s) = true ∧ (advance dt s).tim.master = some m ∧ dom.toNat = par (advance dt s) 8976 1 ∧
      -4 ≤ log.toInt ∧ log.toInt ≤ 1) ∧
    (∃ (s : State) (dt : ℕ) (m : Master) (w : SyncWait),
      clockRuns (advance dt s) = true ∧ (advance dt s).tim.master = some m ∧ (advance dt s).tim.sync = some w ∧
      portDelay w.port (advance dt s) = none) ∧
    (∃ (s : State) (dt : ℕ) (m : Master) (w : SyncWait) (d : ℤ),
      clockRuns (advance dt s) = true ∧ (advance dt s).tim.master = some m ∧ (advance dt s).tim.sync = some w ∧
      portDelay w.port (advance dt s) = some d ∧ (advance dt s).tim.elapsed ≤ w.due ∧
      ((advance dt s).tim.lastSeq = none ∨ (advance dt s).tim.lastSeq = some (w.seq - 1))) ∧
    (∃ (s : State) (dt : ℕ) (m : Master),
      clockRuns (advance dt s) = true ∧ (advance dt s).tim.master = some m ∧ (advance dt s).tim.hold = false) ∧
    (∃ (s : State) (dt : ℕ),
      clockRuns (advance dt s) = true ∧ (advance dt s).tim.gmSelf = true) :=
  ⟨⟨netS, 0,
     { src := 1, domain := 0, p1 := 128, cls := 6, acc := 0x21, var := 0, p2 := 128, gm := 1, steps := 0, tai := true },
     by decide +kernel⟩,
    ⟨netS, 0, by decide +kernel⟩,
    ⟨ptpS, 0, masterA, 0, 0xFC, by decide +kernel⟩,
    ⟨ptpS, 0, masterA, 0, 1, by decide +kernel⟩,
    ⟨ptpS, 0, masterA, { seq := 9, rx := 0, corr := 0, port := 1, due := 1000000000 }, by decide +kernel⟩,
    ⟨{ ptpS with tim := { ptpS.tim with lastSeq := some 8, delay := ptpS.tim.delay.set 1 { valid := true, delays := [100] } } },
     0, masterA, { seq := 9, rx := 0, corr := 0, port := 1, due := 1000000000 }, 100, by decide +kernel⟩,
    ⟨ptpS, 0, masterA, by decide +kernel⟩,
    ⟨{ netS with tim := { netS.tim with gmSelf := true } }, 0, by decide +kernel⟩⟩

theorem hyps_LinkDelayAndTransparentClock :
    (∃ (s : State) (dt : ℕ) (p : Fin 2),
      switchOn (advance dt s) = true ∧ (advance dt s).lnc.spd[p] ≠ 0 ∧ (advance dt s).tim.delay[p].waiting = true ∧
      (advance dt s).tim.delay[p].fails = 2) ∧
    (∃ (s : State) (dt : ℕ) (p : Fin 2),
      switchOn (advance dt s) = true ∧ (advance dt s).lnc.spd[p] ≠ 0 ∧ (advance dt s).tim.delay[p].waiting = false) ∧
    (∃ (s : State) (dt : ℕ) (p : Fin 2),
      switchOn (advance dt s) = true ∧ (advance dt s).lnc.spd[p] ≠ 0) ∧
    (∃ (s : State) (dt : ℕ) (p : Fin 2),
      switchOn (advance dt s) = true ∧ (advance dt s).lnc.spd[p] ≠ 0 ∧ (advance dt s).tim.delay[p].waiting = true) ∧
    (∃ (s : State) (dt : ℕ) (p : Fin 2) (corr : BitVec 64) (n : BitVec 32) (tags : Fin 4),
      switchOn (advance dt s) = true ∧ (advance dt s).lnc.spd[0] ≠ 0 ∧ (advance dt s).lnc.spd[1] ≠ 0 ∧
      parOn (advance dt s) 8976 13 = true ∧ tags.val ≤ 1 ∧ corr ≠ 9223372036854775807 ∧
      corr.toInt + residence (advance dt s) n.toNat + (portDelay p (advance dt s)).getD 0 ≤ 9223372036854775807) ∧
    (∃ (s : State) (dt : ℕ),
      switchOn (advance dt s) = true ∧ (advance dt s).lnc.spd[0] ≠ 0 ∧ (advance dt s).lnc.spd[1] ≠ 0) :=
  ⟨⟨{ netS with tim := { netS.tim with delay := netS.tim.delay.set 0 { waiting := true, fails := 2, valid := true } } },
     0, 0, by decide +kernel⟩,
    ⟨netS, 0, 1, by decide +kernel⟩,
    ⟨netS, 0, 1, by decide +kernel⟩,
    ⟨{ netS with tim := { netS.tim with delay := netS.tim.delay.set 0 { waiting := true, fresh := 1 } } }, 0, 0,
     by decide +kernel⟩,
    ⟨netS, 0, 0, 0x1000, 500, 1, by decide +kernel⟩,
    ⟨netS, 0, by decide +kernel⟩⟩

theorem hyps_BankTimeFollowsSyncPulses :
    (∃ (s : State) (dt : ℕ) (b : Fin 3),
      (advance dt s).tim.frame.length = 18 ∧ s.banks[b].base = none) ∧
    (∃ (s : State) (b : Fin 3) (rx : PulseRx),
      rx ≠ PulseRx.good ∧ s.banks[b].timeValid = true ∧ s.banks[b].badRun = 2) :=
  ⟨⟨{ runS with tim := { frame := syncFrame runS 1000000 } }, 0, 2, by decide +kernel⟩,
    ⟨{ runS with banks := runS.banks.set 1 { timeValid := true, badRun := 2 } }, 1, .missing, by decide +kernel⟩⟩

theorem hyps_InputFaultsAndChanges :
    (∃ (s : State) (ch : Fin 48) (v : Bool),
      s.chans[ch].state = ChanState.input ∧ s.chans[ch].filt ≠ v ∧
      s.banks[bankOf ch].coRise.getLsbD (idxOf ch) = false ∧ s.banks[bankOf ch].coFall.getLsbD (idxOf ch) = false) ∧
    (∃ (s : State) (ch : Fin 48) (v : Bool),
      s.chans[ch].state = ChanState.input ∧ s.chans[ch].filt ≠ v ∧
      s.banks[bankOf ch].coRise.getLsbD (idxOf ch) = false ∧ s.banks[bankOf ch].coFall.getLsbD (idxOf ch) = false) ∧
    (∃ (s : State) (ch : Fin 48),
      s.chans[ch].state = ChanState.input ∧ s.chans[ch].kind = 1) :=
  ⟨⟨(chanS { kind := 1, state := .input }), 0, true, by decide +kernel⟩,
    ⟨(chanS { kind := 1, state := .input, filt := true }), 0, false, by decide +kernel⟩,
    ⟨(chanS { kind := 1, state := .input }), 0, by decide +kernel⟩⟩

theorem hyps_OutputSupervisionFaultsTheChannel :
    (∃ (s : State) (ch : Fin 48),
      s.chans[ch].isOut = true ∧ s.chans[ch].state.live = true ∧ supplyOk ch s = true ∧ s.chans[ch].pulse = none ∧
      s.banks[bankOf ch].hold = false ∧ s.vrc.mode ≠ VoteMode.oo1) ∧
    (∃ (s : State) (ch : Fin 48),
      s.chans[ch].isOut = true ∧ s.chans[ch].state.live = true ∧ supplyOk ch s = true ∧ s.chans[ch].pulse = none ∧
      s.banks[bankOf ch].hold = false ∧ s.vrc.mode ≠ VoteMode.oo1) ∧
    (∃ (s : State) (ch : Fin 48),
      s.chans[ch].isOut = true ∧ s.chans[ch].state.live = true) ∧
    (∃ (s : State) (b : Fin 3),
      (∀ (ch : Fin 48), bankOf ch = b → s.chans[ch].isOut = false ∨ s.chans[ch].state.live = false)) ∧
    (∃ (s : State) (b : Fin 3) (i : Fin 16),
      s.chans[chanOf b i].isOut = true ∧ s.chans[chanOf b i].state.live = true) :=
  ⟨⟨(chanS outA), 0, by decide +kernel⟩,
    ⟨(chanS { outA with state := .safe }), 0, by decide +kernel⟩,
    ⟨(chanS outA), 0, by decide +kernel⟩,
    ⟨runS, 0, by decide +kernel⟩,
    ⟨(chanS outA), 0, 0, by decide +kernel⟩⟩

theorem hyps_DarkTestsReturnTheGateSet :
    (∃ (s : State) (dt : ℕ) (ch : Fin 48),
      darkReady ch (advance dt s) = true ∧ launchNear ch (advance dt s) = false) ∧
    (∃ (s : State) (dt : ℕ) (ch : Fin 48),
      darkReady ch (advance dt s) = true ∧ launchNear ch (advance dt s) = false) ∧
    (∃ (s : State) (ch : Fin 48) (k : Fin 3),
      s.chans[ch].pulse = some k) ∧
    (∃ (s : State) (ch : Fin 48) (k : Fin 3),
      s.chans[ch].pulse = some k ∧ s.chans[ch].isOut = true) ∧
    (∃ (s : State) (ch : Fin 48),
      s.chans[ch].isOut = true ∧ s.chans[ch].state.live = true) :=
  ⟨⟨(chanS outA), 0, 0, by decide +kernel⟩,
    ⟨(chanS { outA with darkNext := 2 }), 0, 0, by decide +kernel⟩,
    ⟨(chanS { outA with pulse := some 1 }), 0, 1, by decide +kernel⟩,
    ⟨(chanS { outA with pulse := some 1 }), 0, 1, by decide +kernel⟩,
    ⟨(chanS { outA with agree := false }), 0, by decide +kernel⟩⟩

theorem hyps_BankTimeoutAndSupply :
    (∃ (s : State) (ch : Fin 48),
      s.chans[ch].watched = true ∧ s.chans[ch].state = ChanState.driven) ∧
    (∃ (s : State) (b : Fin 3) (i : Fin 16),
      s.chans[chanOf b i].isOut = true ∧
      (s.chans[chanOf b i].state = ChanState.driven ∨ s.chans[chanOf b i].state = ChanState.safe)) ∧
    (∃ (s : State) (b : Fin 3),
      (∀ (ch : Fin 48), bankOf ch = b → s.chans[ch].isOut = false)) ∧
    (∃ (s : State) (b : Fin 3) (st : Fin 4),
      s.banks[b].supply ≠ st.val) :=
  ⟨⟨(chanS { outA with watched := true }), 0, by decide +kernel⟩,
    ⟨(chanS outA), 0, 0, by decide +kernel⟩,
    ⟨runS, 2, by decide +kernel⟩,
    ⟨runS, 1, 2, by decide +kernel⟩⟩

theorem hyps_GlazeQueuesPostAndLaunch :
    (∃ (s : State) (ch : Fin 48) (sec : BitVec 48) (ns : BitVec 32) (now : ℤ),
      bankNow s.banks[bankOf ch] s = some now ∧ s.chans[ch].kind = 4 ∧ s.chans[ch].state = ChanState.driven ∧
      now < (sec.toNat * 1000000000 + ns.toNat).cast ∧
      (sec.toNat * 1000000000 + ns.toNat).cast - now ≤ s.banks[bankOf ch].horizon.cast * 1000000000 ∧
      (∀ e ∈ s.chans[ch].queue, e.launch ≠ (sec.toNat * 1000000000 + ns.toNat).cast) ∧ s.chans[ch].queue.length < 8) ∧
    (∃ (s : State) (ch : Fin 48) (sec : BitVec 48) (ns : BitVec 32) (now : ℤ),
      bankNow s.banks[bankOf ch] s = some now ∧ s.chans[ch].kind = 4 ∧ s.chans[ch].state = ChanState.driven ∧
      now < (sec.toNat * 1000000000 + ns.toNat).cast ∧
      (sec.toNat * 1000000000 + ns.toNat).cast - now ≤ s.banks[bankOf ch].horizon.cast * 1000000000 ∧
      (∀ e ∈ s.chans[ch].queue, e.launch ≠ (sec.toNat * 1000000000 + ns.toNat).cast) ∧ s.chans[ch].queue.length < 8) ∧
    (∃ (s : State) (ch : Fin 48) (sec : BitVec 48) (ns : BitVec 32) (now : ℤ),
      bankNow s.banks[bankOf ch] s = some now ∧ s.chans[ch].kind = 4 ∧ s.chans[ch].state = ChanState.driven ∧
      now < (sec.toNat * 1000000000 + ns.toNat).cast ∧
      (sec.toNat * 1000000000 + ns.toNat).cast - now ≤ s.banks[bankOf ch].horizon.cast * 1000000000 ∧
      (∀ e ∈ s.chans[ch].queue, e.launch ≠ (sec.toNat * 1000000000 + ns.toNat).cast) ∧ s.chans[ch].queue.length = 8) ∧
    (∃ (s : State) (ch : Fin 48) (e : GlazeEntry) (q : List GlazeEntry),
      s.chans[ch].queue = e :: q) :=
  ⟨⟨(chanS outA), 0, 0, 1000, 0, by decide +kernel⟩,
    ⟨(chanS outA), 0, 10, 0, 0, by decide +kernel⟩,
    ⟨(chanS { outA with queue := (List.range 8).map (fun i => ⟨2000 + i, true⟩) }), 0, 0, 1000, 0, by decide +kernel⟩,
    ⟨(chanS { outA with queue := [⟨2000, true⟩] }), 0, ⟨2000, true⟩, [], by decide +kernel⟩⟩

theorem hyps_BusRolesOfTheStation :
    (∃ (s : State) (dt : ℕ),
      ((advance dt s).xn.role ≠ BusRole.master ∨ xnLive (advance dt s) = false)) ∧
    (∃ (s : State) (dt : ℕ),
      (advance dt s).xn.role = BusRole.master ∧ xnLive (advance dt s) = true) ∧
    (∃ (s : State) (dt : ℕ),
      (advance dt s).xn.role = BusRole.off) ∧
    (∃ (s : State) (dt : ℕ),
      xnLive (advance dt s) = true ∧ (advance dt s).xn.role = BusRole.listen) ∧
    (∃ (s : State) (dt : ℕ) (src : BitVec 6) (f : CycleStart),
      xnLive (advance dt s) = true ∧ (advance dt s).xn.role = BusRole.master ∧
      (advance dt s).xn.lastTko = f.tflags.getLsbD 2 ∧ (advance dt s).xn.addr < src.toNat) ∧
    (∃ (s : State) (dt : ℕ) (src : BitVec 6) (f : CycleStart),
      xnLive (advance dt s) = true ∧ (advance dt s).xn.role = BusRole.master ∧
      (advance dt s).xn.lastTko = f.tflags.getLsbD 2 ∧ src.toNat ≤ (advance dt s).xn.addr) ∧
    (∃ (s : State) (dt : ℕ),
      (advance dt s).xn.csCap = false) ∧
    (∃ (s : State) (dt : ℕ),
      (advance dt s).xn.csCap = true ∧ xnLive (advance dt s) = true ∧ (advance dt s).xn.role = BusRole.listen) ∧
    (∃ (s : State) (dt : ℕ),
      (advance dt s).xn.role = BusRole.contend ∧ xnLive (advance dt s) = true) ∧
    (∃ (s : State) (dt : ℕ),
      (advance dt s).xn.coldSending = false) ∧
    (∃ (s : State) (dt : ℕ),
      (advance dt s).xn.coldSending = true) ∧
    (∃ (s : State),
      s.xn.coldSending = true ∧ s.xn.role = BusRole.contend) ∧
    (∃ (s : State),
      s.xn.coldSending = false ∧ s.xn.role = BusRole.contend) ∧
    (∃ (s : State),
      s.xn.role = BusRole.follower ∧ s.xn.schMis = false) ∧
    (∃ (s : State),
      s.xn.role = BusRole.follower ∧ s.xn.schMis = true) ∧
    (∃ (s : State),
      s.xn.role = BusRole.master) ∧
    (∃ (s : State),
      s.xn.role ≠ BusRole.master) :=
  ⟨⟨runS, 0, by decide +kernel⟩,
    ⟨(xnS .master), 0, by decide +kernel⟩,
    ⟨runS, 0, by decide +kernel⟩,
    ⟨(xnS .listen), 0, by decide +kernel⟩,
    ⟨(xnS .master), 0, 3, ⟨9, 0, 0, 0, 3, 0⟩, by decide +kernel⟩,
    ⟨(xnS .master), 0, 2, ⟨9, 0, 0, 0, 3, 0⟩, by decide +kernel⟩,
    ⟨runS, 0, by decide +kernel⟩,
    ⟨(xnS .listen), 0, by decide +kernel⟩,
    ⟨(xnS .contend), 0, by decide +kernel⟩,
    ⟨runS, 0, by decide +kernel⟩,
    ⟨{ xnS .contend with xn := { (xnS .contend).xn with coldSending := true, lastEpoch := 255 } }, 0,
     by decide +kernel⟩,
    ⟨{ xnS .contend with xn := { (xnS .contend).xn with coldSending := true } }, by decide +kernel⟩,
    ⟨(xnS .contend), by decide +kernel⟩,
    ⟨(xnS .follower), by decide +kernel⟩,
    ⟨{ xnS .follower with xn := { (xnS .follower).xn with schMis := true } }, by decide +kernel⟩,
    ⟨(xnS .master), by decide +kernel⟩,
    ⟨(xnS .listen), by decide +kernel⟩⟩

theorem hyps_SlotsAreRequestedAndJudged :
    (∃ (s : State) (dt i : ℕ) (c : XSlot) (k : Fin 64),
      (advance dt s).xn.role = BusRole.master ∧ xnLive (advance dt s) = true ∧ (advance dt s).xn.dropped = false ∧
      (advance dt s).xn.slots[i]? = some c ∧ c.kind = 1 ∧ slotNode (advance dt s).xn i = k.val ∧
      (advance dt s).xn.nodes[k].state ≠ 4 ∧
      ((advance dt s).xn.nodes[k].state = 2 → (advance dt s).xn.nodes[k].probes ≠ 2)) ∧
    (∃ (s : State) (dt i : ℕ) (c : XSlot) (k : Fin 64),
      (advance dt s).xn.role = BusRole.master ∧ xnLive (advance dt s) = true ∧ (advance dt s).xn.dropped = false ∧
      (advance dt s).xn.slots[i]? = some c ∧ c.kind = 2 ∧ c.node = k.val ∧ k ≠ 0 ∧
      (advance dt s).xn.nodes[k].state = 2 ∧ (advance dt s).xn.nodeReqs = [] ∧ (advance dt s).xn.acyc = none) ∧
    (∃ (s : State) (dt i : ℕ) (c : XSlot),
      (advance dt s).xn.role = BusRole.master ∧ xnLive (advance dt s) = true ∧ (advance dt s).xn.dropped = false ∧
      (advance dt s).xn.slots[i]? = some c ∧ c.kind = 4) ∧
    (∃ (s : State) (dt i : ℕ) (c : XSlot),
      (advance dt s).xn.role = BusRole.follower ∧ xnLive (advance dt s) = true ∧ (advance dt s).xn.dropped = false ∧
      (advance dt s).xn.slots[i]? = some c) ∧
    (∃ (s : State) (dt i : ℕ) (c : XSlot) (k : Fin 64) (f : List (BitVec 8)) (a : BitVec 32),
      (advance dt s).xn.role = BusRole.master ∧ xnLive (advance dt s) = true ∧ (advance dt s).xn.slot = some i ∧
      (advance dt s).xn.slots[i]? = some c ∧ (advance dt s).xn.slots.length ≤ 1024 ∧ 4096 ≤ c.rxOff ∧
      (advance dt s).xn.req = XReq.poll k.val ∧ (advance dt s).xn.judged = false ∧
      frameAccepted (advance dt s).xn f = true ∧ leAt f 0 1 % 16 = 3 ∧ leAt f 2 1 % 64 = k.val ∧ leAt f 3 1 = c.rx ∧
      0 < c.rx ∧ 1900 ≤ a.toNat ∧ a.toNat ≤ 4100) ∧
    (∃ (s : State) (dt i : ℕ) (c : XSlot) (k : Fin 64) (f : List (BitVec 8)) (a : BitVec 32),
      (advance dt s).xn.role = BusRole.master ∧ xnLive (advance dt s) = true ∧ (advance dt s).xn.slot = some i ∧
      (advance dt s).xn.slots[i]? = some c ∧ (advance dt s).xn.slots.length ≤ 1024 ∧ 4096 ≤ c.rxOff ∧
      (advance dt s).xn.req = XReq.poll k.val ∧ (advance dt s).xn.judged = false ∧
      frameAccepted (advance dt s).xn f = true ∧ leAt f 0 1 % 16 = 3 ∧ leAt f 2 1 % 64 = k.val ∧ leAt f 3 1 = c.rx ∧
      0 < c.rx ∧ 1900 ≤ a.toNat ∧ a.toNat ≤ 4100) ∧
    (∃ (s : State) (dt i : ℕ) (c : XSlot) (k : Fin 64) (f : List (BitVec 8)) (a : BitVec 32),
      (advance dt s).xn.role = BusRole.master ∧ xnLive (advance dt s) = true ∧ (advance dt s).xn.slot = some i ∧
      (advance dt s).xn.slots[i]? = some c ∧ (advance dt s).xn.slots.length ≤ 1024 ∧ 4096 ≤ c.rxOff ∧
      (advance dt s).xn.req = XReq.poll k.val ∧ (advance dt s).xn.judged = false ∧
      frameAccepted (advance dt s).xn f = true ∧ leAt f 0 1 % 16 = 3 ∧ leAt f 2 1 % 64 = k.val ∧ leAt f 3 1 = c.rx ∧
      0 < c.rx ∧ 4100 + c.guardNs < a.toNat) ∧
    (∃ (s : State) (dt i : ℕ),
      (advance dt s).xn.slot ≠ some i) ∧
    (∃ (s : State) (dt i : ℕ) (k : Fin 64),
      (advance dt s).xn.slot = some i ∧ xnLive (advance dt s) = true ∧ (advance dt s).xn.role = BusRole.master ∧
      (advance dt s).xn.judged = false ∧ (advance dt s).xn.req = XReq.poll k.val ∧ (advance dt s).xn.reqColl = false ∧
      (advance dt s).xn.rejected = false) ∧
    (∃ (s : State),
      s.xn.role ≠ BusRole.master) ∧
    (∃ (s : State),
      s.xn.role = BusRole.master ∧ s.xn.claims = []) ∧
    (∃ (s : State) (n : BitVec 6) (m : AcycMsg) (a : Acyc),
      s.xn.role = BusRole.master ∧ xnLive s = true ∧ s.xn.judged = false ∧ s.xn.req = XReq.acyc n.toNat ∧
      s.xn.acyc = some a ∧ a.write = false ∧ m.tag.toNat = a.tag ∧ m.cmd = 8 ∧ m.seg.getLsbD 0 = a.toggle ∧
      m.seg.getLsbD 1 = true ∧ (∀ (x : Fin 4), a.by_ ≠ Session.gdp x)) ∧
    (∃ (s : State) (dt : ℕ),
      (advance dt s).xn.acyc = none) ∧
    (∃ (s : State) (dt : ℕ) (a : Acyc),
      (advance dt s).xn.acyc = some a) :=
  ⟨⟨(xnS .master), 0, 0, (slotA 1), 3, by decide +kernel⟩,
    ⟨{ xnS .master with xn := { (xnS .master).xn with slots := [slotA 2] } }, 0, 0, (slotA 2), 3, by decide +kernel⟩,
    ⟨{ xnS .master with xn := { (xnS .master).xn with slots := [slotA 4] } }, 0, 0, (slotA 4), by decide +kernel⟩,
    ⟨(xnS .follower), 0, 0, (slotA 1), by decide +kernel⟩,
    ⟨pollS, 0, 0, (slotA 1), 3, replyA, 1900, by decide +kernel⟩,
    ⟨pollS, 0, 0, (slotA 1), 3, replyA, 4100, by decide +kernel⟩,
    ⟨pollS, 0, 0, (slotA 1), 3, replyA, 0x10000, by decide +kernel⟩,
    ⟨(xnS .master), 0, 0, by decide +kernel⟩,
    ⟨pollS, 0, 0, 3, by decide +kernel⟩,
    ⟨(xnS .follower), by decide +kernel⟩,
    ⟨(xnS .master), by decide +kernel⟩,
    ⟨{ xnS .master with xn := { (xnS .master).xn with req := .acyc 3, acyc := some acycA } }, 3,
     ⟨8, 1, 0, 2, 0x1000, 0, 0, [1, 2, 3, 4]⟩, acycA, by decide +kernel⟩,
    ⟨runS, 0, by decide +kernel⟩,
    ⟨{ xnS .master with xn := { (xnS .master).xn with acyc := some acycA } }, 0, acycA, by decide +kernel⟩⟩

theorem hyps_TwinPairSupervisesAndHandsOver :
    (∃ (s : State) (h : TwinHead),
      linkAlive s = true ∧ h.crcOk = false) ∧
    (∃ (s : State) (dt : ℕ),
      twlRuns (advance dt s) = false) ∧
    (∃ (s : State) (dt : ℕ),
      linkAlive (advance dt s) = true ∧ (advance dt s).twl.role ≠ TwinRole.alone ∧ isRun (advance dt s) = true) ∧
    (∃ (s : State) (dt : ℕ),
      (advance dt s).twl.role = TwinRole.active ∧ twlRuns (advance dt s) = true ∧ (advance dt s).twl.pulse.up = true) ∧
    (∃ (s : State) (dt : ℕ),
      (advance dt s).twl.role = TwinRole.active ∧ twlRuns (advance dt s) = true ∧ (advance dt s).twl.pulse.up = false ∧
      7 ≤ (advance dt s).twl.pulse.good) ∧
    (∃ (s : State) (dt : ℕ) (h : TwinHead),
      (advance dt s).twl.role = TwinRole.active ∧ linkAlive (advance dt s) = true ∧ h.crcOk = true) ∧
    (∃ (s : State) (dt : ℕ),
      (advance dt s).twl.role = TwinRole.active ∧ twlRuns (advance dt s) = true ∧ (advance dt s).twl.pulse.up = true ∧
      (advance dt s).twl.pulse.miss < 2) ∧
    (∃ (s : State) (dt : ℕ),
      (advance dt s).twl.role = TwinRole.active ∧ twlRuns (advance dt s) = true ∧ (advance dt s).twl.pulse.up = true ∧
      (advance dt s).twl.pulse.miss = 2 ∧ (advance dt s).twl.link.up = true) ∧
    (∃ (s : State) (dt : ℕ),
      twlRuns (advance dt s) = true ∧ (advance dt s).twl.role = TwinRole.standby) ∧
    (∃ (s : State) (dt : ℕ),
      (advance dt s).twl.release = none) ∧
    (∃ (s : State) (dt : ℕ),
      (advance dt s).twl.release ≠ none ∧ (advance dt s).cys.commit.isSome = true) ∧
    (∃ (s : State) (dt : ℕ),
      (advance dt s).twl.release = some false ∧ (advance dt s).cys.commit = none ∧ (advance dt s).cys.posting = none) ∧
    (∃ (s : State) (dt : ℕ),
      (advance dt s).mod.state = ModState.cold) ∧
    (∃ (s : State) (dt : ℕ),
      (advance dt s).mod.state ≠ ModState.cold) ∧
    (∃ (s : State) (dt : ℕ) (h : TwinHead),
      linkAlive (advance dt s) = true ∧ h.crcOk = true ∧ (advance dt s).twl.role = TwinRole.active ∧
      (advance dt s).twl.peerRole = 2 ∧ revertRefusal (advance dt s) = 0) ∧
    (∃ (s : State) (dt : ℕ) (h : TwinHead),
      linkAlive (advance dt s) = true ∧ h.crcOk = true ∧ (advance dt s).twl.role = TwinRole.active ∧
      (advance dt s).twl.peerRole = 2 ∧ revertRefusal (advance dt s) ≠ 0) ∧
    (∃ (s : State) (dt : ℕ) (h : TwinHead),
      linkAlive (advance dt s) = true ∧ h.crcOk = true ∧ (advance dt s).twl.role = TwinRole.standby) ∧
    (∃ (s : State) (h : TwinHead) (k : BitVec 64),
      linkAlive s = true ∧ h.crcOk = true ∧ s.twl.role = TwinRole.active ∧ s.twl.handover = some k.toNat) ∧
    (∃ (s : State) (h : TwinHead) (k : BitVec 64),
      linkAlive s = true ∧ h.crcOk = true ∧ s.twl.handover ≠ some k.toNat) ∧
    (∃ (s : State) (dt : ℕ),
      (advance dt s).twl.handover = none) ∧
    (∃ (s : State) (dt n : ℕ),
      (advance dt s).twl.handover = some n ∧ (advance dt s).twl.role = TwinRole.standby ∧
      (advance dt s).cys.gap = true ∧ (advance dt s).cys.quiet = true) ∧
    (∃ (s : State) (dt n : ℕ),
      (advance dt s).twl.handover = some n ∧ (advance dt s).twl.role = TwinRole.active ∧
      (advance dt s).twl.handoverAcked = true ∧ (advance dt s).cys.gap = true ∧ (advance dt s).cys.quiet = true) ∧
    (∃ (s : State) (dt : ℕ),
      (advance dt s).twl.role = TwinRole.integrating ∧ isRun (advance dt s) = true ∧ bothUp (advance dt s) = true ∧
      (advance dt s).twl.peerRole = 1 ∧ (advance dt s).twl.pref = 0 ∧ (advance dt s).pwr.pos = false) ∧
    (∃ (s : State) (dt : ℕ),
      (advance dt s).twl.role = TwinRole.integrating ∧ isRun (advance dt s) = true ∧
      (advance dt s).twl.link.up = false ∧ (advance dt s).twl.pulse.up = false) ∧
    (∃ (s : State) (dt : ℕ),
      (advance dt s).twl.revertAt = none) ∧
    (∃ (s : State) (dt : ℕ) (u : ℤ),
      (advance dt s).twl.revertAt = some u ∧ (advance dt s).twl.role = TwinRole.standby ∧
      preferred (advance dt s) = true ∧ u ≤ (advance dt s).tim.elapsed ∧ linkAlive (advance dt s) = true) ∧
    (∃ (s : State) (f : Fin 32),
      crazeCond f.val s = some true ∧ s.twl.craze.getLsbD f.val = false) ∧
    (∃ (s : State) (f : Fin 32),
      crazeCond f.val s = some false) ∧
    (∃ (s : State) (f : Fin 32),
      crazeCond f.val s = some true) ∧
    (∃ (s : State),
      twlRuns s = false) ∧
    (∃ (s : State),
      twlRuns s = true) :=
  ⟨⟨(pairS .standby), headBad, by decide +kernel⟩,
    ⟨{}, 0, by decide +kernel⟩,
    ⟨(pairS .standby), 0, by decide +kernel⟩,
    ⟨(pairS .active), 0, by decide +kernel⟩,
    ⟨{ pairS .active with twl := { (pairS .active).twl with pulse := { good := 7 } } }, 0, by decide +kernel⟩,
    ⟨(pairS .active), 0, headA, by decide +kernel⟩,
    ⟨(pairS .active), 0, by decide +kernel⟩,
    ⟨{ pairS .active with twl := { (pairS .active).twl with pulse := { up := true, miss := 2 } } }, 0,
     by decide +kernel⟩,
    ⟨(pairS .standby), 0, by decide +kernel⟩,
    ⟨(pairS .standby), 0, by decide +kernel⟩,
    ⟨{ pairS .active with twl := { (pairS .active).twl with release := some false }, cys := { (pairS .active).cys with commit := some (0, 1) } },
     0, by decide +kernel⟩,
    ⟨{ pairS .active with twl := { (pairS .active).twl with release := some false } }, 0, by decide +kernel⟩,
    ⟨{}, 0, by decide +kernel⟩,
    ⟨(pairS .standby), 0, by decide +kernel⟩,
    ⟨(pairS .active), 0, headA, by decide +kernel⟩,
    ⟨{ pairS .active with twl := { (pairS .active).twl with peerCraze := 1 } }, 0, headA, by decide +kernel⟩,
    ⟨(pairS .standby), 0, headA, by decide +kernel⟩,
    ⟨{ pairS .active with twl := { (pairS .active).twl with handover := some 4000 } }, headA, 4000, by decide +kernel⟩,
    ⟨(pairS .active), headA, 4000, by decide +kernel⟩,
    ⟨(pairS .active), 0, by decide +kernel⟩,
    ⟨(gapS { pairS .standby with twl := { (pairS .standby).twl with handover := some 4000 } }), 0, 4000,
     by decide +kernel⟩,
    ⟨(gapS { pairS .active with twl := { (pairS .active).twl with handover := some 4000, handoverAcked := true } }),
     0, 4000, by decide +kernel⟩,
    ⟨{ pairS .integrating with twl := { (pairS .integrating).twl with peerRole := 1, pref := 0 } }, 0,
     by decide +kernel⟩,
    ⟨{ pairS .integrating with twl := { (pairS .integrating).twl with link := {}, pulse := {} } }, 0,
     by decide +kernel⟩,
    ⟨(pairS .standby), 0, by decide +kernel⟩,
    ⟨{ pairS .standby with twl := { (pairS .standby).twl with revertAt := some 5 } }, 0, 5, by decide +kernel⟩,
    ⟨{ pairS .standby with vrc := { (pairS .standby).vrc with lanes := (pairS .standby).vrc.lanes.set 3 (laneAs .retired none) } },
     0, by decide +kernel⟩,
    ⟨(pairS .standby), 0, by decide +kernel⟩,
    ⟨{ pairS .standby with vrc := { (pairS .standby).vrc with lanes := (pairS .standby).vrc.lanes.set 3 (laneAs .retired none) } },
     0, by decide +kernel⟩,
    ⟨{}, by decide +kernel⟩,
    ⟨(pairS .standby), by decide +kernel⟩⟩

theorem hyps_StandbyFollowsAndIntegrates :
    (∃ (s : State) (h : TwinHead),
      linkAlive s = true ∧ h.crcOk = true ∧ s.twl.role = TwinRole.active) ∧
    (∃ (s : State) (h : TwinHead),
      linkAlive s = true ∧ h.crcOk = true ∧ s.twl.role = TwinRole.standby) ∧
    (∃ (s : State) (h : TwinHead) (f : EthFrame) (vid pcp k : ℕ) (tg : Bool),
      linkAlive s = true ∧ h.crcOk = true ∧ s.twl.role = TwinRole.standby ∧ classify s.lnc f.octets = (vid, pcp, tg) ∧
      slotFor s.lnc.filters (bare f.octets) vid = some k) ∧
    (∃ (s : State) (dt : ℕ) (h : TwinHead),
      linkAlive (advance dt s) = true ∧ h.crcOk = true ∧ (advance dt s).twl.role = TwinRole.active) ∧
    (∃ (s : State) (dt : ℕ) (h : TwinHead),
      linkAlive (advance dt s) = true ∧ h.crcOk = true ∧ (advance dt s).twl.role = TwinRole.standby) ∧
    (∃ (s : State) (h : TwinHead) (n : Fin 8) (c : BitVec 64) (crc : BitVec 32) (p : Check),
      linkAlive s = true ∧ h.crcOk = true ∧ s.twl.role = TwinRole.standby ∧ s.twl.resetDue = false ∧
      (List.find? (fun x => decide (x.task = n.val) && decide (x.cycle = c.toNat)) s.twl.ownChecks = some p) ∧
      p.committed = true ∧ p.crc = crc.toNat) ∧
    (∃ (s : State) (h : TwinHead) (n : Fin 8) (c : BitVec 64) (crc : BitVec 32) (p : Check),
      linkAlive s = true ∧ h.crcOk = true ∧ s.twl.role = TwinRole.standby ∧ s.twl.resetDue = false ∧
      (List.find? (fun x => decide (x.task = n.val) && decide (x.cycle = c.toNat)) s.twl.ownChecks = some p) ∧
      p.committed = true ∧ p.crc ≠ crc.toNat ∧ s.twl.divergedAt = none) ∧
    (∃ (s : State) (h : TwinHead),
      linkAlive s = true ∧ h.crcOk = true) ∧
    (∃ (s : State) (h : TwinHead),
      linkAlive s = true ∧ h.crcOk = true ∧ s.twl.role = TwinRole.standby ∧ s.cys.staged = none) ∧
    (∃ (s : State) (h : TwinHead),
      linkAlive s = true ∧ h.crcOk = true ∧ s.twl.role = TwinRole.standby ∧ s.cys.staged ≠ none) ∧
    (∃ (s : State) (dt : ℕ) (h : TwinHead) (i : IntegInfo),
      linkAlive (advance dt s) = true ∧ h.crcOk = true ∧ isRun (advance dt s) = true ∧
      (advance dt s).twl.role = TwinRole.integrating ∧ (advance dt s).twl.phase = 1 ∧ integCompare i (advance dt s) = 0) ∧
    (∃ (s : State) (dt : ℕ) (h : TwinHead) (i : IntegInfo),
      linkAlive (advance dt s) = true ∧ h.crcOk = true ∧ isRun (advance dt s) = true ∧
      (advance dt s).twl.role = TwinRole.integrating ∧ (advance dt s).twl.phase = 1 ∧ integCompare i (advance dt s) ≠ 0) ∧
    (∃ (s : State) (dt : ℕ),
      (advance dt s).twl.phase ≠ 2) ∧
    (∃ (s : State) (dt : ℕ),
      (advance dt s).twl.phase = 2 ∧ (advance dt s).twl.role = TwinRole.active) ∧
    (∃ (s : State) (h : TwinHead) (a : BitVec 64),
      linkAlive s = true ∧ h.crcOk = true ∧ s.twl.role = TwinRole.integrating ∧ 3 ≤ s.twl.phase ∧ sharedBase ≤ a.toNat) ∧
    (∃ (s : State) (h : TwinHead) (e : TwinFwd),
      linkAlive s = true ∧ h.crcOk = true ∧ s.twl.role = TwinRole.integrating ∧ 3 ≤ s.twl.phase ∧ e.kind = 1) ∧
    (∃ (s : State) (dt : ℕ),
      (advance dt s).twl.phase ≠ 3) ∧
    (∃ (s : State) (dt : ℕ),
      (advance dt s).twl.phase = 3) ∧
    (∃ (s : State) (dt : ℕ),
      (advance dt s).twl.phase ≠ 4) ∧
    (∃ (s : State) (dt : ℕ),
      (advance dt s).twl.phase = 4) ∧
    (∃ (s : State) (dt : ℕ) (h : TwinHead),
      linkAlive (advance dt s) = true ∧ h.crcOk = true ∧ (advance dt s).twl.role = TwinRole.integrating ∧
      3 ≤ (advance dt s).twl.phase) ∧
    (∃ (s : State) (dt : ℕ) (h : TwinHead),
      linkAlive (advance dt s) = true ∧ h.crcOk = true ∧ (advance dt s).twl.role = TwinRole.integrating ∧
      (advance dt s).twl.joinTick = none) ∧
    (∃ (s : State) (dt : ℕ) (h : TwinHead),
      linkAlive (advance dt s) = true ∧ h.crcOk = true ∧ (advance dt s).twl.role = TwinRole.integrating ∧
      (advance dt s).twl.joinTick ≠ none) ∧
    (∃ (s : State) (dt : ℕ),
      (advance dt s).twl.role ≠ TwinRole.integrating) ∧
    (∃ (s : State) (dt : ℕ),
      (advance dt s).twl.role = TwinRole.integrating ∧ isRun (advance dt s) = true ∧ bothUp (advance dt s) = true ∧
      (advance dt s).twl.peerRole = 3 ∧ (advance dt s).twl.phase = 0) ∧
    (∃ (s : State) (dt : ℕ),
      (advance dt s).twl.role ≠ TwinRole.active) ∧
    (∃ (s : State) (dt : ℕ),
      (advance dt s).twl.role = TwinRole.active ∧ linkAlive (advance dt s) = true) ∧
    (∃ (s : State) (dt : ℕ),
      (advance dt s).twl.role = TwinRole.alone) ∧
    (∃ (s : State) (dt : ℕ),
      (advance dt s).twl.role ≠ TwinRole.alone ∧ linkAlive (advance dt s) = true) ∧
    (∃ (s : State) (h : TwinHead),
      linkAlive s = true ∧ h.crcOk = true ∧ s.twl.role ≠ TwinRole.standby) ∧
    (∃ (s : State) (h : TwinHead) (im : List (BitVec 8)),
      linkAlive s = true ∧ h.crcOk = true ∧ s.twl.role = TwinRole.standby ∧ stageRefusal im s = none) ∧
    (∃ (s : State) (dt : ℕ),
      (advance dt s).cys.gap = false) ∧
    (∃ (s : State) (dt : ℕ),
      (advance dt s).cys.gap = true ∧ (advance dt s).cys.quiet = true ∧ (advance dt s).twl.gridTo = none ∧
      wedgedLane (advance dt s) = none ∧ (advance dt s).twl.role = TwinRole.alone ∧ (advance dt s).kiln.verd = false ∧
      (advance dt s).cys.dump = false ∧ (advance dt s).cys.movedDump = false ∧ switchNow (advance dt s) = false) ∧
    (∃ (s : State) (dt : ℕ),
      (advance dt s).cys.gap = true ∧ (advance dt s).cys.quiet = true ∧ (advance dt s).twl.gridTo = none ∧
      wedgedLane (advance dt s) = none ∧ (advance dt s).twl.role = TwinRole.alone ∧ (advance dt s).kiln.verd = false ∧
      (advance dt s).cys.dump = false ∧ (advance dt s).cys.movedDump = false ∧ switchNow (advance dt s) = true) :=
  ⟨⟨(pairS .active), headA, by decide +kernel⟩,
    ⟨(pairS .standby), headA, by decide +kernel⟩,
    ⟨{ pairS .standby with lnc := { vid := 1, filters := [filterA] } }, headA, frameA, 1, 0, 0, false,
     by decide +kernel⟩,
    ⟨(pairS .active), 0, headA, by decide +kernel⟩,
    ⟨(pairS .standby), 0, headA, by decide +kernel⟩,
    ⟨{ pairS .standby with twl := { (pairS .standby).twl with ownChecks := [⟨0, 1, true, 5⟩] } }, headA, 0, 1, 5,
     ⟨0, 1, true, 5⟩, by decide +kernel⟩,
    ⟨{ pairS .standby with twl := { (pairS .standby).twl with ownChecks := [⟨0, 1, true, 5⟩] } }, headA, 0, 1, 6,
     ⟨0, 1, true, 5⟩, by decide +kernel⟩,
    ⟨(pairS .standby), headA, by decide +kernel⟩,
    ⟨(pairS .standby), headA, by decide +kernel⟩,
    ⟨{ pairS .standby with cys := { (pairS .standby).cys with staged := some appA } }, headA, by decide +kernel⟩,
    ⟨(integS 1), 0, headA, (ownInfo (integS 1)), by decide +kernel⟩,
    ⟨(integS 1), 0, headA, ⟨1, 1, 1⟩, by decide +kernel⟩,
    ⟨(integS 1), 0, by decide +kernel⟩,
    ⟨{ pairS .active with twl := { (pairS .active).twl with phase := 2 } }, 0, by decide +kernel⟩,
    ⟨(integS 3), headA, (BitVec.ofNat 64 sharedBase), by decide +kernel⟩,
    ⟨(integS 3), headA, ⟨0x0200000000, 0xFFFF, 1, 5⟩, by decide +kernel⟩,
    ⟨(integS 1), 0, by decide +kernel⟩,
    ⟨(integS 3), 0, by decide +kernel⟩,
    ⟨(integS 1), 0, by decide +kernel⟩,
    ⟨(integS 4), 0, by decide +kernel⟩,
    ⟨(integS 5), 0, headA, by decide +kernel⟩,
    ⟨(integS 5), 0, headA, by decide +kernel⟩,
    ⟨{ integS 5 with twl := { (integS 5).twl with joinTick := some 4000 } }, 0, headA, by decide +kernel⟩,
    ⟨(pairS .standby), 0, by decide +kernel⟩,
    ⟨(integS 0), 0, by decide +kernel⟩,
    ⟨(integS 0), 0, by decide +kernel⟩,
    ⟨(pairS .active), 0, by decide +kernel⟩,
    ⟨{ runS with twl := {} }, 0, by decide +kernel⟩,
    ⟨(pairS .active), 0, by decide +kernel⟩,
    ⟨(pairS .active), headA, by decide +kernel⟩,
    ⟨(pairS .standby), headA, imageFile, by decide +kernel⟩,
    ⟨(pairS .standby), 0, by decide +kernel⟩,
    ⟨(gapS (cycS .idle)), 0, by decide +kernel⟩,
    ⟨(gapS { cycS .idle with cys := { (cycS .idle).cys with staged := some appA, olc := .accepted } }), 0,
     by decide +kernel⟩⟩

theorem hyps_FramesCrossTheSwitchAndReachTheLanes :
    (∃ (s : State) (dt : ℕ),
      forwards (advance dt s) = false) ∧
    (∃ (s : State) (dt : ℕ) (p : Fin 3) (f : EthFrame) (vid pcp : ℕ) (tg : Bool),
      forwards (advance dt s) = true ∧ portSpd (advance dt s).lnc p ≠ 0 ∧
      classify (advance dt s).lnc f.octets = (vid, pcp, tg) ∧ vlanOf (advance dt s).lnc vid = none) ∧
    (∃ (s : State) (dt : ℕ) (p : Fin 3) (f : EthFrame) (vid pcp : ℕ) (tg : Bool) (w : ℕ),
      forwards (advance dt s) = true ∧ portSpd (advance dt s).lnc p ≠ 0 ∧
      classify (advance dt s).lnc f.octets = (vid, pcp, tg) ∧ vlanOf (advance dt s).lnc vid = some w ∧
      member w p = true ∧ f.fcsOk = true ∧ (advance dt s).lnc.macs.length < 1024 ∧ isPtp f.octets = false) ∧
    (∃ (f : EthFrame),
      f.fcsOk = false) ∧
    (∃ (s : State) (dt : ℕ) (f : EthFrame) (vid pcp : ℕ) (tg : Bool),
      (advance dt s).pwr.on.getLsbD 6 = true ∧ (advance dt s).pwr.on.getLsbD 5 = true ∧
      (advance dt s).clk.clken0.getLsbD 6 = true ∧ f.fcsOk = true ∧ isPtp f.octets = false ∧
      forKiln (ipOwn (advance dt s)) (bare f.octets) = false ∧ (advance dt s).twl.role ≠ TwinRole.standby ∧
      (advance dt s).twl.role ≠ TwinRole.integrating ∧ 14 ≤ (bare f.octets).length ∧ (bare f.octets).length ≤ 1514 ∧
      classify (advance dt s).lnc f.octets = (vid, pcp, tg)) ∧
    (∃ (s : State) (dt : ℕ) (k : Fin 16),
      (∀ r ∈ (advance dt s).lnc.rxWait, r.slot ≠ k.val)) ∧
    (∃ (s : State) (dt : ℕ) (k : Fin 16) (r : RxFrame),
      (List.find? (fun x => decide (x.slot = k.val)) (advance dt s).lnc.rxWait = some r) ∧
      slotLatching k.val (advance dt s) = false) ∧
    (∃ (s : State) (dt : ℕ),
      (advance dt s).clk.quiet = true) ∧
    (∃ (s : State) (dt : ℕ) (p : Fin 2) (spd : Fin 3),
      (advance dt s).clk.quiet = false ∧ (advance dt s).pwr.on.getLsbD 6 = true ∧ (advance dt s).lnc.spd[p] = spd.val) ∧
    (∃ (s : State) (dt : ℕ) (p : Fin 2) (spd : Fin 3),
      (advance dt s).clk.quiet = false ∧ (advance dt s).pwr.on.getLsbD 6 = true ∧ (advance dt s).lnc.spd[p] ≠ spd.val ∧
      (spd = 2 ∨ (advance dt s).clk.valid.getLsbD p.val = false)) ∧
    (∃ (s : State) (dt : ℕ),
      cpnLive (advance dt s) = false) ∧
    (∃ (s : State) (dt : ℕ) (l : Fin 2) (f : PrpFrame) (seq : BitVec 16) (id : BitVec 4),
      cpnLive (advance dt s) = true ∧ (advance dt s).cpn.spd[l] ≠ 0 ∧ (advance dt s).cpn.prp = true ∧
      f.trailer = some (seq, id) ∧
      (∃ e ∈ (advance dt s).cpn.seen, e.1 = macAt f.octets 6 ∧ e.2.1 = seq.toNat ∧ (advance dt s).tim.elapsed < e.2.2 + 400000000)) ∧
    (∃ (s : State) (dt : ℕ) (l : Fin 2) (f : PrpFrame) (k : ℕ),
      cpnLive (advance dt s) = true ∧ (advance dt s).cpn.spd[l] ≠ 0 ∧ (advance dt s).cpn.prp = false ∧
      forKiln (ipOwn (advance dt s)) (bare f.octets) = false ∧
      slotFor (advance dt s).cpn.filters (bare f.octets) (cpnVid (advance dt s) f.octets) = some k ∧ k < 4 ∧
      14 ≤ (bare f.octets).length ∧ (bare f.octets).length ≤ 1514) ∧
    (∃ (s : State) (dt : ℕ),
      cpnLive (advance dt s) = true ∧ (advance dt s).cpn.prp = true) ∧
    (∃ (s : State) (dt : ℕ),
      (advance dt s).cpn.prp = false) ∧
    (∃ (s : State) (dt : ℕ) (l o : Fin 2),
      l ≠ o ∧ cpnLive (advance dt s) = true ∧ (advance dt s).cpn.prp = true ∧
      (advance dt s).cpn.lastAt[l] + 6000000000 ≤ (advance dt s).tim.elapsed ∧
      (advance dt s).tim.elapsed < (advance dt s).cpn.lastAt[o] + 6000000000 ∧ (advance dt s).cpn.failed[l] = true) ∧
    (∃ (s : State) (dt : ℕ) (l o : Fin 2),
      l ≠ o ∧ cpnLive (advance dt s) = true ∧ (advance dt s).cpn.prp = true ∧
      (advance dt s).cpn.lastAt[l] + 6000000000 ≤ (advance dt s).tim.elapsed ∧
      (advance dt s).tim.elapsed < (advance dt s).cpn.lastAt[o] + 6000000000 ∧ (advance dt s).cpn.failed[l] = false) :=
  ⟨⟨{}, 0, by decide +kernel⟩,
    ⟨{ lanS with lnc := { lanS.lnc with vlans := [] } }, 0, 0, frameA, 1, 0, false, by decide +kernel⟩,
    ⟨lanS, 0, 0, frameA, 1, 0, false, 0x00770001, by decide +kernel⟩,
    ⟨{ frameA with fcsOk := false }, by decide +kernel⟩,
    ⟨lanS, 0, frameA, 1, 0, false, by decide +kernel⟩,
    ⟨lanS, 0, 0, by decide +kernel⟩,
    ⟨rxS, 0, 0, ⟨0, 0, false, 1, 0, 7, [1, 2, 3, 4]⟩, by decide +kernel⟩,
    ⟨{ lanS with clk := { lanS.clk with quiet := true } }, 0, by decide +kernel⟩,
    ⟨lanS, 0, 0, 2, by decide +kernel⟩,
    ⟨{ lanS with lnc := { lanS.lnc with spd := #v[1, 2] } }, 0, 0, 2, by decide +kernel⟩,
    ⟨{}, 0, by decide +kernel⟩,
    ⟨{ conS true true with cpn := { (conS true true).cpn with seen := [(macAt frameA.octets 6, 5, 7000000000)] } },
     0, 0, ⟨frameA.octets, some (5, 0xA)⟩, 5, 0xA, by decide +kernel⟩,
    ⟨(conS false false), 0, 0, ⟨frameA.octets, none⟩, 0, by decide +kernel⟩,
    ⟨(conS true false), 0, by decide +kernel⟩,
    ⟨(conS false false), 0, by decide +kernel⟩,
    ⟨(conS true true), 0, 0, 1, by decide +kernel⟩,
    ⟨(conS true false), 0, 0, 1, by decide +kernel⟩⟩

theorem hyps_CanChannelsAreNodes :
    (∃ (s : State) (dt : ℕ) (c : Fin 2),
      canOn c (advance dt s) = false) ∧
    (∃ (s : State) (dt : ℕ) (c : Fin 2) (n : Fin 8),
      canOn c (advance dt s) = true ∧ par (advance dt s) (6144 + 8 * c.val + n.val) 5 ≠ 0 ∧
      (advance dt s).cfd.chans[c].nmt = 2 ∧ par (advance dt s) (6144 + 8 * c.val + n.val) 1 < 2 ^ 31) ∧
    (∃ (s : State),
      s.cfd.chans[0].nmt = 2 ∧ s.cfd.chans[0].bus < 2 ∧ par s 6144 1 < 2 ^ 31) ∧
    (∃ (s : State) (dt : ℕ) (c : Fin 2),
      (advance dt s).cfd.chans[c].nmt ≠ 2) ∧
    (∃ (s : State) (dt : ℕ) (c : Fin 2) (cob : BitVec 29) (d : List (BitVec 8)) (n : Fin 8),
      canOn c (advance dt s) = true ∧ (advance dt s).cfd.chans[c].nmt = 2 ∧ d.length ≤ 64 ∧
      rpdoOf c cob.toNat (advance dt s) = some n) ∧
    (∃ (s : State) (c : Fin 2),
      canOn c s = false) ∧
    (∃ (s : State) (c : Fin 2),
      canOn c s = true) ∧
    (∃ (s : State) (dt : ℕ) (c : Fin 2),
      cfdLive (advance dt s) = true ∧ (advance dt s).cfd.chans[c].node ≠ 0 ∧ (advance dt s).cfd.chans[c].bus < 2) ∧
    (∃ (s : State) (dt : ℕ) (c : Fin 2),
      cfdLive (advance dt s) = true ∧ (advance dt s).cfd.chans[c].node ≠ 0 ∧ 2 ≤ (advance dt s).cfd.chans[c].bus) ∧
    (∃ (s : State) (c : Fin 2) (n : BitVec 7),
      canOn c s = true ∧ n ≠ 0 ∧ n.toNat ≠ s.cfd.chans[c].node) ∧
    (∃ (s : State) (c : Fin 2) (n : BitVec 7),
      canOn c s = true ∧ (n = 0 ∨ n.toNat = s.cfd.chans[c].node)) ∧
    (∃ (s : State) (dt : ℕ),
      par (advance dt s) 4119 0 = 0) ∧
    (∃ (s : State) (dt : ℕ) (c : Fin 2),
      par (advance dt s) 4119 0 ≠ 0 ∧ canOn c (advance dt s) = true) ∧
    (∃ (s : State) (dt : ℕ) (k : Fin 4) (c : Fin 2) (node : ℕ),
      consumerOf k (advance dt s) = some (c, node) ∧ canOn c (advance dt s) = true ∧
      (advance dt s).cfd.consuming.getLsbD k.val = false) ∧
    (∃ (s : State) (dt : ℕ) (k : Fin 4) (c : Fin 2) (node : ℕ),
      consumerOf k (advance dt s) = some (c, node) ∧ canOn c (advance dt s) = true ∧
      (advance dt s).cfd.consuming.getLsbD k.val = true) :=
  ⟨⟨{}, 0, 0, by decide +kernel⟩,
    ⟨canS, 0, 0, 0, by decide +kernel⟩,
    ⟨canS, by decide +kernel⟩,
    ⟨{}, 0, 0, by decide +kernel⟩,
    ⟨canS, 0, 0, 0x205, [1, 2], 0, by decide +kernel⟩,
    ⟨{}, 0, by decide +kernel⟩,
    ⟨canS, 0, by decide +kernel⟩,
    ⟨canS, 0, 0, by decide +kernel⟩,
    ⟨{ canS with cfd := { chans := Vector.replicate 2 { node := 5, nmt := 2, bus := 2 } } }, 0, 0, by decide +kernel⟩,
    ⟨canS, 0, 9, by decide +kernel⟩,
    ⟨canS, 0, 5, by decide +kernel⟩,
    ⟨{ runS with kiln := { inForce := [((0x1017, 0), 0)] } }, 0, by decide +kernel⟩,
    ⟨canS, 0, 0, by decide +kernel⟩,
    ⟨canS, 0, 0, 0, 7, by decide +kernel⟩,
    ⟨{ canS with cfd := { canS.cfd with consuming := 1 } }, 0, 0, 0, 7, by decide +kernel⟩⟩

theorem hyps_BridgeCompletesItsAccesses :
    (∃ (s : State) (dt : ℕ),
      (advance dt s).brg.posted = []) ∧
    (∃ (s : State) (dt : ℕ) (p : Posted) (q : List Posted),
      (advance dt s).brg.posted = p :: q ∧ farOff (advance dt s) p.addr.toNat = none ∧ 12885132288 ≤ p.addr.toNat ∧
      p.addr.toNat < 12885133312) ∧
    (∃ (s : State) (dt : ℕ) (p : Posted) (q : List Posted) (st : ℕ),
      (advance dt s).brg.posted = p :: q ∧ (advance dt s).brg.log.length < 16 ∧
      (farOff (advance dt s) p.addr.toNat ≠ none ∧ st = 3 ∨ farOff (advance dt s) p.addr.toNat = none ∧ 12885164032 ≤ p.addr.toNat ∧ p.addr.toNat < 12885229568 ∧ st = 2)) ∧
    (∃ (s : State) (dt : ℕ) (p : Posted) (q : List Posted) (st : ℕ),
      (advance dt s).brg.posted = p :: q ∧ (advance dt s).brg.log.length < 16 ∧
      (farOff (advance dt s) p.addr.toNat ≠ none ∧ st = 3 ∨ farOff (advance dt s) p.addr.toNat = none ∧ 12885164032 ≤ p.addr.toNat ∧ p.addr.toNat < 12885229568 ∧ st = 2)) ∧
    (∃ (s : State) (dt : ℕ) (p : Posted) (q : List Posted),
      (advance dt s).brg.posted = p :: q ∧ (advance dt s).brg.log.length < 16) ∧
    (∃ (s : State) (dt : ℕ),
      forwarded (advance dt s) = none) ∧
    (∃ (s : State) (dt : ℕ) (r : FarRead) (k : Fin 8) (op : LoadOp) (d : Fin 32),
      forwarded (advance dt s) = some r ∧ r.master = some k ∧ (advance dt s).vrc.mode = VoteMode.split ∧
      (advance dt s).cys.current = none ∧ r.write = none ∧ (advance dt s).cores[k].pend = some (PendAcc.load op d) ∧
      farOff (advance dt s) r.addr.toNat = none ∧ 12885065728 ≤ r.addr.toNat ∧ r.addr.toNat < 12885098496 ∧
      brgPF (advance dt s).brg r.addr.toNat = false) ∧
    (∃ (s : State) (dt : ℕ) (r : FarRead) (k : Fin 8) (op : LoadOp) (d : Fin 32) (c : Instr),
      forwarded (advance dt s) = some r ∧ r.master = some k ∧ (advance dt s).vrc.mode = VoteMode.split ∧
      (advance dt s).cys.current = none ∧ r.write = none ∧ (advance dt s).cores[k].pend = some (PendAcc.load op d) ∧
      (c = Instr.farSideReadResponse dt true ∨ c = Instr.farSideReadTimeout dt)) ∧
    (∃ (s : State) (dt : ℕ) (r : FarRead) (k : Fin 8) (op : LoadOp) (d : Fin 32) (c : Instr),
      forwarded (advance dt s) = some r ∧ r.master = some k ∧ (advance dt s).vrc.mode = VoteMode.split ∧
      (advance dt s).cys.current = none ∧ r.write = none ∧ (advance dt s).cores[k].pend = some (PendAcc.load op d) ∧
      (c = Instr.farSideReadResponse dt true ∨ c = Instr.farSideReadTimeout dt)) ∧
    (∃ (s : State) (dt : ℕ),
      (advance dt s).brg.waiting = []) ∧
    (∃ (s : State) (dt : ℕ) (w : TagWait) (q : List TagWait),
      (advance dt s).brg.waiting = w :: q ∧ freeTag (advance dt s).brg ≠ none ∧ (advance dt s).cys.current = none ∧
      farOff (advance dt s) w.beat.addr.toNat = none ∧ BitVec.extractLsb' 0 4 w.beat.attr = 2 ∧
      w.beat.attr.getLsbD 9 = false ∧ brgRO (advance dt s).brg w.beat.addr.toNat = false ∧
      farRegister w.beat.addr.toNat = false) ∧
    (∃ (s : State) (dt : ℕ) (n : Fin 16),
      (advance dt s).brg.sems[n] = none) ∧
    (∃ (s : State) (dt : ℕ) (n : Fin 16),
      (advance dt s).brg.sems[n] ≠ none) ∧
    (∃ (s : State) (dt : ℕ),
      (advance dt s).brg.lines = []) ∧
    (∃ (s : State) (dt : ℕ) (l : BrgLine) (q : List BrgLine),
      (advance dt s).brg.lines = l :: q) ∧
    (∃ (s : State) (dt : ℕ) (l : BrgLine) (q : List BrgLine),
      (advance dt s).brg.lines = l :: q) ∧
    (∃ (s : State),
      klmOut s = false) ∧
    (∃ (s : State),
      klmOut s = true) :=
  ⟨⟨runS, 0, by decide +kernel⟩,
    ⟨(postS 0x0300038400), 0, (postA 0x0300038400), [], by decide +kernel⟩,
    ⟨{ postS 0x0300038400 with pwr := { on := 0 } }, 0, (postA 0x0300038400), [], 3, by decide +kernel⟩,
    ⟨(postS 0x0300040000), 0, (postA 0x0300040000), [], 2, by decide +kernel⟩,
    ⟨(postS 0x0300040000), 0, (postA 0x0300040000), [], by decide +kernel⟩,
    ⟨runS, 0, by decide +kernel⟩,
    ⟨farS, 0, farA, 0, .ldw, 3, by decide +kernel⟩,
    ⟨farS, 0, farA, 0, .ldw, 3, (.farSideReadTimeout 0), by decide +kernel⟩,
    ⟨farS, 0, farA, 0, .ldw, 3, (.farSideReadResponse 0 true), by decide +kernel⟩,
    ⟨runS, 0, by decide +kernel⟩,
    ⟨{ runS with brg := { waiting := [waitA] } }, 0, waitA, [], by decide +kernel⟩,
    ⟨runS, 0, 0, by decide +kernel⟩,
    ⟨{ runS with brg := { sems := (Vector.replicate 16 none).set 0 (some none) } }, 0, 0, by decide +kernel⟩,
    ⟨runS, 0, by decide +kernel⟩,
    ⟨(lineS lineA), 0, lineA, [], by decide +kernel⟩,
    ⟨(lineS { lineA with taken := 0xFFFF }), 0, { lineA with taken := 0xFFFF }, [], by decide +kernel⟩,
    ⟨runS, by decide +kernel⟩,
    ⟨{ runS with kiln := { staged := some stagedA } }, by decide +kernel⟩⟩

theorem hyps_SessionsKeysAndTransfers :
    (∃ (s : State) (h : GdpHead),
      s.boot.fwWait = none ∧ gdpPort h s = false) ∧
    (∃ (s : State) (h : GdpHead) (n : Fin 4),
      s.boot.fwWait = none ∧ gdpPort h s = true ∧ h.session = 0 ∧ s.kiln.sessions[n.val].open_ = false ∧
      (∀ m < n, s.kiln.sessions[m.val].open_ = true)) ∧
    (∃ (s : State) (h : GdpHead),
      s.boot.fwWait = none ∧ gdpPort h s = true ∧ h.session = 0 ∧ (∀ (m : Fin 4), s.kiln.sessions[m.val].open_ = true)) ∧
    (∃ (s : State) (h : GdpHead) (n : Fin 4) (a : Answer),
      s.boot.fwWait = none ∧ gdpPort h s = true ∧ gdpSession h s = some n ∧ 0 < s.kiln.sessions[n.val].seq ∧
      h.seq.toNat = s.kiln.sessions[n.val].seq ∧ s.kiln.sessions[n.val].answer = some a) ∧
    (∃ (s : State) (h : GdpHead) (n : Fin 4),
      s.boot.fwWait = none ∧ gdpPort h s = true ∧ gdpSession h s = some n ∧ h.seq.toNat ≠ s.kiln.sessions[n.val].seq ∧
      h.seq.toNat ≠ (s.kiln.sessions[n.val].seq + 1) % 2 ^ 32) ∧
    (∃ (s : State) (h : GdpHead) (n : Fin 4) (i : BitVec 16) (k : BitVec 8) (e : DEntry) (w : ℕ),
      s.boot.fwWait = none ∧ gdpPort h s = true ∧ gdpSession h s = some n ∧
      h.seq.toNat = (s.kiln.sessions[n.val].seq + 1) % 2 ^ 32 ∧ h.seq.toNat ≠ s.kiln.sessions[n.val].seq ∧
      sessBusy s.kiln.sessions[n.val] = false ∧ readCheck (Session.gdp n) i.toNat k.toNat s = Sum.inl e ∧
      e.ty = DType.uint w ∧ i.toNat < 8192) ∧
    (∃ (s : State) (h : GdpHead) (n : Fin 4) (i : BitVec 16) (k : BitVec 8) (cd : ℕ),
      s.boot.fwWait = none ∧ gdpPort h s = true ∧ gdpSession h s = some n ∧
      h.seq.toNat = (s.kiln.sessions[n.val].seq + 1) % 2 ^ 32 ∧ h.seq.toNat ≠ s.kiln.sessions[n.val].seq ∧
      sessBusy s.kiln.sessions[n.val] = false ∧ readCheck (Session.gdp n) i.toNat k.toNat s = Sum.inr cd) ∧
    (∃ (s : State) (h : GdpHead) (n : Fin 4) (bl : BlockIn) (e : DEntry),
      s.boot.fwWait = none ∧ gdpPort h s = true ∧ gdpSession h s = some n ∧
      h.seq.toNat = (s.kiln.sessions[n.val].seq + 1) % 2 ^ 32 ∧ h.seq.toNat ≠ s.kiln.sessions[n.val].seq ∧
      sessBusy s.kiln.sessions[n.val] = false ∧ writeCheck (Session.gdp n) 4119 0 bl.data s = Sum.inl e) ∧
    (∃ (s : State) (h : GdpHead) (n : Fin 4),
      s.boot.fwWait = none ∧ gdpPort h s = true ∧ gdpSession h s = some n ∧
      h.seq.toNat = (s.kiln.sessions[n.val].seq + 1) % 2 ^ 32 ∧ h.seq.toNat ≠ s.kiln.sessions[n.val].seq ∧
      sessBusy s.kiln.sessions[n.val] = false) ∧
    (∃ (s : State) (dt : ℕ) (i : Fin 6),
      (advance dt s).kiln.sessions[i].open_ = false) ∧
    (∃ (s : State) (dt : ℕ) (i : Fin 6),
      (advance dt s).kiln.sessions[i].open_ = true) ∧
    (∃ (s : State) (b : Session) (i : Fin 6),
      Served b s ∧ sessIdx b = some i ∧ keyLocked s = true) ∧
    (∃ (s : State) (b : Session) (i : Fin 6),
      Served b s ∧ sessIdx b = some i ∧ keyLocked s = false ∧ s.kiln.lastChal ≠ some s.tim.frc) ∧
    (∃ (s : State) (b : Session) (i : Fin 6) (c : Challenge) (r : List (BitVec 8)),
      Served b s ∧ sessIdx b = some i ∧ keyLocked s = false ∧ (sessOf b s).challenge = some c ∧
      s.tim.elapsed ≤ c.at_ + tenNs ∧ r.length = 16 ∧
      r ≠ List.take 16 (sha256 (s.kiln.key ++ c.octets ++ leBytes 4 (sessId b)))) ∧
    (∃ (s : State) (b : Session) (i : Fin 6) (c : Challenge) (r : List (BitVec 8)),
      Served b s ∧ sessIdx b = some i ∧ keyLocked s = false ∧ (sessOf b s).challenge = some c ∧
      s.tim.elapsed ≤ c.at_ + tenNs ∧ r.length = 16 ∧
      r = List.take 16 (sha256 (s.kiln.key ++ c.octets ++ leBytes 4 (sessId b)))) ∧
    (∃ (s : State) (b : Session) (i : Fin 6) (key : List (BitVec 8)),
      Served b s ∧ sessIdx b = some i ∧ levelUp b s = true ∧ key.length = 16 ∧ leNat key ≠ 0) ∧
    (∃ (s : State) (b : Session) (i : Fin 6),
      Served b s ∧ sessIdx b = some i ∧ levelUp b s = false) ∧
    (∃ (s : State) (dt : ℕ),
      keyLocked (advance dt s) = true) ∧
    (∃ (s : State) (dt : ℕ),
      keyLocked (advance dt s) = false) ∧
    (∃ (s : State) (c : Fin 2),
      Served (Session.can c) s) ∧
    (∃ (s : State) (dt : ℕ) (c : Fin 2),
      canLive c (advance dt s) = false) ∧
    (∃ (s : State) (dt : ℕ) (c : Fin 2),
      canLive c (advance dt s) = true) :=
  ⟨⟨{}, (gdpHeadA 5), by decide +kernel⟩,
    ⟨(gdpS .run2oo3 true), ⟨0, true, 0, 1⟩, 1, by decide +kernel⟩,
    ⟨{ gdpS .run2oo3 true with kiln := { sessions := Vector.replicate 6 { open_ := true } } }, ⟨0, true, 0, 1⟩,
     by decide +kernel⟩,
    ⟨(gdpS .run2oo3 true), (gdpHeadA 4), 0, (.done [1]), by decide +kernel⟩,
    ⟨(gdpS .run2oo3 true), (gdpHeadA 9), 0, by decide +kernel⟩,
    ⟨(gdpS .run2oo3 true), (gdpHeadA 5), 0, 0x1001, 0, (entryOf (readCheck (.gdp 0) 0x1001 0 (gdpS .run2oo3 true))),
     1, by decide +kernel⟩,
    ⟨(gdpS .run2oo3 true), (gdpHeadA 5), 0, 0x1002, 0, 0x06020000, by decide +kernel⟩,
    ⟨(gdpS .run2oo3 true), (gdpHeadA 5), 0, ⟨0, true, [1, 0]⟩,
     (entryOf (writeCheck (.gdp 0) 0x1017 0 [1, 0] (gdpS .run2oo3 true))), by decide +kernel⟩,
    ⟨(gdpS .run2oo3 true), (gdpHeadA 5), 0, by decide +kernel⟩,
    ⟨(gdpS .run2oo3 true), 0, 1, by decide +kernel⟩,
    ⟨(gdpS .run2oo3 true), 0, 0, by decide +kernel⟩,
    ⟨{ gdpS .run2oo3 true with kiln := { (gdpS .run2oo3 true).kiln with lockUntil := some 9000000 } }, (.gdp 0), 0,
     by unfold Served; decide +kernel⟩,
    ⟨(gdpS .run2oo3 true), (.gdp 0), 0, by unfold Served; decide +kernel⟩,
    ⟨(gdpS .run2oo3 false), (.gdp 0), 0, ⟨[1, 2, 3], 0⟩, (List.replicate 16 0), by unfold Served; decide +kernel⟩,
    ⟨(gdpS .run2oo3 false), (.gdp 0), 0, ⟨[1, 2, 3], 0⟩, responseA, by unfold Served; decide +kernel⟩,
    ⟨(gdpS .run2oo3 true), (.gdp 0), 0, (List.replicate 16 1), by unfold Served; decide +kernel⟩,
    ⟨(gdpS .run2oo3 false), (.gdp 0), 0, by unfold Served; decide +kernel⟩,
    ⟨{ gdpS .run2oo3 true with kiln := { (gdpS .run2oo3 true).kiln with lockUntil := some 9000000 } }, 0,
     by decide +kernel⟩,
    ⟨(gdpS .run2oo3 true), 0, by decide +kernel⟩,
    ⟨{ gdpS .run2oo3 true with cfd := { chans := Vector.replicate 2 { node := 5, nmt := 2, bus := 0 } } }, 0,
     by unfold Served; decide +kernel⟩,
    ⟨{}, 0, 0, by decide +kernel⟩,
    ⟨{ gdpS .run2oo3 true with cfd := { chans := Vector.replicate 2 { node := 5, nmt := 2, bus := 0 } } }, 0, 0,
     by decide +kernel⟩⟩

theorem hyps_StateCommandsAndSafetyCommits :
    (∃ (s : State) (b : Session),
      Served b s ∧ levelUp b s = true ∧ s.pwr.supply = 0 ∧ maintainable s.mod.state = true) ∧
    (∃ (s : State) (b : Session),
      Served b s ∧ levelUp b s = true ∧ maintainable s.mod.state = false) ∧
    (∃ (s : State) (b : Session),
      Served b s ∧ levelUp b s = true ∧ s.pwr.supply = 0 ∧ s.mod.state = ModState.maintenance) ∧
    (∃ (s : State) (b : Session),
      Served b s ∧ levelUp b s = true ∧ s.mod.state ≠ ModState.maintenance) ∧
    (∃ (s : State) (b : Session),
      Served b s ∧ levelUp b s = true ∧ bankable s.mod.state = true) ∧
    (∃ (s : State) (b : Session),
      Served b s ∧ levelUp b s = true ∧ s.pwr.supply = 0 ∧ s.mod.state = ModState.service) ∧
    (∃ (s : State) (b : Session),
      Served b s ∧ levelUp b s = true ∧ isRun s = true) ∧
    (∃ (s : State) (b : Session),
      Served b s ∧ levelUp b s = true ∧ romMode s = false ∧ s.pwr.supply = 0 ∧ s.mod.state = ModState.service) ∧
    (∃ (s : State) (b : Session),
      Served b s ∧ levelUp b s = true ∧ romMode s = false ∧ isRun s = true) ∧
    (∃ (s : State) (b : Session) (l : Fin 4),
      Served b s ∧ levelUp b s = true ∧ romMode s = false ∧ s.mod.state = ModState.service ∧
      s.vrc.mode ≠ VoteMode.oo1 ∧ laneState s l ≠ LaneState.retired ∧ laneState s l ≠ LaneState.quarantine) ∧
    (∃ (s : State) (b : Session),
      Served b s ∧ levelUp b s = true ∧ romMode s = false ∧ s.mod.state = ModState.service ∧ s.vrc.mode = VoteMode.oo1) ∧
    (∃ (s : State) (b : Session),
      Served b s ∧ levelUp b s = true ∧ romMode s = false ∧ s.mod.state ≠ ModState.service) ∧
    (∃ (s : State) (b : Session),
      Served b s ∧ levelUp b s = true ∧ romMode s = false ∧ s.vrc.wideWritten = true) ∧
    (∃ (s : State) (b : Session),
      Served b s ∧ levelUp b s = true ∧ romMode s = false ∧ s.vrc.wideWritten = false) ∧
    (∃ (s : State) (b : Session) (i : BitVec 16) (k : BitVec 8) (d : List (BitVec 8)) (e : DEntry),
      Served b s ∧ writeCheck b i.toNat k.toNat d s = Sum.inl e ∧ e.safety = true ∧ i.toNat ≠ 12305 ∧ isRun s = true ∧
      s.kiln.staged ≠ none) ∧
    (∃ (s : State) (b : Session) (i : BitVec 16) (k : BitVec 8) (d : List (BitVec 8)) (e : DEntry),
      Served b s ∧ writeCheck b i.toNat k.toNat d s = Sum.inl e ∧ e.safety = true ∧ i.toNat ≠ 12305 ∧ isRun s = true ∧
      s.kiln.staged = none ∧ s.twl.role = TwinRole.alone) ∧
    (∃ (s : State) (dt : ℕ) (g : Staged) (b : Session),
      (advance dt s).kiln.staged = some g ∧ g.by_ = some b ∧ (advance dt s).kiln.applied = true) ∧
    (∃ (s : State) (dt : ℕ) (g : Staged) (b : Session),
      (advance dt s).kiln.staged = some g ∧ g.by_ = some b ∧ (advance dt s).kiln.applied = false) ∧
    (∃ (s : State) (dt : ℕ) (g : Staged) (b : Session),
      (advance dt s).kiln.staged = some g ∧ g.by_ = some b ∧ (advance dt s).cys.gap = true ∧
      (advance dt s).cys.quiet = true ∧ (advance dt s).cys.resvSafety = true ∧ (advance dt s).kiln.verd = true ∧
      (advance dt s).kiln.applied = false ∧ verdictRefusal g (advance dt s) = none ∧ g.index ≠ 12305) ∧
    (∃ (s : State) (dt : ℕ) (g : Staged) (b : Session) (c : ℕ),
      (advance dt s).kiln.staged = some g ∧ g.by_ = some b ∧ (advance dt s).cys.gap = true ∧
      (advance dt s).cys.quiet = true ∧ (advance dt s).cys.resvSafety = true ∧ (advance dt s).kiln.verd = true ∧
      (advance dt s).kiln.applied = false ∧ verdictRefusal g (advance dt s) = some c) ∧
    (∃ (s : State) (dt : ℕ) (g : Staged) (b : Session),
      (advance dt s).kiln.staged = some g ∧ g.by_ = some b ∧ (advance dt s).kiln.applied = true ∧ g.index ≠ 12305) ∧
    (∃ (s : State) (h : TwinHead),
      linkAlive s = true ∧ h.crcOk = true ∧ s.twl.role ≠ TwinRole.standby) ∧
    (∃ (s : State) (h : TwinHead) (i : BitVec 16) (k : BitVec 8) (d : List (BitVec 8)),
      linkAlive s = true ∧ h.crcOk = true ∧ s.twl.role = TwinRole.standby ∧ isRun s = true ∧
      valueFromActiveGood i.toNat k.toNat d s = true) ∧
    (∃ (s : State) (h : TwinHead) (i : BitVec 16) (k : BitVec 8) (d : List (BitVec 8)),
      linkAlive s = true ∧ h.crcOk = true ∧ s.twl.role = TwinRole.standby ∧ isRun s = true ∧
      valueFromActiveGood i.toNat k.toNat d s = false) :=
  ⟨⟨(gdpS .run2oo3 true), (.gdp 0), by unfold Served; decide +kernel⟩,
    ⟨(gdpS .wide true), (.gdp 0), by unfold Served; decide +kernel⟩,
    ⟨(gdpS .maintenance true), (.gdp 0), by unfold Served; decide +kernel⟩,
    ⟨(gdpS .run2oo3 true), (.gdp 0), by unfold Served; decide +kernel⟩,
    ⟨(gdpS .run2oo3 true), (.gdp 0), by unfold Served; decide +kernel⟩,
    ⟨(gdpS .service true), (.gdp 0), by unfold Served; decide +kernel⟩,
    ⟨(gdpS .run2oo3 true), (.gdp 0), by unfold Served; decide +kernel⟩,
    ⟨(gdpS .service true), (.gdp 0), by unfold Served; decide +kernel⟩,
    ⟨(gdpS .run2oo3 true), (.gdp 0), by unfold Served; decide +kernel⟩,
    ⟨{ gdpS .service true with vrc := {} }, (.gdp 0), 1, by unfold Served; decide +kernel⟩,
    ⟨{ gdpS .service true with vrc := { mode := .oo1, svc := 1 } }, (.gdp 0), by unfold Served; decide +kernel⟩,
    ⟨(gdpS .run2oo3 true), (.gdp 0), by unfold Served; decide +kernel⟩,
    ⟨{ gdpS .service true with vrc := { wideWritten := true } }, (.gdp 0), by unfold Served; decide +kernel⟩,
    ⟨(gdpS .service true), (.gdp 0), by unfold Served; decide +kernel⟩,
    ⟨(verdictS 0 false), (.gdp 0), 0x2200, 2, (leBytes 4 3600),
     (entryOf (writeCheck (.gdp 0) 0x2200 2 (leBytes 4 3600) (verdictS 0 false))), by unfold Served; decide +kernel⟩,
    ⟨(gdpS .run2oo3 true), (.gdp 0), 0x2200, 2, (leBytes 4 3600),
     (entryOf (writeCheck (.gdp 0) 0x2200 2 (leBytes 4 3600) (gdpS .run2oo3 true))), by unfold Served; decide +kernel⟩,
    ⟨(verdictS 0 true), 0, stagedA, (.gdp 0), by decide +kernel⟩,
    ⟨(verdictS 0 false), 0, stagedA, (.gdp 0), by decide +kernel⟩,
    ⟨(verdictS 0 false), 0, stagedA, (.gdp 0), by decide +kernel⟩,
    ⟨(verdictS 0x06090030 false), 0, stagedA, (.gdp 0), 0x06090030, by decide +kernel⟩,
    ⟨(verdictS 0 true), 0, stagedA, (.gdp 0), by decide +kernel⟩,
    ⟨(pairS .active), headA, by decide +kernel⟩,
    ⟨(pairS .standby), headA, 0x2200, 2, (leBytes 4 3600), by decide +kernel⟩,
    ⟨(pairS .standby), headA, 0x2200, 2, (leBytes 4 0), by decide +kernel⟩⟩

theorem hyps_ImagesFirmwareAndDebugger :
    (∃ (s : State) (b : Session) (k : Fin 8) (q : List (Fin 8)),
      Served b s ∧ levelUp b s = true ∧ romMode s = false ∧ par s 8193 1 = 0 ∧ targetCores s = k :: q ∧
      s.mod.state = ModState.service ∧ targetExecutes s = true) ∧
    (∃ (s : State) (b : Session) (k : Fin 8) (q : List (Fin 8)),
      Served b s ∧ levelUp b s = true ∧ romMode s = false ∧ par s 8193 1 = 0 ∧ targetCores s = k :: q ∧ isRun s = true) ∧
    (∃ (s : State) (b : Session) (k : Fin 8) (q : List (Fin 8)),
      Served b s ∧ levelUp b s = true ∧ romMode s = false ∧ par s 8193 1 = 0 ∧ targetCores s = k :: q ∧
      targetRuns s = true) ∧
    (∃ (s : State) (b : Session) (k : Fin 8) (q : List (Fin 8)),
      Served b s ∧ levelUp b s = true ∧ romMode s = false ∧ par s 8193 1 = 0 ∧ targetCores s = k :: q ∧
      targetHalted s = true) ∧
    (∃ (s : State) (b : Session) (k : Fin 8) (q : List (Fin 8)) (d : List (BitVec 8)),
      Served b s ∧ levelUp b s = true ∧ romMode s = false ∧ par s 8193 1 = 0 ∧ targetCores s = k :: q ∧
      targetHalted s = true ∧ d.length = 8) ∧
    (∃ (s : State) (b : Session) (k : Fin 8) (q : List (Fin 8)) (n : BitVec 16),
      Served b s ∧ levelUp b s = true ∧ romMode s = false ∧ par s 8193 1 = 0 ∧ targetCores s = k :: q ∧
      targetHalted s = true ∧ memReadBad n.toNat s = none) ∧
    (∃ (s : State) (b : Session) (k : Fin 8) (q : List (Fin 8)) (d : List (BitVec 8)),
      Served b s ∧ levelUp b s = true ∧ romMode s = false ∧ par s 8193 1 = 0 ∧ targetCores s = k :: q ∧
      targetHalted s = true ∧ memReadBad d.length s = none) ∧
    (∃ (s : State) (b : Session) (k : Fin 8) (q : List (Fin 8)) (v : Option (List (BitVec 8))),
      Served b s ∧ levelUp b s = true ∧ romMode s = false ∧ par s 8193 1 = 0 ∧ targetCores s = k :: q ∧
      targetHalted s = false ∧ (∀ (d : List (BitVec 8)), v = some d → d.length = 8)) ∧
    (∃ (s : State) (k : Fin 8),
      atBreakpoint k s = false) ∧
    (∃ (s : State) (k : Fin 8),
      atBreakpoint k s = true ∧ s.mod.state = ModState.service) ∧
    (∃ (s : State) (b : Session) (d : List (BitVec 8)),
      Served b s ∧ levelUp b s = true ∧ romMode s = false ∧ 0 < d.length ∧ d.length ≤ 1024 ∧ s.boot.fw = none ∧
      fwFirstRefused s = false) ∧
    (∃ (s : State) (b : Session) (d : List (BitVec 8)),
      Served b s ∧ levelUp b s = true ∧ romMode s = false ∧ 0 < d.length ∧ d.length ≤ 1024 ∧ s.boot.app = none) ∧
    (∃ (s : State) (b : Session) (d : List (BitVec 8)),
      Served b s ∧ levelUp b s = true ∧ romMode s = false ∧ 0 < d.length ∧ d.length ≤ 1024 ∧ s.boot.sched = none) ∧
    (∃ (s : State) (dt : ℕ),
      (advance dt s).boot.fwWait = none) ∧
    (∃ (s : State) (dt : ℕ) (b : Session) (off : ℕ) (d : List Byte),
      (advance dt s).boot.fwWait = some (b, off, false, d)) ∧
    (∃ (s : State) (dt : ℕ) (x : Transfer),
      (advance dt s).boot.app = some x) ∧
    (∃ (s : State) (dt : ℕ) (x : Transfer),
      (advance dt s).boot.fw = some x) ∧
    (∃ (s : State) (b : Session),
      Served b s ∧ levelUp b s = true ∧ s.boot.banks[fwTarget s.boot].state = BankState.written) ∧
    (∃ (s : State) (b : Session),
      Served b s ∧ levelUp b s = true ∧ s.boot.banks[fwTarget s.boot].state ≠ BankState.written) ∧
    (∃ (s : State) (b : Session) (p : Fin 3),
      Served b s ∧ levelUp b s = true ∧ s.boot.prev = some p.val ∧ s.boot.banks[p].state = BankState.good ∧
      s.boot.running ≠ some p.val) ∧
    (∃ (s : State) (b : Session) (f : Transfer),
      Served b s ∧ levelUp b s = true ∧ s.boot.fw = some f) ∧
    (∃ (s : State) (b : Session) (r : ℕ),
      Served b s ∧ levelUp b s = true ∧ s.boot.running = some r ∧ s.boot.nextBank ≠ r) ∧
    (∃ (s : State) (b : Session),
      Served b s) ∧
    (∃ (s : State) (b : Session),
      Served b s ∧ romMode s = false ∧ s.xn.acyc = none) ∧
    (∃ (s : State) (b : Session) (d : List (BitVec 8)),
      Served b s ∧ romMode s = false ∧ s.xn.acyc = none ∧ levelUp b s = true ∧ 0 < d.length ∧ d.length ≤ 65536 ∧
      s.kiln.gwIn = none) ∧
    (∃ (s : State) (b : Session),
      Served b s ∧ levelUp b s = true ∧ romMode s = false ∧ s.cys.staged = none) ∧
    (∃ (s : State) (b : Session),
      Served b s ∧ levelUp b s = true ∧ romMode s = false ∧ s.cys.staged ≠ none ∧ s.cys.olc = Olc.staged) ∧
    (∃ (s : State) (b : Session),
      Served b s ∧ levelUp b s = true ∧ romMode s = false ∧ stages s = true ∧ s.twl.role = TwinRole.alone ∧
      stageRefusal (bufferedImage s) s = none) ∧
    (∃ (s : State) (b : Session),
      Served b s ∧ levelUp b s = true ∧ romMode s = false ∧ s.cys.staged ≠ none ∧ s.cys.olc = Olc.staged ∧
      isRun s = true ∧ s.twl.role = TwinRole.alone ∧ s.kiln.staged = none) :=
  ⟨⟨(debugS false), (.gdp 0), 0, [1], by unfold Served; decide +kernel⟩,
    ⟨{ gdpS .run2oo3 true with kiln := { (gdpS .run2oo3 true).kiln with memAddr := 0x0100000000 } }, (.gdp 0), 0,
     [1], by unfold Served; decide +kernel⟩,
    ⟨(debugS true), (.gdp 0), 0, [1], by unfold Served; decide +kernel⟩,
    ⟨(debugS true), (.gdp 0), 0, [1], by unfold Served; decide +kernel⟩,
    ⟨(debugS true), (.gdp 0), 0, [1], [1, 2, 3, 4, 5, 6, 7, 8], by unfold Served; decide +kernel⟩,
    ⟨(debugS true), (.gdp 0), 0, [1], 8, by unfold Served; decide +kernel⟩,
    ⟨(debugS true), (.gdp 0), 0, [1], [1, 2, 3, 4, 5, 6, 7, 8], by unfold Served; decide +kernel⟩,
    ⟨(debugS false), (.gdp 0), 0, [1], none, by unfold Served; decide +kernel⟩,
    ⟨runS, 0, by decide +kernel⟩,
    ⟨{ debugS false with kiln := { (debugS false).kiln with breakpoint := 0x0100000000 } }, 0, by decide +kernel⟩,
    ⟨(gdpS .service true), (.gdp 0), [1, 2], by unfold Served; decide +kernel⟩,
    ⟨(gdpS .service true), (.gdp 0), [1, 2], by unfold Served; decide +kernel⟩,
    ⟨(gdpS .service true), (.gdp 0), [1, 2], by unfold Served; decide +kernel⟩,
    ⟨(gdpS .service true), 0, by decide +kernel⟩,
    ⟨{ gdpS .service true with boot := { (gdpS .service true).boot with fwWait := some (.gdp 0, 0, false, [1, 2]) } },
     0, (.gdp 0), 0, [1, 2], by decide +kernel⟩,
    ⟨{ gdpS .service true with boot := { (gdpS .service true).boot with app := some ⟨1, [1, 2], 0, 2⟩ } }, 0,
     ⟨1, [1, 2], 0, 2⟩, by decide +kernel⟩,
    ⟨{ gdpS .service true with boot := { (gdpS .service true).boot with fw := some ⟨1, [1, 2], 0, 2⟩ } }, 0,
     ⟨1, [1, 2], 0, 2⟩, by decide +kernel⟩,
    ⟨{ gdpS .service true with boot := { (gdpS .service true).boot with running := some 0, banks := #v[{ state := .good }, { state := .written, image := firmwareFile }, { state := .good }] } },
     (.gdp 0), by unfold Served; decide +kernel⟩,
    ⟨(gdpS .service true), (.gdp 0), by unfold Served; decide +kernel⟩,
    ⟨{ gdpS .service true with boot := { (gdpS .service true).boot with prev := some 0, banks := #v[{ state := .good }, {}, { state := .good }] } },
     (.gdp 0), 0, by unfold Served; decide +kernel⟩,
    ⟨{ gdpS .service true with boot := { (gdpS .service true).boot with fw := some ⟨1, [1, 2], 0, 2⟩ } }, (.gdp 0),
     ⟨1, [1, 2], 0, 2⟩, by unfold Served; decide +kernel⟩,
    ⟨{ gdpS .service true with boot := { (gdpS .service true).boot with nextBank := 0 } }, (.gdp 0), 2,
     by unfold Served; decide +kernel⟩,
    ⟨(gdpS .service true), (.gdp 0), by unfold Served; decide +kernel⟩,
    ⟨(gdpS .run2oo3 true), (.gdp 0), by unfold Served; decide +kernel⟩,
    ⟨(gdpS .run2oo3 true), (.gdp 0), [1, 2], by unfold Served; decide +kernel⟩,
    ⟨(gdpS .run2oo3 true), (.gdp 0), by unfold Served; decide +kernel⟩,
    ⟨{ gdpS .run2oo3 true with cys := { (gdpS .run2oo3 true).cys with staged := some appA, olc := .staged } },
     (.gdp 0), by unfold Served; decide +kernel⟩,
    ⟨{ gdpS .run2oo3 true with boot := { (gdpS .run2oo3 true).boot with appBuf := imageFile, appClosed := true } },
     (.gdp 0), by unfold Served; decide +kernel⟩,
    ⟨{ gdpS .run2oo3 true with cys := { (gdpS .run2oo3 true).cys with staged := some appA, olc := .staged } },
     (.gdp 0), by unfold Served; decide +kernel⟩⟩

theorem hyps_EventsEnterTheRecorder :
    (∃ (s : State) (src : Fin 16),
      (s.mod.state = ModState.cold ∨ 12 ≤ src.val ∧ src.val < 15)) ∧
    (∃ (s : State) (src : Fin 16),
      (s.mod.state = ModState.cold ∨ 12 ≤ src.val ∧ src.val < 15)) ∧
    (∃ (s : State) (src : Fin 16) (c : BitVec 16),
      s.mod.state ≠ ModState.cold ∧ src.val < 10 ∧ codeRefused src.val c.toNat = false ∧
      privIndex s.recd c.toNat = none ∧ s.recd.fifo = [] ∧ s.recd.head = none) ∧
    (∃ (s : State) (src : Fin 16) (c : BitVec 16) (a b d : BitVec 32) (q : List RecEntry) (n : RecEntry),
      s.mod.state ≠ ModState.cold ∧ src.val < 10 ∧ codeRefused src.val c.toNat = false ∧
      privIndex s.recd c.toNat = none ∧ s.recd.fifo = q ++ [n] ∧
      mergeable (stampEntry s.recd src.val c.toNat a.toNat b.toNat d.toNat) n = false ∧ q.length < 63) ∧
    (∃ (s : State) (src : Fin 16) (c : BitVec 16) (a b d : BitVec 32) (q : List RecEntry) (n : RecEntry),
      s.mod.state ≠ ModState.cold ∧ src.val < 10 ∧ codeRefused src.val c.toNat = false ∧
      privIndex s.recd c.toNat = none ∧ s.recd.fifo = q ++ [n] ∧
      mergeable (stampEntry s.recd src.val c.toNat a.toNat b.toNat d.toNat) n = true) ∧
    (∃ (s : State) (src : Fin 16) (c : BitVec 16) (a b d : BitVec 32) (q : List RecEntry) (n : RecEntry),
      s.mod.state ≠ ModState.cold ∧ src.val < 10 ∧ codeRefused src.val c.toNat = false ∧
      privIndex s.recd c.toNat = none ∧ s.recd.fifo = q ++ [n] ∧
      mergeable (stampEntry s.recd src.val c.toNat a.toNat b.toNat d.toNat) n = false ∧ q.length = 63) ∧
    (∃ (s : State) (c : BitVec 16),
      s.mod.state ≠ ModState.cold ∧ 33024 ≤ c.toNat ∧ c.toNat ≤ 36863 ∧ privIndex s.recd c.toNat = none ∧
      s.recd.fifo = [] ∧ s.recd.head = none) ∧
    (∃ (s : State) (c : BitVec 16) (i : Fin 32),
      s.mod.state ≠ ModState.cold ∧ 33024 ≤ c.toNat ∧ c.toNat ≤ 36863 ∧ privIndex s.recd c.toNat = some i ∧
      assocGet s.recd.tokens c.toNat = none) ∧
    (∃ (s : State) (c : BitVec 16) (i : Fin 32) (k : ℕ),
      s.mod.state ≠ ModState.cold ∧ 33024 ≤ c.toNat ∧ c.toNat ≤ 36863 ∧ privIndex s.recd c.toNat = some i ∧
      assocGet s.recd.tokens c.toNat = some (k + 1) ∧ s.recd.fifo.length < 64) ∧
    (∃ (s : State),
      33024 ≤ BitVec.toNat s.recd.ev[0] % 65536 ∧ BitVec.toNat s.recd.ev[0] % 65536 ≤ 36863 ∧
      privIndex s.recd (BitVec.toNat s.recd.ev[0] % 65536) = none ∧ s.recd.fifo = [] ∧ s.recd.head = none) ∧
    (∃ (s : State) (dt : ℕ) (c : BitVec 16) (p : ℕ × ℕ × ℕ),
      (advance dt s).mod.state ≠ ModState.cold ∧
      (List.find? (fun x => decide (x.1 = c.toNat)) (advance dt s).recd.privileged = some p)) :=
  ⟨⟨{}, 0, by decide +kernel⟩,
    ⟨runS, 13, by decide +kernel⟩,
    ⟨runS, 0, 1, by decide +kernel⟩,
    ⟨{ runS with recd := { fifo := [stampEntry {} 0 2 0 0 0] } }, 0, 1, 0, 0, 0, [], (stampEntry {} 0 2 0 0 0),
     by decide +kernel⟩,
    ⟨{ runS with recd := { fifo := [stampEntry {} 0 1 0 0 0] } }, 0, 1, 0, 0, 0, [], (stampEntry {} 0 1 0 0 0),
     by decide +kernel⟩,
    ⟨{ runS with recd := { fifo := List.replicate 64 (stampEntry {} 0 2 0 0 0) } }, 0, 1, 0, 0, 0,
     (List.replicate 63 (stampEntry {} 0 2 0 0 0)), (stampEntry {} 0 2 0 0 0), by decide +kernel⟩,
    ⟨runS, 0x8100, by decide +kernel⟩,
    ⟨{ runS with recd := { privileged := [(0x8100, 5, 1)] } }, 0x8100, 0, by decide +kernel⟩,
    ⟨{ runS with recd := { privileged := [(0x8100, 5, 1)], tokens := [(0x8100, 3)] } }, 0x8100, 0, 2,
     by decide +kernel⟩,
    ⟨{ runS with recd := { ev := #v[0x8FFF, 1, 2] } }, by decide +kernel⟩,
    ⟨{ runS with recd := { privileged := [(0x8100, 5, 1)] } }, 0, 0x8100, (0x8100, 5, 1), by decide +kernel⟩⟩

theorem hyps_RecordsAndDumpsAreWritten :
    (∃ (s : State) (dt : ℕ) (e : RecEntry) (q : List RecEntry),
      (advance dt s).mod.state ≠ ModState.cold ∧ (advance dt s).recd.rewrite = false ∧
      (advance dt s).recd.sherdNext = false ∧ (advance dt s).recd.fifo = e :: q ∧ (advance dt s).recd.loss = 0) ∧
    (∃ (s : State) (dt : ℕ) (e : RecEntry) (q : List RecEntry),
      (advance dt s).mod.state ≠ ModState.cold ∧ (advance dt s).recd.rewrite = false ∧
      (advance dt s).recd.sherdNext = false ∧ (advance dt s).recd.fifo = e :: q) ∧
    (∃ (s : State) (dt : ℕ) (e : RecEntry),
      (advance dt s).mod.state ≠ ModState.cold ∧ (advance dt s).recd.head = some e ∧
      (advance dt s).recd.rewrite = false) ∧
    (∃ (s : State) (dt : ℕ) (e : RecEntry),
      (advance dt s).mod.state ≠ ModState.cold ∧ (advance dt s).recd.head = some e ∧ (advance dt s).recd.rewrite = true) ∧
    (∃ (s : State) (dt : ℕ),
      (advance dt s).mod.state = ModState.cold) ∧
    (∃ (s : State) (dt : ℕ),
      (advance dt s).mod.state ≠ ModState.cold) ∧
    (∃ (s : State) (dt : ℕ),
      (advance dt s).pwr.on.getLsbD 5 = false) ∧
    (∃ (s : State) (dt : ℕ),
      (advance dt s).mod.state ≠ ModState.cold ∧ (advance dt s).pwr.on.getLsbD 5 = true) ∧
    (∃ (s : State) (dt : ℕ) (p : Lpc) (a : ℕ),
      isRun (advance dt s) = true ∧
      ((activeLanes (advance dt s)).length = 2 ∨ (activeLanes (advance dt s)).length = 3) ∧ p.derr = false ∧
      (∀ l ∈ activeLanes (advance dt s), (advance dt s).cores[coreP l].lpc = p ∧ dumpBase (advance dt s).cores[coreP l] = some a) ∧
      p.dumpUs = some (elapsedUs (advance dt s))) ∧
    (∃ (s : State) (dt : ℕ) (p : Lpc) (a : ℕ),
      isRun (advance dt s) = true ∧
      ((activeLanes (advance dt s)).length = 2 ∨ (activeLanes (advance dt s)).length = 3) ∧ p.derr = false ∧
      (∀ l ∈ activeLanes (advance dt s), (advance dt s).cores[coreP l].lpc = p ∧ dumpBase (advance dt s).cores[coreP l] = some a) ∧
      p.dumpUs ≠ some (elapsedUs (advance dt s)) ∧ p.dumpPer ≠ 0) ∧
    (∃ (s : State) (dt : ℕ) (p : Lpc) (a : ℕ),
      isRun (advance dt s) = true ∧
      ((activeLanes (advance dt s)).length = 2 ∨ (activeLanes (advance dt s)).length = 3) ∧ p.derr = false ∧
      (∀ l ∈ activeLanes (advance dt s), (advance dt s).cores[coreP l].lpc = p ∧ dumpBase (advance dt s).cores[coreP l] = some a) ∧
      p.dumpUs ≠ some (elapsedUs (advance dt s)) ∧ (advance dt s).cys.gap = true ∧ (advance dt s).cys.ack = true ∧
      (advance dt s).cys.dump = true) ∧
    (∃ (s : State) (dt : ℕ) (p : Lpc) (a : ℕ),
      isRun (advance dt s) = true ∧
      ((activeLanes (advance dt s)).length = 2 ∨ (activeLanes (advance dt s)).length = 3) ∧ p.derr = false ∧
      (∀ l ∈ activeLanes (advance dt s), (advance dt s).cores[coreP l].lpc = p ∧ dumpBase (advance dt s).cores[coreP l] = some a) ∧
      (advance dt s).cys.gap = false) :=
  ⟨⟨{ runS with recd := { fifo := [stampEntry {} 0 1 0 0 0] } }, 0, (stampEntry {} 0 1 0 0 0), [], by decide +kernel⟩,
    ⟨{ runS with recd := { fifo := [stampEntry {} 0 1 0 0 0] } }, 0, (stampEntry {} 0 1 0 0 0), [], by decide +kernel⟩,
    ⟨{ runS with recd := { head := some (stampEntry {} 0 1 0 0 0) } }, 0, (stampEntry {} 0 1 0 0 0),
     by decide +kernel⟩,
    ⟨{ runS with recd := { head := some (stampEntry {} 0 1 0 0 0), rewrite := true } }, 0, (stampEntry {} 0 1 0 0 0),
     by decide +kernel⟩,
    ⟨{}, 0, by decide +kernel⟩,
    ⟨runS, 0, by decide +kernel⟩,
    ⟨{}, 0, by decide +kernel⟩,
    ⟨runS, 0, by decide +kernel⟩,
    ⟨(onCores (fun c => { c with lpc := { dumpPer := 5, dumpUs := some 0 } }) runS), 0,
     { dumpPer := 5, dumpUs := some 0 }, 0x0100000000, by decide +kernel⟩,
    ⟨(onCores (fun c => { c with lpc := { dumpPer := 5 } }) runS), 0, { dumpPer := 5 }, 0x0100000000,
     by decide +kernel⟩,
    ⟨{ gapS (onCores (fun c => { c with lpc := { dumpPer := 5 } }) runS) with cys := { gap := true, ack := true, dump := true } },
     0, { dumpPer := 5 }, 0x0100000000, by decide +kernel⟩,
    ⟨(onCores (fun c => { c with lpc := { dumpPer := 5 } }) runS), 0, { dumpPer := 5 }, 0x0100000000,
     by decide +kernel⟩⟩

theorem hyps_StartLeavesColdAndChoosesABank :
    (∃ (s : State),
      s.mod.state = ModState.cold) ∧
    (∃ (s : State),
      s.mod.state ≠ ModState.cold) ∧
    (∃ (s : State) (b : Fin 3),
      s.mod.state = ModState.firing ∧ s.mod.start.clocksUp = true ∧ s.mod.start.booted = false ∧
      s.boot.watchdogTrial = none ∧ s.boot.nextBank = b.val ∧ s.boot.banks[b].state = BankState.written ∧
      fwCheck s.mod.issue s.boot.banks[b].image = none) ∧
    (∃ (s : State),
      s.mod.state = ModState.firing ∧ s.mod.start.booted = true ∧ s.mod.start.kilnUp = false ∧
      s.kiln.pfv = s.boot.runPfv) :=
  ⟨⟨{}, by decide +kernel⟩,
    ⟨runS, by decide +kernel⟩,
    ⟨{ fireS { clocksUp := true } with boot := { nextBank := 0, banks := #v[{ state := .written, image := firmwareFile }, {}, { state := .good }] } },
     0, by decide +kernel⟩,
    ⟨{ fireS { clocksUp := true, booted := true } with boot := { running := some 2, runPfv := 1 }, kiln := { pfv := 1 } },
     by decide +kernel⟩⟩

theorem hyps_LanesAreTestedAndLoaded :
    (∃ (s : State) (l : Fin 4),
      s.mod.state = ModState.firing ∧ s.mod.start.kilnUp = true ∧ s.mod.start.lanesTested = false ∧
      laneState s l ≠ LaneState.retired ∧ laneState s l ≠ LaneState.quarantine) ∧
    (∃ (s : State),
      s.mod.state = ModState.firing ∧ s.mod.start.kilnUp = true ∧ s.mod.start.lanesTested = false ∧
      laneState s 0 = LaneState.spare) ∧
    (∃ (s : State) (g : LoadTarget),
      s.mod.state = ModState.firing ∧ s.mod.start.kilnUp = true ∧ g ∉ s.boot.loadOk ∧ g ∉ s.boot.loadFailed) ∧
    (∃ (s : State) (g : LoadTarget),
      s.mod.state = ModState.firing ∧ s.mod.start.kilnUp = true ∧ g ∉ s.boot.loadOk ∧ g ∉ s.boot.loadFailed ∧
      g ∉ s.boot.loadOnce) ∧
    (∃ (s : State),
      s.mod.state = ModState.firing ∧ s.mod.start.lanesTested = true ∧ s.mod.start.injected = false ∧
      wideChosen s = false) :=
  ⟨⟨(fireS { clocksUp := true, booted := true, kilnUp := true }), 0, by decide +kernel⟩,
    ⟨(fireS { clocksUp := true, booted := true, kilnUp := true }), by decide +kernel⟩,
    ⟨(fireS { clocksUp := true, booted := true, kilnUp := true }), .xenex, by decide +kernel⟩,
    ⟨(fireS { clocksUp := true, booted := true, kilnUp := true }), .xenex, by decide +kernel⟩,
    ⟨(fireS { clocksUp := true, booted := true, kilnUp := true, lanesTested := true }), by decide +kernel⟩⟩

theorem hyps_FiringEndsInRun :
    (∃ (s : State),
      s.mod.state = ModState.firing ∧ s.mod.start.lanesTested = true ∧ s.mod.start.loaded = false ∧
      s.mod.start.injected = true ∧
      (∀ (l : Fin 4), s.vrc.lanes[l].usable = true ∧ laneState s l = LaneState.spare ∧ s.pwr.on.getLsbD (1 + l.val) = true) ∧
      s.pwr.on.getLsbD 5 = true) ∧
    (∃ (s : State),
      s.mod.state = ModState.firing ∧ s.mod.start.loaded = true ∧ s.mod.start.safetyOk = false ∧
      (∀ m ∈ safetyMembers, memberBad m s = false)) ∧
    (∃ (s : State) (a b c : Fin 4) (q : List (Fin 4)),
      s.mod.state = ModState.firing ∧ s.mod.start.loaded = true ∧ s.mod.start.safetyOk = true ∧ wideChosen s = false ∧
      ((lanesIn s fun x => decide (x = LaneState.wedged)) = a :: b :: c :: q)) ∧
    (∃ (s : State) (a b : Fin 4),
      s.mod.state = ModState.firing ∧ s.mod.start.loaded = true ∧ s.mod.start.safetyOk = true ∧ wideChosen s = false ∧
      ((lanesIn s fun x => decide (x = LaneState.wedged)) = [a, b])) :=
  ⟨⟨(fireS { clocksUp := true, booted := true, kilnUp := true, lanesTested := true, injected := true }),
     by decide +kernel⟩,
    ⟨{ loadedS #v[.wedged, .wedged, .wedged, .wedged] with mod := { state := .firing, start := { loaded := true } } },
     by decide +kernel⟩,
    ⟨(loadedS #v[.wedged, .wedged, .wedged, .wedged]), 0, 1, 2, [3], by decide +kernel⟩,
    ⟨(loadedS #v[.wedged, .retired, .retired, .wedged]), 0, 3, by decide +kernel⟩⟩

theorem hyps_TrialsEndAndResetsFire :
    (∃ (s : State) (b : Fin 3),
      trialBank s = some b ∧ s.mod.state = ModState.firing ∧ s.mod.start.kilnUp = true) ∧
    (∃ (s : State) (b : Fin 3) (f : ℕ),
      trialBank s = some b ∧ s.boot.firedAt = some f ∧ f + 60000 ≤ s.recd.optime ∧ s.mod.state = ModState.run2oo3) ∧
    (∃ (s : State),
      s.mod.state ≠ ModState.cold) :=
  ⟨⟨(trialS .firing), 0, by decide +kernel⟩,
    ⟨(trialS .run2oo3), 0, 0, by decide +kernel⟩,
    ⟨runS, by decide +kernel⟩⟩

theorem hyps_SupplyFailsAndReturns :
    (∃ (s : State),
      s.mod.state ≠ ModState.cold ∧ s.pwr.supply = 0) ∧
    (∃ (s : State),
      isRun s = true ∧ s.pwr.supply = 1) ∧
    (∃ (s : State),
      s.mod.state = ModState.safeHold ∧ s.pwr.supply = 2) ∧
    (∃ (s : State),
      s.mod.state ≠ ModState.cold ∧ s.pwr.supply ≠ 0) ∧
    (∃ (s : State),
      s.mod.state ≠ ModState.cold) ∧
    (∃ (s : State),
      isRun s = true) :=
  ⟨⟨runS, by decide +kernel⟩,
    ⟨{ runS with pwr := { on := 0xFFF, supply := 1 } }, by decide +kernel⟩,
    ⟨{ runS with mod := { state := .safeHold }, pwr := { supply := 2 } }, by decide +kernel⟩,
    ⟨{ runS with pwr := { on := 0xFFF, supply := 1 } }, by decide +kernel⟩,
    ⟨runS, by decide +kernel⟩,
    ⟨runS, by decide +kernel⟩⟩

theorem hyps_DomainsTemperatureAndBanked :
    (∃ (s : State),
      s.pwr.on.getLsbD 9 = true ∧ s.mod.state ≠ ModState.cold) ∧
    (∃ (s : State) (v : BitVec 16),
      s.mod.state ≠ ModState.cold ∧ v.toInt < 1050) ∧
    (∃ (s : State) (v : BitVec 16),
      isRun s = true ∧ 1200 ≤ v.toInt ∧ s.pwr.hotRun = 9) ∧
    (∃ (s : State),
      s.mod.command = 1 ∧ s.mod.state = ModState.service) ∧
    (∃ (s : State),
      s.mod.state = ModState.banked ∧ s.pwr.bankedReached = false ∧ s.pwr.heldWake = []) ∧
    (∃ (s : State) (c : Fin 4) (x : ℕ),
      wakeAllowed c.val x s = true ∧ s.pwr.bankedReached = true) ∧
    (∃ (s : State) (c : Fin 4) (x : ℕ),
      wakeAllowed c.val x s = true ∧ s.pwr.bankedReached = false) ∧
    (∃ (s : State) (p : Fin 2),
      wakeAllowed 1 p.val s = true ∧ (par s 9984 4).testBit p.val = true ∧ s.lnc.spd[p] ≠ 0 ∧
      s.pwr.bankedReached = true) :=
  ⟨⟨runS, by decide +kernel⟩,
    ⟨runS, 900, by decide +kernel⟩,
    ⟨{ runS with pwr := { on := 0xFFF, hotRun := 9 } }, 1200, by decide +kernel⟩,
    ⟨{ gdpS .service true with mod := { state := .service, command := 1, start := runS.mod.start } },
     by decide +kernel⟩,
    ⟨{ runS with mod := { state := .banked } }, by decide +kernel⟩,
    ⟨{ runS with mod := { state := .banked }, pwr := { bankedReached := true } }, 3, 0, by decide +kernel⟩,
    ⟨{ runS with mod := { state := .banked } }, 3, 0, by decide +kernel⟩,
    ⟨{ netS with mod := { state := .banked }, pwr := { on := 0xFFF, bankedReached := true }, kiln := { inForce := [((0x2700, 12), 1)] } },
     0, by decide +kernel⟩⟩

end Sys2Proof.Tests
end

section
/-! PROOFS. The path of one access of cores in unison: the vote lets the common beat through, the fabric answers, and
every running core takes the answer (R44, R48, R125). -/

namespace Sys2Proof.Machine

open Sys2Proof

/-! ### The vote on one beat of the running cores -/

@[simp] theorem inputDiff_beat_self (b : Beat) : inputDiff (.beat b) (.beat b) = 0 := beatDiff_self b

theorem presented_eq_beat (s : State) (f : Fin 8 → Option Beat) (l : Fin 4) : ∃ b, presented s f l = .beat b := by
  unfold presented
  split
  · split <;> exact ⟨_, rfl⟩
  · exact ⟨_, rfl⟩

theorem presented_active {s : State} {f : Fin 8 → Option Beat} {l : Fin 4} {b : Beat} (hl : l ∈ activeLanes s)
    (hf : f (coreP l) = some b) : presented s f l = .beat b := by
  have ha : laneState s l = .active := of_decide_eq_true (List.mem_filter.1 hl).2
  simp [presented, ha, hf]

/-- Lanes in unison present one beat, and the voter lets it through without any effect of its own (R44, R48). -/
theorem voteBeats_unison {core : Fin 8} {s t : State} {f : Fin 8 → Option Beat} {b : Beat} (hu : Unison core s)
    (hne : execCores core s ≠ []) (hv : t.vrc = s.vrc) (hf : ∀ k ∈ execCores core s, f k = some b) :
    voteBeats core f t = (some b, t) := by
  obtain ⟨hn, -⟩ := hu
  have hx : execCores core t = execCores core s := execCores_congr core s t hv
  have ha : activeLanes t = activeLanes s := by unfold activeLanes lanesIn laneState; rw [hv]
  rw [← hx] at hne hf
  rw [← hv, ← ha] at hn
  have hfold := foldl_beats (activeLanes t) (presented t f) t fun l _ => presented_eq_beat t f l
  have voted (hm : t.vrc.mode = .oo3 ∨ t.vrc.mode = .oo2) (l : Fin 4) (hl : l ∈ activeLanes t) :
      presented t f l = .beat b := by
    refine presented_active hl (hf _ ?_)
    rcases hm with hm | hm <;> simpa [execCores, hm] using ⟨l, hl, rfl⟩
  cases hm : t.vrc.mode with
  | none => simp [hm] at hn
  | split =>
    have hc : execCores core t = [core] := by
      simp only [execCores, hm] at hne ⊢
      split at hne
      · exact absurd rfl hne
      · simp_all
    simp [voteBeats, hm, hf core (by simp [hc])]
  | oo1 =>
    have hp : presented t f t.vrc.svc = .beat b := by
      simp [presented, hm, hf (coreP t.vrc.svc) (by simp [execCores, hm])]
    simp [voteBeats, voteClock, hfold, hm, hp]
  | oo2 =>
    rw [hm] at hn
    obtain ⟨i, j, hl⟩ := List.length_eq_two.1 hn
    have hi := voted (.inr hm) i (by simp [hl])
    have hj := voted (.inr hm) j (by simp [hl])
    rw [hl] at hfold
    simp [voteBeats, voteClock, hl, hfold, hm, decide3, hi, hj, applyVerdict, inputBeat]
  | oo3 =>
    rw [hm] at hn
    obtain ⟨i, j, k, hl⟩ := List.length_eq_three.1 hn
    have hi := voted (.inl hm) i (by simp [hl])
    have hj := voted (.inl hm) j (by simp [hl])
    have hk := voted (.inl hm) k (by simp [hl])
    rw [hl] at hfold
    simp [voteBeats, voteClock, hl, hfold, hm, decide3, hi, hj, hk, applyVerdict, inputBeat]

/-! ### One access of the running cores -/

/-- The state in which the fabric meets an access of the running cores: the fetch is done and the beat has left. -/
def sent (core : Fin 8) (x : Access) (s : State) : State :=
  mapCores (execCores core s) (fun c => c.issued x) (fetchAll (execCores core s) s)

theorem sent_coresOnly (core : Fin 8) (x : Access) (s : State) : CoresOnly s (sent core x s) :=
  CoresOnly.trans (fetchAll_rest _ s) (mapCores_rest _ _ _)

theorem sent_get {core : Fin 8} {s : State} {k : Fin 8} (x : Access) (hk : k ∈ execCores core s) :
    (sent core x s).cores[k] = ((s.cores[k]).fetched s.mems[k]).issued x := by
  rw [sent, mapCores_get _ (execCores_nodup core s), if_pos hk, fetchAll_at hk]

/-- A fold over the running cores that gives every one of them the answer, as long as the lanes run. -/
theorem foldl_answer {core : Fin 8} {ks : List (Fin 8)} {u : State} (g : Core → Core)
    (h : ∀ k ∈ ks, k ∈ execCores core u) :
    ks.foldl (fun t k => if k ∈ execCores core t then setCore k g t else t) u = mapCores ks g u := by
  unfold mapCores
  induction ks generalizing u with
  | nil => rfl
  | cons a ks ih =>
    rw [List.foldl_cons, List.foldl_cons, if_pos (h a (by simp))]
    refine ih fun k hk => ?_
    rw [execCores_congr core u (setCore a g u) rfl]
    exact h k (by simp [hk])

theorem find?_tagged {α : Type} {ks : List (Fin 8)} {k : Fin 8} (a : α) (hk : k ∈ ks) :
    (ks.map (fun i => (i, a))).find? (fun p => decide (p.1 = k)) = some (k, a) := by
  induction ks with
  | nil => simp at hk
  | cons j ks ih =>
    by_cases hj : j = k
    · simp [hj]
    · simpa [hj] using ih (by simpa [Ne.symm hj] using hk)

theorem setCore_same (k : Fin 8) (s : State) : setCore k (fun c => c) s = s := by
  simp [setCore, vmod]

theorem mapCores_same (ks : List (Fin 8)) (s : State) : mapCores ks (fun c => c) s = s := by
  induction ks with
  | nil => rfl
  | cons k ks ih =>
    show mapCores ks _ (setCore k _ s) = s
    rw [setCore_same, ih]

/-- An access of cores in unison: one beat is voted, the fabric answers, and every running core takes the answer
(R44, R48, R125). -/
theorem runActs_access {core : Fin 8} {s t u : State} {act : State → Fin 8 → Act} {x : Access} {e : Bool}
    {p : PendAcc} {b : Beat} {r : BusReply} (hne : execCores core s ≠ []) (hu : Unison core s) (hv : t.vrc = s.vrc)
    (ha : ∀ k ∈ execCores core s, act t k = .access x e p)
    (hb : ∀ k ∈ execCores core s, x.beat (t.cores[k]).tag.toNat e = b) (hon : b.attr.getLsbD 23 = true)
    (hr : fabric (masterOf core s) b (mapCores (execCores core s) (fun c => c.issued x) t) = (r, u))
    (hk : execCores core u = execCores core s) :
    runActs core act t = mapCores (execCores core s) (fun c => c.answer p x.addr r) u := by
  have hks : execCores core t = execCores core s := execCores_congr core s t hv
  have hacts : (execCores core s).map (fun i => (i, act t i)) =
      (execCores core s).map (fun i => (i, Act.access x e p)) :=
    List.map_congr_left fun k hk => by rw [ha k hk]
  have hissued : (mapCores (execCores core s) (fun c => c.issued x) t).vrc = s.vrc := by
    rw [mapCores_rest]
    exact hv
  have hm : masterOf core (mapCores (execCores core s) (fun c => c.issued x) t) = masterOf core s := by
    simp only [masterOf, hissued]
  have hid := mapCores_same (execCores core s) t
  have hanswer := foldl_answer (core := core) (u := u) (fun c => c.answer p x.addr r) (fun k h => hk ▸ h)
  have hcore : actCore (.access x e p) = fun c => c := rfl
  obtain ⟨j, ks, hc⟩ := List.exists_cons_of_ne_nil hne
  have hcons : (j, Act.access x e p) :: ks.map (fun i => (i, Act.access x e p)) =
      (execCores core s).map (fun i => (i, Act.access x e p)) := by rw [hc, List.map_cons]
  unfold mapCores at *
  unfold runActs
  simp only [hks, hacts]
  rw [hc, List.map_cons]
  simp only [actFlush, hcons, List.foldl_map, hcore, hid]
  rw [if_neg (by simp [hc, Act.beat]), voteBeats_unison (b := b) hu hne hissued]
  · simp only [hon, if_true, hm, hr]
    rw [← hc]
    exact hanswer
  · intro k hk
    rw [find?_tagged _ hk]
    exact congrArg some (hb k hk)

theorem fetched_tag_cbuf (c : Core) (m : List Host.Cell) :
    (c.fetched m).tag = c.tag ∧ (c.fetched m).cbuf = c.cbuf := by
  obtain ⟨-, -, -, -, ht, -, -, -, hb, -⟩ := plain_fields (fetched_plain c m)
  exact ⟨ht, hb⟩

theorem fetchFirst_fetchAll {core : Fin 8} {s : State} (hx : Executes core s) (act : State → Fin 8 → Act) {k : Fin 8}
    (hk : k ∈ execCores core s) :
    fetchFirst act (fetchAll (execCores core s) s) k = act (fetchAll (execCores core s) s) k := by
  have hf : fetchable (decide (s.vrc.mode = .split)) ((s.cores[k]).fetched s.mems[k]) = true := by
    rw [fetchable_congr _ _ _ (fetched_plain _ _)]
    exact (hx.2 k hk).2.2
  have hv : (fetchAll (execCores core s) s).vrc = s.vrc := by rw [fetchAll_rest]
  simp only [fetchFirst, fetchAll_at hk, hv, hf, if_true]

/-- An instruction by which every running core sends one access (R105, R125): outside the cores it has the fabric's
effect, and every running core takes the fabric's answer. -/
theorem runInstr_access {core : Fin 8} {s u : State} {act : State → Fin 8 → Act} {x : Access} {e : Bool} {p : PendAcc}
    {b : Beat} {r : BusReply} (hx : Executes core s) (hu : Unison core s)
    (ha : ∀ k ∈ execCores core s, act (fetchAll (execCores core s) s) k = .access x e p)
    (hb : ∀ k ∈ execCores core s, x.beat (s.cores[k]).tag.toNat e = b) (hon : b.attr.getLsbD 23 = true)
    (hr : fabric (masterOf core s) b (sent core x s) = (r, u)) (hk : execCores core u = execCores core s) :
    CoresOnly u (runInstr core act s) ∧
      ∀ k ∈ execCores core s, (runInstr core act s).cores[k] = ((u.cores[k]).answer p x.addr r).stepped := by
  obtain ⟨hne, hready⟩ := hx
  have hv : (fetchAll (execCores core s) s).vrc = s.vrc := by rw [fetchAll_rest]
  have hks : execCores core (fetchAll (execCores core s) s) = execCores core s := execCores_congr _ _ _ hv
  have hfirst : ∀ k ∈ execCores core s, fetchFirst act (fetchAll (execCores core s) s) k = .access x e p :=
    fun k hk => (fetchFirst_fetchAll ⟨hne, hready⟩ act hk).trans (ha k hk)
  have htag : ∀ k ∈ execCores core s, x.beat ((fetchAll (execCores core s) s).cores[k]).tag.toNat e = b := by
    intro k hk
    rw [fetchAll_at hk, (fetched_tag_cbuf _ _).1]
    exact hb k hk
  have hneeds : runNeeds core (fetchFirst act) (fetchAll (execCores core s) s) =
      some (fetchAll (execCores core s) s) := by
    obtain ⟨j, ks, hc⟩ := List.exists_cons_of_ne_nil hne
    unfold runNeeds
    rw [hks]
    have hj := hfirst j (by simp [hc])
    rw [hc] at hj ⊢
    simp only [hj]
  have hall : (execCores core s).all (fun i => (s.cores[i]).ready) = true :=
    List.all_eq_true.2 fun k hk => (hready k hk).1
  have hprecise : (execCores core s).any (fun i => (s.cores[i]).imprecise.isSome) = false :=
    List.any_eq_false.2 fun k hk => by rw [(hready k hk).2.1]; decide
  have hrun : runInstr core act s = mirrorShadow (mapCores (execCores core s) Core.stepped
      (mapCores (execCores core s) (fun c => c.answer p x.addr r) u)) := by
    unfold runInstr
    simp only [hall, hprecise, hne, hneeds, or_self, Bool.true_eq_false, Bool.false_eq_true, if_false]
    rw [runActs_access hne hu hv hfirst htag hon hr hk]
  have hmapped : CoresOnly u (mapCores (execCores core s) Core.stepped
      (mapCores (execCores core s) (fun c => c.answer p x.addr r) u)) :=
    CoresOnly.trans (mapCores_rest _ _ _) (mapCores_rest _ _ _)
  rw [hrun]
  refine ⟨hmapped.trans (mirrorShadow_rest _), fun k hkm => ?_⟩
  rw [mirrorShadow_get core _ k (by rw [execCores_congr core u _ hmapped.vrc, hk]; exact hkm),
    mapCores_get _ (execCores_nodup core s), if_pos hkm, mapCores_get _ (execCores_nodup core s), if_pos hkm]

end Sys2Proof.Machine
end

section
/-! PROOFS. The executive's word store to an address of the voted blocks (R119, R124, R125). -/

namespace Sys2Proof.Machine

open Sys2Proof

/-! ### A word written by the lane executive -/

/-- The access of a word store. -/
def wordStore (a : Nat) (v : Reg32) : Access := { ty := .write, addr := a, size := 4, value := v.toNat }

/-- Its beat, with the tag of the core. -/
def wordBeat (a : Nat) (v : Reg32) (tag : BitVec 6) : Beat := (wordStore a v).beat tag.toNat true

theorem wordBeat_attr (a : Nat) (v : Reg32) (tag : BitVec 6) :
    (wordBeat a v tag).attr.getLsbD 23 = true ∧ (wordBeat a v tag).attr.getLsbD 9 = false ∧
      (wordBeat a v tag).attr.getLsbD 8 = true ∧ ((wordBeat a v tag).attr.extractLsb' 0 4).toNat = 2 ∧
      ((wordBeat a v tag).attr.extractLsb' 16 4).toNat = 2 := by
  have h : ∀ n : Fin 64, let w := attrWord 2 n.val false true 0 1 2
      w.getLsbD 23 = true ∧ w.getLsbD 9 = false ∧ w.getLsbD 8 = true ∧ (w.extractLsb' 0 4).toNat = 2 ∧
        (w.extractLsb' 16 4).toNat = 2 := by decide
  exact h ⟨tag.toNat, tag.isLt⟩

theorem wordBeat_addr {a : Nat} (v : Reg32) (tag : BitVec 6) (ha : a < 2 ^ 40) : (wordBeat a v tag).addr.toNat = a := by
  simpa [wordBeat, Access.beat, wordStore] using ha

theorem beatSize_wordBeat (a : Nat) (v : Reg32) (tag : BitVec 6) : beatSize (wordBeat a v tag) = 4 := by
  obtain ⟨-, -, -, -, h⟩ := wordBeat_attr a v tag
  rw [beatSize, h]
  rfl

theorem wordBeat_data {a : Nat} (v : Reg32) (tag : BitVec 6) :
    (wordBeat a v tag).data = BitVec.ofNat 128 (v.toNat * 2 ^ (8 * (a % 16))) := by
  have hv : v.toNat % 2 ^ (8 * 4) = v.toNat := Nat.mod_eq_of_lt v.isLt
  simp only [wordBeat, Access.beat, wordStore, blockOf, decide_true, if_true, hv]

/-- The word on the lanes of its beat is the word written. -/
theorem wordBeat_word {a : Nat} (v : Reg32) (tag : BitVec 6) (ha : a % 4 = 0) :
    BitVec.ofNat 32 ((wordBeat a v tag).data.toNat / 2 ^ (8 * (a % 16))) = v := by
  have hv : v.toNat * 2 ^ (8 * (a % 16)) < 2 ^ 128 := by
    calc v.toNat * 2 ^ (8 * (a % 16)) < 2 ^ 32 * 2 ^ (8 * (a % 16)) := Nat.mul_lt_mul_of_pos_right v.isLt (by positivity)
      _ = 2 ^ (32 + 8 * (a % 16)) := (pow_add 2 _ _).symm
      _ ≤ 2 ^ 128 := Nat.pow_le_pow_right (by omega) (by omega)
  rw [wordBeat_data, BitVec.toNat_ofNat, Nat.mod_eq_of_lt hv, Nat.mul_div_cancel _ (by positivity)]
  simp

theorem regionOf_voted {a : Nat} (wide : Bool) (h : 0x200000000 ≤ a ∧ a < 0x2000A0000) : regionOf wide a = .voted := by
  obtain ⟨hlo, hhi⟩ := h
  simp only [regionOf, show ¬ a < 0x100000000 by omega, show ¬ a < 0x100200000 by omega,
    show ¬ a < 0x101000000 by omega, show ¬ a < 0x101004000 by omega, show ¬ a < 0x101008000 by omega,
    show ¬ a < 0x10100C000 by omega, show ¬ a < 0x101010000 by omega, show ¬ a < 0x200000000 by omega, hhi,
    if_false, if_true]

/-- With no store in the combining buffer, the executive's word store to a voted address is one beat (R119, R124). -/
theorem storeAct_voted {s : State} {k : Fin 8} {a : Nat} (v : Reg32) (hc : (s.cores[k]).cbuf = none) (h4 : a % 4 = 0)
    (h : 0x200000000 ≤ a ∧ a < 0x2000A0000) :
    storeAct s k true (BitVec.ofNat 64 a) 4 v.toNat = .access (wordStore a v) true .store := by
  have ha : (BitVec.ofNat 64 a).toNat = a := by rw [BitVec.toNat_ofNat, Nat.mod_eq_of_lt (by omega)]
  have ht : dataTrap s.cores[k] true (BitVec.ofNat 64 a) 4 true = none := by
    simp [dataTrap, h4, show a % 18446744073709551616 = a by omega, show ¬ 1099511627776 ≤ a by omega]
  simp only [storeAct, ht, ha, regionOf_voted _ h, hc, Option.isSome_none, Bool.false_eq_true,
    if_false]
  rfl

/-- A state that differs in nothing but the cores and the bandwidth counts. -/
def CoresAndCountsOnly (s t : State) : Prop := t = { s with cores := t.cores, bw := t.bw }

/-- Between two states the same cores run, and their registers and program counters are the same. -/
def StreamKept (core : Fin 8) (s t : State) : Prop :=
  execCores core t = execCores core s ∧
    ∀ k ∈ execCores core s, (t.cores[k]).x = (s.cores[k]).x ∧ (t.cores[k]).pc = (s.cores[k]).pc

theorem StreamKept.trans {core : Fin 8} {s t u : State} (h : StreamKept core s t) (g : StreamKept core t u) :
    StreamKept core s u := by
  obtain ⟨hk, hr⟩ := h
  obtain ⟨gk, gr⟩ := g
  refine ⟨gk.trans hk, fun k hm => ?_⟩
  obtain ⟨hx, hp⟩ := hr k hm
  obtain ⟨gx, gp⟩ := gr k (by rw [hk]; exact hm)
  exact ⟨gx.trans hx, gp.trans hp⟩

theorem execCores_of_lanes {s t : State} (core : Fin 8) (hm : t.vrc.mode = s.vrc.mode) (hl : t.vrc.lanes = s.vrc.lanes)
    (hs : t.vrc.svc = s.vrc.svc) : execCores core t = execCores core s := by
  unfold execCores activeLanes lanesIn laneState
  rw [hm, hl, hs]

theorem busPart_stream {s t : State} (h : Part.same s t .cores) (k : Fin 8) :
    (t.cores[k]).x = (s.cores[k]).x ∧ (t.cores[k]).pc = (s.cores[k]).pc := by
  have hk : (t.cores[k]).busPart = (s.cores[k]).busPart := by
    simpa using congrArg (fun v : Vector Core 8 => v[k]) h
  exact ⟨(congrArg Core.x hk :), (congrArg Core.pc hk :)⟩

/-- What changes neither the lanes nor more of the cores than an interrupt does keeps the stream. -/
theorem SameBut.streamKept {P : List Part} {s t : State} (h : SameBut P s t) (hv : Part.vrc ∉ P) (hc : Part.cores ∉ P)
    (core : Fin 8) : StreamKept core s t := by
  have hvrc : { t.vrc with heldInts := [] } = { s.vrc with heldInts := [] } := h.2 .vrc hv
  exact ⟨execCores_of_lanes core (congrArg Vrc.mode hvrc :) (congrArg Vrc.lanes hvrc :) (congrArg Vrc.svc hvrc :),
    fun k _ => busPart_stream (h.2 .cores hc) k⟩

theorem issued_stream (c : Core) (x : Access) : (c.issued x).x = c.x ∧ (c.issued x).pc = c.pc := by
  unfold Core.issued
  dsimp only
  split
  · exact ⟨rfl, rfl⟩
  · split
    · simp
    · split <;> simp

theorem bwBeat_bw (m : Option (Fin 8)) (b : Beat) (s : State) : bwBeat m b s = { s with bw := (bwBeat m b s).bw } := by
  unfold bwBeat bwTarget bwCount
  dsimp only
  split <;> split <;> rfl

theorem sent_streamKept (core : Fin 8) (x : Access) (s : State) : StreamKept core s (sent core x s) := by
  refine ⟨execCores_congr core s _ (sent_coresOnly core x s).vrc, fun k hk => ?_⟩
  rw [sent_get x hk]
  obtain ⟨hx, hp⟩ := issued_stream ((s.cores[k]).fetched s.mems[k]) x
  exact ⟨hx.trans (fetched_x _ _), hp.trans (fetched_pc _ _)⟩

theorem answer_store_done (c : Core) (a v : Nat) :
    (c.answer .store a (.done v)).x = c.x ∧ (c.answer .store a (.done v)).pc = c.pc + 4 := by
  simp [Core.answer, Core.answered]

theorem fabric_wordBeat {a : Nat} (m : Option (Fin 8)) (v : Reg32) (tag : BitVec 6) (s : State)
    (h : 0x200000000 ≤ a ∧ a < 0x2000A0000) :
    fabric m (wordBeat a v tag) s = voteAccess m (wordBeat a v tag) (bwBeat m (wordBeat a v tag) s) := by
  obtain ⟨-, -, -, hty, -⟩ := wordBeat_attr a v tag
  have ha : (wordBeat a v tag).addr.toNat = a := wordBeat_addr v tag (by omega)
  simp [fabric, hty, ha, regionOf_voted _ h]

/-- The executive's word store to a voted address, run by cores in unison: the beat is counted, the access takes its
effect `F`, and the cores go on. -/
theorem writeReg_goesOn {core : Fin 8} {s : State} {a : Nat} {v : Reg32} {F : State → State} (hx : Executes core s)
    (hu : Unison core s) (hc : Uncombined core s) (h4 : a % 4 = 0) (hvoted : 0x200000000 ≤ a ∧ a < 0x2000A0000)
    (hF : ∀ tag s1, CoresAndCountsOnly s s1 → voteAccess (masterOf core s) (wordBeat a v tag) s1 = (.done 0, F s1))
    (hK : ∀ s1, CoresAndCountsOnly s s1 → StreamKept core s1 (F s1)) :
    ∃ s1, CoresAndCountsOnly s s1 ∧ CoresOnly (F s1) (writeReg core a v s) ∧ GoesOn core s (writeReg core a v s) := by
  obtain ⟨j, ks, hj⟩ := List.exists_cons_of_ne_nil hx.1
  have hjm : j ∈ execCores core s := by simp [hj]
  have hfabric := fabric_wordBeat (masterOf core s) v (s.cores[j]).tag (sent core (wordStore a v) s) hvoted
  have hbw := bwBeat_bw (masterOf core s) (wordBeat a v (s.cores[j]).tag) (sent core (wordStore a v) s)
  have hkept : StreamKept core s (bwBeat (masterOf core s) (wordBeat a v (s.cores[j]).tag)
      (sent core (wordStore a v) s)) := by
    rw [hbw]
    exact sent_streamKept core (wordStore a v) s
  generalize bwBeat (masterOf core s) (wordBeat a v (s.cores[j]).tag) (sent core (wordStore a v) s) = s1
    at hfabric hbw hkept
  have hs : CoresAndCountsOnly s s1 := by
    unfold CoresAndCountsOnly
    rw [hbw, sent_coresOnly core (wordStore a v) s]
  obtain ⟨hcores, hstream⟩ := hkept.trans (hK s1 hs)
  rw [hF _ s1 hs] at hfabric
  have hact : ∀ k ∈ execCores core s, storeAct (fetchAll (execCores core s) s) k true (BitVec.ofNat 64 a) 4 v.toNat =
      .access (wordStore a v) true .store := by
    intro k hk
    refine storeAct_voted v ?_ h4 hvoted
    rw [fetchAll_at hk, (fetched_tag_cbuf _ _).2]
    exact hc k hk
  obtain ⟨honly, hget⟩ := runInstr_access (act := fun t k => storeAct t k true (BitVec.ofNat 64 a) 4 v.toNat) hx hu hact
    (fun k hk => by rw [hu.2 k hk j hjm]; rfl) (wordBeat_attr a v _).1 hfabric hcores
  refine ⟨s1, hs, honly, fun k hk => ?_⟩
  obtain ⟨hxF, hpF⟩ := hstream k hk
  obtain ⟨hxa, hpa⟩ := answer_store_done (F s1).cores[k] a 0
  rw [writeReg, hget k hk]
  exact ⟨hxa.trans hxF, hpa.trans (congrArg (· + 4) hpF)⟩

end Sys2Proof.Machine
end

section
/-! PROOFS. What a word store does to the registers of the voted blocks (R9, R243, R259, R346, R366, R378). -/

namespace Sys2Proof.Machine

open Sys2Proof

/-! ### Registers of the voted blocks -/

theorem CoresOnly.parts {s t : State} (h : CoresOnly s t) :
    t.ints = s.ints ∧ t.chans = s.chans ∧ t.brg = s.brg ∧ t.vmem = s.vmem := by
  rw [h]
  exact ⟨rfl, rfl, rfl, rfl⟩

theorem CoresAndCountsOnly.parts {s t : State} (h : CoresAndCountsOnly s t) :
    t.ints = s.ints ∧ t.mod = s.mod ∧ t.brg = s.brg ∧ t.vmem = s.vmem := by
  rw [h]
  exact ⟨rfl, rfl, rfl, rfl⟩

theorem CoresAndCountsOnly.voteOff {s t : State} (h : CoresAndCountsOnly s t) (a : Nat) : voteOff t a = voteOff s a := by
  rw [h]
  rfl

/-- A word store of the executive to a register that is neither off nor in a buffer or a read-only window. -/
theorem voteAccess_register {s : State} {a : Nat} (m : Option (Fin 8)) (v : Reg32) (tag : BitVec 6) (h4 : a % 4 = 0)
    (hreg : a < 0x200050000 ∨ (0x200070000 ≤ a ∧ a < 0x2000A0000)) (hoff : voteOff s a = none) :
    voteAccess m (wordBeat a v tag) s = (.done 0, voteWrite m a v s) := by
  obtain ⟨-, hexcl, hexec, hty, -⟩ := wordBeat_attr a v tag
  have ha : (wordBeat a v tag).addr.toNat = a := wordBeat_addr v tag (by omega)
  have hbuf : votedBuffer a = false := by
    have h : ¬ (0x200052000 ≤ a ∧ a < 0x200056000) ∧ ¬ (0x200059000 ≤ a ∧ a < 0x200060000) ∧
        ¬ (0x200064000 ≤ a ∧ a < 0x200070000) := by omega
    simp [votedBuffer, lncRx, h]
  have hro (w : Bool) : readOnlyWindow w a = false := by
    have h : ¬ (0x200050000 ≤ a ∧ a < 0x200060000) := by omega
    simp [readOnlyWindow, h]
  have hlnc : ¬ (lncTx ≤ a ∧ a < 0x200070000) := by unfold lncTx; omega
  have hxn : ¬ (xnTx ≤ a ∧ a < 0x200060000) := by unfold xnTx; omega
  simp only [voteAccess, ha, hoff, hexcl, hexec, hty, hbuf, hro, beatSize_wordBeat, hlnc, hxn, wordBeat_word v tag h4]
  simp

/-- A register write by cores in unison takes its effect `F` at its block, and the cores go on. -/
theorem writeReg_register {core : Fin 8} {s : State} {a : Nat} {v : Reg32} {F : State → State} (hx : Executes core s)
    (hu : Unison core s) (hc : Uncombined core s) (h4 : a % 4 = 0) (hlo : 0x200000000 ≤ a)
    (hreg : a < 0x200050000 ∨ (0x200070000 ≤ a ∧ a < 0x2000A0000)) (hoff : voteOff s a = none)
    (hF : ∀ s1, CoresAndCountsOnly s s1 → voteWrite (masterOf core s) a v s1 = F s1)
    (hK : ∀ s1, StreamKept core s1 (F s1)) :
    ∃ s1, CoresAndCountsOnly s s1 ∧ CoresOnly (F s1) (writeReg core a v s) ∧ GoesOn core s (writeReg core a v s) :=
  writeReg_goesOn hx hu hc h4 (by omega) (fun tag s1 hs => by
    rw [voteAccess_register _ v tag h4 hreg ((hs.voteOff a).trans hoff), hF s1 hs]) (fun s1 _ => hK s1)

/-! #### INTSTAT and INTEN (R9) -/

theorem intEnable_streamKept (core : Fin 8) (k : Fin 11) (v : Reg32) (s : State) :
    StreamKept core s (intEnable k v s) :=
  (intEnable_frame (P := [.ints]) k v s (by decide) (SameBut.refl _ s)).streamKept (by decide) (by decide) core

theorem intClear_streamKept (core : Fin 8) (k : Fin 11) (v : Reg32) (s : State) : StreamKept core s (intClear k v s) :=
  (intClear_frame (P := [.ints]) k v s (by decide) (SameBut.refl _ s)).streamKept (by decide) (by decide) core

theorem voteOff_ctu {s : State} (hp : s.pwr.on.getLsbD 5 = true) {a : Nat} (h : 0x200010000 ≤ a ∧ a < 0x200020000) :
    voteOff s a = none := by
  have hb : (a - 0x200000000) / 65536 = 1 := by omega
  simp [voteOff, hp, hb]

section
variable {core : Fin 8} {s : State} (v : BitVec 32) (hx : Executes core s) (hu : Unison core s)
  (hc : Uncombined core s) (hp : s.pwr.on.getLsbD 5 = true)
include hx hu hc hp

theorem registerWrite_inten : ∃ t, exec (.registerWrite core 0x200010044 v) s = .next t ∧ GoesOn core s t ∧
    (t.ints[2]).en = v &&& BitVec.ofNat 32 intMask[2] ∧ (t.ints[2]).stat = (s.ints[2]).stat := by
  obtain ⟨s1, hs, honly, hgo⟩ := writeReg_register (a := 0x200010044) (F := intEnable 2 v) hx hu hc (by decide)
    (by decide) (by decide) (voteOff_ctu hp (by decide)) (fun _ _ => rfl) (intEnable_streamKept core 2 v)
  obtain ⟨hi, -⟩ := honly.parts
  obtain ⟨hsi, -⟩ := hs.parts
  refine ⟨writeReg core 0x200010044 v s, rfl, hgo, ?_⟩
  simp [hi, intEnable, vmod, hsi]

theorem registerWrite_intstat : ∃ t, exec (.registerWrite core 0x200010040 v) s = .next t ∧ GoesOn core s t ∧
    (t.ints[2]).stat = (s.ints[2]).stat &&& ~~~v ∧ (t.ints[2]).en = (s.ints[2]).en := by
  obtain ⟨s1, hs, honly, hgo⟩ := writeReg_register (a := 0x200010040) (F := intClear 2 v) hx hu hc (by decide)
    (by decide) (by decide) (voteOff_ctu hp (by decide)) (fun _ _ => rfl) (intClear_streamKept core 2 v)
  obtain ⟨hi, -⟩ := honly.parts
  obtain ⟨hsi, -⟩ := hs.parts
  refine ⟨writeReg core 0x200010040 v s, rfl, hgo, ?_⟩
  simp [hi, intClear, vmod, hsi]

end

/-! #### FBX_OUT and FBX_FLTCLR (R243, R259) -/

/-- Two states hold the same of what the outputs depend on: the channels, their owners, the voting mode and the
present count. -/
def SameOutputs (s t : State) : Prop :=
  t.chans = s.chans ∧ t.tim.frc = s.tim.frc ∧ t.vrc.mode = s.vrc.mode ∧ t.vrc.owners = s.vrc.owners

theorem SameOutputs.ite {s t s' t' : State} {p : Prop} [Decidable p] (h : SameOutputs s t) (g : SameOutputs s' t') :
    SameOutputs (if p then s else s') (if p then t else t') := by
  split
  · exact h
  · exact g

theorem SameOutputs.foldl {α : Type} {f : State → α → State} (hf : ∀ s t a, SameOutputs s t → SameOutputs (f s a) (f t a))
    (l : List α) {s t : State} (h : SameOutputs s t) : SameOutputs (l.foldl f s) (l.foldl f t) := by
  induction l generalizing s t with
  | nil => exact h
  | cons a l ih => exact ih (hf s t a h)

theorem SameOutputs.record {s t : State} (h : SameOutputs s t) (src code p0 p1 p2 : Nat) :
    SameOutputs (record src code p0 p1 p2 s) (record src code p0 p1 p2 t) := by
  simpa [SameOutputs] using h

theorem SameOutputs.raise {s t : State} (h : SameOutputs s t) (n : Nat) : SameOutputs (raise n s) (raise n t) := by
  simpa [SameOutputs] using h

theorem SameOutputs.setChan {s t : State} (h : SameOutputs s t) (ch : Fin 48) (f : Channel → Channel) :
    SameOutputs (setChan ch f s) (setChan ch f t) := by
  obtain ⟨hc, hr⟩ := h
  exact ⟨congrArg (fun v => vmod v ch f) hc, hr⟩

theorem SameOutputs.latches {s t : State} (h : SameOutputs s t) (v : Bool) : latches t v = latches s v := by
  obtain ⟨-, -, hm, -⟩ := h
  rw [Machine.latches, Machine.latches, hm]

theorem SameOutputs.setCmd {s t : State} (h : SameOutputs s t) (ch : Fin 48) (v : Bool) :
    SameOutputs (setCmd ch v s) (setCmd ch v t) := by
  have hl := h.latches v
  have hm : t.vrc.mode = s.vrc.mode := h.2.2.1
  unfold Machine.setCmd
  rw [hl, hm]
  exact h.setChan ch _

theorem SameOutputs.flushQueue {s t : State} (h : SameOutputs s t) (ch : Fin 48) (cause : Nat) :
    SameOutputs (flushQueue ch cause s) (flushQueue ch cause t) := by
  unfold Machine.flushQueue
  rw [h.1]
  exact h.ite (((h.setChan ch _).record _ _ _ _ _).raise _)

theorem SameOutputs.applySafe {s t : State} (h : SameOutputs s t) (ch : Fin 48) (reason : Nat) (next : ChanState) :
    SameOutputs (applySafe ch reason next s) (applySafe ch reason next t) := by
  unfold Machine.applySafe
  simp only [h.1, h.latches]
  exact ((h.ite (h.setCmd ch _)).flushQueue ch reason).setChan ch _

theorem SameOutputs.faultClear {s t : State} (h : SameOutputs s t) (ch : Fin 48) :
    SameOutputs (faultClear ch s) (faultClear ch t) := by
  unfold Machine.faultClear
  rw [h.1]
  dsimp only
  split
  · exact (h.setChan ch _).ite h
  · exact (h.applySafe ch 1 .safe).setChan ch _
  · exact h

theorem SameOutputs.refresh {s t : State} (h : SameOutputs s t) (ch : Fin 48) (v : Bool) :
    SameOutputs (refresh ch v s) (refresh ch v t) := by
  have hf : t.tim.frc = s.tim.frc := h.2.1
  unfold Machine.refresh
  simp only [h.1, hf]
  have h2 := ((h.record (bankSrc ch) 0x3007 ch.val 0 0).ite (p := (s.chans[ch]).timedOut = true) h).setChan ch
    (fun x => { x with state := .driven, watched := true, refreshAt := s.tim.frc, timedOut := false })
  exact ((h2.setCmd ch v).ite h2).ite h

theorem SameOutputs.fltclrWrite {s t : State} (h : SameOutputs s t) (b : Fin 3) (bits : BitVec 16) :
    SameOutputs (fltclrWrite b bits s) (fltclrWrite b bits t) := by
  unfold Machine.fltclrWrite
  refine SameOutputs.foldl (fun _ _ i h => ?_) _ h
  exact (h.faultClear (chanOf b i)).ite h

theorem SameOutputs.outWrite {s t : State} (h : SameOutputs s t) (b : Fin 3) (m : Option (Fin 8)) (bits : BitVec 16) :
    SameOutputs (outWrite b m bits s) (outWrite b m bits t) := by
  unfold Machine.outWrite
  cases m with
  | none =>
    refine SameOutputs.foldl (fun _ _ i h => ?_) _ h
    exact h.refresh (chanOf b i) _
  | some k =>
    obtain ⟨hc, -, -, ho⟩ := id h
    have hbad : foreignBits t b k bits = foreignBits s b k bits := by simp only [foreignBits, hc, ho]
    dsimp only
    rw [hbad, ho]
    have hown : SameOutputs ((allFin 16).foldl (fun t i => if s.vrc.owners[chanOf b i] = k.val
          then Machine.refresh (chanOf b i) (bits.getLsbD i.val) t else t) s)
        ((allFin 16).foldl (fun t i => if s.vrc.owners[chanOf b i] = k.val
          then Machine.refresh (chanOf b i) (bits.getLsbD i.val) t else t) t) := by
      refine SameOutputs.foldl (fun _ _ i h => ?_) _ h
      exact (h.refresh (chanOf b i) _).ite h
    refine hown.ite (.raise (.record ?_ _ _ _ _ _) _)
    exact hown

theorem CoresAndCountsOnly.sameOutputs {s t : State} (h : CoresAndCountsOnly s t) : SameOutputs s t := by
  rw [h]
  exact ⟨rfl, rfl, rfl, rfl⟩

theorem refresh_all_streamKept (core : Fin 8) (b : Fin 3) (p : Fin 16 → Prop) [DecidablePred p] (bits : BitVec 16)
    (s : State) :
    StreamKept core s ((allFin 16).foldl (fun t i => if p i then refresh (chanOf b i) (bits.getLsbD i.val) t else t) s) :=
  (fr_foldl (P := [.chans, .recd, .noted]) (SameBut.refl _ s) fun _ _ h =>
    fr_ite (refresh_frame _ _ _ (by decide) (by decide) (by decide) h) h).streamKept (by decide) (by decide) core

theorem outWrite_streamKept (core : Fin 8) (b : Fin 3) (m : Option (Fin 8)) (bits : BitVec 16) (s : State) :
    StreamKept core s (outWrite b m bits s) := by
  unfold outWrite
  cases m with
  | none => simpa using refresh_all_streamKept core b (fun _ => True) bits s
  | some k =>
    have hown := refresh_all_streamKept core b (fun i => s.vrc.owners[chanOf b i] = k.val) bits s
    dsimp only
    split
    · exact hown
    · refine hown.trans (.trans ⟨?_, fun _ _ => ⟨rfl, rfl⟩⟩ (SameBut.streamKept (P := [.recd, .ints, .held, .noted, .lic])
        (raise_frame _ _ (by decide) (by decide) (by decide)
          (record_frame _ _ _ _ _ _ (by decide) (by decide) (SameBut.refl _ _))) (by decide) (by decide) core))
      exact execCores_of_lanes core rfl rfl rfl

theorem fltclrWrite_streamKept (core : Fin 8) (b : Fin 3) (bits : BitVec 16) (s : State) :
    StreamKept core s (fltclrWrite b bits s) :=
  (fltclrWrite_frame (P := [.chans, .recd, .ints, .held, .noted, .lic]) b bits s (by decide) (by decide) (by decide)
    (by decide) (by decide) (by decide) (SameBut.refl _ s)).streamKept (by decide) (by decide) core

theorem voteOff_bank {s : State} (hp : s.pwr.on.getLsbD 5 = true) (b : Fin 3)
    (hb : s.clk.clken0.getLsbD (2 + b.val) = true) {a : Nat}
    (h : 0x200020000 + 0x10000 * b.val ≤ a ∧ a < 0x200030000 + 0x10000 * b.val) : voteOff s a = none := by
  have hblk : (a - 0x200000000) / 65536 = 2 + b.val := by omega
  fin_cases b <;> simp_all [voteOff]

theorem banksFitted_congr {s t : State} (h : CoresAndCountsOnly s t) : banksFitted t = banksFitted s := by
  rw [h]
  rfl

section
variable {core : Fin 8} {s : State} (v : BitVec 32) (hx : Executes core s) (hu : Unison core s)
  (hc : Uncombined core s) (hp : s.pwr.on.getLsbD 5 = true)
include hx hu hc hp

theorem fbxOutWrite_refreshes (b : Fin 3) (hfit : banksFitted s = true) (hon : s.clk.clken0.getLsbD (2 + b.val) = true) :
    ∃ t, exec (.fbxOutWrite core b v) s = .next t ∧ GoesOn core s t ∧
      t.chans = (outWrite b (masterOf core s) (v.setWidth 16) s).chans := by
  obtain ⟨s1, hs, honly, hgo⟩ := writeReg_register (a := 0x200020020 + 0x10000 * b.val) (v := v)
    (F := outWrite b (masterOf core s) (v.setWidth 16)) hx hu hc (by omega) (by omega) (by omega)
    (voteOff_bank hp b hon (by omega))
    (fun s1 hs => by
      have hfit1 := (banksFitted_congr hs).trans hfit
      fin_cases b <;> simp [voteWrite, fbWrite, hfit1])
    (outWrite_streamKept core b _ _)
  obtain ⟨-, hchans, -⟩ := honly.parts
  obtain ⟨houts, -⟩ := hs.sameOutputs.outWrite b (masterOf core s) (v.setWidth 16)
  exact ⟨_, rfl, hgo, hchans.trans houts⟩

theorem fbxFltclrWrite_releases (b : Fin 3) (hfit : banksFitted s = true)
    (hon : s.clk.clken0.getLsbD (2 + b.val) = true) :
    ∃ t, exec (.fbxFltclrWrite core b v) s = .next t ∧ GoesOn core s t ∧
      t.chans = (fltclrWrite b (v.setWidth 16) s).chans := by
  obtain ⟨s1, hs, honly, hgo⟩ := writeReg_register (a := 0x20002003C + 0x10000 * b.val) (v := v)
    (F := fltclrWrite b (v.setWidth 16)) hx hu hc (by omega) (by omega) (by omega)
    (voteOff_bank hp b hon (by omega))
    (fun s1 hs => by
      have hfit1 := (banksFitted_congr hs).trans hfit
      fin_cases b <;> simp [voteWrite, fbWrite, hfit1])
    (fltclrWrite_streamKept core b _)
  obtain ⟨-, hchans, -⟩ := honly.parts
  obtain ⟨houts, -⟩ := hs.sameOutputs.fltclrWrite b (v.setWidth 16)
  exact ⟨_, rfl, hgo, hchans.trans houts⟩

end

/-! #### The bridge's registers (R366, R378) -/

theorem voteOff_bridge {s : State} (hp : s.pwr.on.getLsbD 5 = true) (hb : s.pwr.on.getLsbD 11 = true)
    (hg : s.clk.clken0.getLsbD 1 = true) {a : Nat} (h : 0x200090000 ≤ a ∧ a < 0x2000A0000) : voteOff s a = none := by
  have hblk : (a - 0x200000000) / 65536 = 9 := by omega
  simp_all [voteOff]

theorem voteWrite_bridge (m : Option (Fin 8)) (o : Nat) (v : Reg32) (s : State) (ho : o < 0x10000) :
    voteWrite m (0x200090000 + o) v s = brgWrite o v s := by
  have hblk : (0x200090000 + o - 0x200000000) / 65536 = 9 := by omega
  have hoff : (0x200090000 + o) % 65536 = o := by omega
  simp [voteWrite, hblk, hoff]

/-- The offset of a word in a region's registers. -/
def wordOffset : RegionWord → Nat
  | .base => 0
  | .lim => 4
  | .attr => 8

theorem regionWord_offset (r : Fin 16) (w : RegionWord) : regionWord (0x100 + 16 * r.val + wordOffset w) = some w := by
  have h : (0x100 + 16 * r.val + wordOffset w) % 16 = wordOffset w := by cases w <;> simp only [wordOffset] <;> omega
  unfold regionWord
  rw [h]
  cases w <;> rfl

theorem brgWrite_region (r : Fin 16) (w : RegionWord) (v : Reg32) (s : State) (h : 10 ≤ r.val) :
    brgWrite (0x100 + 16 * r.val + wordOffset w) v s = brgRegionSet r w v s := by
  have hw : wordOffset w ≤ 8 := by cases w <;> decide
  have hr : (0x100 + 16 * r.val + wordOffset w - 0x100) / 16 = r.val := by omega
  unfold brgWrite
  rw [if_neg (by omega), if_neg (by omega), dif_pos (by omega), regionWord_offset]
  simp only [hr]

theorem brgWrite_fixed_region (r : Fin 16) (w : RegionWord) (v : Reg32) (s : State) (h : r.val < 10) :
    brgWrite (0x100 + 16 * r.val + wordOffset w) v s = s := by
  have hw : wordOffset w ≤ 8 := by cases w <;> decide
  unfold brgWrite
  rw [if_neg (by omega), if_neg (by omega), dif_neg (by omega)]

theorem dropLine_regions (l : BrgLine) (s : State) : (dropLine l s).brg.regions = s.brg.regions := by
  unfold dropLine
  dsimp only
  split
  · rfl
  · split <;> simp [setBrg]

theorem dropLines_regions (p : BrgLine → Bool) (s : State) : (dropLines p s).brg.regions = s.brg.regions := by
  unfold dropLines
  generalize s.brg.lines.filter p = ls
  induction ls generalizing s with
  | nil => rfl
  | cons l ls ih => rw [List.foldl_cons, ih, dropLine_regions]

/-- A region with one of its words written (R366). -/
def BrgRegion.written (r : BrgRegion) (w : RegionWord) (v : Reg32) : BrgRegion :=
  match w with
  | .base => { r with base := v &&& 0xFFFFF000 }
  | .lim => { r with lim := v &&& 0xFFFFF000 }
  | .attr => { r with attr := v.setWidth 4 }

theorem brgRegionSet_region (r : Fin 16) (w : RegionWord) (v : Reg32) (s : State) :
    (brgRegionSet r w v s).brg.regions[r] = (s.brg.regions[r]).written w v := by
  unfold brgRegionSet
  simp only [dropLines_regions]
  cases w <;> simp [setBrg, BrgRegion.written]

theorem brgRegionSet_streamKept (core : Fin 8) (r : Fin 16) (w : RegionWord) (v : Reg32) (s : State) :
    StreamKept core s (brgRegionSet r w v s) :=
  (brgRegionSet_frame (P := [.brg, .recd, .ints, .held, .noted, .lic]) r w v s (by decide) (by decide) (by decide)
    (by decide) (by decide) (by decide) (SameBut.refl _ s)).streamKept (by decide) (by decide) core

theorem brgIntClear_streamKept (core : Fin 8) (v : Reg32) (s : State) : StreamKept core s (brgIntClear v s) :=
  (brgIntClear_frame (P := [.drawn, .ints]) v s (by decide) (by decide) (SameBut.refl _ s)).streamKept (by decide)
    (by decide) core

/-- Bits 4-7 of BRG_INTSTAT are the forwarded ones; every other bit written as 1 clears (R378). -/
theorem brgIntClear_own_bit (v : Reg32) (s : State) (n : Nat) (h : n < 4 ∨ 8 ≤ n) :
    ((brgIntClear v s).ints[9]).stat.getLsbD n = ((s.ints[9]).stat.getLsbD n && !v.getLsbD n) := by
  have hout (w : BitVec 32) : ((w &&& 0xF) <<< 4).getLsbD n = false := by
    rw [BitVec.getLsbD_shiftLeft]
    rcases h with h | h
    · simp [h]
    · have hlt : 15 < 2 ^ (n - 4) :=
        calc 15 < 2 ^ 4 := by decide
          _ ≤ 2 ^ (n - 4) := Nat.pow_le_pow_right (by decide) (by omega)
      have h15 : (0xF : BitVec 32).getLsbD (n - 4) = false := by
        show (BitVec.ofNat 32 15).getLsbD (n - 4) = false
        rw [BitVec.getLsbD_ofNat, Nat.testBit_lt_two_pow hlt, Bool.and_false]
      rw [BitVec.getLsbD_and, h15, Bool.and_false, Bool.and_false]
  have hstat : ((brgIntClear v s).ints[9]).stat = (s.ints[9]).stat &&& ~~~(v &&& ~~~((((drawWord s).1 &&& 0xE |||
      if klmOut s then 1 else 0).setWidth 32 &&& 0xF) <<< 4)) := by
    simp [brgIntClear, intClear, vmod, drawWord, klmOut]
  rw [hstat, BitVec.getLsbD_and, BitVec.getLsbD_not, BitVec.getLsbD_and, BitVec.getLsbD_not, hout]
  by_cases hn : n < 32
  · simp [hn]
  · simp [BitVec.getLsbD_of_ge _ n (Nat.le_of_not_lt hn)]

theorem exec_brgRegionWrite (core : Fin 8) (v : Reg32) (s : State) (r : Fin 16) (w : RegionWord) :
    exec (.brgRegionWrite core r w v) s = .next (writeReg core (0x200090000 + (0x100 + 16 * r.val + wordOffset w)) v s) := by
  have ha : 0x200090100 + 16 * r.val + wordOffset w = 0x200090000 + (0x100 + 16 * r.val + wordOffset w) := by omega
  rw [← ha]
  cases w <;> rfl

section
variable {core : Fin 8} {s : State} (v : BitVec 32) (hx : Executes core s) (hu : Unison core s)
  (hc : Uncombined core s) (hp : s.pwr.on.getLsbD 5 = true) (hb : s.pwr.on.getLsbD 11 = true)
  (hg : s.clk.clken0.getLsbD 1 = true)
include hx hu hc hp hb hg

theorem brgRegionWrite_sets (r : Fin 16) (w : RegionWord) (hr : 10 ≤ r.val) :
    ∃ t, exec (.brgRegionWrite core r w v) s = .next t ∧ GoesOn core s t ∧
      t.brg.regions[r] = (s.brg.regions[r]).written w v := by
  have hw : wordOffset w ≤ 8 ∧ wordOffset w % 4 = 0 := by cases w <;> decide
  obtain ⟨s1, hs, honly, hgo⟩ := writeReg_register (a := 0x200090000 + (0x100 + 16 * r.val + wordOffset w)) (v := v)
    (F := brgRegionSet r w v) hx hu hc (by omega) (by omega) (by omega) (voteOff_bridge hp hb hg (by omega))
    (fun s1 _ => by rw [voteWrite_bridge _ _ _ _ (by omega), brgWrite_region r w v s1 hr])
    (brgRegionSet_streamKept core r w v)
  obtain ⟨-, -, hbrg, -⟩ := honly.parts
  obtain ⟨-, -, hbrg1, -⟩ := hs.parts
  refine ⟨_, exec_brgRegionWrite core v s r w, hgo, ?_⟩
  rw [hbrg, brgRegionSet_region, hbrg1]

theorem brgRegionWrite_fixed (r : Fin 16) (w : RegionWord) (hr : r.val < 10) :
    ∃ t, exec (.brgRegionWrite core r w v) s = .next t ∧ GoesOn core s t ∧ t.brg = s.brg := by
  have hw : wordOffset w ≤ 8 ∧ wordOffset w % 4 = 0 := by cases w <;> decide
  obtain ⟨s1, hs, honly, hgo⟩ := writeReg_register (a := 0x200090000 + (0x100 + 16 * r.val + wordOffset w)) (v := v)
    (F := id) hx hu hc (by omega) (by omega) (by omega) (voteOff_bridge hp hb hg (by omega))
    (fun s1 _ => by rw [voteWrite_bridge _ _ _ _ (by omega), brgWrite_fixed_region r w v s1 hr]; rfl)
    (fun s1 => ⟨rfl, fun _ _ => ⟨rfl, rfl⟩⟩)
  obtain ⟨-, -, hbrg, -⟩ := honly.parts
  obtain ⟨-, -, hbrg1, -⟩ := hs.parts
  exact ⟨_, exec_brgRegionWrite core v s r w, hgo, hbrg.trans hbrg1⟩

theorem brgIntstatClear_clears :
    ∃ t, exec (.brgIntstatClear core v) s = .next t ∧ GoesOn core s t ∧
      ∀ n : Nat, n < 4 ∨ 8 ≤ n → (t.ints[9]).stat.getLsbD n = ((s.ints[9]).stat.getLsbD n && !v.getLsbD n) := by
  obtain ⟨s1, hs, honly, hgo⟩ := writeReg_register (a := 0x200090000 + 0x40) (F := brgIntClear v) hx hu hc (by decide)
    (by decide) (by decide) (voteOff_bridge hp hb hg (by decide))
    (fun s1 _ => voteWrite_bridge _ 0x40 v s1 (by decide)) (brgIntClear_streamKept core v)
  obtain ⟨hi, -⟩ := honly.parts
  obtain ⟨hsi, -⟩ := hs.parts
  refine ⟨_, rfl, hgo, fun n hn => ?_⟩
  rw [hi, brgIntClear_own_bit v s1 n hn, hsi]

end

/-! #### SEQ of a transmit slot (R346) -/

theorem memRead_congr {m m' : List Host.Cell} (h : ∀ a, memGet m a = memGet m' a) (a n : Nat) :
    memRead m a n = memRead m' a n := by
  induction n generalizing a with
  | zero => rfl
  | succ n ih => rw [memRead, memRead, h, ih]

/-- An octet of a word on the lanes of a beat. -/
def wordByte (v : Reg32) (i : Nat) : Byte := (BitVec.ofNat 128 v.toNat).extractLsb' (8 * i) 8

theorem wordByte_eq (v : Reg32) (i : Nat) : wordByte v i = BitVec.ofNat 8 (v.toNat / 256 ^ i) := by
  refine BitVec.eq_of_toNat_eq ?_
  have hv : v.toNat % 2 ^ 128 = v.toNat := Nat.mod_eq_of_lt (by omega)
  simp only [wordByte, BitVec.extractLsb'_toNat, BitVec.toNat_ofNat, hv, Nat.shiftRight_eq_div_pow, pow_mul]
  rfl

theorem leBytes_word (v : Reg32) : leBytes 4 v.toNat = [wordByte v 0, wordByte v 1, wordByte v 2, wordByte v 3] := by
  simp [wordByte_eq, leBytes, Nat.div_div_eq_div_mul]

/-- A word at the bottom of a block of 16 octets, read back from a memory in canonical form. -/
theorem memRead_memWriteBe_word {m : List Host.Cell} (a : Nat) (v : Reg32) (h : Memory.wf m = true) :
    memRead (memWriteBe m a 0xF (BitVec.ofNat 128 v.toNat) 16) a 4 = leBytes 4 v.toNat := by
  have hset : memWriteBe m a 0xF (BitVec.ofNat 128 v.toNat) 16 = memSet (memSet (memSet (memSet m a (wordByte v 0))
      (a + 1) (wordByte v 1)) (a + 2) (wordByte v 2)) (a + 3) (wordByte v 3) := by
    simp [memWriteBe, wordByte]
  have h1 := Memory.wf_memSet a (wordByte v 0) h
  have h2 := Memory.wf_memSet (a + 1) (wordByte v 1) h1
  have h3 := Memory.wf_memSet (a + 2) (wordByte v 2) h2
  rw [hset, leBytes_word]
  simp [memRead, memGet_memSet_self, memGet_memSet_other, h, h1, h2, h3]

/-- What a word store to a transmit slot's SEQ does: the word enters the buffer and the slots whose SEQ changed are
queued. -/
def seqWritten (a : Nat) (v : Reg32) (s : State) : State :=
  lncCommitted s.vmem { s with vmem := memWriteBe s.vmem a 0xF (BitVec.ofNat 128 v.toNat) 16 }

theorem seqWritten_vmem (a : Nat) (v : Reg32) (s : State) (x : Nat) :
    memGet (seqWritten a v s).vmem x = memGet (memWriteBe s.vmem a 0xF (BitVec.ofNat 128 v.toNat) 16) x :=
  (lncCommitted_frame (P := [.recd, .lnc, .ints, .held, .noted, .lic]) s.vmem
    { s with vmem := memWriteBe s.vmem a 0xF (BitVec.ofNat 128 v.toNat) 16 } (by decide) (by decide) (by decide)
    (by decide) (by decide) (by decide) (SameBut.refl _ _)).2 .vmem (by decide) x

theorem seqWritten_streamKept (core : Fin 8) (a : Nat) (v : Reg32) (s : State) :
    StreamKept core s (seqWritten a v s) := by
  have h := (lncCommitted_frame (P := [.recd, .lnc, .ints, .held, .noted, .lic]) s.vmem
    { s with vmem := memWriteBe s.vmem a 0xF (BitVec.ofNat 128 v.toNat) 16 } (by decide) (by decide) (by decide)
    (by decide) (by decide) (by decide) (SameBut.refl _ _)).streamKept (by decide) (by decide) core
  exact StreamKept.trans ⟨execCores_congr core s _ rfl, fun _ _ => ⟨rfl, rfl⟩⟩ h

theorem voteOff_lnc {s : State} (hp : s.pwr.on.getLsbD 5 = true) (hg : s.clk.clken0.getLsbD 6 = true) {a : Nat}
    (h : 0x200060000 ≤ a ∧ a < 0x200070000) : voteOff s a = none := by
  have hblk : (a - 0x200000000) / 65536 = 6 := by omega
  simp_all [voteOff]

theorem voteAccess_txSlot {s : State} {a : Nat} (m : Option (Fin 8)) (v : Reg32) (tag : BitVec 6) (h16 : a % 16 = 0)
    (htx : lncTx ≤ a ∧ a < 0x200070000) (hoff : voteOff s a = none) :
    voteAccess m (wordBeat a v tag) s = (.done 0, seqWritten a v s) := by
  obtain ⟨-, hexcl, hexec, hty, -⟩ := wordBeat_attr a v tag
  have hlo : 0x20006C000 ≤ a := htx.1
  have ha : (wordBeat a v tag).addr.toNat = a := wordBeat_addr v tag (by omega)
  have hbuf : votedBuffer a = true := by
    have h : 0x200064000 ≤ a ∧ a < 0x200070000 := by omega
    simp [votedBuffer, lncRx, h]
  have hro (w : Bool) : readOnlyWindow w a = false := by
    have h : ¬ (0x200050000 ≤ a ∧ a < 0x200060000) := by omega
    simp [readOnlyWindow, h]
  have hbase : a / 16 * 16 = a := by omega
  have hbe : (wordBeat a v tag).be = 0xF := by
    simp [wordBeat, Access.beat, wordStore, blockOf, h16]
  have hdata : (wordBeat a v tag).data = BitVec.ofNat 128 v.toNat := by rw [wordBeat_data, h16]; simp
  simp only [voteAccess, ha, hoff, hexcl, hexec, hty, hbuf, hro, htx, lncBufferWrite, hbase, hbe, hdata, seqWritten]
  simp

theorem lncTxSeqWrite_stores {core : Fin 8} {s : State} (v : BitVec 32) (hx : Executes core s) (hu : Unison core s)
    (hc : Uncombined core s) (hp : s.pwr.on.getLsbD 5 = true) (hwf : s.memWf = true) (m : Fin 8)
    (hg : s.clk.clken0.getLsbD 6 = true) :
    ∃ t, exec (.lncTxSeqWrite core m v) s = .next t ∧ GoesOn core s t ∧
      memRead t.vmem (lncTx + 0x800 * m.val) 4 = leBytes 4 v.toNat := by
  obtain ⟨hvmem, -⟩ := (memWf_iff s).1 hwf
  have ha : lncTx + 0x800 * m.val = 0x20006C000 + 0x800 * m.val := rfl
  obtain ⟨s1, hs, honly, hgo⟩ := writeReg_goesOn (a := lncTx + 0x800 * m.val) (v := v)
    (F := seqWritten (lncTx + 0x800 * m.val) v) hx hu hc (by omega) (by omega)
    (fun tag s1 hs => voteAccess_txSlot _ v tag (by omega) (by omega)
      ((hs.voteOff _).trans (voteOff_lnc hp hg (by omega))))
    (fun s1 _ => seqWritten_streamKept core _ v s1)
  obtain ⟨-, -, -, hv⟩ := honly.parts
  obtain ⟨-, -, -, hv1⟩ := hs.parts
  refine ⟨_, rfl, hgo, ?_⟩
  rw [hv, memRead_congr (seqWritten_vmem _ v s1), memRead_memWriteBe_word _ v (by rw [hv1]; exact hvmem)]

end Sys2Proof.Machine
end

section
/-! PROOFS. O24: the state that refutes it, and the refutation. -/

namespace Sys2Proof.Machine

open Sys2Proof

/-- WIDE with every domain and clock on, and a voted memory that is not in canonical form: it lists the first octet
of transmit slot 0's SEQ twice. -/
def seqListedTwice : State :=
  { mod := { state := .wide }
    pwr := { on := 0xFFF }
    vrc := { mode := .split }
    clk := { clken0 := 0x7F }
    vmem := [(lncTx, 1), (lncTx, 1)] }

theorem seqListedTwice_executes : Executes 0 seqListedTwice := by
  unfold Executes
  decide +kernel

theorem seqListedTwice_unison : Unison 0 seqListedTwice := ⟨trivial, by decide +kernel⟩

theorem seqListedTwice_uncombined : Uncombined 0 seqListedTwice := by
  unfold Uncombined
  decide +kernel

theorem seqListedTwice_not_memWf : seqListedTwice.memWf = false := by decide +kernel

/-- The write of SEQ 0 takes the first of the two entries away, and the second is read back. -/
theorem seqListedTwice_reads_back :
    memRead (writeReg 0 (lncTx + 0x800 * (0 : Fin 8).val) 0 seqListedTwice).vmem (lncTx + 0x800 * (0 : Fin 8).val) 4 =
      [1, 0, 0, 0] := by
  decide +kernel

/-- Refutes O24. Its clause on LNC_TX_SEQ_WRITE fails in a state whose voted memory is not in canonical form
(`State.memWf`), which the statement does not ask for; with that premise it is `lncTxSeqWrite_stores`. The other
clauses hold of every state: `registerWrite_inten`, `registerWrite_intstat`, `fbxOutWrite_refreshes`,
`fbxFltclrWrite_releases`, `brgRegionWrite_sets`, `brgRegionWrite_fixed` and `brgIntstatClear_clears`. -/
theorem not_votedRegisterWrites : ¬ Obligations.VotedRegisterWrites := by
  unfold Obligations.VotedRegisterWrites
  intro h
  obtain ⟨-, -, -, -, hseq⟩ := h 0 seqListedTwice 0 seqListedTwice_executes seqListedTwice_unison
    seqListedTwice_uncombined (by decide)
  obtain ⟨t, ht, -, hread⟩ := hseq 0 (by decide)
  have hnext : t = writeReg 0 (lncTx + 0x800 * (0 : Fin 8).val) 0 seqListedTwice := (Host.Outcome.next.inj ht).symm
  rw [hnext, seqListedTwice_reads_back] at hread
  exact absurd hread (by decide)

end Sys2Proof.Machine
end

section
/-! PROOFS. A lane's place in the vote: what leaving the vote for SAFE-HOLD does to every lane (R23, R52, R56). -/

namespace Sys2Proof.Machine

open Sys2Proof

/-- What does not touch the lanes keeps them as they are. -/
theorem SameBut.lanes {P : List Part} {s t : State} (h : SameBut P s t) (hv : Part.vrc ∉ P) :
    t.vrc.lanes = s.vrc.lanes :=
  (congrArg Vrc.lanes (h.2 .vrc hv) :)

theorem SameBut.mod {P : List Part} {s t : State} (h : SameBut P s t) (hm : Part.mod ∉ P) : t.mod = s.mod :=
  h.2 .mod hm

/-! ### Out of the vote -/

/-- A lane that takes no part in the vote: it is not ACTIVE, and unless it is RETIRED it drives no gate set and its
port is fenced. -/
def OutOfVote (x : Lane) : Prop :=
  x.state ≠ .active ∧ (x.gate = none ∨ x.state = .retired) ∧ (x.fenced = true ∨ x.state = .retired)

theorem lanesLeave_outOfVote (s : State) (l : Fin 4) : OutOfVote ((lanesLeave s).vrc.lanes[l]) := by
  cases h : (s.vrc.lanes[l]).state <;> simp_all [lanesLeave, mapLanes, OutOfVote]

theorem leaveRun_outOfVote (reason cause new : Nat) (s : State) (l : Fin 4) :
    OutOfVote ((leaveRun reason cause new s).vrc.lanes[l]) := by
  simp only [leaveRun, setVote_vrc_lanes]
  exact lanesLeave_outOfVote _ l

theorem leaveRun_vote (reason cause new : Nat) (s : State) :
    (leaveRun reason cause new s).vrc.mode = .none ∧ (leaveRun reason cause new s).vrc.subst = false := by
  simp [leaveRun]

theorem leaveRun_mod (reason cause new : Nat) (s : State) : (leaveRun reason cause new s).mod = s.mod :=
  (leaveRun_frame (P := [.vrc, .rot, .cys, .banks, .chans, .xn, .recd, .kiln, .twl, .ints, .held, .noted, .lic])
    reason cause new s (by decide) (by decide) (by decide) (by decide) (by decide) (by decide) (by decide) (by decide)
    (by decide) (by decide) (by decide) (by decide) (by decide) (SameBut.refl _ s)).mod (by decide)

theorem banksSafe_mod (reason : Nat) (s : State) : (banksSafe reason s).mod = s.mod :=
  (banksSafe_frame (P := [.chans, .recd, .ints, .held, .noted, .lic]) reason s (by decide) (by decide) (by decide)
    (by decide) (by decide) (by decide) (SameBut.refl _ s)).mod (by decide)

theorem activeLanes_eq_nil {s : State} (h : ∀ l, laneState s l ≠ .active) : activeLanes s = [] := by
  simp [activeLanes, lanesIn, h]

/-! ### Into SAFE-HOLD -/

/-- SAFE-HOLD as it is entered for a cause (R23, R52, R56): voting mode none, and every lane out of the vote. -/
def SafeHeld (cause : Nat) (t : State) : Prop :=
  t.mod.state = .safeHold ∧ t.mod.cause = cause ∧ t.vrc.mode = .none ∧ t.vrc.subst = false ∧
    ∀ l : Fin 4, OutOfVote t.vrc.lanes[l]

theorem SafeHeld.activeLanes_nil {cause : Nat} {t : State} (h : SafeHeld cause t) : activeLanes t = [] := by
  obtain ⟨-, -, -, -, hout⟩ := h
  exact activeLanes_eq_nil fun l => (hout l).1

theorem enterSafeHold_safeHeld (cause : Nat) (s : State) (h : s.mod.state ≠ .safeHold) :
    SafeHeld cause (enterSafeHold cause s) := by
  unfold enterSafeHold SafeHeld
  simp only [setModState_mod_state, setModState_vrc, true_and]
  split
  · obtain ⟨hmode, hsubst⟩ := leaveRun_vote 1 cause 5 s
    exact ⟨setModState_cause _ _ (by rw [leaveRun_mod]; exact h), hmode, hsubst, leaveRun_outOfVote 1 cause 5 s⟩
  · refine ⟨setModState_cause _ _ ?_, setVote_vrc_mode .., setVote_vrc_subst .., fun l => ?_⟩
    · rw [setVote_mod, lanesLeave, mapLanes_mod, banksSafe_mod]
      exact h
    · simp only [setVote_vrc_lanes]
      exact lanesLeave_outOfVote _ l

/-- No majority, in whatever way it comes about, ends in SAFE-HOLD with the event of the voting mode as its cause
(R52). -/
theorem noMajority_safeHeld (lanes : List (Fin 4)) (cause : Nat) (groups : BitVec 13) (b : Beat) (s : State)
    (h : s.mod.state ≠ .safeHold) :
    SafeHeld (if s.vrc.mode = .oo3 then 0x1003 else 0x1004) (noMajority lanes cause groups b s) :=
  enterSafeHold_safeHeld _ _ (by rw [record_mod]; exact h)

end Sys2Proof.Machine
end

section
/-! PROOFS. O4: two ACTIVE lanes whose beats differ. -/

namespace Sys2Proof.Machine

open Sys2Proof

/-- Two ACTIVE lanes that present different beats have no majority: no beat goes forward (R48, R52). -/
theorem voteClock_two_differ {s : State} {i : Fin 4 → LaneInput} {a c : Fin 4} {x b : Beat} (hmode : s.vrc.mode = .oo2)
    (hact : activeLanes s = [a, c]) (hdiff : beatDiff x b ≠ 0) (ha : i a = .beat x) (hc : i c = .beat b) :
    voteClock i s = (none, noMajority [a, c] 1 (beatDiff x b) x s) := by
  have hnoted : [a, c].foldl (fun t l => noteSilence l (i l) t) s = s := by
    simp [ha, hc, noteSilence]
  have hverdict : decide3 i [a, c] = .noMajority [a, c] 1 (beatDiff x b) x := by
    simp only [decide3, ha, hc, inputDiff, inputCause, inputBeat, if_neg hdiff]
  simp only [voteClock, hact, hnoted, hmode, hverdict, applyVerdict]

theorem execLaneBeat_withheld {s u : State} {i0 i1 i2 i3 : LaneInput} (hmode : s.vrc.mode ≠ .split)
    (h : voteClock (pick4 i0 i1 i2 i3) s = (none, u)) : execLaneBeat i0 i1 i2 i3 s = .next u := by
  simp only [execLaneBeat, if_neg hmode, h]

/-- Settles O4: the vote of two differing beats is no majority (`voteClock_two_differ`), and no majority ends in
SAFE-HOLD with every lane out of the vote (`noMajority_safeHeld`). -/
theorem noMajorityTakesSafeHold : Obligations.NoMajorityTakesSafeHold := by
  unfold Obligations.NoMajorityTakesSafeHold
  intro s a c x b i0 i1 i2 i3 hmode hrun hact hdiff ha hc
  have hheld := noMajority_safeHeld [a, c] 1 (beatDiff x b) x s (by simp [hrun])
  rw [if_neg (by simp [hmode])] at hheld
  have hnone := hheld.activeLanes_nil
  obtain ⟨hstate, hcause, hvote, hsubst, hout⟩ := hheld
  exact ⟨_, execLaneBeat_withheld (by simp [hmode]) (voteClock_two_differ hmode hact hdiff ha hc), hstate, hcause,
    hvote, hsubst, fun l => (hout l).2.1, fun l => (hout l).2.2, hnone⟩

end Sys2Proof.Machine
end

section
/-! PROOFS. O54: the last steps of FIRING: the load, the check of the SAFETY set, and the end in a voted RUN state
(R76, R394, R452). -/

namespace Sys2Proof.Machine

open Sys2Proof

/-! ### The load makes every lane WEDGED (R452 steps 9 and 10) -/

/-- What LANE_IMAGE_LOADED may change before it compares a lane's CRC. -/
def loadParts : List Part := [.drawn, .rot, .cys, .recd, .twl, .ints, .vmem, .mems, .held, .noted, .lic]

/-- The stored application and δ taken, on the first load; a repeated load takes them no more (R445, R454). -/
def imageTaken (again : Bool) (s : State) : State :=
  if again then s
  else takeDelta (takeStored { s with
    vmem := s.vmem.filter (fun c => !(decide (sharedBase ≤ c.1) && decide (c.1 < sharedBase + sharedSize)))
    rot := { s.rot with pages := [] }, twl := { s.twl with shared := [] } })

theorem imageTaken_frame (again : Bool) (s : State) : SameBut loadParts s (imageTaken again s) := by
  unfold imageTaken
  refine fr_ite (SameBut.refl _ s) (takeDelta_frame _ (by decide) (by decide) (by decide) (by decide) (by decide)
    (by decide) (takeStored_frame _ (by decide) (by decide) (by decide) (by decide) ?_))
  exact fr_mk (.inl rfl) (.inl rfl) (.inl rfl) (.inl rfl) (.inr (by decide)) (.inl rfl) (.inl rfl) (.inl rfl)
    (.inl rfl) (.inl rfl) (.inl rfl) (.inl rfl) (.inl rfl) (.inl rfl) (.inr (by decide)) (.inl rfl) (.inl rfl)
    (.inl rfl) (.inl rfl) (.inl rfl) (.inl rfl) (.inl rfl) (.inl rfl) (.inr (by decide)) (.inl rfl) (.inl rfl)
    (.inl rfl) (.inl rfl) (SameBut.refl _ s)

theorem loadLanes_imageTaken_frame (again : Bool) (ls : List (Fin 4)) (s : State) :
    SameBut loadParts s (loadLanes ls (imageTaken again s)) :=
  loadLanes_frame ls _ (by decide) (by decide) (imageTaken_frame again s)

theorem laneState_congr {s t : State} (h : t.vrc.lanes = s.vrc.lanes) (l : Fin 4) : laneState t l = laneState s l := by
  unfold laneState
  rw [h]

theorem laneState_setLane (l j : Fin 4) (f : Lane → Lane) (s : State) :
    laneState (setLane l f s) j = if j = l then (f s.vrc.lanes[j]).state else laneState s j := by
  simp only [laneState, setLane, vmod_get]
  split <;> rfl

theorem laneCompared_good {crcOk : BitVec 4} {l : Fin 4} (h : crcOk.getLsbD l.val = true) (s : State) (j : Fin 4) :
    laneState (laneCompared crcOk l s) j = if j = l then .wedged else laneState s j := by
  unfold laneCompared
  rw [if_pos h]
  split
  · next hw =>
    split
    · next hj => rw [hj, hw]
    · rfl
  · rw [laneState_setLane]

/-- Lanes whose CRC is good end up WEDGED, and the others stay as they are. -/
theorem foldl_laneCompared_good {crcOk : BitVec 4} (ls : List (Fin 4)) (h : ∀ l ∈ ls, crcOk.getLsbD l.val = true)
    (s : State) (j : Fin 4) :
    laneState (ls.foldl (fun t l => laneCompared crcOk l t) s) j = if j ∈ ls then .wedged else laneState s j := by
  induction ls generalizing s with
  | nil => rfl
  | cons l ls ih =>
    rw [List.foldl_cons, ih (fun k hk => h k (List.mem_cons_of_mem _ hk)),
      laneCompared_good (h l (List.mem_cons_self ..))]
    by_cases hj : j ∈ ls <;> simp [hj]

theorem foldl_laneCompared_mod (crcOk : BitVec 4) (ls : List (Fin 4)) (s : State) :
    (ls.foldl (fun t l => laneCompared crcOk l t) s).mod = s.mod :=
  (fr_foldl (P := [.pwr, .vrc, .rot, .recd, .ints, .held, .noted, .lic]) (SameBut.refl _ s) fun t l h =>
    laneCompared_frame crcOk l t (by decide) (by decide) (by decide) (by decide) (by decide) (by decide) (by decide)
      (by decide) h).mod (by decide)

theorem mem_usableLanes {s : State} {l : Fin 4} (hu : (s.vrc.lanes[l]).usable = true) (hs : laneState s l = .spare)
    (hp : s.pwr.on.getLsbD (1 + l.val) = true) (h5 : s.pwr.on.getLsbD 5 = true) : l ∈ usableLanes s := by
  have hu' : (s.vrc.lanes[l.val]).usable = true := hu
  simp [usableLanes, allFin, hu', hs, hp, h5]

/-- The state the load leaves before its outcome is judged. -/
def imageLoaded (crcOk : BitVec 4) (s : State) : State :=
  let s1 := imageTaken ((allFin 4).any (fun l => (s.vrc.lanes[l]).loadOnce)) s
  let ls := (usableLanes s1).filter (fun l => laneState s1 l ≠ .wedged)
  ls.foldl (fun t l => laneCompared crcOk l t) (loadLanes ls s1)

theorem imageLoaded_mod (crcOk : BitVec 4) (s : State) : (imageLoaded crcOk s).mod = s.mod := by
  unfold imageLoaded
  dsimp only
  rw [foldl_laneCompared_mod]
  exact (loadLanes_imageTaken_frame _ _ s).mod (by decide)

/-- Every usable SPARE lane takes the load, and with a good CRC it is WEDGED. -/
theorem imageLoaded_wedged {crcOk : BitVec 4} (hcrc : ∀ l : Fin 4, crcOk.getLsbD l.val = true) {s : State} {l : Fin 4}
    (hu : (s.vrc.lanes[l]).usable = true) (hs : laneState s l = .spare)
    (hp : s.pwr.on.getLsbD (1 + l.val) = true) (h5 : s.pwr.on.getLsbD 5 = true) :
    laneState (imageLoaded crcOk s) l = .wedged := by
  unfold imageLoaded
  dsimp only
  generalize (allFin 4).any (fun l => (s.vrc.lanes[l]).loadOnce) = again
  have hf := imageTaken_frame again s
  have hlanes : (imageTaken again s).vrc.lanes = s.vrc.lanes := hf.lanes (by decide)
  have hpwr : (imageTaken again s).pwr = s.pwr := hf.2 .pwr (by decide)
  have hspare : laneState (imageTaken again s) l = .spare := (laneState_congr hlanes l).trans hs
  have hmem : l ∈ usableLanes (imageTaken again s) :=
    mem_usableLanes (by rw [hlanes]; exact hu) hspare (by rw [hpwr]; exact hp) (by rw [hpwr]; exact h5)
  rw [foldl_laneCompared_good _ (fun l _ => hcrc l), if_pos]
  exact List.mem_filter.2 ⟨hmem, by simp [hspare]⟩

theorem execLaneImageLoaded_eq (crcOk : BitVec 4) (s : State) : execLaneImageLoaded crcOk s =
    if s.mod.state ≠ .firing ∨ s.mod.start.lanesTested = false ∨ s.mod.start.loaded = true ∨
        (s.mod.start.injected = false ∧ wideChosen s = false) then .next s
    else if (usableLanes (imageLoaded crcOk s)).any (fun l => laneState (imageLoaded crcOk s) l ≠ .wedged) then
      .next (imageLoaded crcOk s)
    else if (lanesIn (imageLoaded crcOk s) (fun x => decide (x = .wedged))).length < 2 then
      .next (fireService (if (lanesIn (imageLoaded crcOk s) (fun x => decide (x = .quarantine))).isEmpty then 0x1006
        else 0x7009) (imageLoaded crcOk s))
    else .next (setStart (fun x => { x with loaded := true }) (imageLoaded crcOk s)) := rfl

/-- With all lanes WEDGED the load is complete. -/
theorem execLaneImageLoaded_complete {crcOk : BitVec 4} {s : State} (hf : s.mod.state = .firing)
    (ht : s.mod.start.lanesTested = true) (hl : s.mod.start.loaded = false) (hi : s.mod.start.injected = true)
    (hw : ∀ l, laneState (imageLoaded crcOk s) l = .wedged) :
    execLaneImageLoaded crcOk s = .next (setStart (fun x => { x with loaded := true }) (imageLoaded crcOk s)) := by
  have hguard : ¬ (s.mod.state ≠ .firing ∨ s.mod.start.lanesTested = false ∨ s.mod.start.loaded = true ∨
      (s.mod.start.injected = false ∧ wideChosen s = false)) := by simp [hf, ht, hl, hi]
  have hnone :
      (usableLanes (imageLoaded crcOk s)).any (fun l => laneState (imageLoaded crcOk s) l ≠ .wedged) = false := by
    simp [hw]
  have hfour : lanesIn (imageLoaded crcOk s) (fun x => decide (x = .wedged)) = allFin 4 := by
    simp [lanesIn, hw]
  rw [execLaneImageLoaded_eq, if_neg hguard, hnone, hfour]
  rfl

theorem laneImageLoaded_wedges {s : State} (hf : s.mod.state = .firing) (ht : s.mod.start.lanesTested = true)
    (hl : s.mod.start.loaded = false) (hi : s.mod.start.injected = true)
    (hlanes : ∀ l : Fin 4, (s.vrc.lanes[l]).usable = true ∧ laneState s l = .spare ∧
      s.pwr.on.getLsbD (1 + l.val) = true) (h5 : s.pwr.on.getLsbD 5 = true) :
    ∃ t, exec (.laneImageLoaded 0xF) s = .next t ∧ t.mod.start.loaded = true ∧ (∀ l : Fin 4, laneState t l = .wedged) ∧
      t.mod.state = .firing := by
  have hw (l : Fin 4) : laneState (imageLoaded 0xF s) l = .wedged := by
    obtain ⟨hu, hs, hp⟩ := hlanes l
    exact imageLoaded_wedged (by decide) hu hs hp h5
  exact ⟨_, execLaneImageLoaded_complete hf ht hl hi hw, rfl, hw, by
    rw [setStart, imageLoaded_mod]; exact hf⟩

/-! ### The SAFETY set within its ranges (R394) -/

theorem safetySetCheck_releases {s : State} (hf : s.mod.state = .firing) (hl : s.mod.start.loaded = true)
    (hn : s.mod.start.safetyOk = false) (hok : ∀ m ∈ safetyMembers, memberBad m s = false) :
    ∃ t, exec .safetySetCheck s = .next t ∧ t.mod.start.safetyOk = true ∧ t.recd = s.recd ∧
      ∀ l : Fin 4, laneState s l = .wedged → (t.vrc.lanes[l]).held = false ∧ laneState t l = .wedged := by
  have hguard : ¬ (s.mod.state ≠ .firing ∨ s.mod.start.loaded = false ∨ s.mod.start.safetyOk = true) := by
    simp [hf, hl, hn]
  have hbad : safetyMembers.filter (fun m => memberBad m s) = [] :=
    List.filter_eq_nil_iff.2 fun m hm => by simp [hok m hm]
  have hexec : exec .safetySetCheck s = .next (setStart (fun x => { x with safetyOk := true })
      (mapLanes (fun x => if x.state = .wedged then { x with held := false } else x) s)) := by
    change execSafetySetCheck s = _
    simp only [execSafetySetCheck, if_neg hguard, hbad]
    rfl
  refine ⟨_, hexec, rfl, rfl, fun l hw => ?_⟩
  have hw' : (s.vrc.lanes[l.val]).state = .wedged := hw
  simp [setStart, mapLanes, laneState, hw']

/-! ### The lanes that become ACTIVE (R76) -/

/-- What the vote rests on: the voting mode, SUBST and the lanes. -/
def votePart (s : State) : VoteMode × Bool × Vector Lane 4 := (s.vrc.mode, s.vrc.subst, s.vrc.lanes)

theorem foldl_votePart {α : Type} {f : State → α → State} (hf : ∀ t x, votePart (f t x) = votePart t) (ls : List α)
    (s : State) : votePart (ls.foldl f s) = votePart s :=
  List.foldlRecOn ls f (motive := fun t => votePart t = votePart s) rfl fun t h x _ => (hf t x).trans h

theorem SameBut.votePart {P : List Part} {s t : State} (h : SameBut P s t) (hv : Part.vrc ∉ P) :
    votePart t = votePart s := by
  have hvrc : { t.vrc with heldInts := [] } = { s.vrc with heldInts := [] } := h.2 .vrc hv
  exact (congrArg (fun v : Vrc => (v.mode, v.subst, v.lanes)) hvrc :)

theorem votePart_eq_iff {s : State} {m : VoteMode} {b : Bool} {v : Vector Lane 4} :
    votePart s = (m, b, v) ↔ s.vrc.mode = m ∧ s.vrc.subst = b ∧ s.vrc.lanes = v := by
  simp [votePart]

theorem vwrite_votePart (a : Nat) (bs : List Byte) (s : State) : votePart (vwrite a bs s) = votePart s := by
  unfold vwrite markShared
  split <;> rfl

theorem putStat_votePart (i w : Nat) (s : State) : votePart (putStat i w s) = votePart s := vwrite_votePart _ _ s

theorem setNode_votePart (n : Fin 64) (f : XNode → XNode) (s : State) : votePart (setNode n f s) = votePart s := by
  unfold setNode
  dsimp only
  split
  · rfl
  · exact foldl_votePart (fun t i => putStat_votePart i _ t) _ _

theorem xnRole_votePart (r : BusRole) (cause : Nat) (s : State) : votePart (xnRole r cause s) = votePart s :=
  (xnRole_frame (P := [.xn, .recd, .ints, .held, .noted, .lic]) r cause s (by decide) (by decide) (by decide)
    (by decide) (by decide) (by decide) (SameBut.refl _ s)).votePart (by decide)

/-- The start of the bus writes status words into the voted region and leaves the vote alone (R285). -/
theorem busStart_votePart (s : State) : votePart (busStart s) = votePart s := by
  unfold busStart
  dsimp only
  split
  · exact (xnRole_votePart _ _ _).trans ((foldl_votePart (fun t i => putStat_votePart i _ t) _ _).trans
      (foldl_votePart (fun t n => setNode_votePart n _ t) _ _))
  · rfl

theorem banksStarted_votePart (s : State) : votePart (banksStarted s) = votePart s :=
  (banksStarted_frame (P := [.chans]) s (by decide) (SameBut.refl _ s)).votePart (by decide)

theorem fireEnd_votePart (new : ModState) (s : State) : votePart (fireEnd new s) = votePart s := by
  unfold fireEnd
  dsimp only
  rw [busStart_votePart, banksStarted_votePart]
  simp [votePart, setBoot]

theorem fireEnd_state (new : ModState) (s : State) : (fireEnd new s).mod.state = new := by
  have hmod (t : State) : (busStart (banksStarted t)).mod = t.mod :=
    (busStart_frame (P := [.chans, .vrc, .xn, .recd, .twl, .ints, .vmem, .held, .noted, .lic]) _ (by decide) (by decide)
      (by decide) (by decide) (by decide) (by decide) (by decide) (by decide) (by decide)
      (banksStarted_frame t (by decide) (SameBut.refl _ t))).mod (by decide)
  rw [fireEnd, hmod, setModState_mod_state]

/-- A lane that becomes ACTIVE on a gate set. -/
def activated (since : Nat) (p : Fin 4 × Fin 3) (x : Lane) : Lane :=
  { x with state := .active, fenced := false, held := false, silent := false, gate := some p.2, since := since
           overdue := false }

/-- Changes of different lanes do not disturb each other. -/
theorem foldl_setLane_get {f : Fin 4 × Fin 3 → Lane → Lane} {ps : List (Fin 4 × Fin 3)} (hn : (ps.map Prod.fst).Nodup)
    (s : State) {p : Fin 4 × Fin 3} (hp : p ∈ ps) :
    (ps.foldl (fun t p => setLane p.1 (f p) t) s).vrc.lanes[p.1] = f p s.vrc.lanes[p.1] := by
  have other (ps : List (Fin 4 × Fin 3)) (l : Fin 4) (hl : l ∉ ps.map Prod.fst) (s : State) :
      (ps.foldl (fun t p => setLane p.1 (f p) t) s).vrc.lanes[l] = s.vrc.lanes[l] := by
    induction ps generalizing s with
    | nil => rfl
    | cons q ps ih =>
      rw [List.foldl_cons, ih (List.not_mem_of_not_mem_cons hl)]
      exact vmod_other _ _ _ _ (List.ne_of_not_mem_cons hl)
  induction ps generalizing s with
  | nil => simp at hp
  | cons q ps ih =>
    obtain ⟨hq, hn'⟩ := List.nodup_cons.1 hn
    rw [List.foldl_cons]
    rcases List.mem_cons.1 hp with rfl | hp'
    · rw [other ps _ hq]
      exact vmod_self _ _ _
    · rw [ih hn' _ hp']
      have hne : p.1 ≠ q.1 := fun h => hq (h ▸ List.mem_map_of_mem hp')
      exact congrArg (f p) (vmod_other _ _ _ _ hne)

theorem laneActivate_get {ls : List (Fin 4)} (hn : ls.Nodup) (hlen : ls.length ≤ 3) (s : State) {p : Fin 4 × Fin 3}
    (hp : p ∈ ls.zip (allFin 3)) :
    (laneActivate ls s).vrc.lanes[p.1] = activated (s.vrc.actSeq + 1) p s.vrc.lanes[p.1] :=
  foldl_setLane_get (f := activated (s.vrc.actSeq + 1))
    (by rw [List.map_fst_zip (by simpa [allFin] using hlen)]; exact hn) _ hp

/-! ### FIRING ends into a voted RUN state (R23, R56, R76) -/

theorem execWait_openRegions_frame (ls : List (Fin 4)) (s : State) :
    SameBut [.cores, .lic] s (execWait (openRegions ls s)) :=
  execWait_frame _ (by decide) (by decide) (openRegions_frame ls s (by decide) (by decide) (SameBut.refl _ s))

theorem mapTasks_cys_votePart (f : Task → Task) (c : Cys) (s : State) :
    votePart (mapTasks f { s with cys := c }) = votePart s := rfl

theorem mapTasks_cys_mod (f : Task → Task) (c : Cys) (s : State) : (mapTasks f { s with cys := c }).mod = s.mod := rfl

theorem fireRun_votePart (ls : List (Fin 4)) (s : State) : votePart (fireRun ls s) =
    (if ls.length = 3 then .oo3 else .oo2, false, (laneActivate ls s).vrc.lanes) := by
  refine ((execWait_openRegions_frame _ _).votePart (by decide)).trans ?_
  rw [mapTasks_cys_votePart, fireEnd_votePart]
  simp [votePart, rotationRestart]

theorem fireRun_state (ls : List (Fin 4)) (s : State) :
    (fireRun ls s).mod.state = if ls.length = 3 then .run2oo3 else .run2oo2 := by
  unfold fireRun
  rw [(execWait_openRegions_frame _ _).mod (by decide), mapTasks_cys_mod, fireEnd_state]
  simp

theorem fireRun_vote (ls : List (Fin 4)) (s : State) :
    (fireRun ls s).vrc.mode = (if ls.length = 3 then .oo3 else .oo2) ∧ (fireRun ls s).vrc.subst = false ∧
      (fireRun ls s).vrc.lanes = (laneActivate ls s).vrc.lanes :=
  votePart_eq_iff.1 (fireRun_votePart ls s)

/-- The lanes named become ACTIVE on the gate sets in their order. -/
theorem fireRun_active {ls : List (Fin 4)} (hn : ls.Nodup) (hlen : ls.length ≤ 3) (s : State) {p : Fin 4 × Fin 3}
    (hp : p ∈ ls.zip (allFin 3)) :
    laneState (fireRun ls s) p.1 = .active ∧ ((fireRun ls s).vrc.lanes[p.1]).gate = some p.2 := by
  obtain ⟨-, -, hlanes⟩ := fireRun_vote ls s
  have hget : (fireRun ls s).vrc.lanes[p.1] = activated (s.vrc.actSeq + 1) p s.vrc.lanes[p.1] :=
    (congrArg (fun v : Vector Lane 4 => v[p.1]) hlanes).trans (laneActivate_get hn hlen s hp)
  exact ⟨congrArg Lane.state hget, congrArg Lane.gate hget⟩

theorem lanesIn_advance (dt : Nat) (s : State) (p : LaneState → Bool) : lanesIn (advance dt s) p = lanesIn s p := by
  simp [lanesIn, laneState]

theorem wideChosen_advance (dt : Nat) (s : State) : wideChosen (advance dt s) = wideChosen s := by
  unfold wideChosen parOn par
  rw [advance_kiln]

theorem lanesIn_nodup (s : State) (p : LaneState → Bool) : (lanesIn s p).Nodup :=
  (List.nodup_finRange 4).filter _

theorem execFiringEnd_run {dt : Nat} {s : State} {ws : List (Fin 4)} (hf : s.mod.state = .firing)
    (hl : s.mod.start.loaded = true) (hs : s.mod.start.safetyOk = true) (hw : wideChosen s = false)
    (hws : lanesIn s (fun x => decide (x = .wedged)) = ws) (h2 : 2 ≤ ws.length) :
    execFiringEnd dt s = .next (fireRun (ws.take 3) (advance dt s)) := by
  simp [execFiringEnd, hf, hl, hs, wideChosen_advance, hw, lanesIn_advance, hws, Nat.not_lt.2 h2]

/-- FIRING that has come to its end with two or more lanes WEDGED makes the lowest three, or the two, ACTIVE on the
gate sets in ascending order (R76), with the voting mode and RUN state of their number. -/
theorem firingEnd_runs {s : State} (dt : Nat) {ws : List (Fin 4)} (hf : s.mod.state = .firing)
    (hl : s.mod.start.loaded = true) (hs : s.mod.start.safetyOk = true) (hw : wideChosen s = false)
    (hws : lanesIn s (fun x => decide (x = .wedged)) = ws) (h2 : 2 ≤ ws.length) :
    ∃ t, exec (.firingEnd dt) s = .next t ∧
      t.mod.state = (if (ws.take 3).length = 3 then .run2oo3 else .run2oo2) ∧
      t.vrc.mode = (if (ws.take 3).length = 3 then .oo3 else .oo2) ∧ t.vrc.subst = false ∧
      ∀ p ∈ (ws.take 3).zip (allFin 3), laneState t p.1 = .active ∧ (t.vrc.lanes[p.1]).gate = some p.2 := by
  have hn : (ws.take 3).Nodup := (List.take_sublist 3 ws).nodup (hws ▸ lanesIn_nodup s _)
  obtain ⟨hmode, hsubst, -⟩ := fireRun_vote (ws.take 3) (advance dt s)
  exact ⟨_, execFiringEnd_run hf hl hs hw hws h2, fireRun_state _ _, hmode, hsubst,
    fun p hp => fireRun_active hn (List.length_take_le 3 ws) _ hp⟩

/-- Settles O54: the load wedges the lanes (`laneImageLoaded_wedges`), the check of the SAFETY set releases them
(`safetySetCheck_releases`), and the end of FIRING makes three or two of them ACTIVE (`firingEnd_runs`). -/
theorem firingEndsInRun : Obligations.FiringEndsInRun := by
  unfold Obligations.FiringEndsInRun
  have hgates : allFin 3 = [0, 1, 2] := rfl
  refine ⟨fun s hf ht hl hi hlanes h5 => laneImageLoaded_wedges hf ht hl hi hlanes h5,
    fun s hf hl hn hok => safetySetCheck_releases hf hl hn hok, ?_, ?_⟩
  · intro s dt a b c q hf hl hs hw hws
    obtain ⟨t, hexec, hstate, hmode, hsubst, hactive⟩ := firingEnd_runs dt hf hl hs hw hws (by simp)
    obtain ⟨ha, hga⟩ := hactive (a, 0) (by simp [hgates])
    obtain ⟨hb, hgb⟩ := hactive (b, 1) (by simp [hgates])
    obtain ⟨hc, hgc⟩ := hactive (c, 2) (by simp [hgates])
    exact ⟨t, hexec, by simpa using hstate, by simpa using hmode, hsubst, ha, hb, hc, hga, hgb, hgc⟩
  · intro s dt a b hf hl hs hw hws
    obtain ⟨t, hexec, hstate, hmode, hsubst, hactive⟩ := firingEnd_runs dt hf hl hs hw hws (by simp)
    obtain ⟨ha, -⟩ := hactive (a, 0) (by simp [hgates])
    obtain ⟨hb, -⟩ := hactive (b, 1) (by simp [hgates])
    exact ⟨t, hexec, by simpa using hstate, by simpa using hmode, hsubst, ha, hb⟩

end Sys2Proof.Machine
end

section
/-! PROOFS. O60: the state at reset (R22, R109, R201, R211, R215). -/

namespace Sys2Proof.Machine

open Sys2Proof

theorem reset_core (k : Fin 8) : State.reset.cores[k] = {} := Vector.getElem_replicate k.isLt

theorem reset_word (n : Fin 64) :
    ({} : Core).word n.val = if n.val = 0 then 1 else if n.val = 5 then 0x0100001000 else 0 := by
  revert n
  decide

theorem reset_getX (r : Fin 32) : ({} : Core).getX r = 0 := by
  unfold Core.getX
  split
  · rfl
  · exact Vector.getElem_replicate r.isLt

/-- At reset every memory is empty, and so in canonical form. -/
theorem reset_memWf : State.reset.memWf = true :=
  (memWf_iff _).2 ⟨rfl, rfl, rfl, rfl, fun i => by
    rw [show State.reset.mems[i] = [] from Vector.getElem_replicate i.isLt]
    rfl⟩

/-- Settles O60: every core is the reset core, and the rest are the values of `State.reset`. -/
theorem resetState : Obligations.ResetState := by
  unfold Obligations.ResetState
  refine ⟨rfl, rfl, rfl, fun k => ?_, rfl, rfl, rfl, rfl, rfl, rfl, reset_memWf, rfl⟩
  rw [reset_core]
  exact ⟨rfl, rfl, rfl, rfl, rfl, fun r => ⟨reset_getX r, Vector.getElem_replicate r.isLt⟩, reset_word⟩

end Sys2Proof.Machine
end

section
/-! PROOFS. O2 and O3: an aligned clock in which every ACTIVE lane presents a beat, and the exclusion of the lane that
differs (R48, R49, R53, R56, R58). -/

namespace Sys2Proof.Machine

open Sys2Proof

/-! ### The vote on beats -/

/-- While no ACTIVE lane is silent, the vote does nothing but carry out its verdict (R48). -/
theorem voteClock_beats {s : State} {i : Fin 4 → LaneInput} (hmode : s.vrc.mode = .oo3 ∨ s.vrc.mode = .oo2)
    (hbeats : ∀ l ∈ activeLanes s, ∃ b, i l = .beat b) :
    voteClock i s = applyVerdict (decide3 i (activeLanes s)) s := by
  have hnoted := foldl_beats (activeLanes s) i s hbeats
  rcases hmode with hmode | hmode <;> simp only [voteClock, hnoted, hmode]

theorem execLaneBeat_forwarded {s u : State} {b : Beat} {i0 i1 i2 i3 : LaneInput} (hmode : s.vrc.mode ≠ .split)
    (h : voteClock (pick4 i0 i1 i2 i3) s = (some b, u)) :
    execLaneBeat i0 i1 i2 i3 s = .next (busForward b none u) := by
  simp only [execLaneBeat, if_neg hmode, h]

theorem decide3_agree {i : Fin 4 → LaneInput} {ls : List (Fin 4)} {b : Beat} (hlen : ls.length = 3 ∨ ls.length = 2)
    (h : ∀ l ∈ ls, i l = .beat b) : decide3 i ls = .forward b := by
  rcases hlen with hlen | hlen
  · obtain ⟨a, c, d, rfl⟩ := List.length_eq_three.1 hlen
    simp [decide3, h, inputBeat]
  · obtain ⟨a, c, rfl⟩ := List.length_eq_two.1 hlen
    simp [decide3, h, inputBeat]

/-- Whichever of three lanes differs from the other two, the verdict names it, with cause 1 and the beat of the
others. -/
theorem decide3_differing_lane {i : Fin 4 → LaneInput} {ls : List (Fin 4)} {m : Fin 4} {x b : Beat}
    (hlen : ls.length = 3) (hnodup : ls.Nodup) (hmem : m ∈ ls) (hxb : beatDiff x b ≠ 0) (hbx : beatDiff b x ≠ 0)
    (hm : i m = .beat x) (hothers : ∀ j ∈ ls, j ≠ m → i j = .beat b) :
    ∃ g, decide3 i ls = .minority m 1 g b := by
  obtain ⟨a, c, d, rfl⟩ := List.length_eq_three.1 hlen
  obtain ⟨⟨hac, had⟩, hcd⟩ : (a ≠ c ∧ a ≠ d) ∧ c ≠ d := by simpa using hnodup
  have hcases : m = a ∨ m = c ∨ m = d := by simpa using hmem
  rcases hcases with rfl | rfl | rfl
  · have hc := hothers c (by simp) hac.symm
    have hd := hothers d (by simp) had.symm
    exact ⟨beatDiff x b, by
      simp only [decide3, inputDiff, inputCause, inputBeat, beatDiff_self, hm, hc, hd, hxb, false_and, if_false,
        if_true]⟩
  · have ha := hothers a (by simp) hac
    have hd := hothers d (by simp) hcd.symm
    exact ⟨beatDiff b x, by
      simp only [decide3, inputDiff, inputCause, inputBeat, beatDiff_self, hm, ha, hd, hxb, hbx, false_and, if_false,
        if_true]⟩
  · have ha := hothers a (by simp) had
    have hc := hothers c (by simp) hcd
    exact ⟨beatDiff b x, by
      simp only [decide3, inputDiff, inputCause, inputBeat, beatDiff_self, hm, ha, hc, hbx, and_false, if_false,
        if_true]⟩

theorem activeLanes_nodup (s : State) : (activeLanes s).Nodup := by
  unfold activeLanes lanesIn allFin
  exact (List.nodup_finRange 4).filter _

/-- Settles O2: a vote without silent lanes carries out its verdict (`voteClock_beats`), and the verdict on agreeing
beats is to forward them (`decide3_agree`). -/
theorem voterForwardsAgreedBeat : Obligations.VoterForwardsAgreedBeat := by
  unfold Obligations.VoterForwardsAgreedBeat
  intro s b i0 i1 i2 i3 hvote hagree
  have hmode : s.vrc.mode = .oo3 ∨ s.vrc.mode = .oo2 := hvote.imp And.left And.left
  have hverdict := decide3_agree (hvote.imp And.right And.right) hagree
  refine execLaneBeat_forwarded (by rcases hmode with h | h <;> simp [h]) ?_
  rw [voteClock_beats hmode fun l hl => ⟨b, hagree l hl⟩, hverdict]
  rfl

/-! ### The exclusion of a lane -/

/-- The state in which an exclusion is noted (VRC_EXCL, VRC_XCOUNT, the record and interrupt 32) and the lane is still
in its place (R49, R53). -/
def exclusionNoted (l : Fin 4) (cause : Nat) (groups : BitVec 13) (b : Beat) (s : State) : State :=
  let s1 := rewedgeAfterLoss l (noteExcl groups false cause [] l.val b s)
  let s2 := { s1 with vrc := { s1.vrc with xcount := inc32 s1.vrc.xcount }
                      rot := { s1.rot with vacant := some l, defer := 0, starved := false } }
  raise 32 (record 1 0x1002 (exclReg s2.vrc) (b.addr.toNat % 2 ^ 32) (s2.tim.frc.toNat % 2 ^ 32) s2)

/-- An excluded lane's exclusion is noted, it enters quarantine, and the vote goes on in 2oo2; the module state follows
where no spare stands ready (R49, R56). -/
theorem excludeLane_eq (l : Fin 4) (cause : Nat) (groups : BitVec 13) (b : Beat) (s : State) :
    excludeLane l cause groups b s =
      let q := toQuarantine l (causeEvent cause) (exclusionNoted l cause groups b s)
      let v := setVote .oo2 (wedgedLane q).isSome (causeEvent cause) q
      if (wedgedLane q).isSome then v else setModState .run2oo2 (causeEvent cause) v := rfl

theorem rewedgeAfterLoss_of_none {s : State} (h : s.rot.rewedge = none) (l : Fin 4) : rewedgeAfterLoss l s = s := by
  simp only [rewedgeAfterLoss, h]

theorem exclusionNoted_asserted (l : Fin 4) (cause : Nat) (groups : BitVec 13) (b : Beat) (s : State) :
    Asserted 32 (exclusionNoted l cause groups b s).ints := raise_asserted _ _ (by decide)

/-- Without a rewedge in progress the exclusion is noted in VRC_EXCL and VRC_XCOUNT, and no lane changes yet. -/
theorem exclusionNoted_vrc {s : State} (h : s.rot.rewedge = none) (l : Fin 4) (cause : Nat) (groups : BitVec 13)
    (b : Beat) :
    (exclusionNoted l cause groups b s).vrc.exCause = cause ∧
    (exclusionNoted l cause groups b s).vrc.exLane = l.val ∧
    (exclusionNoted l cause groups b s).vrc.exNoMaj = false ∧
    (exclusionNoted l cause groups b s).vrc.xcount = inc32 s.vrc.xcount ∧
    (exclusionNoted l cause groups b s).vrc.lanes = s.vrc.lanes := by
  have hsame := rewedgeAfterLoss_of_none (s := noteExcl groups false cause [] l.val b s) h l
  unfold exclusionNoted
  rw [hsame]
  simp [noteExcl]

/-- What is left of an exclusion: two lanes vote, the lane and the cause stand in VRC_EXCL, and the lane is out of its
place while the others keep theirs (R49, R53, R56, R58). -/
def ExcludedFrom (l : Fin 4) (cause : Nat) (s t : State) : Prop :=
  t.vrc.mode = .oo2 ∧ t.vrc.exCause = cause ∧ t.vrc.exLane = l.val ∧ t.vrc.exNoMaj = false ∧
    t.vrc.xcount = inc32 s.vrc.xcount ∧ Asserted 32 t.ints ∧
    (laneState t l = .quarantine ∨ laneState t l = .retired) ∧
    (t.vrc.lanes[l]).fenced = true ∧ (t.vrc.lanes[l]).gate = none ∧ ∀ j, j ≠ l → laneState t j = laneState s j

theorem ExcludedFrom.congr {l : Fin 4} {cause : Nat} {s t u : State} (h : ExcludedFrom l cause s t)
    (hvrc : u.vrc = t.vrc) (hints : u.ints = t.ints) : ExcludedFrom l cause s u := by
  simpa only [ExcludedFrom, laneState, hvrc, hints] using h

/-- A lane noted as excluded and quarantined is excluded once the voting mode is 2oo2. -/
theorem setVote_toQuarantine_excluded {s n : State} {l : Fin 4} {cause : Nat} (hcause : n.vrc.exCause = cause)
    (hlane : n.vrc.exLane = l.val) (hmaj : n.vrc.exNoMaj = false) (hcount : n.vrc.xcount = inc32 s.vrc.xcount)
    (hlanes : n.vrc.lanes = s.vrc.lanes) (hint : Asserted 32 n.ints) (subst : Bool) (ev : Nat) :
    ExcludedFrom l cause s (setVote .oo2 subst ev (toQuarantine l ev n)) := by
  obtain ⟨-, qcause, qlane, qmaj, qcount, qint, qstate, qfenced, qgate, qothers⟩ := toQ_facts l ev n
  have hvote (j : Fin 4) : laneState (setVote .oo2 subst ev (toQuarantine l ev n)) j =
      laneState (toQuarantine l ev n) j := laneState_congr (setVote_vrc_lanes ..) j
  refine ⟨setVote_vrc_mode .., ?_, ?_, ?_, ?_, setVote_asserted _ _ _ _ _ (qint hint), ?_, ?_, ?_, fun j hj => ?_⟩
  · rw [setVote_vrc_exCause, qcause, hcause]
  · rw [setVote_vrc_exLane, qlane, hlane]
  · rw [setVote_vrc_exNoMaj, qmaj, hmaj]
  · rw [setVote_vrc_xcount, qcount, hcount]
  · rw [hvote]; exact qstate
  · rw [setVote_vrc_lanes]; exact qfenced
  · rw [setVote_vrc_lanes]; exact qgate
  · rw [hvote, qothers j hj]; exact laneState_congr hlanes j

theorem excludeLane_excluded {s : State} (h : s.rot.rewedge = none) (l : Fin 4) (cause : Nat) (groups : BitVec 13)
    (b : Beat) : ExcludedFrom l cause s (excludeLane l cause groups b s) := by
  obtain ⟨hcause, hlane, hmaj, hcount, hlanes⟩ := exclusionNoted_vrc h l cause groups b
  have hout := setVote_toQuarantine_excluded hcause hlane hmaj hcount hlanes
    (exclusionNoted_asserted l cause groups b s)
  rw [excludeLane_eq]
  dsimp only
  split
  · exact hout _ _
  · exact (hout _ _).congr (setModState_vrc ..) (setModState_ints ..)

/-- Settles O3: the verdict names the lane that differs (`decide3_differing_lane`), the vote excludes it and forwards
the beat of the others (`voteClock_beats`), and `excludeLane_excluded` says what the exclusion leaves. -/
theorem minorityLaneLeavesTheVote : Obligations.MinorityLaneLeavesTheVote := by
  unfold Obligations.MinorityLaneLeavesTheVote
  intro s m x b i0 i1 i2 i3 hmode hrewedge hlen hmem hxb hbx hm hothers
  obtain ⟨g, hverdict⟩ := decide3_differing_lane hlen (activeLanes_nodup s) hmem hxb hbx hm hothers
  have hbeats (l : Fin 4) (hl : l ∈ activeLanes s) : ∃ y, pick4 i0 i1 i2 i3 l = .beat y := by
    by_cases hlm : l = m
    · exact ⟨x, hlm ▸ hm⟩
    · exact ⟨b, hothers l hl hlm⟩
  refine ⟨excludeLane m 1 g b s, execLaneBeat_forwarded (by simp [hmode]) ?_, excludeLane_excluded hrewedge m 1 g b⟩
  rw [voteClock_beats (.inl hmode) hbeats, hverdict]
  rfl

end Sys2Proof.Machine
end

section
/-! PROOFS. O8: the joining lane at the boundary, and the end of a substitution (R56, R77, R98). -/

namespace Sys2Proof.Machine

open Sys2Proof

/-! ### The joining lane -/

/-- A lane as it joins: ACTIVE on a gate set, the `n`-th to become so (R93 step 8, R96). -/
def Lane.joined (gate : Fin 3) (n : Nat) (x : Lane) : Lane :=
  { x with state := .active, fenced := false, held := false, silent := false, gate := some gate, since := n }

/-- Of the lanes, joining changes the joining lane only. -/
@[simp] theorem joinLane_vrc_lanes (r : Rewedge) (s : State) :
    (joinLane r s).vrc.lanes = vmod s.vrc.lanes r.joining (Lane.joined r.gate (s.vrc.actSeq + 1)) := by
  unfold joinLane
  rw [foldl_deliver_proj (fun t => t.vrc.lanes) deliver_vrc_lanes]
  rfl

/-- The rotation controller after a lane has joined: the rewedge is over, and its gate set waits for its release. -/
@[simp] theorem joinLane_rot (r : Rewedge) (s : State) : (joinLane r s).rot =
    { s.rot with rewedge := none, wPhase := 0, gateWait := s.rot.gateWait ++ [r.gate] } := by
  unfold joinLane
  rw [foldl_deliver_proj (fun t => t.rot) deliver_rot]
  rfl

/-! ### The end of a substitution -/

/-- The state a substitution leaves before the voting mode changes: the lane has joined, the rotation timer starts again
unless a swap is pending, and the substitution is counted and recorded (R77, R98). -/
def substitutionNoted (r : Rewedge) (s : State) : State :=
  let s1 := joinLane r s
  let s2 := if s1.rot.pend then s1 else rotationRestart s1
  let ex := match r.excluded with | some l => l.val | none => 0xFF
  raise 49 (record 1 0x1011 ex r.joining.val r.gate.val
    { s2 with rot := { s2.rot with substitutions := inc32 s2.rot.substitutions, vacant := none } })

theorem execSubstituted_done {s : State} {dt : Nat} {r : Rewedge} (hr : (advance dt s).rot.rewedge = some r)
    (hout : r.out = none) (hdone : r.done = true) : execSubstituted dt s =
      .next (setModState .run2oo3 0x1011 (setVote .oo3 false 0x1011 (substitutionNoted r (advance dt s)))) := by
  simp only [execSubstituted, hr, hout, hdone]
  rfl

theorem substitutionNoted_vrc_lanes (r : Rewedge) (s : State) :
    (substitutionNoted r s).vrc.lanes = vmod s.vrc.lanes r.joining (Lane.joined r.gate (s.vrc.actSeq + 1)) := by
  unfold substitutionNoted
  dsimp only
  rw [raise_vrc_lanes, record_vrc]
  split
  · exact joinLane_vrc_lanes r s
  · exact joinLane_vrc_lanes r s

/-- Whether or not a swap is pending, no rewedge is in progress, no gate set is vacant, and one substitution more is
counted. -/
theorem substitutionNoted_rot (r : Rewedge) (s : State) :
    (substitutionNoted r s).rot.rewedge = none ∧ (substitutionNoted r s).rot.vacant = none ∧
    (substitutionNoted r s).rot.substitutions = inc32 s.rot.substitutions := by
  unfold substitutionNoted
  dsimp only
  rw [raise_rot, record_rot]
  split
  · simp
  · simp [rotationRestart]

theorem substitutionNoted_asserted (r : Rewedge) (s : State) : Asserted 49 (substitutionNoted r s).ints :=
  raise_asserted _ _ (by decide)

/-- Settles O8: the vote and the module state are set last (`execSubstituted_done`); the lanes and the rotation
controller are those of `substitutionNoted`. -/
theorem substitutionRestoresThreeLanes : Obligations.SubstitutionRestoresThreeLanes := by
  unfold Obligations.SubstitutionRestoresThreeLanes
  intro s dt r hr hout hdone
  obtain ⟨hrewedge, hvacant, hcount⟩ := substitutionNoted_rot r (advance dt s)
  have hlanes := substitutionNoted_vrc_lanes r (advance dt s)
  rw [advance_vrc] at hlanes
  refine ⟨_, execSubstituted_done hr hout hdone, ?_⟩
  simp only [laneState, setModState_vrc, setModState_rot, setModState_ints, setModState_mod_state, setVote_vrc_lanes,
    setVote_vrc_mode, setVote_vrc_subst, setVote_rot, hlanes, vmod_self]
  exact ⟨rfl, rfl, fun j hj => vmod_other _ _ _ _ hj, trivial, trivial, trivial, hrewedge, hvacant, hcount,
    setVote_asserted _ _ _ _ _ (substitutionNoted_asserted r _)⟩

end Sys2Proof.Machine
end

section
/-! PROOFS. What the operations of the rotation controller leave behind: one lane changed, the mirror FIFO drained, a
lane out of its bisque, a state record loaded (R77-R93). -/

namespace Sys2Proof.Machine

open Sys2Proof

/-! ### Folds and frames -/

/-- What no step of a fold changes, the fold does not change. -/
theorem foldl_proj {σ α β : Type} (p : σ → β) {f : σ → α → σ} (hf : ∀ t x, p (f t x) = p t) (xs : List α) (s : σ) :
    p (xs.foldl f s) = p s :=
  List.foldlRecOn xs f (motive := fun t => p t = p s) rfl fun t h x _ => (hf t x).trans h

/-- What a function keeps of an entry, changing a vector by it keeps of every entry. -/
theorem vmod_proj {α β : Type} {n : Nat} (p : α → β) {f : α → α} (hf : ∀ a, p (f a) = p a) (v : Vector α n)
    (i k : Fin n) : p (vmod v i f)[k] = p v[k] := by
  rw [vmod_get]
  split
  · exact hf _
  · rfl

theorem isRun_advance (dt : Nat) (s : State) : isRun (advance dt s) = isRun s := by simp [isRun]

@[simp] theorem setLane_vrc_lanes (l : Fin 4) (f : Lane → Lane) (s : State) :
    (setLane l f s).vrc.lanes = vmod s.vrc.lanes l f := rfl

@[simp] theorem setLane_vrc_mode (l : Fin 4) (f : Lane → Lane) (s : State) :
    (setLane l f s).vrc.mode = s.vrc.mode := rfl

/-! ### The joining lane and the outgoing lane (R77, R80, R96) -/

@[simp] theorem joinLane_mod (r : Rewedge) (s : State) : (joinLane r s).mod = s.mod := by
  unfold joinLane
  rw [foldl_deliver_proj (fun t => t.mod) deliver_mod]
  rfl

@[simp] theorem joinLane_vrc_mode (r : Rewedge) (s : State) : (joinLane r s).vrc.mode = s.vrc.mode := by
  unfold joinLane
  rw [foldl_deliver_proj (fun t => t.vrc.mode) deliver_vrc_mode]
  rfl

/-- A lane as it leaves the vote for its bisque (R80). -/
def Lane.outgoing (x : Lane) : Lane := { x with state := .bisque, fenced := true, gate := none }

@[simp] theorem startBisque_vrc_lanes (l : Fin 4) (s : State) :
    (startBisque l s).vrc.lanes = vmod s.vrc.lanes l Lane.outgoing := rfl

@[simp] theorem startBisque_vrc_mode (l : Fin 4) (s : State) : (startBisque l s).vrc.mode = s.vrc.mode := rfl

@[simp] theorem startBisque_mod (l : Fin 4) (s : State) : (startBisque l s).mod = s.mod := rfl

@[simp] theorem startBisque_rot (l : Fin 4) (s : State) : (startBisque l s).rot =
    { s.rot with bLane := l, bStep := 1, bResult := 1, bFail := 0, bSlices := 0
                 bStart := s.recd.optime, bStepFrc := s.tim.frc } := rfl

@[simp] theorem rotationRestart_vrc (s : State) : (rotationRestart s).vrc = s.vrc := rfl

@[simp] theorem rotationRestart_mod (s : State) : (rotationRestart s).mod = s.mod := rfl

@[simp] theorem rotationRestart_rot (s : State) : (rotationRestart s).rot =
    { s.rot with due := s.rot.period, pend := false, starved := false, defer := 0 } := rfl

/-! ### The state record loaded (R91-R93) -/

/-- The registers and the pc of a core: what the invalidation of its caches and of its reservation keeps (R92, R111). -/
def Core.regsPc (c : Core) : Vector Reg64 32 × Reg64 := (c.x, c.pc)

/-- A core whose unlocked cache ways are invalid and whose reservation is cleared. -/
def Core.cleared (c : Core) : Core := { invalidateUnlocked c with resv := none }

theorem cleared_regsPc (c : Core) : c.cleared.regsPc = c.regsPc := rfl

theorem invalidateLanes_eq (ls : List (Fin 4)) (s : State) : invalidateLanes ls s =
    ls.foldl (fun t l => { t with cores := vmod (vmod t.cores (coreP l) Core.cleared) (coreS l) Core.cleared })
      { s with vrc := { s.vrc with bufResv := [] } } := rfl

theorem invalidateLanes_regsPc (ls : List (Fin 4)) (s : State) (k : Fin 8) :
    ((invalidateLanes ls s).cores[k]).regsPc = (s.cores[k]).regsPc := by
  rw [invalidateLanes_eq, foldl_proj fun t : State => (t.cores[k]).regsPc]
  intro t l
  rw [vmod_proj Core.regsPc cleared_regsPc, vmod_proj Core.regsPc cleared_regsPc]

theorem coreP_ne_coreS (l j : Fin 4) : coreP l ≠ coreS j := by
  simp only [coreP, coreS, ne_eq, Fin.mk.injEq]
  omega

theorem loadRecord_regsPc {s : State} {a : Fin 4} {ls : List (Fin 4)} (ha : activeLanes s = a :: ls) (j : Fin 4) :
    ((loadRecord j s).cores[coreP j]).regsPc = (s.cores[coreP a]).regsPc ∧
      ((loadRecord j s).cores[coreS j]).regsPc = (s.cores[coreP a]).regsPc := by
  simp only [loadRecord, ha]
  rw [vmod_other _ _ _ _ (coreP_ne_coreS j j), vmod_self, vmod_self]
  exact ⟨rfl, rfl⟩

theorem rewedgeLoad_cores (r : Rewedge) (s : State) :
    (rewedgeLoad r s).cores = (invalidateLanes (activeAfter r s) (loadRecord r.joining s)).cores := by
  unfold rewedgeLoad
  dsimp only
  split <;> rfl

theorem rewedgeLoad_regsPc (r : Rewedge) (s : State) (k : Fin 8) :
    ((rewedgeLoad r s).cores[k]).regsPc = ((loadRecord r.joining s).cores[k]).regsPc := by
  rw [rewedgeLoad_cores, invalidateLanes_regsPc]

theorem rewedgeLoad_rewedge (r : Rewedge) (s : State) :
    (rewedgeLoad r s).rot.rewedge = some { r with done := true } := by
  unfold rewedgeLoad
  dsimp only
  split <;> rfl

theorem rewedgeLoad_out_fenced {r : Rewedge} {o : Fin 4} (ho : r.out = some o) (s : State) :
    ((rewedgeLoad r s).vrc.lanes[o]).fenced = true := by
  simp [rewedgeLoad, ho]

/-! ### Bisque steps (R80, R81) -/

/-- What the step itself leaves when it has passed: step 1 notes the injection result, step 2 resets the lane. -/
def stepEffect (s : State) : State :=
  let l := s.rot.bLane
  let v := { s.vrc with injBisqOk := true, injBisqLane := l.val, injGroup := 0, injKind := 0, injPair := 0 }
  if s.rot.bStep = 1 then { s with vrc := { v with injAtBisq := injReg v } }
  else if s.rot.bStep = 2 then laneReset l s
  else s

theorem stepEffect_kept (s : State) : (stepEffect s).rot = s.rot ∧ (stepEffect s).tim = s.tim ∧
    (stepEffect s).mod = s.mod ∧ (stepEffect s).vrc.mode = s.vrc.mode := by
  unfold stepEffect
  dsimp only
  split
  · exact ⟨rfl, rfl, rfl, rfl⟩
  · split <;> exact ⟨rfl, rfl, rfl, rfl⟩

theorem bisqueStepPasses_next {s : State} (h : s.rot.bStep ≠ 6) : bisqueStepPasses s =
    { stepEffect s with rot := { s.rot with bStep := s.rot.bStep + 1, bStepFrc := s.tim.frc } } := by
  obtain ⟨hrot, htim, -, -⟩ := stepEffect_kept s
  rw [← hrot, ← htim]
  exact if_neg h

theorem bisqueStepPasses_last {s : State} (h : s.rot.bStep = 6) : bisqueStepPasses s = bisquePasses s := by
  simp [bisqueStepPasses, h]

/-- The lane whose bisque has passed is SPARE with memory of zeros, and waits for its wedging (R81, R82). -/
theorem bisquePasses_spare (s : State) :
    laneState (bisquePasses s) s.rot.bLane = .spare ∧
      ((bisquePasses s).vrc.lanes[s.rot.bLane]).stale = false ∧
      ((bisquePasses s).vrc.lanes[s.rot.bLane]).bisqueAt = s.recd.optime ∧
      (bisquePasses s).mems[coreP s.rot.bLane] = [] := by
  simp [bisquePasses, becomeSpare, laneState]

theorem bisquePasses_rot (s : State) :
    (bisquePasses s).rot.bStep = 0 ∧ (bisquePasses s).rot.bResult = 2 := by
  simp [bisquePasses, becomeSpare]

theorem bisquePasses_asserted (s : State) : Asserted 50 (bisquePasses s).ints := raise_asserted _ _ (by decide)

@[simp] theorem bisqueFail_rot (step addr : Nat) (s : State) :
    (bisqueFail step addr s).rot = { s.rot with bStep := 0, bResult := 3, bFail := step } := by
  simp [bisqueFail]

theorem retire_rot (l : Fin 4) (test : Nat) (addr : Option Nat) (cause : Nat) (s : State) :
    (retire l test addr cause s).rot = { s.rot with waiting := s.rot.waiting.filter (fun z => decide (z ≠ l)) } := by
  simp [retire]

/-- In QUARANTINE or RETIRED, a lane waits for no wedging; the rest of the rotation controller stays. -/
theorem toQuarantine_rot (l : Fin 4) (cause : Nat) (s : State) : (toQuarantine l cause s).rot =
    { s.rot with waiting := s.rot.waiting.filter (fun z => decide (z ≠ l)) } := by
  unfold toQuarantine
  dsimp only
  refine ite_any (P := fun u : State => u.rot =
    { s.rot with waiting := s.rot.waiting.filter (fun z => decide (z ≠ l)) }) ?_ ?_
  · rw [retire_rot, record_rot]
    simp
  · exact record_rot ..

/-! ### The mirror FIFO and the copy of pages (R85, R88) -/

/-- The first `n` entries of the mirror FIFO applied to the spare's memory. -/
def mirrorApplied (n : Nat) (s : State) : State :=
  match spareLane s with
  | some l => (s.rot.fifo.take n).foldl (fun t (e : MirrorEntry) => bwCount 1 (enabledBytes e.be) (applyEntry l e t)) s
  | none => s

theorem drainMirror_eq (n : Nat) (s : State) : drainMirror n s =
    { mirrorApplied n s with rot := { (mirrorApplied n s).rot with
        fifo := s.rot.fifo.drop n
        hold := (mirrorApplied n s).rot.hold && decide (2048 < (s.rot.fifo.drop n).length) } } := rfl

/-- What the application of one entry keeps, the application of the first `n` keeps. -/
theorem mirrorApplied_proj {β : Type} (p : State → β)
    (hp : ∀ (k : Nat) (l : Fin 4) (e : MirrorEntry) (t : State), p (bwCount 1 k (applyEntry l e t)) = p t) (n : Nat)
    (s : State) : p (mirrorApplied n s) = p s := by
  unfold mirrorApplied
  split
  · exact foldl_proj p (fun t e => hp _ _ e t) _ _
  · rfl

@[simp] theorem drainMirror_rot (n : Nat) (s : State) : (drainMirror n s).rot =
    { s.rot with fifo := s.rot.fifo.drop n
                 hold := s.rot.hold && decide (2048 < (s.rot.fifo.drop n).length) } := by
  rw [drainMirror_eq, mirrorApplied_proj State.rot fun _ _ _ _ => rfl]

@[simp] theorem drainMirror_vrc (n : Nat) (s : State) : (drainMirror n s).vrc = s.vrc :=
  mirrorApplied_proj State.vrc (fun _ _ _ _ => rfl) n s

@[simp] theorem drainMirror_mod (n : Nat) (s : State) : (drainMirror n s).mod = s.mod :=
  mirrorApplied_proj State.mod (fun _ _ _ _ => rfl) n s

/-- The copy of pages reaches memory and the bandwidth counts only (R88, R434). -/
theorem copyPages_kept (ps : List Nat) (s : State) :
    (copyPages ps s).rot = s.rot ∧ (copyPages ps s).vrc = s.vrc ∧ (copyPages ps s).mod = s.mod := by
  unfold copyPages
  split <;> exact ⟨rfl, rfl, rfl⟩

/-! ### The lane becomes WEDGED (R89) -/

theorem becomeWedged_wedged (s : State) :
    (becomeWedged s).rot.wPhase = 5 ∧ laneState (becomeWedged s) s.rot.wLane = .wedged ∧
      Asserted 52 (becomeWedged s).ints ∧ (becomeWedged s).vrc.mode = s.vrc.mode := by
  refine ⟨?_, ?_, raise_asserted _ _ (by decide), ?_⟩ <;> simp [becomeWedged, laneState]

end Sys2Proof.Machine
end

section
/-! PROOFS. O6 and O7: the bisque period, a lane overdue for its bisque, and the swap (R77, R79, R80, R96, R104). -/

namespace Sys2Proof.Machine

open Sys2Proof

theorem exec_rotationTimerExpiry_run {s : State} (dt : Nat) (hrun : isRun s = true) :
    exec (.rotationTimerExpiry dt) s = .next (rotationExpire (advance dt s)) := by
  change execRotationTimerExpiry dt s = _
  simp only [execRotationTimerExpiry, isRun_advance, hrun, if_true]

theorem rotationExpire_pend {s : State} (hrun : isRun s = true) :
    (rotationExpire s).rot.pend = (s.rot.pend || s.rot.en) := by
  simp only [rotationExpire, hrun, Bool.and_true]

theorem exec_bisqueOverdue_unnoted {s : State} {l : Fin 4} (hact : laneState s l = .active)
    (hnew : (s.vrc.lanes[l]).overdue = false) : exec (.bisqueOverdue l) s =
      .next (record 1 0x1019 l.val ((s.vrc.lanes[l]).bisqueAt % 2 ^ 32) ((s.vrc.lanes[l]).bisqueAt / 2 ^ 32)
        (setLane l (fun y => { y with overdue := true }) s)) :=
  if_pos ⟨hact, hnew⟩

theorem exec_bisqueOverdue_noted {s : State} {l : Fin 4} (hnoted : (s.vrc.lanes[l]).overdue = true) :
    exec (.bisqueOverdue l) s = .next s :=
  if_neg fun ⟨_, hnew⟩ => Bool.noConfusion (hnoted.symm.trans hnew)

/-- Settles O6: the expiry is `rotationExpire` after the time that passed, and an overdue lane is marked and recorded
where it is not yet marked. -/
theorem rotationTimerAndOverdue : Obligations.RotationTimerAndOverdue := by
  unfold Obligations.RotationTimerAndOverdue
  refine ⟨fun s dt hrun => ?_, fun s l hact hnew => ?_, fun s l hnoted => exec_bisqueOverdue_noted hnoted⟩
  · exact ⟨_, exec_rotationTimerExpiry_run dt hrun, rfl, rotationExpire_pend (by rw [isRun_advance, hrun]), rfl,
      advance_vrc dt s, advance_mod dt s⟩
  · refine ⟨_, exec_bisqueOverdue_unnoted hact hnew, ?_, fun j hj => ?_, ?_⟩
    · simp
    · rw [record_vrc]
      exact vmod_other _ _ _ _ hj
    · rw [record_recd, setLane_recd]

/-! ### The swap -/

/-- The state a swap leaves: the joining lane has joined, the outgoing lane starts its bisque, the bisque period starts
again, and the swap is counted and recorded (R77, R99). -/
def swapNoted (x : Fin 4) (r : Rewedge) (s : State) : State :=
  let s1 := rotationRestart (startBisque x (joinLane r s))
  raise 48 (record 1 0x1010 x.val r.joining.val r.gate.val
    { s1 with rot := { s1.rot with swaps := inc32 s1.rot.swaps } })

theorem exec_bisqueSwap_done {s : State} {dt : Nat} {r : Rewedge} {x : Fin 4} (hr : (advance dt s).rot.rewedge = some r)
    (hout : r.out = some x) (hdone : r.done = true) :
    exec (.bisqueSwap dt) s = .next (swapNoted x r (advance dt s)) := by
  change execBisqueSwap dt s = _
  simp only [execBisqueSwap, hr, hout, hdone]
  rfl

/-- Of the lanes, a swap changes the joining and the outgoing lane only. -/
theorem swapNoted_vrc_lanes (x : Fin 4) (r : Rewedge) (s : State) : (swapNoted x r s).vrc.lanes =
    vmod (vmod s.vrc.lanes r.joining (Lane.joined r.gate (s.vrc.actSeq + 1))) x Lane.outgoing := by
  simp [swapNoted]

theorem swapNoted_vrc_mode (x : Fin 4) (r : Rewedge) (s : State) : (swapNoted x r s).vrc.mode = s.vrc.mode := by
  simp [swapNoted]

theorem swapNoted_mod (x : Fin 4) (r : Rewedge) (s : State) : (swapNoted x r s).mod = s.mod := by
  simp [swapNoted]

theorem swapNoted_rot (x : Fin 4) (r : Rewedge) (s : State) :
    (swapNoted x r s).rot.bLane = x ∧ (swapNoted x r s).rot.bStep = 1 ∧ (swapNoted x r s).rot.rewedge = none ∧
      (swapNoted x r s).rot.pend = false ∧ (swapNoted x r s).rot.due = (swapNoted x r s).rot.period ∧
      (swapNoted x r s).rot.swaps = inc32 s.rot.swaps := by
  simp [swapNoted]

theorem swapNoted_asserted (x : Fin 4) (r : Rewedge) (s : State) : Asserted 48 (swapNoted x r s).ints :=
  raise_asserted _ _ (by decide)

/-- Settles O7: what the swap leaves is `swapNoted`; its lanes are those of `swapNoted_vrc_lanes`, its rotation
controller that of `swapNoted_rot`. -/
theorem swapHandsOverTheGateSet : Obligations.SwapHandsOverTheGateSet := by
  unfold Obligations.SwapHandsOverTheGateSet
  intro s dt r x hr hout hdone hne
  have hlanes := swapNoted_vrc_lanes x r (advance dt s)
  rw [advance_vrc] at hlanes
  have hjoin : (swapNoted x r (advance dt s)).vrc.lanes[r.joining] =
      Lane.joined r.gate (s.vrc.actSeq + 1) s.vrc.lanes[r.joining] := by
    rw [hlanes, vmod_other _ _ _ _ hne.symm, vmod_self]
  obtain ⟨y, hleave⟩ : ∃ y, (swapNoted x r (advance dt s)).vrc.lanes[x] = Lane.outgoing y :=
    ⟨_, by rw [hlanes, vmod_self]⟩
  obtain ⟨hlane, hstep, hrewedge, hpend, hdue, hswaps⟩ := swapNoted_rot x r (advance dt s)
  refine ⟨_, exec_bisqueSwap_done hr hout hdone, ?_⟩
  simp only [laneState, hjoin, hleave, swapNoted_vrc_mode, swapNoted_mod, advance_vrc, advance_mod]
  refine ⟨rfl, rfl, rfl, rfl, rfl, rfl, fun j hjx hjj => ?_, hlane, hstep, hrewedge, hpend, hdue, hswaps,
    swapNoted_asserted x r _, trivial, trivial⟩
  rw [hlanes, vmod_other _ _ _ _ hjx, vmod_other _ _ _ _ hjj]

end Sys2Proof.Machine
end

section
/-! PROOFS. O9 and O10: the load of the joining lane, and the end of each bisque step (R80, R81, R91-R93). -/

namespace Sys2Proof.Machine

open Sys2Proof

theorem activeLanes_advance (dt : Nat) (s : State) : activeLanes (advance dt s) = activeLanes s :=
  lanesIn_advance dt s _

/-- With agreeing state records and a record that reads back, the rewedge in progress loads the joining lane; comparing
the records draws one free value (log 3). -/
theorem exec_rewedge_loads {s : State} {dt : Nat} {r : Rewedge} {b : Beat} (hr : (advance dt s).rot.rewedge = some r)
    (hdone : r.done = false) (hvote : recordVote (advance dt s) = .forward b) : exec (.rewedge dt true) s =
      .next (rewedgeLoad r { advance dt s with drawn := (advance dt s).drawn + 1 }) := by
  change execRewedge dt true s = _
  simp [execRewedge, hr, hdone, hvote, freeGroups, mirrorDisagree]

theorem exec_rewedge_none {s : State} {dt : Nat} (ok : Bool) (hr : (advance dt s).rot.rewedge = none) :
    exec (.rewedge dt ok) s = .next (advance dt s) := by
  change execRewedge dt ok s = _
  simp only [execRewedge, hr]

/-- Settles O9: both cores of the joining lane take the record of the lowest ACTIVE lane (`loadRecord_regsPc`), and the
invalidation that follows keeps registers and pc (`rewedgeLoad_regsPc`). -/
theorem rewedgeLoadsTheJoiningLane : Obligations.RewedgeLoadsTheJoiningLane := by
  unfold Obligations.RewedgeLoadsTheJoiningLane
  refine ⟨fun s dt r a ls b hr hdone hact _ hvote => ?_, fun s dt ok hr => exec_rewedge_none ok hr⟩
  have hdrawn : activeLanes { advance dt s with drawn := (advance dt s).drawn + 1 } = a :: ls :=
    (activeLanes_advance dt s).trans hact
  obtain ⟨hp, hs⟩ := loadRecord_regsPc hdrawn r.joining
  rw [← rewedgeLoad_regsPc] at hp hs
  exact ⟨_, exec_rewedge_loads hr hdone hvote, rewedgeLoad_rewedge r _, congrArg Prod.fst hp, congrArg Prod.fst hs,
    congrArg Prod.snd hp, fun o ho => rewedgeLoad_out_fenced ho _⟩

/-! ### The bisque steps -/

theorem exec_bisqueStepComplete_pass {s : State} {dt : Nat} (h : (advance dt s).rot.bStep ≠ 0) :
    exec (.bisqueStepComplete dt .pass) s = .next (bisqueStepPasses (advance dt s)) :=
  if_neg h

/-- An overrun is a failure of the step, and a failed step 4 takes the lane to QUARANTINE (R80, R81). -/
theorem exec_bisqueStepOverrun_step4 {s : State} {dt : Nat} (h : (advance dt s).rot.bStep = 4) :
    exec (.bisqueStepOverrun dt) s =
      .next (toQuarantine (advance dt s).rot.bLane 0x1013 (bisqueFail 4 0 (advance dt s))) := by
  change execBisqueStepOverrun dt s = _
  simp [execBisqueStepOverrun, bisqueStepFails, h]

/-- Settles O10: a pass before step 6 starts the next step (`bisqueStepPasses_next`), a pass of step 6 makes the lane
SPARE (`bisquePasses_spare`), and an overrun of step 4 is a failed bisque and an entry into quarantine. -/
theorem bisqueStepsPassAndFail : Obligations.BisqueStepsPassAndFail := by
  unfold Obligations.BisqueStepsPassAndFail
  refine ⟨fun s dt hlo hhi hsame => ?_, fun s dt hlast => ?_, fun s dt hstep => ?_⟩
  · obtain ⟨-, -, hmod, hmode⟩ := stepEffect_kept (advance dt s)
    refine ⟨_, exec_bisqueStepComplete_pass (by omega), ?_⟩
    rw [bisqueStepPasses_next (by omega)]
    exact ⟨congrArg (· + 1) hsame, rfl, hmod.trans (advance_mod dt s), hmode.trans (by rw [advance_vrc])⟩
  · obtain ⟨hspare, hstale, hat, hmem⟩ := bisquePasses_spare (advance dt s)
    obtain ⟨hstep, hresult⟩ := bisquePasses_rot (advance dt s)
    refine ⟨_, exec_bisqueStepComplete_pass (by omega), ?_⟩
    rw [bisqueStepPasses_last hlast]
    exact ⟨hstep, hresult, hspare, hstale, hat, hmem, bisquePasses_asserted _⟩
  · obtain ⟨-, -, -, -, -, -, hstate, hfenced, -, -⟩ :=
      toQ_facts (advance dt s).rot.bLane 0x1013 (bisqueFail 4 0 (advance dt s))
    refine ⟨_, exec_bisqueStepOverrun_step4 hstep, ?_, ?_, ?_, hstate, hfenced⟩ <;>
      rw [toQuarantine_rot, bisqueFail_rot]

end Sys2Proof.Machine
end

section
/-! PROOFS. O11 and O12: wedging, from the first waiting lane to the WEDGED lane (R82, R85, R88, R89). -/

namespace Sys2Proof.Machine

open Sys2Proof

/-- The state in which a waiting lane starts wedging, the others waiting on (R82). -/
def wedgingStarted (l : Fin 4) (rest : List (Fin 4)) (s : State) : State :=
  let s1 := setLane l (fun x => { x with state := .wedging }) s
  { s1 with rot := { s1.rot with
      waiting := rest, wLane := l, wPhase := if (s.vrc.lanes[l]).stale then 1 else 2, wRecopy := 0, wCopy := 0
      wStart := s1.recd.optime * 500000 + s1.recd.subMs, wDiffer := [] } }

theorem exec_wedgingStart_waiting {s : State} {l : Fin 4} {q : List (Fin 4)} (hq : s.rot.waiting = l :: q)
    (hmode : s.vrc.mode = .oo3 ∨ s.vrc.mode = .oo2) (hspare : spareLane s = none) :
    exec .wedgingStart s = .next (wedgingStarted l q s) := by
  change execWedgingStart s = _
  simp only [execWedgingStart, hq]
  exact if_pos ⟨hmode, hspare⟩

theorem exec_wedgingStart_idle {s : State} (hq : s.rot.waiting = []) : exec .wedgingStart s = .next s := by
  change execWedgingStart s = _
  simp only [execWedgingStart, hq]

/-- The state after zero fill (R82). -/
def zeroFilled (s : State) : State :=
  let l := s.rot.wLane
  let s1 := setLane l (fun x => { x with stale := false }) s
  { s1 with mems := s1.mems.set (coreP l).val [] (coreP l).isLt, rot := { s1.rot with wPhase := 2, wCopy := 0 } }

theorem exec_zeroFillDone_filling {s : State} {dt : Nat} (h : (advance dt s).rot.wPhase = 1) :
    exec (.zeroFillDone dt) s = .next (zeroFilled (advance dt s)) :=
  if_pos h

/-- The fill falls to 2,048 entries, and the entries above it are counted as time of the hold (R85). -/
def holdReleased (s : State) : State :=
  drainMirror (s.rot.fifo.length - 2048)
    { s with rot := { s.rot with holdCounts := s.rot.holdCounts + (s.rot.fifo.length - 2048) } }

theorem exec_mirrorHoldRelease_held {s : State} {dt : Nat} (h : (advance dt s).rot.hold = true) :
    exec (.mirrorHoldRelease dt) s = .next (holdReleased (advance dt s)) :=
  if_pos h

theorem holdReleased_length {s : State} (h : 2048 ≤ s.rot.fifo.length) : (holdReleased s).rot.fifo.length = 2048 := by
  simp only [holdReleased, drainMirror_rot, List.length_drop]
  omega

/-- With 2,048 entries or fewer left the hold is over. -/
theorem holdReleased_hold (s : State) : (holdReleased s).rot.hold = false := by
  have hleft : ¬ 2048 < s.rot.fifo.length - (s.rot.fifo.length - 2048) := by omega
  simp only [holdReleased, drainMirror_rot, List.length_drop, decide_eq_false hleft, Bool.and_false]

/-- Settles O11: the start of wedging, the end of zero fill and the release of the hold each leave one named state. -/
theorem wedgingStartsWithTheFirstWaitingLane : Obligations.WedgingStartsWithTheFirstWaitingLane := by
  unfold Obligations.WedgingStartsWithTheFirstWaitingLane
  refine ⟨fun s l q hq hmode hspare => ?_, fun s hq => exec_wedgingStart_idle hq, fun s dt hphase => ?_,
    fun s dt hhold hfill => ?_⟩
  · exact ⟨_, exec_wedgingStart_waiting hq hmode hspare, by simp [wedgingStarted, laneState], rfl, rfl, rfl,
      fun j hj => vmod_other _ _ _ _ hj⟩
  · exact ⟨_, exec_zeroFillDone_filling hphase, rfl, by simp [zeroFilled], by simp [zeroFilled]⟩
  · exact ⟨_, exec_mirrorHoldRelease_held hhold, holdReleased_length hfill, holdReleased_hold _⟩

/-! ### The catch-up copy and the checksum round -/

/-- Where the copied pages agree, the FIFO drains, every marked page is copied, and the checksum round begins (R88). -/
theorem exec_catchUpCopyDone_agree {s : State} {dt : Nat} (h : (advance dt s).rot.wPhase = 2) :
    exec (.catchUpCopyDone dt .agree) s =
      let u := copyPages (advance dt s).rot.pages (drainMirror (advance dt s).rot.fifo.length (advance dt s))
      .next { u with rot := { u.rot with wPhase := 3, wCopy := 0 } } := by
  change execCatchUpCopyDone dt .agree s = _
  simp only [execCatchUpCopyDone, pageDisagree, h, if_true]

/-- The state that the checksum round has left when it ends: the octets of the pages compared are counted (R434). -/
def roundCounted (s : State) : State :=
  let n := if s.rot.wPhase = 3 then s.rot.pages.length else s.rot.wDiffer.length
  let s1 := bwCount 2 (65536 * n) s
  { s1 with rot := { s1.rot with wCopy := s1.rot.pages.length } }

theorem exec_checksumRoundDone_clean {s : State} {dt : Nat}
    (h : (advance dt s).rot.wPhase = 3 ∨ (advance dt s).rot.wPhase = 4) :
    exec (.checksumRoundDone dt .agree []) s = .next (becomeWedged (roundCounted (advance dt s))) := by
  change execChecksumRoundDone dt .agree [] s = _
  simp only [execChecksumRoundDone, pageDisagree, bwCount_rot, if_pos h, if_true]
  rfl

/-- Settles O12: draining and copying touch neither the vote nor the module state (`drainMirror_rot`,
`copyPages_kept`), and a clean round ends in `becomeWedged`. -/
theorem catchUpCopyAndChecksumWedgeTheLane : Obligations.CatchUpCopyAndChecksumWedgeTheLane := by
  unfold Obligations.CatchUpCopyAndChecksumWedgeTheLane
  refine ⟨fun s dt hphase => ?_, fun s dt hphase => ?_⟩
  · obtain ⟨hrot, hvrc, hmod⟩ := copyPages_kept (advance dt s).rot.pages
      (drainMirror (advance dt s).rot.fifo.length (advance dt s))
    refine ⟨_, exec_catchUpCopyDone_agree hphase, rfl, ?_, ?_, ?_⟩
    · simp [hrot]
    · simp [hvrc]
    · simp [hmod]
  · obtain ⟨hfive, hwedged, hint, hmode⟩ := becomeWedged_wedged (roundCounted (advance dt s))
    exact ⟨_, exec_checksumRoundDone_clean hphase, hfive, hwedged, hint, hmode.trans (by simp [roundCounted])⟩

end Sys2Proof.Machine
end

section
/-! PROOFS. Instructions that every running core completes on its own: from the act in one core to the command
(R105). -/

namespace Sys2Proof.Machine

open Sys2Proof

/-! ### From the act to the command -/

/-- Every running core is done with an instruction that leaves CW_STATUS: no exception of a task is taken, and the
command has only that effect, with or without a task. -/
theorem completes_of_done {i : Instr} {core : Fin 8} {s : State} {act : State → Fin 8 → Act} (he : Executes core s)
    (hu : Untrapped s) (hx : exec i s = .next (runTask core act s))
    (hdone : ∀ k ∈ execCores core s, ∃ e, act (fetchAll (execCores core s) s) k = .done e ∧
      e.word 0 = (s.cores[k]).word 0) :
    ∃ t, exec i s = .next t ∧ CoresOnly s t ∧ ∀ k ∈ execCores core s, ∀ e,
      act (fetchAll (execCores core s) s) k = .done e → t.cores[k] = e.stepped := by
  have : Nonempty Core := ⟨s.cores[core]⟩
  choose! g hg hstatus using hdone
  obtain ⟨honly, hget⟩ := runTask_done core act s he hu g hg fun k hk => exl_congr (hstatus k hk)
  refine ⟨_, hx, honly, fun k hk e hke => ?_⟩
  rw [hget k hk, Act.done.inj ((hg k hk).symm.trans hke)]

/-- With no task running, an instruction that every running core is done with has only that effect, whatever becomes
of CW_STATUS. -/
theorem completes_idle {i : Instr} {core : Fin 8} {s : State} {act : State → Fin 8 → Act} (he : Executes core s)
    (hu : s.cys.current = none) (hx : exec i s = .next (runTask core act s))
    (hdone : ∀ k ∈ execCores core s, ∃ e, act (fetchAll (execCores core s) s) k = .done e) :
    ∃ t, exec i s = .next t ∧ CoresOnly s t ∧ ∀ k ∈ execCores core s, ∀ e,
      act (fetchAll (execCores core s) s) k = .done e → t.cores[k] = e.stepped := by
  have : Nonempty Core := ⟨s.cores[core]⟩
  choose! g hg using hdone
  obtain ⟨honly, hget, -⟩ := runInstr_flat core act s he (fun k => .done (g k)) hg (fun _ _ => trivial) (fun _ _ => rfl)
  have hrun : runTask core act s = runInstr core act s := appFault_none _ (by rw [honly]; exact hu)
  refine ⟨_, hx, by rw [hrun]; exact honly, fun k hk e hke => ?_⟩
  rw [hrun, hget k hk, ← Act.done.inj ((hg k hk).symm.trans hke)]
  rfl

/-! ### What a fetch keeps of a core -/

@[simp] theorem fetched_getF (c : Core) (m : List Host.Cell) (i : Fin 32) : (c.fetched m).getF i = c.getF i := by
  simp [Core.getF]

@[simp] theorem fetched_exec (c : Core) (m : List Host.Cell) : (c.fetched m).exec = c.exec := by simp [Core.exec]

@[simp] theorem fetched_dzt (c : Core) (m : List Host.Cell) : (c.fetched m).dzt = c.dzt := by simp [Core.dzt]

end Sys2Proof.Machine
end

section
/-! PROOFS. O13 and O14: the instructions that write a general register, and integer division (R105, R114-R116). -/

namespace Sys2Proof.Machine

open Sys2Proof

theorem shiftAct_legal (op : ShiftOp) {w : Bool} (d a : Fin 32) {n : BitVec 6} (h : w = true → n.getLsbD 5 = false) :
    shiftAct op w d a n = toX d (fun c => shiftOp op w (c.getX a) n.toNat) := by
  refine if_neg ?_
  rw [Bool.and_eq_true]
  rintro ⟨hw, hn⟩
  exact Bool.false_ne_true ((h hw).symm.trans hn)

/-- Settles O13: each instruction's act is `toX` of its operation, and a fetch changes no operand (`takes_of`). -/
theorem registerInstructionsWriteXd : Obligations.RegisterInstructionsWriteXd := by
  unfold Obligations.RegisterInstructionsWriteXd
  intro core s he hu
  refine ⟨fun op d a b => ?_, fun op d a b => ?_, fun op d a b => ?_, fun op d a b => ?_, fun op d a imm => ?_,
    fun op w d a n hn => ?_, fun d imm => ?_, fun d h imm => ?_, fun d imm => ?_⟩
  · exact takes_of _ core s d _ _ (aluAct op d a b) he hu rfl rfl fun c m => by simp only [fetched_getX]
  · exact takes_of _ core s d _ _ (aluwAct op d a b) he hu rfl rfl fun c m => by simp only [fetched_getX]
  · exact takes_of _ core s d _ _ (mulAct op d a b) he hu rfl rfl fun c m => by simp only [fetched_getX]
  · exact takes_of _ core s d _ _ (bitAct op d a b) he hu rfl rfl fun c m => by simp only [fetched_getX]
  · exact takes_of _ core s d _ _ (immAct op d a imm) he hu rfl rfl fun c m => by simp only [fetched_getX]
  · exact takes_of _ core s d _ _ (shiftAct op w d a n) he hu rfl (shiftAct_legal op d a hn) fun c m => by
      simp only [fetched_getX]
  · exact takes_of _ core s d _ _ (luiAct d imm) he hu rfl rfl fun _ _ => rfl
  · exact takes_of _ core s d _ _ (inshAct d h imm) he hu rfl rfl fun c m => by simp only [fetched_getX]
  · exact takes_of _ core s d _ _ (lapcAct d imm) he hu rfl rfl fun c m => by rw [fetched_pc]; rfl

/-! ### Division in one core (R116) -/

theorem divAct_done {op : DivOp} {d a b : Fin 32} {s : State} {k : Fin 8}
    (h : divZero op ((s.cores[k]).getX b) = false ∨ (s.cores[k]).dzt = false) :
    divAct op d a b s k = .done (((s.cores[k]).event 0x13 (divClocks op)).setX d
      (divOp op ((s.cores[k]).getX a) ((s.cores[k]).getX b))).retire := by
  refine if_neg ?_
  rw [Bool.and_eq_true, not_and_or, Bool.not_eq_true, Bool.not_eq_true]
  exact h

theorem divAct_traps {op : DivOp} {d a b : Fin 32} {s : State} {k : Fin 8}
    (h : divZero op ((s.cores[k]).getX b) = true ∧ (s.cores[k]).dzt = true) :
    divAct op d a b s k = .trap 14 0 none := by
  obtain ⟨hz, ht⟩ := h
  exact if_pos (by rw [hz, ht]; rfl)

/-- A division that raises nothing writes its result, and neither CW_STATUS nor CW_FPCSR. -/
theorem divide_completes {core : Fin 8} {s : State} {op : DivOp} (d : Fin 32) {a b : Fin 32} (he : Executes core s)
    (hu : Untrapped s)
    (hz : ∀ k ∈ execCores core s, divZero op ((s.cores[k]).getX b) = false ∨ (s.cores[k]).dzt = false) :
    ∃ t, exec (.divide core op d a b) s = .next t ∧ CoresOnly s t ∧ ∀ k ∈ execCores core s,
      ((t.cores[k]).x = ((s.cores[k]).setX d (divOp op ((s.cores[k]).getX a) ((s.cores[k]).getX b))).x ∧
        (t.cores[k]).f = (s.cores[k]).f ∧ (t.cores[k]).pc = (s.cores[k]).pc + 4) ∧
      (t.cores[k]).word 8 = (s.cores[k]).word 8 ∧ (t.cores[k]).word 0 = (s.cores[k]).word 0 := by
  have hact : ∀ k ∈ execCores core s, divAct op d a b (fetchAll (execCores core s) s) k =
      .done ((((s.cores[k]).fetched s.mems[k]).event 0x13 (divClocks op)).setX d
        (divOp op ((s.cores[k]).getX a) ((s.cores[k]).getX b))).retire := by
    intro k hk
    have hf := fetchAll_at hk
    rw [divAct_done (by rw [hf]; simpa using hz k hk), hf, fetched_getX, fetched_getX]
  obtain ⟨t, ht, honly, hget⟩ := completes_of_done (i := .divide core op d a b) he hu rfl
    fun k hk => ⟨_, hact k hk, by simp⟩
  refine ⟨t, ht, honly, fun k hk => ?_⟩
  rw [hget k hk _ (hact k hk)]
  refine ⟨⟨?_, by simp, by simp⟩, by simp, by simp⟩
  rw [stepped_x, retire_x]
  exact setX_x_congr _ _ (by simp) d _

/-! ### The results of R116 -/

theorem divOp_by_zero (x : Reg64) : divOp .div x 0 = BitVec.allOnes 64 ∧ divOp .divu x 0 = BitVec.allOnes 64 ∧
    divOp .rem x 0 = x ∧ divOp .remu x 0 = x :=
  ⟨rfl, rfl, rfl, rfl⟩

theorem divOp_word_by_zero (x : Reg64) {y : Reg64} (h : lowW y = 0) :
    divOp .divw x y = BitVec.allOnes 64 ∧ divOp .divuw x y = BitVec.allOnes 64 ∧
      divOp .remw x y = sextW (lowW x) ∧ divOp .remuw x y = sextW (lowW x) := by
  simp only [divOp, h]
  have hones : sextW (BitVec.allOnes 32) = BitVec.allOnes 64 := by decide
  exact ⟨hones, hones, rfl, rfl⟩

theorem divOp_word_overflow {x y : Reg64} (hx : lowW x = BitVec.intMin 32) (hy : lowW y = BitVec.allOnes 32) :
    divOp .divw x y = (BitVec.intMin 32).signExtend 64 ∧ divOp .remw x y = 0 := by
  simp only [divOp, hx, hy]
  decide

/-- Position and length of the field of EXTU and EXTS: bits [5:0] and [13:8] of b, the length cut at 64 - p. -/
def extBounds (y : Reg64) : Nat × Nat := (y.toNat % 64, min (y.toNat / 256 % 64) (64 - y.toNat % 64))

theorem extField_empty (sign : Bool) (x : Reg64) {y : Reg64} (h : y.toNat / 256 % 64 = 0) : extField sign x y = 0 := by
  simp [extField, h]

/-- The bits of a field that is not empty: those of x from the position up, then the sign bit or 0. -/
theorem extField_getLsbD (sign : Bool) (x y : Reg64) (h : 0 < (extBounds y).2) {j : Nat} (hj : j < 64) :
    (extField sign x y).getLsbD j = if j < (extBounds y).2 then x.getLsbD ((extBounds y).1 + j)
      else sign && x.getLsbD ((extBounds y).1 + (extBounds y).2 - 1) := by
  have hfield : extField sign x y =
      if sign && x.getLsbD ((extBounds y).1 + (extBounds y).2 - 1) then
        BitVec.ofNat 64 ((x >>> (extBounds y).1).toNat % 2 ^ (extBounds y).2) |||
          (BitVec.allOnes 64 <<< (extBounds y).2)
      else BitVec.ofNat 64 ((x >>> (extBounds y).1).toNat % 2 ^ (extBounds y).2) :=
    if_neg (Nat.ne_of_gt h)
  generalize (extBounds y).1 = p at *
  generalize (extBounds y).2 = n at *
  have hlow : (BitVec.ofNat 64 ((x >>> p).toNat % 2 ^ n)).getLsbD j = (decide (j < n) && x.getLsbD (p + j)) := by
    rw [BitVec.getLsbD_ofNat, Nat.testBit_mod_two_pow, decide_eq_true hj, Bool.true_and, BitVec.testBit_toNat,
      BitVec.getLsbD_ushiftRight]
  have hhigh : (BitVec.allOnes 64 <<< n).getLsbD j = !decide (j < n) := by
    have hjn : j - n < 64 := by omega
    rw [BitVec.getLsbD_shiftLeft, BitVec.getLsbD_allOnes, decide_eq_true hj, decide_eq_true hjn, Bool.true_and,
      Bool.and_true]
  rw [hfield]
  split
  case isTrue hsign =>
    rw [BitVec.getLsbD_or, hlow, hhigh, hsign]
    by_cases hn : j < n <;> simp [hn]
  case isFalse hsign =>
    rw [hlow, Bool.eq_false_iff.2 hsign]
    by_cases hn : j < n <;> simp [hn]

theorem aluOp_shift_zero (x : Reg64) {y : Reg64} {op : AluOp} (hop : op = .sll ∨ op = .srl ∨ op = .sra ∨ op = .ror)
    (h : y.toNat % 64 = 0) : aluOp op x y = x := by
  rcases hop with rfl | rfl | rfl | rfl <;> simp [aluOp, h, BitVec.rotateRight, BitVec.rotateRightAux]

theorem aluwOp_shift_zero (x : Reg64) {y : Reg64} {op : AluwOp}
    (hop : op = .sllw ∨ op = .srlw ∨ op = .sraw ∨ op = .rorw) (h : y.toNat % 32 = 0) :
    aluwOp op x y = sextW (lowW x) := by
  rcases hop with rfl | rfl | rfl | rfl <;> simp [aluwOp, h, BitVec.rotateRight, BitVec.rotateRightAux]

theorem shiftOp_zero (x : Reg64) (op : ShiftOp) : shiftOp op false x 0 = x ∧ shiftOp op true x 0 = sextW (lowW x) := by
  cases op <;> simp [shiftOp, BitVec.rotateRight, BitVec.rotateRightAux]

/-- Settles O14: a division completes (`divide_completes`) or traps (`divAct_traps`), and the results are those of the
lemmas above. -/
theorem integerDivisionIsDefined : Obligations.IntegerDivisionIsDefined := by
  unfold Obligations.IntegerDivisionIsDefined
  refine ⟨fun core s op d a b he hu hz => ?_, divOp_by_zero, fun x y h => divOp_word_by_zero x h,
    fun core s op d a b he hu hc hz => ?_, by decide, fun x y hx hy => divOp_word_overflow hx hy,
    fun x y h => ⟨extField_empty false x h, extField_empty true x h⟩, fun x y h => ?_,
    fun x y op hop h => aluOp_shift_zero x hop h, fun x y op hop h => aluwOp_shift_zero x hop h, shiftOp_zero⟩
  · obtain ⟨t, ht, honly, hcore⟩ := divide_completes d (a := a) he hu hz
    exact ⟨⟨t, ht, honly, fun k hk => (hcore k hk).1⟩, t, ht, fun k hk => (hcore k hk).2⟩
  · refine traps_of _ core s 14 0 _ (divAct op d a b) he hu hc rfl fun k hk => divAct_traps ?_
    rw [fetchAll_at hk]
    simpa using hz k hk
  · have hp : (extBounds y).1 = y.toNat % 64 := rfl
    have hn : (extBounds y).2 =
        if 64 < y.toNat % 64 + y.toNat / 256 % 64 then 64 - y.toNat % 64 else y.toNat / 256 % 64 := by
      unfold extBounds
      split <;> omega
    dsimp only
    rw [← hn, ← hp]
    intro j hj
    have hpos : 0 < (extBounds y).2 := by
      rw [hn]
      split <;> omega
    refine ⟨(extField_getLsbD false x y hpos hj).trans ?_, (extField_getLsbD true x y hpos hj).trans ?_⟩
    · split <;> rename_i h <;> simp [h]
    · rw [Bool.true_and]

end Sys2Proof.Machine
end

section
/-! PROOFS. O18: control flow, the control words, ERET, WFI and the caches (R108, R110, R115, R122, R127, R132,
R133). -/

namespace Sys2Proof.Machine

open Sys2Proof

/-! ### The acts in one core -/

theorem branchAct_done (q : Cond) (d a : Fin 32) (off : BitVec 16) (s : State) (k : Fin 8) :
    branchAct q d a off s k = .done (if condHolds q ((s.cores[k]).getX d) ((s.cores[k]).getX a)
      then ((s.cores[k]).event 0x0C 1).retireAt ((s.cores[k]).pc + off.signExtend 64 * 4) else (s.cores[k]).retire) :=
  (apply_ite Act.done _ _ _).symm

theorem jlrAct_done {d a : Fin 32} {imm : BitVec 16} {s : State} {k : Fin 8}
    (h : ((s.cores[k]).getX a + imm.signExtend 64).toNat % 4 = 0) :
    jlrAct d a imm s k = .done ((((s.cores[k]).setX d ((s.cores[k]).pc + 4)).event 0x0C 1).retireAt
      ((s.cores[k]).getX a + imm.signExtend 64)) :=
  if_neg (not_not.2 h)

/-- CWR of a word open at every level whose value is as stored: CW_FPCSR, CW_TPTR and CW_CYCLES (R110). -/
theorem cwrAct_open (d : Fin 32) {n : BitVec 16} (h : n = 8 ∨ n = 9 ∨ n = 10) :
    cwrAct d n = toX d (fun c => c.word n.toNat) := by
  funext s k
  rcases h with rfl | rfl | rfl <;> simp [cwrAct, toX, wordTrap, wordExists, wordReadable, Core.readWord]

/-- CW_SCRATCH0 and CW_TPTR are written whole (R110). -/
theorem writeWord_whole {n : Nat} (h : n = 6 ∨ n = 9) (c : Core) (v : Reg64) : c.writeWord n v = c.setWord n v := by
  have hmask : wordMask n = BitVec.allOnes 64 := by rcases h with rfl | rfl <;> rfl
  unfold Core.writeWord
  rw [if_neg (by omega), hmask, BitVec.and_allOnes]
  exact if_neg fun h8 => by omega

/-- CWS and CWC of CW_TPTR, which is open at every level (R110, R115). -/
theorem cwModAct_tptr (clear : Bool) (d a : Fin 32) (s : State) (k : Fin 8) :
    cwModAct clear d a 9 s k = .done (((s.cores[k]).setX d ((s.cores[k]).word 9)).setWord 9
      (if clear then (s.cores[k]).word 9 &&& ~~~((s.cores[k]).getX a)
        else (s.cores[k]).word 9 ||| (s.cores[k]).getX a)).retire := by
  unfold cwModAct
  generalize s.cores[k] = c
  simp [wordTrap, wordExists, wordWritable, wordWrite, writeWord_whole, Core.readWord]

/-- CWW of CW_SCRATCH0, which Executive writes whole (R110). -/
theorem cwwAct_scratch (a : Fin 32) {s : State} {k : Fin 8} (h : (s.cores[k]).exec = true) :
    cwwAct a 6 s k = .done ((s.cores[k]).setWord 6 ((s.cores[k]).getX a)).retire := by
  unfold cwwAct
  generalize s.cores[k] = c at h ⊢
  simp [wordTrap, wordExists, wordWritable, wordWrite, writeWord_whole, h]

theorem privileged_of_exec (f : State → Fin 8 → Act) {s : State} {k : Fin 8} (h : (s.cores[k]).exec = true) :
    privileged f s k = f s k :=
  if_pos h

theorem eretAct_done {s : State} {k : Fin 8} (h : (s.cores[k]).cbuf = none) :
    eretAct s k = .done (s.cores[k]).retire.eret :=
  if_neg (by rw [h]; exact Bool.false_ne_true)

/-- ERET restores PC and CW_STATUS and ends the reservation (R128, R132). -/
theorem retire_eret_fields (c : Core) : c.retire.eret.pc = c.word 2 ∧ c.retire.eret.word 0 = c.word 1 &&& 0xF ∧
    c.retire.eret.resv = none ∧ c.retire.eret.x = c.x := by
  refine ⟨?_, ?_, rfl, ?_⟩
  · change c.retire.word 2 = c.word 2
    simp
  · change (c.retire.setWord 0 (c.retire.word 1 &&& 0xF)).word 0 = c.word 1 &&& 0xF
    simp [setWord_word]
  · change (c.retire.setWord 0 (c.retire.word 1 &&& 0xF)).x = c.x
    simp

/-! ### Counters that do not count -/

/-- With LPC_CTL.GEN = 0 no event is counted (R430). -/
theorem event_of_gen_off {c : Core} (h : c.lpc.gen = false) (ev n : Nat) : c.event ev n = c :=
  if_pos (.inr h)

/-- With LPC_CTL.GEN = 0 a fetch leaves the counters and the interrupt controller. -/
theorem fetched_of_gen_off {c : Core} (h : c.lpc.gen = false) (m : List Host.Cell) :
    (c.fetched m).lpc = c.lpc ∧ (c.fetched m).lic = c.lic := by
  unfold Core.fetched
  split
  · generalize cacheTouch _ _ _ _ _ _ = r
    dsimp only
    split
    · exact ⟨rfl, rfl⟩
    · rw [event_of_gen_off]
      · exact ⟨rfl, rfl⟩
      · exact h
  · exact ⟨rfl, rfl⟩

@[simp] theorem setWord_lpc (c : Core) (n : Nat) (v : Reg64) : (c.setWord n v).lpc = c.lpc := by
  unfold Core.setWord
  split <;> rfl

@[simp] theorem setWord_lic (c : Core) (n : Nat) (v : Reg64) : (c.setWord n v).lic = c.lic := by
  unfold Core.setWord
  split <;> rfl

/-- With LPC_CTL.GEN = 0 retiring leaves the counters and the interrupt controller. -/
theorem retire_of_gen_off {c : Core} (h : c.lpc.gen = false) : c.retire.lpc = c.lpc ∧ c.retire.lic = c.lic := by
  unfold Core.retire Core.retireAt
  rw [event_of_gen_off h]
  exact ⟨setWord_lpc c _ _, setWord_lic c _ _⟩

theorem wake_of_no_winner {c : Core} (h : c.lic.winner = none) : c.wake = c :=
  if_neg (by simp [h])

/-- WFI with no source that would qualify leaves the core waiting behind the instruction (R133). -/
theorem wfiAct_waits {s : State} {k : Fin 8} (hg : (s.cores[k]).lpc.gen = false)
    (hw : (s.cores[k]).lic.winner = none) :
    wfiAct s k = .done { (s.cores[k]).retire with wfi := true } := by
  obtain ⟨-, hlic⟩ := retire_of_gen_off hg
  exact congrArg Act.done (wake_of_no_winner ((congrArg Lic.winner hlic).trans hw))

/-! ### FENCE (R127) -/

/-- The access of a barrier. -/
def barrierAccess : Access := { ty := .barrier, addr := 0 }

theorem barrierBeat_attr (tag : BitVec 6) (e : Bool) : (barrierAccess.beat tag.toNat e).attr.getLsbD 23 = true ∧
    ((barrierAccess.beat tag.toNat e).attr.extractLsb' 0 4).toNat = 3 := by
  have h : ∀ (n : Fin 64) (e : Bool), let w := attrWord 0 n.val false e 0 1 3
      w.getLsbD 23 = true ∧ (w.extractLsb' 0 4).toNat = 3 := by decide
  exact h ⟨tag.toNat, tag.isLt⟩ e

theorem fenceAct_barrier {s : State} {k : Fin 8} (hs : (s.cores[k]).sbuf = []) (hc : (s.cores[k]).cbuf = none) :
    fenceAct s k = .access barrierAccess (s.cores[k]).exec .store :=
  if_neg (by rw [hs, hc]; decide)

/-- A barrier has no effect in the fabric (R127). -/
theorem fabric_barrier (m : Option (Fin 8)) (tag : BitVec 6) (e : Bool) (s : State) :
    fabric m (barrierAccess.beat tag.toNat e) s = (.done 0, s) := by
  obtain ⟨-, hty⟩ := barrierBeat_attr tag e
  exact if_pos (by rw [hty]; decide)

/-- FENCE by cores in unison with empty buffers: the barrier passes, and the cores go on. -/
theorem fence_passes {core : Fin 8} {s : State} (he : Executes core s) (hidle : s.cys.current = none)
    (hu : Unison core s) (hc : Uncombined core s) (hs : ∀ k ∈ execCores core s, (s.cores[k]).sbuf = []) :
    ∃ t, exec (.fence core) s = .next t ∧ GoesOn core s t ∧ t.vmem = s.vmem := by
  obtain ⟨j, ks, hj⟩ := List.exists_cons_of_ne_nil he.1
  have hjm : j ∈ execCores core s := by simp [hj]
  obtain ⟨hlanes, hstream⟩ := sent_streamKept core barrierAccess s
  have hact : ∀ k ∈ execCores core s, fenceAct (fetchAll (execCores core s) s) k =
      .access barrierAccess (s.cores[j]).exec .store := by
    intro k hk
    have hf := fetchAll_at hk
    obtain ⟨-, -, -, -, -, -, -, hsbuf, -⟩ := plain_fields (fetched_plain (s.cores[k]) s.mems[k])
    rw [fenceAct_barrier (by rw [hf, hsbuf]; exact hs k hk) (by rw [hf, fetched_cbuf]; exact hc k hk), hf, fetched_exec,
      hu.2 k hk j hjm]
  obtain ⟨honly, hget⟩ := runInstr_access (x := barrierAccess) (e := (s.cores[j]).exec) he hu hact
    (fun k hk => by rw [hu.2 k hk j hjm]) (barrierBeat_attr _ _).1 (fabric_barrier _ (s.cores[j]).tag _ _) hlanes
  have hrun := CoresOnly.trans (sent_coresOnly core barrierAccess s) honly
  have htask : runTask core fenceAct s = runInstr core fenceAct s := appFault_none _ (by rw [hrun]; exact hidle)
  refine ⟨runTask core fenceAct s, rfl, fun k hk => ?_, by rw [htask, hrun]⟩
  obtain ⟨hx, hp⟩ := hstream k hk
  obtain ⟨hxa, hpa⟩ := answer_store_done (sent core barrierAccess s).cores[k] 0 0
  rw [htask, hget k hk]
  exact ⟨hxa.trans hx, hpa.trans (congrArg (· + 4) hp)⟩

/-! ### The commands, with no task running -/

/-- The fetch leaves the cores at the level at which they were. -/
theorem fetchAll_exec {core : Fin 8} {s : State} (hexec : ∀ k ∈ execCores core s, (s.cores[k]).exec = true) {k : Fin 8}
    (hk : k ∈ execCores core s) : ((fetchAll (execCores core s) s).cores[k]).exec = true := by
  rw [fetchAll_at hk, fetched_exec]
  exact hexec k hk

section
variable {core : Fin 8} {s : State} (he : Executes core s) (hidle : s.cys.current = none)
include he hidle

theorem branch_goes (q : Cond) (d a : Fin 32) (off : BitVec 16) :
    ∃ t, exec (.branch core q d a off) s = .next t ∧ CoresOnly s t ∧ ∀ k ∈ execCores core s,
      (t.cores[k]).x = (s.cores[k]).x ∧ (t.cores[k]).f = (s.cores[k]).f ∧
        (t.cores[k]).pc = (s.cores[k]).pc +
          (if condHolds q ((s.cores[k]).getX d) ((s.cores[k]).getX a) then off.signExtend 64 * 4 else 4) := by
  obtain ⟨t, ht, honly, hget⟩ := completes_idle (i := .branch core q d a off) he hidle rfl
    fun k _ => ⟨_, branchAct_done q d a off _ k⟩
  refine ⟨t, ht, honly, fun k hk => ?_⟩
  rw [hget k hk _ (branchAct_done q d a off _ k), fetchAll_at hk, fetched_getX, fetched_getX]
  split <;> simp

theorem jump_goes (link : Bool) (off : BitVec 26) :
    ∃ t, exec (.jJl core link off) s = .next t ∧ CoresOnly s t ∧ ∀ k ∈ execCores core s,
      (t.cores[k]).pc = (s.cores[k]).pc + off.signExtend 64 * 4 ∧ (t.cores[k]).f = (s.cores[k]).f ∧
        (t.cores[k]).x = (if link then (s.cores[k]).setX 1 ((s.cores[k]).pc + 4) else s.cores[k]).x := by
  obtain ⟨t, ht, honly, hget⟩ := completes_idle (i := .jJl core link off) he hidle rfl fun k _ => ⟨_, rfl⟩
  refine ⟨t, ht, honly, fun k hk => ?_⟩
  rw [hget k hk _ rfl, fetchAll_at hk]
  cases link
  · simp
  · refine ⟨by simp, by simp, ?_⟩
    rw [stepped_x, retireAt_x, event_x, fetched_pc]
    exact setX_x_congr _ _ (fetched_x _ _) 1 _

theorem jlr_goes (d : Fin 32) {a : Fin 32} {imm : BitVec 16}
    (h4 : ∀ k ∈ execCores core s, ((s.cores[k]).getX a + imm.signExtend 64).toNat % 4 = 0) :
    ∃ t, exec (.jlr core d a imm) s = .next t ∧ CoresOnly s t ∧ ∀ k ∈ execCores core s,
      (t.cores[k]).pc = (s.cores[k]).getX a + imm.signExtend 64 ∧
        (t.cores[k]).x = ((s.cores[k]).setX d ((s.cores[k]).pc + 4)).x := by
  have hact : ∀ k ∈ execCores core s, _ := fun k hk =>
    jlrAct_done (d := d) (a := a) (imm := imm) (s := fetchAll (execCores core s) s) (k := k)
      (by rw [fetchAll_at hk, fetched_getX]; exact h4 k hk)
  obtain ⟨t, ht, honly, hget⟩ := completes_idle (i := .jlr core d a imm) he hidle rfl fun k hk => ⟨_, hact k hk⟩
  refine ⟨t, ht, honly, fun k hk => ?_⟩
  rw [hget k hk _ (hact k hk), fetchAll_at hk, fetched_getX, fetched_pc]
  refine ⟨by simp, ?_⟩
  rw [stepped_x, retireAt_x, event_x]
  exact setX_x_congr _ _ (fetched_x _ _) d _

theorem fenceI_goes : ∃ t, exec (.fenceI core) s = .next t ∧ CoresOnly s t ∧ ∀ k ∈ execCores core s,
    (t.cores[k]).pc = (s.cores[k]).pc + 4 ∧ (t.cores[k]).x = (s.cores[k]).x := by
  obtain ⟨t, ht, honly, hget⟩ := completes_idle (i := .fenceI core) he hidle rfl fun k _ => ⟨_, rfl⟩
  refine ⟨t, ht, honly, fun k hk => ?_⟩
  rw [hget k hk _ rfl, fetchAll_at hk]
  simp

/-- CWS and CWC of CW_TPTR, by the command that carries the act. -/
theorem cwMod_tptr {i : Instr} (clear : Bool) (d a : Fin 32)
    (hi : exec i s = .next (runTask core (cwModAct clear d a 9) s)) :
    ∃ t, exec i s = .next t ∧ ∀ k ∈ execCores core s,
      (t.cores[k]).word 9 = (if clear then (s.cores[k]).word 9 &&& ~~~((s.cores[k]).getX a)
        else (s.cores[k]).word 9 ||| (s.cores[k]).getX a) ∧
      (t.cores[k]).x = ((s.cores[k]).setX d ((s.cores[k]).word 9)).x := by
  obtain ⟨t, ht, -, hget⟩ := completes_idle he hidle hi fun k _ => ⟨_, cwModAct_tptr clear d a _ k⟩
  refine ⟨t, ht, fun k hk => ?_⟩
  rw [hget k hk _ (cwModAct_tptr clear d a _ k), fetchAll_at hk, fetched_getX, fetched_word]
  refine ⟨by simp [setWord_word], ?_⟩
  rw [stepped_x, retire_x, setWord_x]
  exact setX_x_congr _ _ (fetched_x _ _) d _

section
variable (hexec : ∀ k ∈ execCores core s, (s.cores[k]).exec = true)
include hexec

theorem cww_scratch (a : Fin 32) : ∃ t, exec (.cww core a 6) s = .next t ∧ ∀ k ∈ execCores core s,
    (t.cores[k]).word 6 = (s.cores[k]).getX a ∧ (t.cores[k]).pc = (s.cores[k]).pc + 4 := by
  have hact : ∀ k ∈ execCores core s, _ := fun k hk => cwwAct_scratch a (fetchAll_exec hexec hk)
  obtain ⟨t, ht, -, hget⟩ := completes_idle (i := .cww core a 6) he hidle rfl fun k hk => ⟨_, hact k hk⟩
  refine ⟨t, ht, fun k hk => ?_⟩
  rw [hget k hk _ (hact k hk), fetchAll_at hk, fetched_getX]
  simp [setWord_word]

theorem eret_returns (hc : Uncombined core s) : ∃ t, exec (.eret core) s = .next t ∧ ∀ k ∈ execCores core s,
    (t.cores[k]).pc = (s.cores[k]).word 2 ∧ (t.cores[k]).word 0 = ((s.cores[k]).word 1 &&& 0xF) ∧
      (t.cores[k]).resv = none ∧ (t.cores[k]).x = (s.cores[k]).x := by
  have hact : ∀ k ∈ execCores core s, _ := fun k hk =>
    (privileged_of_exec eretAct (fetchAll_exec hexec hk)).trans
      (eretAct_done (by rw [fetchAll_at hk, fetched_cbuf]; exact hc k hk))
  obtain ⟨t, ht, -, hget⟩ := completes_idle (i := .eret core) he hidle rfl fun k hk => ⟨_, hact k hk⟩
  refine ⟨t, ht, fun k hk => ?_⟩
  obtain ⟨hp, hw, hr, hx⟩ := retire_eret_fields ((s.cores[k]).fetched s.mems[k])
  rw [hget k hk _ (hact k hk), fetchAll_at hk]
  exact ⟨hp.trans (fetched_word _ _ 2), hw.trans (congrArg (· &&& 0xF) (fetched_word _ _ 1)), hr,
    hx.trans (fetched_x _ _)⟩

theorem wfi_waits (hq : ∀ k ∈ execCores core s, (s.cores[k]).lpc.gen = false ∧ (s.cores[k]).lic.winner = none) :
    ∃ t, exec (.wfi core) s = .next t ∧ ∀ k ∈ execCores core s,
      (t.cores[k]).wfi = true ∧ (t.cores[k]).pc = (s.cores[k]).pc + 4 := by
  have hact : ∀ k ∈ execCores core s, _ := fun k hk => by
    obtain ⟨hg, hw⟩ := hq k hk
    obtain ⟨hlpc, hlic⟩ := fetched_of_gen_off hg s.mems[k]
    exact (privileged_of_exec wfiAct (fetchAll_exec hexec hk)).trans
      (wfiAct_waits (by rw [fetchAll_at hk, hlpc]; exact hg) (by rw [fetchAll_at hk, hlic]; exact hw))
  obtain ⟨t, ht, -, hget⟩ := completes_idle (i := .wfi core) he hidle rfl fun k hk => ⟨_, hact k hk⟩
  refine ⟨t, ht, fun k hk => ?_⟩
  rw [hget k hk _ (hact k hk), fetchAll_at hk]
  exact ⟨rfl, congrArg (· + 4) (fetched_pc _ _)⟩

theorem dcinva_keeps_locked (a : Fin 32) :
    ∃ t, exec (.cacheInvalidate core .dcinva a) s = .next t ∧ ∀ k ∈ execCores core s,
      (t.cores[k]).pc = (s.cores[k]).pc + 4 ∧
        ∀ l ∈ (t.cores[k]).dcache, l.way < 3 ∧ ((s.cores[k]).word 15).toNat.testBit l.way = true := by
  have hact : ∀ k ∈ execCores core s, _ := fun k hk =>
    privileged_of_exec (cacheAct .dcinva a) (fetchAll_exec hexec hk)
  obtain ⟨t, ht, -, hget⟩ := completes_idle (i := .cacheInvalidate core .dcinva a) he hidle rfl
    fun k hk => ⟨_, hact k hk⟩
  refine ⟨t, ht, fun k hk => ?_⟩
  rw [hget k hk _ (hact k hk), fetchAll_at hk, stepped_pc, retire_pc, stepped_dcache, retire_dcache]
  refine ⟨congrArg (· + 4) (fetched_pc _ _), fun l hl => ?_⟩
  obtain ⟨-, hkept⟩ := List.mem_filter.1 hl
  simpa using hkept

end

end

/-- Settles O18: every instruction but FENCE is done in each running core (`completes_idle`), and FENCE is an access
whose beat the fabric passes (`fence_passes`). -/
theorem controlFlowAndControlWords : Obligations.ControlFlowAndControlWords := by
  unfold Obligations.ControlFlowAndControlWords
  intro core s he hidle
  refine ⟨branch_goes he hidle, jump_goes he hidle, fun d a imm => jlr_goes he hidle d, fenceI_goes he hidle,
    fence_passes he hidle, fun d n hn => ?_, fun d a => ⟨cwMod_tptr he hidle false d a rfl,
      cwMod_tptr he hidle true d a rfl⟩, fun hexec => ⟨cww_scratch he hidle hexec, eret_returns he hidle hexec,
      wfi_waits he hidle hexec, dcinva_keeps_locked he hidle hexec⟩⟩
  exact takes_of _ core s d _ _ (cwrAct d n) he (.inl hidle) rfl (cwrAct_open d hn) fun c m => fetched_word c m _

end Sys2Proof.Machine
end

section
/-! PROOFS. O20: floating-point instructions complete, and their NaN and sign results (R106, R114, R115, R117). -/

namespace Sys2Proof.Machine

open Sys2Proof

/-! ### A result with its sticky flags -/

/-- The sticky flags follow a result, and the instruction retires (R106). -/
def Core.flagged (c : Core) (g : FFlags) : Core := (c.setWord 8 (c.word 8 ||| g.word)).retire

theorem toF_eq (c : Core) (d : Fin 32) (r : Nat × FFlags) :
    toF c d r = .done ((c.setF d (BitVec.ofNat 64 r.1)).flagged r.2) := rfl

theorem toXFlags_eq (c : Core) (d : Fin 32) (v : Reg64) (g : FFlags) :
    toXFlags c d v g = .done ((c.setX d v).flagged g) := rfl

@[simp] theorem flagged_x (c : Core) (g : FFlags) : (c.flagged g).x = c.x := by simp [Core.flagged]

@[simp] theorem flagged_f (c : Core) (g : FFlags) : (c.flagged g).f = c.f := by simp [Core.flagged]

@[simp] theorem flagged_pc (c : Core) (g : FFlags) : (c.flagged g).pc = c.pc + 4 := by simp [Core.flagged]

theorem flagged_status (c : Core) (g : FFlags) : (c.flagged g).word 0 = c.word 0 := by
  simp [Core.flagged, setWord_word]

theorem flagged_fpcsr (c : Core) (g : FFlags) : (c.flagged g).word 8 = c.word 8 ||| g.word := by
  simp [Core.flagged, setWord_word]

/-- No flag lies in the rounding mode. -/
theorem FFlags.word_rm (g : FFlags) : g.word.extractLsb' 0 3 = 0 := by
  have h : ∀ nv dz of uf nx : Bool, (FFlags.word ⟨nv, dz, of, uf, nx⟩).extractLsb' 0 3 = 0 := by decide
  exact h _ _ _ _ _

/-- A core that differs from another in no register but fd and xd, and not in its control words or PC. -/
def WritesOnly (d : Fin 32) (c e : Core) : Prop :=
  e.pc = c.pc ∧ e.cw = c.cw ∧ (∀ j : Fin 32, j ≠ d → e.f[j] = c.f[j]) ∧ ∀ j : Fin 32, j ≠ d → e.x[j] = c.x[j]

theorem setF_writesOnly (c : Core) (d : Fin 32) (v : Reg64) : WritesOnly d c (c.setF d v) :=
  ⟨rfl, rfl, fun j hj => Vector.getElem_set_ne d.isLt j.isLt fun h => hj (Fin.ext h.symm), fun _ _ => rfl⟩

theorem setX_writesOnly (c : Core) (d : Fin 32) (v : Reg64) : WritesOnly d c (c.setX d v) := by
  refine ⟨setX_pc c d v, setX_cw c d v, fun j _ => by rw [setX_f], fun j hj => ?_⟩
  unfold Core.setX
  split
  · rfl
  · exact Vector.getElem_set_ne d.isLt j.isLt fun h => hj (Fin.ext h.symm)

theorem fpAct_flagged (op : FpOp) (dbl : Bool) (d a b : Fin 32) (s : State) (k : Fin 8) :
    ∃ c g, fpAct op dbl d a b s k = .done (c.flagged g) ∧ WritesOnly d s.cores[k] c := by
  cases op
  case feq | flt | fle | fclass | fcvtL | fcvtLu | fcvtW | fcvtWu | fmvxf =>
    exact ⟨_, _, rfl, setX_writesOnly _ d _⟩
  all_goals exact ⟨_, _, rfl, setF_writesOnly _ d _⟩

theorem fmaAct_flagged (op : FmaOp) (dbl : Bool) (d a b r : Fin 32) (s : State) (k : Fin 8) :
    ∃ c g, fmaAct op dbl d a b r s k = .done (c.flagged g) ∧ WritesOnly d s.cores[k] c := by
  cases op <;> exact ⟨_, _, rfl, setF_writesOnly _ d _⟩

/-- What every floating-point instruction keeps of a core (R106): no register but fd or xd changes, and CW_FPCSR keeps
its rounding mode and the flags it has. -/
def FpKept (d : Fin 32) (c e : Core) : Prop :=
  e.pc = c.pc + 4 ∧ (∀ j : Fin 32, j ≠ d → e.f[j] = c.f[j]) ∧ (∀ j : Fin 32, j ≠ d → e.x[j] = c.x[j]) ∧
    (e.word 8).extractLsb' 0 3 = (c.word 8).extractLsb' 0 3 ∧
    ∀ n : Nat, (c.word 8).getLsbD n = true → (e.word 8).getLsbD n = true

theorem flagged_fpKept {d : Fin 32} {c e : Core} {m : List Host.Cell} (h : WritesOnly d (c.fetched m) e) (g : FFlags) :
    FpKept d c (e.flagged g).stepped := by
  obtain ⟨hp, hw, hf, hx⟩ := h
  have h8 : (e.flagged g).stepped.word 8 = c.word 8 ||| g.word := by
    rw [stepped_word, flagged_fpcsr, word_congr hw, fetched_word]
  refine ⟨by simp [hp], fun j hj => ?_, fun j hj => ?_, ?_, fun n hn => ?_⟩
  · simpa using hf j hj
  · simpa using hx j hj
  · rw [h8, BitVec.extractLsb'_or, g.word_rm]
    exact BitVec.or_zero
  · rw [h8, BitVec.getLsbD_or, hn, Bool.true_or]

/-- A floating-point instruction completes and keeps what `FpKept` says; in every running core its result is that of
its act. -/
theorem fp_completes {core : Fin 8} {s : State} {i : Instr} {act : State → Fin 8 → Act} {d : Fin 32}
    (he : Executes core s) (hu : Untrapped s) (hx : exec i s = .next (runTask core act s))
    (hact : ∀ (t : State) (k : Fin 8), ∃ c g, act t k = .done (Core.flagged c g) ∧ WritesOnly d t.cores[k] c) :
    ∃ t, exec i s = .next t ∧ (CoresOnly s t ∧ ∀ k ∈ execCores core s, FpKept d s.cores[k] t.cores[k]) ∧
      ∀ k ∈ execCores core s, ∀ (c : Core) (g : FFlags), act (fetchAll (execCores core s) s) k = .done (c.flagged g) →
        t.cores[k] = (c.flagged g).stepped := by
  obtain ⟨t, ht, honly, hget⟩ := completes_of_done he hu hx fun k hk => by
    obtain ⟨c, g, hc, -, hw, -⟩ := hact (fetchAll (execCores core s) s) k
    exact ⟨_, hc, by rw [flagged_status, word_congr hw, fetchAll_at hk, fetched_word]⟩
  refine ⟨t, ht, ⟨honly, fun k hk => ?_⟩, fun k hk c g hc => hget k hk _ hc⟩
  obtain ⟨c, g, hc, hw⟩ := hact (fetchAll (execCores core s) s) k
  rw [fetchAll_at hk] at hw
  rw [hget k hk _ hc]
  exact flagged_fpKept hw g

theorem setF_getElem (c : Core) (d : Fin 32) (v : Reg64) : (c.setF d v).f[d] = v := by
  simp [Core.setF]

theorem setX_zero_getX (c : Core) (d : Fin 32) : (c.setX d 0).getX d = 0 := by
  unfold Core.getX Core.setX
  split <;> simp

/-! ### Results of a NaN (R117) -/

theorem Fp.eq_nan_of_isNan {a : Fp} (h : a.isNan = true) : ∃ q, a = .nan q := by
  cases a with
  | nan q => exact ⟨q, rfl⟩
  | inf _ => cases h
  | fin _ _ _ => cases h

theorem fpAdd_nan (m : Fmt) (rm : Rm) (q : Bool) (b : Fp) : fpAdd m rm (.nan q) b = quiet m (q || b.snan) := by
  cases b <;> rfl

theorem fpMul_nan (m : Fmt) (rm : Rm) (q : Bool) (b : Fp) : fpMul m rm (.nan q) b = quiet m (q || b.snan) := by
  cases b <;> rfl

theorem fpDiv_nan (m : Fmt) (rm : Rm) (q : Bool) (b : Fp) : fpDiv m rm (.nan q) b = quiet m (q || b.snan) := by
  cases b <;> rfl

theorem canonNan_bits (dbl : Bool) :
    BitVec.ofNat 64 (canonNan (fmtOf dbl)) = if dbl then 0x7FF8000000000000 else 0x7FC00000 := by
  cases dbl <;> decide

section
variable {dbl : Bool} {a : Fin 32} {s : State} {k : Fin 8}
  (hnan : (unpack (fmtOf dbl) (fpBits dbl ((s.cores[k]).getF a))).isNan = true)
include hnan

/-- An arithmetic operation on a NaN gives the canonical NaN. -/
theorem fpAct_arith_nan {op : FpOp} (d b : Fin 32)
    (hop : op = .fadd ∨ op = .fsub ∨ op = .fmul ∨ op = .fdiv ∨ op = .fsqrt) :
    ∃ g, fpAct op dbl d a b s k =
      .done (((s.cores[k]).setF d (BitVec.ofNat 64 (canonNan (fmtOf dbl)))).flagged g) := by
  obtain ⟨q, hq⟩ := Fp.eq_nan_of_isNan hnan
  rcases hop with rfl | rfl | rfl | rfl | rfl <;>
    simp only [fpAct, hq, fpAdd_nan, fpMul_nan, fpDiv_nan, fpSqrt, quiet, toF_eq] <;>
    exact ⟨_, rfl⟩

/-- A conversion of a NaN to an integer gives 0 and sets NV. -/
theorem fpAct_toInt_nan {op : FpOp} (d b : Fin 32)
    (hop : op = .fcvtL ∨ op = .fcvtLu ∨ op = .fcvtW ∨ op = .fcvtWu) :
    fpAct op dbl d a b s k = .done (((s.cores[k]).setX d 0).flagged { nv := true }) := by
  obtain ⟨q, hq⟩ := Fp.eq_nan_of_isNan hnan
  rcases hop with rfl | rfl | rfl | rfl <;> simp only [fpAct, hq, fpToInt, toXFlags_eq] <;> rfl

/-- FMIN and FMAX of a NaN and a number give the number. -/
theorem fpAct_minMax_nan {op : FpOp} (d : Fin 32) {b : Fin 32}
    (hb : (unpack (fmtOf dbl) (fpBits dbl ((s.cores[k]).getF b))).isNan = false) (hop : op = .fmin ∨ op = .fmax) :
    ∃ g, fpAct op dbl d a b s k =
      .done (((s.cores[k]).setF d (BitVec.ofNat 64 (fpBits dbl ((s.cores[k]).getF b)))).flagged g) := by
  rcases hop with rfl | rfl <;> simp only [fpAct, fpMinMax, hnan, hb, toF_eq] <;> exact ⟨_, rfl⟩

end

/-! ### Results that act on the sign (R114) -/

/-- Bits of an operand in its precision. -/
def fpWidth (dbl : Bool) : Nat := if dbl then 64 else 32

theorem fmtOf_width (dbl : Bool) : (fmtOf dbl).frac + (fmtOf dbl).expo + 1 = fpWidth dbl := by
  cases dbl <;> rfl

theorem fpBits_testBit {dbl : Bool} (v : Reg64) {n : Nat} (h : n < fpWidth dbl) :
    (fpBits dbl v).testBit n = v.getLsbD n := by
  cases dbl with
  | true => exact BitVec.testBit_toNat v
  | false =>
    have hn : n < 32 := h
    exact (Nat.testBit_mod_two_pow v.toNat 32 n).trans (by rw [decide_eq_true hn, Bool.true_and, BitVec.testBit_toNat])

section
variable (dbl : Bool) (v w : Reg64) {n : Nat} (h : n < fpWidth dbl)
include h

theorem ofNat_getLsbD_fp (x : Nat) : (BitVec.ofNat 64 x).getLsbD n = x.testBit n := by
  have hn : n < 64 := lt_of_lt_of_le h (by cases dbl <;> decide)
  rw [BitVec.getLsbD_ofNat, decide_eq_true hn, Bool.true_and]

theorem fneg_getLsbD :
    (BitVec.ofNat 64 (Nat.xor (fpBits dbl v) (2 ^ ((fmtOf dbl).frac + (fmtOf dbl).expo)))).getLsbD n =
      (v.getLsbD n != decide (n + 1 = fpWidth dbl)) := by
  have hw := fmtOf_width dbl
  rw [ofNat_getLsbD_fp dbl h]
  change (fpBits dbl v ^^^ 2 ^ _).testBit n = _
  rw [Nat.testBit_xor, fpBits_testBit v h, Nat.testBit_two_pow, ← hw]
  simp [eq_comm]

theorem fabs_getLsbD :
    (BitVec.ofNat 64 (fpBits dbl v % 2 ^ ((fmtOf dbl).frac + (fmtOf dbl).expo))).getLsbD n =
      (v.getLsbD n && decide (n + 1 ≠ fpWidth dbl)) := by
  have hw := fmtOf_width dbl
  rw [ofNat_getLsbD_fp dbl h, Nat.testBit_mod_two_pow, fpBits_testBit v h, Bool.and_comm]
  congr 1
  rw [decide_eq_decide]
  omega

theorem fcpys_getLsbD :
    (BitVec.ofNat 64 (fpBits dbl v % 2 ^ ((fmtOf dbl).frac + (fmtOf dbl).expo) +
        fpBits dbl w / 2 ^ ((fmtOf dbl).frac + (fmtOf dbl).expo) *
          2 ^ ((fmtOf dbl).frac + (fmtOf dbl).expo))).getLsbD n =
      if n + 1 = fpWidth dbl then w.getLsbD n else v.getLsbD n := by
  have hw := fmtOf_width dbl
  generalize (fmtOf dbl).frac + (fmtOf dbl).expo = top at hw ⊢
  rw [ofNat_getLsbD_fp dbl h, Nat.add_comm, Nat.mul_comm, Nat.testBit_two_pow_mul_add _ (Nat.mod_lt _ (by positivity)),
    Nat.testBit_div_two_pow, Nat.testBit_mod_two_pow, fpBits_testBit v h]
  by_cases hn : n + 1 = fpWidth dbl
  · have htop : n - top + top = n := by omega
    rw [if_neg (by omega), if_pos hn, htop, fpBits_testBit w h]
  · have hlt : n < top := by omega
    rw [if_pos hlt, if_neg hn, decide_eq_true hlt, Bool.true_and]

end

/-- Settles O20: every act is a result with its flags (`fpAct_flagged`, `fmaAct_flagged`), so it completes
(`fp_completes`); the results are those of the lemmas above. -/
theorem floatingPointNeverTraps : Obligations.FloatingPointNeverTraps := by
  unfold Obligations.FloatingPointNeverTraps
  intro core s dbl d a b he hu m bits kept
  have hop (op : FpOp) := fp_completes (i := .fpOperation core op dbl d a b) he hu rfl (fpAct_flagged op dbl d a b)
  have hget {k : Fin 8} (hk : k ∈ execCores core s) (i : Fin 32) :
      ((fetchAll (execCores core s) s).cores[k]).getF i = (s.cores[k]).getF i := by
    rw [fetchAll_at hk, fetched_getF]
  refine ⟨fun op => ?_, fun op c => ?_, fun hnan => ⟨fun op h => ?_, fun op h => ?_, fun hnum op h => ?_⟩, ?_, ?_, ?_⟩
  · obtain ⟨t, ht, hkept, -⟩ := hop op
    exact ⟨t, ht, hkept⟩
  · obtain ⟨t, ht, hkept, -⟩ := fp_completes (i := .fma core op dbl d a b c) he hu rfl (fmaAct_flagged op dbl d a b c)
    exact ⟨t, ht, hkept⟩
  · obtain ⟨t, ht, -, hres⟩ := hop op
    refine ⟨t, ht, fun k hk => ?_⟩
    obtain ⟨g, hg⟩ := fpAct_arith_nan (by rw [hget hk]; exact hnan k hk) d b h
    rw [hres k hk _ _ hg, stepped_f, flagged_f, setF_getElem, canonNan_bits]
  · obtain ⟨t, ht, -, hres⟩ := hop op
    refine ⟨t, ht, fun k hk => ?_⟩
    rw [hres k hk _ _ (fpAct_toInt_nan (by rw [hget hk]; exact hnan k hk) d b h)]
    refine ⟨(getX_congr (flagged_x _ _) d).trans (setX_zero_getX _ d), ?_⟩
    rw [stepped_word, flagged_fpcsr, BitVec.getLsbD_or]
    exact Bool.or_eq_true_iff.2 (.inr (by decide))
  · obtain ⟨t, ht, -, hres⟩ := hop op
    refine ⟨t, ht, fun k hk => ?_⟩
    obtain ⟨g, hg⟩ := fpAct_minMax_nan (by rw [hget hk]; exact hnan k hk) d (by rw [hget hk]; exact hnum k hk) h
    rw [hres k hk _ _ hg, stepped_f, flagged_f, setF_getElem, hget hk]
  · obtain ⟨t, ht, -, hres⟩ := hop .fneg
    refine ⟨t, ht, fun k hk n hn => ?_⟩
    rw [hres k hk _ _ rfl, stepped_f, flagged_f, setF_getElem, hget hk]
    exact fneg_getLsbD dbl _ hn
  · obtain ⟨t, ht, -, hres⟩ := hop .fabs
    refine ⟨t, ht, fun k hk n hn => ?_⟩
    rw [hres k hk _ _ rfl, stepped_f, flagged_f, setF_getElem, hget hk]
    exact fabs_getLsbD dbl _ hn
  · obtain ⟨t, ht, -, hres⟩ := hop .fcpys
    refine ⟨t, ht, fun k hk n hn => ?_⟩
    rw [hres k hk _ _ rfl, stepped_f, flagged_f, setF_getElem, hget hk, hget hk]
    exact fcpys_getLsbD dbl _ _ hn

end Sys2Proof.Machine
end

section
/-! PROOFS. O22: the lane-local registers: timers, elapsed time and the performance counters (R159, R160, R432,
R441). -/

namespace Sys2Proof.Machine

open Sys2Proof

/-! ### Accesses of the lane executive to the lane-local registers -/

theorem regionOf_local {a : Nat} (wide : Bool) (h : 0x101000000 ≤ a ∧ a < 0x101010000) :
    regionOf wide a = .lic ∨ regionOf wide a = .ltm ∨ regionOf wide a = .lpc ∨ regionOf wide a = .lks := by
  obtain ⟨hlo, hhi⟩ := h
  simp only [regionOf, show ¬ a < 0x100000000 by omega, show ¬ a < 0x100200000 by omega,
    show ¬ a < 0x101000000 by omega, hhi, if_false, if_true]
  split_ifs <;> simp

/-- An aligned word access of the executive meets no protection (R107, R129). -/
theorem dataTrap_word {a : Nat} (c : Core) (st : Bool) (h4 : a % 4 = 0) (ha : a < 2 ^ 40) :
    dataTrap c true (BitVec.ofNat 64 a) 4 st = none := by
  simp [dataTrap, h4, show a % 18446744073709551616 = a by omega, show ¬ 1099511627776 ≤ a by omega]

theorem loadAct_local {a : Nat} (s : State) (k : Fin 8) (d : Fin 32) (h4 : a % 4 = 0)
    (h : 0x101000000 ≤ a ∧ a < 0x101010000) : loadAct s k true (BitVec.ofNat 64 a) .ldwu d =
      .done ((localReadEffect s a s.cores[k]).loaded .ldwu d (localRead s k a)).retire := by
  have ha : (BitVec.ofNat 64 a).toNat = a := by rw [BitVec.toNat_ofNat, Nat.mod_eq_of_lt (by omega)]
  have ht := dataTrap_word s.cores[k] false h4 (by omega)
  rcases regionOf_local (decide (s.vrc.mode = .split)) h with hr | hr | hr | hr <;>
    simp only [loadAct, loadSize, ht, ha, hr] <;> rfl

theorem storeAct_local {a : Nat} (s : State) (k : Fin 8) (v : Reg32) (h4 : a % 4 = 0)
    (h : 0x101000000 ≤ a ∧ a < 0x101010000) :
    storeAct s k true (BitVec.ofNat 64 a) 4 v.toNat = .done (localWrite s a v s.cores[k]).retire := by
  have ha : (BitVec.ofNat 64 a).toNat = a := by rw [BitVec.toNat_ofNat, Nat.mod_eq_of_lt (by omega)]
  have hv : BitVec.ofNat 32 v.toNat = v := by rw [BitVec.ofNat_toNat, BitVec.setWidth_eq]
  have ht := dataTrap_word s.cores[k] true h4 (by omega)
  rcases regionOf_local (decide (s.vrc.mode = .split)) h with hr | hr | hr | hr <;>
    simp only [storeAct, ht, ha, hr, hv] <;> rfl

/-- A word write of the executive to a lane-local register changes the running cores alone. -/
theorem writeReg_local {core : Fin 8} {s : State} {a : Nat} (v : Reg32) (he : Executes core s) (h4 : a % 4 = 0)
    (h : 0x101000000 ≤ a ∧ a < 0x101010000) :
    CoresOnly s (writeReg core a v s) ∧ ∀ k ∈ execCores core s,
      (writeReg core a v s).cores[k] = (localWrite s a v ((s.cores[k]).fetched s.mems[k])).retire.stepped := by
  obtain ⟨honly, hget, -⟩ := runInstr_flat core (fun t i => storeAct t i true (BitVec.ofNat 64 a) 4 v.toNat) s he
    (fun k => .done (localWrite s a v ((s.cores[k]).fetched s.mems[k])).retire)
    (fun k hk => by
      rw [storeAct_local _ k v h4 h, fetchAll_at hk, fetchAll_rest]
      rfl)
    (fun _ _ => trivial) (fun _ _ => rfl)
  exact ⟨honly, hget⟩

/-- A word read of the executive from a lane-local register changes the running cores alone. -/
theorem readReg_local {core : Fin 8} {s : State} {a : Nat} (d : Fin 32) (he : Executes core s) (h4 : a % 4 = 0)
    (h : 0x101000000 ≤ a ∧ a < 0x101010000) :
    CoresOnly s (readReg core d a s) ∧ ∀ k ∈ execCores core s,
      (readReg core d a s).cores[k] = ((localReadEffect s a ((s.cores[k]).fetched s.mems[k])).loaded .ldwu d
        (localRead (fetchAll (execCores core s) s) k a)).retire.stepped := by
  obtain ⟨honly, hget, -⟩ := runInstr_flat core (fun t i => loadAct t i true (BitVec.ofNat 64 a) .ldwu d) s he
    (fun k => .done ((localReadEffect s a ((s.cores[k]).fetched s.mems[k])).loaded .ldwu d
      (localRead (fetchAll (execCores core s) s) k a)).retire)
    (fun k hk => by
      rw [loadAct_local _ k d h4 h, fetchAll_at hk]
      refine congrArg (fun c : Core => Act.done (c.loaded .ldwu d _).retire) ?_
      rw [fetchAll_rest]
      rfl)
    (fun _ _ => trivial) (fun _ _ => rfl)
  exact ⟨honly, hget⟩

/-! ### What retiring and loading keep of the lane-local registers -/

theorem fetched_timers (c : Core) (m : List Host.Cell) : (c.fetched m).timers = c.timers :=
  (congrArg Core.timers (fetched_plain c m) :)

theorem retire_timers_elapH (c : Core) : c.retire.timers = c.timers ∧ c.retire.elapH = c.elapH :=
  ⟨(congrArg Core.timers (event_plain c 0x02 1) :), (congrArg Core.elapH (event_plain c 0x02 1) :)⟩

theorem setX_elapH_lpc (c : Core) (d : Fin 32) (v : Reg64) :
    (c.setX d v).elapH = c.elapH ∧ (c.setX d v).lpc = c.lpc := by
  unfold Core.setX
  split <;> exact ⟨rfl, rfl⟩

theorem loaded_ldwu (c : Core) (d : Fin 32) (v : Nat) : c.loaded .ldwu d v = c.setX d (loadValue .ldwu v) := rfl

/-- A word that LDWU loads (R115). -/
theorem loadValue_ldwu {v : Nat} (h : v < 2 ^ 32) : loadValue .ldwu v = BitVec.ofNat 64 v := by
  refine BitVec.eq_of_toNat_eq ?_
  simp only [loadValue, BitVec.toNat_setWidth, BitVec.toNat_ofNat]
  omega

theorem localRead_lt (s : State) (k : Fin 8) (a : Nat) : localRead s k a < 2 ^ 32 :=
  Nat.mod_lt _ (by decide)

/-- The executive's read of a lane-local register delivers its value, and PC goes on. -/
theorem readReg_local_readsInto {core : Fin 8} {s : State} {a v : Nat} (d : Fin 32) (he : Executes core s)
    (h4 : a % 4 = 0) (h : 0x101000000 ≤ a ∧ a < 0x101010000)
    (hstream : ∀ c : Core, (localReadEffect s a c).x = c.x ∧ (localReadEffect s a c).pc = c.pc)
    (hv : ∀ k ∈ execCores core s, localRead (fetchAll (execCores core s) s) k a = v) :
    ReadsInto core s (readReg core d a s) d v := by
  obtain ⟨-, hget⟩ := readReg_local d he h4 h
  intro k hk
  obtain ⟨hx, hp⟩ := hstream ((s.cores[k]).fetched s.mems[k])
  have hlt := localRead_lt (fetchAll (execCores core s) s) k a
  rw [hv k hk] at hlt
  rw [hget k hk, hv k hk, loaded_ldwu, loadValue_ldwu hlt]
  refine ⟨?_, ?_⟩
  · rw [stepped_x, retire_x]
    exact setX_x_congr _ _ (hx.trans (fetched_x _ _)) d _
  · rw [stepped_pc, retire_pc, setX_pc, hp, fetched_pc]

/-! ### Lane timers (R160) -/

theorem localWrite_timerCtl (s : State) (n : Fin 16) (v : Reg32) (c : Core) :
    localWrite s (0x101004100 + 16 * n.val) v c =
      { c with timers := vmod c.timers n (fun t => t.start (elapsedUs s) v) } := by
  have ho : 0x101004100 + 16 * n.val - 0x101004000 = 0x100 + 16 * n.val := by omega
  have hn : (0x100 + 16 * n.val - 0x100) / 16 = n.val := by omega
  rw [localWrite, if_neg (by omega), if_pos (by omega), ho, ltmWrite, dif_pos (by omega)]
  simp only [hn, show (0x100 + 16 * n.val) % 16 = 0 by omega, if_true]

/-- RUN = 1 in mode 1 or 2 starts a timer for its preset, at least 1 us. -/
theorem LaneTimer.start_runs (t : LaneTimer) (now : Nat) {v : Reg32} (hrun : v.getLsbD 2 = true)
    (hmode : v.setWidth 2 = (1 : BitVec 2) ∨ v.setWidth 2 = (2 : BitVec 2)) :
    (t.start now v).run = true ∧ (t.start now v).mode = v.setWidth 2 ∧ (t.start now v).ie = v.getLsbD 3 ∧
      (t.start now v).due = now + max 1 t.preset.toNat := by
  have hlive : LaneTimer.live (v.setWidth 2) = true := by
    rcases hmode with h | h <;> rw [h] <;> rfl
  have hon : (v.getLsbD 2 && LaneTimer.live (v.setWidth 2)) = true := by rw [hrun, hlive]; rfl
  exact ⟨hon, rfl, rfl, if_pos hon⟩

theorem ltmTimerStart_starts {core : Fin 8} {s : State} (he : Executes core s) (n : Fin 16) {ctl : BitVec 32}
    (hrun : ctl.getLsbD 2 = true) (hmode : ctl.setWidth 2 = (1 : BitVec 2) ∨ ctl.setWidth 2 = (2 : BitVec 2)) :
    ∃ t, exec (.ltmTimerStart core n ctl) s = .next t ∧ CoresOnly s t ∧ GoesOn core s t ∧ ∀ k ∈ execCores core s,
      let x := (t.cores[k]).timers[n]
      x.run = true ∧ x.mode = ctl.setWidth 2 ∧ x.ie = ctl.getLsbD 3 ∧
        x.due = s.tim.elapsed.toNat / 1000 + max 1 ((s.cores[k]).timers[n]).preset.toNat := by
  obtain ⟨honly, hget⟩ := writeReg_local (a := 0x101004100 + 16 * n.val) ctl he (by omega) (by omega)
  refine ⟨_, rfl, honly, fun k hk => ?_, fun k hk => ?_⟩
  · rw [hget k hk, localWrite_timerCtl]
    exact ⟨by simp, by simp⟩
  · have htimers : ((writeReg core (0x101004100 + 16 * n.val) ctl s).cores[k]).timers =
        vmod (s.cores[k]).timers n (fun t => t.start (elapsedUs s) ctl) := by
      rw [hget k hk, localWrite_timerCtl]
      exact (retire_timers_elapH _).1.trans
        (congrArg (vmod · n (fun t => t.start (elapsedUs s) ctl)) (fetched_timers _ _))
    dsimp only
    rw [htimers, vmod_self]
    exact LaneTimer.start_runs _ _ hrun hmode

/-! ### Elapsed time and the counters (R159, R432, R441) -/

theorem ltmElaplRead_latches {core : Fin 8} {s : State} (he : Executes core s) (d : Fin 32) :
    ∃ t, exec (.ltmElaplRead core d) s = .next t ∧ CoresOnly s t ∧
      ReadsInto core s t d (s.tim.elapsed.toNat % 2 ^ 32) ∧ ∀ k ∈ execCores core s,
        (t.cores[k]).elapH = BitVec.ofNat 32 (s.tim.elapsed.toNat / 2 ^ 32) := by
  have hvalue : ∀ k ∈ execCores core s, localRead (fetchAll (execCores core s) s) k 0x101004000 =
      s.tim.elapsed.toNat % 2 ^ 32 := by
    intro k _
    have htim : (fetchAll (execCores core s) s).tim = s.tim := by rw [fetchAll_rest]
    rw [← htim]
    exact Nat.mod_mod _ _
  obtain ⟨honly, hget⟩ := readReg_local (a := 0x101004000) d he (by decide) (by decide)
  refine ⟨_, rfl, honly, readReg_local_readsInto d he (by decide) (by decide) (fun _ => ⟨rfl, rfl⟩) hvalue,
    fun k hk => ?_⟩
  rw [hget k hk]
  exact (retire_timers_elapH _).2.trans (setX_elapH_lpc _ d _).1

/-- The address of a counter's low word. -/
def cntAddr (n : Fin 16) : Nat := 0x101008200 + 8 * n.val

/-- A counter's upper half latched by a read of its lower one (R441). -/
def Lpc.latched (p : Lpc) (n : Fin 16) : Lpc :=
  { p with readH := p.readH.set n.val ((p.cnt[n]).extractLsb' 32 16) n.isLt }

/-- A counter written with the upper half held (R441). -/
def Lpc.counterSet (p : Lpc) (n : Fin 16) (v : Reg32) : Lpc :=
  { p with cnt := p.cnt.set n.val (p.heldH[n] ++ v) n.isLt }

theorem localReadEffect_counter (s : State) (n : Fin 16) (c : Core) : localReadEffect s (cntAddr n) c =
    { c with lpc := c.lpc.latched n } := by
  have hn : (cntAddr n - 0x101008200) / 8 = n.val := by unfold cntAddr; omega
  have h8 : cntAddr n % 8 = 0 := by unfold cntAddr; omega
  rw [localReadEffect, if_neg (by unfold cntAddr; omega), dif_pos (by unfold cntAddr; omega), if_pos h8]
  simp only [hn, Lpc.latched, Fin.getElem_fin]

theorem localRead_counter (s : State) (k : Fin 8) (n : Fin 16) :
    localRead s k (cntAddr n) = ((s.cores[k]).lpc.cnt[n]).toNat % 2 ^ 32 := by
  have ho : cntAddr n - 0x101008000 = 0x200 + 8 * n.val := by unfold cntAddr; omega
  have hn : (0x200 + 8 * n.val - 0x200) / 8 = n.val := by omega
  have h8 : (0x200 + 8 * n.val) % 8 = 0 := by omega
  have hlpc : lpcRead s (s.cores[k]).lpc (0x200 + 8 * n.val) = ((s.cores[k]).lpc.cnt[n]).toNat % 2 ^ 32 := by
    rw [lpcRead, if_neg (by omega), if_neg (by omega), if_neg (by omega), if_neg (by omega), if_neg (by omega),
      if_neg (by omega), dif_neg (by omega), dif_pos (by omega), if_pos h8]
    simp only [hn, Fin.getElem_fin]
  rw [localRead, if_neg (by unfold cntAddr; omega), if_neg (by unfold cntAddr; omega),
    if_pos (by unfold cntAddr; omega), ho, hlpc, Nat.mod_mod]

theorem localWrite_counter (s : State) (n : Fin 16) (v : Reg32) (c : Core) : localWrite s (cntAddr n) v c =
    { c with lpc := c.lpc.counterSet n v } := by
  have ho : cntAddr n - 0x101008000 = 0x200 + 8 * n.val := by unfold cntAddr; omega
  have hn : (0x200 + 8 * n.val - 0x200) / 8 = n.val := by omega
  have h8 : (0x200 + 8 * n.val) % 8 = 0 := by omega
  rw [localWrite, if_neg (by unfold cntAddr; omega), if_neg (by unfold cntAddr; omega),
    if_pos (by unfold cntAddr; omega), ho, lpcWrite, if_neg (by omega), if_neg (by omega), if_neg (by omega),
    if_neg (by omega), if_neg (by omega), dif_neg (by omega), dif_pos (by omega), if_pos h8]
  simp only [hn, Lpc.counterSet, Fin.getElem_fin]

section
variable {core : Fin 8} {s : State} (he : Executes core s)
  (hgen : ∀ k ∈ execCores core s, (s.cores[k]).lpc.gen = false)
include he hgen

theorem lpcCntnlRead_latches (n : Fin 16) (d : Fin 32) {v : BitVec 48}
    (hv : ∀ k ∈ execCores core s, (s.cores[k]).lpc.cnt[n] = v) :
    ∃ t, exec (.lpcCntnlRead core n d) s = .next t ∧ CoresOnly s t ∧ ReadsInto core s t d (v.toNat % 2 ^ 32) ∧
      ∀ k ∈ execCores core s, (t.cores[k]).lpc.readH[n] = v.extractLsb' 32 16 := by
  have hr : 0x101000000 ≤ cntAddr n ∧ cntAddr n < 0x101010000 := by unfold cntAddr; omega
  have h4 : cntAddr n % 4 = 0 := by unfold cntAddr; omega
  obtain ⟨honly, hget⟩ := readReg_local d he h4 hr
  refine ⟨readReg core d (cntAddr n) s, rfl, honly, readReg_local_readsInto d he h4 hr (fun c => ?_) (fun k hk => ?_),
    fun k hk => ?_⟩
  · rw [localReadEffect_counter]
    exact ⟨rfl, rfl⟩
  · obtain ⟨hlpc, -⟩ := fetched_of_gen_off (hgen k hk) s.mems[k]
    rw [localRead_counter, fetchAll_at hk, hlpc, hv k hk]
  · obtain ⟨hlpc, -⟩ := fetched_of_gen_off (hgen k hk) s.mems[k]
    have hloaded : ((localReadEffect s (cntAddr n) ((s.cores[k]).fetched s.mems[k])).loaded .ldwu d
        (localRead (fetchAll (execCores core s) s) k (cntAddr n))).lpc = (s.cores[k]).lpc.latched n := by
      rw [loaded_ldwu, (setX_elapH_lpc _ _ _).2, localReadEffect_counter]
      exact congrArg (Lpc.latched · n) hlpc
    have hkept := (retire_of_gen_off (by rw [hloaded]; exact hgen k hk)).1.trans hloaded
    rw [hget k hk]
    refine (congrArg (fun p : Lpc => p.readH[n]) hkept).trans ?_
    simp [Lpc.latched, ← hv k hk]

theorem lpcCntnlWrite_sets (n : Fin 16) (v : BitVec 32) :
    ∃ t, exec (.lpcCntnlWrite core n v) s = .next t ∧ CoresOnly s t ∧ GoesOn core s t ∧ ∀ k ∈ execCores core s,
      (t.cores[k]).lpc.cnt[n] = (s.cores[k]).lpc.heldH[n] ++ v ∧ (t.cores[k]).lpc.heldH = (s.cores[k]).lpc.heldH := by
  have hr : 0x101000000 ≤ cntAddr n ∧ cntAddr n < 0x101010000 := by unfold cntAddr; omega
  have h4 : cntAddr n % 4 = 0 := by unfold cntAddr; omega
  obtain ⟨honly, hget⟩ := writeReg_local v he h4 hr
  refine ⟨writeReg core (cntAddr n) v s, rfl, honly, fun k hk => ?_, fun k hk => ?_⟩
  · rw [hget k hk, localWrite_counter]
    exact ⟨by simp, by simp⟩
  · obtain ⟨hlpc, -⟩ := fetched_of_gen_off (hgen k hk) s.mems[k]
    have hwritten : (localWrite s (cntAddr n) v ((s.cores[k]).fetched s.mems[k])).lpc =
        (s.cores[k]).lpc.counterSet n v := by
      rw [localWrite_counter]
      exact congrArg (Lpc.counterSet · n v) hlpc
    have hkept := (retire_of_gen_off (by rw [hwritten]; exact hgen k hk)).1.trans hwritten
    rw [hget k hk]
    refine ⟨(congrArg (fun p : Lpc => p.cnt[n]) hkept).trans ?_, (congrArg Lpc.heldH hkept :)⟩
    simp [Lpc.counterSet]

end

/-! ### Events of the running cores -/

/-- A change made in every running core is all that happens, and the other core of a lane follows (R36). -/
theorem mirrorShadow_mapCores (core : Fin 8) (f : Core → Core) (s : State) :
    CoresOnly s (mirrorShadow (mapCores (execCores core s) f s)) ∧ ∀ k ∈ execCores core s,
      (mirrorShadow (mapCores (execCores core s) f s)).cores[k] = f s.cores[k] := by
  have hmap : CoresOnly s (mapCores (execCores core s) f s) := mapCores_rest _ f s
  refine ⟨hmap.trans (mirrorShadow_rest _), fun k hk => ?_⟩
  rw [mirrorShadow_get core _ k (by rw [execCores_congr core s _ hmap.vrc]; exact hk),
    mapCores_get _ (execCores_nodup core s), if_pos hk]

theorem assertSrc_pend (c : Core) (n : Nat) : (c.assertSrc n).lic.pend = putBit c.lic.pend n true := by
  unfold Core.assertSrc Core.wake
  split <;> rfl

theorem assertSrc_timers_lpc (c : Core) (n : Nat) :
    (c.assertSrc n).timers = c.timers ∧ (c.assertSrc n).lpc = c.lpc := by
  unfold Core.assertSrc Core.wake
  split <;> exact ⟨rfl, rfl⟩

/-- A one-shot whose time has come sets EXP, stops, and asserts its source where IE is 1 (R160). -/
theorem timerExpire_oneShot {n : Fin 16} {now : Nat} {c : Core} (hrun : (c.timers[n]).run = true)
    (hmode : (c.timers[n]).mode = 1) (hdue : (c.timers[n]).due ≤ now) (hie : (c.timers[n]).ie = true) :
    ((timerExpire n now c).timers[n]).exp = true ∧ ((timerExpire n now c).timers[n]).run = false ∧
      (timerExpire n now c).lic.pend = putBit c.lic.pend n.val true := by
  have hcome : ((c.timers[n]).run && decide ((c.timers[n]).due ≤ now)) = true := by rw [hrun, decide_eq_true hdue]; rfl
  have hexp : timerExpire n now c =
      ({ c with timers := vmod c.timers n (fun x => x.expire now) } : Core).assertSrc n.val := by
    unfold timerExpire
    rw [if_pos hcome]
    exact if_pos hie
  have htimer : (timerExpire n now c).timers[n] = (c.timers[n]).expire now := by
    rw [hexp, (assertSrc_timers_lpc _ _).1]
    exact vmod_self _ n _
  rw [htimer, hexp, assertSrc_pend, LaneTimer.expire, if_pos hcome, hmode]
  exact ⟨rfl, rfl, rfl⟩

theorem ltmTimerExpiry_expires {core : Fin 8} {s : State} (dt : Nat) (n : Fin 16)
    (h : ∀ k ∈ execCores core s, let x := ((advance dt s).cores[k]).timers[n]
      x.run = true ∧ x.mode = 1 ∧ x.due ≤ (advance dt s).tim.elapsed.toNat / 1000 ∧ x.ie = true) :
    ∃ t, exec (.ltmTimerExpiry dt core n) s = .next t ∧ CoresOnly (advance dt s) t ∧ ∀ k ∈ execCores core s,
      ((t.cores[k]).timers[n]).exp = true ∧ ((t.cores[k]).timers[n]).run = false ∧
        (t.cores[k]).lic.pend = putBit ((advance dt s).cores[k]).lic.pend n.val true := by
  obtain ⟨honly, hget⟩ := mirrorShadow_mapCores core (timerExpire n (elapsedUs (advance dt s))) (advance dt s)
  refine ⟨_, rfl, honly, fun k hk => ?_⟩
  obtain ⟨hrun, hmode, hdue, hie⟩ := h k hk
  rw [hget k (by rw [execCores_congr core s _ (advance_vrc dt s)]; exact hk)]
  exact timerExpire_oneShot hrun hmode hdue hie

/-- A counter counts modulo 2^48, and a carry out of bit 47 sets its overflow bit (R432). -/
theorem bump_lpc (c : Core) (i : Fin 16) (n : Nat) :
    (c.bump i n).lpc.cnt = c.lpc.cnt.set i.val (BitVec.ofNat 48 ((c.lpc.cnt[i]).toNat + n)) i.isLt ∧
      (c.bump i n).lpc.ovf =
        if decide (2 ^ 48 ≤ (c.lpc.cnt[i]).toNat + n) then putBit c.lpc.ovf i.val true else c.lpc.ovf := by
  unfold Core.bump
  dsimp only
  split
  · exact ⟨congrArg Lpc.cnt (assertSrc_timers_lpc _ _).2, congrArg Lpc.ovf (assertSrc_timers_lpc _ _).2⟩
  · exact ⟨rfl, rfl⟩

/-- The carry asserts source 16 + i where its enable is 1 (R432). -/
theorem bump_pend {c : Core} {i : Fin 16} {n : Nat} (h : 2 ^ 48 ≤ (c.lpc.cnt[i]).toNat + n)
    (hien : c.lpc.ien.getLsbD i.val = true) :
    (c.bump i n).lic.pend = putBit c.lic.pend (16 + i.val) true := by
  unfold Core.bump
  dsimp only
  rw [if_pos (by rw [decide_eq_true h]; exact hien), assertSrc_pend]

/-- COUNTER_OVERFLOW in one core: events that carry counter n out of bit 47. -/
def Core.overflowed (n : Fin 16) (ev : BitVec 48) (c : Core) : Core :=
  if c.lpc.gen && decide (2 ^ 48 ≤ (c.lpc.cnt[n]).toNat + ev.toNat) then c.bump n ev.toNat else c

theorem overflowed_of_carry {n : Fin 16} {ev : BitVec 48} {c : Core} (hgen : c.lpc.gen = true)
    (hcarry : 2 ^ 48 ≤ (c.lpc.cnt[n]).toNat + ev.toNat) : c.overflowed n ev = c.bump n ev.toNat :=
  if_pos (by rw [hgen, decide_eq_true hcarry]; rfl)

theorem counterOverflow_wraps {core : Fin 8} {s : State} {n : Fin 16} {ev : BitVec 48}
    (h : ∀ k ∈ execCores core s, (s.cores[k]).lpc.gen = true ∧
      2 ^ 48 ≤ ((s.cores[k]).lpc.cnt[n]).toNat + ev.toNat) :
    ∃ t, exec (.counterOverflow core n ev) s = .next t ∧ CoresOnly s t ∧ ∀ k ∈ execCores core s,
      (t.cores[k]).lpc.ovf = putBit (s.cores[k]).lpc.ovf n.val true ∧
        (t.cores[k]).lpc.cnt[n] = (s.cores[k]).lpc.cnt[n] + ev ∧
        ((s.cores[k]).lpc.ien.getLsbD n.val = true → (t.cores[k]).lic.pend.getLsbD (16 + n.val) = true) := by
  obtain ⟨honly, hget⟩ := mirrorShadow_mapCores core (Core.overflowed n ev) s
  refine ⟨mirrorShadow (mapCores (execCores core s) (Core.overflowed n ev) s), rfl, honly, fun k hk => ?_⟩
  obtain ⟨hgen, hcarry⟩ := h k hk
  obtain ⟨hcnt, hovf⟩ := bump_lpc (s.cores[k]) n ev.toNat
  rw [hget k hk, overflowed_of_carry hgen hcarry]
  refine ⟨hovf.trans (if_pos (decide_eq_true hcarry)), ?_, fun hien => ?_⟩
  · rw [hcnt, BitVec.ofNat_add, BitVec.ofNat_toNat, BitVec.ofNat_toNat, BitVec.setWidth_eq, BitVec.setWidth_eq]
    exact Vector.getElem_set_self n.isLt
  · rw [bump_pend hcarry hien, putBit_get _ _ _ (by omega), decide_eq_true rfl, Bool.or_true]

/-- Settles O22: the executive's accesses to the lane-local registers change the running cores alone
(`writeReg_local`, `readReg_local`), and so do the expiry of a timer and the overflow of a counter
(`mirrorShadow_mapCores`). -/
theorem laneLocalRegisters : Obligations.LaneLocalRegisters := by
  unfold Obligations.LaneLocalRegisters
  refine ⟨fun core s he => ⟨fun n ctl hrun hmode => ltmTimerStart_starts he n hrun hmode, ltmElaplRead_latches he,
    fun hgen => ⟨fun n d v hv => lpcCntnlRead_latches he hgen n d hv, lpcCntnlWrite_sets he hgen⟩⟩,
    fun core s dt n h => ltmTimerExpiry_expires dt n h, fun core s n ev h => counterOverflow_wraps h⟩

end Sys2Proof.Machine
end

section
/-! PROOFS. O23: the executive's word reads of the voted registers, and the latches they leave (R180, R202, R216, R254,
R369, R372). -/

namespace Sys2Proof.Machine

open Sys2Proof

/-! ### The access and its beat -/

/-- The access of a word read. -/
def wordRead (a : Nat) : Access := { ty := .read, addr := a, size := 4 }

/-- Its beat, with the tag of the core. -/
def readBeat (a : Nat) (tag : BitVec 6) : Beat := (wordRead a).beat tag.toNat true

/-- What waits for its answer: BRG_SYNC may keep the core waiting (R372), every other word is a load. -/
def readPend (a : Nat) (d : Fin 32) : PendAcc := if a = 0x20009000C then .sync d else .load .ldwu d

theorem readBeat_attr (a : Nat) (tag : BitVec 6) :
    (readBeat a tag).attr.getLsbD 23 = true ∧ (readBeat a tag).attr.getLsbD 9 = false ∧
      (readBeat a tag).attr.getLsbD 8 = true ∧ ((readBeat a tag).attr.extractLsb' 0 4).toNat = 1 ∧
      ((readBeat a tag).attr.extractLsb' 16 4).toNat = 2 := by
  have h : ∀ n : Fin 64, let w := attrWord 2 n.val false true 0 1 1
      w.getLsbD 23 = true ∧ w.getLsbD 9 = false ∧ w.getLsbD 8 = true ∧ (w.extractLsb' 0 4).toNat = 1 ∧
        (w.extractLsb' 16 4).toNat = 2 := by decide
  exact h ⟨tag.toNat, tag.isLt⟩

theorem readBeat_addr {a : Nat} (tag : BitVec 6) (ha : a < 2 ^ 40) : (readBeat a tag).addr.toNat = a := by
  simpa [readBeat, Access.beat, wordRead] using ha

theorem beatSize_readBeat (a : Nat) (tag : BitVec 6) : beatSize (readBeat a tag) = 4 := by
  obtain ⟨-, -, -, -, h⟩ := readBeat_attr a tag
  rw [beatSize, h]
  rfl

/-- With no store in the combining buffer, the executive's word load from a voted address is one beat (R119, R124). -/
theorem loadAct_voted {s : State} {k : Fin 8} {a : Nat} (d : Fin 32) (hc : (s.cores[k]).cbuf = none) (h4 : a % 4 = 0)
    (h : 0x200000000 ≤ a ∧ a < 0x2000A0000) :
    loadAct s k true (BitVec.ofNat 64 a) .ldwu d = .access (wordRead a) true (readPend a d) := by
  have ha : (BitVec.ofNat 64 a).toNat = a := by rw [BitVec.toNat_ofNat, Nat.mod_eq_of_lt (by omega)]
  have ht := dataTrap_word s.cores[k] false h4 (by omega)
  simp only [loadAct, loadSize, ht, ha, regionOf_voted _ h, hc, Option.isSome_none, Bool.false_eq_true, if_false]
  rfl

/-! ### The access in the fabric -/

theorem fabric_readBeat {a : Nat} (m : Option (Fin 8)) (tag : BitVec 6) (s : State)
    (h : 0x200000000 ≤ a ∧ a < 0x2000A0000) :
    fabric m (readBeat a tag) s = voteAccess m (readBeat a tag) (bwBeat m (readBeat a tag) s) := by
  obtain ⟨-, -, -, hty, -⟩ := readBeat_attr a tag
  have ha : (readBeat a tag).addr.toNat = a := readBeat_addr tag (by omega)
  simp [fabric, hty, ha, regionOf_voted _ h]

/-- A register that is neither off nor in a buffer answers a word read of the executive: at once, unless it is BRG_SYNC
and a posted write of the reader is outstanding (R372). -/
theorem voteAccess_readBeat {s : State} {a : Nat} (m : Option (Fin 8)) (tag : BitVec 6)
    (hreg : a < 0x200050000 ∨ (0x200070000 ≤ a ∧ a < 0x2000A0000)) (hoff : voteOff s a = none) :
    voteAccess m (readBeat a tag) s =
      if a = 0x20009000C ∧ s.brg.posted.any (fun p => decide (p.master = m)) = true then (.wait, s)
      else (.done (voteRead s a), voteReadEffect a s) := by
  obtain ⟨-, hexcl, hexec, hty, -⟩ := readBeat_attr a tag
  have ha : (readBeat a tag).addr.toNat = a := readBeat_addr tag (by omega)
  have hbuf : votedBuffer a = false := by
    have h : ¬ (0x200052000 ≤ a ∧ a < 0x200056000) ∧ ¬ (0x200059000 ≤ a ∧ a < 0x200060000) ∧
        ¬ (0x200064000 ≤ a ∧ a < 0x200070000) := by omega
    simp [votedBuffer, lncRx, h]
  have hsched : ¬ (0x200058000 ≤ a ∧ a < 0x200059000) := by omega
  simp only [voteAccess, ha, hoff, hexcl, hexec, hty, hbuf, beatSize_readBeat, hsched]
  simp

theorem CoresAndCountsOnly.kept {s t : State} (h : CoresAndCountsOnly s t) :
    t.tim = s.tim ∧ t.clk = s.clk ∧ t.cys = s.cys ∧ t.banks = s.banks ∧ t.brg = s.brg := by
  rw [h]
  exact ⟨rfl, rfl, rfl, rfl, rfl⟩

theorem CoresAndCountsOnly.coresOnly {s t u : State} (h : CoresAndCountsOnly s t) (g : CoresOnly t u) :
    CoresAndCountsOnly s u := by
  unfold CoresAndCountsOnly
  rw [g, h]

/-- No register of the voted blocks shows the cores or the bandwidth counts. -/
theorem CoresAndCountsOnly.voteRead {s t : State} (h : CoresAndCountsOnly s t) (a : Nat) :
    voteRead t a = voteRead s a := by
  rw [h]
  rfl

theorem CoresAndCountsOnly.ite {s t s' t' : State} {p : Prop} [Decidable p] (h : CoresAndCountsOnly s t)
    (g : CoresAndCountsOnly s' t') : CoresAndCountsOnly (if p then s else s') (if p then t else t') := by
  split
  · exact h
  · exact g

theorem CoresAndCountsOnly.readEvt0 {s t : State} (h : CoresAndCountsOnly s t) (k : Fin 3) :
    CoresAndCountsOnly (readEvt0 k s).2 (readEvt0 k t).2 := by
  have hfifo : (t.banks[k]).fifo = (s.banks[k]).fifo := by rw [h]
  unfold Machine.readEvt0
  rw [hfifo, h]
  cases (s.banks[k]).fifo <;> rfl

/-- What a read leaves behind depends on neither, and changes neither. -/
theorem CoresAndCountsOnly.voteReadEffect {s t : State} (h : CoresAndCountsOnly s t) (a : Nat) :
    CoresAndCountsOnly (voteReadEffect a s) (voteReadEffect a t) := by
  have herr : CoresAndCountsOnly (Machine.voteReadEffect 0x200090020 s) (Machine.voteReadEffect 0x200090020 t) := by
    have hlog : t.brg.log = s.brg.log := by rw [h]
    simp only [Machine.voteReadEffect, hlog]
    rw [h]
    cases s.brg.log <;> rfl
  refine .ite ?_ (.ite ?_ (.ite ?_ (.ite ?_ (.ite ?_ (.ite (h.readEvt0 0) (.ite (h.readEvt0 1) (.ite (h.readEvt0 2)
    (.ite herr h)))))))) <;>
    · rw [h]
      rfl

theorem voteReadEffect_streamKept (core : Fin 8) (a : Nat) (s : State) : StreamKept core s (voteReadEffect a s) :=
  (voteReadEffect_frame (P := [.cys, .clk, .tim, .banks, .xn, .brg]) a s (by decide) (by decide) (by decide) (by decide)
    (by decide) (by decide) (SameBut.refl _ s)).streamKept (by decide) (by decide) core

/-! ### The answer in one core -/

/-- A word answered reaches xd, whichever instruction waits for it, and PC goes on. -/
theorem answer_word {c : Core} {a b v : Nat} (d : Fin 32) (h : v < 2 ^ 32) :
    (c.answer (readPend a d) b (.done v)).x = (c.setX d (BitVec.ofNat 64 v)).x ∧
      (c.answer (readPend a d) b (.done v)).pc = c.pc + 4 := by
  unfold readPend
  split
  case isTrue =>
    refine ⟨?_, ?_⟩
    · rw [Core.answer, Core.answered, retire_x, Nat.mod_eq_of_lt h]
      exact setX_x_congr { c with pend := none } c rfl d _
    · rw [Core.answer, Core.answered, retire_pc, setX_pc]
  case isFalse =>
    refine ⟨?_, ?_⟩
    · rw [Core.answer, Core.answered, loaded_ldwu, retire_x, loadValue_ldwu h]
      exact setX_x_congr { c with pend := none } c rfl d _
    · rw [Core.answer, Core.answered, loaded_ldwu, retire_pc, setX_pc]

theorem voteRead_lt (s : State) (a : Nat) : voteRead s a < 2 ^ 32 :=
  Nat.mod_lt _ (by decide)

/-! ### A word read by cores in unison -/

section
variable {core : Fin 8} {s : State} (hx : Executes core s) (hu : Unison core s) (hc : Uncombined core s)
include hx hu hc

/-- The executive's word load from a voted address, run by cores in unison: the beat is counted, the access takes its
effect `F`, and every running core takes the answer. -/
theorem readReg_answer {a : Nat} (d : Fin 32) {r : State → BusReply} {F : State → State} (h4 : a % 4 = 0)
    (hvoted : 0x200000000 ≤ a ∧ a < 0x2000A0000)
    (hF : ∀ tag s1, CoresAndCountsOnly s s1 → voteAccess (masterOf core s) (readBeat a tag) s1 = (r s1, F s1))
    (hK : ∀ s1, CoresAndCountsOnly s s1 → StreamKept core s1 (F s1)) :
    ∃ s1, CoresAndCountsOnly s s1 ∧ CoresOnly (F s1) (readReg core d a s) ∧ StreamKept core s (F s1) ∧
      ∀ k ∈ execCores core s,
        (readReg core d a s).cores[k] = (((F s1).cores[k]).answer (readPend a d) a (r s1)).stepped := by
  obtain ⟨j, ks, hj⟩ := List.exists_cons_of_ne_nil hx.1
  have hjm : j ∈ execCores core s := by simp [hj]
  have hfabric := fabric_readBeat (masterOf core s) (s.cores[j]).tag (sent core (wordRead a) s) hvoted
  have hbw := bwBeat_bw (masterOf core s) (readBeat a (s.cores[j]).tag) (sent core (wordRead a) s)
  have hkept : StreamKept core s (bwBeat (masterOf core s) (readBeat a (s.cores[j]).tag)
      (sent core (wordRead a) s)) := by
    rw [hbw]
    exact sent_streamKept core (wordRead a) s
  generalize bwBeat (masterOf core s) (readBeat a (s.cores[j]).tag) (sent core (wordRead a) s) = s1 at hfabric hbw hkept
  have hs : CoresAndCountsOnly s s1 := by
    unfold CoresAndCountsOnly
    rw [hbw, sent_coresOnly core (wordRead a) s]
  have hstream := hkept.trans (hK s1 hs)
  rw [hF _ s1 hs] at hfabric
  have hact : ∀ k ∈ execCores core s, loadAct (fetchAll (execCores core s) s) k true (BitVec.ofNat 64 a) .ldwu d =
      .access (wordRead a) true (readPend a d) := by
    intro k hk
    refine loadAct_voted d ?_ h4 hvoted
    rw [fetchAll_at hk, fetched_cbuf]
    exact hc k hk
  obtain ⟨honly, hget⟩ := runInstr_access (act := fun t k => loadAct t k true (BitVec.ofNat 64 a) .ldwu d) hx hu hact
    (fun k hk => by rw [hu.2 k hk j hjm]; rfl) (readBeat_attr a _).1 hfabric hstream.1
  exact ⟨s1, hs, honly, hstream, hget⟩

/-- A register read by cores in unison delivers its value, and outside the cores and the bandwidth counts it leaves what
the read leaves behind. -/
theorem readReg_register {a : Nat} (d : Fin 32) (h4 : a % 4 = 0) (hlo : 0x200000000 ≤ a)
    (hreg : a < 0x200050000 ∨ (0x200070000 ≤ a ∧ a < 0x2000A0000)) (hoff : voteOff s a = none)
    (hready : a = 0x20009000C → s.brg.posted.any (fun p => decide (p.master = masterOf core s)) = false) :
    CoresAndCountsOnly (voteReadEffect a s) (readReg core d a s) ∧
      ReadsInto core s (readReg core d a s) d (voteRead s a) := by
  obtain ⟨s1, hs, honly, ⟨-, hstream⟩, hget⟩ := readReg_answer hx hu hc d (r := fun _ => .done (voteRead s a))
    (F := voteReadEffect a) h4 (by omega)
    (fun tag s1 hs => by
      obtain ⟨-, -, -, -, hbrg⟩ := hs.kept
      rw [voteAccess_readBeat _ tag hreg ((hs.voteOff a).trans hoff), hbrg, hs.voteRead, if_neg]
      rintro ⟨hsync, hposted⟩
      exact Bool.false_ne_true ((hready hsync).symm.trans hposted))
    (fun s1 _ => voteReadEffect_streamKept core a s1)
  refine ⟨(hs.voteReadEffect a).coresOnly honly, fun k hk => ?_⟩
  obtain ⟨hxk, hpk⟩ := hstream k hk
  obtain ⟨hxa, hpa⟩ := answer_word (c := (voteReadEffect a s1).cores[k]) (a := a) (b := a) d (voteRead_lt s a)
  rw [hget k hk]
  exact ⟨hxa.trans (setX_x_congr _ _ hxk d _), hpa.trans (congrArg (· + 4) hpk)⟩

/-- BRG_SYNC while a posted write of the reader is outstanding leaves the cores waiting at the read (R372). -/
theorem brgSyncRead_waits (d : Fin 32) (hoff : voteOff s 0x20009000C = none)
    (hposted : s.brg.posted.any (fun p => decide (p.master = masterOf core s)) = true) :
    ∃ t, exec (.brgSyncRead core d) s = .next t ∧ t.brg = s.brg ∧ ∀ k ∈ execCores core s,
      (t.cores[k]).pend = some (.sync d) ∧ (t.cores[k]).pc = (s.cores[k]).pc := by
  obtain ⟨s1, hs, honly, ⟨-, hstream⟩, hget⟩ := readReg_answer hx hu hc d (a := 0x20009000C) (r := fun _ => .wait)
    (F := id) (by decide) (by decide)
    (fun tag s1 hs => by
      obtain ⟨-, -, -, -, hbrg⟩ := hs.kept
      exact (voteAccess_readBeat _ tag (by decide) ((hs.voteOff _).trans hoff)).trans
        (if_pos ⟨rfl, by rw [hbrg]; exact hposted⟩))
    (fun s1 _ => ⟨rfl, fun _ _ => ⟨rfl, rfl⟩⟩)
  obtain ⟨-, -, -, -, hbrg⟩ := (hs.coresOnly honly).kept
  refine ⟨_, rfl, hbrg, fun k hk => ?_⟩
  obtain ⟨-, hpc⟩ := hstream k hk
  rw [hget k hk]
  exact ⟨rfl, hpc⟩

end

/-! ### The registers -/

theorem voteOff_cys {s : State} (hp : s.pwr.on.getLsbD 5 = true) {a : Nat} (h : 0x200080000 ≤ a ∧ a < 0x200090000) :
    voteOff s a = none := by
  have hb : (a - 0x200000000) / 65536 = 8 := by omega
  simp [voteOff, hp, hb]

theorem voteRead_timens (s : State) : voteRead s 0x200010110 = (splitNs s.tim.ns).2 % 2 ^ 32 := rfl

theorem voteRead_frcl (s : State) : voteRead s 0x200010100 = s.tim.frc.toNat % 2 ^ 32 := Nat.mod_mod _ _

theorem voteRead_berrl (s : State) : voteRead s 0x200010030 = s.clk.berrAddr.toNat % 2 ^ 32 := Nat.mod_mod _ _

theorem voteRead_tickl (s : State) : voteRead s 0x20008000C = s.cys.tick.toNat % 2 ^ 32 := Nat.mod_mod _ _

theorem voteRead_sync (s : State) : voteRead s 0x20009000C = s.brg.errCount % 2 ^ 32 := rfl

theorem voteRead_err0 {s : State} {e : BrgErr} {q : List BrgErr} (h : s.brg.log = e :: q) :
    voteRead s 0x200090020 = e.w0.toNat := by
  have hread : brgRead s 0x20 = e.w0.toNat := by simp [brgRead, h]
  exact (congrArg (· % 2 ^ 32) hread).trans (Nat.mod_eq_of_lt e.w0.isLt)

theorem voteReadEffect_err0 {s : State} {e : BrgErr} {q : List BrgErr} (h : s.brg.log = e :: q) :
    (voteReadEffect 0x200090020 s).brg = { s.brg with log := q, err := #v[e.w1, e.w2, e.w3] } := by
  simp [voteReadEffect, h]

/-- The address of FBx_EVT0. -/
def evt0Addr (b : Fin 3) : Nat := 0x200020040 + 0x10000 * b.val

/-- FBx_EVT0 shows the nanoseconds of the oldest event (R254). -/
theorem voteRead_evt0 {s : State} {b : Fin 3} {e : FieldEvent} {q : List FieldEvent} (hfit : banksFitted s = true)
    (h : (s.banks[b]).fifo = e :: q) : voteRead s (evt0Addr b) = (splitNs e.ns).2 % 2 ^ 32 := by
  have hread : fbRead s b 0x40 = (splitNs e.ns).2 := by
    unfold fbRead
    simp only [hfit, h]
    rfl
  have hblock : voteRead s (evt0Addr b) = fbRead s b 0x40 % 2 ^ 32 := by fin_cases b <;> rfl
  rw [hblock, hread]

/-- A read of FBx_EVT0 removes the oldest event of its bank alone (R254). -/
theorem voteReadEffect_evt0 {s : State} {b : Fin 3} {e : FieldEvent} {q : List FieldEvent}
    (h : (s.banks[b]).fifo = e :: q) : ((voteReadEffect (evt0Addr b) s).banks[b]).fifo = q ∧
      ∀ j, j ≠ b → (voteReadEffect (evt0Addr b) s).banks[j] = s.banks[j] := by
  have hread : voteReadEffect (evt0Addr b) s = (readEvt0 b s).2 := by fin_cases b <;> rfl
  rw [hread, readEvt0, h]
  exact ⟨congrArg Bank.fifo (vmod_self s.banks b _), fun j hj => vmod_other _ _ _ _ hj⟩

/-- Settles O23: a register read by cores in unison delivers its value and has the effect of the read
(`readReg_register`), and BRG_SYNC waits where a posted write is outstanding (`brgSyncRead_waits`). -/
theorem votedRegisterReads : Obligations.VotedRegisterReads := by
  unfold Obligations.VotedRegisterReads
  intro core s d hx hu hc hp
  have hreads {a : Nat} := readReg_register hx hu hc (a := a) d
  refine ⟨?_, ?_, ?_, ?_, fun b e q hfit hon hfifo => ?_, fun hb hg => ⟨fun e q hlog => ?_, fun hfree => ?_,
    brgSyncRead_waits hx hu hc d (voteOff_bridge hp hb hg (by decide))⟩⟩
  · obtain ⟨hrest, hread⟩ := hreads (a := 0x200010110) (by decide) (by decide) (by decide) (voteOff_ctu hp (by decide))
      (fun h => absurd h (by decide))
    obtain ⟨htim, -⟩ := hrest.kept
    exact ⟨_, rfl, voteRead_timens s ▸ hread, htim⟩
  · obtain ⟨hrest, hread⟩ := hreads (a := 0x200010100) (by decide) (by decide) (by decide) (voteOff_ctu hp (by decide))
      (fun h => absurd h (by decide))
    obtain ⟨htim, -⟩ := hrest.kept
    exact ⟨_, rfl, voteRead_frcl s ▸ hread, htim⟩
  · obtain ⟨hrest, hread⟩ := hreads (a := 0x200010030) (by decide) (by decide) (by decide) (voteOff_ctu hp (by decide))
      (fun h => absurd h (by decide))
    obtain ⟨-, hclk, -⟩ := hrest.kept
    exact ⟨_, rfl, voteRead_berrl s ▸ hread, hclk⟩
  · obtain ⟨hrest, hread⟩ := hreads (a := 0x20008000C) (by decide) (by decide) (by decide) (voteOff_cys hp (by decide))
      (fun h => absurd h (by decide))
    obtain ⟨-, -, hcys, -⟩ := hrest.kept
    exact ⟨_, rfl, voteRead_tickl s ▸ hread, hcys⟩
  · have hb : evt0Addr b = 0x200020040 + 0x10000 * b.val := rfl
    obtain ⟨hrest, hread⟩ := hreads (a := evt0Addr b) (by omega) (by omega) (by omega)
      (voteOff_bank hp b hon (by omega)) (fun h => by omega)
    obtain ⟨-, -, -, hbanks, -⟩ := hrest.kept
    obtain ⟨hhead, hothers⟩ := voteReadEffect_evt0 hfifo
    rw [voteRead_evt0 hfit hfifo] at hread
    rw [← hbanks] at hhead hothers
    exact ⟨_, rfl, hread, hhead, hothers⟩
  · obtain ⟨hrest, hread⟩ := hreads (a := 0x200090020) (by decide) (by decide) (by decide)
      (voteOff_bridge hp hb hg (by decide)) (fun h => absurd h (by decide))
    obtain ⟨-, -, -, -, hbrg⟩ := hrest.kept
    rw [voteRead_err0 hlog] at hread
    exact ⟨_, rfl, hread, hbrg.trans (voteReadEffect_err0 hlog)⟩
  · obtain ⟨hrest, hread⟩ := hreads (a := 0x20009000C) (by decide) (by decide) (by decide)
      (voteOff_bridge hp hb hg (by decide)) (fun _ => hfree)
    obtain ⟨-, -, -, -, hbrg⟩ := hrest.kept
    exact ⟨_, rfl, voteRead_sync s ▸ hread, hbrg⟩

end Sys2Proof.Machine
end

section
/-! PROOFS. O35: what the filters and comparators of an input report (R147, R252, R253, R259). -/

namespace Sys2Proof.Machine

open Sys2Proof

/-- The edge of a filtered change, as a task keeps it for its next latch (R147). -/
def Task.edge (ch : Fin 48) (v : Bool) (t : Task) : Task :=
  if v then { t with rise := putBit t.rise ch.val true } else { t with fall := putBit t.fall ch.val true }

/-- A filtered change of an input: the channel's new states, and its edge in every task. -/
def inputChanged (ch : Fin 48) (v : Bool) (s : State) : State :=
  mapTasks (Task.edge ch v) (setChan ch (fun x => { x with raw := v, filt := v }) s)

/-- A change that the bank's event FIFO is not to report does nothing else. -/
theorem execFilteredStateChange_input {dt : Nat} {ch : Fin 48} {v : Bool} {s : State}
    (hin : (s.chans[ch]).state = .input) (hv : (s.chans[ch]).filt ≠ v)
    (hco : (s.banks[bankOf ch]).coRise.getLsbD (idxOf ch) = false ∧
      (s.banks[bankOf ch]).coFall.getLsbD (idxOf ch) = false) :
    execFilteredStateChange dt ch v s = .next (inputChanged ch v (advance dt s)) := by
  obtain ⟨hrise, hfall⟩ := hco
  unfold execFilteredStateChange
  simp only [advance_chans, advance_banks, hin, hv, hrise, hfall, reduceCtorEq, false_and, ite_false, ne_eq,
    not_false_eq_true, and_self, ite_true, ite_self, Bool.false_eq_true]
  rfl

theorem edge_rise (ch : Fin 48) (t : Task) : (t.edge ch true).rise.getLsbD ch.val = true := by
  simp [Task.edge, putBit_get _ _ _ ch.isLt]

theorem edge_fall (ch : Fin 48) (t : Task) : (t.edge ch false).fall.getLsbD ch.val = true := by
  simp [Task.edge, putBit_get _ _ _ ch.isLt]

@[simp] theorem mapTasks_get (f : Task → Task) (s : State) (n : Fin 8) :
    (mapTasks f s).cys.tasks[n.val] = f s.cys.tasks[n.val] := by
  simp [mapTasks]

@[simp] theorem mapTasks_chans (f : Task → Task) (s : State) : (mapTasks f s).chans = s.chans := rfl

/-- A fault of an input channel: its state, cause and filtered state, and the fault interrupt of its bank. -/
theorem chanFault_input {ch : Fin 48} (cause p2 : Nat) {s : State} (hk : (s.chans[ch]).kind = 1) :
    ((chanFault ch cause p2 s).chans[ch]).state = .fault ∧ ((chanFault ch cause p2 s).chans[ch]).cause = cause ∧
      ((chanFault ch cause p2 s).chans[ch]).filt = false ∧
      Asserted (bankInt (bankOf ch) + 2) (chanFault ch cause p2 s).ints ∧
      ∀ j, j ≠ ch → (chanFault ch cause p2 s).chans[j] = s.chans[j] := by
  have hout : (s.chans[ch]).isOut = false := by rw [Channel.isOut, hk]; rfl
  simp only [chanFault, hout, Bool.false_eq_true, ite_false]
  refine ⟨?_, ?_, ?_, raise_bank _ 2 _ (by decide), fun j hj => ?_⟩
  · simp
  · simp
  · simp
  · simp [setChan_ne _ _ _ _ hj]

/-- The comparators of an input that no longer agree: the channel is put to FAULT and no other channel changes. -/
theorem comparatorFault {ch : Fin 48} (cause : Nat) {s : State} (hk : (s.chans[ch]).kind = 1) :
    let t := chanFault ch cause 0 (setChan ch (fun x => { x with agree := false }) s)
    (t.chans[ch]).state = .fault ∧ (t.chans[ch]).cause = cause ∧ (t.chans[ch]).filt = false ∧
      Asserted (bankInt (bankOf ch) + 2) t.ints ∧ ∀ j, j ≠ ch → t.chans[j] = s.chans[j] := by
  intro t
  have hk1 : ((setChan ch (fun x => { x with agree := false }) s).chans[ch]).kind = 1 := by simpa using hk
  obtain ⟨hstate, hcause, hfilt, hint, hother⟩ := chanFault_input cause 0 hk1
  refine ⟨hstate, hcause, hfilt, hint, fun j hj => (hother j hj).trans ?_⟩
  simp [setChan_ne _ _ _ _ hj]

/-- Settles O35: a filtered change is `inputChanged`, and both comparator faults are `comparatorFault`. -/
theorem inputFaultsAndChanges : Obligations.InputFaultsAndChanges := by
  refine ⟨fun s dt ch v hin hv hco => ⟨_, execFilteredStateChange_input hin hv hco, ?_, ?_, fun j hj => ?_,
    fun n hn => ?_, fun n hn => ?_⟩, fun s dt ch hin hk => ?_, fun s ch hin hk => ?_⟩
  · simp [inputChanged]
  · simp [inputChanged]
  · simp [inputChanged, setChan_ne _ _ _ _ hj]
  · simp [inputChanged, hn, edge_rise]
  · simp [inputChanged, hn, edge_fall]
  · obtain ⟨hstate, hcause, hfilt, hint, hother⟩ := comparatorFault 2 (s := advance dt s) (by rwa [advance_chans])
    exact ⟨_, if_pos (by rwa [advance_chans]), hstate, hcause, hfilt, hint,
      fun j hj => by rw [hother j hj, advance_chans]⟩
  · exact ⟨_, if_pos hin, comparatorFault 1 hk⟩

end Sys2Proof.Machine
end

section
/-! PROOFS. A memory in canonical form gives back the octets written to it (R8, R107). -/

namespace Sys2Proof.Machine

open Sys2Proof

theorem memGet_memWrite_below {m : List Host.Cell} {a x : Nat} (bs : List Byte) (hx : x < a) :
    memGet (memWrite m a bs) x = memGet m x := by
  induction bs generalizing m a with
  | nil => rfl
  | cons b bs ih => exact (ih (Nat.lt_succ_of_lt hx)).trans (memGet_memSet_other b (Nat.ne_of_lt hx))

theorem memRead_memWrite {m : List Host.Cell} (a : Nat) (bs : List Byte) (h : Memory.wf m = true) :
    memRead (memWrite m a bs) a bs.length = bs := by
  induction bs generalizing m a with
  | nil => rfl
  | cons b bs ih =>
    simp only [memWrite, List.length_cons, memRead, ih (a + 1) (Memory.wf_memSet a b h)]
    rw [memGet_memWrite_below bs (Nat.lt_succ_self a), memGet_memSet_self a b h]

end Sys2Proof.Machine
end

section
/-! PROOFS. O43: the state that refutes it, and the refutation. -/

namespace Sys2Proof.Machine

open Sys2Proof

/-- The image that an INPUT frame adds to reads back the frame's octets when its memory is in canonical form. -/
theorem keepInput_reads (task : Fin 8) (cycle offset : Nat) (bs : List Byte) {s : State}
    (h : ∀ i ∈ s.twl.inputs, Memory.wf i.cells = true) :
    ∃ i ∈ (keepInput task cycle offset bs s).twl.inputs, i.task = task.val ∧ i.cycle = cycle ∧
      memRead i.cells offset bs.length = bs := by
  unfold keepInput
  refine ⟨_, List.mem_append_right _ (List.mem_singleton_self _), ?_⟩
  cases hf : s.twl.inputs.find? (fun i => decide (i.task = task.val) && decide (i.cycle = cycle)) with
  | none => exact ⟨rfl, rfl, memRead_memWrite offset bs Memory.wf_nil⟩
  | some old =>
    have hmine := List.find?_some hf
    simp only [Bool.and_eq_true, decide_eq_true_eq] at hmine
    exact ⟨hmine.1, hmine.2, memRead_memWrite offset bs (h old (List.mem_of_find?_eq_some hf))⟩

/-- A STANDBY whose link is up, and whose image of task 0 and cycle 0 is not in canonical form: it lists its first
octet twice. -/
def imageListedTwice : State :=
  { pwr := { on := 0xFFF }
    clk := { clken0 := 0x7F }
    twl := { role := .standby, inputs := [{ task := 0, cycle := 0, cells := [(0, 1), (0, 1)], got := 0 }] } }

/-- The frame that brings a zero takes the first of the two entries away; the second stays. -/
theorem imageListedTwice_keeps (tick : BitVec 16) :
    execTwinInputFrame ⟨true, tick⟩ 0 0 0 [0] imageListedTwice =
      .next (keepInput 0 0 0 [0] imageListedTwice) ∧
    (keepInput 0 0 0 [0] imageListedTwice).twl.inputs = [{ task := 0, cycle := 0, cells := [(0, 1)], got := 1 }] :=
  ⟨rfl, by decide +kernel⟩

/-- Refutes O43. Its clause on TWIN_INPUT_FRAME fails where the standby holds an image that is not in canonical form
(`Memory.wf`), which the statement does not ask for; with that premise it is `keepInput_reads`. -/
theorem not_standbyFollowsAndIntegrates : ¬ Obligations.StandbyFollowsAndIntegrates := by
  unfold Obligations.StandbyFollowsAndIntegrates
  intro h
  obtain ⟨hinput, -⟩ := h
  obtain ⟨-, hstandby⟩ := hinput imageListedTwice ⟨true, 0⟩ 0 0 0 [0] (by decide +kernel) rfl
  obtain ⟨t, i, ht, hi, -, -, hread⟩ := hstandby rfl
  obtain ⟨hexec, hinputs⟩ := imageListedTwice_keeps 0
  have hnext : t = keepInput 0 0 0 [0] imageListedTwice := Host.Outcome.next.inj (ht.symm.trans hexec)
  rw [hnext, hinputs, List.mem_singleton] at hi
  rw [hi] at hread
  exact absurd hread (by decide)

end Sys2Proof.Machine
end

section
/-! PROOFS. The debugger's writes of lane memory (R404). -/

namespace Sys2Proof.Machine

open Sys2Proof

/-- The octets of a debugger's write, in one core's lane memory. -/
def memWriteAt (a : Nat) (d : List Byte) (s : State) (k : Fin 8) : State :=
  { s with mems := s.mems.set k.val (memWrite s.mems[k] a d) k.isLt }

theorem memWriteAt_self (a : Nat) (d : List Byte) (s : State) (k : Fin 8) :
    (memWriteAt a d s k).mems[k] = memWrite s.mems[k] a d := by
  simp [memWriteAt]

theorem memWriteAt_other (a : Nat) (d : List Byte) (s : State) {k i : Fin 8} (h : i ≠ k) :
    (memWriteAt a d s k).mems[i] = s.mems[i] := by
  simp [memWriteAt, Vector.getElem_set_ne, Fin.val_ne_of_ne h.symm]

/-- The lane memories are in canonical form. -/
def MemsWf (s : State) : Prop := ∀ k : Fin 8, Memory.wf s.mems[k] = true

theorem MemsWf.memWriteAt {s : State} (a : Nat) (d : List Byte) (k : Fin 8) (h : MemsWf s) :
    MemsWf (memWriteAt a d s k) := fun i => by
  by_cases hi : i = k
  · rw [hi, memWriteAt_self]
    exact Memory.wf_memWrite a d (h k)
  · rw [memWriteAt_other a d s hi]
    exact h i

/-- Every core of a list has the octets, and so have those that had them before. -/
theorem memWriteAt_all {a : Nat} {d : List Byte} (ks : List (Fin 8)) {s : State} (h : MemsWf s) (i : Fin 8)
    (hi : i ∈ ks ∨ memRead s.mems[i] a d.length = d) :
    memRead (ks.foldl (memWriteAt a d) s).mems[i] a d.length = d := by
  induction ks generalizing s with
  | nil => simpa using hi
  | cons k ks ih =>
    refine ih (h.memWriteAt a d k) ?_
    by_cases hk : i = k
    · exact .inr (by rw [hk, memWriteAt_self, memRead_memWrite a d (h k)])
    · rw [memWriteAt_other a d s hk]
      exact hi.imp_left fun hmem => (List.mem_cons.1 hmem).resolve_left hk

/-- In lane memories in canonical form the debugger reads back what it has written. -/
theorem debugMemWrite_reads (d : List Byte) {s : State} (h : MemsWf s) (i : Fin 8) (hi : i ∈ targetCores s) :
    memRead (debugMemWrite d s).mems[i] s.kiln.memAddr d.length = d := by
  have hmems : (debugMemWrite d s).mems = ((targetCores s).foldl (memWriteAt s.kiln.memAddr d) s).mems := by
    unfold debugMemWrite onTarget
    rw [mapCores_rest]
    rfl
  rw [hmems]
  exact memWriteAt_all _ h i (.inl hi)

end Sys2Proof.Machine
end

section
/-! PROOFS. O49: the state that refutes it, and the refutation. -/

namespace Sys2Proof.Machine

open Sys2Proof

/-- SERVICE in 1oo1 on lane 0, a maintenance session open and the debug lock too, the cores of lane 0 halted; the memory
of core P of lane 0 is not in canonical form: it lists the octet at the debugger's address twice. -/
def memoryListedTwice : State :=
  { mod := { state := .service, start := { kilnUp := true } }
    pwr := { on := 0xFFF }
    vrc := { mode := .oo1 }
    clk := { clken0 := 0x7F, clken1 := 0xF }
    boot := { running := some 2 }
    cores := Vector.replicate 8 { halted := true }
    mems := (Vector.replicate 8 []).set 0 [(0x0100000000, 1), (0x0100000000, 1)]
    kiln := { inForce := [((0x2001, 1), 0)], memAddr := 0x0100000000
              sessions := (Vector.replicate 6 {}).set 0 { open_ := true, maint := true } } }

theorem memoryListedTwice_served : Served (.gdp 0) memoryListedTwice := by
  refine ⟨by decide +kernel, by decide +kernel, fun n hn => ?_⟩
  obtain rfl : 0 = n := by simpa using hn
  decide +kernel

theorem memoryListedTwice_target : targetCores memoryListedTwice = [0, 1] ∧ targetHalted memoryListedTwice = true := by
  decide +kernel

/-- The write of four zeros takes the first of the two entries away, and the second is read back. -/
theorem memoryListedTwice_reads_back :
    memRead (serve (.gdp 0) (dictWrite (.gdp 0) 0x2012 2 [0, 0, 0, 0]) memoryListedTwice).mems[(0 : Fin 8)]
      0x0100000000 4 = [1, 0, 0, 0] := by
  decide +kernel

/-- Refutes O49. Its clause on a DEBUG_MEMORY_ACCESS that writes fails where a lane memory is not in canonical form
(`Memory.wf`), which the statement does not ask for; with that premise what is written is read back,
`debugMemWrite_reads`. -/
theorem not_imagesFirmwareAndDebugger : ¬ Obligations.ImagesFirmwareAndDebugger := by
  unfold Obligations.ImagesFirmwareAndDebugger
  intro h
  obtain ⟨hdebug, -⟩ := h
  obtain ⟨htarget, hhalted⟩ := memoryListedTwice_target
  obtain ⟨-, -, -, hmem, -⟩ := hdebug memoryListedTwice (.gdp 0) 0 [1] memoryListedTwice_served (by decide +kernel)
    (by decide +kernel) (by decide +kernel) htarget
  obtain ⟨-, -, -, hwrite⟩ := hmem hhalted
  obtain ⟨t, ht, -, hread⟩ := hwrite 4 [0, 0, 0, 0] (by decide +kernel)
  have hnext : serve (.gdp 0) (dictWrite (.gdp 0) 0x2012 2 [0, 0, 0, 0]) memoryListedTwice = t :=
    Host.Outcome.next.inj ht
  have hback := hread 0 (List.mem_cons_self ..)
  rw [← hnext] at hback
  exact absurd (memoryListedTwice_reads_back.symm.trans hback) (by decide)

end Sys2Proof.Machine
end

section
/-! PROOFS. O27: the state that refutes it, and the refutation. -/

namespace Sys2Proof.Machine

open Sys2Proof

/-- 1oo1 on lane 1 while lane 0 is ACTIVE too: task 0 runs, and core P of lane 0, the lead core of the vote, holds 65
in a0, where core P of lane 1, the core that executes, holds 0. -/
def servedBesideTheVote : State :=
  { mod := { state := .service }
    pwr := { on := 0xFFF }
    vrc := { mode := .oo1, svc := 1, lanes := (Vector.replicate 4 {}).set 0 { state := .active } }
    clk := { clken0 := 0x7F }
    cys := { run := true, current := some 0, tasks := (Vector.replicate 8 {}).set 0 { state := .run } }
    cores := (Vector.replicate 8 {}).set 0 (({} : Core).setX 4 65) }

theorem servedBesideTheVote_lead : leadCore servedBesideTheVote = some 0 ∧
    ((servedBesideTheVote.cores[(0 : Fin 8)]).getX 4).toNat = 65 := by
  decide +kernel

theorem servedBesideTheVote_executes : Executes 0 servedBesideTheVote := by
  unfold Executes
  decide +kernel

theorem servedBesideTheVote_unison : Unison 0 servedBesideTheVote := ⟨trivial, by decide +kernel⟩

theorem servedBesideTheVote_uncombined : Uncombined 0 servedBesideTheVote := by
  unfold Uncombined
  decide +kernel

/-- The state TASK_RETURN leads to: the executive records the 65 of the lead core, and the core that executes writes
the 0 of its own a0 to CYS_DONE. -/
def servedBesideTheVoteReturned : State :=
  execDispatch (afterClose (execDrop 0 (runInstr 0 (doneAct 0)
    (record 9 0x8007 0 (65 % 2 ^ 32) 0 servedBesideTheVote))))

theorem servedBesideTheVote_returns : execTaskReturn servedBesideTheVote = .next servedBesideTheVoteReturned := by
  obtain ⟨hlead, hvalue⟩ := servedBesideTheVote_lead
  have hready : (servedBesideTheVote.cores[(0 : Fin 8)]).ready = true := by decide +kernel
  simp only [execTaskReturn, hlead, show servedBesideTheVote.cys.current = some 0 from rfl, hready, hvalue]
  rfl

/-- The cycle goes to its commit. -/
theorem servedBesideTheVoteReturned_commits :
    (servedBesideTheVoteReturned.cys.tasks[(0 : Fin 8)]).state ≠ .idle := by
  decide +kernel

/-- Refutes O27. Its clause on a TASK_RETURN of a value above 64 speaks of the lead core of the vote, and the hypotheses
leave open 1oo1, where another core may execute: its own a0 is what CYS_DONE gets. -/
theorem not_tasksReturnAndCallTheExecutive : ¬ Obligations.TasksReturnAndCallTheExecutive := by
  unfold Obligations.TasksReturnAndCallTheExecutive
  intro h
  obtain ⟨-, -, hreturn, -⟩ := h
  obtain ⟨hlead, hvalue⟩ := servedBesideTheVote_lead
  obtain ⟨t, ht, hidle, -⟩ := hreturn servedBesideTheVote 0 0 rfl hlead servedBesideTheVote_executes
    servedBesideTheVote_unison servedBesideTheVote_uncombined (by decide +kernel) (by rw [hvalue]; decide)
    (by decide +kernel) (by decide +kernel) (by decide +kernel)
  have hnext : t = servedBesideTheVoteReturned := Host.Outcome.next.inj (ht.symm.trans servedBesideTheVote_returns)
  rw [hnext] at hidle
  exact servedBesideTheVoteReturned_commits hidle

end Sys2Proof.Machine
end

section
/-! PROOFS. What the cycle sequencer's operations leave of the tasks, the tick and the gap (R144-R157, R172). -/

namespace Sys2Proof.Machine

open Sys2Proof

theorem SameBut.cys {P : List Part} {s t : State} (h : SameBut P s t) (hc : Part.cys ∉ P) : t.cys = s.cys := h.2 .cys hc

theorem SameBut.ints {P : List Part} {s t : State} (h : SameBut P s t) (hi : Part.ints ∉ P) : t.ints = s.ints :=
  h.2 .ints hi

theorem SameBut.chans {P : List Part} {s t : State} (h : SameBut P s t) (hc : Part.chans ∉ P) : t.chans = s.chans :=
  h.2 .chans hc

/-! ### Single tasks -/

theorem setTask_get (n j : Fin 8) (f : Task → Task) (s : State) :
    (setTask n f s).cys.tasks[j] = if j = n then f s.cys.tasks[j] else s.cys.tasks[j] := vmod_get _ _ _ _

theorem setTask_self (n : Fin 8) (f : Task → Task) (s : State) :
    (setTask n f s).cys.tasks[n] = f s.cys.tasks[n] := vmod_self _ _ _

theorem setTask_other {n j : Fin 8} (f : Task → Task) (s : State) (h : j ≠ n) :
    (setTask n f s).cys.tasks[j] = s.cys.tasks[j] := vmod_other _ _ _ _ h

/-! ### The executive and the sequencer -/

/-- The sequencer but for what the executive keeps in it: whose code runs, and the saved contexts (R152, R172). -/
def Cys.seqPart (c : Cys) : Cys := { c with current := none, saved := Vector.replicate 9 none }

theorem execSave_seqPart (s : State) : (execSave s).cys.seqPart = s.cys.seqPart := by
  unfold execSave
  split <;> rfl

theorem execWait_cys (s : State) : (execWait s).cys = s.cys :=
  (execWait_frame (P := [.cores, .lic]) s (by decide) (by decide) (SameBut.refl _ s)).cys (by decide)

theorem execEnter_seqPart (n : Fin 9) (s : State) : (execEnter n s).cys.seqPart = s.cys.seqPart := by
  unfold execEnter
  dsimp only
  split
  · rfl
  · rw [mirrorShadow_rest, mapCores_rest]
    rfl

theorem execDispatch_seqPart (s : State) : (execDispatch s).cys.seqPart = s.cys.seqPart := by
  unfold execDispatch
  dsimp only
  split
  · rfl
  · split
    · rfl
    · split
      · rw [execEnter_seqPart, execSave_seqPart]
      · rw [execWait_cys, execSave_seqPart]

theorem execDispatch_rest (s : State) : SameBut [.cys, .cores, .lic] s (execDispatch s) :=
  execDispatch_frame s (by decide) (by decide) (by decide) (SameBut.refl _ s)

@[simp] theorem execDispatch_tasks (s : State) : (execDispatch s).cys.tasks = s.cys.tasks :=
  (congrArg Cys.tasks (execDispatch_seqPart s) :)

@[simp] theorem execDispatch_ints (s : State) : (execDispatch s).ints = s.ints := (execDispatch_rest s).ints (by decide)

@[simp] theorem execDispatch_chans (s : State) : (execDispatch s).chans = s.chans :=
  (execDispatch_rest s).chans (by decide)

/-! ### Latches -/

/-- What the latch of a task leaves of every task: its cycle, its release and its skips (R144, R157). -/
def Task.release (t : Task) : Nat × Int × Nat × Bool := (t.cycle, t.relNs, t.skip, t.skipNext)

/-- Nothing is taken from what a tick shows: the tick, the marks of the gap, the queue of latches, the releases of the
tasks, and no interrupt's bit. -/
structure TickKept (s t : State) : Prop where
  tick : t.cys.tick = s.cys.tick
  gap : t.cys.gap = s.cys.gap
  warned : t.cys.warned = s.cys.warned
  latchQ : t.cys.latchQ = s.cys.latchQ
  release : ∀ n : Fin 8, (t.cys.tasks[n]).release = (s.cys.tasks[n]).release
  ints : ∀ m, Asserted m s.ints → Asserted m t.ints

theorem TickKept.refl (s : State) : TickKept s s := ⟨rfl, rfl, rfl, rfl, fun _ => rfl, fun _ => id⟩

theorem TickKept.trans {s t u : State} (h : TickKept s t) (g : TickKept t u) : TickKept s u :=
  ⟨g.tick.trans h.tick, g.gap.trans h.gap, g.warned.trans h.warned, g.latchQ.trans h.latchQ,
    fun n => (g.release n).trans (h.release n), fun m hm => g.ints m (h.ints m hm)⟩

theorem TickKept.of_seqPart {s t : State} (hc : t.cys.seqPart = s.cys.seqPart) (hi : t.ints = s.ints) : TickKept s t :=
  ⟨(congrArg Cys.tick hc :), (congrArg Cys.gap hc :), (congrArg Cys.warned hc :), (congrArg Cys.latchQ hc :),
    fun n => (congrArg (fun c : Cys => (c.tasks[n]).release) hc :), fun _ hm => hi ▸ hm⟩

theorem SameBut.tickKept {P : List Part} {s t : State} (h : SameBut P s t) (hc : Part.cys ∉ P) (hi : Part.ints ∉ P) :
    TickKept s t := .of_seqPart (by rw [h.cys hc]) (h.ints hi)

theorem setTask_tickKept {n : Fin 8} {f : Task → Task} (s : State) (hf : ∀ t, (f t).release = t.release) :
    TickKept s (setTask n f s) := by
  refine ⟨rfl, rfl, rfl, rfl, fun j => ?_, fun _ => id⟩
  rw [setTask_get]
  split
  · exact hf _
  · rfl

/-- The Xenex side of a latch changes what the sequencer knows of the Xenex data, and may raise 300 (R163, R164). -/
theorem latchXenex_kept (n : Fin 8) (c : TaskCfg) (s : State) :
    (∃ last lateLast late started complete, (latchXenex n c s).1.cys = { s.cys with
      xnLast := last, xnLateLast := lateLast, xnLateCount := late, xnStarted := started, xnComplete := complete }) ∧
    ∀ m, Asserted m s.ints → Asserted m (latchXenex n c s).1.ints := by
  unfold latchXenex
  cases happ : s.cys.app with
  | none => exact ⟨⟨_, _, _, _, _, rfl⟩, fun _ => id⟩
  | some a =>
    dsimp only
    split_ifs with hconsumer hstart hok
    · exact ⟨⟨_, _, _, _, _, rfl⟩, fun _ => id⟩
    · rw [raise_cys, record_cys]
      exact ⟨⟨_, _, _, _, _, rfl⟩, fun m hm => raise_asserted_of _ m _ (by rwa [record_ints])⟩
    · exact ⟨⟨_, _, _, _, _, rfl⟩, fun _ => id⟩
    · exact ⟨⟨_, _, _, _, _, rfl⟩, fun _ => id⟩

theorem latchXenex_tickKept (n : Fin 8) (c : TaskCfg) (s : State) : TickKept s (latchXenex n c s).1 := by
  obtain ⟨⟨_, _, _, _, _, hcys⟩, hints⟩ := latchXenex_kept n c s
  exact ⟨by rw [hcys], by rw [hcys], by rw [hcys], by rw [hcys], fun _ => by rw [hcys], hints⟩

/-- After its Xenex side a latch only copies octets and sends them. -/
theorem ownLatch_rest (n : Fin 8) (c : TaskCfg) (s : State) :
    SameBut [.vrc, .twl, .vmem, .bw, .lnc] (latchXenex n c s).1 (ownLatch n c s) := by
  have hcopied := fr_foldl (P := [.vrc, .twl, .vmem, .bw, .lnc]) (l := c.latchList)
    (f := fun st e => latchEntry (decide ((s.cys.app.bind (fun a => a.xnTask)) = some n)) c.inImg e st)
    (vwrite_frame (sharedBase + c.inImg) (headerBytes (latchXenex n c s).1 ((latchXenex n c s).1.cys.tasks[n])
      (latchXenex n c s).2.1 (latchXenex n c s).2.2) _ (by decide) (by decide) (by decide)
      (SameBut.refl _ (latchXenex n c s).1))
    (fun t e ht => latchEntry_frame _ _ e t (by decide) (by decide) (by decide) (by decide) ht)
  have hmarked := setLnc_frame (fun l => { l with latched := l.latched ||| slotsLatched c }) _ (by decide) hcopied
  unfold ownLatch
  exact fr_ite (sendInput_frame _ _ _ _ _ _ (by decide) hmarked) hmarked

theorem ownLatch_tickKept (n : Fin 8) (c : TaskCfg) (s : State) : TickKept s (ownLatch n c s) :=
  (latchXenex_tickKept n c s).trans ((ownLatch_rest n c s).tickKept (by decide) (by decide))

end Sys2Proof.Machine
end

section
/-! PROOFS. O25: the tick, the latches and the gap (R144-R147, R152, R156, R157). -/

namespace Sys2Proof.Machine

open Sys2Proof

/-! ### The latch at the head of the queue -/

/-- The state a latch leaves its task in (R146-R148). -/
def Task.latched (lastLatch : Nat) (x : Task) : Task :=
  { x with state := .latch, rise := 0, fall := 0, first := false, firstFiring := false, step := false
           skipNow := 0, count := (x.count + 1) % 2 ^ 32, cycles := inc32 x.cycles, execCounts := 0
           lastLatch := some lastLatch }

/-- Where no standby follows, the octets of a latch are its own, those of the active's image, or none; then the task
is latched. -/
theorem beginLatch_eq {n : Fin 8} {s : State} (hrole : s.twl.role ≠ .standby) :
    beginLatch n s = s ∨ ∃ u e, beginLatch n s = setTask n (Task.latched e) u ∧
      ((∃ c, u = ownLatch n c s) ∨ SameBut [.vrc, .twl, .vmem] s u) := by
  unfold beginLatch
  cases hcfg : taskCfg s n with
  | none => exact .inl rfl
  | some c =>
    refine .inr ⟨_, _, rfl, ?_⟩
    split_ifs with hfollows
    · right
      cases hpeer : peerImage n c s with
      | none => exact SameBut.refl _ s
      | some i =>
        exact setTwl_frame _ _ (by decide) (.inr fun _ => rfl)
          (vwrite_frame _ _ s (by decide) (by decide) (by decide) (SameBut.refl _ s))
    · exact .inl ⟨c, rfl⟩

theorem beginLatch_tickKept {n : Fin 8} {s : State} (hrole : s.twl.role ≠ .standby) : TickKept s (beginLatch n s) := by
  obtain h | ⟨u, e, h, hu⟩ := beginLatch_eq (n := n) hrole
  · rw [h]
    exact .refl s
  · have hkept : TickKept s u := by
      obtain ⟨c, rfl⟩ | hu := hu
      · exact ownLatch_tickKept n c s
      · exact hu.tickKept (by decide) (by decide)
    rw [h]
    exact hkept.trans (setTask_tickKept u fun _ => rfl)

theorem ownLatch_tasks (n : Fin 8) (c : TaskCfg) (s : State) : (ownLatch n c s).cys.tasks = s.cys.tasks := by
  obtain ⟨⟨_, _, _, _, _, hcys⟩, -⟩ := latchXenex_kept n c s
  rw [(ownLatch_rest n c s).cys (by decide), hcys]

theorem beginLatch_other {n j : Fin 8} {s : State} (hrole : s.twl.role ≠ .standby) (hj : j ≠ n) :
    (beginLatch n s).cys.tasks[j] = s.cys.tasks[j] := by
  obtain h | ⟨u, e, h, hu⟩ := beginLatch_eq (n := n) hrole
  · rw [h]
  · rw [h, setTask_other _ _ hj]
    obtain ⟨c, rfl⟩ | hu := hu
    · rw [ownLatch_tasks]
    · rw [hu.cys (by decide)]

/-- A held commit of the queue is taken up. -/
def releaseOne (now : Int) (t : State) (x : Fin 8 × Nat) : State :=
  if (t.cys.tasks[x.1]).state = .held then
    setTask x.1 (fun y => { y with state := .commit })
      { t with cys := { t.cys with busyUntil := max now t.cys.busyUntil + commitNs t x } }
  else t

theorem releaseHeld_eq (s : State) :
    releaseHeld s = startCommit (s.cys.commitQ.foldl (releaseOne s.tim.elapsed) s) := rfl

theorem startCommit_tickKept (s : State) : TickKept s (startCommit s) := by
  unfold startCommit
  split
  · split_ifs
    · exact .refl s
    · exact ⟨rfl, rfl, rfl, rfl, fun _ => rfl, fun _ => id⟩
  · exact .refl s

theorem startCommit_tasks (s : State) : (startCommit s).cys.tasks = s.cys.tasks := by
  unfold startCommit
  split
  · split_ifs <;> rfl
  · rfl

theorem releaseOne_tickKept (now : Int) (t : State) (x : Fin 8 × Nat) : TickKept t (releaseOne now t x) := by
  unfold releaseOne
  split_ifs
  · refine TickKept.trans (t := { t with cys := { t.cys with busyUntil := max now t.cys.busyUntil + commitNs t x } }) ?_
      (setTask_tickKept _ fun _ => rfl)
    exact ⟨rfl, rfl, rfl, rfl, fun _ => rfl, fun _ => id⟩
  · exact .refl t

theorem releaseOne_run {now : Int} {t : State} {x : Fin 8 × Nat} {n : Fin 8} (h : (t.cys.tasks[n]).state = .run) :
    ((releaseOne now t x).cys.tasks[n]).state = .run := by
  unfold releaseOne
  split_ifs with hheld
  · have hn : n ≠ x.1 := by
      rintro rfl
      exact absurd (h.symm.trans hheld) (by decide)
    rwa [setTask_other _ _ hn]
  · exact h

theorem releaseHeld_tickKept (s : State) : TickKept s (releaseHeld s) := by
  have hfold : ∀ (q : List (Fin 8 × Nat)) (t : State), TickKept t (q.foldl (releaseOne s.tim.elapsed) t) := by
    intro q
    induction q with
    | nil => exact TickKept.refl
    | cons x q ih => exact fun t => (releaseOne_tickKept _ t x).trans (ih _)
  rw [releaseHeld_eq]
  exact (hfold _ s).trans (startCommit_tickKept _)

theorem releaseHeld_run {s : State} {n : Fin 8} (h : (s.cys.tasks[n]).state = .run) :
    ((releaseHeld s).cys.tasks[n]).state = .run := by
  have hfold : ∀ (q : List (Fin 8 × Nat)) (t : State), (t.cys.tasks[n]).state = .run →
      ((q.foldl (releaseOne s.tim.elapsed) t).cys.tasks[n]).state = .run := by
    intro q
    induction q with
    | nil => exact fun _ => id
    | cons x q ih => exact fun t ht => ih _ (releaseOne_run ht)
  rw [releaseHeld_eq, startCommit_tasks]
  exact hfold _ s h

theorem seqLatch_tickKept {s : State} (hrole : s.twl.role ≠ .standby) : TickKept s (seqLatch s) := by
  unfold seqLatch
  split
  · exact releaseHeld_tickKept s
  · split_ifs
    · exact .refl s
    · exact beginLatch_tickKept hrole

/-- A running task that waits for no latch runs on. -/
theorem seqLatch_run {s : State} {n : Fin 8} (hrole : s.twl.role ≠ .standby) (hn : n ∉ s.cys.latchQ)
    (h : (s.cys.tasks[n]).state = .run) : ((seqLatch s).cys.tasks[n]).state = .run := by
  unfold seqLatch
  split
  · exact releaseHeld_run h
  next m q hq =>
    split_ifs
    · exact h
    · have hnm : n ≠ m := fun hnm => hn (by rw [hq, hnm]; exact List.mem_cons_self ..)
      rwa [beginLatch_other hrole hnm]

/-! ### A tick -/

theorem execDispatch_tickKept (s : State) : TickKept s (execDispatch s) :=
  .of_seqPart (execDispatch_seqPart s) (execDispatch_ints s)

/-- A tick of the grid up to its releases: GAP_END, an online change that has been switched in, and the tick shown
(R145, R177). -/
def gridTick (now : Int) (s : State) : State :=
  let s2 := seqSwitched (raise 297 s)
  { s2 with cys := { s2.cys with
      tick := BitVec.ofInt 64 now, gap := false, warned := false, waiting := false, switchGap := false
      olcSameGap := false
      olc := if s2.cys.olc = .switching then .accepted else s2.cys.olc
      bgRunning := s2.cys.bgRunning || decide ((s2.cys.app.map (fun a => a.bgEntry)).getD 0 ≠ 0) } }

theorem seqTick_grid {now : Int} {s : State} (hstep : s.cys.stepPend = none) (hcfg : configured s ≠ [])
    (hgrid : now % kMin s = 0) :
    seqTick now s = execDispatch (seqLatch (seqRelease now (gridTick now s))) := by
  have hs : seqStep now s = s := by simp [seqStep, hstep]
  simp only [seqTick, hs, hcfg, hgrid, ne_eq, not_false_eq_true, decide_true, Bool.and_self, ite_true]
  rfl

theorem seqSwitched_kept (s : State) :
    (seqSwitched s).cys.tasks = s.cys.tasks ∧ (seqSwitched s).cys.app = s.cys.app ∧
      (seqSwitched s).twl.role = s.twl.role ∧ ∀ m, Asserted m s.ints → Asserted m (seqSwitched s).ints := by
  unfold seqSwitched
  split
  · exact ⟨by rw [raise_cys, record_cys], by rw [raise_cys, record_cys], by rw [raise_twl, record_twl_role],
      fun m hm => raise_asserted_of _ m _ (by rwa [record_ints])⟩
  · exact ⟨rfl, rfl, rfl, fun _ => id⟩

theorem gridTick_kept (now : Int) (s : State) :
    (gridTick now s).cys.tasks = s.cys.tasks ∧ (gridTick now s).cys.app = s.cys.app ∧
      (gridTick now s).twl.role = s.twl.role ∧ Asserted 297 (gridTick now s).ints := by
  obtain ⟨htasks, happ, hrole, hints⟩ := seqSwitched_kept (raise 297 s)
  exact ⟨htasks.trans (by rw [raise_cys]), happ.trans (by rw [raise_cys]), hrole.trans (by rw [raise_twl]),
    hints 297 (raise_asserted 297 s (by decide))⟩

/-- What a release makes of a task due, by whether the task is idle (R144, R156). -/
def Task.due (now : Int) (c : TaskCfg) (t : Task) : Task :=
  if t.ready then t.released now (max 1 c.period : Nat) else t.skipped

theorem taskCfg_congr {s t : State} (h : t.cys.app = s.cys.app) (n : Fin 8) : taskCfg t n = taskCfg s n := by
  rw [taskCfg, taskCfg, h]

theorem seqRelease_due {now : Int} {s t : State} {n : Fin 8} {c : TaskCfg} (htasks : t.cys.tasks = s.cys.tasks)
    (happ : t.cys.app = s.cys.app) (hc : taskCfg s n = some c) (hdue : releasedAt now s n = true) :
    ((seqRelease now t).cys.tasks[n]) = (s.cys.tasks[n]).due now c := by
  have hct : taskCfg t n = some c := (taskCfg_congr happ n).trans hc
  have hdt : releasedAt now t n = true := by
    simpa only [releasedAt, hct, hc, htasks] using hdue
  simp [seqRelease, Task.due, hct, hdt, htasks]

/-- A tick of the grid: what it shows, and what it releases. -/
theorem seqTick_releases {now : Int} {s : State} (hstep : s.cys.stepPend = none) (hrole : s.twl.role ≠ .standby)
    (hcfg : configured s ≠ []) (hgrid : now % kMin s = 0) :
    (seqTick now s).cys.tick = BitVec.ofInt 64 now ∧ (seqTick now s).cys.gap = false ∧
      (seqTick now s).cys.warned = false ∧ Asserted 297 (seqTick now s).ints ∧
      ∀ (n : Fin 8) (c : TaskCfg), taskCfg s n = some c → releasedAt now s n = true →
        ((seqTick now s).cys.tasks[n]).release = ((s.cys.tasks[n]).due now c).release := by
  obtain ⟨htasks, happ, htwl, hint⟩ := gridTick_kept now s
  have hkept : TickKept (seqRelease now (gridTick now s)) (seqTick now s) := by
    rw [seqTick_grid hstep hcfg hgrid]
    exact (seqLatch_tickKept (by show (gridTick now s).twl.role ≠ .standby; rwa [htwl])).trans (execDispatch_tickKept _)
  exact ⟨hkept.tick, hkept.gap, hkept.warned, hkept.ints 297 hint,
    fun n c hc hdue => (hkept.release n).trans (by rw [seqRelease_due htasks happ hc hdue])⟩

/-! ### The commands -/

/-- LATCH_END: the task at the head of the queue runs, and its interrupt is asserted. -/
def latchEnded (n : Fin 8) (q : List (Fin 8)) (s : State) : State :=
  raise (288 + n.val) (setTask n (fun t => { t with state := if t.state = .latch then .run else t.state })
    { s with cys := { s.cys with latchQ := q } })

theorem execLatchEnd_eq {dt : Nat} {n : Fin 8} {q : List (Fin 8)} {s : State}
    (hq : (advance dt s).cys.latchQ = n :: q) :
    execLatchEnd dt s = .next (execDispatch (seqLatch (latchEnded n q (advance dt s)))) := by
  simp only [execLatchEnd, hq]
  rfl

theorem latchEnd_runs {n : Fin 8} {q : List (Fin 8)} {s : State} (hn : n ∉ q)
    (hlatch : (s.cys.tasks[n]).state = .latch) (hrole : s.twl.role ≠ .standby) :
    let t := execDispatch (seqLatch (latchEnded n q s))
    (t.cys.tasks[n]).state = .run ∧ t.cys.latchQ = q ∧ Asserted (288 + n.val) t.ints := by
  have hrun : ((latchEnded n q s).cys.tasks[n]).state = .run := by
    rw [latchEnded, raise_cys, setTask_self]
    exact if_pos hlatch
  have hqueue : (latchEnded n q s).cys.latchQ = q := by
    rw [latchEnded, raise_cys]
    rfl
  have hint : Asserted (288 + n.val) (latchEnded n q s).ints := raise_asserted _ _ (by omega)
  have hr : (latchEnded n q s).twl.role ≠ .standby := by
    rw [latchEnded, raise_twl]
    exact hrole
  have hkept := (seqLatch_tickKept hr).trans (execDispatch_tickKept _)
  refine ⟨?_, hkept.latchQ.trans hqueue, hkept.ints _ hint⟩
  rw [execDispatch_tasks]
  exact seqLatch_run hr (by rwa [hqueue]) hrun

/-- TICK at a tick that network time has reached already, or with the sequencer stopped. -/
theorem execTick_idle {dt : Nat} {s : State} (h : (advance dt s).cys.run = false ∨
    ((advance dt s).cys.stepPend = none ∧ tickNow (advance dt s) ≤ ((advance dt s).cys.tick.toNat : Int))) :
    execTick dt s = .next (advance dt s) := by
  unfold execTick
  obtain hstop | ⟨hstep, hle⟩ := h
  · simp only [hstop, ite_true]
  · simp only [hstep, hle, ite_true, ite_self]

theorem execTick_due {dt : Nat} {s : State} (hrun : (advance dt s).cys.run = true)
    (hstep : (advance dt s).cys.stepPend = none)
    (hlt : ((advance dt s).cys.tick.toNat : Int) < tickNow (advance dt s)) :
    execTick dt s = .next (seqTick (tickNow (advance dt s)) (advance dt s)) := by
  unfold execTick
  simp only [hrun, hstep, Bool.true_eq_false, ite_false, Int.not_le.2 hlt]

/-- What the release shows of a task that was due. -/
theorem release_due {now : Int} {c : TaskCfg} {t u : Task} (h : u.release = (t.due now c).release) :
    if t.ready then u.cycle = (now / (max 1 c.period : Nat)).toNat ∧ u.relNs = now * 250000
    else u.skip = inc16 t.skip ∧ u.skipNext = false := by
  simp only [Task.release, Prod.mk.injEq] at h
  obtain ⟨hcycle, hrel, hskip, hnext⟩ := h
  unfold Task.due at hcycle hrel hskip hnext
  split_ifs with hready
  · simp only [hready, ite_true] at hcycle hrel
    exact ⟨hcycle, hrel⟩
  · simp only [hready] at hskip hnext
    exact ⟨hskip, hnext⟩

/-- GAP_WARN marks the warning and takes the acknowledgement back (R145, R152). -/
def gapWarned (s : State) : State := { s with cys := { s.cys with warned := true, ack := false } }

theorem execGapWarn_eq {dt : Nat} {s : State} (hrun : (advance dt s).cys.run = true)
    (hwarned : (advance dt s).cys.warned = false) (hcfg : configured (advance dt s) ≠ []) :
    execGapWarn dt s = .next (raise 296 (gapWarned (advance dt s))) :=
  if_neg (by simp [hrun, hwarned, hcfg])

/-- The gap begins: quiet where the executive has acknowledged it and no cycle is open (R151, R152). -/
def gapBegun (s : State) : State :=
  let quiet := s.cys.ack && decide (openMask s = 0)
  { s with cys := { s.cys with
      gap := true, quiet := quiet, resvSafety := false, resvDump := false
      quietGaps := if quiet then inc32 s.cys.quietGaps else s.cys.quietGaps } }

/-- A gap without acknowledgement is counted, and its dump moves. -/
def gapUnacked (s : State) : State :=
  raise 303 (record 9 0x8003 ((tickNow s + 1).toNat % 2 ^ 32) 0 0
    { s with cys := { s.cys with noacks := inc32 s.cys.noacks, movedDump := s.cys.movedDump || s.cys.dump } })

theorem execGapStart_eq {dt : Nat} {s : State} (hwarned : (advance dt s).cys.warned = true)
    (hgap : (advance dt s).cys.gap = false) :
    execGapStart dt s = if (advance dt s).cys.ack then .next (gapBegun (advance dt s))
      else .next (gapUnacked (gapBegun (advance dt s))) :=
  if_neg (by simp [hwarned, hgap])

theorem gapUnacked_cys (s : State) : (gapUnacked s).cys =
    { s.cys with noacks := inc32 s.cys.noacks, movedDump := s.cys.movedDump || s.cys.dump } := by
  rw [gapUnacked, raise_cys, record_cys]

/-- Settles O25: a tick of the grid is `seqTick_releases`, the end of a latch `latchEnd_runs`; the gap's commands change
the marks of the gap alone. -/
theorem ticksReleaseAndLatchTasks : Obligations.TicksReleaseAndLatchTasks := by
  refine ⟨fun s dt => execTick_idle, fun s dt => ?_, fun s dt n q => ?_, fun s dt => ?_, fun s dt => ?_⟩ <;> intro s0
  · intro now hrun hstep hrole hlt hcfg hgrid
    obtain ⟨htick, hgap, hwarned, hint, hrel⟩ := seqTick_releases hstep hrole hcfg hgrid
    exact ⟨_, execTick_due hrun hstep hlt, htick, hgap, hwarned, hint,
      fun n c hc hdue => release_due (hrel n c hc hdue)⟩
  · intro hq hn hlatch hrole
    exact ⟨_, execLatchEnd_eq hq, latchEnd_runs hn hlatch hrole⟩
  · intro hrun hwarned hcfg
    refine ⟨_, execGapWarn_eq hrun hwarned hcfg, ?_⟩
    rw [raise_cys]
    exact ⟨rfl, rfl, rfl, raise_asserted 296 _ (by decide)⟩
  · intro hwarned hgap
    cases hack : s0.cys.ack with
    | true =>
      refine ⟨gapBegun s0, (execGapStart_eq hwarned hgap).trans (if_pos hack), rfl, ?_, rfl, fun _ => rfl, nofun⟩
      rw [← hack]
      rfl
    | false =>
      refine ⟨gapUnacked (gapBegun s0), (execGapStart_eq hwarned hgap).trans (if_neg (by simp [s0, hack])), ?_⟩
      rw [gapUnacked_cys]
      exact ⟨rfl, by rw [← hack]; rfl, rfl, nofun, fun _ => ⟨rfl, raise_asserted 303 _ (by decide)⟩⟩

end Sys2Proof.Machine
end

section
/-! PROOFS. Posting, and the close of a cycle where no standby compares (R149, R150, R156, R324). -/

namespace Sys2Proof.Machine

open Sys2Proof

/-! ### Posting changes nothing of the sequencer (R150, R262) -/

theorem glazeRefuse_cys (ch : Fin 48) (code p1 p2 : Nat) (s : State) : (glazeRefuse ch code p1 p2 s).cys = s.cys := by
  rw [glazeRefuse, raise_cys, record_cys, setBank_cys]

theorem launch_cys (ch : Fin 48) (st late step : Bool) (s : State) : (launch ch st late step s).2.cys = s.cys := by
  simp only [launch, setBank_cys, setChan_cys]
  split <;> rfl

theorem launchLate_cys (ch : Fin 48) (st step : Bool) (lateNs : Int) (s : State) :
    (launchLate ch st step lateNs s).cys = s.cys := by
  simp only [launchLate, raise_cys, record_cys, setBank_cys, launch_cys]

theorem ite_cys {s a b : State} {p : Prop} [Decidable p] (ha : a.cys = s.cys) (hb : b.cys = s.cys) :
    (if p then a else b).cys = s.cys := by
  split <;> assumption

theorem glazePost_cys (ch : Fin 48) (st : Bool) (ns : Int) (s : State) : (glazePost ch st ns s).cys = s.cys := by
  have hrefuse (code p1 p2 : Nat) : (glazeRefuse ch code p1 p2 s).cys = s.cys := glazeRefuse_cys ..
  unfold glazePost
  dsimp only
  cases bankNow s.banks[bankOf ch] s with
  | none => exact ite_cys (hrefuse ..) (hrefuse ..)
  | some now =>
    refine ite_cys (hrefuse ..) <| ite_cys (hrefuse ..) <| ite_cys (hrefuse ..) <| ite_cys (hrefuse ..) <|
      ite_cys (launchLate_cys ..) ?_
    cases (s.chans[ch]).queue.find? (fun e => decide (e.launch = ns)) with
    | none => exact ite_cys (hrefuse ..) (setChan_cys ..)
    | some e => exact ite_cys rfl (by rw [record_cys, setChan_cys])

theorem postEntry_cys (n : Fin 8) (c : TaskCfg) (b : List Byte) (s : State) : (postEntry n c b s).cys = s.cys := by
  unfold postEntry
  dsimp only
  split_ifs
  · exact glazePost_cys ..
  · exact record_cys ..

theorem postEntries_cys (n : Fin 8) (c : TaskCfg) (i k : Nat) (s : State) : (postEntries n c i k s).cys = s.cys := by
  induction k generalizing i s with
  | zero => rfl
  | succ k ih => exact (ih ..).trans (postEntry_cys ..)

/-! ### The pair's part in a commit (R322, R324, R327) -/

/-- What a commit and a close ask of the twin link. -/
def Twin.closePart (t : Twin) : TwinRole × Bool × Bool := (t.role, t.resetDue, t.releaseAtCommit)

theorem SameBut.closePart {P : List Part} {s t : State} (h : SameBut P s t) (ht : Part.twl ∉ P) :
    t.twl.closePart = s.twl.closePart := (congrArg Twin.closePart (h.2 .twl ht) :)

theorem markShared_twl (a n : Nat) (s : State) : ∃ pages, (markShared a n s).twl = { s.twl with shared := pages } := by
  unfold markShared
  dsimp only
  split_ifs
  · exact ⟨s.twl.shared, rfl⟩
  · exact ⟨_, rfl⟩

theorem vwrite_closePart (a : Nat) (bs : List Byte) (s : State) : (vwrite a bs s).twl.closePart = s.twl.closePart := by
  unfold vwrite
  obtain ⟨pages, h⟩ := markShared_twl a bs.length { s with
    vmem := memWrite s.vmem a bs
    vrc := { s.vrc with bufResv := s.vrc.bufResv.filter (fun r =>
      !(decide (a < 16 * r.2 + 16) && decide (16 * r.2 < a + bs.length))) } }
  rw [h]
  rfl

theorem commitEntry_closePart (c : TaskCfg) (e : ListEntry) (s : State) :
    (commitEntry c e s).twl.closePart = s.twl.closePart := by
  have hcopy (src dst n : Nat) (t : State) : (bwCopy src dst n t).twl.closePart = t.twl.closePart :=
    (bwCopy_frame (P := [.bw]) src dst n t (by decide) (SameBut.refl _ t)).closePart (by decide)
  have hbank (own bits : BitVec 48) (t : State) : (bankCommit own bits t).twl.closePart = t.twl.closePart :=
    (bankCommit_frame (P := [.chans, .recd, .noted]) own bits t (by decide) (by decide) (by decide)
      (SameBut.refl _ t)).closePart (by decide)
  unfold commitEntry
  dsimp only
  split_ifs
  · rw [hcopy, hbank]
  · rw [hcopy, vwrite_closePart]

theorem lncCommitted_rest (before : List Host.Cell) (s : State) :
    SameBut [.recd, .lnc, .ints, .held, .noted, .lic] s (lncCommitted before s) :=
  lncCommitted_frame before s (by decide) (by decide) (by decide) (by decide) (by decide) (by decide) (SameBut.refl _ s)

theorem commitList_closePart (c : TaskCfg) (s : State) :
    (lncCommitted s.vmem (c.commitList.foldl (fun t e => commitEntry c e t) s)).twl.closePart = s.twl.closePart :=
  ((lncCommitted_rest _ _).closePart (by decide)).trans
    (foldl_proj (fun t : State => t.twl.closePart) (fun t e => commitEntry_closePart c e t) _ _)

/-- The copies of a commit with no gate hold to release: the entries of the commit list, what the LNC takes of them, and
the gate sets taken over (R96, R346). -/
theorem commitCopies_eq {n : Fin 8} {s : State} {c : TaskCfg} (hc : taskCfg s n = some c)
    (hhold : s.twl.releaseAtCommit = false) :
    commitCopies n s = let t := lncCommitted s.vmem (c.commitList.foldl (fun t e => commitEntry c e t) s)
      { t with rot := { t.rot with gateWait := [] } } := by
  have hrel : (lncCommitted s.vmem (c.commitList.foldl (fun t e => commitEntry c e t) s)).twl.releaseAtCommit = false :=
    (congrArg (fun p => p.2.2) (commitList_closePart c s)).trans hhold
  simp only [commitCopies, hc, twinCommitted, hrel]
  rfl

/-! ### The close of a cycle -/

theorem twinSend_rest (ty : Nat) (payload : List Byte) (s : State) :
    SameBut [.twl] s (twinSend ty payload s) ∧ (twinSend ty payload s).twl.closePart = s.twl.closePart := by
  refine ⟨twinSend_frame ty payload s (by decide) (SameBut.refl _ s), ?_⟩
  unfold twinSend
  split_ifs <;> rfl

/-- Where no standby compares, a CHECK is sent or nothing is. -/
theorem twinCheck_rest {task : Fin 8} {cycle crc : Nat} {committed : Bool} {s : State} (hrole : s.twl.role ≠ .standby) :
    SameBut [.twl] s (twinCheck task cycle committed crc s) ∧
      (twinCheck task cycle committed crc s).twl.closePart = s.twl.closePart := by
  unfold twinCheck
  split
  · exact twinSend_rest ..
  · contradiction
  · exact ⟨SameBut.refl _ s, rfl⟩

/-- A closed cycle. -/
def Task.closed (t : Task) : Task := { t with state := .idle, closedOnce := true }

theorem closeCycle_rest {n : Fin 8} (glaze : Option Nat) {s : State} (hrole : s.twl.role ≠ .standby) :
    SameBut [.twl] (setTask n Task.closed s) (closeCycle n glaze s) ∧
      (closeCycle n glaze s).twl.closePart = s.twl.closePart :=
  twinCheck_rest (s := setTask n Task.closed s) hrole

theorem closeCycle_cys {n : Fin 8} (glaze : Option Nat) {s : State} (hrole : s.twl.role ≠ .standby) :
    (closeCycle n glaze s).cys = (setTask n Task.closed s).cys :=
  (closeCycle_rest glaze hrole).1.cys (by decide)

theorem closeCycle_resetDue {n : Fin 8} {glaze : Option Nat} {s : State} (hrole : s.twl.role ≠ .standby)
    (hreset : s.twl.resetDue = false) : (closeCycle n glaze s).twl.resetDue = false :=
  (congrArg (fun p => p.2.1) (closeCycle_rest glaze hrole).2).trans hreset

theorem startCommit_posting (s : State) : (startCommit s).cys.posting = s.cys.posting := by
  unfold startCommit
  split
  · split_ifs <;> rfl
  · rfl

theorem storeSwitched_cys (s : State) : ∃ x, (storeSwitched s).cys = { s.cys with switchedFrom := x } := by
  unfold storeSwitched
  split
  · split_ifs
    · exact ⟨none, rfl⟩
    · exact ⟨s.cys.switchedFrom, rfl⟩
  · exact ⟨s.cys.switchedFrom, rfl⟩

/-- After a close with no reset due the next commit may start and the image may be stored: tasks, posting, outputs and
interrupts stay. -/
theorem afterClose_rest {s : State} (hreset : s.twl.resetDue = false) :
    SameBut [.cys, .boot] s (afterClose s) ∧ (afterClose s).cys.tasks = s.cys.tasks ∧
      (afterClose s).cys.posting = s.cys.posting := by
  have hrest : SameBut [.cys, .boot] s (storeSwitched (startCommit s)) :=
    storeSwitched_frame _ (by decide) (by decide) (startCommit_frame s (by decide) (SameBut.refl _ s))
  have hdue : (storeSwitched (startCommit s)).twl.resetDue = false :=
    (congrArg (fun p => p.2.1) (hrest.closePart (by decide))).trans hreset
  have heq : afterClose s = storeSwitched (startCommit s) := by simp [afterClose, twinReset, hdue]
  obtain ⟨x, hcys⟩ := storeSwitched_cys (startCommit s)
  rw [heq, hcys]
  exact ⟨hrest, startCommit_tasks s, startCommit_posting s⟩

/-- What a cycle's close gives, with no standby and no reset due. -/
theorem closed_cycle {n : Fin 8} (glaze : Option Nat) {s : State} (hrole : s.twl.role ≠ .standby)
    (hreset : s.twl.resetDue = false) :
    let t := afterClose (closeCycle n glaze s)
    t.cys.tasks = (setTask n Task.closed s).cys.tasks ∧ t.cys.posting = s.cys.posting ∧ t.chans = s.chans := by
  obtain ⟨hrest, htasks, hposting⟩ := afterClose_rest (closeCycle_resetDue (n := n) (glaze := glaze) hrole hreset)
  have hcys := closeCycle_cys (n := n) glaze hrole
  refine ⟨htasks.trans (by rw [hcys]), hposting.trans (by rw [hcys]; rfl), ?_⟩
  rw [hrest.chans (by decide), (closeCycle_rest glaze hrole).1.chans (by decide)]
  rfl

end Sys2Proof.Machine
end

section
/-! PROOFS. The executive's writes to the sequencer's registers (R149, R152): the lanes are awake, and the voted write
reaches the register. -/

namespace Sys2Proof.Machine

open Sys2Proof

/-- The running cores leave WFI. -/
def awake (core : Fin 8) (s : State) : State :=
  mirrorShadow (mapCores (execCores core s) (fun c => { c with wfi := false }) s)

/-- The cores that run the stream are the same in two states, and hold the same. -/
def SameStream (core : Fin 8) (s t : State) : Prop :=
  t.vrc = s.vrc ∧ ∀ k ∈ execCores core s, t.cores[k] = s.cores[k]

theorem awake_coresOnly (core : Fin 8) (s : State) : CoresOnly s (awake core s) := (mirrorShadow_mapCores core _ s).1

theorem awake_sameStream {core : Fin 8} {s : State} (hx : Executes core s) : SameStream core s (awake core s) := by
  obtain ⟨hcores, hget⟩ := mirrorShadow_mapCores core (fun c => { c with wfi := false }) s
  refine ⟨hcores.vrc, fun k hk => (hget k hk).trans ?_⟩
  obtain ⟨hready, -, -⟩ := hx.2 k hk
  have hwfi : (s.cores[k]).wfi = false := by
    simp only [Core.ready, Bool.and_eq_true, Bool.not_eq_true'] at hready
    exact hready.1.2
  rw [← hwfi]

theorem SameStream.execCores {core : Fin 8} {s t : State} (h : SameStream core s t) :
    execCores core t = execCores core s := execCores_congr core s t h.1

theorem SameStream.executes {core : Fin 8} {s t : State} (h : SameStream core s t) (hx : Executes core s) :
    Executes core t := by
  refine ⟨by rw [h.execCores]; exact hx.1, fun k hk => ?_⟩
  rw [h.execCores] at hk
  rw [h.2 k hk, h.1]
  exact hx.2 k hk

theorem SameStream.unison {core : Fin 8} {s t : State} (h : SameStream core s t) (hu : Unison core s) :
    Unison core t := by
  obtain ⟨hmode, hsame⟩ := hu
  refine ⟨?_, fun j hj k hk => ?_⟩
  · simp only [activeLanes, lanesIn, laneState, h.1]
    exact hmode
  · rw [h.execCores] at hj hk
    rw [h.2 j hj, h.2 k hk]
    exact hsame j hj k hk

theorem SameStream.uncombined {core : Fin 8} {s t : State} (h : SameStream core s t) (hc : Uncombined core s) :
    Uncombined core t := fun k hk => by
  rw [h.execCores] at hk
  rw [h.2 k hk]
  exact hc k hk

/-- The executive's write of a register of the sequencer takes effect as the register's function says, on a state that
differs in the cores and the bandwidth counts alone. -/
theorem execWrite_register {core : Fin 8} {s : State} {a : Nat} {v : Reg32} {F : State → State} (hx : Executes core s)
    (hu : Unison core s) (hc : Uncombined core s) (hp : s.pwr.on.getLsbD 5 = true)
    (h4 : a % 4 = 0) (ha : 0x200080000 ≤ a ∧ a < 0x200090000)
    (hF : ∀ m s1, voteWrite m a v s1 = F s1) (hK : ∀ s1, StreamKept core s1 (F s1)) :
    ∃ s1, CoresAndCountsOnly s s1 ∧ CoresOnly (F s1) (execWrite core a v s) := by
  have hs := awake_sameStream hx
  have hrest : CoresOnly s (awake core s) := awake_coresOnly core s
  have hpw : (awake core s).pwr.on.getLsbD 5 = true := by rwa [hrest]
  obtain ⟨s1, hcounts, hdone, -⟩ := writeReg_register (F := F) (hs.executes hx) (hs.unison hu) (hs.uncombined hc) h4
    (by omega) (.inr (by omega)) (voteOff_cys hpw ha) (fun s1 _ => hF _ s1) hK
  refine ⟨s1, ?_, hdone⟩
  unfold CoresAndCountsOnly
  rw [hcounts, hrest]

end Sys2Proof.Machine
end

section
/-! PROOFS. O26: how a cycle ends (R149, R150, R152, R154-R156). -/

namespace Sys2Proof.Machine

open Sys2Proof

/-! ### COMMIT_END and POSTING_END -/

/-- The commit in progress is taken up. -/
def commitTaken (s : State) : State := { s with cys := { s.cys with commit := none } }

theorem commitCopies_rest (n : Fin 8) (s : State) :
    SameBut [.vrc, .rot, .banks, .chans, .recd, .twl, .lnc, .bw, .ints, .vmem, .held, .noted, .lic] s
      (commitCopies n s) :=
  commitCopies_frame n s (by decide) (by decide) (by decide) (by decide) (by decide) (by decide) (by decide) (by decide)
    (by decide) (by decide) (by decide) (by decide) (by decide) (SameBut.refl _ s)

theorem commitCopies_closePart {n : Fin 8} {s : State} {c : TaskCfg} (hc : taskCfg s n = some c)
    (hhold : s.twl.releaseAtCommit = false) : (commitCopies n s).twl.closePart = s.twl.closePart := by
  rw [commitCopies_eq hc hhold]
  exact commitList_closePart c s

theorem bankCommit_sameOutputs {s t : State} (h : SameOutputs s t) (own bits : BitVec 48) :
    SameOutputs (bankCommit own bits s) (bankCommit own bits t) :=
  SameOutputs.foldl (f := fun t (ch : Fin 48) => if own.getLsbD ch.val then refresh ch (bits.getLsbD ch.val) t else t)
    (fun _ _ ch g => SameOutputs.ite (g.refresh ch _) g) _ h

/-- A commit list that is one bank entry refreshes the task's outputs and no other channel. -/
theorem commitCopies_bank {n : Fin 8} {s : State} {c : TaskCfg} {e : ListEntry} (hc : taskCfg s n = some c)
    (hhold : s.twl.releaseAtCommit = false) (hlist : c.commitList = [e]) (hkind : e.kind = 4) :
    (commitCopies n s).chans =
      (bankCommit c.own (BitVec.ofNat 48 (leNat (vread s (sharedBase + c.outImg + e.src) 8))) s).chans := by
  rw [commitCopies_eq hc hhold]
  show (lncCommitted _ _).chans = _
  rw [(lncCommitted_rest _ _).chans (by decide), hlist]
  simp only [List.foldl_cons, List.foldl_nil, commitEntry, hkind, ite_true]
  exact (bwCopy_frame (P := [.bw]) _ _ _ _ (by decide) (SameBut.refl _ _)).chans (by decide)

theorem execCommitEnd_post {dt : Nat} {n : Fin 8} {g : Nat} {c : TaskCfg} {s : State} (hg : 0 < g)
    (hcommit : (advance dt s).cys.commit = some (n, g)) (hc : taskCfg (advance dt s) n = some c) :
    let s1 := commitCopies n (commitTaken (advance dt s))
    execCommitEnd dt s = .next { postEntries n c 0 g s1 with
      cys := { (postEntries n c 0 g s1).cys with posting := some (n, g) } } := by
  have hcfg : taskCfg (commitCopies n (commitTaken (advance dt s))) n = some c :=
    (taskCfg_congr (by rw [(commitCopies_rest n _).cys (by decide)]; rfl) n).trans hc
  simp only [execCommitEnd, hcommit, Nat.ne_of_gt hg, ite_false]
  change (match taskCfg (commitCopies n (commitTaken (advance dt s))) n with
    | some c => _
    | none => _) = _
  rw [hcfg]
  rfl

theorem execCommitEnd_close {dt : Nat} {n : Fin 8} {s : State} (hcommit : (advance dt s).cys.commit = some (n, 0)) :
    execCommitEnd dt s = .next (afterClose (closeCycle n (some 0) (commitCopies n (commitTaken (advance dt s))))) := by
  simp only [execCommitEnd, hcommit, ite_true]
  rfl

theorem closed_self (n : Fin 8) (s : State) :
    ((setTask n Task.closed s).cys.tasks[n]).state = .idle ∧
      ((setTask n Task.closed s).cys.tasks[n]).closedOnce = true := by
  rw [setTask_self]
  exact ⟨rfl, rfl⟩

/-- The commit of a cycle without glaze entries closes it. -/
theorem commitEnd_closes {n : Fin 8} {c : TaskCfg} {s : State} (hc : taskCfg s n = some c)
    (hrole : s.twl.role ≠ .standby) (hreset : s.twl.resetDue = false) (hhold : s.twl.releaseAtCommit = false) :
    let t := afterClose (closeCycle n (some 0) (commitCopies n (commitTaken s)))
    (t.cys.tasks[n]).state = .idle ∧ (t.cys.tasks[n]).closedOnce = true ∧
      ∀ e, c.commitList = [e] → e.kind = 4 →
        t.chans = (bankCommit c.own (BitVec.ofNat 48 (leNat (vread s (sharedBase + c.outImg + e.src) 8))) s).chans := by
  have hpart := commitCopies_closePart (n := n) (s := commitTaken s) hc hhold
  have hsame : (commitCopies n (commitTaken s)).twl.role = s.twl.role := congrArg Prod.fst hpart
  obtain ⟨htasks, -, hchans⟩ := closed_cycle (n := n) (some 0) (s := commitCopies n (commitTaken s)) (by rwa [hsame])
    ((congrArg (fun p => p.2.1) hpart).trans hreset)
  obtain ⟨hidle, hclosed⟩ := closed_self n (commitCopies n (commitTaken s))
  refine ⟨by rw [htasks]; exact hidle, by rw [htasks]; exact hclosed, fun e hlist hkind => ?_⟩
  rw [hchans, commitCopies_bank (s := commitTaken s) hc hhold hlist hkind]
  exact (bankCommit_sameOutputs (s := s) (t := commitTaken s) ⟨rfl, rfl, rfl, rfl⟩ _ _).1

theorem execPostingEnd_eq {dt : Nat} {n : Fin 8} {g : Nat} {s : State}
    (hposting : (advance dt s).cys.posting = some (n, g)) :
    execPostingEnd dt s = .next (afterClose (closeCycle n (some g)
      { advance dt s with cys := { (advance dt s).cys with posting := none } })) := by
  simp only [execPostingEnd, hposting]

/-! ### CYS_DONE -/

/-- The number CYS_DONE takes for a cycle of a task that ends without commit. -/
theorem doneWrite_uncommitted {n : Fin 8} {s : State} (hrun : (s.cys.tasks[n]).state = .run) :
    doneWrite (BitVec.ofNat 32 (n.val + 256 * 65)) s = closeCycle n none (setTask n noteExec s) := by
  have hv : (BitVec.ofNat 32 (n.val + 256 * 65)).toNat = n.val + 256 * 65 := by
    rw [BitVec.toNat_ofNat]
    omega
  have hn : (⟨(n.val + 256 * 65) % 8, by omega⟩ : Fin 8) = n := Fin.ext (by simp only []; omega)
  have hg : (n.val + 256 * 65) / 256 % 128 = 65 := by omega
  simp only [doneWrite, hv, hg, hn, cycleDone, hrun]
  rfl

theorem cycleDone_streamKept (core n : Fin 8) (g : Nat) (s : State) : StreamKept core s (cycleDone n g s) :=
  (cycleDone_frame (P := [.cys, .banks, .recd, .twl, .ints, .held, .noted, .lic]) n g s (by decide) (by decide)
    (by decide) (by decide) (by decide) (by decide) (by decide) (by decide) (SameBut.refl _ s)).streamKept (by decide)
    (by decide) core

/-- The executive's write of CYS_DONE. -/
theorem execWrite_done {core : Fin 8} {s : State} (v : Reg32) (hx : Executes core s) (hu : Unison core s)
    (hc : Uncombined core s) (hp : s.pwr.on.getLsbD 5 = true) :
    ∃ s1, CoresAndCountsOnly s s1 ∧ CoresOnly (doneWrite v s1) (execWrite core 0x200080020 v s) :=
  execWrite_register hx hu hc hp (by decide) (by decide) (fun _ _ => rfl) (fun s1 => cycleDone_streamKept core _ _ s1)

/-- CYS_DONE of a value above 64 closes the cycle, with its execution time. -/
theorem cysDone_closes {core n : Fin 8} {s : State} (hx : Executes core s) (hu : Unison core s)
    (hc : Uncombined core s) (hp : s.pwr.on.getLsbD 5 = true) (hrun : (s.cys.tasks[n]).state = .run)
    (hrole : s.twl.role ≠ .standby) (hreset : s.twl.resetDue = false) :
    ((afterClose (execWrite core 0x200080020 (BitVec.ofNat 32 (n.val + 256 * 65)) s)).cys.tasks[n]) =
      (noteExec s.cys.tasks[n]).closed := by
  obtain ⟨s1, hcounts, hdone⟩ := execWrite_done (BitVec.ofNat 32 (n.val + 256 * 65)) hx hu hc hp
  have hcys : s1.cys = s.cys := by rw [hcounts]
  have htwl : s1.twl = s.twl := by rw [hcounts]
  rw [doneWrite_uncommitted (by rwa [hcys])] at hdone
  have hrole1 : (setTask n noteExec s1).twl.role ≠ .standby := by rwa [setTask_twl, htwl]
  have hreset1 := closeCycle_resetDue (n := n) (glaze := none) hrole1 (by rwa [setTask_twl, htwl])
  obtain ⟨-, htasks, -⟩ := afterClose_rest
    (s := execWrite core 0x200080020 (BitVec.ofNat 32 (n.val + 256 * 65)) s) (by rw [hdone]; exact hreset1)
  rw [htasks, hdone]
  show ((closeCycle n none (setTask n noteExec s1)).cys.tasks[n]) = _
  rw [closeCycle_cys none hrole1, setTask_self, setTask_self, hcys]

/-! ### The cone monitor -/

theorem execConeOverrun_run {dt : Nat} {n : Fin 8} {s : State} (hrun : ((advance dt s).cys.tasks[n]).state = .run) :
    ∃ p1 p2, execConeOverrun dt n s = .next (raise 298 (record 9 0x8001 n.val p1 p2 (setTask n (fun x =>
      { x with state := .overrun, skipNext := true, ovr := inc16 x.ovr, ovrs := inc32 x.ovrs }) (advance dt s)))) :=
  ⟨_, _, if_pos hrun⟩

/-- One channel of a mask is LOCKED with its safe state. -/
def lockOwned (own : BitVec 48) (reason : Nat) (t : State) (ch : Fin 48) : State :=
  if own.getLsbD ch.val && (t.chans[ch]).isOut &&
      (decide ((t.chans[ch]).state = .driven) || decide ((t.chans[ch]).state = .safe))
  then applySafe ch reason .locked t else t

theorem banksSafeOwned_eq (own : BitVec 48) (reason : Nat) (s : State) :
    banksSafeOwned own reason s = (allFin 48).foldl (lockOwned own reason) s := rfl

theorem lockOwned_other {own : BitVec 48} {reason : Nat} {t : State} {ch j : Fin 48} (h : ch ≠ j) :
    (lockOwned own reason t j).chans[ch] = t.chans[ch] := by
  unfold lockOwned
  split_ifs
  · exact applySafe_ne j ch reason .locked t h
  · rfl

theorem lockOwned_self {own : BitVec 48} {reason : Nat} {t : State} {ch : Fin 48} (hown : own.getLsbD ch.val = true)
    (hout : (t.chans[ch]).isOut = true) (hstate : (t.chans[ch]).state = .driven ∨ (t.chans[ch]).state = .safe) :
    ((lockOwned own reason t ch).chans[ch]).state = .locked := by
  unfold lockOwned
  have hlive : (decide ((t.chans[ch]).state = .driven) || decide ((t.chans[ch]).state = .safe)) = true := by
    simpa using hstate
  rw [if_pos (by rw [hown, hout, hlive]; rfl)]
  exact (applySafe_at ch reason .locked t).1

theorem lockOwned_locked {own : BitVec 48} {reason : Nat} {t : State} {ch j : Fin 48}
    (h : (t.chans[ch]).state = .locked) : ((lockOwned own reason t j).chans[ch]).state = .locked := by
  by_cases hj : ch = j
  · subst hj
    unfold lockOwned
    rw [if_neg (by simp [show (t.chans[ch.val]).state = .locked from h])]
    exact h
  · rwa [lockOwned_other hj]

theorem lockOwned_all {own : BitVec 48} {reason : Nat} {ch : Fin 48} (hown : own.getLsbD ch.val = true)
    (l : List (Fin 48)) {t : State} (h : (t.chans[ch]).state = .locked ∨ (ch ∈ l ∧ (t.chans[ch]).isOut = true ∧
      ((t.chans[ch]).state = .driven ∨ (t.chans[ch]).state = .safe))) :
    ((l.foldl (lockOwned own reason) t).chans[ch]).state = .locked := by
  induction l generalizing t with
  | nil => simpa using h
  | cons j l ih =>
    refine ih ?_
    obtain hlocked | ⟨hmem, hout, hstate⟩ := h
    · exact .inl (lockOwned_locked hlocked)
    · by_cases hj : ch = j
      · subst hj
        exact .inl (lockOwned_self hown hout hstate)
      · rw [lockOwned_other hj]
        exact .inr ⟨(List.mem_cons.1 hmem).resolve_left hj, hout, hstate⟩

/-- The safe states of the outputs a mask names: each of them DRIVEN or SAFE is LOCKED (R258). -/
theorem banksSafeOwned_locked {own : BitVec 48} {reason : Nat} {s : State} {ch : Fin 48}
    (hown : own.getLsbD ch.val = true) (hout : (s.chans[ch]).isOut = true)
    (hstate : (s.chans[ch]).state = .driven ∨ (s.chans[ch]).state = .safe) :
    ((banksSafeOwned own reason s).chans[ch]).state = .locked := by
  rw [banksSafeOwned_eq]
  exact lockOwned_all hown _ (.inr ⟨List.mem_finRange ch, hout, hstate⟩)

theorem applySafe_asserted {m : Nat} (ch : Fin 48) (reason : Nat) (next : ChanState) {s : State}
    (h : Asserted m s.ints) : Asserted m (applySafe ch reason next s).ints := by
  have hflush (u : State) (hu : Asserted m u.ints) : Asserted m (flushQueue ch reason u).ints := by
    unfold flushQueue
    dsimp only
    split_ifs
    · exact hu
    · exact raise_asserted_of _ m _ (by rwa [record_ints])
  unfold applySafe
  dsimp only
  rw [setChan_ints]
  refine hflush _ ?_
  split_ifs <;> exact h

theorem banksSafeOwned_asserted {m : Nat} (own : BitVec 48) (reason : Nat) {s : State} (h : Asserted m s.ints) :
    Asserted m (banksSafeOwned own reason s).ints := by
  rw [banksSafeOwned_eq]
  refine List.foldlRecOn _ _ (motive := fun t : State => Asserted m t.ints) h fun t ht ch _ => ?_
  unfold lockOwned
  split_ifs
  · exact applySafe_asserted ch reason .locked ht
  · exact ht

theorem banksSafeOwned_rest (own : BitVec 48) (reason : Nat) (s : State) :
    SameBut [.chans, .recd, .ints, .held, .noted, .lic] s (banksSafeOwned own reason s) :=
  banksSafeOwned_frame own reason s (by decide) (by decide) (by decide) (by decide) (by decide) (by decide)
    (SameBut.refl _ s)

/-- A stall is recorded, and 299 raised. -/
def stallNoted (n : Fin 8) (c : TaskCfg) (s : State) : State :=
  raise 299 (record 9 0x8002 n.val c.stall ((s.cys.tasks[n]).cycle % 2 ^ 32) s)

/-- A stall with reaction 0: the record and the interrupt, the cycle closed without commit, the context dropped and the
outputs of the task LOCKED. -/
def coneStalled (n : Fin 8) (c : TaskCfg) (s : State) : State :=
  banksSafeOwned c.own 1 (execDrop ⟨n.val, by omega⟩
    (closeCycle n none (stallNoted n c s)))

theorem execConeStall_stop {dt : Nat} {n : Fin 8} {c : TaskCfg} {s : State}
    (hover : ((advance dt s).cys.tasks[n]).state = .overrun) (hc : taskCfg (advance dt s) n = some c)
    (hstall : c.stall = 0) :
    execConeStall dt n s = .next (execDispatch (afterClose (setTask n (fun x => { x with skipNext := false })
      (setTask n (fun x => { x with state := .stopped }) (coneStalled n c (advance dt s)))))) := by
  simp only [execConeStall, hover, hc, coneStalled, stallNoted]
  rw [if_pos hstall]

theorem coneStalled_rest {n : Fin 8} {c : TaskCfg} {s : State} (hrole : s.twl.role ≠ .standby)
    (hreset : s.twl.resetDue = false) :
    (coneStalled n c s).twl.resetDue = false ∧ Asserted 299 (coneStalled n c s).ints ∧
      ∀ ch : Fin 48, c.own.getLsbD ch.val = true → (s.chans[ch]).isOut = true →
        (s.chans[ch]).state = .driven ∨ (s.chans[ch]).state = .safe →
        ((coneStalled n c s).chans[ch]).state = .locked := by
  have hnoted : (stallNoted n c s).twl.role = s.twl.role ∧ (stallNoted n c s).twl.resetDue = s.twl.resetDue := by
    simp [stallNoted]
  have hrole1 : (stallNoted n c s).twl.role ≠ .standby := by rwa [hnoted.1]
  have hclosed := (closeCycle_rest (n := n) none hrole1).1
  refine ⟨?_, banksSafeOwned_asserted _ _ ?_, fun ch hown hout hstate => ?_⟩
  · have hpart := (banksSafeOwned_rest c.own 1
      (execDrop ⟨n.val, by omega⟩ (closeCycle n none (stallNoted n c s)))).closePart (by decide)
    exact (congrArg (fun p => p.2.1) hpart).trans
      (closeCycle_resetDue (n := n) (glaze := none) hrole1 (by rw [hnoted.2]; exact hreset))
  · show Asserted 299 (closeCycle n none (stallNoted n c s)).ints
    rw [hclosed.ints (by decide)]
    exact raise_asserted 299 _ (by decide)
  · have hchans : (execDrop ⟨n.val, by omega⟩ (closeCycle n none (stallNoted n c s))).chans = s.chans := by
      show (closeCycle n none (stallNoted n c s)).chans = s.chans
      rw [hclosed.chans (by decide), setTask_chans, stallNoted, raise_chans, record_chans]
    exact banksSafeOwned_locked hown (by rwa [hchans]) (by rwa [hchans])

/-- A stall with reaction 0 stops the task and locks its outputs. -/
theorem coneStall_stops {n : Fin 8} {c : TaskCfg} {s : State} (hrole : s.twl.role ≠ .standby)
    (hreset : s.twl.resetDue = false) :
    let t := execDispatch (afterClose (setTask n (fun x => { x with skipNext := false })
      (setTask n (fun x => { x with state := .stopped }) (coneStalled n c s))))
    (t.cys.tasks[n]).state = .stopped ∧ (t.cys.tasks[n]).skipNext = false ∧ Asserted 299 t.ints ∧
      ∀ ch : Fin 48, c.own.getLsbD ch.val = true → (s.chans[ch]).isOut = true →
        (s.chans[ch]).state = .driven ∨ (s.chans[ch]).state = .safe → (t.chans[ch]).state = .locked := by
  obtain ⟨hdue, hint, hlocked⟩ := coneStalled_rest (n := n) (c := c) hrole hreset
  obtain ⟨hrest, htasks, -⟩ := afterClose_rest (s := setTask n (fun x => { x with skipNext := false })
    (setTask n (fun x => { x with state := .stopped }) (coneStalled n c s))) hdue
  simp only [execDispatch_tasks, execDispatch_ints, execDispatch_chans, htasks, hrest.ints (by decide),
    hrest.chans (by decide), setTask_self, setTask_ints, setTask_chans]
  exact ⟨trivial, trivial, hint, hlocked⟩

/-! ### CYS_QUIET -/

theorem execSave_current (s : State) : (execSave s).cys.current = none := by
  unfold execSave
  split <;> rfl

theorem execSave_rest (s : State) : SameBut [.cys] s (execSave s) := execSave_frame s (by decide) (SameBut.refl _ s)

theorem execSave_sameStream (core : Fin 8) (s : State) : SameStream core s (execSave s) := by
  unfold execSave
  split <;> exact ⟨rfl, fun _ _ => rfl⟩

/-- In a vote of two or three the cores of every ACTIVE lane run, whichever core is named. -/
theorem execCores_voted (k : Fin 8) {s : State} (h : s.vrc.mode = .oo3 ∨ s.vrc.mode = .oo2) :
    execCores k s = execCores 0 s := by
  unfold execCores
  obtain h | h := h <;> rw [h]

theorem quietWrite_streamKept (core : Fin 8) (s : State) : StreamKept core s (quietWrite s) := by
  unfold quietWrite
  split_ifs <;> exact ⟨rfl, fun _ _ => ⟨rfl, rfl⟩⟩

theorem quietWrite_warned {s : State} (hwarned : s.cys.warned = true) (hgap : s.cys.gap = false) :
    quietWrite s = { s with cys := { s.cys with ack := true, waiting := true } } := by
  simp [quietWrite, hwarned, hgap]

/-- CYS_QUIET after the warning: the acknowledgement stands, and the sequencer waits with nothing current. -/
theorem execWrite_quiet {core : Fin 8} {s : State} (v : Reg32) (hx : Executes core s) (hu : Unison core s)
    (hc : Uncombined core s) (hp : s.pwr.on.getLsbD 5 = true) (hwarned : s.cys.warned = true)
    (hgap : s.cys.gap = false) :
    let t := execWrite core 0x200080024 v (execSave s)
    t.cys.ack = true ∧ t.cys.waiting = true ∧ t.cys.current = none ∧ t.vrc = s.vrc := by
  have hs := execSave_sameStream core s
  have hpart := execSave_seqPart s
  obtain ⟨s1, hcounts, hdone⟩ := execWrite_register (F := quietWrite) (v := v) (hs.executes hx) (hs.unison hu)
    (hs.uncombined hc) (a := 0x200080024)
    (by rw [show (execSave s).pwr = s.pwr from (execSave_rest s).2 .pwr (by decide)]; exact hp)
    (by decide) (by decide) (fun _ _ => rfl) (quietWrite_streamKept core)
  have hcys : s1.cys = (execSave s).cys := by rw [hcounts]
  have hvrc : s1.vrc = s.vrc := (by rw [hcounts] : s1.vrc = (execSave s).vrc).trans hs.1
  rw [quietWrite_warned (by rw [hcys]; exact (congrArg Cys.warned hpart).trans hwarned)
    (by rw [hcys]; exact (congrArg Cys.gap hpart).trans hgap)] at hdone
  intro t
  rw [show t = _ from hdone]
  exact ⟨rfl, rfl, by rw [hcys]; exact execSave_current s, hvrc⟩

/-- The lanes wait: every core of the vote is in WFI. -/
theorem execWait_wfi (s : State) : ∀ k ∈ execCores 0 s, ((execWait s).cores[k]).wfi = true := fun k hk => by
  rw [execWait, (mirrorShadow_mapCores 0 _ s).2 k hk]

/-- Settles O26: COMMIT_END and POSTING_END by `closed_cycle`, CYS_DONE by `cysDone_closes`, the cone monitor by
`coneStall_stops`, CYS_QUIET by `execWrite_quiet`. -/
theorem cyclesCommitPostAndClose : Obligations.CyclesCommitPostAndClose := by
  refine ⟨fun s dt n g c => ?_, fun s dt n g => ?_, fun core s n hx hu hc hp hrun hrole hreset => ?_, fun s dt n => ?_,
    fun s dt n => ?_, fun s dt n c => ?_, fun core s v hx hu hc hp hwarned hgap hmode => ?_⟩
  · intro s0 hcommit hc hrole hreset hhold
    obtain hg | hg := Nat.eq_zero_or_pos g
    · subst hg
      obtain ⟨hidle, hclosed, hbank⟩ := commitEnd_closes hc hrole hreset hhold
      exact ⟨_, execCommitEnd_close hcommit, fun h => absurd h (Nat.lt_irrefl 0), fun _ => ⟨hidle, hclosed, hbank⟩⟩
    · refine ⟨_, execCommitEnd_post hg hcommit hc, fun _ => ⟨rfl, ?_, ?_⟩, fun h => absurd h (Nat.ne_of_gt hg)⟩
      · show (postEntries n c 0 g _).cys.commit = none
        rw [postEntries_cys, (commitCopies_rest n _).cys (by decide)]
        rfl
      · show (postEntries n c 0 g _).cys.tasks = s0.cys.tasks
        rw [postEntries_cys, (commitCopies_rest n _).cys (by decide)]
        rfl
  · intro s0 hposting hrole hreset
    obtain ⟨htasks, hposted, hchans⟩ := closed_cycle (n := n) (some g)
      (s := { s0 with cys := { s0.cys with posting := none } }) hrole hreset
    exact ⟨_, execPostingEnd_eq hposting, hposted, by rw [htasks]; exact (closed_self n _).1, hchans⟩
  · have hclosed := cysDone_closes hx hu hc hp hrun hrole hreset
    refine ⟨_, rfl, ?_⟩
    rw [execDispatch_tasks, hclosed]
    exact ⟨rfl, rfl, rfl⟩
  · intro s0 hrun
    obtain ⟨p1, p2, hexec⟩ := execConeOverrun_run hrun
    refine ⟨_, hexec, ?_⟩
    rw [raise_cys, record_cys, setTask_self]
    exact ⟨rfl, rfl, rfl, raise_asserted 298 _ (by decide), fun j hj => setTask_other _ _ hj⟩
  · intro s0 hrun
    exact if_neg hrun
  · intro s0 hover hc hstall hrole hreset
    exact ⟨_, execConeStall_stop hover hc hstall, coneStall_stops hrole hreset⟩
  · obtain ⟨hack, hwaiting, hcurrent, hvrc⟩ := execWrite_quiet v hx hu hc hp hwarned hgap
    refine ⟨execWait (execWrite core 0x200080024 v (execSave s)), ?_, ?_⟩
    · show execCysQuietWrite core v s = _
      simp only [execCysQuietWrite, hwaiting, ite_true]
    · rw [execWait_cys]
      refine ⟨hack, hwaiting, hcurrent, fun k hk => execWait_wfi _ k ?_⟩
      rw [execCores_congr 0 s _ hvrc, ← execCores_voted core hmode]
      exact hk

end Sys2Proof.Machine
end

section
/-! PROOFS. O29 and O30: the sources of the root, the monitors, the clock enables, and the frequency meter (R186,
R199-R205, R473). -/

namespace Sys2Proof.Machine

open Sys2Proof

@[simp] theorem setClk_clk (f : Clk → Clk) (s : State) : (setClk f s).clk = f s.clk := rfl

/-! ### A module reset (R472, R473) -/

theorem twinFiring_rest (s : State) : SameBut [.recd, .twl, .ints, .held, .noted, .lic] s (twinFiring s) :=
  twinFiring_frame s (by decide) (by decide) (by decide) (by decide) (by decide) (by decide) (SameBut.refl _ s)

/-- FIRING begins, and power control keeps what it noted of the reset. -/
theorem enterFiring_firing (cause : Nat) (s : State) :
    (enterFiring cause s).mod.state = .firing ∧ (enterFiring cause s).pwr = s.pwr := by
  unfold enterFiring
  dsimp only
  exact ⟨by rw [(twinFiring_rest _).mod (by decide)]; exact setModState_mod_state ..,
    ((twinFiring_rest _).2 .pwr (by decide)).trans (by simp)⟩

theorem moduleReset_firing (kind detail : Nat) (s : State) :
    (moduleReset kind detail s).mod.state = .firing ∧ (moduleReset kind detail s).pwr.rstKind = kind ∧
      (moduleReset kind detail s).pwr.rstDetail = detail := by
  unfold moduleReset
  dsimp only
  refine ⟨(enterFiring_firing _ _).1, ?_, ?_⟩ <;> rw [(enterFiring_firing _ _).2] <;> rfl

/-! ### Sources (R186, R189) -/

/-- The TCXO needs nothing but its bit of the mask. -/
theorem sourceOpen_tcxo {s : State} (hmask : s.clk.mask.getLsbD 2 = true) : sourceOpen 2 s = true := by
  simp [sourceOpen, hmask]

/-- Without revertive selection a lock on a valid source stays. -/
theorem reselect_locked {s : State} (hstate : s.clk.state = .locked) (hrevert : s.clk.revert = false)
    (hvalid : s.clk.valid.getLsbD s.clk.ref = true) : reselect s = s := by
  simp [reselect, hstate, hrevert, hvalid]

/-- A source is noted valid. -/
def sourceNoted (n : Fin 3) (s : State) : State := setClk (fun c => { c with valid := putBit c.valid n.val true }) s

theorem sourceNoted_valid (n : Fin 3) (s : State) (m : Nat) :
    (sourceNoted n s).clk.valid.getLsbD m = (s.clk.valid.getLsbD m || decide (m = n.val)) :=
  putBit_get _ _ _ (by omega)

theorem sourceValid_locked {n : Fin 3} {s : State} (hopen : sourceOpen n s = true) (hstate : s.clk.state = .locked)
    (hrevert : s.clk.revert = false) (hvalid : s.clk.valid.getLsbD s.clk.ref = true) :
    sourceValid n s = sourceNoted n s := by
  rw [sourceValid, if_pos hopen]
  exact reselect_locked (s := sourceNoted n s) hstate hrevert
    ((sourceNoted_valid n s s.clk.ref).trans (by rw [hvalid, Bool.true_or]))

theorem execSourceInvalid_unused {dt : Nat} {n : Fin 3} {s : State} (href : (advance dt s).clk.ref ≠ n.val)
    (htarget : (advance dt s).clk.target ≠ n.val) :
    execSourceInvalid dt n s =
      .next (setClk (fun c => { c with valid := putBit c.valid n.val false }) (advance dt s)) :=
  if_neg (not_or.2 ⟨href, htarget⟩)

/-! ### Monitors (R199, R200) -/

/-- A trip outside the start window is recorded and asserts interrupt 68. -/
def tripNoted (item : Fin 3) (value : BitVec 32) (s : State) : State :=
  raise 68 (record 2 0x2006 (item.val + 1) 0 value.toNat s)

theorem tripNoted_asserted (item : Fin 3) (value : BitVec 32) (s : State) :
    Asserted 68 (tripNoted item value s).ints :=
  raise_asserted 68 _ (by decide)

theorem tripNoted_recd (item : Fin 3) (value : BitVec 32) (s : State) :
    (tripNoted item value s).recd = (submitEvent s.recd 2 10 0x2006 (item.val + 1) 0 value.toNat).1 := by
  simp [tripNoted]

theorem tripNoted_clk (item : Fin 3) (value : BitVec 32) (s : State) : (tripNoted item value s).clk = s.clk := by
  simp [tripNoted]

theorem execMonTrip_ember {dt : Nat} {s : State} (value : BitVec 32) (hcold : s.mod.state ≠ .cold)
    (hwin : (advance dt s).clk.startWin = false) :
    execMonTrip dt 0 value s = .next (setClk (fun c => { c with emberFail := true, valid := putBit c.valid 3 false })
      (tripNoted 0 value (advance dt s))) := by
  simp [execMonTrip, tripNoted, hcold, hwin]

theorem execMonTrip_kiln {dt : Nat} {s : State} (value : BitVec 32) (hcold : s.mod.state ≠ .cold)
    (hwin : (advance dt s).clk.startWin = false) :
    execMonTrip dt 2 value s = .next (moduleReset 3 2 (tripNoted 2 value (advance dt s))) := by
  simp [execMonTrip, tripNoted, hcold, hwin]

/-! ### Clock enables (R201, R203) -/

/-- The enable of a block of CTU_CLKEN1 takes effect. -/
theorem execClockEnableApply_clken1 {dt : Nat} {b : Fin 11} {s : State} (on : Bool) (hcold : s.mod.state ≠ .cold)
    (hb : 7 ≤ b.val) :
    execClockEnableApply dt b on s = .next (setClk (fun c =>
      { c with want1 := putBit c.want1 (b.val - 7) on, clken1 := putBit c.clken1 (b.val - 7) on }) (advance dt s)) := by
  have hlow : ¬ b.val < 7 := by omega
  simp [execClockEnableApply, hcold, hlow]

/-- Settles O29: SOURCE_VALID by `sourceValid_locked`, MON_TRIP by `execMonTrip_ember` and `moduleReset_firing`, the
rest by what each command does to the clock side alone. -/
theorem sourcesAndMonitors : Obligations.SourcesAndMonitors := by
  refine ⟨fun s dt hmask hstate hrevert href hvalid => ?_, fun s dt n href htarget => ?_, fun s dt v hcold hwin => ?_,
    fun s dt v hcold hwin => ?_, fun s dt hfail => ?_, fun s dt b on hcold hb => ?_⟩
  · have hnoted : sourceValid 2 (advance dt s) = sourceNoted 2 (advance dt s) :=
      sourceValid_locked (sourceOpen_tcxo hmask) hstate hrevert (by rw [href]; exact hvalid)
    refine ⟨_, congrArg Host.Outcome.next hnoted, ?_, ?_, hstate, href, rfl⟩ <;> rw [sourceNoted_valid]
    · exact Bool.or_true _
    · rw [hvalid, Bool.true_or]
  · exact ⟨_, execSourceInvalid_unused href htarget, rfl, rfl⟩
  · exact ⟨_, execMonTrip_ember v hcold hwin, rfl, by rw [setClk_clk, tripNoted_clk], tripNoted_asserted 0 v _,
      tripNoted_recd 0 v _⟩
  · exact ⟨_, execMonTrip_kiln v hcold hwin, moduleReset_firing 3 2 _⟩
  · exact ⟨_, if_pos hfail, rfl, rfl, rfl⟩
  · exact ⟨_, execClockEnableApply_clken1 on hcold hb, rfl, rfl, rfl⟩

/-! ### The frequency meter (R204, R205) -/

/-- A setting the meter refuses: no gate, or a reserved code of a clock. -/
def MeterRefuses (r m : BitVec 4) (g : BitVec 24) : Prop := g = 0 ∨ 13 ≤ r.toNat ∨ 13 ≤ m.toNat

/-- The meter takes a setting: it measures, or is done at once and void. -/
def meterSet (r m : BitVec 4) (g : BitVec 24) (refused : Bool) (s : State) : State :=
  setClk (fun c =>
    { c with fmRef := r.toNat, fmMeas := m.toNat, fmGate := g.toNat, fmDone := refused, fmVoid := refused
             fmBusy := !refused, fmRamped := decide (c.rampStep ≠ 0) }) s

theorem execFmStart_taken {r m : BitVec 4} {g : BitVec 24} (s : State) (h : ¬ MeterRefuses r m g) :
    execFmStart r m g s = .next (meterSet r m g false s) := by
  have hset : decide (g = 0 ∨ 13 ≤ r.toNat ∨ 13 ≤ m.toNat) = false := decide_eq_false h
  rw [execFmStart, hset]
  rfl

theorem execFmStart_refused {r m : BitVec 4} {g : BitVec 24} (s : State) (h : MeterRefuses r m g) :
    execFmStart r m g s = .next (raise 70 (meterSet r m g true s)) := by
  have hset : decide (g = 0 ∨ 13 ≤ r.toNat ∨ 13 ≤ m.toNat) = true := decide_eq_true h
  rw [execFmStart, hset]
  rfl

/-- Settles O30: FM_START by the two cases of `MeterRefuses`, FM_DONE by its own effect on the clock side. -/
theorem frequencyMeter : Obligations.FrequencyMeter := by
  refine ⟨fun s r m g hgate hr hm => ?_, fun s r m => ?_, fun s dt c hbusy => ?_⟩
  · have htaken : ¬ MeterRefuses r m g := by
      rintro (h | h | h)
      · exact hgate h
      · omega
      · omega
    exact ⟨_, execFmStart_taken s htaken, rfl, rfl, rfl, rfl, rfl, rfl⟩
  · refine ⟨_, execFmStart_refused s (.inl rfl), ?_, ?_, ?_, raise_asserted 70 _ (by decide)⟩ <;>
      rw [raise_clk] <;> rfl
  · refine ⟨_, if_pos hbusy, ?_, ?_, ?_, ?_, raise_asserted 70 _ (by decide)⟩ <;> rw [raise_clk] <;> rfl

end Sys2Proof.Machine
end

section
/-! PROOFS. O45: an RPDO in a memory in canonical form (R357), the state that refutes the statement, and the
refutation. -/

namespace Sys2Proof.Machine

open Sys2Proof

/-! ### A part of what was written, read back -/

/-- In a memory in canonical form any stretch of what was written is read back. -/
theorem memRead_memWrite_part {m : List Host.Cell} (a : Nat) (pre mid post : List Byte) (h : Memory.wf m = true) :
    memRead (memWrite m a (pre ++ (mid ++ post))) (a + pre.length) mid.length = mid := by
  induction pre generalizing m a with
  | nil =>
    induction mid generalizing m a with
    | nil => rfl
    | cons b mid ih =>
      have hself : memGet (memWrite (memSet m a b) (a + 1) (mid ++ post)) a = b :=
        (memGet_memWrite_below _ (Nat.lt_succ_self a)).trans (memGet_memSet_self a b h)
      exact congrArg₂ List.cons hself (ih (a + 1) (Memory.wf_memSet a b h))
  | cons b pre ih =>
    rw [List.length_cons, Nat.add_comm pre.length, ← Nat.add_assoc]
    exact ih (a + 1) (Memory.wf_memSet a b h)

@[simp] theorem leBytes_length (n v : Nat) : (leBytes n v).length = n := by
  induction n generalizing v with
  | zero => rfl
  | succ n ih => rw [leBytes, List.length_cons, ih]

theorem leNat_leBytes (n v : Nat) : leNat (leBytes n v) = v % 256 ^ n := by
  induction n generalizing v with
  | zero => rw [pow_zero, Nat.mod_one]; rfl
  | succ n ih => rw [leBytes, leNat, ih, BitVec.toNat_ofNat, pow_succ' 256, Nat.mod_mul]

/-! ### The buffer of an RPDO -/

theorem semKiln_vmem (a : Nat) (s : State) : (semKiln a s).vmem = s.vmem := by
  unfold semKiln
  split <;> rfl

/-- Base of the buffer of an RPDO (R357). -/
def rpdoBase (ch : Fin 2) (n : Fin 8) : Nat := 0x0300038000 + 0x800 * ch.val + 0x80 * n.val

/-- The number of frames an RPDO has had, after the next. -/
def rpdoSeq (ch : Fin 2) (n : Fin 8) (s : State) : Nat := (leNat (vread s (rpdoBase ch n) 4) + 1) % 2 ^ 32

/-- The frame enters the buffer behind its descriptor: SEQ, the time of its arrival, its length and a reserved octet. -/
theorem rpdoStore_vmem (ch : Fin 2) (n : Fin 8) (d : List Byte) (s : State) :
    ∃ time : List Byte, time.length = 10 ∧ (rpdoStore ch n d s).vmem = memWrite s.vmem (rpdoBase ch n)
      (leBytes 4 (rpdoSeq ch n s) ++ (time ++ (leBytes 1 d.length ++ (leBytes 1 0 ++ d)))) := by
  refine ⟨leBytes 4 (splitNs (kilnStamp s).1).2 ++ leBytes 6 (splitNs (kilnStamp s).1).1, by simp, ?_⟩
  rw [rpdoStore, semKiln_vmem]
  simp only [List.append_assoc]
  rfl

/-- In a voted memory in canonical form the descriptor and the frame of an RPDO are read back. -/
theorem rpdoStore_reads (ch : Fin 2) (n : Fin 8) (d : List Byte) {s : State} (h : Memory.wf s.vmem = true) :
    let t := rpdoStore ch n d s
    leNat (vread t (rpdoBase ch n) 4) = rpdoSeq ch n s ∧ vread t (rpdoBase ch n + 14) 1 = leBytes 1 d.length ∧
      vread t (rpdoBase ch n + 16) d.length = d := by
  obtain ⟨time, htime, hvmem⟩ := rpdoStore_vmem ch n d s
  have hseq := memRead_memWrite_part (rpdoBase ch n) [] (leBytes 4 (rpdoSeq ch n s))
    (time ++ (leBytes 1 d.length ++ (leBytes 1 0 ++ d))) h
  have hlen := memRead_memWrite_part (rpdoBase ch n) (leBytes 4 (rpdoSeq ch n s) ++ time) (leBytes 1 d.length)
    (leBytes 1 0 ++ d) h
  have hdata := memRead_memWrite_part (rpdoBase ch n)
    (leBytes 4 (rpdoSeq ch n s) ++ (time ++ (leBytes 1 d.length ++ leBytes 1 0))) d [] h
  simp only [List.nil_append, List.append_nil, List.append_assoc, List.length_append, List.length_nil, leBytes_length,
    htime] at hseq hlen hdata
  simp only [vread, hvmem]
  refine ⟨(congrArg leNat hseq).trans ?_, hlen, hdata⟩
  rw [leNat_leBytes, rpdoSeq]
  omega

theorem execRpdoReceived_stores {dt : Nat} {ch : Fin 2} {n : Fin 8} {cob : BitVec 29} {d : List Byte} {s : State}
    (hon : canOn ch (advance dt s) = true) (hnmt : ((advance dt s).cfd.chans[ch]).nmt = 2) (hlen : d.length ≤ 64)
    (hn : rpdoOf ch cob.toNat (advance dt s) = some n) :
    execRpdoReceived dt ch cob d s = .next (rpdoStore ch n d (advance dt s)) := by
  simp only [execRpdoReceived, hon, hnmt, hn, Nat.not_lt.2 hlen]
  rfl

/-- The first octet of the buffer after a frame: SEQ is written over it, whatever the memory lists. -/
theorem rpdoStore_first (ch : Fin 2) (n : Fin 8) (d : List Byte) (s : State) :
    memGet (rpdoStore ch n d s).vmem (rpdoBase ch n) =
      memGet (memSet s.vmem (rpdoBase ch n) (BitVec.ofNat 8 (rpdoSeq ch n s))) (rpdoBase ch n) := by
  obtain ⟨time, -, hvmem⟩ := rpdoStore_vmem ch n d s
  rw [hvmem]
  exact memGet_memWrite_below _ (Nat.lt_succ_self _)

/-! ### The refutation -/

/-- RUN with channel 0 operational and its RPDO 0 on COB-ID 0x205; the voted memory is not in canonical form: it lists
the first octet of that RPDO's SEQ twice. -/
def rpdoListedTwice : State :=
  { mod := { state := .run2oo3 }
    pwr := { on := 0xFFF }
    clk := { clken1 := 0xF }
    cfd := { chans := Vector.replicate 2 { node := 5, nmt := 2, bus := 0 } }
    kiln := { inForce := [((0x1400, 1), 0x205)] }
    vmem := [(0x0300038000, 255), (0x0300038000, 255)] }

theorem rpdoListedTwice_receives : canOn 0 (advance 0 rpdoListedTwice) = true ∧
    ((advance 0 rpdoListedTwice).cfd.chans[(0 : Fin 2)]).nmt = 2 ∧
    rpdoOf 0 (0x205 : BitVec 29).toNat (advance 0 rpdoListedTwice) = some 0 := by
  decide +kernel

/-- SEQ goes from 255 to 256: its first octet, 0, takes the first of the two entries away, and the second stays. -/
theorem rpdoListedTwice_keeps : rpdoSeq 0 0 (advance 0 rpdoListedTwice) = 256 ∧
    memGet (memSet (advance 0 rpdoListedTwice).vmem (rpdoBase 0 0) (BitVec.ofNat 8 256)) (rpdoBase 0 0) = 255 := by
  decide +kernel

/-- Refutes O45. Its clause on RPDO_RECEIVED fails in a state whose voted memory is not in canonical form
(`State.memWf`), which the statement does not ask for; with that premise it is `execRpdoReceived_stores` and
`rpdoStore_reads`. -/
theorem not_canChannelsAreNodes : ¬ Obligations.CanChannelsAreNodes := by
  unfold Obligations.CanChannelsAreNodes
  intro h
  obtain ⟨-, -, hrpdo, -⟩ := h
  obtain ⟨hon, hnmt, hn⟩ := rpdoListedTwice_receives
  obtain ⟨-, hstores⟩ := hrpdo rpdoListedTwice 0 0 0x205 []
  obtain ⟨t, ht, hread, -⟩ := hstores 0 hon hnmt (Nat.zero_le _) hn
  have hexec : exec (.rpdoReceived 0 0 0x205 []) rpdoListedTwice =
      .next (rpdoStore 0 0 [] (advance 0 rpdoListedTwice)) :=
    execRpdoReceived_stores (d := []) hon hnmt (Nat.zero_le _) hn
  obtain ⟨hseq, hkeeps⟩ := rpdoListedTwice_keeps
  have hfirst : memGet t.vmem (rpdoBase 0 0) = 255 := by
    rw [Host.Outcome.next.inj (ht.symm.trans hexec), rpdoStore_first, hseq]
    exact hkeeps
  have hsum : leNat (vread t (rpdoBase 0 0) 4) =
      (memGet t.vmem (rpdoBase 0 0)).toNat + 256 * leNat (memRead t.vmem (rpdoBase 0 0 + 1) 3) := rfl
  have hnext : leNat (vread t (rpdoBase 0 0) 4) = 256 := hread.trans hseq
  rw [hfirst, hnext] at hsum
  have hoctet : (255 : Byte).toNat = 255 := rfl
  omega

end Sys2Proof.Machine
end

section
/-! PROOFS. O31: steps and slews of network time, the rate, and the error bound (R212, R213, R218, R221, R222). -/

namespace Sys2Proof.Machine

open Sys2Proof

theorem SameBut.tim {P : List Part} {s t : State} (h : SameBut P s t) (ht : Part.tim ∉ P) : t.tim = s.tim :=
  h.2 .tim ht

@[simp] theorem setTim_tim (f : Tim → Tim) (s : State) : (setTim f s).tim = f s.tim := rfl

/-! ### Network time at the reference count (R212, R213) -/

/-- Network time at the reference count is the offset. -/
theorem Tim.ntAt_ref (t : Tim) : t.ntAt t.frcRef.toNat = t.offset := by simp [Tim.ntAt]

theorem Tim.nt_of_ref {t : Tim} (h : t.frcRef = t.frc) : t.nt = t.offset := by rw [Tim.nt, ← h, t.ntAt_ref]

/-! ### The edges of UNCERT (R218, R236) -/

/-- On the time side an edge of UNCERT only notes since when. -/
theorem uncertEdge_tim (was : Bool) (cause eb : Nat) (s : State) :
    ∃ u, (uncertEdge was cause eb s).tim = { s.tim with uncSince := u } := by
  unfold uncertEdge
  split
  · exact ⟨s.tim.elapsed, by simp⟩
  · split
    · exact ⟨s.tim.uncSince, by simp⟩
    · exact ⟨s.tim.uncSince, rfl⟩

theorem uncertEdge_asserted {m : Nat} (was : Bool) (cause eb : Nat) {s : State} (h : Asserted m s.ints) :
    Asserted m (uncertEdge was cause eb s).ints := by
  unfold uncertEdge
  split
  · rw [record_ints]
    exact raise_asserted_of 81 m _ h
  · split
    · rw [record_ints]
      exact raise_asserted_of 82 m _ h
    · exact h

/-! ### A step (R221) -/

/-- The time side as a step by `v` leaves it. -/
def Tim.stepped (v : Int) (lock : Bool) (t : Tim) : Tim :=
  { t with offset := t.nt + v, frcRef := t.frc, sl := 0, busy := false, stepSum := t.stepSum + v, steps := inc32 t.steps
           stepCnt := (t.stepCnt + 1) % 16, stepSince := true, rebased := true
           timeLocal := t.timeLocal && !lock }

theorem Tim.stepped_nt (v : Int) (lock : Bool) (t : Tim) : (t.stepped v lock).nt = t.nt + v :=
  Tim.nt_of_ref (t := t.stepped v lock) rfl

/-- The time side is stepped and the step noted: TIME_STEP, interrupt 80, and 83 where it is the first. -/
def stepNoted (v : Int) (lock : Bool) (s : State) : State :=
  let first := s.tim.timeLocal && lock
  let s2 := raise 80 (record 2 0x2010 (int32 (stepParts v).1) (int32 (stepParts v).2) (if first then 1 else 2)
    (setTim (Tim.stepped v lock) s))
  if first then raise 83 s2 else s2

theorem stepNoted_tim (v : Int) (lock : Bool) (s : State) : (stepNoted v lock s).tim = s.tim.stepped v lock := by
  unfold stepNoted
  dsimp only
  split <;> simp

theorem stepNoted_asserted (v : Int) (lock : Bool) (s : State) : Asserted 80 (stepNoted v lock s).ints := by
  unfold stepNoted
  dsimp only
  split
  · exact raise_asserted_of 83 80 _ (raise_asserted 80 _ (by decide))
  · exact raise_asserted 80 _ (by decide)

/-- The sequencer takes note of a step (R162). -/
def sequencerStepped (v : Int) (s : State) : State :=
  if s.cys.run then
    { s with cys := { s.cys with
        stepPend := some (decide (0 ≤ v), s.tim.ns + (gapLen s + 5) * 1000)
        tasks := s.cys.tasks.map (fun t => { t with step := true }) } }
  else s

theorem sequencerStepped_tim_ints (v : Int) (s : State) :
    (sequencerStepped v s).tim = s.tim ∧ (sequencerStepped v s).ints = s.ints := by
  unfold sequencerStepped
  split <;> exact ⟨rfl, rfl⟩

theorem xnStep_rest (s : State) : SameBut [.vrc, .xn, .twl, .vmem] s (xnStep s) :=
  xnStep_frame s (by decide) (by decide) (by decide) (by decide) (SameBut.refl _ s)

/-- A step in its order: the time side, the sequencer, the XNB, and the edge of UNCERT. -/
theorem stepTime_eq (v : Int) (lock : Bool) (s : State) :
    stepTime v lock s = uncertEdge s.tim.uncert 2 (errBoundReg (sequencerStepped v (stepNoted v lock s)))
      (xnStep (sequencerStepped v (stepNoted v lock s))) := rfl

theorem stepTime_tim (v : Int) (lock : Bool) (s : State) :
    ∃ u, (stepTime v lock s).tim = { s.tim.stepped v lock with uncSince := u } := by
  rw [stepTime_eq]
  obtain ⟨u, hu⟩ := uncertEdge_tim s.tim.uncert 2 (errBoundReg (sequencerStepped v (stepNoted v lock s)))
    (xnStep (sequencerStepped v (stepNoted v lock s)))
  refine ⟨u, hu.trans ?_⟩
  rw [(xnStep_rest _).tim (by decide), (sequencerStepped_tim_ints v _).1, stepNoted_tim]

theorem stepTime_asserted (v : Int) (lock : Bool) (s : State) : Asserted 80 (stepTime v lock s).ints := by
  rw [stepTime_eq]
  refine uncertEdge_asserted _ _ _ ?_
  rw [(xnStep_rest _).ints (by decide), (sequencerStepped_tim_ints v _).2]
  exact stepNoted_asserted v lock s

/-! ### A slew (R222) -/

/-- Without seconds the adjustment is its nanoseconds. -/
theorem adjValue_writeAdj_ns (mode : Nat) (ns : BitVec 32) (s : State) :
    adjValue (writeAdj mode ns 0 s).tim = ns.toInt * 65536 := by
  simp [adjValue, writeAdj]

/-- The time side as a slew by `v` begins. -/
def Tim.slewing (v : Int) (t : Tim) : Tim :=
  { t.rebase with
    sl := if 0 < v then slOf t.slewPpm else -slOf t.slewPpm, busy := true
    slewEnd := t.frc + BitVec.ofNat 64 (slewCounts v (slOf t.slewPpm)) }

theorem Tim.slewing_nt (v : Int) (t : Tim) : (t.slewing v).nt = t.nt := Tim.nt_of_ref (t := t.slewing v) rfl

theorem slewTime_eq {v : Int} (s : State) (hv : v ≠ 0) : slewTime v s = setTim (Tim.slewing v) s := by
  simp only [slewTime, if_neg hv, setTim, Tim.slewing]

/-- The time side as a slew ends: at the count at which it was fully applied. -/
def Tim.slewEnded (t : Tim) : Tim :=
  { t with offset := t.ntAt t.slewEnd.toNat, frcRef := t.slewEnd, sl := 0, busy := false, rebased := true }

theorem slewDone_ended {s : State} (hbusy : s.tim.busy = true) (hend : s.tim.slewEnd.toNat ≤ s.tim.frc.toNat) :
    slewDone s = raise 88 (setTim Tim.slewEnded s) :=
  if_pos (by rw [hbusy, decide_eq_true hend]; rfl)

/-! ### The rate (R213) and the error bound (R218) -/

/-- The time side at a new rate. -/
def Tim.rated (r : Int) (t : Tim) : Tim := { t.rebase with rate := r }

theorem Tim.rated_nt (r : Int) (t : Tim) : (t.rated r).nt = t.nt := Tim.nt_of_ref (t := t.rated r) rfl

/-- A rate within the limits is taken as it is, and nothing is recorded. -/
theorem setRate_within {r : Int} (s : State) (h : clampRate r = r) : setRate r s = setTim (Tim.rated r) s := by
  simp only [setRate, h, if_true]
  rfl

/-- The time side as a check against the uncertainty threshold leaves it, without a servo update. -/
def Tim.bounded (above : Bool) (t : Tim) : Tim := { t with uncBound := !t.timeLocal && above }

theorem boundCheck_steady (s : State) : boundCheck false s = uncertEdge s.tim.uncert 2 (errBoundReg s)
    (setTim (Tim.bounded (decide (par s 0x2310 9 < errBoundReg s))) s) := by
  simp only [boundCheck, Bool.false_and, Bool.not_false, Bool.and_true]
  rfl

theorem boundCheck_tim {s : State} (hlocal : s.tim.timeLocal = false) :
    (boundCheck false s).tim.uncBound = decide (par s 0x2310 9 < errBoundReg s) ∧
      (boundCheck false s).tim.uncCoast = s.tim.uncCoast := by
  rw [boundCheck_steady]
  obtain ⟨u, hu⟩ := uncertEdge_tim s.tim.uncert 2 (errBoundReg s)
    (setTim (Tim.bounded (decide (par s 0x2310 9 < errBoundReg s))) s)
  rw [hu]
  simp [Tim.bounded, hlocal]

/-! ### The adjustment registers (R235) -/

/-- The registers as an adjustment in range leaves them: no error is flagged. -/
def adjAccepted (mode : Nat) (ns : BitVec 32) (sec : BitVec 48) (s : State) : State :=
  setTim (fun t => { t with adjErr := false }) (writeAdj mode ns sec s)

theorem execCtuAdjStep_taken {ns : BitVec 32} {sec : BitVec 48} {s : State}
    (h : adjInRange (writeAdj 2 ns sec s).tim = true) :
    execCtuAdjStep ns sec s =
      .next (stepTime (adjValue (writeAdj 2 ns sec s).tim) true (adjAccepted 2 ns sec s)) := if_pos h

theorem execCtuAdjStep_refused {ns : BitVec 32} {sec : BitVec 48} {s : State}
    (h : adjInRange (writeAdj 2 ns sec s).tim = false) :
    execCtuAdjStep ns sec s = .next (setTim (fun t => { t with adjErr := true }) (writeAdj 2 ns sec s)) :=
  if_neg (by rw [h]; exact Bool.false_ne_true)

theorem execCtuAdjSlew_taken {ns : BitVec 32} {s : State} (h : adjInRange (writeAdj 1 ns 0 s).tim = true)
    (hns : ns ≠ 0) :
    execCtuAdjSlew ns 0 s =
      .next (setTim (Tim.slewing (ns.toInt * 65536)) (adjAccepted 1 ns 0 s)) := by
  have hint : ns.toInt ≠ 0 := fun hzero => hns (BitVec.toInt_inj.1 (by rw [hzero]; rfl))
  have hexec : execCtuAdjSlew ns 0 s = .next (slewTime (adjValue (writeAdj 1 ns 0 s).tim) (adjAccepted 1 ns 0 s)) :=
    if_pos (by rw [h]; rfl)
  rw [hexec, adjValue_writeAdj_ns, slewTime_eq _ (by omega)]

/-- Settles O31: a step by `stepTime_tim` and `stepTime_asserted`, a slew and the rate by rebasing, which leaves network
time as it was, the error bound by `boundCheck_tim`. -/
theorem timeStepsSlewsAndRate : Obligations.TimeStepsSlewsAndRate := by
  refine ⟨fun s ns sec hrange => ?_, fun s ns sec hrange => ?_, fun s ns hrange hns => ?_, fun s dt hbusy hend => ?_,
    fun s r hr => ?_, fun s dt hlocal => ?_⟩
  · refine ⟨_, execCtuAdjStep_taken hrange, ?_⟩
    obtain ⟨u, hu⟩ := stepTime_tim (adjValue (writeAdj 2 ns sec s).tim) true (adjAccepted 2 ns sec s)
    rw [hu]
    exact ⟨Tim.stepped_nt _ true (adjAccepted 2 ns sec s).tim, rfl, rfl, rfl, rfl, rfl, stepTime_asserted _ _ _⟩
  · exact ⟨_, execCtuAdjStep_refused hrange, rfl, rfl, rfl⟩
  · refine ⟨_, execCtuAdjSlew_taken hrange hns, Tim.slewing_nt _ _, rfl, rfl, ?_⟩
    have hsign : 0 < ns.toInt * 65536 ↔ 0 < ns.toInt := by omega
    exact if_congr hsign rfl rfl
  · refine ⟨_, congrArg Host.Outcome.next (slewDone_ended hbusy hend), ?_, ?_, ?_, raise_asserted 88 _ (by decide)⟩
    all_goals rw [raise_tim]; rfl
  · exact ⟨_, congrArg Host.Outcome.next (setRate_within s hr), rfl, Tim.rated_nt _ _, rfl⟩
  · exact ⟨_, rfl, boundCheck_tim hlocal⟩

end Sys2Proof.Machine
end

section
/-! PROOFS. O33: the measurement of link delays and the transparent clock (R225-R228). -/

namespace Sys2Proof.Machine

open Sys2Proof

theorem setDelay_self (p : Fin 2) (f : PeerDelay → PeerDelay) (s : State) :
    (setDelay p f s).tim.delay[p] = f s.tim.delay[p] := vmod_self _ p f

/-! ### Link delays (R225) -/

/-- The switch runs and the port's link is up: its messages are handled. -/
theorem port_handled {p : Fin 2} {s : State} (hon : switchOn s = true) (hlink : s.lnc.spd[p] ≠ 0) :
    ¬ (switchOn s = false ∨ s.lnc.spd[p] = 0) := by
  rw [hon]
  exact not_or.2 ⟨Bool.true_eq_false_eq_False, hlink⟩

/-- The next request goes out. -/
def requestSent (p : Fin 2) (s : State) : State :=
  setTim (fun t => { t with pdelaySeq := t.pdelaySeq + 1 }) (setDelay p (fun d => { d with waiting := true }) s)

theorem requestSent_delay (p : Fin 2) (s : State) :
    (requestSent p s).tim.delay[p] = { s.tim.delay[p] with waiting := true } := setDelay_self p _ s

/-- The third request unanswered: the measurement is invalid, which is recorded and asserts interrupt 86. -/
def measurementLost (p : Fin 2) (s : State) : State :=
  raise 86 (record 2 0x2015 p.val 3 0 (setDelay p (fun d => { d with valid := false, fresh := 0, delays := [] })
    (setDelay p (fun d => { d with fails := inc32 d.fails }) s)))

theorem measurementLost_delay (p : Fin 2) (s : State) : (measurementLost p s).tim.delay[p] =
    { s.tim.delay[p] with fails := inc32 s.tim.delay[p].fails, valid := false, fresh := 0, delays := [] } := by
  rw [measurementLost, raise_tim, record_tim, setDelay_self, setDelay_self]

theorem measurementLost_seq (p : Fin 2) (s : State) : (measurementLost p s).tim.pdelaySeq = s.tim.pdelaySeq := by
  rw [measurementLost, raise_tim, record_tim]
  rfl

theorem execPdelayReqInterval_third {dt : Nat} {p : Fin 2} {s : State} (hon : switchOn (advance dt s) = true)
    (hlink : (advance dt s).lnc.spd[p] ≠ 0) (hwaits : (advance dt s).tim.delay[p].waiting = true)
    (hfails : (advance dt s).tim.delay[p].fails = 2) :
    execPdelayReqInterval dt p s = .next (requestSent p (measurementLost p (advance dt s))) := by
  simp only [execPdelayReqInterval, if_neg (port_handled hon hlink), hwaits, hfails, if_true]
  rfl

theorem execPdelayReqInterval_answered {dt : Nat} {p : Fin 2} {s : State} (hon : switchOn (advance dt s) = true)
    (hlink : (advance dt s).lnc.spd[p] ≠ 0) (hwaits : (advance dt s).tim.delay[p].waiting = false) :
    execPdelayReqInterval dt p s = .next (requestSent p (advance dt s)) := by
  simp only [execPdelayReqInterval, if_neg (port_handled hon hlink), hwaits]
  rfl

/-- An exchange as it completes. -/
def PeerDelay.answered (delay ratio : Int) (d : PeerDelay) : PeerDelay :=
  { d with delays := (delay :: d.delays).take 8, fresh := d.fresh + 1, valid := d.valid || decide (1 ≤ d.fresh)
           fails := 0, waiting := false, ratio := ratio }

theorem execPdelayRespReceived_waiting {dt : Nat} {p : Fin 2} {s : State} (delay ratio : BitVec 32)
    (hon : switchOn (advance dt s) = true) (hlink : (advance dt s).lnc.spd[p] ≠ 0)
    (hwaits : (advance dt s).tim.delay[p].waiting = true) :
    execPdelayRespReceived dt p delay ratio s =
      .next (setDelay p (PeerDelay.answered delay.toInt ratio.toInt) (advance dt s)) :=
  if_neg (by rw [hon, hwaits]; simpa using hlink)

/-! ### The transparent clock (R226-R228) -/

/-- A frame crosses with a correction. -/
def tcSent (c : BitVec 64) (s : State) : State := setTim (fun t => { t with tcOut := some c }) s

/-- The correction of a Sync that crosses, 2^-16 ns: its own, the residence time, and the link delay where valid. -/
def tcSum (p : Fin 2) (corr : BitVec 64) (counts : BitVec 32) (s : State) : Int :=
  corr.toInt + residence s counts.toNat + (portDelay p s).getD 0

/-- The switch runs with both links up: a frame that is no peer-delay message crosses. -/
theorem frame_crosses {kind : PtpKind} {s : State} (hon : switchOn s = true) (h0 : s.lnc.spd[0] ≠ 0)
    (h1 : s.lnc.spd[1] ≠ 0) (hkind : kind ≠ .pdelay) :
    ¬ (switchOn s = false ∨ s.lnc.spd[0] = 0 ∨ s.lnc.spd[1] = 0 ∨ kind = .pdelay) := by
  rw [hon]
  simp [h0, h1, hkind]

theorem execTcForward_sync {dt : Nat} {p : Fin 2} {tags : Fin 4} {corr : BitVec 64} {n : BitVec 32} {s : State}
    (seq : BitVec 16) (hon : switchOn (advance dt s) = true) (h0 : (advance dt s).lnc.spd[0] ≠ 0)
    (h1 : (advance dt s).lnc.spd[1] ≠ 0) (hpar : parOn (advance dt s) 0x2310 13 = true) (htags : tags.val ≤ 1)
    (hcorr : corr ≠ 0x7FFFFFFFFFFFFFFF) (hsum : tcSum p corr n (advance dt s) ≤ 0x7FFFFFFFFFFFFFFF) :
    execTcForward dt p .sync tags seq corr n s =
      .next (setTim (fun t => { t with tcCorrected := inc32 t.tcCorrected })
        (tcSent (BitVec.ofInt 64 (tcSum p corr n (advance dt s))) (advance dt s))) := by
  have hcorrected : ¬ (PtpKind.sync ≠ .sync ∨ parOn (advance dt s) 0x2310 13 = false) := by simp [hpar]
  have huntagged : ¬ 2 ≤ tags.val := by omega
  have hfits : ¬ (0x7FFFFFFFFFFFFFFF < tcSum p corr n (advance dt s) ∨ corr = 0x7FFFFFFFFFFFFFFF) :=
    not_or.2 ⟨not_lt.2 hsum, hcorr⟩
  unfold tcSum at hfits
  simp only [execTcForward, if_neg (frame_crosses hon h0 h1 (kind := .sync) (by decide)), if_neg hcorrected,
    if_neg huntagged, if_neg hfits]
  rfl

theorem execTcForward_followUp {dt : Nat} {s : State} (p : Fin 2) (tags : Fin 4) (seq : BitVec 16) (corr : BitVec 64)
    (n : BitVec 32) (hon : switchOn (advance dt s) = true) (h0 : (advance dt s).lnc.spd[0] ≠ 0)
    (h1 : (advance dt s).lnc.spd[1] ≠ 0) :
    execTcForward dt p .followUp tags seq corr n s = .next (tcSent corr (advance dt s)) := by
  have hpassed : PtpKind.followUp ≠ .sync ∨ parOn (advance dt s) 0x2310 13 = false := .inl (by decide)
  simp only [execTcForward, if_neg (frame_crosses hon h0 h1 (kind := .followUp) (by decide)), if_pos hpassed]
  rfl

/-- Settles O33: PDELAY_REQ_INTERVAL by the two cases of the request before, PDELAY_RESP_RECEIVED by
`PeerDelay.answered`, TC_FORWARD by `execTcForward_sync` and `execTcForward_followUp`. -/
theorem linkDelayAndTransparentClock : Obligations.LinkDelayAndTransparentClock := by
  refine ⟨fun s dt p hon hlink hwaits hfails => ?_, fun s dt p hon hlink hwaits => ?_, fun s dt p hon hlink => ?_,
    fun s dt p d r hon hlink hwaits => ?_, fun s dt p seq corr n tags hon h0 h1 hpar htags hcorr hsum => ?_,
    fun s dt p seq corr n tags hon h0 h1 => ?_⟩
  · refine ⟨_, execPdelayReqInterval_third hon hlink hwaits hfails, ?_⟩
    rw [requestSent_delay, measurementLost_delay]
    exact ⟨rfl, rfl, rfl, congrArg (· + 1) (measurementLost_seq p _), raise_asserted 86 _ (by decide)⟩
  · refine ⟨_, execPdelayReqInterval_answered hon hlink hwaits, ?_⟩
    rw [requestSent_delay]
    exact ⟨rfl, rfl, advance_ints dt s⟩
  · refine ⟨_, if_neg (port_handled hon hlink), ?_⟩
    rw [setDelay_self]
  · refine ⟨_, execPdelayRespReceived_waiting d r hon hlink hwaits, ?_⟩
    rw [setDelay_self]
    refine ⟨rfl, rfl, rfl, rfl, fun hfresh => ?_⟩
    rw [PeerDelay.answered, decide_eq_true hfresh]
    exact Bool.or_true _
  · exact ⟨_, execTcForward_sync seq hon h0 h1 hpar htags hcorr hsum, rfl, rfl⟩
  · exact ⟨_, execTcForward_followUp p tags seq corr n hon h0 h1, rfl, rfl⟩

end Sys2Proof.Machine
end

section
/-! PROOFS. O37: dark tests and the return of the gate set (R242, R246-R248). -/

namespace Sys2Proof.Machine

open Sys2Proof

theorem setChan_self (ch : Fin 48) (f : Channel → Channel) (s : State) :
    (setChan ch f s).chans[ch] = f s.chans[ch] := setChan_at ch f s

theorem setChan_other {ch j : Fin 48} (f : Channel → Channel) (s : State) (h : j ≠ ch) :
    (setChan ch f s).chans[j] = s.chans[j] := setChan_ne ch j f s h

theorem latches_advance (dt : Nat) (s : State) (v : Bool) : latches (advance dt s) v = latches s v := by
  rw [latches, latches, advance_vrc]

/-! ### The pulse starts (R246, R247) -/

/-- A pulse that starts on a channel: its gate set driven to `g`, and the set after it next. -/
def Channel.pulsed (g : Bool) (c : Channel) : Channel :=
  { c with pulse := some c.darkNext, darkDue := false, gates := putBit c.gates c.darkNext.val g
           darkNext := if c.darkNext.val = 0 then 1 else if c.darkNext.val = 1 then 2 else 0 }

theorem Channel.pulsed_darkNext (g : Bool) (c : Channel) : (c.pulsed g).darkNext.val = (c.darkNext.val + 1) % 3 := by
  unfold Channel.pulsed
  generalize c.darkNext = k
  fin_cases k <;> rfl

theorem startPulse_self (ch : Fin 48) (s : State) :
    ∃ g, (startPulse ch s).chans[ch] = (s.chans[ch]).pulsed g := ⟨_, setChan_self ch _ s⟩

theorem startPulse_other {ch j : Fin 48} (s : State) (h : j ≠ ch) : (startPulse ch s).chans[j] = s.chans[j] :=
  setChan_other _ s h

theorem execDarkTestStart_starts {dt : Nat} {ch : Fin 48} {s : State} (hready : darkReady ch (advance dt s) = true)
    (hnear : launchNear ch (advance dt s) = false) :
    execDarkTestStart dt ch s = .next (startPulse ch (advance dt s)) := by
  simp only [execDarkTestStart, hready, hnear, if_true, Bool.false_eq_true, if_false]

/-! ### The pulse ends (R246) -/

/-- The pulse of a channel ends, and its gates follow their latches again. -/
def pulseEnded (ch : Fin 48) (s : State) : State :=
  setChan ch (fun x => { x with pulse := none, gates := latches s x.cmd }) s

theorem pulseEnded_self (ch : Fin 48) (s : State) : (pulseEnded ch s).chans[ch] =
    { s.chans[ch] with pulse := none, gates := latches s (s.chans[ch]).cmd } := setChan_self ch _ s

theorem pulseEnded_other {ch j : Fin 48} (s : State) (h : j ≠ ch) : (pulseEnded ch s).chans[j] = s.chans[j] :=
  setChan_other _ s h

theorem execDarkPulseEnd_pass {dt : Nat} {ch : Fin 48} {k : Fin 3} {s : State}
    (hk : ((advance dt s).chans[ch]).pulse = some k) :
    execDarkPulseEnd dt ch none s =
      .next (setChan ch (fun x => { x with dtPass := (x.dtPass + 1) % 256 }) (pulseEnded ch (advance dt s))) := by
  simp only [execDarkPulseEnd, hk]
  rfl

/-- DARK_FAIL is recorded, and the senses of the channel no longer agree. -/
def darkFailed (ch : Fin 48) (k : Fin 3) (senses : BitVec 6) (s : State) : State :=
  record (bankSrc ch) 0x3002 ch.val k.val senses.toNat (setChan ch (fun x => { x with agree := false }) s)

theorem darkFailed_self (ch : Fin 48) (k : Fin 3) (senses : BitVec 6) (s : State) :
    (darkFailed ch k senses s).chans[ch] = { s.chans[ch] with agree := false } := by
  rw [darkFailed, record_chans, setChan_self]

theorem execDarkPulseEnd_fail {dt : Nat} {ch : Fin 48} {k : Fin 3} {s : State} (senses : BitVec 6)
    (hk : ((advance dt s).chans[ch]).pulse = some k) :
    execDarkPulseEnd dt ch (some senses) s =
      .next (chanFault ch 5 k.val (darkFailed ch k senses (pulseEnded ch (advance dt s)))) := by
  simp only [execDarkPulseEnd, hk]
  rfl

/-- A fault of an output channel: its state and cause, its senses as they were, and the fault interrupt of its bank. -/
theorem chanFault_output {ch : Fin 48} (cause p2 : Nat) {s : State} (hout : (s.chans[ch]).isOut = true) :
    ((chanFault ch cause p2 s).chans[ch]).state = .fault ∧ ((chanFault ch cause p2 s).chans[ch]).cause = cause ∧
      ((chanFault ch cause p2 s).chans[ch]).agree = (s.chans[ch]).agree ∧
      Asserted (bankInt (bankOf ch) + 2) (chanFault ch cause p2 s).ints := by
  obtain ⟨hstate, -, -, hagree, -⟩ := applySafe_at ch 1 .fault s
  have hself : (chanFault ch cause p2 s).chans[ch] = { (applySafe ch 1 .fault s).chans[ch] with cause := cause } := by
    rw [chanFault, raise_chans, record_chans, setChan_self, if_pos hout]
  rw [hself]
  exact ⟨hstate, rfl, hagree, raise_bank _ 2 _ (by decide)⟩

/-! ### The readback agrees (R247) -/

/-- Readback and senses of a channel agree; the filtered state of a live output is the commanded one. -/
def readbackAgreed (ch : Fin 48) (s : State) : State :=
  setChan ch (fun x => { x with agree := true, filt := if x.state.live then x.cmd else x.filt }) s

theorem readbackAgreed_self {ch : Fin 48} {s : State} (hlive : (s.chans[ch]).state.live = true) :
    (readbackAgreed ch s).chans[ch] = { s.chans[ch] with agree := true, filt := (s.chans[ch]).cmd } := by
  rw [readbackAgreed, setChan_self, if_pos hlive]

theorem execReadbackAgrees_output {ch : Fin 48} {s : State} (hout : (s.chans[ch]).isOut = true) :
    execReadbackAgrees ch s = .next (readbackAgreed ch s) ∨
      execReadbackAgrees ch s = .next (startPulse ch (readbackAgreed ch s)) := by
  simp only [execReadbackAgrees, hout, if_true]
  split
  · exact .inr rfl
  · exact .inl rfl

/-- Settles O37: the pulse that starts is `startPulse_self`; the one that ends is `pulseEnded`, and where it fails
`chanFault_output`; after an agreeing readback a deferred pulse may start, which leaves `agree` and `filt` alone. -/
theorem darkTestsReturnTheGateSet : Obligations.DarkTestsReturnTheGateSet := by
  refine ⟨fun s dt ch hready hnear => ?_, fun s dt ch k hk => ?_, fun s dt ch k x hk hout => ?_,
    fun s ch hout hlive => ?_⟩
  · obtain ⟨g, hself⟩ := startPulse_self ch (advance dt s)
    rw [advance_chans] at hself
    refine ⟨_, execDarkTestStart_starts hready hnear, ?_⟩
    rw [hself]
    exact ⟨rfl, Channel.pulsed_darkNext g _, rfl, fun j hj => by rw [startPulse_other _ hj, advance_chans]⟩
  · refine ⟨_, execDarkPulseEnd_pass (by rwa [advance_chans]), ?_⟩
    rw [setChan_self, pulseEnded_self, advance_chans]
    exact ⟨rfl, latches_advance dt s _, rfl, rfl,
      fun j hj => by rw [setChan_other _ _ hj, pulseEnded_other _ hj, advance_chans]⟩
  · have hself := darkFailed_self ch k x (pulseEnded ch (advance dt s))
    rw [pulseEnded_self, advance_chans] at hself
    obtain ⟨hstate, hcause, hagree, hint⟩ := chanFault_output 5 k.val
      (s := darkFailed ch k x (pulseEnded ch (advance dt s))) (by rw [hself]; exact hout)
    exact ⟨_, execDarkPulseEnd_fail x (by rwa [advance_chans]), hstate, hcause, hagree.trans (by rw [hself]), hint⟩
  · have hself := readbackAgreed_self hlive
    have hother (j : Fin 48) (hj : j ≠ ch) : (readbackAgreed ch s).chans[j] = s.chans[j] := setChan_other _ s hj
    obtain hexec | hexec := execReadbackAgrees_output hout
    · refine ⟨_, hexec, ?_⟩
      rw [hself]
      exact ⟨rfl, rfl, hother⟩
    · obtain ⟨g, hpulse⟩ := startPulse_self ch (readbackAgreed ch s)
      refine ⟨_, hexec, ?_⟩
      rw [hpulse, hself]
      exact ⟨rfl, rfl, fun j hj => by rw [startPulse_other _ hj, hother j hj]⟩

end Sys2Proof.Machine
end

section
/-! PROOFS. O39: glaze entries posted and launched (R242, R262, R263). -/

namespace Sys2Proof.Machine

open Sys2Proof

/-! ### Posting (R262) -/

/-- A launch time that no entry of the channel has yet, ahead of bank time and within the horizon: the entry is queued
unless the queue is full. -/
theorem glazePost_ahead {ch : Fin 48} (st : Bool) {ns now : Int} {s : State}
    (hnow : bankNow s.banks[bankOf ch] s = some now) (hkind : (s.chans[ch]).kind = 4)
    (hdriven : (s.chans[ch]).state = .driven) (hahead : now < ns)
    (hhorizon : ns - now ≤ (s.banks[bankOf ch]).horizon * 1000000000)
    (hnew : ∀ e ∈ (s.chans[ch]).queue, e.launch ≠ ns) :
    glazePost ch st ns s =
      if 8 ≤ (s.chans[ch]).queue.length then glazeRefuse ch 0x3012 4 (ns % 1000000000).toNat s
      else setChan ch (fun x => { x with queue := queueInsert x.queue ⟨ns, st⟩ }) s := by
  have hstale : ¬ ((s.banks[bankOf ch]).stale ≠ 0 ∧
      ((s.banks[bankOf ch]).stale : Int) * 1000000 < now - ns) := by omega
  have hunqueued : (s.chans[ch]).queue.find? (fun e => decide (e.launch = ns)) = none := by
    simpa using hnew
  unfold glazePost
  simp only [hnow, hkind, hdriven, ne_eq, not_true_eq_false, if_false, if_neg hstale, if_neg (not_lt.2 hhorizon),
    if_neg (not_le.2 hahead), hunqueued]

theorem glazeRefuse_chans (ch : Fin 48) (code p1 p2 : Nat) (s : State) :
    (glazeRefuse ch code p1 p2 s).chans = s.chans := by
  rw [glazeRefuse, raise_chans, record_chans, setBank_chans]

theorem glazeRefuse_counted (ch : Fin 48) (code p1 p2 : Nat) (s : State) :
    ((glazeRefuse ch code p1 p2 s).banks[bankOf ch]).glzRefused = inc16 (s.banks[bankOf ch]).glzRefused := by
  rw [glazeRefuse, raise_banks, record_banks]
  exact congrArg Bank.glzRefused (vmod_self _ _ _)

theorem glazeRefuse_asserted (ch : Fin 48) (code p1 p2 : Nat) (s : State) :
    Asserted (bankInt (bankOf ch) + 5) (glazeRefuse ch code p1 p2 s).ints := raise_bank _ 5 _ (by decide)

/-! ### Launching (R263) -/

/-- The channel as a launch leaves it before its gates are driven: its commanded state, and a running pulse aborted. -/
def commanded (ch : Fin 48) (st : Bool) (s : State) : State :=
  if (s.chans[ch]).cmd = st then setChan ch Channel.abortPulse s else setCmd ch st s

theorem abortPulse_cmd (c : Channel) : c.abortPulse.cmd = c.cmd := by
  unfold Channel.abortPulse
  split <;> rfl

theorem commanded_self (ch : Fin 48) (st : Bool) (s : State) :
    ((commanded ch st s).chans[ch]).cmd = st ∧ ((commanded ch st s).chans[ch]).queue = (s.chans[ch]).queue := by
  obtain ⟨-, -, hqueue, -⟩ := abortPulse_state s.chans[ch]
  unfold commanded
  split
  next hcmd =>
    rw [setChan_self]
    exact ⟨(abortPulse_cmd _).trans hcmd, hqueue⟩
  next =>
    rw [setCmd, setChan_self]
    exact ⟨rfl, hqueue⟩

theorem commanded_other {ch j : Fin 48} (st : Bool) (s : State) (h : j ≠ ch) :
    (commanded ch st s).chans[j] = s.chans[j] := by
  unfold commanded
  split <;> exact setChan_other _ s h

theorem commanded_recd (ch : Fin 48) (st : Bool) (s : State) : (commanded ch st s).recd = s.recd := by
  unfold commanded
  split <;> rfl

theorem launch_chans (ch : Fin 48) (st late step : Bool) (s : State) :
    (launch ch st late step s).2.chans =
      (setChan ch (fun c => { c with gates := latches s st }) (commanded ch st s)).chans := rfl

theorem launch_self (ch : Fin 48) (st late step : Bool) (s : State) :
    ((launch ch st late step s).2.chans[ch]).queue = (s.chans[ch]).queue ∧
      ((launch ch st late step s).2.chans[ch]).cmd = st ∧
      ((launch ch st late step s).2.chans[ch]).gates = latches s st := by
  obtain ⟨hcmd, hqueue⟩ := commanded_self ch st s
  rw [launch_chans, setChan_self]
  exact ⟨hqueue, hcmd, rfl⟩

theorem launch_other {ch j : Fin 48} (st late step : Bool) (s : State) (h : j ≠ ch) :
    (launch ch st late step s).2.chans[j] = s.chans[j] := by
  rw [launch_chans, setChan_other _ _ h, commanded_other st s h]

theorem launch_recd (ch : Fin 48) (st late step : Bool) (s : State) :
    (launch ch st late step s).2.recd = s.recd := commanded_recd ch st s

/-- The first entry of a channel's queue taken off. -/
def unqueued (ch : Fin 48) (q : List GlazeEntry) (s : State) : State := setChan ch (fun x => { x with queue := q }) s

theorem execGlazeLaunch_first {dt : Nat} {ch : Fin 48} {e : GlazeEntry} {q : List GlazeEntry} {s : State}
    (hq : ((advance dt s).chans[ch]).queue = e :: q) :
    execGlazeLaunch dt ch s = .next (launch ch e.state false false (unqueued ch q (advance dt s))).2 := by
  simp only [execGlazeLaunch, hq]
  rfl

/-- Settles O39: a post ahead of bank time is queued or refused by `glazePost_ahead`, and the launch of the first
entry is `launch_self` on the shortened queue. -/
theorem glazeQueuesPostAndLaunch : Obligations.GlazeQueuesPostAndLaunch := by
  refine ⟨fun s ch st sec ns now hnow hkind hdriven hahead hhorizon hnew => ?_, fun s dt ch e q hq => ?_⟩
  · have hpost := glazePost_ahead st hnow hkind hdriven hahead hhorizon hnew
    refine ⟨fun hroom => ?_, fun hfull => ?_⟩
    · refine ⟨_, congrArg Host.Outcome.next (hpost.trans (if_neg (not_le.2 hroom))), ?_,
        fun j hj => setChan_other _ s hj, rfl, rfl⟩
      rw [setChan_self]
    · exact ⟨_, congrArg Host.Outcome.next (hpost.trans (if_pos hfull.ge)), glazeRefuse_chans ..,
        glazeRefuse_counted .., glazeRefuse_asserted ..⟩
  · obtain ⟨hqueue, hcmd, hgates⟩ := launch_self ch e.state false false (unqueued ch q (advance dt s))
    refine ⟨_, execGlazeLaunch_first (by rwa [advance_chans]), hqueue.trans ?_, hcmd,
      hgates.trans (latches_advance dt s _), fun j hj => ?_, launch_recd ..⟩
    · rw [unqueued, setChan_self]
    · rw [launch_other _ _ _ _ hj, unqueued, setChan_other _ _ hj, advance_chans]

end Sys2Proof.Machine
end

section
/-! PROOFS. An accepted reply in a voted memory in canonical form: its payload and its status word are read back
(R287, R290). -/

namespace Sys2Proof.Machine

open Sys2Proof

/-! ### Writes beside what is read -/

theorem memGet_memWrite_outside {m : List Host.Cell} {a x : Nat} (bs : List Byte) (hx : x < a ∨ a + bs.length ≤ x) :
    memGet (memWrite m a bs) x = memGet m x := by
  induction bs generalizing m a with
  | nil => rfl
  | cons b bs ih =>
    rw [List.length_cons] at hx
    exact (ih (by omega)).trans (memGet_memSet_other b (by omega))

theorem memRead_congr_range {m m' : List Host.Cell} {a n : Nat}
    (h : ∀ x, a ≤ x → x < a + n → memGet m x = memGet m' x) : memRead m a n = memRead m' a n := by
  induction n generalizing a with
  | zero => rfl
  | succ n ih =>
    exact congrArg₂ List.cons (h a le_rfl (by omega)) (ih fun x hlo hhi => h x (by omega) (by omega))

theorem vwrite_vmem (a : Nat) (bs : List Byte) (s : State) : (vwrite a bs s).vmem = memWrite s.vmem a bs := by
  unfold vwrite markShared
  split <;> rfl

theorem vwrite_xn (a : Nat) (bs : List Byte) (s : State) : (vwrite a bs s).xn = s.xn := by
  unfold vwrite markShared
  split <;> rfl

/-! ### Status words -/

theorem slotStat_putStat_self (i w : Nat) {s : State} (h : Memory.wf s.vmem = true) :
    slotStat (putStat i w s) i = w % 2 ^ 32 := by
  have hread := memRead_memWrite (xnRx + 4 * i) (leBytes 4 w) h
  rw [leBytes_length] at hread
  rw [slotStat, vread, putStat, vwrite_vmem, hread, leNat_leBytes]
  rfl

theorem slotStat_putStat_other {i j : Nat} (w : Nat) (s : State) (hj : j ≠ i) :
    slotStat (putStat i w s) j = slotStat s j := by
  refine congrArg leNat (memRead_congr_range fun x hlo hhi => ?_)
  rw [putStat, vwrite_vmem]
  exact memGet_memWrite_outside _ (by rw [leBytes_length]; omega)

/-- The area of the status words of a schedule is below the receive data (R290). -/
theorem putStat_data {i x : Nat} (w : Nat) (s : State) (hi : i < 1024) (hx : xnRx + 0x1000 ≤ x) :
    memGet (putStat i w s).vmem x = memGet s.vmem x := by
  rw [putStat, vwrite_vmem]
  exact memGet_memWrite_outside _ (by rw [leBytes_length]; omega)

/-! ### What keeps a reply as it was stored -/

/-- From `s` to `t` the schedule, the receive data and the RESULT of every status word stay. -/
structure RepliesKept (s t : State) : Prop where
  slots : t.xn.slots = s.xn.slots
  data : ∀ x, xnRx + 0x1000 ≤ x → memGet t.vmem x = memGet s.vmem x
  wf : Memory.wf s.vmem = true → Memory.wf t.vmem = true
  result : Memory.wf s.vmem = true → ∀ i, slotStat t i % 16 = slotStat s i % 16

theorem RepliesKept.of_vmem {s t : State} (hslots : t.xn.slots = s.xn.slots) (hvmem : t.vmem = s.vmem) :
    RepliesKept s t :=
  ⟨hslots, fun x _ => by rw [hvmem], fun h => hvmem ▸ h, fun _ i => by rw [slotStat, vread, hvmem]; rfl⟩

theorem RepliesKept.trans {s t u : State} (h : RepliesKept s t) (g : RepliesKept t u) : RepliesKept s u :=
  ⟨g.slots.trans h.slots, fun x hx => (g.data x hx).trans (h.data x hx), fun hwf => g.wf (h.wf hwf),
    fun hwf i => (g.result (h.wf hwf) i).trans (h.result hwf i)⟩

theorem RepliesKept.read {s t : State} (h : RepliesKept s t) {o : Nat} (ho : 0x1000 ≤ o) (n : Nat) :
    vread t (xnRx + o) n = vread s (xnRx + o) n :=
  memRead_congr_range fun x hlo _ => h.data x (by omega)

/-- A status word that keeps its RESULT. -/
theorem putStat_repliesKept {i w : Nat} {s : State} (hi : i < 1024) (hw : w % 16 = slotStat s i % 16) :
    RepliesKept s (putStat i w s) := by
  refine ⟨congrArg Xenex.slots (vwrite_xn ..), fun x hx => putStat_data w s hi hx, fun h => ?_, fun h j => ?_⟩
  · rw [putStat, vwrite_vmem]
    exact Memory.wf_memWrite _ _ h
  · by_cases hj : j = i
    · rw [hj, slotStat_putStat_self i w h]
      omega
    · rw [slotStat_putStat_other w s hj]

/-- A change of a node writes NSTATE of its slots and nothing else of the receive area (R290, R291). -/
theorem setNode_repliesKept (n : Fin 64) (f : XNode → XNode) {s : State} (hs : s.xn.slots.length ≤ 1024) :
    RepliesKept s (setNode n f s) := by
  have hset : RepliesKept s (setXn (fun x => { x with nodes := vmod x.nodes n f }) s) := .of_vmem rfl rfl
  unfold setNode
  dsimp only
  split
  · exact hset
  · refine List.foldlRecOn _ _ (motive := RepliesKept s) hset fun t ht i hi => ht.trans (putStat_repliesKept ?_ ?_)
    · have hlt := List.mem_range.1 (List.mem_filter.1 hi).1
      exact hlt.trans_le hs
    · omega

theorem nodeReplied_repliesKept (n : Fin 64) {s : State} (hs : s.xn.slots.length ≤ 1024) :
    RepliesKept s (nodeReplied n s) := by
  have hheard := setNode_repliesKept n (fun y => { y with heard := true, miss := 0, driftRun := 0 }) hs
  have hlen := hheard.slots.symm ▸ hs
  unfold nodeReplied
  dsimp only
  split
  · exact hheard.trans (setNode_repliesKept n _ hlen)
  · split
    · exact (hheard.trans (setNode_repliesKept n (fun y => { y with state := 2, count := 0 }) hlen)).trans
        (.of_vmem (by simp) (by simp))
    · exact hheard

/-! ### The reply to a poll -/

theorem frameAccepted_length {x : Xenex} {f : List Byte} (h : frameAccepted x f = true) :
    f.length = leAt f 3 1 + 9 := by
  simp only [frameAccepted, Bool.and_eq_true, decide_eq_true_eq] at h
  exact h.1.1.1.1

theorem storeReply_slots (i : Nat) (c : XSlot) (f : List Byte) (bits : Nat) (late : Bool) (s : State) :
    (storeReply i c f bits late s).xn.slots = s.xn.slots := by
  unfold storeReply
  dsimp only
  split
  · rw [putStat, vwrite_xn]
  · rw [putStat, vwrite_xn, vwrite_xn]

/-- RESULT of an accepted reply with data is 1: every other field of the word lies above it (R290). -/
theorem replyStat_result {s : State} {i : Nat} {f : List Byte} {bits : Nat} (late : Bool) (hbits : bits % 16 = 0)
    (hlen : leAt f 3 1 ≠ 0) : replyStat s i f bits late % 16 = 1 := by
  rw [replyStat, if_neg hlen]
  omega

theorem storeReply_reads {i : Nat} {c : XSlot} {f : List Byte} {bits : Nat} (late : Bool) {s : State}
    (h : Memory.wf s.vmem = true) (hi : i < 1024) (hoff : 0x1000 ≤ c.rxOff) (hbits : bits % 16 = 0)
    (hpos : leAt f 3 1 ≠ 0) (hlen : f.length = leAt f 3 1 + 9) :
    let t := storeReply i c f bits late s
    Memory.wf t.vmem = true ∧ vread t (xnRx + c.rxOff) (leAt f 3 1) = (f.drop 5).take (leAt f 3 1) ∧
      slotStat t i % 16 = 1 := by
  have hput : ((f.drop 5).take (leAt f 3 1)).length = leAt f 3 1 := by
    rw [List.length_take, List.length_drop]
    omega
  have hdata := memRead_memWrite (xnRx + c.rxOff) ((f.drop 5).take (leAt f 3 1)) h
  rw [hput] at hdata
  have hwf := Memory.wf_memWrite (xnRx + c.rxOff) ((f.drop 5).take (leAt f 3 1)) h
  rw [← vwrite_vmem] at hdata hwf
  simp only [storeReply, if_neg hpos]
  refine ⟨?_, ?_, ?_⟩
  · rw [putStat, vwrite_vmem]
    exact Memory.wf_memWrite _ _ hwf
  · exact (memRead_congr_range fun x hlo _ => putStat_data _ _ hi (by omega)).trans hdata
  · have hres := replyStat_result (s := s) (i := i) late hbits hpos
    rw [slotStat_putStat_self i _ hwf]
    omega

theorem windowOff_inside {a : Int} (hlo : 1900 ≤ a) (hhi : a ≤ 4100) : windowOff a = 0 := by
  unfold windowOff windowStart windowEnd
  rw [if_neg (not_lt.2 hlo), if_neg (not_lt.2 hhi)]

/-- A reply with the right length inside its window is stored, and its node has replied (R287). -/
theorem pollReply_inside {k : Fin 64} {i : Nat} {c : XSlot} {f : List Byte} {bits : Nat} {a : Int} {s : State}
    (hlo : 1900 ≤ a) (hhi : a ≤ 4100) (hrx : leAt f 3 1 = c.rx) (hpos : leAt f 3 1 ≠ 0) :
    pollReply k i c f bits a s =
      nodeReplied k (setNode k (fun y => { y with lastResult := 1 }) (storeReply i c f bits false s)) := by
  simp [pollReply, windowOff_inside hlo hhi, hrx, hrx ▸ hpos]

/-- `f` is the reply that the MASTER waits for: node `k` answers the poll of slot `i`, whose entry is `c`, and no
frame was judged in the slot before (R278, R286, R287). -/
structure RepliesToPoll (i : Nat) (c : XSlot) (k : Fin 64) (f : List Byte) (x : Xenex) : Prop where
  role : x.role = .master
  slot : x.slot = some i
  entry : x.slots[i]? = some c
  slots : x.slots.length ≤ 1024
  req : x.req = .poll k.val
  judged : x.judged = false
  accepted : frameAccepted x f = true
  type : leAt f 0 1 % 16 = 3
  source : leAt f 2 1 % 64 = k.val
  length : leAt f 3 1 = c.rx

/-- The slot in progress has had its frame. -/
def slotJudged (s : State) : State := setXn (fun x => { x with judged := true }) s

theorem RepliesToPoll.index_lt {i : Nat} {c : XSlot} {k : Fin 64} {f : List Byte} {x : Xenex}
    (h : RepliesToPoll i c k f x) : i < 1024 := (List.getElem?_eq_some_iff.1 h.entry).1.trans_le h.slots

/-- What the channels count has no part in it. -/
theorem RepliesToPoll.chans {i : Nat} {c : XSlot} {k : Fin 64} {f : List Byte} {x : Xenex}
    (h : RepliesToPoll i c k f x) (v : Vector XChan 2) : RepliesToPoll i c k f { x with chans := v } :=
  ⟨h.role, h.slot, h.entry, h.slots, h.req, h.judged, h.accepted, h.type, h.source, h.length⟩

theorem frameActs_poll {i : Nat} {c : XSlot} {k : Fin 64} {f : List Byte} {s : State} (bits : Nat) (a : Int)
    (h : RepliesToPoll i c k f s.xn) :
    frameActs f bits a s = pollReply k i c f bits a (slotJudged s) := by
  have hk : nodeFin k.val = some k := by simp [nodeFin]
  simp [frameActs, replyHeard, slotJudged, h.type, h.source, h.slot, h.entry, hk, h.judged, h.role, h.req]

/-- In a voted memory in canonical form the reply to a poll inside its window is read back, with RESULT 1. -/
theorem frameActs_reads {i : Nat} {c : XSlot} {k : Fin 64} {f : List Byte} {bits : Nat} {a : Int} {s : State}
    (hwf : Memory.wf s.vmem = true) (h : RepliesToPoll i c k f s.xn) (hoff : 0x1000 ≤ c.rxOff) (hpos : 0 < c.rx)
    (hbits : bits % 16 = 0) (hlo : 1900 ≤ a) (hhi : a ≤ 4100) :
    let t := frameActs f bits a s
    vread t (xnRx + c.rxOff) c.rx = (f.drop 5).take c.rx ∧ slotStat t i % 16 = 1 := by
  have hne : leAt f 3 1 ≠ 0 := h.length ▸ hpos.ne'
  obtain ⟨hwf', hdata, hresult⟩ := storeReply_reads (s := slotJudged s) (c := c) false
    hwf h.index_lt hoff hbits hne (frameAccepted_length h.accepted)
  have hslots := (storeReply_slots i c f bits false (slotJudged s)).symm ▸ h.slots
  have hset := setNode_repliesKept k (fun y => { y with lastResult := 1 }) hslots
  have hkept := hset.trans (nodeReplied_repliesKept k (hset.slots.symm ▸ hslots))
  rw [h.length] at hdata
  simp only [frameActs_poll bits a h, pollReply_inside hlo hhi h.length hne]
  exact ⟨(hkept.read hoff _).trans hdata, (hkept.result hwf' i).trans hresult⟩

/-! ### The frame on both channels -/

/-- Both channels have an accepted copy of a frame (R288). -/
def bothHeard (s : State) : State := chanGood 1 (chanGood 0 s)

theorem chanGood_rest (k : Fin 2) (s : State) :
    (chanGood k s).vmem = s.vmem ∧ ∃ v, (chanGood k s).xn = { s.xn with chans := v } := by
  unfold chanGood
  dsimp only
  split
  · exact ⟨rfl, _, rfl⟩
  · split
    · simp [setXn]
    · exact ⟨rfl, _, rfl⟩

theorem bothHeard_rest (s : State) :
    (bothHeard s).vmem = s.vmem ∧ ∃ v, (bothHeard s).xn = { s.xn with chans := v } := by
  obtain ⟨hvmem, v, hv⟩ := chanGood_rest 0 s
  obtain ⟨hvmem', v', hv'⟩ := chanGood_rest 1 (chanGood 0 s)
  exact ⟨hvmem'.trans hvmem, v', hv'.trans (by rw [hv])⟩

theorem exec_xenexFrameReceived_both {dt : Nat} {f : List Byte} {a : BitVec 32} {s : State}
    (hlive : xnLive (advance dt s) = true) (hrole : (advance dt s).xn.role ≠ .off)
    (hacc : frameAccepted (advance dt s).xn f = true) :
    exec (.xenexFrameReceived dt (some f) (some f) a) s =
      .next (frameActs f (copyBits true true) (a.toNat : Int) (bothHeard (advance dt s))) := by
  change execXenexFrameReceived dt (some f) (some f) a s = _
  unfold execXenexFrameReceived
  generalize advance dt s = s0 at *
  simp [hlive, hrole, copyGood, hacc, chanHeard, bothHeard]

/-- The clause on a reply inside its window, for a voted memory in canonical form: the payload is read back and RESULT
is 1 (R287, R290). -/
theorem exec_xenexFrameReceived_reads {dt i : Nat} {c : XSlot} {k : Fin 64} {f : List Byte} {a : BitVec 32} {s : State}
    (hwf : Memory.wf (advance dt s).vmem = true) (hlive : xnLive (advance dt s) = true)
    (h : RepliesToPoll i c k f (advance dt s).xn) (hoff : 0x1000 ≤ c.rxOff) (hpos : 0 < c.rx) (hlo : 1900 ≤ a.toNat)
    (hhi : a.toNat ≤ 4100) :
    ∃ t, exec (.xenexFrameReceived dt (some f) (some f) a) s = .next t ∧
      vread t (xnRx + c.rxOff) c.rx = (f.drop 5).take c.rx ∧ slotStat t i % 16 = 1 := by
  obtain ⟨hvmem, v, hv⟩ := bothHeard_rest (advance dt s)
  refine ⟨_, exec_xenexFrameReceived_both hlive (by rw [h.role]; decide) h.accepted, ?_⟩
  exact frameActs_reads (by rwa [hvmem]) (by rw [hv]; exact h.chans v) hoff hpos rfl (by omega) (by omega)

end Sys2Proof.Machine
end

section
/-! PROOFS. O41: the state that refutes it, and the refutation. -/

namespace Sys2Proof.Machine

open Sys2Proof

/-- The polled slot: one octet each way, its receive data at 0x1000. -/
def oneOctetSlot : XSlot :=
  { start := 600, kind := 1, node := 3, tx := 1, rx := 1, txOff := 0, rxOff := 0x1000, guard := 0, input := true }

/-- The MASTER polls node 3 in its one slot; the voted memory is not in canonical form: it lists the octet of that
slot's receive data twice. -/
def replyListedTwice : State :=
  { mod := { state := .run2oo3 }
    pwr := { on := 0xFFF }
    clk := { clken0 := 0x7F }
    xn := { addr := 2, role := .master, master := 2, macro_ := 1000, slots := [oneOctetSlot]
            slot := some 0, req := .poll 3 }
    vmem := [(xnRx + 0x1000, 1), (xnRx + 0x1000, 1)] }

/-- The reply of node 3 with one octet, 0. -/
def zeroReply : List Byte := xnFrame 3 0 2 3 [0]

theorem replyListedTwice_accepts : xnLive (advance 0 replyListedTwice) = true ∧
    frameAccepted (advance 0 replyListedTwice).xn zeroReply = true ∧ leAt zeroReply 0 1 % 16 = 3 ∧
    leAt zeroReply 2 1 % 64 = 3 ∧ leAt zeroReply 3 1 = 1 ∧ (zeroReply.drop 5).take 1 = [0] := by
  decide +kernel

/-- The zero of the reply takes the first of the two entries away; the second is read back. -/
theorem replyListedTwice_reads_back :
    vread (frameActs zeroReply (copyBits true true) ((1900 : BitVec 32).toNat : Int)
      (bothHeard (advance 0 replyListedTwice))) (xnRx + 0x1000) 1 = [1] := by
  decide +kernel

/-- Refutes O41. Its clause on XENEX_FRAME_RECEIVED inside the window fails in a state whose voted memory is not in
canonical form (`Memory.wf`), which the statement does not ask for; with that premise the payload is read back with
RESULT 1, `exec_xenexFrameReceived_reads`. -/
theorem not_slotsAreRequestedAndJudged : ¬ Obligations.SlotsAreRequestedAndJudged := by
  unfold Obligations.SlotsAreRequestedAndJudged
  intro h
  obtain ⟨-, -, hreply, -⟩ := h
  obtain ⟨hlive, hacc, hty, hsrc, hlen, hpayload⟩ := replyListedTwice_accepts
  obtain ⟨hinside, -⟩ := hreply replyListedTwice 0 0 oneOctetSlot 3 zeroReply 1900 (by rw [advance_xn]; rfl) hlive
    (by rw [advance_xn]; rfl) (by rw [advance_xn]; rfl) (by rw [advance_xn]; decide) le_rfl (by rw [advance_xn]; rfl)
    (by rw [advance_xn]; rfl) hacc hty hsrc hlen Nat.one_pos
  obtain ⟨t, ht, -, hread, -⟩ := hinside (by decide) (by decide)
  have hexec := exec_xenexFrameReceived_both (a := 1900) hlive (by rw [advance_xn]; decide) hacc
  rw [← Host.Outcome.next.inj (hexec.symm.trans ht)] at hread
  exact absurd (replyListedTwice_reads_back.symm.trans (hread.trans hpayload)) (by decide)

end Sys2Proof.Machine
end

section
/-! PROOFS. What the operations of the twin link leave behind: the gate hold, the frames sent, the role and what the
bus does at its change (R245, R294, R314, R327). -/

namespace Sys2Proof.Machine

open Sys2Proof

@[simp] theorem setTwl_twl (f : Twin → Twin) (s : State) : (setTwl f s).twl = f s.twl := rfl

/-- A record whose code bears on no craze flag leaves the twin link as it is (R331). -/
theorem record_twl {code : Nat} (hcode : crazeOf code = none) (src p0 p1 p2 : Nat) (s : State) :
    (record src code p0 p1 p2 s).twl = s.twl := by
  simp only [record, hcode]

/-! ### The gate hold (R245) -/

@[simp] theorem twinHold_twl (on : Bool) (s : State) : (twinHold on s).twl = s.twl := rfl

@[simp] theorem twinHold_hold (on : Bool) (b : Fin 3) (s : State) : ((twinHold on s).banks[b]).hold = on := by
  simp [twinHold]

/-! ### Frames sent (R314) -/

/-- The octets of a link frame: type, 0, sequence number, length and tick, the payload, and their CRC. -/
def twinFrame (ty : Nat) (payload : List Byte) (s : State) : List Byte :=
  let body := leBytes 1 ty ++ [0] ++ leBytes 2 s.twl.seq ++ leBytes 2 payload.length ++
    leBytes 2 ((s.tim.ns - s.cys.delta) / 250000).toNat ++ payload
  body ++ leBytes 4 (crc32c body).toNat

theorem twinFrame_length (ty : Nat) (payload : List Byte) (s : State) :
    (twinFrame ty payload s).length = payload.length + 12 := by
  simp only [twinFrame, List.length_append, leBytes_length, List.length_singleton]
  omega

theorem twinFrame_type (ty : Nat) (payload : List Byte) (s : State) :
    (twinFrame ty payload s).take 1 = [BitVec.ofNat 8 ty] := rfl

theorem twinFrame_payload (ty : Nat) (b : Byte) (payload : List Byte) (s : State) :
    (twinFrame ty (b :: payload) s)[8]? = some b := rfl

theorem twinSend_alive {ty : Nat} {payload : List Byte} {s : State} (hlink : linkAlive s = true) :
    twinSend ty payload s =
      setTwl (fun t => { t with seq := (t.seq + 1) % 65536, lastTx := twinFrame ty payload s }) s := if_pos hlink

/-! ### The bus at a change of role (R294, R296) -/

theorem xnRole_twl (r : BusRole) (cause : Nat) (s : State) : (xnRole r cause s).twl = s.twl := by
  unfold xnRole
  split
  · rfl
  · rw [raise_twl, record_twl rfl, setXn_twl]

theorem xnRole_asserted_of {m : Nat} (r : BusRole) (cause : Nat) {s : State} (h : Asserted m s.ints) :
    Asserted m (xnRole r cause s).ints := by
  unfold xnRole
  split
  · exact h
  · exact raise_asserted_of _ _ _ (by rwa [record_ints, setXn_ints])

theorem xnbTakeover_rest (s : State) : SameBut [.xn, .recd, .ints, .held, .noted, .lic] s (xnbTakeover s) :=
  xnbTakeover_frame s (by decide) (by decide) (by decide) (by decide) (by decide) (by decide) (SameBut.refl _ s)

theorem xnbTakeover_twl (s : State) : (xnbTakeover s).twl = s.twl := by
  unfold xnbTakeover
  split_ifs
  · rw [xnRole_twl, setXn_twl]
  · rfl

theorem xnbTakeover_asserted_of {m : Nat} {s : State} (h : Asserted m s.ints) : Asserted m (xnbTakeover s).ints := by
  unfold xnbTakeover
  split_ifs
  · exact xnRole_asserted_of _ _ h
  · exact h

theorem xnbRelease_rest (s : State) : SameBut [.xn, .recd, .ints, .held, .noted, .lic] s (xnbRelease s) :=
  xnbRelease_frame s (by decide) (by decide) (by decide) (by decide) (by decide) (by decide) (SameBut.refl _ s)

theorem xnbRelease_twl (s : State) : (xnbRelease s).twl = s.twl := by
  unfold xnbRelease
  split_ifs
  · exact xnRole_twl ..
  · rfl

theorem xnbRelease_asserted_of {m : Nat} {s : State} (h : Asserted m s.ints) : Asserted m (xnbRelease s).ints := by
  unfold xnbRelease
  split_ifs
  · exact xnRole_asserted_of _ _ h
  · exact h

/-! ### The role (R327) -/

theorem twinRole_changes {r : TwinRole} {s : State} (cause : Nat) (hrole : s.twl.role ≠ r) :
    (twinRole r cause s).twl =
        { s.twl with role := r, revertAt := none, handover := none, handoverAcked := false } ∧
      Asserted 256 (twinRole r cause s).ints := by
  rw [twinRole, if_neg hrole]
  exact ⟨by rw [raise_twl, record_twl rfl, setTwl_twl], raise_asserted 256 _ (by decide)⟩

theorem twinRole_asserted_of {m : Nat} (r : TwinRole) (cause : Nat) {s : State} (h : Asserted m s.ints) :
    Asserted m (twinRole r cause s).ints := by
  unfold twinRole
  split_ifs
  · exact h
  · exact raise_asserted_of _ _ _ (by rwa [record_ints, setTwl_ints])

theorem twinRole_banks (r : TwinRole) (cause : Nat) (s : State) : (twinRole r cause s).banks = s.banks := by
  unfold twinRole
  split_ifs
  · rfl
  · rw [raise_banks, record_banks, setTwl_banks]

/-- The twin link of a module that becomes ACTIVE: no handover or integration is under way, no image of the peer is
kept, and the grid is to move to 0. -/
def Twin.activated (delta : Int) (t : Twin) : Twin :=
  { t with role := .active, revertAt := none, handover := none, handoverAcked := false, phase := 0, retry := false
           inputs := [], ownChecks := [], peerChecks := [], gridTo := if delta = 0 then none else some 0 }

theorem becomeActive_changes {s : State} (cause : Nat) (hrole : s.twl.role ≠ .active) :
    (becomeActive cause s).twl = s.twl.activated s.cys.delta ∧ Asserted 256 (becomeActive cause s).ints :=
  twinRole_changes cause hrole

theorem becomeActive_asserted_of {m : Nat} (cause : Nat) {s : State} (h : Asserted m s.ints) :
    Asserted m (becomeActive cause s).ints := twinRole_asserted_of _ _ h

theorem becomeActive_banks (cause : Nat) (s : State) : (becomeActive cause s).banks = s.banks := twinRole_banks ..

end Sys2Proof.Machine
end

section
/-! PROOFS. Link frames and heartbeats (R314-R319). -/

namespace Sys2Proof.Machine

open Sys2Proof

theorem twlRuns_of_linkAlive {s : State} (h : linkAlive s = true) : twlRuns s = true := by
  simp only [linkAlive, Bool.and_eq_true] at h
  simp [twlRuns, h]

theorem linkFrame_crcBad {head : TwinHead} {act : State → State} {s : State} (hlink : linkAlive s = true)
    (hcrc : head.crcOk = false) :
    linkFrame head act s = { s with twl := { s.twl with crcErrors := inc32 s.twl.crcErrors } } := by
  simp [linkFrame, hlink, hcrc, setTwl]

theorem linkFrame_good {head : TwinHead} {act : State → State} {s : State} (hlink : linkAlive s = true)
    (hcrc : head.crcOk = true) : linkFrame head act s = act s := by
  simp [linkFrame, hlink, hcrc]

/-! ### A heartbeat sent (R315) -/

/-- The HEARTBEAT of a module: its role, states, position, tick, craze flags and count. -/
def beatPayload (s : State) : List Byte :=
  leBytes 1 s.twl.role.code ++ leBytes 1 s.mod.state.code ++ leBytes 1 s.vrc.mode.code ++
    leBytes 1 (b2n s.pwr.pos) ++ leBytes 4 ((tickNow s).toNat % 2 ^ 32) ++ leBytes 2 (s.twl.craze.toNat % 65536) ++
    leBytes 1 s.cys.olc.code ++ [0] ++ leBytes 4 s.twl.beats

/-- One more heartbeat is counted. -/
def beatCounted (s : State) : State := setTwl (fun t => { t with beats := (t.beats + 1) % 2 ^ 32 }) s

theorem execHeartbeatStrobe_stopped {dt : Nat} {s : State} (hruns : twlRuns (advance dt s) = false) :
    execHeartbeatStrobe dt s = .next (advance dt s) := by
  simp [execHeartbeatStrobe, hruns]

theorem execHeartbeatStrobe_runs {dt : Nat} {s : State} (hruns : twlRuns (advance dt s) = true)
    (hrole : (advance dt s).twl.role ≠ .alone) (hrun : isRun (advance dt s) = true) :
    execHeartbeatStrobe dt s =
      .next (twinSend 1 (beatPayload (beatCounted (advance dt s))) (beatCounted (advance dt s))) :=
  if_pos ⟨hruns, hrole, .inr hrun⟩

theorem execHeartbeatMiss_stopped {dt : Nat} {w : TwinWay} {s : State} (hruns : twlRuns (advance dt s) = false) :
    execHeartbeatMiss dt w s = .next (advance dt s) := if_pos hruns

/-! ### A heartbeat received (R315, R318) -/

theorem linkLost_of_not_standby {s : State} (hrole : s.twl.role ≠ .standby) : linkLost s = s := if_neg hrole

theorem integBegin_of_not_integrating {s : State} (hrole : s.twl.role ≠ .integrating) : integBegin s = s :=
  if_neg fun h => hrole h.1

/-- The time of the last heartbeat on any path is now. -/
def beatHeard (s : State) : State := setTwl (fun t => { t with lastBeat := s.tim.elapsed }) s

/-- A pulse clears the misses of a path that is up. -/
theorem pathBeat_pulse_up {s : State} (hrole : s.twl.role ≠ .standby) (hup : s.twl.pulse.up = true) :
    pathBeat .pulse s = setPath .pulse (fun p => { p with miss := 0 }) (beatHeard s) := by
  have hlost := linkLost_of_not_standby (s := setPath .pulse (fun p => { p with miss := 0 }) (beatHeard s)) hrole
  unfold pathBeat
  simp only [pathOf, hup, if_true]
  exact ite_any (P := fun t => t = _) hlost rfl

/-- The eighth pulse brings the path up. -/
theorem pathBeat_pulse_eighth {s : State} (hup : s.twl.pulse.up = false) (hgood : 7 ≤ s.twl.pulse.good) :
    pathBeat .pulse s = raise 260 (setTwl (fun t => { t with peerLost := false })
      (setPath .pulse (fun _ => { up := true }) (beatHeard s))) := by
  simp only [pathBeat, pathOf, hup, hgood, if_true, Bool.false_eq_true, if_false]
  rfl

/-- What the twin link shows of the pair: its own role, and the peer's role, state and OLC. -/
def Twin.pairPart (t : Twin) : TwinRole × Nat × Nat × Nat := (t.role, t.peerRole, t.peerState, t.peerOlc)

theorem pathBeat_link_pairPart (s : State) : (pathBeat .link s).twl.pairPart = s.twl.pairPart := by
  unfold pathBeat
  dsimp only
  split_ifs with hup hpulse hgood
  · exact absurd hpulse.1 (by decide)
  · rfl
  · rw [raise_twl]
    rfl
  · rfl

/-- A HEARTBEAT frame in a module that is ACTIVE: what it shows of the peer is kept, and the role stays. -/
theorem beatShown_active (b : TwinBeat) {s : State} (hrole : s.twl.role = .active) :
    (beatShown b s).twl.pairPart = (.active, b.role.toNat % 4, b.state.toNat % 16, b.olc.toNat) := by
  unfold beatShown
  dsimp only
  generalize hs1 : pathBeat .link _ = s1
  have hpair : s1.twl.pairPart = (.active, b.role.toNat % 4, b.state.toNat % 16, b.olc.toNat) := by
    rw [← hs1, pathBeat_link_pairPart, ← hrole]
    rfl
  have hactive : s1.twl.role = .active := congrArg Prod.fst hpair
  rw [if_neg (by rw [hactive]; simp), integBegin_of_not_integrating (by rw [hactive]; decide)]
  exact hpair

theorem execHeartbeatReceived_pulse {dt : Nat} {s : State} (hruns : twlRuns (advance dt s) = true)
    (hrole : (pathBeat .pulse (advance dt s)).twl.role ≠ .integrating) :
    execHeartbeatReceived dt .pulse s = .next (pathBeat .pulse (advance dt s)) := by
  simp only [execHeartbeatReceived, hruns, if_true, integBegin_of_not_integrating hrole]

theorem execHeartbeatReceived_link {dt : Nat} {h : TwinHead} {s : State} (b : TwinBeat)
    (hlink : linkAlive (advance dt s) = true) (hcrc : h.crcOk = true) :
    execHeartbeatReceived dt (.link h b) s = .next (beatShown b (advance dt s)) :=
  congrArg Host.Outcome.next (linkFrame_good hlink hcrc)

/-! ### A heartbeat missed (R318) -/

/-- One more miss of the pulse path. -/
def pulseMissed (s : State) : State :=
  setPath .pulse (fun p => { p with miss := inc8 p.miss, good := 0, missAt := s.tim.elapsed }) s

theorem inc8_of_lt {n : Nat} (h : n < 255) : inc8 n = n + 1 := by
  unfold inc8 satAdd
  omega

/-- The pulse path is up with fewer than three misses. -/
theorem execHeartbeatMiss_early {dt : Nat} {s : State} (hruns : twlRuns (advance dt s) = true)
    (hmiss : (advance dt s).twl.pulse.miss < 2) :
    execHeartbeatMiss dt .pulse s = .next (pulseMissed (advance dt s)) := by
  have hfew : ¬ 3 ≤ inc8 (advance dt s).twl.pulse.miss := by
    rw [inc8_of_lt (by omega)]
    omega
  unfold execHeartbeatMiss
  simp only [hruns, Bool.true_eq_false, if_false]
  refine congrArg Host.Outcome.next (if_neg fun h => hfew ?_)
  exact of_decide_eq_true ((Bool.and_eq_true _ _ ▸ h).2)

theorem execHeartbeatMiss_third {dt : Nat} {s : State} (hruns : twlRuns (advance dt s) = true)
    (hup : (advance dt s).twl.pulse.up = true) (hmiss : (advance dt s).twl.pulse.miss = 2) :
    execHeartbeatMiss dt .pulse s = .next (pathDown .pulse (pulseMissed (advance dt s))) := by
  have hthird : ((pathOf .pulse (pulseMissed (advance dt s))).up &&
      decide (3 ≤ (pathOf .pulse (pulseMissed (advance dt s))).miss)) = true := by
    simp [pulseMissed, setPath, pathOf, hup, hmiss, inc8_of_lt]
  unfold execHeartbeatMiss
  simp only [hruns, Bool.true_eq_false, if_false]
  exact congrArg Host.Outcome.next (if_pos hthird)

/-- TWIN_PATH_LOST of the pulse path, as it is noted. -/
def pulseDown (s : State) : State :=
  raise 259 (record 8 0x6004 1 0 0 (setPath .pulse (fun p => { p with up := false }) s))

theorem pulseDown_twl (s : State) :
    (pulseDown s).twl = { s.twl with pulse := { s.twl.pulse with up := false } } := by
  rw [pulseDown, raise_twl, record_twl rfl]
  rfl

theorem pathDown_pulse {s : State} (hlink : s.twl.link.up = true) : pathDown .pulse s = pulseDown s := by
  have hup : (pulseDown s).twl.link.up = true := by rwa [pulseDown_twl]
  exact if_neg (by rw [show (raise 259 _ : State) = pulseDown s from rfl, hup]; simp)

end Sys2Proof.Machine
end

section
/-! PROOFS. A lost peer, the takeover and its gate release, and the reset a peer asks for (R317-R321, R472, R475). -/

namespace Sys2Proof.Machine

open Sys2Proof

/-! ### The takeover (R320) -/

theorem noteTakeover_twl (silent : Bool) (wait : Nat) (s : State) :
    (noteTakeover silent wait s).twl = { s.twl with tookNoted := true } := record_twl rfl ..

theorem noteTakeover_ints (silent : Bool) (wait : Nat) (s : State) : (noteTakeover silent wait s).ints = s.ints :=
  record_ints ..

/-- A takeover begins: it is counted, its gate release is due, and the peer is lost. -/
def takeoverBegun (silent : Bool) (s : State) : State :=
  setTwl (fun t =>
    { t with takeovers := inc32 t.takeovers, release := some silent, tookNoted := false, peerLost := true }) s

/-- TWIN_TAKEOVER is recorded at once where no commit and no posting delays the gate release. -/
def takeoverNoted (silent : Bool) (s : State) : State :=
  if s.cys.commit.isNone && s.cys.posting.isNone then noteTakeover silent 1 s else s

theorem takeoverNoted_twl (silent : Bool) (s : State) :
    ∃ noted, (takeoverNoted silent s).twl = { s.twl with tookNoted := noted } := by
  unfold takeoverNoted
  split
  · exact ⟨true, noteTakeover_twl ..⟩
  · exact ⟨s.twl.tookNoted, rfl⟩

theorem takeoverNoted_ints (silent : Bool) (s : State) : (takeoverNoted silent s).ints = s.ints := by
  unfold takeoverNoted
  split
  · exact noteTakeover_ints ..
  · rfl

theorem takeover_eq (silent : Bool) (s : State) : takeover silent s =
    setTim (fun t => { t with estimate := 0, lastSeq := none, sync := none, accepted := 0 })
      (xnbTakeover (raise 257 (becomeActive 0x6002 (takeoverNoted silent (takeoverBegun silent s))))) := rfl

/-- The module that takes over: its twin link, and what it asserts beside what was asserted before. -/
theorem takeover_changes (silent : Bool) {s : State} (hrole : s.twl.role ≠ .active) :
    (∃ noted delta, (takeover silent s).twl =
        { Twin.activated delta s.twl with
          takeovers := inc32 s.twl.takeovers, release := some silent, tookNoted := noted, peerLost := true }) ∧
      Asserted 256 (takeover silent s).ints ∧ Asserted 257 (takeover silent s).ints := by
  obtain ⟨noted, htwl⟩ := takeoverNoted_twl silent (takeoverBegun silent s)
  obtain ⟨hactive, hint⟩ := becomeActive_changes 0x6002 (s := takeoverNoted silent (takeoverBegun silent s))
    (by rw [htwl]; exact hrole)
  rw [takeover_eq, setTim_twl, setTim_ints, xnbTakeover_twl, raise_twl, hactive, htwl]
  exact ⟨⟨noted, _, rfl⟩, xnbTakeover_asserted_of (raise_asserted_of _ _ _ hint),
    xnbTakeover_asserted_of (raise_asserted 257 _ (by decide))⟩

theorem takeover_asserted_of {m : Nat} (silent : Bool) {s : State} (h : Asserted m s.ints) :
    Asserted m (takeover silent s).ints := by
  rw [takeover_eq, setTim_ints]
  refine xnbTakeover_asserted_of (raise_asserted_of _ _ _ (becomeActive_asserted_of _ ?_))
  rwa [takeoverNoted_ints]

/-- A STANDBY whose peer is gone takes over. -/
theorem peerGone_standby (silent : Bool) {s : State} (hrole : s.twl.role = .standby) :
    peerGone silent s = takeover silent (raise 258 s) := by
  simp only [peerGone, hrole]

theorem execTwinFaultReceived_stopped {dt : Nat} {s : State} (hruns : twlRuns (advance dt s) = false) :
    execTwinFaultReceived dt .pulse s = .next (advance dt s) := by
  simp [execTwinFaultReceived, hruns]

/-- A fault pulse carries no cause. -/
def faultPulsed (s : State) : State := setTwl (fun t => { t with peerCause := 0 }) s

theorem execTwinFaultReceived_standby {dt : Nat} {s : State} (hruns : twlRuns (advance dt s) = true)
    (hrole : (advance dt s).twl.role = .standby) :
    execTwinFaultReceived dt .pulse s = .next (takeover false (raise 258 (faultPulsed (advance dt s)))) :=
  (if_pos hruns).trans (congrArg Host.Outcome.next (peerGone_standby false hrole))

/-! ### The gate release (R320 steps 2 and 3) -/

theorem execTakeoverGateRelease_none {dt : Nat} {s : State} (hrel : (advance dt s).twl.release = none) :
    execTakeoverGateRelease dt s = .next (advance dt s) := by
  simp only [execTakeoverGateRelease, hrel]

/-- A commit in progress delays the gate release. -/
theorem execTakeoverGateRelease_commit {dt : Nat} {s : State} {silent : Bool}
    (hrel : (advance dt s).twl.release = some silent) (hcommit : (advance dt s).cys.commit.isSome = true) :
    execTakeoverGateRelease dt s = .next (advance dt s) := by
  simp only [execTakeoverGateRelease, hrel, hcommit, true_or, if_true]

/-- The gates are released, TWIN_TAKEOVER being recorded by now. -/
def gatesReleased (silent : Bool) (s : State) : State :=
  twinHold false (setTwl (fun t => { t with release := none }) (if s.twl.tookNoted then s else noteTakeover silent 0 s))

theorem execTakeoverGateRelease_faulted {dt : Nat} {s : State} (hrel : (advance dt s).twl.release = some false)
    (hcommit : (advance dt s).cys.commit = none) (hposting : (advance dt s).cys.posting = none) :
    execTakeoverGateRelease dt s = .next (gatesReleased false (advance dt s)) := by
  simp only [execTakeoverGateRelease, hrel, hcommit, hposting, Option.isSome_none, Bool.false_eq_true, or_self, if_false]
  rfl

/-! ### TWIN_REQUESTED_RESET (R321, R472) -/

theorem enterFiring_mode (cause : Nat) (s : State) : (enterFiring cause s).vrc.mode = s.vrc.mode := by
  unfold enterFiring
  dsimp only
  rw [(congrArg Vrc.mode ((twinFiring_rest _).2 .vrc (by decide)) :)]
  simp

/-- After a module reset no lane votes, and the state that was left is kept (R472, R475). -/
theorem moduleReset_left (kind detail : Nat) (s : State) :
    (moduleReset kind detail s).pwr.rstPrev = s.mod.state.code ∧ (moduleReset kind detail s).vrc.mode = .none := by
  unfold moduleReset
  dsimp only
  refine ⟨?_, ?_⟩
  · rw [(enterFiring_firing _ _).2]
    rfl
  · rw [enterFiring_mode]
    rfl

theorem execTwinRequestedReset_cold {dt : Nat} {s : State} (hcold : (advance dt s).mod.state = .cold) :
    execTwinRequestedReset dt s = .next (advance dt s) := if_pos hcold

theorem execTwinRequestedReset_resets {dt : Nat} {s : State} (hcold : (advance dt s).mod.state ≠ .cold) :
    execTwinRequestedReset dt s = .next (moduleReset 4 0 (advance dt s)) := if_neg hcold

end Sys2Proof.Machine
end

section
/-! PROOFS. Handover, the choice of the ACTIVE module with no peer in charge, and craze flags (R327-R329, R331). -/

namespace Sys2Proof.Machine

open Sys2Proof

/-! ### The tick of a handover (R328, R329) -/

/-- The payload of a CMD frame. -/
def cmdPayload (code : Nat) (tick : Int) : List Byte :=
  leBytes 1 code ++ leBytes 3 0 ++ leBytes 8 (tick.toNat % 2 ^ 64)

theorem twinCmd_alive {code : Nat} {tick : Int} {s : State} (hlink : linkAlive s = true) :
    twinCmd code tick s =
      setTwl (fun t => { t with seq := (t.seq + 1) % 65536, lastTx := twinFrame 8 (cmdPayload code tick) s }) s :=
  twinSend_alive hlink

/-- A handover is asked for at a tick, and not yet acknowledged. -/
def handoverAsked (tick : Int) (s : State) : State :=
  setTwl (fun t => { t with handover := some tick.toNat, handoverAcked := false }) s

/-- A revert is refused with a reason: REVERT_REFUSED. -/
def revertRefused (s : State) : State := record 8 0x600C (revertRefusal s) s.twl.peerCraze.toNat 0 s

/-- REVERT_REQ in an ACTIVE module whose peer is STANDBY: no reason to refuse it, and the tick is named. -/
theorem execTwinCmdRevertReq_granted {dt : Nat} {h : TwinHead} {s : State} (hlink : linkAlive (advance dt s) = true)
    (hcrc : h.crcOk = true) (hrole : (advance dt s).twl.role = .active) (hpeer : (advance dt s).twl.peerRole = 2)
    (hyes : revertRefusal (advance dt s) = 0) :
    execTwinCmdRevertReq dt h s = .next
      (twinCmd 2 (handoverTick (advance dt s)) (handoverAsked (handoverTick (advance dt s)) (advance dt s))) :=
  congrArg Host.Outcome.next
    ((linkFrame_good hlink hcrc).trans ((if_pos ⟨hrole, hpeer⟩).trans (if_pos hyes)))

theorem execTwinCmdRevertReq_refused {dt : Nat} {h : TwinHead} {s : State} (hlink : linkAlive (advance dt s) = true)
    (hcrc : h.crcOk = true) (hrole : (advance dt s).twl.role = .active) (hpeer : (advance dt s).twl.peerRole = 2)
    (hno : revertRefusal (advance dt s) ≠ 0) :
    execTwinCmdRevertReq dt h s = .next (revertRefused (advance dt s)) :=
  congrArg Host.Outcome.next
    ((linkFrame_good hlink hcrc).trans ((if_pos ⟨hrole, hpeer⟩).trans (if_neg hno)))

/-- A STANDBY keeps the tick of the handover, which it acknowledges. -/
def handoverKept (tick : BitVec 64) (s : State) : State :=
  setTwl (fun t => { t with handover := some tick.toNat }) s

theorem execTwinCmdHandover_standby {dt : Nat} {h : TwinHead} {s : State} (k : BitVec 64)
    (hlink : linkAlive (advance dt s) = true) (hcrc : h.crcOk = true) (hrole : (advance dt s).twl.role = .standby) :
    execTwinCmdHandover dt h k s = .next (twinCmd 3 k.toNat (handoverKept k (advance dt s))) :=
  congrArg Host.Outcome.next ((linkFrame_good hlink hcrc).trans (if_pos hrole))

theorem execTwinCmdHandoverAck_agreed {h : TwinHead} {k : BitVec 64} {s : State} (hlink : linkAlive s = true)
    (hcrc : h.crcOk = true) (hrole : s.twl.role = .active) (hk : s.twl.handover = some k.toNat) :
    execTwinCmdHandoverAck h k s = .next { s with twl := { s.twl with handoverAcked := true } } :=
  congrArg Host.Outcome.next ((linkFrame_good hlink hcrc).trans (if_pos ⟨hrole, hk⟩))

/-- The acknowledgement of another tick does nothing. -/
theorem execTwinCmdHandoverAck_other {h : TwinHead} {k : BitVec 64} {s : State} (hlink : linkAlive s = true)
    (hcrc : h.crcOk = true) (hk : s.twl.handover ≠ some k.toNat) : execTwinCmdHandoverAck h k s = .next s :=
  congrArg Host.Outcome.next ((linkFrame_good hlink hcrc).trans (if_neg fun hboth => hk hboth.2))

/-! ### The hold changes in the quiet gap (R328 steps 5 and 6) -/

theorem handoverDone_twl (n : Nat) (s : State) : (handoverDone n s).twl = s.twl := by
  rw [handoverDone, raise_twl, record_twl rfl]

theorem handoverDone_asserted (n : Nat) (s : State) : Asserted 264 (handoverDone n s).ints :=
  raise_asserted 264 _ (by decide)

/-- The STANDBY of a handover, as it becomes ACTIVE with its hold released. -/
def tookControl (n : Nat) (s : State) : State := xnbTakeover (becomeActive 0x600B (twinHold false (handoverDone n s)))

theorem tookControl_changes (n : Nat) {s : State} (hrole : s.twl.role ≠ .active) :
    (tookControl n s).twl.role = .active ∧ (∀ b : Fin 3, ((tookControl n s).banks[b]).hold = false) ∧
      Asserted 264 (tookControl n s).ints ∧ Asserted 256 (tookControl n s).ints := by
  obtain ⟨htwl, hint⟩ := becomeActive_changes 0x600B (s := twinHold false (handoverDone n s))
    (by rwa [twinHold_twl, handoverDone_twl])
  have hbanks : (tookControl n s).banks = (twinHold false (handoverDone n s)).banks :=
    ((xnbTakeover_rest _).2 .banks (by decide)).trans (becomeActive_banks ..)
  refine ⟨?_, fun b => ?_, xnbTakeover_asserted_of (becomeActive_asserted_of _ (handoverDone_asserted ..)),
    xnbTakeover_asserted_of hint⟩
  · rw [tookControl, xnbTakeover_twl, htwl]
    rfl
  · rw [hbanks, twinHold_hold]

/-- The ACTIVE module of a handover, as it becomes STANDBY with its hold set. -/
def gaveControl (n : Nat) (s : State) : State :=
  xnbRelease (twinRole .standby 0x600B (twinHold true (handoverDone n s)))

theorem gaveControl_changes (n : Nat) {s : State} (hrole : s.twl.role ≠ .standby) :
    (gaveControl n s).twl.role = .standby ∧ (gaveControl n s).twl.delta = s.twl.delta ∧
      (∀ b : Fin 3, ((gaveControl n s).banks[b]).hold = true) ∧ Asserted 264 (gaveControl n s).ints := by
  obtain ⟨htwl, -⟩ := twinRole_changes 0x600B (s := twinHold true (handoverDone n s)) (r := .standby)
    (by rwa [twinHold_twl, handoverDone_twl])
  have hbanks : (gaveControl n s).banks = (twinHold true (handoverDone n s)).banks :=
    ((xnbRelease_rest _).2 .banks (by decide)).trans (twinRole_banks ..)
  rw [gaveControl, xnbRelease_twl, htwl, twinHold_twl, handoverDone_twl]
  refine ⟨rfl, rfl, fun b => ?_, xnbRelease_asserted_of (twinRole_asserted_of _ _ (handoverDone_asserted ..))⟩
  rw [← gaveControl, hbanks, twinHold_hold]

theorem execHandoverHoldChange_none {dt : Nat} {s : State} (hnone : (advance dt s).twl.handover = none) :
    execHandoverHoldChange dt s = .next (advance dt s) := by
  simp only [execHandoverHoldChange, hnone]

theorem execHandoverHoldChange_standby {dt n : Nat} {s : State} (hn : (advance dt s).twl.handover = some n)
    (hrole : (advance dt s).twl.role = .standby) (hgap : (advance dt s).cys.gap = true)
    (hquiet : (advance dt s).cys.quiet = true) :
    execHandoverHoldChange dt s =
      let t := tookControl n (advance dt s)
      .next { t with cys := { t.cys with delta := 0 }, twl := { t.twl with gridTo := none } } := by
  simp only [execHandoverHoldChange, hn, hrole, hgap, hquiet, Bool.and_self, if_true]
  rfl

theorem execHandoverHoldChange_active {dt n : Nat} {s : State} (hn : (advance dt s).twl.handover = some n)
    (hrole : (advance dt s).twl.role = .active) (hacked : (advance dt s).twl.handoverAcked = true)
    (hgap : (advance dt s).cys.gap = true) (hquiet : (advance dt s).cys.quiet = true) :
    execHandoverHoldChange dt s =
      let t := gaveControl n (advance dt s)
      .next { t with cys := { t.cys with delta := t.twl.delta * 1000 } } := by
  simp only [execHandoverHoldChange, hn, hrole, hacked, hgap, hquiet, Bool.and_self, reduceCtorEq, and_self, if_true,
    if_false]
  rfl

/-! ### Neither module is ACTIVE (R327) -/

/-- Module A has no preference to yield to. -/
theorem execTwinPeerIntegratingTimeout_first {dt : Nat} {s : State} (hrole : (advance dt s).twl.role = .integrating)
    (hrun : isRun (advance dt s) = true) (hup : bothUp (advance dt s) = true)
    (hpeer : (advance dt s).twl.peerRole = 1) (hpref : (advance dt s).twl.pref = 0)
    (hpos : (advance dt s).pwr.pos = false) :
    execTwinPeerIntegratingTimeout dt s = .next (twinHold false (becomeActive 0 (advance dt s))) := by
  simp only [execTwinPeerIntegratingTimeout, hrole, hrun, hup, hpeer, hpref, hpos, Bool.not_false, and_self, if_true]

/-- TWR is asserted for 20 µs, which is recorded. -/
def twrAsserted (s : State) : State :=
  record 8 0x600E 2 0 0 (setTwl (fun t => { t with twrUntil := s.tim.elapsed + 20000 }) s)

theorem twrAsserted_twl (s : State) : (twrAsserted s).twl = { s.twl with twrUntil := s.tim.elapsed + 20000 } :=
  record_twl rfl ..

theorem twrAsserted_banks (s : State) : (twrAsserted s).banks = s.banks := record_banks ..

/-- A module that becomes ACTIVE alone: its hold goes at the next commit. -/
def activeAlone (s : State) : State :=
  setTwl (fun t => { t with releaseAtCommit := true }) (becomeActive 0 (twrAsserted s))

theorem activeAlone_changes {s : State} (hrole : s.twl.role ≠ .active) :
    (activeAlone s).twl.role = .active ∧ (activeAlone s).twl.releaseAtCommit = true ∧
      (activeAlone s).twl.twrUntil = s.tim.elapsed + 20000 ∧ (activeAlone s).banks = s.banks ∧
      Asserted 256 (activeAlone s).ints := by
  obtain ⟨htwl, hint⟩ := becomeActive_changes 0 (s := twrAsserted s) (by rw [twrAsserted_twl]; exact hrole)
  rw [activeAlone, setTwl_twl, htwl, twrAsserted_twl]
  exact ⟨rfl, rfl, rfl, (becomeActive_banks 0 _).trans (twrAsserted_banks s), hint⟩

theorem execTwinPeerSilentTimeout_silent {dt : Nat} {s : State} (hrole : (advance dt s).twl.role = .integrating)
    (hrun : isRun (advance dt s) = true) (hlink : (advance dt s).twl.link.up = false)
    (hpulse : (advance dt s).twl.pulse.up = false) :
    execTwinPeerSilentTimeout dt s = .next (activeAlone (advance dt s)) := if_pos ⟨hrole, hrun, hlink, hpulse⟩

/-! ### The preferred module asks for control (R328) -/

theorem execRevertHoldExpiry_none {dt : Nat} {s : State} (hnone : (advance dt s).twl.revertAt = none) :
    execRevertHoldExpiry dt s = .next (advance dt s) := by
  simp only [execRevertHoldExpiry, hnone]

theorem execRevertHoldExpiry_asks {dt : Nat} {u : Int} {s : State} (hu : (advance dt s).twl.revertAt = some u)
    (hrole : (advance dt s).twl.role = .standby) (hpref : preferred (advance dt s) = true)
    (hdue : u ≤ (advance dt s).tim.elapsed) :
    execRevertHoldExpiry dt s = .next (twinCmd 1 (tickNow (advance dt s)) (advance dt s)) := by
  simp only [execRevertHoldExpiry, hu, hrole, hpref, hdue, and_self, if_true]

/-! ### Craze flags (R331) -/

/-- A craze flag sets, which is recorded. -/
def crazeSet (f : Fin 32) (s : State) : State :=
  record 8 0x600D (b2n s.pwr.pos) f.val 0 (setTwl (fun t => { t with craze := putBit t.craze f.val true }) s)

theorem execTwinCraze_sets {f : Fin 32} {s : State} (hcond : crazeCond f.val s = some true)
    (hclear : s.twl.craze.getLsbD f.val = false) : execTwinCraze f s = .next (crazeSet f s) := by
  simp only [execTwinCraze, hcond, hclear, Option.getD_some, Bool.not_false, Bool.and_self, if_true]
  rfl

theorem execTwinCraze_ended {f : Fin 32} {s : State} (hcond : crazeCond f.val s = some false) :
    execTwinCraze f s = .next s := by
  simp [execTwinCraze, hcond]

theorem execCrazeFlagClear_ended {f : Fin 32} {s : State} (hcond : crazeCond f.val s = some false) :
    execCrazeFlagClear f s = .next { s with twl := { s.twl with craze := putBit s.twl.craze f.val false } } := by
  simp only [execCrazeFlagClear, hcond, Option.getD_some, Bool.false_eq_true, if_false]
  rfl

theorem execCrazeFlagClear_holds {f : Fin 32} {s : State} (hcond : crazeCond f.val s = some true) :
    execCrazeFlagClear f s = .next s := by
  simp only [execCrazeFlagClear, hcond, Option.getD_some, if_true]

end Sys2Proof.Machine
end

section
/-! PROOFS. O42: the supervision of the twin pair, takeover and handover (R315-R321, R327-R331). -/

namespace Sys2Proof.Machine

open Sys2Proof

/-- Settles O42: a command's result in each of its cases is an `exec…` lemma, and what the shared operations leave of
the twin link is `twinSend_alive`, `twinRole_changes`, `takeover_changes`, `tookControl_changes`,
`gaveControl_changes` and `activeAlone_changes`. -/
theorem twinPairSupervisesAndHandsOver : Obligations.TwinPairSupervisesAndHandsOver := by
  unfold Obligations.TwinPairSupervisesAndHandsOver
  refine ⟨fun s h hlink hcrc => ?_, fun s dt => ⟨fun hruns => ?_, fun hlink hrole hrun => ?_⟩,
    fun s dt h b => fun hrole => ⟨fun hruns hup => ?_, fun hruns hup hgood => ?_, fun hlink hcrc => ?_,
      fun hruns hup hmiss => ?_, fun hruns hup hmiss hlink => ?_⟩,
    fun s dt => ⟨execTwinFaultReceived_stopped, fun hruns hrole => ?_, execTakeoverGateRelease_none,
      fun hrel hcommit => ?_, fun hrel hcommit hposting => ?_, execTwinRequestedReset_cold, fun hcold => ?_⟩,
    fun s dt h hlink hcrc hrole hpeer => ⟨fun hyes => ?_, fun hno => ?_⟩, fun s dt h k hlink hcrc hrole => ?_,
    fun s h k hlink hcrc => ⟨execTwinCmdHandoverAck_agreed hlink hcrc, execTwinCmdHandoverAck_other hlink hcrc⟩,
    fun s dt n => ⟨execHandoverHoldChange_none, fun hn hrole hgap hquiet => ?_,
      fun hn hrole hacked hgap hquiet => ?_⟩,
    fun s dt hrole hrun => ⟨fun hup hpeer hpref hpos => ?_, fun hlink hpulse => ?_⟩,
    fun s dt u => ⟨execRevertHoldExpiry_none, fun hu hrole hpref hdue hlink => ?_⟩,
    fun s f => ⟨fun hcond hclear => ?_, fun hcond => ⟨execTwinCraze_ended hcond, execCrazeFlagClear_ended hcond⟩,
      execCrazeFlagClear_holds⟩,
    fun s => ⟨fun hruns => if_neg (by rw [hruns]; decide), fun hruns => if_pos hruns⟩⟩
  -- frames whose CRC fails
  · have hnext (act : State → State) := congrArg (Host.Outcome.next (φ := Fault) (ρ := Refusal))
      (linkFrame_crcBad (act := act) hlink hcrc)
    exact ⟨fun _ _ => hnext _, fun _ _ => hnext _, fun _ => hnext _, fun _ => hnext _, fun _ => hnext _⟩
  -- heartbeats sent
  · exact ⟨execHeartbeatStrobe_stopped hruns, fun w => execHeartbeatMiss_stopped hruns⟩
  · refine ⟨_, execHeartbeatStrobe_runs (twlRuns_of_linkAlive hlink) hrole hrun, ?_⟩
    rw [twinSend_alive (s := beatCounted _) hlink]
    exact ⟨rfl, rfl, twinFrame_length .., twinFrame_type ..⟩
  -- heartbeats received and missed
  · have hbeat := pathBeat_pulse_up (by rw [hrole]; decide) hup
    have hactive : (pathBeat .pulse (advance dt s)).twl.role = .active := by rw [hbeat]; exact hrole
    refine ⟨_, execHeartbeatReceived_pulse hruns (by rw [hactive]; decide), ?_, ?_, hactive⟩ <;> rw [hbeat] <;> rfl
  · have hbeat := pathBeat_pulse_eighth hup hgood
    have hactive : (pathBeat .pulse (advance dt s)).twl.role = .active := by rw [hbeat, raise_twl]; exact hrole
    refine ⟨_, execHeartbeatReceived_pulse hruns (by rw [hactive]; decide), ?_⟩
    rw [hbeat, raise_twl]
    exact ⟨rfl, rfl, raise_asserted 260 _ (by decide)⟩
  · have hpair := beatShown_active b hrole
    simp only [Twin.pairPart, Prod.mk.injEq] at hpair
    exact ⟨_, execHeartbeatReceived_link b hlink hcrc, hpair.2⟩
  · exact ⟨_, execHeartbeatMiss_early hruns hmiss, hup, inc8_of_lt (by omega), rfl⟩
  · refine ⟨_, execHeartbeatMiss_third hruns hup hmiss, ?_⟩
    rw [pathDown_pulse (s := pulseMissed _) hlink, pulseDown_twl]
    refine ⟨rfl, hrole, raise_asserted 259 _ (by decide), ?_⟩
    rw [pulseDown, raise_recd, record_recd, record_recd]
    rfl
  -- the takeover, its gate release, and the reset the peer asks for
  · obtain ⟨⟨noted, delta, htwl⟩, h256, h257⟩ := takeover_changes false (s := raise 258 (faultPulsed (advance dt s)))
      (by rw [raise_twl]; exact fun h => absurd (hrole.symm.trans h) (by decide))
    refine ⟨_, execTwinFaultReceived_standby hruns hrole, ?_⟩
    rw [htwl, raise_twl]
    exact ⟨rfl, rfl, rfl, rfl, h256, h257, takeover_asserted_of false (raise_asserted 258 _ (by decide))⟩
  · obtain ⟨silent, hsilent⟩ := Option.ne_none_iff_exists'.1 hrel
    exact execTakeoverGateRelease_commit hsilent hcommit
  · exact ⟨_, execTakeoverGateRelease_faulted hrel hcommit hposting, rfl, fun b => twinHold_hold false b _⟩
  · obtain ⟨hfiring, hkind, -⟩ := moduleReset_firing 4 0 (advance dt s)
    obtain ⟨hprev, hmode⟩ := moduleReset_left 4 0 (advance dt s)
    exact ⟨_, execTwinRequestedReset_resets hcold, hfiring, hkind, hprev, hmode⟩
  -- the tick of a handover
  · refine ⟨_, execTwinCmdRevertReq_granted hlink hcrc hrole hpeer hyes, ?_⟩
    rw [twinCmd_alive (s := handoverAsked _ _) hlink]
    exact ⟨rfl, rfl, rfl⟩
  · refine ⟨_, execTwinCmdRevertReq_refused hlink hcrc hrole hpeer hno, ?_, rfl⟩
    rw [revertRefused, record_twl rfl]
  · refine ⟨_, execTwinCmdHandover_standby k hlink hcrc hrole, ?_⟩
    rw [twinCmd_alive (s := handoverKept _ _) hlink]
    exact ⟨rfl, hrole⟩
  -- the hold changes
  · obtain ⟨hactive, hhold, h264, h256⟩ := tookControl_changes n (s := advance dt s) (by rw [hrole]; decide)
    exact ⟨_, execHandoverHoldChange_standby hn hrole hgap hquiet, hactive, rfl, hhold, h264, h256⟩
  · obtain ⟨hstandby, hdelta, hhold, h264⟩ := gaveControl_changes n (s := advance dt s) (by rw [hrole]; decide)
    exact ⟨_, execHandoverHoldChange_active hn hrole hacked hgap hquiet, hstandby, by rw [← hdelta], hhold, h264⟩
  -- neither module is ACTIVE
  · obtain ⟨htwl, h256⟩ := becomeActive_changes 0 (s := advance dt s) (by rw [hrole]; decide)
    refine ⟨_, execTwinPeerIntegratingTimeout_first hrole hrun hup hpeer hpref hpos, ?_,
      fun b => twinHold_hold false b _, h256⟩
    rw [twinHold_twl, htwl]
    rfl
  · exact ⟨_, execTwinPeerSilentTimeout_silent hrole hrun hlink hpulse, activeAlone_changes (by rw [hrole]; decide)⟩
  -- the preferred module asks for control
  · refine ⟨_, execRevertHoldExpiry_asks hu hrole hpref hdue, ?_⟩
    rw [twinCmd_alive hlink]
    exact ⟨rfl, twinFrame_payload 8 1 _ _⟩
  -- craze flags
  · refine ⟨_, execTwinCraze_sets hcond hclear, ?_, ?_⟩
    · rw [crazeSet, record_twl rfl, setTwl_twl]
    · rw [crazeSet, record_recd, record_recd, setTwl_recd]

end Sys2Proof.Machine
end

section
/-! PROOFS. O1, O58 and O59: a step is the front command's meaning, and what each command's meaning was shown to do
under Laws/ holds of every command (log 2, R415). -/

namespace Sys2Proof.Machine

open Sys2Proof

/-! ### From the meanings to every command -/

theorem exec_total (c : Instr) (s : State) : ∃ t, exec c s = .next t := by
  cases c with
  | powerOnResetRelease => exact execPowerOnResetRelease_total ..
  | startWindowEnd => exact execStartWindowEnd_total ..
  | bootBankChoice => exact execBootBankChoice_total ..
  | kilnFirmwareStart => exact execKilnFirmwareStart_total ..
  | laneStartupTestsDone => exact execLaneStartupTestsDone_total ..
  | processorSectionLoaded => exact execProcessorSectionLoaded_total ..
  | startupInjectionSet => exact execStartupInjectionSet_total ..
  | laneImageLoaded => exact execLaneImageLoaded_total ..
  | safetySetCheck => exact execSafetySetCheck_total ..
  | firingEnd => exact execFiringEnd_total ..
  | trialTimeout => exact execTrialTimeout_total ..
  | fwConfirmed => exact execFwConfirmed_total ..
  | stateCmdEnterMaintenance => exact execStateCmdEnterMaintenance_total ..
  | maintenanceAtBoundary => exact execMaintenanceAtBoundary_total ..
  | stateCmdLeaveMaintenance => exact execStateCmdLeaveMaintenance_total ..
  | stateCmdEnterBanked => exact execStateCmdEnterBanked_total ..
  | bankedPowerStateReached => exact execBankedPowerStateReached_total ..
  | stateCmdModuleReset => exact execStateCmdModuleReset_total ..
  | warmRestart => exact execWarmRestart_total ..
  | kilnWatchdogReset => exact execKilnWatchdogReset_total ..
  | powerFailWarning => exact execPowerFailWarning_total ..
  | powerFail => exact execPowerFail_total ..
  | supplyReturn => exact execSupplyReturn_total ..
  | holdupExhausted => exact execHoldupExhausted_total ..
  | brownOutReset => exact execBrownOutReset_total ..
  | domainFault => exact execDomainFault_total ..
  | bankedWake => exact execBankedWake_total ..
  | moduleWithdrawn => exact execModuleWithdrawn_total ..
  | tempMeasurement => exact execTempMeasurement_total ..
  | laneBeat => exact execLaneBeat_total ..
  | lockstepMismatch => exact execLockstepMismatch_total ..
  | laneMemUe => exact execLaneMemUe_total ..
  | fabricResponse => exact execFabricResponse_total ..
  | quarantineTestsDone => exact execQuarantineTestsDone_total ..
  | lane1oo1Select => exact execLane1oo1Select_total ..
  | lane1oo1Release => exact execLane1oo1Release_total ..
  | wideModeWrite => exact execWideModeWrite_total ..
  | rotationTimerExpiry => exact execRotationTimerExpiry_total ..
  | bisqueOverdue => exact execBisqueOverdue_total ..
  | quietGapStart => exact execQuietGapStart_total ..
  | rewedge => exact execRewedge_total ..
  | bisqueSwap => exact execBisqueSwap_total ..
  | substituted => exact execSubstituted_total ..
  | bisqueStepComplete => exact execBisqueStepComplete_total ..
  | bisqueStepOverrun => exact execBisqueStepOverrun_total ..
  | wedgingStart => exact execWedgingStart_total ..
  | zeroFillDone => exact execZeroFillDone_total ..
  | catchUpCopyDone => exact execCatchUpCopyDone_total ..
  | checksumRoundDone => exact execChecksumRoundDone_total ..
  | mirrorEntry => exact execMirrorEntry_total ..
  | mirrorHoldRelease => exact execMirrorHoldRelease_total ..
  | oprAlu => exact execOprAlu_total ..
  | oprwWordOp => exact execOprwWordOp_total ..
  | multiply => exact execMultiply_total ..
  | divide => exact execDivide_total ..
  | bitop => exact execBitop_total ..
  | aluImmediate => exact execAluImmediate_total ..
  | shiftImmediate => exact execShiftImmediate_total ..
  | lui => exact execLui_total ..
  | insh => exact execInsh_total ..
  | lapc => exact execLapc_total ..
  | load => exact execLoad_total ..
  | store => exact execStore_total ..
  | ldx => exact execLdx_total ..
  | stx => exact execStx_total ..
  | fpOperation => exact execFpOperation_total ..
  | fma => exact execFma_total ..
  | branch => exact execBranch_total ..
  | jJl => exact execJJl_total ..
  | jlr => exact execJlr_total ..
  | cwr => exact execCwr_total ..
  | cww => exact execCww_total ..
  | cws => exact execCws_total ..
  | cwc => exact execCwc_total ..
  | fence => exact execFence_total ..
  | fenceI => exact execFenceI_total ..
  | eret => exact execEret_total ..
  | wfi => exact execWfi_total ..
  | breakInstr => exact execBreakInstr_total ..
  | cacheInvalidate => exact execCacheInvalidate_total ..
  | syscall => exact execSyscall_total ..
  | impreciseBuserr => exact execImpreciseBuserr_total ..
  | combiningBufferTimeout => exact execCombiningBufferTimeout_total ..
  | interruptSourceAssert => exact execInterruptSourceAssert_total ..
  | interruptEntry => exact execInterruptEntry_total ..
  | licEoiWrite => exact execLicEoiWrite_total ..
  | licSwsetWrite => exact execLicSwsetWrite_total ..
  | registerWrite => exact execRegisterWrite_total ..
  | tick => exact execTick_total ..
  | latchEnd => exact execLatchEnd_total ..
  | gapWarn => exact execGapWarn_total ..
  | gapStart => exact execGapStart_total ..
  | cysQuietWrite => exact execCysQuietWrite_total ..
  | cysDoneWrite => exact execCysDoneWrite_total ..
  | commitEnd => exact execCommitEnd_total ..
  | postingEnd => exact execPostingEnd_total ..
  | coneOverrun => exact execConeOverrun_total ..
  | coneStall => exact execConeStall_total ..
  | taskReturn => exact execTaskReturn_total ..
  | syscallEvent => exact execSyscallEvent_total ..
  | syscallNettime => exact execSyscallNettime_total ..
  | syscallNocommit => exact execSyscallNocommit_total ..
  | syscallFaultclr => exact execSyscallFaultclr_total ..
  | ltmTimerStart => exact execLtmTimerStart_total ..
  | ltmTimerExpiry => exact execLtmTimerExpiry_total ..
  | imageStage => exact execImageStage_total ..
  | imageDiscard => exact execImageDiscard_total ..
  | olcSwitchRequest => exact execOlcSwitchRequest_total ..
  | olcSwitch => exact execOlcSwitch_total ..
  | olcTimeout => exact execOlcTimeout_total ..
  | refLost => exact execRefLost_total ..
  | sourceValid => exact execSourceValid_total ..
  | rampStep => exact execRampStep_total ..
  | monTrip => exact execMonTrip_total ..
  | clockEnableApply => exact execClockEnableApply_total ..
  | fmStart => exact execFmStart_total ..
  | fmDone => exact execFmDone_total ..
  | ctuTimensRead => exact execCtuTimensRead_total ..
  | ctuFrclRead => exact execCtuFrclRead_total ..
  | ctuBerrlRead => exact execCtuBerrlRead_total ..
  | cysTicklRead => exact execCysTicklRead_total ..
  | ltmElaplRead => exact execLtmElaplRead_total ..
  | ctuAdjStep => exact execCtuAdjStep_total ..
  | ctuAdjSlew => exact execCtuAdjSlew_total ..
  | slewDone => exact execSlewDone_total ..
  | ctuRateWrite => exact execCtuRateWrite_total ..
  | ebThresholdCrossed => exact execEbThresholdCrossed_total ..
  | announceReceived => exact execAnnounceReceived_total ..
  | syncReceived => exact execSyncReceived_total ..
  | followUpReceived => exact execFollowUpReceived_total ..
  | syncTimeout => exact execSyncTimeout_total ..
  | syncIntervalExpiry => exact execSyncIntervalExpiry_total ..
  | pdelayReqInterval => exact execPdelayReqInterval_total ..
  | pdelayReqReceived => exact execPdelayReqReceived_total ..
  | pdelayRespReceived => exact execPdelayRespReceived_total ..
  | tcForward => exact execTcForward_total ..
  | bankSyncFrameSend => exact execBankSyncFrameSend_total ..
  | bankSyncPulse => exact execBankSyncPulse_total ..
  | fbxOutWrite => exact execFbxOutWrite_total ..
  | fbxFltclrWrite => exact execFbxFltclrWrite_total ..
  | fbxEvt0Read => exact execFbxEvt0Read_total ..
  | filteredStateChange => exact execFilteredStateChange_total ..
  | discrepancyTimeout => exact execDiscrepancyTimeout_total ..
  | comparatorInversion => exact execComparatorInversion_total ..
  | switchSenseFault => exact execSwitchSenseFault_total ..
  | gateSetDisagree => exact execGateSetDisagree_total ..
  | readbackFault => exact execReadbackFault_total ..
  | darkTestStart => exact execDarkTestStart_total ..
  | darkPulseEnd => exact execDarkPulseEnd_total ..
  | overload => exact execOverload_total ..
  | bankOverload => exact execBankOverload_total ..
  | bankTimeout => exact execBankTimeout_total ..
  | syncLost => exact execSyncLost_total ..
  | supplyState => exact execSupplyState_total ..
  | glazePost => exact execGlazePost_total ..
  | glazeLaunch => exact execGlazeLaunch_total ..
  | macrocycleStart => exact execMacrocycleStart_total ..
  | slotStart => exact execSlotStart_total ..
  | xenexFrameReceived => exact execXenexFrameReceived_total ..
  | slotComplete => exact execSlotComplete_total ..
  | cycleStartReceived => exact execCycleStartReceived_total ..
  | xenexSilenceTimeout => exact execXenexSilenceTimeout_total ..
  | contendDelayEnd => exact execContendDelayEnd_total ..
  | coldstartEnd => exact execColdstartEnd_total ..
  | xnCollision => exact execXnCollision_total ..
  | xnbTakeover => exact execXnbTakeover_total ..
  | xnbRelease => exact execXnbRelease_total ..
  | claimReceived => exact execClaimReceived_total ..
  | acycRespReceived => exact execAcycRespReceived_total ..
  | acycTimeout => exact execAcycTimeout_total ..
  | gatewayRead => exact execGatewayRead_total ..
  | gatewayWrite => exact execGatewayWrite_total ..
  | heartbeatStrobe => exact execHeartbeatStrobe_total ..
  | heartbeatReceived => exact execHeartbeatReceived_total ..
  | heartbeatMiss => exact execHeartbeatMiss_total ..
  | twinFaultReceived => exact execTwinFaultReceived_total ..
  | takeoverGateRelease => exact execTakeoverGateRelease_total ..
  | twinRequestedReset => exact execTwinRequestedReset_total ..
  | twinInputFrame => exact execTwinInputFrame_total ..
  | twinRxframe => exact execTwinRxframe_total ..
  | twinTimeFrame => exact execTwinTimeFrame_total ..
  | twinCheckFrame => exact execTwinCheckFrame_total ..
  | twinHealthFrame head flags counts => exact execTwinHealthFrame_total head flags counts s
  | twinCraze => exact execTwinCraze_total ..
  | twinCmdRevertReq => exact execTwinCmdRevertReq_total ..
  | twinCmdHandover => exact execTwinCmdHandover_total ..
  | twinCmdHandoverAck => exact execTwinCmdHandoverAck_total ..
  | handoverHoldChange => exact execHandoverHoldChange_total ..
  | twinCmdOlcSwitch => exact execTwinCmdOlcSwitch_total ..
  | twinCmdIntegStart => exact execTwinCmdIntegStart_total ..
  | twinLatencyDone => exact execTwinLatencyDone_total ..
  | twinPageFrame => exact execTwinPageFrame_total ..
  | twinFwdFrame => exact execTwinFwdFrame_total ..
  | twinCopyDone => exact execTwinCopyDone_total ..
  | twinChecksumDone => exact execTwinChecksumDone_total ..
  | twinCmdJoin => exact execTwinCmdJoin_total ..
  | twinStaterecFrame => exact execTwinStaterecFrame_total ..
  | twinIntegRetry => exact execTwinIntegRetry_total ..
  | twinPeerIntegratingTimeout => exact execTwinPeerIntegratingTimeout_total ..
  | twinPeerSilentTimeout => exact execTwinPeerSilentTimeout_total ..
  | revertHoldExpiry => exact execRevertHoldExpiry_total ..
  | twinFwdHoldRelease => exact execTwinFwdHoldRelease_total ..
  | switchFrameReceived => exact execSwitchFrameReceived_total ..
  | internalPortReceive => exact execInternalPortReceive_total ..
  | receiveSlotWrite => exact execReceiveSlotWrite_total ..
  | lncTxSeqWrite => exact execLncTxSeqWrite_total ..
  | linkChange => exact execLinkChange_total ..
  | prpFrameReceived => exact execPrpFrameReceived_total ..
  | prpSupervisionInterval => exact execPrpSupervisionInterval_total ..
  | prpLanFail => exact execPrpLanFail_total ..
  | gdpRead => exact execGdpRead_total ..
  | gdpWrite => exact execGdpWrite_total ..
  | gdpOpen => exact execGdpOpen_total ..
  | gdpClose => exact execGdpClose_total ..
  | gdpWake => exact execGdpWake_total ..
  | gdpSessionIdleTimeout => exact execGdpSessionIdleTimeout_total ..
  | keyxChallenge => exact execKeyxChallenge_total ..
  | keyxResponse => exact execKeyxResponse_total ..
  | keyxLockoutEnd => exact execKeyxLockoutEnd_total ..
  | maintenanceKeyWrite => exact execMaintenanceKeyWrite_total ..
  | usdoTransfer => exact execUsdoTransfer_total ..
  | usdoTimeout => exact execUsdoTimeout_total ..
  | safetyWrite => exact execSafetyWrite_total ..
  | klmVerdict7Write => exact execKlmVerdict7Write_total ..
  | safetyReserve => exact execSafetyReserve_total ..
  | safetyCommit => exact execSafetyCommit_total ..
  | safetyTimeout => exact execSafetyTimeout_total ..
  | safetyValueFromActive => exact execSafetyValueFromActive_total ..
  | debugHalt => exact execDebugHalt_total ..
  | debugRun => exact execDebugRun_total ..
  | debugStep => exact execDebugStep_total ..
  | debugRegisterAccess => exact execDebugRegisterAccess_total ..
  | debugMemoryAccess => exact execDebugMemoryAccess_total ..
  | debugBreakpointHit => exact execDebugBreakpointHit_total ..
  | fwBlock => exact execFwBlock_total ..
  | appImageBlock => exact execAppImageBlock_total ..
  | scheduleTableBlock => exact execScheduleTableBlock_total ..
  | transferAbandonTimeout => exact execTransferAbandonTimeout_total ..
  | flashSectorErased => exact execFlashSectorErased_total ..
  | fwActivate => exact execFwActivate_total ..
  | fwRevert => exact execFwRevert_total ..
  | fwCancelTransfer => exact execFwCancelTransfer_total ..
  | fwCancelActivation => exact execFwCancelActivation_total ..
  | recorderRead => exact execRecorderRead_total ..
  | eventSubmit => exact execEventSubmit_total ..
  | recEv3Write => exact execRecEv3Write_total ..
  | recordWrite => exact execRecordWrite_total ..
  | headRewrite => exact execHeadRewrite_total ..
  | optimeSave => exact execOptimeSave_total ..
  | tokenRefill => exact execTokenRefill_total ..
  | postedWriteComplete => exact execPostedWriteComplete_total ..
  | brgPwerr => exact execBrgPwerr_total ..
  | farSideReadResponse => exact execFarSideReadResponse_total ..
  | farSideReadTimeout => exact execFarSideReadTimeout_total ..
  | brgTagFree => exact execBrgTagFree_total ..
  | brgSemExpired => exact execBrgSemExpired_total ..
  | prefetchExpiry => exact execPrefetchExpiry_total ..
  | brgErr0Read => exact execBrgErr0Read_total ..
  | brgSyncRead => exact execBrgSyncRead_total ..
  | brgRegionWrite => exact execBrgRegionWrite_total ..
  | brgIntstatClear => exact execBrgIntstatClear_total ..
  | forwardedInterruptEdge => exact execForwardedInterruptEdge_total ..
  | cfdTpdotrigWrite => exact execCfdTpdotrigWrite_total ..
  | tpdoEventTimer => exact execTpdoEventTimer_total ..
  | rpdoReceived => exact execRpdoReceived_total ..
  | canBusoff => exact execCanBusoff_total ..
  | canBusoffRecovery => exact execCanBusoffRecovery_total ..
  | nmtCommand => exact execNmtCommand_total ..
  | canProducerHeartbeat => exact execCanProducerHeartbeat_total ..
  | canHbLost => exact execCanHbLost_total ..
  | counterOverflow => exact execCounterOverflow_total ..
  | lpcCntnlRead => exact execLpcCntnlRead_total ..
  | lpcCntnlWrite => exact execLpcCntnlWrite_total ..
  | bandwidthWindowEnd => exact execBandwidthWindowEnd_total ..
  | gapDump => exact execGapDump_total ..
  | periodicDump => exact execPeriodicDump_total ..
  | illegalInstruction => exact execIllegalInstruction_total ..
  | fetchFault => exact execFetchFault_total ..
  | sourceInvalid => exact execSourceInvalid_total ..
  | emberfailClear => exact execEmberfailClear_total ..
  | announceReceiptTimeout => exact execAnnounceReceiptTimeout_total ..
  | readbackAgrees => exact execReadbackAgrees_total ..
  | carrierDetected => exact execCarrierDetected_total ..
  | timeFrameInterval => exact execTimeFrameInterval_total ..
  | healthFrameInterval => exact execHealthFrameInterval_total ..
  | crazeFlagClear => exact execCrazeFlagClear_total ..
  | twpPulseError => exact execTwpPulseError_total ..
  | standbyImageStage => exact execStandbyImageStage_total ..
  | macAddressAgeing => exact execMacAddressAgeing_total ..
  | canHeartbeatReceived => exact execCanHeartbeatReceived_total ..

theorem exec_keeps (c : Instr) {s₀ : State} (s : State) (h : Keeps s₀ s) : OutKeeps s₀ (exec c s) := by
  cases c with
  | powerOnResetRelease => exact execPowerOnResetRelease_keeps (h₀ := h) ..
  | startWindowEnd => exact execStartWindowEnd_keeps (h₀ := h) ..
  | bootBankChoice => exact execBootBankChoice_keeps (h₀ := h) ..
  | kilnFirmwareStart => exact execKilnFirmwareStart_keeps (h₀ := h) ..
  | laneStartupTestsDone => exact execLaneStartupTestsDone_keeps (h₀ := h) ..
  | processorSectionLoaded => exact execProcessorSectionLoaded_keeps (h₀ := h) ..
  | startupInjectionSet => exact execStartupInjectionSet_keeps (h₀ := h) ..
  | laneImageLoaded => exact execLaneImageLoaded_keeps (h₀ := h) ..
  | safetySetCheck => exact execSafetySetCheck_keeps (h₀ := h) ..
  | firingEnd => exact execFiringEnd_keeps (h₀ := h) ..
  | trialTimeout => exact execTrialTimeout_keeps (h₀ := h) ..
  | fwConfirmed => exact execFwConfirmed_keeps (h₀ := h) ..
  | stateCmdEnterMaintenance => exact execStateCmdEnterMaintenance_keeps (h₀ := h) ..
  | maintenanceAtBoundary => exact execMaintenanceAtBoundary_keeps (h₀ := h) ..
  | stateCmdLeaveMaintenance => exact execStateCmdLeaveMaintenance_keeps (h₀ := h) ..
  | stateCmdEnterBanked => exact execStateCmdEnterBanked_keeps (h₀ := h) ..
  | bankedPowerStateReached => exact execBankedPowerStateReached_keeps (h₀ := h) ..
  | stateCmdModuleReset => exact execStateCmdModuleReset_keeps (h₀ := h) ..
  | warmRestart => exact execWarmRestart_keeps (h₀ := h) ..
  | kilnWatchdogReset => exact execKilnWatchdogReset_keeps (h₀ := h) ..
  | powerFailWarning => exact execPowerFailWarning_keeps (h₀ := h) ..
  | powerFail => exact execPowerFail_keeps (h₀ := h) ..
  | supplyReturn => exact execSupplyReturn_keeps (h₀ := h) ..
  | holdupExhausted => exact execHoldupExhausted_keeps (h₀ := h) ..
  | brownOutReset => exact execBrownOutReset_keeps (h₀ := h) ..
  | domainFault => exact execDomainFault_keeps (h₀ := h) ..
  | bankedWake => exact execBankedWake_keeps (h₀ := h) ..
  | moduleWithdrawn => exact execModuleWithdrawn_keeps (h₀ := h) ..
  | tempMeasurement => exact execTempMeasurement_keeps (h₀ := h) ..
  | laneBeat => exact execLaneBeat_keeps (h₀ := h) ..
  | lockstepMismatch => exact execLockstepMismatch_keeps (h₀ := h) ..
  | laneMemUe => exact execLaneMemUe_keeps (h₀ := h) ..
  | fabricResponse => exact execFabricResponse_keeps (h₀ := h) ..
  | quarantineTestsDone => exact execQuarantineTestsDone_keeps (h₀ := h) ..
  | lane1oo1Select => exact execLane1oo1Select_keeps (h₀ := h) ..
  | lane1oo1Release => exact execLane1oo1Release_keeps (h₀ := h) ..
  | wideModeWrite => exact execWideModeWrite_keeps (h₀ := h) ..
  | rotationTimerExpiry => exact execRotationTimerExpiry_keeps (h₀ := h) ..
  | bisqueOverdue => exact execBisqueOverdue_keeps (h₀ := h) ..
  | quietGapStart => exact execQuietGapStart_keeps (h₀ := h) ..
  | rewedge => exact execRewedge_keeps (h₀ := h) ..
  | bisqueSwap => exact execBisqueSwap_keeps (h₀ := h) ..
  | substituted => exact execSubstituted_keeps (h₀ := h) ..
  | bisqueStepComplete => exact execBisqueStepComplete_keeps (h₀ := h) ..
  | bisqueStepOverrun => exact execBisqueStepOverrun_keeps (h₀ := h) ..
  | wedgingStart => exact execWedgingStart_keeps (h₀ := h) ..
  | zeroFillDone => exact execZeroFillDone_keeps (h₀ := h) ..
  | catchUpCopyDone => exact execCatchUpCopyDone_keeps (h₀ := h) ..
  | checksumRoundDone => exact execChecksumRoundDone_keeps (h₀ := h) ..
  | mirrorEntry => exact execMirrorEntry_keeps (h₀ := h) ..
  | mirrorHoldRelease => exact execMirrorHoldRelease_keeps (h₀ := h) ..
  | oprAlu => exact execOprAlu_keeps (h₀ := h) ..
  | oprwWordOp => exact execOprwWordOp_keeps (h₀ := h) ..
  | multiply => exact execMultiply_keeps (h₀ := h) ..
  | divide => exact execDivide_keeps (h₀ := h) ..
  | bitop => exact execBitop_keeps (h₀ := h) ..
  | aluImmediate => exact execAluImmediate_keeps (h₀ := h) ..
  | shiftImmediate => exact execShiftImmediate_keeps (h₀ := h) ..
  | lui => exact execLui_keeps (h₀ := h) ..
  | insh => exact execInsh_keeps (h₀ := h) ..
  | lapc => exact execLapc_keeps (h₀ := h) ..
  | load => exact execLoad_keeps (h₀ := h) ..
  | store => exact execStore_keeps (h₀ := h) ..
  | ldx => exact execLdx_keeps (h₀ := h) ..
  | stx => exact execStx_keeps (h₀ := h) ..
  | fpOperation => exact execFpOperation_keeps (h₀ := h) ..
  | fma => exact execFma_keeps (h₀ := h) ..
  | branch => exact execBranch_keeps (h₀ := h) ..
  | jJl => exact execJJl_keeps (h₀ := h) ..
  | jlr => exact execJlr_keeps (h₀ := h) ..
  | cwr => exact execCwr_keeps (h₀ := h) ..
  | cww => exact execCww_keeps (h₀ := h) ..
  | cws => exact execCws_keeps (h₀ := h) ..
  | cwc => exact execCwc_keeps (h₀ := h) ..
  | fence => exact execFence_keeps (h₀ := h) ..
  | fenceI => exact execFenceI_keeps (h₀ := h) ..
  | eret => exact execEret_keeps (h₀ := h) ..
  | wfi => exact execWfi_keeps (h₀ := h) ..
  | breakInstr => exact execBreakInstr_keeps (h₀ := h) ..
  | cacheInvalidate => exact execCacheInvalidate_keeps (h₀ := h) ..
  | syscall => exact execSyscall_keeps (h₀ := h) ..
  | impreciseBuserr => exact execImpreciseBuserr_keeps (h₀ := h) ..
  | combiningBufferTimeout => exact execCombiningBufferTimeout_keeps (h₀ := h) ..
  | interruptSourceAssert => exact execInterruptSourceAssert_keeps (h₀ := h) ..
  | interruptEntry => exact execInterruptEntry_keeps (h₀ := h) ..
  | licEoiWrite => exact execLicEoiWrite_keeps (h₀ := h) ..
  | licSwsetWrite => exact execLicSwsetWrite_keeps (h₀ := h) ..
  | registerWrite => exact execRegisterWrite_keeps (h₀ := h) ..
  | tick => exact execTick_keeps (h₀ := h) ..
  | latchEnd => exact execLatchEnd_keeps (h₀ := h) ..
  | gapWarn => exact execGapWarn_keeps (h₀ := h) ..
  | gapStart => exact execGapStart_keeps (h₀ := h) ..
  | cysQuietWrite => exact execCysQuietWrite_keeps (h₀ := h) ..
  | cysDoneWrite => exact execCysDoneWrite_keeps (h₀ := h) ..
  | commitEnd => exact execCommitEnd_keeps (h₀ := h) ..
  | postingEnd => exact execPostingEnd_keeps (h₀ := h) ..
  | coneOverrun => exact execConeOverrun_keeps (h₀ := h) ..
  | coneStall => exact execConeStall_keeps (h₀ := h) ..
  | taskReturn => exact execTaskReturn_keeps (h₀ := h) ..
  | syscallEvent => exact execSyscallEvent_keeps (h₀ := h) ..
  | syscallNettime => exact execSyscallNettime_keeps (h₀ := h) ..
  | syscallNocommit => exact execSyscallNocommit_keeps (h₀ := h) ..
  | syscallFaultclr => exact execSyscallFaultclr_keeps (h₀ := h) ..
  | ltmTimerStart => exact execLtmTimerStart_keeps (h₀ := h) ..
  | ltmTimerExpiry => exact execLtmTimerExpiry_keeps (h₀ := h) ..
  | imageStage => exact execImageStage_keeps (h₀ := h) ..
  | imageDiscard => exact execImageDiscard_keeps (h₀ := h) ..
  | olcSwitchRequest => exact execOlcSwitchRequest_keeps (h₀ := h) ..
  | olcSwitch => exact execOlcSwitch_keeps (h₀ := h) ..
  | olcTimeout => exact execOlcTimeout_keeps (h₀ := h) ..
  | refLost => exact execRefLost_keeps (h₀ := h) ..
  | sourceValid => exact execSourceValid_keeps (h₀ := h) ..
  | rampStep => exact execRampStep_keeps (h₀ := h) ..
  | monTrip => exact execMonTrip_keeps (h₀ := h) ..
  | clockEnableApply => exact execClockEnableApply_keeps (h₀ := h) ..
  | fmStart => exact execFmStart_keeps (h₀ := h) ..
  | fmDone => exact execFmDone_keeps (h₀ := h) ..
  | ctuTimensRead => exact execCtuTimensRead_keeps (h₀ := h) ..
  | ctuFrclRead => exact execCtuFrclRead_keeps (h₀ := h) ..
  | ctuBerrlRead => exact execCtuBerrlRead_keeps (h₀ := h) ..
  | cysTicklRead => exact execCysTicklRead_keeps (h₀ := h) ..
  | ltmElaplRead => exact execLtmElaplRead_keeps (h₀ := h) ..
  | ctuAdjStep => exact execCtuAdjStep_keeps (h₀ := h) ..
  | ctuAdjSlew => exact execCtuAdjSlew_keeps (h₀ := h) ..
  | slewDone => exact execSlewDone_keeps (h₀ := h) ..
  | ctuRateWrite => exact execCtuRateWrite_keeps (h₀ := h) ..
  | ebThresholdCrossed => exact execEbThresholdCrossed_keeps (h₀ := h) ..
  | announceReceived => exact execAnnounceReceived_keeps (h₀ := h) ..
  | syncReceived => exact execSyncReceived_keeps (h₀ := h) ..
  | followUpReceived => exact execFollowUpReceived_keeps (h₀ := h) ..
  | syncTimeout => exact execSyncTimeout_keeps (h₀ := h) ..
  | syncIntervalExpiry => exact execSyncIntervalExpiry_keeps (h₀ := h) ..
  | pdelayReqInterval => exact execPdelayReqInterval_keeps (h₀ := h) ..
  | pdelayReqReceived => exact execPdelayReqReceived_keeps (h₀ := h) ..
  | pdelayRespReceived => exact execPdelayRespReceived_keeps (h₀ := h) ..
  | tcForward => exact execTcForward_keeps (h₀ := h) ..
  | bankSyncFrameSend => exact execBankSyncFrameSend_keeps (h₀ := h) ..
  | bankSyncPulse => exact execBankSyncPulse_keeps (h₀ := h) ..
  | fbxOutWrite => exact execFbxOutWrite_keeps (h₀ := h) ..
  | fbxFltclrWrite => exact execFbxFltclrWrite_keeps (h₀ := h) ..
  | fbxEvt0Read => exact execFbxEvt0Read_keeps (h₀ := h) ..
  | filteredStateChange => exact execFilteredStateChange_keeps (h₀ := h) ..
  | discrepancyTimeout => exact execDiscrepancyTimeout_keeps (h₀ := h) ..
  | comparatorInversion => exact execComparatorInversion_keeps (h₀ := h) ..
  | switchSenseFault => exact execSwitchSenseFault_keeps (h₀ := h) ..
  | gateSetDisagree => exact execGateSetDisagree_keeps (h₀ := h) ..
  | readbackFault => exact execReadbackFault_keeps (h₀ := h) ..
  | darkTestStart => exact execDarkTestStart_keeps (h₀ := h) ..
  | darkPulseEnd => exact execDarkPulseEnd_keeps (h₀ := h) ..
  | overload => exact execOverload_keeps (h₀ := h) ..
  | bankOverload => exact execBankOverload_keeps (h₀ := h) ..
  | bankTimeout => exact execBankTimeout_keeps (h₀ := h) ..
  | syncLost => exact execSyncLost_keeps (h₀ := h) ..
  | supplyState => exact execSupplyState_keeps (h₀ := h) ..
  | glazePost => exact execGlazePost_keeps (h₀ := h) ..
  | glazeLaunch => exact execGlazeLaunch_keeps (h₀ := h) ..
  | macrocycleStart => exact execMacrocycleStart_keeps (h₀ := h) ..
  | slotStart => exact execSlotStart_keeps (h₀ := h) ..
  | xenexFrameReceived => exact execXenexFrameReceived_keeps (h₀ := h) ..
  | slotComplete => exact execSlotComplete_keeps (h₀ := h) ..
  | cycleStartReceived => exact execCycleStartReceived_keeps (h₀ := h) ..
  | xenexSilenceTimeout => exact execXenexSilenceTimeout_keeps (h₀ := h) ..
  | contendDelayEnd => exact execContendDelayEnd_keeps (h₀ := h) ..
  | coldstartEnd => exact execColdstartEnd_keeps (h₀ := h) ..
  | xnCollision => exact execXnCollision_keeps (h₀ := h) ..
  | xnbTakeover => exact execXnbTakeover_keeps (h₀ := h) ..
  | xnbRelease => exact execXnbRelease_keeps (h₀ := h) ..
  | claimReceived => exact execClaimReceived_keeps (h₀ := h) ..
  | acycRespReceived => exact execAcycRespReceived_keeps (h₀ := h) ..
  | acycTimeout => exact execAcycTimeout_keeps (h₀ := h) ..
  | gatewayRead => exact execGatewayRead_keeps (h₀ := h) ..
  | gatewayWrite => exact execGatewayWrite_keeps (h₀ := h) ..
  | heartbeatStrobe => exact execHeartbeatStrobe_keeps (h₀ := h) ..
  | heartbeatReceived => exact execHeartbeatReceived_keeps (h₀ := h) ..
  | heartbeatMiss => exact execHeartbeatMiss_keeps (h₀ := h) ..
  | twinFaultReceived => exact execTwinFaultReceived_keeps (h₀ := h) ..
  | takeoverGateRelease => exact execTakeoverGateRelease_keeps (h₀ := h) ..
  | twinRequestedReset => exact execTwinRequestedReset_keeps (h₀ := h) ..
  | twinInputFrame => exact execTwinInputFrame_keeps (h₀ := h) ..
  | twinRxframe => exact execTwinRxframe_keeps (h₀ := h) ..
  | twinTimeFrame => exact execTwinTimeFrame_keeps (h₀ := h) ..
  | twinCheckFrame => exact execTwinCheckFrame_keeps (h₀ := h) ..
  | twinHealthFrame head flags counts => exact execTwinHealthFrame_keeps head flags counts s h
  | twinCraze => exact execTwinCraze_keeps (h₀ := h) ..
  | twinCmdRevertReq => exact execTwinCmdRevertReq_keeps (h₀ := h) ..
  | twinCmdHandover => exact execTwinCmdHandover_keeps (h₀ := h) ..
  | twinCmdHandoverAck => exact execTwinCmdHandoverAck_keeps (h₀ := h) ..
  | handoverHoldChange => exact execHandoverHoldChange_keeps (h₀ := h) ..
  | twinCmdOlcSwitch => exact execTwinCmdOlcSwitch_keeps (h₀ := h) ..
  | twinCmdIntegStart => exact execTwinCmdIntegStart_keeps (h₀ := h) ..
  | twinLatencyDone => exact execTwinLatencyDone_keeps (h₀ := h) ..
  | twinPageFrame => exact execTwinPageFrame_keeps (h₀ := h) ..
  | twinFwdFrame => exact execTwinFwdFrame_keeps (h₀ := h) ..
  | twinCopyDone => exact execTwinCopyDone_keeps (h₀ := h) ..
  | twinChecksumDone => exact execTwinChecksumDone_keeps (h₀ := h) ..
  | twinCmdJoin => exact execTwinCmdJoin_keeps (h₀ := h) ..
  | twinStaterecFrame => exact execTwinStaterecFrame_keeps (h₀ := h) ..
  | twinIntegRetry => exact execTwinIntegRetry_keeps (h₀ := h) ..
  | twinPeerIntegratingTimeout => exact execTwinPeerIntegratingTimeout_keeps (h₀ := h) ..
  | twinPeerSilentTimeout => exact execTwinPeerSilentTimeout_keeps (h₀ := h) ..
  | revertHoldExpiry => exact execRevertHoldExpiry_keeps (h₀ := h) ..
  | twinFwdHoldRelease => exact execTwinFwdHoldRelease_keeps (h₀ := h) ..
  | switchFrameReceived => exact execSwitchFrameReceived_keeps (h₀ := h) ..
  | internalPortReceive => exact execInternalPortReceive_keeps (h₀ := h) ..
  | receiveSlotWrite => exact execReceiveSlotWrite_keeps (h₀ := h) ..
  | lncTxSeqWrite => exact execLncTxSeqWrite_keeps (h₀ := h) ..
  | linkChange => exact execLinkChange_keeps (h₀ := h) ..
  | prpFrameReceived => exact execPrpFrameReceived_keeps (h₀ := h) ..
  | prpSupervisionInterval => exact execPrpSupervisionInterval_keeps (h₀ := h) ..
  | prpLanFail => exact execPrpLanFail_keeps (h₀ := h) ..
  | gdpRead => exact execGdpRead_keeps (h₀ := h) ..
  | gdpWrite => exact execGdpWrite_keeps (h₀ := h) ..
  | gdpOpen => exact execGdpOpen_keeps (h₀ := h) ..
  | gdpClose => exact execGdpClose_keeps (h₀ := h) ..
  | gdpWake => exact execGdpWake_keeps (h₀ := h) ..
  | gdpSessionIdleTimeout => exact execGdpSessionIdleTimeout_keeps (h₀ := h) ..
  | keyxChallenge => exact execKeyxChallenge_keeps (h₀ := h) ..
  | keyxResponse => exact execKeyxResponse_keeps (h₀ := h) ..
  | keyxLockoutEnd => exact execKeyxLockoutEnd_keeps (h₀ := h) ..
  | maintenanceKeyWrite => exact execMaintenanceKeyWrite_keeps (h₀ := h) ..
  | usdoTransfer => exact execUsdoTransfer_keeps (h₀ := h) ..
  | usdoTimeout => exact execUsdoTimeout_keeps (h₀ := h) ..
  | safetyWrite => exact execSafetyWrite_keeps (h₀ := h) ..
  | klmVerdict7Write => exact execKlmVerdict7Write_keeps (h₀ := h) ..
  | safetyReserve => exact execSafetyReserve_keeps (h₀ := h) ..
  | safetyCommit => exact execSafetyCommit_keeps (h₀ := h) ..
  | safetyTimeout => exact execSafetyTimeout_keeps (h₀ := h) ..
  | safetyValueFromActive => exact execSafetyValueFromActive_keeps (h₀ := h) ..
  | debugHalt => exact execDebugHalt_keeps (h₀ := h) ..
  | debugRun => exact execDebugRun_keeps (h₀ := h) ..
  | debugStep => exact execDebugStep_keeps (h₀ := h) ..
  | debugRegisterAccess => exact execDebugRegisterAccess_keeps (h₀ := h) ..
  | debugMemoryAccess => exact execDebugMemoryAccess_keeps (h₀ := h) ..
  | debugBreakpointHit => exact execDebugBreakpointHit_keeps (h₀ := h) ..
  | fwBlock => exact execFwBlock_keeps (h₀ := h) ..
  | appImageBlock => exact execAppImageBlock_keeps (h₀ := h) ..
  | scheduleTableBlock => exact execScheduleTableBlock_keeps (h₀ := h) ..
  | transferAbandonTimeout => exact execTransferAbandonTimeout_keeps (h₀ := h) ..
  | flashSectorErased => exact execFlashSectorErased_keeps (h₀ := h) ..
  | fwActivate => exact execFwActivate_keeps (h₀ := h) ..
  | fwRevert => exact execFwRevert_keeps (h₀ := h) ..
  | fwCancelTransfer => exact execFwCancelTransfer_keeps (h₀ := h) ..
  | fwCancelActivation => exact execFwCancelActivation_keeps (h₀ := h) ..
  | recorderRead => exact execRecorderRead_keeps (h₀ := h) ..
  | eventSubmit => exact execEventSubmit_keeps (h₀ := h) ..
  | recEv3Write => exact execRecEv3Write_keeps (h₀ := h) ..
  | recordWrite => exact execRecordWrite_keeps (h₀ := h) ..
  | headRewrite => exact execHeadRewrite_keeps (h₀ := h) ..
  | optimeSave => exact execOptimeSave_keeps (h₀ := h) ..
  | tokenRefill => exact execTokenRefill_keeps (h₀ := h) ..
  | postedWriteComplete => exact execPostedWriteComplete_keeps (h₀ := h) ..
  | brgPwerr => exact execBrgPwerr_keeps (h₀ := h) ..
  | farSideReadResponse => exact execFarSideReadResponse_keeps (h₀ := h) ..
  | farSideReadTimeout => exact execFarSideReadTimeout_keeps (h₀ := h) ..
  | brgTagFree => exact execBrgTagFree_keeps (h₀ := h) ..
  | brgSemExpired => exact execBrgSemExpired_keeps (h₀ := h) ..
  | prefetchExpiry => exact execPrefetchExpiry_keeps (h₀ := h) ..
  | brgErr0Read => exact execBrgErr0Read_keeps (h₀ := h) ..
  | brgSyncRead => exact execBrgSyncRead_keeps (h₀ := h) ..
  | brgRegionWrite => exact execBrgRegionWrite_keeps (h₀ := h) ..
  | brgIntstatClear => exact execBrgIntstatClear_keeps (h₀ := h) ..
  | forwardedInterruptEdge => exact execForwardedInterruptEdge_keeps (h₀ := h) ..
  | cfdTpdotrigWrite => exact execCfdTpdotrigWrite_keeps (h₀ := h) ..
  | tpdoEventTimer => exact execTpdoEventTimer_keeps (h₀ := h) ..
  | rpdoReceived => exact execRpdoReceived_keeps (h₀ := h) ..
  | canBusoff => exact execCanBusoff_keeps (h₀ := h) ..
  | canBusoffRecovery => exact execCanBusoffRecovery_keeps (h₀ := h) ..
  | nmtCommand => exact execNmtCommand_keeps (h₀ := h) ..
  | canProducerHeartbeat => exact execCanProducerHeartbeat_keeps (h₀ := h) ..
  | canHbLost => exact execCanHbLost_keeps (h₀ := h) ..
  | counterOverflow => exact execCounterOverflow_keeps (h₀ := h) ..
  | lpcCntnlRead => exact execLpcCntnlRead_keeps (h₀ := h) ..
  | lpcCntnlWrite => exact execLpcCntnlWrite_keeps (h₀ := h) ..
  | bandwidthWindowEnd => exact execBandwidthWindowEnd_keeps (h₀ := h) ..
  | gapDump => exact execGapDump_keeps (h₀ := h) ..
  | periodicDump => exact execPeriodicDump_keeps (h₀ := h) ..
  | illegalInstruction => exact execIllegalInstruction_keeps (h₀ := h) ..
  | fetchFault => exact execFetchFault_keeps (h₀ := h) ..
  | sourceInvalid => exact execSourceInvalid_keeps (h₀ := h) ..
  | emberfailClear => exact execEmberfailClear_keeps (h₀ := h) ..
  | announceReceiptTimeout => exact execAnnounceReceiptTimeout_keeps (h₀ := h) ..
  | readbackAgrees => exact execReadbackAgrees_keeps (h₀ := h) ..
  | carrierDetected => exact execCarrierDetected_keeps (h₀ := h) ..
  | timeFrameInterval => exact execTimeFrameInterval_keeps (h₀ := h) ..
  | healthFrameInterval => exact execHealthFrameInterval_keeps (h₀ := h) ..
  | crazeFlagClear => exact execCrazeFlagClear_keeps (h₀ := h) ..
  | twpPulseError => exact execTwpPulseError_keeps (h₀ := h) ..
  | standbyImageStage => exact execStandbyImageStage_keeps (h₀ := h) ..
  | macAddressAgeing => exact execMacAddressAgeing_keeps (h₀ := h) ..
  | canHeartbeatReceived => exact execCanHeartbeatReceived_keeps (h₀ := h) ..

/-- Every meaning asks for its parts to be among those of the footprint, and the footprint is a list of constants. -/
theorem exec_frame (c : Instr) (s : State) : OutFr (footprint c s).2 (footprint c s).1 (exec c s) := by
  cases c <;> dsimp only [footprint, exec]
  case' powerOnResetRelease => apply execPowerOnResetRelease_frame
  case' startWindowEnd => apply execStartWindowEnd_frame
  case' bootBankChoice => apply execBootBankChoice_frame
  case' kilnFirmwareStart => apply execKilnFirmwareStart_frame
  case' laneStartupTestsDone => apply execLaneStartupTestsDone_frame
  case' processorSectionLoaded => apply execProcessorSectionLoaded_frame
  case' startupInjectionSet => apply execStartupInjectionSet_frame
  case' laneImageLoaded => apply execLaneImageLoaded_frame
  case' safetySetCheck => apply execSafetySetCheck_frame
  case' firingEnd => apply execFiringEnd_frame
  case' trialTimeout => apply execTrialTimeout_frame
  case' fwConfirmed => apply execFwConfirmed_frame
  case' stateCmdEnterMaintenance => apply execStateCmdEnterMaintenance_frame
  case' maintenanceAtBoundary => apply execMaintenanceAtBoundary_frame
  case' stateCmdLeaveMaintenance => apply execStateCmdLeaveMaintenance_frame
  case' stateCmdEnterBanked => apply execStateCmdEnterBanked_frame
  case' bankedPowerStateReached => apply execBankedPowerStateReached_frame
  case' stateCmdModuleReset => apply execStateCmdModuleReset_frame
  case' warmRestart => apply execWarmRestart_frame
  case' kilnWatchdogReset => apply execKilnWatchdogReset_frame
  case' powerFailWarning => apply execPowerFailWarning_frame
  case' powerFail => apply execPowerFail_frame
  case' supplyReturn => apply execSupplyReturn_frame
  case' holdupExhausted => apply execHoldupExhausted_frame
  case' brownOutReset => apply execBrownOutReset_frame
  case' domainFault => apply execDomainFault_frame
  case' bankedWake => apply execBankedWake_frame
  case' moduleWithdrawn => apply execModuleWithdrawn_frame
  case' tempMeasurement => apply execTempMeasurement_frame
  case' laneBeat => apply execLaneBeat_frame
  case' lockstepMismatch => apply execLockstepMismatch_frame
  case' laneMemUe => apply execLaneMemUe_frame
  case' fabricResponse => apply execFabricResponse_frame
  case' quarantineTestsDone => apply execQuarantineTestsDone_frame
  case' lane1oo1Select => apply execLane1oo1Select_frame
  case' lane1oo1Release => apply execLane1oo1Release_frame
  case' wideModeWrite => apply execWideModeWrite_frame
  case' rotationTimerExpiry => apply execRotationTimerExpiry_frame
  case' bisqueOverdue => apply execBisqueOverdue_frame
  case' quietGapStart => apply execQuietGapStart_frame
  case' rewedge => apply execRewedge_frame
  case' bisqueSwap => apply execBisqueSwap_frame
  case' substituted => apply execSubstituted_frame
  case' bisqueStepComplete => apply execBisqueStepComplete_frame
  case' bisqueStepOverrun => apply execBisqueStepOverrun_frame
  case' wedgingStart => apply execWedgingStart_frame
  case' zeroFillDone => apply execZeroFillDone_frame
  case' catchUpCopyDone => apply execCatchUpCopyDone_frame
  case' checksumRoundDone => apply execChecksumRoundDone_frame
  case' mirrorEntry => apply execMirrorEntry_frame
  case' mirrorHoldRelease => apply execMirrorHoldRelease_frame
  case' oprAlu => apply execOprAlu_frame
  case' oprwWordOp => apply execOprwWordOp_frame
  case' multiply => apply execMultiply_frame
  case' divide => apply execDivide_frame
  case' bitop => apply execBitop_frame
  case' aluImmediate => apply execAluImmediate_frame
  case' shiftImmediate => apply execShiftImmediate_frame
  case' lui => apply execLui_frame
  case' insh => apply execInsh_frame
  case' lapc => apply execLapc_frame
  case' load => apply execLoad_frame
  case' store => apply execStore_frame
  case' ldx => apply execLdx_frame
  case' stx => apply execStx_frame
  case' fpOperation => apply execFpOperation_frame
  case' fma => apply execFma_frame
  case' branch => apply execBranch_frame
  case' jJl => apply execJJl_frame
  case' jlr => apply execJlr_frame
  case' cwr => apply execCwr_frame
  case' cww => apply execCww_frame
  case' cws => apply execCws_frame
  case' cwc => apply execCwc_frame
  case' fence => apply execFence_frame
  case' fenceI => apply execFenceI_frame
  case' eret => apply execEret_frame
  case' wfi => apply execWfi_frame
  case' breakInstr => apply execBreakInstr_frame
  case' cacheInvalidate => apply execCacheInvalidate_frame
  case' syscall => apply execSyscall_frame
  case' impreciseBuserr => apply execImpreciseBuserr_frame
  case' combiningBufferTimeout => apply execCombiningBufferTimeout_frame
  case' interruptSourceAssert => apply execInterruptSourceAssert_frame
  case' interruptEntry => apply execInterruptEntry_frame
  case' licEoiWrite => apply execLicEoiWrite_frame
  case' licSwsetWrite => apply execLicSwsetWrite_frame
  case' registerWrite => apply execRegisterWrite_frame
  case' tick => apply execTick_frame
  case' latchEnd => apply execLatchEnd_frame
  case' gapWarn => apply execGapWarn_frame
  case' gapStart => apply execGapStart_frame
  case' cysQuietWrite => apply execCysQuietWrite_frame
  case' cysDoneWrite => apply execCysDoneWrite_frame
  case' commitEnd => apply execCommitEnd_frame
  case' postingEnd => apply execPostingEnd_frame
  case' coneOverrun => apply execConeOverrun_frame
  case' coneStall => apply execConeStall_frame
  case' taskReturn => apply execTaskReturn_frame
  case' syscallEvent => apply execSyscallEvent_frame
  case' syscallNettime => apply execSyscallNettime_frame
  case' syscallNocommit => apply execSyscallNocommit_frame
  case' syscallFaultclr => apply execSyscallFaultclr_frame
  case' ltmTimerStart => apply execLtmTimerStart_frame
  case' ltmTimerExpiry => apply execLtmTimerExpiry_frame
  case' imageStage => apply execImageStage_frame
  case' imageDiscard => apply execImageDiscard_frame
  case' olcSwitchRequest => apply execOlcSwitchRequest_frame
  case' olcSwitch => apply execOlcSwitch_frame
  case' olcTimeout => apply execOlcTimeout_frame
  case' refLost => apply execRefLost_frame
  case' sourceValid => apply execSourceValid_frame
  case' rampStep => apply execRampStep_frame
  case' monTrip => apply execMonTrip_frame
  case' clockEnableApply => apply execClockEnableApply_frame
  case' fmStart => apply execFmStart_frame
  case' fmDone => apply execFmDone_frame
  case' ctuTimensRead => apply execCtuTimensRead_frame
  case' ctuFrclRead => apply execCtuFrclRead_frame
  case' ctuBerrlRead => apply execCtuBerrlRead_frame
  case' cysTicklRead => apply execCysTicklRead_frame
  case' ltmElaplRead => apply execLtmElaplRead_frame
  case' ctuAdjStep => apply execCtuAdjStep_frame
  case' ctuAdjSlew => apply execCtuAdjSlew_frame
  case' slewDone => apply execSlewDone_frame
  case' ctuRateWrite => apply execCtuRateWrite_frame
  case' ebThresholdCrossed => apply execEbThresholdCrossed_frame
  case' announceReceived => apply execAnnounceReceived_frame
  case' syncReceived => apply execSyncReceived_frame
  case' followUpReceived => apply execFollowUpReceived_frame
  case' syncTimeout => apply execSyncTimeout_frame
  case' syncIntervalExpiry => apply execSyncIntervalExpiry_frame
  case' pdelayReqInterval => apply execPdelayReqInterval_frame
  case' pdelayReqReceived => apply execPdelayReqReceived_frame
  case' pdelayRespReceived => apply execPdelayRespReceived_frame
  case' tcForward => apply execTcForward_frame
  case' bankSyncFrameSend => apply execBankSyncFrameSend_frame
  case' bankSyncPulse => apply execBankSyncPulse_frame
  case' fbxOutWrite => apply execFbxOutWrite_frame
  case' fbxFltclrWrite => apply execFbxFltclrWrite_frame
  case' fbxEvt0Read => apply execFbxEvt0Read_frame
  case' filteredStateChange => apply execFilteredStateChange_frame
  case' discrepancyTimeout => apply execDiscrepancyTimeout_frame
  case' comparatorInversion => apply execComparatorInversion_frame
  case' switchSenseFault => apply execSwitchSenseFault_frame
  case' gateSetDisagree => apply execGateSetDisagree_frame
  case' readbackFault => apply execReadbackFault_frame
  case' darkTestStart => apply execDarkTestStart_frame
  case' darkPulseEnd => apply execDarkPulseEnd_frame
  case' overload => apply execOverload_frame
  case' bankOverload => apply execBankOverload_frame
  case' bankTimeout => apply execBankTimeout_frame
  case' syncLost => apply execSyncLost_frame
  case' supplyState => apply execSupplyState_frame
  case' glazePost => apply execGlazePost_frame
  case' glazeLaunch => apply execGlazeLaunch_frame
  case' macrocycleStart => apply execMacrocycleStart_frame
  case' slotStart => apply execSlotStart_frame
  case' xenexFrameReceived => apply execXenexFrameReceived_frame
  case' slotComplete => apply execSlotComplete_frame
  case' cycleStartReceived => apply execCycleStartReceived_frame
  case' xenexSilenceTimeout => apply execXenexSilenceTimeout_frame
  case' contendDelayEnd => apply execContendDelayEnd_frame
  case' coldstartEnd => apply execColdstartEnd_frame
  case' xnCollision => apply execXnCollision_frame
  case' xnbTakeover => apply execXnbTakeover_frame
  case' xnbRelease => apply execXnbRelease_frame
  case' claimReceived => apply execClaimReceived_frame
  case' acycRespReceived => apply execAcycRespReceived_frame
  case' acycTimeout => apply execAcycTimeout_frame
  case' gatewayRead => apply execGatewayRead_frame
  case' gatewayWrite => apply execGatewayWrite_frame
  case' heartbeatStrobe => apply execHeartbeatStrobe_frame
  case' heartbeatReceived => apply execHeartbeatReceived_frame
  case' heartbeatMiss => apply execHeartbeatMiss_frame
  case' twinFaultReceived => apply execTwinFaultReceived_frame
  case' takeoverGateRelease => apply execTakeoverGateRelease_frame
  case' twinRequestedReset => apply execTwinRequestedReset_frame
  case' twinInputFrame => apply execTwinInputFrame_frame
  case' twinRxframe => apply execTwinRxframe_frame
  case' twinTimeFrame => apply execTwinTimeFrame_frame
  case' twinCheckFrame => apply execTwinCheckFrame_frame
  case' twinHealthFrame => apply execTwinHealthFrame_frame
  case' twinCraze => apply execTwinCraze_frame
  case' twinCmdRevertReq => apply execTwinCmdRevertReq_frame
  case' twinCmdHandover => apply execTwinCmdHandover_frame
  case' twinCmdHandoverAck => apply execTwinCmdHandoverAck_frame
  case' handoverHoldChange => apply execHandoverHoldChange_frame
  case' twinCmdOlcSwitch => apply execTwinCmdOlcSwitch_frame
  case' twinCmdIntegStart => apply execTwinCmdIntegStart_frame
  case' twinLatencyDone => apply execTwinLatencyDone_frame
  case' twinPageFrame => apply execTwinPageFrame_frame
  case' twinFwdFrame => apply execTwinFwdFrame_frame
  case' twinCopyDone => apply execTwinCopyDone_frame
  case' twinChecksumDone => apply execTwinChecksumDone_frame
  case' twinCmdJoin => apply execTwinCmdJoin_frame
  case' twinStaterecFrame => apply execTwinStaterecFrame_frame
  case' twinIntegRetry => apply execTwinIntegRetry_frame
  case' twinPeerIntegratingTimeout => apply execTwinPeerIntegratingTimeout_frame
  case' twinPeerSilentTimeout => apply execTwinPeerSilentTimeout_frame
  case' revertHoldExpiry => apply execRevertHoldExpiry_frame
  case' twinFwdHoldRelease => apply execTwinFwdHoldRelease_frame
  case' switchFrameReceived => apply execSwitchFrameReceived_frame
  case' internalPortReceive => apply execInternalPortReceive_frame
  case' receiveSlotWrite => apply execReceiveSlotWrite_frame
  case' lncTxSeqWrite => apply execLncTxSeqWrite_frame
  case' linkChange => apply execLinkChange_frame
  case' prpFrameReceived => apply execPrpFrameReceived_frame
  case' prpSupervisionInterval => apply execPrpSupervisionInterval_frame
  case' prpLanFail => apply execPrpLanFail_frame
  case' gdpRead => apply execGdpRead_frame
  case' gdpWrite => apply execGdpWrite_frame
  case' gdpOpen => apply execGdpOpen_frame
  case' gdpClose => apply execGdpClose_frame
  case' gdpWake => apply execGdpWake_frame
  case' gdpSessionIdleTimeout => apply execGdpSessionIdleTimeout_frame
  case' keyxChallenge => apply execKeyxChallenge_frame
  case' keyxResponse => apply execKeyxResponse_frame
  case' keyxLockoutEnd => apply execKeyxLockoutEnd_frame
  case' maintenanceKeyWrite => apply execMaintenanceKeyWrite_frame
  case' usdoTransfer => apply execUsdoTransfer_frame
  case' usdoTimeout => apply execUsdoTimeout_frame
  case' safetyWrite => apply execSafetyWrite_frame
  case' klmVerdict7Write => apply execKlmVerdict7Write_frame
  case' safetyReserve => apply execSafetyReserve_frame
  case' safetyCommit => apply execSafetyCommit_frame
  case' safetyTimeout => apply execSafetyTimeout_frame
  case' safetyValueFromActive => apply execSafetyValueFromActive_frame
  case' debugHalt => apply execDebugHalt_frame
  case' debugRun => apply execDebugRun_frame
  case' debugStep => apply execDebugStep_frame
  case' debugRegisterAccess => apply execDebugRegisterAccess_frame
  case' debugMemoryAccess => apply execDebugMemoryAccess_frame
  case' debugBreakpointHit => apply execDebugBreakpointHit_frame
  case' fwBlock => apply execFwBlock_frame
  case' appImageBlock => apply execAppImageBlock_frame
  case' scheduleTableBlock => apply execScheduleTableBlock_frame
  case' transferAbandonTimeout => apply execTransferAbandonTimeout_frame
  case' flashSectorErased => apply execFlashSectorErased_frame
  case' fwActivate => apply execFwActivate_frame
  case' fwRevert => apply execFwRevert_frame
  case' fwCancelTransfer => apply execFwCancelTransfer_frame
  case' fwCancelActivation => apply execFwCancelActivation_frame
  case' recorderRead => apply execRecorderRead_frame
  case' eventSubmit => apply execEventSubmit_frame
  case' recEv3Write => apply execRecEv3Write_frame
  case' recordWrite => apply execRecordWrite_frame
  case' headRewrite => apply execHeadRewrite_frame
  case' optimeSave => apply execOptimeSave_frame
  case' tokenRefill => apply execTokenRefill_frame
  case' postedWriteComplete => apply execPostedWriteComplete_frame
  case' brgPwerr => apply execBrgPwerr_frame
  case' farSideReadResponse => apply execFarSideReadResponse_frame
  case' farSideReadTimeout => apply execFarSideReadTimeout_frame
  case' brgTagFree => apply execBrgTagFree_frame
  case' brgSemExpired => apply execBrgSemExpired_frame
  case' prefetchExpiry => apply execPrefetchExpiry_frame
  case' brgErr0Read => apply execBrgErr0Read_frame
  case' brgSyncRead => apply execBrgSyncRead_frame
  case' brgRegionWrite => apply execBrgRegionWrite_frame
  case' brgIntstatClear => apply execBrgIntstatClear_frame
  case' forwardedInterruptEdge => apply execForwardedInterruptEdge_frame
  case' cfdTpdotrigWrite => apply execCfdTpdotrigWrite_frame
  case' tpdoEventTimer => apply execTpdoEventTimer_frame
  case' rpdoReceived => apply execRpdoReceived_frame
  case' canBusoff => apply execCanBusoff_frame
  case' canBusoffRecovery => apply execCanBusoffRecovery_frame
  case' nmtCommand => apply execNmtCommand_frame
  case' canProducerHeartbeat => apply execCanProducerHeartbeat_frame
  case' canHbLost => apply execCanHbLost_frame
  case' counterOverflow => apply execCounterOverflow_frame
  case' lpcCntnlRead => apply execLpcCntnlRead_frame
  case' lpcCntnlWrite => apply execLpcCntnlWrite_frame
  case' bandwidthWindowEnd => apply execBandwidthWindowEnd_frame
  case' gapDump => apply execGapDump_frame
  case' periodicDump => apply execPeriodicDump_frame
  case' illegalInstruction => apply execIllegalInstruction_frame
  case' fetchFault => apply execFetchFault_frame
  case' sourceInvalid => apply execSourceInvalid_frame
  case' emberfailClear => apply execEmberfailClear_frame
  case' announceReceiptTimeout => apply execAnnounceReceiptTimeout_frame
  case' readbackAgrees => apply execReadbackAgrees_frame
  case' carrierDetected => apply execCarrierDetected_frame
  case' timeFrameInterval => apply execTimeFrameInterval_frame
  case' healthFrameInterval => apply execHealthFrameInterval_frame
  case' crazeFlagClear => apply execCrazeFlagClear_frame
  case' twpPulseError => apply execTwpPulseError_frame
  case' standbyImageStage => apply execStandbyImageStage_frame
  case' macAddressAgeing => apply execMacAddressAgeing_frame
  case' canHeartbeatReceived => apply execCanHeartbeatReceived_frame
  all_goals first | exact SameBut.refl _ _ | exact List.elem_iff.1 rfl

/-! ### The state a command starts from -/

theorem footprint_pending (c : Instr) (s : State) : (footprint c s).1.pending = s.pending := by
  unfold footprint
  split <;> simp only [advance_pending]

theorem advance_sameBut (n : Nat) (s : State) : SameBut timeParts s (advance n s) := by
  obtain ⟨hpending, hsame⟩ := advance_fr n s
  exact ⟨hpending, fun p hp => hsame p fun hq => hp ((by decide : ∀ q ∈ _, q ∈ timeParts) p hq)⟩

/-! ### Steps -/

theorem step_cons (c : Instr) (s : State) : step { s with pending := c :: s.pending } = exec c s := rfl

theorem step_keeps {s t : State} (h : step s = .next t) : Keeps s t := by
  unfold step at h
  split at h
  · cases h
    exact advance_keeps 1 s (Keeps.refl s)
  · next c rest hq =>
    have hk := exec_keeps c { s with pending := rest } (Keeps.refl _)
    rw [h] at hk
    exact ⟨hk.mem, hk.fifo⟩

/-- Settles O1: both clauses are the two branches of `step`. -/
theorem stepRunsFrontCommand : Obligations.StepRunsFrontCommand := by
  refine ⟨fun s c => step_cons c s, fun s h => ?_⟩
  unfold step
  rw [h]

/-- Settles O59: every meaning keeps the memories canonical and the FIFO bounded, and so does the passing of time. -/
theorem invariantOfEveryStep : Obligations.InvariantOfEveryStep := fun s t h => by
  have hk := step_keeps h
  exact ⟨hk.mem, by simpa only [State.fifoFits, decide_eq_true_iff] using hk.fifo⟩

/-- Settles O58, from the total, the frame and the footprint of each command. -/
theorem frameOfEveryCommand : Obligations.FrameOfEveryCommand := by
  refine ⟨fun c s => ?_, advance_sameBut⟩
  obtain ⟨t, ht⟩ := exec_total c s
  have hf := exec_frame c s
  rw [ht] at hf
  exact ⟨t, ht, hf.1.trans (footprint_pending c s), hf⟩

end Sys2Proof.Machine
end

section
/-! PROOFS. What recording an event leaves of the recorder, and which operations do no more to it than record
(R410, R413, R415). -/

namespace Sys2Proof.Machine

open Sys2Proof

/-! ### A module reset in its parts -/

/-- The cause that a module reset of a kind enters FIRING with (R472). -/
def resetCause (kind : Nat) : Nat := if kind = 5 then 0 else 0x0062

/-- The module as a reset leaves it before FIRING begins (R472, R473, R475). -/
def blocksReset (kind detail : Nat) (s : State) : State :=
  setPwr (fun p =>
    { p with rstKind := kind, rstDetail := detail, rstPrev := s.mod.state.code, resets := inc32 p.resets, retained := true
             resetsOfKind := if h : kind - 1 < 7 then vmod p.resetsOfKind ⟨kind - 1, h⟩ inc32 else p.resetsOfKind
             heldWake := [], bankedReached := false })
    (blocksFresh kind (banksReset (leaveForReset (resetCause kind) (abandonAll s))))

theorem moduleReset_eq (kind detail : Nat) (s : State) : moduleReset kind detail s =
    setStart (fun _ => { clocksUp := true }) (enterFiring (resetCause kind)
      (setStart (fun _ => { clocksUp := true }) (blocksReset kind detail s))) := by
  simp only [moduleReset, setStart, blocksReset, resetCause]

/-! ### Recording an event -/

/-- The records, the operating time and the count of power cycles: no event changes them. -/
def Recorder.keptPart (r : Recorder) : List Host.Cell × Nat × Nat := (r.mram, r.optime, r.pwrcyc)

theorem acceptPlain_keptPart (r : Recorder) (e : RecEntry) : (acceptPlain r e).1.keptPart = r.keptPart := by
  unfold acceptPlain
  split
  · split
    · rfl
    · split <;> rfl
  · split <;> rfl
  · rfl

theorem acceptPrivileged_keptPart (r : Recorder) (i : Fin 32) (e : RecEntry) :
    (acceptPrivileged r i e).1.keptPart = r.keptPart := by
  unfold acceptPrivileged
  split
  · dsimp only
    split
    · rfl
    · split <;> rfl
  · rfl

theorem submitEvent_keptPart (r : Recorder) (src m c p0 p1 p2 : Nat) :
    (submitEvent r src m c p0 p1 p2).1.keptPart = r.keptPart := by
  have hevent (e : RecEntry) : (acceptEvent r e).1.keptPart = r.keptPart := by
    unfold acceptEvent
    split
    · exact acceptPrivileged_keptPart r _ e
    · exact acceptPlain_keptPart r e
  unfold submitEvent
  split
  · exact hevent _
  · exact hevent _

/-- Recorded or not, `t` has the records, the operating time and the power cycles of `s`. -/
def RecordsKept (s t : State) : Prop := t.recd.keptPart = s.recd.keptPart

theorem RecordsKept.refl (s : State) : RecordsKept s s := rfl

theorem RecordsKept.of_recd {s t : State} (h : t.recd = s.recd) : RecordsKept s t := congrArg Recorder.keptPart h

theorem RecordsKept.congr {s t u : State} (hu : u.recd = t.recd) (h : RecordsKept s t) : RecordsKept s u :=
  Eq.trans (congrArg Recorder.keptPart hu) h

theorem RecordsKept.trans {s t u : State} (h : RecordsKept s t) (g : RecordsKept t u) : RecordsKept s u :=
  Eq.trans g h

theorem RecordsKept.mram {s t : State} (h : RecordsKept s t) : t.recd.mram = s.recd.mram := congrArg (·.1) h

theorem RecordsKept.optime {s t : State} (h : RecordsKept s t) : t.recd.optime = s.recd.optime := congrArg (·.2.1) h

theorem RecordsKept.pwrcyc {s t : State} (h : RecordsKept s t) : t.recd.pwrcyc = s.recd.pwrcyc := congrArg (·.2.2) h

theorem RecordsKept.ite {s t u : State} {c : Prop} [Decidable c] (h : RecordsKept s t) (g : RecordsKept s u) :
    RecordsKept s (if c then t else u) := by
  split
  · exact h
  · exact g

theorem RecordsKept.foldl {α : Type} {f : State → α → State} (hf : ∀ t x, RecordsKept t (f t x)) (l : List α)
    (s : State) : RecordsKept s (l.foldl f s) :=
  List.foldlRecOn l f (RecordsKept.refl s) fun t h x _ => h.trans (hf t x)

theorem RecordsKept.record {s t : State} (h : RecordsKept s t) (src code p0 p1 p2 : Nat) :
    RecordsKept s (record src code p0 p1 p2 t) := by
  refine Eq.trans ?_ h
  rw [record_recd]
  exact submitEvent_keptPart ..

theorem RecordsKept.raise {s t : State} (h : RecordsKept s t) (n : Nat) : RecordsKept s (raise n t) :=
  h.trans (.of_recd (raise_recd n t))

theorem RecordsKept.setChan {s t : State} (h : RecordsKept s t) (ch : Fin 48) (f : Channel → Channel) :
    RecordsKept s (setChan ch f t) := h

theorem RecordsKept.reply {s t : State} (h : RecordsKept s t) (b : Session) (a : Answer) :
    RecordsKept s (reply b a t) := by
  refine h.trans (.of_recd ?_)
  unfold Machine.reply replyOnly
  split <;> simp

theorem deliverAll_recd (l : List Nat) (u : State) : (l.foldl (fun v k => deliver k v) u).recd = u.recd := by
  induction l generalizing u with
  | nil => rfl
  | cons k l ih => exact (ih _).trans (deliver_recd k u)

/-! ### Operations that do no more than record -/

section
variable {s t : State} (h : RecordsKept s t)
include h

theorem RecordsKept.twinRole (r : TwinRole) (cause : Nat) : RecordsKept s (twinRole r cause t) := by
  refine .ite h (.raise (.record ?_ ..) 256)
  exact h

theorem RecordsKept.twinFiring : RecordsKept s (twinFiring t) := .ite (h.twinRole ..) h

theorem RecordsKept.setModState (m : ModState) (cause : Nat) : RecordsKept s (setModState m cause t) := by
  refine .ite h (.record ?_ ..)
  exact h

theorem RecordsKept.setVote (m : VoteMode) (b : Bool) (cause : Nat) : RecordsKept s (setVote m b cause t) := by
  refine .ite h (.raise (.record ?_ ..) 34)
  exact h

theorem RecordsKept.flushQueue (ch : Fin 48) (reason : Nat) : RecordsKept s (flushQueue ch reason t) :=
  .ite h (.raise (.record (h.setChan ch _) ..) _)

theorem RecordsKept.applySafe (ch : Fin 48) (reason : Nat) (next : ChanState) :
    RecordsKept s (applySafe ch reason next t) := by
  unfold Machine.applySafe
  refine .setChan (.flushQueue (.ite h ?_) ch reason) ch _
  exact h

theorem RecordsKept.banksSafe (reason : Nat) : RecordsKept s (banksSafe reason t) :=
  h.trans (.foldl (fun u ch => .ite ((RecordsKept.refl u).applySafe ch reason .locked) (.refl u)) _ t)

theorem RecordsKept.banksReset : RecordsKept s (banksReset t) := by
  refine h.trans (.foldl (fun u ch => ?_) _ t)
  exact .ite (.setChan (.applySafe (.refl u) ch 1 .locked) ch _) (.setChan (.refl u) ch _)

theorem RecordsKept.abandonAll : RecordsKept s (abandonAll t) := by
  have hfw (u : State) (h : RecordsKept s u) : RecordsKept s (abandonFw u) := by
    unfold abandonFw
    split
    · exact h
    · refine .record ?_ ..
      exact h
  have happ (u : State) (h : RecordsKept s u) : RecordsKept s (abandonApp u) := by
    unfold abandonApp
    split
    · exact h
    · refine .record ?_ ..
      exact h
  have hsched (u : State) (h : RecordsKept s u) : RecordsKept s (abandonSched u) := by
    unfold abandonSched
    split
    · exact h
    · refine .record ?_ ..
      exact h
  exact hsched _ (happ _ (hfw _ h))

theorem RecordsKept.twinLeave (cause new : Nat) : RecordsKept s (twinLeave cause new t) := by
  have hfault : (twinFault cause new t).recd = t.recd := by
    unfold twinFault twinSend
    split
    · rfl
    · split <;> rfl
  have hend : RecordsKept s (twinEnd cause new t) := by
    refine .twinRole ?_ .alone cause
    exact h.trans (.of_recd hfault)
  exact hend

theorem RecordsKept.busLeave : RecordsKept s (busLeave t) := by
  have hrole : RecordsKept s (xnRole .off 0 t) := by
    refine .ite h (.raise (.record ?_ ..) 199)
    exact h
  unfold Machine.busLeave acycAbort
  dsimp only
  split
  · exact hrole
  · unfold acycEnd
    refine .reply (.raise (.congr (setXn_recd ..) (.record ?_ ..)) 202) _ _
    exact hrole

theorem RecordsKept.klmDiscard : RecordsKept s (klmDiscard t) := by
  unfold Machine.klmDiscard klmRefuse
  split
  · exact h
  · dsimp only
    split
    · refine .reply (.record ?_ ..) _ _
      exact h
    · refine .record ?_ ..
      exact h

theorem RecordsKept.rotStop : RecordsKept s (rotStop t) := by
  have hdrop : (rewedgeDrop t).recd = t.recd := by
    unfold rewedgeDrop
    split
    · rfl
    · dsimp only
      rw [deliverAll_recd]
      split <;> rfl
  have habort (l : Fin 4) : RecordsKept s (wedgeAbort l 3 0 t) := by
    refine .raise (.record ?_ ..) 53
    exact h.trans (.of_recd hdrop)
  unfold Machine.rotStop
  dsimp only
  split
  · exact habort _
  · exact h

theorem RecordsKept.leaveRun (reason cause new : Nat) : RecordsKept s (leaveRun reason cause new t) := by
  have hstop : RecordsKept s (cysStop (Machine.twinLeave cause new t)) := h.twinLeave cause new
  have hsafe := (hstop.busLeave.klmDiscard.banksSafe reason).rotStop
  unfold Machine.leaveRun
  refine RecordsKept.setVote ?_ .none false cause
  refine RecordsKept.congr ?_ hsafe
  simp only [lanesLeave, mapLanes_recd]

theorem RecordsKept.enterFiring (cause : Nat) : RecordsKept s (enterFiring cause t) := by
  have hstate := (h.record 0 0x0062 t.pwr.rstKind t.pwr.rstDetail t.pwr.rstPrev).setModState .firing cause
  unfold Machine.enterFiring
  refine .twinFiring ?_
  exact hstate

theorem RecordsKept.leaveForReset (cause : Nat) : RecordsKept s (leaveForReset cause t) := by
  refine .ite (h.leaveRun ..) (.setVote ?_ ..)
  exact h

theorem RecordsKept.moduleReset (kind detail : Nat) : RecordsKept s (moduleReset kind detail t) := by
  have hreset : RecordsKept s (blocksReset kind detail t) := by
    refine RecordsKept.congr ?_ (RecordsKept.leaveForReset h.abandonAll (resetCause kind)).banksReset
    simp only [blocksReset, setPwr_recd, blocksFresh]
  rw [moduleReset_eq]
  exact .congr (setStart_recd ..) (.enterFiring (.congr (setStart_recd ..) hreset) _)

end

end Sys2Proof.Machine
end

section
/-! PROOFS. O52, O55, O56 and O57: power-on, trials, the supply, and the domains (R413, R449-R453, R464-R473, R484,
R497). -/

namespace Sys2Proof.Machine

open Sys2Proof

/-! ### What the shared operations of power leave alone -/

theorem SameBut.pwr {P : List Part} {s t : State} (h : SameBut P s t) (hp : Part.pwr ∉ P) : t.pwr = s.pwr := h.2 .pwr hp

theorem SameBut.boot {P : List Part} {s t : State} (h : SameBut P s t) (hp : Part.boot ∉ P) : t.boot = s.boot :=
  h.2 .boot hp

theorem SameBut.kiln {P : List Part} {s t : State} (h : SameBut P s t) (hp : Part.kiln ∉ P) : t.kiln = s.kiln :=
  h.2 .kiln hp

@[simp] theorem setPwr_pwr (f : Power → Power) (s : State) : (setPwr f s).pwr = f s.pwr := rfl

@[simp] theorem setBoot_boot (f : Boot → Boot) (s : State) : (setBoot f s).boot = f s.boot := rfl

@[simp] theorem setKiln_kiln (f : Kiln → Kiln) (s : State) : (setKiln f s).kiln = f s.kiln := rfl

@[simp] theorem setStart_start (f : StartProgress → StartProgress) (s : State) :
    (setStart f s).mod.start = f s.mod.start := rfl

@[simp] theorem setStart_state (f : StartProgress → StartProgress) (s : State) :
    (setStart f s).mod.state = s.mod.state := rfl

theorem enterSafeHold_rest (cause : Nat) (s : State) :
    SameBut [.mod, .vrc, .rot, .cys, .banks, .chans, .xn, .recd, .kiln, .twl, .ints, .held, .noted, .lic] s
      (enterSafeHold cause s) := by
  apply enterSafeHold_frame <;> first | exact SameBut.refl _ _ | exact List.elem_iff.1 rfl

theorem busLeave_rest (s : State) : SameBut [.xn, .recd, .kiln, .ints, .held, .noted, .lic] s (busLeave s) := by
  apply busLeave_frame <;> first | exact SameBut.refl _ _ | exact List.elem_iff.1 rfl

theorem abandonAll_rest (s : State) : SameBut [.recd, .boot, .noted] s (abandonAll s) := by
  apply abandonAll_frame <;> first | exact SameBut.refl _ _ | exact List.elem_iff.1 rfl

theorem leaveForReset_rest (cause : Nat) (s : State) :
    SameBut [.vrc, .rot, .cys, .banks, .chans, .xn, .recd, .kiln, .twl, .ints, .held, .noted, .lic] s
      (leaveForReset cause s) := by
  apply leaveForReset_frame <;> first | exact SameBut.refl _ _ | exact List.elem_iff.1 rfl

theorem abandonAll_boot (s : State) :
    (abandonAll s).boot.banks = s.boot.banks ∧ (abandonAll s).boot.fallback = s.boot.fallback := by
  have hfw (t : State) : (abandonFw t).boot.banks = t.boot.banks ∧ (abandonFw t).boot.fallback = t.boot.fallback := by
    unfold abandonFw
    split <;> simp
  have happ (t : State) : (abandonApp t).boot.banks = t.boot.banks ∧ (abandonApp t).boot.fallback = t.boot.fallback := by
    unfold abandonApp
    split <;> simp
  have hsched (t : State) :
      (abandonSched t).boot.banks = t.boot.banks ∧ (abandonSched t).boot.fallback = t.boot.fallback := by
    unfold abandonSched
    split <;> simp
  unfold abandonAll
  rw [(hsched _).1, (happ _).1, (hfw s).1, (hsched _).2, (happ _).2, (hfw s).2]
  exact ⟨rfl, rfl⟩

theorem enterMaintenance_entered (s : State) (h : isRunOrWide s = false) :
    (enterMaintenance s).mod.state = .maintenance ∧ (enterMaintenance s).mod.command = 0 ∧
      (enterMaintenance s).vrc.mode = .none := by
  simp [enterMaintenance, h, quietState]

theorem domainsOff_mod (s : State) : (domainsOff s).mod = s.mod := (busLeave_rest s).mod (by decide)

theorem domainsOff_pwr (s : State) : (domainsOff s).pwr = { s.pwr with on := s.pwr.on &&& 0x441 } := by
  simp only [domainsOff]
  rw [(busLeave_rest s).pwr (by decide)]

theorem isRun_congr {s t : State} (h : t.mod = s.mod) : isRun t = isRun s := by
  simp only [isRun, h]

theorem isRun_state {s : State} (h : isRun s = true) : s.mod.state = .run2oo3 ∨ s.mod.state = .run2oo2 := by
  simpa only [isRun, Bool.or_eq_true, decide_eq_true_eq] using h

/-- From a RUN state the domains go off in SAFE-HOLD (R469, R484). -/
theorem powerDown_run {cause : Nat} {s : State} (h : isRun s = true) :
    (powerDown cause s).mod.state = .safeHold ∧ (powerDown cause s).mod.cause = cause ∧
      (powerDown cause s).pwr = { s.pwr with on := s.pwr.on &&& 0x441 } := by
  have hfiring : s.mod.state ≠ .firing := by rcases isRun_state h with h | h <;> simp [h]
  have hheld : s.mod.state ≠ .safeHold := by rcases isRun_state h with h | h <;> simp [h]
  have hbanked : s.mod.state ≠ .banked := by rcases isRun_state h with h | h <;> simp [h]
  have hdown : powerDown cause s = domainsOff (enterSafeHold cause s) := by
    simp only [powerDown, hfiring, hheld, hbanked, or_self, if_false]
  obtain ⟨hstate, hcause, -⟩ := enterSafeHold_safeHeld cause s hheld
  rw [hdown, domainsOff_mod, domainsOff_pwr, (enterSafeHold_rest cause s).pwr (by decide)]
  exact ⟨hstate, hcause, rfl⟩

/-- What COLD keeps of the records, the parameters and the banks, and the kind of reset it notes (R469, R471). -/
theorem toCold_kept (kind detail : Nat) (s : State) :
    (toCold kind detail s).mod.state = .cold ∧ (toCold kind detail s).pwr.rstKind = kind ∧
      (toCold kind detail s).vrc.mode = .none ∧ (toCold kind detail s).recd.mram = s.recd.mram ∧
      (toCold kind detail s).kiln.params = s.kiln.params ∧ (toCold kind detail s).boot.banks = s.boot.banks := by
  refine ⟨rfl, rfl, rfl, rfl, rfl, ?_⟩
  exact (abandonAll_boot s).1

/-! ### The supply (R469-R471, R484) -/

theorem execPowerFailWarning_warns {v : BitVec 16} {s : State} (hcold : s.mod.state ≠ .cold) (hsup : s.pwr.supply = 0) :
    execPowerFailWarning v s = .next (setPwr (fun p =>
      { p with supply := 1, warnings := inc32 p.warnings, volt := v.toNat, lowest := v.toNat })
      { s with recd := { s.recd with savedOptime := s.recd.optime } }) :=
  if_neg (not_or.2 ⟨hcold, not_not.2 hsup⟩)

theorem execPowerFail_run {dt : Nat} {v : BitVec 16} {s : State} (hrun : isRun s = true) (hsup : s.pwr.supply = 1) :
    ∃ u, execPowerFail dt v s = .next (powerDown 0x0061 u) ∧ isRun u = true ∧ u.pwr.supply = 2 ∧ u.pwr.on = s.pwr.on := by
  have hcold : s.mod.state ≠ .cold := by rcases isRun_state hrun with h | h <;> simp [h]
  have hbanked : s.mod.state ≠ .banked := by rcases isRun_state hrun with h | h <;> simp [h]
  refine ⟨_, if_neg ?_, (isRun_congr ?_).trans hrun, ?_, ?_⟩ <;> simp [hcold, hbanked, hsup]

theorem execSupplyReturn_dip {us : BitVec 32} {v : BitVec 16} {s : State} (hrun : isRun s = true)
    (hsup : s.pwr.supply = 1) : execSupplyReturn us v s = .next (supplyDip us.toNat v.toNat s) := by
  rcases isRun_state hrun with h | h <;> simp [execSupplyReturn, h, hsup]

theorem execModuleWithdrawn_run {s : State} (hrun : isRun s = true) :
    ∃ u, execModuleWithdrawn s = .next (powerDown 0x0067 u) ∧ isRun u = true ∧ u.pwr.withdrawn = true ∧
      u.pwr.withdrawals = inc32 s.pwr.withdrawals := by
  have hcold : s.mod.state ≠ .cold := by rcases isRun_state hrun with h | h <;> simp [h]
  refine ⟨_, if_neg hcold, (isRun_congr ?_).trans hrun, ?_, ?_⟩ <;> simp

/-- Settles O56: each command of the supply is a saved OPTIME, `powerDown`, `supplyDip` or `toCold`. -/
theorem supplyFailsAndReturns : Obligations.SupplyFailsAndReturns := by
  unfold Obligations.SupplyFailsAndReturns
  refine ⟨fun s v hcold hsup => ?_, fun s dt v hrun hsup => ?_, fun s us v hrun hsup => ?_, fun s us v hstate hsup => ?_,
    fun s hcold hsup => ?_, fun s hcold => ?_, fun s hrun => ?_⟩
  · exact ⟨_, execPowerFailWarning_warns hcold hsup, rfl, rfl, rfl, rfl, rfl⟩
  · obtain ⟨u, hexec, hu, hsupply, hon⟩ := execPowerFail_run (dt := dt) (v := v) hrun hsup
    obtain ⟨hstate, hcause, hpwr⟩ := powerDown_run (cause := 0x0061) hu
    exact ⟨_, hexec, hstate, hcause, by rw [hpwr]; exact hsupply, by rw [hpwr, ← hon]⟩
  · refine ⟨_, execSupplyReturn_dip hrun hsup, ?_⟩
    simp [supplyDip]
  · refine ⟨_, ?_, (toCold_kept 2 1 s).1, (toCold_kept 2 1 s).2.1⟩
    simp [exec, execSupplyReturn, hstate, hsup]
  · obtain ⟨hstate, hkind, hmode, hmram, hparams, hbanks⟩ := toCold_kept 1 0 s
    exact ⟨_, if_pos ⟨hcold, .inl hsup⟩, hstate, hkind, hmode, hmram, hparams, hbanks⟩
  · obtain ⟨hstate, hkind, -, hmram, -⟩ := toCold_kept 2 2 s
    refine ⟨toCold 2 2 s, ?_, hstate, hkind, rfl, rfl, hmram⟩
    simp [exec, execBrownOutReset, hcold]
  · obtain ⟨u, hexec, hu, hwithdrawn, hcount⟩ := execModuleWithdrawn_run hrun
    obtain ⟨hstate, hcause, hpwr⟩ := powerDown_run (cause := 0x0067) hu
    exact ⟨_, hexec, hstate, hcause, by rw [hpwr]; exact hwithdrawn, by rw [hpwr]; exact hcount⟩

/-! ### Domains, temperature and BANKED (R465-R468, R497) -/

theorem execDomainFault_canFd {mv : BitVec 32} {s : State} (hon : s.pwr.on.getLsbD 9 = true)
    (hcold : s.mod.state ≠ .cold) : ∃ u, execDomainFault 9 mv s = .next { u with cfd := {} } ∧
      u = setPwr (fun p => { p with on := putBit p.on 9 false, railFault := putBit p.railFault 9 true })
        (record 0 0x0063 9 mv.toNat s.mod.state.code s) := by
  refine ⟨_, ?_, rfl⟩
  simp [execDomainFault, hon, hcold, blockLost]

/-- Power control with a measurement taken (R497). -/
def measured (v : BitVec 16) (p : Power) : Power :=
  { p with
    temp := v, hotRun := if 1200 ≤ v.toInt then p.hotRun + 1 else 0
    tempWarn := if 1050 ≤ v.toInt then true else if v.toInt ≤ 1000 then false else p.tempWarn
    tempTrip := p.tempTrip || decide (10 ≤ if 1200 ≤ v.toInt then p.hotRun + 1 else 0)
    hottest := if p.measured && decide (v.toInt ≤ p.hottest.toInt) then p.hottest else v
    measured := true, hotTenths := if 1050 ≤ v.toInt then p.hotTenths + 1 else p.hotTenths }

theorem execTempMeasurement_cool {v : BitVec 16} {s : State} (hcold : s.mod.state ≠ .cold) (hcool : v.toInt < 1050) :
    execTempMeasurement v s = .next (setPwr (measured v) s) := by
  have hwarm : ¬ 1200 ≤ v.toInt := by omega
  have hwarn : ¬ 1050 ≤ v.toInt := by omega
  have hnew : ((if v.toInt ≤ 1000 then false else s.pwr.tempWarn) && !s.pwr.tempWarn) = false := by
    split <;> simp
  have hpwr : measured v s.pwr = { s.pwr with
      temp := v, hotRun := 0, tempWarn := if v.toInt ≤ 1000 then false else s.pwr.tempWarn
      tempTrip := s.pwr.tempTrip || decide (10 ≤ 0)
      hottest := if s.pwr.measured && decide (v.toInt ≤ s.pwr.hottest.toInt) then s.pwr.hottest else v, measured := true } := by
    simp only [measured, hwarm, hwarn, if_false]
  simp only [execTempMeasurement, hcold, hwarm, hwarn, if_false, hnew, setPwr, hpwr]
  simp

theorem execTempMeasurement_tenth {v : BitVec 16} {s : State} (hrun : isRun s = true) (hhot : 1200 ≤ v.toInt)
    (hnine : s.pwr.hotRun = 9) : ∃ u, execTempMeasurement v s = .next (enterSafeHold 0x0069 u) ∧ u.mod = s.mod ∧
      u.pwr.tempTrip = true := by
  have hcold : s.mod.state ≠ .cold := by rcases isRun_state hrun with h | h <;> simp [h]
  have hwide : isRunOrWide s = true := by simp [isRunOrWide, hrun]
  refine ⟨record 0 0x0069 (int32 v.toInt) s.mod.state.code 0 (if !s.pwr.tempWarn then
    record 0 0x0068 (int32 v.toInt) s.mod.state.code 0 (setPwr (measured v) s) else setPwr (measured v) s), ?_, ?_, ?_⟩
  · have hwarn : 1050 ≤ v.toInt := by omega
    simp only [execTempMeasurement, setPwr, measured, hcold, hhot, hwarn, hnine, hwide, if_true, if_false]
    simp
  · rw [record_mod]
    split <;> simp
  · rw [record_pwr]
    split <;> simp [measured, hhot, hnine]

theorem execMaintenanceAtBoundary_service {dt : Nat} {s : State} (hcmd : s.mod.command = 1)
    (hstate : s.mod.state = .service) :
    execMaintenanceAtBoundary dt s = .next (enterMaintenance (advance dt s)) :=
  if_pos (by simp [hcmd, hstate, maintainable])

theorem linkSet_rest (p : Fin 4) (spd : Nat) (s : State) :
    SameBut [.clk, .tim, .recd, .lnc, .cpn, .ints, .held, .noted, .lic] s (linkSet p spd s) := by
  apply linkSet_frame <;> first | exact SameBut.refl _ _ | exact List.elem_iff.1 rfl

/-- A backbone link that is up goes to its low speed (R467). -/
def linkSlowed (p : Fin 4) (s : State) : State :=
  if (if h : p.val < 2 then s.lnc.spd[p.val] else 0) = 0 then s else linkSet p 1 s

theorem linkSlowed_rest (p : Fin 4) (s : State) : (linkSlowed p s).mod = s.mod ∧ (linkSlowed p s).pwr = s.pwr := by
  unfold linkSlowed
  generalize (if h : p.val < 2 then s.lnc.spd[p.val] else 0) = spd
  split
  · exact ⟨rfl, rfl⟩
  · exact ⟨(linkSet_rest p 1 s).mod (by decide), (linkSet_rest p 1 s).pwr (by decide)⟩

/-- The Banked power state is noted (R467). -/
def bankedNoted (s : State) : State :=
  record 0 0x0064 (s.recd.optime - s.pwr.bankedAt) 0 0 (setPwr (fun p => { p with bankedReached := true }) s)

/-- The first wake that was held is acted on (R467). -/
def wakeHeld (s : State) : State :=
  match s.pwr.heldWake with
  | [] => s
  | (c, x) :: _ => wakeNow c x s

theorem wakeHeld_none {s : State} (h : s.pwr.heldWake = []) : wakeHeld s = s := by
  unfold wakeHeld
  rw [h]

theorem execBankedPowerStateReached_eq {dt : Nat} {s : State} (hstate : s.mod.state = .banked)
    (hreach : s.pwr.bankedReached = false) : execBankedPowerStateReached dt s =
      .next (wakeHeld (bankedNoted (linkSlowed 1 (linkSlowed 0 (advance dt s))))) := by
  have hmatch (u : State) : (match u.pwr.heldWake with
      | [] => Host.Outcome.next u
      | (c, x) :: _ => .next (wakeNow c x u)) = (.next (wakeHeld u) : Out) := by
    unfold wakeHeld
    split <;> rfl
  exact (if_neg (by simp [hstate, hreach])).trans (hmatch (bankedNoted (linkSlowed 1 (linkSlowed 0 (advance dt s)))))

theorem execBankedPowerStateReached_idle {dt : Nat} {s : State} (hstate : s.mod.state = .banked)
    (hreach : s.pwr.bankedReached = false) (hheld : s.pwr.heldWake = []) :
    execBankedPowerStateReached dt s = .next (bankedNoted (linkSlowed 1 (linkSlowed 0 (advance dt s)))) := by
  rw [execBankedPowerStateReached_eq hstate hreach, wakeHeld_none]
  simp [bankedNoted, (linkSlowed_rest ..).2, hheld]

/-- Settles O57, from what each command does to the rails, the temperature and the module state. -/
theorem domainsTemperatureAndBanked : Obligations.DomainsTemperatureAndBanked := by
  unfold Obligations.DomainsTemperatureAndBanked
  refine ⟨fun s mv hon hcold => ?_, fun s v hcold hcool => ?_, fun s v hrun hhot hnine => ?_, fun s dt hcmd hstate => ?_,
    fun s dt hstate hreach hheld => ⟨_, execBankedPowerStateReached_idle hstate hreach hheld, ?_, ?_⟩,
    fun s c x hwake => ⟨fun hreach => ?_, fun hreach => ?_⟩, fun s p client hwake hport hlink hreach => ?_⟩
  · obtain ⟨u, hexec, rfl⟩ := execDomainFault_canFd (mv := mv) hon hcold
    refine ⟨_, hexec, ?_⟩
    simp
  · refine ⟨_, execTempMeasurement_cool hcold hcool, ?_⟩
    have hwarm : ¬ 1200 ≤ v.toInt := by omega
    have hwarn : ¬ 1050 ≤ v.toInt := by omega
    simp [measured, hwarm, hwarn]
  · obtain ⟨u, hexec, hmod, htrip⟩ := execTempMeasurement_tenth hrun hhot hnine
    have hheld : u.mod.state ≠ .safeHold := by rw [hmod]; rcases isRun_state hrun with h | h <;> simp [h]
    obtain ⟨hstate, hcause, -⟩ := enterSafeHold_safeHeld 0x0069 u hheld
    exact ⟨_, hexec, hstate, hcause, by rw [(enterSafeHold_rest 0x0069 u).pwr (by decide)]; exact htrip⟩
  · refine ⟨_, execMaintenanceAtBoundary_service hcmd hstate, enterMaintenance_entered _ ?_⟩
    simp [isRunOrWide, isRun, hstate]
  · simp [bankedNoted]
  · simp [bankedNoted, (linkSlowed_rest ..).1, hstate]
  · refine ⟨wakeNow c.val x s, ?_, moduleReset_firing 6 c.val _⟩
    simp [exec, execBankedWake, hwake, wake, hreach]
  · simp [exec, execBankedWake, hwake, wake, hreach, setPwr]
  · refine ⟨wakeNow 1 p.val (record 7 0x5008 p.val client.toNat 0 s), ?_, moduleReset_firing 6 1 _⟩
    have hup : (if h : p.val < 2 then s.lnc.spd[p.val] else 0) ≠ 0 := by rwa [dif_pos p.isLt]
    simp only [exec, execGdpWake, hwake, hport, wake, record_pwr, hreach]
    exact if_pos ⟨trivial, trivial, hup⟩

/-! ### Module resets, trials and the Kiln watchdog (R450, R453, R472) -/

theorem enterFiring_rest (cause : Nat) (s : State) :
    SameBut [.mod, .recd, .twl, .ints, .held, .noted, .lic] s (enterFiring cause s) := by
  apply enterFiring_frame <;> first | exact SameBut.refl _ _ | exact List.elem_iff.1 rfl

theorem banksReset_rest (s : State) : SameBut [.chans, .recd, .ints, .held, .noted, .lic] s (banksReset s) := by
  apply banksReset_frame <;> first | exact SameBut.refl _ _ | exact List.elem_iff.1 rfl

theorem rotStop_kiln (s : State) : (rotStop s).kiln = s.kiln := by
  refine SameBut.kiln (P := [.vrc, .rot, .recd, .ints, .held, .noted, .lic]) ?_ (by decide)
  apply rotStop_frame <;> first | exact SameBut.refl _ _ | exact List.elem_iff.1 rfl

theorem banksSafe_kiln (reason : Nat) (s : State) : (banksSafe reason s).kiln = s.kiln := by
  refine SameBut.kiln (P := [.chans, .recd, .ints, .held, .noted, .lic]) ?_ (by decide)
  apply banksSafe_frame <;> first | exact SameBut.refl _ _ | exact List.elem_iff.1 rfl

theorem twinLeave_kiln (cause new : Nat) (s : State) : (twinLeave cause new s).kiln = s.kiln := by
  refine SameBut.kiln (P := [.banks, .recd, .twl, .ints, .held, .noted, .lic]) ?_ (by decide)
  apply twinLeave_frame <;> first | exact SameBut.refl _ _ | exact List.elem_iff.1 rfl

theorem reply_params (b : Session) (a : Answer) (s : State) : (reply b a s).kiln.params = s.kiln.params := by
  unfold reply replyOnly
  split <;> rfl

theorem busLeave_params (s : State) : (busLeave s).kiln.params = s.kiln.params := by
  have hrole : (xnRole .off 0 s).kiln = s.kiln := by
    unfold xnRole
    split <;> simp
  unfold busLeave acycAbort
  dsimp only
  split
  · rw [setXn_kiln, hrole]
  · unfold acycEnd
    dsimp only
    rw [setXn_kiln, reply_params, raise_kiln, setXn_kiln, record_kiln, setXn_kiln, hrole]

theorem klmDiscard_params (s : State) : (klmDiscard s).kiln.params = s.kiln.params := by
  unfold klmDiscard klmRefuse
  split
  · rfl
  · dsimp only
    split
    · rw [reply_params, record_kiln]
      rfl
    · rw [record_kiln]
      rfl

/-- The stored set outlives the way out of a RUN state (R393). -/
theorem leaveForReset_params (cause : Nat) (s : State) : (leaveForReset cause s).kiln.params = s.kiln.params := by
  unfold leaveForReset
  split
  · unfold leaveRun
    dsimp only
    rw [setVote_kiln]
    dsimp only
    rw [lanesLeave, mapLanes_kiln, rotStop_kiln, banksSafe_kiln, klmDiscard_params, busLeave_params]
    exact congrArg Kiln.params (twinLeave_kiln cause 1 s)
  · rw [setVote_kiln]
    rfl

theorem moduleReset_boot (kind detail : Nat) (s : State) :
    (moduleReset kind detail s).boot = (abandonAll s).boot.fresh kind := by
  rw [moduleReset_eq, setStart_boot, (enterFiring_rest ..).boot (by decide), setStart_boot, blocksReset, setPwr_boot]
  simp only [blocksFresh]
  rw [(banksReset_rest _).boot (by decide), (leaveForReset_rest ..).boot (by decide)]

theorem moduleReset_params (kind detail : Nat) (s : State) :
    (moduleReset kind detail s).kiln.params = s.kiln.params := by
  rw [moduleReset_eq, setStart_kiln, (enterFiring_rest ..).kiln (by decide), setStart_kiln, blocksReset, setPwr_kiln]
  simp only [blocksFresh, Kiln.fresh]
  rw [(banksReset_rest _).kiln (by decide), leaveForReset_params, (abandonAll_rest s).kiln (by decide)]

theorem moduleReset_resets (kind detail : Nat) (s : State) :
    (moduleReset kind detail s).pwr.resets = inc32 s.pwr.resets := by
  have hpwr : (banksReset (leaveForReset (resetCause kind) (abandonAll s))).pwr = s.pwr := by
    rw [(banksReset_rest _).pwr (by decide), (leaveForReset_rest ..).pwr (by decide), (abandonAll_rest s).pwr (by decide)]
  rw [moduleReset_eq, setStart_pwr, (enterFiring_rest ..).pwr (by decide), setStart_pwr, blocksReset, setPwr_pwr]
  simp only [blocksFresh, hpwr]

theorem setFwBank_self (b : Fin 3) (f : FwBank → FwBank) (s : State) :
    (setFwBank b f s).boot.banks[b] = f s.boot.banks[b] := by
  simp [setFwBank]

theorem bankBad_boot (b : Fin 3) (cause : Nat) (rest : List (Fin 3)) (s : State) :
    ((bankBad b cause rest s).boot.banks[b]).state = .bad ∧ (bankBad b cause rest s).boot.fallback = cause := by
  unfold bankBad
  rw [record_boot, setBoot_boot]
  exact ⟨by rw [setFwBank_self], rfl⟩

/-- Of all that time brings about only the count of OPTIME itself touches the recorder (R413). -/
theorem optime_le_advance (n : Nat) (s : State) : s.recd.optime ≤ (advance n s).recd.optime := by
  have hrest (ms : Nat) (u : State) : SameBut [.rot, .cys, .clk, .tim, .twl, .bw, .mems, .cores, .lic] u
      (tickCores n (tickFwd n (tickCoast n (tickExec n (tickMirror n (tickRotation ms u)))))) := by
    refine tickCores_frame n _ ?_ ?_ ?_ (tickFwd_frame n _ ?_ (tickCoast_frame n _ ?_ (tickExec_frame n _ ?_
      (tickMirror_frame n _ ?_ ?_ ?_ ?_ ?_ (tickRotation_frame ms u ?_ (SameBut.refl _ u)))))) <;> exact List.elem_iff.1 rfl
  have hswitch (c : Nat) (u : State) : (serveSwitch c u).recd = u.recd := by
    unfold serveSwitch
    split <;> simp
  unfold advance
  split
  · exact le_refl _
  · rw [hswitch, (congrArg Recorder.optime ((hrest _ _).2 .recd (by decide)) :)]
    exact Nat.le_add_right ..

/-- Settles O55, from what a reset and a bank put aside leave in the boot record. -/
theorem trialsEndAndResetsFire : Obligations.TrialsEndAndResetsFire := by
  unfold Obligations.TrialsEndAndResetsFire
  refine ⟨fun s b htrial hstate hup => ?_, fun s dt b f htrial hfired hsixty hstate => ?_, fun s hcold => ?_⟩
  · let u := bankBad b 8 ((bootOrder s.boot).filter (fun x => decide (x ≠ b))) s
    obtain ⟨hbad, hcause⟩ := bankBad_boot b 8 ((bootOrder s.boot).filter (fun x => decide (x ≠ b))) s
    obtain ⟨hbanks, hfallback⟩ := abandonAll_boot u
    obtain ⟨hfiring, hkind, hdetail⟩ := moduleReset_firing 3 3 u
    refine ⟨moduleReset 3 3 u, ?_, ?_, ?_, hfiring, hkind, hdetail⟩
    · simp [exec, execTrialTimeout, htrial, hstate, hup, u]
    · rw [moduleReset_boot]
      simpa only [Boot.fresh, hbanks] using hbad
    · rw [moduleReset_boot]
      exact hfallback.trans hcause
  · have htrial' : trialBank (advance dt s) = some b := by simpa [trialBank] using htrial
    have hdue : f + 60000 ≤ (advance dt s).recd.optime := hsixty.trans (optime_le_advance dt s)
    refine ⟨record 0 0x7006 b.val (advance dt s).boot.runRelease ((advance dt s).boot.banks[b]).trials
      (setFwBank b (fun x => { x with state := .good, trials := 0 }) (advance dt s)), ?_, ?_⟩
    · simp [exec, execFwConfirmed, htrial', hfired, hdue, hstate]
    · rw [record_boot, setFwBank_self]
      simp [setFwBank]
  · obtain ⟨hfiring, hkind, hdetail⟩ := moduleReset_firing 3 1 s
    obtain ⟨hprev, hmode⟩ := moduleReset_left 3 1 s
    refine ⟨moduleReset 3 1 s, if_neg hcold, hfiring, hkind, hdetail, hprev, moduleReset_resets 3 1 s, hmode, ?_,
      moduleReset_params 3 1 s, ?_⟩
    · simp only [moduleReset_eq, setStart_start]
    · exact RecordsKept.mram (RecordsKept.moduleReset (.refl s) 3 1)

/-! ### The start (R413, R414, R449, R452, R482, R485) -/

/-- The repair of the MRAM leaves the saved operating time and the count of power cycles (R413, R414). -/
theorem recRepair_saved (r : Recorder) :
    (recRepair r).savedOptime = r.savedOptime ∧ (recRepair r).pwrcyc = r.pwrcyc := by
  have hhead (r : Recorder) (i q : Nat) :
      (writeHead r i q).savedOptime = r.savedOptime ∧ (writeHead r i q).pwrcyc = r.pwrcyc := by
    unfold writeHead
    split <;> exact ⟨rfl, rfl⟩
  simp only [recRepair, apply_ite Recorder.savedOptime, apply_ite Recorder.pwrcyc, hhead, ite_self, and_self]

/-- The recorder as power-on starts it (R413, R414, R421). -/
def recStarted (r : Recorder) : Recorder :=
  { recRepair r with pwrcyc := inc32 (recRepair r).pwrcyc, optime := (recRepair r).savedOptime, subMs := 0 }

/-- The module at the release of power-on reset, before its first record (R429, R482, R485). -/
def powerReleased (twpos : Bool) (s : State) : State :=
  let k := s.pwr.rstKind
  loadPrivileged (setPwr (fun p =>
      { p with pos := twpos, mate := true
               resetsOfKind := if h : k - 1 < 7 then vmod p.resetsOfKind ⟨k - 1, h⟩ inc32 else p.resetsOfKind })
    { s with recd := recStarted s.recd, clk := { s.clk with startWin := true } })

/-- What a torn record and REC_START add to the recorder (R421). -/
def startRecorded (s u : State) : State :=
  let r := recStarted s.recd
  record 15 0xF004 s.pwr.rstKind r.pwrcyc r.lostMs
    (if tornAfterHead r then record 15 0xF002 (nextSlot r) (nextSeq r.headSeq) 0 u else u)

theorem startRecorded_rest (s u : State) : SameBut [.recd, .noted] u (startRecorded s u) := by
  unfold startRecorded
  dsimp only
  refine record_frame _ _ _ _ _ _ ?_ ?_ (fr_ite (record_frame _ _ _ _ _ _ ?_ ?_ (SameBut.refl _ u)) (SameBut.refl _ u)) <;>
    exact List.elem_iff.1 rfl

theorem execPowerOnResetRelease_cold (twpos : Bool) {s : State} (hcold : s.mod.state = .cold) :
    execPowerOnResetRelease twpos s = .next (enterFiring 0x0062 (startRecorded s (powerReleased twpos s))) :=
  if_neg (not_not.2 hcold)

/-- Power-on starts the recorder, and what is recorded then changes neither OPTIME nor the count of power cycles. -/
theorem startRecorded_recordsKept (twpos : Bool) (s : State) :
    RecordsKept (powerReleased twpos s) (enterFiring 0x0062 (startRecorded s (powerReleased twpos s))) :=
  .enterFiring (.record (.ite (.record (.refl _) ..) (.refl _)) ..) _

theorem bootOrder_next {b : Fin 3} {x : Boot} (h : x.nextBank = b.val) : ∃ rest, bootOrder x = b :: rest := by
  simp only [bootOrder, h, b.isLt, dite_true, List.cons_append, List.eraseDups_cons]
  exact ⟨_, rfl⟩

/-- The bank that the boot record names boots at once where it is to be tried and passes its check (R449). -/
theorem bootTry_named {b : Fin 3} {s : State} (hnext : s.boot.nextBank = b.val)
    (hstate : (s.boot.banks[b]).state = .written) (hcheck : fwCheck s.mod.issue (s.boot.banks[b]).image = none) :
    bootTry (bootOrder s.boot) s = bankBoot b s := by
  obtain ⟨rest, hrest⟩ := bootOrder_next hnext
  rw [Fin.getElem_fin] at hstate hcheck
  simp [hrest, bootTry, bankVerdict, BankState.skipped, hstate, hcheck]

theorem judgeRetained_rest (good : Bool) (s : State) :
    SameBut [.pwr, .rot, .clk, .tim, .recd, .kiln, .noted] s (judgeRetained good s) := by
  apply judgeRetained_frame <;> first | exact SameBut.refl _ _ | exact List.elem_iff.1 rfl

theorem bankBoot_written {b : Fin 3} {s : State} (hstate : (s.boot.banks[b]).state = .written) :
    (bankBoot b s).boot.running = some b.val ∧ ((bankBoot b s).boot.banks[b]).state = .trial ∧
      ((bankBoot b s).boot.banks[b]).trials = 1 ∧ (bankBoot b s).boot.boots = inc32 s.boot.boots ∧
      (bankBoot b s).mod.start.booted = true ∧ (bankBoot b s).mod.state = s.mod.state := by
  rw [Fin.getElem_fin] at hstate
  simp [bankBoot, setFwBank, hstate]

theorem execBootBankChoice_boots {b : Fin 3} {s : State} (r : Bool) (hfiring : s.mod.state = .firing)
    (hclocks : s.mod.start.clocksUp = true) (hbooted : s.mod.start.booted = false) (htrial : s.boot.watchdogTrial = none)
    (hnext : s.boot.nextBank = b.val) (hstate : (s.boot.banks[b]).state = .written)
    (hcheck : fwCheck s.mod.issue (s.boot.banks[b]).image = none) :
    execBootBankChoice r s = .next (judgeRetained r (bankBoot b s)) := by
  have hdog : trialWatchdog s = s := by simp only [trialWatchdog, htrial]
  have hup : (judgeRetained r (bankBoot b s)).mod.start.booted = true := by
    rw [(judgeRetained_rest r _).mod (by decide)]
    exact (bankBoot_written hstate).2.2.2.2.1
  simp [execBootBankChoice, hfiring, hclocks, hbooted, hdog, bootTry_named hnext hstate hcheck, hup]

theorem loadBlocks_rest (s : State) : SameBut [.pwr, .vrc, .rot, .clk, .tim, .banks, .chans, .xn, .recd, .twl, .lnc, .cpn,
    .cfd, .brg, .ints, .held, .noted, .lic] s (loadBlocks s) := by
  apply loadBlocks_frame <;> first | exact SameBut.refl _ _ | exact List.elem_iff.1 rfl

theorem domainsOn_on (ds : BitVec 12) (s : State) : (domainsOn ds s).pwr.on = s.pwr.on ||| ds := by
  have hramp (u : State) : (domainRamp u).pwr = u.pwr := by
    unfold domainRamp
    split <;> rfl
  unfold domainsOn
  dsimp only
  split <;> split <;> simp only [hramp, setPwr_pwr]

/-- Step 5 switches its domains on, and nothing that it loads after them touches power control (R452). -/
theorem loadBlocks_on (s : State) : (loadBlocks s).pwr.on = s.pwr.on ||| stepFive s := by
  have hbanks (u : State) : ((allFin 3).foldl (fun t b => bankConfigure b t) u).pwr = u.pwr := by
    refine SameBut.pwr (P := [.banks, .chans, .recd, .ints, .held, .noted, .lic]) (fr_foldl (SameBut.refl _ u)
      fun t b h => ?_) (by decide)
    apply bankConfigure_frame <;> first | exact h | exact List.elem_iff.1 rfl
  have htable (u : State) : (loadTable u).pwr = u.pwr :=
    (loadTable_frame (P := [.xn]) u (by decide) (SameBut.refl _ u)).pwr (by decide)
  unfold loadBlocks
  dsimp only [twinHold]
  rw [htable, setXn_pwr]
  simp only [loadNets, hbanks, loadPrivileged, loadClocks, domainsOn_on]

/-- Settles O52, command by command: the release of reset, the choice of a bank, the start of the firmware. -/
theorem startLeavesColdAndChoosesABank : Obligations.StartLeavesColdAndChoosesABank := by
  unfold Obligations.StartLeavesColdAndChoosesABank
  refine ⟨fun s p hcold => ?_, fun s p hcold => if_pos hcold,
    fun s r b hfiring hclocks hbooted htrial hnext hstate hcheck => ?_, fun s hfiring hbooted hup hpfv => ?_⟩
  · have hkept := startRecorded_recordsKept p s
    have hfire := enterFiring_rest 0x0062 (startRecorded s (powerReleased p s))
    have hrec := startRecorded_rest s (powerReleased p s)
    obtain ⟨hsaved, hcycles⟩ := recRepair_saved s.recd
    obtain ⟨hstate, hpwr⟩ := enterFiring_firing 0x0062 (startRecorded s (powerReleased p s))
    refine ⟨_, execPowerOnResetRelease_cold p hcold, hstate, hkept.optime.trans hsaved,
      hkept.pwrcyc.trans (congrArg inc32 hcycles), ?_, ?_, ?_⟩
    · rw [hpwr, hrec.pwr (by decide)]
      rfl
    · rw [hfire.2 .clk (by decide), hrec.2 .clk (by decide)]
      rfl
    · rw [hfire.kiln (by decide), hrec.kiln (by decide)]
      rfl
  · obtain ⟨hrun, htried, hone, hboots, hup, hfire⟩ := bankBoot_written hstate
    have hrest := judgeRetained_rest r (bankBoot b s)
    refine ⟨_, execBootBankChoice_boots r hfiring hclocks hbooted htrial hnext hstate hcheck, ?_⟩
    rw [hrest.mod (by decide), hrest.boot (by decide)]
    exact ⟨hup, hrun, htried, hone, hboots, hfire.trans hfiring⟩
  · let u := setKiln (fun k => { k with inForce := k.params }) s
    have hrest := loadBlocks_rest u
    refine ⟨setStart (fun x => { x with kilnUp := true }) (loadBlocks u), ?_, rfl, ?_, ?_, ?_, ?_⟩
    · simp [exec, execKilnFirmwareStart, hfiring, hbooted, hup, compareFormat, hpfv, u]
    · rw [setStart_kiln, hrest.kiln (by decide)]
      rfl
    · rw [setStart_kiln, hrest.kiln (by decide)]
      rfl
    · rw [setStart_state, hrest.mod (by decide)]
      exact hfiring
    · rw [setStart_pwr, loadBlocks_on]
      rfl

end Sys2Proof.Machine
end

section
/-! PROOFS. O50: an event queued, merged, lost or suppressed, and what REC_EVRES tells (R415-R418, R426). -/

namespace Sys2Proof.Machine

open Sys2Proof

/-! ### Tokens (R417) -/

theorem assocGet_assocSet_self {α β : Type} [DecidableEq α] (l : List (α × β)) (k : α) (v : β) :
    assocGet (assocSet l k v) k = some v := by
  induction l with
  | nil => simp [assocSet, assocGet]
  | cons p l ih =>
    obtain ⟨a, b⟩ := p
    by_cases h : a = k <;> simp [assocSet, assocGet, h, ih]

/-! ### The staging FIFO (R415, R416, R418) -/

section
variable {r : Recorder} {e n : RecEntry} {q : List RecEntry}

theorem acceptPlain_empty (hfifo : r.fifo = []) (hhead : r.head = none) : acceptPlain r e = (fifoPush r e, 1) := by
  simp [acceptPlain, hfifo, hhead]

theorem acceptPlain_merges (hfifo : r.fifo = q ++ [n]) (hmerge : mergeable e n = true) : acceptPlain r e =
    ({ r with fifo := q ++ [{ n with repeats := n.repeats + 1 }], merges := inc32 r.merges }, 2) := by
  simp [acceptPlain, hfifo, hmerge]

theorem acceptPlain_queues (hfifo : r.fifo = q ++ [n]) (hmerge : mergeable e n = false) (hroom : q.length < 63) :
    acceptPlain r e = (fifoPush r e, 1) := by
  have hlen : q.length + 1 < 64 := by omega
  simp [acceptPlain, hfifo, hmerge, hlen]

theorem acceptPlain_loses (hfifo : r.fifo = q ++ [n]) (hmerge : mergeable e n = false) (hfull : q.length = 63) :
    acceptPlain r e = (fifoLose r e.code, 4) := by
  simp [acceptPlain, hfifo, hmerge, hfull]

end

/-! ### From the event to the FIFO -/

section
variable {r : Recorder} {src code : Nat} (m p0 p1 p2 : Nat) (hallowed : codeRefused src code = false)
include hallowed

theorem submitEvent_plain (hplain : privIndex r code = none) :
    submitEvent r src m code p0 p1 p2 = acceptPlain r (stampEntry r src code p0 p1 p2) := by
  simp [submitEvent, hallowed, acceptEvent, stampEntry, hplain]

theorem submitEvent_suppressed {i : Fin 32} (hpriv : privIndex r code = some i) (htokens : assocGet r.tokens code = none) :
    submitEvent r src m code p0 p1 p2 = ({ r with
      suppressed := assocSet r.suppressed code ((assocGet r.suppressed code).getD 0 + 1)
      suppressedTotal := vmod r.suppressedTotal i inc32 }, 5) := by
  simp [submitEvent, hallowed, acceptEvent, acceptPrivileged, stampEntry, hpriv, htokens]

theorem submitEvent_privileged {i : Fin 32} {k : Nat} (hpriv : privIndex r code = some i)
    (htokens : assocGet r.tokens code = some (k + 1)) (hroom : r.fifo.length < 64) :
    submitEvent r src m code p0 p1 p2 = (fifoPush { r with
        tokens := assocSet r.tokens code k, suppressed := assocSet r.suppressed code 0 }
      { stampEntry r src code p0 p1 p2 with priv := true, repeats := min 255 ((assocGet r.suppressed code).getD 0) }, 1) := by
  simp [submitEvent, hallowed, acceptEvent, acceptPrivileged, stampEntry, hpriv, htokens, hroom]

end

/-- The codes of applications are allowed, and the lanes submit them as source 10 (R415). -/
theorem applicationCode_allowed {c : Nat} (hlo : 0x8100 ≤ c) (hhi : c ≤ 0x8FFF) (src : Nat) :
    codeRefused src c = false ∧ laneSource c = 10 := by
  have hclass : c / 4096 = 8 := by omega
  have hzero : c ≠ 0 := by omega
  simp [codeRefused, laneSource, hclass, hzero, hlo, hhi]

/-! ### The commands -/

theorem execEventSubmit_unit {src : Fin 16} (c : BitVec 16) (a b d : BitVec 32) {s : State} (hcold : s.mod.state ≠ .cold)
    (hsrc : src.val < 10) : execEventSubmit src c a b d s = .next (record src.val c.toNat a.toNat b.toNat d.toNat s) := by
  have hreserved : ¬ (12 ≤ src.val ∧ src.val < 15) := by omega
  have hlanes : src ≠ 10 := fun h => by simp [h] at hsrc
  simp [execEventSubmit, hcold, hreserved, hlanes]

theorem execEventSubmit_lanes (c : BitVec 16) (a b d : BitVec 32) {s : State} (hcold : s.mod.state ≠ .cold) :
    let r := submitEvent s.recd (laneSource c.toNat) (masterCode s none) c.toNat a.toNat b.toNat d.toNat
    execEventSubmit 10 c a b d s = .next (setRec (fun _ => { r.1 with evRes := r.2 }) s) := by
  simp [execEventSubmit, hcold]

@[simp] theorem setRec_recd (f : Recorder → Recorder) (s : State) : (setRec f s).recd = f s.recd := rfl

/-- Settles O50, one clause for the units, one for the lanes, one for the register, and one for the tokens. -/
theorem eventsEnterTheRecorder : Obligations.EventsEnterTheRecorder := by
  unfold Obligations.EventsEnterTheRecorder
  refine ⟨fun s src c a b d h => if_pos h, fun s src c a b d hcold hsrc hallowed hplain => ?_,
    fun s c a b d hcold hlo hhi => ?_, fun s v hlo hhi hplain hfifo hhead => ?_, fun s dt c p hcold hp => ?_⟩
  · have hexec := execEventSubmit_unit c a b d hcold hsrc
    have hsub := submitEvent_plain 10 a.toNat b.toNat d.toNat hallowed hplain
    refine ⟨fun hfifo hhead => ⟨_, hexec, ?_⟩, fun q n hfifo hmerge hroom => ⟨_, hexec, ?_⟩,
      fun q n hfifo hmerge => ⟨_, hexec, ?_⟩, fun q n hfifo hmerge hfull => ⟨_, hexec, ?_⟩⟩
    · rw [record_recd, hsub, acceptPlain_empty hfifo hhead]
      simp [fifoPush, hfifo]
    · rw [record_recd, hsub, acceptPlain_queues hfifo hmerge hroom]
      simp [fifoPush, hfifo]
    · rw [record_recd, hsub, acceptPlain_merges hfifo hmerge]
      exact ⟨rfl, rfl⟩
    · rw [record_recd, hsub, acceptPlain_loses hfifo hmerge hfull]
      exact ⟨rfl, rfl, rfl, rfl⟩
  · obtain ⟨hallowed, hlanes⟩ := applicationCode_allowed hlo hhi 10
    have hexec := execEventSubmit_lanes c a b d hcold
    simp only [hlanes] at hexec
    refine ⟨fun hplain hfifo hhead => ⟨_, hexec, ?_⟩, fun i hpriv htokens => ⟨_, hexec, ?_⟩,
      fun i k hpriv htokens hroom => ⟨_, hexec, ?_⟩⟩
    · rw [setRec_recd, submitEvent_plain _ _ _ _ hallowed hplain, acceptPlain_empty hfifo hhead]
      simp [fifoPush, hfifo]
    · rw [setRec_recd, submitEvent_suppressed _ _ _ _ hallowed hpriv htokens]
      simp
    · rw [setRec_recd, submitEvent_privileged _ _ _ _ hallowed hpriv htokens hroom]
      simp [fifoPush, assocGet_assocSet_self]
  · obtain ⟨hallowed, -⟩ := applicationCode_allowed hlo hhi 10
    have hsub := submitEvent_plain (masterCode s none) s.recd.ev[1].toNat s.recd.ev[2].toNat v.toNat hallowed hplain
    rw [acceptPlain_empty hfifo hhead] at hsub
    refine ⟨recEvWrite 3 v s, rfl, ?_⟩
    simp only [recEvWrite, hlo, hhi, and_self, if_true, hsub]
    simp [fifoPush, hfifo]
  · refine ⟨_, if_neg hcold, ?_⟩
    simp [refill, hp, assocGet_assocSet_self]

end Sys2Proof.Machine
end

section
/-! PROOFS. O51: a record in a memory in canonical form (R410, R419), the state that refutes the statement, and the
refutation. -/

namespace Sys2Proof.Machine

open Sys2Proof

/-! ### A record written -/

theorem recordBytes_length (seq : Nat) (e : RecEntry) : (recordBytes seq e).length = 32 := by
  simp [recordBytes]

/-- In an MRAM in canonical form the slot after the head holds the record written to it. -/
theorem writeRecord_reads (e : RecEntry) {r : Recorder} (h : Memory.wf r.mram = true) :
    slotBytes (writeRecord r e) (nextSlot r) = recordBytes (nextSeq r.headSeq) e := by
  have hread := memRead_memWrite (slotAddr (nextSlot r)) (recordBytes (nextSeq r.headSeq) e) h
  rw [recordBytes_length] at hread
  simpa only [slotBytes, writeRecord, mram_writeHead, writeSlot] using hread

theorem nextEntry_oldest {e : RecEntry} {q : List RecEntry} {r : Recorder} (hrewrite : r.rewrite = false)
    (hsherd : r.sherdNext = false) (hfifo : r.fifo = e :: q) (hloss : r.loss = 0) :
    nextEntry (settled r) = some (e, { r with fifo := q }) := by
  simp [nextEntry, settled, hrewrite, hsherd, hfifo, fifoLost, hloss]

/-- RECORD_WRITE takes the oldest entry, where no rewrite and no SHERD_FULL goes before it and no event was lost. -/
theorem execRecordWrite_oldest {dt : Nat} {e : RecEntry} {q : List RecEntry} {s : State}
    (hcold : (advance dt s).mod.state ≠ .cold) (hrewrite : (advance dt s).recd.rewrite = false)
    (hsherd : (advance dt s).recd.sherdNext = false) (hfifo : (advance dt s).recd.fifo = e :: q)
    (hloss : (advance dt s).recd.loss = 0) : execRecordWrite dt .complete s =
      .next { advance dt s with recd := writeRecord { (advance dt s).recd with fifo := q } e } := by
  simp only [execRecordWrite, if_neg hcold, nextEntry_oldest hrewrite hsherd hfifo hloss]

/-! ### The refutation -/

/-- SERVICE with one event waiting and an empty recorder, whose MRAM is not in canonical form: it lists the second octet
of slot 0 twice. -/
def recordListedTwice : State :=
  { mod := { state := .service }
    recd := { fifo := [stampEntry {} 0 1 0 0 0], mram := [(slotAddr 0 + 1, 255), (slotAddr 0 + 1, 255)] } }

theorem recordListedTwice_writes : execRecordWrite 0 .complete recordListedTwice =
    .next { advance 0 recordListedTwice with
      recd := writeRecord { (advance 0 recordListedTwice).recd with fifo := [] } (stampEntry {} 0 1 0 0 0) } :=
  execRecordWrite_oldest (by decide +kernel) (by decide +kernel) (by decide +kernel) (by decide +kernel)
    (by decide +kernel)

/-- The record has SEQ 1, whose second octet, 0, takes the first of the two entries away; the second stays. -/
theorem recordListedTwice_keeps :
    slotBytes (writeRecord { (advance 0 recordListedTwice).recd with fifo := [] } (stampEntry {} 0 1 0 0 0))
        (nextSlot (advance 0 recordListedTwice).recd) ≠
      recordBytes (nextSeq (advance 0 recordListedTwice).recd.headSeq) (stampEntry {} 0 1 0 0 0) := by
  decide +kernel

/-- Refutes O51. Its clause on a record written whole fails in a state whose MRAM is not in canonical form
(`State.memWf`), which the statement does not ask for; with that premise it is `execRecordWrite_oldest` and
`writeRecord_reads`. -/
theorem not_recordsAndDumpsAreWritten : ¬ Obligations.RecordsAndDumpsAreWritten := by
  unfold Obligations.RecordsAndDumpsAreWritten
  intro h
  obtain ⟨hwrite, -⟩ := h
  obtain ⟨hcomplete, -⟩ := hwrite recordListedTwice 0 (stampEntry {} 0 1 0 0 0) [] (by decide +kernel)
    (by decide +kernel) (by decide +kernel) (by decide +kernel)
  obtain ⟨t, ht, -, -, -, -, -, -, hread⟩ := hcomplete (by decide +kernel)
  have hnext := Host.Outcome.next.inj (ht.symm.trans recordListedTwice_writes)
  rw [hnext] at hread
  exact recordListedTwice_keeps hread

end Sys2Proof.Machine
end

section
/-! PROOFS. O46: the service bridge's answers, posted writes, tags, semaphores and line buffers (R362-R378). -/

namespace Sys2Proof.Machine

open Sys2Proof

theorem SameBut.brg {P : List Part} {s t : State} (h : SameBut P s t) (hb : Part.brg ∉ P) : t.brg = s.brg := h.2 .brg hb

theorem SameBut.clk {P : List Part} {s t : State} (h : SameBut P s t) (hc : Part.clk ∉ P) : t.clk = s.clk := h.2 .clk hc

/-! ### BRG_SYNC, and answers on their way to a core -/

theorem foldl_coresOnly {ks : List (Fin 8)} {f : State → Fin 8 → State} (h : ∀ t k, CoresOnly t (f t k)) (s : State) :
    CoresOnly s (ks.foldl f s) := by
  induction ks generalizing s with
  | nil => rfl
  | cons k ks ih => exact (h s k).trans (ih (f s k))

theorem syncDone_coresOnly (s : State) : CoresOnly s (syncDone s) := by
  refine foldl_coresOnly (fun t k => ?_) s
  split
  · split <;> rfl
  · rfl

theorem deliverAnswer_brg (m : Option (Fin 8)) (a : Nat) (r : BusReply) (s : State) :
    (deliverAnswer m a r s).brg = s.brg := by
  refine SameBut.brg (P := [.vrc, .cys, .banks, .recd, .twl, .ints, .cores, .held, .noted, .lic]) ?_ (by decide)
  apply deliverAnswer_frame <;> first | exact SameBut.refl _ _ | exact List.elem_iff.1 rfl

theorem setCore_congr {k : Fin 8} {f g : Core → Core} {s : State} (h : f s.cores[k] = g s.cores[k]) :
    setCore k f s = setCore k g s := by
  rw [Fin.getElem_fin] at h
  simp only [setCore, vmod, h]

/-- In WIDE the answer to a load reaches the core that waits for it, and nothing else. -/
theorem deliverAnswer_load {k : Fin 8} {op : LoadOp} {d : Fin 32} {s : State} (a : Nat) (r : BusReply)
    (hsplit : s.vrc.mode = .split) (hcur : s.cys.current = none) (hpend : (s.cores[k]).pend = some (.load op d)) :
    deliverAnswer (some k) a r s = setCore k (fun c => c.answer (.load op d) a r) s := by
  simp only [deliverAnswer, List.any_cons, List.any_nil, hpend, Bool.or_false, if_true]
  rw [mirrorShadow, if_pos (by exact hsplit), appFault_none _ (by exact hcur)]
  exact setCore_congr (by simp only [hpend, if_true])

/-! ### The core that waits -/

theorem setX_pend (c : Core) (d : Fin 32) (v : Reg64) : (c.setX d v).pend = c.pend := by unfold Core.setX; split <;> rfl

theorem setWord_pend (c : Core) (n : Nat) (v : Reg64) : (c.setWord n v).pend = c.pend := by
  unfold Core.setWord; split <;> rfl

theorem event_pend (c : Core) (e n : Nat) : (c.event e n).pend = c.pend := by
  obtain ⟨-, -, -, -, -, -, -, -, -, -, h⟩ := plain_fields (event_plain c e n)
  exact h

theorem loaded_pend (c : Core) (op : LoadOp) (d : Fin 32) (v : Nat) : (c.loaded op d v).pend = c.pend := by
  cases op <;> simp [Core.loaded, setX_pend, Core.setF]

theorem loaded_pc (c : Core) (op : LoadOp) (d : Fin 32) (v : Nat) : (c.loaded op d v).pc = c.pc := by
  cases op <;> simp [Core.loaded, Core.setF]

theorem loaded_x_congr {c c' : Core} (h : c.x = c'.x) (op : LoadOp) (d : Fin 32) (v : Nat) :
    (c.loaded op d v).x = (c'.loaded op d v).x := by
  cases op with
  | flw => exact h
  | fld => exact h
  | ldp => exact setX_x_congr _ _ (setX_x_congr _ _ h _ _) _ _
  | _ => exact setX_x_congr _ _ h _ _

theorem retire_pend (c : Core) : c.retire.pend = c.pend := by
  simp [Core.retire, Core.retireAt, setWord_pend, event_pend]

theorem raiseExc_pend (c : Core) (code arg : Nat) (bad : Option Reg64) : (c.raiseExc code arg bad).pend = c.pend := by
  cases bad <;> simp [Core.raiseExc, Core.enter, setWord_pend, event_pend]

/-- A good answer to a load: its registers and the next instruction. -/
theorem answer_load_done (c : Core) (op : LoadOp) (d : Fin 32) (a v : Nat) :
    (c.answer (.load op d) a (.done v)).pend = none ∧
    (c.answer (.load op d) a (.done v)).x = (c.loaded op d v).x ∧
    (c.answer (.load op d) a (.done v)).pc = c.pc + 4 := by
  simp only [Core.answer, Core.answered, retire_pend, loaded_pend, retire_x, retire_pc, loaded_pc, and_true, true_and]
  exact loaded_x_congr (c := { c with pend := none }) (c' := c) rfl op d v

/-- A bus error in answer to a load: an exception, and no register written. -/
theorem answer_load_err (c : Core) (op : LoadOp) (d : Fin 32) (a : Nat) :
    (c.answer (.load op d) a .err).pend = none ∧ (c.answer (.load op d) a .err).x = c.x ∧
    (c.answer (.load op d) a .err).exl = true ∧ (c.answer (.load op d) a .err).pc = c.word 5 := by
  obtain ⟨hpc, -, -, -, -, -, -, hexl, -, hx, -⟩ :=
    raise_fields { c with pend := none } 9 0 (some (BitVec.ofNat 64 a))
  exact ⟨raiseExc_pend _ _ _ _, hx, hexl, hpc⟩

/-! ### Posted writes -/

/-- The status in word 1 of an entry of the error log (R369). -/
theorem errorWord_status {m st t a : Nat} (hst : st ≤ 4) (ht : t < 64) (ha : a < 2 ^ 40) :
    (BitVec.ofNat 32 (2 ^ 31 + m * 2 ^ 24 + st * 65536 + t * 256 + a / 2 ^ 32)).toNat / 65536 % 256 = st := by
  rw [BitVec.toNat_ofNat]
  omega

/-- A late error with room in the log: the entry, the count, and interrupt 272. -/
theorem farError_logged {p : Posted} {st : Nat} {s : State} (hst : st ≤ 4) (hroom : s.brg.log.length < 16) :
    (farError p st s).brg.posted = s.brg.posted ∧ (farError p st s).brg.errCount = inc16 s.brg.errCount ∧
    (farError p st s).vmem = s.vmem ∧ Asserted 272 (farError p st s).ints ∧
    ∃ e, (farError p st s).brg.log = s.brg.log ++ [e] ∧ e.w0 = p.addr.setWidth 32 ∧
      e.w1.toNat / 65536 % 256 = st := by
  simp only [farError, if_pos hroom, raise_brg, record_brg, raise_vmem, record_vmem, setBrg, true_and]
  refine ⟨raise_asserted _ _ (by decide), _, rfl, ?_, ?_⟩
  · exact BitVec.eq_of_toNat_eq (by simp)
  · exact errorWord_status hst p.tag.isLt p.addr.isLt

theorem farWrite_tpdo {a : Nat} (hlo : 0x0300038400 ≤ a) (hhi : a < 0x0300038800) (be : BitVec 16) (d : BitVec 128)
    (e : Bool) (s : State) : farWrite a be d e s = some { s with vmem := memWriteBe s.vmem (a / 16 * 16) be d 16 } := by
  unfold farWrite
  rw [if_neg (by omega), if_neg (by omega), if_neg (by omega), if_neg (by omega), if_neg (by omega),
    if_neg (by omega), if_pos (by omega), if_neg (by omega)]

theorem farWrite_debug {a : Nat} (hlo : 0x0300040000 ≤ a) (hhi : a < 0x0300050000) (be : BitVec 16) (d : BitVec 128)
    (e : Bool) (s : State) : farWrite a be d e s = none := by
  unfold farWrite
  rw [if_neg (by omega), if_neg (by omega), if_neg (by omega), if_neg (by omega), if_neg (by omega),
    if_neg (by omega), if_neg (by omega), if_pos (by omega)]

theorem dropPosted_brg {p : Posted} {q : List Posted} {s : State} (hposted : s.brg.posted = p :: q) :
    (dropPosted s).brg = { s.brg with posted := q } := by
  simp only [dropPosted, setBrg, hposted, List.drop_one, List.tail_cons]

/-- What a late error leaves: the tag of the posted write free, its entry in the error log, and interrupt 272. -/
def LateError (p : Posted) (q : List Posted) (st : Nat) (s t : State) : Prop :=
  t.brg.posted = q ∧ t.brg.errCount = inc16 s.brg.errCount ∧ t.vmem = s.vmem ∧ Asserted 272 t.ints ∧
    ∃ e, t.brg.log = s.brg.log ++ [e] ∧ e.w0 = p.addr.setWidth 32 ∧ e.w1.toNat / 65536 % 256 = st

theorem lateError {p : Posted} {q : List Posted} {st : Nat} {s : State} (hposted : s.brg.posted = p :: q)
    (hst : st ≤ 4) (hroom : s.brg.log.length < 16) : LateError p q st s (syncDone (farError p st (dropPosted s))) := by
  have hlogged := farError_logged (p := p) hst (s := dropPosted s) (by rw [dropPosted_brg hposted]; exact hroom)
  rw [dropPosted_brg hposted] at hlogged
  rw [LateError, syncDone_coresOnly]
  exact hlogged

section
variable {dt : Nat} {s : State} {p : Posted} {q : List Posted} (hposted : (advance dt s).brg.posted = p :: q)
include hposted

theorem execPostedWriteComplete_lands {t : State} (hon : farOff (advance dt s) p.addr.toNat = none)
    (hw : farWrite p.addr.toNat p.be p.data p.exec (dropPosted (advance dt s)) = some t) :
    execPostedWriteComplete dt s = .next (syncDone t) := by
  simp only [execPostedWriteComplete, hposted, hon, hw]

theorem execPostedWriteComplete_off (hoff : farOff (advance dt s) p.addr.toNat ≠ none) :
    execPostedWriteComplete dt s = .next (syncDone (farError p 3 (dropPosted (advance dt s)))) := by
  obtain ⟨k, hk⟩ := Option.ne_none_iff_exists'.1 hoff
  simp only [execPostedWriteComplete, hposted, hk]

theorem execPostedWriteComplete_refused (hon : farOff (advance dt s) p.addr.toNat = none)
    (hw : farWrite p.addr.toNat p.be p.data p.exec (dropPosted (advance dt s)) = none) :
    execPostedWriteComplete dt s = .next (syncDone (farError p 2 (dropPosted (advance dt s)))) := by
  simp only [execPostedWriteComplete, hposted, hon, hw]

theorem execBrgPwerr_posted (f : FarStatus) :
    execBrgPwerr dt f s = .next (syncDone (farError p (statusCode f) (dropPosted (advance dt s)))) := by
  simp only [execBrgPwerr, hposted]

/-- A posted write of the voted lanes to a TPDO buffer lands. -/
theorem postedWriteComplete_lands (hon : farOff (advance dt s) p.addr.toNat = none)
    (hlo : 0x0300038400 ≤ p.addr.toNat) (hhi : p.addr.toNat < 0x0300038800) :
    ∃ t, execPostedWriteComplete dt s = .next t ∧ t.brg = { (advance dt s).brg with posted := q } ∧
      t.vmem = memWriteBe (advance dt s).vmem (p.addr.toNat / 16 * 16) p.be p.data 16 := by
  refine ⟨_, execPostedWriteComplete_lands hposted hon (farWrite_tpdo hlo hhi _ _ _ _), ?_, ?_⟩
  · exact (congrArg State.brg (syncDone_coresOnly _) :).trans (dropPosted_brg hposted)
  · exact (congrArg State.vmem (syncDone_coresOnly _) :)

end

/-! ### Far-side reads -/

section
variable {dt : Nat} {s : State} {r : FarRead} (hforwarded : forwarded (advance dt s) = some r)
include hforwarded

theorem execFarSideReadTimeout_forwarded :
    execFarSideReadTimeout dt s = .next (farFail r (dropRead r (advance dt s))) := by
  simp only [execFarSideReadTimeout, hforwarded]

theorem execFarSideReadResponse_failed :
    execFarSideReadResponse dt true s = .next (farFail r (dropRead r (advance dt s))) := by
  simp only [execFarSideReadResponse, hforwarded, true_or, if_true]

theorem execFarSideReadResponse_value (hon : farOff (advance dt s) r.addr.toNat = none) (hread : r.write = none)
    (hplain : brgPF (advance dt s).brg r.addr.toNat = false) :
    execFarSideReadResponse dt false s = .next (deliverAnswer r.master r.addr.toNat
      (.done (farRead r.addr.toNat r.size (dropRead r (advance dt s))).1)
      (farRead r.addr.toNat r.size (dropRead r (advance dt s))).2) := by
  have hdropped : brgPF (dropRead r (advance dt s)).brg r.addr.toNat = false := hplain
  simp [execFarSideReadResponse, hforwarded, hon, hread, hdropped]

end

theorem farRead_cpn {a : Nat} (hlo : 0x0300028000 ≤ a) (hhi : a < 0x0300030000) (n : Nat) (s : State) :
    farRead a n s = (leNat (vread s a n), s) := by
  unfold farRead
  rw [if_neg (by omega), if_neg (by omega), if_neg (by omega), if_pos (by omega), vread]

theorem dropRead_tags (r : FarRead) (s : State) : ∀ y ∈ (dropRead r s).brg.reads, y.tag ≠ r.tag := by
  intro y hy
  obtain ⟨-, htag⟩ := List.mem_filter.1 hy
  exact of_decide_eq_true htag

theorem setCore_self (k : Fin 8) (f : Core → Core) (s : State) : (setCore k f s).cores[k] = f s.cores[k] :=
  vmod_self s.cores k f

/-- The state of a core in WIDE that waits for the answer to its load, with no task running. -/
structure WaitsForLoad (k : Fin 8) (op : LoadOp) (d : Fin 32) (s : State) : Prop where
  split : s.vrc.mode = .split
  idle : s.cys.current = none
  pend : (s.cores[k]).pend = some (.load op d)

/-- The consist network's buffers give the waiting core its value. -/
theorem farSideRead_value {dt : Nat} {s : State} {r : FarRead} {k : Fin 8} {op : LoadOp} {d : Fin 32}
    (hwaits : WaitsForLoad k op d (advance dt s)) (hforwarded : forwarded (advance dt s) = some r)
    (hmaster : r.master = some k) (hread : r.write = none) (hon : farOff (advance dt s) r.addr.toNat = none)
    (hlo : 0x0300028000 ≤ r.addr.toNat) (hhi : r.addr.toNat < 0x0300030000)
    (hplain : brgPF (advance dt s).brg r.addr.toNat = false) :
    ∃ t, execFarSideReadResponse dt false s = .next t ∧ (t.cores[k]).pend = none ∧
      (t.cores[k]).x = (((advance dt s).cores[k]).loaded op d (leNat (vread (advance dt s) r.addr.toNat r.size))).x ∧
      (t.cores[k]).pc = ((advance dt s).cores[k]).pc + 4 ∧ t.clk = (advance dt s).clk ∧
      ∀ y ∈ t.brg.reads, y.tag ≠ r.tag := by
  refine ⟨_, execFarSideReadResponse_value hforwarded hon hread hplain, ?_⟩
  obtain ⟨hsplit, hidle, hpend⟩ := hwaits
  rw [farRead_cpn hlo hhi, hmaster, deliverAnswer_load _ _ (by exact hsplit) (by exact hidle) (by exact hpend),
    setCore_self]
  obtain ⟨hdone, hx, hpc⟩ := answer_load_done ((advance dt s).cores[k]) op d r.addr.toNat
    (leNat (vread (advance dt s) r.addr.toNat r.size))
  exact ⟨hdone, hx, hpc, rfl, dropRead_tags r _⟩

/-! ### A far-side failure -/

theorem busPart_fields {c d : Core} (h : c.busPart = d.busPart) : c.x = d.x ∧ c.cw = d.cw ∧ c.pend = d.pend :=
  ⟨(congrArg Core.x h :), (congrArg Core.cw h :), (congrArg Core.pend h :)⟩

theorem busError_core (kind master : Nat) (wr : Bool) (a : Nat) (s : State) (k : Fin 8) :
    ((busError kind master wr a s).cores[k]).busPart = (s.cores[k]).busPart := by
  have hframe : SameBut [.clk, .recd, .ints, .held, .noted, .lic] s (busError kind master wr a s) := by
    apply busError_frame <;> first | exact SameBut.refl _ _ | exact List.elem_iff.1 rfl
  simpa using congrArg (fun v : Vector Core 8 => v[k]) (hframe.2 .cores (by decide))

theorem busError_clk (kind master : Nat) (wr : Bool) (a : Nat) (s : State) :
    (busError kind master wr a s).clk.berrCount = inc32 s.clk.berrCount ∧
    (busError kind master wr a s).clk.berrAddr = BitVec.ofNat 40 a := by
  simp [busError]

/-- The core that waits takes the exception of a bus error, which is logged (R363, R374). -/
def BusErrorTaken (k : Fin 8) (a : BitVec 40) (s t : State) : Prop :=
  (t.cores[k]).pend = none ∧ (t.cores[k]).x = (s.cores[k]).x ∧ (t.cores[k]).exl = true ∧
    (t.cores[k]).pc = (s.cores[k]).word 5 ∧ t.clk.berrCount = inc32 s.clk.berrCount ∧ t.clk.berrAddr = a ∧
    Asserted 69 t.ints

theorem farFail_load {s : State} {r : FarRead} {k : Fin 8} {op : LoadOp} {d : Fin 32} (hwaits : WaitsForLoad k op d s)
    (hmaster : r.master = some k) : BusErrorTaken k r.addr s (farFail r s) := by
  obtain ⟨hsplit, hidle, hpend⟩ := hwaits
  simp only [farFail, hmaster]
  generalize hu : busError _ _ _ _ _ = u
  obtain ⟨hx, hcw, hp⟩ : (u.cores[k]).x = (s.cores[k]).x ∧ (u.cores[k]).cw = (s.cores[k]).cw ∧
      (u.cores[k]).pend = (s.cores[k]).pend := by
    rw [← hu]
    exact busPart_fields (busError_core _ _ _ _ _ k)
  obtain ⟨hcount, haddr⟩ : u.clk.berrCount = inc32 s.clk.berrCount ∧ u.clk.berrAddr = BitVec.ofNat 40 r.addr.toNat := by
    rw [← hu]
    exact busError_clk _ _ _ _ _
  have hint : Asserted 69 u.ints := by
    rw [← hu]
    exact raise_asserted _ _ (by decide)
  rw [BusErrorTaken, deliverAnswer_load (op := op) (d := d) _ _ (by rw [← hu]; simp [busError, drawWord, hsplit])
    (by rw [← hu]; simp [busError, drawWord, hidle]) (hp.trans hpend), setCore_self]
  obtain ⟨hdone, hregs, hexl, hpc⟩ := answer_load_err u.cores[k] op d r.addr.toNat
  exact ⟨hdone, hregs.trans hx, hexl, hpc.trans (word_congr hcw 5), hcount, haddr.trans (by simp), hint⟩

/-! ### Tags, semaphores, line buffers and forwarded interrupts -/

/-- The queues of the bridge that a line buffer and a semaphore do not touch. -/
def Brg.queues (b : Brg) : List Posted × List TagWait := (b.posted, b.waiting)

theorem dropLine_queues (l : BrgLine) (s : State) : (dropLine l s).brg.queues = s.brg.queues := by
  unfold dropLine Brg.queues
  dsimp only
  split
  · rfl
  · split <;> simp [setBrg]

theorem dropLines_queues (p : BrgLine → Bool) (s : State) : (dropLines p s).brg.queues = s.brg.queues := by
  unfold dropLines
  generalize s.brg.lines.filter p = ls
  induction ls generalizing s with
  | nil => rfl
  | cons l ls ih => rw [List.foldl_cons, ih, dropLine_queues]

theorem semWrite_queues (m : Option (Fin 8)) (a : Nat) (s : State) : (semWrite m a s).brg.queues = s.brg.queues := by
  unfold semWrite
  split
  · rfl
  · split
    · split <;> rfl
    · rfl

/-- A plain write that the bridge accepts is posted (R364, R367). -/
theorem brgAccess_posts {m : Option (Fin 8)} {b : Beat} {s : State} (hon : farOff s b.addr.toNat = none)
    (hwrite : b.attr.extractLsb' 0 4 = 2) (hplain : b.attr.getLsbD 9 = false) (hrw : brgRO s.brg b.addr.toNat = false)
    (hmem : farRegister b.addr.toNat = false) (hfree : freeTag s.brg ≠ none) :
    ∃ p u, brgAccess m b s = (.done 0, setBrg (fun x => { x with posted := x.posted ++ [p] }) u) ∧
      u.brg.queues = s.brg.queues ∧ p.addr = b.addr ∧ p.data = b.data ∧ p.be = b.be ∧ p.master = m := by
  obtain ⟨t, ht⟩ := Option.ne_none_iff_exists'.1 hfree
  simp only [brgAccess, hon, hwrite, hplain, hrw, hmem, ht, Bool.false_and, Bool.and_false, Bool.false_eq_true, if_false]
  exact ⟨_, _, rfl, (semWrite_queues _ _ _).trans (dropLines_queues _ _), rfl, rfl, rfl, rfl⟩

/-- The access that has waited longest is posted when a tag is free (R364). -/
theorem brgTagFree_posts {dt : Nat} {s : State} {w : TagWait} {q : List TagWait}
    (hwaiting : (advance dt s).brg.waiting = w :: q) (hfree : freeTag (advance dt s).brg ≠ none)
    (hon : farOff (advance dt s) w.beat.addr.toNat = none) (hwrite : w.beat.attr.extractLsb' 0 4 = 2)
    (hplain : w.beat.attr.getLsbD 9 = false) (hrw : brgRO (advance dt s).brg w.beat.addr.toNat = false)
    (hmem : farRegister w.beat.addr.toNat = false) :
    ∃ t p, execBrgTagFree dt s = .next t ∧ t.brg.waiting = q ∧ t.brg.posted = (advance dt s).brg.posted ++ [p] ∧
      p.addr = w.beat.addr ∧ p.data = w.beat.data ∧ p.be = w.beat.be ∧ p.master = w.master := by
  obtain ⟨tag, htag⟩ := Option.ne_none_iff_exists'.1 hfree
  unfold execBrgTagFree
  simp only [hwaiting, htag]
  generalize hs1 : setBrg _ (advance dt s) = s1
  have hqueues : s1.brg.queues = ((advance dt s).brg.posted, q) := by rw [← hs1]; rfl
  obtain ⟨p, u, hposts, hu, hp⟩ := brgAccess_posts (m := w.master) (b := w.beat) (s := s1) (by rw [← hs1]; exact hon) hwrite
    hplain (by rw [← hs1]; exact hrw) hmem (by rw [← hs1]; exact hfree)
  rw [hqueues] at hu
  obtain ⟨hposted, hrest⟩ := Prod.mk.inj hu
  simp only [hposts]
  refine ⟨_, p, rfl, ?_, ?_, hp⟩
  · rw [deliverAnswer_brg]; exact hrest
  · rw [deliverAnswer_brg]; exact congrArg (· ++ [p]) hposted

theorem brgSemExpired_held {dt : Nat} {n : Fin 16} {s : State} (hheld : (advance dt s).brg.sems[n] ≠ none) :
    ∃ t, execBrgSemExpired dt n s = .next t ∧ t.brg.sems[n] = none ∧
      t.brg.expire = inc16 (advance dt s).brg.expire ∧ Asserted 275 t.ints := by
  obtain ⟨m, hm⟩ := Option.ne_none_iff_exists'.1 hheld
  simp only [execBrgSemExpired, hm]
  exact ⟨_, rfl, by simp [setBrg], by simp [setBrg], raise_asserted _ _ (by decide)⟩

/-- The line is gone. -/
theorem dropLine_lines (l : BrgLine) (s : State) :
    (dropLine l s).brg.lines = s.brg.lines.filter (fun x => !decide (x.base = l.base)) := by
  unfold dropLine
  dsimp only
  split
  · rfl
  · split <;> simp [setBrg]

/-- A line whose words were all read goes without a trace. -/
theorem dropLine_taken {l : BrgLine} (htaken : ∀ w : Fin 16, l.taken.getLsbD w.val = true) (s : State) :
    (dropLine l s).brg.pfCount = s.brg.pfCount := by
  have hleft : (List.range 16).find? (fun w => !l.taken.getLsbD w && brgSE s.brg (l.base + 4 * w)) = none := by
    refine List.find?_eq_none.2 fun w hw => ?_
    simp [htaken ⟨w, List.mem_range.1 hw⟩]
  simp only [dropLine, hleft]
  rfl

/-- A line of side effects none of whose words was read is logged (R377). -/
theorem dropLine_untaken {l : BrgLine} {s : State} (htaken : l.taken = 0) (hside : brgSE s.brg l.base = true) :
    (dropLine l s).brg.pfCount = inc16 s.brg.pfCount ∧ Asserted 273 (dropLine l s).ints := by
  have hleft : (List.range 16).find? (fun w => !l.taken.getLsbD w && brgSE s.brg (l.base + 4 * w)) = some 0 := by
    rw [List.range_eq_range', List.range'_succ, List.find?_cons_of_pos (by simp [htaken, hside])]
  simp only [dropLine, hleft]
  split
  · exact ⟨by simp [setBrg], by rw [record_ints]; exact raise_asserted _ _ (by decide)⟩
  · exact ⟨by simp [setBrg], raise_asserted _ _ (by decide)⟩

theorem postedWriteComplete_late {dt st : Nat} {s : State} {p : Posted} {q : List Posted}
    (hposted : (advance dt s).brg.posted = p :: q) (hroom : (advance dt s).brg.log.length < 16)
    (hst : (farOff (advance dt s) p.addr.toNat ≠ none ∧ st = 3) ∨
      (farOff (advance dt s) p.addr.toNat = none ∧ 0x0300040000 ≤ p.addr.toNat ∧ p.addr.toNat < 0x0300050000 ∧ st = 2)) :
    ∃ t, execPostedWriteComplete dt s = .next t ∧ LateError p q st (advance dt s) t := by
  rcases hst with ⟨hoff, rfl⟩ | ⟨hon, hlo, hhi, rfl⟩
  · exact ⟨_, execPostedWriteComplete_off hposted hoff, lateError hposted (by decide) hroom⟩
  · exact ⟨_, execPostedWriteComplete_refused hposted hon (farWrite_debug hlo hhi _ _ _ _),
      lateError hposted (by decide) hroom⟩

theorem statusCode_le (f : FarStatus) : statusCode f ≤ 4 := by cases f <;> decide

theorem brgPwerr_late {dt : Nat} {s : State} {p : Posted} {q : List Posted} (f : FarStatus)
    (hposted : (advance dt s).brg.posted = p :: q) (hroom : (advance dt s).brg.log.length < 16) :
    ∃ t, execBrgPwerr dt f s = .next t ∧ LateError p q (statusCode f) (advance dt s) t :=
  ⟨_, execBrgPwerr_posted hposted f, lateError hposted (statusCode_le f) hroom⟩

/-- A failure and a timeout of a read are the same bus error. -/
theorem farSideRead_fails {dt : Nat} {s : State} {r : FarRead} {k : Fin 8} {op : LoadOp} {d : Fin 32} {c : Instr}
    (hwaits : WaitsForLoad k op d (advance dt s)) (hforwarded : forwarded (advance dt s) = some r)
    (hmaster : r.master = some k) (hc : c = .farSideReadResponse dt true ∨ c = .farSideReadTimeout dt) :
    ∃ t, exec c s = .next t ∧ BusErrorTaken k r.addr (advance dt s) t := by
  have hfail : BusErrorTaken k r.addr (advance dt s) (farFail r (dropRead r (advance dt s))) :=
    farFail_load (s := dropRead r (advance dt s)) ⟨hwaits.split, hwaits.idle, hwaits.pend⟩ hmaster
  rcases hc with rfl | rfl
  · exact ⟨_, execFarSideReadResponse_failed hforwarded, hfail⟩
  · exact ⟨_, execFarSideReadTimeout_forwarded hforwarded, hfail⟩

/-! ### A command that finds nothing to do -/

theorem execPostedWriteComplete_none {dt : Nat} {s : State} (h : (advance dt s).brg.posted = []) :
    execPostedWriteComplete dt s = .next (advance dt s) := by
  rw [execPostedWriteComplete, h]

theorem execBrgPwerr_none {dt : Nat} {f : FarStatus} {s : State} (h : (advance dt s).brg.posted = []) :
    execBrgPwerr dt f s = .next (advance dt s) := by
  rw [execBrgPwerr, h]

theorem execFarSideReadResponse_none {dt : Nat} {x : Bool} {s : State} (h : forwarded (advance dt s) = none) :
    execFarSideReadResponse dt x s = .next (advance dt s) := by
  simp only [execFarSideReadResponse, h]

theorem execFarSideReadTimeout_none {dt : Nat} {s : State} (h : forwarded (advance dt s) = none) :
    execFarSideReadTimeout dt s = .next (advance dt s) := by
  simp only [execFarSideReadTimeout, h]

theorem execBrgTagFree_none {dt : Nat} {s : State} (h : (advance dt s).brg.waiting = []) :
    execBrgTagFree dt s = .next (advance dt s) := by
  simp only [execBrgTagFree, h]

theorem execBrgSemExpired_none {dt : Nat} {n : Fin 16} {s : State} (h : (advance dt s).brg.sems[n] = none) :
    execBrgSemExpired dt n s = .next (advance dt s) := by
  simp only [execBrgSemExpired, h]

/-- The oldest line buffer goes (R376). -/
theorem execPrefetchExpiry_line {dt : Nat} {s : State} {l : BrgLine} {q : List BrgLine}
    (h : (advance dt s).brg.lines = l :: q) : execPrefetchExpiry dt s = .next (dropLine l (advance dt s)) := by
  rw [execPrefetchExpiry, h]

/-- Settles O46: a command that finds nothing to do lets time pass, and the lemmas above are the others. -/
theorem bridgeCompletesItsAccesses : Obligations.BridgeCompletesItsAccesses := by
  unfold Obligations.BridgeCompletesItsAccesses
  refine ⟨fun s dt f hposted => ⟨execPostedWriteComplete_none hposted, execBrgPwerr_none hposted⟩,
    fun s dt p q hposted => ⟨postedWriteComplete_lands hposted, fun hroom st hst => ?_, fun hroom f => ?_⟩,
    fun s dt x h => ⟨execFarSideReadResponse_none h, execFarSideReadTimeout_none h⟩,
    fun s dt r k op d hforwarded hmaster hsplit hidle hread hpend => ⟨?_, fun c hc => ?_⟩,
    fun s dt => ⟨execBrgTagFree_none, fun w q hwaiting hfree _ => brgTagFree_posts hwaiting hfree⟩,
    fun s dt n => ⟨execBrgSemExpired_none, brgSemExpired_held⟩,
    fun s dt => ⟨fun h => ?_, fun l q hlines => ?_⟩, fun s => ⟨?_, ?_, ?_, ?_, ?_⟩⟩
  · obtain ⟨t, ht, hq, hcount, hmem, hint, e, hlog, hw0, hw1⟩ := postedWriteComplete_late hposted hroom hst
    exact ⟨t, e, ht, hq, hlog, hw0, hw1, hcount, hmem, hint⟩
  · obtain ⟨t, ht, hq, hcount, -, hint, e, hlog, -, hw1⟩ := brgPwerr_late f hposted hroom
    exact ⟨t, e, ht, hq, hlog, by rw [hw1]; cases f <;> rfl, hcount, hint⟩
  · exact farSideRead_value ⟨hsplit, hidle, hpend⟩ hforwarded hmaster hread
  · exact farSideRead_fails ⟨hsplit, hidle, hpend⟩ hforwarded hmaster hc
  · show execPrefetchExpiry dt s = _
    rw [execPrefetchExpiry, h]
  · refine ⟨_, execPrefetchExpiry_line hlines, fun x hx => ?_, fun htaken => dropLine_taken htaken _, dropLine_untaken⟩
    rw [dropLine_lines] at hx
    simpa using (List.mem_filter.1 hx).2
  · intro h
    show execForwardedInterruptEdge .klm s = _
    simp [execForwardedInterruptEdge, h]
  · intro h
    exact ⟨_, if_pos h, raise_asserted _ _ (by decide)⟩
  · exact ⟨_, rfl, raise_asserted _ _ (by decide)⟩
  · exact ⟨_, rfl, raise_asserted _ _ (by decide)⟩
  · exact ⟨_, rfl, raise_asserted _ _ (by decide)⟩

end Sys2Proof.Machine
end

section
/-! PROOFS. O44: a frame in its receive slot in a memory in canonical form (R344), the state that refutes the statement,
and the refutation. -/

namespace Sys2Proof.Machine

open Sys2Proof

/-! ### A frame written to its slot -/

/-- Base of a receive slot of the lanes (R344). -/
def rxBase (slot : Nat) : Nat := lncRx + 0x800 * slot

/-- The number of frames a receive slot has had, after the next. -/
def rxSeq (slot : Nat) (s : State) : Nat := (leNat (vread s (rxBase slot) 4) + 1) % 2 ^ 32

/-- The descriptor of a frame: SEQ, and 28 octets more. -/
theorem rxDescriptor_seq (seq : Nat) (r : RxFrame) (tag : Nat) (s : State) :
    ∃ rest : List Byte, rest.length = 28 ∧ rxDescriptor seq r tag s = leBytes 4 seq ++ rest :=
  ⟨(rxDescriptor seq r tag s).drop 4, by simp [rxDescriptor], by simp [rxDescriptor]⟩

/-- The frame stands behind its descriptor of 32 octets, which begins with SEQ. -/
theorem slotWrite_vmem (r : RxFrame) (s : State) : ∃ rest : List Byte, rest.length = 28 ∧
    (slotWrite r s).vmem = memWrite s.vmem (rxBase r.slot) (leBytes 4 (rxSeq r.slot s) ++ (rest ++ r.octets)) := by
  obtain ⟨rest, hlen, hdesc⟩ := rxDescriptor_seq (rxSeq r.slot s) r (r.vid + 8192 * r.pcp) s
  refine ⟨rest, hlen, ?_⟩
  rw [rxSeq, rxBase] at hdesc ⊢
  simp only [slotWrite, raise_vmem, setLnc_vmem, vwrite_vmem, hdesc, List.append_assoc]

/-- In a voted memory in canonical form SEQ and the frame of a receive slot are read back. -/
theorem slotWrite_reads (r : RxFrame) {s : State} (h : Memory.wf s.vmem = true) :
    leNat (vread (slotWrite r s) (rxBase r.slot) 4) = rxSeq r.slot s ∧
      vread (slotWrite r s) (rxBase r.slot + 32) r.octets.length = r.octets := by
  obtain ⟨rest, hrest, hvmem⟩ := slotWrite_vmem r s
  have hseq := memRead_memWrite_part (rxBase r.slot) [] (leBytes 4 (rxSeq r.slot s)) (rest ++ r.octets) h
  have hdata := memRead_memWrite_part (rxBase r.slot) (leBytes 4 (rxSeq r.slot s) ++ rest) r.octets [] h
  simp only [List.nil_append, List.append_nil, List.append_assoc, List.length_append, List.length_nil, leBytes_length,
    hrest] at hseq hdata
  simp only [vread, hvmem]
  refine ⟨(congrArg leNat hseq).trans ?_, hdata⟩
  rw [leNat_leBytes, rxSeq]
  omega

theorem execReceiveSlotWrite_writes {dt : Nat} {k : Fin 16} {r : RxFrame} {s : State}
    (hfirst : (advance dt s).lnc.rxWait.find? (fun x => decide (x.slot = k.val)) = some r)
    (hlatch : slotLatching k.val (advance dt s) = false) : execReceiveSlotWrite dt k s =
      .next (slotWrite r (setLnc (fun l => { l with rxWait := l.rxWait.erase r }) (advance dt s))) := by
  simp only [execReceiveSlotWrite, hfirst, hlatch, Bool.false_eq_true, if_false]

/-! ### The refutation -/

/-- A frame of one octet, 0, that waits for receive slot 0. -/
def zeroFrame : RxFrame := { slot := 0, port := 0, tagged := false, vid := 1, pcp := 0, ns := 0, octets := [0] }

/-- RUN with that frame waiting; the voted memory is not in canonical form: it lists the first octet of the slot's frame
twice. -/
def frameListedTwice : State :=
  { mod := { state := .run2oo3 }
    lnc := { rxWait := [zeroFrame] }
    vmem := [(rxBase 0 + 32, 255), (rxBase 0 + 32, 255)] }

theorem frameListedTwice_waits :
    (advance 0 frameListedTwice).lnc.rxWait.find? (fun x => decide (x.slot = (0 : Fin 16).val)) = some zeroFrame ∧
    slotLatching (0 : Fin 16).val (advance 0 frameListedTwice) = false := by
  decide +kernel

/-- The octet 0 of the frame takes the first of the two entries away, and the second stays. -/
theorem frameListedTwice_keeps :
    vread (slotWrite zeroFrame
      (setLnc (fun l => { l with rxWait := l.rxWait.erase zeroFrame }) (advance 0 frameListedTwice))) (rxBase 0 + 32) 1 =
      [255] := by
  decide +kernel

/-- Refutes O44. Its clause on RECEIVE_SLOT_WRITE fails in a state whose voted memory is not in canonical form
(`State.memWf`), which the statement does not ask for; with that premise it is `execReceiveSlotWrite_writes` and
`slotWrite_reads`. -/
theorem not_framesCrossTheSwitchAndReachTheLanes : ¬ Obligations.FramesCrossTheSwitchAndReachTheLanes := by
  unfold Obligations.FramesCrossTheSwitchAndReachTheLanes
  intro h
  obtain ⟨-, -, -, hwrite, -⟩ := h
  obtain ⟨hfirst, hlatch⟩ := frameListedTwice_waits
  obtain ⟨-, hstores⟩ := hwrite frameListedTwice 0 0
  obtain ⟨t, ht, -, -, hread, -⟩ := hstores zeroFrame hfirst hlatch
  have hexec := Host.Outcome.next.inj (ht.symm.trans (execReceiveSlotWrite_writes hfirst hlatch))
  rw [hexec] at hread
  have hoctet : ([0] : List Byte) = [255] := hread.symm.trans frameListedTwice_keeps
  exact absurd hoctet (by decide)

end Sys2Proof.Machine
end

section
/-! PROOFS. O47: sessions, requests under their SEQ, the key exchange and USDO transfers (R352-R354, R386-R391). -/

namespace Sys2Proof.Machine

open Sys2Proof

/-! ### The sessions' states -/

theorem setSess_self (i : Fin 6) (f : SessionState → SessionState) (s : State) :
    (setSess i f s).kiln.sessions[i] = f s.kiln.sessions[i] :=
  vmod_self s.kiln.sessions i f

/-- A session's state once its next request has begun. -/
def SessionState.begun (b : Session) (x : SessionState) : SessionState :=
  match b with
  | .gdp _ => { x with seq := (x.seq + 1) % 2 ^ 32, answer := none }
  | .can _ => { x with open_ := true }
  | .node _ => x

/-- A session's state once it has its answer. -/
def SessionState.answered (a : Answer) (x : SessionState) : SessionState :=
  if x.open_ then { x with answer := some a } else x

theorem SessionState.begun_maint (b : Session) (x : SessionState) : (x.begun b).maint = x.maint := by cases b <;> rfl

theorem SessionState.begun_challenge (b : Session) (x : SessionState) : (x.begun b).challenge = x.challenge := by
  cases b <;> rfl

@[simp] theorem SessionState.answered_open (a : Answer) (x : SessionState) : (x.answered a).open_ = x.open_ := by
  unfold SessionState.answered
  split <;> rfl

@[simp] theorem SessionState.answered_maint (a : Answer) (x : SessionState) : (x.answered a).maint = x.maint := by
  unfold SessionState.answered
  split <;> rfl

@[simp] theorem SessionState.answered_seq (a : Answer) (x : SessionState) : (x.answered a).seq = x.seq := by
  unfold SessionState.answered
  split <;> rfl

@[simp] theorem SessionState.answered_challenge (a : Answer) (x : SessionState) :
    (x.answered a).challenge = x.challenge := by
  unfold SessionState.answered
  split <;> rfl

section
variable {b : Session} {i : Fin 6} (hi : sessIdx b = some i)
include hi

theorem nextRequest_setSess (s : State) : nextRequest b s = setSess i (SessionState.begun b) s := by
  cases b with
  | gdp n => cases hi; rfl
  | can c => cases hi; rfl
  | node a => cases hi

theorem reply_setSess (a : Answer) (s : State) :
    reply b a s = setSess i (SessionState.answered a) (replyOnly b a s) := by
  rw [reply, hi]
  rfl

theorem reply_session (a : Answer) (s : State) :
    (reply b a s).kiln.sessions[i] = (s.kiln.sessions[i]).answered a := by
  rw [reply_setSess hi, setSess_self]
  rfl

theorem sessOf_session (s : State) : sessOf b s = s.kiln.sessions[i] := by
  rw [sessOf, hi]

theorem levelUp_begun (s : State) : levelUp b (setSess i (SessionState.begun b) s) = levelUp b s := by
  rw [levelUp, levelUp, sessOf_session hi, sessOf_session hi, setSess_self, SessionState.begun_maint]

end

theorem replyOnly_answered (b : Session) (a : Answer) (s : State) : Answered b (replyOnly b a s) a :=
  assocGet_assocSet_self _ _ _

theorem reply_answered (b : Session) (a : Answer) (s : State) : Answered b (reply b a s) a := by
  unfold reply
  split <;> exact replyOnly_answered b a s

theorem reply_dirty (b : Session) (a : Answer) (s : State) : (reply b a s).kiln.dirty = s.kiln.dirty := by
  unfold reply
  split <;> rfl

theorem reply_key (b : Session) (a : Answer) (s : State) : (reply b a s).kiln.key = s.kiln.key := by
  unfold reply
  split <;> rfl

theorem reply_lastChal (b : Session) (a : Answer) (s : State) : (reply b a s).kiln.lastChal = s.kiln.lastChal := by
  unfold reply
  split <;> rfl

theorem reply_recd (b : Session) (a : Answer) (s : State) : (reply b a s).recd = s.recd := by
  unfold reply
  split <;> rfl

/-! ### Requests served -/

theorem fwErased_of_none {s : State} (h : s.boot.fwWait = none) : fwErased s = s := by
  rw [fwErased, h]

/-- A request of a session that is served gets its answer. -/
theorem serve_answers {b : Session} {i : Fin 6} {s u : State} {f : State → Option Answer × State} {a : Answer}
    (h : Served b s) (hi : sessIdx b = some i) (hf : f (setSess i (SessionState.begun b) s) = (some a, u)) :
    serve b f s = reply b a u := by
  obtain ⟨hwait, hlive, hidle⟩ := h
  have hrequest : answerTo b f (nextRequest b s) = reply b a u := by rw [answerTo, nextRequest_setSess hi, hf]
  rw [← hrequest]
  cases b with
  | gdp n => simp [serve, fwErased_of_none hwait, hlive, hidle n rfl]
  | can c => simp [serve, fwErased_of_none hwait, hlive]
  | node a => simp [serve, fwErased_of_none hwait, hlive]

/-! ### GDP requests under their SEQ (R354) -/

section
variable {h : GdpHead} {s : State} {n : Fin 4} {f : Session → State → Option Answer × State}
  (hwait : s.boot.fwWait = none) (hport : gdpPort h s = true) (hsession : gdpSession h s = some n)
include hwait hport hsession

/-- A request with the last SEQ: the last answer again. -/
theorem gdpServe_repeat {a : Answer} (hseq : 0 < (s.kiln.sessions[n.val]).seq)
    (hsame : h.seq.toNat = (s.kiln.sessions[n.val]).seq) (ha : (s.kiln.sessions[n.val]).answer = some a) :
    gdpServe h f s = replyOnly (.gdp n) a s := by
  simp only [gdpServe, hport, fwErased_of_none hwait, hsession, Bool.true_eq_false, if_false]
  rw [if_pos ⟨hseq, hsame⟩, ha]

/-- A request with neither the last SEQ nor the next. -/
theorem gdpServe_wrong (hlast : h.seq.toNat ≠ (s.kiln.sessions[n.val]).seq)
    (hnext : h.seq.toNat ≠ ((s.kiln.sessions[n.val]).seq + 1) % 2 ^ 32) :
    gdpServe h f s = replyOnly (.gdp n) (.abort 0x05030000) s := by
  simp only [gdpServe, hport, fwErased_of_none hwait, hsession, Bool.true_eq_false, if_false]
  rw [if_neg fun hseq => hlast hseq.2, if_pos (.inl hnext)]

/-- A request with the next SEQ is executed and answered. -/
theorem gdpServe_answers {a : Answer} {u : State} (hnext : h.seq.toNat = ((s.kiln.sessions[n.val]).seq + 1) % 2 ^ 32)
    (hlast : h.seq.toNat ≠ (s.kiln.sessions[n.val]).seq) (hidle : sessBusy s.kiln.sessions[n.val] = false)
    (hf : f (.gdp n) (setSess ⟨n.val, by omega⟩ (SessionState.begun (.gdp n)) s) = (some a, u)) :
    gdpServe h f s = reply (.gdp n) a u := by
  simp only [gdpServe, hport, fwErased_of_none hwait, hsession, Bool.true_eq_false, if_false]
  rw [if_neg fun hseq => hlast hseq.2, if_neg (by simp [hnext, hidle]), answerTo, nextRequest_setSess rfl, hf]

end

/-! ### The checks of a request (R391) -/

/-- That a request has begun bears on none of the checks of a read. -/
theorem readCheck_begun {b : Session} {i : Fin 6} (hi : sessIdx b = some i) (idx sub : Nat) (s : State) :
    readCheck b idx sub (setSess i (SessionState.begun b) s) = readCheck b idx sub s := by
  simp only [readCheck, levelUp_begun hi]
  rfl

theorem writeCheck_begun {b : Session} {i : Fin 6} (hi : sessIdx b = some i) (idx sub : Nat) (d : List Byte) (s : State) :
    writeCheck b idx sub d (setSess i (SessionState.begun b) s) = writeCheck b idx sub d s := by
  simp only [writeCheck, writeAccess, levelUp_begun hi]
  rfl

/-- The boot ROM and the firmware both serve the key exchange (R451). -/
theorem servedEntry_key (s : State) (sub : Nat) : servedEntry s 0x2003 sub = dictEntry 0x2003 sub := by
  simp [servedEntry, romIndices]

theorem dictRead_challenge (b : Session) (s : State) : dictRead b 0x2003 1 0 s = keyChallenge b s := by
  have hcheck : readCheck b 0x2003 1 s = .inl { ty := .octets 12 } := by
    simp only [readCheck, servedEntry_key]
    rfl
  simp only [dictRead, hcheck]
  rfl

theorem writeCheck_response {d : List Byte} (hlen : d.length = 16) (b : Session) (s : State) :
    writeCheck b 0x2003 2 d s = .inl { ty := .octets 16, rd := false, wr := true, openWr := true } := by
  have haccess : writeAccess b 0x2003 2 s = .inl { ty := .octets 16, rd := false, wr := true, openWr := true } := by
    simp only [writeAccess, servedEntry_key]
    rfl
  simp [writeCheck, haccess, valueCheck, hlen, outOfSet, combination, debugEntry]

theorem dictWrite_response {d : List Byte} (hlen : d.length = 16) (b : Session) (s : State) :
    dictWrite b 0x2003 2 d s = keyResponse b d s := by
  simp only [dictWrite, writeCheck_response hlen]
  rfl

theorem writeAccess_key (b : Session) (s : State) : writeAccess b 0x2003 3 s =
    if levelUp b s = false then .inr 0x08000020
    else .inl { ty := .octets 16, rd := false, wr := true, param := true } := by
  have hentry : dictEntry 0x2003 3 = some (some { ty := .octets 16, rd := false, wr := true, param := true }) := rfl
  simp [writeAccess, servedEntry_key, hentry]

theorem dictWrite_key {b : Session} {s : State} {d : List Byte} (hlevel : levelUp b s = true) (hlen : d.length = 16)
    (hkey : leNat d ≠ 0) : dictWrite b 0x2003 3 d s = accepted (keyWrite b d s) := by
  have hcheck : writeCheck b 0x2003 3 d s = .inl { ty := .octets 16, rd := false, wr := true, param := true } := by
    simp [writeCheck, writeAccess_key, hlevel, valueCheck, hlen, outOfSet, hkey, combination, debugEntry]
  simp only [dictWrite, hcheck]
  rfl

theorem dictWrite_key_refused {b : Session} {s : State} (hlevel : levelUp b s = false) (d : List Byte) :
    dictWrite b 0x2003 3 d s = (some (.abort 0x08000020), s) := by
  simp [dictWrite, writeCheck, writeAccess_key, hlevel]

/-! ### The key exchange (R387-R389) -/

section
variable {b : Session} {i : Fin 6} {s : State} (hi : sessIdx b = some i)

theorem keyChallenge_locked (hlocked : keyLocked s = true) :
    keyChallenge b s = (some (.abort 0x08000022), record 0 0x0041 (sessPath b) (sessId b) 3 s) := by
  rw [keyChallenge, if_pos hlocked]

/-- A challenge: the power-cycle count and the FRC. -/
def challengeNow (s : State) : Challenge :=
  { octets := leBytes 4 s.recd.pwrcyc ++ leBytes 8 s.tim.frc.toNat, at_ := s.tim.elapsed }

include hi in
theorem keyChallenge_issued (hfree : keyLocked s = false) (hfresh : s.kiln.lastChal ≠ some s.tim.frc) :
    keyChallenge b s = (some (.done (challengeNow s).octets),
      setSess i (fun x => { x with challenge := some (challengeNow s) })
        (setKiln (fun k => { k with lastChal := some s.tim.frc }) s)) := by
  simp only [keyChallenge, hfree, challenge, if_neg hfresh, hi]
  rfl

/-- The response to a challenge. -/
def responseTo (b : Session) (c : Challenge) (s : State) : List Byte :=
  (sha256 (s.kiln.key ++ c.octets ++ leBytes 4 (sessId b))).take 16

variable {c : Challenge} (hfree : keyLocked s = false) (hc : (sessOf b s).challenge = some c)
  (hage : s.tim.elapsed ≤ c.at_ + tenNs)
include hi hfree hc hage

theorem keyResponse_right : keyResponse b (responseTo b c s) s = (some (.done []),
    record 0 0x0040 (sessPath b) (sessId b) 0 (setSess i (fun x => { x with maint := true })
      (setSess i (fun x => { x with challenge := none }) s))) := by
  simp only [keyResponse, hfree, hc, hi, Int.not_lt.2 hage, responseTo]
  rw [if_neg Bool.false_ne_true, if_neg id, if_neg (not_not.2 rfl)]

theorem keyResponse_wrong {r : List Byte} (hr : r ≠ responseTo b c s) : keyResponse b r s =
    (some (.abort 0x08000020), keyFail b 1 (setSess i (fun x => { x with challenge := none }) s)) := by
  simp only [keyResponse, hfree, hc, hi, Int.not_lt.2 hage]
  rw [if_neg Bool.false_ne_true, if_neg id]
  exact if_pos hr

end

theorem keyFail_sessions (b : Session) (why : Nat) (s : State) :
    (keyFail b why s).kiln.sessions = s.kiln.sessions := by
  unfold keyFail
  dsimp only
  split <;> simp [setKiln]

/-! ### Opening and closing (R354, R386) -/

theorem openGdp_free {n : Fin 4} {s : State} (c : BitVec 32) (hfree : (s.kiln.sessions[n.val]).open_ = false)
    (hfirst : ∀ m : Fin 4, m < n → (s.kiln.sessions[m.val]).open_ = true) :
    openGdp c s = record 7 0x5005 (n.val + 1) 1 c.toNat
      (setKiln (fun k => { k with openAnswer := some (.done (leBytes 2 (n.val + 1))) })
        (setSess ⟨n.val, by omega⟩ (fun _ => { open_ := true, client := c }) s)) := by
  have hfind : (allFin 4).find? (fun m => !(s.kiln.sessions[m.val]).open_) = some n := by
    rw [allFin, ← Fin.find?_eq_find?_finRange, Fin.find?_eq_some_iff]
    exact ⟨by simp [hfree], fun m hm => by simp [hfirst m hm]⟩
  simp only [openGdp, hfind]

theorem openGdp_full {s : State} (c : BitVec 32) (hfull : ∀ m : Fin 4, (s.kiln.sessions[m.val]).open_ = true) :
    openGdp c s = { s with kiln := { s.kiln with openAnswer := some (.abort 0x05040005) } } := by
  have hfind : (allFin 4).find? (fun m => !(s.kiln.sessions[m.val]).open_) = none :=
    List.find?_eq_none.2 fun m _ => by simp [hfull m]
  simp only [openGdp, hfind]
  rfl

theorem closeSession_closed {b : Session} {i : Fin 6} (hi : sessIdx b = some i) (s : State) :
    (closeSession b s).kiln.sessions[i] = closedSession := by
  rw [closeSession, hi]
  exact setSess_self i _ _

theorem execGdpSessionIdleTimeout_closes {dt : Nat} {i : Fin 6} {s : State}
    (hopen : ((advance dt s).kiln.sessions[i]).open_ = true) :
    ∃ t, execGdpSessionIdleTimeout dt i s = .next t ∧ t.kiln.sessions[i] = closedSession := by
  unfold execGdpSessionIdleTimeout
  dsimp only
  rw [if_neg (by rw [hopen]; decide)]
  split
  · exact ⟨_, rfl, closeSession_closed rfl _⟩
  · refine ⟨_, rfl, closeSession_closed ?_ _⟩
    exact congrArg some (Fin.ext (by simp; omega))

/-! ### What an entry reads once the request has begun -/

/-- An entry of 0x1000-0x1FFF does not read the sessions. -/
theorem entryValue_setSess {idx : Nat} (h : idx < 0x2000) (b : Session) (sub : Nat) (i : Fin 6)
    (f : SessionState → SessionState) (s : State) : entryValue b (setSess i f s) idx sub = entryValue b s idx sub := by
  have hvalue : value1 b (setSess i f s) idx sub = value1 b s idx sub := by
    unfold value1
    rw [if_neg (show idx ≠ 0x2000 by omega), if_neg (show idx ≠ 0x2002 by omega), if_neg (show idx ≠ 0x2010 by omega),
      if_neg (show idx ≠ 0x2012 by omega), if_neg (show idx ≠ 0x2000 by omega), if_neg (show idx ≠ 0x2002 by omega),
      if_neg (show idx ≠ 0x2010 by omega), if_neg (show idx ≠ 0x2012 by omega)]
    rfl
  simp only [entryValue, if_pos (show idx < 0x2100 by omega), hvalue]

theorem dictRead_uint {b : Session} {idx sub off w : Nat} {e : DEntry} {s : State} (h : idx < 0x2000)
    (hcheck : readCheck b idx sub s = .inl e) (hty : e.ty = .uint w) :
    dictRead b idx sub off s = (some (.done (leBytes w (entryValue b s idx sub))), s) := by
  simp only [dictRead, hcheck, hty]
  rw [if_neg (by omega), if_neg (by omega), if_neg (by omega), if_neg (by omega), if_neg (by omega), if_neg (by omega)]

theorem dictRead_refused {b : Session} {idx sub off c : Nat} {s : State} (hcheck : readCheck b idx sub s = .inr c) :
    dictRead b idx sub off s = (some (.abort c), s) := by
  simp only [dictRead, hcheck]

theorem dictEntry_of_served {s : State} {idx sub : Nat} {e : DEntry} (h : servedEntry s idx sub = some (some e)) :
    dictEntry idx sub = some (some e) := by
  unfold servedEntry at h
  repeat' (split at h)
  · cases h
  · cases h
  · exact h

/-- A read that passes its checks reads an entry of the dictionary. -/
theorem dictEntry_of_readCheck {b : Session} {idx sub : Nat} {e : DEntry} {s : State}
    (hcheck : readCheck b idx sub s = .inl e) : dictEntry idx sub = some (some e) := by
  have hserved : servedEntry s idx sub = some (some e) := by
    unfold readCheck at hcheck
    split at hcheck
    next => cases hcheck
    next => cases hcheck
    next hentry =>
      repeat' (split at hcheck)
      all_goals cases hcheck
      exact hentry
  exact dictEntry_of_served hserved

theorem gdpSlice_uint {idx sub off w : Nat} {e : DEntry} {r : Option Answer × State}
    (hentry : dictEntry idx sub = some (some e)) (hty : e.ty = .uint w) : gdpSlice idx sub off r = r := by
  obtain ⟨ty, rd, wr, param, safety, openWr, lo, hi, count, dflt⟩ := e
  cases hty
  simp only [gdpSlice, hentry]

theorem gdpSlice_abort (idx sub off c : Nat) (s : State) :
    gdpSlice idx sub off (some (.abort c), s) = (some (.abort c), s) := by
  unfold gdpSlice
  split
  next heq => exact absurd heq (by simp)
  next => rfl

/-- A write that passes its checks writes an entry of the dictionary. -/
theorem dictEntry_of_writeCheck {b : Session} {idx sub : Nat} {d : List Byte} {e : DEntry} {s : State}
    (hcheck : writeCheck b idx sub d s = .inl e) : dictEntry idx sub = some (some e) := by
  have haccess : writeAccess b idx sub s = .inl e := by
    unfold writeCheck at hcheck
    repeat' (split at hcheck)
    all_goals cases hcheck
    assumption
  have hserved : servedEntry s idx sub = some (some e) := by
    unfold writeAccess at haccess
    split at haccess
    next => cases haccess
    next => cases haccess
    next hentry =>
      repeat' (split at haccess)
      all_goals cases haccess
      exact hentry
  exact dictEntry_of_served hserved

theorem dictWrite_heartbeat {b : Session} {d : List Byte} {e : DEntry} {s : State}
    (hcheck : writeCheck b 0x1017 0 d s = .inl e) :
    dictWrite b 0x1017 0 d s = accepted (paramWrite b 0x1017 0 (leNat d) s) := by
  have hentry : pv 2 1000 0 65535 = e := Option.some.inj (Option.some.inj (dictEntry_of_writeCheck hcheck))
  have hplain : e.safety = false := by rw [← hentry]; rfl
  simp only [dictWrite, hcheck, hplain]
  rfl

theorem paramWrite_params (b : Session) (idx sub v : Nat) (s : State) :
    (paramWrite b idx sub v s).kiln.params = assocSet s.kiln.params (idx, sub) v := by
  rw [paramWrite, record_kiln]
  rfl

/-! ### GDP requests (R352-R354) -/

theorem gdp_begun (n : Fin 4) (s : State) :
    (setSess ⟨n.val, by omega⟩ (SessionState.begun (.gdp n)) s).kiln.sessions[n.val] =
      (s.kiln.sessions[n.val]).begun (.gdp n) :=
  setSess_self ⟨n.val, by omega⟩ _ s

theorem gdp_answered (n : Fin 4) (a : Answer) (s : State) :
    (reply (.gdp n) a s).kiln.sessions[n.val] = (s.kiln.sessions[n.val]).answered a :=
  reply_session (b := .gdp n) rfl a s

theorem endGdp_closed (n : Fin 4) (why : Nat) (s : State) : (endGdp n why s).kiln.sessions[n.val] = closedSession :=
  closeSession_closed (b := .gdp n) rfl _

section
variable {h : GdpHead} {s : State} {n : Fin 4} (hwait : s.boot.fwWait = none) (hport : gdpPort h s = true)
  (hsession : gdpSession h s = some n)
include hwait hport hsession

/-- A read, a write and a close with the last SEQ are alike: the last answer again. -/
theorem gdp_repeat (i : BitVec 16) (k : BitVec 8) (o : BitVec 32) (bl : BlockIn) {a : Answer}
    (hseq : 0 < (s.kiln.sessions[n.val]).seq) (hsame : h.seq.toNat = (s.kiln.sessions[n.val]).seq)
    (ha : (s.kiln.sessions[n.val]).answer = some a) :
    execGdpRead h i k o s = .next (replyOnly (.gdp n) a s) ∧ execGdpWrite h i k bl s = .next (replyOnly (.gdp n) a s) ∧
      execGdpClose h s = .next (replyOnly (.gdp n) a s) :=
  ⟨congrArg Host.Outcome.next (gdpServe_repeat hwait hport hsession hseq hsame ha),
    congrArg Host.Outcome.next (gdpServe_repeat hwait hport hsession hseq hsame ha),
    congrArg Host.Outcome.next (gdpServe_repeat hwait hport hsession hseq hsame ha)⟩

theorem gdp_wrong (i : BitVec 16) (k : BitVec 8) (o : BitVec 32) (bl : BlockIn)
    (hlast : h.seq.toNat ≠ (s.kiln.sessions[n.val]).seq)
    (hnext : h.seq.toNat ≠ ((s.kiln.sessions[n.val]).seq + 1) % 2 ^ 32) :
    execGdpRead h i k o s = .next (replyOnly (.gdp n) (.abort 0x05030000) s) ∧
      execGdpWrite h i k bl s = .next (replyOnly (.gdp n) (.abort 0x05030000) s) ∧
      execGdpClose h s = .next (replyOnly (.gdp n) (.abort 0x05030000) s) :=
  ⟨congrArg Host.Outcome.next (gdpServe_wrong hwait hport hsession hlast hnext),
    congrArg Host.Outcome.next (gdpServe_wrong hwait hport hsession hlast hnext),
    congrArg Host.Outcome.next (gdpServe_wrong hwait hport hsession hlast hnext)⟩

variable (hnext : h.seq.toNat = ((s.kiln.sessions[n.val]).seq + 1) % 2 ^ 32)
  (hlast : h.seq.toNat ≠ (s.kiln.sessions[n.val]).seq) (hidle : sessBusy s.kiln.sessions[n.val] = false)
include hnext hlast hidle

theorem gdpRead_value {i : BitVec 16} {k : BitVec 8} (o : BitVec 32) {e : DEntry} {w : Nat}
    (hcheck : readCheck (.gdp n) i.toNat k.toNat s = .inl e) (hty : e.ty = .uint w) (hi : i.toNat < 0x2000) :
    ∃ t, execGdpRead h i k o s = .next t ∧ (t.kiln.sessions[n.val]).seq = h.seq.toNat ∧
      Answered (.gdp n) t (.done (leBytes w (entryValue (.gdp n) s i.toNat k.toNat))) := by
  have hread := dictRead_uint (off := o.toNat) hi ((readCheck_begun (b := .gdp n) rfl _ _ s).trans hcheck) hty
  rw [entryValue_setSess hi] at hread
  refine ⟨_, congrArg Host.Outcome.next (gdpServe_answers hwait hport hsession hnext hlast hidle
    ((gdpSlice_uint (dictEntry_of_readCheck hcheck) hty).trans hread)), ?_, reply_answered _ _ _⟩
  refine (congrArg SessionState.seq (gdp_answered n _ _)).trans ?_
  rw [SessionState.answered_seq, gdp_begun]
  exact hnext.symm

theorem gdpRead_refused {i : BitVec 16} {k : BitVec 8} (o : BitVec 32) {c : Nat}
    (hcheck : readCheck (.gdp n) i.toNat k.toNat s = .inr c) :
    ∃ t, execGdpRead h i k o s = .next t ∧ Answered (.gdp n) t (.abort c) ∧ t.recd = s.recd := by
  have hread := dictRead_refused (off := o.toNat) ((readCheck_begun (b := .gdp n) rfl _ _ s).trans hcheck)
  refine ⟨_, congrArg Host.Outcome.next (gdpServe_answers hwait hport hsession hnext hlast hidle
    ((congrArg _ hread).trans (gdpSlice_abort ..))), reply_answered _ _ _, ?_⟩
  rw [reply_recd]
  rfl

/-- The producer heartbeat time is stored (R392). -/
theorem gdpWrite_heartbeat {bl : BlockIn} {e : DEntry} (hcheck : writeCheck (.gdp n) 0x1017 0 bl.data s = .inl e) :
    ∃ t, execGdpWrite h 0x1017 0 bl s = .next t ∧ Answered (.gdp n) t (.done []) ∧
      stored t 0x1017 0 = leNat bl.data ∧ t.kiln.dirty = true := by
  have hwrite := dictWrite_heartbeat ((writeCheck_begun (b := .gdp n) rfl _ _ _ s).trans hcheck)
  refine ⟨_, congrArg Host.Outcome.next (gdpServe_answers hwait hport hsession hnext hlast hidle hwrite),
    reply_answered _ _ _, ?_, ?_⟩
  · rw [stored, reply_params, paramWrite_params, assocGet_assocSet_self]
    rfl
  · rw [reply_dirty, paramWrite, record_kiln]
    rfl

theorem gdpClose_closes : ∃ t, execGdpClose h s = .next t ∧ (t.kiln.sessions[n.val]).open_ = false ∧
    (t.kiln.sessions[n.val]).maint = false ∧ Answered (.gdp n) t (.done []) := by
  refine ⟨_, congrArg Host.Outcome.next (gdpServe_answers hwait hport hsession hnext hlast hidle rfl), ?_, ?_,
    reply_answered _ _ _⟩
  · refine (congrArg SessionState.open_ (gdp_answered n _ _)).trans ?_
    rw [SessionState.answered_open, endGdp_closed]
    rfl
  · refine (congrArg SessionState.maint (gdp_answered n _ _)).trans ?_
    rw [SessionState.answered_maint, endGdp_closed]
    rfl

end

/-! ### The key exchange, as a session asks for it -/

theorem challenge_begun {b : Session} {i : Fin 6} {s : State} {c : Challenge} (hi : sessIdx b = some i)
    (hc : (sessOf b s).challenge = some c) : (sessOf b (setSess i (SessionState.begun b) s)).challenge = some c := by
  rw [sessOf_session hi, setSess_self, SessionState.begun_challenge, ← sessOf_session hi]
  exact hc

section
variable {b : Session} {i : Fin 6} {s : State} (hserved : Served b s) (hi : sessIdx b = some i)
include hserved hi

theorem keyxChallenge_locked (hlocked : keyLocked s = true) :
    ∃ t, execKeyxChallenge b s = .next t ∧ Answered b t (.abort 0x08000022) ∧
      t.recd = (record 0 0x0041 (sessPath b) (sessId b) 3 s).recd := by
  refine ⟨_, congrArg Host.Outcome.next (serve_answers hserved hi
    ((dictRead_challenge b _).trans (keyChallenge_locked hlocked))), reply_answered _ _ _, ?_⟩
  rw [reply_recd, record_recd, record_recd]
  rfl

theorem keyxChallenge_issued (hfree : keyLocked s = false) (hfresh : s.kiln.lastChal ≠ some s.tim.frc) :
    ∃ t, execKeyxChallenge b s = .next t ∧ t.kiln.lastChal = some s.tim.frc ∧
      Answered b t (.done (leBytes 4 s.recd.pwrcyc ++ leBytes 8 s.tim.frc.toNat)) ∧
      (t.kiln.sessions[i]).challenge =
        some { octets := leBytes 4 s.recd.pwrcyc ++ leBytes 8 s.tim.frc.toNat, at_ := s.tim.elapsed } := by
  refine ⟨_, congrArg Host.Outcome.next (serve_answers hserved hi
    ((dictRead_challenge b _).trans (keyChallenge_issued hi hfree hfresh))), ?_, reply_answered _ _ _, ?_⟩
  · rw [reply_lastChal]
    rfl
  · rw [reply_session hi, SessionState.answered_challenge, setSess_self]
    rfl

section
variable {c : Challenge} (hfree : keyLocked s = false) (hc : (sessOf b s).challenge = some c)
  (hage : s.tim.elapsed ≤ c.at_ + tenNs)
include hfree hc hage

theorem keyxResponse_right (hlen : (responseTo b c s).length = 16) :
    ∃ t, execKeyxResponse b (responseTo b c s) s = .next t ∧ Answered b t (.done []) ∧
      (t.kiln.sessions[i]).maint = true ∧ (t.kiln.sessions[i]).challenge = none := by
  refine ⟨_, congrArg Host.Outcome.next (serve_answers hserved hi ((dictWrite_response hlen b _).trans
    (keyResponse_right hi hfree (challenge_begun hi hc) hage))), reply_answered _ _ _, ?_, ?_⟩
  · rw [reply_session hi, SessionState.answered_maint, record_kiln, setSess_self]
  · rw [reply_session hi, SessionState.answered_challenge, record_kiln, setSess_self, setSess_self]

theorem keyxResponse_wrong {r : List Byte} (hlen : r.length = 16) (hr : r ≠ responseTo b c s) :
    ∃ t, execKeyxResponse b r s = .next t ∧ Answered b t (.abort 0x08000020) ∧
      (t.kiln.sessions[i]).maint = (s.kiln.sessions[i]).maint ∧ (t.kiln.sessions[i]).challenge = none := by
  have hwrong := keyResponse_wrong (s := setSess i (SessionState.begun b) s) hi hfree (challenge_begun hi hc) hage hr
  refine ⟨_, congrArg Host.Outcome.next (serve_answers hserved hi ((dictWrite_response hlen b _).trans hwrong)),
    reply_answered _ _ _, ?_, ?_⟩
  · rw [reply_session hi, SessionState.answered_maint, keyFail_sessions, setSess_self, setSess_self]
    exact SessionState.begun_maint b _
  · rw [reply_session hi, SessionState.answered_challenge, keyFail_sessions, setSess_self]

end

theorem maintenanceKeyWrite_stores {key : List Byte} (hlevel : levelUp b s = true) (hlen : key.length = 16)
    (hkey : leNat key ≠ 0) :
    ∃ t, execMaintenanceKeyWrite b key s = .next t ∧ t.kiln.key = key ∧ Answered b t (.done []) := by
  refine ⟨_, congrArg Host.Outcome.next (serve_answers hserved hi
    (dictWrite_key ((levelUp_begun hi s).trans hlevel) hlen hkey)), ?_, reply_answered _ _ _⟩
  rw [reply_key, keyWrite, record_kiln]
  rfl

theorem maintenanceKeyWrite_refused (key : List Byte) (hlevel : levelUp b s = false) :
    ∃ t, execMaintenanceKeyWrite b key s = .next t ∧ t.kiln.key = s.kiln.key ∧
      Answered b t (.abort 0x08000020) := by
  refine ⟨_, congrArg Host.Outcome.next (serve_answers hserved hi
    (dictWrite_key_refused ((levelUp_begun hi s).trans hlevel) key)), ?_, reply_answered _ _ _⟩
  rw [reply_key]
  rfl

end

/-! ### USDO transfers (R390) -/

theorem usdoTransfer_unknown {c : Fin 2} {s : State} (hserved : Served (.can c) s) :
    ∃ t, execUsdoTransfer c .unknown s = .next t ∧ Answered (.can c) t (.abort 0x05040001) ∧
      (t.kiln.sessions[4 + c.val]).open_ = true := by
  refine ⟨_, congrArg Host.Outcome.next (serve_answers hserved rfl rfl), reply_answered _ _ _, ?_⟩
  have hsession := reply_session (b := .can c) rfl (.abort 0x05040001)
    (setSess ⟨4 + c.val, by omega⟩ (SessionState.begun (.can c)) s)
  refine (congrArg SessionState.open_ hsession).trans ?_
  rw [SessionState.answered_open, setSess_self]
  rfl

/-! ### The statement -/

theorem execGdpOpen_off {h : GdpHead} {s : State} (c : BitVec 32) (hport : gdpPort h s = false) :
    execGdpOpen h c s = .next s := by
  simp [execGdpOpen, hport]

theorem execGdpOpen_opens {h : GdpHead} {s : State} (c : BitVec 32) (hwait : s.boot.fwWait = none)
    (hport : gdpPort h s = true) (hnew : h.session = 0) : execGdpOpen h c s = .next (openGdp c s) := by
  rw [execGdpOpen, if_pos ⟨hport, hnew⟩, fwErased_of_none hwait]

/-- Settles O47: GDP requests under their SEQ, the key exchange, and USDO transfers, each by the lemma of its command. -/
theorem sessionsKeysAndTransfers : Obligations.SessionsKeysAndTransfers := by
  unfold Obligations.SessionsKeysAndTransfers
  refine ⟨fun s h c hwait => ⟨execGdpOpen_off c, fun hport hnew => ⟨fun n hfree hfirst => ?_, fun hfull => ?_⟩⟩,
    fun s h n i k o bl hwait hport hsession => ⟨fun a hseq hsame ha => ?_, fun hlast hnext => ?_,
      fun hnext hlast hidle => ⟨fun e w hcheck hty hi => ?_, fun c hcheck => ?_, fun e hcheck => ?_, ?_⟩⟩,
    fun s dt i => ⟨fun hclosed => ?_, fun hopen => ?_⟩,
    fun s b i hserved hi => ⟨keyxChallenge_locked hserved hi, keyxChallenge_issued hserved hi,
      fun c r hfree hc hage hlen => ⟨?_, keyxResponse_wrong hserved hi hfree hc hage hlen⟩,
      fun key => maintenanceKeyWrite_stores hserved hi, maintenanceKeyWrite_refused hserved hi⟩,
    fun s dt => ⟨fun hlocked => ?_, fun hfree => ?_⟩, fun s c => usdoTransfer_unknown,
    fun s dt c => ⟨fun hoff => ?_, fun hon => ?_⟩⟩
  · refine ⟨_, (execGdpOpen_opens c hwait hport hnew).trans (congrArg _ (openGdp_free c hfree hfirst)), ?_⟩
    have hsession : (record 7 0x5005 (n.val + 1) 1 c.toNat
        (setKiln (fun k => { k with openAnswer := some (.done (leBytes 2 (n.val + 1))) })
          (setSess ⟨n.val, by omega⟩ (fun _ => { open_ := true, client := c }) s))).kiln.sessions[n.val] =
        { open_ := true, client := c } := by
      rw [record_kiln]
      exact setSess_self ⟨n.val, by omega⟩ _ s
    rw [hsession, record_kiln]
    exact ⟨rfl, rfl, rfl, rfl⟩
  · exact (execGdpOpen_opens c hwait hport hnew).trans (congrArg _ (openGdp_full c hfull))
  · obtain ⟨hread, hwrite, hclose⟩ := gdp_repeat hwait hport hsession i k o bl hseq hsame ha
    exact ⟨_, hread, hwrite, hclose, replyOnly_answered _ _ _, rfl, rfl⟩
  · obtain ⟨hread, hwrite, hclose⟩ := gdp_wrong hwait hport hsession i k o bl hlast hnext
    exact ⟨_, hread, hwrite, hclose, replyOnly_answered _ _ _, rfl, rfl⟩
  · exact gdpRead_value hwait hport hsession hnext hlast hidle o hcheck hty hi
  · exact gdpRead_refused hwait hport hsession hnext hlast hidle o hcheck
  · exact gdpWrite_heartbeat hwait hport hsession hnext hlast hidle hcheck
  · exact gdpClose_closes hwait hport hsession hnext hlast hidle
  · exact if_pos hclosed
  · obtain ⟨t, ht, hsession⟩ := execGdpSessionIdleTimeout_closes hopen
    exact ⟨t, ht, by rw [hsession]; rfl, by rw [hsession]; rfl⟩
  · rintro rfl
    exact keyxResponse_right hserved hi hfree hc hage hlen
  · exact if_pos hlocked
  · exact if_neg (by rw [hfree]; decide)
  · exact if_neg (by rw [hoff]; decide)
  · exact ⟨_, if_pos hon, reply_answered _ _ _⟩

end Sys2Proof.Machine
end
